-- ==== Sys2Proof/Word.lean ====
section
/-! DEFINITION. Word and table types of the model of the Ceularov T9. -/

namespace Sys2Proof

/-- A register of the part (R6: all registers are 32 bits wide). -/
abbrev Word := BitVec 32

/-- A byte of the on-chip memory or of a record. -/
abbrev Byte := BitVec 8

/-- A table of many like things, held sparsely: keys strictly rising, and no entry equal to the
value an unlisted key has. The operations that keep this form stand in Machine/Ops.lean. -/
abbrev Tbl (α : Type) := List (Nat × α)

end Sys2Proof
end

