-- ==== Sys2Proof/Syntax.lean ====
section
/-! DEFINITION. The commands of the block: one constructor per row of spec/opcode_table.json, in
the table's order, with the operands the row's rule gives the write, the event or the frame. A
command that is a step of the part's own (a commit tick, an action at its time, a microword)
names the unit that takes it; what it does is in the state. -/

namespace Sys2Proof

/-- An action entry (R78), as a frame or a copy carries it. -/
structure ActionEntry where
  time : Nat
  late : Nat
  log : Bool
  sealed : Bool
  op : Nat
  sub : Nat
  arg : Nat
  deriving DecidableEq, Repr

/-- One record of a launch block (R235): member, ALT, LQ and the action entry, whose time is an
offset from T. -/
structure LaunchRec where
  member : Nat
  hold : Bool
  lq : Nat
  act : ActionEntry
  deriving DecidableEq, Repr

/-- Where a copy of an action came from: a queue's entry or a context's near-path port (R89). -/
inductive CopyOrigin where
  | queue (q idx : Nat)
  | near (ctx port : Nat)
  deriving DecidableEq, Repr

/-- A request to a BAR: a read or write of a number of bytes, or an AtomicOp (R246, R248); `jtag` is a 32-bit access of the JTAG
debug access, which comes over no link and reaches the DBG page (R338). -/
inductive ReqKind where
  | bytes (n : Nat)
  | atomic
  | jtag
  deriving DecidableEq, Repr

/-- A BAR0 request: its offset, and how it comes (R248). -/
structure Bar0Ref where
  addr : Nat
  kind : ReqKind
  deriving DecidableEq, Repr

/-- An aligned 32-bit access at a BAR0 offset. -/
abbrev dword (a : Nat) : Bar0Ref := { addr := a, kind := .bytes 4 }

/-- A write of MSI-X state: a vector's Mask, or MSI-X Enable and Function Mask, each as written (R282). -/
inductive MsixWrite where
  | vector (masked : Bool)
  | control (enable fmask : Option Bool)
  deriving DecidableEq, Repr

/-- What a configuration write holds beside the enables: 1 written to PME_Status (R283), and ASPM L1 of the link, which the idle
link enters where it is enabled and leaves where it is disabled (R246, R283, R328). -/
structure ConfigMore where
  pmeClear : Bool := false
  l1 : Option Bool := none
  deriving DecidableEq, Repr

/-- What a transmit opportunity brings a frame: it is sent, it collides, or it misses the opportunity (R226, R241). -/
inductive TxOutcome where
  | sent
  | collided
  | missed
  deriving DecidableEq, Repr

/-- The header of a Nelvi frame (R230), with the port it arrived on, whether its source MAC belongs to the configured
ensemble (R226), and the port's stamp of a DME transition of the frame (R228). -/
structure NelviHeader where
  port : Nat
  ver : Nat
  sender : Nat
  strobe : Bool
  term : Nat
  ensemble : Nat
  seq : Nat
  macOk : Bool
  stamp : Nat
  deriving DecidableEq, Repr

/-- Where a pdelay frame of gPTP comes from: the port it arrived on and the member that sent it (R227). -/
structure GptpHeader where
  port : Nat
  sender : Nat
  deriving DecidableEq, Repr

/-- An image as it is read (R343, R344): whether the read completed, its bytes, and what the two cryptographic checks give: the
hash of KEY equals that in OTP, and the signature is valid. -/
structure ImageInfo where
  readOk : Bool := true
  bytes : List Nat := []
  keyOk : Bool := true
  sigOk : Bool := true
  deriving DecidableEq, Repr

/-- What the release of SYS_RST_N finds (R316, R339, R340, R344, R345): the straps, whether the core supplies are in range, and, of
the boot that follows, the SRAM rows that fail the built-in self-test, the steward cores that fail theirs (a mask) and the flash
slots that cannot be read (a mask). -/
structure ResetRelease where
  straps : Nat := 0
  inRange : Bool := true
  badRows : List Nat := []
  badCores : Nat := 0
  badFlash : Nat := 0
  deriving DecidableEq, Repr

/-- A bank supply that has left its range: its sleeve and its level in millivolts (R48, R367, R370). -/
structure BankDrop where
  sleeve : Nat
  millivolts : Nat
  deriving DecidableEq, Repr

/-- A byte written over SMBus, with the 7-bit address it is sent to (R334). -/
structure SmbWrite where
  addr : Nat
  value : Nat
  deriving DecidableEq, Repr

/-- A command of the block. -/
inductive Instr where
  /-- REGISTER_WRITE (R10). A write through the normal, SET, CLEAR or SHADOW view to a register that has no row of its own updates RW fields at once and RWS fields in the shadow. -/
  | registerWrite (fn : Nat) (addr : Bar0Ref) (value : Nat)
  /-- UNMAPPED_ACCESS (R12). An access to an unoccupied BAR0 offset reads 0 or is ignored, and sets PG_ERR.UNMAPPED and PG_ERR_ADDR on the GLB page. -/
  | unmappedAccess (fn : Nat) (addr : Nat) (write : Bool)
  /-- READ_CLEAR (R11). A normal-view read of an RC field returns the value and clears it. -/
  | readClear (fn : Nat) (addr : Bar0Ref)
  /-- PG_STAGE_COMMIT (R17). Writing PG_STAGE.COMMIT arms an immediate commit of the page's shadow. -/
  | pgStageCommit (page : Nat) (value : Nat)
  /-- PG_STAGE_ARM (R18). Writing PG_STAGE.ARM arms a timed commit at PG_COMMIT_TIME, or refuses it when the time is too near. -/
  | pgStageArm (page : Nat) (value : Nat)
  /-- PG_STAGE_DISARM (R18). Writing PG_STAGE.DISARM cancels an armed commit when this is allowed, and keeps the shadow. -/
  | pgStageDisarm (page : Nat) (value : Nat)
  /-- PG_STAGE_DISCARD (R17). Writing PG_STAGE.DISCARD reloads the shadow from the values in effect. -/
  | pgStageDiscard (page : Nat) (value : Nat)
  /-- COMMIT_TICK (R17). An armed page commit copies every RWS field into effect on one tick and increments PG_SEQ. -/
  | commitTick (page : Nat)
  /-- CFG_GADD (R22). Writing CFG_GADD adds a page to the selected commit group, or refuses the addition. -/
  | cfgGadd (page : Nat)
  /-- CFG_GREMOVE (R22). Writing CFG_GREMOVE removes a page from the selected commit group, or refuses the removal. -/
  | cfgGremove (page : Nat)
  /-- CFG_GCTRL_COMMIT (R21). Writing CFG_GCTRL.COMMIT checks the group and arms an immediate commit of every member. -/
  | cfgGctrlCommit (value : Nat)
  /-- CFG_GCTRL_ARM (R21). Writing CFG_GCTRL.ARM arms a group commit at CFG_GTIME, or refuses it. -/
  | cfgGctrlArm (value : Nat)
  /-- CFG_GCTRL_DISARM (R21). Writing CFG_GCTRL.DISARM cancels an armed group commit under the 96-tick rule. -/
  | cfgGctrlDisarm (value : Nat)
  /-- CFG_GCTRL_CLEAR (R22). Writing CFG_GCTRL.CLEAR removes every member of the selected group unless the group is armed. -/
  | cfgGctrlClear (value : Nat)
  /-- GROUP_COMMIT_TICK (R21). An armed group commit applies every member's shadow on one tick, or refuses it as CFG_TOO_LARGE. -/
  | groupCommitTick (group : Nat)
  /-- CFG_HS_CTRL_ARM (R24). Writing CFG_HS_CTRL.ARM checks a hold-and-swap completely and arms it, or refuses it with a code. -/
  | cfgHsCtrlArm (value : Nat)
  /-- CFG_HS_CTRL_CANCEL (R387). Writing CFG_HS_CTRL.CANCEL before the hold time cancels the armed hold-and-swap. -/
  | cfgHsCtrlCancel (value : Nat)
  /-- HOLD_START (R23). At the hold time, the cuffs of the selected sleeves hold their outputs and take nothing from their near FIFOs. -/
  | holdStart
  /-- HOLD_GROUP_COMMIT (R23). At hold time + 64·i ticks, the i-th selected group commits. -/
  | holdGroupCommit
  /-- HOLD_RELEASE (R23). At the release time, any outstanding commits are taken and all held cuffs resume together. -/
  | holdRelease
  /-- TIME_BASE_RELOAD (R25). An advance past TB_RELOAD wraps the count, increments TB_EPOCH and reduces periodic offsets. -/
  | timeBaseReload
  /-- TRIM_CRUMB (R33). The trim accumulator passes a whole crumb, and that tick advances by 17 or 15 crumbs. -/
  | trimCrumb
  /-- SLEW_CRUMB (R34). Every TB_SLEW.DIV ticks, one crumb of the step remainder is applied, and TB_SLEW_DONE is raised when the remainder reaches 0. -/
  | slewCrumb
  /-- TB_CTRL_SNAP (R31). Writing TB_CTRL.SNAP copies TB_NOW and TB_EPOCH into the snapshot registers. -/
  | tbCtrlSnap (value : Nat)
  /-- TB_CTRL_LOAD (R35). Writing TB_CTRL.LOAD sets the time base to TB_LOAD and clears the step remainder, or refuses the load. -/
  | tbCtrlLoad (value : Nat)
  /-- TB_CTRL_VALIDATE (R35). Writing TB_CTRL.VALIDATE sets TB_STATUS.VALID when the reference is present and the PLL is locked. -/
  | tbCtrlValidate (value : Nat)
  /-- TB_RELOAD_WRITE (R26). A write of TB_RELOAD_H in PROVISION sets a new reload value, or is refused with RELOAD_REFUSED. -/
  | tbReloadWrite (view : Nat) (value : Nat)
  /-- TB_TRIM_WRITE (R33). A write of TB_TRIM sets the frequency correction from the next tick on. -/
  | tbTrimWrite (view : Nat) (value : Nat)
  /-- TB_STEP_WRITE (R34). A write of TB_STEP adds a signed count to the step remainder, or is refused with STEP_OVERFLOW. -/
  | tbStepWrite (value : Nat)
  /-- TB_GCTRL_GO (R39). Writing TB_GCTRL.GO releases every selected periodic cuff on one tick. -/
  | tbGctrlGo (value : Nat)
  /-- TB_GCTRL_ARM (R39). Writing TB_GCTRL.ARM arms a global start at TB_GSTART, or refuses it with GSTART_LATE. -/
  | tbGctrlArm (value : Nat)
  /-- TB_GCTRL_DISARM (R39). Writing TB_GCTRL.DISARM cancels an armed global start under R18. -/
  | tbGctrlDisarm (value : Nat)
  /-- GLOBAL_START (R39). At TB_GSTART, the selected cuffs take the release tick as their offset, and skipped cuffs are counted. -/
  | globalStart
  /-- REFERENCE_LOST (R43). When no reference edge arrives for 240 ticks, TB_STATUS.LOST is set, VALID is cleared and TB_LOST is raised. -/
  | referenceLost
  /-- REFERENCE_RETURN (R44). Reference edges return and the PLL starts to relock. -/
  | referenceReturn
  /-- PLL_LOCK (R314). The PLL achieves lock; in BOOT the time base starts and VALID is set. -/
  | pllLock
  /-- PLL_UNLOCK (R314). Loss of PLL lock with the reference present sets CLK_STATUS.UNLOCK, clears VALID and enters SAFE. -/
  | pllUnlock
  /-- SET_HIGH (R51). Action 0x01 drives the cuff high at T. -/
  | setHigh (cuff : Nat)
  /-- SET_LOW (R51). Action 0x02 drives the cuff low at T. -/
  | setLow (cuff : Nat)
  /-- TOGGLE (R51). Action 0x03 drives the opposite of the present level at T. -/
  | toggle (cuff : Nat)
  /-- HIZ (R51). Action 0x04 turns the output stage off at T. -/
  | hiz (cuff : Nat)
  /-- PULSE (R51). Action 0x05 drives active at T and inactive at T + width. -/
  | pulse (cuff : Nat)
  /-- TRAIN (R51). Action 0x06 makes count pulses of the given width and spacing from T. -/
  | train (cuff : Nat)
  /-- PERIOD (R55). Action 0x07 puts the cuff, or leg A of a pair, in periodic mode at T with offset T. -/
  | period (cuff : Nat)
  /-- CAP_ARM (R51). Action 0x08 arms capture for edges stamped at or after T, with an optional window. -/
  | capArm (cuff : Nat)
  /-- CAP_DISARM (R51). Action 0x09 disarms capture for edges stamped at or after T. -/
  | capDisarm (cuff : Nat)
  /-- CAP_WINDOW_END (R80). At T + window of a CAP_ARM, capture is disarmed. -/
  | capWindowEnd (cuff : Nat)
  /-- PAIR_SET (R64). Action 0x11 sets a pair's state, with dead time between legs. -/
  | pairSet (pair : Nat)
  /-- PAIR_REARM (R70). Action 0x12 re-arms a tripped pair, or refuses the re-arm. -/
  | pairRearm (pair : Nat)
  /-- APRON_SET (R51). Action 0x13 sets the Apron level at T, in effect and in the shadow, subject to R73. -/
  | apronSet (cuff : Nat)
  /-- NOP (R80). Action 0x00 retires at the scheduler at T, and is never late. -/
  | nop (queue : Nat)
  /-- SEAM (R97). Action 0x0A arrives at a seam barrier and puts its queue in seam wait. -/
  | seam (queue : Nat)
  /-- WAKE (R158). Action 0x0B writes the context's wake words at T and sends its event flag as an external source. -/
  | wake (ctx : Nat)
  /-- PIO_START (R192). Action 0x0C starts or restarts a PIO engine at T from the given address. -/
  | pioStart (engine : Nat)
  /-- PIO_DATA (R192). Action 0x0D pushes a word into a PIO engine's transmit FIFO at T. -/
  | pioData (engine : Nat)
  /-- PIO_DATA_LATE_PUSH (R192). Under the execute policy, a PIO_DATA word that met a full FIFO is pushed when room appears. -/
  | pioDataLatePush (engine : Nat)
  /-- FBK_LATCH (R215). Action 0x0E latches position and speed at T, or places an SSI request at T. -/
  | fbkLatch (port : Nat)
  /-- MARK (R80). Action 0x0F writes a mark record with its tag to the queue's log queue at T. -/
  | mark (ttype : Nat) (target : Nat)
  /-- IRQ (R80). Action 0x10 raises action interrupt source ARG[3:0] of the queue's tenant at T. -/
  | irq (ttype : Nat) (target : Nat)
  /-- PERIODIC_PHASE (R54). A periodic cuff reaches phase 0 or phase W and switches its output. -/
  | periodicPhase (cuff : Nat)
  /-- PAD_TRANSITION (R56). The pad level of a cuff changes, and the glitch filter starts its stable interval. -/
  | padTransition (cuff : Nat) (level : Bool) (crumb : Nat)
  /-- EDGE_STAMP (R58). The filtered edge is accepted and stamped to CAPR or CAPF with SEQ and CNT, and feeds the mark latch. -/
  | edgeStamp (cuff : Nat)
  /-- CAPTURE_RECORD_WRITE (R60). The sleeve buffer drains a capture record to the log queue, or discards it with LOG_DROP. -/
  | captureRecordWrite (sleeve : Nat)
  /-- CUF_CAPCFG_ARM (R385). Writing CUF_CAPCFG.ARM arms capture now. -/
  | cufCapcfgArm (cuff : Nat) (value : Nat)
  /-- CUF_CAPCFG_DISARM (R385). Writing CUF_CAPCFG.DISARM disarms capture now. -/
  | cufCapcfgDisarm (cuff : Nat) (value : Nat)
  /-- TWIN_CALIBRATION (R62). The steward completes calibration of the idle delay-line twin. -/
  | twinCalibration (cuff : Nat)
  /-- TWIN_SWAP (R62). On an idle tick after calibration, the cuff swaps its twins. -/
  | twinSwap (cuff : Nat)
  /-- CAL_DEFERRED (R62). When no idle tick comes within 1 ms, CUF_CAL.DEFERRED is set. -/
  | calDeferred (cuff : Nat)
  /-- CAL_FAIL (R62). When the swap is still deferred after 2 ms, PG_ERR.CAL_FAIL is set on the sleeve page. -/
  | calFail (cuff : Nat)
  /-- SKEW_APPLY (R63). A committed CUF_SKEW takes effect on the first idle tick after the commit. -/
  | skewApply (cuff : Nat)
  /-- GUARD_ASSERT (R66). An enabled guard input asserts and trips the pair, or is latched as pending in blanking. -/
  | guardAssert (sleeve : Nat) (guard : Nat)
  /-- BLANKING_END (R68). When blanking ends, a pending guard is examined again and trips the pair or clears. -/
  | blankingEnd (pair : Nat)
  /-- SLV_REARM_PAIRS (R70). Writing SLV_REARM.PAIRS, qualified by BRIDGE, re-arms the selected tripped pairs or refuses the re-arm. -/
  | slvRearmPairs (sleeve : Nat) (value : Nat)
  /-- SLV_REARM_ALL (R48). Writing SLV_REARM.ALL releases the sleeve's cuffs from a bank-fault Apron, or is refused while BANK_OK is 0. -/
  | slvRearmAll (sleeve : Nat) (value : Nat)
  /-- BANK_FAULT (R48). A bank supply leaves its range, clearing BANK_OK and driving the sleeve's cuffs to Apron. -/
  | bankFault (bank : BankDrop)
  /-- BANK_OK_RETURN (R365). A bank supply returns to range, BANK_OK rises and the bank class is sensed again. -/
  | bankOkReturn (sleeve : Nat) (millivolts : Nat)
  /-- SAFE_N (R74). Assertion of SAFE_N drives every cuff to Apron through the clockless path and asserts SAFE_OUT_N. -/
  | safeN
  /-- SAFE_N_RELEASE (R323). Release of SAFE_N clears the pin condition and SAFE_OUT_N follows R323. -/
  | safeNRelease
  /-- DOORBELL (R85). A write of TEN_QDB to a submit queue checks the doorbell and each new entry, and accepts entries up to the first refusal. -/
  | doorbell (fn : Nat) (queue : Nat) (index : Nat)
  /-- LOG_QUEUE_CONSUME (R88). A write of TEN_QDB to a log queue moves its HEAD, or is refused with QUEUE_FULL. -/
  | logQueueConsume (fn : Nat) (queue : Nat) (index : Nat)
  /-- QUEUE_STAGE_MOVE (R90). The action at HEAD moves into the wheel once it is within the horizon and the queue holds a credit. -/
  | queueStageMove (queue : Nat)
  /-- WHEEL_L1_MOVE (R91). An L1 slot is moved into L0 while the slot before it runs. -/
  | wheelL1Move (slot : Nat)
  /-- SLOT_TRANSFER (R92). When an L0 slot is DLEAD ticks ahead, its actions go to their targets' ready chains in order. -/
  | slotTransfer (slot : Nat) (bad : Option Nat)
  /-- FIFO_DELIVERY (R92). A ready chain feeds its next action into the target FIFO when the FIFO has room. -/
  | fifoDelivery (ttype : Nat) (target : Nat) (parity : Bool)
  /-- SEAM_RELEASE (R97). When all members have arrived and the seam time has come, every member is released on one tick. -/
  | seamRelease (id : Nat)
  /-- SEAM_TIMEOUT (R98). The first arrival's seam timeout expires and every arrived member stops with STALL. -/
  | seamTimeout (id : Nat)
  /-- QM_QCTRL_STOP (R99). Writing QM_QCTRL.STOP halts the selected queue's queue stage. -/
  | qmQctrlStop (value : Nat)
  /-- QM_QCTRL_RESUME (R99). Writing QM_QCTRL.RESUME sets ERR to OK and the state to run. -/
  | qmQctrlResume (value : Nat)
  /-- QM_QCTRL_FLUSH (R100). Writing QM_QCTRL.FLUSH withdraws and rewrites the queue's unsealed pending work. -/
  | qmQctrlFlush (value : Nat)
  /-- QM_QCTRL_REFRESH (R104). Writing QM_QCTRL.REFRESH takes a new snapshot of the selected descriptor. -/
  | qmQctrlRefresh (value : Nat)
  /-- FLUSH_END (R100). A flush completes, and any held doorbell is checked. -/
  | flushEnd (queue : Nat)
  /-- QM_QSEL (R104). A write of QM_QSEL snapshots the named descriptor into QM_QDESC0–3. -/
  | qmQsel (value : Nat)
  /-- TEN_QSEL (R105). A write of TEN_QSEL snapshots the descriptor of an owned queue into TEN_QINFO. -/
  | tenQsel (fn : Nat) (value : Nat)
  /-- VOTE_COPY_ARRIVAL (R121). A guarded copy arrives at a voter slot, and two agreeing copies pass the action into the near FIFO. -/
  | voteCopyArrival (ttype : Nat) (target : Nat) (slot : Nat) (copy : Nat) (org : CopyOrigin)
  /-- DOUBLE_FAULT (R122). When no two copies agree 12 ticks before T, the cuff goes to Apron and the guarded queue stops with VOTE_LOST. -/
  | doubleFault (ttype : Nat) (target : Nat)
  /-- LANE_SWITCH (R123). A guarded lane mismatch is resolved by the spare lane, which takes the disagreeing lane's place. -/
  | laneSwitch (ttype : Nat) (target : Nat)
  /-- LANE_SELF_TEST (R123). A lane taken out of service completes its self-test and returns as spare if it passes. -/
  | laneSelfTest (pass : Bool)
  /-- TRAY_TAKEOVER (R124). On one tick the rebuilt spare takes over every slot of the failing tray, which is retired. -/
  | trayTakeover (tray : Nat)
  /-- CONTEXT_MOVE (R163). At a WAIT point, a context's state is copied to another tray in state MOVING. -/
  | contextMove (ctx : Nat)
  /-- NOP_MICROWORD (R141). Microword NOP does nothing. -/
  | nopMicroword (ctx : Nat)
  /-- MOV (R141). MOV copies W[B] to W[A]. -/
  | mov (ctx : Nat)
  /-- LDI (R141). LDI loads a 12-bit immediate into W[A]. -/
  | ldi (ctx : Nat)
  /-- LDHI (R141). LDHI loads K[7:0] into W[A][19:12]. -/
  | ldhi (ctx : Nat)
  /-- ADD (R141). ADD adds W[B] to W[A] and sets the flags. -/
  | add (ctx : Nat)
  /-- ADC (R142). ADC adds with carry as a limb op. -/
  | adc (ctx : Nat)
  /-- SUB (R141). SUB subtracts W[B] from W[A], with C as borrow. -/
  | sub (ctx : Nat)
  /-- SBC (R142). SBC subtracts with borrow as a limb op. -/
  | sbc (ctx : Nat)
  /-- ADDI (R141). ADDI adds an immediate to W[B] into W[A]. -/
  | addi (ctx : Nat)
  /-- SUBI (R141). SUBI subtracts an immediate from W[B] into W[A]. -/
  | subi (ctx : Nat)
  /-- AND (R141). AND combines W[A] with W[B]. -/
  | and (ctx : Nat)
  /-- OR (R141). OR combines W[A] with W[B]. -/
  | or (ctx : Nat)
  /-- XOR (R141). XOR combines W[A] with W[B]. -/
  | xor (ctx : Nat)
  /-- ANDI (R141). ANDI combines W[B] with an immediate into W[A]. -/
  | andi (ctx : Nat)
  /-- ORI (R141). ORI combines W[B] with an immediate into W[A]. -/
  | ori (ctx : Nat)
  /-- XORI (R141). XORI combines W[B] with an immediate into W[A]. -/
  | xori (ctx : Nat)
  /-- SHL (R141). SHL shifts W[B] left by K into W[A]. -/
  | shl (ctx : Nat)
  /-- SHR (R141). SHR shifts W[B] right logically into W[A]. -/
  | shr (ctx : Nat)
  /-- SAR (R141). SAR shifts W[B] right arithmetically into W[A]. -/
  | sar (ctx : Nat)
  /-- MUL (R141). MUL forms a 40-bit unsigned product in W[A+1]:W[A]. -/
  | mul (ctx : Nat)
  /-- CMP (R141). CMP sets the flags from W[A] − W[B]. -/
  | cmp (ctx : Nat)
  /-- CMPI (R141). CMPI sets the flags from W[A] − K. -/
  | cmpi (ctx : Nat)
  /-- ADD3 (R141). ADD3 adds two 60-bit values as a limb op. -/
  | add3 (ctx : Nat)
  /-- SUB3 (R141). SUB3 subtracts two 60-bit values as a limb op. -/
  | sub3 (ctx : Nat)
  /-- CMP3 (R141). CMP3 compares two 60-bit times under R27. -/
  | cmp3 (ctx : Nat)
  /-- ADDS3 (R141). ADDS3 adds a scaled 20-bit value to a 60-bit value. -/
  | adds3 (ctx : Nat)
  /-- WRAP3 (R141). WRAP3 reduces a 60-bit value modulo M. -/
  | wrap3 (ctx : Nat)
  /-- MOV3 (R141). MOV3 copies a 60-bit value. -/
  | mov3 (ctx : Nat)
  /-- NOW (R141). NOW loads the time base, or EVT in a guarded context. -/
  | now (ctx : Nat)
  /-- EVT (R141). EVT loads the time that released the last wait. -/
  | evt (ctx : Nat)
  /-- LDW (R139). LDW loads a 32-bit word of slab space, walked under R111. -/
  | ldw (ctx : Nat)
  /-- STW (R139). STW stores W[A], zero-extended, to slab space. -/
  | stw (ctx : Nat)
  /-- LD32 (R141). LD32 loads a 32-bit word into a register pair. -/
  | ld32 (ctx : Nat)
  /-- ST32 (R141). ST32 stores a register pair as a 32-bit word. -/
  | st32 (ctx : Nat)
  /-- LDT (R141). LDT loads a 60-bit time from a 64-bit word. -/
  | ldt (ctx : Nat)
  /-- STT (R141). STT stores a 60-bit time with bits [63:60] = 0. -/
  | stt (ctx : Nat)
  /-- BCC (R137). BCC branches two ways on a flag condition. -/
  | bcc (ctx : Nat)
  /-- BBS (R137). BBS branches two ways on a bit of W[A]. -/
  | bbs (ctx : Nat)
  /-- BEQ (R137). BEQ branches two ways on W[A] = W[B]. -/
  | beq (ctx : Nat)
  /-- JUMPR (R143). JUMPR continues at a computed target after one delay slot. -/
  | jumpr (ctx : Nat)
  /-- CALL (R141). CALL pushes the return address and continues at NEXT. -/
  | call (ctx : Nat)
  /-- RET (R141). RET continues at the popped address. -/
  | ret (ctx : Nat)
  /-- LOOP (R145). LOOP starts the hardware loop. -/
  | loop (ctx : Nat)
  /-- LBRK (R141). LBRK clears LA. -/
  | lbrk (ctx : Nat)
  /-- MODE (R144). MODE sets a new mode after one shadow word. -/
  | mode (ctx : Nat)
  /-- TRAP (R148). TRAP takes a software trap with cause SOFT. -/
  | trap (ctx : Nat)
  /-- RETT (R149). RETT restores the save area and resumes, taking a pending cause under R151. -/
  | rett (ctx : Nat)
  /-- SEND (R154). SEND releases the waiters on a flag or sets it, and may trap a context with EVENT. -/
  | send (ctx : Nat)
  /-- WAIT (R154). WAIT consumes a set flag or blocks the context on it. -/
  | wait (ctx : Nat)
  /-- WAITT (R141). WAITT waits for a flag or a deadline. -/
  | waitt (ctx : Nat)
  /-- TWAIT (R141). TWAIT waits until a deadline. -/
  | twait (ctx : Nat)
  /-- TWAIT_DEADLINE (R162). A WAITT or TWAIT deadline is reached and the context becomes eligible. -/
  | twaitDeadline (ctx : Nat)
  /-- EMIT (R161). EMIT sends the action in W[A..A+6] on a near-path port, or blocks in PRESS. -/
  | emit (ctx : Nat)
  /-- PRESS_RELEASE (R161). Room appears in the target FIFO and a blocked EMIT enters it. -/
  | pressRelease (ctx : Nat)
  /-- PRESS_TIMEOUT (R161). An EMIT blocked for TRY_BPTO ticks traps with cause PRESS and is not emitted. -/
  | pressTimeout (ctx : Nat)
  /-- RECV (R160). RECV loads the head input action once its time has come, or blocks. -/
  | recv (ctx : Nat)
  /-- RECV_READY (R160). The head input entry's time comes and a blocked RECV loads it. -/
  | recvReady (ctx : Nat)
  /-- MFS (R140). MFS reads a special register. -/
  | mfs (ctx : Nat)
  /-- MTS (R140). MTS writes a special register, including IRQ_DONE. -/
  | mts (ctx : Nat)
  /-- HALT_MICROWORD (R141). Microword HALT returns the context to IDLE and keeps its input FIFO. -/
  | haltMicroword (ctx : Nat)
  /-- DEADLOCK (R156). A deadlocked tray traps every context in WAIT with cause STALL and sets TRY_STALL.DEADLOCK. -/
  | deadlock (tray : Nat)
  /-- STALL_WATCHDOG (R157). A context in WAIT for 65,536 ticks on an ordinary flag traps with cause STALL. -/
  | stallWatchdog (ctx : Nat)
  /-- CONTEXT_WATCHDOG (R159). A context without a WAIT point for the limit traps with cause WATCHDOG. -/
  | contextWatchdog (ctx : Nat)
  /-- TRAY_IRQ_DELIVERY (R165). With a pending enabled source, the tray controller sends flag 240 to its handler context. -/
  | trayIrqDelivery (tray : Nat)
  /-- TRY_IRQ_SOFT (R164). A write of TRY_IRQ_SOFT asserts soft tray sources. -/
  | tryIrqSoft (tray : Nat) (value : Nat)
  /-- TRY_IRQ_CTRL_WRITE (R166). A write of TRY_IRQ_CTRL sets GEN and CTX, and a CTX not of tenant 0 is refused with IRQ_CTX. -/
  | tryIrqCtrlWrite (tray : Nat) (view : Nat) (value : Nat)
  /-- TRY_CS_ADDR (R167). A write of TRY_CS_ADDR snapshots a control-store word. -/
  | tryCsAddr (tray : Nat) (value : Nat)
  /-- FORCED_MOVE (R179). A context with no WAIT point for 1 s is moved between two words. -/
  | forcedMove (ctx : Nat)
  /-- PIO_LEVEL (R183). PIO instruction LEVEL drives the levels of the driven pins. -/
  | pioLevel (engine : Nat)
  /-- PIO_DIR_INSN (R183). PIO instruction DIR sets PIO_DIR. -/
  | pioDirInsn (engine : Nat)
  /-- PIO_XMIT (R186). PIO instruction XMIT shifts bits from TXSR onto a pin. -/
  | pioXmit (engine : Nat)
  /-- PIO_SAMP (R186). PIO instruction SAMP samples a pin into RXSR. -/
  | pioSamp (engine : Nat) (bits : Nat)
  /-- PIO_LOAD (R194). PIO instruction LOAD takes the transmit FIFO head into TXSR, or stalls. -/
  | pioLoad (engine : Nat)
  /-- PIO_STORE (R193). PIO instruction STORE stores RXSR into the receive FIFO, the log or a feedback port, or stalls. -/
  | pioStore (engine : Nat)
  /-- PIO_PINW (R189). PIO instruction PINW starts waiting until the pin reads the level. -/
  | pioPinw (engine : Nat)
  /-- PIO_CMP_INSN (R190). PIO instruction CMP compares RXSR with PIO_CMP and acts on a mismatch. -/
  | pioCmpInsn (engine : Nat)
  /-- AT_TIME (R187). The time base reaches PIO_AT, the bit clock restarts and the AT instruction executes. -/
  | atTime (engine : Nat)
  /-- PINW_REACHED (R189). The pin reads the requested level and the engine continues. -/
  | pinwReached (engine : Nat)
  /-- PINW_TIMEOUT (R189). A PINW that reaches PIO_WTO stops the engine and records PIO_STALL. -/
  | pinwTimeout (engine : Nat)
  /-- STALL_END (R194). A word or a free entry appears and the stalled LOAD or STORE completes. -/
  | stallEnd (engine : Nat)
  /-- PIO_CTRL_START (R195). Writing PIO_CTRL.START starts the engine at ADDR with a bit-clock restart. -/
  | pioCtrlStart (engine : Nat) (value : Nat)
  /-- PIO_CTRL_STOP (R195). Writing PIO_CTRL.STOP halts the engine at once. -/
  | pioCtrlStop (engine : Nat) (value : Nat)
  /-- PIO_CTRL_FLUSH_TX (R195). Writing PIO_CTRL.FLUSH_TX empties the transmit FIFO. -/
  | pioCtrlFlushTx (engine : Nat) (value : Nat)
  /-- PIO_CTRL_FLUSH_RX (R195). Writing PIO_CTRL.FLUSH_RX empties the receive FIFO. -/
  | pioCtrlFlushRx (engine : Nat) (value : Nat)
  /-- PIO_TXDATA (R191). A write of PIO_TXDATA pushes a word, or is discarded with TX_OVF. -/
  | pioTxdata (engine : Nat) (value : Nat)
  /-- PIO_RXDATA (R191). A read of PIO_RXDATA pops the head word, or returns 0 with RX_EMPTY. -/
  | pioRxdata (engine : Nat)
  /-- PIO_SYNC_CTRL_GO (R197). Writing PIO_SYNC_CTRL.GO starts or re-clocks the selected engines on one tick. -/
  | pioSyncCtrlGo (value : Nat)
  /-- PIO_SYNC_CTRL_ARM (R197). Writing PIO_SYNC_CTRL.ARM arms a sync at PIO_SYNC_TIME, or refuses it. -/
  | pioSyncCtrlArm (value : Nat)
  /-- PIO_SYNC_CTRL_DISARM (R197). Writing PIO_SYNC_CTRL.DISARM cancels an armed sync. -/
  | pioSyncCtrlDisarm (value : Nat)
  /-- PIO_SYNC_TIME (R197). An armed sync acts at PIO_SYNC_TIME on every selected engine. -/
  | pioSyncTime
  /-- QUADRATURE_EDGE (R206). A filtered A or B edge is decoded and counted, and updates position, speed and compare. -/
  | quadratureEdge (port : Nat) (a : Bool) (b : Bool) (stamp : Nat)
  /-- Z_EDGE (R208). A rising Z edge latches and may load the position under ZMODE. -/
  | zEdge (port : Nat) (stamp : Nat)
  /-- WIRE_FAULT (R205). Two wires of a pair agree longer than WFILT × 16 ticks, clearing PVALID and writing a record. -/
  | wireFault (port : Nat) (wires : Nat)
  /-- STANDSTILL (R211). No counted edge for STILL × 1,024 ticks sets SPEED to 0 and STATUS.STILL. -/
  | standstill (port : Nat)
  /-- HIT_ACTION (R214). A waiting hit is acted on, writing a queue entry or scheduling a toggle. -/
  | hitAction (port : Nat)
  /-- HIT_TOGGLE (R214). The toggle cuff toggles at hit stamp + TDLY. -/
  | hitToggle (port : Nat)
  /-- FBK_CTRL_LOAD (R208). Writing FBK_CTRL.LOAD sets the position to FBK_LOAD and sets PVALID. -/
  | fbkCtrlLoad (port : Nat) (value : Nat)
  /-- FBK_CTRL_REVALID (R208). Writing FBK_CTRL.REVALID sets PVALID while no wire fault stands. -/
  | fbkCtrlRevalid (port : Nat) (value : Nat)
  /-- FBK_CTRL_REQ (R216). Writing FBK_CTRL.REQ makes an SSI request now, or skips it with SSI_BUSY. -/
  | fbkCtrlReq (port : Nat) (value : Nat)
  /-- FBK_CMP (R213). A write of FBK_CMP replaces CMP and may take a catch-up hit. -/
  | fbkCmp (port : Nat) (high : Bool) (value : Nat)
  /-- FBK_CMPADJ (R213). A write of FBK_CMPADJ adds to CMP and may take a catch-up hit. -/
  | fbkCmpadj (port : Nat) (value : Nat)
  /-- SSI_PERIODIC_REQUEST (R216). Every FBK_SSIPER ticks, an SSI request is made. -/
  | ssiPeriodicRequest (port : Nat)
  /-- SSI_FRAME_END (R218). After the last sample, the word updates position, speed and compare hits. `rises` and `falls` are
  the stamps of transitions of the data comparator that no edge of the pair's P wire shows (R204, R217). -/
  | ssiFrameEnd (port : Nat) (rises falls : List Nat)
  /-- SSI_RECOVERY_TIMEOUT (R218). A data line not high SSITM ticks after the frame discards the frame with SSI_FRAME. -/
  | ssiRecoveryTimeout (port : Nat)
  /-- HELLO (R232). A HELLO frame announces a member's serial, priority, versions, state and digest. -/
  | hello (hdr : NelviHeader) (serial : Nat) (prio : Nat) (vmin : Nat) (vmax : Nat) (state : Nat) (digest : Nat)
  /-- DIGEST (R234). A DIGEST frame carries a member's configuration digest. -/
  | digest (hdr : NelviHeader) (digest : Nat) (gen : Nat)
  /-- PREPARE (R236). A PREPARE frame is checked by each participant, which answers with an ACK. -/
  | prepare (hdr : NelviHeader) (id : Nat) (time : Nat) (recs : List LaunchRec)
  /-- ACK (R237). An ACK frame reaches the leader, which commits when all participants are OK or cancels otherwise. -/
  | ack (hdr : NelviHeader) (id : Nat) (status : Nat) (record : Nat)
  /-- COMMIT (R238). A COMMIT frame is held for the launch decision at D. -/
  | commit (hdr : NelviHeader) (id : Nat)
  /-- CANCEL (R238). A CANCEL frame makes the launch decide hold at D. -/
  | cancel (hdr : NelviHeader) (id : Nat)
  /-- HEARTBEAT (R232). A HEARTBEAT frame carries the running version, alive mask, digest and strobe calibration time. -/
  | heartbeat (hdr : NelviHeader) (run : Nat) (alive : Nat) (digest : Nat) (cal : Nat)
  /-- LASTGASP (R243). A LASTGASP frame ends the sender's aliveness at once and may start an election. -/
  | lastgasp (hdr : NelviHeader) (cause : Nat)
  /-- FOREIGN_FRAME (R226). A frame that is damaged, of another EtherType or of another ensemble is discarded and counted. -/
  | foreignFrame (port : Nat) (why : Nat)
  /-- SYNC (R227). A gPTP Sync from the leader is stamped and steers the follower's time base. -/
  | sync (port : Nat) (sender : Nat) (stamp : Nat)
  /-- FOLLOW_UP (R227). A gPTP Follow_Up completes the two-step Sync. -/
  | followUp (port : Nat) (sender : Nat) (origin : Nat)
  /-- PDELAY_REQ (R227). A gPTP Pdelay_Req is answered with Pdelay_Resp. -/
  | pdelayReq (port : Nat) (stamp : Nat)
  /-- PDELAY_RESP (R227). A gPTP Pdelay_Resp is stamped for the line delay. -/
  | pdelayResp (port : GptpHeader) (t2 : Nat) (t4 : Nat)
  /-- PDELAY_RESP_FOLLOW_UP (R227). A gPTP Pdelay_Resp_Follow_Up completes the pdelay measurement. -/
  | pdelayRespFollowUp (port : GptpHeader) (t3 : Nat)
  /-- ANNOUNCE (R227). A gPTP Announce frame is received from the leader. -/
  | announce (port : Nat) (sender : Nat)
  /-- HBPER_TIMER (R232). Every HBPER, a member sends HELLO and the leader sends HEARTBEAT. -/
  | hbperTimer
  /-- GPTP_INTERVAL (R227). The sync or pdelay interval expires and the port sends its gPTP messages. -/
  | gptpInterval (port : Nat) (pdelay : Bool)
  /-- MEMBER_TIMEOUT (R232). A member with no frame for 3 × HBPER stops being alive. -/
  | memberTimeout (member : Nat)
  /-- FRAME_TRANSMIT (R241). At the port's PLCA transmit opportunity a frame is sent or retried, and retries end at their deadline. -/
  | frameTransmit (port : Nat) (outcome : TxOutcome)
  /-- PLCA_LOST (R226). No BEACON for 8 × W ticks makes the port fall back to CSMA/CD and sets PLCA_LOST. -/
  | plcaLost (port : Nat)
  /-- ENS_LCTRL_GO (R235). Writing ENS_LCTRL.GO on the leader checks the launch block and sends PREPARE. -/
  | ensLctrlGo (value : Nat)
  /-- ACK_DEADLINE (R237). At A = D − (RB + W), the leader cancels a launch not yet acknowledged by all. -/
  | ackDeadline
  /-- COMMIT_DEADLINE (R238). At D, each participant decides go or hold and submits its records. -/
  | commitDeadline (id : Nat)
  /-- STROBE_PULSE (R239). At S = D − 1,024 ticks, a committing leader drives the strobe pulse on both pairs. -/
  | strobePulse
  /-- STROBE_EDGE (R239). A participant stamps a strobe edge and judges it against its window. -/
  | strobeEdge (pairk : Nat) (stamp : Nat)
  /-- ENS_STB_CAL (R240). Writing ENS_STB.CAL on the leader announces a strobe calibration time. -/
  | ensStbCal (value : Nat)
  /-- STROBE_CALIBRATION (R240). At the calibration time the leader pulses and each member sets ENS_STBDLY. -/
  | strobeCalibration
  /-- BAR2_READ (R248). A BAR2 read returns slab data through the walk, or 0 on a failure. -/
  | bar2Read (fn : Nat) (addr : Nat) (len : ReqKind)
  /-- BAR2_WRITE (R248). A BAR2 write enters the function's write buffer. -/
  | bar2Write (fn : Nat) (addr : Nat) (bytes : List (Option Nat))
  /-- WRITE_BUFFER_APPLY (R250). The write buffer applies its oldest posted write as one indivisible write. -/
  | writeBufferApply (fn : Nat)
  /-- PERST_N (R249). PERST_N resets the link and either aborts the PF or disables every ring and discards write buffers. -/
  | perstN
  /-- PCIE_REF_LOSS (R313). Loss of the PCIe reference takes the link down, with the effect of PERST_N with PERST_ABORT = 0. -/
  | pcieRefLoss
  /-- FLR (R269). A Function Level Reset runs the abort sequence and resets the function's host-side state. -/
  | flr (fn : Nat)
  /-- D3HOT_ENTRY (R283). A configuration write into D3hot flushes moderated vectors and stops fetching. -/
  | d3hotEntry (fn : Nat) (cold : Bool)
  /-- D0_RETURN (R283). Return to D0 writes the held records and sends every vector with a non-zero count. -/
  | d0Return (fn : Nat)
  /-- VECTOR_UNMASK (R282). Unmasking a vector or enabling MSI-X sends its pending message. -/
  | vectorUnmask (fn : Nat) (vec : Nat) (write : MsixWrite)
  /-- TEN_RING_CTRL_WRITE (R252). A write of TEN_RING_CTRL.EN enables the rings and resets their indices, or stops fetching. -/
  | tenRingCtrlWrite (fn : Nat) (value : Nat)
  /-- TEN_CMD_TAIL (R252). A write of TEN_CMD_TAIL submits new commands. -/
  | tenCmdTail (fn : Nat) (value : Nat)
  /-- TEN_CPL_HEAD (R256). A write of TEN_CPL_HEAD frees completion entries, or is refused with QUEUE_FULL. -/
  | tenCplHead (fn : Nat) (value : Nat)
  /-- COMMAND_FETCH (R259). With a tag and credit free, the fetcher takes a function's next command and judges its SEQ. -/
  | commandFetch (fn : Nat) (cmd : Option Nat)
  /-- COMPLETION_WRITE (R255). A waiting completion record is written to the ring when an entry is free. -/
  | completionWrite (fn : Nat)
  /-- NOP_COMMAND (R262). Command 0x00 does nothing, or acts as a pure fence. -/
  | nopCommand (tag : Nat)
  /-- QUEUE_CREATE (R262). Command 0x10 creates a plain queue in state run. -/
  | queueCreate (tag : Nat)
  /-- QUEUE_FREE (R262). Command 0x11 aborts the queue's work and frees it. -/
  | queueFree (tag : Nat)
  /-- QUEUE_CTRL_STOP (R99). Command 0x12 with STOP halts the queue stage. -/
  | queueCtrlStop (tag : Nat)
  /-- QUEUE_CTRL_RESUME (R99). Command 0x12 with RESUME resumes the queue from HEAD. -/
  | queueCtrlResume (tag : Nat)
  /-- QUEUE_CTRL_FLUSH (R100). Command 0x12 with FLUSH flushes the queue. -/
  | queueCtrlFlush (tag : Nat)
  /-- QUEUE_ADMIT (R116). Command 0x13 admits, changes or releases a queue's contract. -/
  | queueAdmit (tag : Nat)
  /-- SLAB_MAP (R111). Command 0x20 zeroes and maps slab pages into the tenant's view. -/
  | slabMap (tag : Nat)
  /-- SLAB_UNMAP (R262). Command 0x21 unmaps slab pages. -/
  | slabUnmap (tag : Nat)
  /-- RES_ALLOC (R262). Command 0x30 allocates a cuff, context, engine, port, channel or flag. -/
  | resAlloc (tag : Nat)
  /-- RES_FREE (R262). Command 0x31 frees a resource in its abort state. -/
  | resFree (tag : Nat)
  /-- PIN_LEND (R181). Command 0x32 lends pins to a PIO engine or feedback port, or returns them. -/
  | pinLend (tag : Nat)
  /-- PORT_GRANT (R161). Command 0x33 grants or revokes a context's near-path port. -/
  | portGrant (tag : Nat)
  /-- FLAG_SET (R155). Command 0x34 sets an event flag's attributes and senders. -/
  | flagSet (tag : Nat)
  /-- CTX_START (R168). Command 0x35 starts a context at an entry address. -/
  | ctxStart (tag : Nat)
  /-- CFG_WRITE (R263). Command 0x40 applies up to five register writes in order. -/
  | cfgWrite (tag : Nat)
  /-- CFG_COMMIT (R263). Command 0x41 commits a page now or at a time. -/
  | cfgCommit (tag : Nat)
  /-- UCODE_LOAD (R175). Command 0x50 checks and loads a microcode image into the named trays. -/
  | ucodeLoad (tag : Nat) (image : List Nat)
  /-- UCODE_FREE (R176). Command 0x51 returns units to the pool. -/
  | ucodeFree (tag : Nat)
  /-- UCODE_UPDATE (R178). Command 0x52 replaces loaded units tray by tray through the spare. -/
  | ucodeUpdate (tag : Nat) (image : List Nat)
  /-- TENANT_QUOTA (R108). Command 0x60 sets a tenant's quota. -/
  | tenantQuota (tag : Nat)
  /-- TENANT_CREDIT (R259). Command 0x61 sets a function's command credit. -/
  | tenantCredit (tag : Nat)
  /-- TENANT_ABORT (R264). Command 0x62 starts the abort of a tenant and completes at DONE. -/
  | tenantAbort (tag : Nat)
  /-- TENANT_RELEASE (R262). Command 0x63 frees every resource of a tenant. -/
  | tenantRelease (tag : Nat)
  /-- TEN_ABORT (R264). A write of TEN_ABORT with the right key starts the abort sequence of the function. -/
  | tenAbort (fn : Nat) (value : Nat)
  /-- ABORT_DONE (R265). The abort completes: DONE is set, TEN_ABORT_TIME written and a KIND 2 record written. -/
  | abortDone (fn : Nat)
  /-- HVC_EVENT (R277). An event of an HVC source sets its pending bit and counts at its target vector. -/
  | hvcEvent (source : Nat)
  /-- MODERATION_TIMER (R280). A vector's moderation timer expires and the vector becomes due. -/
  | moderationTimer (fn : Nat) (vec : Nat)
  /-- IRQ_ROUTE (R276). Command 0x78 sets a source's route and enable. -/
  | irqRoute (tag : Nat)
  /-- IRQ_QUERY (R276). Command 0x79 returns a source's route, enable and pending state. -/
  | irqQuery (tag : Nat)
  /-- HVC_SCFG (R276). A direct write of HVC_SCFG by tenant 0 reroutes a source, or is refused with ROUTE_REFUSED. -/
  | hvcScfg (value : Nat)
  /-- HVC_CLAIM (R285). A read of HVC_CLAIMc returns and stacks the most urgent claimable source of the core. -/
  | hvcClaim (core : Nat)
  /-- HVC_COMPLETE (R286). A write of HVC_COMPLETEc ends a service and pops or faults the core's stack. -/
  | hvcComplete (core : Nat) (value : Nat)
  /-- HVC_MARGIN (R279). A write of HVC_MARGIN sets the pre-emption margin, or is ignored while a stack is not empty. -/
  | hvcMargin (view : Nat) (value : Nat)
  /-- TEN_IRQ_EN_SET (R289). A write of TEN_IRQ_EN_SET enables private sources. -/
  | tenIrqEnSet (fn : Nat) (value : Nat)
  /-- TEN_IRQ_EN_CLR (R289). A write of TEN_IRQ_EN_CLR disables private sources. -/
  | tenIrqEnClr (fn : Nat) (value : Nat)
  /-- TEN_IRQ_PEND_SET (R277). A write of TEN_IRQ_PEND_SET sets private pending bits as events. -/
  | tenIrqPendSet (fn : Nat) (value : Nat)
  /-- TEN_IRQ_PEND_CLR (R277). A write of TEN_IRQ_PEND_CLR clears private pending bits. -/
  | tenIrqPendClr (fn : Nat) (value : Nat)
  /-- TEN_IRQ_SHEN_SET (R289). A write of TEN_IRQ_SHEN_SET enables a shared source routed to the function. -/
  | tenIrqShenSet (fn : Nat) (value : Nat)
  /-- TEN_IRQ_SHEN_CLR (R289). A write of TEN_IRQ_SHEN_CLR disables a shared source routed to the function. -/
  | tenIrqShenClr (fn : Nat) (value : Nat)
  /-- TEN_IRQ_SHPEND_CLR (R289). A write of TEN_IRQ_SHPEND_CLR clears a shared source's pending bit. -/
  | tenIrqShpendClr (fn : Nat) (value : Nat)
  /-- DMA_SETUP (R303). Command 0x70 sets a channel's completion queue. -/
  | dmaSetup (tag : Nat)
  /-- DMA_CTRL_DISABLE (R301). Command 0x71 disable, or clearing DMA_CTRL.EN, drops the channel's work at once. -/
  | dmaCtrlDisable (channel : Nat) (tag : Option Nat)
  /-- DMA_CTRL_ENABLE (R301). Command 0x71 enable, or setting DMA_CTRL.EN, enables the channel, draining first. -/
  | dmaCtrlEnable (channel : Nat) (tag : Option Nat)
  /-- DMA_CTRL_CONTINUE (R300). Command 0x71 continue, or DMA_CTRL.CONT, resumes a halted channel at the next descriptor. -/
  | dmaCtrlContinue (channel : Nat) (tag : Option Nat)
  /-- DMA_CTRL_PUSH (R292). Writing DMA_CTRL.PUSH checks and pushes DMA_D0–D7 as a descriptor. -/
  | dmaCtrlPush (channel : Nat) (value : Nat)
  /-- DMA_SUBMIT (R292). Command 0x72 checks and pushes a descriptor. -/
  | dmaSubmit (tag : Nat)
  /-- DMA_CQ_HEAD (R298). Command 0x73, or a write of DMA_CQ_HEAD, frees completion records, or is refused. -/
  | dmaCqHead (channel : Nat) (value : Nat) (tag : Option Nat)
  /-- DMA_QUERY (R303). Command 0x74 returns DMA_STATUS and DMA_FAULT_ADDR. -/
  | dmaQuery (tag : Nat)
  /-- DMA_DESCRIPTOR_COMPLETE (R297). A descriptor's writes are confirmed, its record is written and the done source is raised. -/
  | dmaDescriptorComplete (channel : Nat) (host : List Nat)
  /-- DMA_HALT (R300). A bus error or failed walk halts the channel and writes its records. -/
  | dmaHalt (channel : Nat) (code : Nat) (addr : Nat) (dir : Nat)
  /-- DRAINING_END (R301). The outstanding reads of a re-enabled channel have returned and it starts its queue. -/
  | drainingEnd (channel : Nat)
  /-- TEN_MBX_CTRL_SEND (R306). Writing TEN_MBX_CTRL.SEND queues the message, or refuses it with QUEUE_FULL. -/
  | tenMbxCtrlSend (fn : Nat) (value : Nat)
  /-- TEN_MBX_CTRL_POP (R306). Writing TEN_MBX_CTRL.POP removes the incoming head message. -/
  | tenMbxCtrlPop (fn : Nat) (value : Nat)
  /-- PING (R305). Mailbox message PING is answered with the time base. -/
  | ping (fn : Nat)
  /-- INFO (R305). Mailbox message INFO is answered with versions and boot slot. -/
  | info (fn : Nat)
  /-- CALSTAT (R305). Mailbox message CALSTAT is answered with the twins' calibration ages. -/
  | calstat (fn : Nat)
  /-- NOTICE (R305). The steward sends an unsolicited NOTICE into the function's incoming FIFO. -/
  | notice (fn : Nat) (cause : Nat)
  /-- MAILBOX_REPLY (R306). A reply enters the incoming FIFO when it has room and raises private source 19. -/
  | mailboxReply (fn : Nat)
  /-- MBX_ALIVE_TICK (R307). Every 1 ms of steward service, the mailbox heartbeat counts up. -/
  | mbxAliveTick
  /-- PWR_CTRL_REQ_PROVISION (R316). PWR_CTRL.REQ = 2 moves SAFE to PROVISION, or is refused. -/
  | pwrCtrlReqProvision
  /-- PWR_CTRL_REQ_RUN (R322). PWR_CTRL.REQ = 3 moves to RUN or DEGRADED, or is refused. -/
  | pwrCtrlReqRun
  /-- PWR_CTRL_REQ_SAFE (R320). PWR_CTRL.REQ = 5 enters SAFE with SCAUSE 3. -/
  | pwrCtrlReqSafe
  /-- PWR_CTRL_REQ_DOZE (R326). PWR_CTRL.REQ = 7 starts DOZE entry, or is refused. -/
  | pwrCtrlReqDoze
  /-- DBG_CTRL_HALT (R324). Writing DBG_CTRL.HALT with DBGEN enters HALT. -/
  | dbgCtrlHalt (value : Nat)
  /-- DBG_CTRL_RESUME (R325). Writing DBG_CTRL.RESUME realigns the time base and restores the mode before HALT. -/
  | dbgCtrlResume (value : Nat)
  /-- DOZE_REQ (R326). Assertion of DOZE_REQ with DOZEPIN requests DOZE. -/
  | dozeReq
  /-- DOZE_REQ_RETRY (R326). A refused pin request is tried again every 1 ms while the pin stays asserted. -/
  | dozeReqRetry
  /-- DOZE_ENTRY (R327). With buffers drained and DMA complete, the device freezes, sets COARSE and stops the PLL. -/
  | dozeEntry
  /-- WAKE_EVENT (R329). An enabled wake source starts the wake from DOZE. -/
  | wakeEvent (source : Nat) (index : Nat)
  /-- WAKE_COMPLETE (R42). After lock and phase measurement the time base is realigned, COARSE clears and the mode is restored. -/
  | wakeComplete
  /-- POWER_FAIL_N (R331). Assertion of POWER_FAIL_N drives Apron, discards writes, stops DMA, enters SAFE and queues LASTGASP. -/
  | powerFailN
  /-- POWER_FAIL_N_RELEASE (R331). Release of POWER_FAIL_N with supplies in range accepts writes again. -/
  | powerFailNRelease
  /-- SYS_RST_N_ASSERT (R316). Assertion of SYS_RST_N takes the device to OFF at once. -/
  | sysRstNAssert
  /-- SYS_RST_N_RELEASE (R340). Release of SYS_RST_N samples the straps and starts boot. -/
  | sysRstNRelease (release : ResetRelease)
  /-- SUPPLY_LOSS (R366). A core rail leaving its range takes the device to OFF and undrives every cuff. -/
  | supplyLoss
  /-- TEMPERATURE_SAMPLE (R333). Every 1 ms PWR_TEMP updates and alerts or SAFE entry follow the thresholds. -/
  | temperatureSample (value : Nat)
  /-- SMBUS_READ_STATUS (R334). SMBus command 0x01 returns mode and status bits. -/
  | smbusReadStatus
  /-- SMBUS_READ_TEMP (R334). SMBus command 0x02 returns PWR_TEMP. -/
  | smbusReadTemp
  /-- SMBUS_READ_ALERTS (R334). SMBus command 0x03 returns the TALERT and TCRIT flags. -/
  | smbusReadAlerts
  /-- SMBUS_SAFE (R334). SMBus command 0x10 with 0x5A enters SAFE with SCAUSE 3. -/
  | smbusSafe (write : SmbWrite)
  /-- SEC_HBOOT_CTRL_GO (R346). Writing SEC_HBOOT_CTRL.GO reads and checks a host boot image. -/
  | secHbootCtrlGo (image : ImageInfo)
  /-- SEC_CTRL_CONFIRM (R342). Writing SEC_CTRL.CONFIRM marks the booted slot GOOD. -/
  | secCtrlConfirm (value : Nat)
  /-- SEC_CTRL_RBCOMMIT (R347). Writing SEC_CTRL.RBCOMMIT with the key raises the anti-rollback counter, or is refused. -/
  | secCtrlRbcommit (value : Nat)
  /-- SEC_IMG_CTRL_WRITE (R348). Writing SEC_IMG_CTRL.WRITE starts writing an image into the slot that did not boot. -/
  | secImgCtrlWrite (value : Nat)
  /-- IMAGE_WRITE_COMPLETE (R348). An image write ends, writes the TRIAL state sector and raises source 0x3440. -/
  | imageWriteComplete (image : ImageInfo) (failed : Bool)
  /-- SEC_IMG_CTRL_APPLY (R352). Writing SEC_IMG_CTRL.APPLY applies steward, port and base-set parts live. -/
  | secImgCtrlApply (value : Nat)
  /-- STEWARD_FAILOVER (R350). A failed active steward core is replaced by its standby, or the pair goes down. -/
  | stewardFailover (core : Nat)
  /-- STEWARD_RESYNC (R350). A restarted core passes self-test, resynchronises as standby and SINGLE clears. -/
  | stewardResync (core : Nat) (pass : Bool)
  /-- SCRUB (R356). The scrubber reads an SRAM word, corrects it or records an uncorrectable error. -/
  | scrub (word : Nat) (err : Nat)
  /-- ROW_REMAP (R358). A row over the correction threshold is copied to a spare row and switched on one fabric clock. -/
  | rowRemap (row : Nat)
  /-- CS_SCRUB (R357). The control-store scrubber reads a word and rewrites or schedules repair. -/
  | csScrub (tray : Nat) (addr : Nat) (err : Nat)
  /-- CS_REPAIR (R357). The steward rewrites an uncorrectable control-store word from its image copy. -/
  | csRepair (tray : Nat) (addr : Nat)
  /-- REFERENCE_EDGE (R41). In DOZE or HALT, each rising edge of the 25 MHz reference advances the coarse time base by 960 crumbs plus any trim crumb due. -/
  | referenceEdge
  /-- GUARD_RELEASE (R66). An asserted guard input stops asserting, clearing its SLV_GDSTATE.ASSERTED bit so that a later re-arm of the pair is no longer refused. -/
  | guardRelease (sleeve : Nat) (guard : Nat)
  /-- WIRES_DISAGREE (R205). The two wires of a pair that had a wire fault disagree again, clearing the pair's bit in FBK_STATUS.WIRE. -/
  | wiresDisagree (port : Nat) (wires : Nat)
  /-- BEACON (R226). A PLCA BEACON is seen again on a port that had fallen back to CSMA/CD, and ENP_STATUS.PLCA_ACTIVE returns. -/
  | beacon (port : Nat)
  /-- LINK_TRAINED (R313). The PCIe link trains again after PERST_N or the return of the PCIe reference, and writes are accepted again. -/
  | linkTrained
  /-- LINK_REACHES_L0 (R283). The link finishes its exit from L1, and a message held for the exit is sent. -/
  | linkReachesL0
  /-- CONFIGURATION_WRITE (R346). A PCIe configuration write sets or clears Bus Master Enable or VF Enable. -/
  | configurationWrite (fn : Nat) (bme : Option Bool) (vfEnable : Option Bool) (pmeEn : Option Bool) (more : ConfigMore)
  /-- RESERVED_KIND_MESSAGE (R305). A mailbox message with a reserved KIND is answered with a reply that carries REJECT_CLASS. -/
  | reservedKindMessage (fn : Nat)
  /-- FUSE_BURN_COMPLETE (R347). The burning of anti-rollback fuses started by RBCOMMIT ends, and SEC_RB.COUNTER reads the raised value. -/
  | fuseBurnComplete
  deriving DecidableEq, Repr

end Sys2Proof
end

