-- ==== Sys2Proof/WellFormed.lean ====
section
/-! DEFINITION. When a command is well formed: every unit it names exists (R8), and every value
fits the register it is written to (R6). -/

namespace Sys2Proof

/-- Cuff number (R8). -/
def okCuff (v : Nat) : Bool := decide (v < 1024)

/-- Pair: sleeve * 16 + pair (R82). -/
def okPair (v : Nat) : Bool := decide (v < 512)

/-- Sleeve. -/
def okSleeve (v : Nat) : Bool := decide (v < 32)

/-- Crumb of a tick (R25). -/
def okCrumb (v : Nat) : Bool := decide (v < 16)

/-- Guard input of a sleeve. -/
def okGuard (v : Nat) : Bool := decide (v < 8)

/-- Queue ID (R8). -/
def okQueue (v : Nat) : Bool := decide (v < 1048576)

/-- Tray. -/
def okTray (v : Nat) : Bool := decide (v < 9)

/-- Context ID: tray 0 to 8 in bits [11:8] (R8). -/
def okCtx (v : Nat) : Bool := decide (v < 2304)

/-- PIO engine. -/
def okEngine (v : Nat) : Bool := decide (v < 128)

/-- PCIe function (R8). -/
def okFn (v : Nat) : Bool := decide (v < 512)

/-- DMA channel. -/
def okChannel (v : Nat) : Bool := decide (v < 32)

/-- Steward core. -/
def okCore (v : Nat) : Bool := decide (v < 4)

/-- Commit group. -/
def okGroup (v : Nat) : Bool := decide (v < 16)

/-- View of a register (R10). -/
def okView (v : Nat) : Bool := decide (v < 4)

/-- Target type of a queue that submits (R82). -/
def okTtype (v : Nat) : Bool := decide (1 ≤ v ∧ v ≤ 5)

/-- Ensemble member. -/
def okMember (v : Nat) : Bool := decide (v < 16)

/-- Strobe pair. -/
def okStrobe (v : Nat) : Bool := decide (v < 2)

/-- SRAM row (R358). -/
def okRow (v : Nat) : Bool := decide (v < 65536)

/-- 8-byte SRAM word (R356). -/
def okWord64 (v : Nat) : Bool := decide (v < 8388608)

/-- Pair of wires of a feedback port (R203). -/
def okWires (v : Nat) : Bool := decide (v < 4)

/-- Outcome of a scrub: clean, correctable, uncorrectable. -/
def okErr (v : Nat) : Bool := decide (v < 3)

/-- Ensemble port. -/
def okEnp (v : Nat) : Bool := decide (v < 4)

/-- Feedback port. -/
def okPort (v : Nat) : Bool := decide (v < 64)

/-- Slot of a voter (R121). -/
def okVoterSlot (v : Nat) : Bool := decide (v < 3)

/-- Slot of a wheel level (R91). -/
def okSlot (v : Nat) : Bool := decide (v < 1024)

/-- Launch ID (R8). -/
def okLaunch (v : Nat) : Bool := decide (v < 4294967296)

/-- Seam ID (R8). -/
def okSeam (v : Nat) : Bool := decide (v < 65536)

/-- HVC source; 0x3FFF is never one (R272). -/
def okSource (v : Nat) : Bool := decide (v < 0x3FFF)

/-- Command tag (R8). -/
def okTag (v : Nat) : Bool := decide (v < 4096)

/-- A 32-bit register value (R6). -/
def okValue (v : Nat) : Bool := decide (v < 4294967296)

/-- A BAR0 write carries as many bits as it has bytes; an AtomicOp's operand is no register's value. -/
def okData (r : Bar0Ref) (v : Nat) : Bool :=
  match r.kind with
  | .bytes n => decide (v < 2 ^ (8 * n))
  | .atomic => true
  | .jtag => okValue v

/-- Control-store address (R133). -/
def okCsAddr (v : Nat) : Bool := decide (v < 16384)

/-- Page number of a block page (R13). -/
def okPage (v : Nat) : Bool := decide (v < 2048)

/-- A command tag where the command comes from a ring. -/
def okOptTag : Option Nat → Bool
  | none => true
  | some t => okTag t

/-- An MSI-X vector of a function: the PF has 2,048, each VF 16 (R246). -/
def okVec (fn v : Nat) : Bool := decide (v < if fn = 0 then 2048 else 16)

/-- The target of a queue, by its type (R82). -/
def okTarget (ttype v : Nat) : Bool :=
  if ttype = 1 then okCuff v
  else if ttype = 2 then okPair v
  else if ttype = 3 then okEngine v
  else if ttype = 4 then okPort v
  else okCtx v

/-- A command is well formed. -/
def Instr.wf : Instr → Bool
  | .registerWrite fn ref value => okFn fn && okData ref value
  | .unmappedAccess fn _ _ => okFn fn
  | .readClear fn _ => okFn fn
  | .pgStageCommit page value => okPage page && okValue value
  | .pgStageArm page value => okPage page && okValue value
  | .pgStageDisarm page value => okPage page && okValue value
  | .pgStageDiscard page value => okPage page && okValue value
  | .commitTick page => okPage page
  | .cfgGadd page => okPage page
  | .cfgGremove page => okPage page
  | .cfgGctrlCommit value => okValue value
  | .cfgGctrlArm value => okValue value
  | .cfgGctrlDisarm value => okValue value
  | .cfgGctrlClear value => okValue value
  | .groupCommitTick group => okGroup group
  | .cfgHsCtrlArm value => okValue value
  | .cfgHsCtrlCancel value => okValue value
  | .holdStart => true
  | .holdGroupCommit => true
  | .holdRelease => true
  | .timeBaseReload => true
  | .trimCrumb => true
  | .slewCrumb => true
  | .tbCtrlSnap value => okValue value
  | .tbCtrlLoad value => okValue value
  | .tbCtrlValidate value => okValue value
  | .tbReloadWrite view value => okView view && okValue value
  | .tbTrimWrite view value => okView view && okValue value
  | .tbStepWrite value => okValue value
  | .tbGctrlGo value => okValue value
  | .tbGctrlArm value => okValue value
  | .tbGctrlDisarm value => okValue value
  | .globalStart => true
  | .referenceLost => true
  | .referenceReturn => true
  | .pllLock => true
  | .pllUnlock => true
  | .setHigh cuff => okCuff cuff
  | .setLow cuff => okCuff cuff
  | .toggle cuff => okCuff cuff
  | .hiz cuff => okCuff cuff
  | .pulse cuff => okCuff cuff
  | .train cuff => okCuff cuff
  | .period cuff => okCuff cuff
  | .capArm cuff => okCuff cuff
  | .capDisarm cuff => okCuff cuff
  | .capWindowEnd cuff => okCuff cuff
  | .pairSet pair => okPair pair
  | .pairRearm pair => okPair pair
  | .apronSet cuff => okCuff cuff
  | .nop queue => okQueue queue
  | .seam queue => okQueue queue
  | .wake ctx => okCtx ctx
  | .pioStart engine => okEngine engine
  | .pioData engine => okEngine engine
  | .pioDataLatePush engine => okEngine engine
  | .fbkLatch port => okPort port
  | .mark ttype target => okTtype ttype && okTarget ttype target
  | .irq ttype target => okTtype ttype && okTarget ttype target
  | .periodicPhase cuff => okCuff cuff
  | .padTransition cuff _ crumb => okCuff cuff && okCrumb crumb
  | .edgeStamp cuff => okCuff cuff
  | .captureRecordWrite sleeve => okSleeve sleeve
  | .cufCapcfgArm cuff value => okCuff cuff && okValue value
  | .cufCapcfgDisarm cuff value => okCuff cuff && okValue value
  | .twinCalibration cuff => okCuff cuff
  | .twinSwap cuff => okCuff cuff
  | .calDeferred cuff => okCuff cuff
  | .calFail cuff => okCuff cuff
  | .skewApply cuff => okCuff cuff
  | .guardAssert sleeve guard => okSleeve sleeve && okGuard guard
  | .blankingEnd pair => okPair pair
  | .slvRearmPairs sleeve value => okSleeve sleeve && okValue value
  | .slvRearmAll sleeve value => okSleeve sleeve && okValue value
  | .bankFault bank => okSleeve bank.sleeve
  | .bankOkReturn sleeve _ => okSleeve sleeve
  | .safeN => true
  | .safeNRelease => true
  | .doorbell fn queue _ => okFn fn && okQueue queue
  | .logQueueConsume fn queue _ => okFn fn && okQueue queue
  | .queueStageMove queue => okQueue queue
  | .wheelL1Move slot => okSlot slot
  | .slotTransfer slot _ => okSlot slot
  | .fifoDelivery ttype target _ => okTtype ttype && okTarget ttype target
  | .seamRelease id => okSeam id
  | .seamTimeout id => okSeam id
  | .qmQctrlStop value => okValue value
  | .qmQctrlResume value => okValue value
  | .qmQctrlFlush value => okValue value
  | .qmQctrlRefresh value => okValue value
  | .flushEnd queue => okQueue queue
  | .qmQsel value => okValue value
  | .tenQsel fn value => okFn fn && okValue value
  | .voteCopyArrival ttype target slot _ _ => okTtype ttype && okTarget ttype target && okVoterSlot slot
  | .doubleFault ttype target => okTtype ttype && okTarget ttype target
  | .laneSwitch ttype target => okTtype ttype && okTarget ttype target
  | .laneSelfTest _ => true
  | .trayTakeover tray => okTray tray
  | .contextMove ctx => okCtx ctx
  | .nopMicroword ctx => okCtx ctx
  | .mov ctx => okCtx ctx
  | .ldi ctx => okCtx ctx
  | .ldhi ctx => okCtx ctx
  | .add ctx => okCtx ctx
  | .adc ctx => okCtx ctx
  | .sub ctx => okCtx ctx
  | .sbc ctx => okCtx ctx
  | .addi ctx => okCtx ctx
  | .subi ctx => okCtx ctx
  | .and ctx => okCtx ctx
  | .or ctx => okCtx ctx
  | .xor ctx => okCtx ctx
  | .andi ctx => okCtx ctx
  | .ori ctx => okCtx ctx
  | .xori ctx => okCtx ctx
  | .shl ctx => okCtx ctx
  | .shr ctx => okCtx ctx
  | .sar ctx => okCtx ctx
  | .mul ctx => okCtx ctx
  | .cmp ctx => okCtx ctx
  | .cmpi ctx => okCtx ctx
  | .add3 ctx => okCtx ctx
  | .sub3 ctx => okCtx ctx
  | .cmp3 ctx => okCtx ctx
  | .adds3 ctx => okCtx ctx
  | .wrap3 ctx => okCtx ctx
  | .mov3 ctx => okCtx ctx
  | .now ctx => okCtx ctx
  | .evt ctx => okCtx ctx
  | .ldw ctx => okCtx ctx
  | .stw ctx => okCtx ctx
  | .ld32 ctx => okCtx ctx
  | .st32 ctx => okCtx ctx
  | .ldt ctx => okCtx ctx
  | .stt ctx => okCtx ctx
  | .bcc ctx => okCtx ctx
  | .bbs ctx => okCtx ctx
  | .beq ctx => okCtx ctx
  | .jumpr ctx => okCtx ctx
  | .call ctx => okCtx ctx
  | .ret ctx => okCtx ctx
  | .loop ctx => okCtx ctx
  | .lbrk ctx => okCtx ctx
  | .mode ctx => okCtx ctx
  | .trap ctx => okCtx ctx
  | .rett ctx => okCtx ctx
  | .send ctx => okCtx ctx
  | .wait ctx => okCtx ctx
  | .waitt ctx => okCtx ctx
  | .twait ctx => okCtx ctx
  | .twaitDeadline ctx => okCtx ctx
  | .emit ctx => okCtx ctx
  | .pressRelease ctx => okCtx ctx
  | .pressTimeout ctx => okCtx ctx
  | .recv ctx => okCtx ctx
  | .recvReady ctx => okCtx ctx
  | .mfs ctx => okCtx ctx
  | .mts ctx => okCtx ctx
  | .haltMicroword ctx => okCtx ctx
  | .deadlock tray => okTray tray
  | .stallWatchdog ctx => okCtx ctx
  | .contextWatchdog ctx => okCtx ctx
  | .trayIrqDelivery tray => okTray tray
  | .tryIrqSoft tray value => okTray tray && okValue value
  | .tryIrqCtrlWrite tray view value => okTray tray && okView view && okValue value
  | .tryCsAddr tray value => okTray tray && okValue value
  | .forcedMove ctx => okCtx ctx
  | .pioLevel engine => okEngine engine
  | .pioDirInsn engine => okEngine engine
  | .pioXmit engine => okEngine engine
  | .pioSamp engine _ => okEngine engine
  | .pioLoad engine => okEngine engine
  | .pioStore engine => okEngine engine
  | .pioPinw engine => okEngine engine
  | .pioCmpInsn engine => okEngine engine
  | .atTime engine => okEngine engine
  | .pinwReached engine => okEngine engine
  | .pinwTimeout engine => okEngine engine
  | .stallEnd engine => okEngine engine
  | .pioCtrlStart engine value => okEngine engine && okValue value
  | .pioCtrlStop engine value => okEngine engine && okValue value
  | .pioCtrlFlushTx engine value => okEngine engine && okValue value
  | .pioCtrlFlushRx engine value => okEngine engine && okValue value
  | .pioTxdata engine value => okEngine engine && okValue value
  | .pioRxdata engine => okEngine engine
  | .pioSyncCtrlGo value => okValue value
  | .pioSyncCtrlArm value => okValue value
  | .pioSyncCtrlDisarm value => okValue value
  | .pioSyncTime => true
  | .quadratureEdge port _ _ _ => okPort port
  | .zEdge port _ => okPort port
  | .wireFault port wires => okPort port && okWires wires
  | .standstill port => okPort port
  | .hitAction port => okPort port
  | .hitToggle port => okPort port
  | .fbkCtrlLoad port value => okPort port && okValue value
  | .fbkCtrlRevalid port value => okPort port && okValue value
  | .fbkCtrlReq port value => okPort port && okValue value
  | .fbkCmp port _ value => okPort port && okValue value
  | .fbkCmpadj port value => okPort port && okValue value
  | .ssiPeriodicRequest port => okPort port
  | .ssiFrameEnd port _ _ => okPort port
  | .ssiRecoveryTimeout port => okPort port
  | .hello hdr _ _ _ _ _ _ => okEnp hdr.port
  | .digest hdr _ _ => okEnp hdr.port
  | .prepare hdr id _ _ => okEnp hdr.port && okLaunch id
  | .ack hdr id _ _ => okEnp hdr.port && okLaunch id
  | .commit hdr id => okEnp hdr.port && okLaunch id
  | .cancel hdr id => okEnp hdr.port && okLaunch id
  | .heartbeat hdr _ _ _ _ => okEnp hdr.port
  | .lastgasp hdr _ => okEnp hdr.port
  | .foreignFrame port _ => okEnp port
  | .sync port _ _ => okEnp port
  | .followUp port _ _ => okEnp port
  | .pdelayReq port _ => okEnp port
  | .pdelayResp hdr _ _ => okEnp hdr.port
  | .pdelayRespFollowUp hdr _ => okEnp hdr.port
  | .announce port _ => okEnp port
  | .hbperTimer => true
  | .gptpInterval port _ => okEnp port
  | .memberTimeout member => okMember member
  | .frameTransmit port _ => okEnp port
  | .plcaLost port => okEnp port
  | .ensLctrlGo value => okValue value
  | .ackDeadline => true
  | .commitDeadline id => okLaunch id
  | .strobePulse => true
  | .strobeEdge pairk _ => okStrobe pairk
  | .ensStbCal value => okValue value
  | .strobeCalibration => true
  | .bar2Read fn _ _ => okFn fn
  | .bar2Write fn _ _ => okFn fn
  | .writeBufferApply fn => okFn fn
  | .perstN => true
  | .pcieRefLoss => true
  | .flr fn => okFn fn
  | .d3hotEntry fn _ => okFn fn
  | .d0Return fn => okFn fn
  | .vectorUnmask fn vec _ => okFn fn && okVec fn vec
  | .tenRingCtrlWrite fn value => okFn fn && okValue value
  | .tenCmdTail fn value => okFn fn && okValue value
  | .tenCplHead fn value => okFn fn && okValue value
  | .commandFetch fn _ => okFn fn
  | .completionWrite fn => okFn fn
  | .nopCommand tag => okTag tag
  | .queueCreate tag => okTag tag
  | .queueFree tag => okTag tag
  | .queueCtrlStop tag => okTag tag
  | .queueCtrlResume tag => okTag tag
  | .queueCtrlFlush tag => okTag tag
  | .queueAdmit tag => okTag tag
  | .slabMap tag => okTag tag
  | .slabUnmap tag => okTag tag
  | .resAlloc tag => okTag tag
  | .resFree tag => okTag tag
  | .pinLend tag => okTag tag
  | .portGrant tag => okTag tag
  | .flagSet tag => okTag tag
  | .ctxStart tag => okTag tag
  | .cfgWrite tag => okTag tag
  | .cfgCommit tag => okTag tag
  | .ucodeLoad tag _ => okTag tag
  | .ucodeFree tag => okTag tag
  | .ucodeUpdate tag _ => okTag tag
  | .tenantQuota tag => okTag tag
  | .tenantCredit tag => okTag tag
  | .tenantAbort tag => okTag tag
  | .tenantRelease tag => okTag tag
  | .tenAbort fn value => okFn fn && okValue value
  | .abortDone fn => okFn fn
  | .hvcEvent source => okSource source
  | .moderationTimer fn vec => okFn fn && okVec fn vec
  | .irqRoute tag => okTag tag
  | .irqQuery tag => okTag tag
  | .hvcScfg value => okValue value
  | .hvcClaim core => okCore core
  | .hvcComplete core value => okCore core && okValue value
  | .hvcMargin view value => okView view && okValue value
  | .tenIrqEnSet fn value => okFn fn && okValue value
  | .tenIrqEnClr fn value => okFn fn && okValue value
  | .tenIrqPendSet fn value => okFn fn && okValue value
  | .tenIrqPendClr fn value => okFn fn && okValue value
  | .tenIrqShenSet fn value => okFn fn && okValue value
  | .tenIrqShenClr fn value => okFn fn && okValue value
  | .tenIrqShpendClr fn value => okFn fn && okValue value
  | .dmaSetup tag => okTag tag
  | .dmaCtrlDisable channel tag => okChannel channel && okOptTag tag
  | .dmaCtrlEnable channel tag => okChannel channel && okOptTag tag
  | .dmaCtrlContinue channel tag => okChannel channel && okOptTag tag
  | .dmaCtrlPush channel value => okChannel channel && okValue value
  | .dmaSubmit tag => okTag tag
  | .dmaCqHead channel value tag => okChannel channel && okValue value && okOptTag tag
  | .dmaQuery tag => okTag tag
  | .dmaDescriptorComplete channel _ => okChannel channel
  | .dmaHalt channel _ _ _ => okChannel channel
  | .drainingEnd channel => okChannel channel
  | .tenMbxCtrlSend fn value => okFn fn && okValue value
  | .tenMbxCtrlPop fn value => okFn fn && okValue value
  | .ping fn => okFn fn
  | .info fn => okFn fn
  | .calstat fn => okFn fn
  | .notice fn _ => okFn fn
  | .mailboxReply fn => okFn fn
  | .mbxAliveTick => true
  | .pwrCtrlReqProvision => true
  | .pwrCtrlReqRun => true
  | .pwrCtrlReqSafe => true
  | .pwrCtrlReqDoze => true
  | .dbgCtrlHalt value => okValue value
  | .dbgCtrlResume value => okValue value
  | .dozeReq => true
  | .dozeReqRetry => true
  | .dozeEntry => true
  | .wakeEvent _ _ => true
  | .wakeComplete => true
  | .powerFailN => true
  | .powerFailNRelease => true
  | .sysRstNAssert => true
  | .sysRstNRelease _ => true
  | .supplyLoss => true
  | .temperatureSample value => okValue value
  | .smbusReadStatus => true
  | .smbusReadTemp => true
  | .smbusReadAlerts => true
  | .smbusSafe write => okValue write.value
  | .secHbootCtrlGo _ => true
  | .secCtrlConfirm value => okValue value
  | .secCtrlRbcommit value => okValue value
  | .secImgCtrlWrite value => okValue value
  | .imageWriteComplete _ _ => true
  | .secImgCtrlApply value => okValue value
  | .stewardFailover core => okCore core
  | .stewardResync core _ => okCore core
  | .scrub word err => okWord64 word && okErr err
  | .rowRemap row => okRow row
  | .csScrub tray addr err => okTray tray && okCsAddr addr && okErr err
  | .csRepair tray addr => okTray tray && okCsAddr addr
  | .referenceEdge => true
  | .guardRelease sleeve guard => okSleeve sleeve && okGuard guard
  | .wiresDisagree port wires => okPort port && okWires wires
  | .beacon port => okEnp port
  | .linkTrained => true
  | .linkReachesL0 => true
  | .configurationWrite fn _ _ _ _ => okFn fn
  | .reservedKindMessage fn => okFn fn
  | .fuseBurnComplete => true

end Sys2Proof
end

