-- ==== Sys2Proof/Decode.lean ====
section
/-! DEFINITION. The words of the table. The part takes commands at its register pages, rings, pins and
ports; spec/opcode_table.json gives no row any bits, so no word spells a command. -/

namespace Sys2Proof

/-- The command a word spells by the table's bits: none, since the table gives no row any bits. -/
def decodeTableWord (_nbits _w : Nat) : Option Instr := none

end Sys2Proof
end

