-- ==== Sys2Proof/Config.lean ====
section
/-! DEFINITION. What one part or one board fixes, and the free values the spec leaves open.
Every constant here is opaque: nothing in the model or in a proof can see a value of it. -/

namespace Sys2Proof

/-- The n-th free pick: which of several candidates the steward firmware takes where the spec
says 'any free one' or leaves the choice to the firmware (R262, R175, R111, R120). The operation
that uses it reduces it to one of the candidates. Log entry 3. -/
opaque Config.pick : Nat → Nat

/-- The n-th free 32-bit value, where the spec calls a register undefined (R301, R309:
DMA_BYTES after an abort or a disable). Log entry 3. -/
opaque Config.freeWord : Nat → BitVec 32

/-- The words of a version of the Holveler base set in the control store (R134, R169, R354), by version and address: the
spec gives the routines' effects and no words. Log entry 8. -/
opaque Config.baseWord : Nat → Nat → BitVec 40

/-- The device's own serial number, 64 bits (R232); the spec gives no value. Log entry 9. -/
opaque Config.serial : Nat

/-- The SHA-256 of a canonical configuration, 256 bits, as a function of the words hashed (R234).
The spec names the digest and the fields, not the byte layout of the canonical form. Log entry 9. -/
opaque Config.digest : List Nat → BitVec 256

/-- The hardware-measured fraction, in crumbs, added at a realignment (R42 step 2): the phase of
the PLL tick against the reference edge, by the number of the measurement. Log entry 3. -/
opaque Config.phase : Nat → Nat

/-- The sources that the steward firmware serves, and the core to which it routes each (R275): the spec says that it routes the
sources it serves, and names none. Log entry 30. -/
opaque Config.serves : Nat → Bool
opaque Config.serveCore : Nat → Nat

end Sys2Proof
end

