-- ==== Sys2Proof/Machine/State.lean ====
section
/-! DEFINITION. The state of the block as plain data, its stops, and the state right after reset. -/

namespace Sys2Proof.Machine

open Sys2Proof

/-- Why a step stops the machine. -/
inductive Fault where
  /-- Raised by every meaning whose operand names a unit the device does not have (cuff 1,024,
  tray 9, page 2,048): no sender can form such a command (R8). Safe: the model stops where the
  hardware has nothing to do. -/
  | noSuchUnit
  deriving DecidableEq, Repr

/-- Why a step refuses a command. -/
inductive Refusal where
  /-- Raised by an arm of exec that has no meaning yet. Safe. -/
  | notModelled (mnemonic : String)
  deriving DecidableEq, Repr

/-- What the device has sent across its boundary, oldest first (the model's own field, log entry 2). -/
inductive Out where
  /-- the data of a register read -/
  | readData (fn : Nat) (v : Word)
  /-- the bytes of a BAR2 read -/
  | readBytes (fn : Nat) (bytes : List Nat)
  /-- a posted write to host memory -/
  | hostWrite (addr : Nat) (bytes : List Nat)
  /-- a read request to host memory of a number of bytes, 0 for a flush read (R294, R297) -/
  | hostRead (addr len : Nat)
  /-- an MSI-X message of a function's vector -/
  | msix (fn vec : Nat)
  /-- PM_PME -/
  | pme (fn : Nat)
  /-- WAKE_N asserted -/
  | wakeN
  /-- an SMBus answer of the port at a 7-bit address (R334) -/
  | smbus (addr v : Nat)
  /-- the data of a JTAG read (R338) -/
  | jtag (v : Word)
  /-- a Nelvi frame on port n's segment from a time on: destination, source, EtherType, header and body (R230) -/
  | frame (port start dst src etype : Nat) (bytes : List Nat)
  /-- a gPTP message on port n's segment from a time on: its domain, kind and stamps (R227) -/
  | gptp (port start domain kind : Nat) (stamps : List Nat)
  /-- BEACON of a PLCA coordinator (R225) -/
  | beacon (port : Nat)
  /-- a memory request completed with Unsupported Request (R246, R248) -/
  | unsupported (fn : Nat)
  /-- a strobe pulse on both pairs -/
  | strobe (at_ : Nat)
  deriving DecidableEq, Repr

/-- The time base (R25, R33, R34, R39, R41). -/
structure TimeBase where
  now : Nat := 0
  epoch : Nat := 0
  relL : Nat := 0xFFFFFFFF
  running : Bool := false
  trimAcc : Int := 0
  slewTicks : Nat := 0
  carry : Int := 0
  goPending : Bool := false
  goAt : Option Nat := none
  deriving DecidableEq, Repr

/-- A pending commit (R17, R18). -/
inductive Armed where
  | no
  | now
  | timed (t : Nat)
  deriving DecidableEq, Repr

/-- The staging state of a page (R17-R21); `reload`: its owner was aborted while an immediate commit waited, and its shadow
is reloaded after it (R20); `used`: the tick on which an action last used its settings while an immediate commit waited
(R96). -/
structure Page where
  armed : Armed := .no
  reload : Bool := false
  used : Option Nat := none
  deriving DecidableEq, Repr

/-- A commit group (R21). -/
structure Group where
  members : List Nat := []
  armed : Armed := .no
  deriving DecidableEq, Repr

/-- Hold-and-swap (R23, R24, R387), and the pages whose PG_STATUS.HELD an abort has cleared (R13). -/
structure HoldSwap where
  groups : List Nat := []
  done : Nat := 0
  sleeves : Nat := 0
  hold : Nat := 0
  rel : Nat := 0
  cleared : List Nat := []
  deriving DecidableEq, Repr

/-- An action entry (R78) as the scheduler and the targets hold it. -/
abbrev Action := ActionEntry

/-- The entry of sixteen zero bytes: a NOP at time 0. -/
def Action.zero : Action := ActionEntry.mk 0 0 false false 0 0 0

/-- Where an action came from (R89 NEAR, QUEUE, INDEX). -/
abbrev Origin := CopyOrigin

/-- An action past the queue stage: its origin, the target it goes to (TTYPE of R82 and TARGET),
the time it is to execute at once lateness is decided, whether it was found late, whether
lateness has been decided at the target, whether its parity is damaged (R76, R101), the number of its
EMIT, by which the copies of a guarded context's action are told apart (R121), and the TIME of its predecessor in its
queue (R84). -/
structure Flight where
  act : Action := Action.zero
  org : Origin := .queue 0 0
  ord : Nat := 0
  ttype : Nat := 0
  target : Nat := 0
  due : Nat := 0
  late : Bool := false
  judged : Bool := false
  bad : Bool := false
  arrived : Nat := 0
  head : Option Nat := none
  prev : Option Nat := none
  deriving DecidableEq, Repr

/-- Where a reference of the wheel stands (R91, R92). -/
inductive Stage where
  | l1 | l0 | ready
  deriving DecidableEq, Repr

structure WheelRef where
  fl : Flight := {}
  stage : Stage := .l1
  deriving DecidableEq, Repr

/-- What a cuff is lent to (R181, R203). -/
inductive Borrower where
  | none
  | pio (e : Nat)
  | fbk (p : Nat)
  deriving DecidableEq, Repr

/-- A cuff behind its registers (R47-R76). `past` holds the intervals and EDGES codes of earlier arms of capture that an
edge still in the glitch filter may belong to (R51, R56). -/
structure Cuff where
  driven : Bool := false
  level : Bool := false
  edges : List (Nat × Bool) := []
  pad : Bool := false
  padTick : Nat := 0
  apMode : Bool := true
  apBank : Bool := false
  apTrip : Bool := false
  apAbort : Bool := false
  apVote : Bool := false
  fifo : List Flight := []
  armed : Bool := false
  armEdges : Nat := 0
  armFrom : Option Nat := none
  disarmAt : Option Nat := none
  past : List (Nat × Nat × Nat) := []
  winEnd : Option Nat := none
  perRun : Bool := false
  seq : Nat := 0
  filt : Option (Bool × Nat × Nat) := none
  lastStamp : Option Nat := none
  miss : Bool := false
  lastT : Option Nat := none
  lastEdge : Option Nat := none
  busyTo : Option Nat := none
  skew : Int := 0
  skewPend : Bool := false
  calReady : Option Nat := none
  swapTick : Nat := 0
  owner : Nat := 0
  alloc : Bool := false
  lent : Borrower := .none
  held : Bool := false
  deriving DecidableEq, Repr

/-- A capture record in a sleeve's buffer (R60). -/
structure CapRec where
  time : Nat := 0
  rising : Bool := false
  seq : Nat := 0
  cuff : Nat := 0
  tinv : Bool := false
  deriving DecidableEq, Repr

/-- A sleeve behind its registers. `lost`: its bank supply has failed since the device left OFF (R365); `absent`: the supply lies
below 1.0 V, and the pins are high-impedance (R367, R370). -/
structure Sleeve where
  buf : List CapRec := []
  lost : Bool := false
  absent : Bool := false
  deriving DecidableEq, Repr

/-- The state of a pair (R64): 0 OFF, 1 A, 2 B; `swung` is the time of its last transition (R65). -/
structure Pair where
  st : Nat := 0
  swung : Option Nat := none
  blankEnd : Option Nat := none
  deriving DecidableEq, Repr

/-- An agreed action a voter keeps until it leaves the head of the near FIFO (R121), with the slots
whose copy agreed, the slots that lost the vote, and the tick on which two copies agreed. -/
structure Kept where
  fl : Flight := {}
  seen : List Nat := []
  lost : List Nat := []
  passed : Bool := false
  since : Nat := 0
  deriving DecidableEq, Repr

/-- A voter (R121): three copy slots, the agreed actions kept, and the numbers below which the votes of a near-path origin
are closed. -/
structure Voter where
  slots : List (List Flight) := [[], [], []]
  kept : List Kept := []
  closed : List (CopyOrigin × Nat) := []
  deriving DecidableEq, Repr

/-- An admitted contract (R113, R117, R120). -/
structure Contract where
  rate : Nat := 0
  burst : Nat := 0
  lead : Nat := 0
  intv : Nat := 0
  tat : Nat := 0
  trays : List Nat := []
  deriving DecidableEq, Repr

/-- A queue: its descriptor (R83) and what the scheduler keeps beside it. `pattern` is the offset, period and width of the
periodic pattern that its accepted actions have left running (R52, R54). -/
structure Queue where
  base : Nat := 0
  log2 : Nat := 0
  head : Nat := 0
  tail : Nat := 0
  cls : Nat := 0
  late : Nat := 0
  ttype : Nat := 0
  target : Nat := 0
  tenant : Nat := 0
  state : Nat := 0
  err : Nat := 0
  logq : Nat := 0
  logen : Bool := false
  heldDb : Option Nat := none
  miss : Bool := false
  lastTime : Option Nat := none
  lastAct : Option Action := none
  lastLevel : Option Bool := none
  lastPair : Option Nat := none
  lastEdge : Option Nat := none
  pattern : Option (Nat × Nat × Nat) := none
  prevTime : Option Nat := none
  resumeSt : Nat := 1
  contract : Option Contract := none
  deriving DecidableEq, Repr

/-- An active seam (R97, R98), with the SEAM TIME of each member. -/
structure Seam where
  count : Nat := 0
  members : List Nat := []
  times : List (Nat × Nat) := []
  latest : Nat := 0
  expires : Option Nat := none
  deriving DecidableEq, Repr

/-- The guarded scheduler lanes (R123), the deliveries the scheduler has made on a tick (R93), and, of the near-path network,
the ticks of its last actions and the tray its round goes on at (R162). -/
structure Lanes where
  spare : Bool := true
  testing : Bool := false
  onTick : Nat := 0
  sent : Nat := 0
  near : List Nat := []
  lastTray : Nat := 0
  deriving DecidableEq, Repr

/-- States of a context (R132). -/
inductive CState where
  | free | idle | run | wait | twait | recv | press | trap | halted | faulted | moving
  deriving DecidableEq, Repr

/-- A near-path port of a context (R161). -/
structure NearPort where
  ttype : Nat := 0
  target : Nat := 0
  late : Nat := 0
  logen : Bool := false
  logq : Nat := 0
  deriving DecidableEq, Repr

/-- A microengine context (R138, R140, R147-R161). `slots` holds the contexts of a guarded one's triple in slot order (R120),
`softK` the K of a TRAP whose SOFT is pending (R151). `home` is the unit of its start address (R168), `freed` the release of its
wait that comes while it moves (R178), `base` how far a base routine has come and `baseSaved` how far the one that a trap
cut had come (R169). -/
structure Ctx where
  st : CState := .free
  tenant : Nat := 0
  guarded : Bool := false
  slots : List Nat := []
  pc : Nat := 0
  w : List (BitVec 20) := List.replicate 16 0
  c : Bool := false
  z : Bool := false
  n : Bool := false
  v : Bool := false
  mode : BitVec 4 := 0
  pmode : Option (BitVec 4) := none
  slot : Option (Nat × Nat) := none
  seg : Nat := 0
  lc : Nat := 0
  lstart : Nat := 0
  lend : Nat := 0
  la : Bool := false
  stack : List Nat := []
  save : List (BitVec 20) := List.replicate 8 0
  saved : Bool := false
  inHandler : Bool := false
  tcause : Nat := 0
  tprio : Nat := 0
  tinfo : Nat := 0
  taddr : Nat := 0
  traps : Nat := 0
  pend : List Nat := []
  softK : Nat := 0
  wk0 : BitVec 20 := 0
  wk1 : BitVec 20 := 0
  evtFlag : Nat := 0
  evtTime : Nat := 0
  waitFlag : Nat := 0
  waitKind : Nat := 0
  since : Nat := 0
  deadline : Nat := 0
  lastPoint : Nat := 0
  ports : Tbl NearPort := []
  home : Option Nat := none
  retSt : CState := .run
  freed : Option (Nat × Option Bool) := none
  emits : Nat := 0
  sent : List Flight := []
  base : Option Nat := none
  baseSaved : Option Nat := none
  took : Option Nat := none
  deriving DecidableEq, Repr

/-- An event flag of a tray (R154, R155). `sentAt` is the fabric clock of the last SEND word that named it, `was` whether the
flag was set before it, and `quiet` whether it found neither a waiter nor an event trap. -/
structure Flag where
  owner : Option Nat := none
  ext : Bool := false
  long : Bool := false
  set : Bool := false
  senders : List Nat := []
  sentAt : Option Nat := none
  was : Bool := false
  quiet : Bool := false
  deriving DecidableEq, Repr

/-- A tray behind its registers: the asserted level of each source, the tray number whose IDs it answers to, and,
at the spare, the tray whose place it is taking, since when, and the contexts that have moved. By context of the tray,
`issued` is the tick after that of its last word and `window` the entry (1) or the exit (2) of a trap in progress; by
engine, `engineAt` is the tick after its last issue and `lastOf` the context after the one that issued last (R133, R149,
R151). `emitAt`, `emitted`: the fabric clock of its last EMIT and how many it has accepted there (R162); `base`: the version
of its base set, where an update has set one (R354). -/
structure Tray where
  levels : Nat := 0
  rebuildFor : Option Nat := none
  since : Nat := 0
  serves : Option Nat := none
  moved : List Nat := []
  issued : Tbl Nat := []
  engineAt : Tbl Nat := []
  lastOf : Tbl Nat := []
  window : Tbl Nat := []
  emitAt : Nat := 0
  emitted : Nat := 0
  base : Option Nat := none
  deriving DecidableEq, Repr

/-- A PIO engine behind its registers (R180-R199). Bit boundaries are counted from `clk0`; `bit` is the one at which the next
period starts. While the instruction at PC is in progress `busy` is true, with its word and settings (`insn`, `cfg`, `smp`,
`wto`), the bits and HOLD periods still to come (`todo`, `rest`), the levels its samples will find and the samples that wait for
their time. `needAt`: a LOAD met an empty FIFO on this tick; `fed`: a stall ends at boundary `bit`, served at `fedAt`; `begun`, `beganWith`: the
tick of the last PIO_START with its address, SUB[0], time and whether the engine ran before, `beganCut`: it cut a period short
of that run; `thawFrom`: frozen since that
time. -/
structure Pio where
  st : Nat := 0
  pc : Nat := 0
  txsr : Nat := 0
  rxsr : Nat := 0
  txcnt : Nat := 0
  rxcnt : Nat := 0
  matched : Bool := false
  ended : Bool := false
  atMet : Bool := false
  tx : List Nat := []
  rx : List Nat := []
  clk0 : Nat := 0
  bit : Nat := 0
  waitFrom : Nat := 0
  waited : Nat := 0
  waitAt : Nat := 0
  lastSample : Option Nat := none
  left : Nat := 0
  busy : Bool := false
  insn : Nat := 0
  cfg : Nat := 0
  smp : Nat := 0
  wto : Nat := 0
  todo : Nat := 0
  rest : Nat := 0
  skip : Bool := false
  levels : Nat := 0
  samples : List (Nat × Bool × Bool) := []
  needAt : Option Nat := none
  fed : Bool := false
  fedAt : Nat := 0
  beganCut : Bool := false
  begun : Option Nat := none
  beganWith : Nat × Bool × Nat × Bool := (0, false, 0, false)
  thawFrom : Option Nat := none
  owner : Nat := 0
  alloc : Bool := false
  base : Nat := 0
  count : Nat := 0
  forPort : Option Nat := none
  deriving DecidableEq, Repr

/-- What a discarded frame, or an edge that turns out illegal, puts back (R207, R218): registers, the position, FBK_STATUS[3:0],
the advance of CMP and the hits it made with their stamp, whether it cleared EN, the line delay before and after it, the latches it
took, and what Fbk holds beside the registers. `posStands`, `cmpStands` and `validStands`: a load, a write of FBK_CMP, or a load or
FBK_CTRL.REVALID has come since, and stands. -/
structure Frame where
  regs : List Nat := []
  pos : Nat := 0
  stat : Nat := 0
  cmp : Nat := 0
  hitN : Nat := 0
  time : Nat := 0
  en : Bool := false
  ldly : Nat × Nat := (0, 0)
  latches : List (Nat × Bool) := []
  prevPos : Option (Nat × Nat) := none
  lastTick : Nat := 0
  lastCount : Option Nat := none
  trail : List (Nat × Nat) := []
  posStands : Bool := false
  cmpStands : Bool := false
  validStands : Bool := false
  deriving DecidableEq, Repr

/-- A feedback port behind its registers (R202-R222). `trail` holds the last changes of the position, newest first: the stamp
and the position before; `past` those of the speed: the stamp, FBK_SPEED before and the newest like edge before; `quad` the tick and
line (A) of the last quadrature change, and what undoes its count; `lastCount` the stamp of the last counted edge; `line` the transitions of the data line in a frame;
`cmpTick`, `cmpOld`, `cmpSet`, `caught`: a write of FBK_CMP or FBK_CMPADJ on that tick, the CMP before it, whether CMP was
written, and whether its catch-up hit was taken; `hitTick` the tick of the last hit acted on; `marks` the stamps whose
position is to be latched. -/
structure Fbk where
  a : Bool := false
  b : Bool := false
  likes : List Nat := []
  lastTick : Nat := 0
  hits : List Nat := []
  toggles : List Nat := []
  loaded : Option (Nat × Bool) := none
  reqAt : Option Nat := none
  lastReq : Nat := 0
  ended : Option Nat := none
  undo : Option Frame := none
  prevPos : Option (Nat × Nat) := none
  latches : List (Nat × Bool) := []
  marks : List Nat := []
  trail : List (Nat × Nat) := []
  past : List (Nat × Nat × Option Nat) := []
  quad : Option (Nat × Bool × Option Frame) := none
  lastCount : Option Nat := none
  line : List (Nat × Bool) := []
  cmpTick : Option Nat := none
  cmpOld : Nat := 0
  cmpSet : Bool := false
  caught : Bool := false
  hitTick : Option Nat := none
  owner : Nat := 0
  alloc : Bool := false
  base : Nat := 0
  count : Nat := 0
  engine : Nat := 0
  deriving DecidableEq, Repr

/-- What is known of an ensemble member (R231-R234): the tick and SEQ of its last frame, whether it has gone,
its version range, and the term it claims the leadership for. -/
structure Member where
  lastTick : Option Nat := none
  gone : Bool := true
  seq : Option Nat := none
  vmin : Nat := 0
  vmax : Nat := 0
  claims : Option Nat := none
  deriving DecidableEq, Repr

/-- A launch cached by a member (R236-R242): its participants, this member's own ACK, what is held of the
leader's decision, the strobe pairs that showed the pulse, the decision, and, at the leader, the ACKs that are in
and whether the pulse has been driven. -/
structure Launch where
  id : Nat := 0
  time : Nat := 0
  strobe : Bool := false
  recs : List LaunchRec := []
  parts : List Nat := []
  ack : Nat := 0
  ackRec : Nat := 0
  commit : Bool := false
  cancel : Bool := false
  seen : List Nat := []
  decided : Option Bool := none
  mine : Bool := false
  acked : List Nat := []
  pulsed : Bool := false
  deriving DecidableEq, Repr

/-- The ensemble block behind its registers (R224-R243). `offset` is the whole signed offset to the leader, of which ENS_OFFSET
shows 32 bits (R229); `phase` the port whose phase is tracked with the tracked offset, and `gptp` the newest gPTP estimate,
both with the step that was still to be slewed added (R228). -/
structure Ens where
  members : Tbl Member := []
  cache : List Launch := []
  counter : Nat := 0
  sendSeq : Nat := 0
  measured : Bool := false
  offset : Int := 0
  phase : Option (Nat × Int) := none
  gptp : Int := 0
  calReq : Bool := false
  calAt : Option Nat := none
  calPulsed : Bool := false
  calSeen : List Nat := []
  calDone : Bool := false
  syncT : Option Nat := none
  hbAt : Option Nat := none
  deriving DecidableEq, Repr

/-- A frame waiting at a port, with the deadline of its retries (R241). Kinds from 0x100 on are gPTP's. -/
structure TxFrame where
  kind : Nat := 0
  body : List Nat := []
  until_ : Option Nat := none
  tries : Nat := 0
  deriving DecidableEq, Repr

/-- An ensemble port behind its registers: frames to send, the tick of the last BEACON (none after the fall back
to CSMA/CD), the ticks of the last sync and pdelay messages, and the stamps of a pdelay measurement (R226, R227, R241). -/
structure Enp where
  queue : List TxFrame := []
  lastBeacon : Option Nat := none
  syncAt : Option Nat := none
  pdAt : Option Nat := none
  pdT1 : Nat := 0
  pdT2 : Nat := 0
  pdT4 : Nat := 0
  deriving DecidableEq, Repr

/-- A command in flight (R253, R259). -/
structure Cmd where
  tag : Nat := 0
  seq : Nat := 0
  opcode : Nat := 0
  flags : Nat := 0
  user : Nat := 0
  param : Nat := 0
  done : Bool := false
  dup : Option Nat := none
  deriving DecidableEq, Repr

/-- A completion or fault record (R254, R257). -/
structure Cpl where
  seq : Nat := 0
  status : Nat := 0
  kind : Nat := 0
  user : Nat := 0
  tag : Nat := 0
  opcode : Nat := 0
  orig : Nat := 0
  res0 : Nat := 0
  res1 : Nat := 0
  notify : Bool := false
  holdsTag : Bool := false
  deriving DecidableEq, Repr

/-- An entry of the command history (R261). -/
structure Hist where
  seq : Nat := 0
  opcode : Nat := 0
  cpl : Option Cpl := none
  deriving DecidableEq, Repr

/-- A PCIe function behind its registers. `ringed`: its rings have been enabled since the last reset, so the completion ring takes
records (R252). `aliveBase`: MBX_ALIVE at its last FLR, from which TEN_MBX_ALIVE counts (R310). -/
structure Fn where
  buf : List (Nat × List (Option Nat)) := []
  qdbL : Nat := 0
  cmdTail : Nat := 0
  inflight : List Cmd := []
  hist : List Hist := []
  ringed : Bool := false
  waiting : List Cpl := []
  aborting : Bool := false
  abortTags : List Nat := []
  abortHeld : Bool := false
  abortCut : Bool := false
  flr : Bool := false
  dstate : Nat := 0
  pmeEn : Bool := false
  pmeStatus : Bool := false
  bme : Bool := false
  msixEn : Bool := false
  fmask : Bool := false
  mboxOut : List (List Nat) := []
  mboxIn : List (List Nat) := []
  mboxHeld : Nat := 0
  aliveBase : Nat := 0
  replies : List (List Nat) := []
  deriving DecidableEq, Repr

/-- A configuration request that the link holds (R329): enables, a function's sleep or return, or MSI-X state. -/
inductive ConfigReq where
  | config (bme vfEnable pmeEn : Option Bool) (more : ConfigMore)
  | sleep (cold : Bool)
  | awake
  | msix (vec : Nat) (write : MsixWrite)
  deriving DecidableEq, Repr

/-- A posted write of a function that the link holds: a BAR0 write of a value, or, with bytes, a BAR2 write (R251); with `cfg` a
configuration request (R329). -/
structure Posted where
  fn : Nat := 0
  addr : Nat := 0
  value : Nat := 0
  bytes : List (Option Nat) := []
  cfg : Option ConfigReq := none
  deriving DecidableEq, Repr

/-- The PCIe link, the VF Enable bit and ASPM L1 as the host has set it; the messages that wait for L0 and the posted writes held while DOZE lasts (R251,
R283). -/
structure Link where
  up : Bool := false
  l0 : Bool := true
  l1 : Bool := false
  vfEnable : Bool := false
  held : List (Nat × Nat) := []
  posted : List Posted := []
  deriving DecidableEq, Repr

/-- The function the command fetcher visited last, and the DMA channel served last (R259, R296); the tick of the last count of
MBX_ALIVE (R307). -/
structure Turns where
  fetch : Nat := 511
  chan : Nat := 31
  alive : Nat := 0
  deriving DecidableEq, Repr

/-- The route of an interrupt source (R275), with the tick of the newest change of its pending bit by an event or a clear, and the bit
as it stood before that tick (R285). -/
structure Src where
  prio : Nat := 0x80
  func : Nat := 0
  vec : Nat := 0
  core : Nat := 0
  stw : Bool := false
  cold : Bool := false
  at_ : Option Nat := none
  was : Bool := false
  deriving DecidableEq, Repr

/-- An MSI-X vector (R280, R282). -/
structure Vec where
  count : Nat := 0
  start : Option Nat := none
  masked : Bool := true
  pba : Bool := false
  deriving DecidableEq, Repr

/-- A DMA descriptor with its index (R291). -/
structure Desc where
  idx : Nat := 0
  src : Nat := 0
  dst : Nat := 0
  len : Nat := 0
  ctrl : Nat := 0
  pattern : Nat := 0
  deriving DecidableEq, Repr

/-- A DMA channel behind its registers (R290-R302); of the descriptor in progress, the bytes done, those of its source read ahead of
them, those written to a host destination, and where a compare found a difference. `quiet`: an entry into DOZE waits, and the
channel's requests have returned (R302). -/
structure Chan where
  queue : List Desc := []
  st : Nat := 0
  heldRec : Option (List Nat) := none
  outstanding : Bool := false
  heldNotify : Bool := false
  pos : Nat := 0
  ahead : List Nat := []
  quiet : Bool := false
  got : List Nat := []
  diff : Option Nat := none
  owner : Nat := 0
  alloc : Bool := false
  deriving DecidableEq, Repr

/-- Modes and pins (R312-R334, R366, R374). Mode 0 stands for OFF. `ret` is the mode before HALT or DOZE,
`safeNext` the SAFE cause that waits for the resume or the wake, `haltHeld` a HALT held until the wake,
`entering` a DOZE entry and `wake` a wake in progress, `aligning` a realignment that waits for the reference (R42), `frozenAt` the
tick at which the contexts stopped. `supplies`: the core supplies are in range (R316); `dozeTry`: the tick on which a request of the
pin DOZE_REQ was refused last (R326); `failHeld`: POWER_FAIL_N came in DOZE, and its steps wait for the wake (R331). -/
structure Power where
  mode : Nat := 1
  ret : Nat := 1
  safePin : Bool := false
  failPin : Bool := false
  dozeReq : Bool := false
  resetPin : Bool := false
  refOk : Bool := false
  locked : Bool := false
  pcieRef : Bool := false
  safeNext : Nat := 0
  haltHeld : Bool := false
  entering : Bool := false
  wake : Bool := false
  aligning : Bool := false
  supplies : Bool := true
  dozeTry : Option Nat := none
  failHeld : Bool := false
  frozenAt : Option Nat := none
  deriving DecidableEq, Repr

/-- A flash slot: its state sector and its image (R341-R344). -/
structure Slot where
  gen : Nat := 0
  state : Nat := 0xFF
  boots : Nat := 0
  image : ImageInfo := {}
  deriving DecidableEq, Repr

/-- A live update in hand (R177-R179, R354): the base set's of an apply, or the command's function and tag, the
units and the new words of each unit in order; the tray numbers to come, a mask of those done, and whether some
context was moved between two words. -/
structure Update where
  apply : Bool := false
  basever : Nat := 0
  fn : Nat := 0
  tag : Nat := 0
  units : Nat := 0
  words : List Nat := []
  todo : List Nat := []
  done : Nat := 0
  forced : Bool := false
  deriving DecidableEq, Repr

/-- An apply in hand (R352-R355): the versions it brings, the parts still to come with the one in hand, the steward core that
loads the new firmware, the ports to come, the port that is down, and until when. -/
structure Apply where
  fwver : Nat := 0
  basever : Nat := 0
  parts : Nat := 0
  part : Nat := 0
  core : Option Nat := none
  ports : List Nat := []
  port : Option Nat := none
  until_ : Nat := 0
  deriving DecidableEq, Repr

/-- Boot, images and stewards (R339-R355). `target` is the slot an image is written to; `badRows`, `badCores` and `badFlash` what
the self-tests and the flash reads of this boot find; `calAt` the tick of its calibration rounds (R340). -/
structure Boot where
  slotA : Slot := {}
  slotB : Slot := {}
  target : Nat := 0
  apply : Option Apply := none
  badRows : List Nat := []
  badCores : Nat := 0
  badFlash : Nat := 0
  calAt : Nat := 0
  fuses : Nat := 0
  burning : Option Nat := none
  stopped : Bool := false
  hostWait : Bool := false
  hboot : Option ImageInfo := none
  writing : Bool := false
  fails : Tbl (List Nat) := []
  deriving DecidableEq, Repr

/-- REL's record ring and row repair (R356-R359). -/
structure Rel where
  ring : Tbl (BitVec 256) := []
  missed : Bool := false
  rowCorr : Tbl Nat := []
  recorded : List Nat := []
  deriving DecidableEq, Repr

/-- The whole block. -/
structure State where
  pending : List Instr := []
  out : List Out := []
  fresh : Nat := 0
  tick : Nat := 0
  regs : Tbl Word := []
  shadow : Tbl Word := []
  mem : List Host.Cell := []
  eccBad : List Nat := []
  eccSoft : List Nat := []
  tb : TimeBase := {}
  pages : Tbl Page := []
  groups : Tbl Group := []
  hs : HoldSwap := {}
  cuffs : Tbl Cuff := []
  sleeves : Tbl Sleeve := []
  pairs : Tbl Pair := []
  voters : Tbl Voter := []
  queues : Tbl Queue := []
  refs : List WheelRef := []
  seams : Tbl Seam := []
  fifos : Tbl (List Flight) := []
  votes : Tbl (List Nat) := []
  lanes : Lanes := {}
  quota : Tbl Nat := []
  used : Tbl Nat := []
  trays : Tbl Tray := []
  ctxs : Tbl Ctx := []
  flags : Tbl Flag := []
  cs : Tbl (BitVec 40) := []
  csBad : List Nat := []
  csSoft : List Nat := []
  units : Tbl (Option Nat) := []
  upd : Option Update := none
  pios : Tbl Pio := []
  syncAt : Option Nat := none
  ports : Tbl Fbk := []
  ens : Ens := {}
  enps : Tbl Enp := []
  fns : Tbl Fn := []
  link : Link := {}
  srcs : Tbl Src := []
  vecs : Tbl Vec := []
  coreStacks : Tbl (List (Nat × Nat)) := []
  chans : Tbl Chan := []
  pwr : Power := {}
  boot : Boot := {}
  rel : Rel := {}
  turns : Turns := {}
  deriving DecidableEq, Repr

/-- The device right after the release of SYS_RST_N, before the PLL has locked: mode BOOT, every
register at its reset value, time base stopped at 0 (R45, R315-R317, R340). -/
def State.reset : State := {}

end Sys2Proof.Machine
end

