-- ==== Sys2Proof/Machine/Regs.lean ====
section
/-! DEFINITION. The register map (R10, R13, R14): the address of every register, its access masks
and its reset value. A register's key is page * 0x1000 + offset in the normal view, plus
bank * 2^24 where a selector register shows several copies of it. Tenant pages have keys from
2^40 on, one 64 KB page a function, with bank * 2^44. -/

namespace Sys2Proof.Machine

open Sys2Proof

/-- One row of a page's register listing: offset, repeat count and step, the bits of each access
type (R7) and the reset value. -/
structure RegRow where
  off : Nat
  cnt : Nat
  step : Nat
  rw : Nat
  rws : Nat
  w1c : Nat
  w1s : Nat
  rc : Nat
  reset : Nat
  deriving DecidableEq, Repr

/-- The blocks of the part (R13). -/
inductive Blk where
  | glb | clk | pwr | tb | cfg | sec | rel | sch | qm | adm | slm | slv | try | pio | fbk | dma
  | hvc | mbx | ens | enp | dbg | ten
  deriving DecidableEq, Repr

/-- The common header (R13). -/
def rowsHeader : List RegRow :=
  [⟨0x0, 1, 4, 0x0, 0x0, 0x0, 0x0, 0x0, 0x0⟩,
   ⟨0x4, 1, 4, 0x0, 0x0, 0x0, 0x0, 0x0, 0x0⟩,
   ⟨0x8, 1, 4, 0x0, 0x0, 0x0, 0x0, 0x0, 0x0⟩,
   ⟨0xc, 1, 4, 0x0, 0x0, 0x0, 0x0, 0x0, 0x0⟩,
   ⟨0x10, 1, 4, 0x1, 0x0, 0x0, 0x0, 0x0, 0x0⟩,
   ⟨0x14, 1, 4, 0x0, 0x0, 0xffffffff, 0x0, 0x0, 0x0⟩,
   ⟨0x18, 1, 4, 0x0, 0x0, 0x0, 0x0, 0x0, 0x0⟩,
   ⟨0x1c, 1, 4, 0x0, 0x0, 0x0, 0x0, 0x0, 0x0⟩,
   ⟨0x20, 1, 4, 0x0, 0x0, 0x0, 0x0, 0x0, 0x1f0000⟩,
   ⟨0x24, 1, 4, 0xffffffff, 0x0, 0x0, 0x0, 0x0, 0x0⟩,
   ⟨0x28, 1, 4, 0xfffffff, 0x0, 0x0, 0x0, 0x0, 0x0⟩,
   ⟨0x2c, 1, 4, 0x0, 0x0, 0x0, 0x0, 0x0, 0x0⟩,
   ⟨0x30, 1, 4, 0x0, 0x0, 0x0, 0x0, 0x0, 0x0⟩]

/-- The registers of R249 of 11_host_interface.md. -/
def rowsGlb : List RegRow :=
  [⟨0x80, 1, 4, 0xf, 0x0, 0x0, 0x0, 0x0, 0xa⟩]

/-- The registers of R337 of 14_modes_clocks_power.md. -/
def rowsClk : List RegRow :=
  [⟨0x40, 1, 4, 0x0, 0x0, 0x8, 0x0, 0x0, 0x0⟩,
   ⟨0x44, 1, 4, 0x0, 0x0, 0x0, 0x0, 0x0, 0x7800⟩,
   ⟨0x48, 1, 4, 0x0, 0x0, 0x0, 0x0, 0x0, 0x0⟩,
   ⟨0x4c, 1, 4, 0x0, 0x0, 0x0, 0x0, 0xffffffff, 0x0⟩,
   ⟨0x50, 1, 4, 0x0, 0x0, 0x0, 0x0, 0xffffffff, 0x0⟩]

/-- The registers of R336 of 14_modes_clocks_power.md. -/
def rowsPwr : List RegRow :=
  [⟨0x40, 1, 4, 0x0, 0x0, 0x200, 0x0, 0x0, 0x1⟩,
   ⟨0x44, 1, 4, 0x0, 0x0, 0x0, 0x0, 0x0, 0x0⟩,
   ⟨0x48, 1, 4, 0x0, 0x0, 0x0, 0x0, 0x0, 0x0⟩,
   ⟨0x4c, 1, 4, 0xf, 0x0, 0x0, 0x0, 0x0, 0x8⟩,
   ⟨0x50, 1, 4, 0xff, 0x0, 0x0, 0x0, 0x0, 0x30⟩,
   ⟨0x54, 4, 4, 0x1fff, 0x0, 0x0, 0x0, 0x0, 0x800⟩,
   ⟨0x64, 1, 4, 0x0, 0x0, 0x0, 0x0, 0x0, 0x0⟩,
   ⟨0x68, 1, 4, 0xfff, 0x0, 0x0, 0x0, 0x0, 0x190⟩,
   ⟨0x6c, 1, 4, 0xfff, 0x0, 0x0, 0x0, 0x0, 0x1cc⟩,
   ⟨0x70, 1, 4, 0x0, 0x0, 0x0, 0x0, 0x0, 0x0⟩,
   ⟨0x74, 1, 4, 0x0, 0x0, 0x0, 0x0, 0x0, 0x0⟩,
   ⟨0x78, 1, 4, 0x0, 0x0, 0x0, 0x0, 0x0, 0x0⟩,
   ⟨0x7c, 1, 4, 0x0, 0x0, 0x0, 0x0, 0x0, 0x0⟩]

/-- The registers of R46 of 02_time_base.md. -/
def rowsTb : List RegRow :=
  [⟨0x40, 1, 4, 0x0, 0x0, 0x0, 0x0, 0x0, 0x0⟩,
   ⟨0x44, 1, 4, 0x0, 0x0, 0x0, 0x0, 0x0, 0x0⟩,
   ⟨0x48, 1, 4, 0x0, 0x0, 0x0, 0x0, 0x0, 0x0⟩,
   ⟨0x4c, 1, 4, 0x0, 0x0, 0x12, 0x0, 0x0, 0x0⟩,
   ⟨0x50, 1, 4, 0x3, 0x0, 0x0, 0x0, 0x0, 0x0⟩,
   ⟨0x54, 1, 4, 0xffffffff, 0x0, 0x0, 0x0, 0x0, 0xffffffff⟩,
   ⟨0x58, 1, 4, 0xfffffff, 0x0, 0x0, 0x0, 0x0, 0xfffffff⟩,
   ⟨0x5c, 1, 4, 0xfffffff, 0x0, 0x0, 0x0, 0x0, 0x0⟩,
   ⟨0x60, 1, 4, 0x0, 0x0, 0x0, 0x0, 0x0, 0x0⟩,
   ⟨0x64, 1, 4, 0x0, 0x0, 0x0, 0x0, 0x0, 0x0⟩,
   ⟨0x68, 1, 4, 0xffff, 0x0, 0x0, 0x0, 0x0, 0x400⟩,
   ⟨0x6c, 1, 4, 0xffffffff, 0x0, 0x0, 0x0, 0x0, 0x0⟩,
   ⟨0x70, 1, 4, 0xfffffff, 0x0, 0x0, 0x0, 0x0, 0x0⟩,
   ⟨0x74, 1, 4, 0x0, 0x0, 0x0, 0x0, 0x0, 0x0⟩,
   ⟨0x78, 1, 4, 0x0, 0x0, 0x0, 0x0, 0x0, 0x0⟩,
   ⟨0x7c, 1, 4, 0x0, 0x0, 0x0, 0x0, 0x0, 0x0⟩,
   ⟨0x80, 1, 4, 0x0, 0x0, 0x0, 0x0, 0x0, 0x0⟩,
   ⟨0x84, 1, 4, 0xffffffff, 0x0, 0x0, 0x0, 0x0, 0x0⟩,
   ⟨0x88, 1, 4, 0xfffffff, 0x0, 0x0, 0x0, 0x0, 0x0⟩,
   ⟨0x8c, 1, 4, 0x0, 0x0, 0x0, 0x0, 0x0, 0x0⟩] ++
  [⟨0x90, 1, 4, 0x3f, 0x0, 0x0, 0x0, 0x0, 0x0⟩,
   ⟨0x94, 1, 4, 0x0, 0xffffffff, 0x0, 0x0, 0x0, 0x0⟩,
   ⟨0x98, 1, 4, 0x0, 0xffff, 0x0, 0x0, 0x0, 0x0⟩,
   ⟨0x9c, 1, 4, 0x0, 0x7ff, 0x0, 0x0, 0x0, 0x0⟩,
   ⟨0xa0, 1, 4, 0x0, 0xffffffff, 0x0, 0x0, 0x0, 0x0⟩,
   ⟨0xa4, 1, 4, 0x0, 0xfffffff, 0x0, 0x0, 0x0, 0x0⟩,
   ⟨0xa8, 1, 4, 0x0, 0x0, 0x0, 0x0, 0x0, 0x0⟩,
   ⟨0x100, 32, 4, 0xffffffff, 0x0, 0x0, 0x0, 0x0, 0x0⟩]

/-- The registers of R21-R24 of 01_register_pages.md. -/
def rowsCfg : List RegRow :=
  [⟨0x40, 1, 4, 0xf, 0x0, 0x0, 0x0, 0x0, 0x0⟩,
   ⟨0x44, 1, 4, 0x0, 0x0, 0x0, 0x0, 0x0, 0x0⟩,
   ⟨0x48, 1, 4, 0x0, 0x0, 0x0, 0x0, 0x0, 0x0⟩,
   ⟨0x4c, 1, 4, 0x0, 0x0, 0x0, 0x0, 0x0, 0x0⟩,
   ⟨0x50, 1, 4, 0xffffffff, 0x0, 0x0, 0x0, 0x0, 0x0⟩,
   ⟨0x54, 1, 4, 0xfffffff, 0x0, 0x0, 0x0, 0x0, 0x0⟩,
   ⟨0x58, 1, 4, 0x0, 0x0, 0x0, 0x0, 0x0, 0x0⟩,
   ⟨0x60, 1, 4, 0xffffffff, 0x0, 0x0, 0x0, 0x0, 0x0⟩,
   ⟨0x64, 1, 4, 0xffff, 0x0, 0x0, 0x0, 0x0, 0x0⟩,
   ⟨0x68, 1, 4, 0xffffffff, 0x0, 0x0, 0x0, 0x0, 0x0⟩,
   ⟨0x6c, 1, 4, 0xfffffff, 0x0, 0x0, 0x0, 0x0, 0x0⟩,
   ⟨0x70, 1, 4, 0xffffffff, 0x0, 0x0, 0x0, 0x0, 0x0⟩,
   ⟨0x74, 1, 4, 0xfffffff, 0x0, 0x0, 0x0, 0x0, 0x0⟩,
   ⟨0x78, 1, 4, 0x0, 0x0, 0x0, 0x0, 0x0, 0x0⟩]

/-- The registers of R361 of 15_boot_update_reliability.md. -/
def rowsSec : List RegRow :=
  [⟨0x40, 1, 4, 0x0, 0x0, 0x0, 0x0, 0x0, 0x0⟩,
   ⟨0x44, 1, 4, 0x0, 0x0, 0x0, 0x0, 0x0, 0x0⟩,
   ⟨0x48, 1, 4, 0x0, 0x0, 0x0, 0x0, 0x0, 0x0⟩,
   ⟨0x4c, 1, 4, 0x0, 0x0, 0x0, 0x0, 0x0, 0x0⟩,
   ⟨0x50, 1, 4, 0x0, 0x0, 0x0, 0x0, 0x0, 0x0⟩,
   ⟨0x54, 1, 4, 0x0, 0x0, 0x0, 0x0, 0x0, 0x0⟩,
   ⟨0x58, 1, 4, 0x0, 0x0, 0x0, 0x0, 0x0, 0x0⟩,
   ⟨0x60, 1, 4, 0xfffffff8, 0x0, 0x0, 0x0, 0x0, 0x0⟩,
   ⟨0x64, 1, 4, 0xffffffff, 0x0, 0x0, 0x0, 0x0, 0x0⟩,
   ⟨0x68, 1, 4, 0xffffffff, 0x0, 0x0, 0x0, 0x0, 0x0⟩,
   ⟨0x6c, 1, 4, 0x70, 0x0, 0x0, 0x0, 0x0, 0x70⟩,
   ⟨0x70, 1, 4, 0xfffffff8, 0x0, 0x0, 0x0, 0x0, 0x0⟩,
   ⟨0x74, 1, 4, 0xffffffff, 0x0, 0x0, 0x0, 0x0, 0x0⟩,
   ⟨0x78, 1, 4, 0xffffffff, 0x0, 0x0, 0x0, 0x0, 0x0⟩,
   ⟨0x7c, 1, 4, 0x0, 0x0, 0x0, 0x0, 0x0, 0x0⟩]

/-- The registers of R362 of 15_boot_update_reliability.md. -/
def rowsRel : List RegRow :=
  [⟨0x40, 1, 4, 0x0, 0x0, 0x0, 0x0, 0x0, 0x0⟩,
   ⟨0x44, 1, 4, 0x0, 0x0, 0x0, 0x0, 0xffffffff, 0x0⟩,
   ⟨0x48, 1, 4, 0x0, 0x0, 0x0, 0x0, 0xffffffff, 0x0⟩,
   ⟨0x4c, 1, 4, 0x0, 0x0, 0x0, 0x0, 0x0, 0x0⟩,
   ⟨0x50, 1, 4, 0xf, 0x0, 0x0, 0x0, 0x0, 0x2⟩,
   ⟨0x54, 1, 4, 0x0, 0x0, 0x0, 0x0, 0x0, 0x0⟩,
   ⟨0x58, 1, 4, 0x0, 0x0, 0x0, 0x0, 0x0, 0x0⟩,
   ⟨0x5c, 1, 4, 0x3ff, 0x0, 0x0, 0x0, 0x0, 0x0⟩,
   ⟨0x60, 8, 4, 0x0, 0x0, 0x0, 0x0, 0x0, 0x0⟩,
   ⟨0x80, 1, 4, 0x0, 0x0, 0x0, 0x0, 0x0, 0x5f⟩]

/-- The registers of R103 of 04_actions_and_queues.md. -/
def rowsSch : List RegRow :=
  [⟨0x40, 1, 4, 0x0, 0x7ff, 0x0, 0x0, 0x0, 0x200⟩,
   ⟨0x44, 1, 4, 0x0, 0x0, 0x4, 0x0, 0x0, 0x0⟩,
   ⟨0x48, 1, 4, 0x0, 0x0, 0x0, 0x0, 0x0, 0x0⟩,
   ⟨0x4c, 1, 4, 0x0, 0x0, 0x0, 0x0, 0x0, 0x0⟩,
   ⟨0x50, 1, 4, 0x0, 0x0, 0x0, 0x0, 0xffffffff, 0x0⟩,
   ⟨0x54, 1, 4, 0x0, 0x0, 0x0, 0x0, 0x0, 0x0⟩,
   ⟨0x58, 1, 4, 0xffff, 0x0, 0x0, 0x0, 0x0, 0x0⟩,
   ⟨0x5c, 1, 4, 0x0, 0x0, 0x0, 0x0, 0x0, 0x0⟩,
   ⟨0x60, 1, 4, 0x0, 0x0, 0x0, 0x0, 0x0, 0x0⟩,
   ⟨0x64, 1, 4, 0x0, 0x0, 0x0, 0x0, 0x0, 0x0⟩]

/-- The registers of R104 of 04_actions_and_queues.md. -/
def rowsQm : List RegRow :=
  [⟨0x40, 1, 4, 0xfffff, 0x0, 0x0, 0x0, 0x0, 0x0⟩,
   ⟨0x44, 4, 4, 0x0, 0x0, 0x0, 0x0, 0x0, 0x0⟩,
   ⟨0x54, 1, 4, 0x0, 0x0, 0x0, 0x0, 0x0, 0x0⟩,
   ⟨0x58, 1, 4, 0x0, 0x0, 0x0, 0x0, 0x0, 0x0⟩,
   ⟨0x5c, 1, 4, 0x0, 0x0, 0x0, 0x0, 0x0, 0x0⟩,
   ⟨0x60, 1, 4, 0x0, 0x0, 0x0, 0x0, 0x0, 0x0⟩]

/-- The registers of R128 of 05_service_classes.md. -/
def rowsAdm : List RegRow :=
  [⟨0x40, 1, 4, 0x0, 0xffffff, 0x0, 0x0, 0x0, 0xbb80⟩,
   ⟨0x44, 1, 4, 0x0, 0x0, 0x0, 0x0, 0x0, 0x0⟩,
   ⟨0x48, 1, 4, 0x0, 0x0, 0x0, 0x0, 0x0, 0x400000⟩,
   ⟨0x4c, 1, 4, 0xf, 0x0, 0x0, 0x0, 0x0, 0x0⟩,
   ⟨0x50, 1, 4, 0x0, 0x0, 0x0, 0x0, 0x0, 0x0⟩,
   ⟨0x54, 1, 4, 0xfffff, 0x0, 0x0, 0x0, 0x0, 0x0⟩,
   ⟨0x58, 1, 4, 0x0, 0x0, 0x0, 0x0, 0x0, 0x0⟩,
   ⟨0x5c, 1, 4, 0x0, 0x0, 0x0, 0x0, 0x0, 0x0⟩,
   ⟨0x60, 1, 4, 0x0, 0x0, 0x0, 0x0, 0x0, 0x0⟩,
   ⟨0x64, 1, 4, 0x0, 0x0, 0x0, 0x0, 0x0, 0x0⟩,
   ⟨0x68, 1, 4, 0x0, 0x0, 0x0, 0x0, 0x0, 0x0⟩,
   ⟨0x6c, 1, 4, 0x0, 0x0, 0x0, 0x0, 0x0, 0x0⟩,
   ⟨0x70, 1, 4, 0x0, 0x0, 0x0, 0x0, 0x0, 0x0⟩,
   ⟨0x74, 1, 4, 0x0, 0x0, 0x0, 0x0, 0x0, 0x0⟩,
   ⟨0x78, 1, 4, 0x0, 0x0, 0x0, 0x0, 0x0, 0x1800008⟩,
   ⟨0x7c, 1, 4, 0xf, 0x0, 0x0, 0x0, 0x0, 0x0⟩,
   ⟨0x80, 1, 4, 0x0, 0x0, 0x0, 0x0, 0x0, 0x0⟩,
   ⟨0x84, 1, 4, 0x0, 0x0, 0x0, 0x0, 0xffffffff, 0x0⟩]

/-- The registers of R129 of 05_service_classes.md. -/
def rowsSlm : List RegRow :=
  [⟨0x40, 1, 4, 0x1ff, 0x0, 0x0, 0x0, 0x0, 0x0⟩,
   ⟨0x44, 1, 4, 0x0, 0x0, 0x0, 0x0, 0x0, 0x0⟩,
   ⟨0x48, 1, 4, 0x0, 0x0, 0x0, 0x0, 0x0, 0x0⟩,
   ⟨0x4c, 1, 4, 0x0, 0x0, 0x0, 0x0, 0x0, 0x0⟩,
   ⟨0x50, 1, 4, 0x0, 0x0, 0x0, 0x0, 0xffffffff, 0x0⟩,
   ⟨0x54, 1, 4, 0x0, 0x0, 0x0, 0x0, 0xffffffff, 0x0⟩]

/-- The registers of R77 of 03_cuffs.md. -/
def rowsSlv : List RegRow :=
  [⟨0x40, 1, 4, 0x0, 0x7, 0x0, 0x0, 0x0, 0x1⟩,
   ⟨0x44, 1, 4, 0x0, 0x0, 0x0, 0x0, 0x0, 0x0⟩,
   ⟨0x48, 1, 4, 0x0, 0xff, 0x0, 0x0, 0x0, 0x0⟩,
   ⟨0x4c, 1, 4, 0x0, 0x0, 0x0, 0x0, 0x0, 0x0⟩,
   ⟨0x50, 1, 4, 0x0, 0x0, 0x0, 0x0, 0x0, 0x0⟩,
   ⟨0x54, 1, 4, 0x0, 0x0, 0x0, 0x0, 0x0, 0x0⟩,
   ⟨0x58, 1, 4, 0x0, 0x0, 0x0, 0x0, 0x0, 0x0⟩,
   ⟨0x80, 16, 8, 0x0, 0xfff03ff, 0x0, 0x0, 0x0, 0x0⟩,
   ⟨0x84, 16, 8, 0x0, 0xfff, 0x0, 0x0, 0x0, 0x0⟩]

/-- The registers of R77 of 03_cuffs.md. -/
def rowsCuf : List RegRow :=
  [⟨0x0, 1, 4, 0x0, 0xff37, 0x0, 0x0, 0x0, 0x20⟩,
   ⟨0x4, 1, 4, 0x0, 0x3ff00ff, 0x0, 0x0, 0x0, 0x0⟩,
   ⟨0x8, 1, 4, 0x0, 0xffffffff, 0x0, 0x0, 0x0, 0x0⟩,
   ⟨0xc, 1, 4, 0x0, 0xffff, 0x0, 0x0, 0x0, 0x0⟩,
   ⟨0x10, 1, 4, 0x0, 0xffffffff, 0x0, 0x0, 0x0, 0x0⟩,
   ⟨0x14, 1, 4, 0x0, 0xffff, 0x0, 0x0, 0x0, 0x0⟩,
   ⟨0x18, 1, 4, 0x0, 0xffffffff, 0x0, 0x0, 0x0, 0x0⟩,
   ⟨0x1c, 1, 4, 0x0, 0xfffffff, 0x0, 0x0, 0x0, 0x0⟩,
   ⟨0x20, 1, 4, 0x1f, 0x0, 0x0, 0x0, 0x0, 0x0⟩,
   ⟨0x24, 1, 4, 0xfffff, 0x0, 0x0, 0x0, 0x0, 0x0⟩,
   ⟨0x28, 1, 4, 0x0, 0x0, 0x0, 0x0, 0x0, 0x0⟩,
   ⟨0x2c, 1, 4, 0x0, 0x0, 0x0, 0x0, 0x0, 0x0⟩,
   ⟨0x30, 1, 4, 0x0, 0x0, 0x0, 0x0, 0x0, 0x0⟩,
   ⟨0x34, 1, 4, 0x0, 0x0, 0x0, 0x0, 0x0, 0x0⟩,
   ⟨0x38, 1, 4, 0x0, 0x0, 0x0, 0x0, 0x0, 0x0⟩,
   ⟨0x3c, 1, 4, 0x0, 0x0, 0x0, 0x0, 0x0, 0x0⟩,
   ⟨0x40, 1, 4, 0x0, 0x0, 0x0, 0x0, 0x0, 0x0⟩,
   ⟨0x44, 1, 4, 0x0, 0x0, 0xff, 0x0, 0x0, 0x0⟩,
   ⟨0x48, 1, 4, 0x0, 0x0, 0x0, 0x0, 0x0, 0x0⟩,
   ⟨0x4c, 1, 4, 0x0, 0x3ff, 0x0, 0x0, 0x0, 0x0⟩] ++
  [⟨0x50, 1, 4, 0x0, 0x0, 0x0, 0x0, 0x0, 0x0⟩]

/-- The registers of R167 of 06_microengines.md. -/
def rowsTry : List RegRow :=
  [⟨0x40, 1, 4, 0x0, 0x0, 0x0, 0x0, 0x0, 0x0⟩,
   ⟨0x44, 1, 4, 0x0, 0xfffff, 0x0, 0x0, 0x0, 0x16e36⟩,
   ⟨0x48, 1, 4, 0x0, 0xffff, 0x0, 0x0, 0x0, 0x1000⟩,
   ⟨0x4c, 1, 4, 0x0, 0x0, 0x3, 0x0, 0x0, 0x0⟩,
   ⟨0x50, 1, 4, 0xff, 0x0, 0x0, 0x0, 0x0, 0x0⟩,
   ⟨0x54, 1, 4, 0x0, 0x0, 0x0, 0x0, 0x0, 0x0⟩,
   ⟨0x58, 1, 4, 0x0, 0x0, 0x0, 0x0, 0x0, 0x0⟩,
   ⟨0x5c, 1, 4, 0x0, 0x0, 0x0, 0x0, 0x0, 0x0⟩,
   ⟨0x60, 1, 4, 0x7, 0x0, 0x0, 0x0, 0x0, 0x0⟩,
   ⟨0x64, 1, 4, 0x0, 0x0, 0x0, 0x0, 0x0, 0x0⟩,
   ⟨0x68, 1, 4, 0x0, 0x0, 0x0, 0x0, 0x0, 0x0⟩,
   ⟨0x70, 8, 4, 0x0, 0x0, 0x0, 0x0, 0x0, 0x0⟩,
   ⟨0x90, 1, 4, 0xff, 0x0, 0x0, 0x0, 0x0, 0x0⟩,
   ⟨0x94, 1, 4, 0x0, 0x0, 0x0, 0x0, 0x0, 0x0⟩,
   ⟨0x98, 8, 4, 0x0, 0x0, 0x0, 0x0, 0x0, 0x0⟩,
   ⟨0xc0, 1, 4, 0xff01, 0x0, 0x0, 0x0, 0x0, 0x400000⟩,
   ⟨0xc4, 1, 4, 0xffffffff, 0x0, 0x0, 0x0, 0x0, 0x0⟩,
   ⟨0xc8, 1, 4, 0xffffffff, 0x0, 0x0, 0x0, 0x0, 0x0⟩,
   ⟨0xcc, 1, 4, 0x0, 0x0, 0x0, 0x0, 0x0, 0x0⟩,
   ⟨0xd0, 1, 4, 0x0, 0x0, 0x0, 0x0, 0x0, 0x0⟩] ++
  [⟨0xd4, 1, 4, 0xffffffff, 0x0, 0x0, 0x0, 0x0, 0x55545555⟩,
   ⟨0xd8, 1, 4, 0xffffffff, 0x0, 0x0, 0x0, 0x0, 0x55550000⟩,
   ⟨0xdc, 1, 4, 0xffffffff, 0x0, 0x0, 0x0, 0x0, 0x55555555⟩,
   ⟨0xe0, 1, 4, 0xffffffff, 0x0, 0x0, 0x0, 0x0, 0x55555555⟩,
   ⟨0xe4, 1, 4, 0x0, 0x0, 0x0, 0xffffffff, 0x0, 0x0⟩,
   ⟨0xf0, 1, 4, 0x3fff, 0x0, 0x0, 0x0, 0x0, 0x0⟩,
   ⟨0xf4, 1, 4, 0x0, 0x0, 0x0, 0x0, 0x0, 0x0⟩,
   ⟨0xf8, 1, 4, 0x0, 0x0, 0x0, 0x0, 0x0, 0x0⟩,
   ⟨0xfc, 1, 4, 0x0, 0x0, 0x0, 0x0, 0xffffffff, 0x0⟩]

/-- The registers of R201 of 08_pio_engines.md. -/
def rowsPio : List RegRow :=
  [⟨0x40, 4, 4, 0xffffffff, 0x0, 0x0, 0x0, 0x0, 0x0⟩,
   ⟨0x50, 1, 4, 0xffffffff, 0x0, 0x0, 0x0, 0x0, 0x0⟩,
   ⟨0x54, 1, 4, 0xfffffff, 0x0, 0x0, 0x0, 0x0, 0x0⟩,
   ⟨0x58, 1, 4, 0x30, 0x0, 0x0, 0x0, 0x0, 0x0⟩,
   ⟨0x5c, 1, 4, 0x0, 0x0, 0x0, 0x0, 0x0, 0x0⟩]

/-- The registers of R200 of 08_pio_engines.md. -/
def rowsPioEngine : List RegRow :=
  [⟨0x0, 1, 4, 0x1f00, 0x0, 0x0, 0x0, 0x0, 0x0⟩,
   ⟨0x4, 1, 4, 0x0, 0x0, 0x0, 0x0, 0x0, 0x0⟩,
   ⟨0x8, 1, 4, 0x0, 0x7ff, 0x0, 0x0, 0x0, 0x0⟩,
   ⟨0xc, 1, 4, 0x0, 0x0, 0x0, 0x0, 0x0, 0x0⟩,
   ⟨0x10, 1, 4, 0x0, 0xffffffff, 0x0, 0x0, 0x0, 0x1000⟩,
   ⟨0x14, 1, 4, 0xff, 0x0, 0x0, 0x0, 0x0, 0x0⟩,
   ⟨0x18, 1, 4, 0x0, 0xffff1f1f, 0x0, 0x0, 0x0, 0x1f00⟩,
   ⟨0x1c, 1, 4, 0x0, 0x0, 0x0, 0x0, 0x0, 0x0⟩,
   ⟨0x20, 1, 4, 0xffffffff, 0x0, 0x0, 0x0, 0x0, 0x0⟩,
   ⟨0x24, 1, 4, 0xfffffff, 0x0, 0x0, 0x0, 0x0, 0x0⟩,
   ⟨0x28, 1, 4, 0x0, 0xffffffff, 0x0, 0x0, 0x0, 0x0⟩,
   ⟨0x2c, 1, 4, 0x0, 0xffff, 0x0, 0x0, 0x0, 0x0⟩,
   ⟨0x30, 1, 4, 0x0, 0xffff, 0x0, 0x0, 0x0, 0x0⟩,
   ⟨0x34, 1, 4, 0x0, 0xffffffff, 0x0, 0x0, 0x0, 0x0⟩,
   ⟨0x38, 1, 4, 0x0, 0xffffffff, 0x0, 0x0, 0x0, 0x0⟩,
   ⟨0x3c, 1, 4, 0x0, 0x0, 0x0, 0x0, 0x0, 0x0⟩,
   ⟨0x40, 1, 4, 0x0, 0x0, 0x0, 0x0, 0xffffffff, 0x0⟩,
   ⟨0x44, 1, 4, 0x0, 0xffffff, 0x0, 0x0, 0x0, 0x0⟩,
   ⟨0x48, 1, 4, 0x0, 0x0, 0x3ff, 0x0, 0x0, 0x0⟩,
   ⟨0x4c, 1, 4, 0x0, 0x0, 0x0, 0x0, 0x0, 0x0⟩] ++
  [⟨0x50, 1, 4, 0x0, 0x0, 0x0, 0x0, 0x0, 0x0⟩,
   ⟨0x54, 1, 4, 0x0, 0x0, 0x0, 0x0, 0x0, 0x0⟩,
   ⟨0x58, 1, 4, 0xfffff, 0x0, 0x0, 0x0, 0x0, 0x0⟩,
   ⟨0x5c, 1, 4, 0x0, 0x0, 0x0, 0x0, 0x0, 0x0⟩,
   ⟨0x60, 1, 4, 0x0, 0x0, 0x0, 0x0, 0x0, 0x0⟩,
   ⟨0x64, 1, 4, 0x0, 0xff, 0x0, 0x0, 0x0, 0x0⟩,
   ⟨0x100, 32, 4, 0x0, 0xffff, 0x0, 0x0, 0x0, 0x0⟩]

/-- The registers of R223 of 09_feedback_ports.md. -/
def rowsFbkPort : List RegRow :=
  [⟨0x0, 1, 4, 0x0, 0x0, 0x0, 0x0, 0x0, 0x0⟩,
   ⟨0x4, 1, 4, 0x0, 0x0, 0x0, 0x0, 0x0, 0x0⟩,
   ⟨0x8, 1, 4, 0x0, 0x1ffffff, 0x0, 0x0, 0x0, 0x8⟩,
   ⟨0xc, 1, 4, 0x0, 0x0, 0x0, 0x0, 0x0, 0x0⟩,
   ⟨0x10, 1, 4, 0x0, 0x0, 0x0, 0x0, 0x0, 0x0⟩,
   ⟨0x14, 1, 4, 0x0, 0x0, 0x0, 0x0, 0x0, 0x0⟩,
   ⟨0x18, 1, 4, 0xffffffff, 0x0, 0x0, 0x0, 0x0, 0x0⟩,
   ⟨0x1c, 1, 4, 0xff, 0x0, 0x0, 0x0, 0x0, 0x0⟩,
   ⟨0x20, 1, 4, 0x0, 0x0, 0x0, 0x0, 0x0, 0x0⟩,
   ⟨0x24, 1, 4, 0x0, 0x0, 0x0, 0x0, 0x0, 0x0⟩,
   ⟨0x28, 1, 4, 0x0, 0x0, 0x0, 0x0, 0x0, 0x0⟩,
   ⟨0x2c, 1, 4, 0x0, 0x0, 0x0, 0x0, 0x0, 0x0⟩,
   ⟨0x30, 1, 4, 0x0, 0x0, 0x0, 0x0, 0x0, 0x0⟩,
   ⟨0x34, 1, 4, 0x0, 0x0, 0x0, 0x0, 0x0, 0x0⟩,
   ⟨0x38, 1, 4, 0x0, 0x0, 0x0, 0x0, 0x0, 0x0⟩,
   ⟨0x3c, 1, 4, 0x0, 0x0, 0x0, 0x0, 0x0, 0x0⟩,
   ⟨0x40, 1, 4, 0x0, 0xffffff0f, 0x0, 0x0, 0x0, 0x0⟩,
   ⟨0x44, 1, 4, 0xffffffff, 0x0, 0x0, 0x0, 0x0, 0x0⟩,
   ⟨0x48, 1, 4, 0xff, 0x0, 0x0, 0x0, 0x0, 0x0⟩,
   ⟨0x4c, 1, 4, 0x0, 0x0, 0x0, 0x0, 0x0, 0x0⟩] ++
  [⟨0x50, 1, 4, 0x0, 0xffffffff, 0x0, 0x0, 0x0, 0x0⟩,
   ⟨0x54, 1, 4, 0x0, 0xffffffff, 0x0, 0x0, 0x0, 0x0⟩,
   ⟨0x58, 1, 4, 0x0, 0xff, 0x0, 0x0, 0x0, 0x0⟩,
   ⟨0x5c, 1, 4, 0x0, 0x3ff001f, 0x0, 0x0, 0x0, 0x0⟩,
   ⟨0x60, 1, 4, 0xfffff, 0x0, 0x0, 0x0, 0x0, 0x0⟩,
   ⟨0x64, 1, 4, 0x0, 0xfffff, 0x0, 0x0, 0x0, 0x0⟩,
   ⟨0x68, 1, 4, 0x0, 0xffffffff, 0x0, 0x0, 0x0, 0x0⟩,
   ⟨0x6c, 1, 4, 0x0, 0xffff, 0x0, 0x0, 0x0, 0x0⟩,
   ⟨0x70, 1, 4, 0x0, 0xffffffff, 0x0, 0x0, 0x0, 0x0⟩,
   ⟨0x74, 1, 4, 0x0, 0xffffff, 0x0, 0x0, 0x0, 0x0⟩,
   ⟨0x78, 1, 4, 0x0, 0x0, 0x0, 0x0, 0x0, 0x0⟩,
   ⟨0x7c, 1, 4, 0x0, 0xfff, 0x0, 0x0, 0x0, 0x0⟩,
   ⟨0x80, 1, 4, 0x0, 0x0, 0x0, 0x0, 0x0, 0x0⟩,
   ⟨0x84, 1, 4, 0x0, 0x0, 0x0, 0x0, 0x0, 0x0⟩,
   ⟨0x88, 1, 4, 0x0, 0x0, 0x0, 0x0, 0x0, 0x0⟩,
   ⟨0x8c, 1, 4, 0x0, 0x0, 0x0, 0x0, 0x0, 0x0⟩,
   ⟨0x90, 1, 4, 0x0, 0x0, 0x0, 0x0, 0x0, 0x0⟩,
   ⟨0x94, 1, 4, 0x0, 0x0, 0x0, 0x0, 0x0, 0x0⟩,
   ⟨0x98, 1, 4, 0x0, 0x0, 0x0, 0x0, 0x0, 0x0⟩,
   ⟨0x9c, 1, 4, 0x0, 0x0, 0x0, 0x0, 0x0, 0x0⟩] ++
  [⟨0xa0, 1, 4, 0x0, 0x0, 0x0, 0x0, 0x0, 0x0⟩,
   ⟨0xa4, 1, 4, 0x0, 0x0, 0x0, 0x0, 0x0, 0x0⟩,
   ⟨0xa8, 1, 4, 0x0, 0xff3f, 0x0, 0x0, 0x0, 0x5919⟩,
   ⟨0xac, 1, 4, 0x0, 0xffff, 0x0, 0x0, 0x0, 0x5dc⟩,
   ⟨0xb0, 1, 4, 0x0, 0xffff, 0x0, 0x0, 0x0, 0xafc8⟩,
   ⟨0xb4, 1, 4, 0x0, 0xffffffff, 0x0, 0x0, 0x0, 0x0⟩,
   ⟨0xb8, 1, 4, 0xffffff, 0x0, 0x0, 0x0, 0x0, 0x0⟩,
   ⟨0xbc, 1, 4, 0x0, 0x0, 0x0, 0x0, 0x0, 0x0⟩,
   ⟨0xc0, 1, 4, 0x0, 0x0, 0x0, 0x0, 0x0, 0x0⟩,
   ⟨0xc4, 1, 4, 0x0, 0x0, 0x3ff, 0x0, 0x0, 0x0⟩,
   ⟨0xc8, 1, 4, 0xfffff, 0x0, 0x0, 0x0, 0x0, 0x0⟩,
   ⟨0xcc, 1, 4, 0x0, 0x0, 0x0, 0x0, 0xffffffff, 0x0⟩]

/-- The registers of R244 of 10_ensembles.md. -/
def rowsEns : List RegRow :=
  [⟨0x40, 1, 4, 0x0, 0x3f1f, 0x0, 0x0, 0x0, 0x3000⟩,
   ⟨0x44, 1, 4, 0x0, 0xffffffff, 0x0, 0x0, 0x0, 0x0⟩,
   ⟨0x48, 1, 4, 0x0, 0xffffff, 0x0, 0x0, 0x0, 0x88b5⟩,
   ⟨0x4c, 1, 4, 0x0, 0xffffffff, 0x0, 0x0, 0x0, 0x4e564c00⟩,
   ⟨0x50, 1, 4, 0x0, 0xffff, 0x0, 0x0, 0x0, 0x3⟩,
   ⟨0x54, 1, 4, 0x0, 0xfffffff, 0x0, 0x0, 0x0, 0x7270e0⟩,
   ⟨0x58, 1, 4, 0x0, 0xffff, 0x0, 0x0, 0x0, 0x4b0⟩,
   ⟨0x5c, 1, 4, 0x0, 0xffff, 0x0, 0x0, 0x0, 0x2710⟩,
   ⟨0x60, 1, 4, 0xf, 0x0, 0x0, 0x0, 0x0, 0x0⟩,
   ⟨0x64, 1, 4, 0x0, 0xffffffff, 0x0, 0x0, 0x0, 0x0⟩,
   ⟨0x68, 1, 4, 0x0, 0xffffffff, 0x0, 0x0, 0x0, 0x0⟩,
   ⟨0x6c, 1, 4, 0x0, 0x1ff, 0x0, 0x0, 0x0, 0x0⟩,
   ⟨0x70, 1, 4, 0x0, 0x0, 0x0, 0x0, 0x0, 0x0⟩,
   ⟨0x74, 1, 4, 0x0, 0x0, 0x0, 0x0, 0x0, 0x0⟩,
   ⟨0x78, 1, 4, 0x0, 0x0, 0x0, 0x0, 0x0, 0x0⟩,
   ⟨0x7c, 1, 4, 0x0, 0x0, 0x0, 0x0, 0x0, 0x201⟩,
   ⟨0x80, 8, 4, 0x0, 0x0, 0x0, 0x0, 0x0, 0x0⟩,
   ⟨0xa0, 1, 4, 0x0, 0x0, 0x0, 0x0, 0x0, 0x0⟩,
   ⟨0xa4, 1, 4, 0x0, 0x0, 0x0, 0x0, 0x0, 0x0⟩,
   ⟨0xa8, 1, 4, 0x3f, 0x0, 0x0, 0x0, 0x0, 0x0⟩] ++
  [⟨0xac, 1, 4, 0x0, 0x1fffff, 0x0, 0x0, 0x0, 0x0⟩,
   ⟨0xb0, 1, 4, 0x3ffffff, 0x0, 0x0, 0x0, 0x0, 0x0⟩,
   ⟨0xb4, 1, 4, 0x0, 0x0, 0x0, 0x0, 0x0, 0x0⟩,
   ⟨0xb8, 1, 4, 0x0, 0x0, 0x0, 0x0, 0x0, 0x0⟩,
   ⟨0xbc, 1, 4, 0x0, 0x0, 0x0, 0x0, 0x0, 0x0⟩,
   ⟨0xc0, 1, 4, 0xfffff, 0x0, 0x0, 0x0, 0x0, 0x0⟩,
   ⟨0xc4, 1, 4, 0x0, 0x3, 0x0, 0x0, 0x0, 0x3⟩,
   ⟨0xc8, 2, 4, 0x0, 0x0, 0x0, 0x0, 0x0, 0x0⟩,
   ⟨0xd0, 1, 4, 0x0, 0x0, 0x0, 0x0, 0xffffffff, 0x0⟩,
   ⟨0xd4, 1, 4, 0x0, 0x0, 0x0, 0x0, 0xffffffff, 0x0⟩,
   ⟨0xd8, 1, 4, 0x0, 0x0, 0x0, 0x0, 0xffffffff, 0x0⟩,
   ⟨0xdc, 1, 4, 0x0, 0x0, 0x0, 0x0, 0xffffffff, 0x0⟩]

/-- The registers of R245 of 10_ensembles.md. -/
def rowsEnp : List RegRow :=
  [⟨0x40, 1, 4, 0x0, 0xffffff03, 0x0, 0x0, 0x0, 0x8ff02⟩,
   ⟨0x44, 1, 4, 0x0, 0x7ff00ff, 0x0, 0x0, 0x0, 0x5f20020⟩,
   ⟨0x48, 1, 4, 0x0, 0xffffffff, 0x0, 0x0, 0x0, 0x0⟩,
   ⟨0x4c, 1, 4, 0x0, 0xffff, 0x0, 0x0, 0x0, 0x0⟩,
   ⟨0x50, 1, 4, 0x0, 0x0, 0x0, 0x0, 0x0, 0x0⟩,
   ⟨0x54, 1, 4, 0x0, 0x0, 0x0, 0x0, 0xffffffff, 0x0⟩,
   ⟨0x58, 1, 4, 0x0, 0x0, 0x0, 0x0, 0xffffffff, 0x0⟩,
   ⟨0x5c, 1, 4, 0x0, 0x0, 0x0, 0x0, 0xffffffff, 0x0⟩,
   ⟨0x60, 1, 4, 0x0, 0x0, 0x0, 0x0, 0xffffffff, 0x0⟩,
   ⟨0x64, 1, 4, 0x0, 0x0, 0x0, 0x0, 0x0, 0x0⟩]

/-- The registers of R288 of 12_interrupts.md. -/
def rowsHvc : List RegRow :=
  [⟨0x40, 1, 4, 0x3, 0x0, 0x0, 0x0, 0x0, 0x3⟩,
   ⟨0x44, 1, 4, 0xff, 0x0, 0x0, 0x0, 0x0, 0x0⟩,
   ⟨0x48, 1, 4, 0x3fff, 0x0, 0x0, 0x0, 0x0, 0x0⟩,
   ⟨0x4c, 1, 4, 0xfffffff, 0x0, 0x0, 0x0, 0x0, 0x80⟩,
   ⟨0x50, 1, 4, 0x0, 0x0, 0x0, 0x0, 0x0, 0x0⟩,
   ⟨0x60, 4, 4, 0x0, 0x0, 0x0, 0x0, 0x3fff, 0x3fff⟩,
   ⟨0x70, 4, 4, 0x0, 0x0, 0x0, 0x0, 0x0, 0x0⟩,
   ⟨0x80, 4, 4, 0x0, 0x0, 0x0, 0x0, 0x0, 0x7ffe0⟩,
   ⟨0x90, 1, 4, 0x0, 0x0, 0x0, 0x0, 0x0, 0x0⟩,
   ⟨0x94, 1, 4, 0x0, 0x0, 0x0, 0x0, 0x0, 0x0⟩,
   ⟨0x98, 1, 4, 0x0, 0x0, 0x0, 0x0, 0xffffffff, 0x0⟩]

/-- The registers of R288 of 12_interrupts.md. -/
def rowsHvcEn : List RegRow :=
  [⟨0x40, 512, 4, 0xffffffff, 0x0, 0x0, 0x0, 0x0, 0x0⟩]

/-- The registers of R288 of 12_interrupts.md. -/
def rowsHvcPend : List RegRow :=
  [⟨0x40, 512, 4, 0xffffffff, 0x0, 0x0, 0x0, 0x0, 0x0⟩]

/-- The registers of R309 of 13_dma_and_mailboxes.md. -/
def rowsDma : List RegRow :=
  [⟨0x40, 1, 4, 0x1, 0x0, 0x0, 0x0, 0x0, 0x0⟩,
   ⟨0x44, 1, 4, 0x0, 0x0, 0x0, 0x0, 0x0, 0x0⟩,
   ⟨0x48, 1, 4, 0xffffffe0, 0x0, 0x0, 0x0, 0x0, 0x0⟩,
   ⟨0x4c, 1, 4, 0xffffffff, 0x0, 0x0, 0x0, 0x0, 0x0⟩,
   ⟨0x50, 1, 4, 0x1f, 0x0, 0x0, 0x0, 0x0, 0x0⟩,
   ⟨0x54, 1, 4, 0xfff, 0x0, 0x0, 0x0, 0x0, 0x0⟩,
   ⟨0x58, 1, 4, 0x0, 0x0, 0x0, 0x0, 0x0, 0x0⟩,
   ⟨0x60, 8, 4, 0xffffffff, 0x0, 0x0, 0x0, 0x0, 0x0⟩,
   ⟨0x80, 1, 4, 0x0, 0x0, 0x0, 0x0, 0x0, 0x0⟩,
   ⟨0x84, 1, 4, 0x0, 0x0, 0x0, 0x0, 0x0, 0x0⟩,
   ⟨0x88, 1, 4, 0x0, 0x0, 0x0, 0x0, 0x0, 0x0⟩,
   ⟨0x8c, 1, 4, 0x0, 0x0, 0x0, 0x0, 0x0, 0x0⟩,
   ⟨0x90, 1, 4, 0x0, 0x0, 0x0, 0x0, 0x0, 0x0⟩]

/-- The registers of R311 of 13_dma_and_mailboxes.md. -/
def rowsMbx : List RegRow :=
  [⟨0x100, 32, 4, 0x0, 0x0, 0x0, 0x0, 0x0, 0x100⟩]

/-- The registers of R311 of 13_dma_and_mailboxes.md. -/
def rowsMbx0 : List RegRow :=
  [⟨0x40, 1, 4, 0x0, 0x0, 0x0, 0x0, 0x0, 0x0⟩]

/-- The registers of R338 of 14_modes_clocks_power.md. -/
def rowsDbg : List RegRow :=
  [⟨0x40, 1, 4, 0x0, 0x0, 0x0, 0x0, 0x0, 0x0⟩,
   ⟨0x44, 1, 4, 0x0, 0x0, 0x0, 0x0, 0x0, 0x0⟩]

/-- The registers of R271,R46,R105,R130,R289,R310 of 11_host_interface.md + 02,04,05,12,13. -/
def rowsTen : List RegRow :=
  [⟨0x0, 1, 4, 0x0, 0x0, 0x0, 0x0, 0x0, 0x0⟩,
   ⟨0x10, 11, 4, 0x0, 0x0, 0x0, 0x0, 0x0, 0x0⟩,
   ⟨0x40, 11, 4, 0x0, 0x0, 0x0, 0x0, 0x0, 0x0⟩,
   ⟨0x100, 1, 4, 0xffffffc0, 0x0, 0x0, 0x0, 0x0, 0x0⟩,
   ⟨0x104, 1, 4, 0xffffffff, 0x0, 0x0, 0x0, 0x0, 0x0⟩,
   ⟨0x108, 1, 4, 0xf, 0x0, 0x0, 0x0, 0x0, 0x0⟩,
   ⟨0x10c, 1, 4, 0x0, 0x0, 0x0, 0x0, 0x0, 0x0⟩,
   ⟨0x110, 1, 4, 0x0, 0x0, 0x0, 0x0, 0x0, 0x0⟩,
   ⟨0x114, 1, 4, 0xffffffe0, 0x0, 0x0, 0x0, 0x0, 0x0⟩,
   ⟨0x118, 1, 4, 0xffffffff, 0x0, 0x0, 0x0, 0x0, 0x0⟩,
   ⟨0x11c, 1, 4, 0xf, 0x0, 0x0, 0x0, 0x0, 0x0⟩,
   ⟨0x120, 1, 4, 0xfff, 0x0, 0x0, 0x0, 0x0, 0x0⟩,
   ⟨0x124, 1, 4, 0x0, 0x0, 0x0, 0x0, 0x0, 0x0⟩,
   ⟨0x128, 1, 4, 0x1, 0x0, 0x0, 0x0, 0x0, 0x0⟩,
   ⟨0x12c, 1, 4, 0x0, 0x0, 0x0, 0x0, 0x0, 0x2⟩,
   ⟨0x130, 1, 4, 0x0, 0x0, 0x0, 0x0, 0x0, 0x8⟩,
   ⟨0x134, 1, 4, 0x0, 0x0, 0x0, 0x0, 0x0, 0x0⟩,
   ⟨0x200, 1, 4, 0x0, 0x0, 0x0, 0x0, 0x0, 0x0⟩,
   ⟨0x204, 1, 4, 0x0, 0x0, 0x0, 0x0, 0x0, 0x0⟩,
   ⟨0x208, 1, 4, 0x0, 0x0, 0x0, 0x0, 0x0, 0x0⟩] ++
  [⟨0x20c, 1, 4, 0x0, 0x0, 0x0, 0x0, 0x0, 0x0⟩,
   ⟨0x210, 1, 4, 0xfffff, 0x0, 0x0, 0x0, 0x0, 0x0⟩,
   ⟨0x214, 4, 4, 0x0, 0x0, 0x0, 0x0, 0x0, 0x0⟩,
   ⟨0x300, 1, 4, 0x0, 0x0, 0x0, 0x0, 0x0, 0x0⟩,
   ⟨0x304, 1, 4, 0x0, 0x0, 0x0, 0x0, 0x0, 0x0⟩,
   ⟨0x308, 1, 4, 0x0, 0x0, 0x0, 0x0, 0x0, 0x0⟩,
   ⟨0x30c, 1, 4, 0x0, 0x0, 0x0, 0x0, 0x0, 0x0⟩,
   ⟨0x400, 1, 4, 0x0, 0x0, 0x0, 0x0, 0x0, 0x0⟩,
   ⟨0x404, 1, 4, 0x0, 0x0, 0x2, 0x0, 0x0, 0x0⟩,
   ⟨0x408, 1, 4, 0x0, 0x0, 0x0, 0x0, 0x0, 0x0⟩,
   ⟨0x40c, 1, 4, 0x0, 0x0, 0x0, 0x0, 0x0, 0x0⟩,
   ⟨0x800, 16, 4, 0xffffffff, 0x0, 0x0, 0x0, 0x0, 0x0⟩,
   ⟨0x840, 16, 4, 0x0, 0x0, 0x0, 0x0, 0x0, 0x0⟩,
   ⟨0x880, 1, 4, 0x0, 0x0, 0x0, 0x0, 0x0, 0x0⟩,
   ⟨0x884, 1, 4, 0x0, 0x0, 0x0, 0x0, 0x0, 0x0⟩,
   ⟨0x888, 1, 4, 0x0, 0x0, 0x0, 0x0, 0x0, 0x0⟩,
   ⟨0x1000, 1, 4, 0x0, 0x0, 0x0, 0x0, 0x0, 0x0⟩,
   ⟨0x1004, 1, 4, 0x0, 0x0, 0x0, 0x0, 0x0, 0x0⟩,
   ⟨0x1008, 1, 4, 0x0, 0x0, 0x0, 0x0, 0x0, 0x0⟩,
   ⟨0x1010, 1, 4, 0x0, 0x0, 0x0, 0x0, 0x0, 0x0⟩] ++
  [⟨0x1014, 1, 4, 0x0, 0x0, 0x0, 0x0, 0x0, 0x0⟩,
   ⟨0x1018, 1, 4, 0x0, 0x0, 0x0, 0x0, 0x0, 0x0⟩,
   ⟨0x1020, 1, 4, 0x0, 0x0, 0x0, 0x0, 0x0, 0x3fff⟩,
   ⟨0x1024, 1, 4, 0x0, 0x0, 0x0, 0x0, 0x0, 0x0⟩,
   ⟨0x1028, 1, 4, 0x0, 0x0, 0x0, 0x0, 0x0, 0x0⟩,
   ⟨0x102c, 1, 4, 0x0, 0x0, 0x0, 0x0, 0x0, 0x0⟩,
   ⟨0x1030, 1, 4, 0x7ff, 0x0, 0x0, 0x0, 0x0, 0x0⟩,
   ⟨0x1034, 1, 4, 0xffffff, 0x0, 0x0, 0x0, 0x0, 0x1⟩,
   ⟨0x1038, 1, 4, 0x0, 0x0, 0x0, 0x0, 0x0, 0x0⟩,
   ⟨0x2000, 512, 4, 0x0, 0x0, 0x0, 0x0, 0x0, 0x0⟩,
   ⟨0x2800, 1, 4, 0x0, 0x0, 0x0, 0x0, 0x0, 0x0⟩]

namespace Reg

/-! The common header of page `p`. -/

abbrev PG_ID (p : Nat) : Nat := p * 0x1000 + 0x0
abbrev PG_VER (p : Nat) : Nat := p * 0x1000 + 0x4
abbrev PG_CAPS (p : Nat) : Nat := p * 0x1000 + 0x8
abbrev PG_STATUS (p : Nat) : Nat := p * 0x1000 + 0xc
abbrev PG_CTRL (p : Nat) : Nat := p * 0x1000 + 0x10
abbrev PG_ERR (p : Nat) : Nat := p * 0x1000 + 0x14
abbrev PG_ERR_INFO (p : Nat) : Nat := p * 0x1000 + 0x18
abbrev PG_ERR_ADDR (p : Nat) : Nat := p * 0x1000 + 0x1c
abbrev PG_STAGE (p : Nat) : Nat := p * 0x1000 + 0x20
abbrev PG_COMMIT_TIME_L (p : Nat) : Nat := p * 0x1000 + 0x24
abbrev PG_COMMIT_TIME_H (p : Nat) : Nat := p * 0x1000 + 0x28
abbrev PG_SEQ (p : Nat) : Nat := p * 0x1000 + 0x2c
abbrev PG_OWNER (p : Nat) : Nat := p * 0x1000 + 0x30

/-! R249, 11_host_interface.md. -/

abbrev GLB_HOSTCFG : Nat := 0x80

/-! R337, 14_modes_clocks_power.md. -/

abbrev CLK_STATUS : Nat := 0x1040
abbrev CLK_CFG : Nat := 0x1044
abbrev CLK_LOCK_TICKS : Nat := 0x1048
abbrev CLK_REFLOSS_CNT : Nat := 0x104c
abbrev CLK_UNLOCK_CNT : Nat := 0x1050

/-! R336, 14_modes_clocks_power.md. -/

abbrev PWR_STATUS : Nat := 0x2040
abbrev PWR_CTRL : Nat := 0x2044
abbrev PWR_RESULT : Nat := 0x2048
abbrev PWR_CFG : Nat := 0x204c
abbrev PWR_WAKE : Nat := 0x2050
abbrev PWR_WCUFF (i : Nat) : Nat := 0x2054 + 4 * i
abbrev PWR_TEMP : Nat := 0x2064
abbrev PWR_TALERT : Nat := 0x2068
abbrev PWR_TCRIT : Nat := 0x206c
abbrev PWR_SAFE_TIME_L : Nat := 0x2070
abbrev PWR_SAFE_TIME_H : Nat := 0x2074
abbrev PWR_WAKE_TIME_L : Nat := 0x2078
abbrev PWR_WAKE_TIME_H : Nat := 0x207c

/-! R46, 02_time_base.md. -/

abbrev TB_NOW_L : Nat := 0x3040
abbrev TB_NOW_H : Nat := 0x3044
abbrev TB_EPOCH : Nat := 0x3048
abbrev TB_STATUS : Nat := 0x304c
abbrev TB_CTRL : Nat := 0x3050
abbrev TB_RELOAD_L : Nat := 0x3054
abbrev TB_RELOAD_H : Nat := 0x3058
abbrev TB_TRIM : Nat := 0x305c
abbrev TB_STEP : Nat := 0x3060
abbrev TB_STEP_REM : Nat := 0x3064
abbrev TB_SLEW : Nat := 0x3068
abbrev TB_LOAD_L : Nat := 0x306c
abbrev TB_LOAD_H : Nat := 0x3070
abbrev TB_SNAP_L : Nat := 0x3074
abbrev TB_SNAP_H : Nat := 0x3078
abbrev TB_SNAP_EPOCH : Nat := 0x307c
abbrev TB_GCTRL : Nat := 0x3080
abbrev TB_GSTART_L : Nat := 0x3084
abbrev TB_GSTART_H : Nat := 0x3088
abbrev TB_GSTAT : Nat := 0x308c
abbrev TB_SG_SEL : Nat := 0x3090
abbrev TB_SG_PERIOD_L (bank : Nat) : Nat := 0x3094 + bank * 0x1000000
abbrev TB_SG_PERIOD_H (bank : Nat) : Nat := 0x3098 + bank * 0x1000000
abbrev TB_SG_COUNT (bank : Nat) : Nat := 0x309c + bank * 0x1000000
abbrev TB_SG_BASE_L (bank : Nat) : Nat := 0x30a0 + bank * 0x1000000
abbrev TB_SG_BASE_H (bank : Nat) : Nat := 0x30a4 + bank * 0x1000000
abbrev TB_SG_STAT (bank : Nat) : Nat := 0x30a8 + bank * 0x1000000
abbrev TB_GMASK (i : Nat) : Nat := 0x3100 + 4 * i

/-! R21-R24, 01_register_pages.md. -/

abbrev CFG_GSEL : Nat := 0x4040
abbrev CFG_GADD : Nat := 0x4044
abbrev CFG_GREMOVE : Nat := 0x4048
abbrev CFG_GCTRL : Nat := 0x404c
abbrev CFG_GTIME_L (bank : Nat) : Nat := 0x4050 + bank * 0x1000000
abbrev CFG_GTIME_H (bank : Nat) : Nat := 0x4054 + bank * 0x1000000
abbrev CFG_GSTAT (bank : Nat) : Nat := 0x4058 + bank * 0x1000000
abbrev CFG_HS_SLEEVES : Nat := 0x4060
abbrev CFG_HS_GROUPS : Nat := 0x4064
abbrev CFG_HS_HOLD_L : Nat := 0x4068
abbrev CFG_HS_HOLD_H : Nat := 0x406c
abbrev CFG_HS_REL_L : Nat := 0x4070
abbrev CFG_HS_REL_H : Nat := 0x4074
abbrev CFG_HS_CTRL : Nat := 0x4078

/-! R361, 15_boot_update_reliability.md. -/

abbrev SEC_STRAP : Nat := 0x5040
abbrev SEC_BOOT : Nat := 0x5044
abbrev SEC_VER_FW : Nat := 0x5048
abbrev SEC_VER_BASE : Nat := 0x504c
abbrev SEC_GEN : Nat := 0x5050
abbrev SEC_RB : Nat := 0x5054
abbrev SEC_CTRL : Nat := 0x5058
abbrev SEC_IMG_ADDR_L : Nat := 0x5060
abbrev SEC_IMG_ADDR_H : Nat := 0x5064
abbrev SEC_IMG_LEN : Nat := 0x5068
abbrev SEC_IMG_CTRL : Nat := 0x506c
abbrev SEC_HBOOT_ADDR_L : Nat := 0x5070
abbrev SEC_HBOOT_ADDR_H : Nat := 0x5074
abbrev SEC_HBOOT_LEN : Nat := 0x5078
abbrev SEC_HBOOT_CTRL : Nat := 0x507c

/-! R362, 15_boot_update_reliability.md. -/

abbrev REL_STATUS : Nat := 0x6040
abbrev REL_CORR_CNT : Nat := 0x6044
abbrev REL_UNC_CNT : Nat := 0x6048
abbrev REL_SCRUB : Nat := 0x604c
abbrev REL_RCFG : Nat := 0x6050
abbrev REL_REPAIR : Nat := 0x6054
abbrev REL_LHEAD : Nat := 0x6058
abbrev REL_LSEL : Nat := 0x605c
abbrev REL_LOG (i : Nat) : Nat := 0x6060 + 4 * i
abbrev REL_STEWARD : Nat := 0x6080

/-! R103, 04_actions_and_queues.md. -/

abbrev SCH_CTRL : Nat := 0x8040
abbrev SCH_STATUS : Nat := 0x8044
abbrev SCH_REFS : Nat := 0x8048
abbrev SCH_RSV : Nat := 0x804c
abbrev SCH_LATE_CNT : Nat := 0x8050
abbrev SCH_SEAMS : Nat := 0x8054
abbrev SCH_SEAM_SEL : Nat := 0x8058
abbrev SCH_SEAM_INFO : Nat := 0x805c
abbrev SCH_DISP_L : Nat := 0x8060
abbrev SCH_DISP_H : Nat := 0x8064

/-! R104, 04_actions_and_queues.md. -/

abbrev QM_QSEL : Nat := 0x9040
abbrev QM_QDESC (i : Nat) : Nat := 0x9044 + 4 * i
abbrev QM_QCTRL : Nat := 0x9054
abbrev QM_QSTAT : Nat := 0x9058
abbrev QM_LASTERR : Nat := 0x905c
abbrev QM_STOPPED : Nat := 0x9060

/-! R128, 05_service_classes.md. -/

abbrev ADM_LEAD_DEF : Nat := 0xa040
abbrev ADM_DEV_RATE : Nat := 0xa044
abbrev ADM_DEV_BURST : Nat := 0xa048
abbrev ADM_TRAY_SEL : Nat := 0xa04c
abbrev ADM_TRAY_RATE : Nat := 0xa050
abbrev ADM_QSEL : Nat := 0xa054
abbrev ADM_QRATE : Nat := 0xa058
abbrev ADM_QINTV_L : Nat := 0xa05c
abbrev ADM_QINTV_H : Nat := 0xa060
abbrev ADM_QPARAM : Nat := 0xa064
abbrev ADM_QLEAD : Nat := 0xa068
abbrev ADM_QTAT_L : Nat := 0xa06c
abbrev ADM_QTAT_H : Nat := 0xa070
abbrev ADM_REFUSE : Nat := 0xa074
abbrev ADM_GUARD : Nat := 0xa078
abbrev ADM_VOTE_SEL : Nat := 0xa07c
abbrev ADM_VOTE (bank : Nat) : Nat := 0xa080 + bank * 0x1000000
abbrev ADM_OVERRUN : Nat := 0xa084

/-! R129, 05_service_classes.md. -/

abbrev SLM_TSEL : Nat := 0xb040
abbrev SLM_L1BASE (bank : Nat) : Nat := 0xb044 + bank * 0x1000000
abbrev SLM_FAULT_INFO : Nat := 0xb048
abbrev SLM_FAULT_ADDR : Nat := 0xb04c
abbrev SLM_FAULT_CNT : Nat := 0xb050
abbrev SLM_ECC_CNT : Nat := 0xb054

/-! R77, 03_cuffs.md. -/

abbrev SLV_CFG (sl : Nat) : Nat := (0x10 + sl) * 0x1000 + 0x40
abbrev SLV_STATUS (sl : Nat) : Nat := (0x10 + sl) * 0x1000 + 0x44
abbrev SLV_GDPOL (sl : Nat) : Nat := (0x10 + sl) * 0x1000 + 0x48
abbrev SLV_GDSTATE (sl : Nat) : Nat := (0x10 + sl) * 0x1000 + 0x4c
abbrev SLV_TRIP (sl : Nat) : Nat := (0x10 + sl) * 0x1000 + 0x50
abbrev SLV_BRIDGE (sl : Nat) : Nat := (0x10 + sl) * 0x1000 + 0x54
abbrev SLV_REARM (sl : Nat) : Nat := (0x10 + sl) * 0x1000 + 0x58
abbrev SLV_PAIR_CFG (sl : Nat) (i : Nat) : Nat := (0x10 + sl) * 0x1000 + 0x80 + 8 * i
abbrev SLV_PAIR_BLANK (sl : Nat) (i : Nat) : Nat := (0x10 + sl) * 0x1000 + 0x84 + 8 * i

/-! R77, 03_cuffs.md. -/

abbrev CUF_CFG (c : Nat) : Nat := (0x10 + c / 32) * 0x1000 + 0x400 + (c % 32) * 0x60 + 0x0
abbrev CUF_PER_CTRL (c : Nat) : Nat := (0x10 + c / 32) * 0x1000 + 0x400 + (c % 32) * 0x60 + 0x4
abbrev CUF_PER_L (c : Nat) : Nat := (0x10 + c / 32) * 0x1000 + 0x400 + (c % 32) * 0x60 + 0x8
abbrev CUF_PER_H (c : Nat) : Nat := (0x10 + c / 32) * 0x1000 + 0x400 + (c % 32) * 0x60 + 0xc
abbrev CUF_PER_W_L (c : Nat) : Nat := (0x10 + c / 32) * 0x1000 + 0x400 + (c % 32) * 0x60 + 0x10
abbrev CUF_PER_W_H (c : Nat) : Nat := (0x10 + c / 32) * 0x1000 + 0x400 + (c % 32) * 0x60 + 0x14
abbrev CUF_PER_OFF_L (c : Nat) : Nat := (0x10 + c / 32) * 0x1000 + 0x400 + (c % 32) * 0x60 + 0x18
abbrev CUF_PER_OFF_H (c : Nat) : Nat := (0x10 + c / 32) * 0x1000 + 0x400 + (c % 32) * 0x60 + 0x1c
abbrev CUF_CAPCFG (c : Nat) : Nat := (0x10 + c / 32) * 0x1000 + 0x400 + (c % 32) * 0x60 + 0x20
abbrev CUF_LOGQ (c : Nat) : Nat := (0x10 + c / 32) * 0x1000 + 0x400 + (c % 32) * 0x60 + 0x24
abbrev CUF_CAPR_L (c : Nat) : Nat := (0x10 + c / 32) * 0x1000 + 0x400 + (c % 32) * 0x60 + 0x28
abbrev CUF_CAPR_H (c : Nat) : Nat := (0x10 + c / 32) * 0x1000 + 0x400 + (c % 32) * 0x60 + 0x2c
abbrev CUF_CAPR_TAG (c : Nat) : Nat := (0x10 + c / 32) * 0x1000 + 0x400 + (c % 32) * 0x60 + 0x30
abbrev CUF_CAPF_L (c : Nat) : Nat := (0x10 + c / 32) * 0x1000 + 0x400 + (c % 32) * 0x60 + 0x34
abbrev CUF_CAPF_H (c : Nat) : Nat := (0x10 + c / 32) * 0x1000 + 0x400 + (c % 32) * 0x60 + 0x38
abbrev CUF_CAPF_TAG (c : Nat) : Nat := (0x10 + c / 32) * 0x1000 + 0x400 + (c % 32) * 0x60 + 0x3c
abbrev CUF_STATUS (c : Nat) : Nat := (0x10 + c / 32) * 0x1000 + 0x400 + (c % 32) * 0x60 + 0x40
abbrev CUF_ERR (c : Nat) : Nat := (0x10 + c / 32) * 0x1000 + 0x400 + (c % 32) * 0x60 + 0x44
abbrev CUF_CAL (c : Nat) : Nat := (0x10 + c / 32) * 0x1000 + 0x400 + (c % 32) * 0x60 + 0x48
abbrev CUF_SKEW (c : Nat) : Nat := (0x10 + c / 32) * 0x1000 + 0x400 + (c % 32) * 0x60 + 0x4c
abbrev CUF_EDGES (c : Nat) : Nat := (0x10 + c / 32) * 0x1000 + 0x400 + (c % 32) * 0x60 + 0x50

/-! R167, 06_microengines.md. -/

abbrev TRY_STATUS (t : Nat) : Nat := (0x30 + t) * 0x1000 + 0x40
abbrev TRY_WDOG (t : Nat) : Nat := (0x30 + t) * 0x1000 + 0x44
abbrev TRY_BPTO (t : Nat) : Nat := (0x30 + t) * 0x1000 + 0x48
abbrev TRY_STALL (t : Nat) : Nat := (0x30 + t) * 0x1000 + 0x4c
abbrev TRY_CSEL (t : Nat) : Nat := (0x30 + t) * 0x1000 + 0x50
abbrev TRY_CSTATE (t : Nat) : Nat := (0x30 + t) * 0x1000 + 0x54
abbrev TRY_CWAIT (t : Nat) : Nat := (0x30 + t) * 0x1000 + 0x58
abbrev TRY_CTRAP (t : Nat) : Nat := (0x30 + t) * 0x1000 + 0x5c
abbrev TRY_PSEL (t : Nat) : Nat := (0x30 + t) * 0x1000 + 0x60
abbrev TRY_PORT (t : Nat) : Nat := (0x30 + t) * 0x1000 + 0x64
abbrev TRY_PORT_LOGQ (t : Nat) : Nat := (0x30 + t) * 0x1000 + 0x68
abbrev TRY_CSAVE (t : Nat) (i : Nat) : Nat := (0x30 + t) * 0x1000 + 0x70 + 4 * i
abbrev TRY_FSEL (t : Nat) : Nat := (0x30 + t) * 0x1000 + 0x90
abbrev TRY_FATTR (t : Nat) : Nat := (0x30 + t) * 0x1000 + 0x94
abbrev TRY_FSEND (t : Nat) (i : Nat) : Nat := (0x30 + t) * 0x1000 + 0x98 + 4 * i
abbrev TRY_IRQ_CTRL (t : Nat) : Nat := (0x30 + t) * 0x1000 + 0xc0
abbrev TRY_IRQ_EN_L (t : Nat) : Nat := (0x30 + t) * 0x1000 + 0xc4
abbrev TRY_IRQ_EN_H (t : Nat) : Nat := (0x30 + t) * 0x1000 + 0xc8
abbrev TRY_IRQ_PEND_L (t : Nat) : Nat := (0x30 + t) * 0x1000 + 0xcc
abbrev TRY_IRQ_PEND_H (t : Nat) : Nat := (0x30 + t) * 0x1000 + 0xd0
abbrev TRY_IRQ_SENSE0 (t : Nat) : Nat := (0x30 + t) * 0x1000 + 0xd4
abbrev TRY_IRQ_SENSE1 (t : Nat) : Nat := (0x30 + t) * 0x1000 + 0xd8
abbrev TRY_IRQ_SENSE2 (t : Nat) : Nat := (0x30 + t) * 0x1000 + 0xdc
abbrev TRY_IRQ_SENSE3 (t : Nat) : Nat := (0x30 + t) * 0x1000 + 0xe0
abbrev TRY_IRQ_SOFT (t : Nat) : Nat := (0x30 + t) * 0x1000 + 0xe4
abbrev TRY_CS_ADDR (t : Nat) : Nat := (0x30 + t) * 0x1000 + 0xf0
abbrev TRY_CS_DATA_L (t : Nat) : Nat := (0x30 + t) * 0x1000 + 0xf4
abbrev TRY_CS_DATA_H (t : Nat) : Nat := (0x30 + t) * 0x1000 + 0xf8
abbrev TRY_ECC_CNT (t : Nat) : Nat := (0x30 + t) * 0x1000 + 0xfc

/-! R201, 08_pio_engines.md. -/

abbrev PIO_SYNC_MASK (i : Nat) : Nat := 0x40040 + 4 * i
abbrev PIO_SYNC_TIME_L : Nat := 0x40050
abbrev PIO_SYNC_TIME_H : Nat := 0x40054
abbrev PIO_SYNC_CTRL : Nat := 0x40058
abbrev PIO_SYNC_STAT : Nat := 0x4005c

/-! R200, 08_pio_engines.md. -/

abbrev PIO_CTRL (e : Nat) : Nat := (0x40 + e / 4) * 0x1000 + 0x200 + (e % 4) * 0x200 + 0x0
abbrev PIO_STATUS (e : Nat) : Nat := (0x40 + e / 4) * 0x1000 + 0x200 + (e % 4) * 0x200 + 0x4
abbrev PIO_CFG (e : Nat) : Nat := (0x40 + e / 4) * 0x1000 + 0x200 + (e % 4) * 0x200 + 0x8
abbrev PIO_PINS (e : Nat) : Nat := (0x40 + e / 4) * 0x1000 + 0x200 + (e % 4) * 0x200 + 0xc
abbrev PIO_BITP (e : Nat) : Nat := (0x40 + e / 4) * 0x1000 + 0x200 + (e % 4) * 0x200 + 0x10
abbrev PIO_DIR (e : Nat) : Nat := (0x40 + e / 4) * 0x1000 + 0x200 + (e % 4) * 0x200 + 0x14
abbrev PIO_LOOP (e : Nat) : Nat := (0x40 + e / 4) * 0x1000 + 0x200 + (e % 4) * 0x200 + 0x18
abbrev PIO_LOOPCNT (e : Nat) : Nat := (0x40 + e / 4) * 0x1000 + 0x200 + (e % 4) * 0x200 + 0x1c
abbrev PIO_AT_L (e : Nat) : Nat := (0x40 + e / 4) * 0x1000 + 0x200 + (e % 4) * 0x200 + 0x20
abbrev PIO_AT_H (e : Nat) : Nat := (0x40 + e / 4) * 0x1000 + 0x200 + (e % 4) * 0x200 + 0x24
abbrev PIO_AT_STEP_L (e : Nat) : Nat := (0x40 + e / 4) * 0x1000 + 0x200 + (e % 4) * 0x200 + 0x28
abbrev PIO_AT_STEP_H (e : Nat) : Nat := (0x40 + e / 4) * 0x1000 + 0x200 + (e % 4) * 0x200 + 0x2c
abbrev PIO_SAMPLE (e : Nat) : Nat := (0x40 + e / 4) * 0x1000 + 0x200 + (e % 4) * 0x200 + 0x30
abbrev PIO_CMP (e : Nat) : Nat := (0x40 + e / 4) * 0x1000 + 0x200 + (e % 4) * 0x200 + 0x34
abbrev PIO_CMPMASK (e : Nat) : Nat := (0x40 + e / 4) * 0x1000 + 0x200 + (e % 4) * 0x200 + 0x38
abbrev PIO_TXDATA (e : Nat) : Nat := (0x40 + e / 4) * 0x1000 + 0x200 + (e % 4) * 0x200 + 0x3c
abbrev PIO_RXDATA (e : Nat) : Nat := (0x40 + e / 4) * 0x1000 + 0x200 + (e % 4) * 0x200 + 0x40
abbrev PIO_WTO (e : Nat) : Nat := (0x40 + e / 4) * 0x1000 + 0x200 + (e % 4) * 0x200 + 0x44
abbrev PIO_ERR (e : Nat) : Nat := (0x40 + e / 4) * 0x1000 + 0x200 + (e % 4) * 0x200 + 0x48
abbrev PIO_STALL_L (e : Nat) : Nat := (0x40 + e / 4) * 0x1000 + 0x200 + (e % 4) * 0x200 + 0x4c
abbrev PIO_STALL_H (e : Nat) : Nat := (0x40 + e / 4) * 0x1000 + 0x200 + (e % 4) * 0x200 + 0x50
abbrev PIO_STALL_INFO (e : Nat) : Nat := (0x40 + e / 4) * 0x1000 + 0x200 + (e % 4) * 0x200 + 0x54
abbrev PIO_LOGQ (e : Nat) : Nat := (0x40 + e / 4) * 0x1000 + 0x200 + (e % 4) * 0x200 + 0x58
abbrev PIO_TXSR (e : Nat) : Nat := (0x40 + e / 4) * 0x1000 + 0x200 + (e % 4) * 0x200 + 0x5c
abbrev PIO_RXSR (e : Nat) : Nat := (0x40 + e / 4) * 0x1000 + 0x200 + (e % 4) * 0x200 + 0x60
abbrev PIO_INIT (e : Nat) : Nat := (0x40 + e / 4) * 0x1000 + 0x200 + (e % 4) * 0x200 + 0x64
abbrev PIO_IMEM (e : Nat) (i : Nat) : Nat := (0x40 + e / 4) * 0x1000 + 0x200 + (e % 4) * 0x200 + 0x100 + 4 * i

/-! R223, 09_feedback_ports.md. -/

abbrev FBK_CTRL (p : Nat) : Nat := (0x60 + p / 8) * 0x1000 + 0x200 + (p % 8) * 0x100 + 0x0
abbrev FBK_STATUS (p : Nat) : Nat := (0x60 + p / 8) * 0x1000 + 0x200 + (p % 8) * 0x100 + 0x4
abbrev FBK_CFG (p : Nat) : Nat := (0x60 + p / 8) * 0x1000 + 0x200 + (p % 8) * 0x100 + 0x8
abbrev FBK_PINS (p : Nat) : Nat := (0x60 + p / 8) * 0x1000 + 0x200 + (p % 8) * 0x100 + 0xc
abbrev FBK_POS_L (p : Nat) : Nat := (0x60 + p / 8) * 0x1000 + 0x200 + (p % 8) * 0x100 + 0x10
abbrev FBK_POS_H (p : Nat) : Nat := (0x60 + p / 8) * 0x1000 + 0x200 + (p % 8) * 0x100 + 0x14
abbrev FBK_LOAD_L (p : Nat) : Nat := (0x60 + p / 8) * 0x1000 + 0x200 + (p % 8) * 0x100 + 0x18
abbrev FBK_LOAD_H (p : Nat) : Nat := (0x60 + p / 8) * 0x1000 + 0x200 + (p % 8) * 0x100 + 0x1c
abbrev FBK_ETIME_L (p : Nat) : Nat := (0x60 + p / 8) * 0x1000 + 0x200 + (p % 8) * 0x100 + 0x20
abbrev FBK_ETIME_H (p : Nat) : Nat := (0x60 + p / 8) * 0x1000 + 0x200 + (p % 8) * 0x100 + 0x24
abbrev FBK_ZPOS_L (p : Nat) : Nat := (0x60 + p / 8) * 0x1000 + 0x200 + (p % 8) * 0x100 + 0x28
abbrev FBK_ZPOS_H (p : Nat) : Nat := (0x60 + p / 8) * 0x1000 + 0x200 + (p % 8) * 0x100 + 0x2c
abbrev FBK_ZTIME_L (p : Nat) : Nat := (0x60 + p / 8) * 0x1000 + 0x200 + (p % 8) * 0x100 + 0x30
abbrev FBK_ZTIME_H (p : Nat) : Nat := (0x60 + p / 8) * 0x1000 + 0x200 + (p % 8) * 0x100 + 0x34
abbrev FBK_SPEED_L (p : Nat) : Nat := (0x60 + p / 8) * 0x1000 + 0x200 + (p % 8) * 0x100 + 0x38
abbrev FBK_SPEED_H (p : Nat) : Nat := (0x60 + p / 8) * 0x1000 + 0x200 + (p % 8) * 0x100 + 0x3c
abbrev FBK_SPDCFG (p : Nat) : Nat := (0x60 + p / 8) * 0x1000 + 0x200 + (p % 8) * 0x100 + 0x40
abbrev FBK_CMP_L (p : Nat) : Nat := (0x60 + p / 8) * 0x1000 + 0x200 + (p % 8) * 0x100 + 0x44
abbrev FBK_CMP_H (p : Nat) : Nat := (0x60 + p / 8) * 0x1000 + 0x200 + (p % 8) * 0x100 + 0x48
abbrev FBK_CMPADJ (p : Nat) : Nat := (0x60 + p / 8) * 0x1000 + 0x200 + (p % 8) * 0x100 + 0x4c
abbrev FBK_SPACING (p : Nat) : Nat := (0x60 + p / 8) * 0x1000 + 0x200 + (p % 8) * 0x100 + 0x50
abbrev FBK_CMPBASE_L (p : Nat) : Nat := (0x60 + p / 8) * 0x1000 + 0x200 + (p % 8) * 0x100 + 0x54
abbrev FBK_CMPBASE_H (p : Nat) : Nat := (0x60 + p / 8) * 0x1000 + 0x200 + (p % 8) * 0x100 + 0x58
abbrev FBK_CMPCFG (p : Nat) : Nat := (0x60 + p / 8) * 0x1000 + 0x200 + (p % 8) * 0x100 + 0x5c
abbrev FBK_HQUEUE (p : Nat) : Nat := (0x60 + p / 8) * 0x1000 + 0x200 + (p % 8) * 0x100 + 0x60
abbrev FBK_HTPL (p : Nat) : Nat := (0x60 + p / 8) * 0x1000 + 0x200 + (p % 8) * 0x100 + 0x64
abbrev FBK_HARG_L (p : Nat) : Nat := (0x60 + p / 8) * 0x1000 + 0x200 + (p % 8) * 0x100 + 0x68
abbrev FBK_HARG_H (p : Nat) : Nat := (0x60 + p / 8) * 0x1000 + 0x200 + (p % 8) * 0x100 + 0x6c
abbrev FBK_HOFF (p : Nat) : Nat := (0x60 + p / 8) * 0x1000 + 0x200 + (p % 8) * 0x100 + 0x70
abbrev FBK_TDLY (p : Nat) : Nat := (0x60 + p / 8) * 0x1000 + 0x200 + (p % 8) * 0x100 + 0x74
abbrev FBK_HSTAT (p : Nat) : Nat := (0x60 + p / 8) * 0x1000 + 0x200 + (p % 8) * 0x100 + 0x78
abbrev FBK_MARKCFG (p : Nat) : Nat := (0x60 + p / 8) * 0x1000 + 0x200 + (p % 8) * 0x100 + 0x7c
abbrev FBK_MPOS_L (p : Nat) : Nat := (0x60 + p / 8) * 0x1000 + 0x200 + (p % 8) * 0x100 + 0x80
abbrev FBK_MPOS_H (p : Nat) : Nat := (0x60 + p / 8) * 0x1000 + 0x200 + (p % 8) * 0x100 + 0x84
abbrev FBK_MTIME_L (p : Nat) : Nat := (0x60 + p / 8) * 0x1000 + 0x200 + (p % 8) * 0x100 + 0x88
abbrev FBK_MTIME_H (p : Nat) : Nat := (0x60 + p / 8) * 0x1000 + 0x200 + (p % 8) * 0x100 + 0x8c
abbrev FBK_LPOS_L (p : Nat) : Nat := (0x60 + p / 8) * 0x1000 + 0x200 + (p % 8) * 0x100 + 0x90
abbrev FBK_LPOS_H (p : Nat) : Nat := (0x60 + p / 8) * 0x1000 + 0x200 + (p % 8) * 0x100 + 0x94
abbrev FBK_LTIME_L (p : Nat) : Nat := (0x60 + p / 8) * 0x1000 + 0x200 + (p % 8) * 0x100 + 0x98
abbrev FBK_LTIME_H (p : Nat) : Nat := (0x60 + p / 8) * 0x1000 + 0x200 + (p % 8) * 0x100 + 0x9c
abbrev FBK_LSPD_L (p : Nat) : Nat := (0x60 + p / 8) * 0x1000 + 0x200 + (p % 8) * 0x100 + 0xa0
abbrev FBK_LSPD_H (p : Nat) : Nat := (0x60 + p / 8) * 0x1000 + 0x200 + (p % 8) * 0x100 + 0xa4
abbrev FBK_SSICFG (p : Nat) : Nat := (0x60 + p / 8) * 0x1000 + 0x200 + (p % 8) * 0x100 + 0xa8
abbrev FBK_SSICLK (p : Nat) : Nat := (0x60 + p / 8) * 0x1000 + 0x200 + (p % 8) * 0x100 + 0xac
abbrev FBK_SSITM (p : Nat) : Nat := (0x60 + p / 8) * 0x1000 + 0x200 + (p % 8) * 0x100 + 0xb0
abbrev FBK_SSIPER (p : Nat) : Nat := (0x60 + p / 8) * 0x1000 + 0x200 + (p % 8) * 0x100 + 0xb4
abbrev FBK_LDLY (p : Nat) : Nat := (0x60 + p / 8) * 0x1000 + 0x200 + (p % 8) * 0x100 + 0xb8
abbrev FBK_SSIRAW_L (p : Nat) : Nat := (0x60 + p / 8) * 0x1000 + 0x200 + (p % 8) * 0x100 + 0xbc
abbrev FBK_SSIRAW_H (p : Nat) : Nat := (0x60 + p / 8) * 0x1000 + 0x200 + (p % 8) * 0x100 + 0xc0
abbrev FBK_ERR (p : Nat) : Nat := (0x60 + p / 8) * 0x1000 + 0x200 + (p % 8) * 0x100 + 0xc4
abbrev FBK_LOGQ (p : Nat) : Nat := (0x60 + p / 8) * 0x1000 + 0x200 + (p % 8) * 0x100 + 0xc8
abbrev FBK_ILLCNT (p : Nat) : Nat := (0x60 + p / 8) * 0x1000 + 0x200 + (p % 8) * 0x100 + 0xcc

/-! R244, 10_ensembles.md. -/

abbrev ENS_CFG : Nat := 0xc0040
abbrev ENS_ID : Nat := 0xc0044
abbrev ENS_ETYPE : Nat := 0xc0048
abbrev ENS_DMAC_L : Nat := 0xc004c
abbrev ENS_DMAC_H : Nat := 0xc0050
abbrev ENS_GUARD : Nat := 0xc0054
abbrev ENS_TOL : Nat := 0xc0058
abbrev ENS_HBPER : Nat := 0xc005c
abbrev ENS_MSEL : Nat := 0xc0060
abbrev ENS_MSERIAL_L (bank : Nat) : Nat := 0xc0064 + bank * 0x1000000
abbrev ENS_MSERIAL_H (bank : Nat) : Nat := 0xc0068 + bank * 0x1000000
abbrev ENS_MPRIO (bank : Nat) : Nat := 0xc006c + bank * 0x1000000
abbrev ENS_STATUS : Nat := 0xc0070
abbrev ENS_TERM : Nat := 0xc0074
abbrev ENS_OFFSET : Nat := 0xc0078
abbrev ENS_VER : Nat := 0xc007c
abbrev ENS_DIGEST (i : Nat) : Nat := 0xc0080 + 4 * i
abbrev ENS_WCYC : Nat := 0xc00a0
abbrev ENS_BUDGET : Nat := 0xc00a4
abbrev ENS_LQSEL : Nat := 0xc00a8
abbrev ENS_LQ (bank : Nat) : Nat := 0xc00ac + bank * 0x1000000
abbrev ENS_LBUF : Nat := 0xc00b0
abbrev ENS_LCTRL : Nat := 0xc00b4
abbrev ENS_LID : Nat := 0xc00b8
abbrev ENS_LSTAT : Nat := 0xc00bc
abbrev ENS_LOGQ : Nat := 0xc00c0
abbrev ENS_STB : Nat := 0xc00c4
abbrev ENS_STBDLY (i : Nat) : Nat := 0xc00c8 + 4 * i
abbrev ENS_DUP : Nat := 0xc00d0
abbrev ENS_STALE : Nat := 0xc00d4
abbrev ENS_LATE : Nat := 0xc00d8
abbrev ENS_STBSPUR : Nat := 0xc00dc

/-! R245, 10_ensembles.md. -/

abbrev ENP_CFG (n : Nat) : Nat := (0xC1 + n) * 0x1000 + 0x40
abbrev ENP_PLCA (n : Nat) : Nat := (0xC1 + n) * 0x1000 + 0x44
abbrev ENP_MAC_L (n : Nat) : Nat := (0xC1 + n) * 0x1000 + 0x48
abbrev ENP_MAC_H (n : Nat) : Nat := (0xC1 + n) * 0x1000 + 0x4c
abbrev ENP_STATUS (n : Nat) : Nat := (0xC1 + n) * 0x1000 + 0x50
abbrev ENP_RXERR (n : Nat) : Nat := (0xC1 + n) * 0x1000 + 0x54
abbrev ENP_RXOTHER (n : Nat) : Nat := (0xC1 + n) * 0x1000 + 0x58
abbrev ENP_COLL (n : Nat) : Nat := (0xC1 + n) * 0x1000 + 0x5c
abbrev ENP_DROP (n : Nat) : Nat := (0xC1 + n) * 0x1000 + 0x60
abbrev ENP_PDELAY (n : Nat) : Nat := (0xC1 + n) * 0x1000 + 0x64

/-! R288, 12_interrupts.md. -/

abbrev HVC_CTRL : Nat := 0xa0040
abbrev HVC_MARGIN : Nat := 0xa0044
abbrev HVC_SSEL : Nat := 0xa0048
abbrev HVC_SCFG : Nat := 0xa004c
abbrev HVC_SOWN : Nat := 0xa0050
abbrev HVC_CLAIM (i : Nat) : Nat := 0xa0060 + 4 * i
abbrev HVC_COMPLETE (i : Nat) : Nat := 0xa0070 + 4 * i
abbrev HVC_STACK (i : Nat) : Nat := 0xa0080 + 4 * i
abbrev HVC_LINE : Nat := 0xa0090
abbrev HVC_STK_INFO : Nat := 0xa0094
abbrev HVC_STK_CNT : Nat := 0xa0098

/-! R288, 12_interrupts.md. -/

abbrev HVC_EN (i : Nat) : Nat := 0xa1040 + 4 * i

/-! R288, 12_interrupts.md. -/

abbrev HVC_PEND (i : Nat) : Nat := 0xa2040 + 4 * i

/-! R309, 13_dma_and_mailboxes.md. -/

abbrev DMA_CTRL (ch : Nat) : Nat := (0x80 + ch) * 0x1000 + 0x40
abbrev DMA_STATUS (ch : Nat) : Nat := (0x80 + ch) * 0x1000 + 0x44
abbrev DMA_CQ_BASE_L (ch : Nat) : Nat := (0x80 + ch) * 0x1000 + 0x48
abbrev DMA_CQ_BASE_H (ch : Nat) : Nat := (0x80 + ch) * 0x1000 + 0x4c
abbrev DMA_CQ_CFG (ch : Nat) : Nat := (0x80 + ch) * 0x1000 + 0x50
abbrev DMA_CQ_HEAD (ch : Nat) : Nat := (0x80 + ch) * 0x1000 + 0x54
abbrev DMA_CQ_TAIL (ch : Nat) : Nat := (0x80 + ch) * 0x1000 + 0x58
abbrev DMA_D (ch : Nat) (i : Nat) : Nat := (0x80 + ch) * 0x1000 + 0x60 + 4 * i
abbrev DMA_DSEQ (ch : Nat) : Nat := (0x80 + ch) * 0x1000 + 0x80
abbrev DMA_BYTES (ch : Nat) : Nat := (0x80 + ch) * 0x1000 + 0x84
abbrev DMA_FAULT_ADDR_L (ch : Nat) : Nat := (0x80 + ch) * 0x1000 + 0x88
abbrev DMA_FAULT_ADDR_H (ch : Nat) : Nat := (0x80 + ch) * 0x1000 + 0x8c
abbrev DMA_FAULT_DIR (ch : Nat) : Nat := (0x80 + ch) * 0x1000 + 0x90

/-! R311, 13_dma_and_mailboxes.md. -/

abbrev MBX_FSTAT (m : Nat) (i : Nat) : Nat := (0xB0 + m) * 0x1000 + 0x100 + 4 * i

/-! R311, 13_dma_and_mailboxes.md. -/

abbrev MBX_ALIVE : Nat := 0xb0040

/-! R338, 14_modes_clocks_power.md. -/

abbrev DBG_CTRL : Nat := 0x100040
abbrev DBG_STATUS : Nat := 0x100044

/-! R271,R46,R105,R130,R289,R310, 11_host_interface.md + 02,04,05,12,13. -/

abbrev TEN_ID (fn : Nat) : Nat := 0x10000000000 + fn * 0x10000 + 0x0
abbrev TEN_QUOTA (fn : Nat) (i : Nat) : Nat := 0x10000000000 + fn * 0x10000 + 0x10 + 4 * i
abbrev TEN_USE (fn : Nat) (i : Nat) : Nat := 0x10000000000 + fn * 0x10000 + 0x40 + 4 * i
abbrev TEN_CMD_BASE_L (fn : Nat) : Nat := 0x10000000000 + fn * 0x10000 + 0x100
abbrev TEN_CMD_BASE_H (fn : Nat) : Nat := 0x10000000000 + fn * 0x10000 + 0x104
abbrev TEN_CMD_SIZE (fn : Nat) : Nat := 0x10000000000 + fn * 0x10000 + 0x108
abbrev TEN_CMD_TAIL (fn : Nat) : Nat := 0x10000000000 + fn * 0x10000 + 0x10c
abbrev TEN_CMD_HEAD (fn : Nat) : Nat := 0x10000000000 + fn * 0x10000 + 0x110
abbrev TEN_CPL_BASE_L (fn : Nat) : Nat := 0x10000000000 + fn * 0x10000 + 0x114
abbrev TEN_CPL_BASE_H (fn : Nat) : Nat := 0x10000000000 + fn * 0x10000 + 0x118
abbrev TEN_CPL_SIZE (fn : Nat) : Nat := 0x10000000000 + fn * 0x10000 + 0x11c
abbrev TEN_CPL_HEAD (fn : Nat) : Nat := 0x10000000000 + fn * 0x10000 + 0x120
abbrev TEN_CPL_TAIL (fn : Nat) : Nat := 0x10000000000 + fn * 0x10000 + 0x124
abbrev TEN_RING_CTRL (fn : Nat) : Nat := 0x10000000000 + fn * 0x10000 + 0x128
abbrev TEN_RING_STAT (fn : Nat) : Nat := 0x10000000000 + fn * 0x10000 + 0x12c
abbrev TEN_CREDIT (fn : Nat) : Nat := 0x10000000000 + fn * 0x10000 + 0x130
abbrev TEN_SEQ (fn : Nat) : Nat := 0x10000000000 + fn * 0x10000 + 0x134
abbrev TEN_QDB_L (fn : Nat) : Nat := 0x10000000000 + fn * 0x10000 + 0x200
abbrev TEN_QDB_H (fn : Nat) : Nat := 0x10000000000 + fn * 0x10000 + 0x204
abbrev TEN_QDB_STAT (fn : Nat) : Nat := 0x10000000000 + fn * 0x10000 + 0x208
abbrev TEN_QDB_IDX (fn : Nat) : Nat := 0x10000000000 + fn * 0x10000 + 0x20c
abbrev TEN_QSEL (fn : Nat) : Nat := 0x10000000000 + fn * 0x10000 + 0x210
abbrev TEN_QINFO (fn : Nat) (i : Nat) : Nat := 0x10000000000 + fn * 0x10000 + 0x214 + 4 * i
abbrev TEN_NOW_L (fn : Nat) : Nat := 0x10000000000 + fn * 0x10000 + 0x300
abbrev TEN_NOW_H (fn : Nat) : Nat := 0x10000000000 + fn * 0x10000 + 0x304
abbrev TEN_NOW_EPOCH (fn : Nat) : Nat := 0x10000000000 + fn * 0x10000 + 0x308
abbrev TEN_TB_STATUS (fn : Nat) : Nat := 0x10000000000 + fn * 0x10000 + 0x30c
abbrev TEN_ABORT (fn : Nat) : Nat := 0x10000000000 + fn * 0x10000 + 0x400
abbrev TEN_ABORT_STATUS (fn : Nat) : Nat := 0x10000000000 + fn * 0x10000 + 0x404
abbrev TEN_ABORT_TIME_L (fn : Nat) : Nat := 0x10000000000 + fn * 0x10000 + 0x408
abbrev TEN_ABORT_TIME_H (fn : Nat) : Nat := 0x10000000000 + fn * 0x10000 + 0x40c
abbrev TEN_MBX_OUT (fn : Nat) (i : Nat) : Nat := 0x10000000000 + fn * 0x10000 + 0x800 + 4 * i
abbrev TEN_MBX_IN (fn : Nat) (i : Nat) : Nat := 0x10000000000 + fn * 0x10000 + 0x840 + 4 * i
abbrev TEN_MBX_CTRL (fn : Nat) : Nat := 0x10000000000 + fn * 0x10000 + 0x880
abbrev TEN_MBX_STAT (fn : Nat) : Nat := 0x10000000000 + fn * 0x10000 + 0x884
abbrev TEN_MBX_ALIVE (fn : Nat) : Nat := 0x10000000000 + fn * 0x10000 + 0x888
abbrev TEN_IRQ_EN (fn : Nat) : Nat := 0x10000000000 + fn * 0x10000 + 0x1000
abbrev TEN_IRQ_EN_SET (fn : Nat) : Nat := 0x10000000000 + fn * 0x10000 + 0x1004
abbrev TEN_IRQ_EN_CLR (fn : Nat) : Nat := 0x10000000000 + fn * 0x10000 + 0x1008
abbrev TEN_IRQ_PEND (fn : Nat) : Nat := 0x10000000000 + fn * 0x10000 + 0x1010
abbrev TEN_IRQ_PEND_SET (fn : Nat) : Nat := 0x10000000000 + fn * 0x10000 + 0x1014
abbrev TEN_IRQ_PEND_CLR (fn : Nat) : Nat := 0x10000000000 + fn * 0x10000 + 0x1018
abbrev TEN_IRQ_SHNEXT (fn : Nat) : Nat := 0x10000000000 + fn * 0x10000 + 0x1020
abbrev TEN_IRQ_SHEN_SET (fn : Nat) : Nat := 0x10000000000 + fn * 0x10000 + 0x1024
abbrev TEN_IRQ_SHEN_CLR (fn : Nat) : Nat := 0x10000000000 + fn * 0x10000 + 0x1028
abbrev TEN_IRQ_SHPEND_CLR (fn : Nat) : Nat := 0x10000000000 + fn * 0x10000 + 0x102c
abbrev TEN_VSEL (fn : Nat) : Nat := 0x10000000000 + fn * 0x10000 + 0x1030
abbrev TEN_VMOD (fn : Nat) (bank : Nat) : Nat := 0x10000000000 + fn * 0x10000 + 0x1034 + bank * 0x100000000000
abbrev TEN_VSTAT (fn : Nat) : Nat := 0x10000000000 + fn * 0x10000 + 0x1038
abbrev TEN_FAULT (fn : Nat) (i : Nat) : Nat := 0x10000000000 + fn * 0x10000 + 0x2000 + 4 * i
abbrev TEN_FAULT_IDX (fn : Nat) : Nat := 0x10000000000 + fn * 0x10000 + 0x2800

end Reg

end Sys2Proof.Machine
end

