-- ==== Sys2Proof/Machine/Ops.lean ====
section
/-! DEFINITION. The shared operations over tables, registers, the time base, memory and the slab
map. -/

namespace Sys2Proof.Machine

open Sys2Proof

/-! ### Tables -/

/-- The entry of key `k`, or the default. -/
def Tbl.get {α : Type} (d : α) : Tbl α → Nat → α
  | [], _ => d
  | (a, v) :: r, k => if a = k then v else Tbl.get d r k

/-- Puts an entry where the strictly rising order wants it. -/
def Tbl.put {α : Type} : Tbl α → Nat → α → Tbl α
  | [], k, v => [(k, v)]
  | (a, x) :: r, k, v =>
    if a = k then (k, v) :: r
    else if k < a then (k, v) :: (a, x) :: r
    else (a, x) :: Tbl.put r k v

/-- Takes every entry of key `k` out. -/
def Tbl.drop {α : Type} (t : Tbl α) (k : Nat) : Tbl α := t.filter fun e => e.1 != k

/-- Writes an entry, keeping the canonical form: the default is never listed. -/
def Tbl.set {α : Type} [DecidableEq α] (d : α) (t : Tbl α) (k : Nat) (v : α) : Tbl α :=
  if v = d then Tbl.drop t k else Tbl.put t k v

/-- The canonical form of a table over default `d`. -/
def Tbl.wf {α : Type} [DecidableEq α] (d : α) (t : Tbl α) : Bool :=
  decide (t.Pairwise fun x y => x.1 < y.1) && t.all fun e => decide (e.2 ≠ d)

/-- The keys of a table, rising. -/
def Tbl.keys {α : Type} (t : Tbl α) : List Nat := t.map Prod.fst

/-! ### Bit fields of numbers and words -/

/-- The n-bit field of `w` from bit `lo` up. -/
def bits (w lo n : Nat) : Nat := w / 2 ^ lo % 2 ^ n

/-- Bit `i` of `w`. -/
def bitAt (w i : Nat) : Bool := decide (w / 2 ^ i % 2 = 1)

/-- `w` with its n-bit field from `lo` up replaced by `v`. -/
def putBits (w lo n v : Nat) : Nat := w - bits w lo n * 2 ^ lo + v % 2 ^ n * 2 ^ lo

/-- A number as a register word. -/
def word (n : Nat) : Word := BitVec.ofNat 32 n

/-- The truth value as a bit. -/
def b2n (b : Bool) : Nat := if b then 1 else 0

/-- The signed value of an n-bit field. -/
def signed (n v : Nat) : Int := if v % 2 ^ n < 2 ^ (n - 1) then (v % 2 ^ n : Nat) else (v % 2 ^ n : Nat) - (2 ^ n : Nat)

/-- The n-bit two's complement of an integer. -/
def unsigned (n : Nat) (v : Int) : Nat := (v % (2 ^ n : Nat)).toNat

/-- The indices below n of the bits of `w` that are 1, rising. -/
def bitList (n w : Nat) : List Nat := (List.range n).filter (bitAt w)

/-- The n little-endian bytes of a number. -/
def bytesLE : Nat → Nat → List Nat
  | 0, _ => []
  | n + 1, v => v % 256 :: bytesLE n (v / 256)

/-- The number that little-endian bytes spell. -/
def ofBytesLE : List Nat → Nat
  | [] => 0
  | b :: r => b % 256 + 256 * ofBytesLE r

/-- Adds `k` unless the sum would leave `[0, m]` (a saturating counter). -/
def satAdd (m v k : Nat) : Nat := min m (v + k)

/-! ### Registers -/

/-- The block and instance of a page (R13). -/
def blockOf (page : Nat) : Option (Blk × Nat) :=
  if page = 0 then some (.glb, 0) else if page = 1 then some (.clk, 0)
  else if page = 2 then some (.pwr, 0) else if page = 3 then some (.tb, 0)
  else if page = 4 then some (.cfg, 0) else if page = 5 then some (.sec, 0)
  else if page = 6 then some (.rel, 0) else if page = 8 then some (.sch, 0)
  else if page = 9 then some (.qm, 0) else if page = 0xA then some (.adm, 0)
  else if page = 0xB then some (.slm, 0)
  else if 0x10 ≤ page ∧ page < 0x30 then some (.slv, page - 0x10)
  else if 0x30 ≤ page ∧ page < 0x39 then some (.try, page - 0x30)
  else if 0x40 ≤ page ∧ page < 0x60 then some (.pio, page - 0x40)
  else if 0x60 ≤ page ∧ page < 0x68 then some (.fbk, page - 0x60)
  else if 0x80 ≤ page ∧ page < 0xA0 then some (.dma, page - 0x80)
  else if 0xA0 ≤ page ∧ page < 0xB0 then some (.hvc, page - 0xA0)
  else if 0xB0 ≤ page ∧ page < 0xC0 then some (.mbx, page - 0xB0)
  else if page = 0xC0 then some (.ens, 0)
  else if 0xC1 ≤ page ∧ page < 0xC5 then some (.enp, page - 0xC1)
  else if page = 0x100 then some (.dbg, 0)
  else none

/-- PG_ID.TYPE of a block (R13). -/
def Blk.type : Blk → Nat
  | .glb => 0x0001 | .clk => 0x0002 | .pwr => 0x0003 | .tb => 0x0004 | .cfg => 0x0005
  | .sec => 0x0006 | .rel => 0x0007 | .sch => 0x0010 | .qm => 0x0011 | .adm => 0x0012
  | .slm => 0x0013 | .slv => 0x0020 | .try => 0x0021 | .pio => 0x0022 | .fbk => 0x0023
  | .dma => 0x0030 | .hvc => 0x0031 | .mbx => 0x0032 | .ens => 0x0040 | .enp => 0x0041
  | .dbg => 0x00F0 | .ten => 0

/-- The row of a listing that covers an offset. -/
def findRow : List RegRow → Nat → Option RegRow
  | [], _ => none
  | r :: rs, o =>
    if r.off ≤ o ∧ o < r.off + r.cnt * r.step ∧ (o - r.off) % r.step = 0 then some r
    else findRow rs o

/-- The listing that stands at an offset of a block's page, and the offset in it. -/
def listing (b : Blk) (inst off : Nat) : List RegRow × Nat :=
  if off < 0x40 then (rowsHeader, off)
  else match b with
    | .glb => (rowsGlb, off) | .clk => (rowsClk, off) | .pwr => (rowsPwr, off)
    | .tb => (rowsTb, off) | .cfg => (rowsCfg, off) | .sec => (rowsSec, off)
    | .rel => (rowsRel, off) | .sch => (rowsSch, off) | .qm => (rowsQm, off)
    | .adm => (rowsAdm, off) | .slm => (rowsSlm, off)
    | .slv => if off < 0x400 then (rowsSlv, off) else (rowsCuf, (off - 0x400) % 0x60)
    | .try => (rowsTry, off)
    | .pio => if off < 0x200 then (if inst = 0 then (rowsPio, off) else ([], off))
              else if off < 0xA00 then (rowsPioEngine, (off - 0x200) % 0x200) else ([], off)
    | .fbk => if 0x200 ≤ off ∧ off < 0xA00 then (rowsFbkPort, (off - 0x200) % 0x100) else ([], off)
    | .dma => (rowsDma, off)
    | .hvc => if inst = 0 then (rowsHvc, off) else if inst = 1 then (rowsHvcEn, off)
              else if inst = 2 then (rowsHvcPend, off) else ([], off)
    | .mbx => if inst = 0 ∧ off < 0x100 then (rowsMbx0, off) else (rowsMbx, off)
    | .ens => (rowsEns, off) | .enp => (rowsEnp, off) | .dbg => (rowsDbg, off)
    | .ten => (rowsTen, off)

/-- The first key of the tenant pages. -/
abbrev tenBase : Nat := 0x10000000000

/-- The row of a register's key, if a register stands there. -/
def rowOf (key : Nat) : Option RegRow :=
  if tenBase ≤ key then findRow rowsTen (key % 0x10000)
  else
    let page := key % 0x1000000 / 0x1000
    match blockOf page with
    | none => none
    | some (b, inst) =>
      let l := listing b inst (key % 0x1000)
      findRow l.1 l.2

/-- The reset value of a register; TEN_CREDIT resets to 256 at the PF and 8 at a VF (R259). -/
def resetOf (key : Nat) : Word :=
  if key = Reg.TEN_CREDIT 0 then word 256
  else match rowOf key with
    | some r => word r.reset
    | none => 0

/-- The page of a block register's key. -/
def pageOf (key : Nat) : Nat := if tenBase ≤ key then 0x800 else key % 0x1000000 / 0x1000

/-- A register's value in effect. -/
def State.reg (s : State) (k : Nat) : Word := Tbl.get (resetOf k) s.regs k

/-- A register's value in effect as a number. -/
def State.regN (s : State) (k : Nat) : Nat := (s.reg k).toNat

/-- Sets a register's value in effect. -/
def State.setReg (s : State) (k : Nat) (v : Word) : State :=
  { s with regs := Tbl.set (resetOf k) s.regs k v }

/-- Sets a register's value in effect from a number. -/
def State.setN (s : State) (k v : Nat) : State := s.setReg k (word v)

/-- A field of a register. -/
def State.fld (s : State) (k lo n : Nat) : Nat := bits (s.regN k) lo n

/-- Sets a field of a register. -/
def State.setFld (s : State) (k lo n v : Nat) : State := s.setN k (putBits (s.regN k) lo n v)

/-- A bit of a register. -/
def State.bit (s : State) (k i : Nat) : Bool := bitAt (s.regN k) i

/-- Sets a bit of a register. -/
def State.setBit (s : State) (k i : Nat) (b : Bool) : State := s.setFld k i 1 (b2n b)

/-- Adds to a counter field, saturating. -/
def State.incSat (s : State) (k lo n : Nat) : State :=
  s.setFld k lo n (satAdd (2 ^ n - 1) (s.fld k lo n) 1)

/-- Adds to a counter field, wrapping. -/
def State.incWrap (s : State) (k lo n : Nat) : State := s.setFld k lo n (s.fld k lo n + 1)

/-- The value split over a low and a high register (R4). -/
def State.pair (s : State) (l h : Nat) : Nat := s.regN h * 2 ^ 32 + s.regN l

/-- Sets a value split over a low and a high register. -/
def State.setPair (s : State) (l h v : Nat) : State := (s.setN l (v % 2 ^ 32)).setN h (v / 2 ^ 32)

/-- The staged value of a register (R7, R10). State holds, for every register whose shadow differs
from the value in effect, the exclusive or of the two. -/
def State.staged (s : State) (k : Nat) : Word := s.reg k ^^^ Tbl.get 0 s.shadow k

/-- Sets the staged value of a register. -/
def State.setStaged (s : State) (k : Nat) (v : Word) : State :=
  { s with shadow := Tbl.set 0 s.shadow k (s.reg k ^^^ v) }

/-- Sets a field in effect and in the shadow alike (R29, R39, R51). -/
def State.setBoth (s : State) (k lo n v : Nat) : State :=
  let st := putBits (s.staged k).toNat lo n v
  (s.setFld k lo n v).setStaged k (word st)

/-- The keys of a page whose shadow differs from the value in effect: PG_STAGE.DIRTY counts them. -/
def State.dirtyKeys (s : State) (page : Nat) : List Nat :=
  (Tbl.keys s.shadow).filter fun k => pageOf k == page

/-- The number of registers of a page whose shadow differs (R13 DIRTY, R21). -/
def State.dirty (s : State) (page : Nat) : Nat := (s.dirtyKeys page).length

/-- Reloads a page's shadow from the values in effect (R17 DISCARD, R20). -/
def State.discard (s : State) (page : Nat) : State :=
  { s with shadow := s.shadow.filter fun e => pageOf e.1 != page }

/-! ### Page errors -/

/-- Sets a bit of PG_ERR of a page. -/
def State.pgErr (s : State) (page b : Nat) : State := s.setBit (Reg.PG_ERR page) b true

/-- Sets a bit of PG_ERR and writes PG_ERR_INFO.CODE. -/
def State.pgErrCode (s : State) (page b code : Nat) : State :=
  (s.pgErr page b).setFld (Reg.PG_ERR_INFO page) 0 8 code

/-! ### Status codes (R9) -/

namespace Code
abbrev ok : Nat := 0x00
abbrev lateExecuted : Nat := 0x01
abbrev lateDropped : Nat := 0x02
abbrev queueLate : Nat := 0x03
abbrev rejectLate : Nat := 0x04
abbrev rejectRate : Nat := 0x05
abbrev rejectQuota : Nat := 0x06
abbrev rejectCapacity : Nat := 0x07
abbrev rejectClass : Nat := 0x08
abbrev duplicate : Nat := 0x09
abbrev staleSeq : Nat := 0x0A
abbrev aborted : Nat := 0x0B
abbrev queueFull : Nat := 0x0C
abbrev slabFault : Nat := 0x0D
abbrev walkDevice : Nat := 0x0E
abbrev slabEcc : Nat := 0x0F
abbrev busError : Nat := 0x10
abbrev compareMismatch : Nat := 0x11
abbrev cfgTooLarge : Nat := 0x12
abbrev ensembleMismatch : Nat := 0x13
abbrev ensembleHold : Nat := 0x14
abbrev versionExcluded : Nat := 0x15
abbrev timeInvalid : Nat := 0x16
abbrev guardTrip : Nat := 0x17
abbrev bridgeShort : Nat := 0x18
abbrev wireFault : Nat := 0x19
abbrev illegalEdge : Nat := 0x1A
abbrev pioStall : Nat := 0x1B
abbrev stall : Nat := 0x1C
abbrev stackFault : Nat := 0x1D
abbrev voteLost : Nat := 0x1E
abbrev laneSwitch : Nat := 0x1F
end Code

/-! ### Modes (R316) -/

namespace Mode
abbrev off : Nat := 0
abbrev boot : Nat := 1
abbrev provision : Nat := 2
abbrev run : Nat := 3
abbrev degraded : Nat := 4
abbrev safe : Nat := 5
abbrev halt : Nat := 6
abbrev doze : Nat := 7
end Mode

/-! ### The time base as the other blocks see it (R25-R27) -/

/-- M = TB_RELOAD + 1, the length of the time circle (R26, R27). -/
def State.circle (s : State) : Nat := s.pair Reg.TB_RELOAD_L Reg.TB_RELOAD_H + 1

/-- Time `b` is at or after time `a` (R27). -/
def State.atOrAfter (s : State) (b a : Nat) : Bool :=
  decide (2 * ((b % s.circle + s.circle - a % s.circle) % s.circle) < s.circle)

/-- The time `d` crumbs after `t` on the circle. -/
def State.plus (s : State) (t d : Nat) : Nat := (t + d) % s.circle

/-- The time `d` crumbs before `t` on the circle. -/
def State.minus (s : State) (t d : Nat) : Nat := (t % s.circle + s.circle - d % s.circle) % s.circle

/-- Time `t` has come. -/
def State.reached (s : State) (t : Nat) : Bool := s.atOrAfter s.tb.now t

/-- Time `t` lies at least `d` crumbs ahead of now. -/
def State.ahead (s : State) (t d : Nat) : Bool := s.atOrAfter t (s.plus s.tb.now d)

/-- The later of two times (R27). -/
def State.later (s : State) (a b : Nat) : Nat := if s.atOrAfter b a then b else a

/-- TB_STATUS.VALID. -/
def State.tbValid (s : State) : Bool := s.bit Reg.TB_STATUS 0

/-- TB_STATUS.COARSE. -/
def State.coarse (s : State) : Bool := s.bit Reg.TB_STATUS 2

/-! ### Outputs and free picks -/

/-- Appends to what the device has sent. -/
def State.send (s : State) (o : Out) : State := { s with out := s.out ++ [o] }

/-- One of the candidates, by a free pick; none where there is no candidate. -/
def pickOf (n : Nat) (cands : List Nat) : Option Nat := cands[Config.pick n % cands.length]?

/-- Advances the counter of free picks. -/
def State.nextFresh (s : State) : State := { s with fresh := s.fresh + 1 }

/-! ### Typed state -/

def State.page (s : State) (p : Nat) : Page := Tbl.get {} s.pages p
def State.setPage (s : State) (p : Nat) (v : Page) : State := { s with pages := Tbl.set {} s.pages p v }
def State.group (s : State) (g : Nat) : Group := Tbl.get {} s.groups g
def State.setGroup (s : State) (g : Nat) (v : Group) : State := { s with groups := Tbl.set {} s.groups g v }
def State.cuff (s : State) (c : Nat) : Cuff := Tbl.get {} s.cuffs c
def State.setCuff (s : State) (c : Nat) (v : Cuff) : State := { s with cuffs := Tbl.set {} s.cuffs c v }
def State.sleeve (s : State) (n : Nat) : Sleeve := Tbl.get {} s.sleeves n
def State.setSleeve (s : State) (n : Nat) (v : Sleeve) : State := { s with sleeves := Tbl.set {} s.sleeves n v }
def State.pairSt (s : State) (p : Nat) : Pair := Tbl.get {} s.pairs p
def State.setPairSt (s : State) (p : Nat) (v : Pair) : State := { s with pairs := Tbl.set {} s.pairs p v }
def State.voter (s : State) (k : Nat) : Voter := Tbl.get {} s.voters k
def State.setVoter (s : State) (k : Nat) (v : Voter) : State := { s with voters := Tbl.set {} s.voters k v }
def State.queue (s : State) (q : Nat) : Queue := Tbl.get {} s.queues q
def State.setQueue (s : State) (q : Nat) (v : Queue) : State := { s with queues := Tbl.set {} s.queues q v }
def State.seamOf (s : State) (i : Nat) : Seam := Tbl.get {} s.seams i
def State.setSeam (s : State) (i : Nat) (v : Seam) : State := { s with seams := Tbl.set {} s.seams i v }
def State.fifo (s : State) (k : Nat) : List Flight := Tbl.get [] s.fifos k
def State.setFifo (s : State) (k : Nat) (v : List Flight) : State := { s with fifos := Tbl.set [] s.fifos k v }
def State.tray (s : State) (t : Nat) : Tray := Tbl.get {} s.trays t
def State.setTray (s : State) (t : Nat) (v : Tray) : State := { s with trays := Tbl.set {} s.trays t v }
def State.ctx (s : State) (c : Nat) : Ctx := Tbl.get {} s.ctxs c
def State.setCtx (s : State) (c : Nat) (v : Ctx) : State := { s with ctxs := Tbl.set {} s.ctxs c v }
def State.flag (s : State) (f : Nat) : Flag := Tbl.get {} s.flags f
def State.setFlag (s : State) (f : Nat) (v : Flag) : State := { s with flags := Tbl.set {} s.flags f v }
def State.pio (s : State) (e : Nat) : Pio := Tbl.get {} s.pios e
def State.setPio (s : State) (e : Nat) (v : Pio) : State := { s with pios := Tbl.set {} s.pios e v }
def State.port (s : State) (p : Nat) : Fbk := Tbl.get {} s.ports p
def State.setPort (s : State) (p : Nat) (v : Fbk) : State := { s with ports := Tbl.set {} s.ports p v }
def State.member (s : State) (m : Nat) : Member := Tbl.get {} s.ens.members m
def State.setMember (s : State) (m : Nat) (v : Member) : State :=
  { s with ens := { s.ens with members := Tbl.set {} s.ens.members m v } }
def State.enp (s : State) (n : Nat) : Enp := Tbl.get {} s.enps n
def State.setEnp (s : State) (n : Nat) (v : Enp) : State := { s with enps := Tbl.set {} s.enps n v }
def State.fn (s : State) (f : Nat) : Fn := Tbl.get {} s.fns f
def State.setFn (s : State) (f : Nat) (v : Fn) : State := { s with fns := Tbl.set {} s.fns f v }
def State.vec (s : State) (k : Nat) : Vec := Tbl.get {} s.vecs k
def State.setVec (s : State) (k : Nat) (v : Vec) : State := { s with vecs := Tbl.set {} s.vecs k v }
def State.stack (s : State) (c : Nat) : List (Nat × Nat) := Tbl.get [] s.coreStacks c
def State.setStack (s : State) (c : Nat) (v : List (Nat × Nat)) : State := { s with coreStacks := Tbl.set [] s.coreStacks c v }
def State.chan (s : State) (c : Nat) : Chan := Tbl.get {} s.chans c
def State.setChan (s : State) (c : Nat) (v : Chan) : State := { s with chans := Tbl.set {} s.chans c v }
def State.word40 (s : State) (k : Nat) : BitVec 40 := Tbl.get 0 s.cs k
def State.setWord40 (s : State) (k : Nat) (v : BitVec 40) : State := { s with cs := Tbl.set 0 s.cs k v }

/-- The route a source has at reset (R275). -/
def srcDefault (id : Nat) : Src := { func := if id < 0x3000 then id / 24 else 0 }
def State.src (s : State) (id : Nat) : Src := Tbl.get (srcDefault id) s.srcs id
def State.setSrc (s : State) (id : Nat) (v : Src) : State := { s with srcs := Tbl.set (srcDefault id) s.srcs id v }

/-! ### On-chip memory (R109, R295, R356): 64 MB, unlisted bytes read 0 (log entry 7) -/

/-- The canonical form of memory. -/
def Memory.wf (m : List Host.Cell) : Bool := Tbl.wf (0 : BitVec 8) m

/-- A byte of memory. -/
def State.byte (s : State) (a : Nat) : BitVec 8 := Tbl.get 0 s.mem a

/-- Writes a byte. -/
def State.setByte (s : State) (a : Nat) (v : BitVec 8) : State := { s with mem := Tbl.set 0 s.mem a v }

/-- n bytes from internal address `a` up, as a little-endian number. -/
def State.readMem (s : State) (a : Nat) : Nat → Nat
  | 0 => 0
  | n + 1 => (s.byte a).toNat + 256 * s.readMem (a + 1) n

/-- Writes bytes from `a` up; a byte that is not enabled is left. -/
def writeBytesAt (m : List Host.Cell) (a : Nat) : List (Option Nat) → List Host.Cell
  | [] => m
  | none :: r => writeBytesAt m (a + 1) r
  | some b :: r => writeBytesAt (Tbl.set 0 m a (BitVec.ofNat 8 b)) (a + 1) r

/-- The 8-byte words that a write replaces whole: these lose an uncorrectable mark (R295, R356). -/
def wholeWords (a : Nat) (bs : List (Option Nat)) : List Nat :=
  (List.range (bs.length / 8 + 1)).filterMap fun i =>
    let w := (a + 7) / 8 + i
    let part := (bs.drop (w * 8 - a)).take 8
    if part.length = 8 ∧ part.all Option.isSome = true then some w else none

/-- Writes bytes to internal addresses. -/
def State.writeBytes (s : State) (a : Nat) (bs : List (Option Nat)) : State :=
  let ws := wholeWords a bs
  { s with mem := writeBytesAt s.mem a bs,
           eccBad := s.eccBad.filter fun w => !ws.contains w,
           eccSoft := s.eccSoft.filter fun w => !ws.contains w }

/-- Writes the n little-endian bytes of a number. -/
def State.writeMem (s : State) (a n v : Nat) : State := s.writeBytes a ((bytesLE n v).map some)

/-- Some 8-byte word of the range holds an uncorrectable error. -/
def State.eccIn (s : State) (a n : Nat) : Bool :=
  s.eccBad.any fun w => decide (w * 8 < a + n ∧ a < w * 8 + 8)

/-! ### The slab walk (R110-R112) -/

/-- What a walk gives: an internal address, or a code and the failing level. -/
inductive Walk where
  | ok (p : Nat)
  | bad (code level : Nat)
  deriving DecidableEq, Repr

/-- The walk of slab address `a` of tenant `n` (R111), in the order of its checks. A table address that a level-1 entry holds
and that fails its range check is reported at level 1: R129 does not say at which level (log entry 28). -/
def State.walk (s : State) (n a : Nat) : Walk :=
  let l1 := s.regN (Reg.SLM_L1BASE n)
  if bitAt l1 0 = false then .bad Code.slabFault 0
  else
    let a1 := l1 / 256 * 256 + 4 * bits a 20 6
    if s.eccIn a1 4 then .bad Code.slabEcc 0
    else
      let e1 := s.readMem a1 4
      if bitAt e1 0 = false then .bad Code.slabFault 0
      else
        let t2 := e1 / 64 * 64
        if 0x40000000 ≤ t2 then .bad Code.walkDevice 1
        else if t2 < 0x03C00000 ∨ 0x04000000 ≤ t2 then .bad Code.slabFault 1
        else
          let a2 := t2 + 4 * bits a 16 4
          if s.eccIn a2 4 then .bad Code.slabEcc 1
          else
            let e2 := s.readMem a2 4
            if bitAt e2 0 = false then .bad Code.slabFault 1
            else
              let p := e2 / 65536 * 65536
              if 0x40000000 ≤ p then .bad Code.walkDevice 1
              else if p < 0x01000000 ∨ 0x03C00000 ≤ p then .bad Code.slabFault 1
              else .ok (p + a % 65536)

/-- What a failed walk writes on the SLM page (R112, R129). Sources: 0 queue, 1 log queue,
2 context, 3 DMA, 4 BAR2. -/
def State.walkFailed (s : State) (n a src code level : Nat) : State :=
  let s := s.setN Reg.SLM_FAULT_INFO (code + n % 512 * 2 ^ 8 + src % 8 * 2 ^ 17 + level % 2 * 2 ^ 20)
  let s := s.setN Reg.SLM_FAULT_ADDR (a % 2 ^ 26)
  let s := s.incSat Reg.SLM_FAULT_CNT 0 32
  if code = Code.slabEcc then s.pgErr 0xB 16 else s

/-- The outcome of an access: the next state with the data, or with a status code. -/
inductive Access (α : Type) where
  | ok (v : α) (s : State)
  | bad (code : Nat) (s : State)
  deriving Repr

/-- The table words a walk reads, first level and second level: the second only where the steps before it pass (R111). -/
def State.walkWords (s : State) (n a : Nat) : List Nat :=
  let l1 := s.regN (Reg.SLM_L1BASE n)
  if bitAt l1 0 = false then []
  else
    let a1 := l1 / 256 * 256 + 4 * bits a 20 6
    let e1 := s.readMem a1 4
    let t2 := e1 / 64 * 64
    if bitAt e1 0 = false ∨ s.eccIn a1 4 ∨ t2 < 0x03C00000 ∨ 0x04000000 ≤ t2 then [a1 / 8]
    else [a1 / 8, (t2 + 4 * bits a 16 4) / 8]

end Sys2Proof.Machine
end

