-- ==== Sys2Proof/Machine/Events.lean ====
section
/-! DEFINITION. What several blocks share beyond registers and memory: slab accesses, interrupt
events (R272-R283), REL records (R359), fault records (R257) and log queue records (R88, R89). -/

namespace Sys2Proof.Machine

open Sys2Proof

/-! ### Interrupt events -/

/-- The key of a function's vector. -/
abbrev vecKey (fn v : Nat) : Nat := fn * 2048 + v

/-- The number of vectors a function has: PF 2,048, each VF 16 (R246). -/
def vecCount (fn : Nat) : Nat := if fn = 0 then 2048 else 16

def State.srcEn (s : State) (id : Nat) : Bool := s.bit (Reg.HVC_EN (id / 32)) (id % 32)
def State.srcPend (s : State) (id : Nat) : Bool := s.bit (Reg.HVC_PEND (id / 32)) (id % 32)
def State.setSrcEn (s : State) (id : Nat) (b : Bool) : State := s.setBit (Reg.HVC_EN (id / 32)) (id % 32) b
def State.setSrcPend (s : State) (id : Nat) (b : Bool) : State := s.setBit (Reg.HVC_PEND (id / 32)) (id % 32) b

/-- TEN_VMOD.COUNT of a vector; 0 reads 1 (R280, R289). -/
def State.vecTarget (s : State) (fn v : Nat) : Nat := max 1 (s.fld (Reg.TEN_VMOD fn v) 0 8)

/-- MSI-X may leave this vector now (R282). -/
def State.vecOpen (s : State) (fn v : Nat) : Bool :=
  let f := s.fn fn
  f.msixEn && f.bme && !f.fmask && !(s.vec (vecKey fn v)).masked && s.link.up

/-- A due vector sends its message, or keeps it: HVC disabled (R278), function not in D0 (R283),
masked or MSI-X off (R282: the pending bit), link in L1 (R283: held until L0). -/
def State.sendVec (s : State) (fn v : Nat) : State :=
  let x := s.vec (vecKey fn v)
  if s.bit Reg.HVC_CTRL 0 = false then s
  else if (s.fn fn).dstate ≠ 0 then s
  else if s.vecOpen fn v = false then s.setVec (vecKey fn v) { x with pba := true }
  else if s.link.l0 = false then
    if s.link.held.contains (fn, v) then s
    else { s with link := { s.link with held := s.link.held ++ [(fn, v)] } }
  else (s.setVec (vecKey fn v) { x with count := 0, start := none, pba := false }).send (.msix fn v)

/-- The pending sources, rising. -/
def State.pendingSrcs (s : State) : List Nat :=
  s.regs.flatMap fun e =>
    if Reg.HVC_PEND 0 ≤ e.1 ∧ e.1 < Reg.HVC_PEND 512 then
      (bitList 32 e.2.toNat).map fun i => (e.1 - Reg.HVC_PEND 0) / 4 * 32 + i
    else []

/-- Source a is more urgent than source b (R279). -/
def State.moreUrgent (s : State) (a b : Nat) : Bool :=
  decide ((s.src b).prio < (s.src a).prio) || (decide ((s.src a).prio = (s.src b).prio) && decide (a < b))

/-- The most urgent of a list of sources. -/
def State.mostUrgent (s : State) : List Nat → Option Nat
  | [] => none
  | a :: r =>
    match s.mostUrgent r with
    | none => some a
    | some b => if s.moreUrgent a b then some a else some b

/-- The rank of a vector: its most urgent pending source (R279). -/
def State.vecRank (s : State) (k : Nat) : Option Nat :=
  s.mostUrgent (s.pendingSrcs.filter fun id =>
    !(s.src id).stw && vecKey (s.src id).func (s.src id).vec == k)

/-- Vector keys in order of urgency (R279); a vector without a pending source goes last. -/
def State.insertVec (s : State) (k : Nat) : List Nat → List Nat
  | [] => [k]
  | j :: r =>
    let before := match s.vecRank k, s.vecRank j with
      | some a, some b => s.moreUrgent a b
      | some _, none => true
      | none, _ => false
    if before then k :: j :: r else j :: s.insertVec k r

def State.byUrgency (s : State) (ks : List Nat) : List Nat := ks.foldl (fun l k => s.insertVec k l) []

/-- Sends several vectors in order of urgency. -/
def State.sendAll (s : State) (ks : List Nat) : State :=
  (s.byUrgency ks).foldl (fun s k => s.sendVec (k / 2048) (k % 2048)) s

/-- The link is in L0: the messages that waited for it leave, the most urgent first (R283). -/
def State.reachL0 (s : State) : State :=
  let ks := s.link.held.map fun x => vecKey x.1 x.2
  { s with link := { s.link with l0 := true, held := [] } }.sendAll ks

/-- The part leaves L1 by itself to send what cannot wait (R270, R283). -/
def State.leaveL1 (s : State) : State := if s.link.l0 then s else s.reachL0

/-- An event of a function that sleeps: PME, out of L1 where the link is in it, with the message left for D0 (R283). -/
def State.sleepEvent (s : State) (fn : Nat) : State :=
  let f := s.fn fn
  if f.dstate ≠ 0 ∧ f.pmeEn ∧ ¬ f.pmeStatus then
    let s := s.setFn fn { f with pmeStatus := true }
    if f.dstate = 2 then s.send .wakeN else s.leaveL1.send (.pme fn)
  else s

/-- One event is counted at a vector; the first one since its last message starts the timer (R278, R280). -/
def State.bumpVec (s : State) (fn v : Nat) : State :=
  let x := s.vec (vecKey fn v)
  (s.setVec (vecKey fn v) { x with count := satAdd 255 x.count 1, start := some (x.start.getD s.tick) }).sleepEvent fn

/-- One event at a vector (R278, R280). -/
def State.countEvent (s : State) (fn v : Nat) : State :=
  let n := satAdd 255 (s.vec (vecKey fn v)).count 1
  let s := s.bumpVec fn v
  if s.vecTarget fn v ≤ n then s.sendVec fn v else s

/-- An event of a source that is counted at its target (R278); a steward core only sees its line. -/
def State.deliver (s : State) (id : Nat) : State :=
  let r := s.src id
  if r.stw then s else s.countEvent r.func r.vec

/-- A pending bit is about to change: what a claim on this tick sees is the bit before it (R285). -/
def State.notePend (s : State) (id : Nat) : State :=
  let r := s.src id
  if r.at_ = some s.tick then s else s.setSrc id { r with at_ := some s.tick, was := s.srcPend id }

/-- An event of an HVC source (R277, R278). -/
def State.raise (s : State) (id : Nat) : State :=
  let s := (s.notePend id).setSrcPend id true
  if s.srcEn id then s.deliver id
  else s.setSrc id { s.src id with cold := true }

/-- An event of one of several sources on one tick: counted, the message still to come. -/
def State.raiseQuiet (s : State) (id : Nat) : State :=
  let s := (s.notePend id).setSrcPend id true
  let r := s.src id
  if s.srcEn id = false then s.setSrc id { r with cold := true }
  else if r.stw then s
  else s.bumpVec r.func r.vec

/-- The vectors of enabled sources, each once. -/
def State.vecsOf (s : State) (ids : List Nat) : List Nat :=
  ids.foldl (fun ks id =>
    let r := s.src id
    let k := vecKey r.func r.vec
    if s.srcEn id && !r.stw && !ks.contains k then ks ++ [k] else ks) []

/-- Events of several sources on one tick: the messages of the vectors that come due leave in order of urgency (R279). -/
def State.raiseAll (s : State) (ids : List Nat) : State :=
  let s := ids.foldl State.raiseQuiet s
  s.sendAll ((s.vecsOf ids).filter fun k => decide (s.vecTarget (k / 2048) (k % 2048) ≤ (s.vec k).count))

/-- An event of source j of tenant n's private bank (R273). -/
def State.raisePriv (s : State) (n j : Nat) : State := s.raise (24 * n + j)

/-- Enabling a source: a pending bit set while it was disabled now counts (R278). -/
def State.enableSrc (s : State) (id : Nat) : State :=
  let was := s.srcEn id
  let s := s.setSrcEn id true
  if was = false ∧ s.srcPend id ∧ (s.src id).cold then
    (s.setSrc id { s.src id with cold := false }).deliver id
  else s

/-- Clearing a pending bit through a clear address. -/
def State.clearSrc (s : State) (id : Nat) : State :=
  let s := (s.notePend id).setSrcPend id false
  s.setSrc id { s.src id with cold := false }

/-- A source whose owner changes (R275). -/
def State.reownSrc (s : State) (id owner : Nat) : State :=
  ((s.setSrcEn id false).setSrcPend id false).setSrc id { func := owner }

/-- The sources of a resource that passes from one owner to another; where it stays, they stay as they are (R275). -/
def State.passSrcs (s : State) (ids : List Nat) (was is : Nat) : State :=
  if was = is then s else ids.foldl (fun s id => s.reownSrc id is) s

/-- A vector is due (R280): its count or its timer has reached the setting. -/
def State.vecDue (s : State) (k : Nat) : Bool :=
  let v := s.vec k
  let m := s.fld (Reg.TEN_VMOD (k / 2048) (k % 2048)) 8 16
  decide (0 < v.count) &&
  (decide (s.vecTarget (k / 2048) (k % 2048) ≤ v.count) ||
   (decide (m ≠ 0) && match v.start with
     | none => false
     | some t => decide (t + m * 1500 ≤ s.tick)))

/-! ### Tray interrupt sources (R164, R274) -/

/-- The sense code of a tray source: 0 level, 1 rising, 2 falling, 3 either edge. -/
def State.traySense (s : State) (t i : Nat) : Nat := s.fld (Reg.TRY_IRQ_SENSE0 t + i / 16 * 4) (i % 16 * 2) 2

def State.trayPend (s : State) (t i : Nat) : Bool := s.bit (Reg.TRY_IRQ_PEND_L t + i / 32 * 4) (i % 32)
def State.setTrayPend (s : State) (t i : Nat) (b : Bool) : State := s.setBit (Reg.TRY_IRQ_PEND_L t + i / 32 * 4) (i % 32) b

/-- A tray source takes a level: its pending bit follows its sense (R164), and sources 5 and 6 reach
the host as 0x33C0 + t and 0x33D0 + t (R274). -/
def State.traySet (s : State) (t i : Nat) (b : Bool) : State :=
  let old := bitAt (s.tray t).levels i
  let sense := s.traySense t i
  let fire := (decide (sense = 0) && b) || (decide (sense = 1) && !old && b) || (decide (sense = 2) && old && !b)
    || (decide (sense = 3) && (old != b))
  let s := s.setTray t { s.tray t with levels := putBits (s.tray t).levels i 1 (b2n b) }
  let s := if fire then s.setTrayPend t i true else s
  if b ∧ old = false ∧ i = 5 then s.raise (0x33C0 + t)
  else if b ∧ old = false ∧ i = 6 then s.raise (0x33D0 + t)
  else s

/-- An event of a tray source that has no standing level. -/
def State.trayPulse (s : State) (t i : Nat) : State := (s.traySet t i true).traySet t i false

/-! ### REL records (R359) -/

/-- Some core of a steward pair runs (R350, R351). -/
def State.pairUp (s : State) (p : Nat) : Bool := decide (s.fld Reg.REL_STEWARD (2 * p) 2 ≠ 0)

/-- A record of REL's ring. Nothing is recorded while steward pair 1 is down (R351). -/
def State.relRecord (s : State) (sev code kind block inst addr : Nat) : State :=
  if s.pairUp 1 = false then s
  else
    let i := s.fld Reg.REL_LHEAD 0 10
    let full := (Tbl.keys s.rel.ring).contains i
    let v := s.tb.now + sev % 4 * 2 ^ 60 + b2n s.rel.missed * 2 ^ 62 + code % 256 * 2 ^ 64
      + kind % 256 * 2 ^ 72 + block % 2 ^ 16 * 2 ^ 80 + inst % 2 ^ 16 * 2 ^ 96 + addr % 2 ^ 32 * 2 ^ 112
    let s := { s with rel := { s.rel with ring := Tbl.set 0 s.rel.ring i (BitVec.ofNat 256 v), missed := full } }
    let s := (s.setFld Reg.REL_LHEAD 0 10 (i + 1)).incWrap Reg.REL_LHEAD 16 16
    if sev = 0 then s else if sev = 1 then s.raise 0x3430 else s.raise 0x3431

/-! ### Completion records and fault records -/

/-- The entries of a function's completion ring (R252). -/
def State.cplSize (s : State) (fn : Nat) : Nat := 2 ^ s.fld (Reg.TEN_CPL_SIZE fn) 0 4

/-- The function may write to host memory now: its completion ring takes records, D0, bus master, link up. Clearing
TEN_RING_CTRL.EN stops the fetching alone (R252). -/
def State.canPost (s : State) (fn : Nat) : Bool :=
  (s.fn fn).ringed && (s.fn fn).bme && decide ((s.fn fn).dstate = 0) && s.link.up

/-- The completion ring has a free entry (R255). -/
def State.cplFree (s : State) (fn : Nat) : Bool :=
  decide ((s.fld (Reg.TEN_CPL_TAIL fn) 0 12 + 1) % s.cplSize fn ≠ s.fld (Reg.TEN_CPL_HEAD fn) 0 12 % s.cplSize fn)

/-- TEN_RING_STAT.CPL_FULL follows the records that wait for an entry; setting it raises RING (R255, R273). -/
def State.updFull (s : State) (n : Nat) : State :=
  let full := decide ((s.fn n).waiting ≠ []) && !s.cplFree n
  let was := s.bit (Reg.TEN_RING_STAT n) 2
  let s := s.setBit (Reg.TEN_RING_STAT n) 2 full
  if full ∧ was = false then s.raisePriv n 21 else s

/-- A 32-byte record (R254) as a number; `phase` is bit 24. -/
def recordValue (r : Cpl) (phase time : Nat) : Nat :=
  r.seq % 2 ^ 16 + r.status % 256 * 2 ^ 16 + (phase % 2 + r.kind % 4 * 2) * 2 ^ 24
    + r.user % 2 ^ 32 * 2 ^ 32 + r.tag % 4096 * 2 ^ 64 + r.opcode % 256 * 2 ^ 80
    + r.orig % 256 * 2 ^ 88 + r.res0 % 2 ^ 32 * 2 ^ 96 + r.res1 % 2 ^ 64 * 2 ^ 128
    + time % 2 ^ 60 * 2 ^ 192

/-- Writes a record at CPL_TAIL, out of L1 where the link is in it, and steps the tail; PHASE flips at each wrap (R255, R270). -/
def State.postRecord (s : State) (fn : Nat) (r : Cpl) : State :=
  let s := s.leaveL1
  let t := s.fld (Reg.TEN_CPL_TAIL fn) 0 12
  let ph := s.fld (Reg.TEN_CPL_TAIL fn) 16 1
  let a := s.pair (Reg.TEN_CPL_BASE_L fn) (Reg.TEN_CPL_BASE_H fn) + 32 * t
  let s := s.send (.hostWrite a (bytesLE 32 (recordValue r ph s.tb.now)))
  let t' := (t + 1) % s.cplSize fn
  (s.setFld (Reg.TEN_CPL_TAIL fn) 0 12 t').setFld (Reg.TEN_CPL_TAIL fn) 16 1 (if t' = 0 then 1 - ph else ph)

/-- A fault record (R257): the fault window (with the PHASE of the ring's next record), the completion ring where an entry is free, and the
function's FAULT source. -/
def State.faultRecord (s : State) (fn status source object detail : Nat) : State :=
  let r : Cpl := { status := status, kind := 1, user := source % 256, res0 := object, res1 := detail }
  let j := s.fld (Reg.TEN_FAULT_IDX fn) 0 6
  let v := recordValue r (s.fld (Reg.TEN_CPL_TAIL fn) 16 1) s.tb.now
  let s := (List.range 8).foldl (fun s i => s.setN (Reg.TEN_FAULT fn (8 * j + i)) (bits v (32 * i) 32)) s
  let s := (s.setFld (Reg.TEN_FAULT_IDX fn) 0 6 (j + 1)).incWrap (Reg.TEN_FAULT_IDX fn) 16 16
  let s := if s.canPost fn = false then s
    else if s.cplFree fn then (s.postRecord fn r).updFull fn
    else s.incSat (Reg.TEN_FAULT_IDX fn) 6 10
  s.raisePriv fn 17

/-! Sources of fault records (R257). -/

namespace FSrc
abbrev queue : Nat := 0
abbrev logQueue : Nat := 1
abbrev ctx : Nat := 2
abbrev dma : Nat := 3
abbrev bar2 : Nat := 4
abbrev doorbell : Nat := 5
abbrev ring : Nat := 6
abbrev port : Nat := 7
end FSrc

/-! ### Slab accesses -/

/-- Correctable errors in the table words of a walk: corrected, counted and recorded (R111). -/
def State.walkCorrect (s : State) (n a : Nat) : State :=
  (s.walkWords n a).foldl (fun s w =>
    if s.eccSoft.contains w then
      ({ s with eccSoft := s.eccSoft.filter (· != w) }.incSat Reg.SLM_ECC_CNT 0 32).relRecord 1 Code.ok 1 0x13 0 (w * 8)
    else s) s

/-- The internal address of slab address `a` of tenant `n`, with what the walk leaves on SLM. What it corrects stays
corrected where a later step of it fails. -/
def State.reach (s : State) (n a src : Nat) : Access Nat :=
  match s.walk n a with
  | .ok p => .ok p (s.walkCorrect n a)
  | .bad code level => .bad code ((s.walkCorrect n a).walkFailed n a src code level)

/-- An access gives SLAB_ECC for a data word that it reads: PG_ERR.TABLE_ECC is set on every SLAB_ECC (R129). -/
def State.dataEcc (s : State) : State := s.pgErr 0xB 16

/-- Reads `len` bytes inside one slab page as a number (R111, R112). -/
def State.slabRead (s : State) (n a len src : Nat) : Access Nat :=
  match s.reach n a src with
  | .bad c s => .bad c s
  | .ok p s => if s.eccIn p len then .bad Code.slabEcc s.dataEcc else .ok (s.readMem p len) s

/-- Writes `len` bytes inside one slab page. -/
def State.slabWrite (s : State) (n a len v src : Nat) : Access Unit :=
  match s.reach n a src with
  | .bad c s => .bad c s
  | .ok p s => .ok () (s.writeMem p len v)

/-! ### Queues, their errors and records -/

/-! Queue states (R83). -/

namespace QState
abbrev free : Nat := 0
abbrev run : Nat := 1
abbrev seamWait : Nat := 2
abbrev stopped : Nat := 3
abbrev flushing : Nat := 4
end QState

/-- The number of entries of a queue. -/
def Queue.size (q : Queue) : Nat := 2 ^ q.log2

/-- The slab address of entry `i` (R83 BASE). -/
def Queue.entryAddr (q : Queue) (i : Nat) : Nat := (q.base + i % q.size) * 16 % 2 ^ 26

/-- A queue stops with an error; QM_LASTERR shows it (R104). -/
def State.stopQueue (s : State) (q code : Nat) : State :=
  (s.setQueue q { s.queue q with state := QState.stopped, err := code }).setN Reg.QM_LASTERR
    (q % 2 ^ 20 + code % 256 * 2 ^ 20)

/-- An uncorrectable error stands in a queue's descriptor (R83, R109). -/
def State.descBad (s : State) (q : Nat) : Bool := s.eccIn (16 * q) 16

/-- An uncorrectable error in a descriptor stops its queue, a SLAB_ECC as any other (R101, R104, R129, R274). -/
def State.descFault (s : State) (q : Nat) : State := ((s.stopQueue q Code.slabEcc).pgErr 9 16).dataEcc.raise 0x3413

/-- A record is written to a log queue (R88, R101): discarded when the queue is full, stopped, or
when the walk fails. `v` is the 128-bit record without MISS; MISS is bit `mb`, 60 in most records. -/
def State.logRecord (s : State) (q v : Nat) (mb : Nat := 60) : State :=
  let d := s.queue q
  if d.state = QState.free ∨ d.ttype ≠ 0 then s
  else if s.descBad q then (s.setQueue q { d with miss := true }).descFault q
  else if d.state ≠ QState.run then s.setQueue q { d with miss := true }
  else if (d.tail + 1) % d.size = d.head then
    (s.setQueue q { d with miss := true, err := Code.queueFull }).setN Reg.QM_LASTERR
      (q % 2 ^ 20 + Code.queueFull * 2 ^ 20)
  else
    match s.slabWrite d.tenant (d.entryAddr d.tail) 16 (putBits v mb 1 (b2n (d.miss || bitAt v mb))) 1 with
    | .ok _ s => s.setQueue q { d with tail := (d.tail + 1) % d.size, miss := false }
    | .bad c s => ((s.setQueue q { s.queue q with miss := true }).stopQueue q c).faultRecord d.tenant c FSrc.logQueue q d.tail

/-- A record is discarded by its log queue when it would be written now (R60, R88). -/
def State.logFull (s : State) (q : Nat) : Bool :=
  let d := s.queue q
  decide (d.state ≠ QState.run) || decide (d.ttype ≠ 0) || decide ((d.tail + 1) % d.size = d.head)

/-- The log queue that takes the records of an action, by its origin (R83, R161). -/
def State.logOf (s : State) : Origin → Option Nat
  | .queue q _ => let d := s.queue q; if d.logen then some d.logq else none
  | .near c p => let x := Tbl.get {} (s.ctx c).ports p; if x.logen then some x.logq else none

/-- The tenant whose action it is. -/
def State.tenantOf (s : State) : Origin → Nat
  | .queue q _ => (s.queue q).tenant
  | .near c _ => (s.ctx c).tenant

/-- The execution record of an action (R89, R161). -/
def execValue (a : Action) (o : Origin) (status time : Nat) : Nat :=
  let near := match o with | .queue _ _ => 0 | .near _ _ => 1
  let idx := match o with | .queue _ i => i | .near c p => c + p % 8 * 2 ^ 12
  let q := match o with | .queue q _ => q | .near _ _ => 0
  let tail := if a.op = 0x0F then a.arg % 2 ^ 48 * 2 ^ 80
    else idx % 2 ^ 16 * 2 ^ 80 + q % 2 ^ 20 * 2 ^ 96
  time % 2 ^ 60 + near * 2 ^ 61 + a.op % 256 * 2 ^ 64 + status % 256 * 2 ^ 72 + tail

/-- Writes the execution record of an action to the log queue of its origin. -/
def State.execRecord (s : State) (a : Action) (o : Origin) (status time : Nat) : State :=
  match s.logOf o with
  | none => s
  | some q => s.logRecord q (execValue a o status time)

/-- The record of an action that executes: only where its LOG bit is set. An action executed while
VALID is 0 is logged with TIME_INVALID (R43). -/
def State.logExec (s : State) (a : Action) (o : Origin) (status time : Nat) : State :=
  if a.log then
    s.execRecord a o (if status = Code.ok ∧ s.tbValid = false then Code.timeInvalid else status) time
  else s

end Sys2Proof.Machine
end

