-- ==== Sys2Proof/Machine/CuffOps.lean ====
section
/-! DEFINITION. What every action at a cuff or pair rests on: levels and edges, Apron, pairs and
trips, the near FIFOs, lateness, and the withdrawing of actions past the queue stage. -/

namespace Sys2Proof.Machine

open Sys2Proof

/-- The mode (R315). -/
def State.mode (s : State) : Nat := s.pwr.mode

/-- Cuffs, scheduler and engines are in service: RUN or DEGRADED (R315). -/
def State.service (s : State) : Bool := decide (s.pwr.mode = Mode.run) || decide (s.pwr.mode = Mode.degraded)

/-- The device is frozen: HALT or DOZE (R315). -/
def State.frozen (s : State) : Bool := decide (s.pwr.mode = Mode.halt) || decide (s.pwr.mode = Mode.doze)

/-! ### Levels and limits -/

/-- The bank's minimum output pulse, crumbs (R47, R48). -/
def State.minPulse (s : State) (c : Nat) : Nat := if s.bit (Reg.SLV_STATUS (c / 32)) 0 then 96 else 48

/-- CUF_CFG.MODE. -/
def State.cuffMode (s : State) (c : Nat) : Nat := s.fld (Reg.CUF_CFG c) 0 2

/-- The active level under CUF_CFG.POL (R51). -/
def State.activeLevel (s : State) (c : Nat) : Bool := !s.bit (Reg.CUF_CFG c) 2

/-- Sets a bit of CUF_ERR; the sleeve's cuff-error source is raised (R274, log entry 14). -/
def State.cufErr (s : State) (c b : Nat) : State :=
  (s.setBit (Reg.CUF_ERR c) b true).raise (0x3000 + 4 * (c / 32) + 3)

/-- SLV_PAIR_CFGp.EN of pair `p` (sleeve * 16 + pair). -/
def State.pairEn (s : State) (p : Nat) : Bool := s.bit (Reg.SLV_PAIR_CFG (p / 16) (p % 16)) 0

/-- SLV_PAIR_CFGp.DEAD, crumbs. -/
def State.dead (s : State) (p : Nat) : Nat := s.fld (Reg.SLV_PAIR_CFG (p / 16) (p % 16)) 16 12

/-- SLV_PAIR_BLANKp, ticks. -/
def State.blank (s : State) (p : Nat) : Nat := s.fld (Reg.SLV_PAIR_BLANK (p / 16) (p % 16)) 0 12

/-- The pair stands tripped (SLV_TRIP). -/
def State.tripped (s : State) (p : Nat) : Bool := s.bit (Reg.SLV_TRIP (p / 16)) (p % 16)

/-- The pair stands in BRIDGE_SHORT (SLV_BRIDGE). -/
def State.bridged (s : State) (p : Nat) : Bool := s.bit (Reg.SLV_BRIDGE (p / 16)) (p % 16)

/-- The leg whose output is made active now. -/
def State.legActive (s : State) (c : Nat) : Bool :=
  (s.cuff c).driven && ((s.cuff c).level == s.activeLevel c)

/-- The other leg of a cuff's pair. -/
def otherLeg (c : Nat) : Nat := if c % 2 = 0 then c + 1 else c - 1

/-- A time moved by a signed number of crumbs. -/
def State.shifted (s : State) (t : Nat) (d : Int) : Nat := if 0 ≤ d then s.plus t d.toNat else s.minus t (-d).toNat

/-- The time at which a cuff places an edge of time `t`: CUF_SKEW is added to every placement (R63). -/
def State.placed (s : State) (c t : Nat) : Nat := s.shifted t (s.cuff c).skew

/-- The time of an edge that a cuff makes now: CUF_SKEW is subtracted, as from every stamp (R63). -/
def State.edgeNow (s : State) (c : Nat) : Nat := s.shifted s.tb.now (-(s.cuff c).skew)

/-- An output edge of time `t` is counted (R77). -/
def State.edgeCounted (s : State) (c t : Nat) : State :=
  (s.incWrap (Reg.CUF_EDGES c) 0 32).setCuff c { s.cuff c with lastEdge := some t }

/-- A switching edge of a leg counts and opens the pair's blanking (R67). -/
def State.edgeMade (s : State) (c t : Nat) : State :=
  let s := s.edgeCounted c t
  if s.pairEn (c / 2) then s.setPairSt (c / 2) { s.pairSt (c / 2) with blankEnd := some (s.tick + s.blank (c / 2)) }
  else s

/-- The cross-conduction lockout of R65 keeps the cuff from this level now. -/
def State.lockedOut (s : State) (c : Nat) (l : Bool) : Bool :=
  s.pairEn (c / 2) && (l == s.activeLevel c) && s.legActive (otherLeg c)

/-- The cuff drives its level: its output stage is off in input mode, but for leg B of an enabled pair, whose MODE is
ignored (R64). -/
def State.outputOn (s : State) (c : Nat) : Bool :=
  decide (s.cuffMode c ≠ 2) || (s.pairEn (c / 2) && decide (c % 2 = 1))

/-- The glitch filter of a cuff, ticks: CUF_CFG.FILTER, or FBK_CFG.FILT of the port it is lent to (R56, R204). -/
def State.filterOf (s : State) (c : Nat) : Nat :=
  match (s.cuff c).lent with
  | .fbk p => s.fld (Reg.FBK_CFG p) 8 8
  | _ => s.fld (Reg.CUF_CFG c) 8 8

/-- No edge is stamped: in DOZE and HALT, and until COARSE clears (R61). -/
def State.stampless (s : State) : Bool := s.frozen || s.coarse

/-- The level sampled at the pad changes, with this stamp: the glitch filter starts its interval, or drops the interval the
transition reverses (R56). -/
def State.padTo (s : State) (c : Nat) (l : Bool) (stamp : Nat) : State :=
  let k := { s.cuff c with padTick := s.tick }
  if k.pad = l then s
  else if s.stampless then s.setCuff c { k with pad := l, filt := none }
  else match k.filt with
    | some _ => s.setCuff c { k with pad := l, filt := none }
    | none => s.setCuff c { k with pad := l, filt := some (l, stamp, s.tick + s.filterOf c) }

/-- The output stage drives the pin: it is on, and the bank supply is there (R370). -/
def State.drives (s : State) (c : Nat) : Bool := (s.cuff c).driven && !(s.sleeve (c / 32)).absent

/-- The pad follows what the cuff drives (R386): the transition carries the time the edge was to be made. -/
def State.drivenPad (s : State) (c : Nat) (stamp : Nat) : State :=
  if s.drives c then s.padTo c (s.cuff c).level stamp else s

/-- The cuff drives a level, by an edge of time `t`; in input mode its output stage stays off. The cross-conduction
lockout of R65 keeps a leg inactive while the other one is active. A held cuff keeps its level until the release
(R23). -/
def State.driveCuff (s : State) (c : Nat) (l : Bool) (t : Nat := s.edgeNow c) : State :=
  let k := s.cuff c
  if k.held then s.setCuff c { k with edges := k.edges ++ [(t, l)] }
  else if s.lockedOut c l then s
  else
    let on := s.outputOn c
    let s' := s.setCuff c { k with driven := on, level := l }
    if k.driven = on ∧ k.level = l then s' else (s'.edgeMade c t).drivenPad c t

/-- The output stage turns off, by an edge of time `t`. -/
def State.floatCuff (s : State) (c : Nat) (t : Nat := s.edgeNow c) : State :=
  let k := s.cuff c
  let s' := s.setCuff c { k with driven := false }
  if k.held then s else if k.driven then s'.edgeMade c t else s'

/-- Makes the edges of a running PULSE, TRAIN or pair transition whose time has come; a leg locked out becomes active
once the other one is inactive (R65). A held or frozen cuff makes none. -/
def State.settleCuff (s : State) (c : Nat) : State :=
  let k := s.cuff c
  if k.held ∨ s.frozen then s
  else
    let now := k.edges.filter fun e => s.reached (s.placed c e.1)
    let wait := now.getLast?.toList.filter fun e => s.lockedOut c e.2
    let s := s.setCuff c { k with edges := wait ++ k.edges.filter fun e => !s.reached (s.placed c e.1) }
    now.foldl (fun s e => s.driveCuff c e.2 e.1) s

/-- Makes the due edges of the cuffs that meet `p`. -/
def State.settleWhere (s : State) (p : Nat → Bool) : State :=
  ((s.cuffs.filter fun e => decide (e.2.edges ≠ []) && p e.1).map (·.1)).foldl State.settleCuff s

/-- Makes the due edges of the cuffs that are no legs of an enabled pair. -/
def State.settleCuffs (s : State) : State := s.settleWhere fun c => !s.pairEn (c / 2)

/-- Makes the due edges of the legs of enabled pairs. They are made as their tick ends, so that a guard input that asserts
on the tick wins (R71). -/
def State.settleLegs (s : State) : State := s.settleWhere fun c => s.pairEn (c / 2)

/-! ### Apron (R72) -/

/-- What holds a cuff at Apron: the mode (BOOT, PROVISION, SAFE, SAFE_N), a bank fault, a trip of
its pair, an abort of its owner, a double fault. -/
inductive Cause where
  | mode | bank | trip | abort | vote
  deriving DecidableEq, Repr

/-- CUF_STATUS.APRON. -/
def Cuff.apron (k : Cuff) : Bool := k.apMode || k.apBank || k.apTrip || k.apAbort || k.apVote

def Cuff.setCause (k : Cuff) (w : Cause) (b : Bool) : Cuff :=
  match w with
  | .mode => { k with apMode := b }
  | .bank => { k with apBank := b }
  | .trip => { k with apTrip := b }
  | .abort => { k with apAbort := b }
  | .vote => { k with apVote := b }

/-- The cuff takes the level CUF_CFG.APRON selects; edges still to come are dropped. A change of the output is an edge
made (R77); R67 does not say whether it is a switching edge that opens blanking, and the model takes it as none (log
entry 28). -/
def State.apronLevel (s : State) (c : Nat) : State :=
  let k := { s.cuff c with edges := [], perRun := false }
  let a := s.fld (Reg.CUF_CFG c) 4 2
  let k' := if a = 0 then { k with driven := true, level := false }
    else if a = 1 then { k with driven := true, level := true }
    else if a = 2 then { k with driven := false } else k
  let s := s.setCuff c k'
  if k'.driven = k.driven ∧ k'.level = k.level then s else (s.edgeCounted c (s.edgeNow c)).drivenPad c (s.edgeNow c)

/-- A cuff goes to Apron for a cause; a cuff already there keeps its level. -/
def State.toApron (s : State) (c : Nat) (w : Cause) : State :=
  let s := if (s.cuff c).apron then s else s.apronLevel c
  s.setCuff c ((s.cuff c).setCause w true)

/-- One cause of a cuff's Apron ends. The cuff keeps driving its Apron level until its next
change. -/
def State.endCause (s : State) (c : Nat) (w : Cause) : State :=
  s.setCuff c ((s.cuff c).setCause w false)

/-- All cuffs of the device. -/
def allCuffs : List Nat := List.range 1024

/-- The cuffs of a sleeve. -/
def sleeveCuffs (n : Nat) : List Nat := (List.range 32).map fun i => n * 32 + i

/-! ### Periodic mode (R36, R54, R55) -/

/-- Period, width, offset and whether the cuff may run at all: a disabled group (R38) or an index
beyond N (R36) keeps it still. -/
structure PerSet where
  p : Nat := 0
  w : Nat := 0
  off : Nat := 0
  live : Bool := false
  deriving DecidableEq, Repr

/-- The periodic settings in effect of a cuff (R36, R54, R55). -/
def State.perSet (s : State) (c : Nat) : PerSet :=
  let w := s.pair (Reg.CUF_PER_W_L c) (Reg.CUF_PER_W_H c)
  if s.bit (Reg.CUF_PER_CTRL c) 6 then
    let g := s.fld (Reg.CUF_PER_CTRL c) 0 6
    let k := s.fld (Reg.CUF_PER_CTRL c) 16 10
    let p := s.pair (Reg.TB_SG_PERIOD_L g) (Reg.TB_SG_PERIOD_H g)
    let n := s.fld (Reg.TB_SG_COUNT g) 0 11
    let b := s.pair (Reg.TB_SG_BASE_L g) (Reg.TB_SG_BASE_H g)
    { p := p, w := w, off := s.plus b (k * p / n), live := decide (p ≠ 0 ∧ n ≠ 0 ∧ k < n) }
  else
    { p := s.pair (Reg.CUF_PER_L c) (Reg.CUF_PER_H c), w := w,
      off := s.pair (Reg.CUF_PER_OFF_L c) (Reg.CUF_PER_OFF_H c), live := true }

/-- The limits of R54, those of a pair's leg A included. -/
def State.perFits (s : State) (c : Nat) : Bool :=
  let x := s.perSet c
  let m := s.minPulse c + (if s.pairEn (c / 2) ∧ c % 2 = 0 then s.dead (c / 2) else 0)
  decide (x.p ≤ 2 ^ 48 - 1 ∧ m ≤ x.w ∧ x.w + m ≤ x.p)

/-- The crumbs by which a periodic pattern is taken up early or late for CUF_SKEW (R63); the legs of a pair each add
their own, so the pair takes it up for the earlier one. -/
def State.lag (s : State) (c : Nat) : Int :=
  if s.pairEn (c / 2) then min 0 (min (s.cuff c).skew (s.cuff (otherLeg c)).skew) else (s.cuff c).skew

/-- The phase of a periodic cuff now: (now - offset) mod P over the integers, CUF_SKEW moving every edge (R54, R29,
R63). -/
def State.phase (s : State) (c : Nat) : Nat :=
  let x := s.perSet c
  ((s.tb.now : Int) - s.lag c - x.off).emod x.p |>.toNat

/-- The cuff is in periodic mode and may switch now: not waiting for a global start, not leg B of
an enabled pair, not at Apron, not held. -/
def State.perActive (s : State) (c : Nat) : Bool :=
  let k := s.cuff c
  decide (s.cuffMode c = 1) && !s.bit (Reg.CUF_PER_CTRL c) 7 && !k.apron && !k.held && s.service
    && !(s.pairEn (c / 2) && decide (c % 2 = 1)) && (s.perSet c).live

/-! ### Pairs (R64) -/

/-- The leg goes to its inactive level. -/
def State.legOff (s : State) (c : Nat) : State :=
  (s.setCuff c { s.cuff c with edges := [] }).driveCuff c (!s.activeLevel c)

/-- The leg takes a level at time `t`. -/
def State.legTo (s : State) (c t : Nat) (l : Bool) : State :=
  (s.setCuff c { s.cuff c with edges := [(t, l)] }).settleCuff c

/-- A change of pair state at time `t` (R64): 0 OFF, 1 A, 2 B. A leg that still stands at the level of an Apron it has
left becomes inactive with its pair's next change (R70, R122). -/
def State.pairTo (s : State) (p st t : Nat) : State :=
  let old := (s.pairSt p).st
  let s := s.setPairSt p { s.pairSt p with st := st, swung := if old = st then (s.pairSt p).swung else some t }
  let a := 2 * p
  let b := 2 * p + 1
  let on (c : Nat) : Bool := s.activeLevel c
  if st = 0 then (s.legTo a t !(on a)).legTo b t !(on b)
  else if st = 1 then (s.legTo b t !(on b)).legTo a (if old = 2 then s.plus t (s.dead p) else t) (on a)
  else (s.legTo a t !(on a)).legTo b (if old = 1 then s.plus t (s.dead p) else t) (on b)

/-- The sleeve page of a pair. -/
abbrev slvPage (n : Nat) : Nat := 0x10 + n

/-- The guard inputs of a pair that are enabled, A then B. -/
def State.guardA (s : State) (p : Nat) : Option Nat :=
  let k := Reg.SLV_PAIR_CFG (p / 16) (p % 16)
  if s.bit k 1 then some (s.fld k 2 3) else none

def State.guardB (s : State) (p : Nat) : Option Nat :=
  let k := Reg.SLV_PAIR_CFG (p / 16) (p % 16)
  if s.bit k 5 then some (s.fld k 6 3) else none

/-- The guard input of a leg is asserted now. -/
def State.guardUp (s : State) (p : Nat) (g : Option Nat) : Bool :=
  match g with
  | none => false
  | some i => s.bit (Reg.SLV_GDSTATE (p / 16)) i

/-- The re-arm of a tripped pair (R70). True when it is released or was not tripped. -/
def State.rearmFits (s : State) (p : Nat) (bridge : Bool) : Bool :=
  !s.tripped p ||
  (!(s.guardUp p (s.guardA p)) && !(s.guardUp p (s.guardB p)) && (bridge || !s.bridged p)
    && s.bit (Reg.SLV_STATUS (p / 16)) 1)

def State.rearmPair (s : State) (p : Nat) (bridge : Bool) : State :=
  if s.tripped p = false then s
  else if s.rearmFits p bridge = false then s.pgErr (slvPage (p / 16)) 16
  else
    let s := (s.setBit (Reg.SLV_TRIP (p / 16)) (p % 16) false).setBit (Reg.SLV_TRIP (p / 16)) (16 + p % 16) false
    let s := s.setBit (Reg.SLV_BRIDGE (p / 16)) (p % 16) false
    let s := s.setPairSt p { s.pairSt p with st := 0 }
    (s.endCause (2 * p) .trip).endCause (2 * p + 1) .trip

/-! ### Actions past the queue stage -/

/-- The cuff whose near FIFO serves a target: a pair is served by leg A's. -/
def serveCuff (ttype target : Nat) : Nat := if ttype = 2 then 2 * target else target

/-- The key of an input FIFO of a PIO engine, feedback port or context. -/
def fifoKey (ttype target : Nat) : Nat := ttype * 4096 + target

/-- The FIFO of a target. -/
def State.targetFifo (s : State) (ttype target : Nat) : List Flight :=
  if ttype = 1 ∨ ttype = 2 then (s.cuff (serveCuff ttype target)).fifo else s.fifo (fifoKey ttype target)

def State.setTargetFifo (s : State) (ttype target : Nat) (l : List Flight) : State :=
  if ttype = 1 ∨ ttype = 2 then
    s.setCuff (serveCuff ttype target) { s.cuff (serveCuff ttype target) with fifo := l }
  else s.setFifo (fifoKey ttype target) l

/-- An action enters its target's FIFO (R49). -/
def State.pushFifo (s : State) (ttype target : Nat) (f : Flight) : State :=
  s.setTargetFifo ttype target (s.targetFifo ttype target ++ [{ f with arrived := s.tb.now, head := none, judged := false }])

/-- When the action behind one that leaves the FIFO counts as at its head: a cuff takes its head 10 ticks ahead, so the
closest spacing of R84 keeps the lead of 12 (R95; DEDUCED), but never before the action arrived. -/
def State.headSince (s : State) (ttype : Nat) (g : Flight) : Nat :=
  if ttype = 1 ∨ ttype = 2 then s.later g.arrived (s.minus s.tb.now 160) else s.tb.now

/-- Two actions past the queue stage are the same action. -/
def Flight.same (f g : Flight) : Bool := f.org == g.org && f.ord == g.ord

/-- The voter of a guarded cuff or pair. -/
abbrev voterKey (ttype target : Nat) : Nat := fifoKey ttype target

/-- The voter forgets an agreed action that leaves the head of its FIFO (R121). -/
def State.unkeep (s : State) (f : Flight) : State :=
  let v := s.voter (voterKey f.ttype f.target)
  if v.kept.any (·.fl.same f) then
    s.setVoter (voterKey f.ttype f.target) { v with kept := v.kept.filter fun x => !x.fl.same f }
  else s

/-- The action at its FIFO's head has been taken, and the next one is the head. -/
def State.popFifo (s : State) (ttype target : Nat) : State :=
  match s.targetFifo ttype target with
  | f :: g :: r => (s.unkeep f).setTargetFifo ttype target ({ g with head := some (s.headSince ttype g) } :: r)
  | f :: [] => (s.unkeep f).setTargetFifo ttype target []
  | [] => s.setTargetFifo ttype target []

/-- The action came from queue `q`. -/
def Flight.ofQueue (f : Flight) (q : Nat) : Bool :=
  match f.org with
  | .queue k _ => k == q
  | .near _ _ => false

/-- The entry index of an action that came from a queue. -/
def Flight.idx (f : Flight) : Nat :=
  match f.org with
  | .queue _ i => i
  | .near _ _ => 0

/-- Every action past the queue stage: the wheel and ready chains, the target FIFOs, the voters. -/
def State.flights (s : State) : List Flight :=
  s.refs.map (·.fl) ++ s.cuffs.flatMap (·.2.fifo) ++ s.fifos.flatMap (·.2)
    ++ s.voters.flatMap (fun v => v.2.slots.flatten ++ v.2.kept.map (·.fl))

/-- The entry indices of a queue's actions past the queue stage; their number is the queue's spent
credits (R90, QM_QSTAT.INFLIGHT). -/
def State.inFlight (s : State) (q : Nat) : List Nat :=
  ((s.flights.filter (·.ofQueue q)).map (·.idx)).eraseDups

/-- Takes every action that meets `p` out of the wheel, the chains, the FIFOs and the voters. -/
def State.withdraw (s : State) (p : Flight → Bool) : State :=
  let s := { s with refs := s.refs.filter fun r => !p r.fl }
  let s := (Tbl.keys s.cuffs).foldl (fun s c =>
    s.setCuff c { s.cuff c with fifo := (s.cuff c).fifo.filter fun f => !p f }) s
  let s := (Tbl.keys s.fifos).foldl (fun s k => s.setFifo k ((s.fifo k).filter fun f => !p f)) s
  (Tbl.keys s.voters).foldl (fun s k =>
    s.setVoter k { s.voter k with
                   slots := (s.voter k).slots.map (·.filter fun f => !p f),
                   kept := (s.voter k).kept.filter fun x => !p x.fl }) s

/-- How far behind HEAD an entry lies. -/
def Queue.behind (d : Queue) (i : Nat) : Nat := (d.head + d.size - i % d.size) % d.size

/-- The action whose entry lies farthest behind HEAD. -/
def Queue.earliest (d : Queue) : List Flight → Option Flight
  | [] => none
  | f :: r => match d.earliest r with
    | none => some f
    | some g => if d.behind f.idx < d.behind g.idx then some g else some f

/-- Sets HEAD back to the earliest of the given actions, which follows the same predecessor as before (R84, R94, R122,
R321). -/
def Queue.setBack (d : Queue) (fs : List Flight) : Queue :=
  match d.earliest fs with
  | none => d
  | some f => { d with head := (d.head + d.size - d.behind f.idx) % d.size, prevTime := f.prev }

/-- Withdraws every action of a queue unexecuted and sets HEAD back to the earliest, or to the
given one. Nothing is lost. -/
def State.recall (s : State) (q : Nat) (first : Option Flight) : State :=
  let fs := first.toList ++ s.flights.filter (·.ofQueue q)
  let s := s.withdraw (·.ofQueue q)
  s.setQueue q ((s.queue q).setBack fs)

/-! ### Operations and their targets (R79, R80) -/

/-- The target types that accept an operation. -/
def opAccepts (op ttype : Nat) : Bool :=
  if op = 0x00 ∨ op = 0x0A then decide (1 ≤ ttype ∧ ttype ≤ 5)
  else if 0x01 ≤ op ∧ op ≤ 0x06 ∨ op = 0x08 ∨ op = 0x09 then decide (ttype = 1)
  else if op = 0x07 then decide (ttype = 1 ∨ ttype = 2)
  else if op = 0x0B then decide (ttype = 5)
  else if op = 0x0C ∨ op = 0x0D then decide (ttype = 3)
  else if op = 0x0E then decide (ttype = 4)
  else if op = 0x0F ∨ op = 0x10 then decide (3 ≤ ttype ∧ ttype ≤ 5)
  else if op = 0x11 ∨ op = 0x12 then decide (ttype = 2)
  else if op = 0x13 then decide (ttype = 1 ∨ ttype = 2)
  else decide (0x80 ≤ op ∧ op ≤ 0xFF ∧ ttype = 5)

/-- The reserved fields of an entry are 0 (R79, R80). -/
def reservedClear (a : Action) (ttype : Nat) : Bool :=
  let sub := a.sub
  let arg := a.arg
  if a.op ≤ 0x04 ∨ a.op = 0x09 then decide (sub = 0 ∧ arg = 0)
  else if a.op = 0x05 ∨ a.op = 0x08 then decide (sub < 4 ∧ arg < 2 ^ 32)
  else if a.op = 0x06 ∨ a.op = 0x07 then decide (sub < 4)
  else if a.op = 0x0A then decide (sub = 0 ∧ bits arg 27 5 = 0 ∧ 1 ≤ bits arg 16 11 ∧ bits arg 16 11 ≤ 1024)
  else if a.op = 0x0B then decide (arg < 2 ^ 40)
  else if a.op = 0x0C then decide (sub < 2 ∧ arg < 32)
  else if a.op = 0x0D then decide (sub = 0 ∧ arg < 2 ^ 32)
  else if a.op = 0x0E then decide (sub < 2 ∧ arg = 0)
  else if a.op = 0x0F then decide (sub = 0)
  else if a.op = 0x10 then decide (sub = 0 ∧ arg < 16)
  else if a.op = 0x11 then decide (sub < 3 ∧ arg = 0)
  else if a.op = 0x12 then decide (sub < 2 ∧ arg = 0)
  else if a.op = 0x13 then decide (arg = 0 ∧ sub < (if ttype = 2 then 16 else 4))
  else decide (0x80 ≤ a.op)

/-- The crumbs of a scale code (R79). -/
def scaleOf (code : Nat) : Nat := 16 ^ (code % 4)

/-- The width of a PULSE or TRAIN, crumbs. -/
def Action.width (a : Action) : Nat :=
  (if a.op = 0x06 then bits a.arg 0 20 else bits a.arg 0 32) * scaleOf a.sub

/-- The spacing of a TRAIN, crumbs. -/
def Action.spacing (a : Action) : Nat := bits a.arg 20 20 * scaleOf a.sub

/-- The number of pulses of a TRAIN. -/
def Action.count (a : Action) : Nat := bits a.arg 40 8 + 1

/-- A TRAIN keeps the spacing of R80 at this cuff. -/
def State.trainFits (s : State) (a : Action) (c : Nat) : Bool :=
  decide (a.op ≠ 0x06) || decide (a.width + s.minPulse c ≤ a.spacing)

/-- Check 3 of R85, SEAM in a timed queue apart. -/
def State.entryFits (s : State) (a : Action) (ttype target : Nat) : Bool :=
  opAccepts a.op ttype && reservedClear a ttype && (decide (ttype ≠ 1) || s.trainFits a target)

/-- The time from the start of an action to its last edge (R52). -/
def Action.length (a : Action) : Nat :=
  if a.op = 0x05 then a.width else if a.op = 0x06 then (a.count - 1) * a.spacing + a.width else 0

/-- The level of an action's first edge, if it has one, at a cuff that drives `d`/`l`. -/
def State.firstLevel (s : State) (c : Nat) (op : Nat) (d l : Bool) : Option Bool :=
  if op = 0x01 then some true
  else if op = 0x02 then some false
  else if op = 0x03 then some (if d then !l else s.activeLevel c)
  else if op = 0x05 ∨ op = 0x06 ∨ op = 0x07 then some (s.activeLevel c)
  else none

/-- The level a cuff will drive once its running edges are made. -/
def Cuff.lastLevel (k : Cuff) : Bool := match k.edges.getLast? with | some e => e.2 | none => k.level

/-- The earliest time the rules of spacing allow the next action of a cuff (R49, R52); a running
PULSE or TRAIN completes first. -/
def State.legalFrom (s : State) (c : Nat) (a : Action) : Option Nat :=
  let k := s.cuff c
  let t1 := k.lastT.map fun t => s.plus t 32
  let rev := match s.firstLevel c a.op k.driven k.lastLevel with
    | some l => k.driven && (l != k.lastLevel)
    | none => false
  let t2 := if rev then k.lastEdge.map fun t => s.plus t (s.minPulse c) else none
  let both (x y : Option Nat) : Option Nat := match x, y with
    | some a, some b => some (s.later a b)
    | some a, none => some a
    | none, b => b
  both (both t1 t2) k.busyTo

/-- An action changes the state of its pair (R64, R65). -/
def State.swings (s : State) (p : Nat) (a : Action) : Bool :=
  (decide (a.op = 0x11) && decide ((s.pairSt p).st ≠ a.sub % 4)) || (decide (a.op = 0x07) && decide ((s.pairSt p).st ≠ 1))

/-- The earliest time the next action of a pair may come (R49, R52, R65): a transition follows the one before by DEAD and
the minimum output pulse at least. -/
def State.pairLegalFrom (s : State) (p : Nat) (a : Action) : Option Nat :=
  let t1 := (s.cuff (2 * p)).lastT.map fun t => s.plus t 32
  let t2 := if s.swings p a then (s.pairSt p).swung.map fun t => s.plus t (s.dead p + s.minPulse (2 * p)) else none
  match t1, t2 with
  | some x, some y => some (s.later x y)
  | some x, none => some x
  | none, y => y

/-- The earliest time the rules of spacing allow an action (R49, R52, R65). -/
def State.legalTime (s : State) (ttype target : Nat) (a : Action) : Option Nat :=
  if ttype = 2 then s.pairLegalFrom target a else if ttype = 1 then s.legalFrom target a else none

/-! ### Lateness (R94, R95) -/

/-- The queue of an action is timed. -/
def State.isTimed (s : State) (f : Flight) : Bool :=
  match f.org with
  | .queue q _ => decide ((s.queue q).cls = 1)
  | .near _ _ => false

/-- The queue of an action is guarded. -/
def State.isGuarded (s : State) (f : Flight) : Bool :=
  match f.org with
  | .queue q _ => decide ((s.queue q).cls = 2)
  | .near c _ => (s.ctx c).guarded

/-- The late policy of an action: its own, or its queue's or port's (R78, R94, R161). -/
def State.policy (s : State) (f : Flight) : Nat :=
  if f.act.late % 4 ≠ 0 then f.act.late % 4
  else match f.org with
    | .queue q _ => (s.queue q).late
    | .near c p => (Tbl.get {} (s.ctx c).ports p).late

/-- What finding an action late counts (R94) and, for a timed one, reports (R95, R274). -/
def State.countLate (s : State) (f : Flight) : State :=
  let s := s.incSat Reg.SCH_LATE_CNT 0 32
  if s.isTimed f then
    ((s.setBit Reg.SCH_STATUS 2 true).relRecord 0 Code.ok 7 0x10 0
      (match f.org with | .queue q _ => q | .near c _ => c)).raise 0x3410
  else s

/-- The fault policy: the queue stops with QUEUE_LATE, HEAD returns to the late action, its later
actions are withdrawn, and both records are written (R94). -/
def State.lateFault (s : State) (f : Flight) : State :=
  let s := s.execRecord f.act f.org Code.queueLate s.tb.now
  match f.org with
  | .queue q i =>
    let s := s.recall q (some f)
    (s.stopQueue q Code.queueLate).faultRecord (s.queue q).tenant Code.queueLate FSrc.queue q i
  | .near _ _ => s

/-! ### Voters (R121, R124) -/

/-- The physical tray that answers to a tray number's context IDs (R131). -/
def State.physOf (s : State) (l : Nat) : Nat :=
  match (List.range 9).find? (fun p => (s.tray p).serves == some l) with
  | some p => p
  | none => l

/-- The tray number whose context IDs a physical tray answers to (TRY_STATUS.SERVES). -/
def State.servesOf (s : State) (p : Nat) : Nat := (s.tray p).serves.getD p

/-- The replicas of a guarded context, its triple, in slot order (R120). -/
def State.replicas (s : State) (c : Nat) : List Nat := (s.ctx c).slots

/-- The contexts that run with a guarded one: its triple and the replica a rebuild is making of it (R163). -/
def State.triple (s : State) (c : Nat) : List Nat :=
  s.replicas c ++ ((List.range 9).map fun l => l * 256 + c % 256).filter fun i =>
    (s.ctx i).guarded && decide ((s.ctx i).slots = s.replicas c) && !(s.replicas c).contains i

/-- The voting tray in a slot of a guarded action's queue or context (R120). -/
def State.votingTray (s : State) (f : Flight) (slot : Nat) : Nat :=
  match f.org with
  | .queue q _ => match (s.queue q).contract with
    | some k => k.trays.getD slot 0
    | none => 0
  | .near c _ => s.physOf ((s.replicas c).getD slot c / 256)

/-- The version of the base set a physical tray holds: that of its last base-set update, or the device's (R175, R354). -/
def State.baseVer (s : State) (t : Nat) : Nat := (s.tray t).base.getD (s.regN Reg.SEC_VER_BASE)

/-- The control store of a tray is written to another, from the steward's image copies (R175, R178). -/
def State.copyStore (s : State) (src dst : Nat) : State :=
  let keep := s.cs.filter fun e => decide (e.1 / 16384 ≠ dst)
  let new := (s.cs.filter fun e => decide (e.1 / 16384 = src)).map fun e => (dst * 16384 + e.1 % 16384, e.2)
  { s with cs := new.foldl (fun t e => Tbl.set 0 t e.1 e.2) keep,
           csBad := s.csBad.filter fun k => decide (k / 16384 ≠ dst),
           csSoft := s.csSoft.filter fun k => decide (k / 16384 ≠ dst) }

/-- The spare starts to take a tray's place (R124, R178). -/
def State.takeSpare (s : State) (x t : Nat) : State :=
  (s.copyStore t x).setTray x { s.tray x with rebuildFor := some t, since := s.tick, moved := [], base := some (s.baseVer t) }

/-- The rebuild of the spare for a failing tray starts, where a spare is free (R124, R125, R179). -/
def State.startRebuild (s : State) (t : Nat) : State :=
  let x := s.fld Reg.ADM_GUARD 0 4
  if x = 0xF ∨ s.bit Reg.ADM_GUARD 22 ∨ (s.tray x).rebuildFor.isSome ∨ x = t then s
  else (s.setBit Reg.ADM_GUARD 22 true).takeSpare x t

/-- A tray loses a vote: the record, the counts, and R124 when it is the third in 1 s. -/
def State.loseVote (s : State) (t : Nat) : State :=
  let s := (s.relRecord 1 Code.voteLost 4 0x21 t 0).trayPulse t 6
  let s := s.incSat (Reg.ADM_VOTE t) 16 16
  let recent := ((Tbl.get [] s.votes t).filter fun x => decide (s.tick < x + 1500000000)) ++ [s.tick]
  let s := { s with votes := Tbl.set [] s.votes t (recent.drop (recent.length - 3)) }
  let s := s.setFld (Reg.ADM_VOTE t) 0 2 (min 3 recent.length)
  if recent.length < 3 ∨ s.bit Reg.ADM_GUARD (4 + t) then s
  else
    ((s.setBit Reg.ADM_GUARD (4 + t) true).raise 0x3418).startRebuild t

/-- The number below which a voter has closed the votes of an origin: a copy of such an action comes after its vote. -/
def Voter.closedTo (v : Voter) (o : Origin) : Nat := ((v.closed.find? (·.1 == o)).map (·.2)).getD 0

/-- The agreed action has reached the head of the near FIFO: a slot without an agreeing copy has lost its vote, and a copy
that comes over the near path from now on takes no part in one (R121). -/
def State.closeVote (s : State) (ttype target : Nat) (f : Flight) : State :=
  let key := voterKey ttype target
  match (s.voter key).kept.find? (·.fl.same f) with
  | none => s
  | some k =>
    let missing := [0, 1, 2].filter fun i => !k.seen.contains i && !k.lost.contains i
    let s := missing.foldl (fun s i => s.loseVote (s.votingTray k.fl i)) s
    let v := s.voter key
    s.setVoter key
      { v with kept := v.kept.map (fun x => if x.fl.same f then { x with lost := x.lost ++ missing } else x),
               closed := (f.org, max (v.closedTo f.org) (f.ord + 1)) :: v.closed.filter (·.1 != f.org) }

/-! ### The head of a target FIFO -/

/-- The required lead of a target FIFO's head, crumbs (R93). -/
def leadOf (ttype : Nat) : Nat := if ttype = 1 ∨ ttype = 2 then 192 else 64

/-- A cuff's FIFO is served now: in service, not held, and not at Apron for anything but a trip. -/
def State.headServed (s : State) (ttype target : Nat) : Bool :=
  if ttype = 1 ∨ ttype = 2 then
    let k := s.cuff (serveCuff ttype target)
    s.service && !k.held && !k.apMode && !k.apBank && !k.apAbort && !k.apVote
      && (decide (ttype = 2) || !k.apTrip || s.pairEn (target / 2))
      && (decide (ttype = 1) || (let b := s.cuff (2 * target + 1); !b.apBank && !b.apAbort && !b.apVote))
  else s.service

/-- An action is refused at its target: the cuff's error, and REJECT_CLASS where LOG is set. -/
def State.refuseAt (s : State) (f : Flight) (err : Nat) : State :=
  let s := if f.ttype = 1 ∨ f.ttype = 2 then s.cufErr (serveCuff f.ttype f.target) err else s
  if f.act.log then s.execRecord f.act f.org Code.rejectClass s.tb.now else s

/-- The cuff does not know this operation (R53, R79). A NOP or SEAM that comes over the near path has no effect at a target
and is discarded there as one it does not know (DESIGN CHOICE, log entry 28). -/
def State.badAtHead (s : State) (f : Flight) : Bool :=
  !(opAccepts f.act.op f.ttype && reservedClear f.act f.ttype)
    || decide (f.act.op = 0x00) || decide (f.act.op = 0x0A)
    || (decide (f.ttype = 2) && !s.pairEn f.target)
    || (decide (f.ttype = 1) && !s.trainFits f.act f.target)

/-- The first edge, or a width below the minimum output pulse, breaks the spacing of a plain or
guarded action (R52, R65). -/
def State.stretches (s : State) (f : Flight) : Bool :=
  (match s.legalTime f.ttype f.target f.act with | none => false | some t => !s.atOrAfter f.act.time t)
    || (decide (f.ttype = 1 ∧ (f.act.op = 0x05 ∨ f.act.op = 0x06)) && decide (f.act.width < s.minPulse f.target))

/-- Since when an action has stood at the head of its FIFO, or before its compare unit (R23). -/
def State.atHead (s : State) (f : Flight) : Nat := f.head.getD s.tb.now

/-- The time of an action passed while it stood at the head unserved (R23, R48). -/
def State.timePassed (s : State) (f : Flight) : Bool := !s.ahead (f.act.time + 15) 0

/-- An action reached the head of its FIFO less than the required lead before its TIME, or its TIME passed there
(R94, R48). -/
def State.lateAtHead (s : State) (f : Flight) : Bool :=
  s.timePassed f || !s.atOrAfter f.act.time (s.plus (s.atHead f) (leadOf f.ttype))

/-- The time an action that is late executes at (R94, R52); a user action is returned by RECV at once (R160), 4 ticks
after the last action its context has taken (R93). -/
def State.lateDue (s : State) (f : Flight) : Nat :=
  if 0x80 ≤ f.act.op then
    match (s.ctx f.target).took with
    | some t => s.later s.tb.now (s.plus t 64)
    | none => s.tb.now
  else
  let t := s.later f.act.time (s.plus (s.atHead f) (leadOf f.ttype))
  match s.legalTime f.ttype f.target f.act with
  | none => t
  | some u => s.later t u

/-- What the target does with the action that reached the head of its FIFO before its time comes:
parity (R76), the votes (R121), PAIR_DIRECT (R65), bad operations (R53, R81), a tripped pair (R71), lateness (R94).
The head stays and is judged once, or it leaves and `true` is answered. -/
def State.judgeHead (s : State) (ttype target : Nat) : State × Bool :=
  match s.targetFifo ttype target with
  | [] => (s, false)
  | f :: rest =>
    if f.judged then (s, false)
    else
    let s := s.closeVote f.ttype f.target f
    if s.headServed f.ttype f.target = false then
      (s.setTargetFifo ttype target ({ f with head := some (s.atHead f) } :: rest), false)
    else
      if f.bad then
        match (s.voter (voterKey f.ttype f.target)).kept.find? (·.fl.same f) with
        | some k =>
          let s := (s.setTargetFifo ttype target ({ k.fl with bad := false, arrived := f.arrived, head := f.head } :: rest)).relRecord 1 Code.ok 3 0x20
            (serveCuff f.ttype f.target / 32) (serveCuff f.ttype f.target)
          (s.cufErr (serveCuff f.ttype f.target) 7, true)
        | none =>
          let s := (s.popFifo ttype target).relRecord 2 Code.ok 3 0x20 (serveCuff f.ttype f.target / 32) (serveCuff f.ttype f.target)
          (s.cufErr (serveCuff f.ttype f.target) 7, true)
      else
      let pop := s.popFifo ttype target
      if f.ttype = 1 ∧ s.pairEn (f.target / 2) then (pop.refuseAt f 6, true)
      else if s.badAtHead f then (pop.refuseAt f 1, true)
      else if f.ttype = 2 ∧ s.tripped f.target ∧ f.act.op ≠ 0x12 ∧ f.act.op ≠ 0x13 then
        if s.reached f.act.time then
          (if f.act.log then pop.execRecord f.act f.org
            (if s.bridged f.target then Code.bridgeShort else Code.guardTrip) f.act.time else pop, true)
        else (s, false)
      else
        let str := !s.isTimed f && s.stretches f
        let late := s.lateAtHead f || str || f.late
        if late = false then
          (s.setTargetFifo ttype target ({ f with judged := true, due := f.act.time, head := some (s.atHead f) } :: rest), false)
        else
          let s := if f.late then s else s.countLate f
          let s := if str then s.cufErr (serveCuff f.ttype f.target) 0 else s
          if s.policy f = 2 then
            ((s.popFifo ttype target).execRecord f.act f.org Code.lateDropped s.tb.now, true)
          else if s.policy f = 3 then ((s.popFifo ttype target).lateFault f, true)
          else (s.setTargetFifo ttype target
            ({ f with judged := true, late := true, due := s.lateDue f, head := some (s.atHead f) } :: rest), false)

/-- Judges heads until one stays. -/
def State.judge (s : State) (ttype target : Nat) : Nat → State
  | 0 => s
  | n + 1 =>
    let r := s.judgeHead ttype target
    if r.2 then r.1.judge ttype target n else r.1

/-- Judges the head of a target's FIFO; a FIFO holds at most 8 entries (R49). -/
def State.judgeFifo (s : State) (ttype target : Nat) : State := s.judge ttype target 9

/-- A head that is judged afresh: one whose time passed while its FIFO was not served reaches the compare unit now (R23,
R48); one that was late before keeps the tick on which it reached the head (R94). -/
def State.afresh (s : State) (f : Flight) : Flight :=
  { f with judged := false, head := if s.timePassed f ∧ (f.judged && f.late) = false then some s.tb.now else f.head }

/-- The entries of a FIFO are judged afresh when what it serves changes, or when it is served again (R23, R48). -/
def State.rejudge (s : State) (ttype target : Nat) : State :=
  match s.targetFifo ttype target with
  | [] => s
  | f :: r => (s.setTargetFifo ttype target (s.afresh f :: r)).judgeFifo ttype target

/-- An edge has been made at a cuff or pair after its head was judged: a plain or guarded head that it comes too close to is
deferred (R52). -/
def State.respace (s : State) (c : Nat) : State :=
  match (s.cuff c).fifo with
  | [] => s
  | f :: r =>
    let close := match s.legalTime f.ttype f.target f.act with
      | some t => !s.atOrAfter f.due t
      | none => false
    if f.judged && !s.isTimed f && close then (s.setTargetFifo 1 c ({ f with judged := false } :: r)).judgeFifo 1 c else s

/-- Judges the heads that others have left by being withdrawn (R100, R122). -/
def State.judgeAll (s : State) : State :=
  let s := (Tbl.keys s.cuffs).foldl (fun s c => s.judgeFifo 1 c) s
  (Tbl.keys s.fifos).foldl (fun s k => s.judgeFifo (k / 4096) (k % 4096)) s

/-- Every FIFO is served again: an action whose time passed meanwhile is late (R95, R325). -/
def State.rejudgeAll (s : State) : State :=
  let s := (Tbl.keys s.cuffs).foldl (fun s c => s.rejudge 1 c) s
  (Tbl.keys s.fifos).foldl (fun s k => s.rejudge (k / 4096) (k % 4096)) s

/-- The pair records GUARD_TRIP, or BRIDGE_SHORT (R66, R69). What stands in its FIFO is judged anew: the trip consumes it
(R71). -/
def State.tripPair (s : State) (p : Nat) (bridge causeB : Bool) (guard : Nat) : State :=
  let n := p / 16
  let i := p % 16
  let was := s.tripped p
  let s := (s.toApron (2 * p) .trip).toApron (2 * p + 1) .trip
  let k := s.pairSt p
  let s := s.setPairSt p { k with st := 0, swung := if k.st = 0 then k.swung else some s.tb.now }
  let s := s.setBit (Reg.SLV_TRIP n) i true
  let s := if was then s else s.setBit (Reg.SLV_TRIP n) (16 + i) causeB
  let s := if bridge then s.setBit (Reg.SLV_BRIDGE n) i true else s
  let s := s.setN (Reg.PG_ERR_INFO (slvPage n))
    ((if bridge then Code.bridgeShort else Code.guardTrip) + i * 2 ^ 8 + guard % 8 * 2 ^ 12)
  (s.raise (0x3000 + 4 * n + b2n bridge)).rejudge 1 (2 * p)

/-! ### Commits due -/

/-- The tick clock runs, so that a commit tick can come. -/
def State.clocked (s : State) : Bool := s.tb.running && decide (s.mode ≠ Mode.off) && decide (s.mode ≠ Mode.doze)

/-- A pending commit is due. -/
def State.armedDue (s : State) (a : Armed) : Bool :=
  match a with
  | .no => false
  | .now => s.clocked
  | .timed t => s.clocked && s.reached t

/-- A commit at a stated time is due and has not been made. -/
def State.timedDue (s : State) (a : Armed) : Bool :=
  match a with
  | .timed t => s.clocked && s.reached t
  | _ => false

/-- The hold-and-swap's next group commit is due (R23). -/
def State.hsGroupDue (s : State) (g : Nat) : Bool :=
  decide (s.fld Reg.CFG_HS_CTRL 2 2 = 2) && s.clocked && decide (s.hs.groups[s.hs.done]? = some g)
    && s.reached (s.plus s.hs.hold ((s.hs.done + 1) * 64 * 16))

/-- A timed commit of a page is due on this tick: an action of the tick uses the new values (R17, R96). -/
def State.commitDue (s : State) (page : Nat) : Bool :=
  s.timedDue (s.page page).armed
    || s.groups.any fun e => e.2.members.contains page && (s.timedDue e.2.armed || s.hsGroupDue e.1)

/-- An immediate commit of a page or of its group is pending (R17). -/
def State.commitNow (s : State) (page : Nat) : Bool :=
  decide ((s.page page).armed = .now) || s.groups.any fun e => e.2.members.contains page && decide (e.2.armed = .now)

/-- The pages whose settings an action at a target uses. -/
def unitPages (ttype target : Nat) : List Nat :=
  match ttype with
  | 1 => [3, 0x10 + target / 32]
  | 2 => [3, 0x10 + target / 16]
  | 3 => [0x40 + target / 4]
  | 4 => [0x60 + target / 8]
  | _ => []

/-- The head of a target's FIFO, if it is this operation, judged, and its time has come (with the
cuff's skew correction, R63); a commit due on the same tick goes first (R96), and a trip consumes what is not made for a
tripped pair (R71). -/
def State.headReady (s : State) (ttype target op : Nat) : Option Flight :=
  match s.targetFifo ttype target with
  | [] => none
  | f :: _ =>
    let sk := if ttype = 1 ∨ ttype = 2 then s.lag (serveCuff ttype target) else 0
    if f.ttype = ttype ∧ f.target = target ∧ f.act.op = op ∧ f.judged ∧ s.headServed ttype target
      ∧ s.reached (s.shifted f.due sk) ∧ (unitPages ttype target).all (fun p => !s.commitDue p) = true
      ∧ (ttype = 2 → s.tripped target = true → op = 0x12 ∨ op = 0x13) then some f else none

/-- An action of this tick has used the settings in effect: an immediate commit still pending on their pages takes place
on a later tick (R17, R96). -/
def State.usedNow (s : State) (ttype target : Nat) : State :=
  ((unitPages ttype target).filter s.commitNow).foldl (fun s p => s.setPage p { s.page p with used := some s.tick }) s

/-- A context notes when it has taken an action: it takes at most one per 4 ticks (R93). -/
def State.taken (s : State) (ttype target : Nat) : State :=
  if ttype = 5 then s.setCtx target { s.ctx target with took := some s.tb.now } else s

/-- What follows an action that has executed: it leaves the FIFO, its record is written, and the next
head is judged. A late action executed while VALID is 0 is recorded LATE_EXECUTED, where R43 and R94 each name a status
(log entry 27). -/
def State.finish (s : State) (f : Flight) : State :=
  let s := ((s.popFifo f.ttype f.target).taken f.ttype f.target).usedNow f.ttype f.target
  let s := if f.late then s.execRecord f.act f.org Code.lateExecuted f.due else s.logExec f.act f.org Code.ok f.due
  s.judgeFifo f.ttype f.target

end Sys2Proof.Machine
end

