-- ==== Sys2Proof/Machine/FbkOps.lean ====
section
/-! DEFINITION. The registers of a feedback port, its position at a time past, and the latches that a tick completes
(R202-R215). -/

namespace Sys2Proof.Machine

open Sys2Proof

/-! ### Registers of a port -/

/-- Positions are 40 bits. -/
abbrev posMod : Nat := 2 ^ 40

def State.fbkPos (s : State) (p : Nat) : Nat := s.pair (Reg.FBK_POS_L p) (Reg.FBK_POS_H p)
def State.setFbkPos (s : State) (p v : Nat) : State := s.setPair (Reg.FBK_POS_L p) (Reg.FBK_POS_H p) (v % posMod)
def State.fbkCmp (s : State) (p : Nat) : Nat := s.pair (Reg.FBK_CMP_L p) (Reg.FBK_CMP_H p)
def State.setFbkCmp (s : State) (p v : Nat) : State := s.setPair (Reg.FBK_CMP_L p) (Reg.FBK_CMP_H p) (v % posMod)

/-- FBK_CFG.MODE: 0 off, 1 incremental, 2 SSI, 3 programmable. -/
def State.fbkMode (s : State) (p : Nat) : Nat := s.fld (Reg.FBK_CFG p) 0 2

/-- FBK_STATUS: 0 PVALID, 1 DIR, 2 STILL, 3 SPDVALID, 4 FRAME. -/
def State.fbkStat (s : State) (p b : Nat) : Bool := s.bit (Reg.FBK_STATUS p) b
def State.setFbkStat (s : State) (p b : Nat) (v : Bool) : State := s.setBit (Reg.FBK_STATUS p) b v

/-- Sets a bit of FBK_ERR and raises the port's error source (R205, R274, log entry 14). -/
def State.fbkErr (s : State) (p b : Nat) : State := (s.setBit (Reg.FBK_ERR p) b true).raise (0x3280 + 4 * p + 3)

/-- The pairs of a pin set are received in this mode: in incremental and SSI mode only in 3.3 V sleeves, each of those the set
lies in (R372). -/
def State.bankFits (s : State) (mode base count : Nat) : Bool :=
  decide (mode = 3) || (List.range (max 1 count)).all fun i => s.bit (Reg.SLV_STATUS ((base + i) / 32)) 0

/-- The port decodes now: configured, in a bank it can receive in, where edges are stamped, and not off (R61, R222, R321,
R372). -/
def State.fbkOn (s : State) (p mode : Nat) : Bool :=
  decide (s.fbkMode p = mode) && s.bankFits mode (s.port p).base (s.port p).count && !s.stampless && decide (s.mode ≠ Mode.off)

/-- A record of a port with a position (R221). -/
def State.fbkRecordAt (s : State) (p status kind pair time pos : Nat) : State :=
  if s.bit (Reg.FBK_CFG p) 24 then
    s.logRecord (s.fld (Reg.FBK_LOGQ p) 0 20) (time % 2 ^ 60 + status * 2 ^ 64 + p * 2 ^ 72 + kind * 2 ^ 80 + pair * 2 ^ 84
      + pos * 2 ^ 88)
  else s

/-- A record of a port with the position as it stands. -/
def State.fbkRecord (s : State) (p status kind pair time : Nat) : State := s.fbkRecordAt p status kind pair time (s.fbkPos p)

/-! ### Speed as it reads (R206, R211) -/

/-- Counts per encoder line, the like-edge spacing c (R206); the reserved code counts nothing. -/
def State.likeSpan (s : State) (p : Nat) : Nat :=
  match s.fld (Reg.FBK_CFG p) 2 2 with | 0 => 1 | 1 => 2 | 2 => 4 | _ => 0

/-- A speed at a time: between edges a slowing axis is bounded by the time since the newest like edge (R211). -/
def State.boundSpeed (s : State) (p v : Nat) (like : Option Nat) (now : Nat) : Nat :=
  match like with
  | some t =>
    let d := s.minus now t
    if s.fbkMode p = 1 ∧ d ≠ 0 then min v (s.likeSpan p * 24000000000 * 256 / d) else v
  | none => v

/-- FBK_SPEED as it reads (R211). -/
def State.fbkSpeed (s : State) (p : Nat) : Nat :=
  s.boundSpeed p (s.pair (Reg.FBK_SPEED_L p) (Reg.FBK_SPEED_H p)) (s.port p).likes.head? s.tb.now

/-! ### Position and speed at a time (R215) -/

/-- The position before the changes stamped after `t`. -/
def State.posAt (s : State) (p t : Nat) : Nat :=
  (((s.port p).trail.takeWhile fun x => !s.atOrAfter t x.1).getLast?.map (·.2)).getD (s.fbkPos p)

/-- The speed at `t`, as FBK_SPEED read then: what the changes stamped after `t` have replaced, bounded by the newest like edge at
or before `t` (R210, R211, R215). -/
def State.speedAt (s : State) (p t : Nat) : Nat :=
  match ((s.port p).past.takeWhile fun x => !s.atOrAfter t x.1).getLast? with
  | none => s.boundSpeed p (s.pair (Reg.FBK_SPEED_L p) (Reg.FBK_SPEED_H p)) (s.port p).likes.head? t
  | some x => s.boundSpeed p x.2.1 x.2.2 t

/-- The speed is about to change with a stamp; what lies 1,024 ticks back is forgotten. -/
def State.noteSpeed (s : State) (p stamp : Nat) : State :=
  let k := s.port p
  let l := k.past.takeWhile fun x => s.atOrAfter x.1 (s.minus s.tb.now 0x4000)
  s.setPort p { k with past := (stamp, s.pair (Reg.FBK_SPEED_L p) (Reg.FBK_SPEED_H p), k.likes.head?) :: l }

/-- The position changes with a stamp; what lies 1,024 ticks back is forgotten. -/
def State.movePos (s : State) (p stamp v : Nat) : State :=
  let k := s.port p
  let t := k.trail.takeWhile fun x => s.atOrAfter x.1 (s.minus s.tb.now 0x4000)
  (s.setPort p { k with trail := (stamp, s.fbkPos p) :: t }).setFbkPos p v

/-- A latch takes position and speed at its time, with a record where it asks for one (R215). -/
def State.latchAt (s : State) (p pos : Nat) (l : Nat × Bool) : State :=
  let s := s.setPair (Reg.FBK_LPOS_L p) (Reg.FBK_LPOS_H p) pos
  let s := s.setPair (Reg.FBK_LSPD_L p) (Reg.FBK_LSPD_H p) (s.speedAt p l.1)
  let s := s.setPair (Reg.FBK_LTIME_L p) (Reg.FBK_LTIME_H p) l.1
  if l.2 then s.fbkRecordAt p Code.ok 0 0 l.1 pos else s

/-- The mark latch takes the position at a stamp. -/
def State.markAt (s : State) (p t : Nat) : State :=
  let s := s.setPair (Reg.FBK_MPOS_L p) (Reg.FBK_MPOS_H p) (s.posAt p t)
  (s.setPair (Reg.FBK_MTIME_L p) (Reg.FBK_MTIME_H p) t).fbkRecordAt p Code.ok 2 0 t (s.posAt p t)

/-- Every edge stamped at or before `t` has been counted: FILT + 8 ticks have passed (R204, R220). -/
def State.countedTo (s : State) (p t : Nat) : Bool := s.reached (s.plus t ((s.fld (Reg.FBK_CFG p) 8 8 + 8) * 16))

/-- Latches and marks of a port are completed once every edge that counts has come (R215); in SSI and programmable mode a
latch waits for its frame. -/
def State.latchTick (s : State) (p : Nat) : State :=
  if 2 ≤ s.fbkMode p then s
  else
    let k := s.port p
    let ls := k.latches.filter fun l => s.countedTo p l.1
    let ms := k.marks.filter (s.countedTo p)
    let s := s.setPort p { k with latches := k.latches.filter fun l => !s.countedTo p l.1,
                                  marks := k.marks.filter fun t => !s.countedTo p t }
    ms.foldl (fun s t => s.markAt p t) (ls.foldl (fun s l => s.latchAt p (s.posAt p l.1) l) s)

/-- The tick of every port with a latch or mark to complete. -/
def State.tickPorts (s : State) : State :=
  ((s.ports.filter fun x => !x.2.latches.isEmpty || !x.2.marks.isEmpty).map (·.1)).foldl State.latchTick s

end Sys2Proof.Machine
end

