-- ==== Sys2Proof/Machine/PageOps.lean ====
section
/-! DEFINITION. Staging, commit groups and hold-and-swap (R17-R24, R385, R387): what a write of
their command bits does before any commit takes place. -/

namespace Sys2Proof.Machine

open Sys2Proof

/-- A command that names a unit the part does not have is a fault (R8, log entry 4). -/
def onUnit (b : Bool) (s : State) : Host.Outcome State Fault Refusal :=
  if b then .next s else .fault .noSuchUnit

/-- The host's writes of a function arrive: the link is up, a VF is enabled, the part is not in OFF, power fail is not
asserted, and the function is in D0 with no abort or reset under way (R251, R267, R270). -/
def State.arrives (s : State) (fn : Nat) : Bool :=
  s.link.up && (decide (fn = 0) || s.link.vfEnable) && decide (s.pwr.mode ≠ Mode.off) && !s.pwr.failPin
    && !(s.fn fn).aborting && !(s.fn fn).flr && decide ((s.fn fn).dstate = 0)

/-- The part is in DOZE or on its way there: the link holds writes (R251, R327). -/
def State.dozing (s : State) : Bool := decide (s.pwr.mode = Mode.doze) || s.pwr.entering

/-- Writes of a function reach the part now. -/
def State.accepts (s : State) (fn : Nat) : Bool := s.arrives fn && !s.dozing

/-- A PF write to a block page has an effect: in BOOT only the GLB and SEC pages are reachable (R346). -/
def State.pfPage (s : State) (page : Nat) : Bool :=
  s.accepts 0 && (decide (s.pwr.mode ≠ Mode.boot) || decide (page = 0) || decide (page = 5))

/-- A write to a tenant page has an effect (R346). -/
def State.tenPage (s : State) (fn : Nat) : Bool := s.accepts fn && decide (s.pwr.mode ≠ Mode.boot)

/-- The internal ranges of a BAR2 access; both pages of one that spans two are walked before anything else, and a
failing one leaves a fault record (R248). -/
def State.bar2Reach (s : State) (fn a n : Nat) : Access (List (Nat × Nat)) :=
  let k := min n (65536 - a % 65536)
  match s.reach fn a 4 with
  | .bad c s => .bad c (s.faultRecord fn c FSrc.bar2 0 a)
  | .ok p s =>
    if k = n then .ok [(p, n)] s
    else match s.reach fn (a + k) 4 with
      | .bad c s => .bad c (s.faultRecord fn c FSrc.bar2 0 (a + k))
      | .ok p' s => .ok [(p, k), (p', n - k)] s

/-- A BAR2 write is applied whole or discarded whole (R248, R251). -/
def State.applyPosted (s : State) (fn a : Nat) (bs : List (Option Nat)) : State :=
  match s.bar2Reach fn a bs.length with
  | .bad _ s => s
  | .ok l s => (l.foldl (fun (x : State × List (Option Nat)) r => (x.1.writeBytes r.1 (x.2.take r.2), x.2.drop r.2)) (s, bs)).1

/-- Applies every write a function's buffer holds, in order. -/
def State.drainOwn (s : State) (fn : Nat) : State :=
  let b := (s.fn fn).buf
  if b = [] then s
  else b.foldl (fun s w => s.applyPosted fn w.1 w.2) (s.setFn fn { s.fn fn with buf := [] })

/-- The 64-byte entries of a write buffer that some writes take (R250). -/
def bufEntries (b : List (Nat × List (Option Nat))) : Nat := (b.map fun w => (w.2.length + 63) / 64).foldl (· + ·) 0

/-- The functions whose buffer is full. -/
def State.fullBufs (s : State) : List Nat := (Tbl.keys s.fns).filter fun n => decide (64 ≤ bufEntries (s.fn n).buf)

/-- A write of any function waits at the link until no buffer is full: what the full ones hold is applied first (R250, log
entry 14). -/
def State.drainFull (s : State) : State := s.fullBufs.foldl State.drainOwn s

/-- A register write of a function, or a read, acts only after the writes that its buffer holds (R250). -/
def State.drainBuf (s : State) (fn : Nat) : State := s.drainFull.drainOwn fn

/-! ### Writes held at the link (R251, R267, R329) -/

/-- A wake source starts the wake from DOZE, or is kept until an entry in progress is complete (R327, R329). -/
def State.startWake (s : State) (cause port : Nat) : State :=
  if s.dozing ∧ s.pwr.wake = false then
    let s := (s.setFld Reg.PWR_STATUS 16 3 cause).setFld Reg.PWR_STATUS 19 2 port
    { s with pwr := { s.pwr with wake := true } }
  else s

/-- Where a function's tenant page stands in its BAR0 (R247). -/
def tenBar (fn : Nat) : Nat := if fn = 0 then 0x1FF0000 else 0

/-- A held write starts an abort: TEN_ABORT with START and its key (R264). -/
def Posted.aborts (w : Posted) : Bool :=
  decide (w.bytes = []) && decide (w.addr = tenBar w.fn + 0x400) && bitAt w.value 0 && decide (bits w.value 16 16 = 0x4A42)

/-- The link holds writes: a wake source where PWR_WAKE.HOST enables it, and always where one starts an abort (R251, R267,
R329). -/
def State.hold (s : State) (ws : List Posted) : State :=
  let s := { s with link := { s.link with posted := s.link.posted ++ ws } }
  if ws.any Posted.aborts then s.startWake 6 0
  else if s.bit Reg.PWR_WAKE 4 then s.startWake 2 0
  else s

/-- A command the host sends as writes of BAR0, address and value of each. While DOZE lasts the link holds them; else it acts
where the written page is reachable. -/
def State.posted (s : State) (fn : Nat) (ws : List (Nat × Nat)) (ok : Bool) (f : State → State) : State :=
  if s.arrives fn && s.dozing then s.hold (ws.map fun w => { fn := fn, addr := w.1, value := w.2 })
  else if ok then f (s.drainBuf fn)
  else s

/-- A command the host writes to a block page, at an offset that counts the views. -/
def State.pf (s : State) (page off v : Nat) (f : State → State) : State :=
  s.posted 0 [(page * 0x4000 + off, v)] (s.pfPage page) f

/-- A command the host writes to its tenant page. A doorbell arrives in BOOT too, where it is refused (R317, log entry 30). -/
def State.ten (s : State) (fn off v : Nat) (f : State → State) : State :=
  s.posted fn [(tenBar fn + off, v)] (if off = 0x204 then s.accepts fn else s.tenPage fn) f

/-- The queue that a doorbell names is kept as TEN_QDB_L, outside BOOT (R105, R346). -/
def State.keepQdb (s : State) (fn queue : Nat) : State :=
  if s.pwr.mode = Mode.boot then s else s.setFn fn { s.fn fn with qdbL := queue }

/-- A 64-bit write of TEN_QDB: both halves at once, and the queue is the last TEN_QDB_L written (R105). In BOOT the doorbell is
refused (R317, log entry 30). -/
def State.qdb (s : State) (fn queue index : Nat) (f : State → State) : State :=
  s.posted fn [(tenBar fn + 0x200, queue), (tenBar fn + 0x204, index)] (s.accepts fn) (fun s => f (s.keepQdb fn queue))

/-- How many of the given command bits a write sets. -/
def setCount (v : Nat) (bs : List Nat) : Nat := (bs.filter (bitAt v)).length

/-- A refused combination of command bits (R385). -/
def State.cmdRefused (s : State) (page : Nat) : State := s.pgErrCode page 4 Code.rejectClass

/-! ### Views (R10) -/

/-- What a write through a view makes of RW bits (R10): 0 normal, 1 SET, 2 CLEAR; the SHADOW view
leaves them. -/
def viewWrite (view old data : Nat) : Nat :=
  if view = 0 then data % 2 ^ 32
  else if view = 1 then Nat.lor old (data % 2 ^ 32)
  else if view = 2 then Nat.lor old (data % 2 ^ 32) - data % 2 ^ 32
  else old

/-- What a write through a view makes of RWS bits in the shadow (R10): the SHADOW view writes them as the normal
view does. -/
def viewStage (view old data : Nat) : Nat := if view = 3 then data % 2 ^ 32 else viewWrite view old data

/-! ### Groups -/

/-- The commit group of a page, if any. -/
def State.groupOf (s : State) (page : Nat) : Option Nat :=
  (s.groups.find? fun e => e.2.members.contains page).map (·.1)

/-- CFG_HS_CTRL.STATE: 0 idle, 1 armed, 2 holding, 3 refused. -/
def State.hsState (s : State) : Nat := s.fld Reg.CFG_HS_CTRL 2 2

/-- A hold-and-swap is in hand. -/
def State.hsBusy (s : State) : Bool := decide (s.hsState = 1) || decide (s.hsState = 2)

/-- A group counts as armed: by its own COMMIT or ARM, or by a hold-and-swap (R21, R387). -/
def State.groupArmed (s : State) (g : Nat) : Bool :=
  decide ((s.group g).armed ≠ .no) || (s.hsBusy && s.hs.groups.contains g)

/-- A page is armed, or a member of an armed group (R19, PG_STATUS.ARMED). -/
def State.pageArmed (s : State) (page : Nat) : Bool :=
  decide ((s.page page).armed ≠ .no) ||
  match s.groupOf page with
  | none => false
  | some g => s.groupArmed g

/-- A write reaches the RWS bits `mask` of a register: discarded with STAGE_BUSY while its page is armed (R19). -/
def State.stageWrite (s : State) (key mask view v : Nat) : State :=
  if mask = 0 then s
  else if s.pageArmed (pageOf key) then s.pgErr (pageOf key) 0
  else
    let old := (s.staged key).toNat
    s.setStaged key (word (Nat.lor (Nat.land (viewStage view old v) mask) (old - Nat.land old mask)))

/-- The changed registers of a group's members (R21). -/
def State.groupDirty (s : State) (g : Nat) : Nat :=
  ((s.group g).members.map s.dirty).foldl (· + ·) 0

/-- A group may commit: at most 1,024 changed registers, no member armed on its own (R21). -/
def State.groupFits (s : State) (g : Nat) : Bool :=
  decide (s.groupDirty g ≤ 1024) && (s.group g).members.all fun p => decide ((s.page p).armed = .no)

/-- CFG_GSTAT.LAST_CODE of a group. -/
def State.groupCode (s : State) (g code : Nat) : State := s.setFld (Reg.CFG_GSTAT g) 8 8 code

/-- A group COMMIT or ARM is refused with a code (R21, R274). -/
def State.groupRefused (s : State) (g code : Nat) : State := (s.groupCode g code).raise 0x3408

/-- A group commit refused as CFG_TOO_LARGE (R21). -/
def State.groupTooLarge (s : State) (g : Nat) : State :=
  let s := (s.group g).members.foldl (fun s p => s.pgErrCode p 2 Code.cfgTooLarge) s
  let s := s.setGroup g { s.group g with armed := .no }
  s.groupRefused g Code.cfgTooLarge

/-! ### PG_STAGE (R17-R19) -/

/-- 96 ticks, the arming limit of R18, in crumbs. -/
abbrev armLead : Nat := 1536

/-- PG_COMMIT_TIME. -/
def State.commitTime (s : State) (page : Nat) : Nat := s.pair (Reg.PG_COMMIT_TIME_L page) (Reg.PG_COMMIT_TIME_H page)

def State.stageCommit (s : State) (page : Nat) : State :=
  if s.pageArmed page ∨ (s.groupOf page).isSome then s.pgErr page 0
  else s.setPage page { s.page page with armed := .now }

def State.stageArm (s : State) (page : Nat) : State :=
  if s.pageArmed page ∨ (s.groupOf page).isSome then s.pgErr page 0
  else if s.ahead (s.commitTime page) armLead then
    s.setPage page { s.page page with armed := .timed (s.commitTime page) }
  else s.pgErrCode page 1 Code.rejectLate

def State.stageDisarm (s : State) (page : Nat) : State :=
  match (s.page page).armed with
  | .timed t => if s.ahead t armLead then s.setPage page { s.page page with armed := .no } else s
  | _ => s

def State.stageDiscard (s : State) (page : Nat) : State :=
  if s.pageArmed page then s.pgErr page 0 else s.discard page

/-- The page of a channel. -/
abbrev dmaPage (c : Nat) : Nat := 0x80 + c

/-- The PF reaches a channel's page: the channel is its own or nobody's (R290). -/
def State.chanOfPf (s : State) (c : Nat) : Bool := (s.chan c).owner == 0

/-- The page is that of another tenant's channel: the PF may not reach it (R290). -/
def State.foreignChan (s : State) (page : Nat) : Bool :=
  decide (0x80 ≤ page ∧ page < 0xA0) && !s.chanOfPf (page - 0x80)

/-- A page access to another tenant's channel (R290). -/
def State.chanRefused (s : State) (c : Nat) : State := s.setFld (Reg.PG_ERR_INFO (dmaPage c)) 0 8 Code.rejectQuota

/-- A write of PG_STAGE: two command bits at once are refused (R385). -/
def State.writeStage (s : State) (page v : Nat) : State :=
  if s.foreignChan page then s.chanRefused (page - 0x80)
  else if 2 ≤ setCount v [0, 1, 2, 3] then s.cmdRefused page
  else if bitAt v 0 then s.stageCommit page
  else if bitAt v 1 then s.stageArm page
  else if bitAt v 2 then s.stageDisarm page
  else if bitAt v 3 then s.stageDiscard page
  else s

/-! ### CFG_GCTRL, CFG_GADD, CFG_GREMOVE (R21, R22) -/

/-- The group CFG_GSEL names. -/
def State.gsel (s : State) : Nat := s.fld Reg.CFG_GSEL 0 4

/-- A page with staged registers may join a group (PG_CAPS.GROUPABLE, log entry 13). -/
def groupable (page : Nat) : Bool :=
  match blockOf page with
  | none => false
  | some (b, inst) =>
    (listing b inst 0x40).1.any (fun r => decide (r.rws ≠ 0)) ||
    match b with
    | .slv => true
    | .pio => true
    | .fbk => true
    | _ => false

def State.groupAdd (s : State) (g page : Nat) : State :=
  if s.groupArmed g then s.groupCode g Code.rejectClass
  else if (s.groupOf page).isSome ∨ groupable page = false ∨ 64 ≤ (s.group g).members.length then
    s.groupCode g Code.rejectCapacity
  else (s.setGroup g { s.group g with members := (s.group g).members ++ [page] }).groupCode g Code.ok

def State.groupRemove (s : State) (g page : Nat) : State :=
  if s.groupArmed g ∨ (s.group g).members.contains page = false then s.groupCode g Code.rejectClass
  else (s.setGroup g { s.group g with members := (s.group g).members.filter (· != page) }).groupCode g Code.ok

def State.groupCommitWrite (s : State) (g : Nat) : State :=
  if s.groupArmed g then s.groupRefused g Code.rejectClass
  else if s.groupFits g = false then s.groupTooLarge g
  else s.setGroup g { s.group g with armed := .now }

def State.groupArm (s : State) (g : Nat) : State :=
  let t := s.pair (Reg.CFG_GTIME_L g) (Reg.CFG_GTIME_H g)
  if s.groupArmed g then s.groupRefused g Code.rejectClass
  else if s.ahead t armLead then (s.setGroup g { s.group g with armed := .timed t }).groupCode g Code.ok
  else (s.pgErrCode 4 1 Code.rejectLate).groupRefused g Code.rejectLate

def State.groupDisarm (s : State) (g : Nat) : State :=
  match (s.group g).armed with
  | .timed t =>
    if s.ahead t armLead then (s.setGroup g { s.group g with armed := .no }).groupCode g Code.ok else s
  | _ => s

def State.groupClear (s : State) (g : Nat) : State :=
  if s.groupArmed g then s.groupCode g Code.rejectClass
  else (s.setGroup g { s.group g with members := [] }).groupCode g Code.ok

/-- A write of CFG_GCTRL for the selected group (R385). -/
def State.writeGctrl (s : State) (v : Nat) : State :=
  let g := s.gsel
  if 2 ≤ setCount v [0, 1, 2, 3] then
    if bitAt v 0 ∨ bitAt v 1 then (s.cmdRefused 4).groupRefused g Code.rejectClass
    else (s.cmdRefused 4).groupCode g Code.rejectClass
  else if bitAt v 0 then s.groupCommitWrite g
  else if bitAt v 1 then s.groupArm g
  else if bitAt v 2 then s.groupDisarm g
  else if bitAt v 3 then s.groupClear g
  else s

/-! ### CFG_HS_CTRL (R23, R24, R387) -/

/-- A cuff of a selected sleeve is the target of a timed or guarded queue (R24). -/
def State.hsTargetBusy (s : State) (mask : Nat) : Bool :=
  s.queues.any fun e =>
    (decide (e.2.cls = 1) || decide (e.2.cls = 2)) && decide (e.2.state ≠ 0) &&
    ((decide (e.2.ttype = 1) && bitAt mask (e.2.target / 32)) ||
     (decide (e.2.ttype = 2) && bitAt mask (e.2.target / 16)))

/-- The code that refuses a hold-and-swap ARM, in the order of R24's table. -/
def State.hsCheck (s : State) : Nat :=
  let gs := bitList 16 (s.regN Reg.CFG_HS_GROUPS)
  let hold := s.pair Reg.CFG_HS_HOLD_L Reg.CFG_HS_HOLD_H
  let rel := s.pair Reg.CFG_HS_REL_L Reg.CFG_HS_REL_H
  if gs.any fun g => !s.groupFits g then Code.cfgTooLarge
  else if s.atOrAfter rel (s.plus hold (64 * (gs.length + 1) * 16)) = false then Code.rejectLate
  else if 1048576 * 16 < s.minus rel hold then Code.rejectLate
  else if s.ahead hold armLead = false then Code.rejectLate
  else if s.hsTargetBusy (s.regN Reg.CFG_HS_SLEEVES) then Code.rejectClass
  else if gs.any s.groupArmed then Code.rejectClass
  else Code.ok

def State.hsArm (s : State) : State :=
  if s.hsBusy then (s.setFld Reg.CFG_HS_CTRL 8 8 Code.rejectClass).raise 0x3409
  else
    let code := s.hsCheck
    let s' := s.setFld Reg.CFG_HS_CTRL 8 8 code
    if code = Code.ok then
      { s'.setFld Reg.CFG_HS_CTRL 2 2 1 with
        hs := { groups := bitList 16 (s.regN Reg.CFG_HS_GROUPS), done := 0,
                sleeves := s.regN Reg.CFG_HS_SLEEVES,
                hold := s.pair Reg.CFG_HS_HOLD_L Reg.CFG_HS_HOLD_H,
                rel := s.pair Reg.CFG_HS_REL_L Reg.CFG_HS_REL_H } }
    else (s'.setFld Reg.CFG_HS_CTRL 2 2 3).raise 0x3409

def State.hsCancel (s : State) : State :=
  if s.hsState = 1 ∧ s.reached s.hs.hold = false then
    { s.setFld Reg.CFG_HS_CTRL 2 2 0 with hs := {} }
  else s

/-- A write of CFG_HS_CTRL (R385). -/
def State.writeHsCtrl (s : State) (v : Nat) : State :=
  if 2 ≤ setCount v [0, 1] then s.cmdRefused 4
  else if bitAt v 0 then s.hsArm
  else if bitAt v 1 then s.hsCancel
  else s

end Sys2Proof.Machine
end

