-- ==== Sys2Proof/Machine/PioOps.lean ====
section
/-! DEFINITION. The bit clock and the pins of a programmable I/O engine, and the passing of its bit periods
(R181-R190, R196-R198). -/

namespace Sys2Proof.Machine

open Sys2Proof

/-! ### The bit clock and the pins (R181, R182, R185) -/

/-- PIO_BITP in effect, units of 1/256 crumb. -/
def State.bitp (s : State) (e : Nat) : Nat := max 0x1000 (s.regN (Reg.PIO_BITP e))

/-- The half period, crumbs (R182). -/
def State.halfBit (s : State) (e : Nat) : Nat := s.bitp e / 512

/-- Bit boundary k (R182). -/
def State.boundary (s : State) (e k : Nat) : Nat := s.plus (s.pio e).clk0 (k * s.bitp e / 256)

/-- The number of the first boundary at or after time t. -/
def State.nextBit (s : State) (e t : Nat) : Nat :=
  let b := (s.pio e).clk0
  if s.atOrAfter b t then 0 else (s.minus t b * 256 + s.bitp e - 1) / s.bitp e

/-- The number of whole periods before time t. -/
def State.lastBit (s : State) (e t : Nat) : Nat :=
  let n := s.nextBit e t
  if n ≠ 0 ∧ s.boundary e n ≠ t then n - 1 else n

/-- Cuff of pin i. -/
def State.pin (s : State) (e i : Nat) : Nat := (s.pio e).base + i

/-- PIO_DIR within the pin set. -/
def State.dirOf (s : State) (e i : Nat) : Bool := decide (i < (s.pio e).count) && s.bit (Reg.PIO_DIR e) i

/-- PIO_CFG. -/
def State.pcfg (s : State) (e b : Nat) : Bool := s.bit (Reg.PIO_CFG e) b

/-- The clock pin index. -/
def State.clkPin (s : State) (e : Nat) : Nat := s.fld (Reg.PIO_CFG e) 3 3

/-- Sets a bit of PIO_ERR and raises the engine's error source (R274, log entry 14). -/
def State.pioErr (s : State) (e b : Nat) : State := (s.setBit (Reg.PIO_ERR e) b true).raise (0x3080 + 4 * e + 2)

/-- The pins an engine is lent. -/
def State.pioCuffs (s : State) (e : Nat) : List Nat := (List.range (s.pio e).count).map (s.pin e)

/-- A pin goes to a level at once, where PIO_DIR drives it. -/
def State.drivePin (s : State) (e i : Nat) (l : Bool) : State :=
  if s.dirOf e i then s.driveCuff (s.pin e i) l else s

/-- An edge of time t on a driven pin; the cuff's delay line places it (R186). -/
def State.pinEdge (s : State) (e i t : Nat) (l : Bool) : State :=
  let c := s.pin e i
  if s.dirOf e i then (s.setCuff c { s.cuff c with edges := (s.cuff c).edges ++ [(t, l)] }).settleCuff c else s

/-- The clock pin rests inactive from time t, under a value of PIO_CFG; an edge that a period cut short there had still to
make is dropped (R186). -/
def State.restClock (s : State) (e cfg t : Nat) : State :=
  let i := bits cfg 3 3
  let c := s.pin e i
  if bitAt cfg 2 = false ∨ s.dirOf e i = false then s
  else
    let s := s.setCuff c { s.cuff c with edges := (s.cuff c).edges.filter fun x => !s.atOrAfter x.1 t }
    s.pinEdge e i t (bitAt cfg 6)

/-- The limits of R182 hold: an engine that drives no pin may use any period. -/
def State.bitpFits (s : State) (e : Nat) : Bool :=
  let k := s.pio e
  let m := s.minPulse k.base * 256
  !(List.range k.count).any (s.dirOf e) || decide ((if s.pcfg e 2 then 2 * m else m) ≤ s.bitp e)

/-! ### Records (R193) -/

/-- A record of an engine in its log queue. -/
def State.pioLog (s : State) (e time status pc cause count data : Nat) : State :=
  s.logRecord (s.fld (Reg.PIO_LOGQ e) 0 20) (time % 2 ^ 60 + status * 2 ^ 64 + e * 2 ^ 72 + pc * 2 ^ 80 + cause * 2 ^ 85
    + count * 2 ^ 88 + data * 2 ^ 96)

/-- A stall or late record, where LOGEN is set. -/
def State.pioNote (s : State) (e time status cause count : Nat) : State :=
  if s.pcfg e 9 then s.pioLog e time status (s.pio e).pc cause count 0 else s

/-- A LOAD or STORE stalls (R194), or a PINW meets its limit (R189): the stall registers and the record. -/
def State.noteStall (s : State) (e cause t : Nat) : State :=
  let s := s.setPair (Reg.PIO_STALL_L e) (Reg.PIO_STALL_H e) t
  let s := (s.setFld (Reg.PIO_STALL_INFO e) 0 7 (cause + (s.pio e).pc * 4)).incWrap (Reg.PIO_STALL_INFO e) 16 16
  (s.raise (0x3080 + 4 * e)).pioNote e t Code.pioStall cause 0

/-! ### The program counter (R184) -/

/-- The instruction at an address. -/
def State.imem (s : State) (e a : Nat) : Nat := s.fld (Reg.PIO_IMEM e a) 0 16

/-- The word after the one at `pc`, and LEFT; none when the program ends (R184). -/
def State.nextPc (s : State) (e pc left : Nat) : Option (Nat × Nat) :=
  let r := Reg.PIO_LOOP e
  let first := s.fld r 0 5
  let last := s.fld r 8 5
  if pc = last then
    if s.fld r 16 16 = 0 then some (first, 0)
    else if 1 < left then some (first, left - 1)
    else if last = 31 then none else some (last + 1, 0)
  else if pc = 31 then none else some (pc + 1, left)

/-- The time base as the engine's clock sees it: that of the freeze, where it is frozen (R198). -/
def State.pioNow (s : State) (e : Nat) : Nat := (s.pio e).thawFrom.getD s.tb.now

/-- STOP: the engine halts at once, an instruction in progress is cut short, and the pins hold their levels (R195). An edge
whose time has come is still placed where CUF_SKEW delays it (R63). -/
def State.stopPio (s : State) (e : Nat) : State :=
  let now := s.pioNow e
  let s := (s.pioCuffs e).foldl (fun s c =>
    s.setCuff c { s.cuff c with edges := (s.cuff c).edges.filter fun x => s.atOrAfter now x.1 }) s
  s.setPio e { s.pio e with st := 0, busy := false, todo := 0, rest := 0, skip := false, samples := [], atMet := false,
                            needAt := none, fed := false, thawFrom := none }

/-- The program ends (R184). -/
def State.endPio (s : State) (e : Nat) : State :=
  let left := if (s.pio e).pc = s.fld (Reg.PIO_LOOP e) 8 5 then 0 else (s.pio e).left
  let s := s.stopPio e
  (s.setPio e { s.pio e with pc := 0, left := left, ended := true }).raise (0x3080 + 4 * e + 3)

/-- PC goes on from the instruction that has ended. -/
def State.goOn (s : State) (e : Nat) : State :=
  match s.nextPc e (s.pio e).pc (s.pio e).left with
  | none => s.endPio e
  | some (pc, left) => s.setPio e { s.pio e with pc := pc, left := left }

/-- The instruction in progress has ended; CMP may skip the one after it, which takes no time (R184, R190). -/
def State.endInsn (s : State) (e : Nat) : State :=
  let skip := (s.pio e).skip
  let s := (s.setPio e { s.pio e with busy := false, skip := false }).goOn e
  if skip ∧ (s.pio e).st = 1 then s.goOn e else s

/-! ### Bit periods (R184, R186) -/

/-- The bit TXSR shows next, and TXSR after the shift, under TXMSB and TXRECIRC (R186). -/
def shiftOne (cfg sr : Nat) : Bool × Nat :=
  let b := if bitAt cfg 0 then bitAt sr 31 else bitAt sr 0
  let back := b2n (bitAt cfg 10 && b)
  (b, if bitAt cfg 0 then sr * 2 % 2 ^ 32 + back else sr / 2 + back * 2 ^ 31)

/-- RXSR with a sampled bit shifted in, under RXMSB (R186). -/
def shiftIn (msb b : Bool) (sr : Nat) : Nat := if msb then (sr * 2 + b2n b) % 2 ^ 32 else sr / 2 + b2n b * 2 ^ 31

/-- A period of XMIT or SAMP from boundary `bit`: its bit goes out there or is sampled later, and the clock pin goes active
at half period (R186). -/
def State.bitPeriod (s : State) (e : Nat) : State :=
  let k := s.pio e
  let t := s.boundary e k.bit
  let half := s.plus t (s.halfBit e)
  let clk := bits k.cfg 3 3
  let k1 := { k with todo := k.todo - 1, bit := k.bit + 1 }
  let s := if bits k.insn 0 3 = 2 then
      let r := shiftOne k.cfg k.txsr
      (s.setPio e { k1 with txsr := r.2, txcnt := if bitAt k.cfg 10 then 32 else k.txcnt - 1 }).pinEdge e (bits k.insn 13 3) t r.1
    else s.setPio e { k1 with levels := k.levels / 2,
                              samples := k.samples ++ [(s.plus half k.smp, bitAt k.levels 0, bitAt k.cfg 1)] }
  if bitAt k.cfg 2 then s.pinEdge e clk half !bitAt k.cfg 6 else s

/-- Boundary `bit` passes for the instruction in progress: its next bit, its next HOLD period, or its end. -/
def State.period (s : State) (e : Nat) : State :=
  let k := s.pio e
  let s := s.restClock e k.cfg (s.boundary e k.bit)
  if k.todo ≠ 0 then s.bitPeriod e
  else if k.rest ≠ 0 then s.setPio e { k with rest := k.rest - 1, bit := k.bit + 1 }
  else s.endInsn e

/-- Every period of the instruction in progress whose boundary has come; no more than `n`. -/
def State.periods (s : State) (e : Nat) : Nat → State
  | 0 => s
  | n + 1 => if (s.pio e).busy ∧ s.reached (s.boundary e (s.pio e).bit) then (s.period e).periods e n else s

/-- The samples whose time has come enter RXSR (R186). -/
def State.takeSamples (s : State) (e : Nat) : State :=
  let k := s.pio e
  let due := k.samples.filter fun x => s.reached x.1
  s.setPio e (due.foldl (fun k x => { k with rxsr := shiftIn x.2.2 x.2.1 k.rxsr, rxcnt := min 32 (k.rxcnt + 1),
                                             lastSample := some x.1 })
    { k with samples := k.samples.filter fun x => !s.reached x.1 })

/-- A LOAD that found no word on its tick stalls from that tick (R194, R198). -/
def State.stallLoad (s : State) (e : Nat) : State :=
  match (s.pio e).needAt with
  | none => s
  | some t => (s.setPio e { s.pio e with st := 4, needAt := none }).noteStall e 0 t

/-- What a tick brings an engine. A period is one tick at least, so no more than two boundaries pass on one. -/
def State.pioTick (s : State) (e : Nat) : State := ((s.stallLoad e).periods e 2).takeSamples e

/-- The tick of every engine that has something to do. -/
def State.tickEngines (s : State) : State :=
  ((s.pios.filter fun x => x.2.busy || !x.2.samples.isEmpty || x.2.needAt.isSome).map (·.1)).foldl State.pioTick s

/-! ### The clock restarts (R182, R196, R197) -/

/-- The bit clock restarts at a time (R182). -/
def State.reclock (s : State) (e t : Nat) : State := s.setPio e { s.pio e with clk0 := t, bit := 0 }

/-- The bit clock goes on from time `t`, its former boundary `n` now boundary 0; the periods a PINW has waited are kept. -/
def State.rebase (s : State) (e t n : Nat) : State :=
  let k := s.pio e
  s.setPio e { k with clk0 := t, bit := k.bit - n, waited := k.waited + (n - k.waitFrom), waitFrom := 0 }

end Sys2Proof.Machine
end

