-- ==== Sys2Proof/Machine/TimeBase.lean ====
section
/-! DEFINITION. The time base: its tick, trim and slew, loads, global start, and the loss of the
reference (R25-R45). -/

namespace Sys2Proof.Machine

open Sys2Proof

/-! ### Validity and coarseness -/

/-- The TIME source of every function (R273): VALID or COARSE has changed. -/
def State.raiseTime (s : State) : State := s.raiseAll ((List.range 512).map fun n => 24 * n + 20)

/-- ENS_STATUS.TVALID (R229): a member or the leader, its offset measured and inside the tolerance, with a valid and
exact time base. -/
def State.tvalidNow (s : State) : Bool :=
  let st := s.fld Reg.ENS_STATUS 0 3
  (decide (st = 3) || (decide (st = 2) && s.ens.measured))
    && decide (s.ens.offset.natAbs ≤ s.fld Reg.ENS_TOL 0 16) && s.tbValid && !s.coarse

/-- TVALID follows its conditions; a change raises 0x3421 (R274). -/
def State.updTvalid (s : State) : State :=
  let b := s.tvalidNow
  if s.bit Reg.ENS_STATUS 3 = b then s else (s.setBit Reg.ENS_STATUS 3 b).raise 0x3421

/-- Sets TB_STATUS.VALID. -/
def State.setValid (s : State) (b : Bool) : State :=
  if s.tbValid = b then s else ((s.setBit Reg.TB_STATUS 0 b).raiseTime).updTvalid

/-- Sets TB_STATUS.COARSE; clearing it raises source 0x3403 (R274). -/
def State.setCoarse (s : State) (b : Bool) : State :=
  if s.coarse = b then s
  else
    let s := ((s.setBit Reg.TB_STATUS 2 b).raiseTime).updTvalid
    if b then s else s.raise 0x3403

/-! ### Offsets at a reload (R29) -/

/-- The cuff whose register a key is. -/
def cuffOfKey (k : Nat) : Option (Nat × Nat) :=
  let p := pageOf k
  let o := k % 0x1000
  if 0x10 ≤ p ∧ p < 0x30 ∧ 0x400 ≤ o then some ((p - 0x10) * 32 + (o - 0x400) / 0x60, (o - 0x400) % 0x60)
  else none

/-- The cuffs that have a period in effect or staged. -/
def State.periodCuffs (s : State) : List Nat :=
  ((Tbl.keys s.regs ++ Tbl.keys s.shadow).filterMap fun k =>
    match cuffOfKey k with
    | some (c, o) => if o = 0x08 ∨ o = 0x0C then some c else none
    | none => none).eraseDups

/-- The stagger groups that have a period in effect or staged. -/
def State.periodGroups (s : State) : List Nat :=
  (List.range 64).filter fun g =>
    let l := Reg.TB_SG_PERIOD_L g
    let h := Reg.TB_SG_PERIOD_H g
    decide (s.pair l h ≠ 0) || decide ((s.staged l).toNat ≠ 0) || decide ((s.staged h).toNat ≠ 0)

/-- The staged value of a split register pair. -/
def State.stagedPair (s : State) (l h : Nat) : Nat := (s.staged h).toNat * 2 ^ 32 + (s.staged l).toNat

/-- Reduces an offset by (M mod P), modulo M; P = 0 leaves it. -/
def State.reduceOff (s : State) (off p : Nat) : Nat := if p = 0 then off else s.minus off (s.circle % p)

/-- Sets a split value in effect and its staged value apart. -/
def State.setPairs (s : State) (l h eff st : Nat) : State :=
  (((s.setN l (eff % 2 ^ 32)).setStaged l (word (st % 2 ^ 32))).setN h (eff / 2 ^ 32)).setStaged h (word (st / 2 ^ 32))

/-- Reduces one offset register pair, in effect and staged, each by its own period (R29). Where the staged period differs
from the one in effect, a clean offset becomes dirty: "each with its own P" is kept (log entry 27). -/
def State.reducePair (s : State) (pl ph ol oh : Nat) : State :=
  let e := s.pair ol oh
  let t := s.stagedPair ol oh
  s.setPairs ol oh (s.reduceOff e (s.pair pl ph)) (s.reduceOff t (s.stagedPair pl ph))

/-- Every offset is reduced at a reload, and PG_SEQ counts on each page it changes (R29). -/
def State.reduceOffsets (s : State) : State :=
  let old := s
  let s := s.periodCuffs.foldl (fun s c =>
    s.reducePair (Reg.CUF_PER_L c) (Reg.CUF_PER_H c) (Reg.CUF_PER_OFF_L c) (Reg.CUF_PER_OFF_H c)) s
  let s := s.periodGroups.foldl (fun s g =>
    s.reducePair (Reg.TB_SG_PERIOD_L g) (Reg.TB_SG_PERIOD_H g) (Reg.TB_SG_BASE_L g) (Reg.TB_SG_BASE_H g)) s
  let changed (k : Nat) : Bool := old.reg k != s.reg k
  let pages := ((old.periodCuffs.filter fun c => changed (Reg.CUF_PER_OFF_L c) || changed (Reg.CUF_PER_OFF_H c)).map
      fun c => 0x10 + c / 32) ++
    (if old.periodGroups.any fun g => changed (Reg.TB_SG_BASE_L g) || changed (Reg.TB_SG_BASE_H g) then [3] else [])
  pages.eraseDups.foldl (fun s p => s.incWrap (Reg.PG_SEQ p) 0 32) s

/-! ### The advance -/

/-- Advances the count by some crumbs; past TB_RELOAD it goes on from 0, the epoch counts and the
offsets are reduced (R25, R29). -/
def State.advance (s : State) (d : Nat) : State :=
  let n := s.tb.now + d
  if n < s.circle then { s with tb := { s.tb with now := n } }
  else
    let e := (s.tb.epoch + 1) % 2 ^ 20
    let s := { s with tb := { s.tb with now := n % s.circle, epoch := e } }
    let s := if e = 0 then (s.setBit Reg.TB_STATUS 4 true).raise 0x3402 else s
    s.reduceOffsets

/-- TB_TRIM as a signed number (R33). -/
def State.trim (s : State) : Int := signed 28 (s.fld Reg.TB_TRIM 0 28)

/-- TB_STEP_REM as a signed number (R34). -/
def State.stepRem (s : State) : Int := signed 32 (s.regN Reg.TB_STEP_REM)

def State.setStepRem (s : State) (v : Int) : State := s.setN Reg.TB_STEP_REM (unsigned 32 v)

/-- The accumulator after `n` crumbs of time, and the whole crumb it gives up (R33). -/
def State.trimStep (s : State) (n : Nat) : Int × Int :=
  let a := s.tb.trimAcc + n * s.trim
  if (2 ^ 40 : Int) ≤ a then (a - 2 ^ 40, 1) else if a ≤ -(2 ^ 40 : Int) then (a + 2 ^ 40, -1) else (a, 0)

/-- TB_SLEW.DIV, at least 16 (R34). -/
def State.slewDiv (s : State) : Nat := max 16 (s.fld Reg.TB_SLEW 0 16)

/-- The slewed crumb of the coming tick (R34). -/
def State.slewStep (s : State) : Int :=
  if s.stepRem = 0 then 0
  else if s.slewDiv ≤ s.tb.slewTicks + 1 then (if 0 < s.stepRem then 1 else -1) else 0

/-- The crumbs the coming tick owes, the one carried from the tick before included (R28). -/
def State.owed (s : State) : Int := s.tb.carry + (s.trimStep 16).2 + s.slewStep

/-- At most one crumb is applied on a tick (R28). -/
def clampCrumb (d : Int) : Int := if 0 < d then 1 else if d < 0 then -1 else 0

/-- The crumbs by which the coming tick advances: 15, 16 or 17 (R25, R28). -/
def State.tickCrumbs (s : State) : Nat := (16 + clampCrumb s.owed).toNat

/-- The PLL tick drives the time base: it has started and is not coarse (R25, R41, R45). -/
def State.ticking (s : State) : Bool := s.tb.running && !s.coarse

/-- The step remainder moves by one slewed crumb; at 0 TB_SLEW_DONE is raised (R34). -/
def State.slewed (s : State) (d : Int) : State :=
  if d = 0 then s
  else
    let r := s.stepRem - d
    let s := s.setStepRem r
    if r = 0 then s.raise 0x3400 else s

/-- One tick of the tick clock (R25): the time base advances, bit periods pass and due edges are made. In HALT the
tick clock runs and the time base waits for the reference (R41); in DOZE, before the first lock and
in OFF there is no tick. -/
def State.tbTick (s : State) : State :=
  if s.tb.running = false ∨ s.mode = Mode.doze ∨ s.mode = Mode.off then s
  else if s.coarse then { s with tick := s.tick + 1 }
  else
    let d := s.tickCrumbs
    let sl := s.slewStep
    let t := s.trimStep 16
    let ticks := if s.stepRem = 0 ∨ sl ≠ 0 then 0 else s.tb.slewTicks + 1
    let tb := { s.tb with trimAcc := t.1, carry := s.owed - clampCrumb s.owed, slewTicks := ticks }
    let s := { s.settleLegs with tick := s.tick + 1, tb := tb }
    ((s.slewed sl).advance d).tickEngines.tickPorts.settleCuffs

/-- TIME_BASE_RELOAD (R25): the tick that carries the count past TB_RELOAD. -/
def execTimeBaseReload (s : State) : Host.Outcome State Fault Refusal :=
  .next (if s.ticking ∧ s.circle ≤ s.tb.now + s.tickCrumbs then s.tbTick else s)

/-- TRIM_CRUMB (R33): the tick on which the accumulator passes a whole crumb. -/
def execTrimCrumb (s : State) : Host.Outcome State Fault Refusal :=
  .next (if s.ticking ∧ (s.trimStep 16).2 ≠ 0 then s.tbTick else s)

/-- SLEW_CRUMB (R34): the tick on which a slewed crumb is applied. -/
def execSlewCrumb (s : State) : Host.Outcome State Fault Refusal :=
  .next (if s.ticking ∧ s.slewStep ≠ 0 then s.tbTick else s)

/-- A rising edge of the reference in DOZE or HALT advances the coarse time base by 960 crumbs plus
any trim crumb due (R41). -/
def State.coarseEdge (s : State) : State :=
  let t := s.trimStep 960
  ({ s with tb := { s.tb with trimAcc := t.1 } }.advance (960 + t.2).toNat)

/-- REFERENCE_EDGE (R41). -/
def execReferenceEdge (s : State) : Host.Outcome State Fault Refusal :=
  .next (if s.coarse ∧ s.pwr.refOk ∧ s.tb.running then s.coarseEdge else s)

/-! ### Commands of the TB page -/

/-- TB_CTRL.DISC is not host (R32). -/
def State.hostLocked (s : State) : Bool := decide (s.fld Reg.TB_CTRL 0 2 ≠ 0)

/-- TB_CTRL.SNAP (R31). -/
def State.tbSnap (s : State) : State :=
  (s.setPair Reg.TB_SNAP_L Reg.TB_SNAP_H s.tb.now).setN Reg.TB_SNAP_EPOCH s.tb.epoch

/-- TB_CTRL.LOAD (R32, R35). A load that clears a remainder raises no TB_SLEW_DONE: R34 names the remainder's reaching 0 by
slewing (log entry 27). -/
def State.tbLoad (s : State) : State :=
  let v := s.pair Reg.TB_LOAD_L Reg.TB_LOAD_H
  if s.hostLocked then s.pgErr 3 18
  else if (s.mode ≠ Mode.provision ∧ s.tbValid) ∨ s.circle ≤ v then s.pgErrCode 3 16 Code.rejectClass
  else { s.setN Reg.TB_STEP_REM 0 with tb := { s.tb with now := v, slewTicks := 0 } }

/-- TB_CTRL.VALIDATE (R35, R44). -/
def State.tbValidate (s : State) : State :=
  if s.pwr.refOk ∧ s.pwr.locked ∧ s.bit Reg.TB_STATUS 1 = false then s.setValid true else s

/-- A write of TB_CTRL: DISC takes its new value, then SNAP, LOAD and VALIDATE act in that order
(R385). -/
def State.writeTbCtrl (s : State) (v : Nat) : State :=
  let s := s.setFld Reg.TB_CTRL 0 2 (bits v 0 2)
  let s := if bitAt v 2 then s.tbSnap else s
  let s := if bitAt v 3 then s.tbLoad else s
  if bitAt v 4 then s.tbValidate else s

/-- TB_CTRL_SNAP (R31). -/
def execTbCtrlSnap (value : Nat) (s : State) : Host.Outcome State Fault Refusal :=
  .next (s.pf 3 0x50 (Nat.lor value 4) (fun s => s.writeTbCtrl (Nat.lor value 4)))

/-- TB_CTRL_LOAD (R35). -/
def execTbCtrlLoad (value : Nat) (s : State) : Host.Outcome State Fault Refusal :=
  .next (s.pf 3 0x50 (Nat.lor value 8) (fun s => s.writeTbCtrl (Nat.lor value 8)))

/-- TB_CTRL_VALIDATE (R35). -/
def execTbCtrlValidate (value : Nat) (s : State) : Host.Outcome State Fault Refusal :=
  .next (s.pf 3 0x50 (Nat.lor value 16) (fun s => s.writeTbCtrl (Nat.lor value 16)))

/-- A write of TB_RELOAD_H (R26). -/
def State.writeReload (s : State) (view v : Nat) : State :=
  let h := viewWrite view (s.regN Reg.TB_RELOAD_H) v % 2 ^ 28
  let n := (h * 2 ^ 32 + s.tb.relL) / 16 * 16 + 15
  if 3 ≤ view then s
  else if s.mode ≠ Mode.provision ∨ n < 2 ^ 40 - 1 ∨ n ≤ s.tb.now then s.pgErr 3 19
  else s.setPair Reg.TB_RELOAD_L Reg.TB_RELOAD_H n

/-- TB_RELOAD_WRITE (R26). -/
def execTbReloadWrite (view value : Nat) (s : State) : Host.Outcome State Fault Refusal :=
  onUnit (decide (view < 4)) (s.pf 3 (view * 0x1000 + 0x58) value (fun s => s.writeReload view value))

/-- A write of TB_TRIM (R32, R33). -/
def State.writeTrim (s : State) (view v : Nat) : State :=
  if s.hostLocked then s.pgErr 3 18
  else s.setN Reg.TB_TRIM (viewWrite view (s.regN Reg.TB_TRIM) v % 2 ^ 28)

/-- TB_TRIM_WRITE (R33). -/
def execTbTrimWrite (view value : Nat) (s : State) : Host.Outcome State Fault Refusal :=
  onUnit (decide (view < 4)) (s.pf 3 (view * 0x1000 + 0x5C) value (fun s => s.writeTrim view value))

/-- A write of TB_STEP (R32, R34). -/
def State.writeStep (s : State) (v : Nat) : State :=
  let r := s.stepRem + signed 32 v
  if s.hostLocked then s.pgErr 3 18
  else if r < -(2 ^ 31 : Int) ∨ (2 ^ 31 : Int) ≤ r then s.pgErr 3 17
  else
    let was := s.stepRem
    let s := s.setStepRem r
    if was = 0 then { s with tb := { s.tb with slewTicks := 0 } }
    else if r = 0 then s.raise 0x3400 else s

/-- TB_STEP_WRITE (R34). -/
def execTbStepWrite (value : Nat) (s : State) : Host.Outcome State Fault Refusal :=
  .next (s.pf 3 0x60 value (fun s => s.writeStep (value % 2 ^ 32)))

/-! ### Global start (R39, R40) -/

/-- TB_GCTRL.STATE: 0 idle, 1 armed, 2 released, 3 refused. -/
def State.gstate (s : State) : Nat := s.fld Reg.TB_GCTRL 4 2

/-- TB_GCTRL.ARM (R39): while armed it is ignored without an error, and a GO while armed releases the cuffs and ends the
arm (log entry 27). -/
def State.globalArm (s : State) : State :=
  let t := s.pair Reg.TB_GSTART_L Reg.TB_GSTART_H
  if s.gstate = 1 then s
  else if s.ahead t armLead then
    { s.setFld Reg.TB_GCTRL 4 2 1 with tb := { s.tb with goAt := some t } }
  else (s.pgErrCode 3 20 Code.rejectLate).setFld Reg.TB_GCTRL 4 2 3

def State.globalDisarm (s : State) : State :=
  match s.tb.goAt with
  | some t =>
    if s.gstate = 1 ∧ s.ahead t armLead then
      { s.setFld Reg.TB_GCTRL 4 2 0 with tb := { s.tb with goAt := none } }
    else s
  | none => s

/-- A write of TB_GCTRL (R39, R385). -/
def State.writeTbGctrl (s : State) (v : Nat) : State :=
  if 2 ≤ setCount v [0, 1, 2] then s.cmdRefused 3
  else if bitAt v 0 then { s with tb := { s.tb with goPending := true } }
  else if bitAt v 1 then s.globalArm
  else if bitAt v 2 then s.globalDisarm
  else s

/-- TB_GCTRL_GO (R39). -/
def execTbGctrlGo (value : Nat) (s : State) : Host.Outcome State Fault Refusal :=
  .next (s.pf 3 0x80 (Nat.lor value 1) (fun s => s.writeTbGctrl (Nat.lor value 1)))

/-- TB_GCTRL_ARM (R39). -/
def execTbGctrlArm (value : Nat) (s : State) : Host.Outcome State Fault Refusal :=
  .next (s.pf 3 0x80 (Nat.lor value 2) (fun s => s.writeTbGctrl (Nat.lor value 2)))

/-- TB_GCTRL_DISARM (R39). -/
def execTbGctrlDisarm (value : Nat) (s : State) : Host.Outcome State Fault Refusal :=
  .next (s.pf 3 0x80 (Nat.lor value 4) (fun s => s.writeTbGctrl (Nat.lor value 4)))

/-- The cuffs the global masks select. -/
def State.globalMask (s : State) : List Nat :=
  (List.range 32).flatMap fun n => (bitList 32 (s.regN (Reg.TB_GMASK n))).map fun j => n * 32 + j

/-- A selected cuff may be released: periodic and no stagger-group member (R40). -/
def State.releasable (s : State) (c : Nat) : Bool :=
  decide (s.cuffMode c = 1) && !s.bit (Reg.CUF_PER_CTRL c) 6

/-- A periodic cuff starts its pattern at phase 0, which falls at time `t` (R54): the limits are judged, and leg A of a pair
moves the pair. -/
def State.startPeriod (s : State) (c t : Nat) : State :=
  if s.perActive c = false then s
  else if s.perFits c = false then
    (s.setCuff c { s.cuff c with perRun := false }).cufErr c 4
  else
    let s := s.setCuff c { s.cuff c with perRun := true }
    if s.pairEn (c / 2) ∧ c % 2 = 0 then s.pairTo (c / 2) 1 t else s.driveCuff c (s.activeLevel c) t

/-- A released cuff takes the release tick as its offset, in effect and in the shadow (R39). A cuff whose CUF_SKEW
delays its edges starts that much later (R63); an action at the head that the edge comes too close to waits (R52). -/
def State.releaseCuff (s : State) (c : Nat) : State :=
  let s := s.setPairs (Reg.CUF_PER_OFF_L c) (Reg.CUF_PER_OFF_H c) s.tb.now s.tb.now
  let s := s.setBoth (Reg.CUF_PER_CTRL c) 7 1 0
  if 0 < s.lag c then s else (s.startPeriod c (s.shifted s.tb.now (-(s.lag c)))).respace c

/-- The release of every selected cuff on one tick (R39, R40). -/
def State.globalRelease (s : State) : State :=
  let sel := s.globalMask
  let go := sel.filter s.releasable
  let s := go.foldl State.releaseCuff s
  let s := s.setN Reg.TB_GSTAT (go.length + (sel.length - go.length) * 2 ^ 16)
  { s.setFld Reg.TB_GCTRL 4 2 2 with tb := { s.tb with goPending := false, goAt := none } }

/-- A GO is pending or the armed start time has come. -/
def State.globalDue (s : State) : Bool :=
  s.tb.goPending || (decide (s.gstate = 1) && match s.tb.goAt with | some t => s.reached t | none => false)

/-- GLOBAL_START (R39). -/
def execGlobalStart (s : State) : Host.Outcome State Fault Refusal :=
  .next (if s.globalDue then s.globalRelease else s)

/-! ### The reference (R43, R44) -/

/-- REFERENCE_LOST (R43). In OFF nothing watches the reference. -/
def execReferenceLost (s : State) : Host.Outcome State Fault Refusal :=
  .next (if s.pwr.refOk then
    let s := { s with pwr := { s.pwr with refOk := false } }
    if s.mode = Mode.off then s else
    let s := s.incSat Reg.CLK_REFLOSS_CNT 0 32
    ((s.setBit Reg.TB_STATUS 1 true).setValid false).raise 0x3401
  else s)

/-- REFERENCE_RETURN (R44): edges return and the PLL starts to relock. -/
def execReferenceReturn (s : State) : Host.Outcome State Fault Refusal :=
  .next (if s.pwr.refOk then s else { s with pwr := { s.pwr with refOk := true, locked := false } })

end Sys2Proof.Machine
end

