-- ==== Sys2Proof/Machine/Cuffs.lean ====
section
/-! DEFINITION. The meanings of the actions at cuffs and pairs (R47-R76), of capture, calibration
and guard inputs. -/

namespace Sys2Proof.Machine

open Sys2Proof

/-! ### Output actions (R51, R52, R55) -/

/-- CUF_CFG.MODE in effect and in the shadow (R55). -/
def State.setMode (s : State) (c m : Nat) : State := s.setBoth (Reg.CUF_CFG c) 0 2 m

/-- Any output operation ends periodic mode (R55). -/
def State.endPeriodic (s : State) (c : Nat) : State :=
  if s.cuffMode c = 1 then (s.setMode c 0).setCuff c { s.cuff c with perRun := false } else s

/-- What the cuff remembers of an action for the spacing of the next one: its start and the end of
its occupancy (R52). -/
def State.occupy (s : State) (c start stop : Nat) (edge : Bool) : State :=
  let k := s.cuff c
  s.setCuff c { k with lastT := some start, busyTo := if start = stop then k.busyTo else some stop,
                       lastEdge := if edge then some stop else k.lastEdge }

/-- An output action with one edge at its time. -/
def State.drivenAct (s : State) (f : Flight) (l : Bool) : State :=
  let c := f.target
  let s := s.endPeriodic c
  let k := s.cuff c
  let moved := !k.driven || (k.level != l)
  ((s.driveCuff c l f.due).occupy c f.due f.due moved).finish f

/-- The least distance a cuff keeps between the edges of a plain or guarded action: the minimum output pulse; an edge that
would come sooner is deferred (R52). -/
def State.edgeGap (s : State) (f : Flight) : Nat := if s.isTimed f then 0 else s.minPulse f.target

/-- The start and end of pulse `i` of a train of width `w` and spacing `sp`, from the start of the train, no edge coming
sooner than `m` after the one before it (R51, R52). -/
def pulseSpan (w sp m : Nat) : Nat → Nat × Nat
  | 0 => (0, max w m)
  | i + 1 =>
    let r := max ((i + 1) * sp) ((pulseSpan w sp m i).2 + m)
    (r, max ((i + 1) * sp + w) (r + m))

/-- The later edges of a train of pulses that starts at `t`: the end of the first pulse, then each pulse's start and
end. -/
def trainEdges (plus : Nat → Nat → Nat) (active : Bool) (t w sp m : Nat) : Nat → List (Nat × Bool)
  | 0 => [(plus t (pulseSpan w sp m 0).2, !active)]
  | n + 1 => trainEdges plus active t w sp m n ++
      [(plus t (pulseSpan w sp m (n + 1)).1, active), (plus t (pulseSpan w sp m (n + 1)).2, !active)]

/-- PULSE and TRAIN: the first edge at the action's time, the others when their times come. -/
def State.pulseAct (s : State) (f : Flight) (n : Nat) : State :=
  let c := f.target
  let m := s.edgeGap f
  let s := s.endPeriodic c
  let s := s.driveCuff c (s.activeLevel c) f.due
  let es := trainEdges s.plus (s.activeLevel c) f.due f.act.width f.act.spacing m n
  let s := s.setCuff c { s.cuff c with edges := es }
  let stop := (pulseSpan f.act.width f.act.spacing m n).2
  (((s.occupy c f.due (s.plus f.due stop) true).settleCuff c).finish f)

/-- SET_HIGH (R51). -/
def State.actSetHigh (s : State) (c : Nat) : State :=
  match s.headReady 1 c 0x01 with
  | some f => s.drivenAct f true
  | none => s

def execSetHigh (cuff : Nat) (s : State) : Host.Outcome State Fault Refusal := onUnit (okCuff cuff) (s.actSetHigh cuff)

/-- SET_LOW (R51). -/
def State.actSetLow (s : State) (c : Nat) : State :=
  match s.headReady 1 c 0x02 with
  | some f => s.drivenAct f false
  | none => s

def execSetLow (cuff : Nat) (s : State) : Host.Outcome State Fault Refusal := onUnit (okCuff cuff) (s.actSetLow cuff)

/-- TOGGLE (R51): from high-impedance the cuff drives active. -/
def State.actToggle (s : State) (c : Nat) : State :=
  match s.headReady 1 c 0x03 with
  | some f => s.drivenAct f (if (s.cuff c).driven then !(s.cuff c).level else s.activeLevel c)
  | none => s

def execToggle (cuff : Nat) (s : State) : Host.Outcome State Fault Refusal := onUnit (okCuff cuff) (s.actToggle cuff)

/-- HIZ (R51): the output stage turns off. -/
def State.actHiz (s : State) (c : Nat) : State :=
  match s.headReady 1 c 0x04 with
  | some f => (((s.endPeriodic c).floatCuff c f.due).occupy c f.due f.due (s.cuff c).driven).finish f
  | none => s

def execHiz (cuff : Nat) (s : State) : Host.Outcome State Fault Refusal := onUnit (okCuff cuff) (s.actHiz cuff)

/-- PULSE (R51). -/
def State.actPulse (s : State) (c : Nat) : State :=
  match s.headReady 1 c 0x05 with
  | some f => s.pulseAct f 0
  | none => s

def execPulse (cuff : Nat) (s : State) : Host.Outcome State Fault Refusal := onUnit (okCuff cuff) (s.actPulse cuff)

/-- TRAIN (R51). -/
def State.actTrain (s : State) (c : Nat) : State :=
  match s.headReady 1 c 0x06 with
  | some f => s.pulseAct f (f.act.count - 1)
  | none => s

def execTrain (cuff : Nat) (s : State) : Host.Outcome State Fault Refusal := onUnit (okCuff cuff) (s.actTrain cuff)

/-! ### PERIOD and PERIODIC_PHASE (R54, R55, R64) -/

/-- The periodic settings a PERIOD sets, in effect and in the shadow (R55). -/
def State.setPeriod (s : State) (c : Nat) (f : Flight) : State :=
  let p := bits f.act.arg 0 24 * scaleOf f.act.sub
  let w := bits f.act.arg 24 24 * scaleOf f.act.sub
  let s := s.setPairs (Reg.CUF_PER_L c) (Reg.CUF_PER_H c) p p
  let s := s.setPairs (Reg.CUF_PER_W_L c) (Reg.CUF_PER_W_H c) w w
  (s.setPairs (Reg.CUF_PER_OFF_L c) (Reg.CUF_PER_OFF_H c) f.due f.due).setMode c 1

/-- An action whose TIME has come at a tripped pair is consumed (R71). -/
def State.tripTakes (s : State) (p : Nat) : State := if s.tripped p then s.judgeFifo 2 p else s

/-- PERIOD at a cuff or at leg A of a pair (R55, R64). A cuff in a stagger group waits for its next
phase 0. -/
def State.actPeriod (s : State) (c : Nat) : State :=
  let h := if s.pairEn (c / 2) ∧ c % 2 = 0 then s.headReady 2 (c / 2) 0x07 else s.headReady 1 c 0x07
  match h with
  | some f =>
    let s := (s.setPeriod c f).setCuff c { s.cuff c with perRun := false, edges := [] }
    let s := if s.bit (Reg.CUF_PER_CTRL c) 6 then s else s.startPeriod c f.due
    (s.occupy c f.due f.due true).finish f
  | none => s.tripTakes (c / 2)

def execPeriod (cuff : Nat) (s : State) : Host.Outcome State Fault Refusal := onUnit (okCuff cuff) (s.actPeriod cuff)

/-- The pair state that leg A's phase asks for (R64). -/
def State.pairPhaseState (s : State) (c ph : Nat) : Nat :=
  if ph < (s.perSet c).w then 1
  else if s.bit (Reg.SLV_PAIR_CFG (c / 32) (c / 2 % 16)) 9 then 2 else 0

/-- A periodic cuff runs by its phase: active from phase 0 to phase W, inactive from W to P (R54). An edge taken up on its
tick has the time of its phase; a pattern taken up in between makes its edge now. -/
def State.followPhase (s : State) (c : Nat) : State :=
  let x := s.perSet c
  let ph := s.phase c
  if s.perActive c = false ∨ x.p = 0 then s
  else if s.perFits c = false then
    (s.setCuff c { s.cuff c with perRun := false }).cufErr c 4
  else
    let d := if ph < x.w then ph else ph - x.w
    let now := s.shifted s.tb.now (-(s.lag c))
    let t := if d ≤ 16 then s.minus now d else now
    let s := s.setCuff c { s.cuff c with perRun := true }
    if s.pairEn (c / 2) then
      if (s.pairSt (c / 2)).st = s.pairPhaseState c ph then s else (s.pairTo (c / 2) (s.pairPhaseState c ph) t).respace c
    else (s.driveCuff c (if ph < x.w then s.activeLevel c else !s.activeLevel c) t).respace c

/-- A periodic cuff reaches phase 0 or phase W (R54). One that has been still starts at a phase 0 (R38, R322,
R388). -/
def State.phaseStep (s : State) (c : Nat) : State :=
  if (s.cuff c).perRun = false ∧ 16 ≤ s.phase c then s else s.followPhase c

/-- PERIODIC_PHASE (R54). -/
def execPeriodicPhase (cuff : Nat) (s : State) : Host.Outcome State Fault Refusal := onUnit (okCuff cuff) (s.phaseStep cuff)

/-! ### Capture (R56-R60) -/

/-- The earlier arms an edge still in the glitch filter may belong to, the one that ends at `t` included (R51, R56). -/
def Cuff.pastArms (k : Cuff) (t : Nat) : List (Nat × Nat × Nat) :=
  if k.filt.isNone then []
  else k.past ++ match k.armFrom with
    | some a => [(a, if k.armed then t else k.disarmAt.getD t, k.armEdges)]
    | none => []

/-- Capture is armed for edges stamped at or after `t` (R51). -/
def State.armCapture (s : State) (c t edges : Nat) (win : Option Nat) : State :=
  s.setCuff c { s.cuff c with armed := true, armFrom := some t, armEdges := edges, winEnd := win, disarmAt := none,
                              past := (s.cuff c).pastArms t }

/-- No edge stamped at or after `t` is captured. -/
def State.disarmCapture (s : State) (c t : Nat) : State :=
  s.setCuff c { s.cuff c with armed := false, disarmAt := some t, winEnd := none }

/-- CAP_ARM (R51, R80). -/
def State.actCapArm (s : State) (c : Nat) : State :=
  match s.headReady 1 c 0x08 with
  | some f =>
    let w := bits f.act.arg 0 32
    let s := s.armCapture c f.due (f.act.sub % 4) (if w = 0 then none else some (s.plus f.due (w * 16)))
    (s.occupy c f.due f.due false).finish f
  | none => s

def execCapArm (cuff : Nat) (s : State) : Host.Outcome State Fault Refusal := onUnit (okCuff cuff) (s.actCapArm cuff)

/-- CAP_DISARM (R51). -/
def State.actCapDisarm (s : State) (c : Nat) : State :=
  match s.headReady 1 c 0x09 with
  | some f => ((s.disarmCapture c f.due).occupy c f.due f.due false).finish f
  | none => s

def execCapDisarm (cuff : Nat) (s : State) : Host.Outcome State Fault Refusal := onUnit (okCuff cuff) (s.actCapDisarm cuff)

/-- The end of a CAP_ARM's window (R80). -/
def State.windowEnd (s : State) (c : Nat) : State :=
  match (s.cuff c).winEnd with
  | some t => if s.reached t then s.disarmCapture c t else s
  | none => s

/-- CAP_WINDOW_END (R80). -/
def execCapWindowEnd (cuff : Nat) (s : State) : Host.Outcome State Fault Refusal := onUnit (okCuff cuff) (s.windowEnd cuff)

/-- CUF_CAPCFG: the RW fields first, then ARM or DISARM; both at once are refused (R385). -/
def State.writeCapCfg (s : State) (c v : Nat) : State :=
  let s := s.setFld (Reg.CUF_CAPCFG c) 0 5 (bits v 0 5)
  if 2 ≤ setCount v [8, 9] then s.cmdRefused (0x10 + c / 32)
  else if bitAt v 8 then s.armCapture c s.tb.now 0 none
  else if bitAt v 9 then s.disarmCapture c s.tb.now
  else s

/-- CUF_CAPCFG_ARM (R385). -/
def execCufCapcfgArm (cuff value : Nat) (s : State) : Host.Outcome State Fault Refusal :=
  onUnit (okCuff cuff) (s.pf (0x10 + cuff / 32) (0x420 + cuff % 32 * 0x60) (Nat.lor value 0x100) (fun s => s.writeCapCfg cuff (Nat.lor value 0x100)))

/-- CUF_CAPCFG_DISARM (R385). -/
def execCufCapcfgDisarm (cuff value : Nat) (s : State) : Host.Outcome State Fault Refusal :=
  onUnit (okCuff cuff) (s.pf (0x10 + cuff / 32) (0x420 + cuff % 32 * 0x60) (Nat.lor value 0x200) (fun s => s.writeCapCfg cuff (Nat.lor value 0x200)))

/-- The pad level changes, `crumb` crumbs into the tick: CUF_SKEW is subtracted from the stamp (R56, R63). -/
def State.padStep (s : State) (c : Nat) (l : Bool) (crumb : Nat) : State :=
  s.padTo c l (s.shifted (s.plus s.tb.now crumb) (-(s.cuff c).skew))

/-- PAD_TRANSITION (R56); the transition lies `crumb` crumbs into the tick. -/
def execPadTransition (cuff : Nat) (level : Bool) (crumb : Nat) (s : State) : Host.Outcome State Fault Refusal :=
  onUnit (okCuff cuff && okCrumb crumb) (s.padStep cuff level crumb)

/-- The EDGES code of the arm whose interval a stamp lies in, if one does (R51). -/
def State.armCode (s : State) (c t : Nat) : Option Nat :=
  let k := s.cuff c
  if (match k.armFrom with | some a => s.atOrAfter t a | none => false)
      && (k.armed || match k.disarmAt with | some d => !s.atOrAfter t d | none => false) then some k.armEdges
  else (k.past.find? fun x => s.atOrAfter t x.1 && !s.atOrAfter t x.2.1).map (·.2.2)

/-- The edges a cuff captures at a stamp: those of the arm, or CUF_CAPCFG.EDGES (R80). Bit 0 rising, bit 1 falling. -/
def State.capEdges (s : State) (c t : Nat) : Nat :=
  match s.armCode c t with
  | some e => if e % 4 ≠ 0 then e % 4 else s.fld (Reg.CUF_CAPCFG c) 0 2
  | none => 0

/-- The cuff captures an edge of this level and stamp. -/
def State.captures (s : State) (c : Nat) (l : Bool) (t : Nat) : Bool := bitAt (s.capEdges c t) (if l then 0 else 1)

/-- Writes the stamp to CUF_CAPR or CUF_CAPF with its TAG (R58, R61). -/
def State.writeStamp (s : State) (c : Nat) (l : Bool) (t seq : Nat) : State :=
  let low := if l then Reg.CUF_CAPR_L c else Reg.CUF_CAPF_L c
  let high := if l then Reg.CUF_CAPR_H c else Reg.CUF_CAPF_H c
  let tag := if l then Reg.CUF_CAPR_TAG c else Reg.CUF_CAPF_TAG c
  let s := s.setPair low high t
  s.setN tag (seq % 256 + 2 ^ 8 + b2n (!s.tbValid) * 2 ^ 10 + (s.fld tag 16 16 + 1) % 2 ^ 16 * 2 ^ 16)

/-- A filtered edge is stamped, counted and, where CUF_CAPCFG.LOG is set, buffered for the log
(R57-R60). -/
def State.stampEdge (s : State) (c : Nat) (l : Bool) (t : Nat) : State :=
  let k := s.cuff c
  let near := match k.lastStamp with | some p => decide (s.minus t p < 32) | none => false
  if near then
    (s.setCuff c { k with miss := true }).cufErr c 2
  else
    let lead := (l != s.bit (Reg.CUF_CAPCFG c) 2) || decide (s.capEdges c t ≠ 3)
    let seq := if lead then (k.seq + 1) % 256 else k.seq
    let s := (s.setCuff c { k with seq := seq, lastStamp := some t }).writeStamp c l t seq
    let s := if s.bit (Reg.CUF_CAPCFG c) 4 then s.raise (0x3000 + 4 * (c / 32) + 2) else s
    if s.bit (Reg.CUF_CAPCFG c) 3 = false then s
    else
      let n := c / 32
      let b := (s.sleeve n).buf
      if b.length < 16 then
        s.setSleeve n { s.sleeve n with buf := b ++ [{ time := t, rising := l, seq := seq, cuff := c, tinv := !s.tbValid }] }
      else (s.setCuff c { s.cuff c with miss := true }).cufErr c 3

/-- A capture record (R60) as a number. -/
def capValue (r : CapRec) (miss : Bool) : Nat :=
  r.time % 2 ^ 60 + b2n r.rising * 2 ^ 60 + b2n miss * 2 ^ 61 + r.seq % 256 * 2 ^ 64 + r.cuff % 1024 * 2 ^ 72
    + (if r.tinv then Code.timeInvalid else 0) * 2 ^ 88

/-- The sleeve buffer drains its oldest record to the cuff's log queue; a record that the queue loses, full or by a failed
walk, sets MISS in the cuff's next one (R60). -/
def State.drainCapture (s : State) (n : Nat) : State :=
  match (s.sleeve n).buf with
  | [] => s
  | r :: rest =>
    let q := s.regN (Reg.CUF_LOGQ r.cuff)
    let s := s.setSleeve n { s.sleeve n with buf := rest }
    let k := s.cuff r.cuff
    if s.logFull q then
      ((s.setCuff r.cuff { k with miss := true }).cufErr r.cuff 3).logRecord q (capValue r k.miss) 61
    else
      let s := s.logRecord q (capValue r k.miss) 61
      s.setCuff r.cuff { s.cuff r.cuff with miss := decide ((s.queue q).state ≠ QState.run) }

/-- CAPTURE_RECORD_WRITE (R60). -/
def execCaptureRecordWrite (sleeve : Nat) (s : State) : Host.Outcome State Fault Refusal :=
  onUnit (okSleeve sleeve) (s.drainCapture sleeve)

/-! ### Twins and skew (R62, R63) -/

/-- A time lies within the tick before, this tick or the tick after. -/
def State.closeBy (s : State) (t : Nat) : Bool :=
  decide (s.minus s.tb.now t < 32) || decide (s.minus t s.tb.now < 32)

/-- An action that makes an edge at its cuff. -/
def Action.switches (a : Action) : Bool := (decide (0x01 ≤ a.op) && decide (a.op ≤ 0x07)) || decide (a.op = 0x11)

/-- The next action of a FIFO places an edge within the tick before, this tick or the tick after. -/
def State.headClose (s : State) (c : Nat) : List Flight → Bool
  | [] => false
  | f :: _ => f.act.switches && s.closeBy (s.placed c (if f.judged then f.due else f.act.time))

/-- The cuff is idle: no edge placed or stamped in the tick before, this tick or the tick after (R62). Leg B of an enabled
pair switches with the actions and the pattern of leg A. -/
def State.idleCuff (s : State) (c : Nat) : Bool :=
  let k := s.cuff c
  let a := if s.pairEn (c / 2) then 2 * (c / 2) else c
  let x := s.perSet a
  let ph := s.phase a
  !(match k.lastEdge with | some t => s.closeBy (s.placed c t) | none => false)
    && !(match k.lastStamp with | some t => s.closeBy (s.placed c t) | none => false)
    && !(k.edges.any fun e => s.closeBy (s.placed c e.1))
    && !(s.headClose c (s.cuff a).fifo)
    && !((s.cuff a).perRun &&
      (decide (ph < 32) || decide (x.p < ph + 32) || (decide (x.w ≤ ph + 32) && decide (ph ≤ x.w + 32))))

/-- The steward completes the calibration of the idle twin, while steward pair 1 runs (R351). A calibration repeated while
the swap is deferred leaves the deferral's count as it runs (R62). -/
def State.twinCal (s : State) (c : Nat) : State :=
  if s.fld Reg.REL_STEWARD 0 4 / 4 = 0 then s
  else s.setCuff c { s.cuff c with calReady := some ((s.cuff c).calReady.getD s.tick) }

/-- TWIN_CALIBRATION (R62). -/
def execTwinCalibration (cuff : Nat) (s : State) : Host.Outcome State Fault Refusal := onUnit (okCuff cuff) (s.twinCal cuff)

/-- The twins swap on an idle tick (R62). -/
def State.swapTwin (s : State) (c : Nat) : State :=
  if (s.cuff c).calReady.isSome ∧ s.idleCuff c then
    let s := s.setCuff c { s.cuff c with calReady := none, swapTick := s.tick }
    let s := s.setBit (Reg.CUF_CAL c) 0 (!s.bit (Reg.CUF_CAL c) 0)
    (s.setBit (Reg.CUF_CAL c) 1 false).incWrap (Reg.CUF_CAL c) 16 8
  else s

/-- TWIN_SWAP (R62). -/
def execTwinSwap (cuff : Nat) (s : State) : Host.Outcome State Fault Refusal := onUnit (okCuff cuff) (s.swapTwin cuff)

/-- The tick of a cuff's last swap, or of boot's calibration rounds (R62, R340). -/
def State.calTick (s : State) (c : Nat) : Nat := max (s.cuff c).swapTick s.boot.calAt

/-- The twin has waited for its swap for `n` ticks. With steward pair 1 down no calibration completes: the swap is missing from the
end of the 16 ms on within which every twin is recalibrated (R62, R351). -/
def State.swapWaited (s : State) (c n : Nat) : Bool :=
  match (s.cuff c).calReady with
  | some t => decide (t + n ≤ s.tick)
  | none => !s.pairUp 1 && decide (s.calTick c + 24000000 + n ≤ s.tick)

/-- CAL_DEFERRED (R62): no idle tick within 1 ms. -/
def execCalDeferred (cuff : Nat) (s : State) : Host.Outcome State Fault Refusal :=
  onUnit (okCuff cuff) (if s.swapWaited cuff 1500000 then s.setBit (Reg.CUF_CAL cuff) 1 true else s)

/-- CAL_FAIL (R62): still deferred after 2 ms. -/
def execCalFail (cuff : Nat) (s : State) : Host.Outcome State Fault Refusal :=
  onUnit (okCuff cuff) (if s.swapWaited cuff 3000000 ∧ s.bit (Reg.CUF_CAL cuff) 1 then s.pgErr (0x10 + cuff / 32) 18 else s)

/-- SKEW_APPLY (R63): a committed CUF_SKEW takes effect on an idle tick. -/
def execSkewApply (cuff : Nat) (s : State) : Host.Outcome State Fault Refusal :=
  onUnit (okCuff cuff) (if (s.cuff cuff).skewPend ∧ s.idleCuff cuff then
    s.setCuff cuff { s.cuff cuff with skew := signed 10 (s.fld (Reg.CUF_SKEW cuff) 0 10), skewPend := false }
  else s)

/-! ### Pairs (R64-R71) -/

/-- PAIR_SET (R64): leg A's periodic mode ends, and the pair takes the named state. -/
def State.actPairSet (s : State) (p : Nat) : State :=
  match s.headReady 2 p 0x11 with
  | some f =>
    let s := s.endPeriodic (2 * p)
    let old := (s.pairSt p).st
    let s := s.pairTo p (f.act.sub % 4) f.due
    let both := old ≠ 0 ∧ f.act.sub % 4 ≠ 0 ∧ old ≠ f.act.sub % 4
    let stop := if both then s.plus f.due (s.dead p) else f.due
    (s.occupy (2 * p) f.due stop (decide (old ≠ f.act.sub % 4))).finish f
  | none => s.tripTakes p

def execPairSet (pair : Nat) (s : State) : Host.Outcome State Fault Refusal := onUnit (okPair pair) (s.actPairSet pair)

/-- PAIR_REARM (R70): a refused re-arm logs GUARD_TRIP or BRIDGE_SHORT where LOG is set. -/
def State.actPairRearm (s : State) (p : Nat) : State :=
  match s.headReady 2 p 0x12 with
  | some f =>
    let ok := s.rearmFits p (bitAt f.act.sub 0)
    let code := if s.bridged p then Code.bridgeShort else Code.guardTrip
    let s := s.rearmPair p (bitAt f.act.sub 0)
    let s := s.occupy (2 * p) f.due f.due false
    if ok then s.finish f
    else
      let s := (s.popFifo f.ttype f.target).usedNow f.ttype f.target
      let s := if f.act.log then s.execRecord f.act f.org code f.due else s
      s.judgeFifo f.ttype f.target
  | none => s

def execPairRearm (pair : Nat) (s : State) : Host.Outcome State Fault Refusal := onUnit (okPair pair) (s.actPairRearm pair)

/-- An Apron value a leg of an enabled pair may have: high-impedance or its inactive level (R73). -/
def apronFits (pol : Bool) (v : Nat) : Bool := decide (v = 2) || decide (v = b2n pol)

/-- Sets a cuff's Apron level in effect and in the shadow (R51), unless R73 refuses it. -/
def State.setApron (s : State) (c v : Nat) : State :=
  if s.pairEn (c / 2) ∧ apronFits (s.bit (Reg.CUF_CFG c) 2) v = false then s.cufErr c 5
  else
    let s := s.setBoth (Reg.CUF_CFG c) 4 2 v
    if (s.cuff c).apron then s.apronLevel c else s

/-- The action of an APRON_SET at the FIFO that cuff `c` serves. -/
def State.apronHead (s : State) (c : Nat) : Option Flight :=
  if s.pairEn (c / 2) ∧ c % 2 = 0 then s.headReady 2 (c / 2) 0x13 else s.headReady 1 c 0x13

/-- APRON_SET (R51, R73). -/
def State.actApronSet (s : State) (c : Nat) : State :=
  match s.apronHead c with
  | some f =>
    let bad := s.pairEn (c / 2) &&
      (!apronFits (s.bit (Reg.CUF_CFG c) 2) (f.act.sub % 4) ||
       !apronFits (s.bit (Reg.CUF_CFG (c + 1)) 2) (f.act.sub / 4 % 4))
    let s := s.setApron c (f.act.sub % 4)
    let s := if f.ttype = 2 then s.setApron (c + 1) (f.act.sub / 4 % 4) else s
    let s := s.occupy c f.due f.due false
    if bad then
      let s := (s.popFifo f.ttype f.target).usedNow f.ttype f.target
      let s := if f.act.log then s.execRecord f.act f.org Code.rejectClass f.due else s
      s.judgeFifo f.ttype f.target
    else s.finish f
  | none => s

def execApronSet (cuff : Nat) (s : State) : Host.Outcome State Fault Refusal := onUnit (okCuff cuff) (s.actApronSet cuff)

/-- The pair is in blanking (R67). -/
def State.inBlanking (s : State) (p : Nat) : Bool :=
  match (s.pairSt p).blankEnd with
  | some t => decide (s.tick < t)
  | none => false

/-- A guard input that one leg of a pair names asserts (R66, R68, R69). -/
def State.guardHit (s : State) (p g : Nat) (legB : Bool) : State :=
  if s.inBlanking p then s.setBit (Reg.SLV_GDSTATE (p / 16)) (16 + p % 16) true
  else if s.tripped p then
    if s.bit (Reg.SLV_TRIP (p / 16)) (16 + p % 16) = legB then s else s.tripPair p true legB g
  else s.tripPair p false legB g

/-- What an assertion does to one pair of its sleeve: leg A's guard first; an input named by both legs
counts as leg A's (R66). -/
def State.guardPair (s : State) (p g : Nat) : State :=
  if s.pairEn p = false then s
  else if s.guardA p = some g then s.guardHit p g false
  else if s.guardB p = some g then s.guardHit p g true
  else s

/-- A guard input asserts (R66). -/
def State.guardOn (s : State) (n g : Nat) : State :=
  if s.bit (Reg.SLV_GDSTATE n) g then s
  else
    let s := s.setBit (Reg.SLV_GDSTATE n) g true
    (List.range 16).foldl (fun s i => s.guardPair (n * 16 + i) g) s

/-- GUARD_ASSERT (R66). -/
def execGuardAssert (sleeve guard : Nat) (s : State) : Host.Outcome State Fault Refusal :=
  onUnit (okSleeve sleeve && okGuard guard) (s.guardOn sleeve guard)

/-- GUARD_RELEASE (R66). -/
def execGuardRelease (sleeve guard : Nat) (s : State) : Host.Outcome State Fault Refusal :=
  onUnit (okSleeve sleeve && okGuard guard) (s.setBit (Reg.SLV_GDSTATE sleeve) guard false)

/-- Blanking ends: a pending assertion is looked at again (R68, R69). Where both guards still stand, the report names leg A
and its guard (DESIGN CHOICE, log entry 28). -/
def State.blankEnds (s : State) (p : Nat) : State :=
  match (s.pairSt p).blankEnd with
  | none => s
  | some t =>
    if s.tick < t then s
    else
      let pend := s.bit (Reg.SLV_GDSTATE (p / 16)) (16 + p % 16)
      let s := s.setPairSt p { s.pairSt p with blankEnd := none }
      let s := s.setBit (Reg.SLV_GDSTATE (p / 16)) (16 + p % 16) false
      let a := s.guardUp p (s.guardA p)
      let b := s.guardUp p (s.guardB p) && !(s.guardA p == s.guardB p)
      if pend = false ∨ s.pairEn p = false then s
      else if a ∧ b then s.tripPair p true false ((s.guardA p).getD 0)
      else if a then s.guardHit p ((s.guardA p).getD 0) false
      else if b then s.guardHit p ((s.guardB p).getD 0) true
      else s

/-- BLANKING_END (R68). -/
def execBlankingEnd (pair : Nat) (s : State) : Host.Outcome State Fault Refusal := onUnit (okPair pair) (s.blankEnds pair)

/-! ### SLV_REARM (R48, R70) -/

/-- SLV_REARM.ALL: the sleeve's cuffs leave a bank-fault Apron and take their FIFOs in order. While BANK_OK is 0 the write
is refused also where no cuff stands at Apron for a bank fault: two sentences of R48 meet there (log entry 28). -/
def State.rearmAll (s : State) (n : Nat) : State :=
  if s.bit (Reg.SLV_STATUS n) 1 = false then s.pgErr (slvPage n) 16
  else
    let cs := (sleeveCuffs n).filter fun c => (s.cuff c).apBank
    let s := cs.foldl (fun s c => s.endCause c .bank) s
    cs.foldl (fun s c => s.rejudge 1 c) s

/-- A write of SLV_REARM: ALL first, then the re-arm of PAIRS (R385). -/
def State.writeRearm (s : State) (n v : Nat) : State :=
  let s := if bitAt v 17 then s.rearmAll n else s
  (bitList 16 v).foldl (fun s i => (s.rearmPair (n * 16 + i) (bitAt v 16)).rejudge 2 (n * 16 + i)) s

/-- SLV_REARM_PAIRS (R70). -/
def execSlvRearmPairs (sleeve value : Nat) (s : State) : Host.Outcome State Fault Refusal :=
  onUnit (okSleeve sleeve) (s.pf (slvPage sleeve) 0x58 value (fun s => s.writeRearm sleeve value))

/-- SLV_REARM_ALL (R48). -/
def execSlvRearmAll (sleeve value : Nat) (s : State) : Host.Outcome State Fault Refusal :=
  onUnit (okSleeve sleeve) (s.pf (slvPage sleeve) 0x58 (Nat.lor value 0x20000) (fun s => s.writeRearm sleeve (Nat.lor value 0x20000)))

/-- A bank supply lies in the range of its class, `h` millivolts inside each limit (R364, R365). -/
def bankFits (mv h : Nat) : Bool :=
  if 2400 < mv then decide (3135 + h ≤ mv ∧ mv + h ≤ 3465) else decide (1710 + h ≤ mv ∧ mv + h ≤ 1890)

/-- The bank supply stands at a level: below 1.0 V it is absent (R363, R367). Where it comes back, the pins show what their cuffs
drive. -/
def State.bankLevel (s : State) (n mv : Nat) : State :=
  let was := (s.sleeve n).absent
  let s := s.setSleeve n { s.sleeve n with absent := decide (mv < 1000) }
  if was ∧ 1000 ≤ mv then (sleeveCuffs n).foldl (fun s c => s.drivenPad c (s.edgeNow c)) s else s

/-- BANK_OK_RETURN (R365): the bank is back in range, after a fault with 25 mV of hysteresis, and its class is sensed
again: 3.3 V above 2.4 V. -/
def State.bankReturns (s : State) (n mv : Nat) : State :=
  if s.bit (Reg.SLV_STATUS n) 1 then s
  else
    let s := s.bankLevel n mv
    if Machine.bankFits mv (if (s.sleeve n).lost then 25 else 0) = false then s
    else s.setFld (Reg.SLV_STATUS n) 0 2 (2 + b2n (decide (2400 < mv)))

/-- BANK_OK_RETURN (R365). -/
def execBankOkReturn (sleeve millivolts : Nat) (s : State) : Host.Outcome State Fault Refusal :=
  onUnit (okSleeve sleeve) (s.bankReturns sleeve millivolts)

end Sys2Proof.Machine
end

