-- ==== Sys2Proof/Machine/Queues.lean ====
section
/-! DEFINITION. Queues, doorbells, the wheel, seams, stop, resume and flush (R78-R105), and the token
bucket of the timed class (R117). -/

namespace Sys2Proof.Machine

open Sys2Proof

/-! ### Entries and descriptors -/

/-- The action a 16-byte entry spells (R78). -/
def ofEntry (v : Nat) : Action :=
  { time := bits v 0 60, late := bits v 60 2, log := bitAt v 62, sealed := bitAt v 63, op := bits v 64 8,
    sub := bits v 72 8, arg := bits v 80 48 }

/-- The entry of an action (R78). -/
def toEntry (a : Action) : Nat :=
  a.time % 2 ^ 60 + a.late % 4 * 2 ^ 60 + b2n a.log * 2 ^ 62 + b2n a.sealed * 2 ^ 63 + a.op % 256 * 2 ^ 64
    + a.sub % 256 * 2 ^ 72 + a.arg % 2 ^ 48 * 2 ^ 80

/-- The descriptor of a queue (R83). -/
def Queue.desc (d : Queue) : Nat :=
  d.base % 2 ^ 22 + d.log2 % 32 * 2 ^ 22 + d.head % 2 ^ 16 * 2 ^ 27 + d.tail % 2 ^ 16 * 2 ^ 43 + d.cls % 4 * 2 ^ 59
    + d.late % 4 * 2 ^ 61 + d.ttype % 8 * 2 ^ 63 + d.target % 2 ^ 12 * 2 ^ 66 + d.tenant % 2 ^ 9 * 2 ^ 78
    + d.state % 8 * 2 ^ 87 + d.err % 256 * 2 ^ 90 + d.logq % 2 ^ 20 * 2 ^ 98 + b2n d.logen * 2 ^ 118

/-- A queue's credits: min(64, 2^k − 1) (R90). -/
def Queue.credits (d : Queue) : Nat := min 64 (d.size - 1)

/-- The entries between HEAD and TAIL. -/
def Queue.filled (d : Queue) : Nat := (d.tail + d.size - d.head % d.size) % d.size

/-- Reads an entry of a queue. -/
def State.readEntry (s : State) (q i : Nat) : Access Action :=
  match s.slabRead (s.queue q).tenant ((s.queue q).entryAddr i) 16 0 with
  | .ok v s => .ok (ofEntry v) s
  | .bad c s => .bad c s

/-- Takes a queue's seam arrival back (R98): the latest SEAM TIME is that of the members that stay (R97), whose number
and timeout remain those that the first arrival fixed, also where that one is taken back (log entry 28). -/
def State.unarrive (s : State) (q : Nat) : State :=
  (Tbl.keys s.seams).foldl (fun s i =>
    let m := s.seamOf i
    if m.members.contains q then
      let l := m.members.filter (· != q)
      let ts := m.times.filter fun x => x.1 != q
      if l = [] then (s.setSeam i {}).setBit Reg.SCH_STATUS 1 false
      else s.setSeam i { m with members := l, times := ts,
                                latest := (ts.tail.map (·.2)).foldl s.later ((ts.map (·.2)).headD m.latest) }
    else s) s

/-- A queue stops with an error; an arrival at a seam is taken back (R98). -/
def State.haltQueue (s : State) (q code : Nat) : State := (s.unarrive q).stopQueue q code

/-- A walk that fails while an entry is read stops the queue (R101). -/
def State.entryFault (s : State) (q i code : Nat) : State :=
  (s.haltQueue q code).faultRecord (s.queue q).tenant code FSrc.queue q i

/-- What QM does with a queue, its descriptor read: an uncorrectable error there stops the queue instead (R101). -/
def State.onDesc (s : State) (q : Nat) (f : State → State) : State :=
  if s.descBad q then (s.unarrive q).descFault q else f s

/-! ### Doorbells (R84-R86, R117) -/

/-- A doorbell or an entry is refused (R85, R105, R257). -/
def State.refuseDb (s : State) (fn q idx code : Nat) : State :=
  let s := s.setN (Reg.TEN_QDB_STAT fn) (code % 256 + q % 2 ^ 20 * 2 ^ 8)
  let s := (s.setFld (Reg.TEN_QDB_IDX fn) 0 16 idx).incWrap (Reg.TEN_QDB_IDX fn) 16 16
  s.faultRecord fn code FSrc.doorbell q idx

/-- The minimum spacing of a target, crumbs (R84). -/
def spacingOf (ttype : Nat) : Nat := if ttype = 1 ∨ ttype = 2 then 32 else 64

/-- The level a cuff drives after an action, from the level before; none when it is off. -/
def State.levelAfter (s : State) (c : Nat) (before : Option Bool) (a : Action) : Option Bool :=
  if a.op = 0x01 then some true
  else if a.op = 0x02 then some false
  else if a.op = 0x03 then (match before with | some l => some (!l) | none => some (s.activeLevel c))
  else if a.op = 0x04 then none
  else if a.op = 0x05 ∨ a.op = 0x06 then some (!s.activeLevel c)
  else before

/-- The cuff whose registers hold the periodic pattern of a target: leg A's for a pair. -/
def State.patternCuff (s : State) (q : Nat) : Nat := serveCuff (s.queue q).ttype (s.queue q).target

/-- The pattern a PERIOD sets going: offset, period and width (R54, R55, R80). One that breaks the limits of R54 makes no
edge. -/
def State.patternOf (s : State) (q : Nat) (a : Action) : Option (Nat × Nat × Nat) :=
  let c := s.patternCuff q
  let w := bits a.arg 24 24 * scaleOf a.sub
  let x : PerSet := if s.bit (Reg.CUF_PER_CTRL c) 6 then s.perSet c
    else { p := bits a.arg 0 24 * scaleOf a.sub, off := a.time, live := true }
  let m := s.minPulse c + (if (s.queue q).ttype = 2 then s.dead (s.queue q).target else 0)
  if x.live = true ∧ m ≤ w ∧ w + m ≤ x.p then some (x.off, x.p, w) else none

/-- Where a pattern stands just before time `t`: whether it is in its active part, and when that part began. -/
def State.patternAt (s : State) (x : Nat × Nat × Nat) (t : Nat) : Bool × Nat :=
  let r := s.minus t x.1 % x.2.1
  let ph := if r = 0 then x.2.1 else r
  if ph ≤ x.2.2 then (true, s.minus t ph) else (false, s.minus t (ph - x.2.2))

/-- The level that the accepted actions of a cuff queue leave at time `t`: where no action has been accepted, the cuff's
own. -/
def State.levelBefore (s : State) (q t : Nat) : Option Bool :=
  let d := s.queue q
  match d.lastAct, d.pattern with
  | some _, some x => some (s.activeLevel d.target == (s.patternAt x t).1)
  | some _, none => d.lastLevel
  | none, _ => if (s.cuff d.target).driven then some (s.cuff d.target).lastLevel else none

/-- The state that the accepted actions of a pair queue leave at time `t` (R64). -/
def State.pairBefore (s : State) (q t : Nat) : Option Nat :=
  let d := s.queue q
  match d.pattern with
  | some x => some (if (s.patternAt x t).1 then 1 else if s.bit (Reg.SLV_PAIR_CFG (d.target / 16) (d.target % 16)) 9 then 2 else 0)
  | none => d.lastPair

/-- The time of the last edge that the accepted actions of a queue make before time `t`. -/
def State.edgeBefore (s : State) (q t : Nat) : Option Nat :=
  let d := s.queue q
  match d.pattern with
  | some x => if (s.patternAt x t).2 = x.1 then d.lastEdge else some (s.patternAt x t).2
  | none => d.lastEdge

/-- The state an action asks of its pair: PAIR_SET names one, and a PERIOD starts in A (R64). -/
def Action.asks (a : Action) : Option Nat :=
  if a.op = 0x11 then some a.sub else if a.op = 0x07 then some 1 else none

/-- The first edge of an action reverses the last one its queue made (R52, R65); a repeated level makes no edge. -/
def State.reverses (s : State) (q : Nat) (a : Action) : Bool :=
  let d := s.queue q
  if d.ttype = 1 then
    if d.lastAct = none then false else
    let l := s.levelBefore q a.time
    match l, s.firstLevel d.target a.op l.isSome (l.getD false) with
    | some x, some y => x != y
    | _, _ => false
  else decide (d.ttype = 2) && match s.pairBefore q a.time, a.asks with
    | some x, some y => x != y
    | _, _ => false

/-- The time of the last edge after an accepted action: its own last edge, or, where it makes none, the one before. -/
def State.edgeAfter (s : State) (q : Nat) (a : Action) : Option Nat :=
  let d := s.queue q
  let l := s.levelBefore q a.time
  if d.ttype = 1 ∧ (a.op = 0x05 ∨ a.op = 0x06) then some (s.plus a.time a.length)
  else if d.ttype = 1 ∧ s.levelAfter d.target l a ≠ l then some a.time
  else if d.ttype = 1 ∧ a.op = 0x07 ∧ l ≠ some (s.activeLevel d.target) then some a.time
  else if d.ttype = 2 ∧ a.asks.isSome ∧ s.pairBefore q a.time ≠ a.asks then some a.time
  else s.edgeBefore q a.time

/-- The pattern that runs after an accepted action: an output operation ends it, and a PERIOD starts its own (R55). -/
def State.patternAfter (s : State) (q : Nat) (a : Action) : Option (Nat × Nat × Nat) :=
  if a.op = 0x07 then s.patternOf q a else if a.switches then none else (s.queue q).pattern

/-- R84 and R52 against the last accepted action of the same queue. -/
def State.spaced (s : State) (q : Nat) (a : Action) : Bool :=
  let d := s.queue q
  match d.lastTime, d.lastAct with
  | some t, some p =>
    let next := s.atOrAfter a.time (s.plus t (spacingOf d.ttype))
    let stop := s.plus t p.length
    let free := s.atOrAfter a.time stop
    let gap := if d.ttype = 2 then s.dead d.target + s.minPulse (2 * d.target) else s.minPulse d.target
    next && (free || decide (d.ttype ≠ 1))
      && (!s.reverses q a || (s.edgeBefore q a.time).all fun e => s.atOrAfter a.time (s.plus e gap))
  | _, _ => true

/-- The token bucket holds a token for this time (R117). -/
def State.bucket (s : State) (k : Contract) (t : Nat) : Bool := s.atOrAfter t (s.minus k.tat ((k.burst - 1) * k.intv))

/-- Check 3 of R85: the entry fits its target, and a timed queue holds no SEAM. -/
def State.entryOk (s : State) (q : Nat) (a : Action) : Bool :=
  s.entryFits a (s.queue q).ttype (s.queue q).target && !decide (a.op = 0x0A ∧ (s.queue q).cls = 1)

/-- The code that refuses an entry, or OK (checks 3 to 6 of R85). -/
def State.checkEntry (s : State) (q : Nat) (a : Action) : Nat :=
  let d := s.queue q
  if s.entryOk q a = false then Code.rejectClass
  else if d.cls ≠ 1 then Code.ok
  else if s.tbValid = false ∨ s.coarse then Code.timeInvalid
  else match d.contract with
    | none => Code.ok
    | some k =>
      if s.ahead a.time k.lead = false then Code.rejectLate
      else if s.spaced q a = false ∨ s.bucket k a.time = false then Code.rejectRate
      else Code.ok

/-- What an accepted entry leaves: TAIL, the spacing of the next one, and TAT (R117, R126). -/
def State.acceptEntry (s : State) (q : Nat) (a : Action) : State :=
  let d := s.queue q
  let fits := match d.contract with | some k => s.bucket k a.time | none => true
  let k := d.contract.map fun k =>
    if fits then { k with tat := s.plus (s.later k.tat a.time) k.intv } else k
  let s := s.setQueue q { d with tail := (d.tail + 1) % d.size, contract := k, lastTime := some a.time, lastAct := some a,
                                 lastLevel := s.levelAfter d.target (s.levelBefore q a.time) a,
                                 lastPair := if d.ttype = 2 ∧ a.asks.isSome then a.asks else d.lastPair,
                                 lastEdge := s.edgeAfter q a, pattern := s.patternAfter q a }
  if d.cls = 2 ∧ fits = false then s.incSat Reg.ADM_OVERRUN 0 32 else s

/-- Checks and accepts the new entries in order, up to the first refusal. -/
def State.acceptEntries (s : State) (fn q : Nat) : Nat → State
  | 0 => s
  | n + 1 =>
    let i := (s.queue q).tail
    match s.readEntry q i with
    | .bad c s => s.entryFault q i c
    | .ok a s =>
      let code := s.checkEntry q a
      if code = Code.ok then (s.acceptEntry q a).acceptEntries fn q n
      else s.refuseDb fn q i code

/-- A feedback port writes its hits into this queue and is its only submitter (R214). -/
def State.hitQueue (s : State) (q : Nat) : Bool :=
  s.ports.any fun e => e.2.alloc && s.bit (Reg.FBK_CMPCFG e.1) 3 && decide (s.fld (Reg.FBK_HQUEUE e.1) 0 20 = q)
    && decide ((s.queue q).tenant = e.2.owner)

/-- A doorbell of function `fn` to a submit queue (R85, R86, R317). -/
def State.doorbell (s : State) (fn q index : Nat) : State :=
  let d := s.queue q
  let n := (index % d.size + d.size - d.tail % d.size) % d.size
  if s.mode = Mode.boot ∨ s.mode = Mode.provision then s.refuseDb fn q index Code.rejectClass
  else if d.state = QState.free ∨ d.tenant ≠ fn ∨ d.ttype = 0 ∨ s.hitQueue q then s.refuseDb fn q index Code.rejectQuota
  else if d.state = QState.flushing then s.setQueue q { d with heldDb := some index }
  else if d.size - 1 - d.filled < n then s.refuseDb fn q index Code.queueFull
  else s.onDesc q fun s => s.acceptEntries fn q n

/-- DOORBELL (R85). -/
def execDoorbell (fn queue index : Nat) (s : State) : Host.Outcome State Fault Refusal :=
  onUnit (okFn fn && okQueue queue) (s.qdb fn queue index (fun s => s.doorbell fn queue (index % 2 ^ 16)))

/-- Software consumes records of a log queue (R88). -/
def State.consume (s : State) (fn q index : Nat) : State :=
  let d := s.queue q
  let n := (index % d.size + d.size - d.head % d.size) % d.size
  if s.mode = Mode.boot ∨ s.mode = Mode.provision then s.refuseDb fn q index Code.rejectClass
  else if d.state = QState.free ∨ d.tenant ≠ fn ∨ d.ttype ≠ 0 then s.refuseDb fn q index Code.rejectQuota
  else if d.filled < n ∨ d.size ≤ index then s.refuseDb fn q index Code.queueFull
  else s.onDesc q fun s => s.setQueue q { d with head := index }

/-- LOG_QUEUE_CONSUME (R88). -/
def execLogQueueConsume (fn queue index : Nat) (s : State) : Host.Outcome State Fault Refusal :=
  onUnit (okFn fn && okQueue queue) (s.qdb fn queue index (fun s => s.consume fn queue (index % 2 ^ 16)))

/-! ### The queue stage (R84, R87, R90, R94) -/

/-- The references reserved for timed and guarded queues (R90, SCH_RSV); the abort of its tenant releases a queue's
until RESUME (R102). -/
def State.reservedRefs (s : State) : Nat :=
  (s.queues.map fun e => if e.2.contract.isSome ∧ e.2.err ≠ Code.aborted then e.2.credits else 0).foldl (· + ·) 0

/-- The references plain queues hold. -/
def State.plainRefs (s : State) : Nat :=
  (s.refs.filter fun r => match r.fl.org with
    | .queue q _ => (s.queue q).contract.isNone
    | .near _ _ => true).length

/-- The references that plain queues share are exhausted (R90). -/
def State.wheelFull (s : State) : Bool := decide (1048576 - s.reservedRefs ≤ s.plainRefs)

/-- The dispatch lead, ticks (R92). -/
def State.dlead (s : State) : Nat := s.fld Reg.SCH_CTRL 0 11

/-- Where an action enters the wheel: its L0 slot, its L1 slot, or, where its L0 slot has been
transferred, its ready chain (R91, R92). -/
def State.stageOf (s : State) (t : Nat) : Stage :=
  if s.ahead t (16384 * 16) then .l1
  else if s.ahead (t / 256 * 256) (s.dlead * 16 + 1) then .l0
  else .ready

/-- HEAD steps past an entry. -/
def State.stepHead (s : State) (q : Nat) (t : Nat) : State :=
  let d := s.queue q
  s.setQueue q { d with head := (d.head + 1) % d.size, prevTime := some t }

/-- An action whose TIME lies before its predecessor's (R84). -/
def State.outOfOrder (s : State) (q : Nat) (a : Action) : Bool :=
  match (s.queue q).prevTime with
  | some t => decide ((s.queue q).cls ≠ 1) && !s.atOrAfter a.time t
  | none => false

/-- The action at HEAD leaves the queue stage as an action past it. -/
def State.headFlight (s : State) (q : Nat) (a : Action) : Flight :=
  let d := s.queue q
  { act := a, org := .queue q d.head, ttype := d.ttype, target := d.target, due := a.time, prev := d.prevTime }

/-- What becomes of the action at HEAD that was read: the check of R87, lateness (R94), the wheel. -/
def State.moveEntry (s : State) (q : Nat) (a : Action) : State :=
  let d := s.queue q
  let f := s.headFlight q a
  if s.entryOk q a = false then
    let s := s.stepHead q a.time
    if a.log then s.execRecord a f.org Code.rejectClass s.tb.now else s
  else if a.op = 0x0A then s
  else if s.ahead a.time 268435456 ∨ d.credits ≤ (s.inFlight q).length then s
  else if s.outOfOrder q a ∧ s.inFlight q ≠ [] then s
  else if d.contract.isNone ∧ s.wheelFull = true then
    if s.bit Reg.SCH_STATUS 0 then s else (s.setBit Reg.SCH_STATUS 0 true).raise 0x3411
  else
    let s := if d.contract.isNone then s.setBit Reg.SCH_STATUS 0 false else s
    let late := decide (a.op ≠ 0x00) && (!s.ahead a.time 768 || s.outOfOrder q a)
    if late = false then
      { s.stepHead q a.time with refs := s.refs ++ [{ fl := f, stage := s.stageOf a.time }] }
    else
      let s := s.countLate f
      if s.policy f = 2 then (s.stepHead q a.time).execRecord a f.org Code.lateDropped s.tb.now
      else if s.policy f = 3 then
        let s := s.execRecord a f.org Code.queueLate s.tb.now
        (s.stopQueue q Code.queueLate).faultRecord d.tenant Code.queueLate FSrc.queue q d.head
      else
        { s.stepHead q a.time with refs := s.refs ++ [{ fl := { f with late := true }, stage := .ready }] }

/-- The queue stage moves the action at HEAD (R90). -/
def State.stageMove (s : State) (q : Nat) : State :=
  let d := s.queue q
  if s.service = false ∨ d.state ≠ QState.run ∨ d.ttype = 0 ∨ d.filled = 0 then s
  else s.onDesc q fun s => match s.readEntry q d.head with
    | .bad c s => s.entryFault q d.head c
    | .ok a s => s.moveEntry q a

/-- QUEUE_STAGE_MOVE (R90). -/
def execQueueStageMove (queue : Nat) (s : State) : Host.Outcome State Fault Refusal :=
  onUnit (okQueue queue) (s.stageMove queue)

/-- The first NOP that a queue has moved out of the queue stage and not retired. -/
def State.nopRef (s : State) (q : Nat) : Option WheelRef :=
  s.refs.find? fun r => r.fl.ofQueue q && decide (r.fl.act.op = 0x00)

/-- A NOP retires at the scheduler at its time, or at once if that has passed (R80). -/
def State.retireNop (s : State) (q : Nat) : State :=
  match s.nopRef q with
  | none => s
  | some r =>
    if s.service ∧ s.reached r.fl.act.time then
      ({ s with refs := s.refs.erase r }).logExec r.fl.act r.fl.org Code.ok
        (if s.minus s.tb.now r.fl.act.time ≤ 16 then r.fl.act.time else s.tb.now)
    else s

/-- NOP (R80). -/
def execNop (queue : Nat) (s : State) : Host.Outcome State Fault Refusal := onUnit (okQueue queue) (s.retireNop queue)

/-! ### The wheel (R91, R92) -/

/-- An L1 slot moves into L0 while the slot before it runs (R91). -/
def State.l1Move (s : State) (slot : Nat) : State :=
  { s with refs := s.refs.map fun r =>
      if r.stage = .l1 ∧ r.fl.act.time / 262144 % 1024 = slot
        ∧ s.ahead (r.fl.act.time / 262144 * 262144) (262144 + 1) = false then
        { r with stage := .l0 } else r }

/-- WHEEL_L1_MOVE (R91). -/
def execWheelL1Move (slot : Nat) (s : State) : Host.Outcome State Fault Refusal :=
  onUnit (okSlot slot) (if s.service then s.l1Move slot else s)

/-- The order of a transfer: TIME, then queue ID, then queue order (R92). -/
def State.refBefore (s : State) (a b : WheelRef) : Bool :=
  let key (r : WheelRef) : Nat × Nat := match r.fl.org with
    | .queue q i => (q, 2 ^ 16 - (s.queue q).behind i)
    | .near c p => (c, p)
  if a.fl.act.time ≠ b.fl.act.time then !s.atOrAfter a.fl.act.time b.fl.act.time
  else if (key a).1 ≠ (key b).1 then decide ((key a).1 < (key b).1)
  else decide ((key a).2 < (key b).2)

def State.insertRef (s : State) (r : WheelRef) : List WheelRef → List WheelRef
  | [] => [r]
  | x :: xs => if s.refBefore r x then r :: x :: xs else x :: s.insertRef r xs

/-- The references an L0 slot transfers now. -/
def State.slotRefs (s : State) (slot : Nat) (r : WheelRef) : Bool :=
  decide (r.stage = .l0) && decide (r.fl.act.time / 256 % 1024 = slot)
    && !s.ahead (r.fl.act.time / 256 * 256) (s.dlead * 16 + 1)

/-- An L0 slot's actions go to their ready chains in order; the reference with a parity error is
discarded, unless it is a guarded action's, whose vote masks the loss (R92, R101). -/
def State.transfer (s : State) (slot : Nat) (bad : Option Nat) : State :=
  let moved := (s.refs.filter (s.slotRefs slot)).foldl (fun l r => s.insertRef r l) []
  let rest := s.refs.filter fun r => !s.slotRefs slot r
  let ready := moved.map fun r => { r with stage := .ready }
  match bad with
  | none => { s with refs := rest ++ ready }
  | some i =>
    match ready[i]? with
    | none => { s with refs := rest ++ ready }
    | some r =>
      let keep := if s.isGuarded r.fl then ready else ready.eraseIdx i
      ({ s with refs := rest ++ keep }.pgErr 8 16).relRecord 2 Code.ok 3 0x10 0
        (match r.fl.org with | .queue q _ => q | .near c _ => c)

/-- SLOT_TRANSFER (R92). -/
def execSlotTransfer (slot : Nat) (bad : Option Nat) (s : State) : Host.Outcome State Fault Refusal :=
  onUnit (okSlot slot) (if s.service then s.transfer slot bad else s)

/-- The first action on a target's ready chain. -/
def State.chainHead (s : State) (ttype target : Nat) : Option WheelRef :=
  s.refs.find? fun r => decide (r.stage = .ready) && decide (r.fl.ttype = ttype) && decide (r.fl.target = target)
    && decide (r.fl.act.op ≠ 0x00)

/-- The deliveries of the scheduler on this tick (R93). -/
def State.sentNow (s : State) : Nat := if s.lanes.onTick = s.tick then s.lanes.sent else 0

/-- Counts a delivery in SCH_DISP (R103) and among the tick's (R93). -/
def State.countDisp (s : State) : State :=
  { s.setPair Reg.SCH_DISP_L Reg.SCH_DISP_H ((s.pair Reg.SCH_DISP_L Reg.SCH_DISP_H + 1) % 2 ^ 64) with
    lanes := { s.lanes with onTick := s.tick, sent := s.sentNow + 1 } }

/-- The scheduler may deliver to one more target on this tick; what comes over the near path does not count (R93). -/
def State.mayDeliver (s : State) (f : Flight) : Bool :=
  match f.org with
  | .queue _ _ => decide (s.sentNow < 4)
  | .near _ _ => true

/-- A delivery of the scheduler is counted; one of the near path is none (R93, R103). -/
def State.countOrg (s : State) (f : Flight) : State :=
  match f.org with
  | .queue _ _ => s.countDisp
  | .near _ _ => s

/-- The first action a voter has agreed on and not yet passed enters the near FIFO 2 ticks later, where it has room
(R121). -/
def State.passKept (s : State) (ttype target : Nat) (parity : Bool) : State :=
  let v := s.voter (voterKey ttype target)
  match v.kept.find? (!·.passed) with
  | none => s
  | some k =>
    if 8 ≤ (s.targetFifo ttype target).length ∨ s.tick < k.since + 2 ∨ s.mayDeliver k.fl = false then s
    else
      let s := s.setVoter (voterKey ttype target)
        { v with kept := v.kept.map fun x => if x.fl.same k.fl then { x with passed := true } else x }
      let s := { s with refs := s.refs.filter fun r => !r.fl.same k.fl }
      (s.pushFifo ttype target { k.fl with bad := parity }).countOrg k.fl

/-- A guarded action for a context goes to every replica of its triple (R120). -/
def State.deliverTriple (s : State) (r : WheelRef) : State :=
  let cs := s.triple r.fl.target
  if cs = [] ∨ cs.any (fun c => decide (8 ≤ (s.targetFifo 5 c).length)) then s
  else
    let s := { s with refs := s.refs.erase r }
    (cs.foldl (fun s c => (s.pushFifo 5 c { r.fl with target := c }).judgeFifo 5 c)
      s).countDisp

/-- A ready chain feeds its next action into the target FIFO, which holds 8 entries (R49, R92). A
guarded action for a cuff, pair, engine or port goes by its copies instead (R120). Then the head is judged. -/
def State.deliverTo (s : State) (ttype target : Nat) (parity : Bool) : State :=
  match s.chainHead ttype target with
  | none => (s.passKept ttype target parity).judgeFifo ttype target
  | some r =>
    if s.isGuarded r.fl ∧ ttype ≠ 5 then (s.passKept ttype target parity).judgeFifo ttype target
    else if 4 ≤ s.sentNow then s
    else if s.isGuarded r.fl then s.deliverTriple r
    else if 8 ≤ (s.targetFifo ttype target).length then s.judgeFifo ttype target
    else
      let s := { s with refs := s.refs.erase r }
      let s := s.pushFifo ttype target { r.fl with bad := parity && (decide (ttype = 1) || decide (ttype = 2)) }
      s.countDisp.judgeFifo ttype target

/-- FIFO_DELIVERY (R92), at most 4 on a tick (R93). -/
def execFifoDelivery (ttype target : Nat) (parity : Bool) (s : State) : Host.Outcome State Fault Refusal :=
  onUnit (okTtype ttype && okTarget ttype target) (if s.service then s.deliverTo ttype target parity else s)

/-! ### MARK and IRQ (R80) -/

/-- The status of a mark record (R43, R89). -/
def State.markStatus (s : State) (f : Flight) : Nat :=
  if f.late then Code.lateExecuted else if f.act.log ∧ s.tbValid = false then Code.timeInvalid else Code.ok

/-- MARK: a mark record whatever the LOG bit (R80, R89). -/
def State.actMark (s : State) (ttype target : Nat) : State :=
  match s.headReady ttype target 0x0F with
  | some f => ((((s.popFifo ttype target).taken ttype target).execRecord f.act f.org (s.markStatus f) f.due)).judgeFifo ttype target
  | none => s

def execMark (ttype target : Nat) (s : State) : Host.Outcome State Fault Refusal :=
  onUnit (okTtype ttype && okTarget ttype target) (s.actMark ttype target)

/-- IRQ: raises an action source of the queue's tenant (R80, R273). -/
def State.actIrq (s : State) (ttype target : Nat) : State :=
  match s.headReady ttype target 0x10 with
  | some f => (s.raisePriv (s.tenantOf f.org) (f.act.arg % 16)).finish f
  | none => s

def execIrq (ttype target : Nat) (s : State) : Host.Outcome State Fault Refusal :=
  onUnit (okTtype ttype && okTarget ttype target) (s.actIrq ttype target)

/-! ### Seams (R97, R98) -/

/-- The active seams. -/
def State.activeSeams (s : State) : Nat := s.seams.length

/-- A queue arrives at the SEAM at its HEAD (R97, R98). One that arrives when the count has been reached and the release is
still to come is a member too, and is released with the others: R97 does not speak of it (log entry 28). -/
def State.arrive (s : State) (q : Nat) (a : Action) : State :=
  let i := bits a.arg 0 16
  let n := bits a.arg 16 11
  let t := bits a.arg 32 16
  let m := s.seamOf i
  let d := s.queue q
  if m.members = [] then
    if 4096 ≤ s.activeSeams then
      if s.bit Reg.SCH_STATUS 1 then s else (s.setBit Reg.SCH_STATUS 1 true).raise 0x3412
    else
      let s := s.setSeam i { count := n, members := [q], times := [(q, a.time)], latest := a.time,
                             expires := if t = 0 then none else some (s.tick + t * 16384) }
      (s.setQueue q { d with state := QState.seamWait }).setBit Reg.SCH_STATUS 1 false
  else if m.count ≠ n then s.stopQueue q Code.rejectClass
  else
    (s.setSeam i { m with members := m.members ++ [q], times := m.times ++ [(q, a.time)],
                          latest := s.later m.latest a.time }).setQueue q
      { d with state := QState.seamWait }

/-- A SEAM is at HEAD and every earlier action has executed or been dropped (R97). -/
def State.seamArrives (s : State) (q : Nat) : State :=
  let d := s.queue q
  if s.service = false ∨ d.state ≠ QState.run ∨ d.ttype = 0 ∨ d.filled = 0 ∨ s.inFlight q ≠ [] then s
  else s.onDesc q fun s => match s.readEntry q d.head with
    | .bad c s => s.entryFault q d.head c
    | .ok a s => if a.op = 0x0A ∧ s.entryOk q a then s.arrive q a else s

/-- SEAM (R97). -/
def execSeam (queue : Nat) (s : State) : Host.Outcome State Fault Refusal := onUnit (okQueue queue) (s.seamArrives queue)

/-- A member leaves a released seam: its SEAM retires, with a record where LOG is set. -/
def State.leaveSeam (s : State) (q : Nat) : State :=
  let d := s.queue q
  let s := s.setQueue q { d with state := QState.run }
  match s.readEntry q d.head with
  | .bad c s => s.entryFault q d.head c
  | .ok a s => (s.stepHead q a.time).logExec a (.queue q d.head) Code.ok s.tb.now

/-- All members have arrived and the latest seam time has come (R97). -/
def State.seamDue (s : State) (i : Nat) : Bool :=
  let m := s.seamOf i
  decide (m.members ≠ []) && decide (m.count ≤ m.members.length) && s.reached m.latest

def State.releaseSeam (s : State) (i : Nat) : State :=
  let m := s.seamOf i
  m.members.foldl (fun s q => s.leaveSeam q) ((s.setSeam i {}).setBit Reg.SCH_STATUS 1 false)

/-- SEAM_RELEASE (R97). -/
def execSeamRelease (id : Nat) (s : State) : Host.Outcome State Fault Refusal :=
  onUnit (okSeam id) (if s.service ∧ s.seamDue id then s.releaseSeam id else s)

/-- The timeout of the first arrival expires: every arrived member stops with STALL (R98). -/
def State.expireSeam (s : State) (i : Nat) : State :=
  let m := s.seamOf i
  m.members.foldl (fun s q => s.stopQueue q Code.stall) ((s.setSeam i {}).setBit Reg.SCH_STATUS 1 false)

/-- SEAM_TIMEOUT (R98); in HALT and DOZE the scheduler and the queues are frozen (R315, R324). -/
def execSeamTimeout (id : Nat) (s : State) : Host.Outcome State Fault Refusal :=
  onUnit (okSeam id) (match (s.seamOf id).expires with
    | some t => if t ≤ s.tick ∧ s.frozen = false then s.expireSeam id else s
    | none => s)

/-! ### Stop, resume, flush (R99, R100) -/

/-- STOP halts the queue stage. -/
def State.qStop (s : State) (q : Nat) : State :=
  let d := s.queue q
  let s := s.unarrive q
  if d.state = QState.flushing then s.setQueue q { d with resumeSt := QState.stopped }
  else s.setQueue q { d with state := QState.stopped }

/-- The target of a guarded queue stands at Apron for a lost vote (R122). -/
def State.voteHeld (s : State) (q : Nat) : Bool :=
  let d := s.queue q
  decide (d.cls = 2) && (decide (d.ttype = 1) || decide (d.ttype = 2)) && (s.cuff (serveCuff d.ttype d.target)).apVote

/-- RESUME; a target that stands at Apron for a lost vote leaves it, a pair in state OFF (R99, R122). -/
def State.qResume (s : State) (q : Nat) : State :=
  let d := s.queue q
  let s := s.unarrive q
  let s := if d.state = QState.flushing then s.setQueue q { d with resumeSt := QState.run, err := Code.ok }
    else s.setQueue q { d with state := QState.run, err := Code.ok }
  if s.voteHeld q = false then s
  else if d.ttype = 1 then (s.endCause d.target .vote).rejudge 1 d.target
  else
    (((s.setPairSt d.target { s.pairSt d.target with st := 0 }).endCause (2 * d.target) .vote).endCause (2 * d.target + 1)
      .vote).rejudge 2 d.target

/-- An action at the head of its cuff's FIFO within 12 ticks of its time stays (R96). -/
def State.sticksAt (s : State) (f : Flight) : Bool :=
  match s.targetFifo f.ttype f.target with
  | [] => false
  | h :: _ => (decide (f.ttype = 1) || decide (f.ttype = 2)) && decide (h = f) && !s.ahead f.act.time 193

/-- Rewrites unsealed entries from index `i` on as NOPs with LOG cleared (R100). -/
def State.blankEntries (s : State) (q i : Nat) : Nat → State
  | 0 => s
  | n + 1 =>
    match s.readEntry q i with
    | .bad c s => s.entryFault q i c
    | .ok a s =>
      if a.sealed then s.blankEntries q ((i + 1) % (s.queue q).size) n
      else
        let e := toEntry { a with op := 0, sub := 0, arg := 0, log := false }
        match s.slabWrite (s.queue q).tenant ((s.queue q).entryAddr i) 16 e 0 with
        | .bad c s => s.entryFault q i c
        | .ok _ s => s.blankEntries q ((i + 1) % (s.queue q).size) n

/-- FLUSH cancels the queue's unsealed work; the state reads flushing until FLUSH_END. -/
def State.qFlush (s : State) (q : Nat) : State :=
  let d := s.queue q
  let s := s.unarrive q
  let s := (s.withdraw fun f => f.ofQueue q && !f.act.sealed && !s.sticksAt f).judgeAll
  let back := if d.state = QState.flushing then d.resumeSt
    else if d.state = QState.seamWait then QState.run else d.state
  let e := s.queue q
  let s := s.blankEntries q e.head e.filled
  let d' := s.queue q
  s.setQueue q { d' with state := QState.flushing, resumeSt := if d'.state = d.state then back else d'.state }

/-- FLUSH_END (R100): the queue takes its state again, and a held doorbell is checked (R86). -/
def State.flushEnd (s : State) (q : Nat) : State :=
  let d := s.queue q
  if d.state ≠ QState.flushing then s
  else
    let s := s.setQueue q { d with state := d.resumeSt, heldDb := none }
    match d.heldDb with
    | none => s
    | some i => s.doorbell d.tenant q i

def execFlushEnd (queue : Nat) (s : State) : Host.Outcome State Fault Refusal := onUnit (okQueue queue) (s.flushEnd queue)

/-! ### QM and TEN_QSEL -/

/-- QM_QDESC0 to 3 take the descriptor of the selected queue (R104). -/
def State.qmSnap (s : State) (q : Nat) : State :=
  let v := (s.queue q).desc
  (List.range 4).foldl (fun s i => s.setN (Reg.QM_QDESC i) (bits v (32 * i) 32)) s

/-- A write of QM_QCTRL for the selected queue (R99, R100, R104, R385). -/
def State.writeQctrl (s : State) (v : Nat) : State :=
  let q := s.fld Reg.QM_QSEL 0 20
  if 2 ≤ setCount v [0, 1, 2] then (s.cmdRefused 9).setFld Reg.QM_QSTAT 0 8 Code.rejectClass
  else
    let gone := decide ((s.queue q).state = QState.free)
    let s := s.setFld Reg.QM_QSTAT 0 8 (if gone then Code.rejectClass else Code.ok)
    let s := if gone then s
      else if bitAt v 0 then s.qStop q
      else if bitAt v 1 then s.qResume q
      else if bitAt v 2 then s.qFlush q
      else s
    if bitAt v 3 then s.qmSnap q else s

/-- QM_QCTRL_STOP (R99). -/
def execQmQctrlStop (value : Nat) (s : State) : Host.Outcome State Fault Refusal :=
  .next (s.pf 9 0x54 (Nat.lor value 1) (fun s => s.writeQctrl (Nat.lor value 1)))

/-- QM_QCTRL_RESUME (R99). -/
def execQmQctrlResume (value : Nat) (s : State) : Host.Outcome State Fault Refusal :=
  .next (s.pf 9 0x54 (Nat.lor value 2) (fun s => s.writeQctrl (Nat.lor value 2)))

/-- QM_QCTRL_FLUSH (R100). -/
def execQmQctrlFlush (value : Nat) (s : State) : Host.Outcome State Fault Refusal :=
  .next (s.pf 9 0x54 (Nat.lor value 4) (fun s => s.writeQctrl (Nat.lor value 4)))

/-- QM_QCTRL_REFRESH (R104). -/
def execQmQctrlRefresh (value : Nat) (s : State) : Host.Outcome State Fault Refusal :=
  .next (s.pf 9 0x54 (Nat.lor value 8) (fun s => s.writeQctrl (Nat.lor value 8)))

/-- A write of QM_QSEL snapshots the named descriptor (R104). -/
def State.writeQsel (s : State) (v : Nat) : State := (s.setN Reg.QM_QSEL (v % 2 ^ 20)).qmSnap (v % 2 ^ 20)

/-- QM_QSEL (R104). -/
def execQmQsel (value : Nat) (s : State) : Host.Outcome State Fault Refusal := .next (s.pf 9 0x40 value (fun s => s.writeQsel value))

/-- A write of TEN_QSEL snapshots the descriptor of an owned queue, or 0 (R105). -/
def State.writeTenQsel (s : State) (fn v : Nat) : State :=
  let q := v % 2 ^ 20
  let own := decide ((s.queue q).state ≠ QState.free) && decide ((s.queue q).tenant = fn)
  let d := if own then (s.queue q).desc else 0
  let s := s.setN (Reg.TEN_QSEL fn) q
  (List.range 4).foldl (fun s i => s.setN (Reg.TEN_QINFO fn i) (bits d (32 * i) 32)) s

/-- TEN_QSEL (R105). -/
def execTenQsel (fn value : Nat) (s : State) : Host.Outcome State Fault Refusal :=
  onUnit (okFn fn) (s.ten fn 0x210 value (fun s => s.writeTenQsel fn value))

end Sys2Proof.Machine
end

