-- ==== Sys2Proof/Machine/Feedback.lean ====
section
/-! DEFINITION. Feedback ports (R202-R223): decoding, speed, compare and hits, latches, serial words. -/

namespace Sys2Proof.Machine

open Sys2Proof

/-! ### Compare and hits (R212-R214) -/

/-- FBK_CMPCFG.DIR: 1 compares downwards. -/
def State.cmpDown (s : State) (p : Nat) : Bool := s.bit (Reg.FBK_CMPCFG p) 1

/-- CMP was written or adjusted on this tick. -/
def State.cmpNew (s : State) (p : Nat) : Bool := (s.port p).cmpTick == some s.tick

/-- The CMP a hit is judged against: on the tick of a write the one before it (R213). -/
def State.judgeCmp (s : State) (p : Nat) : Nat := if s.cmpNew p then (s.port p).cmpOld else s.fbkCmp p

/-- CMP after n hits; a SPACING of 0 clears EN (R212). A CMP written on this tick stands without an advance (R213). -/
def State.advanceCmp (s : State) (p n : Nat) (stands : Bool) : State :=
  let d := s.regN (Reg.FBK_SPACING p)
  if d = 0 then s.setBoth (Reg.FBK_CMPCFG p) 0 1 0
  else if stands then s
  else if s.cmpDown p then s.setFbkCmp p (s.fbkCmp p + posMod - n * d % posMod) else s.setFbkCmp p (s.fbkCmp p + n * d)

/-- One hit: counted, raised, and kept for action, unless it is held or four wait already (R214, R321). -/
def State.keepHit (s : State) (p stamp : Nat) : State :=
  let s := (s.incWrap (Reg.FBK_HSTAT p) 16 16).raise (0x3280 + 4 * p + 1)
  let k := s.port p
  if (s.bit (Reg.FBK_CFG p) 7 ∧ s.fbkStat p 0 = false) ∨ s.service = false then s.fbkErr p 5
  else if 4 ≤ k.hits.length then s.fbkErr p 3
  else s.setPort p { k with hits := k.hits ++ [stamp] }

/-- n hits with one stamp; beyond 260 only their number is kept, since at most four can wait. -/
def State.takeHits (s : State) (p n stamp : Nat) (stands : Bool := false) : State :=
  let s := (List.range (min n 260)).foldl (fun s _ => s.keepHit p stamp) s
  let s := s.setFld (Reg.FBK_HSTAT p) 16 16 (s.fld (Reg.FBK_HSTAT p) 16 16 + (n - 260))
  s.advanceCmp p n stands

/-- A new CMP at or behind the position takes a catch-up hit on this tick, once (R213). -/
def State.catchUp (s : State) (p : Nat) : State :=
  let x := s.fbkPos p
  let c := s.fbkCmp p
  let d := if s.cmpDown p then (c + posMod - x) % posMod else (x + posMod - c) % posMod
  if s.bit (Reg.FBK_CMPCFG p) 0 ∧ (s.port p).caught = false ∧ d < 2 ^ 39 then
    (s.setPort p { s.port p with caught := true }).takeHits p 1 s.tb.now
  else s

/-- A count has taken the position to where it stands (R212); on the tick of a new CMP that one is judged after it
(R213). -/
def State.compareCount (s : State) (p : Nat) (up : Bool) (stamp : Nat) : State :=
  let new := s.cmpNew p
  let s := if s.bit (Reg.FBK_CMPCFG p) 0 ∧ s.cmpDown p = !up ∧ s.fbkPos p = s.judgeCmp p then
      s.takeHits p 1 stamp (new && (s.port p).cmpSet) else s
  if new then s.catchUp p else s

/-! ### Taking a frame or an edge back (R207, R218) -/

/-- The registers that taking back puts back whole. -/
def frameRegs (p : Nat) : List Nat :=
  [Reg.FBK_ETIME_L p, Reg.FBK_ETIME_H p, Reg.FBK_SPEED_L p, Reg.FBK_SPEED_H p, Reg.FBK_SSIRAW_L p, Reg.FBK_SSIRAW_H p,
    Reg.FBK_LPOS_L p, Reg.FBK_LPOS_H p, Reg.FBK_LSPD_L p, Reg.FBK_LSPD_H p, Reg.FBK_LTIME_L p, Reg.FBK_LTIME_H p]

/-- What stands before a frame or an edge of a time is taken. -/
def State.beforeFrame (s : State) (p time : Nat) : Frame :=
  let k := s.port p
  { regs := (frameRegs p).map s.regN, pos := s.fbkPos p, stat := s.fld (Reg.FBK_STATUS p) 0 4, cmp := s.fbkCmp p,
    hitN := s.fld (Reg.FBK_HSTAT p) 16 16, time := time, en := s.bit (Reg.FBK_CMPCFG p) 0,
    ldly := (s.fld (Reg.FBK_LDLY p) 0 24, s.fld (Reg.FBK_LDLY p) 0 24), latches := k.latches, prevPos := k.prevPos,
    lastTick := k.lastTick, lastCount := k.lastCount, trail := k.trail }

/-- What it has done: the advance of CMP, its hits, the latches it took, and whether it cleared EN. -/
def State.afterFrame (s : State) (p : Nat) (f : Frame) : Frame :=
  { f with cmp := (s.fbkCmp p + posMod - f.cmp) % posMod, hitN := (s.fld (Reg.FBK_HSTAT p) 16 16 + 2 ^ 16 - f.hitN) % 2 ^ 16,
           en := f.en && !s.bit (Reg.FBK_CMPCFG p) 0, ldly := (f.ldly.1, s.fld (Reg.FBK_LDLY p) 0 24),
           latches := f.latches.filter fun l => !(s.port p).latches.contains l }

/-- A load or a write that comes after a frame or an edge stands when that is taken back. -/
def State.standing (s : State) (p : Nat) (g : Frame → Frame) : State :=
  let k := s.port p
  if k.undo = none ∧ k.quad = none then s
  else s.setPort p { k with undo := k.undo.map g, quad := k.quad.map fun q => (q.1, q.2.1, q.2.2.map g) }

/-- The position, CMP, EN and the line delay are put back, but for what has been written since. -/
def State.undoValues (s : State) (p : Nat) (f : Frame) : State :=
  let s := ((frameRegs p).zip f.regs).foldl (fun s e => s.setN e.1 e.2) s
  let s := if f.posStands then s else s.setFbkPos p f.pos
  let s := if f.cmpStands then s else s.setFbkCmp p (s.fbkCmp p + posMod - f.cmp)
  let s := if f.en then s.setBoth (Reg.FBK_CMPCFG p) 0 1 1 else s
  let s := if s.fld (Reg.FBK_LDLY p) 0 24 = f.ldly.2 then s.setFld (Reg.FBK_LDLY p) 0 24 f.ldly.1 else s
  s.setFld (Reg.FBK_HSTAT p) 16 16 (s.fld (Reg.FBK_HSTAT p) 16 16 + 2 ^ 16 - f.hitN)

/-- A frame or an edge is taken back: DIR and SPDVALID as before, a standstill found since stands, and PVALID holds only where it
held before or has been set since. Its hits that still wait are not acted on, and its latches wait again. -/
def State.undoFrame (s : State) (p : Nat) (f : Frame) : State :=
  let s := s.undoValues p f
  let still := s.fbkStat p 2
  let valid := s.fbkStat p 0 && (bitAt f.stat 0 || f.validStands)
  let s := s.setFld (Reg.FBK_STATUS p) 0 4 f.stat
  let s := (s.setFbkStat p 0 valid).setFbkStat p 2 (still || bitAt f.stat 2)
  let s := if still then s.setPair (Reg.FBK_SPEED_L p) (Reg.FBK_SPEED_H p) 0 else s
  let k := s.port p
  s.setPort p { k with ended := none, undo := none, quad := none, prevPos := f.prevPos, lastTick := f.lastTick,
                       lastCount := f.lastCount, trail := if f.posStands then k.trail else f.trail,
                       hits := k.hits.filter (· ≠ f.time), latches := f.latches ++ k.latches }

/-! ### Incremental decoding (R206-R211) -/

/-- The window K = c * 2^WIN in counts (R210). -/
def State.speedSpan (s : State) (p : Nat) : Nat := s.likeSpan p * 2 ^ min 8 (s.fld (Reg.FBK_SPDCFG p) 0 4)

def State.setSpeed (s : State) (p v : Nat) : State :=
  s.setPair (Reg.FBK_SPEED_L p) (Reg.FBK_SPEED_H p) (min (2 ^ 40 - 1) v)

/-- The speed window restarts (R207, R210). -/
def State.restartSpeed (s : State) (p : Nat) (first : List Nat) : State :=
  ((s.setPort p { s.port p with likes := first }).setSpeed p 0).setFbkStat p 3 false

/-- A counted edge updates the speed from the like edge k counts ago (R210). -/
def State.speedEdge (s : State) (p stamp : Nat) : State :=
  let k := s.port p
  let l := (stamp :: k.likes).take (s.speedSpan p + 1)
  let s := s.setPort p { k with likes := l }
  let c := s.likeSpan p
  let n := (l.length - 1) / c * c
  if n = 0 then s
  else (s.setSpeed p (n * 24000000000 * 256 / s.minus stamp (l.getD n 0))).setFbkStat p 3 true

/-- A counted edge: position, time, direction, speed and compare. A load on the same tick stands (R209). Edges closer than 30
ticks set OVERSPEED (R206). -/
def State.countEdge (s : State) (p : Nat) (up : Bool) (stamp : Nat) : State :=
  let k := s.port p
  let s := s.noteSpeed p stamp
  let s := match k.lastCount with
    | some t => if s.minus stamp t < 480 then s.fbkErr p 2 else s
    | none => s
  let s := if s.fbkStat p 1 = !up then s else s.restartSpeed p []
  let s := (s.setFbkStat p 1 (!up)).setFbkStat p 2 false
  let s := s.setPair (Reg.FBK_ETIME_L p) (Reg.FBK_ETIME_H p) stamp
  let s := (s.setPort p { s.port p with lastTick := s.tick, lastCount := some stamp }).speedEdge p stamp
  if k.loaded.any fun x => x.1 == s.tick then s
  else (s.movePos p stamp (if up then s.fbkPos p + 1 else s.fbkPos p + posMod - 1)).compareCount p up stamp

/-- The direction of a change of A or B, before INV: up when A leads B (R206). -/
def quadUp (chgA a b : Bool) : Bool := if chgA then a != b else a == b

/-- A transition of this stamp has been stable for the port's input filter (R204). -/
def State.stable (s : State) (p stamp : Nat) : Bool := s.reached (s.plus stamp (s.fld (Reg.FBK_CFG p) 8 8 * 16))

/-- A and B have both changed on one tick: nothing is counted, and what the first of the two did is taken back (R207). -/
def State.illegalEdge (s : State) (p stamp : Nat) (first : Option Frame) : State :=
  let s := match first with
    | some f => s.undoFrame p f
    | none => s
  let s := s.noteSpeed p stamp
  let s := ((s.fbkErr p 1).incSat (Reg.FBK_ILLCNT p) 0 32).setFbkStat p 0 false
  (s.restartSpeed p []).fbkRecord p Code.illegalEdge 3 0 stamp

/-- The change of the other line on the tick of this one, where it has come as a row of its own. -/
def Fbk.sameTick (k : Fbk) (stamp : Nat) (a b : Bool) : Option (Nat × Bool × Option Frame) :=
  k.quad.filter fun q => decide (q.1 = stamp / 16) && (if q.2.1 then k.b != b else k.a != a)

/-- A filtered edge of A or B (R204, R206, R207); its stamp is a time of the time base (R4). Both lines change on one tick where
one row gives both, or the rows of both carry stamps of one tick. -/
def State.quadEdge (s : State) (p : Nat) (a b : Bool) (x : Nat) : State :=
  let stamp := x % s.circle
  let k := s.port p
  let chgA := k.a != a
  let chgB := k.b != b
  if s.fbkOn p 1 = false ∨ s.stable p stamp = false ∨ (chgA = false ∧ chgB = false) then s
  else
    let first := k.sameTick stamp a b
    let s := s.setPort p { k with a := a, b := b }
    if (chgA ∧ chgB) ∨ first.isSome then s.illegalEdge p stamp (first.bind (·.2.2))
    else
      let up := quadUp chgA a b != s.bit (Reg.FBK_CFG p) 4
      let counted := match s.likeSpan p with
        | 1 => chgA && (a == up)
        | 2 => chgA
        | 4 => true
        | _ => false
      let s := s.setPort p { s.port p with quad := none }
      let f := s.beforeFrame p stamp
      let t := if counted then s.countEdge p up stamp else s
      t.setPort p { t.port p with quad := some (stamp / 16, chgA, if counted then some (t.afterFrame p f) else none) }

/-- QUADRATURE_EDGE (R206). -/
def execQuadratureEdge (port : Nat) (a b : Bool) (stamp : Nat) (s : State) : Host.Outcome State Fault Refusal :=
  onUnit (okPort port) (s.quadEdge port a b stamp)

/-- The position takes FBK_LOAD (R208). -/
def State.loadPos (s : State) (p : Nat) (byZ : Bool) : State :=
  let s := s.standing p fun f => { f with posStands := true, validStands := true }
  let s := (s.movePos p s.tb.now (s.pair (Reg.FBK_LOAD_L p) (Reg.FBK_LOAD_H p))).setFbkStat p 0 true
  let s := s.setPort p { s.port p with loaded := some (s.tick, byZ) }
  if byZ ∧ s.bit (Reg.FBK_CMPCFG p) 2 then
    (s.standing p fun f => { f with cmpStands := true }).setFbkCmp p (s.pair (Reg.FBK_CMPBASE_L p) (Reg.FBK_CMPBASE_H p))
  else s

/-- A load by FBK_CTRL happened on this tick. -/
def State.loadedNow (s : State) (p : Nat) (byZ : Bool) : Bool := (s.port p).loaded == some (s.tick, byZ)

/-- A filtered rising edge of Z (R204, R208, R209). -/
def State.zEdge (s : State) (p x : Nat) : State :=
  let stamp := x % s.circle
  let z := s.fld (Reg.FBK_CFG p) 5 2
  if s.fbkOn p 1 = false ∨ s.stable p stamp = false ∨ z = 0 then s
  else
    let s := s.setPair (Reg.FBK_ZPOS_L p) (Reg.FBK_ZPOS_H p) (s.fbkPos p)
    let s := s.setPair (Reg.FBK_ZTIME_L p) (Reg.FBK_ZTIME_H p) stamp
    let s := (s.fbkRecord p Code.ok 1 0 stamp).raise (0x3280 + 4 * p)
    if z = 1 then s
    else
      let s := if s.loadedNow p false then s.fbkErr p 8 else s
      let s := s.loadPos p true
      if z = 3 then s.setBoth (Reg.FBK_CFG p) 5 2 1 else s

/-- Z_EDGE (R208). -/
def execZEdge (port stamp : Nat) (s : State) : Host.Outcome State Fault Refusal := onUnit (okPort port) (s.zEdge port stamp)

/-- A pair whose wires are checked (R205, R219). -/
def State.pairChecked (s : State) (p k : Nat) : Bool :=
  let x := s.port p
  decide (2 * k + 1 < x.count) && decide (s.fld (Reg.FBK_CFG p) 16 8 ≠ 0) &&
    match s.fbkMode p with
    | 1 => true
    | 2 => decide (k ≠ 0)
    | 3 => !s.bit (Reg.PIO_DIR x.engine) (2 * k)
    | _ => false

/-- Both wires of a pair have read the same level for longer than WFILT * 16 ticks (R205). -/
def State.wiresEqual (s : State) (p k : Nat) : Bool :=
  let x := s.cuff ((s.port p).base + 2 * k)
  let y := s.cuff ((s.port p).base + 2 * k + 1)
  x.pad == y.pad && decide (max x.padTick y.padTick + s.fld (Reg.FBK_CFG p) 16 8 * 16 < s.tick)

/-- A serial frame in progress is discarded (R218). -/
def State.dropFrame (s : State) (p : Nat) : State :=
  ((s.setPort p { s.port p with reqAt := none, line := [] }).setFbkStat p 4 false).fbkErr p 7 |>.fbkRecord p Code.ok 5 0 s.tb.now

/-- The wires of a pair have agreed too long: reported once, until they disagree again (R205). -/
def State.wiresAgree (s : State) (p k : Nat) : State :=
  if s.pairChecked p k = false ∨ s.fbkOn p (s.fbkMode p) = false ∨ s.wiresEqual p k = false ∨ s.bit (Reg.FBK_STATUS p) (8 + k) then s
  else
    let s := ((s.setBit (Reg.FBK_STATUS p) (8 + k) true).fbkErr p 0).setFbkStat p 0 false
    let s := s.fbkRecord p Code.wireFault 3 k s.tb.now
    if s.fbkMode p = 2 ∧ k = 1 ∧ (s.port p).reqAt.isSome then s.dropFrame p else s

/-- WIRE_FAULT (R205). -/
def execWireFault (port wires : Nat) (s : State) : Host.Outcome State Fault Refusal :=
  onUnit (okPort port && okWires wires) (s.wiresAgree port wires)

/-- A fault of the data pair stands during a frame, which it discards (R218). -/
def State.dataFault (s : State) (p : Nat) : Bool :=
  decide (s.fbkMode p = 2) && (s.port p).reqAt.isSome && s.bit (Reg.FBK_STATUS p) 9

/-- The wires of a pair disagree again (R205); a fault that stood at the request has been there during the frame (R218). -/
def State.wiresDiffer (s : State) (p k : Nat) : State :=
  let b := (s.port p).base + 2 * k
  if s.frozen ∨ (s.cuff b).pad = (s.cuff (b + 1)).pad then s
  else (if k = 1 ∧ s.dataFault p then s.dropFrame p else s).setBit (Reg.FBK_STATUS p) (8 + k) false

/-- WIRES_DISAGREE (R205). -/
def execWiresDisagree (port wires : Nat) (s : State) : Host.Outcome State Fault Refusal :=
  onUnit (okPort port && okWires wires) (s.wiresDiffer port wires)

/-- No counted edge or frame for STILL * 1,024 ticks (R211). -/
def State.standStill (s : State) (p : Nat) : State :=
  let t := s.fld (Reg.FBK_SPDCFG p) 8 24
  if s.fbkMode p = 0 ∨ s.frozen ∨ t = 0 ∨ s.fbkStat p 2 ∨ s.tick < (s.port p).lastTick + t * 1024 then s
  else (((s.noteSpeed p s.tb.now).setSpeed p 0).setFbkStat p 2 true).raise (0x3280 + 4 * p + 2)

/-- STANDSTILL (R211). -/
def execStandstill (port : Nat) (s : State) : Host.Outcome State Fault Refusal := onUnit (okPort port) (s.standStill port)

/-! ### Acting on hits (R214) -/

/-- A hit entry is refused. -/
def State.refuseHit (s : State) (p code stamp : Nat) : State :=
  ((s.fbkErr p 4).setFld (Reg.FBK_HSTAT p) 0 8 code).fbkRecord p code 4 0 stamp

/-- The action of a hit. -/
def State.hitEntry (s : State) (p stamp : Nat) : Action :=
  let k := Reg.FBK_HTPL p
  let off := signed 32 (s.regN (Reg.FBK_HOFF p))
  { time := if 0 ≤ off then s.plus stamp off.toNat else s.minus stamp (-off).toNat,
    op := s.fld k 0 8, sub := s.fld k 8 8, late := s.fld k 16 2, log := s.bit k 18, sealed := s.bit k 19,
    arg := s.pair (Reg.FBK_HARG_L p) (Reg.FBK_HARG_H p) % 2 ^ 48 }

/-- QACT: the port submits the entry; checks 2 to 6 of R85 judge it. -/
def State.hitQueued (s : State) (p stamp : Nat) : State :=
  let q := s.fld (Reg.FBK_HQUEUE p) 0 20
  let d := s.queue q
  let a := s.hitEntry p stamp
  if d.state = QState.free ∨ d.ttype = 0 ∨ d.tenant ≠ (s.port p).owner then s.refuseHit p Code.rejectQuota stamp
  else if d.size - 1 ≤ d.filled then s.refuseHit p Code.queueFull stamp
  else
    let code := s.checkEntry q a
    if code ≠ Code.ok then s.refuseHit p code stamp
    else match s.slabWrite d.tenant (d.entryAddr d.tail) 16 (toEntry a) 0 with
      | .ok _ s => s.acceptEntry q a
      | .bad c s => s.entryFault q d.tail c

/-- A cuff belongs to the set of a target: the cuff itself, or a leg of the pair. -/
def targetIs (ttype target kind id : Nat) : Bool :=
  match kind with
  | 1 => (decide (ttype = 1) && decide (target = id)) || (decide (ttype = 2) && decide (target = id / 2))
  | 2 => decide (ttype = 5) && decide (target = id)
  | 3 => decide (ttype = 3) && decide (target = id)
  | 4 => decide (ttype = 4) && decide (target = id)
  | _ => false

/-- A near-path port targets the resource. -/
def State.grantTargets (s : State) (kind id : Nat) : Bool :=
  s.ctxs.any fun e => decide (e.2.st ≠ .free) && e.2.ports.any fun p => targetIs p.2.ttype p.2.target kind id

/-- A cuff a port may toggle: no queue or near-path port acts on it or on its pair (R214). -/
def State.toggleFits (s : State) (p c : Nat) : Bool :=
  let k := s.cuff c
  decide (k.owner = (s.port p).owner) && decide (s.cuffMode c = 0) && !s.pairEn (c / 2)
    && !(s.queues.any fun e => decide (e.2.state ≠ QState.free) && targetIs e.2.ttype e.2.target 1 c) && !s.grantTargets 1 c

/-- When a toggle is due at its cuff: its time, or the tick it reaches the cuff where that has passed (R214). -/
def State.toggleDue (s : State) (g : Nat) : Nat := if s.ahead g 1 then g else s.tb.now

/-- A waiting hit is acted on, one per 16 ticks. -/
def State.actHit (s : State) (p : Nat) : State :=
  let k := s.port p
  match k.hits with
  | [] => s
  | t :: rest =>
    if s.service = false ∨ (k.hitTick.any fun x => decide (s.tick < x + 16)) then s
    else
      let s := s.setPort p { k with hits := rest, hitTick := some s.tick }
      let s := if s.bit (Reg.FBK_CMPCFG p) 3 then s.hitQueued p t else s
      if s.bit (Reg.FBK_CMPCFG p) 4 then
        let g := s.plus t (s.fld (Reg.FBK_TDLY p) 0 24)
        let s := if s.ahead g 1 then s else s.fbkErr p 9
        s.setPort p { s.port p with toggles := (s.port p).toggles ++ [s.toggleDue g] }
      else s

/-- HIT_ACTION (R214). -/
def execHitAction (port : Nat) (s : State) : Host.Outcome State Fault Refusal := onUnit (okPort port) (s.actHit port)

/-- When the cuff can make a toggle of time `t` under the spacing rules of R52. -/
def State.toggleTime (s : State) (c t : Nat) : Nat :=
  match s.legalFrom c { Action.zero with op := 0x03, time := t } with
  | some u => s.later t u
  | none => t

/-- The toggle cuff toggles at its time, or on the first tick R52 allows, which sets STRETCH; a toggle of a cuff that is the
port's no longer is dropped. -/
def State.toggleHit (s : State) (p : Nat) : State :=
  let k := s.port p
  let c := s.fld (Reg.FBK_CMPCFG p) 16 10
  match k.toggles with
  | [] => s
  | t :: rest =>
    let x := s.cuff c
    let g := s.toggleTime c t
    let u := s.setPort p { k with toggles := rest }
    if s.service = false ∨ x.apron ∨ x.held ∨ s.reached g = false then s
    else if s.toggleFits p c = false then u
    else
      let s := if g = t then u else u.cufErr c 0
      let s := s.driveCuff c (if x.driven then !x.level else s.activeLevel c) g
      s.setCuff c { s.cuff c with lastT := some g }

/-- HIT_TOGGLE (R214). -/
def execHitToggle (port : Nat) (s : State) : Host.Outcome State Fault Refusal := onUnit (okPort port) (s.toggleHit port)

/-! ### Serial words (R216-R219) -/

/-- SSI word length, position bits, clock period and recovery time in effect (R216, R218, R223). -/
def State.ssiWord (s : State) (p : Nat) : Nat := max 8 (min 48 (s.fld (Reg.FBK_SSICFG p) 0 6))
def State.ssiPos (s : State) (p : Nat) : Nat := min (s.ssiWord p) (max 8 (min 40 (s.fld (Reg.FBK_SSICFG p) 8 6)))
def State.ssiClk (s : State) (p : Nat) : Nat := max 150 (min 15000 (s.fld (Reg.FBK_SSICLK p) 0 16)) / 2 * 2
def State.ssiTm (s : State) (p : Nat) : Nat := s.fld (Reg.FBK_SSITM p) 0 16

/-- The data line of pair 1 has been high for SSITM ticks (R216). -/
def State.lineRested (s : State) (p : Nat) : Bool :=
  let c := s.cuff ((s.port p).base + 2)
  c.pad && decide (c.padTick + s.ssiTm p ≤ s.tick)

/-- The clock edges after the first fall: i counts half periods from the request. -/
def ssiEdges (plus : Nat → Nat) (half : Nat) (inv : Bool) (n : Nat) : List (Nat × Bool) :=
  (List.range (2 * n + 1)).map fun i => (plus ((i + 1) * half), (decide (i % 2 = 0)) != inv)

/-- The clock cuff of a wire takes its edges from the request on, unless it stands at Apron; they are made as their times
come (R216, R72). -/
def State.clockWire (s : State) (c : Nat) (inv : Bool) (r half n : Nat) : State :=
  if (s.cuff c).apron then s
  else
    let es := (r, inv) :: ssiEdges (fun d => s.plus r (d * 16)) half inv n
    (s.setCuff c { s.cuff c with edges := es }).settleCuff c

/-- A request of time `r` starts a frame, or is skipped with SSI_BUSY (R216). -/
def State.ssiRequest (s : State) (p r : Nat) : State :=
  if s.fbkOn p 2 = false then s
  else
    let s := s.setPort p { s.port p with lastReq := s.tick }
    let k := s.port p
    if s.lineRested p = false ∨ s.fbkStat p 4 then s.fbkErr p 6
    else
      let s := (s.setPort p { k with reqAt := some r, ended := none, undo := none, line := [] }).setFbkStat p 4 true
      let half := s.ssiClk p / 2
      (s.clockWire k.base false r half (s.ssiWord p)).clockWire (k.base + 1) true r half (s.ssiWord p)

/-- A transition among those of a line, in order of their stamps. -/
def State.insertEdge (s : State) (x : Nat × Bool) : List (Nat × Bool) → List (Nat × Bool)
  | [] => [x]
  | y :: l => if s.atOrAfter x.1 y.1 then y :: s.insertEdge x l else x :: y :: l

/-- The transitions among a line's edges: an edge to the level the line has is none. -/
def changesFrom : Bool → List (Nat × Bool) → List (Nat × Bool)
  | _, [] => []
  | l, x :: xs => if x.2 = l then changesFrom l xs else x :: changesFrom x.2 xs

/-- The data line in a frame requested at `r`: the edges of the pair's P wire, and the transitions stamped since the request
that its comparator alone has made (R204, R217). It rested high at the request. -/
def State.frameLine (s : State) (p r : Nat) (rises falls : List Nat) : List (Nat × Bool) :=
  let own := (rises.map fun t => (t % s.circle, true)) ++ falls.map fun t => (t % s.circle, false)
  changesFrom true ((own.filter fun x => s.atOrAfter x.1 r && s.reached x.1).foldl (fun l x => s.insertEdge x l) (s.port p).line)

/-- The results of the line-delay measurement: each transition of the data line less the driven rising edge before it; the
measurement holds below C - 8 ticks (R217). -/
def State.lineDelays (s : State) (p r : Nat) : List Nat :=
  let c := s.ssiClk p * 16
  (s.port p).line.filterMap fun x =>
    let d := s.minus x.1 r
    let y := (d - c / 2) % c
    if d < c / 2 ∨ c - 128 ≤ y then none else some y

/-- The line delay of a frame, crumbs: FBK_LDLY as written, or the smallest result measured; a frame with none keeps the
previous value (R217). -/
def State.lineDelay (s : State) (p r : Nat) : Nat :=
  let v := s.fld (Reg.FBK_LDLY p) 0 24
  if s.bit (Reg.FBK_SSICFG p) 15 then v else ((s.lineDelays p r).min?.getD v) % 2 ^ 24

/-- The level of the data line at a time in the frame; it rested high at the request. -/
def State.lineAt (s : State) (p t : Nat) : Bool :=
  (((s.port p).line.filter fun x => s.atOrAfter t x.1).getLast?.map (·.2)).getD true

/-- The word of a frame: bit k - 1 is sampled at R + k * C + t_LD, the MSB first (R216, R218). -/
def State.lineWord (s : State) (p r ld : Nat) : Nat :=
  (List.range (s.ssiWord p)).foldl (fun w k => 2 * w + b2n (s.lineAt p (s.plus r ((k + 1) * s.ssiClk p * 16 + ld)))) 0

/-- Gray to binary. -/
def grayDecode : Nat → Nat → Nat
  | 0, g => g
  | n + 1, g => Nat.xor g (grayDecode n (g / 2))

/-- The hits of a move by `d` counts in the compare direction (R218); on the tick of a new CMP that one is judged after them
(R213). -/
def State.passHits (s : State) (p old d : Nat) (down : Bool) (time : Nat) : State :=
  let c := s.judgeCmp p
  let new := s.cmpNew p
  let g := if down then (old + posMod - c) % posMod else (c + posMod - old) % posMod
  let s := if s.bit (Reg.FBK_CMPCFG p) 0 = false ∨ s.cmpDown p ≠ down ∨ g = 0 ∨ d < g then s
    else
      let sp := s.regN (Reg.FBK_SPACING p)
      s.takeHits p (if sp = 0 then 1 else (d - g) / sp + 1) time (new && (s.port p).cmpSet)
  if new then s.catchUp p else s

/-- Latches waiting for the first frame at or after their time (R215). -/
def State.latchFrame (s : State) (p time : Nat) : State :=
  let k := s.port p
  let now := k.latches.filter fun l => s.atOrAfter time l.1
  let s := s.setPort p { k with latches := k.latches.filter fun l => !s.atOrAfter time l.1 }
  now.foldl (fun s l => s.latchAt p (s.fbkPos p) l) s

/-- A word of n bits with its position time updates position, speed, compare and latches (R218, R219). -/
def State.takeWord (s : State) (p raw n time : Nat) : State :=
  let pb := min n (s.ssiPos p)
  let top := raw % 2 ^ n / 2 ^ (n - pb)
  let x := if s.bit (Reg.FBK_SSICFG p) 14 then grayDecode pb top else top
  let s := s.setPair (Reg.FBK_SSIRAW_L p) (Reg.FBK_SSIRAW_H p) (raw % 2 ^ n)
  let k := s.port p
  let s := (s.setFbkPos p x).setFbkStat p 0 true
  let s := s.setPair (Reg.FBK_ETIME_L p) (Reg.FBK_ETIME_H p) time
  let s := s.setPort p { k with prevPos := some (x, time) }
  let s := match k.prevPos with
    | none => if s.cmpNew p then s.catchUp p else s
    | some (y, t) =>
      let d := signed pb (x + 2 ^ pb - y % 2 ^ pb)
      let a := d.natAbs
      let s := if d = 0 then s
        else ((s.setPort p { s.port p with lastTick := s.tick }).setFbkStat p 1 (decide (d < 0))).setFbkStat p 2 false
      let s := (s.setSpeed p (a * 24000000000 * 256 / s.minus time t)).setFbkStat p 3 true
      s.passHits p y a (decide (d < 0)) time
  s.latchFrame p time

/-- The last sample of a frame has been taken (R216-R218); a frame with a fault on its data pair is discarded. -/
def State.frameEnd (s : State) (p : Nat) (rises falls : List Nat) : State :=
  let k := s.port p
  match k.reqAt with
  | none => s
  | some r =>
    let old := s
    let s := s.setPort p { k with line := s.frameLine p r rises falls }
    let ld := s.lineDelay p r
    let n := s.ssiWord p
    if s.fbkOn p 2 = false ∨ s.reached (s.plus r (n * s.ssiClk p * 16 + ld)) = false then old
    else if s.dataFault p then old.dropFrame p
    else
      let w := s.lineWord p r ld
      let time := s.plus r (ld / 2)
      let f := s.beforeFrame p time
      let s := s.setFld (Reg.FBK_LDLY p) 0 24 ld
      let s := (s.setPort p { k with reqAt := none, line := [], ended := some s.tick }).setFbkStat p 4 false
      let s := s.takeWord p w n time
      s.setPort p { s.port p with undo := some (s.afterFrame p f) }

/-- SSI_FRAME_END (R218). -/
def execSsiFrameEnd (port : Nat) (rises falls : List Nat) (s : State) : Host.Outcome State Fault Refusal :=
  onUnit (okPort port) (s.frameEnd port rises falls)

/-- The data line is not high SSITM ticks after the frame: the frame is discarded (R218). -/
def State.frameLate (s : State) (p : Nat) : State :=
  let k := s.port p
  match k.ended, k.undo with
  | some t, some f =>
    let c := s.cuff (k.base + 2)
    if s.fbkOn p 2 = false ∨ s.tick < t + s.ssiTm p then s
    else if c.pad ∧ c.padTick ≤ t + s.ssiTm p then s.setPort p { k with ended := none, undo := none }
    else ((s.undoFrame p f).fbkErr p 7).fbkRecord p Code.ok 5 0 s.tb.now
  | _, _ => s

/-- SSI_RECOVERY_TIMEOUT (R218). -/
def execSsiRecoveryTimeout (port : Nat) (s : State) : Host.Outcome State Fault Refusal := onUnit (okPort port) (s.frameLate port)

/-- A periodic request (R216). -/
def State.ssiPeriod (s : State) (p : Nat) : State :=
  let n := s.regN (Reg.FBK_SSIPER p)
  if n = 0 ∨ s.fbkOn p 2 = false ∨ s.tick < (s.port p).lastReq + n then s
  else s.ssiRequest p s.tb.now

/-- SSI_PERIODIC_REQUEST (R216). -/
def execSsiPeriodicRequest (port : Nat) (s : State) : Host.Outcome State Fault Refusal := onUnit (okPort port) (s.ssiPeriod port)

/-! ### Commands and latches (R208, R213, R215) -/

/-- A write of FBK_CTRL: LOAD, REVALID, REQ in this order (R385). -/
def State.writeFbkCtrl (s : State) (p v : Nat) : State :=
  let s := if bitAt v 0 then (if s.loadedNow p true then s.fbkErr p 8 else s.loadPos p false) else s
  let s := if bitAt v 1 ∧ s.fld (Reg.FBK_STATUS p) 8 4 = 0 then
      (s.standing p fun f => { f with validStands := true }).setFbkStat p 0 true else s
  if bitAt v 2 then s.ssiRequest p s.tb.now else s

abbrev fbkPage (p : Nat) : Nat := 0x60 + p / 8

/-- FBK_CTRL_LOAD (R208). -/
def execFbkCtrlLoad (port value : Nat) (s : State) : Host.Outcome State Fault Refusal :=
  onUnit (okPort port) (s.pf (fbkPage port) (0x200 + port % 8 * 0x100) (Nat.lor value 1) (fun s => s.writeFbkCtrl port (Nat.lor value 1)))

/-- FBK_CTRL_REVALID (R208). -/
def execFbkCtrlRevalid (port value : Nat) (s : State) : Host.Outcome State Fault Refusal :=
  onUnit (okPort port) (s.pf (fbkPage port) (0x200 + port % 8 * 0x100) (Nat.lor value 2) (fun s => s.writeFbkCtrl port (Nat.lor value 2)))

/-- FBK_CTRL_REQ (R216). -/
def execFbkCtrlReq (port value : Nat) (s : State) : Host.Outcome State Fault Refusal :=
  onUnit (okPort port) (s.pf (fbkPage port) (0x200 + port % 8 * 0x100) (Nat.lor value 4) (fun s => s.writeFbkCtrl port (Nat.lor value 4)))

/-- A new CMP is about to stand: on this tick the one before it judges the hits (R213). -/
def State.noteCmp (s : State) (p : Nat) (set : Bool) : State :=
  let s := if set then s.standing p (fun f => { f with cmpStands := true }) else s
  let k := s.port p
  if s.cmpNew p then s.setPort p { k with cmpSet := k.cmpSet || set }
  else s.setPort p { k with cmpTick := some s.tick, cmpOld := s.fbkCmp p, cmpSet := set, caught := false }

/-- A write of one half of FBK_CMP (R213). -/
def State.writeCmp (s : State) (p : Nat) (high : Bool) (v : Nat) : State :=
  let s := s.noteCmp p true
  (if high then s.setN (Reg.FBK_CMP_H p) (v % 2 ^ 8) else s.setN (Reg.FBK_CMP_L p) (v % 2 ^ 32)).catchUp p

/-- FBK_CMP (R213). -/
def execFbkCmp (port : Nat) (high : Bool) (value : Nat) (s : State) : Host.Outcome State Fault Refusal :=
  onUnit (okPort port) (s.pf (fbkPage port) (0x244 + port % 8 * 0x100 + b2n high * 4) value (fun s => s.writeCmp port high value))

/-- A write of FBK_CMPADJ (R213). -/
def State.adjustCmp (s : State) (p v : Nat) : State :=
  let s := s.noteCmp p false
  (s.setFbkCmp p (s.fbkCmp p + unsigned 40 (signed 32 v))).catchUp p

/-- FBK_CMPADJ (R213). -/
def execFbkCmpadj (port value : Nat) (s : State) : Host.Outcome State Fault Refusal :=
  onUnit (okPort port) (s.pf (fbkPage port) (0x24C + port % 8 * 0x100) value (fun s => s.adjustCmp port value))

/-- FBK_LATCH at a port (R215): position and speed at T, once every edge stamped at or before T has been counted, or a
request placed at T whose frame the latch takes. -/
def State.actLatch (s : State) (p : Nat) : State :=
  match s.headReady 4 p 0x0E with
  | some f =>
    let s := s.setPort p { s.port p with latches := (s.port p).latches ++ [(f.due, bitAt f.act.sub 0)] }
    (if s.fbkMode p = 2 then s.ssiRequest p f.due else s).finish f
  | none => s

/-- FBK_LATCH (R215). -/
def execFbkLatch (port : Nat) (s : State) : Host.Outcome State Fault Refusal := onUnit (okPort port) (s.actLatch port)

/-- The ports whose mark latch watches this edge of a cuff (R215). -/
def State.markPorts (s : State) (c : Nat) (l : Bool) : List Nat :=
  (Tbl.keys s.ports).filter fun p =>
    s.fbkOn p 1 && s.bit (Reg.FBK_MARKCFG p) 10 && decide (s.fld (Reg.FBK_MARKCFG p) 0 10 = c)
      && (s.bit (Reg.FBK_MARKCFG p) 11 == !l) && (s.port p).alloc && decide ((s.cuff c).owner = (s.port p).owner)

/-- The data line of a port makes a transition in a frame (R217). -/
def State.lineEdge (s : State) (c t : Nat) (l : Bool) : State :=
  match (s.cuff c).lent with
  | .fbk p =>
    let k := s.port p
    if s.fbkMode p = 2 ∧ c = k.base + 2 ∧ k.reqAt.isSome then s.setPort p { k with line := k.line ++ [(t, l)] } else s
  | _ => s

/-- The glitch filter accepts an edge: the data line of a frame takes it; a captured one is stamped, and the stamp feeds the
mark latch (R56-R58, R215, R217). -/
def State.acceptEdge (s : State) (c : Nat) : State :=
  match (s.cuff c).filt with
  | none => s
  | some (l, t, d) =>
    if s.stampless ∨ s.tick < d then s
    else
      let s := (s.setCuff c { s.cuff c with filt := none }).lineEdge c t l
      if s.captures c l t then
        let r := s.stampEdge c l t
        if (r.cuff c).lastStamp = some t ∧ (s.cuff c).lastStamp ≠ some t then
          (r.markPorts c l).foldl (fun s p => s.setPort p { s.port p with marks := (s.port p).marks ++ [t] }) r
        else r
      else s

/-- EDGE_STAMP (R58). -/
def execEdgeStamp (cuff : Nat) (s : State) : Host.Outcome State Fault Refusal := onUnit (okCuff cuff) (s.acceptEdge cuff)

/-! ### Freezing and thawing (R222) -/

/-- The clock of a port in SSI mode rests high on P (R203). -/
def State.restSsi (s : State) (p : Nat) : State :=
  let k := s.port p
  let rest (s : State) (c : Nat) (l : Bool) : State :=
    if (s.cuff c).apron then s else (s.setCuff c { s.cuff c with edges := [] }).driveCuff c l
  if s.fbkMode p = 2 ∧ 2 ≤ k.count then rest (rest s k.base true) (k.base + 1) false else s

/-- On every entry into DOZE or HALT a port drops its frame and clears PVALID (R222). -/
def State.freezePort (s : State) (p : Nat) : State :=
  let s := if (s.port p).reqAt = none ∧ (s.port p).ended = none then s
    else s.setPort p { s.port p with reqAt := none, ended := none, undo := none, line := [] }
  (s.setFbkStat p 0 false).setFbkStat p 4 false

/-- The port takes its lines as they stand after the wake, and its clock rests (R203, R222). -/
def State.thawPort (s : State) (p : Nat) : State :=
  let k := s.port p
  (s.setPort p { k with a := (s.cuff k.base).pad, b := (s.cuff (k.base + 2)).pad }).restSsi p

end Sys2Proof.Machine
end

