-- ==== Sys2Proof/Machine/Pio.lean ====
section
/-! DEFINITION. Programmable I/O engines (R180-R201). -/

namespace Sys2Proof.Machine

open Sys2Proof

/-! ### Starting and stopping (R184, R185, R195) -/

/-- An instruction stops the engine before it executes. -/
def State.stopAt (s : State) (e err : Nat) : State := (s.stopPio e).pioErr e err

/-- An instruction is refused: the engine stops on it and REJECT_CLASS is logged (R183, R185). -/
def State.stopReject (s : State) (e err : Nat) (always : Bool) : State :=
  let s := s.stopAt e err
  if always ∨ s.pcfg e 9 then s.pioLog e s.tb.now Code.rejectClass (s.pio e).pc 0 0 0 else s

/-- Why a start is refused: a bit of PIO_ERR (R182, R184, R185, R198). -/
def State.startError (s : State) (e : Nat) : Option Nat :=
  let k := s.pio e
  if s.fld (Reg.PIO_LOOP e) 8 5 < s.fld (Reg.PIO_LOOP e) 0 5 then some 8
  else if s.pcfg e 2 ∧ k.count ≤ s.clkPin e then some 9
  else if s.bitpFits e = false then some 3
  else if (s.pioCuffs e).any (fun c => (s.cuff c).apron) then some 7
  else none

/-- A start from an address; the other effects are the caller's. A refused start leaves the engine
stopped. -/
def State.startPio (s : State) (e addr : Nat) (init : Bool) : State :=
  match s.startError e with
  | some b => s.stopAt e b
  | none =>
    let s := s.stopPio e
    let k := s.pio e
    let s := s.setPio e { k with st := 1, pc := addr % 32, left := s.fld (Reg.PIO_LOOP e) 16 16, ended := false, lastSample := none }
    let s := if init then
        (List.range k.count).foldl (fun s i => s.pinEdge e i s.tb.now (s.bit (Reg.PIO_INIT e) i)) s
      else s
    s.restClock e (s.regN (Reg.PIO_CFG e)) s.tb.now

/-- START from PIO_CTRL.ADDR (R195). -/
def State.pioStart (s : State) (e : Nat) : State :=
  if s.service = false then s
  else
    let s := s.startPio e (s.fld (Reg.PIO_CTRL e) 8 5) true
    if (s.pio e).st = 1 then s.reclock e s.tb.now else s

/-! ### Instructions (R183-R190) -/

/-- The instruction at PC starts: it completes under its word and the settings as they stand now (R196). -/
def State.grip (s : State) (e : Nat) : State :=
  let k := s.pio e
  s.setPio e { k with insn := s.imem e k.pc, cfg := s.regN (Reg.PIO_CFG e), smp := s.fld (Reg.PIO_SAMPLE e) 0 16,
                      wto := s.fld (Reg.PIO_WTO e) 0 24 }

/-- The instruction that has started takes its periods, with so many bits to shift; its HOLD periods follow. -/
def State.begin (s : State) (e todo : Nat) : State :=
  let k := s.pio e
  s.setPio e { k with st := 1, busy := true, atMet := false, todo := todo, rest := bits k.insn 4 4 }

/-- An instruction of one period occupies it, and the clock pin rests inactive there (R184, R186). -/
def State.onePeriod (s : State) (e : Nat) : State :=
  let s := s.begin e 0
  let k := s.pio e
  (s.setPio e { k with bit := k.bit + 1 }).restClock e k.cfg (s.boundary e k.bit)

/-- LEVEL: every driven pin but the clock pin takes its bit at the start of the period (R183, R186). -/
def State.doLevel (s : State) (e v : Nat) : State :=
  let t := s.boundary e (s.pio e).bit
  (List.range (s.pio e).count).foldl (fun s i =>
    if s.pcfg e 2 ∧ i = s.clkPin e then s else s.pinEdge e i t (bitAt v i)) s

/-- DIR: the pins are driven or released at the start of the period (R183, R186). -/
def State.doDir (s : State) (e v : Nat) : State :=
  let n := (s.pio e).count
  let t := s.boundary e (s.pio e).bit
  let s := s.setN (Reg.PIO_DIR e) (v % 2 ^ n)
  (List.range n).foldl (fun s i =>
    let c := s.pin e i
    if bitAt v i then s.pinEdge e i t (s.cuff c).lastLevel else (s.setCuff c { s.cuff c with edges := [] }).floatCuff c t) s

/-- LOAD with a word in the transmit FIFO. -/
def State.takeTx (s : State) (e : Nat) : State :=
  let k := s.pio e
  s.setPio e { k with txsr := k.tx.headD 0, txcnt := 32, tx := k.tx.tail }

/-- STORE to the log, the feedback port or the receive FIFO (R193, R219). -/
def State.giveRx (s : State) (e : Nat) : State :=
  let k := s.pio e
  let t := k.lastSample.getD s.tb.now
  let s := match k.forPort with
    | some p =>
      if s.fbkOn p 3 then s.takeWord p k.rxsr (min 32 (s.ssiWord p)) (s.minus t (s.fld (Reg.FBK_LDLY p) 0 24 / 2)) else s
    | none =>
      if bitAt k.cfg 8 then s.pioLog e t Code.ok k.pc 0 k.rxcnt k.rxsr
      else s.setPio e { k with rx := k.rx ++ [k.rxsr] }
  s.setPio e { s.pio e with rxsr := 0, rxcnt := 0 }

/-- The STORE that has started can deliver now. -/
def State.storeRoom (s : State) (e : Nat) : Bool :=
  (s.pio e).forPort.isSome || bitAt (s.pio e).cfg 8 || decide ((s.pio e).rx.length < 4)

/-- A LOAD with a word in the FIFO takes its period. -/
def State.doLoad (s : State) (e : Nat) : State := ((s.setPio e { s.pio e with needAt := none }).takeTx e).onePeriod e

/-- CMP (R190). -/
def State.doCmp (s : State) (e act : Nat) : State :=
  let k := s.pio e
  let ok := decide (Nat.land k.rxsr (s.regN (Reg.PIO_CMPMASK e)) = s.regN (Reg.PIO_CMP e))
  let s := s.setPio e { k with matched := ok }
  if ok ∨ act = 0 then s.onePeriod e
  else if act = 1 then (s.raise (0x3080 + 4 * e + 1)).onePeriod e
  else if act = 2 then ((s.onePeriod e).endInsn e |>.stopPio e).pioErr e 6
  else (s.setPio e { s.pio e with skip := true }).onePeriod e

/-- A reserved field of an instruction is not 0 (R183). -/
def badInsn (op opnd : Nat) : Bool :=
  if op = 4 ∨ op = 5 then decide (opnd ≠ 0)
  else if op = 6 then decide (opnd % 8 ≠ 0)
  else if op = 7 then decide (4 ≤ opnd)
  else false

/-- The effect of the instruction at PC, its AT time met, from boundary `bit`; bit j of `bs` is the j-th sample of a SAMP. A
LOAD that finds no word stalls, unless one comes on this tick (R194, R198). -/
def State.doInsn (s : State) (e bs : Nat) : State :=
  let s := s.grip e
  let k := s.pio e
  let x := k.insn
  let opnd := bits x 8 8
  let n := opnd % 32 + 1
  match bits x 0 3 with
  | 0 => (s.doLevel e opnd).onePeriod e
  | 1 => (s.doDir e opnd).onePeriod e
  | 2 => (s.begin e n).period e
  | 3 => ((s.setPio e { k with levels := bs }).begin e n).period e
  | 4 => if k.tx = [] then s.setPio e { k with st := 1, needAt := some s.tb.now } else s.doLoad e
  | 5 =>
    if s.storeRoom e then (s.giveRx e).onePeriod e
    else (s.setPio e { k with st := 4 }).noteStall e 1 s.tb.now
  | 6 => s.setPio e { k with st := 3, waitFrom := k.bit, waited := 0, waitAt := s.boundary e k.bit, atMet := false }
  | _ => s.doCmp e (opnd % 4)

/-- PIO_AT and its step. -/
def State.pioAt (s : State) (e : Nat) : Nat := s.pair (Reg.PIO_AT_L e) (Reg.PIO_AT_H e)
def State.pioStep (s : State) (e : Nat) : Nat := s.pair (Reg.PIO_AT_STEP_L e) (Reg.PIO_AT_STEP_H e)
def State.setPioAt (s : State) (e t : Nat) : State := s.setPair (Reg.PIO_AT_L e) (Reg.PIO_AT_H e) (t % s.circle)

/-- The fewest steps that put PIO_AT at least 8 ticks ahead (R188). -/
def State.stepsAhead (s : State) (e : Nat) : Nat :=
  let d := s.pioStep e
  if d = 0 then 0 else (s.minus (s.plus s.tb.now 128) (s.pioAt e) + d - 1) / d

/-- A late AT (R188); a STORE still waits for its last sample (R186). -/
def State.lateAt (s : State) (e bs : Nat) : State :=
  let t := s.pioAt e
  if s.pcfg e 7 then
    ((s.stopPio e).pioErr e 2).pioNote e t Code.queueLate 0 0
  else
    let n := s.stepsAhead e
    let s := (s.pioErr e 2).pioNote e t Code.lateExecuted 0 (min 255 (n - 1))
    let s := (s.setPioAt e (t + n * s.pioStep e)).reclock e s.tb.now
    if bits (s.imem e (s.pio e).pc) 0 3 = 5 ∧ (s.pio e).samples ≠ [] then s.setPio e { s.pio e with atMet := true }
    else s.doInsn e bs

/-- The instruction at PC is reached: its fields and pin are checked, its AT time is awaited or late, or it
executes (R183, R185, R187). -/
def State.reachInsn (s : State) (e bs : Nat) : State :=
  let k := s.pio e
  let x := s.imem e k.pc
  let op := bits x 0 3
  let opnd := bits x 8 8
  if badInsn op opnd then s.stopReject e 8 true
  else if (op = 2 ∨ op = 3 ∨ op = 6) ∧ k.count ≤ opnd / 32 then s.stopReject e 9 false
  else if bitAt x 3 ∧ k.atMet = false then
    if s.ahead (s.pioAt e) 128 then s.setPio e { k with st := 2 } else s.lateAt e bs
  else s.doInsn e bs

/-- The boundary at which a STORE may execute: it waits until the last sample has been taken (R186). -/
def State.sampleWait (s : State) (e : Nat) : Option Nat :=
  let k := s.pio e
  if k.samples ≠ [] then none
  else match k.lastSample with
    | none => some k.bit
    | some t => some (max k.bit (s.nextBit e t))

/-- The engine executes its next instruction, where that is of operation `op` and its boundary has come. A STORE waits for
the last sample, one with AT first for its time (R186, R187). -/
def State.pioRow (s : State) (e op bs : Nat) : State :=
  let k := s.pio e
  if s.service = false ∨ k.st ≠ 1 ∨ k.busy ∨ k.needAt.isSome ∨ s.reached (s.boundary e k.bit) = false
      ∨ bits (s.imem e k.pc) 0 3 ≠ op then s
  else if op = 5 ∧ (bitAt (s.imem e k.pc) 3 = false ∨ k.atMet = true) then
    match s.sampleWait e with
    | none => s
    | some b =>
      let t := s.setPio e { k with bit := b }
      if s.reached (s.boundary e b) then t.reachInsn e bs else t
  else s.reachInsn e bs

/-- PIO_LEVEL (R183). -/
def execPioLevel (engine : Nat) (s : State) : Host.Outcome State Fault Refusal := onUnit (okEngine engine) (s.pioRow engine 0 0)

/-- PIO_DIR_INSN (R183). -/
def execPioDirInsn (engine : Nat) (s : State) : Host.Outcome State Fault Refusal := onUnit (okEngine engine) (s.pioRow engine 1 0)

/-- PIO_XMIT (R186). -/
def execPioXmit (engine : Nat) (s : State) : Host.Outcome State Fault Refusal := onUnit (okEngine engine) (s.pioRow engine 2 0)

/-- PIO_SAMP (R186). -/
def execPioSamp (engine bits : Nat) (s : State) : Host.Outcome State Fault Refusal :=
  onUnit (okEngine engine) (s.pioRow engine 3 bits)

/-- PIO_LOAD (R194). -/
def execPioLoad (engine : Nat) (s : State) : Host.Outcome State Fault Refusal := onUnit (okEngine engine) (s.pioRow engine 4 0)

/-- PIO_STORE (R193). -/
def execPioStore (engine : Nat) (s : State) : Host.Outcome State Fault Refusal := onUnit (okEngine engine) (s.pioRow engine 5 0)

/-- PIO_PINW (R189). -/
def execPioPinw (engine : Nat) (s : State) : Host.Outcome State Fault Refusal := onUnit (okEngine engine) (s.pioRow engine 6 0)

/-- PIO_CMP_INSN (R190). -/
def execPioCmpInsn (engine : Nat) (s : State) : Host.Outcome State Fault Refusal := onUnit (okEngine engine) (s.pioRow engine 7 0)

/-- PIO_AT is reached: the bit clock restarts there, PIO_AT steps on, and the instruction executes; a SAMP executes with its
samples, and a STORE after the last sample (R187, R186). -/
def State.atReached (s : State) (e : Nat) : State :=
  let k := s.pio e
  let t := s.pioAt e
  let op := bits (s.imem e k.pc) 0 3
  if s.service = false ∨ k.st ≠ 2 ∨ s.reached t = false then s
  else
    let s := (s.setPio e { k with st := 1, atMet := true }).reclock e t
    let s := s.setPioAt e (t + s.pioStep e)
    if op = 3 ∨ (op = 5 ∧ k.samples ≠ []) then s else s.reachInsn e 0

/-- AT_TIME (R187). -/
def execAtTime (engine : Nat) (s : State) : Host.Outcome State Fault Refusal := onUnit (okEngine engine) (s.atReached engine)

/-- The level after a cuff's glitch filter: a transition counts once its interval has passed (R56). -/
def State.filtered (s : State) (c : Nat) : Bool :=
  match (s.cuff c).filt with
  | some (l, _, due) => if due ≤ s.tick then l else !l
  | none => (s.cuff c).pad

/-- The pin reads a level after the cuff's glitch filter (R189). -/
def State.pinReads (s : State) (c : Nat) (l : Bool) : Bool := s.filtered c == l

/-- PINW_REACHED (R189): the bit clock restarts on the following tick, or the engine goes on at the next boundary; the HOLD
periods follow there. -/
def State.pinReached (s : State) (e : Nat) : State :=
  let k := s.pio e
  let opnd := bits k.insn 8 8
  if s.service = false ∨ k.st ≠ 3 ∨ s.pinReads (s.pin e (opnd / 32)) (bitAt opnd 4) = false then s
  else if bitAt opnd 3 then (s.reclock e (s.plus s.tb.now 16)).begin e 0
  else (s.setPio e { k with bit := s.nextBit e (s.plus s.tb.now 1) }).begin e 0

/-- PINW_REACHED (R189). -/
def execPinwReached (engine : Nat) (s : State) : Host.Outcome State Fault Refusal := onUnit (okEngine engine) (s.pinReached engine)

/-- A PINW meets PIO_WTO (R189). -/
def State.pinLate (s : State) (e : Nat) : State :=
  let k := s.pio e
  let n := k.wto
  if s.service = false ∨ k.st ≠ 3 ∨ n = 0 ∨ s.reached (s.boundary e (k.waitFrom + (n - k.waited))) = false then s
  else (s.stopAt e 5).noteStall e 2 k.waitAt

/-- PINW_TIMEOUT (R189). -/
def execPinwTimeout (engine : Nat) (s : State) : Host.Outcome State Fault Refusal := onUnit (okEngine engine) (s.pinLate engine)

/-- The stalled instruction is a LOAD (R194). -/
def State.stalledLoad (s : State) (e : Nat) : Bool := decide (s.fld (Reg.PIO_STALL_INFO e) 0 2 = 0)

/-- A stalled LOAD has a word, a stalled STORE has room. -/
def State.stallServed (s : State) (e : Nat) : Bool :=
  if s.stalledLoad e then !(s.pio e).tx.isEmpty else s.storeRoom e

/-- A FIFO has changed: a stall that now has its word or its room ends at the first boundary at least 2 ticks later (R194),
and one that has lost it again goes on. -/
def State.feed (s : State) (e : Nat) : State :=
  let k := s.pio e
  if k.st ≠ 4 then s
  else if s.stallServed e = false then s.setPio e { k with fed := false }
  else if k.fed then s
  else s.setPio e { k with fed := true, fedAt := s.pioNow e, bit := s.nextBit e (s.plus (s.pioNow e) 32) }

/-- The clock of an engine whose stall has been served has restarted or changed: the stall ends at the first boundary that
lies at least 2 ticks after the word or the room appeared (R194). -/
def State.refeed (s : State) (e : Nat) : State :=
  let k := s.pio e
  if k.st = 4 ∧ k.fed then s.setPio e { k with bit := s.nextBit e (s.plus k.fedAt 32) } else s

/-- A stalled LOAD or STORE completes in its period (R194). -/
def State.stallOver (s : State) (e : Nat) : State :=
  let k := s.pio e
  if s.service = false ∨ k.st ≠ 4 ∨ k.fed = false ∨ s.reached (s.boundary e k.bit) = false then s
  else
    let s := s.setPio e { k with fed := false }
    (if s.stalledLoad e then s.takeTx e else s.giveRx e).onePeriod e

/-- STALL_END (R194). -/
def execStallEnd (engine : Nat) (s : State) : Host.Outcome State Fault Refusal := onUnit (okEngine engine) (s.stallOver engine)

/-! ### Actions (R192) -/

/-- What PIO_START of address, SUB[0] and time does at an engine (R192). -/
def State.startBy (s : State) (e addr : Nat) (sub : Bool) (t : Nat) : State :=
  let s := s.startPio e addr false
  let k := s.pio e
  if k.st ≠ 1 then s
  else
    let s := s.setPio e { k with txsr := 0, rxsr := 0, txcnt := 0, rxcnt := 0 }
    if sub then s.reclock e t else s.setPio e { s.pio e with bit := s.nextBit e t }

/-- PIO_START at an engine. -/
def State.actPioStart (s : State) (e : Nat) : State :=
  match s.headReady 3 e 0x0C with
  | some f =>
    let ran := decide ((s.pio e).st ≠ 0)
    let cut := decide (s.boundary e (s.lastBit e s.tb.now) ≠ s.tb.now)
    let s := s.startBy e (f.act.arg % 32) (bitAt f.act.sub 0) f.due
    (s.setPio e { s.pio e with begun := some s.tick, beganWith := (f.act.arg % 32, bitAt f.act.sub 0, f.due, ran),
                               beganCut := cut }).finish f
  | none => s

/-- PIO_START (R192). -/
def execPioStart (engine : Nat) (s : State) : Host.Outcome State Fault Refusal := onUnit (okEngine engine) (s.actPioStart engine)

/-- A word enters the transmit FIFO; a LOAD that needs it on this tick takes it (R198). -/
def State.pushTx (s : State) (e v : Nat) : State :=
  let s := s.setPio e { s.pio e with tx := (s.pio e).tx ++ [v % 2 ^ 32] }
  if (s.pio e).needAt.isSome then s.doLoad e else s.feed e

/-- The time at which a word enters the transmit FIFO: the action's, or now for one that had to wait for room (R89, R192). -/
def State.pushTime (s : State) (f : Flight) : Nat := if f.late ∧ 16 < s.minus s.tb.now f.due then s.tb.now else f.due

/-- PIO_DATA at an engine; a full FIFO makes it late at its target (R192, R94). -/
def State.actPioData (s : State) (e : Nat) : State :=
  match s.headReady 3 e 0x0D with
  | some f =>
    if (s.pio e).tx.length < 4 then (s.pushTx e f.act.arg).finish { f with due := s.pushTime f }
    else
      let s := if f.late then s else s.countLate f
      if s.policy f = 2 then ((s.popFifo 3 e).execRecord f.act f.org Code.lateDropped s.tb.now).judgeFifo 3 e
      else if s.policy f = 3 then ((s.popFifo 3 e).lateFault f).judgeFifo 3 e
      else s.setTargetFifo 3 e ({ f with late := true } :: (s.targetFifo 3 e).tail)
  | none => s

/-- PIO_DATA (R192). -/
def execPioData (engine : Nat) (s : State) : Host.Outcome State Fault Refusal := onUnit (okEngine engine) (s.actPioData engine)

/-- A late PIO_DATA word is pushed when room appears (R192). -/
def State.pushLate (s : State) (e : Nat) : State :=
  match s.headReady 3 e 0x0D with
  | some f => if f.late ∧ (s.pio e).tx.length < 4 then (s.pushTx e f.act.arg).finish { f with due := s.pushTime f } else s
  | none => s

/-- PIO_DATA_LATE_PUSH (R192). -/
def execPioDataLatePush (engine : Nat) (s : State) : Host.Outcome State Fault Refusal := onUnit (okEngine engine) (s.pushLate engine)

/-! ### Writes and reads of the page (R191, R195) -/

abbrev pioPage (e : Nat) : Nat := 0x40 + e / 4

/-- A write of PIO_CTRL (R195, R385): ADDR first; START with STOP is refused; flushes act before a START. -/
def State.writePioCtrl (s : State) (e v : Nat) : State :=
  let s := s.setFld (Reg.PIO_CTRL e) 8 5 (bits v 8 5)
  if bitAt v 0 ∧ bitAt v 1 then s.cmdRefused (pioPage e)
  else
    let s := if bitAt v 1 then s.stopPio e else s
    let s := if bitAt v 2 then (s.setPio e { s.pio e with tx := [] }).feed e else s
    let s := if bitAt v 3 then (s.setPio e { s.pio e with rx := [] }).feed e else s
    if bitAt v 0 then s.pioStart e else s

/-- PIO_CTRL_START (R195). -/
def execPioCtrlStart (engine value : Nat) (s : State) : Host.Outcome State Fault Refusal :=
  onUnit (okEngine engine) (s.pf (pioPage engine) (0x200 + engine % 4 * 0x200) (Nat.lor value 1) (fun s => s.writePioCtrl engine (Nat.lor value 1)))

/-- PIO_CTRL_STOP (R195). -/
def execPioCtrlStop (engine value : Nat) (s : State) : Host.Outcome State Fault Refusal :=
  onUnit (okEngine engine) (s.pf (pioPage engine) (0x200 + engine % 4 * 0x200) (Nat.lor value 2) (fun s => s.writePioCtrl engine (Nat.lor value 2)))

/-- PIO_CTRL_FLUSH_TX (R195). -/
def execPioCtrlFlushTx (engine value : Nat) (s : State) : Host.Outcome State Fault Refusal :=
  onUnit (okEngine engine) (s.pf (pioPage engine) (0x200 + engine % 4 * 0x200) (Nat.lor value 4) (fun s => s.writePioCtrl engine (Nat.lor value 4)))

/-- PIO_CTRL_FLUSH_RX (R195). -/
def execPioCtrlFlushRx (engine value : Nat) (s : State) : Host.Outcome State Fault Refusal :=
  onUnit (okEngine engine) (s.pf (pioPage engine) (0x200 + engine % 4 * 0x200) (Nat.lor value 8) (fun s => s.writePioCtrl engine (Nat.lor value 8)))

/-- A write of PIO_TXDATA (R191). -/
def State.writeTx (s : State) (e v : Nat) : State :=
  if (s.pio e).tx.length < 4 then s.pushTx e v else s.pioErr e 0

/-- PIO_TXDATA (R191). -/
def execPioTxdata (engine value : Nat) (s : State) : Host.Outcome State Fault Refusal :=
  onUnit (okEngine engine) (s.pf (pioPage engine) (0x23C + engine % 4 * 0x200) value (fun s => s.writeTx engine value))

/-- A read of PIO_RXDATA (R191). -/
def State.readRx (s : State) (e : Nat) : State :=
  match (s.pio e).rx with
  | [] => (s.pioErr e 1).send (.readData 0 0)
  | v :: r => ((s.setPio e { s.pio e with rx := r }).feed e).send (.readData 0 (word v))

/-! ### Sync (R197) -/

/-- PIO_SYNC_CTRL.STATE: 0 idle, 1 armed, 2 done, 3 refused. -/
def State.syncState (s : State) : Nat := s.fld Reg.PIO_SYNC_CTRL 8 2

/-- The engines the sync masks select. -/
def State.syncSel (s : State) : List Nat :=
  (List.range 4).flatMap fun i => (bitList 32 (s.regN (Reg.PIO_SYNC_MASK i))).map fun j => 32 * i + j

/-- A sync restarts the bit clock of a running engine; a bit period that it cuts short sets SYNC_CUT (R197). -/
def State.syncClock (s : State) (e : Nat) : State :=
  let k := s.pio e
  let n := s.lastBit e s.tb.now
  let whole := decide (s.boundary e n = s.tb.now)
  let s := s.rebase e s.tb.now n
  let s := (s.setPio e { s.pio e with bit := if k.busy ∧ whole ∧ n < k.bit then 1 else 0 }).refeed e
  if whole then s else (s.restClock e k.cfg s.tb.now).pioErr e 4

/-- One engine meets a sync: acted on, or skipped (R197). -/
def State.syncOne (s : State) (e mode : Nat) : State × Bool :=
  let k := s.pio e
  if k.count = 0 ∨ s.service = false then (s, false)
  else if mode = 0 then
    let t := s.pioStart e
    (t, (t.pio e).st == 1)
  else if mode = 1 ∧ k.st ≠ 0 ∧ s.startError e = none then (s.syncClock e, true)
  else (s, false)

/-- A sync meets an engine that PIO_START has started on the same tick: the sync acts first, on the clock the engine ran by, and
the action then restarts the engine (R198). -/
def State.syncEngine (s : State) (e mode : Nat) : State × Bool :=
  let k := s.pio e
  let x := k.beganWith
  if k.begun ≠ some s.tick then s.syncOne e mode
  else
    if mode = 1 ∧ x.2.2.2 ∧ x.2.1 then
      if k.count = 0 ∨ s.service = false ∨ s.startError e ≠ none then (s, false)
      else (if k.beganCut then s.pioErr e 4 else s, true)
    else if mode = 0 ∨ x.2.2.2 then
      let r := s.syncOne e mode
      (r.1.startBy e x.1 x.2.1 x.2.2.1, r.2)
    else (s, false)

/-- The sync acts on every selected engine on one tick. -/
def State.syncAct (s : State) : State :=
  let m := s.fld Reg.PIO_SYNC_CTRL 4 2
  let r := s.syncSel.foldl (fun (x : State × Nat × Nat) e =>
    let y := x.1.syncEngine e m
    (y.1, if y.2 then x.2.1 + 1 else x.2.1, if y.2 then x.2.2 else x.2.2 + 1)) (s, 0, 0)
  let s := r.1.setN Reg.PIO_SYNC_STAT (min 255 r.2.1 + min 255 r.2.2 * 2 ^ 8)
  { s.setFld Reg.PIO_SYNC_CTRL 8 2 2 with syncAt := none }

/-- ARM under the rules of R18. -/
def State.syncArm (s : State) : State :=
  let t := s.pair Reg.PIO_SYNC_TIME_L Reg.PIO_SYNC_TIME_H
  if s.syncState = 1 then s
  else if s.ahead t armLead then { s.setFld Reg.PIO_SYNC_CTRL 8 2 1 with syncAt := some t }
  else (s.pgErrCode 0x40 1 Code.rejectLate).setFld Reg.PIO_SYNC_CTRL 8 2 3

/-- DISARM under the rules of R18. -/
def State.syncDisarm (s : State) : State :=
  match s.syncAt with
  | some t => if s.ahead t armLead then { s.setFld Reg.PIO_SYNC_CTRL 8 2 0 with syncAt := none } else s
  | none => s

/-- A write of PIO_SYNC_CTRL (R197, R385). -/
def State.writeSync (s : State) (v : Nat) : State :=
  let s := s.setFld Reg.PIO_SYNC_CTRL 4 2 (bits v 4 2)
  if 2 ≤ setCount v [0, 1, 2] then s.cmdRefused 0x40
  else if bitAt v 0 then s.syncAct
  else if bitAt v 1 then s.syncArm
  else if bitAt v 2 then s.syncDisarm
  else s

/-- PIO_SYNC_CTRL_GO (R197). -/
def execPioSyncCtrlGo (value : Nat) (s : State) : Host.Outcome State Fault Refusal :=
  .next (s.pf 0x40 0x58 (Nat.lor value 1) (fun s => s.writeSync (Nat.lor value 1)))

/-- PIO_SYNC_CTRL_ARM (R197). -/
def execPioSyncCtrlArm (value : Nat) (s : State) : Host.Outcome State Fault Refusal :=
  .next (s.pf 0x40 0x58 (Nat.lor value 2) (fun s => s.writeSync (Nat.lor value 2)))

/-- PIO_SYNC_CTRL_DISARM (R197). -/
def execPioSyncCtrlDisarm (value : Nat) (s : State) : Host.Outcome State Fault Refusal :=
  .next (s.pf 0x40 0x58 (Nat.lor value 4) (fun s => s.writeSync (Nat.lor value 4)))

/-- PIO_SYNC_TIME (R197): an armed sync acts at its time. -/
def execPioSyncTime (s : State) : Host.Outcome State Fault Refusal :=
  .next (match s.syncAt with
    | some t => if s.syncState = 1 ∧ s.reached t then s.syncAct else s
    | none => s)

/-! ### Apron and the freeze (R198, R199) -/

/-- The engine a cuff is lent to. -/
def State.engineOf (s : State) (c : Nat) : Option Nat :=
  match (s.cuff c).lent with
  | .pio e => some e
  | .fbk p => if s.fbkMode p = 3 then some (s.port p).engine else none
  | .none => none

/-- A lent cuff goes to Apron: its engine stops (R198). -/
def State.apronStop (s : State) (c : Nat) : State :=
  match s.engineOf c with
  | some e => if (s.pio e).st = 0 then s else s.stopAt e 7
  | none => s

/-- In DOZE and HALT an engine is frozen with its pins (R198). -/
def State.freezePio (s : State) (e : Nat) : State :=
  let k := s.pio e
  if k.st = 0 then s else s.setPio e { k with thawFrom := some (k.thawFrom.getD s.tb.now) }

/-- The bit clock resumes where it stood: what was to come of its periods, samples and edges comes as much later as the engine
was frozen. An AT time that has passed is late (R198). -/
def State.thawPio (s : State) (e : Nat) : State :=
  let k := s.pio e
  match k.thawFrom with
  | none => s
  | some t0 =>
    let d := s.minus s.tb.now t0
    let s := (s.pioCuffs e).foldl (fun s c =>
      s.setCuff c { s.cuff c with edges := (s.cuff c).edges.map fun x => (s.plus x.1 d, x.2) }) s
    let k := { k with thawFrom := none, clk0 := s.plus k.clk0 d, fedAt := s.plus k.fedAt d, samples := k.samples.map fun x => (s.plus x.1 d, x.2) }
    let s := s.setPio e k
    if k.st = 2 ∧ s.reached (s.pioAt e) then s.setPio e { k with st := 1, bit := s.nextBit e s.tb.now } else s

end Sys2Proof.Machine
end

