-- ==== Sys2Proof/Machine/Dma.lean ====
section
/-! DEFINITION. DMA channels (R290-R302): descriptors, transfers, completion queues, halts. -/

namespace Sys2Proof.Machine

open Sys2Proof

/-! ### Descriptors (R291, R292) -/

/-- The fields of CTRL. -/
def Desc.op (d : Desc) : Nat := bits d.ctrl 0 2
def Desc.srcSlab (d : Desc) : Bool := bitAt d.ctrl 2
def Desc.dstSlab (d : Desc) : Bool := bitAt d.ctrl 3
def Desc.srcFix (d : Desc) : Bool := bitAt d.ctrl 4
def Desc.dstFix (d : Desc) : Bool := bitAt d.ctrl 5
def Desc.width (d : Desc) : Nat := if bitAt d.ctrl 6 then 8 else 4
def Desc.notify (d : Desc) : Bool := bitAt d.ctrl 8
def Desc.user (d : Desc) : Nat := bits d.ctrl 16 16

/-- A fill reads nothing. -/
def Desc.fill (d : Desc) : Bool := d.op == 1

/-- The descriptor a number of 32 bytes spells, and its reserved bytes 28 to 31. -/
def ofDesc (idx v : Nat) : Desc × Nat :=
  ({ idx := idx, src := bits v 0 64, dst := bits v 64 64, len := bits v 128 32, ctrl := bits v 160 32,
     pattern := bits v 192 32 }, bits v 224 32)

/-- One side of a descriptor is sound: a slab range inside 2^26, a fixed address aligned. -/
def sideFits (slab fix : Bool) (a len w : Nat) : Bool :=
  (!slab || decide (a + (if fix then w else len) ≤ 2 ^ 26)) && (!fix || decide (a % w = 0))

/-- The checks of R292. -/
def Desc.fits (d : Desc) (pad : Nat) : Bool :=
  let w := d.width
  let moves := !d.fill
  decide (d.op ≠ 3 ∧ bits d.ctrl 7 1 = 0 ∧ bits d.ctrl 9 7 = 0 ∧ pad = 0 ∧ 1 ≤ d.len ∧ d.len ≤ 2 ^ 24)
    && sideFits d.dstSlab d.dstFix d.dst d.len w
    && (!moves || sideFits d.srcSlab d.srcFix d.src d.len w)
    && (!moves || d.srcSlab || d.dstSlab)
    && (!(d.dstFix || (moves && d.srcFix)) || decide (d.len % w = 0))
    && !(decide (d.op = 0) && d.srcSlab && d.dstSlab && !d.srcFix && !d.dstFix
          && decide (d.src < d.dst + d.len ∧ d.dst < d.src + d.len))

/-- The descriptor needs the host link. -/
def Desc.hostReads (d : Desc) : Bool := !d.fill && (!d.srcSlab || (decide (d.op = 2) && !d.dstSlab))
def Desc.hostSide (d : Desc) : Bool := !d.dstSlab || (!d.fill && !d.srcSlab)

/-- It writes to the host: its last write is followed by a flush read of the DW of its last byte (R297). -/
def Desc.hostOut (d : Desc) : Bool := d.op != 2 && !d.dstSlab
def Desc.flushAddr (d : Desc) : Nat := (d.dst + (if d.dstFix then d.width else d.len) - 1) / 4 * 4

/-- The host side that a descriptor reads. -/
def Desc.readBase (d : Desc) : Nat := if d.srcSlab then d.dst else d.src
def Desc.readFix (d : Desc) : Bool := if d.srcSlab then d.dstFix else d.srcFix

/-- The byte with which the first host read request from byte `i` on begins: requests are split at 4 KB boundaries and at 512 bytes,
and at a fixed address every access is one (R294). -/
def Desc.nextAsk (d : Desc) (i : Nat) : Nat :=
  let b := 4096 - d.readBase % 4096
  if d.readFix then (i + d.width - 1) / d.width * d.width
  else if i ≤ b then min b ((i + 511) / 512 * 512) else b + (i - b + 511) / 512 * 512

/-- The request that begins with byte `i`: its address and length. -/
def Desc.ask (d : Desc) (i : Nat) : Nat × Nat :=
  if d.readFix then (d.readBase, d.width)
  else (d.readBase + i, min (d.nextAsk (i + 1)) d.len - i)

/-- The next access to the host that a descriptor would make from byte `i` on: address and DMA_FAULT_DIR. -/
def Desc.nextHost (d : Desc) (i : Nat) : Option (Nat × Nat) :=
  if d.hostReads then (if d.nextAsk i < d.len then some ((d.ask (d.nextAsk i)).1, 0) else none)
  else if d.hostOut then (if i < d.len then some (if d.dstFix then d.dst else d.dst + i, 1) else some (d.flushAddr, 4))
  else none

/-- DMA_DSEQ.CUR shows the descriptor in progress, and DMA_BYTES counts its bytes from 0. -/
def State.showCur (s : State) (c : Nat) : State :=
  match (s.chan c).queue with
  | [] => s
  | d :: _ => if (s.chan c).st = 2 then (s.setFld (Reg.DMA_DSEQ c) 16 16 d.idx).setFld (Reg.DMA_BYTES c) 0 25 0 else s

/-- An idle channel that has work starts it. -/
def State.startChan (s : State) (c : Nat) : State :=
  let k := s.chan c
  if k.st = 1 ∧ k.queue ≠ [] then (s.setChan c { k with st := 2 }).showCur c else s

/-- Pushes a descriptor, or refuses it: the state and the code (R292). -/
def State.pushDesc (s : State) (c v : Nat) : State × Nat :=
  let i := s.fld (Reg.DMA_DSEQ c) 0 16
  let x := ofDesc i v
  let k := s.chan c
  let code := if x.1.fits x.2 = false then Code.rejectClass else if 16 ≤ k.queue.length then Code.queueFull else Code.ok
  let s := s.setFld (Reg.DMA_STATUS c) 8 8 code
  if code = Code.ok then
    (((s.setChan c { k with queue := k.queue ++ [x.1] }).setFld (Reg.DMA_DSEQ c) 0 16 (i + 1)).startChan c, code)
  else (s.pgErr (dmaPage c) 17, code)

/-- DMA_D0 to DMA_D7 as one number. -/
def State.descWords (s : State) (c : Nat) : Nat :=
  ((List.range 8).map fun i => s.regN (Reg.DMA_D c i) * 2 ^ (32 * i)).foldl (· + ·) 0

/-! ### The completion queue (R298) -/

/-- The entries of a channel's completion queue. -/
def State.cqSize (s : State) (c : Nat) : Nat := 2 ^ s.fld (Reg.DMA_CQ_CFG c) 0 4

/-- A free entry. -/
def State.cqFree (s : State) (c : Nat) : Bool :=
  decide ((s.fld (Reg.DMA_CQ_TAIL c) 0 12 + 1) % s.cqSize c ≠ s.fld (Reg.DMA_CQ_HEAD c) 0 12 % s.cqSize c)

/-- The completion queue lies in the slab. -/
def State.cqSlab (s : State) (c : Nat) : Bool := s.bit (Reg.DMA_CQ_CFG c) 4

/-- A completion record as a number, from its fields: INDEX, STATUS, USER, OP, COUNT, ADDR. -/
def cqValue (c : Nat) (r : List Nat) (phase time : Nat) : Nat :=
  let f (i : Nat) : Nat := r.getD i 0
  f 0 % 2 ^ 16 + f 1 % 256 * 2 ^ 16 + phase % 2 * 2 ^ 24 + f 2 % 2 ^ 16 * 2 ^ 32 + c % 32 * 2 ^ 48 + f 3 % 4 * 2 ^ 56
    + f 4 % 2 ^ 32 * 2 ^ 64 + f 5 % 2 ^ 64 * 2 ^ 128 + time % 2 ^ 60 * 2 ^ 192

/-- What raises the error of a halted channel (R300): the latches, the fault record, the sources. -/
def State.haltMarks (s : State) (c code addr dir idx : Nat) : State :=
  let s := s.setPair (Reg.DMA_FAULT_ADDR_L c) (Reg.DMA_FAULT_ADDR_H c) (addr % 2 ^ 64)
  let s := s.setN (Reg.DMA_FAULT_DIR c) (dir % 8 + code % 256 * 2 ^ 8 + idx % 2 ^ 16 * 2 ^ 16)
  let s := s.faultRecord (s.chan c).owner code FSrc.dma c addr
  let s := (s.raise (0x3380 + 2 * c + 1)).pgErr (dmaPage c) 16
  s.setChan c { s.chan c with st := 3 }

/-- Writes a record at CQ_TAIL; PHASE flips at each wrap. A slab queue that fails its walk, or a host queue
while Bus Master Enable is 0, halts the channel. -/
def State.writeCq (s : State) (c : Nat) (r : List Nat) (notify : Bool) : State :=
  let n := (s.chan c).owner
  let t := s.fld (Reg.DMA_CQ_TAIL c) 0 12 % s.cqSize c
  let ph := s.fld (Reg.DMA_CQ_TAIL c) 16 1
  let a := s.pair (Reg.DMA_CQ_BASE_L c) (Reg.DMA_CQ_BASE_H c) / 32 * 32 + 32 * t
  let v := cqValue c r ph s.tb.now
  let t' := (t + 1) % s.cqSize c
  let step (s : State) : State :=
    let s := (s.setFld (Reg.DMA_CQ_TAIL c) 0 12 t').setFld (Reg.DMA_CQ_TAIL c) 16 1 (if t' = 0 then 1 - ph else ph)
    if notify then s.raise (0x3380 + 2 * c) else s
  if s.cqSlab c then
    match s.slabWrite n (a % 2 ^ 26) 32 v 3 with
    | .ok _ s => step s
    | .bad code s => s.haltMarks c code (a % 2 ^ 26) 3 (r.getD 0 0)
  else if (s.fn n).bme then step (s.send (.hostWrite a (bytesLE 32 v)))
  else s.haltMarks c Code.busError a 1 (r.getD 0 0)

/-- A record may leave for the completion queue now: one in host memory waits while its owner is not in D0 or the link is down
(R302). -/
def State.cqOpen (s : State) (c : Nat) : Bool :=
  s.cqSlab c || (decide ((s.fn (s.chan c).owner).dstate = 0) && s.link.up)

/-- A record is written, or held while the ring is full or out of reach. -/
def State.postCq (s : State) (c : Nat) (r : List Nat) (notify : Bool) : State :=
  if s.cqFree c && s.cqOpen c then s.writeCq c r notify
  else s.setChan c { s.chan c with heldRec := some r, heldNotify := notify }

/-- The next descriptor, or CQ wait while a record is held (R298). -/
def State.nextDesc (s : State) (c : Nat) : State :=
  let k := s.chan c
  if k.st = 3 then s
  else if k.heldRec.isSome then s.setChan c { k with st := 5 }
  else (s.setChan c { k with st := if k.queue = [] then 1 else 2 }).showCur c

/-- A held record is written when CQ_HEAD moves, or its owner is back in D0 with the link up. -/
def State.cqRoom (s : State) (c : Nat) : State :=
  let k := s.chan c
  match k.heldRec with
  | none => s
  | some r =>
    if s.cqFree c = false ∨ s.cqOpen c = false then s
    else
      let s := (s.setChan c { k with heldRec := none, heldNotify := false }).writeCq c r k.heldNotify
      if k.st = 5 then s.nextDesc c else s

/-- The records of a function's channels that waited for it are written (R302). -/
def State.cqRooms (s : State) (n : Nat) : State :=
  ((Tbl.keys s.chans).filter fun c => (s.chan c).heldRec.isSome && decide ((s.chan c).owner = n)).foldl State.cqRoom s

/-- A write of DMA_CQ_HEAD, or DMA command 0x73: a head inside the filled region is taken; the code. -/
def State.moveCqHead (s : State) (c i : Nat) : State × Nat :=
  let n := s.cqSize c
  let h := s.fld (Reg.DMA_CQ_HEAD c) 0 12
  let t := s.fld (Reg.DMA_CQ_TAIL c) 0 12
  if (t + n - h % n) % n < (i % 4096 + n - h % n) % n ∨ n ≤ i % 4096 then (s, Code.queueFull)
  else ((s.setFld (Reg.DMA_CQ_HEAD c) 0 12 i).cqRoom c, Code.ok)

/-! ### Halts (R300) -/

/-- The descriptor in progress leaves its channel. -/
def Chan.advance (k : Chan) : Chan := { k with queue := k.queue.tail, pos := 0, ahead := [], got := [], diff := none }

/-- The channel halts: the failing descriptor leaves the queue with its record, and is never retried. COUNT holds the bytes whose
writes were issued (R298), and host reads already issued may still return. -/
def State.haltChan (s : State) (c code addr dir count : Nat) : State :=
  match (s.chan c).queue with
  | [] => s
  | d :: _ =>
    let k := s.chan c
    let s := s.setChan c { k.advance with st := 3, outstanding := k.outstanding || d.hostReads }
    let s := s.setFld (Reg.DMA_BYTES c) 0 25 count
    let s := s.postCq c [d.idx, code, d.user, d.op, if d.op = 2 then 0 else count, addr] d.notify
    s.haltMarks c code addr dir d.idx

/-! ### Transfers (R293-R295) -/

/-- How far a transfer in hand has come: its state, the bytes done, those of the source read ahead, those for a host destination,
and how it ended. -/
inductive Xfer where
  /-- bytes up to `i` are done -/
  | on (s : State) (i : Nat) (ahead bytes : List Nat)
  /-- a compare found the first difference -/
  | differ (at_ : Nat) (s : State)
  /-- a slab access failed after `count` bytes: code, address, DIR and SPACE -/
  | fail (code addr dir count : Nat) (s : State) (bytes : List Nat)

/-- What reads of the slab give: bytes, or the code and the address of the access that failed. -/
inductive Got where
  | ok (s : State) (bytes : List Nat)
  | bad (code addr : Nat) (s : State)

/-- Reads one slab side of a transfer of `len` bytes from byte `i` on, until `k` bytes are at hand: accesses of FIXW bytes at a fixed
address, else whole aligned 64-byte blocks, of which head and tail are what the transfer has of them (R294, R295). -/
def State.readAhead (s : State) (n base : Nat) (fix : Bool) (w len i k : Nat) (bs : List Nat) : Nat → Got
  | 0 => .ok s bs
  | fuel + 1 =>
    let j := i + bs.length
    if k ≤ bs.length ∨ len ≤ j then .ok s bs
    else
      let a := if fix then base else base + j
      let m := if fix then w else min (len - j) (64 - a % 64)
      match s.slabRead n a m 3 with
      | .bad code s => .bad code a s
      | .ok v s => s.readAhead n base fix w len i k (bs ++ bytesLE m v) fuel

/-- Writes bytes to a fixed slab address, FIXW bytes each. -/
def State.writeFixed (s : State) (n a w : Nat) (bs : List Nat) : Nat → Access Unit
  | 0 => .ok () s
  | fuel + 1 =>
    if bs = [] then .ok () s
    else match s.slabWrite n a w (ofBytesLE (bs.take w)) 3 with
      | .bad code s => .bad code s
      | .ok _ s => s.writeFixed n a w (bs.drop w) fuel

/-- The first place two byte lists differ. -/
def firstDiff : List Nat → List Nat → Nat → Option Nat
  | x :: xs, y :: ys, i => if x % 256 = y % 256 then firstDiff xs ys (i + 1) else some i
  | _, _, _ => none

/-- The bytes a fill writes from address `a` up. -/
def fillBytes (pattern a : Nat) : Nat → List Nat
  | 0 => []
  | n + 1 => bits pattern (8 * (a % 4)) 8 :: fillBytes pattern (a + 1) n

/-- The bytes of one turn from byte `i` on: one aligned 64-byte block of the slab side that is written or, where none is, of the slab
side that is read; else 64 bytes (R295, R296). -/
def Desc.turn (d : Desc) (i : Nat) : Nat :=
  min (d.len - i) (if d.dstFix then 64
    else if d.dstSlab then 64 - (d.dst + i) % 64
    else if !d.fill && d.srcSlab && !d.srcFix then 64 - (d.src + i) % 64
    else 64)

/-- The source bytes of a turn and those read ahead of it. -/
def State.srcBytes (s : State) (n : Nat) (d : Desc) (host : List Nat) (i : Nat) (ahead : List Nat) : Got :=
  let k := d.turn i
  if d.fill then .ok s (fillBytes d.pattern (d.dst + i) k)
  else if d.srcSlab then s.readAhead n d.src d.srcFix d.width d.len i k ahead k
  else .ok s ((host.drop i).take k)

/-- The destination bytes that a turn of a compare reads. -/
def State.dstBytes (s : State) (n : Nat) (d : Desc) (host : List Nat) (i : Nat) : Got :=
  let k := d.turn i
  if d.dstSlab then s.readAhead n d.dst d.dstFix d.width d.len i k [] k else .ok s ((host.drop i).take k)

/-- Moves one block of a descriptor from byte i on (R293-R296). -/
def State.moveBlock (s : State) (n : Nat) (d : Desc) (host : List Nat) (i : Nat) (ahead got : List Nat) : Xfer :=
  let k := d.turn i
  let da := if d.dstFix then d.dst else d.dst + i
  match s.srcBytes n d host i ahead with
  | .bad code a s => .fail code a 2 i s got
  | .ok s bs =>
    let now := bs.take k
    let rest := bs.drop k
    if d.op = 2 then
      match s.dstBytes n d host i with
      | .bad code a s => .fail code a 2 i s got
      | .ok s cs =>
        match firstDiff now cs i with
        | some j => .differ j s
        | none => .on s (i + k) rest got
    else if d.dstSlab then
      match (if d.dstFix then s.writeFixed n d.dst d.width now k else s.slabWrite n da k (ofBytesLE now) 3) with
      | .bad code s => .fail code da 3 i s got
      | .ok _ s => .on s (i + k) rest got
    else .on s (i + k) rest (got ++ now)

/-- Moves what is left of a descriptor, block by block. -/
def State.moveBytes (s : State) (n : Nat) (d : Desc) (host : List Nat) (i : Nat) (ahead got : List Nat) : Nat → Xfer
  | 0 => .on s i ahead got
  | fuel + 1 =>
    if d.len ≤ i then .on s i ahead got
    else match s.moveBlock n d host i ahead got with
      | .on s i ahead got => s.moveBytes n d host i ahead got fuel
      | x => x

/-- Host writes of a byte list from an address up, split at 4 KB boundaries and at 256 bytes (R294). -/
def hostSplit (a : Nat) (bs : List Nat) : Nat → List (Nat × List Nat)
  | 0 => []
  | fuel + 1 =>
    if bs = [] then []
    else
      let k := min 256 (4096 - a % 4096)
      (a, bs.take k) :: hostSplit (a + k) (bs.drop k) fuel

/-- Host writes at a fixed address, FIXW bytes each. -/
def hostRepeat (a w : Nat) (bs : List Nat) : Nat → List (Nat × List Nat)
  | 0 => []
  | fuel + 1 => if bs = [] then [] else (a, bs.take w) :: hostRepeat a w (bs.drop w) fuel

/-- The host writes of a transfer. -/
def State.hostWrites (s : State) (d : Desc) (bs : List Nat) : State :=
  (if d.dstFix then hostRepeat d.dst d.width bs bs.length else hostSplit d.dst bs bs.length).foldl
    (fun s x => s.send (.hostWrite x.1 x.2)) s

/-- The channel may work on its head descriptor now (R302, R315): not in HALT or DOZE nor at rest for DOZE, and for host work
its owner in D0 with the link up. -/
def State.chanRuns (s : State) (c : Nat) : Bool :=
  let k := s.chan c
  decide (k.st = 2) && !s.frozen && !k.quiet &&
  match k.queue with
  | [] => false
  | d :: _ => !d.hostSide || (decide ((s.fn k.owner).dstate = 0) && s.link.up)

/-- The next access of a descriptor from byte `i` on is one to the host that Bus Master Enable forbids. -/
def State.bmeStops (s : State) (n : Nat) (d : Desc) (i : Nat) : Bool := !(s.fn n).bme && (d.nextHost i).isSome

/-- A channel has bytes to move now; one that reads the host has them where the data is at hand. -/
def State.dmaWork (s : State) (c : Nat) (hostData : Bool) : Bool :=
  let k := s.chan c
  s.chanRuns c &&
  match k.queue with
  | [] => false
  | d :: _ => decide (k.pos < d.len) && k.diff.isNone && (hostData || !d.hostReads) && !s.bmeStops k.owner d k.pos

/-- The host read requests that begin with one of the k bytes from byte i on are issued (R294). -/
def State.hostAsks (s : State) (d : Desc) (i k : Nat) : State :=
  if d.hostReads = false then s
  else ((List.range k).map (i + ·)).foldl (fun s j =>
    if d.nextAsk j = j then s.send (.hostRead (d.ask j).1 (d.ask j).2) else s) s

/-- A channel's turn: one block of its descriptor (R296). -/
def State.dmaTurn (s : State) (c : Nat) (host : List Nat) : State :=
  let k := s.chan c
  let s := { s with turns := { s.turns with chan := c } }
  match k.queue with
  | [] => s
  | d :: _ =>
    let s := s.hostAsks d k.pos (d.turn k.pos)
    match s.moveBlock k.owner d host k.pos k.ahead k.got with
    | .on s i ahead got => (s.setChan c { s.chan c with pos := i, ahead := ahead, got := got }).setFld (Reg.DMA_BYTES c) 0 25 i
    | .differ j s => s.setChan c { s.chan c with diff := some j }
    | .fail code addr dir count s got => (s.hostWrites d got).haltChan c code addr dir count

/-- The channels in the order of their turns. -/
def State.dmaOrder (s : State) : List Nat := (List.range 32).map fun i => (s.turns.chan + 1 + i) % 32

/-- One turn of every channel that has work, up to the last byte of channel c, whose host data is at hand. -/
def State.dmaRound (s : State) (c : Nat) (host : List Nat) : State :=
  s.dmaOrder.foldl (fun s x =>
    if s.dmaWork c true = false then s
    else if x = c then s.dmaTurn c host
    else if s.dmaWork x false then s.dmaTurn x []
    else s) s

/-- Rounds until channel c has moved its last byte, met a difference or halted. -/
def State.dmaRounds (s : State) (c : Nat) (host : List Nat) : Nat → State
  | 0 => s
  | n + 1 => if s.dmaWork c true then (s.dmaRound c host).dmaRounds c host n else s

/-- The record of a descriptor whose last byte is moved, or whose compare found a difference, and what follows it. -/
def State.recordDesc (s : State) (c : Nat) : State :=
  let k := s.chan c
  match k.queue with
  | [] => s
  | d :: _ =>
    if k.st = 3 then s
    else
      let s := s.hostWrites d k.got
      let s := if d.hostOut then s.send (.hostRead d.flushAddr 0) else s
      let count := k.diff.getD d.len
      let code := if k.diff.isSome then Code.compareMismatch else Code.ok
      let s := (s.setChan c (s.chan c).advance).setFld (Reg.DMA_BYTES c) 0 25 count
      (s.postCq c [d.idx, code, d.user, d.op, count, 0] d.notify).nextDesc c

/-- A host access while Bus Master Enable is 0 halts the channel with the address of that access (R300). -/
def State.bmeHalt (s : State) (c : Nat) (d : Desc) : State :=
  let k := s.chan c
  match d.nextHost k.pos with
  | some x => (s.hostWrites d k.got).haltChan c Code.busError x.1 x.2 k.pos
  | none => s

/-- The descriptor in progress completes: every byte is moved, while the other channels take their turns, every write
confirmed, the record written and the done source raised (R293, R296-R299). `host` is what the host reads return. -/
def State.completeDesc (s : State) (c : Nat) (host : List Nat) : State :=
  let k := s.chan c
  match k.queue with
  | [] => s
  | d :: _ =>
    if s.chanRuns c = false ∨ (d.hostReads ∧ host.length < d.len) then s
    else if s.bmeStops k.owner d k.pos then s.bmeHalt c d
    else (s.dmaRounds c host d.len).recordDesc c

/-- DMA_DESCRIPTOR_COMPLETE (R297). -/
def execDmaDescriptorComplete (channel : Nat) (host : List Nat) (s : State) : Host.Outcome State Fault Refusal :=
  onUnit (okChannel channel) (s.completeDesc channel host)

/-- Free bytes, for host data that a halted transfer had read and written (log entry 3). -/
def freeBytes (fresh : Nat) : Nat → List Nat
  | 0 => []
  | n + 1 => (Config.freeWord fresh).toNat % 256 :: freeBytes (fresh + 1) n

/-- Bytes of a descriptor up to `count` are moved, with host data that nothing constrains, and then a bus error ends it. -/
def State.errorAfter (s : State) (c : Nat) (d : Desc) (count addr dir : Nat) : State :=
  let k := s.chan c
  let host := if d.hostReads then freeBytes s.fresh count else []
  let s := { s with fresh := s.fresh + host.length }
  if d.op = 2 then s.haltChan c Code.busError addr dir count
  else match s.moveBytes k.owner { d with len := count } host k.pos k.ahead k.got count with
    | .fail code addr dir m s got => (s.hostWrites d got).haltChan c code addr dir m
    | .differ _ s => s.haltChan c Code.busError addr dir count
    | .on s _ _ got => (s.hostWrites d got).haltChan c Code.busError addr dir count

/-- The byte of the host read request at an address that has failed: it has not come yet. At a fixed address it is any access not
yet made. -/
def State.failedAsk (s : State) (k : Chan) (d : Desc) (addr : Nat) : Option Nat :=
  let j := if d.readFix then d.nextAsk (k.pos + Config.pick s.fresh % (d.len - k.pos)) else addr - d.readBase
  if d.hostReads ∧ d.readBase ≤ addr ∧ k.pos ≤ j ∧ j < d.len ∧ d.nextAsk j = j ∧ (d.ask j).1 = addr then some j else none

/-- A bus error or a failed walk ends the descriptor in progress (R300). A bus error is that of a host read request of the
descriptor, at its address; how many of the bytes before it had been written is a free value, and so is the host data among them. Or
it is that of the flush read, which comes after every write, or of an access that Bus Master Enable forbids. A failed walk is the
one that the transfer meets. -/
def State.haltNow (s : State) (c code addr dir : Nat) : State :=
  let k := s.chan c
  match k.queue with
  | [] => s
  | d :: _ =>
    if s.chanRuns c = false then s
    else if code = Code.busError then
      if s.bmeStops k.owner d k.pos then s.bmeHalt c d
      else if bitAt dir 2 then (if d.hostOut then s.errorAfter c d d.len d.flushAddr 4 else s)
      else match s.failedAsk k d addr with
        | none => s
        | some j => ({ s with fresh := s.fresh + 2 }).errorAfter c d (k.pos + Config.pick (s.fresh + 1) % (j + 1 - k.pos)) addr 0
    else
      let n := if d.hostReads then d.len else 0
      match { s with fresh := s.fresh + n }.moveBytes k.owner d (freeBytes s.fresh n) k.pos k.ahead k.got d.len with
      | .fail code addr dir m s got => (s.hostWrites d got).haltChan c code addr dir m
      | _ => s

/-- DMA_HALT (R300). -/
def execDmaHalt (channel code addr dir : Nat) (s : State) : Host.Outcome State Fault Refusal :=
  onUnit (okChannel channel) (s.haltNow channel code addr dir)

/-! ### Enable, disable, continue (R300, R301) -/

/-- A descriptor in progress has host reads outstanding: its own, or its flush read. -/
def Chan.reading (k : Chan) : Bool :=
  decide (k.st = 2) && match k.queue with
  | [] => false
  | d :: _ => d.hostReads || (d.hostOut && decide (d.len ≤ k.pos))

/-- The host writes of the turns taken stand as issued (R301). -/
def State.issued (s : State) (c : Nat) : State :=
  match (s.chan c).queue with
  | [] => s
  | d :: _ => s.hostWrites d (s.chan c).got

/-- Everything of the channel is dropped at once but host writes already issued; DMA_BYTES is undefined after it. -/
def State.disableChan (s : State) (c : Nat) : State :=
  let k := s.chan c
  if s.bit (Reg.DMA_CTRL c) 0 = false ∧ k.st = 0 then s.setChan c { k.advance with queue := [] }
  else
    let s := s.issued c
    let s := (s.setBit (Reg.DMA_CTRL c) 0 false).setFld (Reg.DMA_BYTES c) 0 25 (Config.freeWord s.fresh).toNat
    s.nextFresh.setChan c
      { k.advance with queue := [], st := 0, heldRec := none, heldNotify := false, quiet := false,
                       outstanding := k.outstanding || k.reading }

/-- EN goes to 1: PHASE starts from 1, and the channel drains first where reads are outstanding. -/
def State.enableChan (s : State) (c : Nat) : State :=
  let k := s.chan c
  if s.bit (Reg.DMA_CTRL c) 0 then s
  else
    let s := (s.setBit (Reg.DMA_CTRL c) 0 true).setBit (Reg.DMA_CQ_TAIL c) 16 true
    (s.setChan c { k with st := if k.outstanding then 4 else 1 }).startChan c

/-- The outstanding reads have returned or timed out. While an entry into DOZE waits, the channel of an active descriptor then rests
(R302). -/
def State.drainedChan (s : State) (c : Nat) : State :=
  let k := { s.chan c with quiet := (s.chan c).quiet || (s.pwr.entering && (s.chan c).reading) }
  if k.outstanding = false then (if k.quiet = (s.chan c).quiet then s else s.setChan c k)
  else if k.st = 4 then (s.setChan c { k with outstanding := false, st := 1 }).startChan c
  else s.setChan c { k with outstanding := false }

/-- DRAINING_END (R301). -/
def execDrainingEnd (channel : Nat) (s : State) : Host.Outcome State Fault Refusal :=
  onUnit (okChannel channel) (s.drainedChan channel)

/-- CONT: a halted channel goes on with the next descriptor; else nothing (R300, R302). -/
def State.continueChan (s : State) (c : Nat) : State :=
  if (s.chan c).st = 3 then (s.setChan c { s.chan c with st := 1 }).nextDesc c else s

/-- A write of DMA_CTRL: EN takes its value, then CONT, then PUSH (R301, R385). -/
def State.writeDmaCtrl (s : State) (c v : Nat) : State :=
  if s.chanOfPf c = false then s.chanRefused c
  else
    let s := if bitAt v 0 then s.enableChan c else s.disableChan c
    let s := if bitAt v 1 then s.continueChan c else s
    if bitAt v 2 then (s.pushDesc c (s.descWords c)).1 else s

/-- DMA_CTRL_PUSH (R292). -/
def execDmaCtrlPush (channel value : Nat) (s : State) : Host.Outcome State Fault Refusal :=
  onUnit (okChannel channel) (s.pf (dmaPage channel) 0x40 (Nat.lor value 4) (fun s => s.writeDmaCtrl channel (Nat.lor value 4)))

end Sys2Proof.Machine
end

