-- ==== Sys2Proof/Machine/Flags.lean ====
section
/-! DEFINITION. The arithmetic of the microengines and the flags it gives (R141, R142): one function
per shape of result, over the width of the operation. -/

namespace Sys2Proof.Machine

open Sys2Proof

/-- A result with its flags C, Z, N and V. -/
structure Alu where
  val : Nat
  c : Bool
  z : Bool
  n : Bool
  v : Bool
  deriving DecidableEq, Repr

/-- The signed value of a w-bit number. -/
def sgn (w x : Nat) : Int := if x < 2 ^ (w - 1) then (x : Int) else (x : Int) - (2 ^ w : Nat)

/-- The top bit of a w-bit number. -/
def top (w x : Nat) : Bool := decide (2 ^ (w - 1) ≤ x)

/-- x + y + cin in w bits: C is the carry out, V signed overflow (R142). -/
def aluAdd (w x y cin : Nat) : Alu :=
  let t := x + y + cin
  let r := t % 2 ^ w
  { val := r, c := decide (2 ^ w ≤ t), z := decide (r = 0), n := top w r,
    v := decide (sgn w r ≠ sgn w x + sgn w y + cin) }

/-- x - y - b in w bits: C is the borrow (R141, R142). -/
def aluSub (w x y b : Nat) : Alu :=
  let r := (x + 2 ^ w + 2 ^ w - y - b) % 2 ^ w
  { val := r, c := decide (x < y + b), z := decide (r = 0), n := top w r,
    v := decide (sgn w r ≠ sgn w x - sgn w y - b) }

/-- A result with another value; Z and N follow it. -/
def Alu.to (w : Nat) (a : Alu) (r : Nat) : Alu := { a with val := r, z := decide (r = 0), n := top w r }

/-- A limb op that carries out, under ARITH (R142): 1 saturates to all ones, 2 traps. The reserved 3 wraps
(DESIGN CHOICE, log entry 30). -/
def limbAdd (w arith : Nat) (a : Alu) : Option Alu :=
  if a.c = false then some a else if arith = 1 then some (a.to w (2 ^ w - 1)) else if arith = 2 then none else some a

/-- A limb op that borrows, under ARITH (R142): 1 saturates to 0, 2 traps. The reserved 3 wraps
(DESIGN CHOICE, log entry 30). -/
def limbSub (w arith : Nat) (a : Alu) : Option Alu :=
  if a.c = false then some a else if arith = 1 then some (a.to w 0) else if arith = 2 then none else some a

/-- x << k in 20 bits, with the last bit shifted out; none for k = 0, where none is. -/
def shiftLeft (x k : Nat) : Nat × Option Bool :=
  (x * 2 ^ k % 2 ^ 20, if k = 0 then none else some (decide (x * 2 ^ k / 2 ^ 20 % 2 = 1)))

/-- A logical right shift, with the last bit shifted out. -/
def shiftRight (x k : Nat) : Nat × Option Bool :=
  (x / 2 ^ k, if k = 0 then none else some (decide (x / 2 ^ (k - 1) % 2 = 1)))

/-- An arithmetic right shift: the copies of bit 19 that enter on the left come out as well. -/
def shiftArith (x k : Nat) : Nat × Option Bool :=
  let y := if top 20 x then x + (2 ^ 52 - 2 ^ 20) else x
  (y / 2 ^ k % 2 ^ 20, if k = 0 then none else some (decide (y / 2 ^ (k - 1) % 2 = 1)))

/-- The conditions of BCC (R142). -/
def condHolds (k : Nat) (c z n v : Bool) : Bool :=
  match k % 16 with
  | 0 => z | 1 => !z | 2 => c | 3 => !c | 4 => n | 5 => !n | 6 => v | 7 => !v
  | 8 => !c && !z | 9 => c || z | 10 => n == v | 11 => n != v
  | 12 => !z && (n == v) | 13 => z || (n != v) | 14 => true | _ => false

end Sys2Proof.Machine
end

