-- ==== Sys2Proof/Machine/Operands.lean ====
section
/-! DEFINITION. The operand forms: the fields of a microword and the registers they name (R136, R138),
and the fields of a command's PARAM (R253). -/

namespace Sys2Proof.Machine

open Sys2Proof

/-- The fields of a microword (R136), with the address it stands at. -/
structure Insn where
  op : Nat
  a : Nat
  b : Nat
  k : Nat
  nx : Nat
  deriving DecidableEq, Repr

/-- The fields of a 40-bit word. -/
def insnOf (w : BitVec 40) : Insn :=
  let v := w.toNat
  { op := bits v 34 6, a := bits v 30 4, b := bits v 26 4, k := bits v 14 12, nx := bits v 0 14 }

/-- The word of the fields. -/
def wordOf (x : Insn) : BitVec 40 :=
  BitVec.ofNat 40 (x.op % 64 * 2 ^ 34 + x.a % 16 * 2 ^ 30 + x.b % 16 * 2 ^ 26 + x.k % 4096 * 2 ^ 14 + x.nx % 16384)

/-- Register W[i]. -/
def Ctx.get (k : Ctx) (i : Nat) : Nat := (k.w.getD i 0).toNat

/-- Writes register W[i]. -/
def Ctx.put (k : Ctx) (i v : Nat) : Ctx := { k with w := k.w.set i (BitVec.ofNat 20 v) }

/-- The 60-bit value of W[i..i+2] (R138). -/
def Ctx.get3 (k : Ctx) (i : Nat) : Nat := k.get i + k.get (i + 1) * 2 ^ 20 + k.get (i + 2) * 2 ^ 40

/-- Writes W[i..i+2]. -/
def Ctx.put3 (k : Ctx) (i v : Nat) : Ctx :=
  ((k.put i (v % 2 ^ 20)).put (i + 1) (v / 2 ^ 20 % 2 ^ 20)).put (i + 2) (v / 2 ^ 40 % 2 ^ 20)

/-- Writes all four flags. -/
def Ctx.flags (k : Ctx) (a : Alu) : Ctx := { k with c := a.c, z := a.z, n := a.n, v := a.v }

/-- Z and N of a 20-bit result. -/
def Ctx.zn (k : Ctx) (r : Nat) : Ctx := { k with z := decide (r = 0), n := top 20 r }

/-- The mode bits (R138). -/
def Ctx.isBase (k : Ctx) : Bool := k.mode.toNat % 2 = 1
def Ctx.arith (k : Ctx) : Nat := k.mode.toNat / 2 % 4
def Ctx.evtOn (k : Ctx) : Bool := k.mode.toNat / 8 = 1

/-- The flags as the special FLAGS (R140). -/
def Ctx.flagWord (k : Ctx) : Nat := b2n k.c + b2n k.z * 2 + b2n k.n * 4 + b2n k.v * 8

def Ctx.setFlagWord (k : Ctx) (v : Nat) : Ctx :=
  { k with c := bitAt v 0, z := bitAt v 1, n := bitAt v 2, v := bitAt v 3 }

/-- The slab address of a memory operation (R139); `low` is 4 or 8. -/
def Ctx.addr (k : Ctx) (x : Insn) (low : Nat) : Nat :=
  k.seg % 64 * 2 ^ 20 + (k.get x.b + x.k) % 2 ^ 20 / low * low

/-- The action that W[a..a+6] spell (R160). -/
def Ctx.action (k : Ctx) (a : Nat) : ActionEntry :=
  let m := k.get (a + 6)
  { time := k.get3 a, late := bits m 8 2, log := bitAt m 10, sealed := bitAt m 11, op := bits m 0 8,
    sub := bits (k.get (a + 5)) 8 8,
    arg := k.get (a + 3) + k.get (a + 4) * 2 ^ 20 + bits (k.get (a + 5)) 0 8 * 2 ^ 40 }

/-- Loads an action into W[a..a+6], with the late mark (R160). -/
def Ctx.load (k : Ctx) (a : Nat) (x : ActionEntry) (late : Bool) : Ctx :=
  (((k.put3 a x.time).put (a + 3) (bits x.arg 0 20)).put (a + 4) (bits x.arg 20 20)).put (a + 5)
    (bits x.arg 40 8 + x.sub % 256 * 2 ^ 8) |>.put (a + 6)
    (x.op % 256 + x.late % 4 * 2 ^ 8 + b2n x.log * 2 ^ 10 + b2n x.sealed * 2 ^ 11 + b2n late * 2 ^ 12)

/-- A field of a command's PARAM: n bits from P[lo] up (R253). -/
def Cmd.p (c : Cmd) (lo n : Nat) : Nat := bits c.param lo n

end Sys2Proof.Machine
end

