-- ==== Sys2Proof/Machine/Micro.lean ====
section
/-! DEFINITION. What every microword rests on: the control store, the states of a context,
micro-traps, event flags, and the issue of a word (R131-R157). -/

namespace Sys2Proof.Machine

open Sys2Proof

/-! ### Trays and the control store -/

/-- The engine and context number of a context ID within its tray. -/
abbrev lowOf (c : Nat) : Nat := c % 256

/-- The physical tray a context runs in: the tray that answers to its ID, or the spare it has been
moved to (R131, R163, R178). -/
def State.trayOf (s : State) (c : Nat) : Nat :=
  let p := s.physOf (c / 256)
  match (List.range 9).find? (fun x => (s.tray x).rebuildFor == some p && (s.tray x).moved.contains c) with
  | some x => x
  | none => p

/-- The tray number under which a context finds its flags and units: its own, or, for the replica a rebuild is
making in the spare, that of the tray the spare will stand for (R163). -/
def State.trayNum (s : State) (c : Nat) : Nat :=
  match (s.tray (s.physOf (c / 256))).rebuildFor with
  | some t => s.servesOf t
  | none => c / 256

/-- The key of a control-store word of a physical tray. -/
abbrev csKey (t a : Nat) : Nat := t * 16384 + a

/-- A control-store word: what was loaded, the base set below 0x2000, or 0 (R134, log entry 8). -/
def State.csWord (s : State) (t a : Nat) : BitVec 40 :=
  match s.cs.find? (fun e => e.1 == csKey t a) with
  | some e => e.2
  | none => if a < 0x2000 then Config.baseWord (s.baseVer t) a else 0

/-- A word of the base set stands there: no load has replaced it. -/
def State.native (s : State) (t a : Nat) : Bool :=
  decide (a < 0x2000) && !(Tbl.keys s.cs).contains (csKey t a)

/-- The owner of a control-store unit of a tray number. -/
def State.unitOwner (s : State) (l u : Nat) : Option Nat := Tbl.get none s.units (l * 32 + u)

/-- A context may fetch from an address (R134): in base mode everywhere; in tenant mode the base set and
the units of its own tenant. -/
def State.mayFetch (s : State) (c a : Nat) : Bool :=
  let k := s.ctx c
  k.isBase || (decide (0x20 ≤ a) && (decide (a < 0x2000) ||
    decide (s.unitOwner (s.trayNum c) ((a - 0x2000) / 256) = some k.tenant)))

/-! ### Causes of traps (R148) -/

namespace Cz
abbrev soft : Nat := 1
abbrev event : Nat := 2
abbrev overflow : Nat := 3
abbrev press : Nat := 4
abbrev illegal : Nat := 5
abbrev walk : Nat := 6
abbrev csecc : Nat := 7
abbrev stall : Nat := 8
abbrev watchdog : Nat := 9
abbrev abort : Nat := 10
end Cz

/-- The priority of a cause. -/
def causePrio (c : Nat) : Nat :=
  match c with
  | 1 => 0 | 2 => 1 | 3 => 2 | 4 => 3 | 5 => 4 | 6 => 4 | 7 => 4 | 8 => 5 | 9 => 6 | 10 => 7 | _ => 0

/-- The status of the fault record a cause writes to the tenant; WALK writes its own code. -/
def causeStatus (c info : Nat) : Option Nat :=
  match c with
  | 5 => some Code.rejectClass | 6 => some info | 7 => some Code.slabEcc | 8 => some Code.stall
  | 9 => some Code.stall | 10 => some Code.aborted | _ => none

/-! ### States of a context -/

/-- The number of STATE (R132). -/
def CState.code : CState → Nat
  | .free => 0 | .idle => 1 | .run => 2 | .wait => 3 | .twait => 4 | .recv => 5 | .press => 6
  | .trap => 7 | .halted => 8 | .faulted => 9 | .moving => 10

/-- FREE, IDLE, HALTED or FAULTED: the context cannot receive (R166). -/
def CState.dead (x : CState) : Bool := x == .free || x == .idle || x == .halted || x == .faulted

/-- The state in which a context issues: TRAP in a handler, else RUN. -/
def Ctx.go (k : Ctx) : Ctx := { k with st := if k.inHandler then .trap else .run, waitKind := 0 }

/-- The context is at a WAIT point (R132). -/
def Ctx.atPoint (k : Ctx) : Bool := (k.st == .wait || k.st == .twait || k.st == .recv) && !k.inHandler

/-- The contexts of a tray number that are not FREE. -/
def State.trayCtxs (s : State) (l : Nat) : List Nat :=
  (Tbl.keys s.ctxs).filter fun c => decide (s.trayNum c = l) && decide ((s.ctx c).st ≠ .free)

/-- The standing levels of a tray's sources 8 and 16 to 23 (R164). -/
def State.trayLevels (s : State) (p : Nat) : State :=
  let cs := (s.trayCtxs (s.servesOf p)).map fun c => (c, (s.ctx c).st)
  let s := s.traySet p 8 (cs.any fun x => x.2 == .press)
  (List.range 8).foldl (fun s e => s.traySet p (16 + e) (cs.any fun x => x.2 == .faulted && decide (x.1 / 32 % 8 = e))) s

/-- Sets a context. A context that enters FAULTED raises source 5; BUSY of the tray controller clears
where the context it names can no longer answer (R164, R166). -/
def State.putCtx (s : State) (c : Nat) (k : Ctx) : State :=
  let old := (s.ctx c).st
  let s := s.setCtx c k
  if old = k.st then s
  else
    let p := s.trayOf c
    let s := if k.st = .faulted then s.trayPulse p 5 else s
    let s := if k.st.dead ∧ s.fld (Reg.TRY_IRQ_CTRL p) 8 8 = lowOf c then s.setBit (Reg.TRY_IRQ_CTRL p) 1 false else s
    if old = .press ∨ old = .faulted ∨ k.st = .press ∨ k.st = .faulted then s.trayLevels p else s

/-! ### Trap entry and exit (R147-R153) -/

/-- The save area of a trap taken before the context's next word (R147, R150). -/
def Ctx.saveWords (k : Ctx) : List (BitVec 20) :=
  let pc := match k.slot with | some (_, j) => j | none => k.pc
  let stk (i : Nat) : Nat := k.stack.getD i 0
  [ pc % 2 ^ 14 + b2n k.slot.isSome * 2 ^ 14 + b2n (k.la && decide (k.pc = k.lend)) * 2 ^ 15
      + b2n k.pmode.isSome * 2 ^ 16 + b2n k.la * 2 ^ 17,
    k.flagWord + k.mode.toNat * 2 ^ 4 + (k.pmode.getD 0).toNat * 2 ^ 8 + k.seg % 64 * 2 ^ 12
      + k.stack.length % 4 * 2 ^ 18,
    k.lstart % 2 ^ 14, k.lend % 2 ^ 14, k.lc % 2 ^ 20, stk 0 % 2 ^ 14, stk 1 % 2 ^ 14, stk 2 % 2 ^ 14 ].map (BitVec.ofNat 20)

/-- A word of the save area. -/
def Ctx.saveAt (k : Ctx) (i : Nat) : Nat := (k.save.getD i 0).toNat

/-- The state the save area holds (R149, R150). -/
def Ctx.restore (k : Ctx) : Ctx :=
  let s0 := k.saveAt 0
  let s1 := k.saveAt 1
  { (k.setFlagWord (bits s1 0 4)) with
    pc := bits s0 0 14, slot := none, la := bitAt s0 17,
    pmode := if bitAt s0 16 then some (BitVec.ofNat 4 (bits s1 8 4)) else none,
    mode := BitVec.ofNat 4 (bits s1 4 4), seg := bits s1 12 6,
    lstart := bits (k.saveAt 2) 0 14, lend := bits (k.saveAt 3) 0 14, lc := k.saveAt 4,
    stack := ([5, 6, 7].map fun i => bits (k.saveAt i) 0 14).take (bits s1 18 2),
    inHandler := false, saved := false, base := k.baseSaved, baseSaved := none }

/-! ### The turns of an engine and the windows of a trap (R133, R149, R151) -/

/-- Puts a tray's record of its turns. -/
def State.turnAt (s : State) (c : Nat) (f : Tray → Tray) : State :=
  s.setTray (s.trayOf c) (f (s.tray (s.trayOf c)))

/-- The window of a trap that context `c` stands in: 1 entry, 2 exit. -/
def State.windowOf (s : State) (c : Nat) : Nat := Tbl.get 0 (s.tray (s.trayOf c)).window (lowOf c)

def State.setWindow (s : State) (c w : Nat) : State :=
  s.turnAt c fun t => { t with window := Tbl.set 0 t.window (lowOf c) w }

/-- The context issues nothing in this and the next 3 fabric clocks. -/
def State.noteIssue (s : State) (c : Nat) : State :=
  s.turnAt c fun t => { t with issued := Tbl.set 0 t.issued (lowOf c) (s.tick + 1) }

/-- The context issues: the turn of its engine is taken, and a window of a trap closes. -/
def State.takeTurn (s : State) (c : Nat) : State :=
  s.turnAt c fun t => { t with issued := Tbl.set 0 t.issued (lowOf c) (s.tick + 1),
                               engineAt := Tbl.set 0 t.engineAt (lowOf c / 32) (s.tick + 1),
                               lastOf := Tbl.set 0 t.lastOf (lowOf c / 32) (c % 32 + 1),
                               window := Tbl.set 0 t.window (lowOf c) 0 }

/-- TINFO and TADDR of a trap: what the cause names, or a free value (R140, log entry 3). -/
def State.trapInfo (s : State) (info addr : Option Nat) (k : Ctx) : State × Ctx :=
  let f := (Config.freeWord s.fresh).toNat
  (s.nextFresh, { k with tinfo := info.getD (f % 256), taddr := addr.getD (f / 256 % 2 ^ 20) })

/-- The fault record of a cause (R148, R257): source 2, the context, its PC. A SLAB_ECC sets TABLE_ECC, as every one does
(R129). -/
def State.ctxRecord (s : State) (c cause : Nat) (info : Option Nat) : State :=
  match causeStatus cause (info.getD 0) with
  | some st => (if cause = Cz.csecc then s.dataEcc else s).faultRecord (s.ctx c).tenant st FSrc.ctx c (s.ctx c).pc
  | none => s

/-- Trap entry (R149), 8 ticks long. A WAIT point that the trap ends has been reached now (R159). With `save` false the state saved by an earlier trap stays in place (R151). -/
def State.enterTrap (s : State) (c cause : Nat) (info addr : Option Nat) (save : Bool := true) : State :=
  let k := s.ctx c
  let s := ((s.ctxRecord c cause info).noteIssue c).setWindow c 1
  let k := if k.atPoint then { k with lastPoint := s.tick } else k
  let k := if save then { k with save := k.saveWords, baseSaved := k.base } else { k with baseSaved := k.baseSaved <|> k.base }
  let r := s.trapInfo info addr k
  let k := { r.2 with
    saved := true, mode := 1, pmode := none, slot := none, la := false, stack := [], inHandler := true, st := .trap,
    waitKind := 0, tcause := cause, tprio := causePrio cause, traps := (k.traps + 1) % 2 ^ 16, pc := 2 * cause,
    pend := k.pend.filter (· ≠ cause), base := none }
  r.1.putCtx c k

/-- A context that cannot survive a trap (R152): FAULTED, the save area kept, and a fault record. SOFT, OVERFLOW and PRESS
have no status in R148, and the model writes no record for them (DESIGN CHOICE, log entry 30). -/
def State.faultCtx (s : State) (c cause : Nat) (info addr : Option Nat) : State :=
  let k := s.ctx c
  let s := s.ctxRecord c cause info
  let r := s.trapInfo info addr k
  r.1.putCtx c { r.2 with st := .faulted, tcause := cause, tprio := causePrio cause,
                          traps := (k.traps + 1) % 2 ^ 16, waitKind := 0, pend := [] }

/-- A synchronous trap (R148, R152). -/
def State.syncTrap (s : State) (c cause : Nat) (info addr : Option Nat) : State :=
  if (s.ctx c).inHandler then s.faultCtx c cause info addr else s.enterTrap c cause info addr

/-- The status code an asynchronous cause leaves in TINFO. -/
def asyncInfo (cause : Nat) : Option Nat := causeStatus cause 0

/-- What a pending cause leaves in TINFO: a SOFT that was overtaken, the K of its TRAP (R140). -/
def Ctx.pendInfo (k : Ctx) (cause : Nat) : Option Nat := if cause = Cz.soft then some k.softK else asyncInfo cause

/-- The cause of a trap that a more urgent one overtakes during its entry stays pending (R151); a synchronous one but SOFT is
raised again by its word, and is never held pending (R148; log entry 29). -/
def Ctx.overtaken (k : Ctx) : Ctx :=
  if k.tcause = Cz.soft ∨ k.tcause = Cz.event ∨ Cz.stall ≤ k.tcause then
    { k with pend := k.pend ++ [k.tcause], softK := if k.tcause = Cz.soft then k.tinfo else k.softK } else k

/-- An asynchronous cause reaches a context (R148, R151, R152, R179): a blocked one traps at once, a
running one before its next word, one in a handler or moving keeps it pending. In the entry or the exit of a trap a more
urgent cause is taken at once, with the saved state in place. -/
def State.asyncTrap (s : State) (c cause : Nat) : State :=
  let k := s.ctx c
  let urgent := decide (k.tprio < causePrio cause)
  if k.st.dead then s
  else if s.windowOf c = 1 ∧ k.st = .trap ∧ urgent then
    (s.setCtx c k.overtaken).enterTrap c cause (asyncInfo cause) none false
  else if s.windowOf c = 2 ∧ k.st = .run ∧ urgent then s.enterTrap c cause (asyncInfo cause) none false
  else if k.inHandler ∧ cause = Cz.watchdog then s.faultCtx c cause (asyncInfo cause) none
  else if (k.st = .wait ∨ k.st = .twait ∨ k.st = .recv ∨ k.st = .press) ∧ k.inHandler = false then
    s.enterTrap c cause (asyncInfo cause) none
  else if k.pend.contains cause then s
  else s.setCtx c { k with pend := k.pend ++ [cause] }

/-- The most urgent pending cause. -/
def Ctx.topPend (k : Ctx) : Option Nat :=
  k.pend.foldl (fun m x => match m with
    | none => some x
    | some y => if causePrio y < causePrio x then some x else some y) none

/-- ABORT acts at once in every state (R153): the state is saved unless a save stands, the input FIFO is
emptied, and the context goes to HALTED without a handler. TRY_CTRAP.COUNT stays (R167). -/
def State.abortCtx (s : State) (c : Nat) : State :=
  let k := s.ctx c
  if k.st = .free then s
  else
    let s := s.ctxRecord c Cz.abort (some Code.aborted)
    let s := s.setFifo (fifoKey 5 c) []
    let save := if k.saved then k.save else k.saveWords
    s.putCtx c { k with save := save, saved := true, st := .halted, tcause := Cz.abort, tprio := 7,
                        tinfo := Code.aborted, pend := [], waitKind := 0, sent := [], base := none, baseSaved := none,
                        freed := none }

/-! ### Event flags (R154, R155) -/

/-- The key of a flag of a tray number. -/
abbrev flagKey (l f : Nat) : Nat := l * 256 + f

/-- The context is registered at a flag as a waiter: in WAIT or WAITT, or moving out of one that nothing has released. -/
def Ctx.waitsOn (k : Ctx) (f : Nat) : Bool :=
  let st := if k.st = .moving then k.retSt else k.st
  (st == .wait || (st == .twait && decide (k.waitKind = 2))) && decide (k.waitFlag = f) && k.freed.isNone

/-- The word a context is blocked in completes and the context issues again. -/
def Ctx.unblock (k : Ctx) (na tick time : Nat) : Ctx :=
  { k with pc := na, evtTime := time, since := tick, lastPoint := if k.inHandler then k.lastPoint else tick, waitKind := 0 }.go

/-- The address after a word completes: the loop end of R145, the delay slot's target, and a pending
mode that applies now (R143-R145, R150). -/
def Ctx.complete (k : Ctx) (na : Nat) : Ctx :=
  let atEnd := k.la && decide (k.pc = k.lend)
  let k1 := if atEnd then
      if 1 < k.lc then { k with lc := k.lc - 1, pc := k.lstart } else { k with lc := 0, la := false, pc := na % 2 ^ 14 }
    else { k with pc := na % 2 ^ 14 }
  let k2 := match k.slot with | some (t, _) => { k1 with slot := none, pc := t } | none => k1
  match k.pmode with | some m => { k2 with pmode := none, mode := m } | none => k2

/-- The word at a context's PC. -/
def State.curInsn (s : State) (c : Nat) : Insn := insnOf (s.csWord (s.trayOf c) (s.ctx c).pc)

/-- A blocked context is released at a time: the word completes. A routine of the base set goes on at
its entry. A context that is moving is released when the move ends, on the word of its new tray (R178). -/
def State.release (s : State) (c time : Nat) (z : Option Bool) : State :=
  let k := s.ctx c
  if k.st = .moving then s.setCtx c { k with freed := some (time, z) }
  else if s.native (s.trayOf c) k.pc then s.putCtx c (k.unblock k.pc s.tick time)
  else
    let k := match z with | some b => { k with z := b } | none => k
    let k' := k.complete (s.curInsn c).nx
    s.putCtx c (k'.unblock k'.pc s.tick time)

/-- The contexts that wait on a flag. -/
def State.flagWaiters (s : State) (l f : Nat) : List Nat := (s.trayCtxs l).filter fun c => (s.ctx c).waitsOn f

/-- The contexts whose event-trap flag a flag is, those that wait on it apart. R155 does not ask that the flag be still
their tenant's (DESIGN CHOICE, log entry 30). -/
def State.flagEvents (s : State) (l f : Nat) : List Nat :=
  (s.trayCtxs l).filter fun c =>
    (s.ctx c).evtOn && decide ((s.ctx c).evtFlag = f) && !(s.ctx c).waitsOn f && !(s.ctx c).st.dead

/-- A flag is sent (R154, R155): every waiter is released and the flag stays clear; a context whose
event-trap flag it is traps with EVENT and consumes it; with neither, it is set. -/
def State.sendFlag (s : State) (l f : Nat) : State :=
  let waiters := s.flagWaiters l f
  let events := s.flagEvents l f
  let s := waiters.foldl (fun s c =>
    s.release c s.tb.now (if (s.ctx c).waitKind = 2 then some false else none)) s
  let s := events.foldl (fun s c => s.asyncTrap c Cz.event) s
  if waiters = [] ∧ events = [] then s.setFlag (flagKey l f) { s.flag (flagKey l f) with set := true } else s

/-- A SEND word notes its fabric clock, whether the flag was set before it, and whether it found a taker: a WAIT of the same
clock comes before it (R154). -/
def State.noteSend (s : State) (old : State) (l f : Nat) : State :=
  s.setFlag (flagKey l f) { s.flag (flagKey l f) with
    sentAt := some (s.tick / 2), was := (old.flag (flagKey l f)).set,
    quiet := decide (old.flagWaiters l f = []) && decide (old.flagEvents l f = []) }

/-- The flag after a WAIT or WAITT that it lets go on; none where the word blocks (R154). Where a SEND has issued on the same
fabric clock, the word counts as registered before it: a flag set before is taken and the SEND sets it again, and otherwise
the SEND has released the word. -/
def State.takeFlag (s : State) (key : Nat) : Option Flag :=
  let g := s.flag key
  if g.sentAt = some (s.tick / 2) then some { g with set := g.was && g.quiet, was := false }
  else if g.set then some { g with set := false } else none

/-- A move ends: the context stands where it stood, a flag sent meanwhile releases it on the word of its new tray (R178),
and a cause that arrived meanwhile is taken (R179). -/
def State.endMove (s : State) (c : Nat) : State :=
  let k := s.ctx c
  let s := s.putCtx c { k with st := k.retSt, freed := none }
  let s := match k.freed with
    | some (t, z) => s.release c t z
    | none => s
  match k.topPend with
  | some y => if k.inHandler then s else s.enterTrap c y (k.pendInfo y) none
  | none => s

/-- A context may use a flag: one of its own tenant below 240, or flag 240 for tenant 0, whose context
receives the tray interrupt (R155, R165). -/
def State.flagOwn (s : State) (c f : Nat) : Bool :=
  (decide (f < 240) && decide ((s.flag (flagKey (s.trayNum c) f)).owner = some (s.ctx c).tenant))
    || (decide (f = 240) && decide ((s.ctx c).tenant = 0))

/-! ### Issue (R133, R134, R141, R146) -/

/-- What a word does: it raises a synchronous trap with no effect; it completes; or its state is settled. -/
inductive MRes where
  | trap (cause : Nat) (info addr : Option Nat) (s : State)
  | next (k : Ctx) (na : Nat) (s : State)
  | done (s : State)

/-- A reserved OP (R141). -/
def reservedOp (op : Nat) : Bool := op = 0x16 ∨ op = 0x17 ∨ op = 0x26 ∨ op = 0x27 ∨ op = 0x2B ∨ op = 0x3A ∨ op = 0x3E ∨ op = 0x3F

/-- The words that may stand neither in a delay slot nor at a loop end (R146). -/
def flowOp (op : Nat) : Bool :=
  op = 0x2C ∨ op = 0x28 ∨ op = 0x29 ∨ op = 0x2A ∨ op = 0x2D ∨ op = 0x2E ∨ op = 0x33 ∨ op = 0x2F ∨ op = 0x30 ∨ op = 0x31
    ∨ op = 0x3D

/-- A word stands where it may not (R146). -/
def misplaced (k : Ctx) (op : Nat) : Bool :=
  let atEnd := k.la && decide (k.pc = k.lend)
  (k.slot.isSome && (flowOp op || decide (op = 0x32 ∨ op = 0x35 ∨ op = 0x36 ∨ op = 0x37 ∨ op = 0x39) || atEnd))
    || (k.pmode.isSome && decide (op = 0x31 ∨ op = 0x2C ∨ op = 0x2F ∨ op = 0x33))
    || (atEnd && flowOp op)

/-- An ILLEGAL trap. -/
def MRes.illegal (s : State) : MRes := .trap Cz.illegal (some Code.rejectClass) none s

/-- The outcome of a word meets the pending asynchronous cause: the more urgent one is taken (R148). -/
def State.settleWord (s : State) (c : Nat) (r : MRes) : State :=
  let k := s.ctx c
  let a := if k.inHandler then none else k.topPend
  match a, r with
  | some y, .trap z info addr t =>
    if causePrio z < causePrio y then s.enterTrap c y (k.pendInfo y) none else t.syncTrap c z info addr
  | some y, _ => s.enterTrap c y (k.pendInfo y) none
  | none, .trap z info addr t => t.syncTrap c z info addr
  | none, .next k' na t => t.putCtx c (k'.complete na)
  | none, .done t => t

/-- A correctable error in a fetched word is corrected and counted (R135). -/
def State.fetchCorrect (s : State) (t a : Nat) : State :=
  if s.csSoft.contains (csKey t a) then (s.incSat (Reg.TRY_ECC_CNT t) 0 32).trayPulse t 2 else s

/-- An uncorrectable word is fetched (R135). -/
def State.fetchBad (s : State) (c t : Nat) : State :=
  ((s.relRecord 2 Code.ok 2 0x21 t c).trayPulse t 3).pgErr (0x30 + t) 16

/-- The state after the fetch of a context's word: its turn is taken, and a correctable error in the word has been corrected
and counted (R133, R135). -/
def State.fetched (s : State) (c : Nat) : State := (s.takeTurn c).fetchCorrect (s.trayOf c) (s.ctx c).pc

/-- The context has a word to issue, and has issued none in the last 3 fabric clocks (R133). -/
def State.readyToIssue (s : State) (c : Nat) : Bool :=
  let n := Tbl.get 0 (s.tray (s.trayOf c)).issued (lowOf c)
  ((s.ctx c).st == .run || (s.ctx c).st == .trap) && (decide (n = 0) || decide (n + 7 ≤ s.tick))

/-- How many contexts of its engine come before a context, counted from the one after the last that issued (R133). -/
def State.turnAfter (s : State) (c : Nat) : Nat :=
  (c % 32 + 32 - Tbl.get 0 (s.tray (s.trayOf c)).lastOf (lowOf c / 32)) % 32

/-- The contexts of an engine. -/
def State.engineCtxs (s : State) (c : Nat) : List Nat :=
  (Tbl.keys s.ctxs).filter fun d => decide (s.trayOf d = s.trayOf c) && decide (lowOf d / 32 = lowOf c / 32)

/-- The engine of a context has issued no word on this fabric clock. -/
def State.engineFree (s : State) (c : Nat) : Bool :=
  let n := Tbl.get 0 (s.tray (s.trayOf c)).engineAt (lowOf c / 32)
  decide (n = 0) || decide (n + 1 ≤ s.tick)

/-- The context may issue now: its engine is free, and it is the first ready one in the engine's round (R133). -/
def State.issuing (s : State) (c : Nat) : Bool :=
  s.service && s.readyToIssue c && s.engineFree c
    && (s.engineCtxs c).all fun d => !s.readyToIssue d || decide (s.turnAfter c ≤ s.turnAfter d)

end Sys2Proof.Machine
end

