-- ==== Sys2Proof/Machine/BaseSet.lean ====
section
/-! DEFINITION. Waiting, receiving and emitting (R154-R162), and what the Holveler base set does at its
entries (R169-R173, log entry 8). -/

namespace Sys2Proof.Machine

open Sys2Proof

/-! ### Waits -/

/-- The context blocks at its word. -/
def State.block (s : State) (c : Nat) (st : CState) (kind flag deadline : Nat) : State :=
  s.putCtx c { s.ctx c with st := st, waitKind := kind, waitFlag := flag, deadline := deadline, since := s.tick }

/-- A wait that ends on the spot: the word completes with its release time. -/
def waitedOn (k : Ctx) (time : Nat) (z : Option Bool) : Ctx :=
  { k with evtTime := time, z := z.getD k.z }

/-- WAIT (R154, R155). -/
def State.doWait (s : State) (c f : Nat) (k : Ctx) (na : Nat) : MRes :=
  let key := flagKey (s.trayNum c) f
  if s.flagOwn c f = false then MRes.illegal s
  else match s.takeFlag key with
    | some g => .next (waitedOn k s.tb.now none) na (s.setFlag key g)
    | none => .done (s.block c .wait 1 f 0)

/-- WAITT: the flag, or the deadline (R141, R154). -/
def State.doWaitt (s : State) (c f t : Nat) (k : Ctx) (na : Nat) : MRes :=
  let key := flagKey (s.trayNum c) f
  if s.flagOwn c f = false then MRes.illegal s
  else match s.takeFlag key with
    | some g => .next (waitedOn k s.tb.now (some false)) na (s.setFlag key g)
    | none => if s.reached t then .next (waitedOn k t (some true)) na s else .done (s.block c .twait 2 f t)

/-- TWAIT. -/
def State.doTwait (s : State) (c t : Nat) (k : Ctx) (na : Nat) : MRes :=
  if s.reached t then .next (waitedOn k t none) na s else .done (s.block c .twait 3 0 t)

/-! ### RECV (R160) -/

/-- The user action at the head of a context's input FIFO, once its time has come. -/
def State.recvHead (s : State) (c : Nat) : Option Flight :=
  match s.targetFifo 5 c with
  | [] => none
  | f :: _ => if 0x80 ≤ f.act.op then s.headReady 5 c f.act.op else none

/-- Loads the head action into W[a..a+6]; its record is written and it leaves the FIFO. The context notes when it took it
(R93). -/
def State.takeInput (s : State) (a na : Nat) (f : Flight) (k : Ctx) : MRes :=
  .next { waitedOn (k.load a f.act f.late) f.act.time none with took := some s.tb.now } na (s.finish f)

/-- RECV: takes the head, or blocks. -/
def State.doRecv (s : State) (c a na : Nat) (k : Ctx) : MRes :=
  if 9 < a then MRes.illegal s
  else match s.recvHead c with
    | some f => s.takeInput a na f k
    | none => .done (s.block c .recv 4 0 0)

/-! ### EMIT (R161) -/

/-- A port's grant. -/
def Ctx.port (k : Ctx) (p : Nat) : NearPort := Tbl.get {} k.ports (p % 8)

/-- The near FIFO of a port's target has room. -/
def State.portRoom (s : State) (n : NearPort) : Bool := decide ((s.targetFifo n.ttype n.target).length < 8)

/-- The EMITs a tray has accepted on this fabric clock, and the near-path actions of this and the last 2 ticks (R162). -/
def State.emitsNow (s : State) (t : Nat) : Nat := if (s.tray t).emitAt = s.tick / 2 then (s.tray t).emitted else 0
def State.nearNow (s : State) : List Nat := s.lanes.near.filter fun x => decide (s.tick < x + 3)

/-- The near-path network takes one more action of a tray: 2 EMITs a fabric clock from it, 16 in any 3 ticks in all
(R162). -/
def State.emitRoom (s : State) (t : Nat) : Bool := decide (s.emitsNow t < 2) && decide (s.nearNow.length < 16)

/-- An EMIT of a tray is counted, and the network's round goes on after the tray (R162). -/
def State.noteEmit (s : State) (t : Nat) : State :=
  let k := s.tray t
  { s.setTray t { k with emitAt := s.tick / 2, emitted := s.emitsNow t + 1 } with
    lanes := { s.lanes with near := s.nearNow ++ [s.tick], lastTray := t + 1 } }

/-- The action enters the target FIFO as if it came from the scheduler; the copy of a guarded context
goes to its voter instead (R120, R161), and a copy of the replica a rebuild is making is discarded
(R163). -/
def State.emitTo (s : State) (c p : Nat) (a : ActionEntry) : State :=
  let k := s.ctx c
  let n := k.port p
  let f : Flight := { act := a, org := .near c (p % 8), ord := k.emits, ttype := n.ttype, target := n.target, due := a.time }
  let s := (s.setCtx c { k with emits := k.emits + 1 }).noteEmit (s.trayOf c)
  if k.guarded then
    if (s.replicas c).contains c then s.setCtx c { s.ctx c with sent := k.sent ++ [f] } else s
  else
    (s.pushFifo n.ttype n.target f).judgeFifo n.ttype n.target

/-- EMIT on a granted port: the action goes out, or the context blocks in PRESS. -/
def State.doEmit (s : State) (c p : Nat) (a : ActionEntry) (na : Nat) : MRes :=
  let n := (s.ctx c).port p
  if n.ttype = 0 then MRes.illegal s
  else if s.portRoom n then
    let s := s.emitTo c p a
    .next (s.ctx c) na s
  else .done (s.block c .press 5 0 0)

/-! ### The base set (R169-R173) -/

/-- The registers W0 to W11 and W15 are undefined on return: free values (R170, log entry 3). -/
def State.clobber (s : State) (k : Ctx) : State × Ctx :=
  let is := [0, 1, 2, 3, 4, 5, 6, 7, 8, 9, 10, 11, 15]
  ({ s with fresh := s.fresh + 13 },
    (List.range 13).foldl (fun k i => k.put (is.getD i 0) ((Config.freeWord (s.fresh + i)).toNat % 2 ^ 20)) k)

/-- A base routine returns. -/
def State.baseReturn (s : State) (k : Ctx) : MRes :=
  let r := s.clobber { k with base := none }
  match r.2.stack.getLast? with
  | some na => .next { r.2 with stack := r.2.stack.dropLast } na r.1
  | none => MRes.illegal s

/-- The number of actions a generator emits (R169). -/
def genCount (entry : Nat) (k : Ctx) : Nat :=
  if entry = 0x100 then (k.get 3 + 255) / 256 else if entry = 0x200 then k.get 3 else k.get 5

/-- The inputs of a generator lie in their ranges (R169, R171). -/
def genFits (entry : Nat) (k : Ctx) : Bool :=
  if entry = 0x100 then decide (1 ≤ k.get 3 ∧ k.get 4 + 6 ≤ k.get 5)
  else if entry = 0x200 then
    decide (2 ≤ k.get 3 ∧ k.get 3 ≤ 1025 ∧ 2048 ≤ k.get 4 ∧ 2048 ≤ k.get 5 ∧ 6 ≤ k.get 6
      ∧ k.get 6 + 6 ≤ min (k.get 4) (k.get 5))
  else decide (k.get 3 + 2 ≤ k.get 4 ∧ 1 ≤ k.get 5)

/-- The interval from step i to step i + 1 of an S-curve (R171). -/
def curveStep (n d0 d1 i : Nat) : Nat :=
  let m := n - 2
  if m = 0 then d0
  else
    let q := (if d0 ≤ d1 then d1 - d0 else d0 - d1) * (3 * i * i * m - 2 * i * i * i) / (m * m * m)
    if d0 ≤ d1 then d0 + q else d0 - q

/-- The start of step i after the first one, ticks. -/
def curveAt (n d0 d1 : Nat) : Nat → Nat
  | 0 => 0
  | i + 1 => curveAt n d0 d1 i + curveStep n d0 d1 i

/-- The i-th action a generator emits, its time modulo M (R169, R170). -/
def State.genAction (s : State) (entry i : Nat) (k : Ctx) : ActionEntry :=
  let t := k.get3 0
  let e (time op sub arg : Nat) : ActionEntry :=
    { time := s.plus t time, late := 0, log := false, sealed := false, op := op, sub := sub, arg := arg }
  if entry = 0x100 then
    let n := min 256 (k.get 3 - 256 * i)
    e (256 * i * k.get 5 * 16) 0x06 1 (k.get 4 + k.get 5 * 2 ^ 20 + (n - 1) * 2 ^ 40)
  else if entry = 0x200 then e (curveAt (k.get 3) (k.get 4) (k.get 5) i * 16) 0x05 1 (k.get 6)
  else e (i * k.get 4 * 16) 0x08 (k.get 6 % 4) (k.get 3)

/-- The port a generator emits on (R169). -/
def genPort (k : Ctx) : Nat := k.get 7 % 8

/-- The progress of a generator that has nothing more to emit: it trapped on its inputs, and returns where the hook resumes
it (R170). -/
abbrev genOver : Nat := 2 ^ 21

/-- A step of a generator: check the inputs, wait until 4,096 ticks before the next action's time, or
emit it; after the last one, return (R170). -/
def State.generate (s : State) (c entry : Nat) : MRes :=
  let k := s.ctx c
  let i := k.base.getD 0
  if k.base.isNone ∧ genFits entry k = false then
    .trap Cz.soft (some 0xFE) none (s.setCtx c { k with base := some genOver })
  else if i = genOver ∨ genCount entry k ≤ i then s.baseReturn k
  else
    let a := s.genAction entry i k
    let go := s.minus a.time 65536
    if s.reached go = false then
      .done ((s.setCtx c { k with base := some i }).block c .twait 3 0 go)
    else if (k.port (genPort k)).ttype = 0 then MRes.illegal s
    else if s.portRoom (k.port (genPort k)) then
      let s := s.emitTo c (genPort k) a
      .done (s.setCtx c { s.ctx c with base := some (i + 1) })
    else .done ((s.setCtx c { k with base := some i }).block c .press 5 0 0)

/-- Writes a context that the base handler leaves in its hook, with W15 undefined (R172). -/
def State.toHook (s : State) (c slot : Nat) : MRes :=
  let k := s.ctx c
  let k := k.put 15 ((Config.freeWord s.fresh).toNat % 2 ^ 20)
  .done (s.nextFresh.putCtx c { k with mode := 0, pc := (k.home.getD 0 * 256 + 0x2000 + slot) % 2 ^ 14 })

/-- What the base handler does with a cause (R172): a hook word of the home unit, or FAULTED. -/
def State.baseHandler (s : State) (c : Nat) : MRes :=
  let k := s.ctx c
  match k.tcause with
  | 1 => s.toHook c 0
  | 2 => s.toHook c 1
  | 3 => s.toHook c 2
  | 4 => s.toHook c 3
  | 8 => s.toHook c 4
  | _ => .done (s.putCtx c { k with st := .faulted, pend := [] })

/-- A return from the handler (R149, R151): a more urgent pending cause is taken with the saved state in
place; otherwise the restored context runs on after the exit, 8 ticks long. -/
def State.trapReturn (s : State) (c : Nat) (k : Ctx) : State :=
  let back := (s.putCtx c { k.restore with st := .run }).setWindow c 2
  match k.topPend with
  | some y => if k.tprio < causePrio y then (s.setCtx c k).enterTrap c y (k.pendInfo y) none false else back
  | none => back

/-- BS_REDIRECT: the saved state resumes at W15, with DS, LE, PM and LA cleared (R169). -/
def redirected (k : Ctx) : Ctx :=
  { k with save := k.save.set 0 (BitVec.ofNat 20 (k.get 15 % 2 ^ 14)), baseSaved := none }

/-- The dispatch loop of R173: RECV W0, W15 := (W6 AND 0x7F) + W12 with the flags of the ADD, and a jump through W15. -/
def State.dispatch (s : State) (c : Nat) : MRes :=
  match s.recvHead c with
  | none => .done (s.block c .recv 4 0 0)
  | some f =>
    let k := (s.ctx c).load 0 f.act f.late
    let a := aluAdd 20 (k.get 6 % 128) (k.get 12) 0
    .next { ((waitedOn k f.act.time none).put 15 a.val).flags a with took := some s.tb.now } (a.val % 2 ^ 14) (s.finish f)

/-- What stands at an address of the base set where no load has replaced it. An address the spec names
no routine for acts as a word that continues at itself: the context stays there (log entry 8). -/
def State.baseEntry (s : State) (c : Nat) : MRes :=
  let k := s.ctx c
  let pc := k.pc
  if pc < 0x20 then (if pc = 2 * k.tcause then s.baseHandler c else MRes.done s)
  else if pc = 0x20 then .done (s.trapReturn c k)
  else if pc = 0x24 then .done (s.putCtx c { k with st := .faulted, pend := [] })
  else if pc = 0x28 then .done (s.trapReturn c (redirected k))
  else if pc = 0x40 then s.dispatch c
  else if pc = 0x48 then .trap Cz.soft (some 0xFF) none (s.setCtx c { k with pc := 0x40 })
  else if pc = 0x100 ∨ pc = 0x200 ∨ pc = 0x300 then s.generate c pc
  else MRes.done s

end Sys2Proof.Machine
end

