-- ==== Sys2Proof/Machine/MicroOps.lean ====
section
/-! DEFINITION. The meanings of the microwords (R136-R161), of the waits' ends, and of the watchdogs and
the tray interrupt controller (R156-R167). -/

namespace Sys2Proof.Machine

open Sys2Proof

/-- A context issues its next word (R133-R148): the fetch and its checks, the placement, and the
operation, where the word is of operation `op`. -/
def State.issue (s : State) (c op : Nat) (f : Insn → Ctx → State → MRes) : State :=
  let k := s.ctx c
  let t := s.trayOf c
  let x := insnOf (s.csWord t k.pc)
  if s.issuing c = false then s
  else if s.csBad.contains (csKey t k.pc) then
    (s.takeTurn c).settleWord c (.trap Cz.csecc (some Code.slabEcc) none ((s.takeTurn c).fetchBad c t))
  else if s.mayFetch c k.pc = false then (s.takeTurn c).settleWord c (MRes.illegal (s.takeTurn c))
  else if s.native t k.pc then (s.fetched c).settleWord c ((s.fetched c).baseEntry c)
  else if reservedOp x.op then (s.fetched c).settleWord c (MRes.illegal (s.fetched c))
  else if x.op ≠ op then s
  else
    let s := s.fetched c
    s.settleWord c (if misplaced k x.op then MRes.illegal s else f x (s.ctx c) s)

/-! ### Shapes of operations -/

/-- A 20-bit result with all four flags. -/
def wordAlu (x : Insn) (k : Ctx) (s : State) (d : Nat) (a : Alu) : MRes := .next ((k.put d a.val).flags a) x.nx s

/-- A 20-bit limb op; none traps OVERFLOW (R142). -/
def limbWord (x : Insn) (k : Ctx) (s : State) : Option Alu → MRes
  | some a => wordAlu x k s x.a a
  | none => .trap Cz.overflow none none s

/-- A bitwise result: Z and N. -/
def bitWord (x : Insn) (k : Ctx) (s : State) (r : Nat) : MRes := .next ((k.put x.a r).zn r) x.nx s

/-- A shift: C takes the last bit out, a free value where no bit comes out (log entry 3). -/
def shiftWord (x : Insn) (k : Ctx) (s : State) (r : Nat × Option Bool) : MRes :=
  match r.2 with
  | some b => .next { (k.put x.a r.1).zn r.1 with c := b } x.nx s
  | none => .next { (k.put x.a r.1).zn r.1 with c := bitAt (Config.freeWord s.fresh).toNat 0 } x.nx s.nextFresh

/-- MUL (R141). -/
def mulWord (x : Insn) (k : Ctx) (s : State) : MRes :=
  if 14 < x.a then MRes.illegal s
  else
    let p := k.get x.a * k.get x.b
    .next { (k.put x.a (p % 2 ^ 20)).put (x.a + 1) (p / 2 ^ 20) with z := decide (p = 0) } x.nx s

/-- A 60-bit limb op over W[A..A+2]; the range of B is `b`. -/
def limbThree (x : Insn) (k : Ctx) (s : State) (b : Nat) : Option Alu → MRes
  | some a => if 13 < x.a ∨ 13 < b then MRes.illegal s else .next ((k.put3 x.a a.val).flags a) x.nx s
  | none => if 13 < x.a ∨ 13 < b then MRes.illegal s else .trap Cz.overflow none none s

/-- CMP3: Z equal, N before by R27, C unsigned borrow, V 0 (R141). -/
def cmpThree (x : Insn) (k : Ctx) (s : State) : MRes :=
  let a := k.get3 x.a
  let b := k.get3 x.b
  if 13 < x.a ∨ 13 < x.b then MRes.illegal s
  else .next { k with z := decide (a = b), n := !s.atOrAfter a b, c := decide (a < b), v := false } x.nx s

/-- WRAP3 (R141). -/
def wrapThree (x : Insn) (k : Ctx) (s : State) : MRes :=
  let v := k.get3 x.a
  let m := s.circle
  let r := if x.k % 2 = 0 then (if k.c ∨ m ≤ v then v + 2 ^ 60 - m else v) else (if k.c then v + m else v)
  if 13 < x.a then MRes.illegal s else .next { k.put3 x.a (r % 2 ^ 60) with c := false } x.nx s

/-- A time into W[A..A+2]. -/
def threeOf (x : Insn) (k : Ctx) (s : State) (t : Nat) : MRes :=
  if 13 < x.a then MRes.illegal s else .next (k.put3 x.a t) x.nx s

/-- A load of `len` bytes; `lim` bounds A (R139). -/
def loadWord (x : Insn) (k : Ctx) (s : State) (lim low len : Nat) (f : Ctx → Nat → Ctx) : MRes :=
  if lim < x.a then MRes.illegal s
  else match s.slabRead k.tenant (k.addr x low) len 2 with
    | .ok v s => .next (f k v) x.nx s
    | .bad c s => .trap Cz.walk (some c) (some (k.addr x low)) s

/-- A store of `len` bytes. -/
def storeWord (x : Insn) (k : Ctx) (s : State) (lim low len v : Nat) : MRes :=
  if lim < x.a then MRes.illegal s
  else match s.slabWrite k.tenant (k.addr x low) len v 2 with
    | .ok _ s => .next k x.nx s
    | .bad c s => .trap Cz.walk (some c) (some (k.addr x low)) s

/-- The successor of a two-way branch (R137). -/
def branchTo (x : Insn) (taken : Bool) : Nat := x.nx / 2 * 2 + b2n taken

/-- JUMPR (R143): the loop logic of R145 does not meet it (R146). -/
def jumprWord (c : Nat) (x : Insn) (k : Ctx) (s : State) : MRes :=
  .done (s.putCtx c { k with slot := some ((k.get x.a % 2 ^ 14 + x.k) % 2 ^ 14, k.pc), pc := x.nx })

/-- RET (R141). -/
def retWord (k : Ctx) (s : State) : MRes :=
  match k.stack.getLast? with
  | some a => .next { k with stack := k.stack.dropLast } a s
  | none => MRes.illegal s

/-- LOOP (R145): with a count of 0 the context goes on at the NEXT of the word at LEND. -/
def State.loopWord (s : State) (c : Nat) (x : Insn) (k : Ctx) : MRes :=
  let e := (x.nx + x.k) % 2 ^ 14
  let t := s.trayOf c
  if k.la then MRes.illegal s
  else if k.get x.a ≠ 0 then
    .next { k with lc := k.get x.a, lstart := x.nx, lend := e, la := true } x.nx s
  else if s.csBad.contains (csKey t e) then .trap Cz.csecc (some Code.slabEcc) none (s.fetchBad c t)
  else if s.mayFetch c e = false then MRes.illegal s
  else .next { k with lc := 0, lstart := x.nx, lend := e } (insnOf (s.csWord t e)).nx (s.fetchCorrect t e)

/-- MODE (R144): BASE is set only by a word of the base set. -/
def modeWord (c : Nat) (x : Insn) (k : Ctx) (s : State) : MRes :=
  if bitAt x.k 0 ∧ 0x2000 ≤ k.pc then MRes.illegal s
  else .done (s.putCtx c { k with pmode := some (BitVec.ofNat 4 x.k), pc := x.nx })

/-- SEND (R154, R155): only by a registered sender. -/
def State.sendWord (s : State) (c : Nat) (x : Insn) : MRes :=
  let f := x.k % 256
  let g := s.flag (flagKey (s.trayNum c) f)
  if 240 ≤ f ∨ g.owner ≠ some (s.ctx c).tenant ∨ g.senders.contains (lowOf c) = false then MRes.illegal s
  else
    let s := (s.sendFlag (s.trayNum c) f).noteSend s (s.trayNum c) f
    .done (s.putCtx c ((s.ctx c).complete x.nx))

/-! ### Special registers (R140) -/

/-- The pending enabled sources of a tray. -/
def State.trayReady (s : State) (t : Nat) : List Nat :=
  (List.range 64).filter fun i => s.trayPend t i && s.bit (Reg.TRY_IRQ_EN_L t + i / 32 * 4) (i % 32)

/-- IRQ_NEXT: the lowest pending enabled source, 0x40 if none. -/
def State.irqNext (s : State) (t : Nat) : Nat := match s.trayReady t with | i :: _ => i | [] => 0x40

/-- A special marked 'base' (R140). -/
def baseSpecial (n : Nat) : Bool := 16 ≤ n ∧ n ≤ 29

/-- A reserved selector. -/
def reservedSpecial (n : Nat) : Bool := n = 15 ∨ 30 ≤ n

/-- The content of a special. IRQ_DONE is WO and reads 0 (R7). -/
def State.special (s : State) (c n : Nat) (k : Ctx) : Nat :=
  let t := s.trayOf c
  match n with
  | 0 => k.flagWord | 1 => k.seg | 2 => k.mode.toNat | 3 => k.lc | 4 => k.lstart | 5 => k.lend
  | 6 => k.wk0.toNat | 7 => k.wk1.toNat | 8 => c | 9 => k.tenant | 10 => k.evtFlag
  | 11 => k.tcause + k.tprio * 2 ^ 4 | 12 => k.tinfo % 256 | 13 => k.taddr % 2 ^ 20 | 14 => k.taddr / 2 ^ 20
  | 24 => s.irqNext t | 25 => 0
  | 26 => bits (s.regN (Reg.TRY_IRQ_PEND_L t)) 0 16 | 27 => bits (s.regN (Reg.TRY_IRQ_PEND_L t)) 16 16
  | 28 => bits (s.regN (Reg.TRY_IRQ_PEND_H t)) 0 16 | 29 => bits (s.regN (Reg.TRY_IRQ_PEND_H t)) 16 16
  | _ => k.saveAt (n - 16)

/-- MFS. -/
def State.mfsWord (s : State) (c : Nat) (x : Insn) (k : Ctx) : MRes :=
  let n := x.k % 64
  if reservedSpecial n ∨ (baseSpecial n ∧ k.isBase = false) then MRes.illegal s
  else .next (k.put x.a (s.special c n k)) x.nx s

/-- IRQ_DONE (R165): an edge source clears, a level source is sampled again; BUSY ends when the named
context writes it. -/
def State.irqDone (s : State) (c i : Nat) : State :=
  let t := s.trayOf c
  let s := s.setTrayPend t i (s.traySense t i = 0 && bitAt (s.tray t).levels i)
  if s.fld (Reg.TRY_IRQ_CTRL t) 8 8 = lowOf c then s.setBit (Reg.TRY_IRQ_CTRL t) 1 false else s

/-- MTS: a write to a read-only special is ignored. -/
def State.mtsWord (s : State) (c : Nat) (x : Insn) (k : Ctx) : MRes :=
  let n := x.k % 64
  let v := k.get x.a
  if reservedSpecial n ∨ (baseSpecial n ∧ k.isBase = false) then MRes.illegal s
  else if n = 0 then .next (k.setFlagWord v) x.nx s
  else if n = 1 then .next { k with seg := v % 64 } x.nx s
  else if n = 3 then .next { k with lc := v } x.nx s
  else if n = 10 then
    if s.flagOwn c (v % 256) then .next { k with evtFlag := v % 256 } x.nx s else MRes.illegal s
  else if 16 ≤ n ∧ n < 24 then
    .next { k with save := k.save.set (n - 16) (BitVec.ofNat 20 v), baseSaved := if n = 16 then none else k.baseSaved } x.nx s
  else if n = 25 then .next k x.nx (s.irqDone c (v % 64))
  else .next k x.nx s

/-! ### The microwords -/

/-- NOP (R141). -/
def execNopMicroword (ctx : Nat) (s : State) : Host.Outcome State Fault Refusal :=
  onUnit (okCtx ctx) (s.issue ctx 0x00 (fun x k s => .next k x.nx s))

/-- MOV (R141). -/
def execMov (ctx : Nat) (s : State) : Host.Outcome State Fault Refusal :=
  onUnit (okCtx ctx) (s.issue ctx 0x01 (fun x k s => .next (k.put x.a (k.get x.b)) x.nx s))

/-- LDI (R141). -/
def execLdi (ctx : Nat) (s : State) : Host.Outcome State Fault Refusal :=
  onUnit (okCtx ctx) (s.issue ctx 0x02 (fun x k s => .next (k.put x.a x.k) x.nx s))

/-- LDHI (R141): bits 19 to 12 take K[7:0]. -/
def execLdhi (ctx : Nat) (s : State) : Host.Outcome State Fault Refusal :=
  onUnit (okCtx ctx) (s.issue ctx 0x03 (fun x k s => .next (k.put x.a (k.get x.a % 4096 + x.k % 256 * 4096)) x.nx s))

/-- ADD (R141). -/
def execAdd (ctx : Nat) (s : State) : Host.Outcome State Fault Refusal :=
  onUnit (okCtx ctx) (s.issue ctx 0x04 (fun x k s => wordAlu x k s x.a (aluAdd 20 (k.get x.a) (k.get x.b) 0)))

/-- ADC, a limb op (R142). -/
def execAdc (ctx : Nat) (s : State) : Host.Outcome State Fault Refusal :=
  onUnit (okCtx ctx) (s.issue ctx 0x05 (fun x k s => limbWord x k s (limbAdd 20 k.arith (aluAdd 20 (k.get x.a) (k.get x.b) (b2n k.c)))))

/-- SUB (R141). -/
def execSub (ctx : Nat) (s : State) : Host.Outcome State Fault Refusal :=
  onUnit (okCtx ctx) (s.issue ctx 0x06 (fun x k s => wordAlu x k s x.a (aluSub 20 (k.get x.a) (k.get x.b) 0)))

/-- SBC, a limb op (R142). -/
def execSbc (ctx : Nat) (s : State) : Host.Outcome State Fault Refusal :=
  onUnit (okCtx ctx) (s.issue ctx 0x07 (fun x k s => limbWord x k s (limbSub 20 k.arith (aluSub 20 (k.get x.a) (k.get x.b) (b2n k.c)))))

/-- ADDI (R141). -/
def execAddi (ctx : Nat) (s : State) : Host.Outcome State Fault Refusal :=
  onUnit (okCtx ctx) (s.issue ctx 0x08 (fun x k s => wordAlu x k s x.a (aluAdd 20 (k.get x.b) x.k 0)))

/-- SUBI (R141). -/
def execSubi (ctx : Nat) (s : State) : Host.Outcome State Fault Refusal :=
  onUnit (okCtx ctx) (s.issue ctx 0x09 (fun x k s => wordAlu x k s x.a (aluSub 20 (k.get x.b) x.k 0)))

/-- AND (R141). -/
def execAnd (ctx : Nat) (s : State) : Host.Outcome State Fault Refusal :=
  onUnit (okCtx ctx) (s.issue ctx 0x0A (fun x k s => bitWord x k s (Nat.land (k.get x.a) (k.get x.b))))

/-- OR (R141). -/
def execOr (ctx : Nat) (s : State) : Host.Outcome State Fault Refusal :=
  onUnit (okCtx ctx) (s.issue ctx 0x0B (fun x k s => bitWord x k s (Nat.lor (k.get x.a) (k.get x.b))))

/-- XOR (R141). -/
def execXor (ctx : Nat) (s : State) : Host.Outcome State Fault Refusal :=
  onUnit (okCtx ctx) (s.issue ctx 0x0C (fun x k s => bitWord x k s (Nat.xor (k.get x.a) (k.get x.b))))

/-- ANDI (R141). -/
def execAndi (ctx : Nat) (s : State) : Host.Outcome State Fault Refusal :=
  onUnit (okCtx ctx) (s.issue ctx 0x0D (fun x k s => bitWord x k s (Nat.land (k.get x.b) x.k)))

/-- ORI (R141). -/
def execOri (ctx : Nat) (s : State) : Host.Outcome State Fault Refusal :=
  onUnit (okCtx ctx) (s.issue ctx 0x0E (fun x k s => bitWord x k s (Nat.lor (k.get x.b) x.k)))

/-- XORI (R141). -/
def execXori (ctx : Nat) (s : State) : Host.Outcome State Fault Refusal :=
  onUnit (okCtx ctx) (s.issue ctx 0x0F (fun x k s => bitWord x k s (Nat.xor (k.get x.b) x.k)))

/-- SHL (R141). -/
def execShl (ctx : Nat) (s : State) : Host.Outcome State Fault Refusal :=
  onUnit (okCtx ctx) (s.issue ctx 0x10 (fun x k s => shiftWord x k s (shiftLeft (k.get x.b) (x.k % 32))))

/-- SHR (R141). -/
def execShr (ctx : Nat) (s : State) : Host.Outcome State Fault Refusal :=
  onUnit (okCtx ctx) (s.issue ctx 0x11 (fun x k s => shiftWord x k s (shiftRight (k.get x.b) (x.k % 32))))

/-- SAR (R141). -/
def execSar (ctx : Nat) (s : State) : Host.Outcome State Fault Refusal :=
  onUnit (okCtx ctx) (s.issue ctx 0x12 (fun x k s => shiftWord x k s (shiftArith (k.get x.b) (x.k % 32))))

/-- MUL: 40 bits in W[A+1]:W[A] (R141). -/
def execMul (ctx : Nat) (s : State) : Host.Outcome State Fault Refusal :=
  onUnit (okCtx ctx) (s.issue ctx 0x13 (fun x k s => mulWord x k s))

/-- CMP (R141). -/
def execCmp (ctx : Nat) (s : State) : Host.Outcome State Fault Refusal :=
  onUnit (okCtx ctx) (s.issue ctx 0x14 (fun x k s => .next (k.flags (aluSub 20 (k.get x.a) (k.get x.b) 0)) x.nx s))

/-- CMPI (R141). -/
def execCmpi (ctx : Nat) (s : State) : Host.Outcome State Fault Refusal :=
  onUnit (okCtx ctx) (s.issue ctx 0x15 (fun x k s => .next (k.flags (aluSub 20 (k.get x.a) x.k 0)) x.nx s))

/-- ADD3, a limb op (R141, R142). -/
def execAdd3 (ctx : Nat) (s : State) : Host.Outcome State Fault Refusal :=
  onUnit (okCtx ctx) (s.issue ctx 0x18 (fun x k s => limbThree x k s x.b (limbAdd 60 k.arith (aluAdd 60 (k.get3 x.a) (k.get3 x.b) 0))))

/-- SUB3, a limb op (R141, R142). -/
def execSub3 (ctx : Nat) (s : State) : Host.Outcome State Fault Refusal :=
  onUnit (okCtx ctx) (s.issue ctx 0x19 (fun x k s => limbThree x k s x.b (limbSub 60 k.arith (aluSub 60 (k.get3 x.a) (k.get3 x.b) 0))))

/-- CMP3 (R141, R27). -/
def execCmp3 (ctx : Nat) (s : State) : Host.Outcome State Fault Refusal :=
  onUnit (okCtx ctx) (s.issue ctx 0x1A (fun x k s => cmpThree x k s))

/-- ADDS3, a limb op (R141, R142). -/
def execAdds3 (ctx : Nat) (s : State) : Host.Outcome State Fault Refusal :=
  onUnit (okCtx ctx) (s.issue ctx 0x1B (fun x k s => limbThree x k s 0 (limbAdd 60 k.arith (aluAdd 60 (k.get3 x.a) (k.get x.b * 2 ^ (4 * (x.k % 4))) 0))))

/-- WRAP3 (R141). -/
def execWrap3 (ctx : Nat) (s : State) : Host.Outcome State Fault Refusal :=
  onUnit (okCtx ctx) (s.issue ctx 0x1C (fun x k s => wrapThree x k s))

/-- MOV3 (R141). -/
def execMov3 (ctx : Nat) (s : State) : Host.Outcome State Fault Refusal :=
  onUnit (okCtx ctx) (s.issue ctx 0x1D (fun x k s => if 13 < x.a ∨ 13 < x.b then MRes.illegal s else .next (k.put3 x.a (k.get3 x.b)) x.nx s))

/-- NOW; in a guarded context, as EVT (R141). -/
def execNow (ctx : Nat) (s : State) : Host.Outcome State Fault Refusal :=
  onUnit (okCtx ctx) (s.issue ctx 0x1E (fun x k s => threeOf x k s (if k.guarded then k.evtTime else s.tb.now)))

/-- EVT (R141). -/
def execEvt (ctx : Nat) (s : State) : Host.Outcome State Fault Refusal :=
  onUnit (okCtx ctx) (s.issue ctx 0x1F (fun x k s => threeOf x k s k.evtTime))

/-- LDW (R139, R141). -/
def execLdw (ctx : Nat) (s : State) : Host.Outcome State Fault Refusal :=
  onUnit (okCtx ctx) (s.issue ctx 0x20 (fun x k s => loadWord x k s 15 4 4 (fun k v => k.put x.a (v % 2 ^ 20))))

/-- STW (R139, R141). -/
def execStw (ctx : Nat) (s : State) : Host.Outcome State Fault Refusal :=
  onUnit (okCtx ctx) (s.issue ctx 0x21 (fun x k s => storeWord x k s 15 4 4 (k.get x.a)))

/-- LD32 (R141). -/
def execLd32 (ctx : Nat) (s : State) : Host.Outcome State Fault Refusal :=
  onUnit (okCtx ctx) (s.issue ctx 0x22 (fun x k s => loadWord x k s 14 4 4 (fun k v => (k.put x.a (v % 2 ^ 20)).put (x.a + 1) (v / 2 ^ 20))))

/-- ST32 (R141). -/
def execSt32 (ctx : Nat) (s : State) : Host.Outcome State Fault Refusal :=
  onUnit (okCtx ctx) (s.issue ctx 0x23 (fun x k s => storeWord x k s 14 4 4 (k.get x.a + k.get (x.a + 1) % 2 ^ 12 * 2 ^ 20)))

/-- LDT (R139, R141). -/
def execLdt (ctx : Nat) (s : State) : Host.Outcome State Fault Refusal :=
  onUnit (okCtx ctx) (s.issue ctx 0x24 (fun x k s => loadWord x k s 13 8 8 (fun k v => k.put3 x.a (v % 2 ^ 60))))

/-- STT (R139, R141). -/
def execStt (ctx : Nat) (s : State) : Host.Outcome State Fault Refusal :=
  onUnit (okCtx ctx) (s.issue ctx 0x25 (fun x k s => storeWord x k s 13 8 8 (k.get3 x.a)))

/-- BCC (R137, R142). -/
def execBcc (ctx : Nat) (s : State) : Host.Outcome State Fault Refusal :=
  onUnit (okCtx ctx) (s.issue ctx 0x28 (fun x k s => .next k (branchTo x (condHolds x.k k.c k.z k.n k.v)) s))

/-- BBS (R137). -/
def execBbs (ctx : Nat) (s : State) : Host.Outcome State Fault Refusal :=
  onUnit (okCtx ctx) (s.issue ctx 0x29 (fun x k s => .next k (branchTo x (bitAt (k.get x.a) (x.k % 32))) s))

/-- BEQ (R137). -/
def execBeq (ctx : Nat) (s : State) : Host.Outcome State Fault Refusal :=
  onUnit (okCtx ctx) (s.issue ctx 0x2A (fun x k s => .next k (branchTo x (decide (k.get x.a = k.get x.b))) s))

/-- JUMPR: the delay slot stands at NEXT (R143). -/
def execJumpr (ctx : Nat) (s : State) : Host.Outcome State Fault Refusal :=
  onUnit (okCtx ctx) (s.issue ctx 0x2C (fun x k s => jumprWord ctx x k s))

/-- CALL (R141). -/
def execCall (ctx : Nat) (s : State) : Host.Outcome State Fault Refusal :=
  onUnit (okCtx ctx) (s.issue ctx 0x2D (fun x k s => if 3 ≤ k.stack.length then MRes.illegal s else .next { k with stack := k.stack ++ [(k.pc + 1) % 2 ^ 14] } x.nx s))

/-- RET (R141). -/
def execRet (ctx : Nat) (s : State) : Host.Outcome State Fault Refusal :=
  onUnit (okCtx ctx) (s.issue ctx 0x2E (fun _ k s => retWord k s))

/-- LOOP (R145). -/
def execLoop (ctx : Nat) (s : State) : Host.Outcome State Fault Refusal :=
  onUnit (okCtx ctx) (s.issue ctx 0x2F (fun x k s => s.loopWord ctx x k))

/-- LBRK (R141). -/
def execLbrk (ctx : Nat) (s : State) : Host.Outcome State Fault Refusal :=
  onUnit (okCtx ctx) (s.issue ctx 0x30 (fun x k s => .next { k with la := false } x.nx s))

/-- MODE: the new mode applies after one shadow word (R144). -/
def execMode (ctx : Nat) (s : State) : Host.Outcome State Fault Refusal :=
  onUnit (okCtx ctx) (s.issue ctx 0x31 (fun x k s => modeWord ctx x k s))

/-- TRAP (R148): completes, and saves the address it continues at. -/
def execTrap (ctx : Nat) (s : State) : Host.Outcome State Fault Refusal :=
  onUnit (okCtx ctx) (s.issue ctx 0x32 (fun x k s => .trap Cz.soft (some (x.k % 256)) none (s.setCtx ctx (k.complete x.nx))))

/-- RETT, base mode only (R149, R151). -/
def execRett (ctx : Nat) (s : State) : Host.Outcome State Fault Refusal :=
  onUnit (okCtx ctx) (s.issue ctx 0x33 (fun _ k s => if k.isBase then .done (s.trapReturn ctx k) else MRes.illegal s))

/-- SEND (R154, R155). -/
def execSend (ctx : Nat) (s : State) : Host.Outcome State Fault Refusal :=
  onUnit (okCtx ctx) (s.issue ctx 0x34 (fun x _ s => s.sendWord ctx x))

/-- WAIT (R154). -/
def execWait (ctx : Nat) (s : State) : Host.Outcome State Fault Refusal :=
  onUnit (okCtx ctx) (s.issue ctx 0x35 (fun x k s => s.doWait ctx (x.k % 256) k x.nx))

/-- WAITT (R141). -/
def execWaitt (ctx : Nat) (s : State) : Host.Outcome State Fault Refusal :=
  onUnit (okCtx ctx) (s.issue ctx 0x36 (fun x k s => if 13 < x.a then MRes.illegal s else s.doWaitt ctx (x.k % 256) (k.get3 x.a) k x.nx))

/-- TWAIT (R141). -/
def execTwait (ctx : Nat) (s : State) : Host.Outcome State Fault Refusal :=
  onUnit (okCtx ctx) (s.issue ctx 0x37 (fun x k s => if 13 < x.a then MRes.illegal s else s.doTwait ctx (k.get3 x.a) k x.nx))

/-- A context is about to issue an EMIT word. -/
def State.emitting (s : State) (c : Nat) : Bool :=
  let t := s.trayOf c
  let pc := (s.ctx c).pc
  s.issuing c && !s.csBad.contains (csKey t pc) && s.mayFetch c pc && !s.native t pc
    && decide ((insnOf (s.csWord t pc)).op = 0x38)

/-- How many trays the network serves before a tray in its round (R162). -/
def State.emitAfter (s : State) (t : Nat) : Nat := (t + 9 - s.lanes.lastTray % 9) % 9

/-- The network takes an EMIT of this context now: there is room, and of the trays with an EMIT to issue and room for it the
context's is the first in the round (R162). -/
def State.emitTurn (s : State) (c : Nat) : Bool :=
  s.emitRoom (s.trayOf c) && (Tbl.keys s.ctxs).all fun d =>
    !(s.emitting d && s.emitRoom (s.trayOf d)) || decide (s.emitAfter (s.trayOf c) ≤ s.emitAfter (s.trayOf d))

/-- EMIT (R161, R162). -/
def execEmit (ctx : Nat) (s : State) : Host.Outcome State Fault Refusal :=
  onUnit (okCtx ctx) (if s.emitting ctx ∧ s.emitTurn ctx = false then s else s.issue ctx 0x38 (fun x k s => if 9 < x.a then MRes.illegal s else s.doEmit ctx (x.k % 8) (k.action x.a) x.nx))

/-- RECV (R160). -/
def execRecv (ctx : Nat) (s : State) : Host.Outcome State Fault Refusal :=
  onUnit (okCtx ctx) (s.issue ctx 0x39 (fun x k s => s.doRecv ctx x.a x.nx k))

/-- MFS (R140). -/
def execMfs (ctx : Nat) (s : State) : Host.Outcome State Fault Refusal :=
  onUnit (okCtx ctx) (s.issue ctx 0x3B (fun x k s => s.mfsWord ctx x k))

/-- MTS (R140). -/
def execMts (ctx : Nat) (s : State) : Host.Outcome State Fault Refusal :=
  onUnit (okCtx ctx) (s.issue ctx 0x3C (fun x k s => s.mtsWord ctx x k))

/-- HALT: the context goes to IDLE (R141). -/
def execHaltMicroword (ctx : Nat) (s : State) : Host.Outcome State Fault Refusal :=
  onUnit (okCtx ctx) (s.issue ctx 0x3D (fun x k s => .done (s.putCtx ctx { k.complete x.nx with st := .idle, waitKind := 0 })))

/-! ### The ends of waits -/

/-- A deadline of WAITT or TWAIT is reached (R162). -/
def State.deadlineHit (s : State) (c : Nat) : State :=
  let k := s.ctx c
  if s.service = false ∨ k.st ≠ .twait ∨ s.reached k.deadline = false then s
  else s.release c k.deadline (if k.waitKind = 2 then some true else none)

/-- TWAIT_DEADLINE (R162). -/
def execTwaitDeadline (ctx : Nat) (s : State) : Host.Outcome State Fault Refusal := onUnit (okCtx ctx) (s.deadlineHit ctx)

/-- A context blocked in EMIT or RECV takes up its word again. -/
def State.retry (s : State) (c : Nat) (f : Insn → Ctx → State → MRes) : State :=
  let t := s.trayOf c
  let k := s.ctx c
  let s := s.putCtx c { k.go with since := s.tick, lastPoint := if k.st = .recv ∧ k.inHandler = false then s.tick else k.lastPoint }
  if s.native t k.pc then s.settleWord c (s.baseEntry c)
  else
    let x := insnOf (s.csWord t k.pc)
    s.settleWord c (f x (s.ctx c) s)

/-- The port a blocked EMIT names. -/
def State.pressPort (s : State) (c : Nat) : Nat :=
  if s.native (s.trayOf c) (s.ctx c).pc then genPort (s.ctx c) else (s.curInsn c).k % 8

/-- PRESS_RELEASE (R161, R162): room appears in the target FIFO, and the near-path network has room. -/
def State.pressOver (s : State) (c : Nat) : State :=
  if s.service = false ∨ (s.ctx c).st ≠ .press ∨ s.portRoom ((s.ctx c).port (s.pressPort c)) = false
    ∨ s.emitRoom (s.trayOf c) = false then s
  else s.retry c (fun x k s => s.doEmit c (x.k % 8) (k.action x.a) x.nx)

def execPressRelease (ctx : Nat) (s : State) : Host.Outcome State Fault Refusal := onUnit (okCtx ctx) (s.pressOver ctx)

/-- TRY_BPTO in effect, ticks: at least 16 (R167). -/
def State.bpto (s : State) (t : Nat) : Nat := max 16 (s.fld (Reg.TRY_BPTO t) 0 16)

/-- PRESS_TIMEOUT (R161): the EMIT traps with PRESS and is not emitted. -/
def State.pressLate (s : State) (c : Nat) : State :=
  let k := s.ctx c
  if s.service = false ∨ k.st ≠ .press ∨ s.tick < k.since + s.bpto (s.trayOf c) then s
  else s.syncTrap c Cz.press none none

def execPressTimeout (ctx : Nat) (s : State) : Host.Outcome State Fault Refusal := onUnit (okCtx ctx) (s.pressLate ctx)

/-- RECV_READY (R160): the head entry's time has come and a blocked RECV loads it. -/
def State.recvNow (s : State) (c : Nat) : State :=
  if s.service = false ∨ (s.ctx c).st ≠ .recv ∨ (s.recvHead c).isNone then s
  else s.retry c (fun x k s => s.doRecv c x.a x.nx k)

def execRecvReady (ctx : Nat) (s : State) : Host.Outcome State Fault Refusal := onUnit (okCtx ctx) (s.recvNow ctx)

/-- WAKE at a context (R158): the wake words, and the flag as an external source; a flag without EXT,
reserved or of another tenant discards the action. -/
def State.actWake (s : State) (c : Nat) : State :=
  match s.headReady 5 c 0x0B with
  | some f =>
    let g := s.flag (flagKey (s.trayNum c) f.act.sub)
    if 240 ≤ f.act.sub ∨ g.ext = false ∨ g.owner ≠ some (s.ctx c).tenant then
      let s := s.popFifo 5 c
      let s := if f.act.log then s.execRecord f.act f.org Code.rejectClass f.due else s
      s.judgeFifo 5 c
    else
      let s := s.setCtx c { s.ctx c with wk0 := BitVec.ofNat 20 (bits f.act.arg 0 20),
                                         wk1 := BitVec.ofNat 20 (bits f.act.arg 20 20) }
      (s.sendFlag (s.trayNum c) f.act.sub).finish f
  | none => s

/-- WAKE (R158). -/
def execWake (ctx : Nat) (s : State) : Host.Outcome State Fault Refusal := onUnit (okCtx ctx) (s.actWake ctx)

/-! ### Deadlock and watchdogs (R156, R157, R159) -/

/-- A context in state WAIT; one in a handler runs (R156). -/
def Ctx.waiting (k : Ctx) : Bool := k.st == .wait && !k.inHandler

/-- A tray is deadlocked (R156). -/
def State.deadlocked (s : State) (l : Nat) : Bool :=
  let ws := (s.trayCtxs l).filter fun c => (s.ctx c).waiting
  decide (ws ≠ []) && ws.all fun c =>
    let g := s.flag (flagKey l (s.ctx c).waitFlag)
    !g.ext && g.senders.all fun j =>
      let k := s.ctx (l * 256 + j)
      k.waiting || k.st.dead

/-- DEADLOCK: every context in WAIT traps with STALL. -/
def State.deadlock (s : State) (p : Nat) : State :=
  let l := s.servesOf p
  if s.service = false ∨ s.deadlocked l = false then s
  else
    let ws := (s.trayCtxs l).filter fun c => (s.ctx c).waiting
    let s := (s.setBit (Reg.TRY_STALL p) 0 true).setFld (Reg.TRY_STALL p) 8 9 ws.length
    let s := (s.trayPulse p 0).pgErr (0x30 + p) 17
    ws.foldl (fun s c => s.asyncTrap c Cz.stall) s

/-- DEADLOCK (R156). -/
def execDeadlock (tray : Nat) (s : State) : Host.Outcome State Fault Refusal := onUnit (okTray tray) (s.deadlock tray)

/-- STALL_WATCHDOG (R157). Flag 240 can be given neither EXT nor LONG, and the spec exempts it nowhere: a wait on it counts
here, a handler's as well, and outside a handler in R156 (DESIGN CHOICE, log entry 30). -/
def State.stallDog (s : State) (c : Nat) : State :=
  let k := s.ctx c
  let g := s.flag (flagKey (s.trayNum c) k.waitFlag)
  if s.service = false ∨ k.st ≠ .wait ∨ g.ext ∨ g.long ∨ s.tick < k.since + 65536 then s
  else
    let p := s.trayOf c
    let s := (s.setBit (Reg.TRY_STALL p) 1 true).setFld (Reg.TRY_STALL p) 8 9 1
    ((s.trayPulse p 1).pgErr (0x30 + p) 18).asyncTrap c Cz.stall

def execStallWatchdog (ctx : Nat) (s : State) : Host.Outcome State Fault Refusal := onUnit (okCtx ctx) (s.stallDog ctx)

/-- The watchdog limit of a context in units of 16 ticks; 0 turns it off (R159). -/
def State.dogLimit (s : State) (c : Nat) : Nat :=
  let l := s.fld (Reg.TRY_WDOG (s.trayOf c)) 0 20
  if (s.ctx c).guarded then (if l = 0 then 93750 else min l 93750) else l

/-- CONTEXT_WATCHDOG (R159). After the trap the count runs on from the trap: the spec does not say from where (DESIGN CHOICE,
log entry 30). -/
def State.ctxDog (s : State) (c : Nat) : State :=
  let k := s.ctx c
  let l := s.dogLimit c
  if s.service = false ∨ k.st.dead ∨ k.atPoint ∨ k.st = .moving ∨ l = 0 ∨ s.tick < k.lastPoint + l * 16 then s
  else ((s.trayPulse (s.trayOf c) 4).setCtx c { k with lastPoint := s.tick }).asyncTrap c Cz.watchdog

def execContextWatchdog (ctx : Nat) (s : State) : Host.Outcome State Fault Refusal := onUnit (okCtx ctx) (s.ctxDog ctx)

/-! ### The tray interrupt controller (R164-R166) -/

/-- The context TRY_IRQ_CTRL.CTX names. -/
def State.irqCtx (s : State) (p : Nat) : Nat := s.servesOf p * 256 + s.fld (Reg.TRY_IRQ_CTRL p) 8 8

/-- TRY_IRQ_CTRL.BADCTX; a named context of another tenant counts as FREE. -/
def State.badIrqCtx (s : State) (p : Nat) : Bool :=
  let k := s.ctx (s.irqCtx p)
  k.st.dead || decide (k.tenant ≠ 0)

/-- TRAY_IRQ_DELIVERY (R165): flag 240 goes to the handler context, which it releases, traps with EVENT or waits for
(R154, R155). -/
def State.trayIrq (s : State) (p : Nat) : State :=
  if s.service = false ∨ s.bit (Reg.TRY_IRQ_CTRL p) 0 = false ∨ s.bit (Reg.TRY_IRQ_CTRL p) 1 ∨ s.badIrqCtx p
    ∨ s.trayReady p = [] then s
  else
    let s := s.setBit (Reg.TRY_IRQ_CTRL p) 1 true
    let c := s.irqCtx p
    if (s.ctx c).waitsOn 240 then s.release c s.tb.now (if (s.ctx c).waitKind = 2 then some false else none)
    else if (s.ctx c).evtOn ∧ (s.ctx c).evtFlag = 240 then s.asyncTrap c Cz.event
    else s.setFlag (flagKey (c / 256) 240) { s.flag (flagKey (c / 256) 240) with set := true }

def execTrayIrqDelivery (tray : Nat) (s : State) : Host.Outcome State Fault Refusal := onUnit (okTray tray) (s.trayIrq tray)

/-- A write of TRY_IRQ_SOFT: every soft source named asserts (R164). -/
def State.writeSoft (s : State) (t v : Nat) : State := (bitList 32 v).foldl (fun s i => s.trayPulse t (32 + i)) s

/-- TRY_IRQ_SOFT (R164). -/
def execTryIrqSoft (tray value : Nat) (s : State) : Host.Outcome State Fault Refusal :=
  onUnit (okTray tray) (s.pf (0x30 + tray) 0xE4 value (fun s => s.writeSoft tray value))

/-- A write of TRY_IRQ_CTRL (R166). Through a SET or CLEAR view that touches no bit of CTX it does not write CTX. -/
def State.writeIrqCtrl (s : State) (t view v : Nat) : State :=
  let r := viewWrite view (s.regN (Reg.TRY_IRQ_CTRL t)) v
  let s := s.setBit (Reg.TRY_IRQ_CTRL t) 0 (bitAt r 0)
  if view = 3 ∨ (view ≠ 0 ∧ bits v 8 8 = 0) then s
  else
    let k := s.ctx (s.servesOf t * 256 + bits r 8 8)
    if k.tenant ≠ 0 then s.pgErr (0x30 + t) 19
    else (s.setFld (Reg.TRY_IRQ_CTRL t) 8 8 (bits r 8 8)).setBit (Reg.TRY_IRQ_CTRL t) 1
      (s.bit (Reg.TRY_IRQ_CTRL t) 1 && !k.st.dead)

/-- TRY_IRQ_CTRL_WRITE (R166). -/
def execTryIrqCtrlWrite (tray view value : Nat) (s : State) : Host.Outcome State Fault Refusal :=
  onUnit (okTray tray && decide (view < 4)) (s.pf (0x30 + tray) (view * 0x1000 + 0xC0) value (fun s => s.writeIrqCtrl tray view value))

/-- A write of TRY_CS_ADDR snapshots the word (R167). -/
def State.csSnap (s : State) (t v : Nat) : State :=
  let a := v % 2 ^ 14
  let w := (s.csWord t a).toNat
  let s := (s.setN (Reg.TRY_CS_ADDR t) a).setN (Reg.TRY_CS_DATA_L t) (bits w 0 32)
  s.setN (Reg.TRY_CS_DATA_H t) (bits w 32 8 + b2n (s.csSoft.contains (csKey t a)) * 2 ^ 8)

/-- TRY_CS_ADDR (R167). -/
def execTryCsAddr (tray value : Nat) (s : State) : Host.Outcome State Fault Refusal :=
  onUnit (okTray tray) (s.pf (0x30 + tray) 0xF0 value (fun s => s.csSnap tray value))

end Sys2Proof.Machine
end

