-- ==== Sys2Proof/Machine/Voting.lean ====
section
/-! DEFINITION. Guarded voting (R120-R123): copies and voters, double faults, and the scheduler lanes. -/

namespace Sys2Proof.Machine

open Sys2Proof

/-! ### Copies (R121) -/

/-- The copy that arrives in a slot, as an action past the queue stage: a guarded action on the target's
ready chain or one already agreed on, or a copy its context has emitted. Its 128 bits are what
arrived. -/
def State.copyOf (s : State) (ttype target slot copy : Nat) (o : Origin) : Option Flight :=
  let as (f : Flight) : Flight := { f with act := ofEntry copy, due := bits copy 0 60 }
  match o with
  | .queue _ _ =>
    match s.refs.find? (fun r => decide (r.stage = .ready) && r.fl.org == o && decide (r.fl.ttype = ttype)
        && decide (r.fl.target = target) && decide (r.fl.act.op ≠ 0x00) && s.isGuarded r.fl) with
    | some r => some (as r.fl)
    | none => ((s.voter (voterKey ttype target)).kept.find? (fun k => k.fl.org == o)).map fun k => as k.fl
  | .near c p =>
    if (s.replicas c)[slot]? = some c then
      ((s.ctx c).sent.find? fun f => f.org == o && decide (f.ttype = ttype) && decide (f.target = target)).map
        fun f => as { f with org := .near ((s.replicas c).getD 0 c) p }
    else none

/-- A near-path copy leaves its context. -/
def State.dropSent (s : State) (o : Origin) (ttype target : Nat) : State :=
  match o with
  | .queue _ _ => s
  | .near c _ =>
    let k := s.ctx c
    s.setCtx c { k with sent := k.sent.eraseP fun f => f.org == o && decide (f.ttype = ttype) && decide (f.target = target) }

/-- The slot has had this action's copy. -/
def Voter.hasCopy (v : Voter) (slot : Nat) (f : Flight) : Bool :=
  (v.slots.getD slot []).any (·.same f) ||
    v.kept.any fun k => k.fl.same f && (k.seen.contains slot || k.lost.contains slot)

/-- A copy of an action already agreed on: it agrees, or its tray loses the vote. -/
def State.lateCopy (s : State) (ttype target slot : Nat) (f : Flight) (k : Kept) : State :=
  let key := voterKey ttype target
  let ok := decide (f.act = k.fl.act)
  let mark (x : Kept) : Kept :=
    if x.fl.same f then (if ok then { x with seen := x.seen ++ [slot] } else { x with lost := x.lost ++ [slot] }) else x
  let s := s.setVoter key { s.voter key with kept := (s.voter key).kept.map mark }
  if ok then s else s.loseVote (s.votingTray f slot)

/-- Two slots agree in all 128 bits: the action is kept, and FIFO_DELIVERY passes it on 2 ticks later; a third slot that holds a
differing copy loses the vote. -/
def State.agree (s : State) (ttype target i j : Nat) (f : Flight) : State :=
  let key := voterKey ttype target
  let v := s.voter key
  let other := [0, 1, 2].filter fun x => x ≠ i ∧ x ≠ j
  let lost := other.filter fun x => (v.slots.getD x []).any (·.same f)
  let s := s.setVoter key { v with slots := v.slots.map (·.filter fun g => !g.same f),
                                   kept := v.kept ++ [{ fl := f, seen := [j, i], lost := lost, since := s.tick }] }
  lost.foldl (fun s x => s.loseVote (s.votingTray f x)) s

/-- The vote of this action is closed: its third copy takes no part in another one (R121, R122). -/
def Voter.over (v : Voter) (f : Flight) : Bool :=
  match f.org with
  | .queue _ _ => false
  | .near _ _ => decide (f.ord < v.closedTo f.org)

/-- A copy arrives in a voter slot; a slot that holds 8 discards it (R121). -/
def State.takeCopy (s : State) (ttype target slot : Nat) (f : Flight) : State :=
  let key := voterKey ttype target
  let v := s.voter key
  if 8 ≤ (v.slots.getD slot []).length ∨ v.over f then s
  else match v.kept.find? (·.fl.same f) with
    | some k => s.lateCopy ttype target slot f k
    | none =>
      let f := { f with arrived := s.tb.now }
      let s := s.setVoter key { v with slots := v.slots.set slot (v.slots.getD slot [] ++ [f]) }
      match [0, 1, 2].find? (fun j => decide (j ≠ slot) && (v.slots.getD j []).any fun g => g.same f && decide (g.act = f.act)) with
      | some j => s.agree ttype target slot j f
      | none => s

/-- A target whose guarded actions go by copies and a voter: R120 says so of every guarded queue, R121 gives cuffs and pairs
their voters, and the model gives an engine or a port one as well (log entry 28). -/
def okVoted (ttype : Nat) : Bool := decide (1 ≤ ttype) && decide (ttype ≤ 4)

/-- VOTE_COPY_ARRIVAL (R121). -/
def execVoteCopyArrival (ttype target slot copy : Nat) (org : CopyOrigin) (s : State) : Host.Outcome State Fault Refusal :=
  onUnit (okVoted ttype && okTarget ttype target && okVoterSlot slot)
    (match s.copyOf ttype target slot copy org with
    | some f =>
      if s.service = false ∨ (s.voter (voterKey ttype target)).hasCopy slot f then s
      else (s.dropSent org ttype target).takeCopy ttype target slot f
    | none => s)

/-! ### Double faults (R122) -/

/-- The cuff of a target, or both legs of its pair. -/
def targetCuffs (ttype target : Nat) : List Nat :=
  if ttype = 2 then [2 * target, 2 * target + 1] else if ttype = 1 then [target] else []

/-- The voter's copies are discarded; an action that came over the near path and has passed it is none (R122). -/
def State.clearVoter (s : State) (ttype target : Nat) : State :=
  let key := voterKey ttype target
  s.setVoter key { s.voter key with slots := [[], [], []], kept := (s.voter key).kept.filter fun k => k.passed && match k.fl.org with
    | .queue _ _ => false
    | .near _ _ => true }

/-- The cuff or pair goes to Apron until its queue is resumed, the voter's copies are discarded, and its guarded queue
stops, its actions withdrawn. -/
def State.failVote (s : State) (ttype target q code : Nat) (first : Option Flight) : State :=
  let s := (targetCuffs ttype target).foldl (fun s c => s.toApron c .vote) s
  ((s.recall q first).clearVoter ttype target).haltQueue q code |>.judgeAll

/-- The guarded queue bound to a target. -/
def State.guardedQueue (s : State) (ttype target : Nat) : Option Nat :=
  (s.queues.find? fun e => decide (e.2.cls = 2) && decide (e.2.ttype = ttype) && decide (e.2.target = target)
    && decide (e.2.state ≠ QState.free)).map (·.1)

/-- A copy is the first of its action to have arrived. -/
def State.firstCopy (s : State) (cs : List Flight) (f : Flight) : Bool :=
  match (cs.filter (·.same f)).find? fun g => (cs.filter (·.same f)).all fun h => s.atOrAfter h.arrived g.arrived with
  | some g => g == f
  | none => false

/-- An outstanding action whose first copy has a TIME that is 12 ticks away or less. -/
def State.dueCopy (s : State) (ttype target : Nat) : Option Flight :=
  let cs := (s.voter (voterKey ttype target)).slots.flatten
  cs.find? fun f => s.firstCopy cs f && !s.ahead f.act.time 208

/-- DOUBLE_FAULT: nothing is passed, the target goes to Apron and the queue stops with VOTE_LOST. -/
def State.doubleFault (s : State) (ttype target : Nat) : State :=
  match s.dueCopy ttype target with
  | none => s
  | some f =>
    let q := match f.org with | .queue q _ => some q | .near _ _ => s.guardedQueue ttype target
    let first := match f.org with | .queue _ _ => some f | .near _ _ => none
    let s := s.relRecord 3 Code.voteLost 5 0x20 (serveCuff ttype target / 32) (q.getD (serveCuff ttype target))
    match q with
    | some q => s.failVote ttype target q Code.voteLost first
    | none => (targetCuffs ttype target).foldl (fun s c => s.toApron c .vote) (s.clearVoter ttype target)

/-- DOUBLE_FAULT (R122). -/
def execDoubleFault (ttype target : Nat) (s : State) : Host.Outcome State Fault Refusal :=
  onUnit (okVoted ttype && okTarget ttype target)
    (if s.service then s.doubleFault ttype target else s)

/-! ### Scheduler lanes (R123) -/

/-- ADM_GUARD.LANES. -/
def State.setLanes (s : State) (spare testing : Bool) : State :=
  { s with lanes := { s.lanes with spare := spare, testing := testing } }.setFld Reg.ADM_GUARD 23 2 (if spare then 3 else 2)

/-- The guarded queues with transfers in the L0 slot of an action. -/
def State.slotQueues (s : State) (t : Nat) : List Nat :=
  (s.refs.filterMap fun r => match r.fl.org with
    | .queue q _ => if (s.queue q).cls = 2 ∧ r.fl.act.time / 256 = t / 256 then some q else none
    | .near _ _ => none).eraseDups

/-- LANE_SWITCH: the spare resolves the mismatch and takes the disagreeing lane's place; without a spare
the guarded queues of the slot stop and their cuffs go to Apron. -/
def State.laneMismatch (s : State) (ttype target : Nat) : State :=
  match s.chainHead ttype target with
  | none => s
  | some r =>
    if s.isGuarded r.fl = false then s
    else if s.lanes.spare then ((s.setLanes false true).relRecord 1 Code.laneSwitch 6 0x10 0
      (match r.fl.org with | .queue q _ => q | .near c _ => c)).raise 0x341A
    else (s.slotQueues r.fl.act.time).foldl (fun s q =>
      (s.failVote (s.queue q).ttype (s.queue q).target q Code.laneSwitch none).relRecord 3 Code.laneSwitch 6 0x10 0 q) s

/-- LANE_SWITCH (R123). -/
def execLaneSwitch (ttype target : Nat) (s : State) : Host.Outcome State Fault Refusal :=
  onUnit (okTtype ttype && okTarget ttype target) (if s.service then s.laneMismatch ttype target else s)

/-- LANE_SELF_TEST (R123): a lane that passes returns as spare; one that fails stays out. -/
def execLaneSelfTest (pass : Bool) (s : State) : Host.Outcome State Fault Refusal :=
  .next (if s.lanes.testing = false then s
    else if pass then s.setLanes true false
    else (s.setLanes false false).relRecord 2 Code.ok 13 0x10 0 0)

end Sys2Proof.Machine
end

