-- ==== Sys2Proof/Machine/Tenants.lean ====
section
/-! DEFINITION. Tenants: owners of resources, quotas (R106-R108), allocation and freeing (R262), and what an
abort leaves of each resource (R20, R75, R102, R153, R199, R222, R265). -/

namespace Sys2Proof.Machine

open Sys2Proof

/-! ### Owners -/

/-- The pages whose PG_OWNER follows allocations: sleeves, PIO, FBK and DMA pages (R77, R180, R202, R290). -/
def ownedPages : List Nat :=
  (List.range 32).map (0x10 + ·) ++ (List.range 32).map (0x40 + ·) ++ (List.range 8).map (0x60 + ·)
    ++ (List.range 32).map (0x80 + ·)

/-- The owner of a page whose units have these owners: the one tenant that holds all, else tenant 0. -/
def commonOwner : List (Option Nat) → Nat
  | some n :: r => if r.all (· == some n) then n else 0
  | _ => 0

/-- PG_OWNER takes a tenant; when it changes, the page's sources start afresh (R275). -/
def State.ownPage (s : State) (page owner : Nat) (srcs : List Nat) : State :=
  if s.regN (Reg.PG_OWNER page) = owner then s
  else srcs.foldl (fun s id => s.reownSrc id owner) (s.setN (Reg.PG_OWNER page) owner)

def State.ownSleeve (s : State) (n : Nat) : State :=
  s.ownPage (slvPage n) (commonOwner ((sleeveCuffs n).map fun c => if (s.cuff c).alloc then some (s.cuff c).owner else none))
    ((List.range 4).map (0x3000 + 4 * n + ·))

def State.ownPio (s : State) (k : Nat) : State :=
  s.ownPage (0x40 + k) (commonOwner ((List.range 4).map fun i =>
    if (s.pio (4 * k + i)).alloc then some (s.pio (4 * k + i)).owner else none)) []

def State.ownFbk (s : State) (k : Nat) : State :=
  s.ownPage (0x60 + k) (commonOwner ((List.range 8).map fun i =>
    if (s.port (8 * k + i)).alloc then some (s.port (8 * k + i)).owner else none)) []

/-- The owner of an interrupt source (R273, R274). -/
def State.srcOwner (s : State) (id : Nat) : Nat :=
  if id < 0x3000 then id / 24
  else if id < 0x3080 then s.regN (Reg.PG_OWNER (slvPage ((id - 0x3000) / 4)))
  else if id < 0x3280 then (s.pio ((id - 0x3080) / 4)).owner
  else if id < 0x3380 then (s.port ((id - 0x3280) / 4)).owner
  else if id < 0x33C0 then (s.chan ((id - 0x3380) / 2)).owner
  else 0

/-- The source IDs the tables name (R272-R274). -/
def srcNamed (id : Nat) : Bool :=
  (decide (id < 0x3000) && decide (id % 24 < 22)) || decide (0x3000 ≤ id ∧ id < 0x33C9)
    || decide (0x33D0 ≤ id ∧ id < 0x33D9) || decide (0x3400 ≤ id ∧ id < 0x3404)
    || [0x3408, 0x3409, 0x3418, 0x3419, 0x341A, 0x3430, 0x3431, 0x3432, 0x3440, 0x3448].contains id
    || decide (0x3410 ≤ id ∧ id < 0x3414) || decide (0x3420 ≤ id ∧ id < 0x3428)
    || decide (0x3438 ≤ id ∧ id < 0x343C)

/-! ### Quotas and use (R106-R108) -/

/-- The device totals of R107. -/
def quotaTotal (i : Nat) : Nat := [1048576, 704, 1024, 2048, 256, 128, 64, 32, 2048, 5000000, 4].getD i 0

/-- Resources that may not be granted beyond the total. -/
def quotaExclusive (i : Nat) : Bool := decide (2 ≤ i ∧ i ≤ 7)

/-- Resources each function holds for itself. -/
def quotaPerFn (i : Nat) : Bool := decide (i = 8 ∨ i = 10)

/-- The quota of a function from reset. -/
def quotaReset (n i : Nat) : Nat := if i = 8 then vecCount n else if i = 10 then 4 else 0

abbrev quotaKey (n i : Nat) : Nat := n * 16 + i

/-- The quota granted to a tenant. -/
def State.grant (s : State) (n i : Nat) : Nat := Tbl.get (quotaReset n i) s.quota (quotaKey n i)

/-- What is granted to all tenants but tenant 0. -/
def State.grants (s : State) (i : Nat) : Nat :=
  ((s.quota.filter fun e => decide (16 ≤ e.1 ∧ e.1 % 16 = i)).map (·.2)).foldl (· + ·) 0

/-- TEN_QUOTAi of a tenant; tenant 0 reads what is not granted (R106). -/
def State.quotaOf (s : State) (n i : Nat) : Nat :=
  if n = 0 ∧ quotaPerFn i = false then quotaTotal i - s.grants i else s.grant n i

/-- The entries of a table that meet a condition. -/
def countIn {α : Type} (t : Tbl α) (p : Nat → α → Bool) : Nat := (t.filter fun e => p e.1 e.2).length

/-- The vectors in use by a function: up to the highest that an enabled source of any owner is routed to. -/
def State.vecUse (s : State) (n : Nat) : Nat :=
  let ks := (s.regs.flatMap fun e =>
    if Reg.HVC_EN 0 ≤ e.1 ∧ e.1 < Reg.HVC_EN 512 then
      (bitList 32 e.2.toNat).map fun i => (e.1 - Reg.HVC_EN 0) / 4 * 32 + i
    else []).filter fun id => decide ((s.src id).func = n) && !(s.src id).stw
  ks.foldl (fun m id => max m ((s.src id).vec + 1)) 0

/-- The declared rates of a tenant's contracts, actions per second (R115). -/
def State.tenantRate (s : State) (n : Nat) : Nat :=
  (s.queues.map fun e => if e.2.tenant = n then (match e.2.contract with | some k => k.rate | none => 0) else 0).foldl
    (· + ·) 0

/-- TEN_USEi of a tenant. Present use of the vectors is one above the highest vector that an enabled source is routed to,
and of the mailbox depth the longer of the two FIFOs, or what stood there at an abort until a message enters: the spec
says of neither what counts as in use (DESIGN CHOICE, log entry 28). -/
def State.useOf (s : State) (n i : Nat) : Nat :=
  match i with
  | 0 => countIn s.queues fun _ q => decide (q.state ≠ QState.free) && decide (q.tenant = n)
  | 1 => Tbl.get 0 s.used n
  | 2 => countIn s.cuffs fun _ k => k.alloc && decide (k.owner = n)
  | 3 => countIn s.ctxs fun c k => decide (c < 2048) && decide (k.st ≠ .free) && decide (k.tenant = n)
  | 4 => countIn s.units fun u o => decide (u < 256) && decide (o = some n)
  | 5 => countIn s.pios fun _ k => k.alloc && decide (k.owner = n)
  | 6 => countIn s.ports fun _ k => k.alloc && decide (k.owner = n)
  | 7 => countIn s.chans fun _ k => k.alloc && decide (k.owner = n)
  | 8 => s.vecUse n
  | 9 => (s.tenantRate n + 999) / 1000
  | 10 => max (s.fn n).mboxHeld (max (s.fn n).mboxOut.length (s.fn n).mboxIn.length)
  | _ => 0

/-- `k` more units of a resource fit the tenant's quota; the shared resources of tenant 0 are bounded by the
pool alone (R106). -/
def State.quotaFits (s : State) (n i k : Nat) : Bool :=
  (decide (n = 0) && !quotaExclusive i && !quotaPerFn i) || decide (s.useOf n i + k ≤ s.quotaOf n i)

/-! ### What targets a resource -/

/-- The contexts a guarded queue's target stands for: its triple. -/
def State.targetHits (s : State) (ttype target kind id : Nat) : Bool :=
  targetIs ttype target kind id ||
    (decide (kind = 2) && decide (ttype = 5) && (s.ctx target).guarded && (s.triple target).contains id)

/-- A live queue targets the resource. -/
def State.queueTargets (s : State) (kind id : Nat) : Bool :=
  s.queues.any fun e => decide (e.2.state ≠ QState.free) && s.targetHits e.2.ttype e.2.target kind id

/-- The resource is the target of a timed or guarded queue, or a leg of such a pair (R114). -/
def State.exclusive (s : State) (kind id : Nat) : Bool :=
  s.queues.any fun e => decide (e.2.state ≠ QState.free) && e.2.contract.isSome
    && s.targetHits e.2.ttype e.2.target kind id

/-- The kind of resource a target type names; 0 for a pair. -/
def kindOf (ttype : Nat) : Nat := match ttype with | 1 => 1 | 3 => 3 | 4 => 4 | 5 => 2 | _ => 0

/-- The owner of a cuff is what CUF_STATUS.OWNER reads (R75): a cuff nobody was allocated reads tenant 0 (DEDUCED). -/
def State.ownsCuff (s : State) (n c : Nat) : Bool := decide ((s.cuff c).owner = n)

/-- The tenant holds the target: a pair with both its legs. -/
def State.ownsTarget (s : State) (n ttype target : Nat) : Bool :=
  match ttype with
  | 1 => s.ownsCuff n target
  | 2 => s.ownsCuff n (2 * target) && s.ownsCuff n (2 * target + 1)
  | 3 => (s.pio target).alloc && decide ((s.pio target).owner = n)
  | 4 => (s.port target).alloc && decide ((s.port target).owner = n)
  | 5 => decide ((s.ctx target).st ≠ .free) && decide ((s.ctx target).tenant = n)
  | _ => false

/-- A target is exclusive to a timed or guarded queue, for a pair in either leg. -/
def State.targetTaken (s : State) (ttype target : Nat) : Bool :=
  if ttype = 2 then s.exclusive 1 (2 * target) || s.exclusive 1 (2 * target + 1)
  else s.exclusive (kindOf ttype) target

/-- The code that refuses a queue or near-path grant bound to a target: the target does not exist, is not the
tenant's, is one leg of an enabled pair (R65), or is exclusive (R114). -/
def State.bindCode (s : State) (n ttype target : Nat) : Nat :=
  if okTtype ttype = false ∨ okTarget ttype target = false then Code.rejectClass
  else if s.ownsTarget n ttype target = false then Code.rejectQuota
  else if (ttype = 1 ∧ s.pairEn (target / 2)) ∨ s.targetTaken ttype target then Code.rejectClass
  else Code.ok

/-! ### Abort states -/

/-- An abort or a freeing sets a staged field. The shadow takes the value as well, but it stays as it is under `keep`, in an
abort of tenant 0 (R20, R267), and while its page is armed, so that the commit applies it as its COMMIT found it (R17, R19).
Of a page that PG_OWNER does not give to the tenant R20 says nothing: the model treats its shadow the same (log entry 27). -/
def State.abortFld (s : State) (keep : Bool) (k lo n v : Nat) : State :=
  if keep || s.pageArmed (pageOf k) then (s.setFld k lo n v).setStaged k (s.staged k) else s.setBoth k lo n v

/-- A pair is disabled. -/
def State.disablePair (s : State) (keep : Bool) (p : Nat) : State :=
  let s := s.abortFld keep (Reg.SLV_PAIR_CFG (p / 16) (p % 16)) 0 1 0
  let s := s.setBit (Reg.SLV_GDSTATE (p / 16)) (16 + p % 16) false
  s.setPairSt p { s.pairSt p with st := 0 }

/-- The wake entries of a cuff are cleared (R336). -/
def State.dropWake (s : State) (c : Nat) : State :=
  (List.range 4).foldl (fun s i =>
    if s.fld (Reg.PWR_WCUFF i) 0 10 = c then s.setBit (Reg.PWR_WCUFF i) 10 false else s) s

/-- The engine a cuff is lent to stops with the cuff's owner, without an error (R199). -/
def State.quietStop (s : State) (c : Nat) : State :=
  match s.engineOf c with
  | some e => if (s.pio e).st = 0 then s else s.stopPio e
  | none => s

/-- A cuff enters its abort state (R75); a hold on it ends (R24). -/
def State.abortCuff (s : State) (keep : Bool) (c : Nat) : State :=
  let s := (s.quietStop c).toApron c .abort
  let s := s.setCuff c { s.cuff c with held := false, past := [], fifo := [], armed := false, armFrom := none, disarmAt := none, winEnd := none,
                                       perRun := false, edges := [] }
  let s := (s.setVoter (voterKey 1 c) {}).setVoter (voterKey 2 (c / 2)) {}
  let s := if (s.cuff c).lent = .none then s.abortFld keep (Reg.CUF_CFG c) 0 2 0 else s
  let s := s.setFld (Reg.CUF_CAPCFG c) 3 2 0
  let s := s.abortFld keep (Reg.CUF_PER_CTRL c) 6 2 0
  (if s.pairEn (c / 2) then s.disablePair keep (c / 2) else s).dropWake c

/-- A PIO engine enters its abort state (R199); the instruction memory and the loan stay. -/
def State.abortPio (s : State) (keep : Bool) (e : Nat) : State :=
  let pins := s.pioCuffs e
  let s := s.stopPio e
  let s := s.setPio e { s.pio e with txsr := 0, rxsr := 0, txcnt := 0, rxcnt := 0, matched := false,
                                     ended := false, tx := [], rx := [], left := 0 }
  let s := (s.setN (Reg.PIO_DIR e) 0).abortFld keep (Reg.PIO_CFG e) 8 2 0
  let s := (s.setFifo (fifoKey 3 e) []).setBit (Reg.PIO_SYNC_MASK (e / 32)) (e % 32) false
  pins.foldl (fun s c => s.toApron c .abort) s

/-- The pins a port is lent. -/
def State.portCuffs (s : State) (p : Nat) : List Nat := (List.range (s.port p).count).map ((s.port p).base + ·)

/-- A feedback port enters its abort state (R222). -/
def State.abortPort (s : State) (keep : Bool) (p : Nat) : State :=
  let pins := s.portCuffs p
  let s := pins.foldl (fun s c => (s.quietStop c).toApron c .abort) s
  let s := [(Reg.FBK_CFG p, 0, 2), (Reg.FBK_CFG p, 24, 1), (Reg.FBK_CMPCFG p, 0, 1), (Reg.FBK_CMPCFG p, 3, 2),
    (Reg.FBK_MARKCFG p, 10, 1), (Reg.FBK_SSIPER p, 0, 32)].foldl (fun s f => s.abortFld keep f.1 f.2.1 f.2.2 0) s
  let s := s.setFld (Reg.FBK_HSTAT p) 0 8 0
  let s := ((s.setFbkStat p 0 false).setFld (Reg.FBK_STATUS p) 2 3 0).setSpeed p 0
  let k := s.port p
  (s.setFifo (fifoKey 4 p) []).setPort p
    { likes := [], hits := [], owner := k.owner, alloc := k.alloc, base := k.base, count := k.count, engine := k.engine }

/-- A queue enters its abort state (R102). -/
def State.abortQueue (s : State) (q : Nat) : State :=
  let s := (s.unarrive q).withdraw (·.ofQueue q)
  let s := s.stopQueue q Code.aborted
  s.setQueue q { s.queue q with head := (s.queue q).tail, heldDb := none }

/-- The flags a tenant owns are cleared (R153). -/
def State.clearFlags (s : State) (n : Nat) : State :=
  (Tbl.keys s.flags).foldl (fun s f =>
    if (s.flag f).owner = some n then s.setFlag f { s.flag f with set := false } else s) s

/-- Both mailbox FIFOs of a function are emptied and GEN counts (R308); its use count stands (R108). -/
def State.clearMailbox (s : State) (n : Nat) : State :=
  (s.setFn n { s.fn n with mboxOut := [], mboxIn := [], replies := [], mboxHeld := s.useOf n 10 }).incWrap (Reg.TEN_MBX_STAT n) 16 8

/-- The pending interrupts of a function are cleared (R287). -/
def State.clearIrqs (s : State) (n : Nat) : State :=
  let hit (id : Nat) : Bool := !(s.src id).stw &&
    (decide (id / 24 = n ∧ id < 0x3000) || (decide (0x3000 ≤ id) && decide ((s.src id).func = n)))
  let s := (s.pendingSrcs.filter hit).foldl State.clearSrc s
  let s := (Tbl.keys s.vecs).foldl (fun s k =>
    if k / 2048 = n then s.setVec k { s.vec k with count := 0, start := none, pba := false } else s) s
  { s with link := { s.link with held := s.link.held.filter fun x => decide (x.1 ≠ n) } }

/-- An immediate commit of the page, of its own or of its group, waits for its tick (R17, R21). R20 speaks of a COMMIT that
reached the page. A COMMIT of its group that waits is taken as one: the page leaves the group and commits on its own (log
entry 27). -/
def State.commitsNow (s : State) (p : Nat) : Bool :=
  decide ((s.page p).armed = .now) || match s.groupOf p with
    | some g => decide ((s.group g).armed = .now)
    | none => false

/-- The staging of a page whose owner is aborted (R20): a timed commit is cancelled, an immediate one is taken
with the shadow reloaded after it, and the page leaves its group. PG_STATUS.HELD is cleared (R13). -/
def State.abortPage (s : State) (p : Nat) : State :=
  let now := s.commitsNow p
  let s := { s with hs := { s.hs with cleared := if s.hsState = 2 then p :: s.hs.cleared else s.hs.cleared } }
  let s := match s.groupOf p with
    | some g => s.setGroup g { s.group g with members := (s.group g).members.filter (· != p) }
    | none => s
  let s := if now then s.setPage p { armed := .now, reload := true }
    else (s.setPage p {}).discard p
  s.setBit (Reg.PG_CTRL p) 0 false

/-- The keys of a table whose entries meet a condition. -/
def keysIn {α : Type} (t : Tbl α) (p : Nat → α → Bool) : List Nat := (t.filter fun e => p e.1 e.2).map (·.1)

/-- Every resource of a tenant enters its abort state (R265). -/
def State.abortTenant (s : State) (n : Nat) : State :=
  let pages := if n = 0 then [] else ownedPages.filter fun p => s.regN (Reg.PG_OWNER p) = n
  let keep := decide (n = 0)
  let s := ((List.range 1024).filter (s.ownsCuff n)).foldl (State.abortCuff · keep) s
  let s := (keysIn s.ctxs fun _ k => decide (k.st ≠ .free) && decide (k.tenant = n)).foldl State.abortCtx s
  let s := s.clearFlags n
  let s := (keysIn s.pios fun _ k => k.alloc && decide (k.owner = n)).foldl (State.abortPio · keep) s
  let s := (keysIn s.ports fun _ k => k.alloc && decide (k.owner = n)).foldl (State.abortPort · keep) s
  let s := ((List.range 32).filter fun c => decide ((s.chan c).owner = n) && decide (s.chan c ≠ {})).foldl State.disableChan s
  let s := (keysIn s.queues fun _ q => decide (q.state ≠ QState.free) && decide (q.tenant = n)).foldl State.abortQueue s
  pages.foldl State.abortPage s

/-! ### Loans (R181, R203) -/

/-- A cuff may be lent: no queue or port is bound to it, it is no leg of an enabled pair, not periodic, not lent. -/
def State.lendable (s : State) (n c : Nat) : Bool :=
  s.ownsCuff n c && !s.queueTargets 1 c && !s.grantTargets 1 c
    && !s.pairEn (c / 2) && decide (s.cuffMode c ≠ 1) && decide ((s.cuff c).lent = .none)

/-- Cuffs come back from a loan: MODE leaves 0b11. -/
def State.returnCuffs (s : State) (cs : List Nat) : State :=
  cs.foldl (fun s c => (s.setCuff c { s.cuff c with lent := .none }).setMode c 0) s

/-- Cuffs are lent: MODE reads 0b11 and their running edges end. -/
def State.lendCuffs (s : State) (b : Borrower) (cs : List Nat) : State :=
  cs.foldl (fun s c => (s.setCuff c { s.cuff c with lent := b, edges := [] }).setMode c 3) s

/-- An engine's pin set returns. -/
def State.returnPio (s : State) (e : Nat) : State :=
  let cs := if (s.pio e).forPort.isSome then [] else s.pioCuffs e
  (s.stopPio e).returnCuffs cs |>.setPio e { (s.stopPio e).pio e with base := 0, count := 0, forPort := none }

/-- A port's pin set returns, and in programmable mode its engine's with it. -/
def State.returnPort (s : State) (p : Nat) : State :=
  let k := s.port p
  let s := s.returnCuffs (s.portCuffs p)
  let s := if (s.pio k.engine).forPort = some p then
      let s := s.stopPio k.engine
      s.setPio k.engine { s.pio k.engine with base := 0, count := 0, forPort := none }
    else s
  s.setPort p { s.port p with base := 0, count := 0, engine := 0 }

/-! ### Allocation and freeing (R262) -/

/-- The number of units of a resource kind that may be allocated; trays 0 to 7 hold tenants' contexts and flags. -/
def kindCount (kind : Nat) : Nat :=
  match kind with
  | 1 => 1024 | 2 => 2048 | 3 => 128 | 4 => 64 | 5 => 32 | 6 => 2048 | _ => 0

/-- The quota that covers a kind; flags have none. -/
def kindQuota (kind : Nat) : Option Nat :=
  match kind with
  | 1 => some 2 | 2 => some 3 | 3 => some 5 | 4 => some 6 | 5 => some 7 | _ => none

/-- An ID in the kind's range; flags 240 to 255 are the hardware's (R155). -/
def kindHas (kind id : Nat) : Bool := decide (id < kindCount kind) && (decide (kind ≠ 6) || decide (id % 256 < 240))

/-- The tenant that holds a resource. -/
def State.holder (s : State) (kind id : Nat) : Option Nat :=
  match kind with
  | 1 => if (s.cuff id).alloc then some (s.cuff id).owner else none
  | 2 => if (s.ctx id).st = .free then none else some (s.ctx id).tenant
  | 3 => if (s.pio id).alloc then some (s.pio id).owner else none
  | 4 => if (s.port id).alloc then some (s.port id).owner else none
  | 5 => if (s.chan id).alloc then some (s.chan id).owner else none
  | 6 => (s.flag id).owner
  | _ => none

/-- The sources of an engine, a port and a channel (R274). -/
def pioSrcs (e : Nat) : List Nat := (List.range 4).map fun k => 0x3080 + 4 * e + k
def fbkSrcs (p : Nat) : List Nat := (List.range 4).map fun k => 0x3280 + 4 * p + k
def dmaSrcs (c : Nat) : List Nat := (List.range 2).map fun k => 0x3380 + 2 * c + k

/-- A resource becomes a tenant's. -/
def State.allocRes (s : State) (kind id n : Nat) : State :=
  match kind with
  | 1 => ((s.endCause id .abort).setCuff id { (s.endCause id .abort).cuff id with owner := n, alloc := true }).ownSleeve (id / 32)
  | 2 => s.setCtx id { st := .idle, tenant := n }
  | 3 =>
    let was := (s.pio id).owner
    let s := s.setPio id { s.pio id with owner := n, alloc := true }
    (s.passSrcs (pioSrcs id) was n).ownPio (id / 4)
  | 4 =>
    let was := (s.port id).owner
    let s := s.setPort id { s.port id with owner := n, alloc := true }
    (s.passSrcs (fbkSrcs id) was n).ownFbk (id / 8)
  | 5 =>
    let was := (s.chan id).owner
    let s := s.setChan id { s.chan id with owner := n, alloc := true }
    (s.passSrcs (dmaSrcs id) was n).setN (Reg.PG_OWNER (dmaPage id)) n
  | 6 => s.setFlag id { owner := some n }
  | _ => s

/-- The code that refuses freeing a resource: a queue or port targets it, or it is lent, or lent to a port. -/
def State.freeCode (s : State) (kind id : Nat) : Nat :=
  if s.queueTargets kind id ∨ s.grantTargets kind id then Code.rejectClass
  else if kind = 1 ∧ (s.cuff id).lent ≠ .none then Code.rejectClass
  else if kind = 3 ∧ (s.pio id).forPort.isSome then Code.rejectClass
  else Code.ok

/-- The words of an engine's instruction memory are cleared with its loan. -/
def State.clearImem (s : State) (e : Nat) : State :=
  (List.range 32).foldl (fun s a => s.setBoth (Reg.PIO_IMEM e a) 0 16 0) s

/-- A resource is freed in its abort state (R75, R153, R199, R222, R262). -/
def State.freeRes (s : State) (kind id : Nat) : State :=
  match kind with
  | 1 =>
    let s := s.abortCuff false id
    (s.setCuff id { s.cuff id with owner := 0, alloc := false }).ownSleeve (id / 32)
  | 2 => (s.abortCtx id).setCtx id {}
  | 3 =>
    let s := ((s.abortPio false id).returnPio id).clearImem id
    let was := (s.pio id).owner
    let s := s.setPio id { s.pio id with owner := 0, alloc := false }
    (s.passSrcs (pioSrcs id) was 0).ownPio (id / 4)
  | 4 =>
    let s := (s.abortPort false id).returnPort id
    let was := (s.port id).owner
    let s := s.setPort id { s.port id with owner := 0, alloc := false }
    (s.passSrcs (fbkSrcs id) was 0).ownFbk (id / 8)
  | 5 =>
    let s := s.disableChan id
    let was := (s.chan id).owner
    let s := s.setChan id { s.chan id with owner := 0, alloc := false }
    (s.passSrcs (dmaSrcs id) was 0).setN (Reg.PG_OWNER (dmaPage id)) 0
  | 6 => s.setFlag id {}
  | _ => s

/-- The contexts of a triple, in slot order, become guarded, or are so no longer (R120). -/
def State.setGuarded (s : State) (cs : List Nat) (b : Bool) : State :=
  cs.foldl (fun s c => s.setCtx c { s.ctx c with guarded := b, slots := if b then cs else [] }) s

/-- A contract is released (R119): the triple of a guarded queue bound to a context is guarded no longer. -/
def State.releaseContract (s : State) (q : Nat) : State :=
  let d := s.queue q
  let s := if d.cls = 2 ∧ d.ttype = 5 then s.setGuarded (s.triple d.target) false else s
  s.setQueue q { d with contract := none, cls := 0 }

/-- A queue is freed: its abort state, its contract released (R119), the descriptor gone. -/
def State.freeQueue (s : State) (q : Nat) : State := (((s.abortQueue q).judgeAll).releaseContract q).setQueue q {}

/-- A live queue writes its records to this queue. -/
def State.loggedTo (s : State) (q : Nat) : Bool :=
  s.queues.any fun e => decide (e.2.state ≠ QState.free) && e.2.logen && decide (e.2.logq = q) && decide (e.1 ≠ q)

end Sys2Proof.Machine
end

