-- ==== Sys2Proof/Machine/Irq.lean ====
section
/-! DEFINITION. Interrupts (R272-R289): events, moderation timers, routes, claims and completions of the
steward cores, and the tenant page's enable and pending registers. -/

namespace Sys2Proof.Machine

open Sys2Proof

/-- The page of HVC. -/
abbrev hvcPage : Nat := 0xA0

/-! ### Events and timers -/

/-- HVC_EVENT (R277): a source no table names never becomes pending. -/
def execHvcEvent (source : Nat) (s : State) : Host.Outcome State Fault Refusal :=
  onUnit (okSource source) (if srcNamed source then s.raise source else s)

/-- MODERATION_TIMER (R280). -/
def execModerationTimer (fn vec : Nat) (s : State) : Host.Outcome State Fault Refusal :=
  onUnit (okFn fn && okVec fn vec) (if s.vecDue (vecKey fn vec) then s.sendVec fn vec else s)

/-! ### Routes (R275, R276) -/

/-- An issuer may name a source in a route or a query (R276). -/
def State.mayRoute (s : State) (issuer id : Nat) : Bool :=
  srcNamed id && (decide (issuer = 0) || decide (s.srcOwner id = issuer))

/-- The code that refuses a route, or OK. A private source keeps its own function (R275). -/
def State.routeCode (s : State) (issuer id func vec : Nat) : Nat :=
  let own := s.srcOwner id
  let funcOk := decide (func = own) || (decide (issuer = 0) && decide (func = 0) && decide (0x3000 ≤ id))
  if s.mayRoute issuer id = false ∨ funcOk = false then Code.rejectQuota
  else if s.quotaOf func 8 ≤ vec ∨ (s.src id).stw then Code.rejectClass
  else Code.ok

/-- A route and an enable take effect: a pending source stays pending and counts as one new event at its new
vector, when it is enabled (R276, R278). -/
def State.route (s : State) (id prio func vec : Nat) (en : Bool) : State :=
  let s := (s.setSrc id { s.src id with prio := prio % 256, func := func, vec := vec, cold := s.srcPend id && !en }).setSrcEn id en
  if s.srcPend id ∧ en then s.deliver id else s

/-- HVC_SCFG of a source (R288). -/
def Src.scfg (r : Src) : Nat :=
  r.prio % 2 ^ 8 + r.func % 2 ^ 9 * 2 ^ 8 + r.vec % 2 ^ 11 * 2 ^ 17 + r.core % 4 * 2 ^ 28 + b2n r.stw * 2 ^ 30

/-- A direct write of HVC_SCFG: STW and CORE cannot be written, nor FUNC of a private source (R276, R288). -/
def State.writeScfg (s : State) (v : Nat) : State :=
  let id := s.fld Reg.HVC_SSEL 0 14
  let func := if id < 0x3000 then (s.src id).func else bits v 8 9
  if s.routeCode 0 id func (bits v 17 11) = Code.ok then s.route id (bits v 0 8) func (bits v 17 11) (s.srcEn id)
  else s.pgErr hvcPage 19

/-- HVC_SCFG (R276). -/
def execHvcScfg (value : Nat) (s : State) : Host.Outcome State Fault Refusal := .next (s.pf hvcPage 0x4C value (fun s => s.writeScfg value))

/-! ### Steward cores (R284-R286) -/

/-- HVC_MARGIN.M. -/
def State.margin (s : State) : Nat := s.fld Reg.HVC_MARGIN 0 8

/-- A source's pending bit as a claim on this tick sees it: that of the tick before (R285). -/
def State.pendBefore (s : State) (id : Nat) : Bool :=
  if (s.src id).at_ = some s.tick then (s.src id).was else s.srcPend id

/-- The sources a claim may see: those pending now, and those whose pending bit has been cleared on this tick. -/
def State.seenSrcs (s : State) : List Nat :=
  let now := s.pendingSrcs
  now ++ ((Tbl.keys s.srcs).filter fun id => (s.src id).at_ == some s.tick && (s.src id).was && !now.contains id)

/-- A source is claimable by a core (R278, R284). -/
def State.claimable (s : State) (c id : Nat) (pend : Bool) : Bool :=
  s.bit Reg.HVC_CTRL 0 && pend && s.srcEn id && (s.src id).stw && decide ((s.src id).core = c) &&
  match s.stack c with
  | [] => true
  | x :: _ => decide (x.2 + s.margin < (s.src id).prio)

/-- The most urgent claimable source of a core. -/
def State.claimNext (s : State) (c : Nat) : Option Nat :=
  s.mostUrgent (s.seenSrcs.filter fun id => s.claimable c id (s.pendBefore id))

/-- A core's interrupt line: it has a claimable source (R284). -/
def State.coreLine (s : State) (c : Nat) : Bool := s.pendingSrcs.any fun id => s.claimable c id true

/-- The pending bit of a claimed source is cleared, but for an event on the claim tick, which sets it again (R285). -/
def State.takeSrc (s : State) (id : Nat) : State :=
  if (s.src id).at_ = some s.tick then s.setSrc id { s.src id with was := false }
  else (s.setSrcPend id false).setSrc id { s.src id with cold := false }

/-- A claim: the source returned, its pending bit cleared, the stack pushed. The ID 0x3FFF is the spurious
one. -/
def State.claim (s : State) (c : Nat) : State :=
  match s.claimNext c with
  | none => s.send (.readData 0 (word 0x3FFF))
  | some id =>
    if 16 ≤ (s.stack c).length then (s.pgErr hvcPage 17).send (.readData 0 (word 0x3FFF))
    else ((s.takeSrc id).setStack c ((id, (s.src id).prio) :: s.stack c)).send (.readData 0 (word id))

/-- HVC_CLAIM (R285). -/
def execHvcClaim (core : Nat) (s : State) : Host.Outcome State Fault Refusal :=
  onUnit (okCore core) (if s.mode = Mode.off ∨ s.mode = Mode.doze then s else s.claim core)

/-- What a stack fault writes: HVC_STK_INFO and HVC_STK_CNT. -/
def State.stackInfo (s : State) (c id : Nat) : State :=
  let top := match s.stack c with | [] => 0x3FFF | x :: _ => x.1
  let on := (s.stack c).any fun x => x.1 == id
  (s.setN Reg.HVC_STK_INFO (c % 4 + top % 2 ^ 14 * 2 ^ 2 + id % 2 ^ 14 * 2 ^ 16 + b2n (!on) * 2 ^ 30)).incSat Reg.HVC_STK_CNT 0 32

/-- A completion that is not for the top of the stack (R286). -/
def State.stackFault (s : State) (c id : Nat) : State :=
  let on := (s.stack c).any fun x => x.1 == id
  let t := s.stackInfo c id
  if s.bit Reg.HVC_CTRL 1 then
    ((t.pgErr hvcPage 16).relRecord 0 Code.stackFault 12 0x31 c id).raise 0x3448
  else if on then (t.pgErr hvcPage 16).setStack c ((s.stack c).eraseP fun x => x.1 == id)
  else t

/-- A completion (R286). -/
def State.complete (s : State) (c id : Nat) : State :=
  if id = 0x3FFF then s
  else match s.stack c with
    | x :: r => if x.1 = id then s.setStack c r else s.stackFault c id
    | [] => s.stackFault c id

/-- HVC_COMPLETE (R286). -/
def execHvcComplete (core value : Nat) (s : State) : Host.Outcome State Fault Refusal :=
  onUnit (okCore core) (if s.mode = Mode.off ∨ s.mode = Mode.doze then s else s.complete core (value % 2 ^ 14))

/-- A write of HVC_MARGIN, ignored while a stack is not empty (R279). -/
def State.writeMargin (s : State) (view v : Nat) : State :=
  if s.coreStacks ≠ [] then s.pgErr hvcPage 18
  else s.setN Reg.HVC_MARGIN (viewWrite view (s.regN Reg.HVC_MARGIN) v % 2 ^ 8)

/-- HVC_MARGIN (R279). -/
def execHvcMargin (view value : Nat) (s : State) : Host.Outcome State Fault Refusal :=
  onUnit (decide (view < 4)) (s.pf hvcPage (view * 0x1000 + 0x44) value (fun s => s.writeMargin view value))

/-- HVC_CTRL.EN set again delivers what has come due (R278). -/
def State.writeHvcCtrl (s : State) (v : Nat) : State :=
  let was := s.bit Reg.HVC_CTRL 0
  let s := s.setFld Reg.HVC_CTRL 0 2 v
  if was = false ∧ s.bit Reg.HVC_CTRL 0 then s.sendAll ((Tbl.keys s.vecs).filter s.vecDue) else s

/-! ### Enable and pending bits in the block pages: set and clear addresses (R277, R288) -/

/-- Word w of HVC_EN or HVC_PEND through a view: only SET and CLEAR act. -/
def State.writeHvcBits (s : State) (pend : Bool) (w view v : Nat) : State :=
  let ids := ((bitList 32 v).map fun i => w * 32 + i).filter srcNamed
  if view = 1 then (if pend then s.raiseAll ids else ids.foldl State.enableSrc s)
  else if view = 2 then ids.foldl (fun s id => if pend then s.clearSrc id else s.setSrcEn id false) s
  else s

/-! ### The tenant page (R277, R289) -/

/-- The private sources a mask names. -/
def privOf (fn mask : Nat) : List Nat := (bitList 22 mask).map fun j => 24 * fn + j

/-- TEN_IRQ_EN_SET (R289). -/
def execTenIrqEnSet (fn value : Nat) (s : State) : Host.Outcome State Fault Refusal :=
  onUnit (okFn fn) (s.ten fn 0x1004 value (fun s => (privOf fn value).foldl State.enableSrc s))

/-- TEN_IRQ_EN_CLR (R289). -/
def execTenIrqEnClr (fn value : Nat) (s : State) : Host.Outcome State Fault Refusal :=
  onUnit (okFn fn) (s.ten fn 0x1008 value (fun s => (privOf fn value).foldl (fun s id => s.setSrcEn id false) s))

/-- TEN_IRQ_PEND_SET (R277). -/
def execTenIrqPendSet (fn value : Nat) (s : State) : Host.Outcome State Fault Refusal :=
  onUnit (okFn fn) (s.ten fn 0x1014 value (fun s => s.raiseAll (privOf fn value)))

/-- TEN_IRQ_PEND_CLR (R277). -/
def execTenIrqPendClr (fn value : Nat) (s : State) : Host.Outcome State Fault Refusal :=
  onUnit (okFn fn) (s.ten fn 0x1018 value (fun s => (privOf fn value).foldl State.clearSrc s))

/-- A shared source routed to a function (R289). -/
def State.sharedOf (s : State) (fn id : Nat) : Bool :=
  decide (0x3000 ≤ id) && srcNamed id && !(s.src id).stw && decide ((s.src id).func = fn)

/-- TEN_IRQ_SHEN_SET (R289). -/
def execTenIrqShenSet (fn value : Nat) (s : State) : Host.Outcome State Fault Refusal :=
  onUnit (okFn fn) (s.ten fn 0x1024 value (fun s => if s.sharedOf fn (value % 2 ^ 14) then s.enableSrc (value % 2 ^ 14) else s))

/-- TEN_IRQ_SHEN_CLR (R289). -/
def execTenIrqShenClr (fn value : Nat) (s : State) : Host.Outcome State Fault Refusal :=
  onUnit (okFn fn) (s.ten fn 0x1028 value (fun s => if s.sharedOf fn (value % 2 ^ 14) then s.setSrcEn (value % 2 ^ 14) false else s))

/-- TEN_IRQ_SHPEND_CLR (R289). -/
def execTenIrqShpendClr (fn value : Nat) (s : State) : Host.Outcome State Fault Refusal :=
  onUnit (okFn fn) (s.ten fn 0x102C value (fun s => if s.sharedOf fn (value % 2 ^ 14) then s.clearSrc (value % 2 ^ 14) else s))

/-- TEN_IRQ_SHNEXT: the lowest pending shared source routed to the function (R289). -/
def State.shNext (s : State) (fn : Nat) : Nat := (s.pendingSrcs.find? (s.sharedOf fn)).getD 0x3FFF

end Sys2Proof.Machine
end

