-- ==== Sys2Proof/Machine/Host.lean ====
section
/-! DEFINITION. The host interface (R246-R271): BAR2, resets of the link and of functions, command rings,
completions, sleep, and the abort sequence. -/

namespace Sys2Proof.Machine

open Sys2Proof

/-! ### Reads and BAR2 (R247, R248, R250) -/

/-- Reads of a function are answered now. -/
def State.reads (s : State) (fn : Nat) : Bool :=
  s.link.up && (decide (fn = 0) || s.link.vfEnable) && decide (s.pwr.mode ≠ Mode.off) && decide (s.pwr.mode ≠ Mode.doze)
    && decide ((s.fn fn).dstate = 0)

/-- A read that the part does not answer with data: in D3hot the memory space is disabled, and the read is completed with
Unsupported Request (R270). -/
def State.readRefused (s : State) (fn : Nat) : State :=
  if s.link.up && (decide (fn = 0) || s.link.vfEnable) && decide (s.pwr.mode ≠ Mode.off) && decide (s.pwr.mode ≠ Mode.doze)
    && decide ((s.fn fn).dstate = 1) then s.send (.unsupported fn) else s

/-- The size of a function's BAR2 (R247, R249). -/
def State.bar2Size (s : State) (fn : Nat) : Nat :=
  if fn = 0 then 2 ^ 26 else 2 ^ (20 + min 6 (s.fld Reg.GLB_HOSTCFG 0 3))

/-- A BAR2 read: the data, or 0 in every byte (R248, R112). -/
def State.bar2Read (s : State) (fn a n : Nat) : State :=
  if s.reads fn = false then s.readRefused fn
  else if s.mode = Mode.boot ∨ n = 0 ∨ 256 < n ∨ s.bar2Size fn < a + n then s
  else
    let s := s.drainBuf fn
    match s.bar2Reach fn a n with
    | .bad _ s => s.send (.readBytes fn (List.replicate n 0))
    | .ok l s =>
      if l.any (fun r => s.eccIn r.1 r.2) then
        (s.dataEcc.faultRecord fn Code.slabEcc FSrc.bar2 0 a).send (.readBytes fn (List.replicate n 0))
      else s.send (.readBytes fn (l.flatMap fun r => bytesLE r.2 (s.readMem r.1 r.2)))

/-- BAR2_READ (R248); an AtomicOp is completed with Unsupported Request (R246), and JTAG reaches no BAR2. -/
def execBar2Read (fn addr : Nat) (len : ReqKind) (s : State) : Host.Outcome State Fault Refusal :=
  onUnit (okFn fn) (match len with
    | .bytes n => s.bar2Read fn addr n
    | .atomic => if s.reads fn then s.send (.unsupported fn) else s.readRefused fn
    | .jtag => s)

/-- Makes room in a function's buffer for a write: it waits while any buffer is full (R250). -/
def State.bufRoom (s : State) (fn : Nat) (w : Nat × List (Option Nat)) : State :=
  let s := s.drainFull
  if bufEntries ((s.fn fn).buf ++ [w]) ≤ 64 then s else s.drainOwn fn

/-- A BAR2 write enters the write buffer, or is held at the link while DOZE lasts (R248, R250, R251). -/
def State.bar2Write (s : State) (fn a : Nat) (bs : List (Option Nat)) : State :=
  if bs = [] ∨ 256 < bs.length ∨ s.bar2Size fn < a + bs.length then s
  else if s.arrives fn && s.dozing then s.hold [{ fn := fn, addr := a, bytes := bs }]
  else if s.tenPage fn = false then s
  else
    let s := s.bufRoom fn (a, bs)
    s.setFn fn { s.fn fn with buf := (s.fn fn).buf ++ [(a, bs)] }

/-- BAR2_WRITE (R248). -/
def execBar2Write (fn addr : Nat) (bytes : List (Option Nat)) (s : State) : Host.Outcome State Fault Refusal :=
  onUnit (okFn fn) (s.bar2Write fn addr bytes)

/-- The write buffer applies its oldest write (R250). -/
def State.applyOldest (s : State) (fn : Nat) : State :=
  match (s.fn fn).buf with
  | [] => s
  | w :: r => (s.setFn fn { s.fn fn with buf := r }).applyPosted fn w.1 w.2

/-- WRITE_BUFFER_APPLY (R250). -/
def execWriteBufferApply (fn : Nat) (s : State) : Host.Outcome State Fault Refusal :=
  onUnit (okFn fn) (if s.mode = Mode.off ∨ s.mode = Mode.doze then s else s.applyOldest fn)

/-! ### Completions (R254-R256, R261) -/

/-- A command completes: its record waits, and it keeps its tag until the record is written. Under an FLR the
command is only dropped (R269). -/
def State.pushCpl (s : State) (n : Nat) (r : Cpl) : State :=
  let f := s.fn n
  if f.flr then s.setFn n { f with inflight := f.inflight.filter fun c => decide (c.tag ≠ r.tag) }
  else (s.setFn n { f with inflight := f.inflight.map fun c => if c.tag = r.tag then { c with done := true } else c,
                           waiting := f.waiting ++ [r] }).updFull n

/-- The record of a command. -/
def Cmd.cpl (c : Cmd) (status r0 r1 : Nat) : Cpl :=
  { seq := c.seq, status := status, user := c.user, tag := c.tag, opcode := c.opcode, res0 := r0, res1 := r1,
    notify := bitAt c.flags 1, holdsTag := true }

/-- The answer to a command whose SEQ stands in the history (R261). -/
def Cmd.duplicate (c : Cmd) (r : Cpl) : Cpl :=
  { c.cpl Code.duplicate r.res0 r.res1 with orig := r.status }

/-- An accepted command completes: the history keeps its completion, and the duplicates that wait for it are
answered. -/
def State.finishCmd (s : State) (n : Nat) (c : Cmd) (status r0 r1 : Nat) : State :=
  let r := c.cpl status r0 r1
  let s := s.setFn n { s.fn n with hist := (s.fn n).hist.map fun h =>
    if h.seq = c.seq ∧ h.cpl = none then { h with cpl := some r } else h }
  let dups := (s.fn n).inflight.filter fun d => !d.done && decide (d.dup = some c.seq)
  dups.foldl (fun s d => s.pushCpl n (d.duplicate r)) (s.pushCpl n r)

/-- The function may write records now: a ring that takes them, bus master, D0, link up, not in OFF or DOZE (R252, R270). -/
def State.canWrite (s : State) (n : Nat) : Bool :=
  (s.fn n).ringed && (s.fn n).bme && decide ((s.fn n).dstate = 0) && s.link.up && decide (s.mode ≠ Mode.off) && decide (s.mode ≠ Mode.doze)

/-- The oldest waiting record is written where an entry is free, and its source is raised after it (R255,
R281). -/
def State.writeCpl (s : State) (n : Nat) : State :=
  match (s.fn n).waiting with
  | [] => s
  | r :: rest =>
    if s.canWrite n = false ∨ s.cplFree n = false then s
    else
      let f := s.fn n
      let s := s.setFn n { f with waiting := rest,
                                  inflight := f.inflight.filter fun c => !(r.holdsTag && decide (c.tag = r.tag)) }
      let s := (s.postRecord n r).updFull n
      if r.kind = 2 then s.raisePriv n 18 else if r.notify then s.raisePriv n 16 else s

/-- COMPLETION_WRITE (R255). -/
def execCompletionWrite (fn : Nat) (s : State) : Host.Outcome State Fault Refusal := onUnit (okFn fn) (s.writeCpl fn)

/-- A write of TEN_CPL_HEAD (R256). -/
def State.writeCplHead (s : State) (n i : Nat) : State :=
  let z := s.cplSize n
  let h := s.fld (Reg.TEN_CPL_HEAD n) 0 12
  let t := s.fld (Reg.TEN_CPL_TAIL n) 0 12
  if (i + z - h % z) % z ≤ (t + z - h % z) % z ∧ i < z then (s.setFld (Reg.TEN_CPL_HEAD n) 0 12 i).updFull n
  else (s.setFld (Reg.TEN_RING_STAT n) 8 8 Code.queueFull).faultRecord n Code.queueFull FSrc.ring 0 i

/-- TEN_CPL_HEAD (R256). -/
def execTenCplHead (fn value : Nat) (s : State) : Host.Outcome State Fault Refusal :=
  onUnit (okFn fn) (s.ten fn 0x120 value (fun s => s.writeCplHead fn (value % 2 ^ 12)))

/-! ### Rings (R252, R258, R259) -/

/-- The entries of the command ring. -/
def State.cmdSize (s : State) (n : Nat) : Nat := 2 ^ s.fld (Reg.TEN_CMD_SIZE n) 0 4

/-- A ring size the part enables. -/
def ringLog (k : Nat) : Bool := decide (4 ≤ k ∧ k ≤ 12)

/-- A write of TEN_RING_CTRL.EN (R252). The base registers hold no misaligned address. -/
def State.writeRingCtrl (s : State) (n v : Nat) : State :=
  if bitAt v 0 = false then s.setBit (Reg.TEN_RING_CTRL n) 0 false
  else if s.bit (Reg.TEN_RING_CTRL n) 0 then s
  else if ringLog (s.fld (Reg.TEN_CMD_SIZE n) 0 4) = false ∨ ringLog (s.fld (Reg.TEN_CPL_SIZE n) 0 4) = false then
    s.setFld (Reg.TEN_RING_STAT n) 8 8 Code.rejectClass
  else
    let s := (s.setBit (Reg.TEN_RING_CTRL n) 0 true).setBit (Reg.TEN_RING_STAT n) 3 false
    let s := (s.setFld (Reg.TEN_CMD_HEAD n) 0 12 0).setFld (Reg.TEN_CPL_HEAD n) 0 12 0
    let s := s.setN (Reg.TEN_CPL_TAIL n) (2 ^ 16)
    (s.setFn n { s.fn n with cmdTail := 0, ringed := true }).updFull n

/-- TEN_RING_CTRL_WRITE (R252). -/
def execTenRingCtrlWrite (fn value : Nat) (s : State) : Host.Outcome State Fault Refusal :=
  onUnit (okFn fn) (s.ten fn 0x128 value (fun s => s.writeRingCtrl fn value))

/-- TEN_CMD_TAIL (R252). -/
def execTenCmdTail (fn value : Nat) (s : State) : Host.Outcome State Fault Refusal :=
  onUnit (okFn fn) (s.ten fn 0x10C value (fun s => s.setFn fn { s.fn fn with cmdTail := value % s.cmdSize fn }))

/-- Every command in flight. -/
def State.tagsHeld (s : State) : List Nat := s.fns.flatMap fun e => e.2.inflight.map (·.tag)

/-- The mode lets a function's commands be fetched (R315, R317, R327). -/
def State.modeFetches (s : State) (n : Nat) : Bool :=
  s.service || decide (s.mode = Mode.safe) || (decide (s.mode = Mode.provision) && decide (n = 0))

/-- The fetcher may take a command of a function (R252, R258, R259, R270, R351). -/
def State.mayFetchCmd (s : State) (n : Nat) : Bool :=
  let f := s.fn n
  s.bit (Reg.TEN_RING_CTRL n) 0 && !s.bit (Reg.TEN_RING_STAT n) 3 && s.canWrite n && !f.aborting && !f.flr
    && s.modeFetches n && s.pairUp 0 && !s.pwr.entering && decide (s.fld (Reg.TEN_CMD_HEAD n) 0 12 ≠ f.cmdTail)
    && decide (f.inflight.length < s.fld (Reg.TEN_CREDIT n) 0 13) && decide (s.tagsHeld.length < 4096)

/-- The function the fetcher visits next: the first after the one visited last that has an unfetched command and credit
(R259). -/
def State.nextFetch (s : State) : Option Nat :=
  ((List.range 512).map fun i => (s.turns.fetch + 1 + i) % 512).find? s.mayFetchCmd

/-- The fields PARAM has for an opcode, as position and width; none for a reserved opcode (R262, R276, R303). -/
def paramFields (op : Nat) : Option (List (Nat × Nat)) :=
  match op with
  | 0x00 => some []
  | 0x10 => some [(0, 32), (32, 8), (40, 3), (48, 12), (64, 2), (96, 20), (127, 1)]
  | 0x11 => some [(0, 20)]
  | 0x12 => some [(0, 20), (32, 2)]
  | 0x13 => some [(0, 20), (32, 2), (36, 4), (40, 24), (64, 32)]
  | 0x20 | 0x21 => some [(0, 26), (32, 10), (64, 1)]
  | 0x30 | 0x31 => some [(0, 4), (32, 16)]
  | 0x32 => some [(0, 4), (8, 8), (16, 10), (26, 4), (32, 2), (40, 7)]
  | 0x33 => some [(0, 12), (12, 3), (16, 3), (20, 12), (32, 2), (34, 1), (44, 20)]
  | 0x34 => some [(0, 12), (16, 1), (17, 1), (64, 256)]
  | 0x35 => some [(0, 12), (32, 14)]
  | 0x40 => some [(0, 11), (16, 3), (64, 14), (96, 32), (128, 14), (160, 32), (192, 14), (224, 32), (256, 14), (288, 32),
                  (320, 14), (352, 32)]
  | 0x41 => some [(0, 11), (16, 1), (64, 60)]
  | 0x50 => some [(0, 64), (64, 32), (96, 8)]
  | 0x51 => some [(0, 32), (96, 8)]
  | 0x52 => some [(0, 64), (64, 32), (96, 8), (128, 32)]
  | 0x60 => some [(0, 9), (32, 4), (64, 32)]
  | 0x61 => some [(0, 9), (32, 13)]
  | 0x62 | 0x63 => some [(0, 9)]
  | 0x70 => some [(0, 5), (8, 4), (12, 1), (64, 64)]
  | 0x71 => some [(0, 5), (8, 2)]
  | 0x72 => some [(0, 5), (64, 256)]
  | 0x73 => some [(0, 5), (32, 12)]
  | 0x74 => some [(0, 5)]
  | 0x78 => some [(0, 14), (16, 1), (24, 8), (32, 9), (48, 11)]
  | 0x79 => some [(0, 14)]
  | _ => none

/-- Clears the named fields: what is left is reserved. -/
def dropFields (v : Nat) (fs : List (Nat × Nat)) : Nat := fs.foldl (fun v f => putBits v f.1 f.2 0) v

/-- A field holds a reserved code: QUEUE_CTRL 0b00, DMA_CTRL 0b11 (R262, R303). -/
def Cmd.reservedCode (c : Cmd) : Bool :=
  (decide (c.opcode = 0x12) && decide (bits c.param 32 2 = 0)) || (decide (c.opcode = 0x71) && decide (bits c.param 8 2 = 3))

/-- A command is refused as soon as it is read: a reserved opcode or code, a PF-only command of a VF, or a reserved
bit that is 1 (R253, R262). -/
def Cmd.refused (c : Cmd) (n : Nat) : Bool :=
  decide (4 ≤ c.flags) ||
  match paramFields c.opcode with
  | none => true
  | some fs => decide (dropFields c.param fs ≠ 0) || c.reservedCode || (decide (n ≠ 0) && decide (0x60 ≤ c.opcode ∧ c.opcode ≤ 0x62))

/-- The command a 64-byte ring entry spells (R253). -/
def ofCommand (tag v : Nat) : Cmd :=
  { tag := tag, opcode := bits v 0 8, flags := bits v 8 8, seq := bits v 16 16, user := bits v 32 32, param := bits v 64 448 }

/-- The fetcher judges a command's SEQ (R261). -/
def State.judgeSeq (s : State) (n : Nat) (c : Cmd) : State :=
  let f := s.fn n
  let s := s.setFn n { f with inflight := f.inflight ++ [c] }
  match f.hist.find? (fun h => decide (h.seq = c.seq)) with
  | some h =>
    if h.opcode ≠ c.opcode then s.pushCpl n (c.cpl Code.staleSeq 0 0)
    else match h.cpl with
      | some r => s.pushCpl n (c.duplicate r)
      | none => s.setFn n { f with inflight := f.inflight ++ [{ c with dup := some c.seq }] }
  | none =>
    let back := (s.fld (Reg.TEN_SEQ n) 0 16 + 65536 - c.seq) % 65536
    if f.hist ≠ [] ∧ 1 ≤ back ∧ back ≤ 32767 then s.pushCpl n (c.cpl Code.staleSeq 0 0)
    else
      let l := f.hist ++ [{ seq := c.seq, opcode := c.opcode }]
      let s := s.setFn n { s.fn n with hist := l.drop (l.length - 64) }
      let s := s.setFld (Reg.TEN_SEQ n) 0 16 c.seq
      if c.refused n then s.finishCmd n c Code.rejectClass 0 0 else s

/-- The fetch of a command of the function whose turn it is, or a fetch that ends in a PCIe error (R258, R259). The tag is a
free pick. -/
def State.fetchCmd (s : State) (n : Nat) (v : Option Nat) : State :=
  if s.nextFetch ≠ some n then s
  else
    let s := { s with turns := { s.turns with fetch := n } }
    let h := s.fld (Reg.TEN_CMD_HEAD n) 0 12
    match v with
    | none =>
      let s := (s.setBit (Reg.TEN_RING_STAT n) 3 true).setFld (Reg.TEN_RING_STAT n) 8 8 Code.busError
      (s.faultRecord n Code.busError FSrc.ring 0 h).raisePriv n 21
    | some v =>
      let held := s.tagsHeld
      match pickOf s.fresh ((List.range 4096).filter fun t => !held.contains t) with
      | none => s
      | some t => (s.nextFresh.setFld (Reg.TEN_CMD_HEAD n) 0 12 ((h + 1) % s.cmdSize n)).judgeSeq n (ofCommand t v)

/-- COMMAND_FETCH (R259). -/
def execCommandFetch (fn : Nat) (cmd : Option Nat) (s : State) : Host.Outcome State Fault Refusal :=
  onUnit (okFn fn) (s.fetchCmd fn cmd)

/-! ### The abort sequence (R264-R268) -/

/-- The doorbell registers at an abort (R105). -/
def State.clearDb (s : State) (n : Nat) : State :=
  ((s.setN (Reg.TEN_QDB_STAT n) 0).setFld (Reg.TEN_QDB_IDX n) 0 16 0).setFn n { s.fn n with qdbL := 0 }

/-- A tray not retired that is marked failing. -/
def State.failingTray (s : State) : Option Nat :=
  (List.range 9).find? fun t => s.bit Reg.ADM_GUARD (4 + t) && !s.bit Reg.ADM_GUARD (13 + t)

/-- The spare gives back the tray it was taking over: the contexts go on in the tray they came from, those that were moving
with the flag or the cause that came meanwhile. -/
def State.dropStep (s : State) : State :=
  let x := s.fld Reg.ADM_GUARD 0 4
  let t := (s.tray x).rebuildFor
  let s := s.setTray x { s.tray x with rebuildFor := none, since := 0, moved := [] }
  let s := (Tbl.keys s.ctxs).foldl (fun s c => if (s.ctx c).st = .moving then s.endMove c else s) s
  match t with
  | some t => (s.trayLevels t).trayLevels x
  | none => s

/-- A command that has not passed the commit gate completes ABORTED and is counted; a duplicate that waits is a command of
its own (R266). -/
def State.abortCmd (s : State) (n : Nat) (c : Cmd) (done forced : Nat) : State :=
  (if c.dup.isSome then s.pushCpl n (c.cpl Code.aborted 0 0) else s.finishCmd n c Code.aborted done forced).incSat
    (Reg.TEN_ABORT_STATUS n) 8 12

/-- A live update of the tenant stops: the tray in hand is given back, and a failing tray gets its rebuild. Where no tray has been
updated the command completes ABORTED, without effect. One that has updated a tray has passed the commit gate: it completes
with the status R179 gives a stopped update, and what it did stands (R178, R266, log entry 30). -/
def State.abortUpdate (s : State) (n : Nat) : State :=
  match s.upd with
  | none => s
  | some u =>
    if u.apply ∨ u.fn ≠ n then s
    else
      let s := { s with upd := none }.dropStep
      let s := match s.failingTray with | some t => s.startRebuild t | none => s
      match (s.fn n).inflight.find? fun c => decide (c.tag = u.tag) && !c.done with
      | some c => if u.done = 0 then s.abortCmd n c 0 0 else s.finishCmd n c Code.rejectCapacity u.done (b2n u.forced)
      | none => s

/-- The steps of the sequence up to the commands in flight: every resource in its abort state, every command
that has not passed the commit gate completed ABORTED (R265, R266). -/
def State.runAbort (s : State) (n : Nat) : State :=
  let s := ((s.abortTenant n).clearDb n).abortUpdate n
  let past := s.fns.flatMap fun e => e.2.abortTags
  let cs := (s.fn n).inflight.filter fun c => !c.done && !past.contains c.tag
  let s := (cs.filter (·.dup.isSome) ++ cs.filter (·.dup.isNone)).foldl (fun s c => s.abortCmd n c 0 0) s
  s.setFn n { s.fn n with abortHeld := false }

/-- An abort starts, or joins the running one; the writes of the function that wait are discarded (R251). In DOZE it waits for the wake (R264, R267). -/
def State.startAbort (s : State) (n : Nat) (byPf : Bool) : State :=
  let s := s.startWake 6 0
  if (s.fn n).aborting then s
  else
    let f := s.fn n
    let skip := (f.cmdTail + s.cmdSize n - s.fld (Reg.TEN_CMD_HEAD n) 0 12) % s.cmdSize n
    let s := s.setFld (Reg.TEN_CMD_HEAD n) 0 12 f.cmdTail
    let s := s.setN (Reg.TEN_ABORT_STATUS n) (1 + b2n byPf * 4 + skip % 2 ^ 12 * 2 ^ 20)
    let s := s.setFn n { f with aborting := true, abortHeld := true, buf := [] }
    let s := { s with link := { s.link with posted := s.link.posted.filter fun w => decide (w.fn ≠ n) || w.cfg.isSome } }
    if s.mode = Mode.doze then s else s.runAbort n

/-- TEN_ABORT (R264). -/
def execTenAbort (fn value : Nat) (s : State) : Host.Outcome State Fault Refusal :=
  onUnit (okFn fn) (s.ten fn 0x400 value (fun s => if bitAt value 0 ∧ bits value 16 16 = 0x4A42 then s.startAbort fn false else s))

/-- The registers that an FLR resets (R269, R271, R310). -/
def flrKeys (n : Nat) : List Nat :=
  [Reg.TEN_CMD_BASE_L n, Reg.TEN_CMD_BASE_H n, Reg.TEN_CMD_SIZE n, Reg.TEN_CMD_HEAD n, Reg.TEN_CPL_BASE_L n,
   Reg.TEN_CPL_BASE_H n, Reg.TEN_CPL_SIZE n, Reg.TEN_CPL_HEAD n, Reg.TEN_CPL_TAIL n, Reg.TEN_RING_CTRL n,
   Reg.TEN_RING_STAT n, Reg.TEN_SEQ n, Reg.TEN_QDB_STAT n, Reg.TEN_QDB_IDX n, Reg.TEN_ABORT_STATUS n,
   Reg.TEN_ABORT_TIME_L n, Reg.TEN_ABORT_TIME_H n, Reg.TEN_FAULT_IDX n] ++ (List.range 16).map (Reg.TEN_MBX_OUT n)
   ++ (List.range 512).map (Reg.TEN_FAULT n)

/-- What a PCIe reset of a function leaves of its configuration space (log entry 10). -/
def Fn.unplug (f : Fn) : Fn := { f with bme := false, msixEn := false, fmask := false, dstate := 0, buf := [] }

/-- The MSI-X mask bits of a function are set again and its pending bits cleared. -/
def State.maskVecs (s : State) (n : Nat) : State :=
  (Tbl.keys s.vecs).foldl (fun s k =>
    if k / 2048 = n then s.setVec k { s.vec k with masked := true, pba := false } else s) s

/-- The resets of R269 at the end of an FLR; quotas, credit and resources are kept. -/
def State.flrReset (s : State) (n : Nat) : State :=
  let s := { s with regs := s.regs.filter fun e => !(flrKeys n).contains e.1 }
  let s := s.setFld (Reg.TEN_MBX_STAT n) 8 8 0
  let f := s.fn n
  (s.setFn n { f.unplug with qdbL := 0, cmdTail := 0, inflight := [], hist := [], waiting := [], ringed := false, flr := false,
                             aliveBase := s.regN Reg.MBX_ALIVE }).maskVecs n

/-- The end of an abort (R265): mailbox emptied, pending interrupts cleared, DONE; then the record of KIND 2,
or the resets of an FLR. -/
def State.endAbort (s : State) (n : Nat) : State :=
  let f := s.fn n
  if f.aborting = false ∨ f.abortHeld ∨ f.abortCut then s
  else
    let s := (s.clearMailbox n).clearIrqs n
    let s := (s.setBit (Reg.TEN_ABORT_STATUS n) 1 true).setBit (Reg.TEN_ABORT_STATUS n) 0 false
    let s := s.setPair (Reg.TEN_ABORT_TIME_L n) (Reg.TEN_ABORT_TIME_H n) s.tb.now
    let status := s.regN (Reg.TEN_ABORT_STATUS n)
    let s := s.setFn n { s.fn n with aborting := false, abortTags := [] }
    let s := if f.flr then s.flrReset n
      else
        let r : Cpl := { status := Code.aborted, kind := 2, res0 := status }
        (s.setFn n { s.fn n with waiting := (s.fn n).waiting ++ [r] }).updFull n
    f.abortTags.foldl (fun s t => match (s.fn 0).inflight.find? (fun c => decide (c.tag = t)) with
      | some c => s.finishCmd 0 c Code.ok status 0
      | none => s) s

/-- ABORT_DONE (R265). -/
def execAbortDone (fn : Nat) (s : State) : Host.Outcome State Fault Refusal := onUnit (okFn fn) (s.endAbort fn)

/-! ### Resets (R249, R269, R313) -/

/-- The TENANT_ABORT commands of the PF that wait for an abort are dropped with the PF's commands in flight. -/
def State.dropAbortTags (s : State) : State :=
  ((Tbl.keys s.fns).filter fun n => decide ((s.fn n).abortTags ≠ [])).foldl (fun s n => s.setFn n { s.fn n with abortTags := [] }) s

/-- An FLR of one function: the abort sequence runs, or runs on. -/
def State.startFlr (s : State) (n : Nat) : State :=
  let s := if n = 0 then s.dropAbortTags else s
  let f := s.fn n
  (s.setFn n { f.unplug with flr := true, inflight := [], waiting := [] }).startAbort n false

/-- A configuration request of a function is taken: the link is up and no FLR of it runs (R269). -/
def State.cfgReach (s : State) (n : Nat) : Bool := s.link.up && decide (s.mode ≠ Mode.off) && !(s.fn n).flr

/-- An FLR; that of the PF clears VF Enable, and every VF undergoes one too (R269). -/
def State.flr (s : State) (n : Nat) : State :=
  let s := s.startFlr n
  if n = 0 then
    (List.range 511).foldl (fun s i => s.startFlr (i + 1)) { s with link := { s.link with vfEnable := false } }
  else s

/-- FLR (R269): a configuration write, so the link must be up. -/
def execFlr (fn : Nat) (s : State) : Host.Outcome State Fault Refusal :=
  onUnit (okFn fn) (if s.cfgReach fn then s.flr fn else s)

/-- The link goes down and the PCIe core is reset. -/
def State.linkDown (s : State) : State :=
  let s := (Tbl.keys s.fns).foldl (fun s n => s.setFn n (s.fn n).unplug) s
  let s := (Tbl.keys s.vecs).foldl (fun s k => s.setVec k { s.vec k with masked := true, pba := false }) s
  { s with link := {} }

/-- PERST_N with PERST_ABORT = 0: every ring disabled, every write buffer discarded; all else runs on. -/
def State.softReset (s : State) : State :=
  ((Tbl.keys s.regs).filter fun k => decide (tenBase ≤ k ∧ k % 0x10000 = 0x128)).foldl (fun s k => s.setBit k 0 false)
    s.linkDown

/-- PERST_N (R249). -/
def execPerstN (s : State) : Host.Outcome State Fault Refusal :=
  .next (if s.mode = Mode.off then s
    else if s.bit Reg.GLB_HOSTCFG 3 then (s.flr 0).linkDown else s.softReset)

/-- PCIE_REF_LOSS (R313). -/
def execPcieRefLoss (s : State) : Host.Outcome State Fault Refusal :=
  .next (if s.mode = Mode.off then s else { s.softReset with pwr := { s.pwr with pcieRef := false } })

/-- LINK_TRAINED (R313): a link trains only on its reference, which is therefore present. -/
def execLinkTrained (s : State) : Host.Outcome State Fault Refusal :=
  .next (if s.mode = Mode.off then s
    else
      let s : State := { s with link := { s.link with up := true, l0 := true }, pwr := { s.pwr with pcieRef := true } }
      (List.range 512).foldl State.cqRooms s)

/-! ### Sleep and messages (R270, R282, R283, R329) -/

/-- A configuration request of a function: in DOZE the link holds it, and it is a wake source (R329). -/
def State.config (s : State) (fn : Nat) (r : ConfigReq) (f : State → State) : State :=
  if s.cfgReach fn = false then s
  else if s.dozing then s.hold [{ fn := fn, cfg := some r }]
  else f s

/-- The vectors of a function that hold events. -/
def State.countedVecs (s : State) (n : Nat) : List Nat :=
  (Tbl.keys s.vecs).filter fun k => decide (k / 2048 = n) && decide (0 < (s.vec k).count)

/-- Entry into D3hot: moderated vectors are flushed, fetching stops. With `cold` the function goes on to D3cold. -/
def State.sleep (s : State) (n : Nat) (cold : Bool) : State :=
  let s := if (s.fn n).dstate = 0 then s.sendAll ((s.countedVecs n).filter fun k => s.vecOpen n (k % 2048)) else s
  s.setFn n { s.fn n with dstate := if cold then 2 else 1 }

/-- D3HOT_ENTRY (R283). -/
def execD3hotEntry (fn : Nat) (cold : Bool) (s : State) : Host.Outcome State Fault Refusal :=
  onUnit (okFn fn) (s.config fn (.sleep cold) fun s => s.sleep fn cold)

/-- Return to D0: the held records are written first, then every vector with events sends. -/
def State.awake (s : State) (n : Nat) : State :=
  if (s.fn n).dstate = 0 then s
  else
    let s := s.setFn n { s.fn n with dstate := 0 }
    let s := (List.range (s.fn n).waiting.length).foldl (fun s _ => s.writeCpl n) s
    (s.cqRooms n).sendAll (s.countedVecs n)

/-- D0_RETURN (R283). -/
def execD0Return (fn : Nat) (s : State) : Host.Outcome State Fault Refusal :=
  onUnit (okFn fn) (s.config fn .awake fun s => s.awake fn)

/-- The messages of a function that a mask held back leave where they may (R282). -/
def State.sendPending (s : State) (n : Nat) : State :=
  s.sendAll ((Tbl.keys s.vecs).filter fun k => decide (k / 2048 = n) && (s.vec k).pba)

/-- A vector's Mask, or MSI-X Enable and Function Mask of a function, as PCIe has them: what opens sends (R282). -/
def State.writeMsix (s : State) (n v : Nat) (w : MsixWrite) : State :=
  let f := s.fn n
  match w with
  | .vector m => (s.setVec (vecKey n v) { s.vec (vecKey n v) with masked := m }).sendPending n
  | .control en fm => (s.setFn n { f with msixEn := en.getD f.msixEn, fmask := fm.getD f.fmask }).sendPending n

/-- VECTOR_UNMASK (R282). -/
def execVectorUnmask (fn vec : Nat) (write : MsixWrite) (s : State) : Host.Outcome State Fault Refusal :=
  onUnit (okFn fn && okVec fn vec) (s.config fn (.msix vec write) fun s => s.writeMsix fn vec write)

/-- LINK_REACHES_L0 (R283): the messages held for the exit from L1 are sent. -/
def execLinkReachesL0 (s : State) : Host.Outcome State Fault Refusal :=
  .next (if s.link.up then s.reachL0 else s)

/-- ASPM L1 of the link, a setting of the PF: the idle link goes into L1 where the host enables it, and comes back to L0 where it
disables it (R246, R283, R328). -/
def State.configureL1 (s : State) (n : Nat) (l1 : Option Bool) : State :=
  match l1 with
  | none => s
  | some b =>
    if n ≠ 0 then s
    else if b then { s with link := { s.link with l1 := true, l0 := false } }
    else { s with link := { s.link with l1 := false } }.leaveL1

/-- A configuration write of Bus Master Enable or VF Enable (R346); messages that waited for bus mastering leave. -/
def State.configure (s : State) (n : Nat) (bme vf : Option Bool) : State :=
  let s := match bme with
    | some true => (s.setFn n { s.fn n with bme := true }).sendPending n
    | some false => s.setFn n { s.fn n with bme := false }
    | none => s
  match vf with
  | some b => if n = 0 then { s with link := { s.link with vfEnable := b } } else s
  | none => s

end Sys2Proof.Machine
end

