-- ==== Sys2Proof/Machine/Ensemble.lean ====
section
/-! DEFINITION. Ensembles (R224-R245): ports, frames, membership, ensemble time, launches and strobes. -/

namespace Sys2Proof.Machine

open Sys2Proof

/-! ### Configuration (R224, R225, R241) -/

/-- This member's index. -/
def State.ensIdx (s : State) : Nat := s.fld Reg.ENS_CFG 1 4

/-- The configured ports, rising. -/
def State.ensPorts (s : State) : List Nat := bitList 4 (s.fld Reg.ENS_CFG 8 4)

/-- The ensemble runs: enabled, steward pair 1 up, and its firmware not stopped by BOOT, OFF or DOZE; a wake has
started it again (R243, R329, R351). -/
def State.ensUp (s : State) : Bool :=
  s.bit Reg.ENS_CFG 0 && s.pairUp 1 && decide (s.mode ≠ Mode.off) && decide (s.mode ≠ Mode.boot)
    && (decide (s.mode ≠ Mode.doze) || s.pwr.wake)

/-- An apply has taken the port down (R353). -/
def State.portDown (s : State) (n : Nat) : Bool := s.boot.apply.any fun a => a.port == some n

/-- A port is enabled, and up. -/
def State.enpOn (s : State) (n : Nat) : Bool := s.bit (Reg.ENP_CFG n) 0 && !s.portDown n

/-- The worst PLCA cycle of a port, ticks (R225), from its two configuration words. -/
def portCycle (cfg plca : Nat) : Nat :=
  bits cfg 16 8 * 150 * (bits plca 0 8 + (bits cfg 24 8 + 1) * 8 * (bits plca 16 11 + 20))

/-- W (R225). -/
def State.wcyc (s : State) : Nat :=
  (s.ensPorts.map fun n => portCycle (s.regN (Reg.ENP_CFG n)) (s.regN (Reg.ENP_PLCA n))).foldl max 0

/-- RB + W, ticks (R241). -/
def State.ensBudget (s : State) : Nat := (s.fld Reg.ENS_CFG 12 2 + 1) * s.wcyc

/-- G, ticks. -/
def State.ensGuard (s : State) : Nat := max 300000 (s.fld Reg.ENS_GUARD 0 28)

/-- HBPER, ticks. -/
def State.hbTicks (s : State) : Nat := s.fld Reg.ENS_HBPER 0 16 * 1500

/-- The words of the canonical configuration (R234). -/
def State.ensConfig (s : State) : List Nat :=
  [s.regN Reg.ENS_ID, s.fld Reg.ENS_ETYPE 0 24, s.pair Reg.ENS_DMAC_L Reg.ENS_DMAC_H, s.fld Reg.ENS_CFG 8 4,
   s.fld Reg.ENS_CFG 12 2, s.fld Reg.ENS_GUARD 0 28, s.fld Reg.ENS_TOL 0 16, s.fld Reg.ENS_HBPER 0 16]
  ++ (List.range 16).flatMap (fun m =>
      [s.regN (Reg.ENS_MSERIAL_L m), s.regN (Reg.ENS_MSERIAL_H m), s.regN (Reg.ENS_MPRIO m)])
  ++ s.ensPorts.flatMap (fun n => [s.fld (Reg.ENP_CFG n) 16 8, s.fld (Reg.ENP_CFG n) 24 8, s.regN (Reg.ENP_PLCA n)])
  ++ [s.pair Reg.TB_RELOAD_L Reg.TB_RELOAD_H]

/-- The member's own digest (R234). -/
def State.ensDigest (s : State) : Nat := (Config.digest s.ensConfig).toNat

/-- The lowest configured port whose PLCA is active: the one a member follows (R227). -/
def State.followPort (s : State) : Option Nat := s.ensPorts.find? fun n => s.enpOn n && s.bit (Reg.ENP_STATUS n) 1

/-! ### Sending (R230, R241) -/

/-- Big-endian bytes of a number. -/
def bytesBE (n v : Nat) : List Nat := (bytesLE n v).reverse

/-- A frame waits at a port. -/
def State.queueFrame (s : State) (n kind : Nat) (body : List Nat) (until_ : Option Nat) : State :=
  s.setEnp n { s.enp n with queue := (s.enp n).queue ++ [{ kind := kind, body := body, until_ := until_ }] }

/-- The protocol version of the frames a member sends: the running version, or its lowest before it knows one. -/
def State.sendVer (s : State) : Nat := if s.fld Reg.ENS_VER 16 8 = 0 then s.fld Reg.ENS_VER 0 8 else s.fld Reg.ENS_VER 16 8

/-- A Nelvi frame goes out on every configured port, with one SEQ (R230). -/
def State.sendNelvi (s : State) (kind flags : Nat) (body : List Nat) (until_ : Option Nat) : State :=
  let hdr := [s.sendVer % 256, kind % 256, s.ensIdx, flags % 256] ++ bytesBE 4 (s.fld Reg.ENS_TERM 0 20)
    ++ bytesBE 4 (s.regN Reg.ENS_ID) ++ bytesBE 2 body.length ++ bytesBE 2 s.ens.sendSeq
  let s := { s with ens := { s.ens with sendSeq := (s.ens.sendSeq + 1) % 65536 } }
  s.ensPorts.foldl (fun s n => s.queueFrame n kind (hdr ++ body) until_) s

/-- LASTGASP on every configured port (R243). -/
def State.sendLastgasp (s : State) (cause : Nat) : State :=
  if s.bit Reg.ENS_CFG 0 ∧ s.mode ≠ Mode.boot then s.sendNelvi 8 0 [cause % 256] none else s

/-- The ALIVE mask. -/
def State.aliveMask (s : State) : Nat := s.fld Reg.ENS_STATUS 16 16

/-- HELLO (R230, R232). -/
def State.sendHello (s : State) : State :=
  let me := s.ensIdx
  s.sendNelvi 1 0 (bytesBE 8 Config.serial ++ [s.fld (Reg.ENS_MPRIO me) 0 8, s.fld Reg.ENS_VER 0 8, s.fld Reg.ENS_VER 8 8,
    s.fld Reg.ENS_STATUS 0 3] ++ bytesBE 32 s.ensDigest) none

/-- Members of the table in use. -/
def State.ensPresent (s : State) (m : Nat) : Bool := decide (m < 16) && s.bit (Reg.ENS_MPRIO m) 8

/-- A member ranks before another by (priority, serial) (R232). -/
def State.ranksBefore (s : State) (a b : Nat) : Bool :=
  let p (m : Nat) : Nat := s.fld (Reg.ENS_MPRIO m) 0 8 * 2 ^ 64 + s.pair (Reg.ENS_MSERIAL_L m) (Reg.ENS_MSERIAL_H m)
  decide (p a < p b)

/-- A member is alive; this one is while it runs. -/
def State.ensAlive (s : State) (m : Nat) : Bool :=
  s.ensPresent m && (decide (m = s.ensIdx) || !(s.member m).gone)

/-- Puts a member where its rank wants it. -/
def State.insertMember (s : State) (m : Nat) : List Nat → List Nat
  | [] => [m]
  | a :: r => if s.ranksBefore m a then m :: a :: r else a :: s.insertMember m r

/-- The alive members by rank. -/
def State.aliveByRank (s : State) : List Nat :=
  ((List.range 16).filter s.ensAlive).foldl (fun l m => s.insertMember m l) []

/-- The versions of a member. -/
def State.versions (s : State) (m : Nat) : Nat × Nat :=
  if m = s.ensIdx then (s.fld Reg.ENS_VER 0 8, s.fld Reg.ENS_VER 8 8) else ((s.member m).vmin, (s.member m).vmax)

/-- The running version: the leader's range narrowed by each alive member's range that overlaps it (R234). -/
def State.runVersion (s : State) : Nat :=
  (s.aliveByRank.foldl (fun (r : Nat × Nat) m =>
    let v := s.versions m
    let n := (max r.1 v.1, min r.2 v.2)
    if n.1 ≤ n.2 then n else r) (s.versions s.ensIdx)).1

/-- HEARTBEAT (R230, R232); a strobe calibration asked for is announced in it, at least 4 × HBPER ahead (R240). -/
def State.sendHeartbeat (s : State) : State :=
  let s := s.setFld Reg.ENS_VER 16 8 s.runVersion
  let s := if s.ens.calReq then
      let t := s.plus s.tb.now (4 * s.hbTicks * 16 + (Config.freeWord s.fresh).toNat)
      { s.nextFresh with ens := { s.ens with calReq := false, calAt := some t, calPulsed := false, calSeen := [] } }
    else s
  let cal := match s.ens.calAt with | some t => t | none => 0
  s.sendNelvi 7 0 ([s.fld Reg.ENS_VER 16 8] ++ bytesBE 2 s.aliveMask ++ bytesBE 32 s.ensDigest ++ bytesBE 8 cal) none

/-! ### Membership (R232-R234) -/

/-- The phase of the leader is tracked no longer (R228). -/
def State.dropPhase (s : State) : State := { s with ens := { s.ens with phase := none } }.setBit Reg.ENS_STATUS 4 false

/-- The phase tracked is that of the port this member follows; where that changes, tracking starts anew (R227, R228). -/
def State.updPhase (s : State) : State :=
  match s.ens.phase with
  | some (n, _) => if s.followPort = some n then s else s.dropPhase
  | none => s

/-- ENS_STATUS.LEADER; the phase of another leader is another one (R228). -/
def State.setLeader (s : State) (b : Nat) : State :=
  (if s.fld Reg.ENS_STATUS 5 4 = b then s else s.dropPhase).setFld Reg.ENS_STATUS 5 4 b

/-- ENS_STATUS.STATE; a change raises 0x3420 (R274). Only a member tracks the leader's phase (R228, R234). -/
def State.setEnst (s : State) (v : Nat) : State :=
  let s := if v = 2 then s else s.dropPhase
  if s.fld Reg.ENS_STATUS 0 3 = v then s else ((s.setFld Reg.ENS_STATUS 0 3 v).raise 0x3420).updTvalid

/-- A launch is held and undecided by its leader. -/
def Launch.waits (l : Launch) : Bool := l.mine && !l.commit && !l.cancel

/-- D of a launch (R237). -/
def State.deadlineD (s : State) (l : Launch) : Nat := s.minus l.time (s.ensGuard * 16)

/-- A of a launch (R237). -/
def State.deadlineA (s : State) (l : Launch) : Nat := s.minus (s.deadlineD l) (s.ensBudget * 16)

/-- Replaces a cached launch. -/
def State.putLaunch (s : State) (l : Launch) : State :=
  { s with ens := { s.ens with cache := s.ens.cache.map fun x => if x.id = l.id then l else x } }

/-- The cached launch of an ID. -/
def State.launch (s : State) (id : Nat) : Option Launch := s.ens.cache.find? fun l => decide (l.id = id)

/-- ENS_LSTAT shows the last launch issued. -/
def State.setLstat (s : State) (id lo n v : Nat) : State :=
  if s.regN Reg.ENS_LID = id then s.setFld Reg.ENS_LSTAT lo n v else s

/-- The leader cancels a launch (R237). -/
def State.cancelLaunch (s : State) (l : Launch) : State :=
  ((s.putLaunch { l with cancel := true }).setLstat l.id 16 3 3).sendNelvi 6 0 (bytesBE 4 l.id) (some (s.deadlineD l))

/-- The leader commits a launch of its term whose participants have all acknowledged it (R233, R237). -/
def State.tryCommit (s : State) (id : Nat) : State :=
  match s.launch id with
  | none => s
  | some l =>
    if l.waits ∧ l.id / 4096 = s.fld Reg.ENS_TERM 0 20 ∧ l.parts.all l.acked.contains then
      ((s.putLaunch { l with commit := true }).setLstat l.id 16 3 2).sendNelvi 5 (b2n l.strobe) (bytesBE 4 l.id)
        (some (s.deadlineD l))
    else s

/-- A leader that loses a participant before A cancels its launch (R243). -/
def State.dropParticipant (s : State) (m : Nat) : State :=
  (s.ens.cache.filter fun l => l.waits && l.parts.contains m && !s.reached (s.deadlineA l)).foldl State.cancelLaunch s

/-- The ALIVE mask follows the members. -/
def State.updAlive (s : State) : State :=
  s.setFld Reg.ENS_STATUS 16 16 (((List.range 16).map fun m => b2n (s.ensAlive m) * 2 ^ m).foldl (· + ·) 0)

/-- Some other alive member claims the leadership. -/
def State.claimed (s : State) : Bool :=
  (List.range 16).any fun m => decide (m ≠ s.ensIdx) && s.ensAlive m && (s.member m).claims.isSome

/-- This member takes the leadership with a new term and says so (R232). -/
def State.takeLead (s : State) : State :=
  let s := s.setFld Reg.ENS_TERM 0 20 (s.fld Reg.ENS_TERM 0 20 + 1)
  let s := { s with ens := { s.ens with counter := 0, calDone := false, measured := true, offset := 0 } }
  ((s.setN Reg.ENS_OFFSET 0).setEnst 3).sendHeartbeat

/-- The leader is the alive member of the lowest rank (R232). -/
def State.elect (s : State) : State :=
  let s := s.updAlive
  match s.aliveByRank with
  | [] => s
  | b :: _ =>
    let s := s.setLeader b
    let lead := decide (s.fld Reg.ENS_STATUS 0 3 = 3)
    if b = s.ensIdx then (if lead ∨ s.claimed then s else s.takeLead)
    else if lead then s.setEnst 2
    else s

/-- A member stops being alive (R232); the phase of a leader that is gone is tracked no longer (R228). -/
def State.loseMember (s : State) (m : Nat) : State :=
  let s := if s.fld Reg.ENS_STATUS 5 4 = m then s.dropPhase else s
  ((s.setMember m { s.member m with gone := true, claims := none }).dropParticipant m).elect

/-- What the leader's digest and running version make of this member (R234). A HEARTBEAT lets it back in. -/
def State.judgeMember (s : State) (digest : Nat) (run : Option Nat) : State :=
  if digest ≠ s.ensDigest then
    let s := if s.fld Reg.ENS_STATUS 0 3 = 4 then s else s.pgErr 0xC0 17
    s.setEnst 4
  else match run with
    | none => s
    | some v =>
      let s := s.setFld Reg.ENS_VER 16 8 v
      if v < s.fld Reg.ENS_VER 0 8 ∨ s.fld Reg.ENS_VER 8 8 < v then
        let s := if s.fld Reg.ENS_STATUS 0 3 = 5 then s else s.pgErr 0xC0 18
        s.setEnst 5
      else s.setEnst 2

/-- The member whose HEARTBEAT, digest and time this one follows. -/
def State.isLeader (s : State) (m : Nat) : Bool :=
  decide (s.fld Reg.ENS_STATUS 0 3 ≠ 3) && decide (s.fld Reg.ENS_STATUS 5 4 = m) && s.ensAlive m

/-! ### The offset to the leader (R227-R229) -/

/-- A gPTP frame is taken: the port runs and steward pair 1 is up. -/
def State.gptpIn (s : State) (n : Nat) : Bool := s.ensUp && s.enpOn n && s.ensPorts.contains n && decide (s.mode ≠ Mode.doze)

/-- The leader's Sync on the port this member follows. -/
def State.follows (s : State) (port sender : Nat) : Bool :=
  s.gptpIn port && s.isLeader sender && decide (s.fld Reg.ENS_STATUS 0 3 < 4) && s.followPort == some port

/-- The signed difference of two times on the circle. -/
def State.sdiff (s : State) (a b : Nat) : Int :=
  let d := s.minus a b
  if 2 * d < s.circle then d else (d : Int) - s.circle

/-- The offset nearest an expected one with the residue modulo 1,200 crumbs of the stamped transition less the line delay
(R228). -/
def phaseResult (off : Int) (rx : Nat) : Int :=
  let r := ((rx : Int) - off) % 1200
  off + (if r < 600 then r else r - 1200)

/-- A time base that is not valid is loaded from the leader's time and validated (R229, R35). -/
def State.joinTime (s : State) (off : Int) : State :=
  let t := if 0 ≤ off then s.minus s.tb.now off.toNat else s.plus s.tb.now (-off).toNat
  let s := { s.setStepRem 0 with tb := { s.tb with now := t, slewTicks := 0 } }
  ({ s with ens := { s.ens with offset := 0 } }.setN Reg.ENS_OFFSET 0).tbValidate

/-- A measured offset steers the follower (R228, R229): not where it is out of reach, else by a slew with DIV 16 and
a trim of the servo's own. -/
def State.steer (s : State) (off : Int) : State :=
  if s.tbValid ∧ 1048576 < off.natAbs then s.pgErr 0xC0 19
  else if s.fld Reg.TB_CTRL 0 2 ≠ 1 ∨ s.coarse then s
  else if s.tbValid = false then s.joinTime off
  else
    let was := s.stepRem
    let s := ((s.setFld Reg.TB_SLEW 0 16 16).setStepRem (-off)).setN Reg.TB_TRIM ((Config.freeWord s.fresh).toNat % 2 ^ 28)
    let s := s.nextFresh
    if was = 0 then { s with tb := { s.tb with slewTicks := 0 } } else if off = 0 then s.raise 0x3400 else s

/-- A new offset of the port this member follows: shown, and tracked by its phase while the gPTP estimate lies within 600 crumbs of
it; it steers the time base, and what is still to be slewed is expected to go (R228, R229). -/
def State.takeOffset (s : State) (port : Nat) (gptp off : Int) : State :=
  let near := decide ((gptp - off).natAbs ≤ 600)
  let v := if near then off else gptp
  let s := { s with ens := { s.ens with measured := true, offset := v } }
  let s := ((s.setN Reg.ENS_OFFSET (unsigned 32 v)).setBit Reg.ENS_STATUS 4 near).steer v
  let left := s.stepRem
  { s with ens := { s.ens with phase := if near then some (port, s.ens.offset + left) else none,
                               gptp := gptp + s.ens.offset - v + left } }.updTvalid

/-- A stamped transition of a frame of the leader moves the tracked phase (R228). -/
def State.leaderEdge (s : State) (port sender stamp : Nat) : State :=
  if s.follows port sender = false then s
  else match s.ens.phase with
    | some (n, ph) =>
      if n = port then
        let left := s.stepRem
        let rx := s.minus (stamp % s.circle) (s.fld (Reg.ENP_PDELAY port) 0 24)
        s.takeOffset port (s.ens.gptp - left) (phaseResult (ph - left) rx)
      else s
    | none => s

/-! ### Receiving (R226, R231) -/

/-- A frame is counted as another's (R226). -/
def State.rxOther (s : State) (n : Nat) : State := s.incSat (Reg.ENP_RXOTHER n) 0 32

/-- A Nelvi frame of the ensemble that R226 lets in; `free` frames are not bound to the running version as this member knows
it: a HELLO, and a HEARTBEAT whose VER is the running version it announces (R234, log entry 30). -/
def State.nelviFits (s : State) (h : NelviHeader) (free : Bool) : Bool :=
  h.macOk && decide (h.ensemble = s.regN Reg.ENS_ID) && s.ensPresent h.sender && decide (h.sender ≠ s.ensIdx)
    && (free || (let r := s.fld Reg.ENS_VER 16 8
                 if r = 0 then decide (s.fld Reg.ENS_VER 0 8 ≤ h.ver ∧ h.ver ≤ s.fld Reg.ENS_VER 8 8) else decide (h.ver = r)))

/-- The SEQ of a frame is newer than the last one (R231). -/
def newerSeq (last : Option Nat) (q : Nat) : Bool :=
  match last with
  | none => true
  | some l =>
    let d := (q % 65536 + 65536 - l) % 65536
    decide (1 ≤ d ∧ d < 32768)

/-- The sender has been silent for 3 × HBPER (R231, R232). -/
def State.silent (s : State) (m : Nat) : Bool :=
  match (s.member m).lastTick with
  | none => true
  | some t => decide (t + 3 * s.hbTicks ≤ s.tick)

/-- What every Nelvi frame meets before its own effect: the port, DOZE (R329), R226; the phase of the leader's transitions
(R228); R231; then the sender is alive and the newest term is kept (R232, R233). -/
def State.nelvi (s : State) (h : NelviHeader) (free isHello : Bool) (f : State → State) : State :=
  if s.bit Reg.ENS_CFG 0 = false ∨ s.enpOn h.port = false ∨ s.ensPorts.contains h.port = false
    ∨ s.mode = Mode.off ∨ s.mode = Mode.boot then s
  else if s.nelviFits h free = false then (if s.mode = Mode.doze then s else s.rxOther h.port)
  else if (s.mode = Mode.doze ∨ s.pwr.entering) ∧ s.pwr.wake = false then
    if bitAt (s.fld Reg.PWR_WAKE 0 4) h.port then s.startWake 1 h.port else s
  else if s.ensUp = false then s
  else
    let s := s.leaderEdge h.port h.sender h.stamp
    let k := s.member h.sender
    if newerSeq k.seq h.seq = false ∧ ¬ (isHello ∧ s.silent h.sender) then s.incSat Reg.ENS_DUP 0 32
    else
      let s := s.setMember h.sender { k with lastTick := some s.tick, gone := false, seq := some (h.seq % 65536) }
      let old := s.fld Reg.ENS_TERM 0 20
      let s := s.setFld Reg.ENS_TERM 0 20 (max old (h.term % 2 ^ 20))
      (f s).elect

/-- HELLO: the sender's versions, and whether it claims the leadership; its table row holds serial and priority. -/
def execHello (hdr : NelviHeader) (_serial _prio vmin vmax state digest : Nat) (s : State) :
    Host.Outcome State Fault Refusal :=
  onUnit (okEnp hdr.port) (s.nelvi hdr true true (fun s =>
    let k := s.member hdr.sender
    let s := s.setMember hdr.sender { k with vmin := vmin, vmax := vmax, claims := if state = 3 then some hdr.term else none }
    if s.isLeader hdr.sender then s.judgeMember digest none else s))

/-- DIGEST (R234). -/
def execDigest (hdr : NelviHeader) (digest _gen : Nat) (s : State) : Host.Outcome State Fault Refusal :=
  onUnit (okEnp hdr.port) (s.nelvi hdr false false (fun s =>
    if s.isLeader hdr.sender then s.judgeMember digest none else s))

/-- A HEARTBEAT claims the leadership for its term. Of two that claim one term the one of the higher rank steps back
(R233); from the leader it judges this member (R234) and announces a strobe calibration (R240). -/
def State.heartbeat (s : State) (h : NelviHeader) (term0 run digest cal : Nat) : State :=
  let s := s.setMember h.sender { s.member h.sender with claims := some (h.term % 2 ^ 20) }
  let s := if s.fld Reg.ENS_STATUS 0 3 = 3 ∧
      (term0 < h.term % 2 ^ 20 ∨ (term0 = h.term % 2 ^ 20 ∧ s.ranksBefore h.sender s.ensIdx)) then s.setEnst 2 else s
  let s := if s.fld Reg.ENS_STATUS 0 3 = 3 then s
    else s.setLeader ((s.updAlive.aliveByRank).headD s.ensIdx)
  if s.isLeader h.sender then
    let s := s.judgeMember digest (some run)
    if cal = 0 ∨ s.ens.calAt = some cal then s
    else { s with ens := { s.ens with calAt := some cal, calPulsed := false, calSeen := [] } }
  else s

/-- HEARTBEAT (R232). -/
def execHeartbeat (hdr : NelviHeader) (run _alive digest cal : Nat) (s : State) : Host.Outcome State Fault Refusal :=
  let term0 := s.fld Reg.ENS_TERM 0 20
  onUnit (okEnp hdr.port) (s.nelvi hdr (decide (hdr.ver = run)) false (fun s => s.heartbeat hdr term0 run digest cal))

/-- LASTGASP ends the sender's aliveness at once (R243). -/
def execLastgasp (hdr : NelviHeader) (_cause : Nat) (s : State) : Host.Outcome State Fault Refusal :=
  onUnit (okEnp hdr.port) (s.nelvi hdr false false (fun s => s.loseMember hdr.sender))

/-- A frame that R226 discards: 0 damaged, 1 another EtherType, 2 another ensemble, 3 a reserved kind or version,
4 gPTP of another domain or of no member (not counted). -/
def execForeignFrame (port why : Nat) (s : State) : Host.Outcome State Fault Refusal :=
  onUnit (okEnp port) (if s.enpOn port = false ∨ s.mode = Mode.off ∨ s.mode = Mode.doze then s
    else if why = 0 then s.incSat (Reg.ENP_RXERR port) 0 32
    else if why < 4 then s.rxOther port else s)

/-- MEMBER_TIMEOUT (R232). -/
def execMemberTimeout (member : Nat) (s : State) : Host.Outcome State Fault Refusal :=
  onUnit (okMember member) (if s.ensUp ∧ member ≠ s.ensIdx ∧ (s.member member).gone = false ∧ s.silent member then
    s.loseMember member else s)

/-- An interval has passed since the tick of the last event. -/
def State.elapsed (s : State) (last : Option Nat) (ticks : Nat) : Bool :=
  match last with
  | none => true
  | some t => decide (t + ticks ≤ s.tick)

/-- Every HBPER a member sends HELLO and the leader HEARTBEAT (R232); an election comes first, where one is due. -/
def State.hbTimer (s : State) : State :=
  if s.ensUp = false ∨ s.ensPresent s.ensIdx = false ∨ s.elapsed s.ens.hbAt s.hbTicks = false then s
  else
    let s := { s with ens := { s.ens with hbAt := some s.tick } }.elect.sendHello
    if s.fld Reg.ENS_STATUS 0 3 = 3 then s.sendHeartbeat else s

/-- HBPER_TIMER (R232). -/
def execHbperTimer (s : State) : Host.Outcome State Fault Refusal := .next s.hbTimer

/-! ### gPTP (R227-R229) -/

/-- The kinds of gPTP frames in a port's queue. -/
abbrev kSync : Nat := 0x100
abbrev kFollowUp : Nat := 0x101
abbrev kPdReq : Nat := 0x102
abbrev kPdResp : Nat := 0x103
abbrev kPdRespFu : Nat := 0x104
abbrev kAnnounce : Nat := 0x105

/-- The sync interval, 125 ms, and the pdelay interval, 1 s, in ticks (R227). -/
abbrev syncTicks : Nat := 187500000
abbrev pdelayTicks : Nat := 1500000000

/-- A port sends a Pdelay_Req on the pdelay interval, and the leader's port Sync and Announce on the sync interval
(R227). -/
def State.gptpInterval (s : State) (n : Nat) (pdelay : Bool) : State :=
  let k := s.enp n
  if s.ensUp = false ∨ s.enpOn n = false ∨ s.ensPorts.contains n = false then s
  else if pdelay then
    (if s.elapsed k.pdAt pdelayTicks then (s.setEnp n { k with pdAt := some s.tick }).queueFrame n kPdReq [] none else s)
  else if s.fld Reg.ENS_STATUS 0 3 = 3 ∧ s.elapsed k.syncAt syncTicks then
    ((s.setEnp n { k with syncAt := some s.tick }).queueFrame n kSync [] none).queueFrame n kAnnounce [] none
  else s

/-- GPTP_INTERVAL (R227). -/
def execGptpInterval (port : Nat) (pdelay : Bool) (s : State) : Host.Outcome State Fault Refusal :=
  onUnit (okEnp port) (s.gptpInterval port pdelay)

/-- SYNC (R227): stamped. -/
def execSync (port sender stamp : Nat) (s : State) : Host.Outcome State Fault Refusal :=
  onUnit (okEnp port) (if s.follows port sender then { s with ens := { s.ens with syncT := some (stamp % s.circle) } } else s)

/-- FOLLOW_UP (R227): the offset to the leader, own time less leader's time. The gPTP estimate chooses the cycle where no phase is
tracked; a tracked one is followed from where it stands (R228). -/
def State.followUp (s : State) (port origin : Nat) : State :=
  match s.ens.syncT with
  | none => s
  | some rx =>
    let d := s.fld (Reg.ENP_PDELAY port) 0 24
    let gptp := s.sdiff rx (s.plus origin d)
    let near := match s.ens.phase with
      | some (n, ph) => if n = port then ph - s.stepRem else gptp
      | none => gptp
    let s := { s with ens := { s.ens with syncT := none } }
    s.takeOffset port gptp (phaseResult near (s.minus rx d))

/-- FOLLOW_UP (R227). -/
def execFollowUp (port sender origin : Nat) (s : State) : Host.Outcome State Fault Refusal :=
  onUnit (okEnp port) (if s.follows port sender then s.followUp port origin else s)

/-- PDELAY_REQ (R227): answered with the stamp of its arrival. -/
def execPdelayReq (port stamp : Nat) (s : State) : Host.Outcome State Fault Refusal :=
  onUnit (okEnp port) (if s.gptpIn port then s.queueFrame port kPdResp [stamp] none else s)

/-- A pdelay answer of the leader, whose line delay a port measures (R227, R245). -/
def State.pdelayIn (s : State) (h : GptpHeader) : Bool := s.gptpIn h.port && s.isLeader h.sender

/-- PDELAY_RESP (R227): the responder's arrival stamp and the stamp of this frame. -/
def execPdelayResp (hdr : GptpHeader) (t2 t4 : Nat) (s : State) : Host.Outcome State Fault Refusal :=
  onUnit (okEnp hdr.port) (if s.pdelayIn hdr then s.setEnp hdr.port { s.enp hdr.port with pdT2 := t2, pdT4 := t4 } else s)

/-- PDELAY_RESP_FOLLOW_UP (R227): half of the round trip less the responder's turn. -/
def execPdelayRespFollowUp (hdr : GptpHeader) (t3 : Nat) (s : State) : Host.Outcome State Fault Refusal :=
  onUnit (okEnp hdr.port) (if s.pdelayIn hdr then
    let e := s.enp hdr.port
    s.setFld (Reg.ENP_PDELAY hdr.port) 0 24 ((s.minus e.pdT4 e.pdT1 - s.minus t3 e.pdT2) / 2)
  else s)

/-- ANNOUNCE (R227): Nelvi leadership takes the place of the best master clock algorithm, so nothing changes. -/
def execAnnounce (port _sender : Nat) (s : State) : Host.Outcome State Fault Refusal := onUnit (okEnp port) s

/-! ### Transmission and PLCA (R226, R241) -/

/-- The head of a port's queue leaves it. -/
def State.popFrame (s : State) (n : Nat) : State := s.setEnp n { s.enp n with queue := (s.enp n).queue.tail }

/-- The time at which a frame sent now starts: the leader starts every frame on a multiple of 2,400 crumbs (R228). -/
def State.frameStart (s : State) : Nat :=
  if s.fld Reg.ENS_STATUS 0 3 ≠ 3 then s.tb.now
  else
    let t := (s.tb.now + 2399) / 2400 * 2400
    if t < s.circle then t else 0

/-- A frame as the segment sees it: a Nelvi frame to ENS_DMAC from the port's MAC with EtherType ENS_ETYPE (R230), a gPTP
message of ENS_ETYPE.DOMAIN (R227). -/
def State.asSent (s : State) (n start : Nat) (f : TxFrame) : Out :=
  if 0x100 ≤ f.kind then .gptp n start (s.fld Reg.ENS_ETYPE 16 8) f.kind f.body
  else .frame n start (s.pair Reg.ENS_DMAC_L Reg.ENS_DMAC_H % 2 ^ 48) (s.pair (Reg.ENP_MAC_L n) (Reg.ENP_MAC_H n) % 2 ^ 48)
    (s.fld Reg.ENS_ETYPE 0 16) f.body

/-- A frame has been sent: the frames of gPTP that follow its transmit stamp (R227). -/
def State.sentFrame (s : State) (n : Nat) (f : TxFrame) : State :=
  let t := s.frameStart
  let s := (s.popFrame n).send (s.asSent n t f)
  if f.kind = kSync then s.queueFrame n kFollowUp [t] none
  else if f.kind = kPdResp then s.queueFrame n kPdRespFu [t] none
  else if f.kind = kPdReq then s.setEnp n { s.enp n with pdT1 := t }
  else s

/-- A port's transmit opportunity, at which its frame is sent, collides or is missed: retries end at the frame's deadline or
after RETRY cycles (R226, R241). -/
def State.transmit (s : State) (n : Nat) (outcome : TxOutcome) : State :=
  match (s.enp n).queue with
  | [] => s
  | f :: rest =>
    let expired := match f.until_ with | some t => s.reached t | none => false
    if s.enpOn n = false ∨ s.mode = Mode.off ∨ s.mode = Mode.doze ∨ s.pairUp 1 = false then s
    else if expired then (s.popFrame n).incSat (Reg.ENP_DROP n) 0 32
    else if outcome ≠ .sent then
      let s := if outcome = .collided then s.incSat (Reg.ENP_COLL n) 0 32 else s
      if s.fld Reg.ENS_CFG 12 2 ≤ f.tries then (s.popFrame n).incSat (Reg.ENP_DROP n) 0 32
      else s.setEnp n { s.enp n with queue := { f with tries := f.tries + 1 } :: rest }
    else s.sentFrame n f

/-- FRAME_TRANSMIT (R241). -/
def execFrameTransmit (port : Nat) (outcome : TxOutcome) (s : State) : Host.Outcome State Fault Refusal :=
  onUnit (okEnp port) (s.transmit port outcome)

/-- No BEACON for 8 × W ticks: the port falls back to CSMA/CD. -/
def State.losePlca (s : State) (n : Nat) : State :=
  match (s.enp n).lastBeacon with
  | none => s
  | some t =>
    if s.enpOn n = false ∨ s.bit (Reg.ENP_CFG n) 1 = false ∨ s.fld (Reg.ENP_CFG n) 8 8 = 0
      ∨ s.mode = Mode.off ∨ s.mode = Mode.doze ∨ s.tick < t + 8 * s.wcyc then s
    else
      let s := (s.setFld (Reg.ENP_STATUS n) 1 2 0).updPhase.pgErr (0xC1 + n) 16
      (s.setEnp n { s.enp n with lastBeacon := none }).raise (0x3424 + n)

/-- PLCA_LOST (R226). -/
def execPlcaLost (port : Nat) (s : State) : Host.Outcome State Fault Refusal := onUnit (okEnp port) (s.losePlca port)

/-- PLCA is active on a port; its coordinator, the node of ID 0, sends the BEACON itself (R225, R226). -/
def State.beacon (s : State) (n : Nat) : State :=
  if s.enpOn n ∧ s.bit (Reg.ENP_CFG n) 1 ∧ s.mode ≠ Mode.off ∧ s.mode ≠ Mode.doze then
    let s := (s.setFld (Reg.ENP_STATUS n) 1 2 3).updPhase.setEnp n { s.enp n with lastBeacon := some s.tick }
    if s.fld (Reg.ENP_CFG n) 8 8 = 0 then s.send (.beacon n) else s
  else s

/-- BEACON (R226): PLCA is active again. -/
def execBeacon (port : Nat) (s : State) : Host.Outcome State Fault Refusal := onUnit (okEnp port) (s.beacon port)

/-! ### Launches (R235-R242) -/

/-- A record's 20 bytes in the slab (R235). -/
def ofRecord (v : Nat) : LaunchRec :=
  { member := bits v 0 4, hold := bitAt v 4, lq := bits v 8 6, act := ofEntry (v / 2 ^ 32) }

/-- The bytes of a record in a PREPARE. -/
def recordBytes (r : LaunchRec) : List Nat := [r.member % 16 + b2n r.hold * 16, r.lq % 64, 0, 0] ++ bytesLE 16 (toEntry r.act)

/-- The participants of a launch (R236). -/
def State.participants (s : State) (recs : List LaunchRec) (strobe : Bool) : List Nat :=
  let named := recs.map fun r => r.member % 16
  (List.range 16).filter fun m => named.contains m || (strobe && s.ensAlive m)

/-- The queue of a launch-queue entry, where it is valid and a submit queue stands there. -/
def State.launchQueue (s : State) (lq : Nat) : Option Nat :=
  let k := Reg.ENS_LQ (lq % 64)
  let q := s.fld k 0 20
  if s.bit k 20 ∧ (s.queue q).state ≠ QState.free ∧ (s.queue q).ttype ≠ 0 then some q else none

/-- Check 3 of R236 for one record of this member. -/
def State.recordFits (s : State) (r : LaunchRec) : Bool :=
  match s.launchQueue r.lq with
  | none => false
  | some q =>
    let d := s.queue q
    s.entryFits r.act d.ttype d.target && !(decide (r.act.op = 0x0A) && decide (d.cls = 1)) && decide (r.act.time < 2 ^ 40)

/-- Check 4 of R236. -/
def State.leadFits (s : State) (r : LaunchRec) : Bool :=
  match s.launchQueue r.lq with
  | none => true
  | some q => match (s.queue q).contract with
    | some k => decide ((s.queue q).cls ≠ 1) || decide (k.lead + 16384 ≤ s.ensGuard * 16)
    | none => true

/-- The ACK of a PREPARE: code and record index (R236). -/
def State.judgePrepare (s : State) (t : Nat) (recs : List LaunchRec) : Nat × Nat :=
  let st := s.fld Reg.ENS_STATUS 0 3
  let mine := (recs.zip (List.range recs.length)).filter fun x => decide (x.1.member % 16 = s.ensIdx)
  if st = 4 then (Code.ensembleMismatch, 0)
  else if st = 5 then (Code.versionExcluded, 0)
  else if s.bit Reg.ENS_STATUS 3 = false then (Code.timeInvalid, 0)
  else match mine.find? fun x => !s.recordFits x.1 with
    | some x => (Code.rejectClass, x.2)
    | none => match mine.find? fun x => !s.leadFits x.1 with
      | some x => (Code.rejectLate, x.2)
      | none => if s.ahead t ((s.ensGuard + s.ensBudget) * 16) then (Code.ok, 0) else (Code.rejectLate, 0)

/-- The ACK frame of a cached launch; its retries end at A (R241). -/
def State.sendAck (s : State) (l : Launch) : State :=
  s.sendNelvi 4 0 (bytesBE 4 l.id ++ [l.ack % 256, l.ackRec % 256]) (some (s.deadlineA l))

/-- The last 1,024 launch IDs are cached (R242). -/
def State.cacheLaunch (s : State) (l : Launch) : State :=
  let c := s.ens.cache ++ [l]
  { s with ens := { s.ens with cache := c.drop (c.length - 1024) } }

/-- A PREPARE that is not stale (R236, R242). -/
def State.prepare (s : State) (strobe : Bool) (id t : Nat) (recs : List LaunchRec) : State :=
  match s.launch id with
  | some l => s.sendAck l
  | none =>
    let parts := s.participants recs strobe
    if parts.contains s.ensIdx = false ∧ s.fld Reg.ENS_STATUS 0 3 < 4 then s
    else
      let a := s.judgePrepare t recs
      let l : Launch := { id := id, time := t % s.circle, strobe := strobe, recs := recs, parts := parts, ack := a.1, ackRec := a.2 }
      (s.cacheLaunch l).sendAck l

/-- A frame of an older term than the newest seen is ignored and counted (R233). -/
def State.fresherTerm (s : State) (h : NelviHeader) (f : State → State) : State :=
  if h.term % 2 ^ 20 < s.fld Reg.ENS_TERM 0 20 then s.incSat Reg.ENS_STALE 0 32 else f s

/-- PREPARE (R236). -/
def execPrepare (hdr : NelviHeader) (id time : Nat) (recs : List LaunchRec) (s : State) : Host.Outcome State Fault Refusal :=
  onUnit (okEnp hdr.port && okLaunch id) (s.nelvi hdr false false (fun s =>
    s.fresherTerm hdr (fun s => s.prepare hdr.strobe id time recs)))

/-- An ACK reaches the leader (R237): after A it is discarded and counted (R241), and only a participant's counts. -/
def State.ackIn (s : State) (m id status : Nat) : State :=
  match s.launch id with
  | none => s
  | some l =>
    if l.mine = false ∨ s.fld Reg.ENS_STATUS 0 3 ≠ 3 then s
    else if s.reached (s.deadlineA l) then s.incSat Reg.ENS_LATE 0 32
    else if l.waits = false ∨ l.parts.contains m = false then s
    else if status ≠ Code.ok then s.cancelLaunch l
    else
      let s := s.putLaunch { l with acked := if l.acked.contains m then l.acked else l.acked ++ [m] }
      (s.setLstat id m 1 1).tryCommit id

/-- ACK (R237). -/
def execAck (hdr : NelviHeader) (id status _record : Nat) (s : State) : Host.Outcome State Fault Refusal :=
  onUnit (okEnp hdr.port && okLaunch id) (s.nelvi hdr false false (fun s => s.ackIn (hdr.sender % 16) id status))

/-- A COMMIT or CANCEL is held until D; after D it is discarded and counted (R238, R241, R242). -/
def State.decisionIn (s : State) (id : Nat) (go : Bool) : State :=
  match s.launch id with
  | none => s
  | some l =>
    if l.mine then s
    else if s.reached (s.deadlineD l) then s.incSat Reg.ENS_LATE 0 32
    else if l.decided.isSome then s
    else s.putLaunch { l with commit := go, cancel := !go }

/-- COMMIT (R238). -/
def execCommit (hdr : NelviHeader) (id : Nat) (s : State) : Host.Outcome State Fault Refusal :=
  onUnit (okEnp hdr.port && okLaunch id) (s.nelvi hdr false false (fun s =>
    s.fresherTerm hdr (fun s => s.decisionIn id true)))

/-- CANCEL (R238); one of an older term is heard too (R233). -/
def execCancel (hdr : NelviHeader) (id : Nat) (s : State) : Host.Outcome State Fault Refusal :=
  onUnit (okEnp hdr.port && okLaunch id) (s.nelvi hdr false false (fun s => s.decisionIn id false))

/-- Bytes of tenant 0's slab from any address on, across the end of a page. -/
def State.readSpan (s : State) (a n : Nat) : Access Nat :=
  let b := a % 2 ^ 26
  let k := min n (65536 - b % 65536)
  match s.slabRead 0 b k 0 with
  | .bad c s => .bad c s
  | .ok v s =>
    if k = n then .ok v s
    else match s.slabRead 0 ((b + k) % 2 ^ 26) (n - k) 0 with
      | .bad c s => .bad c s
      | .ok w s => .ok (v + w * 2 ^ (8 * k)) s

/-- Bytes into tenant 0's slab from any address on. -/
def State.writeSpan (s : State) (a n v : Nat) : Access Unit :=
  let b := a % 2 ^ 26
  let k := min n (65536 - b % 65536)
  match s.slabWrite 0 b k (v % 2 ^ (8 * k)) 0 with
  | .bad c s => .bad c s
  | .ok _ s => if k = n then .ok () s else s.slabWrite 0 ((b + k) % 2 ^ 26) (n - k) (v / 2 ^ (8 * k)) 0

/-- The records of the launch block in tenant 0's slab (R235). -/
def State.readLaunch (s : State) (a : Nat) (n : Nat) : Access (List LaunchRec) :=
  (List.range n).foldl (fun acc i =>
    match acc with
    | .bad c s => .bad c s
    | .ok l s => match s.readSpan (a + 16 + 20 * i) 20 with
      | .bad c s => .bad c s
      | .ok v s => .ok (l ++ [ofRecord v]) s) (.ok [] s)

/-- The code of the last request (R235). -/
def State.launchCode (s : State) (code : Nat) : State := s.setFld Reg.ENS_LCTRL 8 8 code

/-- The launch the leader starts, once its block is read. -/
def State.startLaunch (s : State) (a t : Nat) (strobe : Bool) (recs : List LaunchRec) : State :=
  let n := recs.length
  let dl := s.minus t (s.ensGuard * 16)
  let near (l : Launch) : Bool := l.strobe && decide ((s.sdiff (s.deadlineD l) dl).natAbs ≤ 65536 * 16)
  if s.ensPorts.any fun p => decide (s.fld (Reg.ENP_PLCA p) 16 11 < 50 + 20 * n) then s.launchCode Code.rejectCapacity
  else if strobe ∧ s.ens.cache.any near then s.launchCode Code.rejectCapacity
  else if strobe ∧ s.ens.calDone = false then s.launchCode Code.rejectClass
  else if s.ahead t ((s.ensGuard + 3 * s.ensBudget) * 16) = false then s.launchCode Code.rejectLate
  else
    let id := s.fld Reg.ENS_TERM 0 20 * 4096 + s.ens.counter % 4096
    match s.writeSpan a 4 id with
    | .bad c s => s.launchCode c
    | .ok _ s =>
      let s := { s with ens := { s.ens with counter := s.ens.counter + 1 } }
      let s := ((s.launchCode Code.ok).setN Reg.ENS_LID id).setN Reg.ENS_LSTAT (2 ^ 16)
      let body := bytesBE 4 id ++ bytesBE 8 (t % 2 ^ 60) ++ [b2n strobe, n % 256, 0, 0] ++ recs.flatMap recordBytes
      let parts := s.participants recs strobe
      let ack := if parts.contains s.ensIdx then s.judgePrepare t recs else (Code.ok, 0)
      let l : Launch := { id := id, time := t % s.circle, strobe := strobe, recs := recs, parts := parts,
                          ack := ack.1, ackRec := ack.2, mine := true }
      let s := (s.sendNelvi 3 (b2n strobe) body none).cacheLaunch l
      if parts.contains s.ensIdx then s.ackIn s.ensIdx id ack.1 else s

/-- ENS_LCTRL.GO (R235). -/
def State.launchGo (s : State) : State :=
  let a := s.fld Reg.ENS_LBUF 0 26
  if s.fld Reg.ENS_STATUS 0 3 ≠ 3 then s.launchCode Code.rejectClass
  else match s.readSpan a 16 with
    | .bad c s => s.launchCode c
    | .ok v s =>
      let n := bits v 104 8
      if n = 0 ∨ 64 < n then s.launchCode Code.rejectClass
      else match s.readLaunch a n with
        | .bad c s => s.launchCode c
        | .ok recs s => s.startLaunch a (bits v 32 60) (bitAt v 96) recs

/-- ENS_LCTRL_GO (R235). -/
def execEnsLctrlGo (_value : Nat) (s : State) : Host.Outcome State Fault Refusal := .next (s.pf 0xC0 0xB4 1 State.launchGo)

/-- ACK_DEADLINE (R237): the launches whose A has passed are cancelled. -/
def execAckDeadline (s : State) : Host.Outcome State Fault Refusal :=
  .next (if s.ensUp then
    (s.ens.cache.filter fun l => l.waits && s.reached (s.deadlineA l)).foldl State.cancelLaunch s
  else s)

/-! ### The decision at D (R238) -/

/-- One record is written at its queue's TAIL and submitted as a doorbell of its own; none, or the code that refuses
it. -/
def State.submitRecord (s : State) (t : Nat) (r : LaunchRec) : State × Option Nat :=
  match s.launchQueue r.lq with
  | none => (s, some Code.rejectClass)
  | some q =>
    let d := s.queue q
    match s.slabWrite d.tenant (d.entryAddr d.tail) 16 (toEntry { r.act with time := s.plus t r.act.time }) 0 with
    | .bad c s => (s, some c)
    | .ok _ s =>
      let s := s.doorbell d.tenant q ((d.tail + 1) % d.size)
      if (s.queue q).tail ≠ d.tail ∨ (s.queue q).heldDb.isSome then (s, none)
      else (s, some (s.fld (Reg.TEN_QDB_STAT d.tenant) 0 8))

/-- A record of ENS_LOGQ (R238). -/
def launchRecord (t kind status rec id : Nat) : Nat :=
  t % 2 ^ 60 + kind % 4 * 2 ^ 61 + status % 256 * 2 ^ 64 + rec % 256 * 2 ^ 72 + id % 2 ^ 32 * 2 ^ 80

/-- Submits this member's records of one alternative; answers how many were refused. -/
def State.submitAll (s : State) (l : Launch) (hold : Bool) : State × Nat :=
  ((l.recs.zip (List.range l.recs.length)).filter fun x =>
      decide (x.1.member % 16 = s.ensIdx) && (x.1.hold == hold)).foldl (fun acc x =>
    match acc.1.submitRecord l.time x.1 with
    | (s, none) => (s, acc.2)
    | (s, some c) => (s.logRecord (s.fld Reg.ENS_LOGQ 0 20) (launchRecord l.time 1 c x.2 l.id), acc.2 + 1)) (s, 0)

/-- The member goes: what it holds at D, or for a strobe launch the pulse (R238, R239). -/
def State.launchGoes (s : State) (l : Launch) : Bool :=
  decide (l.ack = Code.ok) && s.bit Reg.ENS_STATUS 3
    && (if l.strobe ∧ l.mine = false then decide (l.seen ≠ []) else l.commit)

/-- A launch is decided (R238); a pulse seen on one enabled pair only is a fault (R239). -/
def State.decideLaunch (s : State) (l : Launch) : State :=
  let go := s.launchGoes l
  let en := bitList 2 (s.fld Reg.ENS_STB 0 2)
  let s := s.putLaunch { l with decided := some go, cancel := l.cancel || (l.mine && !l.commit) }
  let s := if l.strobe ∧ l.seen ≠ [] ∧ en.any (fun k => !l.seen.contains k) then (s.pgErr 0xC0 20).raise 0x3423 else s
  let status := if go then Code.ok else if s.bit Reg.ENS_STATUS 3 = false then Code.timeInvalid else Code.ensembleHold
  let r := s.submitAll l (!go)
  ((r.1).logRecord ((r.1).fld Reg.ENS_LOGQ 0 20) (launchRecord l.time 0 status r.2 l.id)).raise 0x3422

/-- COMMIT_DEADLINE (R238). -/
def execCommitDeadline (id : Nat) (s : State) : Host.Outcome State Fault Refusal :=
  onUnit (okLaunch id) (match s.launch id with
    | none => s
    | some l => if s.ensUp ∧ l.decided = none ∧ l.parts.contains s.ensIdx ∧ s.reached (s.deadlineD l) then s.decideLaunch l else s)

/-! ### Strobes (R239, R240) -/

/-- S of a launch: 1,024 ticks before D. -/
def State.strobeTime (s : State) (l : Launch) : Nat := s.minus (s.deadlineD l) 16384

/-- STROBE_PULSE (R239): a committing leader pulses both pairs at S. -/
def execStrobePulse (s : State) : Host.Outcome State Fault Refusal :=
  .next (match s.ens.cache.find? (fun l => l.mine && l.strobe && l.commit && !l.pulsed && s.reached (s.strobeTime l)) with
    | some l => if s.ensUp then (s.putLaunch { l with pulsed := true }).send (.strobe (s.strobeTime l)) else s
    | none => s)

/-- ENS_STBDLYk as a signed number. -/
def State.strobeDelay (s : State) (k : Nat) : Int := signed 24 (s.fld (Reg.ENS_STBDLY k) 0 24)

/-- The stamp lies in the window of a launch on pair k. -/
def State.inWindow (s : State) (l : Launch) (k stamp : Nat) : Bool :=
  decide ((s.sdiff stamp (s.strobeTime l) - s.strobeDelay k).natAbs ≤ 1024)

/-- A stamped strobe edge: the window of a launch, a calibration, or spurious. -/
def State.strobeIn (s : State) (k stamp : Nat) : State :=
  if s.ensUp = false ∨ bitAt (s.fld Reg.ENS_STB 0 2) k = false then s
  else match s.ens.cache.find? (fun l => l.strobe && decide (l.decided = none) && s.inWindow l k stamp) with
    | some l => s.putLaunch { l with seen := if l.seen.contains k then l.seen else l.seen ++ [k] }
    | none =>
      match s.ens.calAt with
      | none => s.incSat Reg.ENS_STBSPUR 0 32
      | some t =>
        let d := s.sdiff stamp t
        if d < -8388608 ∨ 8388608 ≤ d then s.incSat Reg.ENS_STBSPUR 0 32
        else
          let s := { s with ens := { s.ens with calSeen := if s.ens.calSeen.contains k then s.ens.calSeen else s.ens.calSeen ++ [k] } }
          if s.bit Reg.ENS_STATUS 3 then s.setFld (Reg.ENS_STBDLY k) 0 24 (unsigned 24 d) else s

/-- STROBE_EDGE (R239). -/
def execStrobeEdge (pairk stamp : Nat) (s : State) : Host.Outcome State Fault Refusal :=
  onUnit (okStrobe pairk) (s.strobeIn pairk stamp)

/-- A write of ENS_STB: STBEN is staged; CAL on the leader asks for a calibration (R240). -/
def State.writeStb (s : State) (v : Nat) : State :=
  let s := s.stageWrite Reg.ENS_STB 3 0 v
  if bitAt v 2 ∧ s.fld Reg.ENS_STATUS 0 3 = 3 then { s with ens := { s.ens with calReq := true } } else s

/-- ENS_STB_CAL (R240). -/
def execEnsStbCal (value : Nat) (s : State) : Host.Outcome State Fault Refusal :=
  .next (s.pf 0xC0 0xC4 (Nat.lor value 4) (fun s => s.writeStb (Nat.lor value 4)))

/-- At the calibration time the leader pulses; after that the calibration ends, and a member that saw no pulse sets
STB_FAULT (R240). -/
def State.calibrate (s : State) : State :=
  match s.ens.calAt with
  | none => s
  | some t =>
    if s.ensUp = false ∨ s.reached t = false then s
    else if s.fld Reg.ENS_STATUS 0 3 = 3 ∧ s.ens.calPulsed = false then
      { s with ens := { s.ens with calPulsed := true } }.send (.strobe t)
    else
      let none_ := decide (s.ens.calSeen = [])
      let s := { s with ens := { s.ens with calAt := none, calPulsed := false, calSeen := [], calDone := s.ens.calDone || !none_ } }
      if none_ then (s.pgErr 0xC0 20).raise 0x3423 else s

/-- STROBE_CALIBRATION (R240). -/
def execStrobeCalibration (s : State) : Host.Outcome State Fault Refusal := .next s.calibrate

end Sys2Proof.Machine
end

