-- ==== Sys2Proof/Machine/Mailbox.lean ====
section
/-! DEFINITION. Mailboxes (R304-R311). A message is its sixteen words. -/

namespace Sys2Proof.Machine

open Sys2Proof

/-- The depth of both FIFOs of a function (R304). -/
def State.mboxDepth (s : State) (n : Nat) : Nat := s.quotaOf n 10

/-- A word of a message; a short list reads 0 beyond its end. -/
def msgWord (m : List Nat) (i : Nat) : Nat := m.getD i 0

/-- The mailbox generation of a function (R308). -/
def State.mboxGen (s : State) (n : Nat) : Nat := s.fld (Reg.TEN_MBX_STAT n) 16 8

/-- The message in the outgoing buffer with its stamped fields: FROM, TENANT and GEN (R305). -/
def State.stamped (s : State) (n : Nat) : List Nat :=
  (n % 512 + n % 512 * 2 ^ 16) :: putBits (s.regN (Reg.TEN_MBX_OUT n 1)) 8 8 (s.mboxGen n)
    :: (List.range 14).map fun i => s.regN (Reg.TEN_MBX_OUT n (i + 2))

/-- SEND (R306). -/
def State.mboxSend (s : State) (n : Nat) : State :=
  let f := s.fn n
  if s.mboxDepth n ≤ f.mboxOut.length then s.setFld (Reg.TEN_MBX_STAT n) 8 8 Code.queueFull
  else (s.setFn n { f with mboxOut := f.mboxOut ++ [s.stamped n], mboxHeld := 0 }).setFld (Reg.TEN_MBX_STAT n) 8 8 Code.ok

/-- POP (R306); a POP of an empty FIFO is ignored. -/
def State.mboxPop (s : State) (n : Nat) : State := s.setFn n { s.fn n with mboxIn := (s.fn n).mboxIn.tail }

/-- A write of TEN_MBX_CTRL: the command bits act in ascending order (R385). -/
def State.writeMbxCtrl (s : State) (n v : Nat) : State :=
  let s := if bitAt v 0 then s.mboxSend n else s
  if bitAt v 1 then s.mboxPop n else s

/-- TEN_MBX_CTRL_SEND (R306). -/
def execTenMbxCtrlSend (fn value : Nat) (s : State) : Host.Outcome State Fault Refusal :=
  onUnit (okFn fn) (s.ten fn 0x880 (Nat.lor value 1) (fun s => s.writeMbxCtrl fn (Nat.lor value 1)))

/-- TEN_MBX_CTRL_POP (R306). -/
def execTenMbxCtrlPop (fn value : Nat) (s : State) : Host.Outcome State Fault Refusal :=
  onUnit (okFn fn) (s.ten fn 0x880 (Nat.lor value 2) (fun s => s.writeMbxCtrl fn (Nat.lor value 2)))

/-- At least one steward core serves the mailboxes: not in BOOT, DOZE or OFF, and pair 0 is up (R307, R351). -/
def State.mboxServed (s : State) : Bool :=
  s.pairUp 0 && decide (s.mode ≠ Mode.off) && decide (s.mode ≠ Mode.boot) && decide (s.mode ≠ Mode.doze)

/-- The core of pair 0 that is active (R362). -/
def State.mboxCore (s : State) : Nat := if s.bit Reg.REL_STEWARD 4 then 0 else 1

/-- The header and status words of a message from the steward (R305). -/
def State.fromSteward (s : State) (n kind gen seq word2 : Nat) (body : List Nat) : List Nat :=
  [2 ^ 15 + s.mboxCore + n % 512 * 2 ^ 16, kind % 256 + gen % 256 * 2 ^ 8 + seq % 2 ^ 16 * 2 ^ 16, word2] ++ body

/-- The steward takes the head of the outgoing FIFO and queues its reply, which carries the request's KIND with
bit 7 set, its SEQ and its GEN. -/
def State.answerMbox (s : State) (n : Nat) (m : List Nat) (status : Nat) (body : List Nat) : State :=
  let w := msgWord m 1
  let r := s.fromSteward n (w % 256 + 0x80) (bits w 8 8) (bits w 16 16) (status % 256) body
  s.setFn n { s.fn n with mboxOut := (s.fn n).mboxOut.tail, replies := (s.fn n).replies ++ [r] }

/-- The head of the outgoing FIFO, if the steward serves it now. -/
def State.mboxHead (s : State) (n : Nat) : Option (List Nat) :=
  if s.mboxServed then (s.fn n).mboxOut.head? else none

/-- KIND of a message. -/
def msgKind (m : List Nat) : Nat := msgWord m 1 % 256

/-- PING is answered with the time base in bytes 16 to 23. -/
def State.mboxPing (s : State) (n : Nat) : State :=
  match s.mboxHead n with
  | none => s
  | some m =>
    if msgKind m ≠ 1 then s
    else s.answerMbox n m Code.ok [0, s.tb.now % 2 ^ 32, s.tb.now / 2 ^ 32]

/-- PING (R305). -/
def execPing (fn : Nat) (s : State) : Host.Outcome State Fault Refusal := onUnit (okFn fn) (s.mboxPing fn)

/-- INFO is answered with the firmware version in bytes 12 to 15, the base-set version in bytes 16 to 19 and the
boot slot in byte 20. -/
def State.mboxInfo (s : State) (n : Nat) : State :=
  match s.mboxHead n with
  | none => s
  | some m =>
    if msgKind m ≠ 2 then s
    else s.answerMbox n m Code.ok [s.regN Reg.SEC_VER_FW, s.regN Reg.SEC_VER_BASE, s.fld Reg.SEC_BOOT 0 2]

/-- INFO (R305). -/
def execInfo (fn : Nat) (s : State) : Host.Outcome State Fault Refusal := onUnit (okFn fn) (s.mboxInfo fn)

/-- CUF_CAL.AGE: milliseconds since the last swap of the cuff's twins, saturating (R62, R77). -/
def State.calAge (s : State) (c : Nat) : Nat := min 255 ((s.tick - s.calTick c) / 1500000)

/-- Bytes packed into little-endian words. -/
def packWords : List Nat → List Nat
  | a :: b :: c :: d :: r => ofBytesLE [a, b, c, d] :: packWords r
  | [] => []
  | l => [ofBytesLE l]

/-- CALSTAT is answered with the calibration age of each cuff from byte 12 on: REJECT_CLASS for a count outside 1
to 32 (log entry 14), REJECT_QUOTA where a cuff is not the tenant's. -/
def State.mboxCalstat (s : State) (n : Nat) : State :=
  match s.mboxHead n with
  | none => s
  | some m =>
    let first := bits (msgWord m 2) 0 16
    let k := bits (msgWord m 2) 16 8
    let cs := (List.range k).map (first + ·)
    if msgKind m ≠ 3 then s
    else if k = 0 ∨ 32 < k then s.answerMbox n m Code.rejectClass []
    else if cs.any (fun c => decide (1024 ≤ c) || !s.ownsCuff n c) then s.answerMbox n m Code.rejectQuota []
    else s.answerMbox n m Code.ok (packWords (cs.map s.calAge))

/-- CALSTAT (R305). -/
def execCalstat (fn : Nat) (s : State) : Host.Outcome State Fault Refusal := onUnit (okFn fn) (s.mboxCalstat fn)

/-- A message with a reserved KIND is answered with REJECT_CLASS. -/
def State.mboxReserved (s : State) (n : Nat) : State :=
  match s.mboxHead n with
  | none => s
  | some m => if [1, 2, 3].contains (msgKind m) then s else s.answerMbox n m Code.rejectClass []

/-- RESERVED_KIND_MESSAGE (R305). -/
def execReservedKindMessage (fn : Nat) (s : State) : Host.Outcome State Fault Refusal :=
  onUnit (okFn fn) (s.mboxReserved fn)

/-- A message from the steward enters the incoming FIFO and raises private source 19 (R306). -/
def State.mboxEnter (s : State) (n : Nat) (m : List Nat) : State :=
  (s.setFn n { s.fn n with mboxIn := (s.fn n).mboxIn ++ [m], mboxHeld := 0 }).raisePriv n 19

/-- The oldest reply enters the incoming FIFO when it has room; one of an earlier generation is discarded (R306,
R308). -/
def State.deliverReply (s : State) (n : Nat) : State :=
  match (s.fn n).replies with
  | [] => s
  | m :: rest =>
    if s.mboxServed = false then s
    else if bits (msgWord m 1) 8 8 ≠ s.mboxGen n then s.setFn n { s.fn n with replies := rest }
    else if s.mboxDepth n ≤ (s.fn n).mboxIn.length then s
    else (s.setFn n { s.fn n with replies := rest }).mboxEnter n m

/-- MAILBOX_REPLY (R306). -/
def execMailboxReply (fn : Nat) (s : State) : Host.Outcome State Fault Refusal := onUnit (okFn fn) (s.deliverReply fn)

/-- The steward sends a NOTICE: it enters at once where the FIFO has room and nothing waits before it. -/
def State.sendNotice (s : State) (n cause : Nat) : State :=
  if s.mboxServed = false then s
  else
    let m := s.fromSteward n 0x40 (s.mboxGen n) 0 (cause % 256 * 2 ^ 8) []
    let s := s.setFn n { s.fn n with replies := (s.fn n).replies ++ [m] }
    if (s.fn n).replies.length = 1 then s.deliverReply n else s

/-- A NOTICE to every function (R352). -/
def State.noticeAll (s : State) (cause : Nat) : State := (List.range 512).foldl (fun s n => s.sendNotice n cause) s

/-- NOTICE (R305): causes 0 to 3. -/
def execNotice (fn cause : Nat) (s : State) : Host.Outcome State Fault Refusal :=
  onUnit (okFn fn) (if cause < 4 then s.sendNotice fn cause else s)

/-- MBX_ALIVE_TICK (R307): once in 1,500,000 ticks. -/
def execMbxAliveTick (s : State) : Host.Outcome State Fault Refusal :=
  .next (if s.mboxServed ∧ s.turns.alive + 1500000 ≤ s.tick then
    { s with turns := { s.turns with alive := s.tick } }.incWrap Reg.MBX_ALIVE 0 32
  else s)

end Sys2Proof.Machine
end

