-- ==== Sys2Proof/Machine/Power.lean ====
section
/-! DEFINITION. Modes, the PLL, HALT and DOZE, power fail, reset, temperature and the management port (R312-R338),
and the bank supplies (R48). -/

namespace Sys2Proof.Machine

open Sys2Proof

/-! ### Changing mode (R315, R316, R318, R319) -/

/-- A condition of DEGRADED stands (R318). -/
def State.degradedNow (s : State) : Bool := s.bit Reg.PWR_STATUS 6 || s.bit Reg.PWR_STATUS 7

/-- The mode changes: PREV, and source 0x3438; entry into DEGRADED raises 0x3432. -/
def State.changeMode (s : State) (m : Nat) : State :=
  let s := s.setFld Reg.PWR_STATUS 3 3 s.mode
  let s := { s with pwr := { s.pwr with mode := m } }.raise 0x3438
  if m = Mode.degraded then s.raise 0x3432 else s

/-- RUN, or DEGRADED while a condition stands. -/
def State.runMode (s : State) : Nat := if s.degradedNow then Mode.degraded else Mode.run

/-- RUN and DEGRADED follow the conditions of R318. -/
def State.updDegraded (s : State) : State :=
  if s.mode = Mode.run ∧ s.degradedNow then s.changeMode Mode.degraded
  else if s.mode = Mode.degraded ∧ s.degradedNow = false then s.changeMode Mode.run
  else s

/-- SAFE_OUT_N is asserted (R323). -/
def State.safeOut (s : State) : Bool :=
  decide (s.mode = Mode.off) || decide (s.mode = Mode.boot) || decide (s.mode = Mode.provision)
    || decide (s.mode = Mode.safe) || s.pwr.safePin || s.pwr.failPin
    || (decide (s.mode = Mode.halt) && s.bit Reg.PWR_CFG 3)

/-! ### SAFE (R320-R322) -/

/-- Every cuff goes to Apron for the mode; the engines of lent cuffs stop (R198). -/
def State.allApron (s : State) : State := allCuffs.foldl (fun s c => (s.apronStop c).toApron c .mode) s

/-- Running engines without a lent cuff stop too (R321). -/
def State.stopEngines (s : State) : State :=
  (Tbl.keys s.pios).foldl (fun s e => if (s.pio e).st = 0 then s else s.stopAt e 7) s

/-- The input FIFOs of contexts, which SAFE keeps (R321). -/
def State.ctxFifos (s : State) : Tbl (List Flight) := s.fifos.filter fun e => decide (5 * 4096 ≤ e.1)

/-- Every action past the queue stage is withdrawn unexecuted and its queue's HEAD set back; the FIFOs of contexts
are kept (R321). -/
def State.recallAll (s : State) : State :=
  let keep := s.ctxFifos
  let s := { s with fifos := s.fifos.filter fun e => decide (e.1 < 5 * 4096) }
  let s := (Tbl.keys s.queues).foldl (fun s q => if s.inFlight q = [] then s else s.recall q none) s
  let s := s.withdraw fun _ => true
  let s := keep.foldl (fun s e => s.setFifo e.1 e.2) s
  (Tbl.keys s.ctxs).foldl (fun s c => if (s.ctx c).sent = [] then s else s.setCtx c { s.ctx c with sent := [] }) s

/-- Contexts stop issuing and their watchdogs stop counting. -/
def State.stopContexts (s : State) : State :=
  { s with pwr := { s.pwr with frozenAt := some (s.pwr.frozenAt.getD s.tick) } }

/-- Contexts issue again: their counts go on from where they stood. -/
def State.startContexts (s : State) : State :=
  match s.pwr.frozenAt with
  | none => s
  | some t =>
    let d := s.tick - t
    let s := (Tbl.keys s.ctxs).foldl (fun s c =>
      s.setCtx c { s.ctx c with since := (s.ctx c).since + d, lastPoint := (s.ctx c).lastPoint + d }) s
    { s with pwr := { s.pwr with frozenAt := none } }

/-- Entry into SAFE for a cause. -/
def State.enterSafe (s : State) (cause : Nat) : State :=
  let s := s.allApron.stopEngines.recallAll.stopContexts
  let s := (s.setFld Reg.PWR_STATUS 12 3 cause).setPair Reg.PWR_SAFE_TIME_L Reg.PWR_SAFE_TIME_H s.tb.now
  { s with pwr := { s.pwr with safeNext := 0 } }.changeMode Mode.safe

/-- A cause of R320 arises in RUN or DEGRADED; during a DOZE entry it waits for the wake (R332). -/
def State.safeCause (s : State) (cause : Nat) : State :=
  if s.service = false then s
  else if s.pwr.entering then
    let s := if s.pwr.safeNext = 0 then { s with pwr := { s.pwr with safeNext := cause } } else s
    s.startWake 6 0
  else s.enterSafe cause

/-- PWR_TEMP, PWR_TALERT and PWR_TCRIT are signed, 0.25 °C a step (R333). -/
def State.temp (s : State) (k : Nat) : Int := signed 12 (s.fld k 0 12)

/-- A request for RUN is refused (R317, R322). -/
def State.runRefused (s : State) : Bool :=
  s.pwr.safePin || s.pwr.failPin || (decide (s.mode = Mode.safe) &&
    (decide (s.temp Reg.PWR_TCRIT < s.temp Reg.PWR_TEMP + 40) || !s.pwr.locked || !s.tbValid))

/-- RUN begins: cuffs at Apron only for the mode leave it, those of an absent bank stay, enabled pairs are OFF,
contexts issue (R322). -/
def State.startRun (s : State) : State :=
  let s := allCuffs.foldl (fun s c =>
    let s := s.endCause c .mode
    if s.bit (Reg.SLV_STATUS (c / 32)) 1 then s else s.toApron c .bank) s
  let s := (List.range 512).foldl (fun s p => if s.pairEn p then s.setPairSt p { s.pairSt p with st := 0 } else s) s
  s.startContexts.changeMode s.runMode

/-! ### Requests (R316, R317, R322, R326) -/

/-- PWR_RESULT shows a request and its code; a refusal sets REQ_REFUSED (R336). -/
def State.powerResult (s : State) (req code : Nat) : State :=
  let s := s.setN Reg.PWR_RESULT (req % 8 + code % 256 * 2 ^ 8)
  if code = Code.ok then s else s.pgErr 2 16

/-- A tenant other than 0 holds a queue. -/
def State.othersQueue (s : State) : Bool :=
  s.queues.any fun e => decide (e.2.state ≠ QState.free) && decide (e.2.tenant ≠ 0)

/-- A request for DOZE is refused (R326). -/
def State.dozeRefused (s : State) : Bool :=
  decide (s.refs ≠ []) || s.queues.any (fun e => decide (e.2.cls = 2) && e.2.contract.isSome)
    || decide (s.fld Reg.ENS_STATUS 0 3 = 3) || s.pwr.safePin || s.pwr.failPin

/-- A request for a mode, from PWR_CTRL or the DOZE pin. Each acts whole on its tick; which of two writes fall in one page cycle, of
which the later would win (R332), is latency that the model leaves out (log entry 15). -/
def State.powerReq (s : State) (req : Nat) : State :=
  if s.pwr.entering then s
  else if req = 2 ∧ s.mode = Mode.safe ∧ s.othersQueue = false then
    (s.powerResult 2 Code.ok).changeMode Mode.provision
  else if req = 3 ∧ (s.mode = Mode.provision ∨ s.mode = Mode.safe) ∧ s.runRefused = false then
    (s.powerResult 3 Code.ok).startRun
  else if req = 5 ∧ s.service then (s.powerResult 5 Code.ok).enterSafe 3
  else if req = 7 ∧ (s.service ∨ s.mode = Mode.provision ∨ s.mode = Mode.safe) ∧ s.dozeRefused = false then
    { s.powerResult 7 Code.ok with pwr := { s.pwr with entering := true } }
  else s.powerResult req Code.rejectClass

/-- PWR_CTRL_REQ_PROVISION (R316). -/
def execPwrCtrlReqProvision (s : State) : Host.Outcome State Fault Refusal := .next (s.pf 2 0x44 2 (fun s => s.powerReq 2))

/-- PWR_CTRL_REQ_RUN (R322). -/
def execPwrCtrlReqRun (s : State) : Host.Outcome State Fault Refusal := .next (s.pf 2 0x44 3 (fun s => s.powerReq 3))

/-- PWR_CTRL_REQ_SAFE (R320). -/
def execPwrCtrlReqSafe (s : State) : Host.Outcome State Fault Refusal := .next (s.pf 2 0x44 5 (fun s => s.powerReq 5))

/-- PWR_CTRL_REQ_DOZE (R326). -/
def execPwrCtrlReqDoze (s : State) : Host.Outcome State Fault Refusal := .next (s.pf 2 0x44 7 (fun s => s.powerReq 7))

/-- The pin requests DOZE; a refused request is noted with its tick. -/
def State.pinReq (s : State) : State :=
  let s := s.powerReq 7
  { s with pwr := { s.pwr with dozeTry := if s.pwr.entering then none else some s.tick } }

/-- The pin's requests act now. -/
def State.pinActs (s : State) : Bool :=
  s.pwr.dozeReq && s.bit Reg.PWR_CFG 0 && decide (s.mode ≠ Mode.off) && decide (s.mode ≠ Mode.doze) && !s.pwr.entering

/-- The pin's last request was refused 1 ms ago or earlier. -/
def State.retryDue (s : State) : Bool :=
  match s.pwr.dozeTry with
  | some t => decide (t + 1500000 ≤ s.tick)
  | none => false

/-- DOZE_REQ (R326). -/
def execDozeReq (s : State) : Host.Outcome State Fault Refusal :=
  let t := { s with pwr := { s.pwr with dozeReq := true } }
  .next (if t.pinActs then t.pinReq else t)

/-- DOZE_REQ_RETRY (R326). -/
def execDozeReqRetry (s : State) : Host.Outcome State Fault Refusal := .next (if s.pinActs ∧ s.retryDue then s.pinReq else s)

/-! ### Freezing and thawing (R41, R42, R61, R198, R222) -/

/-- The part freezes: cuffs stamp nothing, ports lose PVALID, contexts stop, the time base turns coarse. -/
def State.freeze (s : State) : State :=
  let s := (Tbl.keys s.cuffs).foldl (fun s c =>
    if (s.cuff c).filt = none then s else s.setCuff c { s.cuff c with filt := none }) s
  let s := (List.range 64).foldl State.freezePort s
  let s := (Tbl.keys s.pios).foldl State.freezePio s
  { s with pwr := { s.pwr with aligning := false } }.stopContexts.setCoarse true

/-- The time base is realigned to the coarse value plus the measured fraction: the phase of the reference edge within one
tick, known to 2 crumbs (R42). -/
def State.realign (s : State) : State :=
  (s.nextFresh.advance (Config.phase s.fresh % 18)).setCoarse false

/-- The realignment waits for reference edges. -/
def State.alignLater (s : State) : State := { s with pwr := { s.pwr with aligning := true } }

/-- Steps 2 and 3 of R42 can run: the PLL is locked and reference edges come. -/
def State.edgesRun (s : State) : Bool := s.pwr.refOk && s.pwr.locked

/-- The engines' bit clocks go on (R198). -/
def State.thawEngines (s : State) : State := (Tbl.keys s.pios).foldl State.thawPio s

/-- The ports' lines are taken as they stand (R222). -/
def State.thawPorts (s : State) : State := (Tbl.keys s.ports).foldl State.thawPort s

/-- The mode before HALT or DOZE is restored, or SAFE entered for a cause that waited (R325, R332). -/
def State.restoreMode (s : State) : State :=
  let s := s.thawPorts
  if s.pwr.safeNext ≠ 0 then s.enterSafe s.pwr.safeNext
  else if s.pwr.ret = Mode.run ∨ s.pwr.ret = Mode.degraded then
    (s.startContexts.thawEngines.changeMode s.runMode).rejudgeAll
  else s.thawEngines.changeMode s.pwr.ret

/-! ### HALT (R324, R325) -/

/-- DBG_STATUS.CODE. -/
def State.dbgCode (s : State) (code : Nat) : State := s.setFld Reg.DBG_STATUS 8 8 code

/-- The page number of DBG. -/
abbrev dbgPage : Nat := 0x100

/-- The JTAG debug access is there: not in OFF, and unless DBGLOCK disables it (R338, R339). -/
def State.jtagOn (s : State) : Bool := !s.bit Reg.SEC_STRAP 3 && decide (s.mode ≠ Mode.off)

/-- An access of JTAG reaches a register of the DBG page (R338). -/
def State.jtagReach (s : State) (addr : Nat) : Bool := s.jtagOn && decide (addr / 0x4000 = dbgPage) && decide (addr % 4 = 0)

/-- A write of DBG_CTRL reaches the part: from the host, or from JTAG (R338). -/
def State.dbgReach (s : State) : Bool := s.pfPage dbgPage || s.jtagOn

/-- The part enters HALT. -/
def State.enterHalt (s : State) : State :=
  let s := { s with pwr := { s.pwr with ret := s.mode, haltHeld := false } }
  (s.freeze.dbgCode Code.ok).changeMode Mode.halt

/-- DBG_CTRL.HALT; during DOZE or its entry it is held (R332). -/
def State.halt (s : State) : State :=
  if s.bit Reg.PWR_CFG 1 = false then s.dbgCode Code.rejectClass
  else if s.mode = Mode.doze ∨ s.pwr.entering then { s with pwr := { s.pwr with haltHeld := true } }
  else if s.service ∨ s.mode = Mode.provision ∨ s.mode = Mode.safe then s.enterHalt
  else s.dbgCode Code.rejectClass

/-- DBG_CTRL.RESUME. While the reference is absent the realignment, and with it the return to the mode before, waits for its
edges (R42, R43, R325). -/
def State.resume (s : State) : State :=
  if s.mode ≠ Mode.halt then s.dbgCode Code.rejectClass
  else if s.edgesRun then (s.dbgCode Code.ok).realign.restoreMode
  else (s.dbgCode Code.ok).alignLater

/-- A write of DBG_CTRL (R385). -/
def State.writeDbg (s : State) (v : Nat) : State :=
  if s.dbgReach = false then s
  else if bitAt v 0 ∧ bitAt v 1 then s.cmdRefused 0x100
  else if bitAt v 0 then s.halt
  else if bitAt v 1 then s.resume
  else s

/-- DBG_CTRL_HALT (R324). -/
def execDbgCtrlHalt (value : Nat) (s : State) : Host.Outcome State Fault Refusal := .next (s.writeDbg (Nat.lor value 1))

/-- DBG_CTRL_RESUME (R325). -/
def execDbgCtrlResume (value : Nat) (s : State) : Host.Outcome State Fault Refusal := .next (s.writeDbg (Nat.lor value 2))

/-! ### DOZE (R326-R330) -/

/-- An image write in progress ends ABORTED; its slot's state sector stays erased (R349). -/
def State.abandonImage (s : State) : State :=
  if s.boot.writing then
    let s := { s with boot := { s.boot with writing := false } }
    ((s.setFld Reg.SEC_IMG_CTRL 8 3 4).setFld Reg.SEC_IMG_CTRL 16 8 Code.aborted).raise 0x3440
  else s

/-- The state and code of an image write or an apply in SEC_IMG_CTRL, with the part in hand. -/
def State.imgEnd (s : State) (state code step : Nat) : State :=
  ((s.setFld Reg.SEC_IMG_CTRL 8 3 state).setFld Reg.SEC_IMG_CTRL 16 8 code).setFld Reg.SEC_IMG_CTRL 24 4 step

/-- The base set of an apply is in hand (R354). -/
def State.baseInHand (s : State) : Bool := s.upd.any (·.apply)

/-- An apply stops: what it has finished stands, and the part in hand reports the code (R352, R355). -/
def State.stopApply (s : State) (code : Nat) : State :=
  match s.boot.apply with
  | none => s
  | some a =>
    let s := if s.baseInHand then { s with upd := none }.dropStep else s
    ({ s with boot := { s.boot with apply := none } }.imgEnd 4 code a.part).noticeAll 1

/-- The move of a tray is abandoned, to be repeated after the wake. -/
def State.repeatTray (s : State) : State :=
  let x := s.fld Reg.ADM_GUARD 0 4
  let r := (s.tray x).rebuildFor
  let s := s.dropStep
  s.setTray x { s.tray x with rebuildFor := r, since := s.tick }

/-- The step of an apply in progress is abandoned, to be repeated after the wake: the update of a port starts again, as does the move
of a tray (R355). -/
def State.abandonStep (s : State) : State :=
  match s.boot.apply with
  | none => s
  | some a =>
    let s := { s with boot := { s.boot with apply := some { a with port := none, ports := a.port.toList ++ a.ports } } }
    if s.baseInHand then s.repeatTray else s

/-- The entry into DOZE completes at a reference edge, once no DMA request is outstanding: write buffers applied, everything frozen,
the PLL stopped, and the link free to enter L1.2 (R327, R328). -/
def State.enterDoze (s : State) : State :=
  if s.pwr.entering = false ∨ s.pwr.refOk = false ∨ s.chans.any (fun e => e.2.outstanding || (e.2.reading && !e.2.quiet)) then s
  else
    let s := ((Tbl.keys s.chans).filter fun c => (s.chan c).quiet).foldl (fun s c => s.setChan c { s.chan c with quiet := false }) s
    let s := (Tbl.keys s.fns).foldl State.drainBuf s
    let s := s.abandonImage.abandonStep
    let s := { s with pwr := { s.pwr with ret := s.mode, entering := false, locked := false },
                      link := { s.link with l0 := s.link.l0 && !s.link.l1 } }
    s.freeze.changeMode Mode.doze

/-- DOZE_ENTRY (R327). -/
def execDozeEntry (s : State) : Host.Outcome State Fault Refusal := .next s.enterDoze

/-- The edge of a PWR_WCUFF entry that the pad shows now (R329, R336). -/
def State.wakeEdge (s : State) (i : Nat) : Bool :=
  let k := Reg.PWR_WCUFF i
  s.bit k 10 && s.bit k (if (s.cuff (s.fld k 0 10)).pad then 11 else 12)

/-- The 7-bit address of the SMBus port (R334, R339). -/
def State.smbAddr (s : State) : Nat := 0x58 + s.fld Reg.SEC_STRAP 6 2

/-- A wake source of R329 and its index: 1 a frame on port n, 2 a held write or configuration request, 3 DOZE_REQ
released, 4 an edge on a PWR_WCUFF cuff, 5 a command at an SMBus address, 6 an always-on source. -/
def State.wakeBy (s : State) (src i : Nat) : State :=
  let s := if src = 3 then { s with pwr := { s.pwr with dozeReq := false, dozeTry := none } } else s
  let hit :=
    if src = 1 then decide (i < 4) && s.bit Reg.PWR_WAKE i
    else if src = 2 then s.bit Reg.PWR_WAKE 4
    else if src = 3 then s.bit Reg.PWR_WAKE 5 && s.bit Reg.PWR_CFG 0
    else if src = 4 then decide (i < 4) && s.bit Reg.PWR_WAKE 6 && s.wakeEdge i
    else if src = 5 then s.bit Reg.PWR_WAKE 7 && decide (i = s.smbAddr)
    else decide (src = 6) && (s.pwr.safePin || s.pwr.failPin || s.fns.any fun e => e.2.abortHeld)
  if hit then s.startWake src (if src = 1 ∨ src = 4 then i else 0) else s

/-- WAKE_EVENT (R329). -/
def execWakeEvent (source index : Nat) (s : State) : Host.Outcome State Fault Refusal :=
  .next (if s.mode = Mode.off then s else s.wakeBy source index)

/-! ### Power fail (R331) -/

/-- Every channel stops at once; work in progress and unwritten records are lost (R302). -/
def State.stopDma (s : State) : State := (Tbl.keys s.chans).foldl State.disableChan s

/-- The steps of R331 with the supplies failing. -/
def State.failSteps (s : State) : State :=
  let s : State := { s with pwr := { s.pwr with entering := false, wake := false },
                            link := { s.link with posted := s.link.posted.filter (·.cfg.isSome) } }
  let s := s.allApron
  let s := (Tbl.keys s.fns).foldl (fun s n =>
    s.setFn n { s.fn n with buf := [], abortCut := (s.fn n).abortCut || (s.fn n).aborting }) s
  let s := ((s.stopDma.setBit Reg.PWR_STATUS 9 true).raise 0x343A).abandonImage.stopApply Code.aborted
  let s := if s.service then s.enterSafe 2
    else if s.mode = Mode.halt then
      if s.edgesRun then s.realign.thawPorts.enterSafe 2
      else (s.enterSafe 2).alignLater
    else s
  s.sendLastgasp 0

/-- A HALT that was held is acted on (R332). -/
def State.heldHalt (s : State) : State :=
  if s.pwr.haltHeld then { s with pwr := { s.pwr with haltHeld := false } }.halt else s

/-- POWER_FAIL_N (R331): in DOZE the steps wait for the wake. In OFF the pin only shows its level (R374). -/
def State.powerFail (s : State) : State :=
  if s.pwr.failPin then s
  else
    let s := { s with pwr := { s.pwr with failPin := true } }
    if s.mode = Mode.off then s
    else if s.mode = Mode.doze then
      let s := { s with pwr := { s.pwr with failHeld := true, safeNext := if s.pwr.safeNext = 0 then 2 else s.pwr.safeNext } }
      s.startWake 6 0
    else s.failSteps.heldHalt

/-- POWER_FAIL_N (R331). -/
def execPowerFailN (s : State) : Host.Outcome State Fault Refusal := .next s.powerFail

/-- POWER_FAIL_N_RELEASE (R331): writes are accepted again. -/
def execPowerFailNRelease (s : State) : Host.Outcome State Fault Refusal :=
  .next { s with pwr := { s.pwr with failPin := false } }

/-- COARSE clears: PWR_WAKE_TIME, and INVAL takes VALID with it (R42, R329, R330). -/
def State.wakeExact (s : State) : State :=
  let s := s.realign
  let s := s.setPair Reg.PWR_WAKE_TIME_L Reg.PWR_WAKE_TIME_H s.tb.now
  if s.bit Reg.PWR_CFG 2 then s.setValid false else s

/-- The aborts that waited for the wake (R267). -/
def State.heldAborts (s : State) : State :=
  ((Tbl.keys s.fns).filter fun n => (s.fn n).abortHeld && !(s.fn n).abortCut).foldl State.runAbort s

/-- What waited for the wake beside SAFE: the steps of power fail, then a HALT (R331, R332). -/
def State.afterWake (s : State) : State :=
  (if s.pwr.failHeld then { s with pwr := { s.pwr with failHeld := false } }.failSteps else s).heldHalt

/-- The wake completes: the mode before DOZE, or SAFE, follows, and then what was held acts. A realignment that has waited
for the reference completes as well, and a HALT that was resumed ends with it. -/
def State.endWake (s : State) : State :=
  if s.edgesRun = false then s
  else if s.pwr.aligning then
    let t : State := { s with pwr := { s.pwr with aligning := false } }
    if s.mode = Mode.halt then t.realign.restoreMode else t.realign.thawPorts
  else if s.mode ≠ Mode.doze ∨ s.pwr.wake = false then s
  else
    let t : State := { s with pwr := { s.pwr with wake := false } }
    t.wakeExact.restoreMode.afterWake.heldAborts

/-! ### SAFE_N, bank supplies and temperature (R48, R74, R320, R333) -/

/-- SAFE_N asserted: through the clockless path in every mode with driven cuffs; what follows is by mode (R320,
R324, R329, R332). In OFF the pin only shows its level (R374). -/
def State.safeAssert (s : State) : State :=
  if s.pwr.safePin then s
  else if s.mode = Mode.off then { s with pwr := { s.pwr with safePin := true } }
  else
    let s := ({ s with pwr := { s.pwr with safePin := true } }.allApron).raise 0x343B
    if s.service then s.safeCause 1
    else if s.mode = Mode.halt ∨ s.mode = Mode.doze then
      let s := if s.pwr.safeNext = 0 then { s with pwr := { s.pwr with safeNext := 1 } } else s
      s.startWake 6 0
    else s.startWake 6 0

/-- SAFE_N (R74). -/
def execSafeN (s : State) : Host.Outcome State Fault Refusal := .next s.safeAssert

/-- SAFE_N_RELEASE (R323). -/
def execSafeNRelease (s : State) : Host.Outcome State Fault Refusal :=
  .next { s with pwr := { s.pwr with safePin := false } }

/-- The range of a bank supply's class holds a level (R364, R365). -/
def State.bankHolds (s : State) (n mv : Nat) : Bool :=
  if s.bit (Reg.SLV_STATUS n) 0 then decide (3135 ≤ mv ∧ mv ≤ 3465) else decide (1710 ≤ mv ∧ mv ≤ 1890)

/-- A bank supply that was in range leaves it (R48). -/
def State.bankLost (s : State) (n : Nat) : State :=
  let s := (s.setBit (Reg.SLV_STATUS n) 1 false).pgErr (slvPage n) 17
  let s := s.setSleeve n { s.sleeve n with lost := true }
  (sleeveCuffs n).foldl (fun s c => (s.apronStop c).toApron c .bank) s

/-- A bank supply stands at a level outside its range: the sleeve holds Apron, and is undriven below 1.0 V (R48, R367, R370). -/
def State.bankDrops (s : State) (n mv : Nat) : State :=
  if s.bit (Reg.SLV_STATUS n) 1 = false then s.bankLevel n mv
  else if s.bankHolds n mv then s
  else (s.bankLost n).bankLevel n mv

/-- BANK_FAULT (R48). -/
def execBankFault (bank : BankDrop) (s : State) : Host.Outcome State Fault Refusal :=
  onUnit (okSleeve bank.sleeve) (s.bankDrops bank.sleeve bank.millivolts)

/-- The die temperature at or above a threshold. -/
def State.hot (s : State) (k : Nat) : Bool := decide (s.temp k ≤ s.temp Reg.PWR_TEMP)

/-- A sample of the die temperature: ALERT_N and its source, and SAFE at PWR_TCRIT (R320, R332, R333). -/
def State.sampleTemp (s : State) (v : Nat) : State :=
  let s := s.setN Reg.PWR_TEMP (v % 2 ^ 12)
  let was := s.bit Reg.PWR_STATUS 10
  let s := if s.hot Reg.PWR_TALERT then
      (if was then s else (s.setBit Reg.PWR_STATUS 10 true).raise 0x3439)
    else if s.temp Reg.PWR_TEMP + 20 ≤ s.temp Reg.PWR_TALERT then s.setBit Reg.PWR_STATUS 10 false
    else s
  if s.hot Reg.PWR_TCRIT = false then s
  else if s.mode = Mode.halt then
    let s := s.allApron
    if s.pwr.safeNext = 0 then { s with pwr := { s.pwr with safeNext := 4 } } else s
  else s.safeCause 4

/-- TEMPERATURE_SAMPLE (R333). -/
def execTemperatureSample (value : Nat) (s : State) : Host.Outcome State Fault Refusal :=
  .next (if s.mode = Mode.off then s else s.sampleTemp value)

/-! ### Management port (R334) -/

/-- The SMBus port answers in every mode but OFF, and an addressed command may wake the device (R329). -/
def State.smbus (s : State) (f : State → State) : State :=
  if s.mode = Mode.off then s
  else f (if s.bit Reg.PWR_WAKE 7 then s.startWake 5 0 else s)

/-- A read at the port's address is answered (R334). -/
def State.smbAnswer (s : State) (v : Nat) : State := s.send (.smbus s.smbAddr v)

/-- SMBUS_READ_STATUS (R334). -/
def execSmbusReadStatus (s : State) : Host.Outcome State Fault Refusal :=
  .next (s.smbus fun s => s.smbAnswer (s.mode % 8 + b2n (decide (s.mode = Mode.degraded)) * 8 + b2n s.pwr.safePin * 16
    + b2n (s.bit Reg.PWR_STATUS 9) * 32))

/-- SMBUS_READ_TEMP (R334). -/
def execSmbusReadTemp (s : State) : Host.Outcome State Fault Refusal :=
  .next (s.smbus fun s => s.smbAnswer (s.fld Reg.PWR_TEMP 0 12))

/-- SMBUS_READ_ALERTS (R334). -/
def execSmbusReadAlerts (s : State) : Host.Outcome State Fault Refusal :=
  .next (s.smbus fun s => s.smbAnswer (b2n (s.bit Reg.PWR_STATUS 10) + b2n (s.hot Reg.PWR_TCRIT) * 2))

/-- SMBUS_SAFE (R334); a write at another address is not the part's. -/
def execSmbusSafe (write : SmbWrite) (s : State) : Host.Outcome State Fault Refusal :=
  .next (if write.addr = s.smbAddr then s.smbus fun s => if write.value % 256 = 0x5A then s.safeCause 3 else s else s)

/-! ### OFF (R316, R366) -/

/-- Blown fuses after OFF: a burn that was interrupted leaves some of them blown (R347). -/
def State.fusesLeft (s : State) : Nat :=
  match s.boot.burning with
  | none => s.boot.fuses
  | some n => s.boot.fuses + (Config.freeWord s.fresh).toNat % (n - s.boot.fuses + 1)

/-- The guard inputs of a sleeve that assert high, as SLV_GDSTATE shows them once SLV_GDPOL is back at 0 (R371). -/
def State.guardLevels (s : State) (n : Nat) : Nat := Nat.xor (s.fld (Reg.SLV_GDSTATE n) 0 8) (s.fld (Reg.SLV_GDPOL n) 0 8)

/-- The device in OFF: every cuff undriven, registers and memory lost. What stands outside it stays: the flash, the
fuses, the pins and supplies, the host's pending commands, and what has been sent. -/
def State.powerDown (s : State) : State :=
  let r : State := { State.reset with
    pending := s.pending, out := s.out, fresh := s.fresh + 1,
    boot := { slotA := s.boot.slotA, slotB := s.boot.slotB, fuses := s.fusesLeft },
    pwr := { mode := Mode.off, safePin := s.pwr.safePin, failPin := s.pwr.failPin, dozeReq := s.pwr.dozeReq,
             resetPin := s.pwr.resetPin, refOk := s.pwr.refOk, pcieRef := s.pwr.pcieRef, supplies := s.pwr.supplies } }
  let r := (Tbl.keys s.cuffs).foldl (fun r c =>
    if (s.cuff c).pad then r.setCuff c { r.cuff c with pad := true } else r) r
  let r := (Tbl.keys s.sleeves).foldl (fun r n =>
    if (s.sleeve n).absent then r.setSleeve n { absent := true } else r) r
  (List.range 32).foldl (fun r n =>
    (r.setFld (Reg.SLV_STATUS n) 0 2 (s.fld (Reg.SLV_STATUS n) 0 2)).setFld (Reg.SLV_GDSTATE n) 0 8
      (s.guardLevels n)) (r.setN Reg.PWR_TEMP (s.regN Reg.PWR_TEMP))

/-- SYS_RST_N_ASSERT (R316). -/
def execSysRstNAssert (s : State) : Host.Outcome State Fault Refusal :=
  .next ({ s with pwr := { s.pwr with resetPin := true } }.powerDown)

/-- SYS_RST_N is released with the supplies in range: the straps are sampled, and boot starts, which will find what the self-tests
and the flash show (R316, R339, R340). -/
def State.startBoot (s : State) (r : ResetRelease) : State :=
  let s := { s with boot := { s.boot with badRows := r.badRows, badCores := r.badCores, badFlash := r.badFlash } }
  ((s.setN Reg.SEC_STRAP (r.straps % 256)).setBit Reg.CLK_CFG 0 (bitAt r.straps 0)).changeMode Mode.boot

/-- SYS_RST_N_RELEASE (R316, R339, R340): with a supply out of range the device stays in OFF. -/
def execSysRstNRelease (release : ResetRelease) (s : State) : Host.Outcome State Fault Refusal :=
  .next (if s.pwr.resetPin = false then s
    else
      let s := { s with pwr := { s.pwr with resetPin := false, supplies := release.inRange } }
      if release.inRange then s.startBoot release else s)

/-- SUPPLY_LOSS (R366). -/
def execSupplyLoss (s : State) : Host.Outcome State Fault Refusal :=
  .next ({ s with pwr := { s.pwr with supplies := false } }.powerDown)

end Sys2Proof.Machine
end

