-- ==== Sys2Proof/Machine/Moves.lean ====
section
/-! DEFINITION. Trays that take each other's place: the moves of contexts, the rebuild of the spare, and the live
update of microcode tray by tray (R124, R125, R163, R177-R179, R354). -/

namespace Sys2Proof.Machine

open Sys2Proof

/-! ### Resume-compatibility (R177) -/

/-- WAIT, WAITT, TWAIT or RECV. -/
def waitOp (op : Nat) : Bool := decide (op = 0x35) || decide (op = 0x36) || decide (op = 0x37) || decide (op = 0x39)

/-- A word whose address, or the address that follows it, a context may resume at. -/
def resumePoints (ws : List (Nat × Insn)) : List Nat :=
  ws.flatMap fun e => if waitOp e.2.op then [e.1] else if e.2.op = 0x2D then [(e.1 + 1) % 2 ^ 14] else []

/-- A LOOP's body holds one of some addresses. -/
def Insn.holds (x : Insn) (points : List Nat) : Bool := points.any fun a => decide ((a + 2 ^ 14 - x.nx) % 2 ^ 14 ≤ x.k)

/-- New words are resume-compatible with old ones (R177). -/
def compatible (old new : List (Nat × Insn)) : Bool :=
  let points := resumePoints old
  (old.zip new).all fun e =>
    let a := e.1.2
    let b := e.2.2
    (!(waitOp a.op || decide (a.op = 0x2D)) || decide (b.op = a.op))
      && (!(decide (a.op = 0x2F) && a.holds points) || (decide (b.op = 0x2F) && decide (b.nx = a.nx) && decide (b.k = a.k)))

/-- The words of a version of the base set. -/
def baseWords (v : Nat) : List (Nat × Insn) := (List.range 0x2000).map fun a => (a, insnOf (Config.baseWord v a))

/-- A version of the base set is resume-compatible with the one that each tray runs (R352). -/
def State.baseResumes (s : State) (v : Nat) : Bool :=
  (List.range 8).all fun l => compatible (baseWords (s.baseVer (s.physOf l))) (baseWords v)

/-! ### The spare and the tray in hand -/

/-- ADM_GUARD.SPARE, 0xF where there is none (R131). -/
def State.spareTray (s : State) : Nat := s.fld Reg.ADM_GUARD 0 4

/-- The physical tray whose place the spare is taking. -/
def State.trayInHand (s : State) : Option Nat := (s.tray s.spareTray).rebuildFor

/-- ADM_GUARD.REBUILD: the spare is rebuilt for a failing tray, not for an update. -/
def State.rebuilding (s : State) : Bool := s.bit Reg.ADM_GUARD 22

/-- The ID under which the spare holds the new replica of a guarded context. -/
def State.newReplica (s : State) (c : Nat) : Nat := s.servesOf s.spareTray * 256 + lowOf c

/-- A context's move makes a new replica from the surviving ones (R124, R163). -/
def State.copies (s : State) (c : Nat) : Bool := (s.ctx c).guarded && s.rebuilding

/-- Contexts move while the steward cores run (R355). -/
def State.movesRun (s : State) : Bool :=
  decide (s.mode ≠ Mode.off) && decide (s.mode ≠ Mode.doze) && decide (s.mode ≠ Mode.boot)

/-! ### Moving a context (R163, R178, R179) -/

/-- The least distance, in crumbs, of the time a moving context waits for: 1,024 ticks. -/
abbrev moveLead : Nat := 16384

/-- The time a blocked context waits for is far enough away (R178). -/
def State.moveFar (s : State) (c : Nat) : Bool :=
  let k := s.ctx c
  match k.st with
  | .twait => s.ahead k.deadline moveLead
  | .recv => match s.fifo (fifoKey 5 c) with
    | [] => true
    | f :: _ => s.ahead f.due moveLead
  | _ => true

/-- Two replicas agree (R163): the same PC and state, registers, save area and micro-state. -/
def Ctx.agrees (a b : Ctx) : Bool :=
  decide (a.pc = b.pc) && a.st == b.st && a.w == b.w && a.save == b.save && decide (a.flagWord = b.flagWord)
    && a.mode == b.mode && a.pmode == b.pmode && a.slot == b.slot && decide (a.seg = b.seg) && decide (a.lc = b.lc)
    && decide (a.lstart = b.lstart) && decide (a.lend = b.lend) && a.la == b.la && a.stack == b.stack && a.base == b.base && a.baseSaved == b.baseSaved

/-- The context is marked as moved; a move that completes is source 7 of the tray it went to (R164). -/
def State.markMoved (s : State) (c : Nat) : State :=
  let x := s.spareTray
  let p := s.trayOf c
  (((s.setTray x { s.tray x with moved := (s.tray x).moved ++ [c] }).trayPulse x 7).trayLevels p).trayLevels x

/-- A move starts: the context waits in MOVING. -/
def State.startMove (s : State) (c : Nat) : State :=
  s.putCtx c { s.ctx c with st := .moving, retSt := (s.ctx c).st }

/-- The surviving replicas of a guarded context. -/
def State.survivors (s : State) (c : Nat) : List Nat := (s.replicas c).filter (· ≠ c)

/-- A replica may be copied: at a WAIT point, or ended for good. -/
def Ctx.copyable (k : Ctx) : Bool := k.atPoint || k.st.dead

/-- The new replica is copied from two survivors that agree, at the first WAIT point at which they do, with their input
FIFO. -/
def State.copyReplica (s : State) (c : Nat) : State :=
  match s.survivors c with
  | [a, b] =>
    let k := s.ctx a
    if k.copyable && k.agrees (s.ctx b) then
      let n := s.newReplica c
      (s.setFifo (fifoKey 5 n) (s.fifo (fifoKey 5 a))).putCtx n { k with st := .moving, retSt := k.st, sent := [] }
    else s
  | _ => s

/-- The copy of a guarded context goes through its two halves. -/
def State.moveReplica (s : State) (c : Nat) : State :=
  match (s.ctx (s.newReplica c)).st with
  | .free => s.copyReplica c
  | .moving => (s.endMove (s.newReplica c)).trayPulse s.spareTray 7
  | _ => s

/-- A context of the tray in hand moves: at once where it does not run, else at a WAIT point, through MOVING; in a live
update only while the time it waits for is far enough away (R163, R178). -/
def State.moveCtx (s : State) (c : Nat) : State :=
  let k := s.ctx c
  if s.movesRun = false ∨ s.trayInHand ≠ some (s.physOf (c / 256)) ∨ k.st = .free ∨ (s.tray s.spareTray).moved.contains c then s
  else if s.copies c then s.moveReplica c
  else if k.st = .moving then (s.markMoved c).endMove c
  else if k.st.dead then s.markMoved c
  else if k.atPoint ∧ (s.rebuilding = true ∨ s.moveFar c = true) then s.startMove c
  else s

/-- CONTEXT_MOVE (R163): the move starts, and the next command of the context ends it. -/
def execContextMove (ctx : Nat) (s : State) : Host.Outcome State Fault Refusal := onUnit (okCtx ctx) (s.moveCtx ctx)

/-- The live update reports that a context was moved between two words. -/
def State.markForced (s : State) : State :=
  { s with upd := s.upd.map fun u => { u with forced := true } }

/-- A context that has reached no WAIT point for 1 s of the move moves between two words, after its current word has
completed (R179). -/
def State.forceMove (s : State) (c : Nat) : State :=
  let k := s.ctx c
  if s.movesRun = false ∨ s.trayInHand ≠ some (s.physOf (c / 256)) ∨ (s.tray s.spareTray).moved.contains c
    ∨ s.copies c ∨ (k.st ≠ .run ∧ k.st ≠ .trap)
    ∨ s.tick < max (s.tray s.spareTray).since k.lastPoint + 1500000000 then s
  else (s.startMove c).markForced

/-- FORCED_MOVE (R179). -/
def execForcedMove (ctx : Nat) (s : State) : Host.Outcome State Fault Refusal := onUnit (okCtx ctx) (s.forceMove ctx)

/-! ### The tick of the takeover (R124, R131, R178) -/

/-- The contexts of a tray number that are not FREE. -/
def State.liveIds (s : State) (l : Nat) : List Nat :=
  (Tbl.keys s.ctxs).filter fun c => decide (c / 256 = l) && decide ((s.ctx c).st ≠ .free)

/-- A context has moved, or its new replica runs. -/
def State.hasMoved (s : State) (c : Nat) : Bool :=
  if s.copies c then
    let st := (s.ctx (s.newReplica c)).st
    st != .free && st != .moving
  else (s.tray s.spareTray).moved.contains c

/-- A new replica takes the ID of the one it replaces. -/
def State.placeReplica (s : State) (c : Nat) : State :=
  let n := s.newReplica c
  let k := s.ctx n
  let s := (s.setFifo (fifoKey 5 c) (s.fifo (fifoKey 5 n))).setFifo (fifoKey 5 n) []
  (s.setCtx c k).setCtx n {}

/-- The spare `x` answers to the IDs of tray `t` and votes in its slots; `t` answers to what the spare answered to. The level
sources of both follow the contexts that each holds now (R164). -/
def State.swapTrays (s : State) (x t : Nat) : State :=
  let l := s.servesOf t
  let p := s.servesOf x
  let s := ((s.liveIds l).filter s.copies).foldl State.placeReplica s
  let s := s.setTray x { s.tray x with serves := some l, rebuildFor := none, since := 0, moved := [] }
  let s := ((s.setTray t { s.tray t with serves := some p }).trayLevels x).trayLevels t
  (Tbl.keys s.queues).foldl (fun s q =>
    match (s.queue q).contract with
    | some k => s.setQueue q { s.queue q with
        contract := some { k with trays := k.trays.map fun y => if y = t then x else y } }
    | none => s) (s.trayPulse x 7)

/-- The failing tray is retired: no spare is left (R124, R318). -/
def State.retire (s : State) (t : Nat) : State :=
  let s := ((s.setBit Reg.ADM_GUARD 22 false).setFld Reg.ADM_GUARD 0 4 0xF).setBit Reg.ADM_GUARD (13 + t) true
  let s := ((s.setBit Reg.PWR_STATUS 6 true).relRecord 2 Code.ok 8 0x21 t 0).raise 0x3419
  s.updDegraded

/-- The new words of a live update are written into a tray's units (R178 step 1). -/
def State.writeUnits (s : State) (x : Nat) (units : Nat) (ws : List Nat) : State :=
  let us := bitList 32 units
  let addr (i : Nat) : Nat := 0x2000 + 256 * us.getD (i / 256) 0 + i % 256
  let old (k : Nat) : Bool := !(decide (k / 16384 = x) && decide (0x2000 ≤ k % 16384) && us.contains ((k % 16384 - 0x2000) / 256))
  { s with cs := (ws.zip (List.range ws.length)).foldl (fun t e =>
             Tbl.set 0 t (csKey x (addr e.2)) (BitVec.ofNat 40 e.1)) s.cs,
           csBad := s.csBad.filter old, csSoft := s.csSoft.filter old }

/-- The next tray of a live update: the spare is written for it, with the new units, or with the new base set (R354). -/
def State.nextTray (s : State) (u : Update) (l : Nat) : State :=
  let s := (s.takeSpare s.spareTray (s.physOf l)).writeUnits s.spareTray u.units u.words
  if u.apply then s.setTray s.spareTray { s.tray s.spareTray with base := some u.basever } else s

/-- The command of a live update completes (R178, R179); its record shows the trays updated and, in RESULT1, whether a
context was moved between two words. -/
def State.updReport (s : State) (u : Update) (code : Nat) : State :=
  match (s.fn u.fn).inflight.find? fun c => decide (c.tag = u.tag) && !c.done with
  | some c => s.finishCmd u.fn c code u.done (b2n u.forced)
  | none => s

/-- A live update ends. -/
def State.endUpdate (s : State) (u : Update) (code : Nat) : State :=
  let s := { s with upd := none }
  if u.apply then
    let s := { s with boot := { s.boot with apply := none } }
    let s := if code = Code.ok then (s.setN Reg.SEC_VER_BASE u.basever).imgEnd 3 code 2 else s.imgEnd 4 code 2
    s.noticeAll 1
  else s.updReport u code

/-- A tray of a live update is done: the old tray becomes the spare, and the next tray, the end, or the stop of R179
follows. -/
def State.trayDone (s : State) (u : Update) (t l : Nat) : State :=
  let u := { u with todo := u.todo.filter (· ≠ l), done := Nat.lor u.done (2 ^ l) }
  let s := { s.setFld Reg.ADM_GUARD 0 4 t with upd := some u }
  match u.todo, s.failingTray with
  | [], none => s.endUpdate u Code.ok
  | l' :: _, none => s.nextTray u l'
  | [], some f => (s.endUpdate u Code.ok).startRebuild f
  | _, some f => (s.endUpdate u Code.rejectCapacity).startRebuild f

/-- A takeover may come now: while contexts move, and, for a rebuild that is complete, in DOZE as well (R332). -/
def State.takeoverRuns (s : State) : Bool := s.movesRun || (decide (s.mode = Mode.doze) && s.rebuilding)

/-- On one tick the spare takes a tray's place: the end of a rebuild, or a step of a live update. -/
def State.takeover (s : State) (t : Nat) : State :=
  let x := s.spareTray
  let l := s.servesOf t
  if s.takeoverRuns = false ∨ s.trayInHand ≠ some t ∨ (s.liveIds l).all s.hasMoved = false then s
  else
    let r := s.swapTrays x t
    match s.rebuilding, s.upd with
    | true, _ => r.retire t
    | false, some u => r.trayDone u t l
    | false, none => r.setFld Reg.ADM_GUARD 0 4 t

/-- TRAY_TAKEOVER (R124). -/
def execTrayTakeover (tray : Nat) (s : State) : Host.Outcome State Fault Refusal := onUnit (okTray tray) (s.takeover tray)

end Sys2Proof.Machine
end

