-- ==== Sys2Proof/Machine/Boot.lean ====
section
/-! DEFINITION. PLL lock, boot from flash and host, anti-rollback, and the writing and applying of images
(R312-R314, R339-R355). -/

namespace Sys2Proof

/-! ### Images (R343, R344) -/

/-- A little-endian field of an image. -/
def ImageInfo.field (im : ImageInfo) (off n : Nat) : Nat :=
  ((im.bytes.drop off).take n).foldr (fun b v => b % 256 + 256 * v) 0

/-! The header (R343). -/

def ImageInfo.length (im : ImageInfo) : Nat := im.field 0x08 4
def ImageInfo.rollback (im : ImageInfo) : Nat := im.field 0x0C 4
def ImageInfo.fwver (im : ImageInfo) : Nat := im.field 0x10 4
def ImageInfo.basever (im : ImageInfo) : Nat := im.field 0x14 4
def ImageInfo.vmin (im : ImageInfo) : Nat := im.field 0x18 1
def ImageInfo.vmax (im : ImageInfo) : Nat := im.field 0x19 1

/-- A range of an image that the header reserves holds zeros. -/
def ImageInfo.zeros (im : ImageInfo) (off n : Nat) : Bool := ((im.bytes.drop off).take n).all (· % 256 == 0)

/-- The entries of SECTIONS in use: kind, offset and length. -/
def ImageInfo.sections (im : ImageInfo) : List (Nat × Nat × Nat) :=
  ((List.range 8).map fun i => (im.field (0x40 + 16 * i) 4, im.field (0x44 + 16 * i) 4, im.field (0x48 + 16 * i) 4)).filter (·.1 != 0)

/-- Two sections do not overlap. -/
def apartSections (a b : Nat × Nat × Nat) : Bool := decide (a.2.1 + a.2.2 ≤ b.2.1 ∨ b.2.1 + b.2.2 ≤ a.2.1)

/-- No two sections of a list overlap. -/
def noOverlap : List (Nat × Nat × Nat) → Bool
  | [] => true
  | a :: r => r.all (apartSections a) && noOverlap r

/-- The sections lie between the header and the signature, do not overlap, and hold each kind once (R344). -/
def ImageInfo.sectionsFit (im : ImageInfo) : Bool :=
  im.sections.all (fun e => decide (512 ≤ e.2.1 ∧ e.2.1 + e.2.2 + 96 ≤ im.length)) && noOverlap im.sections
    && decide (im.sections.length = 3) && [1, 2, 3].all fun k => im.sections.any (·.1 == k)

/-- Check 2 of R344: MAGIC, FORMAT, LENGTH, reserved fields and sections. -/
def ImageInfo.wellFormed (im : ImageInfo) : Bool :=
  decide (im.field 0 4 = 0x39544843 ∧ im.field 4 2 = 1 ∧ 608 ≤ im.length ∧ im.length ≤ 8388608 ∧ im.length ≤ im.bytes.length)
    && im.zeros 0x06 2 && im.zeros 0x1A 38 && im.zeros 0xC0 64 && im.zeros 0x161 159
    && (List.range 8).all (fun i => im.zeros (0x4C + 16 * i) 4) && im.sectionsFit

/-- What is read of an image of some bytes. -/
def ImageInfo.upTo (im : ImageInfo) (n : Nat) : ImageInfo := { im with bytes := im.bytes.take n }

end Sys2Proof

namespace Sys2Proof.Machine

open Sys2Proof

/-! ### Steward cores (R350, R351) -/

/-- REL_STEWARD.UP of a core. -/
def State.coreUp (s : State) (c : Nat) : Bool := s.bit Reg.REL_STEWARD c

/-- The other core of a core's pair. -/
def mateOf (c : Nat) : Nat := if c % 2 = 0 then c + 1 else c - 1

/-- A failure of a core counts; three within 1 h leave it down. -/
def State.countFailure (s : State) (c : Nat) : State :=
  let recent := ((Tbl.get [] s.boot.fails c).filter fun t => decide (s.tick < t + 5400000000000)) ++ [s.tick]
  let s := { s with boot := { s.boot with fails := Tbl.set [] s.boot.fails c (recent.drop (recent.length - 3)) } }
  if 3 ≤ recent.length then s.setBit Reg.REL_STEWARD (8 + c) true else s

/-- PWR_STATUS.SINGLE while a core is not up (R318). -/
def State.updSingle (s : State) : State :=
  (s.setBit Reg.PWR_STATUS 7 (decide (s.fld Reg.REL_STEWARD 0 4 ≠ 0xF))).updDegraded

/-- A core leaves service; it is active no more. -/
def State.dropCore (s : State) (c : Nat) : State :=
  (s.setBit Reg.REL_STEWARD c false).setBit Reg.REL_STEWARD (4 + c) false

/-- A pair goes down: its double-fault record is written while pair 1 still can, and its source is raised in any case (R351). -/
def State.pairFault (s : State) (c : Nat) : State :=
  if s.pairUp 1 then s.relRecord 3 Code.ok 9 0x07 c 0 else s.raise 0x3431

/-- The standby takes over from a failed core, or the pair goes down. In DOZE the flag of R318 is set as well (R332). -/
def State.coreFails (s : State) (c : Nat) : State :=
  if s.coreUp c = false ∨ s.mode = Mode.off then s
  else
    let m := mateOf c
    let active := s.bit Reg.REL_STEWARD (4 + c)
    let s := s.countFailure c
    let s := if s.coreUp m = false then
        let s := (s.pairFault c).dropCore c
        if 2 ≤ c then s.setEnst 0 else s
      else if active then ((s.dropCore c).setBit Reg.REL_STEWARD (4 + m) true).relRecord 0 Code.ok 9 0x07 c 0
      else s.dropCore c
    s.updSingle.stopApply Code.rejectCapacity

/-! ### Spare rows (R340, R358) -/

/-- Spare rows left. -/
def State.sparesLeft (s : State) : Nat := 256 - (s.fld Reg.REL_REPAIR 0 9 + s.fld Reg.REL_REPAIR 16 9)

/-- SPARES_LOW and SPARES_OUT follow the spare rows left. -/
def State.spareBits (s : State) : State :=
  let k := s.sparesLeft
  let s := if k ≤ 16 then s.setBit Reg.REL_STATUS 0 true else s
  if k = 0 then s.setBit Reg.REL_STATUS 1 true else s

/-! ### Slots (R341, R342) -/

/-- A slot of the boot flash: 0 is A, 1 is B. -/
def State.slot (s : State) (i : Nat) : Slot := if i = 1 then s.boot.slotB else s.boot.slotA

def State.setSlot (s : State) (i : Nat) (v : Slot) : State :=
  { s with boot := if i = 1 then { s.boot with slotB := v } else { s.boot with slotA := v } }

/-! States of a slot. -/

namespace SlotState
abbrev empty : Nat := 0xFF
abbrev trial : Nat := 0x5A
abbrev good : Nat := 0x3C
abbrev bad : Nat := 0x00
end SlotState

/-- A candidate: TRIAL or GOOD. -/
def Slot.candidate (v : Slot) : Bool := decide (v.state = SlotState.trial) || decide (v.state = SlotState.good)

/-- The candidates in descending order of GEN; on equal GEN, slot A first (log entry 14). -/
def State.candidates (s : State) : List Nat :=
  (if (s.slot 0).gen < (s.slot 1).gen then [1, 0] else [0, 1]).filter fun i => (s.slot i).candidate

/-- SEC_BOOT.REASON_A, _B or _HOST. -/
def State.reason (s : State) (i code : Nat) : State := s.setFld Reg.SEC_BOOT (4 + 4 * i) 4 code

/-- The reason code of an image: that of the first check of R344 that fails, against the OTP counter now; 0 when all pass. -/
def State.imageCheck (s : State) (im : ImageInfo) : Nat :=
  if im.readOk = false then 6
  else if im.wellFormed = false then 2
  else if im.keyOk = false then 3
  else if im.sigOk = false then 4
  else if im.rollback < s.boot.fuses then 5
  else 0

/-- Boot stops for good, with a reason at some of its sources (R345). -/
def State.bootStop (s : State) (is : List Nat) (code : Nat) : State :=
  let s := (is.foldl (fun s i => s.reason i code) s).setFld Reg.SEC_BOOT 0 2 3
  { s with boot := { s.boot with stopped := true, hostWait := false, hboot := none } }

/-- Both cores of a steward pair fail their self-test (R345). -/
def State.stewardsFail (s : State) : Bool :=
  (bitAt s.boot.badCores 0 && bitAt s.boot.badCores 1) || (bitAt s.boot.badCores 2 && bitAt s.boot.badCores 3)

/-- The sources of the blocks that belong to tenant 0 alone (R274). -/
def devSrcs : List Nat := ((List.range 0x80).map (0x3400 + ·)).filter srcNamed

/-- The steward firmware routes the sources it serves to the cores, once it has started (R275, log entry 30). -/
def State.stewardRoutes (s : State) : State :=
  { s with srcs := devSrcs.foldl (fun t id => Tbl.set (srcDefault id) t id
      { Tbl.get (srcDefault id) t id with stw := Config.serves id, core := b2n (Config.serves id) * (Config.serveCore id % 4) }) s.srcs }

/-- The steward cores have started, but for those that failed their self-test; the calibration rounds are done, and PROVISION begins
(R317, R340). The steward routes the sources it serves (R275). -/
def State.provision (s : State) (slot : Nat) : State :=
  let s := { s with boot := { s.boot with calAt := s.tick } }
  let s := ((s.relRecord 0 Code.ok 11 0x06 slot 0).changeMode Mode.provision).stewardRoutes
  let s := if s.pwr.failPin then s.setBit Reg.PWR_STATUS 9 true else s
  (bitList 4 s.boot.badCores).foldl State.coreFails s

/-- An image is accepted: its versions are shown, and the steward starts from it, or boot stops with reason 8 (R340, R345). -/
def State.accept (s : State) (slot st trials gen : Nat) (im : ImageInfo) : State :=
  if s.stewardsFail then s.bootStop [slot] 8
  else
    let s := ((s.setFld Reg.SEC_BOOT 0 2 slot).setFld Reg.SEC_BOOT 2 2 st).setFld Reg.SEC_BOOT 16 2 trials
    let s := ((s.setN Reg.SEC_VER_FW im.fwver).setN Reg.SEC_VER_BASE im.basever).setN Reg.SEC_GEN gen
    let s := { s.setFld Reg.SEC_RB 8 8 im.rollback with boot := { s.boot with hostWait := false, hboot := none } }
    s.provision slot

/-- The slot is tried: a TRIAL slot counts its boot, and one that has had two is BAD and skipped; a failing one is BAD.
Answers whether its image passed. -/
def State.trySlot (s : State) (i : Nat) : State × Bool :=
  let v := s.slot i
  if v.state = SlotState.trial ∧ 2 ≤ v.boots then ((s.setSlot i { v with state := SlotState.bad }).reason i 1, false)
  else
    let w := if v.state = SlotState.trial then { v with boots := v.boots + 1 } else v
    let code := if bitAt s.boot.badFlash i then 6 else s.imageCheck v.image
    if code = 0 then
      let good := decide (v.state = SlotState.good)
      ((s.setSlot i w).accept i (b2n good) (if good then 0 else min 3 w.boots) v.gen v.image, true)
    else ((s.setSlot i { w with state := SlotState.bad }).reason i code, false)

/-- Tries slots until one is accepted. -/
def State.trySlots (s : State) : List Nat → State × Bool
  | [] => (s, false)
  | i :: r =>
    let t := s.trySlot i
    if t.2 then t else t.1.trySlots r

/-- SEC_STRAP.BOOTSRC. -/
def State.bootSrc (s : State) : Nat := s.fld Reg.SEC_STRAP 1 2

/-- Boot without an accepted flash image: the host's turn, or the end (R345, R346). -/
def State.bootHost (s : State) : State :=
  let s := s.setFld Reg.SEC_BOOT 0 2 3
  if s.bootSrc = 0 ∨ s.bootSrc = 2 then { s with boot := { s.boot with hostWait := true } }
  else { s with boot := { s.boot with stopped := true } }

/-- The SRAM rows that the self-test of this boot finds failing (R340, R358). -/
def State.failingRows (s : State) : List Nat := (s.boot.badRows.filter fun r => decide (r < 65536)).eraseDups

/-- The rows that fail self-test are replaced by spare ones (R340, R358). -/
def State.repairRows (s : State) : State :=
  if s.failingRows = [] then s else (s.setFld Reg.REL_REPAIR 0 9 s.failingRows.length).spareBits

/-- The boot sequence from the choice of the candidate on (R339, R340, R342). -/
def State.bootSlots (s : State) : State :=
  if s.bootSrc = 2 then s.bootHost
  else
    let s := [0, 1].foldl (fun s i => if (s.slot i).candidate then s else s.reason i 1) s
    let r := s.trySlots s.candidates
    if r.2 then r.1 else r.1.bootHost

/-- The boot sequence from the SRAM self-test on: more failing rows than there are spare ones stop it with reason 7 (R340,
R345). -/
def State.bootRun (s : State) : State :=
  if 256 < s.failingRows.length then s.bootStop [0, 1, 2] 7 else s.repairRows.bootSlots

/-! ### The PLL (R44, R45, R314) -/

/-- The PLL locks, in at most 30,000 ticks (R314); on the first lock in BOOT the time base starts, valid, and boot goes on. -/
def State.lockPll (s : State) : State :=
  if s.pwr.refOk = false ∨ s.pwr.locked ∨ s.mode = Mode.off ∨ (s.mode = Mode.doze ∧ s.pwr.wake = false) then s
  else
    let t := (Config.freeWord s.fresh).toNat
    let s := { s.nextFresh with pwr := { s.pwr with locked := true } }.setN Reg.CLK_LOCK_TICKS (t % 30001)
    if s.tb.running then s
    else ({ s with tb := { s.tb with running := true } }.setValid true).bootRun

/-- PLL_LOCK (R314). -/
def execPllLock (s : State) : Host.Outcome State Fault Refusal := .next s.lockPll

/-- The PLL loses lock with the reference present. -/
def State.unlockPll (s : State) : State :=
  if s.pwr.refOk = false ∨ s.pwr.locked = false ∨ s.mode = Mode.off ∨ s.mode = Mode.doze then s
  else
    let s := ({ s with pwr := { s.pwr with locked := false } }.setBit Reg.CLK_STATUS 3 true).incSat Reg.CLK_UNLOCK_CNT 0 32
    (s.setValid false).safeCause 5

/-- PLL_UNLOCK (R314). -/
def execPllUnlock (s : State) : Host.Outcome State Fault Refusal := .next s.unlockPll

/-! ### Host boot (R346) -/

/-- SEC_HBOOT_CTRL.STATE: 0 waiting, 1 reading, 2 accepted, 3 rejected. -/
def State.hbootState (s : State) (v : Nat) : State := s.setFld Reg.SEC_HBOOT_CTRL 1 3 v

/-- The host's image is read once the PF masters the bus, checked, and accepted or rejected. -/
def State.judgeHboot (s : State) : State :=
  match s.boot.hboot with
  | none => s
  | some im =>
    if (s.fn 0).bme = false then s
    else
      let s := { s with boot := { s.boot with hboot := none } }
      let im := im.upTo (s.regN Reg.SEC_HBOOT_LEN)
      let code := s.imageCheck im
      if code = 0 then (s.hbootState 2).accept 2 2 0 0 im
      else (s.hbootState 3).reason 2 code

/-- GO, with the image at SEC_HBOOT_ADDR, of SEC_HBOOT_LEN bytes; ignored while an image is being read. -/
def State.hbootGo (s : State) (im : ImageInfo) : State :=
  if s.mode ≠ Mode.boot ∨ s.boot.hostWait = false ∨ s.boot.hboot.isSome then s
  else ({ s with boot := { s.boot with hboot := some im } }.hbootState 1).judgeHboot

/-- SEC_HBOOT_CTRL_GO (R346). -/
def execSecHbootCtrlGo (image : ImageInfo) (s : State) : Host.Outcome State Fault Refusal :=
  .next (s.pf 5 (Reg.SEC_HBOOT_CTRL % 0x1000) 1 (fun s => s.hbootGo image))

/-- A configuration write of a function's power management register: PME_En, and 1 written to PME_Status (R283). -/
def State.configurePme (s : State) (fn : Nat) (pmeEn : Option Bool) (pmeClear : Bool) : State :=
  let f := s.fn fn
  s.setFn fn { f with pmeEn := pmeEn.getD f.pmeEn, pmeStatus := f.pmeStatus && !pmeClear }

/-- A configuration write: a host boot that waited for Bus Master Enable goes on (R269, R346). -/
def State.configWrite (s : State) (fn : Nat) (bme vfEnable pmeEn : Option Bool) (more : ConfigMore) : State :=
  (((s.configure fn bme vfEnable).configurePme fn pmeEn more.pmeClear).configureL1 fn more.l1).judgeHboot

/-- CONFIGURATION_WRITE (R269, R346). -/
def execConfigurationWrite (fn : Nat) (bme vfEnable pmeEn : Option Bool) (more : ConfigMore) (s : State) :
    Host.Outcome State Fault Refusal :=
  onUnit (okFn fn) (s.config fn (.config bme vfEnable pmeEn more) fun s => s.configWrite fn bme vfEnable pmeEn more)

/-- A configuration request that the link held acts (R329). -/
def State.heldConfig (s : State) (fn : Nat) (r : ConfigReq) : State :=
  match r with
  | .config b v p m => s.config fn r fun s => s.configWrite fn b v p m
  | .sleep cold => s.config fn r fun s => s.sleep fn cold
  | .awake => s.config fn r fun s => s.awake fn
  | .msix v w => s.config fn r fun s => s.writeMsix fn v w

/-! ### CONFIRM and anti-rollback (R342, R347) -/

/-- The modes in which CONFIRM and RBCOMMIT are accepted. -/
def State.secMode (s : State) : Bool := s.service || decide (s.mode = Mode.provision)

/-- SEC_BOOT.SLOT. -/
def State.bootedSlot (s : State) : Nat := s.fld Reg.SEC_BOOT 0 2

/-- CONFIRM marks the booted slot GOOD. -/
def State.confirm (s : State) : State :=
  if s.secMode = false ∨ 2 ≤ s.bootedSlot then s
  else
    let s := s.setSlot s.bootedSlot { s.slot s.bootedSlot with state := SlotState.good, boots := 0 }
    (s.setFld Reg.SEC_BOOT 2 2 1).setFld Reg.SEC_BOOT 16 2 0

/-- RBCOMMIT raises the counter to the booted image's ROLLBACK. -/
def State.rbCommit (s : State) (key : Nat) : State :=
  if key = 0x5EC0 ∧ s.secMode ∧ s.bootedSlot < 2 ∧ s.fld Reg.SEC_BOOT 2 2 = 1 then
    { s with boot := { s.boot with burning := some (max s.boot.fuses (min 64 (s.fld Reg.SEC_RB 8 8))) } }
  else s.pgErr 5 17

/-- A write of SEC_CTRL (R385). -/
def State.writeSecCtrl (s : State) (v : Nat) : State :=
  let s := if bitAt v 0 then s.confirm else s
  if bitAt v 1 then s.rbCommit (bits v 16 16) else s

/-- SEC_CTRL_CONFIRM (R342). -/
def execSecCtrlConfirm (value : Nat) (s : State) : Host.Outcome State Fault Refusal :=
  .next (s.pf 5 0x58 (Nat.lor value 1) (fun s => s.writeSecCtrl (Nat.lor value 1)))

/-- SEC_CTRL_RBCOMMIT (R347). -/
def execSecCtrlRbcommit (value : Nat) (s : State) : Host.Outcome State Fault Refusal :=
  .next (s.pf 5 0x58 (Nat.lor value 2) (fun s => s.writeSecCtrl (Nat.lor value 2)))

/-- FUSE_BURN_COMPLETE (R347). -/
def execFuseBurnComplete (s : State) : Host.Outcome State Fault Refusal :=
  .next (match s.boot.burning with
    | some n => { s with boot := { s.boot with burning := none, fuses := n } }
    | none => s)

/-! ### Writing an image (R348, R349) -/

/-- The slot an image is written to. -/
def State.imgTarget (s : State) : Nat :=
  if s.bootedSlot = 0 then 1
  else if s.bootedSlot = 1 then 0
  else if (s.slot 0).state = SlotState.good ∧ (s.slot 1).state = SlotState.good ∧ (s.slot 1).gen < (s.slot 0).gen then 1
  else 0

/-- An apply is running. -/
def State.applying (s : State) : Bool := s.boot.apply.isSome

/-- SEC_IMG_CTRL.CODE of a refused write or apply. -/
def State.imgCode (s : State) (code : Nat) : State := s.setFld Reg.SEC_IMG_CTRL 16 8 code

/-- WRITE: the state sector of the target slot is erased and the image is read. -/
def State.imgWrite (s : State) : State :=
  if s.boot.writing ∨ s.applying then s.imgCode Code.rejectCapacity
  else
    let i := s.imgTarget
    let s := (s.setSlot i { s.slot i with state := SlotState.empty }).imgEnd 1 Code.ok 0
    { s with boot := { s.boot with writing := true, target := i } }

/-- An image write fails. -/
def State.imgFailed (s : State) (code step : Nat) : State := (s.imgEnd 4 code step).pgErr 5 16

/-- The image stands in its slot, TRIAL, one generation after the booted one. -/
def State.imgStored (s : State) (im : ImageInfo) : State :=
  let v : Slot := { gen := (s.regN Reg.SEC_GEN + 1) % 2 ^ 32, state := SlotState.trial, image := im }
  (s.setSlot s.boot.target v).imgEnd 3 Code.ok 0

/-- An image write ends (R348): a host read that failed, a check that failed, or the TRIAL state sector. -/
def State.imgComplete (s : State) (im : ImageInfo) (failed : Bool) : State :=
  if s.boot.writing = false ∨ s.pairUp 1 = false ∨ s.mode = Mode.doze then s
  else
    let s := { s with boot := { s.boot with writing := false } }
    let im := im.upTo (s.regN Reg.SEC_IMG_LEN)
    let code := s.imageCheck im
    let s := if failed ∨ im.readOk = false then s.imgFailed Code.busError 6
      else if code ≠ 0 then s.imgFailed Code.rejectClass code
      else s.imgStored im
    (s.relRecord 0 (s.fld Reg.SEC_IMG_CTRL 16 8) 11 0x06 0 0).raise 0x3440

/-- IMAGE_WRITE_COMPLETE (R348). -/
def execImageWriteComplete (image : ImageInfo) (failed : Bool) (s : State) : Host.Outcome State Fault Refusal :=
  .next (s.imgComplete image failed)

/-! ### Applying an image (R352-R354) -/

/-- The slot an apply takes its parts from: the candidate that did not boot. -/
def State.applySlot (s : State) : Option Nat := s.candidates.find? fun i => decide (i ≠ s.bootedSlot)

/-- The port check of R353: with ports configured, fewer than two of them have PLCA active. Where none is configured, the condition
does not hold the update up (log entry 30). -/
def State.portsShort (s : State) : Bool :=
  decide (s.ensPorts ≠ []) && decide ((s.ensPorts.filter fun n => s.bit (Reg.ENP_STATUS n) 1).length < 2)

/-- A spare tray is free for an update (R177, R354). -/
def State.spareFree (s : State) : Bool := decide (s.spareTray < 9) && !s.rebuilding && s.upd.isNone

/-- The code that refuses an apply as a whole, with nothing changed. -/
def State.applyCode (s : State) (parts : Nat) : Nat :=
  match s.applySlot with
  | none => Code.rejectClass
  | some i =>
    let im := (s.slot i).image
    let run := s.fld Reg.ENS_VER 16 8
    if bitAt parts 2 ∧ s.baseResumes im.basever = false then Code.rejectClass
    else if run ≠ 0 ∧ (run < im.vmin ∨ im.vmax < run) then Code.versionExcluded
    else if s.bit Reg.PWR_STATUS 7 ∨ s.boot.writing ∨ s.applying ∨ (bitAt parts 1 ∧ s.portsShort)
      ∨ (bitAt parts 2 ∧ s.spareFree = false) then Code.rejectCapacity
    else Code.ok

def State.setApply (s : State) (a : Option Apply) : State := { s with boot := { s.boot with apply := a } }

/-- The active core of a steward pair. -/
def State.activeCore (s : State) (p : Nat) : Nat := if s.bit Reg.REL_STEWARD (4 + 2 * p) then 2 * p else 2 * p + 1

/-- The steward part of a pair: the standby has loaded the new firmware and takes over, and the core that was active loads it
(R352). -/
def State.loadPair (s : State) (a : Apply) (p : Nat) : State :=
  let c := s.activeCore p
  ((s.dropCore c).setBit Reg.REL_STEWARD (4 + mateOf c) true).setApply (some { a with core := some c })

/-- The parts that come after the ports: the base set, which starts with tray 0 (R354), or the end of the apply. -/
def State.applyBase (s : State) (a : Apply) : State :=
  if bitAt a.parts 2 then
    let u : Update := { apply := true, basever := a.basever, todo := List.range 8 }
    ({ (s.noticeAll 0).setApply (some { a with part := 2 }) with upd := some u }.imgEnd 2 Code.ok 2).nextTray u 0
  else (s.setApply none).imgEnd 3 Code.ok a.part

/-- The next port to be updated goes down for at most 20 ms: how long is a free value. After the last one the part ends
(R353). -/
def State.nextPort (s : State) (a : Apply) : State :=
  match a.ports with
  | [] => (s.noticeAll 1).applyBase { a with port := none }
  | n :: r =>
    let t := s.tick + (Config.freeWord s.fresh).toNat % 30000001
    ((s.nextFresh.setApply (some { a with ports := r, port := some n, until_ := t })).setFld (Reg.ENP_STATUS n) 1 2 0).updPhase

/-- The parts that come after the steward: the configured ports in ascending order, and the base set (R352, R353). -/
def State.applyPorts (s : State) (a : Apply) : State :=
  if bitAt a.parts 1 then
    ((s.noticeAll 0).imgEnd 2 Code.ok 1).nextPort { a with part := 1, ports := s.ensPorts }
  else s.applyBase a

/-- The parts run in the order steward, ports, base set; of the steward, pair 1 first. -/
def State.applyParts (s : State) (a : Apply) : State :=
  if bitAt a.parts 0 then ((s.noticeAll 0).imgEnd 2 Code.ok 0).loadPair a 1 else s.applyPorts a

/-- An apply waits for a core to have loaded the new firmware. -/
def State.loading (s : State) (c : Nat) : Bool := s.boot.apply.any fun a => a.core == some c

/-- A core has loaded the new firmware: pair 0 follows pair 1, and then the steward part ends (R352). -/
def State.coreLoaded (s : State) (c : Nat) : State :=
  match s.boot.apply with
  | none => s
  | some a =>
    if a.core ≠ some c then s
    else if 2 ≤ c then s.loadPair a 0
    else ((s.setN Reg.SEC_VER_FW a.fwver).noticeAll 1).applyPorts { a with core := none }

/-- The update of a port is over: it is up again, and the next one follows (R353). -/
def State.portBack (s : State) (a : Apply) (n : Nat) : State :=
  (s.setEnp n { s.enp n with lastBeacon := some s.tick }).nextPort a

/-- The ports part of an apply goes on as time passes; after a DOZE the port that it abandoned is updated again (R353, R355). -/
def State.applyTick (s : State) : State :=
  match s.boot.apply with
  | none => s
  | some a =>
    if a.part ≠ 1 ∨ s.mode = Mode.off ∨ s.mode = Mode.doze then s
    else match a.port with
      | some n => if s.tick < a.until_ then s else s.portBack a n
      | none => s.nextPort a

/-- One tick: the time base and what follows it, and the work of an apply (log entry 1). -/
def State.passTick (s : State) : State := s.tbTick.applyTick

/-- APPLY with the parts in PARTS. -/
def State.imgApply (s : State) : State :=
  let parts := s.fld Reg.SEC_IMG_CTRL 4 3
  let code := s.applyCode parts
  if code ≠ Code.ok then s.imgCode code
  else match s.applySlot with
    | some i => (s.relRecord 0 Code.ok 11 0x06 i 0).applyParts
        { fwver := (s.slot i).image.fwver, basever := (s.slot i).image.basever, parts := parts }
    | none => s

/-- A write of SEC_IMG_CTRL (R385): PARTS takes its value; in BOOT, or with pair 1 down, no steward serves the command bits
(R350). -/
def State.writeImgCtrl (s : State) (view v : Nat) : State :=
  let s := s.setFld Reg.SEC_IMG_CTRL 4 3 (bits (viewWrite view (s.regN Reg.SEC_IMG_CTRL) v) 4 3)
  if view ≠ 0 then s
  else if bitAt v 0 ∧ bitAt v 1 then s.cmdRefused 5
  else if s.mode = Mode.boot ∨ s.pairUp 1 = false then s
  else if bitAt v 0 then s.imgWrite
  else if bitAt v 1 then s.imgApply
  else s

/-- SEC_IMG_CTRL_WRITE (R348). -/
def execSecImgCtrlWrite (value : Nat) (s : State) : Host.Outcome State Fault Refusal :=
  .next (s.pf 5 0x6C (Nat.lor value 1) (fun s => s.writeImgCtrl 0 (Nat.lor value 1)))

/-- SEC_IMG_CTRL_APPLY (R352). -/
def execSecImgCtrlApply (value : Nat) (s : State) : Host.Outcome State Fault Refusal :=
  .next (s.pf 5 0x6C (Nat.lor value 2) (fun s => s.writeImgCtrl 0 (Nat.lor value 2)))

end Sys2Proof.Machine
end

