-- ==== Sys2Proof/Machine/Repair.lean ====
section
/-! DEFINITION. Steward redundancy and the protection of memory (R350, R351, R356-R358). -/

namespace Sys2Proof.Machine

open Sys2Proof

/-! ### Steward cores (R350, R351) -/

/-- STEWARD_FAILOVER (R350). -/
def execStewardFailover (core : Nat) (s : State) : Host.Outcome State Fault Refusal := onUnit (okCore core) (s.coreFails core)

/-- A restarted core passes its self-test and is the standby again, or it has failed once more. In an apply this ends the loading of
a core with the new firmware (R352), or stops the apply (R355). -/
def State.resync (s : State) (c : Nat) (pass : Bool) : State :=
  if s.coreUp c ∨ s.bit Reg.REL_STEWARD (8 + c) ∨ s.coreUp (mateOf c) = false ∨ s.mode = Mode.off ∨ s.mode = Mode.doze then s
  else if pass then (s.setBit Reg.REL_STEWARD c true).updSingle.coreLoaded c
  else if s.loading c then (s.countFailure c).updSingle.stopApply Code.rejectCapacity
  else s.countFailure c

/-- STEWARD_RESYNC (R350). -/
def execStewardResync (core : Nat) (pass : Bool) (s : State) : Host.Outcome State Fault Refusal :=
  onUnit (okCore core) (s.resync core pass)

/-! ### SRAM (R356, R358) -/

/-- The 1 KB row of an 8-byte word. -/
abbrev rowOfWord (w : Nat) : Nat := w / 128

/-- A correctable word is written back: counted, with one record a row and pass. -/
def State.scrubSoft (s : State) (w : Nat) : State :=
  let r := rowOfWord w
  let s := { s with eccSoft := s.eccSoft.filter (· != w) }.incSat Reg.REL_CORR_CNT 0 32
  let first := !s.rel.recorded.contains r
  let s := { s with rel := { s.rel with rowCorr := Tbl.set 0 s.rel.rowCorr r (Tbl.get 0 s.rel.rowCorr r + 1),
                                        recorded := if first then s.rel.recorded ++ [r] else s.rel.recorded } }
  if first then s.relRecord 1 Code.ok 1 0x13 0 (w * 8) else s

/-- An uncorrectable word stays marked: counted and recorded. -/
def State.scrubBad (s : State) (w : Nat) : State :=
  let s := { s with eccBad := if s.eccBad.contains w then s.eccBad else s.eccBad ++ [w],
                    eccSoft := s.eccSoft.filter (· != w) }
  (s.incSat Reg.REL_UNC_CNT 0 32).relRecord 2 Code.slabEcc 2 0x13 0 (w * 8)

/-- The position in the pass; the last word ends it. -/
def State.scrubPos (s : State) (w : Nat) : State :=
  if w = 8388607 then
    { (s.incWrap Reg.REL_SCRUB 0 16).setFld Reg.REL_SCRUB 16 16 0 with rel := { s.rel with rowCorr := [], recorded := [] } }
  else s.setFld Reg.REL_SCRUB 16 16 (rowOfWord w)

/-- The scrubber reads a word: clean (0), with a correctable error (1) or an uncorrectable one (2), besides what
stands in it. -/
def State.scrubWord (s : State) (w err : Nat) : State :=
  if s.mode = Mode.off ∨ s.mode = Mode.doze then s
  else
    let s := if err = 2 ∨ s.eccBad.contains w then s.scrubBad w
      else if err = 1 ∨ s.eccSoft.contains w then s.scrubSoft w
      else s
    s.scrubPos w

/-- SCRUB (R356). -/
def execScrub (word err : Nat) (s : State) : Host.Outcome State Fault Refusal :=
  onUnit (okWord64 word && okErr err) (s.scrubWord word err)

/-- A row is replaced by a spare one. The copy is made with corrections, and an uncorrectable word keeps its mark (R358). -/
def State.useSpare (s : State) (r : Nat) : State :=
  let t : State := { s with rel := { s.rel with rowCorr := Tbl.set 0 s.rel.rowCorr r 0 },
                            eccSoft := s.eccSoft.filter fun w => decide (rowOfWord w ≠ r) }
  ((t.setFld Reg.REL_REPAIR 16 9 (s.fld Reg.REL_REPAIR 16 9 + 1)).relRecord 1 Code.ok 10 0x13 0 (r * 1024)).spareBits

/-- A row over the threshold is remapped while spares remain. -/
def State.remapRow (s : State) (r : Nat) : State :=
  let n := s.fld Reg.REL_RCFG 0 4
  if n = 0 ∨ Tbl.get 0 s.rel.rowCorr r < n ∨ s.sparesLeft = 0 ∨ s.mode = Mode.off ∨ s.mode = Mode.doze then s
  else s.useSpare r

/-- ROW_REMAP (R358). -/
def execRowRemap (row : Nat) (s : State) : Host.Outcome State Fault Refusal := onUnit (okRow row) (s.remapRow row)

/-! ### Control stores (R357) -/

/-- The scrubber of a control store reads a word: a correctable one is rewritten, an uncorrectable one marked. -/
def State.scrubCs (s : State) (t a err : Nat) : State :=
  let k := csKey t a
  if s.mode = Mode.off ∨ s.mode = Mode.doze then s
  else if err = 2 ∨ s.csBad.contains k then
    let s := { s with csBad := if s.csBad.contains k then s.csBad else s.csBad ++ [k],
                      csSoft := s.csSoft.filter (· != k) }
    ((s.relRecord 2 Code.ok 2 0x21 t a).trayPulse t 3).pgErr (0x30 + t) 16
  else if err = 1 ∨ s.csSoft.contains k then
    ({ s with csSoft := s.csSoft.filter (· != k) }.incSat (Reg.TRY_ECC_CNT t) 0 32).trayPulse t 2
  else s

/-- CS_SCRUB (R357). -/
def execCsScrub (tray addr err : Nat) (s : State) : Host.Outcome State Fault Refusal :=
  onUnit (okTray tray && okCsAddr addr && okErr err) (s.scrubCs tray addr err)

/-- The steward rewrites an uncorrectable word from its image copy. -/
def State.repairCs (s : State) (t a : Nat) : State :=
  if s.pairUp 1 = false ∨ s.mode = Mode.off ∨ s.mode = Mode.doze then s
  else { s with csBad := s.csBad.filter (· != csKey t a) }

/-- CS_REPAIR (R357). -/
def execCsRepair (tray addr : Nat) (s : State) : Host.Outcome State Fault Refusal :=
  onUnit (okTray tray && okCsAddr addr) (s.repairCs tray addr)

end Sys2Proof.Machine
end

