-- ==== Sys2Proof/Machine/Commit.lean ====
section
/-! DEFINITION. The sums of admission (R115, R118), and what a commit of pages does on its tick (R17, R21, R23,
R36-R38, R54, R73, R118, R196, R241, R388). -/

namespace Sys2Proof.Machine

open Sys2Proof

/-! ### The sums of admission (R115, R118) -/

/-- The sum of a number over every contract, by queue class. -/
def State.sumContracts (s : State) (f : Nat → Contract → Nat) : Nat :=
  (s.queues.map fun e => match e.2.contract with | some k => f e.2.cls k | none => 0).foldl (· + ·) 0

/-- Device rate (R115). -/
def State.devRate (s : State) : Nat := s.sumContracts fun cls k => if cls = 2 then 3 * k.rate else k.rate

/-- Device burst (R115). -/
def State.devBurst (s : State) : Nat := s.sumContracts fun cls k => if cls = 2 then 3 * k.burst else k.burst

/-- Tray rate (R115): timed queues bound to contexts of the tray, and guarded queues that vote there. -/
def State.trayRate (s : State) (t : Nat) : Nat :=
  (s.queues.map fun e => match e.2.contract with
    | none => 0
    | some k =>
      if e.2.cls = 2 then (if k.trays.contains t then k.rate else 0)
      else if e.2.ttype = 5 ∧ s.physOf (e.2.target / 256) = t then k.rate else 0).foldl (· + ·) 0

/-- Some guarded contract is admitted. -/
def State.anyGuarded (s : State) : Bool := s.queues.any fun e => e.2.contract.isSome && decide (e.2.cls = 2)

/-- ADM_DEV_BURST.DLEAD_MIN (R118). -/
def State.dleadMin (s : State) : Nat :=
  max (64 + (s.devBurst + 2) / 3) (if s.anyGuarded then 128 else 64)

/-! ### What a commit makes of staged values -/

/-- Sets a field of a staged value. -/
def State.stageFld (s : State) (k lo n v : Nat) : State := s.setStaged k (word (putBits (s.staged k).toNat lo n v))

/-- Reloads a field of the shadow from the value in effect. -/
def State.unstage (s : State) (k lo n : Nat) : State := s.stageFld k lo n (s.fld k lo n)

/-- The value a register takes where its field has a range of its own: SCH_CTRL.DLEAD (R92, R118), ADM_LEAD_DEF
(R128), TRY_BPTO (R167), PIO_BITP (R200), FBK_SPDCFG.WIN and FBK_SSICLK (R223), ENS_GUARD and ENS_HBPER (R244),
ENP_PLCA.MAXFRAME (R245). -/
def State.inRange (s : State) (k v : Nat) : Nat :=
  let p := pageOf k
  let o := k % 0x1000
  if k = Reg.SCH_CTRL then putBits v 0 11 (max s.dleadMin (min 1024 (max 64 (bits v 0 11))))
  else if k = Reg.ADM_LEAD_DEF then putBits v 0 24 (max 12000 (bits v 0 24))
  else if 0x30 ≤ p ∧ p < 0x39 ∧ o = 0x48 then putBits v 0 16 (max 16 (bits v 0 16))
  else if 0x40 ≤ p ∧ p < 0x60 ∧ 0x200 ≤ o ∧ (o - 0x200) % 0x200 = 0x10 then max 0x1000 v
  else if 0x60 ≤ p ∧ p < 0x68 ∧ 0x200 ≤ o ∧ (o - 0x200) % 0x100 = 0x40 then putBits v 0 4 (min 8 (bits v 0 4))
  else if 0x60 ≤ p ∧ p < 0x68 ∧ 0x200 ≤ o ∧ (o - 0x200) % 0x100 = 0xAC then v / 2 * 2
  else if k = Reg.ENS_GUARD then putBits v 0 28 (max 300000 (bits v 0 28))
  else if k = Reg.ENS_HBPER then putBits v 0 16 (max 1000 (bits v 0 16))
  else if 0xC1 ≤ p ∧ p < 0xC5 ∧ o = 0x44 then putBits v 16 11 (max 64 (min 1522 (bits v 16 11)))
  else v

/-- The staged values of a page are brought into their ranges. -/
def State.clampPage (s : State) (page : Nat) : State :=
  (s.dirtyKeys page).foldl (fun s k => s.setStaged k (word (s.inRange k (s.staged k).toNat))) s

/-- A committed stagger period of 1 to 31 becomes 0 (R38). -/
def State.screenGroup (s : State) (g : Nat) : State :=
  let p := s.stagedPair (Reg.TB_SG_PERIOD_L g) (Reg.TB_SG_PERIOD_H g)
  if 0 < p ∧ p < 32 then (s.setStaged (Reg.TB_SG_PERIOD_L g) 0).setStaged (Reg.TB_SG_PERIOD_H g) 0 else s

/-- A staged bit of a register. -/
def State.stagedBit (s : State) (k i : Nat) : Bool := bitAt (s.staged k).toNat i

/-- The register of a pair's configuration. -/
abbrev pairKey (p : Nat) : Nat := Reg.SLV_PAIR_CFG (p / 16) (p % 16)

/-- The staged values give a leg of an enabled pair an Apron that R73 forbids. -/
def State.legConflict (s : State) (c : Nat) : Bool :=
  s.stagedBit (pairKey (c / 2)) 0
    && !apronFits (s.stagedBit (Reg.CUF_CFG c) 2) (bits (s.staged (Reg.CUF_CFG c)).toNat 4 2)

/-- The commit keeps every field of the conflict at its value in effect (R73). -/
def State.keepLeg (s : State) (c : Nat) : State :=
  let s := (s.unstage (Reg.CUF_CFG c) 2 1).unstage (Reg.CUF_CFG c) 4 2
  let s := if s.pairEn (c / 2) then s else s.unstage (pairKey (c / 2)) 0 1
  s.cufErr c 5

/-- A toggle cuff is granted to a port only where it fits (R214): a commit that would grant another one keeps TGL and TCUFF at
their values in effect and is refused with REJECT_CLASS (log entry 21). -/
def State.screenToggle (s : State) (p : Nat) : State :=
  let k := Reg.FBK_CMPCFG p
  let v := (s.staged k).toNat
  if bitAt v 4 ∧ ((bitAt v 4, bits v 16 10) ≠ (s.bit k 4, s.fld k 16 10)) ∧ s.toggleFits p (bits v 16 10) = false then
    ((s.unstage k 4 1).unstage k 16 10).cmdRefused (fbkPage p)
  else s

/-- What a commit screens on a page before it applies its shadow. -/
def State.screenPage (s : State) (page : Nat) : State :=
  let s := s.clampPage page
  if page = 3 then (List.range 64).foldl State.screenGroup s
  else if 0x10 ≤ page ∧ page < 0x30 then ((sleeveCuffs (page - 0x10)).filter s.legConflict).foldl State.keepLeg s
  else if 0x60 ≤ page ∧ page < 0x68 then ((List.range 8).map ((page - 0x60) * 8 + ·)).foldl State.screenToggle s
  else s

/-- A register's staged value takes effect, and shadow and value in effect are equal again (R17). -/
def State.applyKey (s : State) (k : Nat) : State :=
  { s.setReg k (s.staged k) with shadow := Tbl.drop s.shadow k }

/-- Every staged register of a page takes effect (R17). -/
def State.applyPage (s : State) (page : Nat) : State := (s.dirtyKeys page).foldl State.applyKey s

/-- A page of the ensemble: ENS or an ENP (R241). -/
def ensPage (page : Nat) : Bool := decide (0xC0 ≤ page ∧ page < 0xC5)

/-! ### What follows on the commit tick -/

/-- A register differs between two states. -/
def State.differs (old s : State) (k : Nat) : Bool := old.reg k != s.reg k

/-- The periodic settings of a cuff changed. -/
def State.perChanged (old s : State) (c : Nat) : Bool :=
  [Reg.CUF_PER_CTRL c, Reg.CUF_PER_L c, Reg.CUF_PER_H c, Reg.CUF_PER_W_L c, Reg.CUF_PER_W_H c, Reg.CUF_PER_OFF_L c,
    Reg.CUF_PER_OFF_H c].any (State.differs old s)

/-- A periodic cuff whose settings changed: it stops where it waits for a global start, has no place in its group, or
fails the limits (R36, R54, R55). -/
def State.judgePeriodic (s : State) (c : Nat) : State :=
  if s.cuffMode c ≠ 1 ∨ (s.pairEn (c / 2) ∧ c % 2 = 1) then s
  else if s.bit (Reg.CUF_PER_CTRL c) 7 ∨ (s.perSet c).live = false then s.setCuff c { s.cuff c with perRun := false }
  else if s.perFits c = false then (s.setCuff c { s.cuff c with perRun := false }).cufErr c 4
  else s

/-- A cuff on the commit tick of its page. -/
def State.cuffCommitted (old s : State) (c : Nat) : State :=
  let m := s.cuffMode c
  let moved := decide (old.cuffMode c ≠ m)
  let s := if moved then s.setCuff c { s.cuff c with perRun := false } else s
  let s := if moved ∧ s.outputOn c = false ∧ (s.cuff c).apron = false then
      (s.setCuff c { s.cuff c with edges := [] }).floatCuff c else s
  let s := if old.fld (Reg.CUF_CFG c) 4 2 ≠ s.fld (Reg.CUF_CFG c) 4 2 ∧ (s.cuff c).apron ∧ (s.cuff c).held = false then
      s.apronLevel c else s
  let s := if moved ∨ State.perChanged old s c then s.judgePeriodic c else s
  let s := if (moved ∨ State.perChanged old s c) ∧ old.pairEn (c / 2) = s.pairEn (c / 2) then s.followPhase c else s
  if State.differs old s (Reg.CUF_SKEW c) then s.setCuff c { s.cuff c with skewPend := true } else s

/-- A leg of a pair that is enabled: inactive, unless it stands at Apron (R388). -/
def State.startLeg (s : State) (c : Nat) : State :=
  let s := s.setCuff c { s.cuff c with perRun := false }
  if (s.cuff c).apron then s else s.legOff c

/-- A leg of a pair that is disabled keeps its level (R388). -/
def State.leaveLeg (s : State) (c : Nat) : State := s.setCuff c { s.cuff c with edges := [], perRun := false }

/-- A pair on the commit tick of its page (R388). -/
def State.pairCommitted (old s : State) (p : Nat) : State :=
  let was := old.pairEn p
  let is := s.pairEn p
  if was = is then s
  else if is then
    let s := (s.setPairSt p {}).startLeg (2 * p) |>.startLeg (2 * p + 1)
    (s.rejudge 1 (2 * p)).rejudge 1 (2 * p + 1)
  else
    let s := (s.setPairSt p {}).leaveLeg (2 * p) |>.leaveLeg (2 * p + 1)
    let s := s.setBit (Reg.SLV_GDSTATE (p / 16)) (16 + p % 16) false
    (s.rejudge 1 (2 * p)).rejudge 1 (2 * p + 1)

/-- A change of SLV_GDPOL turns what its inputs assert (R66). -/
def State.guardFlip (s : State) (n g : Nat) : State :=
  if s.bit (Reg.SLV_GDSTATE n) g then s.setBit (Reg.SLV_GDSTATE n) g false else s.guardOn n g

/-- A sleeve page on its commit tick. -/
def State.sleeveCommitted (old s : State) (n : Nat) : State :=
  let s := ((List.range 16).map (n * 16 + ·)).foldl (State.pairCommitted old) s
  let s := (sleeveCuffs n).foldl (State.cuffCommitted old) s
  (bitList 8 (Nat.xor (old.regN (Reg.SLV_GDPOL n)) (s.regN (Reg.SLV_GDPOL n)))).foldl (fun s g => s.guardFlip n g) s

/-- The members of a stagger group. -/
def State.sgMembers (s : State) (g : Nat) : List Nat :=
  ((Tbl.keys s.regs).filterMap fun k => match cuffOfKey k with
    | some (c, o) => if o = 4 ∧ s.bit k 6 ∧ s.fld k 0 6 = g then some c else none
    | none => none).eraseDups

/-- A stagger group on the commit tick of the TB page (R37, R38). -/
def State.sgCommitted (old s : State) (g : Nat) : State :=
  if [Reg.TB_SG_PERIOD_L g, Reg.TB_SG_PERIOD_H g, Reg.TB_SG_COUNT g, Reg.TB_SG_BASE_L g, Reg.TB_SG_BASE_H g].any
      (State.differs old s) then (s.sgMembers g).foldl (fun s c =>
        let s := s.judgePeriodic c
        if (s.cuff c).perRun then s.followPhase c else s) s
  else s

/-- PIO_BITP takes effect at the next boundary, which is that of an instruction due now (R196). -/
def State.newBitp (old s : State) (e : Nat) : State :=
  let k := s.pio e
  let n := old.nextBit e (s.pioNow e)
  let n := if k.st = 1 ∧ k.bit < n then k.bit else n
  (s.rebase e (old.boundary e n) n).refeed e

/-- A PIO engine on the commit tick of its page (R182, R196); an instruction in progress completes under the old contents. -/
def State.pioCommitted (old s : State) (e : Nat) : State :=
  let s := if State.differs old s (Reg.PIO_BITP e) then State.newBitp old s e else s
  let reps := s.fld (Reg.PIO_LOOP e) 16 16
  let s := if old.fld (Reg.PIO_LOOP e) 16 16 ≠ reps then s.setPio e { s.pio e with left := reps } else s
  if (s.pio e).st = 0 then s
  else if s.pcfg e 2 ∧ (s.pio e).count ≤ s.clkPin e then s.stopAt e 9
  else if s.bitpFits e = false then s.stopAt e 3
  else s

/-- A feedback port takes a new mode: no frame goes on, the speed window restarts, the lines are taken as they stand,
and in SSI mode the clock rests high on P (R202, R203, R216). -/
def State.portMode (s : State) (p : Nat) : State :=
  let k := s.port p
  let s := (s.setFbkStat p 4 false).restartSpeed p []
  let s := s.setPort p { s.port p with a := (s.cuff k.base).pad, b := (s.cuff (k.base + 2)).pad, reqAt := none,
                                       ended := none, undo := none, prevPos := none, lastReq := s.tick, lastTick := s.tick,
                                       line := [], trail := [], past := [], quad := none, lastCount := none }
  s.restSsi p

/-- A feedback port on the commit tick of its page. -/
def State.portCommitted (old s : State) (p : Nat) : State :=
  let s := if old.fbkMode p ≠ s.fbkMode p then s.portMode p else s
  if old.fld (Reg.FBK_CFG p) 2 2 ≠ s.fld (Reg.FBK_CFG p) 2 2 then s.restartSpeed p [] else s

/-- The ENS page on its commit tick: an enabled ensemble joins, a disabled one forgets its members (R232). -/
def State.ensCommitted (old s : State) : State :=
  let was := old.bit Reg.ENS_CFG 0
  let is := s.bit Reg.ENS_CFG 0
  let s := if was = is then s
    else if is then { s with ens := { s.ens with measured := false } }.setEnst 1
    else
      let s := { s with ens := { sendSeq := s.ens.sendSeq, counter := s.ens.counter } }
      ((s.setFld Reg.ENS_STATUS 4 28 0).setFld Reg.ENS_VER 16 8 0).setEnst 0
  s.updPhase.updTvalid

/-- A port is a PLCA coordinator (R225). -/
def State.coordinates (s : State) (n : Nat) : Bool :=
  s.enpOn n && s.bit (Reg.ENP_CFG n) 1 && decide (s.fld (Reg.ENP_CFG n) 8 8 = 0)

/-- An ENP page on its commit tick: an enabled port waits for BEACON, or sends it where it coordinates (R225, R226). -/
def State.enpCommitted (old s : State) (n : Nat) : State :=
  let is := s.enpOn n
  let s := if old.enpOn n = is then s
    else if is then s.setEnp n { lastBeacon := some s.tick } else ((s.setFld (Reg.ENP_STATUS n) 1 2 0).setEnp n {}).updPhase
  if old.coordinates n = s.coordinates n then s
  else if s.coordinates n then s.beacon n
  else if is then s.setEnp n { s.enp n with lastBeacon := some s.tick } else s

/-- What a commit of a page brings about besides its values. -/
def State.pageCommitted (old s : State) (page : Nat) : State :=
  if page = 3 then (List.range 64).foldl (State.sgCommitted old) s
  else if 0x10 ≤ page ∧ page < 0x30 then State.sleeveCommitted old s (page - 0x10)
  else if 0x40 ≤ page ∧ page < 0x60 then
    ((List.range 4).map ((page - 0x40) * 4 + ·)).foldl (State.pioCommitted old) s
  else if 0x60 ≤ page ∧ page < 0x68 then
    ((List.range 8).map ((page - 0x60) * 8 + ·)).foldl (State.portCommitted old) s
  else if page = 0xC0 then State.ensCommitted old s
  else if 0xC1 ≤ page ∧ page < 0xC5 then State.enpCommitted old s (page - 0xC1)
  else s

/-- PG_SEQ counts and PG_COMMIT_TIME shows the commit tick; the page is armed no longer, and after an abort its shadow
is reloaded (R17, R20, R387). -/
def State.stampCommit (s : State) (page : Nat) : State :=
  let s := s.incWrap (Reg.PG_SEQ page) 0 32
  let s := s.setPair (Reg.PG_COMMIT_TIME_L page) (Reg.PG_COMMIT_TIME_H page) s.tb.now
  let s := if (s.page page).reload then s.discard page else s
  s.setPage page {}

/-- A commit of an ENS or ENP page that breaks the retry budget is refused (R241). -/
def State.refuseEns (s : State) (page : Nat) : State :=
  ((s.setFld (Reg.PG_ERR_INFO page) 0 8 Code.cfgTooLarge).pgErr 0xC0 16).setPage page {}

/-- Several pages commit on one tick (R17, R21). Where ENS or ENP members break the retry budget, they are refused (R241)
and the other members commit: neither R21 nor R241 says which (log entry 27). -/
def State.commitPages (s : State) (ps : List Nat) : State :=
  let s := ps.foldl State.screenPage s
  let t := ps.foldl State.applyPage s
  let bad := ps.any ensPage && decide (t.ensGuard < t.ensBudget)
  let s := if bad then (ps.filter ensPage).foldl State.refuseEns s else s
  let go := if bad then ps.filter fun p => !ensPage p else ps
  let new := go.foldl State.stampCommit (go.foldl State.applyPage s)
  go.foldl (State.pageCommitted s) new

/-- An action of this tick has used a page's settings while its immediate commit waited: the commit takes place on a later
tick (R17, R96). -/
def State.usedThisTick (s : State) (page : Nat) : Bool := decide ((s.page page).used = some s.tick)

/-- A commit of some pages may be made on this tick: it is due and, an immediate one, met by no action of the tick
(R17, R18, R96). -/
def State.mayCommit (s : State) (a : Armed) (ps : List Nat) : Bool :=
  s.armedDue a && (decide (a ≠ .now) || !ps.any s.usedThisTick)

/-- COMMIT_TICK (R17, R18). -/
def execCommitTick (page : Nat) (s : State) : Host.Outcome State Fault Refusal :=
  onUnit (okPage page) (if s.mayCommit (s.page page).armed [page] then s.commitPages [page] else s)

/-- Every member of a group commits on one tick (R21, R274). -/
def State.commitMembers (s : State) (g : Nat) : State :=
  let s := s.setGroup g { s.group g with armed := .no }
  ((s.commitPages (s.group g).members).groupCode g Code.ok).raise 0x3408

/-- A group commits: all its members on one tick, or none (R21). -/
def State.commitGroup (s : State) (g : Nat) : State :=
  if s.groupFits g = false then s.groupTooLarge g else s.commitMembers g

/-- GROUP_COMMIT_TICK (R21). -/
def execGroupCommitTick (group : Nat) (s : State) : Host.Outcome State Fault Refusal :=
  onUnit (okGroup group) (if s.mayCommit (s.group group).armed (s.group group).members then s.commitGroup group else s)

/-! ### Hold-and-swap (R23) -/

/-- The cuffs of the selected sleeves. -/
def State.hsCuffs (s : State) : List Nat := (bitList 32 s.hs.sleeves).flatMap sleeveCuffs

/-- At the hold time the selected cuffs keep their levels (R23). -/
def State.hsHold (s : State) : State :=
  s.hsCuffs.foldl (fun s c => s.setCuff c { s.cuff c with held := true }) (s.setFld Reg.CFG_HS_CTRL 2 2 2)

/-- HOLD_START (R23). -/
def execHoldStart (s : State) : Host.Outcome State Fault Refusal :=
  .next (if s.hsState = 1 ∧ s.clocked ∧ s.reached s.hs.hold then s.hsHold else s)

/-- The next selected group commits; what ARM has checked is not checked again (R387). -/
def State.hsNext (s : State) : State :=
  match s.hs.groups[s.hs.done]? with
  | none => s
  | some g => { s.commitMembers g with hs := { s.hs with done := s.hs.done + 1 } }

/-- HOLD_GROUP_COMMIT (R23): the i-th group commits at hold time + 64 · i ticks. -/
def execHoldGroupCommit (s : State) : Host.Outcome State Fault Refusal :=
  .next (if s.hsState = 2 ∧ s.clocked ∧ s.reached (s.plus s.hs.hold ((s.hs.done + 1) * 64 * 16)) then s.hsNext else s)

/-- Commits every group still outstanding. -/
def State.hsRest (s : State) : Nat → State
  | 0 => s
  | n + 1 => s.hsNext.hsRest n

/-- A held cuff takes up what its settings say now. -/
def State.unhold (s : State) (c : Nat) : State :=
  let k := s.cuff c
  let s := (s.setCuff c { k with held := false }).settleCuff c
  let s := if (s.cuff c).apron then s.apronLevel c else s
  let off := !s.outputOn c || match k.lent with
    | .pio e => !s.bit (Reg.PIO_DIR e) (c - (s.pio e).base)
    | _ => false
  let s := if off ∧ (s.cuff c).apron = false then s.floatCuff c else s
  s.rejudge 1 c

/-- HOLD_RELEASE (R23, R274): outstanding commits first, then all held cuffs together. -/
def State.hsRelease (s : State) : State :=
  let cs := s.hsCuffs
  let s := s.hsRest s.hs.groups.length
  (cs.foldl State.unhold { s.setFld Reg.CFG_HS_CTRL 2 2 0 with hs := {} }).raise 0x3409

def execHoldRelease (s : State) : Host.Outcome State Fault Refusal :=
  .next (if s.hsState = 2 ∧ s.clocked ∧ s.reached s.hs.rel then s.hsRelease else s)

end Sys2Proof.Machine
end

