-- ==== Sys2Proof/Machine/Write.lean ====
section
/-! DEFINITION. A write of any register of BAR0: the views, the access types, and what the registers with effects of
their own do (R6, R7, R10-R14, R19, R105, R247, R248, R290). -/

namespace Sys2Proof.Machine

open Sys2Proof

/-! ### The general case -/

/-- The copy of a register that its page's selector shows. -/
def State.bankOf (s : State) (page off : Nat) : Nat :=
  if page = 3 ∧ 0x94 ≤ off ∧ off ≤ 0xA8 then s.fld Reg.TB_SG_SEL 0 6
  else if page = 4 ∧ 0x50 ≤ off ∧ off ≤ 0x58 then s.gsel
  else if page = 0xA ∧ off = 0x80 then s.fld Reg.ADM_VOTE_SEL 0 4
  else if page = 0xB ∧ off = 0x44 then s.fld Reg.SLM_TSEL 0 9
  else if page = 0xC0 ∧ 0x64 ≤ off ∧ off ≤ 0x6C then s.fld Reg.ENS_MSEL 0 4
  else if page = 0xC0 ∧ off = 0xAC then s.fld Reg.ENS_LQSEL 0 6
  else 0

/-- The key of the register that stands at an offset of a block page now. -/
def State.keyAt (s : State) (page off : Nat) : Nat := page * 0x1000 + off + s.bankOf page off * 0x1000000

/-- The bits of `m` cleared in `v`. -/
def dropBits (v m : Nat) : Nat := v - Nat.land v m

/-- A write by the register's access types: RW at once, W1C through the normal view only, RWS into the shadow
(R7, R10, R11). -/
def State.writeRow (s : State) (key view v : Nat) : State :=
  match rowOf key with
  | none => s
  | some r =>
    let old := s.regN key
    let new := Nat.lor (Nat.land (viewWrite view old v) r.rw) (dropBits old r.rw)
    let new := if view = 0 then dropBits new (Nat.land v r.w1c) else new
    (s.setN key new).stageWrite key r.rws view v

/-- A value cut down to the bits of a register. -/
def cut (n v : Nat) : Nat := v % 2 ^ n

/-! ### Blocks whose registers act -/

/-- GLB_HOSTCFG: VFBAR2 stands while VF Enable is set, and 0b111 is reserved (R249). -/
def State.writeGlb (s : State) (off view v : Nat) : State :=
  let old := s.fld Reg.GLB_HOSTCFG 0 3
  let t := s.writeRow (Reg.GLB_HOSTCFG) view v
  if off ≠ 0x80 then s.writeRow off view v
  else if s.link.vfEnable ∨ t.fld Reg.GLB_HOSTCFG 0 3 = 7 then t.setFld Reg.GLB_HOSTCFG 0 3 old
  else t

/-- PWR: requests, DBGEN under DBGLOCK, the limit of TCRIT (R316, R333, R336, R339). -/
def State.writePwr (s : State) (off view v : Nat) : State :=
  let k := 0x2000 + off
  if off = 0x44 then (if view = 0 then s.powerReq (bits v 0 3) else s)
  else if off = 0x4C ∧ s.bit Reg.SEC_STRAP 3 then (s.writeRow k view v).setBit k 1 (s.bit k 1)
  else if off = 0x6C then
    let t := s.writeRow k view v
    if 0x1E0 < signed 12 (t.fld k 0 12) then t.setFld k 0 12 0x1E0 else t
  else s.writeRow k view v

/-- TB (R26, R31-R35, R39, R43). A write of TB_RELOAD_L outside PROVISION is kept for a later write of TB_RELOAD_H and sets
no RELOAD_REFUSED: R26 says of it that it changes nothing (log entry 27). -/
def State.writeTb (s : State) (off view v : Nat) : State :=
  let k := 0x3000 + off
  if off = 0x50 ∧ view = 0 then s.writeTbCtrl v
  else if off = 0x54 then (if view = 3 then s else { s with tb := { s.tb with relL := viewWrite view s.tb.relL v } })
  else if off = 0x58 then s.writeReload view v
  else if off = 0x5C then (if view = 3 then s else s.writeTrim view v)
  else if off = 0x60 then (if view = 0 then s.writeStep (cut 32 v) else s)
  else if off = 0x68 then
    let t := s.writeRow k view v
    t.setFld k 0 16 (max 16 (t.fld k 0 16))
  else if (off = 0x6C ∨ off = 0x70) ∧ view ≠ 3 ∧ s.hostLocked then s.pgErr 3 18
  else if off = 0x80 then (if view = 0 then s.writeTbGctrl v else s)
  else if 0x100 ≤ off ∧ s.gstate = 1 then s
  else if off = 0x4C ∧ (s.pwr.refOk = false ∨ s.pwr.locked = false) then s.writeRow k view (dropBits v 2)
  else s.writeRow (s.keyAt 3 off) view v

/-- CFG (R21, R22, R24). -/
def State.writeCfg (s : State) (off view v : Nat) : State :=
  if view = 0 ∧ off = 0x44 then s.groupAdd s.gsel (cut 11 v)
  else if view = 0 ∧ off = 0x48 then s.groupRemove s.gsel (cut 11 v)
  else if view = 0 ∧ off = 0x4C then s.writeGctrl v
  else if view = 0 ∧ off = 0x78 then s.writeHsCtrl v
  else s.writeRow (s.keyAt 4 off) view v

/-- SEC (R342, R347, R348, R352). An image read over SEC_HBOOT_CTRL comes with a command of its own. -/
def State.writeSec (s : State) (off view v : Nat) : State :=
  if off = 0x58 then (if view = 0 then s.writeSecCtrl v else s)
  else if off = 0x6C then (if view = 3 then s else s.writeImgCtrl view v)
  else s.writeRow (0x5000 + off) view v

/-- QM (R99, R100, R104). -/
def State.writeQm (s : State) (off view v : Nat) : State :=
  if off = 0x40 then (if view = 3 then s else s.writeQsel (viewWrite view (s.regN Reg.QM_QSEL) v))
  else if off = 0x54 then (if view = 0 then s.writeQctrl v else s)
  else s.writeRow (0x9000 + off) view v

/-- CUF_CFG: MODE is read-only while the cuff is lent, and 0b11 is the loan's (R77). -/
def State.writeCufCfg (s : State) (c view v : Nat) : State :=
  let k := Reg.CUF_CFG c
  let old := bits (s.staged k).toNat 0 2
  let t := s.writeRow k view v
  if (s.cuff c).lent ≠ .none ∨ bits (t.staged k).toNat 0 2 = 3 then t.stageFld k 0 2 old else t

/-- A sleeve page (R48, R70, R77). -/
def State.writeSlv (s : State) (n off view v : Nat) : State :=
  let c := n * 32 + (off - 0x400) / 0x60
  if off = 0x58 then (if view = 0 then s.writeRearm n v else s)
  else if 0x400 ≤ off ∧ (off - 0x400) % 0x60 = 0 ∧ c < n * 32 + 32 then s.writeCufCfg c view v
  else if 0x400 ≤ off ∧ (off - 0x400) % 0x60 = 0x20 ∧ c < n * 32 + 32 ∧ view = 0 then s.writeCapCfg c v
  else if 0x400 + 32 * 0x60 ≤ off then s
  else s.writeRow ((0x10 + n) * 0x1000 + off) view v

/-- A source of TRY_IRQ_SENSEi that now senses the level, and stands asserted, is pending (R164). -/
def State.senseLevels (s : State) (t i : Nat) : State :=
  (List.range 16).foldl (fun s j =>
    if s.traySense t (16 * i + j) = 0 ∧ bitAt (s.tray t).levels (16 * i + j) then s.setTrayPend t (16 * i + j) true else s) s

/-- A tray page (R164, R166, R167). -/
def State.writeTry (s : State) (t off view v : Nat) : State :=
  if 0xD4 ≤ off ∧ off < 0xE4 then (s.writeRow ((0x30 + t) * 0x1000 + off) view v).senseLevels t ((off - 0xD4) / 4) else
  if off = 0xC0 then s.writeIrqCtrl t view v
  else if off = 0xE4 then (if view = 0 then s.writeSoft t v else s)
  else if off = 0xF0 then (if view = 3 then s else s.csSnap t (viewWrite view (s.regN (Reg.TRY_CS_ADDR t)) v))
  else s.writeRow ((0x30 + t) * 0x1000 + off) view v

/-- A direct write of PIO_DIR turns the pins as the instruction DIR does; bits at and above COUNT are ignored (R183, R185,
R200). -/
def State.writeDir (s : State) (e v : Nat) : State :=
  let s := s.setN (Reg.PIO_DIR e) (v % 2 ^ min 8 (s.pio e).count)
  (List.range (s.pio e).count).foldl (fun s i =>
    if (s.cuff (s.pin e i)).apron then s
    else if bitAt v i then s.drivePin e i (s.cuff (s.pin e i)).level else s.floatCuff (s.pin e i)) s

/-- A PIO page (R191, R195, R197, R200, R201). -/
def State.writePio (s : State) (n off view v : Nat) : State :=
  let e := n * 4 + (off - 0x200) / 0x200
  let o := (off - 0x200) % 0x200
  let k := (0x40 + n) * 0x1000 + off
  if off < 0x200 then
    if n ≠ 0 then s.writeRow k view v
    else if off = 0x58 ∧ view = 0 then s.writeSync v
    else if 0x40 ≤ off ∧ off < 0x50 ∧ s.syncState = 1 then s
    else s.writeRow k view v
  else if 0xA00 ≤ off then s
  else if o = 0 ∧ view = 0 then s.writePioCtrl e v
  else if o = 0x14 then (if view = 3 then s else s.writeDir e (viewWrite view (s.regN k) v))
  else if o = 0x3C then (if view = 0 then s.writeTx e v else s)
  else s.writeRow k view v

/-- A feedback page (R208, R213, R223). -/
def State.writeFbk (s : State) (n off view v : Nat) : State :=
  let p := n * 8 + (off - 0x200) / 0x100
  let o := (off - 0x200) % 0x100
  let k := (0x60 + n) * 0x1000 + off
  if off < 0x200 ∨ 0xA00 ≤ off then s.writeRow k view v
  else if o = 0 then (if view = 0 then s.writeFbkCtrl p v else s)
  else if o = 0x44 ∨ o = 0x48 then
    (if view = 3 then s else s.writeCmp p (decide (o = 0x48)) (viewWrite view (s.regN k) v))
  else if o = 0x4C then (if view = 0 then s.adjustCmp p v else s)
  else s.writeRow k view v

/-- A DMA page: another tenant's channel is refused, and the completion queue's place stands while EN is set (R290,
R309). -/
def State.writeDma (s : State) (c off view v : Nat) : State :=
  let k := (0x80 + c) * 0x1000 + off
  if off < 0x40 then s.writeRow k view v
  else if off = 0x40 then
    (if view = 0 then s.writeDmaCtrl c v
     else if view = 3 then s
     else s.writeDmaCtrl c (viewWrite view (s.fld k 0 1) v % 2))
  else if 0x48 ≤ off ∧ off ≤ 0x50 ∧ s.bit (Reg.DMA_CTRL c) 0 then s
  else if off = 0x54 then (if view = 3 then s else (s.moveCqHead c (cut 12 (viewWrite view (s.regN k) v))).1)
  else s.writeRow k view v

/-- An HVC page (R276-R279, R286, R288). -/
def State.writeHvc (s : State) (n off view v : Nat) : State :=
  let k := (0xA0 + n) * 0x1000 + off
  if off < 0x40 then s.writeRow k view v
  else if n = 0 then
    if off = 0x40 then (if view = 3 then s else s.writeHvcCtrl (viewWrite view (s.fld k 0 2) v))
    else if off = 0x44 then (if view = 3 then s else s.writeMargin view v)
    else if off = 0x4C then
      (if view = 3 then s else s.writeScfg (viewWrite view (s.src (s.fld Reg.HVC_SSEL 0 14)).scfg v))
    else if 0x70 ≤ off ∧ off < 0x80 ∧ off % 4 = 0 then
      (if view = 0 then s.complete ((off - 0x70) / 4) (cut 14 v) else s)
    else s.writeRow k view v
  else if (n = 1 ∨ n = 2) ∧ off < 0x840 ∧ off % 4 = 0 then
    s.writeHvcBits (decide (n = 2)) ((off - 0x40) / 4) view (cut 32 v)
  else s

/-- The ENS page (R235, R240, R244). -/
def State.writeEns (s : State) (off view v : Nat) : State :=
  if off = 0xB4 then (if view = 0 ∧ bitAt v 0 then s.launchGo else s)
  else if off = 0xC4 ∧ view = 0 then s.writeStb v
  else s.writeRow (s.keyAt 0xC0 off) view v

/-- A write at an offset of a block page, through a view (R10); the page of another tenant's DMA channel is refused whole (R290). -/
def State.writeBlock (s : State) (page off view v : Nat) : State :=
  if s.foreignChan page then s.chanRefused (page - 0x80)
  else if off = 0x20 then (if view = 0 then s.writeStage page v else s)
  else match blockOf page with
    | none => s
    | some (b, i) =>
      match b with
      | .glb => s.writeGlb off view v
      | .pwr => s.writePwr off view v
      | .tb => s.writeTb off view v
      | .cfg => s.writeCfg off view v
      | .sec => s.writeSec off view v
      | .qm => s.writeQm off view v
      | .slv => s.writeSlv i off view v
      | .try => s.writeTry i off view v
      | .pio => s.writePio i off view v
      | .fbk => s.writeFbk i off view v
      | .dma => s.writeDma i off view v
      | .hvc => s.writeHvc i off view v
      | .ens => s.writeEns off view v
      | .dbg => if off = 0x40 then (if view = 0 then s.writeDbg v else s) else s.writeRow (page * 0x1000 + off) view v
      | .clk | .rel | .sch | .adm | .slm | .mbx | .enp | .ten => s.writeRow (page * 0x1000 + off) view v

/-! ### The tenant page (R14) -/

/-- A 32-bit write of TEN_QDB_H: the doorbell, or the new HEAD of a log queue (R88, R105). -/
def State.writeQdb (s : State) (fn v : Nat) : State :=
  let q := (s.fn fn).qdbL
  let d := s.queue q
  if d.state ≠ QState.free ∧ d.ttype = 0 then s.consume fn q (cut 16 v) else s.doorbell fn q (cut 16 v)

/-- The rings of a function (R252, R256, R271); bases and sizes stand while they are enabled. -/
def State.writeRings (s : State) (fn off v : Nat) : State :=
  let k := tenBase + fn * 0x10000 + off
  if off = 0x10C then s.setFn fn { s.fn fn with cmdTail := cut 12 v % s.cmdSize fn }
  else if off = 0x120 then s.writeCplHead fn (cut 12 v)
  else if off = 0x128 then s.writeRingCtrl fn v
  else if off < 0x120 ∧ s.bit (Reg.TEN_RING_CTRL fn) 0 then s
  else s.writeRow k 0 v

/-- The interrupt registers of a function (R289). -/
def State.writeTenIrq (s : State) (fn off v : Nat) : State :=
  let id := cut 14 v
  if off = 0x1004 then (privOf fn v).foldl State.enableSrc s
  else if off = 0x1008 then (privOf fn v).foldl (fun s i => s.setSrcEn i false) s
  else if off = 0x1014 then (privOf fn v).foldl State.raise s
  else if off = 0x1018 then (privOf fn v).foldl State.clearSrc s
  else if off = 0x1024 then (if s.sharedOf fn id then s.enableSrc id else s)
  else if off = 0x1028 then (if s.sharedOf fn id then s.setSrcEn id false else s)
  else if off = 0x102C then (if s.sharedOf fn id then s.clearSrc id else s)
  else if off = 0x1030 then (if cut 11 v < vecCount fn then s.setN (Reg.TEN_VSEL fn) (cut 11 v) else s)
  else if off = 0x1034 then s.writeRow (Reg.TEN_VMOD fn (s.regN (Reg.TEN_VSEL fn))) 0 v
  else s

/-- A write at an offset of a tenant page; it has one view (R14). -/
def State.writeTenant (s : State) (fn off v : Nat) : State :=
  if 0x100 ≤ off ∧ off < 0x200 then s.writeRings fn off v
  else if off = 0x200 then s.setFn fn { s.fn fn with qdbL := cut 20 v }
  else if off = 0x204 then s.writeQdb fn v
  else if off = 0x210 then s.writeTenQsel fn v
  else if off = 0x400 then (if bitAt v 0 ∧ bits v 16 16 = 0x4A42 then s.startAbort fn false else s)
  else if off = 0x880 then s.writeMbxCtrl fn v
  else if 0x1000 ≤ off ∧ off < 0x2000 then s.writeTenIrq fn off v
  else s.writeRow (tenBase + fn * 0x10000 + off) 0 v

/-! ### BAR0 -/

/-- The page of the PF's BAR0 offset. -/
abbrev pageAt (addr : Nat) : Nat := addr / 0x4000

/-- An access to an offset that no block occupies (R12). -/
def State.unmapped (s : State) (addr : Nat) : State := (s.pgErr 0 3).setN (Reg.PG_ERR_ADDR 0) addr

/-- A 32-bit write of a function at a BAR0 offset (R12, R13, R247, R248): an unaligned one is completed with Unsupported
Request. -/
def State.writeBar0 (s : State) (fn addr v : Nat) : State :=
  if addr % 4 ≠ 0 then s.posted fn [(addr, v)] (s.accepts fn) (fun s => s.send (.unsupported fn))
  else if fn ≠ 0 then (if addr < 0x10000 then s.ten fn addr v (fun s => s.writeTenant fn addr v) else s)
  else if 0x2000000 ≤ addr then s
  else if 0x1FF0000 ≤ addr then s.ten 0 (addr - 0x1FF0000) v (fun s => s.writeTenant 0 (addr - 0x1FF0000) v)
  else if (blockOf (pageAt addr)).isSome then
    s.pf (pageAt addr) (addr % 0x4000) v (fun s => s.writeBlock (pageAt addr) (addr % 0x1000) (addr / 0x1000 % 4) v)
  else s.posted 0 [(addr, v)] (s.pfPage (pageAt addr)) (fun s => s.unmapped addr)

/-- A write of the JTAG debug access: it reaches the registers of the DBG page (R338). -/
def State.jtagWrite (s : State) (addr v : Nat) : State :=
  if s.jtagReach addr then s.writeBlock dbgPage (addr % 0x1000) (addr / 0x1000 % 4) v else s

/-- A BAR0 write as it comes: aligned 32 bits, aligned 64 bits as two of 32, lower address first; any other, and an AtomicOp, is
completed with Unsupported Request, as an unaligned one is (R246, R248). -/
def State.writeSized (s : State) (fn : Nat) (r : Bar0Ref) (v : Nat) : State :=
  match r.kind with
  | .bytes n =>
    if n = 4 then s.writeBar0 fn r.addr v
    else if n = 8 ∧ r.addr % 8 = 0 then (s.writeBar0 fn r.addr (v % 2 ^ 32)).writeBar0 fn (r.addr + 4) (v / 2 ^ 32)
    else s.writeBar0 fn (r.addr / 4 * 4 + 1) v
  | .atomic => s.writeBar0 fn (r.addr / 4 * 4 + 1) v
  | .jtag => s.jtagWrite r.addr v

/-- What the link held acts: a configuration request, a BAR0 write or a BAR2 write. -/
def State.applyHeld (s : State) (w : Posted) : State :=
  match w.cfg with
  | some r => s.heldConfig w.fn r
  | none => if w.bytes = [] then s.writeBar0 w.fn w.addr w.value else s.bar2Write w.fn w.addr w.bytes

/-- What the link held acts in the order in which it arrived (R251, R329). -/
def State.releaseHeld (s : State) : State :=
  if s.dozing then s else s.link.posted.foldl State.applyHeld { s with link := { s.link with posted := [] } }

/-- WAKE_COMPLETE (R42, R251). -/
def execWakeComplete (s : State) : Host.Outcome State Fault Refusal :=
  .next (if s.mode = Mode.doze then s.endWake.releaseHeld else s.endWake)

/-- REGISTER_WRITE (R10). -/
def execRegisterWrite (fn : Nat) (ref : Bar0Ref) (value : Nat) (s : State) : Host.Outcome State Fault Refusal :=
  onUnit (okFn fn && okData ref value) (s.writeSized fn ref value)

/-- PG_STAGE_COMMIT (R17). -/
def execPgStageCommit (page value : Nat) (s : State) : Host.Outcome State Fault Refusal :=
  onUnit (okPage page && okValue value)
    (if (blockOf page).isSome then s.pf page 0x20 (Nat.lor value 1) (fun s => s.writeStage page (Nat.lor value 1)) else s)

/-- PG_STAGE_ARM (R18). -/
def execPgStageArm (page value : Nat) (s : State) : Host.Outcome State Fault Refusal :=
  onUnit (okPage page && okValue value)
    (if (blockOf page).isSome then s.pf page 0x20 (Nat.lor value 2) (fun s => s.writeStage page (Nat.lor value 2)) else s)

/-- PG_STAGE_DISARM (R18). -/
def execPgStageDisarm (page value : Nat) (s : State) : Host.Outcome State Fault Refusal :=
  onUnit (okPage page && okValue value)
    (if (blockOf page).isSome then s.pf page 0x20 (Nat.lor value 4) (fun s => s.writeStage page (Nat.lor value 4)) else s)

/-- PG_STAGE_DISCARD (R17). -/
def execPgStageDiscard (page value : Nat) (s : State) : Host.Outcome State Fault Refusal :=
  onUnit (okPage page && okValue value)
    (if (blockOf page).isSome then s.pf page 0x20 (Nat.lor value 8) (fun s => s.writeStage page (Nat.lor value 8)) else s)

/-- CFG_GADD (R22). -/
def execCfgGadd (page : Nat) (s : State) : Host.Outcome State Fault Refusal :=
  onUnit (okPage page) (s.pf 4 0x44 page (fun s => s.groupAdd s.gsel page))

/-- CFG_GREMOVE (R22). -/
def execCfgGremove (page : Nat) (s : State) : Host.Outcome State Fault Refusal :=
  onUnit (okPage page) (s.pf 4 0x48 page (fun s => s.groupRemove s.gsel page))

/-- CFG_GCTRL_COMMIT (R21). -/
def execCfgGctrlCommit (value : Nat) (s : State) : Host.Outcome State Fault Refusal :=
  .next (s.pf 4 0x4C (Nat.lor value 1) (fun s => s.writeGctrl (Nat.lor value 1)))

/-- CFG_GCTRL_ARM (R21). -/
def execCfgGctrlArm (value : Nat) (s : State) : Host.Outcome State Fault Refusal :=
  .next (s.pf 4 0x4C (Nat.lor value 2) (fun s => s.writeGctrl (Nat.lor value 2)))

/-- CFG_GCTRL_DISARM (R21). -/
def execCfgGctrlDisarm (value : Nat) (s : State) : Host.Outcome State Fault Refusal :=
  .next (s.pf 4 0x4C (Nat.lor value 4) (fun s => s.writeGctrl (Nat.lor value 4)))

/-- CFG_GCTRL_CLEAR (R22). -/
def execCfgGctrlClear (value : Nat) (s : State) : Host.Outcome State Fault Refusal :=
  .next (s.pf 4 0x4C (Nat.lor value 8) (fun s => s.writeGctrl (Nat.lor value 8)))

/-- CFG_HS_CTRL_ARM (R24). -/
def execCfgHsCtrlArm (value : Nat) (s : State) : Host.Outcome State Fault Refusal :=
  .next (s.pf 4 0x78 (Nat.lor value 1) (fun s => s.writeHsCtrl (Nat.lor value 1)))

/-- CFG_HS_CTRL_CANCEL (R387). -/
def execCfgHsCtrlCancel (value : Nat) (s : State) : Host.Outcome State Fault Refusal :=
  .next (s.pf 4 0x78 (Nat.lor value 2) (fun s => s.writeHsCtrl (Nat.lor value 2)))

end Sys2Proof.Machine
end

