-- ==== Sys2Proof/Machine/Read.lean ====
section
/-! DEFINITION. A read of any register of BAR0 (R7, R10-R14, R247): the fields that follow the state are computed
here, and every other register reads as it stands. -/

namespace Sys2Proof.Machine

open Sys2Proof

/-- Fields laid out from bit 0 up, each a value and its width. -/
def fields : List (Nat × Nat) → Nat
  | [] => 0
  | (v, n) :: r => v % 2 ^ n + 2 ^ n * fields r

/-- The low word of a value split as in R4. -/
def lowWord (v : Nat) : Nat := v % 2 ^ 32

/-- The high word of a value split as in R4. -/
def highWord (v : Nat) : Nat := v / 2 ^ 32 % 2 ^ 32

/-- Rates read in thousands, rounded up (R128). -/
def thousands (v : Nat) : Nat := (v + 999) / 1000

/-- A register whose fields from bit `lo` up are computed. -/
def State.over (s : State) (k lo n v : Nat) : Nat := putBits (s.regN k) lo n v

/-! ### The common header (R13) -/

/-- A page has registers with staged fields. -/
def stagedPage (page : Nat) : Bool := groupable page

/-- Outputs of the page are held by a hold-and-swap (R23); an abort of its owner clears the bit (R13). -/
def State.pageHeld (s : State) (page : Nat) : Bool :=
  match blockOf page with
  | some (.slv, n) => !s.hs.cleared.contains page && (sleeveCuffs n).any fun c => (s.cuff c).held
  | _ => false

/-- PG_STATUS (R13). READY turns 1 on every page as the device leaves BOOT: R13 gives "0, then 1" and no moment (log entry
27). -/
def State.pgStatus (s : State) (page : Nat) : Nat :=
  fields [(b2n (decide (s.mode ≠ Mode.boot)), 1), (b2n (s.pageArmed page), 1), (b2n (s.groupOf page).isSome, 1),
    (b2n (s.pageHeld page), 1)]

/-- PG_STAGE (R13): DIRTY and GROUP. -/
def State.pgStage (s : State) (page : Nat) : Nat :=
  fields [(0, 5), (min 1024 (s.dirty page), 11), ((s.groupOf page).getD 31, 5)]

/-- A header register of a page. -/
def State.readHeader (s : State) (page off : Nat) : Nat :=
  match blockOf page with
  | none => 0
  | some (b, i) =>
    if off = 0 then fields [(i, 16), (b.type, 16)]
    else if off = 8 then fields [(b2n (stagedPage page), 1), (b2n (groupable page), 1)]
    else if off = 0xC then s.pgStatus page
    else if off = 0x20 then s.pgStage page
    else s.regN (page * 0x1000 + off)

/-! ### Blocks -/

/-- TB (R30, R38, R46). -/
def State.readTb (s : State) (off : Nat) : Nat :=
  if off = 0x40 then lowWord s.tb.now
  else if off = 0x44 then highWord s.tb.now
  else if off = 0x48 then s.tb.epoch
  else if off = 0x4C then putBits (s.over Reg.TB_STATUS 3 1 (b2n (decide (s.stepRem ≠ 0)))) 5 1 (b2n s.pwr.locked)
  else if off = 0xA8 then
    let g := s.fld Reg.TB_SG_SEL 0 6
    let n := s.fld (Reg.TB_SG_COUNT g) 0 11
    let bad := (s.sgMembers g).filter fun c => decide (n ≠ 0 ∧ n ≤ s.fld (Reg.CUF_PER_CTRL c) 16 10)
    fields [((s.sgMembers g).length, 16), (bad.length, 11)]
  else s.regN (s.keyAt 3 off)

/-- CFG_GSTAT (R21, R22): members, code, armed, dirty registers. -/
def State.readGstat (s : State) (g : Nat) : Nat :=
  let k := Reg.CFG_GSTAT g
  fields [((s.group g).members.length, 7), (b2n (s.groupArmed g), 1), (s.fld k 8 8, 8), (min 65535 (s.groupDirty g), 16)]

/-- CLK_STATUS and PWR_STATUS (R336, R337). -/
def State.readClk (s : State) (off : Nat) : Nat :=
  if off = 0x40 then s.over Reg.CLK_STATUS 0 3 (fields [(b2n s.pwr.locked, 1), (b2n s.pwr.refOk, 1), (b2n s.pwr.pcieRef, 1)])
  else s.regN (0x1000 + off)

/-- PWR (R315, R336). -/
def State.readPwr (s : State) (off : Nat) : Nat :=
  if off = 0x40 then putBits (s.over Reg.PWR_STATUS 0 3 s.mode) 8 1 (b2n s.pwr.safePin) else s.regN (0x2000 + off)

/-- REL: the selected record (R359, R362). -/
def State.readRel (s : State) (off : Nat) : Nat :=
  if 0x60 ≤ off ∧ off < 0x80 then
    bits (Tbl.get 0 s.rel.ring (s.fld Reg.REL_LSEL 0 10)).toNat ((off - 0x60) / 4 * 32) 32
  else s.regN (0x6000 + off)

/-- SEC: the fuses' counter (R347). -/
def State.readSec (s : State) (off : Nat) : Nat :=
  if off = 0x54 then s.over Reg.SEC_RB 0 7 s.boot.fuses else s.regN (0x5000 + off)

/-- SCH (R103). -/
def State.readSch (s : State) (off : Nat) : Nat :=
  if off = 0x44 then
    fields [(b2n s.wheelFull, 1), (b2n (decide (4096 ≤ s.activeSeams)), 1), (s.fld Reg.SCH_STATUS 2 1, 1)]
  else if off = 0x48 then s.refs.length
  else if off = 0x4C then s.reservedRefs
  else if off = 0x54 then s.activeSeams
  else if off = 0x5C then
    let i := s.fld Reg.SCH_SEAM_SEL 0 16
    let m := Tbl.get {} s.seams i
    fields [(m.members.length, 16), (m.count, 11), (b2n ((Tbl.keys s.seams).contains i), 1)]
  else s.regN (0x8000 + off)

/-- QM (R104). -/
def State.readQm (s : State) (off : Nat) : Nat :=
  if off = 0x58 then
    let q := s.fld Reg.QM_QSEL 0 20
    fields [(s.fld Reg.QM_QSTAT 0 8, 8), ((s.inFlight q).length, 7), (b2n (decide ((s.queue q).state = QState.flushing)), 1)]
  else if off = 0x60 then countIn s.queues fun _ q => decide (q.state = QState.stopped)
  else s.regN (0x9000 + off)

/-- The contract the ADM page shows; a plain queue has none (R128). -/
def State.shownContract (s : State) : Contract := (s.queue (s.fld Reg.ADM_QSEL 0 20)).contract.getD {}

/-- ADM (R128): the sums and the selected contract. -/
def State.readAdm (s : State) (off : Nat) : Nat :=
  let k := s.shownContract
  if off = 0x44 then thousands s.devRate
  else if off = 0x48 then fields [(s.devBurst, 16), (s.dleadMin, 11)]
  else if off = 0x50 then thousands (s.trayRate (s.fld Reg.ADM_TRAY_SEL 0 4))
  else if off = 0x58 then k.rate
  else if off = 0x5C then lowWord k.intv
  else if off = 0x60 then highWord k.intv
  else if off = 0x64 then
    fields [(k.burst, 4), ((s.queue (s.fld Reg.ADM_QSEL 0 20)).cls, 2), (k.trays.getD 0 0, 4), (k.trays.getD 1 0, 4),
      (k.trays.getD 2 0, 4)]
  else if off = 0x68 then k.lead
  else if off = 0x6C then lowWord k.tat
  else if off = 0x70 then highWord k.tat
  else if off = 0x80 then
    let t := s.fld Reg.ADM_VOTE_SEL 0 4
    s.over (Reg.ADM_VOTE t) 0 2 (min 3 ((Tbl.get [] s.votes t).filter fun x => decide (s.tick < x + 1500000000)).length)
  else s.regN (0xA000 + off)

/-- CUF_STATUS (R77). -/
def State.cufStatus (s : State) (c : Nat) : Nat :=
  let k := s.cuff c
  fields [(b2n k.pad, 1), (b2n (s.drives c), 1), (b2n k.apron, 1), (b2n k.armed, 1), (k.fifo.length, 4), (b2n k.perRun, 1),
    (b2n (s.tripped (c / 2)), 7), (k.owner, 9)]

/-- A sleeve page (R77). -/
def State.readSlv (s : State) (n off : Nat) : Nat :=
  let c := n * 32 + (off - 0x400) / 0x60
  if off = 0x44 then s.over (Reg.SLV_STATUS n) 2 1 (b2n s.pwr.safePin)
  else if off < 0x400 then s.regN ((0x10 + n) * 0x1000 + off)
  else if n * 32 + 32 ≤ c then 0
  else if (off - 0x400) % 0x60 = 0x40 then s.cufStatus c
  else if (off - 0x400) % 0x60 = 0x48 then s.over (Reg.CUF_CAL c) 8 8 (s.calAge c)
  else s.regN ((0x10 + n) * 0x1000 + off)

/-- The context, port and flag a tray page shows (R167). -/
def State.shownCtx (s : State) (t : Nat) : Nat := s.servesOf t * 256 + s.fld (Reg.TRY_CSEL t) 0 8

/-- TRY_STATUS.ROLE: active, spare, retired, or active and failing. -/
def State.trayRole (s : State) (t : Nat) : Nat :=
  if s.bit Reg.ADM_GUARD (13 + t) then 2
  else if s.fld Reg.ADM_GUARD 0 4 = t then 1
  else if s.bit Reg.ADM_GUARD (4 + t) then 3 else 0

/-- A move or a rebuild concerns the tray. -/
def State.trayMoving (s : State) (t : Nat) : Bool :=
  (s.tray t).rebuildFor.isSome || s.trays.any (fun e => decide (e.2.rebuildFor = some t))
    || (s.trayCtxs (s.servesOf t)).any fun c => decide ((s.ctx c).st = .moving)

/-- TRY_CSTATE, TRY_CWAIT and TRY_CTRAP of a context (R167). -/
def State.ctxWord (s : State) (c off : Nat) : Nat :=
  let k := s.ctx c
  if off = 0x54 then
    fields [(k.st.code, 4), (b2n k.guarded, 1), (b2n k.inHandler, 3), (k.pc, 14), (k.tenant, 9)]
  else if off = 0x58 then
    fields [(k.waitFlag, 8), (k.waitKind, 8), (if k.waitKind = 0 then 0 else min 65535 ((s.tick - k.since) / 1024), 16)]
  else fields [(k.tcause, 4), (k.tprio, 4), (k.tinfo, 8), (k.traps, 16)]

/-- TRY_PORT of a near-path port. -/
def portWord (p : Option NearPort) : Nat :=
  match p with
  | none => 0
  | some k => fields [(1, 1), (k.ttype, 3), (k.target, 10), (k.late, 2), (b2n k.logen, 1)]

/-- The near-path port a tray page shows, if it is granted. -/
def State.shownPort (s : State) (t : Nat) : Option NearPort :=
  let n := s.fld (Reg.TRY_PSEL t) 0 3
  ((s.ctx (s.shownCtx t)).ports.find? fun e => decide (e.1 = n)).map (·.2)

/-- TRY_FATTR (R155, R167). -/
def State.flagAttr (s : State) (t f : Nat) : Nat :=
  let g := s.flag (flagKey (s.servesOf t) f)
  fields [(b2n g.ext, 1), (b2n g.long, 1), (b2n g.set, 1), (countIn s.ctxs fun c k => decide (s.trayNum c = s.servesOf t) && k.waitsOn f, 9),
    (g.owner.getD 0, 9)]

/-- A mask of the numbers of a list that lie in one word. -/
def maskWord (l : List Nat) (i : Nat) : Nat := (List.range 32).foldl (fun m j => if l.contains (32 * i + j) then m + 2 ^ j else m) 0

/-- A tray page (R167). BADCTX reads 1 at reset, as R166 has it where the table says 0: context 0 is FREE (DESIGN CHOICE, log
entry 30). -/
def State.readTry (s : State) (t off : Nat) : Nat :=
  if off = 0x40 then
    fields [(s.trayRole t, 2), (b2n (s.trayMoving t), 2), (s.servesOf t, 4), ((s.trayCtxs (s.servesOf t)).length, 9)]
  else if 0x54 ≤ off ∧ off < 0x60 then s.ctxWord (s.shownCtx t) off
  else if off = 0x64 then portWord (s.shownPort t)
  else if off = 0x68 then (match s.shownPort t with | some k => k.logq % 2 ^ 20 | none => 0)
  else if 0x70 ≤ off ∧ off < 0x90 then (s.ctx (s.shownCtx t)).saveAt ((off - 0x70) / 4)
  else if off = 0x94 then s.flagAttr t (s.fld (Reg.TRY_FSEL t) 0 8)
  else if 0x98 ≤ off ∧ off < 0xB8 then
    maskWord (s.flag (flagKey (s.servesOf t) (s.fld (Reg.TRY_FSEL t) 0 8))).senders ((off - 0x98) / 4)
  else if off = 0xC0 then putBits (s.over (Reg.TRY_IRQ_CTRL t) 16 7 (s.irqNext t)) 2 1 (b2n (s.badIrqCtx t))
  else s.regN ((0x30 + t) * 0x1000 + off)

/-- PIO_STATUS (R200). -/
def Pio.status (k : Pio) : Nat :=
  fields [(k.st, 3), (b2n k.matched, 1), (k.pc, 5), (k.tx.length, 3), (k.rx.length, 3), (b2n k.ended, 1), (k.txcnt, 6),
    (k.rxcnt, 6)]

/-- A PIO page (R200, R201). -/
def State.readPio (s : State) (n off : Nat) : Nat :=
  let k := s.pio (n * 4 + (off - 0x200) / 0x200)
  let o := (off - 0x200) % 0x200
  if off < 0x200 ∨ 0xA00 ≤ off then s.regN ((0x40 + n) * 0x1000 + off)
  else if o = 4 then k.status
  else if o = 0xC then fields [(k.base, 10), (k.count, 4)]
  else if o = 0x14 then s.regN ((0x40 + n) * 0x1000 + off) % 2 ^ k.count
  else if o = 0x1C then k.left % 2 ^ 16
  else if o = 0x40 then k.rx.headD 0
  else if o = 0x5C then k.txsr
  else if o = 0x60 then k.rxsr
  else s.regN ((0x40 + n) * 0x1000 + off)

/-- A feedback page (R211, R223). -/
def State.readFbk (s : State) (n off : Nat) : Nat :=
  let p := n * 8 + (off - 0x200) / 0x100
  let o := (off - 0x200) % 0x100
  if off < 0x200 ∨ 0xA00 ≤ off then s.regN ((0x60 + n) * 0x1000 + off)
  else if o = 0xC then fields [((s.port p).base, 10), ((s.port p).count, 4), ((s.port p).engine, 7)]
  else if o = 0x38 then lowWord (s.fbkSpeed p)
  else if o = 0x3C then highWord (s.fbkSpeed p)
  else s.regN ((0x60 + n) * 0x1000 + off)

/-- DMA_STATUS (R309): an active channel that may not work now reads 6: in HALT, DOZE and its entry, or its owner's host work in
D3hot (R302). -/
def State.dmaStatus (s : State) (c : Nat) : Nat :=
  let k := s.chan c
  let st := if k.st = 2 ∧ s.chanRuns c = false then 6 else k.st
  fields [(st, 3), (k.queue.length, 5), (s.fld (Reg.DMA_STATUS c) 8 8, 8)]

/-- A DMA page (R309). -/
def State.readDma (s : State) (c off : Nat) : Nat :=
  if off = 0x44 then s.dmaStatus c else s.regN ((0x80 + c) * 0x1000 + off)

/-- What a claim of a core would return now (R285). -/
def State.claimId (s : State) (c : Nat) : Nat :=
  if 16 ≤ (s.stack c).length then 0x3FFF else (s.claimNext c).getD 0x3FFF

/-- HVC_STACK of a core (R288). -/
def State.stackWord (s : State) (c : Nat) : Nat :=
  match s.stack c with
  | [] => fields [(0, 5), (0x3FFF, 14)]
  | x :: r => fields [(r.length + 1, 5), (x.1, 14), (x.2, 8)]

/-- An HVC page (R288). -/
def State.readHvc (s : State) (n off : Nat) : Nat :=
  let id := s.fld Reg.HVC_SSEL 0 14
  if n ≠ 0 then s.regN ((0xA0 + n) * 0x1000 + off)
  else if off = 0x4C then (s.src id).scfg
  else if off = 0x50 then fields [(s.srcOwner id, 9), (b2n (decide (id < 0x3000)), 1)]
  else if 0x60 ≤ off ∧ off < 0x70 then s.claimId ((off - 0x60) / 4)
  else if 0x80 ≤ off ∧ off < 0x90 then s.stackWord ((off - 0x80) / 4)
  else if off = 0x90 then fields ((List.range 4).map fun c => (b2n (s.coreLine c), 1))
  else s.regN (0xA0000 + off)

/-- MBX_FSTAT of a function (R311). -/
def State.fstat (s : State) (n : Nat) : Nat :=
  fields [((s.fn n).mboxOut.length, 3), ((s.fn n).mboxIn.length, 3), (s.mboxDepth n, 10), (s.mboxGen n, 8)]

/-- An MBX page (R311). -/
def State.readMbx (s : State) (k off : Nat) : Nat :=
  if 0x100 ≤ off ∧ off < 0x180 then s.fstat (32 * k + (off - 0x100) / 4) else s.regN ((0xB0 + k) * 0x1000 + off)

/-- The ENS page (R234, R241, R244). -/
def State.readEns (s : State) (off : Nat) : Nat :=
  let on := s.bit Reg.ENS_CFG 0
  if 0x80 ≤ off ∧ off < 0xA0 then (if on then bits s.ensDigest ((off - 0x80) / 4 * 32) 32 else 0)
  else if off = 0xA0 then s.wcyc % 2 ^ 28
  else if off = 0xA4 then s.ensBudget % 2 ^ 28
  else s.regN (s.keyAt 0xC0 off)

/-- An ENP page (R245): LINK follows EN, and reads 0 while an apply updates the port (R353). -/
def State.readEnp (s : State) (n off : Nat) : Nat :=
  if off = 0x50 then s.over (Reg.ENP_STATUS n) 0 1 (b2n (s.enpOn n)) else s.regN ((0xC1 + n) * 0x1000 + off)

/-- A register of a block page through the normal, SET or CLEAR view. -/
def State.readBlock (s : State) (page off : Nat) : Nat :=
  if off < 0x40 then s.readHeader page off
  else match blockOf page with
    | none => 0
    | some (b, i) =>
      match b with
      | .clk => s.readClk off
      | .pwr => s.readPwr off
      | .tb => s.readTb off
      | .cfg => if off = 0x58 then s.readGstat s.gsel else s.regN (s.keyAt 4 off)
      | .sec => s.readSec off
      | .rel => s.readRel off
      | .sch => s.readSch off
      | .qm => s.readQm off
      | .adm => s.readAdm off
      | .slm => s.regN (s.keyAt 0xB off)
      | .slv => s.readSlv i off
      | .try => s.readTry i off
      | .pio => s.readPio i off
      | .fbk => s.readFbk i off
      | .dma => s.readDma i off
      | .hvc => s.readHvc i off
      | .mbx => s.readMbx i off
      | .ens => s.readEns off
      | .enp => s.readEnp i off
      | .dbg => if off = 0x44 then s.over Reg.DBG_STATUS 0 1 (b2n (decide (s.mode = Mode.halt))) else s.regN (0x100000 + off)
      | .glb | .ten => s.regN (page * 0x1000 + off)

/-- The SHADOW view: the staged value of RWS fields, and 0 elsewhere (R10). -/
def State.readShadow (s : State) (page off : Nat) : Nat :=
  match rowOf (s.keyAt page off) with
  | some r => Nat.land (s.staged (s.keyAt page off)).toNat r.rws
  | none => 0

/-! ### The tenant page (R14, R46, R130, R271, R289, R310) -/

/-- The rings (R271). -/
def State.readRing (s : State) (n off : Nat) : Nat :=
  let f := s.fn n
  let en := s.bit (Reg.TEN_RING_CTRL n) 0
  if off = 0x12C then
    s.over (Reg.TEN_RING_STAT n) 0 2 (fields [(b2n (en && !s.bit (Reg.TEN_RING_STAT n) 3 && !f.aborting && s.modeFetches n), 1),
      (b2n (!en && f.inflight.isEmpty), 1)])
  else if off = 0x130 then s.over (Reg.TEN_CREDIT n) 16 13 f.inflight.length
  else if off = 0x134 then s.over (Reg.TEN_SEQ n) 16 7 f.hist.length
  else s.regN (tenBase + n * 0x10000 + off)

/-- TEN_VSTAT of the selected vector (R289). -/
def State.vstat (s : State) (n : Nat) : Nat :=
  let v := s.vec (vecKey n (s.regN (Reg.TEN_VSEL n)))
  let m := s.fld (Reg.TEN_VMOD n (s.regN (Reg.TEN_VSEL n))) 8 16
  fields [(v.count, 8), (b2n (v.start.isSome && decide (m ≠ 0)), 1)]

/-- The interrupt registers (R289). -/
def State.readTenIrq (s : State) (n off : Nat) : Nat :=
  if off = 0x1000 then fields ((List.range 22).map fun j => (b2n (s.srcEn (24 * n + j)), 1))
  else if off = 0x1010 then fields ((List.range 22).map fun j => (b2n (s.srcPend (24 * n + j)), 1))
  else if off = 0x1020 then s.shNext n
  else if off = 0x1034 then
    let k := Reg.TEN_VMOD n (s.regN (Reg.TEN_VSEL n))
    s.over k 0 8 (max 1 (s.fld k 0 8))
  else if off = 0x1038 then s.vstat n
  else s.regN (tenBase + n * 0x10000 + off)

/-- Identity and quotas (R130). -/
def State.readTenId (s : State) (n off : Nat) : Nat :=
  if off = 0 then fields [(n, 16), (b2n (decide (n = 0)), 1)]
  else if 0x10 ≤ off ∧ off < 0x3C then s.quotaOf n ((off - 0x10) / 4)
  else if 0x40 ≤ off ∧ off < 0x6C then s.useOf n ((off - 0x40) / 4)
  else 0

/-- The mailbox (R310). -/
def State.readTenMbx (s : State) (n off : Nat) : Nat :=
  if 0x840 ≤ off ∧ off < 0x880 then msgWord ((s.fn n).mboxIn.headD []) ((off - 0x840) / 4)
  else if off = 0x884 then
    s.over (Reg.TEN_MBX_STAT n) 0 6 (fields [((s.fn n).mboxOut.length, 3), ((s.fn n).mboxIn.length, 3)])
  else if off = 0x888 then (s.regN Reg.MBX_ALIVE + 2 ^ 32 - (s.fn n).aliveBase) % 2 ^ 32
  else s.regN (tenBase + n * 0x10000 + off)

/-- A register of a tenant page. -/
def State.readTenant (s : State) (n off : Nat) : Nat :=
  if off < 0x100 then s.readTenId n off
  else if off < 0x200 then s.readRing n off
  else if off = 0x200 ∨ off = 0x204 then 0
  else if off = 0x300 then lowWord s.tb.now
  else if off = 0x304 then highWord s.tb.now
  else if off = 0x308 then s.tb.epoch
  else if off = 0x30C then s.fld Reg.TB_STATUS 0 3
  else if 0x800 ≤ off ∧ off < 0x900 then s.readTenMbx n off
  else if 0x1000 ≤ off ∧ off < 0x2000 then s.readTenIrq n off
  else s.regN (tenBase + n * 0x10000 + off)

/-! ### BAR0 -/

/-- A normal-view read clears the RC fields of its register (R7, R11). -/
def State.afterRead (s : State) (page off : Nat) : State :=
  match rowOf (page * 0x1000 + off) with
  | some r => if r.rc = 0 then s else s.setN (page * 0x1000 + off) (dropBits (s.regN (page * 0x1000 + off)) r.rc)
  | none => s

/-- The engine whose PIO_RXDATA stands at an offset of a page. -/
def rxEngine (page off : Nat) : Option Nat :=
  match blockOf page with
  | some (.pio, n) =>
    if 0x200 ≤ off ∧ off < 0xA00 ∧ (off - 0x200) % 0x200 = 0x40 then some (n * 4 + (off - 0x200) / 0x200) else none
  | _ => none

/-- The core whose HVC_CLAIM stands at an offset of a page. -/
def claimCore (page off : Nat) : Option Nat :=
  if page = hvcPage ∧ 0x60 ≤ off ∧ off < 0x70 ∧ off % 4 = 0 then some ((off - 0x60) / 4) else none

/-- A normal-view read of a block page: a pop, a claim, or the value with its RC fields cleared (R11, R191, R285). -/
def State.readNormal (s : State) (page off : Nat) : State :=
  match rxEngine page off with
  | some e => s.readRx e
  | none => match claimCore page off with
    | some c => s.claim c
    | none => (s.afterRead page off).send (.readData 0 (word (s.readBlock page off)))

/-- A 32-bit read of the PF at an offset of a block page. In BOOT only GLB and SEC are there (R346), and the page of another
tenant's DMA channel is refused whole (R290). -/
def State.readPage (s : State) (addr : Nat) : State :=
  let page := pageAt addr
  let off := addr % 0x1000
  let view := addr / 0x1000 % 4
  if s.mode = Mode.boot ∧ page ≠ 0 ∧ page ≠ 5 then s.send (.readData 0 0)
  else if (blockOf page).isNone then (s.unmapped addr).send (.readData 0 0)
  else if s.foreignChan page then (s.chanRefused (page - 0x80)).send (.readData 0 0)
  else if view = 3 then s.send (.readData 0 (word (s.readShadow page off)))
  else if view = 0 then s.readNormal page off
  else s.send (.readData 0 (word (s.readBlock page off)))

/-- A 32-bit read of a function at a BAR0 offset (R12, R247, R248, R250): the writes its buffer holds are applied
first. An unaligned read, and one in D3hot, is completed with Unsupported Request (R270). -/
def State.readBar0 (s : State) (fn addr : Nat) : State :=
  if s.reads fn = false then s.readRefused fn
  else if addr % 4 ≠ 0 then s.send (.unsupported fn)
  else
    let s := s.drainBuf fn
    let base := if fn = 0 then 0x1FF0000 else 0
    if addr < base then s.readPage addr
    else if base + 0x10000 ≤ addr then s
    else if s.mode = Mode.boot then s.send (.readData fn 0)
    else s.send (.readData fn (word (s.readTenant fn (addr - base))))

/-- PIO_RXDATA (R191). -/
def execPioRxdata (engine : Nat) (s : State) : Host.Outcome State Fault Refusal :=
  onUnit (okEngine engine) (s.readBar0 0 (pioPage engine * 0x4000 + 0x240 + engine % 4 * 0x200))

/-- A read of the JTAG debug access: it reaches the registers of the DBG page (R338). -/
def State.jtagRead (s : State) (addr : Nat) : State :=
  if s.jtagReach addr = false then s
  else if addr / 0x1000 % 4 = 3 then s.send (.jtag (word (s.readShadow dbgPage (addr % 0x1000))))
  else s.send (.jtag (word (s.readBlock dbgPage (addr % 0x1000))))

/-- A BAR0 read as it comes: aligned 32 bits, aligned 64 bits as two of 32, lower address first; any other, and an AtomicOp, is
completed with Unsupported Request (R246, R248). -/
def State.readSized (s : State) (fn : Nat) (r : Bar0Ref) : State :=
  match r.kind with
  | .bytes n =>
    if n = 4 then s.readBar0 fn r.addr
    else if n = 8 ∧ r.addr % 8 = 0 then (s.readBar0 fn r.addr).readBar0 fn (r.addr + 4)
    else if s.reads fn then s.send (.unsupported fn) else s.readRefused fn
  | .atomic => if s.reads fn then s.send (.unsupported fn) else s.readRefused fn
  | .jtag => s.jtagRead r.addr

/-- READ_CLEAR (R11): a read of any register. -/
def execReadClear (fn : Nat) (ref : Bar0Ref) (s : State) : Host.Outcome State Fault Refusal := onUnit (okFn fn) (s.readSized fn ref)

/-- A PF access to a BAR0 offset that no block occupies (R12). -/
def State.strayAccess (s : State) (addr : Nat) (write : Bool) : State :=
  if 0x1FF0000 ≤ addr ∨ (blockOf (pageAt addr)).isSome then s
  else if write then s.writeBar0 0 addr 0
  else s.readBar0 0 addr

/-- UNMAPPED_ACCESS (R12). A VF's BAR0 holds its tenant page and nothing else. -/
def execUnmappedAccess (fn addr : Nat) (write : Bool) (s : State) : Host.Outcome State Fault Refusal :=
  onUnit (okFn fn) (if fn = 0 then s.strayAccess addr write else s)

end Sys2Proof.Machine
end

