-- ==== Sys2Proof/Machine/Commands.lean ====
section
/-! DEFINITION. How a command of a ring runs (R253, R260, R262): the order of a function's commands, what a command
names, and its completion. -/

namespace Sys2Proof.Machine

open Sys2Proof

/-! ### What a command names (R260) -/

/-- The resources a target stands for, as kind and ID. -/
def targetNames (ttype target : Nat) : List (Nat × Nat) :=
  match ttype with
  | 1 => [(1, target)]
  | 2 => [(1, 2 * target), (1, 2 * target + 1)]
  | 3 => [(3, target)]
  | 4 => [(4, target)]
  | 5 => [(2, target)]
  | _ => []

/-- A log queue named by LOGEN and LOGQ. -/
def logNames (on : Bool) (q : Nat) : List (Nat × Nat) := if on then [(0, q)] else []

/-- What a PIN_LEND names: its engine or port, the cuffs, and the engine of programmable mode. -/
def lendNames (p : Nat) : List (Nat × Nat) :=
  (bits p 0 4, bits p 8 8) :: (List.range (bits p 26 4)).map (fun i => (1, bits p 16 10 + i))
    ++ (if bits p 0 4 = 4 ∧ bits p 32 2 = 3 then [(3, bits p 40 7)] else [])

/-- The objects a command names: 0 a queue, 1 to 6 a resource of that kind, 10 a page, 11 a tray, 12 a slab page. -/
def Cmd.names (c : Cmd) : List (Nat × Nat) :=
  let p := c.param
  match c.opcode with
  | 0x10 => targetNames (bits p 40 3) (bits p 48 12) ++ logNames (bitAt p 127) (bits p 96 20)
  | 0x11 | 0x12 | 0x13 => [(0, bits p 0 20)]
  | 0x20 | 0x21 => (List.range (bits p 32 10)).map fun i => (12, bits p 16 10 + i)
  | 0x30 | 0x31 => if bits p 32 16 = 0xFFFF then [] else [(bits p 0 4, bits p 32 16)]
  | 0x32 => lendNames p
  | 0x33 => (2, bits p 0 12) :: targetNames (bits p 16 3) (bits p 20 12) ++ logNames (bitAt p 34) (bits p 44 20)
  | 0x34 => [(6, bits p 0 12)]
  | 0x35 => [(2, bits p 0 12)]
  | 0x40 | 0x41 => [(10, bits p 0 11)]
  | 0x50 | 0x51 | 0x52 => (bitList 8 (bits p 96 8)).map fun t => (11, t)
  | 0x70 | 0x71 | 0x72 | 0x73 | 0x74 => [(5, bits p 0 5)]
  | _ => []

/-! ### Order (R260) -/

/-- FENCE. -/
def Cmd.fence (c : Cmd) : Bool := bitAt c.flags 0

/-- The commands of a function that were fetched before one and have not completed. -/
def State.before (s : State) (n : Nat) (c : Cmd) : List Cmd :=
  ((s.fn n).inflight.takeWhile fun d => decide (d.tag ≠ c.tag)).filter fun d => !d.done

/-- The two name one object. -/
def Cmd.shares (c d : Cmd) : Bool := c.names.any fun x => d.names.contains x

/-- A command may start: no fence before it, nothing before it if it is one, and nothing before it that names what
it names. -/
def State.mayStart (s : State) (n : Nat) (c : Cmd) : Bool :=
  let l := s.before n c
  l.all (fun d => !d.fence && !(c.shares d && d.dup.isNone)) && (!c.fence || l.isEmpty)

/-- The command is in the hands of a live update or an abort sequence, and completes with it. -/
def State.inHand (s : State) (c : Cmd) : Bool :=
  s.fns.any (fun e => e.2.abortTags.contains c.tag) ||
    match s.upd with
    | some u => !u.apply && decide (u.tag = c.tag)
    | none => false

/-- The commands of a function take effect: its commit gate is open and the device is in a mode with firmware (R265,
R317). -/
def State.gateOpen (s : State) (n : Nat) : Bool :=
  !(s.fn n).aborting && !(s.fn n).flr && decide (s.mode ≠ Mode.off) && decide (s.mode ≠ Mode.boot)
    && decide (s.mode ≠ Mode.doze)

/-- The command with a tag, an opcode and a code in its PARAM, and its function; one that has completed or repeats an
earlier one has no effect of its own (R261). -/
def State.findCmd (s : State) (tag op : Nat) (sub : Nat → Bool) : Option (Nat × Cmd) :=
  s.fns.findSome? fun e => (e.2.inflight.find? fun c =>
    decide (c.tag = tag) && decide (c.opcode = op) && !c.done && c.dup.isNone && sub c.param).map fun c => (e.1, c)

/-- The command that runs now for a tag; steward pair 0 executes it, but the hardware an abort (R264, R351). -/
def State.ready (s : State) (tag op : Nat) (sub : Nat → Bool) : Option (Nat × Cmd) :=
  match s.findCmd tag op sub with
  | some (n, c) =>
    if s.gateOpen n && s.mayStart n c && !s.inHand c && (s.pairUp 0 || decide (op = 0x62)) then some (n, c) else none
  | none => none

/-! ### Completion -/

/-- What a command brings about: the next state, the status and the two results. -/
structure CmdRes where
  st : State
  code : Nat := 0
  r0 : Nat := 0
  r1 : Nat := 0

/-- A refused command changes nothing. -/
def State.refuse (s : State) (code : Nat) : CmdRes := { st := s, code := code }

/-- A command completes with its effect, which is whole or absent (R260). -/
def State.runCmd (s : State) (tag op : Nat) (f : State → Nat → Nat → CmdRes) (sub : Nat → Bool := fun _ => true) : State :=
  match s.ready tag op sub with
  | none => s
  | some (n, c) =>
    let r := f s n c.param
    r.st.finishCmd n c r.code r.r0 r.r1

/-- NOP_COMMAND (R262). -/
def execNopCommand (tag : Nat) (s : State) : Host.Outcome State Fault Refusal :=
  onUnit (okTag tag) (s.runCmd tag 0x00 fun s _ _ => { st := s })

end Sys2Proof.Machine
end

