-- ==== Sys2Proof/Machine/Admission.lean ====
section
/-! DEFINITION. The queue commands (R82, R83, R99, R100, R102, R262) and admission (R113-R120). -/

namespace Sys2Proof.Machine

open Sys2Proof

/-! ### Creating, freeing and controlling a queue -/

/-- The code that refuses a command for naming a queue: it does not exist, or it is another tenant's (R262). -/
def State.queueCode (s : State) (n q : Nat) : Nat :=
  if (s.queue q).state = QState.free then Code.rejectClass
  else if (s.queue q).tenant ≠ n then Code.rejectQuota else Code.ok

/-- The code that refuses a LOGQ (R262). -/
def State.logCode (s : State) (n : Nat) (on : Bool) (q : Nat) : Nat :=
  if on = false then Code.ok
  else if s.queueCode n q ≠ Code.ok then s.queueCode n q
  else if (s.queue q).ttype ≠ 0 then Code.rejectClass else Code.ok

/-- The first of some codes that is not OK. -/
def firstCode (l : List Nat) : Nat := (l.find? (· ≠ Code.ok)).getD Code.ok

/-- BASE and LOG2 of a ring: 2^k entries, k 2 to 16, aligned to their size, within the slab space (R82, R83). -/
def ringFits (base k : Nat) : Bool := decide (2 ≤ k ∧ k ≤ 16 ∧ base % (16 * 2 ^ k) = 0 ∧ base + 16 * 2 ^ k ≤ 2 ^ 26)

/-- The code that refuses the target of a new queue; a log queue has TARGET 0. -/
def State.newTargetCode (s : State) (n ttype target : Nat) : Nat :=
  if ttype = 0 then (if target = 0 then Code.ok else Code.rejectClass) else s.bindCode n ttype target

/-- The j-th number that rising keys leave free. -/
def nthFree (keys : List Nat) (j : Nat) : Nat := keys.foldl (fun j k => if k ≤ j then j + 1 else j) j

/-- A free queue ID, by a free pick; none where every queue is in use. -/
def State.freeQueueId (s : State) : Option Nat :=
  let used := (s.queues.filter fun e => decide (e.2.state ≠ QState.free)).map (·.1)
  if 1048576 ≤ used.length then none else some (nthFree used (Config.pick s.fresh % (1048576 - used.length)))

/-- QM writes a whole descriptor, which loses its error marks (R295, R356). -/
def State.goodDesc (s : State) (q : Nat) : State :=
  { s with eccBad := s.eccBad.filter (· / 2 != q), eccSoft := s.eccSoft.filter (· / 2 != q) }

/-- QUEUE_CREATE (R82, R83, R262). -/
def State.queueCreate (s : State) (n p : Nat) : CmdRes :=
  let base := bits p 0 32
  let k := bits p 32 8
  let late := bits p 64 2
  let code := firstCode [if ringFits base k ∧ late ≠ 0 then Code.ok else Code.rejectClass,
    s.newTargetCode n (bits p 40 3) (bits p 48 12), s.logCode n (bitAt p 127) (bits p 96 20),
    if s.quotaFits n 0 1 then Code.ok else Code.rejectQuota]
  if code ≠ Code.ok then s.refuse code
  else match s.freeQueueId with
    | none => s.refuse Code.rejectCapacity
    | some q =>
      { st := (s.nextFresh.goodDesc q).setQueue q
          { base := base / 16, log2 := k, late := late, ttype := bits p 40 3, target := bits p 48 12, tenant := n,
            state := QState.run, logq := if bitAt p 127 then bits p 96 20 else 0, logen := bitAt p 127 }
        r0 := q }

/-- QUEUE_FREE (R102, R119, R262). -/
def State.queueFree (s : State) (n p : Nat) : CmdRes :=
  let q := bits p 0 20
  let code := firstCode [s.queueCode n q, if s.loggedTo q then Code.rejectClass else Code.ok]
  if code ≠ Code.ok then s.refuse code else { st := s.freeQueue q }

/-- QUEUE_CTRL (R99, R100). -/
def State.queueCtrl (f : State → Nat → State) (s : State) (n p : Nat) : CmdRes :=
  let q := bits p 0 20
  let code := s.queueCode n q
  if code ≠ Code.ok then s.refuse code else { st := f s q }

/-! ### Admission (R113-R118) -/

/-- What a QUEUE_ADMIT asks for. -/
structure Terms where
  q : Nat
  cls : Nat
  burst : Nat
  lead : Nat
  rate : Nat
  deriving DecidableEq, Repr

/-- A lead of 0 stands for ADM_LEAD_DEF. -/
def State.termsOf (s : State) (p : Nat) : Terms :=
  let l := bits p 40 24
  { q := bits p 0 20, cls := bits p 32 2, burst := bits p 36 4, lead := if l = 0 then s.fld Reg.ADM_LEAD_DEF 0 24 else l,
    rate := bits p 64 32 }

/-- The resources a queue's target takes for itself. -/
def Queue.takes (d : Queue) : List (Nat × Nat) := targetNames d.ttype d.target

/-- A guarded context may keep its grant to a guarded cuff or pair (R114). -/
def guardedGrant (k : Ctx) (cls : Nat) (p : NearPort) : Bool :=
  k.guarded && decide (cls = 2) && (decide (p.ttype = 1) || decide (p.ttype = 2))

/-- No other queue is bound to the resources, and no near-path port but those R114 allows. -/
def State.aloneAt (s : State) (q cls : Nat) (rs : List (Nat × Nat)) : Bool :=
  s.queues.all (fun e => decide (e.1 = q) || decide (e.2.state = QState.free) || e.2.takes.all fun r => !rs.contains r)
    && s.ctxs.all fun e => decide (e.2.st = .free) || e.2.ports.all fun p =>
      guardedGrant e.2 cls p.2 || (targetNames p.2.ttype p.2.target).all fun r => !rs.contains r

/-- A cuff of the target is lent (R114). -/
def State.lentTarget (s : State) (d : Queue) : Bool :=
  d.takes.any fun r => decide (r.1 = 1) && decide ((s.cuff r.2).lent ≠ .none)

/-- The target is a cuff or pair of a sleeve that a hold-and-swap in hand has selected (R387). -/
def State.heldTarget (s : State) (d : Queue) : Bool :=
  s.hsBusy && d.takes.any fun r => decide (r.1 = 1) && bitAt s.hs.sleeves (r.2 / 32)

/-- The class change of a queue that is neither stopped nor empty (R262). -/
def Queue.classBusy (d : Queue) (cls : Nat) : Bool :=
  decide (cls ≠ d.cls) && decide (d.state ≠ QState.stopped) && decide (d.head ≠ d.tail)

/-- The class checks of a contract hold: R116 order 1 and R387. -/
def State.classFits (s : State) (x : Terms) (d : Queue) : Bool :=
  decide (1 ≤ x.burst ∧ x.burst ≤ 8) && decide (12000 ≤ x.lead ∧ x.lead ≤ 16777215) && decide (x.rate ≠ 0)
    && s.aloneAt x.q x.cls d.takes && !s.lentTarget d && !(decide (x.cls = 2) && decide (s.dlead < 128)) && !s.heldTarget d

/-- The active trays: neither the spare nor retired. -/
def State.activeTrays (s : State) : List Nat :=
  (List.range 9).filter fun t => decide (s.spareTray ≠ t) && !s.bit Reg.ADM_GUARD (13 + t)

/-- The tray is marked failing. -/
def State.failing (s : State) (t : Nat) : Bool := s.bit Reg.ADM_GUARD (4 + t)

/-- The tray's sum holds with a rate added (R115). -/
def State.trayHolds (s : State) (r t : Nat) : Bool := decide (s.trayRate t + r ≤ 750000000)

/-- The other trays in which the tenant holds the context of a guarded target, free for a triple (R120). -/
def State.twins (s : State) (x : Terms) (d : Queue) : List Nat :=
  s.activeTrays.filter fun t =>
    let c := s.servesOf t * 256 + d.target % 256
    decide (c ≠ d.target) && decide ((s.ctx c).st ≠ .free) && decide ((s.ctx c).tenant = d.tenant) && !(s.ctx c).guarded
      && s.aloneAt x.q 2 [(2, c)]

/-- Three distinct picks out of a list. -/
def pick3 (fresh : Nat) (l : List Nat) : Option (List Nat) :=
  match pickOf fresh l with
  | none => none
  | some a => match pickOf (fresh + 1) (l.filter (· ≠ a)) with
    | none => none
    | some b => (pickOf (fresh + 2) (l.filter fun t => t ≠ a ∧ t ≠ b)).map fun c => [a, b, c]

/-- Two picks after a given first tray. -/
def pickAfter (fresh first : Nat) (l : List Nat) : Option (List Nat) :=
  match pickOf fresh (l.filter (· ≠ first)) with
  | none => none
  | some b => (pickOf (fresh + 1) (l.filter fun t => t ≠ first ∧ t ≠ b)).map fun c => [first, b, c]

/-- The voting trays of a guarded contract, a free pick among those that are not failing and hold the rate (R120,
R125). A context's own tray is slot 0. R125 speaks of a failing tray that no spare replaces; the model keeps one out while
its rebuild runs too (DESIGN CHOICE, log entry 28). -/
def State.votingTrays (s : State) (x : Terms) (d : Queue) : Option (List Nat) :=
  let good := s.activeTrays.filter fun t => !s.failing t && s.trayHolds x.rate t
  if d.ttype = 5 then
    let own := s.physOf (d.target / 256)
    if good.contains own then pickAfter s.fresh own ((s.twins x d).filter good.contains) else none
  else pick3 s.fresh good

/-- The sum a contract would break, judged without the queue's old contract: 1 target, 2 tray, 3 device rate, 4 device
burst (R115); 0 where each holds. -/
def State.brokenSum (s : State) (x : Terms) (d : Queue) (trays : Option (List Nat)) : Nat :=
  let w := if x.cls = 2 then 3 else 1
  if (if d.ttype = 1 ∨ d.ttype = 2 then 375000000 else 187500000) < x.rate then 1
  else if x.cls = 2 ∧ trays.isNone then 2
  else if x.cls = 1 ∧ d.ttype = 5 ∧ s.trayHolds x.rate (s.physOf (d.target / 256)) = false then 2
  else if 5000000000 < s.devRate + w * x.rate then 3
  else if 3 * (s.dlead - 64) < s.devBurst + w * x.burst then 4
  else 0

/-- The contract of admitted terms (R113, R117). -/
def State.contractOf (s : State) (x : Terms) (trays : List Nat) : Contract :=
  { rate := x.rate, burst := x.burst, lead := x.lead, intv := (24000000000 + x.rate - 1) / x.rate, tat := s.tb.now,
    trays := trays }

/-- ADM_REFUSE (R116, R128). -/
def State.admRefuse (s : State) (q code sum : Nat) : CmdRes :=
  { st := s.setN Reg.ADM_REFUSE (code % 256 + q % 2 ^ 20 * 2 ^ 8 + sum % 16 * 2 ^ 28), code := code }

/-- The physical trays of a list in the nibbles of RESULT0. -/
def nibbles (l : List Nat) : Nat := fields (l.map fun t => (t, 4))

/-- The contract takes effect; a guarded context's triple becomes guarded. -/
def State.acceptTerms (s : State) (x : Terms) (trays : List Nat) : CmdRes :=
  let d := s.queue x.q
  let s := if x.cls = 2 then { s with fresh := s.fresh + 3 } else s
  let s := if x.cls = 2 ∧ d.ttype = 5 then s.setGuarded (trays.map fun t => s.servesOf t * 256 + d.target % 256) true else s
  let k := s.contractOf x trays
  { st := s.setQueue x.q { d with cls := x.cls, contract := some k }, r0 := nibbles trays, r1 := k.intv % 2 ^ 40 }

/-- An admission judged in the order of R116, on the state without the old contract. -/
def State.judgeTerms (s : State) (n : Nat) (x : Terms) : CmdRes :=
  let t := s.releaseContract x.q
  let d := s.queue x.q
  let trays := if x.cls = 2 then t.votingTrays x d else some []
  let sum := t.brokenSum x d trays
  if t.classFits x d = false ∨ (x.cls = 2 ∧ d.ttype = 5 ∧ (t.twins x d).length < 2) then s.admRefuse x.q Code.rejectClass 6
  else if n ≠ 0 ∧ t.quotaOf n 9 * 1000 < t.tenantRate n + x.rate then s.admRefuse x.q Code.rejectQuota 5
  else if sum ≠ 0 then s.admRefuse x.q Code.rejectCapacity sum
  else if 786432 < t.reservedRefs + d.credits then s.admRefuse x.q Code.rejectCapacity 0
  else t.acceptTerms x (trays.getD [])

/-- QUEUE_ADMIT (R116, R119, R262). -/
def State.queueAdmit (s : State) (n p : Nat) : CmdRes :=
  let x := s.termsOf p
  let d := s.queue x.q
  if s.queueCode n x.q ≠ Code.ok then s.refuse (s.queueCode n x.q)
  else if x.cls = 3 ∨ d.classBusy x.cls ∨ (d.ttype = 0 ∧ x.cls ≠ 0) then s.admRefuse x.q Code.rejectClass 6
  else if x.cls = 0 then { st := s.releaseContract x.q }
  else s.judgeTerms n x

/-! ### Commands -/

/-- QUEUE_CREATE (R262). -/
def execQueueCreate (tag : Nat) (s : State) : Host.Outcome State Fault Refusal :=
  onUnit (okTag tag) (s.runCmd tag 0x10 State.queueCreate)

/-- QUEUE_FREE (R262). -/
def execQueueFree (tag : Nat) (s : State) : Host.Outcome State Fault Refusal :=
  onUnit (okTag tag) (s.runCmd tag 0x11 State.queueFree)

/-- QUEUE_CTRL_STOP (R99). -/
def execQueueCtrlStop (tag : Nat) (s : State) : Host.Outcome State Fault Refusal :=
  onUnit (okTag tag) (s.runCmd tag 0x12 (State.queueCtrl State.qStop) fun p => decide (bits p 32 2 = 1))

/-- QUEUE_CTRL_RESUME (R99). -/
def execQueueCtrlResume (tag : Nat) (s : State) : Host.Outcome State Fault Refusal :=
  onUnit (okTag tag) (s.runCmd tag 0x12 (State.queueCtrl State.qResume) fun p => decide (bits p 32 2 = 2))

/-- QUEUE_CTRL_FLUSH (R100). -/
def execQueueCtrlFlush (tag : Nat) (s : State) : Host.Outcome State Fault Refusal :=
  onUnit (okTag tag) (s.runCmd tag 0x12 (State.queueCtrl State.qFlush) fun p => decide (bits p 32 2 = 3))

/-- QUEUE_ADMIT (R116). -/
def execQueueAdmit (tag : Nat) (s : State) : Host.Outcome State Fault Refusal :=
  onUnit (okTag tag) (s.runCmd tag 0x13 State.queueAdmit)

end Sys2Proof.Machine
end

