-- ==== Sys2Proof/Machine/SlabMap.lean ====
section
/-! DEFINITION. The slab map as the steward firmware builds it (R107, R109-R111, R262). Where it puts its tables and
which free page it takes are free picks (log entry 3). -/

namespace Sys2Proof.Machine

open Sys2Proof

/-! ### What the tables hold -/

/-- The valid second-level entries of a table, as their FRAME fields. -/
def State.framesOf (s : State) (t : Nat) : List Nat :=
  ((List.range 16).map fun i => s.readMem (t + 4 * i) 4).filterMap fun e => if bitAt e 0 then some (e / 65536) else none

/-- The second-level tables of a first-level one. -/
def State.tablesOf (s : State) (l1 : Nat) : List Nat :=
  ((List.range 64).map fun i => s.readMem (l1 + 4 * i) 4).filterMap fun e => if bitAt e 0 then some (e / 64 * 64) else none

/-- The first-level table of a tenant. -/
def State.l1Of (s : State) (n : Nat) : Option Nat :=
  let v := s.regN (Reg.SLM_L1BASE n)
  if bitAt v 0 then some (v / 256 * 256) else none

/-- The tenants that have a map. -/
def State.mapped (s : State) : List Nat := (List.range 512).filter fun n => (s.l1Of n).isSome

/-- Every first-level table. -/
def State.allL1 (s : State) : List Nat := s.mapped.filterMap s.l1Of

/-- Every second-level table. -/
def State.allL2 (s : State) : List Nat := s.allL1.flatMap s.tablesOf

/-- The 64 KB frames in use. -/
def State.usedFrames (s : State) : List Nat := s.allL2.flatMap s.framesOf

/-- The frames of a region: the action slab, or logs and data (R109). -/
def regionFrames (logs : Bool) : List Nat :=
  if logs then (List.range 64).map (0x380 + ·) else (List.range 640).map (0x100 + ·)

/-- The free frames of a region. -/
def State.freeFrames (s : State) (logs : Bool) : List Nat :=
  let used := s.usedFrames
  (regionFrames logs).filter fun f => !used.contains f

/-- The 64-byte places of the table region that hold a table. -/
def State.usedPlaces (s : State) : List Nat :=
  s.allL2.map (· / 64) ++ s.allL1.flatMap fun a => (List.range 4).map (a / 64 + ·)

/-- A free place for a table of `k` 64-byte parts, aligned to its size, in 0x03C0_0000 to 0x03FF_FFFF. -/
def State.freePlace (s : State) (k : Nat) : Option Nat :=
  let used := s.usedPlaces
  (pickOf s.fresh ((List.range (65536 / k)).filter fun i =>
    (List.range k).all fun j => !used.contains (0x03C00000 / 64 + i * k + j))).map fun i => 0x03C00000 + i * k * 64

/-! ### Changing a map -/

/-- Zeroes a range of internal memory whose ends are 8-byte aligned; its words are whole again (R295). -/
def State.zero (s : State) (a n : Nat) : State :=
  { s with mem := s.mem.filter (fun c => decide (c.1 < a ∨ a + n ≤ c.1)),
           eccBad := s.eccBad.filter (fun w => decide (w < a / 8 ∨ (a + n) / 8 ≤ w)),
           eccSoft := s.eccSoft.filter (fun w => decide (w < a / 8 ∨ (a + n) / 8 ≤ w)) }

/-- The page of a slab address is mapped. -/
def State.pageMapped (s : State) (n a : Nat) : Bool :=
  match s.walk n a with
  | .ok _ => true
  | .bad _ _ => false

/-- The tenant has a first-level table. -/
def State.withL1 (s : State) (n : Nat) : Option State :=
  match s.l1Of n with
  | some _ => some s
  | none => (s.freePlace 4).map fun p => (s.nextFresh.zero p 256).setN (Reg.SLM_L1BASE n) (p + 1)

/-- The first-level entry of an address is valid. -/
def State.withL2 (s : State) (n a : Nat) : Option State :=
  match s.l1Of n with
  | none => none
  | some t =>
    let e := t + 4 * bits a 20 6
    if bitAt (s.readMem e 4) 0 then some s
    else (s.freePlace 1).map fun p => (s.nextFresh.zero p 64).writeMem e 4 (p + 1)

/-- The internal address of the second-level entry of an address. -/
def State.entryPlace (s : State) (n a : Nat) : Option Nat :=
  (s.l1Of n).map fun t => s.readMem (t + 4 * bits a 20 6) 4 / 64 * 64 + 4 * bits a 16 4

/-- One page is added: zeroed, and then mapped (R111). -/
def State.mapPage (s : State) (n a : Nat) (logs : Bool) : Option State :=
  match (s.withL1 n).bind (fun s => s.withL2 n a) with
  | none => none
  | some s => match s.entryPlace n a, pickOf s.fresh (s.freeFrames logs) with
    | some e, some f => some ((s.nextFresh.zero (f * 65536) 65536).writeMem e 4 (f * 65536 + 1))
    | _, _ => none

/-- A range of pages is added. -/
def State.mapPages (s : State) (n a : Nat) (logs : Bool) : Nat → Option State
  | 0 => some s
  | k + 1 => (s.mapPages n a logs k).bind fun s => s.mapPage n (a + k * 65536) logs

/-- One page is taken away. -/
def State.unmapPage (s : State) (n a : Nat) : State :=
  match s.entryPlace n a with
  | some e => s.writeMem e 4 0
  | none => s

/-- The slab pages a tenant uses (TEN_USE1). -/
def State.setUsed (s : State) (n k : Nat) : State := { s with used := Tbl.set 0 s.used n k }

/-! ### Commands (R262) -/

/-- The slab addresses of the pages a command names. -/
def slabPages (p : Nat) : List Nat := (List.range (bits p 32 10)).map fun i => bits p 0 26 + i * 65536

/-- The address and range errors of R262. -/
def slabRange (p : Nat) : Bool :=
  let n := bits p 32 10
  decide (bits p 0 26 % 65536 = 0 ∧ 1 ≤ n ∧ n ≤ 704 ∧ bits p 0 26 + n * 65536 ≤ 2 ^ 26)

/-- SLAB_MAP (R107, R111, R262): all or nothing. -/
def State.slabMap (s : State) (n p : Nat) : CmdRes :=
  let k := bits p 32 10
  if slabRange p = false ∨ (slabPages p).any (s.pageMapped n) then s.refuse Code.rejectClass
  else if s.quotaFits n 1 k = false then s.refuse Code.rejectQuota
  else if (s.freeFrames (bitAt p 64)).length < k then s.refuse Code.rejectCapacity
  else match s.mapPages n (bits p 0 26) (bitAt p 64) k with
    | some t => { st := t.setUsed n (s.useOf n 1 + k) }
    | none => s.refuse Code.rejectCapacity

/-- Two ranges meet. -/
def rangesMeet (a n b m : Nat) : Bool := decide (a < b + m ∧ b < a + n)

/-- A queue of the tenant lies in a range. -/
def State.queueIn (s : State) (n a len : Nat) : Bool :=
  s.queues.any fun e => decide (e.2.state ≠ QState.free) && decide (e.2.tenant = n)
    && rangesMeet a len (e.2.base * 16) (16 * e.2.size)

/-- A descriptor's slab sides lie in a range. -/
def Desc.slabIn (d : Desc) (a len : Nat) : Bool :=
  (!d.fill && d.srcSlab && rangesMeet a len d.src d.len) || (d.dstSlab && rangesMeet a len d.dst d.len)

/-- A running channel of the tenant lies in a range: its descriptors or its completion queue. -/
def State.chanIn (s : State) (n a len : Nat) : Bool :=
  s.chans.any fun e => e.2.alloc && decide (e.2.owner = n) && decide (e.2.st ≠ 0) &&
    (e.2.queue.any (·.slabIn a len) ||
      (s.cqSlab e.1 && rangesMeet a len (s.pair (Reg.DMA_CQ_BASE_L e.1) (Reg.DMA_CQ_BASE_H e.1)) (32 * s.cqSize e.1)))

/-- SLAB_UNMAP (R262): all or nothing. -/
def State.slabUnmap (s : State) (n p : Nat) : CmdRes :=
  let k := bits p 32 10
  let a := bits p 0 26
  if slabRange p = false ∨ (slabPages p).all (s.pageMapped n) = false ∨ s.queueIn n a (k * 65536) ∨ s.chanIn n a (k * 65536) then
    s.refuse Code.rejectClass
  else { st := ((slabPages p).foldl (fun s a => s.unmapPage n a) s).setUsed n (s.useOf n 1 - k) }

/-- Every page a tenant has mapped is taken away. -/
def State.unmapAll (s : State) (n : Nat) : State :=
  (((List.range 1024).map (· * 65536)).filter (s.pageMapped n)).foldl (fun s a => s.unmapPage n a) s |>.setUsed n 0

/-- SLAB_MAP (R111). -/
def execSlabMap (tag : Nat) (s : State) : Host.Outcome State Fault Refusal := onUnit (okTag tag) (s.runCmd tag 0x20 State.slabMap)

/-- SLAB_UNMAP (R262). -/
def execSlabUnmap (tag : Nat) (s : State) : Host.Outcome State Fault Refusal :=
  onUnit (okTag tag) (s.runCmd tag 0x21 State.slabUnmap)

end Sys2Proof.Machine
end

