-- ==== Sys2Proof/Machine/Allocate.lean ====
section
/-! DEFINITION. Resources (R262): allocation, loans of pins, grants of near-path ports, event flags, starts of
contexts. -/

namespace Sys2Proof.Machine

open Sys2Proof

/-! ### RES_ALLOC and RES_FREE -/

/-- A free unit of a kind, by a free pick. -/
def State.freeUnit (s : State) (kind : Nat) : Option Nat :=
  pickOf s.fresh ((List.range (kindCount kind)).filter fun i => kindHas kind i && (s.holder kind i).isNone)

/-- The code that refuses a named ID: outside the kind's range or held by the issuer, or held by another tenant. -/
def State.namedCode (s : State) (n kind id : Nat) : Nat :=
  if kindHas kind id = false ∨ s.holder kind id = some n then Code.rejectClass
  else if (s.holder kind id).isSome then Code.rejectQuota else Code.ok

/-- The quota of a kind has room. -/
def State.kindFits (s : State) (n kind : Nat) : Bool :=
  match kindQuota kind with
  | some i => s.quotaFits n i 1
  | none => true

/-- RES_ALLOC (R262): nothing is allocated on a refusal. -/
def State.resAlloc (s : State) (n p : Nat) : CmdRes :=
  let kind := bits p 0 4
  let id := bits p 32 16
  let code := firstCode [if kindCount kind = 0 then Code.rejectClass else Code.ok,
    if id = 0xFFFF then Code.ok else s.namedCode n kind id,
    if s.kindFits n kind then Code.ok else Code.rejectQuota]
  if code ≠ Code.ok then s.refuse code
  else if id ≠ 0xFFFF then { st := s.allocRes kind id n, r0 := id }
  else match s.freeUnit kind with
    | none => s.refuse Code.rejectCapacity
    | some i => { st := s.nextFresh.allocRes kind i n, r0 := i }

/-- The code that refuses a command for naming a resource: it does not exist or nobody holds it, or it is another
tenant's (R262). -/
def State.resCode (s : State) (n kind id : Nat) : Nat :=
  match s.holder kind id with
  | some m => if kindHas kind id = false then Code.rejectClass else if m = n then Code.ok else Code.rejectQuota
  | none => Code.rejectClass

/-- RES_FREE (R262). -/
def State.resFree (s : State) (n p : Nat) : CmdRes :=
  let kind := bits p 0 4
  let id := bits p 32 16
  let code := firstCode [s.resCode n kind id, s.freeCode kind id]
  if code ≠ Code.ok then s.refuse code else { st := s.freeRes kind id }

/-! ### PIN_LEND (R181, R203, R219) -/

/-- The code that refuses a set of cuffs. -/
def State.cuffsCode (s : State) (n base count : Nat) : Nat :=
  let cs := (List.range count).map (base + ·)
  if 1024 < base + count then Code.rejectClass
  else if cs.any (fun c => !s.ownsCuff n c) then Code.rejectQuota
  else if cs.all (s.lendable n) then Code.ok else Code.rejectClass

/-- The cuffs lie in one sleeve. -/
def oneSleeve (base count : Nat) : Bool := decide (base / 32 = (base + count - 1) / 32)

/-- The engine has no loan. -/
def State.pioIdle (s : State) (e : Nat) : Bool := decide ((s.pio e).count = 0) && (s.pio e).forPort.isNone

/-- The code that refuses lending a pin set to an engine. -/
def State.lendPioCode (s : State) (n e base count : Nat) : Nat :=
  firstCode [s.resCode n 3 e, if count ≤ 8 ∧ oneSleeve base count ∧ s.pioIdle e then Code.ok else Code.rejectClass,
    s.cuffsCode n base count]

/-- COUNT suits the mode of a feedback port (R203). -/
def countSuits (mode count : Nat) : Bool :=
  match mode with
  | 1 => decide (count = 4 ∨ count = 6)
  | 2 => decide (count = 4)
  | 3 => decide (count = 2 ∨ count = 4 ∨ count = 6 ∨ count = 8)
  | _ => false

/-- The code that refuses lending a pin set to a port, a 1.8 V sleeve for incremental or SSI mode among the grounds (R203,
R372); in programmable mode an engine without a loan of its own takes
the pins as well. -/
def State.lendPortCode (s : State) (n p base count mode engine : Nat) : Nat :=
  firstCode [s.resCode n 4 p,
    if countSuits mode count ∧ base % 2 = 0 ∧ (s.port p).count = 0 ∧ s.bankFits mode base count then Code.ok else Code.rejectClass,
    if mode = 3 then s.resCode n 3 engine else Code.ok,
    if mode = 3 ∧ (s.pioIdle engine = false ∨ oneSleeve base count = false) then Code.rejectClass else Code.ok,
    s.cuffsCode n base count]

/-- A port takes its pin set. -/
def State.lendPort (s : State) (p base count mode engine : Nat) : State :=
  let s := s.lendCuffs (.fbk p) ((List.range count).map (base + ·))
  let s := s.setPort p { s.port p with base := base, count := count, engine := if mode = 3 then engine else 0 }
  let s := if mode = 3 then s.setPio engine { s.pio engine with base := base, count := count, forPort := some p } else s
  s.portMode p

/-- An engine takes its pin set. -/
def State.lendPio (s : State) (e base count : Nat) : State :=
  let s := s.lendCuffs (.pio e) ((List.range count).map (base + ·))
  s.setPio e { s.pio e with base := base, count := count }

/-- A return: COUNT 0. An engine's pins that came with a port return with the port. -/
def State.pinReturn (s : State) (n kind id : Nat) : CmdRes :=
  let code := firstCode [s.resCode n kind id, if kind = 3 ∧ (s.pio id).forPort.isSome then Code.rejectClass else Code.ok]
  if code ≠ Code.ok then s.refuse code
  else { st := if kind = 3 then s.returnPio id else s.returnPort id }

/-- PIN_LEND (R181, R203). -/
def State.pinLend (s : State) (n p : Nat) : CmdRes :=
  let kind := bits p 0 4
  let id := bits p 8 8
  let base := bits p 16 10
  let count := bits p 26 4
  let code := if kind = 3 then s.lendPioCode n id base count
    else s.lendPortCode n id base count (bits p 32 2) (bits p 40 7)
  if kind ≠ 3 ∧ kind ≠ 4 then s.refuse Code.rejectClass
  else if count = 0 then s.pinReturn n kind id
  else if code ≠ Code.ok then s.refuse code
  else { st := if kind = 3 then s.lendPio id base count else s.lendPort id base count (bits p 32 2) (bits p 40 7) }

/-! ### PORT_GRANT, FLAG_SET, CTX_START -/

/-- A guarded context may emit to a guarded cuff or pair of its tenant (R114). -/
def State.guardedPath (s : State) (c ttype target : Nat) : Bool :=
  (s.ctx c).guarded && (decide (ttype = 1) || decide (ttype = 2)) && (s.guardedQueue ttype target).isSome
    && s.ownsTarget (s.ctx c).tenant ttype target

/-- The code that refuses a grant (R65, R114, R161). -/
def State.grantCode (s : State) (n p : Nat) : Nat :=
  let c := bits p 0 12
  let ttype := bits p 16 3
  let target := bits p 20 12
  firstCode [s.resCode n 2 c, if 5 ≤ ttype ∨ bits p 32 2 = 0 then Code.rejectClass else Code.ok,
    if s.guardedPath c ttype target then Code.ok else s.bindCode n ttype target,
    s.logCode n (bitAt p 34) (bits p 44 20)]

/-- PORT_GRANT (R161): TTYPE 0 revokes. -/
def State.portGrant (s : State) (n p : Nat) : CmdRes :=
  let c := bits p 0 12
  let k := s.ctx c
  let i := bits p 12 3
  if bits p 16 3 = 0 then
    (if s.resCode n 2 c ≠ Code.ok then s.refuse (s.resCode n 2 c)
     else { st := s.setCtx c { k with ports := Tbl.drop k.ports i } })
  else if s.grantCode n p ≠ Code.ok then s.refuse (s.grantCode n p)
  else
    let port : NearPort := { ttype := bits p 16 3, target := bits p 20 12, late := bits p 32 2, logen := bitAt p 34,
                             logq := if bitAt p 34 then bits p 44 20 else 0 }
    { st := s.setCtx c { k with ports := Tbl.put k.ports i port } }

/-- FLAG_SET (R155): the senders are contexts of the tenant in the flag's tray. -/
def State.flagAttrs (s : State) (n p : Nat) : CmdRes :=
  let f := bits p 0 12
  let senders := bitList 256 (bits p 64 256)
  let code := firstCode [s.resCode n 6 f,
    if senders.all (fun j => s.holder 2 (f / 256 * 256 + j) = some n) then Code.ok else Code.rejectQuota]
  if code ≠ Code.ok then s.refuse code
  else { st := s.setFlag f { s.flag f with ext := bitAt p 16, long := bitAt p 17, senders := senders } }

/-- A start address lies in a unit of the tenant, beyond its hook words (R168). -/
def State.startFits (s : State) (n c a : Nat) : Bool :=
  decide (0x2000 ≤ a ∧ a < 0x4000 ∧ 8 ≤ a % 256) && decide (s.unitOwner (s.trayNum c) ((a - 0x2000) / 256) = some n)

/-- A context at its start (R168): what the tenant has granted it, its cause registers and its saved state stay.
EVTFLAG, which R168 does not list, is 0 (DESIGN CHOICE, log entry 30). -/
def Ctx.started (k : Ctx) (a tick : Nat) : Ctx :=
  { st := .run, tenant := k.tenant, guarded := k.guarded, slots := k.slots, pc := a, home := some ((a - 0x2000) / 256), ports := k.ports,
    since := tick, lastPoint := tick, save := k.save, tcause := k.tcause, tprio := k.tprio, tinfo := k.tinfo,
    taddr := k.taddr, traps := k.traps }

/-- CTX_START (R168). -/
def State.ctxStart (s : State) (n p : Nat) : CmdRes :=
  let c := bits p 0 12
  let a := bits p 32 14
  let k := s.ctx c
  let code := firstCode [s.resCode n 2 c,
    if (k.st = .idle ∨ k.st = .halted) ∧ s.startFits n c a then Code.ok else Code.rejectClass]
  if code ≠ Code.ok then s.refuse code else { st := s.putCtx c (k.started a s.tick) }

/-! ### Commands -/

/-- RES_ALLOC (R262). -/
def execResAlloc (tag : Nat) (s : State) : Host.Outcome State Fault Refusal := onUnit (okTag tag) (s.runCmd tag 0x30 State.resAlloc)

/-- RES_FREE (R262). -/
def execResFree (tag : Nat) (s : State) : Host.Outcome State Fault Refusal := onUnit (okTag tag) (s.runCmd tag 0x31 State.resFree)

/-- PIN_LEND (R181). -/
def execPinLend (tag : Nat) (s : State) : Host.Outcome State Fault Refusal := onUnit (okTag tag) (s.runCmd tag 0x32 State.pinLend)

/-- PORT_GRANT (R161). -/
def execPortGrant (tag : Nat) (s : State) : Host.Outcome State Fault Refusal :=
  onUnit (okTag tag) (s.runCmd tag 0x33 State.portGrant)

/-- FLAG_SET (R155). -/
def execFlagSet (tag : Nat) (s : State) : Host.Outcome State Fault Refusal := onUnit (okTag tag) (s.runCmd tag 0x34 State.flagAttrs)

/-- CTX_START (R168). -/
def execCtxStart (tag : Nat) (s : State) : Host.Outcome State Fault Refusal := onUnit (okTag tag) (s.runCmd tag 0x35 State.ctxStart)

end Sys2Proof.Machine
end

