-- ==== Sys2Proof/Machine/Ucode.lean ====
section
/-! DEFINITION. Microcode images: their checks, loading, freeing and live update (R174-R179). -/

namespace Sys2Proof.Machine

open Sys2Proof

/-! ### The image (R174) -/

/-- One bit of CRC-32 (IEEE 802.3, reflected). -/
def crcBit (c : Nat) : Nat := if c % 2 = 1 then Nat.xor (c / 2) 0xEDB88320 else c / 2

/-- One byte of CRC-32. -/
def crcByte (c b : Nat) : Nat := (List.range 8).foldl (fun c _ => crcBit c) (Nat.xor c (b % 256))

/-- CRC-32 of some bytes. -/
def crc32 (bs : List Nat) : Nat := Nat.xor (bs.foldl crcByte 0xFFFFFFFF) 0xFFFFFFFF

/-- What an image holds: its units, the least base-set version, its words and its relocation entries. -/
structure Image where
  units : Nat := 0
  baseMin : Nat := 0
  words : List Nat := []
  relocs : List Nat := []
  deriving DecidableEq, Repr

/-- `k` numbers of `n` bytes each, from the start of a byte list. -/
def groupLE (n : Nat) : Nat → List Nat → List Nat
  | 0, _ => []
  | k + 1, bs => ofBytesLE (bs.take n) :: groupLE n k (bs.drop n)

/-- `n` bytes of a header from an offset. -/
def hdr (bs : List Nat) (off n : Nat) : Nat := ofBytesLE ((bs.drop off).take n)

/-- The header and the length are sound (R174, R175 check 1). -/
def headerFits (bs : List Nat) : Bool :=
  let u := hdr bs 6 2
  decide (hdr bs 0 4 = 0x39475250 ∧ hdr bs 4 2 = 1 ∧ 1 ≤ u ∧ u ≤ 32 ∧ hdr bs 0x14 44 = 0
    ∧ bs.length = 64 + u * 2048 + 4 * hdr bs 0xC 4) && decide (crc32 (bs.drop 64) = hdr bs 0x10 4)

/-- The content of an image whose header is sound. -/
def bodyOf (bs : List Nat) : Image :=
  let u := hdr bs 6 2
  { units := u, baseMin := hdr bs 8 4, words := groupLE 8 (u * 256) (bs.drop 64),
    relocs := groupLE 4 (hdr bs 0xC 4) (bs.drop (64 + u * 2048)) }

/-- User space: 0x2000 to 0x3FFF. -/
def inUser (a : Nat) : Bool := decide (0x2000 ≤ a ∧ a < 0x4000)

/-- An address of the image's own units, or outside user space. -/
def Image.reaches (x : Image) (a : Nat) : Bool := !inUser a || decide (a < 0x2000 + 256 * x.units)

/-- The word of the image at an address. -/
def Image.word (x : Image) (a : Nat) : Nat := x.words.getD (a - 0x2000) 0

/-- The 20-bit value that a relocation's LDI and LDHI load. -/
def Image.loads (x : Image) (r : Nat) : Nat :=
  bits (x.word (bits r 0 14)) 14 12 + bits (x.word (bits r 14 14)) 14 8 * 2 ^ 12

/-- A relocation entry is sound: kind 1, both words in the image, its value in reach. -/
def Image.relocFits (x : Image) (r : Nat) : Bool :=
  let own (a : Nat) : Bool := inUser a && decide (a < 0x2000 + 256 * x.units)
  decide (bits r 28 4 = 1) && own (bits r 0 14) && own (bits r 14 14) && x.reaches (x.loads r)

/-- The words are sound: the slots' upper bits 0, every NEXT in reach. -/
def Image.wordsFit (x : Image) : Bool := x.words.all fun w => decide (w < 2 ^ 40) && x.reaches (bits w 0 14)

/-- The image that some bytes spell; none where R175 check 1 fails. -/
def imageOf (bs : List Nat) : Option Image :=
  if headerFits bs && (bodyOf bs).wordsFit && (bodyOf bs).relocs.all (bodyOf bs).relocFits then some (bodyOf bs) else none

/-- The bytes of an image of a length; what the host does not send is 0. -/
def padTo (len : Nat) (bs : List Nat) : List Nat := bs.take len ++ List.replicate (len - bs.length) 0

/-! ### Placing an image (R174, R175) -/

/-- The physical address of an address of the image: logical unit L stands in the L-th of the units. -/
def placeAt (us : List Nat) (a : Nat) : Nat :=
  if inUser a then 0x2000 + 256 * us.getD ((a - 0x2000) / 256) 0 + a % 256 else a

/-- A relocation adds the displacement of its unit to the value its pair loads. -/
def Image.relocate (x : Image) (us : List Nat) (r : Nat) : Image :=
  let v := placeAt us (x.loads r)
  let i := bits r 0 14 - 0x2000
  let j := bits r 14 14 - 0x2000
  let ws := x.words.set i (putBits (x.words.getD i 0) 14 12 v)
  { x with words := ws.set j (putBits (ws.getD j 0) 14 8 (v / 2 ^ 12)) }

/-- The words of an image as they stand in the units of a mask. -/
def Image.placed (x : Image) (mask : Nat) : List Nat :=
  let us := bitList 32 mask
  (x.relocs.foldl (fun y r => y.relocate us r) x).words.map fun w => putBits w 0 14 (placeAt us (bits w 0 14))

/-! ### UCODE_LOAD (R175) -/

/-- The base-set version of the tray that answers to a tray number (R175, R354). -/
def State.baseOf (s : State) (l : Nat) : Nat := s.baseVer (s.physOf l)

/-- The units that nobody owns in each of some trays. -/
def State.freeUnits (s : State) (ts : List Nat) : List Nat :=
  (List.range 32).filter fun u => ts.all fun l => (s.unitOwner l u).isNone

/-- `k` free picks out of a list. -/
def pickSome : Nat → Nat → List Nat → List Nat
  | _, 0, _ => []
  | fresh, k + 1, l => match pickOf fresh l with
    | none => []
    | some u => u :: pickSome (fresh + 1) k (l.filter (· ≠ u))

/-- The mask of some units. -/
def maskOf (us : List Nat) : Nat := us.foldl (fun m u => Nat.lor m (2 ^ u)) 0

/-- The trays a command names. -/
def namedTrays (p : Nat) : List Nat := bitList 8 (bits p 96 8)

/-- The address of the image, its trays and checks 1 and 2 of R175. -/
def State.imageCode (s : State) (p : Nat) (x : Option Image) : Nat :=
  match x with
  | none => Code.rejectClass
  | some x =>
    if bits p 0 64 % 8 ≠ 0 ∨ namedTrays p = [] ∨ (namedTrays p).any (fun l => decide (s.baseOf l < x.baseMin)) then Code.rejectClass
    else Code.ok

/-- The words go into a tray, and into the spare that is taking its place. -/
def State.loadTray (s : State) (mask : Nat) (ws : List Nat) (l : Nat) : State :=
  let s := s.writeUnits (s.physOf l) mask ws
  if s.trayInHand = some (s.physOf l) then s.writeUnits s.spareTray mask ws else s

/-- Units of some trays take an owner. -/
def State.ownUnits (s : State) (ts us : List Nat) (o : Option Nat) : State :=
  { s with units := (ts.flatMap fun l => us.map fun u => l * 32 + u).foldl (fun t k => Tbl.set none t k o) s.units }

/-- The image stands in the units of a mask in every named tray. -/
def State.loadInto (s : State) (n p : Nat) (x : Image) (mask : Nat) : State :=
  let ts := namedTrays p
  (ts.foldl (fun s l => s.loadTray mask (x.placed mask) l) s).ownUnits ts (bitList 32 mask) (some n)

/-- UCODE_LOAD with the image it names. -/
def State.ucodeLoad (x : Option Image) (s : State) (n p : Nat) : CmdRes :=
  if s.imageCode p x ≠ Code.ok then s.refuse (s.imageCode p x)
  else
    let i := x.getD {}
    let free := s.freeUnits (namedTrays p)
    if s.quotaFits n 4 (i.units * (namedTrays p).length) = false then s.refuse Code.rejectQuota
    else if free.length < i.units then s.refuse Code.rejectCapacity
    else
      let mask := maskOf (pickSome s.fresh i.units free)
      { st := { s with fresh := s.fresh + i.units }.loadInto n p i mask, r0 := mask }

/-- A command that reads an image waits while its function may not read host memory (R270, log entry 14). -/
def State.runRead (s : State) (tag op : Nat) (f : State → Nat → Nat → CmdRes) : State :=
  match s.ready tag op (fun _ => true) with
  | some (n, _) => if (s.fn n).bme then s.runCmd tag op f else s
  | none => s

/-- The image a command in flight names. -/
def readImage (p : Nat) (image : List Nat) : Option Image := imageOf (padTo (bits p 64 32) image)

/-- UCODE_LOAD (R175). -/
def execUcodeLoad (tag : Nat) (image : List Nat) (s : State) : Host.Outcome State Fault Refusal :=
  onUnit (okTag tag) (s.runRead tag 0x50 fun s n p => s.ucodeLoad (readImage p image) n p)

/-! ### UCODE_FREE (R176) -/

/-- The code that refuses naming units: another tenant's, or nobody's (R262). -/
def State.unitsCode (s : State) (n : Nat) (ts us : List Nat) : Nat :=
  let os := ts.flatMap fun l => us.map fun u => s.unitOwner l u
  if os.any (fun o => o.isSome && o != some n) then Code.rejectQuota
  else if os.any (·.isNone) then Code.rejectClass else Code.ok

/-- A context of the tenant in the trays has its home unit among them. -/
def State.unitsBusy (s : State) (n : Nat) (ts us : List Nat) : Bool :=
  s.ctxs.any fun e => decide (e.2.st ≠ .free) && decide (e.2.tenant = n) && ts.contains (s.trayNum e.1) && e.2.home.any us.contains

/-- UCODE_FREE (R176): the words stand, and nobody owns the units. -/
def State.ucodeFree (s : State) (n p : Nat) : CmdRes :=
  let ts := namedTrays p
  let us := bitList 32 (bits p 0 32)
  let code := firstCode [s.unitsCode n ts us, if s.unitsBusy n ts us then Code.rejectClass else Code.ok]
  if code ≠ Code.ok then s.refuse code else { st := s.ownUnits ts us none }

/-- UCODE_FREE (R176). -/
def execUcodeFree (tag : Nat) (s : State) : Host.Outcome State Fault Refusal := onUnit (okTag tag) (s.runCmd tag 0x51 State.ucodeFree)

/-! ### UCODE_UPDATE (R177-R179) -/

/-- The physical addresses of the units of a mask, in order. -/
def unitAddrs (mask : Nat) : List Nat := (bitList 32 mask).flatMap fun u => (List.range 256).map (0x2000 + 256 * u + ·)

/-- An image is resume-compatible with what the named trays hold. -/
def State.resumesOver (s : State) (ts : List Nat) (mask : Nat) (ws : List Nat) : Bool :=
  let as := unitAddrs mask
  let new := as.zip (ws.map fun w => insnOf (BitVec.ofNat 40 w))
  ts.all fun l => compatible (as.map fun a => (a, insnOf (s.csWord (s.physOf l) a))) new

/-- The control-store addresses a context stands at or goes back to: its PC, the JUMPR before a delay slot, its return stack,
and, in a handler, those of the save area (R147). -/
def Ctx.places (k : Ctx) : List Nat :=
  k.pc :: (k.slot.toList.map (·.2) ++ k.stack
    ++ (if k.inHandler then bits (k.saveAt 0) 0 14 :: (([5, 6, 7].map fun i => bits (k.saveAt i) 0 14).take (bits (k.saveAt 1) 18 2))
        else []))

/-- A guarded context of the trays executes one of the units: its home or a place it stands at or goes back to lies
there. -/
def State.guardedIn (s : State) (ts us : List Nat) : Bool :=
  s.ctxs.any fun e => e.2.guarded && decide (e.2.st ≠ .free) && ts.contains (s.trayNum e.1)
    && (e.2.home.any us.contains
      || (e.2.home.isSome && e.2.places.any fun a => inUser a && us.contains ((a - 0x2000) / 256)))

/-- The code that refuses a live update, with nothing changed (R177). -/
def State.updateCode (s : State) (x : Option Image) (n p : Nat) : Nat :=
  let ts := namedTrays p
  let mask := bits p 128 32
  let us := bitList 32 mask
  let i := x.getD {}
  firstCode [s.imageCode p x, s.unitsCode n ts us, if i.units = us.length then Code.ok else Code.rejectClass,
    if s.guardedIn ts us then Code.rejectClass else Code.ok,
    if s.resumesOver ts mask (i.placed mask) then Code.ok else Code.rejectClass,
    if s.spareTray < 9 ∧ s.rebuilding = false ∧ s.mode ≠ Mode.degraded then Code.ok else Code.rejectCapacity]

/-- A live update starts with the lowest named tray (R178). -/
def State.startUpdate (s : State) (x : Image) (n tag p : Nat) : State :=
  let mask := bits p 128 32
  let u : Update := { fn := n, tag := tag, units := mask, words := x.placed mask, todo := namedTrays p }
  match namedTrays p with
  | l :: _ => { s with upd := some u }.nextTray u l
  | [] => s

/-- UCODE_UPDATE: refused at once, or started; it waits while another update is in hand. -/
def State.ucodeUpdate (s : State) (tag : Nat) (image : List Nat) : State :=
  match s.ready tag 0x52 (fun _ => true) with
  | none => s
  | some (n, c) =>
    let x := readImage c.param image
    if (s.fn n).bme = false ∨ s.upd.isSome then s
    else if s.updateCode x n c.param ≠ Code.ok then s.finishCmd n c (s.updateCode x n c.param) 0 0
    else s.startUpdate (x.getD {}) n tag c.param

/-- UCODE_UPDATE (R178). -/
def execUcodeUpdate (tag : Nat) (image : List Nat) (s : State) : Host.Outcome State Fault Refusal :=
  onUnit (okTag tag) (s.ucodeUpdate tag image)

end Sys2Proof.Machine
end

