-- ==== Sys2Proof/Machine/Control.lean ====
section
/-! DEFINITION. The configuration, tenant, interrupt and DMA commands of the rings (R106-R108, R259, R262-R264, R276,
R303), and the rows a DMA command shares with a register write. -/

namespace Sys2Proof.Machine

open Sys2Proof

/-! ### CFG_WRITE and CFG_COMMIT (R263) -/

/-- The tenant of the unit a register of a page belongs to, where it belongs to a cuff, a pair with both its legs, a
PIO engine or a feedback port. -/
def State.regOwner (s : State) (page off : Nat) : Option Nat :=
  match blockOf page with
  | some (.slv, i) =>
    if 0x400 ≤ off ∧ off < 0x1000 then s.holder 1 (32 * i + (off - 0x400) / 0x60)
    else if 0x80 ≤ off ∧ off < 0x100 then
      let c := 32 * i + (off - 0x80) / 8 * 2
      if s.holder 1 c = s.holder 1 (c + 1) then s.holder 1 c else none
    else none
  | some (.pio, i) => if 0x200 ≤ off ∧ off < 0xA00 then s.holder 3 (4 * i + (off - 0x200) / 0x200) else none
  | some (.fbk, i) => if 0x200 ≤ off ∧ off < 0xA00 then s.holder 4 (8 * i + (off - 0x200) / 0x100) else none
  | _ => none

/-- The code that refuses naming a page: no block there, or another tenant's (R262). -/
def State.pageCode (s : State) (n page : Nat) : Nat :=
  if (blockOf page).isNone then Code.rejectClass
  else if s.regN (Reg.PG_OWNER page) ≠ 0 ∧ s.regN (Reg.PG_OWNER page) ≠ n then Code.rejectQuota
  else Code.ok

/-- The writes of a CFG_WRITE: offset, view and value of each. -/
def cfgPairs (p : Nat) : List (Nat × Nat × Nat) :=
  (List.range (bits p 16 3)).map fun j => (bits p (64 * j + 64) 12, bits p (64 * j + 76) 2, bits p (64 * j + 96) 32)

/-- The code that refuses a CFG_WRITE. -/
def State.cfgWriteCode (s : State) (n p : Nat) : Nat :=
  let page := bits p 0 11
  firstCode [if 1 ≤ bits p 16 3 ∧ bits p 16 3 ≤ 5 then Code.ok else Code.rejectClass, s.pageCode n page,
    if n = 0 ∨ (cfgPairs p).all (fun w => decide (s.regOwner page w.1 = some n)) then Code.ok else Code.rejectQuota]

/-- A write is applied: it is aligned, a register stands there (R12), and it is no staged write or command bit that an armed
page discards (R19). -/
def State.cfgApplies (s : State) (page : Nat) (w : Nat × Nat × Nat) : Bool :=
  decide (w.1 % 4 = 0) &&
  match rowOf (page * 0x1000 + w.1) with
  | none => false
  | some r => !(s.pageArmed page && (decide (r.rws ≠ 0) || (decide (w.1 = 0x20) && decide (setCount w.2.2 [0, 1, 3] ≠ 0))))

/-- One write of a CFG_WRITE, and the count of those applied. -/
def State.cfgStep (page : Nat) (x : State × Nat) (w : Nat × Nat × Nat) : State × Nat :=
  (if w.1 % 4 = 0 then x.1.writeBlock page w.1 w.2.1 w.2.2 else x.1, x.2 + b2n (x.1.cfgApplies page w))

/-- CFG_WRITE (R262, R263): the writes in order, through their views; an unaligned one has no effect (R12). -/
def State.cfgWrite (s : State) (n p : Nat) : CmdRes :=
  let page := bits p 0 11
  let code := s.cfgWriteCode n p
  if code ≠ Code.ok then s.refuse code
  else
    let r := (cfgPairs p).foldl (State.cfgStep page) (s, 0)
    { st := r.1, r0 := r.2 }

/-- CFG_WRITE (R263). -/
def execCfgWrite (tag : Nat) (s : State) : Host.Outcome State Fault Refusal := onUnit (okTag tag) (s.runCmd tag 0x40 State.cfgWrite)

/-- The page holds registers a VF may commit. -/
def tenantPage (page : Nat) : Bool :=
  match blockOf page with
  | some (.slv, _) => true
  | some (.pio, _) => true
  | some (.fbk, _) => true
  | _ => false

/-- The code that refuses a CFG_COMMIT before it reaches the page (R263). -/
def State.cfgCommitCode (s : State) (n p : Nat) : Nat :=
  let page := bits p 0 11
  firstCode [s.pageCode n page, if n = 0 ∨ tenantPage page then Code.ok else Code.rejectQuota,
    if n = 0 ∨ (s.dirtyKeys page).all (fun k => decide (s.regOwner page (k % 0x1000) = some n)) then Code.ok else Code.rejectClass]

/-- A refused commit shows its code in PG_ERR_INFO of a page that exists (R263). -/
def State.commitRefused (s : State) (page code : Nat) : CmdRes :=
  { st := if (blockOf page).isSome then s.setFld (Reg.PG_ERR_INFO page) 0 8 code else s, code := code }

/-- An immediate commit: refused under R241 for a page of the ensemble, else at once. -/
def State.cfgCommitNow (s : State) (page : Nat) : CmdRes :=
  let t := (s.screenPage page).applyPage page
  let r := s.commitPages [page]
  if ensPage page ∧ t.ensGuard < t.ensBudget then r.commitRefused page Code.cfgTooLarge
  else { st := r, r1 := r.commitTime page }

/-- A timed commit (R18). -/
def State.cfgCommitAt (s : State) (page t : Nat) : CmdRes :=
  if s.ahead t armLead then
    { st := (s.setPair (Reg.PG_COMMIT_TIME_L page) (Reg.PG_COMMIT_TIME_H page) t).stageArm page, r1 := t }
  else { st := s.pgErrCode page 1 Code.rejectLate, code := Code.rejectLate }

/-- CFG_COMMIT (R17-R19, R263): an armed page, or a member of a group, refuses it. -/
def State.cfgCommit (s : State) (n p : Nat) : CmdRes :=
  let page := bits p 0 11
  let code := s.cfgCommitCode n p
  if code ≠ Code.ok then s.commitRefused page code
  else if s.pageArmed page ∨ (s.groupOf page).isSome then
    { st := s.pgErrCode page 0 Code.rejectClass, code := Code.rejectClass }
  else if bitAt p 16 then s.cfgCommitAt page (bits p 64 60)
  else s.cfgCommitNow page

/-- CFG_COMMIT (R263). -/
def execCfgCommit (tag : Nat) (s : State) : Host.Outcome State Fault Refusal := onUnit (okTag tag) (s.runCmd tag 0x41 State.cfgCommit)

/-! ### Tenants (R106-R108, R259, R262, R264) -/

/-- The largest quota of a per-function resource, and the least. -/
def quotaRange (n i v : Nat) : Bool :=
  if i = 8 then decide (v ≤ vecCount n) else if i = 10 then decide (1 ≤ v ∧ v ≤ 4) else true

/-- An exclusive resource is not granted beyond the device total (R107). -/
def State.grantFits (s : State) (n i v : Nat) : Bool :=
  !quotaExclusive i || decide (s.grants i - s.grant n i + v + s.useOf 0 i ≤ quotaTotal i)

/-- TENANT_QUOTA (R106-R108). -/
def State.tenantQuota (s : State) (_n p : Nat) : CmdRes :=
  let m := bits p 0 9
  let i := bits p 32 4
  let v := bits p 64 32
  if m = 0 ∨ 11 ≤ i ∨ quotaRange m i v = false then s.refuse Code.rejectClass
  else if v < s.useOf m i then s.refuse Code.rejectQuota
  else if s.grantFits m i v = false then s.refuse Code.rejectCapacity
  else { st := { s with quota := Tbl.set (quotaReset m i) s.quota (quotaKey m i) v } }

/-- TENANT_QUOTA (R108). -/
def execTenantQuota (tag : Nat) (s : State) : Host.Outcome State Fault Refusal :=
  onUnit (okTag tag) (s.runCmd tag 0x60 State.tenantQuota)

/-- TENANT_CREDIT (R259). -/
def State.tenantCredit (s : State) (_n p : Nat) : CmdRes :=
  let k := bits p 32 13
  if 1 ≤ k ∧ k ≤ 4096 then { st := s.setFld (Reg.TEN_CREDIT (bits p 0 9)) 0 13 k } else s.refuse Code.rejectClass

/-- TENANT_CREDIT (R259). -/
def execTenantCredit (tag : Nat) (s : State) : Host.Outcome State Fault Refusal :=
  onUnit (okTag tag) (s.runCmd tag 0x61 State.tenantCredit)

/-- TENANT_ABORT: the sequence starts or is joined, and the command completes at its DONE (R264). -/
def State.tenantAbort (s : State) (tag : Nat) : State :=
  match s.ready tag 0x62 (fun _ => true) with
  | none => s
  | some (n, c) =>
    let m := bits c.param 0 9
    if m = 0 then s.finishCmd n c Code.rejectClass 0 0
    else
      let s := s.startAbort m true
      s.setFn m { s.fn m with abortTags := (s.fn m).abortTags ++ [tag] }

/-- TENANT_ABORT (R264). -/
def execTenantAbort (tag : Nat) (s : State) : Host.Outcome State Fault Refusal := onUnit (okTag tag) (s.tenantAbort tag)

/-- Every resource of a tenant is freed, what names others first. -/
def State.releaseTenant (s : State) (n : Nat) : State :=
  let s := (keysIn s.queues fun _ q => decide (q.state ≠ QState.free) && decide (q.tenant = n)).foldl State.freeQueue s
  let all (kind : Nat) (s : State) : State :=
    ((List.range (kindCount kind)).filter fun i => decide (s.holder kind i = some n)).foldl (fun s i => s.freeRes kind i) s
  let s := all 6 (all 1 (all 3 (all 4 (all 5 (all 2 s)))))
  { s.unmapAll n with units := s.units.filter fun e => e.2 != some n }

/-- TENANT_RELEASE (R262). -/
def State.tenantRelease (s : State) (n p : Nat) : CmdRes :=
  let m := bits p 0 9
  if n ≠ 0 ∧ m ≠ n then s.refuse Code.rejectQuota else { st := s.releaseTenant m }

/-- TENANT_RELEASE (R262). -/
def execTenantRelease (tag : Nat) (s : State) : Host.Outcome State Fault Refusal :=
  onUnit (okTag tag) (s.runCmd tag 0x63 State.tenantRelease)

/-! ### Interrupts (R276) -/

/-- IRQ_ROUTE (R276). -/
def State.irqRoute (s : State) (n p : Nat) : CmdRes :=
  let id := bits p 0 14
  let func := bits p 32 9
  let vec := bits p 48 11
  let code := s.routeCode n id func vec
  if code ≠ Code.ok then s.refuse code else { st := s.route id (bits p 24 8) func vec (bitAt p 16) }

/-- IRQ_ROUTE (R276). -/
def execIrqRoute (tag : Nat) (s : State) : Host.Outcome State Fault Refusal := onUnit (okTag tag) (s.runCmd tag 0x78 State.irqRoute)

/-- IRQ_QUERY (R276). -/
def State.irqQuery (s : State) (n p : Nat) : CmdRes :=
  let id := bits p 0 14
  if s.mayRoute n id = false then s.refuse Code.rejectQuota
  else { st := s, r0 := (s.src id).scfg, r1 := b2n (s.srcEn id) + 2 * b2n (s.srcPend id) }

/-- IRQ_QUERY (R276). -/
def execIrqQuery (tag : Nat) (s : State) : Host.Outcome State Fault Refusal := onUnit (okTag tag) (s.runCmd tag 0x79 State.irqQuery)

/-! ### DMA (R290, R292, R298, R300, R301, R303) -/

/-- A DMA command on a channel of its own; another tenant's is refused (R290). -/
def State.onChan (f : State → Nat → Nat → CmdRes) (s : State) (n p : Nat) : CmdRes :=
  let c := bits p 0 5
  if (s.chan c).owner = n then f s c p else s.refuse Code.rejectQuota

/-- DMA_SETUP (R303). -/
def State.dmaSetup (s : State) (c p : Nat) : CmdRes :=
  let k := bits p 8 4
  let base := bits p 64 64
  if s.bit (Reg.DMA_CTRL c) 0 ∨ k < 4 ∨ 12 < k ∨ base % 32 ≠ 0 then s.refuse Code.rejectClass
  else
    { st := ((s.setFld (Reg.DMA_CQ_CFG c) 0 4 k).setBit (Reg.DMA_CQ_CFG c) 4 (bitAt p 12)).setPair (Reg.DMA_CQ_BASE_L c)
        (Reg.DMA_CQ_BASE_H c) base }

/-- DMA_SETUP (R303). -/
def execDmaSetup (tag : Nat) (s : State) : Host.Outcome State Fault Refusal :=
  onUnit (okTag tag) (s.runCmd tag 0x70 (State.onChan State.dmaSetup))

/-- DMA_SUBMIT (R292, R303). -/
def State.dmaSubmit (s : State) (c p : Nat) : CmdRes :=
  let i := s.fld (Reg.DMA_DSEQ c) 0 16
  let r := s.pushDesc c (bits p 64 256)
  { st := r.1, code := r.2, r0 := if r.2 = Code.ok then i else 0 }

/-- DMA_SUBMIT (R292). -/
def execDmaSubmit (tag : Nat) (s : State) : Host.Outcome State Fault Refusal :=
  onUnit (okTag tag) (s.runCmd tag 0x72 (State.onChan State.dmaSubmit))

/-- DMA_QUERY (R303). -/
def State.dmaQuery (s : State) (c _p : Nat) : CmdRes :=
  { st := s, r0 := s.dmaStatus c, r1 := s.pair (Reg.DMA_FAULT_ADDR_L c) (Reg.DMA_FAULT_ADDR_H c) }

/-- DMA_QUERY (R303). -/
def execDmaQuery (tag : Nat) (s : State) : Host.Outcome State Fault Refusal :=
  onUnit (okTag tag) (s.runCmd tag 0x74 (State.onChan State.dmaQuery))

/-- A DMA_CTRL with an action: the command of a tag that names the channel, or the PF's write of DMA_CTRL. -/
def State.dmaCtrl (s : State) (channel : Nat) (tag : Option Nat) (action : Nat) (f : State → Nat → State) (v : Nat) : State :=
  match tag with
  | some t => s.runCmd t 0x71 (State.onChan fun s c _ => { st := f s c })
      (fun p => decide (bits p 0 5 = channel) && decide (bits p 8 2 = action))
  | none => s.pf (dmaPage channel) 0x40 v (fun s => s.writeDmaCtrl channel v)

/-- DMA_CTRL_DISABLE (R301). -/
def execDmaCtrlDisable (channel : Nat) (tag : Option Nat) (s : State) : Host.Outcome State Fault Refusal :=
  onUnit (okChannel channel && okOptTag tag) (s.dmaCtrl channel tag 0 State.disableChan 0)

/-- DMA_CTRL_ENABLE (R301). -/
def execDmaCtrlEnable (channel : Nat) (tag : Option Nat) (s : State) : Host.Outcome State Fault Refusal :=
  onUnit (okChannel channel && okOptTag tag) (s.dmaCtrl channel tag 1 State.enableChan 1)

/-- DMA_CTRL_CONTINUE (R300): the write keeps EN. -/
def execDmaCtrlContinue (channel : Nat) (tag : Option Nat) (s : State) : Host.Outcome State Fault Refusal :=
  onUnit (okChannel channel && okOptTag tag)
    (s.dmaCtrl channel tag 2 State.continueChan (2 + b2n (s.bit (Reg.DMA_CTRL channel) 0)))

/-- DMA_CQ_HEAD (R298): the command of a tag that names the channel and the head, or the PF's write. -/
def State.dmaCqHead (s : State) (channel value : Nat) (tag : Option Nat) : State :=
  match tag with
  | some t => s.runCmd t 0x73 (State.onChan fun s c p =>
      { st := (s.moveCqHead c (bits p 32 12)).1, code := (s.moveCqHead c (bits p 32 12)).2 })
      (fun p => decide (bits p 0 5 = channel) && decide (bits p 32 12 = value % 2 ^ 12))
  | none => s.pf (dmaPage channel) 0x54 value (fun s => s.writeDma channel 0x54 0 value)

/-- DMA_CQ_HEAD (R298). -/
def execDmaCqHead (channel value : Nat) (tag : Option Nat) (s : State) : Host.Outcome State Fault Refusal :=
  onUnit (okChannel channel && okValue value && okOptTag tag) (s.dmaCqHead channel value tag)

end Sys2Proof.Machine
end

