-- ==== Sys2Proof/Machine/Dispatch.lean ====
section
/-! DEFINITION. One arm per command: the meaning it has. -/

namespace Sys2Proof.Machine

open Sys2Proof

def exec (i : Instr) (s : State) : Host.Outcome State Fault Refusal :=
  match i with
  | .registerWrite fn addr value => Sys2Proof.Machine.execRegisterWrite fn addr value s
  | .unmappedAccess fn addr write => Sys2Proof.Machine.execUnmappedAccess fn addr write s
  | .readClear fn addr => Sys2Proof.Machine.execReadClear fn addr s
  | .pgStageCommit page value => Sys2Proof.Machine.execPgStageCommit page value s
  | .pgStageArm page value => Sys2Proof.Machine.execPgStageArm page value s
  | .pgStageDisarm page value => Sys2Proof.Machine.execPgStageDisarm page value s
  | .pgStageDiscard page value => Sys2Proof.Machine.execPgStageDiscard page value s
  | .commitTick page => Sys2Proof.Machine.execCommitTick page s
  | .cfgGadd page => Sys2Proof.Machine.execCfgGadd page s
  | .cfgGremove page => Sys2Proof.Machine.execCfgGremove page s
  | .cfgGctrlCommit value => Sys2Proof.Machine.execCfgGctrlCommit value s
  | .cfgGctrlArm value => Sys2Proof.Machine.execCfgGctrlArm value s
  | .cfgGctrlDisarm value => Sys2Proof.Machine.execCfgGctrlDisarm value s
  | .cfgGctrlClear value => Sys2Proof.Machine.execCfgGctrlClear value s
  | .groupCommitTick group => Sys2Proof.Machine.execGroupCommitTick group s
  | .cfgHsCtrlArm value => Sys2Proof.Machine.execCfgHsCtrlArm value s
  | .cfgHsCtrlCancel value => Sys2Proof.Machine.execCfgHsCtrlCancel value s
  | .holdStart => Sys2Proof.Machine.execHoldStart s
  | .holdGroupCommit => Sys2Proof.Machine.execHoldGroupCommit s
  | .holdRelease => Sys2Proof.Machine.execHoldRelease s
  | .timeBaseReload => Sys2Proof.Machine.execTimeBaseReload s
  | .trimCrumb => Sys2Proof.Machine.execTrimCrumb s
  | .slewCrumb => Sys2Proof.Machine.execSlewCrumb s
  | .tbCtrlSnap value => Sys2Proof.Machine.execTbCtrlSnap value s
  | .tbCtrlLoad value => Sys2Proof.Machine.execTbCtrlLoad value s
  | .tbCtrlValidate value => Sys2Proof.Machine.execTbCtrlValidate value s
  | .tbReloadWrite view value => Sys2Proof.Machine.execTbReloadWrite view value s
  | .tbTrimWrite view value => Sys2Proof.Machine.execTbTrimWrite view value s
  | .tbStepWrite value => Sys2Proof.Machine.execTbStepWrite value s
  | .tbGctrlGo value => Sys2Proof.Machine.execTbGctrlGo value s
  | .tbGctrlArm value => Sys2Proof.Machine.execTbGctrlArm value s
  | .tbGctrlDisarm value => Sys2Proof.Machine.execTbGctrlDisarm value s
  | .globalStart => Sys2Proof.Machine.execGlobalStart s
  | .referenceLost => Sys2Proof.Machine.execReferenceLost s
  | .referenceReturn => Sys2Proof.Machine.execReferenceReturn s
  | .pllLock => Sys2Proof.Machine.execPllLock s
  | .pllUnlock => Sys2Proof.Machine.execPllUnlock s
  | .setHigh cuff => Sys2Proof.Machine.execSetHigh cuff s
  | .setLow cuff => Sys2Proof.Machine.execSetLow cuff s
  | .toggle cuff => Sys2Proof.Machine.execToggle cuff s
  | .hiz cuff => Sys2Proof.Machine.execHiz cuff s
  | .pulse cuff => Sys2Proof.Machine.execPulse cuff s
  | .train cuff => Sys2Proof.Machine.execTrain cuff s
  | .period cuff => Sys2Proof.Machine.execPeriod cuff s
  | .capArm cuff => Sys2Proof.Machine.execCapArm cuff s
  | .capDisarm cuff => Sys2Proof.Machine.execCapDisarm cuff s
  | .capWindowEnd cuff => Sys2Proof.Machine.execCapWindowEnd cuff s
  | .pairSet pair => Sys2Proof.Machine.execPairSet pair s
  | .pairRearm pair => Sys2Proof.Machine.execPairRearm pair s
  | .apronSet cuff => Sys2Proof.Machine.execApronSet cuff s
  | .nop queue => Sys2Proof.Machine.execNop queue s
  | .seam queue => Sys2Proof.Machine.execSeam queue s
  | .wake ctx => Sys2Proof.Machine.execWake ctx s
  | .pioStart engine => Sys2Proof.Machine.execPioStart engine s
  | .pioData engine => Sys2Proof.Machine.execPioData engine s
  | .pioDataLatePush engine => Sys2Proof.Machine.execPioDataLatePush engine s
  | .fbkLatch port => Sys2Proof.Machine.execFbkLatch port s
  | .mark ttype target => Sys2Proof.Machine.execMark ttype target s
  | .irq ttype target => Sys2Proof.Machine.execIrq ttype target s
  | .periodicPhase cuff => Sys2Proof.Machine.execPeriodicPhase cuff s
  | .padTransition cuff level crumb => Sys2Proof.Machine.execPadTransition cuff level crumb s
  | .edgeStamp cuff => Sys2Proof.Machine.execEdgeStamp cuff s
  | .captureRecordWrite sleeve => Sys2Proof.Machine.execCaptureRecordWrite sleeve s
  | .cufCapcfgArm cuff value => Sys2Proof.Machine.execCufCapcfgArm cuff value s
  | .cufCapcfgDisarm cuff value => Sys2Proof.Machine.execCufCapcfgDisarm cuff value s
  | .twinCalibration cuff => Sys2Proof.Machine.execTwinCalibration cuff s
  | .twinSwap cuff => Sys2Proof.Machine.execTwinSwap cuff s
  | .calDeferred cuff => Sys2Proof.Machine.execCalDeferred cuff s
  | .calFail cuff => Sys2Proof.Machine.execCalFail cuff s
  | .skewApply cuff => Sys2Proof.Machine.execSkewApply cuff s
  | .guardAssert sleeve guard => Sys2Proof.Machine.execGuardAssert sleeve guard s
  | .blankingEnd pair => Sys2Proof.Machine.execBlankingEnd pair s
  | .slvRearmPairs sleeve value => Sys2Proof.Machine.execSlvRearmPairs sleeve value s
  | .slvRearmAll sleeve value => Sys2Proof.Machine.execSlvRearmAll sleeve value s
  | .bankFault bank => Sys2Proof.Machine.execBankFault bank s
  | .bankOkReturn sleeve millivolts => Sys2Proof.Machine.execBankOkReturn sleeve millivolts s
  | .safeN => Sys2Proof.Machine.execSafeN s
  | .safeNRelease => Sys2Proof.Machine.execSafeNRelease s
  | .doorbell fn queue index => Sys2Proof.Machine.execDoorbell fn queue index s
  | .logQueueConsume fn queue index => Sys2Proof.Machine.execLogQueueConsume fn queue index s
  | .queueStageMove queue => Sys2Proof.Machine.execQueueStageMove queue s
  | .wheelL1Move slot => Sys2Proof.Machine.execWheelL1Move slot s
  | .slotTransfer slot bad => Sys2Proof.Machine.execSlotTransfer slot bad s
  | .fifoDelivery ttype target parity => Sys2Proof.Machine.execFifoDelivery ttype target parity s
  | .seamRelease id => Sys2Proof.Machine.execSeamRelease id s
  | .seamTimeout id => Sys2Proof.Machine.execSeamTimeout id s
  | .qmQctrlStop value => Sys2Proof.Machine.execQmQctrlStop value s
  | .qmQctrlResume value => Sys2Proof.Machine.execQmQctrlResume value s
  | .qmQctrlFlush value => Sys2Proof.Machine.execQmQctrlFlush value s
  | .qmQctrlRefresh value => Sys2Proof.Machine.execQmQctrlRefresh value s
  | .flushEnd queue => Sys2Proof.Machine.execFlushEnd queue s
  | .qmQsel value => Sys2Proof.Machine.execQmQsel value s
  | .tenQsel fn value => Sys2Proof.Machine.execTenQsel fn value s
  | .voteCopyArrival ttype target slot copy org => Sys2Proof.Machine.execVoteCopyArrival ttype target slot copy org s
  | .doubleFault ttype target => Sys2Proof.Machine.execDoubleFault ttype target s
  | .laneSwitch ttype target => Sys2Proof.Machine.execLaneSwitch ttype target s
  | .laneSelfTest pass => Sys2Proof.Machine.execLaneSelfTest pass s
  | .trayTakeover tray => Sys2Proof.Machine.execTrayTakeover tray s
  | .contextMove ctx => Sys2Proof.Machine.execContextMove ctx s
  | .nopMicroword ctx => Sys2Proof.Machine.execNopMicroword ctx s
  | .mov ctx => Sys2Proof.Machine.execMov ctx s
  | .ldi ctx => Sys2Proof.Machine.execLdi ctx s
  | .ldhi ctx => Sys2Proof.Machine.execLdhi ctx s
  | .add ctx => Sys2Proof.Machine.execAdd ctx s
  | .adc ctx => Sys2Proof.Machine.execAdc ctx s
  | .sub ctx => Sys2Proof.Machine.execSub ctx s
  | .sbc ctx => Sys2Proof.Machine.execSbc ctx s
  | .addi ctx => Sys2Proof.Machine.execAddi ctx s
  | .subi ctx => Sys2Proof.Machine.execSubi ctx s
  | .and ctx => Sys2Proof.Machine.execAnd ctx s
  | .or ctx => Sys2Proof.Machine.execOr ctx s
  | .xor ctx => Sys2Proof.Machine.execXor ctx s
  | .andi ctx => Sys2Proof.Machine.execAndi ctx s
  | .ori ctx => Sys2Proof.Machine.execOri ctx s
  | .xori ctx => Sys2Proof.Machine.execXori ctx s
  | .shl ctx => Sys2Proof.Machine.execShl ctx s
  | .shr ctx => Sys2Proof.Machine.execShr ctx s
  | .sar ctx => Sys2Proof.Machine.execSar ctx s
  | .mul ctx => Sys2Proof.Machine.execMul ctx s
  | .cmp ctx => Sys2Proof.Machine.execCmp ctx s
  | .cmpi ctx => Sys2Proof.Machine.execCmpi ctx s
  | .add3 ctx => Sys2Proof.Machine.execAdd3 ctx s
  | .sub3 ctx => Sys2Proof.Machine.execSub3 ctx s
  | .cmp3 ctx => Sys2Proof.Machine.execCmp3 ctx s
  | .adds3 ctx => Sys2Proof.Machine.execAdds3 ctx s
  | .wrap3 ctx => Sys2Proof.Machine.execWrap3 ctx s
  | .mov3 ctx => Sys2Proof.Machine.execMov3 ctx s
  | .now ctx => Sys2Proof.Machine.execNow ctx s
  | .evt ctx => Sys2Proof.Machine.execEvt ctx s
  | .ldw ctx => Sys2Proof.Machine.execLdw ctx s
  | .stw ctx => Sys2Proof.Machine.execStw ctx s
  | .ld32 ctx => Sys2Proof.Machine.execLd32 ctx s
  | .st32 ctx => Sys2Proof.Machine.execSt32 ctx s
  | .ldt ctx => Sys2Proof.Machine.execLdt ctx s
  | .stt ctx => Sys2Proof.Machine.execStt ctx s
  | .bcc ctx => Sys2Proof.Machine.execBcc ctx s
  | .bbs ctx => Sys2Proof.Machine.execBbs ctx s
  | .beq ctx => Sys2Proof.Machine.execBeq ctx s
  | .jumpr ctx => Sys2Proof.Machine.execJumpr ctx s
  | .call ctx => Sys2Proof.Machine.execCall ctx s
  | .ret ctx => Sys2Proof.Machine.execRet ctx s
  | .loop ctx => Sys2Proof.Machine.execLoop ctx s
  | .lbrk ctx => Sys2Proof.Machine.execLbrk ctx s
  | .mode ctx => Sys2Proof.Machine.execMode ctx s
  | .trap ctx => Sys2Proof.Machine.execTrap ctx s
  | .rett ctx => Sys2Proof.Machine.execRett ctx s
  | .send ctx => Sys2Proof.Machine.execSend ctx s
  | .wait ctx => Sys2Proof.Machine.execWait ctx s
  | .waitt ctx => Sys2Proof.Machine.execWaitt ctx s
  | .twait ctx => Sys2Proof.Machine.execTwait ctx s
  | .twaitDeadline ctx => Sys2Proof.Machine.execTwaitDeadline ctx s
  | .emit ctx => Sys2Proof.Machine.execEmit ctx s
  | .pressRelease ctx => Sys2Proof.Machine.execPressRelease ctx s
  | .pressTimeout ctx => Sys2Proof.Machine.execPressTimeout ctx s
  | .recv ctx => Sys2Proof.Machine.execRecv ctx s
  | .recvReady ctx => Sys2Proof.Machine.execRecvReady ctx s
  | .mfs ctx => Sys2Proof.Machine.execMfs ctx s
  | .mts ctx => Sys2Proof.Machine.execMts ctx s
  | .haltMicroword ctx => Sys2Proof.Machine.execHaltMicroword ctx s
  | .deadlock tray => Sys2Proof.Machine.execDeadlock tray s
  | .stallWatchdog ctx => Sys2Proof.Machine.execStallWatchdog ctx s
  | .contextWatchdog ctx => Sys2Proof.Machine.execContextWatchdog ctx s
  | .trayIrqDelivery tray => Sys2Proof.Machine.execTrayIrqDelivery tray s
  | .tryIrqSoft tray value => Sys2Proof.Machine.execTryIrqSoft tray value s
  | .tryIrqCtrlWrite tray view value => Sys2Proof.Machine.execTryIrqCtrlWrite tray view value s
  | .tryCsAddr tray value => Sys2Proof.Machine.execTryCsAddr tray value s
  | .forcedMove ctx => Sys2Proof.Machine.execForcedMove ctx s
  | .pioLevel engine => Sys2Proof.Machine.execPioLevel engine s
  | .pioDirInsn engine => Sys2Proof.Machine.execPioDirInsn engine s
  | .pioXmit engine => Sys2Proof.Machine.execPioXmit engine s
  | .pioSamp engine bits => Sys2Proof.Machine.execPioSamp engine bits s
  | .pioLoad engine => Sys2Proof.Machine.execPioLoad engine s
  | .pioStore engine => Sys2Proof.Machine.execPioStore engine s
  | .pioPinw engine => Sys2Proof.Machine.execPioPinw engine s
  | .pioCmpInsn engine => Sys2Proof.Machine.execPioCmpInsn engine s
  | .atTime engine => Sys2Proof.Machine.execAtTime engine s
  | .pinwReached engine => Sys2Proof.Machine.execPinwReached engine s
  | .pinwTimeout engine => Sys2Proof.Machine.execPinwTimeout engine s
  | .stallEnd engine => Sys2Proof.Machine.execStallEnd engine s
  | .pioCtrlStart engine value => Sys2Proof.Machine.execPioCtrlStart engine value s
  | .pioCtrlStop engine value => Sys2Proof.Machine.execPioCtrlStop engine value s
  | .pioCtrlFlushTx engine value => Sys2Proof.Machine.execPioCtrlFlushTx engine value s
  | .pioCtrlFlushRx engine value => Sys2Proof.Machine.execPioCtrlFlushRx engine value s
  | .pioTxdata engine value => Sys2Proof.Machine.execPioTxdata engine value s
  | .pioRxdata engine => Sys2Proof.Machine.execPioRxdata engine s
  | .pioSyncCtrlGo value => Sys2Proof.Machine.execPioSyncCtrlGo value s
  | .pioSyncCtrlArm value => Sys2Proof.Machine.execPioSyncCtrlArm value s
  | .pioSyncCtrlDisarm value => Sys2Proof.Machine.execPioSyncCtrlDisarm value s
  | .pioSyncTime => Sys2Proof.Machine.execPioSyncTime s
  | .quadratureEdge port a b stamp => Sys2Proof.Machine.execQuadratureEdge port a b stamp s
  | .zEdge port stamp => Sys2Proof.Machine.execZEdge port stamp s
  | .wireFault port wires => Sys2Proof.Machine.execWireFault port wires s
  | .standstill port => Sys2Proof.Machine.execStandstill port s
  | .hitAction port => Sys2Proof.Machine.execHitAction port s
  | .hitToggle port => Sys2Proof.Machine.execHitToggle port s
  | .fbkCtrlLoad port value => Sys2Proof.Machine.execFbkCtrlLoad port value s
  | .fbkCtrlRevalid port value => Sys2Proof.Machine.execFbkCtrlRevalid port value s
  | .fbkCtrlReq port value => Sys2Proof.Machine.execFbkCtrlReq port value s
  | .fbkCmp port high value => Sys2Proof.Machine.execFbkCmp port high value s
  | .fbkCmpadj port value => Sys2Proof.Machine.execFbkCmpadj port value s
  | .ssiPeriodicRequest port => Sys2Proof.Machine.execSsiPeriodicRequest port s
  | .ssiFrameEnd port rises falls => Sys2Proof.Machine.execSsiFrameEnd port rises falls s
  | .ssiRecoveryTimeout port => Sys2Proof.Machine.execSsiRecoveryTimeout port s
  | .hello hdr serial prio vmin vmax state digest => Sys2Proof.Machine.execHello hdr serial prio vmin vmax state digest s
  | .digest hdr digest gen => Sys2Proof.Machine.execDigest hdr digest gen s
  | .prepare hdr id time recs => Sys2Proof.Machine.execPrepare hdr id time recs s
  | .ack hdr id status record => Sys2Proof.Machine.execAck hdr id status record s
  | .commit hdr id => Sys2Proof.Machine.execCommit hdr id s
  | .cancel hdr id => Sys2Proof.Machine.execCancel hdr id s
  | .heartbeat hdr run alive digest cal => Sys2Proof.Machine.execHeartbeat hdr run alive digest cal s
  | .lastgasp hdr cause => Sys2Proof.Machine.execLastgasp hdr cause s
  | .foreignFrame port why => Sys2Proof.Machine.execForeignFrame port why s
  | .sync port sender stamp => Sys2Proof.Machine.execSync port sender stamp s
  | .followUp port sender origin => Sys2Proof.Machine.execFollowUp port sender origin s
  | .pdelayReq port stamp => Sys2Proof.Machine.execPdelayReq port stamp s
  | .pdelayResp port t2 t4 => Sys2Proof.Machine.execPdelayResp port t2 t4 s
  | .pdelayRespFollowUp port t3 => Sys2Proof.Machine.execPdelayRespFollowUp port t3 s
  | .announce port sender => Sys2Proof.Machine.execAnnounce port sender s
  | .hbperTimer => Sys2Proof.Machine.execHbperTimer s
  | .gptpInterval port pdelay => Sys2Proof.Machine.execGptpInterval port pdelay s
  | .memberTimeout member => Sys2Proof.Machine.execMemberTimeout member s
  | .frameTransmit port outcome => Sys2Proof.Machine.execFrameTransmit port outcome s
  | .plcaLost port => Sys2Proof.Machine.execPlcaLost port s
  | .ensLctrlGo value => Sys2Proof.Machine.execEnsLctrlGo value s
  | .ackDeadline => Sys2Proof.Machine.execAckDeadline s
  | .commitDeadline id => Sys2Proof.Machine.execCommitDeadline id s
  | .strobePulse => Sys2Proof.Machine.execStrobePulse s
  | .strobeEdge pairk stamp => Sys2Proof.Machine.execStrobeEdge pairk stamp s
  | .ensStbCal value => Sys2Proof.Machine.execEnsStbCal value s
  | .strobeCalibration => Sys2Proof.Machine.execStrobeCalibration s
  | .bar2Read fn addr len => Sys2Proof.Machine.execBar2Read fn addr len s
  | .bar2Write fn addr bytes => Sys2Proof.Machine.execBar2Write fn addr bytes s
  | .writeBufferApply fn => Sys2Proof.Machine.execWriteBufferApply fn s
  | .perstN => Sys2Proof.Machine.execPerstN s
  | .pcieRefLoss => Sys2Proof.Machine.execPcieRefLoss s
  | .flr fn => Sys2Proof.Machine.execFlr fn s
  | .d3hotEntry fn cold => Sys2Proof.Machine.execD3hotEntry fn cold s
  | .d0Return fn => Sys2Proof.Machine.execD0Return fn s
  | .vectorUnmask fn vec whole => Sys2Proof.Machine.execVectorUnmask fn vec whole s
  | .tenRingCtrlWrite fn value => Sys2Proof.Machine.execTenRingCtrlWrite fn value s
  | .tenCmdTail fn value => Sys2Proof.Machine.execTenCmdTail fn value s
  | .tenCplHead fn value => Sys2Proof.Machine.execTenCplHead fn value s
  | .commandFetch fn cmd => Sys2Proof.Machine.execCommandFetch fn cmd s
  | .completionWrite fn => Sys2Proof.Machine.execCompletionWrite fn s
  | .nopCommand tag => Sys2Proof.Machine.execNopCommand tag s
  | .queueCreate tag => Sys2Proof.Machine.execQueueCreate tag s
  | .queueFree tag => Sys2Proof.Machine.execQueueFree tag s
  | .queueCtrlStop tag => Sys2Proof.Machine.execQueueCtrlStop tag s
  | .queueCtrlResume tag => Sys2Proof.Machine.execQueueCtrlResume tag s
  | .queueCtrlFlush tag => Sys2Proof.Machine.execQueueCtrlFlush tag s
  | .queueAdmit tag => Sys2Proof.Machine.execQueueAdmit tag s
  | .slabMap tag => Sys2Proof.Machine.execSlabMap tag s
  | .slabUnmap tag => Sys2Proof.Machine.execSlabUnmap tag s
  | .resAlloc tag => Sys2Proof.Machine.execResAlloc tag s
  | .resFree tag => Sys2Proof.Machine.execResFree tag s
  | .pinLend tag => Sys2Proof.Machine.execPinLend tag s
  | .portGrant tag => Sys2Proof.Machine.execPortGrant tag s
  | .flagSet tag => Sys2Proof.Machine.execFlagSet tag s
  | .ctxStart tag => Sys2Proof.Machine.execCtxStart tag s
  | .cfgWrite tag => Sys2Proof.Machine.execCfgWrite tag s
  | .cfgCommit tag => Sys2Proof.Machine.execCfgCommit tag s
  | .ucodeLoad tag image => Sys2Proof.Machine.execUcodeLoad tag image s
  | .ucodeFree tag => Sys2Proof.Machine.execUcodeFree tag s
  | .ucodeUpdate tag image => Sys2Proof.Machine.execUcodeUpdate tag image s
  | .tenantQuota tag => Sys2Proof.Machine.execTenantQuota tag s
  | .tenantCredit tag => Sys2Proof.Machine.execTenantCredit tag s
  | .tenantAbort tag => Sys2Proof.Machine.execTenantAbort tag s
  | .tenantRelease tag => Sys2Proof.Machine.execTenantRelease tag s
  | .tenAbort fn value => Sys2Proof.Machine.execTenAbort fn value s
  | .abortDone fn => Sys2Proof.Machine.execAbortDone fn s
  | .hvcEvent source => Sys2Proof.Machine.execHvcEvent source s
  | .moderationTimer fn vec => Sys2Proof.Machine.execModerationTimer fn vec s
  | .irqRoute tag => Sys2Proof.Machine.execIrqRoute tag s
  | .irqQuery tag => Sys2Proof.Machine.execIrqQuery tag s
  | .hvcScfg value => Sys2Proof.Machine.execHvcScfg value s
  | .hvcClaim core => Sys2Proof.Machine.execHvcClaim core s
  | .hvcComplete core value => Sys2Proof.Machine.execHvcComplete core value s
  | .hvcMargin view value => Sys2Proof.Machine.execHvcMargin view value s
  | .tenIrqEnSet fn value => Sys2Proof.Machine.execTenIrqEnSet fn value s
  | .tenIrqEnClr fn value => Sys2Proof.Machine.execTenIrqEnClr fn value s
  | .tenIrqPendSet fn value => Sys2Proof.Machine.execTenIrqPendSet fn value s
  | .tenIrqPendClr fn value => Sys2Proof.Machine.execTenIrqPendClr fn value s
  | .tenIrqShenSet fn value => Sys2Proof.Machine.execTenIrqShenSet fn value s
  | .tenIrqShenClr fn value => Sys2Proof.Machine.execTenIrqShenClr fn value s
  | .tenIrqShpendClr fn value => Sys2Proof.Machine.execTenIrqShpendClr fn value s
  | .dmaSetup tag => Sys2Proof.Machine.execDmaSetup tag s
  | .dmaCtrlDisable channel tag => Sys2Proof.Machine.execDmaCtrlDisable channel tag s
  | .dmaCtrlEnable channel tag => Sys2Proof.Machine.execDmaCtrlEnable channel tag s
  | .dmaCtrlContinue channel tag => Sys2Proof.Machine.execDmaCtrlContinue channel tag s
  | .dmaCtrlPush channel value => Sys2Proof.Machine.execDmaCtrlPush channel value s
  | .dmaSubmit tag => Sys2Proof.Machine.execDmaSubmit tag s
  | .dmaCqHead channel value tag => Sys2Proof.Machine.execDmaCqHead channel value tag s
  | .dmaQuery tag => Sys2Proof.Machine.execDmaQuery tag s
  | .dmaDescriptorComplete channel host => Sys2Proof.Machine.execDmaDescriptorComplete channel host s
  | .dmaHalt channel code addr dir => Sys2Proof.Machine.execDmaHalt channel code addr dir s
  | .drainingEnd channel => Sys2Proof.Machine.execDrainingEnd channel s
  | .tenMbxCtrlSend fn value => Sys2Proof.Machine.execTenMbxCtrlSend fn value s
  | .tenMbxCtrlPop fn value => Sys2Proof.Machine.execTenMbxCtrlPop fn value s
  | .ping fn => Sys2Proof.Machine.execPing fn s
  | .info fn => Sys2Proof.Machine.execInfo fn s
  | .calstat fn => Sys2Proof.Machine.execCalstat fn s
  | .notice fn cause => Sys2Proof.Machine.execNotice fn cause s
  | .mailboxReply fn => Sys2Proof.Machine.execMailboxReply fn s
  | .mbxAliveTick => Sys2Proof.Machine.execMbxAliveTick s
  | .pwrCtrlReqProvision => Sys2Proof.Machine.execPwrCtrlReqProvision s
  | .pwrCtrlReqRun => Sys2Proof.Machine.execPwrCtrlReqRun s
  | .pwrCtrlReqSafe => Sys2Proof.Machine.execPwrCtrlReqSafe s
  | .pwrCtrlReqDoze => Sys2Proof.Machine.execPwrCtrlReqDoze s
  | .dbgCtrlHalt value => Sys2Proof.Machine.execDbgCtrlHalt value s
  | .dbgCtrlResume value => Sys2Proof.Machine.execDbgCtrlResume value s
  | .dozeReq => Sys2Proof.Machine.execDozeReq s
  | .dozeReqRetry => Sys2Proof.Machine.execDozeReqRetry s
  | .dozeEntry => Sys2Proof.Machine.execDozeEntry s
  | .wakeEvent source index => Sys2Proof.Machine.execWakeEvent source index s
  | .wakeComplete => Sys2Proof.Machine.execWakeComplete s
  | .powerFailN => Sys2Proof.Machine.execPowerFailN s
  | .powerFailNRelease => Sys2Proof.Machine.execPowerFailNRelease s
  | .sysRstNAssert => Sys2Proof.Machine.execSysRstNAssert s
  | .sysRstNRelease release => Sys2Proof.Machine.execSysRstNRelease release s
  | .supplyLoss => Sys2Proof.Machine.execSupplyLoss s
  | .temperatureSample value => Sys2Proof.Machine.execTemperatureSample value s
  | .smbusReadStatus => Sys2Proof.Machine.execSmbusReadStatus s
  | .smbusReadTemp => Sys2Proof.Machine.execSmbusReadTemp s
  | .smbusReadAlerts => Sys2Proof.Machine.execSmbusReadAlerts s
  | .smbusSafe write => Sys2Proof.Machine.execSmbusSafe write s
  | .secHbootCtrlGo image => Sys2Proof.Machine.execSecHbootCtrlGo image s
  | .secCtrlConfirm value => Sys2Proof.Machine.execSecCtrlConfirm value s
  | .secCtrlRbcommit value => Sys2Proof.Machine.execSecCtrlRbcommit value s
  | .secImgCtrlWrite value => Sys2Proof.Machine.execSecImgCtrlWrite value s
  | .imageWriteComplete image failed => Sys2Proof.Machine.execImageWriteComplete image failed s
  | .secImgCtrlApply value => Sys2Proof.Machine.execSecImgCtrlApply value s
  | .stewardFailover core => Sys2Proof.Machine.execStewardFailover core s
  | .stewardResync core pass => Sys2Proof.Machine.execStewardResync core pass s
  | .scrub word err => Sys2Proof.Machine.execScrub word err s
  | .rowRemap row => Sys2Proof.Machine.execRowRemap row s
  | .csScrub tray addr err => Sys2Proof.Machine.execCsScrub tray addr err s
  | .csRepair tray addr => Sys2Proof.Machine.execCsRepair tray addr s
  | .referenceEdge => Sys2Proof.Machine.execReferenceEdge s
  | .guardRelease sleeve guard => Sys2Proof.Machine.execGuardRelease sleeve guard s
  | .wiresDisagree port wires => Sys2Proof.Machine.execWiresDisagree port wires s
  | .beacon port => Sys2Proof.Machine.execBeacon port s
  | .linkTrained => Sys2Proof.Machine.execLinkTrained s
  | .linkReachesL0 => Sys2Proof.Machine.execLinkReachesL0 s
  | .configurationWrite fn bme vfEnable pmeEn pmeClear => Sys2Proof.Machine.execConfigurationWrite fn bme vfEnable pmeEn pmeClear s
  | .reservedKindMessage fn => Sys2Proof.Machine.execReservedKindMessage fn s
  | .fuseBurnComplete => Sys2Proof.Machine.execFuseBurnComplete s

end Sys2Proof.Machine
end

