-- ==== Sys2Proof/Safety.lean ====
section
/-! DEFINITION. What a legal state of the machine is, and what counts as a safe step, in the terms the
statements use. -/

namespace Sys2Proof.Machine

open Sys2Proof

/-- Memory, the register table, the staged table and the table of vectors keep their canonical forms. -/
def State.canonical (s : State) : Bool :=
  Memory.wf s.mem && decide (s.regs.Pairwise fun x y => x.1 < y.1) && s.regs.all (fun e => decide (e.2 ≠ resetOf e.1))
    && Tbl.wf (0 : Word) s.shadow && Tbl.wf ({} : Vec) s.vecs

/-- A mode in which the part may enter HALT or DOZE, and to which it returns (R316). -/
def restMode (m : Nat) : Bool := decide (2 ≤ m ∧ m ≤ 5)

/-- What holds of the mode beside R315's codes, 0 standing for OFF: a DOZE entry is in hand only in a mode that allows
it, HALT and DOZE remember such a mode, SYS_RST_N asserted means OFF, the time base stands still only in OFF and BOOT,
and only BOOT holds an image of the host. -/
def State.modeSound (s : State) : Bool :=
  decide (s.pwr.mode ≤ 7) && (!s.pwr.entering || restMode s.pwr.mode)
    && (!(decide (s.pwr.mode = 6) || decide (s.pwr.mode = 7)) || restMode s.pwr.ret)
    && (!s.pwr.resetPin || decide (s.pwr.mode = 0)) && (s.tb.running || decide (s.pwr.mode ≤ 1))
    && (s.boot.hboot.isNone || decide (s.pwr.mode = 1))

/-- The transitions of R316, by the codes of R315. A wake that completes with a HALT held passes from DOZE through the
mode before it to HALT (R332). -/
def modeMove (a b : Nat) : Bool :=
  decide (b = 0) || [(0, 1), (1, 2), (2, 3), (2, 4), (3, 4), (4, 3), (3, 5), (4, 5), (5, 2), (5, 3), (5, 4)].contains (a, b)
    || (restMode a && (decide (b = 6) || decide (b = 7))) || (decide (a = 6) && restMode b)
    || (decide (a = 7) && (restMode b || decide (b = 6)))

/-- A step that neither faults nor refuses. -/
def stepsOn (s : State) : Prop := ∃ t, step s = .next t

/-! ### What a command leaves -/

/-- Nothing differs but the values in effect of the registers `ks`. -/
def OnlyRegs (ks : List Nat) (s t : State) : Prop := t = { s with regs := t.regs } ∧ ∀ k, k ∉ ks → t.reg k = s.reg k

/-- What interrupt events write (R277-R283): the sources' pending bits and marks, the vectors, the messages sent or
held, and a sleeping function's PME bit. -/
def SameButEvents (ks : List Nat) (s t : State) : Prop :=
  ∀ k, k ∉ ks → ¬(Reg.HVC_PEND 0 ≤ k ∧ k < Reg.HVC_PEND 512) → t.reg k = s.reg k

/-- Nothing differs but the registers `ks` and what interrupt events write. -/
def OnlyRegsAndEvents (ks : List Nat) (s t : State) : Prop :=
  t = { s with out := t.out, regs := t.regs, fns := t.fns, link := t.link, srcs := t.srcs, vecs := t.vecs } ∧
    SameButEvents ks s t

/-- What a write through a view makes of read-write bits (R10): 0 normal, 1 SET, 2 CLEAR, 3 SHADOW. -/
def viewed (view : Nat) (old data : Word) : Word :=
  if view = 0 then data else if view = 1 then old ||| data else if view = 2 then old &&& ~~~data else old

/-- The registers of a page that a write acts on by their access types alone: pages of CLK, REL, SCH, MBX and ENP
(R7). -/
def plainPage (page : Nat) : Bool :=
  match blockOf page with
  | some (.clk, _) | some (.rel, _) | some (.sch, _) | some (.mbx, _) | some (.enp, _) => true
  | _ => false

/-! ### Microwords -/

/-- Register W[i] of a context (R138). -/
def Ctx.reg (k : Ctx) (i : Nat) : BitVec 20 := k.w.getD i 0

/-- The 60-bit value of W[i..i+2] (R138). -/
def Ctx.three (k : Ctx) (i : Nat) : BitVec 60 := k.reg (i + 2) ++ k.reg (i + 1) ++ k.reg i

/-- A context with W[i] set. -/
def Ctx.withReg (k : Ctx) (i : Nat) (v : BitVec 20) : Ctx := { k with w := k.w.set i v }

/-- A context with W[i..i+2] set. -/
def Ctx.withThree (k : Ctx) (i : Nat) (v : BitVec 60) : Ctx :=
  ((k.withReg i (v.extractLsb' 0 20)).withReg (i + 1) (v.extractLsb' 20 20)).withReg (i + 2) (v.extractLsb' 40 20)

/-- Context `c` is about to execute the loaded word `x` (R133, R134, R146, R148): it is in RUN or TRAP in a mode that
serves, its PC stands at an intact word it may fetch, the word's OP is not reserved and stands where it may, and no
asynchronous cause is to be taken first. -/
def State.issues (s : State) (c : Nat) (x : Insn) : Prop :=
  okCtx c = true ∧ s.issuing c = true ∧ s.csBad.contains (csKey (s.trayOf c) (s.ctx c).pc) = false
    ∧ s.mayFetch c (s.ctx c).pc = true ∧ s.native (s.trayOf c) (s.ctx c).pc = false ∧ s.curInsn c = x
    ∧ reservedOp x.op = false ∧ misplaced (s.ctx c) x.op = false ∧ ((s.ctx c).inHandler = true ∨ (s.ctx c).pend = [])

/-- The state after the word of context `c` has completed with the registers and flags of `k`: nothing else but the
place the context goes on at has changed (R141, R143-R145). -/
def State.completed (s : State) (c : Nat) (k : Ctx) (nx : Nat) : State := (s.fetched c).setCtx c (k.complete nx)

/-! ### PIO engines -/

/-- An engine executes an instruction of operation `op` now (R183, R187): it runs, no instruction is in progress, its next
boundary has come, PC stands at such an instruction, no AT time is to be awaited first, and its pins are cuffs of the device
(R181). -/
def State.pioRuns (s : State) (e op : Nat) : Prop :=
  s.service = true ∧ (s.pio e).st = 1 ∧ (s.pio e).busy = false ∧ (s.pio e).needAt = none
    ∧ s.reached (s.boundary e (s.pio e).bit) = true
    ∧ bits (s.imem e (s.pio e).pc) 0 3 = op ∧ (bitAt (s.imem e (s.pio e).pc) 3 = false ∨ (s.pio e).atMet = true)
    ∧ (s.pio e).base + (s.pio e).count ≤ 1024

/-- Engine `e`, its registers now those of `k`, has started the instruction at PC: it completes under the word and the settings
that stand now (R196). -/
def State.started (s : State) (e : Nat) (k : Pio) : Pio :=
  { k with insn := s.imem e k.pc, cfg := s.regN (Reg.PIO_CFG e), smp := s.fld (Reg.PIO_SAMPLE e) 0 16,
           wto := s.fld (Reg.PIO_WTO e) 0 24 }

/-- The instruction that `k` has started is in its first period, with so many bits still to shift after it; the HOLD periods
follow (R184, R196). -/
def Pio.inPeriod (k : Pio) (todo : Nat) : Pio :=
  { k with st := 1, busy := true, atMet := false, todo := todo, rest := bits k.insn 4 4, bit := k.bit + 1 }

/-- Engine `e`, its registers now those of `k`, starts the instruction at PC and is in its first period. -/
def State.inInsn (s : State) (e todo : Nat) (k : Pio) : Pio := (s.started e k).inPeriod todo

/-- Where PC goes after the instruction of `k` (R184): on by 1, back to FIRST while passes are left, or the program ends. -/
def State.pioAfter (s : State) (e : Nat) (k : Pio) (t : State) : Prop :=
  let r := Reg.PIO_LOOP e
  let first := s.fld r 0 5
  let last := s.fld r 8 5
  let done := { k with busy := false, skip := false }
  if k.pc = last ∧ s.fld r 16 16 = 0 then t.pio e = { done with pc := first, left := 0 }
  else if k.pc = last ∧ 1 < k.left then t.pio e = { done with pc := first, left := k.left - 1 }
  else if k.pc = 31 then
    (t.pio e).st = 0 ∧ (t.pio e).pc = 0 ∧ (t.pio e).ended = true ∧ (k.pc = last → (t.pio e).left = 0)
      ∧ t.srcPend (0x3080 + 4 * e + 3) = true
  else t.pio e = { done with pc := k.pc + 1, left := if k.pc = last then 0 else k.left }

end Sys2Proof.Machine
end

