-- ==== Sys2Proof/Certificates/Slice0/Obligations.lean ====
section
/-! DEFINITION. The statements for the provers. Each docstring names the rules of spec/ it formalises. A statement
about a command gives the state it answers: what is not written in that state is unchanged. -/

open Sys2Proof Sys2Proof.Machine


/-! ### The block as a whole -/

/-- Log entry 1: a step takes the command at the front of the queue, and runs it on the state with the queue's rest; an
empty queue lets one tick of the tick clock pass, in which the time base advances by 16 crumbs where no trim, slew or
carried crumb is due (R25); while an apply updates the ports, its work goes on with it. -/
def Obligations.StepTakesTheFront : Prop :=
  (∀ (s : State) (c : Instr) (rest : List Instr), s.pending = c :: rest → step s = exec c { s with pending := rest }) ∧
  ∀ s : State, s.pending = [] →
    let free := ∀ a, s.boot.apply = some a → a.part ≠ 1
    let clocked := s.tb.running = true ∧ s.mode ≠ Mode.doze ∧ s.mode ≠ Mode.off
    let plain := clocked ∧ s.coarse = false ∧ s.tb.now < s.circle ∧ s.trim = 0 ∧ s.tb.trimAcc = 0 ∧ s.stepRem = 0 ∧ s.tb.carry = 0
    (¬clocked → free → step s = .next s) ∧
    (clocked → s.coarse = true → free → step s = .next { s with tick := s.tick + 1 }) ∧
    (plain → free → s.tb.now + 16 < s.circle → step s = .next
      ({ s.settleLegs with tick := s.tick + 1, tb := { s.tb with now := s.tb.now + 16, slewTicks := 0 } }).tickEngines.tickPorts.settleCuffs) ∧
    (plain → free → s.circle ≤ s.tb.now + 16 → ∃ u : State, step s = .next u.tickEngines.tickPorts.settleCuffs ∧
      u.tick = s.tick + 1 ∧ u.tb.now = (s.tb.now + 16) % s.circle ∧ u.tb.epoch = (s.tb.epoch + 1) % 2 ^ 20 ∧
      u.cuffs = s.settleLegs.cuffs ∧ u.queues = s.queues ∧ u.mem = s.mem)

/-- R26, R45, R315, R317, R340: the part right after the release of SYS_RST_N. Registers without a stated reset value read
what the register listing of the model gives (its log entries), and memory reads 0 (log entry 7). -/
def Obligations.ResetState : Prop :=
  let s := State.reset
  s.mode = Mode.boot ∧ s.tb.now = 0 ∧ s.tb.epoch = 0 ∧ s.tb.running = false ∧ s.tbValid = false ∧
    s.reg Reg.TB_TRIM = 0 ∧ s.reg Reg.TB_STEP_REM = 0 ∧
    (∀ g < 64, s.reg (Reg.TB_SG_PERIOD_L g) = 0 ∧ s.reg (Reg.TB_SG_PERIOD_H g) = 0 ∧ s.reg (Reg.TB_SG_COUNT g) = 0 ∧
      s.reg (Reg.TB_SG_BASE_L g) = 0 ∧ s.reg (Reg.TB_SG_BASE_H g) = 0) ∧
    (∀ i < 32, s.reg (Reg.TB_GMASK i) = 0) ∧ s.circle = 2 ^ 60 ∧
    (∀ c < 1024, (s.cuff c).apron = true ∧ (s.cuff c).driven = false ∧ (s.cuff c).fifo = []) ∧
    (∀ q, (s.queue q).state = QState.free) ∧ (∀ c, (s.ctx c).st = .free) ∧ (∀ n, (s.fn n).inflight = []) ∧
    s.refs = [] ∧ s.pending = [] ∧ (∀ a, s.byte a = 0) ∧ (∀ k, s.reg k = resetOf k) ∧
    s.canonical = true ∧ s.modeSound = true

/-- Memory, the registers in effect, the staged registers and the vectors keep their canonical forms through every step. -/
def Obligations.CanonicalFormKept : Prop :=
  ∀ s t : State, s.canonical = true → step s = .next t → t.canonical = true

/-- R316: from every state whose mode is sound, a step leaves it sound, and a change of mode is one that R316 lists. -/
def Obligations.ModesChangeAsListed : Prop :=
  ∀ s t : State, s.modeSound = true → step s = .next t →
    t.modeSound = true ∧ (t.mode ≠ s.mode → modeMove s.mode t.mode = true)

/-- R8: every well-formed command has its effect and leaves the waiting commands alone; nothing is refused, and the one
fault names a unit the part does not have (log entry 4). -/
def Obligations.WellFormedCommandsComplete : Prop :=
  ∀ (i : Instr) (s : State),
    (i.wf = true → ∃ t : State, exec i s = .next t) ∧
    (∀ t, exec i s = .next t → t.pending = s.pending) ∧
    (∀ r, exec i s ≠ .refused r) ∧ (∀ f, exec i s = .fault f → f = .noSuchUnit ∧ i.wf = false)
/-! ### Registers, staging and groups (R6-R24, R385, R387) -/

/-- R7, R10-R12: a write of a register by its access types through each view, an access to an offset no block occupies, and a
read that clears. -/
def Obligations.RegisterAccess : Prop :=
  ∀ (s : State),
    let d := s.drainBuf 0
    (∀ (page off view : Nat) (v : Nat) (r : RegRow), plainPage page = true → off < 0x1000 → off % 4 = 0 → off ≠ 0x20 →
      view < 4 → v < 2 ^ 32 → rowOf (page * 0x1000 + off) = some r → s.pfPage page = true → d.pageArmed page = false →
      let key := page * 0x1000 + off
      let data := BitVec.ofNat 32 v
      let by_ (old : Word) : Word :=
        if view = 0 then data else if view = 1 then old ||| data else if view = 2 then old &&& ~~~data else old
      let rw := BitVec.ofNat 32 r.rw
      let rws := BitVec.ofNat 32 r.rws
      let w1c := if view = 0 then BitVec.ofNat 32 r.w1c &&& data else 0
      ∃ t, exec (.registerWrite 0 (dword (page * 0x4000 + view * 0x1000 + off)) v) s = .next t ∧
        t.reg key = ((by_ (d.reg key) &&& rw) ||| (d.reg key &&& ~~~rw)) &&& ~~~w1c ∧
        (rws ≠ 0 → t.staged key &&& rws = (if view = 3 then data else by_ (d.staged key)) &&& rws) ∧
        (∀ k, k ≠ key → t.reg k = d.reg k ∧ t.staged k = d.staged k) ∧
        t = { d with regs := t.regs, shadow := t.shadow }) ∧
    (∀ addr, addr % 4 = 0 → addr < 0x1FF0000 → blockOf (addr / 0x4000) = none →
      (s.mode = Mode.boot → s.accepts 0 = true → exec (.unmappedAccess 0 addr true) s = .next s) ∧
      (s.mode = Mode.boot → s.reads 0 = true → exec (.unmappedAccess 0 addr false) s = .next (d.send (.readData 0 0))) ∧
      (s.mode ≠ Mode.boot → s.accepts 0 = true → ∃ t, exec (.unmappedAccess 0 addr true) s = .next t ∧ t.bit (Reg.PG_ERR 0) 3 = true ∧
        t.regN (Reg.PG_ERR_ADDR 0) = addr ∧ OnlyRegs [Reg.PG_ERR 0, Reg.PG_ERR_ADDR 0] d t) ∧
      (s.mode ≠ Mode.boot → s.reads 0 = true → ∃ t, exec (.unmappedAccess 0 addr false) s = .next t ∧
        t.bit (Reg.PG_ERR 0) 3 = true ∧ t.regN (Reg.PG_ERR_ADDR 0) = addr ∧ t.out = d.out ++ [.readData 0 0] ∧
        t = { d with regs := t.regs, out := t.out })) ∧
    (∀ addr write, (0x1FF0000 ≤ addr ∨ (blockOf (addr / 0x4000)).isSome = true) →
      exec (.unmappedAccess 0 addr write) s = .next s) ∧
    (∀ fn addr write, 0 < fn → fn < 512 → exec (.unmappedAccess fn addr write) s = .next s) ∧
    (∀ addr, addr % 4 ≠ 0 → addr < 0x1FF0000 → blockOf (addr / 0x4000) = none →
      (s.accepts 0 = true → exec (.unmappedAccess 0 addr true) s = .next (d.send (.unsupported 0))) ∧
      (s.reads 0 = true → exec (.unmappedAccess 0 addr false) s = .next (s.send (.unsupported 0)))) ∧
    (∀ (r : Bar0Ref) (v : Nat), (r.kind = .atomic ∨ ∃ n, r.kind = .bytes n ∧ n ≠ 4 ∧ ¬(n = 8 ∧ r.addr % 8 = 0)) →
      (s.accepts 0 = true → okData r v = true → exec (.registerWrite 0 r v) s = .next (d.send (.unsupported 0))) ∧
      (s.reads 0 = true → exec (.readClear 0 r) s = .next (s.send (.unsupported 0)))) ∧
    (∀ view < 3, s.reads 0 = true → s.mode ≠ Mode.boot → ∃ t,
      exec (.readClear 0 (dword (0x4000 + view * 0x1000 + 0x4C))) s = .next t ∧
      t.out = d.out ++ [.readData 0 (d.reg Reg.CLK_REFLOSS_CNT)] ∧
      t.reg Reg.CLK_REFLOSS_CNT = (if view = 0 then 0 else d.reg Reg.CLK_REFLOSS_CNT) ∧
      (∀ k, k ≠ Reg.CLK_REFLOSS_CNT → t.reg k = d.reg k) ∧ t = { d with regs := t.regs, out := t.out })

/-- R17-R19, R385: the command bits of PG_STAGE. -/
def Obligations.StagingCommands : Prop :=
  ∀ (s : State) (page v : Nat), page < 2048 → v < 2 ^ 32 → (blockOf page).isSome = true → s.pfPage page = true →
    let d := s.drainBuf 0
    let when_ := d.commitTime page
    let alone (i : Nat) := ∀ j < 4, j ≠ i → bitAt v j = false
    let busy (c : Instr) := ∃ t, exec c s = .next t ∧ t.bit (Reg.PG_ERR page) 0 = true ∧ OnlyRegs [Reg.PG_ERR page] d t
    let commands := [Instr.pgStageCommit page v, .pgStageArm page v, .pgStageDisarm page v, .pgStageDiscard page v]
    let foreign := 0x80 ≤ page ∧ page < 0xA0 ∧ (d.chan (page - 0x80)).owner ≠ 0
    (foreign → ∀ c ∈ commands, ∃ t, exec c s = .next t ∧ t.fld (Reg.PG_ERR_INFO page) 0 8 = 0x06 ∧
      OnlyRegs [Reg.PG_ERR_INFO page] d t) ∧
    (¬foreign →
    (alone 0 → (d.pageArmed page = true ∨ d.groupOf page ≠ none) → busy (.pgStageCommit page v)) ∧
    (alone 0 → d.pageArmed page = false → d.groupOf page = none → exec (.pgStageCommit page v) s =
      .next (d.setPage page { d.page page with armed := .now })) ∧
    (alone 1 → (d.pageArmed page = true ∨ d.groupOf page ≠ none) → busy (.pgStageArm page v)) ∧
    (alone 1 → d.pageArmed page = false → d.groupOf page = none →
      d.atOrAfter when_ (d.plus d.tb.now (96 * 16)) = true → exec (.pgStageArm page v) s =
        .next (d.setPage page { d.page page with armed := .timed when_ })) ∧
    (alone 1 → d.pageArmed page = false → d.groupOf page = none →
      d.atOrAfter when_ (d.plus d.tb.now (96 * 16)) = false → ∃ t, exec (.pgStageArm page v) s = .next t ∧
        t.bit (Reg.PG_ERR page) 1 = true ∧ t.fld (Reg.PG_ERR_INFO page) 0 8 = 0x04 ∧
        OnlyRegs [Reg.PG_ERR page, Reg.PG_ERR_INFO page] d t) ∧
    (alone 2 → ∀ time, (d.page page).armed = .timed time → exec (.pgStageDisarm page v) s =
      .next (if d.atOrAfter time (d.plus d.tb.now (96 * 16)) then d.setPage page { d.page page with armed := .no } else d)) ∧
    (alone 2 → (d.page page).armed = .now → exec (.pgStageDisarm page v) s = .next d) ∧
    (alone 3 → d.pageArmed page = true → busy (.pgStageDiscard page v)) ∧
    (alone 3 → d.pageArmed page = false → ∃ t, exec (.pgStageDiscard page v) s = .next t ∧
      (∀ k, pageOf k = page → t.staged k = d.reg k) ∧ (∀ k, pageOf k ≠ page → t.staged k = d.staged k) ∧
      t = { d with shadow := t.shadow }) ∧
    (∀ i < 4, ∀ j < 4, i ≠ j → bitAt v j = true → ∀ c, commands[i]? = some c → ∃ t, exec c s = .next t ∧
      t.bit (Reg.PG_ERR page) 4 = true ∧ t.fld (Reg.PG_ERR_INFO page) 0 8 = 0x08 ∧
      OnlyRegs [Reg.PG_ERR page, Reg.PG_ERR_INFO page] d t))

/-- R17, R18: on the commit tick every staged register of the page takes its staged value (brought into its range), PG_SEQ
counts and PG_COMMIT_TIME reads the tick, and the pages of SCH, CLK, REL, TRY and MBX see nothing else. Every page: its shadow,
screened, takes effect and is stamped, and then what the block does on its commit follows; an ENS or ENP
page that breaks the retry budget is refused (R241); an immediate commit waits while an action of the tick uses the page (R96).
R21, R274: a group commits as a whole or is refused as a whole. -/
def Obligations.CommitTicks : Prop :=
  (∀ (s : State) (page : Nat), s.canonical = true → s.clocked = true →
     (page = 8 ∨ page = 1 ∨ page = 6 ∨ (0x30 ≤ page ∧ page < 0x39) ∨ (0xB0 ≤ page ∧ page < 0xC0)) →
     (((s.page page).armed = .now ∧ (s.page page).used ≠ some s.tick) ∨
       ∃ time, (s.page page).armed = .timed time ∧ s.reached time = true) →
     ∃ t, exec (.commitTick page) s = .next t ∧
       (∀ k, pageOf k = page → k < tenBase → k ≠ Reg.PG_SEQ page → k ≠ Reg.PG_COMMIT_TIME_L page →
         k ≠ Reg.PG_COMMIT_TIME_H page →
         t.staged k = t.reg k ∧ t.reg k = if s.staged k = s.reg k then s.reg k else word (s.inRange k (s.staged k).toNat)) ∧
       (s.staged (Reg.PG_SEQ page) = s.reg (Reg.PG_SEQ page) →
         t.regN (Reg.PG_SEQ page) = (s.regN (Reg.PG_SEQ page) + 1) % 2 ^ 32) ∧
       t.commitTime page = s.tb.now % 2 ^ 64 ∧
       (∀ k, pageOf k ≠ page → t.reg k = s.reg k ∧ t.staged k = s.staged k) ∧
       t.page page = {} ∧ (∀ p, p ≠ page → t.page p = s.page p) ∧
       t = { s with regs := t.regs, shadow := t.shadow, pages := t.pages }) ∧
  (∀ (s : State) (page : Nat), page < 2048 →
     let due := s.clocked = true ∧
       (((s.page page).armed = .now ∧ (s.page page).used ≠ some s.tick) ∨
         ∃ time, (s.page page).armed = .timed time ∧ s.reached time = true)
     let u := s.screenPage page
     let new := (u.applyPage page).stampCommit page
     let fits := ensPage page = false ∨ (u.applyPage page).ensBudget ≤ (u.applyPage page).ensGuard
     (due → fits → exec (.commitTick page) s = .next (State.pageCommitted u new page)) ∧
     (due → ¬fits → exec (.commitTick page) s = .next (u.refuseEns page)) ∧
     (¬due → exec (.commitTick page) s = .next s)) ∧
  (∀ (s : State) (g : Nat), g < 16 →
     let members := (s.group g).members
     let due := s.clocked = true ∧
       (((s.group g).armed = .now ∧ ∀ p ∈ members, (s.page p).used ≠ some s.tick) ∨
         ∃ time, (s.group g).armed = .timed time ∧ s.reached time = true)
     (¬due → exec (.groupCommitTick g) s = .next s) ∧
     (due → s.groupFits g = false → ∃ t, exec (.groupCommitTick g) s = .next t ∧ (t.group g).armed = .no ∧
       (t.group g).members = members ∧ t.fld (Reg.CFG_GSTAT g) 8 8 = 0x12 ∧ t.shadow = s.shadow ∧ t.pages = s.pages ∧
       (∀ p ∈ members, t.bit (Reg.PG_ERR p) 2 = true ∧ t.fld (Reg.PG_ERR_INFO p) 0 8 = 0x12) ∧
       t.cuffs = s.cuffs ∧ t.tb = s.tb ∧ t.srcPend 0x3408 = true) ∧
     (due → s.groupFits g = true → exec (.groupCommitTick g) s = .next
       ((((s.setGroup g { s.group g with armed := .no }).commitPages members).groupCode g 0).raise 0x3408)) ∧
     (due → s.groupFits g = true → members.Nodup → (∀ p ∈ members, plainPage p = true ∧ ensPage p = false) →
       ∃ t, exec (.groupCommitTick g) s = .next t ∧ (t.group g).armed = .no ∧ (t.group g).members = members ∧
         t.fld (Reg.CFG_GSTAT g) 8 8 = 0 ∧ (∀ g', g' ≠ g → t.group g' = s.group g') ∧
         (∀ p ∈ members, t.page p = {} ∧ t.dirty p = 0) ∧
         t.srcPend 0x3408 = true ∧
         t = { s with out := t.out, regs := t.regs, shadow := t.shadow, pages := t.pages, groups := t.groups, fns := t.fns,
                      link := t.link, srcs := t.srcs, vecs := t.vecs }))

/-- R21, R22, R274, R385, R387: the commands of the selected commit group.
R23, R24, R274, R387: hold-and-swap, from its ARM to its release. -/
def Obligations.GroupsAndHoldAndSwap : Prop :=
  (∀ (s : State), s.pfPage 4 = true →
     let d := s.drainBuf 0
     let g := d.fld Reg.CFG_GSEL 0 4
     let x := d.group g
     let time := d.pair (Reg.CFG_GTIME_L g) (Reg.CFG_GTIME_H g)
     let refused (c : Instr) (code : Nat) := ∃ t, exec c s = .next t ∧ t.fld (Reg.CFG_GSTAT g) 8 8 = code ∧
       OnlyRegs [Reg.CFG_GSTAT g] d t
     let refusedEv (c : Instr) (code : Nat) := ∃ t, exec c s = .next t ∧ t.fld (Reg.CFG_GSTAT g) 8 8 = code ∧
       t.srcPend 0x3408 = true ∧ OnlyRegsAndEvents [Reg.CFG_GSTAT g] d t
     let done (c : Instr) (x' : Group) := ∃ t, exec c s = .next t ∧ t.fld (Reg.CFG_GSTAT g) 8 8 = 0 ∧ t.group g = x' ∧
       (∀ g', g' ≠ g → t.group g' = d.group g') ∧ (∀ k, k ≠ Reg.CFG_GSTAT g → t.reg k = d.reg k) ∧
       t = { d with regs := t.regs, groups := t.groups }
     let free := d.groupArmed g = false
     (∀ page < 2048,
       (d.groupArmed g = true → refused (.cfgGadd page) 0x08 ∧ refused (.cfgGremove page) 0x08) ∧
       (free → (d.groupOf page ≠ none ∨ groupable page = false ∨ 64 ≤ x.members.length) → refused (.cfgGadd page) 0x07) ∧
       (free → d.groupOf page = none → groupable page = true → x.members.length < 64 →
         done (.cfgGadd page) { x with members := x.members ++ [page] }) ∧
       (free → page ∉ x.members → refused (.cfgGremove page) 0x08) ∧
       (free → page ∈ x.members → done (.cfgGremove page) { x with members := x.members.filter (· ≠ page) })) ∧
     (d.groupArmed g = true → refusedEv (.cfgGctrlCommit 0) 0x08 ∧ refusedEv (.cfgGctrlArm 0) 0x08 ∧ refused (.cfgGctrlClear 0) 0x08) ∧
     (free → d.groupFits g = true → exec (.cfgGctrlCommit 0) s = .next (d.setGroup g { x with armed := .now })) ∧
     (free → d.atOrAfter time (d.plus d.tb.now 1536) = true → done (.cfgGctrlArm 0) { x with armed := .timed time }) ∧
     (free → d.atOrAfter time (d.plus d.tb.now 1536) = false → ∃ t, exec (.cfgGctrlArm 0) s = .next t ∧
       t.fld (Reg.CFG_GSTAT g) 8 8 = 0x04 ∧ t.bit (Reg.PG_ERR 4) 1 = true ∧ t.fld (Reg.PG_ERR_INFO 4) 0 8 = 0x04 ∧
       t.srcPend 0x3408 = true ∧ OnlyRegsAndEvents [Reg.CFG_GSTAT g, Reg.PG_ERR 4, Reg.PG_ERR_INFO 4] d t) ∧
     (free → done (.cfgGctrlClear 0) { x with members := [] }) ∧
     (∀ t0, x.armed = .timed t0 → d.atOrAfter t0 (d.plus d.tb.now 1536) = true →
       done (.cfgGctrlDisarm 0) { x with armed := .no }) ∧
     (∀ t0, x.armed = .timed t0 → d.atOrAfter t0 (d.plus d.tb.now 1536) = false → exec (.cfgGctrlDisarm 0) s = .next d) ∧
     (∃ t, exec (.cfgGctrlCommit 2) s = .next t ∧ t.bit (Reg.PG_ERR 4) 4 = true ∧ t.fld (Reg.CFG_GSTAT g) 8 8 = 0x08 ∧
       t.srcPend 0x3408 = true ∧ t.groups = d.groups)) ∧
  (∀ (s : State),
     let d := s.drainBuf 0
     let held := (bitList 32 s.hs.sleeves).flatMap sleeveCuffs
     (s.pfPage 4 = true → d.hsBusy = true → ∃ t, exec (.cfgHsCtrlArm 0) s = .next t ∧ t.fld Reg.CFG_HS_CTRL 8 8 = 0x08 ∧
       t.hs = d.hs ∧ t.fld Reg.CFG_HS_CTRL 2 2 = d.fld Reg.CFG_HS_CTRL 2 2 ∧ t.srcPend 0x3409 = true ∧ OnlyRegsAndEvents [Reg.CFG_HS_CTRL] d t) ∧
     (s.pfPage 4 = true → d.hsBusy = false → d.hsCheck ≠ 0 → ∃ t, exec (.cfgHsCtrlArm 0) s = .next t ∧
       t.fld Reg.CFG_HS_CTRL 8 8 = d.hsCheck % 256 ∧ t.fld Reg.CFG_HS_CTRL 2 2 = 3 ∧ t.srcPend 0x3409 = true ∧ OnlyRegsAndEvents [Reg.CFG_HS_CTRL] d t) ∧
     (s.pfPage 4 = true → d.hsBusy = false → d.hsCheck = 0 → ∃ t, exec (.cfgHsCtrlArm 0) s = .next t ∧
       t.fld Reg.CFG_HS_CTRL 8 8 = 0 ∧ t.fld Reg.CFG_HS_CTRL 2 2 = 1 ∧
       t.hs = { groups := bitList 16 (d.regN Reg.CFG_HS_GROUPS), done := 0, sleeves := d.regN Reg.CFG_HS_SLEEVES,
                hold := d.pair Reg.CFG_HS_HOLD_L Reg.CFG_HS_HOLD_H, rel := d.pair Reg.CFG_HS_REL_L Reg.CFG_HS_REL_H } ∧
       t = { d with regs := t.regs, hs := t.hs }) ∧
     (s.pfPage 4 = true → d.hsState = 1 → ∃ t, exec (.cfgHsCtrlCancel 0) s = .next t ∧
       (d.reached d.hs.hold = false → t.fld Reg.CFG_HS_CTRL 2 2 = 0 ∧ t.hs = {} ∧ t = { d with regs := t.regs, hs := t.hs }) ∧
       (d.reached d.hs.hold = true → t = d)) ∧
     (s.hsState = 1 → s.clocked = true → s.reached s.hs.hold = true → ∃ t, exec .holdStart s = .next t ∧
       t.fld Reg.CFG_HS_CTRL 2 2 = 2 ∧ (∀ c ∈ held, t.cuff c = { s.cuff c with held := true }) ∧
       (∀ c, c ∉ held → t.cuff c = s.cuff c) ∧ t = { s with regs := t.regs, cuffs := t.cuffs }) ∧
     (s.hsState = 2 → s.clocked = true → s.reached (s.plus s.hs.hold ((s.hs.done + 1) * 1024)) = true →
       ∀ g, s.hs.groups[s.hs.done]? = some g → ∃ t, exec .holdGroupCommit s = .next t ∧
         t = { s.commitMembers g with hs := { s.hs with done := s.hs.done + 1 } }) ∧
     (s.hsState = 2 → s.clocked = true → s.reached s.hs.rel = true → ∃ t, exec .holdRelease s = .next t ∧
       t.hs = {} ∧ t.tb = s.tb ∧ t.srcPend 0x3409 = true ∧ ∀ c ∈ held, (t.cuff c).held = false))


/-! ### The time base (R25-R45) -/

/-- R25, R28, R33, R34, R41: what one tick does to the time base, and the rows that name its crumbs.
R31-R35, R44, R385: TB_CTRL's command bits, and the writes of TB_RELOAD_H, TB_TRIM and TB_STEP. -/
def Obligations.TimeBaseTicksAndWrites : Prop :=
  (∀ (s : State),
     let m := s.circle
     let acc := s.tb.trimAcc + 16 * s.trim
     let trim : Int := if 2 ^ 40 ≤ acc then 1 else if acc ≤ -2 ^ 40 then -1 else 0
     let sgn : Int := if 0 < s.stepRem then 1 else -1
     let slew : Int := if s.stepRem = 0 then 0 else if max 16 (s.fld Reg.TB_SLEW 0 16) ≤ s.tb.slewTicks + 1 then sgn else 0
     let sum := s.tb.carry + trim + slew
     let d : Int := if 0 < sum then 1 else if sum < 0 then -1 else 0
     let n := (16 + d).toNat
     let ticked (c : Instr) := ∃ u : State, exec c s = .next u.tickEngines.tickPorts.settleCuffs ∧ u.tick = s.tick + 1 ∧
       u.tb = { s.tb with now := (s.tb.now + n) % m, epoch := if s.tb.now + n < m then s.tb.epoch else (s.tb.epoch + 1) % 2 ^ 20,
                          trimAcc := acc - trim * 2 ^ 40, carry := sum - d, slewTicks := u.tb.slewTicks } ∧
       u.stepRem = s.stepRem - slew ∧
       u = { s.settleLegs with out := u.out, tick := u.tick, regs := u.regs, shadow := u.shadow, tb := u.tb, fns := u.fns, link := u.link,
                               srcs := u.srcs, vecs := u.vecs }
     let plain := s.tb.running = true ∧ s.coarse = false ∧ s.mode ≠ Mode.doze ∧ s.mode ≠ Mode.off ∧ s.tb.now < m
     (15 ≤ n ∧ n ≤ 17) ∧
     (plain → m ≤ s.tb.now + n → ticked .timeBaseReload) ∧
     (plain → trim ≠ 0 → ticked .trimCrumb) ∧
     (plain → slew ≠ 0 → ticked .slewCrumb) ∧
     (s.coarse = true → s.pwr.refOk = true → s.tb.running = true → s.tb.now < m → ∃ t, exec .referenceEdge s = .next t ∧
       (-2 ^ 40 < s.tb.trimAcc + 960 * s.trim ∧ s.tb.trimAcc + 960 * s.trim < 2 ^ 40 → t.tb.now = (s.tb.now + 960) % m ∧
         t.tb.trimAcc = s.tb.trimAcc + 960 * s.trim) ∧
       t.tb.slewTicks = s.tb.slewTicks ∧ t.stepRem = s.stepRem ∧
       t = { s with out := t.out, regs := t.regs, shadow := t.shadow, tb := t.tb, fns := t.fns, link := t.link,
                    srcs := t.srcs, vecs := t.vecs })) ∧
  (∀ (s : State) (v : Nat), v < 2 ^ 32 → s.pfPage 3 = true →
     let d := s.drainBuf 0
     let err := Reg.PG_ERR 3
     let ctrl := Reg.TB_CTRL
     let load := d.pair Reg.TB_LOAD_L Reg.TB_LOAD_H
     let locked := d.fld ctrl 0 2 ≠ 0
     let only (i : Nat) := ∀ j, 2 ≤ j → j < 5 → j ≠ i → bitAt v j = false
     let refuse (c : Instr) (b : Nat) (ks : List Nat) := ∃ t, exec c s = .next t ∧ t.bit err b = true ∧ t.tb = d.tb ∧
       OnlyRegs (err :: ks) d t
     let step := d.stepRem + signed 32 v
     (only 2 → ∃ t, exec (.tbCtrlSnap v) s = .next t ∧ t.pair Reg.TB_SNAP_L Reg.TB_SNAP_H = d.tb.now % 2 ^ 64 ∧
       t.regN Reg.TB_SNAP_EPOCH = d.tb.epoch % 2 ^ 32 ∧ t.fld ctrl 0 2 = v % 4 ∧
       OnlyRegs [ctrl, Reg.TB_SNAP_L, Reg.TB_SNAP_H, Reg.TB_SNAP_EPOCH] d t) ∧
     (only 3 → v % 4 ≠ 0 → refuse (.tbCtrlLoad v) 18 [ctrl]) ∧
     (only 3 → v % 4 = 0 → ((d.mode ≠ Mode.provision ∧ d.tbValid = true) ∨ d.circle ≤ load) →
       refuse (.tbCtrlLoad v) 16 [ctrl, Reg.PG_ERR_INFO 3] ∧
         ∃ t, exec (.tbCtrlLoad v) s = .next t ∧ t.fld (Reg.PG_ERR_INFO 3) 0 8 = 0x08) ∧
     (only 3 → v % 4 = 0 → (d.mode = Mode.provision ∨ d.tbValid = false) → load < d.circle →
       ∃ t, exec (.tbCtrlLoad v) s = .next t ∧ t.tb = { d.tb with now := load, slewTicks := 0 } ∧ t.stepRem = 0 ∧
         t.fld ctrl 0 2 = 0 ∧ (∀ k, k ≠ ctrl → k ≠ Reg.TB_STEP_REM → t.reg k = d.reg k) ∧
         t = { d with tb := t.tb, regs := t.regs }) ∧
     (only 4 → ∃ t, exec (.tbCtrlValidate v) s = .next t ∧ t.fld ctrl 0 2 = v % 4 ∧
       (d.pwr.refOk = true ∧ d.pwr.locked = true ∧ d.bit Reg.TB_STATUS 1 = false → t.tbValid = true ∧
         OnlyRegsAndEvents [ctrl, Reg.TB_STATUS, Reg.ENS_STATUS] d t) ∧
       (¬(d.pwr.refOk = true ∧ d.pwr.locked = true ∧ d.bit Reg.TB_STATUS 1 = false) → OnlyRegs [ctrl] d t)) ∧
     (∀ view < 3, d.tb.relL < 2 ^ 32 →
       let h := (viewed view (d.reg Reg.TB_RELOAD_H) (BitVec.ofNat 32 v)).toNat % 2 ^ 28
       let n := (h * 2 ^ 32 + d.tb.relL) / 16 * 16 + 15
       (d.mode = Mode.provision ∧ 2 ^ 40 - 1 ≤ n ∧ d.tb.now < n → ∃ t, exec (.tbReloadWrite view v) s = .next t ∧
         t.circle = n + 1 ∧ OnlyRegs [Reg.TB_RELOAD_L, Reg.TB_RELOAD_H] d t) ∧
       (¬(d.mode = Mode.provision ∧ 2 ^ 40 - 1 ≤ n ∧ d.tb.now < n) → refuse (.tbReloadWrite view v) 19 [])) ∧
     exec (.tbReloadWrite 3 v) s = .next d ∧
     (∀ view < 4, (locked → refuse (.tbTrimWrite view v) 18 []) ∧
       (¬locked → ∃ t, exec (.tbTrimWrite view v) s = .next t ∧
         t.regN Reg.TB_TRIM = (viewed view (d.reg Reg.TB_TRIM) (BitVec.ofNat 32 v)).toNat % 2 ^ 28 ∧
         OnlyRegs [Reg.TB_TRIM] d t)) ∧
     (locked → refuse (.tbStepWrite v) 18 []) ∧
     (¬locked → (step < -2 ^ 31 ∨ 2 ^ 31 ≤ step) → refuse (.tbStepWrite v) 17 []) ∧
     (¬locked → -2 ^ 31 ≤ step → step < 2 ^ 31 → ∃ t, exec (.tbStepWrite v) s = .next t ∧ t.stepRem = step ∧
       (d.stepRem = 0 → t.tb = { d.tb with slewTicks := 0 }) ∧ (d.stepRem ≠ 0 → t.tb = d.tb) ∧
       (d.stepRem ≠ 0 → step = 0 → t.srcPend 0x3400 = true) ∧ t.mem = d.mem ∧
       OnlyRegsAndEvents [Reg.TB_STEP_REM] { d with tb := t.tb } t))

/-- R39, R40, R385: TB_GCTRL and the global start of the cuffs the masks select.
R43, R44, R45, R314: the reference and the PLL. -/
def Obligations.GlobalStartAndReference : Prop :=
  (∀ (s : State) (v : Nat), v < 2 ^ 32 →
     let d := s.drainBuf 0
     let only (i : Nat) := ∀ j < 3, j ≠ i → bitAt v j = false
     let at_ := d.pair Reg.TB_GSTART_L Reg.TB_GSTART_H
     let ahead (t0 : Nat) := d.atOrAfter t0 (d.plus d.tb.now 1536) = true
     (s.pfPage 3 = true →
       (only 0 → exec (.tbGctrlGo v) s = .next { d with tb := { d.tb with goPending := true } }) ∧
       (¬only 0 → ∃ t, exec (.tbGctrlGo v) s = .next t ∧ t.bit (Reg.PG_ERR 3) 4 = true ∧
         t.fld (Reg.PG_ERR_INFO 3) 0 8 = 0x08 ∧ OnlyRegs [Reg.PG_ERR 3, Reg.PG_ERR_INFO 3] d t) ∧
       (only 1 → d.gstate ≠ 1 → ahead at_ → ∃ t, exec (.tbGctrlArm v) s = .next t ∧ t.gstate = 1 ∧
         t.tb = { d.tb with goAt := some at_ } ∧ (∀ k, k ≠ Reg.TB_GCTRL → t.reg k = d.reg k) ∧
         t = { d with tb := t.tb, regs := t.regs }) ∧
       (only 1 → d.gstate ≠ 1 → ¬ahead at_ → ∃ t, exec (.tbGctrlArm v) s = .next t ∧ t.gstate = 3 ∧
         t.bit (Reg.PG_ERR 3) 20 = true ∧ t.fld (Reg.PG_ERR_INFO 3) 0 8 = 0x04 ∧
         OnlyRegs [Reg.TB_GCTRL, Reg.PG_ERR 3, Reg.PG_ERR_INFO 3] d t) ∧
       (∀ t0, only 2 → d.gstate = 1 → d.tb.goAt = some t0 → ahead t0 → ∃ t, exec (.tbGctrlDisarm v) s = .next t ∧
         t.gstate = 0 ∧ t.tb = { d.tb with goAt := none } ∧ (∀ k, k ≠ Reg.TB_GCTRL → t.reg k = d.reg k) ∧
         t = { d with tb := t.tb, regs := t.regs }) ∧
       (∀ t0, only 2 → d.tb.goAt = some t0 → ¬ahead t0 → exec (.tbGctrlDisarm v) s = .next d)) ∧
     (let quiet := ∀ c < 1024, bitAt (s.regN (Reg.TB_GMASK (c / 32))) (c % 32) = true → (s.cuff c).fifo = []
      let sel := (List.range 1024).filter fun c => bitAt (s.regN (Reg.TB_GMASK (c / 32))) (c % 32)
      let go := sel.filter fun c => decide (s.cuffMode c = 1) && !s.bit (Reg.CUF_PER_CTRL c) 6
      (s.tb.goPending = true ∨ ∃ t0, s.gstate = 1 ∧ s.tb.goAt = some t0 ∧ s.reached t0 = true) →
      ∃ t, exec .globalStart s = .next t ∧ t.gstate = 2 ∧ t.tb = { s.tb with goPending := false, goAt := none } ∧
        t.fld Reg.TB_GSTAT 0 16 = go.length ∧ t.fld Reg.TB_GSTAT 16 16 = sel.length - go.length ∧
        (∀ c ∈ go, t.pair (Reg.CUF_PER_OFF_L c) (Reg.CUF_PER_OFF_H c) = s.tb.now % 2 ^ 64 ∧
          t.stagedPair (Reg.CUF_PER_OFF_L c) (Reg.CUF_PER_OFF_H c) = s.tb.now % 2 ^ 64 ∧
          t.bit (Reg.CUF_PER_CTRL c) 7 = false) ∧
        (quiet → ∀ c < 1024, c ∉ go → otherLeg c ∉ go → t.cuff c = s.cuff c) ∧
        (quiet → t = { s with out := t.out, regs := t.regs, shadow := t.shadow, tb := t.tb, cuffs := t.cuffs, pairs := t.pairs,
                              fns := t.fns, link := t.link, srcs := t.srcs, vecs := t.vecs }))) ∧
  (∀ (s : State),
     (s.pwr.refOk = true → s.mode = Mode.off → exec .referenceLost s = .next { s with pwr := { s.pwr with refOk := false } }) ∧
     (s.pwr.refOk = true → s.mode ≠ Mode.off → ∃ t, exec .referenceLost s = .next t ∧ t.bit Reg.TB_STATUS 1 = true ∧ t.tbValid = false ∧
       t.srcPend 0x3401 = true ∧ t.regN Reg.CLK_REFLOSS_CNT = min (2 ^ 32 - 1) (s.regN Reg.CLK_REFLOSS_CNT + 1) ∧
       t.tb = s.tb ∧ t.pwr = { s.pwr with refOk := false } ∧
       OnlyRegsAndEvents [Reg.TB_STATUS, Reg.CLK_REFLOSS_CNT, Reg.ENS_STATUS] { s with pwr := t.pwr } t) ∧
     (s.pwr.refOk = false → exec .referenceReturn s =
       .next { s with pwr := { s.pwr with refOk := true, locked := false } }) ∧
     (s.pwr.refOk = true → s.pwr.locked = false → s.mode ≠ Mode.off → s.mode ≠ Mode.doze → s.tb.running = true →
       ∃ t, exec .pllLock s = .next t ∧ t.pwr = { s.pwr with locked := true } ∧ t.tb = s.tb ∧
         t.regN Reg.CLK_LOCK_TICKS ≤ 30000 ∧ (∀ k, k ≠ Reg.CLK_LOCK_TICKS → t.reg k = s.reg k) ∧
         t = { s with regs := t.regs, pwr := t.pwr, fresh := t.fresh }) ∧
     (s.pwr.refOk = true → s.pwr.locked = false → s.mode = Mode.boot → s.tb.running = false →
       ∃ t, exec .pllLock s = .next t ∧ t.pwr.locked = true ∧ t.tb = { s.tb with running := true } ∧ t.tbValid = true) ∧
     (s.pwr.refOk = true → s.pwr.locked = true → s.mode ≠ Mode.off → s.mode ≠ Mode.doze →
       ∃ t, exec .pllUnlock s = .next t ∧ t.pwr.locked = false ∧ t.bit Reg.CLK_STATUS 3 = true ∧ t.tbValid = false ∧
         t.regN Reg.CLK_UNLOCK_CNT = min (2 ^ 32 - 1) (s.regN Reg.CLK_UNLOCK_CNT + 1) ∧ t.tb = s.tb ∧
         ((s.mode = Mode.run ∨ s.mode = Mode.degraded) → s.pwr.entering = false → t.mode = Mode.safe)))


/-! ### Cuffs, pairs and guards (R47-R76) -/

/-- R51, R52, R55, R63: the output actions at a single cuff. `t` is the state before the action leaves the FIFO and is
recorded: the level, the later edges of a PULSE or TRAIN, the end of periodic mode. -/
def Obligations.OutputActions : Prop :=
  ∀ (s : State) (c : Nat) (f : Flight), c < 1024 → s.pairEn (c / 2) = false →
    let k := s.cuff c
    let mode := s.cuffMode c
    let on := decide (mode ≠ 2)
    let active := s.activeLevel c
    let only (t : State) := (∀ e, e ≠ c → t.cuff e = s.cuff e) ∧ t.cuffMode c = (if mode = 1 then 0 else mode) ∧
      (mode = 1 → (t.staged (Reg.CUF_CFG c)).toNat % 4 = 0) ∧ t.fld (Reg.CUF_CFG c) 2 30 = s.fld (Reg.CUF_CFG c) 2 30 ∧
      (∀ r, r ≠ Reg.CUF_CFG c → r ≠ Reg.CUF_EDGES c → t.reg r = s.reg r) ∧
      t = { s with regs := t.regs, shadow := t.shadow, cuffs := t.cuffs }
    let counted (t : State) (moved : Prop) := (moved → t.regN (Reg.CUF_EDGES c) = (s.regN (Reg.CUF_EDGES c) + 1) % 2 ^ 32 ∧
        (t.cuff c).lastEdge = some f.due) ∧
      (¬moved → t.regN (Reg.CUF_EDGES c) = s.regN (Reg.CUF_EDGES c))
    let took (t : State) (driven level : Bool) :=
      let swings := driven && !(s.sleeve (c / 32)).absent && (k.driven != driven || k.level != level) && k.pad != level
      t.cuff c = { k with
        driven := driven, level := level, perRun := if mode = 1 then false else k.perRun, lastT := some f.due,
        lastEdge := (t.cuff c).lastEdge, pad := if swings then level else k.pad,
        padTick := if swings then s.tick else k.padTick,
        filt := if swings then (if s.stampless || k.filt.isSome then none else some (level, f.due, s.tick + s.filterOf c)) else k.filt }
    let drives (op : Nat) (i : Instr) (l : Bool) := s.headReady 1 c op = some f → ∃ t : State, exec i s = .next (t.finish f) ∧
      took t on l ∧ counted t (k.driven ≠ on ∨ k.level ≠ l) ∧ only t
    drives 0x01 (.setHigh c) true ∧ drives 0x02 (.setLow c) false ∧
    drives 0x03 (.toggle c) (if k.driven then !k.level else active) ∧
    (s.headReady 1 c 0x04 = some f → ∃ t : State, exec (.hiz c) s = .next (t.finish f) ∧
      took t false k.level ∧ counted t (k.driven = true) ∧ only t) ∧
    (∀ train : Bool, s.headReady 1 c (if train then 0x06 else 0x05) = some f →
      let unit := 16 ^ (f.act.sub % 4)
      let width := (if train then bits f.act.arg 0 20 else bits f.act.arg 0 32) * unit
      let spacing := bits f.act.arg 20 20 * unit
      let m := if s.isTimed f then 0 else if s.bit (Reg.SLV_STATUS (c / 32)) 0 then 96 else 48
      let n := if train then bits f.act.arg 40 8 else 0
      let span := pulseSpan width spacing m
      let w := max width m
      let start (i : Nat) := s.plus f.due (span i).1
      let stop (i : Nat) := s.plus f.due (span i).2
      let later := (s.plus f.due w, !active) ::
        (List.range n).flatMap fun i => [(start (i + 1), active), (stop (i + 1), !active)]
      span 0 = (0, w) ∧ (m ≤ width → width + m ≤ spacing → ∀ i, span i = (i * spacing, i * spacing + width)) ∧
      (∀ i, m ≤ (span i).2 - (span i).1 ∧ (span i).2 + m ≤ (span (i + 1)).1) ∧
      ∃ t : State, exec (if train then .train c else .pulse c) s = .next (t.finish f) ∧ only t ∧
        (t.cuff c).edges = later.filter (fun e => !s.reached (s.placed c e.1)) ∧ (t.cuff c).driven = on ∧
        ((∀ e ∈ later, s.reached (s.placed c e.1) = false) → (t.cuff c).level = active) ∧
        (t.cuff c).lastT = some f.due ∧ (stop n ≠ f.due → (t.cuff c).busyTo = some (stop n)))

/-- R54, R55, R64: PERIOD at a single cuff or at leg A of a pair, and the phases of a periodic cuff. -/
def Obligations.PeriodicMode : Prop :=
  ∀ (s : State) (c : Nat) (f : Flight), c < 1024 →
    let k := s.cuff c
    let x := s.perSet c
    let paired := s.pairEn (c / 2) = true
    let ownRegs := [Reg.CUF_PER_L c, Reg.CUF_PER_H c, Reg.CUF_PER_W_L c, Reg.CUF_PER_W_H c, Reg.CUF_PER_OFF_L c,
      Reg.CUF_PER_OFF_H c, Reg.CUF_CFG c, Reg.CUF_ERR c, Reg.CUF_EDGES c, Reg.CUF_EDGES (otherLeg c)]
    let frame (t : State) := (∀ e, e ≠ c → e ≠ otherLeg c → t.cuff e = s.cuff e) ∧ SameButEvents ownRegs s t ∧
      t = { s with out := t.out, regs := t.regs, shadow := t.shadow, cuffs := t.cuffs, pairs := t.pairs, fns := t.fns,
                   link := t.link, srcs := t.srcs, vecs := t.vecs }
    let ph := (((s.tb.now : Int) - s.lag c - x.off) % (x.p : Int)).toNat
    let limits (m p w : Nat) := m ≤ w ∧ w + m ≤ p
    let m := (if s.bit (Reg.SLV_STATUS (c / 32)) 0 then 96 else 48) + (if paired then s.dead (c / 2) else 0)
    (((paired ∧ c % 2 = 0 ∧ s.headReady 2 (c / 2) 0x07 = some f) ∨ (¬paired ∧ s.headReady 1 c 0x07 = some f)) →
      let p := bits f.act.arg 0 24 * 16 ^ (f.act.sub % 4)
      let w := bits f.act.arg 24 24 * 16 ^ (f.act.sub % 4)
      let starts := s.bit (Reg.CUF_PER_CTRL c) 6 = false ∧ s.bit (Reg.CUF_PER_CTRL c) 7 = false ∧ k.apron = false
      ∃ t : State, exec (.period c) s = .next (t.finish f) ∧ frame t ∧ t.cuffMode c = 1 ∧
        (∀ e ∈ [(Reg.CUF_PER_L c, Reg.CUF_PER_H c, p), (Reg.CUF_PER_W_L c, Reg.CUF_PER_W_H c, w),
            (Reg.CUF_PER_OFF_L c, Reg.CUF_PER_OFF_H c, f.due % 2 ^ 64)],
          t.pair e.1 e.2.1 = e.2.2 ∧ t.stagedPair e.1 e.2.1 = e.2.2) ∧
        (starts → ¬limits m p w → t.bit (Reg.CUF_ERR c) 4 = true ∧ (t.cuff c).perRun = false ∧
          (t.cuff c).level = k.level ∧ (t.cuff c).driven = k.driven) ∧
        (starts → limits m p w → (t.cuff c).perRun = true ∧
          (paired → (t.pairSt (c / 2)).st = 1) ∧
          (¬paired → (t.cuff c).level = s.activeLevel c ∧ (t.cuff c).driven = true)) ∧
        (s.bit (Reg.CUF_PER_CTRL c) 6 = true → (t.cuff c).perRun = false ∧ (t.cuff c).level = k.level)) ∧
    (s.perActive c = true → x.p ≠ 0 → (k.perRun = true ∨ ph < 16) →
      let new := if ph < x.w then 1 else if s.bit (Reg.SLV_PAIR_CFG (c / 32) (c / 2 % 16)) 9 then 2 else 0
      let moves := ¬paired ∨ (s.pairSt (c / 2)).st ≠ new
      ∃ t : State, frame t ∧ (s.perFits c = false ∨ ¬moves → exec (.periodicPhase c) s = .next t) ∧
        (s.perFits c = true → moves → exec (.periodicPhase c) s = .next (t.respace c)) ∧
        (s.perFits c = false → t.bit (Reg.CUF_ERR c) 4 = true ∧ (t.cuff c).perRun = false ∧ (t.cuff c).level = k.level) ∧
        (s.perFits c = true → (t.cuff c).perRun = true ∧
          (¬paired → (t.cuff c).level = (if ph < x.w then s.activeLevel c else !s.activeLevel c) ∧ (t.cuff c).driven = true) ∧
          (paired → (t.pairSt (c / 2)).st = new)))

/-- R51, R56-R58, R61, R63, R80, R385: arming, pads, the glitch filter and the stamps.
R60, R88: the sleeve's buffer drains its oldest record to the cuff's log queue. -/
def Obligations.CaptureEdgesAndRecords : Prop :=
  (∀ (s : State) (c : Nat) (f : Flight), c < 1024 →
     let k := s.cuff c
     let d := s.drainBuf 0
     let cfg := Reg.CUF_CAPCFG c
     let window := bits f.act.arg 0 32
     (s.headReady 1 c 0x08 = some f → exec (.capArm c) s = .next ((s.setCuff c { k with
       armed := true, armFrom := some f.due, armEdges := f.act.sub % 4, disarmAt := none, lastT := some f.due,
       past := k.pastArms f.due, winEnd := if window = 0 then none else some (s.plus f.due (window * 16)) }).finish f)) ∧
     (s.headReady 1 c 0x09 = some f → exec (.capDisarm c) s = .next ((s.setCuff c { k with
       armed := false, disarmAt := some f.due, winEnd := none, lastT := some f.due }).finish f)) ∧
     (∀ t0, k.winEnd = some t0 → s.reached t0 = true → exec (.capWindowEnd c) s =
       .next (s.setCuff c { k with armed := false, disarmAt := some t0, winEnd := none })) ∧
     ((∀ t0, k.winEnd = some t0 → s.reached t0 = false) → exec (.capWindowEnd c) s = .next s) ∧
     (∀ v, s.pfPage (0x10 + c / 32) = true →
       (bitAt v 9 = false → exec (.cufCapcfgArm c v) s = .next ((d.setFld cfg 0 5 (v % 32)).setCuff c { d.cuff c with
         armed := true, armFrom := some d.tb.now, armEdges := 0, disarmAt := none, winEnd := none,
         past := (d.cuff c).pastArms d.tb.now })) ∧
       (bitAt v 8 = false → exec (.cufCapcfgDisarm c v) s = .next ((d.setFld cfg 0 5 (v % 32)).setCuff c { d.cuff c with
         armed := false, disarmAt := some d.tb.now, winEnd := none })) ∧
       (bitAt v 9 = true → ∃ t : State, exec (.cufCapcfgArm c v) s = .next t ∧ t.bit (Reg.PG_ERR (0x10 + c / 32)) 4 = true ∧
         t.fld (Reg.PG_ERR_INFO (0x10 + c / 32)) 0 8 = 0x08 ∧ t.fld cfg 0 5 = v % 32 ∧
         OnlyRegs [cfg, Reg.PG_ERR (0x10 + c / 32), Reg.PG_ERR_INFO (0x10 + c / 32)] d t)) ∧
     (∀ l : Bool, ∀ crumb < 16,
       (k.pad = l → exec (.padTransition c l crumb) s = .next s) ∧
       (let filter := match k.lent with
          | .fbk p => s.fld (Reg.FBK_CFG p) 8 8
          | _ => s.fld (Reg.CUF_CFG c) 8 8
        let began := (l, s.shifted (s.plus s.tb.now crumb) (-k.skew), s.tick + filter)
        k.pad ≠ l → exec (.padTransition c l crumb) s = .next (s.setCuff c { k with
          pad := l, padTick := s.tick, filt := if s.stampless = true ∨ k.filt ≠ none then none else some began }))) ∧
     ((k.filt = none ∨ s.stampless = true) → exec (.edgeStamp c) s = .next s) ∧
     (∀ l t0 dl, k.filt = some (l, t0, dl) → s.stampless = false → s.tick < dl → exec (.edgeStamp c) s = .next s) ∧
     (∀ l t0 dl, k.filt = some (l, t0, dl) → s.stampless = false → dl ≤ s.tick →
       let code := if k.armFrom.any (fun a => s.atOrAfter t0 a) && (k.armed || k.disarmAt.any fun e => !s.atOrAfter t0 e)
         then some k.armEdges
         else (k.past.find? fun x => s.atOrAfter t0 x.1 && !s.atOrAfter t0 x.2.1).map (·.2.2)
       let edges := match code with
         | some e => if e % 4 ≠ 0 then e % 4 else s.fld cfg 0 2
         | none => 0
       let taken := bitAt edges (if l then 0 else 1) = true
       let near := ∃ p, k.lastStamp = some p ∧ s.minus t0 p < 32
       let seq := if l ≠ s.bit cfg 2 ∨ edges ≠ 3 then (k.seq + 1) % 256 else k.seq
       let low := if l then Reg.CUF_CAPR_L c else Reg.CUF_CAPF_L c
       let high := if l then Reg.CUF_CAPR_H c else Reg.CUF_CAPF_H c
       let tag := if l then Reg.CUF_CAPR_TAG c else Reg.CUF_CAPF_TAG c
       let u := (s.setCuff c { k with filt := none }).lineEdge c t0 l
       let buf := (s.sleeve (c / 32)).buf
       let logs := s.bit cfg 3 = true
       u = { s with cuffs := u.cuffs, ports := u.ports } ∧ u.cuff c = { k with filt := none } ∧
       ((∀ p, k.lent = .fbk p → s.fbkMode p ≠ 2) → u.ports = s.ports) ∧
       (¬taken → exec (.edgeStamp c) s = .next u) ∧
       (taken → near → ∃ t : State, exec (.edgeStamp c) s = .next t ∧ t.cuff c = { k with filt := none, miss := true } ∧
         t.bit (Reg.CUF_ERR c) 2 = true ∧ (∀ e, e ≠ c → t.cuff e = s.cuff e) ∧
         OnlyRegsAndEvents [Reg.CUF_ERR c] { u with cuffs := t.cuffs } t) ∧
       (taken → ¬near → ∃ t : State, exec (.edgeStamp c) s = .next t ∧ t.pair low high = t0 % 2 ^ 64 ∧ t.fld tag 0 8 = seq % 256 ∧
         t.bit tag 10 = !s.tbValid ∧ t.fld tag 16 16 = (s.fld tag 16 16 + 1) % 2 ^ 16 ∧ (t.cuff c).filt = none ∧
         (t.cuff c).seq = seq ∧ (t.cuff c).lastStamp = some t0 ∧ (∀ e, e ≠ c → t.cuff e = s.cuff e) ∧
         (¬logs → t.sleeves = s.sleeves) ∧
         (logs → buf.length < 16 → (t.sleeve (c / 32)).buf =
           buf ++ [{ time := t0, rising := l, seq := seq, cuff := c, tinv := !s.tbValid }]) ∧
         (logs → 16 ≤ buf.length → t.sleeves = s.sleeves ∧ (t.cuff c).miss = true ∧ t.bit (Reg.CUF_ERR c) 3 = true)))) ∧
  (∀ (s : State) (n : Nat), n < 32 →
     ((s.sleeve n).buf = [] → exec (.captureRecordWrite n) s = .next s) ∧
     (∀ (r : CapRec) (rest : List CapRec), r.cuff < 1024 → (s.sleeve n).buf = r :: rest →
       let q := s.regN (Reg.CUF_LOGQ r.cuff)
       let d := s.queue q
       let at_ := (d.base + d.tail % 2 ^ d.log2) * 16 % 2 ^ 26
       let v := r.time % 2 ^ 60 + b2n r.rising * 2 ^ 60 + b2n ((s.cuff r.cuff).miss || d.miss) * 2 ^ 61 + r.seq % 256 * 2 ^ 64 +
         r.cuff * 2 ^ 72 + (if r.tinv then 0x16 else 0) * 2 ^ 88
       let whole := s.descBad q = false ∧ d.ttype = 0
       let full := (d.tail + 1) % 2 ^ d.log2 = d.head
       let lost (t : State) := (t.sleeve n).buf = rest ∧ (t.cuff r.cuff).miss = true ∧ t.mem = s.mem ∧
         (∀ q', q' ≠ q → t.queue q' = s.queue q')
       (whole → d.state = QState.run → ¬full → ∀ p, s.walk d.tenant at_ = .ok p →
         ∃ t : State, exec (.captureRecordWrite n) s = .next t ∧ t.readMem p 16 = v ∧ (t.sleeve n).buf = rest ∧
           (t.cuff r.cuff).miss = false ∧ t.queue q = { d with tail := (d.tail + 1) % 2 ^ d.log2, miss := false } ∧
           (∀ a, ¬(p ≤ a ∧ a < p + 16) → t.byte a = s.byte a) ∧ (∀ q', q' ≠ q → t.queue q' = s.queue q')) ∧
       (whole → d.state = QState.run → ¬full → ∀ code level, s.walk d.tenant at_ = .bad code level →
         ∃ t : State, exec (.captureRecordWrite n) s = .next t ∧ lost t ∧ (t.queue q).state = QState.stopped ∧
           (t.queue q).err = code) ∧
       (whole → d.state = QState.run → full → ∃ t : State, exec (.captureRecordWrite n) s = .next t ∧ lost t ∧
         t.bit (Reg.CUF_ERR r.cuff) 3 = true ∧ t.queue q = { d with miss := true, err := 0x0C }) ∧
       (whole → d.state ≠ QState.run → d.state ≠ QState.free → ∃ t : State, exec (.captureRecordWrite n) s = .next t ∧
         lost t ∧ t.bit (Reg.CUF_ERR r.cuff) 3 = true ∧ t.queue q = { d with miss := true }) ∧
       ((d.state = QState.free ∨ d.ttype ≠ 0) → ∃ t : State, exec (.captureRecordWrite n) s = .next t ∧ lost t ∧
         t.bit (Reg.CUF_ERR r.cuff) 3 = true ∧ t.queue q = d)))

/-- R64, R65, R70, R73: the actions at a pair. -/
def Obligations.PairActions : Prop :=
  ∀ (s : State) (p : Nat) (f : Flight), p < 512 →
    let a := 2 * p
    let b := 2 * p + 1
    let old := (s.pairSt p).st
    let new := f.act.sub % 4
    let act (c : Nat) := s.activeLevel c
    let page := 0x10 + p / 16
    let refused (t : State) (code : Nat) :=
      let t' := (t.popFifo 2 p).usedNow 2 p
      (if f.act.log then t'.execRecord f.act f.org code f.due else t').judgeFifo 2 p
    let up (lo : Nat) := s.bit (Reg.SLV_PAIR_CFG (p / 16) (p % 16)) lo = true ∧
      s.bit (Reg.SLV_GDSTATE (p / 16)) (s.fld (Reg.SLV_PAIR_CFG (p / 16) (p % 16)) (lo + 1) 3) = true
    let fits := ¬up 1 ∧ ¬up 5 ∧ (f.act.sub % 2 = 1 ∨ s.bridged p = false) ∧ s.bit (Reg.SLV_STATUS (p / 16)) 1 = true
    let acted := { s.cuff a with lastT := some f.due }
    (s.headReady 2 p 0x11 = some f → ∃ t : State, exec (.pairSet p) s = .next (t.finish f) ∧ (t.pairSt p).st = new ∧
      (t.pairSt p).swung = (if old = new then (s.pairSt p).swung else some f.due) ∧
      (t.cuff a).lastT = some f.due ∧ t.cuffMode a = (if s.cuffMode a = 1 then 0 else s.cuffMode a) ∧
      (∀ c, c ≠ a → c ≠ b → t.cuff c = s.cuff c) ∧ (∀ q, q ≠ p → t.pairSt q = s.pairSt q) ∧
      (∀ r, r ∉ [Reg.CUF_CFG a, Reg.CUF_EDGES a, Reg.CUF_EDGES b] → t.reg r = s.reg r) ∧
      t = { s with regs := t.regs, shadow := t.shadow, cuffs := t.cuffs, pairs := t.pairs } ∧
      ((s.cuff a).skew = 0 → (s.cuff b).skew = 0 → (s.cuff b).held = false → new < 3 → s.tb.now < s.circle → f.due < s.circle →
        (new ≠ 1 → (t.cuff a).level = !act a) ∧ (new ≠ 2 → (t.cuff b).level = !act b) ∧
        (new = 1 → old ≠ 2 → (t.cuff a).level = act a) ∧ (new = 2 → old ≠ 1 → (t.cuff b).level = act b) ∧
        (new = 1 → old = 2 → s.reached (s.plus f.due (s.dead p)) = false →
          (t.cuff a).edges = [(s.plus f.due (s.dead p), act a)]) ∧
        (new = 2 → old = 1 → s.reached (s.plus f.due (s.dead p)) = false →
          (t.cuff b).edges = [(s.plus f.due (s.dead p), act b)]))) ∧
    (s.headReady 2 p 0x12 = some f →
      (s.tripped p = false → exec (.pairRearm p) s = .next ((s.setCuff a acted).finish f)) ∧
      (s.tripped p = true → ¬fits → exec (.pairRearm p) s = .next (refused ((s.pgErr page 16).setCuff a acted)
        (if s.bridged p then 0x18 else 0x17))) ∧
      (s.tripped p = true → fits → ∃ t : State, exec (.pairRearm p) s = .next (t.finish f) ∧ t.tripped p = false ∧
        t.bridged p = false ∧ (t.pairSt p).st = 0 ∧ t.cuff a = { acted with apTrip := false } ∧
        t.cuff b = { s.cuff b with apTrip := false } ∧ (∀ c, c ≠ a → c ≠ b → t.cuff c = s.cuff c) ∧
        (∀ r, r ∉ [Reg.SLV_TRIP (p / 16), Reg.SLV_BRIDGE (p / 16)] → t.reg r = s.reg r) ∧
        t = { s with regs := t.regs, cuffs := t.cuffs, pairs := t.pairs })) ∧
    (let v (c : Nat) := if c = a then f.act.sub % 4 else f.act.sub / 4 % 4
     let legal (c : Nat) := v c = 2 ∨ v c = b2n (s.bit (Reg.CUF_CFG c) 2)
     let level (t : State) (c : Nat) := (s.cuff c).apron = false → (t.cuff c).level = (s.cuff c).level ∧
       (t.cuff c).driven = (s.cuff c).driven
     (s.pairEn p = false → ∀ c, c = a ∨ c = b → s.headReady 1 c 0x13 = some f → ∃ t : State, exec (.apronSet c) s = .next (t.finish f) ∧
       t.fld (Reg.CUF_CFG c) 4 2 = f.act.sub % 4 ∧ (t.staged (Reg.CUF_CFG c)).toNat / 16 % 4 = f.act.sub % 4 ∧ level t c ∧
       (∀ e, e ≠ c → t.cuff e = s.cuff e) ∧ (∀ r, r ≠ Reg.CUF_CFG c → t.reg r = s.reg r) ∧
       t = { s with regs := t.regs, shadow := t.shadow, cuffs := t.cuffs }) ∧
     (s.pairEn p = true → s.headReady 2 p 0x13 = some f → legal a → legal b → ∃ t : State, exec (.apronSet a) s = .next (t.finish f) ∧
       (∀ c, c = a ∨ c = b → t.fld (Reg.CUF_CFG c) 4 2 = v c ∧ (t.staged (Reg.CUF_CFG c)).toNat / 16 % 4 = v c ∧ level t c ∧
         ((s.cuff c).apron = true → (t.cuff c).driven = decide (v c ≠ 2) ∧ (v c ≠ 2 → (t.cuff c).level = decide (v c = 1)))) ∧
       (∀ r, r ∉ [Reg.CUF_CFG a, Reg.CUF_CFG b, Reg.CUF_EDGES a, Reg.CUF_EDGES b] → t.reg r = s.reg r) ∧
       t = { s with regs := t.regs, shadow := t.shadow, cuffs := t.cuffs }) ∧
     (s.pairEn p = true → s.headReady 2 p 0x13 = some f → (¬legal a ∨ ¬legal b) → ∃ t : State, exec (.apronSet a) s = .next (refused t 0x08) ∧
       ∀ c, c = a ∨ c = b → ¬legal c → t.bit (Reg.CUF_ERR c) 5 = true ∧ t.fld (Reg.CUF_CFG c) 4 2 = s.fld (Reg.CUF_CFG c) 4 2))

/-- R66-R70: guard inputs, blanking and trips. -/
def Obligations.GuardsAndTrips : Prop :=
  ∀ (s : State) (n i g : Nat), n < 32 → i < 16 → g < 8 →
    let p := n * 16 + i
    let cfg := Reg.SLV_PAIR_CFG n i
    let gd := Reg.SLV_GDSTATE n
    let namedA := s.bit cfg 0 = true ∧ s.bit cfg 1 = true ∧ s.fld cfg 2 3 = g
    let namedB := s.bit cfg 0 = true ∧ s.bit cfg 5 = true ∧ s.fld cfg 6 3 = g ∧ ¬namedA
    let blanking := ∃ e, (s.pairSt p).blankEnd = some e ∧ s.tick < e
    let trips (t : State) (causeB : Bool) := t.tripped p = true ∧ t.bit (Reg.SLV_TRIP n) (16 + i) = causeB ∧
      (t.pairSt p).st = 0 ∧ ∀ c, c = 2 * p ∨ c = 2 * p + 1 → (t.cuff c).apTrip = true ∧ ((s.cuff c).apron = false →
        let ap := s.fld (Reg.CUF_CFG c) 4 2
        (ap = 0 → (t.cuff c).driven = true ∧ (t.cuff c).level = false) ∧
        (ap = 1 → (t.cuff c).driven = true ∧ (t.cuff c).level = true) ∧ (ap = 2 → (t.cuff c).driven = false))
    let same (t : State) := t.tripped p = s.tripped p ∧ t.bridged p = s.bridged p ∧ t.pairSt p = s.pairSt p ∧
      ∀ c, c = 2 * p ∨ c = 2 * p + 1 → (t.cuff c).driven = (s.cuff c).driven ∧ (t.cuff c).level = (s.cuff c).level ∧
        (t.cuff c).apron = (s.cuff c).apron
    let quiet := ∀ j < 16, (s.cuff (2 * (n * 16 + j))).fifo = []
    (s.bit gd g = true → exec (.guardAssert n g) s = .next s) ∧
    (s.bit gd g = false → ∃ t : State, exec (.guardAssert n g) s = .next t ∧ t.bit gd g = true ∧
      (∀ m < 32, m ≠ n → t.reg (Reg.SLV_TRIP m) = s.reg (Reg.SLV_TRIP m) ∧ t.reg (Reg.SLV_GDSTATE m) = s.reg (Reg.SLV_GDSTATE m)) ∧
      (¬namedA → ¬namedB → same t) ∧
      (namedA ∨ namedB → blanking → same t ∧ t.bit gd (16 + i) = true) ∧
      (namedA ∨ namedB → ¬blanking → s.tripped p = false → trips t (decide namedB) ∧ t.bridged p = s.bridged p ∧
        t.srcPend (0x3000 + 4 * n) = true) ∧
      (namedA ∨ namedB → ¬blanking → s.tripped p = true → s.bit (Reg.SLV_TRIP n) (16 + i) = decide namedB → same t) ∧
      (namedA ∨ namedB → ¬blanking → s.tripped p = true → s.bit (Reg.SLV_TRIP n) (16 + i) ≠ decide namedB →
        t.tripped p = true ∧ t.bridged p = true ∧ t.srcPend (0x3000 + 4 * n + 1) = true) ∧
      (quiet → t = { s with out := t.out, regs := t.regs, cuffs := t.cuffs, pairs := t.pairs, fns := t.fns, link := t.link,
                                srcs := t.srcs, vecs := t.vecs })) ∧
    exec (.guardRelease n g) s = .next (s.setBit gd g false) ∧
    (((s.pairSt p).blankEnd = none ∨ blanking) → exec (.blankingEnd p) s = .next s) ∧
    (∀ e, (s.pairSt p).blankEnd = some e → e ≤ s.tick →
      let a := s.bit cfg 1 = true ∧ s.bit gd (s.fld cfg 2 3) = true
      let b := s.bit cfg 5 = true ∧ s.bit gd (s.fld cfg 6 3) = true ∧ ¬(s.bit cfg 1 = true ∧ s.fld cfg 2 3 = s.fld cfg 6 3)
      let looks := s.bit gd (16 + i) = true ∧ s.bit cfg 0 = true
      ∃ t : State, exec (.blankingEnd p) s = .next t ∧ t.bit gd (16 + i) = false ∧ (t.pairSt p).blankEnd = none ∧
        (¬(looks ∧ (a ∨ b)) → t.tripped p = s.tripped p ∧ t.cuffs = s.cuffs) ∧
        (looks → s.tripped p = false → a → ¬b → trips t false ∧ t.bridged p = s.bridged p) ∧
        (looks → s.tripped p = false → b → ¬a → trips t true ∧ t.bridged p = s.bridged p) ∧
        (looks → s.tripped p = false → a → b → trips t false ∧ t.bridged p = true ∧
          t.fld (Reg.PG_ERR_INFO (0x10 + n)) 0 8 = 0x18 ∧ t.fld (Reg.PG_ERR_INFO (0x10 + n)) 8 4 = i) ∧
        (quiet → t = { s with out := t.out, regs := t.regs, cuffs := t.cuffs, pairs := t.pairs, fns := t.fns, link := t.link,
                              srcs := t.srcs, vecs := t.vecs }))

/-- R48, R70, R365, R367, R370, R385: a bank's supply, and SLV_REARM.
R62, R63, R351: calibration of the twins, their swap, and a committed skew. -/
def Obligations.BanksRearmingTwinsAndSkew : Prop :=
  (∀ (s : State) (n : Nat), n < 32 →
     let d := s.drainBuf 0
     let page := 0x10 + n
     let status := Reg.SLV_STATUS n
     let sleeve := (List.range 32).map fun i => n * 32 + i
     (∀ mv, s.bit status 1 = true → (if s.bit status 0 then mv < 3135 ∨ 3465 < mv else mv < 1710 ∨ 1890 < mv) →
       ∃ t : State, exec (.bankFault { sleeve := n, millivolts := mv }) s = .next t ∧ (t.sleeve n).lost = true ∧
       (t.sleeve n).absent = decide (mv < 1000) ∧ (mv < 1000 → ∀ c ∈ sleeve, t.drives c = false) ∧ t.bit status 1 = false ∧ t.bit status 0 = s.bit status 0 ∧
       t.bit (Reg.PG_ERR page) 17 = true ∧ (∀ c ∈ sleeve, (t.cuff c).apBank = true ∧ (t.cuff c).fifo = (s.cuff c).fifo ∧
         ((s.cuff c).apron = false → s.fld (Reg.CUF_CFG c) 4 2 = 0 → (t.cuff c).driven = true ∧ (t.cuff c).level = false) ∧
         ((s.cuff c).apron = false → s.fld (Reg.CUF_CFG c) 4 2 = 1 → (t.cuff c).driven = true ∧ (t.cuff c).level = true) ∧
         ((s.cuff c).apron = false → s.fld (Reg.CUF_CFG c) 4 2 = 2 → (t.cuff c).driven = false)) ∧
       t.queues = s.queues ∧ t.tb = s.tb ∧ t.ctxs = s.ctxs ∧ t.mem = s.mem) ∧
     (∀ mv, s.bit status 1 = true → (if s.bit status 0 then 3135 ≤ mv ∧ mv ≤ 3465 else 1710 ≤ mv ∧ mv ≤ 1890) →
       exec (.bankFault { sleeve := n, millivolts := mv }) s = .next s) ∧
     (∀ mv, s.bit status 1 = false →
       let h := if (s.sleeve n).lost = true then 25 else 0
       let level (t : State) := (t.sleeve n).absent = decide (mv < 1000) ∧ t = { s with sleeves := t.sleeves, cuffs := t.cuffs } ∧
         ((s.sleeve n).absent = false ∨ mv < 1000 → t.cuffs = s.cuffs)
       (2400 < mv → 3135 + h ≤ mv → mv + h ≤ 3465 → ∃ t : State, exec (.bankOkReturn n mv) s = .next (t.setFld status 0 2 3) ∧ level t) ∧
       (mv ≤ 2400 → 1710 + h ≤ mv → mv + h ≤ 1890 → ∃ t : State, exec (.bankOkReturn n mv) s = .next (t.setFld status 0 2 2) ∧ level t) ∧
       ((mv < 1710 ∨ (1890 < mv ∧ mv < 3135) ∨ 3465 < mv) → ∃ t : State, exec (.bankOkReturn n mv) s = .next t ∧ level t) ∧
       (∃ t : State, exec (.bankFault { sleeve := n, millivolts := mv }) s = .next t ∧ level t)) ∧
     (s.pfPage page = true →
       let cs := sleeve.filter fun c => (d.cuff c).apBank
       (d.bit status 1 = false → exec (.slvRearmAll n 0) s = .next (d.pgErr page 16)) ∧
       (d.bit status 1 = true → ∃ t : State, exec (.slvRearmAll n 0) s = .next (cs.foldl (fun x c => x.rejudge 1 c) t) ∧
         (∀ c ∈ sleeve, t.cuff c = { d.cuff c with apBank := false }) ∧ (∀ c, c ∉ sleeve → t.cuff c = d.cuff c) ∧
         t = { d with cuffs := t.cuffs }) ∧
       (∀ i < 16, ∀ bridge : Bool,
         let p := n * 16 + i
         let cfg := Reg.SLV_PAIR_CFG n i
         let up (lo : Nat) := d.bit cfg lo = true ∧ d.bit (Reg.SLV_GDSTATE n) (d.fld cfg (lo + 1) 3) = true
         let fits := ¬up 1 ∧ ¬up 5 ∧ (bridge = true ∨ d.bridged p = false) ∧ d.bit status 1 = true
         let write := Instr.slvRearmPairs n (2 ^ i + b2n bridge * 2 ^ 16)
         (d.tripped p = false → exec write s = .next (d.rejudge 2 p)) ∧
         (d.tripped p = true → ¬fits → exec write s = .next ((d.pgErr page 16).rejudge 2 p)) ∧
         (d.tripped p = true → fits → ∃ t : State, exec write s = .next (t.rejudge 2 p) ∧ t.tripped p = false ∧ t.bridged p = false ∧
           (t.pairSt p).st = 0 ∧ (∀ c, c = 2 * p ∨ c = 2 * p + 1 → t.cuff c = { d.cuff c with apTrip := false }) ∧
           (∀ r, r ∉ [Reg.SLV_TRIP n, Reg.SLV_BRIDGE n] → t.reg r = d.reg r) ∧
           t = { d with regs := t.regs, cuffs := t.cuffs, pairs := t.pairs })))) ∧
  (∀ (s : State) (c : Nat), c < 1024 →
     let k := s.cuff c
     let cal := Reg.CUF_CAL c
     (s.fld Reg.REL_STEWARD 2 2 ≠ 0 → exec (.twinCalibration c) s = .next (s.setCuff c { k with calReady := some (k.calReady.getD s.tick) })) ∧
     (∀ t0, k.calReady = some t0 →
       (s.idleCuff c = true → ∃ t : State, exec (.twinSwap c) s = .next t ∧ t.bit cal 0 = !s.bit cal 0 ∧ t.bit cal 1 = false ∧
         t.fld cal 16 8 = (s.fld cal 16 8 + 1) % 256 ∧ t.cuff c = { k with calReady := none, swapTick := s.tick } ∧
         (∀ e, e ≠ c → t.cuff e = s.cuff e) ∧ (∀ r, r ≠ cal → t.reg r = s.reg r) ∧
         t = { s with regs := t.regs, cuffs := t.cuffs }) ∧
       (s.idleCuff c = false → exec (.twinSwap c) s = .next s) ∧
       (t0 + 1500000 ≤ s.tick → exec (.calDeferred c) s = .next (s.setBit cal 1 true)) ∧
       (t0 + 3000000 ≤ s.tick → s.bit cal 1 = true → exec (.calFail c) s = .next (s.setBit (Reg.PG_ERR (0x10 + c / 32)) 18 true))) ∧
     (k.calReady = none → s.fld Reg.REL_STEWARD 2 2 = 0 → max k.swapTick s.boot.calAt + 27000000 ≤ s.tick →
       exec (.calDeferred c) s = .next (s.setBit cal 1 true) ∧
       (s.bit cal 1 = true → exec (.calFail c) s = .next (s.setBit (Reg.PG_ERR (0x10 + c / 32)) 18 true))) ∧
     (k.skewPend = true → s.idleCuff c = true → exec (.skewApply c) s =
       .next (s.setCuff c { k with skew := signed 10 (s.regN (Reg.CUF_SKEW c) % 2 ^ 10), skewPend := false })) ∧
     (k.skewPend = true → s.idleCuff c = false → exec (.skewApply c) s = .next s))


/-! ### Queues, the scheduler and the voters (R78-R105, R120-R125) -/

/-- R85, R86, R88, R105, R257, R317: what becomes of a doorbell, of its first entry, and of a log queue's new HEAD. -/
def Obligations.Doorbells : Prop :=
  ∀ (s : State) (fn q index : Nat), fn < 512 → q < 2 ^ 20 → index < 2 ^ 16 → s.accepts fn = true →
    let b := s.drainBuf fn
    let d := if s.mode = Mode.boot then b else b.setFn fn { b.fn fn with qdbL := q }
    let x := d.queue q
    let size := 2 ^ x.log2
    let idx := Reg.TEN_QDB_IDX fn
    let slot := d.fld (Reg.TEN_FAULT_IDX fn) 0 6
    let refusedAt (u : State) (i : Instr) (code at_ : Nat) := ∃ t : State, exec i s = .next t ∧
      t.regN (Reg.TEN_QDB_STAT fn) = code + q * 2 ^ 8 ∧ t.fld idx 0 16 = at_ ∧ t.fld idx 16 16 = (u.fld idx 16 16 + 1) % 2 ^ 16 ∧
      t.fld (Reg.TEN_FAULT fn (8 * slot)) 16 8 = code ∧ t.fld (Reg.TEN_FAULT fn (8 * slot)) 25 2 = 1 ∧
      t.regN (Reg.TEN_FAULT fn (8 * slot + 1)) = 5 ∧ t.regN (Reg.TEN_FAULT fn (8 * slot + 3)) = q ∧
      t.srcPend (24 * fn + 17) = true ∧
      t = { u with out := t.out, regs := t.regs, fns := t.fns, link := t.link, srcs := t.srcs, vecs := t.vecs }
    let refused := refusedAt d
    let early := s.mode = Mode.boot ∨ s.mode = Mode.provision
    let tail := x.tail % size
    let new := (index % size + size - x.tail % size) % size
    let room := size - 1 - (x.tail + size - x.head % size) % size
    let submits := x.state ≠ QState.free ∧ x.tenant = fn ∧ x.ttype ≠ 0 ∧ d.hitQueue q = false
    let ring := Instr.doorbell fn q index
    let whole := d.descBad q = false
    (early → refused ring 0x08 index ∧ refused (.logQueueConsume fn q index) 0x08 index) ∧
    (¬early → ¬submits → refused ring 0x06 index) ∧
    (¬early → submits → x.state = QState.flushing → exec ring s = .next (d.setQueue q { x with heldDb := some index })) ∧
    (¬early → submits → x.state ≠ QState.flushing → room < new → refused ring 0x0C index) ∧
    (¬early → submits → x.state ≠ QState.flushing → new ≤ room → whole → exec ring s = .next (d.acceptEntries fn q new)) ∧
    (¬early → submits → x.state ≠ QState.flushing → new ≤ room → ¬whole → ∃ t : State, exec ring s = .next t ∧
      (t.queue q).state = QState.stopped ∧ (t.queue q).err = 0x0F ∧ (t.queue q).tail = x.tail ∧ t.bit (Reg.PG_ERR 9) 16 = true ∧
      t.srcPend 0x3413 = true ∧ (∀ q', q' ≠ q → t.queue q' = d.queue q') ∧ t.mem = d.mem) ∧
    (¬early → submits → x.state ≠ QState.flushing → new = 0 → whole → exec ring s = .next d) ∧
    (¬early → submits → x.state ≠ QState.flushing → new = 1 → 1 ≤ room → whole → tail = x.tail → tail < 2 ^ 16 →
      (∀ c u, d.readEntry q tail = .bad c u → ∃ t : State, exec ring s = .next t ∧ (t.queue q).state = QState.stopped ∧
        (t.queue q).err = c ∧ (t.queue q).tail = tail ∧ (∀ q', q' ≠ q → t.queue q' = d.queue q')) ∧
      ∀ a u, d.readEntry q tail = .ok a u →
        let bad := u.entryFits a x.ttype x.target = false ∨ (a.op = 0x0A ∧ x.cls = 1)
        (bad → refusedAt u ring 0x08 tail) ∧
        (¬bad → x.cls = 1 → (u.tbValid = false ∨ u.coarse = true) → refusedAt u ring 0x16 tail) ∧
        (¬bad → x.cls = 1 → u.tbValid = true → u.coarse = false → ∀ k, x.contract = some k →
          (u.atOrAfter a.time (u.plus u.tb.now k.lead) = false → refusedAt u ring 0x04 tail) ∧
          (u.atOrAfter a.time (u.plus u.tb.now k.lead) = true → (u.spaced q a = false ∨ u.bucket k a.time = false) →
            refusedAt u ring 0x05 tail)) ∧
        (¬bad → (x.cls ≠ 1 ∨ (u.tbValid = true ∧ u.coarse = false ∧ ∃ k, x.contract = some k ∧
            u.atOrAfter a.time (u.plus u.tb.now k.lead) = true ∧ u.spaced q a = true ∧ u.bucket k a.time = true)) →
          ∃ t : State, exec ring s = .next t ∧ (t.queue q).tail = (tail + 1) % size ∧ (t.queue q).lastTime = some a.time ∧
            (t.queue q).state = x.state ∧ (t.queue q).head = x.head ∧ (∀ q', q' ≠ q → t.queue q' = d.queue q') ∧
            t.mem = d.mem)) ∧
    (let log := Instr.logQueueConsume fn q index
     let mine := x.state ≠ QState.free ∧ x.tenant = fn ∧ x.ttype = 0
     let ahead := (index % size + size - x.head % size) % size
     let fits := ahead ≤ (x.tail + size - x.head % size) % size ∧ index < size
     (¬early → ¬mine → refused log 0x06 index) ∧ (¬early → mine → ¬fits → refused log 0x0C index) ∧
     (¬early → mine → fits → whole → exec log s = .next (d.setQueue q { x with head := index })))

/-- R80, R84, R87, R90-R92, R94, R101: the queue stage, NOP, and the two levels of the wheel. -/
def Obligations.QueueStageAndWheel : Prop :=
  ∀ (s : State) (q : Nat) (a : Action) (u : State), q < 2 ^ 20 → s.service = true →
    let x := s.queue q
    let size := 2 ^ x.log2
    let i := x.head
    let past := { x with head := (x.head + 1) % size, prevTime := some a.time }
    let org := CopyOrigin.queue q i
    let ran := x.state = QState.run ∧ x.ttype ≠ 0 ∧ (x.tail + size - x.head % size) % size ≠ 0 ∧ s.descBad q = false
    let fits := u.entryFits a x.ttype x.target = true ∧ ¬(a.op = 0x0A ∧ x.cls = 1)
    let lead (n : Nat) := u.atOrAfter a.time (u.plus u.tb.now n) = true
    let stays (i : Instr) := exec i s = .next u
    let plain := x.contract = none
    let early := ¬lead 268435456 ∧ (u.inFlight q).length < min 64 (size - 1)
    let order := u.outOfOrder q a = true
    let room := plain → u.plainRefs < 1048576 - u.reservedRefs
    let goes := fits ∧ a.op ≠ 0x0A ∧ early ∧ ¬(order ∧ u.inFlight q ≠ []) ∧ room
    let late := a.op ≠ 0x00 ∧ (¬lead 768 ∨ order)
    let policy := if a.late % 4 ≠ 0 then a.late % 4 else x.late
    let fl : Flight := { act := a, org := org, ttype := x.ttype, target := x.target, due := a.time, prev := x.prevTime }
    let stage : Stage := if lead (16384 * 16) then .l1
      else if u.atOrAfter (a.time / 256 * 256) (u.plus u.tb.now (u.fld Reg.SCH_CTRL 0 11 * 16 + 1)) = true then .l0 else .ready
    let counted (t : State) := t.regN Reg.SCH_LATE_CNT = min (2 ^ 32 - 1) (u.regN Reg.SCH_LATE_CNT + 1) ∧
      (x.cls = 1 → t.bit Reg.SCH_STATUS 2 = true ∧ t.srcPend 0x3410 = true)
    (ran → ∀ c, s.readEntry q i = .bad c u → ∃ t : State, exec (.queueStageMove q) s = .next t ∧
      (t.queue q).state = QState.stopped ∧ (t.queue q).err = c ∧ (t.queue q).head = i ∧ t.refs = s.refs) ∧
    (x.state = QState.run → x.ttype ≠ 0 → (x.tail + size - x.head % size) % size ≠ 0 → s.descBad q = true →
      ∃ t : State, exec (.queueStageMove q) s = .next t ∧ (t.queue q).state = QState.stopped ∧
        (t.queue q).err = 0x0F ∧ (t.queue q).head = i ∧ t.bit (Reg.PG_ERR 9) 16 = true ∧ t.refs = s.refs) ∧
    (ran → s.readEntry q i = .ok a u →
      (¬fits → exec (.queueStageMove q) s = .next (if a.log then (u.setQueue q past).execRecord a org 0x08 u.tb.now
        else u.setQueue q past)) ∧
      (fits → a.op = 0x0A → stays (.queueStageMove q)) ∧
      (fits → a.op ≠ 0x0A → ¬early → stays (.queueStageMove q)) ∧
      (fits → a.op ≠ 0x0A → early → order → u.inFlight q ≠ [] → stays (.queueStageMove q)) ∧
      (fits → a.op ≠ 0x0A → early → ¬(order ∧ u.inFlight q ≠ []) → ¬room →
        ∃ t : State, exec (.queueStageMove q) s = .next t ∧ t.bit Reg.SCH_STATUS 0 = true ∧ t.queues = u.queues ∧ t.refs = u.refs) ∧
      (goes → ¬late → ∃ t : State, exec (.queueStageMove q) s = .next t ∧ t.queue q = past ∧ t.refs = u.refs ++ [{ fl := fl, stage := stage }] ∧
        (∀ q', q' ≠ q → t.queue q' = u.queue q') ∧ (∀ r, r ≠ Reg.SCH_STATUS → t.reg r = u.reg r) ∧
        t = { u with regs := t.regs, queues := t.queues, refs := t.refs }) ∧
      (goes → late → policy ≠ 2 → policy ≠ 3 → ∃ t : State, exec (.queueStageMove q) s = .next t ∧ counted t ∧ t.queue q = past ∧
        t.refs = u.refs ++ [{ fl := { fl with late := true }, stage := .ready }]) ∧
      (goes → late → policy = 2 → ∃ t : State, exec (.queueStageMove q) s = .next (t.execRecord a org 0x02 u.tb.now) ∧
        counted t ∧ t.queue q = past ∧ t.refs = u.refs) ∧
      (goes → late → policy = 3 → ∃ t : State, exec (.queueStageMove q) s =
          .next (((t.execRecord a org 0x03 u.tb.now).stopQueue q 0x03).faultRecord x.tenant 0x03 0 q i) ∧
        counted t ∧ t.queues = u.queues ∧ t.refs = u.refs)) ∧
    (∀ r, s.refs.find? (fun r => r.fl.ofQueue q && decide (r.fl.act.op = 0x00)) = some r →
      (s.reached r.fl.act.time = true → exec (.nop q) s = .next (({ s with refs := s.refs.erase r }).logExec r.fl.act r.fl.org 0x00
        (if s.minus s.tb.now r.fl.act.time ≤ 16 then r.fl.act.time else s.tb.now))) ∧
      (s.reached r.fl.act.time = false → exec (.nop q) s = .next s)) ∧
    ((∀ r ∈ s.refs, r.fl.ofQueue q = true → r.fl.act.op ≠ 0x00) → exec (.nop q) s = .next s) ∧
    (∀ slot < 1024, ∃ t : State, exec (.wheelL1Move slot) s = .next t ∧ t = { s with refs := t.refs } ∧
      t.refs.map (·.fl) = s.refs.map (·.fl) ∧
      ∀ (n : Nat) (r : WheelRef), s.refs[n]? = some r →
        let opens := r.stage = .l1 ∧ r.fl.act.time / 2 ^ 18 % 1024 = slot ∧
          s.atOrAfter (r.fl.act.time / 2 ^ 18 * 2 ^ 18) (s.plus s.tb.now (2 ^ 18 + 1)) = false
        (opens → t.refs[n]? = some { r with stage := .l0 }) ∧ (¬opens → t.refs[n]? = some r)) ∧
    (∀ slot < 1024,
      let due (r : WheelRef) := decide (r.stage = .l0) && decide (r.fl.act.time / 256 % 1024 = slot) &&
        !s.atOrAfter (r.fl.act.time / 256 * 256) (s.plus s.tb.now (s.fld Reg.SCH_CTRL 0 11 * 16 + 1))
      (∃ (t : State) (ready : List WheelRef), exec (.slotTransfer slot none) s = .next t ∧ t = { s with refs := t.refs } ∧
        t.refs = (s.refs.filter fun r => !due r) ++ ready ∧
        ready.Perm ((s.refs.filter due).map fun (r : WheelRef) => { r with stage := .ready })) ∧
      (∀ x y, s.refs.filter due = [x, y] → x.fl.act.time ≠ y.fl.act.time → s.atOrAfter y.fl.act.time x.fl.act.time = false →
        ∃ t : State, exec (.slotTransfer slot none) s = .next t ∧
          t.refs = (s.refs.filter fun r => !due r) ++ [{ y with stage := .ready }, { x with stage := .ready }]) ∧
      (∀ r, s.refs.filter due = [r] → s.isGuarded r.fl = false → ∃ t : State, exec (.slotTransfer slot (some 0)) s = .next t ∧
        t.refs = (s.refs.filter fun r => !due r) ∧ t.bit (Reg.PG_ERR 8) 16 = true) ∧
      (∀ r, s.refs.filter due = [r] → s.isGuarded r.fl = true → ∃ t : State, exec (.slotTransfer slot (some 0)) s = .next t ∧
        t.refs = (s.refs.filter fun r => !due r) ++ [{ r with stage := .ready }] ∧ t.bit (Reg.PG_ERR 8) 16 = true))

/-- R49, R80, R92, R93, R103, R120, R121, R273: delivery into a target's FIFO, MARK and IRQ. -/
def Obligations.DeliveryMarkAndIrq : Prop :=
  ∀ (s : State) (ttype target : Nat) (f : Flight), 1 ≤ ttype → ttype ≤ 5 → okTarget ttype target = true →
    let fifo (u : State) := u.targetFifo ttype target
    let arrived (f : Flight) : Flight := { f with arrived := s.tb.now, head := none, judged := false }
    let disp (t : State) := t.pair Reg.SCH_DISP_L Reg.SCH_DISP_H =
      (s.pair Reg.SCH_DISP_L Reg.SCH_DISP_H + 1) % 2 ^ 64
    let sent := if s.lanes.onTick = s.tick then s.lanes.sent else 0
    let takes := s.service = true ∧ sent < 4
    let byCopies (r : WheelRef) := s.isGuarded r.fl = true ∧ ttype ≠ 5
    (s.service = false → ∀ parity : Bool, exec (.fifoDelivery ttype target parity) s = .next s) ∧
    (s.service = true → 4 ≤ sent → ∀ r, s.chainHead ttype target = some r → ¬byCopies r → ∀ parity : Bool,
      exec (.fifoDelivery ttype target parity) s = .next s) ∧
    (s.service = true → ∀ r, s.chainHead ttype target = some r → byCopies r → ∀ parity : Bool,
      exec (.fifoDelivery ttype target parity) s = .next ((s.passKept ttype target parity).judgeFifo ttype target)) ∧
    (takes → ∀ r, s.chainHead ttype target = some r → ∀ parity : Bool,
      (s.isGuarded r.fl = false → (fifo s).length < 8 → ∃ t : State, exec (.fifoDelivery ttype target parity) s =
          .next (t.judgeFifo ttype target) ∧ t.refs = s.refs.erase r ∧ disp t ∧
        fifo t = fifo s ++ [arrived { r.fl with bad := parity && decide (ttype ≤ 2) }] ∧
        (∀ c, ttype ≤ 2 → c ≠ serveCuff ttype target → t.cuff c = s.cuff c) ∧
        (∀ k, ttype ≤ 2 ∨ k ≠ fifoKey ttype target → t.fifo k = s.fifo k) ∧ (3 ≤ ttype → t.cuffs = s.cuffs) ∧
        (∀ k, k ≠ Reg.SCH_DISP_L → k ≠ Reg.SCH_DISP_H → t.reg k = s.reg k) ∧
        t = { s with refs := t.refs, cuffs := t.cuffs, fifos := t.fifos, regs := t.regs,
                     lanes := { s.lanes with onTick := s.tick, sent := sent + 1 } }) ∧
      (s.isGuarded r.fl = false → 8 ≤ (fifo s).length →
        exec (.fifoDelivery ttype target parity) s = .next (s.judgeFifo ttype target)) ∧
      (s.isGuarded r.fl = true → ttype = 5 → ∀ a b c, s.triple r.fl.target = [a, b, c] →
        (∀ x ∈ [a, b, c], (s.fifo (fifoKey 5 x)).length < 8) → exec (.fifoDelivery ttype target parity) s =
          .next (([a, b, c].foldl (fun (u : State) x => (u.pushFifo 5 x { r.fl with target := x }).judgeFifo 5 x)
            { s with refs := s.refs.erase r }).countDisp)) ∧
      (s.isGuarded r.fl = true → ttype = 5 → (∃ x ∈ s.triple r.fl.target, 8 ≤ (s.fifo (fifoKey 5 x)).length) →
        exec (.fifoDelivery ttype target parity) s = .next s)) ∧
    (s.service = true → (∀ r, s.chainHead ttype target = some r → byCopies r) → ∀ parity : Bool,
      (∀ k, (s.voter (fifoKey ttype target)).kept.find? (!·.passed) = some k →
        let queued := ∃ q i, k.fl.org = .queue q i
        let passes := (fifo s).length < 8 ∧ k.since + 2 ≤ s.tick ∧ (queued → sent < 4)
        (passes → ∃ t : State, exec (.fifoDelivery ttype target parity) s =
          .next (t.judgeFifo ttype target) ∧ fifo t = fifo s ++ [arrived { k.fl with bad := parity }] ∧
          (queued → disp t ∧ t.lanes.sent = sent + 1) ∧ (¬queued → t.regs = s.regs ∧ t.lanes = s.lanes) ∧
          (∀ r ∈ t.refs, r.fl.same k.fl = false)) ∧
        (¬passes → exec (.fifoDelivery ttype target parity) s = .next (s.judgeFifo ttype target))) ∧
      ((∀ k ∈ (s.voter (fifoKey ttype target)).kept, k.passed = true) →
        exec (.fifoDelivery ttype target parity) s = .next (s.judgeFifo ttype target))) ∧
    (s.headReady ttype target 0x0F = some f → exec (.mark ttype target) s = .next
      ((((s.popFifo ttype target).taken ttype target).execRecord f.act f.org
        (if f.late then 0x01 else if f.act.log ∧ s.tbValid = false then 0x16 else 0x00) f.due).judgeFifo ttype target)) ∧
    (s.headReady ttype target 0x10 = some f → ∃ t : State, exec (.irq ttype target) s = .next (t.finish f) ∧
      t.srcPend (24 * s.tenantOf f.org + f.act.arg % 16) = true ∧
      t = { s with out := t.out, regs := t.regs, fns := t.fns, link := t.link, srcs := t.srcs, vecs := t.vecs })

/-- R97, R98: seams. -/
def Obligations.Seams : Prop :=
  ∀ (s : State) (q id : Nat) (a : Action) (u : State), q < 2 ^ 20 → id < 2 ^ 16 →
    let x := s.queue q
    let size := 2 ^ x.log2
    let n := bits a.arg 16 11
    let limit := bits a.arg 32 16
    let m := u.seamOf (bits a.arg 0 16)
    let full := Reg.SCH_STATUS
    (s.service = true → x.state = QState.run → x.ttype ≠ 0 → (x.tail + size - x.head % size) % size ≠ 0 → s.inFlight q = [] →
      s.descBad q = false → s.readEntry q x.head = .ok a u →
      (a.op ≠ 0x0A → exec (.seam q) s = .next u) ∧
      (a.op = 0x0A → (u.entryFits a x.ttype x.target = false ∨ x.cls = 1) → exec (.seam q) s = .next u) ∧
      (a.op = 0x0A → u.entryFits a x.ttype x.target = true → x.cls ≠ 1 →
        (m.members = [] → u.seams.length < 4096 → ∃ t : State, exec (.seam q) s = .next t ∧
          t.seamOf (bits a.arg 0 16) = { count := n, members := [q], times := [(q, a.time)], latest := a.time,
                                         expires := if limit = 0 then none else some (u.tick + limit * 16384) } ∧
          (t.queue q).state = QState.seamWait ∧ (t.queue q).head = x.head ∧ (∀ q', q' ≠ q → t.queue q' = u.queue q') ∧
          t = { u with regs := t.regs, queues := t.queues, seams := t.seams }) ∧
        (m.members = [] → 4096 ≤ u.seams.length → ∃ t : State, exec (.seam q) s = .next t ∧ t.bit full 1 = true ∧
          t.queues = u.queues ∧ t.seams = u.seams) ∧
        (m.members ≠ [] → m.count ≠ n → ∃ t : State, exec (.seam q) s = .next t ∧ (t.queue q).state = QState.stopped ∧
          (t.queue q).err = 0x08 ∧ (t.queue q).head = x.head ∧ t.seams = u.seams) ∧
        (m.members ≠ [] → m.count = n → ∃ t : State, exec (.seam q) s = .next t ∧ (t.queue q).state = QState.seamWait ∧
          t.seamOf (bits a.arg 0 16) = { m with members := m.members ++ [q], times := m.times ++ [(q, a.time)],
                                                   latest := u.later m.latest a.time } ∧
          t = { u with queues := t.queues, seams := t.seams }))) ∧
    (let w := s.seamOf id
     (s.service = true → w.members ≠ [] → w.count ≤ w.members.length → s.reached w.latest = true → exec (.seamRelease id) s =
       .next (w.members.foldl (fun y p => y.leaveSeam p) ((s.setSeam id {}).setBit full 1 false))) ∧
     (s.service = true → w.members = [q] → w.count ≤ 1 → s.reached w.latest = true → x.state = QState.seamWait →
       ∀ v, (((s.setSeam id {}).setBit full 1 false).setQueue q { x with state := QState.run }).readEntry q x.head = .ok a v →
       exec (.seamRelease id) s = .next ((v.setQueue q { v.queue q with
         head := ((v.queue q).head + 1) % 2 ^ (v.queue q).log2, prevTime := some a.time }).logExec a (.queue q x.head) 0x00 v.tb.now)) ∧
     (w.count > w.members.length ∨ s.reached w.latest = false → exec (.seamRelease id) s = .next s) ∧
     (s.frozen = true → exec (.seamTimeout id) s = .next s) ∧
     (∀ t0, w.expires = some t0 → t0 ≤ s.tick → s.frozen = false → ∃ t : State, exec (.seamTimeout id) s = .next t ∧ t.seamOf id = {} ∧
       (∀ p ∈ w.members, t.queue p = { s.queue p with state := QState.stopped, err := 0x1C }) ∧
       (∀ p, p ∉ w.members → t.queue p = s.queue p) ∧ (∀ r, r ≠ full → r ≠ Reg.QM_LASTERR → t.reg r = s.reg r) ∧
       t = { s with regs := t.regs, queues := t.queues, seams := t.seams }))

/-- R86, R99, R100, R104, R105, R385: stop, resume, flush, and the windows on a descriptor. -/
def Obligations.QueueControl : Prop :=
  ∀ (s : State) (v fn : Nat), v < 2 ^ 32 → fn < 512 →
    let d := s.drainBuf 0
    let q := d.fld Reg.QM_QSEL 0 20
    let x := d.queue q
    let code (t : State) := t.fld Reg.QM_QSTAT 0 8
    let only (i : Nat) := ∀ j < 4, j ≠ i → bitAt v j = false
    let shows (t : State) (q : Nat) := ∀ i < 4, t.regN (Reg.QM_QDESC i) = bits (d.queue q).desc (32 * i) 32
    let held := x.cls = 2 ∧ (x.ttype = 1 ∨ x.ttype = 2) ∧
      (d.cuff (if x.ttype = 2 then 2 * x.target else x.target)).apVote = true
    let qregs := [Reg.QM_QDESC 0, Reg.QM_QDESC 1, Reg.QM_QDESC 2, Reg.QM_QDESC 3]
    (s.pfPage 9 = true →
      (x.state = QState.free → ∀ c ∈ [(0, Instr.qmQctrlStop v), (1, .qmQctrlResume v), (2, .qmQctrlFlush v)], only c.1 →
        ∃ t : State, exec c.2 s = .next t ∧ code t = 0x08 ∧ OnlyRegs [Reg.QM_QSTAT] d t) ∧
      (only 0 → x.state ≠ QState.free → ∃ t : State, exec (.qmQctrlStop v) s = .next t ∧ code t = 0 ∧
        t.queue q = (if x.state = QState.flushing then { x with resumeSt := QState.stopped } else { x with state := QState.stopped }) ∧
        (∀ i, q ∉ (t.seamOf i).members) ∧ (∀ q', q' ≠ q → t.queue q' = d.queue q') ∧
        (∀ r, r ≠ Reg.QM_QSTAT → r ≠ Reg.SCH_STATUS → t.reg r = d.reg r) ∧
        t = { d with regs := t.regs, queues := t.queues, seams := t.seams }) ∧
      (only 1 → x.state ≠ QState.free → ∃ t : State, code t = 0 ∧ t.queue q = (if x.state = QState.flushing
            then { x with resumeSt := QState.run, err := 0 } else { x with state := QState.run, err := 0 }) ∧
        (∀ i, q ∉ (t.seamOf i).members) ∧ (∀ q', q' ≠ q → t.queue q' = d.queue q') ∧
        (∀ r, r ≠ Reg.QM_QSTAT → r ≠ Reg.SCH_STATUS → t.reg r = d.reg r) ∧
        t = { d with regs := t.regs, queues := t.queues, seams := t.seams, cuffs := t.cuffs, pairs := t.pairs } ∧
        (¬held → exec (.qmQctrlResume v) s = .next t ∧ t.cuffs = d.cuffs ∧ t.pairs = d.pairs) ∧
        (held → x.ttype = 1 → exec (.qmQctrlResume v) s = .next (t.rejudge 1 x.target) ∧ (t.cuff x.target).apVote = false ∧
          t.pairs = d.pairs) ∧
        (held → x.ttype = 2 → exec (.qmQctrlResume v) s = .next (t.rejudge 2 x.target) ∧ (t.pairSt x.target).st = 0 ∧
          (t.cuff (2 * x.target)).apVote = false ∧ (t.cuff (2 * x.target + 1)).apVote = false)) ∧
      (only 2 → x.state ≠ QState.free → ∃ w t : State, exec (.qmQctrlFlush v) s = .next t ∧ (t.queue q).state = QState.flushing ∧
        t.refs = w.judgeAll.refs ∧ (∀ r ∈ w.refs, r.fl.ofQueue q = true → r.fl.act.sealed = true ∨ d.sticksAt r.fl = true) ∧
        (∀ r ∈ d.refs, r.fl.ofQueue q = false ∨ r.fl.act.sealed = true → r ∈ w.refs) ∧
        (∀ c, ∀ f ∈ (w.cuff c).fifo, f ∈ (d.cuff c).fifo ∧ (f.ofQueue q = true → f.act.sealed = true ∨ d.sticksAt f = true)) ∧
        (∀ a u p, (∀ c, (d.cuff c).fifo = []) → (∀ k, d.fifo k = []) → x.filled = 1 → d.readEntry q x.head = .ok a u → d.walk x.tenant (x.entryAddr x.head) = .ok p →
          (a.sealed = true → t.mem = d.mem) ∧
          (a.sealed = false → t.readMem p 16 = toEntry { a with op := 0, sub := 0, arg := 0, log := false } ∧
            ∀ b, b < p ∨ p + 16 ≤ b → t.byte b = d.byte b))) ∧
      (∀ i j, i < 3 → j < 3 → i ≠ j → bitAt v j = true → ∀ c, [Instr.qmQctrlStop v, .qmQctrlResume v, .qmQctrlFlush v][i]? = some c →
        ∃ t : State, exec c s = .next t ∧ t.bit (Reg.PG_ERR 9) 4 = true ∧ code t = 0x08 ∧
          OnlyRegs [Reg.PG_ERR 9, Reg.PG_ERR_INFO 9, Reg.QM_QSTAT] d t) ∧
      (only 3 → ∃ t : State, exec (.qmQctrlRefresh v) s = .next t ∧ shows t q ∧
        code t = (if x.state = QState.free then 0x08 else 0x00) ∧ OnlyRegs (Reg.QM_QSTAT :: qregs) d t) ∧
      (∃ t : State, exec (.qmQsel v) s = .next t ∧ t.regN Reg.QM_QSEL = v % 2 ^ 20 ∧ shows t (v % 2 ^ 20) ∧
        OnlyRegs (Reg.QM_QSEL :: qregs) d t)) ∧
    (∀ p < 2 ^ 20, (s.queue p).state = QState.flushing →
      let y := s.queue p
      (y.heldDb = none → exec (.flushEnd p) s = .next (s.setQueue p { y with state := y.resumeSt })) ∧
      (∀ i, y.heldDb = some i → exec (.flushEnd p) s =
        .next ((s.setQueue p { y with state := y.resumeSt, heldDb := none }).doorbell y.tenant p i))) ∧
    (s.tenPage fn = true →
      let d := s.drainBuf fn
      let own := (d.queue (v % 2 ^ 20)).state ≠ QState.free ∧ (d.queue (v % 2 ^ 20)).tenant = fn
      ∃ t : State, exec (.tenQsel fn v) s = .next t ∧ t.regN (Reg.TEN_QSEL fn) = v % 2 ^ 20 ∧
        (∀ i < 4, t.regN (Reg.TEN_QINFO fn i) = if own then bits (d.queue (v % 2 ^ 20)).desc (32 * i) 32 else 0) ∧
        OnlyRegs [Reg.TEN_QSEL fn, Reg.TEN_QINFO fn 0, Reg.TEN_QINFO fn 1, Reg.TEN_QINFO fn 2, Reg.TEN_QINFO fn 3] d t)

/-- R120-R123: the voter's copies, its double fault, and the scheduler lanes. -/
def Obligations.Voting : Prop :=
  ∀ (s : State) (ttype target : Nat), 1 ≤ ttype → ttype ≤ 4 → okTarget ttype target = true →
    let key := fifoKey ttype target
    let v := s.voter key
    let legs := if ttype = 2 then [2 * target, 2 * target + 1] else if ttype = 1 then [target] else []
    let stamped (f : Flight) : Flight := { f with arrived := s.tb.now }
    let judged (f : Flight) (t : State) := match f.org, s.guardedQueue ttype target with
      | .near _ _, none => t
      | _, _ => t.judgeAll
    (s.service = true → ∀ slot < 3, ∀ copy q i f, s.copyOf ttype target slot copy (.queue q i) = some f →
      v.hasCopy slot f = false → v.kept.find? (·.fl.same f) = none →
      let mine := v.slots.getD slot []
      let agrees (j : Nat) := j ≠ slot ∧ ∃ g ∈ v.slots.getD j [], g.same f = true ∧ g.act = f.act
      (8 ≤ mine.length → exec (.voteCopyArrival ttype target slot copy (.queue q i)) s = .next s) ∧
      (mine.length < 8 → (∀ j < 3, ¬agrees j) → exec (.voteCopyArrival ttype target slot copy (.queue q i)) s =
        .next (s.setVoter key { v with slots := v.slots.set slot (mine ++ [stamped f]) })) ∧
      (mine.length < 8 → ∀ j < 3, agrees j → (∀ x < 3, x ≠ slot → x ≠ j → ∀ g ∈ v.slots.getD x [], g.same f = false) →
        ∃ t : State, exec (.voteCopyArrival ttype target slot copy (.queue q i)) s =
            .next t ∧
          (t.voter key).kept = v.kept ++ [{ fl := stamped f, seen := [j, slot], since := s.tick }] ∧
          (∀ sl ∈ (t.voter key).slots, ∀ g ∈ sl, g.same f = false) ∧ t = { s with voters := t.voters })) ∧
    (s.service = true → ∀ slot < 3, ∀ copy c p f, s.copyOf ttype target slot copy (.near c p) = some f → v.over f = true →
      v.hasCopy slot f = false →
      exec (.voteCopyArrival ttype target slot copy (.near c p)) s = .next (s.dropSent (.near c p) ttype target)) ∧
    (s.service = true → ∀ slot < 3, ∀ copy q i f k, s.copyOf ttype target slot copy (.queue q i) = some f →
      v.hasCopy slot f = false → v.kept.find? (·.fl.same f) = some k → f.act ≠ k.fl.act →
      (v.slots.getD slot []).length < 8 →
      let y := s.votingTray f slot
      y < 9 → ∃ t : State, exec (.voteCopyArrival ttype target slot copy (.queue q i)) s = .next t ∧
        t.fld (Reg.ADM_VOTE y) 16 16 = min 65535 (s.fld (Reg.ADM_VOTE y) 16 16 + 1) ∧ t.cuffs = s.cuffs ∧ t.queues = s.queues ∧
        (∀ a b, s.tick < a + 1500000000 → s.tick < b + 1500000000 → Tbl.get [] s.votes y = [a, b] →
          t.fld (Reg.ADM_VOTE y) 0 2 = 3 ∧ t.bit Reg.ADM_GUARD (4 + y) = true)) ∧
    (s.service = true → ∀ f, s.dueCopy ttype target = some f → ∃ t : State, exec (.doubleFault ttype target) s = .next (judged f t) ∧
      (t.voter key).slots = [[], [], []] ∧ (∀ x ∈ (t.voter key).kept, x.passed = true ∧ ∃ c p, x.fl.org = .near c p) ∧
      (∀ c ∈ legs, (t.cuff c).apVote = true) ∧
      (∀ q i, f.org = .queue q i → (t.queue q).state = QState.stopped ∧ (t.queue q).err = 0x1E ∧
        (∀ r ∈ t.refs, r.fl.ofQueue q = false)) ∧ t.ctxs = s.ctxs ∧ t.tb = s.tb) ∧
    (s.service = true → s.dueCopy ttype target = none → exec (.doubleFault ttype target) s = .next s) ∧
    (s.service = true → ∀ r, s.chainHead ttype target = some r → s.isGuarded r.fl = true → s.lanes.spare = true →
      ∃ t : State, exec (.laneSwitch ttype target) s = .next t ∧ t.lanes = { s.lanes with spare := false, testing := true } ∧
        t.fld Reg.ADM_GUARD 23 2 = 2 ∧ t.srcPend 0x341A = true ∧ t.refs = s.refs ∧ t.queues = s.queues ∧ t.cuffs = s.cuffs) ∧
    (s.service = true → ∀ r q, s.chainHead ttype target = some r → s.isGuarded r.fl = true → s.lanes.spare = false →
      s.slotQueues r.fl.act.time = [q] → (s.queue q).ttype = ttype → (s.queue q).target = target →
      ∃ t : State, exec (.laneSwitch ttype target) s = .next ((t.judgeAll).relRecord 3 0x1F 6 0x10 0 q) ∧ (t.queue q).state = QState.stopped ∧ (t.queue q).err = 0x1F ∧
        (∀ c ∈ legs, (t.cuff c).apVote = true)) ∧
    (s.lanes.testing = true →
      exec (.laneSelfTest true) s = .next ({ s with lanes := { s.lanes with spare := true, testing := false } }.setFld Reg.ADM_GUARD 23 2 3) ∧
      ∃ t : State, exec (.laneSelfTest false) s = .next t ∧ t.lanes = { s.lanes with spare := false, testing := false } ∧ t.fld Reg.ADM_GUARD 23 2 = 2)

/-- R124, R163, R178, R179, R332: contexts move to the spare, and the spare takes a tray's place. -/
def Obligations.TraysTakeEachOthersPlace : Prop :=
  ∀ (s : State) (c t0 : Nat), c < 2304 → t0 < 9 →
    let x := s.fld Reg.ADM_GUARD 0 4
    let k := s.ctx c
    let from_ := s.movesRun = true ∧ (s.tray x).rebuildFor = some (s.physOf (c / 256)) ∧ (s.tray x).moved.contains c = false
    okCtx c = true → x < 9 →
    (from_ → s.copies c = false → k.st ≠ .free → k.st ≠ .moving → k.st.dead = true → ∃ t : State, exec (.contextMove c) s = .next t ∧
      c ∈ (t.tray x).moved ∧ t.ctxs = s.ctxs ∧ t.mem = s.mem ∧ t.cuffs = s.cuffs) ∧
    (from_ → s.copies c = false → k.st ≠ .free → k.st ≠ .moving → k.st.dead = false → k.atPoint = true → s.rebuilding = true ∨ s.moveFar c = true →
      ∃ t : State, exec (.contextMove c) s = .next t ∧ t.ctx c = { k with st := .moving, retSt := k.st } ∧
        (∀ e, e ≠ c → t.ctx e = s.ctx e) ∧ t.fifos = s.fifos ∧ t.mem = s.mem ∧ t.cuffs = s.cuffs) ∧
    (from_ → s.copies c = false → k.st = .moving → k.retSt ≠ .moving → ∃ t : State, exec (.contextMove c) s = .next t ∧
      c ∈ (t.tray x).moved ∧ (∀ e, e ≠ c → t.ctx e = s.ctx e) ∧ t.fifos = s.fifos ∧
      (k.topPend = none → k.freed = none → t.ctx c = { k with st := k.retSt }) ∧
      (∀ y z, k.topPend = none → k.freed = some (y, z) → (t.ctx c).st = (if k.inHandler then .trap else .run) ∧
        (t.ctx c).evtTime = y ∧ (t.ctx c).freed = none) ∧
      (∀ y, k.topPend = some y → k.inHandler = false → (t.ctx c).st = .trap ∧ (t.ctx c).tcause = y ∧ (t.ctx c).pc = 2 * y)) ∧
    (from_ → s.copies c = true → k.st ≠ .free → (s.ctx (s.newReplica c)).st = .free → ∀ a b, s.survivors c = [a, b] →
      (s.ctx a).copyable = true → (s.ctx a).agrees (s.ctx b) = true →
      ∃ t : State, exec (.contextMove c) s = .next t ∧ t.fifo (fifoKey 5 (s.newReplica c)) = s.fifo (fifoKey 5 a) ∧
        t.ctx (s.newReplica c) = { s.ctx a with st := .moving, retSt := (s.ctx a).st, sent := [] } ∧
        (∀ e, e ≠ s.newReplica c → t.ctx e = s.ctx e)) ∧
    (from_ → s.copies c = false → k.st = .run ∨ k.st = .trap →
      max (s.tray x).since k.lastPoint + 1500000000 ≤ s.tick → ∃ t : State, exec (.forcedMove c) s = .next t ∧
        t.ctx c = { k with st := .moving, retSt := k.st } ∧ (∀ e, e ≠ c → t.ctx e = s.ctx e) ∧
        (∀ u, s.upd = some u → t.upd = some { u with forced := true })) ∧
    (s.movesRun = true ∨ (s.mode = Mode.doze ∧ s.rebuilding = true) → (s.tray x).rebuildFor = some t0 → t0 ≠ x → (s.liveIds (s.servesOf t0)).all s.hasMoved = true →
      (s.rebuilding = false → s.upd = none → ∃ t : State, exec (.trayTakeover t0) s = .next t ∧ t.fld Reg.ADM_GUARD 0 4 = t0 ∧
        (t.tray x).serves = some (s.servesOf t0) ∧ (t.tray t0).serves = some (s.servesOf x) ∧ (t.tray x).rebuildFor = none) ∧
      (s.rebuilding = true → ∃ t : State, exec (.trayTakeover t0) s = .next t ∧ t.fld Reg.ADM_GUARD 0 4 = 0xF ∧
        t.bit Reg.ADM_GUARD 22 = false ∧ t.bit Reg.ADM_GUARD (13 + t0) = true ∧ t.bit Reg.PWR_STATUS 6 = true ∧
        (t.tray x).serves = some (s.servesOf t0) ∧ (s.mode = Mode.run → t.mode = Mode.degraded) ∧
        ∀ q k, (s.queue q).contract = some k → ∃ k', (t.queue q).contract = some k' ∧
          k'.trays = k.trays.map fun y => if y = t0 then x else y))
/-! ### Microwords (R136-R162) -/

/-- R141: the words that move a register, add, subtract and compare. Each writes the register and the flags the table names,
completes, and leaves every other register, flag and context, and all memory.
R141, R142: the logic words, the shifts and MUL. Where a shift by 0 moves no bit out, its C is free (log entry 3). -/
def Obligations.ArithmeticWords : Prop :=
  (∀ (s : State) (c : Nat) (x : Insn), s.issues c x →
     let k := s.ctx c
     let a := k.reg x.a
     let b := k.reg x.b
     let i := BitVec.ofNat 20 x.k
     (x.op = 0x00 → exec (.nopMicroword c) s = .next (s.completed c k x.nx)) ∧
     (x.op = 0x01 → exec (.mov c) s = .next (s.completed c (k.withReg x.a b) x.nx)) ∧
     (x.op = 0x02 → exec (.ldi c) s = .next (s.completed c (k.withReg x.a i) x.nx)) ∧
     (x.op = 0x03 → exec (.ldhi c) s =
       .next (s.completed c (k.withReg x.a (BitVec.ofNat 8 x.k ++ a.extractLsb' 0 12)) x.nx)) ∧
     (x.op = 0x04 → exec (.add c) s = .next (s.completed c { k.withReg x.a (a + b) with
       c := BitVec.uaddOverflow a b, z := a + b == 0, n := (a + b).msb, v := BitVec.saddOverflow a b } x.nx)) ∧
     (x.op = 0x06 → exec (.sub c) s = .next (s.completed c { k.withReg x.a (a - b) with
       c := BitVec.usubOverflow a b, z := a - b == 0, n := (a - b).msb, v := BitVec.ssubOverflow a b } x.nx)) ∧
     (x.op = 0x08 → exec (.addi c) s = .next (s.completed c { k.withReg x.a (b + i) with
       c := BitVec.uaddOverflow b i, z := b + i == 0, n := (b + i).msb, v := BitVec.saddOverflow b i } x.nx)) ∧
     (x.op = 0x09 → exec (.subi c) s = .next (s.completed c { k.withReg x.a (b - i) with
       c := BitVec.usubOverflow b i, z := b - i == 0, n := (b - i).msb, v := BitVec.ssubOverflow b i } x.nx)) ∧
     (x.op = 0x14 → exec (.cmp c) s = .next (s.completed c { k with
       c := BitVec.usubOverflow a b, z := a - b == 0, n := (a - b).msb, v := BitVec.ssubOverflow a b } x.nx)) ∧
     (x.op = 0x15 → exec (.cmpi c) s = .next (s.completed c { k with
       c := BitVec.usubOverflow a i, z := a - i == 0, n := (a - i).msb, v := BitVec.ssubOverflow a i } x.nx))) ∧
  (∀ (s : State) (c : Nat) (x : Insn), s.issues c x →
     let k := s.ctx c
     let a := k.reg x.a
     let b := k.reg x.b
     let i := BitVec.ofNat 20 x.k
     let n := x.k % 32
     let p := a.zeroExtend 40 * b.zeroExtend 40
     let bit (r : BitVec 20) : Ctx := { k.withReg x.a r with z := r == 0, n := r.msb }
     (x.op = 0x0A → exec (.and c) s = .next (s.completed c (bit (a &&& b)) x.nx)) ∧
     (x.op = 0x0B → exec (.or c) s = .next (s.completed c (bit (a ||| b)) x.nx)) ∧
     (x.op = 0x0C → exec (.xor c) s = .next (s.completed c (bit (a ^^^ b)) x.nx)) ∧
     (x.op = 0x0D → exec (.andi c) s = .next (s.completed c (bit (b &&& i)) x.nx)) ∧
     (x.op = 0x0E → exec (.ori c) s = .next (s.completed c (bit (b ||| i)) x.nx)) ∧
     (x.op = 0x0F → exec (.xori c) s = .next (s.completed c (bit (b ^^^ i)) x.nx)) ∧
     (x.op = 0x10 → n ≠ 0 → exec (.shl c) s =
       .next (s.completed c { bit (b <<< n) with c := decide (n ≤ 20) && b.getLsbD (20 - n) } x.nx)) ∧
     (x.op = 0x11 → n ≠ 0 → exec (.shr c) s =
       .next (s.completed c { bit (b >>> n) with c := b.getLsbD (n - 1) } x.nx)) ∧
     (x.op = 0x12 → n ≠ 0 → exec (.sar c) s =
       .next (s.completed c { bit (b.sshiftRight n) with c := if n ≤ 20 then b.getLsbD (n - 1) else b.msb } x.nx)) ∧
     (n = 0 → ∀ i ∈ [(0x10, Instr.shl c), (0x11, .shr c), (0x12, .sar c)], x.op = i.1 →
       ∃ free, exec i.2 s = .next (s.nextFresh.completed c { bit b with c := free } x.nx)) ∧
     (x.op = 0x13 → x.a ≤ 14 → exec (.mul c) s = .next (s.completed c
       { (k.withReg x.a (p.extractLsb' 0 20)).withReg (x.a + 1) (p.extractLsb' 20 20) with z := p == 0 } x.nx)))

/-- R141, R142: the limb ops under each ARITH. Without a carry or borrow, or under wrap, the wrapped result; under saturate
all ones or 0; under trap nothing is written and OVERFLOW is raised. -/
def Obligations.LimbWords : Prop :=
  ∀ (s : State) (c : Nat) (x : Insn), s.issues c x →
    let k := s.ctx c
    let a := k.reg x.a
    let b := k.reg x.b
    let cin : BitVec 20 := if k.c then 1 else 0
    let a3 := k.three x.a
    let b3 := k.three x.b
    let sc := b.zeroExtend 60 <<< (4 * (x.k % 4))
    let carry := decide (2 ^ 20 ≤ a.toNat + b.toNat + cin.toNat)
    let borrow := decide (a.toNat < b.toNat + cin.toNat)
    let sat (past : Bool) (wrapped bound : BitVec 20) : BitVec 20 := if past ∧ k.arith = 1 then bound else wrapped
    let sat3 (past : Bool) (wrapped bound : BitVec 60) : BitVec 60 := if past ∧ k.arith = 1 then bound else wrapped
    let trapped := (s.fetched c).syncTrap c Cz.overflow none none
    let word (past : Bool) (r : BitVec 20) (v : Bool) : State :=
      if past ∧ k.arith = 2 then trapped
      else s.completed c { k.withReg x.a r with c := past, z := r == 0, n := r.msb, v := v } x.nx
    let three (past : Bool) (r : BitVec 60) (v : Bool) : State :=
      if past ∧ k.arith = 2 then trapped
      else s.completed c { k.withThree x.a r with c := past, z := r == 0, n := r.msb, v := v } x.nx
    (x.op = 0x05 → exec (.adc c) s = .next (word carry (sat carry (a + b + cin) (BitVec.allOnes 20))
      (decide ((a + b + cin).toInt ≠ a.toInt + b.toInt + cin.toInt)))) ∧
    (x.op = 0x07 → exec (.sbc c) s = .next (word borrow (sat borrow (a - b - cin) 0)
      (decide ((a - b - cin).toInt ≠ a.toInt - b.toInt - cin.toInt)))) ∧
    (x.op = 0x18 → x.a ≤ 13 → x.b ≤ 13 → exec (.add3 c) s = .next (three (BitVec.uaddOverflow a3 b3)
      (sat3 (BitVec.uaddOverflow a3 b3) (a3 + b3) (BitVec.allOnes 60)) (BitVec.saddOverflow a3 b3))) ∧
    (x.op = 0x19 → x.a ≤ 13 → x.b ≤ 13 → exec (.sub3 c) s = .next (three (BitVec.usubOverflow a3 b3)
      (sat3 (BitVec.usubOverflow a3 b3) (a3 - b3) 0) (BitVec.ssubOverflow a3 b3))) ∧
    (x.op = 0x1B → x.a ≤ 13 → exec (.adds3 c) s = .next (three (BitVec.uaddOverflow a3 sc)
      (sat3 (BitVec.uaddOverflow a3 sc) (a3 + sc) (BitVec.allOnes 60)) (BitVec.saddOverflow a3 sc)))

/-- R27, R141: the words over 60-bit times.
R139, R141: loads and stores through the tenant's slab. Where the walk reaches internal address `p`, a load writes its
registers from the little-endian bytes there and a store writes exactly its own bytes; where the walk fails, the word traps
WALK with the walk's code and the slab address. -/
def Obligations.TimeAndMemoryWords : Prop :=
  (∀ (s : State) (c : Nat) (x : Insn), s.issues c x → x.a ≤ 13 →
     let k := s.ctx c
     let a := k.three x.a
     let b := k.three x.b
     let m := BitVec.ofNat 60 s.circle
     let time (v : Nat) := s.completed c (k.withThree x.a (BitVec.ofNat 60 v)) x.nx
     (x.op = 0x1A → x.b ≤ 13 → exec (.cmp3 c) s = .next (s.completed c { k with
       z := a == b, n := !s.atOrAfter a.toNat b.toNat,
       c := decide (a.toNat < b.toNat), v := false } x.nx)) ∧
     (x.op = 0x1C → exec (.wrap3 c) s = .next (s.completed c { k.withThree x.a
       (if x.k % 2 = 0 then (if k.c = true ∨ s.circle ≤ a.toNat then a - m else a) else (if k.c then a + m else a))
       with c := false } x.nx)) ∧
     (x.op = 0x1D → x.b ≤ 13 → exec (.mov3 c) s = .next (s.completed c (k.withThree x.a b) x.nx)) ∧
     (x.op = 0x1E → exec (.now c) s = .next (time (if k.guarded then k.evtTime else s.tb.now))) ∧
     (x.op = 0x1F → exec (.evt c) s = .next (time k.evtTime))) ∧
  (∀ (s : State) (c : Nat) (x : Insn) (p : Nat), s.issues c x →
     let k := s.ctx c
     let addr (low : Nat) := k.seg % 64 * 2 ^ 20 + ((k.reg x.b).toNat + x.k) % 2 ^ 20 / low * low
     let at4 := (s.fetched c).walkCorrect k.tenant (addr 4)
     let at8 := (s.fetched c).walkCorrect k.tenant (addr 8)
     let loads (t : State) (k' : Ctx) := .next (t.setCtx c (k'.complete x.nx))
     let stores (i : Instr) (t : State) (n v : Nat) : Prop :=
       ∃ t', exec i s = .next t' ∧ t' = (t.writeMem p n v).setCtx c (k.complete x.nx)
         ∧ (∀ j < n, t'.byte (p + j) = BitVec.ofNat 8 (v / 256 ^ j)) ∧ ∀ y, y < p ∨ p + n ≤ y → t'.byte y = s.byte y
     let low (v : Nat) := BitVec.ofNat 20 v
     ((s.fetched c).walk k.tenant (addr 4) = .ok p →
       (x.op = 0x20 → at4.eccIn p 4 = false → exec (.ldw c) s = loads at4 (k.withReg x.a (low (at4.readMem p 4)))) ∧
       (x.op = 0x20 → at4.eccIn p 4 = true → exec (.ldw c) s =
         .next (at4.dataEcc.syncTrap c Cz.walk (some Code.slabEcc) (some (addr 4)))) ∧
       (x.op = 0x21 → stores (.stw c) at4 4 (k.reg x.a).toNat) ∧
       (x.op = 0x22 → x.a ≤ 14 → at4.eccIn p 4 = false → exec (.ld32 c) s =
         loads at4 ((k.withReg x.a (low (at4.readMem p 4))).withReg (x.a + 1) (low (at4.readMem p 4 / 2 ^ 20)))) ∧
       (x.op = 0x23 → x.a ≤ 14 →
         stores (.st32 c) at4 4 ((k.reg x.a).toNat + (k.reg (x.a + 1)).toNat % 2 ^ 12 * 2 ^ 20))) ∧
     ((s.fetched c).walk k.tenant (addr 8) = .ok p →
       (x.op = 0x24 → x.a ≤ 13 → at8.eccIn p 8 = false → exec (.ldt c) s =
         loads at8 (k.withThree x.a (BitVec.ofNat 60 (at8.readMem p 8)))) ∧
       (x.op = 0x25 → x.a ≤ 13 → stores (.stt c) at8 8 (k.three x.a).toNat)) ∧
     (∀ code level, (s.fetched c).walk k.tenant (addr 4) = .bad code level → (x.op = 0x20 ∨ x.op = 0x21) →
       exec (if x.op = 0x20 then .ldw c else .stw c) s =
         .next ((at4.walkFailed k.tenant (addr 4) 2 code level).syncTrap c Cz.walk (some code) (some (addr 4)))))

/-- R137, R141-R145: the words that choose where a context goes on.
R143-R145: where a context goes on after a word that is no jump: at the word's NEXT, at the target of the JUMPR whose
delay slot it stands in, or, at LEND of an active loop, at LSTART while LC is above 1; and a pending mode applies after its
shadow word. Nothing else of the context changes. -/
def Obligations.ControlAndSequenceWords : Prop :=
  (∀ (s : State) (c : Nat) (x : Insn), s.issues c x →
     let k := s.ctx c
     let w := (k.reg x.a).toNat
     let cond := ([k.z, !k.z, k.c, !k.c, k.n, !k.n, k.v, !k.v, !k.c && !k.z, k.c || k.z, k.n == k.v, k.n != k.v,
       !k.z && (k.n == k.v), k.z || (k.n != k.v), true, false][x.k % 16]?).getD false
     let even := x.nx / 2 * 2
     let s' := s.fetched c
     let goes (k' : Ctx) (nx : Nat) := .next (s.completed c k' nx)
     let illegal := .next (s'.syncTrap c Cz.illegal (some Code.rejectClass) none)
     (x.op = 0x28 → exec (.bcc c) s = goes k (if cond then even + 1 else even)) ∧
     (x.op = 0x29 → exec (.bbs c) s = goes k (if (k.reg x.a).getLsbD (x.k % 32) then even + 1 else even)) ∧
     (x.op = 0x2A → exec (.beq c) s = goes k (if k.reg x.a = k.reg x.b then even + 1 else even)) ∧
     (x.op = 0x2C → exec (.jumpr c) s =
       .next (s'.setCtx c { k with slot := some ((w % 2 ^ 14 + x.k) % 2 ^ 14, k.pc), pc := x.nx })) ∧
     (x.op = 0x2D → exec (.call c) s =
       if k.stack.length < 3 then goes { k with stack := k.stack ++ [(k.pc + 1) % 2 ^ 14] } x.nx else illegal) ∧
     (x.op = 0x2E → k.stack = [] → exec (.ret c) s = illegal) ∧
     (x.op = 0x2E → ∀ l a, k.stack = l ++ [a] → exec (.ret c) s = goes { k with stack := l } a) ∧
     (x.op = 0x2F → k.la = true → exec (.loop c) s = illegal) ∧
     (x.op = 0x2F → k.la = false → w ≠ 0 → exec (.loop c) s =
       goes { k with lc := w, lstart := x.nx, lend := (x.nx + x.k) % 2 ^ 14, la := true } x.nx) ∧
     (x.op = 0x2F → k.la = false → w = 0 → ∀ e y, e = (x.nx + x.k) % 2 ^ 14 → y = s'.trayOf c → exec (.loop c) s =
       if s'.csBad.contains (csKey y e) then .next ((s'.fetchBad c y).syncTrap c Cz.csecc (some Code.slabEcc) none)
       else if s'.mayFetch c e = false then illegal
       else .next ((s'.fetchCorrect y e).setCtx c
         ({ k with lc := 0, lstart := x.nx, lend := e }.complete (insnOf (s'.csWord y e)).nx))) ∧
     (x.op = 0x30 → exec (.lbrk c) s = goes { k with la := false } x.nx) ∧
     (x.op = 0x31 → (bitAt x.k 0 = false ∨ k.pc < 0x2000) → exec (.mode c) s =
       .next (s'.setCtx c { k with pmode := some (BitVec.ofNat 4 x.k), pc := x.nx })) ∧
     (x.op = 0x31 → bitAt x.k 0 = true → 0x2000 ≤ k.pc → exec (.mode c) s = illegal) ∧
     (x.op = 0x3D → ∃ t, exec (.haltMicroword c) s = .next t ∧ t.ctx c = { k.complete x.nx with st := .idle, waitKind := 0 }
       ∧ (∀ d, d ≠ c → t.ctx d = s.ctx d) ∧ t.fifos = s.fifos)) ∧
  (∀ (s : State) (c : Nat) (x : Insn), s.issues c x → x.op = 0x00 →
     let k := s.ctx c
     let ends := k.la = true ∧ k.pc = k.lend
     ∃ t, exec (.nopMicroword c) s = .next t ∧ (∀ d, d ≠ c → t.ctx d = s.ctx d) ∧
       (t.ctx c).pc = (match k.slot with
         | some (target, _) => target
         | none => if k.la = true ∧ k.pc = k.lend ∧ 1 < k.lc then k.lstart else x.nx) ∧
       (ends → 1 < k.lc → (t.ctx c).lc = k.lc - 1 ∧ (t.ctx c).la = true) ∧
       (ends → k.lc ≤ 1 → (t.ctx c).lc = 0 ∧ (t.ctx c).la = false) ∧
       (¬ ends → (t.ctx c).lc = k.lc ∧ (t.ctx c).la = k.la) ∧
       (t.ctx c).slot = none ∧ (t.ctx c).pmode = none ∧ (t.ctx c).mode = k.pmode.getD k.mode ∧
       t.ctx c = { k with pc := (t.ctx c).pc, lc := (t.ctx c).lc, la := (t.ctx c).la, slot := none, pmode := none,
                          mode := (t.ctx c).mode })

/-- R147-R149: TRAP completes, saves the micro-state and goes on at vector 2 in base mode; RETT in base mode, with no cause
pending, puts back what the save area holds. The W registers stay as they are.
R140: MFS reads a special register and MTS writes one; a write to a read-only special is ignored, and a reserved selector,
or a base one in tenant mode, traps ILLEGAL. -/
def Obligations.TrapReturnAndSpecialRegisterWords : Prop :=
  (∀ (s : State) (c : Nat) (x : Insn), s.issues c x →
     let k := s.ctx c
     let save (i : Nat) : Nat := (k.save.getD i 0).toNat
     (x.op = 0x32 → k.inHandler = false → ∃ t, exec (.trap c) s = .next t ∧ (∀ d, d ≠ c → t.ctx d = s.ctx d) ∧
       let r := t.ctx c
       r.st = .trap ∧ r.pc = 2 ∧ r.mode = 1 ∧ r.la = false ∧ r.stack = [] ∧ r.inHandler = true ∧ r.saved = true
         ∧ r.tcause = 1 ∧ r.tprio = 0 ∧ r.tinfo = x.k % 256 ∧ r.traps = (k.traps + 1) % 2 ^ 16 ∧ r.w = k.w
         ∧ r.save = (k.complete x.nx).saveWords) ∧
     (x.op = 0x33 → k.isBase = false → exec (.rett c) s =
       .next ((s.fetched c).syncTrap c Cz.illegal (some Code.rejectClass) none)) ∧
     (x.op = 0x33 → k.isBase = true → k.pend = [] → ∃ t, exec (.rett c) s = .next t ∧ (∀ d, d ≠ c → t.ctx d = s.ctx d) ∧
       let r := t.ctx c
       r.st = .run ∧ r.inHandler = false ∧ r.saved = false ∧ r.w = k.w ∧ r.pc = bits (save 0) 0 14 ∧ r.la = bitAt (save 0) 17
         ∧ r.c = bitAt (save 1) 0 ∧ r.z = bitAt (save 1) 1 ∧ r.n = bitAt (save 1) 2 ∧ r.v = bitAt (save 1) 3
         ∧ r.mode = BitVec.ofNat 4 (bits (save 1) 4 4)
         ∧ r.pmode = (if bitAt (save 0) 16 then some (BitVec.ofNat 4 (bits (save 1) 8 4)) else none)
         ∧ r.seg = bits (save 1) 12 6 ∧ r.lstart = bits (save 2) 0 14 ∧ r.lend = bits (save 3) 0 14 ∧ r.lc = save 4
         ∧ r.stack = ([save 5, save 6, save 7].map (bits · 0 14)).take (bits (save 1) 18 2)) ∧
     (x.op = 0x33 → k.isBase = true → ∀ y, k.topPend = some y → k.tprio < causePrio y → ∃ t, exec (.rett c) s = .next t ∧
       (∀ d, d ≠ c → t.ctx d = s.ctx d) ∧ (t.ctx c).st = .trap ∧ (t.ctx c).tcause = y ∧ (t.ctx c).pc = 2 * y ∧
       (t.ctx c).save = k.save ∧ (t.ctx c).w = k.w ∧ (y = 1 → (t.ctx c).tinfo = k.softK))) ∧
  (∀ (s : State) (c : Nat) (x : Insn), s.issues c x →
     let k := s.ctx c
     let s' := s.fetched c
     let n := x.k % 64
     let t := s'.trayOf c
     let v := (k.reg x.a).toNat
     let pend (i : Nat) : Nat := bits ((if i < 2 then s'.reg (Reg.TRY_IRQ_PEND_L t) else s'.reg (Reg.TRY_IRQ_PEND_H t)).toNat) (i % 2 * 16) 16
     let flags := b2n k.c + 2 * b2n k.z + 4 * b2n k.n + 8 * b2n k.v
     let low := [flags, k.seg, k.mode.toNat, k.lc, k.lstart, k.lend, k.wk0.toNat, k.wk1.toNat, c, k.tenant, k.evtFlag,
       k.tcause + 16 * k.tprio, k.tinfo % 256, k.taddr % 2 ^ 20, k.taddr / 2 ^ 20]
     let barred := n = 15 ∨ 30 ≤ n ∨ (16 ≤ n ∧ k.isBase = false)
     let illegal := .next (s'.syncTrap c Cz.illegal (some Code.rejectClass) none)
     let gets (v : Nat) := .next (s'.setCtx c ((k.withReg x.a (BitVec.ofNat 20 v)).complete x.nx))
     let puts (k' : Ctx) := .next (s'.setCtx c (k'.complete x.nx))
     (x.op = 0x3B →
       (barred → exec (.mfs c) s = illegal) ∧
       (∀ y, low[n]? = some y → exec (.mfs c) s = gets y) ∧
       (k.isBase = true → (16 ≤ n ∧ n < 24 → exec (.mfs c) s = gets (k.save.getD (n - 16) 0).toNat) ∧
         (n = 24 → exec (.mfs c) s = gets (s'.irqNext t)) ∧ (n = 25 → exec (.mfs c) s = gets 0) ∧
         (26 ≤ n ∧ n < 30 → exec (.mfs c) s = gets (pend (n - 26))))) ∧
     (x.op = 0x3C →
       (barred → exec (.mts c) s = illegal) ∧
       (n = 0 → exec (.mts c) s = puts { k with c := bitAt v 0, z := bitAt v 1, n := bitAt v 2, v := bitAt v 3 }) ∧
       (n = 1 → exec (.mts c) s = puts { k with seg := v % 64 }) ∧
       (n = 3 → exec (.mts c) s = puts { k with lc := v }) ∧
       (n = 2 ∨ (4 ≤ n ∧ n ≤ 9) ∨ (11 ≤ n ∧ n ≤ 14) → exec (.mts c) s = puts k) ∧
       (n = 10 → exec (.mts c) s = if s'.flagOwn c (v % 256) then puts { k with evtFlag := v % 256 } else illegal) ∧
       (k.isBase = true → (16 ≤ n ∧ n < 24 → exec (.mts c) s = puts
           { k with save := k.save.set (n - 16) (k.reg x.a), baseSaved := if n = 16 then none else k.baseSaved }) ∧
         (24 = n ∨ (26 ≤ n ∧ n < 30) → exec (.mts c) s = puts k) ∧
         (n = 25 → ∃ t', exec (.mts c) s = .next t' ∧ t'.ctx c = k.complete x.nx ∧
           (s'.fld (Reg.TRY_IRQ_CTRL t) 8 8 = lowOf c → t'.bit (Reg.TRY_IRQ_CTRL t) 1 = false) ∧
           (s'.traySense t (v % 64) ≠ 0 → t'.trayPend t (v % 64) = false)))))

/-- R141, R154, R155: SEND by a registered sender, and the three waits. A SEND that finds no waiter and no event trap sets the
flag; one that finds waiters releases every one of them and leaves the flag as it was. A wait that issues on the fabric clock
of a SEND to its flag counts as registered before it, and goes on. A wait on a set flag clears it and goes
on; a wait until a time that has come goes on; any other wait blocks the context at its word. -/
def Obligations.FlagAndWaitWords : Prop :=
  ∀ (s : State) (c : Nat) (x : Insn), s.issues c x →
    let k := s.ctx c
    let f := x.k % 256
    let s' := s.fetched c
    let l := s'.trayNum c
    let key := flagKey l f
    let until_ := (k.three x.a).toNat
    let g := s'.flag key
    let sameClock := g.sentAt = some (s.tick / 2)
    let cleared := s'.setFlag key { g with set := false }
    let before := s'.setFlag key { g with set := g.was && g.quiet, was := false }
    let sent (found : Bool) : Flag := { g with set := g.set || found, sentAt := some (s.tick / 2), was := g.set, quiet := found }
    let passed (t : State) (time : Nat) (z : Bool) :=
      .next (t.setCtx c ({ k with evtTime := time, z := z }.complete x.nx))
    let blocked (st : CState) (kind flag deadline : Nat) : Host.Outcome State Fault Refusal :=
      .next (s'.putCtx c { k with st := st, waitKind := kind, waitFlag := flag, deadline := deadline, since := s'.tick })
    let idle := ∀ d ∈ s'.trayCtxs l, (s.ctx d).waitsOn f = false ∧ ((s.ctx d).evtOn = true → (s.ctx d).evtFlag ≠ f)
    (x.op = 0x34 → f < 240 → (s'.flag key).owner = some k.tenant → lowOf c ∈ (s'.flag key).senders →
      (idle → ∃ t : State, exec (.send c) s = .next (t.setCtx c (k.complete x.nx)) ∧ t.flag key = sent true ∧
        (∀ y, y ≠ key → t.flag y = s'.flag y) ∧ t = { s' with flags := t.flags }) ∧
      (∃ t, exec (.send c) s = .next t ∧
        ((∃ d ∈ s'.trayCtxs l, (s.ctx d).waitsOn f = true) → t.flag key = sent false) ∧
        (∀ d ∈ s'.trayCtxs l, (s.ctx d).waitsOn f = true → (s.ctx d).st ≠ .moving →
          (t.ctx d).st = if (s.ctx d).inHandler then .trap else .run) ∧
        ∀ d ∈ s'.trayCtxs l, (s.ctx d).waitsOn f = true → (s.ctx d).st = .moving →
          (t.ctx d).st = .moving ∧ (t.ctx d).freed.isSome = true)) ∧
    (x.op = 0x35 → s'.flagOwn c f = true → sameClock → exec (.wait c) s = passed before s'.tb.now k.z) ∧
    (x.op = 0x35 → s'.flagOwn c f = true → ¬sameClock → g.set = true → exec (.wait c) s = passed cleared s'.tb.now k.z) ∧
    (x.op = 0x35 → s'.flagOwn c f = true → ¬sameClock → g.set = false → exec (.wait c) s = blocked .wait 1 f 0) ∧
    (x.op = 0x36 → x.a ≤ 13 → s'.flagOwn c f = true → sameClock → exec (.waitt c) s = passed before s'.tb.now false) ∧
    (x.op = 0x36 → x.a ≤ 13 → s'.flagOwn c f = true → ¬sameClock → g.set = true →
      exec (.waitt c) s = passed cleared s'.tb.now false) ∧
    (x.op = 0x36 → x.a ≤ 13 → s'.flagOwn c f = true → ¬sameClock → g.set = false → exec (.waitt c) s =
      if s'.reached until_ then passed s' until_ true else blocked .twait 2 f until_) ∧
    (x.op = 0x37 → x.a ≤ 13 → exec (.twait c) s =
      if s'.reached until_ then passed s' until_ k.z else blocked .twait 3 0 until_)

/-- R158, R160-R162: the words and events that move actions in and out of a context. EMIT on a granted port with room hands
the action on as if it came from the scheduler (a guarded context's copy waits for its vote), and with no room blocks; RECV
loads the head of the input FIFO once its time has come, and blocks until then; an EMIT that the near-path network does not
take yet does not issue; a deadline, room or an action that has come
lets the blocked word complete; WAKE writes the wake words and sends its flag. -/
def Obligations.ActionsInAndOutOfContexts : Prop :=
  ∀ (s : State) (c : Nat),
    let k := s.ctx c
    let go : CState := if k.inHandler then .trap else .run
    let loaded (k : Ctx) (x : Insn) (f : Flight) : Ctx :=
      { (((((k.withThree x.a (BitVec.ofNat 60 f.act.time)).withReg (x.a + 3) (BitVec.ofNat 20 f.act.arg)).withReg (x.a + 4)
        (BitVec.ofNat 20 (f.act.arg / 2 ^ 20))).withReg (x.a + 5)
        (BitVec.ofNat 20 (f.act.arg / 2 ^ 40 % 256 + f.act.sub % 256 * 256))).withReg (x.a + 6)
        (BitVec.ofNat 20 (f.act.op % 256 + f.act.late % 4 * 256 + b2n f.act.log * 1024 + b2n f.act.sealed * 2048
          + b2n f.late * 4096))) with evtTime := f.act.time }
    (∀ x, s.issues c x → x.op = 0x38 → x.a ≤ 9 →
      let s' := s.fetched c
      let port := k.port (x.k % 8)
      let flight : Flight := { act := k.action x.a, org := .near c (x.k % 8), ord := k.emits, ttype := port.ttype,
                               target := port.target, due := (k.action x.a).time }
      let counted := (s'.setCtx c { k with emits := k.emits + 1 }).noteEmit (s'.trayOf c)
      (s.emitTurn c = false → exec (.emit c) s = .next s) ∧ (s.emitTurn c = true →
      (port.ttype = 0 → exec (.emit c) s = .next (s'.syncTrap c Cz.illegal (some Code.rejectClass) none)) ∧
      (port.ttype ≠ 0 → s'.portRoom port = true → k.guarded = false → ∃ t, exec (.emit c) s = .next t ∧
        t.ctx c = { k with emits := k.emits + 1 }.complete x.nx ∧ (∀ d, d ≠ c → t.ctx d = s.ctx d) ∧
        t.fifos = ((counted.pushFifo port.ttype port.target flight).judgeFifo port.ttype port.target).fifos ∧
        t.cuffs = ((counted.pushFifo port.ttype port.target flight).judgeFifo port.ttype port.target).cuffs) ∧
      (port.ttype ≠ 0 → s'.portRoom port = false → exec (.emit c) s = .next (s'.putCtx c
        { k with st := .press, waitKind := 5, waitFlag := 0, deadline := 0, since := s'.tick })))) ∧
    (∀ x, s.issues c x → x.op = 0x39 → x.a ≤ 9 →
      let s' := s.fetched c
      (∀ f, s'.recvHead c = some f → ∃ t, exec (.recv c) s = .next t ∧ t.ctx c = { loaded k x f with took := some s.tb.now }.complete x.nx) ∧
      (s'.recvHead c = none → exec (.recv c) s = .next (s'.putCtx c
        { k with st := .recv, waitKind := 4, waitFlag := 0, deadline := 0, since := s'.tick }))) ∧
    (okCtx c = true → s.service = true → s.native (s.trayOf c) k.pc = false →
      (k.st = .twait → s.reached k.deadline = true → ∃ t, exec (.twaitDeadline c) s = .next t ∧
        (t.ctx c).st = go ∧ (t.ctx c).evtTime = k.deadline ∧ (k.waitKind = 2 → (t.ctx c).z = true) ∧ (t.ctx c).w = k.w) ∧
      (k.st = .press → s.portRoom (k.port ((s.curInsn c).k % 8)) = true →
        (k.port ((s.curInsn c).k % 8)).ttype ≠ 0 → k.pend = [] → s.emitRoom (s.trayOf c) = true →
        ∃ t, exec (.pressRelease c) s = .next t ∧ (t.ctx c).st = go ∧ (t.ctx c).emits = k.emits + 1) ∧
      (k.st = .press → k.since + s.bpto (s.trayOf c) ≤ s.tick →
        ∃ t, exec (.pressTimeout c) s = .next t ∧ t = s.syncTrap c Cz.press none none ∧ t.fifos = s.fifos ∧ t.cuffs = s.cuffs) ∧
      (k.st = .recv → (s.curInsn c).a ≤ 9 → k.pend = [] → ∀ f, s.recvHead c = some f →
        ∃ t, exec (.recvReady c) s = .next t ∧ (t.ctx c).st = go ∧ (t.ctx c).evtTime = f.act.time)) ∧
    (okCtx c = true → ∀ f, s.headReady 5 c 0x0B = some f → f.act.sub < 240 →
      let key := flagKey (s.trayNum c) f.act.sub
      ((s.flag key).ext = true → (s.flag key).owner = some k.tenant → ∃ t, exec (.wake c) s = .next t ∧
        t = ((s.setCtx c { k with wk0 := BitVec.ofNat 20 f.act.arg, wk1 := BitVec.ofNat 20 (f.act.arg / 2 ^ 20) }).sendFlag
          (s.trayNum c) f.act.sub).finish f) ∧
      ((s.flag key).ext = false → f.act.log = false → exec (.wake c) s = .next ((s.popFifo 5 c).judgeFifo 5 c)))

/-- R156, R157, R159, R164-R167, R356: the tray's own events and registers. -/
def Obligations.TrayCommands : Prop :=
  ∀ (s : State) (t : Nat), okTray t = true →
    let d := s.drainBuf 0
    let ctrl := Reg.TRY_IRQ_CTRL t
    let events := (s.ctx (s.irqCtx t)).evtOn = true ∧ (s.ctx (s.irqCtx t)).evtFlag = 240
    let blocked := (s.ctx (s.irqCtx t)).inHandler = false ∧ (s.ctx (s.irqCtx t)).st ∈ [CState.wait, .twait, .recv, .press]
    (s.service = true → s.deadlocked (s.servesOf t) = true → ∃ s', exec (.deadlock t) s = .next s' ∧
      s'.tb = s.tb ∧ s'.mem = s.mem ∧ s'.cuffs = s.cuffs ∧ s'.queues = s.queues ∧
      ∀ c ∈ s.trayCtxs (s.servesOf t), (s.ctx c).st = .wait → (s.ctx c).inHandler = false →
        (s'.ctx c).st = .trap ∧ (s'.ctx c).tcause = 8 ∧ (s'.ctx c).pc = 16) ∧
    ((∀ c ∈ s.trayCtxs (s.servesOf t), (s.ctx c).st = .wait → (s.ctx c).inHandler = true) → exec (.deadlock t) s = .next s) ∧
    (∀ c, okCtx c = true → s.service = true → (s.ctx c).st = .wait → (s.ctx c).inHandler = false →
      (s.ctx c).since + 65536 ≤ s.tick → (s.flag (flagKey (s.trayNum c) (s.ctx c).waitFlag)).ext = false →
      (s.flag (flagKey (s.trayNum c) (s.ctx c).waitFlag)).long = false →
      ∃ s', exec (.stallWatchdog c) s = .next s' ∧ (s'.ctx c).st = .trap ∧ (s'.ctx c).tcause = 8 ∧ (s'.ctx c).pc = 16
        ∧ (∀ e, e ≠ c → s'.ctx e = s.ctx e) ∧ s'.tb = s.tb ∧ s'.mem = s.mem ∧ s'.cuffs = s.cuffs) ∧
    (∀ c, okCtx c = true → s.service = true → (s.ctx c).st = .press → (s.ctx c).inHandler = false → s.dogLimit c ≠ 0 →
      (s.ctx c).lastPoint + s.dogLimit c * 16 ≤ s.tick →
      ∃ s', exec (.contextWatchdog c) s = .next s' ∧ (s'.ctx c).st = .trap ∧ (s'.ctx c).tcause = 9 ∧ (s'.ctx c).pc = 18
        ∧ (∀ e, e ≠ c → s'.ctx e = s.ctx e) ∧ s'.tb = s.tb ∧ s'.mem = s.mem ∧ s'.cuffs = s.cuffs) ∧
    (∀ c, okCtx c = true → s.service = true → (s.ctx c).st = .run → (s.ctx c).inHandler = false → s.dogLimit c ≠ 0 →
      s.windowOf c ≠ 2 → (s.ctx c).lastPoint + s.dogLimit c * 16 ≤ s.tick →
      ∃ s', exec (.contextWatchdog c) s = .next s' ∧ (s'.ctx c).st = .run ∧ 9 ∈ (s'.ctx c).pend) ∧
    (s.service = true → s.bit ctrl 0 = true → s.bit ctrl 1 = false → s.badIrqCtx t = false → s.trayReady t ≠ [] →
      ∃ s', exec (.trayIrqDelivery t) s = .next s' ∧
        s'.bit ctrl 1 = true ∧
        ((s.ctx (s.irqCtx t)).waitsOn 240 = false → ¬events → s'.ctxs = s.ctxs ∧
          (s'.flag (flagKey (s.irqCtx t / 256) 240)).set = true) ∧
        ((s.ctx (s.irqCtx t)).waitsOn 240 = false → events → s'.flags = s.flags ∧ (blocked → (s'.ctx (s.irqCtx t)).st = .trap ∧
          (s'.ctx (s.irqCtx t)).tcause = 2 ∧ (s'.ctx (s.irqCtx t)).pc = 4)) ∧
        ((s.ctx (s.irqCtx t)).waitsOn 240 = true → (s.ctx (s.irqCtx t)).st ≠ .moving → (s.ctx (s.irqCtx t)).inHandler = false →
          (s'.ctx (s.irqCtx t)).st = .run ∧ s'.flags = s.flags)) ∧
    (∀ i < 32, s.pfPage (0x30 + t) = true → ∃ s', exec (.tryIrqSoft t (2 ^ i)) s = .next s' ∧
      s' = d.trayPulse t (32 + i) ∧ (d.traySense t (32 + i) = 1 → bitAt (d.tray t).levels (32 + i) = false → s'.trayPend t (32 + i) = true)) ∧
    (∀ v, s.pfPage (0x30 + t) = true → bits v 8 8 = 0 →
      exec (.tryIrqCtrlWrite t 1 v) s = .next (d.setBit ctrl 0 (d.bit ctrl 0 || bitAt v 0)) ∧
      exec (.tryIrqCtrlWrite t 2 v) s = .next (d.setBit ctrl 0 (d.bit ctrl 0 && !bitAt v 0))) ∧
    (∀ v, s.pfPage (0x30 + t) = true → (d.ctx (d.servesOf t * 256 + bits v 8 8)).tenant ≠ 0 →
      ∃ s', exec (.tryIrqCtrlWrite t 0 v) s = .next s' ∧ s'.fld ctrl 8 8 = d.fld ctrl 8 8 ∧
        s'.bit (Reg.PG_ERR (0x30 + t)) 19 = true) ∧
    (∀ v, s.pfPage (0x30 + t) = true → (d.ctx (d.servesOf t * 256 + bits v 8 8)).tenant = 0 →
      ∃ s', exec (.tryIrqCtrlWrite t 0 v) s = .next s' ∧ s'.fld ctrl 8 8 = bits v 8 8 ∧ s'.bit ctrl 0 = bitAt v 0 ∧
        s'.bit ctrl 1 = (d.bit ctrl 1 && !(d.ctx (d.servesOf t * 256 + bits v 8 8)).st.dead) ∧
        s' = { d with regs := s'.regs }) ∧
    (∀ v, s.pfPage (0x30 + t) = true → ∃ s', exec (.tryCsAddr t v) s = .next s' ∧ s'.regN (Reg.TRY_CS_ADDR t) = v % 2 ^ 14 ∧
      s'.regN (Reg.TRY_CS_DATA_L t) = (d.csWord t (v % 2 ^ 14)).toNat % 2 ^ 32 ∧
      s'.fld (Reg.TRY_CS_DATA_H t) 0 8 = (d.csWord t (v % 2 ^ 14)).toNat / 2 ^ 32 ∧ s' = { d with regs := s'.regs })


/-! ### Programmable I/O engines (R180-R201) -/

/-- R183-R186: the instructions that set, drive and sample pins, and what each bit period that follows does. Each tick runs
the periods whose boundary has come (TimeBaseTicksAndWrites). -/
def Obligations.PioPinInstructions : Prop :=
  ∀ (s : State) (e : Nat), e < 128 →
    let k := s.pio e
    let x := s.imem e k.pc
    let opnd := bits x 8 8
    let cfg := s.regN (Reg.PIO_CFG e)
    let clock := bitAt cfg 2 = true
    let idle := bitAt cfg 6
    let pin (i : Nat) := k.base + i
    let clkPin := bits cfg 3 3
    let out (t : State) (i : Nat) := i < k.count ∧ t.bit (Reg.PIO_DIR e) i = true
    let free (c : Nat) := (s.cuff c).held = false ∧ s.pairEn (c / 2) = false
    let half := max 0x1000 (s.regN (Reg.PIO_BITP e)) / 512
    let now_ := s.boundary e k.bit
    let mid := s.plus now_ half
    let due (c t : Nat) := s.reached (s.placed c t)
    let edges (t : State) (c : Nat) (new : List (Nat × Bool)) (old : List (Nat × Bool)) :=
      (t.cuff c).edges = (old ++ new).filter (fun y => !due c y.1) ∧
      ∀ y, new.getLast? = some y → due c y.1 = true → (t.cuff c).level = y.2
    let before (c : Nat) := (s.cuff c).edges.filter fun y => !s.atOrAfter y.1 now_
    let rests (t : State) := clock → out t clkPin → free (pin clkPin) → edges t (pin clkPin) [(now_, idle)] (before (pin clkPin))
    let frame (t : State) (more : List Nat) :=
      SameButEvents (more ++ (List.range k.count).map fun i => Reg.CUF_EDGES (pin i)) s t ∧
      (∀ e', e' ≠ e → t.pio e' = s.pio e') ∧ (∀ c, (∀ i < k.count, c ≠ pin i) → t.cuff c = s.cuff c) ∧
      t = { s with out := t.out, regs := t.regs, cuffs := t.cuffs, pairs := t.pairs, pios := t.pios, fns := t.fns,
                   link := t.link, srcs := t.srcs, vecs := t.vecs }
    (s.pioRuns e 0 → ∃ t : State, exec (.pioLevel e) s = .next t ∧ t.pio e = s.inInsn e 0 k ∧ frame t [] ∧ rests t ∧
      ∀ i, out s i → ¬(clock ∧ i = clkPin) → free (pin i) → edges t (pin i) [(now_, bitAt opnd i)] (s.cuff (pin i)).edges) ∧
    (s.pioRuns e 1 → ∃ t : State, exec (.pioDirInsn e) s = .next t ∧ t.pio e = s.inInsn e 0 k ∧
      frame t [Reg.PIO_DIR e] ∧ rests t ∧ t.regN (Reg.PIO_DIR e) = opnd % 2 ^ k.count % 2 ^ 32 ∧
      ∀ i < min 8 k.count, ¬(clock ∧ i = clkPin) → free (pin i) →
        (bitAt opnd i = true → edges t (pin i) [(now_, (s.cuff (pin i)).lastLevel)] (s.cuff (pin i)).edges ∧
          (due (pin i) now_ = true → (t.cuff (pin i)).driven = decide (s.cuffMode (pin i) ≠ 2))) ∧
        (bitAt opnd i = false → (t.cuff (pin i)).edges = [] ∧ (t.cuff (pin i)).driven = false ∧
          (t.cuff (pin i)).level = (s.cuff (pin i)).level)) ∧
    (s.pioRuns e 2 → opnd / 32 < k.count → k.txsr < 2 ^ 32 →
      let msb := bitAt cfg 0
      let round := bitAt cfg 10
      let first := if msb then bitAt k.txsr 31 else bitAt k.txsr 0
      let back := b2n (round && first)
      let left := if msb then k.txsr * 2 % 2 ^ 32 + back else k.txsr / 2 + back * 2 ^ 31
      let c := pin (opnd / 32)
      ∃ t : State, exec (.pioXmit e) s = .next t ∧ frame t [] ∧
        t.pio e = s.inInsn e (opnd % 32) { k with txsr := left, txcnt := if round then 32 else k.txcnt - 1 } ∧
        (¬(clock ∧ clkPin = opnd / 32) → out s (opnd / 32) → free c → edges t c [(now_, first)] (s.cuff c).edges) ∧
        (clock → out s clkPin → clkPin ≠ opnd / 32 → free (pin clkPin) →
          edges t (pin clkPin) [(now_, idle), (mid, !idle)] (before (pin clkPin)))) ∧
    (∀ bs, s.pioRuns e 3 → opnd / 32 < k.count → ∃ t : State, exec (.pioSamp e bs) s = .next t ∧ frame t [] ∧
      t.pio e = s.inInsn e (opnd % 32) { k with
          levels := bs / 2,
          samples := k.samples ++ [(s.plus mid (s.fld (Reg.PIO_SAMPLE e) 0 16), bitAt bs 0, bitAt cfg 1)] }) ∧
    (k.busy = true →
      (k.todo ≠ 0 → bits k.insn 0 3 ≠ 2 → (s.period e).pio e = { k with
          todo := k.todo - 1, bit := k.bit + 1, levels := k.levels / 2,
          samples := k.samples ++ [(s.plus mid k.smp, bitAt k.levels 0, bitAt k.cfg 1)] }) ∧
      (k.todo ≠ 0 → bits k.insn 0 3 = 2 → bitAt k.cfg 0 = false → bitAt k.cfg 10 = false → (s.period e).pio e =
        { k with todo := k.todo - 1, bit := k.bit + 1, txsr := k.txsr / 2, txcnt := k.txcnt - 1 }) ∧
      (k.todo = 0 → k.rest ≠ 0 → (s.period e).pio e = { k with rest := k.rest - 1, bit := k.bit + 1 }) ∧
      (k.todo = 0 → k.rest = 0 → k.skip = false → s.pioAfter e k (s.period e))) ∧
    (∀ t b msb, k.samples = [(t, b, msb)] → s.reached t = true → (s.takeSamples e).pio e = { k with
      samples := [], lastSample := some t, rxcnt := min 32 (k.rxcnt + 1),
      rxsr := if msb then (k.rxsr * 2 + b2n b) % 2 ^ 32 else k.rxsr / 2 + b2n b * 2 ^ 31 })

/-- R184, R189, R190, R193, R194, R219: the instructions that move data, wait and compare. -/
def Obligations.PioDataInstructions : Prop :=
  ∀ (s : State) (e : Nat), e < 128 →
    let k := s.pio e
    let x := s.imem e k.pc
    let opnd := bits x 8 8
    let info := Reg.PIO_STALL_INFO e
    let clkPin := k.base + s.fld (Reg.PIO_CFG e) 3 3
    let only (ks : List Nat) := SameButEvents (Reg.CUF_EDGES clkPin :: ks) s
    let others (t : State) := (∀ e', e' ≠ e → t.pio e' = s.pio e') ∧ (∀ c, c ≠ clkPin → t.cuff c = s.cuff c) ∧
      (s.bit (Reg.PIO_CFG e) 2 = false → t.cuffs = s.cuffs) ∧ t.tb = s.tb ∧ t.ctxs = s.ctxs
    let stalls (t : State) (k' : Pio) (cause t0 : Nat) := t.pio e = { k' with st := 4 } ∧
      t.pair (Reg.PIO_STALL_L e) (Reg.PIO_STALL_H e) = t0 % 2 ^ 64 ∧ t.fld info 0 2 = cause ∧ t.fld info 2 5 = k.pc % 32 ∧
      t.fld info 16 16 = (s.fld info 16 16 + 1) % 2 ^ 16 ∧ t.srcPend (0x3080 + 4 * e) = true ∧ others t
    (s.pioRuns e 4 → opnd = 0 →
      (k.tx = [] → ∃ t : State, exec (.pioLoad e) s = .next t ∧ t.pio e = { s.started e k with needAt := some s.tb.now } ∧
        (∀ e', e' ≠ e → t.pio e' = s.pio e') ∧ t = { s with pios := t.pios }) ∧
      (∀ w r, k.tx = w :: r → ∃ t : State, exec (.pioLoad e) s = .next t ∧
        t.pio e = s.inInsn e 0 { k with txsr := w, txcnt := 32, tx := r } ∧ only [] t ∧ others t)) ∧
    (∀ t0, k.needAt = some t0 → stalls (s.stallLoad e) { k with needAt := none } 0 t0) ∧
    (∀ b, s.pioRuns e 5 → opnd = 0 → s.sampleWait e = some b → s.reached (s.boundary e b) = true →
      (k.forPort = none → s.bit (Reg.PIO_CFG e) 8 = false → 4 ≤ k.rx.length → ∃ t : State, exec (.pioStore e) s = .next t ∧
        stalls t (s.started e { k with bit := b }) 1 s.tb.now) ∧
      (k.forPort = none → s.bit (Reg.PIO_CFG e) 8 = false → k.rx.length < 4 → ∃ t : State, exec (.pioStore e) s = .next t ∧
        t.pio e = s.inInsn e 0 { k with bit := b, rx := k.rx ++ [k.rxsr], rxsr := 0, rxcnt := 0 } ∧
        only [] t ∧ others t) ∧
      (k.forPort = none → s.bit (Reg.PIO_CFG e) 8 = true → ∃ t : State, exec (.pioStore e) s = .next t ∧
        t.pio e = s.inInsn e 0 { k with bit := b, rxsr := 0, rxcnt := 0 } ∧ others t) ∧
      (∀ p < 64, k.forPort = some p → ∃ t : State, exec (.pioStore e) s = .next t ∧
        t.pio e = s.inInsn e 0 { k with bit := b, rxsr := 0, rxcnt := 0 } ∧ (s.fbkOn p 3 = true →
        t.pair (Reg.FBK_SSIRAW_L p) (Reg.FBK_SSIRAW_H p) = k.rxsr % 2 ^ min 32 (max 8 (min 48 (s.fld (Reg.FBK_SSICFG p) 0 6)))))) ∧
    (s.pioRuns e 6 → opnd % 8 = 0 → opnd / 32 < k.count → ∃ t : State, exec (.pioPinw e) s = .next t ∧ t.pio e =
        { s.started e k with st := 3, waitFrom := k.bit, waited := 0, waitAt := s.boundary e k.bit, atMet := false } ∧
      (∀ e', e' ≠ e → t.pio e' = s.pio e') ∧ t = { s with pios := t.pios }) ∧
    (s.pioRuns e 7 → opnd < 4 →
      let equal := Nat.land k.rxsr (s.regN (Reg.PIO_CMPMASK e)) = s.regN (Reg.PIO_CMP e)
      let k2 := { k with matched := decide equal }
      ∃ t : State, exec (.pioCmpInsn e) s = .next t ∧ (∀ e', e' ≠ e → t.pio e' = s.pio e') ∧
        (equal ∨ opnd = 0 → t.pio e = s.inInsn e 0 k2 ∧ only [] t ∧ others t) ∧
        (¬equal → opnd = 1 → t.pio e = s.inInsn e 0 k2 ∧ t.srcPend (0x3080 + 4 * e + 1) = true ∧ only [] t ∧ others t) ∧
        (¬equal → opnd = 2 → (t.pio e).st = 0 ∧ t.bit (Reg.PIO_ERR e) 6 = true ∧ (t.pio e).matched = false ∧
          (∀ n, s.nextPc e k.pc k.left = some n → (t.pio e).pc = n.1) ∧ only [Reg.PIO_ERR e] t) ∧
        (¬equal → opnd = 3 → t.pio e = s.inInsn e 0 { k2 with skip := true } ∧ only [] t ∧ others t)) ∧
    (k.skip = true → ∀ n m, s.nextPc e k.pc k.left = some n → s.nextPc e n.1 n.2 = some m → k.st = 1 →
      s.endInsn e = s.setPio e { k with busy := false, skip := false, pc := m.1, left := m.2 })

/-- R183, R185, R187-R189, R194: AT times, waits and their ends, and the instructions that stop the engine. -/
def Obligations.PioWaitsAndStops : Prop :=
  ∀ (s : State) (e : Nat), e < 128 →
    let k := s.pio e
    let x := s.imem e k.pc
    let op := bits x 0 3
    let opnd := bits x 8 8
    let at_ := s.pair (Reg.PIO_AT_L e) (Reg.PIO_AT_H e)
    let step := s.pair (Reg.PIO_AT_STEP_L e) (Reg.PIO_AT_STEP_H e)
    let row := [Instr.pioLevel e, .pioDirInsn e, .pioXmit e, .pioSamp e 0, .pioLoad e, .pioStore e, .pioPinw e, .pioCmpInsn e]
    let due := s.service = true ∧ k.st = 1 ∧ k.busy = false ∧ k.needAt = none ∧ s.reached (s.boundary e k.bit) = true ∧
      (op = 5 → (bitAt x 3 = true ∧ k.atMet = false) ∨ (k.lastSample = none ∧ k.samples = []))
    let reserved := (op = 4 ∧ opnd ≠ 0) ∨ (op = 5 ∧ opnd ≠ 0) ∨ (op = 6 ∧ opnd % 8 ≠ 0) ∨ (op = 7 ∧ 4 ≤ opnd)
    let outside := (op = 2 ∨ op = 3 ∨ op = 6) ∧ k.count ≤ opnd / 32
    let limit := k.wto
    let held := bits k.insn 8 8
    (∀ i, row[op]? = some i → due → reserved → ∃ t : State, exec i s = .next t ∧ (t.pio e).st = 0 ∧ (t.pio e).pc = k.pc ∧
      t.bit (Reg.PIO_ERR e) 8 = true ∧ (t.pio e).tx = k.tx ∧ (t.pio e).rx = k.rx) ∧
    (∀ i, row[op]? = some i → due → ¬reserved → outside → ∃ t : State, exec i s = .next t ∧ (t.pio e).st = 0 ∧ (t.pio e).pc = k.pc ∧
      t.bit (Reg.PIO_ERR e) 9 = true) ∧
    (∀ i, row[op]? = some i → due → ¬reserved → ¬outside → bitAt x 3 = true → k.atMet = false →
      (s.atOrAfter at_ (s.plus s.tb.now 128) = true → exec i s = .next (s.setPio e { k with st := 2 })) ∧
      (s.atOrAfter at_ (s.plus s.tb.now 128) = false → s.bit (Reg.PIO_CFG e) 7 = true → ∃ t : State, exec i s = .next t ∧
        (t.pio e).st = 0 ∧ (t.pio e).pc = k.pc ∧ t.bit (Reg.PIO_ERR e) 2 = true)) ∧
    (s.service = true → k.st = 2 → s.reached at_ = true → ∃ t : State, exec (.atTime e) s =
        .next (if op = 3 ∨ (op = 5 ∧ k.samples ≠ []) then t else t.reachInsn e 0) ∧
      t.pio e = { k with st := 1, atMet := true, clk0 := at_, bit := 0 } ∧
      t.pair (Reg.PIO_AT_L e) (Reg.PIO_AT_H e) = (at_ + step) % s.circle % 2 ^ 64 ∧
      (∀ r, r ≠ Reg.PIO_AT_L e → r ≠ Reg.PIO_AT_H e → t.reg r = s.reg r) ∧ t = { s with regs := t.regs, pios := t.pios }) ∧
    (s.service = true → k.st = 3 → s.pinReads (k.base + held / 32) (bitAt held 4) = true → ∃ t : State,
      exec (.pinwReached e) s = .next t ∧ t.pio e = (if bitAt held 3 then { k.inPeriod 0 with clk0 := s.plus s.tb.now 16, bit := 0 }
        else { k.inPeriod 0 with bit := s.nextBit e (s.plus s.tb.now 1) }) ∧
      (∀ e', e' ≠ e → t.pio e' = s.pio e') ∧ t = { s with pios := t.pios }) ∧
    (s.service = true → k.st = 3 → limit ≠ 0 → s.reached (s.boundary e (k.waitFrom + (limit - k.waited))) = true →
      ∃ t : State, exec (.pinwTimeout e) s = .next t ∧ (t.pio e).st = 0 ∧ (t.pio e).pc = k.pc ∧ t.bit (Reg.PIO_ERR e) 5 = true ∧
        t.fld (Reg.PIO_STALL_INFO e) 0 2 = 2 ∧ t.pair (Reg.PIO_STALL_L e) (Reg.PIO_STALL_H e) = k.waitAt % 2 ^ 64 ∧ t.srcPend (0x3080 + 4 * e) = true) ∧
    (s.service = true → k.st = 4 → k.fed = true → s.reached (s.boundary e k.bit) = true →
      (s.fld (Reg.PIO_STALL_INFO e) 0 2 = 0 → ∀ w r, k.tx = w :: r → ∃ t : State, exec (.stallEnd e) s = .next t ∧
        t.pio e = { k with fed := false, txsr := w, txcnt := 32, tx := r }.inPeriod 0) ∧
      (s.fld (Reg.PIO_STALL_INFO e) 0 2 = 1 → k.forPort = none → bitAt k.cfg 8 = false → ∃ t : State,
        exec (.stallEnd e) s = .next t ∧ t.pio e = { k with fed := false, rx := k.rx ++ [k.rxsr], rxsr := 0, rxcnt := 0 }.inPeriod 0))

/-- R182, R184, R185, R191, R192, R195, R197, R198, R385: starts, stops, FIFOs and sync. -/
def Obligations.PioCommands : Prop :=
  ∀ (s : State) (e v : Nat) (f : Flight), e < 128 → v < 2 ^ 32 →
    let k := s.pio e
    let d := s.drainBuf 0
    let x := d.pio e
    let page := 0x40 + e / 4
    let ctrl := Reg.PIO_CTRL e
    let only (i : Nat) := ∀ j < 4, j ≠ i → bitAt v j = false
    let loads := d.fld (Reg.PIO_STALL_INFO e) 0 2 = 0
    let fed (k : Pio) : Pio := { k with fed := true, fedAt := d.pioNow e, bit := d.nextBit e (d.plus (d.pioNow e) 32) }
    let addr (u : State) := u.fld ctrl 8 5 = v / 256 % 32
    let sync := Reg.PIO_SYNC_CTRL
    let syncOnly (i : Nat) := ∀ j < 3, j ≠ i → bitAt v j = false
    let syncAt := d.pair Reg.PIO_SYNC_TIME_L Reg.PIO_SYNC_TIME_H
    let ahead (t0 : Nat) := d.atOrAfter t0 (d.plus d.tb.now 1536) = true
    (s.pfPage page = true →
      (only 0 → d.service = true → d.startError e = none → x.base + x.count ≤ 1024 → ∃ t : State, exec (.pioCtrlStart e v) s = .next t ∧ addr t ∧
        t.pio e = { (d.stopPio e).pio e with st := 1, pc := v / 256 % 32, left := d.fld (Reg.PIO_LOOP e) 16 16, ended := false,
                                             lastSample := none, clk0 := d.tb.now, bit := 0 } ∧
        ∀ i < x.count, d.bit (Reg.PIO_DIR e) i = true → ¬(d.pcfg e 2 = true ∧ i = d.clkPin e) →
          (d.cuff (x.base + i)).held = false → d.pairEn ((x.base + i) / 2) = false →
          let due (t0 : Nat) := d.reached (d.placed (x.base + i) t0)
          let kept := (d.cuff (x.base + i)).edges.filter fun y => d.atOrAfter (d.pioNow e) y.1
          (t.cuff (x.base + i)).edges = (kept ++ [(d.tb.now, d.bit (Reg.PIO_INIT e) i)]).filter (fun y => !due y.1) ∧
          (due d.tb.now = true → (t.cuff (x.base + i)).level = d.bit (Reg.PIO_INIT e) i)) ∧
      (∀ b, only 0 → d.service = true → d.startError e = some b → ∃ t : State, exec (.pioCtrlStart e v) s = .next t ∧ addr t ∧
        (t.pio e).st = 0 ∧ t.bit (Reg.PIO_ERR e) b = true) ∧
      (bitAt v 1 = true → ∃ t : State, exec (.pioCtrlStart e v) s = .next t ∧ t.bit (Reg.PG_ERR page) 4 = true ∧ t.pios = d.pios) ∧
      (only 1 → ∃ t : State, exec (.pioCtrlStop e v) s = .next t ∧ addr t ∧ (t.pio e).st = 0 ∧ (t.pio e).tx = x.tx ∧ (t.pio e).rx = x.rx ∧
        (t.pio e).pc = x.pc ∧ (∀ c, (t.cuff c).level = (d.cuff c).level ∧ (t.cuff c).driven = (d.cuff c).driven) ∧
        (∀ r, r ≠ ctrl → t.reg r = d.reg r) ∧ t = { d with regs := t.regs, cuffs := t.cuffs, pios := t.pios }) ∧
      (only 2 → ∃ t : State, exec (.pioCtrlFlushTx e v) s = .next t ∧ addr t ∧
        (x.st ≠ 4 → t.pio e = { x with tx := [] }) ∧ (x.st = 4 → loads → t.pio e = { x with tx := [], fed := false }) ∧
        (∀ r, r ≠ ctrl → t.reg r = d.reg r) ∧ t = { d with regs := t.regs, pios := t.pios }) ∧
      (only 3 → ∃ t : State, exec (.pioCtrlFlushRx e v) s = .next t ∧ addr t ∧
        (x.st ≠ 4 → t.pio e = { x with rx := [] }) ∧ (x.st = 4 → ¬loads → x.fed = false → t.pio e = fed { x with rx := [] }) ∧
        (∀ r, r ≠ ctrl → t.reg r = d.reg r) ∧ t = { d with regs := t.regs, pios := t.pios }) ∧
      (x.tx.length < 4 → x.needAt = none → x.st ≠ 4 → exec (.pioTxdata e v) s = .next (d.setPio e { x with tx := x.tx ++ [v] })) ∧
      (x.tx.length < 4 → x.needAt = none → x.st = 4 → loads → x.fed = false →
        ∃ t : State, exec (.pioTxdata e v) s = .next t ∧ t.pio e = fed { x with tx := x.tx ++ [v] } ∧ t = { d with pios := t.pios }) ∧
      (∀ t0, x.tx = [] → x.needAt = some t0 → ∃ t : State, exec (.pioTxdata e v) s = .next t ∧
        t.pio e = { x with needAt := none, txsr := v, txcnt := 32 }.inPeriod 0) ∧
      (4 ≤ x.tx.length → ∃ t : State, exec (.pioTxdata e v) s = .next t ∧ t.bit (Reg.PIO_ERR e) 0 = true ∧
        OnlyRegsAndEvents [Reg.PIO_ERR e] d t)) ∧
    (s.reads 0 = true → s.mode ≠ Mode.boot →
      (∀ w r, x.rx = w :: r → ∃ t : State, exec (.pioRxdata e) s = .next t ∧ (x.st ≠ 4 → t.pio e = { x with rx := r }) ∧
        (x.st = 4 → ¬loads → r.length < 4 → x.fed = false → t.pio e = fed { x with rx := r }) ∧
        t.out = d.out ++ [.readData 0 (word w)] ∧ t = { d with out := t.out, pios := t.pios }) ∧
      (x.rx = [] → ∃ t : State, exec (.pioRxdata e) s = .next t ∧ t.bit (Reg.PIO_ERR e) 1 = true ∧ t.pios = d.pios ∧
        t.out.getLast? = some (.readData 0 0))) ∧
    (s.headReady 3 e 0x0C = some f → s.startError e = none → ∃ t : State, exec (.pioStart e) s = .next (t.finish f) ∧
      let k' := { (s.stopPio e).pio e with
        st := 1, pc := f.act.arg % 32, left := s.fld (Reg.PIO_LOOP e) 16 16, ended := false, lastSample := none, txsr := 0,
        rxsr := 0, txcnt := 0, rxcnt := 0, begun := some s.tick,
        beganWith := (f.act.arg % 32, bitAt f.act.sub 0, f.due, decide (k.st ≠ 0)),
        beganCut := decide (s.boundary e (s.lastBit e s.tb.now) ≠ s.tb.now) }
      t.pio e = (if bitAt f.act.sub 0 then { k' with clk0 := f.due, bit := 0 } else { k' with bit := s.nextBit e f.due }) ∧
      ∀ r, r ≠ Reg.CUF_EDGES (s.pin e (s.clkPin e)) → t.reg r = s.reg r) ∧
    (∀ b, s.headReady 3 e 0x0C = some f → s.startError e = some b → ∃ t : State, exec (.pioStart e) s = .next (t.finish f) ∧
      (t.pio e).st = 0 ∧ t.bit (Reg.PIO_ERR e) b = true) ∧
    (s.headReady 3 e 0x0D = some f → k.tx.length < 4 → k.needAt = none → k.st ≠ 4 →
      let pushed := (s.setPio e { k with tx := k.tx ++ [f.act.arg % 2 ^ 32] }).finish
        { f with due := if f.late ∧ 16 < s.minus s.tb.now f.due then s.tb.now else f.due }
      exec (.pioData e) s = .next pushed ∧ (f.late = true → exec (.pioDataLatePush e) s = .next pushed)) ∧
    (s.headReady 3 e 0x0D = some f → 4 ≤ k.tx.length → f.late = true → s.policy f ≠ 2 → s.policy f ≠ 3 →
      exec (.pioDataLatePush e) s = .next s ∧ ∃ t : State, exec (.pioData e) s = .next t ∧ t.pios = s.pios ∧
        t.targetFifo 3 e = f :: (s.targetFifo 3 e).tail) ∧
    (s.pfPage 0x40 = true →
      (syncOnly 0 → ∃ t : State, exec (.pioSyncCtrlGo v) s = .next t ∧ t.fld sync 8 2 = 2 ∧ t.syncAt = none ∧ t.fld sync 4 2 = v / 16 % 4) ∧
      (syncOnly 1 → d.fld sync 8 2 ≠ 1 → ahead syncAt → ∃ t : State, exec (.pioSyncCtrlArm v) s = .next t ∧ t.fld sync 8 2 = 1 ∧
        t.syncAt = some syncAt ∧ t.fld sync 4 2 = v / 16 % 4 ∧ (∀ r, r ≠ sync → t.reg r = d.reg r) ∧
        t = { d with regs := t.regs, syncAt := t.syncAt }) ∧
      (syncOnly 1 → d.fld sync 8 2 ≠ 1 → ¬ahead syncAt → ∃ t : State, exec (.pioSyncCtrlArm v) s = .next t ∧ t.fld sync 8 2 = 3 ∧
        t.bit (Reg.PG_ERR 0x40) 1 = true ∧ t.fld (Reg.PG_ERR_INFO 0x40) 0 8 = 0x04 ∧
        OnlyRegs [sync, Reg.PG_ERR 0x40, Reg.PG_ERR_INFO 0x40] d t) ∧
      (∀ t0, syncOnly 2 → d.syncAt = some t0 → ahead t0 → ∃ t : State, exec (.pioSyncCtrlDisarm v) s = .next t ∧ t.fld sync 8 2 = 0 ∧
        t.syncAt = none ∧ (∀ r, r ≠ sync → t.reg r = d.reg r) ∧ t = { d with regs := t.regs, syncAt := t.syncAt })) ∧
    (∀ t0, s.syncAt = some t0 → s.fld sync 8 2 = 1 → s.reached t0 = true →
      (∀ j < 4, s.regN (Reg.PIO_SYNC_MASK j) = if j = e / 32 then 2 ^ (e % 32) else 0) →
      ∃ t : State, exec .pioSyncTime s = .next t ∧ t.fld sync 8 2 = 2 ∧ t.syncAt = none ∧
        (s.fld sync 4 2 = 0 → k.begun ≠ some s.tick → s.service = true → k.count ≠ 0 → s.startError e = none → (t.pio e).st = 1 ∧
          (t.pio e).pc = s.fld ctrl 8 5 ∧ (t.pio e).clk0 = s.tb.now ∧ t.regN Reg.PIO_SYNC_STAT = 1) ∧
        (s.fld sync 4 2 = 1 → k.begun ≠ some s.tick → s.service = true → k.count ≠ 0 → k.st ≠ 0 → k.st ≠ 4 → s.startError e = none →
          let whole := s.boundary e (s.lastBit e s.tb.now) = s.tb.now
          (t.pio e).clk0 = s.tb.now ∧ (t.pio e).bit = (if k.busy = true ∧ whole ∧ s.lastBit e s.tb.now < k.bit then 1 else 0) ∧
          (¬whole → t.bit (Reg.PIO_ERR e) 4 = true) ∧ t.regN Reg.PIO_SYNC_STAT = 1) ∧
        (s.fld sync 4 2 = 1 → k.begun = some s.tick → k.beganWith.2.1 = true → k.beganWith.2.2.2 = true → s.service = true →
          k.count ≠ 0 → s.startError e = none → (k.beganCut = true → t.bit (Reg.PIO_ERR e) 4 = true) ∧ t.pio e = k ∧
            t.regN Reg.PIO_SYNC_STAT = 1) ∧
        (s.fld sync 4 2 = 1 → k.begun ≠ some s.tick → k.st = 0 ∨ s.startError e ≠ none → t.pios = s.pios ∧ t.regN Reg.PIO_SYNC_STAT = 2 ^ 8))

/-! ### Feedback ports (R202-R223) -/

/-- R205-R211, R218: quadrature, the index, the wires and standstill. -/
def Obligations.FeedbackDecoding : Prop :=
  ∀ (s : State) (p stamp : Nat), p < 64 →
    let k := s.port p
    let at_ := stamp % s.circle
    let err := Reg.FBK_ERR p
    let span := match s.fld (Reg.FBK_CFG p) 2 2 with | 0 => 1 | 1 => 2 | 2 => 4 | _ => 0
    let pos := s.fbkPos p
    let loaded := ∃ z, k.loaded = some (s.tick, z)
    let wire (w i : Nat) := s.cuff (k.base + 2 * w + i)
    let apart (t : State) := (∀ q < 64, q ≠ p → t.port q = s.port q) ∧ t.cuffs = s.cuffs ∧ t.tb = s.tb ∧ t.ctxs = s.ctxs
    let illegal (a b : Bool) (t : State) := apart t ∧ (t.port p).a = a ∧ (t.port p).b = b ∧ t.bit err 1 = true ∧
      t.fbkStat p 0 = false ∧ t.fbkStat p 3 = false ∧ t.pair (Reg.FBK_SPEED_L p) (Reg.FBK_SPEED_H p) = 0 ∧
      t.regN (Reg.FBK_ILLCNT p) = min (2 ^ 32 - 1) (s.regN (Reg.FBK_ILLCNT p) + 1)
    (s.fbkOn p 1 = true → s.stable p at_ = true →
      (∀ a b : Bool, a ≠ k.a → b ≠ k.b → (∀ q, k.quad = some q → q.1 ≠ at_ / 16) →
        ∃ t : State, exec (.quadratureEdge p a b stamp) s = .next t ∧ illegal a b t ∧ t.fbkPos p = pos) ∧
      (∀ a b wasA f, (a ≠ k.a) ≠ (b ≠ k.b) → k.quad = some (at_ / 16, wasA, f) → (if wasA then b ≠ k.b else a ≠ k.a) →
        ∃ t : State, exec (.quadratureEdge p a b stamp) s = .next t ∧ illegal a b t ∧ (f = none → t.fbkPos p = pos) ∧
          ∀ g, f = some g → t.fbkPos p = (if g.posStands then pos else g.pos % 2 ^ 40) ∧
            (g.cmpStands = false → t.fbkCmp p = (s.fbkCmp p + 2 ^ 40 - g.cmp) % 2 ^ 40) ∧
            (t.port p).hits = k.hits.filter (· ≠ g.time)) ∧
      (∀ a b : Bool, (a ≠ k.a) ≠ (b ≠ k.b) → (∀ q, k.quad = some q → q.1 = at_ / 16 → if q.2.1 then b = k.b else a = k.a) →
        let up := (if a ≠ k.a then a != b else a == b) != s.bit (Reg.FBK_CFG p) 4
        let counted := span = 4 ∨ (span = 2 ∧ a ≠ k.a) ∨ (span = 1 ∧ a ≠ k.a ∧ a = up)
        let pos' := if up then (pos + 1) % 2 ^ 40 else (pos + (2 ^ 40 - 1)) % 2 ^ 40
        let cmp := s.fbkCmp p
        let step := s.regN (Reg.FBK_SPACING p)
        let hit := s.bit (Reg.FBK_CMPCFG p) 0 = true ∧ s.bit (Reg.FBK_CMPCFG p) 1 = !up ∧ pos' = cmp
        (¬counted → ∃ t : State, exec (.quadratureEdge p a b stamp) s = .next t ∧
          t.port p = { k with a := a, b := b, quad := some (at_ / 16, a != k.a, none) } ∧
          (∀ q, q ≠ p → t.port q = s.port q) ∧ t = { s with ports := t.ports }) ∧
        (counted → ∃ t : State, exec (.quadratureEdge p a b stamp) s = .next t ∧ apart t ∧ (t.port p).a = a ∧ (t.port p).b = b ∧
          (∃ g, (t.port p).quad = some (at_ / 16, a != k.a, some g) ∧ g.pos = pos ∧ g.posStands = false ∧ g.cmpStands = false) ∧
          (∀ t0, k.lastCount = some t0 → s.minus at_ t0 < 480 → t.bit err 2 = true) ∧ (t.port p).lastCount = some at_ ∧
          t.pair (Reg.FBK_ETIME_L p) (Reg.FBK_ETIME_H p) = at_ % 2 ^ 64 ∧ t.fbkStat p 1 = !up ∧ t.fbkStat p 2 = false ∧
          (loaded → t.fbkPos p = pos) ∧
          (¬loaded → t.fbkPos p = pos') ∧
          (¬loaded → k.cmpTick ≠ some s.tick →
            (¬hit → t.fbkCmp p = cmp ∧ t.fld (Reg.FBK_HSTAT p) 16 16 = s.fld (Reg.FBK_HSTAT p) 16 16) ∧
            (hit → t.fld (Reg.FBK_HSTAT p) 16 16 = (s.fld (Reg.FBK_HSTAT p) 16 16 + 1) % 2 ^ 16 ∧
              (step = 0 → t.bit (Reg.FBK_CMPCFG p) 0 = false ∧ t.fbkCmp p = cmp) ∧
              (step ≠ 0 → t.fbkCmp p = if up then (cmp + step) % 2 ^ 40 else (cmp + (2 ^ 40 - step)) % 2 ^ 40) ∧
              (k.hits.length < 4 → s.bit (Reg.FBK_CFG p) 7 = false → s.service = true → (t.port p).hits = k.hits ++ [at_]))))) ∧
      (s.fld (Reg.FBK_CFG p) 5 2 ≠ 0 → ∃ t : State, exec (.zEdge p stamp) s = .next t ∧ apart t ∧
        t.pair (Reg.FBK_ZPOS_L p) (Reg.FBK_ZPOS_H p) = pos ∧ t.pair (Reg.FBK_ZTIME_L p) (Reg.FBK_ZTIME_H p) = at_ % 2 ^ 64 ∧
        t.srcPend (0x3280 + 4 * p) = true ∧
        (s.fld (Reg.FBK_CFG p) 5 2 = 1 → t.fbkPos p = pos ∧ t.fbkStat p 0 = s.fbkStat p 0) ∧
        (s.fld (Reg.FBK_CFG p) 5 2 ≠ 1 → t.fbkPos p = s.pair (Reg.FBK_LOAD_L p) (Reg.FBK_LOAD_H p) % 2 ^ 40 ∧
          t.fbkStat p 0 = true) ∧
        t.fld (Reg.FBK_CFG p) 5 2 = (if s.fld (Reg.FBK_CFG p) 5 2 = 3 then 1 else s.fld (Reg.FBK_CFG p) 5 2))) ∧
    (∀ w < 4, s.bit (Reg.FBK_STATUS p) (8 + w) = true → exec (.wireFault p w) s = .next s) ∧
    (∀ w < 4, s.bit (Reg.FBK_STATUS p) (8 + w) = false → s.pairChecked p w = true → s.fbkOn p (s.fbkMode p) = true →
      (wire w 0).pad = (wire w 1).pad →
      max (wire w 0).padTick (wire w 1).padTick + s.fld (Reg.FBK_CFG p) 16 8 * 16 < s.tick → ∃ t : State, exec (.wireFault p w) s = .next t ∧
      t.bit (Reg.FBK_STATUS p) (8 + w) = true ∧ t.bit err 0 = true ∧ t.fbkStat p 0 = false ∧ t.fbkPos p = pos ∧ apart t) ∧
    (∀ w < 4, s.frozen = false → (wire w 0).pad ≠ (wire w 1).pad →
      let faulted := w = 1 ∧ s.fbkMode p = 2 ∧ k.reqAt ≠ none ∧ s.bit (Reg.FBK_STATUS p) 9 = true
      (¬faulted → exec (.wiresDisagree p w) s = .next (s.setBit (Reg.FBK_STATUS p) (8 + w) false)) ∧
      (faulted → ∃ t : State, exec (.wiresDisagree p w) s = .next t ∧ t.bit (Reg.FBK_STATUS p) (8 + w) = false ∧
        t.bit err 7 = true ∧ (t.port p).reqAt = none ∧ t.fbkStat p 4 = false ∧ t.fbkPos p = pos ∧ apart t)) ∧
    (s.fbkMode p ≠ 0 → s.frozen = false → s.fld (Reg.FBK_SPDCFG p) 8 24 ≠ 0 → s.fbkStat p 2 = false →
      k.lastTick + s.fld (Reg.FBK_SPDCFG p) 8 24 * 1024 ≤ s.tick → ∃ t : State, exec (.standstill p) s = .next t ∧
        t.pair (Reg.FBK_SPEED_L p) (Reg.FBK_SPEED_H p) = 0 ∧ t.fbkStat p 2 = true ∧ t.srcPend (0x3280 + 4 * p + 2) = true ∧
        OnlyRegsAndEvents [Reg.FBK_SPEED_L p, Reg.FBK_SPEED_H p, Reg.FBK_STATUS p] (s.noteSpeed p s.tb.now) t)

/-- R207: A and B both change on the same tick. The record goes to the port's log queue where the port logs (R221). -/
def Obligations.IllegalTransition : Prop :=
  ∀ (s : State) (p stamp : Nat) (a b : Bool), p < 64 → s.fbkOn p 1 = true → s.stable p (stamp % s.circle) = true → a ≠ (s.port p).a → b ≠ (s.port p).b →
    (∀ q, (s.port p).quad = some q → q.1 ≠ stamp % s.circle / 16) →
    let err := Reg.FBK_ERR p
    ∃ (t u : State) (v : Nat), exec (.quadratureEdge p a b stamp) s = .next t ∧
      (s.bit (Reg.FBK_CFG p) 24 = true → t = u.logRecord (s.fld (Reg.FBK_LOGQ p) 0 20) v ∧ bits v 64 8 = 0x1A ∧ bits v 72 8 = p) ∧
      (s.bit (Reg.FBK_CFG p) 24 = false → t = u) ∧
      u.fbkPos p = s.fbkPos p ∧ u.bit err 1 = true ∧ u.regN (Reg.FBK_ILLCNT p) = min (2 ^ 32 - 1) (s.regN (Reg.FBK_ILLCNT p) + 1) ∧
      u.fbkStat p 0 = false ∧ u.fbkStat p 3 = false ∧ u.pair (Reg.FBK_SPEED_L p) (Reg.FBK_SPEED_H p) = 0 ∧
      u.port p = { s.port p with a := a, b := b, likes := [], past := (u.port p).past } ∧
      (u.port p).past.head? = some (stamp % s.circle, s.pair (Reg.FBK_SPEED_L p) (Reg.FBK_SPEED_H p), (s.port p).likes.head?) ∧ (∀ q, q ≠ p → u.port q = s.port q) ∧
      SameButEvents [err, Reg.FBK_ILLCNT p, Reg.FBK_STATUS p, Reg.FBK_SPEED_L p, Reg.FBK_SPEED_H p] s u ∧
      u = { s with out := u.out, regs := u.regs, ports := u.ports, fns := u.fns, link := u.link, srcs := u.srcs, vecs := u.vecs }

/-- R208, R212-R214, R385: loads, compare and the acting on hits. -/
def Obligations.FeedbackCompareAndHits : Prop :=
  ∀ (s : State) (p v : Nat), p < 64 → v < 2 ^ 32 →
    let k := s.port p
    let d := s.drainBuf 0
    let page := 0x60 + p / 8
    let err := Reg.FBK_ERR p
    let only (i : Nat) := ∀ j < 3, j ≠ i → bitAt v j = false
    let down := d.bit (Reg.FBK_CMPCFG p) 1
    let pos := d.fbkPos p
    let behind (cmp : Nat) := (if down then (cmp + (2 ^ 40 - pos)) % 2 ^ 40 else (pos + (2 ^ 40 - cmp)) % 2 ^ 40) < 2 ^ 39
    let hits := Reg.FBK_HSTAT p
    let stands (g : Frame → Frame) (k : Fbk) : Fbk :=
      { k with undo := k.undo.map g, quad := k.quad.map fun q => (q.1, q.2.1, q.2.2.map g) }
    let due (t0 : Nat) := s.plus t0 (s.fld (Reg.FBK_TDLY p) 0 24)
    let sets (i : Instr) (set : Bool) (cmp : Nat) := ∃ t : State, exec i s = .next t ∧ t.fbkPos p = pos ∧
      (¬(d.bit (Reg.FBK_CMPCFG p) 0 = true ∧ behind cmp) → t.fbkCmp p = cmp ∧ t.port p = { (if set then stands (fun f => { f with cmpStands := true }) (d.port p) else d.port p) with
          cmpTick := some d.tick, cmpOld := d.fbkCmp p, cmpSet := set, caught := false } ∧
        (∀ r, r ∉ [Reg.FBK_CMP_L p, Reg.FBK_CMP_H p] → t.reg r = d.reg r) ∧ t = { d with regs := t.regs, ports := t.ports }) ∧
      (d.bit (Reg.FBK_CMPCFG p) 0 = true ∧ behind cmp → t.fld hits 16 16 = (d.fld hits 16 16 + 1) % 2 ^ 16 ∧
        (d.regN (Reg.FBK_SPACING p) = 0 → t.bit (Reg.FBK_CMPCFG p) 0 = false))
    let moved := k.hits.drop 1
    let q := s.fld (Reg.FBK_HQUEUE p) 0 20
    let x := s.queue q
    (s.pfPage page = true →
      (only 0 → (d.port p).loaded ≠ some (d.tick, true) → ∃ t : State, exec (.fbkCtrlLoad p v) s = .next t ∧
        t.fbkPos p = d.pair (Reg.FBK_LOAD_L p) (Reg.FBK_LOAD_H p) % 2 ^ 40 ∧ t.fbkStat p 0 = true ∧
        t.port p = { stands (fun f => { f with posStands := true, validStands := true }) (d.port p) with
          loaded := some (d.tick, false), trail := (t.port p).trail } ∧
        (t.port p).trail.head? = some (d.tb.now, pos) ∧
        (∀ r, r ∉ [Reg.FBK_POS_L p, Reg.FBK_POS_H p, Reg.FBK_STATUS p] → t.reg r = d.reg r) ∧
        t = { d with regs := t.regs, ports := t.ports }) ∧
      (only 0 → (d.port p).loaded = some (d.tick, true) → ∃ t : State, exec (.fbkCtrlLoad p v) s = .next t ∧
        t.bit err 8 = true ∧ t.fbkPos p = pos ∧ OnlyRegsAndEvents [err] d t) ∧
      (only 1 → exec (.fbkCtrlRevalid p v) s =
        .next (if d.fld (Reg.FBK_STATUS p) 8 4 = 0
          then (d.standing p fun f => { f with validStands := true }).setBit (Reg.FBK_STATUS p) 0 true else d)) ∧
      (pos < 2 ^ 40 → d.regN (Reg.FBK_CMP_H p) < 2 ^ 8 → (d.port p).cmpTick ≠ some d.tick →
        sets (.fbkCmp p false v) true (d.regN (Reg.FBK_CMP_H p) * 2 ^ 32 + v) ∧
        sets (.fbkCmp p true v) true (v % 2 ^ 8 * 2 ^ 32 + d.regN (Reg.FBK_CMP_L p)) ∧
        sets (.fbkCmpadj p v) false ((d.fbkCmp p + (signed 32 v % 2 ^ 40).toNat) % 2 ^ 40))) ∧
    (∀ t0 rest, k.hits = t0 :: rest → s.service = true → (∀ y, k.hitTick = some y → y + 16 ≤ s.tick) →
      (s.bit (Reg.FBK_CMPCFG p) 3 = false → ∃ t : State, exec (.hitAction p) s = .next t ∧ t.queues = s.queues ∧ t.mem = s.mem ∧
        t.port p = (if s.bit (Reg.FBK_CMPCFG p) 4
          then { k with hits := moved, hitTick := some s.tick, toggles := k.toggles ++ [if s.ahead (due t0) 1 then due t0 else s.tb.now] }
          else { k with hits := moved, hitTick := some s.tick }) ∧
        (s.bit (Reg.FBK_CMPCFG p) 4 = true → s.ahead (due t0) 1 = false → t.bit err 9 = true)) ∧
      (s.bit (Reg.FBK_CMPCFG p) 3 = true → s.bit (Reg.FBK_CMPCFG p) 4 = false →
        let a := s.hitEntry p t0
        let refused (code : Nat) := ∃ t : State, exec (.hitAction p) s = .next t ∧ t.port p = { k with hits := moved, hitTick := some s.tick } ∧
          t.bit err 4 = true ∧ t.fld hits 0 8 = code ∧ (s.bit (Reg.FBK_CFG p) 24 = false → t.queues = s.queues ∧ t.mem = s.mem)
        let mine := x.state ≠ QState.free ∧ x.ttype ≠ 0 ∧ x.tenant = k.owner
        let room := x.filled < 2 ^ x.log2 - 1
        (¬mine → refused 0x06) ∧ (mine → ¬room → refused 0x0C) ∧
        (mine → room → s.checkEntry q a ≠ 0 → refused (s.checkEntry q a % 256)) ∧
        (mine → room → s.checkEntry q a = 0 → ∀ pa, s.walk x.tenant ((x.base + x.tail % 2 ^ x.log2) * 16 % 2 ^ 26) = .ok pa →
          ∃ t : State, exec (.hitAction p) s = .next t ∧ t.port p = { k with hits := moved, hitTick := some s.tick } ∧ t.readMem pa 16 = toEntry a ∧
            (t.queue q).tail = (x.tail + 1) % 2 ^ x.log2 ∧ ∀ b, ¬(pa ≤ b ∧ b < pa + 16) → t.byte b = s.byte b))) ∧
    (let c := s.fld (Reg.FBK_CMPCFG p) 16 10
     let y := s.cuff c
     ∀ t0 rest, k.toggles = t0 :: rest → s.service = true → y.apron = false → y.held = false →
      let g := match s.legalFrom c { Action.zero with op := 0x03, time := t0 } with | some u => s.later t0 u | none => t0
      s.reached g = true →
      (s.toggleFits p c = false → exec (.hitToggle p) s = .next (s.setPort p { k with toggles := rest })) ∧
      (s.toggleFits p c = true → ∃ t : State, exec (.hitToggle p) s = .next t ∧ t.port p = { k with toggles := rest } ∧
        (t.cuff c).driven = true ∧ (t.cuff c).level = (if y.driven then !y.level else s.activeLevel c) ∧
        (t.cuff c).lastT = some g ∧ (∀ e, e ≠ c → t.cuff e = s.cuff e) ∧ (g ≠ t0 → t.bit (Reg.CUF_ERR c) 0 = true) ∧
        (g = t0 → (∀ r, r ≠ Reg.CUF_EDGES c → t.reg r = s.reg r) ∧
          t = { s with regs := t.regs, cuffs := t.cuffs, ports := t.ports })))

/-- R215-R218, R385: serial requests, frames and latches. A latch without a frame completes on a tick
(TimeBaseTicksAndWrites), once every edge that counts has come. -/
def Obligations.FeedbackSerialAndLatches : Prop :=
  ∀ (s : State) (p v : Nat) (f : Flight), p < 64 →
    let k := s.port p
    let d := s.drainBuf 0
    let n := max 8 (min 48 (s.fld (Reg.FBK_SSICFG p) 0 6))
    let clk (u : State) := max 150 (min 15000 (u.fld (Reg.FBK_SSICLK p) 0 16)) / 2 * 2
    let pb := min n (max 8 (min 40 (s.fld (Reg.FBK_SSICFG p) 8 6)))
    let request (u t : State) (r : Nat) :=
      let kk := u.port p
      let line := u.cuff (kk.base + 2)
      let rested := line.pad = true ∧ line.padTick + u.fld (Reg.FBK_SSITM p) 0 16 ≤ u.tick
      let half := clk u / 2
      let words := max 8 (min 48 (u.fld (Reg.FBK_SSICFG p) 0 6))
      let edges (inv : Bool) := (r, inv) :: (List.range (2 * words + 1)).map fun i =>
        (u.plus r ((i + 1) * half * 16), (decide (i % 2 = 0)) != inv)
      let due (c y : Nat) := u.reached (u.placed c y)
      let asked := { kk with lastReq := u.tick }
      (¬rested ∨ u.fbkStat p 4 = true → t.bit (Reg.FBK_ERR p) 6 = true ∧
        OnlyRegsAndEvents [Reg.FBK_ERR p] (u.setPort p asked) t) ∧
      (rested → u.fbkStat p 4 = false → t.fbkStat p 4 = true ∧
        t.port p = { asked with reqAt := some r, ended := none, undo := none, line := [] } ∧
        ∀ inv : Bool, let c := if inv then kk.base + 1 else kk.base
          ((u.cuff c).apron = true → t.cuff c = u.cuff c) ∧
          ((u.cuff c).apron = false → (u.cuff c).held = false → u.pairEn (c / 2) = false →
            (t.cuff c).edges = (edges inv).filter (fun y => !due c y.1) ∧
            (due c r = true → (∀ y ∈ (edges inv).tail, due c y.1 = false) → (t.cuff c).level = inv)))
    let kept := s.setPort p { k with latches := k.latches ++ [(f.due, bitAt f.act.sub 0)] }
    (s.pfPage (0x60 + p / 8) = true → bitAt v 0 = false → bitAt v 1 = false → d.fbkOn p 2 = true →
      ∃ t, exec (.fbkCtrlReq p v) s = .next t ∧ request d t d.tb.now) ∧
    (s.regN (Reg.FBK_SSIPER p) ≠ 0 → s.fbkOn p 2 = true → k.lastReq + s.regN (Reg.FBK_SSIPER p) ≤ s.tick →
      ∃ t, exec (.ssiPeriodicRequest p) s = .next t ∧ request s t s.tb.now) ∧
    (∀ r rises falls, k.reqAt = some r → s.fbkOn p 2 = true →
      let line := s.frameLine p r rises falls
      let u := s.setPort p { k with line := line }
      let ld := u.lineDelay p r
      (rises = [] → falls = [] → line = changesFrom true k.line) ∧
      (s.bit (Reg.FBK_SSICFG p) 15 = true ∨ u.lineDelays p r = [] → ld = s.fld (Reg.FBK_LDLY p) 0 24) ∧
      (s.reached (s.plus r (n * clk s * 16 + ld)) = true → s.bit (Reg.FBK_STATUS p) 9 = true → ∃ t : State,
        exec (.ssiFrameEnd p rises falls) s = .next t ∧ (t.port p).reqAt = none ∧ t.fbkStat p 4 = false ∧
        t.bit (Reg.FBK_ERR p) 7 = true ∧ t.fbkPos p = s.fbkPos p ∧ t.fbkStat p 0 = s.fbkStat p 0 ∧ t.tb = s.tb ∧ t.cuffs = s.cuffs) ∧
      (s.reached (s.plus r (n * clk s * 16 + ld)) = true → s.bit (Reg.FBK_STATUS p) 9 = false → ∃ (t : State) (raw : Nat), exec (.ssiFrameEnd p rises falls) s = .next t ∧
        raw < 2 ^ n ∧ (∀ j < n, bitAt raw (n - 1 - j) = u.lineAt p (s.plus r ((j + 1) * clk s * 16 + ld))) ∧
        (t.port p).reqAt = none ∧ t.fbkStat p 4 = false ∧
        (∃ g, (t.port p).undo = some g ∧ g.pos = s.fbkPos p ∧ g.time = s.plus r (ld / 2) ∧ g.posStands = false ∧ g.cmpStands = false) ∧
        t.fbkStat p 0 = true ∧ t.pair (Reg.FBK_SSIRAW_L p) (Reg.FBK_SSIRAW_H p) = raw ∧
        t.pair (Reg.FBK_ETIME_L p) (Reg.FBK_ETIME_H p) = s.plus r (ld / 2) % 2 ^ 64 ∧ t.fld (Reg.FBK_LDLY p) 0 24 = ld ∧
        (let top := raw / 2 ^ (n - pb)
         (s.bit (Reg.FBK_SSICFG p) 14 = false → t.fbkPos p = top) ∧
         (s.bit (Reg.FBK_SSICFG p) 14 = true → Nat.xor (t.fbkPos p) (t.fbkPos p / 2) = top)) ∧ t.tb = s.tb ∧ t.cuffs = s.cuffs)) ∧
    (∀ t0 u, k.ended = some t0 → k.undo = some u → s.fbkOn p 2 = true → t0 + s.fld (Reg.FBK_SSITM p) 0 16 ≤ s.tick →
      let line := s.cuff (k.base + 2)
      let good := line.pad = true ∧ line.padTick ≤ t0 + s.fld (Reg.FBK_SSITM p) 0 16
      (good → exec (.ssiRecoveryTimeout p) s = .next (s.setPort p { k with ended := none, undo := none })) ∧
      (¬good → u.regs.length = 12 → ∃ t : State, exec (.ssiRecoveryTimeout p) s = .next t ∧ t.bit (Reg.FBK_ERR p) 7 = true ∧
        t.port p = { k with ended := none, undo := none, quad := none, prevPos := u.prevPos, lastTick := u.lastTick,
                            lastCount := u.lastCount, trail := if u.posStands then k.trail else u.trail,
                            hits := k.hits.filter (· ≠ u.time), latches := u.latches ++ k.latches } ∧
        t.fbkPos p = (if u.posStands then s.fbkPos p else u.pos % 2 ^ 40) ∧
        t.fbkCmp p = (if u.cmpStands then s.fbkCmp p else (s.fbkCmp p + 2 ^ 40 - u.cmp) % 2 ^ 40) ∧
        (u.en = true → t.bit (Reg.FBK_CMPCFG p) 0 = true) ∧
        t.fld (Reg.FBK_HSTAT p) 16 16 = (s.fld (Reg.FBK_HSTAT p) 16 16 + 2 ^ 16 - u.hitN) % 2 ^ 16 ∧
        (s.fld (Reg.FBK_LDLY p) 0 24 = u.ldly.2 → t.fld (Reg.FBK_LDLY p) 0 24 = u.ldly.1 % 2 ^ 24) ∧
        (∀ i < 12, t.regN ((frameRegs p).getD i 0) =
          if s.fbkStat p 2 = true ∧ (i = 2 ∨ i = 3) then 0 else u.regs.getD i 0 % 2 ^ 32) ∧
        t.fbkStat p 1 = bitAt u.stat 1 ∧ t.fbkStat p 2 = (s.fbkStat p 2 || bitAt u.stat 2) ∧ t.fbkStat p 3 = bitAt u.stat 3 ∧
        t.fbkStat p 0 = (s.fbkStat p 0 && (bitAt u.stat 0 || u.validStands)) ∧ t.cuffs = s.cuffs)) ∧
    (s.headReady 4 p 0x0E = some f →
      (s.fbkMode p ≠ 2 → exec (.fbkLatch p) s = .next (kept.finish f)) ∧
      (s.fbkMode p = 2 → s.fbkOn p 2 = true → ∃ t : State, exec (.fbkLatch p) s = .next (t.finish f) ∧ request kept t f.due)) ∧
    (∀ l, s.fbkMode p < 2 → k.latches = [l] → k.marks = [] →
      s.reached (s.plus l.1 ((s.fld (Reg.FBK_CFG p) 8 8 + 8) * 16)) = true →
      let t := s.latchTick p
      (t.port p).latches = [] ∧ t.pair (Reg.FBK_LPOS_L p) (Reg.FBK_LPOS_H p) = s.posAt p l.1 % 2 ^ 64 ∧
      (k.trail = [] → s.posAt p l.1 = s.fbkPos p) ∧
      t.pair (Reg.FBK_LSPD_L p) (Reg.FBK_LSPD_H p) = s.speedAt p l.1 % 2 ^ 64 ∧
      (k.past = [] → s.speedAt p l.1 = s.boundSpeed p (s.pair (Reg.FBK_SPEED_L p) (Reg.FBK_SPEED_H p)) k.likes.head? l.1) ∧
      t.pair (Reg.FBK_LTIME_L p) (Reg.FBK_LTIME_H p) = l.1 % 2 ^ 64 ∧ t.cuffs = s.cuffs)

/-! ### Ensembles (R224-R243) -/

/-- R226, R228, R230-R234, R243: Nelvi frames, who is alive, who leads, and a member's state. -/
def Obligations.EnsembleMembership : Prop :=
  ∀ (s : State) (h : NelviHeader), h.port < 4 →
    let me := s.fld Reg.ENS_CFG 1 4
    let st (u : State) := u.fld Reg.ENS_STATUS 0 3
    let on := s.bit Reg.ENS_CFG 0 = true ∧ s.bit (Reg.ENP_CFG h.port) 0 = true ∧ s.ensPorts.contains h.port = true ∧
      s.mode ≠ Mode.off ∧ s.mode ≠ Mode.boot ∧ s.mode ≠ Mode.doze ∧ s.pwr.entering = false ∧ s.pairUp 1 = true ∧
      s.portDown h.port = false
    let known := h.macOk = true ∧ h.ensemble = s.regN Reg.ENS_ID ∧ h.sender < 16 ∧ s.bit (Reg.ENS_MPRIO h.sender) 8 = true ∧
      h.sender ≠ me
    let run := s.fld Reg.ENS_VER 16 8
    let version := run ≠ 0 ∧ h.ver = run
    let k := s.member h.sender
    let newer := ∀ l, k.seq = some l → 1 ≤ (h.seq % 65536 + 65536 - l) % 65536 ∧ (h.seq % 65536 + 65536 - l) % 65536 < 32768
    let silent := ∀ t, k.lastTick = some t → t + 3 * (s.fld Reg.ENS_HBPER 0 16 * 1500) ≤ s.tick
    let term := h.term % 2 ^ 20
    let e := s.leaderEdge h.port h.sender h.stamp
    let u := (e.setMember h.sender { k with lastTick := some s.tick, gone := false, seq := some (h.seq % 65536) }).setFld
      Reg.ENS_TERM 0 20 (max (s.fld Reg.ENS_TERM 0 20) term)
    let leads (v : State) := st v ≠ 3 ∧ v.fld Reg.ENS_STATUS 5 4 = h.sender
    let dead (t : State) (m : Nat) := (t.member m).gone = true ∧ bitAt (t.fld Reg.ENS_STATUS 16 16) m = false
    let counted (c : Instr) (r : Nat) := ∃ t : State, exec c s = .next t ∧ t.regN r = min (2 ^ 32 - 1) (s.regN r + 1) ∧ OnlyRegs [r] s t
    let dup (c : Instr) := ∃ t : State, exec c s = .next t ∧ t.regN Reg.ENS_DUP = min (2 ^ 32 - 1) (s.regN Reg.ENS_DUP + 1) ∧
      OnlyRegs [Reg.ENS_DUP] e t
    let frames (t : State) (n kind len : Nat) := ∃ f ∈ (t.enp n).queue, f.kind = kind ∧ f.body.length = 16 + len
    (∀ a b c d e f recs id, id < 2 ^ 32 →
      let hello := Instr.hello h a b c d e f
      (on → ¬known → ∀ x ∈ [hello, .digest h a b, .prepare h id a recs, .ack h id a b, .commit h id, .cancel h id, .heartbeat h a b c d,
        .lastgasp h a], counted x (Reg.ENP_RXOTHER h.port)) ∧
      (on → known → run ≠ 0 → h.ver ≠ run → (∀ x ∈ [Instr.digest h a b, .prepare h id a recs, .ack h id a b, .commit h id, .cancel h id,
        .lastgasp h a], counted x (Reg.ENP_RXOTHER h.port)) ∧ (h.ver ≠ a → counted (.heartbeat h a b c d) (Reg.ENP_RXOTHER h.port))) ∧
      (on → known → version → ¬newer → ∀ x ∈ [Instr.digest h a b, .prepare h id a recs, .ack h id a b, .commit h id, .cancel h id,
        .heartbeat h a b c d, .lastgasp h a], dup x) ∧
      (on → known → ¬newer → ¬silent → dup hello)) ∧
    (on → known → newer ∨ silent → ∀ serial prio vmin vmax state digest,
      let v := u.setMember h.sender { u.member h.sender with
        vmin := vmin, vmax := vmax, claims := if state = 3 then some h.term else none }
      (¬leads u → exec (.hello h serial prio vmin vmax state digest) s = .next v.elect) ∧
      (leads u → digest = s.ensDigest → exec (.hello h serial prio vmin vmax state digest) s = .next v.elect) ∧
      (leads u → digest ≠ s.ensDigest → ∃ t : State, exec (.hello h serial prio vmin vmax state digest) s = .next t.elect ∧
        st t = 4 ∧ (st s ≠ 4 → t.bit (Reg.PG_ERR 0xC0) 17 = true) ∧ t.ens = { v.ens with phase := none })) ∧
    (on → known → version → newer →
      (∀ digest gen, (¬leads u ∨ digest = s.ensDigest → exec (.digest h digest gen) s = .next u.elect) ∧
        (leads u → digest ≠ s.ensDigest → ∃ t : State, exec (.digest h digest gen) s = .next t.elect ∧ st t = 4 ∧
          (st s ≠ 4 → t.bit (Reg.PG_ERR 0xC0) 17 = true) ∧ t.ens = { u.ens with phase := none })) ∧
      (∀ cause, ∃ t : State, exec (.lastgasp h cause) s = .next t.elect ∧ dead t h.sender ∧
        ∀ l ∈ s.ens.cache, l.waits = true → h.sender ∈ l.parts → s.reached (s.deadlineA l) = false →
          ∃ l' ∈ t.ens.cache, l'.id = l.id ∧ l'.cancel = true)) ∧
    (on → known → newer →
      let v := u.setMember h.sender { u.member h.sender with claims := some term }
       let follows := st s ≠ 3 ∧ v.updAlive.aliveByRank.head? = some h.sender
       ∀ r alive digest cal, r < 256 → version ∨ h.ver = r →
        (follows → digest ≠ s.ensDigest → ∃ t : State, exec (.heartbeat h r alive digest cal) s = .next t.elect ∧ st t = 4 ∧
          (st s ≠ 4 → t.bit (Reg.PG_ERR 0xC0) 17 = true)) ∧
        (follows → digest = s.ensDigest → r < s.fld Reg.ENS_VER 0 8 ∨ s.fld Reg.ENS_VER 8 8 < r →
          ∃ t : State, exec (.heartbeat h r alive digest cal) s = .next t.elect ∧ st t = 5 ∧ (st s ≠ 5 → t.bit (Reg.PG_ERR 0xC0) 18 = true)) ∧
        (follows → digest = s.ensDigest → s.fld Reg.ENS_VER 0 8 ≤ r → r ≤ s.fld Reg.ENS_VER 8 8 →
          ∃ t : State, exec (.heartbeat h r alive digest cal) s = .next t.elect ∧ st t = 2 ∧ t.fld Reg.ENS_VER 16 8 = r ∧
            t.fld Reg.ENS_STATUS 5 4 = h.sender ∧ (cal ≠ 0 → t.ens.calAt = some cal) ∧ t.ens.members = v.ens.members) ∧
        (st s = 3 → s.fld Reg.ENS_TERM 0 20 = term → s.ranksBefore h.sender me = true →
          ∃ t : State, exec (.heartbeat h r alive digest cal) s = .next t.elect ∧ st t ≠ 3 ∧ t.ens.members = v.ens.members)) ∧
    (∀ m < 16, s.ensUp = true → m ≠ me → (s.member m).gone = false → (∀ t, (s.member m).lastTick = some t →
        t + 3 * (s.fld Reg.ENS_HBPER 0 16 * 1500) ≤ s.tick) → ∃ t : State, exec (.memberTimeout m) s = .next t ∧ dead t m) ∧
    (s.ensUp = true → s.bit (Reg.ENS_MPRIO me) 8 = true → (∀ t0, s.ens.hbAt = some t0 →
        t0 + s.fld Reg.ENS_HBPER 0 16 * 1500 ≤ s.tick) → ∃ t : State, exec .hbperTimer s = .next t ∧ t.ens.hbAt = some s.tick ∧
      (∀ n ∈ s.ensPorts, frames t n 1 44) ∧
      (s.updAlive.aliveByRank.head? = some me → st s = 3 → (∀ n ∈ s.ensPorts, frames t n 7 43) ∧ t.fld Reg.ENS_STATUS 5 4 = me ∧
        (s.ens.calReq = true → t.ens.calReq = false ∧ ∃ n, t.ens.calAt =
          some (s.plus s.tb.now (4 * (s.fld Reg.ENS_HBPER 0 16 * 1500) * 16 + n)))) ∧
      (s.updAlive.aliveByRank.head? = some me → st s ≠ 3 → s.updAlive.claimed = false → st t = 3 ∧
        t.fld Reg.ENS_TERM 0 20 = (s.fld Reg.ENS_TERM 0 20 + 1) % 2 ^ 20 ∧ (∀ n ∈ s.ensPorts, frames t n 7 43)) ∧
      (∀ b, s.updAlive.aliveByRank.head? = some b → b ≠ me → t.fld Reg.ENS_STATUS 5 4 = b ∧ st t ≠ 3) ∧
      ∀ m < 16, bitAt (t.fld Reg.ENS_STATUS 16 16) m = s.ensAlive m)

/-- R226-R229, R241, R245: foreign frames, gPTP and the phase of the leader's transitions, transmission and PLCA. -/
def Obligations.EnsembleTimeAndPorts : Prop :=
  ∀ (s : State) (n : Nat), n < 4 →
    let cfg := Reg.ENP_CFG n
    let live := s.mode ≠ Mode.off ∧ s.mode ≠ Mode.doze
    let on := s.bit cfg 0 = true ∧ s.portDown n = false
    let up := s.ensUp = true ∧ on ∧ s.ensPorts.contains n = true
    let taken := up ∧ s.mode ≠ Mode.doze
    let e := s.enp n
    let counted (c : Instr) (r : Nat) := ∃ t : State, exec c s = .next t ∧ t.regN r = min (2 ^ 32 - 1) (s.regN r + 1) ∧ OnlyRegs [r] s t
    let adds (c : Instr) (k : Enp) (fs : List TxFrame) := exec c s = .next (s.setEnp n { k with queue := e.queue ++ fs })
    let due (last : Option Nat) (ticks : Nat) := ∀ t0, last = some t0 → t0 + ticks ≤ s.tick
    let leader := s.fld Reg.ENS_STATUS 0 3 = 3
    let next := (s.tb.now + 2399) / 2400 * 2400
    let start := if ¬leader then s.tb.now else if next < s.circle then next else 0
    let follows (m : Nat) := taken ∧ s.fld Reg.ENS_STATUS 0 3 ≠ 3 ∧ s.fld Reg.ENS_STATUS 0 3 < 4 ∧ s.fld Reg.ENS_STATUS 5 4 = m ∧
      s.ensAlive m = true ∧ s.followPort = some n
    let leads (m : Nat) := s.fld Reg.ENS_STATUS 0 3 ≠ 3 ∧ s.fld Reg.ENS_STATUS 5 4 = m ∧ s.ensAlive m = true
    (on → live → counted (.foreignFrame n 0) (Reg.ENP_RXERR n)) ∧
    (on → live → ∀ why ∈ [1, 2, 3], counted (.foreignFrame n why) (Reg.ENP_RXOTHER n)) ∧
    exec (.foreignFrame n 4) s = .next s ∧
    (up → (due e.pdAt 1500000000 → adds (.gptpInterval n true) { e with pdAt := some s.tick } [{ kind := 0x102 }]) ∧
      (¬due e.pdAt 1500000000 → exec (.gptpInterval n true) s = .next s) ∧
      (leader → due e.syncAt 187500000 →
        adds (.gptpInterval n false) { e with syncAt := some s.tick } [{ kind := 0x100 }, { kind := 0x105 }]) ∧
      (¬leader ∨ ¬due e.syncAt 187500000 → exec (.gptpInterval n false) s = .next s)) ∧
    (taken → ∀ a, adds (.pdelayReq n a) e [{ kind := 0x103, body := [a] }]) ∧
    (∀ m a b, let from_ : GptpHeader := { port := n, sender := m }
      (taken → leads m → exec (.pdelayResp from_ a b) s = .next (s.setEnp n { e with pdT2 := a, pdT4 := b }) ∧
        ∃ t : State, exec (.pdelayRespFollowUp from_ a) s = .next t ∧ OnlyRegs [Reg.ENP_PDELAY n] s t ∧
          t.fld (Reg.ENP_PDELAY n) 0 24 = (s.minus e.pdT4 e.pdT1 - s.minus a e.pdT2) / 2 % 2 ^ 24) ∧
      (¬taken ∨ ¬leads m → exec (.pdelayResp from_ a b) s = .next s ∧ exec (.pdelayRespFollowUp from_ a) s = .next s)) ∧
    (∀ m, exec (.announce n m) s = .next s) ∧
    (∀ m, follows m → ∀ stamp, exec (.sync n m stamp) s = .next { s with ens := { s.ens with syncT := some (stamp % s.circle) } }) ∧
    (∀ m origin, ¬follows m → exec (.sync n m origin) s = .next s ∧ exec (.followUp n m origin) s = .next s) ∧
    (∀ m rx origin, follows m → s.ens.syncT = some rx →
      let d := s.fld (Reg.ENP_PDELAY n) 0 24
      let gptp := s.sdiff rx (s.plus origin d)
      let near := match s.ens.phase with
        | some (y, ph) => if y = n then ph - s.stepRem else gptp
        | none => gptp
      ∃ (r : Int) (t : State), exec (.followUp n m origin) s = .next t ∧
        -600 ≤ r - near ∧ r - near ≤ 600 ∧ (r - (s.minus rx d : Int)) % 1200 = 0 ∧
        let tracks := (gptp - r).natAbs ≤ 600
        let off := if tracks then r else gptp
        t.bit Reg.ENS_STATUS 4 = decide tracks ∧ t.ens = { s.ens with
          syncT := none, measured := true, offset := t.ens.offset, phase := t.ens.phase, gptp := t.ens.gptp } ∧
        t.ens.phase = (if tracks then some (n, t.ens.offset + t.stepRem) else none) ∧
        (s.tbValid = true → 1048576 < off.natAbs → t.tb = s.tb ∧ t.bit (Reg.PG_ERR 0xC0) 19 = true ∧
          t.regN Reg.ENS_OFFSET = unsigned 32 off ∧ t.ens.offset = off ∧ t.stepRem = s.stepRem) ∧
        (s.fld Reg.TB_CTRL 0 2 = 1 → s.coarse = false →
          (s.tbValid = true → off.natAbs ≤ 1048576 → t.tb.now = s.tb.now ∧ t.stepRem = -off ∧ t.fld Reg.TB_SLEW 0 16 = 16 ∧
            t.regN Reg.ENS_OFFSET = unsigned 32 off ∧ t.ens.offset = off) ∧
          (s.tbValid = false → (t.tb.now : Int) = ((s.tb.now : Int) - off) % s.circle ∧ t.stepRem = 0 ∧
            t.regN Reg.ENS_OFFSET = 0 ∧ t.ens.offset = 0 ∧
            (s.pwr.refOk = true → s.pwr.locked = true → s.bit Reg.TB_STATUS 1 = false → t.tbValid = true)))) ∧
    (∀ m stamp, (¬follows m ∨ s.ens.phase = none → s.leaderEdge n m stamp = s) ∧
      ∀ ph, follows m → s.ens.phase = some (n, ph) →
        let t := s.leaderEdge n m stamp
        let gptp := s.ens.gptp - s.stepRem
        ∃ r : Int, -600 ≤ r - (ph - s.stepRem) ∧ r - (ph - s.stepRem) ≤ 600 ∧
          (r - (s.minus (stamp % s.circle) (s.fld (Reg.ENP_PDELAY n) 0 24) : Int)) % 1200 = 0 ∧
          t.bit Reg.ENS_STATUS 4 = decide ((gptp - r).natAbs ≤ 600) ∧ (600 < (gptp - r).natAbs → t.ens.phase = none) ∧
          (s.tbValid = true → t.ens.offset = if (gptp - r).natAbs ≤ 600 then r else gptp)) ∧
    (∀ f rest, e.queue = f :: rest → on → live → s.pairUp 1 = true →
      let late := ∃ t, f.until_ = some t ∧ s.reached t = true
      let left (t : State) := t.enp n = { e with queue := rest }
      (late → ∀ o, ∃ t : State, exec (.frameTransmit n o) s = .next t ∧ left t ∧
        t.regN (Reg.ENP_DROP n) = min (2 ^ 32 - 1) (s.regN (Reg.ENP_DROP n) + 1)) ∧
      (¬late → s.fld Reg.ENS_CFG 12 2 ≤ f.tries → ∀ o, o ≠ .sent → ∃ t : State, exec (.frameTransmit n o) s = .next t ∧ left t ∧
        t.regN (Reg.ENP_COLL n) = (if o = .collided then min (2 ^ 32 - 1) (s.regN (Reg.ENP_COLL n) + 1) else s.regN (Reg.ENP_COLL n)) ∧
        t.regN (Reg.ENP_DROP n) = min (2 ^ 32 - 1) (s.regN (Reg.ENP_DROP n) + 1)) ∧
      (¬late → f.tries < s.fld Reg.ENS_CFG 12 2 → ∀ o, o ≠ .sent → ∃ t : State, exec (.frameTransmit n o) s = .next t ∧
        t.enp n = { e with queue := { f with tries := f.tries + 1 } :: rest } ∧ t.reg (Reg.ENP_DROP n) = s.reg (Reg.ENP_DROP n) ∧
        t.regN (Reg.ENP_COLL n) = (if o = .collided then min (2 ^ 32 - 1) (s.regN (Reg.ENP_COLL n) + 1) else s.regN (Reg.ENP_COLL n))) ∧
      (¬late → ∃ t : State, exec (.frameTransmit n .sent) s = .next t ∧ t.out = s.out ++ [
          if 0x100 ≤ f.kind then .gptp n start (s.fld Reg.ENS_ETYPE 16 8) f.kind f.body
          else .frame n start (s.pair Reg.ENS_DMAC_L Reg.ENS_DMAC_H % 2 ^ 48)
            (s.pair (Reg.ENP_MAC_L n) (Reg.ENP_MAC_H n) % 2 ^ 48) (s.fld Reg.ENS_ETYPE 0 16) f.body] ∧
        (f.kind < 0x100 → t.enp n = { e with queue := rest }) ∧
        (f.kind = 0x100 → t.enp n = { e with queue := rest ++ [{ kind := 0x101, body := [start] }] }) ∧
        (f.kind = 0x103 → t.enp n = { e with queue := rest ++ [{ kind := 0x104, body := [start] }] }) ∧
        (f.kind = 0x102 → t.enp n = { e with queue := rest, pdT1 := start }) ∧ t = { s with out := t.out, enps := t.enps })) ∧
    (on → s.bit cfg 1 = true → live →
      (∃ t : State, exec (.beacon n) s = .next t ∧ t.fld (Reg.ENP_STATUS n) 1 2 = 3 ∧ t.enp n = { e with lastBeacon := some s.tick } ∧
        t.out = (if s.fld cfg 8 8 = 0 then s.out ++ [.beacon n] else s.out) ∧
        (∀ r, r ≠ Reg.ENP_STATUS n → r ≠ Reg.ENS_STATUS → t.reg r = s.reg r) ∧
        (s.ens.phase = none → t.reg Reg.ENS_STATUS = s.reg Reg.ENS_STATUS)) ∧
      (∀ t0, e.lastBeacon = some t0 → s.fld cfg 8 8 ≠ 0 → t0 + 8 * s.wcyc ≤ s.tick → ∃ t : State, exec (.plcaLost n) s = .next t ∧
        t.fld (Reg.ENP_STATUS n) 1 2 = 0 ∧ t.bit (Reg.PG_ERR (0xC1 + n)) 16 = true ∧ t.srcPend (0x3424 + n) = true ∧
        t.enp n = { e with lastBeacon := none }))

/-- R233, R235-R242: launches, from the leader's request to the decision at D, and the strobe. -/
def Obligations.EnsembleLaunches : Prop :=
  ∀ (s : State) (h : NelviHeader) (id : Nat) (l : Launch), h.port < 4 → id < 2 ^ 32 →
    let me := s.fld Reg.ENS_CFG 1 4
    let st := s.fld Reg.ENS_STATUS 0 3
    let run := s.fld Reg.ENS_VER 16 8
    let k := s.member h.sender
    let term := h.term % 2 ^ 20
    let heard := s.ensUp = true ∧ s.bit (Reg.ENP_CFG h.port) 0 = true ∧ s.ensPorts.contains h.port = true ∧ s.mode ≠ Mode.doze ∧
      s.portDown h.port = false ∧ s.pwr.entering = false ∧ run ≠ 0 ∧ s.nelviFits h false = true ∧ newerSeq k.seq h.seq = true
    let e := s.leaderEdge h.port h.sender h.stamp
    let u := (e.setMember h.sender { k with lastTick := some s.tick, gone := false, seq := some (h.seq % 65536) }).setFld
      Reg.ENS_TERM 0 20 (max (s.fld Reg.ENS_TERM 0 20) term)
    let stale := term < s.fld Reg.ENS_TERM 0 20
    let sends (t : State) (kind : Nat) (body : List Nat) := ∀ n ∈ s.ensPorts, ∃ f ∈ (t.enp n).queue, f.kind = kind ∧ f.body.drop 16 = body
    let holds (t : State) (p : Launch → Prop) := ∃ l' ∈ t.ens.cache, l'.id = id ∧ p l'
    let lid := bytesBE 4 id
    (heard → stale → ∀ time recs, exec (.prepare h id time recs) s = .next ((u.incSat Reg.ENS_STALE 0 32).elect) ∧
      exec (.commit h id) s = .next ((u.incSat Reg.ENS_STALE 0 32).elect)) ∧
    (heard → ¬stale → u.launch id = some l → ∀ time recs, ∃ t : State, exec (.prepare h id time recs) s = .next t.elect ∧
      t.ens.cache = s.ens.cache ∧ sends t 4 (lid ++ [l.ack % 256, l.ackRec % 256])) ∧
    (heard → ¬stale → u.launch id = none → ∀ time recs,
      let named := me ∈ recs.map (fun r => r.member % 16) ∨ (h.strobe = true ∧ u.ensAlive me = true)
      (¬named → st < 4 → exec (.prepare h id time recs) s = .next u.elect) ∧
      (named ∨ 4 ≤ st → ∃ (t : State) (x : Launch), exec (.prepare h id time recs) s = .next t.elect ∧
        t.ens.cache.getLast? = some x ∧ x.id = id ∧ x.time = time % s.circle ∧ x.recs = recs ∧ x.strobe = h.strobe ∧ x.decided = none ∧
        x.mine = false ∧ sends t 4 (lid ++ [x.ack % 256, x.ackRec % 256]) ∧
        (st = 4 → x.ack = 0x13) ∧ (st = 5 → x.ack = 0x15) ∧
        (st ≠ 4 → st ≠ 5 → u.bit Reg.ENS_STATUS 3 = false → x.ack = 0x16) ∧
        (st ≠ 4 → st ≠ 5 → u.bit Reg.ENS_STATUS 3 = true →
          let own (i : Nat) (r : LaunchRec) := recs[i]? = some r ∧ r.member % 16 = me
          let fit := ∀ i r, own i r → u.recordFits r = true
          let lead := ∀ i r, own i r → u.leadFits r = true
          let far := u.atOrAfter time (u.plus u.tb.now ((u.ensGuard + u.ensBudget) * 16)) = true
          (∀ i r, own i r → u.recordFits r = false → (∀ j < i, ∀ y, own j y → u.recordFits y = true) → x.ack = 0x08 ∧ x.ackRec = i) ∧
          (fit → ∀ i r, own i r → u.leadFits r = false → (∀ j < i, ∀ y, own j y → u.leadFits y = true) → x.ack = 0x04 ∧ x.ackRec = i) ∧
          (fit → lead → far → x.ack = 0) ∧ (fit → lead → ¬far → x.ack = 0x04)))) ∧
    (heard → u.launch id = none → exec (.cancel h id) s = .next u.elect ∧ (¬stale → exec (.commit h id) s = .next u.elect) ∧
      ∀ a b, exec (.ack h id a b) s = .next u.elect) ∧
    (heard → u.launch id = some l → l.mine = true → st = 3 →
      let m := h.sender % 16
      let all := ∀ p ∈ l.parts, p ∈ l.acked ∨ p = m
      let waits := l.commit = false ∧ l.cancel = false
      ∀ status record,
      (u.reached (u.deadlineA l) = true → exec (.ack h id status record) s = .next ((u.incSat Reg.ENS_LATE 0 32).elect)) ∧
      (u.reached (u.deadlineA l) = false → waits → m ∉ l.parts → exec (.ack h id status record) s = .next u.elect) ∧
      (u.reached (u.deadlineA l) = false → waits → m ∈ l.parts → status ≠ 0 → ∃ t : State, exec (.ack h id status record) s = .next t.elect ∧
        holds t (fun x => x.cancel = true ∧ x.commit = false) ∧ sends t 6 lid) ∧
      (u.reached (u.deadlineA l) = false → waits → m ∈ l.parts → status = 0 → all → u.fld Reg.ENS_TERM 0 20 = id / 4096 → ∃ t : State, exec (.ack h id status record) s = .next t.elect ∧
        holds t (fun x => x.commit = true ∧ x.cancel = false) ∧ sends t 5 lid) ∧
      (u.reached (u.deadlineA l) = false → waits → m ∈ l.parts → status = 0 → ¬all ∨ u.fld Reg.ENS_TERM 0 20 ≠ id / 4096 → ∃ t : State, exec (.ack h id status record) s = .next t.elect ∧
        holds t (fun x => m ∈ x.acked ∧ x.commit = false ∧ x.cancel = false) ∧ t.enps = s.enps)) ∧
    (heard → u.launch id = some l → l.mine = false →
      (u.reached (u.deadlineD l) = true → exec (.cancel h id) s = .next ((u.incSat Reg.ENS_LATE 0 32).elect) ∧
        (¬stale → exec (.commit h id) s = .next ((u.incSat Reg.ENS_LATE 0 32).elect))) ∧
      (u.reached (u.deadlineD l) = false → l.decided ≠ none → exec (.cancel h id) s = .next u.elect ∧
        (¬stale → exec (.commit h id) s = .next u.elect)) ∧
      (u.reached (u.deadlineD l) = false → l.decided = none →
        exec (.cancel h id) s = .next ((u.putLaunch { l with commit := false, cancel := true }).elect) ∧
        (¬stale → exec (.commit h id) s = .next ((u.putLaunch { l with commit := true, cancel := false }).elect)))) ∧
    (s.ensUp = true → ∃ t : State, exec .ackDeadline s = .next t ∧
      (∀ x ∈ s.ens.cache, x.waits = true → s.reached (s.deadlineA x) = true → ∃ y ∈ t.ens.cache, y.id = x.id ∧ y.cancel = true) ∧
      (∀ r, r ≠ Reg.ENS_LSTAT → t.reg r = s.reg r) ∧ t = { s with regs := t.regs, ens := t.ens, enps := t.enps }) ∧
    (s.ensUp = true → s.launch id = some l → l.decided = none → me ∈ l.parts → s.reached (s.deadlineD l) = true →
      let valid := s.bit Reg.ENS_STATUS 3
      let go := decide (l.ack = 0) && valid && (if l.strobe = true ∧ l.mine = false then decide (l.seen ≠ []) else l.commit)
      let x := { l with decided := some go, cancel := l.cancel || (l.mine && !l.commit) }
      let status := if go then 0x00 else if valid then 0x14 else 0x16
      let once := l.strobe = true ∧ l.seen ≠ [] ∧ ∃ p ∈ bitList 2 (s.fld Reg.ENS_STB 0 2), p ∉ l.seen
      let done (w : State) (n : Nat) := (w.logRecord (w.fld Reg.ENS_LOGQ 0 20) (launchRecord l.time 0 status n id)).raise 0x3422
      let own := l.recs.filter fun r => decide (r.member % 16 = me) && (r.hold == !go)
      (∃ t : State, exec (.commitDeadline id) s = .next t ∧ x ∈ t.ens.cache ∧ t.srcPend 0x3422 = true ∧
        (once → t.bit (Reg.PG_ERR 0xC0) 20 = true)) ∧
      (¬once → own = [] → exec (.commitDeadline id) s = .next (done (s.putLaunch x) 0)) ∧
      (¬once → ∀ r q w, own = [r] → s.launchQueue r.lq = some q →
        let y := s.queue q
        (s.putLaunch x).slabWrite y.tenant (y.entryAddr y.tail) 16 (toEntry { r.act with time := s.plus l.time r.act.time }) 0 = .ok () w →
        let v := w.doorbell y.tenant q ((y.tail + 1) % 2 ^ y.log2)
        (v.queue q).tail ≠ y.tail ∨ (v.queue q).heldDb ≠ none → exec (.commitDeadline id) s = .next (done v 0))) ∧
    (s.ensUp = true → s.ens.cache.find? (fun l => l.mine && l.strobe && l.commit && !l.pulsed && s.reached (s.strobeTime l)) = some l →
      exec .strobePulse s = .next ((s.putLaunch { l with pulsed := true }).send (.strobe (s.minus (s.deadlineD l) 16384)))) ∧
    (∀ p stamp, p < 2 → s.ensUp = true → bitAt (s.fld Reg.ENS_STB 0 2) p = true →
      let inside (l : Launch) := l.strobe && decide (l.decided = none) &&
        decide ((s.sdiff stamp (s.strobeTime l) - s.strobeDelay p).natAbs ≤ 1024)
      (s.ens.cache.find? inside = some l → p ∉ l.seen → exec (.strobeEdge p stamp) s = .next (s.putLaunch { l with seen := l.seen ++ [p] })) ∧
      (s.ens.cache.find? inside = none → s.ens.calAt = none → ∃ t : State, exec (.strobeEdge p stamp) s = .next t ∧
        t.regN Reg.ENS_STBSPUR = min (2 ^ 32 - 1) (s.regN Reg.ENS_STBSPUR + 1) ∧ OnlyRegs [Reg.ENS_STBSPUR] s t) ∧
      (∀ t0, s.ens.cache.find? inside = none → s.ens.calAt = some t0 → (s.sdiff stamp t0).natAbs < 2 ^ 23 → s.bit Reg.ENS_STATUS 3 = true →
        ∃ t : State, exec (.strobeEdge p stamp) s = .next t ∧ t.strobeDelay p = s.sdiff stamp t0 ∧ p ∈ t.ens.calSeen ∧
          ∀ r, r ≠ Reg.ENS_STBDLY p → t.reg r = s.reg r)) ∧
    (∀ v < 2 ^ 32, s.pfPage 0xC0 = true →
      let d := s.drainBuf 0
      let lead := d.fld Reg.ENS_STATUS 0 3 = 3
      let a := d.fld Reg.ENS_LBUF 0 26
      let code (t : State) := t.fld Reg.ENS_LCTRL 8 8
      let no (c : Nat) := ∃ t : State, exec (.ensLctrlGo v) s = .next t ∧ code t = c ∧ t.ens = d.ens ∧ t.enps = d.enps
      (∃ t : State, exec (.ensStbCal v) s = .next t ∧ t.ens = { d.ens with calReq := d.ens.calReq || decide lead } ∧
        (d.pageArmed 0xC0 = false → ∀ i < 2, (t.staged Reg.ENS_STB).getLsbD i = bitAt v i)) ∧
      (¬lead → no 0x08) ∧
      (lead → ∀ c w, d.readSpan a 16 = .bad c w → exec (.ensLctrlGo v) s = .next (w.launchCode c)) ∧
      (lead → ∀ b w, d.readSpan a 16 = .ok b w →
        let n := bits b 104 8
        let T := bits b 32 60
        let strobe := bitAt b 96
        (n = 0 ∨ 64 < n → no 0x08) ∧
        (1 ≤ n → n ≤ 64 → ∀ recs y, w.readLaunch a n = .ok recs y →
          let long := ∃ p ∈ y.ensPorts, y.fld (Reg.ENP_PLCA p) 16 11 < 50 + 20 * recs.length
          let near := strobe = true ∧ ∃ x ∈ y.ens.cache, x.strobe = true ∧
            (y.sdiff (y.deadlineD x) (y.minus T (y.ensGuard * 16))).natAbs ≤ 65536 * 16
          let ample := y.atOrAfter T (y.plus y.tb.now ((y.ensGuard + 3 * y.ensBudget) * 16)) = true
          let uncal := strobe = true ∧ y.ens.calDone = false
          let lid := y.fld Reg.ENS_TERM 0 20 * 4096 + y.ens.counter % 4096
          (long → no 0x07) ∧ (¬long → near → no 0x07) ∧ (¬long → ¬near → uncal → no 0x08) ∧
          (¬long → ¬near → ¬uncal → ¬ample → no 0x04) ∧
          (¬long → ¬near → ¬uncal → ample → y.launch lid = none → ∀ z, y.writeSpan a 4 lid = .ok () z →
            ∃ (t : State) (x : Launch), exec (.ensLctrlGo v) s = .next t ∧ code t = 0 ∧ t.regN Reg.ENS_LID = lid ∧
              t.ens.counter = y.ens.counter + 1 ∧ x ∈ t.ens.cache ∧ x.id = lid ∧ x.mine = true ∧ x.time = T % y.circle ∧ x.strobe = strobe ∧
              x.recs = recs ∧ ∀ p ∈ y.ensPorts, ∃ f ∈ (t.enp p).queue, f.kind = 3 ∧
                f.body.drop 16 = bytesBE 4 lid ++ bytesBE 8 T ++ [b2n strobe, n, 0, 0] ++ recs.flatMap recordBytes)))) ∧
    (∀ t0, s.ens.calAt = some t0 → s.ensUp = true → s.reached t0 = true →
      (st = 3 → s.ens.calPulsed = false → exec .strobeCalibration s =
        .next ({ s with ens := { s.ens with calPulsed := true } }.send (.strobe t0))) ∧
      (st ≠ 3 ∨ s.ens.calPulsed = true → s.ens.calSeen ≠ [] → exec .strobeCalibration s =
        .next { s with ens := { s.ens with calAt := none, calPulsed := false, calSeen := [], calDone := true } }) ∧
      (st ≠ 3 ∨ s.ens.calPulsed = true → s.ens.calSeen = [] → ∃ t : State, exec .strobeCalibration s = .next t ∧
        t.ens = { s.ens with calAt := none, calPulsed := false } ∧ t.bit (Reg.PG_ERR 0xC0) 20 = true ∧ t.srcPend 0x3423 = true))

/-! ### The host interface (R246-R271, R282, R283, R313) -/

/-- R112, R246, R248, R250, R251, R270: BAR2 reads and writes through a function's write buffer; an AtomicOp, and a read in D3hot, are answered with Unsupported Request; a write waits while a buffer is full, and
is applied whole or not at all; in DOZE the link holds what the host writes. -/
def Obligations.Bar2Accesses : Prop :=
  ∀ (s : State) (fn a n : Nat) (bs : List (Option Nat)), fn < 512 →
    let d := s.drainBuf fn
    let f := s.fn fn
    let zeros := List.replicate n 0
    let k := 65536 - a % 65536
    let up := s.link.up = true ∧ (fn = 0 ∨ s.link.vfEnable = true) ∧ s.mode ≠ Mode.off ∧ s.mode ≠ Mode.doze ∧ s.mode ≠ Mode.boot ∧
      f.dstate = 0
    let size := if fn = 0 then 2 ^ 26 else 2 ^ (20 + min 6 (s.fld Reg.GLB_HOSTCFG 0 3))
    (up → 1 ≤ n → n ≤ 256 → a + n ≤ size →
      let u := d.walkCorrect fn a
      let bad (v : State) (at_ code level : Nat) :=
        ((v.walkCorrect fn at_).walkFailed fn at_ 4 code level).faultRecord fn code 4 0 at_
      let answers (v : State) (l : List Nat) := exec (.bar2Read fn a (.bytes n)) s = .next (v.send (.readBytes fn l))
      (∀ c l, d.walk fn a = .bad c l → answers (bad d a c l) zeros) ∧
      (n ≤ k → ∀ p, d.walk fn a = .ok p →
        (u.eccIn p n = false → answers u (bytesLE n (d.readMem p n))) ∧
        (u.eccIn p n = true → answers (u.dataEcc.faultRecord fn 0x0F 4 0 a) zeros)) ∧
      (k < n → ∀ p, d.walk fn a = .ok p →
        (∀ c l, u.walk fn (a + k) = .bad c l → answers (bad u (a + k) c l) zeros) ∧
        (∀ p', u.walk fn (a + k) = .ok p' → (u.walkCorrect fn (a + k)).eccIn p k = false →
          (u.walkCorrect fn (a + k)).eccIn p' (n - k) = false →
          answers (u.walkCorrect fn (a + k)) (bytesLE k (d.readMem p k) ++ bytesLE (n - k) (d.readMem p' (n - k)))))) ∧
    (let sees := s.link.up = true ∧ (fn = 0 ∨ s.link.vfEnable = true) ∧ s.mode ≠ Mode.off ∧ s.mode ≠ Mode.doze
     (sees → f.dstate = 0 → exec (.bar2Read fn a .atomic) s = .next (s.send (.unsupported fn))) ∧
     (sees → f.dstate = 1 → ∀ k : ReqKind, k ≠ .jtag → exec (.bar2Read fn a k) s = .next (s.send (.unsupported fn))) ∧
     exec (.bar2Read fn a .jtag) s = .next s) ∧
    (bs ≠ [] → bs.length ≤ 256 → a + bs.length ≤ size →
      let m := s.drainFull
      let e := m.drainOwn fn
      let enters (v : State) := exec (.bar2Write fn a bs) s = .next (v.setFn fn { v.fn fn with buf := (v.fn fn).buf ++ [(a, bs)] })
      let need (v : State) := bufEntries (v.fn fn).buf + (bs.length + 63) / 64
      (s.tenPage fn = true → need m ≤ 64 → enters m) ∧
      (s.tenPage fn = true → 64 < need m → enters e ∧ (e.fn fn).buf = []) ∧
      (s.tenPage fn = true → s.fullBufs = [] → need s ≤ 64 → enters s) ∧
      (s.arrives fn = true → s.dozing = true → exec (.bar2Write fn a bs) s = .next (s.hold [{ fn := fn, addr := a, bytes := bs }]))) ∧
    (s.arrives fn = true → s.dozing = true → ∀ v, v < 2 ^ 32 → (a % 4 = 0 → a < if fn = 0 then 0x2000000 else 0x10000) →
      exec (.registerWrite fn (dword a) v) s = .next (s.hold [{ fn := fn, addr := a, value := v }])) ∧
    (s.mode ≠ Mode.off → s.mode ≠ Mode.doze → bs.length ≤ 256 → ∀ r, f.buf = (a, bs) :: r →
      let u := s.setFn fn { f with buf := r }
      let slot := s.fld (Reg.TEN_FAULT_IDX fn) 0 6
      let fails (code : Nat) := ∃ t : State, exec (.writeBufferApply fn) s = .next t ∧ (t.fn fn).buf = r ∧ t.mem = s.mem ∧
        t.fld (Reg.TEN_FAULT fn (8 * slot)) 16 8 = code ∧ t.regN (Reg.TEN_FAULT fn (8 * slot + 1)) = 4
      let writes (p p' : Nat) := ∃ t : State, exec (.writeBufferApply fn) s = .next t ∧ (t.fn fn).buf = r ∧
        (∀ i b, bs[i]? = some (some b) → t.byte (if i < k then p + i else p' + (i - k)) = BitVec.ofNat 8 b) ∧
        (∀ x, (∀ i b, bs[i]? = some (some b) → x ≠ if i < k then p + i else p' + (i - k)) → t.byte x = s.byte x)
      (∀ c l, c < 256 → s.walk fn a = .bad c l → fails c) ∧
      (bs.length ≤ k → ∀ p, s.walk fn a = .ok p → writes p 0) ∧
      (k < bs.length → ∀ p, s.walk fn a = .ok p →
        (∀ c l, c < 256 → (u.walkCorrect fn a).walk fn (a + k) = .bad c l → fails c) ∧
        (∀ p', (u.walkCorrect fn a).walk fn (a + k) = .ok p' → p' + 256 ≤ p ∨ p + k ≤ p' → writes p p')))

/-- R249, R269, R282, R283, R302, R313, R328, R329, R346: the link, configuration writes, which the link holds in DOZE, sleep, MSI-X masks,
and resets from PCIe. -/
def Obligations.LinkSleepAndReset : Prop :=
  ∀ (s : State) (fn v : Nat), fn < 512 → v < (if fn = 0 then 2048 else 16) →
    let f := s.fn fn
    let key := fn * 2048 + v
    let x := s.vec key
    let enabled := s.bit Reg.HVC_CTRL 0 = true ∧ s.link.l0 = true
    let open_ := enabled ∧ f.msixEn = true ∧ f.fmask = false ∧ x.masked = false ∧ f.bme = true ∧ f.dstate = 0
    let on := s.link.up = true ∧ s.mode ≠ Mode.off
    let taken := on ∧ f.flr = false
    let pba := (Tbl.keys s.vecs).filter fun k => decide (k / 2048 = fn) && (s.vec k).pba
    let sent (t : State) := t.out = s.out ++ [.msix fn v] ∧ (t.vec key).count = 0 ∧ (t.vec key).start = none ∧ (t.vec key).pba = false ∧
      ∀ k, k ≠ key → t.vec k = s.vec k
    let others (t : State) := ∀ m, m ≠ fn → t.fn m = s.fn m
    (s.mode ≠ Mode.off →
      let u : State := { s with link := { s.link with up := true, l0 := true }, pwr := { s.pwr with pcieRef := true } }
      exec .linkTrained s = .next ((List.range 512).foldl State.cqRooms u) ∧
      ((∀ c, (s.chan c).heldRec = none) → exec .linkTrained s = .next u)) ∧
    (taken → s.dozing = true →
      let held (r : ConfigReq) := s.hold [{ fn := fn, cfg := some r }]
      (∀ bme vf pmeEn more, exec (.configurationWrite fn bme vf pmeEn more) s = .next (held (.config bme vf pmeEn more))) ∧
      (∀ cold, exec (.d3hotEntry fn cold) s = .next (held (.sleep cold))) ∧ exec (.d0Return fn) s = .next (held .awake) ∧
      (∀ w, exec (.vectorUnmask fn v w) s = .next (held (.msix v w))) ∧
      (s.bit Reg.PWR_WAKE 4 = true → s.pwr.wake = false → ∀ r, (held r).pwr.wake = true ∧ (held r).fld Reg.PWR_STATUS 16 3 = 2)) ∧
    (s.link.up = true → s.link.held = [] → exec .linkReachesL0 s = .next { s with link := { s.link with l0 := true } }) ∧
    (s.link.up = true → s.link.held = [(fn, v)] → s.bit Reg.HVC_CTRL 0 = true → f.msixEn = true → f.fmask = false → x.masked = false →
      f.bme = true → f.dstate = 0 → ∃ t : State, exec .linkReachesL0 s = .next t ∧ sent t ∧
        t.link = { s.link with l0 := true, held := [] } ∧ t = { s with out := t.out, link := t.link, vecs := t.vecs }) ∧
    (taken → s.dozing = false → s.boot.hboot = none → ∀ bme vf pmeEn more, ∃ t : State,
      exec (.configurationWrite fn bme vf pmeEn more) s = .next t ∧
      t.fn fn = { f with bme := bme.getD f.bme, pmeEn := pmeEn.getD f.pmeEn, pmeStatus := f.pmeStatus && !more.pmeClear } ∧ others t ∧
      t.link.vfEnable = (if fn = 0 then vf.getD s.link.vfEnable else s.link.vfEnable) ∧
      t.link.l1 = (if fn = 0 then more.l1.getD s.link.l1 else s.link.l1) ∧
      t.link.l0 = (if fn = 0 then (match more.l1 with | none => s.link.l0 | some b => !b) else s.link.l0) ∧
      (bme = some true → pba = [key] → enabled → f.msixEn = true → f.fmask = false → x.masked = false → f.dstate = 0 → sent t) ∧
      (bme ≠ some true ∨ pba = [] → fn ≠ 0 ∨ more.l1 ≠ some false ∨ s.link.l0 = true ∨ s.link.held = [] → t.out = s.out ∧ t.vecs = s.vecs) ∧
      t = { s with out := t.out, fns := t.fns, link := t.link, vecs := t.vecs }) ∧
    (taken → s.dozing = false → ∀ cold, ∃ t : State, exec (.d3hotEntry fn cold) s = .next t ∧ t.fn fn = { f with dstate := if cold then 2 else 1 } ∧ others t ∧
      (f.dstate = 0 → (s.countedVecs fn).filter (fun k => s.vecOpen fn (k % 2048)) = [key] → open_ → sent t) ∧
      ((s.countedVecs fn).filter (fun k => s.vecOpen fn (k % 2048)) = [] → t.out = s.out ∧ t.vecs = s.vecs) ∧
      t = { s with out := t.out, fns := t.fns, link := t.link, vecs := t.vecs }) ∧
    (taken → s.dozing = false → f.dstate = 0 → exec (.d0Return fn) s = .next s) ∧
    (taken → s.dozing = false → f.dstate ≠ 0 →
      let u := s.setFn fn { f with dstate := 0 }
      (f.waiting = [] → exec (.d0Return fn) s = .next ((u.cqRooms fn).sendAll (u.countedVecs fn))) ∧
      (f.waiting = [] → (∀ c, (s.chan c).owner = fn → (s.chan c).heldRec = none) → s.countedVecs fn = [key] → enabled → f.msixEn = true → f.fmask = false → x.masked = false → f.bme = true →
        s.link.up = true → ∃ t : State, exec (.d0Return fn) s = .next t ∧ sent t ∧ t.fn fn = { f with dstate := 0 }) ∧
      (∀ r w, f.waiting = [r] → exec (.completionWrite fn) u = .next w → exec (.d0Return fn) s = .next ((w.cqRooms fn).sendAll (w.countedVecs fn)))) ∧
    (taken → s.dozing = false →
      (pba = [] → (∀ m, exec (.vectorUnmask fn v (.vector m)) s = .next (s.setVec key { x with masked := m })) ∧
        ∀ en fm, exec (.vectorUnmask fn v (.control en fm)) s =
          .next (s.setFn fn { f with msixEn := en.getD f.msixEn, fmask := fm.getD f.fmask })) ∧
      (s.canonical = true → pba = [key] → enabled → f.msixEn = true → f.fmask = false → f.bme = true → f.dstate = 0 →
        ∃ t : State, exec (.vectorUnmask fn v (.vector false)) s = .next t ∧ sent t ∧ (t.vec key).masked = false) ∧
      (pba = [key] → ∀ en fm, ∃ t : State, exec (.vectorUnmask fn v (.control en fm)) s = .next t ∧
        t.fn fn = { f with msixEn := en.getD f.msixEn, fmask := fm.getD f.fmask } ∧
        (en.getD f.msixEn = true → fm.getD f.fmask = false → enabled → x.masked = false → f.bme = true → f.dstate = 0 → sent t) ∧
        (en.getD f.msixEn = false ∨ fm.getD f.fmask = true → t.out = s.out ∧ ∀ k, t.vec k = s.vec k))) ∧
    (s.mode ≠ Mode.off →
      let down (t : State) := t.link = {} ∧ (∀ m < 512, (t.fn m).buf = [] ∧ (t.fn m).bme = false ∧ (t.fn m).msixEn = false) ∧
        ∀ k, (t.vec k).pba = false ∧ (t.vec k).masked = true
      let kept (t : State) := down t ∧ (∀ m < 512, t.bit (Reg.TEN_RING_CTRL m) 0 = false) ∧
        (∀ k, (∀ m < 512, k ≠ Reg.TEN_RING_CTRL m) → k < tenBase → t.reg k = s.reg k)
      (s.bit Reg.GLB_HOSTCFG 3 = false → ∃ t : State, exec .perstN s = .next t ∧ kept t ∧
        t = { s with regs := t.regs, fns := t.fns, link := t.link, vecs := t.vecs }) ∧
      (s.bit Reg.GLB_HOSTCFG 3 = true → s.link.up = true → (s.fn 0).flr = false → ∃ t u : State, exec (.flr 0) s = .next t ∧ exec .perstN s = .next u ∧ down u ∧
        u = { t with fns := u.fns, link := u.link, vecs := u.vecs } ∧ ∀ m, (u.fn m).aborting = (t.fn m).aborting ∧ (u.fn m).flr = (t.fn m).flr) ∧
      (∃ t : State, exec .pcieRefLoss s = .next t ∧ kept t ∧
        t = { s with regs := t.regs, fns := t.fns, link := t.link, vecs := t.vecs, pwr := { s.pwr with pcieRef := false } })) ∧
    (taken → fn ≠ 0 → f.aborting = false → s.mode ≠ Mode.doze → ∃ t : State, exec (.flr fn) s = .next (t.runAbort fn) ∧
      t.fn fn = { f with bme := false, msixEn := false, fmask := false, dstate := 0, buf := [], flr := true, inflight := [], waiting := [],
                         aborting := true, abortHeld := true } ∧ others t ∧ t.bit (Reg.TEN_ABORT_STATUS fn) 0 = true ∧
      t.fld (Reg.TEN_CMD_HEAD fn) 0 12 = f.cmdTail % 2 ^ 12) ∧
    (on → (s.fn 0).flr = false → s.mode ≠ Mode.doze → ∃ t : State, exec (.flr 0) s = .next t ∧ t.link.vfEnable = false ∧
      ∀ m < 512, (t.fn m).flr = true ∧ (t.fn m).aborting = true ∧ (t.fn m).inflight = [] ∧ (t.fn m).waiting = [])

/-- R252-R259, R261: rings, the fetch and the judging of a command, and the writing of records. -/
def Obligations.CommandRings : Prop :=
  ∀ (s : State) (n v : Nat), n < 512 → v < 2 ^ 32 →
    let ctrl := Reg.TEN_RING_CTRL n
    let stat := Reg.TEN_RING_STAT n
    let head := Reg.TEN_CMD_HEAD n
    let chead := Reg.TEN_CPL_HEAD n
    let ctail := Reg.TEN_CPL_TAIL n
    (s.tenPage n = true →
      let d := s.drainBuf n
      let f := d.fn n
      let ok (k : Nat) := 4 ≤ d.fld k 0 4 ∧ d.fld k 0 4 ≤ 12
      let z := 2 ^ d.fld (Reg.TEN_CPL_SIZE n) 0 4
      let h := d.fld chead 0 12
      let i := v % 2 ^ 12
      let inside := (i + z - h % z) % z ≤ (d.fld ctail 0 12 + z - h % z) % z ∧ i < z
      let slot := d.fld (Reg.TEN_FAULT_IDX n) 0 6
      (bitAt v 0 = false → ∃ t : State, exec (.tenRingCtrlWrite n v) s = .next t ∧ t.bit ctrl 0 = false ∧ OnlyRegs [ctrl] d t) ∧
      (bitAt v 0 = true → d.bit ctrl 0 = true → exec (.tenRingCtrlWrite n v) s = .next d) ∧
      (bitAt v 0 = true → d.bit ctrl 0 = false → ¬(ok (Reg.TEN_CMD_SIZE n) ∧ ok (Reg.TEN_CPL_SIZE n)) →
        ∃ t : State, exec (.tenRingCtrlWrite n v) s = .next t ∧ t.fld stat 8 8 = 0x08 ∧ t.bit ctrl 0 = false ∧ OnlyRegs [stat] d t) ∧
      (bitAt v 0 = true → d.bit ctrl 0 = false → ok (Reg.TEN_CMD_SIZE n) → ok (Reg.TEN_CPL_SIZE n) →
        ∃ t : State, exec (.tenRingCtrlWrite n v) s = .next t ∧ t.bit ctrl 0 = true ∧ t.bit stat 3 = false ∧ t.fld head 0 12 = 0 ∧
          t.fn n = { f with cmdTail := 0, ringed := true } ∧ t.fld chead 0 12 = 0 ∧ t.fld ctail 0 12 = 0 ∧ t.bit ctail 16 = true ∧
          t = { d with regs := t.regs, fns := t.fns } ∧ ∀ k, k ∉ [ctrl, stat, head, chead, ctail] → t.reg k = d.reg k) ∧
      exec (.tenCmdTail n v) s = .next (d.setFn n { f with cmdTail := v % 2 ^ d.fld (Reg.TEN_CMD_SIZE n) 0 4 }) ∧
      (inside → ∃ t : State, exec (.tenCplHead n v) s = .next t ∧ t.fld chead 0 12 = i ∧ t.fld ctail 0 12 = d.fld ctail 0 12 ∧
        (f.waiting = [] → t.bit stat 2 = false)) ∧
      (¬inside → ∃ t : State, exec (.tenCplHead n v) s = .next t ∧ t.fld chead 0 12 = h ∧ t.fld stat 8 8 = 0x0C ∧
        t.fld (Reg.TEN_FAULT n (8 * slot)) 16 8 = 0x0C ∧ t.regN (Reg.TEN_FAULT n (8 * slot + 1)) = 6 ∧
        t.regN (Reg.TEN_FAULT n (8 * slot + 4)) = i)) ∧
    (s.nextFetch ≠ some n → ∀ x, exec (.commandFetch n x) s = .next s) ∧
    (let turn (m : Nat) := (m + 1023 - s.turns.fetch % 512) % 512
     s.mayFetchCmd n = true → (∀ m < 512, s.mayFetchCmd m = true → turn n ≤ turn m) → s.nextFetch = some n) ∧
    (s.nextFetch = some n →
      let f := s.fn n
      let h := s.fld head 0 12
      let slot := s.fld (Reg.TEN_FAULT_IDX n) 0 6
      (∃ t : State, exec (.commandFetch n none) s = .next t ∧ t.turns.fetch = n ∧ t.bit stat 3 = true ∧ t.fld stat 8 8 = 0x10 ∧ t.bit ctrl 0 = true ∧
        t.fld head 0 12 = h ∧ t.fld (Reg.TEN_FAULT n (8 * slot)) 16 8 = 0x10 ∧ t.regN (Reg.TEN_FAULT n (8 * slot + 1)) = 6 ∧
        t.regN (Reg.TEN_FAULT n (8 * slot + 4)) = h ∧ t.srcPend (24 * n + 21) = true ∧ (t.fn n).inflight = f.inflight ∧
        (t.fn n).waiting = f.waiting) ∧
      ∀ x : Nat,
        let op := bits x 0 8
        let seq := bits x 16 16
        let back := (s.fld (Reg.TEN_SEQ n) 0 16 + 65536 - seq) % 65536
        let old := f.hist ≠ [] ∧ 1 ≤ back ∧ back ≤ 32767
        let seen := f.hist.find? fun h => decide (h.seq = seq)
        ∃ (t : State) (tag : Nat), exec (.commandFetch n (some x)) s = .next t ∧ t.turns.fetch = n ∧ tag < 4096 ∧ tag ∉ s.tagsHeld ∧
          t.fld head 0 12 = (h + 1) % 2 ^ s.fld (Reg.TEN_CMD_SIZE n) 0 4 % 2 ^ 12 ∧
          let c : Cmd := { tag := tag, opcode := op, flags := bits x 8 8, seq := seq, user := bits x 32 32, param := bits x 64 448 }
          let answered (status orig r0 r1 : Nat) := (t.fn n).inflight = (f.inflight ++ [c]).map (fun y => if y.tag = tag then { y with done := true } else y) ∧
            (t.fn n).waiting = f.waiting ++ [{ c.cpl status r0 r1 with orig := orig }]
          let still := (t.fn n).hist = f.hist ∧ t.fld (Reg.TEN_SEQ n) 0 16 = s.fld (Reg.TEN_SEQ n) 0 16
          (∀ e, seen = some e → e.opcode ≠ op → answered 0x0A 0 0 0 ∧ still) ∧
          (∀ e r, seen = some e → e.opcode = op → e.cpl = some r → answered 0x09 r.status r.res0 r.res1 ∧ still) ∧
          (∀ e, seen = some e → e.opcode = op → e.cpl = none → (t.fn n).inflight = f.inflight ++ [{ c with dup := some seq }] ∧
            (t.fn n).waiting = f.waiting ∧ still) ∧
          (seen = none → old → answered 0x0A 0 0 0 ∧ still) ∧
          (seen = none → ¬old → c.refused n = true → (∀ y ∈ f.inflight, y.dup ≠ some seq) → answered 0x08 0 0 0 ∧
            t.fld (Reg.TEN_SEQ n) 0 16 = seq) ∧
          (seen = none → ¬old → c.refused n = false → (t.fn n).inflight = f.inflight ++ [c] ∧ (t.fn n).waiting = f.waiting ∧
            (t.fn n).hist.getLast? = some { seq := seq, opcode := op } ∧ (f.hist.length < 64 → (t.fn n).hist = f.hist ++ [{ seq := seq, opcode := op }]) ∧
            t.fld (Reg.TEN_SEQ n) 0 16 = seq)) ∧
    (let f := s.fn n
     let z := 2 ^ s.fld (Reg.TEN_CPL_SIZE n) 0 4
     let i := s.fld ctail 0 12
     let room := (i + 1) % z ≠ s.fld chead 0 12 % z
     let may := f.ringed = true ∧ f.bme = true ∧ f.dstate = 0 ∧ s.link.up = true ∧ s.mode ≠ Mode.off ∧ s.mode ≠ Mode.doze
     ∀ r rest, f.waiting = r :: rest →
      (¬(may ∧ room) → exec (.completionWrite n) s = .next s) ∧
      (may → room → ∃ (t : State) (before l : List Out), exec (.completionWrite n) s = .next t ∧ t.link.l0 = true ∧
        (s.link.l0 = true → before = []) ∧ t.out = s.out ++ before ++ .hostWrite (s.pair (Reg.TEN_CPL_BASE_L n) (Reg.TEN_CPL_BASE_H n) + 32 * i)
          (bytesLE 32 (recordValue r (s.fld ctail 16 1) s.tb.now)) :: l ∧
        (t.fn n).waiting = rest ∧ (t.fn n).inflight = f.inflight.filter (fun c => !(r.holdsTag && decide (c.tag = r.tag))) ∧
        t.fld ctail 0 12 = (i + 1) % z % 2 ^ 12 ∧ (t.fld ctail 16 1 = if (i + 1) % z = 0 then 1 - s.fld ctail 16 1 else s.fld ctail 16 1) ∧
        (r.kind = 2 → t.srcPend (24 * n + 18) = true) ∧ (r.kind ≠ 2 → r.notify = true → t.srcPend (24 * n + 16) = true)))

/-- R258: a fetch that ends in a PCIe error, the records still written while the ring is halted, and its restart. -/
def Obligations.FailedFetchHaltsTheRing : Prop :=
  ∀ (s : State) (n : Nat), n < 512 → s.nextFetch = some n →
    let ctrl := Reg.TEN_RING_CTRL n
    let stat := Reg.TEN_RING_STAT n
    let h := s.fld (Reg.TEN_CMD_HEAD n) 0 12
    let slot := s.fld (Reg.TEN_FAULT_IDX n) 0 6
    let z := 2 ^ s.fld (Reg.TEN_CPL_SIZE n) 0 4
    let ok (k : Nat) := 4 ≤ s.fld k 0 4 ∧ s.fld k 0 4 ≤ 12
    ∃ t : State, exec (.commandFetch n none) s = .next t ∧ t.bit ctrl 0 = true ∧ t.bit stat 3 = true ∧ t.fld stat 8 8 = 0x10 ∧
      t.regN (Reg.TEN_FAULT n (8 * slot + 1)) = 6 ∧ t.regN (Reg.TEN_FAULT n (8 * slot + 4)) = h ∧ t.fld (Reg.TEN_CMD_HEAD n) 0 12 = h ∧
      (∀ x, exec (.commandFetch n x) t = .next t) ∧ (t.fn n).inflight = (s.fn n).inflight ∧ (t.fn n).waiting = (s.fn n).waiting ∧
      (∀ r rest, (s.fn n).waiting = r :: rest → (t.fld (Reg.TEN_CPL_TAIL n) 0 12 + 1) % z ≠ t.fld (Reg.TEN_CPL_HEAD n) 0 12 % z →
        ∃ w : State, exec (.completionWrite n) t = .next w ∧ (w.fn n).waiting = rest ∧
          (w.fn n).inflight = (s.fn n).inflight.filter (fun c => !(r.holdsTag && decide (c.tag = r.tag)))) ∧
      (s.tenPage n = true → ok (Reg.TEN_CMD_SIZE n) → ok (Reg.TEN_CPL_SIZE n) → ∃ u w : State, exec (.tenRingCtrlWrite n 0) t = .next u ∧
        u.bit ctrl 0 = false ∧ exec (.tenRingCtrlWrite n 1) u = .next w ∧ w.bit ctrl 0 = true ∧ w.bit stat 3 = false)

/-- R264-R269, R308: the abort of a function, from its start to DONE, and the end of an FLR. -/
def Obligations.AbortSequence : Prop :=
  ∀ (s : State) (n v : Nat), n < 512 → v < 2 ^ 32 →
    let stat := Reg.TEN_ABORT_STATUS n
    (s.tenPage n = true →
      let d := s.drainBuf n
      let f := d.fn n
      let go := bitAt v 0 = true ∧ bits v 16 16 = 0x4A42
      let z := 2 ^ d.fld (Reg.TEN_CMD_SIZE n) 0 4
      (¬go → exec (.tenAbort n v) s = .next d) ∧
      (go → ∃ t u : State, u = t.runAbort n ∧ exec (.tenAbort n v) s = .next u ∧
        t.fn n = { f with aborting := true, abortHeld := true, buf := [] } ∧ t.bit stat 0 = true ∧ t.bit stat 1 = false ∧ t.bit stat 2 = false ∧
        t.fld stat 20 12 = (f.cmdTail + z - d.fld (Reg.TEN_CMD_HEAD n) 0 12) % z % 2 ^ 12 ∧
        t.fld (Reg.TEN_CMD_HEAD n) 0 12 = f.cmdTail % 2 ^ 12 ∧
        t.link = { d.link with posted := d.link.posted.filter fun w => decide (w.fn ≠ n) || w.cfg.isSome } ∧
        t = { d with regs := t.regs, fns := t.fns, link := t.link } ∧
        u.regN (Reg.TEN_QDB_STAT n) = 0 ∧ u.fld (Reg.TEN_QDB_IDX n) 0 16 = 0 ∧ (u.fn n).qdbL = 0 ∧
        (u.fn n).aborting = true ∧ (u.fn n).abortHeld = false ∧
        (∀ q, (d.queue q).state ≠ QState.free → (d.queue q).tenant = n → (u.queue q).state = QState.stopped ∧ (u.queue q).err = 0x0B ∧
          (u.queue q).head = (u.queue q).tail ∧ (u.queue q).heldDb = none ∧ ∀ r ∈ u.refs, r.fl.ofQueue q = false) ∧
        (∀ c, (d.ctx c).st ≠ .free → (d.ctx c).tenant = n → (u.ctx c).st = .halted ∧ (u.ctx c).saved = true ∧ (u.ctx c).pend = []) ∧
        (d.upd = none → ∀ c, (d.ctx c).st = .free ∨ (d.ctx c).tenant ≠ n → u.ctx c = d.ctx c) ∧
        (∀ c < 1024, (d.cuff c).owner = n → (u.cuff c).apAbort = true ∧ (u.cuff c).fifo = [] ∧ (u.cuff c).armed = false) ∧
        (∀ k, (d.flag k).owner = some n → (u.flag k).set = false) ∧
        (∀ c ∈ f.inflight, c.done = false → (∀ e ∈ d.fns, c.tag ∉ e.2.abortTags) → d.upd = none →
          ∃ r ∈ (u.fn n).waiting, r.tag = c.tag ∧ r.seq = c.seq ∧ r.status = 0x0B) ∧
        u.tb = d.tb ∧ u.quota = d.quota ∧ u.used = d.used ∧ u.mem = d.mem)) ∧
    (s.arrives n = true → s.dozing = true →
      let w : Posted := { fn := n, addr := tenBar n + 0x400, value := v }
      exec (.tenAbort n v) s = .next (s.hold [w]) ∧
      (bitAt v 0 = true → bits v 16 16 = 0x4A42 → s.pwr.wake = false → ∃ t : State, exec (.tenAbort n v) s = .next t ∧
        t.pwr.wake = true ∧ t.fld Reg.PWR_STATUS 16 3 = 6 ∧ t.link = { s.link with posted := s.link.posted ++ [w] })) ∧
    (let f := s.fn n
     f.aborting = true → f.abortHeld = false → f.abortCut = false →
      let emptied (t : State) := (t.fn n).aborting = false ∧ (t.fn n).mboxOut = [] ∧ (t.fn n).mboxIn = [] ∧ (t.fn n).replies = [] ∧
        t.fld (Reg.TEN_MBX_STAT n) 16 8 = (s.fld (Reg.TEN_MBX_STAT n) 16 8 + 1) % 2 ^ 8
      let silent (t : State) := (∀ j < 24, (s.src (24 * n + j)).stw = false → t.srcPend (24 * n + j) = false) ∧
        ∀ k, k / 2048 = n → (t.vec k).pba = false ∧ (t.vec k).count = 0
      let common (t : State) := emptied t ∧ silent t
      (f.abortTags = [] → f.flr = false → ∃ t : State, exec (.abortDone n) s = .next t ∧ emptied t ∧
        t.bit stat 1 = true ∧ t.bit stat 0 = false ∧ t.pair (Reg.TEN_ABORT_TIME_L n) (Reg.TEN_ABORT_TIME_H n) = s.tb.now % 2 ^ 64 ∧
        (t.fn n).waiting = f.waiting ++ [{ status := 0x0B, kind := 2, res0 := t.regN stat }] ∧
        (s.cplFree n = true ∨ s.bit (Reg.TEN_RING_STAT n) 2 = true → silent t)) ∧
      (f.abortTags = [] → f.flr = true → ∃ t : State, exec (.abortDone n) s = .next t ∧ common t ∧ (t.fn n).flr = false ∧ (t.fn n).bme = false ∧
        (t.fn n).inflight = [] ∧ (t.fn n).hist = [] ∧ (t.fn n).waiting = [] ∧ (t.fn n).ringed = false ∧
        (t.fn n).aliveBase = s.regN Reg.MBX_ALIVE ∧
        (∀ k ∈ [Reg.TEN_CMD_BASE_L n, Reg.TEN_CMD_BASE_H n, Reg.TEN_CMD_SIZE n, Reg.TEN_CMD_HEAD n, Reg.TEN_CPL_BASE_L n, Reg.TEN_CPL_BASE_H n,
            Reg.TEN_CPL_SIZE n, Reg.TEN_CPL_HEAD n, Reg.TEN_CPL_TAIL n, Reg.TEN_RING_CTRL n, Reg.TEN_RING_STAT n, Reg.TEN_SEQ n,
            Reg.TEN_QDB_STAT n, Reg.TEN_QDB_IDX n, stat, Reg.TEN_FAULT_IDX n], t.reg k = resetOf k) ∧
        ∀ i < 512, t.reg (Reg.TEN_FAULT n i) = 0) ∧
      (∀ tag c, n ≠ 0 → f.abortTags = [tag] → f.flr = false → (s.fn 0).flr = false →
        (s.fn 0).inflight.find? (fun x => decide (x.tag = tag)) = some c → ∃ t : State, exec (.abortDone n) s = .next t ∧
          ∃ r ∈ (t.fn 0).waiting, r.tag = tag ∧ r.status = 0 ∧ r.res0 = t.regN stat))

/-! ### The commands of the rings (R82, R83, R106-R120, R155, R161, R168, R174-R181, R203, R259-R264, R276) -/

/-- R82, R83, R99, R100, R102, R113-R120, R254, R260-R262: NOP, the queue commands and admission. A command runs when it may
start: its gate is open and nothing before it shares an object. -/
def Obligations.QueueCommands : Prop :=
  ∀ (s : State) (tag n : Nat) (c : Cmd), tag < 4096 →
    let run (op : Nat) := s.ready tag op (fun _ => true) = some (n, c)
    let ends (i : Instr) (t : State) (code r0 r1 : Nat) := exec i s = .next (t.finishCmd n c code r0 r1)
    let p := c.param
    let f := s.fn n
    let q := bits p 0 20
    let x := s.queue q
    let qcode := if x.state = QState.free then Code.rejectClass else if x.tenant ≠ n then Code.rejectQuota else Code.ok
    let others (t : State) := ∀ j, j ≠ q → t.queue j = s.queue j
    (run 0x00 → ends (.nopCommand tag) s Code.ok 0 0) ∧
    (s.ready tag 0x00 (fun _ => true) = none → exec (.nopCommand tag) s = .next s) ∧
    (run 0x00 → ∃ t : State, exec (.nopCommand tag) s = .next t ∧
      let r : Cpl := { seq := c.seq, user := c.user, tag := c.tag, opcode := c.opcode, notify := bitAt c.flags 1, holdsTag := true }
      let dups := f.inflight.filter fun d => !d.done && decide (d.dup = some c.seq)
      let again (d : Cmd) : Cpl :=
        { r with seq := d.seq, status := 0x09, user := d.user, tag := d.tag, opcode := d.opcode, notify := bitAt d.flags 1 }
      (t.fn n).waiting = f.waiting ++ r :: dups.map again ∧
      (dups = [] → (t.fn n).inflight = f.inflight.map fun d => if d.tag = c.tag then { d with done := true } else d) ∧
      (t.fn n).hist = f.hist.map (fun h => if h.seq = c.seq ∧ h.cpl = none then { h with cpl := some r } else h)) ∧
    (run 0x10 →
      let base := bits p 0 32
      let k := bits p 32 8
      let late := bits p 64 2
      let ttype := bits p 40 3
      let target := bits p 48 12
      let logen := bitAt p 127
      let logq := bits p 96 20
      let shape := 2 ≤ k ∧ k ≤ 16 ∧ base % (16 * 2 ^ k) = 0 ∧ base + 16 * 2 ^ k ≤ 2 ^ 26 ∧ late ≠ 0
      let tcode := if ttype = 0 then (if target = 0 then Code.ok else Code.rejectClass) else s.bindCode n ttype target
      let l := s.queue logq
      let lcode := if logen = false then Code.ok else if l.state = QState.free then Code.rejectClass
        else if l.tenant ≠ n then Code.rejectQuota else if l.ttype ≠ 0 then Code.rejectClass else Code.ok
      let i := Instr.queueCreate tag
      (¬shape → ends i s Code.rejectClass 0 0) ∧
      (shape → tcode ≠ Code.ok → ends i s tcode 0 0) ∧
      (shape → tcode = Code.ok → lcode ≠ Code.ok → ends i s lcode 0 0) ∧
      (shape → tcode = Code.ok → lcode = Code.ok → s.quotaFits n 0 1 = false → ends i s Code.rejectQuota 0 0) ∧
      (shape → tcode = Code.ok → lcode = Code.ok → s.quotaFits n 0 1 = true → s.queues.Pairwise (fun a b => a.1 < b.1) →
        (s.queues.filter fun e => decide (e.2.state ≠ QState.free)).length < 2 ^ 20 →
        ∃ (t : State) (j : Nat), ends i t Code.ok j 0 ∧ j < 2 ^ 20 ∧ (s.queue j).state = QState.free ∧
          (t.queue j).base = base / 16 ∧ (t.queue j).log2 = k ∧ (t.queue j).late = late ∧ (t.queue j).ttype = ttype ∧
          (t.queue j).target = target ∧ (t.queue j).tenant = n ∧ (t.queue j).state = QState.run ∧ (t.queue j).head = 0 ∧
          (t.queue j).tail = 0 ∧ (t.queue j).cls = 0 ∧ (t.queue j).contract = none ∧ (t.queue j).logen = logen ∧
          (logen = true → (t.queue j).logq = logq) ∧ (∀ m, m ≠ j → t.queue m = s.queue m) ∧
          t.eccBad = s.eccBad.filter (· / 2 != j) ∧ t.eccSoft = s.eccSoft.filter (· / 2 != j) ∧
          t = { s with fresh := t.fresh, queues := t.queues, eccBad := t.eccBad, eccSoft := t.eccSoft })) ∧
    (run 0x11 →
      (qcode ≠ Code.ok → ends (.queueFree tag) s qcode 0 0) ∧
      (qcode = Code.ok → s.loggedTo q = true → ends (.queueFree tag) s Code.rejectClass 0 0) ∧
      (qcode = Code.ok → s.loggedTo q = false → ∃ w t : State, ends (.queueFree tag) t Code.ok 0 0 ∧ t.queue q = {} ∧
        (∀ j, j ≠ q → w.queue j = s.queue j ∧ t.queue j = w.judgeAll.queue j) ∧
        (∀ r ∈ w.refs, r.fl.ofQueue q = false) ∧ (∀ i, q ∉ (w.seamOf i).members) ∧
        (x.cls = 2 → x.ttype = 5 → ∀ c ∈ s.triple x.target, (t.ctx c).guarded = false) ∧
        (∀ r, r ≠ Reg.QM_LASTERR → r ≠ Reg.SCH_STATUS → w.reg r = s.reg r) ∧
        w = { s with regs := w.regs, cuffs := w.cuffs, voters := w.voters, queues := w.queues, refs := w.refs, seams := w.seams,
                     fifos := w.fifos } ∧
        t = { w.judgeAll with queues := t.queues, ctxs := t.ctxs })) ∧
    (∀ sub < 4, s.ready tag 0x12 (fun p => decide (bits p 32 2 = sub)) = some (n, c) → ∀ i,
      [none, some (Instr.queueCtrlStop tag), some (.queueCtrlResume tag), some (.queueCtrlFlush tag)][sub]? = some (some i) →
      let t := if sub = 1 then s.qStop q else if sub = 2 then s.qResume q else s.qFlush q
      (qcode ≠ Code.ok → ends i s qcode 0 0) ∧
      (qcode = Code.ok → ends i t Code.ok 0 0) ∧
      (qcode = Code.ok → sub = 1 → x.state ≠ QState.flushing → t.queue q = { x with state := QState.stopped } ∧ others t ∧
        (∀ i, q ∉ (t.seamOf i).members) ∧ ∀ r, r ≠ Reg.SCH_STATUS → t.reg r = s.reg r) ∧
      (qcode = Code.ok → sub = 2 → x.ttype ≠ 1 → x.ttype ≠ 2 → x.state ≠ QState.flushing → t.queue q = { x with state := QState.run, err := 0 }) ∧
      (qcode = Code.ok → sub = 3 → (t.queue q).state = QState.flushing ∧ ∃ w : State, t.refs = w.judgeAll.refs ∧
        (∀ r ∈ w.refs, r.fl.ofQueue q = true → r.fl.act.sealed = true ∨ s.sticksAt r.fl = true) ∧
        ∀ r ∈ s.refs, r.fl.ofQueue q = false ∨ r.fl.act.sealed = true → r ∈ w.refs)) ∧
    (run 0x13 →
      let cls := bits p 32 2
      let b := bits p 36 4
      let lead := if bits p 40 24 = 0 then s.fld Reg.ADM_LEAD_DEF 0 24 else bits p 40 24
      let rate := bits p 64 32
      let w := if cls = 2 then 3 else 1
      let i := Instr.queueAdmit tag
      let adm (code sum : Nat) := ∃ t : State, ends i t code 0 0 ∧ t.fld Reg.ADM_REFUSE 0 8 = code ∧ t.fld Reg.ADM_REFUSE 8 20 = q ∧
        t.fld Reg.ADM_REFUSE 28 4 = sum ∧ OnlyRegs [Reg.ADM_REFUSE] s t
      let busy := cls ≠ x.cls ∧ x.state ≠ QState.stopped ∧ x.head ≠ x.tail
      let u := s.releaseContract q
      let fits := 1 ≤ b ∧ b ≤ 8 ∧ 12000 ≤ lead ∧ lead ≤ 16777215 ∧ rate ≠ 0 ∧ u.aloneAt q cls x.takes = true ∧ u.lentTarget x = false ∧
        (cls = 2 → 128 ≤ s.dlead) ∧ u.heldTarget x = false
      let limit := if x.ttype = 1 ∨ x.ttype = 2 then 375000000 else 187500000
      let tenant := n = 0 ∨ u.tenantRate n + rate ≤ u.quotaOf n 9 * 1000
      let device := u.devRate + w * rate ≤ 5000000000 ∧ u.devBurst + w * b ≤ 3 * (s.dlead - 64) ∧ u.reservedRefs + x.credits ≤ 786432
      let intv := (24000000000 + rate - 1) / rate
      let terms (trays : List Nat) : Contract := { rate := rate, burst := b, lead := lead, intv := intv, tat := s.tb.now, trays := trays }
      let kept (trays : List Nat) := { x with cls := cls, contract := some (terms trays) }
      let good (y : Nat) := y < 9 ∧ s.spareTray ≠ y ∧ s.bit Reg.ADM_GUARD (13 + y) = false ∧ s.bit Reg.ADM_GUARD (4 + y) = false ∧
        u.trayRate y + rate ≤ 750000000
      let own := s.physOf (x.target / 256)
      let asked : Terms := { q := q, cls := cls, burst := b, lead := lead, rate := rate }
      (qcode ≠ Code.ok → ends i s qcode 0 0) ∧
      (qcode = Code.ok → (cls = 3 ∨ busy ∨ x.ttype = 0 ∧ cls ≠ 0) → adm Code.rejectClass 6) ∧
      (qcode = Code.ok → ¬busy → cls = 0 → ∃ t : State, ends i t Code.ok 0 0 ∧ t.queue q = { x with contract := none, cls := 0 } ∧ others t ∧
        (x.cls = 2 → x.ttype = 5 → ∀ c ∈ s.triple x.target, (t.ctx c).guarded = false) ∧
        t = { s with queues := t.queues, ctxs := t.ctxs }) ∧
      (qcode = Code.ok → ¬busy → x.ttype ≠ 0 → cls = 1 ∨ cls = 2 →
        (¬fits → adm Code.rejectClass 6) ∧
        (fits → (cls = 1 ∨ x.ttype ≠ 5) → ¬tenant → adm Code.rejectQuota 5) ∧
        (fits → (cls = 1 ∨ x.ttype ≠ 5) → tenant → limit < rate → adm Code.rejectCapacity 1) ∧
        (fits → cls = 1 → tenant → rate ≤ limit → x.ttype = 5 → 750000000 < u.trayRate own + rate → adm Code.rejectCapacity 2) ∧
        (fits → cls = 1 → tenant → rate ≤ limit → (x.ttype = 5 → u.trayRate own + rate ≤ 750000000) → device →
          ∃ t : State, ends i t Code.ok 0 (intv % 2 ^ 40) ∧ t.queue q = kept [] ∧ others t ∧ t = { s with queues := t.queues, ctxs := t.ctxs }) ∧
        (fits → cls = 2 → x.ttype ≠ 5 → tenant → rate ≤ limit → device → 3 ≤ ((List.range 9).filter fun y => decide (good y)).length →
          ∃ (t : State) (y z v : Nat), ends i t Code.ok (y + 16 * z + 256 * v) (intv % 2 ^ 40) ∧ [y, z, v].Nodup ∧ good y ∧ good z ∧ good v ∧
            t.queue q = kept [y, z, v] ∧ others t ∧ t = { s with fresh := t.fresh, queues := t.queues, ctxs := t.ctxs }) ∧
        (fits → cls = 2 → x.ttype = 5 → tenant → rate ≤ limit → device → good own →
          2 ≤ ((u.twins asked x).filter fun y => decide (y ≠ own ∧ good y)).length →
          ∃ (t : State) (z v : Nat), ends i t Code.ok (own + 16 * z + 256 * v) (intv % 2 ^ 40) ∧ [own, z, v].Nodup ∧ good z ∧ good v ∧
            t.queue q = kept [own, z, v] ∧ others t ∧
            (∀ y ∈ [own, z, v], (t.ctx (s.servesOf y * 256 + x.target % 256)).guarded = true) ∧
            t = { s with fresh := t.fresh, queues := t.queues, ctxs := t.ctxs })))

/-- R107, R111, R155, R161, R168, R181, R203, R262: the slab map, resources, loans, near-path ports, flags and starts. -/
def Obligations.ResourceCommands : Prop :=
  ∀ (s : State) (tag n : Nat) (c : Cmd), tag < 4096 →
    let run (op : Nat) := s.ready tag op (fun _ => true) = some (n, c)
    let ends (i : Instr) (t : State) (code r0 r1 : Nat) := exec i s = .next (t.finishCmd n c code r0 r1)
    let p := c.param
    let kind := bits p 0 4
    let id := bits p 32 16
    let has (k i : Nat) := s.holder k i = some n ∧ kindHas k i = true
    let holders (t : State) (k i : Nat) (o : Option Nat) := t.holder k i = o ∧ ∀ k' i', k' ≠ k ∨ i' ≠ i → t.holder k' i' = s.holder k' i'
    let a := bits p 0 26
    let k := bits p 32 10
    let range := a % 65536 = 0 ∧ 1 ≤ k ∧ k ≤ 704 ∧ a + k * 65536 ≤ 2 ^ 26
    let pages := (List.range k).map fun i => a + i * 65536
    (run 0x20 →
      let i := Instr.slabMap tag
      let room := k ≤ (s.freeFrames (bitAt p 64)).length
      (¬range ∨ (∃ b ∈ pages, s.pageMapped n b = true) → ends i s Code.rejectClass 0 0) ∧
      (range → (∀ b ∈ pages, s.pageMapped n b = false) → s.quotaFits n 1 k = false → ends i s Code.rejectQuota 0 0) ∧
      (range → (∀ b ∈ pages, s.pageMapped n b = false) → s.quotaFits n 1 k = true → ¬room → ends i s Code.rejectCapacity 0 0) ∧
      (range → (∀ b ∈ pages, s.pageMapped n b = false) → s.quotaFits n 1 k = true → room → ∀ u, s.mapPages n a (bitAt p 64) k = some u →
        ends i (u.setUsed n (s.useOf n 1 + k)) Code.ok 0 0) ∧
      (range → k = 1 → s.pageMapped n a = false → s.quotaFits n 1 1 = true → room → ∀ l1, s.l1Of n = some l1 →
        bitAt (s.readMem (l1 + 4 * bits a 20 6) 4) 0 = true →
        let e := s.readMem (l1 + 4 * bits a 20 6) 4 / 64 * 64 + 4 * bits a 16 4
        ∃ (t : State) (g : Nat), ends i t Code.ok 0 0 ∧ g ∈ regionFrames (bitAt p 64) ∧ g ∉ s.usedFrames ∧
          t.readMem e 4 = g * 65536 + 1 ∧ (∀ b, g * 65536 ≤ b → b < g * 65536 + 65536 → b < e ∨ e + 4 ≤ b → t.byte b = 0) ∧
          (∀ b, b < e ∨ e + 4 ≤ b → b < g * 65536 ∨ g * 65536 + 65536 ≤ b → t.byte b = s.byte b) ∧ t.useOf n 1 = s.useOf n 1 + 1 ∧
          t = { s with fresh := t.fresh, mem := t.mem, eccBad := t.eccBad, eccSoft := t.eccSoft, used := t.used })) ∧
    (run 0x21 →
      let i := Instr.slabUnmap tag
      let bad := ¬range ∨ (∃ b ∈ pages, s.pageMapped n b = false) ∨ s.queueIn n a (k * 65536) = true ∨ s.chanIn n a (k * 65536) = true
      (bad → ends i s Code.rejectClass 0 0) ∧
      (¬bad → ∃ t : State, ends i t Code.ok 0 0 ∧ t.useOf n 1 = s.useOf n 1 - k ∧
        t = { s with mem := t.mem, eccBad := t.eccBad, eccSoft := t.eccSoft, used := t.used } ∧
        (k = 1 → ∀ e, s.entryPlace n a = some e → t.readMem e 4 = 0 ∧ ∀ b, b < e ∨ e + 4 ≤ b → t.byte b = s.byte b))) ∧
    (run 0x30 →
      let i := Instr.resAlloc tag
      let full := ∃ j, kindQuota kind = some j ∧ s.quotaFits n j 1 = false
      (kind = 0 ∨ 6 < kind → ends i s Code.rejectClass 0 0) ∧
      (1 ≤ kind → kind ≤ 6 →
        (id ≠ 0xFFFF → kindHas kind id = false ∨ s.holder kind id = some n → ends i s Code.rejectClass 0 0) ∧
        (id ≠ 0xFFFF → kindHas kind id = true → ∀ m, m ≠ n → s.holder kind id = some m → ends i s Code.rejectQuota 0 0) ∧
        (id = 0xFFFF ∨ kindHas kind id = true ∧ s.holder kind id = none → full → ends i s Code.rejectQuota 0 0) ∧
        (id ≠ 0xFFFF → kindHas kind id = true → s.holder kind id = none → ¬full → ∃ t : State, ends i t Code.ok id 0 ∧
          holders t kind id (some n) ∧ (kind = 2 → t.ctx id = { st := .idle, tenant := n }) ∧ (kind = 6 → t.flag id = { owner := some n }) ∧
          (kind = 5 → t.regN (Reg.PG_OWNER (dmaPage id)) = n % 2 ^ 32)) ∧
        (id = 0xFFFF → ¬full → (∀ j, kindHas kind j = true → s.holder kind j ≠ none) → ends i s Code.rejectCapacity 0 0) ∧
        (id = 0xFFFF → ¬full → (∃ j, kindHas kind j = true ∧ s.holder kind j = none) → ∃ (t : State) (j : Nat), ends i t Code.ok j 0 ∧
          kindHas kind j = true ∧ s.holder kind j = none ∧ holders t kind j (some n)))) ∧
    (run 0x31 →
      let i := Instr.resFree tag
      let held := s.queueTargets kind id = true ∨ s.grantTargets kind id = true ∨ kind = 1 ∧ (s.cuff id).lent ≠ .none ∨
        kind = 3 ∧ (s.pio id).forPort ≠ none
      (s.holder kind id = none ∨ kindHas kind id = false → ends i s Code.rejectClass 0 0) ∧
      (kindHas kind id = true → ∀ m, m ≠ n → s.holder kind id = some m → ends i s Code.rejectQuota 0 0) ∧
      (has kind id → held → ends i s Code.rejectClass 0 0) ∧
      (has kind id → ¬held → ∃ t : State, ends i t Code.ok 0 0 ∧ holders t kind id none ∧
        (kind = 2 → t.ctx id = {}) ∧ (kind = 6 → t.flag id = {}) ∧ (kind = 1 → (t.cuff id).fifo = [] ∧ (t.cuff id).armed = false))) ∧
    (run 0x32 →
      let i := Instr.pinLend tag
      let u := bits p 8 8
      let base := bits p 16 10
      let count := bits p 26 4
      let mode := bits p 32 2
      let eng := bits p 40 7
      let cs := (List.range count).map (base + ·)
      let sleeve := base / 32 = (base + count - 1) / 32
      let free (x : Nat) := s.ownsCuff n x = true ∧ s.queueTargets 1 x = false ∧ s.grantTargets 1 x = false ∧ s.pairEn (x / 2) = false ∧
        s.cuffMode x ≠ 1 ∧ (s.cuff x).lent = .none
      let pins := base + count ≤ 1024 ∧ ∀ x ∈ cs, free x
      let idle (e : Nat) := (s.pio e).count = 0 ∧ (s.pio e).forPort = none
      let lentTo (t : State) (w : Borrower) := (∀ x ∈ cs, (t.cuff x).lent = w ∧ t.cuffMode x = 3) ∧
        ∀ x, x ∉ cs → (t.cuff x).lent = (s.cuff x).lent
      let suits := mode = 1 ∧ (count = 4 ∨ count = 6) ∨ mode = 2 ∧ count = 4 ∨ mode = 3 ∧ (count = 2 ∨ count = 4 ∨ count = 6 ∨ count = 8)
      let bank := mode = 3 ∨ ∀ i < count, s.bit (Reg.SLV_STATUS ((base + i) / 32)) 0 = true
      (kind ≠ 3 → kind ≠ 4 → ends i s Code.rejectClass 0 0) ∧
      (kind = 3 → 1 ≤ count → has 3 u →
        (¬(count ≤ 8 ∧ sleeve ∧ idle u) ∨ 1024 < base + count → ends i s Code.rejectClass 0 0) ∧
        (count ≤ 8 → sleeve → idle u → base + count ≤ 1024 → (∃ x ∈ cs, s.ownsCuff n x = false) → ends i s Code.rejectQuota 0 0) ∧
        (count ≤ 8 → sleeve → idle u → base + count ≤ 1024 → (∀ x ∈ cs, s.ownsCuff n x = true) → ¬pins → ends i s Code.rejectClass 0 0) ∧
        (count ≤ 8 → sleeve → idle u → pins → ∃ t : State, ends i t Code.ok 0 0 ∧ lentTo t (.pio u) ∧ (t.pio u).base = base ∧
          (t.pio u).count = count ∧ t = { s with regs := t.regs, shadow := t.shadow, cuffs := t.cuffs, pios := t.pios })) ∧
      (kind = 4 → 1 ≤ count → has 4 u →
        (¬(suits ∧ base % 2 = 0 ∧ (s.port u).count = 0 ∧ bank) → ends i s Code.rejectClass 0 0) ∧
        (suits → base % 2 = 0 → (s.port u).count = 0 → bank → pins → (mode = 3 → has 3 eng ∧ idle eng ∧ sleeve) → ∃ t : State, ends i t Code.ok 0 0 ∧
          lentTo t (.fbk u) ∧ (t.port u).base = base ∧ (t.port u).count = count ∧
          (mode = 3 → (t.port u).engine = eng ∧ (t.pio eng).base = base ∧ (t.pio eng).count = count ∧ (t.pio eng).forPort = some u) ∧
          t = { s with regs := t.regs, shadow := t.shadow, cuffs := t.cuffs, pairs := t.pairs, pios := t.pios, ports := t.ports })) ∧
      (kind = 3 → count = 0 → has 3 u → ((s.pio u).forPort ≠ none → ends i s Code.rejectClass 0 0) ∧
        ((s.pio u).forPort = none → ∃ t : State, ends i t Code.ok 0 0 ∧ (t.pio u).count = 0 ∧ (t.pio u).st = 0 ∧
          ∀ x ∈ s.pioCuffs u, (t.cuff x).lent = .none ∧ t.cuffMode x = 0)) ∧
      (kind = 4 → count = 0 → has 4 u → ∃ t : State, ends i t Code.ok 0 0 ∧ (t.port u).count = 0 ∧
        ∀ x ∈ s.portCuffs u, (t.cuff x).lent = .none ∧ t.cuffMode x = 0)) ∧
    (run 0x33 →
      let i := Instr.portGrant tag
      let x := bits p 0 12
      let j := bits p 12 3
      let ttype := bits p 16 3
      let target := bits p 20 12
      let late := bits p 32 2
      let logen := bitAt p 34
      let l := s.queue (bits p 44 20)
      let logq := if logen then bits p 44 20 else 0
      let granted : NearPort := { ttype := ttype, target := target, late := late, logen := logen, logq := logq }
      let bound := s.guardedPath x ttype target = true ∨ s.bindCode n ttype target = Code.ok
      let ports (t : State) (v : NearPort) := Tbl.get {} (t.ctx x).ports j = v ∧ (∀ m, m ≠ j → Tbl.get {} (t.ctx x).ports m = Tbl.get {} (s.ctx x).ports m) ∧
        t.ctx x = { s.ctx x with ports := (t.ctx x).ports } ∧ (∀ m, m ≠ x → t.ctx m = s.ctx m) ∧ t = { s with ctxs := t.ctxs }
      (s.holder 2 x = none → ends i s Code.rejectClass 0 0) ∧
      (∀ m, m ≠ n → kindHas 2 x = true → s.holder 2 x = some m → ends i s Code.rejectQuota 0 0) ∧
      (has 2 x → ttype = 0 → ∃ t : State, ends i t Code.ok 0 0 ∧ ports t {}) ∧
      (has 2 x → 5 ≤ ttype ∨ ttype ≠ 0 ∧ late = 0 → ends i s Code.rejectClass 0 0) ∧
      (has 2 x → 1 ≤ ttype → ttype ≤ 4 → late ≠ 0 → ¬bound → ends i s (s.bindCode n ttype target) 0 0) ∧
      (has 2 x → 1 ≤ ttype → ttype ≤ 4 → late ≠ 0 → bound → logen = false ∨ l.state ≠ QState.free ∧ l.tenant = n ∧ l.ttype = 0 →
        ∃ t : State, ends i t Code.ok 0 0 ∧ ports t granted)) ∧
    (run 0x34 →
      let i := Instr.flagSet tag
      let x := bits p 0 12
      let senders := bitList 256 (bits p 64 256)
      let tenants := ∀ j ∈ senders, s.holder 2 (x / 256 * 256 + j) = some n
      (s.holder 6 x = none ∨ kindHas 6 x = false → ends i s Code.rejectClass 0 0) ∧
      (∀ m, m ≠ n → kindHas 6 x = true → s.holder 6 x = some m → ends i s Code.rejectQuota 0 0) ∧
      (has 6 x → ¬tenants → ends i s Code.rejectQuota 0 0) ∧
      (has 6 x → tenants → ∃ t : State, ends i t Code.ok 0 0 ∧ t.flag x = { s.flag x with ext := bitAt p 16, long := bitAt p 17, senders := senders } ∧
        (∀ m, m ≠ x → t.flag m = s.flag m) ∧ t = { s with flags := t.flags })) ∧
    (run 0x35 →
      let i := Instr.ctxStart tag
      let x := bits p 0 12
      let b := bits p 32 14
      let y := s.ctx x
      let may := (y.st = .idle ∨ y.st = .halted) ∧ 0x2000 ≤ b ∧ b < 0x4000 ∧ 8 ≤ b % 256 ∧ s.unitOwner (s.trayNum x) ((b - 0x2000) / 256) = some n
      (s.holder 2 x = none → ends i s Code.rejectClass 0 0) ∧
      (∀ m, m ≠ n → kindHas 2 x = true → s.holder 2 x = some m → ends i s Code.rejectQuota 0 0) ∧
      (has 2 x → ¬may → ends i s Code.rejectClass 0 0) ∧
      (has 2 x → may → ∃ t : State, ends i t Code.ok 0 0 ∧ (t.ctx x).st = .run ∧ (t.ctx x).pc = b ∧ (t.ctx x).home = some ((b - 0x2000) / 256) ∧
        (∀ r < 16, (t.ctx x).reg r = 0) ∧ (t.ctx x).c = false ∧ (t.ctx x).z = false ∧
        (t.ctx x).n = false ∧ (t.ctx x).v = false ∧ (t.ctx x).la = false ∧ (t.ctx x).mode = 0 ∧ (t.ctx x).seg = 0 ∧ (t.ctx x).lc = 0 ∧
        (t.ctx x).lstart = 0 ∧ (t.ctx x).lend = 0 ∧ (t.ctx x).stack = [] ∧
        (t.ctx x).tenant = y.tenant ∧ (t.ctx x).ports = y.ports ∧ (∀ m, m ≠ x → t.ctx m = s.ctx m) ∧
        t = { s with ctxs := t.ctxs }))

/-- R106-R108, R174-R178, R259, R262-R264, R275, R276: CFG_WRITE and CFG_COMMIT, the microcode commands, the tenant commands,
IRQ_ROUTE and IRQ_QUERY. -/
def Obligations.FirmwareCommands : Prop :=
  ∀ (s : State) (tag n : Nat) (c : Cmd), tag < 4096 →
    let run (op : Nat) := s.ready tag op (fun _ => true) = some (n, c)
    let ends (i : Instr) (t : State) (code r0 r1 : Nat) := exec i s = .next (t.finishCmd n c code r0 r1)
    let p := c.param
    let page := bits p 0 11
    let owner := s.regN (Reg.PG_OWNER page)
    let pcode := if blockOf page = none then Code.rejectClass else if owner ≠ 0 ∧ owner ≠ n then Code.rejectQuota else Code.ok
    (run 0x40 →
      let i := Instr.cfgWrite tag
      let k := bits p 16 3
      let may := n = 0 ∨ ∀ w ∈ cfgPairs p, s.regOwner page w.1 = some n
      let off := bits p 64 12
      let addr := page * 0x4000 + bits p 76 2 * 0x1000 + off
      (k = 0 ∨ 5 < k → ends i s Code.rejectClass 0 0) ∧
      (1 ≤ k → k ≤ 5 → pcode ≠ Code.ok → ends i s pcode 0 0) ∧
      (1 ≤ k → k ≤ 5 → pcode = Code.ok → ¬may → ends i s Code.rejectQuota 0 0) ∧
      let armed (r : RegRow) := s.pageArmed page = true ∧ (r.rws ≠ 0 ∨ off = 0x20 ∧ 0 < setCount (bits p 96 32) [0, 1, 3])
      let applied := off % 4 = 0 ∧ ∃ r, rowOf (page * 0x1000 + off) = some r ∧ ¬armed r
      let plain (w : Nat × Nat × Nat) := w.1 % 4 = 0 ∧ w.1 ≠ 0x20 ∧ ∃ r, rowOf (page * 0x1000 + w.1) = some r ∧ r.rws = 0
      (1 ≤ k → k ≤ 5 → pcode = Code.ok → may → ∃ (t : State) (r0 : Nat), ends i t Code.ok r0 0 ∧ r0 ≤ k ∧
        (k = 1 → (applied → r0 = 1) ∧ (¬applied → r0 = 0)) ∧
        ((∀ w ∈ cfgPairs p, plain w) → r0 = k) ∧
        (k = 1 → off % 4 ≠ 0 → t = s) ∧
        (k = 1 → off % 4 = 0 → addr < 0x1FF0000 → s.pfPage page = true → (s.fn 0).buf = [] → s.fullBufs = [] →
          exec (.registerWrite 0 (dword addr) (bits p 96 32)) s = .next t))) ∧
    (run 0x41 →
      let i := Instr.cfgCommit tag
      let mine := n = 0 ∨ ∀ k ∈ s.dirtyKeys page, s.regOwner page (k % 0x1000) = some n
      let free := s.pageArmed page = false ∧ s.groupOf page = none
      let time := bits p 64 60
      let soon := s.atOrAfter time (s.plus s.tb.now (96 * 16)) = false
      let fails (b code : Nat) := ∃ t : State, ends i t code 0 0 ∧ t.bit (Reg.PG_ERR page) b = true ∧ t.fld (Reg.PG_ERR_INFO page) 0 8 = code ∧
        OnlyRegs [Reg.PG_ERR page, Reg.PG_ERR_INFO page] s t
      let refused (code : Nat) := ∃ t : State, ends i t code 0 0 ∧ (blockOf page = none → t = s) ∧
        (blockOf page ≠ none → t.fld (Reg.PG_ERR_INFO page) 0 8 = code ∧ OnlyRegs [Reg.PG_ERR_INFO page] s t)
      (pcode ≠ Code.ok → refused pcode) ∧
      (pcode = Code.ok → n ≠ 0 → tenantPage page = false → refused Code.rejectQuota) ∧
      (pcode = Code.ok → n = 0 ∨ tenantPage page = true → ¬mine → refused Code.rejectClass) ∧
      (pcode = Code.ok → n = 0 ∨ tenantPage page = true → mine → ¬free → fails 0 Code.rejectClass) ∧
      (pcode = Code.ok → n = 0 ∨ tenantPage page = true → mine → free → bitAt p 16 = true → soon → fails 1 Code.rejectLate) ∧
      (pcode = Code.ok → n = 0 ∨ tenantPage page = true → mine → free → bitAt p 16 = true → ¬soon → ∃ t : State, ends i t Code.ok 0 time ∧
        t.page page = { s.page page with armed := .timed time } ∧ t.commitTime page = time ∧ (∀ k, k ≠ page → t.page k = s.page k) ∧
        t = { s with regs := t.regs, pages := t.pages }) ∧
      (pcode = Code.ok → n = 0 ∨ tenantPage page = true → mine → free → bitAt p 16 = false → ensPage page = false →
        ∃ t : State, ends i t Code.ok 0 (t.commitTime page) ∧ t.page page = {} ∧
          (s.canonical = true → plainPage page = true → page ≠ 5 → t.commitTime page = s.tb.now % 2 ^ 64 ∧
            (∀ k, pageOf k = page → k < tenBase → k ≠ Reg.PG_SEQ page → k ≠ Reg.PG_COMMIT_TIME_L page → k ≠ Reg.PG_COMMIT_TIME_H page →
              t.staged k = t.reg k ∧ t.reg k = if s.staged k = s.reg k then s.reg k else word (s.inRange k (s.staged k).toNat)) ∧
            (∀ k, pageOf k ≠ page → t.reg k = s.reg k ∧ t.staged k = s.staged k) ∧
            t = { s with regs := t.regs, shadow := t.shadow, pages := t.pages }))) ∧
    (∀ image : List Nat, run 0x50 →
      let i := Instr.ucodeLoad tag image
      let bs := padTo (bits p 64 32) image
      let ls := namedTrays p
      let free := (List.range 32).filter fun u => decide (∀ l ∈ ls, s.unitOwner l u = none)
      let sound := ofBytesLE (bs.take 4) = 0x39475250 ∧ ofBytesLE ((bs.drop 4).take 2) = 1 ∧ crc32 (bs.drop 64) = ofBytesLE ((bs.drop 0x10).take 4)
      ((s.fn n).bme = false → exec i s = .next s) ∧
      ((s.fn n).bme = true → ¬sound ∨ imageOf bs = none ∨ bits p 0 64 % 8 ≠ 0 ∨ ls = [] → ends i s Code.rejectClass 0 0) ∧
      ((s.fn n).bme = true → bits p 0 64 % 8 = 0 → ls ≠ [] → ∀ x, imageOf bs = some x →
        let new := ∃ l ∈ ls, s.baseOf l < x.baseMin
        let fits := s.quotaFits n 4 (x.units * ls.length) = true
        (new → ends i s Code.rejectClass 0 0) ∧
        (¬new → ¬fits → ends i s Code.rejectQuota 0 0) ∧
        (¬new → fits → free.length < x.units → ends i s Code.rejectCapacity 0 0) ∧
        (¬new → fits → x.units ≤ free.length → ∃ (t : State) (mask : Nat), ends i t Code.ok mask 0 ∧ (bitList 32 mask).length = x.units ∧
          (∀ u ∈ bitList 32 mask, u ∈ free ∧ ∀ l ∈ ls, t.unitOwner l u = some n) ∧
          (∀ l u, u < 32 → l ∉ ls ∨ u ∉ bitList 32 mask → t.unitOwner l u = s.unitOwner l u) ∧
          (∀ (j w a : Nat), (x.placed mask)[j]? = some w → (unitAddrs mask)[j]? = some a → ∀ l ∈ ls,
            t.word40 (csKey (s.physOf l) a) = BitVec.ofNat 40 w) ∧
          t = { s with fresh := t.fresh, cs := t.cs, csBad := t.csBad, csSoft := t.csSoft, units := t.units }))) ∧
    (run 0x51 →
      let i := Instr.ucodeFree tag
      let ls := namedTrays p
      let us := bitList 32 (bits p 0 32)
      let foreign := ∃ l ∈ ls, ∃ u ∈ us, ∃ m, m ≠ n ∧ s.unitOwner l u = some m
      let none_ := ∃ l ∈ ls, ∃ u ∈ us, s.unitOwner l u = none
      let busy := s.unitsBusy n ls us = true
      (foreign → ends i s Code.rejectQuota 0 0) ∧
      (¬foreign → none_ ∨ busy → ends i s Code.rejectClass 0 0) ∧
      (¬foreign → ¬none_ → ¬busy → ∃ t : State, ends i t Code.ok 0 0 ∧ (∀ l ∈ ls, ∀ u ∈ us, t.unitOwner l u = none) ∧
        (∀ l u, u < 32 → l ∉ ls ∨ u ∉ us → t.unitOwner l u = s.unitOwner l u) ∧ t = { s with units := t.units })) ∧
    (∀ image : List Nat, run 0x52 →
      let i := Instr.ucodeUpdate tag image
      let ls := namedTrays p
      let mask := bits p 128 32
      let us := bitList 32 mask
      let img := imageOf (padTo (bits p 64 32) image)
      let waits := (s.fn n).bme = false ∨ s.upd ≠ none
      let spare := s.spareTray < 9 ∧ s.rebuilding = false ∧ s.mode ≠ Mode.degraded
      (waits → exec i s = .next s) ∧
      (¬waits → img = none ∨ ls = [] → ends i s Code.rejectClass 0 0) ∧
      (¬waits → bits p 0 64 % 8 = 0 → ls ≠ [] → ∀ x, img = some x → (∀ l ∈ ls, x.baseMin ≤ s.baseOf l) →
        let owned := ∀ l ∈ ls, ∀ u ∈ us, s.unitOwner l u = some n
        let may := x.units = us.length ∧ s.guardedIn ls us = false ∧ s.resumesOver ls mask (x.placed mask) = true
        (owned → ¬may → ends i s Code.rejectClass 0 0) ∧
        (owned → may → ¬spare → ends i s Code.rejectCapacity 0 0) ∧
        (owned → may → spare → ∀ l, ls.head? = some l → ∃ t : State, exec i s = .next t ∧
          t.upd = some { fn := n, tag := tag, units := mask, words := x.placed mask, todo := ls } ∧
          (t.tray s.spareTray).rebuildFor = some (s.physOf l) ∧ (∀ y, y ≠ s.spareTray → t.tray y = s.tray y) ∧
          t = { s with trays := t.trays, cs := t.cs, csBad := t.csBad, csSoft := t.csSoft, upd := t.upd }))) ∧
    (run 0x60 →
      let i := Instr.tenantQuota tag
      let m := bits p 0 9
      let j := bits p 32 4
      let v := bits p 64 32
      let legal := m ≠ 0 ∧ j < 11 ∧ (j = 8 → v ≤ 16) ∧ (j = 10 → 1 ≤ v ∧ v ≤ 4)
      let room := ¬(2 ≤ j ∧ j ≤ 7) ∨ s.grants j - s.grant m j + v + s.useOf 0 j ≤ quotaTotal j
      (¬legal → ends i s Code.rejectClass 0 0) ∧
      (legal → v < s.useOf m j → ends i s Code.rejectQuota 0 0) ∧
      (legal → s.useOf m j ≤ v → ¬room → ends i s Code.rejectCapacity 0 0) ∧
      (legal → s.useOf m j ≤ v → room → ∃ t : State, ends i t Code.ok 0 0 ∧ t.quotaOf m j = v ∧
        (∀ m' j', m' ≠ m ∨ j' ≠ j → j' < 11 → t.grant m' j' = s.grant m' j') ∧ t = { s with quota := t.quota })) ∧
    (run 0x61 →
      let i := Instr.tenantCredit tag
      let k := bits p 32 13
      (¬(1 ≤ k ∧ k ≤ 4096) → ends i s Code.rejectClass 0 0) ∧
      (1 ≤ k → k ≤ 4096 → ∃ t : State, ends i t Code.ok 0 0 ∧ t.fld (Reg.TEN_CREDIT (bits p 0 9)) 0 13 = k ∧
        OnlyRegs [Reg.TEN_CREDIT (bits p 0 9)] s t)) ∧
    (run 0x62 →
      let i := Instr.tenantAbort tag
      let m := bits p 0 9
      (m = 0 → ends i s Code.rejectClass 0 0) ∧
      (m ≠ 0 → ∃ t : State, exec i s = .next t ∧ (t.fn m).aborting = true ∧ tag ∈ (t.fn m).abortTags ∧
        ((s.fn m).aborting = false → t.bit (Reg.TEN_ABORT_STATUS m) 0 = true ∧ t.bit (Reg.TEN_ABORT_STATUS m) 2 = true ∧
          (t.fn m).buf = [] ∧ (∀ q, (s.queue q).state ≠ QState.free → (s.queue q).tenant = m → (t.queue q).state = QState.stopped ∧
            (t.queue q).err = 0x0B)) ∧
        ((s.fn m).aborting = true → s.pwr.entering = false → t = s.setFn m { s.fn m with abortTags := (s.fn m).abortTags ++ [tag] }))) ∧
    (run 0x63 →
      let i := Instr.tenantRelease tag
      let m := bits p 0 9
      (n ≠ 0 → m ≠ n → ends i s Code.rejectQuota 0 0) ∧
      (n = 0 ∨ m = n → ∃ t : State, ends i t Code.ok 0 0 ∧ (∀ q, (s.queue q).state ≠ QState.free → (s.queue q).tenant = m → t.queue q = {}) ∧
        (∀ k j, kindHas k j = true → t.holder k j ≠ some m) ∧ (∀ l u, t.unitOwner l u ≠ some m) ∧ t.useOf m 1 = 0 ∧ t.quota = s.quota)) ∧
    (run 0x78 →
      let i := Instr.irqRoute tag
      let id := bits p 0 14
      let func := bits p 32 9
      let vec := bits p 48 11
      let en := bitAt p 16
      let own := s.srcOwner id
      let may := srcNamed id = true ∧ (n = 0 ∨ own = n) ∧ (func = own ∨ n = 0 ∧ func = 0 ∧ 0x3000 ≤ id)
      let fits := vec < s.quotaOf func 8 ∧ (s.src id).stw = false
      let routed (u : State) := (u.src id).prio = bits p 24 8 ∧ (u.src id).func = func ∧ (u.src id).vec = vec ∧ u.srcEn id = en ∧
        u.srcPend id = s.srcPend id ∧ (∀ j, j ≠ id → u.src j = s.src j ∧ u.srcEn j = s.srcEn j) ∧
        (∀ k, k ≠ Reg.HVC_EN (id / 32) → u.reg k = s.reg k) ∧ u = { s with regs := u.regs, srcs := u.srcs }
      (¬may → ends i s Code.rejectQuota 0 0) ∧
      (may → ¬fits → ends i s Code.rejectClass 0 0) ∧
      (may → fits → ¬(s.srcPend id = true ∧ en = true) → ∃ u : State, ends i u Code.ok 0 0 ∧ routed u) ∧
      (may → fits → s.srcPend id = true → en = true → ∃ u : State, ends i (u.countEvent func vec) Code.ok 0 0 ∧ routed u)) ∧
    (run 0x79 →
      let i := Instr.irqQuery tag
      let id := bits p 0 14
      let may := srcNamed id = true ∧ (n = 0 ∨ s.srcOwner id = n)
      let r := s.src id
      (¬may → ends i s Code.rejectQuota 0 0) ∧
      (may → ends i s Code.ok (r.prio % 2 ^ 8 + r.func % 2 ^ 9 * 2 ^ 8 + r.vec % 2 ^ 11 * 2 ^ 17 + r.core % 4 * 2 ^ 28 +
        (if r.stw then 2 ^ 30 else 0)) ((if s.srcEn id then 1 else 0) + (if s.srcPend id then 2 else 0))))

/-! ### Interrupts (R272-R289) -/

/-- R277-R283, R289: events and moderation timers, and the enable and pending registers of the tenant page. -/
def Obligations.InterruptEvents : Prop :=
  ∀ (s : State) (id fn v : Nat), fn < 512 → v < 2048 →
    let key := fn * 2048 + v
    let f := s.fn fn
    let x := s.vec key
    let n := min 255 (x.count + 1)
    let target := max 1 (s.fld (Reg.TEN_VMOD fn v) 0 8)
    let enabled := s.bit Reg.HVC_CTRL 0 = true
    let open_ := f.msixEn = true ∧ f.fmask = false ∧ x.masked = false ∧ f.bme = true ∧ s.link.up = true
    let sent (t : State) := t.out = s.out ++ [.msix fn v] ∧ t.vec key = { x with count := 0, start := none, pba := false } ∧
      t = { s with out := t.out, regs := t.regs, srcs := t.srcs, vecs := t.vecs }
    let held (t : State) := t.link = { s.link with held := if (fn, v) ∈ s.link.held then s.link.held else s.link.held ++ [(fn, v)] } ∧
      t = { s with regs := t.regs, link := t.link, srcs := t.srcs, vecs := t.vecs }
    let masked (t : State) := (t.vec key).pba = true ∧ t = { s with regs := t.regs, srcs := t.srcs, vecs := t.vecs }
    let noted := if (s.src id).at_ = some s.tick then s.src id else { s.src id with at_ := some s.tick, was := s.srcPend id }
    let vecsKept (t : State) := ∀ k, k ≠ key → t.vec k = s.vec k
    (id < 0x3FFF → srcNamed id = false → exec (.hvcEvent id) s = .next s) ∧
    (id < 0x3FFF → srcNamed id = true →
      let pended (t : State) := t.srcPend id = true ∧ (∀ j, j ≠ id → t.srcPend j = s.srcPend j) ∧
        (∀ k, k ≠ Reg.HVC_PEND (id / 32) → t.reg k = s.reg k) ∧ ∀ j, j ≠ id → t.src j = s.src j
      let counted (t : State) := pended t ∧ vecsKept t ∧ (t.vec key).count = n ∧ (t.vec key).start = some (x.start.getD s.tick)
      (s.srcEn id = false → ∃ t : State, exec (.hvcEvent id) s = .next t ∧ pended t ∧ t.src id = { noted with cold := true } ∧
        t = { s with regs := t.regs, srcs := t.srcs }) ∧
      (s.srcEn id = true → (s.src id).stw = true → ∃ t : State, exec (.hvcEvent id) s = .next t ∧ pended t ∧ t.src id = noted ∧
        t = { s with regs := t.regs, srcs := t.srcs }) ∧
      (s.srcEn id = true → (s.src id).stw = false → (s.src id).func = fn → (s.src id).vec = v →
        (f.dstate = 0 → n < target ∨ ¬enabled → ∃ t : State, exec (.hvcEvent id) s = .next t ∧ counted t ∧ t.src id = noted ∧
          t = { s with regs := t.regs, srcs := t.srcs, vecs := t.vecs }) ∧
        (f.dstate = 0 → target ≤ n → enabled → open_ → s.link.l0 = true → ∃ t : State, exec (.hvcEvent id) s = .next t ∧ pended t ∧
          vecsKept t ∧ sent t) ∧
        (f.dstate = 0 → target ≤ n → enabled → open_ → s.link.l0 = false → ∃ t : State, exec (.hvcEvent id) s = .next t ∧ counted t ∧
          held t) ∧
        (f.dstate = 0 → target ≤ n → enabled → ¬open_ → ∃ t : State, exec (.hvcEvent id) s = .next t ∧ counted t ∧ masked t) ∧
        (f.dstate ≠ 0 → ∃ t : State, exec (.hvcEvent id) s = .next t ∧ pended t ∧ t.src id = noted ∧ (t.vec key).count = n ∧
          (t.vec key).start = some (x.start.getD s.tick) ∧
          let wakes := f.pmeEn = true ∧ f.pmeStatus = false
          let quiet := ¬wakes ∨ f.dstate = 2 ∨ s.link.l0 = true
          (wakes → t.fn fn = { f with pmeStatus := true } ∧
            ∃ before, t.out = s.out ++ before ++ [if f.dstate = 2 then .wakeN else .pme fn] ∧ (quiet → before = [])) ∧
          (wakes → f.dstate ≠ 2 → t.link.l0 = true) ∧ (quiet → vecsKept t ∧ t.link = s.link) ∧
          (¬wakes → t.fns = s.fns ∧ t.out = s.out) ∧ (∀ m, m ≠ fn → t.fn m = s.fn m) ∧
          t = { s with out := t.out, regs := t.regs, fns := t.fns, link := t.link, srcs := t.srcs, vecs := t.vecs }))) ∧
    (v < (if fn = 0 then 2048 else 16) →
      let time := s.fld (Reg.TEN_VMOD fn v) 8 16
      let due := 0 < x.count ∧ (target ≤ x.count ∨ time ≠ 0 ∧ ∃ t0, x.start = some t0 ∧ t0 + time * 1500 ≤ s.tick)
      (¬(due ∧ enabled ∧ f.dstate = 0) → exec (.moderationTimer fn v) s = .next s) ∧
      (due → enabled → f.dstate = 0 → open_ → s.link.l0 = true → ∃ t : State, exec (.moderationTimer fn v) s = .next t ∧ vecsKept t ∧
        sent t ∧ t.regs = s.regs ∧ t.srcs = s.srcs) ∧
      (due → enabled → f.dstate = 0 → open_ → s.link.l0 = false → ∃ t : State, exec (.moderationTimer fn v) s = .next t ∧ vecsKept t ∧
        t.vec key = x ∧ held t ∧ t.regs = s.regs ∧ t.srcs = s.srcs) ∧
      (due → enabled → f.dstate = 0 → ¬open_ → ∃ t : State, exec (.moderationTimer fn v) s = .next t ∧ vecsKept t ∧
        t.vec key = { x with pba := true } ∧ masked t ∧ t.regs = s.regs ∧ t.srcs = s.srcs)) ∧
    (s.tenPage fn = true → ∀ value : Nat,
      let d := s.drainBuf fn
      let named (j : Nat) := decide (24 * fn ≤ j ∧ j < 24 * fn + 22) && bitAt value (j - 24 * fn)
      let missed (j : Nat) := d.srcPend j = true ∧ d.srcEn j = false ∧ (d.src j).cold = true
      let k := value % 2 ^ 14
      let shared := 0x3000 ≤ k ∧ srcNamed k = true ∧ (d.src k).stw = false ∧ (d.src k).func = fn
      let enables (j : Nat) (c : Instr) := missed j → ∃ u : State, exec c s = .next (u.deliver j) ∧ u.srcEn j = true ∧
        u.src j = { d.src j with cold := false } ∧ (∀ i, i ≠ j → u.src i = d.src i ∧ u.srcEn i = d.srcEn i) ∧
        (∀ r, r ≠ Reg.HVC_EN (j / 32) → u.reg r = d.reg r) ∧ u = { d with regs := u.regs, srcs := u.srcs }
      (∃ t : State, exec (.tenIrqEnSet fn value) s = .next t ∧ (∀ j < 16384, t.srcEn j = (d.srcEn j || named j)) ∧
        (∀ j < 16384, t.srcPend j = d.srcPend j) ∧ ((∀ j, named j = true → ¬missed j) → t = { d with regs := t.regs })) ∧
      (∀ j < 22, value = 2 ^ j → enables (24 * fn + j) (.tenIrqEnSet fn value)) ∧
      (∃ t : State, exec (.tenIrqEnClr fn value) s = .next t ∧ (∀ j < 16384, t.srcEn j = (d.srcEn j && !named j)) ∧
        (∀ j < 16384, t.srcPend j = d.srcPend j) ∧ t = { d with regs := t.regs }) ∧
      (∃ t : State, exec (.tenIrqPendSet fn value) s = .next t ∧ (∀ j < 16384, t.srcPend j = (d.srcPend j || named j)) ∧
        (∀ j < 16384, t.srcEn j = d.srcEn j) ∧ t = { d with out := t.out, regs := t.regs, fns := t.fns, link := t.link, srcs := t.srcs, vecs := t.vecs }) ∧
      (∀ j < 22, value = 2 ^ j → exec (.tenIrqPendSet fn value) s = exec (.hvcEvent (24 * fn + j)) d) ∧
      (∃ t : State, exec (.tenIrqPendClr fn value) s = .next t ∧ (∀ j < 16384, t.srcPend j = (d.srcPend j && !named j)) ∧
        (∀ j < 16384, t.srcEn j = d.srcEn j) ∧ t = { d with regs := t.regs, srcs := t.srcs }) ∧
      (¬shared → exec (.tenIrqShenSet fn value) s = .next d ∧ exec (.tenIrqShenClr fn value) s = .next d ∧
        exec (.tenIrqShpendClr fn value) s = .next d) ∧
      (shared → enables k (.tenIrqShenSet fn value) ∧
        (¬missed k → ∃ t : State, exec (.tenIrqShenSet fn value) s = .next t ∧ t.srcEn k = true ∧ (∀ j, j ≠ k → t.srcEn j = d.srcEn j) ∧
          OnlyRegs [Reg.HVC_EN (k / 32)] d t) ∧
        (∃ t : State, exec (.tenIrqShenClr fn value) s = .next t ∧ t.srcEn k = false ∧ (∀ j, j ≠ k → t.srcEn j = d.srcEn j) ∧
          OnlyRegs [Reg.HVC_EN (k / 32)] d t) ∧
        (∃ t : State, exec (.tenIrqShpendClr fn value) s = .next t ∧ t.srcPend k = false ∧ (∀ j, j ≠ k → t.srcPend j = d.srcPend j) ∧
          (∀ r, r ≠ Reg.HVC_PEND (k / 32) → t.reg r = d.reg r) ∧ t = { d with regs := t.regs, srcs := t.srcs })))

/-- R275, R276, R278, R279, R284, R285: routes, claims and the margin. -/
def Obligations.RoutesAndClaims : Prop :=
  ∀ (s : State) (c v id : Nat), c < 4 → id < 0x4000 →
    let stack := s.stack c
    let on := s.mode ≠ Mode.off ∧ s.mode ≠ Mode.doze
    let stacksKept (t : State) := ∀ j, j ≠ c → t.stack j = s.stack j
    let before (u : State) (i : Nat) := if (u.src i).at_ = some u.tick then (u.src i).was else u.srcPend i
    let claimable (i : Nat) := s.bit Reg.HVC_CTRL 0 = true ∧ before s i = true ∧ s.srcEn i = true ∧ (s.src i).stw = true ∧
      (s.src i).core = c ∧ ∀ x r, stack = x :: r → x.2 + s.fld Reg.HVC_MARGIN 0 8 < (s.src i).prio
    let urgent := claimable id ∧ ∀ j, j < 0x4000 → j ≠ id → claimable j →
      (s.src j).prio < (s.src id).prio ∨ (s.src j).prio = (s.src id).prio ∧ id < j
    let idle (t : State) := t.out = s.out ++ [.readData 0 0x3FFF]
    (on → (∀ i < 0x4000, ¬claimable i) → stack.length < 16 → exec (.hvcClaim c) s =
      .next { s with out := s.out ++ [.readData 0 0x3FFF] }) ∧
    (on → (∀ i < 0x4000, ¬claimable i) → ∃ t : State, exec (.hvcClaim c) s = .next t ∧ idle t) ∧
    (on → urgent → stack.length < 16 → ∃ t : State, exec (.hvcClaim c) s = .next t ∧ t.out = s.out ++ [.readData 0 (BitVec.ofNat 32 id)] ∧
      t.stack c = (id, (s.src id).prio) :: stack ∧ stacksKept t ∧
      t.srcPend id = (decide ((s.src id).at_ = some s.tick) && s.srcPend id) ∧ before t id = false ∧ (∀ j, j ≠ id → t.src j = s.src j) ∧ (∀ j, j ≠ id → t.srcPend j = s.srcPend j) ∧
      (∀ k, k ≠ Reg.HVC_PEND (id / 32) → t.reg k = s.reg k) ∧
      t = { s with out := t.out, regs := t.regs, srcs := t.srcs, coreStacks := t.coreStacks }) ∧
    (on → urgent → 16 ≤ stack.length → ∃ t : State, exec (.hvcClaim c) s = .next t ∧ idle t ∧ t.bit (Reg.PG_ERR 0xA0) 17 = true ∧
      t = { s with out := t.out, regs := t.regs } ∧ ∀ k, k ≠ Reg.PG_ERR 0xA0 → t.reg k = s.reg k) ∧
    (s.pfPage 0xA0 = true →
      let d := s.drainBuf 0
      let i := d.fld Reg.HVC_SSEL 0 14
      let r := d.src i
      let func := if i < 0x3000 then r.func else bits v 8 9
      let vec := bits v 17 11
      let prio := bits v 0 8
      let ok := srcNamed i = true ∧ (func = d.srcOwner i ∨ func = 0 ∧ 0x3000 ≤ i) ∧ vec < d.quotaOf func 8 ∧ r.stw = false
      let routed (u : State) := (u.src i).prio = prio ∧ (u.src i).func = func ∧ (u.src i).vec = vec ∧ (u.src i).stw = false ∧
        (∀ j, j ≠ i → u.src j = d.src j) ∧ (∀ k, u.reg k = d.reg k) ∧ u = { d with regs := u.regs, srcs := u.srcs }
      (¬ok → ∃ t : State, exec (.hvcScfg v) s = .next t ∧ t.bit (Reg.PG_ERR 0xA0) 19 = true ∧ OnlyRegs [Reg.PG_ERR 0xA0] d t) ∧
      (ok → ¬(d.srcPend i = true ∧ d.srcEn i = true) → ∃ u : State, exec (.hvcScfg v) s = .next u ∧ routed u) ∧
      (ok → d.srcPend i = true → d.srcEn i = true → ∃ u : State, exec (.hvcScfg v) s = .next (u.countEvent func vec) ∧ routed u) ∧
      (∀ view < 4,
        (d.coreStacks ≠ [] → ∃ t : State, exec (.hvcMargin view v) s = .next t ∧ t.bit (Reg.PG_ERR 0xA0) 18 = true ∧
          OnlyRegs [Reg.PG_ERR 0xA0] d t) ∧
        (d.coreStacks = [] → ∃ t : State, exec (.hvcMargin view v) s = .next t ∧
          t.regN Reg.HVC_MARGIN = (viewed view (d.reg Reg.HVC_MARGIN) (BitVec.ofNat 32 v)).toNat % 2 ^ 8 ∧
          OnlyRegs [Reg.HVC_MARGIN] d t)))

/-- R286: the end of a source's service, by where its ID stands on the core's stack and by HVC_CTRL.STRICT. A steward core
writes in every mode but OFF and DOZE. -/
def Obligations.CompletionOfService : Prop :=
  ∀ (s : State) (c id : Nat), c < 4 → id < 0x4000 → s.mode ≠ Mode.off → s.mode ≠ Mode.doze →
    let stack := s.stack c
    let strict := s.bit Reg.HVC_CTRL 1 = true
    let listed := ∃ x ∈ stack, x.1 = id
    let err := Reg.PG_ERR 0xA0
    let stacksKept (t : State) := ∀ j, j ≠ c → t.stack j = s.stack j
    let info (t : State) := t.fld Reg.HVC_STK_INFO 0 2 = c ∧ t.fld Reg.HVC_STK_INFO 16 14 = id ∧
      t.bit Reg.HVC_STK_INFO 30 = !decide listed ∧ ∀ x r, stack = x :: r → t.fld Reg.HVC_STK_INFO 2 14 = x.1 % 2 ^ 14
    let counts (t : State) := t.regN Reg.HVC_STK_CNT = min (2 ^ 32 - 1) (s.regN Reg.HVC_STK_CNT + 1)
    exec (.hvcComplete c 0x3FFF) s = .next s ∧
    (id ≠ 0x3FFF → (∀ x r, stack = x :: r → x.1 = id → ∃ t : State, exec (.hvcComplete c id) s = .next t ∧ t.stack c = r ∧
        stacksKept t ∧ t = { s with coreStacks := t.coreStacks }) ∧
      ((∀ x r, stack = x :: r → x.1 ≠ id) →
        (strict → ∃ t : State, exec (.hvcComplete c id) s = .next t ∧ info t ∧ t.bit err 16 = true ∧ t.srcPend 0x3448 = true ∧
          t.coreStacks = s.coreStacks ∧ SameButEvents [Reg.HVC_STK_INFO, Reg.HVC_STK_CNT, err, Reg.REL_LHEAD] s t ∧
          (s.pairUp 1 = true → s.tb.now < 2 ^ 60 → t.fld Reg.REL_LHEAD 0 10 = (s.fld Reg.REL_LHEAD 0 10 + 1) % 1024 ∧
            bits (Tbl.get 0 t.rel.ring (s.fld Reg.REL_LHEAD 0 10)).toNat 64 8 = 0x1D)) ∧
        (¬strict → listed → ∃ t : State, exec (.hvcComplete c id) s = .next t ∧ info t ∧ counts t ∧ t.bit err 16 = true ∧
          t.stack c = stack.eraseP (fun x => x.1 == id) ∧ stacksKept t ∧ t = { s with regs := t.regs, coreStacks := t.coreStacks } ∧
          ∀ k, k ∉ [Reg.HVC_STK_INFO, Reg.HVC_STK_CNT, err] → t.reg k = s.reg k) ∧
        (¬strict → ¬listed → ∃ t : State, exec (.hvcComplete c id) s = .next t ∧ info t ∧ counts t ∧
          OnlyRegs [Reg.HVC_STK_INFO, Reg.HVC_STK_CNT] s t)))

/-! ### DMA and mailboxes (R290-R311) -/

/-- R290-R302: pushes, transfers, completion queues, halts, enable, disable and continue, and the DMA commands (R303). -/
def Obligations.DmaChannels : Prop :=
  ∀ (s : State) (ch tag n : Nat) (c : Cmd), ch < 32 → tag < 4096 →
    let p := c.param
    let ready (op : Nat) (sub : Nat → Bool) := s.ready tag op sub = some (n, c)
    let run (op : Nat) := ready op (fun _ => true) ∧ bits p 0 5 = ch
    let ends (i : Instr) (t : State) (code r0 r1 : Nat) := exec i s = .next (t.finishCmd n c code r0 r1)
    let pf := s.pfPage (0x80 + ch) = true
    let d := s.drainBuf 0
    let stat := Reg.DMA_STATUS ch
    let ctrl := Reg.DMA_CTRL ch
    let dseq := Reg.DMA_DSEQ ch
    let bytes := Reg.DMA_BYTES ch
    let err := Reg.PG_ERR (0x80 + ch)
    let cfg := Reg.DMA_CQ_CFG ch
    let chans (u t : State) := ∀ j, j ≠ ch → t.chan j = u.chan j
    let legal (v : Nat) :=
      let len := bits v 128 32
      let x := bits v 160 32
      let op := bits x 0 2
      let w := if bitAt x 6 then 8 else 4
      let src := bits v 0 64
      let dst := bits v 64 64
      op ≠ 3 ∧ bitAt x 7 = false ∧ bits x 9 7 = 0 ∧ bits v 224 32 = 0 ∧ 1 ≤ len ∧ len ≤ 2 ^ 24 ∧
        (bitAt x 3 = true → dst + (if bitAt x 5 then w else len) ≤ 2 ^ 26) ∧ (bitAt x 5 = true → dst % w = 0) ∧
        (op ≠ 1 → bitAt x 2 = true → src + (if bitAt x 4 then w else len) ≤ 2 ^ 26) ∧ (op ≠ 1 → bitAt x 4 = true → src % w = 0) ∧
        (op ≠ 1 → bitAt x 2 = false → bitAt x 3 = true) ∧ (bitAt x 5 = true ∨ op ≠ 1 ∧ bitAt x 4 = true → len % w = 0) ∧
        (op = 0 → bits x 2 2 = 3 → bits x 4 2 = 0 → dst + len ≤ src ∨ src + len ≤ dst)
    let desc (i v : Nat) : Desc :=
      { idx := i, src := bits v 0 64, dst := bits v 64 64, len := bits v 128 32, ctrl := bits v 160 32, pattern := bits v 192 32 }
    let more (u : State) (v : Nat) := (u.chan ch).queue ++ [desc (u.fld dseq 0 16) v]
    let going (u : State) := if (u.chan ch).st = 1 then 2 else (u.chan ch).st
    let pushes (u t : State) (v code : Nat) :=
      code = (if ¬legal v then 0x08 else if 16 ≤ (u.chan ch).queue.length then 0x0C else 0) ∧ t.fld stat 8 8 = code ∧
      (code ≠ 0 → t.bit err 17 = true ∧ OnlyRegs [stat, err] u t) ∧
      (code = 0 → t.chan ch = { u.chan ch with queue := more u v, st := going u } ∧ chans u t ∧
        t.fld dseq 0 16 = (u.fld dseq 0 16 + 1) % 2 ^ 16 ∧ (∀ r, r ≠ stat → r ≠ dseq → r ≠ bytes → t.reg r = u.reg r) ∧
        ((u.chan ch).st = 1 → t.fld bytes 0 25 = 0) ∧ ((u.chan ch).st ≠ 1 → t.reg bytes = u.reg bytes) ∧
        t = { u with regs := t.regs, chans := t.chans })
    let reads (u : State) := ∃ x r, (u.chan ch).queue = x :: r ∧ (x.hostReads = true ∨ x.hostOut = true ∧ x.len ≤ (u.chan ch).pos)
    let issued (u t : State) := ((u.chan ch).got = [] → t.out = u.out) ∧
      ∀ x r, (u.chan ch).queue = x :: r → bitAt x.ctrl 5 = false → (u.chan ch).got ≠ [] → (u.chan ch).got.length ≤ 256 →
        x.dst % 4096 + (u.chan ch).got.length ≤ 4096 → t.out = u.out ++ [.hostWrite x.dst (u.chan ch).got]
    let disabled (u t : State) := t.bit ctrl 0 = false ∧ (t.chan ch).queue = [] ∧ (t.chan ch).st = 0 ∧ (t.chan ch).heldRec = none ∧
      (t.chan ch).owner = (u.chan ch).owner ∧ ((t.chan ch).outstanding = true ↔ (u.chan ch).outstanding = true ∨ (u.chan ch).st = 2 ∧ reads u) ∧
      issued u t ∧ chans u t ∧ (∀ r, r ≠ ctrl → r ≠ bytes → t.reg r = u.reg r) ∧
      t = { u with out := t.out, fresh := t.fresh, regs := t.regs, chans := t.chans }
    let started (k : Chan) := if k.queue = [] then 1 else 2
    let enabled (u t : State) := t.bit ctrl 0 = true ∧ t.bit (Reg.DMA_CQ_TAIL ch) 16 = true ∧
      t.chan ch = { u.chan ch with st := if (u.chan ch).outstanding then 4 else started (u.chan ch) } ∧ chans u t ∧
      (∀ r, r ≠ ctrl → r ≠ Reg.DMA_CQ_TAIL ch → r ≠ dseq → r ≠ bytes → t.reg r = u.reg r) ∧ t = { u with regs := t.regs, chans := t.chans }
    let continued (u t : State) := t.chan ch = { u.chan ch with st := if (u.chan ch).heldRec ≠ none then 5 else started (u.chan ch) } ∧
      chans u t ∧ (∀ r, r ≠ dseq → r ≠ bytes → t.reg r = u.reg r) ∧ t = { u with regs := t.regs, chans := t.chans }
    let act (a : Nat) := ready 0x71 (fun p => decide (bits p 0 5 = ch) && decide (bits p 8 2 = a)) ∧ (s.chan ch).owner = n
    let mine := (d.chan ch).owner = 0
    (∀ i op, (i, op) ∈ [(Instr.dmaSetup tag, 0x70), (.dmaSubmit tag, 0x72), (.dmaQuery tag, 0x74)] → run op → (s.chan ch).owner ≠ n →
      ends i s Code.rejectQuota 0 0) ∧
    (run 0x70 → (s.chan ch).owner = n →
      let k := bits p 8 4
      let fits := s.bit ctrl 0 = false ∧ 4 ≤ k ∧ k ≤ 12 ∧ bits p 64 64 % 32 = 0
      (¬fits → ends (.dmaSetup tag) s Code.rejectClass 0 0) ∧
      (fits → ∃ t : State, ends (.dmaSetup tag) t Code.ok 0 0 ∧ t.fld cfg 0 4 = k ∧ t.bit cfg 4 = bitAt p 12 ∧
        t.pair (Reg.DMA_CQ_BASE_L ch) (Reg.DMA_CQ_BASE_H ch) = bits p 64 64 ∧
        OnlyRegs [cfg, Reg.DMA_CQ_BASE_L ch, Reg.DMA_CQ_BASE_H ch] s t)) ∧
    (run 0x72 → (s.chan ch).owner = n → ∃ (t : State) (code : Nat), pushes s t (bits p 64 256) code ∧
      ends (.dmaSubmit tag) t code (if code = 0 then s.fld dseq 0 16 else 0) 0) ∧
    (run 0x74 → (s.chan ch).owner = n →
      let k := s.chan ch
      let works := s.frozen = false ∧ k.quiet = false ∧
        ∃ x r, k.queue = x :: r ∧ (x.hostSide = true → (s.fn n).dstate = 0 ∧ s.link.up = true)
      let shows (st : Nat) := ends (.dmaQuery tag) s Code.ok (st % 8 + k.queue.length % 32 * 8 + s.fld stat 8 8 * 256)
        (s.pair (Reg.DMA_FAULT_ADDR_L ch) (Reg.DMA_FAULT_ADDR_H ch))
      (k.st ≠ 2 ∨ works → shows k.st) ∧ (k.st = 2 → ¬works → shows 6)) ∧
    (pf → ¬mine → ∀ i ∈ [Instr.dmaCtrlDisable ch none, .dmaCtrlEnable ch none, .dmaCtrlPush ch 0],
      ∃ t : State, exec i s = .next t ∧ t.fld (Reg.PG_ERR_INFO (0x80 + ch)) 0 8 = 0x06 ∧ OnlyRegs [Reg.PG_ERR_INFO (0x80 + ch)] d t) ∧
    (pf → ¬mine → ∀ a v, a < 0x4000 → a % 4 = 0 → v < 2 ^ 32 → ∃ t : State,
      exec (.registerWrite 0 (dword ((0x80 + ch) * 0x4000 + a)) v) s = .next t ∧ t.fld (Reg.PG_ERR_INFO (0x80 + ch)) 0 8 = 0x06 ∧
      OnlyRegs [Reg.PG_ERR_INFO (0x80 + ch)] d t) ∧
    (act 0 → s.bit ctrl 0 = true → ∃ t : State, disabled s t ∧ ends (.dmaCtrlDisable ch (some tag)) t Code.ok 0 0) ∧
    (pf → mine → d.bit ctrl 0 = true → ∃ t : State, disabled d t ∧ exec (.dmaCtrlDisable ch none) s = .next t) ∧
    (act 1 → (s.bit ctrl 0 = true → ends (.dmaCtrlEnable ch (some tag)) s Code.ok 0 0) ∧
      (s.bit ctrl 0 = false → ∃ t : State, enabled s t ∧ ends (.dmaCtrlEnable ch (some tag)) t Code.ok 0 0)) ∧
    (pf → mine → (d.bit ctrl 0 = true → exec (.dmaCtrlEnable ch none) s = .next d) ∧
      (d.bit ctrl 0 = false → ∃ t : State, enabled d t ∧ exec (.dmaCtrlEnable ch none) s = .next t)) ∧
    (act 2 → ((s.chan ch).st ≠ 3 → ends (.dmaCtrlContinue ch (some tag)) s Code.ok 0 0) ∧
      ((s.chan ch).st = 3 → ∃ t : State, continued s t ∧ ends (.dmaCtrlContinue ch (some tag)) t Code.ok 0 0)) ∧
    (pf → mine → s.bit ctrl 0 = true → d.bit ctrl 0 = true → ((d.chan ch).st ≠ 3 → exec (.dmaCtrlContinue ch none) s = .next d) ∧
      ((d.chan ch).st = 3 → ∃ t : State, continued d t ∧ exec (.dmaCtrlContinue ch none) s = .next t)) ∧
    (pf → mine → ∀ v w, w < 2 ^ 256 → (∀ i < 8, bits w (32 * i) 32 = d.regN (Reg.DMA_D ch i)) →
      let en := d.bit ctrl 0
      (bitAt v 0 = true → bitAt v 1 = false → en = true → ∃ (t : State) (code : Nat), pushes d t w code ∧ exec (.dmaCtrlPush ch v) s = .next t) ∧
      (bitAt v 0 = true → bitAt v 1 = false → en = false → ∃ (u t : State) (code : Nat), enabled d u ∧ pushes u t w code ∧
        exec (.dmaCtrlPush ch v) s = .next t) ∧
      (bitAt v 0 = true → bitAt v 1 = true → en = true → (d.chan ch).st = 3 → ∃ (u t : State) (code : Nat), continued d u ∧ pushes u t w code ∧
        exec (.dmaCtrlPush ch v) s = .next t) ∧
      (bitAt v 0 = false → en = true → ∃ (u t : State) (code : Nat), disabled d u ∧ pushes u t w code ∧ exec (.dmaCtrlPush ch v) s = .next t)) ∧
    (∀ value < 2 ^ 32,
      let i := value % 2 ^ 12
      let sent (u t : State) (code : Nat) :=
        let z := 2 ^ u.fld cfg 0 4
        let h := u.fld (Reg.DMA_CQ_HEAD ch) 0 12
        let tl := u.fld (Reg.DMA_CQ_TAIL ch) 0 12
        let open_ := u.bit cfg 4 = true ∨ (u.fn (u.chan ch).owner).dstate = 0 ∧ u.link.up = true
        let inside := (i + z - h % z) % z ≤ (tl + z - h % z) % z ∧ i < z
        (¬inside → code = 0x0C ∧ t = u) ∧
        (inside → code = 0 ∧ t.fld (Reg.DMA_CQ_HEAD ch) 0 12 = i ∧
          ((u.chan ch).heldRec = none ∨ i = (tl + 1) % z ∨ ¬open_ → OnlyRegs [Reg.DMA_CQ_HEAD ch] u t) ∧
          (∀ r, (u.chan ch).heldRec = some r → (u.chan ch).heldNotify = false → i ≠ (tl + 1) % z → u.bit cfg 4 = false → open_ →
            (u.fn (u.chan ch).owner).bme = true → (t.chan ch).heldRec = none ∧
              (t.chan ch).st = (if (u.chan ch).st = 5 then started (u.chan ch) else (u.chan ch).st) ∧
              ∃ a, t.out = u.out ++ [.hostWrite a (bytesLE 32 (cqValue ch r (u.fld (Reg.DMA_CQ_TAIL ch) 16 1) u.tb.now))]))
      (ready 0x73 (fun p => decide (bits p 0 5 = ch) && decide (bits p 32 12 = i)) → (s.chan ch).owner = n →
        ∃ (t : State) (code : Nat), sent s t code ∧ ends (.dmaCqHead ch value (some tag)) t code 0 0) ∧
      (pf → mine → ∃ (t : State) (code : Nat), sent d t code ∧ exec (.dmaCqHead ch value none) s = .next t)) ∧
    (let k := s.chan ch
     let rests := k.quiet || (s.pwr.entering && k.reading)
     (k.outstanding = false → rests = k.quiet → exec (.drainingEnd ch) s = .next s) ∧
     (k.outstanding = false → rests ≠ k.quiet → exec (.drainingEnd ch) s = .next (s.setChan ch { k with quiet := true })) ∧
     (k.outstanding = true → ∃ t : State, exec (.drainingEnd ch) s = .next t ∧
       t.chan ch = { k with quiet := rests, outstanding := false, st := if k.st = 4 then started k else k.st } ∧ chans s t ∧
       (∀ r, r ≠ dseq → r ≠ bytes → t.reg r = s.reg r) ∧ t = { s with regs := t.regs, chans := t.chans }))

/-- R293-R300: what a descriptor in progress does: a block a turn, in turn with the other channels; a fill, a copy and a
compare, their record and sources, and a halt. -/
def Obligations.DmaTransfers : Prop :=
  ∀ (s : State) (ch : Nat) (x : Desc) (rest : List Desc) (host : List Nat), ch < 32 → (s.chan ch).queue = x :: rest →
    let k := s.chan ch
    let f := s.fn k.owner
    let reached := f.dstate = 0 ∧ s.link.up = true
    let runs := k.st = 2 ∧ s.frozen = false ∧ k.quiet = false ∧ (x.hostSide = true → reached)
    let alone := (∀ j, j ≠ ch → (s.chan j).st ≠ 2) ∧ k.pos = 0 ∧ k.ahead = [] ∧ k.got = [] ∧ k.diff = none
    let run := exec (.dmaDescriptorComplete ch host) s
    let next (t : State) := run = .next t
    let len := x.len
    let base := s.pair (Reg.DMA_CQ_BASE_L ch) (Reg.DMA_CQ_BASE_H ch)
    let tail := s.fld (Reg.DMA_CQ_TAIL ch) 0 12
    let z := 2 ^ s.fld (Reg.DMA_CQ_CFG ch) 0 4
    let phase := s.fld (Reg.DMA_CQ_TAIL ch) 16 1
    let room := (tail + 1) % z ≠ s.fld (Reg.DMA_CQ_HEAD ch) 0 12 % z
    let hostCq := s.bit (Reg.DMA_CQ_CFG ch) 4 = false ∧ reached ∧ f.bme = true ∧ room ∧ k.heldRec = none ∧ s.eccSoft = [] ∧ s.eccBad = []
    let record (code count : Nat) : Out :=
      .hostWrite (base / 32 * 32 + 32 * (tail % z)) (bytesLE 32 (cqValue ch [x.idx, code, x.user, x.op, count, 0] phase s.tb.now))
    let done (t : State) (writes : List Out) (code count : Nat) := t.out = s.out ++ writes ++ [record code count] ∧
      (t.chan ch).queue = rest ∧ (t.chan ch).st = (if rest = [] then 1 else 2) ∧ t.fld (Reg.DMA_BYTES ch) 0 25 = (if rest = [] then count % 2 ^ 25 else 0) ∧
      t.fld (Reg.DMA_CQ_TAIL ch) 0 12 = (tail % z + 1) % z % 2 ^ 12 ∧ t.bit (Reg.DMA_CQ_TAIL ch) 16 = (if (tail % z + 1) % z = 0 then decide (phase = 0) else decide (phase = 1))
    let stored (t : State) (q : Nat) (g : Nat → Nat) := (∀ i < len, t.byte (q + i) = BitVec.ofNat 8 (g i)) ∧
      ∀ a, a < q ∨ q + len ≤ a → t.byte a = s.byte a
    let kept (t : State) := t.mem = s.mem
    let isSlab (b : Nat) := bitAt x.ctrl b = true
    let moving := bitAt x.ctrl 4 = false ∧ bitAt x.ctrl 5 = false ∧ 1 ≤ len ∧ len < 2 ^ 25
    let block (a : Nat) := a % 64 + len ≤ 64
    let srcAt (i q : Nat) := s.byte (q + i)
    let asks (a : Nat) : List Out := if a % 4096 + len ≤ 4096 then [.hostRead a len]
      else [.hostRead a (4096 - a % 4096), .hostRead (a + (4096 - a % 4096)) (len - (4096 - a % 4096))]
    let flush : Out := .hostRead ((x.dst + len - 1) / 4 * 4) 0
    (¬runs → next s) ∧
    (x.hostReads = true → host.length < len → next s) ∧
    (runs → (x.hostReads = true → len ≤ host.length) → (x.hostSide = true → f.bme = true) →
      next ((s.dmaRounds ch host len).recordDesc ch)) ∧
    (x.op = 1 → isSlab 3 → moving → k.pos < len → ∀ q, s.walk k.owner (x.dst + k.pos) = .ok q →
      let t := s.dmaTurn ch host
      let n := min (len - k.pos) (64 - (x.dst + k.pos) % 64)
      t.turns.chan = ch ∧ t.chan ch = { k with pos := k.pos + n, ahead := [] } ∧ t.fld (Reg.DMA_BYTES ch) 0 25 = (k.pos + n) % 2 ^ 25 ∧
        (∀ j, j ≠ ch → t.chan j = s.chan j) ∧ ∀ i < n, t.byte (q + i) = BitVec.ofNat 8 (bits x.pattern (8 * ((x.dst + k.pos + i) % 4)) 8)) ∧
    (runs → alone → hostCq → moving → x.notify = false →
      (x.op = 1 → isSlab 3 → block x.dst → ∀ q, s.walk k.owner x.dst = .ok q → ∃ t : State, next t ∧ done t [] 0 len ∧
        stored t q fun i => bits x.pattern (8 * ((x.dst + i) % 4)) 8) ∧
      (x.op = 1 → ¬isSlab 3 → len ≤ 64 → x.dst % 4096 + len ≤ 4096 → ∃ t : State, next t ∧
        done t [.hostWrite x.dst ((List.range len).map fun i => bits x.pattern (8 * ((x.dst + i) % 4)) 8), flush] 0 len ∧ kept t) ∧
      (x.op = 0 → ¬isSlab 2 → isSlab 3 → block x.dst → host.length = len → (∀ b ∈ host, b < 256) → ∀ q, s.walk k.owner x.dst = .ok q → ∃ t : State, next t ∧ done t (asks x.src) 0 len ∧
        stored t q fun i => host.getD i 0) ∧
      (x.op = 0 → isSlab 2 → ¬isSlab 3 → block x.src → x.dst % 4096 + len ≤ 4096 → ∀ q, s.walk k.owner x.src = .ok q → ∃ t : State, next t ∧
        done t [.hostWrite x.dst ((List.range len).map fun i => (srcAt i q).toNat), flush] 0 len ∧ kept t) ∧
      (x.op = 0 → isSlab 2 → isSlab 3 → block x.src → block x.dst → ∀ q q', s.walk k.owner x.src = .ok q → s.walk k.owner x.dst = .ok q' →
        ∃ t : State, next t ∧ done t [] 0 len ∧ stored t q' fun i => (srcAt i q).toNat) ∧
      (x.op = 2 → isSlab 2 → ¬isSlab 3 → block x.src → host.length = len → ∀ q, s.walk k.owner x.src = .ok q →
        ((∀ i < len, srcAt i q = BitVec.ofNat 8 (host.getD i 0)) → ∃ t : State, next t ∧ done t (asks x.dst) 0 len ∧ kept t) ∧
        (∀ j < len, srcAt j q ≠ BitVec.ofNat 8 (host.getD j 0) → (∀ i < j, srcAt i q = BitVec.ofNat 8 (host.getD i 0)) →
          ∃ t : State, next t ∧ done t (asks x.dst) 0x11 j ∧ kept t))) ∧
    (runs → alone → moving → x.op = 1 → isSlab 3 → block x.dst → s.bit (Reg.DMA_CQ_CFG ch) 4 = false → ¬reached → k.heldRec = none → s.eccSoft = [] → s.eccBad = [] →
      ∀ q, s.walk k.owner x.dst = .ok q → ∃ t : State, next t ∧ t.out = s.out ∧ (t.chan ch).queue = rest ∧ (t.chan ch).st = 5 ∧
        (t.chan ch).heldRec ≠ none ∧ t.fld (Reg.DMA_CQ_TAIL ch) 0 12 = tail) ∧
    (runs → alone → hostCq → moving → x.notify = true → x.op = 1 → isSlab 3 → block x.dst → ∀ q, s.walk k.owner x.dst = .ok q →
      ∃ t : State, next t ∧ t.srcPend (0x3380 + 2 * ch) = true ∧ record 0 len ∈ t.out) ∧
    (∀ (code addr dir : Nat), k.owner < 512 →
      let halt := exec (.dmaHalt ch code addr dir) s
      let slot := s.fld (Reg.TEN_FAULT_IDX k.owner) 0 6
      let halted (t : State) (code addr dir : Nat) := (t.chan ch).st = 3 ∧ (t.chan ch).queue = rest ∧
        t.pair (Reg.DMA_FAULT_ADDR_L ch) (Reg.DMA_FAULT_ADDR_H ch) = addr % 2 ^ 64 ∧ t.fld (Reg.DMA_FAULT_DIR ch) 0 3 = dir % 8 ∧
        t.fld (Reg.DMA_FAULT_DIR ch) 8 8 = code ∧ t.fld (Reg.DMA_FAULT_DIR ch) 16 16 = x.idx % 2 ^ 16 ∧
        t.srcPend (0x3380 + 2 * ch + 1) = true ∧ t.bit (Reg.PG_ERR (0x80 + ch)) 16 = true ∧
        (t.chan ch).outstanding = (k.outstanding || x.hostReads) ∧
        (hostCq → (∃ count, (x.op = 2 → count = 0) ∧ .hostWrite (base / 32 * 32 + 32 * (tail % z))
            (bytesLE 32 (cqValue ch [x.idx, code, x.user, x.op, count, addr] phase s.tb.now)) ∈ t.out) ∧
          t.fld (Reg.TEN_FAULT k.owner (8 * slot)) 16 8 = code ∧ t.regN (Reg.TEN_FAULT k.owner (8 * slot + 1)) = 3 ∧
          t.regN (Reg.TEN_FAULT k.owner (8 * slot + 3)) = ch)
      (¬runs → halt = .next s) ∧
      let base := if isSlab 2 then x.dst else x.src
      (runs → code = 0x10 → x.hostSide = false → halt = .next s) ∧
      (runs → code = 0x10 → f.bme = true → bitAt dir 2 = true → x.hostOut = false → halt = .next s) ∧
      (runs → code = 0x10 → f.bme = true → bitAt dir 2 = false → x.hostReads = false ∨ moving ∧ (addr < base ∨ base + len ≤ addr) →
        halt = .next s) ∧
      (runs → code = 0x10 → f.bme = true → bitAt dir 2 = true → moving → x.op = 1 → ¬isSlab 3 → ∃ t : State, halt = .next t ∧
        halted t 0x10 ((x.dst + len - 1) / 4 * 4) 4) ∧
      (runs → code = 0x10 → f.bme = true → bitAt dir 2 = false → moving → k.pos = 0 → x.op = 0 ∨ x.op = 2 → ¬(isSlab 2 ↔ isSlab 3) →
        x.hostReads = true → addr = base → ∃ t : State, halt = .next t ∧ halted t 0x10 addr 0) ∧
      (runs → code = 0x10 → f.bme = false → moving → k.pos = 0 → x.hostReads = true → ∃ t : State, halt = .next t ∧ halted t 0x10 base 0) ∧
      (runs → code ≠ 0x10 → moving → k.pos < len → k.ahead = [] →
        let at_ := (if x.op = 1 then x.dst else x.src) + k.pos
        (x.op = 1 ∧ isSlab 3 ∨ x.op ≠ 1 ∧ isSlab 2 → ∀ e l, s.walk k.owner at_ = .bad e l → e < 256 → ∃ t : State, halt = .next t ∧
          halted t e at_ (if x.op = 1 then 3 else 2)) ∧
        (x.op = 1 → isSlab 3 → at_ % 64 + (len - k.pos) ≤ 64 → ∀ q, s.walk k.owner at_ = .ok q → halt = .next s)) ∧
      (runs → alone → moving → x.op = 1 → isSlab 3 → ∀ e l, s.walk k.owner x.dst = .bad e l → e < 256 → ∃ t : State, next t ∧
        halted t e x.dst 3)) ∧
    (runs → x.hostSide = true → f.bme = false → x.hostReads = false → ∃ t : State, next t ∧ (t.chan ch).st = 3 ∧ (t.chan ch).queue = rest ∧
      t.fld (Reg.DMA_FAULT_DIR ch) 8 8 = 0x10 ∧ t.srcPend (0x3380 + 2 * ch + 1) = true ∧
      (bitAt x.ctrl 5 = false → t.pair (Reg.DMA_FAULT_ADDR_L ch) (Reg.DMA_FAULT_ADDR_H ch) =
        (if k.pos < len then x.dst + k.pos else (x.dst + len - 1) / 4 * 4) % 2 ^ 64))

/-- R304-R308, R311: messages to the steward and its answers. -/
def Obligations.Mailboxes : Prop :=
  ∀ (s : State) (n v : Nat), n < 512 → v < 2 ^ 32 →
    let f := s.fn n
    let stat := Reg.TEN_MBX_STAT n
    let gen := s.fld stat 16 8
    let served := s.pairUp 0 = true ∧ s.mode ≠ Mode.off ∧ s.mode ≠ Mode.boot ∧ s.mode ≠ Mode.doze
    let core := if s.bit Reg.REL_STEWARD 4 then 0 else 1
    let steward (kind gen seq : Nat) (body : List Nat) := [2 ^ 15 + core + n * 2 ^ 16, kind % 256 + gen * 2 ^ 8 + seq * 2 ^ 16] ++ body
    let requests := [(Instr.ping n, 1), (.info n, 2), (.calstat n, 3)]
    (s.tenPage n = true →
      let d := s.drainBuf n
      let g := d.fn n
      let room := g.mboxOut.length < d.quotaOf n 10
      let m := (n + n * 2 ^ 16) :: putBits (d.regN (Reg.TEN_MBX_OUT n 1)) 8 8 (d.fld stat 16 8) ::
        (List.range 14).map fun i => d.regN (Reg.TEN_MBX_OUT n (i + 2))
      (bitAt v 1 = false → ¬room → ∃ t : State, exec (.tenMbxCtrlSend n v) s = .next t ∧ t.fld stat 8 8 = 0x0C ∧ OnlyRegs [stat] d t) ∧
      (bitAt v 1 = false → room → ∃ t : State, exec (.tenMbxCtrlSend n v) s = .next t ∧ t.fn n = { g with mboxOut := g.mboxOut ++ [m], mboxHeld := 0 } ∧
        (∀ j, j ≠ n → t.fn j = d.fn j) ∧ t.fld stat 8 8 = 0 ∧ (∀ r, r ≠ stat → t.reg r = d.reg r) ∧ t = { d with regs := t.regs, fns := t.fns }) ∧
      (bitAt v 0 = false → exec (.tenMbxCtrlPop n v) s = .next (d.setFn n { g with mboxIn := g.mboxIn.tail })) ∧
      (bitAt v 0 = true → bitAt v 1 = true → room → ∃ t : State, exec (.tenMbxCtrlPop n v) s = .next t ∧
        t.fn n = { g with mboxOut := g.mboxOut ++ [m], mboxIn := g.mboxIn.tail, mboxHeld := 0 } ∧ t.fld stat 8 8 = 0)) ∧
    (¬served ∨ f.mboxOut = [] → exec (.ping n) s = .next s ∧ exec (.info n) s = .next s ∧ exec (.calstat n) s = .next s ∧
      exec (.reservedKindMessage n) s = .next s) ∧
    (served → ∀ m q, f.mboxOut = m :: q →
      let w := m.getD 1 0
      let kind := w % 256
      let w2 := m.getD 2 0
      let first := bits w2 0 16
      let count := bits w2 16 8
      let cuffs := (List.range count).map (first + ·)
      let reply (body : List Nat) := f.replies ++ [steward (kind + 0x80) (bits w 8 8) (bits w 16 16) body]
      let answers (i : Instr) (body : List Nat) := exec i s = .next (s.setFn n { f with mboxOut := q, replies := reply body })
      (∀ i j, (i, j) ∈ requests → kind ≠ j → exec i s = .next s) ∧
      (kind ∈ [1, 2, 3] → exec (.reservedKindMessage n) s = .next s) ∧
      (kind ∉ [1, 2, 3] → answers (.reservedKindMessage n) [0x08]) ∧
      (kind = 1 → answers (.ping n) [0, 0, s.tb.now % 2 ^ 32, s.tb.now / 2 ^ 32]) ∧
      (kind = 2 → answers (.info n) [0, s.regN Reg.SEC_VER_FW, s.regN Reg.SEC_VER_BASE, s.fld Reg.SEC_BOOT 0 2]) ∧
      (kind = 3 → count = 0 ∨ 32 < count → answers (.calstat n) [0x08]) ∧
      (kind = 3 → 1 ≤ count → count ≤ 32 → (∃ y ∈ cuffs, 1024 ≤ y ∨ (s.cuff y).owner ≠ n) → answers (.calstat n) [0x06]) ∧
      (kind = 3 → 1 ≤ count → count ≤ 32 → (∀ y ∈ cuffs, y < 1024 ∧ (s.cuff y).owner = n) →
        answers (.calstat n) (0 :: packWords (cuffs.map fun y => min 255 ((s.tick - max (s.cuff y).swapTick s.boot.calAt) / 1500000))))) ∧
    (¬served ∨ f.replies = [] → exec (.mailboxReply n) s = .next s) ∧
    (served → ∀ m q, f.replies = m :: q →
      let room := f.mboxIn.length < s.quotaOf n 10
      let mgen := bits (m.getD 1 0) 8 8
      (mgen ≠ gen → exec (.mailboxReply n) s = .next (s.setFn n { f with replies := q })) ∧
      (mgen = gen → ¬room → exec (.mailboxReply n) s = .next s) ∧
      (mgen = gen → room → ∃ t : State, exec (.mailboxReply n) s = .next t ∧ (t.fn n).mboxIn = f.mboxIn ++ [m] ∧ (t.fn n).replies = q ∧
        t.srcPend (24 * n + 19) = true ∧ OnlyRegsAndEvents [] s t)) ∧
    (¬served ∨ 4 ≤ v → exec (.notice n v) s = .next s) ∧
    (served → v < 4 →
      let m := steward 0x40 gen 0 [v * 2 ^ 8]
      let room := f.mboxIn.length < s.quotaOf n 10
      (f.replies ≠ [] ∨ ¬room → exec (.notice n v) s = .next (s.setFn n { f with replies := f.replies ++ [m] })) ∧
      (f.replies = [] → room → ∃ t : State, exec (.notice n v) s = .next t ∧ (t.fn n).mboxIn = f.mboxIn ++ [m] ∧ (t.fn n).replies = [] ∧
        t.srcPend (24 * n + 19) = true ∧ OnlyRegsAndEvents [] s t)) ∧
    (¬served ∨ s.tick < s.turns.alive + 1500000 → exec .mbxAliveTick s = .next s) ∧
    (served → s.turns.alive + 1500000 ≤ s.tick → ∃ t : State, exec .mbxAliveTick s = .next t ∧
      t.regN Reg.MBX_ALIVE = (s.regN Reg.MBX_ALIVE + 1) % 2 ^ 32 ∧
      OnlyRegs [Reg.MBX_ALIVE] { s with turns := { s.turns with alive := s.tick } } t)

/-! ### Modes, power, boot and reliability (R314-R358) -/

/-- R316, R317, R320-R327: requests for a mode, HALT, RESUME and DOZE. -/
def Obligations.ModeRequests : Prop :=
  ∀ (s : State) (v : Nat),
    let d := s.drainBuf 0
    let moved (u t : State) (m : Nat) := t.mode = m ∧ t.fld Reg.PWR_STATUS 3 3 = u.mode % 8 ∧ t.srcPend 0x3438 = true
    let result (t : State) (req code : Nat) := t.fld Reg.PWR_RESULT 0 3 = req ∧ t.fld Reg.PWR_RESULT 8 8 = code
    let refused (u t : State) (req : Nat) := result t req 0x08 ∧ t.bit (Reg.PG_ERR 2) 16 = true ∧ OnlyRegs [Reg.PWR_RESULT, Reg.PG_ERR 2] u t
    let quiet (u : State) := u.mode = Mode.provision ∨ u.mode = Mode.run ∨ u.mode = Mode.degraded ∨ u.mode = Mode.safe
    let warm (u : State) := u.temp Reg.PWR_TCRIT < u.temp Reg.PWR_TEMP + 40
    let runs (u : State) := (u.mode = Mode.provision ∨ u.mode = Mode.safe) ∧ u.pwr.safePin = false ∧ u.pwr.failPin = false ∧
      (u.mode = Mode.safe → ¬warm u ∧ u.pwr.locked = true ∧ u.bit Reg.TB_STATUS 0 = true)
    let degraded (u : State) := u.bit Reg.PWR_STATUS 6 = true ∨ u.bit Reg.PWR_STATUS 7 = true
    let service (u : State) := u.mode = Mode.run ∨ u.mode = Mode.degraded
    let dozes (u : State) := quiet u ∧ u.refs = [] ∧ (∀ e ∈ u.queues, e.2.cls = 2 → e.2.contract = none) ∧ u.fld Reg.ENS_STATUS 0 3 ≠ 3 ∧
      u.pwr.safePin = false ∧ u.pwr.failPin = false
    let enters (u t : State) := result t 7 0 ∧ t.pwr = { u.pwr with entering := true } ∧ (∀ k, k ≠ Reg.PWR_RESULT → t.reg k = u.reg k) ∧
      t = { u with regs := t.regs, pwr := t.pwr }
    (s.pfPage 2 = true →
      let foreign := ∃ e ∈ d.queues, e.2.state ≠ QState.free ∧ e.2.tenant ≠ 0
      (d.mode = Mode.safe → ¬foreign → ∃ t : State, exec .pwrCtrlReqProvision s = .next t ∧ moved d t Mode.provision ∧ result t 2 0 ∧
        t.pwr = { d.pwr with mode := Mode.provision } ∧ SameButEvents [Reg.PWR_RESULT, Reg.PWR_STATUS] d t ∧
        t = { d with out := t.out, regs := t.regs, fns := t.fns, link := t.link, srcs := t.srcs, vecs := t.vecs, pwr := t.pwr }) ∧
      (d.mode ≠ Mode.safe ∨ foreign → ∃ t : State, exec .pwrCtrlReqProvision s = .next t ∧ refused d t 2) ∧
      (runs d → ∃ t : State, exec .pwrCtrlReqRun s = .next t ∧ moved d t (if degraded d then Mode.degraded else Mode.run) ∧ result t 3 0 ∧
        (∀ c < 1024, (t.cuff c).apMode = false ∧ (d.bit (Reg.SLV_STATUS (c / 32)) 1 = false → (t.cuff c).apBank = true) ∧
          (t.cuff c).fifo = (d.cuff c).fifo) ∧ (∀ p < 512, d.pairEn p = true → (t.pairSt p).st = 0) ∧ t.pwr.frozenAt = none ∧
        (degraded d → t.srcPend 0x3432 = true) ∧ t.queues = d.queues ∧ t.mem = d.mem ∧ t.tb = d.tb) ∧
      (¬runs d → ∃ t : State, exec .pwrCtrlReqRun s = .next t ∧ refused d t 3) ∧
      (service d → ∃ t : State, exec .pwrCtrlReqSafe s = .next t ∧ moved d t Mode.safe ∧ result t 5 0 ∧ t.fld Reg.PWR_STATUS 12 3 = 3 ∧
        t.pair Reg.PWR_SAFE_TIME_L Reg.PWR_SAFE_TIME_H = d.tb.now % 2 ^ 64 ∧ (∀ c < 1024, (t.cuff c).apMode = true ∧ (t.cuff c).fifo = []) ∧
        t.refs = [] ∧ (∀ k < 5 * 4096, t.fifo k = []) ∧ (∀ e, (t.pio e).st = 0) ∧ t.pwr.frozenAt ≠ none ∧
        (∀ q, (t.queue q).state = (d.queue q).state ∧ (t.queue q).tail = (d.queue q).tail) ∧ t.mem = d.mem ∧ t.tb = d.tb) ∧
      (¬service d → ∃ t : State, exec .pwrCtrlReqSafe s = .next t ∧ refused d t 5) ∧
      (dozes d → ∃ t : State, exec .pwrCtrlReqDoze s = .next t ∧ enters d t) ∧
      (¬dozes d → ∃ t : State, exec .pwrCtrlReqDoze s = .next t ∧ refused d t 7)) ∧
    (let u : State := { s with pwr := { s.pwr with dozeReq := true } }
     let idle := s.mode = Mode.off ∨ s.mode = Mode.doze ∨ s.bit Reg.PWR_CFG 0 = false ∨ s.pwr.entering = true
     let noted (u : State) : State := { u with pwr := { u.pwr with dozeTry := some u.tick } }
     let pinEnters (u t : State) := enters { u with pwr := { u.pwr with dozeTry := none } } t
     let due := ∃ t0, s.pwr.dozeTry = some t0 ∧ t0 + 1500000 ≤ s.tick
     (idle → exec .dozeReq s = .next u) ∧
     (¬idle → dozes u → ∃ t : State, exec .dozeReq s = .next t ∧ pinEnters u t) ∧
     (¬idle → ¬dozes u → ∃ t : State, exec .dozeReq s = .next t ∧ refused (noted u) t 7) ∧
     (idle ∨ s.pwr.dozeReq = false ∨ ¬due → exec .dozeReqRetry s = .next s) ∧
     (¬idle → s.pwr.dozeReq = true → due → dozes s → ∃ t : State, exec .dozeReqRetry s = .next t ∧ pinEnters s t) ∧
     (¬idle → s.pwr.dozeReq = true → due → ¬dozes s → ∃ t : State, exec .dozeReqRetry s = .next t ∧ refused (noted s) t 7)) ∧
    (let reach := s.pfPage 0x100 = true ∨ s.bit Reg.SEC_STRAP 3 = false ∧ s.mode ≠ Mode.off
     let code (t : State) (x : Nat) := t.fld Reg.DBG_STATUS 8 8 = x
     let waits := s.mode = Mode.doze ∨ s.pwr.entering = true
     let enabled := s.bit Reg.PWR_CFG 1 = true
     let edges := s.pwr.refOk = true ∧ s.pwr.locked = true
     (¬reach → exec (.dbgCtrlHalt v) s = .next s ∧ exec (.dbgCtrlResume v) s = .next s) ∧
     (reach → bitAt v 1 = true → ∃ t : State, exec (.dbgCtrlHalt v) s = .next t ∧ t.bit (Reg.PG_ERR 0x100) 4 = true ∧
       OnlyRegs [Reg.PG_ERR 0x100, Reg.PG_ERR_INFO 0x100] s t) ∧
     (reach → bitAt v 1 = false → enabled → waits → exec (.dbgCtrlHalt v) s = .next { s with pwr := { s.pwr with haltHeld := true } }) ∧
     (reach → bitAt v 1 = false → ¬enabled ∨ ¬waits ∧ ¬quiet s → ∃ t : State, exec (.dbgCtrlHalt v) s = .next t ∧ code t 0x08 ∧
       OnlyRegs [Reg.DBG_STATUS] s t) ∧
     (reach → bitAt v 1 = false → enabled → ¬waits → quiet s → ∃ t : State, exec (.dbgCtrlHalt v) s = .next t ∧ moved s t Mode.halt ∧
       code t 0 ∧ t.pwr.ret = s.mode ∧ t.pwr.haltHeld = false ∧ t.pwr.frozenAt ≠ none ∧ t.bit Reg.TB_STATUS 2 = true ∧
       (∀ c, (t.cuff c).filt = none) ∧ (∀ c, (t.cuff c).fifo = (s.cuff c).fifo ∧ (t.cuff c).level = (s.cuff c).level ∧
         (t.cuff c).driven = (s.cuff c).driven) ∧ t.queues = s.queues ∧ t.mem = s.mem ∧ t.tb = s.tb) ∧
     (reach → bitAt v 0 = false → s.mode ≠ Mode.halt → ∃ t : State, exec (.dbgCtrlResume v) s = .next t ∧ code t 0x08 ∧
       OnlyRegs [Reg.DBG_STATUS] s t) ∧
     (reach → bitAt v 0 = false → s.mode = Mode.halt → ¬edges → ∃ t : State, exec (.dbgCtrlResume v) s = .next t ∧ code t 0 ∧
       t.pwr = { s.pwr with aligning := true } ∧ OnlyRegs [Reg.DBG_STATUS] { s with pwr := t.pwr } t) ∧
     (reach → bitAt v 0 = false → s.mode = Mode.halt → edges → ∃ t u : State, exec (.dbgCtrlResume v) s = .next t ∧ code u 0 ∧
       t.bit Reg.TB_STATUS 2 = false ∧ t.fld Reg.PWR_STATUS 3 3 = 6 ∧
       (s.pwr.safeNext ≠ 0 → t = u.enterSafe s.pwr.safeNext ∧ t.mode = Mode.safe ∧ t.fld Reg.PWR_STATUS 12 3 = s.pwr.safeNext % 8 ∧
         t.pwr.safeNext = 0 ∧ t.srcPend 0x3438 = true) ∧
       (s.pwr.safeNext = 0 → s.pwr.ret = Mode.run ∨ s.pwr.ret = Mode.degraded → t = u.rejudgeAll ∧ u.srcPend 0x3438 = true ∧
         t.mode = (if degraded s then Mode.degraded else Mode.run) ∧ t.pwr.frozenAt = none) ∧
       (s.pwr.safeNext = 0 → s.pwr.ret ≠ Mode.run → s.pwr.ret ≠ Mode.degraded → t = u ∧ t.mode = s.pwr.ret ∧ t.srcPend 0x3438 = true)))

/-- R48, R74, R314, R316, R320, R323, R327-R334, R366: the pins and supplies, DOZE entry and wake, temperature and the management
port. -/
def Obligations.PowerEvents : Prop :=
  ∀ (s : State) (v i : Nat) (release : ResetRelease) (write : SmbWrite), v < 2 ^ 32 →
    let moved (t : State) (m : Nat) := t.mode = m ∧ t.fld Reg.PWR_STATUS 3 3 = s.mode % 8 ∧ t.srcPend 0x3438 = true
    let restored (t : State) (m : Nat) := t.mode = m ∧ t.fld Reg.PWR_STATUS 3 3 = s.mode % 8 ∧
      ∃ u : State, u.srcPend 0x3438 = true ∧ (t = u ∨ t = u.rejudgeAll)
    let service := s.mode = Mode.run ∨ s.mode = Mode.degraded
    let safe (t : State) (cause : Nat) := moved t Mode.safe ∧ t.fld Reg.PWR_STATUS 12 3 = cause ∧ t.refs = [] ∧ t.pwr.frozenAt ≠ none ∧
      ∀ k < 5 * 4096, t.fifo k = []
    let apron (t : State) := ∀ c < 1024, (t.cuff c).apMode = true
    let may := (s.mode = Mode.doze ∨ s.pwr.entering = true) ∧ s.pwr.wake = false
    let woken (t : State) (cause port : Nat) := t.pwr = { s.pwr with wake := true } ∧ t.fld Reg.PWR_STATUS 16 3 = cause ∧
      t.fld Reg.PWR_STATUS 19 2 = port ∧ OnlyRegs [Reg.PWR_STATUS] { s with pwr := t.pwr } t
    let held (c : Nat) := if s.pwr.safeNext = 0 then c else s.pwr.safeNext
    let off (t : State) (pin : Bool) := t.mode = Mode.off ∧ t.pwr.resetPin = pin ∧ t.mem = [] ∧ t.queues = [] ∧ t.ctxs = [] ∧ t.fns = [] ∧
      t.tb = State.reset.tb ∧ t.boot.slotA = s.boot.slotA ∧ t.boot.slotB = s.boot.slotB ∧ (s.boot.burning = none → t.boot.fuses = s.boot.fuses) ∧
      (∀ c, (t.cuff c).pad = (s.cuff c).pad ∧ (t.cuff c).driven = false ∧ (t.cuff c).fifo = []) ∧ t.out = s.out ∧ t.pending = s.pending ∧
      (∀ n < 32, (t.sleeve n).absent = (s.sleeve n).absent ∧ t.fld (Reg.SLV_STATUS n) 0 2 = s.fld (Reg.SLV_STATUS n) 0 2 ∧
        ∀ g < 8, t.bit (Reg.SLV_GDSTATE n) g = (s.bit (Reg.SLV_GDSTATE n) g != s.bit (Reg.SLV_GDPOL n) g)) ∧
      t.pwr.safePin = s.pwr.safePin ∧ t.pwr.failPin = s.pwr.failPin ∧ t.pwr.dozeReq = s.pwr.dozeReq ∧
      (∀ k, k ≠ Reg.PWR_TEMP → (∀ n < 32, k ≠ Reg.SLV_STATUS n ∧ k ≠ Reg.SLV_GDSTATE n) → t.reg k = State.reset.reg k)
    (let busy := ∃ e ∈ s.chans, e.2.outstanding = true ∨ e.2.reading = true ∧ e.2.quiet = false
     s.pwr.entering = false ∨ s.pwr.refOk = false ∨ busy → exec .dozeEntry s = .next s) ∧
    (s.pwr.entering = true → s.pwr.refOk = true → (∀ e ∈ s.chans, e.2.outstanding = false ∧ (e.2.reading = true → e.2.quiet = true)) →
      ∃ t : State, exec .dozeEntry s = .next t ∧ moved t Mode.doze ∧
      t.pwr.ret = s.mode ∧ t.pwr.entering = false ∧ t.pwr.locked = false ∧ t.bit Reg.TB_STATUS 2 = true ∧
      (s.link.l1 = true → (∀ n, (s.fn n).dstate = 0) → t.link.l0 = false) ∧ (s.link.l1 = false → s.link.l0 = true → t.link.l0 = true) ∧
      t.pwr.frozenAt ≠ none ∧ t.boot.writing = false ∧ (∀ n, (t.fn n).buf = []) ∧ t.queues = s.queues ∧ t.tb = s.tb) ∧
    (let pin (t : State) := t.pwr.dozeReq = false ∧ t.pwr.dozeTry = none
     let hits := v = 1 ∧ i < 4 ∧ s.bit Reg.PWR_WAKE i = true ∨ v = 2 ∧ s.bit Reg.PWR_WAKE 4 = true ∨
       v = 4 ∧ i < 4 ∧ s.bit Reg.PWR_WAKE 6 = true ∧ s.bit (Reg.PWR_WCUFF i) 10 = true ∧
         s.bit (Reg.PWR_WCUFF i) (if (s.cuff (s.fld (Reg.PWR_WCUFF i) 0 10)).pad then 11 else 12) = true ∨
       v = 5 ∧ s.bit Reg.PWR_WAKE 7 = true ∧ i = 0x58 + s.fld Reg.SEC_STRAP 6 2 ∨ v = 6 ∧ (s.pwr.safePin = true ∨ s.pwr.failPin = true ∨ ∃ e ∈ s.fns, e.2.abortHeld = true)
     (s.mode = Mode.off → exec (.wakeEvent v i) s = .next s) ∧
     (s.mode ≠ Mode.off → v ≠ 3 → ¬hits ∨ ¬may → exec (.wakeEvent v i) s = .next s) ∧
     (s.mode ≠ Mode.off → v ≠ 3 → hits → may → ∃ t : State, exec (.wakeEvent v i) s = .next t ∧ woken t v (if v = 1 ∨ v = 4 then i else 0)) ∧
     (s.mode ≠ Mode.off → v = 3 → ¬(s.bit Reg.PWR_WAKE 5 = true ∧ s.bit Reg.PWR_CFG 0 = true ∧ may) →
       exec (.wakeEvent v i) s = .next { s with pwr := { s.pwr with dozeReq := false, dozeTry := none } }) ∧
     (s.mode ≠ Mode.off → v = 3 → s.bit Reg.PWR_WAKE 5 = true → s.bit Reg.PWR_CFG 0 = true → may → ∃ t : State, exec (.wakeEvent v i) s = .next t ∧
       pin t ∧ t.pwr.wake = true ∧ t.fld Reg.PWR_STATUS 16 3 = 3)) ∧
    (let edges := s.pwr.refOk = true ∧ s.pwr.locked = true
     let ready := s.mode = Mode.doze ∧ s.pwr.wake = true ∧ edges ∧ s.pwr.aligning = false
     let aligns := edges ∧ s.pwr.aligning = true
     let none_ := s.link.posted = []
     let plain := s.pwr.failHeld = false ∧ s.pwr.entering = false ∧ ∀ e ∈ s.fns, e.2.abortHeld = false
     let ret := if s.pwr.ret = Mode.run ∨ s.pwr.ret = Mode.degraded
       then (if s.bit Reg.PWR_STATUS 6 = true ∨ s.bit Reg.PWR_STATUS 7 = true then Mode.degraded else Mode.run) else s.pwr.ret
     (¬ready → ¬aligns → exec .wakeComplete s = .next s) ∧
     (aligns → s.mode ≠ Mode.halt → s.mode ≠ Mode.doze → ∃ t : State, exec .wakeComplete s = .next t ∧ t.pwr = { s.pwr with aligning := false } ∧
       t.bit Reg.TB_STATUS 2 = false ∧ t.mem = s.mem ∧ t.queues = s.queues ∧
       (s.tb.now + 18 < s.circle → ∃ x < 18, t.tb = { s.tb with now := s.tb.now + x })) ∧
     (aligns → s.mode = Mode.halt → ∃ t : State, exec .wakeComplete s = .next t ∧ restored t (if s.pwr.safeNext ≠ 0 then Mode.safe else ret) ∧
       t.bit Reg.TB_STATUS 2 = false ∧ t.pwr.aligning = false ∧ (s.pwr.safeNext ≠ 0 → t.fld Reg.PWR_STATUS 12 3 = s.pwr.safeNext % 8)) ∧
     (ready → exec .wakeComplete s = .next s.endWake.releaseHeld) ∧
     (ready → plain → s.pwr.haltHeld = false → s.pwr.safeNext = 0 → s.pwr.ret ≠ Mode.doze → ∀ w, s.link.posted = [w] → w.fn < 512 →
       let acts (c : Instr) := ∃ u : State, u.mode = ret ∧ u.link.posted = [] ∧ exec .wakeComplete s = exec c u
       (w.cfg = none → w.bytes = [] → w.value < 2 ^ 32 → acts (.registerWrite w.fn (dword w.addr) w.value)) ∧
       (w.cfg = none → w.bytes ≠ [] → acts (.bar2Write w.fn w.addr w.bytes)) ∧
       (∀ bme vf pme more, w.cfg = some (.config bme vf pme more) → acts (.configurationWrite w.fn bme vf pme more)) ∧
       (∀ cold, w.cfg = some (.sleep cold) → acts (.d3hotEntry w.fn cold)) ∧ (w.cfg = some .awake → acts (.d0Return w.fn)) ∧
       (∀ y m, w.cfg = some (.msix y m) → y < (if w.fn = 0 then 2048 else 16) → acts (.vectorUnmask w.fn y m))) ∧
     (ready → plain → none_ → s.pwr.haltHeld = false → ∃ t : State, exec .wakeComplete s = .next t ∧
       restored t (if s.pwr.safeNext ≠ 0 then Mode.safe else ret) ∧ t.bit Reg.TB_STATUS 2 = false ∧ t.pwr.wake = false ∧
       t.pair Reg.PWR_WAKE_TIME_L Reg.PWR_WAKE_TIME_H = t.tb.now % 2 ^ 64 ∧ (s.bit Reg.PWR_CFG 2 = true → t.bit Reg.TB_STATUS 0 = false) ∧
       (s.pwr.safeNext ≠ 0 → t.fld Reg.PWR_STATUS 12 3 = s.pwr.safeNext % 8)) ∧
     (ready → plain → none_ → s.pwr.haltHeld = true → s.pwr.safeNext = 0 → s.bit Reg.PWR_CFG 1 = true → s.pwr.ret = Mode.provision ∨ s.pwr.ret = Mode.run ∨
       s.pwr.ret = Mode.degraded ∨ s.pwr.ret = Mode.safe → ∃ t : State, exec .wakeComplete s = .next t ∧ t.mode = Mode.halt ∧ t.pwr.ret = ret ∧
         t.pwr.wake = false) ∧
     (ready → s.pwr.failHeld = true → s.pwr.safeNext = 2 → none_ → (∀ e ∈ s.fns, e.2.abortHeld = false) → ∃ t : State,
       exec .wakeComplete s = .next t ∧ t.pwr.failHeld = false ∧ t.pwr.haltHeld = false ∧
       t.mode = (if s.pwr.haltHeld = true ∧ s.bit Reg.PWR_CFG 1 = true then Mode.halt else Mode.safe) ∧
       t.fld Reg.PWR_STATUS 12 3 = 2 ∧ t.bit Reg.PWR_STATUS 9 = true ∧ t.srcPend 0x343A = true)) ∧
    (s.pwr.failPin = true → exec .powerFailN s = .next s) ∧
    (s.pwr.failPin = false → s.mode = Mode.off → exec .powerFailN s = .next { s with pwr := { s.pwr with failPin := true } }) ∧
    (s.pwr.failPin = false → s.mode = Mode.doze → ∃ t : State, exec .powerFailN s = .next t ∧
      t.pwr = { s.pwr with failPin := true, failHeld := true, wake := true, safeNext := held 2 } ∧
      OnlyRegs [Reg.PWR_STATUS] { s with pwr := t.pwr } t) ∧
    (s.pwr.failPin = false → s.mode ≠ Mode.off → s.mode ≠ Mode.doze → s.pwr.haltHeld = true → s.pwr.entering = true →
      service ∨ s.mode = Mode.provision ∨ s.mode = Mode.safe → s.bit Reg.PWR_CFG 1 = true → ∃ t : State, exec .powerFailN s = .next t ∧
      t.mode = Mode.halt ∧ t.bit Reg.PWR_STATUS 9 = true ∧ (service → t.pwr.ret = Mode.safe) ∧ t.pwr.haltHeld = false) ∧
    (s.pwr.failPin = false → s.mode ≠ Mode.off → s.mode ≠ Mode.doze → s.pwr.haltHeld = false → ∃ t : State, exec .powerFailN s = .next t ∧ t.pwr.failPin = true ∧
      t.pwr.entering = false ∧ apron t ∧ t.bit Reg.PWR_STATUS 9 = true ∧
      (∃ u : State, u.srcPend 0x343A = true ∧
        (t = u ∨ t = (u.enterSafe 2).sendLastgasp 0 ∨ t = (u.enterSafe 2).alignLater.sendLastgasp 0)) ∧ t.link.posted = s.link.posted.filter (·.cfg.isSome) ∧
      (∀ n, (t.fn n).buf = []) ∧ t.boot.apply = none ∧ (∀ c < 32, (t.chan c).st = 0 ∧ (t.chan c).queue = []) ∧ t.boot.writing = false ∧ t.mem = s.mem ∧
      (service → safe t 2) ∧ (s.mode = Mode.halt → safe t 2) ∧ (¬service → s.mode ≠ Mode.halt → t.mode = s.mode)) ∧
    exec .powerFailNRelease s = .next { s with pwr := { s.pwr with failPin := false } } ∧
    (∃ t : State, exec .sysRstNAssert s = .next t ∧ off t true ∧ t.pwr.supplies = s.pwr.supplies) ∧
    (∃ t : State, exec .supplyLoss s = .next t ∧ off t s.pwr.resetPin ∧ t.pwr.supplies = false) ∧
    (s.pwr.resetPin = false → exec (.sysRstNRelease release) s = .next s) ∧
    (s.pwr.resetPin = true → release.inRange = false →
      exec (.sysRstNRelease release) s = .next { s with pwr := { s.pwr with resetPin := false, supplies := false } }) ∧
    (s.pwr.resetPin = true → release.inRange = true → ∃ t : State, exec (.sysRstNRelease release) s = .next t ∧ moved t Mode.boot ∧
      t.pwr = { s.pwr with resetPin := false, supplies := true, mode := Mode.boot } ∧
      t.boot = { s.boot with badRows := release.badRows, badCores := release.badCores, badFlash := release.badFlash } ∧
      t.regN Reg.SEC_STRAP = release.straps % 256 ∧ t.bit Reg.CLK_CFG 0 = bitAt release.straps 0 ∧
      OnlyRegsAndEvents [Reg.SEC_STRAP, Reg.CLK_CFG, Reg.PWR_STATUS] { s with pwr := t.pwr, boot := t.boot } t) ∧
    (s.mode = Mode.off → exec (.temperatureSample v) s = .next s) ∧
    (s.mode ≠ Mode.off →
      let temp := signed 12 v
      let alert := s.temp Reg.PWR_TALERT
      let crit := s.temp Reg.PWR_TCRIT
      let shown (t : State) := t.regN Reg.PWR_TEMP = v % 2 ^ 12 ∧
        t.bit Reg.PWR_STATUS 10 = (if alert ≤ temp then true else if temp + 20 ≤ alert then false else s.bit Reg.PWR_STATUS 10) ∧
        (alert ≤ temp → s.bit Reg.PWR_STATUS 10 = false → s.mode ≠ Mode.halt → ∃ u : State, u.srcPend 0x3439 = true ∧ (t = u ∨ t = u.enterSafe 4))
      ∃ t : State, exec (.temperatureSample v) s = .next t ∧ shown t ∧
        (temp < crit → OnlyRegsAndEvents [Reg.PWR_TEMP, Reg.PWR_STATUS] s t) ∧
        (crit ≤ temp → service → s.pwr.entering = false → safe t 4 ∧ apron t) ∧
        (crit ≤ temp → service → s.pwr.entering = true → t.mode = s.mode ∧ t.pwr.safeNext = held 4 ∧ t.pwr.wake = true) ∧
        (crit ≤ temp → s.mode = Mode.halt → t.mode = s.mode ∧ apron t ∧ t.pwr.safeNext = held 4) ∧
        (crit ≤ temp → ¬service → s.mode ≠ Mode.halt → OnlyRegsAndEvents [Reg.PWR_TEMP, Reg.PWR_STATUS] s t)) ∧
    (s.mode = Mode.off → ∀ c ∈ [Instr.smbusReadStatus, .smbusReadTemp, .smbusReadAlerts, .smbusSafe write], exec c s = .next s) ∧
    (s.mode ≠ Mode.off →
      let n (b : Bool) := if b then 1 else 0
      let addr := 0x58 + s.fld Reg.SEC_STRAP 6 2
      let answer (c : Instr) (x : Nat) := ∃ t : State, exec c s = .next t ∧ t.out = s.out ++ [.smbus addr x] ∧
        (¬(may ∧ s.bit Reg.PWR_WAKE 7 = true) → t = { s with out := t.out }) ∧
        (may → s.bit Reg.PWR_WAKE 7 = true → woken { t with out := s.out } 5 0)
      answer .smbusReadStatus (s.mode % 8 + n (decide (s.mode = Mode.degraded)) * 8 + n s.pwr.safePin * 16 + n (s.bit Reg.PWR_STATUS 9) * 32) ∧
      answer .smbusReadTemp (s.fld Reg.PWR_TEMP 0 12) ∧
      answer .smbusReadAlerts (n (s.bit Reg.PWR_STATUS 10) + n (decide (s.temp Reg.PWR_TCRIT ≤ s.temp Reg.PWR_TEMP)) * 2) ∧
      (write.addr ≠ addr → exec (.smbusSafe write) s = .next s) ∧
      (write.addr = addr → write.value % 256 = 0x5A → service → s.pwr.entering = false → ∃ t : State,
        exec (.smbusSafe write) s = .next t ∧ safe t 3 ∧ apron t) ∧
      (write.value % 256 ≠ 0x5A ∨ ¬service → ¬may → exec (.smbusSafe write) s = .next s)) ∧
    (s.pwr.safePin = true → exec .safeN s = .next s) ∧
    (s.mode = Mode.off → s.pwr.safePin = false → exec .safeN s = .next { s with pwr := { s.pwr with safePin := true } }) ∧
    (s.mode ≠ Mode.off → s.pwr.safePin = false → ∃ t : State, exec .safeN s = .next t ∧ t.pwr.safePin = true ∧ apron t ∧
      (∃ u : State, u.srcPend 0x343B = true ∧ (t = u ∨ t = u.enterSafe 1)) ∧
      (service → s.pwr.entering = false → safe t 1) ∧
      (service → s.pwr.entering = true → t.mode = s.mode ∧ t.pwr.safeNext = held 1 ∧ t.pwr.wake = true) ∧
      (s.mode = Mode.halt → t.mode = s.mode ∧ t.pwr.safeNext = held 1) ∧
      (s.mode = Mode.doze → t.mode = s.mode ∧ t.pwr.safeNext = held 1 ∧ t.pwr.wake = true) ∧
      (¬service → t.mode = s.mode) ∧ t.mem = s.mem ∧ (s.mode ≠ Mode.run → s.mode ≠ Mode.degraded → t.queues = s.queues)) ∧
    exec .safeNRelease s = .next { s with pwr := { s.pwr with safePin := false } }

/-- R340-R358: what an image must hold, boot from flash and from the host, confirmation and anti-rollback, images written and
applied part by part, steward cores, scrubbing and repair. -/
def Obligations.BootAndReliability : Prop :=
  ∀ (s : State) (v c w a tray : Nat) (im : ImageInfo), c < 4 → w < 8388608 → a < 16384 → tray < 9 →
    let d := s.drainBuf 0
    let reason (x : ImageInfo) := if x.readOk = false then 6 else if x.wellFormed = false then 2 else if x.keyOk = false then 3
      else if x.sigOk = false then 4 else if x.rollback < s.boot.fuses then 5 else 0
    let coresBad (m : Nat) := bitAt m 0 = true ∧ bitAt m 1 = true ∨ bitAt m 2 = true ∧ bitAt m 3 = true
    let secMode (u : State) := u.mode = Mode.provision ∨ u.mode = Mode.run ∨ u.mode = Mode.degraded
    let slotOf (u : State) := u.fld Reg.SEC_BOOT 0 2
    let ctrl := Reg.SEC_IMG_CTRL
    let imgSt (t : State) (state code step : Nat) := t.fld ctrl 8 3 = state ∧ t.fld ctrl 16 8 = code ∧ t.fld ctrl 24 4 = step
    let awake := s.mode ≠ Mode.off ∧ s.mode ≠ Mode.doze
    let applying (u : State) := u.boot.apply ≠ none
    let served := d.mode ≠ Mode.boot ∧ d.pairUp 1 = true
    (im.wellFormed = true ↔ im.field 0 4 = 0x39544843 ∧ im.field 4 2 = 1 ∧ 608 ≤ im.field 8 4 ∧ im.field 8 4 ≤ 8388608 ∧
      im.field 8 4 ≤ im.bytes.length ∧
      (∀ r ∈ [(0x06, 2), (0x1A, 38), (0xC0, 64), (0x161, 159)] ++ (List.range 8).map (fun i => (0x4C + 16 * i, 4)),
        ∀ j < r.2, (im.bytes.getD (r.1 + j) 0) % 256 = 0) ∧
      (let kind (i : Nat) := im.field (0x40 + 16 * i) 4
       let off (i : Nat) := im.field (0x44 + 16 * i) 4
       let len (i : Nat) := im.field (0x48 + 16 * i) 4
       (∀ i < 8, kind i ≠ 0 → kind i ≤ 3 ∧ 512 ≤ off i ∧ off i + len i + 96 ≤ im.field 8 4) ∧ (∀ k ∈ [1, 2, 3], ∃ i < 8, kind i = k) ∧
       ∀ i < 8, ∀ j < i, kind i ≠ 0 → kind j ≠ 0 → kind i ≠ kind j ∧ (off i + len i ≤ off j ∨ off j + len j ≤ off i))) ∧
    (s.mode = Mode.boot → s.pwr.refOk = true → s.pwr.locked = false → s.tb.running = false →
      let rows := (s.boot.badRows.filter fun r => decide (r < 65536)).eraseDups
      let src := s.fld Reg.SEC_STRAP 1 2
      let why (t : State) (k code : Nat) := t.fld Reg.SEC_BOOT (4 + 4 * k) 4 = code
      let boots (f : State → Prop) := ∃ t : State, exec .pllLock s = .next t ∧ (rows ≠ [] → t.fld Reg.REL_REPAIR 0 9 = rows.length) ∧ f t
      let hostNext (t : State) := t.mode = Mode.boot ∧ slotOf t = 3 ∧ (src = 0 ∨ src = 2 → t.boot.hostWait = true) ∧
        (src ≠ 0 → src ≠ 2 → t.boot.stopped = true)
      let runs (t : State) (i : Nat) := t.mode = Mode.provision ∧ t.srcPend 0x3438 = true ∧ slotOf t = i ∧ t.boot.calAt = s.tick ∧
        t.regN Reg.SEC_VER_FW = (s.slot i).image.fwver % 2 ^ 32 ∧ t.regN Reg.SEC_VER_BASE = (s.slot i).image.basever % 2 ^ 32
      (256 < rows.length → ∃ t : State, exec .pllLock s = .next t ∧ t.mode = Mode.boot ∧ t.boot.stopped = true ∧ t.boot.hostWait = false ∧
        why t 0 7 ∧ why t 1 7 ∧ why t 2 7) ∧
      (rows.length ≤ 256 → src = 2 → boots hostNext) ∧
      (rows.length ≤ 256 → src ≠ 2 → (s.slot 0).candidate = false → (s.slot 1).candidate = false →
        boots fun t => hostNext t ∧ why t 0 1 ∧ why t 1 1) ∧
      (rows.length ≤ 256 → src ≠ 2 → ∀ i < 2, (s.slot (1 - i)).candidate = false →
        let x := s.slot i
        let code := if bitAt s.boot.badFlash i = true then 6 else reason x.image
        let good := x.state = 0x3C
        let trial := x.state = 0x5A ∧ x.boots < 2
        (x.state = 0x5A → 2 ≤ x.boots → boots fun t => hostNext t ∧ t.slot i = { x with state := 0 } ∧ why t i 1) ∧
        (good ∨ trial → code ≠ 0 → boots fun t => hostNext t ∧ (t.slot i).state = 0 ∧ (t.slot i).image = x.image ∧ why t i code) ∧
        (good ∨ trial → code = 0 → coresBad s.boot.badCores → boots fun t => t.mode = Mode.boot ∧ t.boot.stopped = true ∧ why t i 8) ∧
        (good → code = 0 → ¬coresBad s.boot.badCores → boots fun t => runs t i ∧ t.slot i = x ∧ t.fld Reg.SEC_BOOT 2 2 = 1 ∧
          why t (1 - i) 1) ∧
        (trial → code = 0 → ¬coresBad s.boot.badCores → boots fun t => runs t i ∧ t.slot i = { x with boots := x.boots + 1 } ∧
          t.fld Reg.SEC_BOOT 2 2 = 0 ∧ t.fld Reg.SEC_BOOT 16 2 = x.boots + 1))) ∧
    (s.pfPage 5 = true →
      (d.mode ≠ Mode.boot ∨ d.boot.hostWait = false ∨ d.boot.hboot ≠ none → exec (.secHbootCtrlGo im) s = .next d) ∧
      (d.mode = Mode.boot → d.boot.hostWait = true → d.boot.hboot = none →
        ((d.fn 0).bme = false → ∃ t : State, exec (.secHbootCtrlGo im) s = .next t ∧ t.boot = { d.boot with hboot := some im } ∧
          t.fld Reg.SEC_HBOOT_CTRL 1 3 = 1 ∧ OnlyRegs [Reg.SEC_HBOOT_CTRL] { d with boot := t.boot } t) ∧
        ((d.fn 0).bme = true →
          let y := im.upTo (d.regN Reg.SEC_HBOOT_LEN)
          (reason y ≠ 0 → ∃ t : State, exec (.secHbootCtrlGo im) s = .next t ∧
            t.fld Reg.SEC_HBOOT_CTRL 1 3 = 3 ∧ t.fld Reg.SEC_BOOT 12 4 = reason y ∧ t.mode = Mode.boot ∧ t.boot.hostWait = true ∧
            OnlyRegs [Reg.SEC_HBOOT_CTRL, Reg.SEC_BOOT] d t) ∧
          (reason y = 0 → coresBad d.boot.badCores → ∃ t : State, exec (.secHbootCtrlGo im) s = .next t ∧ t.fld Reg.SEC_BOOT 12 4 = 8 ∧
            slotOf t = 3 ∧ t.boot = { d.boot with stopped := true, hostWait := false } ∧
            OnlyRegs [Reg.SEC_HBOOT_CTRL, Reg.SEC_BOOT] { d with boot := t.boot } t) ∧
          (reason y = 0 → ¬coresBad d.boot.badCores → ∃ t : State, exec (.secHbootCtrlGo im) s = .next t ∧
            t.fld Reg.SEC_HBOOT_CTRL 1 3 = 2 ∧ t.mode = Mode.provision ∧ t.srcPend 0x3438 = true ∧ slotOf t = 2 ∧ t.boot.hostWait = false ∧
            t.regN Reg.SEC_VER_FW = y.fwver % 2 ^ 32 ∧ t.regN Reg.SEC_VER_BASE = y.basever % 2 ^ 32 ∧ t.boot.calAt = d.tick ∧
            t.boot.slotA = d.boot.slotA ∧ t.boot.slotB = d.boot.slotB))) ∧
      (bitAt v 1 = false → ¬(secMode d ∧ slotOf d < 2) → exec (.secCtrlConfirm v) s = .next d) ∧
      (bitAt v 1 = false → secMode d → slotOf d < 2 → ∃ t : State, exec (.secCtrlConfirm v) s = .next t ∧
        t.slot (slotOf d) = { d.slot (slotOf d) with state := 0x3C, boots := 0 } ∧ t.slot (1 - slotOf d) = d.slot (1 - slotOf d) ∧
        t.fld Reg.SEC_BOOT 2 2 = 1 ∧ t.fld Reg.SEC_BOOT 16 2 = 0 ∧ OnlyRegs [Reg.SEC_BOOT] { d with boot := t.boot } t) ∧
      (let may := bits v 16 16 = 0x5EC0 ∧ secMode d ∧ slotOf d < 2 ∧ d.fld Reg.SEC_BOOT 2 2 = 1
       (bitAt v 0 = false → may → exec (.secCtrlRbcommit v) s =
         .next { d with boot := { d.boot with burning := some (max d.boot.fuses (min 64 (d.fld Reg.SEC_RB 8 8))) } }) ∧
       (bitAt v 0 = false → ¬may → ∃ t : State, exec (.secCtrlRbcommit v) s = .next t ∧ t.bit (Reg.PG_ERR 5) 17 = true ∧
         OnlyRegs [Reg.PG_ERR 5] d t)) ∧
      (let target := if slotOf d = 0 then 1 else if slotOf d = 1 then 0
         else if (d.slot 0).state = 0x3C ∧ (d.slot 1).state = 0x3C ∧ (d.slot 1).gen < (d.slot 0).gen then 1 else 0
       (bitAt v 1 = true → ∃ t : State, exec (.secImgCtrlWrite v) s = .next t ∧ t.bit (Reg.PG_ERR 5) 4 = true ∧
         t.fld (Reg.PG_ERR_INFO 5) 0 8 = 0x08 ∧ OnlyRegs [ctrl, Reg.PG_ERR 5, Reg.PG_ERR_INFO 5] d t) ∧
       (¬served → bitAt v 1 = false → ∃ t : State, exec (.secImgCtrlWrite v) s = .next t ∧ t.fld ctrl 4 3 = bits v 4 3 ∧
         OnlyRegs [ctrl] d t) ∧
       (served → bitAt v 1 = false →
         (d.boot.writing = true ∨ applying d → ∃ t : State, exec (.secImgCtrlWrite v) s = .next t ∧ t.fld ctrl 16 8 = 0x07 ∧
           t.fld ctrl 8 3 = d.fld ctrl 8 3 ∧ t.fld ctrl 4 3 = bits v 4 3 ∧ OnlyRegs [ctrl] d t) ∧
         (d.boot.writing = false → ¬applying d → ∃ t : State, exec (.secImgCtrlWrite v) s = .next t ∧ imgSt t 1 0 0 ∧
           t.slot target = { d.slot target with state := 0xFF } ∧ t.slot (1 - target) = d.slot (1 - target) ∧ t.boot.writing = true ∧
           t.boot.target = target ∧
           OnlyRegs [ctrl] { d with boot := t.boot } t))) ∧
      (¬served → bitAt v 0 = false → ∃ t : State, exec (.secImgCtrlApply v) s = .next t ∧ t.fld ctrl 4 3 = bits v 4 3 ∧ OnlyRegs [ctrl] d t) ∧
      (served → bitAt v 0 = false →
        let parts := bits v 4 3
        let other := [0, 1].filter fun i => decide (i ≠ slotOf d) && (d.slot i).candidate
        let run := d.fld Reg.ENS_VER 16 8
        let ports := d.ensPorts
        let busy := d.bit Reg.PWR_STATUS 7 = true ∨ d.boot.writing = true ∨ applying d ∨
          (bitAt parts 1 = true ∧ ports ≠ [] ∧ (ports.filter fun n => d.bit (Reg.ENP_STATUS n) 1).length < 2) ∨
          (bitAt parts 2 = true ∧ (9 ≤ d.spareTray ∨ d.rebuilding = true ∨ d.upd ≠ none))
        let refuses (code : Nat) := ∃ t : State, exec (.secImgCtrlApply v) s = .next t ∧ t.fld ctrl 16 8 = code ∧ t.fld ctrl 4 3 = parts ∧
          OnlyRegs [ctrl] d t
        (other = [] → refuses 0x08) ∧
        ∀ j ∈ other, (∀ k ∈ other, (d.slot k).gen < (d.slot j).gen ∨ (d.slot k).gen = (d.slot j).gen ∧ j ≤ k) →
          let x := (d.slot j).image
          let resumes := bitAt parts 2 = false ∨ d.baseResumes x.basever = true
          let inRange := run = 0 ∨ x.vmin ≤ run ∧ run ≤ x.vmax
          let a : Apply := { fwver := x.fwver, basever := x.basever, parts := parts }
          let goes (f : State → Prop) := ∃ t : State, exec (.secImgCtrlApply v) s = .next t ∧ t.mode = d.mode ∧
            t.boot = { d.boot with apply := t.boot.apply } ∧ t.fld ctrl 4 3 = parts ∧ f t
          let baseRuns (t : State) := imgSt t 2 0 2 ∧ t.boot.apply = some { a with part := 2, port := none } ∧
            t.upd = some { apply := true, basever := x.basever, todo := List.range 8 } ∧ (t.tray d.spareTray).base = some x.basever ∧
            (t.tray d.spareTray).rebuildFor = some (d.physOf 0)
          (¬resumes → refuses 0x08) ∧
          (resumes → ¬inRange → refuses 0x15) ∧
          (resumes → inRange → busy → refuses 0x07) ∧
          (resumes → inRange → ¬busy →
            (parts = 0 → goes fun t => imgSt t 3 0 0 ∧ t.boot.apply = none ∧ t.mem = d.mem) ∧
            (bitAt parts 0 = true →
              let k := if d.bit Reg.REL_STEWARD 6 = true then 2 else 3
              goes fun t => imgSt t 2 0 0 ∧ t.boot.apply = some { a with core := some k } ∧ t.bit Reg.REL_STEWARD k = false ∧
                t.bit Reg.REL_STEWARD (4 + k) = false ∧ t.bit Reg.REL_STEWARD (9 - k) = true ∧
                t.regN Reg.SEC_VER_FW = d.regN Reg.SEC_VER_FW ∧ t.mem = d.mem) ∧
            (bitAt parts 0 = false → bitAt parts 1 = true →
              (∀ n r, ports = n :: r → goes fun t => imgSt t 2 0 1 ∧ t.fld (Reg.ENP_STATUS n) 1 2 = 0 ∧ t.mem = d.mem ∧
                ∃ until_, t.boot.apply = some { a with part := 1, ports := r, port := some n, until_ := until_ } ∧
                  d.tick ≤ until_ ∧ until_ ≤ d.tick + 30000000) ∧
              (ports = [] → bitAt parts 2 = false → goes fun t => imgSt t 3 0 1 ∧ t.boot.apply = none ∧ t.mem = d.mem) ∧
              (ports = [] → bitAt parts 2 = true → goes baseRuns)) ∧
            (parts = 4 → goes baseRuns)))) ∧
    (s.pending = [] → s.tb.running = true → s.mode ≠ Mode.off → s.mode ≠ Mode.doze → s.coarse = true →
      ∀ a n, s.boot.apply = some a → a.part = 1 → a.port = some n →
        (s.tick + 1 < a.until_ → step s = .next { s with tick := s.tick + 1 }) ∧
        (a.until_ ≤ s.tick + 1 → ∃ t : State, step s = .next t ∧ t.tick = s.tick + 1 ∧ (t.enp n).lastBeacon = some (s.tick + 1) ∧
          (∀ m r, a.ports = m :: r → t.fld (Reg.ENP_STATUS m) 1 2 = 0 ∧ ∃ until_,
            t.boot.apply = some { a with ports := r, port := some m, until_ := until_ } ∧ until_ ≤ t.tick + 30000000) ∧
          (a.ports = [] → bitAt a.parts 2 = false → t.boot.apply = none ∧ imgSt t 3 0 1))) ∧
    exec .fuseBurnComplete s = .next (match s.boot.burning with
      | some k => { s with boot := { s.boot with burning := none, fuses := k } }
      | none => s) ∧
    (∀ failed, (s.boot.writing = false ∨ s.pairUp 1 = false ∨ s.mode = Mode.doze → exec (.imageWriteComplete im failed) s = .next s) ∧
      (s.boot.writing = true → s.pairUp 1 = true → s.mode ≠ Mode.doze → s.boot.target < 2 →
        let target := s.boot.target
        let y := im.upTo (s.regN Reg.SEC_IMG_LEN)
        let unread := failed = true ∨ im.readOk = false
        ∃ t : State, exec (.imageWriteComplete im failed) s = .next t ∧ t.boot.writing = false ∧ t.srcPend 0x3440 = true ∧
          (unread → imgSt t 4 0x10 6 ∧ t.slot target = s.slot target ∧ t.bit (Reg.PG_ERR 5) 16 = true) ∧
          (¬unread → reason y ≠ 0 → imgSt t 4 0x08 (reason y) ∧ t.slot target = s.slot target ∧ t.bit (Reg.PG_ERR 5) 16 = true) ∧
          (¬unread → reason y = 0 → imgSt t 3 0 0 ∧
            t.slot target = { gen := (s.regN Reg.SEC_GEN + 1) % 2 ^ 32, state := 0x5A, boots := 0, image := y }) ∧
          t.slot (1 - target) = s.slot (1 - target))) ∧
    (let st := Reg.REL_STEWARD
     let up (u : State) (k : Nat) := u.bit st k = true
     let m := if c % 2 = 0 then c + 1 else c - 1
     let recent := ((Tbl.get [] s.boot.fails c).filter fun t => decide (s.tick < t + 5400000000000)).length
     (¬up s c ∨ s.mode = Mode.off → exec (.stewardFailover c) s = .next s) ∧
     (up s c → s.mode ≠ Mode.off → ∃ t : State, exec (.stewardFailover c) s = .next t ∧ ¬up t c ∧ t.bit st (4 + c) = false ∧
       (∀ k < 4, k ≠ c → (up t k ↔ up s k)) ∧ (up s m → s.bit st (4 + c) = true → t.bit st (4 + m) = true) ∧
       (2 ≤ recent → t.bit st (8 + c) = true) ∧ t.bit Reg.PWR_STATUS 7 = true ∧ (s.mode = Mode.run → t.mode = Mode.degraded) ∧
       (s.mode ≠ Mode.run → t.mode = s.mode) ∧ (¬up s m → t.srcPend 0x3431 = true) ∧
       (s.boot.apply = none → t.queues = s.queues ∧ t.mem = s.mem) ∧
       (∀ x, s.boot.apply = some x → t.boot.apply = none ∧ imgSt t 4 0x07 (x.part % 16))) ∧
     (∀ pass, (up s c ∨ s.bit st (8 + c) = true ∨ ¬up s m ∨ ¬awake → exec (.stewardResync c pass) s = .next s) ∧
       (¬up s c → s.bit st (8 + c) = false → up s m → awake →
        ((∀ x, s.boot.apply = some x → x.core ≠ some c) → ∃ t : State, exec (.stewardResync c pass) s = .next t ∧
         (pass = true → up t c ∧ (s.fld st 0 4 = 15 - 2 ^ c → t.bit Reg.PWR_STATUS 7 = false ∧
           (s.mode = Mode.degraded → s.bit Reg.PWR_STATUS 6 = false → t.mode = Mode.run))) ∧
         (pass = false → ¬up t c ∧ (2 ≤ recent → t.bit st (8 + c) = true) ∧ t = { s with regs := t.regs, boot := t.boot })) ∧
        (∀ x, s.boot.apply = some x → x.core = some c →
         (pass = false → ∃ t : State, exec (.stewardResync c false) s = .next t ∧ ¬up t c ∧ t.boot.apply = none ∧ imgSt t 4 0x07 (x.part % 16)) ∧
         (pass = true → 2 ≤ c →
           let k := if s.bit st 4 = true then 0 else 1
           ∃ t : State, exec (.stewardResync c true) s = .next t ∧ up t c ∧ ¬up t k ∧ t.bit st (4 + k) = false ∧
             t.bit st (5 - k) = true ∧ t.boot.apply = some { x with core := some k } ∧ t.regN Reg.SEC_VER_FW = s.regN Reg.SEC_VER_FW) ∧
         (pass = true → c < 2 → ∃ t : State, exec (.stewardResync c true) s = .next t ∧ up t c ∧
           t.regN Reg.SEC_VER_FW = x.fwver % 2 ^ 32 ∧
           (bitAt x.parts 1 = false → bitAt x.parts 2 = false → t.boot.apply = none ∧ imgSt t 3 0 (x.part % 16))))))) ∧
    (∀ err < 3,
      let row := w / 128
      let bad := err = 2 ∨ w ∈ s.eccBad
      let soft := ¬bad ∧ (err = 1 ∨ w ∈ s.eccSoft)
      let last := w = 8388607
      let pos (t : State) := t.fld Reg.REL_SCRUB 16 16 = (if last then 0 else row) ∧
        (last → t.fld Reg.REL_SCRUB 0 16 = (s.fld Reg.REL_SCRUB 0 16 + 1) % 2 ^ 16 ∧ t.rel.rowCorr = [])
      (¬awake → exec (.scrub w err) s = .next s) ∧
      (awake → ∃ t : State, exec (.scrub w err) s = .next t ∧ pos t ∧ t.mem = s.mem ∧
        (bad → w ∈ t.eccBad ∧ w ∉ t.eccSoft ∧ t.regN Reg.REL_UNC_CNT = min (2 ^ 32 - 1) (s.regN Reg.REL_UNC_CNT + 1) ∧
          (s.pairUp 1 = true → t.srcPend 0x3431 = true)) ∧
        (soft → w ∉ t.eccSoft ∧ t.eccBad = s.eccBad ∧ t.regN Reg.REL_CORR_CNT = min (2 ^ 32 - 1) (s.regN Reg.REL_CORR_CNT + 1) ∧
          (¬last → Tbl.get 0 t.rel.rowCorr row = Tbl.get 0 s.rel.rowCorr row + 1) ∧
          (row ∉ s.rel.recorded → s.pairUp 1 = true → t.srcPend 0x3430 = true)) ∧
        (¬bad → ¬soft → t = { s with regs := t.regs, rel := t.rel } ∧ ∀ k, k ≠ Reg.REL_SCRUB → t.reg k = s.reg k)) ∧
      (let k := csKey tray a
       let bad := err = 2 ∨ k ∈ s.csBad
       let soft := ¬bad ∧ (err = 1 ∨ k ∈ s.csSoft)
       (¬awake ∨ ¬bad ∧ ¬soft → exec (.csScrub tray a err) s = .next s) ∧
       (awake → bad → ∃ t : State, exec (.csScrub tray a err) s = .next t ∧ k ∈ t.csBad ∧ k ∉ t.csSoft ∧ t.cs = s.cs ∧
         t.bit (Reg.PG_ERR (0x30 + tray)) 16 = true ∧ (s.pairUp 1 = true → t.srcPend 0x3431 = true)) ∧
       (awake → soft → ∃ t : State, exec (.csScrub tray a err) s = .next t ∧ k ∉ t.csSoft ∧ t.csBad = s.csBad ∧ t.cs = s.cs ∧
         t.regN (Reg.TRY_ECC_CNT tray) = min (2 ^ 32 - 1) (s.regN (Reg.TRY_ECC_CNT tray) + 1)))) ∧
    (let row := w / 128
     let thresh := s.fld Reg.REL_RCFG 0 4
     let spares := 256 - (s.fld Reg.REL_REPAIR 0 9 + s.fld Reg.REL_REPAIR 16 9)
     let stays := thresh = 0 ∨ Tbl.get 0 s.rel.rowCorr row < thresh ∨ spares = 0 ∨ ¬awake
     (stays → exec (.rowRemap row) s = .next s) ∧
     (¬stays → ∃ t : State, exec (.rowRemap row) s = .next t ∧ t.fld Reg.REL_REPAIR 16 9 = s.fld Reg.REL_REPAIR 16 9 + 1 ∧
       Tbl.get 0 t.rel.rowCorr row = 0 ∧ (spares ≤ 17 → t.bit Reg.REL_STATUS 0 = true) ∧ (spares = 1 → t.bit Reg.REL_STATUS 1 = true) ∧
       t.eccSoft = s.eccSoft.filter (fun w => decide (w / 128 ≠ row)) ∧
       t.mem = s.mem ∧ t.eccBad = s.eccBad ∧ SameButEvents [Reg.REL_REPAIR, Reg.REL_STATUS, Reg.REL_LHEAD] s t)) ∧
    (s.pairUp 1 = false ∨ ¬awake → exec (.csRepair tray a) s = .next s) ∧
    (s.pairUp 1 = true → awake → ∃ t : State, exec (.csRepair tray a) s = .next t ∧ (∀ k, k ∈ t.csBad ↔ k ∈ s.csBad ∧ k ≠ csKey tray a) ∧
      t = { s with csBad := t.csBad })
end

