-- ==== Sys2Proof/Laws/State.lean ====
section
/-! SUPPORT. One lemma per update and field it leaves: each is true by reduction, so that no proof unfolds a
record update. -/

namespace Sys2Proof.Machine

variable (s : State)

section setReg
variable (k : Nat) (v : Word)
@[simp] theorem State.setReg_pending : (s.setReg k v).pending = s.pending := rfl
@[simp] theorem State.setReg_out : (s.setReg k v).out = s.out := rfl
@[simp] theorem State.setReg_fresh : (s.setReg k v).fresh = s.fresh := rfl
@[simp] theorem State.setReg_tick : (s.setReg k v).tick = s.tick := rfl
@[simp] theorem State.setReg_shadow : (s.setReg k v).shadow = s.shadow := rfl
@[simp] theorem State.setReg_mem : (s.setReg k v).mem = s.mem := rfl
@[simp] theorem State.setReg_eccBad : (s.setReg k v).eccBad = s.eccBad := rfl
@[simp] theorem State.setReg_eccSoft : (s.setReg k v).eccSoft = s.eccSoft := rfl
@[simp] theorem State.setReg_tb : (s.setReg k v).tb = s.tb := rfl
@[simp] theorem State.setReg_pages : (s.setReg k v).pages = s.pages := rfl
@[simp] theorem State.setReg_groups : (s.setReg k v).groups = s.groups := rfl
@[simp] theorem State.setReg_hs : (s.setReg k v).hs = s.hs := rfl
@[simp] theorem State.setReg_cuffs : (s.setReg k v).cuffs = s.cuffs := rfl
@[simp] theorem State.setReg_sleeves : (s.setReg k v).sleeves = s.sleeves := rfl
@[simp] theorem State.setReg_pairs : (s.setReg k v).pairs = s.pairs := rfl
@[simp] theorem State.setReg_voters : (s.setReg k v).voters = s.voters := rfl
@[simp] theorem State.setReg_queues : (s.setReg k v).queues = s.queues := rfl
@[simp] theorem State.setReg_refs : (s.setReg k v).refs = s.refs := rfl
@[simp] theorem State.setReg_seams : (s.setReg k v).seams = s.seams := rfl
@[simp] theorem State.setReg_fifos : (s.setReg k v).fifos = s.fifos := rfl
@[simp] theorem State.setReg_votes : (s.setReg k v).votes = s.votes := rfl
@[simp] theorem State.setReg_lanes : (s.setReg k v).lanes = s.lanes := rfl
@[simp] theorem State.setReg_quota : (s.setReg k v).quota = s.quota := rfl
@[simp] theorem State.setReg_used : (s.setReg k v).used = s.used := rfl
@[simp] theorem State.setReg_trays : (s.setReg k v).trays = s.trays := rfl
@[simp] theorem State.setReg_ctxs : (s.setReg k v).ctxs = s.ctxs := rfl
@[simp] theorem State.setReg_flags : (s.setReg k v).flags = s.flags := rfl
@[simp] theorem State.setReg_cs : (s.setReg k v).cs = s.cs := rfl
@[simp] theorem State.setReg_csBad : (s.setReg k v).csBad = s.csBad := rfl
@[simp] theorem State.setReg_csSoft : (s.setReg k v).csSoft = s.csSoft := rfl
@[simp] theorem State.setReg_units : (s.setReg k v).units = s.units := rfl
@[simp] theorem State.setReg_upd : (s.setReg k v).upd = s.upd := rfl
@[simp] theorem State.setReg_pios : (s.setReg k v).pios = s.pios := rfl
@[simp] theorem State.setReg_syncAt : (s.setReg k v).syncAt = s.syncAt := rfl
@[simp] theorem State.setReg_ports : (s.setReg k v).ports = s.ports := rfl
@[simp] theorem State.setReg_ens : (s.setReg k v).ens = s.ens := rfl
@[simp] theorem State.setReg_enps : (s.setReg k v).enps = s.enps := rfl
@[simp] theorem State.setReg_fns : (s.setReg k v).fns = s.fns := rfl
@[simp] theorem State.setReg_link : (s.setReg k v).link = s.link := rfl
@[simp] theorem State.setReg_srcs : (s.setReg k v).srcs = s.srcs := rfl
@[simp] theorem State.setReg_vecs : (s.setReg k v).vecs = s.vecs := rfl
@[simp] theorem State.setReg_coreStacks : (s.setReg k v).coreStacks = s.coreStacks := rfl
@[simp] theorem State.setReg_chans : (s.setReg k v).chans = s.chans := rfl
@[simp] theorem State.setReg_pwr : (s.setReg k v).pwr = s.pwr := rfl
@[simp] theorem State.setReg_boot : (s.setReg k v).boot = s.boot := rfl
@[simp] theorem State.setReg_rel : (s.setReg k v).rel = s.rel := rfl
@[simp] theorem State.setReg_turns : (s.setReg k v).turns = s.turns := rfl
end setReg

section setStaged
variable (k : Nat) (v : Word)
@[simp] theorem State.setStaged_pending : (s.setStaged k v).pending = s.pending := rfl
@[simp] theorem State.setStaged_out : (s.setStaged k v).out = s.out := rfl
@[simp] theorem State.setStaged_fresh : (s.setStaged k v).fresh = s.fresh := rfl
@[simp] theorem State.setStaged_tick : (s.setStaged k v).tick = s.tick := rfl
@[simp] theorem State.setStaged_regs : (s.setStaged k v).regs = s.regs := rfl
@[simp] theorem State.setStaged_mem : (s.setStaged k v).mem = s.mem := rfl
@[simp] theorem State.setStaged_eccBad : (s.setStaged k v).eccBad = s.eccBad := rfl
@[simp] theorem State.setStaged_eccSoft : (s.setStaged k v).eccSoft = s.eccSoft := rfl
@[simp] theorem State.setStaged_tb : (s.setStaged k v).tb = s.tb := rfl
@[simp] theorem State.setStaged_pages : (s.setStaged k v).pages = s.pages := rfl
@[simp] theorem State.setStaged_groups : (s.setStaged k v).groups = s.groups := rfl
@[simp] theorem State.setStaged_hs : (s.setStaged k v).hs = s.hs := rfl
@[simp] theorem State.setStaged_cuffs : (s.setStaged k v).cuffs = s.cuffs := rfl
@[simp] theorem State.setStaged_sleeves : (s.setStaged k v).sleeves = s.sleeves := rfl
@[simp] theorem State.setStaged_pairs : (s.setStaged k v).pairs = s.pairs := rfl
@[simp] theorem State.setStaged_voters : (s.setStaged k v).voters = s.voters := rfl
@[simp] theorem State.setStaged_queues : (s.setStaged k v).queues = s.queues := rfl
@[simp] theorem State.setStaged_refs : (s.setStaged k v).refs = s.refs := rfl
@[simp] theorem State.setStaged_seams : (s.setStaged k v).seams = s.seams := rfl
@[simp] theorem State.setStaged_fifos : (s.setStaged k v).fifos = s.fifos := rfl
@[simp] theorem State.setStaged_votes : (s.setStaged k v).votes = s.votes := rfl
@[simp] theorem State.setStaged_lanes : (s.setStaged k v).lanes = s.lanes := rfl
@[simp] theorem State.setStaged_quota : (s.setStaged k v).quota = s.quota := rfl
@[simp] theorem State.setStaged_used : (s.setStaged k v).used = s.used := rfl
@[simp] theorem State.setStaged_trays : (s.setStaged k v).trays = s.trays := rfl
@[simp] theorem State.setStaged_ctxs : (s.setStaged k v).ctxs = s.ctxs := rfl
@[simp] theorem State.setStaged_flags : (s.setStaged k v).flags = s.flags := rfl
@[simp] theorem State.setStaged_cs : (s.setStaged k v).cs = s.cs := rfl
@[simp] theorem State.setStaged_csBad : (s.setStaged k v).csBad = s.csBad := rfl
@[simp] theorem State.setStaged_csSoft : (s.setStaged k v).csSoft = s.csSoft := rfl
@[simp] theorem State.setStaged_units : (s.setStaged k v).units = s.units := rfl
@[simp] theorem State.setStaged_upd : (s.setStaged k v).upd = s.upd := rfl
@[simp] theorem State.setStaged_pios : (s.setStaged k v).pios = s.pios := rfl
@[simp] theorem State.setStaged_syncAt : (s.setStaged k v).syncAt = s.syncAt := rfl
@[simp] theorem State.setStaged_ports : (s.setStaged k v).ports = s.ports := rfl
@[simp] theorem State.setStaged_ens : (s.setStaged k v).ens = s.ens := rfl
@[simp] theorem State.setStaged_enps : (s.setStaged k v).enps = s.enps := rfl
@[simp] theorem State.setStaged_fns : (s.setStaged k v).fns = s.fns := rfl
@[simp] theorem State.setStaged_link : (s.setStaged k v).link = s.link := rfl
@[simp] theorem State.setStaged_srcs : (s.setStaged k v).srcs = s.srcs := rfl
@[simp] theorem State.setStaged_vecs : (s.setStaged k v).vecs = s.vecs := rfl
@[simp] theorem State.setStaged_coreStacks : (s.setStaged k v).coreStacks = s.coreStacks := rfl
@[simp] theorem State.setStaged_chans : (s.setStaged k v).chans = s.chans := rfl
@[simp] theorem State.setStaged_pwr : (s.setStaged k v).pwr = s.pwr := rfl
@[simp] theorem State.setStaged_boot : (s.setStaged k v).boot = s.boot := rfl
@[simp] theorem State.setStaged_rel : (s.setStaged k v).rel = s.rel := rfl
@[simp] theorem State.setStaged_turns : (s.setStaged k v).turns = s.turns := rfl
end setStaged

section discard
variable (page : Nat)
@[simp] theorem State.discard_pending : (s.discard page).pending = s.pending := rfl
@[simp] theorem State.discard_out : (s.discard page).out = s.out := rfl
@[simp] theorem State.discard_fresh : (s.discard page).fresh = s.fresh := rfl
@[simp] theorem State.discard_tick : (s.discard page).tick = s.tick := rfl
@[simp] theorem State.discard_regs : (s.discard page).regs = s.regs := rfl
@[simp] theorem State.discard_mem : (s.discard page).mem = s.mem := rfl
@[simp] theorem State.discard_eccBad : (s.discard page).eccBad = s.eccBad := rfl
@[simp] theorem State.discard_eccSoft : (s.discard page).eccSoft = s.eccSoft := rfl
@[simp] theorem State.discard_tb : (s.discard page).tb = s.tb := rfl
@[simp] theorem State.discard_pages : (s.discard page).pages = s.pages := rfl
@[simp] theorem State.discard_groups : (s.discard page).groups = s.groups := rfl
@[simp] theorem State.discard_hs : (s.discard page).hs = s.hs := rfl
@[simp] theorem State.discard_cuffs : (s.discard page).cuffs = s.cuffs := rfl
@[simp] theorem State.discard_sleeves : (s.discard page).sleeves = s.sleeves := rfl
@[simp] theorem State.discard_pairs : (s.discard page).pairs = s.pairs := rfl
@[simp] theorem State.discard_voters : (s.discard page).voters = s.voters := rfl
@[simp] theorem State.discard_queues : (s.discard page).queues = s.queues := rfl
@[simp] theorem State.discard_refs : (s.discard page).refs = s.refs := rfl
@[simp] theorem State.discard_seams : (s.discard page).seams = s.seams := rfl
@[simp] theorem State.discard_fifos : (s.discard page).fifos = s.fifos := rfl
@[simp] theorem State.discard_votes : (s.discard page).votes = s.votes := rfl
@[simp] theorem State.discard_lanes : (s.discard page).lanes = s.lanes := rfl
@[simp] theorem State.discard_quota : (s.discard page).quota = s.quota := rfl
@[simp] theorem State.discard_used : (s.discard page).used = s.used := rfl
@[simp] theorem State.discard_trays : (s.discard page).trays = s.trays := rfl
@[simp] theorem State.discard_ctxs : (s.discard page).ctxs = s.ctxs := rfl
@[simp] theorem State.discard_flags : (s.discard page).flags = s.flags := rfl
@[simp] theorem State.discard_cs : (s.discard page).cs = s.cs := rfl
@[simp] theorem State.discard_csBad : (s.discard page).csBad = s.csBad := rfl
@[simp] theorem State.discard_csSoft : (s.discard page).csSoft = s.csSoft := rfl
@[simp] theorem State.discard_units : (s.discard page).units = s.units := rfl
@[simp] theorem State.discard_upd : (s.discard page).upd = s.upd := rfl
@[simp] theorem State.discard_pios : (s.discard page).pios = s.pios := rfl
@[simp] theorem State.discard_syncAt : (s.discard page).syncAt = s.syncAt := rfl
@[simp] theorem State.discard_ports : (s.discard page).ports = s.ports := rfl
@[simp] theorem State.discard_ens : (s.discard page).ens = s.ens := rfl
@[simp] theorem State.discard_enps : (s.discard page).enps = s.enps := rfl
@[simp] theorem State.discard_fns : (s.discard page).fns = s.fns := rfl
@[simp] theorem State.discard_link : (s.discard page).link = s.link := rfl
@[simp] theorem State.discard_srcs : (s.discard page).srcs = s.srcs := rfl
@[simp] theorem State.discard_vecs : (s.discard page).vecs = s.vecs := rfl
@[simp] theorem State.discard_coreStacks : (s.discard page).coreStacks = s.coreStacks := rfl
@[simp] theorem State.discard_chans : (s.discard page).chans = s.chans := rfl
@[simp] theorem State.discard_pwr : (s.discard page).pwr = s.pwr := rfl
@[simp] theorem State.discard_boot : (s.discard page).boot = s.boot := rfl
@[simp] theorem State.discard_rel : (s.discard page).rel = s.rel := rfl
@[simp] theorem State.discard_turns : (s.discard page).turns = s.turns := rfl
end discard

section send
variable (o : Out)
@[simp] theorem State.send_pending : (s.send o).pending = s.pending := rfl
@[simp] theorem State.send_fresh : (s.send o).fresh = s.fresh := rfl
@[simp] theorem State.send_tick : (s.send o).tick = s.tick := rfl
@[simp] theorem State.send_regs : (s.send o).regs = s.regs := rfl
@[simp] theorem State.send_shadow : (s.send o).shadow = s.shadow := rfl
@[simp] theorem State.send_mem : (s.send o).mem = s.mem := rfl
@[simp] theorem State.send_eccBad : (s.send o).eccBad = s.eccBad := rfl
@[simp] theorem State.send_eccSoft : (s.send o).eccSoft = s.eccSoft := rfl
@[simp] theorem State.send_tb : (s.send o).tb = s.tb := rfl
@[simp] theorem State.send_pages : (s.send o).pages = s.pages := rfl
@[simp] theorem State.send_groups : (s.send o).groups = s.groups := rfl
@[simp] theorem State.send_hs : (s.send o).hs = s.hs := rfl
@[simp] theorem State.send_cuffs : (s.send o).cuffs = s.cuffs := rfl
@[simp] theorem State.send_sleeves : (s.send o).sleeves = s.sleeves := rfl
@[simp] theorem State.send_pairs : (s.send o).pairs = s.pairs := rfl
@[simp] theorem State.send_voters : (s.send o).voters = s.voters := rfl
@[simp] theorem State.send_queues : (s.send o).queues = s.queues := rfl
@[simp] theorem State.send_refs : (s.send o).refs = s.refs := rfl
@[simp] theorem State.send_seams : (s.send o).seams = s.seams := rfl
@[simp] theorem State.send_fifos : (s.send o).fifos = s.fifos := rfl
@[simp] theorem State.send_votes : (s.send o).votes = s.votes := rfl
@[simp] theorem State.send_lanes : (s.send o).lanes = s.lanes := rfl
@[simp] theorem State.send_quota : (s.send o).quota = s.quota := rfl
@[simp] theorem State.send_used : (s.send o).used = s.used := rfl
@[simp] theorem State.send_trays : (s.send o).trays = s.trays := rfl
@[simp] theorem State.send_ctxs : (s.send o).ctxs = s.ctxs := rfl
@[simp] theorem State.send_flags : (s.send o).flags = s.flags := rfl
@[simp] theorem State.send_cs : (s.send o).cs = s.cs := rfl
@[simp] theorem State.send_csBad : (s.send o).csBad = s.csBad := rfl
@[simp] theorem State.send_csSoft : (s.send o).csSoft = s.csSoft := rfl
@[simp] theorem State.send_units : (s.send o).units = s.units := rfl
@[simp] theorem State.send_upd : (s.send o).upd = s.upd := rfl
@[simp] theorem State.send_pios : (s.send o).pios = s.pios := rfl
@[simp] theorem State.send_syncAt : (s.send o).syncAt = s.syncAt := rfl
@[simp] theorem State.send_ports : (s.send o).ports = s.ports := rfl
@[simp] theorem State.send_ens : (s.send o).ens = s.ens := rfl
@[simp] theorem State.send_enps : (s.send o).enps = s.enps := rfl
@[simp] theorem State.send_fns : (s.send o).fns = s.fns := rfl
@[simp] theorem State.send_link : (s.send o).link = s.link := rfl
@[simp] theorem State.send_srcs : (s.send o).srcs = s.srcs := rfl
@[simp] theorem State.send_vecs : (s.send o).vecs = s.vecs := rfl
@[simp] theorem State.send_coreStacks : (s.send o).coreStacks = s.coreStacks := rfl
@[simp] theorem State.send_chans : (s.send o).chans = s.chans := rfl
@[simp] theorem State.send_pwr : (s.send o).pwr = s.pwr := rfl
@[simp] theorem State.send_boot : (s.send o).boot = s.boot := rfl
@[simp] theorem State.send_rel : (s.send o).rel = s.rel := rfl
@[simp] theorem State.send_turns : (s.send o).turns = s.turns := rfl
end send

section nextFresh
@[simp] theorem State.nextFresh_pending : (s.nextFresh ).pending = s.pending := rfl
@[simp] theorem State.nextFresh_out : (s.nextFresh ).out = s.out := rfl
@[simp] theorem State.nextFresh_tick : (s.nextFresh ).tick = s.tick := rfl
@[simp] theorem State.nextFresh_regs : (s.nextFresh ).regs = s.regs := rfl
@[simp] theorem State.nextFresh_shadow : (s.nextFresh ).shadow = s.shadow := rfl
@[simp] theorem State.nextFresh_mem : (s.nextFresh ).mem = s.mem := rfl
@[simp] theorem State.nextFresh_eccBad : (s.nextFresh ).eccBad = s.eccBad := rfl
@[simp] theorem State.nextFresh_eccSoft : (s.nextFresh ).eccSoft = s.eccSoft := rfl
@[simp] theorem State.nextFresh_tb : (s.nextFresh ).tb = s.tb := rfl
@[simp] theorem State.nextFresh_pages : (s.nextFresh ).pages = s.pages := rfl
@[simp] theorem State.nextFresh_groups : (s.nextFresh ).groups = s.groups := rfl
@[simp] theorem State.nextFresh_hs : (s.nextFresh ).hs = s.hs := rfl
@[simp] theorem State.nextFresh_cuffs : (s.nextFresh ).cuffs = s.cuffs := rfl
@[simp] theorem State.nextFresh_sleeves : (s.nextFresh ).sleeves = s.sleeves := rfl
@[simp] theorem State.nextFresh_pairs : (s.nextFresh ).pairs = s.pairs := rfl
@[simp] theorem State.nextFresh_voters : (s.nextFresh ).voters = s.voters := rfl
@[simp] theorem State.nextFresh_queues : (s.nextFresh ).queues = s.queues := rfl
@[simp] theorem State.nextFresh_refs : (s.nextFresh ).refs = s.refs := rfl
@[simp] theorem State.nextFresh_seams : (s.nextFresh ).seams = s.seams := rfl
@[simp] theorem State.nextFresh_fifos : (s.nextFresh ).fifos = s.fifos := rfl
@[simp] theorem State.nextFresh_votes : (s.nextFresh ).votes = s.votes := rfl
@[simp] theorem State.nextFresh_lanes : (s.nextFresh ).lanes = s.lanes := rfl
@[simp] theorem State.nextFresh_quota : (s.nextFresh ).quota = s.quota := rfl
@[simp] theorem State.nextFresh_used : (s.nextFresh ).used = s.used := rfl
@[simp] theorem State.nextFresh_trays : (s.nextFresh ).trays = s.trays := rfl
@[simp] theorem State.nextFresh_ctxs : (s.nextFresh ).ctxs = s.ctxs := rfl
@[simp] theorem State.nextFresh_flags : (s.nextFresh ).flags = s.flags := rfl
@[simp] theorem State.nextFresh_cs : (s.nextFresh ).cs = s.cs := rfl
@[simp] theorem State.nextFresh_csBad : (s.nextFresh ).csBad = s.csBad := rfl
@[simp] theorem State.nextFresh_csSoft : (s.nextFresh ).csSoft = s.csSoft := rfl
@[simp] theorem State.nextFresh_units : (s.nextFresh ).units = s.units := rfl
@[simp] theorem State.nextFresh_upd : (s.nextFresh ).upd = s.upd := rfl
@[simp] theorem State.nextFresh_pios : (s.nextFresh ).pios = s.pios := rfl
@[simp] theorem State.nextFresh_syncAt : (s.nextFresh ).syncAt = s.syncAt := rfl
@[simp] theorem State.nextFresh_ports : (s.nextFresh ).ports = s.ports := rfl
@[simp] theorem State.nextFresh_ens : (s.nextFresh ).ens = s.ens := rfl
@[simp] theorem State.nextFresh_enps : (s.nextFresh ).enps = s.enps := rfl
@[simp] theorem State.nextFresh_fns : (s.nextFresh ).fns = s.fns := rfl
@[simp] theorem State.nextFresh_link : (s.nextFresh ).link = s.link := rfl
@[simp] theorem State.nextFresh_srcs : (s.nextFresh ).srcs = s.srcs := rfl
@[simp] theorem State.nextFresh_vecs : (s.nextFresh ).vecs = s.vecs := rfl
@[simp] theorem State.nextFresh_coreStacks : (s.nextFresh ).coreStacks = s.coreStacks := rfl
@[simp] theorem State.nextFresh_chans : (s.nextFresh ).chans = s.chans := rfl
@[simp] theorem State.nextFresh_pwr : (s.nextFresh ).pwr = s.pwr := rfl
@[simp] theorem State.nextFresh_boot : (s.nextFresh ).boot = s.boot := rfl
@[simp] theorem State.nextFresh_rel : (s.nextFresh ).rel = s.rel := rfl
@[simp] theorem State.nextFresh_turns : (s.nextFresh ).turns = s.turns := rfl
end nextFresh

section setPage
variable (p : Nat) (v : Page)
@[simp] theorem State.setPage_pending : (s.setPage p v).pending = s.pending := rfl
@[simp] theorem State.setPage_out : (s.setPage p v).out = s.out := rfl
@[simp] theorem State.setPage_fresh : (s.setPage p v).fresh = s.fresh := rfl
@[simp] theorem State.setPage_tick : (s.setPage p v).tick = s.tick := rfl
@[simp] theorem State.setPage_regs : (s.setPage p v).regs = s.regs := rfl
@[simp] theorem State.setPage_shadow : (s.setPage p v).shadow = s.shadow := rfl
@[simp] theorem State.setPage_mem : (s.setPage p v).mem = s.mem := rfl
@[simp] theorem State.setPage_eccBad : (s.setPage p v).eccBad = s.eccBad := rfl
@[simp] theorem State.setPage_eccSoft : (s.setPage p v).eccSoft = s.eccSoft := rfl
@[simp] theorem State.setPage_tb : (s.setPage p v).tb = s.tb := rfl
@[simp] theorem State.setPage_groups : (s.setPage p v).groups = s.groups := rfl
@[simp] theorem State.setPage_hs : (s.setPage p v).hs = s.hs := rfl
@[simp] theorem State.setPage_cuffs : (s.setPage p v).cuffs = s.cuffs := rfl
@[simp] theorem State.setPage_sleeves : (s.setPage p v).sleeves = s.sleeves := rfl
@[simp] theorem State.setPage_pairs : (s.setPage p v).pairs = s.pairs := rfl
@[simp] theorem State.setPage_voters : (s.setPage p v).voters = s.voters := rfl
@[simp] theorem State.setPage_queues : (s.setPage p v).queues = s.queues := rfl
@[simp] theorem State.setPage_refs : (s.setPage p v).refs = s.refs := rfl
@[simp] theorem State.setPage_seams : (s.setPage p v).seams = s.seams := rfl
@[simp] theorem State.setPage_fifos : (s.setPage p v).fifos = s.fifos := rfl
@[simp] theorem State.setPage_votes : (s.setPage p v).votes = s.votes := rfl
@[simp] theorem State.setPage_lanes : (s.setPage p v).lanes = s.lanes := rfl
@[simp] theorem State.setPage_quota : (s.setPage p v).quota = s.quota := rfl
@[simp] theorem State.setPage_used : (s.setPage p v).used = s.used := rfl
@[simp] theorem State.setPage_trays : (s.setPage p v).trays = s.trays := rfl
@[simp] theorem State.setPage_ctxs : (s.setPage p v).ctxs = s.ctxs := rfl
@[simp] theorem State.setPage_flags : (s.setPage p v).flags = s.flags := rfl
@[simp] theorem State.setPage_cs : (s.setPage p v).cs = s.cs := rfl
@[simp] theorem State.setPage_csBad : (s.setPage p v).csBad = s.csBad := rfl
@[simp] theorem State.setPage_csSoft : (s.setPage p v).csSoft = s.csSoft := rfl
@[simp] theorem State.setPage_units : (s.setPage p v).units = s.units := rfl
@[simp] theorem State.setPage_upd : (s.setPage p v).upd = s.upd := rfl
@[simp] theorem State.setPage_pios : (s.setPage p v).pios = s.pios := rfl
@[simp] theorem State.setPage_syncAt : (s.setPage p v).syncAt = s.syncAt := rfl
@[simp] theorem State.setPage_ports : (s.setPage p v).ports = s.ports := rfl
@[simp] theorem State.setPage_ens : (s.setPage p v).ens = s.ens := rfl
@[simp] theorem State.setPage_enps : (s.setPage p v).enps = s.enps := rfl
@[simp] theorem State.setPage_fns : (s.setPage p v).fns = s.fns := rfl
@[simp] theorem State.setPage_link : (s.setPage p v).link = s.link := rfl
@[simp] theorem State.setPage_srcs : (s.setPage p v).srcs = s.srcs := rfl
@[simp] theorem State.setPage_vecs : (s.setPage p v).vecs = s.vecs := rfl
@[simp] theorem State.setPage_coreStacks : (s.setPage p v).coreStacks = s.coreStacks := rfl
@[simp] theorem State.setPage_chans : (s.setPage p v).chans = s.chans := rfl
@[simp] theorem State.setPage_pwr : (s.setPage p v).pwr = s.pwr := rfl
@[simp] theorem State.setPage_boot : (s.setPage p v).boot = s.boot := rfl
@[simp] theorem State.setPage_rel : (s.setPage p v).rel = s.rel := rfl
@[simp] theorem State.setPage_turns : (s.setPage p v).turns = s.turns := rfl
end setPage

section setGroup
variable (g : Nat) (v : Group)
@[simp] theorem State.setGroup_pending : (s.setGroup g v).pending = s.pending := rfl
@[simp] theorem State.setGroup_out : (s.setGroup g v).out = s.out := rfl
@[simp] theorem State.setGroup_fresh : (s.setGroup g v).fresh = s.fresh := rfl
@[simp] theorem State.setGroup_tick : (s.setGroup g v).tick = s.tick := rfl
@[simp] theorem State.setGroup_regs : (s.setGroup g v).regs = s.regs := rfl
@[simp] theorem State.setGroup_shadow : (s.setGroup g v).shadow = s.shadow := rfl
@[simp] theorem State.setGroup_mem : (s.setGroup g v).mem = s.mem := rfl
@[simp] theorem State.setGroup_eccBad : (s.setGroup g v).eccBad = s.eccBad := rfl
@[simp] theorem State.setGroup_eccSoft : (s.setGroup g v).eccSoft = s.eccSoft := rfl
@[simp] theorem State.setGroup_tb : (s.setGroup g v).tb = s.tb := rfl
@[simp] theorem State.setGroup_pages : (s.setGroup g v).pages = s.pages := rfl
@[simp] theorem State.setGroup_hs : (s.setGroup g v).hs = s.hs := rfl
@[simp] theorem State.setGroup_cuffs : (s.setGroup g v).cuffs = s.cuffs := rfl
@[simp] theorem State.setGroup_sleeves : (s.setGroup g v).sleeves = s.sleeves := rfl
@[simp] theorem State.setGroup_pairs : (s.setGroup g v).pairs = s.pairs := rfl
@[simp] theorem State.setGroup_voters : (s.setGroup g v).voters = s.voters := rfl
@[simp] theorem State.setGroup_queues : (s.setGroup g v).queues = s.queues := rfl
@[simp] theorem State.setGroup_refs : (s.setGroup g v).refs = s.refs := rfl
@[simp] theorem State.setGroup_seams : (s.setGroup g v).seams = s.seams := rfl
@[simp] theorem State.setGroup_fifos : (s.setGroup g v).fifos = s.fifos := rfl
@[simp] theorem State.setGroup_votes : (s.setGroup g v).votes = s.votes := rfl
@[simp] theorem State.setGroup_lanes : (s.setGroup g v).lanes = s.lanes := rfl
@[simp] theorem State.setGroup_quota : (s.setGroup g v).quota = s.quota := rfl
@[simp] theorem State.setGroup_used : (s.setGroup g v).used = s.used := rfl
@[simp] theorem State.setGroup_trays : (s.setGroup g v).trays = s.trays := rfl
@[simp] theorem State.setGroup_ctxs : (s.setGroup g v).ctxs = s.ctxs := rfl
@[simp] theorem State.setGroup_flags : (s.setGroup g v).flags = s.flags := rfl
@[simp] theorem State.setGroup_cs : (s.setGroup g v).cs = s.cs := rfl
@[simp] theorem State.setGroup_csBad : (s.setGroup g v).csBad = s.csBad := rfl
@[simp] theorem State.setGroup_csSoft : (s.setGroup g v).csSoft = s.csSoft := rfl
@[simp] theorem State.setGroup_units : (s.setGroup g v).units = s.units := rfl
@[simp] theorem State.setGroup_upd : (s.setGroup g v).upd = s.upd := rfl
@[simp] theorem State.setGroup_pios : (s.setGroup g v).pios = s.pios := rfl
@[simp] theorem State.setGroup_syncAt : (s.setGroup g v).syncAt = s.syncAt := rfl
@[simp] theorem State.setGroup_ports : (s.setGroup g v).ports = s.ports := rfl
@[simp] theorem State.setGroup_ens : (s.setGroup g v).ens = s.ens := rfl
@[simp] theorem State.setGroup_enps : (s.setGroup g v).enps = s.enps := rfl
@[simp] theorem State.setGroup_fns : (s.setGroup g v).fns = s.fns := rfl
@[simp] theorem State.setGroup_link : (s.setGroup g v).link = s.link := rfl
@[simp] theorem State.setGroup_srcs : (s.setGroup g v).srcs = s.srcs := rfl
@[simp] theorem State.setGroup_vecs : (s.setGroup g v).vecs = s.vecs := rfl
@[simp] theorem State.setGroup_coreStacks : (s.setGroup g v).coreStacks = s.coreStacks := rfl
@[simp] theorem State.setGroup_chans : (s.setGroup g v).chans = s.chans := rfl
@[simp] theorem State.setGroup_pwr : (s.setGroup g v).pwr = s.pwr := rfl
@[simp] theorem State.setGroup_boot : (s.setGroup g v).boot = s.boot := rfl
@[simp] theorem State.setGroup_rel : (s.setGroup g v).rel = s.rel := rfl
@[simp] theorem State.setGroup_turns : (s.setGroup g v).turns = s.turns := rfl
end setGroup

section setCuff
variable (c : Nat) (v : Cuff)
@[simp] theorem State.setCuff_pending : (s.setCuff c v).pending = s.pending := rfl
@[simp] theorem State.setCuff_out : (s.setCuff c v).out = s.out := rfl
@[simp] theorem State.setCuff_fresh : (s.setCuff c v).fresh = s.fresh := rfl
@[simp] theorem State.setCuff_tick : (s.setCuff c v).tick = s.tick := rfl
@[simp] theorem State.setCuff_regs : (s.setCuff c v).regs = s.regs := rfl
@[simp] theorem State.setCuff_shadow : (s.setCuff c v).shadow = s.shadow := rfl
@[simp] theorem State.setCuff_mem : (s.setCuff c v).mem = s.mem := rfl
@[simp] theorem State.setCuff_eccBad : (s.setCuff c v).eccBad = s.eccBad := rfl
@[simp] theorem State.setCuff_eccSoft : (s.setCuff c v).eccSoft = s.eccSoft := rfl
@[simp] theorem State.setCuff_tb : (s.setCuff c v).tb = s.tb := rfl
@[simp] theorem State.setCuff_pages : (s.setCuff c v).pages = s.pages := rfl
@[simp] theorem State.setCuff_groups : (s.setCuff c v).groups = s.groups := rfl
@[simp] theorem State.setCuff_hs : (s.setCuff c v).hs = s.hs := rfl
@[simp] theorem State.setCuff_sleeves : (s.setCuff c v).sleeves = s.sleeves := rfl
@[simp] theorem State.setCuff_pairs : (s.setCuff c v).pairs = s.pairs := rfl
@[simp] theorem State.setCuff_voters : (s.setCuff c v).voters = s.voters := rfl
@[simp] theorem State.setCuff_queues : (s.setCuff c v).queues = s.queues := rfl
@[simp] theorem State.setCuff_refs : (s.setCuff c v).refs = s.refs := rfl
@[simp] theorem State.setCuff_seams : (s.setCuff c v).seams = s.seams := rfl
@[simp] theorem State.setCuff_fifos : (s.setCuff c v).fifos = s.fifos := rfl
@[simp] theorem State.setCuff_votes : (s.setCuff c v).votes = s.votes := rfl
@[simp] theorem State.setCuff_lanes : (s.setCuff c v).lanes = s.lanes := rfl
@[simp] theorem State.setCuff_quota : (s.setCuff c v).quota = s.quota := rfl
@[simp] theorem State.setCuff_used : (s.setCuff c v).used = s.used := rfl
@[simp] theorem State.setCuff_trays : (s.setCuff c v).trays = s.trays := rfl
@[simp] theorem State.setCuff_ctxs : (s.setCuff c v).ctxs = s.ctxs := rfl
@[simp] theorem State.setCuff_flags : (s.setCuff c v).flags = s.flags := rfl
@[simp] theorem State.setCuff_cs : (s.setCuff c v).cs = s.cs := rfl
@[simp] theorem State.setCuff_csBad : (s.setCuff c v).csBad = s.csBad := rfl
@[simp] theorem State.setCuff_csSoft : (s.setCuff c v).csSoft = s.csSoft := rfl
@[simp] theorem State.setCuff_units : (s.setCuff c v).units = s.units := rfl
@[simp] theorem State.setCuff_upd : (s.setCuff c v).upd = s.upd := rfl
@[simp] theorem State.setCuff_pios : (s.setCuff c v).pios = s.pios := rfl
@[simp] theorem State.setCuff_syncAt : (s.setCuff c v).syncAt = s.syncAt := rfl
@[simp] theorem State.setCuff_ports : (s.setCuff c v).ports = s.ports := rfl
@[simp] theorem State.setCuff_ens : (s.setCuff c v).ens = s.ens := rfl
@[simp] theorem State.setCuff_enps : (s.setCuff c v).enps = s.enps := rfl
@[simp] theorem State.setCuff_fns : (s.setCuff c v).fns = s.fns := rfl
@[simp] theorem State.setCuff_link : (s.setCuff c v).link = s.link := rfl
@[simp] theorem State.setCuff_srcs : (s.setCuff c v).srcs = s.srcs := rfl
@[simp] theorem State.setCuff_vecs : (s.setCuff c v).vecs = s.vecs := rfl
@[simp] theorem State.setCuff_coreStacks : (s.setCuff c v).coreStacks = s.coreStacks := rfl
@[simp] theorem State.setCuff_chans : (s.setCuff c v).chans = s.chans := rfl
@[simp] theorem State.setCuff_pwr : (s.setCuff c v).pwr = s.pwr := rfl
@[simp] theorem State.setCuff_boot : (s.setCuff c v).boot = s.boot := rfl
@[simp] theorem State.setCuff_rel : (s.setCuff c v).rel = s.rel := rfl
@[simp] theorem State.setCuff_turns : (s.setCuff c v).turns = s.turns := rfl
end setCuff

section setSleeve
variable (n : Nat) (v : Sleeve)
@[simp] theorem State.setSleeve_pending : (s.setSleeve n v).pending = s.pending := rfl
@[simp] theorem State.setSleeve_out : (s.setSleeve n v).out = s.out := rfl
@[simp] theorem State.setSleeve_fresh : (s.setSleeve n v).fresh = s.fresh := rfl
@[simp] theorem State.setSleeve_tick : (s.setSleeve n v).tick = s.tick := rfl
@[simp] theorem State.setSleeve_regs : (s.setSleeve n v).regs = s.regs := rfl
@[simp] theorem State.setSleeve_shadow : (s.setSleeve n v).shadow = s.shadow := rfl
@[simp] theorem State.setSleeve_mem : (s.setSleeve n v).mem = s.mem := rfl
@[simp] theorem State.setSleeve_eccBad : (s.setSleeve n v).eccBad = s.eccBad := rfl
@[simp] theorem State.setSleeve_eccSoft : (s.setSleeve n v).eccSoft = s.eccSoft := rfl
@[simp] theorem State.setSleeve_tb : (s.setSleeve n v).tb = s.tb := rfl
@[simp] theorem State.setSleeve_pages : (s.setSleeve n v).pages = s.pages := rfl
@[simp] theorem State.setSleeve_groups : (s.setSleeve n v).groups = s.groups := rfl
@[simp] theorem State.setSleeve_hs : (s.setSleeve n v).hs = s.hs := rfl
@[simp] theorem State.setSleeve_cuffs : (s.setSleeve n v).cuffs = s.cuffs := rfl
@[simp] theorem State.setSleeve_pairs : (s.setSleeve n v).pairs = s.pairs := rfl
@[simp] theorem State.setSleeve_voters : (s.setSleeve n v).voters = s.voters := rfl
@[simp] theorem State.setSleeve_queues : (s.setSleeve n v).queues = s.queues := rfl
@[simp] theorem State.setSleeve_refs : (s.setSleeve n v).refs = s.refs := rfl
@[simp] theorem State.setSleeve_seams : (s.setSleeve n v).seams = s.seams := rfl
@[simp] theorem State.setSleeve_fifos : (s.setSleeve n v).fifos = s.fifos := rfl
@[simp] theorem State.setSleeve_votes : (s.setSleeve n v).votes = s.votes := rfl
@[simp] theorem State.setSleeve_lanes : (s.setSleeve n v).lanes = s.lanes := rfl
@[simp] theorem State.setSleeve_quota : (s.setSleeve n v).quota = s.quota := rfl
@[simp] theorem State.setSleeve_used : (s.setSleeve n v).used = s.used := rfl
@[simp] theorem State.setSleeve_trays : (s.setSleeve n v).trays = s.trays := rfl
@[simp] theorem State.setSleeve_ctxs : (s.setSleeve n v).ctxs = s.ctxs := rfl
@[simp] theorem State.setSleeve_flags : (s.setSleeve n v).flags = s.flags := rfl
@[simp] theorem State.setSleeve_cs : (s.setSleeve n v).cs = s.cs := rfl
@[simp] theorem State.setSleeve_csBad : (s.setSleeve n v).csBad = s.csBad := rfl
@[simp] theorem State.setSleeve_csSoft : (s.setSleeve n v).csSoft = s.csSoft := rfl
@[simp] theorem State.setSleeve_units : (s.setSleeve n v).units = s.units := rfl
@[simp] theorem State.setSleeve_upd : (s.setSleeve n v).upd = s.upd := rfl
@[simp] theorem State.setSleeve_pios : (s.setSleeve n v).pios = s.pios := rfl
@[simp] theorem State.setSleeve_syncAt : (s.setSleeve n v).syncAt = s.syncAt := rfl
@[simp] theorem State.setSleeve_ports : (s.setSleeve n v).ports = s.ports := rfl
@[simp] theorem State.setSleeve_ens : (s.setSleeve n v).ens = s.ens := rfl
@[simp] theorem State.setSleeve_enps : (s.setSleeve n v).enps = s.enps := rfl
@[simp] theorem State.setSleeve_fns : (s.setSleeve n v).fns = s.fns := rfl
@[simp] theorem State.setSleeve_link : (s.setSleeve n v).link = s.link := rfl
@[simp] theorem State.setSleeve_srcs : (s.setSleeve n v).srcs = s.srcs := rfl
@[simp] theorem State.setSleeve_vecs : (s.setSleeve n v).vecs = s.vecs := rfl
@[simp] theorem State.setSleeve_coreStacks : (s.setSleeve n v).coreStacks = s.coreStacks := rfl
@[simp] theorem State.setSleeve_chans : (s.setSleeve n v).chans = s.chans := rfl
@[simp] theorem State.setSleeve_pwr : (s.setSleeve n v).pwr = s.pwr := rfl
@[simp] theorem State.setSleeve_boot : (s.setSleeve n v).boot = s.boot := rfl
@[simp] theorem State.setSleeve_rel : (s.setSleeve n v).rel = s.rel := rfl
@[simp] theorem State.setSleeve_turns : (s.setSleeve n v).turns = s.turns := rfl
end setSleeve

section setPairSt
variable (p : Nat) (v : Pair)
@[simp] theorem State.setPairSt_pending : (s.setPairSt p v).pending = s.pending := rfl
@[simp] theorem State.setPairSt_out : (s.setPairSt p v).out = s.out := rfl
@[simp] theorem State.setPairSt_fresh : (s.setPairSt p v).fresh = s.fresh := rfl
@[simp] theorem State.setPairSt_tick : (s.setPairSt p v).tick = s.tick := rfl
@[simp] theorem State.setPairSt_regs : (s.setPairSt p v).regs = s.regs := rfl
@[simp] theorem State.setPairSt_shadow : (s.setPairSt p v).shadow = s.shadow := rfl
@[simp] theorem State.setPairSt_mem : (s.setPairSt p v).mem = s.mem := rfl
@[simp] theorem State.setPairSt_eccBad : (s.setPairSt p v).eccBad = s.eccBad := rfl
@[simp] theorem State.setPairSt_eccSoft : (s.setPairSt p v).eccSoft = s.eccSoft := rfl
@[simp] theorem State.setPairSt_tb : (s.setPairSt p v).tb = s.tb := rfl
@[simp] theorem State.setPairSt_pages : (s.setPairSt p v).pages = s.pages := rfl
@[simp] theorem State.setPairSt_groups : (s.setPairSt p v).groups = s.groups := rfl
@[simp] theorem State.setPairSt_hs : (s.setPairSt p v).hs = s.hs := rfl
@[simp] theorem State.setPairSt_cuffs : (s.setPairSt p v).cuffs = s.cuffs := rfl
@[simp] theorem State.setPairSt_sleeves : (s.setPairSt p v).sleeves = s.sleeves := rfl
@[simp] theorem State.setPairSt_voters : (s.setPairSt p v).voters = s.voters := rfl
@[simp] theorem State.setPairSt_queues : (s.setPairSt p v).queues = s.queues := rfl
@[simp] theorem State.setPairSt_refs : (s.setPairSt p v).refs = s.refs := rfl
@[simp] theorem State.setPairSt_seams : (s.setPairSt p v).seams = s.seams := rfl
@[simp] theorem State.setPairSt_fifos : (s.setPairSt p v).fifos = s.fifos := rfl
@[simp] theorem State.setPairSt_votes : (s.setPairSt p v).votes = s.votes := rfl
@[simp] theorem State.setPairSt_lanes : (s.setPairSt p v).lanes = s.lanes := rfl
@[simp] theorem State.setPairSt_quota : (s.setPairSt p v).quota = s.quota := rfl
@[simp] theorem State.setPairSt_used : (s.setPairSt p v).used = s.used := rfl
@[simp] theorem State.setPairSt_trays : (s.setPairSt p v).trays = s.trays := rfl
@[simp] theorem State.setPairSt_ctxs : (s.setPairSt p v).ctxs = s.ctxs := rfl
@[simp] theorem State.setPairSt_flags : (s.setPairSt p v).flags = s.flags := rfl
@[simp] theorem State.setPairSt_cs : (s.setPairSt p v).cs = s.cs := rfl
@[simp] theorem State.setPairSt_csBad : (s.setPairSt p v).csBad = s.csBad := rfl
@[simp] theorem State.setPairSt_csSoft : (s.setPairSt p v).csSoft = s.csSoft := rfl
@[simp] theorem State.setPairSt_units : (s.setPairSt p v).units = s.units := rfl
@[simp] theorem State.setPairSt_upd : (s.setPairSt p v).upd = s.upd := rfl
@[simp] theorem State.setPairSt_pios : (s.setPairSt p v).pios = s.pios := rfl
@[simp] theorem State.setPairSt_syncAt : (s.setPairSt p v).syncAt = s.syncAt := rfl
@[simp] theorem State.setPairSt_ports : (s.setPairSt p v).ports = s.ports := rfl
@[simp] theorem State.setPairSt_ens : (s.setPairSt p v).ens = s.ens := rfl
@[simp] theorem State.setPairSt_enps : (s.setPairSt p v).enps = s.enps := rfl
@[simp] theorem State.setPairSt_fns : (s.setPairSt p v).fns = s.fns := rfl
@[simp] theorem State.setPairSt_link : (s.setPairSt p v).link = s.link := rfl
@[simp] theorem State.setPairSt_srcs : (s.setPairSt p v).srcs = s.srcs := rfl
@[simp] theorem State.setPairSt_vecs : (s.setPairSt p v).vecs = s.vecs := rfl
@[simp] theorem State.setPairSt_coreStacks : (s.setPairSt p v).coreStacks = s.coreStacks := rfl
@[simp] theorem State.setPairSt_chans : (s.setPairSt p v).chans = s.chans := rfl
@[simp] theorem State.setPairSt_pwr : (s.setPairSt p v).pwr = s.pwr := rfl
@[simp] theorem State.setPairSt_boot : (s.setPairSt p v).boot = s.boot := rfl
@[simp] theorem State.setPairSt_rel : (s.setPairSt p v).rel = s.rel := rfl
@[simp] theorem State.setPairSt_turns : (s.setPairSt p v).turns = s.turns := rfl
end setPairSt

section setVoter
variable (k : Nat) (v : Voter)
@[simp] theorem State.setVoter_pending : (s.setVoter k v).pending = s.pending := rfl
@[simp] theorem State.setVoter_out : (s.setVoter k v).out = s.out := rfl
@[simp] theorem State.setVoter_fresh : (s.setVoter k v).fresh = s.fresh := rfl
@[simp] theorem State.setVoter_tick : (s.setVoter k v).tick = s.tick := rfl
@[simp] theorem State.setVoter_regs : (s.setVoter k v).regs = s.regs := rfl
@[simp] theorem State.setVoter_shadow : (s.setVoter k v).shadow = s.shadow := rfl
@[simp] theorem State.setVoter_mem : (s.setVoter k v).mem = s.mem := rfl
@[simp] theorem State.setVoter_eccBad : (s.setVoter k v).eccBad = s.eccBad := rfl
@[simp] theorem State.setVoter_eccSoft : (s.setVoter k v).eccSoft = s.eccSoft := rfl
@[simp] theorem State.setVoter_tb : (s.setVoter k v).tb = s.tb := rfl
@[simp] theorem State.setVoter_pages : (s.setVoter k v).pages = s.pages := rfl
@[simp] theorem State.setVoter_groups : (s.setVoter k v).groups = s.groups := rfl
@[simp] theorem State.setVoter_hs : (s.setVoter k v).hs = s.hs := rfl
@[simp] theorem State.setVoter_cuffs : (s.setVoter k v).cuffs = s.cuffs := rfl
@[simp] theorem State.setVoter_sleeves : (s.setVoter k v).sleeves = s.sleeves := rfl
@[simp] theorem State.setVoter_pairs : (s.setVoter k v).pairs = s.pairs := rfl
@[simp] theorem State.setVoter_queues : (s.setVoter k v).queues = s.queues := rfl
@[simp] theorem State.setVoter_refs : (s.setVoter k v).refs = s.refs := rfl
@[simp] theorem State.setVoter_seams : (s.setVoter k v).seams = s.seams := rfl
@[simp] theorem State.setVoter_fifos : (s.setVoter k v).fifos = s.fifos := rfl
@[simp] theorem State.setVoter_votes : (s.setVoter k v).votes = s.votes := rfl
@[simp] theorem State.setVoter_lanes : (s.setVoter k v).lanes = s.lanes := rfl
@[simp] theorem State.setVoter_quota : (s.setVoter k v).quota = s.quota := rfl
@[simp] theorem State.setVoter_used : (s.setVoter k v).used = s.used := rfl
@[simp] theorem State.setVoter_trays : (s.setVoter k v).trays = s.trays := rfl
@[simp] theorem State.setVoter_ctxs : (s.setVoter k v).ctxs = s.ctxs := rfl
@[simp] theorem State.setVoter_flags : (s.setVoter k v).flags = s.flags := rfl
@[simp] theorem State.setVoter_cs : (s.setVoter k v).cs = s.cs := rfl
@[simp] theorem State.setVoter_csBad : (s.setVoter k v).csBad = s.csBad := rfl
@[simp] theorem State.setVoter_csSoft : (s.setVoter k v).csSoft = s.csSoft := rfl
@[simp] theorem State.setVoter_units : (s.setVoter k v).units = s.units := rfl
@[simp] theorem State.setVoter_upd : (s.setVoter k v).upd = s.upd := rfl
@[simp] theorem State.setVoter_pios : (s.setVoter k v).pios = s.pios := rfl
@[simp] theorem State.setVoter_syncAt : (s.setVoter k v).syncAt = s.syncAt := rfl
@[simp] theorem State.setVoter_ports : (s.setVoter k v).ports = s.ports := rfl
@[simp] theorem State.setVoter_ens : (s.setVoter k v).ens = s.ens := rfl
@[simp] theorem State.setVoter_enps : (s.setVoter k v).enps = s.enps := rfl
@[simp] theorem State.setVoter_fns : (s.setVoter k v).fns = s.fns := rfl
@[simp] theorem State.setVoter_link : (s.setVoter k v).link = s.link := rfl
@[simp] theorem State.setVoter_srcs : (s.setVoter k v).srcs = s.srcs := rfl
@[simp] theorem State.setVoter_vecs : (s.setVoter k v).vecs = s.vecs := rfl
@[simp] theorem State.setVoter_coreStacks : (s.setVoter k v).coreStacks = s.coreStacks := rfl
@[simp] theorem State.setVoter_chans : (s.setVoter k v).chans = s.chans := rfl
@[simp] theorem State.setVoter_pwr : (s.setVoter k v).pwr = s.pwr := rfl
@[simp] theorem State.setVoter_boot : (s.setVoter k v).boot = s.boot := rfl
@[simp] theorem State.setVoter_rel : (s.setVoter k v).rel = s.rel := rfl
@[simp] theorem State.setVoter_turns : (s.setVoter k v).turns = s.turns := rfl
end setVoter

section setQueue
variable (q : Nat) (v : Queue)
@[simp] theorem State.setQueue_pending : (s.setQueue q v).pending = s.pending := rfl
@[simp] theorem State.setQueue_out : (s.setQueue q v).out = s.out := rfl
@[simp] theorem State.setQueue_fresh : (s.setQueue q v).fresh = s.fresh := rfl
@[simp] theorem State.setQueue_tick : (s.setQueue q v).tick = s.tick := rfl
@[simp] theorem State.setQueue_regs : (s.setQueue q v).regs = s.regs := rfl
@[simp] theorem State.setQueue_shadow : (s.setQueue q v).shadow = s.shadow := rfl
@[simp] theorem State.setQueue_mem : (s.setQueue q v).mem = s.mem := rfl
@[simp] theorem State.setQueue_eccBad : (s.setQueue q v).eccBad = s.eccBad := rfl
@[simp] theorem State.setQueue_eccSoft : (s.setQueue q v).eccSoft = s.eccSoft := rfl
@[simp] theorem State.setQueue_tb : (s.setQueue q v).tb = s.tb := rfl
@[simp] theorem State.setQueue_pages : (s.setQueue q v).pages = s.pages := rfl
@[simp] theorem State.setQueue_groups : (s.setQueue q v).groups = s.groups := rfl
@[simp] theorem State.setQueue_hs : (s.setQueue q v).hs = s.hs := rfl
@[simp] theorem State.setQueue_cuffs : (s.setQueue q v).cuffs = s.cuffs := rfl
@[simp] theorem State.setQueue_sleeves : (s.setQueue q v).sleeves = s.sleeves := rfl
@[simp] theorem State.setQueue_pairs : (s.setQueue q v).pairs = s.pairs := rfl
@[simp] theorem State.setQueue_voters : (s.setQueue q v).voters = s.voters := rfl
@[simp] theorem State.setQueue_refs : (s.setQueue q v).refs = s.refs := rfl
@[simp] theorem State.setQueue_seams : (s.setQueue q v).seams = s.seams := rfl
@[simp] theorem State.setQueue_fifos : (s.setQueue q v).fifos = s.fifos := rfl
@[simp] theorem State.setQueue_votes : (s.setQueue q v).votes = s.votes := rfl
@[simp] theorem State.setQueue_lanes : (s.setQueue q v).lanes = s.lanes := rfl
@[simp] theorem State.setQueue_quota : (s.setQueue q v).quota = s.quota := rfl
@[simp] theorem State.setQueue_used : (s.setQueue q v).used = s.used := rfl
@[simp] theorem State.setQueue_trays : (s.setQueue q v).trays = s.trays := rfl
@[simp] theorem State.setQueue_ctxs : (s.setQueue q v).ctxs = s.ctxs := rfl
@[simp] theorem State.setQueue_flags : (s.setQueue q v).flags = s.flags := rfl
@[simp] theorem State.setQueue_cs : (s.setQueue q v).cs = s.cs := rfl
@[simp] theorem State.setQueue_csBad : (s.setQueue q v).csBad = s.csBad := rfl
@[simp] theorem State.setQueue_csSoft : (s.setQueue q v).csSoft = s.csSoft := rfl
@[simp] theorem State.setQueue_units : (s.setQueue q v).units = s.units := rfl
@[simp] theorem State.setQueue_upd : (s.setQueue q v).upd = s.upd := rfl
@[simp] theorem State.setQueue_pios : (s.setQueue q v).pios = s.pios := rfl
@[simp] theorem State.setQueue_syncAt : (s.setQueue q v).syncAt = s.syncAt := rfl
@[simp] theorem State.setQueue_ports : (s.setQueue q v).ports = s.ports := rfl
@[simp] theorem State.setQueue_ens : (s.setQueue q v).ens = s.ens := rfl
@[simp] theorem State.setQueue_enps : (s.setQueue q v).enps = s.enps := rfl
@[simp] theorem State.setQueue_fns : (s.setQueue q v).fns = s.fns := rfl
@[simp] theorem State.setQueue_link : (s.setQueue q v).link = s.link := rfl
@[simp] theorem State.setQueue_srcs : (s.setQueue q v).srcs = s.srcs := rfl
@[simp] theorem State.setQueue_vecs : (s.setQueue q v).vecs = s.vecs := rfl
@[simp] theorem State.setQueue_coreStacks : (s.setQueue q v).coreStacks = s.coreStacks := rfl
@[simp] theorem State.setQueue_chans : (s.setQueue q v).chans = s.chans := rfl
@[simp] theorem State.setQueue_pwr : (s.setQueue q v).pwr = s.pwr := rfl
@[simp] theorem State.setQueue_boot : (s.setQueue q v).boot = s.boot := rfl
@[simp] theorem State.setQueue_rel : (s.setQueue q v).rel = s.rel := rfl
@[simp] theorem State.setQueue_turns : (s.setQueue q v).turns = s.turns := rfl
end setQueue

section setSeam
variable (i : Nat) (v : Seam)
@[simp] theorem State.setSeam_pending : (s.setSeam i v).pending = s.pending := rfl
@[simp] theorem State.setSeam_out : (s.setSeam i v).out = s.out := rfl
@[simp] theorem State.setSeam_fresh : (s.setSeam i v).fresh = s.fresh := rfl
@[simp] theorem State.setSeam_tick : (s.setSeam i v).tick = s.tick := rfl
@[simp] theorem State.setSeam_regs : (s.setSeam i v).regs = s.regs := rfl
@[simp] theorem State.setSeam_shadow : (s.setSeam i v).shadow = s.shadow := rfl
@[simp] theorem State.setSeam_mem : (s.setSeam i v).mem = s.mem := rfl
@[simp] theorem State.setSeam_eccBad : (s.setSeam i v).eccBad = s.eccBad := rfl
@[simp] theorem State.setSeam_eccSoft : (s.setSeam i v).eccSoft = s.eccSoft := rfl
@[simp] theorem State.setSeam_tb : (s.setSeam i v).tb = s.tb := rfl
@[simp] theorem State.setSeam_pages : (s.setSeam i v).pages = s.pages := rfl
@[simp] theorem State.setSeam_groups : (s.setSeam i v).groups = s.groups := rfl
@[simp] theorem State.setSeam_hs : (s.setSeam i v).hs = s.hs := rfl
@[simp] theorem State.setSeam_cuffs : (s.setSeam i v).cuffs = s.cuffs := rfl
@[simp] theorem State.setSeam_sleeves : (s.setSeam i v).sleeves = s.sleeves := rfl
@[simp] theorem State.setSeam_pairs : (s.setSeam i v).pairs = s.pairs := rfl
@[simp] theorem State.setSeam_voters : (s.setSeam i v).voters = s.voters := rfl
@[simp] theorem State.setSeam_queues : (s.setSeam i v).queues = s.queues := rfl
@[simp] theorem State.setSeam_refs : (s.setSeam i v).refs = s.refs := rfl
@[simp] theorem State.setSeam_fifos : (s.setSeam i v).fifos = s.fifos := rfl
@[simp] theorem State.setSeam_votes : (s.setSeam i v).votes = s.votes := rfl
@[simp] theorem State.setSeam_lanes : (s.setSeam i v).lanes = s.lanes := rfl
@[simp] theorem State.setSeam_quota : (s.setSeam i v).quota = s.quota := rfl
@[simp] theorem State.setSeam_used : (s.setSeam i v).used = s.used := rfl
@[simp] theorem State.setSeam_trays : (s.setSeam i v).trays = s.trays := rfl
@[simp] theorem State.setSeam_ctxs : (s.setSeam i v).ctxs = s.ctxs := rfl
@[simp] theorem State.setSeam_flags : (s.setSeam i v).flags = s.flags := rfl
@[simp] theorem State.setSeam_cs : (s.setSeam i v).cs = s.cs := rfl
@[simp] theorem State.setSeam_csBad : (s.setSeam i v).csBad = s.csBad := rfl
@[simp] theorem State.setSeam_csSoft : (s.setSeam i v).csSoft = s.csSoft := rfl
@[simp] theorem State.setSeam_units : (s.setSeam i v).units = s.units := rfl
@[simp] theorem State.setSeam_upd : (s.setSeam i v).upd = s.upd := rfl
@[simp] theorem State.setSeam_pios : (s.setSeam i v).pios = s.pios := rfl
@[simp] theorem State.setSeam_syncAt : (s.setSeam i v).syncAt = s.syncAt := rfl
@[simp] theorem State.setSeam_ports : (s.setSeam i v).ports = s.ports := rfl
@[simp] theorem State.setSeam_ens : (s.setSeam i v).ens = s.ens := rfl
@[simp] theorem State.setSeam_enps : (s.setSeam i v).enps = s.enps := rfl
@[simp] theorem State.setSeam_fns : (s.setSeam i v).fns = s.fns := rfl
@[simp] theorem State.setSeam_link : (s.setSeam i v).link = s.link := rfl
@[simp] theorem State.setSeam_srcs : (s.setSeam i v).srcs = s.srcs := rfl
@[simp] theorem State.setSeam_vecs : (s.setSeam i v).vecs = s.vecs := rfl
@[simp] theorem State.setSeam_coreStacks : (s.setSeam i v).coreStacks = s.coreStacks := rfl
@[simp] theorem State.setSeam_chans : (s.setSeam i v).chans = s.chans := rfl
@[simp] theorem State.setSeam_pwr : (s.setSeam i v).pwr = s.pwr := rfl
@[simp] theorem State.setSeam_boot : (s.setSeam i v).boot = s.boot := rfl
@[simp] theorem State.setSeam_rel : (s.setSeam i v).rel = s.rel := rfl
@[simp] theorem State.setSeam_turns : (s.setSeam i v).turns = s.turns := rfl
end setSeam

section setFifo
variable (k : Nat) (v : List Flight)
@[simp] theorem State.setFifo_pending : (s.setFifo k v).pending = s.pending := rfl
@[simp] theorem State.setFifo_out : (s.setFifo k v).out = s.out := rfl
@[simp] theorem State.setFifo_fresh : (s.setFifo k v).fresh = s.fresh := rfl
@[simp] theorem State.setFifo_tick : (s.setFifo k v).tick = s.tick := rfl
@[simp] theorem State.setFifo_regs : (s.setFifo k v).regs = s.regs := rfl
@[simp] theorem State.setFifo_shadow : (s.setFifo k v).shadow = s.shadow := rfl
@[simp] theorem State.setFifo_mem : (s.setFifo k v).mem = s.mem := rfl
@[simp] theorem State.setFifo_eccBad : (s.setFifo k v).eccBad = s.eccBad := rfl
@[simp] theorem State.setFifo_eccSoft : (s.setFifo k v).eccSoft = s.eccSoft := rfl
@[simp] theorem State.setFifo_tb : (s.setFifo k v).tb = s.tb := rfl
@[simp] theorem State.setFifo_pages : (s.setFifo k v).pages = s.pages := rfl
@[simp] theorem State.setFifo_groups : (s.setFifo k v).groups = s.groups := rfl
@[simp] theorem State.setFifo_hs : (s.setFifo k v).hs = s.hs := rfl
@[simp] theorem State.setFifo_cuffs : (s.setFifo k v).cuffs = s.cuffs := rfl
@[simp] theorem State.setFifo_sleeves : (s.setFifo k v).sleeves = s.sleeves := rfl
@[simp] theorem State.setFifo_pairs : (s.setFifo k v).pairs = s.pairs := rfl
@[simp] theorem State.setFifo_voters : (s.setFifo k v).voters = s.voters := rfl
@[simp] theorem State.setFifo_queues : (s.setFifo k v).queues = s.queues := rfl
@[simp] theorem State.setFifo_refs : (s.setFifo k v).refs = s.refs := rfl
@[simp] theorem State.setFifo_seams : (s.setFifo k v).seams = s.seams := rfl
@[simp] theorem State.setFifo_votes : (s.setFifo k v).votes = s.votes := rfl
@[simp] theorem State.setFifo_lanes : (s.setFifo k v).lanes = s.lanes := rfl
@[simp] theorem State.setFifo_quota : (s.setFifo k v).quota = s.quota := rfl
@[simp] theorem State.setFifo_used : (s.setFifo k v).used = s.used := rfl
@[simp] theorem State.setFifo_trays : (s.setFifo k v).trays = s.trays := rfl
@[simp] theorem State.setFifo_ctxs : (s.setFifo k v).ctxs = s.ctxs := rfl
@[simp] theorem State.setFifo_flags : (s.setFifo k v).flags = s.flags := rfl
@[simp] theorem State.setFifo_cs : (s.setFifo k v).cs = s.cs := rfl
@[simp] theorem State.setFifo_csBad : (s.setFifo k v).csBad = s.csBad := rfl
@[simp] theorem State.setFifo_csSoft : (s.setFifo k v).csSoft = s.csSoft := rfl
@[simp] theorem State.setFifo_units : (s.setFifo k v).units = s.units := rfl
@[simp] theorem State.setFifo_upd : (s.setFifo k v).upd = s.upd := rfl
@[simp] theorem State.setFifo_pios : (s.setFifo k v).pios = s.pios := rfl
@[simp] theorem State.setFifo_syncAt : (s.setFifo k v).syncAt = s.syncAt := rfl
@[simp] theorem State.setFifo_ports : (s.setFifo k v).ports = s.ports := rfl
@[simp] theorem State.setFifo_ens : (s.setFifo k v).ens = s.ens := rfl
@[simp] theorem State.setFifo_enps : (s.setFifo k v).enps = s.enps := rfl
@[simp] theorem State.setFifo_fns : (s.setFifo k v).fns = s.fns := rfl
@[simp] theorem State.setFifo_link : (s.setFifo k v).link = s.link := rfl
@[simp] theorem State.setFifo_srcs : (s.setFifo k v).srcs = s.srcs := rfl
@[simp] theorem State.setFifo_vecs : (s.setFifo k v).vecs = s.vecs := rfl
@[simp] theorem State.setFifo_coreStacks : (s.setFifo k v).coreStacks = s.coreStacks := rfl
@[simp] theorem State.setFifo_chans : (s.setFifo k v).chans = s.chans := rfl
@[simp] theorem State.setFifo_pwr : (s.setFifo k v).pwr = s.pwr := rfl
@[simp] theorem State.setFifo_boot : (s.setFifo k v).boot = s.boot := rfl
@[simp] theorem State.setFifo_rel : (s.setFifo k v).rel = s.rel := rfl
@[simp] theorem State.setFifo_turns : (s.setFifo k v).turns = s.turns := rfl
end setFifo

section setTray
variable (t : Nat) (v : Tray)
@[simp] theorem State.setTray_pending : (s.setTray t v).pending = s.pending := rfl
@[simp] theorem State.setTray_out : (s.setTray t v).out = s.out := rfl
@[simp] theorem State.setTray_fresh : (s.setTray t v).fresh = s.fresh := rfl
@[simp] theorem State.setTray_tick : (s.setTray t v).tick = s.tick := rfl
@[simp] theorem State.setTray_regs : (s.setTray t v).regs = s.regs := rfl
@[simp] theorem State.setTray_shadow : (s.setTray t v).shadow = s.shadow := rfl
@[simp] theorem State.setTray_mem : (s.setTray t v).mem = s.mem := rfl
@[simp] theorem State.setTray_eccBad : (s.setTray t v).eccBad = s.eccBad := rfl
@[simp] theorem State.setTray_eccSoft : (s.setTray t v).eccSoft = s.eccSoft := rfl
@[simp] theorem State.setTray_tb : (s.setTray t v).tb = s.tb := rfl
@[simp] theorem State.setTray_pages : (s.setTray t v).pages = s.pages := rfl
@[simp] theorem State.setTray_groups : (s.setTray t v).groups = s.groups := rfl
@[simp] theorem State.setTray_hs : (s.setTray t v).hs = s.hs := rfl
@[simp] theorem State.setTray_cuffs : (s.setTray t v).cuffs = s.cuffs := rfl
@[simp] theorem State.setTray_sleeves : (s.setTray t v).sleeves = s.sleeves := rfl
@[simp] theorem State.setTray_pairs : (s.setTray t v).pairs = s.pairs := rfl
@[simp] theorem State.setTray_voters : (s.setTray t v).voters = s.voters := rfl
@[simp] theorem State.setTray_queues : (s.setTray t v).queues = s.queues := rfl
@[simp] theorem State.setTray_refs : (s.setTray t v).refs = s.refs := rfl
@[simp] theorem State.setTray_seams : (s.setTray t v).seams = s.seams := rfl
@[simp] theorem State.setTray_fifos : (s.setTray t v).fifos = s.fifos := rfl
@[simp] theorem State.setTray_votes : (s.setTray t v).votes = s.votes := rfl
@[simp] theorem State.setTray_lanes : (s.setTray t v).lanes = s.lanes := rfl
@[simp] theorem State.setTray_quota : (s.setTray t v).quota = s.quota := rfl
@[simp] theorem State.setTray_used : (s.setTray t v).used = s.used := rfl
@[simp] theorem State.setTray_ctxs : (s.setTray t v).ctxs = s.ctxs := rfl
@[simp] theorem State.setTray_flags : (s.setTray t v).flags = s.flags := rfl
@[simp] theorem State.setTray_cs : (s.setTray t v).cs = s.cs := rfl
@[simp] theorem State.setTray_csBad : (s.setTray t v).csBad = s.csBad := rfl
@[simp] theorem State.setTray_csSoft : (s.setTray t v).csSoft = s.csSoft := rfl
@[simp] theorem State.setTray_units : (s.setTray t v).units = s.units := rfl
@[simp] theorem State.setTray_upd : (s.setTray t v).upd = s.upd := rfl
@[simp] theorem State.setTray_pios : (s.setTray t v).pios = s.pios := rfl
@[simp] theorem State.setTray_syncAt : (s.setTray t v).syncAt = s.syncAt := rfl
@[simp] theorem State.setTray_ports : (s.setTray t v).ports = s.ports := rfl
@[simp] theorem State.setTray_ens : (s.setTray t v).ens = s.ens := rfl
@[simp] theorem State.setTray_enps : (s.setTray t v).enps = s.enps := rfl
@[simp] theorem State.setTray_fns : (s.setTray t v).fns = s.fns := rfl
@[simp] theorem State.setTray_link : (s.setTray t v).link = s.link := rfl
@[simp] theorem State.setTray_srcs : (s.setTray t v).srcs = s.srcs := rfl
@[simp] theorem State.setTray_vecs : (s.setTray t v).vecs = s.vecs := rfl
@[simp] theorem State.setTray_coreStacks : (s.setTray t v).coreStacks = s.coreStacks := rfl
@[simp] theorem State.setTray_chans : (s.setTray t v).chans = s.chans := rfl
@[simp] theorem State.setTray_pwr : (s.setTray t v).pwr = s.pwr := rfl
@[simp] theorem State.setTray_boot : (s.setTray t v).boot = s.boot := rfl
@[simp] theorem State.setTray_rel : (s.setTray t v).rel = s.rel := rfl
@[simp] theorem State.setTray_turns : (s.setTray t v).turns = s.turns := rfl
end setTray

section setCtx
variable (c : Nat) (v : Ctx)
@[simp] theorem State.setCtx_pending : (s.setCtx c v).pending = s.pending := rfl
@[simp] theorem State.setCtx_out : (s.setCtx c v).out = s.out := rfl
@[simp] theorem State.setCtx_fresh : (s.setCtx c v).fresh = s.fresh := rfl
@[simp] theorem State.setCtx_tick : (s.setCtx c v).tick = s.tick := rfl
@[simp] theorem State.setCtx_regs : (s.setCtx c v).regs = s.regs := rfl
@[simp] theorem State.setCtx_shadow : (s.setCtx c v).shadow = s.shadow := rfl
@[simp] theorem State.setCtx_mem : (s.setCtx c v).mem = s.mem := rfl
@[simp] theorem State.setCtx_eccBad : (s.setCtx c v).eccBad = s.eccBad := rfl
@[simp] theorem State.setCtx_eccSoft : (s.setCtx c v).eccSoft = s.eccSoft := rfl
@[simp] theorem State.setCtx_tb : (s.setCtx c v).tb = s.tb := rfl
@[simp] theorem State.setCtx_pages : (s.setCtx c v).pages = s.pages := rfl
@[simp] theorem State.setCtx_groups : (s.setCtx c v).groups = s.groups := rfl
@[simp] theorem State.setCtx_hs : (s.setCtx c v).hs = s.hs := rfl
@[simp] theorem State.setCtx_cuffs : (s.setCtx c v).cuffs = s.cuffs := rfl
@[simp] theorem State.setCtx_sleeves : (s.setCtx c v).sleeves = s.sleeves := rfl
@[simp] theorem State.setCtx_pairs : (s.setCtx c v).pairs = s.pairs := rfl
@[simp] theorem State.setCtx_voters : (s.setCtx c v).voters = s.voters := rfl
@[simp] theorem State.setCtx_queues : (s.setCtx c v).queues = s.queues := rfl
@[simp] theorem State.setCtx_refs : (s.setCtx c v).refs = s.refs := rfl
@[simp] theorem State.setCtx_seams : (s.setCtx c v).seams = s.seams := rfl
@[simp] theorem State.setCtx_fifos : (s.setCtx c v).fifos = s.fifos := rfl
@[simp] theorem State.setCtx_votes : (s.setCtx c v).votes = s.votes := rfl
@[simp] theorem State.setCtx_lanes : (s.setCtx c v).lanes = s.lanes := rfl
@[simp] theorem State.setCtx_quota : (s.setCtx c v).quota = s.quota := rfl
@[simp] theorem State.setCtx_used : (s.setCtx c v).used = s.used := rfl
@[simp] theorem State.setCtx_trays : (s.setCtx c v).trays = s.trays := rfl
@[simp] theorem State.setCtx_flags : (s.setCtx c v).flags = s.flags := rfl
@[simp] theorem State.setCtx_cs : (s.setCtx c v).cs = s.cs := rfl
@[simp] theorem State.setCtx_csBad : (s.setCtx c v).csBad = s.csBad := rfl
@[simp] theorem State.setCtx_csSoft : (s.setCtx c v).csSoft = s.csSoft := rfl
@[simp] theorem State.setCtx_units : (s.setCtx c v).units = s.units := rfl
@[simp] theorem State.setCtx_upd : (s.setCtx c v).upd = s.upd := rfl
@[simp] theorem State.setCtx_pios : (s.setCtx c v).pios = s.pios := rfl
@[simp] theorem State.setCtx_syncAt : (s.setCtx c v).syncAt = s.syncAt := rfl
@[simp] theorem State.setCtx_ports : (s.setCtx c v).ports = s.ports := rfl
@[simp] theorem State.setCtx_ens : (s.setCtx c v).ens = s.ens := rfl
@[simp] theorem State.setCtx_enps : (s.setCtx c v).enps = s.enps := rfl
@[simp] theorem State.setCtx_fns : (s.setCtx c v).fns = s.fns := rfl
@[simp] theorem State.setCtx_link : (s.setCtx c v).link = s.link := rfl
@[simp] theorem State.setCtx_srcs : (s.setCtx c v).srcs = s.srcs := rfl
@[simp] theorem State.setCtx_vecs : (s.setCtx c v).vecs = s.vecs := rfl
@[simp] theorem State.setCtx_coreStacks : (s.setCtx c v).coreStacks = s.coreStacks := rfl
@[simp] theorem State.setCtx_chans : (s.setCtx c v).chans = s.chans := rfl
@[simp] theorem State.setCtx_pwr : (s.setCtx c v).pwr = s.pwr := rfl
@[simp] theorem State.setCtx_boot : (s.setCtx c v).boot = s.boot := rfl
@[simp] theorem State.setCtx_rel : (s.setCtx c v).rel = s.rel := rfl
@[simp] theorem State.setCtx_turns : (s.setCtx c v).turns = s.turns := rfl
end setCtx

section setFlag
variable (f : Nat) (v : Flag)
@[simp] theorem State.setFlag_pending : (s.setFlag f v).pending = s.pending := rfl
@[simp] theorem State.setFlag_out : (s.setFlag f v).out = s.out := rfl
@[simp] theorem State.setFlag_fresh : (s.setFlag f v).fresh = s.fresh := rfl
@[simp] theorem State.setFlag_tick : (s.setFlag f v).tick = s.tick := rfl
@[simp] theorem State.setFlag_regs : (s.setFlag f v).regs = s.regs := rfl
@[simp] theorem State.setFlag_shadow : (s.setFlag f v).shadow = s.shadow := rfl
@[simp] theorem State.setFlag_mem : (s.setFlag f v).mem = s.mem := rfl
@[simp] theorem State.setFlag_eccBad : (s.setFlag f v).eccBad = s.eccBad := rfl
@[simp] theorem State.setFlag_eccSoft : (s.setFlag f v).eccSoft = s.eccSoft := rfl
@[simp] theorem State.setFlag_tb : (s.setFlag f v).tb = s.tb := rfl
@[simp] theorem State.setFlag_pages : (s.setFlag f v).pages = s.pages := rfl
@[simp] theorem State.setFlag_groups : (s.setFlag f v).groups = s.groups := rfl
@[simp] theorem State.setFlag_hs : (s.setFlag f v).hs = s.hs := rfl
@[simp] theorem State.setFlag_cuffs : (s.setFlag f v).cuffs = s.cuffs := rfl
@[simp] theorem State.setFlag_sleeves : (s.setFlag f v).sleeves = s.sleeves := rfl
@[simp] theorem State.setFlag_pairs : (s.setFlag f v).pairs = s.pairs := rfl
@[simp] theorem State.setFlag_voters : (s.setFlag f v).voters = s.voters := rfl
@[simp] theorem State.setFlag_queues : (s.setFlag f v).queues = s.queues := rfl
@[simp] theorem State.setFlag_refs : (s.setFlag f v).refs = s.refs := rfl
@[simp] theorem State.setFlag_seams : (s.setFlag f v).seams = s.seams := rfl
@[simp] theorem State.setFlag_fifos : (s.setFlag f v).fifos = s.fifos := rfl
@[simp] theorem State.setFlag_votes : (s.setFlag f v).votes = s.votes := rfl
@[simp] theorem State.setFlag_lanes : (s.setFlag f v).lanes = s.lanes := rfl
@[simp] theorem State.setFlag_quota : (s.setFlag f v).quota = s.quota := rfl
@[simp] theorem State.setFlag_used : (s.setFlag f v).used = s.used := rfl
@[simp] theorem State.setFlag_trays : (s.setFlag f v).trays = s.trays := rfl
@[simp] theorem State.setFlag_ctxs : (s.setFlag f v).ctxs = s.ctxs := rfl
@[simp] theorem State.setFlag_cs : (s.setFlag f v).cs = s.cs := rfl
@[simp] theorem State.setFlag_csBad : (s.setFlag f v).csBad = s.csBad := rfl
@[simp] theorem State.setFlag_csSoft : (s.setFlag f v).csSoft = s.csSoft := rfl
@[simp] theorem State.setFlag_units : (s.setFlag f v).units = s.units := rfl
@[simp] theorem State.setFlag_upd : (s.setFlag f v).upd = s.upd := rfl
@[simp] theorem State.setFlag_pios : (s.setFlag f v).pios = s.pios := rfl
@[simp] theorem State.setFlag_syncAt : (s.setFlag f v).syncAt = s.syncAt := rfl
@[simp] theorem State.setFlag_ports : (s.setFlag f v).ports = s.ports := rfl
@[simp] theorem State.setFlag_ens : (s.setFlag f v).ens = s.ens := rfl
@[simp] theorem State.setFlag_enps : (s.setFlag f v).enps = s.enps := rfl
@[simp] theorem State.setFlag_fns : (s.setFlag f v).fns = s.fns := rfl
@[simp] theorem State.setFlag_link : (s.setFlag f v).link = s.link := rfl
@[simp] theorem State.setFlag_srcs : (s.setFlag f v).srcs = s.srcs := rfl
@[simp] theorem State.setFlag_vecs : (s.setFlag f v).vecs = s.vecs := rfl
@[simp] theorem State.setFlag_coreStacks : (s.setFlag f v).coreStacks = s.coreStacks := rfl
@[simp] theorem State.setFlag_chans : (s.setFlag f v).chans = s.chans := rfl
@[simp] theorem State.setFlag_pwr : (s.setFlag f v).pwr = s.pwr := rfl
@[simp] theorem State.setFlag_boot : (s.setFlag f v).boot = s.boot := rfl
@[simp] theorem State.setFlag_rel : (s.setFlag f v).rel = s.rel := rfl
@[simp] theorem State.setFlag_turns : (s.setFlag f v).turns = s.turns := rfl
end setFlag

section setPio
variable (e : Nat) (v : Pio)
@[simp] theorem State.setPio_pending : (s.setPio e v).pending = s.pending := rfl
@[simp] theorem State.setPio_out : (s.setPio e v).out = s.out := rfl
@[simp] theorem State.setPio_fresh : (s.setPio e v).fresh = s.fresh := rfl
@[simp] theorem State.setPio_tick : (s.setPio e v).tick = s.tick := rfl
@[simp] theorem State.setPio_regs : (s.setPio e v).regs = s.regs := rfl
@[simp] theorem State.setPio_shadow : (s.setPio e v).shadow = s.shadow := rfl
@[simp] theorem State.setPio_mem : (s.setPio e v).mem = s.mem := rfl
@[simp] theorem State.setPio_eccBad : (s.setPio e v).eccBad = s.eccBad := rfl
@[simp] theorem State.setPio_eccSoft : (s.setPio e v).eccSoft = s.eccSoft := rfl
@[simp] theorem State.setPio_tb : (s.setPio e v).tb = s.tb := rfl
@[simp] theorem State.setPio_pages : (s.setPio e v).pages = s.pages := rfl
@[simp] theorem State.setPio_groups : (s.setPio e v).groups = s.groups := rfl
@[simp] theorem State.setPio_hs : (s.setPio e v).hs = s.hs := rfl
@[simp] theorem State.setPio_cuffs : (s.setPio e v).cuffs = s.cuffs := rfl
@[simp] theorem State.setPio_sleeves : (s.setPio e v).sleeves = s.sleeves := rfl
@[simp] theorem State.setPio_pairs : (s.setPio e v).pairs = s.pairs := rfl
@[simp] theorem State.setPio_voters : (s.setPio e v).voters = s.voters := rfl
@[simp] theorem State.setPio_queues : (s.setPio e v).queues = s.queues := rfl
@[simp] theorem State.setPio_refs : (s.setPio e v).refs = s.refs := rfl
@[simp] theorem State.setPio_seams : (s.setPio e v).seams = s.seams := rfl
@[simp] theorem State.setPio_fifos : (s.setPio e v).fifos = s.fifos := rfl
@[simp] theorem State.setPio_votes : (s.setPio e v).votes = s.votes := rfl
@[simp] theorem State.setPio_lanes : (s.setPio e v).lanes = s.lanes := rfl
@[simp] theorem State.setPio_quota : (s.setPio e v).quota = s.quota := rfl
@[simp] theorem State.setPio_used : (s.setPio e v).used = s.used := rfl
@[simp] theorem State.setPio_trays : (s.setPio e v).trays = s.trays := rfl
@[simp] theorem State.setPio_ctxs : (s.setPio e v).ctxs = s.ctxs := rfl
@[simp] theorem State.setPio_flags : (s.setPio e v).flags = s.flags := rfl
@[simp] theorem State.setPio_cs : (s.setPio e v).cs = s.cs := rfl
@[simp] theorem State.setPio_csBad : (s.setPio e v).csBad = s.csBad := rfl
@[simp] theorem State.setPio_csSoft : (s.setPio e v).csSoft = s.csSoft := rfl
@[simp] theorem State.setPio_units : (s.setPio e v).units = s.units := rfl
@[simp] theorem State.setPio_upd : (s.setPio e v).upd = s.upd := rfl
@[simp] theorem State.setPio_syncAt : (s.setPio e v).syncAt = s.syncAt := rfl
@[simp] theorem State.setPio_ports : (s.setPio e v).ports = s.ports := rfl
@[simp] theorem State.setPio_ens : (s.setPio e v).ens = s.ens := rfl
@[simp] theorem State.setPio_enps : (s.setPio e v).enps = s.enps := rfl
@[simp] theorem State.setPio_fns : (s.setPio e v).fns = s.fns := rfl
@[simp] theorem State.setPio_link : (s.setPio e v).link = s.link := rfl
@[simp] theorem State.setPio_srcs : (s.setPio e v).srcs = s.srcs := rfl
@[simp] theorem State.setPio_vecs : (s.setPio e v).vecs = s.vecs := rfl
@[simp] theorem State.setPio_coreStacks : (s.setPio e v).coreStacks = s.coreStacks := rfl
@[simp] theorem State.setPio_chans : (s.setPio e v).chans = s.chans := rfl
@[simp] theorem State.setPio_pwr : (s.setPio e v).pwr = s.pwr := rfl
@[simp] theorem State.setPio_boot : (s.setPio e v).boot = s.boot := rfl
@[simp] theorem State.setPio_rel : (s.setPio e v).rel = s.rel := rfl
@[simp] theorem State.setPio_turns : (s.setPio e v).turns = s.turns := rfl
end setPio

section setPort
variable (p : Nat) (v : Fbk)
@[simp] theorem State.setPort_pending : (s.setPort p v).pending = s.pending := rfl
@[simp] theorem State.setPort_out : (s.setPort p v).out = s.out := rfl
@[simp] theorem State.setPort_fresh : (s.setPort p v).fresh = s.fresh := rfl
@[simp] theorem State.setPort_tick : (s.setPort p v).tick = s.tick := rfl
@[simp] theorem State.setPort_regs : (s.setPort p v).regs = s.regs := rfl
@[simp] theorem State.setPort_shadow : (s.setPort p v).shadow = s.shadow := rfl
@[simp] theorem State.setPort_mem : (s.setPort p v).mem = s.mem := rfl
@[simp] theorem State.setPort_eccBad : (s.setPort p v).eccBad = s.eccBad := rfl
@[simp] theorem State.setPort_eccSoft : (s.setPort p v).eccSoft = s.eccSoft := rfl
@[simp] theorem State.setPort_tb : (s.setPort p v).tb = s.tb := rfl
@[simp] theorem State.setPort_pages : (s.setPort p v).pages = s.pages := rfl
@[simp] theorem State.setPort_groups : (s.setPort p v).groups = s.groups := rfl
@[simp] theorem State.setPort_hs : (s.setPort p v).hs = s.hs := rfl
@[simp] theorem State.setPort_cuffs : (s.setPort p v).cuffs = s.cuffs := rfl
@[simp] theorem State.setPort_sleeves : (s.setPort p v).sleeves = s.sleeves := rfl
@[simp] theorem State.setPort_pairs : (s.setPort p v).pairs = s.pairs := rfl
@[simp] theorem State.setPort_voters : (s.setPort p v).voters = s.voters := rfl
@[simp] theorem State.setPort_queues : (s.setPort p v).queues = s.queues := rfl
@[simp] theorem State.setPort_refs : (s.setPort p v).refs = s.refs := rfl
@[simp] theorem State.setPort_seams : (s.setPort p v).seams = s.seams := rfl
@[simp] theorem State.setPort_fifos : (s.setPort p v).fifos = s.fifos := rfl
@[simp] theorem State.setPort_votes : (s.setPort p v).votes = s.votes := rfl
@[simp] theorem State.setPort_lanes : (s.setPort p v).lanes = s.lanes := rfl
@[simp] theorem State.setPort_quota : (s.setPort p v).quota = s.quota := rfl
@[simp] theorem State.setPort_used : (s.setPort p v).used = s.used := rfl
@[simp] theorem State.setPort_trays : (s.setPort p v).trays = s.trays := rfl
@[simp] theorem State.setPort_ctxs : (s.setPort p v).ctxs = s.ctxs := rfl
@[simp] theorem State.setPort_flags : (s.setPort p v).flags = s.flags := rfl
@[simp] theorem State.setPort_cs : (s.setPort p v).cs = s.cs := rfl
@[simp] theorem State.setPort_csBad : (s.setPort p v).csBad = s.csBad := rfl
@[simp] theorem State.setPort_csSoft : (s.setPort p v).csSoft = s.csSoft := rfl
@[simp] theorem State.setPort_units : (s.setPort p v).units = s.units := rfl
@[simp] theorem State.setPort_upd : (s.setPort p v).upd = s.upd := rfl
@[simp] theorem State.setPort_pios : (s.setPort p v).pios = s.pios := rfl
@[simp] theorem State.setPort_syncAt : (s.setPort p v).syncAt = s.syncAt := rfl
@[simp] theorem State.setPort_ens : (s.setPort p v).ens = s.ens := rfl
@[simp] theorem State.setPort_enps : (s.setPort p v).enps = s.enps := rfl
@[simp] theorem State.setPort_fns : (s.setPort p v).fns = s.fns := rfl
@[simp] theorem State.setPort_link : (s.setPort p v).link = s.link := rfl
@[simp] theorem State.setPort_srcs : (s.setPort p v).srcs = s.srcs := rfl
@[simp] theorem State.setPort_vecs : (s.setPort p v).vecs = s.vecs := rfl
@[simp] theorem State.setPort_coreStacks : (s.setPort p v).coreStacks = s.coreStacks := rfl
@[simp] theorem State.setPort_chans : (s.setPort p v).chans = s.chans := rfl
@[simp] theorem State.setPort_pwr : (s.setPort p v).pwr = s.pwr := rfl
@[simp] theorem State.setPort_boot : (s.setPort p v).boot = s.boot := rfl
@[simp] theorem State.setPort_rel : (s.setPort p v).rel = s.rel := rfl
@[simp] theorem State.setPort_turns : (s.setPort p v).turns = s.turns := rfl
end setPort

section setMember
variable (m : Nat) (v : Member)
@[simp] theorem State.setMember_pending : (s.setMember m v).pending = s.pending := rfl
@[simp] theorem State.setMember_out : (s.setMember m v).out = s.out := rfl
@[simp] theorem State.setMember_fresh : (s.setMember m v).fresh = s.fresh := rfl
@[simp] theorem State.setMember_tick : (s.setMember m v).tick = s.tick := rfl
@[simp] theorem State.setMember_regs : (s.setMember m v).regs = s.regs := rfl
@[simp] theorem State.setMember_shadow : (s.setMember m v).shadow = s.shadow := rfl
@[simp] theorem State.setMember_mem : (s.setMember m v).mem = s.mem := rfl
@[simp] theorem State.setMember_eccBad : (s.setMember m v).eccBad = s.eccBad := rfl
@[simp] theorem State.setMember_eccSoft : (s.setMember m v).eccSoft = s.eccSoft := rfl
@[simp] theorem State.setMember_tb : (s.setMember m v).tb = s.tb := rfl
@[simp] theorem State.setMember_pages : (s.setMember m v).pages = s.pages := rfl
@[simp] theorem State.setMember_groups : (s.setMember m v).groups = s.groups := rfl
@[simp] theorem State.setMember_hs : (s.setMember m v).hs = s.hs := rfl
@[simp] theorem State.setMember_cuffs : (s.setMember m v).cuffs = s.cuffs := rfl
@[simp] theorem State.setMember_sleeves : (s.setMember m v).sleeves = s.sleeves := rfl
@[simp] theorem State.setMember_pairs : (s.setMember m v).pairs = s.pairs := rfl
@[simp] theorem State.setMember_voters : (s.setMember m v).voters = s.voters := rfl
@[simp] theorem State.setMember_queues : (s.setMember m v).queues = s.queues := rfl
@[simp] theorem State.setMember_refs : (s.setMember m v).refs = s.refs := rfl
@[simp] theorem State.setMember_seams : (s.setMember m v).seams = s.seams := rfl
@[simp] theorem State.setMember_fifos : (s.setMember m v).fifos = s.fifos := rfl
@[simp] theorem State.setMember_votes : (s.setMember m v).votes = s.votes := rfl
@[simp] theorem State.setMember_lanes : (s.setMember m v).lanes = s.lanes := rfl
@[simp] theorem State.setMember_quota : (s.setMember m v).quota = s.quota := rfl
@[simp] theorem State.setMember_used : (s.setMember m v).used = s.used := rfl
@[simp] theorem State.setMember_trays : (s.setMember m v).trays = s.trays := rfl
@[simp] theorem State.setMember_ctxs : (s.setMember m v).ctxs = s.ctxs := rfl
@[simp] theorem State.setMember_flags : (s.setMember m v).flags = s.flags := rfl
@[simp] theorem State.setMember_cs : (s.setMember m v).cs = s.cs := rfl
@[simp] theorem State.setMember_csBad : (s.setMember m v).csBad = s.csBad := rfl
@[simp] theorem State.setMember_csSoft : (s.setMember m v).csSoft = s.csSoft := rfl
@[simp] theorem State.setMember_units : (s.setMember m v).units = s.units := rfl
@[simp] theorem State.setMember_upd : (s.setMember m v).upd = s.upd := rfl
@[simp] theorem State.setMember_pios : (s.setMember m v).pios = s.pios := rfl
@[simp] theorem State.setMember_syncAt : (s.setMember m v).syncAt = s.syncAt := rfl
@[simp] theorem State.setMember_ports : (s.setMember m v).ports = s.ports := rfl
@[simp] theorem State.setMember_enps : (s.setMember m v).enps = s.enps := rfl
@[simp] theorem State.setMember_fns : (s.setMember m v).fns = s.fns := rfl
@[simp] theorem State.setMember_link : (s.setMember m v).link = s.link := rfl
@[simp] theorem State.setMember_srcs : (s.setMember m v).srcs = s.srcs := rfl
@[simp] theorem State.setMember_vecs : (s.setMember m v).vecs = s.vecs := rfl
@[simp] theorem State.setMember_coreStacks : (s.setMember m v).coreStacks = s.coreStacks := rfl
@[simp] theorem State.setMember_chans : (s.setMember m v).chans = s.chans := rfl
@[simp] theorem State.setMember_pwr : (s.setMember m v).pwr = s.pwr := rfl
@[simp] theorem State.setMember_boot : (s.setMember m v).boot = s.boot := rfl
@[simp] theorem State.setMember_rel : (s.setMember m v).rel = s.rel := rfl
@[simp] theorem State.setMember_turns : (s.setMember m v).turns = s.turns := rfl
end setMember

section setEnp
variable (n : Nat) (v : Enp)
@[simp] theorem State.setEnp_pending : (s.setEnp n v).pending = s.pending := rfl
@[simp] theorem State.setEnp_out : (s.setEnp n v).out = s.out := rfl
@[simp] theorem State.setEnp_fresh : (s.setEnp n v).fresh = s.fresh := rfl
@[simp] theorem State.setEnp_tick : (s.setEnp n v).tick = s.tick := rfl
@[simp] theorem State.setEnp_regs : (s.setEnp n v).regs = s.regs := rfl
@[simp] theorem State.setEnp_shadow : (s.setEnp n v).shadow = s.shadow := rfl
@[simp] theorem State.setEnp_mem : (s.setEnp n v).mem = s.mem := rfl
@[simp] theorem State.setEnp_eccBad : (s.setEnp n v).eccBad = s.eccBad := rfl
@[simp] theorem State.setEnp_eccSoft : (s.setEnp n v).eccSoft = s.eccSoft := rfl
@[simp] theorem State.setEnp_tb : (s.setEnp n v).tb = s.tb := rfl
@[simp] theorem State.setEnp_pages : (s.setEnp n v).pages = s.pages := rfl
@[simp] theorem State.setEnp_groups : (s.setEnp n v).groups = s.groups := rfl
@[simp] theorem State.setEnp_hs : (s.setEnp n v).hs = s.hs := rfl
@[simp] theorem State.setEnp_cuffs : (s.setEnp n v).cuffs = s.cuffs := rfl
@[simp] theorem State.setEnp_sleeves : (s.setEnp n v).sleeves = s.sleeves := rfl
@[simp] theorem State.setEnp_pairs : (s.setEnp n v).pairs = s.pairs := rfl
@[simp] theorem State.setEnp_voters : (s.setEnp n v).voters = s.voters := rfl
@[simp] theorem State.setEnp_queues : (s.setEnp n v).queues = s.queues := rfl
@[simp] theorem State.setEnp_refs : (s.setEnp n v).refs = s.refs := rfl
@[simp] theorem State.setEnp_seams : (s.setEnp n v).seams = s.seams := rfl
@[simp] theorem State.setEnp_fifos : (s.setEnp n v).fifos = s.fifos := rfl
@[simp] theorem State.setEnp_votes : (s.setEnp n v).votes = s.votes := rfl
@[simp] theorem State.setEnp_lanes : (s.setEnp n v).lanes = s.lanes := rfl
@[simp] theorem State.setEnp_quota : (s.setEnp n v).quota = s.quota := rfl
@[simp] theorem State.setEnp_used : (s.setEnp n v).used = s.used := rfl
@[simp] theorem State.setEnp_trays : (s.setEnp n v).trays = s.trays := rfl
@[simp] theorem State.setEnp_ctxs : (s.setEnp n v).ctxs = s.ctxs := rfl
@[simp] theorem State.setEnp_flags : (s.setEnp n v).flags = s.flags := rfl
@[simp] theorem State.setEnp_cs : (s.setEnp n v).cs = s.cs := rfl
@[simp] theorem State.setEnp_csBad : (s.setEnp n v).csBad = s.csBad := rfl
@[simp] theorem State.setEnp_csSoft : (s.setEnp n v).csSoft = s.csSoft := rfl
@[simp] theorem State.setEnp_units : (s.setEnp n v).units = s.units := rfl
@[simp] theorem State.setEnp_upd : (s.setEnp n v).upd = s.upd := rfl
@[simp] theorem State.setEnp_pios : (s.setEnp n v).pios = s.pios := rfl
@[simp] theorem State.setEnp_syncAt : (s.setEnp n v).syncAt = s.syncAt := rfl
@[simp] theorem State.setEnp_ports : (s.setEnp n v).ports = s.ports := rfl
@[simp] theorem State.setEnp_ens : (s.setEnp n v).ens = s.ens := rfl
@[simp] theorem State.setEnp_fns : (s.setEnp n v).fns = s.fns := rfl
@[simp] theorem State.setEnp_link : (s.setEnp n v).link = s.link := rfl
@[simp] theorem State.setEnp_srcs : (s.setEnp n v).srcs = s.srcs := rfl
@[simp] theorem State.setEnp_vecs : (s.setEnp n v).vecs = s.vecs := rfl
@[simp] theorem State.setEnp_coreStacks : (s.setEnp n v).coreStacks = s.coreStacks := rfl
@[simp] theorem State.setEnp_chans : (s.setEnp n v).chans = s.chans := rfl
@[simp] theorem State.setEnp_pwr : (s.setEnp n v).pwr = s.pwr := rfl
@[simp] theorem State.setEnp_boot : (s.setEnp n v).boot = s.boot := rfl
@[simp] theorem State.setEnp_rel : (s.setEnp n v).rel = s.rel := rfl
@[simp] theorem State.setEnp_turns : (s.setEnp n v).turns = s.turns := rfl
end setEnp

section setFn
variable (f : Nat) (v : Fn)
@[simp] theorem State.setFn_pending : (s.setFn f v).pending = s.pending := rfl
@[simp] theorem State.setFn_out : (s.setFn f v).out = s.out := rfl
@[simp] theorem State.setFn_fresh : (s.setFn f v).fresh = s.fresh := rfl
@[simp] theorem State.setFn_tick : (s.setFn f v).tick = s.tick := rfl
@[simp] theorem State.setFn_regs : (s.setFn f v).regs = s.regs := rfl
@[simp] theorem State.setFn_shadow : (s.setFn f v).shadow = s.shadow := rfl
@[simp] theorem State.setFn_mem : (s.setFn f v).mem = s.mem := rfl
@[simp] theorem State.setFn_eccBad : (s.setFn f v).eccBad = s.eccBad := rfl
@[simp] theorem State.setFn_eccSoft : (s.setFn f v).eccSoft = s.eccSoft := rfl
@[simp] theorem State.setFn_tb : (s.setFn f v).tb = s.tb := rfl
@[simp] theorem State.setFn_pages : (s.setFn f v).pages = s.pages := rfl
@[simp] theorem State.setFn_groups : (s.setFn f v).groups = s.groups := rfl
@[simp] theorem State.setFn_hs : (s.setFn f v).hs = s.hs := rfl
@[simp] theorem State.setFn_cuffs : (s.setFn f v).cuffs = s.cuffs := rfl
@[simp] theorem State.setFn_sleeves : (s.setFn f v).sleeves = s.sleeves := rfl
@[simp] theorem State.setFn_pairs : (s.setFn f v).pairs = s.pairs := rfl
@[simp] theorem State.setFn_voters : (s.setFn f v).voters = s.voters := rfl
@[simp] theorem State.setFn_queues : (s.setFn f v).queues = s.queues := rfl
@[simp] theorem State.setFn_refs : (s.setFn f v).refs = s.refs := rfl
@[simp] theorem State.setFn_seams : (s.setFn f v).seams = s.seams := rfl
@[simp] theorem State.setFn_fifos : (s.setFn f v).fifos = s.fifos := rfl
@[simp] theorem State.setFn_votes : (s.setFn f v).votes = s.votes := rfl
@[simp] theorem State.setFn_lanes : (s.setFn f v).lanes = s.lanes := rfl
@[simp] theorem State.setFn_quota : (s.setFn f v).quota = s.quota := rfl
@[simp] theorem State.setFn_used : (s.setFn f v).used = s.used := rfl
@[simp] theorem State.setFn_trays : (s.setFn f v).trays = s.trays := rfl
@[simp] theorem State.setFn_ctxs : (s.setFn f v).ctxs = s.ctxs := rfl
@[simp] theorem State.setFn_flags : (s.setFn f v).flags = s.flags := rfl
@[simp] theorem State.setFn_cs : (s.setFn f v).cs = s.cs := rfl
@[simp] theorem State.setFn_csBad : (s.setFn f v).csBad = s.csBad := rfl
@[simp] theorem State.setFn_csSoft : (s.setFn f v).csSoft = s.csSoft := rfl
@[simp] theorem State.setFn_units : (s.setFn f v).units = s.units := rfl
@[simp] theorem State.setFn_upd : (s.setFn f v).upd = s.upd := rfl
@[simp] theorem State.setFn_pios : (s.setFn f v).pios = s.pios := rfl
@[simp] theorem State.setFn_syncAt : (s.setFn f v).syncAt = s.syncAt := rfl
@[simp] theorem State.setFn_ports : (s.setFn f v).ports = s.ports := rfl
@[simp] theorem State.setFn_ens : (s.setFn f v).ens = s.ens := rfl
@[simp] theorem State.setFn_enps : (s.setFn f v).enps = s.enps := rfl
@[simp] theorem State.setFn_link : (s.setFn f v).link = s.link := rfl
@[simp] theorem State.setFn_srcs : (s.setFn f v).srcs = s.srcs := rfl
@[simp] theorem State.setFn_vecs : (s.setFn f v).vecs = s.vecs := rfl
@[simp] theorem State.setFn_coreStacks : (s.setFn f v).coreStacks = s.coreStacks := rfl
@[simp] theorem State.setFn_chans : (s.setFn f v).chans = s.chans := rfl
@[simp] theorem State.setFn_pwr : (s.setFn f v).pwr = s.pwr := rfl
@[simp] theorem State.setFn_boot : (s.setFn f v).boot = s.boot := rfl
@[simp] theorem State.setFn_rel : (s.setFn f v).rel = s.rel := rfl
@[simp] theorem State.setFn_turns : (s.setFn f v).turns = s.turns := rfl
end setFn

section setVec
variable (k : Nat) (v : Vec)
@[simp] theorem State.setVec_pending : (s.setVec k v).pending = s.pending := rfl
@[simp] theorem State.setVec_out : (s.setVec k v).out = s.out := rfl
@[simp] theorem State.setVec_fresh : (s.setVec k v).fresh = s.fresh := rfl
@[simp] theorem State.setVec_tick : (s.setVec k v).tick = s.tick := rfl
@[simp] theorem State.setVec_regs : (s.setVec k v).regs = s.regs := rfl
@[simp] theorem State.setVec_shadow : (s.setVec k v).shadow = s.shadow := rfl
@[simp] theorem State.setVec_mem : (s.setVec k v).mem = s.mem := rfl
@[simp] theorem State.setVec_eccBad : (s.setVec k v).eccBad = s.eccBad := rfl
@[simp] theorem State.setVec_eccSoft : (s.setVec k v).eccSoft = s.eccSoft := rfl
@[simp] theorem State.setVec_tb : (s.setVec k v).tb = s.tb := rfl
@[simp] theorem State.setVec_pages : (s.setVec k v).pages = s.pages := rfl
@[simp] theorem State.setVec_groups : (s.setVec k v).groups = s.groups := rfl
@[simp] theorem State.setVec_hs : (s.setVec k v).hs = s.hs := rfl
@[simp] theorem State.setVec_cuffs : (s.setVec k v).cuffs = s.cuffs := rfl
@[simp] theorem State.setVec_sleeves : (s.setVec k v).sleeves = s.sleeves := rfl
@[simp] theorem State.setVec_pairs : (s.setVec k v).pairs = s.pairs := rfl
@[simp] theorem State.setVec_voters : (s.setVec k v).voters = s.voters := rfl
@[simp] theorem State.setVec_queues : (s.setVec k v).queues = s.queues := rfl
@[simp] theorem State.setVec_refs : (s.setVec k v).refs = s.refs := rfl
@[simp] theorem State.setVec_seams : (s.setVec k v).seams = s.seams := rfl
@[simp] theorem State.setVec_fifos : (s.setVec k v).fifos = s.fifos := rfl
@[simp] theorem State.setVec_votes : (s.setVec k v).votes = s.votes := rfl
@[simp] theorem State.setVec_lanes : (s.setVec k v).lanes = s.lanes := rfl
@[simp] theorem State.setVec_quota : (s.setVec k v).quota = s.quota := rfl
@[simp] theorem State.setVec_used : (s.setVec k v).used = s.used := rfl
@[simp] theorem State.setVec_trays : (s.setVec k v).trays = s.trays := rfl
@[simp] theorem State.setVec_ctxs : (s.setVec k v).ctxs = s.ctxs := rfl
@[simp] theorem State.setVec_flags : (s.setVec k v).flags = s.flags := rfl
@[simp] theorem State.setVec_cs : (s.setVec k v).cs = s.cs := rfl
@[simp] theorem State.setVec_csBad : (s.setVec k v).csBad = s.csBad := rfl
@[simp] theorem State.setVec_csSoft : (s.setVec k v).csSoft = s.csSoft := rfl
@[simp] theorem State.setVec_units : (s.setVec k v).units = s.units := rfl
@[simp] theorem State.setVec_upd : (s.setVec k v).upd = s.upd := rfl
@[simp] theorem State.setVec_pios : (s.setVec k v).pios = s.pios := rfl
@[simp] theorem State.setVec_syncAt : (s.setVec k v).syncAt = s.syncAt := rfl
@[simp] theorem State.setVec_ports : (s.setVec k v).ports = s.ports := rfl
@[simp] theorem State.setVec_ens : (s.setVec k v).ens = s.ens := rfl
@[simp] theorem State.setVec_enps : (s.setVec k v).enps = s.enps := rfl
@[simp] theorem State.setVec_fns : (s.setVec k v).fns = s.fns := rfl
@[simp] theorem State.setVec_link : (s.setVec k v).link = s.link := rfl
@[simp] theorem State.setVec_srcs : (s.setVec k v).srcs = s.srcs := rfl
@[simp] theorem State.setVec_coreStacks : (s.setVec k v).coreStacks = s.coreStacks := rfl
@[simp] theorem State.setVec_chans : (s.setVec k v).chans = s.chans := rfl
@[simp] theorem State.setVec_pwr : (s.setVec k v).pwr = s.pwr := rfl
@[simp] theorem State.setVec_boot : (s.setVec k v).boot = s.boot := rfl
@[simp] theorem State.setVec_rel : (s.setVec k v).rel = s.rel := rfl
@[simp] theorem State.setVec_turns : (s.setVec k v).turns = s.turns := rfl
end setVec

section setStack
variable (c : Nat) (v : List (Nat × Nat))
@[simp] theorem State.setStack_pending : (s.setStack c v).pending = s.pending := rfl
@[simp] theorem State.setStack_out : (s.setStack c v).out = s.out := rfl
@[simp] theorem State.setStack_fresh : (s.setStack c v).fresh = s.fresh := rfl
@[simp] theorem State.setStack_tick : (s.setStack c v).tick = s.tick := rfl
@[simp] theorem State.setStack_regs : (s.setStack c v).regs = s.regs := rfl
@[simp] theorem State.setStack_shadow : (s.setStack c v).shadow = s.shadow := rfl
@[simp] theorem State.setStack_mem : (s.setStack c v).mem = s.mem := rfl
@[simp] theorem State.setStack_eccBad : (s.setStack c v).eccBad = s.eccBad := rfl
@[simp] theorem State.setStack_eccSoft : (s.setStack c v).eccSoft = s.eccSoft := rfl
@[simp] theorem State.setStack_tb : (s.setStack c v).tb = s.tb := rfl
@[simp] theorem State.setStack_pages : (s.setStack c v).pages = s.pages := rfl
@[simp] theorem State.setStack_groups : (s.setStack c v).groups = s.groups := rfl
@[simp] theorem State.setStack_hs : (s.setStack c v).hs = s.hs := rfl
@[simp] theorem State.setStack_cuffs : (s.setStack c v).cuffs = s.cuffs := rfl
@[simp] theorem State.setStack_sleeves : (s.setStack c v).sleeves = s.sleeves := rfl
@[simp] theorem State.setStack_pairs : (s.setStack c v).pairs = s.pairs := rfl
@[simp] theorem State.setStack_voters : (s.setStack c v).voters = s.voters := rfl
@[simp] theorem State.setStack_queues : (s.setStack c v).queues = s.queues := rfl
@[simp] theorem State.setStack_refs : (s.setStack c v).refs = s.refs := rfl
@[simp] theorem State.setStack_seams : (s.setStack c v).seams = s.seams := rfl
@[simp] theorem State.setStack_fifos : (s.setStack c v).fifos = s.fifos := rfl
@[simp] theorem State.setStack_votes : (s.setStack c v).votes = s.votes := rfl
@[simp] theorem State.setStack_lanes : (s.setStack c v).lanes = s.lanes := rfl
@[simp] theorem State.setStack_quota : (s.setStack c v).quota = s.quota := rfl
@[simp] theorem State.setStack_used : (s.setStack c v).used = s.used := rfl
@[simp] theorem State.setStack_trays : (s.setStack c v).trays = s.trays := rfl
@[simp] theorem State.setStack_ctxs : (s.setStack c v).ctxs = s.ctxs := rfl
@[simp] theorem State.setStack_flags : (s.setStack c v).flags = s.flags := rfl
@[simp] theorem State.setStack_cs : (s.setStack c v).cs = s.cs := rfl
@[simp] theorem State.setStack_csBad : (s.setStack c v).csBad = s.csBad := rfl
@[simp] theorem State.setStack_csSoft : (s.setStack c v).csSoft = s.csSoft := rfl
@[simp] theorem State.setStack_units : (s.setStack c v).units = s.units := rfl
@[simp] theorem State.setStack_upd : (s.setStack c v).upd = s.upd := rfl
@[simp] theorem State.setStack_pios : (s.setStack c v).pios = s.pios := rfl
@[simp] theorem State.setStack_syncAt : (s.setStack c v).syncAt = s.syncAt := rfl
@[simp] theorem State.setStack_ports : (s.setStack c v).ports = s.ports := rfl
@[simp] theorem State.setStack_ens : (s.setStack c v).ens = s.ens := rfl
@[simp] theorem State.setStack_enps : (s.setStack c v).enps = s.enps := rfl
@[simp] theorem State.setStack_fns : (s.setStack c v).fns = s.fns := rfl
@[simp] theorem State.setStack_link : (s.setStack c v).link = s.link := rfl
@[simp] theorem State.setStack_srcs : (s.setStack c v).srcs = s.srcs := rfl
@[simp] theorem State.setStack_vecs : (s.setStack c v).vecs = s.vecs := rfl
@[simp] theorem State.setStack_chans : (s.setStack c v).chans = s.chans := rfl
@[simp] theorem State.setStack_pwr : (s.setStack c v).pwr = s.pwr := rfl
@[simp] theorem State.setStack_boot : (s.setStack c v).boot = s.boot := rfl
@[simp] theorem State.setStack_rel : (s.setStack c v).rel = s.rel := rfl
@[simp] theorem State.setStack_turns : (s.setStack c v).turns = s.turns := rfl
end setStack

section setChan
variable (c : Nat) (v : Chan)
@[simp] theorem State.setChan_pending : (s.setChan c v).pending = s.pending := rfl
@[simp] theorem State.setChan_out : (s.setChan c v).out = s.out := rfl
@[simp] theorem State.setChan_fresh : (s.setChan c v).fresh = s.fresh := rfl
@[simp] theorem State.setChan_tick : (s.setChan c v).tick = s.tick := rfl
@[simp] theorem State.setChan_regs : (s.setChan c v).regs = s.regs := rfl
@[simp] theorem State.setChan_shadow : (s.setChan c v).shadow = s.shadow := rfl
@[simp] theorem State.setChan_mem : (s.setChan c v).mem = s.mem := rfl
@[simp] theorem State.setChan_eccBad : (s.setChan c v).eccBad = s.eccBad := rfl
@[simp] theorem State.setChan_eccSoft : (s.setChan c v).eccSoft = s.eccSoft := rfl
@[simp] theorem State.setChan_tb : (s.setChan c v).tb = s.tb := rfl
@[simp] theorem State.setChan_pages : (s.setChan c v).pages = s.pages := rfl
@[simp] theorem State.setChan_groups : (s.setChan c v).groups = s.groups := rfl
@[simp] theorem State.setChan_hs : (s.setChan c v).hs = s.hs := rfl
@[simp] theorem State.setChan_cuffs : (s.setChan c v).cuffs = s.cuffs := rfl
@[simp] theorem State.setChan_sleeves : (s.setChan c v).sleeves = s.sleeves := rfl
@[simp] theorem State.setChan_pairs : (s.setChan c v).pairs = s.pairs := rfl
@[simp] theorem State.setChan_voters : (s.setChan c v).voters = s.voters := rfl
@[simp] theorem State.setChan_queues : (s.setChan c v).queues = s.queues := rfl
@[simp] theorem State.setChan_refs : (s.setChan c v).refs = s.refs := rfl
@[simp] theorem State.setChan_seams : (s.setChan c v).seams = s.seams := rfl
@[simp] theorem State.setChan_fifos : (s.setChan c v).fifos = s.fifos := rfl
@[simp] theorem State.setChan_votes : (s.setChan c v).votes = s.votes := rfl
@[simp] theorem State.setChan_lanes : (s.setChan c v).lanes = s.lanes := rfl
@[simp] theorem State.setChan_quota : (s.setChan c v).quota = s.quota := rfl
@[simp] theorem State.setChan_used : (s.setChan c v).used = s.used := rfl
@[simp] theorem State.setChan_trays : (s.setChan c v).trays = s.trays := rfl
@[simp] theorem State.setChan_ctxs : (s.setChan c v).ctxs = s.ctxs := rfl
@[simp] theorem State.setChan_flags : (s.setChan c v).flags = s.flags := rfl
@[simp] theorem State.setChan_cs : (s.setChan c v).cs = s.cs := rfl
@[simp] theorem State.setChan_csBad : (s.setChan c v).csBad = s.csBad := rfl
@[simp] theorem State.setChan_csSoft : (s.setChan c v).csSoft = s.csSoft := rfl
@[simp] theorem State.setChan_units : (s.setChan c v).units = s.units := rfl
@[simp] theorem State.setChan_upd : (s.setChan c v).upd = s.upd := rfl
@[simp] theorem State.setChan_pios : (s.setChan c v).pios = s.pios := rfl
@[simp] theorem State.setChan_syncAt : (s.setChan c v).syncAt = s.syncAt := rfl
@[simp] theorem State.setChan_ports : (s.setChan c v).ports = s.ports := rfl
@[simp] theorem State.setChan_ens : (s.setChan c v).ens = s.ens := rfl
@[simp] theorem State.setChan_enps : (s.setChan c v).enps = s.enps := rfl
@[simp] theorem State.setChan_fns : (s.setChan c v).fns = s.fns := rfl
@[simp] theorem State.setChan_link : (s.setChan c v).link = s.link := rfl
@[simp] theorem State.setChan_srcs : (s.setChan c v).srcs = s.srcs := rfl
@[simp] theorem State.setChan_vecs : (s.setChan c v).vecs = s.vecs := rfl
@[simp] theorem State.setChan_coreStacks : (s.setChan c v).coreStacks = s.coreStacks := rfl
@[simp] theorem State.setChan_pwr : (s.setChan c v).pwr = s.pwr := rfl
@[simp] theorem State.setChan_boot : (s.setChan c v).boot = s.boot := rfl
@[simp] theorem State.setChan_rel : (s.setChan c v).rel = s.rel := rfl
@[simp] theorem State.setChan_turns : (s.setChan c v).turns = s.turns := rfl
end setChan

section setWord40
variable (k : Nat) (v : BitVec 40)
@[simp] theorem State.setWord40_pending : (s.setWord40 k v).pending = s.pending := rfl
@[simp] theorem State.setWord40_out : (s.setWord40 k v).out = s.out := rfl
@[simp] theorem State.setWord40_fresh : (s.setWord40 k v).fresh = s.fresh := rfl
@[simp] theorem State.setWord40_tick : (s.setWord40 k v).tick = s.tick := rfl
@[simp] theorem State.setWord40_regs : (s.setWord40 k v).regs = s.regs := rfl
@[simp] theorem State.setWord40_shadow : (s.setWord40 k v).shadow = s.shadow := rfl
@[simp] theorem State.setWord40_mem : (s.setWord40 k v).mem = s.mem := rfl
@[simp] theorem State.setWord40_eccBad : (s.setWord40 k v).eccBad = s.eccBad := rfl
@[simp] theorem State.setWord40_eccSoft : (s.setWord40 k v).eccSoft = s.eccSoft := rfl
@[simp] theorem State.setWord40_tb : (s.setWord40 k v).tb = s.tb := rfl
@[simp] theorem State.setWord40_pages : (s.setWord40 k v).pages = s.pages := rfl
@[simp] theorem State.setWord40_groups : (s.setWord40 k v).groups = s.groups := rfl
@[simp] theorem State.setWord40_hs : (s.setWord40 k v).hs = s.hs := rfl
@[simp] theorem State.setWord40_cuffs : (s.setWord40 k v).cuffs = s.cuffs := rfl
@[simp] theorem State.setWord40_sleeves : (s.setWord40 k v).sleeves = s.sleeves := rfl
@[simp] theorem State.setWord40_pairs : (s.setWord40 k v).pairs = s.pairs := rfl
@[simp] theorem State.setWord40_voters : (s.setWord40 k v).voters = s.voters := rfl
@[simp] theorem State.setWord40_queues : (s.setWord40 k v).queues = s.queues := rfl
@[simp] theorem State.setWord40_refs : (s.setWord40 k v).refs = s.refs := rfl
@[simp] theorem State.setWord40_seams : (s.setWord40 k v).seams = s.seams := rfl
@[simp] theorem State.setWord40_fifos : (s.setWord40 k v).fifos = s.fifos := rfl
@[simp] theorem State.setWord40_votes : (s.setWord40 k v).votes = s.votes := rfl
@[simp] theorem State.setWord40_lanes : (s.setWord40 k v).lanes = s.lanes := rfl
@[simp] theorem State.setWord40_quota : (s.setWord40 k v).quota = s.quota := rfl
@[simp] theorem State.setWord40_used : (s.setWord40 k v).used = s.used := rfl
@[simp] theorem State.setWord40_trays : (s.setWord40 k v).trays = s.trays := rfl
@[simp] theorem State.setWord40_ctxs : (s.setWord40 k v).ctxs = s.ctxs := rfl
@[simp] theorem State.setWord40_flags : (s.setWord40 k v).flags = s.flags := rfl
@[simp] theorem State.setWord40_csBad : (s.setWord40 k v).csBad = s.csBad := rfl
@[simp] theorem State.setWord40_csSoft : (s.setWord40 k v).csSoft = s.csSoft := rfl
@[simp] theorem State.setWord40_units : (s.setWord40 k v).units = s.units := rfl
@[simp] theorem State.setWord40_upd : (s.setWord40 k v).upd = s.upd := rfl
@[simp] theorem State.setWord40_pios : (s.setWord40 k v).pios = s.pios := rfl
@[simp] theorem State.setWord40_syncAt : (s.setWord40 k v).syncAt = s.syncAt := rfl
@[simp] theorem State.setWord40_ports : (s.setWord40 k v).ports = s.ports := rfl
@[simp] theorem State.setWord40_ens : (s.setWord40 k v).ens = s.ens := rfl
@[simp] theorem State.setWord40_enps : (s.setWord40 k v).enps = s.enps := rfl
@[simp] theorem State.setWord40_fns : (s.setWord40 k v).fns = s.fns := rfl
@[simp] theorem State.setWord40_link : (s.setWord40 k v).link = s.link := rfl
@[simp] theorem State.setWord40_srcs : (s.setWord40 k v).srcs = s.srcs := rfl
@[simp] theorem State.setWord40_vecs : (s.setWord40 k v).vecs = s.vecs := rfl
@[simp] theorem State.setWord40_coreStacks : (s.setWord40 k v).coreStacks = s.coreStacks := rfl
@[simp] theorem State.setWord40_chans : (s.setWord40 k v).chans = s.chans := rfl
@[simp] theorem State.setWord40_pwr : (s.setWord40 k v).pwr = s.pwr := rfl
@[simp] theorem State.setWord40_boot : (s.setWord40 k v).boot = s.boot := rfl
@[simp] theorem State.setWord40_rel : (s.setWord40 k v).rel = s.rel := rfl
@[simp] theorem State.setWord40_turns : (s.setWord40 k v).turns = s.turns := rfl
end setWord40

section setSrc
variable (id : Nat) (v : Src)
@[simp] theorem State.setSrc_pending : (s.setSrc id v).pending = s.pending := rfl
@[simp] theorem State.setSrc_out : (s.setSrc id v).out = s.out := rfl
@[simp] theorem State.setSrc_fresh : (s.setSrc id v).fresh = s.fresh := rfl
@[simp] theorem State.setSrc_tick : (s.setSrc id v).tick = s.tick := rfl
@[simp] theorem State.setSrc_regs : (s.setSrc id v).regs = s.regs := rfl
@[simp] theorem State.setSrc_shadow : (s.setSrc id v).shadow = s.shadow := rfl
@[simp] theorem State.setSrc_mem : (s.setSrc id v).mem = s.mem := rfl
@[simp] theorem State.setSrc_eccBad : (s.setSrc id v).eccBad = s.eccBad := rfl
@[simp] theorem State.setSrc_eccSoft : (s.setSrc id v).eccSoft = s.eccSoft := rfl
@[simp] theorem State.setSrc_tb : (s.setSrc id v).tb = s.tb := rfl
@[simp] theorem State.setSrc_pages : (s.setSrc id v).pages = s.pages := rfl
@[simp] theorem State.setSrc_groups : (s.setSrc id v).groups = s.groups := rfl
@[simp] theorem State.setSrc_hs : (s.setSrc id v).hs = s.hs := rfl
@[simp] theorem State.setSrc_cuffs : (s.setSrc id v).cuffs = s.cuffs := rfl
@[simp] theorem State.setSrc_sleeves : (s.setSrc id v).sleeves = s.sleeves := rfl
@[simp] theorem State.setSrc_pairs : (s.setSrc id v).pairs = s.pairs := rfl
@[simp] theorem State.setSrc_voters : (s.setSrc id v).voters = s.voters := rfl
@[simp] theorem State.setSrc_queues : (s.setSrc id v).queues = s.queues := rfl
@[simp] theorem State.setSrc_refs : (s.setSrc id v).refs = s.refs := rfl
@[simp] theorem State.setSrc_seams : (s.setSrc id v).seams = s.seams := rfl
@[simp] theorem State.setSrc_fifos : (s.setSrc id v).fifos = s.fifos := rfl
@[simp] theorem State.setSrc_votes : (s.setSrc id v).votes = s.votes := rfl
@[simp] theorem State.setSrc_lanes : (s.setSrc id v).lanes = s.lanes := rfl
@[simp] theorem State.setSrc_quota : (s.setSrc id v).quota = s.quota := rfl
@[simp] theorem State.setSrc_used : (s.setSrc id v).used = s.used := rfl
@[simp] theorem State.setSrc_trays : (s.setSrc id v).trays = s.trays := rfl
@[simp] theorem State.setSrc_ctxs : (s.setSrc id v).ctxs = s.ctxs := rfl
@[simp] theorem State.setSrc_flags : (s.setSrc id v).flags = s.flags := rfl
@[simp] theorem State.setSrc_cs : (s.setSrc id v).cs = s.cs := rfl
@[simp] theorem State.setSrc_csBad : (s.setSrc id v).csBad = s.csBad := rfl
@[simp] theorem State.setSrc_csSoft : (s.setSrc id v).csSoft = s.csSoft := rfl
@[simp] theorem State.setSrc_units : (s.setSrc id v).units = s.units := rfl
@[simp] theorem State.setSrc_upd : (s.setSrc id v).upd = s.upd := rfl
@[simp] theorem State.setSrc_pios : (s.setSrc id v).pios = s.pios := rfl
@[simp] theorem State.setSrc_syncAt : (s.setSrc id v).syncAt = s.syncAt := rfl
@[simp] theorem State.setSrc_ports : (s.setSrc id v).ports = s.ports := rfl
@[simp] theorem State.setSrc_ens : (s.setSrc id v).ens = s.ens := rfl
@[simp] theorem State.setSrc_enps : (s.setSrc id v).enps = s.enps := rfl
@[simp] theorem State.setSrc_fns : (s.setSrc id v).fns = s.fns := rfl
@[simp] theorem State.setSrc_link : (s.setSrc id v).link = s.link := rfl
@[simp] theorem State.setSrc_vecs : (s.setSrc id v).vecs = s.vecs := rfl
@[simp] theorem State.setSrc_coreStacks : (s.setSrc id v).coreStacks = s.coreStacks := rfl
@[simp] theorem State.setSrc_chans : (s.setSrc id v).chans = s.chans := rfl
@[simp] theorem State.setSrc_pwr : (s.setSrc id v).pwr = s.pwr := rfl
@[simp] theorem State.setSrc_boot : (s.setSrc id v).boot = s.boot := rfl
@[simp] theorem State.setSrc_rel : (s.setSrc id v).rel = s.rel := rfl
@[simp] theorem State.setSrc_turns : (s.setSrc id v).turns = s.turns := rfl
end setSrc

section setByte
variable (a : Nat) (v : BitVec 8)
@[simp] theorem State.setByte_pending : (s.setByte a v).pending = s.pending := rfl
@[simp] theorem State.setByte_out : (s.setByte a v).out = s.out := rfl
@[simp] theorem State.setByte_fresh : (s.setByte a v).fresh = s.fresh := rfl
@[simp] theorem State.setByte_tick : (s.setByte a v).tick = s.tick := rfl
@[simp] theorem State.setByte_regs : (s.setByte a v).regs = s.regs := rfl
@[simp] theorem State.setByte_shadow : (s.setByte a v).shadow = s.shadow := rfl
@[simp] theorem State.setByte_eccBad : (s.setByte a v).eccBad = s.eccBad := rfl
@[simp] theorem State.setByte_eccSoft : (s.setByte a v).eccSoft = s.eccSoft := rfl
@[simp] theorem State.setByte_tb : (s.setByte a v).tb = s.tb := rfl
@[simp] theorem State.setByte_pages : (s.setByte a v).pages = s.pages := rfl
@[simp] theorem State.setByte_groups : (s.setByte a v).groups = s.groups := rfl
@[simp] theorem State.setByte_hs : (s.setByte a v).hs = s.hs := rfl
@[simp] theorem State.setByte_cuffs : (s.setByte a v).cuffs = s.cuffs := rfl
@[simp] theorem State.setByte_sleeves : (s.setByte a v).sleeves = s.sleeves := rfl
@[simp] theorem State.setByte_pairs : (s.setByte a v).pairs = s.pairs := rfl
@[simp] theorem State.setByte_voters : (s.setByte a v).voters = s.voters := rfl
@[simp] theorem State.setByte_queues : (s.setByte a v).queues = s.queues := rfl
@[simp] theorem State.setByte_refs : (s.setByte a v).refs = s.refs := rfl
@[simp] theorem State.setByte_seams : (s.setByte a v).seams = s.seams := rfl
@[simp] theorem State.setByte_fifos : (s.setByte a v).fifos = s.fifos := rfl
@[simp] theorem State.setByte_votes : (s.setByte a v).votes = s.votes := rfl
@[simp] theorem State.setByte_lanes : (s.setByte a v).lanes = s.lanes := rfl
@[simp] theorem State.setByte_quota : (s.setByte a v).quota = s.quota := rfl
@[simp] theorem State.setByte_used : (s.setByte a v).used = s.used := rfl
@[simp] theorem State.setByte_trays : (s.setByte a v).trays = s.trays := rfl
@[simp] theorem State.setByte_ctxs : (s.setByte a v).ctxs = s.ctxs := rfl
@[simp] theorem State.setByte_flags : (s.setByte a v).flags = s.flags := rfl
@[simp] theorem State.setByte_cs : (s.setByte a v).cs = s.cs := rfl
@[simp] theorem State.setByte_csBad : (s.setByte a v).csBad = s.csBad := rfl
@[simp] theorem State.setByte_csSoft : (s.setByte a v).csSoft = s.csSoft := rfl
@[simp] theorem State.setByte_units : (s.setByte a v).units = s.units := rfl
@[simp] theorem State.setByte_upd : (s.setByte a v).upd = s.upd := rfl
@[simp] theorem State.setByte_pios : (s.setByte a v).pios = s.pios := rfl
@[simp] theorem State.setByte_syncAt : (s.setByte a v).syncAt = s.syncAt := rfl
@[simp] theorem State.setByte_ports : (s.setByte a v).ports = s.ports := rfl
@[simp] theorem State.setByte_ens : (s.setByte a v).ens = s.ens := rfl
@[simp] theorem State.setByte_enps : (s.setByte a v).enps = s.enps := rfl
@[simp] theorem State.setByte_fns : (s.setByte a v).fns = s.fns := rfl
@[simp] theorem State.setByte_link : (s.setByte a v).link = s.link := rfl
@[simp] theorem State.setByte_srcs : (s.setByte a v).srcs = s.srcs := rfl
@[simp] theorem State.setByte_vecs : (s.setByte a v).vecs = s.vecs := rfl
@[simp] theorem State.setByte_coreStacks : (s.setByte a v).coreStacks = s.coreStacks := rfl
@[simp] theorem State.setByte_chans : (s.setByte a v).chans = s.chans := rfl
@[simp] theorem State.setByte_pwr : (s.setByte a v).pwr = s.pwr := rfl
@[simp] theorem State.setByte_boot : (s.setByte a v).boot = s.boot := rfl
@[simp] theorem State.setByte_rel : (s.setByte a v).rel = s.rel := rfl
@[simp] theorem State.setByte_turns : (s.setByte a v).turns = s.turns := rfl
end setByte

section setN
variable (k v : Nat)
@[simp] theorem State.setN_pending : (s.setN k v).pending = s.pending := State.setReg_pending ..
@[simp] theorem State.setN_out : (s.setN k v).out = s.out := State.setReg_out ..
@[simp] theorem State.setN_fresh : (s.setN k v).fresh = s.fresh := State.setReg_fresh ..
@[simp] theorem State.setN_tick : (s.setN k v).tick = s.tick := State.setReg_tick ..
@[simp] theorem State.setN_shadow : (s.setN k v).shadow = s.shadow := State.setReg_shadow ..
@[simp] theorem State.setN_mem : (s.setN k v).mem = s.mem := State.setReg_mem ..
@[simp] theorem State.setN_eccBad : (s.setN k v).eccBad = s.eccBad := State.setReg_eccBad ..
@[simp] theorem State.setN_eccSoft : (s.setN k v).eccSoft = s.eccSoft := State.setReg_eccSoft ..
@[simp] theorem State.setN_tb : (s.setN k v).tb = s.tb := State.setReg_tb ..
@[simp] theorem State.setN_pages : (s.setN k v).pages = s.pages := State.setReg_pages ..
@[simp] theorem State.setN_groups : (s.setN k v).groups = s.groups := State.setReg_groups ..
@[simp] theorem State.setN_hs : (s.setN k v).hs = s.hs := State.setReg_hs ..
@[simp] theorem State.setN_cuffs : (s.setN k v).cuffs = s.cuffs := State.setReg_cuffs ..
@[simp] theorem State.setN_sleeves : (s.setN k v).sleeves = s.sleeves := State.setReg_sleeves ..
@[simp] theorem State.setN_pairs : (s.setN k v).pairs = s.pairs := State.setReg_pairs ..
@[simp] theorem State.setN_voters : (s.setN k v).voters = s.voters := State.setReg_voters ..
@[simp] theorem State.setN_queues : (s.setN k v).queues = s.queues := State.setReg_queues ..
@[simp] theorem State.setN_refs : (s.setN k v).refs = s.refs := State.setReg_refs ..
@[simp] theorem State.setN_seams : (s.setN k v).seams = s.seams := State.setReg_seams ..
@[simp] theorem State.setN_fifos : (s.setN k v).fifos = s.fifos := State.setReg_fifos ..
@[simp] theorem State.setN_votes : (s.setN k v).votes = s.votes := State.setReg_votes ..
@[simp] theorem State.setN_lanes : (s.setN k v).lanes = s.lanes := State.setReg_lanes ..
@[simp] theorem State.setN_quota : (s.setN k v).quota = s.quota := State.setReg_quota ..
@[simp] theorem State.setN_used : (s.setN k v).used = s.used := State.setReg_used ..
@[simp] theorem State.setN_trays : (s.setN k v).trays = s.trays := State.setReg_trays ..
@[simp] theorem State.setN_ctxs : (s.setN k v).ctxs = s.ctxs := State.setReg_ctxs ..
@[simp] theorem State.setN_flags : (s.setN k v).flags = s.flags := State.setReg_flags ..
@[simp] theorem State.setN_cs : (s.setN k v).cs = s.cs := State.setReg_cs ..
@[simp] theorem State.setN_csBad : (s.setN k v).csBad = s.csBad := State.setReg_csBad ..
@[simp] theorem State.setN_csSoft : (s.setN k v).csSoft = s.csSoft := State.setReg_csSoft ..
@[simp] theorem State.setN_units : (s.setN k v).units = s.units := State.setReg_units ..
@[simp] theorem State.setN_upd : (s.setN k v).upd = s.upd := State.setReg_upd ..
@[simp] theorem State.setN_pios : (s.setN k v).pios = s.pios := State.setReg_pios ..
@[simp] theorem State.setN_syncAt : (s.setN k v).syncAt = s.syncAt := State.setReg_syncAt ..
@[simp] theorem State.setN_ports : (s.setN k v).ports = s.ports := State.setReg_ports ..
@[simp] theorem State.setN_ens : (s.setN k v).ens = s.ens := State.setReg_ens ..
@[simp] theorem State.setN_enps : (s.setN k v).enps = s.enps := State.setReg_enps ..
@[simp] theorem State.setN_fns : (s.setN k v).fns = s.fns := State.setReg_fns ..
@[simp] theorem State.setN_link : (s.setN k v).link = s.link := State.setReg_link ..
@[simp] theorem State.setN_srcs : (s.setN k v).srcs = s.srcs := State.setReg_srcs ..
@[simp] theorem State.setN_vecs : (s.setN k v).vecs = s.vecs := State.setReg_vecs ..
@[simp] theorem State.setN_coreStacks : (s.setN k v).coreStacks = s.coreStacks := State.setReg_coreStacks ..
@[simp] theorem State.setN_chans : (s.setN k v).chans = s.chans := State.setReg_chans ..
@[simp] theorem State.setN_pwr : (s.setN k v).pwr = s.pwr := State.setReg_pwr ..
@[simp] theorem State.setN_boot : (s.setN k v).boot = s.boot := State.setReg_boot ..
@[simp] theorem State.setN_rel : (s.setN k v).rel = s.rel := State.setReg_rel ..
@[simp] theorem State.setN_turns : (s.setN k v).turns = s.turns := State.setReg_turns ..
end setN

section setFld
variable (k lo n v : Nat)
@[simp] theorem State.setFld_pending : (s.setFld k lo n v).pending = s.pending := State.setN_pending ..
@[simp] theorem State.setFld_out : (s.setFld k lo n v).out = s.out := State.setN_out ..
@[simp] theorem State.setFld_fresh : (s.setFld k lo n v).fresh = s.fresh := State.setN_fresh ..
@[simp] theorem State.setFld_tick : (s.setFld k lo n v).tick = s.tick := State.setN_tick ..
@[simp] theorem State.setFld_shadow : (s.setFld k lo n v).shadow = s.shadow := State.setN_shadow ..
@[simp] theorem State.setFld_mem : (s.setFld k lo n v).mem = s.mem := State.setN_mem ..
@[simp] theorem State.setFld_eccBad : (s.setFld k lo n v).eccBad = s.eccBad := State.setN_eccBad ..
@[simp] theorem State.setFld_eccSoft : (s.setFld k lo n v).eccSoft = s.eccSoft := State.setN_eccSoft ..
@[simp] theorem State.setFld_tb : (s.setFld k lo n v).tb = s.tb := State.setN_tb ..
@[simp] theorem State.setFld_pages : (s.setFld k lo n v).pages = s.pages := State.setN_pages ..
@[simp] theorem State.setFld_groups : (s.setFld k lo n v).groups = s.groups := State.setN_groups ..
@[simp] theorem State.setFld_hs : (s.setFld k lo n v).hs = s.hs := State.setN_hs ..
@[simp] theorem State.setFld_cuffs : (s.setFld k lo n v).cuffs = s.cuffs := State.setN_cuffs ..
@[simp] theorem State.setFld_sleeves : (s.setFld k lo n v).sleeves = s.sleeves := State.setN_sleeves ..
@[simp] theorem State.setFld_pairs : (s.setFld k lo n v).pairs = s.pairs := State.setN_pairs ..
@[simp] theorem State.setFld_voters : (s.setFld k lo n v).voters = s.voters := State.setN_voters ..
@[simp] theorem State.setFld_queues : (s.setFld k lo n v).queues = s.queues := State.setN_queues ..
@[simp] theorem State.setFld_refs : (s.setFld k lo n v).refs = s.refs := State.setN_refs ..
@[simp] theorem State.setFld_seams : (s.setFld k lo n v).seams = s.seams := State.setN_seams ..
@[simp] theorem State.setFld_fifos : (s.setFld k lo n v).fifos = s.fifos := State.setN_fifos ..
@[simp] theorem State.setFld_votes : (s.setFld k lo n v).votes = s.votes := State.setN_votes ..
@[simp] theorem State.setFld_lanes : (s.setFld k lo n v).lanes = s.lanes := State.setN_lanes ..
@[simp] theorem State.setFld_quota : (s.setFld k lo n v).quota = s.quota := State.setN_quota ..
@[simp] theorem State.setFld_used : (s.setFld k lo n v).used = s.used := State.setN_used ..
@[simp] theorem State.setFld_trays : (s.setFld k lo n v).trays = s.trays := State.setN_trays ..
@[simp] theorem State.setFld_ctxs : (s.setFld k lo n v).ctxs = s.ctxs := State.setN_ctxs ..
@[simp] theorem State.setFld_flags : (s.setFld k lo n v).flags = s.flags := State.setN_flags ..
@[simp] theorem State.setFld_cs : (s.setFld k lo n v).cs = s.cs := State.setN_cs ..
@[simp] theorem State.setFld_csBad : (s.setFld k lo n v).csBad = s.csBad := State.setN_csBad ..
@[simp] theorem State.setFld_csSoft : (s.setFld k lo n v).csSoft = s.csSoft := State.setN_csSoft ..
@[simp] theorem State.setFld_units : (s.setFld k lo n v).units = s.units := State.setN_units ..
@[simp] theorem State.setFld_upd : (s.setFld k lo n v).upd = s.upd := State.setN_upd ..
@[simp] theorem State.setFld_pios : (s.setFld k lo n v).pios = s.pios := State.setN_pios ..
@[simp] theorem State.setFld_syncAt : (s.setFld k lo n v).syncAt = s.syncAt := State.setN_syncAt ..
@[simp] theorem State.setFld_ports : (s.setFld k lo n v).ports = s.ports := State.setN_ports ..
@[simp] theorem State.setFld_ens : (s.setFld k lo n v).ens = s.ens := State.setN_ens ..
@[simp] theorem State.setFld_enps : (s.setFld k lo n v).enps = s.enps := State.setN_enps ..
@[simp] theorem State.setFld_fns : (s.setFld k lo n v).fns = s.fns := State.setN_fns ..
@[simp] theorem State.setFld_link : (s.setFld k lo n v).link = s.link := State.setN_link ..
@[simp] theorem State.setFld_srcs : (s.setFld k lo n v).srcs = s.srcs := State.setN_srcs ..
@[simp] theorem State.setFld_vecs : (s.setFld k lo n v).vecs = s.vecs := State.setN_vecs ..
@[simp] theorem State.setFld_coreStacks : (s.setFld k lo n v).coreStacks = s.coreStacks := State.setN_coreStacks ..
@[simp] theorem State.setFld_chans : (s.setFld k lo n v).chans = s.chans := State.setN_chans ..
@[simp] theorem State.setFld_pwr : (s.setFld k lo n v).pwr = s.pwr := State.setN_pwr ..
@[simp] theorem State.setFld_boot : (s.setFld k lo n v).boot = s.boot := State.setN_boot ..
@[simp] theorem State.setFld_rel : (s.setFld k lo n v).rel = s.rel := State.setN_rel ..
@[simp] theorem State.setFld_turns : (s.setFld k lo n v).turns = s.turns := State.setN_turns ..
end setFld

section setBit
variable (k i : Nat) (b : Bool)
@[simp] theorem State.setBit_pending : (s.setBit k i b).pending = s.pending := State.setFld_pending ..
@[simp] theorem State.setBit_out : (s.setBit k i b).out = s.out := State.setFld_out ..
@[simp] theorem State.setBit_fresh : (s.setBit k i b).fresh = s.fresh := State.setFld_fresh ..
@[simp] theorem State.setBit_tick : (s.setBit k i b).tick = s.tick := State.setFld_tick ..
@[simp] theorem State.setBit_shadow : (s.setBit k i b).shadow = s.shadow := State.setFld_shadow ..
@[simp] theorem State.setBit_mem : (s.setBit k i b).mem = s.mem := State.setFld_mem ..
@[simp] theorem State.setBit_eccBad : (s.setBit k i b).eccBad = s.eccBad := State.setFld_eccBad ..
@[simp] theorem State.setBit_eccSoft : (s.setBit k i b).eccSoft = s.eccSoft := State.setFld_eccSoft ..
@[simp] theorem State.setBit_tb : (s.setBit k i b).tb = s.tb := State.setFld_tb ..
@[simp] theorem State.setBit_pages : (s.setBit k i b).pages = s.pages := State.setFld_pages ..
@[simp] theorem State.setBit_groups : (s.setBit k i b).groups = s.groups := State.setFld_groups ..
@[simp] theorem State.setBit_hs : (s.setBit k i b).hs = s.hs := State.setFld_hs ..
@[simp] theorem State.setBit_cuffs : (s.setBit k i b).cuffs = s.cuffs := State.setFld_cuffs ..
@[simp] theorem State.setBit_sleeves : (s.setBit k i b).sleeves = s.sleeves := State.setFld_sleeves ..
@[simp] theorem State.setBit_pairs : (s.setBit k i b).pairs = s.pairs := State.setFld_pairs ..
@[simp] theorem State.setBit_voters : (s.setBit k i b).voters = s.voters := State.setFld_voters ..
@[simp] theorem State.setBit_queues : (s.setBit k i b).queues = s.queues := State.setFld_queues ..
@[simp] theorem State.setBit_refs : (s.setBit k i b).refs = s.refs := State.setFld_refs ..
@[simp] theorem State.setBit_seams : (s.setBit k i b).seams = s.seams := State.setFld_seams ..
@[simp] theorem State.setBit_fifos : (s.setBit k i b).fifos = s.fifos := State.setFld_fifos ..
@[simp] theorem State.setBit_votes : (s.setBit k i b).votes = s.votes := State.setFld_votes ..
@[simp] theorem State.setBit_lanes : (s.setBit k i b).lanes = s.lanes := State.setFld_lanes ..
@[simp] theorem State.setBit_quota : (s.setBit k i b).quota = s.quota := State.setFld_quota ..
@[simp] theorem State.setBit_used : (s.setBit k i b).used = s.used := State.setFld_used ..
@[simp] theorem State.setBit_trays : (s.setBit k i b).trays = s.trays := State.setFld_trays ..
@[simp] theorem State.setBit_ctxs : (s.setBit k i b).ctxs = s.ctxs := State.setFld_ctxs ..
@[simp] theorem State.setBit_flags : (s.setBit k i b).flags = s.flags := State.setFld_flags ..
@[simp] theorem State.setBit_cs : (s.setBit k i b).cs = s.cs := State.setFld_cs ..
@[simp] theorem State.setBit_csBad : (s.setBit k i b).csBad = s.csBad := State.setFld_csBad ..
@[simp] theorem State.setBit_csSoft : (s.setBit k i b).csSoft = s.csSoft := State.setFld_csSoft ..
@[simp] theorem State.setBit_units : (s.setBit k i b).units = s.units := State.setFld_units ..
@[simp] theorem State.setBit_upd : (s.setBit k i b).upd = s.upd := State.setFld_upd ..
@[simp] theorem State.setBit_pios : (s.setBit k i b).pios = s.pios := State.setFld_pios ..
@[simp] theorem State.setBit_syncAt : (s.setBit k i b).syncAt = s.syncAt := State.setFld_syncAt ..
@[simp] theorem State.setBit_ports : (s.setBit k i b).ports = s.ports := State.setFld_ports ..
@[simp] theorem State.setBit_ens : (s.setBit k i b).ens = s.ens := State.setFld_ens ..
@[simp] theorem State.setBit_enps : (s.setBit k i b).enps = s.enps := State.setFld_enps ..
@[simp] theorem State.setBit_fns : (s.setBit k i b).fns = s.fns := State.setFld_fns ..
@[simp] theorem State.setBit_link : (s.setBit k i b).link = s.link := State.setFld_link ..
@[simp] theorem State.setBit_srcs : (s.setBit k i b).srcs = s.srcs := State.setFld_srcs ..
@[simp] theorem State.setBit_vecs : (s.setBit k i b).vecs = s.vecs := State.setFld_vecs ..
@[simp] theorem State.setBit_coreStacks : (s.setBit k i b).coreStacks = s.coreStacks := State.setFld_coreStacks ..
@[simp] theorem State.setBit_chans : (s.setBit k i b).chans = s.chans := State.setFld_chans ..
@[simp] theorem State.setBit_pwr : (s.setBit k i b).pwr = s.pwr := State.setFld_pwr ..
@[simp] theorem State.setBit_boot : (s.setBit k i b).boot = s.boot := State.setFld_boot ..
@[simp] theorem State.setBit_rel : (s.setBit k i b).rel = s.rel := State.setFld_rel ..
@[simp] theorem State.setBit_turns : (s.setBit k i b).turns = s.turns := State.setFld_turns ..
end setBit

section incSat
variable (k lo n : Nat)
@[simp] theorem State.incSat_pending : (s.incSat k lo n).pending = s.pending := State.setFld_pending ..
@[simp] theorem State.incSat_out : (s.incSat k lo n).out = s.out := State.setFld_out ..
@[simp] theorem State.incSat_fresh : (s.incSat k lo n).fresh = s.fresh := State.setFld_fresh ..
@[simp] theorem State.incSat_tick : (s.incSat k lo n).tick = s.tick := State.setFld_tick ..
@[simp] theorem State.incSat_shadow : (s.incSat k lo n).shadow = s.shadow := State.setFld_shadow ..
@[simp] theorem State.incSat_mem : (s.incSat k lo n).mem = s.mem := State.setFld_mem ..
@[simp] theorem State.incSat_eccBad : (s.incSat k lo n).eccBad = s.eccBad := State.setFld_eccBad ..
@[simp] theorem State.incSat_eccSoft : (s.incSat k lo n).eccSoft = s.eccSoft := State.setFld_eccSoft ..
@[simp] theorem State.incSat_tb : (s.incSat k lo n).tb = s.tb := State.setFld_tb ..
@[simp] theorem State.incSat_pages : (s.incSat k lo n).pages = s.pages := State.setFld_pages ..
@[simp] theorem State.incSat_groups : (s.incSat k lo n).groups = s.groups := State.setFld_groups ..
@[simp] theorem State.incSat_hs : (s.incSat k lo n).hs = s.hs := State.setFld_hs ..
@[simp] theorem State.incSat_cuffs : (s.incSat k lo n).cuffs = s.cuffs := State.setFld_cuffs ..
@[simp] theorem State.incSat_sleeves : (s.incSat k lo n).sleeves = s.sleeves := State.setFld_sleeves ..
@[simp] theorem State.incSat_pairs : (s.incSat k lo n).pairs = s.pairs := State.setFld_pairs ..
@[simp] theorem State.incSat_voters : (s.incSat k lo n).voters = s.voters := State.setFld_voters ..
@[simp] theorem State.incSat_queues : (s.incSat k lo n).queues = s.queues := State.setFld_queues ..
@[simp] theorem State.incSat_refs : (s.incSat k lo n).refs = s.refs := State.setFld_refs ..
@[simp] theorem State.incSat_seams : (s.incSat k lo n).seams = s.seams := State.setFld_seams ..
@[simp] theorem State.incSat_fifos : (s.incSat k lo n).fifos = s.fifos := State.setFld_fifos ..
@[simp] theorem State.incSat_votes : (s.incSat k lo n).votes = s.votes := State.setFld_votes ..
@[simp] theorem State.incSat_lanes : (s.incSat k lo n).lanes = s.lanes := State.setFld_lanes ..
@[simp] theorem State.incSat_quota : (s.incSat k lo n).quota = s.quota := State.setFld_quota ..
@[simp] theorem State.incSat_used : (s.incSat k lo n).used = s.used := State.setFld_used ..
@[simp] theorem State.incSat_trays : (s.incSat k lo n).trays = s.trays := State.setFld_trays ..
@[simp] theorem State.incSat_ctxs : (s.incSat k lo n).ctxs = s.ctxs := State.setFld_ctxs ..
@[simp] theorem State.incSat_flags : (s.incSat k lo n).flags = s.flags := State.setFld_flags ..
@[simp] theorem State.incSat_cs : (s.incSat k lo n).cs = s.cs := State.setFld_cs ..
@[simp] theorem State.incSat_csBad : (s.incSat k lo n).csBad = s.csBad := State.setFld_csBad ..
@[simp] theorem State.incSat_csSoft : (s.incSat k lo n).csSoft = s.csSoft := State.setFld_csSoft ..
@[simp] theorem State.incSat_units : (s.incSat k lo n).units = s.units := State.setFld_units ..
@[simp] theorem State.incSat_upd : (s.incSat k lo n).upd = s.upd := State.setFld_upd ..
@[simp] theorem State.incSat_pios : (s.incSat k lo n).pios = s.pios := State.setFld_pios ..
@[simp] theorem State.incSat_syncAt : (s.incSat k lo n).syncAt = s.syncAt := State.setFld_syncAt ..
@[simp] theorem State.incSat_ports : (s.incSat k lo n).ports = s.ports := State.setFld_ports ..
@[simp] theorem State.incSat_ens : (s.incSat k lo n).ens = s.ens := State.setFld_ens ..
@[simp] theorem State.incSat_enps : (s.incSat k lo n).enps = s.enps := State.setFld_enps ..
@[simp] theorem State.incSat_fns : (s.incSat k lo n).fns = s.fns := State.setFld_fns ..
@[simp] theorem State.incSat_link : (s.incSat k lo n).link = s.link := State.setFld_link ..
@[simp] theorem State.incSat_srcs : (s.incSat k lo n).srcs = s.srcs := State.setFld_srcs ..
@[simp] theorem State.incSat_vecs : (s.incSat k lo n).vecs = s.vecs := State.setFld_vecs ..
@[simp] theorem State.incSat_coreStacks : (s.incSat k lo n).coreStacks = s.coreStacks := State.setFld_coreStacks ..
@[simp] theorem State.incSat_chans : (s.incSat k lo n).chans = s.chans := State.setFld_chans ..
@[simp] theorem State.incSat_pwr : (s.incSat k lo n).pwr = s.pwr := State.setFld_pwr ..
@[simp] theorem State.incSat_boot : (s.incSat k lo n).boot = s.boot := State.setFld_boot ..
@[simp] theorem State.incSat_rel : (s.incSat k lo n).rel = s.rel := State.setFld_rel ..
@[simp] theorem State.incSat_turns : (s.incSat k lo n).turns = s.turns := State.setFld_turns ..
end incSat

section incWrap
variable (k lo n : Nat)
@[simp] theorem State.incWrap_pending : (s.incWrap k lo n).pending = s.pending := State.setFld_pending ..
@[simp] theorem State.incWrap_out : (s.incWrap k lo n).out = s.out := State.setFld_out ..
@[simp] theorem State.incWrap_fresh : (s.incWrap k lo n).fresh = s.fresh := State.setFld_fresh ..
@[simp] theorem State.incWrap_tick : (s.incWrap k lo n).tick = s.tick := State.setFld_tick ..
@[simp] theorem State.incWrap_shadow : (s.incWrap k lo n).shadow = s.shadow := State.setFld_shadow ..
@[simp] theorem State.incWrap_mem : (s.incWrap k lo n).mem = s.mem := State.setFld_mem ..
@[simp] theorem State.incWrap_eccBad : (s.incWrap k lo n).eccBad = s.eccBad := State.setFld_eccBad ..
@[simp] theorem State.incWrap_eccSoft : (s.incWrap k lo n).eccSoft = s.eccSoft := State.setFld_eccSoft ..
@[simp] theorem State.incWrap_tb : (s.incWrap k lo n).tb = s.tb := State.setFld_tb ..
@[simp] theorem State.incWrap_pages : (s.incWrap k lo n).pages = s.pages := State.setFld_pages ..
@[simp] theorem State.incWrap_groups : (s.incWrap k lo n).groups = s.groups := State.setFld_groups ..
@[simp] theorem State.incWrap_hs : (s.incWrap k lo n).hs = s.hs := State.setFld_hs ..
@[simp] theorem State.incWrap_cuffs : (s.incWrap k lo n).cuffs = s.cuffs := State.setFld_cuffs ..
@[simp] theorem State.incWrap_sleeves : (s.incWrap k lo n).sleeves = s.sleeves := State.setFld_sleeves ..
@[simp] theorem State.incWrap_pairs : (s.incWrap k lo n).pairs = s.pairs := State.setFld_pairs ..
@[simp] theorem State.incWrap_voters : (s.incWrap k lo n).voters = s.voters := State.setFld_voters ..
@[simp] theorem State.incWrap_queues : (s.incWrap k lo n).queues = s.queues := State.setFld_queues ..
@[simp] theorem State.incWrap_refs : (s.incWrap k lo n).refs = s.refs := State.setFld_refs ..
@[simp] theorem State.incWrap_seams : (s.incWrap k lo n).seams = s.seams := State.setFld_seams ..
@[simp] theorem State.incWrap_fifos : (s.incWrap k lo n).fifos = s.fifos := State.setFld_fifos ..
@[simp] theorem State.incWrap_votes : (s.incWrap k lo n).votes = s.votes := State.setFld_votes ..
@[simp] theorem State.incWrap_lanes : (s.incWrap k lo n).lanes = s.lanes := State.setFld_lanes ..
@[simp] theorem State.incWrap_quota : (s.incWrap k lo n).quota = s.quota := State.setFld_quota ..
@[simp] theorem State.incWrap_used : (s.incWrap k lo n).used = s.used := State.setFld_used ..
@[simp] theorem State.incWrap_trays : (s.incWrap k lo n).trays = s.trays := State.setFld_trays ..
@[simp] theorem State.incWrap_ctxs : (s.incWrap k lo n).ctxs = s.ctxs := State.setFld_ctxs ..
@[simp] theorem State.incWrap_flags : (s.incWrap k lo n).flags = s.flags := State.setFld_flags ..
@[simp] theorem State.incWrap_cs : (s.incWrap k lo n).cs = s.cs := State.setFld_cs ..
@[simp] theorem State.incWrap_csBad : (s.incWrap k lo n).csBad = s.csBad := State.setFld_csBad ..
@[simp] theorem State.incWrap_csSoft : (s.incWrap k lo n).csSoft = s.csSoft := State.setFld_csSoft ..
@[simp] theorem State.incWrap_units : (s.incWrap k lo n).units = s.units := State.setFld_units ..
@[simp] theorem State.incWrap_upd : (s.incWrap k lo n).upd = s.upd := State.setFld_upd ..
@[simp] theorem State.incWrap_pios : (s.incWrap k lo n).pios = s.pios := State.setFld_pios ..
@[simp] theorem State.incWrap_syncAt : (s.incWrap k lo n).syncAt = s.syncAt := State.setFld_syncAt ..
@[simp] theorem State.incWrap_ports : (s.incWrap k lo n).ports = s.ports := State.setFld_ports ..
@[simp] theorem State.incWrap_ens : (s.incWrap k lo n).ens = s.ens := State.setFld_ens ..
@[simp] theorem State.incWrap_enps : (s.incWrap k lo n).enps = s.enps := State.setFld_enps ..
@[simp] theorem State.incWrap_fns : (s.incWrap k lo n).fns = s.fns := State.setFld_fns ..
@[simp] theorem State.incWrap_link : (s.incWrap k lo n).link = s.link := State.setFld_link ..
@[simp] theorem State.incWrap_srcs : (s.incWrap k lo n).srcs = s.srcs := State.setFld_srcs ..
@[simp] theorem State.incWrap_vecs : (s.incWrap k lo n).vecs = s.vecs := State.setFld_vecs ..
@[simp] theorem State.incWrap_coreStacks : (s.incWrap k lo n).coreStacks = s.coreStacks := State.setFld_coreStacks ..
@[simp] theorem State.incWrap_chans : (s.incWrap k lo n).chans = s.chans := State.setFld_chans ..
@[simp] theorem State.incWrap_pwr : (s.incWrap k lo n).pwr = s.pwr := State.setFld_pwr ..
@[simp] theorem State.incWrap_boot : (s.incWrap k lo n).boot = s.boot := State.setFld_boot ..
@[simp] theorem State.incWrap_rel : (s.incWrap k lo n).rel = s.rel := State.setFld_rel ..
@[simp] theorem State.incWrap_turns : (s.incWrap k lo n).turns = s.turns := State.setFld_turns ..
end incWrap

section setPair
variable (l h v : Nat)
@[simp] theorem State.setPair_pending : (s.setPair l h v).pending = s.pending := (State.setN_pending ..).trans (State.setN_pending ..)
@[simp] theorem State.setPair_out : (s.setPair l h v).out = s.out := (State.setN_out ..).trans (State.setN_out ..)
@[simp] theorem State.setPair_fresh : (s.setPair l h v).fresh = s.fresh := (State.setN_fresh ..).trans (State.setN_fresh ..)
@[simp] theorem State.setPair_tick : (s.setPair l h v).tick = s.tick := (State.setN_tick ..).trans (State.setN_tick ..)
@[simp] theorem State.setPair_shadow : (s.setPair l h v).shadow = s.shadow := (State.setN_shadow ..).trans (State.setN_shadow ..)
@[simp] theorem State.setPair_mem : (s.setPair l h v).mem = s.mem := (State.setN_mem ..).trans (State.setN_mem ..)
@[simp] theorem State.setPair_eccBad : (s.setPair l h v).eccBad = s.eccBad := (State.setN_eccBad ..).trans (State.setN_eccBad ..)
@[simp] theorem State.setPair_eccSoft : (s.setPair l h v).eccSoft = s.eccSoft := (State.setN_eccSoft ..).trans (State.setN_eccSoft ..)
@[simp] theorem State.setPair_tb : (s.setPair l h v).tb = s.tb := (State.setN_tb ..).trans (State.setN_tb ..)
@[simp] theorem State.setPair_pages : (s.setPair l h v).pages = s.pages := (State.setN_pages ..).trans (State.setN_pages ..)
@[simp] theorem State.setPair_groups : (s.setPair l h v).groups = s.groups := (State.setN_groups ..).trans (State.setN_groups ..)
@[simp] theorem State.setPair_hs : (s.setPair l h v).hs = s.hs := (State.setN_hs ..).trans (State.setN_hs ..)
@[simp] theorem State.setPair_cuffs : (s.setPair l h v).cuffs = s.cuffs := (State.setN_cuffs ..).trans (State.setN_cuffs ..)
@[simp] theorem State.setPair_sleeves : (s.setPair l h v).sleeves = s.sleeves := (State.setN_sleeves ..).trans (State.setN_sleeves ..)
@[simp] theorem State.setPair_pairs : (s.setPair l h v).pairs = s.pairs := (State.setN_pairs ..).trans (State.setN_pairs ..)
@[simp] theorem State.setPair_voters : (s.setPair l h v).voters = s.voters := (State.setN_voters ..).trans (State.setN_voters ..)
@[simp] theorem State.setPair_queues : (s.setPair l h v).queues = s.queues := (State.setN_queues ..).trans (State.setN_queues ..)
@[simp] theorem State.setPair_refs : (s.setPair l h v).refs = s.refs := (State.setN_refs ..).trans (State.setN_refs ..)
@[simp] theorem State.setPair_seams : (s.setPair l h v).seams = s.seams := (State.setN_seams ..).trans (State.setN_seams ..)
@[simp] theorem State.setPair_fifos : (s.setPair l h v).fifos = s.fifos := (State.setN_fifos ..).trans (State.setN_fifos ..)
@[simp] theorem State.setPair_votes : (s.setPair l h v).votes = s.votes := (State.setN_votes ..).trans (State.setN_votes ..)
@[simp] theorem State.setPair_lanes : (s.setPair l h v).lanes = s.lanes := (State.setN_lanes ..).trans (State.setN_lanes ..)
@[simp] theorem State.setPair_quota : (s.setPair l h v).quota = s.quota := (State.setN_quota ..).trans (State.setN_quota ..)
@[simp] theorem State.setPair_used : (s.setPair l h v).used = s.used := (State.setN_used ..).trans (State.setN_used ..)
@[simp] theorem State.setPair_trays : (s.setPair l h v).trays = s.trays := (State.setN_trays ..).trans (State.setN_trays ..)
@[simp] theorem State.setPair_ctxs : (s.setPair l h v).ctxs = s.ctxs := (State.setN_ctxs ..).trans (State.setN_ctxs ..)
@[simp] theorem State.setPair_flags : (s.setPair l h v).flags = s.flags := (State.setN_flags ..).trans (State.setN_flags ..)
@[simp] theorem State.setPair_cs : (s.setPair l h v).cs = s.cs := (State.setN_cs ..).trans (State.setN_cs ..)
@[simp] theorem State.setPair_csBad : (s.setPair l h v).csBad = s.csBad := (State.setN_csBad ..).trans (State.setN_csBad ..)
@[simp] theorem State.setPair_csSoft : (s.setPair l h v).csSoft = s.csSoft := (State.setN_csSoft ..).trans (State.setN_csSoft ..)
@[simp] theorem State.setPair_units : (s.setPair l h v).units = s.units := (State.setN_units ..).trans (State.setN_units ..)
@[simp] theorem State.setPair_upd : (s.setPair l h v).upd = s.upd := (State.setN_upd ..).trans (State.setN_upd ..)
@[simp] theorem State.setPair_pios : (s.setPair l h v).pios = s.pios := (State.setN_pios ..).trans (State.setN_pios ..)
@[simp] theorem State.setPair_syncAt : (s.setPair l h v).syncAt = s.syncAt := (State.setN_syncAt ..).trans (State.setN_syncAt ..)
@[simp] theorem State.setPair_ports : (s.setPair l h v).ports = s.ports := (State.setN_ports ..).trans (State.setN_ports ..)
@[simp] theorem State.setPair_ens : (s.setPair l h v).ens = s.ens := (State.setN_ens ..).trans (State.setN_ens ..)
@[simp] theorem State.setPair_enps : (s.setPair l h v).enps = s.enps := (State.setN_enps ..).trans (State.setN_enps ..)
@[simp] theorem State.setPair_fns : (s.setPair l h v).fns = s.fns := (State.setN_fns ..).trans (State.setN_fns ..)
@[simp] theorem State.setPair_link : (s.setPair l h v).link = s.link := (State.setN_link ..).trans (State.setN_link ..)
@[simp] theorem State.setPair_srcs : (s.setPair l h v).srcs = s.srcs := (State.setN_srcs ..).trans (State.setN_srcs ..)
@[simp] theorem State.setPair_vecs : (s.setPair l h v).vecs = s.vecs := (State.setN_vecs ..).trans (State.setN_vecs ..)
@[simp] theorem State.setPair_coreStacks : (s.setPair l h v).coreStacks = s.coreStacks := (State.setN_coreStacks ..).trans (State.setN_coreStacks ..)
@[simp] theorem State.setPair_chans : (s.setPair l h v).chans = s.chans := (State.setN_chans ..).trans (State.setN_chans ..)
@[simp] theorem State.setPair_pwr : (s.setPair l h v).pwr = s.pwr := (State.setN_pwr ..).trans (State.setN_pwr ..)
@[simp] theorem State.setPair_boot : (s.setPair l h v).boot = s.boot := (State.setN_boot ..).trans (State.setN_boot ..)
@[simp] theorem State.setPair_rel : (s.setPair l h v).rel = s.rel := (State.setN_rel ..).trans (State.setN_rel ..)
@[simp] theorem State.setPair_turns : (s.setPair l h v).turns = s.turns := (State.setN_turns ..).trans (State.setN_turns ..)
end setPair

section setBoth
variable (k lo n v : Nat)
@[simp] theorem State.setBoth_pending : (s.setBoth k lo n v).pending = s.pending := (State.setStaged_pending ..).trans (State.setFld_pending ..)
@[simp] theorem State.setBoth_out : (s.setBoth k lo n v).out = s.out := (State.setStaged_out ..).trans (State.setFld_out ..)
@[simp] theorem State.setBoth_fresh : (s.setBoth k lo n v).fresh = s.fresh := (State.setStaged_fresh ..).trans (State.setFld_fresh ..)
@[simp] theorem State.setBoth_tick : (s.setBoth k lo n v).tick = s.tick := (State.setStaged_tick ..).trans (State.setFld_tick ..)
@[simp] theorem State.setBoth_mem : (s.setBoth k lo n v).mem = s.mem := (State.setStaged_mem ..).trans (State.setFld_mem ..)
@[simp] theorem State.setBoth_eccBad : (s.setBoth k lo n v).eccBad = s.eccBad := (State.setStaged_eccBad ..).trans (State.setFld_eccBad ..)
@[simp] theorem State.setBoth_eccSoft : (s.setBoth k lo n v).eccSoft = s.eccSoft := (State.setStaged_eccSoft ..).trans (State.setFld_eccSoft ..)
@[simp] theorem State.setBoth_tb : (s.setBoth k lo n v).tb = s.tb := (State.setStaged_tb ..).trans (State.setFld_tb ..)
@[simp] theorem State.setBoth_pages : (s.setBoth k lo n v).pages = s.pages := (State.setStaged_pages ..).trans (State.setFld_pages ..)
@[simp] theorem State.setBoth_groups : (s.setBoth k lo n v).groups = s.groups := (State.setStaged_groups ..).trans (State.setFld_groups ..)
@[simp] theorem State.setBoth_hs : (s.setBoth k lo n v).hs = s.hs := (State.setStaged_hs ..).trans (State.setFld_hs ..)
@[simp] theorem State.setBoth_cuffs : (s.setBoth k lo n v).cuffs = s.cuffs := (State.setStaged_cuffs ..).trans (State.setFld_cuffs ..)
@[simp] theorem State.setBoth_sleeves : (s.setBoth k lo n v).sleeves = s.sleeves := (State.setStaged_sleeves ..).trans (State.setFld_sleeves ..)
@[simp] theorem State.setBoth_pairs : (s.setBoth k lo n v).pairs = s.pairs := (State.setStaged_pairs ..).trans (State.setFld_pairs ..)
@[simp] theorem State.setBoth_voters : (s.setBoth k lo n v).voters = s.voters := (State.setStaged_voters ..).trans (State.setFld_voters ..)
@[simp] theorem State.setBoth_queues : (s.setBoth k lo n v).queues = s.queues := (State.setStaged_queues ..).trans (State.setFld_queues ..)
@[simp] theorem State.setBoth_refs : (s.setBoth k lo n v).refs = s.refs := (State.setStaged_refs ..).trans (State.setFld_refs ..)
@[simp] theorem State.setBoth_seams : (s.setBoth k lo n v).seams = s.seams := (State.setStaged_seams ..).trans (State.setFld_seams ..)
@[simp] theorem State.setBoth_fifos : (s.setBoth k lo n v).fifos = s.fifos := (State.setStaged_fifos ..).trans (State.setFld_fifos ..)
@[simp] theorem State.setBoth_votes : (s.setBoth k lo n v).votes = s.votes := (State.setStaged_votes ..).trans (State.setFld_votes ..)
@[simp] theorem State.setBoth_lanes : (s.setBoth k lo n v).lanes = s.lanes := (State.setStaged_lanes ..).trans (State.setFld_lanes ..)
@[simp] theorem State.setBoth_quota : (s.setBoth k lo n v).quota = s.quota := (State.setStaged_quota ..).trans (State.setFld_quota ..)
@[simp] theorem State.setBoth_used : (s.setBoth k lo n v).used = s.used := (State.setStaged_used ..).trans (State.setFld_used ..)
@[simp] theorem State.setBoth_trays : (s.setBoth k lo n v).trays = s.trays := (State.setStaged_trays ..).trans (State.setFld_trays ..)
@[simp] theorem State.setBoth_ctxs : (s.setBoth k lo n v).ctxs = s.ctxs := (State.setStaged_ctxs ..).trans (State.setFld_ctxs ..)
@[simp] theorem State.setBoth_flags : (s.setBoth k lo n v).flags = s.flags := (State.setStaged_flags ..).trans (State.setFld_flags ..)
@[simp] theorem State.setBoth_cs : (s.setBoth k lo n v).cs = s.cs := (State.setStaged_cs ..).trans (State.setFld_cs ..)
@[simp] theorem State.setBoth_csBad : (s.setBoth k lo n v).csBad = s.csBad := (State.setStaged_csBad ..).trans (State.setFld_csBad ..)
@[simp] theorem State.setBoth_csSoft : (s.setBoth k lo n v).csSoft = s.csSoft := (State.setStaged_csSoft ..).trans (State.setFld_csSoft ..)
@[simp] theorem State.setBoth_units : (s.setBoth k lo n v).units = s.units := (State.setStaged_units ..).trans (State.setFld_units ..)
@[simp] theorem State.setBoth_upd : (s.setBoth k lo n v).upd = s.upd := (State.setStaged_upd ..).trans (State.setFld_upd ..)
@[simp] theorem State.setBoth_pios : (s.setBoth k lo n v).pios = s.pios := (State.setStaged_pios ..).trans (State.setFld_pios ..)
@[simp] theorem State.setBoth_syncAt : (s.setBoth k lo n v).syncAt = s.syncAt := (State.setStaged_syncAt ..).trans (State.setFld_syncAt ..)
@[simp] theorem State.setBoth_ports : (s.setBoth k lo n v).ports = s.ports := (State.setStaged_ports ..).trans (State.setFld_ports ..)
@[simp] theorem State.setBoth_ens : (s.setBoth k lo n v).ens = s.ens := (State.setStaged_ens ..).trans (State.setFld_ens ..)
@[simp] theorem State.setBoth_enps : (s.setBoth k lo n v).enps = s.enps := (State.setStaged_enps ..).trans (State.setFld_enps ..)
@[simp] theorem State.setBoth_fns : (s.setBoth k lo n v).fns = s.fns := (State.setStaged_fns ..).trans (State.setFld_fns ..)
@[simp] theorem State.setBoth_link : (s.setBoth k lo n v).link = s.link := (State.setStaged_link ..).trans (State.setFld_link ..)
@[simp] theorem State.setBoth_srcs : (s.setBoth k lo n v).srcs = s.srcs := (State.setStaged_srcs ..).trans (State.setFld_srcs ..)
@[simp] theorem State.setBoth_vecs : (s.setBoth k lo n v).vecs = s.vecs := (State.setStaged_vecs ..).trans (State.setFld_vecs ..)
@[simp] theorem State.setBoth_coreStacks : (s.setBoth k lo n v).coreStacks = s.coreStacks := (State.setStaged_coreStacks ..).trans (State.setFld_coreStacks ..)
@[simp] theorem State.setBoth_chans : (s.setBoth k lo n v).chans = s.chans := (State.setStaged_chans ..).trans (State.setFld_chans ..)
@[simp] theorem State.setBoth_pwr : (s.setBoth k lo n v).pwr = s.pwr := (State.setStaged_pwr ..).trans (State.setFld_pwr ..)
@[simp] theorem State.setBoth_boot : (s.setBoth k lo n v).boot = s.boot := (State.setStaged_boot ..).trans (State.setFld_boot ..)
@[simp] theorem State.setBoth_rel : (s.setBoth k lo n v).rel = s.rel := (State.setStaged_rel ..).trans (State.setFld_rel ..)
@[simp] theorem State.setBoth_turns : (s.setBoth k lo n v).turns = s.turns := (State.setStaged_turns ..).trans (State.setFld_turns ..)
end setBoth

section pgErr
variable (p b : Nat)
@[simp] theorem State.pgErr_pending : (s.pgErr p b).pending = s.pending := State.setBit_pending ..
@[simp] theorem State.pgErr_out : (s.pgErr p b).out = s.out := State.setBit_out ..
@[simp] theorem State.pgErr_fresh : (s.pgErr p b).fresh = s.fresh := State.setBit_fresh ..
@[simp] theorem State.pgErr_tick : (s.pgErr p b).tick = s.tick := State.setBit_tick ..
@[simp] theorem State.pgErr_shadow : (s.pgErr p b).shadow = s.shadow := State.setBit_shadow ..
@[simp] theorem State.pgErr_mem : (s.pgErr p b).mem = s.mem := State.setBit_mem ..
@[simp] theorem State.pgErr_eccBad : (s.pgErr p b).eccBad = s.eccBad := State.setBit_eccBad ..
@[simp] theorem State.pgErr_eccSoft : (s.pgErr p b).eccSoft = s.eccSoft := State.setBit_eccSoft ..
@[simp] theorem State.pgErr_tb : (s.pgErr p b).tb = s.tb := State.setBit_tb ..
@[simp] theorem State.pgErr_pages : (s.pgErr p b).pages = s.pages := State.setBit_pages ..
@[simp] theorem State.pgErr_groups : (s.pgErr p b).groups = s.groups := State.setBit_groups ..
@[simp] theorem State.pgErr_hs : (s.pgErr p b).hs = s.hs := State.setBit_hs ..
@[simp] theorem State.pgErr_cuffs : (s.pgErr p b).cuffs = s.cuffs := State.setBit_cuffs ..
@[simp] theorem State.pgErr_sleeves : (s.pgErr p b).sleeves = s.sleeves := State.setBit_sleeves ..
@[simp] theorem State.pgErr_pairs : (s.pgErr p b).pairs = s.pairs := State.setBit_pairs ..
@[simp] theorem State.pgErr_voters : (s.pgErr p b).voters = s.voters := State.setBit_voters ..
@[simp] theorem State.pgErr_queues : (s.pgErr p b).queues = s.queues := State.setBit_queues ..
@[simp] theorem State.pgErr_refs : (s.pgErr p b).refs = s.refs := State.setBit_refs ..
@[simp] theorem State.pgErr_seams : (s.pgErr p b).seams = s.seams := State.setBit_seams ..
@[simp] theorem State.pgErr_fifos : (s.pgErr p b).fifos = s.fifos := State.setBit_fifos ..
@[simp] theorem State.pgErr_votes : (s.pgErr p b).votes = s.votes := State.setBit_votes ..
@[simp] theorem State.pgErr_lanes : (s.pgErr p b).lanes = s.lanes := State.setBit_lanes ..
@[simp] theorem State.pgErr_quota : (s.pgErr p b).quota = s.quota := State.setBit_quota ..
@[simp] theorem State.pgErr_used : (s.pgErr p b).used = s.used := State.setBit_used ..
@[simp] theorem State.pgErr_trays : (s.pgErr p b).trays = s.trays := State.setBit_trays ..
@[simp] theorem State.pgErr_ctxs : (s.pgErr p b).ctxs = s.ctxs := State.setBit_ctxs ..
@[simp] theorem State.pgErr_flags : (s.pgErr p b).flags = s.flags := State.setBit_flags ..
@[simp] theorem State.pgErr_cs : (s.pgErr p b).cs = s.cs := State.setBit_cs ..
@[simp] theorem State.pgErr_csBad : (s.pgErr p b).csBad = s.csBad := State.setBit_csBad ..
@[simp] theorem State.pgErr_csSoft : (s.pgErr p b).csSoft = s.csSoft := State.setBit_csSoft ..
@[simp] theorem State.pgErr_units : (s.pgErr p b).units = s.units := State.setBit_units ..
@[simp] theorem State.pgErr_upd : (s.pgErr p b).upd = s.upd := State.setBit_upd ..
@[simp] theorem State.pgErr_pios : (s.pgErr p b).pios = s.pios := State.setBit_pios ..
@[simp] theorem State.pgErr_syncAt : (s.pgErr p b).syncAt = s.syncAt := State.setBit_syncAt ..
@[simp] theorem State.pgErr_ports : (s.pgErr p b).ports = s.ports := State.setBit_ports ..
@[simp] theorem State.pgErr_ens : (s.pgErr p b).ens = s.ens := State.setBit_ens ..
@[simp] theorem State.pgErr_enps : (s.pgErr p b).enps = s.enps := State.setBit_enps ..
@[simp] theorem State.pgErr_fns : (s.pgErr p b).fns = s.fns := State.setBit_fns ..
@[simp] theorem State.pgErr_link : (s.pgErr p b).link = s.link := State.setBit_link ..
@[simp] theorem State.pgErr_srcs : (s.pgErr p b).srcs = s.srcs := State.setBit_srcs ..
@[simp] theorem State.pgErr_vecs : (s.pgErr p b).vecs = s.vecs := State.setBit_vecs ..
@[simp] theorem State.pgErr_coreStacks : (s.pgErr p b).coreStacks = s.coreStacks := State.setBit_coreStacks ..
@[simp] theorem State.pgErr_chans : (s.pgErr p b).chans = s.chans := State.setBit_chans ..
@[simp] theorem State.pgErr_pwr : (s.pgErr p b).pwr = s.pwr := State.setBit_pwr ..
@[simp] theorem State.pgErr_boot : (s.pgErr p b).boot = s.boot := State.setBit_boot ..
@[simp] theorem State.pgErr_rel : (s.pgErr p b).rel = s.rel := State.setBit_rel ..
@[simp] theorem State.pgErr_turns : (s.pgErr p b).turns = s.turns := State.setBit_turns ..
end pgErr

section pgErrCode
variable (p b c : Nat)
@[simp] theorem State.pgErrCode_pending : (s.pgErrCode p b c).pending = s.pending := (State.setFld_pending ..).trans (State.pgErr_pending ..)
@[simp] theorem State.pgErrCode_out : (s.pgErrCode p b c).out = s.out := (State.setFld_out ..).trans (State.pgErr_out ..)
@[simp] theorem State.pgErrCode_fresh : (s.pgErrCode p b c).fresh = s.fresh := (State.setFld_fresh ..).trans (State.pgErr_fresh ..)
@[simp] theorem State.pgErrCode_tick : (s.pgErrCode p b c).tick = s.tick := (State.setFld_tick ..).trans (State.pgErr_tick ..)
@[simp] theorem State.pgErrCode_shadow : (s.pgErrCode p b c).shadow = s.shadow := (State.setFld_shadow ..).trans (State.pgErr_shadow ..)
@[simp] theorem State.pgErrCode_mem : (s.pgErrCode p b c).mem = s.mem := (State.setFld_mem ..).trans (State.pgErr_mem ..)
@[simp] theorem State.pgErrCode_eccBad : (s.pgErrCode p b c).eccBad = s.eccBad := (State.setFld_eccBad ..).trans (State.pgErr_eccBad ..)
@[simp] theorem State.pgErrCode_eccSoft : (s.pgErrCode p b c).eccSoft = s.eccSoft := (State.setFld_eccSoft ..).trans (State.pgErr_eccSoft ..)
@[simp] theorem State.pgErrCode_tb : (s.pgErrCode p b c).tb = s.tb := (State.setFld_tb ..).trans (State.pgErr_tb ..)
@[simp] theorem State.pgErrCode_pages : (s.pgErrCode p b c).pages = s.pages := (State.setFld_pages ..).trans (State.pgErr_pages ..)
@[simp] theorem State.pgErrCode_groups : (s.pgErrCode p b c).groups = s.groups := (State.setFld_groups ..).trans (State.pgErr_groups ..)
@[simp] theorem State.pgErrCode_hs : (s.pgErrCode p b c).hs = s.hs := (State.setFld_hs ..).trans (State.pgErr_hs ..)
@[simp] theorem State.pgErrCode_cuffs : (s.pgErrCode p b c).cuffs = s.cuffs := (State.setFld_cuffs ..).trans (State.pgErr_cuffs ..)
@[simp] theorem State.pgErrCode_sleeves : (s.pgErrCode p b c).sleeves = s.sleeves := (State.setFld_sleeves ..).trans (State.pgErr_sleeves ..)
@[simp] theorem State.pgErrCode_pairs : (s.pgErrCode p b c).pairs = s.pairs := (State.setFld_pairs ..).trans (State.pgErr_pairs ..)
@[simp] theorem State.pgErrCode_voters : (s.pgErrCode p b c).voters = s.voters := (State.setFld_voters ..).trans (State.pgErr_voters ..)
@[simp] theorem State.pgErrCode_queues : (s.pgErrCode p b c).queues = s.queues := (State.setFld_queues ..).trans (State.pgErr_queues ..)
@[simp] theorem State.pgErrCode_refs : (s.pgErrCode p b c).refs = s.refs := (State.setFld_refs ..).trans (State.pgErr_refs ..)
@[simp] theorem State.pgErrCode_seams : (s.pgErrCode p b c).seams = s.seams := (State.setFld_seams ..).trans (State.pgErr_seams ..)
@[simp] theorem State.pgErrCode_fifos : (s.pgErrCode p b c).fifos = s.fifos := (State.setFld_fifos ..).trans (State.pgErr_fifos ..)
@[simp] theorem State.pgErrCode_votes : (s.pgErrCode p b c).votes = s.votes := (State.setFld_votes ..).trans (State.pgErr_votes ..)
@[simp] theorem State.pgErrCode_lanes : (s.pgErrCode p b c).lanes = s.lanes := (State.setFld_lanes ..).trans (State.pgErr_lanes ..)
@[simp] theorem State.pgErrCode_quota : (s.pgErrCode p b c).quota = s.quota := (State.setFld_quota ..).trans (State.pgErr_quota ..)
@[simp] theorem State.pgErrCode_used : (s.pgErrCode p b c).used = s.used := (State.setFld_used ..).trans (State.pgErr_used ..)
@[simp] theorem State.pgErrCode_trays : (s.pgErrCode p b c).trays = s.trays := (State.setFld_trays ..).trans (State.pgErr_trays ..)
@[simp] theorem State.pgErrCode_ctxs : (s.pgErrCode p b c).ctxs = s.ctxs := (State.setFld_ctxs ..).trans (State.pgErr_ctxs ..)
@[simp] theorem State.pgErrCode_flags : (s.pgErrCode p b c).flags = s.flags := (State.setFld_flags ..).trans (State.pgErr_flags ..)
@[simp] theorem State.pgErrCode_cs : (s.pgErrCode p b c).cs = s.cs := (State.setFld_cs ..).trans (State.pgErr_cs ..)
@[simp] theorem State.pgErrCode_csBad : (s.pgErrCode p b c).csBad = s.csBad := (State.setFld_csBad ..).trans (State.pgErr_csBad ..)
@[simp] theorem State.pgErrCode_csSoft : (s.pgErrCode p b c).csSoft = s.csSoft := (State.setFld_csSoft ..).trans (State.pgErr_csSoft ..)
@[simp] theorem State.pgErrCode_units : (s.pgErrCode p b c).units = s.units := (State.setFld_units ..).trans (State.pgErr_units ..)
@[simp] theorem State.pgErrCode_upd : (s.pgErrCode p b c).upd = s.upd := (State.setFld_upd ..).trans (State.pgErr_upd ..)
@[simp] theorem State.pgErrCode_pios : (s.pgErrCode p b c).pios = s.pios := (State.setFld_pios ..).trans (State.pgErr_pios ..)
@[simp] theorem State.pgErrCode_syncAt : (s.pgErrCode p b c).syncAt = s.syncAt := (State.setFld_syncAt ..).trans (State.pgErr_syncAt ..)
@[simp] theorem State.pgErrCode_ports : (s.pgErrCode p b c).ports = s.ports := (State.setFld_ports ..).trans (State.pgErr_ports ..)
@[simp] theorem State.pgErrCode_ens : (s.pgErrCode p b c).ens = s.ens := (State.setFld_ens ..).trans (State.pgErr_ens ..)
@[simp] theorem State.pgErrCode_enps : (s.pgErrCode p b c).enps = s.enps := (State.setFld_enps ..).trans (State.pgErr_enps ..)
@[simp] theorem State.pgErrCode_fns : (s.pgErrCode p b c).fns = s.fns := (State.setFld_fns ..).trans (State.pgErr_fns ..)
@[simp] theorem State.pgErrCode_link : (s.pgErrCode p b c).link = s.link := (State.setFld_link ..).trans (State.pgErr_link ..)
@[simp] theorem State.pgErrCode_srcs : (s.pgErrCode p b c).srcs = s.srcs := (State.setFld_srcs ..).trans (State.pgErr_srcs ..)
@[simp] theorem State.pgErrCode_vecs : (s.pgErrCode p b c).vecs = s.vecs := (State.setFld_vecs ..).trans (State.pgErr_vecs ..)
@[simp] theorem State.pgErrCode_coreStacks : (s.pgErrCode p b c).coreStacks = s.coreStacks := (State.setFld_coreStacks ..).trans (State.pgErr_coreStacks ..)
@[simp] theorem State.pgErrCode_chans : (s.pgErrCode p b c).chans = s.chans := (State.setFld_chans ..).trans (State.pgErr_chans ..)
@[simp] theorem State.pgErrCode_pwr : (s.pgErrCode p b c).pwr = s.pwr := (State.setFld_pwr ..).trans (State.pgErr_pwr ..)
@[simp] theorem State.pgErrCode_boot : (s.pgErrCode p b c).boot = s.boot := (State.setFld_boot ..).trans (State.pgErr_boot ..)
@[simp] theorem State.pgErrCode_rel : (s.pgErrCode p b c).rel = s.rel := (State.setFld_rel ..).trans (State.pgErr_rel ..)
@[simp] theorem State.pgErrCode_turns : (s.pgErrCode p b c).turns = s.turns := (State.setFld_turns ..).trans (State.pgErr_turns ..)
end pgErrCode

end Sys2Proof.Machine
end

