-- ==== Sys2Proof/Laws/Tables.lean ====
section
/-! SUPPORT. The laws of tables: a read after a write, and the canonical form kept by every write. -/

namespace Sys2Proof.Machine

open Sys2Proof

variable {α : Type}

theorem Tbl.get_put_same (d : α) (t : Tbl α) (k : Nat) (v : α) : Tbl.get d (Tbl.put t k v) k = v := by
  induction t with
  | nil => simp [Tbl.put, Tbl.get]
  | cons e r ih =>
    obtain ⟨a, x⟩ := e
    simp only [Tbl.put]
    split
    · simp [Tbl.get]
    · split
      · simp [Tbl.get]
      · rename_i h _
        simp [Tbl.get, h, ih]

theorem Tbl.get_put_other (d : α) (t : Tbl α) {k j : Nat} (h : j ≠ k) (v : α) :
    Tbl.get d (Tbl.put t k v) j = Tbl.get d t j := by
  induction t with
  | nil => simp [Tbl.put, Tbl.get, Ne.symm h]
  | cons e r ih =>
    obtain ⟨a, x⟩ := e
    simp only [Tbl.put]
    split
    · subst a; simp [Tbl.get, Ne.symm h]
    · split
      · simp [Tbl.get, Ne.symm h]
      · simp only [Tbl.get]; split <;> simp [ih]

theorem Tbl.get_drop_same (d : α) (t : Tbl α) (k : Nat) : Tbl.get d (Tbl.drop t k) k = d := by
  induction t with
  | nil => rfl
  | cons e r ih =>
    obtain ⟨a, x⟩ := e
    by_cases h : a = k
    · simpa [Tbl.drop, h] using ih
    · have : Tbl.drop ((a, x) :: r) k = (a, x) :: Tbl.drop r k := by simp [Tbl.drop, h]
      simp [this, Tbl.get, h, ih]

theorem Tbl.get_drop_other (d : α) (t : Tbl α) {k j : Nat} (h : j ≠ k) :
    Tbl.get d (Tbl.drop t k) j = Tbl.get d t j := by
  induction t with
  | nil => rfl
  | cons e r ih =>
    obtain ⟨a, x⟩ := e
    by_cases ha : a = k
    · have : Tbl.drop ((a, x) :: r) k = Tbl.drop r k := by simp [Tbl.drop, ha]
      rw [this, ih]; subst a; simp [Tbl.get, Ne.symm h]
    · have : Tbl.drop ((a, x) :: r) k = (a, x) :: Tbl.drop r k := by simp [Tbl.drop, ha]
      rw [this]; simp only [Tbl.get]; split <;> simp [ih]

/-- Keys rise strictly. -/
abbrev Tbl.Rising (t : Tbl α) : Prop := t.Pairwise fun x y => x.1 < y.1

theorem Tbl.mem_put {t : Tbl α} {k : Nat} {v : α} {e : Nat × α} (h : e ∈ Tbl.put t k v) : e = (k, v) ∨ e ∈ t := by
  induction t with
  | nil => simpa [Tbl.put] using h
  | cons x r ih =>
    obtain ⟨a, y⟩ := x
    simp only [Tbl.put] at h
    split at h
    · rcases List.mem_cons.mp h with h | h
      · exact .inl h
      · exact .inr (List.mem_cons_of_mem _ h)
    · split at h
      · rcases List.mem_cons.mp h with h | h
        · exact .inl h
        · exact .inr h
      · rcases List.mem_cons.mp h with h | h
        · exact .inr (h ▸ List.mem_cons_self)
        · exact (ih h).imp_right (List.mem_cons_of_mem _)

theorem Tbl.rising_put {t : Tbl α} (k : Nat) (v : α) (h : Tbl.Rising t) : Tbl.Rising (Tbl.put t k v) := by
  induction t with
  | nil => simp [Tbl.put, Tbl.Rising]
  | cons x r ih =>
    obtain ⟨a, y⟩ := x
    have h' := List.pairwise_cons.mp h
    simp only [Tbl.put]
    split
    · next e => subst e; exact List.pairwise_cons.mpr ⟨h'.1, h'.2⟩
    · split
      · next hlt =>
        refine List.pairwise_cons.mpr ⟨?_, h⟩
        intro e he
        rcases List.mem_cons.mp he with he | he
        · exact he ▸ hlt
        · exact Nat.lt_trans hlt (h'.1 e he)
      · next hne hge =>
        refine List.pairwise_cons.mpr ⟨?_, ih h'.2⟩
        intro e he
        rcases Tbl.mem_put he with he | he
        · subst he; simp only; omega
        · exact h'.1 e he

variable [DecidableEq α]

@[simp] theorem Tbl.get_set_same (d : α) (t : Tbl α) (k : Nat) (v : α) : Tbl.get d (Tbl.set d t k v) k = v := by
  unfold Tbl.set; split
  · next h => rw [h]; exact Tbl.get_drop_same d t k
  · exact Tbl.get_put_same d t k v

theorem Tbl.get_set_other (d : α) (t : Tbl α) {k j : Nat} (h : j ≠ k) (v : α) :
    Tbl.get d (Tbl.set d t k v) j = Tbl.get d t j := by
  unfold Tbl.set; split
  · exact Tbl.get_drop_other d t h
  · exact Tbl.get_put_other d t h v

theorem Tbl.get_set (d : α) (t : Tbl α) (k j : Nat) (v : α) :
    Tbl.get d (Tbl.set d t k v) j = if j = k then v else Tbl.get d t j := by
  split
  · next h => rw [h]; exact Tbl.get_set_same d t k v
  · next h => exact Tbl.get_set_other d t h v

theorem Tbl.rising_set {d : α} {t : Tbl α} (k : Nat) (v : α) (h : Tbl.Rising t) : Tbl.Rising (Tbl.set d t k v) := by
  unfold Tbl.set; split
  · exact List.Pairwise.filter _ h
  · exact Tbl.rising_put k v h

theorem Tbl.mem_set {d : α} {t : Tbl α} {k : Nat} {v : α} {e : Nat × α} (h : e ∈ Tbl.set d t k v) :
    (e = (k, v) ∧ v ≠ d) ∨ e ∈ t := by
  unfold Tbl.set at h; split at h
  · exact .inr (List.mem_filter.mp h).1
  · next hv => exact (Tbl.mem_put h).imp_left fun x => ⟨x, hv⟩

/-- A write keeps the canonical form. -/
theorem Tbl.wf_set (d : α) {t : Tbl α} (k : Nat) (v : α) (h : Tbl.wf d t = true) : Tbl.wf d (Tbl.set d t k v) = true := by
  simp only [Tbl.wf, Bool.and_eq_true, decide_eq_true_eq, List.all_eq_true] at h ⊢
  refine ⟨Tbl.rising_set k v h.1, fun e he => ?_⟩
  rcases Tbl.mem_set he with ⟨rfl, hv⟩ | he
  · exact hv
  · exact h.2 e he

/-- Taking entries out keeps the canonical form. -/
theorem Tbl.wf_filter (d : α) {t : Tbl α} (p : Nat × α → Bool) (h : Tbl.wf d t = true) :
    Tbl.wf d (t.filter p) = true := by
  simp only [Tbl.wf, Bool.and_eq_true, decide_eq_true_eq, List.all_eq_true] at h ⊢
  exact ⟨List.Pairwise.filter _ h.1, fun e he => h.2 e (List.mem_filter.mp he).1⟩

end Sys2Proof.Machine
end

