-- ==== Sys2Proof/Laws/Fields.lean ====
section
/-! SUPPORT. The laws of bit fields, of registers and of the typed tables of State. -/

namespace Sys2Proof.Machine

open Sys2Proof

/-! ### Numbers -/

theorem bits_lt (w lo n : Nat) : bits w lo n < 2 ^ n := Nat.mod_lt _ (Nat.pos_of_ne_zero (by simp))

theorem bits_mul_le (w lo n : Nat) : bits w lo n * 2 ^ lo ≤ w := by
  unfold bits
  exact Nat.le_trans (Nat.mul_le_mul_right _ (Nat.mod_le _ _)) (Nat.div_mul_le_self w _)

/-- A number is its low part, a field and the rest. -/
theorem split_bits (w lo n : Nat) : w = w % 2 ^ lo + bits w lo n * 2 ^ lo + w / 2 ^ (lo + n) * 2 ^ (lo + n) := by
  have h1 := Nat.div_add_mod w (2 ^ lo)
  have h2 := Nat.div_add_mod (w / 2 ^ lo) (2 ^ n)
  rw [Nat.div_div_eq_div_mul, ← Nat.pow_add] at h2
  unfold bits
  rw [Nat.pow_add] at h2 ⊢
  calc w = 2 ^ lo * (w / 2 ^ lo) + w % 2 ^ lo := h1.symm
    _ = 2 ^ lo * (2 ^ n * (w / (2 ^ lo * 2 ^ n)) + w / 2 ^ lo % 2 ^ n) + w % 2 ^ lo := by rw [h2]
    _ = _ := by ring

theorem putBits_eq (w lo n v : Nat) :
    putBits w lo n v = w % 2 ^ lo + v % 2 ^ n * 2 ^ lo + w / 2 ^ (lo + n) * 2 ^ (lo + n) := by
  have h := split_bits w lo n
  unfold putBits
  omega

/-- The field that was put. -/
@[simp] theorem bits_putBits_same (w lo n v : Nat) : bits (putBits w lo n v) lo n = v % 2 ^ n := by
  rw [putBits_eq, bits, Nat.pow_add]
  have h : w % 2 ^ lo + v % 2 ^ n * 2 ^ lo + w / (2 ^ lo * 2 ^ n) * (2 ^ lo * 2 ^ n)
      = w % 2 ^ lo + (v % 2 ^ n + w / (2 ^ lo * 2 ^ n) * 2 ^ n) * 2 ^ lo := by ring
  rw [h, Nat.add_mul_div_right _ _ (Nat.two_pow_pos lo), Nat.div_eq_of_lt (Nat.mod_lt _ (Nat.two_pow_pos lo))]
  simp

/-- A field below the one that was put. -/
theorem bits_putBits_below (w lo n v a m : Nat) (h : a + m ≤ lo) : bits (putBits w lo n v) a m = bits w a m := by
  have key : ∀ x, bits x a m = bits (x % 2 ^ lo) a m := fun x => by
    obtain ⟨c, rfl⟩ := Nat.exists_eq_add_of_le h
    unfold bits
    rw [Nat.pow_add, Nat.pow_add, Nat.mul_assoc, Nat.mod_mul_right_div_self, Nat.mod_mul_right_mod]
  rw [key, key w, putBits_eq, Nat.pow_add]
  congr 1
  have : w % 2 ^ lo + v % 2 ^ n * 2 ^ lo + w / (2 ^ lo * 2 ^ n) * (2 ^ lo * 2 ^ n)
      = w % 2 ^ lo + 2 ^ lo * (v % 2 ^ n + w / (2 ^ lo * 2 ^ n) * 2 ^ n) := by ring
  rw [this, Nat.add_mul_mod_self_left, Nat.mod_mod]

/-- A field above the one that was put. -/
theorem bits_putBits_above (w lo n v a m : Nat) (h : lo + n ≤ a) : bits (putBits w lo n v) a m = bits w a m := by
  have key : putBits w lo n v / 2 ^ (lo + n) = w / 2 ^ (lo + n) := by
    rw [putBits_eq, Nat.add_mul_div_right _ _ (Nat.two_pow_pos _), Nat.div_eq_of_lt, Nat.zero_add]
    have h1 := Nat.mod_lt w (Nat.two_pow_pos lo)
    have h2 := Nat.mod_lt v (Nat.two_pow_pos n)
    rw [Nat.pow_add]
    calc w % 2 ^ lo + v % 2 ^ n * 2 ^ lo < 2 ^ lo + v % 2 ^ n * 2 ^ lo := by omega
      _ = (v % 2 ^ n + 1) * 2 ^ lo := by ring
      _ ≤ 2 ^ n * 2 ^ lo := Nat.mul_le_mul_right _ h2
      _ = _ := Nat.mul_comm _ _
  obtain ⟨c, rfl⟩ := Nat.exists_eq_add_of_le h
  unfold bits
  rw [Nat.pow_add, ← Nat.div_div_eq_div_mul, ← Nat.div_div_eq_div_mul, key]

theorem putBits_lt (w lo n v : Nat) (h : lo + n ≤ 32) (hw : w < 2 ^ 32) : putBits w lo n v < 2 ^ 32 := by
  obtain ⟨c, hc⟩ := Nat.exists_eq_add_of_le h
  rw [putBits_eq]
  have h1 := Nat.mod_lt w (Nat.two_pow_pos lo)
  have h2 := Nat.mod_lt v (Nat.two_pow_pos n)
  have h3 : w / 2 ^ (lo + n) < 2 ^ c := by
    rw [Nat.div_lt_iff_lt_mul (Nat.two_pow_pos _), ← Nat.pow_add, Nat.add_comm c, ← hc]; exact hw
  have e1 : 2 ^ 32 = 2 ^ c * 2 ^ (lo + n) := by rw [← Nat.pow_add, Nat.add_comm c, ← hc]
  calc w % 2 ^ lo + v % 2 ^ n * 2 ^ lo + w / 2 ^ (lo + n) * 2 ^ (lo + n)
      < 2 ^ lo + v % 2 ^ n * 2 ^ lo + w / 2 ^ (lo + n) * 2 ^ (lo + n) := by omega
    _ = (v % 2 ^ n + 1) * 2 ^ lo + w / 2 ^ (lo + n) * 2 ^ (lo + n) := by ring
    _ ≤ 2 ^ n * 2 ^ lo + w / 2 ^ (lo + n) * 2 ^ (lo + n) := by
        exact Nat.add_le_add_right (Nat.mul_le_mul_right _ h2) _
    _ = (w / 2 ^ (lo + n) + 1) * 2 ^ (lo + n) := by rw [Nat.pow_add]; ring
    _ ≤ 2 ^ c * 2 ^ (lo + n) := Nat.mul_le_mul_right _ h3
    _ = 2 ^ 32 := e1.symm

theorem bitAt_eq (w i : Nat) : bitAt w i = decide (bits w i 1 = 1) := rfl

theorem b2n_mod (b : Bool) : b2n b % 2 ^ 1 = b2n b := by cases b <;> rfl

@[simp] theorem b2n_eq_one (b : Bool) : (b2n b = 1) = (b = true) := by cases b <;> simp [b2n]

/-! ### Registers -/

variable (s : State)

@[simp] theorem State.reg_setReg_same (k : Nat) (v : Word) : (s.setReg k v).reg k = v := by
  simp [State.reg, State.setReg]

theorem State.reg_setReg_other {k j : Nat} (h : j ≠ k) (v : Word) : (s.setReg k v).reg j = s.reg j := by
  unfold State.reg State.setReg
  simp only [Tbl.set]
  split
  · exact Tbl.get_drop_other _ _ h
  · exact Tbl.get_put_other _ _ h _

@[simp] theorem State.regN_setN_same (k v : Nat) : (s.setN k v).regN k = v % 2 ^ 32 := by
  simp [State.setN, State.regN, word]

theorem State.reg_setN_other {k j : Nat} (h : j ≠ k) (v : Nat) : (s.setN k v).reg j = s.reg j :=
  s.reg_setReg_other h _

theorem State.reg_setFld_other {k j : Nat} (h : j ≠ k) (lo n v : Nat) : (s.setFld k lo n v).reg j = s.reg j :=
  s.reg_setN_other h _

theorem State.reg_setBit_other {k j : Nat} (h : j ≠ k) (i : Nat) (b : Bool) : (s.setBit k i b).reg j = s.reg j :=
  s.reg_setFld_other h ..

theorem State.regN_lt (k : Nat) : s.regN k < 2 ^ 32 := (s.reg k).isLt

theorem State.regN_setFld_same (k lo n v : Nat) (h : lo + n ≤ 32) :
    (s.setFld k lo n v).regN k = putBits (s.regN k) lo n v := by
  rw [State.setFld, State.regN_setN_same, Nat.mod_eq_of_lt (putBits_lt _ _ _ _ h (s.regN_lt k))]

theorem State.fld_setFld_same (k lo n v : Nat) (h : lo + n ≤ 32) : (s.setFld k lo n v).fld k lo n = v % 2 ^ n := by
  rw [State.fld, State.regN_setFld_same _ _ _ _ _ h, bits_putBits_same]

theorem State.fld_setFld_apart (k lo n v a m : Nat) (h : lo + n ≤ 32) (hd : a + m ≤ lo ∨ lo + n ≤ a) :
    (s.setFld k lo n v).fld k a m = s.fld k a m := by
  rw [State.fld, State.regN_setFld_same _ _ _ _ _ h]
  rcases hd with hd | hd
  · exact bits_putBits_below _ _ _ _ _ _ hd
  · exact bits_putBits_above _ _ _ _ _ _ hd

theorem State.bit_setBit_same (k i : Nat) (b : Bool) (h : i < 32) : (s.setBit k i b).bit k i = b := by
  show decide (State.fld _ k i 1 = 1) = b
  rw [State.setBit, State.fld_setFld_same _ _ _ _ _ h, b2n_mod]
  cases b <;> rfl

theorem State.bit_setBit_apart (k i j : Nat) (b : Bool) (h : i < 32) (hd : j ≠ i) : (s.setBit k i b).bit k j = s.bit k j := by
  show decide (State.fld _ k j 1 = 1) = decide (State.fld _ k j 1 = 1)
  rw [State.setBit, State.fld_setFld_apart _ _ _ _ _ _ _ h (by omega)]

/-! ### Typed tables -/

theorem State.cuff_setCuff (c c' : Nat) (v : Cuff) : (s.setCuff c v).cuff c' = if c' = c then v else s.cuff c' :=
  Tbl.get_set _ _ _ _ _
theorem State.page_setPage (c c' : Nat) (v : Page) : (s.setPage c v).page c' = if c' = c then v else s.page c' :=
  Tbl.get_set _ _ _ _ _
theorem State.group_setGroup (c c' : Nat) (v : Group) : (s.setGroup c v).group c' = if c' = c then v else s.group c' :=
  Tbl.get_set _ _ _ _ _
theorem State.sleeve_setSleeve (c c' : Nat) (v : Sleeve) : (s.setSleeve c v).sleeve c' = if c' = c then v else s.sleeve c' :=
  Tbl.get_set _ _ _ _ _
theorem State.pairSt_setPairSt (c c' : Nat) (v : Pair) : (s.setPairSt c v).pairSt c' = if c' = c then v else s.pairSt c' :=
  Tbl.get_set _ _ _ _ _
theorem State.voter_setVoter (c c' : Nat) (v : Voter) : (s.setVoter c v).voter c' = if c' = c then v else s.voter c' :=
  Tbl.get_set _ _ _ _ _
theorem State.queue_setQueue (c c' : Nat) (v : Queue) : (s.setQueue c v).queue c' = if c' = c then v else s.queue c' :=
  Tbl.get_set _ _ _ _ _
theorem State.fifo_setFifo (c c' : Nat) (v : List Flight) : (s.setFifo c v).fifo c' = if c' = c then v else s.fifo c' :=
  Tbl.get_set _ _ _ _ _
theorem State.tray_setTray (c c' : Nat) (v : Tray) : (s.setTray c v).tray c' = if c' = c then v else s.tray c' :=
  Tbl.get_set _ _ _ _ _
theorem State.ctx_setCtx (c c' : Nat) (v : Ctx) : (s.setCtx c v).ctx c' = if c' = c then v else s.ctx c' :=
  Tbl.get_set _ _ _ _ _
theorem State.flag_setFlag (c c' : Nat) (v : Flag) : (s.setFlag c v).flag c' = if c' = c then v else s.flag c' :=
  Tbl.get_set _ _ _ _ _
theorem State.pio_setPio (c c' : Nat) (v : Pio) : (s.setPio c v).pio c' = if c' = c then v else s.pio c' :=
  Tbl.get_set _ _ _ _ _
theorem State.port_setPort (c c' : Nat) (v : Fbk) : (s.setPort c v).port c' = if c' = c then v else s.port c' :=
  Tbl.get_set _ _ _ _ _
theorem State.fn_setFn (c c' : Nat) (v : Fn) : (s.setFn c v).fn c' = if c' = c then v else s.fn c' :=
  Tbl.get_set _ _ _ _ _
theorem State.vec_setVec (c c' : Nat) (v : Vec) : (s.setVec c v).vec c' = if c' = c then v else s.vec c' :=
  Tbl.get_set _ _ _ _ _
theorem State.chan_setChan (c c' : Nat) (v : Chan) : (s.setChan c v).chan c' = if c' = c then v else s.chan c' :=
  Tbl.get_set _ _ _ _ _
theorem State.enp_setEnp (c c' : Nat) (v : Enp) : (s.setEnp c v).enp c' = if c' = c then v else s.enp c' :=
  Tbl.get_set _ _ _ _ _

/-! ### Memory keeps its canonical form -/

theorem Memory.wf_setByte (a : Nat) (v : BitVec 8) (h : Memory.wf s.mem = true) : Memory.wf (s.setByte a v).mem = true :=
  Tbl.wf_set _ _ _ h

theorem Memory.wf_writeBytesAt (m : List Host.Cell) (a : Nat) (bs : List (Option Nat)) (h : Memory.wf m = true) :
    Memory.wf (writeBytesAt m a bs) = true := by
  induction bs generalizing m a with
  | nil => exact h
  | cons b r ih =>
    cases b with
    | none => exact ih m (a + 1) h
    | some b => exact ih _ (a + 1) (Tbl.wf_set _ _ _ h)

theorem Memory.wf_writeBytes (a : Nat) (bs : List (Option Nat)) (h : Memory.wf s.mem = true) :
    Memory.wf (s.writeBytes a bs).mem = true := Memory.wf_writeBytesAt _ _ _ h

theorem Memory.wf_writeMem (a n v : Nat) (h : Memory.wf s.mem = true) : Memory.wf (s.writeMem a n v).mem = true :=
  Memory.wf_writeBytesAt _ _ _ h

/-- A write leaves every byte outside the range it covers. -/
theorem Memory.get_writeBytesAt (m : List Host.Cell) (a : Nat) (bs : List (Option Nat)) (x : Nat)
    (h : x < a ∨ a + bs.length ≤ x) : Tbl.get (0 : BitVec 8) (writeBytesAt m a bs) x = Tbl.get 0 m x := by
  induction bs generalizing m a with
  | nil => rfl
  | cons b r ih =>
    simp only [List.length_cons] at h
    cases b with
    | none => exact ih m (a + 1) (by omega)
    | some b =>
      exact (ih _ (a + 1) (by omega)).trans (Tbl.get_set_other _ _ (by omega) _)

theorem State.byte_writeMem (a n v x : Nat) (h : x < a ∨ a + n ≤ x) : (s.writeMem a n v).byte x = s.byte x := by
  refine Memory.get_writeBytesAt s.mem a _ x ?_
  have : (bytesLE n v).length = n := by
    clear h; induction n generalizing v with
    | zero => rfl
    | succ n ih => simp [bytesLE, ih]
  simpa [this] using h

/-! ### Free picks -/

/-- A pick out of some candidates is one of them. -/
theorem pickOf_some (n : Nat) (l : List Nat) (h : 0 < l.length) : ∃ x, pickOf n l = some x ∧ x ∈ l :=
  ⟨_, List.getElem?_eq_getElem (Nat.mod_lt _ h), List.getElem_mem _⟩

end Sys2Proof.Machine
end

