-- ==== Sys2Proof/Laws/Events.lean ====
section
/-! SUPPORT. What the shared operations of Machine/Events.lean leave. `State.wipe m` clears the fields of State whose
bit in the mask `m` is set; an operation that changes at most the fields of `m` leaves the wiped state, and so every
other field. -/

namespace Sys2Proof.Machine

open Sys2Proof

/-- The state without the fields the mask names, by their place in State. -/
def State.wipe (m : Nat) (s : State) : State :=
  { pending := if m.testBit 0 then [] else s.pending,
    out := if m.testBit 1 then [] else s.out,
    fresh := if m.testBit 2 then 0 else s.fresh,
    tick := if m.testBit 3 then 0 else s.tick,
    regs := if m.testBit 4 then [] else s.regs,
    shadow := if m.testBit 5 then [] else s.shadow,
    mem := if m.testBit 6 then [] else s.mem,
    eccBad := if m.testBit 7 then [] else s.eccBad,
    eccSoft := if m.testBit 8 then [] else s.eccSoft,
    tb := if m.testBit 9 then {} else s.tb,
    pages := if m.testBit 10 then [] else s.pages,
    groups := if m.testBit 11 then [] else s.groups,
    hs := if m.testBit 12 then {} else s.hs,
    cuffs := if m.testBit 13 then [] else s.cuffs,
    sleeves := if m.testBit 14 then [] else s.sleeves,
    pairs := if m.testBit 15 then [] else s.pairs,
    voters := if m.testBit 16 then [] else s.voters,
    queues := if m.testBit 17 then [] else s.queues,
    refs := if m.testBit 18 then [] else s.refs,
    seams := if m.testBit 19 then [] else s.seams,
    fifos := if m.testBit 20 then [] else s.fifos,
    votes := if m.testBit 21 then [] else s.votes,
    lanes := if m.testBit 22 then {} else s.lanes,
    quota := if m.testBit 23 then [] else s.quota,
    used := if m.testBit 24 then [] else s.used,
    trays := if m.testBit 25 then [] else s.trays,
    ctxs := if m.testBit 26 then [] else s.ctxs,
    flags := if m.testBit 27 then [] else s.flags,
    cs := if m.testBit 28 then [] else s.cs,
    csBad := if m.testBit 29 then [] else s.csBad,
    csSoft := if m.testBit 30 then [] else s.csSoft,
    units := if m.testBit 31 then [] else s.units,
    upd := if m.testBit 32 then none else s.upd,
    pios := if m.testBit 33 then [] else s.pios,
    syncAt := if m.testBit 34 then none else s.syncAt,
    ports := if m.testBit 35 then [] else s.ports,
    ens := if m.testBit 36 then {} else s.ens,
    enps := if m.testBit 37 then [] else s.enps,
    fns := if m.testBit 38 then [] else s.fns,
    link := if m.testBit 39 then {} else s.link,
    srcs := if m.testBit 40 then [] else s.srcs,
    vecs := if m.testBit 41 then [] else s.vecs,
    coreStacks := if m.testBit 42 then [] else s.coreStacks,
    chans := if m.testBit 43 then [] else s.chans,
    pwr := if m.testBit 44 then {} else s.pwr,
    boot := if m.testBit 45 then {} else s.boot,
    rel := if m.testBit 46 then {} else s.rel,
    turns := if m.testBit 47 then {} else s.turns }

theorem testBit_of_land {a m i : Nat} (h : a &&& m = a) (e : a.testBit i = true) : m.testBit i = true := by
  have := congrArg (Nat.testBit · i) h
  simpa [e] using this

/-- A wipe of more wipes it all. -/
theorem State.wipe_wipe {a m : Nat} (h : a &&& m = a) (s : State) : (s.wipe a).wipe m = s.wipe m := by
  have key : ∀ {α : Type} (i : Nat) (d x : α), (if m.testBit i then d else if a.testBit i then d else x) = if m.testBit i then d else x := by
    intro α i d x
    cases e : a.testBit i
    · rfl
    · simp [testBit_of_land h e]
  simp only [State.wipe, key]

theorem State.wipe_mono {a m : Nat} {s t : State} (e : t.wipe a = s.wipe a) (h : a &&& m = a) : t.wipe m = s.wipe m := by
  rw [← State.wipe_wipe h t, e, State.wipe_wipe h]

@[simp] theorem State.foldl_wipe {α : Type} (m : Nat) (g : State → α → State) (h : ∀ s x, (g s x).wipe m = s.wipe m) (l : List α)
    (s : State) : (l.foldl g s).wipe m = s.wipe m := by
  induction l generalizing s with
  | nil => rfl
  | cons x r ih => exact (ih _).trans (h s x)

variable (s : State)

theorem State.pending_of_wipe {m : Nat} {s t : State} (e : t.wipe m = s.wipe m) (h : m.testBit 0 = false) : t.pending = s.pending := by
  have := congrArg State.pending e; simpa [State.wipe, h] using this
theorem State.out_of_wipe {m : Nat} {s t : State} (e : t.wipe m = s.wipe m) (h : m.testBit 1 = false) : t.out = s.out := by
  have := congrArg State.out e; simpa [State.wipe, h] using this
theorem State.fresh_of_wipe {m : Nat} {s t : State} (e : t.wipe m = s.wipe m) (h : m.testBit 2 = false) : t.fresh = s.fresh := by
  have := congrArg State.fresh e; simpa [State.wipe, h] using this
theorem State.tick_of_wipe {m : Nat} {s t : State} (e : t.wipe m = s.wipe m) (h : m.testBit 3 = false) : t.tick = s.tick := by
  have := congrArg State.tick e; simpa [State.wipe, h] using this
theorem State.regs_of_wipe {m : Nat} {s t : State} (e : t.wipe m = s.wipe m) (h : m.testBit 4 = false) : t.regs = s.regs := by
  have := congrArg State.regs e; simpa [State.wipe, h] using this
theorem State.shadow_of_wipe {m : Nat} {s t : State} (e : t.wipe m = s.wipe m) (h : m.testBit 5 = false) : t.shadow = s.shadow := by
  have := congrArg State.shadow e; simpa [State.wipe, h] using this
theorem State.mem_of_wipe {m : Nat} {s t : State} (e : t.wipe m = s.wipe m) (h : m.testBit 6 = false) : t.mem = s.mem := by
  have := congrArg State.mem e; simpa [State.wipe, h] using this
theorem State.eccBad_of_wipe {m : Nat} {s t : State} (e : t.wipe m = s.wipe m) (h : m.testBit 7 = false) : t.eccBad = s.eccBad := by
  have := congrArg State.eccBad e; simpa [State.wipe, h] using this
theorem State.eccSoft_of_wipe {m : Nat} {s t : State} (e : t.wipe m = s.wipe m) (h : m.testBit 8 = false) : t.eccSoft = s.eccSoft := by
  have := congrArg State.eccSoft e; simpa [State.wipe, h] using this
theorem State.tb_of_wipe {m : Nat} {s t : State} (e : t.wipe m = s.wipe m) (h : m.testBit 9 = false) : t.tb = s.tb := by
  have := congrArg State.tb e; simpa [State.wipe, h] using this
theorem State.pages_of_wipe {m : Nat} {s t : State} (e : t.wipe m = s.wipe m) (h : m.testBit 10 = false) : t.pages = s.pages := by
  have := congrArg State.pages e; simpa [State.wipe, h] using this
theorem State.groups_of_wipe {m : Nat} {s t : State} (e : t.wipe m = s.wipe m) (h : m.testBit 11 = false) : t.groups = s.groups := by
  have := congrArg State.groups e; simpa [State.wipe, h] using this
theorem State.hs_of_wipe {m : Nat} {s t : State} (e : t.wipe m = s.wipe m) (h : m.testBit 12 = false) : t.hs = s.hs := by
  have := congrArg State.hs e; simpa [State.wipe, h] using this
theorem State.cuffs_of_wipe {m : Nat} {s t : State} (e : t.wipe m = s.wipe m) (h : m.testBit 13 = false) : t.cuffs = s.cuffs := by
  have := congrArg State.cuffs e; simpa [State.wipe, h] using this
theorem State.sleeves_of_wipe {m : Nat} {s t : State} (e : t.wipe m = s.wipe m) (h : m.testBit 14 = false) : t.sleeves = s.sleeves := by
  have := congrArg State.sleeves e; simpa [State.wipe, h] using this
theorem State.pairs_of_wipe {m : Nat} {s t : State} (e : t.wipe m = s.wipe m) (h : m.testBit 15 = false) : t.pairs = s.pairs := by
  have := congrArg State.pairs e; simpa [State.wipe, h] using this
theorem State.voters_of_wipe {m : Nat} {s t : State} (e : t.wipe m = s.wipe m) (h : m.testBit 16 = false) : t.voters = s.voters := by
  have := congrArg State.voters e; simpa [State.wipe, h] using this
theorem State.queues_of_wipe {m : Nat} {s t : State} (e : t.wipe m = s.wipe m) (h : m.testBit 17 = false) : t.queues = s.queues := by
  have := congrArg State.queues e; simpa [State.wipe, h] using this
theorem State.refs_of_wipe {m : Nat} {s t : State} (e : t.wipe m = s.wipe m) (h : m.testBit 18 = false) : t.refs = s.refs := by
  have := congrArg State.refs e; simpa [State.wipe, h] using this
theorem State.seams_of_wipe {m : Nat} {s t : State} (e : t.wipe m = s.wipe m) (h : m.testBit 19 = false) : t.seams = s.seams := by
  have := congrArg State.seams e; simpa [State.wipe, h] using this
theorem State.fifos_of_wipe {m : Nat} {s t : State} (e : t.wipe m = s.wipe m) (h : m.testBit 20 = false) : t.fifos = s.fifos := by
  have := congrArg State.fifos e; simpa [State.wipe, h] using this
theorem State.votes_of_wipe {m : Nat} {s t : State} (e : t.wipe m = s.wipe m) (h : m.testBit 21 = false) : t.votes = s.votes := by
  have := congrArg State.votes e; simpa [State.wipe, h] using this
theorem State.lanes_of_wipe {m : Nat} {s t : State} (e : t.wipe m = s.wipe m) (h : m.testBit 22 = false) : t.lanes = s.lanes := by
  have := congrArg State.lanes e; simpa [State.wipe, h] using this
theorem State.quota_of_wipe {m : Nat} {s t : State} (e : t.wipe m = s.wipe m) (h : m.testBit 23 = false) : t.quota = s.quota := by
  have := congrArg State.quota e; simpa [State.wipe, h] using this
theorem State.used_of_wipe {m : Nat} {s t : State} (e : t.wipe m = s.wipe m) (h : m.testBit 24 = false) : t.used = s.used := by
  have := congrArg State.used e; simpa [State.wipe, h] using this
theorem State.trays_of_wipe {m : Nat} {s t : State} (e : t.wipe m = s.wipe m) (h : m.testBit 25 = false) : t.trays = s.trays := by
  have := congrArg State.trays e; simpa [State.wipe, h] using this
theorem State.ctxs_of_wipe {m : Nat} {s t : State} (e : t.wipe m = s.wipe m) (h : m.testBit 26 = false) : t.ctxs = s.ctxs := by
  have := congrArg State.ctxs e; simpa [State.wipe, h] using this
theorem State.flags_of_wipe {m : Nat} {s t : State} (e : t.wipe m = s.wipe m) (h : m.testBit 27 = false) : t.flags = s.flags := by
  have := congrArg State.flags e; simpa [State.wipe, h] using this
theorem State.cs_of_wipe {m : Nat} {s t : State} (e : t.wipe m = s.wipe m) (h : m.testBit 28 = false) : t.cs = s.cs := by
  have := congrArg State.cs e; simpa [State.wipe, h] using this
theorem State.csBad_of_wipe {m : Nat} {s t : State} (e : t.wipe m = s.wipe m) (h : m.testBit 29 = false) : t.csBad = s.csBad := by
  have := congrArg State.csBad e; simpa [State.wipe, h] using this
theorem State.csSoft_of_wipe {m : Nat} {s t : State} (e : t.wipe m = s.wipe m) (h : m.testBit 30 = false) : t.csSoft = s.csSoft := by
  have := congrArg State.csSoft e; simpa [State.wipe, h] using this
theorem State.units_of_wipe {m : Nat} {s t : State} (e : t.wipe m = s.wipe m) (h : m.testBit 31 = false) : t.units = s.units := by
  have := congrArg State.units e; simpa [State.wipe, h] using this
theorem State.upd_of_wipe {m : Nat} {s t : State} (e : t.wipe m = s.wipe m) (h : m.testBit 32 = false) : t.upd = s.upd := by
  have := congrArg State.upd e; simpa [State.wipe, h] using this
theorem State.pios_of_wipe {m : Nat} {s t : State} (e : t.wipe m = s.wipe m) (h : m.testBit 33 = false) : t.pios = s.pios := by
  have := congrArg State.pios e; simpa [State.wipe, h] using this
theorem State.syncAt_of_wipe {m : Nat} {s t : State} (e : t.wipe m = s.wipe m) (h : m.testBit 34 = false) : t.syncAt = s.syncAt := by
  have := congrArg State.syncAt e; simpa [State.wipe, h] using this
theorem State.ports_of_wipe {m : Nat} {s t : State} (e : t.wipe m = s.wipe m) (h : m.testBit 35 = false) : t.ports = s.ports := by
  have := congrArg State.ports e; simpa [State.wipe, h] using this
theorem State.ens_of_wipe {m : Nat} {s t : State} (e : t.wipe m = s.wipe m) (h : m.testBit 36 = false) : t.ens = s.ens := by
  have := congrArg State.ens e; simpa [State.wipe, h] using this
theorem State.enps_of_wipe {m : Nat} {s t : State} (e : t.wipe m = s.wipe m) (h : m.testBit 37 = false) : t.enps = s.enps := by
  have := congrArg State.enps e; simpa [State.wipe, h] using this
theorem State.fns_of_wipe {m : Nat} {s t : State} (e : t.wipe m = s.wipe m) (h : m.testBit 38 = false) : t.fns = s.fns := by
  have := congrArg State.fns e; simpa [State.wipe, h] using this
theorem State.link_of_wipe {m : Nat} {s t : State} (e : t.wipe m = s.wipe m) (h : m.testBit 39 = false) : t.link = s.link := by
  have := congrArg State.link e; simpa [State.wipe, h] using this
theorem State.srcs_of_wipe {m : Nat} {s t : State} (e : t.wipe m = s.wipe m) (h : m.testBit 40 = false) : t.srcs = s.srcs := by
  have := congrArg State.srcs e; simpa [State.wipe, h] using this
theorem State.vecs_of_wipe {m : Nat} {s t : State} (e : t.wipe m = s.wipe m) (h : m.testBit 41 = false) : t.vecs = s.vecs := by
  have := congrArg State.vecs e; simpa [State.wipe, h] using this
theorem State.coreStacks_of_wipe {m : Nat} {s t : State} (e : t.wipe m = s.wipe m) (h : m.testBit 42 = false) : t.coreStacks = s.coreStacks := by
  have := congrArg State.coreStacks e; simpa [State.wipe, h] using this
theorem State.chans_of_wipe {m : Nat} {s t : State} (e : t.wipe m = s.wipe m) (h : m.testBit 43 = false) : t.chans = s.chans := by
  have := congrArg State.chans e; simpa [State.wipe, h] using this
theorem State.pwr_of_wipe {m : Nat} {s t : State} (e : t.wipe m = s.wipe m) (h : m.testBit 44 = false) : t.pwr = s.pwr := by
  have := congrArg State.pwr e; simpa [State.wipe, h] using this
theorem State.boot_of_wipe {m : Nat} {s t : State} (e : t.wipe m = s.wipe m) (h : m.testBit 45 = false) : t.boot = s.boot := by
  have := congrArg State.boot e; simpa [State.wipe, h] using this
theorem State.rel_of_wipe {m : Nat} {s t : State} (e : t.wipe m = s.wipe m) (h : m.testBit 46 = false) : t.rel = s.rel := by
  have := congrArg State.rel e; simpa [State.wipe, h] using this
theorem State.turns_of_wipe {m : Nat} {s t : State} (e : t.wipe m = s.wipe m) (h : m.testBit 47 = false) : t.turns = s.turns := by
  have := congrArg State.turns e; simpa [State.wipe, h] using this

@[simp] theorem State.pending_wipe (x : List Instr) (m : Nat) (hm : 1 &&& m = 1) :
    ({ s with pending := x } : State).wipe m = s.wipe m := by
  simp [State.wipe, testBit_of_land hm (show Nat.testBit 1 0 = true by decide)]
@[simp] theorem State.out_wipe (x : List Out) (m : Nat) (hm : 2 &&& m = 2) :
    ({ s with out := x } : State).wipe m = s.wipe m := by
  simp [State.wipe, testBit_of_land hm (show Nat.testBit 2 1 = true by decide)]
@[simp] theorem State.fresh_wipe (x : Nat) (m : Nat) (hm : 4 &&& m = 4) :
    ({ s with fresh := x } : State).wipe m = s.wipe m := by
  simp [State.wipe, testBit_of_land hm (show Nat.testBit 4 2 = true by decide)]
@[simp] theorem State.tick_wipe (x : Nat) (m : Nat) (hm : 8 &&& m = 8) :
    ({ s with tick := x } : State).wipe m = s.wipe m := by
  simp [State.wipe, testBit_of_land hm (show Nat.testBit 8 3 = true by decide)]
@[simp] theorem State.regs_wipe (x : Tbl Word) (m : Nat) (hm : 16 &&& m = 16) :
    ({ s with regs := x } : State).wipe m = s.wipe m := by
  simp [State.wipe, testBit_of_land hm (show Nat.testBit 16 4 = true by decide)]
@[simp] theorem State.shadow_wipe (x : Tbl Word) (m : Nat) (hm : 32 &&& m = 32) :
    ({ s with shadow := x } : State).wipe m = s.wipe m := by
  simp [State.wipe, testBit_of_land hm (show Nat.testBit 32 5 = true by decide)]
@[simp] theorem State.mem_wipe (x : List Host.Cell) (m : Nat) (hm : 64 &&& m = 64) :
    ({ s with mem := x } : State).wipe m = s.wipe m := by
  simp [State.wipe, testBit_of_land hm (show Nat.testBit 64 6 = true by decide)]
@[simp] theorem State.eccBad_wipe (x : List Nat) (m : Nat) (hm : 128 &&& m = 128) :
    ({ s with eccBad := x } : State).wipe m = s.wipe m := by
  simp [State.wipe, testBit_of_land hm (show Nat.testBit 128 7 = true by decide)]
@[simp] theorem State.eccSoft_wipe (x : List Nat) (m : Nat) (hm : 256 &&& m = 256) :
    ({ s with eccSoft := x } : State).wipe m = s.wipe m := by
  simp [State.wipe, testBit_of_land hm (show Nat.testBit 256 8 = true by decide)]
@[simp] theorem State.tb_wipe (x : TimeBase) (m : Nat) (hm : 512 &&& m = 512) :
    ({ s with tb := x } : State).wipe m = s.wipe m := by
  simp [State.wipe, testBit_of_land hm (show Nat.testBit 512 9 = true by decide)]
@[simp] theorem State.pages_wipe (x : Tbl Page) (m : Nat) (hm : 1024 &&& m = 1024) :
    ({ s with pages := x } : State).wipe m = s.wipe m := by
  simp [State.wipe, testBit_of_land hm (show Nat.testBit 1024 10 = true by decide)]
@[simp] theorem State.groups_wipe (x : Tbl Group) (m : Nat) (hm : 2048 &&& m = 2048) :
    ({ s with groups := x } : State).wipe m = s.wipe m := by
  simp [State.wipe, testBit_of_land hm (show Nat.testBit 2048 11 = true by decide)]
@[simp] theorem State.hs_wipe (x : HoldSwap) (m : Nat) (hm : 4096 &&& m = 4096) :
    ({ s with hs := x } : State).wipe m = s.wipe m := by
  simp [State.wipe, testBit_of_land hm (show Nat.testBit 4096 12 = true by decide)]
@[simp] theorem State.cuffs_wipe (x : Tbl Cuff) (m : Nat) (hm : 8192 &&& m = 8192) :
    ({ s with cuffs := x } : State).wipe m = s.wipe m := by
  simp [State.wipe, testBit_of_land hm (show Nat.testBit 8192 13 = true by decide)]
@[simp] theorem State.sleeves_wipe (x : Tbl Sleeve) (m : Nat) (hm : 16384 &&& m = 16384) :
    ({ s with sleeves := x } : State).wipe m = s.wipe m := by
  simp [State.wipe, testBit_of_land hm (show Nat.testBit 16384 14 = true by decide)]
@[simp] theorem State.pairs_wipe (x : Tbl Pair) (m : Nat) (hm : 32768 &&& m = 32768) :
    ({ s with pairs := x } : State).wipe m = s.wipe m := by
  simp [State.wipe, testBit_of_land hm (show Nat.testBit 32768 15 = true by decide)]
@[simp] theorem State.voters_wipe (x : Tbl Voter) (m : Nat) (hm : 65536 &&& m = 65536) :
    ({ s with voters := x } : State).wipe m = s.wipe m := by
  simp [State.wipe, testBit_of_land hm (show Nat.testBit 65536 16 = true by decide)]
@[simp] theorem State.queues_wipe (x : Tbl Queue) (m : Nat) (hm : 131072 &&& m = 131072) :
    ({ s with queues := x } : State).wipe m = s.wipe m := by
  simp [State.wipe, testBit_of_land hm (show Nat.testBit 131072 17 = true by decide)]
@[simp] theorem State.refs_wipe (x : List WheelRef) (m : Nat) (hm : 262144 &&& m = 262144) :
    ({ s with refs := x } : State).wipe m = s.wipe m := by
  simp [State.wipe, testBit_of_land hm (show Nat.testBit 262144 18 = true by decide)]
@[simp] theorem State.seams_wipe (x : Tbl Seam) (m : Nat) (hm : 524288 &&& m = 524288) :
    ({ s with seams := x } : State).wipe m = s.wipe m := by
  simp [State.wipe, testBit_of_land hm (show Nat.testBit 524288 19 = true by decide)]
@[simp] theorem State.fifos_wipe (x : Tbl (List Flight)) (m : Nat) (hm : 1048576 &&& m = 1048576) :
    ({ s with fifos := x } : State).wipe m = s.wipe m := by
  simp [State.wipe, testBit_of_land hm (show Nat.testBit 1048576 20 = true by decide)]
@[simp] theorem State.votes_wipe (x : Tbl (List Nat)) (m : Nat) (hm : 2097152 &&& m = 2097152) :
    ({ s with votes := x } : State).wipe m = s.wipe m := by
  simp [State.wipe, testBit_of_land hm (show Nat.testBit 2097152 21 = true by decide)]
@[simp] theorem State.lanes_wipe (x : Lanes) (m : Nat) (hm : 4194304 &&& m = 4194304) :
    ({ s with lanes := x } : State).wipe m = s.wipe m := by
  simp [State.wipe, testBit_of_land hm (show Nat.testBit 4194304 22 = true by decide)]
@[simp] theorem State.quota_wipe (x : Tbl Nat) (m : Nat) (hm : 8388608 &&& m = 8388608) :
    ({ s with quota := x } : State).wipe m = s.wipe m := by
  simp [State.wipe, testBit_of_land hm (show Nat.testBit 8388608 23 = true by decide)]
@[simp] theorem State.used_wipe (x : Tbl Nat) (m : Nat) (hm : 16777216 &&& m = 16777216) :
    ({ s with used := x } : State).wipe m = s.wipe m := by
  simp [State.wipe, testBit_of_land hm (show Nat.testBit 16777216 24 = true by decide)]
@[simp] theorem State.trays_wipe (x : Tbl Tray) (m : Nat) (hm : 33554432 &&& m = 33554432) :
    ({ s with trays := x } : State).wipe m = s.wipe m := by
  simp [State.wipe, testBit_of_land hm (show Nat.testBit 33554432 25 = true by decide)]
@[simp] theorem State.ctxs_wipe (x : Tbl Ctx) (m : Nat) (hm : 67108864 &&& m = 67108864) :
    ({ s with ctxs := x } : State).wipe m = s.wipe m := by
  simp [State.wipe, testBit_of_land hm (show Nat.testBit 67108864 26 = true by decide)]
@[simp] theorem State.flags_wipe (x : Tbl Flag) (m : Nat) (hm : 134217728 &&& m = 134217728) :
    ({ s with flags := x } : State).wipe m = s.wipe m := by
  simp [State.wipe, testBit_of_land hm (show Nat.testBit 134217728 27 = true by decide)]
@[simp] theorem State.cs_wipe (x : Tbl (BitVec 40)) (m : Nat) (hm : 268435456 &&& m = 268435456) :
    ({ s with cs := x } : State).wipe m = s.wipe m := by
  simp [State.wipe, testBit_of_land hm (show Nat.testBit 268435456 28 = true by decide)]
@[simp] theorem State.csBad_wipe (x : List Nat) (m : Nat) (hm : 536870912 &&& m = 536870912) :
    ({ s with csBad := x } : State).wipe m = s.wipe m := by
  simp [State.wipe, testBit_of_land hm (show Nat.testBit 536870912 29 = true by decide)]
@[simp] theorem State.csSoft_wipe (x : List Nat) (m : Nat) (hm : 1073741824 &&& m = 1073741824) :
    ({ s with csSoft := x } : State).wipe m = s.wipe m := by
  simp [State.wipe, testBit_of_land hm (show Nat.testBit 1073741824 30 = true by decide)]
@[simp] theorem State.units_wipe (x : Tbl (Option Nat)) (m : Nat) (hm : 2147483648 &&& m = 2147483648) :
    ({ s with units := x } : State).wipe m = s.wipe m := by
  simp [State.wipe, testBit_of_land hm (show Nat.testBit 2147483648 31 = true by decide)]
@[simp] theorem State.upd_wipe (x : Option Update) (m : Nat) (hm : 4294967296 &&& m = 4294967296) :
    ({ s with upd := x } : State).wipe m = s.wipe m := by
  simp [State.wipe, testBit_of_land hm (show Nat.testBit 4294967296 32 = true by decide)]
@[simp] theorem State.pios_wipe (x : Tbl Pio) (m : Nat) (hm : 8589934592 &&& m = 8589934592) :
    ({ s with pios := x } : State).wipe m = s.wipe m := by
  simp [State.wipe, testBit_of_land hm (show Nat.testBit 8589934592 33 = true by decide)]
@[simp] theorem State.syncAt_wipe (x : Option Nat) (m : Nat) (hm : 17179869184 &&& m = 17179869184) :
    ({ s with syncAt := x } : State).wipe m = s.wipe m := by
  simp [State.wipe, testBit_of_land hm (show Nat.testBit 17179869184 34 = true by decide)]
@[simp] theorem State.ports_wipe (x : Tbl Fbk) (m : Nat) (hm : 34359738368 &&& m = 34359738368) :
    ({ s with ports := x } : State).wipe m = s.wipe m := by
  simp [State.wipe, testBit_of_land hm (show Nat.testBit 34359738368 35 = true by decide)]
@[simp] theorem State.ens_wipe (x : Ens) (m : Nat) (hm : 68719476736 &&& m = 68719476736) :
    ({ s with ens := x } : State).wipe m = s.wipe m := by
  simp [State.wipe, testBit_of_land hm (show Nat.testBit 68719476736 36 = true by decide)]
@[simp] theorem State.enps_wipe (x : Tbl Enp) (m : Nat) (hm : 137438953472 &&& m = 137438953472) :
    ({ s with enps := x } : State).wipe m = s.wipe m := by
  simp [State.wipe, testBit_of_land hm (show Nat.testBit 137438953472 37 = true by decide)]
@[simp] theorem State.fns_wipe (x : Tbl Fn) (m : Nat) (hm : 274877906944 &&& m = 274877906944) :
    ({ s with fns := x } : State).wipe m = s.wipe m := by
  simp [State.wipe, testBit_of_land hm (show Nat.testBit 274877906944 38 = true by decide)]
@[simp] theorem State.link_wipe (x : Link) (m : Nat) (hm : 549755813888 &&& m = 549755813888) :
    ({ s with link := x } : State).wipe m = s.wipe m := by
  simp [State.wipe, testBit_of_land hm (show Nat.testBit 549755813888 39 = true by decide)]
@[simp] theorem State.srcs_wipe (x : Tbl Src) (m : Nat) (hm : 1099511627776 &&& m = 1099511627776) :
    ({ s with srcs := x } : State).wipe m = s.wipe m := by
  simp [State.wipe, testBit_of_land hm (show Nat.testBit 1099511627776 40 = true by decide)]
@[simp] theorem State.vecs_wipe (x : Tbl Vec) (m : Nat) (hm : 2199023255552 &&& m = 2199023255552) :
    ({ s with vecs := x } : State).wipe m = s.wipe m := by
  simp [State.wipe, testBit_of_land hm (show Nat.testBit 2199023255552 41 = true by decide)]
@[simp] theorem State.coreStacks_wipe (x : Tbl (List (Nat × Nat))) (m : Nat) (hm : 4398046511104 &&& m = 4398046511104) :
    ({ s with coreStacks := x } : State).wipe m = s.wipe m := by
  simp [State.wipe, testBit_of_land hm (show Nat.testBit 4398046511104 42 = true by decide)]
@[simp] theorem State.chans_wipe (x : Tbl Chan) (m : Nat) (hm : 8796093022208 &&& m = 8796093022208) :
    ({ s with chans := x } : State).wipe m = s.wipe m := by
  simp [State.wipe, testBit_of_land hm (show Nat.testBit 8796093022208 43 = true by decide)]
@[simp] theorem State.pwr_wipe (x : Power) (m : Nat) (hm : 17592186044416 &&& m = 17592186044416) :
    ({ s with pwr := x } : State).wipe m = s.wipe m := by
  simp [State.wipe, testBit_of_land hm (show Nat.testBit 17592186044416 44 = true by decide)]
@[simp] theorem State.boot_wipe (x : Boot) (m : Nat) (hm : 35184372088832 &&& m = 35184372088832) :
    ({ s with boot := x } : State).wipe m = s.wipe m := by
  simp [State.wipe, testBit_of_land hm (show Nat.testBit 35184372088832 45 = true by decide)]
@[simp] theorem State.rel_wipe (x : Rel) (m : Nat) (hm : 70368744177664 &&& m = 70368744177664) :
    ({ s with rel := x } : State).wipe m = s.wipe m := by
  simp [State.wipe, testBit_of_land hm (show Nat.testBit 70368744177664 46 = true by decide)]
@[simp] theorem State.turns_wipe (x : Turns) (m : Nat) (hm : 140737488355328 &&& m = 140737488355328) :
    ({ s with turns := x } : State).wipe m = s.wipe m := by
  simp [State.wipe, testBit_of_land hm (show Nat.testBit 140737488355328 47 = true by decide)]
@[simp] theorem State.setReg_wipe (k : Nat) (v : Word) (m : Nat) (hm : 16 &&& m = 16) : (s.setReg k v).wipe m = s.wipe m := by
  have hb := fun i (e : Nat.testBit 16 i = true) => testBit_of_land hm e
  simp [State.wipe, State.setReg, hb 4 (by decide)]
@[simp] theorem State.setStaged_wipe (k : Nat) (v : Word) (m : Nat) (hm : 32 &&& m = 32) : (s.setStaged k v).wipe m = s.wipe m := by
  have hb := fun i (e : Nat.testBit 32 i = true) => testBit_of_land hm e
  simp [State.wipe, State.setStaged, hb 5 (by decide)]
@[simp] theorem State.discard_wipe (page : Nat) (m : Nat) (hm : 32 &&& m = 32) : (s.discard page).wipe m = s.wipe m := by
  have hb := fun i (e : Nat.testBit 32 i = true) => testBit_of_land hm e
  simp [State.wipe, State.discard, hb 5 (by decide)]
@[simp] theorem State.send_wipe (o : Out) (m : Nat) (hm : 2 &&& m = 2) : (s.send o).wipe m = s.wipe m := by
  have hb := fun i (e : Nat.testBit 2 i = true) => testBit_of_land hm e
  simp [State.wipe, State.send, hb 1 (by decide)]
@[simp] theorem State.nextFresh_wipe  (m : Nat) (hm : 4 &&& m = 4) : (s.nextFresh ).wipe m = s.wipe m := by
  have hb := fun i (e : Nat.testBit 4 i = true) => testBit_of_land hm e
  simp [State.wipe, State.nextFresh, hb 2 (by decide)]
@[simp] theorem State.setPage_wipe (p : Nat) (v : Page) (m : Nat) (hm : 1024 &&& m = 1024) : (s.setPage p v).wipe m = s.wipe m := by
  have hb := fun i (e : Nat.testBit 1024 i = true) => testBit_of_land hm e
  simp [State.wipe, State.setPage, hb 10 (by decide)]
@[simp] theorem State.setGroup_wipe (g : Nat) (v : Group) (m : Nat) (hm : 2048 &&& m = 2048) : (s.setGroup g v).wipe m = s.wipe m := by
  have hb := fun i (e : Nat.testBit 2048 i = true) => testBit_of_land hm e
  simp [State.wipe, State.setGroup, hb 11 (by decide)]
@[simp] theorem State.setCuff_wipe (c : Nat) (v : Cuff) (m : Nat) (hm : 8192 &&& m = 8192) : (s.setCuff c v).wipe m = s.wipe m := by
  have hb := fun i (e : Nat.testBit 8192 i = true) => testBit_of_land hm e
  simp [State.wipe, State.setCuff, hb 13 (by decide)]
@[simp] theorem State.setSleeve_wipe (n : Nat) (v : Sleeve) (m : Nat) (hm : 16384 &&& m = 16384) : (s.setSleeve n v).wipe m = s.wipe m := by
  have hb := fun i (e : Nat.testBit 16384 i = true) => testBit_of_land hm e
  simp [State.wipe, State.setSleeve, hb 14 (by decide)]
@[simp] theorem State.setPairSt_wipe (p : Nat) (v : Pair) (m : Nat) (hm : 32768 &&& m = 32768) : (s.setPairSt p v).wipe m = s.wipe m := by
  have hb := fun i (e : Nat.testBit 32768 i = true) => testBit_of_land hm e
  simp [State.wipe, State.setPairSt, hb 15 (by decide)]
@[simp] theorem State.setVoter_wipe (k : Nat) (v : Voter) (m : Nat) (hm : 65536 &&& m = 65536) : (s.setVoter k v).wipe m = s.wipe m := by
  have hb := fun i (e : Nat.testBit 65536 i = true) => testBit_of_land hm e
  simp [State.wipe, State.setVoter, hb 16 (by decide)]
@[simp] theorem State.setQueue_wipe (q : Nat) (v : Queue) (m : Nat) (hm : 131072 &&& m = 131072) : (s.setQueue q v).wipe m = s.wipe m := by
  have hb := fun i (e : Nat.testBit 131072 i = true) => testBit_of_land hm e
  simp [State.wipe, State.setQueue, hb 17 (by decide)]
@[simp] theorem State.setSeam_wipe (i : Nat) (v : Seam) (m : Nat) (hm : 524288 &&& m = 524288) : (s.setSeam i v).wipe m = s.wipe m := by
  have hb := fun i (e : Nat.testBit 524288 i = true) => testBit_of_land hm e
  simp [State.wipe, State.setSeam, hb 19 (by decide)]
@[simp] theorem State.setFifo_wipe (k : Nat) (v : List Flight) (m : Nat) (hm : 1048576 &&& m = 1048576) : (s.setFifo k v).wipe m = s.wipe m := by
  have hb := fun i (e : Nat.testBit 1048576 i = true) => testBit_of_land hm e
  simp [State.wipe, State.setFifo, hb 20 (by decide)]
@[simp] theorem State.setTray_wipe (t : Nat) (v : Tray) (m : Nat) (hm : 33554432 &&& m = 33554432) : (s.setTray t v).wipe m = s.wipe m := by
  have hb := fun i (e : Nat.testBit 33554432 i = true) => testBit_of_land hm e
  simp [State.wipe, State.setTray, hb 25 (by decide)]
@[simp] theorem State.setCtx_wipe (c : Nat) (v : Ctx) (m : Nat) (hm : 67108864 &&& m = 67108864) : (s.setCtx c v).wipe m = s.wipe m := by
  have hb := fun i (e : Nat.testBit 67108864 i = true) => testBit_of_land hm e
  simp [State.wipe, State.setCtx, hb 26 (by decide)]
@[simp] theorem State.setFlag_wipe (f : Nat) (v : Flag) (m : Nat) (hm : 134217728 &&& m = 134217728) : (s.setFlag f v).wipe m = s.wipe m := by
  have hb := fun i (e : Nat.testBit 134217728 i = true) => testBit_of_land hm e
  simp [State.wipe, State.setFlag, hb 27 (by decide)]
@[simp] theorem State.setPio_wipe (e : Nat) (v : Pio) (m : Nat) (hm : 8589934592 &&& m = 8589934592) : (s.setPio e v).wipe m = s.wipe m := by
  have hb := fun i (e : Nat.testBit 8589934592 i = true) => testBit_of_land hm e
  simp [State.wipe, State.setPio, hb 33 (by decide)]
@[simp] theorem State.setPort_wipe (p : Nat) (v : Fbk) (m : Nat) (hm : 34359738368 &&& m = 34359738368) : (s.setPort p v).wipe m = s.wipe m := by
  have hb := fun i (e : Nat.testBit 34359738368 i = true) => testBit_of_land hm e
  simp [State.wipe, State.setPort, hb 35 (by decide)]
@[simp] theorem State.setMember_wipe (i : Nat) (v : Member) (m : Nat) (hm : 68719476736 &&& m = 68719476736) : (s.setMember i v).wipe m = s.wipe m := by
  have hb := fun i (e : Nat.testBit 68719476736 i = true) => testBit_of_land hm e
  simp [State.wipe, State.setMember, hb 36 (by decide)]
@[simp] theorem State.setEnp_wipe (n : Nat) (v : Enp) (m : Nat) (hm : 137438953472 &&& m = 137438953472) : (s.setEnp n v).wipe m = s.wipe m := by
  have hb := fun i (e : Nat.testBit 137438953472 i = true) => testBit_of_land hm e
  simp [State.wipe, State.setEnp, hb 37 (by decide)]
@[simp] theorem State.setFn_wipe (f : Nat) (v : Fn) (m : Nat) (hm : 274877906944 &&& m = 274877906944) : (s.setFn f v).wipe m = s.wipe m := by
  have hb := fun i (e : Nat.testBit 274877906944 i = true) => testBit_of_land hm e
  simp [State.wipe, State.setFn, hb 38 (by decide)]
@[simp] theorem State.setVec_wipe (k : Nat) (v : Vec) (m : Nat) (hm : 2199023255552 &&& m = 2199023255552) : (s.setVec k v).wipe m = s.wipe m := by
  have hb := fun i (e : Nat.testBit 2199023255552 i = true) => testBit_of_land hm e
  simp [State.wipe, State.setVec, hb 41 (by decide)]
@[simp] theorem State.setStack_wipe (c : Nat) (v : List (Nat × Nat)) (m : Nat) (hm : 4398046511104 &&& m = 4398046511104) : (s.setStack c v).wipe m = s.wipe m := by
  have hb := fun i (e : Nat.testBit 4398046511104 i = true) => testBit_of_land hm e
  simp [State.wipe, State.setStack, hb 42 (by decide)]
@[simp] theorem State.setChan_wipe (c : Nat) (v : Chan) (m : Nat) (hm : 8796093022208 &&& m = 8796093022208) : (s.setChan c v).wipe m = s.wipe m := by
  have hb := fun i (e : Nat.testBit 8796093022208 i = true) => testBit_of_land hm e
  simp [State.wipe, State.setChan, hb 43 (by decide)]
@[simp] theorem State.setWord40_wipe (k : Nat) (v : BitVec 40) (m : Nat) (hm : 268435456 &&& m = 268435456) : (s.setWord40 k v).wipe m = s.wipe m := by
  have hb := fun i (e : Nat.testBit 268435456 i = true) => testBit_of_land hm e
  simp [State.wipe, State.setWord40, hb 28 (by decide)]
@[simp] theorem State.setSrc_wipe (id : Nat) (v : Src) (m : Nat) (hm : 1099511627776 &&& m = 1099511627776) : (s.setSrc id v).wipe m = s.wipe m := by
  have hb := fun i (e : Nat.testBit 1099511627776 i = true) => testBit_of_land hm e
  simp [State.wipe, State.setSrc, hb 40 (by decide)]
@[simp] theorem State.setByte_wipe (a : Nat) (v : BitVec 8) (m : Nat) (hm : 64 &&& m = 64) : (s.setByte a v).wipe m = s.wipe m := by
  have hb := fun i (e : Nat.testBit 64 i = true) => testBit_of_land hm e
  simp [State.wipe, State.setByte, hb 6 (by decide)]
theorem State.setN_wipe0 (k v : Nat) : (s.setN k v).wipe 16 = s.wipe 16 := by
  simp [State.setN]
@[simp] theorem State.setN_wipe (k v : Nat) (m : Nat) (hm : 16 &&& m = 16) : (s.setN k v).wipe m = s.wipe m :=
  State.wipe_mono (State.setN_wipe0 ..) hm
theorem State.setFld_wipe0 (k lo n v : Nat) : (s.setFld k lo n v).wipe 16 = s.wipe 16 := by
  simp [State.setFld]
@[simp] theorem State.setFld_wipe (k lo n v : Nat) (m : Nat) (hm : 16 &&& m = 16) : (s.setFld k lo n v).wipe m = s.wipe m :=
  State.wipe_mono (State.setFld_wipe0 ..) hm
theorem State.setBit_wipe0 (k i : Nat) (b : Bool) : (s.setBit k i b).wipe 16 = s.wipe 16 := by
  simp [State.setBit]
@[simp] theorem State.setBit_wipe (k i : Nat) (b : Bool) (m : Nat) (hm : 16 &&& m = 16) : (s.setBit k i b).wipe m = s.wipe m :=
  State.wipe_mono (State.setBit_wipe0 ..) hm
theorem State.incSat_wipe0 (k lo n : Nat) : (s.incSat k lo n).wipe 16 = s.wipe 16 := by
  simp [State.incSat]
@[simp] theorem State.incSat_wipe (k lo n : Nat) (m : Nat) (hm : 16 &&& m = 16) : (s.incSat k lo n).wipe m = s.wipe m :=
  State.wipe_mono (State.incSat_wipe0 ..) hm
theorem State.incWrap_wipe0 (k lo n : Nat) : (s.incWrap k lo n).wipe 16 = s.wipe 16 := by
  simp [State.incWrap]
@[simp] theorem State.incWrap_wipe (k lo n : Nat) (m : Nat) (hm : 16 &&& m = 16) : (s.incWrap k lo n).wipe m = s.wipe m :=
  State.wipe_mono (State.incWrap_wipe0 ..) hm
theorem State.setPair_wipe0 (l h v : Nat) : (s.setPair l h v).wipe 16 = s.wipe 16 := by
  simp [State.setPair]
@[simp] theorem State.setPair_wipe (l h v : Nat) (m : Nat) (hm : 16 &&& m = 16) : (s.setPair l h v).wipe m = s.wipe m :=
  State.wipe_mono (State.setPair_wipe0 ..) hm
theorem State.setBoth_wipe0 (k lo n v : Nat) : (s.setBoth k lo n v).wipe 48 = s.wipe 48 := by
  simp [State.setBoth]
@[simp] theorem State.setBoth_wipe (k lo n v : Nat) (m : Nat) (hm : 48 &&& m = 48) : (s.setBoth k lo n v).wipe m = s.wipe m :=
  State.wipe_mono (State.setBoth_wipe0 ..) hm
theorem State.pgErr_wipe0 (p b : Nat) : (s.pgErr p b).wipe 16 = s.wipe 16 := by
  simp [State.pgErr]
@[simp] theorem State.pgErr_wipe (p b : Nat) (m : Nat) (hm : 16 &&& m = 16) : (s.pgErr p b).wipe m = s.wipe m :=
  State.wipe_mono (State.pgErr_wipe0 ..) hm
theorem State.pgErrCode_wipe0 (p b c : Nat) : (s.pgErrCode p b c).wipe 16 = s.wipe 16 := by
  simp [State.pgErrCode]
@[simp] theorem State.pgErrCode_wipe (p b c : Nat) (m : Nat) (hm : 16 &&& m = 16) : (s.pgErrCode p b c).wipe m = s.wipe m :=
  State.wipe_mono (State.pgErrCode_wipe0 ..) hm
theorem State.setSrcEn_wipe0 (id : Nat) (b : Bool) : (s.setSrcEn id b).wipe 16 = s.wipe 16 := by
  simp [State.setSrcEn]
@[simp] theorem State.setSrcEn_wipe (id : Nat) (b : Bool) (m : Nat) (hm : 16 &&& m = 16) : (s.setSrcEn id b).wipe m = s.wipe m :=
  State.wipe_mono (State.setSrcEn_wipe0 ..) hm
theorem State.setSrcPend_wipe0 (id : Nat) (b : Bool) : (s.setSrcPend id b).wipe 16 = s.wipe 16 := by
  simp [State.setSrcPend]
@[simp] theorem State.setSrcPend_wipe (id : Nat) (b : Bool) (m : Nat) (hm : 16 &&& m = 16) : (s.setSrcPend id b).wipe m = s.wipe m :=
  State.wipe_mono (State.setSrcPend_wipe0 ..) hm
theorem State.sendVec_wipe0 (fn v : Nat) : (s.sendVec fn v).wipe 2748779069442 = s.wipe 2748779069442 := by
  simp only [State.sendVec]; repeat' split
  all_goals simp
@[simp] theorem State.sendVec_wipe (fn v : Nat) (m : Nat) (hm : 2748779069442 &&& m = 2748779069442) : (s.sendVec fn v).wipe m = s.wipe m :=
  State.wipe_mono (State.sendVec_wipe0 ..) hm
theorem State.sendAll_wipe0 (ks : List Nat) : (s.sendAll ks).wipe 2748779069442 = s.wipe 2748779069442 := by
  simp [State.sendAll]
@[simp] theorem State.sendAll_wipe (ks : List Nat) (m : Nat) (hm : 2748779069442 &&& m = 2748779069442) : (s.sendAll ks).wipe m = s.wipe m :=
  State.wipe_mono (State.sendAll_wipe0 ..) hm
theorem State.reachL0_wipe0 : (s.reachL0).wipe 2748779069442 = s.wipe 2748779069442 := by
  simp only [State.reachL0]; rw [State.sendAll_wipe _ _ _ (by decide), State.link_wipe _ _ _ (by decide)]
@[simp] theorem State.reachL0_wipe (m : Nat) (hm : 2748779069442 &&& m = 2748779069442) : (s.reachL0).wipe m = s.wipe m :=
  State.wipe_mono (State.reachL0_wipe0 ..) hm
theorem State.leaveL1_wipe0 : (s.leaveL1).wipe 2748779069442 = s.wipe 2748779069442 := by
  simp only [State.leaveL1]; repeat' split
  all_goals simp
@[simp] theorem State.leaveL1_wipe (m : Nat) (hm : 2748779069442 &&& m = 2748779069442) : (s.leaveL1).wipe m = s.wipe m :=
  State.wipe_mono (State.leaveL1_wipe0 ..) hm
theorem State.sleepEvent_wipe0 (fn : Nat) : (s.sleepEvent fn).wipe 3023656976386 = s.wipe 3023656976386 := by
  simp only [State.sleepEvent]; repeat' split
  all_goals simp
@[simp] theorem State.sleepEvent_wipe (fn : Nat) (m : Nat) (hm : 3023656976386 &&& m = 3023656976386) : (s.sleepEvent fn).wipe m = s.wipe m :=
  State.wipe_mono (State.sleepEvent_wipe0 ..) hm
theorem State.bumpVec_wipe0 (fn v : Nat) : (s.bumpVec fn v).wipe 3023656976386 = s.wipe 3023656976386 := by
  simp [State.bumpVec]
@[simp] theorem State.bumpVec_wipe (fn v : Nat) (m : Nat) (hm : 3023656976386 &&& m = 3023656976386) : (s.bumpVec fn v).wipe m = s.wipe m :=
  State.wipe_mono (State.bumpVec_wipe0 ..) hm
theorem State.countEvent_wipe0 (fn v : Nat) : (s.countEvent fn v).wipe 3023656976386 = s.wipe 3023656976386 := by
  simp only [State.countEvent]; repeat' split
  all_goals simp
@[simp] theorem State.countEvent_wipe (fn v : Nat) (m : Nat) (hm : 3023656976386 &&& m = 3023656976386) : (s.countEvent fn v).wipe m = s.wipe m :=
  State.wipe_mono (State.countEvent_wipe0 ..) hm
theorem State.deliver_wipe0 (id : Nat) : (s.deliver id).wipe 3023656976386 = s.wipe 3023656976386 := by
  simp only [State.deliver]; repeat' split
  all_goals simp
@[simp] theorem State.deliver_wipe (id : Nat) (m : Nat) (hm : 3023656976386 &&& m = 3023656976386) : (s.deliver id).wipe m = s.wipe m :=
  State.wipe_mono (State.deliver_wipe0 ..) hm
theorem State.notePend_wipe0 (id : Nat) : (s.notePend id).wipe 1099511627776 = s.wipe 1099511627776 := by
  simp only [State.notePend]; repeat' split
  all_goals simp
@[simp] theorem State.notePend_wipe (id : Nat) (m : Nat) (hm : 1099511627776 &&& m = 1099511627776) : (s.notePend id).wipe m = s.wipe m :=
  State.wipe_mono (State.notePend_wipe0 ..) hm
theorem State.raise_wipe0 (id : Nat) : (s.raise id).wipe 4123168604178 = s.wipe 4123168604178 := by
  simp only [State.raise]; repeat' split
  all_goals simp
@[simp] theorem State.raise_wipe (id : Nat) (m : Nat) (hm : 4123168604178 &&& m = 4123168604178) : (s.raise id).wipe m = s.wipe m :=
  State.wipe_mono (State.raise_wipe0 ..) hm
theorem State.raiseQuiet_wipe0 (id : Nat) : (s.raiseQuiet id).wipe 4123168604178 = s.wipe 4123168604178 := by
  simp only [State.raiseQuiet]; repeat' split
  all_goals simp
@[simp] theorem State.raiseQuiet_wipe (id : Nat) (m : Nat) (hm : 4123168604178 &&& m = 4123168604178) : (s.raiseQuiet id).wipe m = s.wipe m :=
  State.wipe_mono (State.raiseQuiet_wipe0 ..) hm
theorem State.raiseAll_wipe0 (ids : List Nat) : (s.raiseAll ids).wipe 4123168604178 = s.wipe 4123168604178 := by
  simp [State.raiseAll]
@[simp] theorem State.raiseAll_wipe (ids : List Nat) (m : Nat) (hm : 4123168604178 &&& m = 4123168604178) : (s.raiseAll ids).wipe m = s.wipe m :=
  State.wipe_mono (State.raiseAll_wipe0 ..) hm
theorem State.raisePriv_wipe0 (n j : Nat) : (s.raisePriv n j).wipe 4123168604178 = s.wipe 4123168604178 := by
  simp [State.raisePriv]
@[simp] theorem State.raisePriv_wipe (n j : Nat) (m : Nat) (hm : 4123168604178 &&& m = 4123168604178) : (s.raisePriv n j).wipe m = s.wipe m :=
  State.wipe_mono (State.raisePriv_wipe0 ..) hm
theorem State.clearSrc_wipe0 (id : Nat) : (s.clearSrc id).wipe 1099511627792 = s.wipe 1099511627792 := by
  simp [State.clearSrc]
@[simp] theorem State.clearSrc_wipe (id : Nat) (m : Nat) (hm : 1099511627792 &&& m = 1099511627792) : (s.clearSrc id).wipe m = s.wipe m :=
  State.wipe_mono (State.clearSrc_wipe0 ..) hm
theorem State.enableSrc_wipe0 (id : Nat) : (s.enableSrc id).wipe 4123168604178 = s.wipe 4123168604178 := by
  simp only [State.enableSrc]; repeat' split
  all_goals simp
@[simp] theorem State.enableSrc_wipe (id : Nat) (m : Nat) (hm : 4123168604178 &&& m = 4123168604178) : (s.enableSrc id).wipe m = s.wipe m :=
  State.wipe_mono (State.enableSrc_wipe0 ..) hm
theorem State.reownSrc_wipe0 (id owner : Nat) : (s.reownSrc id owner).wipe 1099511627792 = s.wipe 1099511627792 := by
  simp [State.reownSrc]
@[simp] theorem State.reownSrc_wipe (id owner : Nat) (m : Nat) (hm : 1099511627792 &&& m = 1099511627792) : (s.reownSrc id owner).wipe m = s.wipe m :=
  State.wipe_mono (State.reownSrc_wipe0 ..) hm
theorem State.passSrcs_wipe0 (ids : List Nat) (was is : Nat) : (s.passSrcs ids was is).wipe 1099511627792 = s.wipe 1099511627792 := by
  simp only [State.passSrcs]; repeat' split
  all_goals simp
@[simp] theorem State.passSrcs_wipe (ids : List Nat) (was is : Nat) (m : Nat) (hm : 1099511627792 &&& m = 1099511627792) : (s.passSrcs ids was is).wipe m = s.wipe m :=
  State.wipe_mono (State.passSrcs_wipe0 ..) hm
theorem State.setTrayPend_wipe0 (t i : Nat) (b : Bool) : (s.setTrayPend t i b).wipe 16 = s.wipe 16 := by
  simp [State.setTrayPend]
@[simp] theorem State.setTrayPend_wipe (t i : Nat) (b : Bool) (m : Nat) (hm : 16 &&& m = 16) : (s.setTrayPend t i b).wipe m = s.wipe m :=
  State.wipe_mono (State.setTrayPend_wipe0 ..) hm
theorem State.traySet_wipe0 (t i : Nat) (b : Bool) : (s.traySet t i b).wipe 4123202158610 = s.wipe 4123202158610 := by
  simp only [State.traySet]; repeat' split
  all_goals simp
@[simp] theorem State.traySet_wipe (t i : Nat) (b : Bool) (m : Nat) (hm : 4123202158610 &&& m = 4123202158610) : (s.traySet t i b).wipe m = s.wipe m :=
  State.wipe_mono (State.traySet_wipe0 ..) hm
theorem State.trayPulse_wipe0 (t i : Nat) : (s.trayPulse t i).wipe 4123202158610 = s.wipe 4123202158610 := by
  simp [State.trayPulse]
@[simp] theorem State.trayPulse_wipe (t i : Nat) (m : Nat) (hm : 4123202158610 &&& m = 4123202158610) : (s.trayPulse t i).wipe m = s.wipe m :=
  State.wipe_mono (State.trayPulse_wipe0 ..) hm
theorem State.relRecord_wipe0 (sev code kind block inst addr : Nat) : (s.relRecord sev code kind block inst addr).wipe 74491912781842 = s.wipe 74491912781842 := by
  simp only [State.relRecord]; repeat' split
  all_goals simp
@[simp] theorem State.relRecord_wipe (sev code kind block inst addr : Nat) (m : Nat) (hm : 74491912781842 &&& m = 74491912781842) : (s.relRecord sev code kind block inst addr).wipe m = s.wipe m :=
  State.wipe_mono (State.relRecord_wipe0 ..) hm
theorem State.updFull_wipe0 (n : Nat) : (s.updFull n).wipe 4123168604178 = s.wipe 4123168604178 := by
  simp only [State.updFull]; repeat' split
  all_goals simp
@[simp] theorem State.updFull_wipe (n : Nat) (m : Nat) (hm : 4123168604178 &&& m = 4123168604178) : (s.updFull n).wipe m = s.wipe m :=
  State.wipe_mono (State.updFull_wipe0 ..) hm
theorem State.postRecord_wipe0 (fn : Nat) (r : Cpl) : (s.postRecord fn r).wipe 2748779069458 = s.wipe 2748779069458 := by
  simp [State.postRecord]
@[simp] theorem State.postRecord_wipe (fn : Nat) (r : Cpl) (m : Nat) (hm : 2748779069458 &&& m = 2748779069458) : (s.postRecord fn r).wipe m = s.wipe m :=
  State.wipe_mono (State.postRecord_wipe0 ..) hm
theorem State.faultRecord_wipe0 (fn status source object detail : Nat) : (s.faultRecord fn status source object detail).wipe 4123168604178 = s.wipe 4123168604178 := by
  simp only [State.faultRecord]; repeat' split
  all_goals simp
@[simp] theorem State.faultRecord_wipe (fn status source object detail : Nat) (m : Nat) (hm : 4123168604178 &&& m = 4123168604178) : (s.faultRecord fn status source object detail).wipe m = s.wipe m :=
  State.wipe_mono (State.faultRecord_wipe0 ..) hm
theorem State.walkFailed_wipe0 (n a src code level : Nat) : (s.walkFailed n a src code level).wipe 16 = s.wipe 16 := by
  simp only [State.walkFailed]; repeat' split
  all_goals simp
@[simp] theorem State.walkFailed_wipe (n a src code level : Nat) (m : Nat) (hm : 16 &&& m = 16) : (s.walkFailed n a src code level).wipe m = s.wipe m :=
  State.wipe_mono (State.walkFailed_wipe0 ..) hm
theorem State.dataEcc_wipe0 : (s.dataEcc).wipe 16 = s.wipe 16 := by
  simp [State.dataEcc]
@[simp] theorem State.dataEcc_wipe (m : Nat) (hm : 16 &&& m = 16) : (s.dataEcc).wipe m = s.wipe m :=
  State.wipe_mono (State.dataEcc_wipe0 ..) hm
theorem State.walkCorrect_wipe0 (n a : Nat) : (s.walkCorrect n a).wipe 74491912782098 = s.wipe 74491912782098 := by
  simp only [State.walkCorrect]; refine State.foldl_wipe _ _ (fun s x => ?_) _ _; split
  · rw [State.relRecord_wipe _ _ _ _ _ _ _ _ (by decide), State.incSat_wipe _ _ _ _ _ (by decide)]; rfl
  · rfl
@[simp] theorem State.walkCorrect_wipe (n a : Nat) (m : Nat) (hm : 74491912782098 &&& m = 74491912782098) : (s.walkCorrect n a).wipe m = s.wipe m :=
  State.wipe_mono (State.walkCorrect_wipe0 ..) hm
theorem State.stopQueue_wipe0 (q code : Nat) : (s.stopQueue q code).wipe 131088 = s.wipe 131088 := by
  simp [State.stopQueue]
@[simp] theorem State.stopQueue_wipe (q code : Nat) (m : Nat) (hm : 131088 &&& m = 131088) : (s.stopQueue q code).wipe m = s.wipe m :=
  State.wipe_mono (State.stopQueue_wipe0 ..) hm
@[simp] theorem State.writeBytes_wipe (a : Nat) (bs : List (Option Nat)) (m : Nat) (hm : 448 &&& m = 448) : (s.writeBytes a bs).wipe m = s.wipe m := by
  have hb := fun i (e : Nat.testBit 448 i = true) => testBit_of_land hm e
  simp [State.wipe, State.writeBytes, hb 6 (by decide), hb 7 (by decide), hb 8 (by decide)]
theorem State.writeMem_wipe0 (a n v : Nat) : (s.writeMem a n v).wipe 448 = s.wipe 448 := by
  simp [State.writeMem]
@[simp] theorem State.writeMem_wipe (a n v : Nat) (m : Nat) (hm : 448 &&& m = 448) : (s.writeMem a n v).wipe m = s.wipe m :=
  State.wipe_mono (State.writeMem_wipe0 ..) hm
theorem State.reach_ok_wipe {n a src p : Nat} {t : State} (e : s.reach n a src = .ok p t) : t.wipe 74491912782098 = s.wipe 74491912782098 := by
  simp only [State.reach] at e; split at e
  · cases e; simp
  · cases e
theorem State.reach_bad_wipe {n a src c : Nat} {t : State} (e : s.reach n a src = .bad c t) : t.wipe 74491912782098 = s.wipe 74491912782098 := by
  simp only [State.reach] at e; split at e
  · cases e
  · cases e; simp
theorem State.slabWrite_ok_wipe {n a len v src : Nat} {u : Unit} {t : State} (e : s.slabWrite n a len v src = .ok u t) :
    t.wipe 74491912782290 = s.wipe 74491912782290 := by
  simp only [State.slabWrite] at e; split at e
  · cases e
  · next h => cases e; rw [State.writeMem_wipe _ _ _ _ _ (by decide)]; exact State.wipe_mono (State.reach_ok_wipe s h) (by decide)
theorem State.slabWrite_bad_wipe {n a len v src c : Nat} {t : State} (e : s.slabWrite n a len v src = .bad c t) :
    t.wipe 74491912782290 = s.wipe 74491912782290 := by
  simp only [State.slabWrite] at e; split at e
  · next h => cases e; exact State.wipe_mono (State.reach_bad_wipe s h) (by decide)
  · cases e
theorem State.slabRead_ok_wipe {n a len v src : Nat} {t : State} (e : s.slabRead n a len src = .ok v t) : t.wipe 74491912782098 = s.wipe 74491912782098 := by
  simp only [State.slabRead] at e; split at e
  · cases e
  · next h => split at e <;> cases e; exact State.reach_ok_wipe s h
theorem State.slabRead_bad_wipe {n a len src c : Nat} {t : State} (e : s.slabRead n a len src = .bad c t) : t.wipe 74491912782098 = s.wipe 74491912782098 := by
  simp only [State.slabRead] at e; split at e
  · next h => cases e; exact State.reach_bad_wipe s h
  · next h =>
    split at e <;> cases e
    rw [State.dataEcc_wipe _ _ (by decide)]; exact State.reach_ok_wipe s h

theorem State.descFault_wipe0 (q : Nat) : (s.descFault q).wipe 4123168735250 = s.wipe 4123168735250 := by
  simp [State.descFault]
@[simp] theorem State.descFault_wipe (q m : Nat) (hm : 4123168735250 &&& m = 4123168735250) : (s.descFault q).wipe m = s.wipe m :=
  State.wipe_mono (State.descFault_wipe0 ..) hm
theorem State.logRecord_wipe0 (q v mb : Nat) : (s.logRecord q v mb).wipe 74491912913362 = s.wipe 74491912913362 := by
  simp only [State.logRecord]; repeat' split
  · rfl
  · simp
  · simp
  · simp
  · next h => simp [State.wipe_mono (State.slabWrite_ok_wipe s h) (show 74491912782290 &&& 74491912913362 = 74491912782290 by decide)]
  · next h => simp [State.wipe_mono (State.slabWrite_bad_wipe s h) (show 74491912782290 &&& 74491912913362 = 74491912782290 by decide)]
@[simp] theorem State.logRecord_wipe (q v mb : Nat) (m : Nat) (hm : 74491912913362 &&& m = 74491912913362) : (s.logRecord q v mb).wipe m = s.wipe m :=
  State.wipe_mono (State.logRecord_wipe0 ..) hm
theorem State.execRecord_wipe0 (a : Action) (o : Origin) (status time : Nat) : (s.execRecord a o status time).wipe 74491912913362 = s.wipe 74491912913362 := by
  simp only [State.execRecord]; repeat' split
  all_goals simp
@[simp] theorem State.execRecord_wipe (a : Action) (o : Origin) (status time : Nat) (m : Nat) (hm : 74491912913362 &&& m = 74491912913362) : (s.execRecord a o status time).wipe m = s.wipe m :=
  State.wipe_mono (State.execRecord_wipe0 ..) hm
theorem State.logExec_wipe0 (a : Action) (o : Origin) (status time : Nat) : (s.logExec a o status time).wipe 74491912913362 = s.wipe 74491912913362 := by
  simp only [State.logExec]; repeat' split
  all_goals simp
@[simp] theorem State.logExec_wipe (a : Action) (o : Origin) (status time : Nat) (m : Nat) (hm : 74491912913362 &&& m = 74491912913362) : (s.logExec a o status time).wipe m = s.wipe m :=
  State.wipe_mono (State.logExec_wipe0 ..) hm

@[simp] theorem State.raise_pending (id : Nat) : (s.raise id).pending = s.pending := State.pending_of_wipe (s.raise_wipe0 id) rfl
@[simp] theorem State.raise_fresh (id : Nat) : (s.raise id).fresh = s.fresh := State.fresh_of_wipe (s.raise_wipe0 id) rfl
@[simp] theorem State.raise_tick (id : Nat) : (s.raise id).tick = s.tick := State.tick_of_wipe (s.raise_wipe0 id) rfl
@[simp] theorem State.raise_shadow (id : Nat) : (s.raise id).shadow = s.shadow := State.shadow_of_wipe (s.raise_wipe0 id) rfl
@[simp] theorem State.raise_mem (id : Nat) : (s.raise id).mem = s.mem := State.mem_of_wipe (s.raise_wipe0 id) rfl
@[simp] theorem State.raise_eccBad (id : Nat) : (s.raise id).eccBad = s.eccBad := State.eccBad_of_wipe (s.raise_wipe0 id) rfl
@[simp] theorem State.raise_eccSoft (id : Nat) : (s.raise id).eccSoft = s.eccSoft := State.eccSoft_of_wipe (s.raise_wipe0 id) rfl
@[simp] theorem State.raise_tb (id : Nat) : (s.raise id).tb = s.tb := State.tb_of_wipe (s.raise_wipe0 id) rfl
@[simp] theorem State.raise_pages (id : Nat) : (s.raise id).pages = s.pages := State.pages_of_wipe (s.raise_wipe0 id) rfl
@[simp] theorem State.raise_groups (id : Nat) : (s.raise id).groups = s.groups := State.groups_of_wipe (s.raise_wipe0 id) rfl
@[simp] theorem State.raise_hs (id : Nat) : (s.raise id).hs = s.hs := State.hs_of_wipe (s.raise_wipe0 id) rfl
@[simp] theorem State.raise_cuffs (id : Nat) : (s.raise id).cuffs = s.cuffs := State.cuffs_of_wipe (s.raise_wipe0 id) rfl
@[simp] theorem State.raise_sleeves (id : Nat) : (s.raise id).sleeves = s.sleeves := State.sleeves_of_wipe (s.raise_wipe0 id) rfl
@[simp] theorem State.raise_pairs (id : Nat) : (s.raise id).pairs = s.pairs := State.pairs_of_wipe (s.raise_wipe0 id) rfl
@[simp] theorem State.raise_voters (id : Nat) : (s.raise id).voters = s.voters := State.voters_of_wipe (s.raise_wipe0 id) rfl
@[simp] theorem State.raise_queues (id : Nat) : (s.raise id).queues = s.queues := State.queues_of_wipe (s.raise_wipe0 id) rfl
@[simp] theorem State.raise_refs (id : Nat) : (s.raise id).refs = s.refs := State.refs_of_wipe (s.raise_wipe0 id) rfl
@[simp] theorem State.raise_seams (id : Nat) : (s.raise id).seams = s.seams := State.seams_of_wipe (s.raise_wipe0 id) rfl
@[simp] theorem State.raise_fifos (id : Nat) : (s.raise id).fifos = s.fifos := State.fifos_of_wipe (s.raise_wipe0 id) rfl
@[simp] theorem State.raise_votes (id : Nat) : (s.raise id).votes = s.votes := State.votes_of_wipe (s.raise_wipe0 id) rfl
@[simp] theorem State.raise_lanes (id : Nat) : (s.raise id).lanes = s.lanes := State.lanes_of_wipe (s.raise_wipe0 id) rfl
@[simp] theorem State.raise_quota (id : Nat) : (s.raise id).quota = s.quota := State.quota_of_wipe (s.raise_wipe0 id) rfl
@[simp] theorem State.raise_used (id : Nat) : (s.raise id).used = s.used := State.used_of_wipe (s.raise_wipe0 id) rfl
@[simp] theorem State.raise_trays (id : Nat) : (s.raise id).trays = s.trays := State.trays_of_wipe (s.raise_wipe0 id) rfl
@[simp] theorem State.raise_ctxs (id : Nat) : (s.raise id).ctxs = s.ctxs := State.ctxs_of_wipe (s.raise_wipe0 id) rfl
@[simp] theorem State.raise_flags (id : Nat) : (s.raise id).flags = s.flags := State.flags_of_wipe (s.raise_wipe0 id) rfl
@[simp] theorem State.raise_cs (id : Nat) : (s.raise id).cs = s.cs := State.cs_of_wipe (s.raise_wipe0 id) rfl
@[simp] theorem State.raise_csBad (id : Nat) : (s.raise id).csBad = s.csBad := State.csBad_of_wipe (s.raise_wipe0 id) rfl
@[simp] theorem State.raise_csSoft (id : Nat) : (s.raise id).csSoft = s.csSoft := State.csSoft_of_wipe (s.raise_wipe0 id) rfl
@[simp] theorem State.raise_units (id : Nat) : (s.raise id).units = s.units := State.units_of_wipe (s.raise_wipe0 id) rfl
@[simp] theorem State.raise_upd (id : Nat) : (s.raise id).upd = s.upd := State.upd_of_wipe (s.raise_wipe0 id) rfl
@[simp] theorem State.raise_pios (id : Nat) : (s.raise id).pios = s.pios := State.pios_of_wipe (s.raise_wipe0 id) rfl
@[simp] theorem State.raise_syncAt (id : Nat) : (s.raise id).syncAt = s.syncAt := State.syncAt_of_wipe (s.raise_wipe0 id) rfl
@[simp] theorem State.raise_ports (id : Nat) : (s.raise id).ports = s.ports := State.ports_of_wipe (s.raise_wipe0 id) rfl
@[simp] theorem State.raise_ens (id : Nat) : (s.raise id).ens = s.ens := State.ens_of_wipe (s.raise_wipe0 id) rfl
@[simp] theorem State.raise_enps (id : Nat) : (s.raise id).enps = s.enps := State.enps_of_wipe (s.raise_wipe0 id) rfl
@[simp] theorem State.raise_coreStacks (id : Nat) : (s.raise id).coreStacks = s.coreStacks := State.coreStacks_of_wipe (s.raise_wipe0 id) rfl
@[simp] theorem State.raise_chans (id : Nat) : (s.raise id).chans = s.chans := State.chans_of_wipe (s.raise_wipe0 id) rfl
@[simp] theorem State.raise_pwr (id : Nat) : (s.raise id).pwr = s.pwr := State.pwr_of_wipe (s.raise_wipe0 id) rfl
@[simp] theorem State.raise_boot (id : Nat) : (s.raise id).boot = s.boot := State.boot_of_wipe (s.raise_wipe0 id) rfl
@[simp] theorem State.raise_turns (id : Nat) : (s.raise id).turns = s.turns := State.turns_of_wipe (s.raise_wipe0 id) rfl
@[simp] theorem State.raise_rel (id : Nat) : (s.raise id).rel = s.rel := State.rel_of_wipe (s.raise_wipe0 id) rfl

@[simp] theorem State.raisePriv_pending (n j : Nat) : (s.raisePriv n j).pending = s.pending := State.pending_of_wipe (s.raisePriv_wipe0 n j) rfl
@[simp] theorem State.raisePriv_fresh (n j : Nat) : (s.raisePriv n j).fresh = s.fresh := State.fresh_of_wipe (s.raisePriv_wipe0 n j) rfl
@[simp] theorem State.raisePriv_tick (n j : Nat) : (s.raisePriv n j).tick = s.tick := State.tick_of_wipe (s.raisePriv_wipe0 n j) rfl
@[simp] theorem State.raisePriv_shadow (n j : Nat) : (s.raisePriv n j).shadow = s.shadow := State.shadow_of_wipe (s.raisePriv_wipe0 n j) rfl
@[simp] theorem State.raisePriv_mem (n j : Nat) : (s.raisePriv n j).mem = s.mem := State.mem_of_wipe (s.raisePriv_wipe0 n j) rfl
@[simp] theorem State.raisePriv_eccBad (n j : Nat) : (s.raisePriv n j).eccBad = s.eccBad := State.eccBad_of_wipe (s.raisePriv_wipe0 n j) rfl
@[simp] theorem State.raisePriv_eccSoft (n j : Nat) : (s.raisePriv n j).eccSoft = s.eccSoft := State.eccSoft_of_wipe (s.raisePriv_wipe0 n j) rfl
@[simp] theorem State.raisePriv_tb (n j : Nat) : (s.raisePriv n j).tb = s.tb := State.tb_of_wipe (s.raisePriv_wipe0 n j) rfl
@[simp] theorem State.raisePriv_pages (n j : Nat) : (s.raisePriv n j).pages = s.pages := State.pages_of_wipe (s.raisePriv_wipe0 n j) rfl
@[simp] theorem State.raisePriv_groups (n j : Nat) : (s.raisePriv n j).groups = s.groups := State.groups_of_wipe (s.raisePriv_wipe0 n j) rfl
@[simp] theorem State.raisePriv_hs (n j : Nat) : (s.raisePriv n j).hs = s.hs := State.hs_of_wipe (s.raisePriv_wipe0 n j) rfl
@[simp] theorem State.raisePriv_cuffs (n j : Nat) : (s.raisePriv n j).cuffs = s.cuffs := State.cuffs_of_wipe (s.raisePriv_wipe0 n j) rfl
@[simp] theorem State.raisePriv_sleeves (n j : Nat) : (s.raisePriv n j).sleeves = s.sleeves := State.sleeves_of_wipe (s.raisePriv_wipe0 n j) rfl
@[simp] theorem State.raisePriv_pairs (n j : Nat) : (s.raisePriv n j).pairs = s.pairs := State.pairs_of_wipe (s.raisePriv_wipe0 n j) rfl
@[simp] theorem State.raisePriv_voters (n j : Nat) : (s.raisePriv n j).voters = s.voters := State.voters_of_wipe (s.raisePriv_wipe0 n j) rfl
@[simp] theorem State.raisePriv_queues (n j : Nat) : (s.raisePriv n j).queues = s.queues := State.queues_of_wipe (s.raisePriv_wipe0 n j) rfl
@[simp] theorem State.raisePriv_refs (n j : Nat) : (s.raisePriv n j).refs = s.refs := State.refs_of_wipe (s.raisePriv_wipe0 n j) rfl
@[simp] theorem State.raisePriv_seams (n j : Nat) : (s.raisePriv n j).seams = s.seams := State.seams_of_wipe (s.raisePriv_wipe0 n j) rfl
@[simp] theorem State.raisePriv_fifos (n j : Nat) : (s.raisePriv n j).fifos = s.fifos := State.fifos_of_wipe (s.raisePriv_wipe0 n j) rfl
@[simp] theorem State.raisePriv_votes (n j : Nat) : (s.raisePriv n j).votes = s.votes := State.votes_of_wipe (s.raisePriv_wipe0 n j) rfl
@[simp] theorem State.raisePriv_lanes (n j : Nat) : (s.raisePriv n j).lanes = s.lanes := State.lanes_of_wipe (s.raisePriv_wipe0 n j) rfl
@[simp] theorem State.raisePriv_quota (n j : Nat) : (s.raisePriv n j).quota = s.quota := State.quota_of_wipe (s.raisePriv_wipe0 n j) rfl
@[simp] theorem State.raisePriv_used (n j : Nat) : (s.raisePriv n j).used = s.used := State.used_of_wipe (s.raisePriv_wipe0 n j) rfl
@[simp] theorem State.raisePriv_trays (n j : Nat) : (s.raisePriv n j).trays = s.trays := State.trays_of_wipe (s.raisePriv_wipe0 n j) rfl
@[simp] theorem State.raisePriv_ctxs (n j : Nat) : (s.raisePriv n j).ctxs = s.ctxs := State.ctxs_of_wipe (s.raisePriv_wipe0 n j) rfl
@[simp] theorem State.raisePriv_flags (n j : Nat) : (s.raisePriv n j).flags = s.flags := State.flags_of_wipe (s.raisePriv_wipe0 n j) rfl
@[simp] theorem State.raisePriv_cs (n j : Nat) : (s.raisePriv n j).cs = s.cs := State.cs_of_wipe (s.raisePriv_wipe0 n j) rfl
@[simp] theorem State.raisePriv_csBad (n j : Nat) : (s.raisePriv n j).csBad = s.csBad := State.csBad_of_wipe (s.raisePriv_wipe0 n j) rfl
@[simp] theorem State.raisePriv_csSoft (n j : Nat) : (s.raisePriv n j).csSoft = s.csSoft := State.csSoft_of_wipe (s.raisePriv_wipe0 n j) rfl
@[simp] theorem State.raisePriv_units (n j : Nat) : (s.raisePriv n j).units = s.units := State.units_of_wipe (s.raisePriv_wipe0 n j) rfl
@[simp] theorem State.raisePriv_upd (n j : Nat) : (s.raisePriv n j).upd = s.upd := State.upd_of_wipe (s.raisePriv_wipe0 n j) rfl
@[simp] theorem State.raisePriv_pios (n j : Nat) : (s.raisePriv n j).pios = s.pios := State.pios_of_wipe (s.raisePriv_wipe0 n j) rfl
@[simp] theorem State.raisePriv_syncAt (n j : Nat) : (s.raisePriv n j).syncAt = s.syncAt := State.syncAt_of_wipe (s.raisePriv_wipe0 n j) rfl
@[simp] theorem State.raisePriv_ports (n j : Nat) : (s.raisePriv n j).ports = s.ports := State.ports_of_wipe (s.raisePriv_wipe0 n j) rfl
@[simp] theorem State.raisePriv_ens (n j : Nat) : (s.raisePriv n j).ens = s.ens := State.ens_of_wipe (s.raisePriv_wipe0 n j) rfl
@[simp] theorem State.raisePriv_enps (n j : Nat) : (s.raisePriv n j).enps = s.enps := State.enps_of_wipe (s.raisePriv_wipe0 n j) rfl
@[simp] theorem State.raisePriv_coreStacks (n j : Nat) : (s.raisePriv n j).coreStacks = s.coreStacks := State.coreStacks_of_wipe (s.raisePriv_wipe0 n j) rfl
@[simp] theorem State.raisePriv_chans (n j : Nat) : (s.raisePriv n j).chans = s.chans := State.chans_of_wipe (s.raisePriv_wipe0 n j) rfl
@[simp] theorem State.raisePriv_pwr (n j : Nat) : (s.raisePriv n j).pwr = s.pwr := State.pwr_of_wipe (s.raisePriv_wipe0 n j) rfl
@[simp] theorem State.raisePriv_boot (n j : Nat) : (s.raisePriv n j).boot = s.boot := State.boot_of_wipe (s.raisePriv_wipe0 n j) rfl
@[simp] theorem State.raisePriv_turns (n j : Nat) : (s.raisePriv n j).turns = s.turns := State.turns_of_wipe (s.raisePriv_wipe0 n j) rfl
@[simp] theorem State.raisePriv_rel (n j : Nat) : (s.raisePriv n j).rel = s.rel := State.rel_of_wipe (s.raisePriv_wipe0 n j) rfl

@[simp] theorem State.traySet_pending (t i : Nat) (b : Bool) : (s.traySet t i b).pending = s.pending := State.pending_of_wipe (s.traySet_wipe0 t i b) rfl
@[simp] theorem State.traySet_fresh (t i : Nat) (b : Bool) : (s.traySet t i b).fresh = s.fresh := State.fresh_of_wipe (s.traySet_wipe0 t i b) rfl
@[simp] theorem State.traySet_tick (t i : Nat) (b : Bool) : (s.traySet t i b).tick = s.tick := State.tick_of_wipe (s.traySet_wipe0 t i b) rfl
@[simp] theorem State.traySet_shadow (t i : Nat) (b : Bool) : (s.traySet t i b).shadow = s.shadow := State.shadow_of_wipe (s.traySet_wipe0 t i b) rfl
@[simp] theorem State.traySet_mem (t i : Nat) (b : Bool) : (s.traySet t i b).mem = s.mem := State.mem_of_wipe (s.traySet_wipe0 t i b) rfl
@[simp] theorem State.traySet_eccBad (t i : Nat) (b : Bool) : (s.traySet t i b).eccBad = s.eccBad := State.eccBad_of_wipe (s.traySet_wipe0 t i b) rfl
@[simp] theorem State.traySet_eccSoft (t i : Nat) (b : Bool) : (s.traySet t i b).eccSoft = s.eccSoft := State.eccSoft_of_wipe (s.traySet_wipe0 t i b) rfl
@[simp] theorem State.traySet_tb (t i : Nat) (b : Bool) : (s.traySet t i b).tb = s.tb := State.tb_of_wipe (s.traySet_wipe0 t i b) rfl
@[simp] theorem State.traySet_pages (t i : Nat) (b : Bool) : (s.traySet t i b).pages = s.pages := State.pages_of_wipe (s.traySet_wipe0 t i b) rfl
@[simp] theorem State.traySet_groups (t i : Nat) (b : Bool) : (s.traySet t i b).groups = s.groups := State.groups_of_wipe (s.traySet_wipe0 t i b) rfl
@[simp] theorem State.traySet_hs (t i : Nat) (b : Bool) : (s.traySet t i b).hs = s.hs := State.hs_of_wipe (s.traySet_wipe0 t i b) rfl
@[simp] theorem State.traySet_cuffs (t i : Nat) (b : Bool) : (s.traySet t i b).cuffs = s.cuffs := State.cuffs_of_wipe (s.traySet_wipe0 t i b) rfl
@[simp] theorem State.traySet_sleeves (t i : Nat) (b : Bool) : (s.traySet t i b).sleeves = s.sleeves := State.sleeves_of_wipe (s.traySet_wipe0 t i b) rfl
@[simp] theorem State.traySet_pairs (t i : Nat) (b : Bool) : (s.traySet t i b).pairs = s.pairs := State.pairs_of_wipe (s.traySet_wipe0 t i b) rfl
@[simp] theorem State.traySet_voters (t i : Nat) (b : Bool) : (s.traySet t i b).voters = s.voters := State.voters_of_wipe (s.traySet_wipe0 t i b) rfl
@[simp] theorem State.traySet_queues (t i : Nat) (b : Bool) : (s.traySet t i b).queues = s.queues := State.queues_of_wipe (s.traySet_wipe0 t i b) rfl
@[simp] theorem State.traySet_refs (t i : Nat) (b : Bool) : (s.traySet t i b).refs = s.refs := State.refs_of_wipe (s.traySet_wipe0 t i b) rfl
@[simp] theorem State.traySet_seams (t i : Nat) (b : Bool) : (s.traySet t i b).seams = s.seams := State.seams_of_wipe (s.traySet_wipe0 t i b) rfl
@[simp] theorem State.traySet_fifos (t i : Nat) (b : Bool) : (s.traySet t i b).fifos = s.fifos := State.fifos_of_wipe (s.traySet_wipe0 t i b) rfl
@[simp] theorem State.traySet_votes (t i : Nat) (b : Bool) : (s.traySet t i b).votes = s.votes := State.votes_of_wipe (s.traySet_wipe0 t i b) rfl
@[simp] theorem State.traySet_lanes (t i : Nat) (b : Bool) : (s.traySet t i b).lanes = s.lanes := State.lanes_of_wipe (s.traySet_wipe0 t i b) rfl
@[simp] theorem State.traySet_quota (t i : Nat) (b : Bool) : (s.traySet t i b).quota = s.quota := State.quota_of_wipe (s.traySet_wipe0 t i b) rfl
@[simp] theorem State.traySet_used (t i : Nat) (b : Bool) : (s.traySet t i b).used = s.used := State.used_of_wipe (s.traySet_wipe0 t i b) rfl
@[simp] theorem State.traySet_ctxs (t i : Nat) (b : Bool) : (s.traySet t i b).ctxs = s.ctxs := State.ctxs_of_wipe (s.traySet_wipe0 t i b) rfl
@[simp] theorem State.traySet_flags (t i : Nat) (b : Bool) : (s.traySet t i b).flags = s.flags := State.flags_of_wipe (s.traySet_wipe0 t i b) rfl
@[simp] theorem State.traySet_cs (t i : Nat) (b : Bool) : (s.traySet t i b).cs = s.cs := State.cs_of_wipe (s.traySet_wipe0 t i b) rfl
@[simp] theorem State.traySet_csBad (t i : Nat) (b : Bool) : (s.traySet t i b).csBad = s.csBad := State.csBad_of_wipe (s.traySet_wipe0 t i b) rfl
@[simp] theorem State.traySet_csSoft (t i : Nat) (b : Bool) : (s.traySet t i b).csSoft = s.csSoft := State.csSoft_of_wipe (s.traySet_wipe0 t i b) rfl
@[simp] theorem State.traySet_units (t i : Nat) (b : Bool) : (s.traySet t i b).units = s.units := State.units_of_wipe (s.traySet_wipe0 t i b) rfl
@[simp] theorem State.traySet_upd (t i : Nat) (b : Bool) : (s.traySet t i b).upd = s.upd := State.upd_of_wipe (s.traySet_wipe0 t i b) rfl
@[simp] theorem State.traySet_pios (t i : Nat) (b : Bool) : (s.traySet t i b).pios = s.pios := State.pios_of_wipe (s.traySet_wipe0 t i b) rfl
@[simp] theorem State.traySet_syncAt (t i : Nat) (b : Bool) : (s.traySet t i b).syncAt = s.syncAt := State.syncAt_of_wipe (s.traySet_wipe0 t i b) rfl
@[simp] theorem State.traySet_ports (t i : Nat) (b : Bool) : (s.traySet t i b).ports = s.ports := State.ports_of_wipe (s.traySet_wipe0 t i b) rfl
@[simp] theorem State.traySet_ens (t i : Nat) (b : Bool) : (s.traySet t i b).ens = s.ens := State.ens_of_wipe (s.traySet_wipe0 t i b) rfl
@[simp] theorem State.traySet_enps (t i : Nat) (b : Bool) : (s.traySet t i b).enps = s.enps := State.enps_of_wipe (s.traySet_wipe0 t i b) rfl
@[simp] theorem State.traySet_coreStacks (t i : Nat) (b : Bool) : (s.traySet t i b).coreStacks = s.coreStacks := State.coreStacks_of_wipe (s.traySet_wipe0 t i b) rfl
@[simp] theorem State.traySet_chans (t i : Nat) (b : Bool) : (s.traySet t i b).chans = s.chans := State.chans_of_wipe (s.traySet_wipe0 t i b) rfl
@[simp] theorem State.traySet_pwr (t i : Nat) (b : Bool) : (s.traySet t i b).pwr = s.pwr := State.pwr_of_wipe (s.traySet_wipe0 t i b) rfl
@[simp] theorem State.traySet_boot (t i : Nat) (b : Bool) : (s.traySet t i b).boot = s.boot := State.boot_of_wipe (s.traySet_wipe0 t i b) rfl
@[simp] theorem State.traySet_turns (t i : Nat) (b : Bool) : (s.traySet t i b).turns = s.turns := State.turns_of_wipe (s.traySet_wipe0 t i b) rfl
@[simp] theorem State.traySet_rel (t i : Nat) (b : Bool) : (s.traySet t i b).rel = s.rel := State.rel_of_wipe (s.traySet_wipe0 t i b) rfl

@[simp] theorem State.trayPulse_pending (t i : Nat) : (s.trayPulse t i).pending = s.pending := State.pending_of_wipe (s.trayPulse_wipe0 t i) rfl
@[simp] theorem State.trayPulse_fresh (t i : Nat) : (s.trayPulse t i).fresh = s.fresh := State.fresh_of_wipe (s.trayPulse_wipe0 t i) rfl
@[simp] theorem State.trayPulse_tick (t i : Nat) : (s.trayPulse t i).tick = s.tick := State.tick_of_wipe (s.trayPulse_wipe0 t i) rfl
@[simp] theorem State.trayPulse_shadow (t i : Nat) : (s.trayPulse t i).shadow = s.shadow := State.shadow_of_wipe (s.trayPulse_wipe0 t i) rfl
@[simp] theorem State.trayPulse_mem (t i : Nat) : (s.trayPulse t i).mem = s.mem := State.mem_of_wipe (s.trayPulse_wipe0 t i) rfl
@[simp] theorem State.trayPulse_eccBad (t i : Nat) : (s.trayPulse t i).eccBad = s.eccBad := State.eccBad_of_wipe (s.trayPulse_wipe0 t i) rfl
@[simp] theorem State.trayPulse_eccSoft (t i : Nat) : (s.trayPulse t i).eccSoft = s.eccSoft := State.eccSoft_of_wipe (s.trayPulse_wipe0 t i) rfl
@[simp] theorem State.trayPulse_tb (t i : Nat) : (s.trayPulse t i).tb = s.tb := State.tb_of_wipe (s.trayPulse_wipe0 t i) rfl
@[simp] theorem State.trayPulse_pages (t i : Nat) : (s.trayPulse t i).pages = s.pages := State.pages_of_wipe (s.trayPulse_wipe0 t i) rfl
@[simp] theorem State.trayPulse_groups (t i : Nat) : (s.trayPulse t i).groups = s.groups := State.groups_of_wipe (s.trayPulse_wipe0 t i) rfl
@[simp] theorem State.trayPulse_hs (t i : Nat) : (s.trayPulse t i).hs = s.hs := State.hs_of_wipe (s.trayPulse_wipe0 t i) rfl
@[simp] theorem State.trayPulse_cuffs (t i : Nat) : (s.trayPulse t i).cuffs = s.cuffs := State.cuffs_of_wipe (s.trayPulse_wipe0 t i) rfl
@[simp] theorem State.trayPulse_sleeves (t i : Nat) : (s.trayPulse t i).sleeves = s.sleeves := State.sleeves_of_wipe (s.trayPulse_wipe0 t i) rfl
@[simp] theorem State.trayPulse_pairs (t i : Nat) : (s.trayPulse t i).pairs = s.pairs := State.pairs_of_wipe (s.trayPulse_wipe0 t i) rfl
@[simp] theorem State.trayPulse_voters (t i : Nat) : (s.trayPulse t i).voters = s.voters := State.voters_of_wipe (s.trayPulse_wipe0 t i) rfl
@[simp] theorem State.trayPulse_queues (t i : Nat) : (s.trayPulse t i).queues = s.queues := State.queues_of_wipe (s.trayPulse_wipe0 t i) rfl
@[simp] theorem State.trayPulse_refs (t i : Nat) : (s.trayPulse t i).refs = s.refs := State.refs_of_wipe (s.trayPulse_wipe0 t i) rfl
@[simp] theorem State.trayPulse_seams (t i : Nat) : (s.trayPulse t i).seams = s.seams := State.seams_of_wipe (s.trayPulse_wipe0 t i) rfl
@[simp] theorem State.trayPulse_fifos (t i : Nat) : (s.trayPulse t i).fifos = s.fifos := State.fifos_of_wipe (s.trayPulse_wipe0 t i) rfl
@[simp] theorem State.trayPulse_votes (t i : Nat) : (s.trayPulse t i).votes = s.votes := State.votes_of_wipe (s.trayPulse_wipe0 t i) rfl
@[simp] theorem State.trayPulse_lanes (t i : Nat) : (s.trayPulse t i).lanes = s.lanes := State.lanes_of_wipe (s.trayPulse_wipe0 t i) rfl
@[simp] theorem State.trayPulse_quota (t i : Nat) : (s.trayPulse t i).quota = s.quota := State.quota_of_wipe (s.trayPulse_wipe0 t i) rfl
@[simp] theorem State.trayPulse_used (t i : Nat) : (s.trayPulse t i).used = s.used := State.used_of_wipe (s.trayPulse_wipe0 t i) rfl
@[simp] theorem State.trayPulse_ctxs (t i : Nat) : (s.trayPulse t i).ctxs = s.ctxs := State.ctxs_of_wipe (s.trayPulse_wipe0 t i) rfl
@[simp] theorem State.trayPulse_flags (t i : Nat) : (s.trayPulse t i).flags = s.flags := State.flags_of_wipe (s.trayPulse_wipe0 t i) rfl
@[simp] theorem State.trayPulse_cs (t i : Nat) : (s.trayPulse t i).cs = s.cs := State.cs_of_wipe (s.trayPulse_wipe0 t i) rfl
@[simp] theorem State.trayPulse_csBad (t i : Nat) : (s.trayPulse t i).csBad = s.csBad := State.csBad_of_wipe (s.trayPulse_wipe0 t i) rfl
@[simp] theorem State.trayPulse_csSoft (t i : Nat) : (s.trayPulse t i).csSoft = s.csSoft := State.csSoft_of_wipe (s.trayPulse_wipe0 t i) rfl
@[simp] theorem State.trayPulse_units (t i : Nat) : (s.trayPulse t i).units = s.units := State.units_of_wipe (s.trayPulse_wipe0 t i) rfl
@[simp] theorem State.trayPulse_upd (t i : Nat) : (s.trayPulse t i).upd = s.upd := State.upd_of_wipe (s.trayPulse_wipe0 t i) rfl
@[simp] theorem State.trayPulse_pios (t i : Nat) : (s.trayPulse t i).pios = s.pios := State.pios_of_wipe (s.trayPulse_wipe0 t i) rfl
@[simp] theorem State.trayPulse_syncAt (t i : Nat) : (s.trayPulse t i).syncAt = s.syncAt := State.syncAt_of_wipe (s.trayPulse_wipe0 t i) rfl
@[simp] theorem State.trayPulse_ports (t i : Nat) : (s.trayPulse t i).ports = s.ports := State.ports_of_wipe (s.trayPulse_wipe0 t i) rfl
@[simp] theorem State.trayPulse_ens (t i : Nat) : (s.trayPulse t i).ens = s.ens := State.ens_of_wipe (s.trayPulse_wipe0 t i) rfl
@[simp] theorem State.trayPulse_enps (t i : Nat) : (s.trayPulse t i).enps = s.enps := State.enps_of_wipe (s.trayPulse_wipe0 t i) rfl
@[simp] theorem State.trayPulse_coreStacks (t i : Nat) : (s.trayPulse t i).coreStacks = s.coreStacks := State.coreStacks_of_wipe (s.trayPulse_wipe0 t i) rfl
@[simp] theorem State.trayPulse_chans (t i : Nat) : (s.trayPulse t i).chans = s.chans := State.chans_of_wipe (s.trayPulse_wipe0 t i) rfl
@[simp] theorem State.trayPulse_pwr (t i : Nat) : (s.trayPulse t i).pwr = s.pwr := State.pwr_of_wipe (s.trayPulse_wipe0 t i) rfl
@[simp] theorem State.trayPulse_boot (t i : Nat) : (s.trayPulse t i).boot = s.boot := State.boot_of_wipe (s.trayPulse_wipe0 t i) rfl
@[simp] theorem State.trayPulse_turns (t i : Nat) : (s.trayPulse t i).turns = s.turns := State.turns_of_wipe (s.trayPulse_wipe0 t i) rfl
@[simp] theorem State.trayPulse_rel (t i : Nat) : (s.trayPulse t i).rel = s.rel := State.rel_of_wipe (s.trayPulse_wipe0 t i) rfl

@[simp] theorem State.relRecord_pending (sev code kind block inst addr : Nat) : (s.relRecord sev code kind block inst addr).pending = s.pending := State.pending_of_wipe (s.relRecord_wipe0 sev code kind block inst addr) rfl
@[simp] theorem State.relRecord_fresh (sev code kind block inst addr : Nat) : (s.relRecord sev code kind block inst addr).fresh = s.fresh := State.fresh_of_wipe (s.relRecord_wipe0 sev code kind block inst addr) rfl
@[simp] theorem State.relRecord_tick (sev code kind block inst addr : Nat) : (s.relRecord sev code kind block inst addr).tick = s.tick := State.tick_of_wipe (s.relRecord_wipe0 sev code kind block inst addr) rfl
@[simp] theorem State.relRecord_shadow (sev code kind block inst addr : Nat) : (s.relRecord sev code kind block inst addr).shadow = s.shadow := State.shadow_of_wipe (s.relRecord_wipe0 sev code kind block inst addr) rfl
@[simp] theorem State.relRecord_mem (sev code kind block inst addr : Nat) : (s.relRecord sev code kind block inst addr).mem = s.mem := State.mem_of_wipe (s.relRecord_wipe0 sev code kind block inst addr) rfl
@[simp] theorem State.relRecord_eccBad (sev code kind block inst addr : Nat) : (s.relRecord sev code kind block inst addr).eccBad = s.eccBad := State.eccBad_of_wipe (s.relRecord_wipe0 sev code kind block inst addr) rfl
@[simp] theorem State.relRecord_eccSoft (sev code kind block inst addr : Nat) : (s.relRecord sev code kind block inst addr).eccSoft = s.eccSoft := State.eccSoft_of_wipe (s.relRecord_wipe0 sev code kind block inst addr) rfl
@[simp] theorem State.relRecord_tb (sev code kind block inst addr : Nat) : (s.relRecord sev code kind block inst addr).tb = s.tb := State.tb_of_wipe (s.relRecord_wipe0 sev code kind block inst addr) rfl
@[simp] theorem State.relRecord_pages (sev code kind block inst addr : Nat) : (s.relRecord sev code kind block inst addr).pages = s.pages := State.pages_of_wipe (s.relRecord_wipe0 sev code kind block inst addr) rfl
@[simp] theorem State.relRecord_groups (sev code kind block inst addr : Nat) : (s.relRecord sev code kind block inst addr).groups = s.groups := State.groups_of_wipe (s.relRecord_wipe0 sev code kind block inst addr) rfl
@[simp] theorem State.relRecord_hs (sev code kind block inst addr : Nat) : (s.relRecord sev code kind block inst addr).hs = s.hs := State.hs_of_wipe (s.relRecord_wipe0 sev code kind block inst addr) rfl
@[simp] theorem State.relRecord_cuffs (sev code kind block inst addr : Nat) : (s.relRecord sev code kind block inst addr).cuffs = s.cuffs := State.cuffs_of_wipe (s.relRecord_wipe0 sev code kind block inst addr) rfl
@[simp] theorem State.relRecord_sleeves (sev code kind block inst addr : Nat) : (s.relRecord sev code kind block inst addr).sleeves = s.sleeves := State.sleeves_of_wipe (s.relRecord_wipe0 sev code kind block inst addr) rfl
@[simp] theorem State.relRecord_pairs (sev code kind block inst addr : Nat) : (s.relRecord sev code kind block inst addr).pairs = s.pairs := State.pairs_of_wipe (s.relRecord_wipe0 sev code kind block inst addr) rfl
@[simp] theorem State.relRecord_voters (sev code kind block inst addr : Nat) : (s.relRecord sev code kind block inst addr).voters = s.voters := State.voters_of_wipe (s.relRecord_wipe0 sev code kind block inst addr) rfl
@[simp] theorem State.relRecord_queues (sev code kind block inst addr : Nat) : (s.relRecord sev code kind block inst addr).queues = s.queues := State.queues_of_wipe (s.relRecord_wipe0 sev code kind block inst addr) rfl
@[simp] theorem State.relRecord_refs (sev code kind block inst addr : Nat) : (s.relRecord sev code kind block inst addr).refs = s.refs := State.refs_of_wipe (s.relRecord_wipe0 sev code kind block inst addr) rfl
@[simp] theorem State.relRecord_seams (sev code kind block inst addr : Nat) : (s.relRecord sev code kind block inst addr).seams = s.seams := State.seams_of_wipe (s.relRecord_wipe0 sev code kind block inst addr) rfl
@[simp] theorem State.relRecord_fifos (sev code kind block inst addr : Nat) : (s.relRecord sev code kind block inst addr).fifos = s.fifos := State.fifos_of_wipe (s.relRecord_wipe0 sev code kind block inst addr) rfl
@[simp] theorem State.relRecord_votes (sev code kind block inst addr : Nat) : (s.relRecord sev code kind block inst addr).votes = s.votes := State.votes_of_wipe (s.relRecord_wipe0 sev code kind block inst addr) rfl
@[simp] theorem State.relRecord_lanes (sev code kind block inst addr : Nat) : (s.relRecord sev code kind block inst addr).lanes = s.lanes := State.lanes_of_wipe (s.relRecord_wipe0 sev code kind block inst addr) rfl
@[simp] theorem State.relRecord_quota (sev code kind block inst addr : Nat) : (s.relRecord sev code kind block inst addr).quota = s.quota := State.quota_of_wipe (s.relRecord_wipe0 sev code kind block inst addr) rfl
@[simp] theorem State.relRecord_used (sev code kind block inst addr : Nat) : (s.relRecord sev code kind block inst addr).used = s.used := State.used_of_wipe (s.relRecord_wipe0 sev code kind block inst addr) rfl
@[simp] theorem State.relRecord_trays (sev code kind block inst addr : Nat) : (s.relRecord sev code kind block inst addr).trays = s.trays := State.trays_of_wipe (s.relRecord_wipe0 sev code kind block inst addr) rfl
@[simp] theorem State.relRecord_ctxs (sev code kind block inst addr : Nat) : (s.relRecord sev code kind block inst addr).ctxs = s.ctxs := State.ctxs_of_wipe (s.relRecord_wipe0 sev code kind block inst addr) rfl
@[simp] theorem State.relRecord_flags (sev code kind block inst addr : Nat) : (s.relRecord sev code kind block inst addr).flags = s.flags := State.flags_of_wipe (s.relRecord_wipe0 sev code kind block inst addr) rfl
@[simp] theorem State.relRecord_cs (sev code kind block inst addr : Nat) : (s.relRecord sev code kind block inst addr).cs = s.cs := State.cs_of_wipe (s.relRecord_wipe0 sev code kind block inst addr) rfl
@[simp] theorem State.relRecord_csBad (sev code kind block inst addr : Nat) : (s.relRecord sev code kind block inst addr).csBad = s.csBad := State.csBad_of_wipe (s.relRecord_wipe0 sev code kind block inst addr) rfl
@[simp] theorem State.relRecord_csSoft (sev code kind block inst addr : Nat) : (s.relRecord sev code kind block inst addr).csSoft = s.csSoft := State.csSoft_of_wipe (s.relRecord_wipe0 sev code kind block inst addr) rfl
@[simp] theorem State.relRecord_units (sev code kind block inst addr : Nat) : (s.relRecord sev code kind block inst addr).units = s.units := State.units_of_wipe (s.relRecord_wipe0 sev code kind block inst addr) rfl
@[simp] theorem State.relRecord_upd (sev code kind block inst addr : Nat) : (s.relRecord sev code kind block inst addr).upd = s.upd := State.upd_of_wipe (s.relRecord_wipe0 sev code kind block inst addr) rfl
@[simp] theorem State.relRecord_pios (sev code kind block inst addr : Nat) : (s.relRecord sev code kind block inst addr).pios = s.pios := State.pios_of_wipe (s.relRecord_wipe0 sev code kind block inst addr) rfl
@[simp] theorem State.relRecord_syncAt (sev code kind block inst addr : Nat) : (s.relRecord sev code kind block inst addr).syncAt = s.syncAt := State.syncAt_of_wipe (s.relRecord_wipe0 sev code kind block inst addr) rfl
@[simp] theorem State.relRecord_ports (sev code kind block inst addr : Nat) : (s.relRecord sev code kind block inst addr).ports = s.ports := State.ports_of_wipe (s.relRecord_wipe0 sev code kind block inst addr) rfl
@[simp] theorem State.relRecord_ens (sev code kind block inst addr : Nat) : (s.relRecord sev code kind block inst addr).ens = s.ens := State.ens_of_wipe (s.relRecord_wipe0 sev code kind block inst addr) rfl
@[simp] theorem State.relRecord_enps (sev code kind block inst addr : Nat) : (s.relRecord sev code kind block inst addr).enps = s.enps := State.enps_of_wipe (s.relRecord_wipe0 sev code kind block inst addr) rfl
@[simp] theorem State.relRecord_coreStacks (sev code kind block inst addr : Nat) : (s.relRecord sev code kind block inst addr).coreStacks = s.coreStacks := State.coreStacks_of_wipe (s.relRecord_wipe0 sev code kind block inst addr) rfl
@[simp] theorem State.relRecord_chans (sev code kind block inst addr : Nat) : (s.relRecord sev code kind block inst addr).chans = s.chans := State.chans_of_wipe (s.relRecord_wipe0 sev code kind block inst addr) rfl
@[simp] theorem State.relRecord_pwr (sev code kind block inst addr : Nat) : (s.relRecord sev code kind block inst addr).pwr = s.pwr := State.pwr_of_wipe (s.relRecord_wipe0 sev code kind block inst addr) rfl
@[simp] theorem State.relRecord_boot (sev code kind block inst addr : Nat) : (s.relRecord sev code kind block inst addr).boot = s.boot := State.boot_of_wipe (s.relRecord_wipe0 sev code kind block inst addr) rfl
@[simp] theorem State.relRecord_turns (sev code kind block inst addr : Nat) : (s.relRecord sev code kind block inst addr).turns = s.turns := State.turns_of_wipe (s.relRecord_wipe0 sev code kind block inst addr) rfl

@[simp] theorem State.faultRecord_pending (fn status source object detail : Nat) : (s.faultRecord fn status source object detail).pending = s.pending := State.pending_of_wipe (s.faultRecord_wipe0 fn status source object detail) rfl
@[simp] theorem State.faultRecord_fresh (fn status source object detail : Nat) : (s.faultRecord fn status source object detail).fresh = s.fresh := State.fresh_of_wipe (s.faultRecord_wipe0 fn status source object detail) rfl
@[simp] theorem State.faultRecord_tick (fn status source object detail : Nat) : (s.faultRecord fn status source object detail).tick = s.tick := State.tick_of_wipe (s.faultRecord_wipe0 fn status source object detail) rfl
@[simp] theorem State.faultRecord_shadow (fn status source object detail : Nat) : (s.faultRecord fn status source object detail).shadow = s.shadow := State.shadow_of_wipe (s.faultRecord_wipe0 fn status source object detail) rfl
@[simp] theorem State.faultRecord_mem (fn status source object detail : Nat) : (s.faultRecord fn status source object detail).mem = s.mem := State.mem_of_wipe (s.faultRecord_wipe0 fn status source object detail) rfl
@[simp] theorem State.faultRecord_eccBad (fn status source object detail : Nat) : (s.faultRecord fn status source object detail).eccBad = s.eccBad := State.eccBad_of_wipe (s.faultRecord_wipe0 fn status source object detail) rfl
@[simp] theorem State.faultRecord_eccSoft (fn status source object detail : Nat) : (s.faultRecord fn status source object detail).eccSoft = s.eccSoft := State.eccSoft_of_wipe (s.faultRecord_wipe0 fn status source object detail) rfl
@[simp] theorem State.faultRecord_tb (fn status source object detail : Nat) : (s.faultRecord fn status source object detail).tb = s.tb := State.tb_of_wipe (s.faultRecord_wipe0 fn status source object detail) rfl
@[simp] theorem State.faultRecord_pages (fn status source object detail : Nat) : (s.faultRecord fn status source object detail).pages = s.pages := State.pages_of_wipe (s.faultRecord_wipe0 fn status source object detail) rfl
@[simp] theorem State.faultRecord_groups (fn status source object detail : Nat) : (s.faultRecord fn status source object detail).groups = s.groups := State.groups_of_wipe (s.faultRecord_wipe0 fn status source object detail) rfl
@[simp] theorem State.faultRecord_hs (fn status source object detail : Nat) : (s.faultRecord fn status source object detail).hs = s.hs := State.hs_of_wipe (s.faultRecord_wipe0 fn status source object detail) rfl
@[simp] theorem State.faultRecord_cuffs (fn status source object detail : Nat) : (s.faultRecord fn status source object detail).cuffs = s.cuffs := State.cuffs_of_wipe (s.faultRecord_wipe0 fn status source object detail) rfl
@[simp] theorem State.faultRecord_sleeves (fn status source object detail : Nat) : (s.faultRecord fn status source object detail).sleeves = s.sleeves := State.sleeves_of_wipe (s.faultRecord_wipe0 fn status source object detail) rfl
@[simp] theorem State.faultRecord_pairs (fn status source object detail : Nat) : (s.faultRecord fn status source object detail).pairs = s.pairs := State.pairs_of_wipe (s.faultRecord_wipe0 fn status source object detail) rfl
@[simp] theorem State.faultRecord_voters (fn status source object detail : Nat) : (s.faultRecord fn status source object detail).voters = s.voters := State.voters_of_wipe (s.faultRecord_wipe0 fn status source object detail) rfl
@[simp] theorem State.faultRecord_queues (fn status source object detail : Nat) : (s.faultRecord fn status source object detail).queues = s.queues := State.queues_of_wipe (s.faultRecord_wipe0 fn status source object detail) rfl
@[simp] theorem State.faultRecord_refs (fn status source object detail : Nat) : (s.faultRecord fn status source object detail).refs = s.refs := State.refs_of_wipe (s.faultRecord_wipe0 fn status source object detail) rfl
@[simp] theorem State.faultRecord_seams (fn status source object detail : Nat) : (s.faultRecord fn status source object detail).seams = s.seams := State.seams_of_wipe (s.faultRecord_wipe0 fn status source object detail) rfl
@[simp] theorem State.faultRecord_fifos (fn status source object detail : Nat) : (s.faultRecord fn status source object detail).fifos = s.fifos := State.fifos_of_wipe (s.faultRecord_wipe0 fn status source object detail) rfl
@[simp] theorem State.faultRecord_votes (fn status source object detail : Nat) : (s.faultRecord fn status source object detail).votes = s.votes := State.votes_of_wipe (s.faultRecord_wipe0 fn status source object detail) rfl
@[simp] theorem State.faultRecord_lanes (fn status source object detail : Nat) : (s.faultRecord fn status source object detail).lanes = s.lanes := State.lanes_of_wipe (s.faultRecord_wipe0 fn status source object detail) rfl
@[simp] theorem State.faultRecord_quota (fn status source object detail : Nat) : (s.faultRecord fn status source object detail).quota = s.quota := State.quota_of_wipe (s.faultRecord_wipe0 fn status source object detail) rfl
@[simp] theorem State.faultRecord_used (fn status source object detail : Nat) : (s.faultRecord fn status source object detail).used = s.used := State.used_of_wipe (s.faultRecord_wipe0 fn status source object detail) rfl
@[simp] theorem State.faultRecord_trays (fn status source object detail : Nat) : (s.faultRecord fn status source object detail).trays = s.trays := State.trays_of_wipe (s.faultRecord_wipe0 fn status source object detail) rfl
@[simp] theorem State.faultRecord_ctxs (fn status source object detail : Nat) : (s.faultRecord fn status source object detail).ctxs = s.ctxs := State.ctxs_of_wipe (s.faultRecord_wipe0 fn status source object detail) rfl
@[simp] theorem State.faultRecord_flags (fn status source object detail : Nat) : (s.faultRecord fn status source object detail).flags = s.flags := State.flags_of_wipe (s.faultRecord_wipe0 fn status source object detail) rfl
@[simp] theorem State.faultRecord_cs (fn status source object detail : Nat) : (s.faultRecord fn status source object detail).cs = s.cs := State.cs_of_wipe (s.faultRecord_wipe0 fn status source object detail) rfl
@[simp] theorem State.faultRecord_csBad (fn status source object detail : Nat) : (s.faultRecord fn status source object detail).csBad = s.csBad := State.csBad_of_wipe (s.faultRecord_wipe0 fn status source object detail) rfl
@[simp] theorem State.faultRecord_csSoft (fn status source object detail : Nat) : (s.faultRecord fn status source object detail).csSoft = s.csSoft := State.csSoft_of_wipe (s.faultRecord_wipe0 fn status source object detail) rfl
@[simp] theorem State.faultRecord_units (fn status source object detail : Nat) : (s.faultRecord fn status source object detail).units = s.units := State.units_of_wipe (s.faultRecord_wipe0 fn status source object detail) rfl
@[simp] theorem State.faultRecord_upd (fn status source object detail : Nat) : (s.faultRecord fn status source object detail).upd = s.upd := State.upd_of_wipe (s.faultRecord_wipe0 fn status source object detail) rfl
@[simp] theorem State.faultRecord_pios (fn status source object detail : Nat) : (s.faultRecord fn status source object detail).pios = s.pios := State.pios_of_wipe (s.faultRecord_wipe0 fn status source object detail) rfl
@[simp] theorem State.faultRecord_syncAt (fn status source object detail : Nat) : (s.faultRecord fn status source object detail).syncAt = s.syncAt := State.syncAt_of_wipe (s.faultRecord_wipe0 fn status source object detail) rfl
@[simp] theorem State.faultRecord_ports (fn status source object detail : Nat) : (s.faultRecord fn status source object detail).ports = s.ports := State.ports_of_wipe (s.faultRecord_wipe0 fn status source object detail) rfl
@[simp] theorem State.faultRecord_ens (fn status source object detail : Nat) : (s.faultRecord fn status source object detail).ens = s.ens := State.ens_of_wipe (s.faultRecord_wipe0 fn status source object detail) rfl
@[simp] theorem State.faultRecord_enps (fn status source object detail : Nat) : (s.faultRecord fn status source object detail).enps = s.enps := State.enps_of_wipe (s.faultRecord_wipe0 fn status source object detail) rfl
@[simp] theorem State.faultRecord_coreStacks (fn status source object detail : Nat) : (s.faultRecord fn status source object detail).coreStacks = s.coreStacks := State.coreStacks_of_wipe (s.faultRecord_wipe0 fn status source object detail) rfl
@[simp] theorem State.faultRecord_chans (fn status source object detail : Nat) : (s.faultRecord fn status source object detail).chans = s.chans := State.chans_of_wipe (s.faultRecord_wipe0 fn status source object detail) rfl
@[simp] theorem State.faultRecord_pwr (fn status source object detail : Nat) : (s.faultRecord fn status source object detail).pwr = s.pwr := State.pwr_of_wipe (s.faultRecord_wipe0 fn status source object detail) rfl
@[simp] theorem State.faultRecord_boot (fn status source object detail : Nat) : (s.faultRecord fn status source object detail).boot = s.boot := State.boot_of_wipe (s.faultRecord_wipe0 fn status source object detail) rfl
@[simp] theorem State.faultRecord_turns (fn status source object detail : Nat) : (s.faultRecord fn status source object detail).turns = s.turns := State.turns_of_wipe (s.faultRecord_wipe0 fn status source object detail) rfl
@[simp] theorem State.faultRecord_rel (fn status source object detail : Nat) : (s.faultRecord fn status source object detail).rel = s.rel := State.rel_of_wipe (s.faultRecord_wipe0 fn status source object detail) rfl

@[simp] theorem State.walkFailed_pending (n a src code level : Nat) : (s.walkFailed n a src code level).pending = s.pending := State.pending_of_wipe (s.walkFailed_wipe0 n a src code level) rfl
@[simp] theorem State.walkFailed_out (n a src code level : Nat) : (s.walkFailed n a src code level).out = s.out := State.out_of_wipe (s.walkFailed_wipe0 n a src code level) rfl
@[simp] theorem State.walkFailed_fresh (n a src code level : Nat) : (s.walkFailed n a src code level).fresh = s.fresh := State.fresh_of_wipe (s.walkFailed_wipe0 n a src code level) rfl
@[simp] theorem State.walkFailed_tick (n a src code level : Nat) : (s.walkFailed n a src code level).tick = s.tick := State.tick_of_wipe (s.walkFailed_wipe0 n a src code level) rfl
@[simp] theorem State.walkFailed_shadow (n a src code level : Nat) : (s.walkFailed n a src code level).shadow = s.shadow := State.shadow_of_wipe (s.walkFailed_wipe0 n a src code level) rfl
@[simp] theorem State.walkFailed_mem (n a src code level : Nat) : (s.walkFailed n a src code level).mem = s.mem := State.mem_of_wipe (s.walkFailed_wipe0 n a src code level) rfl
@[simp] theorem State.walkFailed_eccBad (n a src code level : Nat) : (s.walkFailed n a src code level).eccBad = s.eccBad := State.eccBad_of_wipe (s.walkFailed_wipe0 n a src code level) rfl
@[simp] theorem State.walkFailed_eccSoft (n a src code level : Nat) : (s.walkFailed n a src code level).eccSoft = s.eccSoft := State.eccSoft_of_wipe (s.walkFailed_wipe0 n a src code level) rfl
@[simp] theorem State.walkFailed_tb (n a src code level : Nat) : (s.walkFailed n a src code level).tb = s.tb := State.tb_of_wipe (s.walkFailed_wipe0 n a src code level) rfl
@[simp] theorem State.walkFailed_pages (n a src code level : Nat) : (s.walkFailed n a src code level).pages = s.pages := State.pages_of_wipe (s.walkFailed_wipe0 n a src code level) rfl
@[simp] theorem State.walkFailed_groups (n a src code level : Nat) : (s.walkFailed n a src code level).groups = s.groups := State.groups_of_wipe (s.walkFailed_wipe0 n a src code level) rfl
@[simp] theorem State.walkFailed_hs (n a src code level : Nat) : (s.walkFailed n a src code level).hs = s.hs := State.hs_of_wipe (s.walkFailed_wipe0 n a src code level) rfl
@[simp] theorem State.walkFailed_cuffs (n a src code level : Nat) : (s.walkFailed n a src code level).cuffs = s.cuffs := State.cuffs_of_wipe (s.walkFailed_wipe0 n a src code level) rfl
@[simp] theorem State.walkFailed_sleeves (n a src code level : Nat) : (s.walkFailed n a src code level).sleeves = s.sleeves := State.sleeves_of_wipe (s.walkFailed_wipe0 n a src code level) rfl
@[simp] theorem State.walkFailed_pairs (n a src code level : Nat) : (s.walkFailed n a src code level).pairs = s.pairs := State.pairs_of_wipe (s.walkFailed_wipe0 n a src code level) rfl
@[simp] theorem State.walkFailed_voters (n a src code level : Nat) : (s.walkFailed n a src code level).voters = s.voters := State.voters_of_wipe (s.walkFailed_wipe0 n a src code level) rfl
@[simp] theorem State.walkFailed_queues (n a src code level : Nat) : (s.walkFailed n a src code level).queues = s.queues := State.queues_of_wipe (s.walkFailed_wipe0 n a src code level) rfl
@[simp] theorem State.walkFailed_refs (n a src code level : Nat) : (s.walkFailed n a src code level).refs = s.refs := State.refs_of_wipe (s.walkFailed_wipe0 n a src code level) rfl
@[simp] theorem State.walkFailed_seams (n a src code level : Nat) : (s.walkFailed n a src code level).seams = s.seams := State.seams_of_wipe (s.walkFailed_wipe0 n a src code level) rfl
@[simp] theorem State.walkFailed_fifos (n a src code level : Nat) : (s.walkFailed n a src code level).fifos = s.fifos := State.fifos_of_wipe (s.walkFailed_wipe0 n a src code level) rfl
@[simp] theorem State.walkFailed_votes (n a src code level : Nat) : (s.walkFailed n a src code level).votes = s.votes := State.votes_of_wipe (s.walkFailed_wipe0 n a src code level) rfl
@[simp] theorem State.walkFailed_lanes (n a src code level : Nat) : (s.walkFailed n a src code level).lanes = s.lanes := State.lanes_of_wipe (s.walkFailed_wipe0 n a src code level) rfl
@[simp] theorem State.walkFailed_quota (n a src code level : Nat) : (s.walkFailed n a src code level).quota = s.quota := State.quota_of_wipe (s.walkFailed_wipe0 n a src code level) rfl
@[simp] theorem State.walkFailed_used (n a src code level : Nat) : (s.walkFailed n a src code level).used = s.used := State.used_of_wipe (s.walkFailed_wipe0 n a src code level) rfl
@[simp] theorem State.walkFailed_trays (n a src code level : Nat) : (s.walkFailed n a src code level).trays = s.trays := State.trays_of_wipe (s.walkFailed_wipe0 n a src code level) rfl
@[simp] theorem State.walkFailed_ctxs (n a src code level : Nat) : (s.walkFailed n a src code level).ctxs = s.ctxs := State.ctxs_of_wipe (s.walkFailed_wipe0 n a src code level) rfl
@[simp] theorem State.walkFailed_flags (n a src code level : Nat) : (s.walkFailed n a src code level).flags = s.flags := State.flags_of_wipe (s.walkFailed_wipe0 n a src code level) rfl
@[simp] theorem State.walkFailed_cs (n a src code level : Nat) : (s.walkFailed n a src code level).cs = s.cs := State.cs_of_wipe (s.walkFailed_wipe0 n a src code level) rfl
@[simp] theorem State.walkFailed_csBad (n a src code level : Nat) : (s.walkFailed n a src code level).csBad = s.csBad := State.csBad_of_wipe (s.walkFailed_wipe0 n a src code level) rfl
@[simp] theorem State.walkFailed_csSoft (n a src code level : Nat) : (s.walkFailed n a src code level).csSoft = s.csSoft := State.csSoft_of_wipe (s.walkFailed_wipe0 n a src code level) rfl
@[simp] theorem State.walkFailed_units (n a src code level : Nat) : (s.walkFailed n a src code level).units = s.units := State.units_of_wipe (s.walkFailed_wipe0 n a src code level) rfl
@[simp] theorem State.walkFailed_upd (n a src code level : Nat) : (s.walkFailed n a src code level).upd = s.upd := State.upd_of_wipe (s.walkFailed_wipe0 n a src code level) rfl
@[simp] theorem State.walkFailed_pios (n a src code level : Nat) : (s.walkFailed n a src code level).pios = s.pios := State.pios_of_wipe (s.walkFailed_wipe0 n a src code level) rfl
@[simp] theorem State.walkFailed_syncAt (n a src code level : Nat) : (s.walkFailed n a src code level).syncAt = s.syncAt := State.syncAt_of_wipe (s.walkFailed_wipe0 n a src code level) rfl
@[simp] theorem State.walkFailed_ports (n a src code level : Nat) : (s.walkFailed n a src code level).ports = s.ports := State.ports_of_wipe (s.walkFailed_wipe0 n a src code level) rfl
@[simp] theorem State.walkFailed_ens (n a src code level : Nat) : (s.walkFailed n a src code level).ens = s.ens := State.ens_of_wipe (s.walkFailed_wipe0 n a src code level) rfl
@[simp] theorem State.walkFailed_enps (n a src code level : Nat) : (s.walkFailed n a src code level).enps = s.enps := State.enps_of_wipe (s.walkFailed_wipe0 n a src code level) rfl
@[simp] theorem State.walkFailed_fns (n a src code level : Nat) : (s.walkFailed n a src code level).fns = s.fns := State.fns_of_wipe (s.walkFailed_wipe0 n a src code level) rfl
@[simp] theorem State.walkFailed_link (n a src code level : Nat) : (s.walkFailed n a src code level).link = s.link := State.link_of_wipe (s.walkFailed_wipe0 n a src code level) rfl
@[simp] theorem State.walkFailed_srcs (n a src code level : Nat) : (s.walkFailed n a src code level).srcs = s.srcs := State.srcs_of_wipe (s.walkFailed_wipe0 n a src code level) rfl
@[simp] theorem State.walkFailed_vecs (n a src code level : Nat) : (s.walkFailed n a src code level).vecs = s.vecs := State.vecs_of_wipe (s.walkFailed_wipe0 n a src code level) rfl
@[simp] theorem State.walkFailed_coreStacks (n a src code level : Nat) : (s.walkFailed n a src code level).coreStacks = s.coreStacks := State.coreStacks_of_wipe (s.walkFailed_wipe0 n a src code level) rfl
@[simp] theorem State.walkFailed_chans (n a src code level : Nat) : (s.walkFailed n a src code level).chans = s.chans := State.chans_of_wipe (s.walkFailed_wipe0 n a src code level) rfl
@[simp] theorem State.walkFailed_pwr (n a src code level : Nat) : (s.walkFailed n a src code level).pwr = s.pwr := State.pwr_of_wipe (s.walkFailed_wipe0 n a src code level) rfl
@[simp] theorem State.walkFailed_boot (n a src code level : Nat) : (s.walkFailed n a src code level).boot = s.boot := State.boot_of_wipe (s.walkFailed_wipe0 n a src code level) rfl
@[simp] theorem State.walkFailed_turns (n a src code level : Nat) : (s.walkFailed n a src code level).turns = s.turns := State.turns_of_wipe (s.walkFailed_wipe0 n a src code level) rfl
@[simp] theorem State.walkFailed_rel (n a src code level : Nat) : (s.walkFailed n a src code level).rel = s.rel := State.rel_of_wipe (s.walkFailed_wipe0 n a src code level) rfl
end Sys2Proof.Machine
end

