-- ==== Sys2Proof/Laws/Operations.lean ====
section
/-! SUPPORT. What the shared operations of the host interface and of the trains can do, said once, so that no later proof
unfolds them. -/

namespace Sys2Proof.Machine

open Sys2Proof

variable (s : State)

/-! ### The host's writes (R250, R251) -/

/-- With no full buffer and nothing in the function's own, nothing is drained. -/
theorem State.drainBuf_of_empty {n : Nat} (hf : s.fullBufs = []) (hb : (s.fn n).buf = []) : s.drainBuf n = s := by
  simp [State.drainBuf, State.drainFull, State.drainOwn, hf, hb]

/-- A host write outside DOZE acts on the drained state where its page is reachable, and has no effect elsewhere. -/
theorem State.posted_awake {n : Nat} {ws : List (Nat × Nat)} {ok : Bool} {f : State → State} (h : s.dozing = false) :
    s.posted n ws ok f = if ok then f (s.drainBuf n) else s := by simp [State.posted, h]

/-- While DOZE lasts a host write that arrives is held. -/
theorem State.posted_dozing {n : Nat} {ws : List (Nat × Nat)} {ok : Bool} {f : State → State} (ha : s.arrives n = true)
    (h : s.dozing = true) : s.posted n ws ok f = s.hold (ws.map fun w => { fn := n, addr := w.1, value := w.2 }) := by
  simp [State.posted, h, ha]

/-- A wake starts at most the wake itself and writes nothing but its cause. -/
theorem State.startWake_eq (cause port : Nat) : s.startWake cause port = s ∨
    s.startWake cause port = { (s.setFld Reg.PWR_STATUS 16 3 cause).setFld Reg.PWR_STATUS 19 2 port with pwr := { s.pwr with wake := true } } := by
  unfold State.startWake
  split
  · right; simp
  · left; rfl

/-- A page that is reachable is not asleep. -/
theorem State.awake_of_pfPage {page : Nat} (h : s.pfPage page = true) : s.dozing = false := by
  simp [State.pfPage, State.accepts] at h; exact h.1.2

theorem State.awake_of_tenPage {n : Nat} (h : s.tenPage n = true) : s.dozing = false := by
  simp [State.tenPage, State.accepts] at h; exact h.1.2

/-! ### The fetcher's turn (R259) -/

/-- The function whose turn it is may fetch. -/
theorem State.nextFetch_may {n : Nat} (h : s.nextFetch = some n) : s.mayFetchCmd n = true := List.find?_some h

theorem State.nextFetch_lt {n : Nat} (h : s.nextFetch = some n) : n < 512 := by
  have := List.mem_of_find?_eq_some h
  simp only [List.mem_map, List.mem_range] at this
  obtain ⟨i, -, rfl⟩ := this
  exact Nat.mod_lt _ (by decide)

/-- Where no function may fetch, none has the turn. -/
theorem State.nextFetch_none (h : ∀ n < 512, s.mayFetchCmd n = false) : s.nextFetch = none := by
  unfold State.nextFetch
  rw [List.find?_eq_none]
  intro n hn
  simp only [List.mem_map, List.mem_range] at hn
  obtain ⟨i, -, rfl⟩ := hn
  simp [h _ (Nat.mod_lt _ (by decide : 0 < 512))]

/-! ### Trains of pulses (R51, R52) -/

/-- Each pulse lasts at least the least gap. -/
theorem pulseSpan_wide (w sp m i : Nat) : (pulseSpan w sp m i).1 + m ≤ (pulseSpan w sp m i).2 := by
  cases i <;> simp [pulseSpan]

/-- Each gap between pulses lasts at least the least gap. -/
theorem pulseSpan_apart (w sp m i : Nat) : (pulseSpan w sp m i).2 + m ≤ (pulseSpan w sp m (i + 1)).1 := by
  simp [pulseSpan]

end Sys2Proof.Machine
end

