-- ==== Sys2Proof/Tests/Slice0.lean ====
section
/-! SUPPORT. The model's own tests: ill-formed commands are refused, single commands on small states give what the
spec's tables and examples give, and every statement's hypotheses are met somewhere (witness_<statement>). -/

namespace Sys2Proof.Tests

-- One theorem after the other: every kernel evaluation here waits for the declarations before it, and a hundred
-- waiting threads at once do not fit the checker's memory limit.
set_option Elab.async false

open Sys2Proof Sys2Proof.Machine

/-! ### Small states -/

/-- A part in a mode with its link up and its time base running at tick 10,000. -/
def live (m : Nat) : State :=
  let s : State := { State.reset with
    tick := 10000, pwr := { mode := m, refOk := true, locked := true }, link := { up := true, vfEnable := true },
    tb := { running := true, now := 160000 }, fns := [(0, { bme := true, msixEn := true })] }
  s.setBit Reg.TB_STATUS 0 true

/-- In RUN. -/
def run : State := live Mode.run

/-- A pf write is accepted and finds no buffered write before it. -/
def State.plain (s : State) (page : Nat) : Bool := s.pfPage page && decide (s.drainBuf 0 = s)

/-- The next state of a command; the state after reset where it has none. -/
def after (o : Host.Outcome State Fault Refusal) : State := match o with | .next t => t | _ => State.reset

/-- A command that names a unit the part does not have. -/
def stops (o : Host.Outcome State Fault Refusal) : Bool := match o with | .fault .noSuchUnit => true | _ => false

/-- Tenant n's slab page 0 is mapped to internal page 0x0100_0000. -/
def slab (n : Nat) (s : State) : State :=
  ((s.setN (Reg.SLM_L1BASE n) 0x3C00001).writeMem 0x3C00000 4 0x3C00101).writeMem 0x3C00100 4 0x1000001

/-! ### The block as a whole -/

theorem witness_StepTakesTheFront :
    { run with pending := [Instr.holdStart, .safeN] }.pending = .holdStart :: [.safeN] ∧ run.pending = [] ∧
    run.tb.running = true ∧ run.mode ≠ Mode.doze ∧ run.mode ≠ Mode.off ∧ run.coarse = false ∧ run.tb.now < run.circle ∧
    run.trim = 0 ∧ run.tb.trimAcc = 0 ∧ run.stepRem = 0 ∧ run.tb.carry = 0 ∧
    (run.setBit Reg.TB_STATUS 2 true).coarse = true ∧ State.reset.tb.running = false ∧ run.boot.apply = none := by decide +kernel

theorem witness_CanonicalFormKept : run.canonical = true ∧ run.modeSound = true ∧ stepsOn run :=
  ⟨by decide, by decide, ⟨_, rfl⟩⟩

/-- A mode changes in one step: the release of the reset pin leaves OFF for BOOT. -/
theorem witness_ModesChangeAsListed :
    let s : State := { live Mode.off with pwr := { (live Mode.off).pwr with resetPin := true }, pending := [.sysRstNRelease {}] }
    s.modeSound = true ∧ stepsOn s ∧ (after (execSysRstNRelease {} s)).mode = Mode.boot ∧ modeMove Mode.off Mode.boot = true :=
  ⟨by decide, ⟨_, rfl⟩, by decide +kernel, by decide⟩

theorem witness_WellFormedCommandsComplete :
    (Instr.setHigh 1023).wf = true ∧ (Instr.setHigh 1024).wf = false ∧
    stops (exec (.setHigh 1024) run) = true ∧ stops (exec (.setHigh 1023) run) = false := by decide +kernel

theorem test_step_takes_front :
    step { run with pending := [.safeNRelease] } = exec .safeNRelease { run with pending := [] } := rfl

theorem test_idle_tick : (after (step run)).tb.now = 160016 := by decide +kernel

/-! ### Registers, staging and groups -/

theorem witness_RegisterAccess :
    plainPage 8 = true ∧ plainPage 0xBF = true ∧ (rowOf (8 * 0x1000 + 0x40)).isSome = true ∧ run.pfPage 8 = true ∧
    run.pageArmed 8 = false ∧ blockOf (0x1FEFFFC / 0x4000) = none ∧ blockOf (0x1C000 / 0x4000) = none ∧ run.pfPage 0 = true ∧
    0x1C002 % 4 ≠ 0 ∧ blockOf (0x1C002 / 0x4000) = none ∧ run.accepts 0 = true ∧ run.reads 0 = true ∧ run.mode ≠ Mode.boot ∧
    (live Mode.boot).mode = Mode.boot ∧ (live Mode.boot).accepts 0 = true ∧ (live Mode.boot).reads 0 = true ∧
    okData { addr := 4, kind := .bytes 8 } (2 ^ 64 - 1) = true ∧ 4 % 8 ≠ 0 ∧ okData { addr := 8, kind := .bytes 2 } 5 = true ∧
    okData { addr := 8, kind := .atomic } 0 = true := by decide +kernel

/-- Page 8 armed at tick 12,000 and page 0x11 in group 3. -/
def staged : State :=
  { run with pages := [(8, { armed := .timed 192000 }), (9, { armed := .now })], groups := [(3, { members := [0x11] })] }

theorem witness_StagingCommands :
    (blockOf 8).isSome = true ∧ (blockOf 9).isSome = true ∧ (blockOf 0x11).isSome = true ∧ staged.pfPage 8 = true ∧
    staged.pageArmed 8 = true ∧ staged.groupOf 0x11 ≠ none ∧ staged.pageArmed 6 = false ∧ staged.groupOf 6 = none ∧
    (blockOf 6).isSome = true ∧ staged.atOrAfter (staged.commitTime 6) (staged.plus staged.tb.now (96 * 16)) = false ∧
    (let s := staged.setPair (Reg.PG_COMMIT_TIME_L 6) (Reg.PG_COMMIT_TIME_H 6) 161536
     s.atOrAfter (s.commitTime 6) (s.plus s.tb.now (96 * 16)) = true) ∧
    (staged.page 8).armed = .timed 192000 ∧ (staged.page 9).armed = .now ∧
    (∀ i < 4, ∀ j < 4, j ≠ i → bitAt (2 ^ i) j = false) ∧
    (let s : State := { run with chans := [(31, { owner := 1 })] }
     s.pfPage 0x9F = true ∧ (blockOf 0x9F).isSome = true ∧ (s.chan (0x9F - 0x80)).owner ≠ 0 ∧ (s.chan (0x9E - 0x80)).owner = 0) := by
  decide +kernel

theorem witness_CommitTicks :
    staged.canonical = true ∧ staged.clocked = true ∧ (staged.page 9).armed = .now ∧ (staged.page 9).used ≠ some staged.tick ∧
    (staged.page 6).armed = .no ∧ staged.reached 192000 = false ∧
    (let s : State := { run.setFld (Reg.ENP_CFG 0) 0 1 1 with pages := [(0xC0, { armed := .now })] }
     let fits (s : State) := ((s.screenPage 0xC0).applyPage 0xC0).ensBudget ≤ ((s.screenPage 0xC0).applyPage 0xC0).ensGuard
     ensPage 0xC0 = true ∧ (s.page 0xC0).armed = .now ∧ fits s ∧
       ¬fits (((s.setFld Reg.ENS_CFG 8 4 1).setFld Reg.ENS_CFG 12 2 3).setFld (Reg.ENP_PLCA 0) 16 11 0x7FF |>.setFld (Reg.ENP_CFG 0) 16 8 255)) ∧
    (let s : State := { run with groups := [(1, { members := [8], armed := .now })] }
     (s.group 1).armed = .now ∧ s.groupFits 1 = true ∧ (s.group 1).members.Nodup ∧ ∀ p ∈ (s.group 1).members, plainPage p = true ∧ ensPage p = false) ∧
    (let s : State := { staged with pages := [(8, { armed := .now }), (1, { armed := .timed 160000 }), (0x38, { armed := .now }), (0xBF, { armed := .now })] }
     (s.page 8).armed = .now ∧ (s.page 1).armed = .timed 160000 ∧ s.reached 160000 = true ∧ (s.page 0x38).armed = .now ∧
       (s.page 0xBF).armed = .now) ∧
    (let s : State := { run with groups := [(15, { members := [8, 0x11], armed := .now }), (0, { members := [0x12], armed := .timed 160000 })] }
     (s.group 15).armed = .now ∧ (∀ p ∈ (s.group 15).members, (s.page p).used ≠ some s.tick) ∧ s.groupFits 15 = true ∧ (s.group 0).armed = .timed 160000) ∧
    (let s : State := { run with pages := [(8, { armed := .now })], groups := [(2, { members := [8], armed := .now })] }
     (s.group 2).armed = .now ∧ s.groupFits 2 = false) := by decide +kernel

theorem witness_GroupsAndHoldAndSwap :
    run.pfPage 4 = true ∧ run.groupArmed 0 = false ∧ run.groupOf 0x11 = none ∧ groupable 0x11 = true ∧ groupable 0 = false ∧
    (run.group 0).members.length < 64 ∧ run.groupFits 0 = true ∧ staged.fld Reg.CFG_GSEL 0 4 = 0 ∧
    (let s := staged.setN Reg.CFG_GSEL 3
     0x11 ∈ (s.group 3).members ∧ s.groupOf 0x11 ≠ none ∧ 8 ∉ (s.group 3).members ∧
       s.atOrAfter (s.pair (Reg.CFG_GTIME_L 3) (Reg.CFG_GTIME_H 3)) (s.plus s.tb.now 1536) = false) ∧
    (let s : State := { staged with groups := [(0, { members := [0x11], armed := .timed 161536 })] }
     s.groupArmed 0 = true ∧ s.atOrAfter 161536 (s.plus s.tb.now 1536) = true ∧ s.atOrAfter 161535 (s.plus s.tb.now 1536) = false) ∧
    (let s := run.setPair (Reg.CFG_GTIME_L 0) (Reg.CFG_GTIME_H 0) 161536
     s.atOrAfter (s.pair (Reg.CFG_GTIME_L 0) (Reg.CFG_GTIME_H 0)) (s.plus s.tb.now 1536) = true) ∧
    run.hsBusy = false ∧ run.hsCheck ≠ 0 ∧
    (let s := (run.setPair Reg.CFG_HS_HOLD_L Reg.CFG_HS_HOLD_H 320000).setPair Reg.CFG_HS_REL_L Reg.CFG_HS_REL_H 321024
     s.hsCheck = 0) ∧
    (let s : State := { run.setFld Reg.CFG_HS_CTRL 2 2 1 with hs := { groups := [0, 15], sleeves := 1, hold := 160000, rel := 170000 } }
     s.hsBusy = true ∧ s.hsState = 1 ∧ s.clocked = true ∧ s.reached s.hs.hold = true) ∧
    (let s : State := { run.setFld Reg.CFG_HS_CTRL 2 2 2 with hs := { groups := [0, 15], done := 1, hold := 157952, rel := 160000 } }
     s.hsState = 2 ∧ s.reached (s.plus s.hs.hold ((s.hs.done + 1) * 1024)) = true ∧ s.hs.groups[s.hs.done]? = some 15 ∧
       s.reached s.hs.rel = true) := by decide +kernel

/-- R18: an ARM closer than 96 ticks is refused; PG_ERR_INFO reads REJECT_LATE. -/
theorem test_pg_stage_arm_late :
    let t := after (execPgStageArm 8 2 run)
    t.bit (Reg.PG_ERR 8) 1 = true ∧ t.fld (Reg.PG_ERR_INFO 8) 0 8 = 0x04 := by decide +kernel

/-- R22: a page that is already in a group is refused with REJECT_CAPACITY. -/
theorem test_cfg_gadd_twice : (after (execCfgGadd 0x11 staged)).fld (Reg.CFG_GSTAT 0) 8 8 = 0x07 := by decide +kernel

/-- R11: an access outside every block reads 0 and sets PG_ERR.UNMAPPED of GLB. -/
theorem test_unmapped_read :
    let t := after (execUnmappedAccess 0 0x1C000 false run)
    t.out = [.readData 0 0] ∧ t.bit (Reg.PG_ERR 0) 3 = true := by decide +kernel

/-! ### The time base -/

theorem witness_TimeBaseTicksAndWrites :
    run.coarse = false ∧ (run.setBit Reg.TB_STATUS 2 true).coarse = true ∧ run.pwr.refOk = true ∧ run.pfPage 3 = true ∧
    (let s : State := { run with tb := { run.tb with now := 2 ^ 60 - 16 } }
     s.tb.now < s.circle ∧ s.circle ≤ s.tb.now + 16) ∧
    (let s : State := { run.setN Reg.TB_TRIM 1 with tb := { run.tb with trimAcc := 2 ^ 40 - 16 } }
     2 ^ 40 ≤ s.tb.trimAcc + 16 * s.trim) ∧
    (let s : State := { run.setN Reg.TB_TRIM (2 ^ 28 - 1) with tb := { run.tb with trimAcc := -2 ^ 40 + 16 } }
     s.tb.trimAcc + 16 * s.trim ≤ -2 ^ 40) ∧
    (let s : State := { (run.setN Reg.TB_STEP_REM 0xFFFFFFFF).setN Reg.TB_SLEW 16 with tb := { run.tb with slewTicks := 15 } }
     s.stepRem = -1 ∧ max 16 (s.fld Reg.TB_SLEW 0 16) ≤ s.tb.slewTicks + 1) ∧
    (let s := live Mode.provision
     s.pfPage 3 = true ∧ s.pair Reg.TB_LOAD_L Reg.TB_LOAD_H < s.circle ∧ s.fld Reg.TB_CTRL 0 2 = 0) ∧
    (run.mode ≠ Mode.provision ∧ run.tbValid = true) ∧ run.pwr.locked = true ∧ run.bit Reg.TB_STATUS 1 = false ∧
    (run.setBit Reg.TB_STATUS 1 true).bit Reg.TB_STATUS 1 = true ∧ (run.setFld Reg.TB_CTRL 0 2 1).fld Reg.TB_CTRL 0 2 ≠ 0 ∧
    run.tb.relL < 2 ^ 32 ∧ run.stepRem + signed 32 0x7FFFFFFF < 2 ^ 31 ∧
    2 ^ 31 ≤ (run.setN Reg.TB_STEP_REM 1).stepRem + signed 32 0x7FFFFFFF ∧
    (run.setN Reg.TB_STEP_REM 1).stepRem + signed 32 0xFFFFFFFF = 0 := by decide +kernel

theorem witness_GlobalStartAndReference :
    run.pfPage 3 = true ∧ run.gstate ≠ 1 ∧ (run.setFld Reg.TB_GCTRL 4 2 1).gstate = 1 ∧
    (let s := run.setPair Reg.TB_GSTART_L Reg.TB_GSTART_H 161536
     s.atOrAfter (s.pair Reg.TB_GSTART_L Reg.TB_GSTART_H) (s.plus s.tb.now 1536) = true) ∧
    run.atOrAfter (run.pair Reg.TB_GSTART_L Reg.TB_GSTART_H) (run.plus run.tb.now 1536) = false ∧
    run.reached 160000 = true ∧ run.pwr.refOk = true ∧ State.reset.pwr.refOk = false ∧ (run.cuff 1023).fifo = [] ∧
    (live Mode.off).pwr.refOk = true ∧ (live Mode.off).mode = Mode.off ∧ run.mode ≠ Mode.off ∧ run.pwr.locked = true ∧
    (let s : State := { State.reset with pwr := { State.reset.pwr with refOk := true } }
     s.pwr.locked = false ∧ s.mode = Mode.boot ∧ s.tb.running = false) ∧
    (let s : State := { run with pwr := { run.pwr with locked := false } }
     s.mode ≠ Mode.off ∧ s.mode ≠ Mode.doze ∧ s.tb.running = true ∧ s.pwr.locked = false) ∧
    (run.mode = Mode.run ∨ run.mode = Mode.degraded) ∧ run.pwr.entering = false := by decide +kernel

/-- R28: trim and slew in opposite directions cancel; the tick advances by 16. -/
theorem test_trim_and_slew_cancel :
    let s : State := { ((run.setN Reg.TB_TRIM 1).setN Reg.TB_STEP_REM 0xFFFFFFFF).setN Reg.TB_SLEW 16 with
                       tb := { run.tb with trimAcc := 2 ^ 40 - 16, slewTicks := 15 } }
    let t := after (step s)
    t.tb.now = 160016 ∧ t.stepRem = 0 ∧ t.tb.trimAcc = 0 := by decide +kernel

/-- R41: one reference cycle in DOZE or HALT counts 960 crumbs. -/
theorem test_reference_edge : (after (execReferenceEdge (run.setBit Reg.TB_STATUS 2 true))).tb.now = 160960 := by decide +kernel

/-! ### Cuffs, pairs and guards -/

/-- An action for a target, judged and due at tick 10,000. -/
def due (ttype target op sub arg : Nat) : Flight :=
  { act := { time := 160000, late := 0, log := false, sealed := false, op := op, sub := sub, arg := arg },
    ttype := ttype, target := target, due := 160000, judged := true }

/-- A cuff out of Apron, driven low, with one action in its FIFO. -/
def fed (l : List Flight) : Cuff := { driven := true, apMode := false, fifo := l }

/-- In RUN, the banks of sleeves 0 and 31 present at 3.3 V, one action due at cuff c. -/
def act1 (c op sub arg : Nat) : State :=
  { (run.setFld (Reg.SLV_STATUS 0) 0 2 3).setFld (Reg.SLV_STATUS 31) 0 2 3 with
    cuffs := [(c, fed [due 1 c op sub arg])] }

/-- The same for pair p, enabled. -/
def act2 (p op sub arg : Nat) : State :=
  { (run.setFld (Reg.SLV_STATUS (p / 16)) 0 2 3).setBit (Reg.SLV_PAIR_CFG (p / 16) (p % 16)) 0 true with
    cuffs := [(2 * p, fed [due 2 p op sub arg]), (2 * p + 1, fed [])] }

theorem witness_OutputActions :
    (act1 0 0x01 0 0).headReady 1 0 0x01 = some (due 1 0 0x01 0 0) ∧ (act1 0 0x01 0 0).pairEn 0 = false ∧
    (act1 1023 0x02 0 0).headReady 1 1023 0x02 = some (due 1 1023 0x02 0 0) ∧ (act1 1023 0x02 0 0).pairEn 511 = false ∧
    (act1 5 0x03 0 0).headReady 1 5 0x03 = some (due 1 5 0x03 0 0) ∧
    (act1 5 0x04 0 0).headReady 1 5 0x04 = some (due 1 5 0x04 0 0) ∧
    (act1 5 0x05 0 100).headReady 1 5 0x05 = some (due 1 5 0x05 0 100) ∧
    (act1 5 0x06 1 (2 ^ 40 + 2 ^ 20 * 50 + 10)).headReady 1 5 0x06 = some (due 1 5 0x06 1 (2 ^ 40 + 2 ^ 20 * 50 + 10)) := by
  decide +kernel

theorem witness_PeriodicMode :
    (act1 5 0x07 0 (2 ^ 24 * 100 + 300)).headReady 1 5 0x07 = some (due 1 5 0x07 0 (2 ^ 24 * 100 + 300)) ∧
    (act1 5 0x07 0 (2 ^ 24 * 10 + 300)).headReady 1 5 0x07 = some (due 1 5 0x07 0 (2 ^ 24 * 10 + 300)) ∧
    (act1 5 0x07 0 0).pairEn 2 = false ∧ (act2 3 0x07 0 (2 ^ 24 * 100 + 300)).pairEn 3 = true ∧
    (act2 3 0x07 0 (2 ^ 24 * 100 + 300)).headReady 2 3 0x07 = some (due 2 3 0x07 0 (2 ^ 24 * 100 + 300)) ∧
    (act1 5 0x07 0 0).bit (Reg.CUF_PER_CTRL 5) 6 = false ∧ (act1 5 0x07 0 0).bit (Reg.CUF_PER_CTRL 5) 7 = false ∧
    ((act1 5 0x07 0 0).cuff 5).apron = false ∧ ((act1 5 0x07 0 0).setBit (Reg.CUF_PER_CTRL 5) 6 true).bit (Reg.CUF_PER_CTRL 5) 6 = true ∧
    (let s := (((act1 5 0 0 0).setN (Reg.CUF_PER_L 5) 1600).setN (Reg.CUF_PER_W_L 5) 800).setFld (Reg.CUF_CFG 5) 0 2 1
     s.perActive 5 = true ∧ (s.perSet 5).p ≠ 0 ∧ s.perFits 5 = true ∧ (s.setN (Reg.CUF_PER_W_L 5) 1590).perFits 5 = false) := by
  decide +kernel

/-- Cuff 5 armed for both edges, with a rising pad edge in its filter. -/
def edgy (k : Cuff) : State :=
  { run.setFld (Reg.CUF_CAPCFG 5) 0 2 3 with cuffs := [(5, { k with filt := some (true, 159000, 9990) })] }

theorem witness_CaptureEdgesAndRecords :
    (({ run with cuffs := [(5, { winEnd := some 160000 })] } : State).cuff 5).winEnd = some 160000 ∧ run.reached 160001 = false ∧ (run.cuff 5).filt = none ∧
    (act1 5 0x08 3 10).headReady 1 5 0x08 = some (due 1 5 0x08 3 10) ∧ (act1 5 0x09 0 0).headReady 1 5 0x09 = some (due 1 5 0x09 0 0) ∧
    run.reached 160000 = true ∧ run.pfPage (0x10 + 1023 / 32) = true ∧ bitAt 0x100 9 = false ∧ bitAt 0x200 8 = false ∧
    ((edgy {}).cuff 5).filt = some (true, 159000, 9990) ∧ (edgy {}).frozen = false ∧ 9990 ≤ (edgy {}).tick ∧
    (let s := edgy { armed := true, armFrom := some 150000 }
     bitAt (s.fld (Reg.CUF_CAPCFG 5) 0 2) 0 = true ∧ s.atOrAfter 159000 150000 = true ∧ (s.cuff 5).lastStamp = none ∧
       (s.setBit (Reg.CUF_CAPCFG 5) 3 true).bit (Reg.CUF_CAPCFG 5) 3 = true ∧ (s.sleeve 0).buf.length < 16) ∧
    (let s := edgy { past := [(150000, 159500, 2)] }
     ((s.cuff 5).past.find? fun x => s.atOrAfter 159000 x.1 && !s.atOrAfter 159000 x.2.1) = some (150000, 159500, 2)) ∧
    16 ≤ (({ run with sleeves := [(0, { buf := List.replicate 16 {} })] } : State).sleeve 0).buf.length ∧
    (edgy {}).stampless = false ∧ ((edgy {}).setBit Reg.TB_STATUS 2 true).stampless = true ∧
    ((edgy { armed := true }).setFld (Reg.CUF_CAPCFG 5) 0 2 0).fld (Reg.CUF_CAPCFG 5) 0 2 = 0 ∧
    (let s : State := { edgy {} with tick := 9989 }
     (s.cuff 5).filt = some (true, 159000, 9990) ∧ s.tick < 9990) ∧
    (let s := edgy { armFrom := some 150000, disarmAt := some 159001, lastStamp := some 158969 }
     s.atOrAfter 159000 159001 = false ∧ s.minus 159000 158969 < 32) ∧
    (let s : State := { run with sleeves := [(31, { buf := [{ cuff := 1023, time := 5 }] })],
                                 queues := [(0, { state := 1, log2 := 4, tenant := 1 })] }
     (s.sleeve 31).buf = [{ cuff := 1023, time := 5 }] ∧ (s.queue (s.regN (Reg.CUF_LOGQ 1023))).state = QState.run ∧
       ((s.queue 0).tail + 1) % 2 ^ (s.queue 0).log2 ≠ (s.queue 0).head ∧ s.descBad 0 = false ∧
       (slab 1 s).walk 1 0 = .ok 0x1000000 ∧ s.walk 1 0 = .bad Code.slabFault 0 ∧ (run.sleeve 31).buf = [] ∧
       (({ s with queues := [(0, { state := 2, log2 := 4, tenant := 1 })] } : State).queue 0).state ≠ QState.run ∧
       (({ s with queues := [] } : State).queue 0).state = QState.free) ∧
    (let d : Queue := { state := 1, log2 := 4, tenant := 1, tail := 15 }
     (d.tail + 1) % 2 ^ d.log2 = d.head ∧ d.ttype = 0) := by
  decide +kernel

theorem witness_PairActions :
    (act2 0 0x11 1 0).headReady 2 0 0x11 = some (due 2 0 0x11 1 0) ∧ (act2 511 0x12 0 0).headReady 2 511 0x12 = some (due 2 511 0x12 0 0) ∧
    (act2 511 0x12 0 0).tripped 511 = false ∧ ((act2 511 0x12 0 0).setBit (Reg.SLV_TRIP 31) 15 true).tripped 511 = true ∧
    ((act2 511 0x12 0 0).setBit (Reg.SLV_TRIP 31) 15 true).bit (Reg.SLV_STATUS 31) 1 = true ∧
    (((act2 0 0x12 0 0).setBit (Reg.SLV_TRIP 0) 0 true).setBit (Reg.SLV_BRIDGE 0) 0 true).bridged 0 = true ∧
    ((act2 0 0x11 1 0).cuff 0).skew = 0 ∧ ((act2 0 0x11 1 0).cuff 1).held = false ∧ (act2 0 0x11 1 0).tb.now < (act2 0 0x11 1 0).circle ∧
    ((act2 0 0x11 1 0).setFld (Reg.SLV_PAIR_CFG 0 0) 16 12 160).reached (run.plus 160000 160) = false ∧
    (act1 5 0x13 1 0).headReady 1 5 0x13 = some (due 1 5 0x13 1 0) ∧
    (act2 0 0x13 0xA 0).headReady 2 0 0x13 = some (due 2 0 0x13 0xA 0) ∧
    (act2 0 0x13 1 0).headReady 2 0 0x13 = some (due 2 0 0x13 1 0) ∧ b2n ((act2 0 0x13 1 0).bit (Reg.CUF_CFG 0) 2) ≠ 1 := by
  decide +kernel

/-- Pair 0 with guard 3 for leg A and guard 7 for leg B. -/
def guarded0 : State := (act2 0 0 0 0).setFld (Reg.SLV_PAIR_CFG 0 0) 1 8 (1 + 2 * 3 + 16 + 32 * 7)

theorem witness_GuardsAndTrips :
    (∀ j < 16, (({ guarded0 with cuffs := [] } : State).cuff (2 * j)).fifo = []) ∧
    guarded0.bit (Reg.SLV_GDSTATE 0) 3 = false ∧ (guarded0.setBit (Reg.SLV_GDSTATE 0) 3 true).bit (Reg.SLV_GDSTATE 0) 3 = true ∧
    (guarded0.bit (Reg.SLV_PAIR_CFG 0 0) 0 = true ∧ guarded0.bit (Reg.SLV_PAIR_CFG 0 0) 1 = true ∧ guarded0.fld (Reg.SLV_PAIR_CFG 0 0) 2 3 = 3) ∧
    (guarded0.bit (Reg.SLV_PAIR_CFG 0 0) 5 = true ∧ guarded0.fld (Reg.SLV_PAIR_CFG 0 0) 6 3 = 7) ∧ (guarded0.pairSt 0).blankEnd = none ∧
    (let s : State := { guarded0 with pairs := [(0, { blankEnd := some 10001 })] }
     (s.pairSt 0).blankEnd = some 10001 ∧ s.tick < 10001) ∧
    guarded0.tripped 0 = false ∧ (guarded0.setBit (Reg.SLV_TRIP 0) 0 true).tripped 0 = true ∧
    (guarded0.setBit (Reg.SLV_TRIP 0) 0 true).bit (Reg.SLV_TRIP 0) 16 = false ∧
    (let s : State := { (guarded0.setBit (Reg.SLV_GDSTATE 0) 3 true).setBit (Reg.SLV_GDSTATE 0) 16 true with pairs := [(0, { blankEnd := some 10000 })] }
     (s.pairSt 0).blankEnd = some 10000 ∧ 10000 ≤ s.tick ∧ s.bit (Reg.SLV_GDSTATE 0) 16 = true ∧ s.bit (Reg.SLV_GDSTATE 0) 7 = false ∧
       (s.setBit (Reg.SLV_GDSTATE 0) 7 true).bit (Reg.SLV_GDSTATE 0) 7 = true) := by
  decide +kernel

theorem witness_BanksRearmingTwinsAndSkew :
    (act1 5 0 0 0).bit (Reg.SLV_STATUS 31) 1 = true ∧ run.bit (Reg.SLV_STATUS 31) 1 = false ∧ run.mode ≠ Mode.boot ∧
    3135 + 25 ≤ 3440 ∧ 3440 + 25 ≤ 3465 ∧ 1710 + 25 ≤ 1865 ∧ 1865 + 25 ≤ 1890 ∧ run.pfPage (0x10 + 31) = true ∧
    (let s := (act2 511 0 0 0).setBit (Reg.SLV_TRIP 31) 15 true
     s.tripped 511 = true ∧ s.bit (Reg.SLV_STATUS 31) 1 = true ∧ (s.setBit (Reg.SLV_BRIDGE 31) 15 true).bridged 511 = true) ∧
    run.fld Reg.REL_STEWARD 2 2 ≠ 0 ∧ (run.sleeve 0).lost = false ∧ (run.sleeve 0).absent = false ∧
    (let s : State := { run with sleeves := [(0, { lost := true, absent := true })] }
     (s.sleeve 0).lost = true ∧ (s.sleeve 0).absent = true) ∧
    (let s : State := { run.setFld Reg.REL_STEWARD 0 4 3 with tick := 27000000 }
     (s.cuff 5).calReady = none ∧ s.fld Reg.REL_STEWARD 2 2 = 0 ∧ max (s.cuff 5).swapTick s.boot.calAt + 27000000 ≤ s.tick ∧
       (s.setBit (Reg.CUF_CAL 5) 1 true).bit (Reg.CUF_CAL 5) 1 = true) ∧
    (let s : State := { run with tick := 3000000, cuffs := [(1023, { calReady := some 0, skewPend := true })] }
     (s.cuff 1023).calReady = some 0 ∧ s.idleCuff 1023 = true ∧ (3000000 : Nat) ≤ s.tick ∧ (s.cuff 1023).skewPend = true ∧
       (s.setBit (Reg.CUF_CAL 1023) 1 true).bit (Reg.CUF_CAL 1023) 1 = true) ∧
    (let s : State := { run with cuffs := [(0, { calReady := some 0, skewPend := true, lastEdge := some 160000 })] }
     s.idleCuff 0 = false ∧ (s.cuff 0).skewPend = true) := by
  decide +kernel

/-- R51: SET drives the cuff high. -/
theorem test_set_high : let t := after (execSetHigh 5 (act1 5 0x01 0 0))
    (t.cuff 5).level = true ∧ (t.cuff 5).fifo = [] := by decide +kernel

/-- R52: a PULSE of 100 crumbs ends 100 crumbs after its time. -/
theorem test_pulse : ((after (execPulse 5 (act1 5 0x05 0 100))).cuff 5).edges = [(160100, false)] := by decide +kernel

/-- R66: guard 3 asserts and trips the pair; both legs go to Apron low. -/
theorem test_guard_trips : let t := after (execGuardAssert 0 3 guarded0)
    t.tripped 0 = true ∧ (t.cuff 0).apTrip = true ∧ (t.cuff 1).apTrip = true := by decide +kernel

/-- R48: a supply of 3.3 V brings the bank up as a 3.3 V bank. -/
theorem test_bank_returns : (after (execBankOkReturn 31 3300 run)).fld (Reg.SLV_STATUS 31) 0 2 = 3 := by decide +kernel

/-! ### Queues, the scheduler and the voters -/

/-- An action entry. -/
def entry (time op sub arg : Nat) : Action := { time := time, late := 0, log := false, sealed := false, op := op, sub := sub, arg := arg }

/-- Queue 7 of tenant 1 with `x`, its entry 0 in memory. -/
def queued (x : Queue) (a : Action) : State :=
  { (slab 1 run).writeMem 0x1000000 16 (toEntry a) with queues := [(7, { x with log2 := 4, tenant := 1 })] }

/-- Entry i of a queue is read as `a`, and the read changes nothing. -/
def readsAs (s : State) (q i : Nat) (a : Action) : Bool :=
  match s.readEntry q i with
  | .ok b u => decide (b = a) && decide (u = s)
  | .bad _ _ => false

/-- Entry i of a queue cannot be read. -/
def unread (s : State) (q i : Nat) : Bool := match s.readEntry q i with | .ok _ _ => false | .bad _ _ => true

/-- A timed contract. -/
def terms : Contract := { rate := 1000, burst := 4, lead := 1000, intv := 100 }

theorem witness_Doorbells :
    (live Mode.provision).accepts 1 = true ∧ run.accepts 511 = true ∧ run.mode ≠ Mode.provision ∧ (live Mode.boot).accepts 1 = true ∧
    (live Mode.boot).mode = Mode.boot ∧
    (let s := queued { state := 1, ttype := 1 } (entry 200000 1 0 0)
     s.tenPage 1 = true ∧ (s.queue 7).state ≠ QState.free ∧ (s.queue 7).tenant = 1 ∧ (s.queue 7).ttype ≠ 0 ∧ s.hitQueue 7 = false ∧
       readsAs s 7 0 (entry 200000 1 0 0) = true ∧ s.entryFits (entry 200000 1 0 0) 1 0 = true ∧ s.descBad 7 = false ∧
       ({ s with eccBad := [14] } : State).descBad 7 = true) ∧
    (let s := queued { state := 1, ttype := 1 } (entry 200000 0x20 0 0)
     s.entryFits (entry 200000 0x20 0 0) 1 0 = false ∧ readsAs s 7 0 (entry 200000 0x20 0 0) = true) ∧
    (queued { state := QState.flushing, ttype := 1 } (entry 0 0 0 0)).queues ≠ [] ∧
    (let s : State := { run with queues := [(7, { state := 1, ttype := 1, log2 := 4, tenant := 1 })] }
     unread s 7 0 = true) ∧
    (let s := queued { state := 1, ttype := 1, cls := 1, contract := some terms } (entry 161000 1 0 0)
     readsAs s 7 0 (entry 161000 1 0 0) = true ∧ s.tbValid = true ∧ s.coarse = false ∧
       s.atOrAfter 161000 (s.plus s.tb.now 1000) = true ∧ s.atOrAfter 160999 (s.plus s.tb.now 1000) = false ∧
       s.spaced 7 (entry 161000 1 0 0) = true ∧ (s.setBit Reg.TB_STATUS 0 false).tbValid = false) ∧
    (let s := queued { state := 1, ttype := 1, cls := 1, contract := some terms, lastTime := some 161000, lastAct := some (entry 161000 1 0 0) } (entry 161010 2 0 0)
     s.spaced 7 (entry 161010 2 0 0) = false ∧ s.bucket { terms with tat := 2000000 } 161010 = false ∧ s.bucket terms 161010 = true) ∧
    (let s := queued { state := 1, ttype := 0, tail := 3 } (entry 0 0 0 0)
     (s.queue 7).ttype = 0 ∧ (3 + 16 - (s.queue 7).head % 16) % 16 ≤ ((s.queue 7).tail + 16 - (s.queue 7).head % 16) % 16) := by
  decide +kernel

/-- A queue of class `cls` whose HEAD has one entry. -/
def staged1 (cls : Nat) (a : Action) : State := queued { state := 1, ttype := 1, tail := 1, cls := cls } a

theorem witness_QueueStageAndWheel :
    (staged1 0 (entry 262144 1 0 0)).service = true ∧ readsAs (staged1 0 (entry 262144 1 0 0)) 7 0 (entry 262144 1 0 0) = true ∧
    unread { run with queues := [(7, { state := 1, ttype := 1, tail := 1, tenant := 1, log2 := 4 })] } 7 0 = true ∧
    (staged1 0 (entry 262144 1 0 0)).descBad 7 = false ∧ ({ staged1 0 (entry 262144 1 0 0) with eccBad := [15] } : State).descBad 7 = true ∧
    ((staged1 1 (entry 262144 0x0A 0 0)).queue 7).cls = 1 ∧
    (let s := staged1 0 (entry 262144 1 0 0)
     s.entryFits (entry 262144 1 0 0) 1 0 = true ∧ s.atOrAfter 262144 (s.plus s.tb.now 768) = true ∧
       s.atOrAfter 262144 (s.plus s.tb.now 268435456) = false ∧ s.atOrAfter 428595456 (s.plus s.tb.now 268435456) = true ∧
       s.inFlight 7 = [] ∧ s.outOfOrder 7 (entry 262144 1 0 0) = false ∧ s.plainRefs < 1048576 - s.reservedRefs ∧
       (s.queue 7).contract = none) ∧
    (let s := staged1 0 (entry 160767 1 0 0)
     s.atOrAfter 160767 (s.plus s.tb.now 768) = false ∧ (entry 160767 1 0 0).late % 4 = 0) ∧
    (let s := queued { state := 1, ttype := 1, tail := 1, prevTime := some 300000 } (entry 262144 1 0 0)
     s.outOfOrder 7 (entry 262144 1 0 0) = true) ∧
    (staged1 0 (entry 262144 1 0 0)).entryFits (entry 262144 0x20 0 0) 1 0 = false ∧
    run.reached 160000 = true ∧ run.reached 160016 = false ∧
    (let r : WheelRef := { fl := { act := entry 160000 0 0 0, org := .queue 7 0 } }
     let s : State := { run with refs := [r] }
     s.refs.find? (fun r => r.fl.ofQueue 7 && decide (r.fl.act.op = 0x00)) = some r ∧ ∀ x ∈ run.refs, x.fl.ofQueue 7 = true → x.fl.act.op ≠ 0) ∧
    (let r : WheelRef := { fl := { act := entry 262144 1 0 0 } }
     r.stage = .l1 ∧ r.fl.act.time / 2 ^ 18 % 1024 = 1 ∧
       run.atOrAfter (r.fl.act.time / 2 ^ 18 * 2 ^ 18) (run.plus run.tb.now (2 ^ 18 + 1)) = false) ∧
    (let r : WheelRef := { fl := { act := entry 160256 1 0 0, org := .queue 7 0 }, stage := .l0 }
     let s : State := { run with refs := [r], queues := [(7, { cls := 2 })] }
     r.fl.act.time / 256 % 1024 = 626 ∧ s.atOrAfter (160256 / 256 * 256) (s.plus s.tb.now (s.fld Reg.SCH_CTRL 0 11 * 16 + 1)) = false ∧
       s.isGuarded r.fl = true ∧ { s with queues := [] }.isGuarded r.fl = false) := by
  decide +kernel

/-- A READY reference of queue 7 for a target. -/
def ready (ttype target op : Nat) : WheelRef :=
  { fl := { act := entry 170000 op 0 0, org := .queue 7 0, ttype := ttype, target := target, due := 170000 }, stage := .ready }

theorem witness_DeliveryMarkAndIrq :
    okTarget 1 1023 = true ∧ okTarget 5 2303 = true ∧ run.lanes.sent < 4 ∧ (live Mode.safe).service = false ∧ run.service = true ∧
    (let s : State := { run with lanes := { onTick := 10000, sent := 4 } }
     s.lanes.onTick = s.tick ∧ ¬s.lanes.sent < 4) ∧
    (let s : State := { run with refs := [ready 4 63 0x0E], queues := [(7, { cls := 2 })] }
     s.chainHead 4 63 = some (ready 4 63 0x0E) ∧ s.isGuarded (ready 4 63 0x0E).fl = true) ∧
    (let s : State := { run with refs := [ready 1 1023 1], queues := [(7, { cls := 0 })] }
     s.chainHead 1 1023 = some (ready 1 1023 1) ∧ s.isGuarded (ready 1 1023 1).fl = false ∧ (s.targetFifo 1 1023).length < 8) ∧
    (let s : State := { run with refs := [ready 3 0 1], fifos := [(fifoKey 3 0, List.replicate 8 {})] }
     s.chainHead 3 0 = some (ready 3 0 1) ∧ 8 ≤ (s.targetFifo 3 0).length) ∧
    (let s : State := { run with refs := [ready 2 511 1], queues := [(7, { cls := 2 })] }
     s.chainHead 2 511 = some (ready 2 511 1) ∧ s.isGuarded (ready 2 511 1).fl = true) ∧
    (let s : State := { run with refs := [ready 5 2 0x80], queues := [(7, { cls := 2 })],
                                 ctxs := [(2, { guarded := true, slots := [2, 258, 514] }), (258, { guarded := true, slots := [2, 258, 514] }),
                                          (514, { guarded := true, slots := [2, 258, 514] })] }
     s.chainHead 5 2 = some (ready 5 2 0x80) ∧ s.triple 2 = [2, 258, 514] ∧ (∀ x ∈ [2, 258, 514], (s.fifo (fifoKey 5 x)).length < 8) ∧
       (∃ x ∈ { s with fifos := [(fifoKey 5 2, List.replicate 8 {})] }.triple 2,
         8 ≤ ({ s with fifos := [(fifoKey 5 2, List.replicate 8 {})] }.fifo (fifoKey 5 x)).length)) ∧
    (let s : State := { run with voters := [(fifoKey 1 0, { kept := [{ fl := (ready 1 0 1).fl }] })] }
     s.chainHead 1 0 = none ∧ (s.voter (fifoKey 1 0)).kept.find? (!·.passed) = some { fl := (ready 1 0 1).fl } ∧ (s.targetFifo 1 0).length < 8 ∧ 0 + 2 ≤ s.tick) ∧
    (act1 5 0x0F 0 0).headReady 1 5 0x0F = some (due 1 5 0x0F 0 0) ∧ (act1 5 0x10 0 15).headReady 1 5 0x10 = some (due 1 5 0x10 0 15) := by
  decide +kernel

theorem witness_Seams :
    (let a := entry 200000 0x0A 0 (5 + 2 ^ 16 * 2 + 2 ^ 32 * 3)
     let s := queued { state := 1, ttype := 1, tail := 1 } a
     s.service = true ∧ s.inFlight 7 = [] ∧ readsAs s 7 0 a = true ∧ s.entryFits a 1 0 = true ∧ bits a.arg 0 16 = 5 ∧
       (s.seamOf 5).members = [] ∧ s.seams.length < 4096 ∧ s.descBad 7 = false ∧ (s.queue 7).cls ≠ 1 ∧
       ((queued { state := 1, ttype := 1, tail := 1, cls := 1 } a).queue 7).cls = 1 ∧
       { s with seams := [(5, { count := 2, members := [8] })] }.seamOf 5 = { count := 2, members := [8] } ∧
       { s with seams := [(5, { count := 3, members := [8] })] }.seamOf 5 ≠ { count := 2, members := [8] }) ∧
    readsAs (staged1 0 (entry 200000 1 0 0)) 7 0 (entry 200000 1 0 0) = true ∧
    (let s : State := { run with seams := [(65535, { count := 1, members := [7], latest := 160000, expires := some 10000 })] }
     (s.seamOf 65535).members = [7] ∧ (s.seamOf 65535).count ≤ 1 ∧ s.reached (s.seamOf 65535).latest = true ∧
       (s.seamOf 65535).expires = some 10000 ∧ 10000 ≤ s.tick ∧ s.frozen = false ∧ (live Mode.halt).frozen = true) ∧
    (let s : State := { queued { state := QState.seamWait, ttype := 1, tail := 1 } (entry 200000 0x0A 0 9) with
                        seams := [(9, { count := 1, members := [7], times := [(7, 160000)], latest := 160000 })] }
     (s.seamOf 9).members = [7] ∧ (s.queue 7).state = QState.seamWait ∧
       readsAs (((s.setSeam 9 {}).setBit Reg.SCH_STATUS 1 false).setQueue 7 { s.queue 7 with state := QState.run }) 7 0 (entry 200000 0x0A 0 9) = true) ∧
    (run.seamOf 0).count ≤ (run.seamOf 0).members.length ∧ ({ run with seams := [(1, { count := 2, members := [7] })] }.seamOf 1).count > 1 := by
  decide +kernel

theorem witness_QueueControl :
    run.pfPage 9 = true ∧ run.fld Reg.QM_QSEL 0 20 = 0 ∧ (run.queue 0).state = QState.free ∧
    (let s : State := { run with queues := [(0, { state := 1, ttype := 2, log2 := 4 })] }
     s.pfPage 9 = true ∧ (s.queue 0).state ≠ QState.free ∧ (s.queue 0).state ≠ QState.flushing) ∧
    (let s : State := { run with queues := [(0, { state := 2, cls := 2, ttype := 2, target := 3, log2 := 4 })], cuffs := [(6, { apVote := true })] }
     (s.queue 0).cls = 2 ∧ (s.cuff (2 * (s.queue 0).target)).apVote = true ∧ (({ s with cuffs := [] } : State).cuff 6).apVote = false) ∧
    (let s : State := { run with queues := [(0, { state := 2, cls := 2, ttype := 1, target := 3, log2 := 4 })], cuffs := [(3, { apVote := true })] }
     (s.cuff (s.queue 0).target).apVote = true) ∧
    (let s := (queued { state := QState.flushing, ttype := 1, tail := 1, heldDb := some 3 } (entry 200000 1 0 0)).setN Reg.QM_QSEL 7
     s.fld Reg.QM_QSEL 0 20 = 7 ∧ (s.queue 7).state = QState.flushing ∧ (s.queue 7).filled = 1 ∧ readsAs s 7 0 (entry 200000 1 0 0) = true ∧
       s.walk 1 ((s.queue 7).entryAddr 0) = .ok 0x1000000 ∧ (s.queue 7).heldDb = some 3 ∧ s.cuffs = [] ∧ s.fifos = []) ∧
    (∀ i < 4, ∀ j < 4, j ≠ i → bitAt (2 ^ i) j = false) ∧ bitAt 3 0 = true ∧ run.tenPage 511 = true := by
  decide +kernel

/-- A copy of queue 7's guarded action at cuff 0, and the state in which it arrives. -/
def copy7 : Flight := { (ready 1 0 1).fl with act := entry 170000 1 0 0 }
def voting (v : Voter) : State :=
  { run with refs := [ready 1 0 1], voters := [(fifoKey 1 0, v)],
             queues := [(7, { cls := 2, ttype := 1, state := 1, contract := some { terms with trays := [0, 1, 2] } })] }

theorem witness_Voting :
    (voting {}).copyOf 1 0 0 (toEntry (entry 170000 1 0 0)) (.queue 7 0) = some copy7 ∧ (voting {}).service = true ∧
    okTarget 3 127 = true ∧ okTarget 4 63 = true ∧
    (let s : State := { voting {} with refs := [ready 3 127 0x0C], queues := [(7, { cls := 2, ttype := 3, target := 127, state := 1, contract := some { terms with trays := [0, 1, 2] } })] }
     s.copyOf 3 127 0 (toEntry (entry 170000 0x0C 0 0)) (.queue 7 0) = some { (ready 3 127 0x0C).fl with act := entry 170000 0x0C 0 0 }) ∧
    ((voting {}).voter (fifoKey 1 0)).hasCopy 0 copy7 = false ∧
    (let v : Voter := { slots := [List.replicate 8 { org := .near 1 1 }, [], []] }
     8 ≤ (v.slots.getD 0 []).length ∧ v.hasCopy 0 copy7 = false) ∧
    (let v : Voter := { slots := [[], [copy7], []] }
     v.hasCopy 0 copy7 = false ∧ v.kept.find? (·.fl.same copy7) = none ∧ (∃ g ∈ v.slots.getD 1 [], g.same copy7 = true ∧ g.act = copy7.act)) ∧
    (let v : Voter := { kept := [{ fl := { copy7 with act := entry 170000 2 0 0 }, seen := [1, 2] }] }
     v.kept.find? (·.fl.same copy7) = some { fl := { copy7 with act := entry 170000 2 0 0 }, seen := [1, 2] } ∧
       (voting v).votingTray copy7 0 = 0) ∧
    Tbl.get [] { run with votes := [(0, [9000, 9500])] }.votes 0 = [9000, 9500] ∧
    (let f : Flight := { copy7 with act := entry 160100 1 0 0 }
     (voting { slots := [[f], [], []] }).dueCopy 1 0 = some f) ∧ (voting {}).dueCopy 1 0 = none ∧
    (let f : Flight := { org := .near 2 1, ord := 4, ttype := 1, target := 3, act := entry 170000 1 0 0, due := 170000 }
     let slots := [2, 258, 514]
     let v : Voter := { closed := [(.near 2 1, 5)] }
     let s : State := { run with ctxs := [(2, { guarded := true, slots := slots }), (258, { guarded := true, slots := slots, sent := [{ f with org := .near 258 1 }] })],
                                 voters := [(fifoKey 1 3, v)] }
     s.copyOf 1 3 1 (toEntry (entry 170000 1 0 0)) (.near 258 1) = some f ∧ v.over f = true ∧ v.hasCopy 1 f = false) ∧
    (voting {}).chainHead 1 0 = some (ready 1 0 1) ∧ (voting {}).isGuarded (ready 1 0 1).fl = true ∧ (voting {}).lanes.spare = true ∧
    { voting {} with lanes := { spare := false, testing := true } }.lanes.testing = true ∧ (voting {}).slotQueues 170000 = [7] := by
  decide +kernel

/-- The spare, tray 8, takes the place of tray 2, whose context 512 is `k`. -/
def moving (k : Ctx) : State :=
  { run.setFld Reg.ADM_GUARD 0 4 8 with tick := 2000000000, ctxs := [(512, k)], trays := [(8, { rebuildFor := some 2, since := 400000000 })] }

theorem witness_TraysTakeEachOthersPlace :
    (moving { st := .halted }).fld Reg.ADM_GUARD 0 4 = 8 ∧ (moving {}).movesRun = true ∧
    ((moving {}).tray 8).rebuildFor = some ((moving {}).physOf (512 / 256)) ∧ (moving { st := .halted }).copies 512 = false ∧
    ((moving { st := .halted }).ctx 512).st.dead = true ∧
    ((moving { st := .wait }).ctx 512).atPoint = true ∧ (moving { st := .wait }).moveFar 512 = true ∧
    ((moving { st := .moving, retSt := .wait }).ctx 512).topPend = none ∧ ((moving { st := .run }).ctx 512).atPoint = false ∧
    max ((moving {}).tray 8).since ((moving { st := .run }).ctx 512).lastPoint + 1500000000 ≤ (moving {}).tick ∧
    (let k : Ctx := { st := .moving, retSt := .wait, freed := some (160000, none) }
     ((moving k).ctx 512).freed.isSome = true ∧ k.topPend = none) ∧
    ((moving { st := .moving, retSt := .wait, pend := [2] }).ctx 512).topPend = some 2 ∧
    (let s : State := { (moving {}).setBit Reg.ADM_GUARD 22 true with
       ctxs := [0, 256, 512].map fun c => (c, { st := if c = 512 then .run else .wait, guarded := true, slots := [0, 256, 512] }) }
     s.copies 512 = true ∧ s.survivors 512 = [0, 256] ∧ (s.ctx 0).copyable = true ∧ (s.ctx 0).agrees (s.ctx 256) = true ∧
       (s.ctx (s.newReplica 512)).st = .free ∧ s.moveFar 0 = true ∧ s.rebuilding = true ∧
       (({ s with pwr := { s.pwr with mode := Mode.doze } } : State).mode = Mode.doze ∧ (8 : Nat) ≠ 2)) ∧
    (let s : State := { moving {} with ctxs := [] }
     (s.liveIds (s.servesOf 2)).all s.hasMoved = true ∧ s.rebuilding = false ∧ s.upd = none) ∧
    okCtx 2303 = true := by
  decide +kernel

/-- R85: a doorbell on another tenant's queue is refused with REJECT_QUOTA. -/
theorem test_doorbell_foreign : (after (execDoorbell 2 7 1 (staged1 0 (entry 262144 1 0 0)))).regN (Reg.TEN_QDB_STAT 2) = 0x06 + 7 * 256 := by
  decide +kernel

/-- R84: the queue stage moves HEAD's entry past it. -/
theorem test_queue_stage : let t := after (execQueueStageMove 7 (staged1 0 (entry 262144 1 0 0)))
    (t.queue 7).head = 1 ∧ t.refs.length = 1 := by decide +kernel

/-- R97: a seam of one member releases at its TIME. -/
theorem test_seam_release :
    (after (execSeamRelease 65535 { run with seams := [(65535, { count := 1, members := [7], latest := 160000 })] })).seams = [] := by
  decide +kernel

/-! ### Microwords -/

/-- The fields of a word. -/
def ins (op a b k nx : Nat) : Insn := { op := op, a := a, b := b, k := k, nx := nx }

/-- Context 5, of tenant 1, in tenant mode, at a word of its own unit. -/
def micro (x : Insn) (k : Ctx) : State :=
  { run with ctxs := [(5, { k with st := .run, pc := 0x2000, tenant := 1 })], cs := [(csKey 0 0x2000, wordOf x)], units := [(0, some 1)] }

/-- Eight registers with chosen values in the first three. -/
def ws (a b c : Nat) : List (BitVec 20) := [BitVec.ofNat 20 a, BitVec.ofNat 20 b, BitVec.ofNat 20 c] ++ List.replicate 13 0

theorem witness_ArithmeticWords :
    ∀ op ∈ [0x00, 0x01, 0x02, 0x03, 0x04, 0x06, 0x08, 0x09, 0x14, 0x15, 0x0A, 0x0B, 0x0C, 0x0D, 0x0E, 0x0F, 0x10, 0x11, 0x12, 0x13],
      ∀ n ∈ [0, 31], (micro (ins op 14 15 n 0x3FFF) {}).issues 5 (ins op 14 15 n 0x3FFF) := by
  unfold State.issues; decide +kernel

theorem witness_LimbWords :
    ∀ op ∈ [0x05, 0x07, 0x18, 0x19, 0x1B], (micro (ins op 13 13 3 0x2001) { mode := 2 }).issues 5 (ins op 13 13 3 0x2001) := by
  unfold State.issues; decide +kernel

/-- Context 5 with the slab of tenant 1. -/
def mem1 (x : Insn) : State := slab 1 (micro x { w := ws 0 8 0 })

theorem witness_TimeAndMemoryWords :
    (∀ op ∈ [0x1A, 0x1C, 0x1D, 0x1E, 0x1F], (micro (ins op 13 13 1 0x2001) {}).issues 5 (ins op 13 13 1 0x2001)) ∧
    (∀ op ∈ [0x20, 0x21, 0x22, 0x23, 0x24, 0x25], (mem1 (ins op 0 1 4 0x2001)).issues 5 (ins op 0 1 4 0x2001)) ∧
    ((mem1 (ins 0x20 0 1 4 0x2001)).fetched 5).walk 1 12 = .ok 0x100000C ∧
    ((mem1 (ins 0x24 0 1 4 0x2001)).fetched 5).walk 1 8 = .ok 0x1000008 ∧
    ((micro (ins 0x20 0 1 4 0x2001) {}).fetched 5).walk 1 4 = .bad Code.slabFault 0 ∧
    (∀ op ∈ [0x20, 0x21], (micro (ins op 0 1 4 0x2001) {}).issues 5 (ins op 0 1 4 0x2001)) := by
  unfold State.issues; decide +kernel

theorem witness_ControlAndSequenceWords :
    (∀ op ∈ [0x28, 0x29, 0x2A, 0x2C, 0x2D, 0x2E, 0x2F, 0x30, 0x31, 0x3D],
      ∀ k ∈ [({} : Ctx), { stack := [1, 2, 3] }, { la := true }, { mode := 1, w := ws 5 0 0 }],
        (micro (ins op 0 0 15 0x2001) k).issues 5 (ins op 0 0 15 0x2001)) ∧
    (micro (ins 0x2F 0 0 15 0x2001) {}).mayFetch 5 0x2010 = true ∧ bitAt 15 0 = true ∧ bitAt 14 0 = false ∧
    (∀ k ∈ [({} : Ctx), { slot := some (0x2040, 0x2001) }, { la := true, lend := 0x2000, lc := 2 }, { la := true, lend := 0x2000, lc := 1 },
        { pmode := some 3 }], (micro (ins 0 0 0 0 0x2001) k).issues 5 (ins 0 0 0 0 0x2001)) := by
  unfold State.issues; decide +kernel

theorem witness_TrapReturnAndSpecialRegisterWords :
    (micro (ins 0x32 0 0 255 0x2001) {}).issues 5 (ins 0x32 0 0 255 0x2001) ∧
    (micro (ins 0x33 0 0 0 0x2001) { mode := 1, inHandler := true, pend := [3] }).issues 5 (ins 0x33 0 0 0 0x2001) ∧
    ({ mode := 1, inHandler := true, pend := [3] } : Ctx).topPend = some 3 ∧ 0 < causePrio 3 ∧ ({ mode := 1 } : Ctx).isBase = true ∧
    (∀ m ∈ [(0 : BitVec 4), 1], (micro (ins 0x33 0 0 0 0x2001) { mode := m }).issues 5 (ins 0x33 0 0 0 0x2001)) ∧
    (∀ op ∈ [0x3B, 0x3C], ∀ n ∈ [0, 9, 10, 14, 15, 16, 23, 24, 25, 26, 29, 30, 63], ∀ m ∈ [(0 : BitVec 4), 1],
      (micro (ins op 0 0 n 0x2001) { mode := m }).issues 5 (ins op 0 0 n 0x2001)) := by
  unfold State.issues; and_intros <;> decide +kernel

/-- A flag of tenant 1 that context 5 may send. -/
def flag1 (f : Flag) : Flag := { f with owner := some 1, senders := [5] }

theorem witness_FlagAndWaitWords :
    (∀ op ∈ [0x34, 0x35, 0x36, 0x37], ∀ b : Bool,
      ({ micro (ins op 13 0 239 0x2001) {} with flags := [(flagKey 0 239, flag1 { set := b })] } : State).issues 5 (ins op 13 0 239 0x2001)) ∧
    (let s : State := { micro (ins 0x34 13 0 239 0x2001) {} with flags := [(flagKey 0 239, flag1 { set := true })] }
     (s.flag (flagKey 0 239)).owner = some 1 ∧ lowOf 5 ∈ (s.flag (flagKey 0 239)).senders ∧ s.flagOwn 5 239 = true ∧
       (∀ d ∈ s.trayCtxs 0, (s.ctx d).waitsOn 239 = false ∧ ((s.ctx d).evtOn = true → (s.ctx d).evtFlag ≠ 239))) ∧
    (let s : State := { micro (ins 0x34 13 0 239 0x2001) {} with
       ctxs := [(5, { st := .run, pc := 0x2000, tenant := 1 }), (6, { st := .wait, waitKind := 1, waitFlag := 239, tenant := 1 })] }
     6 ∈ s.trayCtxs 0 ∧ (s.ctx 6).waitsOn 239 = true ∧ (s.ctx 6).st ≠ .moving) ∧
    (let s : State := { micro (ins 0x34 13 0 239 0x2001) {} with
       ctxs := [(5, { st := .run, pc := 0x2000, tenant := 1 }), (6, { st := .moving, retSt := .wait, waitKind := 1, waitFlag := 239, tenant := 1 })] }
     6 ∈ s.trayCtxs 0 ∧ (s.ctx 6).waitsOn 239 = true ∧ (s.ctx 6).st = .moving) ∧ run.reached 0 = true ∧
    (∀ op ∈ [0x35, 0x36],
      ({ micro (ins op 13 0 239 0x2001) {} with flags := [(flagKey 0 239, flag1 { sentAt := some 5000 })] } : State).issues 5 (ins op 13 0 239 0x2001)) ∧
    run.tick / 2 = 5000 := by
  unfold State.issues; decide +kernel

theorem witness_ActionsInAndOutOfContexts :
    (∀ p ∈ [({} : NearPort), { ttype := 1, target := 3 }],
      (micro (ins 0x38 9 0 7 0x2001) { ports := [(7, p)] }).issues 5 (ins 0x38 9 0 7 0x2001)) ∧
    (micro (ins 0x39 9 0 0 0x2001) {}).issues 5 (ins 0x39 9 0 0 0x2001) ∧
    run.portRoom { ttype := 1, target := 3 } = true ∧
    (let s := micro (ins 0x38 9 0 7 0x2001) { ports := [(7, { ttype := 1, target := 3 })] }
     s.emitTurn 5 = true ∧ s.emitRoom (s.trayOf 5) = true ∧
       ({ s with trays := [(0, { emitAt := 5000, emitted := 2 })] } : State).emitTurn 5 = false) ∧
    ({ run with cuffs := [(3, { fifo := List.replicate 8 {} })] } : State).portRoom { ttype := 1, target := 3 } = false ∧
    (let s : State := { micro (ins 0x39 9 0 0 0x2001) {} with fifos := [(fifoKey 5 5, [due 5 5 0x80 0 0])] }
     s.recvHead 5 = some (due 5 5 0x80 0 0) ∧ (micro (ins 0x39 9 0 0 0x2001) {}).recvHead 5 = none) ∧
    (let s : State := { micro (ins 0x38 9 0 7 0x2001) {} with
       ctxs := [(5, { st := .press, pc := 0x2000, ports := [(7, { ttype := 1, target := 3 })] }), (6, { st := .twait, deadline := 160000, waitKind := 2, pc := 0x2001 })] }
     (s.ctx 6).st = .twait ∧ s.reached 160000 = true ∧ s.native (s.trayOf 6) 0x2001 = false ∧ (s.ctx 5).st = .press ∧
       s.portRoom ((s.ctx 5).port ((s.curInsn 5).k % 8)) = true ∧ ((s.ctx 5).port ((s.curInsn 5).k % 8)).ttype ≠ 0 ∧
       (s.ctx 5).pend = [] ∧ (s.ctx 5).since + s.bpto (s.trayOf 5) ≤ s.tick) ∧
    (let s : State := { micro (ins 0x39 9 0 0 0x2001) {} with ctxs := [(5, { st := .recv, pc := 0x2000 })], fifos := [(fifoKey 5 5, [due 5 5 0x80 0 0])] }
     (s.ctx 5).st = .recv ∧ (s.curInsn 5).a ≤ 9 ∧ s.recvHead 5 = some (due 5 5 0x80 0 0)) ∧
    (let s : State := { run with ctxs := [(5, { tenant := 1, st := .idle })], fifos := [(fifoKey 5 5, [due 5 5 0x0B 239 0])],
                                 flags := [(flagKey 0 239, flag1 { ext := true })] }
     s.headReady 5 5 0x0B = some (due 5 5 0x0B 239 0) ∧ (s.flag (flagKey (s.trayNum 5) 239)).ext = true ∧
       (s.flag (flagKey (s.trayNum 5) 239)).owner = some (s.ctx 5).tenant ∧ (s.flag (flagKey 0 1)).ext = false) := by
  unfold State.issues; decide +kernel

theorem witness_TrayCommands :
    okTray 8 = true ∧
    (let s : State := { run with tick := 100000, ctxs := [(5, { st := .wait, waitKind := 1, waitFlag := 3 })],
                                 flags := [(flagKey 0 3, { owner := some 0, senders := [5] })] }
     s.service = true ∧ s.deadlocked (s.servesOf 0) = true ∧ (s.ctx 5).st = .wait ∧ (s.ctx 5).inHandler = false ∧
       (s.ctx 5).since + 65536 ≤ s.tick ∧ (s.flag (flagKey (s.trayNum 5) 3)).ext = false ∧ (s.flag (flagKey (s.trayNum 5) 3)).long = false) ∧
    (let s : State := { run with ctxs := [(5, { st := .wait, inHandler := true })] }
     5 ∈ s.trayCtxs (s.servesOf 0) ∧ ∀ c ∈ s.trayCtxs (s.servesOf 0), (s.ctx c).st = .wait → (s.ctx c).inHandler = true) ∧
    (let s : State := { ((run.setBit (Reg.TRY_IRQ_CTRL 0) 0 true).setN (Reg.TRY_IRQ_EN_L 0) 1).setN (Reg.TRY_IRQ_PEND_L 0) 1 with
       ctxs := [(0, { st := .recv, mode := 8, evtFlag := 240 })] }
     (s.ctx (s.irqCtx 0)).evtOn = true ∧ (s.ctx (s.irqCtx 0)).evtFlag = 240 ∧ (s.ctx (s.irqCtx 0)).waitsOn 240 = false ∧
       (s.ctx (s.irqCtx 0)).inHandler = false ∧ (s.ctx (s.irqCtx 0)).st = .recv ∧ s.trayReady 0 ≠ []) ∧
    (let s : State := { run.setFld (Reg.TRY_WDOG 0) 0 20 625 with ctxs := [(5, { st := .press }), (6, { st := .run })] }
     s.windowOf 6 ≠ 2 ∧      s.dogLimit 5 ≠ 0 ∧ (s.ctx 5).lastPoint + s.dogLimit 5 * 16 ≤ s.tick ∧ (s.ctx 6).lastPoint + s.dogLimit 6 * 16 ≤ s.tick) ∧
    (let s : State := { ((run.setBit (Reg.TRY_IRQ_CTRL 8) 0 true).setN (Reg.TRY_IRQ_EN_L 8) 1).setN (Reg.TRY_IRQ_PEND_L 8) 1 with
       ctxs := [(8 * 256, { st := .wait, waitKind := 1, waitFlag := 240 })] }
     s.bit (Reg.TRY_IRQ_CTRL 8) 0 = true ∧ s.bit (Reg.TRY_IRQ_CTRL 8) 1 = false ∧ s.badIrqCtx 8 = false ∧ s.trayReady 8 ≠ [] ∧
       (s.ctx (s.irqCtx 8)).waitsOn 240 = true ∧ ({ s with ctxs := [(2048, { st := .run })] }.ctx 2048).waitsOn 240 = false) ∧
    run.pfPage (0x30 + 8) = true ∧ bits 0 8 8 = run.fld (Reg.TRY_IRQ_CTRL 8) 8 8 ∧ bits 0xFF00 8 8 ≠ run.fld (Reg.TRY_IRQ_CTRL 8) 8 8 ∧
    (run.ctx (8 * 256 + 255)).tenant = 0 ∧ (({ run with ctxs := [(2303, { tenant := 1 })] } : State).ctx 2303).tenant ≠ 0 := by
  decide +kernel

/-- R141, R142: ADC of 0xFFFFF, 1 and no carry gives 0 with C and Z under wrap, and all ones under saturate. -/
theorem test_adc_wraps : let t := after (execAdc 5 (micro (ins 0x05 0 1 0 0x2001) { w := ws 0xFFFFF 1 0 }))
    (t.ctx 5).w.headD 9 = 0 ∧ (t.ctx 5).c = true ∧ (t.ctx 5).z = true := by decide +kernel

theorem test_adc_saturates : ((after (execAdc 5 (micro (ins 0x05 0 1 0 0x2001) { w := ws 0xFFFFF 1 0, mode := 2 }))).ctx 5).w.headD 9 = 0xFFFFF := by
  decide +kernel

/-- R141: SAR keeps the sign; its C is the last bit moved out. -/
theorem test_sar : let t := after (execSar 5 (micro (ins 0x12 0 1 3 0x2001) { w := ws 0 0x80004 0 }))
    (t.ctx 5).w.headD 9 = 0xF0000 ∧ (t.ctx 5).c = true := by decide +kernel

/-- R143: BEQ goes to the odd word of the pair when the registers are equal. -/
theorem test_beq : ((after (execBeq 5 (micro (ins 0x2A 0 1 0 0x2010) {}))).ctx 5).pc = 0x2011 := by decide +kernel

/-- R139: STW stores the register's 20 bits in 4 bytes, little-endian. -/
theorem test_stw : let t := after (execStw 5 (slab 1 (micro (ins 0x21 0 1 4 0x2001) { w := ws 0xABCDE 8 0 })))
    [t.byte 0x100000C, t.byte 0x100000D, t.byte 0x100000E, t.byte 0x100000F] = [0xDE, 0xBC, 0x0A, 0] := by decide +kernel

/-! ### PIO engines -/

/-- Engine 127, lent pins at cuffs 1016 up, out of Apron, about to execute instruction word `x`. -/
def pio (x : Nat) (k : Pio) : State :=
  { (run.setFld (Reg.PIO_IMEM 127 k.pc) 0 16 x).setN (Reg.PIO_BITP 127) 0x2000 with
    pios := [(127, { k with base := 1016, count := 8 })],
    cuffs := (List.range 8).map fun i => (1016 + i, { driven := true, apMode := false, lent := .pio 127 }) }

/-- The same, running. -/
def pioRun (x : Nat) (k : Pio) : State := pio x { k with st := 1 }

theorem witness_PioPinInstructions :
    (∀ x ∈ [0x5500, 0xFF01, 0xFF02, 0x0003], (pioRun x {}).pioRuns 127 (x % 8)) ∧ 0xFF / 32 < 8 ∧
    (pioRun 0 {}).bit (Reg.PIO_CFG 127) 2 = false ∧ ((pioRun 0 {}).setBit (Reg.PIO_CFG 127) 2 true).bit (Reg.PIO_CFG 127) 2 = true ∧
    ((pioRun 0 {}).setN (Reg.PIO_DIR 127) 0xFF).bit (Reg.PIO_DIR 127) 7 = true ∧ ((pioRun 0 {}).cuff 1023).held = false ∧
    (pioRun 0 {}).pairEn (1023 / 2) = false ∧ ((pioRun 0 {}).pio 127).txsr < 2 ^ 32 ∧
    (∀ k ∈ [({ busy := true, todo := 3, insn := 3 } : Pio), { busy := true, todo := 3, insn := 2 }, { busy := true, rest := 2 }, { busy := true }],
      ((pioRun 0 k).pio 127).busy = true ∧ (k.todo ≠ 0 ∨ k.rest ≠ 0 ∨ k.skip = false)) ∧
    ((pioRun 0 { samples := [(159999, true, false)] }).pio 127).samples = [(159999, true, false)] ∧ run.reached 159999 = true := by
  unfold State.pioRuns; decide +kernel

theorem witness_PioDataInstructions :
    (∀ l ∈ [[], [7]], (pioRun 0x0004 { tx := l }).pioRuns 127 4) ∧
    (∀ n ∈ [0, 4], (pioRun 0x0005 { rx := List.replicate n 0 }).pioRuns 127 5) ∧ (pioRun 0x0005 {}).sampleWait 127 = some 0 ∧
    ((pioRun 0x0005 {}).pio 127).forPort = none ∧ ((pioRun 5 {}).setBit (Reg.PIO_CFG 127) 8 true).bit (Reg.PIO_CFG 127) 8 = true ∧
    ((pioRun 5 { forPort := some 63 }).setFld (Reg.FBK_CFG 63) 0 2 3).fbkOn 63 3 = true ∧
    (pioRun 0xE806 {}).pioRuns 127 6 ∧ 0xE8 % 8 = 0 ∧ 0xE8 / 32 < 8 ∧
    (∀ o ∈ [0, 1, 2, 3], (pioRun (o * 256 + 7) { rxsr := 1 }).pioRuns 127 7) ∧
    Nat.land 1 ((((pioRun 7 { rxsr := 1 }).setN (Reg.PIO_CMPMASK 127) 1).regN (Reg.PIO_CMPMASK 127))) ≠ (pioRun 7 {}).regN (Reg.PIO_CMP 127) ∧
    ((pioRun 4 { needAt := some 159984 }).pio 127).needAt = some 159984 ∧ ((pioRun 7 { skip := true }).pio 127).skip = true ∧
    (∃ n ∈ (pioRun 7 {}).nextPc 127 0 0, ((pioRun 7 {}).nextPc 127 n.1 n.2).isSome = true) := by
  unfold State.pioRuns; decide +kernel

theorem witness_PioWaitsAndStops :
    (∀ x ∈ [0x0104, 0x0106, 0x0407], (pioRun x {}).service = true ∧ ((pioRun x {}).pio 127).st = 1 ∧
      (pioRun x {}).reached ((pioRun x {}).boundary 127 0) = true ∧ ((pioRun x {}).pio 127).lastSample = none ∧
      ((pioRun x {}).pio 127).busy = false ∧ ((pioRun x {}).pio 127).needAt = none ∧ ((pioRun x {}).pio 127).samples = [] ∧
      (pioRun x {}).imem 127 0 = x) ∧
    (let s := pioRun 0x000D { lastSample := some 170000, samples := [(170000, false, false)] }
     bitAt (s.imem 127 0) 3 = true ∧ bits (s.imem 127 0) 0 3 = 5 ∧ (s.pio 127).atMet = false ∧ (s.pio 127).samples ≠ []) ∧
    ({ pioRun 0xFF02 {} with pios := [(127, { st := 1, count := 7 })] }.pio 127).count ≤ 0xFF / 32 ∧
    bitAt ((pioRun 0x0008 {}).imem 127 0) 3 = true ∧
    (let s := (pioRun 0x0008 {}).setPair (Reg.PIO_AT_L 127) (Reg.PIO_AT_H 127) 160128
     s.atOrAfter 160128 (s.plus s.tb.now 128) = true ∧ s.atOrAfter 160127 (s.plus s.tb.now 128) = false) ∧
    (pio 0x0008 { st := 2 }).reached 160000 = true ∧ ((pio 0x0008 { st := 2 }).pio 127).st = 2 ∧
    (let s := pio 0xE006 { st := 3, insn := 0xE006, wto := 1 }
     s.pinReads (1016 + bits (s.pio 127).insn 8 8 / 32) (bitAt (bits (s.pio 127).insn 8 8) 4) = true ∧ (s.pio 127).wto ≠ 0 ∧ s.reached (s.boundary 127 (0 + (1 - 0))) = true ∧ (s.pio 127).waited = 0) ∧
    ((pio 0x0004 { st := 4, fed := true }).pio 127).fed = true ∧ (pio 0x0004 { st := 4, fed := true }).reached ((pio 0x0004 { st := 4, fed := true }).boundary 127 0) = true ∧
    ((pio 0x0004 { st := 4, tx := [7] }).pio 127).tx = [7] ∧ (pio 4 { st := 4 }).fld (Reg.PIO_STALL_INFO 127) 0 2 = 0 ∧
    ((pio 5 { st := 4 }).setFld (Reg.PIO_STALL_INFO 127) 0 2 1).fld (Reg.PIO_STALL_INFO 127) 0 2 = 1 ∧ bitAt ((pio 5 { st := 4 }).pio 127).cfg 8 = false ∧
    (∃ w r, ((pio 4 { st := 4, tx := [7] }).pio 127).tx = w :: r) := by
  and_intros <;> first | exact ⟨7, [], rfl⟩ | decide +kernel

theorem witness_PioCommands :
    run.pfPage (0x40 + 127 / 4) = true ∧ (pio 0 {}).service = true ∧ (pio 0 {}).startError 127 = none ∧
    (((pio 0 {}).setFld (Reg.PIO_LOOP 127) 0 5 31).setFld (Reg.PIO_LOOP 127) 8 5 30).startError 127 = some 8 ∧ ((pio 0 {}).pio 127).base + 8 ≤ 1024 ∧
    (∀ i < 4, ∀ j < 4, j ≠ i → bitAt (2 ^ i) j = false) ∧ ((pio 0 { tx := List.replicate 4 0 }).pio 127).tx.length = 4 ∧
    ((pio 0 { st := 4, rx := [5] }).pio 127).fed = false ∧ ((pio 0 { needAt := some 160000 }).pio 127).tx = [] ∧
    ((pio 0 { rx := [5] }).pio 127).rx = [5] ∧ run.reads 0 = true ∧ run.mode ≠ Mode.boot ∧
    (let s : State := { pio 0 {} with fifos := [(fifoKey 3 127, [due 3 127 0x0C 1 31])] }
     s.headReady 3 127 0x0C = some (due 3 127 0x0C 1 31)) ∧
    (let s : State := { pio 0 { tx := List.replicate 4 0 } with fifos := [(fifoKey 3 127, [{ due 3 127 0x0D 0 9 with late := true }])] }
     s.headReady 3 127 0x0D = some { due 3 127 0x0D 0 9 with late := true } ∧ s.policy { due 3 127 0x0D 0 9 with late := true } ≠ 2 ∧
       s.policy { due 3 127 0x0D 0 9 with late := true } ≠ 3) ∧
    run.fld Reg.PIO_SYNC_CTRL 8 2 ≠ 1 ∧
    (let s := run.setPair Reg.PIO_SYNC_TIME_L Reg.PIO_SYNC_TIME_H 161536
     s.atOrAfter (s.pair Reg.PIO_SYNC_TIME_L Reg.PIO_SYNC_TIME_H) (s.plus s.tb.now 1536) = true) ∧
    run.atOrAfter (run.pair Reg.PIO_SYNC_TIME_L Reg.PIO_SYNC_TIME_H) (run.plus run.tb.now 1536) = false ∧
    (let s : State := { ((pioRun 0 {}).setFld Reg.PIO_SYNC_CTRL 8 2 1).setN (Reg.PIO_SYNC_MASK 3) (2 ^ 31) with syncAt := some 160000 }
     s.syncAt = some 160000 ∧ s.reached 160000 = true ∧ (∀ j < 4, s.regN (Reg.PIO_SYNC_MASK j) = if j = 127 / 32 then 2 ^ (127 % 32) else 0) ∧
       (s.pio 127).count ≠ 0 ∧ (s.pio 127).st ≠ 0 ∧ (s.pio 127).st ≠ 4 ∧ (s.pio 127).begun ≠ some s.tick ∧ s.startError 127 = none ∧
       s.fld Reg.PIO_SYNC_CTRL 4 2 = 0 ∧ s.fld Reg.PIO_SYNC_CTRL 8 2 = 1 ∧ s.boundary 127 (s.lastBit 127 s.tb.now) = s.tb.now ∧
       (let u : State := { s with pios := [(127, { s.pio 127 with clk0 := 16 })] }
        u.boundary 127 (u.lastBit 127 u.tb.now) ≠ u.tb.now) ∧
       (s.setFld Reg.PIO_SYNC_CTRL 4 2 1).fld Reg.PIO_SYNC_CTRL 4 2 = 1 ∧
       (let u : State := { s with pios := [(127, { s.pio 127 with begun := some s.tick, beganWith := (0, true, 160000, true), beganCut := true })] }
        (u.pio 127).begun = some u.tick ∧ (u.pio 127).beganWith.2.1 = true ∧ (u.pio 127).beganWith.2.2.2 = true ∧
          (u.pio 127).beganCut = true ∧ (u.pio 127).count ≠ 0 ∧ u.startError 127 = none)) := by
  and_intros <;> decide +kernel

/-! ### Feedback ports -/

/-- Port 63 in a mode, its pins at cuffs 0 up. -/
def fbk (mode : Nat) (k : Fbk) : State :=
  { (run.setFld (Reg.FBK_CFG 63) 0 4 (mode + 4 * 2)).setFld (Reg.SLV_STATUS 0) 0 2 3 with ports := [(63, { k with count := 6 })] }

theorem witness_FeedbackDecoding :
    (fbk 1 {}).fbkOn 63 1 = true ∧ (fbk 1 {}).stable 63 159000 = true ∧ (true ≠ ((fbk 1 {}).port 63).a ∧ true ≠ ((fbk 1 {}).port 63).b) ∧
    ((fbk 1 {}).port 63).quad = none ∧
    (let g : Frame := { pos := 7, time := 159000 }
     let s := fbk 1 { a := true, quad := some (9937, true, some g) }
     (159000 : Nat) / 16 = 9937 ∧ true ≠ (s.port 63).b ∧ (s.port 63).quad = some (159000 / 16, true, some g)) ∧
    (let s := fbk 1 { a := true, quad := some (9937, true, none) }
     (false ≠ (s.port 63).a) ≠ (false ≠ (s.port 63).b) ∧ ∀ q, (s.port 63).quad = some q → q.1 = 159000 / 16 →
       if q.2.1 then false = (s.port 63).b else false = (s.port 63).a) ∧
    ((fbk 1 { lastCount := some 158521 }).port 63).lastCount = some 158521 ∧ (fbk 1 {}).minus 159000 158521 < 480 ∧
    ((fbk 1 {}).port 63).cmpTick ≠ some (fbk 1 {}).tick ∧ ((fbk 1 {}).port 63).hits.length < 4 ∧
    (fbk 1 {}).fld (Reg.FBK_CFG 63) 2 2 = 2 ∧ ((fbk 1 {}).setFld (Reg.FBK_CFG 63) 2 2 1).fld (Reg.FBK_CFG 63) 2 2 = 1 ∧
    ((fbk 1 {}).setFld (Reg.FBK_CFG 63) 2 2 0).fld (Reg.FBK_CFG 63) 2 2 = 0 ∧ (fbk 1 {}).service = true ∧
    ((fbk 1 { loaded := some (10000, true) }).port 63).loaded = some ((fbk 1 {}).tick, true) ∧
    (let s := ((fbk 1 {}).setN (Reg.FBK_CMP_L 63) 1).setBit (Reg.FBK_CMPCFG 63) 0 true
     s.bit (Reg.FBK_CMPCFG 63) 0 = true ∧ (s.fbkPos 63 + 1) % 2 ^ 40 = s.fbkCmp 63 ∧ s.regN (Reg.FBK_SPACING 63) = 0 ∧
       (s.setN (Reg.FBK_SPACING 63) 5).regN (Reg.FBK_SPACING 63) ≠ 0 ∧ s.bit (Reg.FBK_CMPCFG 63) 1 = false) ∧
    ((fbk 1 {}).setFld (Reg.FBK_CFG 63) 5 2 3).fld (Reg.FBK_CFG 63) 5 2 = 3 ∧
    (let s := (fbk 1 {}).setFld (Reg.FBK_CFG 63) 16 8 5
     s.bit (Reg.FBK_STATUS 63) 10 = false ∧ (s.setBit (Reg.FBK_STATUS 63) 10 true).bit (Reg.FBK_STATUS 63) 10 = true ∧
       s.pairChecked 63 2 = true ∧ s.fbkOn 63 (s.fbkMode 63) = true ∧ (s.cuff 4).pad = (s.cuff 5).pad ∧
       max (s.cuff 4).padTick (s.cuff 5).padTick + s.fld (Reg.FBK_CFG 63) 16 8 * 16 < s.tick ∧
       (({ s with cuffs := [(4, { pad := true })] } : State).cuff 4).pad ≠ (s.cuff 5).pad) ∧
    (fbk 1 {}).frozen = false ∧ (fbk 1 {}).fbkStat 63 2 = false ∧
    (let s : State := { (fbk 2 { reqAt := some 0 }).setBit (Reg.FBK_STATUS 63) 9 true with cuffs := [(2, { pad := true })] }
     s.fbkMode 63 = 2 ∧ (s.port 63).reqAt ≠ none ∧ s.bit (Reg.FBK_STATUS 63) 9 = true ∧ (s.cuff 2).pad ≠ (s.cuff 3).pad ∧ s.frozen = false) ∧
    (let s := (fbk 1 {}).setFld (Reg.FBK_SPDCFG 63) 8 24 9
     s.fld (Reg.FBK_SPDCFG 63) 8 24 ≠ 0 ∧ (s.port 63).lastTick + s.fld (Reg.FBK_SPDCFG 63) 8 24 * 1024 ≤ s.tick) := by
  decide +kernel

theorem witness_IllegalTransition :
    (fbk 1 {}).fbkOn 63 1 = true ∧ (fbk 1 {}).stable 63 (159000 % (fbk 1 {}).circle) = true ∧ true ≠ ((fbk 1 {}).port 63).a ∧ true ≠ ((fbk 1 {}).port 63).b ∧ (fbk 1 {}).bit (Reg.FBK_CFG 63) 24 = false ∧
    ((fbk 1 {}).port 63).quad = none ∧
    ((fbk 1 {}).setBit (Reg.FBK_CFG 63) 24 true).bit (Reg.FBK_CFG 63) 24 = true := by decide +kernel

theorem witness_FeedbackCompareAndHits :
    run.pfPage (0x60 + 63 / 8) = true ∧ ((fbk 1 {}).port 63).loaded ≠ some ((fbk 1 {}).tick, true) ∧
    ((fbk 1 { loaded := some (10000, true) }).port 63).loaded = some ((fbk 1 {}).tick, true) ∧ (fbk 1 {}).fbkPos 63 < 2 ^ 40 ∧
    (fbk 1 {}).regN (Reg.FBK_CMP_H 63) < 2 ^ 8 ∧ ((fbk 1 {}).port 63).cmpTick ≠ some (fbk 1 {}).tick ∧ ((fbk 1 {}).setBit (Reg.FBK_CMPCFG 63) 0 true).bit (Reg.FBK_CMPCFG 63) 0 = true ∧
    ((fbk 1 { hits := [150000], hitTick := some 9984 }).port 63).hits = [150000] ∧ 9984 + 16 ≤ (fbk 1 {}).tick ∧ (fbk 1 {}).bit (Reg.FBK_CMPCFG 63) 3 = false ∧
    (let s : State := { ((fbk 1 { hits := [150000], owner := 1 }).setBit (Reg.FBK_CMPCFG 63) 3 true).setFld (Reg.FBK_HTPL 63) 0 8 1 with
       queues := [(0, { state := 1, ttype := 1, tenant := 1, log2 := 4 })] }
     s.bit (Reg.FBK_CMPCFG 63) 3 = true ∧ s.bit (Reg.FBK_CMPCFG 63) 4 = false ∧ (s.queue (s.fld (Reg.FBK_HQUEUE 63) 0 20)).tenant = (s.port 63).owner ∧
       (s.queue 0).filled < 2 ^ (s.queue 0).log2 - 1 ∧ s.checkEntry 0 (s.hitEntry 63 150000) = 0 ∧
       (slab 1 s).walk 1 0 = .ok 0x1000000 ∧ (s.setFld (Reg.FBK_HTPL 63) 0 8 0x20).checkEntry 0 ((s.setFld (Reg.FBK_HTPL 63) 0 8 0x20).hitEntry 63 0) ≠ 0 ∧
       ¬(({ s with queues := [(0, { state := 1, ttype := 1, tenant := 1, log2 := 4, tail := 15 })] } : State).queue 0).filled < 2 ^ 4 - 1) ∧
    (let s : State := { (fbk 1 { toggles := [160000] }).setFld (Reg.FBK_CMPCFG 63) 16 10 1023 with cuffs := [(1023, { apMode := false })] }
     (s.port 63).toggles = [160000] ∧ (s.cuff 1023).apron = false ∧ (s.cuff 1023).held = false ∧ s.reached 160000 = true ∧
       s.legalFrom 1023 { Action.zero with op := 0x03, time := 160000 } = none ∧ s.toggleFits 63 1023 = true ∧
       (s.setFld (Reg.CUF_CFG 1023) 0 2 1).toggleFits 63 1023 = false) := by
  decide +kernel

theorem witness_FeedbackSerialAndLatches :
    (let s : State := { fbk 2 {} with cuffs := [(2, { pad := true })], tick := 1000000 }
     s.pfPage (0x60 + 63 / 8) = true ∧ s.fbkOn 63 2 = true ∧ (s.cuff 2).pad = true ∧ (s.cuff 2).padTick + s.fld (Reg.FBK_SSITM 63) 0 16 ≤ s.tick ∧
       s.fbkStat 63 4 = false ∧ s.pairEn 0 = false) ∧ ((fbk 2 {}).cuff 2).pad = false ∧
    (let s := (fbk 2 {}).setN (Reg.FBK_SSIPER 63) 10000
     s.regN (Reg.FBK_SSIPER 63) ≠ 0 ∧ (s.port 63).lastReq + s.regN (Reg.FBK_SSIPER 63) ≤ s.tick) ∧
    (let s := ((fbk 2 { reqAt := some 0 }).setFld (Reg.FBK_SSICFG 63) 0 6 8).setFld (Reg.FBK_SSICLK 63) 0 16 150
     (s.port 63).reqAt = some 0 ∧ s.fbkOn 63 2 = true ∧ s.reached (s.plus 0 (8 * 150 * 16)) = true ∧ s.frameLine 63 0 [] [] = [] ∧ s.frameLine 63 0 [2400] [1300] = [(1300, false), (2400, true)] ∧
       s.lineDelays 63 0 = [] ∧ s.bit (Reg.FBK_STATUS 63) 9 = false ∧ (s.setBit (Reg.FBK_STATUS 63) 9 true).bit (Reg.FBK_STATUS 63) 9 = true ∧
       s.lineDelay 63 0 = 0 ∧ max 8 (min 48 (s.fld (Reg.FBK_SSICFG 63) 0 6)) = 8 ∧ max 150 (min 15000 (s.fld (Reg.FBK_SSICLK 63) 0 16)) / 2 * 2 = 150) ∧
    (let s := fbk 2 { ended := some 0, undo := some { regs := List.replicate 12 0 } }
     (s.port 63).ended = some 0 ∧ s.fbkOn 63 2 = true ∧ ((s.port 63).undo.map (·.regs.length)) = some 12) ∧
    (let s := fbk 1 { latches := [(150000, false)] }
     s.fbkMode 63 < 2 ∧ (s.port 63).latches = [(150000, false)] ∧ (s.port 63).marks = [] ∧ (s.port 63).past = [] ∧ (s.port 63).trail = [] ∧
       s.reached (s.plus 150000 ((s.fld (Reg.FBK_CFG 63) 8 8 + 8) * 16)) = true) ∧ (fbk 2 {}).fld (Reg.FBK_SSITM 63) 0 16 ≤ ({ fbk 2 {} with tick := 1000000 } : State).tick ∧
    (∀ m ∈ [1, 2, 3], ({ fbk m {} with fifos := [(fifoKey 4 63, [due 4 63 0x0E 1 0])] } : State).headReady 4 63 0x0E = some (due 4 63 0x0E 1 0)) ∧
    (fbk 3 {}).fbkMode 63 = 3 ∧ (fbk 1 {}).fbkMode 63 < 2 := by
  and_intros <;> decide +kernel

/-- R206: with A leading B, a rising A edge counts up in X4. -/
theorem test_quadrature_up : let t := after (execQuadratureEdge 63 true false 159000 (fbk 1 {}))
    t.fbkPos 63 = 1 ∧ t.pair (Reg.FBK_ETIME_L 63) (Reg.FBK_ETIME_H 63) = 159000 := by decide +kernel

/-- R190: PIO_LOAD takes the oldest word of the FIFO. -/
theorem test_pio_load : let t := after (execPioLoad 127 (pioRun 0x0004 { tx := [7, 8] }))
    (t.pio 127).txsr = 7 ∧ (t.pio 127).tx = [8] ∧ (t.pio 127).txcnt = 32 := by decide +kernel

/-! ### Ensembles -/

/-- Member 1 of an ensemble on port 0 and state `st`, its leader member 0 by rank, at version 1. -/
def ens (st : Nat) (e : Ens) : State :=
  let s := ((((run.setFld Reg.REL_STEWARD 0 8 255).setFld Reg.ENS_CFG 0 12 (1 + 2 + 256)).setBit (Reg.ENP_CFG 0) 0 true).setBit (Reg.ENS_MPRIO 0) 8 true)
  let s := (((s.setFld (Reg.ENS_MPRIO 1) 0 9 (256 + 1)).setFld Reg.ENS_VER 0 24 0x010201).setFld Reg.ENS_STATUS 0 4 (8 + st)).setFld Reg.ENS_STATUS 5 4 0
  { s with ens := e }

/-- A frame of member 0 with sequence number 5. -/
def nelvi : NelviHeader := { port := 0, ver := 1, sender := 0, strobe := false, term := 3, ensemble := 0, seq := 5, macOk := true, stamp := 160000 }

theorem witness_EnsembleMembership :
    (let s := ens 2 { members := [(0, { lastTick := some 10000, gone := false, seq := some 4 })] }
     s.bit Reg.ENS_CFG 0 = true ∧ s.bit (Reg.ENP_CFG 0) 0 = true ∧ s.ensPorts.contains 0 = true ∧ s.pairUp 1 = true ∧ s.mode = Mode.run ∧
       s.pwr.entering = false ∧ s.regN Reg.ENS_ID = 0 ∧ s.bit (Reg.ENS_MPRIO 0) 8 = true ∧ s.fld Reg.ENS_CFG 1 4 = 1 ∧
       s.fld Reg.ENS_VER 16 8 = 1 ∧ (nelvi.seq % 65536 + 65536 - 4) % 65536 = 1 ∧ s.fld Reg.ENS_STATUS 5 4 = 0 ∧
       s.updAlive.aliveByRank.head? = some 0 ∧ s.fld Reg.ENS_VER 0 8 ≤ 1 ∧ 1 ≤ s.fld Reg.ENS_VER 8 8 ∧ 0 < s.fld Reg.ENS_VER 0 8 ∧
       s.ensUp = true ∧ s.bit (Reg.ENS_MPRIO 1) 8 = true ∧ s.portDown 0 = false) ∧
    nelvi.ensemble ≠ (ens 2 {}).regN Reg.ENS_ID + 1 ∧ ({ nelvi with ver := 2 }).ver ≠ 1 ∧
    (let s := ens 2 { members := [(0, { seq := some 5, lastTick := some 10000 })] }
     ¬(1 ≤ (5 + 65536 - 5) % 65536) ∧ ¬(10000 + 3 * (s.fld Reg.ENS_HBPER 0 16 * 1500) ≤ s.tick)) ∧
    (let s : State := { ens 2 { members := [(0, { seq := some 5, lastTick := some 0, gone := false })] } with tick := 3 * 65535 * 1500 }
     0 + 3 * (s.fld Reg.ENS_HBPER 0 16 * 1500) ≤ s.tick ∧ (s.member 0).gone = false ∧ s.ensUp = true) ∧
    (let s := (ens 3 { calReq := true }).setFld Reg.ENS_TERM 0 20 3
     s.fld Reg.ENS_STATUS 0 3 = 3 ∧ s.fld Reg.ENS_TERM 0 20 = nelvi.term % 2 ^ 20 ∧ s.ranksBefore 0 1 = true ∧
       s.updAlive.aliveByRank.head? = some 1 ∧ s.ens.calReq = true) ∧
    (let s := ens 2 {}
     s.updAlive.aliveByRank.head? = some 1 ∧ s.updAlive.claimed = false ∧ s.fld Reg.ENS_STATUS 0 3 ≠ 3) ∧
    (let l : Launch := { id := 2 ^ 32 - 1, time := 2 ^ 40, parts := [0, 1], mine := true }
     let s := ens 3 { cache := [l] }
     l.waits = true ∧ 0 ∈ l.parts ∧ s.reached (s.deadlineA l) = false) := by
  decide +kernel

theorem witness_EnsembleTimeAndPorts :
    (let s := (ens 2 { members := [(0, { gone := false })], syncT := some 159000 }).setFld (Reg.ENP_STATUS 0) 1 2 3
     s.ensUp = true ∧ s.bit (Reg.ENP_CFG 0) 0 = true ∧ s.ensPorts.contains 0 = true ∧ s.mode = Mode.run ∧ s.fld Reg.ENS_STATUS 0 3 ≠ 3 ∧
       (s.enp 0).pdAt = none ∧ ¬(0 + 1500000000 ≤ s.tick) ∧
       s.fld Reg.ENS_STATUS 0 3 < 4 ∧ s.fld Reg.ENS_STATUS 5 4 = 0 ∧ s.ensAlive 0 = true ∧ s.followPort = some 0 ∧ s.coarse = false ∧
       (s.setFld Reg.TB_CTRL 0 2 1).fld Reg.TB_CTRL 0 2 = 1 ∧ s.tbValid = true ∧ (s.setBit Reg.TB_STATUS 0 false).tbValid = false ∧
       s.pwr.refOk = true ∧ s.pwr.locked = true ∧ s.bit Reg.TB_STATUS 1 = false ∧ s.portDown 0 = false ∧ s.ens.phase = none ∧
       ({ s with ens := { s.ens with phase := some (0, 5) } } : State).ens.phase = some (0, 5) ∧
       ({ s with boot := { s.boot with apply := some { port := some 0 } } } : State).portDown 0 = true) ∧
    (ens 3 {}).fld Reg.ENS_STATUS 0 3 = 3 ∧ (ens 3 {}).ensUp = true ∧ ((ens 3 {}).enp 0).syncAt = none ∧
    (160000 + 2399) / 2400 * 2400 < (ens 3 {}).circle ∧ (live Mode.run).bit (Reg.ENP_CFG 3) 0 = false ∧
    (let f : TxFrame := { kind := 0x103, until_ := some 150000 }
     let s : State := { ens 2 {} with enps := [(0, { queue := [f], lastBeacon := some 0 })] }
     (s.enp 0).queue = [f] ∧ s.reached 150000 = true ∧ s.reached 160001 = false ∧ f.tries ≤ s.fld Reg.ENS_CFG 12 2 ∧
       (s.setFld Reg.ENS_CFG 12 2 3).fld Reg.ENS_CFG 12 2 = 3 ∧ (s.setFld (Reg.ENP_CFG 0) 1 1 1).bit (Reg.ENP_CFG 0) 1 = true ∧
       (s.setFld (Reg.ENP_CFG 0) 8 8 0).fld (Reg.ENP_CFG 0) 8 8 = 0 ∧ f.tries < (s.setFld Reg.ENS_CFG 12 2 3).fld Reg.ENS_CFG 12 2 ∧
       (s.setFld (Reg.ENP_CFG 0) 8 8 1).fld (Reg.ENP_CFG 0) 8 8 ≠ 0 ∧ 0 + 8 * s.wcyc ≤ ({ s with tick := 10 ^ 12 } : State).tick) := by
  and_intros <;> decide +kernel

/-- A launch at member 1 (`mine`: its own), TIME far enough ahead for D and A to lie ahead. -/
def launch1 (mine : Bool) : Launch := { id := 7, time := 2 ^ 40, parts := [1, 0], mine := mine }

/-- Launch queue 0 is queue 7, tenant 0's. -/
def launchers (st : Nat) (e : Ens) (x : Queue) : State :=
  let s := (ens st e).setFld (Reg.ENS_LQ 0) 0 21 (2 ^ 20 + 7)
  { slab 0 s with queues := [(7, { x with log2 := 4, tenant := 0, state := 1, ttype := 1 })], ens := e }

theorem witness_EnsembleLaunches :
    (let r : LaunchRec := { member := 1, lq := 0, hold := false, act := entry 0 1 0 0 }
     let s := launchers 2 { members := [(0, { seq := some 4 })], cache := [launch1 false] } { cls := 0 }
     s.ensUp = true ∧ s.nelviFits nelvi false = true ∧ newerSeq (s.member 0).seq 5 = true ∧ s.mode ≠ Mode.doze ∧ s.launch 7 = some (launch1 false) ∧
       s.launch 8 = none ∧ s.reached (s.deadlineD (launch1 false)) = false ∧ s.recordFits r = true ∧ s.leadFits r = true ∧
       s.recordFits { r with lq := 1 } = false ∧ s.bit Reg.ENS_STATUS 3 = true ∧ (s.setBit Reg.ENS_STATUS 3 false).bit Reg.ENS_STATUS 3 = false ∧
       s.fld Reg.ENS_TERM 0 20 ≤ 3 ∧ (s.setFld Reg.ENS_TERM 0 20 4).fld Reg.ENS_TERM 0 20 = 4 ∧
       s.atOrAfter (2 ^ 40) (s.plus s.tb.now ((s.ensGuard + s.ensBudget) * 16)) = true ∧
       s.atOrAfter 200000 (s.plus s.tb.now ((s.ensGuard + s.ensBudget) * 16)) = false ∧
       (launchers 2 {} { cls := 1, contract := some { terms with lead := 10 ^ 9 } }).leadFits r = false ∧
       (s.ensAlive 1 = true) ∧ (ens 4 {}).fld Reg.ENS_STATUS 0 3 = 4 ∧ (ens 5 {}).fld Reg.ENS_STATUS 0 3 = 5) ∧
    (let s := ens 3 { cache := [launch1 true] }
     s.launch 7 = some (launch1 true) ∧ s.fld Reg.ENS_STATUS 0 3 = 3 ∧ s.reached (s.deadlineA (launch1 true)) = false ∧
       0 ∈ (launch1 true).parts ∧ 2 ∉ (launch1 true).parts ∧ max (s.fld Reg.ENS_TERM 0 20) 3 = (3 * 4096 + 7) / 4096 ∧
       (∀ p ∈ (launch1 true).parts, p ∈ [1] ∨ p = 0) ∧ ¬(∀ p ∈ (launch1 true).parts, p ∈ ([] : List Nat) ∨ p = 0)) ∧
    (let l : Launch := { launch1 true with time := 1000, strobe := true, commit := true, recs := [{ member := 1, lq := 0, hold := false, act := entry 0 1 0 0 }] }
     let s := launchers 3 { cache := [l] } {}
     s.reached (s.deadlineA l) = true ∧ s.reached (s.deadlineD l) = true ∧ s.launch 7 = some l ∧ l.decided = none ∧ 1 ∈ l.parts ∧
       s.launchQueue 0 = some 7 ∧ s.ens.cache.find? (fun l => l.mine && l.strobe && l.commit && !l.pulsed && s.reached (s.strobeTime l)) = some l ∧
       (match s.slabWrite 0 ((s.queue 7).entryAddr 0) 16 (toEntry { entry 0 1 0 0 with time := 1000 }) 0 with | .ok _ _ => true | .bad _ _ => false) = true ∧
       l.waits = false ∧ { l with commit := false }.waits = true) ∧
    (let l : Launch := { launch1 false with strobe := true }
     let s := (ens 2 { cache := [l], calAt := some 150000 }).setFld Reg.ENS_STB 0 2 3
     let inside (p stamp : Nat) (l : Launch) := l.strobe && decide (l.decided = none) && decide ((s.sdiff stamp (s.strobeTime l) - s.strobeDelay p).natAbs ≤ 1024)
     bitAt (s.fld Reg.ENS_STB 0 2) 1 = true ∧ s.ens.cache.find? (inside 1 (s.strobeTime l + 1024)) = some l ∧
       s.ens.cache.find? (inside 1 (s.strobeTime l + 1025)) = none ∧ (s.sdiff 160000 150000).natAbs < 2 ^ 23 ∧ s.reached 150000 = true ∧
       ({ s with ens := {} } : State).ens.calAt = none) ∧
    (let s := ens 3 {}
     s.pfPage 0xC0 = true ∧ s.drainBuf 0 = s ∧ s.pageArmed 0xC0 = false) ∧
    (let b : Nat := 2 ^ 40 * 2 ^ 32 + 1 * 2 ^ 104
     let s := (slab 0 (ens 3 {})).writeMem 0x1000000 16 b
     let good := match s.readSpan 0 16 with | .ok v w => decide (v = b) && (match w.readLaunch 0 1 with | .ok recs _ => decide (recs.length = 1) | .bad _ _ => false) | .bad _ _ => false
     good = true ∧ bits b 104 8 = 1 ∧ bits b 32 60 = 2 ^ 40 ∧ bitAt b 96 = false ∧
       s.atOrAfter (2 ^ 40) (s.plus s.tb.now ((s.ensGuard + 3 * s.ensBudget) * 16)) = true ∧ (s.setFld (Reg.ENP_PLCA 0) 16 11 69).fld (Reg.ENP_PLCA 0) 16 11 < 70 ∧
       70 ≤ s.fld (Reg.ENP_PLCA 0) 16 11 ∧ s.ens.calDone = false) := by
  and_intros <;> decide +kernel

/-- R241: a frame that collided is tried again up to the retries of ENS_CFG. -/
theorem test_frame_retry : let s : State := { (ens 2 {}).setFld Reg.ENS_CFG 12 2 1 with enps := [(0, { queue := [{ kind := 1 }] })] }
    ((after (execFrameTransmit 0 .collided s)).enp 0).queue = [{ kind := 1, tries := 1 }] := by decide +kernel

/-- R236: an ACK for a PREPARE of a launch already known repeats it. -/
theorem test_prepare_again : (((after (execPrepare nelvi 7 (2 ^ 40) [] (launchers 2 { cache := [launch1 false] } {}))).enp 0).queue.map (·.kind)) = [4] := by
  decide +kernel

/-! ### The host interface -/

/-- Buffered and walked bytes compared with `decide`. -/
def okAt (w : Walk) (p : Nat) : Bool := match w with | .ok q => decide (q = p) | .bad _ _ => false
def badAt (w : Walk) (c : Nat) : Bool := match w with | .ok _ => false | .bad d _ => decide (d = c)

theorem witness_Bar2Accesses :
    (let s := (slab 511 run).writeMem 0x3C00104 4 0x1010001
     s.link.up = true ∧ s.link.vfEnable = true ∧ s.mode = Mode.run ∧ (s.fn 511).dstate = 0 ∧ s.drainBuf 511 = s ∧ s.tenPage 511 = true ∧
       okAt (s.walk 511 0xFFFF) 0x100FFFF = true ∧ okAt (s.walk 511 0x10000) 0x1010000 = true ∧ s.eccIn 0x100FFFF 256 = false ∧
       s.fullBufs = [] ∧ bufEntries (s.fn 511).buf + (256 + 63) / 64 ≤ 64 ∧ 0xFFFF + 256 ≤ 2 ^ (20 + min 6 (s.fld Reg.GLB_HOSTCFG 0 3)) ∧
       badAt (s.walk 511 0x20000) Code.slabFault = true ∧ ({ s with eccBad := [0x100FFF8 / 8] } : State).eccIn 0x100FFF8 8 = true ∧
       0x1010000 + 256 > 0x100FFFF ∧ 0x1010000 + 256 ≤ 0x2000000) ∧
    (let s := (slab 511 run).writeMem 0x3C00104 4 0x2000001
     okAt (s.walk 511 0xFFFF) 0x100FFFF = true ∧ okAt (s.walk 511 0x10000) 0x2000000 = true ∧ 0x100FFFF + 1 ≤ 0x2000000) ∧
    (let s : State := { slab 511 run with fns := [(511, { buf := List.replicate 61 (0, [none]) })] }
     s.tenPage 511 = true ∧ s.fullBufs = [] ∧ 64 < bufEntries (s.drainFull.fn 511).buf + (256 + 63) / 64) ∧
    (let s : State := { slab 511 run with fns := [(2, { buf := List.replicate 64 (0, [none]) })] }
     s.tenPage 511 = true ∧ s.fullBufs = [2] ∧ bufEntries (s.drainFull.fn 511).buf + (256 + 63) / 64 ≤ 64) ∧
    (let s := live Mode.doze
     s.arrives 511 = true ∧ s.dozing = true ∧ 0xFFFC % 4 = 0 ∧ (0xFFFC : Nat) < 0x10000) ∧
    (({ run with fns := [(511, { dstate := 1 })] } : State).fn 511).dstate = 1 ∧ run.link.vfEnable = true ∧ (run.fn 511).dstate = 0 := by
  and_intros <;> decide +kernel

theorem witness_LinkSleepAndReset :
    (let s : State := ({ run with
        vecs := [(2 * 2048 + 15, { count := 1, pba := true, masked := false })], fns := [(2, { bme := true, msixEn := true, fmask := false })], link := { up := true, l0 := true, vfEnable := true } } : State).setBit Reg.HVC_CTRL 0 true
     s.bit Reg.HVC_CTRL 0 = true ∧ s.link.l0 = true ∧ (s.fn 2).msixEn = true ∧ (s.fn 2).fmask = false ∧ (s.vec 4111).masked = false ∧
       (s.fn 2).bme = true ∧ (s.fn 2).dstate = 0 ∧ s.mode = Mode.run ∧ s.boot.hboot = none ∧ s.canonical = true ∧
       ((Tbl.keys s.vecs).filter fun k => decide (k / 2048 = 2) && (s.vec k).pba) = [4111] ∧
       ((Tbl.keys s.vecs).filter fun k => decide (k / 2048 = 3) && (s.vec k).pba) = [] ∧
       (s.countedVecs 2).filter (fun k => s.vecOpen 2 (k % 2048)) = [4111] ∧ (s.countedVecs 3).filter (fun k => s.vecOpen 3 (k % 2048)) = [] ∧
       (s.fn 2).aborting = false ∧ (s.fn 2).flr = false ∧ (s.fn 0).flr = false ∧ s.bit Reg.GLB_HOSTCFG 3 = true ∧ (s.setBit Reg.GLB_HOSTCFG 3 false).bit Reg.GLB_HOSTCFG 3 = false) ∧
    (let s : State := ({ run with
        vecs := [(4111, { count := 1, masked := false })], fns := [(2, { bme := true, msixEn := true, fmask := false, dstate := 1 })], link := { up := true, l0 := true, held := [(2, 15)], vfEnable := true } } : State).setBit Reg.HVC_CTRL 0 true
     s.link.held = [(2, 15)] ∧ (s.fn 2).dstate ≠ 0 ∧ (s.fn 2).waiting = [] ∧ s.countedVecs 2 = [4111] ∧
       (({ s with fns := [(2, { dstate := 1, waiting := [{}] })] } : State).fn 2).waiting = [{}] ∧ s.chans = [] ∧ s.dozing = false ∧ (s.fn 2).flr = false) ∧
    (let s := live Mode.doze
     s.dozing = true ∧ s.link.up = true ∧ (s.setBit Reg.PWR_WAKE 4 true).bit Reg.PWR_WAKE 4 = true ∧ s.pwr.wake = false) := by
  and_intros <;> decide +kernel

/-- Function 1's rings: 16 entries each, enabled, with two commands to fetch and a free record slot. -/
def rings (f : Fn) : State :=
  let s := ((run.setFld (Reg.TEN_CMD_SIZE 1) 0 4 4).setFld (Reg.TEN_CPL_SIZE 1) 0 4 4).setBit (Reg.TEN_RING_CTRL 1) 0 true
  { (s.setFld Reg.REL_STEWARD 0 8 255).setFld (Reg.TEN_CREDIT 1) 0 13 64 with fns := [(1, { f with bme := true, cmdTail := 2, ringed := true })] }

theorem witness_CommandRings :
    (let s := rings {}
     s.tenPage 1 = true ∧ s.drainBuf 1 = s ∧ s.bit (Reg.TEN_RING_CTRL 1) 0 = true ∧ s.mayFetchCmd 1 = true ∧ (rings {}).mayFetchCmd 2 = false ∧
       s.nextFetch = some 1 ∧ s.nextFetch ≠ some 2 ∧ s.turns.fetch = 511 ∧
       (s.setBit (Reg.TEN_RING_CTRL 1) 0 false).bit (Reg.TEN_RING_CTRL 1) 0 = false ∧
       (4 ≤ s.fld (Reg.TEN_CMD_SIZE 1) 0 4 ∧ s.fld (Reg.TEN_CMD_SIZE 1) 0 4 ≤ 12) ∧
       ¬(4 ≤ (s.setFld (Reg.TEN_CPL_SIZE 1) 0 4 3).fld (Reg.TEN_CPL_SIZE 1) 0 4) ∧
       s.fld (Reg.TEN_CPL_TAIL 1) 0 12 = s.fld (Reg.TEN_CPL_HEAD 1) 0 12) ∧
    (let s := rings { hist := [{ seq := 5, opcode := 0 }, { seq := 6, opcode := 0, cpl := some {} }] }
     let seen (q : Nat) := (s.fn 1).hist.find? fun h => decide (h.seq = q)
     let back (q : Nat) := (s.fld (Reg.TEN_SEQ 1) 0 16 + 65536 - q) % 65536
     seen 5 = some { seq := 5, opcode := 0 } ∧ seen 6 = some { seq := 6, opcode := 0, cpl := some {} } ∧ seen 7 = none ∧ s.nextFetch = some 1 ∧
       (1 ≤ back 65535 ∧ back 65535 ≤ 32767) ∧ ¬(1 ≤ back 0) ∧ back 1 = 65535 ∧ (s.fn 1).hist ≠ []) ∧
    ({ tag := 0, opcode := 0xFF } : Cmd).refused 1 = true ∧ ({ tag := 4095, opcode := 0 } : Cmd).refused 1 = false ∧
    (let s := rings { waiting := [{}] }
     (s.fn 1).waiting = [{}] ∧ (s.fn 1).bme = true ∧ (s.fn 1).dstate = 0 ∧ s.link.up = true ∧
       (s.fld (Reg.TEN_CPL_TAIL 1) 0 12 + 1) % 16 ≠ s.fld (Reg.TEN_CPL_HEAD 1) 0 12 % 16 ∧
       (s.setFld (Reg.TEN_CPL_TAIL 1) 0 12 15).fld (Reg.TEN_CPL_TAIL 1) 0 12 = 15) := by
  and_intros <;> decide +kernel

theorem witness_FailedFetchHaltsTheRing :
    let s := rings { waiting := [{}] }
    s.nextFetch = some 1 ∧ s.tenPage 1 = true ∧ (s.fn 1).waiting = [{}] ∧
      (s.fld (Reg.TEN_CPL_TAIL 1) 0 12 + 1) % 2 ^ s.fld (Reg.TEN_CPL_SIZE 1) 0 4 ≠
        s.fld (Reg.TEN_CPL_HEAD 1) 0 12 % 2 ^ s.fld (Reg.TEN_CPL_SIZE 1) 0 4 ∧
      s.fld (Reg.TEN_CMD_SIZE 1) 0 4 = 4 ∧ s.fld (Reg.TEN_CPL_SIZE 1) 0 4 = 4 := by
  decide +kernel

theorem witness_AbortSequence :
    (let s := rings {}
     let v := 0x4A42 * 65536 + 1
     s.tenPage 1 = true ∧ bitAt v 0 = true ∧ bits v 16 16 = 0x4A42 ∧ bits (v - 65536) 16 16 ≠ 0x4A42) ∧
    (let s : State := { rings { inflight := [{ tag := 9, seq := 1 }] } with
        queues := [(1048575, { state := 1, tenant := 1, ttype := 1 })], ctxs := [(2303, { st := .run, tenant := 1 }), (0, { st := .run, tenant := 2 })],
        cuffs := [(1023, { owner := 1 })], flags := [(2303, { owner := some 1, set := true })] }
     s.tenPage 1 = true ∧ (s.queue 1048575).state ≠ QState.free ∧ (s.queue 1048575).tenant = 1 ∧ (s.ctx 2303).st ≠ .free ∧ (s.ctx 2303).tenant = 1 ∧
       (s.ctx 0).tenant ≠ 1 ∧ (s.cuff 1023).owner = 1 ∧ (s.flag 2303).owner = some 1 ∧ (∀ e ∈ s.fns, 9 ∉ e.2.abortTags) ∧ s.upd = none) ∧
    (let a (f : Fn) := ({ f with aborting := true, abortHeld := false, abortCut := false } : Fn)
     (a { abortTags := [], flr := false }).abortTags = [] ∧ ((rings (a {})).setBit (Reg.TEN_RING_CTRL 1) 0 false).bit (Reg.TEN_RING_CTRL 1) 0 = false ∧
       (rings (a {})).cplFree 1 = true ∧ ((rings (a {})).setFld (Reg.TEN_CPL_TAIL 1) 0 12 15).cplFree 1 = false ∧
       ((rings (a {})).setBit (Reg.TEN_RING_STAT 1) 2 true).bit (Reg.TEN_RING_STAT 1) 2 = true ∧
       (rings (a {})).bit (Reg.TEN_RING_CTRL 1) 0 = true ∧ ((rings (a { flr := true })).fn 1).flr = true ∧ ((rings (a {})).fn 1).aborting = true) ∧
    ((live Mode.doze).arrives 1 = true ∧ (live Mode.doze).dozing = true ∧ (live Mode.doze).pwr.wake = false) ∧
    (let s : State := { run with fns := [(0, { inflight := [{ tag := 9, opcode := 0x62 }] }), (511, { aborting := true, abortTags := [9] })] }
     (s.fn 511).abortTags = [9] ∧ (s.fn 0).flr = false ∧ s.bit (Reg.TEN_RING_CTRL 511) 0 = false ∧
       (s.fn 0).inflight.find? (fun x => decide (x.tag = 9)) = some { tag := 9, opcode := 0x62 }) := by
  and_intros <;> decide +kernel

/-- R250: a host read past the write buffer sees its bytes. -/
theorem test_bar2_read_own_write :
    (after (execBar2Read 1 2 (.bytes 2) (after (execBar2Write 1 2 [some 0x34, some 0x12] (slab 1 run))))).out = [.readBytes 1 [0x34, 0x12]] := by
  decide +kernel

/-- R258: a fetch that fails halts the ring with its head unmoved. -/
theorem test_failed_fetch : let t := after (execCommandFetch 1 none (rings {}))
    t.fld (Reg.TEN_CMD_HEAD 1) 0 12 = 0 ∧ t.bit (Reg.TEN_RING_STAT 1) 3 = true := by decide +kernel

/-! ### Interrupts -/

/-- Source 24 (function 1, local 0) enabled, pending as told, routed to vector 15 with its mask clear. -/
def vectors (f : Fn) (x : Vec) : State :=
  let s := ((run.setBit Reg.HVC_CTRL 0 true).setBit (Reg.HVC_EN 0) 24 true).setFld (Reg.TEN_VMOD 1 15) 0 8 2
  { s with fns := [(1, { f with bme := true, msixEn := true, fmask := false })], vecs := [(2063, { x with masked := false })],
           srcs := [(24, { func := 1, vec := 15 })] }

theorem witness_InterruptEvents :
    srcNamed 0x3FFE = false ∧ srcNamed 24 = true ∧
    (let s := vectors {} { count := 1 }
     s.srcEn 24 = true ∧ (s.src 24).stw = false ∧ (s.src 24).func = 1 ∧ (s.src 24).vec = 15 ∧ (s.fn 1).dstate = 0 ∧ s.link.up = true ∧
       max 1 (s.fld (Reg.TEN_VMOD 1 15) 0 8) ≤ min 255 ((s.vec 2063).count + 1) ∧ s.bit Reg.HVC_CTRL 0 = true ∧ (s.vec 2063).masked = false ∧
       (s.setBit (Reg.HVC_EN 0) 24 false).srcEn 24 = false ∧ s.tenPage 1 = true ∧ s.drainBuf 1 = s ∧ s.link.l0 = true ∧
       (({ s with link := { s.link with l0 := false } } : State).link.l0 = false)) ∧
    min 255 (((vectors {} {}).vec 2063).count + 1) < max 1 ((vectors {} {}).fld (Reg.TEN_VMOD 1 15) 0 8) ∧
    ((vectors { dstate := 2, pmeEn := true } {}).fn 1).dstate = 2 ∧ ({ run with srcs := [(24, { stw := true })] } : State).srcEn 24 = false ∧
    ((({ run with srcs := [(24, { stw := true })] } : State).setBit (Reg.HVC_EN 0) 24 true).src 24).stw = true ∧
    (let s := (vectors {} { count := 1, start := some 0 }).setFld (Reg.TEN_VMOD 1 15) 8 16 1
     ∃ t0, ((vectors {} { count := 1, start := some 0 }).vec 2063).start = some t0 ∧ t0 + s.fld (Reg.TEN_VMOD 1 15) 8 16 * 1500 ≤ s.tick) ∧
    2 ≤ ((vectors {} { count := 2 }).vec 2063).count ∧
    (let s : State := { (vectors {} {}).setBit (Reg.HVC_EN 0) 24 false with srcs := [(24, { func := 1, cold := true })] }
     let t := s.setBit (Reg.HVC_PEND 0) 24 true
     t.srcPend 24 = true ∧ t.srcEn 24 = false ∧ (t.src 24).cold = true) ∧
    (let s : State := { run with srcs := [(0x3400, { func := 511, cold := true })] }
     let t := s.setBit (Reg.HVC_PEND (0x3400 / 32)) 0 true
     srcNamed 0x3400 = true ∧ (t.src 0x3400).func = 511 ∧ (t.src 0x3400).stw = false ∧ t.srcPend 0x3400 = true ∧ t.srcEn 0x3400 = false ∧
       t.tenPage 511 = true) := by
  decide +kernel

/-- Source 0x3448 of core 3, enabled, pending, and of priority 9. -/
def claims (sts : Tbl (List (Nat × Nat))) : State :=
  let s := ((run.setBit Reg.HVC_CTRL 0 true).setBit (Reg.HVC_EN (0x3448 / 32)) (0x3448 % 32) true).setBit (Reg.HVC_PEND (0x3448 / 32)) (0x3448 % 32) true
  { s with srcs := [(0x3448, { stw := true, core := 3, prio := 9 })], coreStacks := sts }

/-- No source but 0x3448 is pending there, and none in RUN. -/
theorem claims_pend (j : Nat) (hj : j < 0x4000) (hn : j ≠ 0x3448) : (claims [(3, [(1, 8)])]).srcPend j = false := by
  have h : ∀ w < 512, (claims [(3, [(1, 8)])]).regN (Reg.HVC_PEND w) = if w = 418 then 256 else 0 := by decide +kernel
  have b : ∀ r < 32, r ≠ 8 → bitAt 256 r = false := by decide
  unfold State.srcPend State.bit
  rw [h _ (by omega)]
  split
  · exact b _ (by omega) (by omega)
  · simp [bitAt]

theorem run_pend (j : Nat) (hj : j < 0x4000) : run.srcPend j = false := by
  have h : ∀ w < 512, run.regN (Reg.HVC_PEND w) = 0 := by decide +kernel
  unfold State.srcPend State.bit
  rw [h _ (by omega)]
  simp [bitAt]

theorem witness_RoutesAndClaims :
    (let s := claims [(3, [(1, 8)])]
     s.mode = Mode.run ∧ s.srcPend 0x3448 = true ∧ s.srcEn 0x3448 = true ∧ (s.src 0x3448).stw = true ∧ (s.src 0x3448).core = 3 ∧
       8 + s.fld Reg.HVC_MARGIN 0 8 < (s.src 0x3448).prio ∧ (s.stack 3).length < 16) ∧ 16 ≤ ((claims [(3, List.replicate 16 (1, 8))]).stack 3).length ∧
    (let s := (run.setFld Reg.HVC_SSEL 0 14 0x3400)
     s.pfPage 0xA0 = true ∧ s.drainBuf 0 = s ∧ s.fld Reg.HVC_SSEL 0 14 = 0x3400 ∧ srcNamed 0x3400 = true ∧ 0 < s.quotaOf 0 8 ∧ (s.src 0x3400).stw = false ∧
       s.coreStacks = [] ∧ ¬(s.srcPend 0x3400 = true ∧ s.srcEn 0x3400 = true)) ∧
    (let s := ((run.setFld Reg.HVC_SSEL 0 14 0x3400).setBit (Reg.HVC_EN (0x3400 / 32)) 0 true).setBit (Reg.HVC_PEND (0x3400 / 32)) 0 true
     s.srcPend 0x3400 = true ∧ s.srcEn 0x3400 = true ∧ s.fld Reg.HVC_SSEL 0 14 = 0x3400) ∧
    (claims [(3, [(1, 8)])]).coreStacks ≠ [] ∧ (run.setFld Reg.HVC_SSEL 0 14 0x3FFE).fld Reg.HVC_SSEL 0 14 = 0x3FFE := by
  decide +kernel

theorem witness_CompletionOfService :
    (let s := claims [(3, [(0x3448, 9), (2, 8)])]
     s.mode = Mode.run ∧ (∃ x ∈ s.stack 3, x.1 = 2) ∧ (¬∃ x ∈ s.stack 3, x.1 = 4) ∧ (s.stack 3).head? = some (0x3448, 9) ∧
       s.bit Reg.HVC_CTRL 1 = true ∧ (s.setBit Reg.HVC_CTRL 1 false).bit Reg.HVC_CTRL 1 = false ∧ s.tb.now < 2 ^ 60 ∧
       (s.setFld Reg.REL_STEWARD 0 8 255).pairUp 1 = true) := by
  decide +kernel

/-- R285: a claim takes the most urgent source and clears its pending bit. -/
theorem test_claim : let t := after (execHvcClaim 3 (claims []))
    t.stack 3 = [(0x3448, 9)] ∧ t.srcPend 0x3448 = false ∧ t.out = [.readData 0 0x3448] := by decide +kernel

/-- R286: completing a source on top of the stack pops it. -/
theorem test_complete : (after (execHvcComplete 3 0x3448 (claims [(3, [(0x3448, 9)])]))).stack 3 = [] := by decide +kernel

/-! ### The commands of the rings -/

/-- Function n has command 7 in flight, with an opcode and PARAM. -/
def cmd (n op p : Nat) (s : State) : State :=
  { s.setFld Reg.REL_STEWARD 0 8 255 with fns := [(n, { bme := true, inflight := [{ tag := 7, opcode := op, param := p }] })] }

/-- That command runs now. -/
def starts (n op p : Nat) (s : State) : Bool :=
  decide ((cmd n op p s).ready 7 op (fun _ => true) = some (n, { tag := 7, opcode := op, param := p }))

/-- PARAM of QUEUE_CREATE: BASE, LOG2, TTYPE, TARGET, LATE. -/
def create (base k ttype target late : Nat) : Nat := base + k * 2 ^ 32 + ttype * 2 ^ 40 + target * 2 ^ 48 + late * 2 ^ 64

/-- PARAM of QUEUE_ADMIT: queue, CLASS, BURST, LEAD, RATE. -/
def admitWord (q cls b lead rate : Nat) : Nat := q + cls * 2 ^ 32 + b * 2 ^ 36 + lead * 2 ^ 40 + rate * 2 ^ 64

/-- Function 1 may own 8 queues and 10 kilo-actions a second. -/
def granted (s : State) : State := { s with quota := [(quotaKey 1 0, 8), (quotaKey 1 9, 10)] }

/-- Queue 7 of tenant 1, to a target. -/
def queue7 (x : Queue) : State := granted { run with queues := [(7, { x with tenant := 1 })] }

theorem witness_QueueCommands :
    starts 0 0x00 0 run = true ∧ (cmd 0 0x01 0 run).ready 7 0x00 (fun _ => true) = none ∧
    (let p := create (2 ^ 26 - 64) 2 1 0 1
     let s := granted { run with cuffs := [(0, { alloc := true, owner := 1 })] }
     starts 1 0x10 p s = true ∧ bits p 0 32 % (16 * 2 ^ 2) = 0 ∧ bits p 32 8 = 2 ∧ bits p 40 3 = 1 ∧ bits p 48 12 = 0 ∧ bits p 64 2 = 1 ∧
       s.bindCode 1 1 0 = Code.ok ∧ s.quotaFits 1 0 1 = true ∧ run.quotaFits 1 0 1 = false ∧ run.bindCode 1 1 1 = Code.rejectQuota ∧
       s.queues.Pairwise (fun a b => a.1 < b.1) ∧ starts 1 0x10 (create 0 1 1 0 1) s = true ∧ starts 1 0x10 (create 0 16 0 0 3) s = true ∧
       starts 1 0x10 (p + 2 ^ 127) s = true) ∧
    (let s := queue7 { state := 1, ttype := 1 }
     starts 1 0x11 7 s = true ∧ starts 0 0x11 7 s = true ∧ s.loggedTo 7 = false ∧
       ({ s with queues := s.queues ++ [(8, { state := 1, logen := true, logq := 7 })] } : State).loggedTo 7 = true ∧
       (∀ sub < 4, (cmd 1 0x12 (7 + sub * 2 ^ 32) s).ready 7 0x12 (fun p => decide (bits p 32 2 = sub)) =
         some (1, { tag := 7, opcode := 0x12, param := 7 + sub * 2 ^ 32 })) ∧
       (s.queue 7).state ≠ QState.flushing ∧ ((queue7 { state := 1, ttype := 3 }).queue 7).ttype ≠ 2) ∧
    (let p := admitWord 7 1 1 12000 10000
     let s := queue7 { state := 1, ttype := 1, log2 := 4 }
     let u := s.releaseContract 7
     starts 1 0x13 p s = true ∧ u.aloneAt 7 1 (s.queue 7).takes = true ∧ u.lentTarget (s.queue 7) = false ∧ u.heldTarget (s.queue 7) = false ∧
       u.tenantRate 1 + 10000 ≤ u.quotaOf 1 9 * 1000 ∧ u.tenantRate 1 + 10001 > u.quotaOf 1 9 * 1000 ∧
       u.devRate + 10000 ≤ 5000000000 ∧ u.devBurst + 1 ≤ 3 * ((s.setFld Reg.SCH_CTRL 0 11 192).dlead - 64) ∧ u.reservedRefs + (s.queue 7).credits ≤ 786432 ∧
       starts 1 0x13 (admitWord 7 3 1 12000 1) s = true ∧ starts 1 0x13 (admitWord 7 0 1 0 1) s = true ∧
       starts 1 0x13 p (queue7 { state := 1, ttype := 0 }) = true ∧ starts 1 0x13 p (queue7 { state := 1, tail := 1, ttype := 1 }) = true) ∧
    starts 0 0x13 (admitWord 7 1 8 16777215 375000001) { run with queues := [(7, { state := 1, ttype := 2 })] } = true ∧
    (let p := admitWord 7 2 8 12000 10000
     let s := (queue7 { state := 1, ttype := 1, log2 := 4 }).setFld Reg.SCH_CTRL 0 11 192
     let u := s.releaseContract 7
     starts 1 0x13 p s = true ∧ u.aloneAt 7 2 (s.queue 7).takes = true ∧ 128 ≤ s.dlead ∧ u.devBurst + 24 ≤ 3 * (s.dlead - 64) ∧
       3 ≤ ((List.range 9).filter fun y => decide (y < 9 ∧ s.spareTray ≠ y ∧ s.bit Reg.ADM_GUARD (13 + y) = false ∧
         s.bit Reg.ADM_GUARD (4 + y) = false ∧ u.trayRate y + 10000 ≤ 750000000)).length) ∧
    (let s : State := { (queue7 { state := 1, ttype := 5, target := 0 }).setFld Reg.SCH_CTRL 0 11 192 with
       ctxs := [(0, { st := .idle, tenant := 1 }), (256, { st := .idle, tenant := 1 }), (512, { st := .idle, tenant := 1 })] }
     let u := s.releaseContract 7
     starts 1 0x13 (admitWord 7 2 1 12000 10000) s = true ∧ s.physOf 0 = 0 ∧
       2 ≤ ((u.twins { q := 7, cls := 2, burst := 1, lead := 12000, rate := 10000 } (s.queue 7)).filter fun y => decide (y ≠ 0 ∧ y < 9)).length) := by
  decide +kernel

/-- Tenant 1 holds context 2303, cuff 1016 up, engine 127, port 63, channel 31 and flag 239. -/
def held1 : State :=
  { run with ctxs := [(2303, { st := .idle, tenant := 1 })], flags := [(239, { owner := some 1 })],
             cuffs := (List.range 8).map fun i => (1016 + i, { alloc := true, owner := 1 }),
             pios := [(127, { alloc := true, owner := 1 })], ports := [(63, { alloc := true, owner := 1 })],
             chans := [(31, { alloc := true, owner := 1 })], units := [(8 * 32 + 31, some 1)] }

/-- PARAM of PIN_LEND: kind, unit, base, count, mode, engine. -/
def lend (kind u base count mode eng : Nat) : Nat := kind + u * 2 ^ 8 + base * 2 ^ 16 + count * 2 ^ 26 + mode * 2 ^ 32 + eng * 2 ^ 40

theorem witness_ResourceCommands :
    (let p := 0x10000 + 2 ^ 32
     let s : State := { slab 1 run with quota := [(quotaKey 1 1, 1)] }
     starts 1 0x20 p s = true ∧ s.pageMapped 1 0x10000 = false ∧ s.quotaFits 1 1 1 = true ∧ (slab 1 run).quotaFits 1 1 1 = false ∧
       1 ≤ (s.freeFrames false).length ∧ s.l1Of 1 = some 0x3C00000 ∧ bitAt (s.readMem 0x3C00000 4) 0 = true ∧ s.pageMapped 1 0 = true ∧
       starts 1 0x20 0 s = true) ∧
    (let s := slab 1 run
     starts 1 0x21 (2 ^ 32) s = true ∧ s.queueIn 1 0 65536 = false ∧ s.chanIn 1 0 65536 = false ∧ s.pageMapped 1 0 = true ∧
       s.entryPlace 1 0 = some 0x3C00100 ∧ s.pageMapped 1 0x20000 = false) ∧
    (let s : State := { held1 with quota := [(quotaKey 1 2, 9), (quotaKey 1 7, 1)] }
     starts 1 0x30 (1 + 3 * 2 ^ 32) s = true ∧ kindHas 1 3 = true ∧ s.holder 1 3 = none ∧ s.quotaFits 1 2 1 = true ∧ s.quotaFits 1 7 1 = false ∧
       s.holder 1 1016 = some 1 ∧ kindHas 6 239 = true ∧ kindHas 6 240 = false ∧ s.holder 6 238 = none ∧ starts 1 0x30 (6 + 0xFFFF * 2 ^ 32) s = true ∧
       starts 1 0x30 7 s = true ∧ starts 2 0x30 (5 + 31 * 2 ^ 32) s = true) ∧
    (∀ j < 32, ({ run with chans := (List.range 32).map fun i => (i, { alloc := true, owner := 2 }) } : State).holder 5 j ≠ none) ∧
    (let s := held1
     starts 1 0x31 (1 + 1023 * 2 ^ 32) s = true ∧ s.queueTargets 1 1023 = false ∧ s.grantTargets 1 1023 = false ∧ (s.cuff 1023).lent = .none ∧
       starts 2 0x31 (2 + 2303 * 2 ^ 32) s = true ∧ s.holder 2 2303 = some 1 ∧
       ({ s with queues := [(7, { state := 1, ttype := 1, target := 1023 })] } : State).queueTargets 1 1023 = true) ∧
    (let s := held1
     let free (x : Nat) : Bool := s.ownsCuff 1 x && !s.queueTargets 1 x && !s.grantTargets 1 x && !s.pairEn (x / 2) &&
       decide (s.cuffMode x ≠ 1) && decide ((s.cuff x).lent = .none)
     starts 1 0x32 (lend 3 127 1016 8 0 0) s = true ∧ (∀ i < 8, free (1016 + i) = true) ∧ (s.pio 127).count = 0 ∧ (s.pio 127).forPort = none ∧
       starts 1 0x32 (lend 4 63 1016 8 3 127) s = true ∧ starts 1 0x32 (lend 4 63 1016 6 1 0) s = true ∧ starts 1 0x32 (lend 4 63 1016 4 2 0) s = true ∧
       starts 1 0x32 (lend 4 63 1017 4 2 0) s = true ∧ starts 1 0x32 (lend 3 127 1020 8 0 0) s = true ∧ s.ownsCuff 1 1015 = false ∧
       starts 1 0x32 (lend 5 0 0 0 0 0) s = true ∧ starts 1 0x32 (lend 3 127 0 0 0 0) s = true ∧
       starts 1 0x32 (lend 4 63 0 0 0 0) { s with ports := [(63, { alloc := true, owner := 1, base := 1016, count := 4 })] } = true ∧
       s.bit (Reg.SLV_STATUS (1016 / 32)) 0 = false ∧
       (let u := s.setFld (Reg.SLV_STATUS 31) 0 2 3
        starts 1 0x32 (lend 4 63 1016 6 1 0) u = true ∧ u.bit (Reg.SLV_STATUS (1016 / 32)) 0 = true) ∧
       (({ s with pios := [(127, { alloc := true, owner := 1, forPort := some 63 })] } : State).pio 127).forPort ≠ none) ∧
    (let p := 2303 + 7 * 2 ^ 12 + 1 * 2 ^ 16 + 1023 * 2 ^ 20 + 1 * 2 ^ 32
     starts 1 0x33 p held1 = true ∧ held1.bindCode 1 1 1023 = Code.ok ∧ held1.bindCode 1 1 0 = Code.rejectQuota ∧ bits p 12 3 = 7 ∧
       held1.guardedPath 2303 1 0 = false ∧ starts 1 0x33 2303 held1 = true ∧ starts 1 0x33 (2303 + 5 * 2 ^ 16) held1 = true ∧
       (let s : State := { held1 with queues := [(7, { state := 1, tenant := 1 })] }
        starts 1 0x33 (p + 2 ^ 34 + 7 * 2 ^ 44) s = true ∧ (s.queue 7).ttype = 0)) ∧
    (let p := 239 + 2 ^ 16
     starts 1 0x34 p held1 = true ∧ bitList 256 (bits p 64 256) = [] ∧ starts 1 0x34 (p + 2 ^ 64) held1 = true ∧ held1.holder 2 0 ≠ some 1) ∧
    (let p := 2303 + 0x3F08 * 2 ^ 32
     starts 1 0x35 p held1 = true ∧ (held1.ctx 2303).st = .idle ∧ held1.unitOwner (held1.trayNum 2303) ((0x3F08 - 0x2000) / 256) = some 1 ∧
       starts 1 0x35 (p - 2 ^ 32) held1 = true) := by
  and_intros <;> decide +kernel

/-- A page of that map can be added. -/
theorem witness_mapPages : ∃ u, (slab 1 run).mapPages 1 0x10000 false 1 = some u := by
  obtain ⟨f, hf, -⟩ := pickOf_some (slab 1 run).fresh ((slab 1 run).freeFrames false) (by decide +kernel)
  have h1 : (slab 1 run).l1Of 1 = some 0x3C00000 := by decide +kernel
  have h2 : bitAt ((slab 1 run).readMem 0x3C00000 4) 0 = true := by decide +kernel
  have h3 : (slab 1 run).entryPlace 1 0x10000 = some 0x3C00104 := by decide +kernel
  have h4 : (slab 1 run).withL2 1 0x10000 = some (slab 1 run) := by
    simp only [State.withL2, h1]
    rw [if_pos (by exact h2)]
  have h5 : (slab 1 run).withL1 1 = some (slab 1 run) := by simp only [State.withL1, h1]
  exact ⟨_, by simp [State.mapPages, State.mapPage, h5, h4, h3, hf]; rfl⟩

/-- An image of one unit whose words are all 0: its header, with the CRC-32 of 2,048 zero bytes, and its words. -/
def head1 : List Nat := [0x50, 0x52, 0x47, 0x39, 1, 0, 1, 0] ++ List.replicate 8 0 ++ [0x9E, 0xBA, 0xE8, 0xF1] ++ List.replicate 44 0
def image1 : List Nat := head1 ++ List.replicate 2048 0

theorem group_zero (k : Nat) : groupLE 8 k (List.replicate (k * 8) 0) = List.replicate k 0 := by
  induction k with
  | zero => rfl
  | succ k ih =>
    have e : (k + 1) * 8 = k * 8 + 8 := by omega
    rw [e]
    simp only [groupLE, List.take_replicate, List.drop_replicate]
    rw [Nat.min_eq_left (by omega), show k * 8 + 8 - 8 = k * 8 by omega, ih]
    rfl

theorem crc_zero (k c d : Nat) (h : (List.range k).foldl (fun c _ => crcByte c 0) c = d) : (List.replicate k 0).foldl crcByte c = d := by
  rw [← h]
  clear h
  induction k with
  | zero => rfl
  | succ k ih => rw [List.replicate_succ', List.range_succ, List.foldl_append, List.foldl_append, ih]; rfl

theorem crc32_def (bs : List Nat) : crc32 bs = Nat.xor (bs.foldl crcByte 0xFFFFFFFF) 0xFFFFFFFF := rfl

theorem crc_block : crc32 (List.replicate 2048 0) = 0xF1E8BA9E := by
  have e : ∀ z, z = List.replicate 128 (0 : Nat) → List.replicate 2048 0 =
      ((((((((((((((z ++ z) ++ z) ++ z) ++ z) ++ z) ++ z) ++ z) ++ z) ++ z) ++ z) ++ z) ++ z) ++ z) ++ z) ++ z := by
    rintro z rfl
    simp only [List.replicate_append_replicate]
  rw [e _ rfl, crc32_def]
  simp only [List.foldl_append]
  rw [crc_zero 128 0xffffffff 0x3d570562 (by decide +kernel), crc_zero 128 0x3d570562 0xf2697aa7 (by decide +kernel),
    crc_zero 128 0xf2697aa7 0x77452eb8 (by decide +kernel), crc_zero 128 0x77452eb8 0x4d558a87 (by decide +kernel),
    crc_zero 128 0x4d558a87 0xb488e925 (by decide +kernel), crc_zero 128 0xb488e925 0xa5f0bea (by decide +kernel),
    crc_zero 128 0xa5f0bea 0xadc28140 (by decide +kernel), crc_zero 128 0xadc28140 0x104a50d1 (by decide +kernel),
    crc_zero 128 0x104a50d1 0x5ea3a7cf (by decide +kernel), crc_zero 128 0x5ea3a7cf 0x33c629a (by decide +kernel),
    crc_zero 128 0x33c629a 0xcf58d1a8 (by decide +kernel), crc_zero 128 0xcf58d1a8 0x93e31e81 (by decide +kernel),
    crc_zero 128 0x93e31e81 0x40106a3f (by decide +kernel), crc_zero 128 0x40106a3f 0x81c49ef7 (by decide +kernel),
    crc_zero 128 0x81c49ef7 0xd548cbd4 (by decide +kernel), crc_zero 128 0xd548cbd4 0xe174561 (by decide +kernel)]
  decide

theorem image1_drop (n : Nat) (h : n ≤ 64) : image1.drop n = head1.drop n ++ List.replicate 2048 0 := by
  have : head1.length = 64 := by decide
  unfold image1
  rw [List.drop_append_of_le_length (by omega)]

theorem image1_hdr (off n : Nat) (h : off + n ≤ 64) : Sys2Proof.Machine.hdr image1 off n = ofBytesLE ((head1.drop off).take n) := by
  have : head1.length = 64 := by decide
  unfold Sys2Proof.Machine.hdr
  rw [image1_drop off (by omega), List.take_append_of_le_length (by simp; omega)]

/-- R174, R175: the image is sound and holds 256 words of 0. -/
theorem test_image : imageOf image1 = some { units := 1, words := List.replicate 256 0 } ∧ imageOf head1 = none := by
  have l : image1.length = 2112 := by
    have : head1.length = 64 := by decide
    unfold image1
    rw [List.length_append, this, List.length_replicate]
  have d : image1.drop 64 = List.replicate 2048 0 := by rw [image1_drop 64 (by omega)]; rfl
  have hu : Sys2Proof.Machine.hdr image1 6 2 = 1 := by rw [image1_hdr _ _ (by omega)]; decide +kernel
  have b : bodyOf image1 = { units := 1, words := List.replicate 256 0 } := by
    unfold bodyOf
    simp only [hu, d]
    rw [image1_hdr _ _ (by omega), image1_hdr _ _ (by omega), group_zero]
    decide +kernel
  have f : headerFits image1 = true := by
    unfold headerFits
    simp only [hu, d, crc_block, l]
    rw [image1_hdr _ _ (by omega), image1_hdr _ _ (by omega), image1_hdr _ _ (by omega), image1_hdr _ _ (by omega), image1_hdr _ _ (by omega)]
    decide +kernel
  refine ⟨?_, by decide +kernel⟩
  unfold imageOf
  rw [f, b]
  have w : ({ units := 1, words := List.replicate 256 0 } : Image).wordsFit = true := by decide +kernel
  rw [w]
  rfl

theorem witness_FirmwareCommands :
    (let p := 0x1F + 2 ^ 16 * 1 + 0x3FC * 2 ^ 64 + 5 * 2 ^ 96
     starts 0 0x40 p run = true ∧ blockOf 0x1F ≠ none ∧ run.regN (Reg.PG_OWNER 0x1F) = 0 ∧ 0x1F * 0x4000 + 0x3FC < 0x1FF0000 ∧ run.pfPage 0x1F = true ∧
       ((cmd 0 0x40 p run).fn 0).buf = [] ∧ (cmd 0 0x40 p run).fullBufs = [] ∧ rowOf (0x1F * 0x1000 + 0x3FC) = none ∧
       (∀ w ∈ cfgPairs (8 + 2 ^ 16 + 0x44 * 2 ^ 64), w.1 % 4 = 0 ∧ w.1 ≠ 0x20 ∧ (rowOf (8 * 0x1000 + w.1)).map (·.rws) = some 0) ∧
       (rowOf (0x2F * 0x1000 + Reg.CUF_CFG 1023 % 0x1000)).any (fun r => decide (r.rws ≠ 0)) = true ∧ starts 0 0x40 (p + 1 * 2 ^ 64) run = true ∧ starts 0 0x40 (p + 5 * 2 ^ 16) run = true) ∧
    (let s := held1
     starts 1 0x40 (0x2F + 5 * 2 ^ 16) s = true ∧ s.regOwner 0x2F 0x400 = none ∧ s.regOwner 0x2F 0xFFC = some 1 ∧ blockOf 7 = none) ∧
    (let s := (run.setStaged (Reg.CUF_CFG 1023) 1)
     starts 0 0x41 (0x2F + 2 ^ 16 + 400000 * 2 ^ 64) s = true ∧ s.pageArmed 0x2F = false ∧ s.groupOf 0x2F = none ∧
       s.atOrAfter 400000 (s.plus s.tb.now (96 * 16)) = true ∧ s.atOrAfter 161535 (s.plus s.tb.now (96 * 16)) = false ∧
       starts 0 0x41 0x2F s = true ∧ ensPage 0x2F = false ∧ s.canonical = true ∧ plainPage 8 = true ∧ starts 0 0x41 8 s = true ∧ tenantPage 0x2F = true ∧
       starts 1 0x41 2 s = true ∧ tenantPage 2 = false ∧ s.dirtyKeys 0x2F = [Reg.CUF_CFG 1023] ∧ s.regOwner 0x2F (Reg.CUF_CFG 1023 % 0x1000) ≠ some 1 ∧
       ({ s with pages := [(0x2F, { armed := .timed 5 })] } : State).pageArmed 0x2F = true) ∧
    (let p := 2112 * 2 ^ 64 + 255 * 2 ^ 96
     let s : State := { run with quota := [(quotaKey 1 4, 8)] }
     starts 1 0x50 p s = true ∧ bits p 64 32 = 2112 ∧
       namedTrays p = List.range 8 ∧ s.quotaFits 1 4 8 = true ∧ run.quotaFits 1 4 8 = false ∧ (∀ l ∈ namedTrays p, ¬s.baseOf l < 0) ∧
       1 ≤ ((List.range 32).filter fun u => decide (∀ l ∈ namedTrays p, s.unitOwner l u = none)).length ∧
       ((cmd 1 0x50 p s).fn 1).bme = true) ∧
    (let p := 2 ^ 31 + 128 * 2 ^ 96
     let s : State := { run with units := [(7 * 32 + 31, some 1)] }
     starts 1 0x51 p s = true ∧ bitList 32 (bits p 0 32) = [31] ∧ namedTrays p = [7] ∧ s.unitOwner 7 31 = some 1 ∧ s.unitsBusy 1 [7] [31] = false ∧
       ({ s with ctxs := [(7 * 256, { st := .run, tenant := 1, home := some 31 })] } : State).unitsBusy 1 [7] [31] = true) ∧
    (let p := 2112 * 2 ^ 64 + 128 * 2 ^ 96 + 2 ^ 31 * 2 ^ 128
     let s : State := { run with units := [(7 * 32 + 31, some 1)] }
     starts 1 0x52 p s = true ∧ s.upd = none ∧ s.spareTray < 9 ∧ s.rebuilding = false ∧ s.guardedIn [7] [31] = false ∧
       (namedTrays p).head? = some 7 ∧ bitList 32 (bits p 128 32) = [31] ∧ (live Mode.degraded).mode = Mode.degraded) ∧
    (let s : State := { run with units := [(7 * 32 + 31, some 1)] }
     let x : Image := { units := 1, words := List.replicate 256 0 }
     s.resumesOver [7] (2 ^ 31) (x.placed (2 ^ 31)) = true) ∧
    (let p := 511 + 2 * 2 ^ 32 + 1024 * 2 ^ 64
     starts 0 0x60 p run = true ∧ run.useOf 511 2 ≤ 1024 ∧ run.grants 2 - run.grant 511 2 + 1024 + run.useOf 0 2 ≤ quotaTotal 2 ∧
       run.grants 2 - run.grant 511 2 + 1025 + run.useOf 0 2 > quotaTotal 2 ∧ starts 0 0x60 (511 + 11 * 2 ^ 32) run = true ∧ 0 < held1.useOf 1 2) ∧
    starts 0 0x61 (511 + 4096 * 2 ^ 32) run = true ∧ starts 0 0x61 511 run = true ∧
    starts 0 0x62 511 run = true ∧ starts 0 0x62 0 run = true ∧ ((cmd 0 0x62 511 run).fn 511).aborting = false ∧ run.pwr.entering = false ∧
    starts 511 0x63 511 run = true ∧ starts 511 0x63 1 run = true ∧
    (let p := 0x33BF + 2 ^ 16 + 1 * 2 ^ 32 + 15 * 2 ^ 48
     starts 1 0x78 p held1 = true ∧ srcNamed 0x33BF = true ∧ held1.srcOwner 0x33BF = 1 ∧ 15 < held1.quotaOf 1 8 ∧ ¬16 < held1.quotaOf 1 8 ∧
       (held1.src 0x33BF).stw = false ∧ held1.srcPend 0x33BF = false ∧ starts 2 0x78 p held1 = true ∧
       (held1.setBit (Reg.HVC_PEND (0x33BF / 32)) 31 true).srcPend 0x33BF = true) ∧
    starts 1 0x79 24 run = true ∧ run.srcOwner 24 = 1 ∧ starts 1 0x79 0 run = true ∧ run.srcOwner 0 = 0 := by
  and_intros <;> decide +kernel

/-- R261: NOP completes with OK and its record waits. -/
theorem test_nop : (((after (execNopCommand 7 (cmd 1 0x00 0 run))).fn 1).waiting.map (·.status)) = [0] := by decide +kernel

/-- R107: a cuff allocated by its number belongs to the tenant. -/
theorem test_res_alloc : (after (execResAlloc 7 (cmd 1 0x30 (1 + 3 * 2 ^ 32) { run with quota := [(quotaKey 1 2, 1)] }))).holder 1 3 = some 1 := by
  decide +kernel

/-- R106: a credit outside 1 to 4096 is refused. -/
theorem test_tenant_credit : (((after (execTenantCredit 7 (cmd 0 0x61 (511 + 4097 * 2 ^ 32) run))).fn 0).waiting.map (·.status)) = [0x08] := by
  decide +kernel

/-! ### DMA channels and mailboxes -/

/-- Channel 31, tenant 1's, whose CQ of 16 records lies in host memory. -/
def chan31 (k : Chan) : State :=
  let s := (slab 1 run).setFld (Reg.DMA_CQ_CFG 31) 0 4 4
  { s with chans := [(31, { k with alloc := true, owner := 1 })], fns := [(1, { bme := true })] }

/-- Channel 31 of tenant 0. -/
def chan0 (k : Chan) : State := { run with chans := [(31, { k with owner := 0 })] }

/-- A fill of 4 bytes at slab address 0, as pushed. -/
def fill (dst ctrl : Nat) : Desc := { dst := dst, len := 4, ctrl := ctrl, pattern := 0xA1B2C3D4 }

theorem witness_DmaChannels :
    (let s := chan31 {}
     let ready (op p : Nat) := decide ((cmd 1 op p s).ready 7 op (fun _ => true) = some (1, { tag := 7, opcode := op, param := p }))
     ready 0x70 (31 + 12 * 2 ^ 8) = true ∧ ready 0x70 (31 + 12 * 2 ^ 8 + 32 * 2 ^ 64) = true ∧ ready 0x72 31 = true ∧ ready 0x74 31 = true ∧
       (s.chan 31).owner = 1 ∧ starts 2 0x70 31 s = true ∧ s.bit (Reg.DMA_CTRL 31) 0 = false ∧ s.service = true ∧
       (∀ a < 3, decide ((cmd 1 0x71 (31 + a * 2 ^ 8) s).ready 7 0x71 (fun p => decide (bits p 0 5 = 31) && decide (bits p 8 2 = a)) =
         some (1, { tag := 7, opcode := 0x71, param := 31 + a * 2 ^ 8 })) = true) ∧
       decide ((cmd 1 0x73 (31 + 15 * 2 ^ 32) s).ready 7 0x73 (fun p => decide (bits p 0 5 = 31) && decide (bits p 32 12 = 15)) =
         some (1, { tag := 7, opcode := 0x73, param := 31 + 15 * 2 ^ 32 })) = true ∧ (s.setBit (Reg.DMA_CTRL 31) 0 true).bit (Reg.DMA_CTRL 31) 0 = true) ∧
    (let s := chan0 { queue := List.replicate 16 {}, st := 3, outstanding := true, heldRec := some [] }
     s.pfPage (0x80 + 31) = true ∧ s.drainBuf 0 = s ∧ (s.chan 31).owner = 0 ∧ (s.chan 31).st = 3 ∧ 16 ≤ (s.chan 31).queue.length ∧
       (s.chan 31).outstanding = true ∧ (s.chan 31).heldRec = some [] ∧ (s.chan 31).heldNotify = false ∧ s.bit (Reg.DMA_CQ_CFG 31) 4 = false ∧
       (s.fn 0).bme = true ∧ (s.setBit (Reg.DMA_CTRL 31) 0 true).bit (Reg.DMA_CTRL 31) 0 = true ∧ (∀ i < 8, bits 0 (32 * i) 32 = s.regN (Reg.DMA_D 31 i)) ∧
       (0 + 1 - 0) % 1 ≤ (0 + 1 - 0) % 1 ∧ 2 ^ s.fld (Reg.DMA_CQ_CFG 31) 0 4 ≥ 1) ∧
    ((chan31 {}).pfPage (0x80 + 31) = true ∧ ((chan31 {}).drainBuf 0).chan 31 = (chan31 {}).chan 31 ∧ (chan31 {}).chan 31 ≠ {}) ∧
    ((chan0 {}).chan 31).outstanding = false ∧ ((chan0 { st := 2, queue := [{ ctrl := 0 }] }).chan 31).st = 2 ∧
    (let s : State := { chan0 { st := 2, queue := [{ len := 8 }] } with pwr := { run.pwr with entering := true } }
     (s.chan 31).outstanding = false ∧ ((s.chan 31).quiet || (s.pwr.entering && (s.chan 31).reading)) ≠ (s.chan 31).quiet) ∧
    (let s := chan31 { st := 2, queue := [fill 0 1], got := [] }
     (s.chan 31).st = 2 ∧ s.frozen = false ∧ (s.chan 31).quiet = false ∧ (fill 0 1).hostSide = true ∧ (s.fn 1).dstate = 0 ∧ s.link.up = true) ∧
    (({ chan31 { st := 2, queue := [fill 0 1] } with fns := [(1, { dstate := 1 })] } : State).fn 1).dstate ≠ 0 := by
  and_intros <;> decide +kernel

theorem witness_DmaTransfers :
    (let s := chan31 { st := 2, queue := [fill 60 (1 + 8)] }
     let x := fill 60 (1 + 8)
     (s.chan 31).queue = [x] ∧ s.frozen = false ∧ (s.fn 1).dstate = 0 ∧ s.link.up = true ∧ s.bit (Reg.DMA_CQ_CFG 31) 4 = false ∧ (s.fn 1).bme = true ∧
       (s.chan 31).pos = 0 ∧ (s.chan 31).ahead = [] ∧ (s.chan 31).quiet = false ∧ (s.chan 31).got = [] ∧ (s.chan 31).diff = none ∧ Tbl.keys s.chans = [31] ∧ (s.chan 0).st ≠ 2 ∧
       bitAt x.ctrl 4 = false ∧ bitAt x.ctrl 5 = false ∧ (s.chan 31).pos < x.len ∧
       (s.fld (Reg.DMA_CQ_TAIL 31) 0 12 + 1) % 16 ≠ s.fld (Reg.DMA_CQ_HEAD 31) 0 12 % 16 ∧ s.eccSoft = [] ∧ s.eccBad = [] ∧ (s.chan 31).heldRec = none ∧
       x.op = 1 ∧ bitAt x.ctrl 3 = true ∧ x.dst % 64 + x.len ≤ 64 ∧ okAt (s.walk 1 x.dst) (0x1000000 + 60) = true ∧ x.notify = false ∧ x.hostSide = false ∧
       x.hostReads = false ∧ badAt (s.walk 1 0x10000) Code.slabFault = true) ∧
    (fill 4092 1).op = 1 ∧ bitAt (fill 4092 1).ctrl 3 = false ∧ (fill 4092 1).dst % 4096 + 4 ≤ 4096 ∧ (fill 4092 1).hostSide = true ∧ (fill 4092 1).hostReads = false ∧
    (let x : Desc := { src := 0, dst := 64, len := 64, ctrl := 8 }
     x.op = 0 ∧ bitAt x.ctrl 2 = false ∧ bitAt x.ctrl 3 = true ∧ x.hostReads = true ∧ (List.replicate 64 255).length = x.len ∧ (∀ b ∈ List.replicate 64 255, b < 256)) ∧
    (let x : Desc := { src := 0, dst := 64, len := 64, ctrl := 4 }
     x.op = 0 ∧ bitAt x.ctrl 2 = true ∧ bitAt x.ctrl 3 = false ∧ x.src % 64 + x.len ≤ 64 ∧ x.dst % 4096 + x.len ≤ 4096) ∧
    (let x : Desc := { src := 0, dst := 64, len := 64, ctrl := 12 }
     x.op = 0 ∧ bitAt x.ctrl 2 = true ∧ bitAt x.ctrl 3 = true ∧ x.src % 64 + x.len ≤ 64 ∧ x.dst % 64 + x.len ≤ 64) ∧
    (let x : Desc := { src := 60, len := 4, ctrl := 2 + 4 }
     let s := chan31 { st := 2, queue := [x] }
     x.op = 2 ∧ bitAt x.ctrl 2 = true ∧ bitAt x.ctrl 3 = false ∧ okAt (s.walk 1 60) (0x1000000 + 60) = true ∧
       (∀ i < 4, s.byte (0x1000000 + 60 + i) = BitVec.ofNat 8 ([0, 0, 0, 0].getD i 0)) ∧ s.byte (0x1000000 + 63) ≠ BitVec.ofNat 8 ([0, 0, 0, 1].getD 3 0)) ∧
    (({ chan31 { st := 2, queue := [fill 60 9] } with fns := [(1, { bme := true, dstate := 1 })] } : State).fn 1).dstate ≠ 0 ∧
    (let x : Desc := { src := 0, dst := 64, len := 64, ctrl := 8 }
     x.hostOut = false ∧ x.hostReads = true ∧ bitAt 4 2 = true ∧ bitAt 0 2 = false ∧ ¬((0 : Nat) < 0) ∧ (64 : Nat) ≤ 64) ∧
    (fill 4092 1).hostOut = true ∧
    ({ fill 60 (1 + 8 + 256) with len := 4 } : Desc).notify = true ∧ ((chan31 { st := 3, queue := [fill 0 9] }).chan 31).st ≠ 2 ∧
    (({ chan31 { st := 2, queue := [fill 0 1] } with fns := [] } : State).fn 1).bme = false := by
  and_intros <;> decide +kernel

theorem witness_Mailboxes :
    (let s := run.setFld Reg.REL_STEWARD 0 8 255
     s.pairUp 0 = true ∧ s.mode = Mode.run ∧ s.tenPage 511 = true ∧ s.drainBuf 511 = s ∧ (s.fn 511).mboxOut.length < s.quotaOf 511 10 ∧
       (s.fn 511).replies = [] ∧ (s.fn 511).mboxOut = [] ∧ (s.fn 511).mboxIn.length < s.quotaOf 511 10 ∧
       bits ([0, 0x7FF00].getD 1 0) 8 8 ≠ s.fld (Reg.TEN_MBX_STAT 511) 16 8 ∧ bits ([0, 0].getD 1 0) 8 8 = s.fld (Reg.TEN_MBX_STAT 511) 16 8) ∧
    (run.setFld Reg.REL_STEWARD 0 8 0).pairUp 0 = false ∧
    (let s : State := { run with fns := [(511, { mboxOut := List.replicate 4 [], mboxIn := List.replicate 4 [], replies := [[0, 0]] })] }
     ¬(s.fn 511).mboxOut.length < s.quotaOf 511 10 ∧ ¬(s.fn 511).mboxIn.length < s.quotaOf 511 10 ∧ (s.fn 511).replies = [[0, 0]]) ∧
    (let w2 := 1020 + 4 * 2 ^ 16
     let s : State := { run with cuffs := (List.range 4).map fun i => (1020 + i, { alloc := true, owner := 511 }) }
     (∀ i < 4, (s.cuff (bits w2 0 16 + i)).owner = 511) ∧ bits w2 16 8 = 4 ∧ (s.cuff 1019).owner ≠ 511 ∧
       s.tick < s.turns.alive + 1500000 ∧ 0 + 1500000 ≤ ({ s with tick := 1500000 } : State).tick ∧ bits (33 * 2 ^ 16) 16 8 = 33) := by
  and_intros <;> decide +kernel

/-- R292: a fill of 4 bytes writes its pattern, aligned by the address. -/
theorem test_dma_fill : let t := after (execDmaDescriptorComplete 31 [] (chan31 { st := 2, queue := [fill 60 (1 + 8)] }))
    t.readMem (0x1000000 + 60) 4 = 0xA1B2C3D4 ∧ (t.chan 31).st = 1 := by decide +kernel

/-- R306: a PING is answered with the time. -/
theorem test_ping :
    (((after (execPing 511 { run.setFld Reg.REL_STEWARD 0 8 255 with fns := [(511, { mboxOut := [[0, 1, 0]] })] })).fn 511).replies.map (·.drop 2)) =
      [[0, 0, 160000, 0]] := by decide +kernel

/-! ### Modes, power, boot and reliability -/

/-- In a mode, and the supplies in order. -/
def inMode (m : Nat) (f : Power → Power) : State := { live m with pwr := f (live m).pwr }

theorem witness_ModeRequests :
    (let s := live Mode.safe
     s.pfPage 2 = true ∧ s.drainBuf 0 = s ∧ s.mode = Mode.safe ∧ s.queues = [] ∧ ¬s.temp Reg.PWR_TCRIT < s.temp Reg.PWR_TEMP + 40 ∧
       s.pwr.locked = true ∧ s.bit Reg.TB_STATUS 0 = true ∧ s.pwr.safePin = false ∧ s.pwr.failPin = false) ∧
    (let s : State := { live Mode.safe with queues := [(1048575, { state := 1, tenant := 1 })] }
     ∃ e ∈ s.queues, e.2.state ≠ QState.free ∧ e.2.tenant ≠ 0) ∧
    ((live Mode.provision).pfPage 2 = true ∧ (live Mode.provision).mode = Mode.provision) ∧
    ((live Mode.safe).setBit Reg.PWR_STATUS 6 true).bit Reg.PWR_STATUS 6 = true ∧ run.pfPage 2 = true ∧ run.mode = Mode.run ∧
    (run.refs = [] ∧ run.queues = [] ∧ run.fld Reg.ENS_STATUS 0 3 ≠ 3 ∧ run.bit Reg.PWR_CFG 0 = false ∧ (run.setBit Reg.PWR_CFG 0 true).bit Reg.PWR_CFG 0 = true) ∧
    (inMode Mode.run fun p => { p with dozeReq := true }).pwr.dozeReq = true ∧
    (let s : State := { inMode Mode.run fun p => { p with dozeReq := true, dozeTry := some 0 } with tick := 1500000 }
     s.pwr.dozeTry = some 0 ∧ 0 + 1500000 ≤ s.tick) ∧ (inMode Mode.run fun p => { p with entering := true }).pwr.entering = true ∧
    (let s := run.setBit Reg.PWR_CFG 1 true
     s.pfPage 0x100 = true ∧ s.bit Reg.PWR_CFG 1 = true ∧ bitAt 1 1 = false ∧ bitAt 3 1 = true ∧ run.bit Reg.PWR_CFG 1 = false ∧
       (live Mode.off).pfPage 0x100 = false) ∧
    (let s := inMode Mode.halt fun p => { p with ret := Mode.run, safeNext := 2 }
     s.pfPage 0x100 = true ∧ s.mode = Mode.halt ∧ s.pwr.safeNext ≠ 0 ∧ s.pwr.ret = Mode.run) ∧
    (let s := inMode Mode.halt fun p => { p with locked := false }
     s.mode = Mode.halt ∧ s.pwr.locked = false ∧ (inMode Mode.halt id).pwr.locked = true) ∧
    (let s := inMode Mode.halt fun p => { p with ret := Mode.provision }
     s.pwr.safeNext = 0 ∧ s.pwr.ret ≠ Mode.run ∧ s.pwr.ret ≠ Mode.degraded) := by
  and_intros <;> decide +kernel

theorem witness_PowerEvents :
    (let s := inMode Mode.run fun p => { p with entering := true }
     s.pwr.entering = true ∧ s.pwr.refOk = true ∧ (∀ e ∈ s.chans, e.2.outstanding = false ∧ (e.2.reading = true → e.2.quiet = true)) ∧ s.pwr.wake = false ∧
       s.link.l1 = false ∧ (∀ e ∈ s.fns, e.2.dstate = 0)) ∧
    (∃ e ∈ (chan0 { outstanding := true }).chans, e.2.outstanding = true) ∧
    (let s := ((inMode Mode.doze id).setFld Reg.PWR_WAKE 0 8 255).setFld (Reg.PWR_WCUFF 3) 10 3 7
     s.mode = Mode.doze ∧ s.pwr.wake = false ∧ s.bit Reg.PWR_WAKE 3 = true ∧ s.bit Reg.PWR_WAKE 4 = true ∧ s.bit Reg.PWR_WAKE 6 = true ∧
       s.bit (Reg.PWR_WCUFF 3) 10 = true ∧ s.bit (Reg.PWR_WCUFF 3) 12 = true ∧ (s.cuff (s.fld (Reg.PWR_WCUFF 3) 0 10)).pad = false ∧ s.bit Reg.PWR_WAKE 7 = true ∧
       s.bit Reg.PWR_WAKE 5 = true ∧ (s.setBit Reg.PWR_CFG 0 true).bit Reg.PWR_CFG 0 = true) ∧
    (inMode Mode.doze fun p => { p with safePin := true }).pwr.safePin = true ∧
    (let s := inMode Mode.doze fun p => { p with wake := true, ret := Mode.run }
     s.mode = Mode.doze ∧ s.pwr.wake = true ∧ s.pwr.refOk = true ∧ s.pwr.locked = true ∧ s.pwr.failHeld = false ∧ s.pwr.entering = false ∧
       (∀ e ∈ s.fns, e.2.abortHeld = false) ∧ s.pwr.haltHeld = false ∧ s.pwr.aligning = false ∧ s.link.posted = [] ∧ s.pwr.ret ≠ Mode.doze ∧
       (({ s with link := { s.link with posted := [{ fn := 0, addr := 0x2040, value := 3 }] } } : State).link.posted =
         [{ fn := 0, addr := 0x2040, value := 3 }]) ∧
       (∀ r ∈ [ConfigReq.config none none none {}, .sleep false, .awake, .msix 0 (.vector true)],
         ({ fn := 511, cfg := some r } : Posted).cfg = some r) ∧ ({ fn := 1, bytes := [some 3] } : Posted).bytes ≠ [] ∧ (s.setBit Reg.PWR_CFG 2 true).bit Reg.PWR_CFG 2 = true ∧ s.pwr.safeNext = 0) ∧
    (let s := inMode Mode.run fun p => { p with aligning := true }
     s.pwr.aligning = true ∧ s.pwr.refOk = true ∧ s.pwr.locked = true ∧ s.mode ≠ Mode.halt ∧ s.mode ≠ Mode.doze ∧ s.tb.now + 18 < s.circle) ∧
    (inMode Mode.halt fun p => { p with aligning := true, safeNext := 2 }).pwr.aligning = true ∧
    (let s := (inMode Mode.doze fun p => { p with wake := true, ret := Mode.safe, haltHeld := true }).setBit Reg.PWR_CFG 1 true
     s.pwr.haltHeld = true ∧ s.pwr.ret = Mode.safe ∧ s.bit Reg.PWR_CFG 1 = true) ∧
    (let s := inMode Mode.doze fun p => { p with wake := true, ret := Mode.run, failHeld := true, safeNext := 2 }
     s.pwr.failHeld = true ∧ s.pwr.safeNext = 2) ∧
    (let s := (inMode Mode.run fun p => { p with haltHeld := true, entering := true }).setBit Reg.PWR_CFG 1 true
     s.pwr.failPin = false ∧ s.pwr.haltHeld = true ∧ s.pwr.entering = true ∧ s.bit Reg.PWR_CFG 1 = true) ∧
    ({ straps := 0x43 } : ResetRelease).inRange = true ∧ ({ inRange := false } : ResetRelease).inRange = false ∧
    (let s := run.setFld Reg.SEC_STRAP 6 2 3
     ({ addr := 0x5B, value := 0x5A } : SmbWrite).addr = 0x58 + s.fld Reg.SEC_STRAP 6 2 ∧ (0x58 : Nat) ≠ 0x58 + s.fld Reg.SEC_STRAP 6 2) ∧
    (live Mode.off).mode = Mode.off ∧ run.pwr.failPin = false ∧ (live Mode.doze).mode = Mode.doze ∧ (live Mode.halt).mode = Mode.halt ∧
    (live Mode.provision).pwr.failPin = false ∧
    (inMode Mode.off fun p => { p with resetPin := true }).pwr.resetPin = true ∧ run.pwr.resetPin = false ∧
    run.temp Reg.PWR_TALERT ≤ signed 12 (run.fld Reg.PWR_TCRIT 0 12) ∧ signed 12 0 + 20 ≤ run.temp Reg.PWR_TALERT ∧
    run.temp Reg.PWR_TCRIT ≤ signed 12 2047 ∧ signed 12 2048 < run.temp Reg.PWR_TCRIT ∧
    (inMode Mode.run fun p => { p with safeNext := 1 }).pwr.safeNext = 1 ∧ 0x15A % 256 = 0x5A ∧
    run.pwr.safePin = false ∧ (inMode Mode.run fun p => { p with safePin := true }).pwr.safePin = true := by
  and_intros <;> decide +kernel

/-- A sound image of 608 bytes with three empty sections (R343): ROLLBACK 3, FWVER 9, BASEVER 8, VMIN 1, VMAX 2. -/
def bytes3 : List Nat :=
  [0x43, 0x48, 0x54, 0x39, 1, 0, 0, 0, 0x60, 2, 0, 0, 3, 0, 0, 0, 9, 0, 0, 0, 8, 0, 0, 0, 1, 2] ++ List.replicate 38 0 ++
    ([1, 2, 3].flatMap fun k => [k, 0, 0, 0, 0, 2, 0, 0] ++ List.replicate 8 0) ++ List.replicate 496 0

def sound3 : ImageInfo := { bytes := bytes3 }

/-- Slot 1 holds a confirmed image and the part runs from slot 0. -/
def booted (b : Boot) : State :=
  { (run.setFld Reg.SEC_BOOT 0 4 4).setFld Reg.REL_STEWARD 0 8 255 with boot := { b with slotB := { state := 0x3C, image := sound3 } } }

/-- A part in BOOT that waits for the PLL, with its slots and what its self-tests found. -/
def booting (b : Boot) : State :=
  { live Mode.boot with pwr := { mode := Mode.boot, refOk := true }, tb := {}, boot := b }

theorem witness_BootAndReliability :
    (let s : State := { live Mode.boot with boot := { hostWait := true } }.setN Reg.SEC_HBOOT_LEN 608
     s.pfPage 5 = true ∧ s.drainBuf 0 = s ∧ s.mode = Mode.boot ∧ s.boot.hostWait = true ∧ s.boot.hboot = none ∧ (s.fn 0).bme = true ∧
       (({ s with fns := [] } : State).fn 0).bme = false ∧ s.regN Reg.SEC_HBOOT_LEN = 608 ∧ (sound3.upTo 608).wellFormed = true ∧
       (sound3.upTo 607).wellFormed = false ∧ ¬sound3.rollback < s.boot.fuses ∧ sound3.rollback < 4 ∧
       ¬(bitAt s.boot.badCores 0 = true ∧ bitAt s.boot.badCores 1 = true ∨ bitAt s.boot.badCores 2 = true ∧ bitAt s.boot.badCores 3 = true) ∧
       bitAt 12 2 = true ∧ bitAt 12 3 = true) ∧
    (let s := booting { slotB := { state := 0x5A, boots := 1, image := sound3 }, badRows := [65535, 65535, 70000] }
     s.mode = Mode.boot ∧ s.pwr.refOk = true ∧ s.pwr.locked = false ∧ s.tb.running = false ∧ s.fld Reg.SEC_STRAP 1 2 = 0 ∧
       (s.setFld Reg.SEC_STRAP 1 2 2).fld Reg.SEC_STRAP 1 2 = 2 ∧ (s.slot 0).candidate = false ∧ (s.slot 1).candidate = true ∧
       bitAt s.boot.badFlash 1 = false ∧ ((s.boot.badRows.filter fun r => decide (r < 65536)).eraseDups) = [65535] ∧
       (s.slot 1).image.wellFormed = true ∧ bitAt (booting { badFlash := 2 }).boot.badFlash 1 = true ∧
       ((booting { slotB := { state := 0x5A, boots := 2 } }).slot 1).boots = 2 ∧
       (booting {}).slot 1 = {} ∧ ((booting { slotA := { state := 0x3C } }).slot 0).state = 0x3C) ∧
    256 < (List.range 257).length ∧
    (let s := booted {}
     s.pfPage 5 = true ∧ s.mode = Mode.run ∧ s.pairUp 1 = true ∧ s.fld Reg.SEC_BOOT 0 2 = 0 ∧ s.fld Reg.SEC_BOOT 2 2 = 1 ∧ bits (0x5EC0 * 65536) 16 16 = 0x5EC0 ∧
       s.boot.writing = false ∧ s.boot.apply = none ∧ s.upd = none ∧ s.bit Reg.PWR_STATUS 7 = false ∧
       ([0, 1].filter fun i => decide (i ≠ s.fld Reg.SEC_BOOT 0 2) && (s.slot i).candidate) = [1] ∧ (s.slot 1).image.vmin = 1 ∧
       (s.slot 1).image.vmax = 2 ∧
       s.fld Reg.ENS_VER 16 8 = 0 ∧ bits 0x10 4 3 = 1 ∧ bits 0x20 4 3 = 2 ∧ bits 0x40 4 3 = 4 ∧ bitAt 0x10 0 = false ∧ bitAt 0x10 1 = false ∧ bitAt 3 1 = true ∧
       (live Mode.boot).pfPage 5 = true ∧ s.ensPorts = [] ∧ (s.setFld Reg.ENS_CFG 8 4 3).ensPorts = [0, 1] ∧ s.spareTray < 9 ∧ s.rebuilding = false ∧
       (((s.setFld Reg.ENS_CFG 8 4 3).setBit (Reg.ENP_STATUS 0) 1 true).setBit (Reg.ENP_STATUS 1) 1 true).portsShort = false) ∧
    ((booted {}).setFld Reg.REL_STEWARD 0 4 3).pairUp 1 = false ∧
    (let a : Apply := { part := 1, parts := 2, port := some 0, ports := [1], until_ := 10001 }
     let s := (booted { apply := some a }).setBit Reg.TB_STATUS 2 true
     s.pending = [] ∧ s.tb.running = true ∧ s.mode ≠ Mode.off ∧ s.mode ≠ Mode.doze ∧ s.coarse = true ∧ s.boot.apply = some a ∧
       a.until_ ≤ s.tick + 1 ∧ s.tick + 1 < { a with until_ := 10002 }.until_ ∧ { a with ports := [] }.ports = [] ∧ bitAt a.parts 2 = false) ∧
    (let s : State := { (booted { apply := some { core := some 2 } }).setFld Reg.REL_STEWARD 0 4 11 with tick := 10000 }
     s.boot.apply = some { core := some 2 } ∧ s.bit Reg.REL_STEWARD 2 = false ∧ s.bit Reg.REL_STEWARD 3 = true ∧ s.bit Reg.REL_STEWARD 10 = false) ∧
    (let s := (booted { writing := true, target := 1 }).setN Reg.SEC_IMG_LEN 608
     s.boot.target < 2 ∧ s.regN Reg.SEC_IMG_LEN = 608 ∧ ({ sound3 with readOk := false } : ImageInfo).readOk = false) ∧
    ([0, 1].filter fun i => decide (i ≠ run.fld Reg.SEC_BOOT 0 2) && (run.slot i).candidate) = [] ∧
    ((booted {}).setFld Reg.ENS_VER 16 8 3).fld Reg.ENS_VER 16 8 = 3 ∧ (booted { burning := some 64 }).boot.burning = some 64 ∧
    (booted { writing := true }).boot.writing = true ∧ (booted { writing := true }).pairUp 1 = true ∧
    (let s := booted {}
     s.bit Reg.REL_STEWARD 0 = true ∧ s.bit Reg.REL_STEWARD 1 = true ∧ s.bit Reg.REL_STEWARD 4 = true ∧
       ((Tbl.get [] (booted { fails := [(0, [9000, 9500])] }).boot.fails 0).filter fun t => decide (s.tick < t + 5400000000000)).length = 2) ∧
    (let s := (booted {}).setFld Reg.REL_STEWARD 0 4 14
     s.bit Reg.REL_STEWARD 0 = false ∧ (s.setFld Reg.REL_STEWARD 8 4 0).bit Reg.REL_STEWARD 8 = false ∧ s.bit Reg.REL_STEWARD 1 = true ∧ s.fld Reg.REL_STEWARD 0 4 = 15 - 2 ^ 0) ∧
    8388607 ∈ ({ run with eccBad := [8388607], eccSoft := [0], csBad := [csKey 8 16383], csSoft := [0] } : State).eccBad ∧ 0 ∈ ([0] : List Nat) ∧
    (let s : State := { booted {} with rel := { rowCorr := [(65535, 15)] } }
     s.fld Reg.REL_RCFG 0 4 ≤ Tbl.get 0 s.rel.rowCorr (8388607 / 128) ∧ (s.setFld Reg.REL_RCFG 0 4 15).fld Reg.REL_RCFG 0 4 = 15 ∧
       0 < 256 - (s.fld Reg.REL_REPAIR 0 9 + s.fld Reg.REL_REPAIR 16 9) ∧
       256 - ((s.setFld Reg.REL_REPAIR 16 9 255).fld Reg.REL_REPAIR 0 9 + (s.setFld Reg.REL_REPAIR 16 9 255).fld Reg.REL_REPAIR 16 9) = 1) := by
  and_intros <;> decide +kernel

/-- R320: a DOZE request in RUN starts the entry into DOZE. -/
theorem test_doze_request : (after (execPwrCtrlReqDoze run)).pwr.entering = true := by decide +kernel

/-- R323: POWER_FAIL_N in DOZE only wakes, and SAFE follows for cause 2. -/
theorem test_power_fail_doze : let t := after (execPowerFailN (live Mode.doze))
    t.mode = Mode.doze ∧ t.pwr.wake = true ∧ t.pwr.safeNext = 2 := by decide +kernel

/-- R342: GO boots a sound image into PROVISION. -/
theorem test_host_boot : let t := after (execSecHbootCtrlGo sound3 ({ live Mode.boot with boot := { hostWait := true } }.setN Reg.SEC_HBOOT_LEN 608))
    t.mode = Mode.provision ∧ t.regN Reg.SEC_VER_FW = 9 := by decide +kernel

/-! ### Ill-formed commands are refused -/

/-- One ill-formed command for each check of WellFormed; `exec` stops on it by name. -/
theorem test_wf_units :
    (Instr.setHigh 1024).wf = false ∧ (Instr.pairSet 512).wf = false ∧ (Instr.captureRecordWrite 32).wf = false ∧
    (Instr.padTransition 0 true 16).wf = false ∧ (Instr.guardAssert 0 8).wf = false ∧ (Instr.nop 1048576).wf = false ∧
    (Instr.trayTakeover 9).wf = false ∧ (Instr.wake 2304).wf = false ∧ (Instr.pioStart 128).wf = false ∧
    (Instr.registerWrite 512 (dword 0) 0).wf = false ∧ (Instr.dmaCtrlDisable 32 none).wf = false ∧ (Instr.hvcClaim 4).wf = false ∧
    (Instr.groupCommitTick 16).wf = false ∧ (Instr.memberTimeout 16).wf = false ∧ (Instr.strobeEdge 2 0).wf = false := by decide +kernel

theorem test_wf_values :
    (Instr.tbReloadWrite 4 0).wf = false ∧ (Instr.mark 0 0).wf = false ∧ (Instr.mark 6 0).wf = false ∧ (Instr.mark 1 1024).wf = false ∧
    (Instr.rowRemap 65536).wf = false ∧ (Instr.scrub 8388608 0).wf = false ∧ (Instr.wireFault 0 4).wf = false ∧ (Instr.scrub 0 3).wf = false ∧
    (Instr.hello { nelvi with port := 4 } 0 0 0 0 0 0).wf = false ∧ (Instr.fbkLatch 64).wf = false ∧ (Instr.wheelL1Move 1024).wf = false ∧
    (Instr.cancel nelvi (2 ^ 32)).wf = false ∧ (Instr.seamRelease 65536).wf = false ∧ (Instr.hvcEvent 0x3FFF).wf = false ∧
    (Instr.dmaCtrlDisable 0 (some 4096)).wf = false ∧ (Instr.nopCommand 4096).wf = false ∧ (Instr.registerWrite 0 (dword 0) (2 ^ 32)).wf = false ∧
    (Instr.csScrub 0 16384 0).wf = false ∧ (Instr.pgStageCommit 2048 0).wf = false ∧ (Instr.vectorUnmask 1 16 (.vector false)).wf = false := by
  decide +kernel

theorem test_wf_sound :
    (Instr.setHigh 1023).wf = true ∧ (Instr.mark 5 2303).wf = true ∧ (Instr.vectorUnmask 0 2047 (.control (some true) none)).wf = true ∧
    (Instr.nopCommand 4095).wf = true ∧ (Instr.scrub 8388607 2).wf = true := by decide +kernel

theorem test_wf_exec : stops (execSetHigh 1024 run) = true ∧ stops (execNopCommand 4096 run) = true := by decide +kernel

end Sys2Proof.Tests
end

/-! The proof of O38: what an illegal quadrature transition writes (R207), and that it writes nothing else. The facts about
registers, interrupt events and the speed window stand first, each about one operation of the model. -/

namespace Sys2Proof.Machine

open Sys2Proof

section Rules
variable (s : State) {p : Nat}

/-! ### Registers and ports -/

/-- A register is read from the table of registers alone. -/
theorem State.reg_of_regs {s t : State} (h : t.regs = s.regs) (k : Nat) : t.reg k = s.reg k := by
  simp only [State.reg, h]

/-- A port is read from the table of ports alone. -/
theorem State.port_of_ports {s t : State} (h : t.ports = s.ports) (q : Nat) : t.port q = s.port q := by
  simp only [State.port, h]

theorem State.regN_of_reg {s t : State} {k : Nat} (h : t.reg k = s.reg k) : t.regN k = s.regN k := congrArg BitVec.toNat h

theorem State.bit_of_reg {s t : State} {k : Nat} (h : t.reg k = s.reg k) (i : Nat) : t.bit k i = s.bit k i :=
  congrArg (bitAt · i) (State.regN_of_reg h)

theorem State.fld_of_reg {s t : State} {k : Nat} (h : t.reg k = s.reg k) (lo n : Nat) : t.fld k lo n = s.fld k lo n :=
  congrArg (bits · lo n) (State.regN_of_reg h)

theorem State.pair_of_reg {s t : State} {l h : Nat} (hl : t.reg l = s.reg l) (hh : t.reg h = s.reg h) :
    t.pair l h = s.pair l h := by
  simp only [State.pair, State.regN_of_reg hl, State.regN_of_reg hh]

theorem State.reg_setPair_other {k l h : Nat} (hl : k ≠ l) (hh : k ≠ h) (v : Nat) : (s.setPair l h v).reg k = s.reg k :=
  (State.reg_setN_other _ hh _).trans (s.reg_setN_other hl _)

/-- A value split over two registers reads back where it fits them. -/
theorem State.pair_setPair_same {l h v : Nat} (hne : l ≠ h) (hv : v < 2 ^ 64) : (s.setPair l h v).pair l h = v := by
  have hl : (s.setPair l h v).regN l = v % 2 ^ 32 := by
    rw [State.setPair, State.regN_of_reg (State.reg_setN_other _ hne _), State.regN_setN_same, Nat.mod_mod]
  have hh : (s.setPair l h v).regN h = v / 2 ^ 32 := by
    rw [State.setPair, State.regN_setN_same]; omega
  rw [State.pair, hl, hh]; omega

/-- A whole register is its own field. -/
theorem State.fld_whole (k : Nat) : s.fld k 0 32 = s.regN k := by
  have := s.regN_lt k
  simp only [State.fld, bits]; omega

/-- A counter that takes a whole register counts by 1 up to its limit. -/
theorem State.regN_incSat_whole (k : Nat) : (s.incSat k 0 32).regN k = min (2 ^ 32 - 1) (s.regN k + 1) := by
  rw [← State.fld_whole, State.incSat, State.fld_setFld_same _ _ _ _ _ (by decide), s.fld_whole, satAdd]
  omega

/-! ### Interrupt events (R277, R278) -/

/-- An event of a source writes no register but the pending bits. -/
theorem State.raise_reg {id k : Nat} (hid : id < 0x4000) (hk : ¬(Reg.HVC_PEND 0 ≤ k ∧ k < Reg.HVC_PEND 512)) :
    (s.raise id).reg k = s.reg k := by
  have hne : k ≠ Reg.HVC_PEND (id / 32) := by simp only [Reg.HVC_PEND] at hk ⊢; omega
  have hpend : ((s.notePend id).setSrcPend id true).reg k = s.reg k :=
    (State.reg_setBit_other _ hne ..).trans (State.reg_of_regs (State.regs_of_wipe (s.notePend_wipe0 id) rfl) k)
  simp only [State.raise]
  split
  · exact (State.reg_of_regs (State.regs_of_wipe (State.deliver_wipe0 _ id) rfl) k).trans hpend
  · exact (State.reg_of_regs (State.setSrc_regs ..) k).trans hpend

/-- The error of a port writes no register but FBK_ERR and the pending bits. -/
theorem State.reg_fbkErr_other (hp : p < 64) {k : Nat} (hne : k ≠ Reg.FBK_ERR p)
    (hk : ¬(Reg.HVC_PEND 0 ≤ k ∧ k < Reg.HVC_PEND 512)) (b : Nat) : (s.fbkErr p b).reg k = s.reg k :=
  (State.raise_reg _ (by omega) hk).trans (s.reg_setBit_other hne ..)

/-- The register at an offset of a port's block (R223), the form of every `Reg.FBK_` name. -/
abbrev fbkReg (p o : Nat) : Nat := (0x60 + p / 8) * 0x1000 + 0x200 + (p % 8) * 0x100 + o

/-- No register of a port holds pending bits. -/
theorem fbkReg_not_pend (hp : p < 64) {o : Nat} (ho : o < 0x100) :
    ¬(Reg.HVC_PEND 0 ≤ fbkReg p o ∧ fbkReg p o < Reg.HVC_PEND 512) := by
  simp only [Reg.HVC_PEND, fbkReg]; omega

theorem State.bit_fbkErr_same (hp : p < 64) {b : Nat} (hb : b < 32) : (s.fbkErr p b).bit (Reg.FBK_ERR p) b = true :=
  (State.bit_of_reg (State.raise_reg _ (by omega) (fbkReg_not_pend (o := 0xc4) hp (by decide))) b).trans
    (s.bit_setBit_same _ b true hb)

/-! ### The noted speeds and the speed window (R207, R210, R215) -/

/-- The speed that ends with a stamp is noted before those kept (R215). -/
theorem State.port_noteSpeed_same (stamp : Nat) : ∃ l, (s.noteSpeed p stamp).port p = { s.port p with
    past := (stamp, s.pair (Reg.FBK_SPEED_L p) (Reg.FBK_SPEED_H p), (s.port p).likes.head?) :: l } :=
  ⟨_, (s.port_setPort p p _).trans (if_pos rfl)⟩

theorem State.port_noteSpeed_other (stamp : Nat) {q : Nat} (hne : q ≠ p) : (s.noteSpeed p stamp).port q = s.port q :=
  (s.port_setPort p q _).trans (if_neg hne)

theorem State.reg_restartSpeed_other {k : Nat} (hs : k ≠ Reg.FBK_STATUS p) (hl : k ≠ Reg.FBK_SPEED_L p)
    (hh : k ≠ Reg.FBK_SPEED_H p) (first : List Nat) : (s.restartSpeed p first).reg k = s.reg k :=
  (State.reg_setBit_other _ hs ..).trans (State.reg_setPair_other _ hl hh _)

theorem State.speed_restartSpeed (first : List Nat) :
    (s.restartSpeed p first).pair (Reg.FBK_SPEED_L p) (Reg.FBK_SPEED_H p) = 0 :=
  (State.pair_of_reg (State.reg_setBit_other _ (by simp) ..) (State.reg_setBit_other _ (by simp) ..)).trans
    (State.pair_setPair_same _ (by simp) (by decide))

theorem State.spdvalid_restartSpeed (first : List Nat) : (s.restartSpeed p first).fbkStat p 3 = false :=
  State.bit_setBit_same _ _ 3 false (by decide)

theorem State.fbkStat_restartSpeed_other {b : Nat} (hb : b ≠ 3) (first : List Nat) :
    (s.restartSpeed p first).fbkStat p b = s.fbkStat p b :=
  (State.bit_setBit_apart _ _ 3 b false (by decide) hb).trans
    (State.bit_of_reg (State.reg_setPair_other _ (by simp) (by simp) _) b)

theorem State.port_restartSpeed (first : List Nat) (q : Nat) :
    (s.restartSpeed p first).port q = if q = p then { s.port p with likes := first } else s.port q := by
  rw [← State.port_setPort]
  exact State.port_of_ports ((State.setBit_ports ..).trans (State.setPair_ports ..)) q

/-! ### The illegal transition (R207) -/

/-- `State.illegalEdge` where it takes nothing back, up to its record: ILLEGAL set, ILLCNT counted, PVALID cleared, the speed window
restarted. -/
def State.markIllegal (s : State) (p stamp : Nat) : State :=
  ((((s.noteSpeed p stamp).fbkErr p 1).incSat (Reg.FBK_ILLCNT p) 0 32).setFbkStat p 0 false).restartSpeed p []

/-- Both lines change in one row: the port takes the levels, is marked, and a record goes to its log. -/
theorem State.quadEdge_both {a b : Bool} {x : Nat} (hon : s.fbkOn p 1 = true) (hst : s.stable p (x % s.circle) = true)
    (ha : a ≠ (s.port p).a) (hb : b ≠ (s.port p).b)
    (hq : ∀ q, (s.port p).quad = some q → q.1 ≠ x % s.circle / 16) :
    s.quadEdge p a b x = ((s.setPort p { s.port p with a := a, b := b }).markIllegal p (x % s.circle)).fbkRecord p
      Code.illegalEdge 3 0 (x % s.circle) := by
  have hA : ((s.port p).a != a) = true := by simpa using ha.symm
  have hB : ((s.port p).b != b) = true := by simpa using hb.symm
  have hfirst : (s.port p).sameTick (x % s.circle) a b = none := by
    simp only [Fbk.sameTick, Option.filter_eq_none_iff]
    intro q hs
    simp [hq q hs]
  simp [State.quadEdge, hon, hst, hA, hB, hfirst, State.illegalEdge, State.markIllegal]

/-- A port writes its record only where it logs (R221): with the status and its own number, to its log queue. -/
theorem State.fbkRecord_cases (hp : p < 64) {status : Nat} (hs : status < 256) (kind pair time : Nat) :
    ∃ v, (s.bit (Reg.FBK_CFG p) 24 = true →
        s.fbkRecord p status kind pair time = s.logRecord (s.fld (Reg.FBK_LOGQ p) 0 20) v ∧ bits v 64 8 = status ∧
          bits v 72 8 = p) ∧
      (s.bit (Reg.FBK_CFG p) 24 = false → s.fbkRecord p status kind pair time = s) := by
  refine ⟨_, fun hlog => ⟨if_pos hlog, ?_, ?_⟩, fun hlog => if_neg (by simp [hlog])⟩
  · simp only [bits]; omega
  · simp only [bits]; omega

section Marked
variable (stamp : Nat)

/-- The registers an illegal transition may write besides the pending bits. -/
theorem State.reg_markIllegal_other (hp : p < 64) {k : Nat}
    (hk : k ∉ [Reg.FBK_ERR p, Reg.FBK_ILLCNT p, Reg.FBK_STATUS p, Reg.FBK_SPEED_L p, Reg.FBK_SPEED_H p])
    (hpend : ¬(Reg.HVC_PEND 0 ≤ k ∧ k < Reg.HVC_PEND 512)) : (s.markIllegal p stamp).reg k = s.reg k := by
  simp only [List.mem_cons, List.not_mem_nil, or_false, not_or] at hk
  obtain ⟨herr, hcnt, hstat, hl, hh⟩ := hk
  calc (s.markIllegal p stamp).reg k
      = ((((s.noteSpeed p stamp).fbkErr p 1).incSat (Reg.FBK_ILLCNT p) 0 32).setFbkStat p 0 false).reg k :=
        State.reg_restartSpeed_other _ hstat hl hh _
    _ = (((s.noteSpeed p stamp).fbkErr p 1).incSat (Reg.FBK_ILLCNT p) 0 32).reg k := State.reg_setBit_other _ hstat ..
    _ = ((s.noteSpeed p stamp).fbkErr p 1).reg k := State.reg_setFld_other _ hcnt ..
    _ = (s.noteSpeed p stamp).reg k := State.reg_fbkErr_other _ hp herr hpend 1
    _ = s.reg k := State.reg_of_regs (State.setPort_regs ..) k

/-- A register of the port that is none of the five (ERR, ILLCNT, STATUS, SPEED_L and SPEED_H, by offset) stays. -/
theorem State.reg_markIllegal_port (hp : p < 64) {o : Nat} (ho : o < 0x100)
    (hne : o ∉ [0xc4, 0xcc, 0x4, 0x38, 0x3c]) : (s.markIllegal p stamp).reg (fbkReg p o) = s.reg (fbkReg p o) :=
  State.reg_markIllegal_other s stamp hp (by simpa using hne) (fbkReg_not_pend hp ho)

theorem State.illegal_markIllegal (hp : p < 64) : (s.markIllegal p stamp).bit (Reg.FBK_ERR p) 1 = true := by
  rw [State.markIllegal, State.bit_of_reg (State.reg_restartSpeed_other _ (by simp) (by simp) (by simp) _),
    State.setFbkStat, State.bit_of_reg (State.reg_setBit_other _ (by simp) ..), State.incSat,
    State.bit_of_reg (State.reg_setFld_other _ (by simp) ..)]
  exact State.bit_fbkErr_same _ hp (by decide)

theorem State.illcnt_markIllegal (hp : p < 64) :
    (s.markIllegal p stamp).regN (Reg.FBK_ILLCNT p) = min (2 ^ 32 - 1) (s.regN (Reg.FBK_ILLCNT p) + 1) := by
  rw [State.markIllegal, State.regN_of_reg (State.reg_restartSpeed_other _ (by simp) (by simp) (by simp) _),
    State.setFbkStat, State.regN_of_reg (State.reg_setBit_other _ (by simp) ..), State.regN_incSat_whole,
    State.regN_of_reg (State.reg_fbkErr_other _ hp (k := Reg.FBK_ILLCNT p) (by simp)
      (fbkReg_not_pend (o := 0xcc) hp (by decide)) 1)]
  rfl

theorem State.pvalid_markIllegal : (s.markIllegal p stamp).fbkStat p 0 = false :=
  (State.fbkStat_restartSpeed_other _ (by decide) []).trans (State.bit_setBit_same _ _ 0 false (by decide))

/-- Of the steps of the mark only the note of the speed and the restart of the window change a port. -/
theorem State.port_markIllegal (q : Nat) : (s.markIllegal p stamp).port q =
    if q = p then { (s.noteSpeed p stamp).port p with likes := [] } else (s.noteSpeed p stamp).port q := by
  have hports : ((((s.noteSpeed p stamp).fbkErr p 1).incSat (Reg.FBK_ILLCNT p) 0 32).setFbkStat p 0 false).ports
      = (s.noteSpeed p stamp).ports := by
    simp only [State.setFbkStat, State.setBit_ports, State.incSat_ports, State.fbkErr, State.raise_ports]
  rw [State.markIllegal, State.port_restartSpeed, State.port_of_ports hports, State.port_of_ports hports]

/-- The port itself: the like edges are forgotten and the speed that has ended is noted. -/
theorem State.port_markIllegal_same : ∃ l, (s.markIllegal p stamp).port p = { s.port p with
    likes := [],
    past := (stamp, s.pair (Reg.FBK_SPEED_L p) (Reg.FBK_SPEED_H p), (s.port p).likes.head?) :: l } := by
  obtain ⟨l, hnote⟩ := s.port_noteSpeed_same (p := p) stamp
  exact ⟨l, by rw [State.port_markIllegal, if_pos rfl, hnote]⟩

theorem State.port_markIllegal_other {q : Nat} (hne : q ≠ p) : (s.markIllegal p stamp).port q = s.port q := by
  rw [State.port_markIllegal, if_neg hne, s.port_noteSpeed_other stamp hne]

/-- The mark touches the fields of this mask alone: the registers, the ports and what interrupt events write. -/
theorem State.markIllegal_wipe : (s.markIllegal p stamp).wipe 4157528342546 = s.wipe 4157528342546 := by
  simp [State.markIllegal, State.restartSpeed, State.setSpeed, State.setFbkStat, State.fbkErr, State.noteSpeed]

end Marked

/-- Agreement outside the mask of `markIllegal_wipe` is agreement in every field it does not name. -/
theorem State.eq_of_wipe_fbk {s t : State} (e : t.wipe 4157528342546 = s.wipe 4157528342546) :
    t = { s with out := t.out, regs := t.regs, ports := t.ports, fns := t.fns, link := t.link, srcs := t.srcs, vecs := t.vecs } := by
  cases t; cases s
  simpa [State.wipe, Nat.testBit] using e

end Rules

/-- The row of an illegal transition marks the port and has it write its record. -/
theorem exec_quadratureEdge_both {s : State} {p stamp : Nat} {a b : Bool} (hp : p < 64) (hon : s.fbkOn p 1 = true)
    (hst : s.stable p (stamp % s.circle) = true) (ha : a ≠ (s.port p).a) (hb : b ≠ (s.port p).b)
    (hq : ∀ q, (s.port p).quad = some q → q.1 ≠ stamp % s.circle / 16) :
    exec (.quadratureEdge p a b stamp) s =
      .next (((s.setPort p { s.port p with a := a, b := b }).markIllegal p (stamp % s.circle)).fbkRecord p
        Code.illegalEdge 3 0 (stamp % s.circle)) := by
  show onUnit (okPort p) (s.quadEdge p a b stamp) = _
  rw [s.quadEdge_both hon hst ha hb hq, onUnit, okPort, decide_eq_true hp, if_pos rfl]

/-- Settles O38: the row marks the port, and the record goes out where the port logs. -/
theorem illegalTransition : Obligations.IllegalTransition := by
  intro s p stamp a b hp hon hst ha hb hq err
  let d := s.setPort p { s.port p with a := a, b := b }
  let x := stamp % s.circle
  let u := d.markIllegal p x
  have hd : ∀ k, d.reg k = s.reg k := State.reg_of_regs (State.setPort_regs ..)
  have hkept : ∀ o < 0x100, o ∉ [0xc4, 0xcc, 0x4, 0x38, 0x3c] → u.reg (fbkReg p o) = s.reg (fbkReg p o) :=
    fun o ho hne => (d.reg_markIllegal_port x hp ho hne).trans (hd _)
  have hcfg : u.reg (Reg.FBK_CFG p) = s.reg (Reg.FBK_CFG p) := hkept 0x8 (by decide) (by decide)
  have hlogq : u.reg (Reg.FBK_LOGQ p) = s.reg (Reg.FBK_LOGQ p) := hkept 0xc8 (by decide) (by decide)
  have hpos : u.fbkPos p = s.fbkPos p :=
    State.pair_of_reg (hkept 0x10 (by decide) (by decide)) (hkept 0x14 (by decide) (by decide))
  have hcount : u.regN (Reg.FBK_ILLCNT p) = min (2 ^ 32 - 1) (s.regN (Reg.FBK_ILLCNT p) + 1) :=
    (d.illcnt_markIllegal x hp).trans (by rw [State.regN_of_reg (hd _)])
  have hwipe : u.wipe 4157528342546 = s.wipe 4157528342546 := (d.markIllegal_wipe x).trans (s.setPort_wipe _ _ _ (by decide))
  obtain ⟨v, hlogs, hoff⟩ := u.fbkRecord_cases hp (status := Code.illegalEdge) (by decide) 3 0 x
  rw [State.bit_of_reg hcfg, State.fld_of_reg hlogq] at hlogs
  rw [State.bit_of_reg hcfg] at hoff
  obtain ⟨l, hport⟩ := d.port_markIllegal_same (p := p) x
  rw [State.port_setPort, if_pos rfl, State.pair_of_reg (hd _) (hd _)] at hport
  refine ⟨_, u, v, exec_quadratureEdge_both hp hon hst ha hb hq, hlogs, hoff, hpos,
    d.illegal_markIllegal x hp, hcount, d.pvalid_markIllegal x, State.spdvalid_restartSpeed _ [],
    State.speed_restartSpeed _ [], ?port, ?past, ?others, ?registers, State.eq_of_wipe_fbk hwipe⟩
  case port => rw [hport]
  case past => rw [hport]; rfl
  case others => exact fun q hne => (d.port_markIllegal_other x hne).trans ((s.port_setPort p q _).trans (if_neg hne))
  case registers => exact fun k hk hpend => (d.reg_markIllegal_other x hp hk hpend).trans (hd k)

end Sys2Proof.Machine

/-! O47. What it says holds of every state in which only functions of the device have buffered writes
(`failedFetchHaltsTheRing_of_bufsOfDevice`), and a BAR2 write of any other function is a fault (R8). But it quantifies over every value
of `State`, whose table of functions may list others. The full write buffers are applied before a write of EN acts (R250); a failing
write raises its function's FAULT source, and the pending bit of a source past the 512 words of them stands in whatever register comes
there: in the refutation TEN_CPL_SIZE of function 0, which then is no size to enable. -/

namespace Sys2Proof.Machine

open Sys2Proof

/-! ### The rows of the rings -/

theorem exec_commandFetch (s : State) {n : Nat} (hn : n < 512) (x : Option Nat) :
    exec (.commandFetch n x) s = .next (s.fetchCmd n x) := by
  show onUnit (okFn n) (s.fetchCmd n x) = _
  rw [onUnit, okFn, decide_eq_true hn, if_pos rfl]

theorem exec_completionWrite (s : State) {n : Nat} (hn : n < 512) : exec (.completionWrite n) s = .next (s.writeCpl n) := by
  show onUnit (okFn n) (s.writeCpl n) = _
  rw [onUnit, okFn, decide_eq_true hn, if_pos rfl]

theorem exec_tenRingCtrlWrite (s : State) {n : Nat} (hn : n < 512) (hpage : s.tenPage n = true) (v : Nat) :
    exec (.tenRingCtrlWrite n v) s = .next ((s.drainBuf n).writeRingCtrl n v) := by
  show onUnit (okFn n) (s.ten n 0x128 v fun s => s.writeRingCtrl n v) = _
  rw [State.ten, State.posted_awake s (State.awake_of_tenPage s hpage), onUnit, okFn, decide_eq_true hn, if_pos rfl]
  simp [hpage]

/-! ### What fault records, interrupt events and buffered writes leave of the rings -/

/-- The registers of a tenant page that set its rings, by offset: CMD_SIZE, CMD_HEAD, CPL_SIZE, CPL_HEAD and RING_CTRL (R252). -/
abbrev ringSetting (k : Nat) : Prop := tenBase ≤ k ∧ k % 0x10000 ∈ [0x108, 0x110, 0x11c, 0x120, 0x128]

/-- The rings' settings, the modes and the link's enables stay; of a function only PME_Status changes and its write buffer,
which stays or is emptied. -/
structure RingsKept (s t : State) : Prop where
  reg : ∀ k, ringSetting k → t.reg k = s.reg k
  fn : ∀ k, ∃ b l, t.fn k = { s.fn k with pmeStatus := b, buf := l } ∧ (l = (s.fn k).buf ∨ l = [])
  up : t.link.up = s.link.up
  vfEnable : t.link.vfEnable = s.link.vfEnable
  pwr : t.pwr = s.pwr

theorem RingsKept.trans {s t u : State} (h : RingsKept s t) (g : RingsKept t u) : RingsKept s u where
  reg k hk := (g.reg k hk).trans (h.reg k hk)
  fn k := by
    obtain ⟨b, l, ht, hl⟩ := h.fn k
    obtain ⟨c, m, hu, hm⟩ := g.fn k
    refine ⟨c, m, by rw [hu, ht], ?_⟩
    rw [ht] at hm
    exact hm.elim (· ▸ hl) .inr
  up := g.up.trans h.up
  vfEnable := g.vfEnable.trans h.vfEnable
  pwr := g.pwr.trans h.pwr

/-- Nothing is written but other registers and tables. -/
theorem RingsKept.of_eq {s t : State} (hreg : ∀ k, ringSetting k → t.reg k = s.reg k) (hfns : t.fns = s.fns)
    (hup : t.link.up = s.link.up) (hvf : t.link.vfEnable = s.link.vfEnable) (hpwr : t.pwr = s.pwr) : RingsKept s t where
  reg := hreg
  fn k := ⟨_, _, by rw [State.fn, hfns]; rfl, .inl rfl⟩
  up := hup
  vfEnable := hvf
  pwr := hpwr

theorem RingsKept.refl (s : State) : RingsKept s s := .of_eq (fun _ _ => rfl) rfl rfl rfl rfl

/-- An operation whose wipe mask names neither registers, functions, link nor modes. -/
theorem RingsKept.of_wipe {s t : State} {m : Nat} (e : t.wipe m = s.wipe m) (hr : m.testBit 4 = false) (hf : m.testBit 38 = false)
    (hl : m.testBit 39 = false) (hp : m.testBit 44 = false) : RingsKept s t :=
  .of_eq (fun k _ => State.reg_of_regs (State.regs_of_wipe e hr) k) (State.fns_of_wipe e hf) (by rw [State.link_of_wipe e hl])
    (by rw [State.link_of_wipe e hl]) (State.pwr_of_wipe e hp)

theorem RingsKept.foldl {α : Type} {g : State → α → State} {l : List α} (h : ∀ s, ∀ x ∈ l, RingsKept s (g s x)) (s : State) :
    RingsKept s (l.foldl g s) := by
  induction l generalizing s with
  | nil => exact .refl s
  | cons x r ih => exact (h s x (by simp)).trans (ih (fun s y hy => h s y (by simp [hy])) _)

section Kept
variable (s : State) {n : Nat}

/-- A write of any other register. The writes of fields, bits and counters are such writes. -/
theorem State.ringsKept_setN {k : Nat} (hk : ¬ringSetting k) (v : Nat) : RingsKept s (s.setN k v) :=
  .of_eq (fun _ hj => s.reg_setN_other (by rintro rfl; exact hk hj) v) rfl rfl rfl rfl

theorem State.ringsKept_send (o : Out) : RingsKept s (s.send o) := .of_eq (fun _ _ => rfl) rfl rfl rfl rfl

theorem State.ringsKept_sendVec (fn v : Nat) : RingsKept s (s.sendVec fn v) := by
  have hw := s.sendVec_wipe0 fn v
  have hlink : (s.sendVec fn v).link.up = s.link.up ∧ (s.sendVec fn v).link.vfEnable = s.link.vfEnable := by
    simp only [State.sendVec]; repeat' split
    all_goals exact ⟨rfl, rfl⟩
  exact .of_eq (fun k _ => State.reg_of_regs (State.regs_of_wipe hw rfl) k) (State.fns_of_wipe hw rfl) hlink.1 hlink.2
    (State.pwr_of_wipe hw rfl)

theorem State.ringsKept_sendAll (ks : List Nat) : RingsKept s (s.sendAll ks) := .foldl (fun u _ _ => u.ringsKept_sendVec _ _) s

theorem State.ringsKept_leaveL1 : RingsKept s s.leaveL1 := by
  simp only [State.leaveL1, State.reachL0]; split
  · exact .refl s
  · refine RingsKept.trans ?_ (State.ringsKept_sendAll _ _)
    exact .of_eq (fun _ _ => rfl) rfl rfl rfl rfl

theorem State.ringsKept_setFn {f : Fn} (hf : ∃ b l, f = { s.fn n with pmeStatus := b, buf := l } ∧ (l = (s.fn n).buf ∨ l = [])) :
    RingsKept s (s.setFn n f) where
  reg _ _ := rfl
  fn k := by
    rw [State.fn_setFn]; split
    · next e => exact e ▸ hf
    · exact ⟨_, _, rfl, .inl rfl⟩
  up := rfl
  vfEnable := rfl
  pwr := rfl

theorem State.ringsKept_sleepEvent (fn : Nat) : RingsKept s (s.sleepEvent fn) := by
  have hset : RingsKept s (s.setFn fn { s.fn fn with pmeStatus := true }) := s.ringsKept_setFn ⟨true, _, rfl, .inl rfl⟩
  simp only [State.sleepEvent]; repeat' split
  · exact hset.trans (State.ringsKept_send ..)
  · exact (hset.trans (State.ringsKept_leaveL1 _)).trans (State.ringsKept_send ..)
  · exact .refl s

theorem State.ringsKept_deliver (id : Nat) : RingsKept s (s.deliver id) := by
  have hbump : ∀ fn v, RingsKept s (s.bumpVec fn v) := fun fn v => by
    refine RingsKept.trans ?_ (State.ringsKept_sleepEvent _ fn)
    exact .of_eq (fun _ _ => rfl) rfl rfl rfl rfl
  simp only [State.deliver, State.countEvent]; repeat' split
  · exact .refl s
  · exact (hbump ..).trans (State.ringsKept_sendVec ..)
  · exact hbump ..

theorem State.ringsKept_raise {id : Nat} (hid : id < 0x4000) : RingsKept s (s.raise id) := by
  have hpend : RingsKept s ((s.notePend id).setSrcPend id true) :=
    (RingsKept.of_wipe (s.notePend_wipe0 id) rfl rfl rfl rfl).trans
      (State.ringsKept_setN _ (by simp only [ringSetting, tenBase, Reg.HVC_PEND]; omega) _)
  simp only [State.raise]; split
  · exact hpend.trans (State.ringsKept_deliver _ id)
  · exact hpend.trans (.of_eq (fun _ _ => rfl) rfl rfl rfl rfl)

theorem State.ringsKept_raisePriv (hn : n < 512) {j : Nat} (hj : j < 24) : RingsKept s (s.raisePriv n j) :=
  s.ringsKept_raise (by omega)

/-- A tenant register at an offset that sets no ring. -/
theorem not_ringSetting {o : Nat} (ho : o < 0x10000) (hne : o ∉ [0x108, 0x110, 0x11c, 0x120, 0x128]) :
    ¬ringSetting (tenBase + n * 0x10000 + o) := by
  rintro ⟨-, h⟩
  rw [show (tenBase + n * 0x10000 + o) % 0x10000 = o by simp only [tenBase]; omega] at h
  exact hne h

theorem State.ringsKept_updFull (hn : n < 512) : RingsKept s (s.updFull n) := by
  have hset : ∀ b, RingsKept s (s.setBit (Reg.TEN_RING_STAT n) 2 b) := fun _ =>
    s.ringsKept_setN (not_ringSetting (o := 0x12c) (by decide) (by decide)) _
  simp only [State.updFull]; split
  · exact (hset _).trans (State.ringsKept_raisePriv _ hn (by decide))
  · exact hset _

theorem State.ringsKept_postRecord (r : Cpl) : RingsKept s (s.postRecord n r) := by
  have htail : ¬ringSetting (Reg.TEN_CPL_TAIL n) := not_ringSetting (o := 0x124) (by decide) (by decide)
  have hsend : ∀ o, RingsKept s (s.leaveL1.send o) := fun o => s.ringsKept_leaveL1.trans (State.ringsKept_send _ o)
  exact ((hsend _).trans (State.ringsKept_setN _ htail _)).trans (State.ringsKept_setN _ htail _)

/-- The first part of a fault record (R257): the eight words of entry `j` of the fault window. -/
def State.setFault (s : State) (n j v : Nat) : State :=
  (List.range 8).foldl (fun s i => s.setN (Reg.TEN_FAULT n (8 * j + i)) (bits v (32 * i) 32)) s

theorem State.ringsKept_setFault {j : Nat} (hj : j < 64) (v : Nat) : RingsKept s (s.setFault n j v) :=
  .foldl (fun u i hi => u.ringsKept_setN (by
    rw [List.mem_range] at hi
    rw [show Reg.TEN_FAULT n (8 * j + i) = tenBase + n * 0x10000 + (0x2000 + 4 * (8 * j + i)) from Nat.add_assoc ..]
    exact not_ringSetting (by omega) (by simp; omega)) _) s

/-- The second part of a fault record: its index, its copy in the completion ring, and the FAULT source. -/
def State.noteFault (s : State) (n j : Nat) (r : Cpl) : State :=
  let s := (s.setFld (Reg.TEN_FAULT_IDX n) 0 6 (j + 1)).incWrap (Reg.TEN_FAULT_IDX n) 16 16
  let s := if s.canPost n = false then s
    else if s.cplFree n then (s.postRecord n r).updFull n
    else s.incSat (Reg.TEN_FAULT_IDX n) 6 10
  s.raisePriv n 17

theorem State.faultRecord_eq (status source object detail : Nat) :
    let r : Cpl := { status := status, kind := 1, user := source % 256, res0 := object, res1 := detail }
    let j := s.fld (Reg.TEN_FAULT_IDX n) 0 6
    s.faultRecord n status source object detail =
      (s.setFault n j (recordValue r (s.fld (Reg.TEN_CPL_TAIL n) 16 1) s.tb.now)).noteFault n j r := rfl

theorem State.ringsKept_noteFault (hn : n < 512) (j : Nat) (r : Cpl) : RingsKept s (s.noteFault n j r) := by
  have hidx : ¬ringSetting (Reg.TEN_FAULT_IDX n) := not_ringSetting (o := 0x2800) (by decide) (by decide)
  have hcount : RingsKept s ((s.setFld (Reg.TEN_FAULT_IDX n) 0 6 (j + 1)).incWrap (Reg.TEN_FAULT_IDX n) 16 16) :=
    (s.ringsKept_setN hidx _).trans (State.ringsKept_setN _ hidx _)
  refine RingsKept.trans ?_ (State.ringsKept_raisePriv _ hn (by decide))
  split
  · exact hcount
  · split
    · exact hcount.trans ((State.ringsKept_postRecord _ r).trans (State.ringsKept_updFull _ hn))
    · exact hcount.trans (State.ringsKept_setN _ hidx _)

theorem State.ringsKept_faultRecord (hn : n < 512) (status source object detail : Nat) :
    RingsKept s (s.faultRecord n status source object detail) := by
  rw [State.faultRecord_eq]
  exact (s.ringsKept_setFault (bits_lt _ 0 6) _).trans (State.ringsKept_noteFault _ hn _ _)

/-! ### The write buffers (R248, R250) -/

theorem State.ringsKept_relRecord (sev code kind block inst addr : Nat) :
    RingsKept s (s.relRecord sev code kind block inst addr) := by
  have hhead : ¬ringSetting Reg.REL_LHEAD := by decide
  simp only [State.relRecord]; split
  · exact .refl s
  · have hput : ∀ x : Rel, RingsKept s ({ s with rel := x } : State) := fun x => .of_eq (fun _ _ => rfl) rfl rfl rfl rfl
    have hset : ∀ x a b, RingsKept s ((({ s with rel := x } : State).setN Reg.REL_LHEAD a).setN Reg.REL_LHEAD b) :=
      fun x _ _ => ((hput x).trans (State.ringsKept_setN _ hhead _)).trans (State.ringsKept_setN _ hhead _)
    repeat' split
    · exact hset ..
    · exact (hset ..).trans (State.ringsKept_raise _ (by decide))
    · exact (hset ..).trans (State.ringsKept_raise _ (by decide))

theorem State.ringsKept_walkCorrect (m a : Nat) : RingsKept s (s.walkCorrect m a) := by
  refine .foldl (fun u w _ => ?_) s
  split
  · have hsoft : ∀ x, RingsKept u ({ u with eccSoft := x } : State) := fun x => .of_eq (fun _ _ => rfl) rfl rfl rfl rfl
    refine RingsKept.trans ?_ (State.ringsKept_relRecord ..)
    exact (hsoft _).trans (State.ringsKept_setN _ (by decide) _)
  · exact .refl u

theorem State.ringsKept_walkFailed (m a src code level : Nat) : RingsKept s (s.walkFailed m a src code level) := by
  have hset : ∀ x y z, RingsKept s (((s.setN Reg.SLM_FAULT_INFO x).setN Reg.SLM_FAULT_ADDR y).setN Reg.SLM_FAULT_CNT z) :=
    fun _ _ _ => ((s.ringsKept_setN (by decide) _).trans (State.ringsKept_setN _ (by decide) _)).trans
      (State.ringsKept_setN _ (by decide) _)
  simp only [State.walkFailed]; split
  · exact (hset ..).trans (State.ringsKept_setN _ (by decide) _)
  · exact hset ..

/-- The state that an access leaves, whether it is made or fails. -/
def Access.left {α : Type} : Access α → State
  | .ok _ s => s
  | .bad _ s => s

theorem State.ringsKept_reach (m a src : Nat) : RingsKept s (s.reach m a src).left := by
  rw [State.reach]; split
  · exact s.ringsKept_walkCorrect m a
  · exact (s.ringsKept_walkCorrect m a).trans (State.ringsKept_walkFailed ..)

theorem State.ringsKept_bar2Reach (hn : n < 512) (a len : Nat) : RingsKept s (s.bar2Reach n a len).left := by
  have hfirst := s.ringsKept_reach n a 4
  simp only [State.bar2Reach]; split
  · next e => rw [e] at hfirst; exact hfirst.trans (State.ringsKept_faultRecord _ hn ..)
  · next u e =>
    rw [e] at hfirst
    have hnext := u.ringsKept_reach n (a + min len (65536 - a % 65536)) 4
    split
    · exact hfirst
    · split
      · next e' => rw [e'] at hnext; exact (hfirst.trans hnext).trans (State.ringsKept_faultRecord _ hn ..)
      · next e' => rw [e'] at hnext; exact hfirst.trans hnext

theorem State.ringsKept_applyPosted (hn : n < 512) (a : Nat) (bs : List (Option Nat)) : RingsKept s (s.applyPosted n a bs) := by
  have hreach := s.ringsKept_bar2Reach hn a bs.length
  rw [State.applyPosted]; split
  · next e => rwa [e] at hreach
  · next l u e =>
    rw [e] at hreach
    exact hreach.trans (List.foldlRecOn (motive := fun x : State × List (Option Nat) => RingsKept u x.1) l _ (.refl u)
      fun x hx r _ => hx.trans (.of_eq (fun _ _ => rfl) rfl rfl rfl rfl))

theorem State.ringsKept_drainOwn (hn : n < 512) : RingsKept s (s.drainOwn n) := by
  simp only [State.drainOwn]; split
  · exact .refl s
  · exact (s.ringsKept_setFn ⟨_, [], rfl, .inr rfl⟩).trans (.foldl (fun u w _ => u.ringsKept_applyPosted hn w.1 w.2) _)

/-- Only functions of the device have buffered writes. -/
def State.BufsOfDevice (s : State) : Prop := ∀ k, 512 ≤ k → (s.fn k).buf = []

theorem RingsKept.bufsOfDevice {s t : State} (h : RingsKept s t) (hbuf : s.BufsOfDevice) : t.BufsOfDevice := by
  intro k hk
  obtain ⟨b, l, ht, hl⟩ := h.fn k
  rw [ht]
  exact hl.elim (·.trans (hbuf k hk)) id

theorem State.ringsKept_drainBuf (hn : n < 512) (hbuf : s.BufsOfDevice) : RingsKept s (s.drainBuf n) := by
  refine RingsKept.trans (.foldl (fun u k hk => u.ringsKept_drainOwn ?_) s) (State.ringsKept_drainOwn _ hn)
  by_contra hge
  simp [State.fullBufs, hbuf k (by omega), bufEntries] at hk

/-! ### The record of a failed fetch (R257, R258) -/

/-- Written are at most the index of the fault window, the completion ring's tail, interrupt sources' pending bits, and of
TEN_RING_STAT the bits below HALTED: what a fault record leaves once its window entry stands. -/
structure FaultKept (n : Nat) (s t : State) : Prop where
  reg : ∀ k, k ∉ [Reg.TEN_FAULT_IDX n, Reg.TEN_CPL_TAIL n, Reg.TEN_RING_STAT n] →
    ¬(Reg.HVC_PEND 0 ≤ k ∧ k < Reg.HVC_PEND 512) → t.reg k = s.reg k
  stat : ∀ a m, 3 ≤ a → t.fld (Reg.TEN_RING_STAT n) a m = s.fld (Reg.TEN_RING_STAT n) a m

theorem FaultKept.trans {s t u : State} (h : FaultKept n s t) (g : FaultKept n t u) : FaultKept n s u where
  reg k hk hp := (g.reg k hk hp).trans (h.reg k hk hp)
  stat a m ha := (g.stat a m ha).trans (h.stat a m ha)

theorem State.faultKept_setN {k : Nat} (hk : k = Reg.TEN_FAULT_IDX n ∨ k = Reg.TEN_CPL_TAIL n) (v : Nat) :
    FaultKept n s (s.setN k v) where
  reg _ hj _ := s.reg_setN_other (by rintro rfl; rcases hk with rfl | rfl <;> simp at hj) v
  stat a m _ := State.fld_of_reg (s.reg_setN_other (by rcases hk with rfl | rfl <;> simp) v) a m

theorem State.faultKept_raisePriv (hn : n < 512) {j : Nat} (hj : j < 24) : FaultKept n s (s.raisePriv n j) where
  reg _ _ hp := s.raise_reg (by omega) hp
  stat a m _ := State.fld_of_reg (s.raise_reg (by omega) (by simp only [Reg.HVC_PEND, Reg.TEN_RING_STAT]; omega)) a m

theorem State.faultKept_updFull (hn : n < 512) : FaultKept n s (s.updFull n) := by
  have hset : ∀ b, FaultKept n s (s.setBit (Reg.TEN_RING_STAT n) 2 b) := fun b =>
    { reg := fun k hk _ => s.reg_setBit_other (by simp at hk; omega) 2 b
      stat := fun a m ha => s.fld_setFld_apart _ 2 1 _ a m (by decide) (.inr ha) }
  simp only [State.updFull]; split
  · exact (hset _).trans (State.faultKept_raisePriv _ hn (by decide))
  · exact hset _

theorem State.faultKept_postRecord (r : Cpl) : FaultKept n s (s.postRecord n r) := by
  have hsend : ∀ o, FaultKept n s (s.leaveL1.send o) := fun o =>
    have hregs : (s.leaveL1.send o).regs = s.regs := State.regs_of_wipe s.leaveL1_wipe0 rfl
    { reg := fun k _ _ => State.reg_of_regs hregs k
      stat := fun a m _ => State.fld_of_reg (State.reg_of_regs hregs _) a m }
  exact ((hsend _).trans (State.faultKept_setN _ (.inr rfl) _)).trans (State.faultKept_setN _ (.inr rfl) _)

theorem State.faultKept_noteFault (hn : n < 512) (j : Nat) (r : Cpl) : FaultKept n s (s.noteFault n j r) := by
  have hcount : FaultKept n s ((s.setFld (Reg.TEN_FAULT_IDX n) 0 6 (j + 1)).incWrap (Reg.TEN_FAULT_IDX n) 16 16) :=
    (s.faultKept_setN (.inl rfl) _).trans (State.faultKept_setN _ (.inl rfl) _)
  refine FaultKept.trans ?_ (State.faultKept_raisePriv _ hn (by decide))
  split
  · exact hcount
  · split
    · exact hcount.trans ((State.faultKept_postRecord _ r).trans (State.faultKept_updFull _ hn))
    · exact hcount.trans (State.faultKept_setN _ (.inl rfl) _)

theorem State.reg_setFault_other {k : Nat} (hk : ∀ i, k ≠ Reg.TEN_FAULT n i) (j v : Nat) : (s.setFault n j v).reg k = s.reg k :=
  List.foldlRecOn (motive := fun u : State => u.reg k = s.reg k) (List.range 8) _ rfl
    fun u hu _ _ => (u.reg_setN_other (hk _) _).trans hu

/-- Of TEN_RING_STAT a fault record writes at most CPL_FULL. -/
theorem State.fld_faultRecord_stat (hn : n < 512) (status source object detail : Nat) {a : Nat} (m : Nat) (ha : 3 ≤ a) :
    (s.faultRecord n status source object detail).fld (Reg.TEN_RING_STAT n) a m = s.fld (Reg.TEN_RING_STAT n) a m := by
  rw [State.faultRecord_eq]
  exact ((State.faultKept_noteFault _ hn _ _).stat a m ha).trans
    (State.fld_of_reg (s.reg_setFault_other (by simp only [Reg.TEN_RING_STAT, Reg.TEN_FAULT]; omega) _ _) a m)

/-- Each word of the window's entry holds its part of the record. -/
theorem State.regN_setFault (j v : Nat) {i : Nat} (hi : i < 8) :
    (s.setFault n j v).regN (Reg.TEN_FAULT n (8 * j + i)) = bits v (32 * i) 32 := by
  have key : ∀ m, i < m → ((List.range m).foldl (fun (s : State) i => s.setN (Reg.TEN_FAULT n (8 * j + i)) (bits v (32 * i) 32))
      s).regN (Reg.TEN_FAULT n (8 * j + i)) = bits v (32 * i) 32 := by
    intro m
    induction m with
    | zero => omega
    | succ m ih =>
      intro him
      rw [List.range_succ, List.foldl_append, List.foldl_cons, List.foldl_nil]
      by_cases e : i = m
      · rw [e, State.regN_setN_same, Nat.mod_eq_of_lt (bits_lt ..)]
      · rw [State.regN_of_reg (State.reg_setN_other _ (by simp only [Reg.TEN_FAULT]; omega) _), ih (by omega)]
  exact key 8 hi

/-- A fault record with a source and a detail (R257): words 1 and 4 of its window entry. -/
theorem State.words_faultRecord (hn : n < 512) (status source object detail : Nat) :
    let t := s.faultRecord n status source object detail
    let slot := s.fld (Reg.TEN_FAULT_IDX n) 0 6
    t.regN (Reg.TEN_FAULT n (8 * slot + 1)) = source % 256 ∧ t.regN (Reg.TEN_FAULT n (8 * slot + 4)) = detail % 2 ^ 32 := by
  intro t slot
  let r : Cpl := { status := status, kind := 1, user := source % 256, res0 := object, res1 := detail }
  let v := recordValue r (s.fld (Reg.TEN_CPL_TAIL n) 16 1) s.tb.now
  have hslot : slot < 64 := bits_lt _ 0 6
  have hword : ∀ i < 8, t.regN (Reg.TEN_FAULT n (8 * slot + i)) = bits v (32 * i) 32 := fun i hi =>
    (State.regN_of_reg ((State.faultKept_noteFault _ hn slot r).reg _
      (by simp only [Reg.TEN_FAULT, Reg.TEN_FAULT_IDX, Reg.TEN_CPL_TAIL, Reg.TEN_RING_STAT, List.mem_cons, List.not_mem_nil,
        or_false]; omega)
      (by simp only [Reg.HVC_PEND, Reg.TEN_FAULT]; omega))).trans (s.regN_setFault slot v hi)
  refine ⟨(hword 1 (by decide)).trans ?_, (hword 4 (by decide)).trans ?_⟩
  · simp only [v, r, recordValue, bits]; omega
  · simp only [v, r, recordValue, bits]; omega

/-! ### The failed fetch, the records after it, and the restart (R252, R255, R258) -/

/-- What a function needs to be fetched from. -/
theorem State.ring_of_mayFetchCmd (h : s.mayFetchCmd n = true) :
    s.bit (Reg.TEN_RING_CTRL n) 0 = true ∧ s.bit (Reg.TEN_RING_STAT n) 3 = false ∧ s.canWrite n = true := by
  simp only [State.mayFetchCmd, Bool.and_eq_true, Bool.not_eq_true'] at h
  tauto

/-- From a ring that is halted nothing is fetched. -/
theorem State.fetchCmd_of_halted (h : s.bit (Reg.TEN_RING_STAT n) 3 = true) (x : Option Nat) : s.fetchCmd n x = s := by
  refine if_pos fun hnext => ?_
  obtain ⟨-, hrun, -⟩ := s.ring_of_mayFetchCmd (s.nextFetch_may hnext)
  exact absurd hrun (by simp [h])

/-- The ring of a failed fetch is halted with its code. -/
def State.haltRing (s : State) (n : Nat) : State :=
  let s := { s with turns := { s.turns with fetch := n } }
  (s.setBit (Reg.TEN_RING_STAT n) 3 true).setFld (Reg.TEN_RING_STAT n) 8 8 Code.busError

theorem State.fetchCmd_failed (hnext : s.nextFetch = some n) : s.fetchCmd n none =
    ((s.haltRing n).faultRecord n Code.busError FSrc.ring 0 (s.fld (Reg.TEN_CMD_HEAD n) 0 12)).raisePriv n 21 :=
  if_neg (not_not.mpr hnext)

theorem State.reg_haltRing_other {k : Nat} (hk : k ≠ Reg.TEN_RING_STAT n) : (s.haltRing n).reg k = s.reg k :=
  (State.reg_setFld_other _ hk ..).trans (State.reg_setBit_other _ hk ..)

theorem State.ringsKept_fetchCmd_failed (hn : n < 512) (hnext : s.nextFetch = some n) : RingsKept s (s.fetchCmd n none) := by
  have hstat : ¬ringSetting (Reg.TEN_RING_STAT n) := not_ringSetting (o := 0x12c) (by decide) (by decide)
  have hturn : RingsKept s { s with turns := { s.turns with fetch := n } } := .of_eq (fun _ _ => rfl) rfl rfl rfl rfl
  have hhalt : RingsKept s (s.haltRing n) :=
    (hturn.trans (State.ringsKept_setN _ hstat _)).trans (State.ringsKept_setN _ hstat _)
  rw [s.fetchCmd_failed hnext]
  exact (hhalt.trans (State.ringsKept_faultRecord _ hn ..)).trans (State.ringsKept_raisePriv _ hn (by decide))

/-- A bit is its field of width 1. -/
theorem State.bit_eq_fld (k i : Nat) : s.bit k i = decide (s.fld k i 1 = 1) := rfl

/-- HALTED, CODE and the words of the fault record after a failed fetch (R258). -/
theorem State.halted_fetchCmd_failed (hn : n < 512) (hnext : s.nextFetch = some n) :
    let t := s.fetchCmd n none
    let slot := s.fld (Reg.TEN_FAULT_IDX n) 0 6
    let h := s.fld (Reg.TEN_CMD_HEAD n) 0 12
    t.bit (Reg.TEN_RING_STAT n) 3 = true ∧ t.fld (Reg.TEN_RING_STAT n) 8 8 = 0x10 ∧
      t.regN (Reg.TEN_FAULT n (8 * slot + 1)) = 6 ∧ t.regN (Reg.TEN_FAULT n (8 * slot + 4)) = h := by
  intro t slot h
  let u := (s.haltRing n).faultRecord n Code.busError FSrc.ring 0 h
  have ht : t = u.raisePriv n 21 := s.fetchCmd_failed hnext
  have hraise : FaultKept n u t := ht ▸ u.faultKept_raisePriv hn (by decide)
  have hstat : ∀ a m, 3 ≤ a → t.fld (Reg.TEN_RING_STAT n) a m = (s.haltRing n).fld (Reg.TEN_RING_STAT n) a m := fun a m ha =>
    (hraise.stat a m ha).trans (State.fld_faultRecord_stat _ hn _ _ _ _ m ha)
  have hhalted : (s.haltRing n).bit (Reg.TEN_RING_STAT n) 3 = true := by
    rw [State.bit_eq_fld, State.haltRing, State.fld_setFld_apart _ _ 8 8 _ 3 1 (by decide) (by decide), ← State.bit_eq_fld]
    exact State.bit_setBit_same _ _ 3 true (by decide)
  have hcode : (s.haltRing n).fld (Reg.TEN_RING_STAT n) 8 8 = 0x10 := State.fld_setFld_same _ _ 8 8 _ (by decide)
  have hslot : (s.haltRing n).fld (Reg.TEN_FAULT_IDX n) 0 6 = slot := State.fld_of_reg (s.reg_haltRing_other (by simp)) 0 6
  obtain ⟨hsource, hdetail⟩ := (s.haltRing n).words_faultRecord hn Code.busError FSrc.ring 0 h
  rw [hslot] at hsource hdetail
  have hword : ∀ i < 8, t.regN (Reg.TEN_FAULT n (8 * slot + i)) = u.regN (Reg.TEN_FAULT n (8 * slot + i)) := fun i hi =>
    State.regN_of_reg (ht ▸ State.raise_reg _ (by omega) (by simp only [Reg.HVC_PEND, Reg.TEN_FAULT]; omega))
  have hh : h < 2 ^ 32 := (bits_lt _ 0 12).trans (by decide)
  refine ⟨?_, (hstat 8 8 (by decide)).trans hcode, (hword 1 (by decide)).trans hsource,
    (hword 4 (by decide)).trans (hdetail.trans (Nat.mod_eq_of_lt hh))⟩
  rw [State.bit_eq_fld, hstat 3 1 (by decide), ← State.bit_eq_fld, hhalted]

/-- Writes of the host reach a function's page as before. -/
theorem RingsKept.tenPage {s t : State} (h : RingsKept s t) (n : Nat) : t.tenPage n = s.tenPage n := by
  obtain ⟨b, l, hfn, -⟩ := h.fn n
  simp only [State.tenPage, State.accepts, State.arrives, State.dozing, h.up, h.vfEnable, h.pwr, hfn]

theorem RingsKept.canWrite {s t : State} (h : RingsKept s t) (n : Nat) : t.canWrite n = s.canWrite n := by
  obtain ⟨b, l, hfn, -⟩ := h.fn n
  unfold State.canWrite State.mode
  rw [h.up, h.pwr, hfn]

/-- The register at an offset of a tenant page that sets a ring. -/
theorem RingsKept.reg_ten {s t : State} (h : RingsKept s t) (n : Nat) {o : Nat} (ho : o ∈ [0x108, 0x110, 0x11c, 0x120, 0x128]) :
    t.reg (tenBase + n * 0x10000 + o) = s.reg (tenBase + n * 0x10000 + o) := by
  refine h.reg _ ⟨by omega, ?_⟩
  have hlt : o < 0x10000 := by simp only [List.mem_cons, List.not_mem_nil, or_false] at ho; omega
  rwa [show (tenBase + n * 0x10000 + o) % 0x10000 = o by simp only [tenBase]; omega]

/-- The oldest waiting record goes out, with its command, and no other record or command does. -/
theorem State.writeCpl_cons (hn : n < 512) {r : Cpl} {rest : List Cpl} (hwait : (s.fn n).waiting = r :: rest)
    (hcan : s.canWrite n = true) (hfree : s.cplFree n = true) :
    ((s.writeCpl n).fn n).waiting = rest ∧
      ((s.writeCpl n).fn n).inflight = (s.fn n).inflight.filter (fun c => !(r.holdsTag && decide (c.tag = r.tag))) := by
  let f : Fn := { s.fn n with
    waiting := rest, inflight := (s.fn n).inflight.filter fun c => !(r.holdsTag && decide (c.tag = r.tag)) }
  have hkept : RingsKept (s.setFn n f) (s.writeCpl n) := by
    have hpost : RingsKept (s.setFn n f) (((s.setFn n f).postRecord n r).updFull n) :=
      (State.ringsKept_postRecord _ r).trans (State.ringsKept_updFull _ hn)
    simp only [State.writeCpl, hwait, hcan, hfree, Bool.true_eq_false, or_self, if_false]
    repeat' split
    · exact hpost.trans (State.ringsKept_raisePriv _ hn (by decide))
    · exact hpost.trans (State.ringsKept_raisePriv _ hn (by decide))
    · exact hpost
  obtain ⟨b, l, hfn, -⟩ := hkept.fn n
  rw [State.fn_setFn, if_pos rfl] at hfn
  exact ⟨by rw [hfn], by rw [hfn]⟩

/-- EN written 1 to a disabled ring of sizes in range enables it and clears HALTED (R252). -/
theorem State.writeRingCtrl_enables (hn : n < 512) (hoff : s.bit (Reg.TEN_RING_CTRL n) 0 = false)
    (hcmd : ringLog (s.fld (Reg.TEN_CMD_SIZE n) 0 4) = true) (hcpl : ringLog (s.fld (Reg.TEN_CPL_SIZE n) 0 4) = true) :
    (s.writeRingCtrl n 1).bit (Reg.TEN_RING_CTRL n) 0 = true ∧ (s.writeRingCtrl n 1).bit (Reg.TEN_RING_STAT n) 3 = false := by
  let u := (s.setBit (Reg.TEN_RING_CTRL n) 0 true).setBit (Reg.TEN_RING_STAT n) 3 false
  let w := ((u.setFld (Reg.TEN_CMD_HEAD n) 0 12 0).setFld (Reg.TEN_CPL_HEAD n) 0 12 0).setN (Reg.TEN_CPL_TAIL n) (2 ^ 16)
  let v := w.setFn n { w.fn n with cmdTail := 0, ringed := true }
  have hwrite : s.writeRingCtrl n 1 = v.updFull n := by
    rw [State.writeRingCtrl, if_neg (by decide), if_neg (by simp [hoff]), if_neg (by simp [hcmd, hcpl])]
  have hv : ∀ k, k ≠ Reg.TEN_CMD_HEAD n → k ≠ Reg.TEN_CPL_HEAD n → k ≠ Reg.TEN_CPL_TAIL n → v.reg k = u.reg k :=
    fun k hhead hchead htail => calc
      v.reg k = w.reg k := State.reg_of_regs (State.setFn_regs ..) k
      _ = ((u.setFld (Reg.TEN_CMD_HEAD n) 0 12 0).setFld (Reg.TEN_CPL_HEAD n) 0 12 0).reg k := State.reg_setN_other _ htail _
      _ = (u.setFld (Reg.TEN_CMD_HEAD n) 0 12 0).reg k := State.reg_setFld_other _ hchead ..
      _ = u.reg k := State.reg_setFld_other _ hhead ..
  have hen : (v.updFull n).bit (Reg.TEN_RING_CTRL n) 0 = v.bit (Reg.TEN_RING_CTRL n) 0 :=
    State.bit_of_reg ((State.ringsKept_updFull v hn).reg_ten n (o := 0x128) (by decide)) 0
  have hhalted : (v.updFull n).bit (Reg.TEN_RING_STAT n) 3 = v.bit (Reg.TEN_RING_STAT n) 3 := by
    rw [State.bit_eq_fld, (State.faultKept_updFull v hn).stat 3 1 (by decide), ← State.bit_eq_fld]
  rw [hwrite, hen, hhalted, State.bit_of_reg (hv _ (by simp) (by simp) (by simp)), State.bit_of_reg (hv _ (by simp) (by simp) (by simp))]
  exact ⟨(State.bit_of_reg (State.reg_setBit_other _ (by simp) ..) 0).trans (State.bit_setBit_same _ _ 0 true (by decide)),
    State.bit_setBit_same _ _ 3 false (by decide)⟩

/-- EN written 0 and then 1 restarts a ring of sizes in range (R258), the writes of other functions applied on the way. -/
theorem State.restarts (hn : n < 512) (hbuf : s.BufsOfDevice) (hpage : s.tenPage n = true)
    (hcmd : ringLog (s.fld (Reg.TEN_CMD_SIZE n) 0 4) = true) (hcpl : ringLog (s.fld (Reg.TEN_CPL_SIZE n) 0 4) = true) :
    ∃ u w : State, exec (.tenRingCtrlWrite n 0) s = .next u ∧ u.bit (Reg.TEN_RING_CTRL n) 0 = false ∧
      exec (.tenRingCtrlWrite n 1) u = .next w ∧ w.bit (Reg.TEN_RING_CTRL n) 0 = true ∧ w.bit (Reg.TEN_RING_STAT n) 3 = false := by
  let d := s.drainBuf n
  let u := d.setBit (Reg.TEN_RING_CTRL n) 0 false
  let e := u.drainBuf n
  have hd : RingsKept s d := s.ringsKept_drainBuf hn hbuf
  have hbufU : u.BufsOfDevice := hd.bufsOfDevice hbuf
  have he : RingsKept u e := u.ringsKept_drainBuf hn hbufU
  have hpageU : u.tenPage n = true := (hd.tenPage n).trans hpage
  have hu : u.bit (Reg.TEN_RING_CTRL n) 0 = false := State.bit_setBit_same _ _ 0 false (by decide)
  have hoff : e.bit (Reg.TEN_RING_CTRL n) 0 = false := (State.bit_of_reg (he.reg_ten n (o := 0x128) (by decide)) 0).trans hu
  have hsize : ∀ o ∈ [0x108, 0x11c], e.reg (tenBase + n * 0x10000 + o) = s.reg (tenBase + n * 0x10000 + o) := fun o ho => by
    simp only [List.mem_cons, List.not_mem_nil, or_false] at ho
    exact ((he.reg_ten n (by simp; omega)).trans (State.reg_setBit_other _ (by simp only [Reg.TEN_RING_CTRL, tenBase]; omega) ..)).trans
      (hd.reg_ten n (by simp; omega))
  rw [← State.fld_of_reg (hsize 0x108 (by decide))] at hcmd
  rw [← State.fld_of_reg (hsize 0x11c (by decide))] at hcpl
  obtain ⟨hen, hrun⟩ := e.writeRingCtrl_enables hn hoff hcmd hcpl
  exact ⟨u, e.writeRingCtrl n 1, exec_tenRingCtrlWrite s hn hpage 0, hu, exec_tenRingCtrlWrite u hn hpageU 1, hen, hrun⟩

/-- The statement of O47 holds of every state in which only functions of the device have buffered writes. -/
theorem failedFetchHaltsTheRing_of_bufsOfDevice (hn : n < 512) (hnext : s.nextFetch = some n) (hbuf : s.BufsOfDevice) :
    let ctrl := Reg.TEN_RING_CTRL n
    let stat := Reg.TEN_RING_STAT n
    let h := s.fld (Reg.TEN_CMD_HEAD n) 0 12
    let slot := s.fld (Reg.TEN_FAULT_IDX n) 0 6
    let z := 2 ^ s.fld (Reg.TEN_CPL_SIZE n) 0 4
    let ok (k : Nat) := 4 ≤ s.fld k 0 4 ∧ s.fld k 0 4 ≤ 12
    ∃ t : State, exec (.commandFetch n none) s = .next t ∧ t.bit ctrl 0 = true ∧ t.bit stat 3 = true ∧ t.fld stat 8 8 = 0x10 ∧
      t.regN (Reg.TEN_FAULT n (8 * slot + 1)) = 6 ∧ t.regN (Reg.TEN_FAULT n (8 * slot + 4)) = h ∧ t.fld (Reg.TEN_CMD_HEAD n) 0 12 = h ∧
      (∀ x, exec (.commandFetch n x) t = .next t) ∧ (t.fn n).inflight = (s.fn n).inflight ∧ (t.fn n).waiting = (s.fn n).waiting ∧
      (∀ r rest, (s.fn n).waiting = r :: rest → (t.fld (Reg.TEN_CPL_TAIL n) 0 12 + 1) % z ≠ t.fld (Reg.TEN_CPL_HEAD n) 0 12 % z →
        ∃ w : State, exec (.completionWrite n) t = .next w ∧ (w.fn n).waiting = rest ∧
          (w.fn n).inflight = (s.fn n).inflight.filter (fun c => !(r.holdsTag && decide (c.tag = r.tag)))) ∧
      (s.tenPage n = true → ok (Reg.TEN_CMD_SIZE n) → ok (Reg.TEN_CPL_SIZE n) → ∃ u w : State, exec (.tenRingCtrlWrite n 0) t = .next u ∧
        u.bit ctrl 0 = false ∧ exec (.tenRingCtrlWrite n 1) u = .next w ∧ w.bit ctrl 0 = true ∧ w.bit stat 3 = false) := by
  intro ctrl stat h slot z ok
  let t := s.fetchCmd n none
  have hkept : RingsKept s t := s.ringsKept_fetchCmd_failed hn hnext
  obtain ⟨hen, -, hcan⟩ := s.ring_of_mayFetchCmd (s.nextFetch_may hnext)
  obtain ⟨hhalted, hcode, hsource, hdetail⟩ := s.halted_fetchCmd_failed hn hnext
  have hcmd : t.reg (Reg.TEN_CMD_SIZE n) = s.reg (Reg.TEN_CMD_SIZE n) := hkept.reg_ten n (o := 0x108) (by decide)
  have hcpl : t.reg (Reg.TEN_CPL_SIZE n) = s.reg (Reg.TEN_CPL_SIZE n) := hkept.reg_ten n (o := 0x11c) (by decide)
  obtain ⟨b, l, hfn, -⟩ := hkept.fn n
  have hinflight : (t.fn n).inflight = (s.fn n).inflight := by rw [hfn]
  have hwaiting : (t.fn n).waiting = (s.fn n).waiting := by rw [hfn]
  refine ⟨t, exec_commandFetch s hn none, ?enabled, hhalted, hcode, hsource, hdetail, ?head, ?fetches, hinflight, hwaiting, ?records,
    ?restarts⟩
  case enabled => exact (State.bit_of_reg (hkept.reg_ten n (o := 0x128) (by decide)) 0).trans hen
  case head => exact State.fld_of_reg (hkept.reg_ten n (o := 0x110) (by decide)) 0 12
  case fetches => exact fun x => (exec_commandFetch t hn x).trans (congrArg _ (t.fetchCmd_of_halted hhalted x))
  case records =>
    intro r rest hwait hroom
    have hfree : t.cplFree n = true := by
      rw [State.cplFree, State.cplSize, State.fld_of_reg hcpl]
      exact decide_eq_true hroom
    obtain ⟨hrest, hleft⟩ := t.writeCpl_cons hn (hwaiting.trans hwait) ((hkept.canWrite n).trans hcan) hfree
    exact ⟨_, exec_completionWrite t hn, hrest, hleft.trans (by rw [hinflight])⟩
  case restarts =>
    intro hpage hokCmd hokCpl
    exact t.restarts hn (hkept.bufsOfDevice hbuf) ((hkept.tenPage n).trans hpage)
      (by rw [State.fld_of_reg hcmd]; exact decide_eq_true hokCmd) (by rw [State.fld_of_reg hcpl]; exact decide_eq_true hokCpl)

end Kept

/-! ### A full buffer of a function past the last -/

/-- The source whose pending bit, past the 512 words of them, is bit 1 of TEN_CPL_SIZE of function 0. -/
def straySource : Nat := (Reg.TEN_CPL_SIZE 0 - Reg.HVC_PEND 0) / 4 * 32 + 1

/-- The function whose FAULT source (R273) that is, far past the device's 512. -/
def strayFn : Nat := (straySource - 17) / 24

/-- Function 0 has a command to fetch and rings of 4,096 entries. -/
def oneRing : State where
  regs := [(Reg.TEN_CMD_SIZE 0, 12), (Reg.TEN_CPL_SIZE 0, 12), (Reg.TEN_RING_CTRL 0, 1)]
  fns := [(0, { bme := true, ringed := true, cmdTail := 1 })]
  link := { up := true }
  pwr := { mode := Mode.run }
  tb := { running := true }

/-- `oneRing` meets the hypotheses of `failedFetchHaltsTheRing_of_bufsOfDevice`. -/
theorem oneRing_bufsOfDevice : oneRing.nextFetch = some 0 ∧ oneRing.BufsOfDevice := by
  refine ⟨by decide +kernel, fun k hk => ?_⟩
  have hne : 0 ≠ k := by omega
  simp [State.fn, oneRing, Tbl.get, hne]

/-- The stray function's buffer is full, with one write that no slab page maps. -/
def strayBuffer : State := { oneRing with fns := oneRing.fns ++ [(strayFn, { buf := [(0, List.replicate 4096 none)] })] }

/-- The invariants of O3 and O4 do not exclude the state. -/
theorem strayBuffer_canonical : strayBuffer.canonical = true ∧ strayBuffer.modeSound = true := by decide +kernel

/-- After the failed fetch. -/
def strayHalted : State := strayBuffer.fetchCmd 0 none

/-- After EN is written 0. -/
def strayStopped : State := (strayHalted.drainBuf 0).writeRingCtrl 0 0

/-- After EN is written 1. -/
def strayRestart : State := (strayStopped.drainBuf 0).writeRingCtrl 0 1

/-- Applying the stray buffer before the first write of EN makes 14 of the ring's size 12. -/
theorem cplSize_stray : strayHalted.fld (Reg.TEN_CPL_SIZE 0) 0 4 = 12 ∧
    (strayStopped.drainBuf 0).fld (Reg.TEN_CPL_SIZE 0) 0 4 = 14 := by decide +kernel

/-- A ring of a size out of range stays disabled (R252). -/
theorem State.writeRingCtrl_badSize (s : State) {n : Nat} (hoff : s.bit (Reg.TEN_RING_CTRL n) 0 = false)
    (hsize : ringLog (s.fld (Reg.TEN_CPL_SIZE n) 0 4) = false) : (s.writeRingCtrl n 1).bit (Reg.TEN_RING_CTRL n) 0 = false := by
  rw [State.writeRingCtrl, if_neg (by decide), if_neg (by simp [hoff]), if_pos (.inr hsize)]
  exact (State.bit_of_reg (State.reg_setFld_other _ (by simp) ..) 0).trans hoff

theorem disabled_strayRestart : strayRestart.bit (Reg.TEN_RING_CTRL 0) 0 = false :=
  State.writeRingCtrl_badSize _ (by decide +kernel) (by rw [cplSize_stray.2]; decide)

/-- Refutes O47: in `strayBuffer` the ring of function 0 halts, and EN written 0 and then 1 leaves it disabled. -/
theorem not_failedFetchHaltsTheRing : ¬ Obligations.FailedFetchHaltsTheRing := by
  intro h
  obtain ⟨t, hfetch, -, -, -, -, -, -, -, -, -, -, hrestart⟩ := h strayBuffer 0 (by decide) (by decide +kernel)
  obtain ⟨u, w, hstop, -, hstart, henabled, -⟩ := hrestart (by decide +kernel) (by decide +kernel) (by decide +kernel)
  have ht : strayHalted = t := Host.Outcome.next.inj ((exec_commandFetch strayBuffer (by decide) none).symm.trans hfetch)
  rw [← ht, exec_tenRingCtrlWrite strayHalted (by decide) (by decide +kernel)] at hstop
  have hu : strayStopped = u := Host.Outcome.next.inj hstop
  rw [← hu, exec_tenRingCtrlWrite strayStopped (by decide) (by decide +kernel)] at hstart
  have hw : strayRestart = w := Host.Outcome.next.inj hstart
  rw [← hw, disabled_strayRestart] at henabled
  exact Bool.false_ne_true henabled

end Sys2Proof.Machine

/-! The proof of O54: what a write of HVC_COMPLETE does (R286), by where its ID stands on the core's stack and by
HVC_CTRL.STRICT. Each of the three outcomes of a completion that is not for the top first writes HVC_STK_INFO and
HVC_STK_CNT (`State.stackInfo`); what stands there is said once, and so is what a REL record of severity 0 writes. -/

namespace Sys2Proof.Machine

open Sys2Proof

section Completion
variable (s : State) {c id : Nat}

/-! ### Commands that write registers alone -/

theorem State.onlyRegs_setN (k v : Nat) : OnlyRegs [k] s (s.setN k v) :=
  ⟨rfl, fun _ hj => s.reg_setN_other (List.ne_of_not_mem_cons hj) v⟩

theorem OnlyRegs.trans {ks ls : List Nat} {s t u : State} (h : OnlyRegs ks s t) (g : OnlyRegs ls t u) :
    OnlyRegs (ks ++ ls) s u := by
  obtain ⟨ht, hks⟩ := h
  obtain ⟨hu, hls⟩ := g
  refine ⟨by rw [hu, ht], fun k hk => ?_⟩
  rw [List.mem_append, not_or] at hk
  exact (hls k hk.2).trans (hks k hk.1)

/-- With a stack written after it, nothing differs but registers and stacks. -/
theorem OnlyRegs.setStack_eq {ks : List Nat} {s t : State} (h : OnlyRegs ks s t) (l : List (Nat × Nat)) :
    t.setStack c l = { s with regs := (t.setStack c l).regs, coreStacks := (t.setStack c l).coreStacks } := by
  obtain ⟨ht, -⟩ := h
  rw [ht]
  rfl

theorem OnlyRegs.coreStacks_eq {ks : List Nat} {s t : State} (h : OnlyRegs ks s t) : t.coreStacks = s.coreStacks := by rw [h.1]

theorem OnlyRegs.tb_eq {ks : List Nat} {s t : State} (h : OnlyRegs ks s t) : t.tb = s.tb := by rw [h.1]

/-! ### Stacks, pending bits and REL records -/

theorem State.stack_setStack_same (c : Nat) (v : List (Nat × Nat)) : (s.setStack c v).stack c = v := Tbl.get_set_same ..

theorem State.stack_setStack_other {c j : Nat} (h : j ≠ c) (v : List (Nat × Nat)) : (s.setStack c v).stack j = s.stack j :=
  Tbl.get_set_other _ _ h v

theorem State.reg_setStack (c : Nat) (v : List (Nat × Nat)) (k : Nat) : (s.setStack c v).reg k = s.reg k :=
  State.reg_of_regs (State.setStack_regs ..) k

/-- A stack is read from the table of stacks alone. -/
theorem State.stack_of_coreStacks {s t : State} (h : t.coreStacks = s.coreStacks) (j : Nat) : t.stack j = s.stack j := by
  simp only [State.stack, h]

/-- An event of a source sets its pending bit. -/
theorem State.srcPend_raise (id : Nat) : (s.raise id).srcPend id = true := by
  have hset : ((s.notePend id).setSrcPend id true).srcPend id = true :=
    State.bit_setBit_same _ _ _ true (Nat.mod_lt _ (by decide))
  simp only [State.raise]
  split
  · exact (State.bit_of_reg (State.reg_of_regs (State.regs_of_wipe (State.deliver_wipe0 _ id) rfl) _) _).trans hset
  · exact (State.bit_of_reg (State.reg_of_regs (State.setSrc_regs ..) _) _).trans hset

/-- A record of severity 0 raises no source: of the registers it writes REL_LHEAD alone (R359). -/
theorem State.reg_relRecord_quiet {k : Nat} (hk : k ≠ Reg.REL_LHEAD) (code kind block inst addr : Nat) :
    (s.relRecord 0 code kind block inst addr).reg k = s.reg k := by
  have hrel : ∀ x : Rel, ({ s with rel := x } : State).reg k = s.reg k := fun _ => rfl
  simp only [State.relRecord, if_true]
  split
  · rfl
  · rw [State.incWrap, State.reg_setFld_other _ hk, State.reg_setFld_other _ hk, hrel]

/-- While steward pair 1 is up the record takes the entry at REL_LHEAD, which steps, and carries its code (R351, R359). -/
theorem State.relRecord_quiet (hup : s.pairUp 1 = true) (hnow : s.tb.now < 2 ^ 60) (code kind block inst addr : Nat) :
    let t := s.relRecord 0 code kind block inst addr
    t.fld Reg.REL_LHEAD 0 10 = (s.fld Reg.REL_LHEAD 0 10 + 1) % 1024 ∧
      bits (Tbl.get 0 t.rel.ring (s.fld Reg.REL_LHEAD 0 10)).toNat 64 8 = code % 256 := by
  simp only [State.relRecord, hup, Bool.true_eq_false, if_false, if_true]
  constructor
  · rw [State.incWrap, State.fld_setFld_apart _ _ 16 16 _ 0 10 (by decide) (by decide)]
    exact State.fld_setFld_same _ _ 0 10 _ (by decide)
  · rw [State.incWrap_rel, State.setFld_rel, Tbl.get_set_same, BitVec.toNat_ofNat]
    have hmissed : b2n s.rel.missed ≤ 1 := by cases s.rel.missed <;> decide
    simp only [bits]
    omega

/-! ### What a fault of the stack records (R286) -/

theorem State.onlyRegs_stackInfo : OnlyRegs [Reg.HVC_STK_INFO, Reg.HVC_STK_CNT] s (s.stackInfo c id) :=
  (s.onlyRegs_setN _ _).trans (State.onlyRegs_setN _ _ _)

/-- The record with PG_ERR.STACK_FAULT. -/
theorem State.onlyRegs_pgErr_stackInfo :
    OnlyRegs [Reg.HVC_STK_INFO, Reg.HVC_STK_CNT, Reg.PG_ERR hvcPage] s ((s.stackInfo c id).pgErr hvcPage 16) :=
  s.onlyRegs_stackInfo.trans (State.onlyRegs_setN _ _ _)

theorem State.stkCnt_stackInfo :
    (s.stackInfo c id).regN Reg.HVC_STK_CNT = min (2 ^ 32 - 1) (s.regN Reg.HVC_STK_CNT + 1) := by
  rw [State.stackInfo, State.regN_incSat_whole, State.regN_of_reg (State.reg_setN_other _ (by decide) _)]

/-- HVC_STK_INFO as one number: the core, the ID on top or 0x3FFF, the ID written, and whether that is absent. -/
theorem State.regN_stkInfo_stackInfo (hc : c < 4) (hid : id < 0x4000) :
    (s.stackInfo c id).regN Reg.HVC_STK_INFO = c + ((s.stack c).headD (0x3FFF, 0)).1 % 2 ^ 14 * 2 ^ 2 + id * 2 ^ 16 +
      b2n (!(s.stack c).any fun x => x.1 == id) * 2 ^ 30 := by
  have habsent : b2n (!(s.stack c).any fun x => x.1 == id) ≤ 1 := by
    cases (s.stack c).any fun x => x.1 == id <;> decide
  rw [State.stackInfo, State.incSat, State.regN_of_reg (State.reg_setFld_other _ (by decide) ..), State.regN_setN_same]
  generalize b2n (!(s.stack c).any fun x => x.1 == id) = absent at habsent ⊢
  cases s.stack c with
  | nil => simp only [List.headD_nil]; omega
  | cons x r => simp only [List.headD_cons]; omega

/-- The fields of HVC_STK_INFO. -/
theorem State.stkInfo_stackInfo (hc : c < 4) (hid : id < 0x4000) :
    let t := s.stackInfo c id
    t.fld Reg.HVC_STK_INFO 0 2 = c ∧ t.fld Reg.HVC_STK_INFO 16 14 = id ∧
      t.bit Reg.HVC_STK_INFO 30 = !decide (∃ x ∈ s.stack c, x.1 = id) ∧
      ∀ x r, s.stack c = x :: r → t.fld Reg.HVC_STK_INFO 2 14 = x.1 % 2 ^ 14 := by
  intro t
  have hany : ((s.stack c).any fun x => x.1 == id) = decide (∃ x ∈ s.stack c, x.1 = id) := by
    rw [Bool.eq_iff_iff]; simp
  have habsent : b2n (!decide (∃ x ∈ s.stack c, x.1 = id)) ≤ 1 := by
    cases decide (∃ x ∈ s.stack c, x.1 = id) <;> decide
  have hvalue := s.regN_stkInfo_stackInfo hc hid
  rw [hany] at hvalue
  refine ⟨?core, ?written, ?missing, ?top⟩
  case core => simp only [t, State.fld, bits, hvalue]; omega
  case written => simp only [t, State.fld, bits, hvalue]; omega
  case missing =>
    have hbit : t.regN Reg.HVC_STK_INFO / 2 ^ 30 % 2 = b2n (!decide (∃ x ∈ s.stack c, x.1 = id)) := by rw [hvalue]; omega
    simp only [State.bit, bitAt, hbit, b2n_eq_one, Bool.decide_eq_true]
  case top =>
    intro x r hstack
    rw [hstack, List.headD_cons] at hvalue
    simp only [t, State.fld, bits, hvalue]; omega

/-! ### The outcomes of a completion (R286) -/

theorem exec_hvcComplete (hc : c < 4) (hid : id < 0x4000) (hoff : s.mode ≠ Mode.off) (hdoze : s.mode ≠ Mode.doze) :
    exec (.hvcComplete c id) s = .next (s.complete c id) := by
  show onUnit (okCore c) (if s.mode = Mode.off ∨ s.mode = Mode.doze then s else s.complete c (id % 2 ^ 14)) = _
  rw [if_neg (not_or.mpr ⟨hoff, hdoze⟩), show id % 2 ^ 14 = id from Nat.mod_eq_of_lt hid, onUnit, okCore, decide_eq_true hc,
    if_pos rfl]

theorem State.complete_top (hid : id ≠ 0x3FFF) {x : Nat × Nat} {r : List (Nat × Nat)} (hstack : s.stack c = x :: r)
    (htop : x.1 = id) : s.complete c id = s.setStack c r := by
  simp only [State.complete, if_neg hid, hstack, if_pos htop]

theorem State.complete_not_top (hid : id ≠ 0x3FFF) (htop : ∀ x r, s.stack c = x :: r → x.1 ≠ id) :
    s.complete c id = s.stackFault c id := by
  rw [State.complete, if_neg hid]
  split
  · next x r hstack => exact if_neg (htop x r hstack)
  · rfl

/-- A completion refused under STRICT: PG_ERR.STACK_FAULT, a REL record and source 0x3448. -/
def State.refuseCompletion (s : State) (c id : Nat) : State :=
  (((s.stackInfo c id).pgErr hvcPage 16).relRecord 0 Code.stackFault 12 0x31 c id).raise 0x3448

theorem State.stackFault_strict (hstrict : s.bit Reg.HVC_CTRL 1 = true) : s.stackFault c id = s.refuseCompletion c id :=
  if_pos hstrict

/-- Without STRICT an entry below the top is removed where it stands. -/
theorem State.stackFault_listed (hlax : ¬s.bit Reg.HVC_CTRL 1 = true) (hlisted : ∃ x ∈ s.stack c, x.1 = id) :
    s.stackFault c id =
      ((s.stackInfo c id).pgErr hvcPage 16).setStack c ((s.stack c).eraseP fun x => x.1 == id) := by
  rw [State.stackFault, if_neg hlax, if_pos (by simpa using hlisted)]

/-- Without STRICT an ID that is not on the stack is recorded only. -/
theorem State.stackFault_unlisted (hlax : ¬s.bit Reg.HVC_CTRL 1 = true) (hlisted : ¬∃ x ∈ s.stack c, x.1 = id) :
    s.stackFault c id = s.stackInfo c id := by
  rw [State.stackFault, if_neg hlax, if_neg (by simpa using hlisted)]

/-! ### What a refused completion leaves (R286, R359) -/

/-- After the page error only REL_LHEAD and pending bits are written. -/
theorem State.reg_refuseCompletion {k : Nat} (hhead : k ≠ Reg.REL_LHEAD)
    (hpend : ¬(Reg.HVC_PEND 0 ≤ k ∧ k < Reg.HVC_PEND 512)) :
    (s.refuseCompletion c id).reg k = ((s.stackInfo c id).pgErr hvcPage 16).reg k :=
  (State.raise_reg _ (by decide) hpend).trans (State.reg_relRecord_quiet _ hhead ..)

/-- Besides interrupt events a refusal writes four registers. -/
theorem State.sameButEvents_refuseCompletion :
    SameButEvents [Reg.HVC_STK_INFO, Reg.HVC_STK_CNT, Reg.PG_ERR hvcPage, Reg.REL_LHEAD] s (s.refuseCompletion c id) := by
  intro k hk hpend
  have hhead : k ≠ Reg.REL_LHEAD := by rintro rfl; simp at hk
  exact (s.reg_refuseCompletion hhead hpend).trans
    (s.onlyRegs_pgErr_stackInfo.2 k fun h => hk (List.mem_append_left [Reg.REL_LHEAD] h))

theorem State.coreStacks_refuseCompletion : (s.refuseCompletion c id).coreStacks = s.coreStacks := by
  rw [State.refuseCompletion, State.raise_coreStacks, State.relRecord_coreStacks, s.onlyRegs_pgErr_stackInfo.coreStacks_eq]

/-- The REL record of a refusal and the step of the ring's head. -/
theorem State.record_refuseCompletion (hup : s.pairUp 1 = true) (hnow : s.tb.now < 2 ^ 60) :
    let t := s.refuseCompletion c id
    t.fld Reg.REL_LHEAD 0 10 = (s.fld Reg.REL_LHEAD 0 10 + 1) % 1024 ∧
      bits (Tbl.get 0 t.rel.ring (s.fld Reg.REL_LHEAD 0 10)).toNat 64 8 = Code.stackFault := by
  let u := (s.stackInfo c id).pgErr hvcPage 16
  have hregs : OnlyRegs [Reg.HVC_STK_INFO, Reg.HVC_STK_CNT, Reg.PG_ERR hvcPage] s u := s.onlyRegs_pgErr_stackInfo
  have hup' : u.pairUp 1 = true := by rwa [State.pairUp, State.fld_of_reg (hregs.2 _ (by decide))]
  have hnow' : u.tb.now < 2 ^ 60 := by rwa [hregs.tb_eq]
  have hhead : u.fld Reg.REL_LHEAD 0 10 = s.fld Reg.REL_LHEAD 0 10 := State.fld_of_reg (hregs.2 _ (by decide)) 0 10
  obtain ⟨hstep, hcode⟩ := u.relRecord_quiet hup' hnow' Code.stackFault 12 0x31 c id
  rw [hhead] at hstep hcode
  refine ⟨?_, ?_⟩
  · rw [State.refuseCompletion, State.fld_of_reg (State.raise_reg _ (by decide) (by decide))]
    exact hstep
  · rw [State.refuseCompletion, State.raise_rel]
    exact hcode

end Completion

/-- Settles O54: by the place of the ID on the stack, and by STRICT where it is not on top. -/
theorem completionOfService : Obligations.CompletionOfService := by
  intro s c id hc hid hoff hdoze stack strict listed err stacksKept info counts
  let u := s.stackInfo c id
  have hinfo : ∀ t : State, t.reg Reg.HVC_STK_INFO = u.reg Reg.HVC_STK_INFO → info t := by
    intro t ht
    simp only [info, State.fld_of_reg ht, State.bit_of_reg ht]
    exact s.stkInfo_stackInfo hc hid
  have hcounts : ∀ t : State, t.reg Reg.HVC_STK_CNT = u.reg Reg.HVC_STK_CNT → counts t :=
    fun t ht => (State.regN_of_reg ht).trans s.stkCnt_stackInfo
  refine ⟨?spurious, fun hne => ⟨fun x r hstack htop => ?top, fun htop => ?fault⟩⟩
  case spurious => exact exec_hvcComplete s hc (by decide) hoff hdoze
  case top =>
    have hexec := exec_hvcComplete s hc hid hoff hdoze
    rw [s.complete_top hne hstack htop] at hexec
    exact ⟨_, hexec, s.stack_setStack_same c r, fun _ hj => s.stack_setStack_other hj r, rfl⟩
  case fault =>
    have hexec := exec_hvcComplete s hc hid hoff hdoze
    rw [s.complete_not_top hne htop] at hexec
    refine ⟨fun hstrict => ?strict, fun hlax hlisted => ?listed, fun hlax hlisted => ?unlisted⟩
    case strict =>
      rw [s.stackFault_strict hstrict] at hexec
      refine ⟨_, hexec, hinfo _ ?info, ?error, State.srcPend_raise .., s.coreStacks_refuseCompletion,
        s.sameButEvents_refuseCompletion, fun hup hnow => s.record_refuseCompletion hup hnow⟩
      case info => exact (s.reg_refuseCompletion (by decide) (by decide)).trans (State.reg_setBit_other _ (by decide) ..)
      case error =>
        rw [State.bit_of_reg (s.reg_refuseCompletion (by decide) (by decide))]
        exact State.bit_setBit_same u _ 16 true (by decide)
    case listed =>
      rw [s.stackFault_listed hlax hlisted] at hexec
      have hregs := s.onlyRegs_pgErr_stackInfo (c := c) (id := id)
      refine ⟨_, hexec, hinfo _ ?info, hcounts _ ?count, ?error, State.stack_setStack_same .., ?others, hregs.setStack_eq _,
        fun k hk => (State.reg_setStack ..).trans (hregs.2 k hk)⟩
      case info => exact (State.reg_setStack ..).trans (State.reg_setBit_other _ (by decide) ..)
      case count => exact (State.reg_setStack ..).trans (State.reg_setBit_other _ (by decide) ..)
      case error => exact (State.bit_of_reg (State.reg_setStack ..) 16).trans (State.bit_setBit_same u _ 16 true (by decide))
      case others =>
        exact fun j hj => (State.stack_setStack_other _ hj _).trans (State.stack_of_coreStacks hregs.coreStacks_eq j)
    case unlisted =>
      rw [s.stackFault_unlisted hlax hlisted] at hexec
      exact ⟨_, hexec, hinfo _ rfl, hcounts _ rfl, s.onlyRegs_stackInfo⟩

end Sys2Proof.Machine

/-! Shared rules of this sitting: a command at a page that can be reached, what reads of registers return after writes, and the
frames `OnlyRegs` and `OnlyRegsAndEvents` along a chain of writes and interrupt events. -/

namespace Sys2Proof.Machine

open Sys2Proof

/-! ### Commands that reach the part -/

theorem onUnit_of {b : Bool} (h : b = true) (s : State) : onUnit b s = .next s := if_pos h

/-- A host's write of a page that can be reached acts on the drained state (R250). -/
theorem State.pf_of_reach {s : State} {page : Nat} (h : s.pfPage page = true) (off v : Nat) (f : State → State) :
    s.pf page off v f = f (s.drainBuf 0) := by
  rw [State.pf, State.posted_awake s (s.awake_of_pfPage h), if_pos h]

/-- A host's write of a tenant page that can be reached acts on the drained state (R250). -/
theorem State.ten_of_reach {s : State} {n off : Nat} (h : s.tenPage n = true) (hoff : off ≠ 0x204) (v : Nat) (f : State → State) :
    s.ten n off v f = f (s.drainBuf n) := by
  rw [State.ten, State.posted_awake s (State.awake_of_tenPage s h), if_neg hoff, if_pos h]

/-! ### Bits of numbers -/

theorem bitAt_eq_testBit (w i : Nat) : bitAt w i = w.testBit i := (Nat.testBit_eq_decide_div_mod_eq).symm

/-! ### Reads of registers after writes -/

section Reads
variable (s : State) {k j : Nat}

theorem State.reg_setReg (k j : Nat) (v : Word) : (s.setReg k v).reg j = if j = k then v else s.reg j := by
  split
  · next h => rw [h, State.reg_setReg_same]
  · next h => exact s.reg_setReg_other h v

theorem State.regN_setN (k v j : Nat) : (s.setN k v).regN j = if j = k then v % 2 ^ 32 else s.regN j := by
  split
  · next h => rw [h, State.regN_setN_same]
  · next h => exact State.regN_of_reg (s.reg_setN_other h v)

theorem State.regN_setN_other (h : j ≠ k) (v : Nat) : (s.setN k v).regN j = s.regN j := State.regN_of_reg (s.reg_setN_other h v)

theorem State.fld_setN_other (h : j ≠ k) (v lo n : Nat) : (s.setN k v).fld j lo n = s.fld j lo n :=
  State.fld_of_reg (s.reg_setN_other h v) lo n

theorem State.bit_setN_other (h : j ≠ k) (v i : Nat) : (s.setN k v).bit j i = s.bit j i :=
  State.bit_of_reg (s.reg_setN_other h v) i

theorem State.regN_setFld_other (h : j ≠ k) (lo n v : Nat) : (s.setFld k lo n v).regN j = s.regN j :=
  s.regN_setN_other h _

theorem State.fld_setFld_other (h : j ≠ k) (lo n v a m : Nat) : (s.setFld k lo n v).fld j a m = s.fld j a m :=
  s.fld_setN_other h ..

theorem State.bit_setFld_other (h : j ≠ k) (lo n v i : Nat) : (s.setFld k lo n v).bit j i = s.bit j i :=
  s.bit_setN_other h ..

theorem State.bit_setBit_other (h : j ≠ k) (i m : Nat) (b : Bool) : (s.setBit k i b).bit j m = s.bit j m :=
  s.bit_setFld_other h ..

theorem State.fld_setBit_other (h : j ≠ k) (i lo n : Nat) (b : Bool) : (s.setBit k i b).fld j lo n = s.fld j lo n :=
  s.fld_setFld_other h ..

/-- The bit a page error sets. -/
theorem State.bit_pgErr_same (page : Nat) {b : Nat} (hb : b < 32) : (s.pgErr page b).bit (Reg.PG_ERR page) b = true :=
  s.bit_setBit_same _ b true hb

/-- PG_ERR and the code of PG_ERR_INFO after a page error with a code. -/
theorem State.bit_pgErrCode_same (page : Nat) {b : Nat} (hb : b < 32) (code : Nat) :
    (s.pgErrCode page b code).bit (Reg.PG_ERR page) b = true :=
  (State.bit_setFld_other _ (by simp) ..).trans (s.bit_pgErr_same page hb)

theorem State.fld_pgErrCode_same (page b code : Nat) : (s.pgErrCode page b code).fld (Reg.PG_ERR_INFO page) 0 8 = code % 2 ^ 8 :=
  State.fld_setFld_same _ _ 0 8 _ (by decide)

/-! ### Staged values -/

theorem State.reg_setStaged (k j : Nat) (v : Word) : (s.setStaged k v).reg j = s.reg j := rfl

theorem State.staged_setStaged (k j : Nat) (v : Word) : (s.setStaged k v).staged j = if j = k then v else s.staged j := by
  rw [State.staged, State.reg_setStaged, show (s.setStaged k v).shadow = Tbl.set 0 s.shadow k (s.reg k ^^^ v) from rfl, Tbl.get_set]
  split
  · next h => rw [h, ← BitVec.xor_assoc, BitVec.xor_self, BitVec.zero_xor]
  · rfl

theorem State.staged_setReg (k j : Nat) (v : Word) :
    (s.setReg k v).staged j = if j = k then v ^^^ s.reg k ^^^ s.staged k else s.staged j := by
  rw [State.staged, State.reg_setReg]
  split
  · next h => rw [h, State.staged, BitVec.xor_assoc v, ← BitVec.xor_assoc (s.reg k), BitVec.xor_self, BitVec.zero_xor]; rfl
  · rfl

end Reads

/-! ### Chains of register writes -/

section Frames
variable {ks : List Nat} {s t : State} {k : Nat}

theorem OnlyRegs.refl (ks : List Nat) (s : State) : OnlyRegs ks s s := ⟨rfl, fun _ _ => rfl⟩

theorem OnlyRegs.setN (h : OnlyRegs ks s t) (hk : k ∈ ks) (v : Nat) : OnlyRegs ks s (t.setN k v) := by
  obtain ⟨hframe, hregs⟩ := h
  refine ⟨?_, fun j hj => (State.reg_setN_other _ (by rintro rfl; exact hj hk) v).trans (hregs j hj)⟩
  calc t.setN k v = { t with regs := (t.setN k v).regs } := rfl
    _ = { s with regs := (t.setN k v).regs } := by rw [hframe]

theorem OnlyRegs.setFld (h : OnlyRegs ks s t) (hk : k ∈ ks) (lo n v : Nat) : OnlyRegs ks s (t.setFld k lo n v) := h.setN hk _

theorem OnlyRegs.setBit (h : OnlyRegs ks s t) (hk : k ∈ ks) (i : Nat) (b : Bool) : OnlyRegs ks s (t.setBit k i b) := h.setN hk _

theorem OnlyRegs.incSat (h : OnlyRegs ks s t) (hk : k ∈ ks) (lo n : Nat) : OnlyRegs ks s (t.incSat k lo n) := h.setN hk _

theorem OnlyRegs.incWrap (h : OnlyRegs ks s t) (hk : k ∈ ks) (lo n : Nat) : OnlyRegs ks s (t.incWrap k lo n) := h.setN hk _

theorem OnlyRegs.setPair (h : OnlyRegs ks s t) {l : Nat} (hl : l ∈ ks) (hk : k ∈ ks) (v : Nat) :
    OnlyRegs ks s (t.setPair l k v) := (h.setN hl _).setN hk _

theorem OnlyRegs.pgErr (h : OnlyRegs ks s t) {page : Nat} (hk : Reg.PG_ERR page ∈ ks) (b : Nat) :
    OnlyRegs ks s (t.pgErr page b) := h.setN hk _

theorem OnlyRegs.pgErrCode (h : OnlyRegs ks s t) {page : Nat} (hk : Reg.PG_ERR page ∈ ks) (hi : Reg.PG_ERR_INFO page ∈ ks)
    (b code : Nat) : OnlyRegs ks s (t.pgErrCode page b code) := (h.setN hk _).setN hi _

end Frames

end Sys2Proof.Machine

/-! Writes through the views (R10) over numbers, on the values of words. -/

namespace Sys2Proof.Machine

open Sys2Proof

section Words
variable {w : Nat} (x y : BitVec w)

/-- Setting bits and taking their value away again clears them. -/
theorem toNat_lor_sub : Nat.lor x.toNat y.toNat - y.toNat = (x &&& ~~~y).toNat := by
  have hdisj : (x &&& ~~~y) &&& y = 0#w := by rw [BitVec.and_assoc, BitVec.and_comm (~~~y), BitVec.and_not_self]; exact BitVec.and_zero
  have hor : (x &&& ~~~y) ||| y = x ||| y := by
    refine BitVec.eq_of_getLsbD_eq fun i hi => ?_
    simp only [BitVec.getLsbD_or, BitVec.getLsbD_and, BitVec.getLsbD_not, hi, decide_true, Bool.true_and]
    cases x.getLsbD i <;> cases y.getLsbD i <;> rfl
  have hsum := BitVec.toNat_add_of_and_eq_zero hdisj
  rw [BitVec.add_eq_or_of_and_eq_zero _ _ hdisj, hor, BitVec.toNat_or] at hsum
  exact Nat.sub_eq_of_eq_add hsum

/-- A value without the bits of a mask. -/
theorem dropBits_toNat : dropBits x.toNat y.toNat = (x &&& ~~~y).toNat := by
  have hdisj : (x &&& ~~~y) &&& (x &&& y) = 0#w := by
    refine BitVec.eq_of_getLsbD_eq fun i hi => ?_
    simp only [BitVec.getLsbD_and, BitVec.getLsbD_not, hi, decide_true, Bool.true_and, BitVec.getLsbD_zero]
    cases x.getLsbD i <;> cases y.getLsbD i <;> rfl
  have hor : (x &&& ~~~y) ||| (x &&& y) = x := by
    refine BitVec.eq_of_getLsbD_eq fun i hi => ?_
    simp only [BitVec.getLsbD_or, BitVec.getLsbD_and, BitVec.getLsbD_not, hi, decide_true, Bool.true_and]
    cases x.getLsbD i <;> cases y.getLsbD i <;> rfl
  have hsum := BitVec.toNat_add_of_and_eq_zero hdisj
  rw [BitVec.add_eq_or_of_and_eq_zero _ _ hdisj, hor] at hsum
  exact Nat.sub_eq_of_eq_add hsum

end Words

/-- A write of a word through a view. -/
theorem viewWrite_toNat (view : Nat) (old data : Word) : viewWrite view old.toNat data.toNat = (viewed view old data).toNat := by
  have hdata : data.toNat % 2 ^ 32 = data.toNat := Nat.mod_eq_of_lt data.isLt
  simp only [viewWrite, viewed, hdata]
  split
  · rfl
  split
  · exact (BitVec.toNat_or ..).symm
  split
  · exact toNat_lor_sub ..
  · rfl

/-- Only the low 32 bits of the data are written. -/
theorem viewWrite_ofNat (view old v : Nat) : viewWrite view old v = viewWrite view old (BitVec.ofNat 32 v).toNat := by
  simp only [viewWrite, BitVec.toNat_ofNat, Nat.mod_mod]

/-- A register through a view. -/
theorem viewWrite_regN (s : State) (view k v : Nat) :
    viewWrite view (s.regN k) v = (viewed view (s.reg k) (BitVec.ofNat 32 v)).toNat := by
  rw [viewWrite_ofNat]
  exact viewWrite_toNat ..

theorem bitAt_toNat (x : Word) (i : Nat) : bitAt x.toNat i = x.getLsbD i := bitAt_eq_testBit ..

theorem State.bit_eq_getLsbD (s : State) (k i : Nat) : s.bit k i = (s.reg k).getLsbD i := by
  show decide (bits (s.reg k).toNat i 1 = 1) = _
  rw [← bitAt_toNat, bits, pow_one]
  rfl

end Sys2Proof.Machine

/-! What the writes that a buffer holds leave when they are applied (R248, R250): they write memory, and where a walk fails, the fault
record with its interrupt. -/

namespace Sys2Proof.Machine

open Sys2Proof

/-- The fields that a drained buffer may write. -/
abbrev draining : Nat := 74491912782290

section Drain
variable (s : State)

theorem State.bar2Reach_draining (n a len : Nat) : (∀ c t, s.bar2Reach n a len = .bad c t → t.wipe draining = s.wipe draining) ∧
    (∀ l t, s.bar2Reach n a len = .ok l t → t.wipe draining = s.wipe draining) := by
  have hrecord : ∀ (u : State) (code src object detail : Nat), (u.faultRecord n code src object detail).wipe draining = u.wipe draining :=
    fun u code src object detail => u.faultRecord_wipe _ _ _ _ _ _ (by decide)
  have hfirst := fun (x : State) b c t (e : x.reach n b 4 = .bad c t) => State.wipe_mono (m := draining) (x.reach_bad_wipe e) (by decide)
  have hok := fun (x : State) b p t (e : x.reach n b 4 = .ok p t) => State.wipe_mono (m := draining) (x.reach_ok_wipe e) (by decide)
  simp only [State.bar2Reach]
  split
  · next c u e =>
    refine ⟨fun _ t h => ?_, fun _ _ h => nomatch h⟩
    cases h
    exact (hrecord ..).trans (hfirst _ _ _ _ e)
  next p u e =>
  split
  · refine ⟨fun _ _ h => (nomatch h), fun _ t h => ?_⟩
    cases h
    exact hok _ _ _ _ e
  split
  · next c v e' =>
    refine ⟨fun _ t h => ?_, fun _ _ h => nomatch h⟩
    cases h
    exact (hrecord ..).trans ((hfirst _ _ _ _ e').trans (hok _ _ _ _ e))
  · next q v e' =>
    refine ⟨fun _ _ h => (nomatch h), fun _ t h => ?_⟩
    cases h
    exact (hok _ _ _ _ e').trans (hok _ _ _ _ e)

theorem State.applyPosted_draining (n a : Nat) (bs : List (Option Nat)) : (s.applyPosted n a bs).wipe draining = s.wipe draining := by
  obtain ⟨hbad, hok⟩ := s.bar2Reach_draining n a bs.length
  rw [State.applyPosted]
  split
  · next c u e => exact hbad c u e
  · next l u e =>
    refine Eq.trans ?_ (hok l u e)
    exact List.foldlRecOn (motive := fun x : State × List (Option Nat) => x.1.wipe draining = u.wipe draining) l _ rfl
      fun x hx r _ => (x.1.writeBytes_wipe _ _ _ (by decide)).trans hx

theorem State.drainOwn_draining (n : Nat) : (s.drainOwn n).wipe draining = s.wipe draining := by
  simp only [State.drainOwn]
  split
  · rfl
  · exact (State.foldl_wipe draining (fun u (w : Nat × List (Option Nat)) => u.applyPosted n w.1 w.2)
      (fun u w => u.applyPosted_draining n w.1 w.2) _ _).trans (s.setFn_wipe _ _ _ (by decide))

theorem State.drainBuf_draining (n : Nat) : (s.drainBuf n).wipe draining = s.wipe draining :=
  (State.drainOwn_draining _ n).trans (State.foldl_wipe _ _ (fun u k => u.drainOwn_draining k) _ _)

/-- A drained buffer leaves the power state, and with it the mode. -/
theorem State.drainBuf_pwr (n : Nat) : (s.drainBuf n).pwr = s.pwr := by
  have hframe := s.drainBuf_draining n
  exact State.pwr_of_wipe (s := s) (t := s.drainBuf n) (m := draining) hframe (by decide)

end Drain

end Sys2Proof.Machine

/-! What interrupt events leave (R277-R283): they write pending bits, sources, vectors and messages, and no other register. -/

namespace Sys2Proof.Machine

open Sys2Proof

/-- The fields that registers and interrupt events may write. -/
abbrev events : Nat := 4123168604178

/-- Agreement outside the fields of events is agreement in every field that they do not name. -/
theorem State.eq_of_wipe_events {s t : State} (e : t.wipe events = s.wipe events) :
    t = { s with out := t.out, regs := t.regs, fns := t.fns, link := t.link, srcs := t.srcs, vecs := t.vecs } := by
  cases t
  cases s
  simpa [State.wipe, events, Nat.testBit] using e

section Events
variable (s : State)

theorem State.raiseQuiet_reg {id k : Nat} (hid : id < 0x4000) (hk : ¬(Reg.HVC_PEND 0 ≤ k ∧ k < Reg.HVC_PEND 512)) :
    (s.raiseQuiet id).reg k = s.reg k := by
  have hne : k ≠ Reg.HVC_PEND (id / 32) := by simp only [Reg.HVC_PEND] at hk ⊢; omega
  have hpend : ((s.notePend id).setSrcPend id true).reg k = s.reg k :=
    (State.reg_setBit_other _ hne ..).trans (State.reg_of_regs (State.regs_of_wipe (s.notePend_wipe0 id) rfl) k)
  simp only [State.raiseQuiet]
  split
  · exact (State.reg_of_regs (State.setSrc_regs ..) k).trans hpend
  split
  · exact hpend
  · exact (State.reg_of_regs (State.regs_of_wipe (State.bumpVec_wipe0 ..) rfl) k).trans hpend

/-- Events of several sources write no register but the pending bits. -/
theorem State.raiseAll_reg {ids : List Nat} (hids : ∀ id ∈ ids, id < 0x4000) {k : Nat}
    (hk : ¬(Reg.HVC_PEND 0 ≤ k ∧ k < Reg.HVC_PEND 512)) : (s.raiseAll ids).reg k = s.reg k := by
  refine (State.reg_of_regs (State.regs_of_wipe (State.sendAll_wipe0 ..) rfl) k).trans ?_
  exact List.foldlRecOn (motive := fun u : State => u.reg k = s.reg k) ids _ rfl
    fun u hu id hid => (u.raiseQuiet_reg (hids id hid) hk).trans hu

end Events

section Frames
variable {ks : List Nat} {s t : State}

theorem OnlyRegsAndEvents.of_wipe (hframe : t.wipe events = s.wipe events) (hregs : SameButEvents ks s t) : OnlyRegsAndEvents ks s t :=
  ⟨State.eq_of_wipe_events hframe, hregs⟩

theorem OnlyRegsAndEvents.wipe (h : OnlyRegsAndEvents ks s t) : t.wipe events = s.wipe events := by
  rw [h.1]
  rfl

theorem OnlyRegsAndEvents.refl (ks : List Nat) (s : State) : OnlyRegsAndEvents ks s s := .of_wipe rfl fun _ _ _ => rfl

theorem OnlyRegsAndEvents.trans {u : State} (h : OnlyRegsAndEvents ks s t) (g : OnlyRegsAndEvents ks t u) : OnlyRegsAndEvents ks s u :=
  .of_wipe (g.wipe.trans h.wipe) fun k hk hp => (g.2 k hk hp).trans (h.2 k hk hp)

theorem OnlyRegs.withEvents (h : OnlyRegs ks s t) : OnlyRegsAndEvents ks s t :=
  .of_wipe (by rw [h.1]; rfl) fun k hk _ => h.2 k hk

theorem OnlyRegsAndEvents.setN (h : OnlyRegsAndEvents ks s t) {k : Nat} (hk : k ∈ ks) (v : Nat) : OnlyRegsAndEvents ks s (t.setN k v) :=
  h.trans ((OnlyRegs.refl ks t).setN hk v).withEvents

theorem OnlyRegsAndEvents.setFld (h : OnlyRegsAndEvents ks s t) {k : Nat} (hk : k ∈ ks) (lo n v : Nat) :
    OnlyRegsAndEvents ks s (t.setFld k lo n v) := h.setN hk _

theorem OnlyRegsAndEvents.setBit (h : OnlyRegsAndEvents ks s t) {k : Nat} (hk : k ∈ ks) (i : Nat) (b : Bool) :
    OnlyRegsAndEvents ks s (t.setBit k i b) := h.setN hk _

theorem OnlyRegsAndEvents.raise (h : OnlyRegsAndEvents ks s t) {id : Nat} (hid : id < 0x4000) : OnlyRegsAndEvents ks s (t.raise id) :=
  h.trans (.of_wipe (t.raise_wipe0 id) fun _ _ hp => t.raise_reg hid hp)

theorem OnlyRegsAndEvents.raiseAll (h : OnlyRegsAndEvents ks s t) {ids : List Nat} (hids : ∀ id ∈ ids, id < 0x4000) :
    OnlyRegsAndEvents ks s (t.raiseAll ids) :=
  h.trans (.of_wipe (t.raiseAll_wipe0 ids) fun _ _ hp => t.raiseAll_reg hids hp)

end Frames

end Sys2Proof.Machine

/-! What a tick leaves: the edges of the cuffs, the PIO engines and the feedback ports write cuffs, pairs, engines, ports, registers,
log records with the memory behind them and interrupts; no time base, no mode, no image and no tick count. -/

namespace Sys2Proof.Machine

open Sys2Proof

/-- The fields that an edge of a cuff may write: registers, cuffs and pairs. -/
abbrev edgeFields : Nat := 40976

/-- The fields that the engines and the ports may write on a tick. -/
abbrev tickFields : Nat := 74534862627282

section Edges
variable (s : State) (c : Nat)

theorem State.edgeMade_edgeFields (t : Nat) : (s.edgeMade c t).wipe edgeFields = s.wipe edgeFields := by
  have hcount : (s.edgeCounted c t).wipe edgeFields = s.wipe edgeFields := by
    rw [State.edgeCounted, State.setCuff_wipe _ _ _ _ (by decide), State.incWrap_wipe _ _ _ _ _ (by decide)]
  simp only [State.edgeMade]
  split
  · rw [State.setPairSt_wipe _ _ _ _ (by decide), hcount]
  · exact hcount

theorem State.padTo_edgeFields (l : Bool) (stamp : Nat) : (s.padTo c l stamp).wipe edgeFields = s.wipe edgeFields := by
  have hset : ∀ k, (s.setCuff c k).wipe edgeFields = s.wipe edgeFields := fun k => s.setCuff_wipe c k _ (by decide)
  simp only [State.padTo]
  split
  · rfl
  split
  · exact hset _
  split
  · exact hset _
  · exact hset _

theorem State.driveCuff_edgeFields (l : Bool) (t : Nat) : (s.driveCuff c l t).wipe edgeFields = s.wipe edgeFields := by
  have hset : ∀ k, (s.setCuff c k).wipe edgeFields = s.wipe edgeFields := fun k => s.setCuff_wipe c k _ (by decide)
  have hpad : ∀ u : State, (u.drivenPad c t).wipe edgeFields = u.wipe edgeFields := fun u => by
    rw [State.drivenPad]
    split
    · exact u.padTo_edgeFields c _ _
    · rfl
  simp only [State.driveCuff]
  split
  · exact hset _
  split
  · rfl
  split
  · exact hset _
  · rw [hpad, State.edgeMade_edgeFields, hset]

theorem State.settleCuff_edgeFields : (s.settleCuff c).wipe edgeFields = s.wipe edgeFields := by
  simp only [State.settleCuff]
  split
  · rfl
  · exact (State.foldl_wipe edgeFields (fun u (e : Nat × Bool) => u.driveCuff c e.2 e.1) (fun u e => u.driveCuff_edgeFields c e.2 e.1) _ _).trans
      (s.setCuff_wipe c _ _ (by decide))

theorem State.settleWhere_edgeFields (p : Nat → Bool) : (s.settleWhere p).wipe edgeFields = s.wipe edgeFields :=
  State.foldl_wipe edgeFields State.settleCuff State.settleCuff_edgeFields _ _

theorem State.settleCuffs_edgeFields : s.settleCuffs.wipe edgeFields = s.wipe edgeFields := s.settleWhere_edgeFields _

theorem State.settleLegs_edgeFields : s.settleLegs.wipe edgeFields = s.wipe edgeFields := s.settleWhere_edgeFields _

theorem State.pinEdge_edgeFields (e i t : Nat) (l : Bool) : (s.pinEdge e i t l).wipe edgeFields = s.wipe edgeFields := by
  simp only [State.pinEdge]
  split
  · rw [State.settleCuff_edgeFields, State.setCuff_wipe _ _ _ _ (by decide)]
  · rfl

theorem State.restClock_edgeFields (e cfg t : Nat) : (s.restClock e cfg t).wipe edgeFields = s.wipe edgeFields := by
  simp only [State.restClock]
  split
  · rfl
  · rw [State.pinEdge_edgeFields, State.setCuff_wipe _ _ _ _ (by decide)]

theorem State.drivePin_edgeFields (e i : Nat) (l : Bool) : (s.drivePin e i l).wipe edgeFields = s.wipe edgeFields := by
  rw [State.drivePin]
  split
  · exact s.driveCuff_edgeFields _ _ _
  · rfl

end Edges

/-! ### The registers below the sleeves -/

/-- The registers of the pages below the sleeves stand. -/
def LowRegsKept (s t : State) : Prop := ∀ k < 0x10000, t.reg k = s.reg k

section Low
variable (s : State) (c : Nat)

theorem LowRegsKept.trans {s t u : State} (h : LowRegsKept s t) (g : LowRegsKept t u) : LowRegsKept s u :=
  fun k hk => (g k hk).trans (h k hk)

theorem LowRegsKept.of_regs {s t : State} (h : t.regs = s.regs) : LowRegsKept s t := fun k _ => State.reg_of_regs h k

theorem State.driveCuff_lowRegs (l : Bool) (t : Nat) : LowRegsKept s (s.driveCuff c l t) := by
  have hmade : ∀ u : State, u.regs = s.regs → LowRegsKept s (u.edgeMade c t) := by
    intro u hu
    have hcount : LowRegsKept s (u.edgeCounted c t) := fun k hk =>
      (u.reg_setN_other (by simp only [Reg.CUF_EDGES]; omega) _).trans (State.reg_of_regs hu k)
    simp only [State.edgeMade]
    split
    · exact hcount
    · exact hcount
  have hpad : ∀ u : State, (u.drivenPad c t).regs = u.regs := by
    intro u
    simp only [State.drivenPad, State.padTo]
    split
    · split
      · rfl
      split
      · rfl
      split <;> rfl
    · rfl
  simp only [State.driveCuff]
  split
  · exact .of_regs rfl
  split
  · exact .of_regs rfl
  split
  · exact .of_regs rfl
  · exact (hmade (s.setCuff c _) rfl).trans (.of_regs (hpad _))

theorem State.settleCuff_lowRegs : LowRegsKept s (s.settleCuff c) := by
  simp only [State.settleCuff]
  split
  · exact .of_regs rfl
  · exact List.foldlRecOn (motive := LowRegsKept s) _ _ (.of_regs rfl) fun u hu e _ => hu.trans (u.driveCuff_lowRegs c e.2 e.1)

theorem State.settleWhere_lowRegs (p : Nat → Bool) : LowRegsKept s (s.settleWhere p) :=
  List.foldlRecOn (motive := LowRegsKept s) _ _ (.of_regs rfl) fun u hu e _ => hu.trans (u.settleCuff_lowRegs e)

theorem State.settleLegs_lowRegs : LowRegsKept s s.settleLegs := s.settleWhere_lowRegs _

theorem LowRegsKept.circle {s t : State} (h : LowRegsKept s t) : t.circle = s.circle := by
  simp only [State.circle]
  exact congrArg (· + 1) (State.pair_of_reg (h _ (by decide)) (h _ (by decide)))

theorem LowRegsKept.stepRem {s t : State} (h : LowRegsKept s t) : t.stepRem = s.stepRem :=
  congrArg (signed 32) (State.regN_of_reg (h _ (by decide)))

end Low

/-! ### The engines -/

section Engines
variable {s t : State} (e : Nat)

/-- What writes cuffs and registers alone writes no more than a tick may. -/
theorem State.tickFields_of_edgeFields (h : t.wipe edgeFields = s.wipe edgeFields) : t.wipe tickFields = s.wipe tickFields :=
  State.wipe_mono h (by decide)

variable (s)

theorem State.setPio_tickFields (k : Pio) : (s.setPio e k).wipe tickFields = s.wipe tickFields := s.setPio_wipe e k _ (by decide)

theorem State.raise_tickFields (id : Nat) : (s.raise id).wipe tickFields = s.wipe tickFields := s.raise_wipe id _ (by decide)

theorem State.pioNote_tickFields (time status cause count : Nat) : (s.pioNote e time status cause count).wipe tickFields = s.wipe tickFields := by
  rw [State.pioNote]
  split
  · exact s.logRecord_wipe _ _ _ _ (by decide)
  · rfl

theorem State.noteStall_tickFields (cause t : Nat) : (s.noteStall e cause t).wipe tickFields = s.wipe tickFields := by
  simp only [State.noteStall]
  rw [State.pioNote_tickFields, State.raise_tickFields, State.incWrap_wipe _ _ _ _ _ (by decide), State.setFld_wipe _ _ _ _ _ _ (by decide),
    State.setPair_wipe _ _ _ _ _ (by decide)]

theorem State.stopPio_tickFields : (s.stopPio e).wipe tickFields = s.wipe tickFields := by
  simp only [State.stopPio]
  rw [State.setPio_tickFields]
  exact State.foldl_wipe tickFields _ (fun u c => u.setCuff_wipe c _ _ (by decide)) _ _

theorem State.endPio_tickFields : (s.endPio e).wipe tickFields = s.wipe tickFields := by
  simp only [State.endPio]
  rw [State.raise_tickFields, State.setPio_tickFields, State.stopPio_tickFields]

theorem State.goOn_tickFields : (s.goOn e).wipe tickFields = s.wipe tickFields := by
  rw [State.goOn]
  split
  · exact s.endPio_tickFields e
  · exact s.setPio_tickFields e _

theorem State.endInsn_tickFields : (s.endInsn e).wipe tickFields = s.wipe tickFields := by
  simp only [State.endInsn]
  split
  · rw [State.goOn_tickFields, State.goOn_tickFields, State.setPio_tickFields]
  · rw [State.goOn_tickFields, State.setPio_tickFields]

theorem State.pinEdge_tickFields (i t : Nat) (l : Bool) : (s.pinEdge e i t l).wipe tickFields = s.wipe tickFields :=
  State.tickFields_of_edgeFields (s.pinEdge_edgeFields e i t l)

theorem State.bitPeriod_tickFields : (s.bitPeriod e).wipe tickFields = s.wipe tickFields := by
  have hout : ∀ u : State, u.wipe tickFields = s.wipe tickFields → ∀ (b : Bool) (i t : Nat) (l : Bool),
      (if b then u.pinEdge e i t l else u).wipe tickFields = s.wipe tickFields := by
    intro u hu b i t l
    split
    · rw [State.pinEdge_tickFields, hu]
    · exact hu
  simp only [State.bitPeriod]
  refine hout _ ?_ _ _ _ _
  split
  · rw [State.pinEdge_tickFields, State.setPio_tickFields]
  · rw [State.setPio_tickFields]

theorem State.period_tickFields : (s.period e).wipe tickFields = s.wipe tickFields := by
  have hrest : ∀ t, (s.restClock e (s.pio e).cfg t).wipe tickFields = s.wipe tickFields := fun t =>
    State.tickFields_of_edgeFields (s.restClock_edgeFields e _ t)
  simp only [State.period]
  split
  · rw [State.bitPeriod_tickFields, hrest]
  split
  · rw [State.setPio_tickFields, hrest]
  · rw [State.endInsn_tickFields, hrest]

theorem State.periods_tickFields (n : Nat) : (s.periods e n).wipe tickFields = s.wipe tickFields := by
  induction n generalizing s with
  | zero => rfl
  | succ n ih =>
    rw [State.periods]
    split
    · rw [ih, State.period_tickFields]
    · rfl

theorem State.stallLoad_tickFields : (s.stallLoad e).wipe tickFields = s.wipe tickFields := by
  rw [State.stallLoad]
  split
  · rfl
  · rw [State.noteStall_tickFields, State.setPio_tickFields]

theorem State.pioTick_tickFields : (s.pioTick e).wipe tickFields = s.wipe tickFields := by
  rw [State.pioTick, State.takeSamples, State.setPio_tickFields, State.periods_tickFields, State.stallLoad_tickFields]

theorem State.tickEngines_tickFields : s.tickEngines.wipe tickFields = s.wipe tickFields :=
  State.foldl_wipe tickFields State.pioTick State.pioTick_tickFields _ _

end Engines

/-! ### The ports -/

section Ports
variable (s : State) (p : Nat)

theorem State.fbkRecordAt_tickFields (status kind pair time pos : Nat) :
    (s.fbkRecordAt p status kind pair time pos).wipe tickFields = s.wipe tickFields := by
  rw [State.fbkRecordAt]
  split
  · exact s.logRecord_wipe _ _ _ _ (by decide)
  · rfl

theorem State.latchAt_tickFields (pos : Nat) (l : Nat × Bool) : (s.latchAt p pos l).wipe tickFields = s.wipe tickFields := by
  simp only [State.latchAt]
  split
  · rw [State.fbkRecordAt_tickFields, State.setPair_wipe _ _ _ _ _ (by decide), State.setPair_wipe _ _ _ _ _ (by decide),
      State.setPair_wipe _ _ _ _ _ (by decide)]
  · rw [State.setPair_wipe _ _ _ _ _ (by decide), State.setPair_wipe _ _ _ _ _ (by decide), State.setPair_wipe _ _ _ _ _ (by decide)]

theorem State.markAt_tickFields (t : Nat) : (s.markAt p t).wipe tickFields = s.wipe tickFields := by
  simp only [State.markAt]
  rw [State.fbkRecordAt_tickFields, State.setPair_wipe _ _ _ _ _ (by decide), State.setPair_wipe _ _ _ _ _ (by decide)]

theorem State.latchTick_tickFields : (s.latchTick p).wipe tickFields = s.wipe tickFields := by
  simp only [State.latchTick]
  split
  · rfl
  · rw [State.foldl_wipe tickFields (fun u t => u.markAt p t) (fun u t => u.markAt_tickFields p t),
      State.foldl_wipe tickFields _ (fun u l => u.latchAt_tickFields p _ l), State.setPort_wipe _ _ _ _ (by decide)]

theorem State.tickPorts_tickFields : s.tickPorts.wipe tickFields = s.wipe tickFields :=
  State.foldl_wipe tickFields State.latchTick State.latchTick_tickFields _ _

/-- The engines, the ports and the edges of a tick. -/
theorem State.tickWork_tickFields : s.tickEngines.tickPorts.settleCuffs.wipe tickFields = s.wipe tickFields := by
  rw [State.tickFields_of_edgeFields (State.settleCuffs_edgeFields _), State.tickPorts_tickFields, State.tickEngines_tickFields]

end Ports

end Sys2Proof.Machine

/-! The advance of the time base (R25-R34): the count, the epoch and the step remainder after a tick, and what the advance leaves. -/

namespace Sys2Proof.Machine

open Sys2Proof

/-- A two's complement number of 32 bits in range is read back. -/
theorem signed_unsigned {r : Int} (hlo : -2 ^ 31 ≤ r) (hhi : r < 2 ^ 31) : signed 32 (unsigned 32 r % 2 ^ 32) = r := by
  simp only [signed, unsigned]
  norm_num at *
  split <;> omega

theorem signed_range (v : Nat) : -2 ^ 31 ≤ signed 32 v ∧ signed 32 v < 2 ^ 31 := by
  simp only [signed]
  norm_num
  split <;> omega

section Advance
variable (s : State)

/-- The fields that an advance of the time base may write. -/
abbrev advanced : Nat := 4123168604722

theorem State.setPairs_wipe (l h a b m : Nat) (hm : 48 &&& m = 48) : (s.setPairs l h a b).wipe m = s.wipe m := by
  have hreg : 16 &&& m = 16 := by rw [show (16 : Nat) = 16 &&& 48 by decide, Nat.and_assoc, hm]
  have hstaged : 32 &&& m = 32 := by rw [show (32 : Nat) = 32 &&& 48 by decide, Nat.and_assoc, hm]
  rw [State.setPairs, State.setStaged_wipe _ _ _ _ hstaged, State.setN_wipe _ _ _ _ hreg, State.setStaged_wipe _ _ _ _ hstaged,
    State.setN_wipe _ _ _ _ hreg]

/-- The reduction of the offsets writes registers and staged values alone. -/
theorem State.reduceOffsets_wipe : s.reduceOffsets.wipe 48 = s.wipe 48 := by
  have hpair : ∀ (u : State) a b c d, (u.reducePair a b c d).wipe 48 = u.wipe 48 := fun u a b c d => u.setPairs_wipe _ _ _ _ _ (by decide)
  simp only [State.reduceOffsets]
  rw [State.foldl_wipe 48 _ (fun u p => u.incWrap_wipe _ _ _ _ (by decide)), State.foldl_wipe 48 _ (fun u g => hpair u _ _ _ _),
    State.foldl_wipe 48 _ (fun u c => hpair u _ _ _ _)]

theorem State.reduceOffsets_advanced : s.reduceOffsets.wipe advanced = s.wipe advanced :=
  State.wipe_mono s.reduceOffsets_wipe (by decide)

theorem State.reduceOffsets_tb : s.reduceOffsets.tb = s.tb := State.tb_of_wipe s.reduceOffsets_wipe (by decide)

/-- A register that is no offset and no PG_SEQ stands at a reload (R29). -/
theorem State.reg_reduceOffsets {k : Nat} (hlow : k < 0x10000) (hgroup : ∀ g, k ≠ Reg.TB_SG_BASE_L g ∧ k ≠ Reg.TB_SG_BASE_H g)
    (hseq : ∀ p, k ≠ Reg.PG_SEQ p) : s.reduceOffsets.reg k = s.reg k := by
  have hpair : ∀ (u : State) a b l h, k ≠ l → k ≠ h → u.reg k = s.reg k → (u.reducePair a b l h).reg k = s.reg k := by
    intro u a b l h hl hh hu
    simp only [State.reducePair, State.setPairs]
    rw [State.reg_setStaged, State.reg_setN_other _ hh, State.reg_setStaged, State.reg_setN_other _ hl, hu]
  have hfold : ∀ {α : Type} (l : List α) (g : State → α → State), (∀ u x, u.reg k = s.reg k → (g u x).reg k = s.reg k) →
      ∀ u : State, u.reg k = s.reg k → (l.foldl g u).reg k = s.reg k := fun l g hg u hu =>
    List.foldlRecOn (motive := fun v : State => v.reg k = s.reg k) l g hu fun v hv x _ => hg v x hv
  simp only [State.reduceOffsets]
  refine hfold _ _ (fun u p hu => (u.reg_setN_other (hseq p) _).trans hu) _ ?_
  refine hfold _ _ (fun u g hu => hpair u _ _ _ _ (hgroup g).1 (hgroup g).2 hu) _ ?_
  refine hfold _ _ (fun u c hu => hpair u _ _ _ _ ?_ ?_ hu) _ rfl
  · simp only [Reg.CUF_PER_OFF_L]
    omega
  · simp only [Reg.CUF_PER_OFF_H]
    omega

/-- The state of a reload before its offsets are reduced. -/
def State.reloaded (d : Nat) : State :=
  let e := (s.tb.epoch + 1) % 2 ^ 20
  let u := { s with tb := { s.tb with now := (s.tb.now + d) % s.circle, epoch := e } }
  if e = 0 then (u.setBit Reg.TB_STATUS 4 true).raise 0x3402 else u

theorem State.advance_eq (d : Nat) : s.advance d = if s.tb.now + d < s.circle then { s with tb := { s.tb with now := s.tb.now + d } }
    else (s.reloaded d).reduceOffsets := rfl

theorem State.reloaded_advanced (d : Nat) : (s.reloaded d).wipe advanced = s.wipe advanced := by
  have htb : ∀ x, { s with tb := x }.wipe advanced = s.wipe advanced := fun x => rfl
  simp only [State.reloaded]
  split
  · rw [State.raise_wipe _ _ _ (by decide), State.setBit_wipe _ _ _ _ _ (by decide), htb]
  · exact htb _

theorem State.reloaded_tb (d : Nat) :
    (s.reloaded d).tb = { s.tb with now := (s.tb.now + d) % s.circle, epoch := (s.tb.epoch + 1) % 2 ^ 20 } := by
  simp only [State.reloaded]
  split
  · rw [State.raise_tb, State.setBit_tb]
  · rfl

theorem State.reg_reloaded {k : Nat} (d : Nat) (hk : k ≠ Reg.TB_STATUS) (hp : ¬(Reg.HVC_PEND 0 ≤ k ∧ k < Reg.HVC_PEND 512)) :
    (s.reloaded d).reg k = s.reg k := by
  simp only [State.reloaded]
  split
  · rw [State.raise_reg _ (by decide) hp, State.reg_setBit_other _ hk]
    rfl
  · rfl

theorem State.advance_advanced (d : Nat) : (s.advance d).wipe advanced = s.wipe advanced := by
  rw [State.advance_eq]
  split
  · rfl
  · rw [State.reduceOffsets_advanced, State.reloaded_advanced]

/-- The count and the epoch after an advance (R25). -/
theorem State.advance_tb (d : Nat) : (s.advance d).tb = { s.tb with
    now := (s.tb.now + d) % s.circle, epoch := if s.tb.now + d < s.circle then s.tb.epoch else (s.tb.epoch + 1) % 2 ^ 20 } := by
  rw [State.advance_eq]
  split
  · next h =>
    rw [Nat.mod_eq_of_lt h]
  · rw [State.reduceOffsets_tb, State.reloaded_tb]

theorem State.advance_stepRem (d : Nat) : (s.advance d).stepRem = s.stepRem := by
  refine congrArg (signed 32) (State.regN_of_reg ?_)
  rw [State.advance_eq]
  split
  · rfl
  · rw [State.reg_reduceOffsets _ (by decide) (fun g => ⟨by simp only [Reg.TB_STEP_REM, Reg.TB_SG_BASE_L]; omega,
      by simp only [Reg.TB_STEP_REM, Reg.TB_SG_BASE_H]; omega⟩) (fun p => by simp only [Reg.TB_STEP_REM, Reg.PG_SEQ]; omega),
      State.reg_reloaded _ _ (by decide) (by decide)]

theorem State.stepRem_setStepRem {r : Int} (hlo : -2 ^ 31 ≤ r) (hhi : r < 2 ^ 31) : (s.setStepRem r).stepRem = r := by
  rw [State.stepRem, State.setStepRem, State.regN_setN_same]
  exact signed_unsigned hlo hhi

theorem State.stepRem_raise {id : Nat} (hid : id < 0x4000) : (s.raise id).stepRem = s.stepRem :=
  congrArg (signed 32) (State.regN_of_reg (s.raise_reg hid (by decide)))

theorem State.slewed_events (d : Int) : (s.slewed d).wipe events = s.wipe events := by
  have hset : ∀ r, (s.setStepRem r).wipe events = s.wipe events := fun r => s.setN_wipe _ _ _ (by decide)
  simp only [State.slewed]
  split
  · rfl
  split
  · rw [State.raise_wipe _ _ _ (by decide), hset]
  · exact hset _

theorem State.slewed_circle (d : Int) : (s.slewed d).circle = s.circle := by
  have hset : ∀ r, (s.setStepRem r).circle = s.circle := fun r =>
    congrArg (· + 1) (State.pair_of_reg (s.reg_setN_other (by decide) _) (s.reg_setN_other (by decide) _))
  simp only [State.slewed]
  split
  · rfl
  split
  · refine Eq.trans ?_ (hset (s.stepRem - d))
    exact congrArg (· + 1) (State.pair_of_reg (State.raise_reg _ (by decide) (by decide)) (State.raise_reg _ (by decide) (by decide)))
  · exact hset _

theorem State.slewStep_range : -2 ^ 31 ≤ s.stepRem - s.slewStep ∧ s.stepRem - s.slewStep < 2 ^ 31 := by
  obtain ⟨hlo, hhi⟩ := signed_range (s.regN Reg.TB_STEP_REM)
  rw [← State.stepRem] at hlo hhi
  rw [State.slewStep]
  split
  · omega
  split
  · split <;> omega
  · omega

theorem State.slewed_stepRem {d : Int} (hlo : -2 ^ 31 ≤ s.stepRem - d) (hhi : s.stepRem - d < 2 ^ 31) :
    (s.slewed d).stepRem = s.stepRem - d := by
  simp only [State.slewed]
  split
  · next h => rw [h, Int.sub_zero]
  split
  · rw [State.stepRem_raise _ (by decide), State.stepRem_setStepRem _ hlo hhi]
  · exact s.stepRem_setStepRem hlo hhi

/-! ### One tick -/

/-- The state of a tick before the count advances: the due edges of the pairs are made, and the tick clock has counted. -/
def State.tickStart : State :=
  { s.settleLegs with
    tick := s.tick + 1
    tb := { s.tb with trimAcc := (s.trimStep 16).1, carry := s.owed - clampCrumb s.owed,
                      slewTicks := if s.stepRem = 0 ∨ s.slewStep ≠ 0 then 0 else s.tb.slewTicks + 1 } }

/-- The time base after a tick, before the engines, the ports and the cuffs take their part of it. -/
def State.tickedBase : State := (s.tickStart.slewed s.slewStep).advance s.tickCrumbs

theorem State.tbTick_eq (hrun : s.tb.running = true) (hexact : s.coarse = false) (hdoze : s.mode ≠ Mode.doze) (hoff : s.mode ≠ Mode.off) :
    s.tbTick = s.tickedBase.tickEngines.tickPorts.settleCuffs :=
  (if_neg (by simp [hrun, hdoze, hoff])).trans (if_neg (by simp [hexact]))

theorem State.tickStart_circle : s.tickStart.circle = s.circle := s.settleLegs_lowRegs.circle

theorem State.tickedBase_frame : s.tickedBase.wipe advanced = s.tickStart.wipe advanced := by
  rw [State.tickedBase, State.advance_advanced]
  exact State.wipe_mono (s.tickStart.slewed_events _) (by decide)

theorem State.tickedBase_tick : s.tickedBase.tick = s.tick + 1 := State.tick_of_wipe s.tickedBase_frame (by decide)

/-- What the advance leaves of the state in which the tick began. -/
theorem State.tickedBase_kept : s.tickedBase.cuffs = s.settleLegs.cuffs ∧ s.tickedBase.boot = s.boot ∧
    s.tickedBase.queues = s.queues ∧ s.tickedBase.mem = s.mem := by
  have hbase := s.tickedBase_frame
  have hlegs := s.settleLegs_edgeFields
  have hboot : s.settleLegs.boot = s.boot := State.boot_of_wipe hlegs (by decide)
  have hqueues : s.settleLegs.queues = s.queues := State.queues_of_wipe hlegs (by decide)
  have hmem : s.settleLegs.mem = s.mem := State.mem_of_wipe hlegs (by decide)
  have hcuffs : s.tickedBase.cuffs = s.tickStart.cuffs := State.cuffs_of_wipe hbase (by decide)
  exact ⟨hcuffs, (State.boot_of_wipe hbase (by decide)).trans hboot,
    (State.queues_of_wipe hbase (by decide)).trans hqueues, (State.mem_of_wipe hbase (by decide)).trans hmem⟩

theorem State.slewed_tb (d : Int) : (s.slewed d).tb = s.tb := State.tb_of_wipe (s.slewed_events d) (by decide)

theorem State.tickedBase_tb : s.tickedBase.tb = { s.tickStart.tb with
    now := (s.tb.now + s.tickCrumbs) % s.circle,
    epoch := if s.tb.now + s.tickCrumbs < s.circle then s.tb.epoch else (s.tb.epoch + 1) % 2 ^ 20 } := by
  rw [State.tickedBase, State.advance_tb, State.slewed_circle, State.tickStart_circle, State.slewed_tb]
  rfl

theorem State.tickedBase_stepRem : s.tickedBase.stepRem = s.stepRem - s.slewStep := by
  have hrem : s.tickStart.stepRem = s.stepRem := s.settleLegs_lowRegs.stepRem
  obtain ⟨hlo, hhi⟩ := s.slewStep_range
  rw [State.tickedBase, State.advance_stepRem, State.slewed_stepRem _ (hrem ▸ hlo) (hrem ▸ hhi), hrem]

end Advance

end Sys2Proof.Machine

/-! The registers of the block pages 0x10 to 0xA1, from the sleeves' to HVC's enables: interrupt events, REL records, fault records and
accesses to the slab leave them all, whatever function or source they name. -/

namespace Sys2Proof.Machine

open Sys2Proof

/-- The registers of pages 0x10 to 0xA1 stay. -/
structure MidKept (s t : State) : Prop where
  reg : ∀ k, 0x10000 ≤ k → k < 0xA2040 → t.reg k = s.reg k

section Kept
variable {s t u : State}

theorem MidKept.refl (s : State) : MidKept s s := ⟨fun _ _ _ => rfl⟩

theorem MidKept.trans (h : MidKept s t) (g : MidKept t u) : MidKept s u :=
  ⟨fun k h1 h2 => (g.reg k h1 h2).trans (h.reg k h1 h2)⟩

theorem MidKept.of_regs (h : t.regs = s.regs) : MidKept s t := ⟨fun k _ _ => State.reg_of_regs h k⟩

theorem MidKept.foldl {α : Type} {g : State → α → State} {l : List α} (h : ∀ s, ∀ x ∈ l, MidKept s (g s x)) (s : State) :
    MidKept s (l.foldl g s) :=
  List.foldlRecOn (motive := fun u : State => MidKept s u) l g (.refl s) fun u hu x hx => hu.trans (h u x hx)

theorem OnlyRegs.midKept {ks : List Nat} (h : OnlyRegs ks s t) (hks : ∀ k ∈ ks, k < 0x10000 ∨ 0xA2040 ≤ k) : MidKept s t :=
  ⟨fun k h1 h2 => h.2 k fun hk => by have := hks k hk; omega⟩

end Kept

section Steps
variable (s : State)

theorem State.setN_midKept {k : Nat} (hk : k < 0x10000 ∨ 0xA2040 ≤ k) (v : Nat) : MidKept s (s.setN k v) :=
  ⟨fun j h1 h2 => s.reg_setN_other (by omega) v⟩

theorem State.send_midKept (o : Out) : MidKept s (s.send o) := .of_regs rfl

theorem State.setChan_midKept (c : Nat) (k : Chan) : MidKept s (s.setChan c k) := .of_regs rfl

theorem State.raise_midKept (id : Nat) : MidKept s (s.raise id) := by
  have hpend : MidKept s ((s.notePend id).setSrcPend id true) :=
    (MidKept.of_regs (State.regs_of_wipe (s.notePend_wipe0 id) rfl)).trans (State.setN_midKept _ (.inr (by simp [Reg.HVC_PEND])) _)
  simp only [State.raise]
  split
  · exact hpend.trans (.of_regs (State.regs_of_wipe (State.deliver_wipe0 _ id) rfl))
  · exact hpend.trans (.of_regs (State.setSrc_regs ..))

theorem State.relRecord_midKept (sev code kind block inst addr : Nat) : MidKept s (s.relRecord sev code kind block inst addr) := by
  have hset : ∀ x a b, MidKept s ((({ s with rel := x } : State).setN Reg.REL_LHEAD a).setN Reg.REL_LHEAD b) := fun x a b =>
    ((MidKept.of_regs (s := s) (t := { s with rel := x }) rfl).trans (State.setN_midKept _ (.inl (by decide)) a)).trans
      (State.setN_midKept _ (.inl (by decide)) b)
  simp only [State.relRecord]
  split
  · exact .refl s
  repeat' split
  · exact hset ..
  · exact (hset ..).trans (State.raise_midKept ..)
  · exact (hset ..).trans (State.raise_midKept ..)

theorem State.updFull_midKept (n : Nat) : MidKept s (s.updFull n) := by
  have hset : ∀ b, MidKept s (s.setBit (Reg.TEN_RING_STAT n) 2 b) := fun b => s.setN_midKept (.inr (by simp only [Reg.TEN_RING_STAT]; omega)) _
  simp only [State.updFull]
  split
  · exact (hset _).trans (State.raise_midKept _ _)
  · exact hset _

theorem State.postRecord_midKept (n : Nat) (r : Cpl) : MidKept s (s.postRecord n r) := by
  have hleave : MidKept s s.leaveL1 := .of_regs (State.regs_of_wipe s.leaveL1_wipe0 rfl)
  have htail : ∀ u : State, ∀ v, MidKept u (u.setN (Reg.TEN_CPL_TAIL n) v) := fun u v =>
    u.setN_midKept (.inr (by simp only [Reg.TEN_CPL_TAIL]; omega)) v
  have hsend : ∀ o, MidKept s (s.leaveL1.send o) := fun o => hleave.trans (.of_regs rfl)
  exact ((hsend _).trans (htail _ _)).trans (htail _ _)

theorem State.setFault_midKept (n j v : Nat) : MidKept s (s.setFault n j v) :=
  MidKept.foldl (g := fun u i => u.setN (Reg.TEN_FAULT n (8 * j + i)) (bits v (32 * i) 32))
    (fun u i _ => u.setN_midKept (.inr (by simp only [Reg.TEN_FAULT]; omega)) _) s

theorem State.noteFault_midKept (n j : Nat) (r : Cpl) : MidKept s (s.noteFault n j r) := by
  have hidx : ∀ u : State, ∀ v, MidKept u (u.setN (Reg.TEN_FAULT_IDX n) v) := fun u v =>
    u.setN_midKept (.inr (by simp only [Reg.TEN_FAULT_IDX]; omega)) v
  have hstep : MidKept s ((s.setFld (Reg.TEN_FAULT_IDX n) 0 6 (j + 1)).incWrap (Reg.TEN_FAULT_IDX n) 16 16) := (hidx _ _).trans (hidx _ _)
  refine MidKept.trans (MidKept.trans hstep ?_) (State.raise_midKept _ _)
  split
  · exact .refl _
  split
  · exact (State.postRecord_midKept ..).trans (State.updFull_midKept ..)
  · exact hidx _ _

theorem State.faultRecord_midKept (n status source object detail : Nat) : MidKept s (s.faultRecord n status source object detail) := by
  rw [State.faultRecord_eq]
  exact (s.setFault_midKept ..).trans (State.noteFault_midKept ..)

theorem State.walkCorrect_midKept (n a : Nat) : MidKept s (s.walkCorrect n a) :=
  MidKept.foldl (fun u w _ => by
    split
    · have hsoft : MidKept u { u with eccSoft := u.eccSoft.filter (· != w) } := .of_regs rfl
      exact (hsoft.trans (State.setN_midKept _ (k := Reg.SLM_ECC_CNT) (.inl (by decide)) _)).trans (State.relRecord_midKept ..)
    · exact .refl u) s

theorem State.walkFailed_midKept (n a src code level : Nat) : MidKept s (s.walkFailed n a src code level) := by
  have hset : ∀ x y z, MidKept s (((s.setN Reg.SLM_FAULT_INFO x).setN Reg.SLM_FAULT_ADDR y).setN Reg.SLM_FAULT_CNT z) := fun x y z =>
    ((s.setN_midKept (.inl (by decide)) x).trans (State.setN_midKept _ (.inl (by decide)) y)).trans (State.setN_midKept _ (.inl (by decide)) z)
  simp only [State.walkFailed]
  split
  · exact (hset ..).trans (State.setN_midKept _ (.inl (by decide)) _)
  · exact hset ..

theorem State.reach_midKept (n a src : Nat) : MidKept s (s.reach n a src).left := by
  rw [State.reach]
  split
  · exact s.walkCorrect_midKept n a
  · exact (s.walkCorrect_midKept n a).trans (State.walkFailed_midKept ..)

theorem State.slabWrite_midKept (n a len v src : Nat) : MidKept s (s.slabWrite n a len v src).left := by
  have hreach := s.reach_midKept n a src
  rw [State.slabWrite]
  split
  · next h => rwa [h] at hreach
  · next h =>
    rw [h] at hreach
    exact hreach.trans (.of_regs rfl)

theorem State.slabRead_midKept (n a len src : Nat) : MidKept s (s.slabRead n a len src).left := by
  have hreach := s.reach_midKept n a src
  rw [State.slabRead]
  split
  · next h => rwa [h] at hreach
  · next h =>
    rw [h] at hreach
    split
    · exact hreach.trans (State.setN_midKept _ (.inl (by decide)) _)
    · exact hreach

end Steps

/-! ### Beside some registers -/

/-- The registers of pages 0x10 to 0xA1 stay but those of `ks`. -/
structure MidBut (ks : List Nat) (s t : State) : Prop where
  reg : ∀ k, k ∉ ks → 0x10000 ≤ k → k < 0xA2040 → t.reg k = s.reg k

section But
variable {ks : List Nat} {s t u : State}

theorem MidKept.but (h : MidKept s t) (ks : List Nat) : MidBut ks s t := ⟨fun k _ => h.reg k⟩

theorem OnlyRegs.midBut (h : OnlyRegs ks s t) : MidBut ks s t := ⟨fun k hk _ _ => h.2 k hk⟩

theorem MidBut.refl (ks : List Nat) (s : State) : MidBut ks s s := (MidKept.refl s).but ks

theorem MidBut.trans (h : MidBut ks s t) (g : MidBut ks t u) : MidBut ks s u :=
  ⟨fun k hk h1 h2 => (g.reg k hk h1 h2).trans (h.reg k hk h1 h2)⟩

theorem MidBut.setN (h : MidBut ks s t) {k : Nat} (hk : k ∈ ks) (v : Nat) : MidBut ks s (t.setN k v) :=
  h.trans ((OnlyRegs.refl ks t).setN hk v).midBut

theorem MidBut.setFld (h : MidBut ks s t) {k : Nat} (hk : k ∈ ks) (lo n v : Nat) : MidBut ks s (t.setFld k lo n v) := h.setN hk _

theorem MidBut.mono {ls : List Nat} (h : MidBut ks s t) (hsub : ∀ k ∈ ks, k ∈ ls) : MidBut ls s t :=
  ⟨fun k hk => h.reg k fun hin => hk (hsub k hin)⟩

end But

end Sys2Proof.Machine

/-! How a command of a ring that may run now completes (R260, R262). -/

namespace Sys2Proof.Machine

open Sys2Proof

section Commands
variable {s : State} {tag op n : Nat} {c : Cmd} {sub : Nat → Bool}

/-- A command that may run completes with its effect. -/
theorem State.runCmd_ready (h : s.ready tag op sub = some (n, c)) (f : State → Nat → Nat → CmdRes) :
    s.runCmd tag op f sub = (f s n c.param).st.finishCmd n c (f s n c.param).code (f s n c.param).r0 (f s n c.param).r1 := by
  simp only [State.runCmd, h]

/-- The command that is ready meets the code that its row asks for. -/
theorem State.sub_of_ready (h : s.ready tag op sub = some (n, c)) : sub c.param = true := by
  rw [State.ready] at h
  split at h
  · next m d hfind =>
    obtain ⟨e, -, he⟩ := List.exists_of_findSome?_eq_some hfind
    obtain ⟨x, hx, hd⟩ := Option.map_eq_some_iff.mp he
    have hmeets := List.find?_some hx
    simp only [Bool.and_eq_true] at hmeets
    split at h
    · simp only [Prod.mk.injEq, Option.some.injEq] at hd h
      rw [← h.2, ← hd.2]
      exact hmeets.2
    · exact nomatch h
  · exact nomatch h

end Commands

end Sys2Proof.Machine

/-! What judging the head of a target's FIFO, and finishing an action, may change: registers and interrupt events, memory marks, the
FIFOs, voters and queues, the wheel, the trays and what they hold, and REL's ring. Everything else stays. -/

namespace Sys2Proof.Machine

open Sys2Proof

variable (s : State)

theorem State.cufErr_wipe0 (c b : Nat) : (s.cufErr c b).wipe 74493896107474 = s.wipe 74493896107474 := by
  simp [State.cufErr]

theorem State.unkeep_wipe0 (f : Flight) : (s.unkeep f).wipe 74493896107474 = s.wipe 74493896107474 := by
  simp only [State.unkeep]
  split
  · simp
  · rfl

theorem State.setTargetFifo_wipe0 (ttype target : Nat) (l : List Flight) :
    (s.setTargetFifo ttype target l).wipe 74493896107474 = s.wipe 74493896107474 := by
  simp only [State.setTargetFifo]
  split <;> simp

theorem State.popFifo_wipe0 (ttype target : Nat) : (s.popFifo ttype target).wipe 74493896107474 = s.wipe 74493896107474 := by
  simp only [State.popFifo]
  split
  · exact (State.setTargetFifo_wipe0 ..).trans (s.unkeep_wipe0 _)
  · exact (State.setTargetFifo_wipe0 ..).trans (s.unkeep_wipe0 _)
  · exact State.setTargetFifo_wipe0 ..

theorem State.withdraw_wipe0 (p : Flight → Bool) : (s.withdraw p).wipe 74493896107474 = s.wipe 74493896107474 := by
  simp only [State.withdraw]
  rw [State.foldl_wipe _ _ (by simp), State.foldl_wipe _ _ (by simp), State.foldl_wipe _ _ (by simp)]
  rfl

theorem State.recall_wipe0 (q : Nat) (first : Option Flight) : (s.recall q first).wipe 74493896107474 = s.wipe 74493896107474 := by
  rw [State.recall, State.setQueue_wipe _ _ _ _ (by decide)]
  exact State.withdraw_wipe0 ..

theorem State.lateFault_wipe0 (f : Flight) : (s.lateFault f).wipe 74493896107474 = s.wipe 74493896107474 := by
  simp only [State.lateFault]
  split
  · rw [State.faultRecord_wipe _ _ _ _ _ _ _ (by decide), State.stopQueue_wipe _ _ _ _ (by decide), State.recall_wipe0,
      State.execRecord_wipe _ _ _ _ _ _ (by decide)]
  · rw [State.execRecord_wipe _ _ _ _ _ _ (by decide)]

theorem State.countLate_wipe0 (f : Flight) : (s.countLate f).wipe 74493896107474 = s.wipe 74493896107474 := by
  simp only [State.countLate]
  split <;> simp

theorem State.copyStore_wipe0 (src dst : Nat) : (s.copyStore src dst).wipe 74493896107474 = s.wipe 74493896107474 := by
  simp [State.copyStore, State.wipe, Nat.testBit]

theorem State.startRebuild_wipe0 (t : Nat) : (s.startRebuild t).wipe 74493896107474 = s.wipe 74493896107474 := by
  simp only [State.startRebuild]
  split
  · rfl
  · rw [State.takeSpare, State.setTray_wipe _ _ _ _ (by decide), State.copyStore_wipe0, State.setBit_wipe _ _ _ _ _ (by decide)]

theorem State.loseVote_wipe0 (t : Nat) : (s.loseVote t).wipe 74493896107474 = s.wipe 74493896107474 := by
  simp only [State.loseVote]
  have hcount (u : State) (l : List Nat) (v : Nat) :
      ({ u with votes := Tbl.set [] u.votes t l }.setFld (Reg.ADM_VOTE t) 0 2 v).wipe 74493896107474 = u.wipe 74493896107474 := by
    rw [State.setFld_wipe _ _ _ _ _ _ (by decide)]
    rfl
  split
  · rw [hcount]
    simp
  · rw [State.startRebuild_wipe0, State.raise_wipe _ _ _ (by decide), State.setBit_wipe _ _ _ _ _ (by decide), hcount]
    simp

theorem State.closeVote_wipe0 (ttype target : Nat) (f : Flight) : (s.closeVote ttype target f).wipe 74493896107474 = s.wipe 74493896107474 := by
  simp only [State.closeVote]
  split
  · rfl
  · rw [State.setVoter_wipe _ _ _ _ (by decide)]
    exact State.foldl_wipe _ _ (fun u i => State.loseVote_wipe0 ..) _ _

theorem State.refuseAt_wipe0 (f : Flight) (err : Nat) : (s.refuseAt f err).wipe 74493896107474 = s.wipe 74493896107474 := by
  have herr : (if f.ttype = 1 ∨ f.ttype = 2 then s.cufErr (serveCuff f.ttype f.target) err else s).wipe 74493896107474 = s.wipe 74493896107474 := by
    split
    · exact State.cufErr_wipe0 ..
    · rfl
  simp only [State.refuseAt]
  split
  · rw [State.execRecord_wipe _ _ _ _ _ _ (by decide), herr]
  · exact herr

theorem State.judgeHead_wipe0 (ttype target : Nat) : (s.judgeHead ttype target).1.wipe 74493896107474 = s.wipe 74493896107474 := by
  have hrel (u : State) (a b c d e f : Nat) : (u.relRecord a b c d e f).wipe 74493896107474 = u.wipe 74493896107474 :=
    State.relRecord_wipe _ _ _ _ _ _ _ _ (by decide)
  have hexec (u : State) (a : Action) (o : Origin) (c t : Nat) : (u.execRecord a o c t).wipe 74493896107474 = u.wipe 74493896107474 :=
    State.execRecord_wipe _ _ _ _ _ _ (by decide)
  unfold State.judgeHead
  split
  · rfl
  · split
    · rfl
    · extract_lets u damaged pop str late counted v
      have hu : u.wipe 74493896107474 = s.wipe 74493896107474 := s.closeVote_wipe0 ..
      have hcounted : counted.wipe 74493896107474 = s.wipe 74493896107474 := by
        refine Eq.trans ?_ hu
        show (if _ then _ else _ : State).wipe _ = _
        split
        · rfl
        · exact u.countLate_wipe0 _
      have hv : v.wipe 74493896107474 = s.wipe 74493896107474 := by
        refine Eq.trans ?_ hcounted
        show (if _ then _ else _ : State).wipe _ = _
        split
        · exact State.cufErr_wipe0 ..
        · rfl
      have hpop : pop.wipe 74493896107474 = s.wipe 74493896107474 := (u.popFifo_wipe0 ..).trans hu
      have hdamaged : damaged.wipe 74493896107474 = s.wipe 74493896107474 := (hrel ..).trans ((u.popFifo_wipe0 ..).trans hu)
      clear_value u damaged pop str late counted v
      repeat' split
      all_goals simp only [State.setTargetFifo_wipe0, State.cufErr_wipe0, State.popFifo_wipe0, State.refuseAt_wipe0,
        State.lateFault_wipe0, hrel, hexec, hu, hv, hpop, hdamaged]

theorem State.judge_wipe0 (ttype target n : Nat) : (s.judge ttype target n).wipe 74493896107474 = s.wipe 74493896107474 := by
  induction n generalizing s with
  | zero => rfl
  | succ n ih =>
    simp only [State.judge]
    split
    · exact (ih _).trans (s.judgeHead_wipe0 ..)
    · exact s.judgeHead_wipe0 ..

theorem State.judgeFifo_wipe0 (ttype target : Nat) : (s.judgeFifo ttype target).wipe 74493896107474 = s.wipe 74493896107474 :=
  s.judge_wipe0 ..

theorem State.taken_wipe0 (ttype target : Nat) : (s.taken ttype target).wipe 74493896107474 = s.wipe 74493896107474 := by
  simp only [State.taken]
  split
  · simp
  · rfl

theorem State.usedNow_wipe0 (ttype target : Nat) : (s.usedNow ttype target).wipe 74493896107474 = s.wipe 74493896107474 :=
  State.foldl_wipe _ _ (by simp) _ _

theorem State.finish_wipe0 (f : Flight) : (s.finish f).wipe 74493896107474 = s.wipe 74493896107474 := by
  have hleft : (((s.popFifo f.ttype f.target).taken f.ttype f.target).usedNow f.ttype f.target).wipe 74493896107474 = s.wipe 74493896107474 :=
    ((State.usedNow_wipe0 ..).trans (State.taken_wipe0 ..)).trans (State.popFifo_wipe0 ..)
  rw [State.finish, State.judgeFifo_wipe0]
  split
  · rw [State.execRecord_wipe _ _ _ _ _ _ (by decide), hleft]
  · rw [State.logExec_wipe _ _ _ _ _ _ (by decide), hleft]

end Sys2Proof.Machine

/-! Rules of microwords: what `State.issue` makes of a word that is to be executed, and what the arithmetic over numbers gives on
the bit vectors of the registers (R133-R146). -/

namespace Sys2Proof.Machine

open Sys2Proof

/-! ### The issue of a word -/

section Issue
variable (s : State)

@[simp] theorem State.takeTurn_ctxs (c : Nat) : (s.takeTurn c).ctxs = s.ctxs := rfl

@[simp] theorem State.fetchCorrect_ctxs (t a : Nat) : (s.fetchCorrect t a).ctxs = s.ctxs := by
  unfold State.fetchCorrect
  split <;> simp

@[simp] theorem State.fetched_ctxs (c : Nat) : (s.fetched c).ctxs = s.ctxs := by simp [State.fetched]

theorem State.ctx_congr {s t : State} (h : s.ctxs = t.ctxs) (c : Nat) : s.ctx c = t.ctx c := by rw [State.ctx, State.ctx, h]

@[simp] theorem State.fetched_ctx (c d : Nat) : (s.fetched c).ctx d = s.ctx d := State.ctx_congr (s.fetched_ctxs c) d

/-- A context that stays in its state is only put back (R164, R166 do not meet it). -/
theorem State.putCtx_same_st {c : Nat} {k : Ctx} (h : k.st = (s.ctx c).st) : s.putCtx c k = s.setCtx c k := if_pos h.symm

@[simp] theorem Ctx.complete_st (k : Ctx) (na : Nat) : (k.complete na).st = k.st := by
  unfold Ctx.complete
  split <;> split <;> grind

variable {s} {c : Nat} {x : Insn}

/-- A context about to execute a word executes it, and nothing asynchronous comes before (R148). -/
theorem State.issue_of_issues (h : s.issues c x) (f : Insn → Ctx → State → MRes) :
    s.issue c x.op f = (s.fetched c).settleWord c (f x (s.ctx c) (s.fetched c)) := by
  obtain ⟨-, hissuing, hbad, hfetch, hnative, hx, hreserved, hplaced, -⟩ := h
  rw [State.curInsn] at hx
  simp only [State.issue, hx]
  rw [if_neg (by rw [hissuing]; decide), if_neg (by rw [hbad]; decide), if_neg (by simp [hfetch]), if_neg (by simp [hnative]),
    if_neg (by simp [hreserved]), if_neg (by simp), State.fetched_ctx, if_neg (by simp [hplaced])]

/-- The state in which a word's outcome leaves the part where no asynchronous cause is pending. -/
def MRes.settled (c : Nat) : MRes → State
  | .trap z info addr t => t.syncTrap c z info addr
  | .next k na t => t.putCtx c (k.complete na)
  | .done t => t

theorem State.settleWord_of_issues (h : s.issues c x) (r : MRes) : (s.fetched c).settleWord c r = r.settled c := by
  obtain ⟨-, -, -, -, -, -, -, -, hquiet⟩ := h
  have hnone : (if (s.ctx c).inHandler then none else (s.ctx c).topPend) = none := by
    rcases hquiet with e | e
    · simp [e]
    · simp [Ctx.topPend, e]
  simp only [State.settleWord, State.fetched_ctx, hnone]
  cases r <;> rfl

/-- A word that leaves the context's state and goes on at a successor. -/
theorem State.issue_next (h : s.issues c x) {f : Insn → Ctx → State → MRes} {k : Ctx} {na : Nat}
    (hf : f x (s.ctx c) (s.fetched c) = .next k na (s.fetched c)) (hst : k.st = (s.ctx c).st) :
    s.issue c x.op f = s.completed c k na := by
  rw [State.issue_of_issues h, State.settleWord_of_issues h, hf]
  exact State.putCtx_same_st _ (by simp [hst])

theorem State.issue_trap (h : s.issues c x) {f : Insn → Ctx → State → MRes} {z : Nat} {info addr : Option Nat} {t : State}
    (hf : f x (s.ctx c) (s.fetched c) = .trap z info addr t) : s.issue c x.op f = t.syncTrap c z info addr := by
  rw [State.issue_of_issues h, State.settleWord_of_issues h, hf]; rfl

theorem State.issue_done (h : s.issues c x) {f : Insn → Ctx → State → MRes} {t : State}
    (hf : f x (s.ctx c) (s.fetched c) = .done t) : s.issue c x.op f = t := by
  rw [State.issue_of_issues h, State.settleWord_of_issues h, hf]; rfl

/-- The row of a word runs it at a context of the device. -/
theorem State.onCtx (h : s.issues c x) (t : State) : onUnit (okCtx c) t = .next t := if_pos h.1

/-- K has 12 bits. -/
theorem State.k_lt_of_issues (h : s.issues c x) : x.k < 4096 := by
  obtain ⟨-, -, -, -, -, rfl, -⟩ := h
  exact Nat.mod_lt _ (by decide)

end Issue

/-! ### Registers as bit vectors -/

section Registers
variable (k : Ctx) (i : Nat)

@[simp] theorem Ctx.get_eq : k.get i = (k.reg i).toNat := rfl

@[simp] theorem Ctx.put_eq (v : Nat) : k.put i v = k.withReg i (BitVec.ofNat 20 v) := rfl

theorem Ctx.get3_eq : k.get3 i = (k.three i).toNat := by
  have h0 := (k.reg i).isLt
  have h1 := (k.reg (i + 1)).isLt
  rw [Ctx.three, BitVec.toNat_append, BitVec.toNat_append, ← Nat.shiftLeft_add_eq_or_of_lt h1, ← Nat.shiftLeft_add_eq_or_of_lt h0,
    Nat.shiftLeft_eq, Nat.shiftLeft_eq]
  simp only [Ctx.get3, Ctx.get_eq]
  omega

theorem Ctx.put3_eq (v : Nat) : k.put3 i v = k.withThree i (BitVec.ofNat 60 v) := by
  have hpart : ∀ m, m + 20 ≤ 60 → BitVec.ofNat 20 (v / 2 ^ m % 2 ^ 20) = (BitVec.ofNat 60 v).extractLsb' m 20 := by
    intro m hm
    refine BitVec.eq_of_getLsbD_eq fun j hj => ?_
    rw [BitVec.getLsbD_ofNat, BitVec.getLsbD_extractLsb', BitVec.getLsbD_ofNat, Nat.testBit_mod_two_pow, Nat.testBit_div_two_pow]
    simp [hj, Nat.add_comm, show m + j < 60 by omega]
  have h0 := hpart 0 (by decide)
  rw [pow_zero, Nat.div_one] at h0
  simp only [Ctx.put3, Ctx.put_eq, h0, hpart 20 (by decide), hpart 40 (by decide)]
  rfl

end Registers

end Sys2Proof.Machine

/-! The arithmetic of the microengines over numbers, on the values of bit vectors: sums, differences and shifts with their flags
(R141, R142). -/

namespace Sys2Proof.Machine

open Sys2Proof

variable {w : Nat}

/-! ### Signs and overflow -/

theorem sgn_toNat (hw : 0 < w) (a : BitVec w) : sgn w a.toNat = a.toInt := by
  rw [sgn, BitVec.toInt_eq_toNat_cond]
  refine if_congr ?_ rfl rfl
  have hdouble : 2 ^ w = 2 * 2 ^ (w - 1) := by rw [← pow_succ', Nat.sub_add_cancel hw]
  omega

theorem top_toNat (a : BitVec w) : top w a.toNat = a.msb := (BitVec.msb_eq_decide a).symm

theorem toNat_zero_iff (a : BitVec w) : decide (a.toNat = 0) = (a == 0) := by
  rw [Bool.eq_iff_iff, decide_eq_true_iff, beq_iff_eq, BitVec.toNat_eq]
  simp

/-- A sum overflows where its signed value is not the sum of the signed values. -/
theorem saddOverflow_iff (a b : BitVec w) : decide ((a + b).toInt ≠ a.toInt + b.toInt) = a.saddOverflow b := by
  rw [Bool.eq_iff_iff, decide_eq_true_iff]
  refine ⟨fun h => Decidable.byContradiction fun hn => h (BitVec.toInt_add_of_not_saddOverflow hn), fun h e => ?_⟩
  have hlt := (a + b).toInt_lt
  have hle := (a + b).le_toInt
  simp only [BitVec.saddOverflow, Bool.or_eq_true, decide_eq_true_iff] at h
  omega

theorem ssubOverflow_iff (a b : BitVec w) : decide ((a - b).toInt ≠ a.toInt - b.toInt) = a.ssubOverflow b := by
  rw [Bool.eq_iff_iff, decide_eq_true_iff]
  refine ⟨fun h => Decidable.byContradiction fun hn => h (BitVec.toInt_sub_of_not_ssubOverflow hn), fun h e => ?_⟩
  have hlt := (a - b).toInt_lt
  have hle := (a - b).le_toInt
  simp only [BitVec.ssubOverflow, Bool.or_eq_true, decide_eq_true_iff] at h
  omega

/-! ### Sums and differences -/

/-- A carry or borrow that comes in, as a vector. -/
theorem toNat_carry (hw : 0 < w) (c : Bool) : (if c then 1 else 0 : BitVec w).toNat = b2n c := by
  cases c <;> simp [b2n, Nat.one_mod_two_pow_eq_one.mpr hw]

theorem aluAdd_toNat (hw : 0 < w) (a b cin : BitVec w) : aluAdd w a.toNat b.toNat cin.toNat =
    { val := (a + b + cin).toNat, c := decide (2 ^ w ≤ a.toNat + b.toNat + cin.toNat), z := a + b + cin == 0,
      n := (a + b + cin).msb, v := decide ((a + b + cin).toInt ≠ a.toInt + b.toInt + cin.toNat) } := by
  have hval : (a.toNat + b.toNat + cin.toNat) % 2 ^ w = (a + b + cin).toNat := by simp
  simp only [aluAdd, hval, sgn_toNat hw, top_toNat, toNat_zero_iff]

/-- The flags of a sum without a carry in. -/
theorem aluAdd_zero (hw : 0 < w) (a b : BitVec w) : aluAdd w a.toNat b.toNat 0 =
    { val := (a + b).toNat, c := BitVec.uaddOverflow a b, z := a + b == 0, n := (a + b).msb, v := BitVec.saddOverflow a b } := by
  have h := aluAdd_toNat hw a b 0#w
  simp only [BitVec.toNat_ofNat, Nat.zero_mod, BitVec.add_zero, Nat.cast_zero, add_zero, saddOverflow_iff] at h
  exact h

theorem aluSub_toNat (hw : 0 < w) (a b cin : BitVec w) : aluSub w a.toNat b.toNat cin.toNat =
    { val := (a - b - cin).toNat, c := decide (a.toNat < b.toNat + cin.toNat), z := a - b - cin == 0,
      n := (a - b - cin).msb, v := decide ((a - b - cin).toInt ≠ a.toInt - b.toInt - cin.toNat) } := by
  have hval : (a.toNat + 2 ^ w + 2 ^ w - b.toNat - cin.toNat) % 2 ^ w = (a - b - cin).toNat := by
    have hb := b.isLt
    have hc := cin.isLt
    rw [BitVec.toNat_sub, BitVec.toNat_sub, Nat.add_mod_mod]
    congr 1
    omega
  simp only [aluSub, hval, sgn_toNat hw, top_toNat, toNat_zero_iff]

/-- The flags of a difference without a borrow in. -/
theorem aluSub_zero (hw : 0 < w) (a b : BitVec w) : aluSub w a.toNat b.toNat 0 =
    { val := (a - b).toNat, c := BitVec.usubOverflow a b, z := a - b == 0, n := (a - b).msb, v := BitVec.ssubOverflow a b } := by
  have h := aluSub_toNat hw a b 0#w
  simp only [BitVec.toNat_ofNat, Nat.zero_mod, BitVec.sub_zero, Nat.cast_zero, sub_zero, ssubOverflow_iff] at h
  exact h

/-! ### Results in registers -/

section Results
variable (k : Ctx) (i : Nat)

@[simp] theorem Ctx.withReg_toNat (r : BitVec 20) : k.withReg i (BitVec.ofNat 20 r.toNat) = k.withReg i r := by
  rw [BitVec.ofNat_toNat, BitVec.setWidth_eq]

@[simp] theorem Ctx.withThree_toNat (r : BitVec 60) : k.withThree i (BitVec.ofNat 60 r.toNat) = k.withThree i r := by
  rw [BitVec.ofNat_toNat, BitVec.setWidth_eq]

theorem Ctx.zn_toNat (r : BitVec 20) : k.zn r.toNat = { k with z := r == 0, n := r.msb } := by
  rw [Ctx.zn, toNat_zero_iff, top_toNat]

end Results

/-! ### Shifts by at least one place -/

theorem bit_of_div (x n : Nat) : decide (x / 2 ^ n % 2 = 1) = x.testBit n := Nat.testBit_eq_decide_div_mod_eq.symm

theorem shiftLeft_toNat (b : BitVec 20) {n : Nat} (hn : n ≠ 0) :
    shiftLeft b.toNat n = ((b <<< n).toNat, some (decide (n ≤ 20) && b.getLsbD (20 - n))) := by
  have hout : (b.toNat * 2 ^ n).testBit 20 = (decide (n ≤ 20) && b.getLsbD (20 - n)) := by
    rw [Nat.testBit_mul_two_pow]
    rfl
  rw [shiftLeft, if_neg hn, bit_of_div, hout, BitVec.toNat_shiftLeft, Nat.shiftLeft_eq]

theorem shiftRight_toNat (b : BitVec 20) {n : Nat} (hn : n ≠ 0) :
    shiftRight b.toNat n = ((b >>> n).toNat, some (b.getLsbD (n - 1))) := by
  rw [shiftRight, if_neg hn, bit_of_div, BitVec.toNat_ushiftRight, Nat.shiftRight_eq_div_pow]
  rfl

/-- The number that an arithmetic shift divides: the register's value with 32 copies of its sign above it. -/
theorem signCopies_toNat (b : BitVec 20) :
    (if top 20 b.toNat then b.toNat + (2 ^ 52 - 2 ^ 20) else b.toNat) = (b.signExtend 52).toNat := by
  rw [top_toNat, BitVec.toNat_signExtend]
  have := b.isLt
  cases b.msb <;> simp [BitVec.toNat_setWidth] <;> omega

theorem shiftArith_toNat (b : BitVec 20) {n : Nat} (hn : n ≠ 0) (hlt : n < 32) :
    shiftArith b.toNat n = ((b.sshiftRight n).toNat, some (if n ≤ 20 then b.getLsbD (n - 1) else b.msb)) := by
  have hval : (b.signExtend 52).toNat / 2 ^ n % 2 ^ 20 = (b.sshiftRight n).toNat := by
    rw [← Nat.shiftRight_eq_div_pow, ← BitVec.toNat_ushiftRight, ← BitVec.toNat_setWidth]
    congr 1
    refine BitVec.eq_of_getLsbD_eq fun j hj => ?_
    rw [BitVec.getLsbD_setWidth, BitVec.getLsbD_ushiftRight, BitVec.getLsbD_signExtend, BitVec.getLsbD_sshiftRight]
    simp [hj, show n + j < 52 by omega, show ¬20 ≤ j by omega]
  have hout : (b.signExtend 52).toNat.testBit (n - 1) = if n ≤ 20 then b.getLsbD (n - 1) else b.msb := by
    rw [show (b.signExtend 52).toNat.testBit (n - 1) = (b.signExtend 52).getLsbD (n - 1) from rfl, BitVec.getLsbD_signExtend]
    simp only [show n - 1 < 52 by omega, decide_true, Bool.true_and]
    exact if_congr (by omega) rfl rfl
  simp only [shiftArith, signCopies_toNat, if_neg hn, bit_of_div, hval, hout]

end Sys2Proof.Machine

/-! What moving a context from state to state leaves (R147-R166): its own entry is written, and besides it at most what the tray's
interrupt sources and the records write. -/

namespace Sys2Proof.Machine

open Sys2Proof

variable (s : State)

/-! ### The tray's levels -/

theorem State.trayLevels_wipe0 (p : Nat) : (s.trayLevels p).wipe 4123202158610 = s.wipe 4123202158610 := by
  simp [State.trayLevels]

/-- Besides the context, putting it into another state changes at most the tray's sources and what they raise. -/
theorem State.putCtx_wipe0 (c : Nat) (k : Ctx) : (s.putCtx c k).wipe 4123202158610 = (s.setCtx c k).wipe 4123202158610 := by
  have hfault : ∀ (t : State) (p : Nat), (if k.st = .faulted then t.trayPulse p 5 else t).wipe 4123202158610 = t.wipe 4123202158610 := by
    intro t p
    split <;> simp
  have hbusy : ∀ (t : State) (p : Nat) (b : Prop) [Decidable b],
      (if b then t.setBit (Reg.TRY_IRQ_CTRL p) 1 false else t).wipe 4123202158610 = t.wipe 4123202158610 := by
    intro t p b _
    split <;> simp
  have hlevel : ∀ (t : State) (p : Nat) (b : Prop) [Decidable b],
      (if b then t.trayLevels p else t).wipe 4123202158610 = t.wipe 4123202158610 := by
    intro t p b _
    split <;> simp [State.trayLevels_wipe0]
  unfold State.putCtx
  dsimp only
  split
  · rfl
  · rw [hlevel, hbusy, hfault]

section PutCtx
variable (c : Nat) (k : Ctx)

theorem State.putCtx_ctxs : (s.putCtx c k).ctxs = (s.setCtx c k).ctxs := State.ctxs_of_wipe (s.putCtx_wipe0 c k) rfl
@[simp] theorem State.putCtx_flags : (s.putCtx c k).flags = s.flags :=
  (State.flags_of_wipe (s.putCtx_wipe0 c k) rfl).trans (s.setCtx_flags c k)
@[simp] theorem State.putCtx_fifos : (s.putCtx c k).fifos = s.fifos :=
  (State.fifos_of_wipe (s.putCtx_wipe0 c k) rfl).trans (s.setCtx_fifos c k)
@[simp] theorem State.putCtx_tick : (s.putCtx c k).tick = s.tick :=
  (State.tick_of_wipe (s.putCtx_wipe0 c k) rfl).trans (s.setCtx_tick c k)
@[simp] theorem State.putCtx_tb : (s.putCtx c k).tb = s.tb :=
  (State.tb_of_wipe (s.putCtx_wipe0 c k) rfl).trans (s.setCtx_tb c k)
@[simp] theorem State.putCtx_mem : (s.putCtx c k).mem = s.mem :=
  (State.mem_of_wipe (s.putCtx_wipe0 c k) rfl).trans (s.setCtx_mem c k)

/-- A context reads what was put, and every other one what it was. -/
theorem State.ctx_putCtx (d : Nat) : (s.putCtx c k).ctx d = if d = c then k else s.ctx d :=
  (State.ctx_congr (s.putCtx_ctxs c k) d).trans (s.ctx_setCtx c d k)

@[simp] theorem State.ctx_putCtx_same : (s.putCtx c k).ctx c = k := (s.ctx_putCtx c k c).trans (if_pos rfl)

theorem State.ctx_putCtx_other {d : Nat} (h : d ≠ c) : (s.putCtx c k).ctx d = s.ctx d := (s.ctx_putCtx c k d).trans (if_neg h)

end PutCtx

/-! ### Traps -/

@[simp] theorem State.setWindow_ctx (c w d : Nat) : (s.setWindow c w).ctx d = s.ctx d := rfl

@[simp] theorem State.noteIssue_ctx (c d : Nat) : (s.noteIssue c).ctx d = s.ctx d := rfl

theorem State.ctxRecord_wipe0 (c cause : Nat) (info : Option Nat) :
    (s.ctxRecord c cause info).wipe 4123168604178 = s.wipe 4123168604178 := by
  unfold State.ctxRecord
  split
  · split <;> simp
  · rfl

@[simp] theorem State.ctxRecord_ctx (c cause : Nat) (info : Option Nat) (d : Nat) : (s.ctxRecord c cause info).ctx d = s.ctx d :=
  State.ctx_congr (State.ctxs_of_wipe (s.ctxRecord_wipe0 c cause info) rfl) d

@[simp] theorem State.ctxRecord_flags (c cause : Nat) (info : Option Nat) : (s.ctxRecord c cause info).flags = s.flags :=
  State.flags_of_wipe (s.ctxRecord_wipe0 c cause info) rfl

/-- The context that a trap enters its handler with (R149), its cause left to `enterTrap`. -/
def Ctx.entered (k : Ctx) (cause info addr : Nat) : Ctx :=
  { k with
    tinfo := info, taddr := addr, saved := true, mode := 1, pmode := none, slot := none, la := false, stack := [], inHandler := true,
    st := .trap, waitKind := 0, tcause := cause, tprio := causePrio cause, traps := (k.traps + 1) % 2 ^ 16, pc := 2 * cause,
    pend := k.pend.filter (· ≠ cause), base := none }

/-- The micro-state that a trap saves, at a WAIT point reached now (R149, R151, R159). -/
def Ctx.toSave (k : Ctx) (save : Bool) (tick : Nat) : Ctx :=
  let k := if k.atPoint then { k with lastPoint := tick } else k
  if save then { k with save := k.saveWords, baseSaved := k.base } else { k with baseSaved := k.baseSaved <|> k.base }

/-- A trap entry writes the record of its cause, and puts the context into its handler. -/
theorem State.enterTrap_eq (c cause : Nat) (info addr : Option Nat) (save : Bool) : s.enterTrap c cause info addr save =
    let u := ((s.ctxRecord c cause info).noteIssue c).setWindow c 1
    let f := (Config.freeWord u.fresh).toNat
    u.nextFresh.putCtx c (((s.ctx c).toSave save u.tick).entered cause (info.getD (f % 256)) (addr.getD (f / 256 % 2 ^ 20))) := rfl

section Trapped
variable (c cause : Nat) (info addr : Option Nat) (save : Bool)

/-- What a trap entry does to the contexts: it writes the trapped one alone. -/
theorem State.ctx_enterTrap : ∃ i a tick, (∀ y, info = some y → i = y) ∧ ∀ d, (s.enterTrap c cause info addr save).ctx d =
    if d = c then ((s.ctx c).toSave save tick).entered cause i a else s.ctx d := by
  rw [State.enterTrap_eq]
  refine ⟨_, _, _, ?_, fun d => (State.ctx_putCtx _ c _ d).trans (if_congr Iff.rfl rfl (s.ctxRecord_ctx c cause info d))⟩
  rintro y rfl
  rfl

end Trapped

/-! ### What none of them writes

An event of a context changes at most the contexts, the trays, the registers, the sources and messages of interrupts, and the
counter of free picks. -/

/-- The fields that an event of a context may write. -/
abbrev ctxEvent : Nat := 4123269267478

section Kept
variable (c : Nat)

theorem State.putCtx_event (k : Ctx) : (s.putCtx c k).wipe ctxEvent = s.wipe ctxEvent :=
  (State.wipe_mono (s.putCtx_wipe0 c k) (by decide)).trans (s.setCtx_wipe c k _ (by decide))

theorem State.ctxRecord_event (cause : Nat) (info : Option Nat) : (s.ctxRecord c cause info).wipe ctxEvent = s.wipe ctxEvent :=
  State.wipe_mono (s.ctxRecord_wipe0 c cause info) (by decide)

theorem State.enterTrap_event (cause : Nat) (info addr : Option Nat) (save : Bool) :
    (s.enterTrap c cause info addr save).wipe ctxEvent = s.wipe ctxEvent := by
  rw [State.enterTrap_eq]
  dsimp only
  rw [State.putCtx_event, State.nextFresh_wipe _ _ (by decide), State.setWindow, State.turnAt, State.setTray_wipe _ _ _ _ (by decide),
    State.noteIssue, State.turnAt, State.setTray_wipe _ _ _ _ (by decide), State.ctxRecord_event]

theorem State.faultCtx_event (cause : Nat) (info addr : Option Nat) :
    (s.faultCtx c cause info addr).wipe ctxEvent = s.wipe ctxEvent := by
  unfold State.faultCtx
  dsimp only
  rw [State.putCtx_event, State.trapInfo, State.nextFresh_wipe _ _ (by decide), State.ctxRecord_event]

theorem State.asyncTrap_event (cause : Nat) : (s.asyncTrap c cause).wipe ctxEvent = s.wipe ctxEvent := by
  unfold State.asyncTrap
  dsimp only
  split
  · rfl
  split
  · rw [State.enterTrap_event, State.setCtx_wipe _ _ _ _ (by decide)]
  split
  · exact s.enterTrap_event ..
  split
  · exact s.faultCtx_event ..
  split
  · exact s.enterTrap_event ..
  split
  · rfl
  · exact s.setCtx_wipe _ _ _ (by decide)

theorem State.syncTrap_event (cause : Nat) (info addr : Option Nat) : (s.syncTrap c cause info addr).wipe ctxEvent = s.wipe ctxEvent := by
  unfold State.syncTrap
  split
  · exact s.faultCtx_event ..
  · exact s.enterTrap_event ..

theorem State.release_event (time : Nat) (z : Option Bool) : (s.release c time z).wipe ctxEvent = s.wipe ctxEvent := by
  unfold State.release
  dsimp only
  split
  · exact s.setCtx_wipe _ _ _ (by decide)
  split
  · exact s.putCtx_event ..
  · exact s.putCtx_event ..

theorem State.endMove_event : (s.endMove c).wipe ctxEvent = s.wipe ctxEvent := by
  have hrelease : ∀ t : State, (match (s.ctx c).freed with | some (y, z) => t.release c y z | none => t : State).wipe ctxEvent
      = t.wipe ctxEvent := by
    intro t
    split
    · exact t.release_event ..
    · rfl
  unfold State.endMove
  dsimp only
  split
  · split
    · exact (hrelease _).trans (s.putCtx_event ..)
    · exact (State.enterTrap_event ..).trans ((hrelease _).trans (s.putCtx_event ..))
  · exact (hrelease _).trans (s.putCtx_event ..)

end Kept

end Sys2Proof.Machine

/-! What the judging of a FIFO's head leaves (R93-R95, R121, R124): it writes cuffs, FIFOs, voters and queues, their records with the
memory behind them, registers and interrupts, and what the third vote a tray loses starts; no context, no flag, no time base. -/

namespace Sys2Proof.Machine

open Sys2Proof

/-- The fields that the judging of actions may write. -/
abbrev judging : Nat := 74493828997586

/-- Equal wiped states stay equal when one context is set in both. -/
theorem State.setCtx_wipe_congr {s t : State} {m : Nat} (h : t.wipe m = s.wipe m) (c : Nat) (k : Ctx) :
    (t.setCtx c k).wipe m = (s.setCtx c k).wipe m := by
  have hctxs : ∀ u : State, (u.setCtx c k).wipe m = { u.wipe m with ctxs := if m.testBit 26 then [] else (u.setCtx c k).ctxs } := fun _ => rfl
  rw [hctxs, hctxs, h]
  cases hb : m.testBit 26
  · rw [State.setCtx, State.setCtx, State.ctxs_of_wipe h hb]
  · rfl

section Judging
variable (s : State)

@[simp] theorem State.cufErr_judging (c b : Nat) : (s.cufErr c b).wipe judging = s.wipe judging := by
  rw [State.cufErr, State.raise_wipe _ _ _ (by decide), State.setBit_wipe _ _ _ _ _ (by decide)]

@[simp] theorem State.setTargetFifo_judging (ttype target : Nat) (l : List Flight) :
    (s.setTargetFifo ttype target l).wipe judging = s.wipe judging := by
  unfold State.setTargetFifo
  split
  · exact s.setCuff_wipe _ _ _ (by decide)
  · exact s.setFifo_wipe _ _ _ (by decide)

@[simp] theorem State.unkeep_judging (f : Flight) : (s.unkeep f).wipe judging = s.wipe judging := by
  unfold State.unkeep
  dsimp only
  split
  · exact s.setVoter_wipe _ _ _ (by decide)
  · rfl

@[simp] theorem State.popFifo_judging (ttype target : Nat) : (s.popFifo ttype target).wipe judging = s.wipe judging := by
  unfold State.popFifo
  split <;> simp

@[simp] theorem State.pushFifo_judging (ttype target : Nat) (f : Flight) : (s.pushFifo ttype target f).wipe judging = s.wipe judging :=
  s.setTargetFifo_judging ..

@[simp] theorem State.withdraw_judging (p : Flight → Bool) : (s.withdraw p).wipe judging = s.wipe judging := by
  unfold State.withdraw
  dsimp only
  refine (State.foldl_wipe _ _ (fun t k => t.setVoter_wipe _ _ _ (by decide)) _ _).trans ?_
  refine (State.foldl_wipe _ _ (fun t k => t.setFifo_wipe _ _ _ (by decide)) _ _).trans ?_
  exact (State.foldl_wipe _ _ (fun t k => t.setCuff_wipe _ _ _ (by decide)) _ _).trans (s.refs_wipe _ _ (by decide))

@[simp] theorem State.recall_judging (q : Nat) (first : Option Flight) : (s.recall q first).wipe judging = s.wipe judging := by
  unfold State.recall
  dsimp only
  rw [State.setQueue_wipe _ _ _ _ (by decide), State.withdraw_judging]

@[simp] theorem State.execRecord_judging (a : Action) (o : Origin) (status time : Nat) :
    (s.execRecord a o status time).wipe judging = s.wipe judging := s.execRecord_wipe _ _ _ _ _ (by decide)

@[simp] theorem State.faultRecord_judging (fn status source object detail : Nat) :
    (s.faultRecord fn status source object detail).wipe judging = s.wipe judging := s.faultRecord_wipe _ _ _ _ _ _ (by decide)

@[simp] theorem State.relRecord_judging (sev code kind block inst addr : Nat) :
    (s.relRecord sev code kind block inst addr).wipe judging = s.wipe judging := s.relRecord_wipe _ _ _ _ _ _ _ (by decide)

@[simp] theorem State.lateFault_judging (f : Flight) : (s.lateFault f).wipe judging = s.wipe judging := by
  unfold State.lateFault
  dsimp only
  split
  · rw [State.faultRecord_judging, State.stopQueue_wipe _ _ _ _ (by decide), State.recall_judging, State.execRecord_judging]
  · exact s.execRecord_judging ..

@[simp] theorem State.countLate_judging (f : Flight) : (s.countLate f).wipe judging = s.wipe judging := by
  unfold State.countLate
  dsimp only
  split
  · rw [State.raise_wipe _ _ _ (by decide), State.relRecord_judging, State.setBit_wipe _ _ _ _ _ (by decide),
      State.incSat_wipe _ _ _ _ _ (by decide)]
  · exact s.incSat_wipe _ _ _ _ (by decide)

@[simp] theorem State.refuseAt_judging (f : Flight) (err : Nat) : (s.refuseAt f err).wipe judging = s.wipe judging := by
  have herr : (if f.ttype = 1 ∨ f.ttype = 2 then s.cufErr (serveCuff f.ttype f.target) err else s).wipe judging = s.wipe judging := by
    split <;> simp
  unfold State.refuseAt
  dsimp only
  split
  · exact (State.execRecord_judging ..).trans herr
  · exact herr

/-! ### A lost vote -/

@[simp] theorem State.takeSpare_judging (x t : Nat) : (s.takeSpare x t).wipe judging = s.wipe judging := by
  rw [State.takeSpare, State.setTray_wipe _ _ _ _ (by decide)]
  rfl

@[simp] theorem State.startRebuild_judging (t : Nat) : (s.startRebuild t).wipe judging = s.wipe judging := by
  unfold State.startRebuild
  dsimp only
  split
  · rfl
  · rw [State.takeSpare_judging, State.setBit_wipe _ _ _ _ _ (by decide)]

@[simp] theorem State.loseVote_judging (t : Nat) : (s.loseVote t).wipe judging = s.wipe judging := by
  have hcounted : ∀ votes, ({ ((s.relRecord 1 Code.voteLost 4 0x21 t 0).trayPulse t 6).incSat (Reg.ADM_VOTE t) 16 16 with votes := votes }
      : State).wipe judging = s.wipe judging := by
    intro votes
    rw [State.votes_wipe _ _ _ (by decide), State.incSat_wipe _ _ _ _ _ (by decide), State.trayPulse_wipe _ _ _ _ (by decide),
      State.relRecord_judging]
  unfold State.loseVote
  dsimp only
  split
  · exact (State.setFld_wipe _ _ _ _ _ _ (by decide)).trans (hcounted _)
  · rw [State.startRebuild_judging, State.raise_wipe _ _ _ (by decide), State.setBit_wipe _ _ _ _ _ (by decide)]
    exact (State.setFld_wipe _ _ _ _ _ _ (by decide)).trans (hcounted _)

@[simp] theorem State.closeVote_judging (ttype target : Nat) (f : Flight) : (s.closeVote ttype target f).wipe judging = s.wipe judging := by
  unfold State.closeVote
  dsimp only
  split
  · rfl
  · rw [State.setVoter_wipe _ _ _ _ (by decide)]
    exact State.foldl_wipe _ _ (fun t i => t.loseVote_judging _) _ _

/-! ### The head of a FIFO -/

theorem State.judgeHead_judging (ttype target : Nat) : (s.judgeHead ttype target).1.wipe judging = s.wipe judging := by
  have hstep : ∀ (c : Prop) {_ : Decidable c} (u v w : State) (x y : Bool), v.wipe judging = u.wipe judging →
      w.wipe judging = u.wipe judging → (if c then (v, x) else (w, y)).1.wipe judging = u.wipe judging := by
    intro c _ u v w x y hv hw
    split <;> assumption
  have hite : ∀ (c : Prop) {_ : Decidable c} (u v : State) (x : Bool) (r : State × Bool), v.wipe judging = u.wipe judging →
      r.1.wipe judging = u.wipe judging → (if c then (v, x) else r).1.wipe judging = u.wipe judging := by
    intro c _ u v x r hv hr
    split <;> assumption
  simp only [State.judgeHead]
  split
  · rfl
  next f rest hfifo =>
  refine hite _ _ _ _ _ rfl ?_
  have hvote := s.closeVote_judging f.ttype f.target f
  generalize s.closeVote f.ttype f.target f = u at hvote
  rw [← hvote]
  refine hite _ _ _ _ _ (u.setTargetFifo_judging ..) ?_
  refine iteInduction (motive := fun r : State × Bool => r.1.wipe judging = u.wipe judging) (fun _ => ?_) fun _ => ?_
  · split <;> simp
  refine hite _ _ _ _ _ (by simp) (hite _ _ _ _ _ (by simp) ?_)
  refine iteInduction (motive := fun r : State × Bool => r.1.wipe judging = u.wipe judging) (fun _ => ?_) fun _ => ?_
  · refine hstep _ _ _ _ _ _ ?_ rfl
    split <;> simp
  refine iteInduction (motive := fun r : State × Bool => r.1.wipe judging = u.wipe judging) (fun _ => ?_) fun _ => ?_
  · exact u.setTargetFifo_judging ..
  have hcount : (if f.late then u else u.countLate f).wipe judging = u.wipe judging := by split <;> simp
  generalize (if f.late then u else u.countLate f) = w at hcount
  rw [← hcount]
  have hlate : ∀ y : State, y.wipe judging = w.wipe judging → (if y.policy f = 2 then
      ((y.popFifo ttype target).execRecord f.act f.org Code.lateDropped y.tb.now, true)
      else if y.policy f = 3 then ((y.popFifo ttype target).lateFault f, true)
      else (y.setTargetFifo ttype target
        ({ f with judged := true, late := true, due := y.lateDue f, head := some (y.atHead f) } :: rest), false)).1.wipe judging
      = w.wipe judging := by
    intro y hy
    rw [← hy]
    exact hite _ _ _ _ _ (by simp) (hstep _ _ _ _ _ _ (by simp) (y.setTargetFifo_judging ..))
  refine hlate _ ?_
  split <;> simp

theorem State.judge_judging (ttype target n : Nat) : (s.judge ttype target n).wipe judging = s.wipe judging := by
  induction n generalizing s with
  | zero => rfl
  | succ n ih =>
    rw [State.judge]
    split
    · exact (ih _).trans (s.judgeHead_judging ..)
    · exact s.judgeHead_judging ..

@[simp] theorem State.judgeFifo_judging (ttype target : Nat) : (s.judgeFifo ttype target).wipe judging = s.wipe judging :=
  s.judge_judging ttype target 9

@[simp] theorem State.rejudge_judging (ttype target : Nat) : (s.rejudge ttype target).wipe judging = s.wipe judging := by
  unfold State.rejudge
  split
  · rfl
  · rw [State.judgeFifo_judging, State.setTargetFifo_judging]

@[simp] theorem State.judgeAll_judging : s.judgeAll.wipe judging = s.wipe judging := by
  exact (State.foldl_wipe _ _ (fun t k => t.judgeFifo_judging ..) _ _).trans (State.foldl_wipe _ _ (fun t k => t.judgeFifo_judging ..) _ _)

@[simp] theorem State.rejudgeAll_judging : s.rejudgeAll.wipe judging = s.wipe judging := by
  exact (State.foldl_wipe _ _ (fun t k => t.rejudge_judging ..) _ _).trans (State.foldl_wipe _ _ (fun t k => t.rejudge_judging ..) _ _)

/-! ### The action that has executed -/

/-- Which pages an action has used is noted in the pages' own state. -/
theorem State.usedNow_wipe (ttype target : Nat) : (s.usedNow ttype target).wipe 1024 = s.wipe 1024 :=
  State.foldl_wipe _ _ (fun t p => t.setPage_wipe p _ _ (by decide)) _ _

/-- What follows an executed action writes no context but the one that took it, besides what the judging may write and the notes
of its pages. -/
theorem State.finish_wipe (f : Flight) : (s.finish f).wipe 74493828998610 = (s.taken f.ttype f.target).wipe 74493828998610 := by
  have hpop := State.wipe_mono (s.popFifo_judging f.ttype f.target) (show judging &&& 74493828998610 = judging by decide)
  have htaken : ((s.popFifo f.ttype f.target).taken f.ttype f.target).wipe 74493828998610 = (s.taken f.ttype f.target).wipe 74493828998610 := by
    have hctx : (s.popFifo f.ttype f.target).ctx f.target = s.ctx f.target := by
      rw [State.ctx, State.ctx, State.ctxs_of_wipe hpop (by decide)]
    have htb : (s.popFifo f.ttype f.target).tb = s.tb := State.tb_of_wipe hpop (by decide)
    unfold State.taken
    split
    · rw [hctx, htb]
      exact State.setCtx_wipe_congr hpop ..
    · exact hpop
  simp only [State.finish]
  rw [State.wipe_mono (State.judgeFifo_judging ..) (by decide)]
  have hlog : ∀ t : State, (if f.late then t.execRecord f.act f.org Code.lateExecuted f.due else t.logExec f.act f.org Code.ok f.due).wipe
      74493828998610 = t.wipe 74493828998610 := by
    intro t
    split
    · exact t.execRecord_wipe _ _ _ _ _ (by decide)
    · exact t.logExec_wipe _ _ _ _ _ (by decide)
  exact (hlog _).trans ((State.wipe_mono (State.usedNow_wipe ..) (by decide)).trans htaken)

/-- The context at the end of its action. -/
theorem State.ctxs_finish (f : Flight) : (s.finish f).ctxs = (s.taken f.ttype f.target).ctxs :=
  State.ctxs_of_wipe (s.finish_wipe f) (by decide)

end Judging

end Sys2Proof.Machine

/-! One cuff that is no leg of an enabled pair (R51-R55, R63): what readies its head, and what an edge makes of the cuff, its count of
edges and nothing else. -/

namespace Sys2Proof.Machine

open Sys2Proof

/-! ### The head of a FIFO -/

/-- What holds of a head that is ready (R23, R63, R71, R96). -/
theorem State.headReady_spec {s : State} {ttype target op : Nat} {f : Flight} (h : s.headReady ttype target op = some f) :
    f.ttype = ttype ∧ f.target = target ∧ f.act.op = op ∧ f.judged = true ∧ s.headServed ttype target = true ∧
      s.reached (s.shifted f.due (if ttype = 1 ∨ ttype = 2 then s.lag (serveCuff ttype target) else 0)) = true ∧
      (ttype = 2 → s.tripped target = true → op = 0x12 ∨ op = 0x13) := by
  rw [State.headReady] at h
  split at h
  · exact nomatch h
  · next g rest hfifo =>
    dsimp only at h
    obtain ⟨hcond, hf⟩ := Option.ite_none_right_eq_some.mp h
    obtain ⟨ht, htg, hop, hj, hserved, hreach, -, htrip⟩ := hcond
    cases hf
    exact ⟨ht, htg, hop, hj, hserved, hreach, htrip⟩

/-- A cuff whose FIFO is served is in service, not held and at Apron for no cause but a trip. -/
theorem State.headServed_cuff {s : State} {ttype target : Nat} (ht : ttype = 1 ∨ ttype = 2) (h : s.headServed ttype target = true) :
    s.service = true ∧ (s.cuff (serveCuff ttype target)).held = false ∧ (s.cuff (serveCuff ttype target)).apMode = false ∧
      (s.cuff (serveCuff ttype target)).apBank = false ∧ (s.cuff (serveCuff ttype target)).apAbort = false ∧
      (s.cuff (serveCuff ttype target)).apVote = false ∧
      (ttype = 1 → s.pairEn (target / 2) = false → (s.cuff (serveCuff ttype target)).apTrip = false) := by
  rw [State.headServed, if_pos ht] at h
  simp only [Bool.and_eq_true, Bool.or_eq_true, Bool.not_eq_true', decide_eq_true_eq] at h
  obtain ⟨⟨⟨⟨⟨⟨⟨hservice, hheld⟩, hmode⟩, hbank⟩, habort⟩, hvote⟩, htrip⟩, -⟩ := h
  refine ⟨hservice, hheld, hmode, hbank, habort, hvote, fun h1 hp => ?_⟩
  rcases htrip with (h2 | h2) | h2
  · omega
  · exact h2
  · exact absurd h2 (by simp [hp])

/-- In service the part is not frozen. -/
theorem State.not_frozen {s : State} (h : s.service = true) : s.frozen = false := by
  simp only [State.service, Bool.or_eq_true, decide_eq_true_eq] at h
  rcases h with h | h <;> simp [State.frozen, h]

/-! ### What a cuff changes -/

/-- Of the cuffs `c` alone may differ, of the registers its count of edges, and of the other fields none. -/
structure CuffOnly (c : Nat) (s t : State) : Prop where
  cuff : ∀ e, e ≠ c → t.cuff e = s.cuff e
  reg : ∀ r, r ≠ Reg.CUF_EDGES c → t.reg r = s.reg r
  frame : t = { s with regs := t.regs, cuffs := t.cuffs }

section Only
variable {c : Nat} {s t u : State}

theorem CuffOnly.refl (c : Nat) (s : State) : CuffOnly c s s := ⟨fun _ _ => rfl, fun _ _ => rfl, rfl⟩

theorem CuffOnly.trans (h : CuffOnly c s t) (g : CuffOnly c t u) : CuffOnly c s u :=
  ⟨fun e he => (g.cuff e he).trans (h.cuff e he), fun r hr => (g.reg r hr).trans (h.reg r hr), by rw [g.frame, h.frame]⟩

theorem CuffOnly.of_setCuff (c : Nat) (s : State) (k : Cuff) : CuffOnly c s (s.setCuff c k) :=
  ⟨fun e he => (s.cuff_setCuff c e k).trans (if_neg he), fun _ _ => rfl, rfl⟩

theorem CuffOnly.staged (h : CuffOnly c s t) {r : Nat} (hr : r ≠ Reg.CUF_EDGES c) : t.staged r = s.staged r := by
  have hshadow : t.shadow = s.shadow := by rw [h.frame]
  rw [State.staged, State.staged, h.reg r hr, hshadow]

/-- The registers that decide what a cuff drives are no counts of edges. -/
theorem edges_ne (c : Nat) : Reg.CUF_CFG c ≠ Reg.CUF_EDGES c ∧ (∀ n i, i < 16 → Reg.SLV_PAIR_CFG n i ≠ Reg.CUF_EDGES c) ∧
    (∀ n, Reg.SLV_STATUS n ≠ Reg.CUF_EDGES c) ∧ Reg.TB_RELOAD_L ≠ Reg.CUF_EDGES c ∧ Reg.TB_RELOAD_H ≠ Reg.CUF_EDGES c := by
  simp only [Reg.CUF_CFG, Reg.CUF_EDGES, Reg.SLV_PAIR_CFG, Reg.SLV_STATUS, Reg.TB_RELOAD_L, Reg.TB_RELOAD_H]
  refine ⟨by omega, fun n i hi => ?_, fun n => ?_, by omega, by omega⟩
  · rcases Nat.lt_trichotomy n (c / 32) with h | h | h <;> omega
  · rcases Nat.lt_trichotomy n (c / 32) with h | h | h <;> omega

theorem CuffOnly.pairEn (h : CuffOnly c s t) (p : Nat) : t.pairEn p = s.pairEn p :=
  State.bit_of_reg (h.reg _ ((edges_ne c).2.1 _ _ (Nat.mod_lt _ (by decide)))) 0

theorem CuffOnly.cuffMode (h : CuffOnly c s t) : t.cuffMode c = s.cuffMode c := State.fld_of_reg (h.reg _ (edges_ne c).1) 0 2

theorem CuffOnly.activeLevel (h : CuffOnly c s t) : t.activeLevel c = s.activeLevel c :=
  congrArg (!·) (State.bit_of_reg (h.reg _ (edges_ne c).1) 2)

theorem CuffOnly.outputOn (h : CuffOnly c s t) : t.outputOn c = s.outputOn c := by
  rw [State.outputOn, State.outputOn, h.cuffMode, h.pairEn]

theorem CuffOnly.circle (h : CuffOnly c s t) : t.circle = s.circle :=
  congrArg (· + 1) (State.pair_of_reg (h.reg _ (edges_ne c).2.2.2.1) (h.reg _ (edges_ne c).2.2.2.2))

theorem CuffOnly.tb (h : CuffOnly c s t) : t.tb = s.tb := by rw [h.frame]

/-- Times on the circle read alike. -/
theorem CuffOnly.plus (h : CuffOnly c s t) (a d : Nat) : t.plus a d = s.plus a d := by rw [State.plus, State.plus, h.circle]

theorem CuffOnly.atOrAfter (h : CuffOnly c s t) (a b : Nat) : t.atOrAfter a b = s.atOrAfter a b := by
  rw [State.atOrAfter, State.atOrAfter, h.circle]

theorem CuffOnly.reached (h : CuffOnly c s t) (a : Nat) : t.reached a = s.reached a := by
  rw [State.reached, State.reached, h.tb, h.atOrAfter]

theorem CuffOnly.shifted (h : CuffOnly c s t) (a : Nat) (d : Int) : t.shifted a d = s.shifted a d := by
  rw [State.shifted, State.shifted, h.plus, State.minus, State.minus, h.circle]

end Only

/-! ### Edges of a cuff that is no leg -/

section Edge
variable {s : State} {c : Nat}

/-- The pad of a cuff after a sampled transition (R56). -/
def State.padded (s : State) (c : Nat) (k : Cuff) (l : Bool) (stamp : Nat) : Cuff :=
  if k.pad = l then k
  else { k with pad := l, padTick := s.tick, filt := if s.stampless || k.filt.isSome then none else some (l, stamp, s.tick + s.filterOf c) }

theorem State.padTo_cuff (l : Bool) (stamp : Nat) : (s.padTo c l stamp).cuff c = s.padded c (s.cuff c) l stamp ∧
    CuffOnly c s (s.padTo c l stamp) := by
  have hset : ∀ k k', k = k' → (s.setCuff c k).cuff c = k' ∧ CuffOnly c s (s.setCuff c k) := fun k k' h =>
    ⟨((s.cuff_setCuff c c k).trans (if_pos rfl)).trans h, .of_setCuff c s k⟩
  simp only [State.padTo, State.padded]
  split
  · exact ⟨rfl, .refl c s⟩
  by_cases hstamp : s.stampless = true
  · rw [if_pos hstamp]
    exact hset _ _ (by simp [hstamp])
  rw [if_neg hstamp]
  cases hx : (s.cuff c).filt with
  | some x => exact hset _ _ (by simp)
  | none => exact hset _ _ (by simp [hstamp])

/-- The glitch filter and the stamps of a cuff rest on no count of edges. -/
theorem CuffOnly.filterOf {v : State} (h : CuffOnly c s v) (_ : c < 1024) (hlent : (v.cuff c).lent = (s.cuff c).lent) :
    v.filterOf c = s.filterOf c := by
  simp only [State.filterOf, hlent]
  split
  · exact State.fld_of_reg (h.reg _ (by simp only [Reg.FBK_CFG, Reg.CUF_EDGES]; omega)) ..
  · exact State.fld_of_reg (h.reg _ (edges_ne c).1) ..

theorem CuffOnly.stampless {v : State} (h : CuffOnly c s v) : v.stampless = s.stampless := by
  have hpwr : v.pwr = s.pwr := by rw [h.frame]
  have hcoarse : v.coarse = s.coarse := State.bit_of_reg (h.reg _ (by simp only [Reg.TB_STATUS, Reg.CUF_EDGES]; omega)) 2
  rw [State.stampless, State.stampless, hcoarse, State.frozen, State.frozen, hpwr]

theorem CuffOnly.padded {v : State} (h : CuffOnly c s v) (hc : c < 1024) (hlent : (v.cuff c).lent = (s.cuff c).lent)
    (k : Cuff) (l : Bool) (stamp : Nat) : v.padded c k l stamp = s.padded c k l stamp := by
  have htick : v.tick = s.tick := by rw [h.frame]
  rw [State.padded, State.padded, htick, h.stampless, h.filterOf hc hlent]

theorem State.padTo_regs (l : Bool) (stamp : Nat) : (s.padTo c l stamp).regs = s.regs := by
  simp only [State.padTo]
  split
  · rfl
  split
  · rfl
  cases (s.cuff c).filt <;> rfl

/-- The cuff after an edge that it counts. -/
theorem State.edgeCounted_cuff (t : Nat) : (s.edgeCounted c t).cuff c = { s.cuff c with lastEdge := some t } ∧
    (s.edgeCounted c t).regN (Reg.CUF_EDGES c) = (s.regN (Reg.CUF_EDGES c) + 1) % 2 ^ 32 ∧ CuffOnly c s (s.edgeCounted c t) := by
  refine ⟨(State.cuff_setCuff ..).trans (if_pos rfl), ?_, fun e he => (State.cuff_setCuff ..).trans (if_neg he), fun r hr =>
    s.reg_setN_other hr _, ?_⟩
  · change (s.incWrap (Reg.CUF_EDGES c) 0 32).regN (Reg.CUF_EDGES c) = _
    rw [← State.fld_whole, State.incWrap, State.fld_setFld_same _ _ _ _ _ (by decide), s.fld_whole]
  · have honly := (OnlyRegs.refl [Reg.CUF_EDGES c] s).incWrap (k := Reg.CUF_EDGES c) (by simp) 0 32
    exact congrArg (fun u : State => u.setCuff c { s.cuff c with lastEdge := some t }) honly.1

variable (hc : c < 1024) (hpair : s.pairEn (c / 2) = false)
include hpair

theorem State.edgeMade_alone (t : Nat) : s.edgeMade c t = s.edgeCounted c t := by
  have hsame : (s.edgeCounted c t).pairEn (c / 2) = false := (s.edgeCounted_cuff t).2.2.pairEn _ |>.trans hpair
  simp only [State.edgeMade]
  rw [if_neg (by simp [hsame])]

theorem State.lockedOut_alone (l : Bool) : s.lockedOut c l = false := by simp [State.lockedOut, hpair]

theorem State.outputOn_alone : s.outputOn c = decide (s.cuffMode c ≠ 2) := by simp [State.outputOn, hpair]

/-- The cuff after it has been driven to a level by an edge of time `t` (R51, R56, R386). -/
def State.drivenTo (s : State) (c : Nat) (l : Bool) (t : Nat) : Cuff :=
  let k := s.cuff c
  let on := s.outputOn c
  if k.driven = on ∧ k.level = l then k
  else
    let k' := { k with driven := on, level := l, lastEdge := some t }
    if on && !(s.sleeve (c / 32)).absent then s.padded c k' l t else k'

include hc in
/-- An edge at a cuff that is no leg and not held (R51). -/
theorem State.driveCuff_alone (hheld : (s.cuff c).held = false) (l : Bool) (t : Nat) :
    (s.driveCuff c l t).cuff c = s.drivenTo c l t ∧ CuffOnly c s (s.driveCuff c l t) ∧
      (s.driveCuff c l t).regN (Reg.CUF_EDGES c) = if (s.cuff c).driven = s.outputOn c ∧ (s.cuff c).level = l
        then s.regN (Reg.CUF_EDGES c) else (s.regN (Reg.CUF_EDGES c) + 1) % 2 ^ 32 := by
  set k := s.cuff c with hk
  set on := s.outputOn c with hon
  set u := s.setCuff c { k with driven := on, level := l } with hu
  have hdrive : s.driveCuff c l t = if k.driven = on ∧ k.level = l then u else (u.edgeMade c t).drivenPad c t := by
    simp only [State.driveCuff, ← hk, ← hon]
    rw [if_neg (by simp [hheld]), if_neg (by simp [State.lockedOut_alone hpair])]
  have hucuff : u.cuff c = { k with driven := on, level := l } := (State.cuff_setCuff ..).trans (if_pos rfl)
  have huonly : CuffOnly c s u := .of_setCuff c s _
  rw [hdrive, State.drivenTo, ← hk, ← hon]
  dsimp only
  split
  · next hsame =>
    refine ⟨hucuff.trans ?_, huonly, rfl⟩
    rw [← hsame.1, ← hsame.2]
  · have hupair : u.pairEn (c / 2) = false := (huonly.pairEn _).trans hpair
    obtain ⟨hcuff, hcount, honly⟩ := u.edgeCounted_cuff (c := c) t
    rw [hucuff] at hcuff
    have hregN : u.regN (Reg.CUF_EDGES c) = s.regN (Reg.CUF_EDGES c) := rfl
    rw [State.edgeMade_alone hupair]
    set v := u.edgeCounted c t with hv
    have hvonly : CuffOnly c s v := huonly.trans honly
    have hsleeve : v.sleeve (c / 32) = s.sleeve (c / 32) := by rw [hvonly.frame]; rfl
    have hdrives : v.drives c = (on && !(s.sleeve (c / 32)).absent) := by rw [State.drives, hcuff, hsleeve]
    rw [State.drivenPad, hdrives, hcuff]
    split
    · obtain ⟨hpad, hponly⟩ := v.padTo_cuff (c := c) l t
      refine ⟨hpad.trans ?_, hvonly.trans hponly, ?_⟩
      · rw [hcuff]
        exact hvonly.padded hc (by rw [hcuff]) ..
      · have hcount' : (v.padTo c l t).regN (Reg.CUF_EDGES c) = v.regN (Reg.CUF_EDGES c) :=
          State.regN_of_reg (State.reg_of_regs (State.padTo_regs ..) _)
        exact hcount'.trans (hcount.trans (by rw [hregN]))
    · exact ⟨hcuff, hvonly, hcount.trans (by rw [hregN])⟩

end Edge

/-! ### Apron -/

section Apron
variable (s : State) (c : Nat)

theorem State.drivenPad_only (stamp : Nat) : CuffOnly c s (s.drivenPad c stamp) := by
  unfold State.drivenPad
  split
  · exact (State.padTo_cuff (s := s) ..).2
  · exact .refl c s

/-- A cuff that goes to Apron changes itself and its count of edges alone (R72, R77). -/
theorem State.apronLevel_only : CuffOnly c s (s.apronLevel c) := by
  unfold State.apronLevel
  extract_lets old k a k' u
  have hu : CuffOnly c s u := .of_setCuff c s k'
  split
  · exact hu
  · exact hu.trans ((u.edgeCounted_cuff _).2.2.trans (State.drivenPad_only ..))

theorem State.toApron_only (w : Cause) : CuffOnly c s (s.toApron c w) := by
  have hlevel : CuffOnly c s (if (s.cuff c).apron then s else s.apronLevel c) := by
    split
    · exact .refl c s
    · exact s.apronLevel_only c
  exact hlevel.trans (.of_setCuff c _ _)

/-- The cause that a cuff goes to Apron for stands (R72). -/
theorem State.toApron_vote : ((s.toApron c .vote).cuff c).apVote = true :=
  congrArg Cuff.apVote ((State.cuff_setCuff ..).trans (if_pos rfl))

end Apron

end Sys2Proof.Machine

/-! The legs of a pair (R64, R65): what an edge at a leg, its due edges and a change of pair state leave unchanged. -/

namespace Sys2Proof.Machine

open Sys2Proof

/-- A cuff differs from another by what its output and its pad show alone. -/
def SameButOutput (k k' : Cuff) : Prop :=
  k' = { k with driven := k'.driven, level := k'.level, edges := k'.edges, pad := k'.pad, padTick := k'.padTick, filt := k'.filt,
                lastEdge := k'.lastEdge }

theorem SameButOutput.refl (k : Cuff) : SameButOutput k k := rfl

theorem SameButOutput.trans {k k' k'' : Cuff} (h : SameButOutput k k') (g : SameButOutput k' k'') : SameButOutput k k'' := by
  unfold SameButOutput at *
  rw [g, h]

/-- Of the cuffs the legs of pair `p` alone may differ, and by their outputs alone; of the pairs `p` alone, and by its blanking
alone; of the registers the legs' counts of edges; and of the other fields none. -/
structure LegsOnly (p : Nat) (s t : State) : Prop where
  cuff : ∀ e, e ≠ 2 * p → e ≠ 2 * p + 1 → t.cuff e = s.cuff e
  leg : ∀ e, SameButOutput (s.cuff e) (t.cuff e)
  pair : ∀ q, q ≠ p → t.pairSt q = s.pairSt q
  st : (t.pairSt p).st = (s.pairSt p).st
  swung : (t.pairSt p).swung = (s.pairSt p).swung
  reg : ∀ r, r ≠ Reg.CUF_EDGES (2 * p) → r ≠ Reg.CUF_EDGES (2 * p + 1) → t.reg r = s.reg r
  frame : t = { s with regs := t.regs, cuffs := t.cuffs, pairs := t.pairs }

section Legs
variable {p : Nat} {s t u : State}

theorem LegsOnly.refl (p : Nat) (s : State) : LegsOnly p s s :=
  ⟨fun _ _ _ => rfl, fun _ => .refl _, fun _ _ => rfl, rfl, rfl, fun _ _ _ => rfl, rfl⟩

theorem LegsOnly.trans (h : LegsOnly p s t) (g : LegsOnly p t u) : LegsOnly p s u :=
  ⟨fun e ha hb => (g.cuff e ha hb).trans (h.cuff e ha hb), fun e => (h.leg e).trans (g.leg e), fun q hq => (g.pair q hq).trans (h.pair q hq),
    g.st.trans h.st, g.swung.trans h.swung, fun r ha hb => (g.reg r ha hb).trans (h.reg r ha hb), by rw [g.frame, h.frame]⟩

/-- A leg of pair `p`. -/
def legOf (p c : Nat) : Prop := c = 2 * p ∨ c = 2 * p + 1

theorem LegsOnly.of_setCuff {c : Nat} (hc : legOf p c) {k : Cuff} (hk : SameButOutput (s.cuff c) k) : LegsOnly p s (s.setCuff c k) where
  cuff e ha hb := (s.cuff_setCuff c e k).trans (if_neg (by rcases hc with rfl | rfl <;> assumption))
  leg e := by
    rw [State.cuff_setCuff]
    split
    · next h => exact h ▸ hk
    · exact .refl _
  pair _ _ := rfl
  st := rfl
  swung := rfl
  reg _ _ _ := rfl
  frame := rfl

theorem LegsOnly.of_blankEnd (b : Option Nat) : LegsOnly p s (s.setPairSt p { s.pairSt p with blankEnd := b }) where
  cuff _ _ _ := rfl
  leg _ := .refl _
  pair q hq := (s.pairSt_setPairSt p q _).trans (if_neg hq)
  st := by rw [State.pairSt_setPairSt, if_pos rfl]
  swung := by rw [State.pairSt_setPairSt, if_pos rfl]
  reg _ _ _ := rfl
  frame := rfl

theorem LegsOnly.of_incEdges {c : Nat} (hc : legOf p c) : LegsOnly p s (s.incWrap (Reg.CUF_EDGES c) 0 32) where
  cuff _ _ _ := rfl
  leg _ := .refl _
  pair _ _ := rfl
  st := rfl
  swung := rfl
  reg r ha hb := by
    have hne : r ≠ Reg.CUF_EDGES c := by
      rcases hc with rfl | rfl
      · exact ha
      · exact hb
    rw [State.incWrap, State.reg_setFld_other _ hne]
  frame := rfl

theorem half_leg {c : Nat} (hc : legOf p c) : c / 2 = p := by rcases hc with rfl | rfl <;> omega

/-! ### What the legs' registers read -/

section Reads
variable (h : LegsOnly p s t)
include h

theorem LegsOnly.cfg (c : Nat) : t.reg (Reg.CUF_CFG c) = s.reg (Reg.CUF_CFG c) :=
  h.reg _ (by
    simp only [Reg.CUF_CFG, Reg.CUF_EDGES]
    omega) (by
    simp only [Reg.CUF_CFG, Reg.CUF_EDGES]
    omega)

theorem LegsOnly.cuffMode (c : Nat) : t.cuffMode c = s.cuffMode c := State.fld_of_reg (h.cfg c) ..

theorem LegsOnly.activeLevel (c : Nat) : t.activeLevel c = s.activeLevel c := congrArg (!·) (State.bit_of_reg (h.cfg c) 2)

theorem LegsOnly.pairCfg (q : Nat) : t.reg (Reg.SLV_PAIR_CFG (q / 16) (q % 16)) = s.reg (Reg.SLV_PAIR_CFG (q / 16) (q % 16)) :=
  h.reg _ ((edges_ne _).2.1 _ _ (Nat.mod_lt _ (by decide))) ((edges_ne _).2.1 _ _ (Nat.mod_lt _ (by decide)))

theorem LegsOnly.pairEn (q : Nat) : t.pairEn q = s.pairEn q := State.bit_of_reg (h.pairCfg q) 0

theorem LegsOnly.dead (q : Nat) : t.dead q = s.dead q := State.fld_of_reg (h.pairCfg q) ..

theorem LegsOnly.outputOn (c : Nat) : t.outputOn c = s.outputOn c := by rw [State.outputOn, State.outputOn, h.cuffMode, h.pairEn]

theorem LegsOnly.circle : t.circle = s.circle :=
  congrArg (· + 1) (State.pair_of_reg (h.reg _ (edges_ne _).2.2.2.1 (edges_ne _).2.2.2.1) (h.reg _ (edges_ne _).2.2.2.2 (edges_ne _).2.2.2.2))

theorem LegsOnly.tb : t.tb = s.tb := by rw [h.frame]

theorem LegsOnly.plus (a d : Nat) : t.plus a d = s.plus a d := by rw [State.plus, State.plus, h.circle]

theorem LegsOnly.reached (a : Nat) : t.reached a = s.reached a := by
  rw [State.reached, State.reached, h.tb, State.atOrAfter, State.atOrAfter, h.circle]

theorem LegsOnly.shifted (a : Nat) (d : Int) : t.shifted a d = s.shifted a d := by
  rw [State.shifted, State.shifted, h.plus, State.minus, State.minus, h.circle]

theorem LegsOnly.skew (c : Nat) : (t.cuff c).skew = (s.cuff c).skew := by
  rw [h.leg c]

theorem LegsOnly.held (c : Nat) : (t.cuff c).held = (s.cuff c).held := by
  rw [h.leg c]

theorem LegsOnly.placed (c a : Nat) : t.placed c a = s.placed c a := by rw [State.placed, State.placed, h.skew, h.shifted]

theorem LegsOnly.frozen : t.frozen = s.frozen := by
  rw [h.frame]
  rfl

end Reads

/-! ### An edge at a leg -/

section Edge
variable {c : Nat} (hc : legOf p c)
include hc

theorem State.padTo_legs (s : State) (l : Bool) (stamp : Nat) : LegsOnly p s (s.padTo c l stamp) := by
  have hset {k : Cuff} (h : SameButOutput (s.cuff c) k) : LegsOnly p s (s.setCuff c k) := .of_setCuff hc h
  simp only [State.padTo]
  split
  · exact .refl p s
  split
  · exact hset rfl
  cases (s.cuff c).filt with
  | some _ => exact hset rfl
  | none => exact hset rfl

theorem State.drivenPad_legs (s : State) (stamp : Nat) : LegsOnly p s (s.drivenPad c stamp) := by
  unfold State.drivenPad
  split
  · exact State.padTo_legs hc s ..
  · exact .refl p s

theorem State.edgeMade_legs (s : State) (t : Nat) : LegsOnly p s (s.edgeMade c t) := by
  have hcount : LegsOnly p s (s.edgeCounted c t) :=
    (LegsOnly.of_incEdges hc).trans (.of_setCuff hc (s := s.incWrap (Reg.CUF_EDGES c) 0 32) rfl)
  simp only [State.edgeMade]
  rw [half_leg hc]
  split
  · exact hcount.trans (.of_blankEnd _)
  · exact hcount

/-- An edge at a leg writes the legs of its pair alone (R65, R67). -/
theorem State.driveCuff_legs (s : State) (l : Bool) (t : Nat) : LegsOnly p s (s.driveCuff c l t) := by
  simp only [State.driveCuff]
  split
  · exact .of_setCuff hc (by rfl)
  split
  · exact .refl p s
  split
  · exact .of_setCuff hc (by rfl)
  · exact (LegsOnly.of_setCuff hc (by rfl)).trans ((State.edgeMade_legs hc _ _).trans (State.drivenPad_legs hc _ _))

theorem State.driveAll_legs (l : List (Nat × Bool)) : ∀ s : State, LegsOnly p s (l.foldl (fun s e => s.driveCuff c e.2 e.1) s) := by
  induction l with
  | nil => exact fun s => .refl p s
  | cons e l ih => exact fun s => (State.driveCuff_legs hc s e.2 e.1).trans (ih _)

theorem State.settleCuff_legs (s : State) : LegsOnly p s (s.settleCuff c) := by
  simp only [State.settleCuff]
  split
  · exact .refl p s
  · exact (LegsOnly.of_setCuff hc (by rfl)).trans (State.driveAll_legs hc _ _)

theorem State.legTo_legs (s : State) (t : Nat) (l : Bool) : LegsOnly p s (s.legTo c t l) :=
  (LegsOnly.of_setCuff hc (by rfl)).trans (State.settleCuff_legs hc _)

end Edge

/-- A pair in a state that it takes at time `t` (R64), before its legs follow. -/
def State.pairIn (s : State) (p st t : Nat) : State :=
  s.setPairSt p { s.pairSt p with st := st, swung := if (s.pairSt p).st = st then (s.pairSt p).swung else some t }

/-- A change of pair state writes the pair's state and its legs alone (R64). -/
theorem State.pairTo_legs (s : State) (st t : Nat) : LegsOnly p (s.pairIn p st t) (s.pairTo p st t) := by
  have ha (u : State) (t : Nat) (l : Bool) : LegsOnly p u (u.legTo (2 * p) t l) := State.legTo_legs (.inl rfl) u t l
  have hb (u : State) (t : Nat) (l : Bool) : LegsOnly p u (u.legTo (2 * p + 1) t l) := State.legTo_legs (.inr rfl) u t l
  simp only [State.pairTo]
  split
  · exact (ha _ _ _).trans (hb _ _ _)
  split
  · exact (hb _ _ _).trans (ha _ _ _)
  · exact (ha _ _ _).trans (hb _ _ _)

end Legs

end Sys2Proof.Machine

/-! Registers written in effect and in the shadow alike (R18, R29, R55). -/

namespace Sys2Proof.Machine

open Sys2Proof

/-- Of the registers those of a list alone may differ, in effect and as staged, and no other field. -/
structure BothOnly (ks : List Nat) (s t : State) : Prop where
  reg : ∀ r, r ∉ ks → t.reg r = s.reg r
  staged : ∀ r, r ∉ ks → t.staged r = s.staged r
  frame : t = { s with regs := t.regs, shadow := t.shadow }

section Both
variable {ks ls : List Nat} {s t u : State}

theorem BothOnly.trans (h : BothOnly ks s t) (g : BothOnly ls t u) : BothOnly (ks ++ ls) s u where
  reg r hr := by
    rw [List.mem_append, not_or] at hr
    exact (g.reg r hr.2).trans (h.reg r hr.1)
  staged r hr := by
    rw [List.mem_append, not_or] at hr
    exact (g.staged r hr.2).trans (h.staged r hr.1)
  frame := by rw [g.frame, h.frame]

theorem BothOnly.mono (h : BothOnly ks s t) (hsub : ∀ k ∈ ks, k ∈ ls) : BothOnly ls s t :=
  ⟨fun r hr => h.reg r fun hk => hr (hsub r hk), fun r hr => h.staged r fun hk => hr (hsub r hk), h.frame⟩

variable (s) (k v : Nat)

theorem State.setN_both : BothOnly [k] s (s.setN k v) where
  reg _ hr := s.reg_setN_other (List.ne_of_not_mem_cons hr) v
  staged _ hr := (State.staged_setReg ..).trans (if_neg (List.ne_of_not_mem_cons hr))
  frame := rfl

theorem State.setStaged_both (w : Word) : BothOnly [k] s (s.setStaged k w) where
  reg _ _ := rfl
  staged _ hr := (State.staged_setStaged ..).trans (if_neg (List.ne_of_not_mem_cons hr))
  frame := rfl

theorem State.setBoth_both (lo n : Nat) : BothOnly [k] s (s.setBoth k lo n v) :=
  ((s.setN_both k _).trans (State.setStaged_both (s.setFld k lo n v) k _)).mono (by simp)

/-- A field written in effect and in the shadow. -/
theorem State.setBoth_fld {lo n : Nat} (h : lo + n ≤ 32) : (s.setBoth k lo n v).fld k lo n = v % 2 ^ n ∧
    (s.setBoth k lo n v).staged k = word (putBits (s.staged k).toNat lo n v) ∧
    (∀ a m, (a + m ≤ lo ∨ lo + n ≤ a) → (s.setBoth k lo n v).fld k a m = s.fld k a m) := by
  have hreg : (s.setBoth k lo n v).reg k = (s.setFld k lo n v).reg k := rfl
  refine ⟨(State.fld_of_reg hreg ..).trans (State.fld_setFld_same _ _ _ _ _ h), (State.staged_setStaged ..).trans (if_pos rfl), fun a m ham => ?_⟩
  exact (State.fld_of_reg hreg ..).trans (State.fld_setFld_apart _ _ _ _ _ _ _ h ham)

variable {l h : Nat}

/-- A split value written in effect and as staged. -/
theorem State.setPairs_spec (hne : l ≠ h) (eff st : Nat) : BothOnly [l, h] s (s.setPairs l h eff st) ∧
    (s.setPairs l h eff st).pair l h = eff % 2 ^ 64 ∧ (s.setPairs l h eff st).stagedPair l h = st % 2 ^ 64 := by
  have honly : BothOnly [l, h] s (s.setPairs l h eff st) :=
    ((((s.setN_both l _).trans (State.setStaged_both _ l _)).trans (State.setN_both _ h _)).trans (State.setStaged_both _ h _)).mono (by simp)
  have hl : (s.setPairs l h eff st).regN l = eff % 2 ^ 32 % 2 ^ 32 :=
    (State.regN_setN_other _ hne _).trans ((s.setN l _).regN_of_reg rfl |>.trans (s.regN_setN_same ..))
  have hh : (s.setPairs l h eff st).regN h = eff / 2 ^ 32 % 2 ^ 32 := State.regN_setN_same ..
  have hsl : (s.setPairs l h eff st).staged l = word (st % 2 ^ 32) := by
    rw [State.setPairs, State.staged_setStaged, if_neg hne, (State.setN_both _ h _).staged l (by simpa using hne),
      State.staged_setStaged, if_pos rfl]
  have hsh : (s.setPairs l h eff st).staged h = word (st / 2 ^ 32) := by rw [State.setPairs, State.staged_setStaged, if_pos rfl]
  refine ⟨honly, ?_, ?_⟩
  · rw [State.pair, hl, hh]
    omega
  · rw [State.stagedPair, hsl, hsh, word, word, BitVec.toNat_ofNat, BitVec.toNat_ofNat]
    omega

end Both

end Sys2Proof.Machine

/-! What the slab walk and reads of memory rest on (R110-R112), and memory after a write. -/

namespace Sys2Proof.Machine

open Sys2Proof

/-! ### Memory -/

/-- What is read rests on the memory alone. -/
theorem State.readMem_congr {s t : State} (h : t.mem = s.mem) (a n : Nat) : t.readMem a n = s.readMem a n := by
  induction n generalizing a with
  | zero => rfl
  | succ n ih => rw [State.readMem, State.readMem, ih, State.byte, State.byte, h]

/-- What is read rests on the bytes of its range alone. -/
theorem State.readMem_of_bytes {s t : State} (a n : Nat) (h : ∀ x, a ≤ x → x < a + n → t.byte x = s.byte x) :
    t.readMem a n = s.readMem a n := by
  induction n generalizing a with
  | zero => rfl
  | succ n ih =>
    rw [State.readMem, State.readMem, h a (by omega) (by omega), ih (a + 1) fun x h1 h2 => h x (by omega) (by omega)]

/-- The bytes of a number, written and read again. -/
theorem readMem_writeBytesAt (n : Nat) : ∀ (a v : Nat) (m : List Host.Cell) (s : State),
    s.mem = writeBytesAt m a ((bytesLE n v).map some) → s.readMem a n = v % 256 ^ n := by
  induction n with
  | zero => exact fun a v m s _ => by simp [State.readMem, Nat.mod_one]
  | succ n ih =>
    intro a v m s h
    have hrest : s.readMem (a + 1) n = v / 256 % 256 ^ n := ih (a + 1) (v / 256) (Tbl.set 0 m a (BitVec.ofNat 8 (v % 256))) s h
    have hbyte : s.byte a = BitVec.ofNat 8 (v % 256) := by
      rw [State.byte, h]
      refine (Memory.get_writeBytesAt _ (a + 1) ((bytesLE n (v / 256)).map some) a (.inl (by omega))).trans ?_
      exact Tbl.get_set_same ..
    have hsplit : v % 256 ^ (n + 1) = v % 256 + 256 * (v / 256 % 256 ^ n) := by rw [Nat.pow_succ', Nat.mod_mul]
    rw [State.readMem, hbyte, hrest, BitVec.toNat_ofNat, hsplit]
    exact congrArg (· + 256 * (v / 256 % 256 ^ n)) (Nat.mod_mod v 256)

/-- What was written is read back. -/
theorem State.readMem_writeMem_same (s : State) (a n v : Nat) : (s.writeMem a n v).readMem a n = v % 256 ^ n :=
  readMem_writeBytesAt n a v s.mem _ rfl

/-! ### The walk -/

/-- A walk rests on its tenant's base register, the memory and the uncorrectable errors. -/
theorem State.walk_congr {s t : State} {n : Nat} (hreg : t.reg (Reg.SLM_L1BASE n) = s.reg (Reg.SLM_L1BASE n)) (hmem : t.mem = s.mem)
    (hecc : t.eccBad = s.eccBad) (a : Nat) : t.walk n a = s.walk n a := by
  have hread (x m : Nat) : t.readMem x m = s.readMem x m := State.readMem_congr hmem x m
  have hbad (x m : Nat) : t.eccIn x m = s.eccIn x m := by rw [State.eccIn, State.eccIn, hecc]
  simp only [State.walk, State.regN_of_reg hreg, hread, hbad]

end Sys2Proof.Machine

/-! A step (log entry 1): the command at the front of the queue, or one tick of the tick clock. -/

namespace Sys2Proof.Machine

open Sys2Proof

/-- With no trim and no crumb carried, a tick leaves no more than the count of the slew at 0. -/
theorem TimeBase.evenTick (b : TimeBase) (hacc : b.trimAcc = 0) (hcarry : b.carry = 0) :
    { b with trimAcc := 0, carry := 0 - clampCrumb 0, slewTicks := 0 } = { b with slewTicks := 0 } := by
  cases b
  cases hacc
  cases hcarry
  rfl

section Tick
variable {s : State}

/-- No apply updates the ports. -/
def State.portsFree (s : State) : Prop := ∀ a, s.boot.apply = some a → a.part ≠ 1

/-- An apply that does not update the ports does not go on with a tick. -/
theorem State.applyTick_of_portsFree (h : s.portsFree) : s.applyTick = s := by
  rw [State.applyTick]
  split
  · rfl
  · next a ha => exact if_pos (Or.inl (h a ha))

theorem State.portsFree_of_boot {t : State} (h : s.portsFree) (hboot : t.boot = s.boot) : t.portsFree := fun a ha =>
  h a (hboot ▸ ha)

theorem step_idle (h : s.pending = []) : step s = .next s.passTick := by
  rw [step, h]

/-- The work of a tick leaves what an apply holds. -/
theorem State.tickedBase_boot : s.tickedBase.tickEngines.tickPorts.settleCuffs.boot = s.boot := by
  have hwork := s.tickedBase.tickWork_tickFields
  exact (State.boot_of_wipe hwork (by decide)).trans s.tickedBase_kept.2.1

/-- A tick with no trim, no slew and no carried crumb advances by 16 crumbs. -/
theorem State.tickCrumbs_even (htrim : s.trim = 0) (hacc : s.tb.trimAcc = 0) (hrem : s.stepRem = 0) (hcarry : s.tb.carry = 0) :
    s.trimStep 16 = (0, 0) ∧ s.slewStep = 0 ∧ s.owed = 0 ∧ s.tickCrumbs = 16 := by
  have htrimStep : s.trimStep 16 = (0, 0) := by simp [State.trimStep, htrim, hacc]
  have hslew : s.slewStep = 0 := if_pos hrem
  have howed : s.owed = 0 := by simp [State.owed, htrimStep, hslew, hcarry]
  exact ⟨htrimStep, hslew, howed, by simp [State.tickCrumbs, howed, clampCrumb]⟩

end Tick

/-- Settles O1: the two rules of `step`, and on an empty queue the cases of the time base's tick. -/
theorem stepTakesTheFront : Obligations.StepTakesTheFront := by
  refine ⟨fun s c rest h => by rw [step, h], ?_⟩
  intro s hidle free clocked plain
  have hpass : ∀ t : State, s.tbTick = t → t.boot = s.boot → free → step s = .next t := by
    intro t ht hboot hfree
    rw [step_idle hidle, State.passTick, ht, State.applyTick_of_portsFree (State.portsFree_of_boot hfree hboot)]
  have htick : plain → s.tbTick = s.tickedBase.tickEngines.tickPorts.settleCuffs := fun h =>
    s.tbTick_eq h.1.1 h.2.1 h.1.2.1 h.1.2.2
  refine ⟨fun hclock => hpass s ?_ rfl, fun hclock hcoarse => hpass _ ?_ rfl, fun hplain hfree hlt => ?_, fun hplain hfree hge => ?_⟩
  · refine if_pos ?_
    by_contra hnot
    exact hclock (by simpa [clocked, not_or] using hnot)
  · obtain ⟨hrun, hdoze, hoff⟩ := hclock
    exact (if_neg (by simp [hrun, hdoze, hoff])).trans (if_pos hcoarse)
  · obtain ⟨-, -, -, htrim, hacc, hrem, hcarry⟩ := id hplain
    obtain ⟨htrimStep, hslew, howed, hcrumbs⟩ := State.tickCrumbs_even htrim hacc hrem hcarry
    have hbase : s.tickedBase = { s.settleLegs with
        tick := s.tick + 1, tb := { s.tb with now := s.tb.now + 16, slewTicks := 0 } } := by
      have hstart : s.tickStart = { s.settleLegs with tick := s.tick + 1, tb := { s.tb with slewTicks := 0 } } := by
        rw [State.tickStart, htrimStep, howed, if_pos (Or.inl hrem)]
        dsimp only
        rw [s.tb.evenTick hacc hcarry]
      have hslewed : s.tickStart.slewed s.slewStep = s.tickStart := if_pos hslew
      rw [State.tickedBase, hslewed, hcrumbs, State.advance_eq, State.tickStart_circle, hstart]
      exact if_pos hlt
    rw [hpass _ (htick hplain) State.tickedBase_boot hfree, hbase]
  · obtain ⟨-, -, -, htrim, hacc, hrem, hcarry⟩ := id hplain
    obtain ⟨-, -, -, hcrumbs⟩ := State.tickCrumbs_even htrim hacc hrem hcarry
    have htb := s.tickedBase_tb
    obtain ⟨hcuffs, -, hqueues, hmem⟩ := s.tickedBase_kept
    rw [hcrumbs] at htb
    refine ⟨s.tickedBase, hpass _ (htick hplain) State.tickedBase_boot hfree, s.tickedBase_tick, by rw [htb], ?_, hcuffs, hqueues, hmem⟩
    rw [htb]
    exact if_neg (by omega)

end Sys2Proof.Machine

/-! The state right after reset (R26, R45, R315, R317, R340). -/

namespace Sys2Proof.Machine

open Sys2Proof

/-- After reset every register reads its reset value. -/
theorem reset_reg (k : Nat) : State.reset.reg k = resetOf k := rfl

theorem reset_groups : ∀ g < 64, resetOf (Reg.TB_SG_PERIOD_L g) = 0 ∧ resetOf (Reg.TB_SG_PERIOD_H g) = 0 ∧
    resetOf (Reg.TB_SG_COUNT g) = 0 ∧ resetOf (Reg.TB_SG_BASE_L g) = 0 ∧ resetOf (Reg.TB_SG_BASE_H g) = 0 := by decide +kernel

theorem reset_masks : ∀ i < 32, resetOf (Reg.TB_GMASK i) = 0 := by decide +kernel

theorem reset_circle : State.reset.circle = 2 ^ 60 := by decide +kernel

/-- Settles O2: the fields by the initial values of the state, the registers by the listing. -/
theorem resetState : Obligations.ResetState :=
  ⟨rfl, rfl, rfl, rfl, by decide +kernel, by decide +kernel, by decide +kernel, reset_groups, reset_masks, reset_circle,
    fun _ _ => ⟨rfl, rfl, rfl⟩, fun _ => rfl, fun _ => rfl, fun _ => rfl, rfl, rfl, fun _ => rfl, reset_reg, by decide +kernel,
    by decide +kernel⟩

end Sys2Proof.Machine

/-! O4. The sound mode lets the time base stand still in BOOT whatever else BOOT has come to. But an image of the host that is
accepted ends BOOT without asking whether the time base runs (R346), where R45 starts it: a state that waits for the host's image
with the time base still is sound, and GO leaves it in PROVISION, in which the time base may not stand still. -/

namespace Sys2Proof.Machine

open Sys2Proof

/-- The least image that R344 lets pass: a header, and its three sections, each empty, before the signature. -/
def bareImage : ImageInfo :=
  { bytes := [0x43, 0x48, 0x54, 0x39, 1, 0, 0, 0, 0x60, 2] ++ List.replicate 54 0
      ++ [1, 0, 0, 0, 0, 2] ++ List.replicate 10 0 ++ [2, 0, 0, 0, 0, 2] ++ List.replicate 10 0
      ++ [3, 0, 0, 0, 0, 2] ++ List.replicate 506 0 }

/-- BOOT that waits for the host's image, while the time base has not started. -/
def hostTurn : State :=
  { regs := [(Reg.SEC_HBOOT_LEN, 608)], fns := [(0, { bme := true })], link := { up := true }, boot := { hostWait := true } }

/-- The host's GO leads into PROVISION, the time base standing still. -/
theorem step_hostTurn_go : ∃ t, step { hostTurn with pending := [.secHbootCtrlGo bareImage] } = .next t ∧ t.modeSound = false :=
  ⟨_, rfl, by decide +kernel⟩

theorem State.modeSound_pending (s : State) (l : List Instr) : ({ s with pending := l } : State).modeSound = s.modeSound := rfl

theorem modeSound_hostTurn : hostTurn.modeSound = true := by decide +kernel

/-- Refutes O4: in `hostTurn` the mode is sound, and it is not after the host's GO. -/
theorem not_modesChangeAsListed : ¬ Obligations.ModesChangeAsListed := by
  intro h
  obtain ⟨t, hstep, hunsound⟩ := step_hostTurn_go
  obtain ⟨hsound, -⟩ := h _ t ((hostTurn.modeSound_pending _).trans modeSound_hostTurn) hstep
  exact Bool.false_ne_true (hunsound.symm.trans hsound)

end Sys2Proof.Machine

/-! O5. A command of the voters is well formed with any target type of R82, contexts among them; its meaning takes the target types
1 to 4 alone, since a context has no voter (R120, R121). -/

namespace Sys2Proof.Machine

open Sys2Proof

/-- A double fault at a context names no voter of the part. -/
theorem exec_doubleFault_context (s : State) : exec (.doubleFault 5 0) s = .fault .noSuchUnit := rfl

/-- Refutes O5: DOUBLE_FAULT at context 0 is well formed and stops with a fault. -/
theorem not_wellFormedCommandsComplete : ¬ Obligations.WellFormedCommandsComplete := by
  intro h
  obtain ⟨hcompletes, -⟩ := h (.doubleFault 5 0) State.reset
  obtain ⟨t, hnext⟩ := hcompletes (by decide)
  exact nomatch (exec_doubleFault_context State.reset).symm.trans hnext

end Sys2Proof.Machine

/-! Register access (R7, R10-R12): a write by a register's access types, accesses to offsets that no block occupies, and a read that
clears. -/

namespace Sys2Proof.Machine

open Sys2Proof

/-! ### The rows of the plain pages -/

/-- The listings of the pages that act by their access types alone. -/
def plainRows : List RegRow := rowsHeader ++ rowsClk ++ rowsRel ++ rowsSch ++ rowsMbx0 ++ rowsMbx ++ rowsEnp

/-- The masks of a row as words: no bit is staged and written at once as well. -/
structure PlainRow (r : RegRow) : Prop where
  rw : (BitVec.ofNat 32 r.rw).toNat = r.rw
  rws : (BitVec.ofNat 32 r.rws).toNat = r.rws
  w1c : (BitVec.ofNat 32 r.w1c).toNat = r.w1c
  rw_rws : BitVec.ofNat 32 r.rw &&& BitVec.ofNat 32 r.rws = 0
  w1c_rws : BitVec.ofNat 32 r.w1c &&& BitVec.ofNat 32 r.rws = 0

theorem plainRow_of_mem {r : RegRow} (h : r ∈ plainRows) : PlainRow r := by
  have hall : ∀ r ∈ plainRows, ((BitVec.ofNat 32 r.rw).toNat = r.rw ∧ (BitVec.ofNat 32 r.rws).toNat = r.rws ∧
      (BitVec.ofNat 32 r.w1c).toNat = r.w1c) ∧ BitVec.ofNat 32 r.rw &&& BitVec.ofNat 32 r.rws = 0 ∧
      BitVec.ofNat 32 r.w1c &&& BitVec.ofNat 32 r.rws = 0 := by decide
  obtain ⟨⟨hrw, hrws, hw1c⟩, hstaged, hcleared⟩ := hall r h
  exact ⟨hrw, hrws, hw1c, hstaged, hcleared⟩

theorem findRow_mem {l : List RegRow} {o : Nat} {r : RegRow} (h : findRow l o = some r) : r ∈ l := by
  induction l with
  | nil => exact nomatch h
  | cons x l ih =>
    rw [findRow] at h
    split at h
    · cases h
      exact List.mem_cons_self
    · exact List.mem_cons_of_mem _ (ih h)

/-- The key of an offset of a block page. -/
theorem page_of_key {page off : Nat} (hoff : off < 0x1000) (hpage : page < 0x1000) :
    ¬tenBase ≤ page * 0x1000 + off ∧ (page * 0x1000 + off) % 0x1000000 / 0x1000 = page ∧ (page * 0x1000 + off) % 0x1000 = off := by
  simp only [tenBase]
  omega

theorem blockOf_lt {page : Nat} (h : blockOf page ≠ none) : page < 0x7FC := by
  by_contra hge
  refine h ?_
  unfold blockOf
  iterate 21 rw [if_neg (by omega)]

theorem plainPage_block {page : Nat} (h : plainPage page = true) : ∃ b i, blockOf page = some (b, i) ∧
    (b = .clk ∨ b = .rel ∨ b = .sch ∨ b = .mbx ∨ b = .enp) := by
  rw [plainPage] at h
  split at h
  any_goals exact ⟨_, _, ‹_›, by simp⟩
  exact absurd h (by decide)

theorem plainRow_of_rowOf {page off : Nat} {r : RegRow} (hplain : plainPage page = true) (hoff : off < 0x1000)
    (h : rowOf (page * 0x1000 + off) = some r) : PlainRow r := by
  obtain ⟨b, i, hblock, hkind⟩ := plainPage_block hplain
  obtain ⟨hten, hpage, -⟩ := page_of_key hoff (Nat.lt_trans (blockOf_lt (page := page) (by rw [hblock]; simp)) (by decide))
  rw [rowOf, if_neg hten] at h
  simp only [hpage, hblock] at h
  refine plainRow_of_mem ?_
  have hmem := findRow_mem h
  generalize (page * 0x1000 + off) % 0x1000 = o at hmem
  have hlist : (listing b i o).1 ⊆ plainRows := by
    unfold listing plainRows
    split
    · intro x hx
      simp [hx]
    rcases hkind with rfl | rfl | rfl | rfl | rfl
    case inr.inr.inr.inl =>
      dsimp only
      split <;> (intro x hx; simp [hx])
    all_goals (intro x hx; simp [hx])
  exact hlist hmem

/-! ### A write by the access types -/

section Masks
variable {x y : Word}

theorem ofNat_toNat_word (x : Word) : BitVec.ofNat 32 x.toNat = x := by simp

/-- The masked bits of a word of which the rest comes from another. -/
theorem masked_and (x y m : Word) : ((x &&& m) ||| (y &&& ~~~m)) &&& m = x &&& m := by
  refine BitVec.eq_of_getLsbD_eq fun i hi => ?_
  simp only [BitVec.getLsbD_and, BitVec.getLsbD_or, BitVec.getLsbD_not, hi, decide_true, Bool.true_and]
  cases m.getLsbD i <;> simp

/-- What a view makes of the masked bits comes from the masked bits. -/
theorem viewed_and {m : Word} (h : x &&& m = y &&& m) (view : Nat) (data : Word) : viewed view x data &&& m = viewed view y data &&& m := by
  refine BitVec.eq_of_getLsbD_eq fun i hi => ?_
  have hbit := congrArg (·.getLsbD i) h
  simp only [viewed, BitVec.getLsbD_and] at hbit ⊢
  cases hm : m.getLsbD i
  · simp
  · rw [hm, Bool.and_true, Bool.and_true] at hbit
    split
    · rfl
    split
    · simp [hbit]
    split
    · simp [hbit]
    · simp [hbit]

end Masks

section Row
variable (s : State)

/-- What a register in effect takes from a write (R7, R10). -/
def RegRow.written (r : RegRow) (view : Nat) (old data : Word) : Word :=
  ((viewed view old data &&& BitVec.ofNat 32 r.rw) ||| (old &&& ~~~BitVec.ofNat 32 r.rw)) &&&
    ~~~(if view = 0 then BitVec.ofNat 32 r.w1c &&& data else 0)

/-- A write leaves the staged bits of the value in effect. -/
theorem RegRow.written_rws {r : RegRow} (hr : PlainRow r) (view : Nat) (old data : Word) :
    r.written view old data &&& BitVec.ofNat 32 r.rws = old &&& BitVec.ofNat 32 r.rws := by
  refine BitVec.eq_of_getLsbD_eq fun i hi => ?_
  have hrw := congrArg (·.getLsbD i) hr.rw_rws
  have hw1c := congrArg (·.getLsbD i) hr.w1c_rws
  simp only [BitVec.getLsbD_and, BitVec.ofNat_eq_ofNat, BitVec.getLsbD_zero] at hrw hw1c
  have hclear : (if view = 0 then BitVec.ofNat 32 r.w1c &&& data else 0).getLsbD i =
      (decide (view = 0) && ((BitVec.ofNat 32 r.w1c).getLsbD i && data.getLsbD i)) := by
    split <;> simp [*]
  simp only [RegRow.written, BitVec.getLsbD_and, BitVec.getLsbD_or, BitVec.getLsbD_not, hi, decide_true, Bool.true_and, hclear]
  generalize (BitVec.ofNat 32 r.rws).getLsbD i = c at *
  generalize (BitVec.ofNat 32 r.rw).getLsbD i = b at *
  generalize (BitVec.ofNat 32 r.w1c).getLsbD i = e at *
  cases c
  · simp
  · have hb : b = false := by simpa using hrw
    have he : e = false := by simpa using hw1c
    simp [hb, he]

/-- The value that a write gives a register in effect. -/
theorem State.writeRow_eq {key view v : Nat} {r : RegRow} (hrow : rowOf key = some r) (hr : PlainRow r) (hv : v < 2 ^ 32) :
    s.writeRow key view v = (s.setReg key (r.written view (s.reg key) (BitVec.ofNat 32 v))).stageWrite key r.rws view v := by
  obtain ⟨hrw, -, hw1c, -, -⟩ := hr
  have hdata : (BitVec.ofNat 32 v).toNat = v := Nat.mod_eq_of_lt hv
  have hnew : Nat.lor (Nat.land (viewWrite view (s.regN key) v) r.rw) (dropBits (s.regN key) r.rw) =
      ((viewed view (s.reg key) (BitVec.ofNat 32 v) &&& BitVec.ofNat 32 r.rw) |||
        (s.reg key &&& ~~~BitVec.ofNat 32 r.rw)).toNat := by
    rw [viewWrite_regN, BitVec.toNat_or, BitVec.toNat_and, ← dropBits_toNat, hrw]
    rfl
  have hword : word (if view = 0 then dropBits (Nat.lor (Nat.land (viewWrite view (s.regN key) v) r.rw) (dropBits (s.regN key) r.rw))
      (Nat.land v r.w1c) else Nat.lor (Nat.land (viewWrite view (s.regN key) v) r.rw) (dropBits (s.regN key) r.rw)) =
      r.written view (s.reg key) (BitVec.ofNat 32 v) := by
    rw [hnew, RegRow.written]
    split
    · have hmask : Nat.land v r.w1c = (BitVec.ofNat 32 r.w1c &&& BitVec.ofNat 32 v).toNat := by
        rw [BitVec.toNat_and, hw1c, hdata]
        exact Nat.land_comm ..
      rw [hmask, dropBits_toNat]
      exact ofNat_toNat_word _
    · rw [show (~~~(0 : Word)) = BitVec.allOnes 32 from rfl, BitVec.and_allOnes]
      exact ofNat_toNat_word _
  simp only [State.writeRow, hrow, State.setN, hword]

/-- Staged bits of a register take the value; its other staged bits stand. -/
theorem State.stageWrite_eq {key mask view v : Nat} {m : Word} (hm : m.toNat = mask) (hne : mask ≠ 0)
    (hfree : s.pageArmed (pageOf key) = false) : s.stageWrite key mask view v = s.setStaged key
      (((if view = 3 then BitVec.ofNat 32 v else viewed view (s.staged key) (BitVec.ofNat 32 v)) &&& m) ||| (s.staged key &&& ~~~m)) := by
  have hview : viewStage view (s.staged key).toNat v =
      (if view = 3 then BitVec.ofNat 32 v else viewed view (s.staged key) (BitVec.ofNat 32 v)).toNat := by
    rw [viewStage]
    split
    · rfl
    · rw [viewWrite_ofNat, viewWrite_toNat]
  rw [State.stageWrite, if_neg hne, if_neg (by simp [hfree])]
  dsimp only
  rw [hview, ← hm]
  refine congrArg (s.setStaged key ·) ?_
  have hdrop : (s.staged key).toNat - Nat.land (s.staged key).toNat m.toNat = (s.staged key &&& ~~~m).toNat := dropBits_toNat ..
  rw [hdrop, word]
  refine (congrArg (BitVec.ofNat 32) ?_).trans (ofNat_toNat_word _)
  exact ((BitVec.toNat_or ..).trans (congrArg (· ||| _) (BitVec.toNat_and ..))).symm

/-- A register outside the configuration page arms no page. -/
theorem State.pageArmed_setReg {k : Nat} (h : k ≠ Reg.CFG_HS_CTRL) (v : Word) (page : Nat) :
    (s.setReg k v).pageArmed page = s.pageArmed page := by
  have hstate : (s.setReg k v).hsState = s.hsState := State.fld_of_reg (s.reg_setReg_other (Ne.symm h) v) 2 2
  have hgroup : ∀ g, (s.setReg k v).groupArmed g = s.groupArmed g := fun g => by
    rw [State.groupArmed, State.hsBusy, hstate]
    rfl
  simp only [State.pageArmed, hgroup]
  rfl

/-- A write by the access types of a row: the register in effect and its staged bits, and nothing else (R7, R10, R11). -/
theorem State.writeRow_plain {key view v : Nat} {r : RegRow} (hrow : rowOf key = some r) (hr : PlainRow r) (hv : v < 2 ^ 32)
    (hcfg : key ≠ Reg.CFG_HS_CTRL) (hfree : s.pageArmed (pageOf key) = false) :
    (s.writeRow key view v).reg key = r.written view (s.reg key) (BitVec.ofNat 32 v) ∧
      (BitVec.ofNat 32 r.rws ≠ 0 → (s.writeRow key view v).staged key &&& BitVec.ofNat 32 r.rws =
        (if view = 3 then BitVec.ofNat 32 v else viewed view (s.staged key) (BitVec.ofNat 32 v)) &&& BitVec.ofNat 32 r.rws) ∧
      (∀ k, k ≠ key → (s.writeRow key view v).reg k = s.reg k ∧ (s.writeRow key view v).staged k = s.staged k) ∧
      s.writeRow key view v = { s with regs := (s.writeRow key view v).regs, shadow := (s.writeRow key view v).shadow } := by
  set w := r.written view (s.reg key) (BitVec.ofNat 32 v) with hw
  set u := s.setReg key w with hu
  set m := BitVec.ofNat 32 r.rws with hm
  rw [s.writeRow_eq hrow hr hv, ← hu]
  have hreg : ∀ k, k ≠ key → u.reg k = s.reg k ∧ u.staged k = s.staged k := fun k hk =>
    ⟨s.reg_setReg_other hk w, (s.staged_setReg key k w).trans (if_neg hk)⟩
  by_cases hne : r.rws = 0
  · rw [State.stageWrite, if_pos hne]
    exact ⟨s.reg_setReg_same key w, fun h => absurd (by rw [hm, hne]; rfl) h, hreg, rfl⟩
  have hstaged : u.staged key &&& m = s.staged key &&& m := by
    rw [hu, State.staged_setReg, if_pos rfl]
    refine BitVec.eq_of_getLsbD_eq fun i hi => ?_
    have hbit := congrArg (·.getLsbD i) (RegRow.written_rws hr view (s.reg key) (BitVec.ofNat 32 v))
    simp only [← hw, ← hm, BitVec.getLsbD_and, BitVec.getLsbD_xor] at hbit ⊢
    cases hmask : m.getLsbD i
    · simp
    · rw [hmask, Bool.and_true, Bool.and_true] at hbit
      rw [hbit, Bool.xor_self, Bool.false_xor]
  rw [u.stageWrite_eq hr.rws hne ((s.pageArmed_setReg hcfg w _).trans hfree)]
  refine ⟨s.reg_setReg_same key w, fun _ => ?_, fun k hk => ⟨(hreg k hk).1, ?_⟩, rfl⟩
  · rw [State.staged_setStaged, if_pos rfl, masked_and]
    split
    · rfl
    · exact viewed_and hstaged view _
  · rw [State.staged_setStaged, if_neg hk]
    exact (hreg k hk).2

end Row

/-! ### Accesses as they come -/

section Accesses
variable {s : State}

theorem exec_registerWrite_dword {a v : Nat} (hv : v < 2 ^ 32) : exec (.registerWrite 0 (dword a) v) s = .next (s.writeBar0 0 a v) :=
  onUnit_of (by simpa [okFn, okData] using hv) _

/-- A write of a block page outside the configuration of its channels (R12). -/
theorem State.writeBar0_block {page view off v : Nat} (hblock : (blockOf page).isSome) (hview : view < 4) (hoff : off < 0x1000)
    (halign : off % 4 = 0) (hreach : s.pfPage page = true) :
    s.writeBar0 0 (page * 0x4000 + view * 0x1000 + off) v = (s.drainBuf 0).writeBlock page off view v := by
  have hlt := blockOf_lt (page := page) (by rintro h; simp [h] at hblock)
  have hpage : pageAt (page * 0x4000 + view * 0x1000 + off) = page := by simp only [pageAt]; omega
  rw [State.writeBar0, if_neg (by omega), if_neg (by simp), if_neg (by omega), if_neg (by omega), hpage, if_pos hblock,
    State.pf_of_reach hreach]
  congr 1 <;> omega

theorem State.writeBlock_plain {page off view v : Nat} (hplain : plainPage page = true) (hoff : off ≠ 0x20) :
    s.writeBlock page off view v = s.writeRow (page * 0x1000 + off) view v := by
  obtain ⟨b, i, hblock, hkind⟩ := plainPage_block hplain
  have hforeign : s.foreignChan page = false := by
    rw [State.foreignChan]
    refine Bool.and_eq_false_imp.mpr fun h => absurd (of_decide_eq_true h) ?_
    rintro ⟨hlo, hhi⟩
    have hdma : blockOf page = some (.dma, page - 0x80) := by
      unfold blockOf
      iterate 15 rw [if_neg (by omega)]
      exact if_pos ⟨hlo, hhi⟩
    rw [hdma] at hblock
    cases hblock
    simp at hkind
  rw [State.writeBlock, hforeign, if_neg (by simp), if_neg hoff, hblock]
  rcases hkind with rfl | rfl | rfl | rfl | rfl <;> rfl

/-- A write of the PF outside DOZE that no page filters acts on the drained state. -/
theorem State.posted_of_accepts (h : s.accepts 0 = true) (ws : List (Nat × Nat)) (f : State → State) :
    s.posted 0 ws (s.accepts 0) f = f (s.drainBuf 0) := by
  have hawake : s.dozing = false := by
    rw [State.accepts, Bool.and_eq_true] at h
    simpa using h.2
  rw [State.posted_awake s hawake, if_pos h]

theorem State.writeBar0_unaligned {addr : Nat} (halign : addr % 4 ≠ 0) (h : s.accepts 0 = true) (v : Nat) :
    s.writeBar0 0 addr v = (s.drainBuf 0).send (.unsupported 0) := by
  rw [State.writeBar0, if_pos halign, State.posted_of_accepts h]

theorem State.readBar0_unaligned {addr : Nat} (halign : addr % 4 ≠ 0) (h : s.reads 0 = true) :
    s.readBar0 0 addr = s.send (.unsupported 0) := by
  rw [State.readBar0, if_neg (by simp [h]), if_pos halign]

/-- A read of a block page's space reads the page of the drained state. -/
theorem State.readBar0_page {addr : Nat} (halign : addr % 4 = 0) (hlow : addr < 0x1FF0000) (h : s.reads 0 = true) :
    s.readBar0 0 addr = (s.drainBuf 0).readPage addr := by
  rw [State.readBar0, if_neg (by simp [h]), if_neg (by omega)]
  exact if_pos hlow

theorem State.drainBuf_mode (n : Nat) : (s.drainBuf n).mode = s.mode := congrArg Power.mode (s.drainBuf_pwr n)

/-- An access to an offset that no block occupies (R12). -/
theorem State.unmapped_reads (addr : Nat) (h : addr < 2 ^ 32) : (s.unmapped addr).bit (Reg.PG_ERR 0) 3 = true ∧
    (s.unmapped addr).regN (Reg.PG_ERR_ADDR 0) = addr ∧ OnlyRegs [Reg.PG_ERR 0, Reg.PG_ERR_ADDR 0] s (s.unmapped addr) :=
  ⟨(State.bit_setN_other _ (by decide) ..).trans (s.bit_pgErr_same 0 (by decide)), (State.regN_setN_same ..).trans (Nat.mod_eq_of_lt h),
    ((OnlyRegs.refl _ s).pgErr (by simp) 3).setN (by simp) addr⟩

/-- A read of CLK_REFLOSS_CNT, which the normal view clears (R11). -/
theorem State.readPage_refloss (d : State) {view : Nat} (hview : view < 3) (hboot : d.mode ≠ Mode.boot) :
    d.readPage (0x4000 + view * 0x1000 + 0x4C) =
      (if view = 0 then d.setReg Reg.CLK_REFLOSS_CNT 0 else d).send (.readData 0 (d.reg Reg.CLK_REFLOSS_CNT)) := by
  have hpage : pageAt (0x4000 + view * 0x1000 + 0x4C) = 1 := by simp only [pageAt]; omega
  have hoff : (0x4000 + view * 0x1000 + 0x4C) % 0x1000 = 0x4C := by omega
  have hv : (0x4000 + view * 0x1000 + 0x4C) / 0x1000 % 4 = view := by omega
  have hread : word (d.readBlock 1 0x4C) = d.reg Reg.CLK_REFLOSS_CNT := ofNat_toNat_word (d.reg Reg.CLK_REFLOSS_CNT)
  have hforeign : d.foreignChan 1 = false := rfl
  simp only [State.readPage, hpage, hoff, hv, hread, hforeign]
  rw [if_neg (fun h => hboot h.1), if_neg (by decide), if_neg (by decide), if_neg (by omega)]
  by_cases hzero : view = 0
  · rw [if_pos hzero, if_pos hzero]
    have hclear : d.afterRead 1 0x4C = d.setReg Reg.CLK_REFLOSS_CNT 0 := by
      have hrow : rowOf (1 * 0x1000 + 0x4C) = some ⟨0x4c, 1, 4, 0x0, 0x0, 0x0, 0x0, 0xffffffff, 0x0⟩ := by decide
      rw [State.afterRead, hrow]
      refine congrArg (d.setReg Reg.CLK_REFLOSS_CNT) ?_
      have hall : dropBits (d.regN 0x104C) (BitVec.allOnes 32).toNat = (d.reg 0x104C &&& ~~~BitVec.allOnes 32).toNat := dropBits_toNat ..
      have hmask : (BitVec.allOnes 32).toNat = 0xffffffff := by decide
      rw [hmask] at hall
      exact (congrArg word hall).trans (by simp [word])
    have hrx : rxEngine 1 0x4C = none := by decide
    have hclaim : claimCore 1 0x4C = none := by decide
    rw [State.readNormal, hrx, hclaim]
    dsimp only
    rw [hclear, hread]
  · rw [if_neg hzero, if_neg hzero]

end Accesses

/-- Settles O6: each access by what its page, its view and its size make of it. -/
theorem registerAccess : Obligations.RegisterAccess := by
  intro s d
  have hmode : d.mode = s.mode := State.drainBuf_mode 0
  have hstray : ∀ addr write, exec (.unmappedAccess 0 addr write) s = .next (s.strayAccess addr write) := fun _ _ => rfl
  refine ⟨?_, ?_, ?_, ?_, ?_, ?_, ?_⟩
  · intro page off view v r hplain hoff halign hstage hview hv hrow hreach hfree key data by_ rw rws w1c
    obtain ⟨b, i, hblock, -⟩ := plainPage_block hplain
    have hlt := blockOf_lt (page := page) (by rw [hblock]; simp)
    obtain ⟨hten, hpage, -⟩ := page_of_key hoff (Nat.lt_trans hlt (by decide))
    have hwrite := (exec_registerWrite_dword (s := s) (a := page * 0x4000 + view * 0x1000 + off) hv).trans
      (congrArg _ ((State.writeBar0_block (by rw [hblock]; rfl) hview hoff halign hreach).trans (State.writeBlock_plain hplain hstage)))
    have hcfg : page * 0x1000 + off ≠ Reg.CFG_HS_CTRL := by
      intro h
      have : page = 4 := by simp only [Reg.CFG_HS_CTRL] at h; omega
      rw [this] at hplain
      exact absurd hplain (by decide)
    exact ⟨_, hwrite, d.writeRow_plain hrow (plainRow_of_rowOf hplain hoff hrow) hv hcfg
      (by rw [pageOf, if_neg hten, hpage]; exact hfree)⟩
  · intro addr halign hlow hblock
    have hnone : ¬(0x1FF0000 ≤ addr ∨ (blockOf (pageAt addr)).isSome = true) := by
      rw [show blockOf (pageAt addr) = none from hblock]
      simp only [Option.isSome_none, or_false, Bool.false_eq_true]
      omega
    have hpage : pageAt addr ≠ 0 ∧ pageAt addr ≠ 5 := by
      constructor <;> (intro h; rw [show addr / 0x4000 = _ from h] at hblock; exact absurd hblock (by decide))
    have hwrite : s.strayAccess addr true = s.posted 0 [(addr, 0)] (s.pfPage (pageAt addr)) (fun s => s.unmapped addr) := by
      rw [State.strayAccess, if_neg hnone]
      refine (if_pos rfl).trans ?_
      rw [State.writeBar0, if_neg (by omega), if_neg (by simp), if_neg (by omega), if_neg (by omega), hblock]
      rfl
    have hread : s.reads 0 = true → s.strayAccess addr false = d.readPage addr := fun h => by
      rw [State.strayAccess, if_neg hnone]
      exact (if_neg (by decide)).trans (State.readBar0_page halign hlow h)
    obtain ⟨hbit, haddr, honly⟩ := d.unmapped_reads addr (by omega)
    refine ⟨fun hboot ha => ?_, fun hboot hr => ?_, fun hboot ha => ?_, fun hboot hr => ?_⟩
    · have hfar : s.pfPage (pageAt addr) = false := by
        simp [State.pfPage, hpage, show s.pwr.mode = Mode.boot from hboot]
      have hawake : s.dozing = false := by
        rw [State.accepts, Bool.and_eq_true] at ha
        simpa using ha.2
      rw [hstray, hwrite, State.posted_awake s hawake, hfar]
      rfl
    · rw [hstray, hread hr, State.readPage]
      exact congrArg _ (if_pos ⟨hmode.trans hboot, hpage⟩)
    · have hnear : s.pfPage (pageAt addr) = true := by
        simp [State.pfPage, ha, show s.pwr.mode ≠ Mode.boot from hboot]
      refine ⟨_, (hstray ..).trans (congrArg _ (hwrite.trans ?_)), hbit, haddr, honly⟩
      rw [State.posted_awake s (s.awake_of_pfPage hnear), if_pos hnear]
    · refine ⟨(d.unmapped addr).send (.readData 0 0), (hstray ..).trans (congrArg _ ((hread hr).trans ?_)), hbit, haddr, rfl,
        congrArg (fun u : State => u.send (.readData 0 0)) honly.1⟩
      rw [State.readPage]
      exact (if_neg fun h => hboot (hmode.symm.trans h.1)).trans (if_pos (by rw [hblock]; rfl))
  · intro addr write h
    rw [hstray, State.strayAccess]
    exact congrArg _ (if_pos h)
  · intro fn addr write hfn hlt
    exact (onUnit_of (by simp [okFn, hlt]) _).trans (congrArg _ (if_neg (by omega)))
  · intro addr halign hlow hblock
    have hnone : ¬(0x1FF0000 ≤ addr ∨ (blockOf (pageAt addr)).isSome = true) := by
      rw [show blockOf (pageAt addr) = none from hblock]
      simp only [Option.isSome_none, or_false, Bool.false_eq_true]
      omega
    refine ⟨fun h => ?_, fun h => ?_⟩
    · rw [hstray, State.strayAccess, if_neg hnone]
      exact congrArg _ ((if_pos rfl).trans (State.writeBar0_unaligned halign h 0))
    · rw [hstray, State.strayAccess, if_neg hnone]
      exact congrArg _ ((if_neg (by decide)).trans (State.readBar0_unaligned halign h))
  · intro r v hkind
    have hodd : (r.addr / 4 * 4 + 1) % 4 ≠ 0 := by omega
    refine ⟨fun h hdata => ?_, fun h => ?_⟩
    · refine (onUnit_of (by simp [okFn, hdata]) _).trans (congrArg _ ?_)
      rcases hkind with hk | ⟨n, hk, h4, h8⟩
      · simp only [State.writeSized, hk]
        exact State.writeBar0_unaligned hodd h v
      · simp only [State.writeSized, hk]
        rw [if_neg h4, if_neg h8]
        exact State.writeBar0_unaligned hodd h v
    · refine (onUnit_of (b := okFn 0) (by decide) _).trans (congrArg _ ?_)
      rcases hkind with hk | ⟨n, hk, h4, h8⟩
      · simp only [State.readSized, hk]
        exact if_pos h
      · simp only [State.readSized, hk]
        rw [if_neg h4, if_neg h8]
        exact if_pos h
  · intro view hview hr hboot
    have hexec : exec (.readClear 0 (dword (0x4000 + view * 0x1000 + 0x4C))) s =
        .next (d.readPage (0x4000 + view * 0x1000 + 0x4C)) :=
      (onUnit_of (b := okFn 0) (by decide) _).trans (congrArg _ (State.readBar0_page (addr := 0x4000 + view * 0x1000 + 0x4C) (by omega) (by omega) hr))
    refine ⟨_, hexec.trans (congrArg _ (d.readPage_refloss hview (fun h => hboot (hmode.symm.trans h)))), ?_⟩
    by_cases hzero : view = 0
    · rw [if_pos hzero, if_pos hzero]
      exact ⟨rfl, d.reg_setReg_same Reg.CLK_REFLOSS_CNT 0, fun k hk => d.reg_setReg_other hk 0, rfl⟩
    · rw [if_neg hzero, if_neg hzero]
      exact ⟨rfl, rfl, fun _ _ => rfl, rfl⟩

end Sys2Proof.Machine

/-! O7, the command bits of PG_STAGE (R17-R19, R385). Each row writes PG_STAGE with its own bit set beside those of its value; what
follows is read off the bits that the value sets. -/

namespace Sys2Proof.Machine

open Sys2Proof

/-! ### Bits of a written value -/

/-- A command's row writes its own bit beside those of the value. -/
theorem bitAt_lor_two_pow (v i j : Nat) : bitAt (Nat.lor v (2 ^ i)) j = (bitAt v j || decide (i = j)) := by
  rw [bitAt_eq_testBit, bitAt_eq_testBit, show Nat.lor v (2 ^ i) = v ||| 2 ^ i from rfl, Nat.testBit_lor, Nat.testBit_two_pow]

section Staging
variable {s : State} {page : Nat}

/-- The row of a command bit: a write of PG_STAGE with that bit. -/
theorem exec_pgStage (hpage : page < 2048) {v : Nat} (hv : v < 2 ^ 32) (hblock : (blockOf page).isSome = true)
    (hreach : s.pfPage page = true) :
    exec (.pgStageCommit page v) s = .next ((s.drainBuf 0).writeStage page (Nat.lor v (2 ^ 0))) ∧
    exec (.pgStageArm page v) s = .next ((s.drainBuf 0).writeStage page (Nat.lor v (2 ^ 1))) ∧
    exec (.pgStageDisarm page v) s = .next ((s.drainBuf 0).writeStage page (Nat.lor v (2 ^ 2))) ∧
    exec (.pgStageDiscard page v) s = .next ((s.drainBuf 0).writeStage page (Nat.lor v (2 ^ 3))) := by
  have hunit : (okPage page && okValue v) = true := by
    simpa [okPage, okValue] using ⟨hpage, hv⟩
  refine ⟨?_, ?_, ?_, ?_⟩
  all_goals
    refine (onUnit_of hunit _).trans ?_
    rw [if_pos hblock, State.pf_of_reach hreach]
    rfl

/-- The page of another tenant's channel is refused (R290). -/
theorem State.writeStage_foreign (h : s.foreignChan page = true) (w : Nat) :
    s.writeStage page w = s.chanRefused (page - 0x80) := if_pos h

/-- One command bit set alone. -/
theorem State.writeStage_alone (h : s.foreignChan page = false) {v i : Nat} (hi : i < 4)
    (halone : ∀ j < 4, j ≠ i → bitAt v j = false) :
    s.writeStage page (Nat.lor v (2 ^ i)) =
      if i = 0 then s.stageCommit page else if i = 1 then s.stageArm page else if i = 2 then s.stageDisarm page
      else s.stageDiscard page := by
  have hbit : ∀ j < 4, bitAt (Nat.lor v (2 ^ i)) j = decide (i = j) := by
    intro j hj
    rw [bitAt_lor_two_pow]
    by_cases e : i = j
    · simp [e]
    · simp [e, halone j hj (Ne.symm e)]
  have hcount : setCount (Nat.lor v (2 ^ i)) [0, 1, 2, 3] = 1 := by
    simp only [setCount, List.filter, hbit 0 (by decide), hbit 1 (by decide), hbit 2 (by decide), hbit 3 (by decide)]
    interval_cases i <;> rfl
  simp only [State.writeStage, h, hcount, hbit 0 (by decide), hbit 1 (by decide), hbit 2 (by decide), hbit 3 (by decide)]
  interval_cases i <;> simp

theorem State.writeStage_commit (h : s.foreignChan page = false) {v : Nat} (ha : ∀ j < 4, j ≠ 0 → bitAt v j = false) :
    s.writeStage page (Nat.lor v (2 ^ 0)) = s.stageCommit page := (State.writeStage_alone h (by decide) ha).trans (by simp)

theorem State.writeStage_arm (h : s.foreignChan page = false) {v : Nat} (ha : ∀ j < 4, j ≠ 1 → bitAt v j = false) :
    s.writeStage page (Nat.lor v (2 ^ 1)) = s.stageArm page := (State.writeStage_alone h (by decide) ha).trans (by simp)

theorem State.writeStage_disarm (h : s.foreignChan page = false) {v : Nat} (ha : ∀ j < 4, j ≠ 2 → bitAt v j = false) :
    s.writeStage page (Nat.lor v (2 ^ 2)) = s.stageDisarm page := (State.writeStage_alone h (by decide) ha).trans (by simp)

theorem State.writeStage_discard (h : s.foreignChan page = false) {v : Nat} (ha : ∀ j < 4, j ≠ 3 → bitAt v j = false) :
    s.writeStage page (Nat.lor v (2 ^ 3)) = s.stageDiscard page := (State.writeStage_alone h (by decide) ha).trans (by simp)

/-- Two command bits at once (R385). -/
theorem State.writeStage_two (h : s.foreignChan page = false) {v i j : Nat} (hi : i < 4) (hj : j < 4) (hne : i ≠ j)
    (hset : bitAt v j = true) : s.writeStage page (Nat.lor v (2 ^ i)) = s.cmdRefused page := by
  have hbit : ∀ m, bitAt (Nat.lor v (2 ^ i)) m = (bitAt v m || decide (i = m)) := bitAt_lor_two_pow v i
  have hcount : 2 ≤ setCount (Nat.lor v (2 ^ i)) [0, 1, 2, 3] := by
    have hsub : [i, j].Subperm ([0, 1, 2, 3].filter (bitAt (Nat.lor v (2 ^ i)))) := by
      refine List.Nodup.subperm (by simpa using hne) fun m hm => ?_
      rcases List.mem_pair.mp hm with rfl | rfl
      · exact List.mem_filter.mpr ⟨by simp; omega, (hbit _).trans (by simp)⟩
      · exact List.mem_filter.mpr ⟨by simp; omega, (hbit _).trans (by simp [hset])⟩
    simpa [setCount] using hsub.length_le
  rw [State.writeStage, if_neg (by simp [h]), if_pos hcount]

/-- A page whose group or arm stands in the way is refused with STAGE_BUSY (R19, R21). -/
theorem State.stageBusy (s : State) (page : Nat) :
    (s.pgErr page 0).bit (Reg.PG_ERR page) 0 = true ∧ OnlyRegs [Reg.PG_ERR page] s (s.pgErr page 0) :=
  ⟨s.bit_pgErr_same page (by decide), (OnlyRegs.refl _ s).pgErr (by simp) 0⟩

theorem State.stageCommit_busy (h : s.pageArmed page = true ∨ s.groupOf page ≠ none) :
    s.stageCommit page = s.pgErr page 0 := if_pos (h.imp_right Option.isSome_iff_ne_none.mpr)

theorem State.stageCommit_free (h : s.pageArmed page = false) (hg : s.groupOf page = none) :
    s.stageCommit page = s.setPage page { s.page page with armed := .now } := if_neg (by simp [h, hg])

theorem State.stageArm_busy (h : s.pageArmed page = true ∨ s.groupOf page ≠ none) : s.stageArm page = s.pgErr page 0 :=
  if_pos (h.imp_right Option.isSome_iff_ne_none.mpr)

theorem State.stageArm_free (h : s.pageArmed page = false) (hg : s.groupOf page = none) :
    s.stageArm page = if s.ahead (s.commitTime page) armLead then
      s.setPage page { s.page page with armed := .timed (s.commitTime page) } else s.pgErrCode page 1 Code.rejectLate :=
  if_neg (by simp [h, hg])

theorem State.stageDiscard_free (h : s.pageArmed page = false) : s.stageDiscard page = s.discard page := if_neg (by simp [h])

/-- A discard takes the page's entries out of the table of differences and leaves the others. -/
theorem Tbl.get_filter {α : Type} (d : α) (t : Tbl α) (p : Nat → Bool) (k : Nat) :
    Tbl.get d (t.filter fun e => p e.1) k = if p k then Tbl.get d t k else d := by
  induction t with
  | nil => simp [Tbl.get]
  | cons e r ih =>
    obtain ⟨a, x⟩ := e
    by_cases hp : p a
    · by_cases e : a = k
      · subst e; simp [Tbl.get, hp]
      · simp [Tbl.get, hp, e, ih]
    · by_cases e : a = k
      · subst e; simp [hp, ih]
      · simp [Tbl.get, hp, e, ih]

theorem State.staged_discard (s : State) (page k : Nat) :
    (s.discard page).staged k = if pageOf k = page then s.reg k else s.staged k := by
  have hdiff : Tbl.get 0 (s.discard page).shadow k = if pageOf k != page then Tbl.get 0 s.shadow k else 0 :=
    Tbl.get_filter 0 s.shadow (fun x => pageOf x != page) k
  rw [State.staged, hdiff, show (s.discard page).reg k = s.reg k from rfl]
  by_cases h : pageOf k = page
  · simp [h]
  · simp [h, State.staged]

end Staging

/-- Settles O7: by the bits that the write sets, and by what stands in the page's way. -/
theorem stagingCommands : Obligations.StagingCommands := by
  intro s page v hpage hv hblock hreach d when_ alone busy commands foreign
  obtain ⟨hcommit, harm, hdisarm, hdiscard⟩ := exec_pgStage hpage hv hblock hreach
  have hcmd : ∀ i < 4, ∀ c, commands[i]? = some c → exec c s = .next (d.writeStage page (Nat.lor v (2 ^ i))) := by
    intro i hi c hc
    interval_cases i <;> obtain rfl := Option.some.inj hc <;> assumption
  have hforeign : foreign ↔ d.foreignChan page = true := by
    simp [foreign, State.foreignChan, State.chanOfPf, and_assoc]
  refine ⟨fun h c hc => ?refused, fun h => ?_⟩
  case refused =>
    obtain ⟨i, hi⟩ := List.getElem?_of_mem hc
    have hlt : i < 4 := (List.getElem?_eq_some_iff.mp hi).1
    have hpg : dmaPage (page - 0x80) = page := by have := h.1; simp only [dmaPage]; omega
    refine ⟨_, hcmd i hlt c hi, ?_⟩
    rw [State.writeStage_foreign (hforeign.mp h), State.chanRefused, hpg]
    exact ⟨State.fld_setFld_same _ _ 0 8 _ (by decide), (OnlyRegs.refl _ d).setFld (by simp) ..⟩
  have hmine : d.foreignChan page = false := by
    rw [← Bool.not_eq_true]; exact fun e => h (hforeign.mpr e)
  have hcommit' : alone 0 → exec (.pgStageCommit page v) s = .next (d.stageCommit page) := fun ha =>
    hcommit.trans (congrArg _ (State.writeStage_commit hmine ha))
  have harm' : alone 1 → exec (.pgStageArm page v) s = .next (d.stageArm page) := fun ha =>
    harm.trans (congrArg _ (State.writeStage_arm hmine ha))
  have hdisarm' : alone 2 → exec (.pgStageDisarm page v) s = .next (d.stageDisarm page) := fun ha =>
    hdisarm.trans (congrArg _ (State.writeStage_disarm hmine ha))
  have hdiscard' : alone 3 → exec (.pgStageDiscard page v) s = .next (d.stageDiscard page) := fun ha =>
    hdiscard.trans (congrArg _ (State.writeStage_discard hmine ha))
  refine ⟨fun ha hb => ?_, fun ha hn hg => ?_, fun ha hb => ?_, fun ha hn hg ht => ?_, fun ha hn hg ht => ?_,
    fun ha time ht => ?_, fun ha ht => ?_, fun ha hb => ?_, fun ha hn => ?_, fun i hi j hj hne hset c hc => ?_⟩
  · exact ⟨_, (hcommit' ha).trans (congrArg _ (State.stageCommit_busy hb)), d.stageBusy page⟩
  · exact (hcommit' ha).trans (congrArg _ (State.stageCommit_free hn hg))
  · exact ⟨_, (harm' ha).trans (congrArg _ (State.stageArm_busy hb)), d.stageBusy page⟩
  · exact (harm' ha).trans (congrArg _ ((State.stageArm_free hn hg).trans (if_pos ht)))
  · exact ⟨_, (harm' ha).trans (congrArg _ ((State.stageArm_free hn hg).trans (if_neg (Bool.not_eq_true _ ▸ ht)))),
      d.bit_pgErrCode_same page (by decide) _, d.fld_pgErrCode_same page 1 _,
      (OnlyRegs.refl _ d).pgErrCode (by simp) (by simp) _ _⟩
  · refine (hdisarm' ha).trans (congrArg _ ?_)
    simp only [State.stageDisarm, ht]
    rfl
  · refine (hdisarm' ha).trans (congrArg _ ?_)
    simp only [State.stageDisarm, ht]
  · exact ⟨_, (hdiscard' ha).trans (congrArg _ (if_pos hb)), d.stageBusy page⟩
  · refine ⟨d.discard page, (hdiscard' ha).trans (congrArg _ (State.stageDiscard_free hn)), fun k hk => ?_, fun k hk => ?_, rfl⟩
    · rw [State.staged_discard, if_pos hk]
    · rw [State.staged_discard, if_neg hk]
  · exact ⟨_, (hcmd i hi c hc).trans (congrArg _ (State.writeStage_two hmine hi hj hne hset)),
      d.bit_pgErrCode_same page (by decide) _, d.fld_pgErrCode_same page 4 _,
      (OnlyRegs.refl _ d).pgErrCode (by simp) (by simp) _ _⟩

end Sys2Proof.Machine

/-! The time base (R25-R35): what one tick and one edge of the reference do to it, and the writes of its registers. -/

namespace Sys2Proof.Machine

open Sys2Proof

/-! ### One tick -/

section Tick
variable {s t : State}

/-- Agreement outside the fields of an advance is agreement in every field that they do not name. -/
theorem State.eq_of_wipe_advanced (e : t.wipe advanced = s.wipe advanced) :
    t = { s with out := t.out, regs := t.regs, shadow := t.shadow, tb := t.tb, fns := t.fns, link := t.link, srcs := t.srcs,
                 vecs := t.vecs } := by
  cases t
  cases s
  simpa [State.wipe, advanced, Nat.testBit] using e

/-- The whole crumb that the accumulator gives up (R33). -/
theorem State.trimStep_eq (s : State) (n : Nat) :
    let acc := s.tb.trimAcc + n * s.trim
    let trim : Int := if 2 ^ 40 ≤ acc then 1 else if acc ≤ -2 ^ 40 then -1 else 0
    s.trimStep n = (acc - trim * 2 ^ 40, trim) := by
  simp only [State.trimStep]
  split
  · rw [one_mul]
  split
  · rw [neg_one_mul, sub_neg_eq_add]
  · rw [zero_mul, sub_zero]

theorem clampCrumb_range (d : Int) : -1 ≤ clampCrumb d ∧ clampCrumb d ≤ 1 := by
  rw [clampCrumb]
  split
  · decide
  split <;> decide

theorem State.tickCrumbs_range (s : State) : 15 ≤ s.tickCrumbs ∧ s.tickCrumbs ≤ 17 := by
  obtain ⟨hlo, hhi⟩ := clampCrumb_range s.owed
  rw [State.tickCrumbs]
  omega

/-- The tick of a running and exact time base (R25, R28, R33, R34). -/
theorem State.tbTick_ticked (s : State) (hrun : s.tb.running = true) (hexact : s.coarse = false) (hdoze : s.mode ≠ Mode.doze)
    (hoff : s.mode ≠ Mode.off) : ∃ u : State, s.tbTick = u.tickEngines.tickPorts.settleCuffs ∧ u.tick = s.tick + 1 ∧
      u.tb = { s.tb with
        now := (s.tb.now + s.tickCrumbs) % s.circle
        epoch := if s.tb.now + s.tickCrumbs < s.circle then s.tb.epoch else (s.tb.epoch + 1) % 2 ^ 20
        trimAcc := (s.trimStep 16).1, carry := s.owed - clampCrumb s.owed, slewTicks := u.tb.slewTicks } ∧
      u.stepRem = s.stepRem - s.slewStep ∧
      u = { s.settleLegs with out := u.out, tick := u.tick, regs := u.regs, shadow := u.shadow, tb := u.tb, fns := u.fns, link := u.link,
                              srcs := u.srcs, vecs := u.vecs } := by
  refine ⟨s.tickedBase, s.tbTick_eq hrun hexact hdoze hoff, s.tickedBase_tick, ?_, s.tickedBase_stepRem, ?_⟩
  · rw [s.tickedBase_tb]
    rfl
  · refine (State.eq_of_wipe_advanced s.tickedBase_frame).trans ?_
    rw [s.tickedBase_tick]
    rfl

/-- An edge of the reference advances a coarse time base by 960 crumbs and the trim's (R41). -/
theorem State.coarseEdge_advances (s : State) :
    (-2 ^ 40 < s.tb.trimAcc + 960 * s.trim ∧ s.tb.trimAcc + 960 * s.trim < 2 ^ 40 → s.coarseEdge.tb.now = (s.tb.now + 960) % s.circle ∧
      s.coarseEdge.tb.trimAcc = s.tb.trimAcc + 960 * s.trim) ∧ s.coarseEdge.tb.slewTicks = s.tb.slewTicks ∧
      s.coarseEdge.stepRem = s.stepRem ∧ s.coarseEdge.wipe advanced = s.wipe advanced := by
  have hframe : s.coarseEdge.wipe advanced = s.wipe advanced := by
    rw [State.coarseEdge, State.advance_advanced]
    rfl
  have hrem : s.coarseEdge.stepRem = s.stepRem := by
    rw [State.coarseEdge, State.advance_stepRem]
    rfl
  refine ⟨fun ⟨hlo, hhi⟩ => ?_, ?_, hrem, hframe⟩
  · have htrim : s.trimStep 960 = (s.tb.trimAcc + 960 * s.trim, 0) := by
      refine (s.trimStep_eq 960).trans ?_
      simp only [Nat.cast_ofNat]
      rw [if_neg (by omega), if_neg (by omega), zero_mul, sub_zero]
    rw [State.coarseEdge, State.advance_tb, htrim]
    exact ⟨rfl, rfl⟩
  · rw [State.coarseEdge, State.advance_tb]

end Tick

/-! ### Commands of TB_CTRL -/

section Commands
variable (s : State) {v i : Nat}

/-- A split register reads back what fits in it. -/
theorem State.pair_setPair_mod {l h : Nat} (hne : l ≠ h) (v : Nat) : (s.setPair l h v).pair l h = v % 2 ^ 64 := by
  have hl : (s.setPair l h v).regN l = v % 2 ^ 32 % 2 ^ 32 := (State.regN_setN_other _ hne _).trans (s.regN_setN_same ..)
  have hh : (s.setPair l h v).regN h = v / 2 ^ 32 % 2 ^ 32 := State.regN_setN_same ..
  rw [State.pair, hl, hh]
  omega

theorem bits_lor_two_pow (v : Nat) {i : Nat} (hi : 2 ≤ i) : bits (Nat.lor v (2 ^ i)) 0 2 = v % 4 := by
  have hlow : 2 ^ i % 2 ^ 2 = 0 := Nat.mod_eq_zero_of_dvd (Nat.pow_dvd_pow 2 hi)
  have hor : Nat.lor v (2 ^ i) % 2 ^ 2 = v % 2 ^ 2 := by
    rw [show Nat.lor v (2 ^ i) = v ||| 2 ^ i from rfl, Nat.or_mod_two_pow, hlow, Nat.or_zero]
  simpa [bits] using hor

/-- TB_CTRL takes its new DISC. -/
def State.disc (s : State) (v : Nat) : State := s.setFld Reg.TB_CTRL 0 2 (v % 4)

/-- A write of TB_CTRL with one command bit. -/
theorem State.writeTbCtrl_of_bits {w : Nat} (h0 : bits w 0 2 = v % 4) (h2 : bitAt w 2 = decide (i = 2)) (h3 : bitAt w 3 = decide (i = 3))
    (h4 : bitAt w 4 = decide (i = 4)) : (i = 2 → s.writeTbCtrl w = (s.disc v).tbSnap) ∧ (i = 3 → s.writeTbCtrl w = (s.disc v).tbLoad) ∧
      (i = 4 → s.writeTbCtrl w = (s.disc v).tbValidate) := by
  refine ⟨?_, ?_, ?_⟩ <;> (rintro rfl; simp only [State.writeTbCtrl, h0, h2, h3, h4]; simp [State.disc])

theorem State.writeTbCtrl_of_only {v i : Nat} (hi : 2 ≤ i) (hv : ∀ j, 2 ≤ j → j < 5 → j ≠ i → bitAt v j = false) :
    (i = 2 → s.writeTbCtrl (Nat.lor v (2 ^ i)) = (s.disc v).tbSnap) ∧ (i = 3 → s.writeTbCtrl (Nat.lor v (2 ^ i)) = (s.disc v).tbLoad) ∧
      (i = 4 → s.writeTbCtrl (Nat.lor v (2 ^ i)) = (s.disc v).tbValidate) := by
  have hbit : ∀ j, 2 ≤ j → j < 5 → bitAt (Nat.lor v (2 ^ i)) j = decide (i = j) := by
    intro j h2 hj
    rw [bitAt_lor_two_pow]
    by_cases hji : i = j
    · simp [hji]
    · rw [hv j h2 hj (Ne.symm hji)]
      simp
  exact s.writeTbCtrl_of_bits (bits_lor_two_pow v hi) (hbit 2 (by decide) (by decide)) (hbit 3 (by decide) (by decide))
    (hbit 4 (by decide) (by decide))

theorem State.disc_only (v : Nat) {ks : List Nat} (hk : Reg.TB_CTRL ∈ ks) : OnlyRegs ks s (s.disc v) := (OnlyRegs.refl ks s).setFld hk ..

theorem State.fld_disc (v : Nat) : (s.disc v).fld Reg.TB_CTRL 0 2 = v % 4 :=
  (s.fld_setFld_same _ 0 2 _ (by decide)).trans (Nat.mod_mod_of_dvd _ (by decide))

theorem State.reg_disc (v : Nat) {k : Nat} (h : k ≠ Reg.TB_CTRL) : (s.disc v).reg k = s.reg k := s.reg_setN_other h _

/-- SNAP (R31). -/
theorem State.tbSnap_reads : s.tbSnap.pair Reg.TB_SNAP_L Reg.TB_SNAP_H = s.tb.now % 2 ^ 64 ∧
    s.tbSnap.regN Reg.TB_SNAP_EPOCH = s.tb.epoch % 2 ^ 32 ∧ s.tbSnap.fld Reg.TB_CTRL 0 2 = s.fld Reg.TB_CTRL 0 2 ∧
    OnlyRegs [Reg.TB_CTRL, Reg.TB_SNAP_L, Reg.TB_SNAP_H, Reg.TB_SNAP_EPOCH] s s.tbSnap := by
  refine ⟨?_, State.regN_setN_same .., ?_, ((OnlyRegs.refl _ s).setPair (by simp) (by simp) _).setN (by simp) _⟩
  · exact (State.pair_of_reg (State.reg_setN_other _ (by decide) _) (State.reg_setN_other _ (by decide) _)).trans
      (s.pair_setPair_mod (by decide) _)
  · exact State.fld_of_reg ((State.reg_setN_other _ (by decide) _).trans (s.reg_setPair_other (by decide) (by decide) _)) 0 2

/-- LOAD (R32, R35). -/
theorem State.tbLoad_eq : s.tbLoad = if s.hostLocked then s.pgErr 3 18
    else if (s.mode ≠ Mode.provision ∧ s.tbValid) ∨ s.circle ≤ s.pair Reg.TB_LOAD_L Reg.TB_LOAD_H then s.pgErrCode 3 16 Code.rejectClass
    else { s.setN Reg.TB_STEP_REM 0 with tb := { s.tb with now := s.pair Reg.TB_LOAD_L Reg.TB_LOAD_H, slewTicks := 0 } } := rfl

/-- The sources that a change of VALID raises (R273). -/
theorem timeSources_lt : ∀ id ∈ (List.range 512).map (fun n => 24 * n + 20), id < 0x4000 := by
  intro id hid
  obtain ⟨n, hn, rfl⟩ := List.mem_map.mp hid
  have := List.mem_range.mp hn
  omega

theorem State.updTvalid_only {ks : List Nat} (hk : Reg.ENS_STATUS ∈ ks) : OnlyRegsAndEvents ks s s.updTvalid := by
  simp only [State.updTvalid]
  split
  · exact .refl ks s
  · exact ((OnlyRegsAndEvents.refl ks s).setBit hk 3 _).raise (by decide)

theorem State.tbValid_updTvalid : s.updTvalid.tbValid = s.tbValid := by
  have honly := s.updTvalid_only (ks := [Reg.ENS_STATUS]) (by simp)
  exact State.bit_of_reg (honly.2 _ (by decide) (by decide)) 0

/-- VALID takes its value, with the events of a change (R35, R273). -/
theorem State.setValid_only {ks : List Nat} (hstatus : Reg.TB_STATUS ∈ ks) (hens : Reg.ENS_STATUS ∈ ks) (b : Bool) :
    (s.setValid b).tbValid = b ∧ OnlyRegsAndEvents ks s (s.setValid b) := by
  simp only [State.setValid]
  split
  · next h => exact ⟨h, .refl ks s⟩
  · have hraise := ((OnlyRegsAndEvents.refl ks s).setBit hstatus 0 b).raiseAll timeSources_lt
    refine ⟨?_, hraise.trans (State.updTvalid_only _ hens)⟩
    rw [State.tbValid_updTvalid]
    exact (State.bit_of_reg (State.raiseAll_reg _ timeSources_lt (by decide)) 0).trans (s.bit_setBit_same _ 0 b (by decide))

/-- The circle of a new TB_RELOAD (R26). -/
theorem State.circle_setReload {n : Nat} (hn : n < 2 ^ 64) : (s.setPair Reg.TB_RELOAD_L Reg.TB_RELOAD_H n).circle = n + 1 :=
  congrArg (· + 1) (s.pair_setPair_same (by decide) hn)

variable {s}

/-- The writes of the page that can be reached act on the drained state (R32-R34, R385). -/
theorem exec_tbCtrl (hreach : s.pfPage 3 = true) (v : Nat) :
    exec (.tbCtrlSnap v) s = .next ((s.drainBuf 0).writeTbCtrl (Nat.lor v (2 ^ 2))) ∧
      exec (.tbCtrlLoad v) s = .next ((s.drainBuf 0).writeTbCtrl (Nat.lor v (2 ^ 3))) ∧
      exec (.tbCtrlValidate v) s = .next ((s.drainBuf 0).writeTbCtrl (Nat.lor v (2 ^ 4))) ∧
      exec (.tbStepWrite v) s = .next ((s.drainBuf 0).writeStep (v % 2 ^ 32)) ∧
      ∀ view < 4, exec (.tbReloadWrite view v) s = .next ((s.drainBuf 0).writeReload view v) ∧
        exec (.tbTrimWrite view v) s = .next ((s.drainBuf 0).writeTrim view v) := by
  have hwrite : ∀ (off w : Nat) (f : State → State), s.pf 3 off w f = f (s.drainBuf 0) := fun off w f => State.pf_of_reach hreach off w f
  refine ⟨congrArg _ (hwrite _ _ _), congrArg _ (hwrite _ _ _), congrArg _ (hwrite _ _ _), congrArg _ (hwrite _ _ _), fun view hview => ?_⟩
  exact ⟨(onUnit_of (decide_eq_true hview) _).trans (congrArg _ (hwrite _ _ _)),
    (onUnit_of (decide_eq_true hview) _).trans (congrArg _ (hwrite _ _ _))⟩

end Commands

/-- Settles O10: the tick by its frame, each write by its branches. -/
theorem timeBaseTicksAndWrites : Obligations.TimeBaseTicksAndWrites := by
  refine ⟨?_, ?_⟩
  · intro s m acc trim sgn slew sum d n ticked plain
    have htrim : s.trimStep 16 = (acc - trim * 2 ^ 40, trim) := s.trimStep_eq 16
    have howed : s.owed = sum := by rw [State.owed, htrim]; rfl
    have hcrumbs : s.tickCrumbs = n := by rw [State.tickCrumbs, howed]; rfl
    have hticked : ∀ c, exec c s = .next s.tbTick → plain → ticked c := by
      intro c hc hplain
      obtain ⟨u, htick, hclock, htb, hrem, hframe⟩ := s.tbTick_ticked hplain.1 hplain.2.1 hplain.2.2.1 hplain.2.2.2.1
      refine ⟨u, hc.trans (congrArg _ htick), hclock, htb.trans ?_, hrem, hframe⟩
      rw [htrim, howed, hcrumbs]
      rfl
    have hticking : plain → s.ticking = true := fun h => by simp [State.ticking, h.1, h.2.1]
    refine ⟨hcrumbs ▸ s.tickCrumbs_range, fun hplain h => hticked _ ?_ hplain, fun hplain h => hticked _ ?_ hplain,
      fun hplain h => hticked _ ?_ hplain, fun hcoarse href hrun _ => ?_⟩
    · exact congrArg Host.Outcome.next (if_pos ⟨hticking hplain, by rw [hcrumbs]; exact h⟩)
    · exact congrArg Host.Outcome.next (if_pos ⟨hticking hplain, by rw [htrim]; exact h⟩)
    · exact congrArg Host.Outcome.next (if_pos ⟨hticking hplain, h⟩)
    · obtain ⟨hnow, hslew, hrem, hframe⟩ := s.coarseEdge_advances
      exact ⟨s.coarseEdge, congrArg Host.Outcome.next (if_pos ⟨hcoarse, href, hrun⟩), hnow, hslew, hrem, State.eq_of_wipe_advanced hframe⟩
  · intro s v hv hreach d err ctrl load locked only refuse step
    have hsnap := fun h => (d.writeTbCtrl_of_only (v := v) (i := 2) (by decide) h).1 rfl
    have hload := fun h => (d.writeTbCtrl_of_only (v := v) (i := 3) (by decide) h).2.1 rfl
    have hvalid := fun h => (d.writeTbCtrl_of_only (v := v) (i := 4) (by decide) h).2.2 rfl
    have hexec := exec_tbCtrl hreach v
    rw [show s.drainBuf 0 = d from rfl] at hexec
    clear_value d
    obtain ⟨hexSnap, hexLoad, hexValid, hexStep, hexView⟩ := hexec
    have hdisc : (d.disc v).hostLocked = decide (v % 4 ≠ 0) := by rw [State.hostLocked, State.fld_disc]
    have hpair : (d.disc v).pair Reg.TB_LOAD_L Reg.TB_LOAD_H = load :=
      State.pair_of_reg (d.reg_disc v (by decide)) (d.reg_disc v (by decide))
    have hcircle : (d.disc v).circle = d.circle :=
      congrArg (· + 1) (State.pair_of_reg (d.reg_disc v (by decide)) (d.reg_disc v (by decide)))
    have hvalidBit : (d.disc v).tbValid = d.tbValid := State.bit_of_reg (d.reg_disc v (by decide)) 0
    have hlow : v % 2 ^ 32 = v := Nat.mod_eq_of_lt hv
    have hrefuse : ∀ (c : Instr) (u : State) (b : Nat) (ks : List Nat), exec c s = .next (u.pgErr 3 b) → b < 32 → u.tb = d.tb →
        OnlyRegs (err :: ks) d u → refuse c b ks := fun c u b ks hexec hb htb honly =>
      ⟨_, hexec, u.bit_pgErr_same 3 hb, htb, honly.pgErr (by simp [err]) b⟩
    have hlockedBit : locked → d.hostLocked = true := fun h => decide_eq_true h
    have hopen : ¬locked → d.hostLocked = false := fun h => decide_eq_false h
    have hview : ∀ k view, viewWrite view (d.regN k) v = (viewed view (d.reg k) (BitVec.ofNat 32 v)).toNat := fun k view =>
      viewWrite_regN d view k v
    refine ⟨fun honly => ?_, fun honly hv4 => ?_, fun honly hv4 hbad => ⟨?_, ?_⟩, fun honly hv4 hmay hfits => ?_, fun honly => ?_,
      fun view hlt hrel => ?_, ?_, fun view hlt => ⟨fun hl => ?_, fun hl => ?_⟩, fun hl => ?_, fun hl hout => ?_,
      fun hl hlo hhi => ?_⟩
    · obtain ⟨h1, h2, h3, h4⟩ := (d.disc v).tbSnap_reads
      refine ⟨_, hexSnap.trans (congrArg Host.Outcome.next (hsnap honly)), h1, h2, h3.trans (d.fld_disc v), ?_⟩
      refine ⟨by rw [h4.1]; rfl, fun k hk => (h4.2 k hk).trans (d.reg_disc v (by rintro rfl; exact hk (by simp [ctrl])))⟩
    · refine hrefuse _ (d.disc v) 18 _ (hexLoad.trans (congrArg Host.Outcome.next ((hload honly).trans ?_))) (by decide) rfl (d.disc_only v (by simp [ctrl]))
      exact if_pos (by rw [hdisc]; simpa using hv4)
    · have hcode : (d.disc v).tbLoad = (d.disc v).pgErrCode 3 16 Code.rejectClass := by
        rw [State.tbLoad]
        exact (if_neg (by rw [hdisc]; simpa using hv4)).trans (if_pos (by rw [hpair, hcircle, hvalidBit]; exact hbad))
      exact ⟨_, hexLoad.trans (congrArg Host.Outcome.next ((hload honly).trans hcode)), State.bit_pgErrCode_same _ 3 (by decide) _,
        (State.pgErrCode_tb ..).trans (State.setFld_tb ..),
        (d.disc_only v (by simp [ctrl])).pgErrCode (by simp [err]) (by simp) 16 _⟩
    · have hcode : (d.disc v).tbLoad = (d.disc v).pgErrCode 3 16 Code.rejectClass := by
        rw [State.tbLoad]
        exact (if_neg (by rw [hdisc]; simpa using hv4)).trans (if_pos (by rw [hpair, hcircle, hvalidBit]; exact hbad))
      exact ⟨_, hexLoad.trans (congrArg Host.Outcome.next ((hload honly).trans hcode)), State.fld_pgErrCode_same ..⟩
    · have hdone : (d.disc v).tbLoad =
          { (d.disc v).setN Reg.TB_STEP_REM 0 with tb := { d.tb with now := load, slewTicks := 0 } } := by
        rw [State.tbLoad_eq, if_neg (by rw [hdisc]; simpa using hv4), hpair]
        refine (if_neg ?_).trans rfl
        rw [hcircle, hvalidBit]
        rintro (⟨hmode, hval⟩ | hle)
        · rcases hmay with h | h
          · exact hmode h
          · exact absurd hval (by simp [h])
        · omega
      refine ⟨_, hexLoad.trans (congrArg Host.Outcome.next ((hload honly).trans hdone)), rfl, ?_, ?_, fun k hk hrem => ?_, ?_⟩
      · change signed 32 (((d.disc v).setN Reg.TB_STEP_REM 0).regN Reg.TB_STEP_REM) = 0
        rw [State.regN_setN_same]
        rfl
      · change ((d.disc v).setN Reg.TB_STEP_REM 0).fld ctrl 0 2 = 0
        exact (State.fld_setN_other _ (by decide) ..).trans ((d.fld_disc v).trans hv4)
      · change ((d.disc v).setN Reg.TB_STEP_REM 0).reg k = d.reg k
        exact (State.reg_setN_other _ hrem _).trans (d.reg_disc v hk)
      · have honly : OnlyRegs [ctrl, Reg.TB_STEP_REM] d ((d.disc v).setN Reg.TB_STEP_REM 0) := (d.disc_only v (by simp [ctrl])).setN (by simp) 0
        exact congrArg (fun u : State => { u with tb := { d.tb with now := load, slewTicks := 0 } }) honly.1
    · have hcond : ((d.disc v).pwr.refOk = true ∧ (d.disc v).pwr.locked = true ∧ (d.disc v).bit Reg.TB_STATUS 1 = false) ↔
          (d.pwr.refOk = true ∧ d.pwr.locked = true ∧ d.bit Reg.TB_STATUS 1 = false) := by
        rw [State.bit_of_reg (d.reg_disc v (k := Reg.TB_STATUS) (by decide)) 1]
        rfl
      by_cases hok : d.pwr.refOk = true ∧ d.pwr.locked = true ∧ d.bit Reg.TB_STATUS 1 = false
      · obtain ⟨hset, hframe⟩ := (d.disc v).setValid_only (ks := [Reg.TB_STATUS, Reg.ENS_STATUS]) (by simp) (by simp) true
        obtain ⟨-, hwide⟩ := (d.disc v).setValid_only (ks := [ctrl, Reg.TB_STATUS, Reg.ENS_STATUS]) (by simp) (by simp) true
        have hdone : (d.disc v).tbValidate = (d.disc v).setValid true := if_pos (hcond.mpr hok)
        refine ⟨_, hexValid.trans (congrArg Host.Outcome.next ((hvalid honly).trans hdone)), ?_, fun _ => ⟨hset, ?_⟩, fun h => absurd hok h⟩
        · exact (State.fld_of_reg (hframe.2 _ (by decide) (by decide)) 0 2).trans (d.fld_disc v)
        · exact (d.disc_only v (by simp [ctrl])).withEvents.trans hwide
      · have hdone : (d.disc v).tbValidate = d.disc v := if_neg (fun h => hok (hcond.mp h))
        exact ⟨_, hexValid.trans (congrArg Host.Outcome.next ((hvalid honly).trans hdone)), d.fld_disc v, fun h => absurd h hok,
          fun _ => d.disc_only v (by simp [ctrl])⟩
    · intro h n
      have hn : n < 2 ^ 64 := by
        have : h < 2 ^ 28 := Nat.mod_lt _ (by decide)
        simp only [n]
        omega
      have hwrite : d.writeReload view v = if d.mode ≠ Mode.provision ∨ n < 2 ^ 40 - 1 ∨ n ≤ d.tb.now then d.pgErr 3 19
          else d.setPair Reg.TB_RELOAD_L Reg.TB_RELOAD_H n := by
        simp only [State.writeReload, hview]
        exact if_neg (by omega)
      obtain ⟨hexReload, -⟩ := hexView view (by omega)
      refine ⟨fun hok => ?_, fun hbad => ?_⟩
      · refine ⟨_, hexReload.trans (congrArg Host.Outcome.next (hwrite.trans (if_neg ?_))), d.circle_setReload hn,
          (OnlyRegs.refl _ d).setPair (by simp) (by simp) n⟩
        obtain ⟨h1, h2, h3⟩ := hok
        rintro (h | h | h)
        · exact h h1
        · omega
        · omega
      · refine hrefuse _ d 19 _ (hexReload.trans (congrArg Host.Outcome.next (hwrite.trans (if_pos ?_)))) (by decide) rfl (.refl _ d)
        by_contra hnot
        refine hbad ⟨?_, ?_, ?_⟩
        · by_contra h
          exact hnot (Or.inl h)
        · omega
        · omega
    · refine (hexView 3 (by decide)).1.trans (congrArg Host.Outcome.next ?_)
      rw [State.writeReload]
      exact if_pos (by decide)
    · exact hrefuse _ d 18 _ ((hexView view hlt).2.trans (congrArg Host.Outcome.next (if_pos (hlockedBit hl)))) (by decide) rfl (.refl _ d)
    · refine ⟨_, (hexView view hlt).2.trans (congrArg Host.Outcome.next (if_neg (by simp [hopen hl]))), ?_, (OnlyRegs.refl _ d).setN (by simp) _⟩
      rw [State.regN_setN_same, hview]
      omega
    · exact hrefuse _ d 18 _ (hexStep.trans (congrArg Host.Outcome.next (if_pos (hlockedBit hl)))) (by decide) rfl (.refl _ d)
    · refine hrefuse _ d 17 _ (hexStep.trans (congrArg Host.Outcome.next ((if_neg (by simp [hopen hl])).trans (if_pos ?_)))) (by decide) rfl (.refl _ d)
      rw [hlow]
      exact hout
    · have hdone : d.writeStep (v % 2 ^ 32) = if d.stepRem = 0 then { d.setStepRem step with tb := { d.tb with slewTicks := 0 } }
          else if step = 0 then (d.setStepRem step).raise 0x3400 else d.setStepRem step := by
        rw [hlow]
        refine (if_neg (by simp [hopen hl])).trans (if_neg ?_)
        simp only [step] at hlo hhi
        omega
      have honly : OnlyRegsAndEvents [Reg.TB_STEP_REM] d (d.setStepRem step) := ((OnlyRegs.refl _ d).setN (by simp) _).withEvents
      have hset := d.stepRem_setStepRem hlo hhi
      refine ⟨_, hexStep.trans (congrArg _ hdone), ?_⟩
      by_cases hzero : d.stepRem = 0
      · rw [if_pos hzero]
        exact ⟨hset, fun _ => rfl, fun h => absurd hzero h, fun h => absurd hzero h, rfl,
          ((OnlyRegs.refl [Reg.TB_STEP_REM] { d with tb := { d.tb with slewTicks := 0 } }).setN (by simp) _).withEvents⟩
      · rw [if_neg hzero]
        split
        · next hstep =>
          have htb : ((d.setStepRem step).raise 0x3400).tb = d.tb := State.raise_tb ..
          have hraised := honly.raise (id := 0x3400) (by decide)
          rw [htb]
          exact ⟨(State.stepRem_raise _ (by decide)).trans hset, fun h => absurd h hzero, fun _ => rfl, fun _ _ =>
            State.srcPend_raise _ _, State.raise_mem .., hraised⟩
        · next hstep =>
          exact ⟨hset, fun h => absurd h hzero, fun _ => rfl, fun _ h => absurd h hstep, rfl, honly⟩

end Sys2Proof.Machine

/-! O20. The delivery into a target's FIFO, MARK and IRQ. -/

namespace Sys2Proof.Machine

open Sys2Proof

section
variable (s : State) (ttype target : Nat)

theorem State.cuff_congr {s t : State} (h : t.cuffs = s.cuffs) (c : Nat) : t.cuff c = s.cuff c := by rw [State.cuff, State.cuff, h]

theorem State.fifo_congr {s t : State} (h : t.fifos = s.fifos) (k : Nat) : t.fifo k = s.fifo k := by rw [State.fifo, State.fifo, h]

/-! ### What enters a FIFO -/

/-- A cuff or pair is served by the FIFO of one cuff. -/
theorem State.targetFifo_cuff (h : ttype = 1 ∨ ttype = 2) : s.targetFifo ttype target = (s.cuff (serveCuff ttype target)).fifo := if_pos h

/-- An engine, a port or a context has a FIFO of its own. -/
theorem State.targetFifo_own (h : ¬(ttype = 1 ∨ ttype = 2)) : s.targetFifo ttype target = s.fifo (fifoKey ttype target) := if_neg h

theorem State.setTargetFifo_cuff (h : ttype = 1 ∨ ttype = 2) (l : List Flight) : s.setTargetFifo ttype target l =
    s.setCuff (serveCuff ttype target) { s.cuff (serveCuff ttype target) with fifo := l } := if_pos h

theorem State.setTargetFifo_own (h : ¬(ttype = 1 ∨ ttype = 2)) (l : List Flight) :
    s.setTargetFifo ttype target l = s.setFifo (fifoKey ttype target) l := if_neg h

theorem State.targetFifo_setTargetFifo (l : List Flight) : (s.setTargetFifo ttype target l).targetFifo ttype target = l := by
  by_cases h : ttype = 1 ∨ ttype = 2
  · rw [State.setTargetFifo_cuff _ _ _ h, State.targetFifo_cuff _ _ _ h, State.cuff_setCuff, if_pos rfl]
  · rw [State.setTargetFifo_own _ _ _ h, State.targetFifo_own _ _ _ h, State.fifo_setFifo, if_pos rfl]

theorem State.targetFifo_pushFifo (f : Flight) : (s.pushFifo ttype target f).targetFifo ttype target =
    s.targetFifo ttype target ++ [{ f with arrived := s.tb.now, head := none, judged := false }] :=
  s.targetFifo_setTargetFifo ttype target _

theorem State.pushFifo_frame (f : Flight) :
    s.pushFifo ttype target f = { s with cuffs := (s.pushFifo ttype target f).cuffs, fifos := (s.pushFifo ttype target f).fifos } := by
  unfold State.pushFifo
  by_cases h : ttype = 1 ∨ ttype = 2
  · rw [State.setTargetFifo_cuff _ _ _ h]; rfl
  · rw [State.setTargetFifo_own _ _ _ h]; rfl

theorem State.cuff_pushFifo_other (f : Flight) {c : Nat} (hc : c ≠ serveCuff ttype target) :
    (s.pushFifo ttype target f).cuff c = s.cuff c := by
  unfold State.pushFifo
  by_cases h : ttype = 1 ∨ ttype = 2
  · rw [State.setTargetFifo_cuff _ _ _ h, State.cuff_setCuff, if_neg hc]
  · rw [State.setTargetFifo_own _ _ _ h]; rfl

theorem State.fifo_pushFifo_other (f : Flight) {k : Nat} (hk : ttype = 1 ∨ ttype = 2 ∨ k ≠ fifoKey ttype target) :
    (s.pushFifo ttype target f).fifo k = s.fifo k := by
  unfold State.pushFifo
  by_cases h : ttype = 1 ∨ ttype = 2
  · rw [State.setTargetFifo_cuff _ _ _ h]; rfl
  · rw [State.setTargetFifo_own _ _ _ h, State.fifo_setFifo, if_neg (by tauto)]

theorem State.cuffs_pushFifo_own (f : Flight) (h : 3 ≤ ttype) : (s.pushFifo ttype target f).cuffs = s.cuffs := by
  rw [State.pushFifo, State.setTargetFifo_own _ _ _ (by omega)]; rfl

/-! ### The count of deliveries -/

/-- What a change of registers and of the lanes' count leaves. -/
theorem State.withLanes_frame {u : State} (h : u = { s with regs := u.regs }) (x : Lanes) :
    ({ u with lanes := x } : State) = { s with regs := u.regs, lanes := x } := by rw [h]

theorem State.setPair_frame (l h v : Nat) : s.setPair l h v = { s with regs := (s.setPair l h v).regs } := rfl

theorem State.countDisp_frame : ∃ regs, s.countDisp =
    { s with regs := regs, lanes := { s.lanes with onTick := s.tick, sent := s.sentNow + 1 } } :=
  ⟨_, s.withLanes_frame (s.setPair_frame ..) _⟩

theorem State.pair_withLanes (x : Lanes) (l h : Nat) : ({ s with lanes := x } : State).pair l h = s.pair l h := rfl

theorem State.disp_countDisp : s.countDisp.pair Reg.SCH_DISP_L Reg.SCH_DISP_H = (s.pair Reg.SCH_DISP_L Reg.SCH_DISP_H + 1) % 2 ^ 64 := by
  rw [State.countDisp, State.pair_withLanes]
  exact State.pair_setPair_same _ (by decide) (Nat.mod_lt _ (by decide))

theorem State.reg_withLanes (x : Lanes) (k : Nat) : ({ s with lanes := x } : State).reg k = s.reg k := rfl

theorem State.reg_countDisp {k : Nat} (hl : k ≠ Reg.SCH_DISP_L) (hh : k ≠ Reg.SCH_DISP_H) : s.countDisp.reg k = s.reg k := by
  rw [State.countDisp, State.reg_withLanes]
  exact (State.reg_setN_other _ hh _).trans (State.reg_setN_other _ hl _)

/-! ### Delivery -/

theorem State.exec_fifoDelivery (ht : okTtype ttype = true) (hok : okTarget ttype target = true) (parity : Bool) :
    exec (.fifoDelivery ttype target parity) s = .next (if s.service then s.deliverTo ttype target parity else s) :=
  onUnit_of (by rw [ht, hok]; rfl) _

variable {s ttype target} {r : WheelRef}

theorem State.deliverTo_copies (hr : s.chainHead ttype target = some r) (hg : s.isGuarded r.fl = true) (ht : ttype ≠ 5) (parity : Bool) :
    s.deliverTo ttype target parity = (s.passKept ttype target parity).judgeFifo ttype target := by
  simp only [State.deliverTo, hr, hg, ht, ne_eq, not_false_eq_true, and_self, if_true]

theorem State.deliverTo_none (hr : s.chainHead ttype target = none) (parity : Bool) :
    s.deliverTo ttype target parity = (s.passKept ttype target parity).judgeFifo ttype target := by
  simp only [State.deliverTo, hr]

/-- What goes by copies is passed on by the voter. -/
theorem State.deliverTo_voted (h : ∀ r, s.chainHead ttype target = some r → s.isGuarded r.fl = true ∧ ttype ≠ 5) (parity : Bool) :
    s.deliverTo ttype target parity = (s.passKept ttype target parity).judgeFifo ttype target := by
  match hr : s.chainHead ttype target with
  | none => exact State.deliverTo_none hr parity
  | some r => exact State.deliverTo_copies hr (h r hr).1 (h r hr).2 parity

theorem State.deliverTo_late (hr : s.chainHead ttype target = some r) (hv : ¬(s.isGuarded r.fl = true ∧ ttype ≠ 5)) (hsent : 4 ≤ s.sentNow)
    (parity : Bool) : s.deliverTo ttype target parity = s := by
  simp only [State.deliverTo, hr, if_neg hv, if_pos hsent]

theorem State.deliverTo_triple (hr : s.chainHead ttype target = some r) (hg : s.isGuarded r.fl = true) (ht : ttype = 5)
    (hsent : s.sentNow < 4) (parity : Bool) : s.deliverTo ttype target parity = s.deliverTriple r := by
  subst ht
  simp only [State.deliverTo, hr, hg, ne_eq, not_true_eq_false, and_false, if_false, if_true, if_neg (Nat.not_le.mpr hsent)]

theorem State.deliverTo_plain (hr : s.chainHead ttype target = some r) (hg : s.isGuarded r.fl = false) (hsent : s.sentNow < 4)
    (parity : Bool) : s.deliverTo ttype target parity =
      if 8 ≤ (s.targetFifo ttype target).length then s.judgeFifo ttype target
      else (({ s with refs := s.refs.erase r }.pushFifo ttype target
        { r.fl with bad := parity && (decide (ttype = 1) || decide (ttype = 2)) }).countDisp).judgeFifo ttype target := by
  simp only [State.deliverTo, hr, hg, Bool.false_eq_true, false_and, if_false, if_neg (Nat.not_le.mpr hsent)]

theorem State.passKept_stays (h : ∀ k ∈ (s.voter (fifoKey ttype target)).kept, k.passed = true) (parity : Bool) :
    s.passKept ttype target parity = s := by
  have hnone : (s.voter (fifoKey ttype target)).kept.find? (!·.passed) = none :=
    List.find?_eq_none.mpr fun k hk => by simp [h k hk]
  simp only [State.passKept, voterKey, hnone]

/-- The deliveries of the scheduler leave the kept action where it is. -/
theorem State.mayDeliver_iff (f : Flight) : s.mayDeliver f = true ↔ ((∃ q i, f.org = .queue q i) → s.sentNow < 4) := by
  unfold State.mayDeliver
  cases f.org <;> simp

theorem State.passKept_waits {k : Kept} (hk : (s.voter (fifoKey ttype target)).kept.find? (!·.passed) = some k)
    (h : 8 ≤ (s.targetFifo ttype target).length ∨ s.tick < k.since + 2 ∨ s.mayDeliver k.fl = false) (parity : Bool) :
    s.passKept ttype target parity = s := by
  simp only [State.passKept, voterKey, hk, if_pos h]

/-- The state in which a kept action is passed on: the voter remembers it, and no reference to it is left. -/
def State.passing (s : State) (ttype target : Nat) (k : Kept) : State :=
  let v := s.voter (fifoKey ttype target)
  { s.setVoter (fifoKey ttype target) { v with kept := v.kept.map fun x => if x.fl.same k.fl then { x with passed := true } else x } with
    refs := s.refs.filter fun r => !r.fl.same k.fl }

theorem State.passKept_passes {k : Kept} (hk : (s.voter (fifoKey ttype target)).kept.find? (!·.passed) = some k)
    (h : ¬(8 ≤ (s.targetFifo ttype target).length ∨ s.tick < k.since + 2 ∨ s.mayDeliver k.fl = false)) (parity : Bool) :
    s.passKept ttype target parity = ((s.passing ttype target k).pushFifo ttype target { k.fl with bad := parity }).countOrg k.fl := by
  simp only [State.passKept, voterKey, hk, if_neg h, State.passing, State.setVoter_refs]

theorem State.targetFifo_congr {t : State} (hc : t.cuffs = s.cuffs) (hf : t.fifos = s.fifos) :
    t.targetFifo ttype target = s.targetFifo ttype target := by
  simp only [State.targetFifo, State.cuff, State.fifo, hc, hf]

theorem State.targetFifo_countDisp : s.countDisp.targetFifo ttype target = s.targetFifo ttype target := by
  obtain ⟨regs, h⟩ := s.countDisp_frame
  exact State.targetFifo_congr (by rw [h]) (by rw [h])

theorem State.targetFifo_countOrg (f : Flight) : (s.countOrg f).targetFifo ttype target = s.targetFifo ttype target := by
  unfold State.countOrg
  cases f.org
  case queue => exact State.targetFifo_countDisp
  case near => rfl

theorem State.countOrg_refs (f : Flight) : (s.countOrg f).refs = s.refs := by
  unfold State.countOrg
  cases f.org
  case queue =>
    obtain ⟨regs, h⟩ := s.countDisp_frame
    rw [h]
  case near => rfl

theorem State.countOrg_queue {f : Flight} (h : ∃ q i, f.org = .queue q i) : s.countOrg f = s.countDisp := by
  obtain ⟨q, i, h⟩ := h
  simp only [State.countOrg, h]

theorem State.countOrg_near {f : Flight} (h : ¬∃ q i, f.org = .queue q i) : s.countOrg f = s := by
  unfold State.countOrg
  match hf : f.org with
  | .queue q i => exact absurd ⟨q, i, hf⟩ h
  | .near c p => rfl

theorem State.deliverTriple_room {l : List Nat} (hl : s.triple r.fl.target = l) (hne : l ≠ [])
    (hroom : ∀ x ∈ l, (s.fifo (fifoKey 5 x)).length < 8) : s.deliverTriple r =
      (l.foldl (fun (u : State) x => (u.pushFifo 5 x { r.fl with target := x }).judgeFifo 5 x) { s with refs := s.refs.erase r }).countDisp := by
  have hany : l.any (fun c => decide (8 ≤ (s.targetFifo 5 c).length)) = false :=
    List.any_eq_false.mpr fun x hx => by simpa [State.targetFifo] using hroom x hx
  simp only [State.deliverTriple, hl, hne, hany, Bool.false_eq_true, or_self, if_false]

theorem State.deliverTriple_full (h : ∃ x ∈ s.triple r.fl.target, 8 ≤ (s.fifo (fifoKey 5 x)).length) : s.deliverTriple r = s := by
  have hany : (s.triple r.fl.target).any (fun c => decide (8 ≤ (s.targetFifo 5 c).length)) = true :=
    List.any_eq_true.mpr (by simpa [State.targetFifo] using h)
  simp only [State.deliverTriple, hany, or_true, if_true]

end

/-- Settles O20, branch by branch of the delivery. -/
theorem deliveryMarkAndIrq : Obligations.DeliveryMarkAndIrq := by
  unfold Obligations.DeliveryMarkAndIrq
  intro s ttype target f hlo hhi hok
  have htt : okTtype ttype = true := by simp [okTtype]; omega
  have hexec := s.exec_fifoDelivery ttype target htt hok
  have hruns (hserv : s.service = true) (parity : Bool) :
      exec (.fifoDelivery ttype target parity) s = .next (s.deliverTo ttype target parity) := by rw [hexec, if_pos hserv]
  refine ⟨?off, ?late, ?copies, ?plain, ?kept, ?mark, ?irq⟩
  case off => exact fun hserv parity => by rw [hexec, hserv]; rfl
  case late =>
    intro hserv hsent r hr hv parity
    rw [hruns hserv, State.deliverTo_late hr hv hsent]
  case copies =>
    intro hserv r hr ⟨hg, ht⟩ parity
    rw [hruns hserv, State.deliverTo_copies hr hg ht]
  case plain =>
    intro ⟨hserv, hsent⟩ r hr parity
    refine ⟨?_, ?_, ?_, ?_⟩
    · intro hg hroom
      have hle : decide (ttype ≤ 2) = (decide (ttype = 1) || decide (ttype = 2)) := by
        rw [← Bool.decide_or, decide_eq_decide]; omega
      rw [hruns hserv, State.deliverTo_plain hr hg hsent, if_neg (Nat.not_le.mpr hroom), ← hle]
      generalize hv : ({ s with refs := s.refs.erase r } : State).pushFifo ttype target { r.fl with bad := parity && decide (ttype ≤ 2) } = v
      have hfr := State.pushFifo_frame { s with refs := s.refs.erase r } ttype target { r.fl with bad := parity && decide (ttype ≤ 2) }
      rw [hv] at hfr
      obtain ⟨regs, hcd⟩ := v.countDisp_frame
      have hcuffs : v.countDisp.cuffs = v.cuffs := by rw [hcd]
      have hfifos : v.countDisp.fifos = v.fifos := by rw [hcd]
      refine ⟨_, rfl, ?_, ?_, ?_, ?_, ?_, ?_, ?_, ?_⟩
      · rw [hcd, hfr]
      · refine v.disp_countDisp.trans ?_
        rw [hfr]; rfl
      · refine State.targetFifo_countDisp.trans ?_
        rw [← hv]
        exact State.targetFifo_pushFifo _ ttype target _
      · intro c _ hc
        refine (State.cuff_congr hcuffs c).trans ?_
        rw [← hv]
        exact State.cuff_pushFifo_other _ ttype target _ hc
      · intro k hk
        refine (State.fifo_congr hfifos k).trans ?_
        rw [← hv]
        exact State.fifo_pushFifo_other _ ttype target _ (by omega)
      · intro h
        rw [hcuffs, ← hv]
        exact State.cuffs_pushFifo_own _ ttype target _ h
      · intro k hl hh
        refine (v.reg_countDisp hl hh).trans ?_
        rw [hfr]; rfl
      · rw [hcd, hfr]; rfl
    · intro hg hfull
      rw [hruns hserv, State.deliverTo_plain hr hg hsent, if_pos hfull]
    · intro hg ht a b c hl hroom
      rw [hruns hserv, State.deliverTo_triple hr hg ht hsent, State.deliverTriple_room hl (by simp) hroom]
    · intro hg ht hfull
      rw [hruns hserv, State.deliverTo_triple hr hg ht hsent, State.deliverTriple_full hfull]
  case kept =>
    intro hserv hv parity
    have hto := (hruns hserv parity).trans (congrArg _ (State.deliverTo_voted hv parity))
    refine ⟨fun k hk => ⟨?_, ?_⟩, fun hall => by rw [hto, State.passKept_stays hall]⟩
    · intro ⟨hroom, hold, hturn⟩
      have hgo : ¬(8 ≤ (s.targetFifo ttype target).length ∨ s.tick < k.since + 2 ∨ s.mayDeliver k.fl = false) := by
        have hmay : s.mayDeliver k.fl = true := (State.mayDeliver_iff k.fl).mpr hturn
        rintro (h | h | h)
        · exact absurd hroom (Nat.not_lt.mpr h)
        · exact absurd hold (Nat.not_le.mpr h)
        · exact absurd (hmay.symm.trans h) (by decide)
      rw [hto, State.passKept_passes hk hgo]
      have hfr := (s.passing ttype target k).pushFifo_frame ttype target { k.fl with bad := parity }
      have hin := State.targetFifo_pushFifo (s.passing ttype target k) ttype target { k.fl with bad := parity }
      generalize (s.passing ttype target k).pushFifo ttype target { k.fl with bad := parity } = v at hfr hin ⊢
      refine ⟨_, rfl, (State.targetFifo_countOrg _).trans hin, ?_, ?_, ?_⟩
      · intro hq
        rw [State.countOrg_queue hq]
        obtain ⟨regs, hcd⟩ := v.countDisp_frame
        refine ⟨v.disp_countDisp.trans ?_, ?_⟩
        · rw [hfr]; rfl
        · rw [hcd, hfr]; rfl
      · intro hq
        rw [State.countOrg_near hq, hfr]
        exact ⟨rfl, rfl⟩
      · rw [State.countOrg_refs, hfr]
        exact fun r hr => by simpa using (List.mem_filter.mp hr).2
    · intro hstay
      rw [hto, State.passKept_waits hk]
      by_contra hgo
      simp only [not_or, not_le, not_lt, Bool.not_eq_false] at hgo
      exact hstay ⟨hgo.1, hgo.2.1, (State.mayDeliver_iff k.fl).mp hgo.2.2⟩
  case mark =>
    intro hready
    have h : exec (.mark ttype target) s = .next (s.actMark ttype target) := onUnit_of (by rw [htt, hok]; rfl) _
    rw [h]
    simp only [State.actMark, hready, State.markStatus]
  case irq =>
    intro hready
    have h : exec (.irq ttype target) s = .next (s.actIrq ttype target) := onUnit_of (by rw [htt, hok]; rfl) _
    refine ⟨s.raisePriv (s.tenantOf f.org) (f.act.arg % 16), by rw [h]; simp only [State.actIrq, hready],
      State.srcPend_raise .., ?_⟩
    exact State.eq_of_wipe_events (State.raisePriv_wipe0 ..)

end Sys2Proof.Machine

/-! Seams (R97, R98): what a queue's SEAM does at its arrival, what the release of a seam does and what its timeout does. -/

namespace Sys2Proof.Machine

open Host

/-! ### What the reading of an entry leaves -/

/-- An entry that is read leaves what no walk writes (R101, R111). -/
theorem State.readEntry_ok_wipe {s u : State} {q i : Nat} {a : Action} (h : s.readEntry q i = .ok a u) :
    u.wipe 74491912782098 = s.wipe 74491912782098 := by
  unfold State.readEntry State.slabRead at h
  cases hr : s.reach (s.queue q).tenant ((s.queue q).entryAddr i) 0 with
  | bad c v =>
    simp only [hr] at h
    cases h
  | ok p v =>
    simp only [hr] at h
    by_cases hecc : v.eccIn p 16 = true
    · simp only [hecc, if_true] at h
      cases h
    · simp only [hecc, Bool.false_eq_true, if_false] at h
      exact (Access.ok.inj h).2 ▸ State.reach_ok_wipe _ hr

/-- An entry that cannot be read leaves what no walk writes (R101). -/
theorem State.readEntry_bad_wipe {s u : State} {q i c : Nat} (h : s.readEntry q i = .bad c u) :
    u.wipe 74491912782098 = s.wipe 74491912782098 := by
  unfold State.readEntry State.slabRead at h
  cases hr : s.reach (s.queue q).tenant ((s.queue q).entryAddr i) 0 with
  | bad c v =>
    simp only [hr] at h
    exact (Access.bad.inj h).2 ▸ State.reach_bad_wipe _ hr
  | ok p v =>
    simp only [hr] at h
    by_cases hecc : v.eccIn p 16 = true
    · simp only [hecc, if_true] at h
      rw [← (Access.bad.inj h).2, State.dataEcc_wipe _ _ (by decide)]
      exact State.reach_ok_wipe _ hr
    · simp only [hecc, Bool.false_eq_true, if_false] at h
      cases h

/-- An entry that is read leaves every queue (R101). -/
theorem State.queue_of_readEntry {s u : State} {q i : Nat} {a : Action} (h : s.readEntry q i = .ok a u) (q' : Nat) :
    u.queue q' = s.queue q' := by
  rw [State.queue, State.queues_of_wipe (State.readEntry_ok_wipe h) rfl, State.queue]

/-! ### The arrival of a queue -/

/-- What the SEAM of a queue whose entry at HEAD is read does (R97). -/
theorem State.exec_seam {s u : State} {q : Nat} {a : Action} (hq : q < 2 ^ 20) (hserv : s.service = true)
    (hrun : (s.queue q).state = QState.run) (htt : (s.queue q).ttype ≠ 0) (hfill : (s.queue q).filled ≠ 0)
    (hfl : s.inFlight q = []) (hbad : s.descBad q = false) (hread : s.readEntry q (s.queue q).head = .ok a u) :
    exec (.seam q) s = .next (if a.op = 0x0A ∧ u.entryOk q a then u.arrive q a else u) := by
  have hseam : s.seamArrives q = if a.op = 0x0A ∧ u.entryOk q a then u.arrive q a else u := by
    simp only [State.seamArrives, State.onDesc, hserv, hrun, htt, hfill, hfl, hbad, hread]
    simp
  exact (onUnit_of (by simpa [okQueue] using hq) _).trans (congrArg _ hseam)

/-- What a queue accepts of its SEAM, by what the reading of the entry leaves: a timed queue has none (R84, R97). -/
theorem State.entryOk_iff (u : State) (q : Nat) (a : Action) :
    u.entryOk q a = true ↔ u.entryFits a (u.queue q).ttype (u.queue q).target = true ∧ ¬(a.op = 0x0A ∧ (u.queue q).cls = 1) := by
  simp only [State.entryOk, Bool.and_eq_true, Bool.not_eq_true', decide_eq_false_iff_not]

/-- The first arrival opens the seam, where fewer than 4096 are active (R97). -/
theorem State.arrive_first {u : State} {q : Nat} {a : Action} (h0 : (u.seamOf (bits a.arg 0 16)).members = [])
    (hroom : u.seams.length < 4096) :
    u.arrive q a = ((u.setSeam (bits a.arg 0 16) {
        count := bits a.arg 16 11, members := [q], times := [(q, a.time)], latest := a.time,
        expires := if bits a.arg 32 16 = 0 then none else some (u.tick + bits a.arg 32 16 * 16384) }).setQueue q
          { u.queue q with state := QState.seamWait }).setBit Reg.SCH_STATUS 1 false := by
  simp only [State.arrive, h0, State.activeSeams, Nat.not_le.mpr hroom, if_true, if_false]

/-- What the first arrival leaves (R97). -/
theorem State.arrive_first_spec {u : State} {q : Nat} {a : Action} (h0 : (u.seamOf (bits a.arg 0 16)).members = [])
    (hroom : u.seams.length < 4096) :
    (u.arrive q a).seamOf (bits a.arg 0 16) = {
        count := bits a.arg 16 11, members := [q], times := [(q, a.time)], latest := a.time,
        expires := if bits a.arg 32 16 = 0 then none else some (u.tick + bits a.arg 32 16 * 16384) } ∧
    (∀ p, (u.arrive q a).queue p = if p = q then { u.queue q with state := QState.seamWait } else u.queue p) ∧
    u.arrive q a = { u with regs := (u.arrive q a).regs, queues := (u.arrive q a).queues, seams := (u.arrive q a).seams } := by
  rw [State.arrive_first h0 hroom]
  generalize hm : ({ count := bits a.arg 16 11, members := [q], times := [(q, a.time)], latest := a.time,
                     expires := if bits a.arg 32 16 = 0 then none else some (u.tick + bits a.arg 32 16 * 16384) } : Seam) = m
  obtain ⟨regs, hregs⟩ : ∃ regs, ((u.setSeam (bits a.arg 0 16) m).setQueue q { u.queue q with state := QState.seamWait }).setBit
      Reg.SCH_STATUS 1 false = { (u.setSeam (bits a.arg 0 16) m).setQueue q { u.queue q with state := QState.seamWait } with
        regs := regs } := ⟨_, rfl⟩
  rw [hregs]
  exact ⟨Tbl.get_set_same .., fun p => State.queue_setQueue .., rfl⟩

/-- With 4096 seams active a first arrival waits, and SCH_STATUS says so (R98). -/
theorem State.arrive_none {u : State} {q : Nat} {a : Action} (h0 : (u.seamOf (bits a.arg 0 16)).members = [])
    (hfull : 4096 ≤ u.seams.length) : u.arrive q a =
      if u.bit Reg.SCH_STATUS 1 then u else (u.setBit Reg.SCH_STATUS 1 true).raise 0x3412 := by
  simp only [State.arrive, h0, State.activeSeams, hfull, if_true]

/-- A seam that names another number of members stops its queue (R98). -/
theorem State.arrive_otherCount {u : State} {q : Nat} {a : Action} (h0 : (u.seamOf (bits a.arg 0 16)).members ≠ [])
    (hn : (u.seamOf (bits a.arg 0 16)).count ≠ bits a.arg 16 11) : u.arrive q a = u.stopQueue q Code.rejectClass := by
  simp only [State.arrive, h0, hn, if_false, ne_eq, not_false_eq_true, if_true]

/-- A later arrival joins the members (R97). -/
theorem State.arrive_joins {u : State} {q : Nat} {a : Action} (h0 : (u.seamOf (bits a.arg 0 16)).members ≠ [])
    (hn : (u.seamOf (bits a.arg 0 16)).count = bits a.arg 16 11) : u.arrive q a =
      (u.setSeam (bits a.arg 0 16) { u.seamOf (bits a.arg 0 16) with
        members := (u.seamOf (bits a.arg 0 16)).members ++ [q], times := (u.seamOf (bits a.arg 0 16)).times ++ [(q, a.time)],
        latest := u.later (u.seamOf (bits a.arg 0 16)).latest a.time }).setQueue q
          { u.queue q with state := QState.seamWait } := by
  simp only [State.arrive, h0, hn, if_false, ne_eq, not_true_eq_false]

/-- After the refused first arrival SCH_STATUS shows that all seams are in use, and no queue or seam has changed (R98). -/
theorem State.noSeam_marks (u : State) :
    let t := if u.bit Reg.SCH_STATUS 1 then u else (u.setBit Reg.SCH_STATUS 1 true).raise 0x3412
    t.bit Reg.SCH_STATUS 1 = true ∧ t.queues = u.queues ∧ t.seams = u.seams := by
  intro t
  by_cases h : u.bit Reg.SCH_STATUS 1 = true
  · simp only [t, if_pos h]
    exact ⟨h, trivial, trivial⟩
  · simp only [t, if_neg h]
    refine ⟨?_, State.queues_of_wipe (State.raise_wipe0 ..) rfl, State.raise_seams ..⟩
    have hreg := State.raise_reg (s := u.setBit Reg.SCH_STATUS 1 true) (id := 0x3412) (k := Reg.SCH_STATUS) (by decide) (by decide)
    simp only [State.bit, State.regN, hreg]
    exact State.bit_setBit_same u Reg.SCH_STATUS 1 true (by decide)

/-! ### The end of a seam -/

/-- A seam that is due has members, as many as its count, and its latest time has come (R97). -/
theorem State.seamDue_iff (s : State) (i : Nat) : s.seamDue i = true ↔
    (s.seamOf i).members ≠ [] ∧ (s.seamOf i).count ≤ (s.seamOf i).members.length ∧ s.reached (s.seamOf i).latest = true := by
  simp only [State.seamDue, Bool.and_eq_true, decide_eq_true_eq, and_assoc]

/-- A due seam is released (R97). -/
theorem State.exec_seamRelease {s : State} {i : Nat} (hi : i < 2 ^ 16) (hserv : s.service = true)
    (hdue : s.seamDue i = true) : exec (.seamRelease i) s = .next (s.releaseSeam i) :=
  (onUnit_of (by simpa [okSeam] using hi) _).trans (congrArg _ (if_pos ⟨hserv, hdue⟩))

/-- A seam that is not due stays. -/
theorem State.exec_seamRelease_early {s : State} {i : Nat} (hi : i < 2 ^ 16) (hdue : s.seamDue i = false) :
    exec (.seamRelease i) s = .next s :=
  (onUnit_of (by simpa [okSeam] using hi) _).trans (congrArg _ (if_neg fun h => by simp [hdue] at h))

/-- A queue that stops takes its state and its error code (R101); the others stay. -/
theorem State.queue_stopQueue (u : State) (q code p : Nat) : (u.stopQueue q code).queue p =
    if p = q then { u.queue q with state := QState.stopped, err := code } else u.queue p := by
  have h : (u.stopQueue q code).queues = (u.setQueue q { u.queue q with state := QState.stopped, err := code }).queues :=
    State.queues_of_wipe (State.setN_wipe0 ..) rfl
  simp only [State.queue, h]
  exact Tbl.get_set ..

/-- Of the registers a queue that stops changes QM_LASTERR alone (R104). -/
theorem State.reg_stopQueue (u : State) (q code : Nat) {r : Nat} (hr : r ≠ Reg.QM_LASTERR) :
    (u.stopQueue q code).reg r = u.reg r :=
  reg_setN_other _ hr _

/-- Queues that stop together change registers and queues alone. -/
theorem State.wipe_stopQueues (code : Nat) (l : List Nat) (u : State) :
    (l.foldl (fun v q => v.stopQueue q code) u).wipe 131088 = u.wipe 131088 := by
  induction l generalizing u with
  | nil => rfl
  | cons q l ih => rw [List.foldl_cons, ih, State.stopQueue_wipe0]

/-- Each of the queues that stop together takes its state and its code. -/
theorem State.queue_stopQueues (code : Nat) (l : List Nat) (u : State) (p : Nat) :
    (l.foldl (fun v q => v.stopQueue q code) u).queue p =
      if p ∈ l then { u.queue p with state := QState.stopped, err := code } else u.queue p := by
  induction l generalizing u with
  | nil => simp
  | cons q l ih =>
    rw [List.foldl_cons, ih, State.queue_stopQueue]
    by_cases hpq : p = q
    · subst hpq
      simp
    · simp [hpq]

/-- Queues that stop together change QM_LASTERR alone of the registers. -/
theorem State.reg_stopQueues (code : Nat) (l : List Nat) (u : State) {r : Nat} (hr : r ≠ Reg.QM_LASTERR) :
    (l.foldl (fun v q => v.stopQueue q code) u).reg r = u.reg r := by
  induction l generalizing u with
  | nil => rfl
  | cons q l ih => rw [List.foldl_cons, ih, State.reg_stopQueue _ _ _ hr]

/-- A seam whose timeout has come expires outside HALT and DOZE (R98, R315, R324). -/
theorem State.exec_seamTimeout {s : State} {i t0 : Nat} (hi : i < 2 ^ 16) (ht : (s.seamOf i).expires = some t0)
    (hdue : t0 ≤ s.tick) (hfr : s.frozen = false) : exec (.seamTimeout i) s = .next (s.expireSeam i) := by
  have h : exec (.seamTimeout i) s = .next (match (s.seamOf i).expires with
    | some t => if t ≤ s.tick ∧ s.frozen = false then s.expireSeam i else s
    | none => s) := onUnit_of (by simpa [okSeam] using hi) _
  rw [h, ht]
  exact congrArg _ (if_pos ⟨hdue, hfr⟩)

/-- In HALT and DOZE no seam times out (R315, R324). -/
theorem State.exec_seamTimeout_frozen {s : State} {i : Nat} (hi : i < 2 ^ 16) (hfr : s.frozen = true) :
    exec (.seamTimeout i) s = .next s := by
  have h : exec (.seamTimeout i) s = .next (match (s.seamOf i).expires with
    | some t => if t ≤ s.tick ∧ s.frozen = false then s.expireSeam i else s
    | none => s) := onUnit_of (by simpa [okSeam] using hi) _
  rw [h]
  cases (s.seamOf i).expires with
  | none => rfl
  | some t => exact congrArg _ (if_neg fun hc => by simp [hfr] at hc)

/-- A state that agrees in all but the registers, the queues and the seams. -/
theorem State.eq_of_wipe_seams {t s : State} (e : t.wipe 655376 = s.wipe 655376) :
    t = { s with regs := t.regs, queues := t.queues, seams := t.seams } := by
  cases t
  cases s
  simpa [State.wipe, Nat.testBit] using e

/-- The expired seam is gone, its members are stopped with STALL, and nothing else changes (R98). -/
theorem State.expireSeam_spec (s : State) (i : Nat) :
    (s.expireSeam i).seamOf i = {} ∧
    (∀ p, (s.expireSeam i).queue p = if p ∈ (s.seamOf i).members then
      { s.queue p with state := QState.stopped, err := 0x1C } else s.queue p) ∧
    (∀ r, r ≠ Reg.SCH_STATUS → r ≠ Reg.QM_LASTERR → (s.expireSeam i).reg r = s.reg r) ∧
    s.expireSeam i = { s with regs := (s.expireSeam i).regs, queues := (s.expireSeam i).queues,
                              seams := (s.expireSeam i).seams } := by
  have hw : (s.expireSeam i).wipe 131088 = ((s.setSeam i {}).setBit Reg.SCH_STATUS 1 false).wipe 131088 :=
    State.wipe_stopQueues ..
  have hframe : (s.expireSeam i).wipe 655376 = s.wipe 655376 :=
    (State.wipe_mono hw (by decide)).trans (by simp)
  refine ⟨?_, fun p => ?_, fun r hfull hlast => ?_, ?_⟩
  · have hseams : (s.expireSeam i).seams = (s.setSeam i {}).seams := State.seams_of_wipe hw rfl
    rw [State.seamOf, hseams]
    exact Tbl.get_set_same {} s.seams i {}
  · exact State.queue_stopQueues ..
  · exact (State.reg_stopQueues _ _ _ hlast).trans (State.reg_setBit_other _ hfull ..)
  · exact State.eq_of_wipe_seams hframe

/-- A queue whose arrival is taken back changes the seams and SCH_STATUS alone (R98). -/
theorem State.unarrive_wipe0 (s : State) (q : Nat) : (s.unarrive q).wipe 524304 = s.wipe 524304 := by
  refine State.foldl_wipe _ _ (fun u i => ?_) _ _
  dsimp only
  split
  · split
    · rw [State.setBit_wipe _ _ _ _ _ (by decide), State.setSeam_wipe _ _ _ _ (by decide)]
    · rw [State.setSeam_wipe _ _ _ _ (by decide)]
  · rfl

/-- A queue that stops with an error changes registers, queues and seams alone (R98, R101). -/
theorem State.haltQueue_wipe0 (s : State) (q code : Nat) : (s.haltQueue q code).wipe 655376 = s.wipe 655376 := by
  rw [State.haltQueue, State.stopQueue_wipe _ _ _ _ (by decide)]
  exact State.wipe_mono (s.unarrive_wipe0 q) (by decide)

/-- The halted queue is stopped with its code, and the others stay. -/
theorem State.queue_haltQueue (s : State) (q code p : Nat) : (s.haltQueue q code).queue p =
    if p = q then { s.queue q with state := QState.stopped, err := code } else s.queue p := by
  have h : (s.unarrive q).queues = s.queues := State.queues_of_wipe (s.unarrive_wipe0 q) rfl
  rw [State.haltQueue, State.queue_stopQueue, State.queue, State.queue, h]
  rfl

/-- Settles O21: the arrival is split by the seam it meets; a release and a timeout are folds over the members. -/
theorem seams : Obligations.Seams := by
  unfold Obligations.Seams
  intro s q id a u hq hid
  refine ⟨fun hserv hrun htt hfill hfl hbad hread => ?arrival, fun hserv h0 hc hr => ?release,
    fun hserv hm hc hr _ v hv => ?single, fun h => ?early, s.exec_seamTimeout_frozen hid, fun t0 ht hdue hfr => ?expired⟩
  case arrival =>
    have hexec := State.exec_seam hq hserv hrun htt hfill hfl hbad hread
    have hqq := State.queue_of_readEntry hread
    have hok := u.entryOk_iff q a
    rw [hqq] at hok
    refine ⟨fun hop => by rw [hexec, if_neg (fun h => hop h.1)], fun hop hno => ?_, fun hop hfits hcls => ?_⟩
    · rw [hexec, if_neg]
      rintro ⟨-, h⟩
      obtain ⟨hf, hc⟩ := hok.mp h
      rcases hno with hno | hno
      · exact absurd (hf.symm.trans hno) (by decide)
      · exact hc ⟨hop, hno⟩
    · rw [if_pos ⟨hop, hok.mpr ⟨hfits, fun h => hcls h.2⟩⟩] at hexec
      refine ⟨fun h0 hroom => ⟨_, hexec, ?_⟩, fun h0 hall => ⟨_, hexec, ?_⟩, fun h0 hn => ⟨_, hexec, ?_⟩,
        fun h0 hn => ⟨_, hexec, ?_⟩⟩
      · obtain ⟨hseam, hqueue, hframe⟩ := State.arrive_first_spec h0 hroom
        refine ⟨hseam, by rw [hqueue, if_pos rfl], by rw [hqueue, if_pos rfl, hqq], fun q' hne => ?_, hframe⟩
        rw [hqueue, if_neg hne]
      · rw [State.arrive_none h0 hall]
        exact u.noSeam_marks
      · rw [State.arrive_otherCount h0 hn, State.queue_stopQueue, if_pos rfl, hqq]
        exact ⟨rfl, rfl, rfl, State.seams_of_wipe (State.stopQueue_wipe0 ..) rfl⟩
      · rw [State.arrive_joins h0 hn]
        exact ⟨congrArg Queue.state (Tbl.get_set_same ..), Tbl.get_set_same .., rfl⟩
  case release => exact State.exec_seamRelease hid hserv ((s.seamDue_iff id).mpr ⟨h0, hc, hr⟩)
  case single =>
    have hdue : s.seamDue id = true := (s.seamDue_iff id).mpr ⟨by rw [hm]; simp, by rw [hm]; exact hc, hr⟩
    have hfold : s.releaseSeam id = ((s.setSeam id {}).setBit Reg.SCH_STATUS 1 false).leaveSeam q := by
      simp only [State.releaseSeam, hm, List.foldl_cons, List.foldl_nil]
    rw [State.exec_seamRelease hid hserv hdue, hfold]
    have hx : ((s.setSeam id {}).setBit Reg.SCH_STATUS 1 false).queue q = s.queue q := rfl
    simp only [State.leaveSeam, hx, hv]
    rfl
  case early =>
    refine State.exec_seamRelease_early hid (Bool.eq_false_iff.mpr fun hdue => ?_)
    obtain ⟨-, hc, hr⟩ := (s.seamDue_iff id).mp hdue
    rcases h with h | h
    · exact absurd hc (Nat.not_le.mpr h)
    · exact absurd (hr.symm.trans h) (by decide)
  case expired =>
    obtain ⟨hgone, hqueue, hreg, hframe⟩ := s.expireSeam_spec id
    exact ⟨_, State.exec_seamTimeout hid ht hdue hfr, hgone, fun p hp => (hqueue p).trans (if_pos hp),
      fun p hp => (hqueue p).trans (if_neg hp), hreg, hframe⟩

end Sys2Proof.Machine

/-! O25, the words that move, add, subtract, compare, combine, shift and multiply registers (R141, R142). -/

namespace Sys2Proof.Machine

open Sys2Proof

section Words
variable {s : State} {c : Nat} {x : Insn}

/-- K is its own value as a vector of 20 bits. -/
theorem State.k_toNat (h : s.issues c x) : (BitVec.ofNat 20 x.k).toNat = x.k := by
  have := State.k_lt_of_issues h
  simp only [BitVec.toNat_ofNat]
  omega

/-- A row whose word takes its operands' numbers, and gives the context's registers and flags. -/
theorem State.word_next (h : s.issues c x) {f : Insn → Ctx → State → MRes} {k : Ctx} {op : Nat} (hop : x.op = op)
    (hf : f x (s.ctx c) (s.fetched c) = .next k x.nx (s.fetched c)) (hst : k.st = (s.ctx c).st) :
    onUnit (okCtx c) (s.issue c op f) = .next (s.completed c k x.nx) := by
  rw [← hop, State.issue_next h hf hst, State.onCtx h]

/-- LDHI puts K[7:0] above the low twelve bits. -/
theorem ldhi_toNat (a : BitVec 20) (k : Nat) :
    BitVec.ofNat 20 (a.toNat % 4096 + k % 256 * 4096) = BitVec.ofNat 8 k ++ a.extractLsb' 0 12 := by
  have hlow : (a.extractLsb' 0 12).toNat = a.toNat % 4096 := by simp
  apply BitVec.eq_of_toNat_eq
  rw [BitVec.toNat_append, hlow, ← Nat.shiftLeft_add_eq_or_of_lt (by omega), BitVec.toNat_ofNat, BitVec.toNat_ofNat, Nat.shiftLeft_eq]
  omega

/-- The low half of a product, and its high half. -/
theorem mul_parts (a b : BitVec 20) :
    let p := a.zeroExtend 40 * b.zeroExtend 40
    BitVec.ofNat 20 (a.toNat * b.toNat % 2 ^ 20) = p.extractLsb' 0 20 ∧
      BitVec.ofNat 20 (a.toNat * b.toNat / 2 ^ 20) = p.extractLsb' 20 20 ∧ decide (a.toNat * b.toNat = 0) = (p == 0) := by
  have ha := a.isLt
  have hb := b.isLt
  have hlt : a.toNat * b.toNat < 2 ^ 40 := by
    calc a.toNat * b.toNat ≤ (2 ^ 20 - 1) * (2 ^ 20 - 1) := Nat.mul_le_mul (by omega) (by omega)
      _ < 2 ^ 40 := by decide
  have hp : (a.zeroExtend 40 * b.zeroExtend 40).toNat = a.toNat * b.toNat := by
    rw [BitVec.toNat_mul, BitVec.toNat_setWidth, BitVec.toNat_setWidth]
    rw [Nat.mod_eq_of_lt (a := a.toNat) (by omega), Nat.mod_eq_of_lt (a := b.toNat) (by omega), Nat.mod_eq_of_lt hlt]
  refine ⟨?_, ?_, ?_⟩
  · apply BitVec.eq_of_toNat_eq
    rw [BitVec.extractLsb'_toNat, hp]
    simp
  · apply BitVec.eq_of_toNat_eq
    rw [BitVec.extractLsb'_toNat, hp, BitVec.toNat_ofNat, Nat.shiftRight_eq_div_pow]
  · rw [← hp, toNat_zero_iff]

/-- A bitwise result puts its value into W[A] and sets Z and N. -/
theorem bitWord_toNat (x : Insn) (k : Ctx) (t : State) (r : BitVec 20) :
    bitWord x k t r.toNat = .next { k.withReg x.a r with z := r == 0, n := r.msb } x.nx t := by
  rw [bitWord, Ctx.put_eq, Ctx.withReg_toNat, Ctx.zn_toNat]

/-- A shift by at least one place also sets C. -/
theorem shiftWord_toNat (x : Insn) (k : Ctx) (t : State) (r : BitVec 20) (out : Bool) :
    shiftWord x k t (r.toNat, some out) = .next { k.withReg x.a r with z := r == 0, n := r.msb, c := out } x.nx t := by
  rw [shiftWord]
  simp only [Ctx.put_eq, Ctx.withReg_toNat, Ctx.zn_toNat]

/-- A word with four flags. -/
theorem wordAlu_toNat (x : Insn) (k : Ctx) (t : State) (d : Nat) (r : BitVec 20) (c z n v : Bool) :
    wordAlu x k t d ⟨r.toNat, c, z, n, v⟩ = .next { k.withReg d r with c := c, z := z, n := n, v := v } x.nx t := by
  rw [wordAlu]
  simp only [Ctx.put_eq, Ctx.withReg_toNat, Ctx.flags]

/-- A source that is no request to the host draws no free value. -/
theorem State.traySet_nextFresh (t : State) (y : Nat) {i : Nat} (h5 : i ≠ 5) (h6 : i ≠ 6) (b : Bool) :
    (t.traySet y i b).nextFresh = t.nextFresh.traySet y i b := by
  simp only [State.traySet, h5, h6, and_false, if_false]
  exact apply_ite State.nextFresh ..

/-- The fetch of a word draws no free value. -/
theorem State.fetched_nextFresh (s : State) (c : Nat) : (s.fetched c).nextFresh = s.nextFresh.fetched c := by
  have hcorrect : ∀ (t : State) (y a : Nat), (t.fetchCorrect y a).nextFresh = t.nextFresh.fetchCorrect y a := by
    intro t y a
    refine (apply_ite State.nextFresh ..).trans (if_congr Iff.rfl ?_ rfl)
    rw [State.trayPulse, State.traySet_nextFresh _ _ (by decide) (by decide), State.traySet_nextFresh _ _ (by decide) (by decide)]
    rfl
  exact hcorrect _ _ _

/-- A shift by 0 draws C. -/
theorem State.shift_zero (h : s.issues c x) {f : Nat → Nat → Nat × Option Bool} {op : Nat} (hop : x.op = op) {r : BitVec 20}
    (hf : f r.toNat (x.k % 32) = (r.toNat, none)) (hr : r = (s.ctx c).reg x.b) : ∃ free,
      onUnit (okCtx c) (s.issue c op fun x k t => shiftWord x k t (f (k.get x.b) (x.k % 32))) =
        .next (s.nextFresh.completed c { (s.ctx c).withReg x.a r with z := r == 0, n := r.msb, c := free } x.nx) := by
  subst hr
  refine ⟨bitAt (Config.freeWord (s.fetched c).fresh).toNat 0, ?_⟩
  rw [← hop, State.issue_of_issues h, State.settleWord_of_issues h, Ctx.get_eq, hf, State.onCtx h]
  simp only [MRes.settled, shiftWord, Ctx.put_eq, Ctx.withReg_toNat, Ctx.zn_toNat]
  rw [State.putCtx_same_st _ (by simp [Ctx.withReg, State.ctx_congr (State.nextFresh_ctxs (s.fetched c))]), State.fetched_nextFresh]
  rfl

theorem shift_zero_toNat (b : BitVec 20) : shiftLeft b.toNat 0 = (b.toNat, none) ∧ shiftRight b.toNat 0 = (b.toNat, none) ∧
    shiftArith b.toNat 0 = (b.toNat, none) := by
  have hb := b.isLt
  refine ⟨?_, ?_, ?_⟩
  · simpa [shiftLeft] using hb
  · simp [shiftRight]
  · simp only [shiftArith, pow_zero, Nat.div_one, if_true, Prod.mk.injEq, and_true]
    split <;> omega

end Words

/-- Settles O25, word by word: each is its arithmetic over the numbers in its operands. -/
theorem arithmeticWords : Obligations.ArithmeticWords := by
  refine ⟨?moves, ?logic⟩
  case moves =>
    intro s c x h k a b i
    have hi : i.toNat = x.k := State.k_toNat h
    refine ⟨fun e => ?_, fun e => ?_, fun e => ?_, fun e => ?_, fun e => ?_, fun e => ?_, fun e => ?_, fun e => ?_, fun e => ?_,
      fun e => ?_⟩
    · exact State.word_next h e rfl rfl
    · exact State.word_next h e (by simp; rfl) rfl
    · exact State.word_next h e rfl rfl
    · exact State.word_next h e (congrArg (fun v => MRes.next ((s.ctx c).withReg x.a v) x.nx _) (ldhi_toNat a x.k)) rfl
    · exact State.word_next h e ((congrArg _ (aluAdd_zero (by decide) a b)).trans (wordAlu_toNat ..)) rfl
    · exact State.word_next h e ((congrArg _ (aluSub_zero (by decide) a b)).trans (wordAlu_toNat ..)) rfl
    · exact State.word_next h e (by rw [← hi]; exact (congrArg _ (aluAdd_zero (by decide) b i)).trans (wordAlu_toNat ..)) rfl
    · exact State.word_next h e (by rw [← hi]; exact (congrArg _ (aluSub_zero (by decide) b i)).trans (wordAlu_toNat ..)) rfl
    · exact State.word_next h e (by rw [Ctx.get_eq, Ctx.get_eq, aluSub_zero (by decide)]; rfl) rfl
    · exact State.word_next h e (by rw [← hi, Ctx.get_eq, aluSub_zero (by decide)]; rfl) rfl
  case logic =>
    intro s c x h k a b i n p bit
    have hi : i.toNat = x.k := State.k_toNat h
    have hn : n < 32 := Nat.mod_lt _ (by decide)
    refine ⟨fun e => ?_, fun e => ?_, fun e => ?_, fun e => ?_, fun e => ?_, fun e => ?_, fun e hne => ?_, fun e hne => ?_,
      fun e hne => ?_, fun hz i hi e => ?_, fun e ha => ?_⟩
    · exact State.word_next h e (bitWord_toNat x k _ (a &&& b)) rfl
    · exact State.word_next h e (bitWord_toNat x k _ (a ||| b)) rfl
    · exact State.word_next h e (bitWord_toNat x k _ (a ^^^ b)) rfl
    · exact State.word_next h e (by rw [← hi]; exact bitWord_toNat x k _ (b &&& i)) rfl
    · exact State.word_next h e (by rw [← hi]; exact bitWord_toNat x k _ (b ||| i)) rfl
    · exact State.word_next h e (by rw [← hi]; exact bitWord_toNat x k _ (b ^^^ i)) rfl
    · exact State.word_next h e (by rw [Ctx.get_eq, shiftLeft_toNat _ hne]; exact shiftWord_toNat ..) rfl
    · exact State.word_next h e (by rw [Ctx.get_eq, shiftRight_toNat _ hne]; exact shiftWord_toNat ..) rfl
    · exact State.word_next h e (by rw [Ctx.get_eq, shiftArith_toNat _ hne hn]; exact shiftWord_toNat ..) rfl
    · obtain ⟨hl, hr, ha⟩ := shift_zero_toNat b
      have hn0 : x.k % 32 = 0 := hz
      rcases List.mem_cons.mp hi with rfl | hi
      · exact State.shift_zero h e (by rw [hn0]; exact hl) rfl
      rcases List.mem_cons.mp hi with rfl | hi
      · exact State.shift_zero h e (by rw [hn0]; exact hr) rfl
      obtain rfl := List.mem_singleton.mp hi
      exact State.shift_zero h e (by rw [hn0]; exact ha) rfl
    · obtain ⟨hlow, hhigh, hzero⟩ := mul_parts a b
      refine State.word_next h e ?_ rfl
      rw [mulWord, if_neg (by omega)]
      show MRes.next { ((k.withReg x.a (BitVec.ofNat 20 (a.toNat * b.toNat % 2 ^ 20))).withReg (x.a + 1)
        (BitVec.ofNat 20 (a.toNat * b.toNat / 2 ^ 20))) with z := decide (a.toNat * b.toNat = 0) } x.nx _ = _
      rw [hlow, hhigh, hzero]


end Sys2Proof.Machine

/-! O26, the limb words under each ARITH (R142). -/

namespace Sys2Proof.Machine

open Sys2Proof

/-- What a limb op writes under ARITH: the wrapped result, or its bound where it carries out and ARITH saturates. -/
def limbValue {w : Nat} (arith : Nat) (past : Bool) (wrapped bound : BitVec w) : BitVec w :=
  if past ∧ arith = 1 then bound else wrapped

section Limbs
variable {w : Nat} (arith : Nat) (past : Bool) (r : BitVec w) (v : Bool)

/-- The flags of a result. -/
def aluOf : Alu := { val := r.toNat, c := past, z := r == 0, n := r.msb, v := v }

theorem aluOf_to (bound : BitVec w) : (aluOf past r v).to w bound.toNat = aluOf past bound v := by
  simp only [Alu.to, aluOf, toNat_zero_iff, top_toNat]

/-- A limb op traps where it carries out under ARITH 2, and else gives the value of its ARITH. -/
theorem limbAdd_of : limbAdd w arith (aluOf past r v) =
    if past ∧ arith = 2 then none else some (aluOf past (limbValue arith past r (BitVec.allOnes w)) v) := by
  cases past with
  | false => simp [limbAdd, limbValue, aluOf]
  | true =>
    rw [limbAdd, if_neg (by simp [aluOf]), ← BitVec.toNat_allOnes, aluOf_to]
    by_cases h1 : arith = 1 <;> by_cases h2 : arith = 2 <;> simp [limbValue, h1, h2]

theorem limbSub_of : limbSub w arith (aluOf past r v) =
    if past ∧ arith = 2 then none else some (aluOf past (limbValue arith past r 0) v) := by
  cases past with
  | false => simp [limbSub, limbValue, aluOf]
  | true =>
    have hzero : (aluOf true r v).to w 0 = aluOf true (0 : BitVec w) v := by simpa using aluOf_to true r v (0 : BitVec w)
    rw [limbSub, if_neg (by simp [aluOf]), hzero]
    by_cases h1 : arith = 1 <;> by_cases h2 : arith = 2 <;> simp [limbValue, h1, h2]

end Limbs

/-- The scaled operand of ADDS3 fits its 60 bits. -/
theorem toNat_scaled (b : BitVec 20) (k : Nat) : (b.zeroExtend 60 <<< (4 * (k % 4))).toNat = b.toNat * 2 ^ (4 * (k % 4)) := by
  have hb := b.isLt
  have hpow : 2 ^ (4 * (k % 4)) ≤ 2 ^ 12 := Nat.pow_le_pow_right (by decide) (by omega)
  have hlt : b.toNat * 2 ^ (4 * (k % 4)) < 2 ^ 60 := by
    calc b.toNat * 2 ^ (4 * (k % 4)) ≤ b.toNat * 2 ^ 12 := Nat.mul_le_mul_left _ hpow
      _ < 2 ^ 60 := by omega
  rw [BitVec.toNat_shiftLeft, BitVec.toNat_setWidth, Nat.mod_eq_of_lt (a := b.toNat) (by omega), Nat.shiftLeft_eq,
    Nat.mod_eq_of_lt hlt]

section Words
variable {s : State} {c : Nat} {x : Insn} (h : s.issues c x)
include h

/-- A limb op of 20 bits. -/
theorem State.limbWord_next {f : Insn → Ctx → State → Option Alu} {past v : Bool} {r : BitVec 20} {op : Nat} (hop : x.op = op)
    (hf : f x (s.ctx c) (s.fetched c) = if past ∧ (s.ctx c).arith = 2 then none else some (aluOf past r v)) :
    onUnit (okCtx c) (s.issue c op fun x k t => limbWord x k t (f x k t)) =
      .next (if past ∧ (s.ctx c).arith = 2 then (s.fetched c).syncTrap c Cz.overflow none none
        else s.completed c { (s.ctx c).withReg x.a r with c := past, z := r == 0, n := r.msb, v := v } x.nx) := by
  subst hop
  rw [State.onCtx h]
  congr 1
  by_cases ht : past ∧ (s.ctx c).arith = 2
  · rw [if_pos ht] at hf ⊢
    exact State.issue_trap h (by rw [hf]; rfl)
  · rw [if_neg ht] at hf ⊢
    exact State.issue_next h (by rw [hf]; exact wordAlu_toNat ..) rfl

/-- A limb op of 60 bits whose registers stand in the file. -/
theorem State.limbThree_next {f : Insn → Ctx → State → Option Alu} {g : Insn → Nat} {past v : Bool} {r : BitVec 60} {op : Nat}
    (hop : x.op = op) (ha : x.a ≤ 13) (hg : g x ≤ 13)
    (hf : f x (s.ctx c) (s.fetched c) = if past ∧ (s.ctx c).arith = 2 then none else some (aluOf past r v)) :
    onUnit (okCtx c) (s.issue c op fun x k t => limbThree x k t (g x) (f x k t)) =
      .next (if past ∧ (s.ctx c).arith = 2 then (s.fetched c).syncTrap c Cz.overflow none none
        else s.completed c { (s.ctx c).withThree x.a r with c := past, z := r == 0, n := r.msb, v := v } x.nx) := by
  subst hop
  have hin : ¬(13 < x.a ∨ 13 < g x) := by omega
  rw [State.onCtx h]
  congr 1
  by_cases ht : past ∧ (s.ctx c).arith = 2
  · rw [if_pos ht] at hf ⊢
    exact State.issue_trap h (by rw [hf]; exact if_neg hin)
  · rw [if_neg ht] at hf ⊢
    exact State.issue_next h (by rw [hf, limbThree, if_neg hin, aluOf, Ctx.put3_eq, Ctx.withThree_toNat]; rfl) rfl

end Words

/-- Settles O26: each word gives its sum or difference with its flags, and ARITH decides what becomes of a carry. -/
theorem limbWords : Obligations.LimbWords := by
  intro s c x h k a b cin a3 b3 sc carry borrow sat sat3 trapped word three
  have hc : cin.toNat = b2n k.c := toNat_carry (by decide) k.c
  have hint : cin.toInt = (cin.toNat : Int) := by simp only [cin]; cases k.c <;> decide
  have hadd : aluAdd 20 a.toNat b.toNat (b2n k.c) =
      aluOf carry (a + b + cin) (decide ((a + b + cin).toInt ≠ a.toInt + b.toInt + cin.toInt)) := by
    rw [hint, ← hc, aluAdd_toNat (by decide)]; rfl
  have hsub : aluSub 20 a.toNat b.toNat (b2n k.c) =
      aluOf borrow (a - b - cin) (decide ((a - b - cin).toInt ≠ a.toInt - b.toInt - cin.toInt)) := by
    rw [hint, ← hc, aluSub_toNat (by decide)]; rfl
  refine ⟨fun e => ?_, fun e => ?_, fun e ha hb => ?_, fun e ha hb => ?_, fun e ha => ?_⟩
  · exact State.limbWord_next h (f := fun x k _ => limbAdd 20 k.arith (aluAdd 20 (k.get x.a) (k.get x.b) (b2n k.c))) e
      ((congrArg _ hadd).trans (limbAdd_of ..))
  · exact State.limbWord_next h (f := fun x k _ => limbSub 20 k.arith (aluSub 20 (k.get x.a) (k.get x.b) (b2n k.c))) e
      ((congrArg _ hsub).trans (limbSub_of ..))
  · refine State.limbThree_next h (f := fun x k _ => limbAdd 60 k.arith (aluAdd 60 (k.get3 x.a) (k.get3 x.b) 0)) (g := fun x => x.b)
      e ha hb ?_
    rw [Ctx.get3_eq, Ctx.get3_eq, aluAdd_zero (by decide)]
    exact limbAdd_of ..
  · refine State.limbThree_next h (f := fun x k _ => limbSub 60 k.arith (aluSub 60 (k.get3 x.a) (k.get3 x.b) 0)) (g := fun x => x.b)
      e ha hb ?_
    rw [Ctx.get3_eq, Ctx.get3_eq, aluSub_zero (by decide)]
    exact limbSub_of ..
  · refine State.limbThree_next h
      (f := fun x k _ => limbAdd 60 k.arith (aluAdd 60 (k.get3 x.a) (k.get x.b * 2 ^ (4 * (x.k % 4))) 0)) (g := fun _ => 0)
      e ha (by decide) ?_
    rw [Ctx.get3_eq, Ctx.get_eq, ← toNat_scaled, aluAdd_zero (by decide)]
    exact limbAdd_of ..

end Sys2Proof.Machine

/-! O27. WRAP3 adds 2^60 - M to its operand, which the statement reads as a subtraction of M in 60 bits. The two agree where M is at
most the operand plus 2^60. TB_RELOAD as the registers can hold it gives an M up to 2^64, and there the numbers' subtraction stops
at 0 while that of the bit vectors goes round. -/

namespace Sys2Proof.Machine

open Sys2Proof

/-- A context in RUN at a WRAP3 of W[0..2] that holds the value 1, with C set, on a time circle of 2^64 crumbs. -/
def longCircle : State :=
  { regs := [(Reg.TB_RELOAD_L, 0xFFFFFFFF), (Reg.TB_RELOAD_H, 0xFFFFFFFF)]
    pwr := { mode := Mode.run }
    cs := [(csKey 0 0x2000, wordOf { op := 0x1C, a := 0, b := 0, k := 0, nx := 0x2000 })]
    ctxs := [(0, { st := .run, pc := 0x2000, mode := 1, c := true, w := 1 :: List.replicate 15 0 })] }

/-- W[0] of context 0 in what a command answers. -/
def firstReg : Host.Outcome State Fault Refusal → BitVec 20
  | .next t => (t.ctx 0).reg 0
  | _ => 0

theorem issues_longCircle : longCircle.issues 0 { op := 0x1C, a := 0, b := 0, k := 0, nx := 0x2000 } :=
  ⟨by decide +kernel, by decide +kernel, by decide +kernel, by decide +kernel, by decide +kernel, by decide +kernel,
    by decide +kernel, by decide +kernel, by decide +kernel⟩

/-- The word leaves 0, where a subtraction of M in 60 bits gives 1 back. -/
theorem firstReg_wrap3 : firstReg (exec (.wrap3 0) longCircle) = 0 := by decide +kernel

/-- Refutes O27: the clause of WRAP3 fails in `longCircle`. -/
theorem not_timeAndMemoryWords : ¬ Obligations.TimeAndMemoryWords := by
  intro h
  obtain ⟨-, hwrap, -⟩ := h.1 longCircle 0 _ issues_longCircle (by decide)
  exact absurd (firstReg_wrap3.symm.trans (congrArg firstReg (hwrap rfl))) (by decide +kernel)

end Sys2Proof.Machine

/-! O28, where a context goes on (R137, R141-R146). -/

namespace Sys2Proof.Machine

open Sys2Proof

section Words
variable {s : State} {c : Nat} {x : Insn}

/-- A row whose word settles the state itself. -/
theorem State.word_done (h : s.issues c x) {f : Insn → Ctx → State → MRes} {t : State} {op : Nat} (hop : x.op = op)
    (hf : f x (s.ctx c) (s.fetched c) = .done t) : onUnit (okCtx c) (s.issue c op f) = .next t := by
  rw [← hop, State.issue_done h hf, State.onCtx h]

/-- A row whose word traps. -/
theorem State.word_trap (h : s.issues c x) {f : Insn → Ctx → State → MRes} {t : State} {op z : Nat} {info addr : Option Nat}
    (hop : x.op = op) (hf : f x (s.ctx c) (s.fetched c) = .trap z info addr t) :
    onUnit (okCtx c) (s.issue c op f) = .next (t.syncTrap c z info addr) := by
  rw [← hop, State.issue_trap h hf, State.onCtx h]

/-- A row whose word traps ILLEGAL. -/
theorem State.word_illegal (h : s.issues c x) {f : Insn → Ctx → State → MRes} {op : Nat} (hop : x.op = op)
    (hf : f x (s.ctx c) (s.fetched c) = MRes.illegal (s.fetched c)) :
    onUnit (okCtx c) (s.issue c op f) = .next ((s.fetched c).syncTrap c Cz.illegal (some Code.rejectClass) none) :=
  State.word_trap h hop hf

/-- A row whose word completes on another state that holds the same context. -/
theorem State.word_next_on (h : s.issues c x) {f : Insn → Ctx → State → MRes} {k : Ctx} {na : Nat} {t : State} {op : Nat}
    (hop : x.op = op) (hf : f x (s.ctx c) (s.fetched c) = .next k na t) (hst : k.st = (t.ctx c).st) :
    onUnit (okCtx c) (s.issue c op f) = .next (t.setCtx c (k.complete na)) := by
  rw [← hop, State.issue_of_issues h, State.settleWord_of_issues h, hf, State.onCtx h]
  exact congrArg _ (State.putCtx_same_st t (by simp [hst]))

/-- A row whose word completes and goes on somewhere else than at NEXT. -/
theorem State.word_goes (h : s.issues c x) {f : Insn → Ctx → State → MRes} {k : Ctx} {na : Nat} {op : Nat} (hop : x.op = op)
    (hf : f x (s.ctx c) (s.fetched c) = .next k na (s.fetched c)) (hst : k.st = (s.ctx c).st) :
    onUnit (okCtx c) (s.issue c op f) = .next (s.completed c k na) :=
  State.word_next_on h hop hf (by simp [hst])

/-- The two ways of a branch. -/
theorem branchTo_eq (x : Insn) (b : Bool) : branchTo x b = if b then x.nx / 2 * 2 + 1 else x.nx / 2 * 2 := by
  cases b <;> rfl

/-- The conditions of BCC in the order of their codes. -/
theorem condHolds_eq (i : Nat) (c z n v : Bool) : condHolds i c z n v =
    ([z, !z, c, !c, n, !n, v, !v, !c && !z, c || z, n == v, n != v, !z && (n == v), z || (n != v), true, false][i % 16]?).getD false := by
  have hlt : i % 16 < 16 := Nat.mod_lt _ (by decide)
  rw [condHolds]
  generalize i % 16 = j at hlt
  interval_cases j <;> rfl

@[simp] theorem State.fetched_fifos (s : State) (c : Nat) : (s.fetched c).fifos = s.fifos := by
  rw [State.fetched, State.fetchCorrect]
  split <;> simp [State.takeTurn, State.turnAt]

theorem State.nx_lt_of_issues (h : s.issues c x) : x.nx < 2 ^ 14 := by
  obtain ⟨-, -, -, -, -, rfl, -⟩ := h
  exact Nat.mod_lt _ (by decide)

/-- What the end of a word does to its context's loop and place (R145). -/
def Ctx.looped (k : Ctx) (nx : Nat) : Ctx :=
  if k.la && decide (k.pc = k.lend) then
    if 1 < k.lc then { k with lc := k.lc - 1, pc := k.lstart } else { k with lc := 0, la := false, pc := nx % 2 ^ 14 }
  else { k with pc := nx % 2 ^ 14 }

/-- The target of a delay slot, and the mode that applies now (R143, R144). -/
def Ctx.modeOf (j : Ctx) (pmode : Option (BitVec 4)) (slot : Option (Nat × Nat)) : Ctx :=
  let j := match slot with | some (t, _) => { j with slot := none, pc := t } | none => j
  match pmode with | some m => { j with pmode := none, mode := m } | none => j

theorem Ctx.complete_eq (k : Ctx) (nx : Nat) : k.complete nx = { k.looped nx with
    pc := (match k.slot with | some (target, _) => target | none => (k.looped nx).pc), slot := none, pmode := none,
    mode := k.pmode.getD k.mode } := by
  have hkept : (k.looped nx).slot = k.slot ∧ (k.looped nx).pmode = k.pmode ∧ (k.looped nx).mode = k.mode := by
    unfold Ctx.looped
    split
    · split <;> exact ⟨rfl, rfl, rfl⟩
    · exact ⟨rfl, rfl, rfl⟩
  have hparts : k.complete nx = (k.looped nx).modeOf k.pmode k.slot := rfl
  obtain ⟨hslot, hpmode, hmode⟩ := hkept
  rw [hparts]
  revert hslot hpmode hmode
  generalize k.looped nx = j
  cases k.slot <;> cases k.pmode <;> (intro h1 h2 h3; cases j; cases h1; cases h2; cases h3; rfl)

/-- Where a word that is no jump leaves a context: its place, its loop, its delay slot and its pending mode (R143-R145). -/
theorem Ctx.complete_fields (k : Ctx) {nx : Nat} (hnx : nx < 2 ^ 14) :
    let r := k.complete nx
    let ends := k.la = true ∧ k.pc = k.lend
    r.pc = (match k.slot with
      | some (target, _) => target
      | none => if k.la = true ∧ k.pc = k.lend ∧ 1 < k.lc then k.lstart else nx) ∧
    (ends → 1 < k.lc → r.lc = k.lc - 1 ∧ r.la = true) ∧ (ends → k.lc ≤ 1 → r.lc = 0 ∧ r.la = false) ∧
    (¬ ends → r.lc = k.lc ∧ r.la = k.la) ∧ r.slot = none ∧ r.pmode = none ∧ r.mode = k.pmode.getD k.mode ∧
    r = { k with pc := r.pc, lc := r.lc, la := r.la, slot := none, pmode := none, mode := r.mode } := by
  intro r ends
  have hr : r = _ := k.complete_eq nx
  rw [hr]
  have hiff : (k.la && decide (k.pc = k.lend)) = true ↔ ends := by simp [ends]
  by_cases hend : ends
  · by_cases hlc : 1 < k.lc
    · rw [show k.looped nx = _ from (if_pos (hiff.mpr hend)).trans (if_pos hlc)]
      exact ⟨by simp only [hend.1, hend.2, hlc, and_self, if_true], fun _ _ => ⟨rfl, hend.1⟩, fun _ h => absurd h (by omega), fun h => absurd hend h,
        rfl, rfl, rfl, rfl⟩
    · rw [show k.looped nx = _ from (if_pos (hiff.mpr hend)).trans (if_neg hlc)]
      exact ⟨by simp only [hlc, and_false, if_false, Nat.mod_eq_of_lt hnx], fun _ h => absurd h hlc, fun _ _ => ⟨rfl, rfl⟩, fun h => absurd hend h,
        rfl, rfl, rfl, rfl⟩
  · rw [show k.looped nx = _ from if_neg (hend ∘ hiff.mp)]
    refine ⟨?_, fun h => absurd h hend, fun h => absurd h hend, fun _ => ⟨rfl, rfl⟩, rfl, rfl, rfl, rfl⟩
    simp only [Nat.mod_eq_of_lt hnx, if_neg (fun h : k.la = true ∧ k.pc = k.lend ∧ 1 < k.lc => hend ⟨h.1, h.2.1⟩)]

end Words

/-- Settles O28: word by word, each goes on where its own outcome says. -/
theorem controlAndSequenceWords : Obligations.ControlAndSequenceWords := by
  refine ⟨?words, ?sequence⟩
  case words =>
    intro s c x h k w cond even s' goes illegal
    refine ⟨fun e => ?_, fun e => ?_, fun e => ?_, fun e => ?_, fun e => ?_, fun e hk => ?_, fun e l a hk => ?_, fun e hla => ?_,
      fun e hla hw => ?_, fun e hla hw y z hy hz => ?_, fun e => ?_, fun e hb => ?_, fun e hb hpc => ?_, fun e => ?_⟩
    · refine (State.word_goes h e rfl rfl).trans ?_
      rw [branchTo_eq, condHolds_eq]
    · refine (State.word_goes h e rfl rfl).trans ?_
      rw [branchTo_eq, Ctx.get_eq, bitAt_eq_testBit]
      rfl
    · refine (State.word_goes h e rfl rfl).trans ?_
      rw [branchTo_eq]
      simp only [Ctx.get_eq, ← BitVec.toNat_eq, decide_eq_true_eq]
      rfl
    · exact State.word_done h e (congrArg _ (State.putCtx_same_st _ (by simp)))
    · split
      · next hlen => exact State.word_goes h e (if_neg (Nat.not_le.mpr hlen)) rfl
      · next hlen => exact State.word_illegal h e (if_pos (Nat.not_lt.mp hlen))
    · exact State.word_illegal h e (by simp only [retWord, hk, List.getLast?_nil, k])
    · refine State.word_goes h e ?_ rfl
      simp only [retWord]
      rw [show (s.ctx c).stack = l ++ [a] from hk, List.getLast?_concat, List.dropLast_concat]
    · exact State.word_illegal h e (if_pos hla)
    · exact State.word_goes h e ((if_neg (by simpa [k] using hla)).trans (if_pos hw)) rfl
    · subst hy hz
      have hloop : (s.fetched c).loopWord c x (s.ctx c) = _ := (if_neg (by simpa [k] using hla)).trans (if_neg (not_not.mpr hw))
      split
      · next hbad => exact State.word_trap h e (hloop.trans (if_pos hbad))
      · next hbad =>
        split
        · next hfetch => exact State.word_illegal h e ((hloop.trans (if_neg hbad)).trans (if_pos hfetch))
        · next hfetch =>
          refine State.word_next_on h e ((hloop.trans (if_neg hbad)).trans (if_neg hfetch)) ?_
          rw [State.ctx_congr (State.fetchCorrect_ctxs _ _ _), State.fetched_ctx]
    · exact State.word_goes h e rfl rfl
    · refine State.word_done h e ((if_neg ?_).trans (congrArg _ (State.putCtx_same_st _ (by simp))))
      rintro ⟨h0, hpc⟩
      rcases hb with hb | hb
      · exact absurd h0 (by simp [hb])
      · exact absurd hb (Nat.not_lt.mpr hpc)
    · exact State.word_illegal h e (if_pos ⟨hb, hpc⟩)
    · refine ⟨_, State.word_done h e rfl, State.ctx_putCtx_same .., fun d hd => ?_, ?_⟩
      · rw [State.ctx_putCtx_other _ _ _ hd, State.fetched_ctx]
      · rw [State.putCtx_fifos, State.fetched_fifos]
  case sequence =>
    intro s c x h e k ends
    refine ⟨_, State.word_goes h e rfl rfl, fun d hd => ?_, ?_⟩
    · rw [State.completed, State.ctx_setCtx, if_neg hd, State.fetched_ctx]
    · have hctx : (s.completed c k x.nx).ctx c = k.complete x.nx := by rw [State.completed, State.ctx_setCtx, if_pos rfl]
      rw [hctx]
      exact k.complete_fields (State.nx_lt_of_issues h)

end Sys2Proof.Machine

/-! O29, TRAP, RETT, and the special registers (R140, R147-R151). -/

namespace Sys2Proof.Machine

open Sys2Proof

section Words
variable {s : State} {c : Nat} {x : Insn}

theorem State.syncTrap_of (t : State) (h : (t.ctx c).inHandler = false) (cause : Nat) (info addr : Option Nat) :
    t.syncTrap c cause info addr = t.enterTrap c cause info addr := if_neg (by simp [h])

/-- A trap entry leaves the registers, and saves the micro-state unless an earlier trap's stands. -/
theorem Ctx.toSave_fields (k : Ctx) (save : Bool) (tick : Nat) : (k.toSave save tick).w = k.w ∧
    (k.toSave save tick).traps = k.traps ∧ (k.toSave save tick).save = if save then k.saveWords else k.save := by
  cases hpoint : k.atPoint <;> cases save <;> (rw [Ctx.toSave, hpoint]; exact ⟨rfl, rfl, rfl⟩)

/-- A pending cause that is more urgent is taken, or the saved state comes back (R149, R151). -/
theorem State.trapReturn_back (t : State) (k : Ctx) (h : k.topPend = none) :
    t.trapReturn c k = (t.putCtx c { k.restore with st := .run }).setWindow c 2 := by
  rw [State.trapReturn, h]

theorem State.trapReturn_urgent (t : State) (k : Ctx) {y : Nat} (h : k.topPend = some y) (hy : k.tprio < causePrio y) :
    t.trapReturn c k = (t.setCtx c k).enterTrap c y (k.pendInfo y) none false := by
  rw [State.trapReturn, h]
  exact if_pos hy

theorem special_free {n : Nat} {base : Bool} (h : ¬(n = 15 ∨ 30 ≤ n ∨ (16 ≤ n ∧ base = false))) :
    ¬(reservedSpecial n = true ∨ baseSpecial n = true ∧ base = false) := by
  simp only [reservedSpecial, baseSpecial, decide_eq_true_eq]
  rintro (h' | ⟨⟨h16, -⟩, hb⟩)
  · exact h (h'.elim Or.inl fun h30 => Or.inr (Or.inl h30))
  · exact h (Or.inr (Or.inr ⟨h16, hb⟩))

/-- The flags that FLAGS holds (R140). -/
theorem bitAt_bits_four (v : Nat) {i : Nat} (hi : i < 4) : bitAt (bits v 0 4) i = bitAt v i := by
  rw [bitAt_eq_testBit, bitAt_eq_testBit, bits, pow_zero, Nat.div_one, Nat.testBit_mod_two_pow, decide_eq_true hi, Bool.true_and]

/-- A special that may be read. -/
theorem State.mfsWord_reads (t : State) (k : Ctx) (h : ¬(x.k % 64 = 15 ∨ 30 ≤ x.k % 64 ∨ (16 ≤ x.k % 64 ∧ k.isBase = false))) :
    t.mfsWord c x k = .next (k.put x.a (t.special c (x.k % 64) k)) x.nx t := by
  exact if_neg (special_free h)

/-- A special that may not be read or written. -/
theorem State.special_barred {t : State} {k : Ctx} (h : x.k % 64 = 15 ∨ 30 ≤ x.k % 64 ∨ (16 ≤ x.k % 64 ∧ k.isBase = false)) :
    t.mfsWord c x k = MRes.illegal t ∧ t.mtsWord c x k = MRes.illegal t := by
  have hbar : reservedSpecial (x.k % 64) = true ∨ baseSpecial (x.k % 64) = true ∧ k.isBase = false := by
    simp only [reservedSpecial, baseSpecial, decide_eq_true_eq]
    rcases h with h | h | ⟨h, hb⟩
    · exact Or.inl (Or.inl h)
    · exact Or.inl (Or.inr h)
    · by_cases h30 : x.k % 64 < 30
      · exact Or.inr ⟨⟨h, by omega⟩, hb⟩
      · exact Or.inl (Or.inr (by omega))
  exact ⟨if_pos hbar, if_pos hbar⟩

/-- A special that may be written, by its number. -/
theorem State.mtsWord_writes (t : State) (k : Ctx) (h : ¬(x.k % 64 = 15 ∨ 30 ≤ x.k % 64 ∨ (16 ≤ x.k % 64 ∧ k.isBase = false))) :
    t.mtsWord c x k =
      if x.k % 64 = 0 then .next (k.setFlagWord (k.get x.a)) x.nx t
      else if x.k % 64 = 1 then .next { k with seg := k.get x.a % 64 } x.nx t
      else if x.k % 64 = 3 then .next { k with lc := k.get x.a } x.nx t
      else if x.k % 64 = 10 then
        if t.flagOwn c (k.get x.a % 256) then .next { k with evtFlag := k.get x.a % 256 } x.nx t else MRes.illegal t
      else if 16 ≤ x.k % 64 ∧ x.k % 64 < 24 then .next { k with
        save := k.save.set (x.k % 64 - 16) (BitVec.ofNat 20 (k.get x.a)),
        baseSaved := if x.k % 64 = 16 then none else k.baseSaved } x.nx t
      else if x.k % 64 = 25 then .next k x.nx (t.irqDone c (k.get x.a % 64))
      else .next k x.nx t := by
  exact if_neg (special_free h)

/-- IRQ_DONE leaves the contexts (R165). -/
theorem State.irqDone_ctx (t : State) (i d : Nat) : (t.irqDone c i).ctx d = t.ctx d := by
  unfold State.irqDone
  dsimp only
  split <;> rfl

/-- The pending bits of a tray and its controller stand in registers of their own. -/
theorem State.irqDone_bits (t : State) (i : Nat) :
    (t.fld (Reg.TRY_IRQ_CTRL (t.trayOf c)) 8 8 = lowOf c → (t.irqDone c i).bit (Reg.TRY_IRQ_CTRL (t.trayOf c)) 1 = false) ∧
    (t.traySense (t.trayOf c) i ≠ 0 → (t.irqDone c i).trayPend (t.trayOf c) i = false) := by
  have hkey : Reg.TRY_IRQ_PEND_L (t.trayOf c) + i / 32 * 4 ≠ Reg.TRY_IRQ_CTRL (t.trayOf c) := by
    simp only [Reg.TRY_IRQ_PEND_L, Reg.TRY_IRQ_CTRL]
    omega
  generalize hu : t.setTrayPend (t.trayOf c) i (t.traySense (t.trayOf c) i = 0 && bitAt (t.tray (t.trayOf c)).levels i) = u
  have hdone : t.irqDone c i = if u.fld (Reg.TRY_IRQ_CTRL (t.trayOf c)) 8 8 = lowOf c
      then u.setBit (Reg.TRY_IRQ_CTRL (t.trayOf c)) 1 false else u := by
    rw [← hu]; rfl
  have hctrl : u.fld (Reg.TRY_IRQ_CTRL (t.trayOf c)) 8 8 = t.fld (Reg.TRY_IRQ_CTRL (t.trayOf c)) 8 8 := by
    rw [← hu]; exact State.fld_setBit_other _ hkey.symm ..
  rw [hdone, hctrl]
  refine ⟨fun h => ?_, fun h => ?_⟩
  · rw [if_pos h]
    exact State.bit_setBit_same _ _ 1 false (by decide)
  · have hclear : u.trayPend (t.trayOf c) i = false := by
      rw [← hu]
      exact (State.bit_setBit_same _ _ (i % 32) _ (Nat.mod_lt _ (by decide))).trans (by simp [h])
    split
    · exact (State.bit_setBit_other _ hkey ..).trans hclear
    · exact hclear

end Words

/-- Settles O29: TRAP and RETT by what stands in the save area, MFS and MTS by the number of the special. -/
theorem trapReturnAndSpecialRegisterWords : Obligations.TrapReturnAndSpecialRegisterWords := by
  refine ⟨?traps, ?specials⟩
  case traps =>
    intro s c x h k save
    refine ⟨fun e hin => ?_, fun e hb => ?_, fun e hb hp => ?_, fun e hb y hy hprio => ?_⟩
    · set u := (s.fetched c).setCtx c (k.complete x.nx) with hu
      have huc : u.ctx c = k.complete x.nx := by rw [hu, State.ctx_setCtx, if_pos rfl]
      have hkept : (k.complete x.nx).inHandler = k.inHandler ∧ (k.complete x.nx).traps = k.traps ∧ (k.complete x.nx).w = k.w := by
        obtain ⟨-, -, -, -, -, -, -, hr⟩ := k.complete_fields (State.nx_lt_of_issues h)
        rw [hr]
        exact ⟨rfl, rfl, rfl⟩
      obtain ⟨hkin, hktraps, hkw⟩ := hkept
      refine ⟨_, (State.word_trap h e rfl).trans (congrArg _ (State.syncTrap_of u (by rw [huc, hkin]; exact hin) ..)), ?_⟩
      obtain ⟨i, a, tick, hi, hctx⟩ := u.ctx_enterTrap c Cz.soft (some (x.k % 256)) none true
      refine ⟨fun d hd => ?_, ?_⟩
      · rw [hctx, if_neg hd, hu, State.ctx_setCtx, if_neg hd, State.fetched_ctx]
      · obtain ⟨hw, htraps, hsave⟩ := (k.complete x.nx).toSave_fields true tick
        intro r
        have hr : r = ((k.complete x.nx).toSave true tick).entered Cz.soft i a := by
          simp only [r, hctx, if_true, huc]
        rw [hr]
        exact ⟨rfl, rfl, rfl, rfl, rfl, rfl, rfl, rfl, rfl, hi _ rfl, by rw [Ctx.entered, htraps, hktraps], hw.trans hkw, hsave⟩
    · exact State.word_illegal h e (if_neg (by simpa [k] using hb))
    · have htop : k.topPend = none := by rw [Ctx.topPend, hp]; rfl
      refine ⟨_, State.word_done h e ((if_pos hb).trans (congrArg _ (State.trapReturn_back _ k htop))), fun d hd => ?_, ?_⟩
      · rw [State.setWindow_ctx, State.ctx_putCtx_other _ _ _ hd, State.fetched_ctx]
      · intro r
        have hr : r = { k.restore with st := .run } := by
          simp only [r, State.setWindow_ctx, State.ctx_putCtx_same]
        rw [hr]
        exact ⟨rfl, rfl, rfl, rfl, rfl, rfl, bitAt_bits_four _ (by decide), bitAt_bits_four _ (by decide),
          bitAt_bits_four _ (by decide), bitAt_bits_four _ (by decide), rfl, rfl, rfl, rfl, rfl, rfl, rfl⟩
    · refine ⟨_, State.word_done h e ((if_pos hb).trans (congrArg _ (State.trapReturn_urgent _ k hy hprio))), ?_⟩
      set u := (s.fetched c).setCtx c k with hu
      have huc : u.ctx c = k := by rw [hu, State.ctx_setCtx, if_pos rfl]
      obtain ⟨i, a, tick, hi, hctx⟩ := u.ctx_enterTrap c y (k.pendInfo y) none false
      obtain ⟨hw, -, hsave⟩ := k.toSave_fields false tick
      refine ⟨fun d hd => ?_, ?_⟩
      · rw [hctx, if_neg hd, hu, State.ctx_setCtx, if_neg hd, State.fetched_ctx]
      · rw [hctx, if_pos rfl, huc]
        exact ⟨rfl, rfl, rfl, hsave, hw, fun h1 => hi _ (by rw [h1]; rfl)⟩
  case specials =>
    intro s c x h k s' n t v pend flags low barred illegal gets puts
    have hn : n < 64 := Nat.mod_lt _ (by decide)
    have hfree : n < 15 → ¬(x.k % 64 = 15 ∨ 30 ≤ x.k % 64 ∨ (16 ≤ x.k % 64 ∧ k.isBase = false)) := by
      rintro _ (h' | h' | ⟨h', -⟩) <;> omega
    have hbase : k.isBase = true → 16 ≤ n → n < 30 → ¬(x.k % 64 = 15 ∨ 30 ≤ x.k % 64 ∨ (16 ≤ x.k % 64 ∧ k.isBase = false)) := by
      rintro hb _ _ (h' | h' | ⟨-, h'⟩)
      · omega
      · omega
      · exact Bool.false_ne_true (h'.symm.trans hb)
    refine ⟨fun e => ?_, fun e => ?_⟩
    · have hreads : ∀ {y : Nat}, ¬(x.k % 64 = 15 ∨ 30 ≤ x.k % 64 ∨ (16 ≤ x.k % 64 ∧ k.isBase = false)) → s'.special c n k = y →
          exec (.mfs c) s = gets y := by
        rintro y hf rfl
        exact State.word_goes h e (State.mfsWord_reads _ _ hf) rfl
      refine ⟨fun hb => State.word_illegal h e (State.special_barred hb).1, fun y hy => ?_, fun hb => ⟨fun hr => ?_, fun hr => ?_,
        fun hr => ?_, fun hr => ?_⟩⟩
      · have hlt : n < 15 := (List.getElem?_eq_some_iff.mp hy).1
        have hflags : flags = k.flagWord := by simp only [flags, Ctx.flagWord, Nat.mul_comm]
        have hcause : k.tcause + 16 * k.tprio = k.tcause + k.tprio * 2 ^ 4 := by omega
        refine hreads (hfree hlt) ?_
        simp only [low, hflags, hcause] at hy
        clear_value n
        interval_cases n <;> exact Option.some.inj hy
      · refine hreads (hbase hb hr.1 (by omega)) ?_
        obtain ⟨hlo, hhi⟩ := hr
        clear_value n
        interval_cases n <;> rfl
      · exact hreads (hbase hb (by omega) (by omega)) (by rw [hr]; rfl)
      · exact hreads (hbase hb (by omega) (by omega)) (by rw [hr]; rfl)
      · refine hreads (hbase hb (by omega) hr.2) ?_
        obtain ⟨hlo, hhi⟩ := hr
        clear_value n
        interval_cases n <;> rfl
    · have hword := @State.mtsWord_writes c x s' k
      have hignored : ¬(x.k % 64 = 15 ∨ 30 ≤ x.k % 64 ∨ (16 ≤ x.k % 64 ∧ k.isBase = false)) →
          x.k % 64 ∉ [0, 1, 3, 10, 16, 17, 18, 19, 20, 21, 22, 23, 25] → exec (.mts c) s = puts k := by
        intro hf hother
        simp only [List.mem_cons, List.not_mem_nil, or_false, not_or] at hother
        have hw := hword hf
        rw [if_neg (by omega), if_neg (by omega), if_neg (by omega), if_neg (by omega), if_neg (by omega), if_neg (by omega)] at hw
        exact State.word_goes h e hw rfl
      refine ⟨fun hb => State.word_illegal h e (State.special_barred hb).2, fun hr => ?_, fun hr => ?_, fun hr => ?_, fun hr => ?_,
        fun hr => ?_, fun hb => ⟨fun hr => ?_, fun hr => ?_, fun hr => ?_⟩⟩
      · exact State.word_goes h e ((hword (hfree (by omega))).trans (if_pos hr)) rfl
      · have h0 : x.k % 64 ≠ 0 := by omega
        exact State.word_goes h e (((hword (hfree (by omega))).trans (if_neg h0)).trans (if_pos hr)) rfl
      · have hw := hword (hfree (by omega))
        rw [if_neg (show x.k % 64 ≠ 0 by omega), if_neg (show x.k % 64 ≠ 1 by omega), if_pos hr] at hw
        exact State.word_goes h e hw rfl
      · exact hignored (hfree (by omega)) (by simp; omega)
      · have hw := hword (hfree (by omega))
        rw [if_neg (show x.k % 64 ≠ 0 by omega), if_neg (show x.k % 64 ≠ 1 by omega), if_neg (show x.k % 64 ≠ 3 by omega),
          if_pos hr] at hw
        split
        · next ho => exact State.word_goes h e (hw.trans (if_pos ho)) rfl
        · next ho => exact State.word_illegal h e (hw.trans (if_neg ho))
      · have hw := hword (hbase hb hr.1 (by omega))
        rw [if_neg (show x.k % 64 ≠ 0 by omega), if_neg (show x.k % 64 ≠ 1 by omega), if_neg (show x.k % 64 ≠ 3 by omega),
          if_neg (show x.k % 64 ≠ 10 by omega), if_pos (show 16 ≤ x.k % 64 ∧ x.k % 64 < 24 from hr), Ctx.get_eq, BitVec.ofNat_toNat,
          BitVec.setWidth_eq] at hw
        exact State.word_goes h e hw rfl
      · exact hignored (hbase hb (by omega) (by omega)) (by simp; omega)
      · have hw := hword (hbase hb (by omega) (by omega))
        rw [if_neg (show x.k % 64 ≠ 0 by omega), if_neg (show x.k % 64 ≠ 1 by omega), if_neg (show x.k % 64 ≠ 3 by omega),
          if_neg (show x.k % 64 ≠ 10 by omega), if_neg (show ¬(16 ≤ x.k % 64 ∧ x.k % 64 < 24) by omega), if_pos hr] at hw
        obtain ⟨hbusy, hpend⟩ := s'.irqDone_bits (c := c) (v % 64)
        refine ⟨_, State.word_next_on h e hw ?_, ?_, fun hc => hbusy hc, fun hc => hpend hc⟩
        · rw [State.irqDone_ctx, State.fetched_ctx]
        · rw [State.ctx_setCtx, if_pos rfl]

end Sys2Proof.Machine

/-! O30, SEND and the waits (R141, R154, R155). -/

namespace Sys2Proof.Machine

open Sys2Proof

/-! ### What a release and a trap leave -/

section Frames
variable (s : State) (c : Nat)

theorem State.enterTrap_flags (cause : Nat) (info addr : Option Nat) (save : Bool) :
    (s.enterTrap c cause info addr save).flags = s.flags := by
  rw [State.enterTrap_eq]
  exact (State.putCtx_flags ..).trans (s.ctxRecord_flags c cause info)

theorem State.ctx_enterTrap_other (cause : Nat) (info addr : Option Nat) (save : Bool) {d : Nat} (h : d ≠ c) :
    (s.enterTrap c cause info addr save).ctx d = s.ctx d := by
  obtain ⟨i, a, tick, -, hctx⟩ := s.ctx_enterTrap c cause info addr save
  rw [hctx, if_neg h]

theorem State.faultCtx_frame (cause : Nat) (info addr : Option Nat) : (s.faultCtx c cause info addr).flags = s.flags ∧
    ∀ d, d ≠ c → (s.faultCtx c cause info addr).ctx d = s.ctx d := by
  refine ⟨?_, fun d hd => ?_⟩
  · exact (State.putCtx_flags ..).trans (s.ctxRecord_flags c cause info)
  · exact (State.ctx_putCtx_other _ _ _ hd).trans (s.ctxRecord_ctx c cause info d)

/-- An asynchronous cause writes no flag, and of the contexts at most the one it reaches. -/
theorem State.asyncTrap_frame (cause : Nat) : (s.asyncTrap c cause).flags = s.flags ∧
    ∀ d, d ≠ c → (s.asyncTrap c cause).ctx d = s.ctx d := by
  have htrap : ∀ (u : State) (x y : Option Nat) b, u.flags = s.flags → (∀ d, d ≠ c → u.ctx d = s.ctx d) →
      (u.enterTrap c cause x y b).flags = s.flags ∧ ∀ d, d ≠ c → (u.enterTrap c cause x y b).ctx d = s.ctx d :=
    fun u x y b hf hc => ⟨(u.enterTrap_flags c cause x y b).trans hf, fun d hd => (u.ctx_enterTrap_other c cause x y b hd).trans (hc d hd)⟩
  have hset : ∀ k, (s.setCtx c k).flags = s.flags ∧ ∀ d, d ≠ c → (s.setCtx c k).ctx d = s.ctx d :=
    fun k => ⟨rfl, fun d hd => (s.ctx_setCtx c d k).trans (if_neg hd)⟩
  unfold State.asyncTrap
  dsimp only
  split
  · exact ⟨rfl, fun _ _ => rfl⟩
  split
  · exact htrap _ _ _ _ rfl (hset _).2
  split
  · exact htrap _ _ _ _ rfl fun _ _ => rfl
  split
  · exact s.faultCtx_frame c cause _ _
  split
  · exact htrap _ _ _ _ rfl fun _ _ => rfl
  split
  · exact ⟨rfl, fun _ _ => rfl⟩
  · exact hset _

@[simp] theorem Ctx.unblock_st (k : Ctx) (na tick time : Nat) : (k.unblock na tick time).st = if k.inHandler then .trap else .run := rfl

theorem Ctx.complete_inHandler (k : Ctx) (na : Nat) : (k.complete na).inHandler = k.inHandler := by
  rw [Ctx.complete_eq]
  show (k.looped na).inHandler = _
  unfold Ctx.looped
  split
  · split <;> rfl
  · rfl

/-- A release writes no flag, and of the contexts the released one alone: it issues again, or moves on with its release noted. -/
theorem State.release_frame (time : Nat) (z : Option Bool) : (s.release c time z).flags = s.flags ∧
    (∀ d, d ≠ c → (s.release c time z).ctx d = s.ctx d) ∧
    ((s.release c time z).ctx c).inHandler = (s.ctx c).inHandler ∧
    ((s.ctx c).st = .moving → ((s.release c time z).ctx c).st = .moving ∧ ((s.release c time z).ctx c).freed.isSome = true) ∧
    ((s.ctx c).st ≠ .moving → ((s.release c time z).ctx c).st = if (s.ctx c).inHandler then .trap else .run) := by
  have hput : ∀ k : Ctx, k.inHandler = (s.ctx c).inHandler → (k.st = if (s.ctx c).inHandler then .trap else .run) →
      (s.ctx c).st ≠ .moving → (s.putCtx c k).flags = s.flags ∧ (∀ d, d ≠ c → (s.putCtx c k).ctx d = s.ctx d) ∧
      ((s.putCtx c k).ctx c).inHandler = (s.ctx c).inHandler ∧
      ((s.ctx c).st = .moving → ((s.putCtx c k).ctx c).st = .moving ∧ ((s.putCtx c k).ctx c).freed.isSome = true) ∧
      ((s.ctx c).st ≠ .moving → ((s.putCtx c k).ctx c).st = if (s.ctx c).inHandler then .trap else .run) := by
    intro k hk hst hmove
    rw [State.ctx_putCtx_same]
    exact ⟨State.putCtx_flags .., fun d hd => State.ctx_putCtx_other _ _ _ hd, hk, fun h => absurd h hmove, fun _ => hst⟩
  unfold State.release
  dsimp only
  split
  · next hmove =>
    rw [State.ctx_setCtx, if_pos rfl]
    exact ⟨rfl, fun d hd => (s.ctx_setCtx c d _).trans (if_neg hd), rfl, fun _ => ⟨hmove, rfl⟩, fun h => absurd hmove h⟩
  · next hmove =>
    split
    · exact hput _ rfl rfl hmove
    · have hcomplete : ∀ j : Ctx, j.inHandler = (s.ctx c).inHandler → ∀ na,
          ((j.complete na).unblock (j.complete na).pc s.tick time).inHandler = (s.ctx c).inHandler ∧
          ((j.complete na).unblock (j.complete na).pc s.tick time).st = if (s.ctx c).inHandler then .trap else .run := by
        intro j hj na
        have hin := (j.complete_inHandler na).trans hj
        exact ⟨hin, by rw [Ctx.unblock_st, hin]⟩
      obtain ⟨hin, hst⟩ := hcomplete (match z with | some b => { s.ctx c with z := b } | none => s.ctx c) (by cases z <;> rfl)
        (s.curInsn c).nx
      exact hput _ hin hst hmove

end Frames

/-! ### A SEND -/

section Send
variable (s : State)

/-- Releases of some contexts: each issues again, or moves on with its release noted; the flags and the other contexts stay. -/
theorem State.releases_frame (z : State → Nat → Option Bool) (l : List Nat) :
    let t := l.foldl (fun s c => s.release c s.tb.now (z s c)) s
    t.flags = s.flags ∧ (∀ d, d ∉ l → t.ctx d = s.ctx d) ∧
    ∀ d ∈ l, ((s.ctx d).st = .moving → (t.ctx d).st = .moving ∧ (t.ctx d).freed.isSome = true) ∧
      ((s.ctx d).st ≠ .moving → (t.ctx d).st = if (s.ctx d).inHandler then .trap else .run) := by
  induction l generalizing s with
  | nil => exact ⟨rfl, fun _ _ => rfl, fun d hd => absurd hd (List.not_mem_nil)⟩
  | cons c r ih =>
    obtain ⟨hflags, hother, hin, hmoving, hstays⟩ := s.release_frame c s.tb.now (z s c)
    obtain ⟨ihflags, ihother, ihl⟩ := ih (s.release c s.tb.now (z s c))
    refine ⟨ihflags.trans hflags, fun d hd => ?_, fun d hd => ?_⟩
    · obtain ⟨hc, hr⟩ := not_or.mp (mt List.mem_cons.mpr hd)
      exact (ihother d hr).trans (hother d hc)
    · by_cases hr : d ∈ r
      · obtain ⟨ihm, ihs⟩ := ihl d hr
        by_cases hc : d = c
        · subst hc
          refine ⟨fun h => ihm (hmoving h).1, fun h => ?_⟩
          have hst := hstays h
          exact (ihs (by rw [hst]; split <;> decide)).trans (by rw [hin])
        · rw [← hother d hc]
          exact ⟨ihm, ihs⟩
      · obtain rfl := (List.mem_cons.mp hd).resolve_right hr
        rw [List.foldl_cons, ihother d hr]
        exact ⟨hmoving, hstays⟩

/-- Event traps of some contexts: the flags and the other contexts stay. -/
theorem State.asyncTraps_frame (cause : Nat) (l : List Nat) :
    (l.foldl (fun s c => s.asyncTrap c cause) s).flags = s.flags ∧
    ∀ d, d ∉ l → (l.foldl (fun s c => s.asyncTrap c cause) s).ctx d = s.ctx d := by
  induction l generalizing s with
  | nil => exact ⟨rfl, fun _ _ => rfl⟩
  | cons c r ih =>
    obtain ⟨hflags, hother⟩ := s.asyncTrap_frame c cause
    obtain ⟨ihflags, ihother⟩ := ih (s.asyncTrap c cause)
    refine ⟨ihflags.trans hflags, fun d hd => ?_⟩
    obtain ⟨hc, hr⟩ := not_or.mp (mt List.mem_cons.mpr hd)
    exact (ihother d hr).trans (hother d hc)

theorem State.mem_flagWaiters {l f d : Nat} : d ∈ s.flagWaiters l f ↔ d ∈ s.trayCtxs l ∧ (s.ctx d).waitsOn f = true := List.mem_filter

/-- A flag that nobody waits for and nobody traps on is set. -/
theorem State.sendFlag_idle {l f : Nat} (hw : s.flagWaiters l f = []) (he : s.flagEvents l f = []) :
    s.sendFlag l f = s.setFlag (flagKey l f) { s.flag (flagKey l f) with set := true } := by
  simp only [State.sendFlag, hw, he, and_self, if_true, List.foldl_nil]

/-- A flag that somebody waits for stays, and every waiter is released. -/
theorem State.sendFlag_waiters {l f : Nat} (hw : s.flagWaiters l f ≠ []) :
    (s.sendFlag l f).flags = s.flags := by
  simp only [State.sendFlag, hw, false_and, if_false]
  exact (State.asyncTraps_frame _ _ _).1.trans (State.releases_frame _ _ _).1

/-- A SEND takes no time. -/
theorem State.sendFlag_tick (l f : Nat) : (s.sendFlag l f).tick = s.tick := by
  have hreleases : ∀ (u : State) (w : List Nat) (z : State → Nat → Option Bool),
      (w.foldl (fun s c => s.release c s.tb.now (z s c)) u).wipe ctxEvent = u.wipe ctxEvent := fun u w z =>
    State.foldl_wipe _ _ (fun _ _ => State.release_event ..) _ _
  have htraps : ∀ (u : State) (w : List Nat), (w.foldl (fun s c => s.asyncTrap c Cz.event) u).wipe ctxEvent = u.wipe ctxEvent :=
    fun u w => State.foldl_wipe _ _ (fun _ _ => State.asyncTrap_event ..) _ _
  have hboth := State.tick_of_wipe ((htraps _ (s.flagEvents l f)).trans (hreleases s (s.flagWaiters l f)
    (fun s c => if (s.ctx c).waitKind = 2 then some false else none))) (by decide)
  unfold State.sendFlag
  dsimp only
  split
  · exact hboth
  · exact hboth

theorem State.sendFlag_released {l f d : Nat} (hd : d ∈ s.flagWaiters l f) :
    ((s.ctx d).st = .moving → ((s.sendFlag l f).ctx d).st = .moving ∧ ((s.sendFlag l f).ctx d).freed.isSome = true) ∧
    ((s.ctx d).st ≠ .moving → ((s.sendFlag l f).ctx d).st = if (s.ctx d).inHandler then .trap else .run) := by
  have hne : s.flagWaiters l f ≠ [] := List.ne_nil_of_mem hd
  have hquiet : d ∉ s.flagEvents l f := by
    have hwaits := (s.mem_flagWaiters.mp hd).2
    simp [State.flagEvents, hwaits]
  obtain ⟨-, -, hreleased⟩ := s.releases_frame (fun s c => if (s.ctx c).waitKind = 2 then some false else none) (s.flagWaiters l f)
  simp only [State.sendFlag, hne, false_and, if_false]
  rw [(State.asyncTraps_frame _ _ _).2 d hquiet]
  exact hreleased d hd

end Send

/-! ### The waits -/

section Waits
variable {s : State} {c : Nat} {x : Insn}

/-- The flag that a wait takes, by the fabric clock of the last SEND to it (R154). -/
theorem State.takeFlag_of (s : State) (key : Nat) : s.takeFlag key =
    if (s.flag key).sentAt = some (s.tick / 2) then some { s.flag key with set := (s.flag key).was && (s.flag key).quiet, was := false }
    else if (s.flag key).set then some { s.flag key with set := false } else none := rfl

@[simp] theorem State.fetched_tick (s : State) (c : Nat) : (s.fetched c).tick = s.tick := by
  rw [State.fetched, State.fetchCorrect]
  split <;> simp [State.takeTurn, State.turnAt]

/-- A context that waits for nothing is in RUN or TRAP: it is about to execute a word. -/
theorem State.st_of_issues (h : s.issues c x) : (s.ctx c).st = .run ∨ (s.ctx c).st = .trap := by
  obtain ⟨-, hissuing, -⟩ := h
  simp only [State.issuing, State.readyToIssue, Bool.and_eq_true, Bool.or_eq_true, beq_iff_eq] at hissuing
  exact hissuing.1.1.2.1

/-- A context about to execute waits on no flag. -/
theorem State.waitsOn_of_issues (h : s.issues c x) (f : Nat) : (s.ctx c).waitsOn f = false := by
  rcases State.st_of_issues h with e | e <;> simp [Ctx.waitsOn, e]

end Waits

/-- Settles O30: a SEND by who waits for its flag, and each wait by the flag and the time it finds. -/
theorem flagAndWaitWords : Obligations.FlagAndWaitWords := by
  intro s c x h k f s' l key until_ g sameClock cleared before sent passed blocked idle
  have hk : s'.ctx c = k := State.fetched_ctx s c c
  have htick : s'.tick = s.tick := State.fetched_tick s c
  have hpass : ∀ {op : Nat} {i : Insn → Ctx → State → MRes} (t : State) (time : Nat) (z : Option Bool) (b : Bool), x.op = op →
      i x (s.ctx c) s' = .next (waitedOn k time z) x.nx t → t.ctxs = s'.ctxs → z.getD k.z = b →
      onUnit (okCtx c) (s.issue c op i) = passed t time b := by
    rintro op i t time z b e hi ht rfl
    exact State.word_next_on h e hi (by rw [State.ctx_congr ht, hk])
  have hblock : ∀ {op : Nat} {i : Insn → Ctx → State → MRes} (st : CState) (kind flag deadline : Nat), x.op = op →
      i x (s.ctx c) s' = .done (s'.block c st kind flag deadline) →
      onUnit (okCtx c) (s.issue c op i) = blocked st kind flag deadline := by
    intro op i st kind flag deadline e hi
    refine (State.word_done h e hi).trans (congrArg _ ?_)
    rw [State.block, hk]
  have htake : s'.takeFlag key = if sameClock then some { g with set := g.was && g.quiet, was := false }
      else if g.set then some { g with set := false } else none := by
    rw [State.takeFlag_of, htick]
  have hsame : sameClock → s'.takeFlag key = some { g with set := g.was && g.quiet, was := false } := fun hs => by
    rw [htake, if_pos hs]
  have hset : ¬sameClock → g.set = true → s'.takeFlag key = some { g with set := false } := fun hs hg => by
    rw [htake, if_neg hs, if_pos hg]
  have hnone : ¬sameClock → g.set = false → s'.takeFlag key = none := fun hs hg => by
    rw [htake, if_neg hs, if_neg (by rw [hg]; decide)]
  have hwait : s'.flagOwn c f = true → s'.doWait c f (s.ctx c) x.nx = match s'.takeFlag key with
        | some g => .next (waitedOn k s'.tb.now none) x.nx (s'.setFlag key g)
        | none => .done (s'.block c .wait 1 f 0) := fun how => if_neg (by rw [how]; decide)
  have hwaitt : x.a ≤ 13 → s'.flagOwn c f = true → (if 13 < x.a then MRes.illegal s' else s'.doWaitt c f (k.get3 x.a) k x.nx) =
      match s'.takeFlag key with
        | some g => .next (waitedOn k s'.tb.now (some false)) x.nx (s'.setFlag key g)
        | none => if s'.reached until_ then .next (waitedOn k until_ (some true)) x.nx s' else .done (s'.block c .twait 2 f until_) := by
    intro ha how
    rw [if_neg (Nat.not_lt.mpr ha), Ctx.get3_eq]
    exact if_neg (by rw [how]; decide)
  refine ⟨fun e hf how hsend => ?_, fun e how hs => ?_, fun e how hs hg => ?_, fun e how hs hg => ?_, fun e ha how hs => ?_,
    fun e ha how hs hg => ?_, fun e ha how hs hg => ?_, fun e ha => ?_⟩
  · have hword : exec (.send c) s = .next (((s'.sendFlag l f).noteSend s' l f).putCtx c
        ((((s'.sendFlag l f).noteSend s' l f).ctx c).complete x.nx)) := by
      refine State.word_done h e (if_neg ?_)
      rintro (h1 | h1 | h1)
      · exact absurd hf (Nat.not_lt.mpr h1)
      · exact h1 (by rw [hk]; exact how)
      · rw [List.contains_iff_mem.mpr hsend] at h1
        exact absurd h1 (by decide)
    have hnote : ∀ found, (decide (s'.flagWaiters l f = []) && decide (s'.flagEvents l f = [])) = found →
        (s'.sendFlag l f).flag key = { g with set := g.set || found } →
        ((s'.sendFlag l f).noteSend s' l f).flag key = sent found := by
      rintro _ rfl hflag
      rw [State.noteSend, State.flag_setFlag, if_pos rfl, hflag, State.sendFlag_tick, htick]
    have hmem : ∀ d, d ∈ s'.flagWaiters l f ↔ d ∈ s'.trayCtxs l ∧ (s.ctx d).waitsOn f = true := fun d => by
      rw [State.mem_flagWaiters, State.fetched_ctx]
    have hself : ∀ d, (s.ctx d).waitsOn f = true → d ≠ c := by
      rintro d hd rfl
      exact Bool.false_ne_true ((State.waitsOn_of_issues h f).symm.trans hd)
    refine ⟨fun hidle => ?_, _, hword, fun ⟨d, hd, hwaits⟩ => ?_, fun d hd hwaits hst => ?_, fun d hd hwaits hst => ?_⟩
    · have hw : s'.flagWaiters l f = [] :=
        List.filter_eq_nil_iff.mpr fun d hd => by rw [State.fetched_ctx, (hidle d hd).1]; decide
      have he : s'.flagEvents l f = [] := by
        refine List.filter_eq_nil_iff.mpr fun d hd => ?_
        rw [State.fetched_ctx]
        have hne := (hidle d hd).2
        cases hon : (s.ctx d).evtOn
        · simp
        · simp [hne hon]
      have hsent := s'.sendFlag_idle hw he
      refine ⟨(s'.sendFlag l f).noteSend s' l f, hword.trans (congrArg _ ?_), hnote true (by simp [hw, he]) ?_, fun y hy => ?_, ?_⟩
      · have hctx : ((s'.sendFlag l f).noteSend s' l f).ctx c = k := by rw [hsent]; exact hk
        rw [hctx]
        exact State.putCtx_same_st _ (by rw [hctx, Ctx.complete_st])
      · rw [hsent, State.flag_setFlag, if_pos rfl, Bool.or_true]
      · rw [State.noteSend, State.flag_setFlag, if_neg hy, hsent, State.flag_setFlag, if_neg hy]
      · rw [hsent]
        rfl
    · have hne : s'.flagWaiters l f ≠ [] := List.ne_nil_of_mem ((hmem d).mpr ⟨hd, hwaits⟩)
      rw [State.flag, State.putCtx_flags]
      refine hnote false (by simp [hne]) ?_
      rw [State.flag, State.sendFlag_waiters _ hne, Bool.or_false]
      rfl
    · have hmove := (s'.sendFlag_released ((hmem d).mpr ⟨hd, hwaits⟩)).2
      rw [State.fetched_ctx] at hmove
      exact (congrArg Ctx.st (State.ctx_putCtx_other _ _ _ (hself d hwaits))).trans (hmove hst)
    · have hmove := (s'.sendFlag_released ((hmem d).mpr ⟨hd, hwaits⟩)).1
      rw [State.fetched_ctx] at hmove
      rw [State.ctx_putCtx_other _ _ _ (hself d hwaits)]
      exact hmove hst
  · exact hpass before _ none _ e ((hwait how).trans (by rw [hsame hs])) rfl rfl
  · exact hpass cleared _ none _ e ((hwait how).trans (by rw [hset hs hg])) rfl rfl
  · exact hblock _ _ _ _ e ((hwait how).trans (by rw [hnone hs hg]))
  · exact hpass before _ (some false) _ e ((hwaitt ha how).trans (by rw [hsame hs])) rfl rfl
  · exact hpass cleared _ (some false) _ e ((hwaitt ha how).trans (by rw [hset hs hg])) rfl rfl
  · have hword := hwaitt ha how
    rw [hnone hs hg] at hword
    split
    · next hr => exact hpass s' _ (some true) _ e (hword.trans (if_pos hr)) rfl rfl
    · next hr => exact hblock _ _ _ _ e (hword.trans (if_neg hr))
  · have hword : (if 13 < x.a then MRes.illegal s' else s'.doTwait c (k.get3 x.a) k x.nx) =
        if s'.reached until_ then .next (waitedOn k until_ none) x.nx s' else .done (s'.block c .twait 3 0 until_) := by
      rw [if_neg (Nat.not_lt.mpr ha), Ctx.get3_eq]; rfl
    split
    · next hr => exact hpass s' _ none _ e (hword.trans (if_pos hr)) rfl rfl
    · next hr => exact hblock _ _ _ _ e (hword.trans (if_neg hr))

end Sys2Proof.Machine

/-! O31, actions in and out of contexts (R158, R160-R162). -/

namespace Sys2Proof.Machine

open Sys2Proof

/-! ### EMIT -/

section Emit
variable (s : State) (c p : Nat) (a : ActionEntry)

theorem State.judging_ctxs {s t : State} (h : t.wipe judging = s.wipe judging) : t.ctxs = s.ctxs := State.ctxs_of_wipe h (by decide)

/-- The state in which an EMIT is counted: in its context, and in the network of its tray (R162). -/
def State.emitCounted : State := (s.setCtx c { s.ctx c with emits := (s.ctx c).emits + 1 }).noteEmit (s.trayOf c)

/-- The action of an EMIT as it enters its target's FIFO. -/
def State.emitFlight : Flight :=
  let n := (s.ctx c).port p
  { act := a, org := .near c (p % 8), ord := (s.ctx c).emits, ttype := n.ttype, target := n.target, due := a.time }

/-- Where the action of an EMIT goes: into the FIFO, or for a guarded context to its voter, unless the replica is being made. -/
theorem State.emitTo_eq : s.emitTo c p a =
    let n := (s.ctx c).port p
    let t := s.emitCounted c
    if (s.ctx c).guarded then
      if (t.replicas c).contains c then t.setCtx c { t.ctx c with sent := (s.ctx c).sent ++ [s.emitFlight c p a] } else t
    else (t.pushFifo n.ttype n.target (s.emitFlight c p a)).judgeFifo n.ttype n.target := rfl

theorem State.ctx_emitCounted (d : Nat) : (s.emitCounted c).ctx d =
    if d = c then { s.ctx c with emits := (s.ctx c).emits + 1 } else s.ctx d := s.ctx_setCtx c d _

/-- An EMIT writes its own context alone: it counts there, and a copy for the voter waits there. -/
theorem State.ctx_emitTo_same : ∃ sent, (s.emitTo c p a).ctx c = { s.ctx c with emits := (s.ctx c).emits + 1, sent := sent } ∧
    ((s.ctx c).guarded = false → sent = (s.ctx c).sent) := by
  have hcounted : (s.emitCounted c).ctx c = { s.ctx c with emits := (s.ctx c).emits + 1 } := (s.ctx_emitCounted c c).trans (if_pos rfl)
  rw [State.emitTo_eq]
  dsimp only
  by_cases hg : (s.ctx c).guarded = true
  · refine ⟨if ((s.emitCounted c).replicas c).contains c then (s.ctx c).sent ++ [s.emitFlight c p a] else (s.ctx c).sent, ?_,
      fun h => absurd h (by simp [hg])⟩
    rw [if_pos hg]
    split
    · rw [State.ctx_setCtx, if_pos rfl, hcounted]
    · exact hcounted
  · refine ⟨(s.ctx c).sent, ?_, fun _ => rfl⟩
    rw [if_neg hg]
    exact (State.ctx_congr (State.judging_ctxs ((State.judgeFifo_judging ..).trans (State.pushFifo_judging ..))) c).trans hcounted

theorem State.ctx_emitTo_other {d : Nat} (hd : d ≠ c) : (s.emitTo c p a).ctx d = s.ctx d := by
  have hcounted : (s.emitCounted c).ctx d = s.ctx d := (s.ctx_emitCounted c d).trans (if_neg hd)
  rw [State.emitTo_eq]
  dsimp only
  split
  · split
    · rw [State.ctx_setCtx, if_neg hd, hcounted]
    · exact hcounted
  · exact (State.ctx_congr (State.judging_ctxs ((State.judgeFifo_judging ..).trans (State.pushFifo_judging ..))) d).trans hcounted

/-- EMIT by what its port finds (R161). -/
theorem State.doEmit_ungranted (na : Nat) (h : ((s.ctx c).port p).ttype = 0) : s.doEmit c p a na = MRes.illegal s := if_pos h

theorem State.doEmit_room (na : Nat) (h : ((s.ctx c).port p).ttype ≠ 0) (hroom : s.portRoom ((s.ctx c).port p) = true) :
    s.doEmit c p a na = .next ((s.emitTo c p a).ctx c) na (s.emitTo c p a) := (if_neg h).trans (if_pos hroom)

theorem State.doEmit_full (na : Nat) (h : ((s.ctx c).port p).ttype ≠ 0) (hroom : s.portRoom ((s.ctx c).port p) = false) :
    s.doEmit c p a na = .done (s.block c .press 5 0 0) := (if_neg h).trans (if_neg (by simp [hroom]))

end Emit

/-! ### RECV -/

section Recv
variable (s : State)

theorem ofNat_bits_twenty (v lo : Nat) : BitVec.ofNat 20 (bits v lo 20) = BitVec.ofNat 20 (v / 2 ^ lo) := by
  apply BitVec.eq_of_toNat_eq
  rw [BitVec.toNat_ofNat, BitVec.toNat_ofNat, bits, Nat.mod_mod]

theorem Ctx.withReg_st (k : Ctx) (i : Nat) (v : BitVec 20) : (k.withReg i v).st = k.st := rfl

theorem Ctx.withThree_st (k : Ctx) (i : Nat) (v : BitVec 60) : (k.withThree i v).st = k.st := rfl

theorem waitedOn_none (k : Ctx) (time : Nat) : waitedOn k time none = { k with evtTime := time } := rfl

@[simp] theorem State.fetched_tb (c : Nat) : (s.fetched c).tb = s.tb := by
  rw [State.fetched, State.fetchCorrect]
  split <;> simp [State.takeTurn, State.turnAt]

/-- What RECV loads (R160). -/
theorem Ctx.load_eq (k : Ctx) (a : Nat) (x : ActionEntry) (late : Bool) : k.load a x late =
    ((((k.withThree a (BitVec.ofNat 60 x.time)).withReg (a + 3) (BitVec.ofNat 20 x.arg)).withReg (a + 4)
      (BitVec.ofNat 20 (x.arg / 2 ^ 20))).withReg (a + 5) (BitVec.ofNat 20 (x.arg / 2 ^ 40 % 256 + x.sub % 256 * 256))).withReg (a + 6)
      (BitVec.ofNat 20 (x.op % 256 + x.late % 4 * 256 + b2n x.log * 1024 + b2n x.sealed * 2048 + b2n late * 4096)) := by
  simp only [Ctx.load, Ctx.put_eq, Ctx.put3_eq, ofNat_bits_twenty, pow_zero, Nat.div_one]
  rfl

/-- The head that is ready is an action of the FIFO's own target. -/
theorem State.headReady_own {ttype target op : Nat} {f : Flight} (h : s.headReady ttype target op = some f) :
    f.ttype = ttype ∧ f.target = target := by
  unfold State.headReady at h
  split at h
  · exact absurd h (by simp)
  · obtain ⟨⟨htype, htarget, -⟩, hf⟩ := Option.ite_none_right_eq_some.mp h
    obtain rfl := Option.some.inj hf
    exact ⟨htype, htarget⟩

/-- A user action at the head of its own context's FIFO. -/
theorem State.recvHead_own {c : Nat} {f : Flight} (h : s.recvHead c = some f) : f.ttype = 5 ∧ f.target = c := by
  unfold State.recvHead at h
  split at h
  · exact absurd h (by simp)
  · exact s.headReady_own (Option.ite_none_right_eq_some.mp h).2

/-- The context that has taken an action notes when, and no other one is written. -/
theorem State.ctx_finish {c : Nat} {f : Flight} (h : s.recvHead c = some f) (d : Nat) :
    (s.finish f).ctx d = if d = c then { s.ctx c with took := some s.tb.now } else s.ctx d := by
  obtain ⟨htype, htarget⟩ := s.recvHead_own h
  rw [State.ctx_congr (s.ctxs_finish f), State.taken, if_pos htype, htarget, State.ctx_setCtx]

/-- The head of an input FIFO stands by the FIFO, the clock and the mode alone. -/
theorem State.recvHead_setCtx (c d : Nat) (k : Ctx) : (s.setCtx c k).recvHead d = s.recvHead d := rfl

end Recv

/-! ### A blocked word is taken up again -/

section Retry
variable (s : State) (c : Nat)

/-- A context that neither enters nor leaves PRESS or FAULTED, and can go on, is only put back. -/
theorem State.putCtx_quiet {c : Nat} {k : Ctx} (hold : (s.ctx c).st ≠ .press ∧ (s.ctx c).st ≠ .faulted)
    (hnew : k.st ≠ .press ∧ k.st ≠ .faulted ∧ k.st.dead = false) : s.putCtx c k = s.setCtx c k := by
  obtain ⟨hpress, hfault⟩ := hold
  obtain ⟨hnpress, hnfault, hdead⟩ := hnew
  simp [State.putCtx, hpress, hfault, hnpress, hnfault, hdead]

/-- The context whose blocked word runs again. -/
def State.resumed : Ctx :=
  { (s.ctx c).go with
    since := s.tick, lastPoint := if (s.ctx c).st = .recv ∧ (s.ctx c).inHandler = false then s.tick else (s.ctx c).lastPoint }

variable {s c}

/-- A loaded word stands in the control store, whatever the base set is. -/
theorem State.csWord_of_loaded {t : State} {y a : Nat} (hcs : t.cs = s.cs) (h : s.native y a = false) : t.csWord y a = s.csWord y a := by
  rw [State.csWord, State.csWord, hcs]
  split
  · rfl
  next hnone =>
  have hfree : (Tbl.keys s.cs).contains (csKey y a) = false := by
    rw [← Bool.not_eq_true, List.contains_iff_mem]
    rintro hm
    obtain ⟨e, he, hkey⟩ := List.mem_map.mp hm
    exact absurd hkey (by simpa using List.find?_eq_none.mp hnone e he)
  have hhigh : ¬a < 0x2000 := by
    intro hlow
    rw [State.native, hfree, decide_eq_true hlow] at h
    exact absurd h (by decide)
  rw [if_neg hhigh, if_neg hhigh]

/-- The word runs, and nothing asynchronous comes before. -/
theorem State.retry_of (hnative : s.native (s.trayOf c) (s.ctx c).pc = false) (hpend : (s.ctx c).pend = [])
    (f : Insn → Ctx → State → MRes) :
    s.retry c f = (f (s.curInsn c) (s.resumed c) (s.putCtx c (s.resumed c))).settled c := by
  have hctx : (s.putCtx c (s.resumed c)).ctx c = s.resumed c := State.ctx_putCtx_same ..
  have hnone : (if (s.resumed c).inHandler then none else (s.resumed c).topPend) = none := by
    have : (s.resumed c).topPend = none := by rw [Ctx.topPend, show (s.resumed c).pend = [] from hpend]; rfl
    rw [this]; split <;> rfl
  have hcs : (s.putCtx c (s.resumed c)).cs = s.cs := State.cs_of_wipe (s.putCtx_event ..) (by decide)
  have hretry : s.retry c f = (s.putCtx c (s.resumed c)).settleWord c
      (f (s.curInsn c) ((s.putCtx c (s.resumed c)).ctx c) (s.putCtx c (s.resumed c))) := by
    have hshape : s.retry c f = (let u := s.putCtx c (s.resumed c)
        if u.native (s.trayOf c) (s.ctx c).pc then u.settleWord c (u.baseEntry c)
        else u.settleWord c (f (insnOf (u.csWord (s.trayOf c) (s.ctx c).pc)) (u.ctx c) u)) := rfl
    have hstill : (s.putCtx c (s.resumed c)).native (s.trayOf c) (s.ctx c).pc = false := by
      rw [State.native, hcs]; exact hnative
    rw [hshape]
    dsimp only
    rw [if_neg (by rw [hstill]; decide), State.csWord_of_loaded hcs hnative]
    rfl
  rw [hretry]
  simp only [State.settleWord, hctx, hnone]
  cases f (s.curInsn c) (s.resumed c) (s.putCtx c (s.resumed c)) <;> rfl

theorem State.resumed_st : (s.resumed c).st = if (s.ctx c).inHandler then .trap else .run := rfl

end Retry

/-- A word of EMIT that may be executed is one the network is asked for. -/
theorem State.emitting_of_issues {s : State} {c : Nat} {x : Insn} (h : s.issues c x) (hop : x.op = 0x38) : s.emitting c = true := by
  obtain ⟨-, hissuing, hbad, hfetch, hnative, hx, -⟩ := h
  simp only [State.emitting, hissuing, hfetch, hnative, Bool.true_and, Bool.not_false]
  rw [hbad, show insnOf (s.csWord (s.trayOf c) (s.ctx c).pc) = x from hx, hop]
  rfl

theorem Ctx.complete_emits (k : Ctx) (na : Nat) : (k.complete na).emits = k.emits ∧ (k.complete na).evtTime = k.evtTime ∧
    (k.complete na).w = k.w ∧ (k.complete na).z = k.z := by
  rw [Ctx.complete_eq]
  show (k.looped na).emits = _ ∧ (k.looped na).evtTime = _ ∧ (k.looped na).w = _ ∧ (k.looped na).z = _
  unfold Ctx.looped
  split
  · split <;> exact ⟨rfl, rfl, rfl, rfl⟩
  · exact ⟨rfl, rfl, rfl, rfl⟩

/-- Settles O31: EMIT by its port, RECV and WAKE by the head of the input FIFO, and a blocked word as it runs again. -/
theorem actionsInAndOutOfContexts : Obligations.ActionsInAndOutOfContexts := by
  intro s c k go loaded
  refine ⟨?emit, ?recv, ?unblocked, ?wake⟩
  case emit =>
    intro x h e ha s' port flight counted
    have hk : s'.ctx c = k := State.fetched_ctx s c c
    have hword : s.emitTurn c = true → ∀ r, s'.doEmit c (x.k % 8) (k.action x.a) x.nx = r → ∀ t, r.settled c = t →
        exec (.emit c) s = .next t := by
      rintro hturn r hr t rfl
      refine (State.onCtx h _).trans (congrArg _ ?_)
      rw [if_neg (by simp [hturn]), ← e, State.issue_of_issues h, State.settleWord_of_issues h, if_neg (by omega), hr]
    refine ⟨fun hturn => ?_, fun hturn => ⟨fun hp => ?_, fun hp hroom hg => ?_, fun hp hroom => ?_⟩⟩
    · exact (State.onCtx h _).trans (congrArg _ (if_pos ⟨State.emitting_of_issues h e, hturn⟩))
    · exact hword hturn _ (State.doEmit_ungranted _ _ _ _ _ (by rw [hk]; exact hp)) _ rfl
    · obtain ⟨sent, hsame, hsent⟩ := s'.ctx_emitTo_same c (x.k % 8) (k.action x.a)
      rw [hk] at hsame hsent
      have hctx : (s'.emitTo c (x.k % 8) (k.action x.a)).ctx c = { k with emits := k.emits + 1 } := by rw [hsame, hsent hg]
      have hto : s'.emitTo c (x.k % 8) (k.action x.a) = (counted.pushFifo port.ttype port.target flight).judgeFifo port.ttype port.target := by
        rw [State.emitTo_eq]
        dsimp only
        rw [hk, if_neg (by simp [hg]), State.emitCounted, State.emitFlight, hk, Nat.mod_mod]
      refine ⟨_, hword hturn _ (State.doEmit_room _ _ _ _ _ (by rw [hk]; exact hp) (by rw [hk]; exact hroom)) _ rfl, ?_, fun d hd => ?_,
        ?_, ?_⟩
      · rw [hctx]
        exact State.ctx_putCtx_same ..
      · exact (State.ctx_putCtx_other _ _ _ hd).trans ((State.ctx_emitTo_other _ _ _ _ hd).trans (State.fetched_ctx ..))
      · exact (State.putCtx_fifos ..).trans (congrArg _ hto)
      · exact (State.cuffs_of_wipe (State.putCtx_event ..) (by decide)).trans (congrArg _ hto)
    · refine hword hturn _ (State.doEmit_full _ _ _ _ _ (by rw [hk]; exact hp) (by rw [hk]; exact hroom)) _ ?_
      show s'.putCtx c _ = _
      rw [hk]
  case recv =>
    intro x h e ha s'
    have hk : s'.ctx c = k := State.fetched_ctx s c c
    have hrecv : s'.doRecv c x.a x.nx k = match s'.recvHead c with
        | some f => s'.takeInput x.a x.nx f k
        | none => .done (s'.block c .recv 4 0 0) := if_neg (by omega)
    refine ⟨fun f hf => ?_, fun hf => ?_⟩
    · have hload : waitedOn (k.load x.a f.act f.late) f.act.time none = loaded k x f := by
        rw [Ctx.load_eq]
        exact waitedOn_none ..
      have htake : s'.doRecv c x.a x.nx k = .next { loaded k x f with took := some s.tb.now } x.nx (s'.finish f) := by
        rw [hrecv, hf, ← hload, ← s.fetched_tb c]
        rfl
      refine ⟨_, State.word_next_on h e htake ?_, ?_⟩
      · rw [State.ctx_finish _ hf, if_pos rfl, hk]
        simp only [loaded, Ctx.withReg_st, Ctx.withThree_st]
      · rw [State.ctx_setCtx, if_pos rfl]
    · rw [hf] at hrecv
      refine (State.word_done h e hrecv).trans (congrArg _ ?_)
      rw [State.block, hk]
  case unblocked =>
    intro hc hservice hnative
    refine ⟨fun hst hr => ?_, fun hst hroom hp hpend hnet => ?_, fun hst hlate => ?_, fun hst ha hpend f hf => ?_⟩
    · have hhit : s.deadlineHit c = s.release c k.deadline (if k.waitKind = 2 then some true else none) :=
        if_neg (by rintro (h | h | h); exacts [absurd hservice (by simp [h]), h hst, Bool.false_ne_true (h.symm.trans hr)])
      have hst' : (s.ctx c).st ≠ .moving := by rw [show (s.ctx c).st = .twait from hst]; decide
      refine ⟨_, (onUnit_of hc _).trans (congrArg _ hhit), (s.release_frame c _ _).2.2.2.2 hst', ?_⟩
      obtain ⟨j, hj, hz, hw⟩ : ∃ j : Ctx, (s.release c k.deadline (if k.waitKind = 2 then some true else none)).ctx c =
          (j.complete (s.curInsn c).nx).unblock (j.complete (s.curInsn c).nx).pc s.tick k.deadline ∧
          (k.waitKind = 2 → j.z = true) ∧ j.w = k.w := by
        refine ⟨if k.waitKind = 2 then { k with z := true } else k, ?_, fun h2 => by rw [if_pos h2], by split <;> rfl⟩
        simp only [State.release]
        rw [if_neg hst', if_neg (by rw [hnative]; decide), State.ctx_putCtx_same]
        by_cases h2 : k.waitKind = 2
        · simp only [if_pos h2]; rfl
        · simp only [if_neg h2]; rfl
      obtain ⟨-, -, hcw, hcz⟩ := j.complete_emits (s.curInsn c).nx
      rw [hj]
      exact ⟨rfl, fun h2 => hcz.trans (hz h2), hcw.trans hw⟩
    · have hover : s.pressOver c = s.retry c (fun x k s => s.doEmit c (x.k % 8) (k.action x.a) x.nx) := by
        have hport : s.pressPort c = (s.curInsn c).k % 8 := if_neg (by rw [hnative]; decide)
        refine if_neg ?_
        rw [hport]
        rintro (h | h | h | h)
        exacts [absurd hservice (by simp [h]), h hst, absurd hroom (by simp [k, h]), absurd hnet (by simp [h])]
      set u := s.putCtx c (s.resumed c) with hu
      have huc : u.ctx c = s.resumed c := State.ctx_putCtx_same ..
      have huroom : u.portRoom ((u.ctx c).port ((s.curInsn c).k % 8)) = true := by
        rw [huc]
        refine Eq.trans ?_ hroom
        simp only [State.portRoom, State.targetFifo, State.cuff, State.fifo, hu,
          State.cuffs_of_wipe (s.putCtx_event c (s.resumed c)) (by decide), State.putCtx_fifos]
        rfl
      have hdo := State.doEmit_room u c ((s.curInsn c).k % 8) ((s.resumed c).action (s.curInsn c).a) (s.curInsn c).nx
        (by rw [huc]; exact hp) huroom
      refine ⟨_, (onUnit_of hc _).trans (congrArg _ (hover.trans ((State.retry_of hnative hpend _).trans
        (congrArg (MRes.settled c) hdo)))), ?_⟩
      simp only [MRes.settled]
      obtain ⟨sent, hsame, -⟩ := u.ctx_emitTo_same c ((s.curInsn c).k % 8) ((s.resumed c).action (s.curInsn c).a)
      rw [hsame, huc, State.ctx_putCtx_same, Ctx.complete_st, (Ctx.complete_emits ..).1]
      exact ⟨rfl, rfl⟩
    · refine ⟨_, ((onUnit_of hc _).trans (congrArg _ ?_)), rfl, ?_, ?_⟩
      · exact if_neg (by rintro (h | h | h); exacts [absurd hservice (by simp [h]), h hst, absurd hlate (by simpa using h)])
      · exact State.fifos_of_wipe (s.syncTrap_event c _ _ _) (by decide)
      · exact State.cuffs_of_wipe (s.syncTrap_event c _ _ _) (by decide)
    · have hnow : s.recvNow c = s.retry c (fun x k s => s.doRecv c x.a x.nx k) := by
        refine if_neg ?_
        rintro (h | h | h)
        exacts [absurd hservice (by simp [h]), h hst, absurd h (by simp [hf])]
      set u := s.putCtx c (s.resumed c) with hu
      have huc : u.ctx c = s.resumed c := State.ctx_putCtx_same ..
      have huf : u.recvHead c = some f := by
        rw [hu, State.putCtx_quiet s (by rw [show (s.ctx c).st = .recv from hst]; decide)
          (by rw [State.resumed_st]; split <;> decide), State.recvHead_setCtx, hf]
      have hdo : u.doRecv c (s.curInsn c).a (s.curInsn c).nx (s.resumed c) =
          u.takeInput (s.curInsn c).a (s.curInsn c).nx f (s.resumed c) := by
        rw [State.doRecv, if_neg (by omega), huf]
      refine ⟨_, (onUnit_of hc _).trans (congrArg _ (hnow.trans ((State.retry_of hnative hpend _).trans
        (congrArg (MRes.settled c) hdo)))), ?_⟩
      simp only [MRes.settled, State.takeInput]
      rw [State.ctx_putCtx_same, Ctx.complete_st, (Ctx.complete_emits ..).2.1, Ctx.load_eq]
      exact ⟨rfl, rfl⟩
  case wake =>
    intro hc f hf hsub key
    refine ⟨fun hext hown => ⟨_, (onUnit_of hc _).trans (congrArg _ ?_), rfl⟩, fun hext hlog => (onUnit_of hc _).trans (congrArg _ ?_)⟩
    · simp only [State.actWake, hf]
      rw [if_neg (by rintro (h | h | h); exacts [absurd hsub (by omega), absurd hext (by simp [key, h]), h hown])]
      simp only [ofNat_bits_twenty, pow_zero, Nat.div_one]
      rfl
    · simp only [State.actWake, hf]
      rw [if_pos (Or.inr (Or.inl hext)), if_neg (by simp [hlog])]

end Sys2Proof.Machine

/-! O32, the tray's own events and registers (R156-R159, R164-R167). -/

namespace Sys2Proof.Machine

open Sys2Proof

/-! ### Blocked contexts that trap -/

section Blocked
variable (s : State) (c cause : Nat)

/-- A blocked context outside a handler traps at once (R148). -/
theorem State.asyncTrap_blocked (hin : (s.ctx c).inHandler = false) (hst : (s.ctx c).st ∈ [CState.wait, .twait, .recv, .press]) :
    s.asyncTrap c cause = s.enterTrap c cause (asyncInfo cause) none := by
  have hcases : (s.ctx c).st = .wait ∨ (s.ctx c).st = .twait ∨ (s.ctx c).st = .recv ∨ (s.ctx c).st = .press := by simpa using hst
  have hdead : (s.ctx c).st.dead = false := by rcases hcases with h | h | h | h <;> rw [h] <;> rfl
  have hidle : (s.ctx c).st ≠ .trap ∧ (s.ctx c).st ≠ .run := by rcases hcases with h | h | h | h <;> rw [h] <;> decide
  simp only [State.asyncTrap]
  rw [if_neg (by rw [hdead]; decide), if_neg (fun h => hidle.1 h.2.1), if_neg (fun h => hidle.2 h.2.1),
    if_neg (by rw [hin]; simp), if_pos ⟨hcases, hin⟩]

/-- The trapped context stands at the vector of its cause. -/
theorem State.asyncTrap_blocked_ctx (hin : (s.ctx c).inHandler = false) (hst : (s.ctx c).st ∈ [CState.wait, .twait, .recv, .press]) :
    ((s.asyncTrap c cause).ctx c).st = .trap ∧ ((s.asyncTrap c cause).ctx c).tcause = cause ∧
      ((s.asyncTrap c cause).ctx c).pc = 2 * cause ∧ ∀ d, d ≠ c → (s.asyncTrap c cause).ctx d = s.ctx d := by
  rw [s.asyncTrap_blocked c cause hin hst]
  obtain ⟨i, a, tick, -, hctx⟩ := s.ctx_enterTrap c cause (asyncInfo cause) none true
  refine ⟨by rw [hctx, if_pos rfl]; rfl, by rw [hctx, if_pos rfl]; rfl, by rw [hctx, if_pos rfl]; rfl, fun d hd => by rw [hctx, if_neg hd]⟩

/-- A context already in the trap of a cause stays there when the cause comes again. -/
theorem State.asyncTrap_again (hst : (s.ctx c).st = .trap) (hin : (s.ctx c).inHandler = true) (hprio : (s.ctx c).tprio = causePrio cause)
    (hdog : cause ≠ Cz.watchdog) : ((s.asyncTrap c cause).ctx c).st = .trap ∧ ((s.asyncTrap c cause).ctx c).tcause = (s.ctx c).tcause ∧
      ((s.asyncTrap c cause).ctx c).pc = (s.ctx c).pc ∧ ((s.asyncTrap c cause).ctx c).inHandler = true ∧
      ((s.asyncTrap c cause).ctx c).tprio = (s.ctx c).tprio := by
  simp only [State.asyncTrap]
  rw [if_neg (by rw [hst]; decide), if_neg (by simp [hprio]), if_neg (by rw [hst]; simp), if_neg (by simp [hdog]),
    if_neg (by rw [hin]; simp)]
  split
  · exact ⟨hst, rfl, rfl, hin, rfl⟩
  · rw [State.ctx_setCtx, if_pos rfl]
    exact ⟨hst, rfl, rfl, hin, rfl⟩

end Blocked

/-! ### The registers of a tray's sources -/

section Sources
variable (s : State) (t i : Nat) (b : Bool)

/-- The tray source takes a level: its table of levels and, with the right sense, its pending bit (R164). -/
theorem State.traySet_trays : (s.traySet t i b).trays = (s.setTray t { s.tray t with levels := putBits (s.tray t).levels i 1 (b2n b) }).trays := by
  have hpend : ∀ (c : Prop) [Decidable c] (u : State), (if c then u.setTrayPend t i true else u).trays = u.trays := by
    intro c _ u
    split
    · exact State.setBit_trays ..
    · rfl
  simp only [State.traySet]
  split
  · exact (State.raise_trays ..).trans (hpend ..)
  split
  · exact (State.raise_trays ..).trans (hpend ..)
  · exact hpend ..

/-- A register that is no pending register of a tray source's own stays, where the source is no request to the host. -/
theorem State.traySet_reg {k : Nat} (h5 : i ≠ 5) (h6 : i ≠ 6) (hk : k ≠ Reg.TRY_IRQ_PEND_L t + i / 32 * 4) :
    (s.traySet t i b).reg k = s.reg k := by
  simp only [State.traySet, h5, h6, and_false, if_false]
  split
  · exact State.reg_setBit_other _ hk _ _
  · rfl

/-- What answers for a context, and in which window it stands, is no matter of the trays' levels. -/
theorem State.windowOf_of_levels {s u : State} (h : ∀ x, ∃ l, u.tray x = { s.tray x with levels := l }) (c : Nat) :
    u.windowOf c = s.windowOf c := by
  have hserves : ∀ x, (u.tray x).serves = (s.tray x).serves ∧ (u.tray x).rebuildFor = (s.tray x).rebuildFor ∧
      (u.tray x).moved = (s.tray x).moved ∧ (u.tray x).window = (s.tray x).window := fun x => by
    obtain ⟨l, hl⟩ := h x
    rw [hl]
    exact ⟨rfl, rfl, rfl, rfl⟩
  have hphys : ∀ l, u.physOf l = s.physOf l := fun l => by
    simp only [State.physOf, (hserves _).1]
  have htray : u.trayOf c = s.trayOf c := by
    simp only [State.trayOf, hphys, (hserves _).2.1, (hserves _).2.2.1]
  rw [State.windowOf, State.windowOf, htray, (hserves _).2.2.2]

theorem State.traySet_tray (x : Nat) : ∃ l, (s.traySet t i b).tray x = { s.tray x with levels := l } := by
  refine ⟨if x = t then putBits (s.tray t).levels i 1 (b2n b) else (s.tray x).levels, ?_⟩
  rw [State.tray, State.traySet_trays]
  refine (s.tray_setTray t x _).trans ?_
  by_cases h : x = t
  · subst h; rw [if_pos rfl, if_pos rfl]
  · rw [if_neg h, if_neg h]

theorem State.windowOf_trayPulse (c : Nat) : (s.trayPulse t i).windowOf c = s.windowOf c :=
  (State.windowOf_of_levels (State.traySet_tray _ t i false) c).trans (State.windowOf_of_levels (s.traySet_tray t i true) c)

/-- A pulse of a rising-edge source that stood low sets its pending bit. -/
theorem State.trayPend_trayPulse (hi : 32 ≤ i) (hsense : s.traySense t i = 1) (hlow : bitAt (s.tray t).levels i = false) :
    (s.trayPulse t i).trayPend t i = true := by
  have hkey : ∀ j, Reg.TRY_IRQ_SENSE0 t + i / 16 * 4 ≠ Reg.TRY_IRQ_PEND_L t + j / 32 * 4 ∨ j ≠ i := fun j => by
    by_cases h : j = i
    · subst h
      left
      simp only [Reg.TRY_IRQ_SENSE0, Reg.TRY_IRQ_PEND_L]
      omega
    · exact Or.inr h
  have hrise : s.traySet t i true = (s.setTray t { s.tray t with levels := putBits (s.tray t).levels i 1 (b2n true) }).setTrayPend t i true := by
    simp only [State.traySet, hsense, hlow]
    rw [if_neg (by omega), if_neg (by omega)]
    exact if_pos rfl
  have hstay : ∀ u : State, u.traySense t i = 1 → (u.traySet t i false).trayPend t i = u.trayPend t i := by
    intro u hu
    simp only [State.traySet, hu]
    rw [if_neg (by simp), if_neg (by simp), if_neg (by simp)]
    rfl
  rw [State.trayPulse, hstay, hrise]
  · exact State.bit_setBit_same _ _ (i % 32) true (Nat.mod_lt _ (by decide))
  · rw [hrise, State.traySense, State.setTrayPend, State.fld_setBit_other _ ((hkey i).resolve_right (by simp))]
    exact hsense

end Sources

/-! ### The interrupt's delivery keeps its controller busy -/

section Busy
variable (s : State) (c p : Nat)

/-- A context that can go on leaves the controllers of the trays alone. -/
theorem State.putCtx_ctrl {k : Ctx} (hfault : k.st ≠ .faulted) (hdead : k.st.dead = false) :
    (s.putCtx c k).reg (Reg.TRY_IRQ_CTRL p) = s.reg (Reg.TRY_IRQ_CTRL p) := by
  have hset : ∀ (u : State) (y i : Nat) b, i < 32 → i ≠ 5 → i ≠ 6 → (u.traySet y i b).reg (Reg.TRY_IRQ_CTRL p) = u.reg (Reg.TRY_IRQ_CTRL p) := by
    intro u y i b hi h5 h6
    refine u.traySet_reg y i b h5 h6 ?_
    simp only [Reg.TRY_IRQ_CTRL, Reg.TRY_IRQ_PEND_L]
    omega
  have hlevels : ∀ (u : State) (y : Nat), (u.trayLevels y).reg (Reg.TRY_IRQ_CTRL p) = u.reg (Reg.TRY_IRQ_CTRL p) := by
    intro u y
    have hfold : ∀ (l : List Nat) (f : Nat → Bool) (v : State), (∀ e ∈ l, e < 8) → (l.foldl (fun v e => v.traySet y (16 + e) (f e)) v).reg (Reg.TRY_IRQ_CTRL p)
        = v.reg (Reg.TRY_IRQ_CTRL p) := by
      intro l f
      induction l with
      | nil => intro v _; rfl
      | cons e r ih =>
        intro v hl
        obtain ⟨he, hr⟩ := List.forall_mem_cons.mp hl
        exact (ih _ hr).trans (hset _ _ _ _ (by omega) (by omega) (by omega))
    exact (hfold _ _ _ fun e he => List.mem_range.mp he).trans (hset _ _ _ _ (by decide) (by decide) (by decide))
  simp only [State.putCtx]
  rw [if_neg (show ¬(k.st.dead = true ∧ _) by rw [hdead]; simp), if_neg hfault]
  split
  · rfl
  split
  · exact hlevels ..
  · rfl

/-- An event trap that is taken leaves the controllers of the trays alone. -/
theorem State.asyncTrap_ctrl : (s.asyncTrap c Cz.event).reg (Reg.TRY_IRQ_CTRL p) = s.reg (Reg.TRY_IRQ_CTRL p) := by
  have henter : ∀ (u : State) (i a : Option Nat) (save : Bool),
      (u.enterTrap c Cz.event i a save).reg (Reg.TRY_IRQ_CTRL p) = u.reg (Reg.TRY_IRQ_CTRL p) := by
    intro u i a save
    rw [State.enterTrap_eq]
    exact State.putCtx_ctrl _ _ _ (by simp [Ctx.entered]) rfl
  simp only [State.asyncTrap]
  split
  · rfl
  split
  · exact henter ..
  split
  · exact henter ..
  split
  · next h => exact absurd h.2 (by decide)
  split
  · exact henter ..
  split <;> rfl

theorem State.release_ctrl (time : Nat) (z : Option Bool) :
    (s.release c time z).reg (Reg.TRY_IRQ_CTRL p) = s.reg (Reg.TRY_IRQ_CTRL p) := by
  have hput : ∀ j : Ctx, (j.st = if j.inHandler then CState.trap else CState.run) →
      (s.putCtx c j).reg (Reg.TRY_IRQ_CTRL p) = s.reg (Reg.TRY_IRQ_CTRL p) := by
    intro j hj
    refine s.putCtx_ctrl c p ?_ ?_ <;> (rw [hj]; split <;> simp [CState.dead])
  simp only [State.release]
  split
  · rfl
  split
  · exact hput _ rfl
  · exact hput _ rfl

end Busy

/-! ### A deadlock -/

section Deadlock
variable (s : State)

/-- A context that a STALL has trapped. -/
def Ctx.stalled (k : Ctx) : Prop :=
  k.st = .trap ∧ k.inHandler = true ∧ k.tprio = causePrio Cz.stall ∧ k.tcause = Cz.stall ∧ k.pc = 2 * Cz.stall

theorem State.asyncTrap_stalls {c : Nat} (h : (s.ctx c).waiting = true ∨ (s.ctx c).stalled) :
    ((s.asyncTrap c Cz.stall).ctx c).stalled := by
  rcases h with h | ⟨hst, hin, hprio, hcause, hpc⟩
  · simp only [Ctx.waiting, Bool.and_eq_true, beq_iff_eq, Bool.not_eq_true'] at h
    obtain ⟨hst, hin⟩ := h
    rw [s.asyncTrap_blocked c Cz.stall hin (by simp [hst])]
    obtain ⟨i, a, tick, -, hctx⟩ := s.ctx_enterTrap c Cz.stall (asyncInfo Cz.stall) none true
    rw [hctx, if_pos rfl]
    exact ⟨rfl, rfl, rfl, rfl, rfl⟩
  · obtain ⟨hst', hcause', hpc', hin', hprio'⟩ := s.asyncTrap_again c Cz.stall hst hin hprio (by decide)
    exact ⟨hst', hin', hprio'.trans hprio, hcause'.trans hcause, hpc'.trans hpc⟩

/-- Every waiting context of a list traps; one that the list names twice stays in its trap. -/
theorem State.stalls_all (l : List Nat) : (∀ c ∈ l, (s.ctx c).waiting = true ∨ (s.ctx c).stalled) →
    ∀ c, c ∈ l ∨ (s.ctx c).stalled → ((l.foldl (fun s c => s.asyncTrap c Cz.stall) s).ctx c).stalled := by
  induction l generalizing s with
  | nil => exact fun _ c h => h.resolve_left (List.not_mem_nil)
  | cons d r ih =>
    intro hl c hc
    obtain ⟨hd, hr⟩ := List.forall_mem_cons.mp hl
    have hother := (s.asyncTrap_frame d Cz.stall).2
    have hdone := s.asyncTrap_stalls hd
    have hkept : ∀ x, (s.ctx x).waiting = true ∨ (s.ctx x).stalled →
        ((s.asyncTrap d Cz.stall).ctx x).waiting = true ∨ ((s.asyncTrap d Cz.stall).ctx x).stalled := by
      intro x hx
      by_cases e : x = d
      · subst e; exact Or.inr hdone
      · rwa [hother x e]
    refine ih _ (fun x hx => hkept x (hr x hx)) c ?_
    by_cases e : c = d
    · subst e; exact Or.inr hdone
    · rcases hc with hc | hc
      · exact Or.inl ((List.mem_cons.mp hc).resolve_left e)
      · exact Or.inr (by rwa [hother c e])

end Deadlock

/-! ### TRY_IRQ_CTRL and TRY_IRQ_SOFT -/

section Registers
variable (s : State)

/-- One soft source named. -/
theorem State.writeSoft_one (t : Nat) {i : Nat} (hi : i < 32) : s.writeSoft t (2 ^ i) = s.trayPulse t (32 + i) := by
  have hlist : bitList 32 (2 ^ i) = [i] := by
    have hbit : bitAt (2 ^ i) = fun j => decide (i = j) := by
      funext j
      rw [bitAt_eq_testBit, Nat.testBit_two_pow]
    rw [bitList, hbit]
    interval_cases i <;> rfl
  rw [State.writeSoft, hlist]
  rfl

/-- Bits 0 and 8 to 15 stand in the low word. -/
theorem low_word (v : Nat) : bitAt (v % 2 ^ 32) 0 = bitAt v 0 ∧ bits (v % 2 ^ 32) 8 8 = bits v 8 8 := by
  refine ⟨by rw [bitAt_eq_testBit, bitAt_eq_testBit, Nat.testBit_mod_two_pow]; rfl, ?_⟩
  simp only [bits]
  omega

/-- Bit 0 of a register through the SET and the CLEAR view. -/
theorem bitAt_viewWrite (k v : Nat) : bitAt (viewWrite 1 (s.regN k) v) 0 = (s.bit k 0 || bitAt v 0) ∧
    bitAt (viewWrite 2 (s.regN k) v) 0 = (s.bit k 0 && !bitAt v 0) := by
  have hv : (BitVec.ofNat 32 v).getLsbD 0 = bitAt v 0 := by
    rw [BitVec.getLsbD_ofNat, bitAt_eq_testBit]
    rfl
  rw [viewWrite_regN, viewWrite_regN, bitAt_toNat, bitAt_toNat, State.bit_eq_getLsbD, ← hv]
  exact ⟨BitVec.getLsbD_or, by simp [viewed]⟩

/-- The context that the controller names does not turn on its other bits. -/
theorem State.irqCtx_setBit (p : Nat) (b : Bool) : (s.setBit (Reg.TRY_IRQ_CTRL p) 1 b).irqCtx p = s.irqCtx p := by
  have hfld : (s.setBit (Reg.TRY_IRQ_CTRL p) 1 b).fld (Reg.TRY_IRQ_CTRL p) 8 8 = s.fld (Reg.TRY_IRQ_CTRL p) 8 8 :=
    s.fld_setFld_apart _ _ _ _ _ _ (by decide) (by decide)
  rw [State.irqCtx, hfld]
  rfl

/-- A bit outside the field that was written. -/
theorem State.bit_setFld_apart (k lo n v i : Nat) (h : lo + n ≤ 32) (hd : i + 1 ≤ lo ∨ lo + n ≤ i) :
    (s.setFld k lo n v).bit k i = s.bit k i := by
  show decide (State.fld _ k i 1 = 1) = decide (State.fld _ k i 1 = 1)
  rw [s.fld_setFld_apart _ _ _ _ _ _ h hd]

/-- The interrupt of a tray reaches its context as a released wait, an EVENT trap or a set flag (R165). -/
theorem State.trayIrq_delivers (t : Nat) (ht : okTray t = true) :
    s.service = true → s.bit (Reg.TRY_IRQ_CTRL t) 0 = true → s.bit (Reg.TRY_IRQ_CTRL t) 1 = false → s.badIrqCtx t = false →
    s.trayReady t ≠ [] → ∃ s', exec (.trayIrqDelivery t) s = .next s' ∧
      s'.bit (Reg.TRY_IRQ_CTRL t) 1 = true ∧
      ((s.ctx (s.irqCtx t)).waitsOn 240 = false → ¬((s.ctx (s.irqCtx t)).evtOn = true ∧ (s.ctx (s.irqCtx t)).evtFlag = 240) →
        s'.ctxs = s.ctxs ∧ (s'.flag (flagKey (s.irqCtx t / 256) 240)).set = true) ∧
      ((s.ctx (s.irqCtx t)).waitsOn 240 = false → ((s.ctx (s.irqCtx t)).evtOn = true ∧ (s.ctx (s.irqCtx t)).evtFlag = 240) →
        s'.flags = s.flags ∧ ((s.ctx (s.irqCtx t)).inHandler = false ∧
          (s.ctx (s.irqCtx t)).st ∈ [CState.wait, .twait, .recv, .press] → (s'.ctx (s.irqCtx t)).st = .trap ∧
          (s'.ctx (s.irqCtx t)).tcause = 2 ∧ (s'.ctx (s.irqCtx t)).pc = 4)) ∧
      ((s.ctx (s.irqCtx t)).waitsOn 240 = true → (s.ctx (s.irqCtx t)).st ≠ .moving → (s.ctx (s.irqCtx t)).inHandler = false →
        (s'.ctx (s.irqCtx t)).st = .run ∧ s'.flags = s.flags) := by
  intro hservice henable hidle hgood hready
  set c := s.irqCtx t with hc
  set u := s.setBit (Reg.TRY_IRQ_CTRL t) 1 true with hu
  have huc : u.irqCtx t = c := s.irqCtx_setBit t true
  have hctx : ∀ e, u.ctx e = s.ctx e := fun e => rfl
  have hset : u.bit (Reg.TRY_IRQ_CTRL t) 1 = true := State.bit_setBit_same _ _ _ _ (by decide)
  have hrun : s.trayIrq t = if (s.ctx c).waitsOn 240 then u.release c u.tb.now (if (s.ctx c).waitKind = 2 then some false else none)
      else if (s.ctx c).evtOn ∧ (s.ctx c).evtFlag = 240 then u.asyncTrap c Cz.event
      else u.setFlag (flagKey (c / 256) 240) { u.flag (flagKey (c / 256) 240) with set := true } := by
    simp only [State.trayIrq]
    rw [if_neg (by simp [hservice, henable, hidle, hgood, hready]), ← hu, huc]
    rfl
  have hexec : exec (.trayIrqDelivery t) s = .next (s.trayIrq t) := onUnit_of ht _
  refine ⟨_, hexec, ?_, fun hwait hev => ?_, fun hwait hev => ?_, fun hwait hmove hin => ?_⟩
  · rw [hrun]
    split
    · exact (State.bit_of_reg (u.release_ctrl c t _ _) 1).trans hset
    split
    · exact (State.bit_of_reg (u.asyncTrap_ctrl c t) 1).trans hset
    · exact hset
  · rw [hrun, if_neg (by simp [hwait]), if_neg hev]
    exact ⟨rfl, congrArg Flag.set ((u.flag_setFlag ..).trans (if_pos rfl))⟩
  · rw [hrun, if_neg (by simp [hwait]), if_pos hev]
    refine ⟨(u.asyncTrap_frame c _).1, fun hblocked => ?_⟩
    obtain ⟨h1, h2, h3, -⟩ := u.asyncTrap_blocked_ctx c Cz.event hblocked.1 hblocked.2
    exact ⟨h1, h2, h3⟩
  · rw [hrun, if_pos hwait]
    obtain ⟨hflags, -, -, -, hst⟩ := u.release_frame c u.tb.now (if (s.ctx c).waitKind = 2 then some false else none)
    exact ⟨(hst hmove).trans (if_neg (by rw [hctx, hin]; simp)), hflags⟩

/-- The snapshot of a control-store word (R167). -/
theorem State.csSnap_reads (t v : Nat) : (s.csSnap t v).regN (Reg.TRY_CS_ADDR t) = v % 2 ^ 14 ∧
    (s.csSnap t v).regN (Reg.TRY_CS_DATA_L t) = (s.csWord t (v % 2 ^ 14)).toNat % 2 ^ 32 ∧
    (s.csSnap t v).fld (Reg.TRY_CS_DATA_H t) 0 8 = (s.csWord t (v % 2 ^ 14)).toNat / 2 ^ 32 ∧
    s.csSnap t v = { s with regs := (s.csSnap t v).regs } := by
  have hw : (s.csWord t (v % 2 ^ 14)).toNat < 2 ^ 40 := (s.csWord t (v % 2 ^ 14)).isLt
  generalize hword : (s.csWord t (v % 2 ^ 14)).toNat = w at hw
  obtain ⟨b, hsnap⟩ : ∃ b, s.csSnap t v = ((s.setN (Reg.TRY_CS_ADDR t) (v % 2 ^ 14)).setN (Reg.TRY_CS_DATA_L t) (bits w 0 32)).setN
      (Reg.TRY_CS_DATA_H t) (bits w 32 8 + b * 2 ^ 8) :=
    ⟨b2n (s.csSoft.contains (csKey t (v % 2 ^ 14))), by simp only [State.csSnap, hword]; rfl⟩
  rw [hsnap]
  refine ⟨?_, ?_, ?_, ?_⟩
  · rw [State.regN_setN_other _ (by simp [Reg.TRY_CS_ADDR, Reg.TRY_CS_DATA_H]), State.regN_setN_other _
      (by simp [Reg.TRY_CS_ADDR, Reg.TRY_CS_DATA_L]), State.regN_setN_same]
    omega
  · rw [State.regN_setN_other _ (by simp [Reg.TRY_CS_DATA_L, Reg.TRY_CS_DATA_H]), State.regN_setN_same]
    simp [bits]
  · rw [State.fld, State.regN_setN_same]
    simp only [bits]
    omega
  · exact (((OnlyRegs.refl [Reg.TRY_CS_ADDR t, Reg.TRY_CS_DATA_L t, Reg.TRY_CS_DATA_H t] s).setN (by simp) _).setN (by simp) _
      |>.setN (by simp) _).1

/-- The watchdog reaches a context that runs too long (R159). -/
theorem State.ctxDog_bites {c : Nat} (hservice : s.service = true) (hdead : (s.ctx c).st.dead = false) (hpoint : (s.ctx c).atPoint = false)
    (hmove : (s.ctx c).st ≠ .moving) (hlimit : s.dogLimit c ≠ 0) (hlate : (s.ctx c).lastPoint + s.dogLimit c * 16 ≤ s.tick) :
    s.ctxDog c = ((s.trayPulse (s.trayOf c) 4).setCtx c { s.ctx c with lastPoint := s.tick }).asyncTrap c Cz.watchdog := by
  refine if_neg ?_
  rintro (h | h | h | h | h | h)
  exacts [absurd hservice (by simp [h]), absurd hdead (by simp [h]), absurd hpoint (by simp [h]), hmove h, hlimit h, absurd hlate (by omega)]

/-- A running context outside the exit of a trap keeps a cause pending. -/
theorem State.asyncTrap_running {c : Nat} (hst : (s.ctx c).st = .run) (hin : (s.ctx c).inHandler = false) (hwin : s.windowOf c ≠ 2)
    (cause : Nat) : ((s.asyncTrap c cause).ctx c).st = .run ∧ cause ∈ ((s.asyncTrap c cause).ctx c).pend := by
  simp only [State.asyncTrap]
  rw [if_neg (by rw [hst]; decide), if_neg (by rw [hst]; simp), if_neg (fun h => hwin h.1), if_neg (by rw [hin]; simp),
    if_neg (by rw [hst]; simp)]
  split
  · next h => exact ⟨hst, List.contains_iff_mem.mp h⟩
  · rw [State.ctx_setCtx, if_pos rfl]
    exact ⟨hst, List.mem_append_right _ (List.mem_singleton.mpr rfl)⟩

/-- A write of TRY_IRQ_CTRL through the normal view, by the tenant of the context that it names (R166). -/
theorem State.writeIrqCtrl_foreign {t v : Nat} (h : (s.ctx (s.servesOf t * 256 + bits v 8 8)).tenant ≠ 0) :
    s.writeIrqCtrl t 0 v = (s.setBit (Reg.TRY_IRQ_CTRL t) 0 (bitAt v 0)).pgErr (0x30 + t) 19 := by
  obtain ⟨hzero, height⟩ := low_word v
  have hview : viewWrite 0 (s.regN (Reg.TRY_IRQ_CTRL t)) v = v % 2 ^ 32 := rfl
  simp only [State.writeIrqCtrl, hview, hzero, height]
  exact (if_neg (by simp)).trans (if_pos h)

theorem State.writeIrqCtrl_own {t v : Nat} (h : (s.ctx (s.servesOf t * 256 + bits v 8 8)).tenant = 0) :
    s.writeIrqCtrl t 0 v = (((s.setBit (Reg.TRY_IRQ_CTRL t) 0 (bitAt v 0)).setFld (Reg.TRY_IRQ_CTRL t) 8 8 (bits v 8 8)).setBit
      (Reg.TRY_IRQ_CTRL t) 1 ((s.setBit (Reg.TRY_IRQ_CTRL t) 0 (bitAt v 0)).bit (Reg.TRY_IRQ_CTRL t) 1 &&
        !(s.ctx (s.servesOf t * 256 + bits v 8 8)).st.dead)) := by
  obtain ⟨hzero, height⟩ := low_word v
  have hview : viewWrite 0 (s.regN (Reg.TRY_IRQ_CTRL t)) v = v % 2 ^ 32 := rfl
  simp only [State.writeIrqCtrl, hview, hzero, height]
  exact (if_neg (by simp)).trans (if_neg (not_not.mpr h))

end Registers

/-- Settles O32: a blocked context by the trap that takes it, the tray's interrupt by what its context waits for, and each
register by its write. -/
theorem trayCommands : Obligations.TrayCommands := by
  intro s t ht d ctrl events blocked
  have hrow : ∀ u : State, onUnit (okTray t) u = .next u := onUnit_of ht
  refine ⟨?_, ?_, ?_, ?_, ?_, ?_, ?_, ?_, ?_, ?_, ?_⟩
  · intro hservice hdead
    have hrun : s.deadlock t = ((s.trayCtxs (s.servesOf t)).filter fun c => (s.ctx c).waiting).foldl (fun s c => s.asyncTrap c Cz.stall)
        (((((s.setBit (Reg.TRY_STALL t) 0 true).setFld (Reg.TRY_STALL t) 8 9
          ((s.trayCtxs (s.servesOf t)).filter fun c => (s.ctx c).waiting).length).trayPulse t 0).pgErr (0x30 + t) 17)) :=
      if_neg (by rintro (h | h); exacts [absurd hservice (by simp [h]), absurd hdead (by simp [h])])
    set l := (s.trayCtxs (s.servesOf t)).filter fun c => (s.ctx c).waiting with hl
    set u := (((s.setBit (Reg.TRY_STALL t) 0 true).setFld (Reg.TRY_STALL t) 8 9 l.length).trayPulse t 0).pgErr (0x30 + t) 17 with hu
    have hctx : ∀ c, u.ctx c = s.ctx c := fun c => State.ctx_congr ((State.pgErr_ctxs ..).trans (State.trayPulse_ctxs ..)) c
    have hframe : (l.foldl (fun s c => s.asyncTrap c Cz.stall) u).wipe ctxEvent = s.wipe ctxEvent := by
      refine (State.foldl_wipe _ _ (fun v c => v.asyncTrap_event c _) _ _).trans ?_
      rw [hu, State.pgErr_wipe _ _ _ _ (by decide), State.trayPulse_wipe _ _ _ _ (by decide), State.setFld_wipe _ _ _ _ _ _ (by decide),
        State.setBit_wipe _ _ _ _ _ (by decide)]
    refine ⟨_, (hrow _).trans (congrArg _ hrun), State.tb_of_wipe hframe (by decide), State.mem_of_wipe hframe (by decide),
      State.cuffs_of_wipe hframe (by decide), State.queues_of_wipe hframe (by decide), fun c hc hst hin => ?_⟩
    have hmem : c ∈ l := List.mem_filter.mpr ⟨hc, by simp [Ctx.waiting, hst, hin]⟩
    obtain ⟨h1, -, -, h2, h3⟩ := u.stalls_all l (fun x hx => Or.inl ((congrArg Ctx.waiting (hctx x)).trans (List.mem_filter.mp hx).2)) c
      (Or.inl hmem)
    exact ⟨h1, h2, h3⟩
  · intro hall
    refine (hrow _).trans (congrArg _ (if_pos (Or.inr ?_)))
    have hnone : ((s.trayCtxs (s.servesOf t)).filter fun c => (s.ctx c).waiting) = [] := by
      refine List.filter_eq_nil_iff.mpr fun c hc => ?_
      by_cases hst : (s.ctx c).st = .wait
      · simp [Ctx.waiting, hall c hc hst]
      · simp [Ctx.waiting, hst]
    rw [State.deadlocked, hnone]
    rfl
  · intro c hc hservice hst hin hlong hext hlongFlag
    set u := ((((s.setBit (Reg.TRY_STALL (s.trayOf c)) 1 true).setFld (Reg.TRY_STALL (s.trayOf c)) 8 9 1).trayPulse (s.trayOf c) 1).pgErr
      (0x30 + s.trayOf c) 18) with hu
    have hrun : s.stallDog c = u.asyncTrap c Cz.stall := by
      refine if_neg ?_
      rintro (h | h | h | h | h)
      exacts [absurd hservice (by simp [h]), h hst, absurd hext (by simp [h]), absurd hlongFlag (by simp [h]), absurd hlong (by omega)]
    have hctx : ∀ e, u.ctx e = s.ctx e := fun e => State.ctx_congr ((State.pgErr_ctxs ..).trans (State.trayPulse_ctxs ..)) e
    have hframe : (u.asyncTrap c Cz.stall).wipe ctxEvent = s.wipe ctxEvent := by
      rw [State.asyncTrap_event, hu, State.pgErr_wipe _ _ _ _ (by decide), State.trayPulse_wipe _ _ _ _ (by decide),
        State.setFld_wipe _ _ _ _ _ _ (by decide), State.setBit_wipe _ _ _ _ _ (by decide)]
    obtain ⟨h1, h2, h3, h4⟩ := u.asyncTrap_blocked_ctx c Cz.stall (by rw [hctx]; exact hin) (by rw [hctx, hst]; simp)
    exact ⟨_, (onUnit_of hc _).trans (congrArg _ hrun), h1, h2, h3, fun e he => (h4 e he).trans (hctx e),
      State.tb_of_wipe hframe (by decide), State.mem_of_wipe hframe (by decide), State.cuffs_of_wipe hframe (by decide)⟩
  · intro c hc hservice hst hin hlimit hlate
    set k' : Ctx := { s.ctx c with lastPoint := s.tick } with hk'
    set u := (s.trayPulse (s.trayOf c) 4).setCtx c k' with hu
    have hctx : u.ctx c = k' := by rw [hu, State.ctx_setCtx, if_pos rfl]
    have hframe : (u.asyncTrap c Cz.watchdog).wipe ctxEvent = s.wipe ctxEvent := by
      rw [State.asyncTrap_event, hu, State.setCtx_wipe _ _ _ _ (by decide), State.trayPulse_wipe _ _ _ _ (by decide)]
    obtain ⟨h1, h2, h3, h4⟩ := u.asyncTrap_blocked_ctx c Cz.watchdog (by rw [hctx]; exact hin)
      (by rw [hctx, show k'.st = .press from hst]; simp)
    refine ⟨_, (onUnit_of hc _).trans (congrArg _ (s.ctxDog_bites hservice (by rw [hst]; rfl) (by simp [Ctx.atPoint, hst])
      (by rw [hst]; decide) hlimit hlate)), h1, h2, h3, fun e he => (h4 e he).trans ?_, State.tb_of_wipe hframe (by decide),
      State.mem_of_wipe hframe (by decide), State.cuffs_of_wipe hframe (by decide)⟩
    rw [hu, State.ctx_setCtx, if_neg he]
    exact State.ctx_congr (State.trayPulse_ctxs ..) e
  · intro c hc hservice hst hin hlimit hwindow hlate
    set k' : Ctx := { s.ctx c with lastPoint := s.tick } with hk'
    set u := (s.trayPulse (s.trayOf c) 4).setCtx c k' with hu
    have hctx : u.ctx c = k' := by rw [hu, State.ctx_setCtx, if_pos rfl]
    have hwin : u.windowOf c ≠ 2 := fun h => hwindow ((s.windowOf_trayPulse (s.trayOf c) 4 c).symm.trans h)
    have hst' : (u.ctx c).st = .run := by rw [hctx]; exact hst
    have hin' : (u.ctx c).inHandler = false := by rw [hctx]; exact hin
    refine ⟨_, (onUnit_of hc _).trans (congrArg _ (s.ctxDog_bites hservice (by rw [hst]; rfl) (by simp [Ctx.atPoint, hst])
      (by rw [hst]; decide) hlimit hlate)), u.asyncTrap_running hst' hin' hwin Cz.watchdog⟩
  · exact s.trayIrq_delivers t ht
  · intro i hi hreach
    refine ⟨_, (hrow _).trans (congrArg _ (State.pf_of_reach hreach ..)), d.writeSoft_one t hi, fun hsense hlow => ?_⟩
    rw [d.writeSoft_one t hi]
    exact d.trayPend_trayPulse t (32 + i) (by omega) hsense hlow
  · intro v hreach hctx
    obtain ⟨hset, hclear⟩ := bitAt_viewWrite d ctrl v
    have hwrite : ∀ view, view < 4 → exec (.tryIrqCtrlWrite t view v) s = .next (d.writeIrqCtrl t view v) := fun view hv =>
      (onUnit_of (by simp [ht, hv]) _).trans (congrArg _ (State.pf_of_reach hreach ..))
    refine ⟨(hwrite 1 (by decide)).trans (congrArg _ ?_), (hwrite 2 (by decide)).trans (congrArg _ ?_)⟩
    · rw [State.writeIrqCtrl, hset]
      exact if_pos (Or.inr ⟨by decide, hctx⟩)
    · rw [State.writeIrqCtrl, hclear]
      exact if_pos (Or.inr ⟨by decide, hctx⟩)
  · intro v hreach htenant
    have hwrite : exec (.tryIrqCtrlWrite t 0 v) s = .next (d.writeIrqCtrl t 0 v) :=
      (onUnit_of (by simp [ht]) _).trans (congrArg _ (State.pf_of_reach hreach ..))
    refine ⟨_, hwrite.trans (congrArg _ (d.writeIrqCtrl_foreign htenant)), ?_, ?_⟩
    · exact (State.fld_setBit_other _ (by simp [ctrl, Reg.PG_ERR]) ..).trans (State.fld_setFld_apart _ _ _ _ _ _ _ (by decide) (by decide))
    · exact State.bit_pgErr_same _ _ (by decide)
  · intro v hreach htenant
    have hwrite : exec (.tryIrqCtrlWrite t 0 v) s = .next (d.writeIrqCtrl t 0 v) :=
      (onUnit_of (by simp [ht]) _).trans (congrArg _ (State.pf_of_reach hreach ..))
    refine ⟨_, hwrite.trans (congrArg _ (d.writeIrqCtrl_own htenant)), ?_, ?_, ?_, ?_⟩
    · exact (State.fld_setFld_apart _ _ _ _ _ _ _ (by decide) (by decide)).trans
        ((State.fld_setFld_same _ _ _ _ _ (by decide)).trans (Nat.mod_eq_of_lt (Nat.mod_lt _ (by decide))))
    · exact (State.bit_setBit_apart _ _ _ _ _ (by decide) (by decide)).trans
        ((State.bit_setFld_apart _ _ _ _ _ _ (by decide) (by decide)).trans (State.bit_setBit_same _ _ _ _ (by decide)))
    · refine (State.bit_setBit_same _ _ _ _ (by decide)).trans ?_
      rw [State.bit_setBit_apart _ _ _ _ _ (by decide) (by decide)]
    · exact (((OnlyRegs.refl [Reg.TRY_IRQ_CTRL t] d).setBit (by simp) _ _).setFld (by simp) _ _ _ |>.setBit (by simp) _ _).1
  · intro v hreach
    exact ⟨_, (hrow _).trans (congrArg _ (State.pf_of_reach hreach ..)), d.csSnap_reads t v⟩

end Sys2Proof.Machine

/-! O33. The clauses about the periods that follow the first do not say that the engine's pins are cuffs of the device. The edge
counter of a cuff 1546 has the address of PIO_BITP of engine 3, so the clock edge that a boundary makes there changes the half
period of the sample of the same boundary. -/

namespace Sys2Proof.Machine

open Sys2Proof

/-- Engine 3 in a SAMP at a boundary that has come, its clock pin a cuff 1546. -/
def strayClockPin : State :=
  { regs := [(Reg.PIO_BITP 3, 0x13FF), (Reg.PIO_DIR 3, 1)]
    pwr := { mode := Mode.run }
    pios := [(3, { st := 1, busy := true, todo := 1, insn := 3, cfg := 0x44, base := 1546, count := 1 })] }

theorem cufEdges_strayClockPin : Reg.CUF_EDGES 1546 = Reg.PIO_BITP 3 := by decide

/-- The sample of the period is due 10 crumbs after the boundary, where PIO_BITP gave a half period of 9. -/
theorem samples_period : ((strayClockPin.period 3).pio 3).samples = [(10, false, false)] := by decide +kernel

/-- Refutes O33: in `strayClockPin` the sample of a period is taken by a half period that the statement does not know. -/
theorem not_pioPinInstructions : ¬ Obligations.PioPinInstructions := by
  intro h
  obtain ⟨-, -, -, -, hperiod, -⟩ := h strayClockPin 3 (by decide)
  obtain ⟨hsample, -⟩ := hperiod (by decide +kernel)
  have hnine := congrArg Pio.samples (hsample (by decide +kernel) (by decide +kernel))
  exact absurd (samples_period.symm.trans hnine) (by decide +kernel)

end Sys2Proof.Machine

/-! O34. A CMP whose comparison fails with the action "stop" ends before the engine stops, and its end takes the skip that an earlier
CMP may have left: PC then passes two words. The statement lets PC pass one, and does not say that no skip is due. -/

namespace Sys2Proof.Machine

open Sys2Proof

/-- Engine 0 at a CMP that stops the engine on a difference, with a skip still due. -/
def skippingStop : State :=
  { regs := [(Reg.PIO_LOOP 0, 0x1F00), (Reg.PIO_CMP 0, 1), (Reg.PIO_IMEM 0 0, 0x0207)]
    pwr := { mode := Mode.run }
    pios := [(0, { st := 1, count := 1, skip := true })] }

/-- PC of engine 0 in what a command answers. -/
def enginePc : Host.Outcome State Fault Refusal → Nat
  | .next t => (t.pio 0).pc
  | _ => 0

theorem pioRuns_skippingStop : skippingStop.pioRuns 0 7 :=
  ⟨by decide +kernel, by decide +kernel, by decide +kernel, by decide +kernel, by decide +kernel, by decide +kernel,
    by decide +kernel, by decide +kernel⟩

/-- The word after the CMP stands at 1, and PC goes on at 2. -/
theorem enginePc_cmpInsn : enginePc (exec (.pioCmpInsn 0) skippingStop) = 2 := by decide +kernel

/-- Refutes O34: in `skippingStop` a CMP that stops the engine leaves PC at the second word after it. -/
theorem not_pioDataInstructions : ¬ Obligations.PioDataInstructions := by
  intro h
  obtain ⟨-, -, -, -, hcmp, -⟩ := h skippingStop 0 (by decide)
  obtain ⟨t, hexec, -, -, -, hstop, -⟩ := hcmp pioRuns_skippingStop (by decide +kernel)
  obtain ⟨-, -, -, hpc, -⟩ := hstop (by decide +kernel) (by decide +kernel)
  have hone : (t.pio 0).pc = 1 := hpc (1, 0) (by decide +kernel)
  exact absurd (enginePc_cmpInsn.symm.trans (congrArg enginePc hexec)) (by rw [enginePc, hone]; decide)

end Sys2Proof.Machine

/-! O36. A PIO_START lets the clock pin rest before it looks for the first boundary of its time. The statement does not say that the
engine's pins are cuffs of the device: the edge counter of a cuff 1546 has the address of PIO_BITP of engine 3, so the edge the
clock pin makes changes the bit period by which that boundary is found. -/

namespace Sys2Proof.Machine

open Sys2Proof

/-- A PIO_START of time 100 crumbs waits at engine 3, whose clock pin is a cuff 1546 and whose bit period is 25,599/256 crumbs. -/
def strayStart : State :=
  { tb := { now := 100 }
    regs := [(Reg.PIO_CFG 3, 0x44), (Reg.PIO_BITP 3, 25599), (Reg.PIO_DIR 3, 1)]
    pwr := { mode := Mode.run }
    cuffs := [(1546, { apMode := false })]
    fifos := [(fifoKey 3 3, [{ act := { Action.zero with op := 0x0C }, ttype := 3, target := 3, due := 100, judged := true }])]
    pios := [(3, { base := 1546, count := 1 })] }

/-- The action at the head of the FIFO. -/
def strayFlight : Flight := { act := { Action.zero with op := 0x0C }, ttype := 3, target := 3, due := 100, judged := true }

/-- The first boundary of engine 3 in what a command answers. -/
def engineBit : Host.Outcome State Fault Refusal → Nat
  | .next t => (t.pio 3).bit
  | _ => 0

/-- The boundary found is the first, 25,600/256 crumbs on. -/
theorem engineBit_pioStart : engineBit (exec (.pioStart 3) strayStart) = 1 := by decide +kernel

/-- What leaves the FIFO after the start changes no engine. -/
theorem State.finish_pios (s : State) (f : Flight) : (s.finish f).pios = s.pios := State.pios_of_wipe (s.finish_wipe0 f) rfl

/-- Refutes O36: in `strayStart` the engine's first boundary is the first, where PIO_BITP as it stood gives the second. -/
theorem not_pioCommands : ¬ Obligations.PioCommands := by
  intro h
  obtain ⟨-, -, hstart, -⟩ := h strayStart 3 0 strayFlight (by decide) (by decide)
  obtain ⟨t, hexec, hpio, -⟩ := hstart (by decide +kernel) (by decide +kernel)
  have hbit : (t.pio 3).bit = 2 := (congrArg Pio.bit hpio).trans (by decide +kernel)
  have hfinish : ((t.finish strayFlight).pio 3).bit = 2 := by rw [State.pio, State.finish_pios]; exact hbit
  exact absurd (engineBit_pioStart.symm.trans (congrArg engineBit hexec)) (by rw [engineBit, hfinish]; decide)

end Sys2Proof.Machine

/-! O41. The stamped transition of a LASTGASP may load the time base of a member whose time is not valid yet. The member then asks
whether the launches of the lost participant have passed A by the new time, and the statement asks by the old one. -/

namespace Sys2Proof.Machine

open Sys2Proof

/-- The LASTGASP of member 1, the leader, on port 0. -/
def leaderHeader : NelviHeader :=
  { port := 0, ver := 1, sender := 1, strobe := false, term := 0, ensemble := 0, seq := 1, macOk := true, stamp := 0 }

/-- A launch of this member with participant 1, whose A is crumb 1,200. -/
def waitingLaunch : Launch := { id := 7, time := 120001200, parts := [1], mine := true }

/-- Member 0, not in the table itself, follows member 1 on port 0 with a time base that is not valid and lies 2,400 crumbs behind. -/
def joiningMember : State :=
  { regs := [(Reg.TB_CTRL, 1), (Reg.REL_STEWARD, 0xFF), (Reg.ENS_CFG, 0x101), (Reg.ENS_ID, 0), (Reg.ENS_VER, 0x10000),
      (Reg.ENS_STATUS, 0x22), (Reg.ENS_MPRIO 1, 0x100), (Reg.ENP_CFG 0, 1), (Reg.ENP_STATUS 0, 2)]
    pwr := { mode := Mode.run }
    ens := { members := [(1, { gone := false })], cache := [waitingLaunch], phase := some (0, -2400), gptp := -2400 } }

/-- Whether the launches that a command leaves in the cache are all uncancelled. -/
def cancelsNone : Host.Outcome State Fault Refusal → Bool
  | .next t => t.ens.cache.all fun l => !l.cancel
  | _ => true

/-- The frame loads the time base with crumb 2,400, which lies past A, and no launch is cancelled. -/
theorem cancelsNone_lastgasp : cancelsNone (exec (.lastgasp leaderHeader 0) joiningMember) = true := by decide +kernel

theorem State.dropPhase_cache (s : State) : s.dropPhase.ens.cache = s.ens.cache := by
  rw [State.dropPhase, State.setBit_ens]

theorem State.updTvalid_cache (s : State) : s.updTvalid.ens.cache = s.ens.cache := by
  rw [State.updTvalid]
  split
  · rfl
  · rw [State.raise_ens, State.setBit_ens]

theorem State.setEnst_cache (s : State) (v : Nat) : (s.setEnst v).ens.cache = s.ens.cache := by
  have hphase : (if v = 2 then s else s.dropPhase).ens.cache = s.ens.cache := by
    split
    · rfl
    · exact s.dropPhase_cache
  unfold State.setEnst
  extract_lets u
  split
  · exact hphase
  · rw [State.updTvalid_cache, State.raise_ens, State.setFld_ens]
    exact hphase

theorem State.setLeader_cache (s : State) (b : Nat) : (s.setLeader b).ens.cache = s.ens.cache := by
  rw [State.setLeader, State.setFld_ens]
  split
  · rfl
  · exact s.dropPhase_cache

theorem State.sendNelvi_cache (s : State) (kind flags : Nat) (body : List Nat) (d : Option Nat) :
    (s.sendNelvi kind flags body d).ens.cache = s.ens.cache := by
  have hqueue (l : List Nat) (hdr : List Nat) (u : State) :
      (l.foldl (fun u n => u.queueFrame n kind (hdr ++ body) d) u).ens = u.ens := by
    induction l generalizing u with
    | nil => rfl
    | cons n l ih => exact ih _
  simp only [State.sendNelvi, hqueue]

theorem State.sendHeartbeat_cache (s : State) : s.sendHeartbeat.ens.cache = s.ens.cache := by
  unfold State.sendHeartbeat
  extract_lets v t fresh fields w cal
  have hv : v.ens.cache = s.ens.cache := congrArg Ens.cache (s.setFld_ens _ _ _ _)
  have hw : w.ens.cache = v.ens.cache := by
    show (if _ then _ else _ : State).ens.cache = _
    split <;> rfl
  rw [State.sendNelvi_cache, hw, hv]

theorem State.takeLead_cache (s : State) : s.takeLead.ens.cache = s.ens.cache := by
  unfold State.takeLead
  extract_lets u e v
  have hu : u.ens.cache = s.ens.cache := congrArg Ens.cache (s.setFld_ens _ _ _ _)
  have hv : v.ens.cache = u.ens.cache := rfl
  rw [State.sendHeartbeat_cache, State.setEnst_cache, State.setN_ens, hv, hu]

/-- An election lets the cached launches stand. -/
theorem State.elect_cache (s : State) : s.elect.ens.cache = s.ens.cache := by
  have halive : s.updAlive.ens.cache = s.ens.cache := by rw [State.updAlive, State.setFld_ens]
  unfold State.elect
  extract_lets u
  split
  · exact halive
  · next b rest _ =>
    extract_lets v lead
    have hleader : v.ens.cache = s.ens.cache := (State.setLeader_cache ..).trans halive
    repeat' split
    · exact hleader
    · exact (State.takeLead_cache _).trans hleader
    · exact (State.setEnst_cache ..).trans hleader
    · exact hleader

/-- Refutes O41: in `joiningMember` a LASTGASP of a participant before A leaves the launch uncancelled. -/
theorem not_ensembleMembership : ¬ Obligations.EnsembleMembership := by
  intro h
  obtain ⟨-, -, hframes, -⟩ := h joiningMember leaderHeader (by decide)
  obtain ⟨-, hgasp⟩ := hframes (by decide +kernel) (by decide +kernel) (by decide +kernel) (by decide +kernel)
  obtain ⟨t, hexec, -, hcancels⟩ := hgasp 0
  obtain ⟨l, hl, -, hcancel⟩ := hcancels waitingLaunch (by decide) (by decide) (by decide) (by decide +kernel)
  have hall : t.elect.ens.cache.all (fun l => !l.cancel) = true :=
    (congrArg cancelsNone hexec).symm.trans cancelsNone_lastgasp
  rw [State.elect_cache, List.all_eq_true] at hall
  exact absurd (hall l hl) (by rw [hcancel]; decide)

end Sys2Proof.Machine

/-! O48. An abort goes through the contexts as their table lists them. A table that lists a key twice shows its first entry for the
context, and the abort of the tenant of the second one puts the context of the first one's tenant into its abort state. The
statement, which does not ask for the canonical form, lets the contexts of others stand. -/

namespace Sys2Proof.Machine

open Sys2Proof

/-- Function 1 may write, and context 5 is listed twice: it is tenant 2's, and a second entry names tenant 1. -/
def doubledCtx : State :=
  { pwr := { mode := Mode.run }
    link := { up := true, vfEnable := true }
    ctxs := [(5, { st := .idle, tenant := 2 }), (5, { st := .idle, tenant := 1 })] }

/-- Context 5 is halted in what a command answers. -/
def haltsCtx : Host.Outcome State Fault Refusal → Bool
  | .next t => decide ((t.ctx 5).st = .halted)
  | _ => false

/-- The abort of function 1 halts the context of tenant 2. -/
theorem haltsCtx_tenAbort : haltsCtx (exec (.tenAbort 1 0x4A420001) doubledCtx) = true := by decide +kernel

/-- Refutes O48: in `doubledCtx` an abort does not let the context of another tenant stand. -/
theorem not_abortSequence : ¬ Obligations.AbortSequence := by
  intro h
  obtain ⟨habort, -⟩ := h doubledCtx 1 0x4A420001 (by decide) (by decide)
  obtain ⟨-, hgo⟩ := habort (by decide +kernel)
  obtain ⟨t, u, -, hexec, -, -, -, -, -, -, -, -, -, -, -, -, -, -, -, hothers, -⟩ := hgo (by decide)
  have hkept : u.ctx 5 = (doubledCtx.drainBuf 1).ctx 5 := hothers (by decide +kernel) 5 (.inr (by decide +kernel))
  exact absurd (haltsCtx_tenAbort.symm.trans (congrArg haltsCtx hexec)) (by rw [haltsCtx, hkept]; decide +kernel)

end Sys2Proof.Machine

/-! O51. An abort walks the feedback ports as their table lists them, and the registers of a port follow from its number. The
statement bounds no port's number: those of a port beyond every page of the part fall on a tenant page, and the abort of that port
clears the status of the tenant's own abort. -/

namespace Sys2Proof.Machine

open Sys2Proof

/-- The port number whose FBK_STATUS has the address of TEN_ABORT_STATUS of function 1. -/
def portOverTenant : Nat := 2147483010

theorem status_portOverTenant : Reg.FBK_STATUS portOverTenant = Reg.TEN_ABORT_STATUS 1 := by decide

/-- The PF has a TENANT_ABORT of function 1 in flight, and function 1 holds that port. -/
def abortOverPort : State :=
  { pwr := { mode := Mode.run }
    fns := [(0, { inflight := [{ tag := 0, opcode := 0x62, param := 1 }] })]
    ports := [(portOverTenant, { alloc := true, owner := 1 })] }

/-- TEN_ABORT_STATUS of function 1 reads busy in what a command answers. -/
def readsBusy : Host.Outcome State Fault Refusal → Bool
  | .next t => t.bit (Reg.TEN_ABORT_STATUS 1) 0
  | _ => false

/-- The abort of the port clears the bit that the abort has set. -/
theorem readsBusy_tenantAbort : readsBusy (exec (.tenantAbort 0) abortOverPort) = false := by decide +kernel

/-- Refutes O51: in `abortOverPort` the status of a TENANT_ABORT does not stand after it. -/
theorem not_firmwareCommands : ¬ Obligations.FirmwareCommands := by
  intro h
  obtain ⟨-, -, -, -, -, -, -, habort, -⟩ :=
    h abortOverPort 0 0 { tag := 0, opcode := 0x62, param := 1 } (by decide)
  obtain ⟨-, hrun⟩ := habort (by decide +kernel)
  obtain ⟨t, hexec, -, -, hstatus, -⟩ := hrun (by decide)
  have hbusy : t.bit (Reg.TEN_ABORT_STATUS 1) 0 = true := (hstatus (by decide +kernel)).1
  exact absurd (readsBusy_tenantAbort.symm.trans (congrArg readsBusy hexec)) (by rw [readsBusy, hbusy]; decide)

end Sys2Proof.Machine

/-! O52. TEN_IRQ_PEND_SET sends the messages of several vectors in order of urgency, and for that splits a vector's key into function
and vector. A key is the function times 2,048 plus the vector, so it splits back only where the vector is below 2,048. A source of the
table routed to vector 2,048 of function 0 has the key of vector 0 of function 1: its own event sends the one, the write of
TEN_IRQ_PEND_SET the other. -/

namespace Sys2Proof.Machine

open Sys2Proof

/-- Private source 0 of function 0 is enabled and routed to a vector beyond the PF's 2,048; functions 0 and 1 may both send. -/
def farVector : State :=
  { regs := [(Reg.HVC_CTRL, 1), (Reg.HVC_EN 0, 1)], srcs := [(0, { vec := 2048 })], vecs := [(2048, { masked := false })],
    fns := [(0, { bme := true, msixEn := true }), (1, { bme := true, msixEn := true })], link := { up := true },
    pwr := { mode := Mode.run } }

/-- The function of the last message that a command sends. -/
def lastMsix : Host.Outcome State Fault Refusal → Option Nat
  | .next t => match t.out.getLast? with
    | some (.msix fn _) => some fn
    | _ => none
  | _ => none

theorem lastMsix_pendSet : lastMsix (exec (.tenIrqPendSet 0 1) farVector) = some 1 := by decide +kernel

theorem lastMsix_event : lastMsix (exec (.hvcEvent 0) (farVector.drainBuf 0)) = some 0 := by decide +kernel

/-- Refutes O52: in `farVector` a write of TEN_IRQ_PEND_SET with one bit is not the event of its source. -/
theorem not_interruptEvents : ¬ Obligations.InterruptEvents := by
  intro h
  obtain ⟨-, -, -, hten⟩ := h farVector 0 0 0 (by decide) (by decide)
  obtain ⟨-, -, -, -, hone, -⟩ := hten (by decide +kernel) 1
  exact absurd (lastMsix_pendSet.symm.trans ((congrArg lastMsix (hone 0 (by decide) rfl)).trans lastMsix_event)) (by decide)

end Sys2Proof.Machine

/-! O53. A claim looks at every source the table of sources lists whose pending bit was set on the tick before, whatever its ID; the
statement asks only about the IDs below 0x4000. A table that lists a claimable source 0x4000 answers the claim with it, where the
statement expects the spurious ID. -/

namespace Sys2Proof.Machine

open Sys2Proof

/-- HVC enabled, and source 0x4000, routed to core 0, enabled and pending on the tick before. -/
def strayClaim : State :=
  { regs := [(Reg.HVC_CTRL, 1), (Reg.HVC_EN 512, 1)], srcs := [(0x4000, { core := 0, stw := true, at_ := some 0, was := true })] }

/-- The data of the last read that a command answers. -/
def lastRead : Host.Outcome State Fault Refusal → Option (BitVec 32)
  | .next t => match t.out.getLast? with
    | some (.readData _ v) => some v
    | _ => none
  | _ => none

/-- The claim of core 0 answers the stray source. -/
theorem lastRead_strayClaim : lastRead (exec (.hvcClaim 0) strayClaim) = some 0x4000 := by decide +kernel

/-- No source below 0x4000 goes to a steward core. -/
theorem stw_strayClaim {i : Nat} (hi : i < 0x4000) : (strayClaim.src i).stw = false := by
  have habsent : strayClaim.src i = srcDefault i := by
    rw [State.src, strayClaim, Tbl.get, if_neg (by omega), Tbl.get]
  rw [habsent, srcDefault]

/-- Refutes O53: in `strayClaim` nothing below 0x4000 is claimable, and the claim does not answer the spurious ID. -/
theorem not_routesAndClaims : ¬ Obligations.RoutesAndClaims := by
  intro h
  obtain ⟨hidle, -⟩ := h strayClaim 0 0 0 (by decide) (by decide)
  have hnone := hidle (by decide) (fun i hi ⟨_, _, _, hstw, _⟩ => absurd (hstw.symm.trans (stw_strayClaim hi)) (by decide)) (by decide)
  exact absurd (lastRead_strayClaim.symm.trans (congrArg lastRead hnone)) (by decide)

end Sys2Proof.Machine

/-! O55: DMA channels and their commands. What a push, an enable, a disable, a continue and a new head of the completion queue do is
said once, each as a relation of two states in the terms of the statement; the commands of a ring and the PF's writes then share it. -/

namespace Sys2Proof.Machine

open Sys2Proof

/-! ### What one channel's operations write -/

/-- Of the channels `c` alone may differ, of the registers those of `ks`, and of the other fields none. -/
structure ChanOnly (c : Nat) (ks : List Nat) (s t : State) : Prop where
  chan : ∀ j, j ≠ c → t.chan j = s.chan j
  reg : ∀ r, r ∉ ks → t.reg r = s.reg r
  frame : t = { s with regs := t.regs, chans := t.chans }

section Frames
variable {c : Nat} {ks : List Nat} {s t u : State}

theorem ChanOnly.trans (h : ChanOnly c ks s t) (g : ChanOnly c ks t u) : ChanOnly c ks s u :=
  ⟨fun j hj => (g.chan j hj).trans (h.chan j hj), fun r hr => (g.reg r hr).trans (h.reg r hr), by rw [g.frame, h.frame]⟩

theorem ChanOnly.of_setChan (c : Nat) (ks : List Nat) (s : State) (k : Chan) : ChanOnly c ks s (s.setChan c k) :=
  ⟨fun j hj => (s.chan_setChan c j k).trans (if_neg hj), fun _ _ => rfl, rfl⟩

theorem State.chan_of_chans {s t : State} (h : t.chans = s.chans) (j : Nat) : t.chan j = s.chan j := by rw [State.chan, State.chan, h]

theorem OnlyRegs.chan (h : OnlyRegs ks s t) (j : Nat) : t.chan j = s.chan j := State.chan_of_chans (by rw [h.1]) j

theorem OnlyRegs.chanOnly (h : OnlyRegs ks s t) (c : Nat) : ChanOnly c ks s t :=
  ⟨fun j _ => h.chan j, h.2, h.1.trans (by rw [h.1])⟩

theorem ChanOnly.mono {ls : List Nat} (h : ChanOnly c ks s t) (hsub : ∀ k ∈ ks, k ∈ ls) : ChanOnly c ls s t :=
  ⟨h.chan, fun r hr => h.reg r fun hk => hr (hsub r hk), h.frame⟩

end Frames

theorem State.chan_setChan_same (s : State) (c : Nat) (k : Chan) : (s.setChan c k).chan c = k := (s.chan_setChan c c k).trans (if_pos rfl)

theorem State.fld_setChan (s : State) (c r lo n : Nat) (k : Chan) : (s.setChan c k).fld r lo n = s.fld r lo n := rfl

theorem State.chan_setFld (s : State) (k lo n v j : Nat) : (s.setFld k lo n v).chan j = s.chan j := rfl

theorem State.bit_setChan (s : State) (c r i : Nat) (k : Chan) : (s.setChan c k).bit r i = s.bit r i := rfl

/-! ### The start of a descriptor (R291, R309) -/

section Start
variable (s : State) (c : Nat)

/-- DMA_DSEQ.CUR and DMA_BYTES are all that shows the descriptor in progress. -/
theorem State.showCur_only : OnlyRegs [Reg.DMA_DSEQ c, Reg.DMA_BYTES c] s (s.showCur c) := by
  rw [State.showCur]
  split
  · exact .refl _ s
  split
  · exact ((OnlyRegs.refl _ s).setFld (by simp) ..).setFld (by simp) ..
  · exact .refl _ s

theorem State.showCur_dseq : (s.showCur c).fld (Reg.DMA_DSEQ c) 0 16 = s.fld (Reg.DMA_DSEQ c) 0 16 := by
  rw [State.showCur]
  split
  · rfl
  split
  · rw [State.fld_setFld_other _ (by simp)]
    exact State.fld_setFld_apart _ _ _ _ _ _ _ (by decide) (by decide)
  · rfl

theorem State.showCur_bytes (hst : (s.chan c).st = 2) (hq : (s.chan c).queue ≠ []) : (s.showCur c).fld (Reg.DMA_BYTES c) 0 25 = 0 := by
  rw [State.showCur]
  split
  · next h => exact absurd h hq
  · rw [if_pos hst]
    exact State.fld_setFld_same _ _ 0 25 _ (by decide)

/-- The state of an enabled channel at rest: idle, or active where it has work. -/
def Chan.started (k : Chan) : Nat := if k.queue = [] then 1 else 2

theorem State.startChan_eq : s.startChan c =
    if (s.chan c).st = 1 ∧ (s.chan c).queue ≠ [] then (s.setChan c { s.chan c with st := 2 }).showCur c else s := rfl

theorem State.startChan_only : ChanOnly c [Reg.DMA_DSEQ c, Reg.DMA_BYTES c] s (s.startChan c) := by
  rw [State.startChan_eq]
  split
  · exact (ChanOnly.of_setChan c _ s _).trans ((State.showCur_only _ c).chanOnly c)
  · exact ((OnlyRegs.refl _ s).chanOnly c)

theorem State.startChan_chan : (s.startChan c).chan c = { s.chan c with st := if (s.chan c).st = 1 then (s.chan c).started else (s.chan c).st } := by
  rw [State.startChan_eq]
  split
  · next h => rw [(State.showCur_only _ c).chan, State.chan_setChan_same, if_pos h.1, Chan.started, if_neg h.2]
  · next h =>
    by_cases hst : (s.chan c).st = 1
    · rw [if_pos hst, Chan.started, if_pos (by_contra fun hq => h ⟨hst, hq⟩), ← hst]
    · rw [if_neg hst]

theorem State.startChan_dseq : (s.startChan c).fld (Reg.DMA_DSEQ c) 0 16 = s.fld (Reg.DMA_DSEQ c) 0 16 := by
  rw [State.startChan_eq]
  split
  · exact State.showCur_dseq _ c
  · rfl

end Start

/-! ### A push (R292) -/

/-- The checks of R292 on a descriptor of 32 bytes. -/
abbrev LegalDesc (v : Nat) : Prop :=
  let len := bits v 128 32
  let x := bits v 160 32
  let op := bits x 0 2
  let w := if bitAt x 6 then 8 else 4
  let src := bits v 0 64
  let dst := bits v 64 64
  op ≠ 3 ∧ bitAt x 7 = false ∧ bits x 9 7 = 0 ∧ bits v 224 32 = 0 ∧ 1 ≤ len ∧ len ≤ 2 ^ 24 ∧
    (bitAt x 3 = true → dst + (if bitAt x 5 then w else len) ≤ 2 ^ 26) ∧ (bitAt x 5 = true → dst % w = 0) ∧
    (op ≠ 1 → bitAt x 2 = true → src + (if bitAt x 4 then w else len) ≤ 2 ^ 26) ∧ (op ≠ 1 → bitAt x 4 = true → src % w = 0) ∧
    (op ≠ 1 → bitAt x 2 = false → bitAt x 3 = true) ∧ (bitAt x 5 = true ∨ op ≠ 1 ∧ bitAt x 4 = true → len % w = 0) ∧
    (op = 0 → bits x 2 2 = 3 → bits x 4 2 = 0 → dst + len ≤ src ∨ src + len ≤ dst)

/-- The descriptor that 32 bytes spell. -/
def newDesc (i v : Nat) : Desc :=
  { idx := i, src := bits v 0 64, dst := bits v 64 64, len := bits v 128 32, ctrl := bits v 160 32, pattern := bits v 192 32 }

theorem bits_two_eq_three (x i : Nat) : bits x i 2 = 3 ↔ bitAt x i = true ∧ bitAt x (i + 1) = true := by
  simp only [bits, bitAt, decide_eq_true_eq, pow_succ, ← Nat.div_div_eq_div_mul]
  omega

theorem bits_two_eq_zero (x i : Nat) : bits x i 2 = 0 ↔ bitAt x i = false ∧ bitAt x (i + 1) = false := by
  simp only [bits, bitAt, decide_eq_false_iff_not, pow_succ, ← Nat.div_div_eq_div_mul]
  omega

theorem bits_one_eq_zero (x i : Nat) : bits x i 1 = 0 ↔ bitAt x i = false := by
  simp only [bits, bitAt, decide_eq_false_iff_not]
  omega

theorem sideFits_iff (slab fix : Bool) (a len w : Nat) : sideFits slab fix a len w = true ↔
    (slab = true → a + (if fix then w else len) ≤ 2 ^ 26) ∧ (fix = true → a % w = 0) := by
  cases slab <;> cases fix <;> simp [sideFits]

theorem Desc.fits_iff (i v : Nat) : (ofDesc i v).1.fits (ofDesc i v).2 = true ↔ LegalDesc v := by
  have hfill : ∀ op : Nat, (!(op == 1)) = false ↔ op = 1 := by simp
  simp only [ofDesc, Desc.fits, LegalDesc, Desc.op, Desc.fill, Desc.width, Desc.srcSlab, Desc.dstSlab, Desc.srcFix, Desc.dstFix,
    Bool.and_eq_true, Bool.or_eq_true, Bool.not_eq_true', decide_eq_true_eq, sideFits_iff, bits_one_eq_zero, bits_two_eq_three,
    bits_two_eq_zero (bits v 160 32) 4, Bool.and_eq_false_iff, Bool.or_eq_false_iff, hfill,
    Bool.not_eq_false', Nat.reduceAdd]
  grind

/-- What a push leaves: a refused descriptor its code and PG_ERR, an accepted one the queue that it joins and, at an idle channel, its
start. -/
def Pushed (ch : Nat) (u t : State) (v code : Nat) : Prop :=
  let stat := Reg.DMA_STATUS ch
  let dseq := Reg.DMA_DSEQ ch
  let bytes := Reg.DMA_BYTES ch
  let err := Reg.PG_ERR (0x80 + ch)
  code = (if ¬LegalDesc v then 0x08 else if 16 ≤ (u.chan ch).queue.length then 0x0C else 0) ∧ t.fld stat 8 8 = code ∧
  (code ≠ 0 → t.bit err 17 = true ∧ OnlyRegs [stat, err] u t) ∧
  (code = 0 → t.chan ch = { u.chan ch with
      queue := (u.chan ch).queue ++ [newDesc (u.fld dseq 0 16) v], st := if (u.chan ch).st = 1 then 2 else (u.chan ch).st } ∧
    (∀ j, j ≠ ch → t.chan j = u.chan j) ∧
    t.fld dseq 0 16 = (u.fld dseq 0 16 + 1) % 2 ^ 16 ∧ (∀ r, r ≠ stat → r ≠ dseq → r ≠ bytes → t.reg r = u.reg r) ∧
    ((u.chan ch).st = 1 → t.fld bytes 0 25 = 0) ∧ ((u.chan ch).st ≠ 1 → t.reg bytes = u.reg bytes) ∧
    t = { u with regs := t.regs, chans := t.chans })

section Push
variable (s : State) (c v : Nat)

/-- The code that answers a push. -/
theorem State.pushDesc_code : (s.pushDesc c v).2 =
    if ¬LegalDesc v then 0x08 else if 16 ≤ (s.chan c).queue.length then 0x0C else 0 := by
  simp only [State.pushDesc]
  rw [apply_ite Prod.snd, ite_self]
  have hfits : (ofDesc (s.fld (Reg.DMA_DSEQ c) 0 16) v).1.fits (ofDesc (s.fld (Reg.DMA_DSEQ c) 0 16) v).2 = false ↔ ¬LegalDesc v :=
    Bool.not_eq_true _ ▸ not_congr (Desc.fits_iff _ v)
  simp only [hfits, Code.rejectClass, Code.queueFull, Code.ok]

/-- The descriptor joins the queue of its channel. -/
def State.queued : State :=
  ((s.setFld (Reg.DMA_STATUS c) 8 8 0).setChan c { s.chan c with
    queue := (s.chan c).queue ++ [newDesc (s.fld (Reg.DMA_DSEQ c) 0 16) v] }).setFld (Reg.DMA_DSEQ c) 0 16 (s.fld (Reg.DMA_DSEQ c) 0 16 + 1)

theorem State.pushDesc_ok (h : (s.pushDesc c v).2 = 0) : (s.pushDesc c v).1 = (s.queued c v).startChan c := by
  simp only [State.pushDesc, apply_ite Prod.snd, ite_self] at h ⊢
  rw [if_pos h, h]
  rfl

theorem State.pushDesc_refused (h : (s.pushDesc c v).2 ≠ 0) :
    (s.pushDesc c v).1 = (s.setFld (Reg.DMA_STATUS c) 8 8 (s.pushDesc c v).2).pgErr (0x80 + c) 17 := by
  simp only [State.pushDesc, apply_ite Prod.snd, ite_self] at h ⊢
  rw [if_neg h]

/-- DMA_STATUS shows the code. -/
theorem State.fld_status_pushDesc : (s.pushDesc c v).1.fld (Reg.DMA_STATUS c) 8 8 = (s.pushDesc c v).2 := by
  have hlt : (s.pushDesc c v).2 % 2 ^ 8 = (s.pushDesc c v).2 := by
    rw [State.pushDesc_code]
    split
    · rfl
    · split <;> rfl
  by_cases h : (s.pushDesc c v).2 = 0
  · rw [State.pushDesc_ok s c v h, State.fld_of_reg ((State.startChan_only _ c).reg _ (by simp)), State.queued,
      State.fld_setFld_other _ (by simp), State.fld_setChan, State.fld_setFld_same _ _ 8 8 0 (by decide), h, Nat.zero_mod]
  · have hne : Reg.DMA_STATUS c ≠ Reg.PG_ERR (0x80 + c) := by simp [Reg.PG_ERR]
    rw [State.pushDesc_refused s c v h, State.pgErr, State.fld_setBit_other _ hne, State.fld_setFld_same _ _ 8 8 _ (by decide), hlt]

theorem State.pushed_pushDesc : Pushed c s (s.pushDesc c v).1 v (s.pushDesc c v).2 := by
  refine ⟨s.pushDesc_code c v, s.fld_status_pushDesc c v, fun h => ?refused, fun h => ?accepted⟩
  case refused =>
    rw [State.pushDesc_refused s c v h]
    exact ⟨State.bit_pgErr_same _ _ (by decide), ((OnlyRegs.refl _ s).setFld (by simp) 8 8 _).pgErr (by simp) 17⟩
  case accepted =>
    rw [State.pushDesc_ok s c v h]
    have hchan : (s.queued c v).chan c = { s.chan c with queue := (s.chan c).queue ++ [newDesc (s.fld (Reg.DMA_DSEQ c) 0 16) v] } :=
      by rw [State.queued, State.chan_setFld, State.chan_setChan_same]
    have honly : ChanOnly c [Reg.DMA_STATUS c, Reg.DMA_DSEQ c] s (s.queued c v) :=
      ((((OnlyRegs.refl [Reg.DMA_STATUS c, Reg.DMA_DSEQ c] s).setFld (by simp) 8 8 0).chanOnly c).trans (.of_setChan c _ _ _)).trans
        (((OnlyRegs.refl [Reg.DMA_STATUS c, Reg.DMA_DSEQ c] _).setFld (by simp) 0 16 _).chanOnly c)
    have hstart := (s.queued c v).startChan_only c
    have hall : ChanOnly c [Reg.DMA_STATUS c, Reg.DMA_DSEQ c, Reg.DMA_BYTES c] s ((s.queued c v).startChan c) :=
      (honly.mono (by simp)).trans (hstart.mono (by simp))
    refine ⟨?_, hall.chan, ?_, fun r h1 h2 h3 => hall.reg r (by simp [h1, h2, h3]), fun hst => ?_, fun hst => ?_, hall.frame⟩
    · rw [State.startChan_chan, hchan]
      simp [Chan.started]
    · rw [State.startChan_dseq]
      exact State.fld_setFld_same _ _ 0 16 _ (by decide)
    · rw [State.startChan_eq, if_pos ⟨by rw [hchan]; exact hst, by rw [hchan]; simp⟩]
      exact State.showCur_bytes _ c (by rw [State.chan_setChan_same]) (by rw [State.chan_setChan_same, hchan]; simp)
    · rw [State.startChan_eq, if_neg fun h => hst (by have := h.1; rwa [hchan] at this)]
      exact honly.reg _ (by simp)

end Push

/-! ### Enable, disable, continue (R300, R301) -/

/-- EN goes to 1. -/
def EnabledChan (ch : Nat) (u t : State) : Prop :=
  t.bit (Reg.DMA_CTRL ch) 0 = true ∧ t.bit (Reg.DMA_CQ_TAIL ch) 16 = true ∧
  t.chan ch = { u.chan ch with st := if (u.chan ch).outstanding then 4 else (u.chan ch).started } ∧ (∀ j, j ≠ ch → t.chan j = u.chan j) ∧
  (∀ r, r ≠ Reg.DMA_CTRL ch → r ≠ Reg.DMA_CQ_TAIL ch → r ≠ Reg.DMA_DSEQ ch → r ≠ Reg.DMA_BYTES ch → t.reg r = u.reg r) ∧
  t = { u with regs := t.regs, chans := t.chans }

/-- A halted channel goes on. -/
def ContinuedChan (ch : Nat) (u t : State) : Prop :=
  t.chan ch = { u.chan ch with st := if (u.chan ch).heldRec ≠ none then 5 else (u.chan ch).started } ∧
  (∀ j, j ≠ ch → t.chan j = u.chan j) ∧ (∀ r, r ≠ Reg.DMA_DSEQ ch → r ≠ Reg.DMA_BYTES ch → t.reg r = u.reg r) ∧
  t = { u with regs := t.regs, chans := t.chans }

/-- Everything of the channel is dropped but host writes already issued. -/
def DisabledChan (ch : Nat) (u t : State) : Prop :=
  t.bit (Reg.DMA_CTRL ch) 0 = false ∧ (t.chan ch).queue = [] ∧ (t.chan ch).st = 0 ∧ (t.chan ch).heldRec = none ∧
  (t.chan ch).owner = (u.chan ch).owner ∧
  ((t.chan ch).outstanding = true ↔ (u.chan ch).outstanding = true ∨ (u.chan ch).st = 2 ∧
    ∃ x r, (u.chan ch).queue = x :: r ∧ (x.hostReads = true ∨ x.hostOut = true ∧ x.len ≤ (u.chan ch).pos)) ∧
  (((u.chan ch).got = [] → t.out = u.out) ∧
    ∀ x r, (u.chan ch).queue = x :: r → bitAt x.ctrl 5 = false → (u.chan ch).got ≠ [] → (u.chan ch).got.length ≤ 256 →
      x.dst % 4096 + (u.chan ch).got.length ≤ 4096 → t.out = u.out ++ [.hostWrite x.dst (u.chan ch).got]) ∧
  (∀ j, j ≠ ch → t.chan j = u.chan j) ∧ (∀ r, r ≠ Reg.DMA_CTRL ch → r ≠ Reg.DMA_BYTES ch → t.reg r = u.reg r) ∧
  t = { u with out := t.out, fresh := t.fresh, regs := t.regs, chans := t.chans }

section Control
variable (s : State) (c : Nat)

theorem State.enabledChan_enableChan (h : s.bit (Reg.DMA_CTRL c) 0 = false) : EnabledChan c s (s.enableChan c) := by
  set u := (s.setBit (Reg.DMA_CTRL c) 0 true).setBit (Reg.DMA_CQ_TAIL c) 16 true with hu
  have hrun : s.enableChan c = (u.setChan c { s.chan c with st := if (s.chan c).outstanding then 4 else 1 }).startChan c := by
    rw [State.enableChan, h]
    rfl
  set w := u.setChan c { s.chan c with st := if (s.chan c).outstanding then 4 else 1 } with hw
  have honly : ChanOnly c [Reg.DMA_CTRL c, Reg.DMA_CQ_TAIL c] s w :=
    ((((OnlyRegs.refl [Reg.DMA_CTRL c, Reg.DMA_CQ_TAIL c] s).setBit (by simp) 0 true).setBit (by simp) 16 true).chanOnly c).trans
      (.of_setChan c _ _ _)
  have hstart := w.startChan_only c
  have hall : ChanOnly c [Reg.DMA_CTRL c, Reg.DMA_CQ_TAIL c, Reg.DMA_DSEQ c, Reg.DMA_BYTES c] s (w.startChan c) :=
    (honly.mono (by simp)).trans (hstart.mono (by simp))
  rw [hrun]
  refine ⟨?_, ?_, ?_, hall.chan, fun r h1 h2 h3 h4 => hall.reg r (by simp [h1, h2, h3, h4]), hall.frame⟩
  · rw [State.bit_of_reg (hstart.reg _ (by simp)), hw, State.bit_setChan, hu, State.bit_setBit_other _ (by simp)]
    exact State.bit_setBit_same _ _ 0 true (by decide)
  · rw [State.bit_of_reg (hstart.reg _ (by simp)), hw, State.bit_setChan]
    exact State.bit_setBit_same _ _ 16 true (by decide)
  · rw [State.startChan_chan, hw, State.chan_setChan_same]
    cases (s.chan c).outstanding <;> simp [Chan.started]

theorem State.enableChan_enabled (h : s.bit (Reg.DMA_CTRL c) 0 = true) : s.enableChan c = s := if_pos h

theorem State.nextDesc_eq (h : (s.chan c).st ≠ 3) : s.nextDesc c =
    if (s.chan c).heldRec.isSome then s.setChan c { s.chan c with st := 5 }
    else (s.setChan c { s.chan c with st := (s.chan c).started }).showCur c := if_neg h

theorem State.nextDesc_only : ChanOnly c [Reg.DMA_DSEQ c, Reg.DMA_BYTES c] s (s.nextDesc c) := by
  by_cases h : (s.chan c).st = 3
  · rw [State.nextDesc, if_pos h]
    exact (OnlyRegs.refl _ s).chanOnly c
  rw [State.nextDesc_eq s c h]
  split
  · exact .of_setChan c _ s _
  · exact (ChanOnly.of_setChan c _ s _).trans ((State.showCur_only _ c).chanOnly c)

theorem State.nextDesc_chan (h : (s.chan c).st ≠ 3) :
    (s.nextDesc c).chan c = { s.chan c with st := if (s.chan c).heldRec ≠ none then 5 else (s.chan c).started } := by
  rw [State.nextDesc_eq s c h]
  cases hheld : (s.chan c).heldRec with
  | none => rw [if_neg (by simp), (State.showCur_only _ c).chan, State.chan_setChan_same, if_neg (by simp)]
  | some r => rw [if_pos (Option.isSome_some (a := r)), State.chan_setChan_same, if_pos (by simp)]

theorem State.continuedChan_continueChan (h : (s.chan c).st = 3) : ContinuedChan c s (s.continueChan c) := by
  set u := s.setChan c { s.chan c with st := 1 } with hu
  have hchan : u.chan c = { s.chan c with st := 1 } := State.chan_setChan_same ..
  have hall := (ChanOnly.of_setChan c [Reg.DMA_DSEQ c, Reg.DMA_BYTES c] s { s.chan c with st := 1 }).trans (u.nextDesc_only c)
  rw [State.continueChan, if_pos h]
  refine ⟨?_, hall.chan, fun r h1 h2 => hall.reg r (by simp [h1, h2]), hall.frame⟩
  rw [u.nextDesc_chan c (by rw [hchan]; simp), hchan]
  rfl

theorem State.continueChan_running (h : (s.chan c).st ≠ 3) : s.continueChan c = s := if_neg h

/-- A short run of bytes inside one 4 KB block is one host write. -/
theorem hostSplit_one {a : Nat} {bs : List Nat} (hne : bs ≠ []) (h256 : bs.length ≤ 256) (h4k : a % 4096 + bs.length ≤ 4096) :
    hostSplit a bs bs.length = [(a, bs)] := by
  obtain ⟨n, hn⟩ : ∃ n, bs.length = n + 1 := ⟨bs.length - 1, by have := List.length_pos_iff.mpr hne; omega⟩
  have htake : bs.length ≤ min 256 (4096 - a % 4096) := by omega
  simp only [hn, hostSplit, if_neg hne, List.take_of_length_le htake, List.drop_of_length_le htake]
  cases n <;> rfl

theorem State.issued_empty (h : (s.chan c).got = []) : s.issued c = s := by
  rw [State.issued]
  split
  · rfl
  · next d _ _ =>
    rw [h, State.hostWrites]
    cases d.dstFix <;> rfl

theorem State.hostWrites_frame (d : Desc) (bs : List Nat) : s.hostWrites d bs = { s with out := (s.hostWrites d bs).out } := by
  rw [State.hostWrites]
  exact List.foldlRecOn (motive := fun t : State => t = { s with out := t.out }) _ _ rfl fun t ht x _ => by
    rw [show t.send (.hostWrite x.1 x.2) = { t with out := t.out ++ [.hostWrite x.1 x.2] } from rfl, ht]

theorem State.issued_frame : s.issued c = { s with out := (s.issued c).out } := by
  rw [State.issued]
  split
  · rfl
  · exact s.hostWrites_frame _ _

theorem State.issued_one {x : Desc} {r : List Desc} (hq : (s.chan c).queue = x :: r) (hfix : bitAt x.ctrl 5 = false)
    (hne : (s.chan c).got ≠ []) (h256 : (s.chan c).got.length ≤ 256) (h4k : x.dst % 4096 + (s.chan c).got.length ≤ 4096) :
    (s.issued c).out = s.out ++ [.hostWrite x.dst (s.chan c).got] := by
  simp only [State.issued, hq]
  rw [State.hostWrites, show x.dstFix = false from hfix, if_neg (by simp), hostSplit_one hne h256 h4k]
  rfl

theorem Chan.reading_iff (k : Chan) : k.reading = true ↔
    k.st = 2 ∧ ∃ x r, k.queue = x :: r ∧ (x.hostReads = true ∨ x.hostOut = true ∧ x.len ≤ k.pos) := by
  rw [Chan.reading]
  cases k.queue <;> simp

theorem State.nextFresh_setChan_frame (u : State) (k : Chan) : u.nextFresh.setChan c k =
    { u with fresh := (u.nextFresh.setChan c k).fresh, chans := (u.nextFresh.setChan c k).chans } := rfl

theorem State.disabledChan_disableChan (h : s.bit (Reg.DMA_CTRL c) 0 = true) : DisabledChan c s (s.disableChan c) := by
  set w := s.issued c with hw
  have hissued : w = { s with out := w.out } := s.issued_frame c
  set u := (w.setBit (Reg.DMA_CTRL c) 0 false).setFld (Reg.DMA_BYTES c) 0 25 (Config.freeWord w.fresh).toNat with hu
  set k : Chan := { (s.chan c).advance with
    queue := [], st := 0, heldRec := none, heldNotify := false, quiet := false,
    outstanding := (s.chan c).outstanding || (s.chan c).reading } with hk
  have hrun : s.disableChan c = u.nextFresh.setChan c k := by
    rw [State.disableChan, if_neg (by simp [h])]
  have hchan : (s.disableChan c).chan c = k := hrun ▸ State.chan_setChan_same ..
  have hregs : ∀ r, r ≠ Reg.DMA_CTRL c → r ≠ Reg.DMA_BYTES c → u.reg r = s.reg r := fun r h1 h2 =>
    ((State.reg_setFld_other _ h2 ..).trans (State.reg_setBit_other _ h1 ..)).trans (State.reg_of_regs (by rw [hissued]) r)
  have hout : (s.disableChan c).out = w.out := by rw [hrun]; rfl
  refine ⟨?_, by rw [hchan], by rw [hchan], by rw [hchan], by rw [hchan]; rfl, ?_, ⟨fun hgot => ?_, fun x r hq hfix hne h256 h4k => ?_⟩,
    fun j hj => ?_, fun r h1 h2 => ?_, ?_⟩
  · rw [hrun, State.bit_setChan, show u.nextFresh.bit (Reg.DMA_CTRL c) 0 = u.bit (Reg.DMA_CTRL c) 0 from rfl, hu,
      State.bit_setFld_other _ (by simp), State.bit_setBit_same _ _ 0 false (by decide)]
  · rw [hchan, ← Chan.reading_iff]
    simp only [hk, Bool.or_eq_true]
  · rw [hout, hw, s.issued_empty c hgot]
  · rw [hout, hw, s.issued_one c hq hfix hne h256 h4k]
  · rw [hrun, State.chan_setChan, if_neg hj]
    exact State.chan_of_chans (by rw [show u.nextFresh.chans = w.chans from rfl, hissued]) j
  · rw [hrun]
    exact hregs r h1 h2
  · have hu' : OnlyRegs [Reg.DMA_CTRL c, Reg.DMA_BYTES c] w u :=
      ((OnlyRegs.refl _ w).setBit (by simp) 0 false).setFld (by simp) 0 25 _
    rw [hrun]
    calc u.nextFresh.setChan c k = { u with fresh := (u.nextFresh.setChan c k).fresh, chans := (u.nextFresh.setChan c k).chans } :=
          u.nextFresh_setChan_frame c k
      _ = { w with fresh := (u.nextFresh.setChan c k).fresh, regs := u.regs, chans := (u.nextFresh.setChan c k).chans } := by rw [hu'.1]
      _ = _ := by rw [hissued]; rfl

end Control

/-! ### The completion queue's head (R298) -/

/-- What a new head of the completion queue does: outside the filled part it is refused, inside it it is taken, and a held record is
written where it now may be. -/
def HeadMoved (ch i : Nat) (u t : State) (code : Nat) : Prop :=
  let z := 2 ^ u.fld (Reg.DMA_CQ_CFG ch) 0 4
  let h := u.fld (Reg.DMA_CQ_HEAD ch) 0 12
  let tl := u.fld (Reg.DMA_CQ_TAIL ch) 0 12
  let open_ := u.bit (Reg.DMA_CQ_CFG ch) 4 = true ∨ (u.fn (u.chan ch).owner).dstate = 0 ∧ u.link.up = true
  let inside := (i + z - h % z) % z ≤ (tl + z - h % z) % z ∧ i < z
  (¬inside → code = 0x0C ∧ t = u) ∧
  (inside → code = 0 ∧ t.fld (Reg.DMA_CQ_HEAD ch) 0 12 = i ∧
    ((u.chan ch).heldRec = none ∨ i = (tl + 1) % z ∨ ¬open_ → OnlyRegs [Reg.DMA_CQ_HEAD ch] u t) ∧
    (∀ r, (u.chan ch).heldRec = some r → (u.chan ch).heldNotify = false → i ≠ (tl + 1) % z → u.bit (Reg.DMA_CQ_CFG ch) 4 = false → open_ →
      (u.fn (u.chan ch).owner).bme = true → (t.chan ch).heldRec = none ∧
        (t.chan ch).st = (if (u.chan ch).st = 5 then (u.chan ch).started else (u.chan ch).st) ∧
        ∃ a, t.out = u.out ++ [.hostWrite a (bytesLE 32 (cqValue ch r (u.fld (Reg.DMA_CQ_TAIL ch) 16 1) u.tb.now))]))

section Head
variable (s : State) (c : Nat)

/-- The place of the next record in the completion queue, and of the one after it. -/
def State.cqAt : Nat := s.fld (Reg.DMA_CQ_TAIL c) 0 12 % s.cqSize c
def State.cqNext : Nat := (s.cqAt c + 1) % s.cqSize c

/-- The tail steps over the record just written; PHASE flips at each wrap. -/
def State.stepCq (s t : State) : State :=
  (t.setFld (Reg.DMA_CQ_TAIL c) 0 12 (s.cqNext c)).setFld (Reg.DMA_CQ_TAIL c) 16 1
    (if s.cqNext c = 0 then 1 - s.fld (Reg.DMA_CQ_TAIL c) 16 1 else s.fld (Reg.DMA_CQ_TAIL c) 16 1)

/-- The tail steps, and the channel's source is raised where the descriptor asks for it. -/
def State.stepNotify (notify : Bool) (s t : State) : State :=
  if notify then (s.stepCq c t).raise (0x3380 + 2 * c) else s.stepCq c t

/-- The address of the next record, and what it holds. -/
def State.cqAddr : Nat := s.pair (Reg.DMA_CQ_BASE_L c) (Reg.DMA_CQ_BASE_H c) / 32 * 32 + 32 * s.cqAt c
def State.cqRecord (r : List Nat) : Nat := cqValue c r (s.fld (Reg.DMA_CQ_TAIL c) 16 1) s.tb.now

theorem State.writeCq_eq (r : List Nat) (notify : Bool) : s.writeCq c r notify =
    if s.cqSlab c then
      match s.slabWrite (s.chan c).owner (s.cqAddr c % 2 ^ 26) 32 (s.cqRecord c r) 3 with
      | .ok _ t => s.stepNotify c notify t
      | .bad code t => t.haltMarks c code (s.cqAddr c % 2 ^ 26) 3 (r.getD 0 0)
    else if (s.fn (s.chan c).owner).bme then s.stepNotify c notify (s.send (.hostWrite (s.cqAddr c) (bytesLE 32 (s.cqRecord c r))))
    else s.haltMarks c Code.busError (s.cqAddr c) 1 (r.getD 0 0) := rfl

/-- A record to host memory, where Bus Master Enable allows it. -/
theorem State.writeCq_host (hslab : s.cqSlab c = false) (hbme : (s.fn (s.chan c).owner).bme = true) (r : List Nat) (notify : Bool) :
    s.writeCq c r notify = s.stepNotify c notify (s.send (.hostWrite (s.cqAddr c) (bytesLE 32 (s.cqRecord c r)))) := by
  rw [State.writeCq_eq, hslab, hbme]
  rfl

theorem State.stepCq_only (t : State) : OnlyRegs [Reg.DMA_CQ_TAIL c] t (s.stepCq c t) :=
  ((OnlyRegs.refl _ t).setFld (by simp) 0 12 _).setFld (by simp) 16 1 _

theorem State.cqSlab_eq : s.cqSlab c = s.bit (Reg.DMA_CQ_CFG c) 4 := rfl

theorem State.cqOpen_iff : s.cqOpen c = true ↔
    s.bit (Reg.DMA_CQ_CFG c) 4 = true ∨ (s.fn (s.chan c).owner).dstate = 0 ∧ s.link.up = true := by
  simp [State.cqOpen, State.cqSlab]

theorem State.cqRoom_held {r : List Nat} (hheld : (s.chan c).heldRec = some r) (hfree : s.cqFree c = true) (hopen : s.cqOpen c = true) :
    s.cqRoom c =
      let w := (s.setChan c { s.chan c with heldRec := none, heldNotify := false }).writeCq c r (s.chan c).heldNotify
      if (s.chan c).st = 5 then w.nextDesc c else w := by
  simp only [State.cqRoom, hheld, hfree, hopen]
  rfl

theorem State.cqRoom_stays (h : (s.chan c).heldRec = none ∨ s.cqFree c = false ∨ s.cqOpen c = false) : s.cqRoom c = s := by
  simp only [State.cqRoom]
  split
  · rfl
  · next r hheld => exact if_pos (h.resolve_left (by simp [hheld]))

/-- What a record, or the halt of a channel whose record cannot be written, changes of the channels' pages. -/
def cqRegs : List Nat := [Reg.DMA_CQ_TAIL c, Reg.DMA_FAULT_ADDR_L c, Reg.DMA_FAULT_ADDR_H c, Reg.DMA_FAULT_DIR c, Reg.PG_ERR (0x80 + c)]

/-- The latches of a halted channel. -/
def State.latched (s : State) (c code addr dir idx : Nat) : State :=
  (s.setPair (Reg.DMA_FAULT_ADDR_L c) (Reg.DMA_FAULT_ADDR_H c) (addr % 2 ^ 64)).setN (Reg.DMA_FAULT_DIR c)
    (dir % 8 + code % 256 * 2 ^ 8 + idx % 2 ^ 16 * 2 ^ 16)

/-- The fault record and the source of a halted channel. -/
def State.haltRecord (s : State) (c code addr : Nat) : State :=
  (s.faultRecord (s.chan c).owner code FSrc.dma c addr).raise (0x3380 + 2 * c + 1)

theorem State.haltMarks_eq (code addr dir idx : Nat) : s.haltMarks c code addr dir idx =
    let t := ((s.latched c code addr dir idx).haltRecord c code addr).pgErr (0x80 + c) 16
    t.setChan c { t.chan c with st := 3 } := rfl

theorem State.haltRecord_midKept (code addr : Nat) : MidKept s (s.haltRecord c code addr) :=
  (s.faultRecord_midKept ..).trans (State.raise_midKept _ _)

theorem State.latched_only (code addr dir idx : Nat) :
    OnlyRegs [Reg.DMA_FAULT_ADDR_L c, Reg.DMA_FAULT_ADDR_H c, Reg.DMA_FAULT_DIR c] s (s.latched c code addr dir idx) :=
  ((OnlyRegs.refl _ s).setPair (by simp) (by simp) _).setN (by simp) _

theorem State.haltMarks_midBut (code addr dir idx : Nat) : MidBut (cqRegs c) s (s.haltMarks c code addr dir idx) := by
  rw [State.haltMarks_eq]
  have hlatch : MidBut (cqRegs c) s (s.latched c code addr dir idx) := (s.latched_only c code addr dir idx).midBut.mono (by simp [cqRegs])
  exact ((hlatch.trans ((State.haltRecord_midKept ..).but _)).setN (k := Reg.PG_ERR (0x80 + c)) (by simp [cqRegs]) _).trans
    ((State.setChan_midKept ..).but _)

theorem State.stepNotify_midBut (notify : Bool) (t : State) : MidBut (cqRegs c) t (s.stepNotify c notify t) := by
  have hstep : MidBut (cqRegs c) t (s.stepCq c t) := (s.stepCq_only c t).midBut.mono (by simp [cqRegs])
  rw [State.stepNotify]
  split
  · exact hstep.trans ((State.raise_midKept _ _).but _)
  · exact hstep

theorem State.writeCq_midBut (r : List Nat) (notify : Bool) : MidBut (cqRegs c) s (s.writeCq c r notify) := by
  have hslab := s.slabWrite_midKept (s.chan c).owner (s.cqAddr c % 2 ^ 26) 32 (s.cqRecord c r) 3
  rw [State.writeCq_eq]
  split
  · split
    · next t hwrite =>
      rw [hwrite] at hslab
      exact (hslab.but _).trans (s.stepNotify_midBut ..)
    · next code t hwrite =>
      rw [hwrite] at hslab
      exact (hslab.but _).trans (State.haltMarks_midBut ..)
  split
  · exact ((s.send_midKept _).but _).trans (s.stepNotify_midBut ..)
  · exact s.haltMarks_midBut ..

theorem State.cqRoom_midBut : MidBut (Reg.DMA_DSEQ c :: Reg.DMA_BYTES c :: cqRegs c) s (s.cqRoom c) := by
  have hwrite : ∀ k r notify, MidBut (Reg.DMA_DSEQ c :: Reg.DMA_BYTES c :: cqRegs c) s ((s.setChan c k).writeCq c r notify) := fun k r notify =>
    ((s.setChan_midKept c k).but _).trans ((State.writeCq_midBut ..).mono fun k hk => List.mem_cons_of_mem _ (List.mem_cons_of_mem _ hk))
  have hnext : ∀ t : State, MidBut (Reg.DMA_DSEQ c :: Reg.DMA_BYTES c :: cqRegs c) t (t.nextDesc c) := fun t =>
    ⟨fun k hk _ _ => (t.nextDesc_only c).reg k fun hin => hk (List.mem_append_left (cqRegs c) hin)⟩
  simp only [State.cqRoom]
  split
  · exact .refl _ s
  split
  · exact .refl _ s
  split
  · exact (hwrite ..).trans (hnext _)
  · exact hwrite ..

theorem State.headMoved_moveCqHead (hc : c < 32) {i : Nat} (hi : i < 4096) : HeadMoved c i s (s.moveCqHead c i).1 (s.moveCqHead c i).2 := by
  set z := s.cqSize c with hz
  set h := s.fld (Reg.DMA_CQ_HEAD c) 0 12 with hh
  set tl := s.fld (Reg.DMA_CQ_TAIL c) 0 12 with htl
  have hmove : s.moveCqHead c i = if (tl + z - h % z) % z < (i + z - h % z) % z ∨ z ≤ i then (s, Code.queueFull)
      else ((s.setFld (Reg.DMA_CQ_HEAD c) 0 12 i).cqRoom c, Code.ok) := by
    rw [State.moveCqHead, Nat.mod_eq_of_lt hi]
  refine ⟨fun hout => ?_, fun hin => ?_⟩
  · have hout : ¬((i + z - h % z) % z ≤ (tl + z - h % z) % z ∧ i < z) := hout
    rw [hmove, if_pos (by omega)]
    exact ⟨rfl, rfl⟩
  obtain ⟨hfill, hlt⟩ : (i + z - h % z) % z ≤ (tl + z - h % z) % z ∧ i < z := hin
  rw [hmove, if_neg (by omega)]
  set w := s.setFld (Reg.DMA_CQ_HEAD c) 0 12 i with hw
  have honly : OnlyRegs [Reg.DMA_CQ_HEAD c] s w := (OnlyRegs.refl _ s).setFld (by simp) 0 12 i
  have hhead : w.fld (Reg.DMA_CQ_HEAD c) 0 12 = i := (State.fld_setFld_same _ _ 0 12 i (by decide)).trans (Nat.mod_eq_of_lt hi)
  have hreg : ∀ r, r ≠ Reg.DMA_CQ_HEAD c → w.reg r = s.reg r := fun r hr => honly.2 r (by simpa using hr)
  have hfree : w.cqFree c = decide (i ≠ (tl + 1) % z) := by
    rw [State.cqFree, hhead, State.cqSize, State.fld_of_reg (hreg _ (by simp)), State.fld_of_reg (hreg _ (by simp)), ← State.cqSize, ← hz,
      ← htl, Nat.mod_eq_of_lt hlt]
    exact decide_eq_decide.mpr ne_comm
  have hopen : w.cqOpen c = true ↔ s.cqOpen c = true := by
    rw [State.cqOpen_iff, State.cqOpen_iff, State.bit_of_reg (hreg _ (by simp)), honly.chan]
    rfl
  refine ⟨rfl, ?_, fun hstays => ?_, fun r hheld hnote hroom hslab hop hbme => ?_⟩
  · rw [State.fld_of_reg ((w.cqRoom_midBut c).reg _ (by simp [cqRegs, Reg.PG_ERR])
      (by simp only [Reg.DMA_CQ_HEAD]; omega) (by simp only [Reg.DMA_CQ_HEAD]; omega)), hhead]
  · have hsame : (w.cqRoom c) = w := by
      refine w.cqRoom_stays c ?_
      rw [honly.chan, hfree]
      refine hstays.imp_right (Or.imp (fun he => decide_eq_false (not_not.mpr he)) fun hno => ?_)
      exact Bool.eq_false_iff.mpr fun ho => hno ((s.cqOpen_iff c).mp (hopen.mp ho))
    rw [hsame]
    exact honly
  · have hheld' : (w.chan c).heldRec = some r := by rw [honly.chan, hheld]
    have hwopen : w.cqOpen c = true := hopen.mpr ((s.cqOpen_iff c).mpr hop)
    rw [State.cqRoom_held w c hheld' (by rw [hfree]; exact decide_eq_true hroom) hwopen, honly.chan, hnote]
    set k : Chan := { s.chan c with heldRec := none, heldNotify := false } with hk
    have howner : ((w.setChan c k).chan c).owner = (s.chan c).owner := by rw [State.chan_setChan_same]
    have hwrite := State.writeCq_host (w.setChan c k) c (r := r) (notify := false)
      (by rw [State.cqSlab_eq, State.bit_setChan, State.bit_of_reg (hreg _ (by simp)), hslab])
      (by rw [howner]; exact hbme)
    rw [State.stepNotify, if_neg (by simp)] at hwrite
    set x := (w.setChan c k).writeCq c r false with hx
    have hxchan : x.chan c = k := by rw [hwrite, (State.stepCq_only ..).chan]; exact State.chan_setChan_same ..
    have hxout : x.out = s.out ++ [.hostWrite ((w.setChan c k).cqAddr c) (bytesLE 32 ((w.setChan c k).cqRecord c r))] := by
      rw [hwrite, (State.stepCq_only ..).1]
      rfl
    have hphase : (w.setChan c k).fld (Reg.DMA_CQ_TAIL c) 16 1 = s.fld (Reg.DMA_CQ_TAIL c) 16 1 := by
      rw [State.fld_setChan, State.fld_of_reg (hreg _ (by simp))]
    have hout : ∃ a, x.out = s.out ++ [.hostWrite a (bytesLE 32 (cqValue c r (s.fld (Reg.DMA_CQ_TAIL c) 16 1) s.tb.now))] :=
      ⟨_, by rw [hxout, State.cqRecord, hphase]; rfl⟩
    dsimp only
    split
    · next hst =>
      have hxst : (x.chan c).st ≠ 3 := by rw [hxchan, hk]; simp [hst]
      rw [State.nextDesc_chan x c hxst, hxchan, show (x.nextDesc c).out = x.out by rw [(x.nextDesc_only c).frame]]
      exact ⟨rfl, rfl, hout⟩
    · rw [hxchan]
      exact ⟨rfl, rfl, hout⟩

end Head

/-! ### The commands of the rings (R303) -/

section Commands
variable {s : State} {n ch : Nat}

theorem State.onChan_own {f : State → Nat → Nat → CmdRes} {p : Nat} (hch : bits p 0 5 = ch) (hown : (s.chan ch).owner = n) :
    State.onChan f s n p = f s ch p := by
  rw [State.onChan, hch]
  exact if_pos hown

theorem State.onChan_foreign {f : State → Nat → Nat → CmdRes} {p : Nat} (hch : bits p 0 5 = ch) (hown : (s.chan ch).owner ≠ n) :
    State.onChan f s n p = s.refuse Code.rejectQuota := by
  rw [State.onChan, hch]
  exact if_neg hown

theorem State.dmaSetup_fits {p : Nat} (h : s.bit (Reg.DMA_CTRL ch) 0 = false ∧ 4 ≤ bits p 8 4 ∧ bits p 8 4 ≤ 12 ∧ bits p 64 64 % 32 = 0) :
    s.dmaSetup ch p = { st := (((s.setFld (Reg.DMA_CQ_CFG ch) 0 4 (bits p 8 4)).setBit (Reg.DMA_CQ_CFG ch) 4 (bitAt p 12)).setPair
      (Reg.DMA_CQ_BASE_L ch) (Reg.DMA_CQ_BASE_H ch) (bits p 64 64)) } := by
  obtain ⟨hen, hlo, hhi, hbase⟩ := h
  refine if_neg ?_
  rintro (h | h | h | h)
  · exact Bool.false_ne_true (hen.symm.trans h)
  · omega
  · omega
  · exact h hbase

theorem State.dmaSetup_refused {p : Nat} (h : ¬(s.bit (Reg.DMA_CTRL ch) 0 = false ∧ 4 ≤ bits p 8 4 ∧ bits p 8 4 ≤ 12 ∧ bits p 64 64 % 32 = 0)) :
    s.dmaSetup ch p = s.refuse Code.rejectClass := by
  refine if_pos (by_contra fun hno => h ?_)
  obtain ⟨hen, hrest⟩ := not_or.mp hno
  obtain ⟨hlo, hrest⟩ := not_or.mp hrest
  obtain ⟨hhi, hbase⟩ := not_or.mp hrest
  exact ⟨Bool.eq_false_iff.mpr hen, by omega, by omega, not_not.mp hbase⟩

/-- What DMA_SETUP leaves. -/
theorem State.setup_effect (s : State) {k base : Nat} (hk : k < 2 ^ 4) (slab : Bool) (hbase : base < 2 ^ 64) :
    let t := ((s.setFld (Reg.DMA_CQ_CFG ch) 0 4 k).setBit (Reg.DMA_CQ_CFG ch) 4 slab).setPair (Reg.DMA_CQ_BASE_L ch) (Reg.DMA_CQ_BASE_H ch) base
    t.fld (Reg.DMA_CQ_CFG ch) 0 4 = k ∧ t.bit (Reg.DMA_CQ_CFG ch) 4 = slab ∧
      t.pair (Reg.DMA_CQ_BASE_L ch) (Reg.DMA_CQ_BASE_H ch) = base ∧
      OnlyRegs [Reg.DMA_CQ_CFG ch, Reg.DMA_CQ_BASE_L ch, Reg.DMA_CQ_BASE_H ch] s t := by
  refine ⟨?_, ?_, State.pair_setPair_same _ (by simp) hbase,
    (((OnlyRegs.refl _ s).setFld (by simp) 0 4 k).setBit (by simp) 4 slab).setPair (by simp) (by simp) base⟩
  · rw [State.setPair, State.fld_setN_other _ (by simp), State.fld_setN_other _ (by simp), State.setBit,
      State.fld_setFld_apart _ _ _ _ _ _ _ (by decide) (by decide), State.fld_setFld_same _ _ 0 4 k (by decide), Nat.mod_eq_of_lt hk]
  · rw [State.setPair, State.bit_setN_other _ (by simp), State.bit_setN_other _ (by simp)]
    exact State.bit_setBit_same _ _ 4 slab (by decide)

theorem and_decide_iff {a b : Prop} [Decidable a] [Decidable b] : (decide a && decide b) = true ↔ a ∧ b := by simp

/-- A channel works where its state is Active and nothing holds its head descriptor up (R302, R315). -/
theorem State.chanRuns_iff : s.chanRuns ch = true ↔ (s.chan ch).st = 2 ∧ s.frozen = false ∧ (s.chan ch).quiet = false ∧
    ∃ x r, (s.chan ch).queue = x :: r ∧ (x.hostSide = true → (s.fn (s.chan ch).owner).dstate = 0 ∧ s.link.up = true) := by
  rw [State.chanRuns]
  cases (s.chan ch).queue with
  | nil => simp
  | cons x r => cases hside : x.hostSide <;> simp [hside, and_assoc]

theorem State.dmaStatus_eq : s.dmaStatus ch =
    (if (s.chan ch).st = 2 ∧ s.chanRuns ch = false then 6 else (s.chan ch).st) % 8 + (s.chan ch).queue.length % 32 * 8 +
      s.fld (Reg.DMA_STATUS ch) 8 8 * 256 := by
  have hlt : s.fld (Reg.DMA_STATUS ch) 8 8 < 2 ^ 8 := bits_lt _ 8 8
  simp only [State.dmaStatus, fields]
  omega

end Commands

/-! ### The PF's writes (R290, R301) -/

section Writes
variable {s : State} {ch : Nat} (hch : ch < 32)
include hch

theorem exec_dmaCtrlDisable_pf (hpf : s.pfPage (0x80 + ch) = true) :
    exec (.dmaCtrlDisable ch none) s = .next ((s.drainBuf 0).writeDmaCtrl ch 0) :=
  (onUnit_of (by simpa [okChannel, okOptTag] using hch) _).trans (congrArg Host.Outcome.next (State.pf_of_reach hpf ..))

theorem exec_dmaCtrlEnable_pf (hpf : s.pfPage (0x80 + ch) = true) :
    exec (.dmaCtrlEnable ch none) s = .next ((s.drainBuf 0).writeDmaCtrl ch 1) :=
  (onUnit_of (by simpa [okChannel, okOptTag] using hch) _).trans (congrArg Host.Outcome.next (State.pf_of_reach hpf ..))

theorem exec_dmaCtrlContinue_pf (hpf : s.pfPage (0x80 + ch) = true) : exec (.dmaCtrlContinue ch none) s =
    .next ((s.drainBuf 0).writeDmaCtrl ch (2 + b2n (s.bit (Reg.DMA_CTRL ch) 0))) :=
  (onUnit_of (by simpa [okChannel, okOptTag] using hch) _).trans (congrArg Host.Outcome.next (State.pf_of_reach hpf ..))

theorem exec_dmaCtrlPush (hpf : s.pfPage (0x80 + ch) = true) (v : Nat) :
    exec (.dmaCtrlPush ch v) s = .next ((s.drainBuf 0).writeDmaCtrl ch (Nat.lor v 4)) :=
  (onUnit_of (by simpa [okChannel] using hch) _).trans (congrArg Host.Outcome.next (State.pf_of_reach hpf ..))

omit hch in
theorem State.writeDma_cqHead (d : State) {v : Nat} (hv : v < 2 ^ 32) : d.writeDma ch 0x54 0 v = (d.moveCqHead ch (v % 2 ^ 12)).1 := by
  have hview : ∀ old, viewWrite 0 old v = v := fun old => (if_pos rfl).trans (Nat.mod_eq_of_lt hv)
  rw [State.writeDma, if_neg (by decide), if_neg (by decide), if_neg (by simp), if_pos rfl, if_neg (by decide), hview]
  rfl

theorem exec_dmaCqHead_pf (hpf : s.pfPage (0x80 + ch) = true) {v : Nat} (hv : v < 2 ^ 32) :
    exec (.dmaCqHead ch v none) s = .next ((s.drainBuf 0).moveCqHead ch (v % 2 ^ 12)).1 :=
  (onUnit_of (by simp [okChannel, okOptTag, okValue, hch]; omega) _).trans
    (congrArg Host.Outcome.next ((State.pf_of_reach hpf ..).trans (State.writeDma_cqHead _ hv)))

omit hch in
/-- The three bits of DMA_CTRL act in order (R385). -/
theorem State.writeDmaCtrl_own {d : State} (hown : (d.chan ch).owner = 0) (v : Nat) : d.writeDmaCtrl ch v =
    let u := if bitAt v 0 then d.enableChan ch else d.disableChan ch
    let w := if bitAt v 1 then u.continueChan ch else u
    if bitAt v 2 then (w.pushDesc ch (w.descWords ch)).1 else w := by
  rw [State.writeDmaCtrl, if_neg (by simp [State.chanOfPf, hown])]

omit hch in
theorem State.writeDmaCtrl_foreign {d : State} (hown : (d.chan ch).owner ≠ 0) (v : Nat) : d.writeDmaCtrl ch v = d.chanRefused ch :=
  if_pos (by simpa [State.chanOfPf] using hown)

omit hch in
theorem State.chanRefused_effect (d : State) : (d.chanRefused ch).fld (Reg.PG_ERR_INFO (0x80 + ch)) 0 8 = 0x06 ∧
    OnlyRegs [Reg.PG_ERR_INFO (0x80 + ch)] d (d.chanRefused ch) :=
  ⟨(State.fld_setFld_same _ _ 0 8 _ (by decide)).trans rfl, (OnlyRegs.refl _ d).setFld (by simp) 0 8 _⟩

theorem blockOf_dma : blockOf (0x80 + ch) = some (.dma, ch) := by
  interval_cases ch <;> rfl

/-- A write of another tenant's page is refused whole, whatever register it names (R290). -/
theorem exec_registerWrite_foreign (hpf : s.pfPage (0x80 + ch) = true) (hown : ((s.drainBuf 0).chan ch).owner ≠ 0) {a v : Nat}
    (ha : a < 0x4000) (halign : a % 4 = 0) (hv : v < 2 ^ 32) :
    exec (.registerWrite 0 (dword ((0x80 + ch) * 0x4000 + a)) v) s = .next ((s.drainBuf 0).chanRefused ch) := by
  have hsplit : (0x80 + ch) * 0x4000 + a = (0x80 + ch) * 0x4000 + a / 0x1000 * 0x1000 + a % 0x1000 := by omega
  have hforeign : (s.drainBuf 0).foreignChan (0x80 + ch) = true := by
    simp [State.foreignChan, State.chanOfPf, hown]
    omega
  rw [exec_registerWrite_dword hv, hsplit, State.writeBar0_block (by rw [blockOf_dma hch]; rfl) (by omega) (by omega) (by omega) hpf,
    State.writeBlock, hforeign, if_pos rfl, Nat.add_sub_cancel_left]

end Writes

/-- The words of a number put it together again. -/
theorem foldl_words (w n : Nat) : ((List.range n).map fun i => bits w (32 * i) 32 * 2 ^ (32 * i)).foldl (· + ·) 0 = w % 2 ^ (32 * n) := by
  induction n with
  | zero => rw [Nat.mul_zero, pow_zero, Nat.mod_one]; rfl
  | succ n ih =>
    rw [List.range_succ, List.map_append, List.foldl_append, ih, Nat.mul_succ, pow_add, Nat.mod_mul]
    exact congrArg (w % 2 ^ (32 * n) + ·) (Nat.mul_comm ..)

theorem State.descWords_eq {d : State} {ch w : Nat} (hw : w < 2 ^ 256) (h : ∀ i < 8, bits w (32 * i) 32 = d.regN (Reg.DMA_D ch i)) :
    d.descWords ch = w := by
  have hmap : (List.range 8).map (fun i => d.regN (Reg.DMA_D ch i) * 2 ^ (32 * i)) = (List.range 8).map fun i => bits w (32 * i) 32 * 2 ^ (32 * i) :=
    List.map_congr_left fun i hi => by rw [h i (List.mem_range.mp hi)]
  rw [State.descWords, hmap, foldl_words]
  exact Nat.mod_eq_of_lt hw

/-- The words of the next descriptor are no register that EN or CONT writes. -/
theorem word_ne {ch i : Nat} (hi : i < 8) : Reg.DMA_D ch i ≠ Reg.DMA_CTRL ch ∧ Reg.DMA_D ch i ≠ Reg.DMA_CQ_TAIL ch ∧
    Reg.DMA_D ch i ≠ Reg.DMA_DSEQ ch ∧ Reg.DMA_D ch i ≠ Reg.DMA_BYTES ch := by
  simp only [Reg.DMA_D, Reg.DMA_CTRL, Reg.DMA_CQ_TAIL, Reg.DMA_DSEQ, Reg.DMA_BYTES]
  omega

/-- What a push finds in DMA_D0 to DMA_D7 does not change with EN or CONT. -/
theorem State.descWords_of_reg {d u : State} {ch : Nat} (h : ∀ i < 8, u.reg (Reg.DMA_D ch i) = d.reg (Reg.DMA_D ch i)) :
    u.descWords ch = d.descWords ch := by
  rw [State.descWords, State.descWords]
  congr 1
  exact List.map_congr_left fun i hi => by rw [State.regN_of_reg (h i (List.mem_range.mp hi))]

/-- Settles O55. -/
theorem dmaChannels : Obligations.DmaChannels := by
  intro s ch tag n c hch htag p ready run ends pf d stat ctrl dseq bytes err cfg chans legal desc more going pushes reads issued disabled started
    enabled continued act mine
  have htagOk : okTag tag = true := decide_eq_true htag
  have hoptOk : (okChannel ch && okOptTag (some tag)) = true := by simp [okChannel, okOptTag, htagOk, hch]
  have hcmd {op : Nat} {sub : Nat → Bool} {f : State → Nat → Nat → CmdRes} (h : ready op sub) :
      s.runCmd tag op f sub = (f s n p).st.finishCmd n c (f s n p).code (f s n p).r0 (f s n p).r1 := State.runCmd_ready h f
  have hnames {a : Nat} (h : ready 0x71 fun p => decide (bits p 0 5 = ch) && decide (bits p 8 2 = a)) : bits p 0 5 = ch :=
    (and_decide_iff.mp (State.sub_of_ready h)).1
  refine ⟨fun i op hi hrun hown => ?foreign, fun hrun hown => ?setup, fun hrun hown => ?submit, fun hrun hown => ?query,
    fun hpf hother => ?pfForeign, fun hpf hother a v ha halign hv => ?pfWrite, fun hact hen => ?disable, fun hpf hmine hen => ?pfDisable,
    fun hact => ?enable, fun hpf hmine => ?pfEnable, fun hact => ?go, fun hpf hmine hen hden => ?pfGo,
    fun hpf hmine v w hw hwords => ?pfPush, fun value hvalue => ?cqHead, ?draining⟩
  case foreign =>
    simp only [List.mem_cons, Prod.mk.injEq, List.not_mem_nil, or_false] at hi
    obtain ⟨rfl, rfl⟩ | ⟨rfl, rfl⟩ | ⟨rfl, rfl⟩ := hi
    all_goals
      refine (onUnit_of htagOk _).trans (congrArg Host.Outcome.next ((hcmd hrun.1).trans ?_))
      rw [State.onChan_foreign hrun.2 hown]
      rfl
  case setup =>
    intro k fits
    have hexec : exec (.dmaSetup tag) s = .next (s.runCmd tag 0x70 (State.onChan State.dmaSetup)) := onUnit_of htagOk _
    rw [hcmd hrun.1, State.onChan_own hrun.2 hown] at hexec
    refine ⟨fun hfits => ?_, fun hfits => ?_⟩
    · rw [State.dmaSetup_refused hfits] at hexec
      exact hexec
    · rw [State.dmaSetup_fits hfits] at hexec
      obtain ⟨-, -, hk, -⟩ := hfits
      obtain ⟨hsize, hslab, hbase, honly⟩ := s.setup_effect (ch := ch) (k := bits p 8 4) (by omega) (bitAt p 12) (bits_lt p 64 64)
      exact ⟨_, hexec, hsize, hslab, hbase, honly⟩
  case submit =>
    have hexec : exec (.dmaSubmit tag) s = .next (s.runCmd tag 0x72 (State.onChan State.dmaSubmit)) := onUnit_of htagOk _
    rw [hcmd hrun.1, State.onChan_own hrun.2 hown] at hexec
    exact ⟨_, _, s.pushed_pushDesc ch (bits p 64 256), hexec⟩
  case query =>
    intro k works shows
    have hexec : exec (.dmaQuery tag) s = .next (s.runCmd tag 0x74 (State.onChan State.dmaQuery)) := onUnit_of htagOk _
    have hworks : s.chanRuns ch = true ↔ k.st = 2 ∧ works := State.chanRuns_iff.trans (by rw [hown])
    rw [hcmd hrun.1, State.onChan_own hrun.2 hown, State.dmaQuery, State.dmaStatus_eq] at hexec
    refine ⟨fun h => ?_, fun hst hno => ?_⟩
    · rw [if_neg] at hexec
      · exact hexec
      · rintro ⟨hst, hruns⟩
        exact Bool.false_ne_true (hruns.symm.trans (hworks.mpr ⟨hst, h.resolve_left (not_not.mpr hst)⟩))
    · rw [if_pos ⟨hst, Bool.eq_false_iff.mpr fun hruns => hno (hworks.mp hruns).2⟩] at hexec
      exact hexec
  case pfForeign =>
    intro i hi
    have hrefused := State.chanRefused_effect (ch := ch) d
    simp only [List.mem_cons, List.not_mem_nil, or_false] at hi
    obtain rfl | rfl | rfl := hi
    · exact ⟨_, (exec_dmaCtrlDisable_pf hch hpf).trans (congrArg _ (State.writeDmaCtrl_foreign hother _)), hrefused⟩
    · exact ⟨_, (exec_dmaCtrlEnable_pf hch hpf).trans (congrArg _ (State.writeDmaCtrl_foreign hother _)), hrefused⟩
    · exact ⟨_, (exec_dmaCtrlPush hch hpf 0).trans (congrArg _ (State.writeDmaCtrl_foreign hother _)), hrefused⟩
  case pfWrite =>
    exact ⟨_, exec_registerWrite_foreign hch hpf hother ha halign hv, State.chanRefused_effect d⟩
  case disable =>
    obtain ⟨hready, hown⟩ := hact
    have hexec : exec (.dmaCtrlDisable ch (some tag)) s = .next (s.runCmd tag 0x71 (State.onChan fun s c _ => { st := s.disableChan c })
      fun p => decide (bits p 0 5 = ch) && decide (bits p 8 2 = 0)) := onUnit_of hoptOk _
    rw [hcmd hready, State.onChan_own (hnames hready) hown] at hexec
    exact ⟨_, s.disabledChan_disableChan ch hen, hexec⟩
  case pfDisable =>
    have hexec := exec_dmaCtrlDisable_pf hch hpf
    rw [State.writeDmaCtrl_own hmine] at hexec
    exact ⟨_, d.disabledChan_disableChan ch hen, hexec⟩
  case enable =>
    obtain ⟨hready, hown⟩ := hact
    have hexec : exec (.dmaCtrlEnable ch (some tag)) s = .next (s.runCmd tag 0x71 (State.onChan fun s c _ => { st := s.enableChan c })
      fun p => decide (bits p 0 5 = ch) && decide (bits p 8 2 = 1)) := onUnit_of hoptOk _
    rw [hcmd hready, State.onChan_own (hnames hready) hown] at hexec
    refine ⟨fun hen => ?_, fun hen => ⟨_, s.enabledChan_enableChan ch hen, hexec⟩⟩
    rw [State.enableChan_enabled s ch hen] at hexec
    exact hexec
  case pfEnable =>
    have hexec := exec_dmaCtrlEnable_pf hch hpf
    rw [State.writeDmaCtrl_own hmine] at hexec
    refine ⟨fun hen => hexec.trans (congrArg _ (State.enableChan_enabled _ ch hen)), fun hen => ⟨_, d.enabledChan_enableChan ch hen, hexec⟩⟩
  case go =>
    obtain ⟨hready, hown⟩ := hact
    have hexec : exec (.dmaCtrlContinue ch (some tag)) s = .next (s.runCmd tag 0x71 (State.onChan fun s c _ => { st := s.continueChan c })
      fun p => decide (bits p 0 5 = ch) && decide (bits p 8 2 = 2)) := onUnit_of hoptOk _
    rw [hcmd hready, State.onChan_own (hnames hready) hown] at hexec
    refine ⟨fun hst => ?_, fun hst => ⟨_, s.continuedChan_continueChan ch hst, hexec⟩⟩
    rw [State.continueChan_running s ch hst] at hexec
    exact hexec
  case pfGo =>
    have hexec := exec_dmaCtrlContinue_pf hch hpf
    rw [State.writeDmaCtrl_own hmine, hen] at hexec
    have hgo : exec (.dmaCtrlContinue ch none) s = .next (d.continueChan ch) :=
      hexec.trans (congrArg (fun u : State => Host.Outcome.next (u.continueChan ch)) (State.enableChan_enabled d ch hden))
    exact ⟨fun hst => hgo.trans (congrArg _ (State.continueChan_running d ch hst)), fun hst => ⟨_, d.continuedChan_continueChan ch hst, hgo⟩⟩
  case pfPush =>
    intro en
    have hexec := exec_dmaCtrlPush hch hpf v
    have hbit : ∀ j, bitAt (Nat.lor v 4) j = (bitAt v j || decide (2 = j)) := bitAt_lor_two_pow v 2
    have h2 : bitAt (Nat.lor v 4) 2 = true := by rw [hbit]; simp
    have h0 : bitAt (Nat.lor v 4) 0 = bitAt v 0 := by rw [hbit]; simp
    have h1 : bitAt (Nat.lor v 4) 1 = bitAt v 1 := by rw [hbit]; simp
    rw [State.writeDmaCtrl_own hmine] at hexec
    simp only [h0, h1, h2, if_true] at hexec
    have hdesc : d.descWords ch = w := State.descWords_eq hw hwords
    have hsame {u : State} (hu : ∀ i < 8, u.reg (Reg.DMA_D ch i) = d.reg (Reg.DMA_D ch i)) : u.descWords ch = w :=
      (State.descWords_of_reg hu).trans hdesc
    refine ⟨fun e0 e1 hen => ?_, fun e0 e1 hen => ?_, fun e0 e1 hen hst => ?_, fun e0 hen => ?_⟩
    · simp only [e0, e1, if_true, Bool.false_eq_true, if_false] at hexec
      rw [State.enableChan_enabled _ ch hen] at hexec
      exact ⟨_, _, d.pushed_pushDesc ch w, hdesc ▸ hexec⟩
    · simp only [e0, e1, if_true, Bool.false_eq_true, if_false] at hexec
      have hopen := d.enabledChan_enableChan ch hen
      obtain ⟨-, -, -, -, hregs, -⟩ := hopen
      have hwords := hsame (u := d.enableChan ch) fun i hi =>
        have ⟨h1, h2, h3, h4⟩ := word_ne hi
        hregs _ h1 h2 h3 h4
      exact ⟨_, _, _, d.enabledChan_enableChan ch hen, (d.enableChan ch).pushed_pushDesc ch w, hwords ▸ hexec⟩
    · simp only [e0, e1, if_true] at hexec
      rw [State.enableChan_enabled _ ch hen] at hexec
      obtain ⟨-, -, hregs, -⟩ := d.continuedChan_continueChan ch hst
      have hwords := hsame (u := d.continueChan ch) fun i hi =>
        have ⟨_, _, h3, h4⟩ := word_ne hi
        hregs _ h3 h4
      exact ⟨_, _, _, d.continuedChan_continueChan ch hst, (d.continueChan ch).pushed_pushDesc ch w, hwords ▸ hexec⟩
    · simp only [e0, Bool.false_eq_true, if_false] at hexec
      have hoff := d.disabledChan_disableChan ch hen
      have hstays : (d.disableChan ch).continueChan ch = d.disableChan ch :=
        State.continueChan_running _ ch (by obtain ⟨-, -, hst, -⟩ := hoff; rw [hst]; decide)
      obtain ⟨-, -, -, -, -, -, -, -, hregs, -⟩ := hoff
      have hwords := hsame (u := d.disableChan ch) fun i hi =>
        have ⟨h1, _, _, h4⟩ := word_ne hi
        hregs _ h1 h4
      have hgo : (if bitAt v 1 = true then (d.disableChan ch).continueChan ch else d.disableChan ch) = d.disableChan ch := by
        rw [hstays, ite_self]
      rw [hgo] at hexec
      exact ⟨_, _, _, d.disabledChan_disableChan ch hen, (d.disableChan ch).pushed_pushDesc ch w, hwords ▸ hexec⟩
  case cqHead =>
    intro i sent
    have hi : i < 4096 := Nat.mod_lt _ (by decide)
    refine ⟨fun hready hown => ?_, fun hpf hmine => ⟨_, _, d.headMoved_moveCqHead ch hch hi, exec_dmaCqHead_pf hch hpf hvalue⟩⟩
    have hexec : exec (.dmaCqHead ch value (some tag)) s = .next (s.runCmd tag 0x73 (State.onChan fun s c p =>
        { st := (s.moveCqHead c (bits p 32 12)).1, code := (s.moveCqHead c (bits p 32 12)).2 })
        fun p => decide (bits p 0 5 = ch) && decide (bits p 32 12 = i)) :=
      onUnit_of (by simp [okChannel, okOptTag, okValue, htagOk, hch]; omega) _
    have hsub : (decide (bits p 0 5 = ch) && decide (bits p 32 12 = i)) = true := State.sub_of_ready hready
    obtain ⟨hnamed, hindex⟩ := and_decide_iff.mp hsub
    rw [hcmd hready, State.onChan_own hnamed hown, hindex] at hexec
    exact ⟨_, _, s.headMoved_moveCqHead ch hch hi, hexec⟩
  case draining =>
    intro k rests
    have hexec : exec (.drainingEnd ch) s = .next (s.drainedChan ch) := onUnit_of (decide_eq_true hch) _
    have hdrain : s.drainedChan ch = if k.outstanding = false then (if rests = k.quiet then s else s.setChan ch { k with quiet := rests })
        else if k.st = 4 then (s.setChan ch { k with quiet := rests, outstanding := false, st := 1 }).startChan ch
        else s.setChan ch { k with quiet := rests, outstanding := false } := rfl
    rw [hdrain] at hexec
    refine ⟨fun hout hrest => ?_, fun hout hrest => ?_, fun hout => ?_⟩
    · rwa [if_pos hout, if_pos hrest] at hexec
    · have hon : rests = true := by
        refine Bool.eq_true_of_not_eq_false fun hoff => hrest ?_
        exact hoff.trans (Bool.or_eq_false_iff.mp hoff).1.symm
      rwa [if_pos hout, if_neg hrest, hon] at hexec
    rw [if_neg (by simp [hout])] at hexec
    split at hexec
    · next hst =>
      have honly := (ChanOnly.of_setChan ch [Reg.DMA_DSEQ ch, Reg.DMA_BYTES ch] s { k with quiet := rests, outstanding := false, st := 1 }).trans
        (State.startChan_only _ ch)
      refine ⟨_, hexec, ?_, honly.chan, fun r h1 h2 => honly.reg r (by simpa using ⟨h1, h2⟩), honly.frame⟩
      rw [State.startChan_chan, State.chan_setChan_same, if_pos rfl, if_pos hst]
      rfl
    · next hst =>
      have honly := ChanOnly.of_setChan ch [] s { k with quiet := rests, outstanding := false }
      refine ⟨_, hexec, ?_, honly.chan, fun r _ _ => honly.reg r (by simp), honly.frame⟩
      rw [State.chan_setChan_same, if_neg hst]

end Sys2Proof.Machine

/-! O57: messages to the steward, its answers, and the tick of MBX_ALIVE. -/

namespace Sys2Proof.Machine

open Sys2Proof

/-! ### The rows -/

section Rows
variable (s : State) {n : Nat} (hn : n < 512)
include hn

theorem exec_ping : exec (.ping n) s = .next (s.mboxPing n) := onUnit_of (decide_eq_true hn) _
theorem exec_info : exec (.info n) s = .next (s.mboxInfo n) := onUnit_of (decide_eq_true hn) _
theorem exec_calstat : exec (.calstat n) s = .next (s.mboxCalstat n) := onUnit_of (decide_eq_true hn) _
theorem exec_reservedKindMessage : exec (.reservedKindMessage n) s = .next (s.mboxReserved n) := onUnit_of (decide_eq_true hn) _
theorem exec_mailboxReply : exec (.mailboxReply n) s = .next (s.deliverReply n) := onUnit_of (decide_eq_true hn) _

theorem exec_notice (v : Nat) : exec (.notice n v) s = .next (if v < 4 then s.sendNotice n v else s) :=
  onUnit_of (decide_eq_true hn) _

theorem exec_tenMbxCtrlSend {s : State} (hpage : s.tenPage n = true) (v : Nat) :
    exec (.tenMbxCtrlSend n v) s = .next ((s.drainBuf n).writeMbxCtrl n (Nat.lor v 1)) :=
  (onUnit_of (decide_eq_true hn) _).trans (congrArg Host.Outcome.next (State.ten_of_reach hpage (by decide) _ _))

theorem exec_tenMbxCtrlPop {s : State} (hpage : s.tenPage n = true) (v : Nat) :
    exec (.tenMbxCtrlPop n v) s = .next ((s.drainBuf n).writeMbxCtrl n (Nat.lor v 2)) :=
  (onUnit_of (decide_eq_true hn) _).trans (congrArg Host.Outcome.next (State.ten_of_reach hpage (by decide) _ _))

end Rows

/-! ### The function's own writes (R306) -/

section Writes
variable (s : State) (n v : Nat)

/-- SEND acts before POP (R385). -/
theorem State.writeMbxCtrl_send : s.writeMbxCtrl n (Nat.lor v 1) = if bitAt v 1 then (s.mboxSend n).mboxPop n else s.mboxSend n := by
  have hbit : ∀ j, bitAt (Nat.lor v 1) j = (bitAt v j || decide (0 = j)) := bitAt_lor_two_pow v 0
  simp only [State.writeMbxCtrl, hbit]
  simp

theorem State.writeMbxCtrl_pop : s.writeMbxCtrl n (Nat.lor v 2) = if bitAt v 0 then (s.mboxSend n).mboxPop n else s.mboxPop n := by
  have hbit : ∀ j, bitAt (Nat.lor v 2) j = (bitAt v j || decide (1 = j)) := bitAt_lor_two_pow v 1
  simp only [State.writeMbxCtrl, hbit]
  cases hset : bitAt v 0 <;> simp

/-- A full FIFO refuses the message. -/
theorem State.mboxSend_full (hfull : ¬(s.fn n).mboxOut.length < s.quotaOf n 10) :
    s.mboxSend n = s.setFld (Reg.TEN_MBX_STAT n) 8 8 Code.queueFull := if_pos (Nat.le_of_not_lt hfull)

theorem State.mboxSend_room (hroom : (s.fn n).mboxOut.length < s.quotaOf n 10) : s.mboxSend n =
    (s.setFn n { s.fn n with mboxOut := (s.fn n).mboxOut ++ [s.stamped n], mboxHeld := 0 }).setFld (Reg.TEN_MBX_STAT n) 8 8 Code.ok :=
  if_neg (Nat.not_le_of_lt hroom)

end Writes

/-- A function's state after its message has been taken. -/
theorem State.fn_setFld_setFn (s : State) (n j k lo w v : Nat) (f : Fn) :
    ((s.setFn n f).setFld k lo w v).fn j = if j = n then f else s.fn j := s.fn_setFn n j f

theorem State.setFld_setFn_frame (s : State) (n k lo w v : Nat) (f : Fn) :
    (s.setFn n f).setFld k lo w v =
      { s with regs := ((s.setFn n f).setFld k lo w v).regs, fns := ((s.setFn n f).setFld k lo w v).fns } := rfl

theorem State.fld_mboxPop (s : State) (n k lo w : Nat) : (s.mboxPop n).fld k lo w = s.fld k lo w := rfl

theorem State.fn_mboxPop (s : State) (n : Nat) : (s.mboxPop n).fn n = { s.fn n with mboxIn := (s.fn n).mboxIn.tail } :=
  (s.fn_setFn n n _).trans (if_pos rfl)

/-! ### The steward's answers (R305) -/

section Answers
variable {s : State} {n : Nat}

/-- The steward serves the mailboxes now (R307, R351). -/
theorem State.mboxServed_iff : s.mboxServed = true ↔
    s.pairUp 0 = true ∧ s.mode ≠ Mode.off ∧ s.mode ≠ Mode.boot ∧ s.mode ≠ Mode.doze := by
  simp only [State.mboxServed, Bool.and_eq_true, decide_eq_true_eq, and_assoc]

theorem State.mboxHead_none (h : ¬s.mboxServed = true ∨ (s.fn n).mboxOut = []) : s.mboxHead n = none := by
  rw [State.mboxHead]
  split
  · next hserved =>
    rw [h.resolve_left (not_not.mpr hserved)]
    rfl
  · rfl

theorem State.mboxHead_some (h : s.mboxServed = true) {m : List Nat} {q : List (List Nat)} (hout : (s.fn n).mboxOut = m :: q) :
    s.mboxHead n = some m := by
  rw [State.mboxHead, if_pos h, hout]
  rfl

/-- A message of the steward: core and tenant in its first word, KIND, GEN and SEQ in its second. -/
theorem State.fromSteward_eq (hn : n < 512) (kind : Nat) {gen seq : Nat} (hgen : gen < 2 ^ 8) (hseq : seq < 2 ^ 16) (word2 : Nat)
    (body : List Nat) : s.fromSteward n kind gen seq word2 body =
      [2 ^ 15 + (if s.bit Reg.REL_STEWARD 4 then 0 else 1) + n * 2 ^ 16, kind % 256 + gen * 2 ^ 8 + seq * 2 ^ 16, word2] ++ body := by
  rw [State.fromSteward, Nat.mod_eq_of_lt hn, show gen % 256 = gen from Nat.mod_eq_of_lt hgen, Nat.mod_eq_of_lt hseq]
  rfl

/-- The head of the outgoing FIFO leaves it, and its answer waits to be delivered. -/
theorem State.answerMbox_eq (hn : n < 512) {m : List Nat} {q : List (List Nat)} (hout : (s.fn n).mboxOut = m :: q)
    {status : Nat} (hstatus : status < 256) (body : List Nat) :
    s.answerMbox n m status body = s.setFn n { s.fn n with
      mboxOut := q
      replies := (s.fn n).replies ++ [[2 ^ 15 + (if s.bit Reg.REL_STEWARD 4 then 0 else 1) + n * 2 ^ 16,
        (m.getD 1 0 % 256 + 0x80) % 256 + bits (m.getD 1 0) 8 8 * 2 ^ 8 + bits (m.getD 1 0) 16 16 * 2 ^ 16] ++ status :: body] } := by
  rw [State.answerMbox]
  dsimp only
  rw [s.fromSteward_eq hn _ (bits_lt _ 8 8) (bits_lt _ 16 16), Nat.mod_eq_of_lt hstatus, hout]
  rfl

/-- Some cuff of the list is not the tenant's. -/
theorem State.any_foreign_cuff (cs : List Nat) : (cs.any fun c => decide (1024 ≤ c) || !s.ownsCuff n c) = true ↔
    ∃ y ∈ cs, 1024 ≤ y ∨ (s.cuff y).owner ≠ n := by
  simp [State.ownsCuff]

end Answers

/-! ### Delivery (R306, R308) -/

section Delivery
variable {s : State} {n : Nat}

theorem State.mode_setFn (f : Fn) : (s.setFn n f).mode = s.mode := rfl

/-- The steward serves in the same states whatever a function holds. -/
theorem State.mboxServed_setFn (f : Fn) : (s.setFn n f).mboxServed = s.mboxServed := rfl

theorem State.deliverReply_idle (h : ¬s.mboxServed = true ∨ (s.fn n).replies = []) : s.deliverReply n = s := by
  rw [State.deliverReply]
  split
  · rfl
  · next hreplies =>
    refine if_pos (Bool.eq_false_iff.mpr (h.resolve_right ?_))
    rw [hreplies]
    simp

/-- What becomes of the oldest answer of a served mailbox. -/
theorem State.deliverReply_served (h : s.mboxServed = true) {m : List Nat} {q : List (List Nat)} (hreplies : (s.fn n).replies = m :: q) :
    s.deliverReply n = if bits (m.getD 1 0) 8 8 ≠ s.fld (Reg.TEN_MBX_STAT n) 16 8 then s.setFn n { s.fn n with replies := q }
      else if (s.fn n).mboxIn.length < s.quotaOf n 10 then (s.setFn n { s.fn n with replies := q }).mboxEnter n m else s := by
  have hfull : s.mboxDepth n ≤ (s.fn n).mboxIn.length ↔ ¬(s.fn n).mboxIn.length < s.quotaOf n 10 := Nat.not_lt.symm
  simp only [State.deliverReply, hreplies, h, Bool.true_eq_false, if_false, hfull, ite_not]
  rfl

/-- A message enters the incoming FIFO: source 19 of the function's private bank becomes pending. -/
theorem State.mboxEnter_effect (hn : n < 512) (m : List Nat) :
    ((s.mboxEnter n m).fn n).mboxIn = (s.fn n).mboxIn ++ [m] ∧ ((s.mboxEnter n m).fn n).replies = (s.fn n).replies ∧
      (s.mboxEnter n m).srcPend (24 * n + 19) = true ∧ OnlyRegsAndEvents [] s (s.mboxEnter n m) := by
  set u := s.setFn n { s.fn n with mboxIn := (s.fn n).mboxIn ++ [m], mboxHeld := 0 } with hu
  have hfn : u.fn n = { s.fn n with mboxIn := (s.fn n).mboxIn ++ [m], mboxHeld := 0 } := (State.fn_setFn ..).trans (if_pos rfl)
  have hset : OnlyRegsAndEvents [] s u := .of_wipe rfl fun _ _ _ => rfl
  obtain ⟨b, l, hraised, -⟩ := (u.ringsKept_raisePriv hn (j := 19) (by decide)).fn n
  refine ⟨?_, ?_, u.srcPend_raise _, hset.raise (by omega)⟩
  · rw [State.mboxEnter, ← hu, hraised, hfn]
  · rw [State.mboxEnter, ← hu, hraised, hfn]

theorem State.sendNotice_served (hn : n < 512) (h : s.mboxServed = true) {v : Nat} (hv : v < 4) :
    s.sendNotice n v =
      let m := [2 ^ 15 + (if s.bit Reg.REL_STEWARD 4 then 0 else 1) + n * 2 ^ 16, 0x40 % 256 + s.fld (Reg.TEN_MBX_STAT n) 16 8 * 2 ^ 8 + 0 * 2 ^ 16]
        ++ [v * 2 ^ 8]
      let u := s.setFn n { s.fn n with replies := (s.fn n).replies ++ [m] }
      if (s.fn n).replies = [] then u.deliverReply n else u := by
  have hlength : ∀ l : List (List Nat), ∀ m, (l ++ [m]).length = 1 ↔ l = [] := by simp
  rw [State.sendNotice, if_neg (by simp [h])]
  simp only [s.fromSteward_eq hn 0x40 (gen := s.mboxGen n) (seq := 0) (bits_lt _ 16 8) (by decide), Nat.mod_eq_of_lt (show v < 256 by omega),
    State.fn_setFn, if_pos, hlength, List.append_nil]
  rfl

end Delivery

/-- Settles O57. -/
theorem mailboxes : Obligations.Mailboxes := by
  intro s n v hn hv f stat gen served core steward requests
  have hserved : s.mboxServed = true ↔ served := State.mboxServed_iff
  have hidle {P : Prop} : ¬served ∨ P → ¬s.mboxServed = true ∨ P := fun h => h.imp_left (mt hserved.mp)
  refine ⟨fun hpage => ?own, fun h => ?waits, fun h m q hout => ?answers, fun h => ?noReply, fun h m q hreplies => ?reply,
    fun h => ?noNotice, fun h hv4 => ?notice, fun h => ?still, fun h hdue => ?alive⟩
  case own =>
    intro d g room m
    have hsend := exec_tenMbxCtrlSend hn hpage v
    have hpop := exec_tenMbxCtrlPop hn hpage v
    rw [State.writeMbxCtrl_send] at hsend
    rw [State.writeMbxCtrl_pop] at hpop
    change exec _ s = .next (if _ then (d.mboxSend n).mboxPop n else d.mboxSend n) at hsend
    change exec _ s = .next (if _ then (d.mboxSend n).mboxPop n else d.mboxPop n) at hpop
    have hstamped : d.stamped n = m := by
      rw [State.stamped, Nat.mod_eq_of_lt hn]
      rfl
    clear_value d
    refine ⟨fun h1 hfull => ?full, fun h1 hroom => ?sent, fun h0 => ?popped, fun h0 h1 hroom => ?both⟩
    case full =>
      rw [if_neg (by simp [h1]), d.mboxSend_full n hfull] at hsend
      exact ⟨_, hsend, State.fld_setFld_same _ _ 8 8 _ (by decide), (OnlyRegs.refl _ d).setFld (k := stat) (by simp) 8 8 _⟩
    case sent =>
      rw [if_neg (by simp [h1]), d.mboxSend_room n hroom, hstamped] at hsend
      exact ⟨_, hsend, (State.fn_setFld_setFn ..).trans (if_pos rfl), fun j hj => (State.fn_setFld_setFn ..).trans (if_neg hj),
        State.fld_setFld_same _ _ 8 8 _ (by decide), fun r hr => State.reg_setFld_other (d.setFn n _) hr .., d.setFld_setFn_frame ..⟩
    case popped => rw [hpop, if_neg (by simp [h0])]; rfl
    case both =>
      rw [if_pos h0, d.mboxSend_room n hroom, hstamped] at hpop
      refine ⟨_, hpop, ?_, (State.fld_mboxPop ..).trans (State.fld_setFld_same _ _ 8 8 _ (by decide))⟩
      rw [State.fn_mboxPop, State.fn_setFld_setFn, if_pos rfl]
  case waits =>
    have hhead := State.mboxHead_none (hidle h)
    rw [exec_ping s hn, exec_info s hn, exec_calstat s hn, exec_reservedKindMessage s hn, State.mboxPing, State.mboxInfo, State.mboxCalstat,
      State.mboxReserved, hhead]
    exact ⟨rfl, rfl, rfl, rfl⟩
  case answers =>
    intro w kind w2 first count cuffs reply answers
    have hhead := State.mboxHead_some (hserved.mpr h) hout
    have hanswer {i : Instr} {status : Nat} (hi : status < 256) {body : List Nat} (hexec : exec i s = .next (s.answerMbox n m status body)) :
        answers i (status :: body) := by
      rw [State.answerMbox_eq hn hout hi] at hexec
      exact hexec
    have hping : exec (.ping n) s = _ := exec_ping s hn
    have hinfo : exec (.info n) s = _ := exec_info s hn
    have hcal : exec (.calstat n) s = _ := exec_calstat s hn
    have hres : exec (.reservedKindMessage n) s = _ := exec_reservedKindMessage s hn
    simp only [State.mboxPing, hhead, msgKind, msgWord] at hping
    simp only [State.mboxInfo, hhead, msgKind, msgWord] at hinfo
    simp only [State.mboxCalstat, hhead, msgKind, msgWord, State.any_foreign_cuff] at hcal
    simp only [State.mboxReserved, hhead, msgKind, msgWord] at hres
    refine ⟨fun i j hij hkind => ?other, fun hkind => ?known, fun hkind => ?reserved, fun hkind => ?ping, fun hkind => ?info,
      fun hkind hcount => ?range, fun hkind h1 h32 hforeign => ?foreign, fun hkind h1 h32 hown => ?ages⟩
    case other =>
      simp only [requests, List.mem_cons, Prod.mk.injEq, List.not_mem_nil, or_false] at hij
      obtain ⟨rfl, rfl⟩ | ⟨rfl, rfl⟩ | ⟨rfl, rfl⟩ := hij
      · exact hping.trans (congrArg _ (if_pos hkind))
      · exact hinfo.trans (congrArg _ (if_pos hkind))
      · exact hcal.trans (congrArg _ (if_pos hkind))
    case known => exact hres.trans (congrArg _ (if_pos (List.contains_iff_mem.mpr hkind)))
    case reserved => exact hanswer (by decide) (hres.trans (congrArg _ (if_neg (mt List.contains_iff_mem.mp hkind))))
    case ping => exact hanswer (by decide) (hping.trans (congrArg _ (if_neg (not_not.mpr hkind))))
    case info => exact hanswer (by decide) (hinfo.trans (congrArg _ (if_neg (not_not.mpr hkind))))
    case range => exact hanswer (by decide) (hcal.trans (congrArg _ ((if_neg (not_not.mpr hkind)).trans (if_pos hcount))))
    case foreign =>
      exact hanswer (by decide) (hcal.trans (congrArg _ ((if_neg (not_not.mpr hkind)).trans ((if_neg (show ¬(count = 0 ∨ 32 < count) by omega)).trans (if_pos hforeign)))))
    case ages =>
      have hours : ¬∃ y ∈ cuffs, 1024 ≤ y ∨ (s.cuff y).owner ≠ n := by
        rintro ⟨y, hy, hbad⟩
        obtain ⟨hlt, howner⟩ := hown y hy
        exact hbad.elim (by omega) (absurd howner)
      exact hanswer (by decide) (hcal.trans (congrArg _ ((if_neg (not_not.mpr hkind)).trans ((if_neg (show ¬(count = 0 ∨ 32 < count) by omega)).trans (if_neg hours)))))
  case noReply => rw [exec_mailboxReply s hn, State.deliverReply_idle (hidle h)]
  case reply =>
    intro room mgen
    have hexec := exec_mailboxReply s hn
    rw [State.deliverReply_served (hserved.mpr h) hreplies] at hexec
    refine ⟨fun hgen => hexec.trans (congrArg _ (if_pos hgen)), fun hgen hroom => ?_, fun hgen hroom => ?_⟩
    · exact hexec.trans (congrArg _ ((if_neg (not_not.mpr hgen)).trans (if_neg hroom)))
    · rw [if_neg (not_not.mpr hgen), if_pos hroom] at hexec
      set u := s.setFn n { s.fn n with replies := q } with hu
      have hfn : u.fn n = { f with replies := q } := (State.fn_setFn ..).trans (if_pos rfl)
      obtain ⟨hin, hleft, hpend, honly⟩ := u.mboxEnter_effect hn m
      rw [hfn] at hin hleft
      exact ⟨_, hexec, hin, hleft, hpend, OnlyRegsAndEvents.trans (.of_wipe rfl fun _ _ _ => rfl) honly⟩
  case noNotice =>
    rw [exec_notice s hn]
    refine congrArg _ ?_
    split
    · exact if_pos (Bool.eq_false_iff.mpr (mt hserved.mp (h.resolve_right (by omega))))
    · rfl
  case notice =>
    intro m room
    have hexec := exec_notice s hn v
    rw [if_pos hv4, State.sendNotice_served hn (hserved.mpr h) hv4] at hexec
    set u := s.setFn n { s.fn n with replies := (s.fn n).replies ++ [m] } with hu
    have hfn : u.fn n = { f with replies := f.replies ++ [m] } := (State.fn_setFn ..).trans (if_pos rfl)
    change exec _ s = .next (if f.replies = [] then u.deliverReply n else u) at hexec
    have hgen : bits (m.getD 1 0) 8 8 = u.fld (Reg.TEN_MBX_STAT n) 16 8 := by
      have hlt : gen < 2 ^ 8 := bits_lt _ 16 8
      show bits (0x40 % 256 + gen * 2 ^ 8 + 0 * 2 ^ 16) 8 8 = gen
      simp only [bits]
      omega
    have hnew : f.replies = [] → u.deliverReply n = if (u.fn n).mboxIn.length < u.quotaOf n 10
        then (u.setFn n { u.fn n with replies := [] }).mboxEnter n m else u := fun he => by
      rw [State.deliverReply_served (s := u) (hserved.mpr h) (by rw [hfn, he]; rfl), if_neg (not_not.mpr hgen)]
    have hin : (u.fn n).mboxIn = f.mboxIn := by rw [hfn]
    refine ⟨fun hwait => ?_, fun hempty hroom => ?_⟩
    · by_cases he : f.replies = []
      · rw [if_pos he, hnew he, hin] at hexec
        exact hexec.trans (congrArg _ (if_neg (hwait.resolve_left (not_not.mpr he))))
      · exact hexec.trans (congrArg _ (if_neg he))
    · rw [if_pos hempty, hnew hempty, hin, if_pos (show f.mboxIn.length < u.quotaOf n 10 from hroom)] at hexec
      set w := u.setFn n { u.fn n with replies := [] } with hw
      have hwfn : w.fn n = { f with replies := [] } := by
        refine ((State.fn_setFn ..).trans (if_pos rfl)).trans ?_
        rw [hfn]
      obtain ⟨hleft, hrest, hpend, honly⟩ := w.mboxEnter_effect hn m
      rw [hwfn] at hleft hrest
      exact ⟨_, hexec, hleft, hrest, hpend, OnlyRegsAndEvents.trans (.of_wipe rfl fun _ _ _ => rfl) honly⟩
  case still =>
    show Host.Outcome.next (if s.mboxServed ∧ s.turns.alive + 1500000 ≤ s.tick then _ else s) = _
    refine congrArg _ (if_neg ?_)
    rintro ⟨h1, h2⟩
    exact h.elim (absurd (hserved.mp h1)) (by omega)
  case alive =>
    have hexec : exec .mbxAliveTick s = .next (({ s with turns := { s.turns with alive := s.tick } } : State).incWrap Reg.MBX_ALIVE 0 32) :=
      congrArg Host.Outcome.next (if_pos ⟨hserved.mpr h, hdue⟩)
    refine ⟨_, hexec, ?_, (OnlyRegs.refl _ _).incWrap (k := Reg.MBX_ALIVE) (by simp) 0 32⟩
    rw [← State.fld_whole, State.incWrap, State.fld_setFld_same _ _ _ _ _ (by decide), State.fld_whole]
    rfl

end Sys2Proof.Machine

/-! Trays that take each other's place (R124, R163, R178, R179): what each step of a context's move leaves, and the tick on which
the spare takes a tray's place. -/

namespace Sys2Proof.Machine

open Host

/-! ### Which tray stands where -/

/-- What a tray's place is: the tray it is rebuilt for, the IDs it answers to, and the contexts that have moved to it. -/
def Tray.place (t : Tray) : Option Nat × Option Nat × List Nat := (t.rebuildFor, t.serves, t.moved)

/-- Every tray keeps its place. -/
def PlacesKept (s t : State) : Prop := ∀ x, (t.tray x).place = (s.tray x).place

theorem PlacesKept.trans {s t u : State} (h : PlacesKept s t) (h' : PlacesKept t u) : PlacesKept s u :=
  fun x => (h' x).trans (h x)

theorem PlacesKept.of_trays {s t : State} (h : t.trays = s.trays) : PlacesKept s t :=
  fun x => congrArg (fun v => (Tbl.get {} v x).place) h

theorem PlacesKept.moved {s t : State} (h : PlacesKept s t) (x : Nat) : (t.tray x).moved = (s.tray x).moved :=
  congrArg (fun v => v.2.2) (h x)

theorem PlacesKept.serves {s t : State} (h : PlacesKept s t) (x : Nat) : (t.tray x).serves = (s.tray x).serves :=
  congrArg (fun v => v.2.1) (h x)

theorem PlacesKept.rebuildFor {s t : State} (h : PlacesKept s t) (x : Nat) : (t.tray x).rebuildFor = (s.tray x).rebuildFor :=
  congrArg (fun v => v.1) (h x)

section Kept
variable (s : State)

theorem State.places_setTray {v : Tray} {c : Nat} (h : v.place = (s.tray c).place) : PlacesKept s (s.setTray c v) := by
  intro x
  rw [State.tray_setTray]
  split
  · next hx => rw [hx, h]
  · rfl

theorem State.places_traySet (t i : Nat) (b : Bool) : PlacesKept s (s.traySet t i b) := by
  have hset : PlacesKept s (s.setTray t { s.tray t with levels := putBits (s.tray t).levels i 1 (b2n b) }) :=
    s.places_setTray rfl
  refine hset.trans (PlacesKept.of_trays ?_)
  simp only [State.traySet]
  split <;> split <;> simp [State.setTrayPend]
  all_goals split <;> simp

theorem State.places_trayPulse (t i : Nat) : PlacesKept s (s.trayPulse t i) :=
  (s.places_traySet t i true).trans (State.places_traySet _ t i false)

theorem State.places_trayLevels (p : Nat) : PlacesKept s (s.trayLevels p) := by
  have hfold (f : Nat → Nat) (g : Nat → Bool) (l : List Nat) : ∀ u : State,
      PlacesKept u (l.foldl (fun u e => u.traySet p (f e) (g e)) u) := by
    induction l with
    | nil => exact fun u => PlacesKept.of_trays rfl
    | cons e l ih => exact fun u => (u.places_traySet p (f e) (g e)).trans (ih _)
  exact (s.places_traySet p 8 _).trans (hfold _ _ _ _)

theorem State.places_putCtx (c : Nat) (k : Ctx) : PlacesKept s (s.putCtx c k) := by
  have hset : PlacesKept s (s.setCtx c k) := PlacesKept.of_trays rfl
  have hfault (t : State) (p : Nat) : PlacesKept t (if k.st = .faulted then t.trayPulse p 5 else t) := by
    split
    · exact t.places_trayPulse p 5
    · exact PlacesKept.of_trays rfl
  have hbusy (t : State) (p : Nat) (b : Prop) [Decidable b] :
      PlacesKept t (if b then t.setBit (Reg.TRY_IRQ_CTRL p) 1 false else t) := by
    split
    · exact PlacesKept.of_trays (State.trays_of_wipe (State.setBit_wipe0 ..) rfl)
    · exact PlacesKept.of_trays rfl
  have hlevel (t : State) (p : Nat) (b : Prop) [Decidable b] : PlacesKept t (if b then t.trayLevels p else t) := by
    split
    · exact t.places_trayLevels p
    · exact PlacesKept.of_trays rfl
  unfold State.putCtx
  dsimp only
  split
  · exact hset
  · exact hset.trans ((hfault _ _).trans ((hbusy _ _ _).trans (hlevel _ _ _)))

theorem State.places_release (c time : Nat) (z : Option Bool) : PlacesKept s (s.release c time z) := by
  unfold State.release
  dsimp only
  split
  · exact PlacesKept.of_trays rfl
  · split
    · exact s.places_putCtx _ _
    · exact s.places_putCtx _ _

theorem State.places_turnAt (c : Nat) {f : Tray → Tray} (h : ∀ t, (f t).place = t.place) : PlacesKept s (s.turnAt c f) :=
  s.places_setTray (h _)

theorem State.places_enterTrap (c cause : Nat) (info addr : Option Nat) (save : Bool) :
    PlacesKept s (s.enterTrap c cause info addr save) := by
  rw [State.enterTrap_eq]
  have hrec : PlacesKept s (s.ctxRecord c cause info) := PlacesKept.of_trays (State.trays_of_wipe (s.ctxRecord_wipe0 ..) rfl)
  have hissue : PlacesKept (s.ctxRecord c cause info) ((s.ctxRecord c cause info).noteIssue c) :=
    State.places_turnAt _ c fun _ => rfl
  have hwindow (u : State) : PlacesKept u (u.setWindow c 1) := State.places_turnAt _ c fun _ => rfl
  have hfresh (u : State) : PlacesKept u u.nextFresh := PlacesKept.of_trays rfl
  exact hrec.trans (hissue.trans ((hwindow _).trans ((hfresh _).trans (State.places_putCtx _ _ _))))

theorem State.places_endMove (c : Nat) : PlacesKept s (s.endMove c) := by
  have hrel (t : State) : PlacesKept t (match (s.ctx c).freed with | some (y, z) => t.release c y z | none => t) := by
    split
    · exact t.places_release _ _ _
    · exact PlacesKept.of_trays rfl
  have hback := s.places_putCtx c { s.ctx c with st := (s.ctx c).retSt, freed := none }
  unfold State.endMove
  dsimp only
  split
  · split
    · exact hback.trans (hrel _)
    · exact hback.trans ((hrel _).trans (State.places_enterTrap _ _ _ _ _ _))
  · exact hback.trans (hrel _)

end Kept

/-! ### The steps of a move -/

section Move
variable (s : State) (c : Nat)

/-- A context that has moved is marked in the spare; besides the trays and their events nothing changes. -/
theorem State.moved_markMoved : c ∈ ((s.markMoved c).tray s.spareTray).moved := by
  have hset : c ∈ ((s.setTray s.spareTray
      { s.tray s.spareTray with moved := (s.tray s.spareTray).moved ++ [c] }).tray s.spareTray).moved := by
    rw [State.tray_setTray, if_pos rfl]
    simp
  have hkept := (State.places_trayPulse (s.setTray s.spareTray
    { s.tray s.spareTray with moved := (s.tray s.spareTray).moved ++ [c] }) s.spareTray 7).trans
      ((State.places_trayLevels _ (s.trayOf c)).trans (State.places_trayLevels _ s.spareTray))
  exact (hkept.moved s.spareTray).symm ▸ hset

theorem State.markMoved_event : (s.markMoved c).wipe ctxEvent = s.wipe ctxEvent := by
  have hlevels (u : State) (p : Nat) : (u.trayLevels p).wipe ctxEvent = u.wipe ctxEvent :=
    State.wipe_mono (u.trayLevels_wipe0 p) (by decide)
  rw [State.markMoved, hlevels, hlevels, State.trayPulse_wipe _ _ _ _ (by decide), State.setTray_wipe _ _ _ _ (by decide)]

theorem State.ctxs_markMoved : (s.markMoved c).ctxs = s.ctxs := by
  have h : (s.markMoved c).wipe 4123202158610 = s.wipe 4123202158610 := by
    rw [State.markMoved, State.trayLevels_wipe0, State.trayLevels_wipe0, State.trayPulse_wipe _ _ _ _ (by decide),
      State.setTray_wipe _ _ _ _ (by decide)]
  exact State.ctxs_of_wipe h rfl

end Move

/-- Completing a word leaves the release that a move has noted. -/
theorem Ctx.complete_freed (k : Ctx) (na : Nat) : (k.complete na).freed = k.freed := by
  rw [Ctx.complete_eq]
  show (k.looped na).freed = _
  unfold Ctx.looped
  split
  · split <;> rfl
  · rfl

/-- A release of a context that does not move leaves the time of the event, and no release noted (R154). -/
theorem State.ctx_release_woken (s : State) (c time : Nat) (z : Option Bool) (h : (s.ctx c).st ≠ .moving) :
    ((s.release c time z).ctx c).evtTime = time ∧ ((s.release c time z).ctx c).freed = (s.ctx c).freed := by
  unfold State.release
  rw [if_neg h]
  split
  · rw [State.ctx_putCtx_same]
    exact ⟨rfl, rfl⟩
  · rw [State.ctx_putCtx_same]
    refine ⟨rfl, ?_⟩
    refine (Ctx.complete_freed _ _).trans ?_
    cases z <;> rfl

section EndMove
variable (s : State) (c : Nat)

/-- The state in which a move's end has put its context back. -/
def State.putBack : State := s.putCtx c { s.ctx c with st := (s.ctx c).retSt, freed := none }

/-- The state after a release that came during the move, if one came (R178). -/
def State.wokenBack : State :=
  match (s.ctx c).freed with
  | some (t, z) => (s.putBack c).release c t z
  | none => s.putBack c

/-- A move's end puts the context back, releases it where a release came meanwhile, and takes a cause that came meanwhile. -/
theorem State.endMove_eq : s.endMove c = (match (s.ctx c).topPend with
    | some y => if (s.ctx c).inHandler then s.wokenBack c else (s.wokenBack c).enterTrap c y ((s.ctx c).pendInfo y) none
    | none => s.wokenBack c) := rfl

theorem State.ctx_wokenBack_other {e : Nat} (h : e ≠ c) : (s.wokenBack c).ctx e = s.ctx e := by
  have hput : (s.putBack c).ctx e = s.ctx e := State.ctx_putCtx_other _ _ _ h
  unfold State.wokenBack
  split
  · exact ((State.release_frame _ c _ _).2.1 e h).trans hput
  · exact hput

/-- Of the contexts a move's end writes its own alone. -/
theorem State.ctx_endMove_other {e : Nat} (h : e ≠ c) : (s.endMove c).ctx e = s.ctx e := by
  rw [State.endMove_eq]
  split
  · split
    · exact s.ctx_wokenBack_other c h
    · exact (State.ctx_enterTrap_other _ c _ _ _ _ h).trans (s.ctx_wokenBack_other c h)
  · exact s.ctx_wokenBack_other c h

/-- Without a release or a cause of the meantime the context stands where it stood (R163). -/
theorem State.ctx_endMove_plain (hp : (s.ctx c).topPend = none) (hf : (s.ctx c).freed = none) :
    (s.endMove c).ctx c = { s.ctx c with st := (s.ctx c).retSt } := by
  have hk : ({ s.ctx c with st := (s.ctx c).retSt, freed := none } : Ctx) = { s.ctx c with st := (s.ctx c).retSt } := by rw [← hf]
  rw [State.endMove_eq, hp]
  show (s.wokenBack c).ctx c = _
  rw [State.wokenBack, hf]
  exact (State.ctx_putCtx_same ..).trans hk

/-- A release of the meantime wakes the context on its new tray (R178). -/
theorem State.ctx_endMove_freed {y : Nat} {z : Option Bool} (hret : (s.ctx c).retSt ≠ .moving)
    (hp : (s.ctx c).topPend = none) (hf : (s.ctx c).freed = some (y, z)) :
    ((s.endMove c).ctx c).st = (if (s.ctx c).inHandler then .trap else .run) ∧
      ((s.endMove c).ctx c).evtTime = y ∧ ((s.endMove c).ctx c).freed = none := by
  have hback : (s.putBack c).ctx c = { s.ctx c with st := (s.ctx c).retSt, freed := none } := State.ctx_putCtx_same ..
  have hst : ((s.putBack c).ctx c).st ≠ .moving := by rw [hback]; exact hret
  obtain ⟨htime, hfreed⟩ := (s.putBack c).ctx_release_woken c y z hst
  have hwoken := ((s.putBack c).release_frame c y z).2.2.2.2 hst
  rw [State.endMove_eq, hp]
  simp only [State.wokenBack, hf]
  exact ⟨hwoken.trans (by rw [hback]), htime, hfreed.trans (by rw [hback])⟩

/-- A cause of the meantime is taken at the end of the move (R179). -/
theorem State.ctx_endMove_trapped {y : Nat} (hp : (s.ctx c).topPend = some y) (hin : (s.ctx c).inHandler = false) :
    ((s.endMove c).ctx c).st = .trap ∧ ((s.endMove c).ctx c).tcause = y ∧ ((s.endMove c).ctx c).pc = 2 * y := by
  obtain ⟨i, a, tick, -, hctx⟩ := (s.wokenBack c).ctx_enterTrap c y ((s.ctx c).pendInfo y) none true
  rw [State.endMove_eq, hp]
  simp only [hin, Bool.false_eq_true, if_false]
  rw [hctx, if_pos rfl]
  exact ⟨rfl, rfl, rfl⟩

end EndMove

/-! ### The tick of the takeover -/

section Swap
variable (s : State) (x t : Nat)

/-- The state in which the new replicas stand and the two trays have changed places. -/
def State.swapped : State :=
  let u := ((s.liveIds (s.servesOf t)).filter s.copies).foldl State.placeReplica s
  let u := u.setTray x { u.tray x with serves := some (s.servesOf t), rebuildFor := none, since := 0, moved := [] }
  u.setTray t { u.tray t with serves := some (s.servesOf x) }

/-- One queue's contract names the spare where it named the tray (R124). -/
def State.reassign (u : State) (q : Nat) : State :=
  match (u.queue q).contract with
  | some k => u.setQueue q { u.queue q with contract := some { k with trays := k.trays.map fun y => if y = t then x else y } }
  | none => u

/-- The state after the swap, its levels and events made, before the contracts follow. -/
def State.swapMarked : State := (((s.swapped x t).trayLevels x).trayLevels t).trayPulse x 7

theorem State.swapTrays_eq : s.swapTrays x t =
    (Tbl.keys (s.swapMarked x t |>.queues)).foldl (State.reassign x t) (s.swapMarked x t) := by
  have hq : (s.swapMarked x t).queues = (((s.swapped x t).trayLevels x).trayLevels t).queues :=
    State.queues_of_wipe (State.trayPulse_wipe0 ..) rfl
  rw [hq]
  rfl

theorem State.placeReplicas_frame (l : List Nat) (u : State) :
    (l.foldl State.placeReplica u).queues = u.queues ∧ (l.foldl State.placeReplica u).pwr = u.pwr := by
  induction l generalizing u with
  | nil => exact ⟨rfl, rfl⟩
  | cons c l ih =>
    have hstep : (u.placeReplica c).queues = u.queues ∧ (u.placeReplica c).pwr = u.pwr := by simp [State.placeReplica]
    rw [List.foldl_cons, ← hstep.1, ← hstep.2]
    exact ih (u.placeReplica c)

theorem State.swapMarked_frame : (s.swapMarked x t).queues = s.queues ∧ (s.swapMarked x t).pwr = s.pwr := by
  have hwipe : (s.swapMarked x t).wipe 4123202158610 = (s.swapped x t).wipe 4123202158610 := by
    rw [State.swapMarked, State.trayPulse_wipe0, State.trayLevels_wipe0, State.trayLevels_wipe0]
  obtain ⟨hq, hp⟩ := State.placeReplicas_frame ((s.liveIds (s.servesOf t)).filter s.copies) s
  exact ⟨(State.queues_of_wipe hwipe rfl).trans hq, (State.pwr_of_wipe hwipe rfl).trans hp⟩

theorem State.reassign_frame (u : State) (q : Nat) : (u.reassign x t q).trays = u.trays ∧ (u.reassign x t q).pwr = u.pwr := by
  unfold State.reassign
  split <;> exact ⟨rfl, rfl⟩

theorem State.reassigns_frame (l : List Nat) (u : State) :
    (l.foldl (State.reassign x t) u).trays = u.trays ∧ (l.foldl (State.reassign x t) u).pwr = u.pwr := by
  induction l generalizing u with
  | nil => exact ⟨rfl, rfl⟩
  | cons q l ih =>
    obtain ⟨htrays, hpwr⟩ := ih (u.reassign x t q)
    obtain ⟨htrays', hpwr'⟩ := u.reassign_frame x t q
    exact ⟨htrays.trans htrays', hpwr.trans hpwr'⟩

theorem State.pwr_swapTrays : (s.swapTrays x t).pwr = s.pwr := by
  rw [State.swapTrays_eq]
  exact (State.reassigns_frame x t _ _).2.trans (s.swapMarked_frame x t).2

/-- On the tick of the takeover each of the two trays answers to the IDs of the other, and no tray is in hand (R124). -/
theorem State.places_swapTrays (h : t ≠ x) :
    ((s.swapTrays x t).tray x).serves = some (s.servesOf t) ∧ ((s.swapTrays x t).tray t).serves = some (s.servesOf x) ∧
      ((s.swapTrays x t).tray x).rebuildFor = none := by
  have hkept : PlacesKept (s.swapped x t) (s.swapTrays x t) := by
    rw [State.swapTrays_eq]
    exact (((State.places_trayLevels _ x).trans (State.places_trayLevels _ t)).trans (State.places_trayPulse _ x 7)).trans
      (PlacesKept.of_trays (State.reassigns_frame x t _ _).1)
  have hx : ((s.swapped x t).tray x).serves = some (s.servesOf t) ∧ ((s.swapped x t).tray x).rebuildFor = none := by
    simp only [State.swapped, State.tray_setTray, if_neg (Ne.symm h), if_true, and_self]
  have ht : ((s.swapped x t).tray t).serves = some (s.servesOf x) := by
    simp only [State.swapped, State.tray_setTray, if_true]
  exact ⟨(hkept.serves x).trans hx.1, (hkept.serves t).trans ht, (hkept.rebuildFor x).trans hx.2⟩

/-- Naming the spare for the tray, twice as once. -/
theorem swapped_twice {x t : Nat} (h : t ≠ x) (l : List Nat) :
    (l.map fun y => if y = t then x else y).map (fun y => if y = t then x else y) = l.map fun y => if y = t then x else y := by
  rw [List.map_map]
  refine List.map_congr_left fun y _ => ?_
  simp only [Function.comp]
  split
  · rw [if_neg (Ne.symm h)]
  · rfl

/-- What a walk over queues makes of a contract: at the queues it meets, the spare's name for the tray's. -/
theorem State.contract_reassigns (h : t ≠ x) (q : Nat) (l : List Nat) : ∀ (u : State) (k : Contract), (u.queue q).contract = some k →
    ∃ k', ((l.foldl (State.reassign x t) u).queue q).contract = some k' ∧
      k'.trays = if q ∈ l then k.trays.map (fun y => if y = t then x else y) else k.trays := by
  induction l with
  | nil => exact fun u k hk => ⟨k, hk, rfl⟩
  | cons p l ih =>
    intro u k hk
    by_cases hp : p = q
    · subst hp
      have hstep : ((u.reassign x t p).queue p).contract =
          some { k with trays := k.trays.map fun y => if y = t then x else y } := by
        simp only [State.reassign, hk]
        rw [State.queue_setQueue, if_pos rfl]
      obtain ⟨k', hk', htrays⟩ := ih _ _ hstep
      refine ⟨k', hk', htrays.trans ?_⟩
      rw [swapped_twice h, if_pos List.mem_cons_self]
      exact ite_self _
    · have hstep : ((u.reassign x t p).queue q).contract = some k := by
        rw [← hk]
        unfold State.reassign
        split
        · rw [State.queue_setQueue, if_neg (Ne.symm hp)]
        · rfl
      obtain ⟨k', hk', htrays⟩ := ih _ _ hstep
      exact ⟨k', hk', htrays.trans (if_congr (by simp [Ne.symm hp]) rfl rfl)⟩

/-- A queue with a contract stands in the table. -/
theorem mem_keys_of_contract {u : Tbl Queue} {q : Nat} {k : Contract} (h : (Tbl.get {} u q).contract = some k) : q ∈ Tbl.keys u := by
  induction u with
  | nil => exact absurd h (by simp [Tbl.get])
  | cons e r ih =>
    by_cases he : e.1 = q
    · exact List.mem_cons.mpr (.inl he.symm)
    · refine List.mem_cons.mpr (.inr (ih ?_))
      rw [Tbl.get, if_neg he] at h
      exact h

/-- Every contract names the spare where it named the tray (R124). -/
theorem State.contract_swapTrays (h : t ≠ x) {q : Nat} {k : Contract} (hk : (s.queue q).contract = some k) :
    ∃ k', ((s.swapTrays x t).queue q).contract = some k' ∧ k'.trays = k.trays.map fun y => if y = t then x else y := by
  have hq : ((s.swapMarked x t).queue q).contract = some k := by
    rw [← hk, State.queue, State.queue, (s.swapMarked_frame x t).1]
  obtain ⟨k', hk', htrays⟩ := State.contract_reassigns x t h q (Tbl.keys (s.swapMarked x t).queues) _ k hq
  rw [← State.swapTrays_eq] at hk'
  exact ⟨k', hk', htrays.trans (if_pos (mem_keys_of_contract hq))⟩

end Swap

/-! ### The retired tray -/

/-- A record of severity 2 writes REL_LHEAD and interrupt registers alone (R359). -/
theorem State.reg_relRecord {u : State} {k : Nat} (hk : k ≠ Reg.REL_LHEAD) (hp : ¬(Reg.HVC_PEND 0 ≤ k ∧ k < Reg.HVC_PEND 512))
    (sev code kind block inst addr : Nat) : (u.relRecord sev code kind block inst addr).reg k = u.reg k := by
  have hrel : ∀ v : Rel, ({ u with rel := v } : State).reg k = u.reg k := fun _ => rfl
  simp only [State.relRecord]
  split
  · rfl
  · split
    · rw [State.incWrap, State.reg_setFld_other _ hk, State.reg_setFld_other _ hk, hrel]
    · split
      · rw [State.raise_reg _ (by decide) hp, State.incWrap, State.reg_setFld_other _ hk, State.reg_setFld_other _ hk, hrel]
      · rw [State.raise_reg _ (by decide) hp, State.incWrap, State.reg_setFld_other _ hk, State.reg_setFld_other _ hk, hrel]

section Retire
variable (u : State)

/-- A change of mode writes PWR_STATUS.PREV and interrupt registers alone. -/
theorem State.reg_changeMode (m : Nat) {k : Nat} (hk : k ≠ Reg.PWR_STATUS) (hp : ¬(Reg.HVC_PEND 0 ≤ k ∧ k < Reg.HVC_PEND 512)) :
    (u.changeMode m).reg k = u.reg k := by
  have hfirst : (({ u.setFld Reg.PWR_STATUS 3 3 u.mode with pwr := { (u.setFld Reg.PWR_STATUS 3 3 u.mode).pwr with mode := m } }
      : State).raise 0x3438).reg k = u.reg k :=
    (State.raise_reg _ (by decide) hp).trans (State.reg_setFld_other _ hk ..)
  unfold State.changeMode
  dsimp only
  split
  · exact (State.raise_reg _ (by decide) hp).trans hfirst
  · exact hfirst

theorem State.queues_changeMode (m : Nat) : (u.changeMode m).queues = u.queues ∧ (u.changeMode m).trays = u.trays := by
  unfold State.changeMode
  dsimp only
  split <;> simp

theorem State.mode_changeMode (m : Nat) : (u.changeMode m).mode = m := by
  have hraises (v : State) : (if m = Mode.degraded then (v.raise 0x3438).raise 0x3432 else v.raise 0x3438).pwr = v.pwr := by
    split
    · exact (State.raise_pwr _ _).trans (State.raise_pwr _ _)
    · exact State.raise_pwr _ _
  exact congrArg Power.mode (hraises { u.setFld Reg.PWR_STATUS 3 3 u.mode with
    pwr := { (u.setFld Reg.PWR_STATUS 3 3 u.mode).pwr with mode := m } })

/-- The follow-up of the degraded conditions writes PWR_STATUS.PREV and interrupt registers alone. -/
theorem State.reg_updDegraded {k : Nat} (hk : k ≠ Reg.PWR_STATUS) (hp : ¬(Reg.HVC_PEND 0 ≤ k ∧ k < Reg.HVC_PEND 512)) :
    u.updDegraded.reg k = u.reg k := by
  unfold State.updDegraded
  split
  · exact u.reg_changeMode _ hk hp
  · split
    · exact u.reg_changeMode _ hk hp
    · rfl

theorem State.queues_updDegraded : u.updDegraded.queues = u.queues ∧ u.updDegraded.trays = u.trays := by
  unfold State.updDegraded
  split
  · exact u.queues_changeMode _
  · split
    · exact u.queues_changeMode _
    · exact ⟨rfl, rfl⟩

/-- While a condition of DEGRADED stands, RUN becomes DEGRADED, and PWR_STATUS keeps the condition (R318). -/
theorem State.updDegraded_standing (h : u.bit Reg.PWR_STATUS 6 = true) :
    u.updDegraded.bit Reg.PWR_STATUS 6 = true ∧ (u.mode = Mode.run → u.updDegraded.mode = Mode.degraded) := by
  have hnow : u.degradedNow = true := by simp only [State.degradedNow, h, Bool.true_or]
  unfold State.updDegraded
  by_cases hrun : u.mode = Mode.run
  · rw [if_pos ⟨hrun, hnow⟩]
    refine ⟨?_, fun _ => u.mode_changeMode _⟩
    have hreg : (u.changeMode Mode.degraded).reg Reg.PWR_STATUS = (u.setFld Reg.PWR_STATUS 3 3 u.mode).reg Reg.PWR_STATUS := by
      unfold State.changeMode
      dsimp only
      rw [if_pos rfl]
      exact (State.raise_reg _ (by decide) (by decide)).trans (State.raise_reg _ (by decide) (by decide))
    exact (State.bit_of_reg hreg 6).trans ((State.bit_setFld_apart _ _ 3 3 _ 6 (by decide) (by decide)).trans h)
  · rw [if_neg fun hc => hrun hc.1, if_neg fun hc => absurd (hnow.symm.trans hc.2) (by decide)]
    exact ⟨h, fun hc => absurd hc hrun⟩

/-- The retired tray leaves no spare, and the part DEGRADED (R124, R318). -/
theorem State.retire_spec {t : Nat} (ht : t < 9) :
    (u.retire t).fld Reg.ADM_GUARD 0 4 = 0xF ∧ (u.retire t).bit Reg.ADM_GUARD 22 = false ∧
    (u.retire t).bit Reg.ADM_GUARD (13 + t) = true ∧ (u.retire t).bit Reg.PWR_STATUS 6 = true ∧
    (u.mode = Mode.run → (u.retire t).mode = Mode.degraded) ∧ (u.retire t).queues = u.queues ∧ (u.retire t).trays = u.trays := by
  obtain ⟨v, hv⟩ : ∃ v, v = ((u.setBit Reg.ADM_GUARD 22 false).setFld Reg.ADM_GUARD 0 4 0xF).setBit Reg.ADM_GUARD (13 + t) true :=
    ⟨_, rfl⟩
  obtain ⟨w, hw⟩ : ∃ w, w = ((v.setBit Reg.PWR_STATUS 6 true).relRecord 2 Code.ok 8 0x21 t 0).raise 0x3419 := ⟨_, rfl⟩
  have hret : u.retire t = w.updDegraded := by simp only [State.retire, hw, hv]
  have hwreg {k : Nat} (hk : k ≠ Reg.REL_LHEAD) (hp : ¬(Reg.HVC_PEND 0 ≤ k ∧ k < Reg.HVC_PEND 512)) :
      w.reg k = (v.setBit Reg.PWR_STATUS 6 true).reg k := by
    rw [hw]
    exact (State.raise_reg _ (by decide) hp).trans (State.reg_relRecord hk hp ..)
  have hguard : (u.retire t).reg Reg.ADM_GUARD = v.reg Reg.ADM_GUARD := by
    rw [hret]
    exact (w.reg_updDegraded (by decide) (by decide)).trans
      ((hwreg (by decide) (by decide)).trans (State.reg_setBit_other _ (by decide) ..))
  have hframe : w.queues = u.queues ∧ w.trays = u.trays ∧ w.mode = u.mode := by
    have hwipe : w.wipe 74491912781842 = u.wipe 74491912781842 := by
      rw [hw, State.raise_wipe _ _ _ (by decide), State.relRecord_wipe0, State.setBit_wipe _ _ _ _ _ (by decide), hv,
        State.setBit_wipe _ _ _ _ _ (by decide), State.setFld_wipe _ _ _ _ _ _ (by decide),
        State.setBit_wipe _ _ _ _ _ (by decide)]
    exact ⟨State.queues_of_wipe hwipe rfl, State.trays_of_wipe hwipe rfl, congrArg Power.mode (State.pwr_of_wipe hwipe rfl)⟩
  have hflag : w.bit Reg.PWR_STATUS 6 = true :=
    (State.bit_of_reg (hwreg (by decide) (by decide)) 6).trans (State.bit_setBit_same _ _ _ _ (by decide))
  obtain ⟨hbit, hmode⟩ := w.updDegraded_standing hflag
  refine ⟨?_, ?_, ?_, hret ▸ hbit, fun h => hret ▸ hmode (hframe.2.2.trans h),
    hret ▸ w.queues_updDegraded.1.trans hframe.1, hret ▸ w.queues_updDegraded.2.trans hframe.2.1⟩
  · rw [State.fld_of_reg hguard, hv, State.setBit, State.fld_setFld_apart _ _ _ _ _ _ _ (by omega) (by omega)]
    exact State.fld_setFld_same _ _ _ _ _ (by decide)
  · rw [State.bit_of_reg hguard, hv, State.setBit, State.bit_setFld_apart _ _ _ _ _ _ (by omega) (by omega),
      State.bit_setFld_apart _ _ _ _ _ _ (by omega) (by omega)]
    exact State.bit_setBit_same _ _ _ _ (by decide)
  · rw [State.bit_of_reg hguard, hv]
    exact State.bit_setBit_same _ _ _ _ (by omega)

end Retire

/-! ### What each step of a move does -/

section Steps
variable {s : State} {c : Nat}

/-- The tray in hand is the one the context stands in, and the context has not moved to the spare. -/
def State.awaitsMove (s : State) (c : Nat) : Prop :=
  s.movesRun = true ∧ (s.tray s.spareTray).rebuildFor = some (s.physOf (c / 256)) ∧ (s.tray s.spareTray).moved.contains c = false

/-- A context of the tray in hand that has not moved: what its CONTEXT_MOVE does, by its state (R163). -/
theorem State.exec_contextMove (hc : okCtx c = true) (h : s.awaitsMove c) (hfree : (s.ctx c).st ≠ .free) :
    exec (.contextMove c) s = .next (if s.copies c then s.moveReplica c
      else if (s.ctx c).st = .moving then (s.markMoved c).endMove c
      else if (s.ctx c).st.dead then s.markMoved c
      else if (s.ctx c).atPoint ∧ (s.rebuilding = true ∨ s.moveFar c = true) then s.startMove c
      else s) := by
  obtain ⟨hruns, hhand, hmoved⟩ := h
  refine (onUnit_of hc _).trans (congrArg _ ?_)
  unfold State.moveCtx
  refine if_neg ?_
  rintro (h | h | h | h)
  · exact absurd (hruns.symm.trans h) (by decide)
  · exact h hhand
  · exact hfree h
  · exact absurd (hmoved.symm.trans h) (by decide)

/-- What the start of a move leaves (R163). -/
theorem State.startMove_spec (s : State) (c : Nat) :
    (s.startMove c).ctx c = { s.ctx c with st := .moving, retSt := (s.ctx c).st } ∧
    (∀ e, e ≠ c → (s.startMove c).ctx e = s.ctx e) ∧ (s.startMove c).wipe ctxEvent = s.wipe ctxEvent :=
  ⟨State.ctx_putCtx_same .., fun _ he => State.ctx_putCtx_other _ _ _ he, s.putCtx_event ..⟩

/-- What a forced move leaves (R179). -/
theorem State.exec_forcedMove (hc : okCtx c = true) (h : s.awaitsMove c) (hcopy : s.copies c = false)
    (hst : (s.ctx c).st = .run ∨ (s.ctx c).st = .trap)
    (hdue : max (s.tray s.spareTray).since (s.ctx c).lastPoint + 1500000000 ≤ s.tick) :
    exec (.forcedMove c) s = .next (s.startMove c).markForced := by
  obtain ⟨hruns, hhand, hmoved⟩ := h
  refine (onUnit_of hc _).trans (congrArg _ ?_)
  unfold State.forceMove
  refine if_neg ?_
  rintro (h | h | h | h | h | h)
  · exact absurd (hruns.symm.trans h) (by decide)
  · exact h hhand
  · exact absurd (hmoved.symm.trans h) (by decide)
  · exact absurd (hcopy.symm.trans h) (by decide)
  · exact hst.elim h.1 h.2
  · omega

/-- The tick of a takeover that may come. -/
theorem State.exec_takeover {t : Nat} (ht : t < 9) (hruns : s.takeoverRuns = true) (hhand : s.trayInHand = some t)
    (hall : (s.liveIds (s.servesOf t)).all s.hasMoved = true) : exec (.trayTakeover t) s = .next
      (match s.rebuilding, s.upd with
        | true, _ => (s.swapTrays s.spareTray t).retire t
        | false, some u => (s.swapTrays s.spareTray t).trayDone u t (s.servesOf t)
        | false, none => (s.swapTrays s.spareTray t).setFld Reg.ADM_GUARD 0 4 t) := by
  refine (onUnit_of (by simpa [okTray] using ht) _).trans (congrArg _ ?_)
  unfold State.takeover
  refine if_neg ?_
  rintro (h | h | h)
  · exact absurd (hruns.symm.trans h) (by decide)
  · exact h hhand
  · exact absurd (hall.symm.trans h) (by decide)

end Steps

/-- Settles O24: each command is split by the state its context is in, each takeover by whether a rebuild ends. -/
theorem traysTakeEachOthersPlace : Obligations.TraysTakeEachOthersPlace := by
  unfold Obligations.TraysTakeEachOthersPlace
  intro s c t0 _ ht0 x k from_ hc _
  refine ⟨fun h hcopy hfree hmove hdead => ⟨_, (State.exec_contextMove hc h hfree).trans ?_, s.moved_markMoved c, s.ctxs_markMoved c,
      State.mem_of_wipe (s.markMoved_event c) rfl, State.cuffs_of_wipe (s.markMoved_event c) rfl⟩,
    fun h hcopy hfree hmove hdead hpoint hfar => ?start, fun h hcopy hmove hret => ?finish,
    fun h hcopy hfree hnew a b hsurv hcopyable hagree => ?copy, fun h hcopy hst hdue => ?forced,
    fun hruns hhand hne hall => ?takeover⟩
  · rw [if_neg (by simp [hcopy]), if_neg hmove, if_pos hdead]
  case start =>
    obtain ⟨hctx, hother, hevent⟩ := s.startMove_spec c
    refine ⟨_, (State.exec_contextMove hc h hfree).trans ?_, hctx, hother, State.fifos_of_wipe hevent rfl,
      State.mem_of_wipe hevent rfl, State.cuffs_of_wipe hevent rfl⟩
    rw [if_neg (by simp [hcopy]), if_neg hmove, if_neg (by simp [show (s.ctx c).st.dead = false from hdead]),
      if_pos ⟨hpoint, hfar⟩]
  case finish =>
    have hfree : (s.ctx c).st ≠ .free := fun hf => absurd (hmove.symm.trans hf) (by decide)
    have hk : (s.markMoved c).ctx c = s.ctx c := State.ctx_congr (s.ctxs_markMoved c) c
    have hevent : ((s.markMoved c).endMove c).wipe ctxEvent = s.wipe ctxEvent :=
      (State.endMove_event ..).trans (s.markMoved_event c)
    refine ⟨_, (State.exec_contextMove hc h hfree).trans ?_, ?_, fun e he => ?_, State.fifos_of_wipe hevent rfl,
      fun hp hf => ?_, fun y z hp hf => ?_, fun y hp hin => ?_⟩
    · rw [if_neg (by simp [hcopy]), if_pos hmove]
    · exact ((State.places_endMove _ c).moved x).symm ▸ s.moved_markMoved c
    · exact (State.ctx_endMove_other _ c he).trans (State.ctx_congr (s.ctxs_markMoved c) e)
    · have hend := State.ctx_endMove_plain (s.markMoved c) c (by rw [hk]; exact hp) (by rw [hk]; exact hf)
      rw [hk] at hend
      exact hend
    · have hend := State.ctx_endMove_freed (s.markMoved c) c (by rw [hk]; exact hret) (by rw [hk]; exact hp) (by rw [hk]; exact hf)
      rw [hk] at hend
      exact hend
    · exact State.ctx_endMove_trapped (s.markMoved c) c (by rw [hk]; exact hp) (by rw [hk]; exact hin)
  case copy =>
    have hmove : s.moveReplica c = (s.setFifo (fifoKey 5 (s.newReplica c)) (s.fifo (fifoKey 5 a))).putCtx (s.newReplica c)
        { s.ctx a with st := .moving, retSt := (s.ctx a).st, sent := [] } := by
      simp only [State.moveReplica, hnew, State.copyReplica, hsurv, hcopyable, hagree, Bool.and_self, if_true]
    refine ⟨_, (State.exec_contextMove hc h hfree).trans (congrArg _ ((if_pos hcopy).trans hmove)), ?_,
      State.ctx_putCtx_same .., fun e he => State.ctx_putCtx_other _ _ _ he⟩
    rw [State.fifo, State.putCtx_fifos]
    exact (State.fifo_setFifo s _ _ _).trans (if_pos rfl)
  case forced =>
    obtain ⟨hctx, hother, hevent⟩ := s.startMove_spec c
    refine ⟨_, State.exec_forcedMove hc h hcopy hst hdue, hctx, hother, fun u hu => ?_⟩
    have hupd : (s.startMove c).upd = s.upd := State.upd_of_wipe hevent rfl
    show (s.startMove c).upd.map _ = _
    rw [hupd, hu]
    rfl
  case takeover =>
    have hmay : s.takeoverRuns = true := by
      simp only [State.takeoverRuns, Bool.or_eq_true, Bool.and_eq_true, decide_eq_true_eq]
      exact hruns
    have hexec := State.exec_takeover ht0 hmay hhand hall
    obtain ⟨hserves, hserves0, hnone⟩ := s.places_swapTrays x t0 hne
    refine ⟨fun hreb hupd => ?_, fun hreb => ?_⟩
    · rw [hreb, hupd] at hexec
      have htrays : ((s.swapTrays x t0).setFld Reg.ADM_GUARD 0 4 t0).trays = (s.swapTrays x t0).trays := State.setFld_trays ..
      refine ⟨(s.swapTrays x t0).setFld Reg.ADM_GUARD 0 4 t0, hexec, (State.fld_setFld_same _ _ _ _ _ (by decide)).trans (Nat.mod_eq_of_lt (by omega)), ?_, ?_, ?_⟩
      all_goals rw [State.tray, htrays]
      · exact hserves
      · exact hserves0
      · exact hnone
    · rw [hreb] at hexec
      obtain ⟨hspare, hflag, hdown, hcond, hmode, hqueues, htrays⟩ := (s.swapTrays x t0).retire_spec ht0
      refine ⟨(s.swapTrays x t0).retire t0, hexec, hspare, hflag, hdown, hcond, ?_, fun hrun => hmode ?_, fun q k hk => ?_⟩
      · rw [State.tray, htrays]
        exact hserves
      · rw [State.mode, s.pwr_swapTrays x t0]
        exact hrun
      · obtain ⟨k', hk', hmap⟩ := s.contract_swapTrays x t0 hne hk
        refine ⟨k', ?_, hmap⟩
        rw [State.queue, hqueues]
        exact hk'

end Sys2Proof.Machine

/-! Guarded voting (R120-R123): the copies a voter takes, a lost vote, a double fault, and the scheduler lanes. -/

namespace Sys2Proof.Machine

open Host

/-! ### Copies -/

section Copies
variable {s : State} {ttype target slot copy : Nat}

/-- A copy of a queue's action names the queue's entry. -/
theorem State.org_of_copyOf {q i : Nat} {f : Flight} (h : s.copyOf ttype target slot copy (.queue q i) = some f) :
    f.org = .queue q i := by
  simp only [State.copyOf] at h
  split at h
  · next r hr =>
    cases h
    have hp := List.find?_some hr
    simp only [Bool.and_eq_true, beq_iff_eq] at hp
    obtain ⟨⟨⟨⟨⟨-, horg⟩, -⟩, -⟩, -⟩, -⟩ := hp
    exact horg
  · obtain ⟨k, hk, rfl⟩ := Option.map_eq_some_iff.mp h
    have hp : (k.fl.org == CopyOrigin.queue q i) = true := List.find?_some (p := fun k : Kept => k.fl.org == _) hk
    exact eq_of_beq hp

/-- A copy that its slot has not had reaches the voter (R121). -/
theorem State.exec_voteCopy {o : CopyOrigin} {f : Flight} (hlo : 1 ≤ ttype) (hhi : ttype ≤ 4)
    (hok : okTarget ttype target = true) (hslot : slot < 3) (hserv : s.service = true)
    (h : s.copyOf ttype target slot copy o = some f) (hnew : (s.voter (fifoKey ttype target)).hasCopy slot f = false) :
    exec (.voteCopyArrival ttype target slot copy o) s =
      .next ((s.dropSent o ttype target).takeCopy ttype target slot f) := by
  have hunit : (okVoted ttype && okTarget ttype target && okVoterSlot slot) = true := by
    simp [okVoted, hok, okVoterSlot, hslot, hlo, hhi]
  refine (onUnit_of hunit _).trans ?_
  rw [h]
  exact congrArg _ (if_neg (by simp [hserv, hnew]))

end Copies

/-! #### What a voter makes of a copy -/

/-- The one of three slots that meets a condition is found. -/
theorem find_only {p : Nat → Bool} {j : Nat} (hj : j < 3) (hat : p j = true) (hother : ∀ x < 3, x ≠ j → p x = false) :
    [0, 1, 2].find? p = some j := by
  rcases (by omega : j = 0 ∨ j = 1 ∨ j = 2) with rfl | rfl | rfl
  · simp [hat]
  · simp [hat, hother 0 (by decide) (by decide)]
  · simp [hat, hother 0 (by decide) (by decide), hother 1 (by decide) (by decide)]


section Take
variable (s : State) (ttype target slot : Nat) (f : Flight)

/-- The copy as it stands in its slot. -/
def State.stampedCopy : Flight := { f with arrived := s.tb.now }

/-- The voter with the copy in its slot. -/
def State.slotted : Voter :=
  { s.voter (fifoKey ttype target) with
    slots := (s.voter (fifoKey ttype target)).slots.set slot
      ((s.voter (fifoKey ttype target)).slots.getD slot [] ++ [s.stampedCopy f]) }

/-- Another slot holds a copy of the same action with the same 128 bits. -/
def State.agreesAt (j : Nat) : Bool :=
  decide (j ≠ slot) && ((s.voter (fifoKey ttype target)).slots.getD j []).any fun g =>
    g.same (s.stampedCopy f) && decide (g.act = (s.stampedCopy f).act)

/-- The copy of an action not agreed on yet stands in its slot, and is agreed on where another slot holds its like (R121). -/
theorem State.takeCopy_new (hroom : ((s.voter (fifoKey ttype target)).slots.getD slot []).length < 8)
    (hover : (s.voter (fifoKey ttype target)).over f = false)
    (hkept : (s.voter (fifoKey ttype target)).kept.find? (·.fl.same f) = none) :
    s.takeCopy ttype target slot f =
      match [0, 1, 2].find? (s.agreesAt ttype target slot f) with
      | some j => (s.setVoter (fifoKey ttype target) (s.slotted ttype target slot f)).agree ttype target slot j (s.stampedCopy f)
      | none => s.setVoter (fifoKey ttype target) (s.slotted ttype target slot f) := by
  unfold State.takeCopy
  dsimp only
  rw [if_neg, hkept]
  · rfl
  · rintro (h | h)
    · exact absurd hroom (Nat.not_lt.mpr h)
    · exact absurd (hover.symm.trans h) (by decide)

theorem State.agreesAt_iff (j : Nat) : s.agreesAt ttype target slot f j = true ↔
    j ≠ slot ∧ ∃ g ∈ (s.voter (fifoKey ttype target)).slots.getD j [], g.same f = true ∧ g.act = f.act := by
  simp only [State.agreesAt, Bool.and_eq_true, decide_eq_true_eq, List.any_eq_true]
  rfl

end Take

/-- With one slot that agrees and no other copy of the action, it is kept and its copies leave the slots (R121). -/
theorem State.agree_alone {u : State} {ttype target i j : Nat} {f : Flight} 
    (halone : ∀ x < 3, x ≠ i → x ≠ j → ∀ g ∈ (u.voter (fifoKey ttype target)).slots.getD x [], g.same f = false) :
    u.agree ttype target i j f = u.setVoter (fifoKey ttype target) { u.voter (fifoKey ttype target) with
      slots := (u.voter (fifoKey ttype target)).slots.map (·.filter fun g => !g.same f),
      kept := (u.voter (fifoKey ttype target)).kept ++ [{ fl := f, seen := [j, i], since := u.tick }] } := by
  have hlost : ([0, 1, 2].filter fun x => x ≠ i ∧ x ≠ j).filter
      (fun x => ((u.voter (fifoKey ttype target)).slots.getD x []).any (·.same f)) = [] := by
    refine List.filter_eq_nil_iff.mpr fun x hx => ?_
    obtain ⟨hmem, hne⟩ := List.mem_filter.mp hx
    have hlt : x < 3 := by
      simp only [List.mem_cons, List.not_mem_nil, or_false] at hmem
      omega
    obtain ⟨hxi, hxj⟩ := of_decide_eq_true hne
    simp only [List.any_eq_true, not_exists, not_and, Bool.not_eq_true]
    exact halone x hlt hxi hxj
  unfold State.agree
  dsimp only
  rw [hlost]
  rfl

/-- The second copy of an action, with no third that differs: the action is kept, and its copies leave the slots (R121). -/
theorem State.takeCopy_agreed (s : State) (ttype target slot : Nat) (f : Flight) {j : Nat}
    (hroom : ((s.voter (fifoKey ttype target)).slots.getD slot []).length < 8)
    (hover : (s.voter (fifoKey ttype target)).over f = false)
    (hkept : (s.voter (fifoKey ttype target)).kept.find? (·.fl.same f) = none)
    (hfind : [0, 1, 2].find? (s.agreesAt ttype target slot f) = some j)
    (halone : ∀ x < 3, x ≠ slot → x ≠ j → ∀ g ∈ (s.voter (fifoKey ttype target)).slots.getD x [], g.same f = false) :
    ∃ t, s.takeCopy ttype target slot f = t ∧ (t.voter (fifoKey ttype target)).kept =
        (s.voter (fifoKey ttype target)).kept ++ [{ fl := s.stampedCopy f, seen := [j, slot], since := s.tick }] ∧
      (∀ sl ∈ (t.voter (fifoKey ttype target)).slots, ∀ g ∈ sl, g.same f = false) ∧ t = { s with voters := t.voters } := by
  have hset : (s.setVoter (fifoKey ttype target) (s.slotted ttype target slot f)).voter (fifoKey ttype target) =
      s.slotted ttype target slot f := (State.voter_setVoter ..).trans (if_pos rfl)
  have hrest : ∀ x < 3, x ≠ slot → x ≠ j →
      ∀ g ∈ ((s.setVoter (fifoKey ttype target) (s.slotted ttype target slot f)).voter (fifoKey ttype target)).slots.getD x [],
        g.same (s.stampedCopy f) = false := by
    intro x hx hxs hxj
    rw [hset]
    simp only [State.slotted, List.getD_eq_getElem?_getD, List.getElem?_set_ne (Ne.symm hxs)]
    rw [← List.getD_eq_getElem?_getD]
    exact halone x hx hxs hxj
  have htake : s.takeCopy ttype target slot f =
      (s.setVoter (fifoKey ttype target) (s.slotted ttype target slot f)).agree ttype target slot j (s.stampedCopy f) := by
    rw [s.takeCopy_new ttype target slot f hroom hover hkept, hfind]
  rw [State.agree_alone hrest, hset] at htake
  have hvoter (w : Voter) : ((s.setVoter (fifoKey ttype target) (s.slotted ttype target slot f)).setVoter (fifoKey ttype target) w).voter
      (fifoKey ttype target) = w := (State.voter_setVoter ..).trans (if_pos rfl)
  refine ⟨_, htake, congrArg Voter.kept (hvoter _), fun sl hsl g hg => ?_, rfl⟩
  rw [hvoter] at hsl
  obtain ⟨l, -, rfl⟩ := List.mem_map.mp hsl
  have h := (List.mem_filter.mp hg).2
  exact Bool.eq_false_iff.mpr fun hc => absurd h (by rw [show g.same (s.stampedCopy f) = true from hc]; decide)

/-! ### A lost vote -/

/-- The fields that a lost vote may write. -/
abbrev voteLoss : Nat := 74493827481618

section Lost
variable (s : State)

theorem State.copyStore_voteLoss (src dst : Nat) : (s.copyStore src dst).wipe voteLoss = s.wipe voteLoss := by
  simp [State.copyStore, State.wipe, voteLoss, Nat.testBit]

theorem State.startRebuild_voteLoss (t : Nat) : (s.startRebuild t).wipe voteLoss = s.wipe voteLoss := by
  unfold State.startRebuild
  dsimp only
  split
  · rfl
  · rw [State.takeSpare, State.setTray_wipe _ _ _ _ (by decide), State.copyStore_voteLoss, State.setBit_wipe _ _ _ _ _ (by decide)]

/-- The state in which a tray's lost vote is recorded and counted. -/
def State.voteCounted (t : Nat) : State := ((s.relRecord 1 Code.voteLost 4 0x21 t 0).trayPulse t 6).incSat (Reg.ADM_VOTE t) 16 16

/-- The ticks of the tray's votes lost within 1 s, this one included. -/
def State.recentVotes (t : Nat) : List Nat :=
  ((Tbl.get [] (s.voteCounted t).votes t).filter fun x => decide ((s.voteCounted t).tick < x + 1500000000)) ++ [(s.voteCounted t).tick]

/-- The state in which the recent losses are noted. -/
def State.voteNoted (t : Nat) : State :=
  { s.voteCounted t with
    votes := Tbl.set [] (s.voteCounted t).votes t ((s.recentVotes t).drop ((s.recentVotes t).length - 3)) }.setFld (Reg.ADM_VOTE t) 0 2 (min 3 (s.recentVotes t).length)

theorem State.loseVote_eq (t : Nat) : s.loseVote t =
    if (s.recentVotes t).length < 3 ∨ (s.voteNoted t).bit Reg.ADM_GUARD (4 + t) then s.voteNoted t
    else (((s.voteNoted t).setBit Reg.ADM_GUARD (4 + t) true).raise 0x3418).startRebuild t := rfl

theorem State.voteCounted_voteLoss (t : Nat) : (s.voteCounted t).wipe voteLoss = s.wipe voteLoss := by
  rw [State.voteCounted, State.incSat_wipe _ _ _ _ _ (by decide), State.trayPulse_wipe _ _ _ _ (by decide),
    State.relRecord_wipe _ _ _ _ _ _ _ _ (by decide)]

theorem State.voteNoted_voteLoss (t : Nat) : (s.voteNoted t).wipe voteLoss = s.wipe voteLoss := by
  rw [State.voteNoted, State.setFld_wipe _ _ _ _ _ _ (by decide), State.votes_wipe _ _ _ (by decide), State.voteCounted_voteLoss]

theorem State.loseVote_voteLoss (t : Nat) : (s.loseVote t).wipe voteLoss = s.wipe voteLoss := by
  rw [State.loseVote_eq]
  split
  · exact s.voteNoted_voteLoss t
  · rw [State.startRebuild_voteLoss, State.raise_wipe _ _ _ (by decide), State.setBit_wipe _ _ _ _ _ (by decide), State.voteNoted_voteLoss]

/-- A tray source writes its own pending register and interrupt registers alone. -/
theorem State.reg_traySet {t i k : Nat} (ht : t < 9) (hk : k ≠ Reg.TRY_IRQ_PEND_L t + i / 32 * 4)
    (hp : ¬(Reg.HVC_PEND 0 ≤ k ∧ k < Reg.HVC_PEND 512)) (b : Bool) : (s.traySet t i b).reg k = s.reg k := by
  have hpend (u : State) (fire : Bool) : (if fire then u.setTrayPend t i true else u).reg k = u.reg k := by
    split
    · exact State.reg_setBit_other _ hk ..
    · rfl
  have hset : (s.setTray t { s.tray t with levels := putBits (s.tray t).levels i 1 (b2n b) }).reg k = s.reg k := rfl
  unfold State.traySet
  dsimp only
  split
  · exact (State.raise_reg _ (by omega) hp).trans ((hpend _ _).trans hset)
  · split
    · exact (State.raise_reg _ (by omega) hp).trans ((hpend _ _).trans hset)
    · exact (hpend _ _).trans hset

/-- A vote loss counts, and writes of the other registers its tray's source and the records' alone. -/
theorem State.reg_voteCounted {t k : Nat} (ht : t < 9) (hk : k ≠ Reg.TRY_IRQ_PEND_L t) (hl : k ≠ Reg.REL_LHEAD)
    (hp : ¬(Reg.HVC_PEND 0 ≤ k ∧ k < Reg.HVC_PEND 512)) :
    ((s.relRecord 1 Code.voteLost 4 0x21 t 0).trayPulse t 6).reg k = s.reg k :=
by
  have hk' : k ≠ Reg.TRY_IRQ_PEND_L t + 6 / 32 * 4 := hk
  unfold State.trayPulse
  rw [State.reg_traySet _ ht hk' hp, State.reg_traySet _ ht hk' hp, State.reg_relRecord hl hp]

theorem State.reg_takeSpare (x t k : Nat) : (s.takeSpare x t).reg k = s.reg k := rfl

theorem State.reg_startRebuild {k : Nat} (hk : k ≠ Reg.ADM_GUARD) (t : Nat) : (s.startRebuild t).reg k = s.reg k := by
  unfold State.startRebuild
  dsimp only
  split
  · rfl
  · rw [State.reg_takeSpare]
    exact State.reg_setBit_other _ hk ..

theorem State.bit_startRebuild {i : Nat} (hi : i ≠ 22) (h32 : i < 32) (t : Nat) (h : s.bit Reg.ADM_GUARD i = true) :
    (s.startRebuild t).bit Reg.ADM_GUARD i = true := by
  unfold State.startRebuild
  dsimp only
  split
  · exact h
  · have hset : (s.setBit Reg.ADM_GUARD 22 true).bit Reg.ADM_GUARD i = s.bit Reg.ADM_GUARD i :=
      State.bit_setFld_apart _ _ _ _ _ _ (by decide) (by omega)
    exact (State.bit_of_reg (State.reg_takeSpare ..) i).trans (hset.trans h)

section Tray
variable {t : Nat} (ht : t < 9)
include ht

/-- ADM_VOTE of a tray is none of the registers that records and sources write. -/
theorem adm_vote_apart : Reg.ADM_VOTE t ≠ Reg.ADM_GUARD ∧
    ¬(Reg.HVC_PEND 0 ≤ Reg.ADM_VOTE t ∧ Reg.ADM_VOTE t < Reg.HVC_PEND 512) ∧
    Reg.ADM_VOTE t ≠ Reg.TRY_IRQ_PEND_L t ∧ Reg.ADM_VOTE t ≠ Reg.REL_LHEAD := by
  simp only [Reg.ADM_VOTE, Reg.ADM_GUARD, Reg.HVC_PEND, Reg.TRY_IRQ_PEND_L, Reg.REL_LHEAD]
  omega

theorem State.reg_loseVote : (s.loseVote t).reg (Reg.ADM_VOTE t) = (s.voteNoted t).reg (Reg.ADM_VOTE t) := by
  obtain ⟨hadm, hpend, -, -⟩ := adm_vote_apart ht
  rw [State.loseVote_eq]
  split
  · rfl
  · rw [State.reg_startRebuild _ hadm, State.raise_reg _ (by decide) hpend, State.reg_setBit_other _ hadm]

/-- A lost vote is counted in ADM_VOTE (R124). -/
theorem State.fld_voteCounted : (s.voteCounted t).fld (Reg.ADM_VOTE t) 16 16 = min 65535 (s.fld (Reg.ADM_VOTE t) 16 16 + 1) := by
  obtain ⟨-, hpend, hsrc, hhead⟩ := adm_vote_apart ht
  have hbefore := State.fld_of_reg (s.reg_voteCounted ht hsrc hhead hpend) 16 16
  rw [State.voteCounted]
  generalize (s.relRecord 1 Code.voteLost 4 0x21 t 0).trayPulse t 6 = v at hbefore ⊢
  have hfld : s.fld (Reg.ADM_VOTE t) 16 16 < 2 ^ 16 := bits_lt ..
  rw [State.incSat, State.fld_setFld_same _ _ _ _ _ (by decide), hbefore, satAdd]
  omega

omit ht in
theorem State.fld_votes (x : Tbl (List Nat)) (k lo n : Nat) : ({ s with votes := x } : State).fld k lo n = s.fld k lo n := rfl

theorem State.fld_loseVote : (s.loseVote t).fld (Reg.ADM_VOTE t) 16 16 = min 65535 (s.fld (Reg.ADM_VOTE t) 16 16 + 1) := by
  rw [State.fld_of_reg (s.reg_loseVote ht), State.voteNoted, State.fld_setFld_apart _ _ _ _ _ _ _ (by decide) (by decide),
    State.fld_votes, s.fld_voteCounted ht]

end Tray

theorem State.recentVotes_third {t a b : Nat} (ha : s.tick < a + 1500000000) (hb : s.tick < b + 1500000000)
    (hvotes : Tbl.get [] s.votes t = [a, b]) : (s.recentVotes t).length = 3 := by
  have htick : (s.voteCounted t).tick = s.tick := State.tick_of_wipe (s.voteCounted_voteLoss t) rfl
  have hold : (s.voteCounted t).votes = s.votes := by
    rw [State.voteCounted, State.incSat_votes, State.trayPulse_votes, State.relRecord_votes]
  rw [State.recentVotes, htick, hold, hvotes]
  simp [ha, hb]

/-- The third lost vote within 1 s marks the tray (R124). -/
theorem State.loseVote_third {t : Nat} (ht : t < 9) (hlen : (s.recentVotes t).length = 3) :
    (s.loseVote t).fld (Reg.ADM_VOTE t) 0 2 = 3 ∧ (s.loseVote t).bit Reg.ADM_GUARD (4 + t) = true := by
  refine ⟨?_, ?_⟩
  · rw [State.fld_of_reg (s.reg_loseVote ht), State.voteNoted, State.fld_setFld_same _ _ _ _ _ (by decide), hlen]
    rfl
  · rw [State.loseVote_eq, hlen]
    by_cases hset : (s.voteNoted t).bit Reg.ADM_GUARD (4 + t) = true
    · rw [if_pos (.inr hset)]
      exact hset
    · rw [if_neg (by simp [hset])]
      refine State.bit_startRebuild _ (by omega) (by omega) t ?_
      rw [State.bit_of_reg (State.raise_reg _ (by decide) (by decide))]
      exact State.bit_setBit_same _ _ _ _ (by omega)

end Lost

/-- A copy that differs from what was agreed on loses its tray the vote, and writes beside it the voter alone (R121). -/
theorem State.lateCopy_differs {s : State} {ttype target slot : Nat} {f : Flight} {k : Kept} (h : f.act ≠ k.fl.act) :
    ∃ v, s.lateCopy ttype target slot f k = (s.setVoter (fifoKey ttype target) v).loseVote (s.votingTray f slot) := by
  unfold State.lateCopy
  extract_lets key ok mark u
  exact ⟨{ s.voter key with kept := (s.voter key).kept.map mark }, if_neg (by simp [ok, h])⟩

/-! ### A failed vote -/

section Fail
variable (s : State) (ttype target q code : Nat) (first : Option Flight)

/-- The cuffs of a target at Apron for a lost vote. -/
def State.votedOff : State := (targetCuffs ttype target).foldl (fun s c => s.toApron c .vote) s

/-- A failed vote, before what waits is judged anew (R122). -/
def State.voteFailed : State :=
  (((s.votedOff ttype target).recall q first).clearVoter ttype target).haltQueue q code

theorem State.failVote_eq : s.failVote ttype target q code first = (s.voteFailed ttype target q code first).judgeAll := rfl

/-- Cuffs that go to Apron together for a lost vote write themselves and their counts of edges alone. -/
theorem State.aprons_spec (l : List Nat) (u : State) :
    (∀ c ∈ l, ((l.foldl (fun s c => s.toApron c .vote) u).cuff c).apVote = true) ∧
    (∀ c, (u.cuff c).apVote = true → ((l.foldl (fun s c => s.toApron c .vote) u).cuff c).apVote = true) ∧
    l.foldl (fun s c => s.toApron c .vote) u = { u with
      regs := (l.foldl (fun s c => s.toApron c .vote) u).regs, cuffs := (l.foldl (fun s c => s.toApron c .vote) u).cuffs } := by
  induction l generalizing u with
  | nil => exact ⟨by simp, fun _ h => h, rfl⟩
  | cons d l ih =>
    obtain ⟨hall, hkeep, hframe⟩ := ih (u.toApron d .vote)
    have hstep (c : Nat) (h : (u.cuff c).apVote = true) : ((u.toApron d .vote).cuff c).apVote = true := by
      by_cases hc : c = d
      · rw [hc]
        exact u.toApron_vote d
      · rw [(u.toApron_only d .vote).cuff c hc]
        exact h
    refine ⟨fun c hc => ?_, fun c h => hkeep c (hstep c h), ?_⟩
    · rcases List.mem_cons.mp hc with rfl | hc
      · exact hkeep c (u.toApron_vote c)
      · exact hall c hc
    · rw [List.foldl_cons, hframe, (u.toApron_only d .vote).frame]

/-- A withdrawal leaves in the wheel what does not meet it. -/
theorem State.withdraw_refs (p : Flight → Bool) : (s.withdraw p).refs = s.refs.filter fun r => !p r.fl := by
  unfold State.withdraw
  dsimp only
  rw [State.refs_of_wipe (State.foldl_wipe 65536 _ (fun t k => t.setVoter_wipe _ _ _ (by decide)) _ _) (by decide),
    State.refs_of_wipe (State.foldl_wipe 1048576 _ (fun t k => t.setFifo_wipe _ _ _ (by decide)) _ _) (by decide),
    State.refs_of_wipe (State.foldl_wipe 8192 _ (fun t k => t.setCuff_wipe _ _ _ (by decide)) _ _) (by decide)]

theorem State.withdraw_cuff (p : Flight → Bool) (c : Nat) : ((s.withdraw p).cuff c).apVote = (s.cuff c).apVote := by
  have hfold (l : List Nat) : ∀ u : State, ((l.foldl (fun (u : State) k =>
      u.setCuff k { u.cuff k with fifo := (u.cuff k).fifo.filter fun f => !p f }) u).cuff c).apVote = (u.cuff c).apVote := by
    induction l with
    | nil => exact fun _ => rfl
    | cons k l ih =>
      intro u
      rw [List.foldl_cons, ih, State.cuff_setCuff]
      split
      · next h => rw [h]
      · rfl
  have hrest : (s.withdraw p).cuffs = ((Tbl.keys s.cuffs).foldl (fun (u : State) k =>
      u.setCuff k { u.cuff k with fifo := (u.cuff k).fifo.filter fun f => !p f })
        { s with refs := s.refs.filter fun r => !p r.fl }).cuffs := by
    unfold State.withdraw
    dsimp only
    rw [State.cuffs_of_wipe (State.foldl_wipe 65536 _ (fun t k => t.setVoter_wipe _ _ _ (by decide)) _ _) (by decide)]
    exact State.cuffs_of_wipe (State.foldl_wipe 1048576 _ (fun t k => t.setFifo_wipe _ _ _ (by decide)) _ _) (by decide)
  rw [State.cuff, hrest]
  exact hfold _ _

/-- The fields that a failed vote may write. -/
abbrev voteFields : Nat := 74493829521874

/-- What a failed vote leaves, before what waits is judged anew (R122). -/
theorem State.voteFailed_spec :
    ((s.voteFailed ttype target q code first).voter (fifoKey ttype target)).slots = [[], [], []] ∧
    (∀ x ∈ ((s.voteFailed ttype target q code first).voter (fifoKey ttype target)).kept, x.passed = true ∧ ∃ c p, x.fl.org = .near c p) ∧
    (∀ c ∈ targetCuffs ttype target, ((s.voteFailed ttype target q code first).cuff c).apVote = true) ∧
    ((s.voteFailed ttype target q code first).queue q).state = QState.stopped ∧
    ((s.voteFailed ttype target q code first).queue q).err = code ∧
    (∀ r ∈ (s.voteFailed ttype target q code first).refs, r.fl.ofQueue q = false) ∧
    (s.voteFailed ttype target q code first).wipe voteFields = s.wipe voteFields := by
  obtain ⟨hall, -, hframe⟩ := State.aprons_spec (targetCuffs ttype target) s
  obtain ⟨v, hv⟩ : ∃ v, v = (s.votedOff ttype target).recall q first := ⟨_, rfl⟩
  obtain ⟨w, hw⟩ : ∃ w, w = v.clearVoter ttype target := ⟨_, rfl⟩
  have hend : s.voteFailed ttype target q code first = w.haltQueue q code := by rw [hw, hv]; rfl
  have hhalt := w.haltQueue_wipe0 q code
  rw [hend]
  have hvoter : (w.haltQueue q code).voter (fifoKey ttype target) = w.voter (fifoKey ttype target) := by
    rw [State.voter, State.voters_of_wipe hhalt rfl]
    rfl
  have hset : w.voter (fifoKey ttype target) = { v.voter (fifoKey ttype target) with
      slots := [[], [], []], kept := (v.voter (fifoKey ttype target)).kept.filter fun k => k.passed && match k.fl.org with
        | .queue _ _ => false
        | .near _ _ => true } := by
    rw [hw]
    exact (State.voter_setVoter ..).trans (if_pos rfl)
  have hwv : w.wipe 65536 = v.wipe 65536 := by rw [hw]; exact State.setVoter_wipe _ _ _ _ (by decide)
  have hcuff (c : Nat) : ((w.haltQueue q code).cuff c).apVote = ((s.votedOff ttype target).cuff c).apVote := by
    have hcuffs : (w.haltQueue q code).cuffs = v.cuffs := (State.cuffs_of_wipe hhalt rfl).trans (State.cuffs_of_wipe hwv rfl)
    rw [State.cuff, hcuffs, hv]
    exact State.withdraw_cuff ..
  refine ⟨by rw [hvoter, hset], fun x hx => ?_, fun c hc => (hcuff c).trans (hall c hc), ?_, ?_, fun r hr => ?_, ?_⟩
  · rw [hvoter, hset] at hx
    obtain ⟨hpassed, horg⟩ := Bool.and_eq_true_iff.mp (List.mem_filter.mp hx).2
    refine ⟨hpassed, ?_⟩
    cases ho : x.fl.org with
    | queue p i => simp [ho] at horg
    | near c p => exact ⟨c, p, rfl⟩
  · rw [State.queue_haltQueue, if_pos rfl]
  · rw [State.queue_haltQueue, if_pos rfl]
  · have hrefs : (w.haltQueue q code).refs = (s.votedOff ttype target).refs.filter fun r => !r.fl.ofQueue q := by
      rw [State.refs_of_wipe hhalt rfl, State.refs_of_wipe hwv rfl, hv]
      exact State.withdraw_refs ..
    rw [hrefs] at hr
    simpa using (List.mem_filter.mp hr).2
  · have hoff : (s.votedOff ttype target).wipe voteFields = s.wipe voteFields := by
      have h : (s.votedOff ttype target).wipe 8208 = s.wipe 8208 := by
        rw [State.votedOff, hframe]
        rfl
      exact State.wipe_mono h (by decide)
    rw [State.wipe_mono hhalt (by decide : 655376 &&& voteFields = 655376), State.wipe_mono hwv (by decide : 65536 &&& voteFields = 65536), hv,
      State.wipe_mono (State.recall_judging ..) (by decide : judging &&& voteFields = judging), hoff]

end Fail

/-! ### The double fault -/

section Double
variable {s : State} {ttype target : Nat} {f : Flight}

/-- A double fault is reported, and what it stops is its queue, or that of its target (R122). -/
theorem State.doubleFault_eq (h : s.dueCopy ttype target = some f) :
    s.doubleFault ttype target =
      let q := match f.org with | .queue q _ => some q | .near _ _ => s.guardedQueue ttype target
      let first := match f.org with | .queue _ _ => some f | .near _ _ => none
      let u := s.relRecord 3 Code.voteLost 5 0x20 (serveCuff ttype target / 32) (q.getD (serveCuff ttype target))
      match q with
      | some q => u.failVote ttype target q Code.voteLost first
      | none => (u.clearVoter ttype target).votedOff ttype target := by
  unfold State.doubleFault
  rw [h]
  rfl

/-- What a copy emitted by a context leaves where its target has no guarded queue (R122). -/
theorem State.clearedOff_spec (u : State) (ttype target : Nat) :
    (((u.clearVoter ttype target).votedOff ttype target).voter (fifoKey ttype target)).slots = [[], [], []] ∧
    (∀ x ∈ (((u.clearVoter ttype target).votedOff ttype target).voter (fifoKey ttype target)).kept,
      x.passed = true ∧ ∃ c p, x.fl.org = .near c p) ∧
    (∀ c ∈ targetCuffs ttype target, (((u.clearVoter ttype target).votedOff ttype target).cuff c).apVote = true) ∧
    ((u.clearVoter ttype target).votedOff ttype target).wipe voteFields = u.wipe voteFields := by
  obtain ⟨hall, -, hframe⟩ := State.aprons_spec (targetCuffs ttype target) (u.clearVoter ttype target)
  have hoff : ((u.clearVoter ttype target).votedOff ttype target).wipe 8208 = (u.clearVoter ttype target).wipe 8208 := by
    rw [State.votedOff, hframe]
    rfl
  have hvoter : ((u.clearVoter ttype target).votedOff ttype target).voter (fifoKey ttype target) =
      { u.voter (fifoKey ttype target) with
        slots := [[], [], []], kept := (u.voter (fifoKey ttype target)).kept.filter fun k => k.passed && match k.fl.org with
          | .queue _ _ => false
          | .near _ _ => true } := by
    rw [State.voter, State.voters_of_wipe hoff rfl]
    exact (State.voter_setVoter ..).trans (if_pos rfl)
  refine ⟨by rw [hvoter], fun x hx => ?_, hall, ?_⟩
  · rw [hvoter] at hx
    obtain ⟨hpassed, horg⟩ := Bool.and_eq_true_iff.mp (List.mem_filter.mp hx).2
    refine ⟨hpassed, ?_⟩
    cases ho : x.fl.org with
    | queue p i => simp [ho] at horg
    | near c p => exact ⟨c, p, rfl⟩
  · rw [State.wipe_mono hoff (by decide : 8208 &&& voteFields = 8208)]
    exact State.setVoter_wipe _ _ _ _ (by decide)

/-- A record keeps what a failed vote keeps. -/
theorem State.relRecord_voteFields (u : State) (sev code kind block inst addr : Nat) :
    (u.relRecord sev code kind block inst addr).wipe voteFields = u.wipe voteFields :=
  State.relRecord_wipe _ _ _ _ _ _ _ _ (by decide)

end Double

/-! ### The lanes -/

/-- The lanes as they are set, and ADM_GUARD.LANES (R123). -/
theorem State.setLanes_spec (s : State) (spare testing : Bool) :
    (s.setLanes spare testing).lanes = { s.lanes with spare := spare, testing := testing } ∧
    (s.setLanes spare testing).fld Reg.ADM_GUARD 23 2 = (if spare then 3 else 2) := by
  refine ⟨rfl, ?_⟩
  rw [State.setLanes, State.fld_setFld_same _ _ _ _ _ (by decide)]
  cases spare <;> rfl

/-- A lane in its self-test returns as the spare, or stays out (R123). -/
theorem State.exec_laneSelfTest {s : State} (h : s.lanes.testing = true) (pass : Bool) : exec (.laneSelfTest pass) s =
    .next (match pass with
      | true => { s with lanes := { s.lanes with spare := true, testing := false } }.setFld Reg.ADM_GUARD 23 2 3
      | false => (s.setLanes false false).relRecord 2 Code.ok 13 0x10 0 0) := by
  have hexec : exec (.laneSelfTest pass) s = .next (if s.lanes.testing = false then s else if pass then s.setLanes true false
    else (s.setLanes false false).relRecord 2 Code.ok 13 0x10 0 0) := rfl
  rw [hexec, if_neg (by simp [h])]
  cases pass
  · rw [if_neg (by decide)]
  · rw [if_pos rfl, State.setLanes, if_pos rfl]

/-- Settles O23: the copies by what the voter holds of their action, the double fault by the origin of its copy. -/
theorem voting : Obligations.Voting := by
  unfold Obligations.Voting
  intro s ttype target hlo hhi hok key v legs stamped judged
  have hunit : (okVoted ttype && okTarget ttype target) = true := by simp [okVoted, hok, hlo, hhi]
  have hlane : (okTtype ttype && okTarget ttype target) = true := by
    simp only [okTtype, hok, Bool.and_true, decide_eq_true_eq]
    omega
  refine ⟨fun hserv slot hslot copy q i f hcopy hnew hkept => ?fresh, fun hserv slot hslot copy c p f hcopy hover hnew => ?closed,
    fun hserv slot hslot copy q i f k hcopy hnew hkept hact hroom => ?late, fun hserv f hdue => ?double,
    fun hserv hdue => ?nothing, fun hserv r hr hg hspare => ?spare, fun hserv r q hr hg hspare hq htt htg => ?slot,
    fun htest => ?test⟩
  case fresh =>
    have hexec := State.exec_voteCopy hlo hhi hok hslot hserv hcopy hnew
    have hover : v.over f = false := by simp only [Voter.over, State.org_of_copyOf hcopy]
    refine ⟨fun hfull => ?_, fun hroom hno => ?_, fun hroom j hj hagree halone => ?_⟩
    · exact hexec.trans (congrArg _ (if_pos (.inl hfull)))
    · have hnone : [0, 1, 2].find? (s.agreesAt ttype target slot f) = none := by
        refine List.find?_eq_none.mpr fun j hj hat => hno j ?_ ((s.agreesAt_iff ..).mp hat)
        simp only [List.mem_cons, List.not_mem_nil, or_false] at hj
        omega
      rw [hexec]
      refine congrArg _ ((s.takeCopy_new ttype target slot f hroom hover hkept).trans ?_)
      rw [hnone]
      rfl
    · have hfind : [0, 1, 2].find? (s.agreesAt ttype target slot f) = some j := by
        have hat : s.agreesAt ttype target slot f j = true := (s.agreesAt_iff ..).mpr hagree
        have hother (x : Nat) (hx : x < 3) (hne : x ≠ j) : s.agreesAt ttype target slot f x = false := by
          refine Bool.eq_false_iff.mpr fun h => ?_
          obtain ⟨hxs, g, hg, hsame, -⟩ := (s.agreesAt_iff ..).mp h
          exact absurd (hsame.symm.trans (halone x hx hxs hne g hg)) (by decide)
        exact find_only hj hat hother
      obtain ⟨t, htake, hw, hslots, hframe⟩ := s.takeCopy_agreed ttype target slot f hroom hover hkept hfind halone
      exact ⟨t, hexec.trans (congrArg _ htake), hw, hslots, hframe⟩
  case closed =>
    refine (State.exec_voteCopy hlo hhi hok hslot hserv hcopy hnew).trans (congrArg _ ?_)
    exact if_pos (.inr hover)
  case late =>
    intro y hy
    have hover : v.over f = false := by simp only [Voter.over, State.org_of_copyOf hcopy]
    have htake : (s.dropSent (.queue q i) ttype target).takeCopy ttype target slot f = s.lateCopy ttype target slot f k := by
      show s.takeCopy ttype target slot f = _
      unfold State.takeCopy
      dsimp only
      rw [if_neg, hkept]
      rintro (h | h)
      · exact absurd hroom (Nat.not_lt.mpr h)
      · exact absurd (hover.symm.trans h) (by decide)
    obtain ⟨w, hlate⟩ := State.lateCopy_differs (s := s) (ttype := ttype) (target := target) (slot := slot) hact
    obtain ⟨u, hu⟩ : ∃ u, u = s.setVoter (fifoKey ttype target) w := ⟨_, rfl⟩
    rw [← hu] at hlate
    have hwipe : (u.loseVote y).wipe voteLoss = u.wipe voteLoss := u.loseVote_voteLoss y
    have htick : u.tick = s.tick := by rw [hu]; rfl
    have hvotes : u.votes = s.votes := by rw [hu]; rfl
    have hcuffs : u.cuffs = s.cuffs := by rw [hu]; rfl
    have hqueues : u.queues = s.queues := by rw [hu]; rfl
    have hfld : u.fld (Reg.ADM_VOTE y) 16 16 = s.fld (Reg.ADM_VOTE y) 16 16 := by rw [hu]; rfl
    refine ⟨u.loseVote y, (State.exec_voteCopy hlo hhi hok hslot hserv hcopy hnew).trans (congrArg _ (htake.trans hlate)), ?_,
      (State.cuffs_of_wipe hwipe rfl).trans hcuffs, (State.queues_of_wipe hwipe rfl).trans hqueues, fun a b ha hb hab => ?_⟩
    · rw [u.fld_loseVote hy, hfld]
    · exact u.loseVote_third hy (u.recentVotes_third (htick ▸ ha) (htick ▸ hb) (hvotes ▸ hab))
  case double =>
    have hexec : exec (.doubleFault ttype target) s = .next (s.doubleFault ttype target) :=
      (onUnit_of hunit _).trans (congrArg _ (if_pos hserv))
    have heq := State.doubleFault_eq hdue
    cases ho : f.org with
    | queue q i =>
      rw [ho] at heq
      obtain ⟨u, hu⟩ : ∃ u, u = s.relRecord 3 Code.voteLost 5 0x20 (serveCuff ttype target / 32) q := ⟨_, rfl⟩
      obtain ⟨hslots, hkept, haprons, hst, herr, hrefs, hwipe⟩ := u.voteFailed_spec ttype target q Code.voteLost (some f)
      have hs : u.wipe voteFields = s.wipe voteFields := by rw [hu]; exact State.relRecord_voteFields ..
      refine ⟨u.voteFailed ttype target q Code.voteLost (some f), hexec.trans (congrArg _ (heq.trans ?_)), hslots, hkept, haprons, ?_,
        State.ctxs_of_wipe (hwipe.trans hs) rfl, State.tb_of_wipe (hwipe.trans hs) rfl⟩
      · simp only [judged, ho, hu]
        exact State.failVote_eq ..
      · intro q' i' hq'
        cases hq'
        exact ⟨hst, herr, hrefs⟩
    | near c p =>
      rw [ho] at heq
      cases hg : s.guardedQueue ttype target with
      | some q =>
        rw [hg] at heq
        obtain ⟨u, hu⟩ : ∃ u, u = s.relRecord 3 Code.voteLost 5 0x20 (serveCuff ttype target / 32) q := ⟨_, rfl⟩
        obtain ⟨hslots, hkept, haprons, -, -, -, hwipe⟩ := u.voteFailed_spec ttype target q Code.voteLost none
        have hs : u.wipe voteFields = s.wipe voteFields := by rw [hu]; exact State.relRecord_voteFields ..
        refine ⟨u.voteFailed ttype target q Code.voteLost none, hexec.trans (congrArg _ (heq.trans ?_)), hslots, hkept, haprons, ?_,
          State.ctxs_of_wipe (hwipe.trans hs) rfl, State.tb_of_wipe (hwipe.trans hs) rfl⟩
        · simp only [judged, ho, hg, hu]
          exact State.failVote_eq ..
        · exact fun q' i' hq' => nomatch hq'
      | none =>
        rw [hg] at heq
        obtain ⟨u, hu⟩ : ∃ u, u = s.relRecord 3 Code.voteLost 5 0x20 (serveCuff ttype target / 32) (serveCuff ttype target) := ⟨_, rfl⟩
        obtain ⟨hslots, hkept, haprons, hwipe⟩ := u.clearedOff_spec ttype target
        have hs : u.wipe voteFields = s.wipe voteFields := by rw [hu]; exact State.relRecord_voteFields ..
        refine ⟨(u.clearVoter ttype target).votedOff ttype target, hexec.trans (congrArg _ (heq.trans ?_)), hslots, hkept, haprons, ?_,
          State.ctxs_of_wipe (hwipe.trans hs) rfl, State.tb_of_wipe (hwipe.trans hs) rfl⟩
        · simp only [judged, ho, hg, hu]
          rfl
        · exact fun q' i' hq' => nomatch hq'
  case nothing =>
    refine (onUnit_of hunit _).trans (congrArg _ ?_)
    rw [if_pos hserv, State.doubleFault, hdue]
  case spare =>
    obtain ⟨hlanes, hfld⟩ := s.setLanes_spec false true
    obtain ⟨n, hmis⟩ : ∃ n, s.laneMismatch ttype target =
        ((s.setLanes false true).relRecord 1 Code.laneSwitch 6 0x10 0 n).raise 0x341A := by
      unfold State.laneMismatch
      rw [hr]
      dsimp only
      rw [if_neg (by simp [hg]), if_pos hspare]
      exact ⟨_, rfl⟩
    have hset : (s.setLanes false true).refs = s.refs ∧ (s.setLanes false true).queues = s.queues ∧
        (s.setLanes false true).cuffs = s.cuffs := by
      simp [State.setLanes]
    generalize s.setLanes false true = u at hlanes hfld hmis hset
    have hwipe : ((u.relRecord 1 Code.laneSwitch 6 0x10 0 n).raise 0x341A).wipe 74491912781842 = u.wipe 74491912781842 := by
      rw [State.raise_wipe _ _ _ (by decide), State.relRecord_wipe0]
    have hreg : ((u.relRecord 1 Code.laneSwitch 6 0x10 0 n).raise 0x341A).reg Reg.ADM_GUARD = u.reg Reg.ADM_GUARD :=
      (State.raise_reg _ (by decide) (by decide)).trans (State.reg_relRecord (by decide) (by decide) ..)
    refine ⟨_, (onUnit_of hlane _).trans (congrArg _ ((if_pos hserv).trans hmis)), (State.lanes_of_wipe hwipe rfl).trans hlanes,
      (State.fld_of_reg hreg ..).trans hfld, State.srcPend_raise .., ?_, ?_, ?_⟩
    · exact (State.refs_of_wipe hwipe rfl).trans hset.1
    · exact (State.queues_of_wipe hwipe rfl).trans hset.2.1
    · exact (State.cuffs_of_wipe hwipe rfl).trans hset.2.2
  case slot =>
    have hmis : s.laneMismatch ttype target =
        (s.failVote ttype target q Code.laneSwitch none).relRecord 3 Code.laneSwitch 6 0x10 0 q := by
      unfold State.laneMismatch
      rw [hr]
      dsimp only
      rw [if_neg (by simp [hg]), if_neg (by simp [hspare]), hq, List.foldl_cons, List.foldl_nil, htt, htg]
    obtain ⟨-, -, haprons, hst, herr, -, -⟩ := s.voteFailed_spec ttype target q Code.laneSwitch none
    refine ⟨s.voteFailed ttype target q Code.laneSwitch none,
      (onUnit_of hlane _).trans (congrArg _ ((if_pos hserv).trans hmis)), hst, herr, haprons⟩
  case test =>
    obtain ⟨hlanes, hfld⟩ := s.setLanes_spec false false
    have hpass := State.exec_laneSelfTest (s := s) htest true
    have hfail := State.exec_laneSelfTest (s := s) htest false
    refine ⟨hpass, _, hfail, ?_, ?_⟩
    · exact (State.lanes_of_wipe (State.relRecord_wipe0 ..) rfl).trans hlanes
    · exact (State.fld_of_reg (State.reg_relRecord (by decide) (by decide) ..) ..).trans hfld

end Sys2Proof.Machine

/-! The queue stage, NOP, and the two levels of the wheel (R80, R84, R87, R90-R92, R94, R101). -/

namespace Sys2Proof.Machine

open Host

/-! ### States that differ in the scheduler's registers alone -/

/-- Of a state the scheduler's flags, its count of late actions and the records and interrupts they raise may differ. -/
structure SchOnly (s t : State) : Prop where
  reg : ∀ r, r ≠ Reg.SCH_STATUS → r ≠ Reg.SCH_LATE_CNT → r ≠ Reg.REL_LHEAD → ¬(Reg.HVC_PEND 0 ≤ r ∧ r < Reg.HVC_PEND 512) →
    t.reg r = s.reg r
  frame : t.wipe 74491912781842 = s.wipe 74491912781842

section Only
variable {s t : State} (h : SchOnly s t)
include h

theorem SchOnly.queues : t.queues = s.queues := State.queues_of_wipe h.frame rfl
theorem SchOnly.refs : t.refs = s.refs := State.refs_of_wipe h.frame rfl
theorem SchOnly.tb : t.tb = s.tb := State.tb_of_wipe h.frame rfl
theorem SchOnly.queue (q : Nat) : t.queue q = s.queue q := by rw [State.queue, State.queue, h.queues]

theorem SchOnly.circle : t.circle = s.circle :=
  congrArg (· + 1) (State.pair_of_reg (h.reg _ (by decide) (by decide) (by decide) (by decide))
    (h.reg _ (by decide) (by decide) (by decide) (by decide)))

theorem SchOnly.ahead (a d : Nat) : t.ahead a d = s.ahead a d := by
  rw [State.ahead, State.ahead, State.plus, State.plus, State.atOrAfter, State.atOrAfter, h.circle, h.tb]

theorem SchOnly.atOrAfter (a b : Nat) : t.atOrAfter a b = s.atOrAfter a b := by rw [State.atOrAfter, State.atOrAfter, h.circle]

theorem SchOnly.outOfOrder (q : Nat) (a : Action) : t.outOfOrder q a = s.outOfOrder q a := by
  simp only [State.outOfOrder, h.queue, h.atOrAfter]

theorem SchOnly.stageOf (a : Nat) : t.stageOf a = s.stageOf a := by
  have hlead : t.dlead = s.dlead := State.fld_of_reg (h.reg _ (by decide) (by decide) (by decide) (by decide)) ..
  simp only [State.stageOf, h.ahead, hlead]

theorem SchOnly.policy (f : Flight) {q i : Nat} (hf : f.org = .queue q i) : t.policy f = s.policy f := by
  simp only [State.policy, hf, h.queue]

theorem SchOnly.stepHead_queue (q a : Nat) : (t.stepHead q a).queue q =
    { s.queue q with head := ((s.queue q).head + 1) % 2 ^ (s.queue q).log2, prevTime := some a } := by
  rw [State.stepHead, State.queue_setQueue, if_pos rfl, h.queue]
  rfl

end Only

theorem SchOnly.trans {s t u : State} (h : SchOnly s t) (g : SchOnly t u) : SchOnly s u :=
  ⟨fun r h1 h2 h3 h4 => (g.reg r h1 h2 h3 h4).trans (h.reg r h1 h2 h3 h4), g.frame.trans h.frame⟩

/-- The flag of exhausted references, cleared where a plain queue's action enters the wheel (R90). -/
def State.roomNoted (s : State) (q : Nat) : State := if (s.queue q).contract.isNone then s.setBit Reg.SCH_STATUS 0 false else s

theorem State.roomNoted_only (s : State) (q : Nat) : SchOnly s (s.roomNoted q) ∧
    (∀ r, r ≠ Reg.SCH_STATUS → (s.roomNoted q).reg r = s.reg r) ∧ s.roomNoted q = { s with regs := (s.roomNoted q).regs } := by
  unfold State.roomNoted
  split
  · exact ⟨⟨fun r hr _ _ _ => State.reg_setBit_other _ hr .., State.setBit_wipe _ _ _ _ _ (by decide)⟩,
      fun r hr => State.reg_setBit_other _ hr .., rfl⟩
  · exact ⟨⟨fun _ _ _ _ _ => rfl, rfl⟩, fun _ _ => rfl, rfl⟩

/-- A late action is counted, and a timed one reported (R94, R95). -/
theorem State.countLate_spec (s : State) (f : Flight) : SchOnly s (s.countLate f) ∧
    (s.countLate f).regN Reg.SCH_LATE_CNT = min (2 ^ 32 - 1) (s.regN Reg.SCH_LATE_CNT + 1) ∧
    (s.isTimed f = true → (s.countLate f).bit Reg.SCH_STATUS 2 = true ∧ (s.countLate f).srcPend 0x3410 = true) := by
  have hinc : SchOnly s (s.incSat Reg.SCH_LATE_CNT 0 32) :=
    ⟨fun r _ hr _ _ => by rw [State.incSat, State.reg_setFld_other _ hr], State.incSat_wipe _ _ _ _ _ (by decide)⟩
  have hcount := State.regN_incSat_whole (s := s) Reg.SCH_LATE_CNT
  have htimed : (s.incSat Reg.SCH_LATE_CNT 0 32).isTimed f = s.isTimed f := by simp only [State.isTimed, hinc.queue]
  unfold State.countLate
  generalize s.incSat Reg.SCH_LATE_CNT 0 32 = u at hinc hcount htimed
  dsimp only
  rw [htimed]
  by_cases ht : s.isTimed f = true
  · rw [if_pos ht]
    have hreg (n : Nat) {r : Nat} (h3 : r ≠ Reg.REL_LHEAD) (h4 : ¬(Reg.HVC_PEND 0 ≤ r ∧ r < Reg.HVC_PEND 512)) :
        (((u.setBit Reg.SCH_STATUS 2 true).relRecord 0 Code.ok 7 0x10 0 n).raise 0x3410).reg r = (u.setBit Reg.SCH_STATUS 2 true).reg r :=
      (State.raise_reg _ (by decide) h4).trans (State.reg_relRecord h3 h4 ..)
    refine ⟨hinc.trans ⟨fun r h1 _ h3 h4 => (hreg _ h3 h4).trans (State.reg_setBit_other _ h1 ..), ?_⟩, ?_, fun _ => ⟨?_, State.srcPend_raise ..⟩⟩
    · rw [State.raise_wipe _ _ _ (by decide), State.relRecord_wipe0, State.setBit_wipe _ _ _ _ _ (by decide)]
    · rw [← hcount]
      exact State.regN_of_reg ((hreg _ (by decide) (by decide)).trans (State.reg_setBit_other _ (by decide) ..))
    · exact (State.bit_of_reg (hreg _ (by decide) (by decide)) _).trans (State.bit_setBit_same _ _ _ _ (by decide))
  · rw [if_neg ht]
    exact ⟨hinc, hcount, fun h => absurd h ht⟩

/-! ### What the queue stage makes of the action at HEAD -/

section Stage
variable {s u : State} {q : Nat} {a : Action}

/-- The action of a queue that runs is read and judged (R90, R101). -/
theorem State.exec_queueStage (hq : q < 2 ^ 20) (hserv : s.service = true) (hrun : (s.queue q).state = QState.run)
    (htt : (s.queue q).ttype ≠ 0) (hfill : (s.queue q).filled ≠ 0) : exec (.queueStageMove q) s =
      .next (if s.descBad q then (s.unarrive q).descFault q else match s.readEntry q (s.queue q).head with
        | .bad c u => u.entryFault q (s.queue q).head c
        | .ok a u => u.moveEntry q a) := by
  refine (onUnit_of (by simpa [okQueue] using hq) _).trans (congrArg _ ?_)
  unfold State.stageMove
  refine if_neg ?_
  rintro (h | h | h | h)
  · exact absurd (hserv.symm.trans h) (by decide)
  · exact h hrun
  · exact htt h
  · exact hfill h

/-- The action at HEAD that was read goes on to the queue stage (R90). -/
theorem State.exec_queueStage_read (hq : q < 2 ^ 20) (hserv : s.service = true) (hrun : (s.queue q).state = QState.run)
    (htt : (s.queue q).ttype ≠ 0) (hfill : (s.queue q).filled ≠ 0) (hdesc : s.descBad q = false)
    (hread : s.readEntry q (s.queue q).head = .ok a u) : exec (.queueStageMove q) s = .next (u.moveEntry q a) := by
  rw [State.exec_queueStage hq hserv hrun htt hfill, hdesc, if_neg (by decide), hread]

/-- A queue's credits, by the size of its ring (R90). -/
theorem Queue.credits_eq (d : Queue) : d.credits = min 64 (2 ^ d.log2 - 1) := rfl

/-- The action at HEAD does not fit its queue: HEAD steps past it (R87). -/
theorem State.moveEntry_refused (h : u.entryOk q a = false) : u.moveEntry q a =
    if a.log then (u.stepHead q a.time).execRecord a (.queue q (u.queue q).head) Code.rejectClass (u.stepHead q a.time).tb.now
    else u.stepHead q a.time := by
  unfold State.moveEntry
  dsimp only
  rw [if_pos h]
  rfl

/-- The action stays at HEAD: it is a SEAM, comes too early, the queue's credits are used, or an earlier one is still past the
queue stage (R90, R97). -/
theorem State.moveEntry_stays (hok : u.entryOk q a = true) (h : a.op = 0x0A ∨ u.ahead a.time 268435456 = true ∨
    (u.queue q).credits ≤ (u.inFlight q).length ∨ (u.outOfOrder q a = true ∧ u.inFlight q ≠ [])) : u.moveEntry q a = u := by
  unfold State.moveEntry
  dsimp only
  rw [if_neg (by simp [hok])]
  by_cases hseam : a.op = 0x0A
  · rw [if_pos hseam]
  rw [if_neg hseam]
  by_cases hearly : u.ahead a.time 268435456 = true ∨ (u.queue q).credits ≤ (u.inFlight q).length
  · rw [if_pos hearly]
  rw [if_neg hearly, if_pos]
  rcases h with h | h | h | h
  · exact absurd h hseam
  · exact absurd (.inl h) hearly
  · exact absurd (.inr h) hearly
  · exact h

/-- What the queue stage does with an action that it moves, or would where references are left. -/
theorem State.moveEntry_goes (hok : u.entryOk q a = true) (hop : a.op ≠ 0x0A) (hahead : u.ahead a.time 268435456 = false)
    (hcred : (u.inFlight q).length < (u.queue q).credits) (horder : ¬(u.outOfOrder q a = true ∧ u.inFlight q ≠ [])) :
    u.moveEntry q a =
      if (u.queue q).contract.isNone ∧ u.wheelFull = true then
        if u.bit Reg.SCH_STATUS 0 then u else (u.setBit Reg.SCH_STATUS 0 true).raise 0x3411
      else
        let v := u.roomNoted q
        let late := decide (a.op ≠ 0x00) && (!v.ahead a.time 768 || v.outOfOrder q a)
        if late = false then
          { v.stepHead q a.time with refs := v.refs ++ [{ fl := u.headFlight q a, stage := v.stageOf a.time }] }
        else
          let w := v.countLate (u.headFlight q a)
          if w.policy (u.headFlight q a) = 2 then
            (w.stepHead q a.time).execRecord a (.queue q (u.queue q).head) Code.lateDropped (w.stepHead q a.time).tb.now
          else if w.policy (u.headFlight q a) = 3 then
            ((w.execRecord a (.queue q (u.queue q).head) Code.queueLate w.tb.now).stopQueue q Code.queueLate).faultRecord
              (u.queue q).tenant Code.queueLate FSrc.queue q (u.queue q).head
          else
            { w.stepHead q a.time with refs := w.refs ++ [{ fl := { u.headFlight q a with late := true }, stage := .ready }] } := by
  unfold State.moveEntry
  dsimp only
  rw [if_neg (by simp [hok]), if_neg hop, if_neg (by simp only [hahead, Bool.false_eq_true, false_or]; omega), if_neg horder]
  rfl

end Stage

/-- Where the references are exhausted the flag stands, and nothing has moved (R90). -/
theorem State.wheelFull_marks (u : State) :
    (if u.bit Reg.SCH_STATUS 0 then u else (u.setBit Reg.SCH_STATUS 0 true).raise 0x3411).bit Reg.SCH_STATUS 0 = true ∧
    (if u.bit Reg.SCH_STATUS 0 then u else (u.setBit Reg.SCH_STATUS 0 true).raise 0x3411).queues = u.queues ∧
    (if u.bit Reg.SCH_STATUS 0 then u else (u.setBit Reg.SCH_STATUS 0 true).raise 0x3411).refs = u.refs := by
  by_cases h : u.bit Reg.SCH_STATUS 0 = true
  · rw [if_pos h]
    exact ⟨h, rfl, rfl⟩
  · rw [if_neg h]
    have hwipe : ((u.setBit Reg.SCH_STATUS 0 true).raise 0x3411).wipe 4123168604178 = u.wipe 4123168604178 := by
      rw [State.raise_wipe _ _ _ (by decide), State.setBit_wipe _ _ _ _ _ (by decide)]
    exact ⟨(State.bit_of_reg (State.raise_reg _ (by decide) (by decide)) 0).trans (State.bit_setBit_same _ _ _ _ (by decide)),
      State.queues_of_wipe hwipe rfl, State.refs_of_wipe hwipe rfl⟩

/-- What finding the action at HEAD late leaves (R90, R94): the count, and for a timed queue the report. -/
theorem State.lateNoted_spec (u : State) (q : Nat) (a : Action) :
    SchOnly u ((u.roomNoted q).countLate (u.headFlight q a)) ∧
    ((u.roomNoted q).countLate (u.headFlight q a)).regN Reg.SCH_LATE_CNT = min (2 ^ 32 - 1) (u.regN Reg.SCH_LATE_CNT + 1) ∧
    ((u.queue q).cls = 1 → ((u.roomNoted q).countLate (u.headFlight q a)).bit Reg.SCH_STATUS 2 = true ∧
      ((u.roomNoted q).countLate (u.headFlight q a)).srcPend 0x3410 = true) := by
  obtain ⟨hroom, hreg, -⟩ := u.roomNoted_only q
  obtain ⟨honly, hcount, htimed⟩ := (u.roomNoted q).countLate_spec (u.headFlight q a)
  refine ⟨hroom.trans honly, ?_, fun hcls => htimed ?_⟩
  · rw [hcount, State.regN_of_reg (hreg _ (by decide))]
  · show decide (((u.roomNoted q).queue q).cls = 1) = true
    rw [hroom.queue, hcls]
    rfl

/-! ### Faults at HEAD -/

/-- An entry that cannot be read stops its queue at it (R101). -/
theorem State.entryFault_spec (u : State) (q i c : Nat) :
    (∀ p, (u.entryFault q i c).queue p = if p = q then { u.queue q with state := QState.stopped, err := c } else u.queue p) ∧
    (u.entryFault q i c).refs = u.refs := by
  have hfault (v : State) (n : Nat) : (v.faultRecord n c FSrc.queue q i).wipe 4123168604178 = v.wipe 4123168604178 :=
    State.faultRecord_wipe _ _ _ _ _ _ _ (by decide)
  refine ⟨fun p => ?_, ?_⟩
  · rw [← u.queue_haltQueue q c p, State.queue, State.queue, State.entryFault, State.queues_of_wipe (hfault _ _) rfl]
  · rw [State.entryFault, State.refs_of_wipe (hfault _ _) rfl]
    exact State.refs_of_wipe (u.haltQueue_wipe0 q c) rfl

/-- An uncorrectable error in its descriptor stops a queue (R101, R129). -/
theorem State.descFault_spec (u : State) (q : Nat) :
    (∀ p, ((u.unarrive q).descFault q).queue p = if p = q then { u.queue q with state := QState.stopped, err := 0x0F } else u.queue p) ∧
    ((u.unarrive q).descFault q).bit (Reg.PG_ERR 9) 16 = true ∧ ((u.unarrive q).descFault q).refs = u.refs := by
  obtain ⟨v, hv⟩ : ∃ v, v = u.haltQueue q 0x0F := ⟨_, rfl⟩
  have hdesc : (u.unarrive q).descFault q = ((v.pgErr 9 16).dataEcc).raise 0x3413 := by rw [hv]; rfl
  have hwipe : (((v.pgErr 9 16).dataEcc).raise 0x3413).wipe 4123168604178 = v.wipe 4123168604178 := by
    rw [State.raise_wipe _ _ _ (by decide), State.dataEcc_wipe _ _ (by decide), State.pgErr_wipe _ _ _ _ (by decide)]
  have hreg : (((v.pgErr 9 16).dataEcc).raise 0x3413).reg (Reg.PG_ERR 9) = (v.pgErr 9 16).reg (Reg.PG_ERR 9) :=
    (State.raise_reg _ (by decide) (by decide)).trans (State.reg_setBit_other _ (by decide) ..)
  rw [hdesc]
  refine ⟨fun p => ?_, (State.bit_of_reg hreg 16).trans (v.bit_pgErr_same 9 (by decide)), ?_⟩
  · rw [← u.queue_haltQueue q 0x0F p, State.queue, State.queue, State.queues_of_wipe hwipe rfl, hv]
  · rw [State.refs_of_wipe hwipe rfl, hv]
    exact State.refs_of_wipe (u.haltQueue_wipe0 q 0x0F) rfl

/-! ### Transfers -/

section Transfer
variable (s : State)

theorem State.insertRef_perm (r : WheelRef) (l : List WheelRef) : (s.insertRef r l).Perm (r :: l) := by
  induction l with
  | nil => exact .refl _
  | cons x l ih =>
    rw [State.insertRef]
    split
    · exact .refl _
    · exact ((List.Perm.cons x ih).trans (List.Perm.swap r x l))

/-- The order of a transfer moves no reference in or out (R92). -/
theorem State.insertRefs_perm (l : List WheelRef) : ∀ acc, (l.foldl (fun l r => s.insertRef r l) acc).Perm (l ++ acc) := by
  induction l with
  | nil => exact fun _ => .refl _
  | cons r l ih =>
    exact fun acc => (ih _).trans (((s.insertRef_perm r acc).append_left l).trans List.perm_middle)

/-- Of two actions the one with the earlier TIME goes first (R92). -/
theorem State.insertRefs_two {x y : WheelRef} (hne : x.fl.act.time ≠ y.fl.act.time)
    (hlater : s.atOrAfter y.fl.act.time x.fl.act.time = false) : [x, y].foldl (fun l r => s.insertRef r l) [] = [y, x] := by
  have hbefore : s.refBefore y x = true := by
    simp only [State.refBefore]
    rw [if_pos (Ne.symm hne), hlater]
    rfl
  simp [State.insertRef, hbefore]

end Transfer

section Wheel
variable {s : State} {slot : Nat}

/-- The move of an L1 slot (R91). -/
theorem State.exec_wheelL1Move (hslot : slot < 1024) (hserv : s.service = true) : exec (.wheelL1Move slot) s = .next (s.l1Move slot) :=
  (onUnit_of (by simpa [okSlot] using hslot) _).trans (congrArg _ (if_pos hserv))

/-- The transfer of an L0 slot (R92). -/
theorem State.exec_slotTransfer (hslot : slot < 1024) (hserv : s.service = true) (bad : Option Nat) :
    exec (.slotTransfer slot bad) s = .next (s.transfer slot bad) :=
  (onUnit_of (by simpa [okSlot] using hslot) _).trans (congrArg _ (if_pos hserv))

/-- A transfer whose one reference has a parity error: only a guarded action's is kept (R92, R101). -/
theorem State.transfer_bad {r : WheelRef} (h : s.refs.filter (s.slotRefs slot) = [r]) :
    (s.transfer slot (some 0)).refs = (s.refs.filter fun r => !s.slotRefs slot r) ++
      (if s.isGuarded r.fl then [{ r with stage := .ready }] else []) ∧
    (s.transfer slot (some 0)).bit (Reg.PG_ERR 8) 16 = true := by
  have heq : ∃ n, s.transfer slot (some 0) = ({ s with refs := (s.refs.filter fun r => !s.slotRefs slot r) ++
      (if s.isGuarded r.fl then [{ r with stage := .ready }] else []) }.pgErr 8 16).relRecord 2 Code.ok 3 0x10 0 n := by
    unfold State.transfer
    rw [h]
    exact ⟨_, rfl⟩
  obtain ⟨n, heq⟩ := heq
  rw [heq]
  refine ⟨?_, ?_⟩
  · rw [State.refs_of_wipe (State.relRecord_wipe0 ..) rfl]
    exact State.pgErr_refs ..
  · exact (State.bit_of_reg (State.reg_relRecord (by decide) (by decide) ..) 16).trans (State.bit_pgErr_same _ 8 (by decide))

end Wheel

/-- Settles O19: the action at HEAD by the cases of R87, R90 and R94, the wheel by the order of its insertions. -/
theorem queueStageAndWheel : Obligations.QueueStageAndWheel := by
  unfold Obligations.QueueStageAndWheel
  intro s q a u hq hserv x size i past org ran fits lead stays plain early order room goes late policy fl stage counted
  refine ⟨fun hran c hbad => ?unread, fun hrun htt hfill hdesc => ?desc, fun hran hread => ?read, fun r hr => ?nop,
    fun hno => ?noNop, fun slot hslot => ?l1, fun slot hslot => ?transfer⟩
  case unread =>
    obtain ⟨hrun, htt, hfill, hdesc⟩ := hran
    have hexec := State.exec_queueStage hq hserv hrun htt hfill
    rw [hdesc, hbad] at hexec
    obtain ⟨hqueue, hrefs⟩ := u.entryFault_spec q i c
    have hwipe := State.readEntry_bad_wipe hbad
    have hx : u.queue q = x := by rw [State.queue, State.queues_of_wipe hwipe rfl]; rfl
    have hat := (hqueue q).trans (if_pos rfl)
    refine ⟨u.entryFault q i c, hexec, by rw [hat], by rw [hat], by rw [hat, hx], hrefs.trans (State.refs_of_wipe hwipe rfl)⟩
  case desc =>
    have hexec := (State.exec_queueStage hq hserv hrun htt hfill).trans (congrArg _ (if_pos hdesc))
    obtain ⟨hqueue, herr, hrefs⟩ := s.descFault_spec q
    have hat := (hqueue q).trans (if_pos rfl)
    exact ⟨(s.unarrive q).descFault q, hexec, by rw [hat], by rw [hat], by rw [hat], herr, hrefs⟩
  case read =>
    obtain ⟨hrun, htt, hfill, hdesc⟩ := hran
    have hexec := State.exec_queueStage_read hq hserv hrun htt hfill hdesc hread
    have hx : u.queue q = x := State.queue_of_readEntry hread q
    have hok : u.entryOk q a = true ↔ fits := by
      have h := u.entryOk_iff q a
      rw [hx] at h
      exact h
    have hcred : (u.queue q).credits = min 64 (size - 1) := by rw [hx, Queue.credits_eq]
    have hstep (v : State) (hv : SchOnly u v) : (v.stepHead q a.time).queue q = past := by
      rw [hv.stepHead_queue, hx]
    have hfl : u.headFlight q a = fl := by
      rw [State.headFlight, hx]
    have hahead (n : Nat) : u.ahead a.time n = true ↔ lead n := Iff.rfl
    have hplain : (u.queue q).contract.isNone = true ↔ plain := by rw [hx]; exact Option.isNone_iff_eq_none
    have hfull : u.wheelFull = true ↔ ¬u.plainRefs < 1048576 - u.reservedRefs := by
      simp only [State.wheelFull, decide_eq_true_eq, not_lt]
    have hgo (hg : fits ∧ a.op ≠ 0x0A ∧ early ∧ ¬(order ∧ u.inFlight q ≠ [])) :=
      State.moveEntry_goes (u := u) (q := q) (hok.mpr hg.1) hg.2.1 (Bool.eq_false_iff.mpr hg.2.2.1.1) (hcred ▸ hg.2.2.1.2) hg.2.2.2
    have hroomy (hr : room) : ¬((u.queue q).contract.isNone = true ∧ u.wheelFull = true) :=
      fun h => hfull.mp h.2 (hr (hplain.mp h.1))
    have hearly : ¬early ↔ u.ahead a.time 268435456 = true ∨ (u.queue q).credits ≤ (u.inFlight q).length := by
      rw [hcred]
      simp only [early, not_and_or, not_not, Nat.not_lt]
      exact Iff.rfl
    obtain ⟨hv, hvreg, hvframe⟩ := u.roomNoted_only q
    obtain ⟨hw, hcount, htimed⟩ := u.lateNoted_spec q a
    rw [hx] at htimed
    have hlate : (decide (a.op ≠ 0x00) && (!(u.roomNoted q).ahead a.time 768 || (u.roomNoted q).outOfOrder q a)) = true ↔ late := by
      rw [hv.ahead, hv.outOfOrder]
      simp only [Bool.and_eq_true, decide_eq_true_eq, Bool.or_eq_true, Bool.not_eq_true', Bool.eq_false_iff]
      exact Iff.rfl
    have hpolicy : ((u.roomNoted q).countLate (u.headFlight q a)).policy (u.headFlight q a) = policy := by
      rw [hw.policy _ rfl]
      show (if a.late % 4 ≠ 0 then a.late % 4 else (u.queue q).late) = _
      rw [hx]
    have hdrops (hg : goes) (hl : late) : u.moveEntry q a =
        let w := (u.roomNoted q).countLate (u.headFlight q a)
        if policy = 2 then (w.stepHead q a.time).execRecord a org Code.lateDropped w.tb.now
        else if policy = 3 then
          ((w.execRecord a org Code.queueLate w.tb.now).stopQueue q Code.queueLate).faultRecord x.tenant Code.queueLate FSrc.queue q i
        else { w.stepHead q a.time with refs := w.refs ++ [{ fl := { u.headFlight q a with late := true }, stage := .ready }] } := by
      obtain ⟨hf, ho, he, hor, hr⟩ := hg
      rw [hgo ⟨hf, ho, he, hor⟩, if_neg (hroomy hr)]
      dsimp only
      rw [if_neg (by rw [hlate.mpr hl]; decide), hpolicy, hx]
      rfl
    have hlateCounted (t : State) (ht : t.regs = ((u.roomNoted q).countLate (u.headFlight q a)).regs) : counted t :=
      ⟨(State.regN_of_reg (State.reg_of_regs ht _)).trans hcount, fun hc =>
        ⟨(State.bit_of_reg (State.reg_of_regs ht _) _).trans (htimed hc).1, (State.bit_of_reg (State.reg_of_regs ht _) _).trans (htimed hc).2⟩⟩
    refine ⟨fun hno => ?_, fun hf hop => ?_, fun hf hop he => ?_, fun hf hop he ho hfly => ?_, fun hf hop he ho hr => ?_,
      fun hg hl => ?_, fun hg hl h2 h3 => ?_, fun hg hl h2 => ?_, fun hg hl h3 => ?_⟩
    · have hset : u.stepHead q a.time = u.setQueue q past := by rw [State.stepHead, hx]; rfl
      rw [hexec, State.moveEntry_refused (Bool.eq_false_iff.mpr fun h => hno (hok.mp h)), hset, hx]
      rfl
    · exact hexec.trans (congrArg _ (State.moveEntry_stays (hok.mpr hf) (.inl hop)))
    · refine hexec.trans (congrArg _ (State.moveEntry_stays (hok.mpr hf) ?_))
      rcases hearly.mp he with h | h
      · exact .inr (.inl h)
      · exact .inr (.inr (.inl h))
    · exact hexec.trans (congrArg _ (State.moveEntry_stays (hok.mpr hf) (.inr (.inr (.inr ⟨ho, hfly⟩)))))
    · obtain ⟨hp, hn⟩ := Classical.not_imp.mp hr
      obtain ⟨hbit, hqueues, hrefs⟩ := u.wheelFull_marks
      refine ⟨_, hexec.trans (congrArg _ ((hgo ⟨hf, hop, he, ho⟩).trans (if_pos ⟨hplain.mpr hp, hfull.mpr hn⟩))), hbit, hqueues, hrefs⟩
    · obtain ⟨hf, ho, he, hor, hr⟩ := hg
      have hnl : ((decide (a.op ≠ 0x00) && (!(u.roomNoted q).ahead a.time 768 || (u.roomNoted q).outOfOrder q a)) = false) :=
        Bool.eq_false_iff.mpr fun h => hl (hlate.mp h)
      refine ⟨_, hexec.trans (congrArg _ (((hgo ⟨hf, ho, he, hor⟩).trans (if_neg (hroomy hr))).trans (if_pos hnl))), hstep _ hv, ?_,
        fun q' hq' => ?_, fun r hr' => hvreg r hr', ?_⟩
      · show (u.roomNoted q).refs ++ _ = _
        rw [hv.refs, hv.stageOf, hfl]
        rfl
      · show ((u.roomNoted q).stepHead q a.time).queue q' = _
        rw [State.stepHead, State.queue_setQueue, if_neg hq', hv.queue]
      · rw [hvframe]
        rfl
    · refine ⟨_, hexec.trans (congrArg _ ((hdrops hg hl).trans ((if_neg h2).trans (if_neg h3)))), hlateCounted _ rfl, hstep _ hw, ?_⟩
      show ((u.roomNoted q).countLate (u.headFlight q a)).refs ++ _ = _
      rw [hw.refs, hfl]
    · refine ⟨((u.roomNoted q).countLate (u.headFlight q a)).stepHead q a.time, ?_, hlateCounted _ rfl, hstep _ hw, hw.refs⟩
      refine hexec.trans (congrArg _ ((hdrops hg hl).trans ((if_pos h2).trans ?_)))
      rw [hw.tb]
    · refine ⟨(u.roomNoted q).countLate (u.headFlight q a), ?_, hlateCounted _ rfl, hw.queues, hw.refs⟩
      refine hexec.trans (congrArg _ ((hdrops hg hl).trans ((if_neg (by omega)).trans ((if_pos h3).trans ?_))))
      rw [hw.tb]
  case nop =>
    have hexec : exec (.nop q) s = .next (if s.service ∧ s.reached r.fl.act.time then
        ({ s with refs := s.refs.erase r }).logExec r.fl.act r.fl.org Code.ok
          (if s.minus s.tb.now r.fl.act.time ≤ 16 then r.fl.act.time else s.tb.now)
        else s) := by
      refine (onUnit_of (by simpa [okQueue] using hq) _).trans (congrArg _ ?_)
      rw [State.retireNop, State.nopRef, hr]
    refine ⟨fun hreach => ?_, fun hreach => ?_⟩
    · rw [hexec, if_pos ⟨hserv, hreach⟩]
    · rw [hexec, if_neg (by simp [hreach])]
  case noNop =>
    refine (onUnit_of (by simpa [okQueue] using hq) _).trans (congrArg _ ?_)
    have hnone : s.nopRef q = none := by
      refine List.find?_eq_none.mpr fun r hr h => ?_
      obtain ⟨hof, hop⟩ := Bool.and_eq_true_iff.mp h
      exact hno r hr hof (of_decide_eq_true hop)
    rw [State.retireNop, hnone]
  case l1 =>
    refine ⟨s.l1Move slot, State.exec_wheelL1Move hslot hserv, rfl, ?_, fun n r hr => ⟨fun ho => ?_, fun ho => ?_⟩⟩
    · rw [State.l1Move, List.map_map]
      refine List.map_congr_left fun r _ => ?_
      simp only [Function.comp]
      split <;> rfl
    · rw [State.l1Move, List.getElem?_map, hr]
      exact congrArg some (if_pos ho)
    · rw [State.l1Move, List.getElem?_map, hr]
      exact congrArg some (if_neg ho)
  case transfer =>
    have hexec := State.exec_slotTransfer hslot hserv (s := s)
    refine ⟨⟨s.transfer slot none, _, hexec none, rfl, rfl, ?_⟩, fun x y hxy hne hlater => ⟨_, hexec none, ?_⟩, fun r hr hg => ?_,
      fun r hr hg => ?_⟩
    · refine List.Perm.map _ ((s.insertRefs_perm _ []).trans ?_)
      rw [List.append_nil]
      exact .refl _
    · have htwo := s.insertRefs_two hne hlater
      rw [← hxy] at htwo
      show _ ++ List.map _ _ = _
      exact congrArg (_ ++ ·) (congrArg (List.map _) htwo)
    · obtain ⟨hrefs, herr⟩ := State.transfer_bad hr
      rw [hg] at hrefs
      exact ⟨_, hexec (some 0), hrefs.trans (List.append_nil _), herr⟩
    · obtain ⟨hrefs, herr⟩ := State.transfer_bad hr
      rw [hg] at hrefs
      exact ⟨_, hexec (some 0), hrefs, herr⟩

end Sys2Proof.Machine

/-! Doorbells and the new HEAD of a log queue (R85, R86, R88, R105, R257, R317). -/

namespace Sys2Proof.Machine

open Host

/-! ### A refused doorbell -/

/-- The completion-ring form of a fault record (R257). -/
def faultCpl (status source object detail : Nat) : Cpl :=
  { status := status, kind := 1, user := source % 256, res0 := object, res1 := detail }

/-- The status, the kind, the user word and RESULT0 of a record (R254). -/
theorem recordValue_fields (r : Cpl) (phase time : Nat) :
    bits (recordValue r phase time) 96 32 = r.res0 % 2 ^ 32 ∧ bits (recordValue r phase time) 32 32 = r.user % 2 ^ 32 ∧
    bits (bits (recordValue r phase time) 0 32) 16 8 = r.status % 256 ∧
    bits (bits (recordValue r phase time) 0 32) 25 2 = r.kind % 4 := by
  have hseq : r.seq % 2 ^ 16 < 2 ^ 16 := Nat.mod_lt _ (by decide)
  have hstatus : r.status % 256 < 256 := Nat.mod_lt _ (by decide)
  have hphase : phase % 2 < 2 := Nat.mod_lt _ (by decide)
  have hkind : r.kind % 4 < 4 := Nat.mod_lt _ (by decide)
  have huser : r.user % 2 ^ 32 < 2 ^ 32 := Nat.mod_lt _ (by decide)
  have htag : r.tag % 4096 < 4096 := Nat.mod_lt _ (by decide)
  have hop : r.opcode % 256 < 256 := Nat.mod_lt _ (by decide)
  have horig : r.orig % 256 < 256 := Nat.mod_lt _ (by decide)
  have hres : r.res0 % 2 ^ 32 < 2 ^ 32 := Nat.mod_lt _ (by decide)
  simp only [recordValue, bits]
  generalize r.seq % 2 ^ 16 = a at *
  generalize r.status % 256 = b at *
  generalize phase % 2 = p at *
  generalize r.kind % 4 = c at *
  generalize r.user % 2 ^ 32 = d at *
  generalize r.tag % 4096 = e at *
  generalize r.opcode % 256 = f at *
  generalize r.orig % 256 = g at *
  generalize r.res0 % 2 ^ 32 = h at *
  generalize r.res1 % 2 ^ 64 = k
  generalize time % 2 ^ 60 = m
  refine ⟨?_, ?_, ?_, ?_⟩ <;> omega

section Refused
variable (u : State) {fn q idx code : Nat}

/-- Each word of the fault window's entry holds its part of the record (R257). -/
theorem State.word_faultRecord (hfn : fn < 512) (status source object detail : Nat) {i : Nat} (hi : i < 8) :
    (u.faultRecord fn status source object detail).regN (Reg.TEN_FAULT fn (8 * u.fld (Reg.TEN_FAULT_IDX fn) 0 6 + i)) =
      bits (recordValue (faultCpl status source object detail) (u.fld (Reg.TEN_CPL_TAIL fn) 16 1) u.tb.now) (32 * i) 32 := by
  have hslot : u.fld (Reg.TEN_FAULT_IDX fn) 0 6 < 64 := bits_lt ..
  generalize hs : u.fld (Reg.TEN_FAULT_IDX fn) 0 6 = slot at hslot
  have hreg := (State.faultKept_noteFault (u.setFault fn slot (recordValue (faultCpl status source object detail)
    (u.fld (Reg.TEN_CPL_TAIL fn) 16 1) u.tb.now)) hfn slot (faultCpl status source object detail)).reg (Reg.TEN_FAULT fn (8 * slot + i))
    (by simp only [Reg.TEN_FAULT, Reg.TEN_FAULT_IDX, Reg.TEN_CPL_TAIL, Reg.TEN_RING_STAT, List.mem_cons, List.not_mem_nil, or_false]
        omega)
    (by simp only [Reg.HVC_PEND, Reg.TEN_FAULT]; omega)
  rw [State.faultRecord_eq, hs]
  exact (State.regN_of_reg hreg).trans (u.regN_setFault slot _ hi)

/-- A fault record keeps the doorbell's registers (R257). -/
theorem State.reg_faultRecord_other (hfn : fn < 512) (status source object detail : Nat) {k : Nat}
    (hk : k = Reg.TEN_QDB_STAT fn ∨ k = Reg.TEN_QDB_IDX fn) : (u.faultRecord fn status source object detail).reg k = u.reg k := by
  rw [State.faultRecord_eq]
  refine ((State.faultKept_noteFault _ hfn _ _).reg k ?_ ?_).trans (State.reg_setFault_other _ ?_ _ _)
  · simp only [Reg.TEN_FAULT_IDX, Reg.TEN_CPL_TAIL, Reg.TEN_RING_STAT, Reg.TEN_QDB_STAT, Reg.TEN_QDB_IDX] at hk ⊢
    simp only [List.mem_cons, List.not_mem_nil, or_false]
    omega
  · simp only [Reg.HVC_PEND, Reg.TEN_QDB_STAT, Reg.TEN_QDB_IDX] at hk ⊢
    omega
  · intro i
    simp only [Reg.TEN_FAULT, Reg.TEN_QDB_STAT, Reg.TEN_QDB_IDX] at hk ⊢
    omega

/-- The state with the refused doorbell in TEN_QDB_STAT and TEN_QDB_IDX. -/
def State.refusalNoted (fn q idx code : Nat) : State :=
  ((u.setN (Reg.TEN_QDB_STAT fn) (code % 256 + q % 2 ^ 20 * 2 ^ 8)).setFld (Reg.TEN_QDB_IDX fn) 0 16 idx).incWrap (Reg.TEN_QDB_IDX fn) 16 16

theorem State.refuseDb_eq : u.refuseDb fn q idx code = (u.refusalNoted fn q idx code).faultRecord fn code FSrc.doorbell q idx := rfl

theorem State.refusalNoted_spec (hq : q < 2 ^ 20) (hidx : idx < 2 ^ 16) (hcode : code < 256) :
    (u.refusalNoted fn q idx code).regN (Reg.TEN_QDB_STAT fn) = code + q * 2 ^ 8 ∧
    (u.refusalNoted fn q idx code).fld (Reg.TEN_QDB_IDX fn) 0 16 = idx ∧
    (u.refusalNoted fn q idx code).fld (Reg.TEN_QDB_IDX fn) 16 16 = (u.fld (Reg.TEN_QDB_IDX fn) 16 16 + 1) % 2 ^ 16 ∧
    (∀ k, k ≠ Reg.TEN_QDB_STAT fn → k ≠ Reg.TEN_QDB_IDX fn → (u.refusalNoted fn q idx code).reg k = u.reg k) := by
  have hne : Reg.TEN_QDB_STAT fn ≠ Reg.TEN_QDB_IDX fn := by simp only [Reg.TEN_QDB_STAT, Reg.TEN_QDB_IDX]; omega
  have hsame : (u.setN (Reg.TEN_QDB_STAT fn) (code % 256 + q % 2 ^ 20 * 2 ^ 8)).fld (Reg.TEN_QDB_IDX fn) 16 16 =
      u.fld (Reg.TEN_QDB_IDX fn) 16 16 := State.fld_of_reg (State.reg_setN_other _ (Ne.symm hne) _) ..
  unfold State.refusalNoted
  generalize hv : u.setN (Reg.TEN_QDB_STAT fn) (code % 256 + q % 2 ^ 20 * 2 ^ 8) = v at hsame
  refine ⟨?_, ?_, ?_, fun k hs hi => ?_⟩
  · rw [State.incWrap, State.regN_of_reg (State.reg_setFld_other _ hne ..), State.regN_of_reg (State.reg_setFld_other _ hne ..), ← hv,
      State.regN_setN_same]
    omega
  · rw [State.incWrap, State.fld_setFld_apart _ _ _ _ _ _ _ (by decide) (by decide), State.fld_setFld_same _ _ _ _ _ (by decide)]
    omega
  · rw [State.incWrap, State.fld_setFld_same _ _ _ _ _ (by decide), State.fld_setFld_apart _ _ _ _ _ _ _ (by decide) (by decide), hsame]
  · rw [State.incWrap, State.reg_setFld_other _ hi, State.reg_setFld_other _ hi, ← hv, State.reg_setN_other _ hs]

/-- What a refused doorbell leaves: its code, its index, the count of refusals, the fault record and the FAULT source (R105,
R257). -/
theorem State.refuseDb_spec (hfn : fn < 512) (hq : q < 2 ^ 20) (hidx : idx < 2 ^ 16) (hcode : code < 256) :
    let t := u.refuseDb fn q idx code
    let slot := u.fld (Reg.TEN_FAULT_IDX fn) 0 6
    t.regN (Reg.TEN_QDB_STAT fn) = code + q * 2 ^ 8 ∧ t.fld (Reg.TEN_QDB_IDX fn) 0 16 = idx ∧
    t.fld (Reg.TEN_QDB_IDX fn) 16 16 = (u.fld (Reg.TEN_QDB_IDX fn) 16 16 + 1) % 2 ^ 16 ∧
    t.fld (Reg.TEN_FAULT fn (8 * slot)) 16 8 = code ∧ t.fld (Reg.TEN_FAULT fn (8 * slot)) 25 2 = 1 ∧
    t.regN (Reg.TEN_FAULT fn (8 * slot + 1)) = 5 ∧ t.regN (Reg.TEN_FAULT fn (8 * slot + 3)) = q ∧
    t.srcPend (24 * fn + 17) = true ∧
    t = { u with out := t.out, regs := t.regs, fns := t.fns, link := t.link, srcs := t.srcs, vecs := t.vecs } := by
  obtain ⟨hstat, hat, hcount, hreg⟩ := u.refusalNoted_spec (fn := fn) (q := q) (idx := idx) (code := code) hq hidx hcode
  have hframe : (u.refusalNoted fn q idx code).wipe 4123168604178 = u.wipe 4123168604178 := by
    rw [State.refusalNoted, State.incWrap_wipe _ _ _ _ _ (by decide), State.setFld_wipe _ _ _ _ _ _ (by decide),
      State.setN_wipe _ _ _ _ (by decide)]
  have hfault : (u.refusalNoted fn q idx code).fld (Reg.TEN_FAULT_IDX fn) 0 6 = u.fld (Reg.TEN_FAULT_IDX fn) 0 6 :=
    State.fld_of_reg (hreg _ (by simp only [Reg.TEN_FAULT_IDX, Reg.TEN_QDB_STAT]; omega)
      (by simp only [Reg.TEN_FAULT_IDX, Reg.TEN_QDB_IDX]; omega)) ..
  intro t slot
  have ht : t = (u.refusalNoted fn q idx code).faultRecord fn code FSrc.doorbell q idx := u.refuseDb_eq
  generalize u.refusalNoted fn q idx code = v at hstat hat hcount hframe hfault ht
  have hword {i : Nat} (hi : i < 8) := v.word_faultRecord hfn code FSrc.doorbell q idx hi
  rw [hfault, ← ht] at hword
  have hkeep {k : Nat} (hk : k = Reg.TEN_QDB_STAT fn ∨ k = Reg.TEN_QDB_IDX fn) : t.reg k = v.reg k := by
    rw [ht]
    exact v.reg_faultRecord_other hfn _ _ _ _ hk
  refine ⟨(State.regN_of_reg (hkeep (.inl rfl))).trans hstat, (State.fld_of_reg (hkeep (.inr rfl)) ..).trans hat,
    (State.fld_of_reg (hkeep (.inr rfl)) ..).trans hcount, ?_, ?_, ?_, ?_, ?_, ?_⟩
  · have hzero : t.regN (Reg.TEN_FAULT fn (8 * slot)) = _ := hword (i := 0) (by decide)
    rw [State.fld, hzero]
    exact (recordValue_fields ..).2.2.1.trans (Nat.mod_eq_of_lt hcode)
  · have hzero : t.regN (Reg.TEN_FAULT fn (8 * slot)) = _ := hword (i := 0) (by decide)
    rw [State.fld, hzero]
    exact (recordValue_fields ..).2.2.2
  · rw [hword (by decide)]
    exact (recordValue_fields ..).2.1
  · rw [hword (by decide)]
    exact (recordValue_fields ..).1.trans (Nat.mod_eq_of_lt (Nat.lt_trans hq (by decide)))
  · rw [ht]
    exact State.srcPend_raise ..
  · refine State.eq_of_wipe_events ?_
    rw [ht]
    exact (State.faultRecord_wipe0 ..).trans hframe

end Refused

/-! ### What a read entry leaves in the registers -/

/-- Correcting the words of a walk writes SLM_ECC_CNT, REL's head and interrupt registers alone (R111). -/
theorem State.reg_walkCorrect (s : State) (n a : Nat) {k : Nat} (hecc : k ≠ Reg.SLM_ECC_CNT) (hrel : k ≠ Reg.REL_LHEAD)
    (hp : ¬(Reg.HVC_PEND 0 ≤ k ∧ k < Reg.HVC_PEND 512)) : (s.walkCorrect n a).reg k = s.reg k := by
  refine List.foldlRecOn (motive := fun u : State => u.reg k = s.reg k) (s.walkWords n a) _ rfl fun u hu w _ => ?_
  split
  · refine (State.reg_relRecord hrel hp ..).trans ?_
    rw [State.incSat, State.reg_setFld_other _ hecc]
    exact hu
  · exact hu

/-- Of the registers that a read entry leaves. -/
theorem State.reg_readEntry {s u : State} {q i : Nat} {a : Action} (h : s.readEntry q i = .ok a u) {k : Nat} (hecc : k ≠ Reg.SLM_ECC_CNT)
    (hrel : k ≠ Reg.REL_LHEAD) (hp : ¬(Reg.HVC_PEND 0 ≤ k ∧ k < Reg.HVC_PEND 512)) : u.reg k = s.reg k := by
  unfold State.readEntry State.slabRead State.reach at h
  cases hw : s.walk (s.queue q).tenant ((s.queue q).entryAddr i) with
  | bad c l =>
    simp only [hw] at h
    cases h
  | ok p =>
    simp only [hw] at h
    by_cases hbad : (s.walkCorrect (s.queue q).tenant ((s.queue q).entryAddr i)).eccIn p 16 = true
    · simp only [hbad, if_true] at h
      cases h
    · simp only [hbad, Bool.false_eq_true, if_false] at h
      rw [← (Access.ok.inj h).2]
      exact s.reg_walkCorrect _ _ hecc hrel hp

/-! ### The check of an entry -/

section Check
variable {u : State} {q : Nat} {a : Action}

theorem State.checkEntry_class (h : u.entryOk q a = false) : u.checkEntry q a = 0x08 := if_pos h

theorem State.checkEntry_untimed (h : u.entryOk q a = true) (hc : (u.queue q).cls ≠ 1) : u.checkEntry q a = 0 := by
  unfold State.checkEntry
  rw [if_neg (by simp [h]), if_pos hc]

theorem State.checkEntry_noTime (h : u.entryOk q a = true) (hc : (u.queue q).cls = 1) (ht : u.tbValid = false ∨ u.coarse = true) :
    u.checkEntry q a = 0x16 := by
  unfold State.checkEntry
  rw [if_neg (by simp [h]), if_neg (by simp [hc]), if_pos ht]

/-- A timed entry under its contract: its lead, its spacing and its bucket (R84, R85, R117). -/
theorem State.checkEntry_timed (h : u.entryOk q a = true) (hc : (u.queue q).cls = 1) (hv : u.tbValid = true) (hco : u.coarse = false)
    {k : Contract} (hk : (u.queue q).contract = some k) : u.checkEntry q a =
      if u.ahead a.time k.lead = false then 0x04 else if u.spaced q a = false ∨ u.bucket k a.time = false then 0x05 else 0 := by
  unfold State.checkEntry
  rw [if_neg (by simp [h]), if_neg (by simp [hc]), if_neg (by simp [hv, hco]), hk]

/-- What the acceptance of an entry leaves of the queues (R85). -/
theorem State.acceptEntry_spec (u : State) (q : Nat) (a : Action) :
    ((u.acceptEntry q a).queue q).tail = ((u.queue q).tail + 1) % 2 ^ (u.queue q).log2 ∧
    ((u.acceptEntry q a).queue q).lastTime = some a.time ∧ ((u.acceptEntry q a).queue q).state = (u.queue q).state ∧
    ((u.acceptEntry q a).queue q).head = (u.queue q).head ∧ (∀ p, p ≠ q → (u.acceptEntry q a).queue p = u.queue p) ∧
    (u.acceptEntry q a).mem = u.mem := by
  have hcount (v : State) (b : Prop) [Decidable b] : (if b then v.incSat Reg.ADM_OVERRUN 0 32 else v).queues = v.queues ∧
      (if b then v.incSat Reg.ADM_OVERRUN 0 32 else v).mem = v.mem := by
    split
    · exact ⟨State.incSat_queues .., State.incSat_mem ..⟩
    · exact ⟨rfl, rfl⟩
  obtain ⟨x, hx, htail, htime, hstate, hhead⟩ : ∃ x : Queue, ((u.acceptEntry q a).queues = (u.setQueue q x).queues ∧
      (u.acceptEntry q a).mem = u.mem) ∧ x.tail = ((u.queue q).tail + 1) % 2 ^ (u.queue q).log2 ∧ x.lastTime = some a.time ∧
      x.state = (u.queue q).state ∧ x.head = (u.queue q).head := by
    unfold State.acceptEntry
    exact ⟨_, hcount _ _, rfl, rfl, rfl, rfl⟩
  have hqueue (p : Nat) : (u.acceptEntry q a).queue p = if p = q then x else u.queue p := by
    rw [State.queue, hx.1]
    exact State.queue_setQueue ..
  have hat : (u.acceptEntry q a).queue q = x := (hqueue q).trans (if_pos rfl)
  rw [hat]
  exact ⟨htail, htime, hstate, hhead, fun p hp => (hqueue p).trans (if_neg hp), hx.2⟩

end Check

/-! ### Commands -/

section Commands
variable {s : State} {fn q index : Nat}

/-- The state that a doorbell acts on (R105, R250, R346). -/
def State.belled (s : State) (fn q : Nat) : State :=
  if s.mode = Mode.boot then s.drainBuf fn else (s.drainBuf fn).setFn fn { (s.drainBuf fn).fn fn with qdbL := q }

theorem State.qdb_of_accepts (h : s.accepts fn = true) (f : State → State) : s.qdb fn q index f = f (s.belled fn q) := by
  have hawake : s.dozing = false := by
    rw [State.accepts, Bool.and_eq_true] at h
    simpa using h.2
  rw [State.qdb, State.posted_awake s hawake, if_pos h, State.keepQdb, State.drainBuf_pwr]
  rfl

theorem State.belled_mode (s : State) (fn q : Nat) : (s.belled fn q).mode = s.mode := by
  have hdrain : (s.drainBuf fn).mode = s.mode := congrArg Power.mode (s.drainBuf_pwr fn)
  unfold State.belled
  split
  · exact hdrain
  · exact hdrain

theorem State.exec_doorbell (hfn : fn < 512) (hq : q < 2 ^ 20) (hidx : index < 2 ^ 16) (h : s.accepts fn = true) :
    exec (.doorbell fn q index) s = .next ((s.belled fn q).doorbell fn q index) := by
  refine (onUnit_of (by simp [okFn, okQueue]; omega) _).trans (congrArg _ ((State.qdb_of_accepts h _).trans ?_))
  rw [Nat.mod_eq_of_lt hidx]

theorem State.exec_logQueueConsume (hfn : fn < 512) (hq : q < 2 ^ 20) (hidx : index < 2 ^ 16) (h : s.accepts fn = true) :
    exec (.logQueueConsume fn q index) s = .next ((s.belled fn q).consume fn q index) := by
  refine (onUnit_of (by simp [okFn, okQueue]; omega) _).trans (congrArg _ ((State.qdb_of_accepts h _).trans ?_))
  rw [Nat.mod_eq_of_lt hidx]

end Commands

/-! ### What becomes of a doorbell, by the checks of R85 -/

section Doorbell
variable {d : State} {fn q index : Nat}

/-- A queue that `fn` may submit to. -/
def State.submits (d : State) (fn q : Nat) : Prop :=
  (d.queue q).state ≠ QState.free ∧ (d.queue q).tenant = fn ∧ (d.queue q).ttype ≠ 0 ∧ d.hitQueue q = false

/-- The number of new entries that a doorbell announces. -/
def Queue.announced (x : Queue) (index : Nat) : Nat := (index % x.size + x.size - x.tail % x.size) % x.size

theorem State.doorbell_early (h : d.mode = Mode.boot ∨ d.mode = Mode.provision) :
    d.doorbell fn q index = d.refuseDb fn q index 0x08 := if_pos h

theorem State.doorbell_foreign (h : ¬(d.mode = Mode.boot ∨ d.mode = Mode.provision)) (hs : ¬d.submits fn q) :
    d.doorbell fn q index = d.refuseDb fn q index 0x06 := by
  unfold State.doorbell
  rw [if_neg h, if_pos]
  simp only [State.submits, not_and_or, not_not, ne_eq, Bool.not_eq_false] at hs
  exact hs

theorem State.doorbell_submits (h : ¬(d.mode = Mode.boot ∨ d.mode = Mode.provision)) (hs : d.submits fn q) :
    d.doorbell fn q index =
      if (d.queue q).state = QState.flushing then d.setQueue q { d.queue q with heldDb := some index }
      else if (d.queue q).size - 1 - (d.queue q).filled < (d.queue q).announced index then d.refuseDb fn q index 0x0C
      else if d.descBad q then (d.unarrive q).descFault q else d.acceptEntries fn q ((d.queue q).announced index) := by
  unfold State.doorbell
  rw [if_neg h, if_neg]
  · rfl
  · obtain ⟨h1, h2, h3, h4⟩ := hs
    rintro (h | h | h | h)
    · exact h1 h
    · exact h h2
    · exact h3 h
    · exact absurd (h4.symm.trans h) (by decide)

/-- One new entry (R85). -/
theorem State.acceptEntries_one : d.acceptEntries fn q 1 = match d.readEntry q (d.queue q).tail with
    | .bad c u => u.entryFault q (d.queue q).tail c
    | .ok a u => if u.checkEntry q a = 0 then u.acceptEntry q a else u.refuseDb fn q (d.queue q).tail (u.checkEntry q a) := rfl

/-- Software's new HEAD of a log queue (R88). -/
theorem State.consume_eq (h : ¬(d.mode = Mode.boot ∨ d.mode = Mode.provision)) : d.consume fn q index =
    if (d.queue q).state = QState.free ∨ (d.queue q).tenant ≠ fn ∨ (d.queue q).ttype ≠ 0 then d.refuseDb fn q index 0x06
    else if (d.queue q).filled < (index % (d.queue q).size + (d.queue q).size - (d.queue q).head % (d.queue q).size) % (d.queue q).size ∨
      (d.queue q).size ≤ index then d.refuseDb fn q index 0x0C
    else if d.descBad q then (d.unarrive q).descFault q else d.setQueue q { d.queue q with head := index } := by
  unfold State.consume
  rw [if_neg h]
  rfl

/-- An error in the descriptor raises its source, and leaves memory (R101). -/
theorem State.descFault_raises (u : State) (q : Nat) :
    ((u.unarrive q).descFault q).srcPend 0x3413 = true ∧ ((u.unarrive q).descFault q).mem = u.mem := by
  refine ⟨State.srcPend_raise .., ?_⟩
  rw [State.descFault, State.mem_of_wipe (State.raise_wipe0 ..) rfl, State.mem_of_wipe (State.dataEcc_wipe0 ..) rfl,
    State.mem_of_wipe (State.pgErr_wipe0 ..) rfl, State.mem_of_wipe (State.stopQueue_wipe0 ..) rfl,
    State.mem_of_wipe (State.unarrive_wipe0 ..) rfl]

end Doorbell

/-- Settles O18: the doorbell by the checks of R85 in their order, its first entry by the check of the entry. -/
theorem doorbells : Obligations.Doorbells := by
  unfold Obligations.Doorbells
  intro s fn q index hfn hq hidx hacc b d x size idx slot refusedAt refused early tail new room submits ring whole
  have hring : exec ring s = .next (d.doorbell fn q index) := State.exec_doorbell hfn hq hidx hacc
  have hlog : exec (.logQueueConsume fn q index) s = .next (d.consume fn q index) := State.exec_logQueueConsume hfn hq hidx hacc
  have hmode : (d.mode = Mode.boot ∨ d.mode = Mode.provision) ↔ early := by
    have h : d.mode = s.mode := s.belled_mode fn q
    rw [h]
  have hsub : d.submits fn q ↔ submits := Iff.rfl
  have hrefuse {i : Instr} {code at_ : Nat} (hc : code < 256) (ha : at_ < 2 ^ 16) (h : exec i s = .next (d.refuseDb fn q at_ code)) :
      refused i code at_ := ⟨_, h, d.refuseDb_spec hfn hq ha hc⟩
  have hdoor (he : ¬early) (hs : submits) := State.doorbell_submits (index := index) (fun h => he (hmode.mp h)) (hsub.mpr hs)
  refine ⟨fun he => ⟨?_, ?_⟩, fun he hs => ?_, fun he hs hf => ?_, fun he hs hf hr => ?_, fun he hs hf hr hw => ?_,
    fun he hs hf hr hw => ?_, fun he hs hf hn hw => ?_, fun he hs hf hn hr hw htail ht => ?entry, ?log⟩
  · exact hrefuse (by decide) hidx (hring.trans (congrArg _ (State.doorbell_early (hmode.mpr he))))
  · exact hrefuse (by decide) hidx (hlog.trans (congrArg _ (if_pos (hmode.mpr he))))
  · exact hrefuse (by decide) hidx (hring.trans (congrArg _ (State.doorbell_foreign (fun h => he (hmode.mp h)) (fun h => hs (hsub.mp h)))))
  · exact hring.trans (congrArg _ ((hdoor he hs).trans (if_pos hf)))
  · exact hrefuse (by decide) hidx (hring.trans (congrArg _ ((hdoor he hs).trans ((if_neg hf).trans (if_pos hr)))))
  · refine hring.trans (congrArg _ ((hdoor he hs).trans ((if_neg hf).trans ((if_neg (Nat.not_lt.mpr hr)).trans (if_neg ?_)))))
    exact Bool.eq_false_iff.mp hw
  · have hbad : d.descBad q = true := Bool.eq_true_of_not_eq_false hw
    obtain ⟨hqueue, herr, -⟩ := d.descFault_spec q
    obtain ⟨hsrc, hmem⟩ := d.descFault_raises q
    have hat := (hqueue q).trans (if_pos rfl)
    refine ⟨_, hring.trans (congrArg _ ((hdoor he hs).trans ((if_neg hf).trans ((if_neg (Nat.not_lt.mpr hr)).trans (if_pos hbad))))),
      by rw [hat], by rw [hat], by rw [hat], herr, hsrc, fun q' hq' => (hqueue q').trans (if_neg hq'), hmem⟩
  · have hzero : (d.queue q).announced index = 0 := hn
    refine hring.trans (congrArg _ ((hdoor he hs).trans ((if_neg hf).trans ((if_neg ?_).trans ((if_neg ?_).trans ?_)))))
    · rw [hzero]
      exact Nat.not_lt_zero _
    · exact Bool.eq_false_iff.mp hw
    · rw [hzero]
      rfl
  case entry =>
    have hone : (d.queue q).announced index = 1 := hn
    have hexec : exec ring s = .next (d.acceptEntries fn q 1) := by
      refine hring.trans (congrArg _ ((hdoor he hs).trans ((if_neg hf).trans ((if_neg ?_).trans ((if_neg ?_).trans ?_)))))
      · rw [hone]
        exact Nat.not_lt.mpr hr
      · exact Bool.eq_false_iff.mp hw
      · rw [hone]
    rw [State.acceptEntries_one, ← show tail = (d.queue q).tail from htail] at hexec
    refine ⟨fun c u hread => ?_, fun a u hread => ?_⟩
    · rw [hread] at hexec
      obtain ⟨hqueue, -⟩ := u.entryFault_spec q tail c
      have hsame (p : Nat) : u.queue p = d.queue p := by
        rw [State.queue, State.queues_of_wipe (State.readEntry_bad_wipe hread) rfl, State.queue]
      have hat := (hqueue q).trans (if_pos rfl)
      exact ⟨_, hexec, by rw [hat], by rw [hat], by rw [hat, hsame]; exact htail.symm,
        fun q' hq' => ((hqueue q').trans (if_neg hq')).trans (hsame q')⟩
    · rw [hread] at hexec
      intro bad
      have hx : u.queue q = x := State.queue_of_readEntry hread q
      have hok : u.entryOk q a = true ↔ ¬bad := by
        have h := u.entryOk_iff q a
        rw [hx] at h
        rw [h]
        simp only [bad, not_or, Bool.not_eq_false]
      have hslot : u.fld (Reg.TEN_FAULT_IDX fn) 0 6 = slot :=
        State.fld_of_reg (State.reg_readEntry hread (by simp only [Reg.TEN_FAULT_IDX, Reg.SLM_ECC_CNT]; omega)
          (by simp only [Reg.TEN_FAULT_IDX, Reg.REL_LHEAD]; omega) (by simp only [Reg.TEN_FAULT_IDX, Reg.HVC_PEND]; omega)) ..
      have hno {code : Nat} (hc : code < 256) (h0 : code ≠ 0) (h : u.checkEntry q a = code) : refusedAt u ring code tail := by
        have hspec := u.refuseDb_spec (fn := fn) (q := q) (idx := tail) (code := code) hfn hq ht hc
        rw [hslot] at hspec
        refine ⟨u.refuseDb fn q tail code, hexec.trans (congrArg _ ?_), hspec⟩
        simp only [h, if_neg h0]
      refine ⟨fun hb => ?_, fun hb hc htime => ?_, fun hb hc hv hco k hk => ⟨fun hlead => ?_, fun hlead hrate => ?_⟩, fun hb hyes => ?_⟩
      · exact hno (by decide) (by decide) (State.checkEntry_class (Bool.eq_false_iff.mpr fun h => hok.mp h hb))
      · exact hno (by decide) (by decide) (State.checkEntry_noTime (hok.mpr hb) (by rw [hx]; exact hc) htime)
      · refine hno (by decide) (by decide) ((State.checkEntry_timed (hok.mpr hb) (by rw [hx]; exact hc) hv hco (by rw [hx]; exact hk)).trans ?_)
        exact if_pos hlead
      · refine hno (by decide) (by decide) ((State.checkEntry_timed (hok.mpr hb) (by rw [hx]; exact hc) hv hco (by rw [hx]; exact hk)).trans ?_)
        have hahead : ¬u.ahead a.time k.lead = false := fun h => absurd (h.symm.trans hlead) (by decide)
        rw [if_neg hahead, if_pos hrate]
      · have hcheck : u.checkEntry q a = 0 := by
          by_cases hc : x.cls = 1
          · obtain hc' | ⟨hv, hco, k, hk, hlead, hsp, hbu⟩ := hyes
            · exact absurd hc hc'
            rw [State.checkEntry_timed (hok.mpr hb) (by rw [hx]; exact hc) hv hco (by rw [hx]; exact hk),
              if_neg (fun h => absurd (h.symm.trans hlead) (by decide)), if_neg (by simp [hsp, hbu])]
          · exact State.checkEntry_untimed (hok.mpr hb) (by rw [hx]; exact hc)
        obtain ⟨hatail, hatime, hastate, hahead, hother, hmem⟩ := u.acceptEntry_spec q a
        rw [hx] at hatail hastate hahead
        refine ⟨u.acceptEntry q a, hexec.trans (congrArg _ (by simp only [hcheck, if_true])), ?_, hatime, hastate, hahead,
          fun q' hq' => (hother q' hq').trans (State.queue_of_readEntry hread q'),
          hmem.trans (State.mem_of_wipe (State.readEntry_ok_wipe hread) rfl)⟩
        rw [hatail, ← htail]
  case log =>
    intro log mine ahead fits
    have hcons (he : ¬early) := State.consume_eq (d := d) (fn := fn) (q := q) (index := index) fun h => he (hmode.mp h)
    have hmine : ¬mine ↔ (d.queue q).state = QState.free ∨ (d.queue q).tenant ≠ fn ∨ (d.queue q).ttype ≠ 0 := by
      simp only [mine, not_and_or, not_not, ne_eq]
      exact Iff.rfl
    have hfits : ¬fits ↔ (d.queue q).filled < ahead ∨ (d.queue q).size ≤ index := by
      simp only [fits, not_and_or, Nat.not_le, Nat.not_lt]
      exact Iff.rfl
    refine ⟨fun he hm => ?_, fun he hm hf => ?_, fun he hm hf hw => ?_⟩
    · exact hrefuse (by decide) hidx (hlog.trans (congrArg _ ((hcons he).trans (if_pos (hmine.mp hm)))))
    · refine hrefuse (by decide) hidx (hlog.trans (congrArg _ ((hcons he).trans ((if_neg ?_).trans (if_pos (hfits.mp hf))))))
      exact fun h => hmine.mpr h hm
    · refine hlog.trans (congrArg _ ((hcons he).trans ((if_neg ?_).trans ((if_neg ?_).trans (if_neg ?_)))))
      · exact fun h => hmine.mpr h hm
      · exact fun h => hfits.mpr h hf
      · exact Bool.eq_false_iff.mp hw

end Sys2Proof.Machine

/-! Stop, resume, flush, and the windows on a queue's descriptor (R86, R99, R100, R104, R105, R385). -/

namespace Sys2Proof.Machine

open Host

/-! ### Command bits -/

/-- A written value with one command bit added. -/
theorem bitAt_lor_pow (v i j : Nat) : bitAt (Nat.lor v (2 ^ i)) j = (bitAt v j || decide (i = j)) := by
  rw [bitAt_eq_testBit, bitAt_eq_testBit]
  show (v ||| 2 ^ i).testBit j = _
  rw [Nat.testBit_or, Nat.testBit_two_pow]

/-- Of the four command bits of QM_QCTRL the value sets one. -/
theorem bits_of_only {v i : Nat} (h : ∀ j < 4, j ≠ i → bitAt v j = false) {j : Nat} (hj : j < 4) :
    bitAt (Nat.lor v (2 ^ i)) j = decide (i = j) := by
  rw [bitAt_lor_pow]
  by_cases hij : i = j
  · simp [hij]
  · simp [hij, h j hj (Ne.symm hij)]

/-- One of stop, resume and flush is no refused combination (R385). -/
theorem setCount_of_only {v i : Nat} (h : ∀ j < 4, j ≠ i → bitAt v j = false) : setCount (Nat.lor v (2 ^ i)) [0, 1, 2] < 2 := by
  have h0 := bits_of_only h (j := 0) (by decide)
  have h1 := bits_of_only h (j := 1) (by decide)
  have h2 := bits_of_only h (j := 2) (by decide)
  simp only [setCount, List.filter_cons, List.filter_nil, h0, h1, h2]
  rcases i with _ | _ | _ | i <;> simp

/-- Two of stop, resume and flush are a refused combination (R385). -/
theorem setCount_of_two {v i j : Nat} (hi : i < 3) (hj : j < 3) (hne : i ≠ j) (h : bitAt v j = true) :
    2 ≤ setCount (Nat.lor v (2 ^ i)) [0, 1, 2] := by
  have hat (k : Nat) : bitAt (Nat.lor v (2 ^ i)) k = (bitAt v k || decide (i = k)) := bitAt_lor_pow v i k
  simp only [setCount, List.filter_cons, List.filter_nil, hat]
  rcases (by omega : i = 0 ∨ i = 1 ∨ i = 2) with rfl | rfl | rfl <;> rcases (by omega : j = 0 ∨ j = 1 ∨ j = 2) with rfl | rfl | rfl
  all_goals simp_all
  all_goals split <;> simp

/-! ### Arrivals taken back -/

section Unarrive
variable (s : State) (q : Nat)

/-- One seam without a queue (R98). -/
def State.unseat (u : State) (i : Nat) : State :=
  let m := u.seamOf i
  if m.members.contains q then
    let l := m.members.filter (· != q)
    let ts := m.times.filter fun x => x.1 != q
    if l = [] then (u.setSeam i {}).setBit Reg.SCH_STATUS 1 false
    else u.setSeam i { m with members := l, times := ts,
                              latest := (ts.tail.map (·.2)).foldl u.later ((ts.map (·.2)).headD m.latest) }
  else u

theorem State.unarrive_eq : s.unarrive q = (Tbl.keys s.seams).foldl (State.unseat q) s := rfl

theorem State.unseat_spec (u : State) (i : Nat) : q ∉ ((u.unseat q i).seamOf i).members ∧
    (∀ j, j ≠ i → (u.unseat q i).seamOf j = u.seamOf j) ∧ (∀ r, r ≠ Reg.SCH_STATUS → (u.unseat q i).reg r = u.reg r) := by
  have hset (m : Seam) (j : Nat) : (u.setSeam i m).seamOf j = if j = i then m else u.seamOf j := Tbl.get_set ..
  unfold State.unseat
  dsimp only
  split
  · split
    · have hseams : ((u.setSeam i {}).setBit Reg.SCH_STATUS 1 false).seams = (u.setSeam i {}).seams := State.setBit_seams ..
      have hof (j : Nat) : ((u.setSeam i {}).setBit Reg.SCH_STATUS 1 false).seamOf j = if j = i then {} else u.seamOf j := by
        rw [State.seamOf, hseams]
        exact hset {} j
      refine ⟨by rw [hof, if_pos rfl]; simp, fun j hj => by rw [hof, if_neg hj], fun r hr => State.reg_setBit_other _ hr ..⟩
    · refine ⟨?_, fun j hj => by rw [hset, if_neg hj], fun r _ => rfl⟩
      rw [hset, if_pos rfl]
      simp
  · next h => exact ⟨by simpa using h, fun _ _ => rfl, fun _ _ => rfl⟩

theorem State.unseats_spec (l : List Nat) : ∀ u : State,
    (∀ i, (i ∈ l → q ∉ ((l.foldl (State.unseat q) u).seamOf i).members) ∧
      (i ∉ l → (l.foldl (State.unseat q) u).seamOf i = u.seamOf i)) ∧
    (∀ r, r ≠ Reg.SCH_STATUS → (l.foldl (State.unseat q) u).reg r = u.reg r) := by
  induction l with
  | nil => exact fun u => ⟨fun i => ⟨fun h => absurd h List.not_mem_nil, fun _ => rfl⟩, fun _ _ => rfl⟩
  | cons k l ih =>
    intro u
    obtain ⟨hout, hother, hreg⟩ := u.unseat_spec q k
    obtain ⟨hseam, hregs⟩ := ih (u.unseat q k)
    refine ⟨fun i => ⟨fun hi => ?_, fun hi => ?_⟩, fun r hr => (hregs r hr).trans (hreg r hr)⟩
    · by_cases hl : i ∈ l
      · exact (hseam i).1 hl
      · have hik : i = k := (List.mem_cons.mp hi).resolve_right hl
        rw [List.foldl_cons, (hseam i).2 hl, hik]
        exact hout
    · rw [List.foldl_cons, (hseam i).2 fun h => hi (List.mem_cons_of_mem _ h)]
      exact hother i fun h => hi (h ▸ List.mem_cons_self)

/-- What no entry of a table names reads as the default. -/
theorem get_of_not_mem {α : Type} {d : α} {t : Tbl α} {i : Nat} (h : i ∉ Tbl.keys t) : Tbl.get d t i = d := by
  induction t with
  | nil => rfl
  | cons e r ih =>
    have hne : e.1 ≠ i := fun he => h (List.mem_cons.mpr (.inl he.symm))
    rw [Tbl.get, if_neg hne]
    exact ih fun hm => h (List.mem_cons_of_mem _ hm)

/-- A queue whose arrivals are taken back is a member of no seam; besides the seams SCH_STATUS alone may change (R98). -/
theorem State.unarrive_spec : (∀ i, q ∉ ((s.unarrive q).seamOf i).members) ∧
    (∀ r, r ≠ Reg.SCH_STATUS → (s.unarrive q).reg r = s.reg r) ∧
    s.unarrive q = { s with regs := (s.unarrive q).regs, seams := (s.unarrive q).seams } := by
  obtain ⟨hseam, hreg⟩ := State.unseats_spec q (Tbl.keys s.seams) s
  refine ⟨fun i => ?_, hreg, ?_⟩
  · by_cases hi : i ∈ Tbl.keys s.seams
    · exact (hseam i).1 hi
    · have hof : (s.unarrive q).seamOf i = s.seamOf i := (hseam i).2 hi
      rw [hof, State.seamOf, get_of_not_mem hi]
      simp
  · have hw := s.unarrive_wipe0 q
    generalize s.unarrive q = t at hw ⊢
    cases t
    cases s
    simpa [State.wipe, Nat.testBit] using hw

end Unarrive

/-! ### The windows on a descriptor (R104, R105) -/

/-- Four registers written with the words of a descriptor. -/
theorem State.setWords_spec (u : State) {k : Nat → Nat} (hk : ∀ i j, k i = k j → i = j) (x : Nat) :
    (∀ i < 4, ((List.range 4).foldl (fun s i => s.setN (k i) (bits x (32 * i) 32)) u).regN (k i) = bits x (32 * i) 32) ∧
    (∀ r, (∀ i < 4, r ≠ k i) → ((List.range 4).foldl (fun s i => s.setN (k i) (bits x (32 * i) 32)) u).reg r = u.reg r) ∧
    OnlyRegs [k 0, k 1, k 2, k 3] u ((List.range 4).foldl (fun s i => s.setN (k i) (bits x (32 * i) 32)) u) := by
  have hfold : (List.range 4).foldl (fun s i => s.setN (k i) (bits x (32 * i) 32)) u =
      (((u.setN (k 0) (bits x 0 32)).setN (k 1) (bits x 32 32)).setN (k 2) (bits x 64 32)).setN (k 3) (bits x 96 32) := rfl
  have hlt (j : Nat) : bits x j 32 % 2 ^ 32 = bits x j 32 := Nat.mod_mod _ _
  have hne {i j : Nat} (h : i ≠ j) : k i ≠ k j := fun e => h (hk i j e)
  rw [hfold]
  refine ⟨fun i hi => ?_, fun r hr => ?_, ?_⟩
  · rcases (by omega : i = 0 ∨ i = 1 ∨ i = 2 ∨ i = 3) with rfl | rfl | rfl | rfl
    · rw [State.regN_setN_other _ (hne (by decide)), State.regN_setN_other _ (hne (by decide)), State.regN_setN_other _ (hne (by decide)),
        State.regN_setN, if_pos rfl, hlt]
    · rw [State.regN_setN_other _ (hne (by decide)), State.regN_setN_other _ (hne (by decide)), State.regN_setN, if_pos rfl, hlt]
    · rw [State.regN_setN_other _ (hne (by decide)), State.regN_setN, if_pos rfl, hlt]
    · rw [State.regN_setN, if_pos rfl, hlt]
  · rw [State.reg_setN_other _ (hr 3 (by decide)), State.reg_setN_other _ (hr 2 (by decide)),
      State.reg_setN_other _ (hr 1 (by decide)), State.reg_setN_other _ (hr 0 (by decide))]
  · exact ((((OnlyRegs.refl _ u).setN (by simp) _).setN (by simp) _).setN (by simp) _).setN (by simp) _

/-- A longer list of registers allows more. -/
theorem OnlyRegs.mono {ks ls : List Nat} {s t : State} (h : OnlyRegs ks s t) (hsub : ∀ k ∈ ks, k ∈ ls) : OnlyRegs ls s t :=
  ⟨h.1, fun r hr => h.2 r fun hk => hr (hsub r hk)⟩

/-! ### The commands (R99, R104, R385) -/

section Commands
variable (s : State) (v : Nat)

/-- The command written, with its code shown (R385). -/
def State.qstatOf (code : Nat) : State := s.setFld Reg.QM_QSTAT 0 8 code

theorem State.qstatOf_spec {code : Nat} (hc : code < 256) :
    (s.qstatOf code).fld Reg.QM_QSTAT 0 8 = code ∧ OnlyRegs [Reg.QM_QSTAT] s (s.qstatOf code) :=
  ⟨(State.fld_setFld_same _ _ _ _ _ (by decide)).trans (Nat.mod_eq_of_lt hc), (OnlyRegs.refl _ s).setFld (by simp) ..⟩

theorem State.writeQctrl_refused (h : 2 ≤ setCount v [0, 1, 2]) : s.writeQctrl v = (s.cmdRefused 9).qstatOf 8 := if_pos h

/-- One command at most of STOP, RESUME and FLUSH. -/
theorem State.writeQctrl_one (h : setCount v [0, 1, 2] < 2) : s.writeQctrl v =
    let q := s.fld Reg.QM_QSEL 0 20
    let u := s.qstatOf (if decide ((s.queue q).state = QState.free) then 8 else 0)
    let w := if decide ((s.queue q).state = QState.free) then u else if bitAt v 0 then u.qStop q else if bitAt v 1 then u.qResume q
      else if bitAt v 2 then u.qFlush q else u
    if bitAt v 3 then w.qmSnap q else w := if_neg (Nat.not_le.mpr h)

theorem State.writeQctrl_free (h : setCount v [0, 1, 2] < 2) (h3 : bitAt v 3 = false)
    (hfree : (s.queue (s.fld Reg.QM_QSEL 0 20)).state = QState.free) : s.writeQctrl v = s.qstatOf 8 := by
  rw [s.writeQctrl_one v h]
  simp only [hfree, h3, decide_true, if_true, Bool.false_eq_true, if_false]

variable {v} (hv : ∀ j < 4, j ≠ i → bitAt v j = false) (hlive : (s.queue (s.fld Reg.QM_QSEL 0 20)).state ≠ QState.free)
include hv hlive

theorem State.writeQctrl_stop (hi : i = 0) : s.writeQctrl (Nat.lor v 1) = (s.qstatOf 0).qStop (s.fld Reg.QM_QSEL 0 20) := by
  have hb {j : Nat} (hj : j < 4) : bitAt (Nat.lor v 1) j = decide (i = j) := by simpa [hi] using bits_of_only hv hj
  rw [s.writeQctrl_one _ (by simpa [hi] using setCount_of_only hv), hb (j := 0) (by decide), hb (j := 1) (by decide), hb (j := 2) (by decide), hb (j := 3) (by decide)]
  simp [hlive, hi]

theorem State.writeQctrl_resume (hi : i = 1) : s.writeQctrl (Nat.lor v 2) = (s.qstatOf 0).qResume (s.fld Reg.QM_QSEL 0 20) := by
  have hb {j : Nat} (hj : j < 4) : bitAt (Nat.lor v 2) j = decide (i = j) := by simpa [hi] using bits_of_only hv hj
  rw [s.writeQctrl_one _ (by simpa [hi] using setCount_of_only hv), hb (j := 0) (by decide), hb (j := 1) (by decide), hb (j := 2) (by decide), hb (j := 3) (by decide)]
  simp [hlive, hi]

theorem State.writeQctrl_flush (hi : i = 2) : s.writeQctrl (Nat.lor v 4) = (s.qstatOf 0).qFlush (s.fld Reg.QM_QSEL 0 20) := by
  have hb {j : Nat} (hj : j < 4) : bitAt (Nat.lor v 4) j = decide (i = j) := by simpa [hi] using bits_of_only hv hj
  rw [s.writeQctrl_one _ (by simpa [hi] using setCount_of_only hv), hb (j := 0) (by decide), hb (j := 1) (by decide), hb (j := 2) (by decide), hb (j := 3) (by decide)]
  simp [hlive, hi]

end Commands

section Refresh
variable (s : State) {v : Nat}

theorem State.writeQctrl_refresh (hv : ∀ j < 4, j ≠ 3 → bitAt v j = false) : s.writeQctrl (Nat.lor v 8) =
    (s.qstatOf (if (s.queue (s.fld Reg.QM_QSEL 0 20)).state = QState.free then 8 else 0)).qmSnap (s.fld Reg.QM_QSEL 0 20) := by
  have hb {j : Nat} (hj : j < 4) : bitAt (Nat.lor v 8) j = decide (3 = j) := by simpa using bits_of_only hv hj
  rw [s.writeQctrl_one _ (by simpa using setCount_of_only hv), hb (j := 0) (by decide), hb (j := 1) (by decide), hb (j := 2) (by decide), hb (j := 3) (by decide)]
  by_cases h : (s.queue (s.fld Reg.QM_QSEL 0 20)).state = QState.free <;> simp [h]

/-- What the window on a queue's descriptor shows after it is taken (R104). -/
theorem State.qmSnap_spec (q : Nat) : (∀ i < 4, (s.qmSnap q).regN (Reg.QM_QDESC i) = bits (s.queue q).desc (32 * i) 32) ∧
    (∀ r, (∀ i < 4, r ≠ Reg.QM_QDESC i) → (s.qmSnap q).reg r = s.reg r) ∧
    OnlyRegs [Reg.QM_QDESC 0, Reg.QM_QDESC 1, Reg.QM_QDESC 2, Reg.QM_QDESC 3] s (s.qmSnap q) :=
  s.setWords_spec (k := Reg.QM_QDESC) (fun i j h => by simp only [Reg.QM_QDESC] at h; omega) _

end Refresh

/-! ### STOP and RESUME (R99) -/

section Live
variable (s : State) (q : Nat)

/-- A state that agrees in all but the registers, the queues, the seams, the cuffs and the pairs. -/
theorem State.eq_of_wipe_resumed {t s : State} (e : t.wipe 696336 = s.wipe 696336) :
    t = { s with regs := t.regs, queues := t.queues, seams := t.seams, cuffs := t.cuffs, pairs := t.pairs } := by
  cases t
  cases s
  simpa [State.wipe, Nat.testBit] using e

/-- A queue is written once its arrivals are taken back (R98, R99). -/
theorem State.setUnarrived_spec (y : Queue) : ((s.unarrive q).setQueue q y).queue q = y ∧
    (∀ i, q ∉ (((s.unarrive q).setQueue q y).seamOf i).members) ∧
    (∀ q', q' ≠ q → ((s.unarrive q).setQueue q y).queue q' = s.queue q') ∧
    (∀ r, r ≠ Reg.SCH_STATUS → ((s.unarrive q).setQueue q y).reg r = s.reg r) ∧
    ((s.unarrive q).setQueue q y).wipe 655376 = s.wipe 655376 := by
  obtain ⟨hout, hreg, -⟩ := s.unarrive_spec q
  refine ⟨(State.queue_setQueue ..).trans (if_pos rfl), hout, fun q' h => ?_, hreg,
    (State.setQueue_wipe _ _ _ _ (by decide)).trans (State.wipe_mono (s.unarrive_wipe0 q) (by decide))⟩
  rw [State.queue_setQueue, if_neg h, State.queue, State.queues_of_wipe (s.unarrive_wipe0 q) rfl]
  rfl

/-- STOP (R99). -/
theorem State.qStop_spec : (s.qStop q).queue q = (if (s.queue q).state = QState.flushing
      then { s.queue q with resumeSt := QState.stopped } else { s.queue q with state := QState.stopped }) ∧
    (∀ i, q ∉ ((s.qStop q).seamOf i).members) ∧ (∀ q', q' ≠ q → (s.qStop q).queue q' = s.queue q') ∧
    (∀ r, r ≠ Reg.SCH_STATUS → (s.qStop q).reg r = s.reg r) ∧ (s.qStop q).wipe 655376 = s.wipe 655376 := by
  by_cases h : (s.queue q).state = QState.flushing
  · rw [show s.qStop q = (s.unarrive q).setQueue q { s.queue q with resumeSt := QState.stopped } from if_pos h, if_pos h]
    exact s.setUnarrived_spec q _
  · rw [show s.qStop q = (s.unarrive q).setQueue q { s.queue q with state := QState.stopped } from if_neg h, if_neg h]
    exact s.setUnarrived_spec q _

/-- RESUME, before a target that stood at Apron for a lost vote leaves it (R99). -/
def State.unpaused : State :=
  if (s.queue q).state = QState.flushing then (s.unarrive q).setQueue q { s.queue q with resumeSt := QState.run, err := Code.ok }
  else (s.unarrive q).setQueue q { s.queue q with state := QState.run, err := Code.ok }

theorem State.unpaused_spec : (s.unpaused q).queue q = (if (s.queue q).state = QState.flushing
      then { s.queue q with resumeSt := QState.run, err := 0 } else { s.queue q with state := QState.run, err := 0 }) ∧
    (∀ i, q ∉ ((s.unpaused q).seamOf i).members) ∧ (∀ q', q' ≠ q → (s.unpaused q).queue q' = s.queue q') ∧
    (∀ r, r ≠ Reg.SCH_STATUS → (s.unpaused q).reg r = s.reg r) ∧ (s.unpaused q).wipe 655376 = s.wipe 655376 := by
  by_cases h : (s.queue q).state = QState.flushing
  · rw [show s.unpaused q = (s.unarrive q).setQueue q { s.queue q with resumeSt := QState.run, err := Code.ok } from if_pos h, if_pos h]
    exact s.setUnarrived_spec q _
  · rw [show s.unpaused q = (s.unarrive q).setQueue q { s.queue q with state := QState.run, err := Code.ok } from if_neg h, if_neg h]
    exact s.setUnarrived_spec q _

/-- The target of a resumed queue is judged anew where the queue's vote was lost (R122). -/
theorem State.qResume_eq : s.qResume q = if (s.unpaused q).voteHeld q = false then s.unpaused q
    else if (s.queue q).ttype = 1 then ((s.unpaused q).endCause (s.queue q).target .vote).rejudge 1 (s.queue q).target
    else (((((s.unpaused q).setPairSt (s.queue q).target { (s.unpaused q).pairSt (s.queue q).target with st := 0 }).endCause
      (2 * (s.queue q).target) .vote).endCause (2 * (s.queue q).target + 1) .vote)).rejudge 2 (s.queue q).target := rfl

/-- The target of a guarded queue stands at Apron for a lost vote (R122). -/
theorem State.voteHeld_iff : s.voteHeld q = true ↔ (s.queue q).cls = 2 ∧ ((s.queue q).ttype = 1 ∨ (s.queue q).ttype = 2) ∧
    (s.cuff (if (s.queue q).ttype = 2 then 2 * (s.queue q).target else (s.queue q).target)).apVote = true := by
  simp [State.voteHeld, serveCuff, and_assoc]

theorem State.voteHeld_unpaused : (s.unpaused q).voteHeld q = s.voteHeld q := by
  obtain ⟨hat, -, -, -, hw⟩ := s.unpaused_spec q
  have hcuff (c : Nat) : (s.unpaused q).cuff c = s.cuff c := by
    rw [State.cuff, State.cuffs_of_wipe hw rfl]
    rfl
  unfold State.voteHeld
  simp only [hcuff, hat]
  split <;> rfl

/-- One cause of a cuff's Apron ends, and no other cuff changes. -/
theorem State.cuff_endCause (c c' : Nat) (w : Cause) : (s.endCause c w).cuff c' = if c' = c then (s.cuff c).setCause w false else s.cuff c' :=
  State.cuff_setCuff ..

end Live

/-! ### FLUSH (R100) -/

section Flush
variable (s : State) (q : Nat)

/-- What waits past the queue stage stays withdrawn or not by what the FIFOs hold and by the time. -/
theorem State.sticksAt_congr {s t : State} (hcuffs : t.cuffs = s.cuffs) (hfifos : t.fifos = s.fifos) (htb : t.tb = s.tb)
    (hl : t.reg Reg.TB_RELOAD_L = s.reg Reg.TB_RELOAD_L) (hh : t.reg Reg.TB_RELOAD_H = s.reg Reg.TB_RELOAD_H) (f : Flight) :
    t.sticksAt f = s.sticksAt f := by
  have hcirc : t.circle = s.circle := congrArg (· + 1) (State.pair_of_reg hl hh)
  have hfifo (n m : Nat) : t.targetFifo n m = s.targetFifo n m := by
    simp only [State.targetFifo, State.cuff, State.fifo, hcuffs, hfifos]
  have hahead (n d : Nat) : t.ahead n d = s.ahead n d := by
    unfold State.ahead State.atOrAfter State.plus
    rw [hcirc, htb]
  unfold State.sticksAt
  rw [hfifo, hahead]

/-- A withdrawal keeps in each cuff's FIFO what does not meet it. -/
theorem State.fifo_withdraw (p : Flight → Bool) (c : Nat) : ((s.withdraw p).cuff c).fifo = (s.cuff c).fifo.filter fun f => !p f := by
  have hfold (l : List Nat) : ∀ u : State, ((l.foldl (fun (u : State) k =>
      u.setCuff k { u.cuff k with fifo := (u.cuff k).fifo.filter fun f => !p f }) u).cuff c).fifo =
      if c ∈ l then (u.cuff c).fifo.filter (fun f => !p f) else (u.cuff c).fifo := by
    induction l with
    | nil => exact fun _ => rfl
    | cons k l ih =>
      intro u
      rw [List.foldl_cons, ih, State.cuff_setCuff]
      by_cases hc : c = k
      · simp [hc, List.filter_filter]
      · simp [hc]
  have hrest : (s.withdraw p).cuffs = ((Tbl.keys s.cuffs).foldl (fun (u : State) k =>
      u.setCuff k { u.cuff k with fifo := (u.cuff k).fifo.filter fun f => !p f })
        { s with refs := s.refs.filter fun r => !p r.fl }).cuffs := by
    unfold State.withdraw
    dsimp only
    rw [State.cuffs_of_wipe (State.foldl_wipe 65536 _ (fun t k => t.setVoter_wipe _ _ _ (by decide)) _ _) (by decide)]
    exact State.cuffs_of_wipe (State.foldl_wipe 1048576 _ (fun t k => t.setFifo_wipe _ _ _ (by decide)) _ _) (by decide)
  rw [State.cuff, hrest]
  refine (hfold _ _).trans ?_
  split
  · rfl
  · next h =>
    have hempty : s.cuff c = {} := get_of_not_mem h
    show (s.cuff c).fifo = _
    rw [hempty]
    rfl

/-- A withdrawal takes nothing into a FIFO of a port. -/
theorem State.fifos_withdraw (p : Flight → Bool) (h : ∀ k, s.fifo k = []) (k : Nat) : (s.withdraw p).fifo k = [] := by
  have hfold (l : List Nat) : ∀ u : State, (∀ k, u.fifo k = []) →
      ∀ k, (l.foldl (fun (u : State) k => u.setFifo k ((u.fifo k).filter fun f => !p f)) u).fifo k = [] := by
    induction l with
    | nil => exact fun _ h => h
    | cons i l ih =>
      intro u hu
      refine ih _ fun j => ?_
      rw [State.fifo_setFifo]
      split
      · rw [hu]
        rfl
      · exact hu j
  unfold State.withdraw
  dsimp only
  rw [State.fifo, State.fifos_of_wipe (State.foldl_wipe 65536 _ (fun t k => t.setVoter_wipe _ _ _ (by decide)) _ _) (by decide)]
  refine hfold _ _ (fun k => ?_) k
  rw [State.fifo, State.fifos_of_wipe (State.foldl_wipe 8192 _ (fun t k => t.setCuff_wipe _ _ _ (by decide)) _ _) (by decide)]
  exact h k

theorem State.withdraw_wipe (p : Flight → Bool) : (s.withdraw p).wipe 1384448 = s.wipe 1384448 := by
  unfold State.withdraw
  dsimp only
  rw [State.foldl_wipe 1384448 _ (fun t k => t.setVoter_wipe _ _ _ (by decide)) _ _,
    State.foldl_wipe 1384448 _ (fun t k => t.setFifo_wipe _ _ _ (by decide)) _ _,
    State.foldl_wipe 1384448 _ (fun t k => t.setCuff_wipe _ _ _ (by decide)) _ _]
  rfl

/-- Where no action waits at a target, none is judged. -/
theorem State.judgeFifo_empty {ttype target : Nat} (h : s.targetFifo ttype target = []) : s.judgeFifo ttype target = s := by
  have hhead : s.judgeHead ttype target = (s, false) := by
    unfold State.judgeHead
    rw [h]
  unfold State.judgeFifo State.judge
  dsimp only
  rw [hhead]
  rfl

theorem State.judgeAll_empty (hc : ∀ c, (s.cuff c).fifo = []) (hk : ∀ k, s.fifo k = []) : s.judgeAll = s := by
  have hat (ttype target : Nat) : s.targetFifo ttype target = [] := by
    unfold State.targetFifo
    split
    · exact hc _
    · exact hk _
  have hfold (f : Nat → Nat) (g : Nat → Nat) (l : List Nat) : l.foldl (fun s c => State.judgeFifo s (f c) (g c)) s = s := by
    induction l with
    | nil => rfl
    | cons c l ih => rw [List.foldl_cons, s.judgeFifo_empty (hat _ _), ih]
  show (Tbl.keys ((Tbl.keys s.cuffs).foldl (fun s c => s.judgeFifo 1 c) s).fifos).foldl _ _ = s
  rw [hfold (fun _ => 1) fun c => c]
  exact hfold _ _ _

/-- What is read of an entry whose walk ends at an address (R101). -/
theorem State.readEntry_of_walk {i p : Nat} (h : s.walk (s.queue q).tenant ((s.queue q).entryAddr i) = .ok p) :
    s.readEntry q i = if s.eccIn p 16 then .bad Code.slabEcc (s.walkCorrect (s.queue q).tenant ((s.queue q).entryAddr i)).dataEcc
      else .ok (ofEntry (s.readMem p 16)) (s.walkCorrect (s.queue q).tenant ((s.queue q).entryAddr i)) := by
  have hw := State.walkCorrect_wipe0 s (s.queue q).tenant ((s.queue q).entryAddr i)
  have hecc : (s.walkCorrect (s.queue q).tenant ((s.queue q).entryAddr i)).eccIn p 16 = s.eccIn p 16 := by
    rw [State.eccIn, State.eccBad_of_wipe hw rfl]
    rfl
  have hread := State.readMem_congr (State.mem_of_wipe hw rfl) p 16
  simp only [State.readEntry, State.slabRead, State.reach, h, hecc, hread]
  by_cases hb : s.eccIn p 16 = true
  · simp only [hb, if_true]
  · simp only [hb, Bool.false_eq_true, if_false]

/-- The same entry read in a state with the same queue, walk and memory. -/
theorem State.readEntry_congr {s t u : State} {q i p : Nat} {a : Action} (hq : t.queue q = s.queue q) (hmem : t.mem = s.mem)
    (hecc : t.eccBad = s.eccBad) (hreg : t.reg (Reg.SLM_L1BASE (s.queue q).tenant) = s.reg (Reg.SLM_L1BASE (s.queue q).tenant))
    (hwalk : s.walk (s.queue q).tenant ((s.queue q).entryAddr i) = .ok p) (hread : s.readEntry q i = .ok a u) :
    t.walk (t.queue q).tenant ((t.queue q).entryAddr i) = .ok p ∧
    t.readEntry q i = .ok a (t.walkCorrect (t.queue q).tenant ((t.queue q).entryAddr i)) := by
  have hw : t.walk (t.queue q).tenant ((t.queue q).entryAddr i) = .ok p := by rw [hq, State.walk_congr hreg hmem hecc, hwalk]
  have hbad : t.eccIn p 16 = s.eccIn p 16 := by rw [State.eccIn, State.eccIn, hecc]
  rw [s.readEntry_of_walk q hwalk] at hread
  refine ⟨hw, ?_⟩
  rw [t.readEntry_of_walk q hw, hbad, State.readMem_congr hmem]
  split at hread
  · cases hread
  · next h => rw [if_neg h, (Access.ok.inj hread).1]

/-! #### The rewriting of entries -/

/-- The fields that the rewriting of a queue's entries may write. -/
abbrev blanking : Nat := 74491913437650

theorem State.blankEntries_blanking (n : Nat) : ∀ (s : State) (i : Nat), (s.blankEntries q i n).wipe blanking = s.wipe blanking := by
  have hfault (s : State) (i c : Nat) : (s.entryFault q i c).wipe blanking = s.wipe blanking :=
    (State.faultRecord_wipe _ _ _ _ _ _ _ (by decide)).trans (State.wipe_mono (s.haltQueue_wipe0 q c) (by decide))
  induction n with
  | zero => exact fun _ _ => rfl
  | succ n ih =>
    intro s i
    unfold State.blankEntries
    cases hr : s.readEntry q i with
    | bad c u => exact (hfault u i c).trans (State.wipe_mono (State.readEntry_bad_wipe hr) (by decide))
    | ok a u =>
      have hu : u.wipe blanking = s.wipe blanking := State.wipe_mono (State.readEntry_ok_wipe hr) (by decide)
      dsimp only
      split
      · exact (ih _ _).trans hu
      · cases hs : u.slabWrite (u.queue q).tenant ((u.queue q).entryAddr i) 16
          (toEntry { a with op := 0, sub := 0, arg := 0, log := false }) 0 with
        | bad c v => exact ((hfault v i c).trans (State.wipe_mono (State.slabWrite_bad_wipe _ hs) (by decide))).trans hu
        | ok x v => exact ((ih _ _).trans (State.wipe_mono (State.slabWrite_ok_wipe _ hs) (by decide))).trans hu

/-- An entry fits its 16 bytes. -/
theorem toEntry_lt (a : Action) : toEntry a < 2 ^ 128 := by
  have hb (b : Bool) : b2n b ≤ 1 := by cases b <;> decide
  have h1 := hb a.log
  have h2 := hb a.sealed
  simp only [toEntry]
  omega

/-- The one entry that waits is rewritten as a NOP, unless it is sealed (R100). -/
theorem State.blankEntries_one {u : State} {i p : Nat} {a : Action} (hread : s.readEntry q i = .ok a u)
    (hwalk : u.walk (u.queue q).tenant ((u.queue q).entryAddr i) = .ok p) (hmem : u.mem = s.mem) :
    (a.sealed = true → (s.blankEntries q i 1).mem = s.mem) ∧
    (a.sealed = false → (s.blankEntries q i 1).readMem p 16 = toEntry { a with op := 0, sub := 0, arg := 0, log := false } ∧
      ∀ b, b < p ∨ p + 16 ≤ b → (s.blankEntries q i 1).byte b = s.byte b) := by
  refine ⟨fun hs => ?_, fun hs => ?_⟩
  · rw [State.blankEntries]
    simp only [hread, hs, if_true]
    exact hmem
  · obtain ⟨e, he⟩ : ∃ e, e = toEntry { a with op := 0, sub := 0, arg := 0, log := false } := ⟨_, rfl⟩
    have hlt : e < 2 ^ 128 := he ▸ toEntry_lt _
    obtain ⟨v, hv⟩ : ∃ v, v = u.walkCorrect (u.queue q).tenant ((u.queue q).entryAddr i) := ⟨_, rfl⟩
    have hblank : s.blankEntries q i 1 = v.writeMem p 16 e := by
      rw [State.blankEntries]
      simp only [hread, hs, Bool.false_eq_true, if_false, State.slabWrite, State.reach, hwalk]
      rw [State.blankEntries, hv, he, hs]
    have hvmem : v.mem = s.mem := by rw [hv, State.mem_of_wipe (State.walkCorrect_wipe0 ..) rfl, hmem]
    rw [hblank, ← he]
    refine ⟨(State.readMem_writeMem_same ..).trans (Nat.mod_eq_of_lt hlt), fun b hb => ?_⟩
    rw [State.byte_writeMem _ _ _ _ _ hb, State.byte, hvmem]
    rfl

end Flush

section Flushed
variable (s : State) (q : Nat)

/-- A queue whose unsealed actions past the queue stage are withdrawn (R100). -/
def State.cleared : State := (s.unarrive q).withdraw fun f => f.ofQueue q && !f.act.sealed && !(s.unarrive q).sticksAt f

theorem State.cleared_wipe : (s.cleared q).wipe 1908752 = s.wipe 1908752 :=
  (State.wipe_mono (State.withdraw_wipe _ _) (by decide)).trans (State.wipe_mono (s.unarrive_wipe0 q) (by decide))

/-- What the flush takes out is the queue's unsealed work that does not stick at its target. -/
theorem State.cleared_keeps (f : Flight) :
    (!(f.ofQueue q && !f.act.sealed && !(s.unarrive q).sticksAt f)) = true ↔ (f.ofQueue q = true → f.act.sealed = true ∨ s.sticksAt f = true) := by
  obtain ⟨-, hreg, -⟩ := s.unarrive_spec q
  have hw := s.unarrive_wipe0 q
  rw [State.sticksAt_congr (State.cuffs_of_wipe hw rfl) (State.fifos_of_wipe hw rfl) (State.tb_of_wipe hw rfl) (hreg _ (by decide))
    (hreg _ (by decide))]
  cases f.ofQueue q <;> cases f.act.sealed <;> simp

theorem State.cleared_spec : (∀ r, r ∈ (s.cleared q).refs ↔ r ∈ s.refs ∧ (r.fl.ofQueue q = true → r.fl.act.sealed = true ∨ s.sticksAt r.fl = true)) ∧
    (∀ c, ∀ f ∈ ((s.cleared q).cuff c).fifo, f ∈ (s.cuff c).fifo ∧ (f.ofQueue q = true → f.act.sealed = true ∨ s.sticksAt f = true)) := by
  have hw := s.unarrive_wipe0 q
  refine ⟨fun r => ?_, fun c f hf => ?_⟩
  · rw [State.cleared, State.withdraw_refs, List.mem_filter, State.refs_of_wipe hw rfl, s.cleared_keeps]
  · rw [State.cleared, State.fifo_withdraw, List.mem_filter, s.cleared_keeps, State.cuff, State.cuffs_of_wipe hw rfl] at hf
    exact hf

/-- FLUSH (R100). -/
theorem State.qFlush_eq : ∃ y : Queue, y.state = QState.flushing ∧ s.qFlush q =
    ((s.cleared q).judgeAll.blankEntries q ((s.cleared q).judgeAll.queue q).head ((s.cleared q).judgeAll.queue q).filled).setQueue q y :=
  ⟨_, rfl, rfl⟩

/-- The flush ends once what it withdrew and what it rewrote is done. -/
theorem State.qFlush_refs : ((s.qFlush q).queue q).state = QState.flushing ∧ (s.qFlush q).refs = (s.cleared q).judgeAll.refs := by
  obtain ⟨y, hy, heq⟩ := s.qFlush_eq q
  generalize (s.cleared q).judgeAll = j at heq ⊢
  have hw := State.blankEntries_blanking q (j.queue q).filled j (j.queue q).head
  generalize j.blankEntries q (j.queue q).head (j.queue q).filled = b at heq hw
  rw [heq]
  refine ⟨?_, (State.refs_of_wipe hw (by decide) : b.refs = j.refs)⟩
  rw [State.queue_setQueue, if_pos rfl, hy]

/-- A flush of a queue with one entry that no FIFO holds (R100). -/
theorem State.mem_qFlush {a : Action} {u : State} {p : Nat} (hc : ∀ c, (s.cuff c).fifo = []) (hk : ∀ k, s.fifo k = [])
    (hfill : (s.queue q).filled = 1) (hread : s.readEntry q (s.queue q).head = .ok a u)
    (hwalk : s.walk (s.queue q).tenant ((s.queue q).entryAddr (s.queue q).head) = .ok p) :
    (a.sealed = true → (s.qFlush q).mem = s.mem) ∧
    (a.sealed = false → (s.qFlush q).readMem p 16 = toEntry { a with op := 0, sub := 0, arg := 0, log := false } ∧
      ∀ b, b < p ∨ p + 16 ≤ b → (s.qFlush q).byte b = s.byte b) := by
  obtain ⟨y, -, hflush⟩ := s.qFlush_eq q
  obtain ⟨-, hreg, -⟩ := s.unarrive_spec q
  have hw := s.cleared_wipe q
  have hempty : (s.cleared q).judgeAll = s.cleared q := State.judgeAll_empty _
    (fun c => List.eq_nil_iff_forall_not_mem.mpr fun f hf => by simpa [hc c] using ((s.cleared_spec q).2 c f hf).1)
    (State.fifos_withdraw _ _ fun k => by rw [State.fifo, State.fifos_of_wipe (s.unarrive_wipe0 q) rfl]; exact hk k)
  have hq : (s.cleared q).queue q = s.queue q := by rw [State.queue, State.queues_of_wipe hw rfl]; rfl
  have hmem : (s.cleared q).mem = s.mem := State.mem_of_wipe hw rfl
  have hl1 : (s.cleared q).reg (Reg.SLM_L1BASE (s.queue q).tenant) = s.reg (Reg.SLM_L1BASE (s.queue q).tenant) := by
    have hregs : (s.cleared q).regs = (s.unarrive q).regs := State.regs_of_wipe (State.withdraw_wipe _ _) rfl
    rw [State.reg_of_regs hregs, hreg _ (by simp only [Reg.SLM_L1BASE, Reg.SCH_STATUS]; omega)]
  obtain ⟨hwalk', hread'⟩ := State.readEntry_congr hq hmem (State.eccBad_of_wipe hw rfl) hl1 hwalk hread
  have hcorr := State.walkCorrect_wipe0 (s.cleared q) (s.queue q).tenant ((s.queue q).entryAddr (s.queue q).head)
  rw [hempty, hq, hfill] at hflush
  rw [hq] at hwalk' hread'
  generalize s.cleared q = j at hflush hmem hq hwalk' hread' hcorr hl1
  obtain ⟨v, hv⟩ : ∃ v, v = j.walkCorrect (s.queue q).tenant ((s.queue q).entryAddr (s.queue q).head) := ⟨_, rfl⟩
  rw [← hv] at hread' hcorr
  have hvq : v.queue q = s.queue q := by rw [State.queue, State.queues_of_wipe hcorr rfl]; exact hq
  have hvwalk : v.walk (v.queue q).tenant ((v.queue q).entryAddr (s.queue q).head) = .ok p := by
    rw [hvq, ← hwalk', hv]
    refine State.walk_congr (j.reg_walkCorrect _ _ ?_ ?_ ?_) (State.mem_of_wipe (hv ▸ hcorr) rfl) (State.eccBad_of_wipe (hv ▸ hcorr) rfl) _
    · simp only [Reg.SLM_L1BASE, Reg.SLM_ECC_CNT]
      omega
    · simp only [Reg.SLM_L1BASE, Reg.REL_LHEAD]
      omega
    · simp only [Reg.SLM_L1BASE, Reg.HVC_PEND]
      omega
  obtain ⟨hseal, hplain⟩ := j.blankEntries_one q hread' hvwalk (State.mem_of_wipe hcorr rfl)
  generalize j.blankEntries q (s.queue q).head 1 = b at hflush hseal hplain
  have hbyte (x : Nat) : j.byte x = s.byte x := by rw [State.byte, hmem]; rfl
  rw [hflush]
  refine ⟨fun hs => (hseal hs).trans hmem, fun hs => ⟨(hplain hs).1, fun x hx => ((hplain hs).2 x hx).trans (hbyte x)⟩⟩

end Flushed

section Written
variable (d : State) {q : Nat}

/-- The queue that QM_QSEL names, after the code is shown. -/
theorem State.queue_qstatOf (code p : Nat) : (d.qstatOf code).queue p = d.queue p := rfl

/-- STOP through QM_QCTRL (R99). -/
theorem State.stopped_spec : let t := (d.qstatOf 0).qStop q
    t.fld Reg.QM_QSTAT 0 8 = 0 ∧ t.queue q = (if (d.queue q).state = QState.flushing then { d.queue q with resumeSt := QState.stopped }
      else { d.queue q with state := QState.stopped }) ∧ (∀ i, q ∉ (t.seamOf i).members) ∧
    (∀ q', q' ≠ q → t.queue q' = d.queue q') ∧ (∀ r, r ≠ Reg.QM_QSTAT → r ≠ Reg.SCH_STATUS → t.reg r = d.reg r) ∧
    t = { d with regs := t.regs, queues := t.queues, seams := t.seams } := by
  obtain ⟨hcode, honly, hother⟩ := d.qstatOf_spec (code := 0) (by decide)
  obtain ⟨hat, hout, hothers, hreg, hw⟩ := (d.qstatOf 0).qStop_spec q
  simp only [State.queue_qstatOf] at hat hothers
  intro t
  refine ⟨(State.fld_of_reg (hreg _ (by decide)) ..).trans hcode, hat, hout, hothers,
    fun r h1 h2 => (hreg r h2).trans (hother r (by simpa using h1)), State.eq_of_wipe_seams (hw.trans ?_)⟩
  exact State.setFld_wipe _ _ _ _ _ _ (by decide)

/-- RESUME through QM_QCTRL, before the target is judged (R99). -/
theorem State.unpaused_written : let t := (d.qstatOf 0).unpaused q
    t.fld Reg.QM_QSTAT 0 8 = 0 ∧ t.queue q = (if (d.queue q).state = QState.flushing then { d.queue q with resumeSt := QState.run, err := 0 }
      else { d.queue q with state := QState.run, err := 0 }) ∧ (∀ i, q ∉ (t.seamOf i).members) ∧
    (∀ q', q' ≠ q → t.queue q' = d.queue q') ∧ (∀ r, r ≠ Reg.QM_QSTAT → r ≠ Reg.SCH_STATUS → t.reg r = d.reg r) ∧
    t.wipe 655376 = d.wipe 655376 := by
  obtain ⟨hcode, honly, hother⟩ := d.qstatOf_spec (code := 0) (by decide)
  obtain ⟨hat, hout, hothers, hreg, hw⟩ := (d.qstatOf 0).unpaused_spec q
  simp only [State.queue_qstatOf] at hat hothers
  intro t
  refine ⟨(State.fld_of_reg (hreg _ (by decide)) ..).trans hcode, hat, hout, hothers,
    fun r h1 h2 => (hreg r h2).trans (hother r (by simpa using h1)), hw.trans ?_⟩
  exact State.setFld_wipe _ _ _ _ _ _ (by decide)

/-- The target stands at Apron for a lost vote also where the code is shown. -/
theorem State.voteHeld_written : ((d.qstatOf 0).unpaused q).voteHeld q = true ↔ (d.queue q).cls = 2 ∧
    ((d.queue q).ttype = 1 ∨ (d.queue q).ttype = 2) ∧
    (d.cuff (if (d.queue q).ttype = 2 then 2 * (d.queue q).target else (d.queue q).target)).apVote = true := by
  rw [State.voteHeld_unpaused]
  exact State.voteHeld_iff ..

/-- The states from which RESUME judges a target anew (R122). -/
theorem State.resumed_spec {u : State} (hw : u.wipe 655376 = d.wipe 655376) (c p : Nat) (y : Pair) :
    (∀ t, t = u.endCause c .vote → (t.cuff c).apVote = false ∧ t.pairs = d.pairs ∧ t.regs = u.regs ∧ t.queues = u.queues ∧
      t.seams = u.seams ∧ t.wipe 696336 = d.wipe 696336) ∧
    (∀ t, t = ((u.setPairSt p y).endCause (2 * p) .vote).endCause (2 * p + 1) .vote → t.pairSt p = y ∧ (t.cuff (2 * p)).apVote = false ∧
      (t.cuff (2 * p + 1)).apVote = false ∧ t.regs = u.regs ∧ t.queues = u.queues ∧ t.seams = u.seams ∧ t.wipe 696336 = d.wipe 696336) := by
  have hgrown : u.wipe 696336 = d.wipe 696336 := State.wipe_mono hw (by decide)
  have hend (v : State) (c : Nat) : (v.endCause c .vote).wipe 696336 = v.wipe 696336 := State.setCuff_wipe _ _ _ _ (by decide)
  refine ⟨fun t ht => ?_, fun t ht => ?_⟩
  · subst ht
    refine ⟨?_, (State.pairs_of_wipe hw rfl : u.pairs = d.pairs), rfl, rfl, rfl, (hend ..).trans hgrown⟩
    rw [State.cuff_endCause, if_pos rfl]
    rfl
  · subst ht
    refine ⟨State.pairSt_setPairSt .. |>.trans (if_pos rfl), ?_, ?_, rfl, rfl, rfl,
      (hend ..).trans ((hend ..).trans ((State.setPairSt_wipe _ _ _ _ (by decide)).trans hgrown))⟩
    · rw [State.cuff_endCause, if_neg (by omega), State.cuff_endCause, if_pos rfl]
      rfl
    · rw [State.cuff_endCause, if_pos rfl]
      rfl

/-- Two of the commands at once are refused (R385). -/
theorem State.bothRefused_spec : let t := (d.cmdRefused 9).qstatOf 8
    t.bit (Reg.PG_ERR 9) 4 = true ∧ t.fld Reg.QM_QSTAT 0 8 = 8 ∧ OnlyRegs [Reg.PG_ERR 9, Reg.PG_ERR_INFO 9, Reg.QM_QSTAT] d t := by
  have hbit : (d.cmdRefused 9).bit (Reg.PG_ERR 9) 4 = true := State.bit_pgErrCode_same d 9 (by decide) _
  have honly : OnlyRegs [Reg.PG_ERR 9, Reg.PG_ERR_INFO 9, Reg.QM_QSTAT] d (d.cmdRefused 9) :=
    (OnlyRegs.refl _ d).pgErrCode (page := 9) (by simp) (by simp) 4 Code.rejectClass
  generalize d.cmdRefused 9 = u at hbit honly
  refine ⟨?_, (u.qstatOf_spec (by decide)).1, honly.setFld (by simp) ..⟩
  exact (State.bit_setFld_other _ (by decide) ..).trans hbit

end Written

theorem State.queue_of_queues {s t : State} (h : t.queues = s.queues) (q : Nat) : t.queue q = s.queue q := by rw [State.queue, State.queue, h]

/-- Settles O22: each command by the one state it writes; FLUSH through the withdrawal, the judging anew and the rewriting. -/
theorem queueControl : Obligations.QueueControl := by
  unfold Obligations.QueueControl
  intro s v fn hv hfn d q x code only shows held qregs
  refine ⟨fun hreach => ?page, ?flushEnd, ?window⟩
  case page =>
    have hwrite (w : Nat) : s.pf 9 0x54 w (fun s => s.writeQctrl w) = d.writeQctrl w := State.pf_of_reach hreach ..
    have hstop : exec (.qmQctrlStop v) s = .next (d.writeQctrl (Nat.lor v 1)) := congrArg _ (hwrite _)
    have hresume : exec (.qmQctrlResume v) s = .next (d.writeQctrl (Nat.lor v 2)) := congrArg _ (hwrite _)
    have hflush : exec (.qmQctrlFlush v) s = .next (d.writeQctrl (Nat.lor v 4)) := congrArg _ (hwrite _)
    have hrefresh : exec (.qmQctrlRefresh v) s = .next (d.writeQctrl (Nat.lor v 8)) := congrArg _ (hwrite _)
    have hqsel : exec (.qmQsel v) s = .next (d.writeQsel v) := congrArg _ (State.pf_of_reach hreach ..)
    refine ⟨fun hfree c hc ho => ?free, fun ho hlive => ?stop, fun ho hlive => ?resume, fun ho hlive => ?flush,
      fun i j hi hj hij hb c hc => ?both, fun ho => ?refresh, ?qsel⟩
    case free =>
      have hwritten {i : Nat} (hi : i < 3) (ho : only i) : d.writeQctrl (Nat.lor v (2 ^ i)) = d.qstatOf 8 :=
        d.writeQctrl_free _ (setCount_of_only ho) (by rw [bits_of_only ho (by decide)]; exact decide_eq_false (by omega)) hfree
      obtain ⟨hcode, honly⟩ := d.qstatOf_spec (code := 8) (by decide)
      simp only [List.mem_cons, List.not_mem_nil, or_false] at hc
      rcases hc with rfl | rfl | rfl
      · exact ⟨_, hstop.trans (congrArg _ (hwritten (i := 0) (by decide) ho)), hcode, honly⟩
      · exact ⟨_, hresume.trans (congrArg _ (hwritten (i := 1) (by decide) ho)), hcode, honly⟩
      · exact ⟨_, hflush.trans (congrArg _ (hwritten (i := 2) (by decide) ho)), hcode, honly⟩
    case stop => exact ⟨_, hstop.trans (congrArg _ (d.writeQctrl_stop ho hlive rfl)), d.stopped_spec⟩
    case resume =>
      have hwritten := d.writeQctrl_resume ho hlive rfl
      simp only [State.qResume_eq, State.queue_qstatOf] at hwritten
      have hheld := d.voteHeld_written (q := q)
      obtain ⟨hcode, hat, hout, hothers, hreg, hw⟩ := d.unpaused_written (q := q)
      generalize (d.qstatOf 0).unpaused q = u at hwritten hheld hcode hat hout hothers hreg hw
      obtain ⟨hcuff, hpair⟩ := d.resumed_spec hw (d.queue q).target (d.queue q).target { u.pairSt (d.queue q).target with st := 0 }
      by_cases hh : u.voteHeld q = true
      · by_cases h1 : x.ttype = 1
        · obtain ⟨t, ht⟩ : ∃ t, t = u.endCause x.target .vote := ⟨_, rfl⟩
          obtain ⟨hvote, hpairs, hregs, hqueues, hseams, hframe⟩ := hcuff t ht
          refine ⟨t, (State.fld_of_reg (State.reg_of_regs hregs _) ..).trans hcode, (State.queue_of_queues hqueues _).trans hat,
            fun i => by rw [State.seamOf, hseams]; exact hout i, fun q' h => (State.queue_of_queues hqueues _).trans (hothers q' h),
            fun r h h' => (State.reg_of_regs hregs _).trans (hreg r h h'), State.eq_of_wipe_resumed hframe,
            fun hn => absurd (hheld.mp hh) hn, fun _ _ => ⟨?_, hvote, hpairs⟩, fun _ h2 => absurd (h1.symm.trans h2) (by decide)⟩
          rw [ht]
          exact hresume.trans (congrArg _ (hwritten.trans ((if_neg fun h => absurd (hh.symm.trans h) (by decide)).trans (if_pos h1))))
        · have h2 : x.ttype = 2 := (hheld.mp hh).2.1.resolve_left h1
          obtain ⟨t, ht⟩ : ∃ t, t = ((u.setPairSt x.target { u.pairSt x.target with st := 0 }).endCause (2 * x.target) .vote).endCause
            (2 * x.target + 1) .vote := ⟨_, rfl⟩
          obtain ⟨hpairst, hvoteA, hvoteB, hregs, hqueues, hseams, hframe⟩ := hpair t ht
          refine ⟨t, (State.fld_of_reg (State.reg_of_regs hregs _) ..).trans hcode, (State.queue_of_queues hqueues _).trans hat,
            fun i => by rw [State.seamOf, hseams]; exact hout i, fun q' h => (State.queue_of_queues hqueues _).trans (hothers q' h),
            fun r h h' => (State.reg_of_regs hregs _).trans (hreg r h h'), State.eq_of_wipe_resumed hframe,
            fun hn => absurd (hheld.mp hh) hn, fun _ h => absurd h h1, fun _ _ => ⟨?_, by rw [hpairst], hvoteA, hvoteB⟩⟩
          rw [ht]
          exact hresume.trans (congrArg _ (hwritten.trans ((if_neg fun h => absurd (hh.symm.trans h) (by decide)).trans (if_neg h1))))
      · have hfalse : u.voteHeld q = false := Bool.eq_false_iff.mpr hh
        refine ⟨u, hcode, hat, hout, hothers, hreg, State.eq_of_wipe_resumed (State.wipe_mono hw (by decide)), fun _ => ⟨?_,
          State.cuffs_of_wipe hw rfl, State.pairs_of_wipe hw rfl⟩, fun h => absurd (hheld.mpr h) hh, fun h => absurd (hheld.mpr h) hh⟩
        exact hresume.trans (congrArg _ (hwritten.trans (if_pos hfalse)))
    case flush =>
      obtain ⟨u, hu⟩ : ∃ u, u = d.qstatOf 0 := ⟨_, rfl⟩
      have hwritten := d.writeQctrl_flush ho hlive rfl
      rw [← hu] at hwritten
      obtain ⟨hflushing, hleft⟩ := u.qFlush_refs q
      have huw : u.wipe 16 = d.wipe 16 := hu ▸ State.setFld_wipe _ _ _ _ _ _ (by decide)
      have hreg (r : Nat) (hr : r ≠ Reg.QM_QSTAT) : u.reg r = d.reg r := hu ▸ State.reg_setFld_other _ hr ..
      have hsticks (f : Flight) : u.sticksAt f = d.sticksAt f := State.sticksAt_congr (State.cuffs_of_wipe huw rfl)
        (State.fifos_of_wipe huw rfl) (State.tb_of_wipe huw rfl) (hreg _ (by decide)) (hreg _ (by decide)) f
      obtain ⟨hrefs, hfifo⟩ := u.cleared_spec q
      have hqueue (p : Nat) : u.queue p = d.queue p := by rw [State.queue, State.queues_of_wipe huw rfl]; rfl
      refine ⟨u.cleared q, u.qFlush q, hflush.trans (congrArg _ hwritten), hflushing, hleft, fun r hr hq => ?_, fun r hr hkept => ?_,
        fun c f hf => ?_, fun a v p hc hk hfill hread hwalk => ?_⟩
      · exact hsticks r.fl ▸ ((hrefs r).mp hr).2 hq
      · refine (hrefs r).mpr ⟨State.refs_of_wipe huw rfl ▸ hr, fun hof => ?_⟩
        rcases hkept with h | h
        · exact absurd (h.symm.trans hof) (by decide)
        · exact .inl h
      · obtain ⟨hmem, hof⟩ := hfifo c f hf
        rw [State.cuff, State.cuffs_of_wipe huw rfl] at hmem
        exact ⟨hmem, fun h => hsticks f ▸ hof h⟩
      · obtain ⟨hwalk', hread'⟩ := State.readEntry_congr (hqueue q) (State.mem_of_wipe huw rfl) (State.eccBad_of_wipe huw rfl)
          (hreg _ (by simp only [Reg.SLM_L1BASE, Reg.QM_QSTAT]; omega)) hwalk hread
        have hx : u.queue q = x := hqueue q
        rw [← hx] at hread' hfill hwalk'
        have hbyte (b : Nat) : u.byte b = d.byte b := by rw [State.byte, State.mem_of_wipe huw rfl]; rfl
        obtain ⟨hseal, hplain⟩ := u.mem_qFlush q (fun c => by rw [State.cuff, State.cuffs_of_wipe huw rfl]; exact hc c)
          (fun k => by rw [State.fifo, State.fifos_of_wipe huw rfl]; exact hk k) hfill hread' hwalk'
        exact ⟨fun hs => (hseal hs).trans (State.mem_of_wipe huw rfl), fun hs => ⟨(hplain hs).1, fun b hb =>
          ((hplain hs).2 b hb).trans (hbyte b)⟩⟩
    case both =>
      have hwritten : d.writeQctrl (Nat.lor v (2 ^ i)) = (d.cmdRefused 9).qstatOf 8 := d.writeQctrl_refused _ (setCount_of_two hi hj hij hb)
      obtain ⟨herr, hcode, honly⟩ := d.bothRefused_spec
      rcases (by omega : i = 0 ∨ i = 1 ∨ i = 2) with rfl | rfl | rfl
      · exact ⟨_, Option.some.inj hc ▸ hstop.trans (congrArg _ hwritten), herr, hcode, honly⟩
      · exact ⟨_, Option.some.inj hc ▸ hresume.trans (congrArg _ hwritten), herr, hcode, honly⟩
      · exact ⟨_, Option.some.inj hc ▸ hflush.trans (congrArg _ hwritten), herr, hcode, honly⟩
    case refresh =>
      obtain ⟨hshow, hkeep, honly⟩ := (d.qstatOf (if x.state = QState.free then 8 else 0)).qmSnap_spec q
      obtain ⟨hcode, hstat⟩ := d.qstatOf_spec (code := if x.state = QState.free then 8 else 0) (by split <;> decide)
      refine ⟨_, hrefresh.trans (congrArg _ (d.writeQctrl_refresh ho)), hshow, ?_, (hstat.trans honly).mono (by simp [qregs])⟩
      exact (State.fld_of_reg (hkeep _ fun i hi => by simp only [Reg.QM_QSTAT, Reg.QM_QDESC]; omega) ..).trans hcode
    case qsel =>
      obtain ⟨hshow, hkeep, honly⟩ := (d.setN Reg.QM_QSEL (v % 2 ^ 20)).qmSnap_spec (v % 2 ^ 20)
      have hsel : OnlyRegs [Reg.QM_QSEL] d (d.setN Reg.QM_QSEL (v % 2 ^ 20)) := d.onlyRegs_setN ..
      refine ⟨_, hqsel, ?_, hshow, (hsel.trans honly).mono (by simp [qregs])⟩
      refine (State.regN_of_reg (hkeep _ fun i hi => by simp only [Reg.QM_QSEL, Reg.QM_QDESC]; omega)).trans ?_
      rw [State.regN_setN, if_pos rfl]
      omega
  case flushEnd =>
    intro p hp hst y
    have hexec : exec (.flushEnd p) s = .next (s.flushEnd p) := onUnit_of (by simpa [okQueue] using hp) _
    have heq : s.flushEnd p = match y.heldDb with
        | none => s.setQueue p { y with state := y.resumeSt, heldDb := none }
        | some i => (s.setQueue p { y with state := y.resumeSt, heldDb := none }).doorbell y.tenant p i :=
      if_neg (not_not.mpr hst)
    refine ⟨fun hn => ?_, fun i hi => ?_⟩
    · rw [hexec, heq, hn]
    · rw [hexec, heq, hi]
  case window =>
    intro hreach d own
    have hexec : exec (.tenQsel fn v) s = .next (d.writeTenQsel fn v) :=
      (onUnit_of (by simpa [okFn] using hfn) _).trans (congrArg _ (State.ten_of_reach hreach (by decide) ..))
    obtain ⟨hshow, hkeep, honly⟩ := (d.setN (Reg.TEN_QSEL fn) (v % 2 ^ 20)).setWords_spec (k := Reg.TEN_QINFO fn)
      (fun i j h => by simp only [Reg.TEN_QINFO] at h; omega) (if own then (d.queue (v % 2 ^ 20)).desc else 0)
    have hsel : OnlyRegs [Reg.TEN_QSEL fn] d (d.setN (Reg.TEN_QSEL fn) (v % 2 ^ 20)) := d.onlyRegs_setN ..
    have hwritten : d.writeTenQsel fn v = (List.range 4).foldl (fun s i => s.setN (Reg.TEN_QINFO fn i)
        (bits (if own then (d.queue (v % 2 ^ 20)).desc else 0) (32 * i) 32)) (d.setN (Reg.TEN_QSEL fn) (v % 2 ^ 20)) := by
      unfold State.writeTenQsel
      by_cases ho : own
      · simp only [decide_eq_true ho.1, decide_eq_true ho.2, Bool.and_self, if_true, if_pos ho]
      · rw [if_neg ho]
        have hno : (decide ((d.queue (v % 2 ^ 20)).state ≠ QState.free) && decide ((d.queue (v % 2 ^ 20)).tenant = fn)) = false :=
          Bool.eq_false_iff.mpr fun h => ho (by simpa [own] using h)
        simp only [hno, Bool.false_eq_true, if_false]
    rw [← hwritten] at hshow hkeep honly
    refine ⟨_, hexec, ?_, fun i hi => (hshow i hi).trans ?_, (hsel.trans honly).mono (by simp)⟩
    · refine (State.regN_of_reg (hkeep _ fun i hi => by simp only [Reg.TEN_QSEL, Reg.TEN_QINFO]; omega)).trans ?_
      rw [State.regN_setN, if_pos rfl]
      omega
    · by_cases ho : own
      · rw [if_pos ho, if_pos ho]
      · rw [if_neg ho, if_neg ho]
        simp [bits]

end Sys2Proof.Machine

/-! Output actions at a single cuff (R50-R55): the end of periodic mode, the edge of an action and the later edges of PULSE and TRAIN. -/

namespace Sys2Proof.Machine

open Sys2Proof

/-! ### The end of periodic mode (R55) -/

/-- What an output action leaves unchanged besides its cuff: MODE may leave periodic, and the cuff's edges are counted. -/
structure ActOnly (c : Nat) (s t : State) : Prop where
  cuff : ∀ e, e ≠ c → t.cuff e = s.cuff e
  mode : t.cuffMode c = if s.cuffMode c = 1 then 0 else s.cuffMode c
  staged : s.cuffMode c = 1 → (t.staged (Reg.CUF_CFG c)).toNat % 4 = 0
  rest : t.fld (Reg.CUF_CFG c) 2 30 = s.fld (Reg.CUF_CFG c) 2 30
  reg : ∀ r, r ≠ Reg.CUF_CFG c → r ≠ Reg.CUF_EDGES c → t.reg r = s.reg r
  frame : t = { s with regs := t.regs, shadow := t.shadow, cuffs := t.cuffs }

section Ended
variable {c : Nat} {s t u : State}

theorem ActOnly.trans_cuffOnly (h : ActOnly c s t) (g : CuffOnly c t u) : ActOnly c s u where
  cuff e he := (g.cuff e he).trans (h.cuff e he)
  mode := g.cuffMode.trans h.mode
  staged hm := by rw [g.staged (edges_ne c).1]; exact h.staged hm
  rest := (State.fld_of_reg (g.reg _ (edges_ne c).1) ..).trans h.rest
  reg r hr he := (g.reg r he).trans (h.reg r hr he)
  frame := by rw [g.frame, h.frame]

/-- MODE set to 0 in effect and in the shadow. -/
theorem State.setMode_zero (s : State) (c : Nat) : (s.setMode c 0).fld (Reg.CUF_CFG c) 0 2 = 0 ∧
    ((s.setMode c 0).staged (Reg.CUF_CFG c)).toNat % 4 = 0 ∧ (s.setMode c 0).fld (Reg.CUF_CFG c) 2 30 = s.fld (Reg.CUF_CFG c) 2 30 ∧
    (∀ r, r ≠ Reg.CUF_CFG c → (s.setMode c 0).reg r = s.reg r) ∧
    s.setMode c 0 = { s with regs := (s.setMode c 0).regs, shadow := (s.setMode c 0).shadow } := by
  have hreg (r : Nat) : (s.setMode c 0).reg r = (s.setFld (Reg.CUF_CFG c) 0 2 0).reg r := rfl
  refine ⟨?_, ?_, ?_, fun r hr => (hreg r).trans (State.reg_setFld_other _ hr ..), rfl⟩
  · exact (State.fld_of_reg (hreg _) ..).trans (State.fld_setFld_same _ _ _ _ _ (by decide))
  · rw [State.setMode, State.setBoth]
    rw [State.staged_setStaged, if_pos rfl]
    rw [putBits_eq, word, BitVec.toNat_ofNat]
    omega
  · exact (State.fld_of_reg (hreg _) ..).trans (State.fld_setFld_apart _ _ _ _ _ _ _ (by decide) (by decide))

/-- What the end of periodic mode leaves (R55). -/
theorem State.endPeriodic_spec (s : State) (c : Nat) : ActOnly c s (s.endPeriodic c) ∧
    (s.endPeriodic c).cuff c = { s.cuff c with perRun := if s.cuffMode c = 1 then false else (s.cuff c).perRun } := by
  unfold State.endPeriodic
  split
  · next h1 =>
    obtain ⟨hmode, hstaged, hrest, hreg, hframe⟩ := s.setMode_zero c
    generalize s.setMode c 0 = u at hmode hstaged hrest hreg hframe
    have hcuffs (e : Nat) : u.cuff e = s.cuff e := by rw [hframe]; rfl
    refine ⟨⟨fun e he => ?_, ?_, fun _ => hstaged, hrest, fun r hr _ => hreg r hr, ?_⟩, ?_⟩
    · rw [State.cuff_setCuff, if_neg he, hcuffs]
    · exact hmode.trans (if_pos h1).symm
    · rw [hframe]
      rfl
    · rw [State.cuff_setCuff, if_pos rfl]
  · next h1 => exact ⟨⟨fun _ _ => rfl, (if_neg h1).symm, fun h => absurd h h1, rfl, fun _ _ _ => rfl, rfl⟩, rfl⟩

section Read
variable (h : ActOnly c s t)
include h

/-- The fields of CUF_CFG above MODE. -/
theorem ActOnly.cfg_above : t.regN (Reg.CUF_CFG c) / 4 = s.regN (Reg.CUF_CFG c) / 4 := by
  have hrest := h.rest
  have hlt (u : State) : u.regN (Reg.CUF_CFG c) < 2 ^ 32 := u.regN_lt _
  have hs := hlt s
  have ht := hlt t
  simp only [State.fld, bits] at hrest
  omega

theorem ActOnly.activeLevel : t.activeLevel c = s.activeLevel c := by
  have habove := h.cfg_above
  simp only [State.activeLevel, State.bit, bitAt]
  congr 3
  omega

theorem ActOnly.filter : t.fld (Reg.CUF_CFG c) 8 8 = s.fld (Reg.CUF_CFG c) 8 8 := by
  have habove := h.cfg_above
  simp only [State.fld, bits]
  omega

theorem ActOnly.pairEn (p : Nat) : t.pairEn p = s.pairEn p :=
  State.bit_of_reg (h.reg _ (by
    simp only [Reg.SLV_PAIR_CFG, Reg.CUF_CFG]
    rcases Nat.lt_trichotomy (p / 16) (c / 32) with h | h | h <;> omega) ((edges_ne c).2.1 _ _ (Nat.mod_lt _ (by decide)))) 0

theorem ActOnly.circle : t.circle = s.circle :=
  congrArg (· + 1) (State.pair_of_reg (h.reg _ (by simp only [Reg.TB_RELOAD_L, Reg.CUF_CFG]; omega) (edges_ne c).2.2.2.1)
    (h.reg _ (by simp only [Reg.TB_RELOAD_H, Reg.CUF_CFG]; omega) (edges_ne c).2.2.2.2))

theorem ActOnly.plus (a d : Nat) : t.plus a d = s.plus a d := by rw [State.plus, State.plus, h.circle]

theorem ActOnly.reached (a : Nat) : t.reached a = s.reached a := by
  have htb : t.tb = s.tb := by rw [h.frame]
  rw [State.reached, State.reached, htb, State.atOrAfter, State.atOrAfter, h.circle]

theorem ActOnly.shifted (a : Nat) (d : Int) : t.shifted a d = s.shifted a d := by
  rw [State.shifted, State.shifted, h.plus, State.minus, State.minus, h.circle]

theorem ActOnly.stampless : t.stampless = s.stampless := by
  have hpwr : t.pwr = s.pwr := by rw [h.frame]
  have hcoarse : t.coarse = s.coarse := State.bit_of_reg (h.reg _ (by simp only [Reg.TB_STATUS, Reg.CUF_CFG]; omega)
    (by simp only [Reg.TB_STATUS, Reg.CUF_EDGES]; omega)) 2
  rw [State.stampless, State.stampless, hcoarse, State.frozen, State.frozen, hpwr]

theorem ActOnly.filterOf (_ : c < 1024) (hlent : (t.cuff c).lent = (s.cuff c).lent) : t.filterOf c = s.filterOf c := by
  simp only [State.filterOf, hlent]
  split
  · exact State.fld_of_reg (h.reg _ (by simp only [Reg.FBK_CFG, Reg.CUF_CFG]; omega) (by simp only [Reg.FBK_CFG, Reg.CUF_EDGES]; omega)) ..
  · exact h.filter

theorem ActOnly.outputOn (hpair : s.pairEn (c / 2) = false) : t.outputOn c = decide (s.cuffMode c ≠ 2) := by
  rw [State.outputOn_alone ((h.pairEn _).trans hpair), h.mode]
  split
  · next h1 => simp [h1]
  · rfl

theorem ActOnly.sleeve (n : Nat) : t.sleeve n = s.sleeve n := by
  rw [h.frame]
  rfl

theorem ActOnly.tick : t.tick = s.tick := by rw [h.frame]

end Read

end Ended

/-! ### One edge at the time of an action (R51) -/

section Edge
variable (s : State) (c : Nat)

/-- The pad follows an edge: the cuff's output stage is on, its bank is supplied, and the level changes there too (R386). -/
def State.padSwings (on l : Bool) : Bool :=
  on && !(s.sleeve (c / 32)).absent && ((s.cuff c).driven != on || (s.cuff c).level != l) && (s.cuff c).pad != l

/-- A cuff after an edge of time `t` to a level, its output stage on or off. -/
def State.swung (on l : Bool) (t : Nat) : Cuff :=
  let k := s.cuff c
  { k with
    driven := on, level := l, lastEdge := if k.driven = on ∧ k.level = l then k.lastEdge else some t,
    pad := if s.padSwings c on l then l else k.pad, padTick := if s.padSwings c on l then s.tick else k.padTick,
    filt := if s.padSwings c on l then (if s.stampless || k.filt.isSome then none else some (l, t, s.tick + s.filterOf c)) else k.filt }

theorem State.drivenTo_eq (l : Bool) (t : Nat) : s.drivenTo c l t = s.swung c (s.outputOn c) l t := by
  unfold State.drivenTo State.swung State.padSwings State.padded
  generalize s.outputOn c = on
  generalize s.cuff c = k
  dsimp only
  by_cases hsame : k.driven = on ∧ k.level = l
  · obtain ⟨hd, hl⟩ := hsame
    subst hd hl
    simp
  · have hmoved : (k.driven != on || k.level != l) = true := by
      rcases not_and_or.mp hsame with h | h <;> simp [h]
    rw [if_neg hsame, if_neg hsame, hmoved]
    by_cases hon : (on && !(s.sleeve (c / 32)).absent) = true
    · rw [if_pos hon, hon]
      by_cases hp : k.pad = l <;> simp [hp]
    · rw [if_neg hon, Bool.eq_false_iff.mpr hon]
      simp

variable {s c} {v : State} {f : Flight} (hc : c < 1024) (hpair : s.pairEn (c / 2) = false)
include hpair

/-- An edge of a cuff after the end of its periodic mode: its count of edges, and what it leaves. -/
theorem State.driven_spec {u : State} (hu : ActOnly c s u) {b : Bool} (hcuff : u.cuff c = { s.cuff c with perRun := b })
    (hc : c < 1024) (hheld : (s.cuff c).held = false) (l : Bool) (t : Nat) :
    (u.driveCuff c l t).cuff c = { s.swung c (decide (s.cuffMode c ≠ 2)) l t with perRun := b } ∧
    ActOnly c s (u.driveCuff c l t) ∧
    (u.driveCuff c l t).regN (Reg.CUF_EDGES c) = if (s.cuff c).driven = decide (s.cuffMode c ≠ 2) ∧ (s.cuff c).level = l
      then u.regN (Reg.CUF_EDGES c) else (u.regN (Reg.CUF_EDGES c) + 1) % 2 ^ 32 := by
  obtain ⟨hat, honly, hcount⟩ := State.driveCuff_alone hc ((hu.pairEn _).trans hpair) (by rw [hcuff]; exact hheld) l t
  rw [hcuff, hu.outputOn hpair] at hcount
  refine ⟨?_, hu.trans_cuffOnly honly, hcount⟩
  have hswings (on : Bool) : u.padSwings c on l = s.padSwings c on l := by
    rw [State.padSwings, State.padSwings, hcuff, hu.sleeve]
  rw [hat, State.drivenTo_eq, hu.outputOn hpair, State.swung, State.swung, hswings, hu.tick, hu.stampless,
    hu.filterOf hc (by rw [hcuff]), hcuff]

end Edge

/-- The cuffs of the actions at one cuff: the end of periodic mode, its count of edges unchanged. -/
theorem State.edges_endPeriodic (s : State) (c : Nat) : (s.endPeriodic c).regN (Reg.CUF_EDGES c) = s.regN (Reg.CUF_EDGES c) := by
  unfold State.endPeriodic
  split
  · exact State.regN_of_reg ((s.setMode_zero c).2.2.2.1 _ (edges_ne c).1.symm)
  · rfl

section Acts
variable {s : State} {c : Nat} {f : Flight} (hc : c < 1024) (hpair : s.pairEn (c / 2) = false) (htarget : f.target = c)
  (hheld : (s.cuff c).held = false)
include hc hpair htarget hheld

/-- An output action with one edge at its time (R51, R52, R55). -/
theorem State.drivenAct_spec (l : Bool) : ∃ t : State, s.drivenAct f l = t.finish f ∧
    t.cuff c = { s.swung c (decide (s.cuffMode c ≠ 2)) l f.due with
      perRun := if s.cuffMode c = 1 then false else (s.cuff c).perRun, lastT := some f.due, lastEdge := (t.cuff c).lastEdge } ∧
    (((s.cuff c).driven ≠ decide (s.cuffMode c ≠ 2) ∨ (s.cuff c).level ≠ l) →
      t.regN (Reg.CUF_EDGES c) = (s.regN (Reg.CUF_EDGES c) + 1) % 2 ^ 32 ∧ (t.cuff c).lastEdge = some f.due) ∧
    (¬((s.cuff c).driven ≠ decide (s.cuffMode c ≠ 2) ∨ (s.cuff c).level ≠ l) →
      t.regN (Reg.CUF_EDGES c) = s.regN (Reg.CUF_EDGES c)) ∧ ActOnly c s t := by
  obtain ⟨hend, hcuff⟩ := s.endPeriodic_spec c
  obtain ⟨hat, honly, hcount⟩ := State.driven_spec hpair hend hcuff hc hheld l f.due
  rw [s.edges_endPeriodic] at hcount
  obtain ⟨moved, hact⟩ : ∃ moved : Bool, s.drivenAct f l = (((s.endPeriodic c).driveCuff c l f.due).occupy c f.due f.due moved).finish f :=
    ⟨!((s.endPeriodic c).cuff c).driven || (((s.endPeriodic c).cuff c).level != l), by rw [State.drivenAct, htarget]⟩
  generalize (s.endPeriodic c).driveCuff c l f.due = u at hat honly hcount hact
  have hocc : (u.occupy c f.due f.due moved).cuff c =
      { u.cuff c with lastT := some f.due, lastEdge := if moved then some f.due else (u.cuff c).lastEdge } := by
    rw [State.occupy, State.cuff_setCuff, if_pos rfl, if_pos rfl]
  refine ⟨_, hact, ?_, fun hm => ⟨?_, ?_⟩, fun hm => ?_, honly.trans_cuffOnly (.of_setCuff ..)⟩
  · rw [hocc, hat]
  · exact hcount.trans (if_neg (by tauto))
  · rw [hocc, hat]
    dsimp only [State.swung]
    cases moved
    · simp only [Bool.false_eq_true, if_false]
      exact if_neg (not_and_or.mpr hm)
    · rfl
  · exact hcount.trans (if_pos (by tauto))

omit hc htarget in
/-- HIZ: the output stage turns off (R51). -/
theorem State.actHiz_spec (hready : s.headReady 1 c 0x04 = some f) : ∃ t : State, s.actHiz c = t.finish f ∧
    t.cuff c = { s.swung c false (s.cuff c).level f.due with
      perRun := if s.cuffMode c = 1 then false else (s.cuff c).perRun, lastT := some f.due, lastEdge := (t.cuff c).lastEdge } ∧
    ((s.cuff c).driven = true → t.regN (Reg.CUF_EDGES c) = (s.regN (Reg.CUF_EDGES c) + 1) % 2 ^ 32 ∧ (t.cuff c).lastEdge = some f.due) ∧
    (¬(s.cuff c).driven = true → t.regN (Reg.CUF_EDGES c) = s.regN (Reg.CUF_EDGES c)) ∧ ActOnly c s t := by
  obtain ⟨hend, hcuff⟩ := s.endPeriodic_spec c
  have hedges := s.edges_endPeriodic c
  have hact : s.actHiz c = (((s.endPeriodic c).floatCuff c f.due).occupy c f.due f.due (s.cuff c).driven).finish f := by
    unfold State.actHiz
    rw [hready]
  have hswung : s.swung c false (s.cuff c).level f.due =
      { s.cuff c with driven := false, lastEdge := (s.swung c false (s.cuff c).level f.due).lastEdge } := by
    simp [State.swung, State.padSwings]
  generalize s.endPeriodic c = u at hend hcuff hedges hact
  have hfloat : u.floatCuff c f.due = if (s.cuff c).driven then (u.setCuff c { u.cuff c with driven := false }).edgeMade c f.due
      else u.setCuff c { u.cuff c with driven := false } := by
    unfold State.floatCuff
    dsimp only
    rw [hcuff, if_neg (by simp [hheld])]
  obtain ⟨w, hw⟩ : ∃ w, w = u.setCuff c { u.cuff c with driven := false } := ⟨_, rfl⟩
  have hwcuff : w.cuff c = { u.cuff c with driven := false } := by rw [hw, State.cuff_setCuff, if_pos rfl]
  have hwonly : CuffOnly c u w := hw ▸ .of_setCuff ..
  have hwedges : w.regN (Reg.CUF_EDGES c) = u.regN (Reg.CUF_EDGES c) := hw ▸ rfl
  rw [← hw] at hfloat
  cases hd : (s.cuff c).driven with
  | false =>
    rw [hfloat, hd, if_neg (by decide)] at hact
    have hocc : (w.occupy c f.due f.due false).cuff c = { w.cuff c with lastT := some f.due } := by simp [State.occupy, State.cuff_setCuff]
    refine ⟨_, hact, ?_, fun h => absurd h (by decide), fun _ => hwedges.trans hedges,
      hend.trans_cuffOnly (hwonly.trans (.of_setCuff ..))⟩
    rw [hocc, hwcuff, hcuff, hswung]
  | true =>
    obtain ⟨hat, hcount, honly⟩ := w.edgeCounted_cuff (c := c) f.due
    have hmade : w.edgeMade c f.due = w.edgeCounted c f.due :=
      State.edgeMade_alone ((hwonly.pairEn _).trans ((hend.pairEn _).trans hpair)) _
    rw [hfloat, hd, if_pos rfl, hmade] at hact
    generalize w.edgeCounted c f.due = y at hact hat hcount honly
    have hocc : (y.occupy c f.due f.due true).cuff c = { y.cuff c with lastT := some f.due, lastEdge := some f.due } := by
      simp [State.occupy, State.cuff_setCuff]
    refine ⟨_, hact, ?_, fun _ => ⟨?_, by rw [hocc]⟩, fun h => absurd rfl h, hend.trans_cuffOnly (hwonly.trans (honly.trans (.of_setCuff ..)))⟩
    · rw [hocc, hat, hwcuff, hcuff, hswung]
    · exact hcount.trans (by rw [hwedges, hedges])

end Acts

/-! ### The later edges of PULSE and TRAIN (R51, R52) -/

section Later
variable {c : Nat} (hc : c < 1024)
include hc

/-- The edges that are made together at a cuff that is no leg. -/
theorem State.driveAll_spec (l : List (Nat × Bool)) : ∀ s : State, s.pairEn (c / 2) = false → (s.cuff c).held = false →
    let t := l.foldl (fun s e => s.driveCuff c e.2 e.1) s
    CuffOnly c s t ∧ (t.cuff c).edges = (s.cuff c).edges ∧ (t.cuff c).lastT = (s.cuff c).lastT ∧
      (t.cuff c).busyTo = (s.cuff c).busyTo ∧ ((s.cuff c).driven = s.outputOn c → (t.cuff c).driven = s.outputOn c) := by
  induction l with
  | nil => exact fun s _ _ => ⟨.refl c s, rfl, rfl, rfl, id⟩
  | cons e l ih =>
    intro s hpair hheld
    obtain ⟨hat, honly, -⟩ := State.driveCuff_alone hc hpair hheld e.2 e.1
    rw [State.drivenTo_eq] at hat
    obtain ⟨u, hu⟩ : ∃ u, u = s.driveCuff c e.2 e.1 := ⟨_, rfl⟩
    rw [← hu] at hat honly
    obtain ⟨hrest, hedges, hlast, hbusy, hdriven⟩ := ih u ((honly.pairEn _).trans hpair) (by rw [hat]; exact hheld)
    rw [hat] at hedges hlast hbusy
    rw [hat, honly.outputOn] at hdriven
    simp only [List.foldl_cons, ← hu]
    exact ⟨honly.trans hrest, hedges, hlast, hbusy, fun _ => hdriven rfl⟩

/-- What the due edges of a cuff that is no leg make of it (R51). -/
theorem State.settleCuff_spec (s : State) (hpair : s.pairEn (c / 2) = false) (hheld : (s.cuff c).held = false) (hserv : s.frozen = false)
    (hdriven : (s.cuff c).driven = s.outputOn c) : CuffOnly c s (s.settleCuff c) ∧
    ((s.settleCuff c).cuff c).edges = (s.cuff c).edges.filter (fun e => !s.reached (s.placed c e.1)) ∧
    ((s.settleCuff c).cuff c).lastT = (s.cuff c).lastT ∧ ((s.settleCuff c).cuff c).busyTo = (s.cuff c).busyTo ∧
    ((s.settleCuff c).cuff c).driven = s.outputOn c ∧
    ((∀ e ∈ (s.cuff c).edges, s.reached (s.placed c e.1) = false) → ((s.settleCuff c).cuff c).level = (s.cuff c).level) := by
  obtain ⟨now, hnow⟩ : ∃ now, now = (s.cuff c).edges.filter fun e => s.reached (s.placed c e.1) := ⟨_, rfl⟩
  obtain ⟨u, hu⟩ : ∃ u, u = s.setCuff c { s.cuff c with edges := (s.cuff c).edges.filter fun e => !s.reached (s.placed c e.1) } := ⟨_, rfl⟩
  have hsettle : s.settleCuff c = now.foldl (fun s e => s.driveCuff c e.2 e.1) u := by
    have hwait : (now.getLast?.toList.filter fun e => s.lockedOut c e.2) = [] :=
      List.filter_eq_nil_iff.mpr fun e _ => by simp [State.lockedOut_alone hpair]
    unfold State.settleCuff
    dsimp only
    rw [if_neg (by simp [hheld, hserv]), ← hnow, hwait, List.nil_append, hu]
  have hcuff : u.cuff c = { s.cuff c with edges := (s.cuff c).edges.filter fun e => !s.reached (s.placed c e.1) } := by
    rw [hu, State.cuff_setCuff, if_pos rfl]
  have honly : CuffOnly c s u := hu ▸ .of_setCuff ..
  obtain ⟨hrest, hedges, hlast, hbusy, hon⟩ := State.driveAll_spec hc now u ((honly.pairEn _).trans hpair) (by rw [hcuff]; exact hheld)
  rw [← hsettle] at hrest hedges hlast hbusy hon
  rw [hcuff] at hedges hlast hbusy hon
  rw [honly.outputOn] at hon
  refine ⟨honly.trans hrest, hedges, hlast, hbusy, hon hdriven, fun hno => ?_⟩
  have hnil : now = [] := hnow ▸ List.filter_eq_nil_iff.mpr fun e he => by simp [hno e he]
  rw [hsettle, hnil]
  rw [List.foldl_nil, hcuff]

end Later

/-! #### The spans of the pulses -/

section Span
variable (w sp m : Nat)

theorem pulseSpan_plain (hw : m ≤ w) (hsp : w + m ≤ sp) (i : Nat) : pulseSpan w sp m i = (i * sp, i * sp + w) := by
  induction i with
  | zero => simp [pulseSpan, hw]
  | succ i ih =>
    have hr : max ((i + 1) * sp) (i * sp + w + m) = (i + 1) * sp := max_eq_left (by rw [Nat.succ_mul]; omega)
    rw [pulseSpan, ih]
    dsimp only
    rw [hr, max_eq_left (by omega)]

theorem trainEdges_eq (plus : Nat → Nat → Nat) (active : Bool) (t n : Nat) : trainEdges plus active t w sp m n =
    (plus t (max w m), !active) :: (List.range n).flatMap fun i =>
      [(plus t (pulseSpan w sp m (i + 1)).1, active), (plus t (pulseSpan w sp m (i + 1)).2, !active)] := by
  induction n with
  | zero => rfl
  | succ n ih => rw [trainEdges, ih, List.range_succ, List.flatMap_append, List.cons_append]; rfl

end Span

/-- PULSE and TRAIN at a cuff that is no leg (R51, R52). -/
theorem State.pulseAct_spec {s : State} {c : Nat} {f : Flight} (hc : c < 1024) (hpair : s.pairEn (c / 2) = false) (htarget : f.target = c)
    (hheld : (s.cuff c).held = false) (hserv : s.service = true) (n : Nat) :
    let later := trainEdges s.plus (s.activeLevel c) f.due f.act.width f.act.spacing (s.edgeGap f) n
    let stop := s.plus f.due (pulseSpan f.act.width f.act.spacing (s.edgeGap f) n).2
    ∃ t : State, s.pulseAct f n = t.finish f ∧ ActOnly c s t ∧
      (t.cuff c).edges = later.filter (fun e => !s.reached (s.placed c e.1)) ∧ (t.cuff c).driven = decide (s.cuffMode c ≠ 2) ∧
      ((∀ e ∈ later, s.reached (s.placed c e.1) = false) → (t.cuff c).level = s.activeLevel c) ∧
      (t.cuff c).lastT = some f.due ∧ (stop ≠ f.due → (t.cuff c).busyTo = some stop) := by
  obtain ⟨hend, hcuff⟩ := s.endPeriodic_spec c
  obtain ⟨hat, honly, -⟩ := State.driven_spec hpair hend hcuff hc hheld (s.activeLevel c) f.due
  obtain ⟨u, hu⟩ : ∃ u, u = (s.endPeriodic c).driveCuff c (s.activeLevel c) f.due := ⟨_, rfl⟩
  rw [← hu] at hat honly
  intro later stop
  have hplus : u.plus = s.plus := funext fun a => funext fun d => honly.plus a d
  obtain ⟨w, hw⟩ : ∃ w, w = (u.setCuff c { u.cuff c with edges := later }).occupy c f.due stop true := ⟨_, rfl⟩
  have hset (y : Cuff) (a d : Nat) : (u.setCuff c y).plus a d = s.plus a d := (honly.trans_cuffOnly (.of_setCuff ..)).plus a d
  have hact : s.pulseAct f n = (w.settleCuff c).finish f := by
    rw [hw, State.pulseAct, htarget, hend.activeLevel, ← hu, honly.activeLevel, hplus, hset]
  have hwcuff : w.cuff c = { u.cuff c with edges := later, lastT := some f.due, lastEdge := some stop,
                                           busyTo := if f.due = stop then (u.cuff c).busyTo else some stop } := by
    simp [hw, State.occupy, State.cuff_setCuff]
  have hwonly : ActOnly c s w := hw ▸ (honly.trans_cuffOnly (.of_setCuff ..)).trans_cuffOnly (.of_setCuff ..)
  rw [hat] at hwcuff
  have hreach (a : Nat) : w.reached (w.placed c a) = s.reached (s.placed c a) := by
    rw [hwonly.reached, State.placed, State.placed, hwonly.shifted, hwcuff]
    rfl
  have hfrozen : w.frozen = false := by
    rw [hwonly.frame]
    exact State.not_frozen hserv
  have hon : w.outputOn c = decide (s.cuffMode c ≠ 2) := hwonly.outputOn hpair
  obtain ⟨hsettled, hedges, hlast, hbusy, hdriven, hlevel⟩ := w.settleCuff_spec hc ((hwonly.pairEn _).trans hpair)
    (by rw [hwcuff]; exact hheld) hfrozen (by rw [hwcuff, hon]; rfl)
  simp only [hreach] at hedges hlevel
  rw [hwcuff] at hedges hlast hbusy hlevel
  refine ⟨w.settleCuff c, hact, hwonly.trans_cuffOnly hsettled, hedges, hdriven.trans hon, fun hno => ?_, hlast, fun hne => ?_⟩
  · exact (hlevel hno).trans rfl
  · exact hbusy.trans (if_neg (Ne.symm hne))

/-- Settles O12: the four one-edge actions by `drivenAct_spec` and `actHiz_spec`, PULSE and TRAIN by `pulseAct_spec`. -/
theorem outputActions : Obligations.OutputActions := by
  unfold Obligations.OutputActions
  intro s c f hc hpair k mode on active only counted took drives
  have hone {op : Nat} {i : Instr} {l : Bool} (hexec : s.headReady 1 c op = some f → exec i s = .next (s.drivenAct f l)) : drives op i l := by
    intro hready
    obtain ⟨-, htarget, -, -, hserved, -⟩ := State.headReady_spec hready
    obtain ⟨-, hheld, -⟩ := State.headServed_cuff (.inl rfl) hserved
    obtain ⟨t, hact, hcuff, hmoved, hstill, ho⟩ := State.drivenAct_spec hc hpair htarget hheld l
    exact ⟨t, (hexec hready).trans (congrArg _ hact), hcuff, ⟨hmoved, hstill⟩, ho.cuff, ho.mode, ho.staged, ho.rest, ho.reg, ho.frame⟩
  have hcuffOk : okCuff c = true := by simpa [okCuff] using hc
  refine ⟨hone fun hready => ?_, hone fun hready => ?_, hone fun hready => ?_, fun hready => ?hiz, fun train hready => ?pulse⟩
  · exact (onUnit_of hcuffOk _).trans (congrArg _ (by rw [State.actSetHigh, hready]))
  · exact (onUnit_of hcuffOk _).trans (congrArg _ (by rw [State.actSetLow, hready]))
  · exact (onUnit_of hcuffOk _).trans (congrArg _ (by rw [State.actToggle, hready]))
  case hiz =>
    obtain ⟨-, -, -, -, hserved, -⟩ := State.headReady_spec hready
    obtain ⟨-, hheld, -⟩ := State.headServed_cuff (.inl rfl) hserved
    obtain ⟨t, hact, hcuff, hmoved, hstill, ho⟩ := State.actHiz_spec hpair hheld hready
    exact ⟨t, (onUnit_of hcuffOk _).trans (congrArg _ hact), hcuff, ⟨hmoved, hstill⟩, ho.cuff, ho.mode, ho.staged, ho.rest, ho.reg, ho.frame⟩
  case pulse =>
    intro unit width spacing m n span w start stop later
    obtain ⟨-, htarget, hop, -, hserved, -⟩ := State.headReady_spec hready
    obtain ⟨hserv, hheld, -⟩ := State.headServed_cuff (.inl rfl) hserved
    have hwidth : f.act.width = width := by
      cases train <;> simp [Action.width, hop, width, unit, scaleOf]
    have hspacing : f.act.spacing = spacing := rfl
    have hgap : s.edgeGap f = m := by rw [State.edgeGap, htarget]; rfl
    refine ⟨by simp [span, w, pulseSpan], fun hw hsp i => pulseSpan_plain _ _ _ hw hsp i, fun i => ⟨Nat.le_sub_of_add_le' (pulseSpan_wide ..), pulseSpan_apart ..⟩, ?_⟩
    obtain ⟨t, hact, ho, hedges, hdriven, hlevel, hlast, hbusy⟩ := State.pulseAct_spec hc hpair htarget hheld hserv n
    rw [hwidth, hspacing, hgap, trainEdges_eq] at hedges hlevel
    rw [hwidth, hspacing, hgap] at hbusy
    refine ⟨t, ?_, ⟨ho.cuff, ho.mode, ho.staged, ho.rest, ho.reg, ho.frame⟩, hedges, hdriven, hlevel, hlast, hbusy⟩
    rw [← hact]
    cases train with
    | true =>
      have hhead : s.headReady 1 c 0x06 = some f := hready
      exact (onUnit_of hcuffOk _).trans (congrArg _ (by rw [State.actTrain, hhead]; rfl))
    | false =>
      have hhead : s.headReady 1 c 0x05 = some f := hready
      exact (onUnit_of hcuffOk _).trans (congrArg _ (by rw [State.actPulse, hhead]; rfl))

end Sys2Proof.Machine

/-! PERIOD, and the phases of a periodic cuff (R54, R55, R63, R64). -/

namespace Sys2Proof.Machine

open Sys2Proof

/-! ### What a pattern changes -/

/-- What a periodic pattern leaves unchanged: besides its cuff and, in a pair, the other leg, their counts of edges, CUF_ERR and
what an interrupt event writes. -/
structure PatternOnly (c : Nat) (s t : State) : Prop where
  cuff : ∀ e, e ≠ c → e ≠ otherLeg c → t.cuff e = s.cuff e
  reg : SameButEvents [Reg.CUF_ERR c, Reg.CUF_EDGES c, Reg.CUF_EDGES (otherLeg c)] s t
  frame : t = { s with out := t.out, regs := t.regs, cuffs := t.cuffs, pairs := t.pairs, fns := t.fns, link := t.link, srcs := t.srcs,
                       vecs := t.vecs }

section Pattern
variable {c : Nat} {s t u : State}

theorem PatternOnly.refl (c : Nat) (s : State) : PatternOnly c s s := ⟨fun _ _ _ => rfl, fun _ _ _ => rfl, rfl⟩

theorem PatternOnly.trans (h : PatternOnly c s t) (g : PatternOnly c t u) : PatternOnly c s u :=
  ⟨fun e he ho => (g.cuff e he ho).trans (h.cuff e he ho), fun r hr hp => (g.reg r hr hp).trans (h.reg r hr hp), by rw [g.frame, h.frame]⟩

theorem CuffOnly.pattern (h : CuffOnly c s t) : PatternOnly c s t :=
  ⟨fun e he _ => h.cuff e he, fun r hr _ => h.reg r fun he => hr (by simp [he]), by rw [h.frame]⟩

/-- The leg A of a pair, and its other leg. -/
theorem legs_even (h : c % 2 = 0) : 2 * (c / 2) = c ∧ 2 * (c / 2) + 1 = otherLeg c := by
  rw [otherLeg, if_pos h]
  omega

theorem LegsOnly.pattern (he : c % 2 = 0) (h : LegsOnly (c / 2) s t) : PatternOnly c s t := by
  obtain ⟨ha, hb⟩ := legs_even he
  refine ⟨fun e h1 h2 => h.cuff e (ha.symm ▸ h1) (hb.symm ▸ h2), fun r hr _ => h.reg r ?_ ?_, by rw [h.frame]⟩
  · rw [ha]
    exact fun h => hr (by simp [h])
  · rw [hb]
    exact fun h => hr (by simp [h])

theorem PatternOnly.of_setPairSt (y : Pair) (p : Nat) : PatternOnly c s (s.setPairSt p y) := ⟨fun _ _ _ => rfl, fun _ _ _ => rfl, rfl⟩

theorem State.cufErr_events (s : State) (c b : Nat) : (s.cufErr c b).wipe events = s.wipe events :=
  (State.raise_wipe _ _ _ (by decide)).trans (State.setBit_wipe _ _ _ _ _ (by decide))

/-- CUF_ERR of a cuff and its sleeve's source (R274). -/
theorem State.cufErr_pattern (s : State) (c b : Nat) (hc : c < 1024) : PatternOnly c s (s.cufErr c b) := by
  have hreg (r : Nat) (hp : ¬(Reg.HVC_PEND 0 ≤ r ∧ r < Reg.HVC_PEND 512)) : (s.cufErr c b).reg r = (s.setBit (Reg.CUF_ERR c) b true).reg r :=
    State.raise_reg _ (by omega) hp
  have hall := s.cufErr_events c b
  refine ⟨fun e _ _ => by rw [State.cuff, State.cuffs_of_wipe hall rfl]; rfl, fun r hr hp => (hreg r hp).trans ?_, ?_⟩
  · exact State.reg_setBit_other _ (fun h => hr (by simp [h])) ..
  · have heq := State.eq_of_wipe_events hall
    generalize s.cufErr c b = t at heq ⊢
    rw [heq]

end Pattern

/-! ### The start of a pattern (R54) -/

section Start
variable {c : Nat} {s : State} (hc : c < 1024)
include hc

/-- The pattern of a cuff whose settings break the limits stays off (R54). -/
theorem State.unfit_spec (s : State) : let t := (s.setCuff c { s.cuff c with perRun := false }).cufErr c 4
    PatternOnly c s t ∧ t.cuff c = { s.cuff c with perRun := false } ∧ t.bit (Reg.CUF_ERR c) 4 = true := by
  have hset : PatternOnly c s (s.setCuff c { s.cuff c with perRun := false }) := (CuffOnly.of_setCuff ..).pattern
  have hat : (s.setCuff c { s.cuff c with perRun := false }).cuff c = { s.cuff c with perRun := false } := by
    rw [State.cuff_setCuff, if_pos rfl]
  generalize s.setCuff c { s.cuff c with perRun := false } = u at hset hat
  have herr := u.cufErr_pattern c 4 hc
  have hcuffs : (u.cufErr c 4).cuffs = u.cuffs := State.cuffs_of_wipe (u.cufErr_events c 4) (by decide)
  intro t
  refine ⟨hset.trans herr, ?_, ?_⟩
  · rw [State.cuff, hcuffs]
    exact hat
  · exact (State.bit_of_reg (State.raise_reg _ (by omega) (by
      simp only [Reg.CUF_ERR, Reg.HVC_PEND]
      omega)) 4).trans (State.bit_setBit_same _ _ _ _ (by decide))

/-- A pattern that starts at a time moves its pair, or makes its cuff active (R54, R64). -/
theorem State.startPeriod_pattern (s : State) (t : Nat) (hpair : s.pairEn (c / 2) = true → c % 2 = 0)
    (hheld : (s.cuff c).held = false) : PatternOnly c s (s.startPeriod c t) := by
  unfold State.startPeriod
  split
  · exact .refl c s
  split
  · exact (s.unfit_spec hc).1
  have hset : PatternOnly c s (s.setCuff c { s.cuff c with perRun := true }) := (CuffOnly.of_setCuff ..).pattern
  have hat : (s.setCuff c { s.cuff c with perRun := true }).cuff c = { s.cuff c with perRun := true } := by
    rw [State.cuff_setCuff, if_pos rfl]
  have hen : (s.setCuff c { s.cuff c with perRun := true }).pairEn (c / 2) = s.pairEn (c / 2) := rfl
  generalize s.setCuff c { s.cuff c with perRun := true } = u at hset hat hen
  by_cases hp : u.pairEn (c / 2) = true
  · have he := hpair (hen ▸ hp)
    dsimp only
    rw [if_pos ⟨hp, he⟩]
    exact hset.trans ((PatternOnly.of_setPairSt _ _).trans ((State.pairTo_legs _ _ _).pattern he))
  · dsimp only
    rw [if_neg fun h => hp h.1]
    exact hset.trans ((State.driveCuff_alone hc (Bool.eq_false_iff.mpr hp) (by rw [hat]; exact hheld) ..).2.1.pattern)

end Start

/-! ### What PERIOD sets (R55) -/

section Settings
variable (s : State) (c : Nat) (f : Flight)

/-- The split registers of a cuff's pattern and their values. -/
def patternValues (c : Nat) (f : Flight) : List (Nat × Nat × Nat) :=
  [(Reg.CUF_PER_L c, Reg.CUF_PER_H c, bits f.act.arg 0 24 * 16 ^ (f.act.sub % 4)),
   (Reg.CUF_PER_W_L c, Reg.CUF_PER_W_H c, bits f.act.arg 24 24 * 16 ^ (f.act.sub % 4)),
   (Reg.CUF_PER_OFF_L c, Reg.CUF_PER_OFF_H c, f.due % 2 ^ 64)]

/-- The registers that PERIOD writes. -/
def patternRegs (c : Nat) : List Nat :=
  [Reg.CUF_PER_L c, Reg.CUF_PER_H c, Reg.CUF_PER_W_L c, Reg.CUF_PER_W_H c, Reg.CUF_PER_OFF_L c, Reg.CUF_PER_OFF_H c, Reg.CUF_CFG c]

/-- A split value that the registers of a change do not hold. -/
theorem BothOnly.pair_apart {ks : List Nat} {s t : State} (h : BothOnly ks s t) {l r : Nat} (hl : l ∉ ks) (hr : r ∉ ks) :
    t.pair l r = s.pair l r ∧ t.stagedPair l r = s.stagedPair l r :=
  ⟨State.pair_of_reg (h.reg l hl) (h.reg r hr), by rw [State.stagedPair, State.stagedPair, h.staged l hl, h.staged r hr]⟩

/-- A scaled value of 24 bits fits a split register. -/
theorem scaled_lt (a sub lo : Nat) : bits a lo 24 * 16 ^ (sub % 4) < 2 ^ 48 := by
  have hpow : 16 ^ (sub % 4) ≤ 16 ^ 3 := Nat.pow_le_pow_right (by decide) (by omega)
  have hbits : bits a lo 24 < 2 ^ 24 := Nat.mod_lt _ (by decide)
  calc bits a lo 24 * 16 ^ (sub % 4) ≤ bits a lo 24 * 16 ^ 3 := Nat.mul_le_mul_left _ hpow
    _ < 2 ^ 48 := by omega

theorem State.setPeriod_spec : BothOnly (patternRegs c) s (s.setPeriod c f) ∧ (s.setPeriod c f).cuffMode c = 1 ∧
    (s.setPeriod c f).activeLevel c = s.activeLevel c ∧
    ∀ e ∈ patternValues c f, (s.setPeriod c f).pair e.1 e.2.1 = e.2.2 ∧ (s.setPeriod c f).stagedPair e.1 e.2.1 = e.2.2 := by
  obtain ⟨p, hp⟩ : ∃ p, p = bits f.act.arg 0 24 * 16 ^ (f.act.sub % 4) := ⟨_, rfl⟩
  obtain ⟨w, hw⟩ : ∃ w, w = bits f.act.arg 24 24 * 16 ^ (f.act.sub % 4) := ⟨_, rfl⟩
  have hplt : p % 2 ^ 64 = p := Nat.mod_eq_of_lt (hp ▸ (scaled_lt ..).trans (by decide))
  have hwlt : w % 2 ^ 64 = w := Nat.mod_eq_of_lt (hw ▸ (scaled_lt ..).trans (by decide))
  obtain ⟨h1, hv1, hs1⟩ := s.setPairs_spec (l := Reg.CUF_PER_L c) (h := Reg.CUF_PER_H c) (by simp) p p
  generalize hu1 : s.setPairs (Reg.CUF_PER_L c) (Reg.CUF_PER_H c) p p = u1 at h1 hv1 hs1
  obtain ⟨h2, hv2, hs2⟩ := u1.setPairs_spec (l := Reg.CUF_PER_W_L c) (h := Reg.CUF_PER_W_H c) (by simp) w w
  generalize hu2 : u1.setPairs (Reg.CUF_PER_W_L c) (Reg.CUF_PER_W_H c) w w = u2 at h2 hv2 hs2
  obtain ⟨h3, hv3, hs3⟩ := u2.setPairs_spec (l := Reg.CUF_PER_OFF_L c) (h := Reg.CUF_PER_OFF_H c) (by simp) f.due f.due
  generalize hu3 : u2.setPairs (Reg.CUF_PER_OFF_L c) (Reg.CUF_PER_OFF_H c) f.due f.due = u3 at h3 hv3 hs3
  have hset : s.setPeriod c f = u3.setBoth (Reg.CUF_CFG c) 0 2 1 := by
    rw [← hu3, ← hu2, ← hu1, hp, hw]
    rfl
  have h4 := u3.setBoth_both (Reg.CUF_CFG c) 1 0 2
  obtain ⟨hmode, -, hrest⟩ := u3.setBoth_fld (Reg.CUF_CFG c) 1 (lo := 0) (n := 2) (by decide)
  have hcfg : u3.reg (Reg.CUF_CFG c) = s.reg (Reg.CUF_CFG c) :=
    ((h1.trans h2).trans h3).reg _ (by simp)
  rw [hset]
  refine ⟨(((h1.trans h2).trans h3).trans h4).mono (by simp [patternRegs]), hmode, ?_, fun e he => ?_⟩
  · have hfld : (u3.setBoth (Reg.CUF_CFG c) 0 2 1).fld (Reg.CUF_CFG c) 2 1 = s.fld (Reg.CUF_CFG c) 2 1 :=
      (hrest 2 1 (.inr (by decide))).trans (State.fld_of_reg hcfg ..)
    exact congrArg (!·) (congrArg (fun x => decide (x = 1)) hfld)
  · have h34 := h3.trans h4
    have h234 := h2.trans h34
    simp only [patternValues, List.mem_cons, List.not_mem_nil, or_false] at he
    rcases he with rfl | rfl | rfl
    · obtain ⟨hpair, hstaged⟩ := h234.pair_apart (l := Reg.CUF_PER_L c) (r := Reg.CUF_PER_H c) (by simp) (by simp)
      exact ⟨hpair.trans (hv1.trans (hplt.trans hp)), hstaged.trans (hs1.trans (hplt.trans hp))⟩
    · obtain ⟨hpair, hstaged⟩ := h34.pair_apart (l := Reg.CUF_PER_W_L c) (r := Reg.CUF_PER_W_H c) (by simp) (by simp)
      exact ⟨hpair.trans (hv2.trans (hwlt.trans hw)), hstaged.trans (hs2.trans (hwlt.trans hw))⟩
    · obtain ⟨hpair, hstaged⟩ := h4.pair_apart (l := Reg.CUF_PER_OFF_L c) (r := Reg.CUF_PER_OFF_H c) (by simp) (by simp)
      exact ⟨hpair.trans hv3, hstaged.trans hs3⟩

end Settings

/-! ### PERIOD at a cuff or at leg A -/

section Period
variable {s : State} {c : Nat} {f : Flight}

/-- The state in which PERIOD starts its pattern (R55). -/
def State.patternSet (s : State) (c : Nat) (f : Flight) : State :=
  (s.setPeriod c f).setCuff c { s.cuff c with perRun := false, edges := [] }

theorem State.patternSet_spec (s : State) (c : Nat) (f : Flight) :
    (s.patternSet c f).cuff c = { s.cuff c with perRun := false, edges := [] } ∧
    (∀ e, e ≠ c → (s.patternSet c f).cuff e = s.cuff e) ∧
    (∀ r, r ∉ patternRegs c → (s.patternSet c f).reg r = s.reg r) ∧ (s.patternSet c f).cuffMode c = 1 ∧
    (s.patternSet c f).activeLevel c = s.activeLevel c ∧
    (∀ e ∈ patternValues c f, (s.patternSet c f).pair e.1 e.2.1 = e.2.2 ∧ (s.patternSet c f).stagedPair e.1 e.2.1 = e.2.2) ∧
    s.patternSet c f = { s with regs := (s.patternSet c f).regs, shadow := (s.patternSet c f).shadow, cuffs := (s.patternSet c f).cuffs } := by
  obtain ⟨hboth, hmode, hactive, hvalues⟩ := s.setPeriod_spec c f
  have hset : s.patternSet c f = (s.setPeriod c f).setCuff c { s.cuff c with perRun := false, edges := [] } := rfl
  generalize s.setPeriod c f = u at hboth hmode hactive hvalues hset
  have hcuff (e : Nat) : u.cuff e = s.cuff e := by
    rw [hboth.frame]
    rfl
  rw [hset]
  generalize ({ s.cuff c with perRun := false, edges := [] } : Cuff) = k
  obtain ⟨v, hv⟩ : ∃ v, v = u.setCuff c k := ⟨_, rfl⟩
  have hregs (r : Nat) : v.reg r = u.reg r := hv ▸ rfl
  have hstaged (r : Nat) : v.staged r = u.staged r := hv ▸ rfl
  have hat (e : Nat) : v.cuff e = if e = c then k else u.cuff e := hv ▸ State.cuff_setCuff ..
  have hframe : v = { u with cuffs := v.cuffs } := hv ▸ rfl
  rw [← hv]
  refine ⟨(hat c).trans (if_pos rfl), fun e he => (hat e).trans ((if_neg he).trans (hcuff e)), fun r hr => (hregs r).trans (hboth.reg r hr),
    (State.fld_of_reg (hregs _) ..).trans hmode, (congrArg (!·) (State.bit_of_reg (hregs _) 2)).trans hactive, fun e he => ?_, ?_⟩
  · rw [State.pair_of_reg (hregs _) (hregs _), State.stagedPair, hstaged, hstaged]
    exact hvalues e he
  · rw [hframe, hboth.frame]

/-- The registers of a pair or a bank that a pattern rests on are none of those that it writes. -/
theorem patternRegs_apart (c : Nat) : Reg.CUF_PER_CTRL c ∉ patternRegs c ∧ (∀ n i, i < 16 → Reg.SLV_PAIR_CFG n i ∉ patternRegs c) ∧
    (∀ n, Reg.SLV_STATUS n ∉ patternRegs c) := by
  simp only [patternRegs, List.mem_cons, List.not_mem_nil, or_false, Reg.CUF_PER_CTRL, Reg.CUF_PER_L, Reg.CUF_PER_H, Reg.CUF_PER_W_L,
    Reg.CUF_PER_W_H, Reg.CUF_PER_OFF_L, Reg.CUF_PER_OFF_H, Reg.CUF_CFG, Reg.SLV_PAIR_CFG, Reg.SLV_STATUS]
  refine ⟨by omega, fun n i hi => ?_, fun n => ?_⟩
  · rcases Nat.lt_trichotomy n (c / 32) with h | h | h <;> omega
  · rcases Nat.lt_trichotomy n (c / 32) with h | h | h <;> omega

/-- A cuff whose pattern is its own starts it where it stands at no Apron and waits for no global start. -/
theorem State.perActive_set (hserv : s.service = true) (hheld : (s.cuff c).held = false) (heven : s.pairEn (c / 2) = true → c % 2 = 0)
    (h6 : s.bit (Reg.CUF_PER_CTRL c) 6 = false) (h7 : s.bit (Reg.CUF_PER_CTRL c) 7 = false) (hap : (s.cuff c).apron = false) :
    (s.patternSet c f).perActive c = true := by
  obtain ⟨hcuff, -, hreg, hmode, -, -, hframe⟩ := s.patternSet_spec c f
  generalize s.patternSet c f = u at hcuff hreg hmode hframe ⊢
  obtain ⟨hctrl, hcfg, -⟩ := patternRegs_apart c
  have hserv' : u.service = true := by
    rw [hframe]
    exact hserv
  have hen : u.pairEn (c / 2) = s.pairEn (c / 2) := State.bit_of_reg (hreg _ (hcfg _ _ (Nat.mod_lt _ (by decide)))) 0
  have hbit (i : Nat) : u.bit (Reg.CUF_PER_CTRL c) i = s.bit (Reg.CUF_PER_CTRL c) i := State.bit_of_reg (hreg _ hctrl) i
  have hlive : (u.perSet c).live = true := by simp only [State.perSet, hbit, h6, Bool.false_eq_true, if_false]
  have hapron : (u.cuff c).apron = false := by rw [hcuff]; exact hap
  have hodd : (s.pairEn (c / 2) && decide (c % 2 = 1)) = false := by
    cases hp : s.pairEn (c / 2) with
    | false => rfl
    | true => simpa using heven hp
  simp only [State.perActive, hmode, hbit, h7, hapron, hserv', hen, hodd, hlive]
  rw [hcuff]
  simp [hheld]

/-- The limits that PERIOD's own settings are judged by (R54). -/
theorem State.perFits_set (heven : s.pairEn (c / 2) = true → c % 2 = 0) (h6 : s.bit (Reg.CUF_PER_CTRL c) 6 = false) :
    (s.patternSet c f).perFits c = true ↔
      let m := s.minPulse c + if s.pairEn (c / 2) = true then s.dead (c / 2) else 0
      let p := bits f.act.arg 0 24 * 16 ^ (f.act.sub % 4)
      let w := bits f.act.arg 24 24 * 16 ^ (f.act.sub % 4)
      m ≤ w ∧ w + m ≤ p := by
  obtain ⟨hcuff, -, hreg, hmode, -, hvalues, -⟩ := s.patternSet_spec c f
  generalize s.patternSet c f = u at hcuff hreg hmode hvalues ⊢
  obtain ⟨hctrl, hcfg, hstat⟩ := patternRegs_apart c
  have hcfg' := hreg _ (hcfg (c / 2 / 16) (c / 2 % 16) (Nat.mod_lt _ (by decide)))
  have hen : u.pairEn (c / 2) = s.pairEn (c / 2) := State.bit_of_reg hcfg' 0
  have hdead : u.dead (c / 2) = s.dead (c / 2) := State.fld_of_reg hcfg' ..
  have hmin : u.minPulse c = s.minPulse c := by rw [State.minPulse, State.minPulse, State.bit_of_reg (hreg _ (hstat _))]
  have hbit : u.bit (Reg.CUF_PER_CTRL c) 6 = false := (State.bit_of_reg (hreg _ hctrl) 6).trans h6
  have hp := (hvalues _ (List.mem_cons_self ..)).1
  have hw := (hvalues _ (List.mem_cons_of_mem _ (List.mem_cons_self ..))).1
  have hlt := scaled_lt f.act.arg f.act.sub 0
  dsimp only at hp hw ⊢
  generalize bits f.act.arg 0 24 * 16 ^ (f.act.sub % 4) = p at hp hlt ⊢
  generalize bits f.act.arg 24 24 * 16 ^ (f.act.sub % 4) = w at hw ⊢
  have hmargin : (if s.pairEn (c / 2) = true ∧ c % 2 = 0 then s.dead (c / 2) else 0) = if s.pairEn (c / 2) = true then s.dead (c / 2) else 0 := by
    by_cases h : s.pairEn (c / 2) = true
    · rw [if_pos ⟨h, heven h⟩, if_pos h]
    · rw [if_neg fun h' => h h'.1, if_neg h]
  simp only [State.perFits, State.perSet, hbit, Bool.false_eq_true, if_false, hp, hw, hmin, hdead, hen, hmargin, decide_eq_true_eq]
  omega

/-- What a start of a pattern that breaks the limits leaves (R54). -/
theorem State.startPeriod_unfit {u : State} (hc : c < 1024) (t : Nat) (hact : u.perActive c = true) (hfit : u.perFits c = false) :
    (u.startPeriod c t).cuff c = { u.cuff c with perRun := false } ∧ (u.startPeriod c t).bit (Reg.CUF_ERR c) 4 = true := by
  obtain ⟨-, hcuff, herr⟩ := u.unfit_spec hc
  have hstart : u.startPeriod c t = (u.setCuff c { u.cuff c with perRun := false }).cufErr c 4 := by
    rw [State.startPeriod, if_neg (by simp [hact]), if_pos hfit]
  rw [hstart]
  exact ⟨hcuff, herr⟩

/-- A pattern that runs moves its pair to a state (R64). -/
theorem State.patternPair_spec (u : State) (st t : Nat) :
    (((u.setCuff c { u.cuff c with perRun := true }).pairTo (c / 2) st t).cuff c).perRun = true ∧
    (((u.setCuff c { u.cuff c with perRun := true }).pairTo (c / 2) st t).pairSt (c / 2)).st = st := by
  obtain ⟨v, hv⟩ : ∃ v, v = u.setCuff c { u.cuff c with perRun := true } := ⟨_, rfl⟩
  have hrun : (v.cuff c).perRun = true := by rw [hv, State.cuff_setCuff, if_pos rfl]
  have hlegs := State.pairTo_legs (p := c / 2) v st t
  rw [← hv]
  refine ⟨?_, hlegs.st.trans ?_⟩
  · rw [hlegs.leg c]
    exact hrun
  · rw [State.pairIn, State.pairSt_setPairSt, if_pos rfl]

/-- A pattern that runs drives its cuff to a level (R54). -/
theorem State.patternDriven_spec {u : State} (hc : c < 1024) (hp : u.pairEn (c / 2) = false) (hheld : (u.cuff c).held = false)
    (hmode : u.cuffMode c = 1) (l : Bool) (t : Nat) :
    let w := (u.setCuff c { u.cuff c with perRun := true }).driveCuff c l t
    (w.cuff c).perRun = true ∧ (w.cuff c).level = l ∧ (w.cuff c).driven = true := by
  obtain ⟨v, hv⟩ : ∃ v, v = u.setCuff c { u.cuff c with perRun := true } := ⟨_, rfl⟩
  have hvcuff : v.cuff c = { u.cuff c with perRun := true } := by rw [hv, State.cuff_setCuff, if_pos rfl]
  have honly : CuffOnly c u v := hv ▸ .of_setCuff ..
  have hvp : v.pairEn (c / 2) = false := (honly.pairEn _).trans hp
  obtain ⟨hat, -, -⟩ := State.driveCuff_alone hc hvp (by rw [hvcuff]; exact hheld) l t
  intro w
  have hw : w.cuff c = v.swung c (v.outputOn c) l t := by rw [← State.drivenTo_eq, ← hat, hv]
  have hon : v.outputOn c = true := by rw [State.outputOn_alone hvp, honly.cuffMode, hmode]; rfl
  rw [hw, hon]
  exact ⟨congrArg Cuff.perRun hvcuff, rfl, rfl⟩

/-- The start of a pattern that keeps the limits (R54). -/
theorem State.startPeriod_fit {u : State} (hc : c < 1024) (t : Nat) (hact : u.perActive c = true) (hfit : u.perFits c = true)
    (heven : u.pairEn (c / 2) = true → c % 2 = 0) (hheld : (u.cuff c).held = false) (hmode : u.cuffMode c = 1) :
    ((u.startPeriod c t).cuff c).perRun = true ∧
    (u.pairEn (c / 2) = true → ((u.startPeriod c t).pairSt (c / 2)).st = 1) ∧
    (¬u.pairEn (c / 2) = true → ((u.startPeriod c t).cuff c).level = u.activeLevel c ∧ ((u.startPeriod c t).cuff c).driven = true) := by
  by_cases hp : u.pairEn (c / 2) = true
  · have hstart : u.startPeriod c t = (u.setCuff c { u.cuff c with perRun := true }).pairTo (c / 2) 1 t := by
      rw [State.startPeriod, if_neg (by simp [hact]), if_neg (by simp [hfit])]
      exact if_pos ⟨hp, heven hp⟩
    obtain ⟨hrun, hst⟩ := u.patternPair_spec (c := c) 1 t
    rw [hstart]
    exact ⟨hrun, fun _ => hst, fun h => absurd hp h⟩
  · have hstart : u.startPeriod c t = (u.setCuff c { u.cuff c with perRun := true }).driveCuff c (u.activeLevel c) t := by
      rw [State.startPeriod, if_neg (by simp [hact]), if_neg (by simp [hfit])]
      exact if_neg fun h => hp h.1
    obtain ⟨hrun, hlevel, hdriven⟩ := State.patternDriven_spec hc (Bool.eq_false_iff.mpr hp) hheld hmode (u.activeLevel c) t
    rw [hstart]
    exact ⟨hrun, fun h => absurd h hp, fun _ => ⟨hlevel, hdriven⟩⟩

/-- The part of a state that the frame of PERIOD leaves open. -/
theorem PatternOnly.period_frame {u t : State} (hu : PatternOnly c u t) (hus : (∀ e, e ≠ c → u.cuff e = s.cuff e) ∧
    (∀ r, r ∉ patternRegs c → u.reg r = s.reg r) ∧ u = { s with regs := u.regs, shadow := u.shadow, cuffs := u.cuffs }) :
    (∀ e, e ≠ c → e ≠ otherLeg c → t.cuff e = s.cuff e) ∧
    SameButEvents [Reg.CUF_PER_L c, Reg.CUF_PER_H c, Reg.CUF_PER_W_L c, Reg.CUF_PER_W_H c, Reg.CUF_PER_OFF_L c, Reg.CUF_PER_OFF_H c,
      Reg.CUF_CFG c, Reg.CUF_ERR c, Reg.CUF_EDGES c, Reg.CUF_EDGES (otherLeg c)] s t ∧
    t = { s with out := t.out, regs := t.regs, shadow := t.shadow, cuffs := t.cuffs, pairs := t.pairs, fns := t.fns,
                 link := t.link, srcs := t.srcs, vecs := t.vecs } := by
  obtain ⟨hcuff, hreg, hframe⟩ := hus
  refine ⟨fun e he ho => (hu.cuff e he ho).trans (hcuff e he), fun r hr hp =>
    (hu.reg r (fun h => hr (List.mem_append_right (patternRegs c) h)) hp).trans (hreg r fun h => hr (List.mem_append_left _ h)), ?_⟩
  rw [hu.frame, hframe]

end Period

/-- The registers that a running pattern leaves. -/
theorem PatternOnly.kept {c : Nat} {u t : State} (h : PatternOnly c u t) (hc : c < 1024) {r : Nat} (hr : r ∈ patternRegs c) : t.reg r = u.reg r := by
  have hother : otherLeg c < 1024 := by
    unfold otherLeg
    split <;> omega
  have hpage : otherLeg c / 32 = c / 32 := by
    unfold otherLeg
    split <;> omega
  refine h.reg r ?_ ?_
  · simp only [patternRegs, List.mem_cons, List.not_mem_nil, or_false, Reg.CUF_PER_L, Reg.CUF_PER_H, Reg.CUF_PER_W_L,
      Reg.CUF_PER_W_H, Reg.CUF_PER_OFF_L, Reg.CUF_PER_OFF_H, Reg.CUF_CFG, Reg.CUF_ERR, Reg.CUF_EDGES, hpage] at hr ⊢
    omega
  · simp only [patternRegs, List.mem_cons, List.not_mem_nil, or_false, Reg.CUF_PER_L, Reg.CUF_PER_H, Reg.CUF_PER_W_L,
      Reg.CUF_PER_W_H, Reg.CUF_PER_OFF_L, Reg.CUF_PER_OFF_H, Reg.CUF_CFG, Reg.HVC_PEND] at hr ⊢
    omega

/-- The phases of a periodic cuff (R54, R63). -/
theorem State.periodicPhase_spec {s : State} {c : Nat} (hc : c < 1024) (hact : s.perActive c = true) (hper : (s.perSet c).p ≠ 0)
    (hrun : (s.cuff c).perRun = true ∨ s.phase c < 16) :
    let new := s.pairPhaseState c (s.phase c)
    let moves := ¬s.pairEn (c / 2) = true ∨ (s.pairSt (c / 2)).st ≠ new
    ∃ t : State, PatternOnly c s t ∧ (s.perFits c = false ∨ ¬moves → s.phaseStep c = t) ∧
      (s.perFits c = true → moves → s.phaseStep c = t.respace c) ∧
      (s.perFits c = false → t.bit (Reg.CUF_ERR c) 4 = true ∧ (t.cuff c).perRun = false ∧ (t.cuff c).level = (s.cuff c).level) ∧
      (s.perFits c = true → (t.cuff c).perRun = true ∧
        (¬s.pairEn (c / 2) = true → (t.cuff c).level = (if s.phase c < (s.perSet c).w then s.activeLevel c else !s.activeLevel c) ∧
          (t.cuff c).driven = true) ∧
        (s.pairEn (c / 2) = true → (t.pairSt (c / 2)).st = new)) := by
  intro new moves
  have hfollow : s.phaseStep c = s.followPhase c := if_neg fun h => by
    rcases hrun with h' | h'
    · exact absurd (h'.symm.trans h.1) (by decide)
    · omega
  have hstill : ¬(s.perActive c = false ∨ (s.perSet c).p = 0) := by simp [hact, hper]
  cases hfit : s.perFits c with
  | false =>
    obtain ⟨hpat, hcuff, herr⟩ := s.unfit_spec hc
    refine ⟨_, hpat, fun _ => ?_, fun h => absurd h (by decide), fun _ => ⟨herr, by rw [hcuff], by rw [hcuff]⟩, fun h => absurd h (by decide)⟩
    rw [hfollow, State.followPhase]
    exact (if_neg hstill).trans (if_pos hfit)
  | true =>
    obtain ⟨at', hat'⟩ : ∃ t, s.followPhase c = if s.pairEn (c / 2) then
        if (s.pairSt (c / 2)).st = new then s.setCuff c { s.cuff c with perRun := true }
        else ((s.setCuff c { s.cuff c with perRun := true }).pairTo (c / 2) new t).respace c
      else ((s.setCuff c { s.cuff c with perRun := true }).driveCuff c
        (if s.phase c < (s.perSet c).w then s.activeLevel c else !s.activeLevel c) t).respace c :=
      ⟨_, (if_neg hstill).trans (if_neg (by simp [hfit]))⟩
    have hset : PatternOnly c s (s.setCuff c { s.cuff c with perRun := true }) := (CuffOnly.of_setCuff ..).pattern
    simp only [State.perActive, Bool.and_eq_true, decide_eq_true_eq, Bool.not_eq_true', Bool.and_eq_false_iff] at hact
    obtain ⟨⟨⟨⟨⟨⟨hmode, -⟩, -⟩, hheld⟩, -⟩, hodd⟩, -⟩ := hact
    by_cases hp : s.pairEn (c / 2) = true
    · have heven : c % 2 = 0 := by
        rcases hodd with h | h
        · exact absurd (hp.symm.trans h) (by decide)
        · have := of_decide_eq_false h
          omega
      by_cases hst : (s.pairSt (c / 2)).st = new
      · have hrunning : (s.setCuff c { s.cuff c with perRun := true }).cuff c = { s.cuff c with perRun := true } := by
          rw [State.cuff_setCuff, if_pos rfl]
        refine ⟨_, hset, fun _ => ?_, fun _ h => ?_, fun h => absurd h (by decide), fun _ => ⟨by rw [hrunning], fun h => absurd hp h, fun _ => hst⟩⟩
        · rw [hfollow, hat', if_pos hp, if_pos hst]
        · exact absurd h (by simp [moves, hp, hst])
      · obtain ⟨hrunning, hnew⟩ := s.patternPair_spec (c := c) new at'
        refine ⟨_, hset.trans ((PatternOnly.of_setPairSt _ _).trans ((State.pairTo_legs _ new at').pattern heven)), fun h => ?_, fun _ _ => ?_,
          fun h => absurd h (by decide), fun _ => ⟨hrunning, fun h => absurd hp h, fun _ => hnew⟩⟩
        · rcases h with h | h
          · exact absurd h (by decide)
          · exact absurd (.inr hst) h
        · rw [hfollow, hat', if_pos hp, if_neg hst]
    · have hpf : s.pairEn (c / 2) = false := Bool.eq_false_iff.mpr hp
      obtain ⟨hrunning, hlevel, hdriven⟩ := State.patternDriven_spec hc hpf hheld hmode
        (if s.phase c < (s.perSet c).w then s.activeLevel c else !s.activeLevel c) at'
      have hheld' : ((s.setCuff c { s.cuff c with perRun := true }).cuff c).held = false := by
        rw [State.cuff_setCuff, if_pos rfl]
        exact hheld
      refine ⟨_, hset.trans (State.driveCuff_alone (s := s.setCuff c { s.cuff c with perRun := true }) hc hpf hheld' _ at').2.1.pattern, fun h => ?_, fun _ _ => ?_,
        fun h => absurd h (by decide), fun _ => ⟨hrunning, fun _ => ⟨hlevel, hdriven⟩, fun h => absurd h hp⟩⟩
      · rcases h with h | h
        · exact absurd h (by decide)
        · exact absurd (.inl hp) h
      · rw [hfollow, hat', if_neg hp]

/-- Settles O13: PERIOD by the settings it writes and the start of their pattern, a phase by the three ways a pattern goes on. -/
theorem periodicMode : Obligations.PeriodicMode := by
  unfold Obligations.PeriodicMode
  intro s c f hc k x paired ownRegs frame ph limits m
  have hcuffOk : okCuff c = true := by simpa [okCuff] using hc
  refine ⟨fun hready => ?period, fun hact hper hrun => ?phase⟩
  case phase =>
    intro new moves
    obtain ⟨t, hpat, hstop, hgo, hunfit, hfits⟩ := State.periodicPhase_spec hc hact hper hrun
    have hexec (u : State) (h : s.phaseStep c = u) : exec (.periodicPhase c) s = .next u := (onUnit_of hcuffOk _).trans (congrArg _ h)
    refine ⟨t, ⟨hpat.cuff, fun r hr hp => hpat.reg r (fun h => hr (List.mem_append_right (patternRegs c) h)) hp, ?_⟩,
      fun h => hexec _ (hstop h), fun h h' => hexec _ (hgo h h'), hunfit, hfits⟩
    rw [hpat.frame]
  case period =>
    intro p w starts
    have hsel : (if s.pairEn (c / 2) = true ∧ c % 2 = 0 then s.headReady 2 (c / 2) 0x07 else s.headReady 1 c 0x07) = some f := by
      rcases hready with ⟨hp, he, h⟩ | ⟨hp, h⟩
      · rw [if_pos ⟨hp, he⟩, h]
      · rw [if_neg fun h' => hp h'.1, h]
    have heven : paired → c % 2 = 0 := fun h => hready.elim (fun h' => h'.2.1) fun h' => absurd h h'.1
    obtain ⟨hserv, hheld⟩ : s.service = true ∧ (s.cuff c).held = false := by
      rcases hready with ⟨-, he, h⟩ | ⟨-, h⟩
      · obtain ⟨hserv, hheld, -⟩ := State.headServed_cuff (.inr rfl) (State.headReady_spec h).2.2.2.2.1
        rw [serveCuff, if_pos rfl, (legs_even he).1] at hheld
        exact ⟨hserv, hheld⟩
      · obtain ⟨hserv, hheld, -⟩ := State.headServed_cuff (.inl rfl) (State.headReady_spec h).2.2.2.2.1
        exact ⟨hserv, hheld⟩
    obtain ⟨hcuff, hcuffs, hreg, hmode, hactive, hvalues, hframe⟩ := s.patternSet_spec c f
    obtain ⟨hctrl, hcfg, -⟩ := patternRegs_apart c
    have hperAct := State.perActive_set (f := f) hserv hheld heven
    have hfits := State.perFits_set (f := f) heven
    have hact : s.actPeriod c = (((if (s.patternSet c f).bit (Reg.CUF_PER_CTRL c) 6 then s.patternSet c f
        else (s.patternSet c f).startPeriod c f.due).occupy c f.due f.due true).finish f) := by
      unfold State.actPeriod
      dsimp only
      rw [hsel]
      rfl
    generalize s.patternSet c f = u at hcuff hcuffs hreg hmode hactive hvalues hframe hperAct hfits hact
    have hen : u.pairEn (c / 2) = s.pairEn (c / 2) := State.bit_of_reg (hreg _ (hcfg _ _ (Nat.mod_lt _ (by decide)))) 0
    have h6 : u.bit (Reg.CUF_PER_CTRL c) 6 = s.bit (Reg.CUF_PER_CTRL c) 6 := State.bit_of_reg (hreg _ hctrl) 6
    have huheld : (u.cuff c).held = false := by rw [hcuff]; exact hheld
    have hueven : u.pairEn (c / 2) = true → c % 2 = 0 := hen ▸ heven
    obtain ⟨v, hv⟩ : ∃ v, v = if u.bit (Reg.CUF_PER_CTRL c) 6 then u else u.startPeriod c f.due := ⟨_, rfl⟩
    have hvpat : PatternOnly c u v := by
      rw [hv]
      split
      · exact .refl c u
      · exact u.startPeriod_pattern hc _ hueven huheld
    rw [← hv] at hact
    obtain ⟨t, ht⟩ : ∃ t, t = v.occupy c f.due f.due true := ⟨_, rfl⟩
    have htcuff : t.cuff c = { v.cuff c with lastT := some f.due, lastEdge := some f.due } := by
      simp [ht, State.occupy, State.cuff_setCuff]
    have htpat : PatternOnly c u t := hvpat.trans (ht ▸ (CuffOnly.of_setCuff ..).pattern)
    have htbit (r i : Nat) : t.bit r i = v.bit r i := ht ▸ rfl
    have htpair (q : Nat) : t.pairSt q = v.pairSt q := ht ▸ rfl
    rw [← ht] at hact
    have hkept {r : Nat} (hr : r ∈ patternRegs c) : t.reg r = u.reg r := htpat.kept hc hr
    have hshadow : t.shadow = u.shadow := by rw [htpat.frame]
    have hstart (hs : starts) : v = u.startPeriod c f.due := hv.trans (if_neg (by simp [h6, hs.1]))
    refine ⟨t, (onUnit_of hcuffOk _).trans (congrArg _ hact), htpat.period_frame ⟨hcuffs, hreg, hframe⟩,
      (State.fld_of_reg (hkept (by simp [patternRegs])) ..).trans hmode, fun e he => ?_, fun hs hno => ?_, fun hs hfit => ?_, fun hg => ?_⟩
    · obtain ⟨hl, hh⟩ : e.1 ∈ patternRegs c ∧ e.2.1 ∈ patternRegs c := by
        simp only [List.mem_cons, List.not_mem_nil, or_false] at he
        rcases he with rfl | rfl | rfl <;> simp [patternRegs]
      rw [State.pair_of_reg (hkept hl) (hkept hh), State.stagedPair, State.staged, State.staged, hkept hl, hkept hh, hshadow]
      exact hvalues e he
    · have hunfit : u.perFits c = false := Bool.eq_false_iff.mpr fun h => hno ((hfits hs.1).mp h)
      obtain ⟨hat, herr⟩ := State.startPeriod_unfit hc f.due (hperAct hs.1 hs.2.1 hs.2.2) hunfit
      rw [← hstart hs] at hat herr
      rw [htbit, htcuff, hat, hcuff]
      exact ⟨herr, rfl, rfl, rfl⟩
    · obtain ⟨hrun, hst, hout⟩ := State.startPeriod_fit hc f.due (hperAct hs.1 hs.2.1 hs.2.2) ((hfits hs.1).mpr hfit) hueven huheld hmode
      rw [← hstart hs, hen, hactive] at *
      rw [htcuff, htpair]
      exact ⟨hrun, hst, hout⟩
    · rw [if_pos (h6.trans hg)] at hv
      rw [htcuff, hv, hcuff]
      exact ⟨rfl, rfl⟩

end Sys2Proof.Machine

/-! Actions at a complementary pair (R51, R64, R65, R70, R73). -/

namespace Sys2Proof.Machine

open Sys2Proof

/-! ### What an edge makes of a leg (R64, R65) -/

section Leg
variable {s : State} {c : Nat}

theorem State.padded_level (s : State) (c : Nat) (k : Cuff) (l : Bool) (stamp : Nat) : (s.padded c k l stamp).level = k.level ∧
    (s.padded c k l stamp).driven = k.driven ∧ (s.padded c k l stamp).edges = k.edges := by
  unfold State.padded
  split <;> exact ⟨rfl, rfl, rfl⟩

theorem State.drivenPad_level (s : State) (c stamp : Nat) : ((s.drivenPad c stamp).cuff c).level = (s.cuff c).level ∧
    ((s.drivenPad c stamp).cuff c).driven = (s.cuff c).driven ∧ ((s.drivenPad c stamp).cuff c).edges = (s.cuff c).edges := by
  unfold State.drivenPad
  split
  · rw [(s.padTo_cuff (c := c) _ stamp).1]
    exact s.padded_level ..
  · exact ⟨rfl, rfl, rfl⟩

theorem State.edgeMade_cuff (s : State) (c t : Nat) : (s.edgeMade c t).cuff c = { s.cuff c with lastEdge := some t } := by
  have hat := (s.edgeCounted_cuff (c := c) t).1
  simp only [State.edgeMade]
  split
  · exact hat
  · exact hat

/-- An edge that no lockout keeps back (R51, R65). -/
theorem State.driveCuff_level (hheld : (s.cuff c).held = false) {l : Bool} (hlock : s.lockedOut c l = false) (t : Nat) :
    ((s.driveCuff c l t).cuff c).level = l ∧ ((s.driveCuff c l t).cuff c).driven = s.outputOn c ∧
      ((s.driveCuff c l t).cuff c).edges = (s.cuff c).edges := by
  obtain ⟨u, hu⟩ : ∃ u, u = s.setCuff c { s.cuff c with driven := s.outputOn c, level := l } := ⟨_, rfl⟩
  have hat : u.cuff c = { s.cuff c with driven := s.outputOn c, level := l } := by rw [hu, State.cuff_setCuff, if_pos rfl]
  have hdrive : s.driveCuff c l t = if (s.cuff c).driven = s.outputOn c ∧ (s.cuff c).level = l then u
      else (u.edgeMade c t).drivenPad c t := by
    rw [hu]
    exact (if_neg (by simp [hheld])).trans (if_neg (by simp [hlock]))
  rw [hdrive]
  split
  · rw [hat]
    exact ⟨rfl, rfl, rfl⟩
  · obtain ⟨hl, hd, he⟩ := (u.edgeMade c t).drivenPad_level c t
    rw [hl, hd, he, u.edgeMade_cuff, hat]
    exact ⟨rfl, rfl, rfl⟩

/-- The lockout of a leg does not rest on the edges that a cuff still has to make (R65). -/
theorem State.lockedOut_setEdges (s : State) (c : Nat) (es : List (Nat × Bool)) (l : Bool) :
    (s.setCuff c { s.cuff c with edges := es }).lockedOut c l = s.lockedOut c l := by
  have hleg (e : Nat) : (s.setCuff c { s.cuff c with edges := es }).legActive e = s.legActive e := by
    unfold State.legActive
    rw [State.cuff_setCuff]
    split
    · next h => rw [h]; rfl
    · rfl
  unfold State.lockedOut
  rw [hleg]
  rfl

section Due
variable (hheld : (s.cuff c).held = false) (hserv : s.frozen = false) {t : Nat} {l : Bool}
include hheld hserv

/-- A leg that takes a level at a time that has come, no lockout keeping it back (R64). -/
theorem State.legTo_reached (hreach : s.reached (s.placed c t) = true) (hlock : s.lockedOut c l = false) :
    ((s.legTo c t l).cuff c).level = l ∧ ((s.legTo c t l).cuff c).edges = [] := by
  have hlock' (es : List (Nat × Bool)) : (s.setCuff c { s.cuff c with edges := es }).lockedOut c l = false :=
    (s.lockedOut_setEdges c es l).trans hlock
  obtain ⟨w, hw⟩ : ∃ w, w = s.setCuff c { s.cuff c with edges := [(t, l)] } := ⟨_, rfl⟩
  have hwcuff : w.cuff c = { s.cuff c with edges := [(t, l)] } := by rw [hw, State.cuff_setCuff, if_pos rfl]
  have hplaced : w.reached (w.placed c t) = true := by
    rw [← hreach, State.placed, hwcuff, hw]
    rfl
  have hsettle : w.settleCuff c = (w.setCuff c { w.cuff c with edges := [] }).driveCuff c l t := by
    have hfrozen : w.frozen = false := hw ▸ hserv
    have hwlock : w.lockedOut c l = false := hw ▸ hlock' _
    unfold State.settleCuff
    dsimp only
    rw [hwcuff, if_neg (by simp [hheld, hfrozen])]
    simp [hplaced, hwlock]
  obtain ⟨v, hv⟩ : ∃ v, v = w.setCuff c { w.cuff c with edges := [] } := ⟨_, rfl⟩
  have hvcuff : v.cuff c = { s.cuff c with edges := [] } := by rw [hv, State.cuff_setCuff, if_pos rfl, hwcuff]
  have hvlock : v.lockedOut c l = false := by
    rw [hv, State.lockedOut_setEdges, hw]
    exact hlock' _
  obtain ⟨hlevel, -, hedges⟩ := State.driveCuff_level (by rw [hvcuff]; exact hheld) hvlock t
  have hto : s.legTo c t l = v.driveCuff c l t := by
    rw [State.legTo, ← hw, hsettle, hv]
  rw [hto]
  exact ⟨hlevel, by rw [hedges, hvcuff]⟩

/-- A leg whose time has not come waits for it (R64). -/
theorem State.legTo_ahead (hreach : s.reached (s.placed c t) = false) : ((s.legTo c t l).cuff c).edges = [(t, l)] := by
  obtain ⟨w, hw⟩ : ∃ w, w = s.setCuff c { s.cuff c with edges := [(t, l)] } := ⟨_, rfl⟩
  have hwcuff : w.cuff c = { s.cuff c with edges := [(t, l)] } := by rw [hw, State.cuff_setCuff, if_pos rfl]
  have hplaced : w.reached (w.placed c t) = false := by
    rw [← hreach, State.placed, hwcuff, hw]
    rfl
  have hfrozen : w.frozen = false := hw ▸ hserv
  have hsettle : w.settleCuff c = w.setCuff c { w.cuff c with edges := [(t, l)] } := by
    unfold State.settleCuff
    dsimp only
    rw [hwcuff, if_neg (by simp [hheld, hfrozen])]
    simp [hplaced]
  rw [State.legTo, ← hw, hsettle, State.cuff_setCuff, if_pos rfl]

end Due

/-! #### What an edge leaves of the other cuffs -/

section Other
variable {e : Nat} (he : e ≠ c)
include he

theorem State.padTo_other (s : State) (l : Bool) (stamp : Nat) : (s.padTo c l stamp).cuff e = s.cuff e := (s.padTo_cuff l stamp).2.cuff e he

theorem State.drivenPad_other (s : State) (stamp : Nat) : (s.drivenPad c stamp).cuff e = s.cuff e := by
  unfold State.drivenPad
  split
  · exact State.padTo_other he s ..
  · rfl

theorem State.edgeMade_other (s : State) (t : Nat) : (s.edgeMade c t).cuff e = s.cuff e := by
  have hat := (s.edgeCounted_cuff (c := c) t).2.2.cuff e he
  simp only [State.edgeMade]
  split
  · exact hat
  · exact hat

theorem State.driveCuff_other (s : State) (l : Bool) (t : Nat) : (s.driveCuff c l t).cuff e = s.cuff e := by
  have hset (u : State) (k : Cuff) : (u.setCuff c k).cuff e = u.cuff e := (State.cuff_setCuff ..).trans (if_neg he)
  simp only [State.driveCuff]
  split
  · exact hset ..
  split
  · rfl
  split
  · exact hset ..
  · exact (State.drivenPad_other he ..).trans ((State.edgeMade_other he ..).trans (hset ..))

theorem State.legTo_other (s : State) (t : Nat) (l : Bool) : (s.legTo c t l).cuff e = s.cuff e := by
  have hset (u : State) (k : Cuff) : (u.setCuff c k).cuff e = u.cuff e := (State.cuff_setCuff ..).trans (if_neg he)
  have hfold (es : List (Nat × Bool)) : ∀ u : State, (es.foldl (fun s x => s.driveCuff c x.2 x.1) u).cuff e = u.cuff e := by
    induction es with
    | nil => exact fun _ => rfl
    | cons x es ih => exact fun u => (ih _).trans (State.driveCuff_other he u ..)
  unfold State.legTo State.settleCuff
  dsimp only
  split
  · exact hset ..
  · exact (hfold _ _).trans ((hset ..).trans (hset ..))

end Other

end Leg

/-! ### A change of pair state (R64) -/

section Pair
variable {v : State} {p : Nat} {t : Nat} (hserv : v.frozen = false) (ha : (v.cuff (2 * p)).held = false) (hb : (v.cuff (2 * p + 1)).held = false)
include hserv ha hb

/-- Both legs go to their inactive levels. -/
theorem State.legsOff_spec (hra : v.reached (v.placed (2 * p) t) = true) (hrb : v.reached (v.placed (2 * p + 1) t) = true) :
    let w := (v.legTo (2 * p) t !(v.activeLevel (2 * p))).legTo (2 * p + 1) t !(v.activeLevel (2 * p + 1))
    (w.cuff (2 * p)).level = !(v.activeLevel (2 * p)) ∧ (w.cuff (2 * p + 1)).level = !(v.activeLevel (2 * p + 1)) := by
  have hlegs := State.legTo_legs (p := p) (c := 2 * p) (.inl rfl) v t !(v.activeLevel (2 * p))
  obtain ⟨hl, -⟩ := State.legTo_reached (l := !(v.activeLevel (2 * p))) ha hserv hra (by simp [State.lockedOut])
  have hkept := State.legTo_other (c := 2 * p) (e := 2 * p + 1) (by omega) v t !(v.activeLevel (2 * p))
  generalize v.legTo (2 * p) t (!(v.activeLevel (2 * p))) = u at hlegs hl hkept ⊢
  obtain ⟨hl', -⟩ := State.legTo_reached (s := u) (c := 2 * p + 1) (t := t) (l := !(v.activeLevel (2 * p + 1))) (by rw [hkept]; exact hb)
    (hlegs.frozen.trans hserv) (by rw [hlegs.reached, hlegs.placed]; exact hrb) (by simp [State.lockedOut, hlegs.activeLevel])
  exact ⟨(congrArg Cuff.level (State.legTo_other (by omega) u t _)).trans hl, hl'⟩

/-- One leg goes to its inactive level, and the other becomes active at a time (R64, R65). -/
theorem State.legsOn_spec {off on : Nat} (hoff : legOf p off) (hon : on = otherLeg off) (hoff' : off = otherLeg on) {t' : Nat} 
    (hr : v.reached (v.placed off t) = true) :
    let w := (v.legTo off t !(v.activeLevel off)).legTo on t' (v.activeLevel on)
    (w.cuff off).level = !(v.activeLevel off) ∧
    (v.reached (v.placed on t') = true → (w.cuff on).level = v.activeLevel on) ∧
    (v.reached (v.placed on t') = false → (w.cuff on).edges = [(t', v.activeLevel on)]) := by
  have hne : on ≠ off := by
    rw [hon, otherLeg]
    split <;> omega
  have hlegOn : legOf p on := by
    rw [hon]
    rcases hoff with rfl | rfl
    · exact .inr (by rw [otherLeg, if_pos (by omega)])
    · exact .inl (by rw [otherLeg, if_neg (by omega)]; omega)
  have hheld {c : Nat} (hc : legOf p c) : (v.cuff c).held = false := by
    rcases hc with rfl | rfl
    · exact ha
    · exact hb
  have hlegs := State.legTo_legs hoff v t !(v.activeLevel off)
  obtain ⟨hl, -⟩ := State.legTo_reached (l := !(v.activeLevel off)) (hheld hoff) hserv hr (by simp [State.lockedOut])
  have hkept := State.legTo_other hne v t !(v.activeLevel off)
  generalize v.legTo off t (!(v.activeLevel off)) = u at hlegs hl hkept ⊢
  have hheld' : (u.cuff on).held = false := by rw [hkept]; exact hheld hlegOn
  have hlock : u.lockedOut on (v.activeLevel on) = false := by
    simp [State.lockedOut, ← hoff', State.legActive, hl, hlegs.activeLevel]
  refine ⟨(congrArg Cuff.level (State.legTo_other hne.symm u t' _)).trans hl, fun h => ?_, fun h => ?_⟩
  · exact (State.legTo_reached hheld' (hlegs.frozen.trans hserv) (by rw [hlegs.reached, hlegs.placed]; exact h) hlock).1
  · exact State.legTo_ahead hheld' (hlegs.frozen.trans hserv) (by rw [hlegs.reached, hlegs.placed]; exact h)

end Pair

/-! ### PAIR_SET (R64, R65) -/

section PairSet
variable {s : State} {p : Nat}

/-- The three changes of pair state, by the order in which the legs follow (R64). -/
theorem State.pairTo_eq (s : State) (p st t : Nat) : s.pairTo p st t =
    let v := s.pairIn p st t
    let old := (s.pairSt p).st
    if st = 0 then (v.legTo (2 * p) t !(v.activeLevel (2 * p))).legTo (2 * p + 1) t !(v.activeLevel (2 * p + 1))
    else if st = 1 then (v.legTo (2 * p + 1) t !(v.activeLevel (2 * p + 1))).legTo (2 * p)
      (if old = 2 then v.plus t (v.dead p) else t) (v.activeLevel (2 * p))
    else (v.legTo (2 * p) t !(v.activeLevel (2 * p))).legTo (2 * p + 1)
      (if old = 1 then v.plus t (v.dead p) else t) (v.activeLevel (2 * p + 1)) := rfl

/-- The other leg of leg A, and of leg B. -/
theorem otherLeg_pair (p : Nat) : otherLeg (2 * p) = 2 * p + 1 ∧ otherLeg (2 * p + 1) = 2 * p := by
  refine ⟨by rw [otherLeg, if_pos (by omega)], by rw [otherLeg, if_neg (by omega)]; omega⟩

/-- The legs after a change of pair state whose time has come for both (R64, R65). -/
theorem State.pairTo_levels {s : State} {p st t : Nat} (hst : st < 3) (hserv : s.frozen = false) (ha : (s.cuff (2 * p)).held = false)
    (hb : (s.cuff (2 * p + 1)).held = false) (hra : s.reached (s.placed (2 * p) t) = true)
    (hrb : s.reached (s.placed (2 * p + 1) t) = true) :
    let w := s.pairTo p st t
    let old := (s.pairSt p).st
    let act (c : Nat) := s.activeLevel c
    let late (c : Nat) := s.reached (s.placed c (s.plus t (s.dead p)))
    (st ≠ 1 → (w.cuff (2 * p)).level = !act (2 * p)) ∧ (st ≠ 2 → (w.cuff (2 * p + 1)).level = !act (2 * p + 1)) ∧
    (st = 1 → old ≠ 2 → (w.cuff (2 * p)).level = act (2 * p)) ∧ (st = 2 → old ≠ 1 → (w.cuff (2 * p + 1)).level = act (2 * p + 1)) ∧
    (st = 1 → old = 2 → late (2 * p) = false → (w.cuff (2 * p)).edges = [(s.plus t (s.dead p), act (2 * p))]) ∧
    (st = 2 → old = 1 → late (2 * p + 1) = false → (w.cuff (2 * p + 1)).edges = [(s.plus t (s.dead p), act (2 * p + 1))]) := by
  obtain ⟨hoa, hob⟩ := otherLeg_pair p
  intro w old act late
  obtain ⟨v, hv⟩ : ∃ v, v = s.pairIn p st t := ⟨_, rfl⟩
  have hw := State.pairTo_eq s p st t
  rw [← hv] at hw
  have hvserv : v.frozen = false := hv ▸ hserv
  have hva : (v.cuff (2 * p)).held = false := hv ▸ ha
  have hvb : (v.cuff (2 * p + 1)).held = false := hv ▸ hb
  have hact (c : Nat) : v.activeLevel c = act c := hv ▸ rfl
  have hreach (c x : Nat) : v.reached (v.placed c x) = s.reached (s.placed c x) := hv ▸ rfl
  have hplus : v.plus t (v.dead p) = s.plus t (s.dead p) := hv ▸ rfl
  simp only [← hact]
  rcases (by omega : st = 0 ∨ st = 1 ∨ st = 2) with h0 | h1 | h2
  · obtain ⟨hla, hlb⟩ := State.legsOff_spec hvserv hva hvb ((hreach _ _).trans hra) ((hreach _ _).trans hrb)
    rw [show w = _ from hw.trans (if_pos h0)]
    exact ⟨fun _ => hla, fun _ => hlb, fun h => by omega, fun h => by omega, fun h => by omega, fun h => by omega⟩
  · have hto : w = _ := hw.trans ((if_neg (by omega)).trans (if_pos h1))
    have hsoon : old ≠ 2 → (if (s.pairSt p).st = 2 then v.plus t (v.dead p) else t) = t := fun ho => if_neg ho
    have hlater : old = 2 → (if (s.pairSt p).st = 2 then v.plus t (v.dead p) else t) = s.plus t (s.dead p) := fun ho => (if_pos ho).trans hplus
    generalize (if (s.pairSt p).st = 2 then v.plus t (v.dead p) else t) = t' at hto hsoon hlater
    obtain ⟨hoff, hon, hwait⟩ := State.legsOn_spec hvserv hva hvb (off := 2 * p + 1) (on := 2 * p) (.inr rfl) hob.symm hoa.symm
      (t' := t') ((hreach _ _).trans hrb)
    rw [hto]
    refine ⟨fun h => absurd h1 h, fun _ => hoff, fun _ ho => hon ?_, fun h => by omega, fun _ ho hl => ?_, fun h => by omega⟩
    · rw [hsoon ho, hreach]
      exact hra
    · rw [hlater ho, hreach] at hwait
      rw [hlater ho]
      exact hwait hl
  · have hto : w = _ := hw.trans ((if_neg (by omega)).trans (if_neg (by omega)))
    have hsoon : old ≠ 1 → (if (s.pairSt p).st = 1 then v.plus t (v.dead p) else t) = t := fun ho => if_neg ho
    have hlater : old = 1 → (if (s.pairSt p).st = 1 then v.plus t (v.dead p) else t) = s.plus t (s.dead p) := fun ho => (if_pos ho).trans hplus
    generalize (if (s.pairSt p).st = 1 then v.plus t (v.dead p) else t) = t' at hto hsoon hlater
    obtain ⟨hoff, hon, hwait⟩ := State.legsOn_spec hvserv hva hvb (off := 2 * p) (on := 2 * p + 1) (.inl rfl) hoa.symm hob.symm
      (t' := t') ((hreach _ _).trans hra)
    rw [hto]
    refine ⟨fun _ => hoff, fun h => absurd h2 h, fun h => by omega, fun _ ho => hon ?_, fun h => by omega, fun _ ho hl => ?_⟩
    · rw [hsoon ho, hreach]
      exact hrb
    · rw [hlater ho, hreach] at hwait
      rw [hlater ho]
      exact hwait hl

variable {f : Flight}

/-- What PAIR_SET leaves (R64), before its action is finished. -/
theorem State.actPairSet_spec (h : s.headReady 2 p 0x11 = some f) : ∃ t u : State, s.actPairSet p = t.finish f ∧
    u = (s.endPeriodic (2 * p)).pairTo p (f.act.sub % 4) f.due ∧ (t.cuff (2 * p)).lastT = some f.due ∧
    (∀ c, (t.cuff c).level = (u.cuff c).level ∧ (t.cuff c).edges = (u.cuff c).edges) ∧ t.pairs = u.pairs ∧
    (∀ c, c ≠ 2 * p → t.cuff c = u.cuff c) ∧ t.regs = u.regs ∧ t = { u with cuffs := t.cuffs } := by
  obtain ⟨u, hu⟩ : ∃ u, u = (s.endPeriodic (2 * p)).pairTo p (f.act.sub % 4) f.due := ⟨_, rfl⟩
  obtain ⟨stop, edge, hact⟩ : ∃ stop edge, s.actPairSet p = (u.occupy (2 * p) f.due stop edge).finish f := by
    unfold State.actPairSet
    rw [h, hu]
    exact ⟨_, _, rfl⟩
  obtain ⟨t, ht⟩ : ∃ t, t = u.occupy (2 * p) f.due stop edge := ⟨_, rfl⟩
  have hat (c : Nat) : t.cuff c = if c = 2 * p then
      { u.cuff (2 * p) with
        lastT := some f.due, busyTo := (t.cuff (2 * p)).busyTo, lastEdge := (t.cuff (2 * p)).lastEdge } else u.cuff c := by
    simp only [ht, State.occupy, State.cuff_setCuff, if_true]
  have hframe : t = { u with cuffs := t.cuffs } := ht ▸ rfl
  refine ⟨t, u, ht ▸ hact, hu, by rw [hat, if_pos rfl], fun c => ?_, by rw [hframe], fun c hc => (hat c).trans (if_neg hc), by rw [hframe], hframe⟩
  rw [hat]
  split
  · next h => rw [h]; exact ⟨rfl, rfl⟩
  · exact ⟨rfl, rfl⟩

end PairSet

/-! ### PAIR_REARM (R70) -/

section Rearm
variable {s : State} {p : Nat} {f : Flight}

/-- A cuff whose output no action changes keeps what it was of the spacing but its start (R52). -/
theorem State.occupy_still (s : State) (c t : Nat) : s.occupy c t t false = s.setCuff c { s.cuff c with lastT := some t } := by
  simp [State.occupy]

/-- A guard input of a leg that is asserted (R70). -/
theorem State.guardUp_iff (s : State) (p : Nat) : let cfg := Reg.SLV_PAIR_CFG (p / 16) (p % 16)
    (s.guardUp p (s.guardA p) = true ↔ s.bit cfg 1 = true ∧ s.bit (Reg.SLV_GDSTATE (p / 16)) (s.fld cfg (1 + 1) 3) = true) ∧
    (s.guardUp p (s.guardB p) = true ↔ s.bit cfg 5 = true ∧ s.bit (Reg.SLV_GDSTATE (p / 16)) (s.fld cfg (5 + 1) 3) = true) := by
  intro cfg
  unfold State.guardA State.guardB
  dsimp only
  refine ⟨?_, ?_⟩
  · by_cases h : s.bit (Reg.SLV_PAIR_CFG (p / 16) (p % 16)) 1 = true
    · rw [if_pos h]
      exact ⟨fun h' => ⟨h, h'⟩, fun h' => h'.2⟩
    · rw [if_neg h]
      exact ⟨fun h' => absurd h' (by simp [State.guardUp]), fun h' => absurd h'.1 h⟩
  · by_cases h : s.bit (Reg.SLV_PAIR_CFG (p / 16) (p % 16)) 5 = true
    · rw [if_pos h]
      exact ⟨fun h' => ⟨h, h'⟩, fun h' => h'.2⟩
    · rw [if_neg h]
      exact ⟨fun h' => absurd h' (by simp [State.guardUp]), fun h' => absurd h'.1 h⟩

/-- What the re-arm of a tripped pair that fits leaves (R70). -/
theorem State.rearmPair_spec (bridge : Bool) (htrip : s.tripped p = true) (hfit : s.rearmFits p bridge = true) :
    let t := s.rearmPair p bridge
    t.tripped p = false ∧ t.bridged p = false ∧ (t.pairSt p).st = 0 ∧ t.cuff (2 * p) = { s.cuff (2 * p) with apTrip := false } ∧
    t.cuff (2 * p + 1) = { s.cuff (2 * p + 1) with apTrip := false } ∧ (∀ c, c ≠ 2 * p → c ≠ 2 * p + 1 → t.cuff c = s.cuff c) ∧
    (∀ r, r ∉ [Reg.SLV_TRIP (p / 16), Reg.SLV_BRIDGE (p / 16)] → t.reg r = s.reg r) ∧
    t = { s with regs := t.regs, cuffs := t.cuffs, pairs := t.pairs } := by
  obtain ⟨u, hu⟩ : ∃ u, u = ((s.setBit (Reg.SLV_TRIP (p / 16)) (p % 16) false).setBit (Reg.SLV_TRIP (p / 16)) (16 + p % 16) false).setBit
    (Reg.SLV_BRIDGE (p / 16)) (p % 16) false := ⟨_, rfl⟩
  have hne : Reg.SLV_TRIP (p / 16) ≠ Reg.SLV_BRIDGE (p / 16) := by simp
  have honly : OnlyRegs [Reg.SLV_TRIP (p / 16), Reg.SLV_BRIDGE (p / 16)] s u :=
    hu ▸ (((OnlyRegs.refl _ s).setBit (by simp) _ _).setBit (by simp) _ _).setBit (by simp) _ _
  have hlt : p % 16 < 16 := Nat.mod_lt _ (by decide)
  have htripped : u.bit (Reg.SLV_TRIP (p / 16)) (p % 16) = false := by
    rw [hu, State.bit_setBit_other _ hne, State.bit_setBit_apart _ _ _ _ _ (by omega) (by omega), State.bit_setBit_same _ _ _ _ (by omega)]
  have hbridged : u.bit (Reg.SLV_BRIDGE (p / 16)) (p % 16) = false := by
    rw [hu, State.bit_setBit_same _ _ _ _ (by omega)]
  have hre : s.rearmPair p bridge = ((u.setPairSt p { u.pairSt p with st := 0 }).endCause (2 * p) .trip).endCause (2 * p + 1) .trip := by
    rw [State.rearmPair, if_neg (by simp [htrip]), if_neg (by simp [hfit]), hu]
  rw [hre]
  have hcuff (c : Nat) : u.cuff c = s.cuff c := by
    rw [honly.1]
    rfl
  have hst : ((u.setPairSt p { u.pairSt p with st := 0 }).pairSt p).st = 0 := by rw [State.pairSt_setPairSt, if_pos rfl]
  refine ⟨htripped, hbridged, hst, ?_, ?_, fun c ha hb => ?_, honly.2, ?_⟩
  · rw [State.cuff_endCause, if_neg (by omega), State.cuff_endCause, if_pos rfl]
    exact congrArg (fun k : Cuff => k.setCause .trip false) (hcuff _)
  · rw [State.cuff_endCause, if_pos rfl, State.cuff_endCause, if_neg (by omega)]
    exact congrArg (fun k : Cuff => k.setCause .trip false) (hcuff _)
  · rw [State.cuff_endCause, if_neg hb, State.cuff_endCause, if_neg ha]
    exact hcuff c
  · rw [honly.1]
    rfl

end Rearm

/-! ### APRON_SET (R51, R73) -/

section Apron
variable (s : State) {c v : Nat}

/-- The level that Apron selects (R72). -/
theorem State.apronLevel_at (c : Nat) : let a := s.fld (Reg.CUF_CFG c) 4 2
    (a = 0 → ((s.apronLevel c).cuff c).driven = true ∧ ((s.apronLevel c).cuff c).level = false) ∧
    (a = 1 → ((s.apronLevel c).cuff c).driven = true ∧ ((s.apronLevel c).cuff c).level = true) ∧
    (a = 2 → ((s.apronLevel c).cuff c).driven = false) := by
  intro a
  obtain ⟨k, hk⟩ : ∃ k : Cuff, k = { s.cuff c with edges := [], perRun := false } := ⟨_, rfl⟩
  obtain ⟨k', hk'⟩ : ∃ k' : Cuff, k' = if a = 0 then { k with driven := true, level := false }
    else if a = 1 then { k with driven := true, level := true } else if a = 2 then { k with driven := false } else k := ⟨_, rfl⟩
  obtain ⟨u, hu⟩ : ∃ u, u = s.setCuff c k' := ⟨_, rfl⟩
  have hlevel : s.apronLevel c = if k'.driven = k.driven ∧ k'.level = k.level then u
      else (u.edgeCounted c (u.edgeNow c)).drivenPad c (u.edgeNow c) := by
    rw [hu, hk', hk]
    rfl
  have hucuff : u.cuff c = k' := by rw [hu, State.cuff_setCuff, if_pos rfl]
  have hsame : ((s.apronLevel c).cuff c).driven = k'.driven ∧ ((s.apronLevel c).cuff c).level = k'.level := by
    rw [hlevel]
    split
    · rw [hucuff]
      exact ⟨rfl, rfl⟩
    · obtain ⟨hl, hd, -⟩ := (u.edgeCounted c (u.edgeNow c)).drivenPad_level c (u.edgeNow c)
      rw [hl, hd, (u.edgeCounted_cuff (c := c) _).1, hucuff]
      exact ⟨rfl, rfl⟩
  rw [hsame.1, hsame.2]
  refine ⟨fun h => ?_, fun h => ?_, fun h => ?_⟩
  · rw [hk', if_pos h]
    exact ⟨rfl, rfl⟩
  · rw [hk', if_neg (by omega), if_pos h]
    exact ⟨rfl, rfl⟩
  · rw [hk', if_neg (by omega), if_neg (by omega), if_pos h]

/-- What setting a cuff's Apron leaves unchanged (R51, R73). -/
theorem State.setApron_reg (hc : c < 1024) (v : Nat) : SameButEvents [Reg.CUF_CFG c, Reg.CUF_EDGES c, Reg.CUF_ERR c] s (s.setApron c v) := by
  intro r hr hp
  simp only [List.mem_cons, List.not_mem_nil, or_false, not_or] at hr
  obtain ⟨hcfg, hedges, herr⟩ := hr
  unfold State.setApron
  split
  · exact (State.raise_reg _ (by omega) hp).trans (State.reg_setBit_other _ herr ..)
  dsimp only
  have hboth := (s.setBoth_both (Reg.CUF_CFG c) v 4 2).reg r (by simpa using hcfg)
  split
  · exact ((State.apronLevel_only _ c).reg r hedges).trans hboth
  · exact hboth

/-- An Apron that R73 allows (R51). -/
theorem State.setApron_fits (hv : v < 4) (hfit : s.pairEn (c / 2) = true → apronFits (s.bit (Reg.CUF_CFG c) 2) v = true) :
    let t := s.setApron c v
    t.fld (Reg.CUF_CFG c) 4 2 = v ∧ (t.staged (Reg.CUF_CFG c)).toNat / 16 % 4 = v ∧
    ((s.cuff c).apron = false → t.cuff c = s.cuff c ∧ ∀ r, r ≠ Reg.CUF_CFG c → t.reg r = s.reg r) ∧
    ((s.cuff c).apron = true → v ≠ 3 → (t.cuff c).driven = decide (v ≠ 2) ∧ (v ≠ 2 → (t.cuff c).level = decide (v = 1))) ∧
    (∀ e, e ≠ c → t.cuff e = s.cuff e) ∧ (∀ r, r ≠ Reg.CUF_CFG c → r ≠ Reg.CUF_EDGES c → t.reg r = s.reg r ∧ t.staged r = s.staged r) ∧
    t = { s with regs := t.regs, shadow := t.shadow, cuffs := t.cuffs } := by
  obtain ⟨u, hu⟩ : ∃ u, u = s.setBoth (Reg.CUF_CFG c) 4 2 v := ⟨_, rfl⟩
  have hset : s.setApron c v = if (u.cuff c).apron then u.apronLevel c else u := by
    rw [State.setApron, if_neg, hu]
    rintro ⟨hp, hno⟩
    exact absurd ((hfit hp).symm.trans hno) (by decide)
  have hboth : BothOnly [Reg.CUF_CFG c] s u := hu ▸ s.setBoth_both ..
  obtain ⟨hfld, hstaged, -⟩ := s.setBoth_fld (Reg.CUF_CFG c) v (lo := 4) (n := 2) (by decide)
  rw [← hu] at hfld hstaged
  have hvmod : v % 2 ^ 2 = v := Nat.mod_eq_of_lt hv
  rw [hvmod] at hfld
  have hstagedV : (u.staged (Reg.CUF_CFG c)).toNat / 16 % 4 = v := by
    rw [hstaged, putBits_eq, word, BitVec.toNat_ofNat]
    omega
  have hcuff (e : Nat) : u.cuff e = s.cuff e := by
    rw [hboth.frame]
    rfl
  have hreg (r : Nat) (hr : r ≠ Reg.CUF_CFG c) : u.reg r = s.reg r := hboth.reg r (by simpa using hr)
  have hst (r : Nat) (hr : r ≠ Reg.CUF_CFG c) : u.staged r = s.staged r := hboth.staged r (by simpa using hr)
  intro t
  rw [show t = _ from hset]
  cases hap : (u.cuff c).apron with
  | false =>
    rw [if_neg (by decide)]
    refine ⟨hfld, hstagedV, fun _ => ⟨hcuff c, hreg⟩, fun h => ?_, fun e _ => hcuff e, fun r hr _ => ⟨hreg r hr, hst r hr⟩, by rw [hboth.frame]⟩
    rw [← hcuff c, hap] at h
    exact absurd h (by decide)
  | true =>
    rw [if_pos rfl]
    have honly := u.apronLevel_only c
    obtain ⟨h0, h1, h2⟩ := u.apronLevel_at c
    rw [hfld] at h0 h1 h2
    refine ⟨(State.fld_of_reg (honly.reg _ (edges_ne c).1) ..).trans hfld, by rw [honly.staged (edges_ne c).1]; exact hstagedV, fun h => ?_,
      fun _ h3 => ?_, fun e he => (honly.cuff e he).trans (hcuff e), fun r hr he => ⟨(honly.reg r he).trans (hreg r hr),
      (honly.staged he).trans (hst r hr)⟩, by rw [honly.frame, hboth.frame]⟩
    · rw [← hcuff c, hap] at h
      exact absurd h (by decide)
    · rcases (by omega : v = 0 ∨ v = 1 ∨ v = 2) with rfl | rfl | rfl
      · exact ⟨(h0 rfl).1, fun _ => (h0 rfl).2⟩
      · exact ⟨(h1 rfl).1, fun _ => (h1 rfl).2⟩
      · exact ⟨h2 rfl, fun h => absurd rfl h⟩

end Apron

/-! ### The obligation -/

section Main
variable {s : State} {p : Nat} {f : Flight}

/-- A cuff without skew places an edge at its time (R63). -/
theorem State.placed_noSkew {c : Nat} (h : (s.cuff c).skew = 0) (x : Nat) : s.placed c x = s.plus x 0 := by
  rw [State.placed, h, State.shifted, if_pos (le_refl _)]
  rfl

theorem State.plus_zero_plus (x d : Nat) : s.plus (s.plus x d) 0 = s.plus x d := by
  rw [State.plus, State.plus, Nat.add_zero, Nat.mod_mod]

/-- The legs after PAIR_SET at a pair without skew (R64, R65). -/
theorem State.pairSet_levels (hserv : s.service = true) (ha : (s.cuff (2 * p)).held = false) (hb : (s.cuff (2 * p + 1)).held = false)
    (hska : (s.cuff (2 * p)).skew = 0) (hskb : (s.cuff (2 * p + 1)).skew = 0) {st x : Nat} (hst : st < 3)
    (hreach : s.reached (s.plus x 0) = true) :
    let w := (s.endPeriodic (2 * p)).pairTo p st x
    let old := (s.pairSt p).st
    let act (c : Nat) := s.activeLevel c
    (st ≠ 1 → (w.cuff (2 * p)).level = !act (2 * p)) ∧ (st ≠ 2 → (w.cuff (2 * p + 1)).level = !act (2 * p + 1)) ∧
    (st = 1 → old ≠ 2 → (w.cuff (2 * p)).level = act (2 * p)) ∧ (st = 2 → old ≠ 1 → (w.cuff (2 * p + 1)).level = act (2 * p + 1)) ∧
    (st = 1 → old = 2 → s.reached (s.plus x (s.dead p)) = false → (w.cuff (2 * p)).edges = [(s.plus x (s.dead p), act (2 * p))]) ∧
    (st = 2 → old = 1 → s.reached (s.plus x (s.dead p)) = false → (w.cuff (2 * p + 1)).edges = [(s.plus x (s.dead p), act (2 * p + 1))]) := by
  obtain ⟨hend, hcuff⟩ := s.endPeriodic_spec (2 * p)
  generalize s.endPeriodic (2 * p) = u at hend hcuff
  have hcuffB : u.cuff (2 * p + 1) = s.cuff (2 * p + 1) := hend.cuff _ (by omega)
  have hactB : u.activeLevel (2 * p + 1) = s.activeLevel (2 * p + 1) := congrArg (!·) (State.bit_of_reg (hend.reg _ (by
    simp only [Reg.CUF_CFG]
    omega) (by
    simp only [Reg.CUF_CFG, Reg.CUF_EDGES]
    omega)) 2)
  have hcfg : u.reg (Reg.SLV_PAIR_CFG (p / 16) (p % 16)) = s.reg (Reg.SLV_PAIR_CFG (p / 16) (p % 16)) := hend.reg _ (by
    simp only [Reg.SLV_PAIR_CFG, Reg.CUF_CFG]
    rcases Nat.lt_trichotomy (p / 16) (2 * p / 32) with h | h | h <;> omega) ((edges_ne _).2.1 _ _ (Nat.mod_lt _ (by decide)))
  have hdead : u.dead p = s.dead p := State.fld_of_reg hcfg ..
  have hpairs : u.pairSt p = s.pairSt p := by
    rw [hend.frame]
    rfl
  have hskA : (u.cuff (2 * p)).skew = 0 := by rw [hcuff]; exact hska
  have hskB : (u.cuff (2 * p + 1)).skew = 0 := by rw [hcuffB]; exact hskb
  have hplacedA (y : Nat) : u.reached (u.placed (2 * p) y) = s.reached (s.plus y 0) := by
    rw [State.placed_noSkew hskA, hend.reached, hend.plus]
  have hplacedB (y : Nat) : u.reached (u.placed (2 * p + 1) y) = s.reached (s.plus y 0) := by
    rw [State.placed_noSkew hskB, hend.reached, hend.plus]
  have hfrozen : u.frozen = false := by
    rw [hend.frame]
    exact State.not_frozen hserv
  have hlevels := State.pairTo_levels hst hfrozen (by rw [hcuff]; exact ha) (by rw [hcuffB]; exact hb) ((hplacedA x).trans hreach)
    ((hplacedB x).trans hreach)
  simp only [hplacedA, hplacedB, hend.plus, hdead, State.plus_zero_plus, hpairs, hend.activeLevel, hactB] at hlevels
  exact hlevels

/-- PAIR_SET (R64): the first clause of the obligation. -/
theorem State.pairSet_clause (hp : p < 512) (h : s.headReady 2 p 0x11 = some f) :
    let a := 2 * p
    let b := 2 * p + 1
    let old := (s.pairSt p).st
    let new := f.act.sub % 4
    let act (c : Nat) := s.activeLevel c
    ∃ t : State, exec (.pairSet p) s = .next (t.finish f) ∧ (t.pairSt p).st = new ∧
      (t.pairSt p).swung = (if old = new then (s.pairSt p).swung else some f.due) ∧
      (t.cuff a).lastT = some f.due ∧ t.cuffMode a = (if s.cuffMode a = 1 then 0 else s.cuffMode a) ∧
      (∀ c, c ≠ a → c ≠ b → t.cuff c = s.cuff c) ∧ (∀ q, q ≠ p → t.pairSt q = s.pairSt q) ∧
      (∀ r, r ∉ [Reg.CUF_CFG a, Reg.CUF_EDGES a, Reg.CUF_EDGES b] → t.reg r = s.reg r) ∧
      t = { s with regs := t.regs, shadow := t.shadow, cuffs := t.cuffs, pairs := t.pairs } ∧
      ((s.cuff a).skew = 0 → (s.cuff b).skew = 0 → (s.cuff b).held = false → new < 3 → s.tb.now < s.circle → f.due < s.circle →
        (new ≠ 1 → (t.cuff a).level = !act a) ∧ (new ≠ 2 → (t.cuff b).level = !act b) ∧
        (new = 1 → old ≠ 2 → (t.cuff a).level = act a) ∧ (new = 2 → old ≠ 1 → (t.cuff b).level = act b) ∧
        (new = 1 → old = 2 → s.reached (s.plus f.due (s.dead p)) = false →
          (t.cuff a).edges = [(s.plus f.due (s.dead p), act a)]) ∧
        (new = 2 → old = 1 → s.reached (s.plus f.due (s.dead p)) = false →
          (t.cuff b).edges = [(s.plus f.due (s.dead p), act b)])) := by
  intro a b old new act
  obtain ⟨-, -, -, -, hserved, hreach, -⟩ := State.headReady_spec h
  obtain ⟨hserv, hheld, -⟩ := State.headServed_cuff (.inr rfl) hserved
  obtain ⟨t, u, hact, hu, hlast, hout, hpairs, hother, hregs, hframe⟩ := State.actPairSet_spec h
  obtain ⟨hend, -⟩ := s.endPeriodic_spec (2 * p)
  have hlevels := fun hska hskb hb hst => State.pairSet_levels (x := f.due) (st := new) hserv hheld hb hska hskb hst
  have hlegs := State.pairTo_legs (p := p) (s.endPeriodic (2 * p)) new f.due
  rw [← hu] at hlevels hlegs
  generalize s.endPeriodic (2 * p) = s1 at hend hlegs
  have hin : s1.pairIn p new f.due = { s1 with pairs := (s1.pairIn p new f.due).pairs } := rfl
  have hinSt (q : Nat) : (s1.pairIn p new f.due).pairSt q =
      if q = p then { s.pairSt p with st := new, swung := if old = new then (s.pairSt p).swung else some f.due } else s.pairSt q := by
    have hs1 (q : Nat) : s1.pairSt q = s.pairSt q := by
      rw [hend.frame]
      rfl
    rw [State.pairIn, State.pairSt_setPairSt, hs1, hs1]
  have htp (q : Nat) : t.pairSt q = u.pairSt q := by rw [State.pairSt, State.pairSt, hpairs]
  refine ⟨t, (onUnit_of (by simpa [okPair] using hp) _).trans (congrArg _ hact), ?_, ?_, hlast, ?_, fun c ha hb => ?_, fun q hq => ?_,
    fun r hr => ?_, ?_, fun hska hskb hb hst _ _ => ?_⟩
  · rw [htp, hlegs.st, hinSt, if_pos rfl]
  · rw [htp, hlegs.swung, hinSt, if_pos rfl]
  · exact (State.fld_of_reg (State.reg_of_regs hregs _) ..).trans ((hlegs.cuffMode a).trans hend.mode)
  · exact (hother c ha).trans ((hlegs.cuff c ha hb).trans (hend.cuff c ha))
  · rw [htp, hlegs.pair q hq, hinSt, if_neg hq]
  · simp only [List.mem_cons, List.not_mem_nil, or_false, not_or] at hr
    exact (State.reg_of_regs hregs r).trans ((hlegs.reg r hr.2.1 hr.2.2).trans (hend.reg r hr.1 hr.2.1))
  · rw [hframe, hlegs.frame, hin, hend.frame]
  · have hlag : s.lag (serveCuff 2 p) = 0 := by
      have hsa : (s.cuff (serveCuff 2 p)).skew = 0 := hska
      have hsb : (s.cuff (otherLeg (serveCuff 2 p))).skew = 0 := by rw [serveCuff, if_pos rfl, (otherLeg_pair p).1]; exact hskb
      rw [State.lag, hsa, hsb]
      split <;> rfl
    rw [if_pos (.inr rfl), hlag, State.shifted, if_pos (le_refl _)] at hreach
    rw [(hout a).1, (hout a).2, (hout b).1, (hout b).2]
    exact hlevels hska hskb hb hst hreach

/-- What an action refused at a pair leaves (R70, R73). -/
def State.pairRefused (t : State) (f : Flight) (p code : Nat) : State :=
  let t' := (t.popFifo 2 p).usedNow 2 p
  (if f.act.log then t'.execRecord f.act f.org code f.due else t').judgeFifo 2 p

/-- PAIR_REARM (R70): the second clause of the obligation. -/
theorem State.pairRearm_clause (hp : p < 512) (h : s.headReady 2 p 0x12 = some f) :
    let a := 2 * p
    let b := 2 * p + 1
    let up (lo : Nat) := s.bit (Reg.SLV_PAIR_CFG (p / 16) (p % 16)) lo = true ∧
      s.bit (Reg.SLV_GDSTATE (p / 16)) (s.fld (Reg.SLV_PAIR_CFG (p / 16) (p % 16)) (lo + 1) 3) = true
    let fits := ¬up 1 ∧ ¬up 5 ∧ (f.act.sub % 2 = 1 ∨ s.bridged p = false) ∧ s.bit (Reg.SLV_STATUS (p / 16)) 1 = true
    let acted := { s.cuff a with lastT := some f.due }
    (s.tripped p = false → exec (.pairRearm p) s = .next ((s.setCuff a acted).finish f)) ∧
    (s.tripped p = true → ¬fits → exec (.pairRearm p) s = .next (((s.pgErr (0x10 + p / 16) 16).setCuff a acted).pairRefused f p
      (if s.bridged p then 0x18 else 0x17))) ∧
    (s.tripped p = true → fits → ∃ t : State, exec (.pairRearm p) s = .next (t.finish f) ∧ t.tripped p = false ∧
      t.bridged p = false ∧ (t.pairSt p).st = 0 ∧ t.cuff a = { acted with apTrip := false } ∧
      t.cuff b = { s.cuff b with apTrip := false } ∧ (∀ c, c ≠ a → c ≠ b → t.cuff c = s.cuff c) ∧
      (∀ r, r ∉ [Reg.SLV_TRIP (p / 16), Reg.SLV_BRIDGE (p / 16)] → t.reg r = s.reg r) ∧
      t = { s with regs := t.regs, cuffs := t.cuffs, pairs := t.pairs }) := by
  intro a b up fits acted
  obtain ⟨htt, htg, -⟩ := State.headReady_spec h
  obtain ⟨hguardA, hguardB⟩ := s.guardUp_iff p
  have hexec : exec (.pairRearm p) s = .next (if s.rearmFits p (bitAt f.act.sub 0) then
      (((s.rearmPair p (bitAt f.act.sub 0)).occupy (2 * p) f.due f.due false).finish f)
      else ((s.rearmPair p (bitAt f.act.sub 0)).occupy (2 * p) f.due f.due false).pairRefused f p (if s.bridged p then Code.bridgeShort else Code.guardTrip)) := by
    refine (onUnit_of (by simpa [okPair] using hp) _).trans (congrArg _ ?_)
    unfold State.actPairRearm State.pairRefused
    rw [h]
    simp only [htt, htg]
  have hfits (ht : s.tripped p = true) : s.rearmFits p (bitAt f.act.sub 0) = true ↔ fits := by
    have hbit : bitAt f.act.sub 0 = true ↔ f.act.sub % 2 = 1 := by simp [bitAt]
    simp only [State.rearmFits, ht, Bool.not_true, Bool.false_or, Bool.and_eq_true, Bool.not_eq_true', Bool.or_eq_true, hbit]
    rw [← Bool.not_eq_true, hguardA, ← Bool.not_eq_true, hguardB]
    exact ⟨fun ⟨⟨⟨ha, hb⟩, hc⟩, hd⟩ => ⟨ha, hb, hc, hd⟩, fun ⟨ha, hb, hc, hd⟩ => ⟨⟨⟨ha, hb⟩, hc⟩, hd⟩⟩
  refine ⟨fun ht => ?_, fun ht hno => ?_, fun ht hfit => ?_⟩
  · have hre : s.rearmPair p (bitAt f.act.sub 0) = s := if_pos ht
    have hok : s.rearmFits p (bitAt f.act.sub 0) = true := by simp [State.rearmFits, ht]
    rw [hexec, if_pos hok, hre, State.occupy_still]
  · have hok : s.rearmFits p (bitAt f.act.sub 0) = false := Bool.eq_false_iff.mpr fun h => hno ((hfits ht).mp h)
    have hre : s.rearmPair p (bitAt f.act.sub 0) = s.pgErr (0x10 + p / 16) 16 :=
      (if_neg (by simp [ht])).trans (if_pos hok)
    have hcuff : (s.pgErr (0x10 + p / 16) 16).cuff a = s.cuff a := by rw [State.cuff, State.pgErr_cuffs, State.cuff]
    rw [hexec, if_neg (by simp [hok]), hre, State.occupy_still, hcuff]
  · have hok := (hfits ht).mpr hfit
    obtain ⟨htrip, hbridge, hst, hca, hcb, hcuffs, hreg, hframe⟩ := s.rearmPair_spec _ ht hok
    generalize s.rearmPair p (bitAt f.act.sub 0) = u at hexec htrip hbridge hst hca hcb hcuffs hreg hframe
    rw [if_pos hok, State.occupy_still] at hexec
    refine ⟨_, hexec, htrip, hbridge, hst, ?_, ?_, fun c ha hb => ?_, hreg, ?_⟩
    · rw [State.cuff_setCuff, if_pos rfl, hca]
    · rw [State.cuff_setCuff, if_neg (by simp [b]), hcb]
    · rw [State.cuff_setCuff, if_neg ha, hcuffs c ha hb]
    · rw [hframe]
      rfl

/-- An Apron value that a leg of an enabled pair may have (R73). -/
theorem apronFits_iff (pol : Bool) (v : Nat) : apronFits pol v = true ↔ v = 2 ∨ v = b2n pol := by simp [apronFits]

/-- APRON_SET at a cuff that is no leg (R51). -/
theorem State.apronSet_alone {c : Nat} (hc : c < 1024) (hpair : s.pairEn (c / 2) = false) (h : s.headReady 1 c 0x13 = some f) :
    ∃ t : State, exec (.apronSet c) s = .next (t.finish f) ∧
      t.fld (Reg.CUF_CFG c) 4 2 = f.act.sub % 4 ∧ (t.staged (Reg.CUF_CFG c)).toNat / 16 % 4 = f.act.sub % 4 ∧
      ((s.cuff c).apron = false → (t.cuff c).level = (s.cuff c).level ∧ (t.cuff c).driven = (s.cuff c).driven) ∧
      (∀ e, e ≠ c → t.cuff e = s.cuff e) ∧ (∀ r, r ≠ Reg.CUF_CFG c → t.reg r = s.reg r) ∧
      t = { s with regs := t.regs, shadow := t.shadow, cuffs := t.cuffs } := by
  obtain ⟨htt, -, -, -, hserved, -⟩ := State.headReady_spec h
  obtain ⟨-, -, hmode, hbank, habort, hvote, htrip⟩ := State.headServed_cuff (.inl rfl) hserved
  have hap : (s.cuff c).apron = false := by
    have h1 : (s.cuff c).apMode = false := hmode
    have h2 : (s.cuff c).apBank = false := hbank
    have h3 : (s.cuff c).apTrip = false := htrip rfl hpair
    have h4 : (s.cuff c).apAbort = false := habort
    have h5 : (s.cuff c).apVote = false := hvote
    simp [Cuff.apron, h1, h2, h3, h4, h5]
  have hexec : exec (.apronSet c) s = .next (((s.setApron c (f.act.sub % 4)).occupy c f.due f.due false).finish f) := by
    refine (onUnit_of (by simpa [okCuff] using hc) _).trans (congrArg _ ?_)
    have hhead : s.apronHead c = some f := by rw [State.apronHead, if_neg (by simp [hpair]), h]
    unfold State.actApronSet
    simp only [hhead, hpair, htt, Bool.false_and, Bool.false_eq_true, if_false]
    rfl
  obtain ⟨hfld, hstaged, hsame, -, hother, -, hframe⟩ := s.setApron_fits (c := c) (v := f.act.sub % 4) (Nat.mod_lt _ (by decide))
    fun hp => absurd (hpair.symm.trans hp) (by decide)
  obtain ⟨hcuff, hreg⟩ := hsame hap
  generalize s.setApron c (f.act.sub % 4) = u at hexec hfld hstaged hother hframe hcuff hreg
  rw [State.occupy_still] at hexec
  have hat : (u.setCuff c { u.cuff c with lastT := some f.due }).cuff c = { u.cuff c with lastT := some f.due } := by
    rw [State.cuff_setCuff, if_pos rfl]
  refine ⟨_, hexec, hfld, hstaged, fun _ => ?_, fun e he => ?_, hreg, ?_⟩
  · rw [hat, hcuff]
    exact ⟨rfl, rfl⟩
  · rw [State.cuff_setCuff, if_neg he, hother e he]
  · rw [hframe]
    rfl

section Paired
variable (hp : p < 512) (hpair : s.pairEn p = true) (h : s.headReady 2 p 0x13 = some f)
include hp hpair h

/-- APRON_SET at a pair sets the Apron of both legs, leg A first (R51, R73). -/
theorem State.exec_apronSet_pair : exec (.apronSet (2 * p)) s = .next
    (let t := ((s.setApron (2 * p) (f.act.sub % 4)).setApron (2 * p + 1) (f.act.sub / 4 % 4)).occupy (2 * p) f.due f.due false
     if apronFits (s.bit (Reg.CUF_CFG (2 * p)) 2) (f.act.sub % 4) = true ∧ apronFits (s.bit (Reg.CUF_CFG (2 * p + 1)) 2) (f.act.sub / 4 % 4) = true
     then t.finish f else t.pairRefused f p Code.rejectClass) := by
  obtain ⟨htt, htg, -⟩ := State.headReady_spec h
  have hhalf : 2 * p / 2 = p := by omega
  refine (onUnit_of (by simp only [okCuff, decide_eq_true_eq]; omega) _).trans (congrArg _ ?_)
  have hhead : s.apronHead (2 * p) = some f := by rw [State.apronHead, hhalf, if_pos ⟨hpair, by omega⟩, h]
  unfold State.actApronSet State.pairRefused
  rw [hhead]
  simp only [htt, htg, hhalf, hpair, Bool.true_and, if_true]
  by_cases hok : apronFits (s.bit (Reg.CUF_CFG (2 * p)) 2) (f.act.sub % 4) = true ∧
      apronFits (s.bit (Reg.CUF_CFG (2 * p + 1)) 2) (f.act.sub / 4 % 4) = true
  · rw [if_pos hok, if_neg (by rw [hok.1, hok.2]; decide)]
  · rw [if_neg hok, if_pos]
    rcases not_and_or.mp hok with h | h
    · rw [Bool.eq_false_iff.mpr h]
      rfl
    · rw [Bool.eq_false_iff.mpr h, Bool.not_false, Bool.or_true]

omit hp hpair h in
/-- The configuration and the count of edges of one leg are not the other's. -/
theorem legRegs_apart (p : Nat) : Reg.CUF_CFG (2 * p) ≠ Reg.CUF_CFG (2 * p + 1) ∧ Reg.CUF_CFG (2 * p) ≠ Reg.CUF_EDGES (2 * p + 1) ∧
    Reg.CUF_CFG (2 * p + 1) ≠ Reg.CUF_EDGES (2 * p) ∧ Reg.CUF_CFG (2 * p) ≠ Reg.CUF_ERR (2 * p + 1) ∧
    Reg.CUF_CFG (2 * p + 1) ≠ Reg.CUF_ERR (2 * p) ∧ Reg.CUF_ERR (2 * p) ≠ Reg.CUF_CFG (2 * p + 1) ∧
    Reg.CUF_ERR (2 * p) ≠ Reg.CUF_EDGES (2 * p + 1) ∧ Reg.CUF_ERR (2 * p) ≠ Reg.CUF_ERR (2 * p + 1) := by
  simp only [Reg.CUF_CFG, Reg.CUF_EDGES, Reg.CUF_ERR]
  omega

omit hp hpair h in
/-- The Apron of both legs set, as R73 allows it (R51). -/
theorem State.setAprons_fit {va vb : Nat} (hva : va < 3) (hvb : vb < 3) (hfa : apronFits (s.bit (Reg.CUF_CFG (2 * p)) 2) va = true)
    (hfb : apronFits (s.bit (Reg.CUF_CFG (2 * p + 1)) 2) vb = true) :
    let t := (s.setApron (2 * p) va).setApron (2 * p + 1) vb
    (∀ c v, (c = 2 * p ∧ v = va) ∨ (c = 2 * p + 1 ∧ v = vb) → t.fld (Reg.CUF_CFG c) 4 2 = v ∧ (t.staged (Reg.CUF_CFG c)).toNat / 16 % 4 = v ∧
      ((s.cuff c).apron = false → t.cuff c = s.cuff c) ∧
      ((s.cuff c).apron = true → (t.cuff c).driven = decide (v ≠ 2) ∧ (v ≠ 2 → (t.cuff c).level = decide (v = 1)))) ∧
    (∀ r, r ∉ [Reg.CUF_CFG (2 * p), Reg.CUF_CFG (2 * p + 1), Reg.CUF_EDGES (2 * p), Reg.CUF_EDGES (2 * p + 1)] → t.reg r = s.reg r) ∧
    t = { s with regs := t.regs, shadow := t.shadow, cuffs := t.cuffs } := by
  obtain ⟨hne, hae, hbe, -⟩ := legRegs_apart p
  obtain ⟨hfldA, hstA, hstillA, hmovedA, hotherA, hregA, hframeA⟩ := s.setApron_fits (c := 2 * p) (by omega) fun _ => hfa
  generalize s.setApron (2 * p) va = u at hfldA hstA hstillA hmovedA hotherA hregA hframeA
  have hfitB : u.pairEn ((2 * p + 1) / 2) = true → apronFits (u.bit (Reg.CUF_CFG (2 * p + 1)) 2) vb = true := by
    intro _
    rw [State.bit_of_reg (hregA _ hne.symm hbe).1]
    exact hfb
  obtain ⟨hfldB, hstB, hstillB, hmovedB, hotherB, hregB, hframeB⟩ := u.setApron_fits (c := 2 * p + 1) (by omega) hfitB
  have hB := hotherA (2 * p + 1) (by omega)
  rw [hB] at hstillB hmovedB
  have hA := hotherB (2 * p) (by omega)
  intro t
  refine ⟨fun c v hcv => ?_, fun r hr => ?_, ?_⟩
  · rcases hcv with ⟨rfl, rfl⟩ | ⟨rfl, rfl⟩
    · obtain ⟨hreg, hstaged⟩ := hregB (Reg.CUF_CFG (2 * p)) hne hae
      refine ⟨(State.fld_of_reg hreg ..).trans hfldA, by rw [hstaged]; exact hstA, fun hap => hA.trans (hstillA hap).1, fun hap => ?_⟩
      rw [hA]
      exact hmovedA hap (by omega)
    · exact ⟨hfldB, hstB, fun hap => (hstillB hap).1, fun hap => hmovedB hap (by omega)⟩
  · simp only [List.mem_cons, List.not_mem_nil, or_false, not_or] at hr
    exact (hregB r hr.2.1 hr.2.2.2).1.trans (hregA r hr.1 hr.2.2.1).1
  · rw [show t = _ from hframeB, hframeA]

omit h in
/-- A leg whose Apron R73 forbids keeps it, and the error is noted (R73). -/
theorem State.setAprons_unfit {va vb : Nat} : let t := (s.setApron (2 * p) va).setApron (2 * p + 1) vb
    (apronFits (s.bit (Reg.CUF_CFG (2 * p)) 2) va = false → t.bit (Reg.CUF_ERR (2 * p)) 5 = true ∧
      t.fld (Reg.CUF_CFG (2 * p)) 4 2 = s.fld (Reg.CUF_CFG (2 * p)) 4 2) ∧
    (apronFits (s.bit (Reg.CUF_CFG (2 * p + 1)) 2) vb = false → t.bit (Reg.CUF_ERR (2 * p + 1)) 5 = true ∧
      t.fld (Reg.CUF_CFG (2 * p + 1)) 4 2 = s.fld (Reg.CUF_CFG (2 * p + 1)) 4 2) := by
  obtain ⟨hne, hae, hbe, haerr, hberr, herrb, herre, herrs⟩ := legRegs_apart p
  have hrefuse (u : State) (c v : Nat) (hc : c < 1024) (hen : u.pairEn (c / 2) = true) (hno : apronFits (u.bit (Reg.CUF_CFG c) 2) v = false) :
      (u.setApron c v).bit (Reg.CUF_ERR c) 5 = true ∧ (u.setApron c v).fld (Reg.CUF_CFG c) 4 2 = u.fld (Reg.CUF_CFG c) 4 2 := by
    have hset : u.setApron c v = u.cufErr c 5 := if_pos ⟨hen, hno⟩
    rw [hset]
    refine ⟨(State.bit_of_reg (State.raise_reg _ (by omega) ?_) 5).trans (State.bit_setBit_same _ _ _ _ (by decide)),
      (State.fld_of_reg (State.raise_reg _ (by omega) ?_) ..).trans (State.fld_setBit_other _ ?_ ..)⟩
    · simp only [Reg.CUF_ERR, Reg.HVC_PEND]
      omega
    · simp only [Reg.CUF_CFG, Reg.HVC_PEND]
      omega
    · simp
  have hregB := fun u : State => u.setApron_reg (c := 2 * p + 1) (by omega) vb
  have hregA := s.setApron_reg (c := 2 * p) (by omega) va
  refine ⟨fun hno => ?_, fun hno => ?_⟩
  · obtain ⟨herr, hfld⟩ := hrefuse s (2 * p) va (by omega) (by rw [show 2 * p / 2 = p by omega]; exact hpair) hno
    refine ⟨(State.bit_of_reg (hregB _ _ ?_ ?_) 5).trans herr, (State.fld_of_reg (hregB _ _ ?_ ?_) ..).trans hfld⟩
    · simp only [List.mem_cons, List.not_mem_nil, or_false]
      exact fun h => h.elim herrb fun h => h.elim herre herrs
    · simp only [Reg.CUF_ERR, Reg.HVC_PEND]
      omega
    · simp only [List.mem_cons, List.not_mem_nil, or_false]
      exact fun h => h.elim hne fun h => h.elim hae haerr
    · simp only [Reg.CUF_CFG, Reg.HVC_PEND]
      omega
  · have hcfg : (s.setApron (2 * p) va).reg (Reg.CUF_CFG (2 * p + 1)) = s.reg (Reg.CUF_CFG (2 * p + 1)) := hregA _ (by
      simp only [List.mem_cons, List.not_mem_nil, or_false]
      exact fun h => h.elim hne.symm fun h => h.elim hbe hberr) (by
      simp only [Reg.CUF_CFG, Reg.HVC_PEND]
      omega)
    have hen : (s.setApron (2 * p) va).reg (Reg.SLV_PAIR_CFG (p / 16) (p % 16)) = s.reg (Reg.SLV_PAIR_CFG (p / 16) (p % 16)) := hregA _ (by
      simp only [List.mem_cons, List.not_mem_nil, or_false, Reg.SLV_PAIR_CFG, Reg.CUF_CFG, Reg.CUF_EDGES, Reg.CUF_ERR]
      rcases Nat.lt_trichotomy (p / 16) (2 * p / 32) with h | h | h <;> omega) (by
      simp only [Reg.SLV_PAIR_CFG, Reg.HVC_PEND]
      omega)
    obtain ⟨herr, hfld⟩ := hrefuse (s.setApron (2 * p) va) (2 * p + 1) vb (by omega)
      (by rw [show (2 * p + 1) / 2 = p by omega]; exact (State.bit_of_reg hen 0).trans hpair) (by rw [State.bit_of_reg hcfg]; exact hno)
    exact ⟨herr, hfld.trans (State.fld_of_reg hcfg ..)⟩

end Paired

end Main

/-- Settles O15: PAIR_SET by the order in which the legs follow, PAIR_REARM by its fit, APRON_SET leg by leg. -/
theorem pairActions : Obligations.PairActions := by
  unfold Obligations.PairActions
  intro s p f hp a b old new act page refused up fits acted
  refine ⟨fun h => State.pairSet_clause hp h, fun h => State.pairRearm_clause hp h, ?_⟩
  intro v legal level
  have hva : v a = f.act.sub % 4 := if_pos rfl
  have hvb : v b = f.act.sub / 4 % 4 := if_neg (by omega)
  have hla : apronFits (s.bit (Reg.CUF_CFG (2 * p)) 2) (f.act.sub % 4) = true ↔ legal a := by
    rw [apronFits_iff, ← hva]
  have hlb : apronFits (s.bit (Reg.CUF_CFG (2 * p + 1)) 2) (f.act.sub / 4 % 4) = true ↔ legal b := by
    rw [apronFits_iff, ← hvb]
  refine ⟨fun hpair c hc h => ?alone, fun hpair h ha hb => ?both, fun hpair h hno => ?unfit⟩
  case alone =>
    have hhalf : c / 2 = p := half_leg hc
    refine State.apronSet_alone ?_ (hhalf ▸ hpair) h
    rcases hc with rfl | rfl <;> omega
  case both =>
    have hpol (x : Bool) : b2n x < 2 := by cases x <;> decide
    have hlt {c : Nat} (hl : legal c) : v c < 3 := by
      have := hpol (s.bit (Reg.CUF_CFG c) 2)
      rcases hl with h | h <;> omega
    have hfa := hla.mpr ha
    have hfb := hlb.mpr hb
    have hexec := State.exec_apronSet_pair hp hpair h
    rw [if_pos ⟨hfa, hfb⟩, State.occupy_still] at hexec
    obtain ⟨hlegs, hreg, hframe⟩ := State.setAprons_fit (hva ▸ hlt ha) (hvb ▸ hlt hb) hfa hfb
    generalize (s.setApron (2 * p) (f.act.sub % 4)).setApron (2 * p + 1) (f.act.sub / 4 % 4) = u at hexec hlegs hreg hframe
    have hat (c : Nat) : (u.setCuff a { u.cuff a with lastT := some f.due }).cuff c =
        if c = a then { u.cuff a with lastT := some f.due } else u.cuff c := State.cuff_setCuff ..
    have hout (c : Nat) : ((u.setCuff a { u.cuff a with lastT := some f.due }).cuff c).level = (u.cuff c).level ∧
        ((u.setCuff a { u.cuff a with lastT := some f.due }).cuff c).driven = (u.cuff c).driven := by
      rw [hat]
      split
      · next h => rw [h]; exact ⟨rfl, rfl⟩
      · exact ⟨rfl, rfl⟩
    refine ⟨_, hexec, fun c hc => ?_, hreg, by rw [hframe]; rfl⟩
    obtain ⟨hfld, hstaged, hstill, hmoved⟩ := hlegs c (v c) (by
      rcases hc with rfl | rfl
      · exact .inl ⟨rfl, hva⟩
      · exact .inr ⟨rfl, hvb⟩)
    refine ⟨hfld, hstaged, fun hap => ?_, fun hap => ?_⟩
    · rw [(hout c).1, (hout c).2, hstill hap]
      exact ⟨rfl, rfl⟩
    · rw [(hout c).1, (hout c).2]
      exact hmoved hap
  case unfit =>
    have hexec := State.exec_apronSet_pair hp hpair h
    rw [if_neg fun hok => hno.elim (fun h => h (hla.mp hok.1)) fun h => h (hlb.mp hok.2)] at hexec
    obtain ⟨hA, hB⟩ := State.setAprons_unfit hp hpair (va := f.act.sub % 4) (vb := f.act.sub / 4 % 4)
    generalize (s.setApron (2 * p) (f.act.sub % 4)).setApron (2 * p + 1) (f.act.sub / 4 % 4) = u at hexec hA hB
    refine ⟨_, hexec, fun c hc hl => ?_⟩
    rcases hc with rfl | rfl
    · exact hA (Bool.eq_false_iff.mpr fun h => hl (hla.mp h))
    · exact hB (Bool.eq_false_iff.mpr fun h => hl (hlb.mp h))

end Sys2Proof.Machine

/-! What events, records and corrections leave of the functions (R248, R257, R283): of a function only PME_Status. -/

namespace Sys2Proof.Machine

open Sys2Proof

/-- Of every function only PME_Status changes. -/
structure PmeOnly (s t : State) : Prop where
  fn : ∀ k, ∃ b, t.fn k = { s.fn k with pmeStatus := b }

section Pme
variable {s t u : State}

theorem PmeOnly.of_fns (h : t.fns = s.fns) : PmeOnly s t := ⟨fun k => ⟨(s.fn k).pmeStatus, by rw [State.fn, h]; rfl⟩⟩

theorem PmeOnly.of_wipe {m : Nat} (e : t.wipe m = s.wipe m) (hf : m.testBit 38 = false) : PmeOnly s t := .of_fns (State.fns_of_wipe e hf)

theorem PmeOnly.trans (h : PmeOnly s t) (g : PmeOnly t u) : PmeOnly s u where
  fn k := by
    obtain ⟨b, hb⟩ := h.fn k
    obtain ⟨c, hc⟩ := g.fn k
    exact ⟨c, by rw [hc, hb]⟩

theorem PmeOnly.foldl {α : Type} {g : State → α → State} (h : ∀ s x, PmeOnly s (g s x)) (l : List α) (s : State) : PmeOnly s (l.foldl g s) :=
  List.foldlRecOn (motive := PmeOnly s) l _ (.of_fns rfl) fun _ hu x _ => hu.trans (h _ x)

theorem PmeOnly.buf (h : PmeOnly s t) (k : Nat) : (t.fn k).buf = (s.fn k).buf := by
  obtain ⟨b, hb⟩ := h.fn k
  rw [hb]

variable (s)

theorem State.setN_pme (k v : Nat) : PmeOnly s (s.setN k v) := .of_fns rfl

theorem State.sleepEvent_pme (n : Nat) : PmeOnly s (s.sleepEvent n) := by
  have hset : PmeOnly s (s.setFn n { s.fn n with pmeStatus := true }) := ⟨fun k => by
    rw [State.fn_setFn]
    split
    · next e => exact ⟨true, e ▸ rfl⟩
    · exact ⟨_, rfl⟩⟩
  have hleave (v : State) (o : Out) : PmeOnly v (v.leaveL1.send o) := .of_fns (State.fns_of_wipe v.leaveL1_wipe0 rfl)
  simp only [State.sleepEvent]
  repeat' split
  · exact hset.trans (.of_fns rfl)
  · exact hset.trans (hleave ..)
  · exact .of_fns rfl

theorem State.raise_pme (id : Nat) : PmeOnly s (s.raise id) := by
  have hbump (v : State) (n k : Nat) : PmeOnly v (v.bumpVec n k) :=
    PmeOnly.trans (t := v.setVec (vecKey n k) _) (.of_fns rfl) (State.sleepEvent_pme _ n)
  have hdeliver (v : State) : PmeOnly v (v.deliver id) := by
    simp only [State.deliver, State.countEvent]
    repeat' split
    · exact .of_fns rfl
    · exact (hbump ..).trans (.of_wipe (State.sendVec_wipe0 ..) rfl)
    · exact hbump ..
  have hpend : PmeOnly s ((s.notePend id).setSrcPend id true) := (PmeOnly.of_wipe (s.notePend_wipe0 id) rfl).trans (.of_fns rfl)
  simp only [State.raise]
  split
  · exact hpend.trans (hdeliver _)
  · exact hpend.trans (.of_fns rfl)

theorem State.relRecord_pme (sev code kind block inst addr : Nat) : PmeOnly s (s.relRecord sev code kind block inst addr) := by
  have hput (x : Rel) (a b : Nat) : PmeOnly s ((({ s with rel := x } : State).setN Reg.REL_LHEAD a).setN Reg.REL_LHEAD b) :=
    PmeOnly.trans (t := { s with rel := x }) (.of_fns rfl) ((State.setN_pme ..).trans (State.setN_pme ..))
  simp only [State.relRecord]
  repeat' split
  · exact .of_fns rfl
  · exact hput ..
  · exact (hput ..).trans (State.raise_pme _ _)
  · exact (hput ..).trans (State.raise_pme _ _)

theorem State.walkCorrect_pme (n a : Nat) : PmeOnly s (s.walkCorrect n a) := by
  refine .foldl (fun u w => ?_) _ s
  split
  · refine PmeOnly.trans ?_ (State.relRecord_pme ..)
    exact PmeOnly.trans (t := { u with eccSoft := u.eccSoft.filter (· != w) }) (.of_fns rfl) (State.setN_pme ..)
  · exact .of_fns rfl

theorem State.faultRecord_pme (n status source object detail : Nat) : PmeOnly s (s.faultRecord n status source object detail) := by
  have hwords : PmeOnly s (s.setFault n (s.fld (Reg.TEN_FAULT_IDX n) 0 6)
      (recordValue (faultCpl status source object detail) (s.fld (Reg.TEN_CPL_TAIL n) 16 1) s.tb.now)) :=
    .foldl (fun v _ => v.setN_pme ..) _ s
  have hfull (v : State) : PmeOnly v (v.updFull n) := by
    simp only [State.updFull]
    split
    · exact (State.setN_pme ..).trans (State.raise_pme ..)
    · exact v.setN_pme ..
  have hnote (v : State) (j : Nat) (r : Cpl) : PmeOnly v (v.noteFault n j r) := by
    have hcount : PmeOnly v ((v.setFld (Reg.TEN_FAULT_IDX n) 0 6 (j + 1)).incWrap (Reg.TEN_FAULT_IDX n) 16 16) :=
      (v.setN_pme ..).trans (State.setN_pme ..)
    refine PmeOnly.trans ?_ (State.raise_pme _ _)
    repeat' split
    · exact hcount
    · exact hcount.trans ((PmeOnly.of_wipe (State.postRecord_wipe0 ..) rfl).trans (hfull _))
    · exact hcount.trans (State.setN_pme ..)
  rw [State.faultRecord_eq]
  exact hwords.trans (hnote ..)

end Pme

end Sys2Proof.Machine

/-! O44: reads and writes of BAR2, the write buffers and the link's held writes (R247, R248, R250, R251). -/

namespace Sys2Proof.Machine

open Sys2Proof

/-! ### Bytes with an enable each -/

/-- Each enabled byte stands at its place, and every other address keeps its byte. -/
theorem Memory.get_writeBytesAt_enabled (m : List Host.Cell) (a : Nat) (bs : List (Option Nat)) :
    (∀ i b, bs[i]? = some (some b) → Tbl.get (0 : BitVec 8) (writeBytesAt m a bs) (a + i) = BitVec.ofNat 8 b) ∧
    ∀ x, (∀ i b, bs[i]? = some (some b) → x ≠ a + i) → Tbl.get (0 : BitVec 8) (writeBytesAt m a bs) x = Tbl.get 0 m x := by
  induction bs generalizing m a with
  | nil => exact ⟨fun i b h => by simp at h, fun _ _ => rfl⟩
  | cons o r ih =>
    have hrest (m' : List Host.Cell) : (∀ i b, r[i]? = some (some b) → Tbl.get (0 : BitVec 8) (writeBytesAt m' (a + 1) r) (a + (i + 1)) =
        BitVec.ofNat 8 b) ∧ ∀ x, (∀ i b, (o :: r)[i]? = some (some b) → x ≠ a + i) →
        Tbl.get (0 : BitVec 8) (writeBytesAt m' (a + 1) r) x = Tbl.get 0 m' x := by
      obtain ⟨hin, hout⟩ := ih m' (a + 1)
      refine ⟨fun i b h => ?_, fun x hx => hout x fun i b h => ?_⟩
      · rw [← hin i b h, Nat.add_assoc, Nat.add_comm 1 i]
      · rw [Nat.add_assoc, Nat.add_comm 1 i]
        exact hx (i + 1) b h
    cases o with
    | none =>
      refine ⟨fun i b h => ?_, (hrest m).2⟩
      cases i with
      | zero => simp at h
      | succ i => exact (hrest m).1 i b h
    | some v =>
      refine ⟨fun i b h => ?_, fun x hx => ((hrest _).2 x hx).trans (Tbl.get_set_other (k := a) _ _ (hx 0 v rfl) _)⟩
      cases i with
      | zero =>
        cases h
        exact (Memory.get_writeBytesAt _ (a + 1) r a (.inl (by omega))).trans (Tbl.get_set_same ..)
      | succ i => exact (hrest _).1 i b h

/-! ### The range of an access -/

/-- What an access of BAR2 leaves where a walk of it fails. -/
abbrev State.bar2Bad (v : State) (fn a code level : Nat) : State :=
  ((v.walkCorrect fn a).walkFailed fn a 4 code level).faultRecord fn code 4 0 a

section Range
variable {s : State} {fn a n : Nat}

theorem State.reach_ok {p : Nat} (h : s.walk fn a = .ok p) (src : Nat) : s.reach fn a src = .ok p (s.walkCorrect fn a) := by
  rw [State.reach, h]

theorem State.reach_bad {c l : Nat} (h : s.walk fn a = .bad c l) (src : Nat) :
    s.reach fn a src = .bad c ((s.walkCorrect fn a).walkFailed fn a src c l) := by
  rw [State.reach, h]

theorem State.bar2Reach_bad {c l : Nat} (h : s.walk fn a = .bad c l) : s.bar2Reach fn a n = .bad c (s.bar2Bad fn a c l) := by
  rw [State.bar2Reach, State.reach_bad h]

theorem State.bar2Reach_one {p : Nat} (h : s.walk fn a = .ok p) (hn : n ≤ 65536 - a % 65536) :
    s.bar2Reach fn a n = .ok [(p, n)] (s.walkCorrect fn a) := by
  simp only [State.bar2Reach, State.reach_ok h]
  exact if_pos (Nat.min_eq_left hn)

theorem State.bar2Reach_two {p : Nat} (h : s.walk fn a = .ok p) (hn : 65536 - a % 65536 < n) :
    (∀ c l, (s.walkCorrect fn a).walk fn (a + (65536 - a % 65536)) = .bad c l →
      s.bar2Reach fn a n = .bad c ((s.walkCorrect fn a).bar2Bad fn (a + (65536 - a % 65536)) c l)) ∧
    ∀ p', (s.walkCorrect fn a).walk fn (a + (65536 - a % 65536)) = .ok p' → s.bar2Reach fn a n =
      .ok [(p, 65536 - a % 65536), (p', n - (65536 - a % 65536))] ((s.walkCorrect fn a).walkCorrect fn (a + (65536 - a % 65536))) := by
  have hmin : min n (65536 - a % 65536) = 65536 - a % 65536 := Nat.min_eq_right (Nat.le_of_lt hn)
  refine ⟨fun c l h' => ?_, fun p' h' => ?_⟩
  · simp only [State.bar2Reach, State.reach_ok h, hmin, if_neg (Nat.ne_of_lt hn), State.reach_bad h']
  · simp only [State.bar2Reach, State.reach_ok h, hmin, if_neg (Nat.ne_of_lt hn), State.reach_ok h']

end Range

/-! ### Reads -/

section Read
variable {s : State} {fn a n : Nat}

theorem exec_bar2Read (hfn : fn < 512) (k : ReqKind) : exec (.bar2Read fn a k) s = .next (match k with
    | .bytes n => s.bar2Read fn a n
    | .atomic => if s.reads fn then s.send (.unsupported fn) else s.readRefused fn
    | .jtag => s) := onUnit_of (decide_eq_true hfn) _

/-- A read that is answered with data: the writes that wait are applied, and then the range is walked (R248). -/
theorem State.bar2Read_answered (hup : s.link.up = true ∧ (fn = 0 ∨ s.link.vfEnable = true) ∧ s.mode ≠ Mode.off ∧ s.mode ≠ Mode.doze ∧
      s.mode ≠ Mode.boot ∧ (s.fn fn).dstate = 0) (hpos : 1 ≤ n) (hlen : n ≤ 256) (hsize : a + n ≤ s.bar2Size fn) :
    s.bar2Read fn a n = match (s.drainBuf fn).bar2Reach fn a n with
      | .bad _ s => s.send (.readBytes fn (List.replicate n 0))
      | .ok l s =>
        if l.any (fun r => s.eccIn r.1 r.2) then
          (s.dataEcc.faultRecord fn Code.slabEcc FSrc.bar2 0 a).send (.readBytes fn (List.replicate n 0))
        else s.send (.readBytes fn (l.flatMap fun r => bytesLE r.2 (s.readMem r.1 r.2))) := by
  obtain ⟨hlink, hvf, (hoff : s.pwr.mode ≠ _), (hdoze : s.pwr.mode ≠ _), hboot, hd0⟩ := hup
  have hreads : s.reads fn = true := by simp [State.reads, hlink, hvf, hoff, hdoze, hd0]
  exact (if_neg (by simp [hreads])).trans (if_neg (by omega))

/-- Reads and AtomicOps that are not answered with data (R246, R270). -/
theorem bar2Read_refused (hfn : fn < 512) :
    let sees := s.link.up = true ∧ (fn = 0 ∨ s.link.vfEnable = true) ∧ s.mode ≠ Mode.off ∧ s.mode ≠ Mode.doze
    (sees → (s.fn fn).dstate = 0 → exec (.bar2Read fn a .atomic) s = .next (s.send (.unsupported fn))) ∧
    (sees → (s.fn fn).dstate = 1 → ∀ k : ReqKind, k ≠ .jtag → exec (.bar2Read fn a k) s = .next (s.send (.unsupported fn))) ∧
    exec (.bar2Read fn a .jtag) s = .next s := by
  refine ⟨fun hsees hd => ?_, fun hsees hd k hk => ?_, exec_bar2Read hfn _⟩
  · obtain ⟨hlink, hvf, (hoff : s.pwr.mode ≠ _), (hdoze : s.pwr.mode ≠ _)⟩ := hsees
    refine (exec_bar2Read hfn _).trans (congrArg _ (if_pos ?_))
    simp [State.reads, hlink, hvf, hoff, hdoze, hd]
  · obtain ⟨hlink, hvf, (hoff : s.pwr.mode ≠ _), (hdoze : s.pwr.mode ≠ _)⟩ := hsees
    have hreads : s.reads fn = false := by simp [State.reads, hd]
    have hrefused : s.readRefused fn = s.send (.unsupported fn) := if_pos (by simp [hlink, hvf, hoff, hdoze, hd])
    refine (exec_bar2Read hfn k).trans (congrArg _ ?_)
    cases k with
    | bytes n => exact (if_pos hreads).trans hrefused
    | atomic => exact (if_neg (by simp [hreads])).trans hrefused
    | jtag => exact absurd rfl hk

end Read

section Answers
variable {s : State} {fn a n : Nat} (hfn : fn < 512)
  (hup : s.link.up = true ∧ (fn = 0 ∨ s.link.vfEnable = true) ∧ s.mode ≠ Mode.off ∧ s.mode ≠ Mode.doze ∧ s.mode ≠ Mode.boot ∧
    (s.fn fn).dstate = 0) (hpos : 1 ≤ n) (hlen : n ≤ 256) (hsize : a + n ≤ s.bar2Size fn)
include hfn hup hpos hlen hsize

/-- A failing walk: zeros, and the fault record. -/
theorem bar2Read_bad {c : Nat} {v : State} (h : (s.drainBuf fn).bar2Reach fn a n = .bad c v) :
    exec (.bar2Read fn a (.bytes n)) s = .next (v.send (.readBytes fn (List.replicate n 0))) := by
  refine (exec_bar2Read hfn _).trans (congrArg _ ((State.bar2Read_answered hup hpos hlen hsize).trans ?_))
  rw [h]

/-- Data with an uncorrectable error: zeros. -/
theorem bar2Read_ecc {l : List (Nat × Nat)} {v : State} (h : (s.drainBuf fn).bar2Reach fn a n = .ok l v)
    (hecc : l.any (fun r => v.eccIn r.1 r.2) = true) : exec (.bar2Read fn a (.bytes n)) s =
      .next ((v.dataEcc.faultRecord fn 0x0F 4 0 a).send (.readBytes fn (List.replicate n 0))) := by
  refine (exec_bar2Read hfn _).trans (congrArg _ ((State.bar2Read_answered hup hpos hlen hsize).trans ?_))
  rw [h]
  exact if_pos hecc

theorem bar2Read_data {l : List (Nat × Nat)} {v : State} (h : (s.drainBuf fn).bar2Reach fn a n = .ok l v)
    (hecc : l.any (fun r => v.eccIn r.1 r.2) = false) (hmem : v.mem = (s.drainBuf fn).mem) : exec (.bar2Read fn a (.bytes n)) s =
      .next (v.send (.readBytes fn (l.flatMap fun r => bytesLE r.2 ((s.drainBuf fn).readMem r.1 r.2)))) := by
  refine (exec_bar2Read hfn _).trans (congrArg _ ((State.bar2Read_answered hup hpos hlen hsize).trans ?_))
  rw [h]
  refine (if_neg (by simp [hecc])).trans ?_
  simp only [State.readMem_congr hmem]

/-- A read that is answered with data, or with zeros where its range fails (R112, R248). -/
theorem bar2Read_answers :
    let d := s.drainBuf fn
    let u := d.walkCorrect fn a
    let k := 65536 - a % 65536
    let answers (v : State) (l : List Nat) := exec (.bar2Read fn a (.bytes n)) s = .next (v.send (.readBytes fn l))
    (∀ c l, d.walk fn a = .bad c l → answers (d.bar2Bad fn a c l) (List.replicate n 0)) ∧
    (n ≤ k → ∀ p, d.walk fn a = .ok p →
      (u.eccIn p n = false → answers u (bytesLE n (d.readMem p n))) ∧
      (u.eccIn p n = true → answers (u.dataEcc.faultRecord fn 0x0F 4 0 a) (List.replicate n 0))) ∧
    (k < n → ∀ p, d.walk fn a = .ok p →
      (∀ c l, u.walk fn (a + k) = .bad c l → answers (u.bar2Bad fn (a + k) c l) (List.replicate n 0)) ∧
      (∀ p', u.walk fn (a + k) = .ok p' → (u.walkCorrect fn (a + k)).eccIn p k = false →
        (u.walkCorrect fn (a + k)).eccIn p' (n - k) = false →
        answers (u.walkCorrect fn (a + k)) (bytesLE k (d.readMem p k) ++ bytesLE (n - k) (d.readMem p' (n - k))))) := by
  intro d u k answers
  have hcorrect (v : State) (b : Nat) : (v.walkCorrect fn b).mem = v.mem := State.mem_of_wipe (v.walkCorrect_wipe0 fn b) rfl
  refine ⟨fun c l h => bar2Read_bad hfn hup hpos hlen hsize (State.bar2Reach_bad h), fun hn p h => ?_, fun hn p h => ?_⟩
  · have hone := State.bar2Reach_one h hn
    refine ⟨fun hecc => ?_, fun hecc => bar2Read_ecc hfn hup hpos hlen hsize hone (by simpa using hecc)⟩
    have hdata := bar2Read_data hfn hup hpos hlen hsize hone (by simpa using hecc) (hcorrect ..)
    rwa [List.flatMap_cons, List.flatMap_nil, List.append_nil] at hdata
  · obtain ⟨hbad, htwo⟩ := State.bar2Reach_two h hn
    refine ⟨fun c l h' => bar2Read_bad hfn hup hpos hlen hsize (hbad c l h'), fun p' h' hecc hecc' => ?_⟩
    have hdata := bar2Read_data hfn hup hpos hlen hsize (htwo p' h')
      (by simpa only [List.any_cons, List.any_nil, Bool.or_false, Bool.or_eq_false_iff] using And.intro hecc hecc')
      ((hcorrect ..).trans (hcorrect ..))
    rwa [List.flatMap_cons, List.flatMap_cons, List.flatMap_nil, List.append_nil] at hdata

end Answers

/-! ### Writes that wait, and writes that the link holds -/

section Enters
variable {s : State} {fn a : Nat} {bs : List (Option Nat)}

theorem bufEntries_append (b : List (Nat × List (Option Nat))) (w : Nat × List (Option Nat)) :
    bufEntries (b ++ [w]) = bufEntries b + (w.2.length + 63) / 64 := by
  rw [bufEntries, bufEntries, List.map_append, List.foldl_append]
  rfl

theorem State.accepts_of_tenPage (h : s.tenPage fn = true) : s.accepts fn = true := (Bool.and_eq_true_iff.1 h).1

/-- A write that finds its function's page reachable enters the buffer, behind what room for it takes (R250). -/
theorem exec_bar2Write_enters (hfn : fn < 512) (hbs : bs ≠ []) (hlen : bs.length ≤ 256) (hsize : a + bs.length ≤ s.bar2Size fn)
    (hten : s.tenPage fn = true) : exec (.bar2Write fn a bs) s = .next ((s.bufRoom fn (a, bs)).setFn fn
      { (s.bufRoom fn (a, bs)).fn fn with buf := ((s.bufRoom fn (a, bs)).fn fn).buf ++ [(a, bs)] }) := by
  have hdoze : (s.arrives fn && s.dozing) = false := by
    have haccepts := State.accepts_of_tenPage hten
    rw [State.accepts, Bool.and_eq_true, Bool.not_eq_true'] at haccepts
    rw [haccepts.2, Bool.and_false]
  refine (onUnit_of (decide_eq_true hfn) _).trans (congrArg _ ?_)
  exact (if_neg (by simpa [hbs] using ⟨hlen, hsize⟩)).trans ((if_neg (by simp [hdoze])).trans (if_neg (by simp [hten])))

/-- The emptied buffer of a function whose writes are applied. -/
theorem State.buf_drainOwn (hfn : fn < 512) : ((s.drainOwn fn).fn fn).buf = [] := by
  by_cases hempty : (s.fn fn).buf = []
  · have hsame : s.drainOwn fn = s := if_pos hempty
    rw [hsame, hempty]
  · have hkept : RingsKept (s.setFn fn { s.fn fn with buf := [] }) (s.drainOwn fn) := by
      simp only [State.drainOwn, if_neg hempty]
      exact .foldl (fun u w _ => u.ringsKept_applyPosted hfn w.1 w.2) _
    obtain ⟨b, l, ht, hl⟩ := hkept.fn fn
    rw [State.fn_setFn, if_pos rfl] at hl
    rw [ht]
    exact hl.elim id id

/-- Where a write enters its buffer, and where the link holds it (R250, R251). -/
theorem bar2Write_clauses (hfn : fn < 512) (hbs : bs ≠ []) (hlen : bs.length ≤ 256) (hsize : a + bs.length ≤ s.bar2Size fn) :
    let m := s.drainFull
    let e := m.drainOwn fn
    let enters (v : State) := exec (.bar2Write fn a bs) s = .next (v.setFn fn { v.fn fn with buf := (v.fn fn).buf ++ [(a, bs)] })
    let need (v : State) := bufEntries (v.fn fn).buf + (bs.length + 63) / 64
    (s.tenPage fn = true → need m ≤ 64 → enters m) ∧
    (s.tenPage fn = true → 64 < need m → enters e ∧ (e.fn fn).buf = []) ∧
    (s.tenPage fn = true → s.fullBufs = [] → need s ≤ 64 → enters s) ∧
    (s.arrives fn = true → s.dozing = true → exec (.bar2Write fn a bs) s = .next (s.hold [{ fn := fn, addr := a, bytes := bs }])) := by
  intro m e enters need
  have hroom (hneed : need m ≤ 64) : s.bufRoom fn (a, bs) = m := if_pos ((bufEntries_append _ _).trans_le hneed)
  have hmake (hneed : 64 < need m) : s.bufRoom fn (a, bs) = e :=
    if_neg fun h => Nat.not_lt.2 ((bufEntries_append _ _).symm.trans_le h) hneed
  have hfits (hten : s.tenPage fn = true) (hneed : need m ≤ 64) : enters m := by
    have hexec := exec_bar2Write_enters hfn hbs hlen hsize hten
    rwa [hroom hneed] at hexec
  refine ⟨hfits, fun hten hneed => ⟨?_, State.buf_drainOwn hfn⟩, fun hten hnone hneed => ?_, fun harr hdoze => ?_⟩
  · have hexec := exec_bar2Write_enters hfn hbs hlen hsize hten
    rwa [hmake hneed] at hexec
  · have hsame : m = s := congrArg (List.foldl State.drainOwn s) hnone
    exact hsame ▸ hfits hten (hsame.symm ▸ hneed)
  · refine (onUnit_of (decide_eq_true hfn) _).trans (congrArg _ ?_)
    exact (if_neg (by simpa [hbs] using ⟨hlen, hsize⟩)).trans (if_pos (by simp [harr, hdoze]))

/-- A register write that arrives in DOZE is held (R251). -/
theorem registerWrite_held (hfn : fn < 512) (harr : s.arrives fn = true) (hdoze : s.dozing = true) {v : Nat} (hv : v < 2 ^ 32)
    (ha : a % 4 = 0 → a < if fn = 0 then 0x2000000 else 0x10000) :
    exec (.registerWrite fn (dword a) v) s = .next (s.hold [{ fn := fn, addr := a, value := v }]) := by
  have hheld (off : Nat) (ok : Bool) (f : State → State) :
      s.posted fn [(off, v)] ok f = s.hold [{ fn := fn, addr := off, value := v }] := if_pos (by simp [harr, hdoze])
  have hexec : exec (.registerWrite fn (dword a) v) s = .next (s.writeBar0 fn a v) :=
    onUnit_of (by simpa [okFn, okData] using ⟨hfn, hv⟩) _
  refine hexec.trans (congrArg _ ?_)
  by_cases halign : a % 4 = 0
  swap
  · exact (if_pos halign).trans (hheld ..)
  refine (if_neg (not_not.2 halign)).trans ?_
  by_cases hpf : fn = 0
  swap
  · rw [if_pos hpf, if_pos (by simpa [hpf] using ha halign), State.ten, tenBar, if_neg hpf, Nat.zero_add]
    exact hheld ..
  rw [if_neg (not_not.2 hpf), if_neg (by have := ha halign; rw [if_pos hpf] at this; omega)]
  subst hpf
  split
  · next hlow =>
    rw [State.ten, tenBar, if_pos rfl, Nat.add_sub_cancel' hlow]
    exact hheld ..
  split
  · rw [State.pf, pageAt, Nat.div_add_mod']
    exact hheld ..
  · exact hheld ..

end Enters

/-! ### The oldest write of a buffer is applied -/

section Apply
variable {s : State} {fn a : Nat} {bs : List (Option Nat)} {r : List (Nat × List (Option Nat))}

/-- What the walks of a write leave alone: memory, the buffers and the index of the fault window. -/
structure WalkLeaves (fn : Nat) (r : List (Nat × List (Option Nat))) (s v : State) : Prop where
  mem : v.mem = s.mem
  buf : (v.fn fn).buf = r
  index : v.reg (Reg.TEN_FAULT_IDX fn) = s.reg (Reg.TEN_FAULT_IDX fn)

theorem WalkLeaves.walkCorrect {v : State} (h : WalkLeaves fn r s v) (hfn : fn < 512) (b : Nat) : WalkLeaves fn r s (v.walkCorrect fn b) where
  mem := (State.mem_of_wipe (v.walkCorrect_wipe0 fn b) rfl).trans h.mem
  buf := ((v.walkCorrect_pme fn b).buf fn).trans h.buf
  index := (v.reg_walkCorrect fn b (by simp only [Reg.TEN_FAULT_IDX, Reg.SLM_ECC_CNT]; omega)
    (by simp only [Reg.TEN_FAULT_IDX, Reg.REL_LHEAD]; omega) (by simp only [Reg.TEN_FAULT_IDX, Reg.HVC_PEND]; omega)).trans h.index

theorem State.walkFailed_only (v : State) (fn b src code level : Nat) :
    OnlyRegs [Reg.SLM_FAULT_INFO, Reg.SLM_FAULT_ADDR, Reg.SLM_FAULT_CNT, Reg.PG_ERR 0xB] v (v.walkFailed fn b src code level) := by
  have hset (x y : Nat) : OnlyRegs [Reg.SLM_FAULT_INFO, Reg.SLM_FAULT_ADDR, Reg.SLM_FAULT_CNT, Reg.PG_ERR 0xB] v
      (((v.setN Reg.SLM_FAULT_INFO x).setN Reg.SLM_FAULT_ADDR y).incSat Reg.SLM_FAULT_CNT 0 32) :=
    (((OnlyRegs.refl _ v).setN (by decide) _).setN (by decide) _).incSat (by decide) 0 32
  simp only [State.walkFailed]
  split
  · exact (hset ..).pgErr (by decide) 16
  · exact hset ..

theorem WalkLeaves.walkFailed {v : State} (h : WalkLeaves fn r s v) (b src code level : Nat) :
    WalkLeaves fn r s (v.walkFailed fn b src code level) where
  mem := (State.mem_of_wipe (v.walkFailed_wipe0 ..) rfl).trans h.mem
  buf := ((PmeOnly.of_wipe (v.walkFailed_wipe0 ..) rfl).buf fn).trans h.buf
  index := ((v.walkFailed_only ..).2 _ (by
    simp only [Reg.TEN_FAULT_IDX, Reg.SLM_FAULT_INFO, Reg.SLM_FAULT_ADDR, Reg.SLM_FAULT_CNT, Reg.PG_ERR, List.mem_cons,
      List.not_mem_nil, or_false]
    omega)).trans h.index

/-- The fault record of a write that fails, in the window's next entry (R251, R257). -/
theorem WalkLeaves.fault {v : State} (h : WalkLeaves fn r s v) (hfn : fn < 512) {c : Nat} (hc : c < 256) (b : Nat) :
    let slot := s.fld (Reg.TEN_FAULT_IDX fn) 0 6
    let t := v.faultRecord fn c 4 0 b
    (t.fn fn).buf = r ∧ t.mem = s.mem ∧ t.fld (Reg.TEN_FAULT fn (8 * slot)) 16 8 = c ∧ t.regN (Reg.TEN_FAULT fn (8 * slot + 1)) = 4 := by
  intro slot t
  have hslot : v.fld (Reg.TEN_FAULT_IDX fn) 0 6 = slot := State.fld_of_reg h.index ..
  have hword {i : Nat} (hi : i < 8) := v.word_faultRecord hfn c 4 0 b hi
  rw [hslot] at hword
  refine ⟨((v.faultRecord_pme ..).buf fn).trans h.buf, (State.mem_of_wipe (v.faultRecord_wipe0 ..) rfl).trans h.mem, ?_, ?_⟩
  · have hzero : t.regN (Reg.TEN_FAULT fn (8 * slot)) = _ := hword (i := 0) (by decide)
    rw [State.fld, hzero]
    exact (recordValue_fields ..).2.2.1.trans (Nat.mod_eq_of_lt hc)
  · exact (hword (by decide)).trans (recordValue_fields ..).2.1

theorem State.applyPosted_bad {c : Nat} {v : State} (h : s.bar2Reach fn a bs.length = .bad c v) : s.applyPosted fn a bs = v := by
  rw [State.applyPosted, h]

theorem State.applyPosted_one {p : Nat} {v : State} (h : s.bar2Reach fn a bs.length = .ok [(p, bs.length)] v) :
    s.applyPosted fn a bs = v.writeBytes p bs := by
  rw [State.applyPosted, h]
  exact congrArg (v.writeBytes p) (List.take_length ..)

theorem State.applyPosted_two {p p' k : Nat} {v : State} (h : s.bar2Reach fn a bs.length = .ok [(p, k), (p', bs.length - k)] v) :
    s.applyPosted fn a bs = (v.writeBytes p (bs.take k)).writeBytes p' (bs.drop k) := by
  rw [State.applyPosted, h]
  exact congrArg ((v.writeBytes p (bs.take k)).writeBytes p') (List.take_of_length_le (by simp))

/-- The bytes of a write whose two parts do not overlap: its own, and no others. -/
theorem State.byte_twoParts (v : State) {p p' k : Nat} (hlen : bs.length ≤ 256) (hk : k ≤ bs.length) (hapart : p' + 256 ≤ p ∨ p + k ≤ p') :
    let t := (v.writeBytes p (bs.take k)).writeBytes p' (bs.drop k)
    (∀ i b, bs[i]? = some (some b) → t.byte (if i < k then p + i else p' + (i - k)) = BitVec.ofNat 8 b) ∧
    (∀ x, (∀ i b, bs[i]? = some (some b) → x ≠ if i < k then p + i else p' + (i - k)) → t.byte x = v.byte x) := by
  intro t
  obtain ⟨hfirst, hfirst'⟩ := Memory.get_writeBytesAt_enabled v.mem p (bs.take k)
  obtain ⟨hsecond, hsecond'⟩ := Memory.get_writeBytesAt_enabled (writeBytesAt v.mem p (bs.take k)) p' (bs.drop k)
  have hrest : (bs.drop k).length ≤ 256 := by rw [List.length_drop]; omega
  refine ⟨fun i b h => ?_, fun x hx => ?_⟩
  · split
    · next hi =>
      refine Eq.trans ?_ (hfirst i b (by rw [List.getElem?_take_of_lt hi]; exact h))
      exact Memory.get_writeBytesAt _ p' _ (p + i) (by omega)
    · next hi => exact hsecond (i - k) b (by rw [List.getElem?_drop, Nat.add_sub_cancel' (Nat.not_lt.1 hi)]; exact h)
  · refine (hsecond' x fun i b h => ?_).trans (hfirst' x fun i b h => ?_)
    · rw [List.getElem?_drop] at h
      have hne := hx _ b h
      rwa [if_neg (by omega), Nat.add_sub_cancel_left] at hne
    · have hi : i < k := by
        by_contra hge
        rw [List.getElem?_take_eq_none (Nat.not_lt.1 hge)] at h
        cases h
      rw [List.getElem?_take_of_lt hi] at h
      have hne := hx i b h
      rwa [if_pos hi] at hne

/-- A buffered write is applied whole, or not at all with the fault record of its failing walk (R248, R250, R251). -/
theorem writeBufferApply_clauses (hfn : fn < 512) (hoff : s.mode ≠ Mode.off) (hdoze : s.mode ≠ Mode.doze) (hlen : bs.length ≤ 256)
    (hbuf : (s.fn fn).buf = (a, bs) :: r) :
    let u := s.setFn fn { s.fn fn with buf := r }
    let k := 65536 - a % 65536
    let slot := s.fld (Reg.TEN_FAULT_IDX fn) 0 6
    let fails (code : Nat) := ∃ t : State, exec (.writeBufferApply fn) s = .next t ∧ (t.fn fn).buf = r ∧ t.mem = s.mem ∧
      t.fld (Reg.TEN_FAULT fn (8 * slot)) 16 8 = code ∧ t.regN (Reg.TEN_FAULT fn (8 * slot + 1)) = 4
    let writes (p p' : Nat) := ∃ t : State, exec (.writeBufferApply fn) s = .next t ∧ (t.fn fn).buf = r ∧
      (∀ i b, bs[i]? = some (some b) → t.byte (if i < k then p + i else p' + (i - k)) = BitVec.ofNat 8 b) ∧
      (∀ x, (∀ i b, bs[i]? = some (some b) → x ≠ if i < k then p + i else p' + (i - k)) → t.byte x = s.byte x)
    (∀ c l, c < 256 → s.walk fn a = .bad c l → fails c) ∧
    (bs.length ≤ k → ∀ p, s.walk fn a = .ok p → writes p 0) ∧
    (k < bs.length → ∀ p, s.walk fn a = .ok p →
      (∀ c l, c < 256 → (u.walkCorrect fn a).walk fn (a + k) = .bad c l → fails c) ∧
      (∀ p', (u.walkCorrect fn a).walk fn (a + k) = .ok p' → p' + 256 ≤ p ∨ p + k ≤ p' → writes p p')) := by
  intro u k slot fails writes
  have hwalk (b : Nat) : u.walk fn b = s.walk fn b := State.walk_congr rfl rfl rfl b
  have hu : WalkLeaves fn r s u :=
    { mem := rfl
      buf := by rw [State.fn_setFn, if_pos rfl]
      index := rfl }
  have hexec : exec (.writeBufferApply fn) s = .next (u.applyPosted fn a bs) := by
    refine (onUnit_of (decide_eq_true hfn) _).trans (congrArg _ ((if_neg (by simp [hoff, hdoze])).trans ?_))
    rw [State.applyOldest, hbuf]
  have hfails {c l b : Nat} {v : State} (hc : c < 256) (hv : WalkLeaves fn r s v)
      (hbad : u.bar2Reach fn a bs.length = .bad c (v.bar2Bad fn b c l)) : fails c :=
    ⟨_, hexec.trans (congrArg _ (State.applyPosted_bad hbad)), ((hv.walkCorrect hfn b).walkFailed b 4 c l).fault hfn hc b⟩
  refine ⟨fun c l hc h => hfails hc hu (State.bar2Reach_bad ((hwalk a).trans h)), fun hone p h => ?_, fun htwo p h => ?_⟩
  · have hreach := State.bar2Reach_one ((hwalk a).trans h) hone
    have hleft := hu.walkCorrect hfn a
    obtain ⟨hin, hout⟩ := Memory.get_writeBytesAt_enabled (u.walkCorrect fn a).mem p bs
    have hpage {i b : Nat} (hb : bs[i]? = some (some b)) : (if i < k then p + i else 0 + (i - k)) = p + i :=
      if_pos (Nat.lt_of_lt_of_le (List.getElem?_eq_some_iff.1 hb).1 hone)
    refine ⟨_, hexec.trans (congrArg _ (State.applyPosted_one hreach)), hleft.buf, fun i b hb => ?_, fun x hx => ?_⟩
    · rw [hpage hb]
      exact hin i b hb
    · refine (hout x fun i b hb => ?_).trans ?_
      · have hne := hx i b hb
        rwa [hpage hb] at hne
      · rw [hleft.mem]
        rfl
  · obtain ⟨hbad, hok⟩ := State.bar2Reach_two ((hwalk a).trans h) htwo
    have hfirst := hu.walkCorrect hfn a
    refine ⟨fun c l hc h' => hfails hc hfirst (hbad c l h'), fun p' h' hapart => ?_⟩
    have hleft := hfirst.walkCorrect hfn (a + k)
    obtain ⟨hin, hout⟩ := State.byte_twoParts ((u.walkCorrect fn a).walkCorrect fn (a + k)) hlen (Nat.le_of_lt htwo) hapart
    refine ⟨_, hexec.trans (congrArg _ (State.applyPosted_two (hok p' h'))), hleft.buf, hin, fun x hx => (hout x hx).trans ?_⟩
    rw [State.byte, hleft.mem]
    rfl

end Apply

/-- Settles O44: BAR2 by the walks of its range, the buffers by their entries, and a buffered write by what its walks leave alone. -/
theorem bar2Accesses : Obligations.Bar2Accesses := by
  unfold Obligations.Bar2Accesses
  intro s fn a n bs hfn d f zeros k up size
  refine ⟨fun hup hpos hlen hsize => bar2Read_answers hfn hup hpos hlen hsize, bar2Read_refused hfn,
    fun hbs hlen hsize => bar2Write_clauses hfn hbs hlen hsize,
    fun harr hdoze v hv ha => registerWrite_held hfn harr hdoze hv ha,
    fun hoff hdoze hlen r hbuf => writeBufferApply_clauses hfn hoff hdoze hlen hbuf⟩

end Sys2Proof.Machine

/-! O46: the command and completion rings (R252-R261). -/

namespace Sys2Proof.Machine

open Sys2Proof

/-! ### What a function sends -/

/-- Nothing sent is taken back, and the link stays in L0. -/
structure Sends (s t : State) : Prop where
  out : ∃ l, t.out = s.out ++ l
  l0 : s.link.l0 = true → t.link.l0 = true

section Sends
variable {s t u : State}

theorem Sends.of_eq (hout : t.out = s.out) (hlink : t.link = s.link) : Sends s t :=
  ⟨⟨[], by rw [hout, List.append_nil]⟩, fun h => by rw [hlink]; exact h⟩

theorem Sends.of_wipe {m : Nat} (e : t.wipe m = s.wipe m) (ho : m.testBit 1 = false) (hl : m.testBit 39 = false) : Sends s t :=
  .of_eq (State.out_of_wipe e ho) (State.link_of_wipe e hl)

theorem Sends.trans (h : Sends s t) (g : Sends t u) : Sends s u where
  out := by
    obtain ⟨l, hl⟩ := h.out
    obtain ⟨l', hl'⟩ := g.out
    exact ⟨l ++ l', by rw [hl', hl, List.append_assoc]⟩
  l0 := g.l0 ∘ h.l0

theorem Sends.foldl {α : Type} {g : State → α → State} (h : ∀ s x, Sends s (g s x)) (l : List α) (s : State) : Sends s (l.foldl g s) :=
  List.foldlRecOn (motive := Sends s) l _ (.of_eq rfl rfl) fun _ hu x _ => hu.trans (h _ x)

variable (s)

theorem State.sends_send (o : Out) : Sends s (s.send o) := ⟨⟨[o], rfl⟩, id⟩

theorem State.sends_setN (k v : Nat) : Sends s (s.setN k v) := .of_eq rfl rfl

theorem State.sends_sendVec (n v : Nat) : Sends s (s.sendVec n v) := by
  simp only [State.sendVec]
  repeat' split
  · exact .of_eq rfl rfl
  · exact .of_eq rfl rfl
  · exact .of_eq rfl rfl
  · exact .of_eq rfl rfl
  · exact ⟨⟨[], (List.append_nil _).symm⟩, id⟩
  · exact ⟨⟨[_], rfl⟩, fun h => h⟩

theorem State.sends_reachL0 : s.reachL0.link.l0 = true ∧ ∃ l, s.reachL0.out = s.out ++ l := by
  obtain ⟨u, hu⟩ : ∃ u : State, u = { s with link := { s.link with l0 := true, held := [] } } := ⟨_, rfl⟩
  have hall (ks : List Nat) : Sends u (u.sendAll ks) := .foldl (fun v k => v.sends_sendVec ..) _ u
  have hreach : s.reachL0 = u.sendAll (s.link.held.map fun x => vecKey x.1 x.2) := by rw [hu, State.reachL0]
  obtain ⟨hout, hl0⟩ := hall (s.link.held.map fun x => vecKey x.1 x.2)
  rw [hreach]
  exact ⟨hl0 (by rw [hu]), by rwa [show u.out = s.out by rw [hu]] at hout⟩

/-- Out of L1, with the messages that waited for it. -/
theorem State.leaveL1_sends : s.leaveL1.link.l0 = true ∧ (∃ l, s.leaveL1.out = s.out ++ l ∧ (s.link.l0 = true → l = [])) := by
  rw [State.leaveL1]
  split
  · next h => exact ⟨h, [], (List.append_nil _).symm, fun _ => rfl⟩
  · next h =>
    obtain ⟨hl0, l, hout⟩ := s.sends_reachL0
    exact ⟨hl0, l, hout, fun h' => absurd h' h⟩

theorem State.sends_raise (id : Nat) : Sends s (s.raise id) := by
  have hsleep (v : State) (n : Nat) : Sends v (v.sleepEvent n) := by
    simp only [State.sleepEvent]
    repeat' split
    · exact ⟨⟨[_], rfl⟩, fun h => h⟩
    · obtain ⟨hl0, l, hout, -⟩ := (v.setFn n { v.fn n with pmeStatus := true }).leaveL1_sends
      exact ⟨⟨l ++ [_], (congrArg (· ++ [_]) hout).trans (List.append_assoc ..)⟩, fun _ => hl0⟩
    · exact .of_eq rfl rfl
  have hbump (v : State) (n k : Nat) : Sends v (v.bumpVec n k) :=
    Sends.trans (t := v.setVec (vecKey n k) _) (.of_eq rfl rfl) (hsleep _ n)
  have hdeliver (v : State) : Sends v (v.deliver id) := by
    simp only [State.deliver, State.countEvent]
    repeat' split
    · exact .of_eq rfl rfl
    · exact (hbump ..).trans (State.sends_sendVec ..)
    · exact hbump ..
  have hpend : Sends s ((s.notePend id).setSrcPend id true) := (Sends.of_wipe (s.notePend_wipe0 id) rfl rfl).trans (State.sends_setN ..)
  simp only [State.raise]
  split
  · exact hpend.trans (hdeliver _)
  · exact hpend.trans (.of_eq rfl rfl)

theorem State.sends_updFull (n : Nat) : Sends s (s.updFull n) := by
  simp only [State.updFull]
  split
  · exact (State.sends_setN ..).trans (State.sends_raise ..)
  · exact s.sends_setN ..

end Sends

/-! ### CPL_FULL -/

section Full
variable {s : State} {n : Nat}

/-- With no record that waits for an entry CPL_FULL is 0, and nothing is raised (R255). -/
theorem State.updFull_clears (h : (s.fn n).waiting = [] ∨ s.cplFree n = true) : s.updFull n = s.setBit (Reg.TEN_RING_STAT n) 2 false := by
  have hfull : (decide ((s.fn n).waiting ≠ []) && !s.cplFree n) = false := by
    rcases h with h | h <;> simp [h]
  simp only [State.updFull, hfull, Bool.false_eq_true, false_and, if_false]

/-- Of the registers CPL_FULL alone, and a pending bit. -/
theorem State.reg_updFull (hn : n < 512) {k : Nat} (hk : k ≠ Reg.TEN_RING_STAT n) (hp : ¬(Reg.HVC_PEND 0 ≤ k ∧ k < Reg.HVC_PEND 512)) :
    (s.updFull n).reg k = s.reg k := by
  simp only [State.updFull]
  split
  · exact (State.raise_reg _ (by omega) hp).trans (s.reg_setBit_other hk 2 _)
  · exact s.reg_setBit_other hk 2 _

theorem State.updFull_pme (n : Nat) : PmeOnly s (s.updFull n) := by
  simp only [State.updFull]
  split
  · exact (State.setN_pme ..).trans (State.raise_pme ..)
  · exact s.setN_pme ..

end Full

/-! ### The writes of the rings' registers (R252, R256) -/

section Writes
variable {d : State} {n : Nat}

/-- One change of registers, one of the functions and one of registers again. -/
theorem State.frame_regs_fns {d w v t : State} (hw : w = { d with regs := w.regs }) (hv : v = { w with fns := v.fns })
    (ht : t = { v with regs := t.regs }) : t = { d with regs := t.regs, fns := t.fns } := by
  generalize t.regs = r at ht ⊢
  subst ht
  generalize v.fns = f at hv
  subst hv
  generalize w.regs = r' at hw
  subst hw
  rfl

theorem State.writeRingCtrl_stop {v : Nat} (h : bitAt v 0 = false) : let t := d.writeRingCtrl n v
    t.bit (Reg.TEN_RING_CTRL n) 0 = false ∧ OnlyRegs [Reg.TEN_RING_CTRL n] d t := by
  have heq : d.writeRingCtrl n v = d.setBit (Reg.TEN_RING_CTRL n) 0 false := if_pos h
  rw [heq]
  exact ⟨State.bit_setBit_same _ _ 0 false (by decide), (OnlyRegs.refl _ d).setBit (List.mem_singleton_self _) 0 false⟩

theorem State.writeRingCtrl_enabled {v : Nat} (h : bitAt v 0 = true) (hon : d.bit (Reg.TEN_RING_CTRL n) 0 = true) :
    d.writeRingCtrl n v = d := (if_neg (by simp [h])).trans (if_pos hon)

/-- Sizes outside 4 to 12 are refused (R252). -/
theorem State.writeRingCtrl_refused {v : Nat} (h : bitAt v 0 = true) (hoff : d.bit (Reg.TEN_RING_CTRL n) 0 = false)
    (hsize : ¬(ringLog (d.fld (Reg.TEN_CMD_SIZE n) 0 4) = true ∧ ringLog (d.fld (Reg.TEN_CPL_SIZE n) 0 4) = true)) :
    let t := d.writeRingCtrl n v
    t.fld (Reg.TEN_RING_STAT n) 8 8 = 0x08 ∧ t.bit (Reg.TEN_RING_CTRL n) 0 = false ∧ OnlyRegs [Reg.TEN_RING_STAT n] d t := by
  have heq : d.writeRingCtrl n v = d.setFld (Reg.TEN_RING_STAT n) 8 8 Code.rejectClass :=
    (if_neg (by simp [h])).trans ((if_neg (by simp [hoff])).trans (if_pos (by
      rw [not_and_or, Bool.not_eq_true, Bool.not_eq_true] at hsize
      exact hsize)))
  rw [heq]
  exact ⟨State.fld_setFld_same _ _ 8 8 _ (by decide), (State.bit_of_reg (State.reg_setFld_other _ (by simp) ..) 0).trans hoff,
    (OnlyRegs.refl _ d).setFld (List.mem_singleton_self _) 8 8 _⟩

/-- The registers of a ring that is enabled. -/
def State.ringStart (d : State) (n : Nat) : State :=
  ((((d.setBit (Reg.TEN_RING_CTRL n) 0 true).setBit (Reg.TEN_RING_STAT n) 3 false).setFld (Reg.TEN_CMD_HEAD n) 0 12 0).setFld
    (Reg.TEN_CPL_HEAD n) 0 12 0).setN (Reg.TEN_CPL_TAIL n) (2 ^ 16)

abbrev ringRegs (n : Nat) : List Nat :=
  [Reg.TEN_RING_CTRL n, Reg.TEN_RING_STAT n, Reg.TEN_CMD_HEAD n, Reg.TEN_CPL_HEAD n, Reg.TEN_CPL_TAIL n]

/-- A ring that is enabled starts at 0, runs, and may fetch (R252). -/
theorem State.ringStart_spec : let w := d.ringStart n
    OnlyRegs (ringRegs n) d w ∧ w.bit (Reg.TEN_RING_CTRL n) 0 = true ∧ w.bit (Reg.TEN_RING_STAT n) 3 = false ∧
    w.fld (Reg.TEN_CMD_HEAD n) 0 12 = 0 ∧ w.fld (Reg.TEN_CPL_HEAD n) 0 12 = 0 ∧ w.regN (Reg.TEN_CPL_TAIL n) = 2 ^ 16 := by
  intro w
  let a := d.setBit (Reg.TEN_RING_CTRL n) 0 true
  let b := a.setBit (Reg.TEN_RING_STAT n) 3 false
  let c := b.setFld (Reg.TEN_CMD_HEAD n) 0 12 0
  let e := c.setFld (Reg.TEN_CPL_HEAD n) 0 12 0
  have htail {k : Nat} (hk : k ≠ Reg.TEN_CPL_TAIL n) : w.reg k = e.reg k := e.reg_setN_other hk _
  have hhead {k : Nat} (hk : k ≠ Reg.TEN_CPL_HEAD n) : e.reg k = c.reg k := c.reg_setFld_other hk ..
  have hcmd {k : Nat} (hk : k ≠ Reg.TEN_CMD_HEAD n) : c.reg k = b.reg k := b.reg_setFld_other hk ..
  have hstat {k : Nat} (hk : k ≠ Reg.TEN_RING_STAT n) : b.reg k = a.reg k := a.reg_setBit_other hk ..
  refine ⟨?_, ?_, ?_, ?_, ?_, (e.regN_setN_same _ _).trans (by decide)⟩
  · exact (((((OnlyRegs.refl _ d).setBit (by simp) 0 true).setBit (by simp) 3 false).setFld (by simp) 0 12 0).setFld (by simp) 0 12 0).setN
      (by simp) _
  · rw [State.bit_of_reg (htail (by simp)), State.bit_of_reg (hhead (by simp)), State.bit_of_reg (hcmd (by simp)),
      State.bit_of_reg (hstat (by simp))]
    exact State.bit_setBit_same _ _ 0 true (by decide)
  · rw [State.bit_of_reg (htail (by simp)), State.bit_of_reg (hhead (by simp)), State.bit_of_reg (hcmd (by simp))]
    exact State.bit_setBit_same _ _ 3 false (by decide)
  · rw [State.fld_of_reg (htail (by simp)), State.fld_of_reg (hhead (by simp))]
    exact State.fld_setFld_same _ _ 0 12 _ (by decide)
  · rw [State.fld_of_reg (htail (by simp))]
    exact State.fld_setFld_same _ _ 0 12 _ (by decide)

/-- EN of a disabled ring of sizes in range (R252). -/
theorem State.writeRingCtrl_starts {v : Nat} (h : bitAt v 0 = true) (hoff : d.bit (Reg.TEN_RING_CTRL n) 0 = false)
    (hcmd : ringLog (d.fld (Reg.TEN_CMD_SIZE n) 0 4) = true) (hcpl : ringLog (d.fld (Reg.TEN_CPL_SIZE n) 0 4) = true) :
    let t := d.writeRingCtrl n v
    t.bit (Reg.TEN_RING_CTRL n) 0 = true ∧ t.bit (Reg.TEN_RING_STAT n) 3 = false ∧ t.fld (Reg.TEN_CMD_HEAD n) 0 12 = 0 ∧
      t.fn n = { d.fn n with cmdTail := 0, ringed := true } ∧ t.fld (Reg.TEN_CPL_HEAD n) 0 12 = 0 ∧
      t.fld (Reg.TEN_CPL_TAIL n) 0 12 = 0 ∧ t.bit (Reg.TEN_CPL_TAIL n) 16 = true ∧ t = { d with regs := t.regs, fns := t.fns } ∧
      ∀ k, k ∉ ringRegs n → t.reg k = d.reg k := by
  intro t
  obtain ⟨hregs, hctrl, hstat, hhead, hchead, htail⟩ := d.ringStart_spec (n := n)
  generalize hw : d.ringStart n = w at hregs hctrl hstat hhead hchead htail
  obtain ⟨v', hv⟩ : ∃ v', v' = w.setFn n { w.fn n with cmdTail := 0, ringed := true } := ⟨_, rfl⟩
  have hvreg (k : Nat) : v'.reg k = w.reg k := hv ▸ rfl
  have htail0 : v'.fld (Reg.TEN_CPL_TAIL n) 0 12 = 0 := by rw [State.fld, State.regN_of_reg (hvreg _), htail]; decide
  have hfree : v'.cplFree n = true := by
    have hsize : v'.cplSize n = 2 ^ d.fld (Reg.TEN_CPL_SIZE n) 0 4 := by
      rw [State.cplSize, State.fld_of_reg (hvreg _), State.fld_of_reg (hregs.2 _ (by simp))]
    rw [State.cplFree, htail0, State.fld_of_reg (hvreg _), hchead, hsize]
    have hlog := of_decide_eq_true hcpl
    have hbig : 2 ^ 4 ≤ 2 ^ d.fld (Reg.TEN_CPL_SIZE n) 0 4 := Nat.pow_le_pow_right (by decide) hlog.1
    rw [Nat.mod_eq_of_lt (by omega), Nat.zero_mod]
    decide
  have ht : t = v'.setBit (Reg.TEN_RING_STAT n) 2 false := by
    have heq : d.writeRingCtrl n v = v'.updFull n := by
      rw [hv, ← hw]
      exact (if_neg (by simp [h])).trans ((if_neg (by simp [hoff])).trans (if_neg (by simp [hcmd, hcpl])))
    exact heq.trans (State.updFull_clears (.inr hfree))
  have hreg {k : Nat} (hk : k ≠ Reg.TEN_RING_STAT n) : t.reg k = w.reg k := by
    rw [ht]
    exact (v'.reg_setBit_other hk 2 false).trans (hvreg k)
  refine ⟨(State.bit_of_reg (hreg (by simp)) 0).trans hctrl, ?_, (State.fld_of_reg (hreg (by simp)) 0 12).trans hhead, ?_,
    (State.fld_of_reg (hreg (by simp)) 0 12).trans hchead, ?_, ?_, ?_, fun k hk => ?_⟩
  · rw [ht, State.bit_eq_fld, State.setBit, State.fld_setFld_apart _ _ 2 1 _ 3 1 (by decide) (by decide), ← State.bit_eq_fld,
      State.bit_of_reg (hvreg _)]
    exact hstat
  · have hfn : t.fn n = v'.fn n := by rw [ht]; rfl
    rw [hfn, hv, State.fn_setFn, if_pos rfl, show w.fn n = d.fn n from (by rw [State.fn, hregs.1]; rfl)]
  · rw [State.fld, State.regN_of_reg (hreg (by simp)), htail]
    decide
  · rw [State.bit, State.regN_of_reg (hreg (by simp)), htail]
    decide
  · exact State.frame_regs_fns (v := v') hregs.1 (hv ▸ rfl) (ht ▸ rfl)
  · exact (hreg fun e => hk (by simp [e])).trans (hregs.2 k hk)

/-- A new HEAD of the completion ring (R256). -/
theorem State.writeCplHead_spec (hn : n < 512) {i : Nat} (hi : i < 2 ^ 12) :
    let z := 2 ^ d.fld (Reg.TEN_CPL_SIZE n) 0 4
    let h := d.fld (Reg.TEN_CPL_HEAD n) 0 12
    let inside := (i + z - h % z) % z ≤ (d.fld (Reg.TEN_CPL_TAIL n) 0 12 + z - h % z) % z ∧ i < z
    let slot := d.fld (Reg.TEN_FAULT_IDX n) 0 6
    let t := d.writeCplHead n i
    (inside → t.fld (Reg.TEN_CPL_HEAD n) 0 12 = i ∧ t.fld (Reg.TEN_CPL_TAIL n) 0 12 = d.fld (Reg.TEN_CPL_TAIL n) 0 12 ∧
      ((d.fn n).waiting = [] → t.bit (Reg.TEN_RING_STAT n) 2 = false)) ∧
    (¬inside → t.fld (Reg.TEN_CPL_HEAD n) 0 12 = h ∧ t.fld (Reg.TEN_RING_STAT n) 8 8 = 0x0C ∧
      t.fld (Reg.TEN_FAULT n (8 * slot)) 16 8 = 0x0C ∧ t.regN (Reg.TEN_FAULT n (8 * slot + 1)) = 6 ∧
      t.regN (Reg.TEN_FAULT n (8 * slot + 4)) = i) := by
  intro z h inside slot t
  refine ⟨fun hin => ?_, fun hout => ?_⟩
  · obtain ⟨u, hu⟩ : ∃ u, u = d.setFld (Reg.TEN_CPL_HEAD n) 0 12 i := ⟨_, rfl⟩
    have ht : t = u.updFull n := by rw [hu]; exact if_pos hin
    have hreg {k : Nat} (hk : k ≠ Reg.TEN_RING_STAT n) (hp : ¬(Reg.HVC_PEND 0 ≤ k ∧ k < Reg.HVC_PEND 512)) : t.reg k = u.reg k := by
      rw [ht]
      exact State.reg_updFull hn hk hp
    refine ⟨(State.fld_of_reg (hreg (by simp) (by simp only [Reg.HVC_PEND, Reg.TEN_CPL_HEAD]; omega)) 0 12).trans ?_,
      (State.fld_of_reg (hreg (by simp) (by simp only [Reg.HVC_PEND, Reg.TEN_CPL_TAIL]; omega)) 0 12).trans ?_, fun hwait => ?_⟩
    · rw [hu, State.fld_setFld_same _ _ 0 12 _ (by decide)]
      exact Nat.mod_eq_of_lt hi
    · rw [hu, State.fld_of_reg (State.reg_setFld_other _ (by simp) ..)]
    · rw [ht, State.updFull_clears (.inl (by rw [hu]; exact hwait))]
      exact State.bit_setBit_same _ _ 2 false (by decide)
  · obtain ⟨u, hu⟩ : ∃ u, u = d.setFld (Reg.TEN_RING_STAT n) 8 8 Code.queueFull := ⟨_, rfl⟩
    have ht : t = u.faultRecord n Code.queueFull FSrc.ring 0 i := by rw [hu]; exact if_neg hout
    have hslot : u.fld (Reg.TEN_FAULT_IDX n) 0 6 = slot := by rw [hu, State.fld_of_reg (State.reg_setFld_other _ (by simp) ..)]
    obtain ⟨hsource, hdetail⟩ := u.words_faultRecord hn Code.queueFull FSrc.ring 0 i
    have hzero := u.word_faultRecord hn Code.queueFull FSrc.ring 0 i (i := 0) (by decide)
    rw [hslot] at hsource hdetail hzero
    rw [ht]
    refine ⟨?_, (u.fld_faultRecord_stat hn _ _ _ _ 8 (by decide)).trans ?_, ?_, hsource, hdetail.trans (Nat.mod_eq_of_lt ?_)⟩
    · rw [State.fld_of_reg ((u.ringsKept_faultRecord hn ..).reg_ten n (o := 0x120) (by decide)), hu,
        State.fld_of_reg (State.reg_setFld_other _ (by simp [tenBase]) ..)]
    · rw [hu]
      exact State.fld_setFld_same _ _ 8 8 _ (by decide)
    · rw [State.fld]
      refine (congrArg (bits · 16 8) hzero).trans ((recordValue_fields ..).2.2.1.trans ?_)
      rfl
    · exact Nat.lt_trans hi (by decide)

end Writes

end Sys2Proof.Machine

/-! O46: the fetch of a command, the judging of its SEQ, and the records of a completion ring (R255, R258-R261). -/

namespace Sys2Proof.Machine

open Sys2Proof

/-! ### Whose turn the fetch is (R259) -/

section Turn
variable {s : State} {n : Nat}

/-- The first function after the one visited last that may be fetched from. -/
theorem State.nextFetch_of_first (hn : n < 512) (hmay : s.mayFetchCmd n = true) (hfirst : ∀ m < 512, s.mayFetchCmd m = true →
    (n + 1023 - s.turns.fetch % 512) % 512 ≤ (m + 1023 - s.turns.fetch % 512) % 512) : s.nextFetch = some n := by
  have hplace : (s.turns.fetch + 1 + (n + 1023 - s.turns.fetch % 512) % 512) % 512 = n := by omega
  have hfind : (List.range 512).find? (s.mayFetchCmd ∘ fun i => (s.turns.fetch + 1 + i) % 512) =
      some ((n + 1023 - s.turns.fetch % 512) % 512) := by
    refine List.find?_range_eq_some.2 ⟨?_, List.mem_range.2 (Nat.mod_lt _ (by decide)), fun j hj => ?_⟩
    · rw [Function.comp_apply, hplace]
      exact hmay
    · rw [Bool.not_eq_true', Function.comp_apply, ← Bool.not_eq_true]
      intro hm
      have hle := hfirst _ (Nat.mod_lt _ (by decide)) hm
      omega
  rw [State.nextFetch, List.find?_map, hfind]
  exact congrArg some hplace

/-- What a function that is fetched from has, beyond its ring. -/
theorem State.fetched_of_mayFetchCmd (h : s.mayFetchCmd n = true) : (s.fn n).flr = false ∧ s.tagsHeld.length < 4096 := by
  simp only [State.mayFetchCmd, Bool.and_eq_true, Bool.not_eq_true', decide_eq_true_eq] at h
  exact ⟨h.1.1.1.1.1.1.2, h.2⟩

/-- A tag that no command holds. -/
theorem State.freeTag (h : s.tagsHeld.length < 4096) (m : Nat) : ∃ tag,
    pickOf m ((List.range 4096).filter fun t => !s.tagsHeld.contains t) = some tag ∧ tag < 4096 ∧ tag ∉ s.tagsHeld := by
  have hsome : ∃ t ∈ List.range 4096, t ∉ s.tagsHeld := by
    by_contra hall
    push Not at hall
    have hle := (List.nodup_range (n := 4096)).subperm hall |>.length_le
    rw [List.length_range] at hle
    omega
  obtain ⟨t, ht, hfree⟩ := hsome
  obtain ⟨tag, hpick, hmem⟩ := pickOf_some m ((List.range 4096).filter fun t => !s.tagsHeld.contains t)
    (List.length_pos_of_mem (List.mem_filter.2 ⟨ht, by simpa using hfree⟩))
  obtain ⟨hlt, hnot⟩ := List.mem_filter.1 hmem
  exact ⟨tag, hpick, List.mem_range.1 hlt, by simpa using hnot⟩

/-- A fetch that ends in a PCIe error (R258). -/
theorem commandFetch_fails (hn : n < 512) (hnext : s.nextFetch = some n) :
    let f := s.fn n
    let h := s.fld (Reg.TEN_CMD_HEAD n) 0 12
    let slot := s.fld (Reg.TEN_FAULT_IDX n) 0 6
    ∃ t : State, exec (.commandFetch n none) s = .next t ∧ t.turns.fetch = n ∧ t.bit (Reg.TEN_RING_STAT n) 3 = true ∧
      t.fld (Reg.TEN_RING_STAT n) 8 8 = 0x10 ∧ t.bit (Reg.TEN_RING_CTRL n) 0 = true ∧ t.fld (Reg.TEN_CMD_HEAD n) 0 12 = h ∧
      t.fld (Reg.TEN_FAULT n (8 * slot)) 16 8 = 0x10 ∧ t.regN (Reg.TEN_FAULT n (8 * slot + 1)) = 6 ∧
      t.regN (Reg.TEN_FAULT n (8 * slot + 4)) = h ∧ t.srcPend (24 * n + 21) = true ∧ (t.fn n).inflight = f.inflight ∧
      (t.fn n).waiting = f.waiting := by
  intro f h slot
  obtain ⟨hen, -, -⟩ := s.ring_of_mayFetchCmd (s.nextFetch_may hnext)
  obtain ⟨hhalted, hcode, hsource, hdetail⟩ := s.halted_fetchCmd_failed hn hnext
  have hkept := s.ringsKept_fetchCmd_failed hn hnext
  obtain ⟨b, l, hfn, -⟩ := hkept.fn n
  have hfail := s.fetchCmd_failed hnext
  refine ⟨_, exec_commandFetch s hn none, ?_, hhalted, hcode, (State.bit_of_reg (hkept.reg_ten n (o := 0x128) (by decide)) 0).trans hen,
    State.fld_of_reg (hkept.reg_ten n (o := 0x110) (by decide)) 0 12, ?_, hsource, hdetail, ?_, by rw [hfn], by rw [hfn]⟩
  · have hframe : (s.fetchCmd n none).wipe 4123168604178 = (s.haltRing n).wipe 4123168604178 := by
      rw [hfail]
      exact (State.raisePriv_wipe0 ..).trans (State.faultRecord_wipe0 ..)
    rw [State.turns_of_wipe hframe rfl]
    rfl
  · have hslot : (s.haltRing n).fld (Reg.TEN_FAULT_IDX n) 0 6 = slot := State.fld_of_reg (s.reg_haltRing_other (by simp)) 0 6
    have hzero := (s.haltRing n).word_faultRecord hn Code.busError FSrc.ring 0 h (i := 0) (by decide)
    rw [hslot] at hzero
    have hword : (s.fetchCmd n none).regN (Reg.TEN_FAULT n (8 * slot)) = _ :=
      (State.regN_of_reg (hfail ▸ State.raise_reg _ (by omega) (by simp only [Reg.HVC_PEND, Reg.TEN_FAULT]; omega))).trans hzero
    rw [State.fld]
    refine (congrArg (bits · 16 8) hword).trans ((recordValue_fields ..).2.2.1.trans ?_)
    rfl
  · rw [hfail]
    exact State.srcPend_raise ..

end Turn

/-! ### A record that waits (R255, R261) -/

section Push
variable {s : State} {n : Nat}

/-- Outside an FLR the command is done and its record waits. -/
theorem State.pushCpl_fn (hflr : (s.fn n).flr = false) (r : Cpl) : ∃ b, (s.pushCpl n r).fn n = { s.fn n with
    inflight := (s.fn n).inflight.map fun c => if c.tag = r.tag then { c with done := true } else c,
    waiting := (s.fn n).waiting ++ [r], pmeStatus := b } := by
  obtain ⟨u, hu⟩ : ∃ u, u = s.setFn n { s.fn n with
    inflight := (s.fn n).inflight.map fun c => if c.tag = r.tag then { c with done := true } else c,
    waiting := (s.fn n).waiting ++ [r] } := ⟨_, rfl⟩
  have ht : s.pushCpl n r = u.updFull n := by
    rw [hu]
    exact if_neg (by simp [hflr])
  obtain ⟨b, hb⟩ := (u.updFull_pme n).fn n
  exact ⟨b, by rw [ht, hb, hu, State.fn_setFn, if_pos rfl]⟩

/-- Outside an FLR the command is done and its record waits; of the registers at most CPL_FULL and a pending bit change. -/
theorem State.pushCpl_spec (hn : n < 512) (hflr : (s.fn n).flr = false) (r : Cpl) : let t := s.pushCpl n r
    (∃ b, t.fn n = { s.fn n with
      inflight := (s.fn n).inflight.map fun c => if c.tag = r.tag then { c with done := true } else c,
      waiting := (s.fn n).waiting ++ [r], pmeStatus := b }) ∧
    t.turns = s.turns ∧ ∀ k, k ≠ Reg.TEN_RING_STAT n → ¬(Reg.HVC_PEND 0 ≤ k ∧ k < Reg.HVC_PEND 512) → t.reg k = s.reg k := by
  intro t
  obtain ⟨u, hu⟩ : ∃ u, u = s.setFn n { s.fn n with
    inflight := (s.fn n).inflight.map fun c => if c.tag = r.tag then { c with done := true } else c,
    waiting := (s.fn n).waiting ++ [r] } := ⟨_, rfl⟩
  have ht : t = u.updFull n := by
    rw [hu]
    exact if_neg (by simp [hflr])
  refine ⟨State.pushCpl_fn hflr r, ?_, fun k hk hp => ?_⟩
  · rw [ht, State.turns_of_wipe (u.updFull_wipe0 n) rfl, hu]
    rfl
  · rw [ht, State.reg_updFull hn hk hp, hu]
    rfl

/-- An accepted command completes where no duplicate of it waits (R261). -/
theorem State.finishCmd_alone {c : Cmd} (hnone : ∀ y ∈ (s.fn n).inflight, y.dup ≠ some c.seq) (status r0 r1 : Nat) :
    s.finishCmd n c status r0 r1 = (s.setFn n { s.fn n with hist := (s.fn n).hist.map fun h =>
      if h.seq = c.seq ∧ h.cpl = none then { h with cpl := some (c.cpl status r0 r1) } else h }).pushCpl n (c.cpl status r0 r1) := by
  have hdups : (s.fn n).inflight.filter (fun d => !d.done && decide (d.dup = some c.seq)) = [] :=
    List.filter_eq_nil_iff.2 fun y hy => by simp [hnone y hy]
  simp only [State.finishCmd, State.fn_setFn, if_pos, hdups]
  rfl

end Push

/-! ### The judging of a SEQ (R261) -/

/-- What an answer leaves: whose turn it is, and the head of the command ring. -/
structure FetchKept (n : Nat) (s t : State) : Prop where
  turns : t.turns = s.turns
  head : t.reg (Reg.TEN_CMD_HEAD n) = s.reg (Reg.TEN_CMD_HEAD n)

section FetchKept
variable {s t u : State} {n : Nat}

theorem FetchKept.trans (h : FetchKept n s t) (g : FetchKept n t u) : FetchKept n s u := ⟨g.turns.trans h.turns, g.head.trans h.head⟩

theorem State.setFn_fetchKept (s : State) (g : Fn) : FetchKept n s (s.setFn n g) := ⟨rfl, rfl⟩

theorem State.pushCpl_fetchKept (s : State) (hn : n < 512) (r : Cpl) : FetchKept n s (s.pushCpl n r) := by
  have hfull (v : State) : FetchKept n v (v.updFull n) :=
    ⟨State.turns_of_wipe (v.updFull_wipe0 n) rfl, State.reg_updFull hn (by simp) (by simp only [Reg.HVC_PEND, Reg.TEN_CMD_HEAD]; omega)⟩
  simp only [State.pushCpl]
  split
  · exact s.setFn_fetchKept _
  · exact (s.setFn_fetchKept _).trans (hfull _)

theorem State.finishCmd_fetchKept (s : State) (hn : n < 512) (c : Cmd) (status r0 r1 : Nat) :
    FetchKept n s (s.finishCmd n c status r0 r1) := by
  simp only [State.finishCmd]
  refine List.foldlRecOn (motive := FetchKept n s) _ _ ?_ fun v hv d _ => hv.trans (v.pushCpl_fetchKept hn _)
  exact (s.setFn_fetchKept _).trans (State.pushCpl_fetchKept _ hn _)

/-- The command stands in the list of those in flight. -/
abbrev State.entered (u : State) (n : Nat) (c : Cmd) : State := u.setFn n { u.fn n with inflight := (u.fn n).inflight ++ [c] }

/-- A command's entry in the history. -/
abbrev Cmd.note (c : Cmd) : Hist := { seq := c.seq, opcode := c.opcode }

/-- A command with a new SEQ, in the history and in TEN_SEQ. -/
def State.noted (u : State) (n : Nat) (c : Cmd) : State :=
  let l := (u.fn n).hist ++ [c.note]
  ((u.entered n c).setFn n { (u.entered n c).fn n with hist := l.drop (l.length - 64) }).setFld (Reg.TEN_SEQ n) 0 16 c.seq

theorem State.noted_fetchKept (u : State) (c : Cmd) : FetchKept n u (u.noted n c) :=
  ⟨rfl, (State.reg_setFld_other _ (by simp) ..).trans rfl⟩

theorem State.entered_fn (u : State) (c : Cmd) : (u.entered n c).fn n = { u.fn n with inflight := (u.fn n).inflight ++ [c] } :=
  (u.fn_setFn ..).trans (if_pos rfl)

theorem State.noted_fn (u : State) (c : Cmd) : (u.noted n c).fn n = { u.fn n with
    inflight := (u.fn n).inflight ++ [c],
    hist := ((u.fn n).hist ++ [c.note]).drop (((u.fn n).hist ++ [c.note]).length - 64) } := by
  have hfn (v : State) (g : Fn) : ((v.setFn n g).setFld (Reg.TEN_SEQ n) 0 16 c.seq).fn n = g := (v.fn_setFn ..).trans (if_pos rfl)
  rw [State.noted, hfn, State.entered_fn]

theorem State.noted_seq (u : State) {c : Cmd} (hc : c.seq < 2 ^ 16) : (u.noted n c).fld (Reg.TEN_SEQ n) 0 16 = c.seq :=
  (State.fld_setFld_same _ _ 0 16 _ (by decide)).trans (Nat.mod_eq_of_lt hc)

end FetchKept

section Judge
variable {u : State} {n : Nat} {c : Cmd}

theorem State.judgeSeq_reused {e : Hist} (h : (u.fn n).hist.find? (fun h => decide (h.seq = c.seq)) = some e) (hop : e.opcode ≠ c.opcode) :
    u.judgeSeq n c = (u.entered n c).pushCpl n (c.cpl Code.staleSeq 0 0) := by
  simp only [State.judgeSeq, h]
  exact if_pos hop

theorem State.judgeSeq_again {e : Hist} (h : (u.fn n).hist.find? (fun h => decide (h.seq = c.seq)) = some e) (hop : e.opcode = c.opcode)
    {r : Cpl} (hr : e.cpl = some r) : u.judgeSeq n c = (u.entered n c).pushCpl n (c.duplicate r) := by
  simp only [State.judgeSeq, h, hr]
  exact if_neg (not_not.2 hop)

theorem State.judgeSeq_waits {e : Hist} (h : (u.fn n).hist.find? (fun h => decide (h.seq = c.seq)) = some e) (hop : e.opcode = c.opcode)
    (hr : e.cpl = none) : u.judgeSeq n c =
      (u.entered n c).setFn n { u.fn n with inflight := (u.fn n).inflight ++ [{ c with dup := some c.seq }] } := by
  simp only [State.judgeSeq, h, hr]
  exact if_neg (not_not.2 hop)

/-- A SEQ at most 32,767 behind the last one (R261). -/
def State.behind (u : State) (n : Nat) (c : Cmd) : Prop :=
  (u.fn n).hist ≠ [] ∧ 1 ≤ (u.fld (Reg.TEN_SEQ n) 0 16 + 65536 - c.seq) % 65536 ∧
    (u.fld (Reg.TEN_SEQ n) 0 16 + 65536 - c.seq) % 65536 ≤ 32767

theorem State.judgeSeq_old (h : (u.fn n).hist.find? (fun h => decide (h.seq = c.seq)) = none) (hold : u.behind n c) :
    u.judgeSeq n c = (u.entered n c).pushCpl n (c.cpl Code.staleSeq 0 0) := by
  simp only [State.judgeSeq, h]
  exact if_pos hold

theorem State.judgeSeq_new (h : (u.fn n).hist.find? (fun h => decide (h.seq = c.seq)) = none) (hnew : ¬u.behind n c) :
    u.judgeSeq n c = if c.refused n then (u.noted n c).finishCmd n c Code.rejectClass 0 0 else u.noted n c := by
  simp only [State.judgeSeq, h]
  exact if_neg hnew

theorem State.judgeSeq_fetchKept (hn : n < 512) (u : State) (c : Cmd) : FetchKept n u (u.judgeSeq n c) := by
  have hpush (r : Cpl) : FetchKept n u ((u.entered n c).pushCpl n r) := (u.setFn_fetchKept _).trans (State.pushCpl_fetchKept _ hn r)
  cases h : (u.fn n).hist.find? (fun h => decide (h.seq = c.seq)) with
  | some e =>
    by_cases hop : e.opcode = c.opcode
    · cases hr : e.cpl with
      | some r => exact State.judgeSeq_again h hop hr ▸ hpush _
      | none => exact State.judgeSeq_waits h hop hr ▸ ((u.setFn_fetchKept _).trans (State.setFn_fetchKept _ _))
    · exact State.judgeSeq_reused h hop ▸ hpush _
  | none =>
    by_cases hold : u.behind n c
    · exact State.judgeSeq_old h hold ▸ hpush _
    · rw [State.judgeSeq_new h hold]
      split
      · exact (u.noted_fetchKept c).trans (State.finishCmd_fetchKept _ hn ..)
      · exact u.noted_fetchKept c

/-- A record pushed for a command that has just entered the list. -/
theorem State.pushCpl_answers {v : State} (hn : n < 512) (hflr : (v.fn n).flr = false) (hin : (v.fn n).inflight = (u.fn n).inflight ++ [c])
    (hwait : (v.fn n).waiting = (u.fn n).waiting) {r : Cpl} (hr : r.tag = c.tag) : let t := v.pushCpl n r
    ((t.fn n).inflight = ((u.fn n).inflight ++ [c]).map (fun y => if y.tag = c.tag then { y with done := true } else y) ∧
      (t.fn n).waiting = (u.fn n).waiting ++ [r]) ∧
    (t.fn n).hist = (v.fn n).hist ∧ t.fld (Reg.TEN_SEQ n) 0 16 = v.fld (Reg.TEN_SEQ n) 0 16 := by
  intro t
  obtain ⟨⟨b, hfn⟩, -, hreg⟩ := v.pushCpl_spec hn hflr r
  refine ⟨⟨?_, ?_⟩, ?_, State.fld_of_reg (hreg _ (by simp) (by simp only [Reg.HVC_PEND, Reg.TEN_SEQ]; omega)) 0 16⟩
  · rw [hfn, hin, hr]
  · rw [hfn, hwait]
  · rw [hfn]

/-- What the fetcher makes of a command, by what its SEQ meets in the history. -/
theorem State.judgeSeq_spec (hn : n < 512) (hflr : (u.fn n).flr = false) (hdup : c.dup = none) (hc : c.seq < 2 ^ 16) :
    let f := u.fn n
    let seen := f.hist.find? fun h => decide (h.seq = c.seq)
    let t := u.judgeSeq n c
    let answered (status orig r0 r1 : Nat) :=
      (t.fn n).inflight = (f.inflight ++ [c]).map (fun y => if y.tag = c.tag then { y with done := true } else y) ∧
      (t.fn n).waiting = f.waiting ++ [{ c.cpl status r0 r1 with orig := orig }]
    let still := (t.fn n).hist = f.hist ∧ t.fld (Reg.TEN_SEQ n) 0 16 = u.fld (Reg.TEN_SEQ n) 0 16
    (∀ e, seen = some e → e.opcode ≠ c.opcode → answered 0x0A 0 0 0 ∧ still) ∧
    (∀ e r, seen = some e → e.opcode = c.opcode → e.cpl = some r → answered 0x09 r.status r.res0 r.res1 ∧ still) ∧
    (∀ e, seen = some e → e.opcode = c.opcode → e.cpl = none → (t.fn n).inflight = f.inflight ++ [{ c with dup := some c.seq }] ∧
      (t.fn n).waiting = f.waiting ∧ still) ∧
    (seen = none → u.behind n c → answered 0x0A 0 0 0 ∧ still) ∧
    (seen = none → ¬u.behind n c → c.refused n = true → (∀ y ∈ f.inflight, y.dup ≠ some c.seq) → answered 0x08 0 0 0 ∧
      t.fld (Reg.TEN_SEQ n) 0 16 = c.seq) ∧
    (seen = none → ¬u.behind n c → c.refused n = false → (t.fn n).inflight = f.inflight ++ [c] ∧ (t.fn n).waiting = f.waiting ∧
      (t.fn n).hist.getLast? = some { seq := c.seq, opcode := c.opcode } ∧
      (f.hist.length < 64 → (t.fn n).hist = f.hist ++ [{ seq := c.seq, opcode := c.opcode }]) ∧ t.fld (Reg.TEN_SEQ n) 0 16 = c.seq) := by
  intro f seen t answered still
  have hpush {r : Cpl} (hr : r.tag = c.tag) := State.pushCpl_answers (u := u) (c := c) (v := u.entered n c) hn (by rw [u.entered_fn]; exact hflr)
    (by rw [u.entered_fn]) (by rw [u.entered_fn]) hr
  have hstill {r : Cpl} (ht : t = (u.entered n c).pushCpl n r) (hr : r.tag = c.tag) : still := by
    obtain ⟨-, hhist, hseq⟩ := hpush hr
    exact ⟨by rw [ht, hhist, u.entered_fn], by rw [ht, hseq]; rfl⟩
  have hanswer {v : State} {r : Cpl} (ht : t = v.pushCpl n r) (h : ((v.pushCpl n r).fn n).inflight =
      (f.inflight ++ [c]).map (fun y => if y.tag = c.tag then { y with done := true } else y) ∧
      ((v.pushCpl n r).fn n).waiting = f.waiting ++ [r]) :
      (t.fn n).inflight = (f.inflight ++ [c]).map (fun y => if y.tag = c.tag then { y with done := true } else y) ∧
      (t.fn n).waiting = f.waiting ++ [r] := by rwa [ht]
  refine ⟨fun e h hop => ?_, fun e r h hop hr => ?_, fun e h hop hr => ?_, fun h hold => ?_, fun h hnew hrefused hnone => ?_,
    fun h hnew hrefused => ?_⟩
  · have ht : t = _ := State.judgeSeq_reused h hop
    exact ⟨hanswer ht (hpush rfl).1, hstill ht rfl⟩
  · have ht : t = _ := State.judgeSeq_again h hop hr
    exact ⟨hanswer ht (hpush rfl).1, hstill ht rfl⟩
  · have ht : t = _ := State.judgeSeq_waits h hop hr
    have hfn : t.fn n = { f with inflight := f.inflight ++ [{ c with dup := some c.seq }] } := by
      rw [ht, State.fn_setFn, if_pos rfl]
    exact ⟨by rw [hfn], by rw [hfn], by rw [hfn], by rw [ht]; rfl⟩
  · have ht : t = _ := State.judgeSeq_old h hold
    exact ⟨hanswer ht (hpush rfl).1, hstill ht rfl⟩
  · have hnot : ∀ y ∈ ((u.noted n c).fn n).inflight, y.dup ≠ some c.seq := by
      rw [u.noted_fn]
      intro y hy
      rcases List.mem_append.1 hy with hy | hy
      · exact hnone y hy
      · rw [List.mem_singleton.1 hy, hdup]
        exact fun h => nomatch h
    have ht : t = _ := (State.judgeSeq_new h hnew).trans ((if_pos hrefused).trans (State.finishCmd_alone hnot _ 0 0))
    generalize hg : ({ (u.noted n c).fn n with hist := ((u.noted n c).fn n).hist.map fun h =>
      if h.seq = c.seq ∧ h.cpl = none then { h with cpl := some (c.cpl Code.rejectClass 0 0) } else h } : Fn) = g at ht
    have hfn : ((u.noted n c).setFn n g).fn n = g := (State.fn_setFn ..).trans (if_pos rfl)
    obtain ⟨hanswered, -, hseq⟩ := State.pushCpl_answers (u := u) (c := c) (v := (u.noted n c).setFn n g) (r := c.cpl Code.rejectClass 0 0)
      hn (by rw [hfn, ← hg, u.noted_fn]; exact hflr) (by rw [hfn, ← hg, u.noted_fn]) (by rw [hfn, ← hg, u.noted_fn]) rfl
    exact ⟨hanswer ht hanswered, by rw [ht, hseq]; exact u.noted_seq hc⟩
  · have ht : t = u.noted n c := (State.judgeSeq_new h hnew).trans (if_neg (by simp [hrefused]))
    have hfn := u.noted_fn (n := n) c
    refine ⟨by rw [ht, hfn], by rw [ht, hfn], ?_, fun hlen => ?_, by rw [ht, u.noted_seq hc]⟩
    · rw [ht, hfn]
      dsimp only
      rw [List.getLast?_drop, if_neg (by simp), List.getLast?_append]
      rfl
    · rw [ht, hfn]
      dsimp only
      rw [show (f.hist ++ [({ seq := c.seq, opcode := c.opcode } : Hist)]).length - 64 = 0 by simp; omega, List.drop_zero]

end Judge

end Sys2Proof.Machine

/-! O46: a command that is fetched, and the writing of its record (R255, R259). -/

namespace Sys2Proof.Machine

open Sys2Proof

/-! ### The fetch of a command -/

section Fetch
variable {s : State} {n : Nat}

/-- The ring's head has stepped, and a tag has been picked. -/
def State.stepped (s : State) (n : Nat) : State :=
  ({ s with turns := { s.turns with fetch := n } } : State).nextFresh.setFld (Reg.TEN_CMD_HEAD n) 0 12
    ((s.fld (Reg.TEN_CMD_HEAD n) 0 12 + 1) % s.cmdSize n)

theorem State.fetchCmd_picked (hnext : s.nextFetch = some n) {tag : Nat}
    (hpick : pickOf s.fresh ((List.range 4096).filter fun t => !s.tagsHeld.contains t) = some tag) (x : Nat) :
    s.fetchCmd n (some x) = (s.stepped n).judgeSeq n (ofCommand tag x) := by
  have hpick' : pickOf ({ s with turns := { s.turns with fetch := n } } : State).fresh ((List.range 4096).filter fun t =>
    !({ s with turns := { s.turns with fetch := n } } : State).tagsHeld.contains t) = some tag := hpick
  refine (if_neg (not_not.2 hnext)).trans ?_
  simp only [hpick']
  rfl

theorem State.stepped_spec (s : State) (n : Nat) : (s.stepped n).fn n = s.fn n ∧ (s.stepped n).turns.fetch = n ∧
    (s.stepped n).fld (Reg.TEN_SEQ n) 0 16 = s.fld (Reg.TEN_SEQ n) 0 16 ∧ (s.stepped n).fld (Reg.TEN_CMD_HEAD n) 0 12 =
      (s.fld (Reg.TEN_CMD_HEAD n) 0 12 + 1) % 2 ^ s.fld (Reg.TEN_CMD_SIZE n) 0 4 % 2 ^ 12 :=
  ⟨rfl, rfl, (State.fld_of_reg (State.reg_setFld_other _ (by simp) ..) 0 16).trans rfl, State.fld_setFld_same _ _ 0 12 _ (by decide)⟩

/-- A command that is fetched gets a tag that is free, and is answered or enters by its SEQ (R259, R261). -/
theorem commandFetch_takes (hn : n < 512) (hnext : s.nextFetch = some n) (x : Nat) :
    let f := s.fn n
    let h := s.fld (Reg.TEN_CMD_HEAD n) 0 12
    let op := bits x 0 8
    let seq := bits x 16 16
    let back := (s.fld (Reg.TEN_SEQ n) 0 16 + 65536 - seq) % 65536
    let old := f.hist ≠ [] ∧ 1 ≤ back ∧ back ≤ 32767
    let seen := f.hist.find? fun h => decide (h.seq = seq)
    ∃ (t : State) (tag : Nat), exec (.commandFetch n (some x)) s = .next t ∧ t.turns.fetch = n ∧ tag < 4096 ∧ tag ∉ s.tagsHeld ∧
      t.fld (Reg.TEN_CMD_HEAD n) 0 12 = (h + 1) % 2 ^ s.fld (Reg.TEN_CMD_SIZE n) 0 4 % 2 ^ 12 ∧
      let c : Cmd := { tag := tag, opcode := op, flags := bits x 8 8, seq := seq, user := bits x 32 32, param := bits x 64 448 }
      let answered (status orig r0 r1 : Nat) :=
        (t.fn n).inflight = (f.inflight ++ [c]).map (fun y => if y.tag = tag then { y with done := true } else y) ∧
        (t.fn n).waiting = f.waiting ++ [{ c.cpl status r0 r1 with orig := orig }]
      let still := (t.fn n).hist = f.hist ∧ t.fld (Reg.TEN_SEQ n) 0 16 = s.fld (Reg.TEN_SEQ n) 0 16
      (∀ e, seen = some e → e.opcode ≠ op → answered 0x0A 0 0 0 ∧ still) ∧
      (∀ e r, seen = some e → e.opcode = op → e.cpl = some r → answered 0x09 r.status r.res0 r.res1 ∧ still) ∧
      (∀ e, seen = some e → e.opcode = op → e.cpl = none → (t.fn n).inflight = f.inflight ++ [{ c with dup := some seq }] ∧
        (t.fn n).waiting = f.waiting ∧ still) ∧
      (seen = none → old → answered 0x0A 0 0 0 ∧ still) ∧
      (seen = none → ¬old → c.refused n = true → (∀ y ∈ f.inflight, y.dup ≠ some seq) → answered 0x08 0 0 0 ∧
        t.fld (Reg.TEN_SEQ n) 0 16 = seq) ∧
      (seen = none → ¬old → c.refused n = false → (t.fn n).inflight = f.inflight ++ [c] ∧ (t.fn n).waiting = f.waiting ∧
        (t.fn n).hist.getLast? = some { seq := seq, opcode := op } ∧
        (f.hist.length < 64 → (t.fn n).hist = f.hist ++ [{ seq := seq, opcode := op }]) ∧ t.fld (Reg.TEN_SEQ n) 0 16 = seq) := by
  intro f h op seq back old seen
  obtain ⟨hflr, htags⟩ := State.fetched_of_mayFetchCmd (s.nextFetch_may hnext)
  obtain ⟨tag, hpick, hlt, hfree⟩ := State.freeTag htags s.fresh
  obtain ⟨hfn, hturn, hseq, hhead⟩ := s.stepped_spec n
  obtain ⟨u, hu⟩ : ∃ u, u = s.stepped n := ⟨_, rfl⟩
  rw [← hu] at hfn hturn hseq hhead
  have hkept := State.judgeSeq_fetchKept hn u (ofCommand tag x)
  have hspec := State.judgeSeq_spec (u := u) (c := ofCommand tag x) hn (by rw [hfn]; exact hflr) rfl (bits_lt _ 16 16)
  have hbehind : u.behind n (ofCommand tag x) ↔ old := by rw [State.behind, hfn, hseq]; rfl
  rw [hfn, hseq, hbehind] at hspec
  refine ⟨u.judgeSeq n (ofCommand tag x), tag, ?_, ?_, hlt, hfree, ?_, hspec⟩
  · exact (exec_commandFetch s hn _).trans (congrArg _ (hu ▸ State.fetchCmd_picked hnext hpick x))
  · rw [hkept.turns]
    exact hturn
  · exact (State.fld_of_reg hkept.head 0 12).trans hhead

end Fetch

/-! ### The record at TAIL (R255) -/

section Post
variable {s : State} {n : Nat}

/-- A record is written, and TAIL steps with the phase of the next pass. -/
def State.recordSent (p : State) (n a : Nat) (bytes : List Nat) (i phase : Nat) : State :=
  ((p.send (.hostWrite a bytes)).setFld (Reg.TEN_CPL_TAIL n) 0 12 i).setFld (Reg.TEN_CPL_TAIL n) 16 1 (if i = 0 then 1 - phase else phase)

theorem State.recordSent_spec (p : State) (a : Nat) (bytes : List Nat) (i : Nat) {phase : Nat} (hphase : phase < 2) :
    let t := p.recordSent n a bytes i phase
    t.link = p.link ∧ t.out = p.out ++ [.hostWrite a bytes] ∧ t.fld (Reg.TEN_CPL_TAIL n) 0 12 = i % 2 ^ 12 ∧
    t.fld (Reg.TEN_CPL_TAIL n) 16 1 = if i = 0 then 1 - phase else phase := by
  refine ⟨rfl, rfl, (State.fld_setFld_apart _ _ 16 1 _ 0 12 (by decide) (by decide)).trans (State.fld_setFld_same _ _ 0 12 _ (by decide)),
    (State.fld_setFld_same _ _ 16 1 _ (by decide)).trans (Nat.mod_eq_of_lt ?_)⟩
  split <;> omega

theorem State.postRecord_eq (s : State) (n : Nat) (r : Cpl) :
    let i := s.fld (Reg.TEN_CPL_TAIL n) 0 12
    let phase := s.fld (Reg.TEN_CPL_TAIL n) 16 1
    s.postRecord n r = s.leaveL1.recordSent n (s.pair (Reg.TEN_CPL_BASE_L n) (Reg.TEN_CPL_BASE_H n) + 32 * i)
      (bytesLE 32 (recordValue r phase s.tb.now)) ((i + 1) % 2 ^ s.fld (Reg.TEN_CPL_SIZE n) 0 4) phase := by
  intro i phase
  have hw := s.leaveL1_wipe0
  have hreg (k : Nat) : s.leaveL1.reg k = s.reg k := State.reg_of_regs (State.regs_of_wipe hw rfl) k
  have htb : s.leaveL1.tb = s.tb := State.tb_of_wipe hw rfl
  have hsize (a b : Nat) : (s.leaveL1.send (.hostWrite a (bytesLE 32 b))).cplSize n = 2 ^ s.fld (Reg.TEN_CPL_SIZE n) 0 4 :=
    congrArg (2 ^ ·) (State.fld_of_reg (hreg _) 0 4)
  simp only [State.postRecord, hsize, State.pair_of_reg (hreg _) (hreg _), State.fld_of_reg (hreg _), htb]
  rfl

/-- The oldest record that waits is written, with its command and its source (R255, R281). -/
theorem completionWrite_writes (hn : n < 512) {r : Cpl} {rest : List Cpl} (hwait : (s.fn n).waiting = r :: rest)
    (hcan : s.canWrite n = true) (hfree : s.cplFree n = true) :
    let f := s.fn n
    let z := 2 ^ s.fld (Reg.TEN_CPL_SIZE n) 0 4
    let i := s.fld (Reg.TEN_CPL_TAIL n) 0 12
    let ctail := Reg.TEN_CPL_TAIL n
    ∃ (t : State) (before l : List Out), exec (.completionWrite n) s = .next t ∧ t.link.l0 = true ∧
      (s.link.l0 = true → before = []) ∧ t.out = s.out ++ before ++ .hostWrite (s.pair (Reg.TEN_CPL_BASE_L n) (Reg.TEN_CPL_BASE_H n) + 32 * i)
        (bytesLE 32 (recordValue r (s.fld ctail 16 1) s.tb.now)) :: l ∧
      (t.fn n).waiting = rest ∧ (t.fn n).inflight = f.inflight.filter (fun c => !(r.holdsTag && decide (c.tag = r.tag))) ∧
      t.fld ctail 0 12 = (i + 1) % z % 2 ^ 12 ∧ (t.fld ctail 16 1 = if (i + 1) % z = 0 then 1 - s.fld ctail 16 1 else s.fld ctail 16 1) ∧
      (r.kind = 2 → t.srcPend (24 * n + 18) = true) ∧ (r.kind ≠ 2 → r.notify = true → t.srcPend (24 * n + 16) = true) := by
  intro f z i ctail
  obtain ⟨hrest, hleft⟩ := s.writeCpl_cons hn hwait hcan hfree
  obtain ⟨v, hv⟩ : ∃ v, v = s.setFn n { f with
    waiting := rest, inflight := f.inflight.filter fun c => !(r.holdsTag && decide (c.tag = r.tag)) } := ⟨_, rfl⟩
  obtain ⟨w, hw⟩ : ∃ w, w = (v.postRecord n r).updFull n := ⟨_, rfl⟩
  have heq : s.writeCpl n = if r.kind = 2 then w.raisePriv n 18 else if r.notify then w.raisePriv n 16 else w := by
    simp only [State.writeCpl, hwait, hcan, hfree, Bool.true_eq_false, or_self, if_false]
    rw [hw, hv]
  obtain ⟨hl0, before, hbefore, hnone⟩ := v.leaveL1_sends
  obtain ⟨hlink, hout, htail, hphase⟩ := v.leaveL1.recordSent_spec (n := n)
    (v.pair (Reg.TEN_CPL_BASE_L n) (Reg.TEN_CPL_BASE_H n) + 32 * v.fld ctail 0 12)
    (bytesLE 32 (recordValue r (v.fld ctail 16 1) v.tb.now)) ((v.fld ctail 0 12 + 1) % 2 ^ v.fld (Reg.TEN_CPL_SIZE n) 0 4)
    (phase := v.fld ctail 16 1) (bits_lt _ 16 1)
  rw [← v.postRecord_eq n r] at hlink hout htail hphase
  have hvreg (k : Nat) : v.reg k = s.reg k := by rw [hv]; rfl
  have hsends : Sends (v.postRecord n r) (s.writeCpl n) ∧ (s.writeCpl n).reg ctail = (v.postRecord n r).reg ctail := by
    have hpend : ¬(Reg.HVC_PEND 0 ≤ ctail ∧ ctail < Reg.HVC_PEND 512) := by simp only [ctail, Reg.HVC_PEND, Reg.TEN_CPL_TAIL]; omega
    have hfull : Sends (v.postRecord n r) w ∧ w.reg ctail = (v.postRecord n r).reg ctail := by
      rw [hw]
      exact ⟨State.sends_updFull _ n, State.reg_updFull hn (by simp [ctail]) hpend⟩
    rw [heq]
    split
    · exact ⟨hfull.1.trans (w.sends_raise _), (State.raise_reg w (by omega) hpend).trans hfull.2⟩
    split
    · exact ⟨hfull.1.trans (w.sends_raise _), (State.raise_reg w (by omega) hpend).trans hfull.2⟩
    · exact hfull
  obtain ⟨⟨⟨l, hl⟩, hstays⟩, hreg⟩ := hsends
  refine ⟨s.writeCpl n, before, l, exec_completionWrite s hn, hstays (by rw [hlink, hl0]), ?_, ?_, hrest, hleft,
    (State.fld_of_reg hreg 0 12).trans (htail.trans ?_), (State.fld_of_reg hreg 16 1).trans (hphase.trans ?_), fun hk => ?_, fun hk hnotify => ?_⟩
  · intro h
    exact hnone (by rw [hv]; exact h)
  · have htb : v.tb = s.tb := by rw [hv]; rfl
    have hvout : v.out = s.out := by rw [hv]; rfl
    rw [hl, hout, hbefore, hvout, htb, State.pair_of_reg (hvreg _) (hvreg _), State.fld_of_reg (hvreg _), State.fld_of_reg (hvreg _),
      List.append_assoc _ [_] l]
    rfl
  · rw [State.fld_of_reg (hvreg _), State.fld_of_reg (hvreg _)]
  · rw [State.fld_of_reg (hvreg _), State.fld_of_reg (hvreg _), State.fld_of_reg (hvreg _)]
  · rw [heq, if_pos hk]
    exact State.srcPend_raise ..
  · rw [heq, if_neg hk, if_pos hnotify]
    exact State.srcPend_raise ..

end Post

/-- Settles O46: the writes of the rings' registers, the fetcher's turn, the judging of a SEQ and the record at TAIL. -/
theorem commandRings : Obligations.CommandRings := by
  unfold Obligations.CommandRings
  intro s n v hn hv ctrl stat head chead ctail
  refine ⟨fun hten => ?_, fun hnext x => ?_, fun hmay hfirst => State.nextFetch_of_first hn hmay hfirst,
    fun hnext => ⟨commandFetch_fails hn hnext, commandFetch_takes hn hnext⟩, ?_⟩
  · intro d f ok z h i inside slot
    have hctrl := exec_tenRingCtrlWrite s hn hten v
    have hchead : exec (.tenCplHead n v) s = .next (d.writeCplHead n i) :=
      (onUnit_of (decide_eq_true hn) _).trans (congrArg _ (State.ten_of_reach hten (by decide) v _))
    obtain ⟨hin, hout⟩ := d.writeCplHead_spec hn (i := i) (Nat.mod_lt _ (by decide))
    have hsizes : ok (Reg.TEN_CMD_SIZE n) ∧ ok (Reg.TEN_CPL_SIZE n) ↔
        ringLog (d.fld (Reg.TEN_CMD_SIZE n) 0 4) = true ∧ ringLog (d.fld (Reg.TEN_CPL_SIZE n) 0 4) = true :=
      and_congr decide_eq_true_iff.symm decide_eq_true_iff.symm
    refine ⟨fun h0 => ⟨_, hctrl, State.writeRingCtrl_stop h0⟩, fun h1 hon => hctrl.trans (congrArg _ (State.writeRingCtrl_enabled h1 hon)),
      fun h1 hoff hbad => ⟨_, hctrl, State.writeRingCtrl_refused h1 hoff (hsizes.not.1 hbad)⟩, fun h1 hoff hcmd hcpl => ?_, ?_,
      fun h => ⟨_, hchead, hin h⟩, fun h => ⟨_, hchead, hout h⟩⟩
    · obtain ⟨hcmd, hcpl⟩ := hsizes.1 ⟨hcmd, hcpl⟩
      exact ⟨_, hctrl, State.writeRingCtrl_starts h1 hoff hcmd hcpl⟩
    · exact (onUnit_of (decide_eq_true hn) _).trans (congrArg _ (State.ten_of_reach hten (by decide) v _))
  · exact (exec_commandFetch s hn x).trans (congrArg _ (if_pos hnext))
  · intro f z i room may r rest hwait
    refine ⟨fun hnot => ?_, fun hmay hroom => ?_⟩
    · have hwait' : s.writeCpl n = s := by
        simp only [State.writeCpl, show (s.fn n).waiting = r :: rest from hwait]
        refine if_pos ?_
        by_contra hcan
        rw [not_or, Bool.not_eq_false, Bool.not_eq_false] at hcan
        obtain ⟨hcan, hfree⟩ := hcan
        simp only [State.canWrite, Bool.and_eq_true, decide_eq_true_eq] at hcan
        obtain ⟨⟨⟨⟨⟨hringed, hbme⟩, hd0⟩, hup⟩, hoff⟩, hdoze⟩ := hcan
        exact hnot ⟨⟨hringed, hbme, hd0, hup, hoff, hdoze⟩, of_decide_eq_true hfree⟩
      exact (exec_completionWrite s hn).trans (congrArg _ hwait')
    · obtain ⟨hringed, hbme, hd0, hup, hoff, hdoze⟩ := hmay
      have hcan : s.canWrite n = true := by
        simp only [State.canWrite, Bool.and_eq_true, decide_eq_true_eq]
        exact ⟨⟨⟨⟨⟨hringed, hbme⟩, hd0⟩, hup⟩, hoff⟩, hdoze⟩
      exact completionWrite_writes hn hwait hcan (decide_eq_true hroom)

end Sys2Proof.Machine

/-! What the judging of actions leaves of the cuffs and of the queues (R93-R95, R121): of a cuff all but its FIFO, of a queue its class
and its target. -/

namespace Sys2Proof.Machine

open Sys2Proof

/-- The class and the target of a queue. -/
def Queue.bound (x : Queue) : Nat × Nat × Nat := (x.cls, x.ttype, x.target)

/-- Of every cuff at most the FIFO changes, and every queue keeps its class and its target. -/
structure JudgeKept (s t : State) : Prop where
  cuff : ∀ c, ∃ l, t.cuff c = { s.cuff c with fifo := l }
  bound : ∀ q, (t.queue q).bound = (s.queue q).bound

section Rules
variable {s t u : State}

theorem JudgeKept.of_eq (hcuffs : t.cuffs = s.cuffs) (hqueues : t.queues = s.queues) : JudgeKept s t :=
  ⟨fun c => ⟨(s.cuff c).fifo, by rw [State.cuff, hcuffs]; rfl⟩, fun q => by rw [State.queue, hqueues]; rfl⟩

theorem JudgeKept.of_wipe {m : Nat} (e : t.wipe m = s.wipe m) (hc : m.testBit 13 = false) (hq : m.testBit 17 = false) : JudgeKept s t :=
  .of_eq (State.cuffs_of_wipe e hc) (State.queues_of_wipe e hq)

theorem JudgeKept.refl (s : State) : JudgeKept s s := .of_eq rfl rfl

theorem JudgeKept.trans (h : JudgeKept s t) (g : JudgeKept t u) : JudgeKept s u where
  cuff c := by
    obtain ⟨l, hl⟩ := h.cuff c
    obtain ⟨l', hl'⟩ := g.cuff c
    exact ⟨l', by rw [hl', hl]⟩
  bound q := (g.bound q).trans (h.bound q)

theorem JudgeKept.foldl {α : Type} {g : State → α → State} (h : ∀ s x, JudgeKept s (g s x)) (l : List α) (s : State) :
    JudgeKept s (l.foldl g s) := List.foldlRecOn (motive := JudgeKept s) l _ (.refl s) fun _ hu x _ => hu.trans (h _ x)

theorem JudgeKept.ite {c : Prop} [Decidable c] (h : c → JudgeKept s t) (g : ¬c → JudgeKept s u) : JudgeKept s (if c then t else u) :=
  iteInduction (motive := JudgeKept s) h g

theorem JudgeKept.ite_fst {c : Prop} [Decidable c] {p r : State × Bool} (h : c → JudgeKept s p.1) (g : ¬c → JudgeKept s r.1) :
    JudgeKept s (if c then p else r).1 := iteInduction (motive := fun x : State × Bool => JudgeKept s x.1) h g

variable (s)

theorem State.setQueue_judgeKept (q : Nat) {y : Queue} (hy : y.bound = (s.queue q).bound) : JudgeKept s (s.setQueue q y) where
  cuff c := ⟨(s.cuff c).fifo, rfl⟩
  bound p := by
    rw [State.queue_setQueue]
    split
    · next e => rw [e, hy]
    · rfl

theorem State.setCuff_judgeKept (c : Nat) (l : List Flight) : JudgeKept s (s.setCuff c { s.cuff c with fifo := l }) where
  cuff c' := by
    rw [State.cuff_setCuff]
    split
    · next e => exact ⟨l, by rw [e]⟩
    · exact ⟨_, rfl⟩
  bound _ := rfl

theorem State.stopQueue_judgeKept (q code : Nat) : JudgeKept s (s.stopQueue q code) :=
  JudgeKept.trans (t := s.setQueue q { s.queue q with state := QState.stopped, err := code }) (s.setQueue_judgeKept q rfl) (.of_eq rfl rfl)

theorem State.setN_judgeKept (k v : Nat) : JudgeKept s (s.setN k v) := .of_eq rfl rfl

theorem State.raise_judgeKept (id : Nat) : JudgeKept s (s.raise id) := .of_wipe (State.raise_wipe0 ..) rfl rfl

/-! ### Records, errors and votes -/

theorem State.logRecord_judgeKept (q v mb : Nat) : JudgeKept s (s.logRecord q v mb) := by
  have hmiss : JudgeKept s (s.setQueue q { s.queue q with miss := true }) := s.setQueue_judgeKept q rfl
  have hdesc (w : State) : JudgeKept w (w.descFault q) := by
    refine (w.stopQueue_judgeKept q _).trans (.of_wipe ((State.raise_wipe _ _ 4123168604178 (by decide)).trans
      ((State.dataEcc_wipe _ _ (by decide)).trans (State.pgErr_wipe _ _ _ _ (by decide)))) rfl rfl)
  simp only [State.logRecord]
  split
  · exact .refl s
  split
  · exact hmiss.trans (hdesc _)
  split
  · exact hmiss
  split
  · exact (s.setQueue_judgeKept q (y := { s.queue q with miss := true, err := Code.queueFull }) rfl).trans (.of_eq rfl rfl)
  split
  · next u w e =>
    have hw : JudgeKept s w := .of_wipe (s.slabWrite_ok_wipe e) rfl rfl
    exact hw.trans (w.setQueue_judgeKept q (hw.bound q).symm)
  · next c w e =>
    have hw : JudgeKept s w := .of_wipe (s.slabWrite_bad_wipe e) rfl rfl
    refine ((hw.trans (w.setQueue_judgeKept q (y := { w.queue q with miss := true }) rfl)).trans (State.stopQueue_judgeKept _ q c)).trans ?_
    exact .of_wipe (State.faultRecord_wipe0 ..) rfl rfl

theorem State.execRecord_judgeKept (a : Action) (o : Origin) (status time : Nat) : JudgeKept s (s.execRecord a o status time) := by
  unfold State.execRecord
  split
  · exact .refl s
  · exact s.logRecord_judgeKept ..

theorem State.cufErr_judgeKept (c b : Nat) : JudgeKept s (s.cufErr c b) :=
  .of_wipe ((State.raise_wipe _ _ 4123168604178 (by decide)).trans (State.setBit_wipe _ _ _ _ _ (by decide))) rfl rfl

theorem State.relRecord_judgeKept (sev code kind block inst addr : Nat) : JudgeKept s (s.relRecord sev code kind block inst addr) :=
  .of_wipe (State.relRecord_wipe0 ..) rfl rfl

theorem State.countLate_judgeKept (f : Flight) : JudgeKept s (s.countLate f) := by
  have hcount : JudgeKept s (s.incSat Reg.SCH_LATE_CNT 0 32) := s.setN_judgeKept ..
  simp only [State.countLate]
  split
  · exact (((hcount.trans (State.setN_judgeKept ..)).trans (State.relRecord_judgeKept ..)).trans (State.raise_judgeKept ..))
  · exact hcount

theorem State.refuseAt_judgeKept (f : Flight) (err : Nat) : JudgeKept s (s.refuseAt f err) := by
  have herr : JudgeKept s (if f.ttype = 1 ∨ f.ttype = 2 then s.cufErr (serveCuff f.ttype f.target) err else s) :=
    .ite (fun _ => s.cufErr_judgeKept ..) fun _ => .refl s
  simp only [State.refuseAt]
  exact .ite (fun _ => herr.trans (State.execRecord_judgeKept ..)) fun _ => herr

theorem State.startRebuild_judgeKept (x : Nat) : JudgeKept s (s.startRebuild x) := by
  have htake (w : State) (y : Nat) : JudgeKept w (w.takeSpare y x) := .of_eq rfl rfl
  simp only [State.startRebuild]
  split
  · exact .refl s
  · exact (s.setN_judgeKept ..).trans (htake ..)

/-- A lost vote, counted and noted, before a third one marks the tray. -/
theorem State.voteLost_judgeKept (x : Nat) (votes : Tbl (List Nat)) (n : Nat) :
    JudgeKept s (({ ((s.relRecord 1 Code.voteLost 4 0x21 x 0).trayPulse x 6).incSat (Reg.ADM_VOTE x) 16 16 with
      votes := votes } : State).setFld (Reg.ADM_VOTE x) 0 2 n) := by
  have hset (v : State) : JudgeKept v { v with votes := votes } := .of_eq rfl rfl
  have hpulse (v : State) : JudgeKept v (v.trayPulse x 6) := .of_wipe (v.trayPulse_wipe0 x 6) rfl rfl
  exact ((((s.relRecord_judgeKept ..).trans (hpulse _)).trans (State.setN_judgeKept ..)).trans (hset _)).trans (State.setN_judgeKept ..)

theorem State.loseVote_judgeKept (x : Nat) : JudgeKept s (s.loseVote x) := by
  unfold State.loseVote
  dsimp only
  split
  · exact s.voteLost_judgeKept ..
  · exact (((s.voteLost_judgeKept ..).trans (State.setN_judgeKept ..)).trans (State.raise_judgeKept ..)).trans (State.startRebuild_judgeKept ..)

theorem State.closeVote_judgeKept (ttype target : Nat) (f : Flight) : JudgeKept s (s.closeVote ttype target f) := by
  simp only [State.closeVote]
  split
  · exact .refl s
  · exact JudgeKept.trans (.foldl (fun v i => v.loseVote_judgeKept _) _ s) (.of_eq rfl rfl)

/-! ### The FIFOs -/

theorem State.setTargetFifo_judgeKept (ttype target : Nat) (l : List Flight) : JudgeKept s (s.setTargetFifo ttype target l) := by
  unfold State.setTargetFifo
  split
  · exact s.setCuff_judgeKept ..
  · exact .of_eq rfl rfl

theorem State.unkeep_judgeKept (f : Flight) : JudgeKept s (s.unkeep f) := by
  simp only [State.unkeep]
  exact .ite (fun _ => .of_eq rfl rfl) fun _ => .refl s

theorem State.popFifo_judgeKept (ttype target : Nat) : JudgeKept s (s.popFifo ttype target) := by
  unfold State.popFifo
  split
  · exact (s.unkeep_judgeKept _).trans (State.setTargetFifo_judgeKept ..)
  · exact (s.unkeep_judgeKept _).trans (State.setTargetFifo_judgeKept ..)
  · exact s.setTargetFifo_judgeKept ..

theorem State.withdraw_judgeKept (p : Flight → Bool) : JudgeKept s (s.withdraw p) := by
  have hvoter (v : State) (k : Nat) (y : Voter) : JudgeKept v (v.setVoter k y) := .of_eq rfl rfl
  have hfifo (v : State) (k : Nat) (l : List Flight) : JudgeKept v (v.setFifo k l) := .of_eq rfl rfl
  simp only [State.withdraw]
  refine JudgeKept.trans ?_ (.foldl (fun v k => hvoter v k _) _ _)
  refine JudgeKept.trans ?_ (.foldl (fun v k => hfifo v k _) _ _)
  exact JudgeKept.trans (t := { s with refs := s.refs.filter fun r => !p r.fl }) (.of_eq rfl rfl) (.foldl (fun v c => v.setCuff_judgeKept c _) _ _)

theorem State.recall_judgeKept (q : Nat) (first : Option Flight) : JudgeKept s (s.recall q first) := by
  have hback (d : Queue) (fs : List Flight) : (d.setBack fs).bound = d.bound := by
    simp only [Queue.setBack]
    split <;> rfl
  exact (s.withdraw_judgeKept _).trans (State.setQueue_judgeKept _ q (hback ..))

theorem State.lateFault_judgeKept (f : Flight) : JudgeKept s (s.lateFault f) := by
  have hexec := s.execRecord_judgeKept f.act f.org Code.queueLate s.tb.now
  unfold State.lateFault
  dsimp only
  split
  · exact ((hexec.trans (State.recall_judgeKept ..)).trans (State.stopQueue_judgeKept ..)).trans (.of_wipe (State.faultRecord_wipe0 ..) rfl rfl)
  · exact hexec

/-! ### The head of a FIFO -/

/-- The head of a FIFO that is judged late. -/
theorem State.lateHead_judgeKept (ttype target : Nat) (f : Flight) (l : List Flight) :
    JudgeKept s (if s.policy f = 2 then ((s.popFifo ttype target).execRecord f.act f.org Code.lateDropped s.tb.now, true)
      else if s.policy f = 3 then ((s.popFifo ttype target).lateFault f, true) else (s.setTargetFifo ttype target l, false)).1 :=
  .ite_fst (fun _ => (s.popFifo_judgeKept ..).trans (State.execRecord_judgeKept ..)) fun _ =>
    .ite_fst (fun _ => (s.popFifo_judgeKept ..).trans (State.lateFault_judgeKept ..)) fun _ => s.setTargetFifo_judgeKept ..

theorem State.judgeHead_judgeKept (ttype target : Nat) : JudgeKept s (s.judgeHead ttype target).1 := by
  simp only [State.judgeHead]
  split
  · exact .refl s
  next f rest hfifo =>
  refine .ite_fst (fun _ => .refl s) fun _ => (s.closeVote_judgeKept f.ttype f.target f).trans ?_
  generalize s.closeVote f.ttype f.target f = u
  refine .ite_fst (fun _ => u.setTargetFifo_judgeKept ..) fun _ => .ite_fst (fun _ => ?_) fun _ => ?_
  · split
    · exact ((u.setTargetFifo_judgeKept ..).trans (State.relRecord_judgeKept ..)).trans (State.cufErr_judgeKept ..)
    · exact ((u.popFifo_judgeKept ..).trans (State.relRecord_judgeKept ..)).trans (State.cufErr_judgeKept ..)
  have hpop := u.popFifo_judgeKept ttype target
  refine .ite_fst (fun _ => hpop.trans (State.refuseAt_judgeKept ..)) fun _ =>
    .ite_fst (fun _ => hpop.trans (State.refuseAt_judgeKept ..)) fun _ => .ite_fst (fun _ => ?_) fun _ => ?_
  · exact .ite_fst (fun _ => .ite (fun _ => hpop.trans (State.execRecord_judgeKept ..)) fun _ => hpop) fun _ => .refl u
  refine .ite_fst (fun _ => u.setTargetFifo_judgeKept ..) fun _ => ?_
  refine JudgeKept.trans (t := if f.late then u else u.countLate f) (.ite (fun _ => .refl u) fun _ => u.countLate_judgeKept f) ?_
  generalize (if f.late then u else u.countLate f) = w
  refine JudgeKept.trans (t := if !u.isTimed f && u.stretches f then w.cufErr (serveCuff f.ttype f.target) 0 else w)
    (.ite (fun _ => w.cufErr_judgeKept ..) fun _ => .refl w) ?_
  exact State.lateHead_judgeKept ..

theorem State.judgeFifo_judgeKept (ttype target : Nat) : JudgeKept s (s.judgeFifo ttype target) := by
  have hjudge (n : Nat) : ∀ u : State, JudgeKept u (u.judge ttype target n) := by
    induction n with
    | zero => exact fun u => .refl u
    | succ n ih =>
      intro u
      rw [State.judge]
      split
      · exact (u.judgeHead_judgeKept ..).trans (ih _)
      · exact u.judgeHead_judgeKept ..
  exact hjudge 9 s

theorem State.rejudge_judgeKept (ttype target : Nat) : JudgeKept s (s.rejudge ttype target) := by
  unfold State.rejudge
  split
  · exact .refl s
  · exact (s.setTargetFifo_judgeKept ..).trans (State.judgeFifo_judgeKept ..)

theorem State.judgeAll_judgeKept : JudgeKept s s.judgeAll :=
  (JudgeKept.foldl (fun t _ => t.judgeFifo_judgeKept ..) _ s).trans (.foldl (fun t _ => t.judgeFifo_judgeKept ..) _ _)

theorem State.rejudgeAll_judgeKept : JudgeKept s s.rejudgeAll :=
  (JudgeKept.foldl (fun t _ => t.rejudge_judgeKept ..) _ s).trans (.foldl (fun t _ => t.rejudge_judgeKept ..) _ _)

end Rules

end Sys2Proof.Machine

/-! O49: NOP, and creating, freeing and controlling a queue by command (R82, R83, R99, R100, R102, R262). -/

namespace Sys2Proof.Machine

open Sys2Proof

/-! ### How a command completes (R260, R261) -/

/-- A command's completion by its result. -/
theorem ends_of {i : Instr} {s t : State} {n code r0 r1 : Nat} {c : Cmd} {r : CmdRes}
    (h : exec i s = .next (r.st.finishCmd n c r.code r.r0 r.r1)) (heq : r = ⟨t, code, r0, r1⟩) :
    exec i s = .next (t.finishCmd n c code r0 r1) := by
  subst heq
  exact h

section Finish
variable {s : State} {n : Nat}

/-- The records of the duplicates follow, and history stays. -/
theorem State.pushDuplicates_fn (r : Cpl) (l : List Cmd) : ∀ u : State, (u.fn n).flr = false →
    ((l.foldl (fun s d => s.pushCpl n (d.duplicate r)) u).fn n).waiting = (u.fn n).waiting ++ l.map (Cmd.duplicate · r) ∧
    ((l.foldl (fun s d => s.pushCpl n (d.duplicate r)) u).fn n).hist = (u.fn n).hist := by
  induction l with
  | nil => exact fun u _ => ⟨(List.append_nil _).symm, rfl⟩
  | cons d l ih =>
    intro u hflr
    obtain ⟨b, hfn⟩ := State.pushCpl_fn hflr (d.duplicate r)
    obtain ⟨hwait, hhist⟩ := ih (u.pushCpl n (d.duplicate r)) (by rw [hfn]; exact hflr)
    rw [List.foldl_cons, hwait, hhist, hfn]
    exact ⟨by rw [List.map_cons, List.append_assoc]; rfl, rfl⟩

/-- A command that completes: its record and those of its duplicates wait, and the history keeps its completion (R261). -/
theorem State.finishCmd_fn (hflr : (s.fn n).flr = false) (c : Cmd) (status r0 r1 : Nat) :
    let f := s.fn n
    let r := c.cpl status r0 r1
    let dups := f.inflight.filter fun d => !d.done && decide (d.dup = some c.seq)
    let t := s.finishCmd n c status r0 r1
    (t.fn n).waiting = f.waiting ++ r :: dups.map (Cmd.duplicate · r) ∧
    (dups = [] → (t.fn n).inflight = f.inflight.map fun d => if d.tag = c.tag then { d with done := true } else d) ∧
    (t.fn n).hist = f.hist.map (fun h => if h.seq = c.seq ∧ h.cpl = none then { h with cpl := some r } else h) := by
  intro f r dups t
  obtain ⟨v, hv⟩ : ∃ v, v = s.setFn n { f with hist := f.hist.map fun h =>
    if h.seq = c.seq ∧ h.cpl = none then { h with cpl := some r } else h } := ⟨_, rfl⟩
  have hvfn : v.fn n = { f with hist := f.hist.map fun h => if h.seq = c.seq ∧ h.cpl = none then { h with cpl := some r } else h } := by
    rw [hv, State.fn_setFn, if_pos rfl]
  have ht : t = dups.foldl (fun s d => s.pushCpl n (d.duplicate r)) (v.pushCpl n r) := by
    have hdups : (v.fn n).inflight.filter (fun d => !d.done && decide (d.dup = some c.seq)) = dups := by rw [hvfn]
    rw [← hdups, hv]
    rfl
  obtain ⟨b, hfn⟩ := State.pushCpl_fn (s := v) (n := n) (by rw [hvfn]; exact hflr) r
  obtain ⟨hwait, hhist⟩ := State.pushDuplicates_fn (n := n) r dups (v.pushCpl n r) (by rw [hfn, hvfn]; exact hflr)
  refine ⟨?_, fun hnone => ?_, ?_⟩
  · rw [ht, hwait, hfn, hvfn, List.append_assoc]
    rfl
  · rw [ht, hnone, List.foldl_nil, hfn, hvfn]
    rfl
  · rw [ht, hhist, hfn, hvfn]

/-- A command that runs is of a function without an FLR. -/
theorem State.flr_of_ready {tag op : Nat} {c : Cmd} {sub : Nat → Bool} (h : s.ready tag op sub = some (n, c)) : (s.fn n).flr = false := by
  have hopen : s.gateOpen n = true := by
    rw [State.ready] at h
    split at h
    · split at h
      · next hgate =>
        obtain ⟨rfl, -⟩ := Prod.mk.inj (Option.some.inj h)
        simp only [Bool.and_eq_true] at hgate
        exact hgate.1.1.1
      · exact nomatch h
    · exact nomatch h
  simp only [State.gateOpen, Bool.and_eq_true, Bool.not_eq_true'] at hopen
  exact hopen.1.1.1.2

end Finish

/-! ### The codes of a refusal -/

/-- The first code that is not OK. -/
theorem firstCode_cons (a : Nat) (l : List Nat) : firstCode (a :: l) = if a ≠ Code.ok then a else firstCode l := by
  unfold firstCode
  rw [List.find?_cons]
  split <;> simp_all

/-! ### QUEUE_CREATE (R82, R83, R262) -/

/-- What the table holds for a key that does not read as the default. -/
theorem mem_of_get_ne {α : Type} {d : α} {t : Tbl α} {i : Nat} (h : Tbl.get d t i ≠ d) : (i, Tbl.get d t i) ∈ t := by
  induction t with
  | nil => exact absurd rfl h
  | cons e r ih =>
    rw [Tbl.get] at h ⊢
    split
    · next he => exact he ▸ List.mem_cons_self
    · next he =>
      rw [if_neg he] at h
      exact List.mem_cons_of_mem _ (ih h)

theorem nthFree_of_lt {l : List Nat} {j : Nat} (h : ∀ k ∈ l, j < k) : nthFree l j = j := by
  induction l with
  | nil => rfl
  | cons k l ih =>
    have hk : ¬k ≤ j := Nat.not_le.2 (h k List.mem_cons_self)
    rw [nthFree, List.foldl_cons, if_neg hk]
    exact ih fun k' hk' => h k' (List.mem_cons_of_mem _ hk')

/-- A free number is none of the rising keys, and at most as many past the pick as there are keys. -/
theorem nthFree_spec {l : List Nat} (h : l.Pairwise (· < ·)) (j : Nat) : nthFree l j ∉ l ∧ j ≤ nthFree l j ∧ nthFree l j ≤ j + l.length := by
  induction l generalizing j with
  | nil => exact ⟨List.not_mem_nil, Nat.le_refl _, Nat.le_refl _⟩
  | cons k l ih =>
    obtain ⟨hall, hrest⟩ := List.pairwise_cons.1 h
    by_cases hk : k ≤ j
    · have hstep : nthFree (k :: l) j = nthFree l (j + 1) := by rw [nthFree, List.foldl_cons, if_pos hk]; rfl
      obtain ⟨hnot, hlow, hhigh⟩ := ih hrest (j + 1)
      rw [hstep, List.length_cons]
      refine ⟨fun hmem => ?_, by omega, by omega⟩
      rcases List.mem_cons.1 hmem with he | he
      · omega
      · exact hnot he
    · have hlow : ∀ m ∈ k :: l, j < m := fun m hm => by
        rcases List.mem_cons.1 hm with he | he
        · omega
        · have := hall m he
          omega
      rw [nthFree_of_lt hlow]
      exact ⟨fun hmem => Nat.lt_irrefl _ (hlow j hmem), Nat.le_refl _, Nat.le_add_right ..⟩

/-- A queue ID that no live queue has. -/
theorem State.freeQueueId_spec {s : State} (hrise : s.queues.Pairwise (fun a b => a.1 < b.1))
    (hroom : (s.queues.filter fun e => decide (e.2.state ≠ QState.free)).length < 2 ^ 20) :
    ∃ j, s.freeQueueId = some j ∧ j < 2 ^ 20 ∧ (s.queue j).state = QState.free := by
  obtain ⟨used, hused⟩ : ∃ used, used = (s.queues.filter fun e => decide (e.2.state ≠ QState.free)).map (·.1) := ⟨_, rfl⟩
  have hlen : used.length < 1048576 := by rw [hused, List.length_map]; exact hroom
  have hpair : used.Pairwise (· < ·) := by rw [hused, List.pairwise_map]; exact List.Pairwise.filter _ hrise
  obtain ⟨hnot, -, hle⟩ := nthFree_spec hpair (Config.pick s.fresh % (1048576 - used.length))
  have hpick : Config.pick s.fresh % (1048576 - used.length) < 1048576 - used.length := Nat.mod_lt _ (by omega)
  refine ⟨nthFree used (Config.pick s.fresh % (1048576 - used.length)), ?_, ?_, ?_⟩
  · rw [hused] at hlen ⊢
    exact if_neg (Nat.not_le.2 hlen)
  · generalize nthFree used (Config.pick s.fresh % (1048576 - used.length)) = j at hle
    omega
  · generalize nthFree used (Config.pick s.fresh % (1048576 - used.length)) = j at hnot
    by_contra hlive
    refine hnot ?_
    rw [hused]
    have hmem : (j, s.queue j) ∈ s.queues := mem_of_get_ne fun he => hlive (by rw [State.queue, he])
    exact List.mem_map.2 ⟨_, List.mem_filter.2 ⟨hmem, decide_eq_true hlive⟩, rfl⟩

section Create
variable {s : State} {n p : Nat}

/-- The code of a LOGQ (R262). -/
theorem State.logCode_eq (on : Bool) (q : Nat) : s.logCode n on q = if on = false then Code.ok
    else if (s.queue q).state = QState.free then Code.rejectClass else if (s.queue q).tenant ≠ n then Code.rejectQuota
    else if (s.queue q).ttype ≠ 0 then Code.rejectClass else Code.ok := by
  have hclass : Code.rejectClass ≠ Code.ok := by decide
  have hquota : Code.rejectQuota ≠ Code.ok := by decide
  unfold State.logCode State.queueCode
  by_cases hon : on = false
  · simp only [if_pos hon]
  by_cases hfree : (s.queue q).state = QState.free
  · simp only [if_neg hon, if_pos hfree, if_pos hclass]
  by_cases hten : (s.queue q).tenant ≠ n
  · simp only [if_neg hon, if_neg hfree, if_pos hten, if_pos hquota]
  · simp only [if_neg hon, if_neg hfree, if_neg hten]
    rfl

/-- What refuses a QUEUE_CREATE. -/
abbrev State.createCodes (s : State) (n p : Nat) : List Nat :=
  [if ringFits (bits p 0 32) (bits p 32 8) ∧ bits p 64 2 ≠ 0 then Code.ok else Code.rejectClass,
    s.newTargetCode n (bits p 40 3) (bits p 48 12), s.logCode n (bitAt p 127) (bits p 96 20),
    if s.quotaFits n 0 1 then Code.ok else Code.rejectQuota]

theorem State.queueCreate_refused {code : Nat} (h : firstCode (s.createCodes n p) = code) (hne : code ≠ Code.ok) :
    s.queueCreate n p = s.refuse code := by
  rw [State.queueCreate]
  exact (if_pos (h.symm ▸ hne)).trans (congrArg s.refuse h)

/-- The descriptor of a new queue. -/
abbrev newQueue (n p : Nat) : Queue :=
  { base := bits p 0 32 / 16, log2 := bits p 32 8, late := bits p 64 2, ttype := bits p 40 3, target := bits p 48 12, tenant := n,
    state := QState.run, logq := if bitAt p 127 then bits p 96 20 else 0, logen := bitAt p 127 }

theorem State.queueCreate_made {j : Nat} (h : firstCode (s.createCodes n p) = Code.ok) (hfree : s.freeQueueId = some j) :
    s.queueCreate n p = { st := (s.nextFresh.goodDesc j).setQueue j (newQueue n p), r0 := j } := by
  rw [State.queueCreate]
  refine (if_neg (by rw [h]; simp)).trans ?_
  rw [hfree]

end Create

/-! ### Contracts (R119) -/

section Contracts
variable (s : State)

/-- Contexts become guarded, or are so no longer; nothing else changes. -/
theorem State.setGuarded_spec (cs : List Nat) (b : Bool) : (∀ c ∈ cs, ((s.setGuarded cs b).ctx c).guarded = b) ∧
    s.setGuarded cs b = { s with ctxs := (s.setGuarded cs b).ctxs } := by
  have hfold (g : List Nat) (l : List Nat) : ∀ u : State,
      (∀ c, c ∈ l ∨ (u.ctx c).guarded = b →
        ((l.foldl (fun s c => s.setCtx c { s.ctx c with guarded := b, slots := if b then g else [] }) u).ctx c).guarded = b) ∧
      l.foldl (fun s c => s.setCtx c { s.ctx c with guarded := b, slots := if b then g else [] }) u =
        { u with ctxs := (l.foldl (fun s c => s.setCtx c { s.ctx c with guarded := b, slots := if b then g else [] }) u).ctxs } := by
    induction l with
    | nil => exact fun u => ⟨fun c hc => hc.resolve_left List.not_mem_nil, rfl⟩
    | cons k l ih =>
      intro u
      obtain ⟨hin, hframe⟩ := ih (u.setCtx k { u.ctx k with guarded := b, slots := if b then g else [] })
      refine ⟨fun c hc => hin c ?_, hframe⟩
      rw [State.ctx_setCtx]
      by_cases hk : c = k
      · rw [if_pos hk]
        exact .inr rfl
      · rw [if_neg hk]
        exact hc.imp_left fun h => (List.mem_cons.1 h).resolve_left hk
  obtain ⟨hin, hframe⟩ := hfold cs cs s
  exact ⟨fun c hc => hin c (.inl hc), hframe⟩

/-- A contract that is released leaves its queue untimed, and the triple of a guarded context unguarded. -/
theorem State.releaseContract_spec (q : Nat) : let t := s.releaseContract q
    t.queue q = { s.queue q with contract := none, cls := 0 } ∧ (∀ j, j ≠ q → t.queue j = s.queue j) ∧
    ((s.queue q).cls = 2 → (s.queue q).ttype = 5 → ∀ c ∈ s.triple (s.queue q).target, (t.ctx c).guarded = false) ∧
    t = { s with queues := t.queues, ctxs := t.ctxs } := by
  intro t
  obtain ⟨v, hv⟩ : ∃ v, v = if (s.queue q).cls = 2 ∧ (s.queue q).ttype = 5 then s.setGuarded (s.triple (s.queue q).target) false else s :=
    ⟨_, rfl⟩
  have ht : t = v.setQueue q { s.queue q with contract := none, cls := 0 } := by rw [hv]; rfl
  obtain ⟨hguard, hframe⟩ := s.setGuarded_spec (s.triple (s.queue q).target) false
  have hvframe : v = { s with ctxs := v.ctxs } := by
    rw [hv]
    split
    · exact hframe
    · rfl
  have hvqueue : v.queues = s.queues := (congrArg State.queues hvframe).trans rfl
  refine ⟨by rw [ht, State.queue_setQueue, if_pos rfl], fun j hj => ?_, fun hcls htt c hc => ?_, ?_⟩
  · rw [ht, State.queue_setQueue, if_neg hj]
    exact State.queue_of_queues hvqueue j
  · have hctx : t.ctx c = v.ctx c := by rw [ht]; rfl
    rw [hctx, hv, if_pos ⟨hcls, htt⟩]
    exact hguard c hc
  · have hctxs : t.ctxs = v.ctxs := by rw [ht]; rfl
    have hset : t = { v with queues := t.queues } := by rw [ht]; rfl
    rw [hctxs]
    generalize t.queues = y at hset
    rw [hset]
    generalize v.ctxs = z at hvframe
    rw [hvframe]

end Contracts

/-! ### QUEUE_FREE (R102, R119) -/

section Free
variable {s : State} {n q : Nat}

theorem State.queueFree_refused {p code : Nat}
    (h : firstCode [s.queueCode n (bits p 0 20), if s.loggedTo (bits p 0 20) then Code.rejectClass else Code.ok] = code) (hne : code ≠ Code.ok) :
    s.queueFree n p = s.refuse code := by
  rw [State.queueFree]
  exact (if_pos (h.symm ▸ hne)).trans (congrArg s.refuse h)

theorem State.queueFree_freed {p : Nat}
    (h : firstCode [s.queueCode n (bits p 0 20), if s.loggedTo (bits p 0 20) then Code.rejectClass else Code.ok] = Code.ok) :
    s.queueFree n p = { st := s.freeQueue (bits p 0 20) } := by
  rw [State.queueFree]
  exact if_neg (by rw [h]; simp)

/-- The abort state of a queue (R102). -/
theorem State.abortQueue_spec (s : State) (q : Nat) : let w := s.abortQueue q
    (∀ j, j ≠ q → w.queue j = s.queue j) ∧ (w.queue q).bound = (s.queue q).bound ∧ (∀ r ∈ w.refs, r.fl.ofQueue q = false) ∧
    (∀ i, q ∉ (w.seamOf i).members) ∧ (∀ r, r ≠ Reg.QM_LASTERR → r ≠ Reg.SCH_STATUS → w.reg r = s.reg r) ∧
    w = { s with regs := w.regs, cuffs := w.cuffs, voters := w.voters, queues := w.queues, refs := w.refs, seams := w.seams,
                 fifos := w.fifos } := by
  intro w
  obtain ⟨hout, hreg, -⟩ := s.unarrive_spec q
  have hu := s.unarrive_wipe0 q
  obtain ⟨v, hv⟩ : ∃ v, v = (s.unarrive q).withdraw (·.ofQueue q) := ⟨_, rfl⟩
  have hvw : v.wipe 1384448 = (s.unarrive q).wipe 1384448 := hv ▸ State.withdraw_wipe _ _
  obtain ⟨x, hx⟩ : ∃ x, x = v.stopQueue q Code.aborted := ⟨_, rfl⟩
  have hxw : x.wipe 131088 = v.wipe 131088 := hx ▸ State.stopQueue_wipe0 ..
  obtain ⟨y, hw⟩ : ∃ y : Queue, y.bound = (s.queue q).bound ∧ w = x.setQueue q y := by
    refine ⟨{ x.queue q with head := (x.queue q).tail, heldDb := none }, ?_, by rw [hx, hv]; rfl⟩
    have hqueue : x.queue q = { v.queue q with state := QState.stopped, err := Code.aborted } := by
      rw [hx, State.queue_stopQueue, if_pos rfl]
    have hsame : v.queue q = s.queue q := State.queue_of_queues ((State.queues_of_wipe hvw rfl).trans (State.queues_of_wipe hu rfl)) q
    rw [hqueue, hsame]
    rfl
  obtain ⟨hy, hw⟩ := hw
  have hvq (j : Nat) : v.queue j = s.queue j := State.queue_of_queues ((State.queues_of_wipe hvw rfl).trans (State.queues_of_wipe hu rfl)) j
  have hstop (j : Nat) (hj : j ≠ q) : x.queue j = v.queue j := by rw [hx, State.queue_stopQueue, if_neg hj]
  have hframe : w.wipe 2039824 = s.wipe 2039824 := by
    rw [hw, State.setQueue_wipe _ _ _ _ (by decide), State.wipe_mono hxw (by decide), State.wipe_mono hvw (by decide)]
    exact State.wipe_mono hu (by decide)
  refine ⟨fun j hj => ?_, ?_, fun r hr => ?_, fun i => ?_, fun r h1 h2 => ?_, ?_⟩
  · rw [hw, State.queue_setQueue, if_neg hj, hstop j hj, hvq]
  · rw [hw, State.queue_setQueue, if_pos rfl, hy]
  · have hrefs : w.refs = x.refs := by rw [hw]; rfl
    rw [hrefs, State.refs_of_wipe hxw rfl, hv, State.withdraw_refs] at hr
    simpa using (List.mem_filter.1 hr).2
  · have hseams : w.seams = (s.unarrive q).seams := by
      have h : w.seams = x.seams := by rw [hw]; rfl
      exact h.trans ((State.seams_of_wipe hxw rfl).trans (State.seams_of_wipe hvw rfl))
    rw [State.seamOf, hseams]
    exact hout i
  · have hregs : w.reg r = x.reg r := by rw [hw]; rfl
    rw [hregs, hx, State.reg_stopQueue _ _ _ h1]
    exact (State.reg_of_regs (State.regs_of_wipe hvw rfl) r).trans (hreg r h2)
  · generalize w = t at hframe
    cases t
    cases s
    simpa [State.wipe, Nat.testBit] using hframe

/-- A queue that is freed: its abort state, and its descriptor and contract gone. -/
theorem State.freeQueue_spec (s : State) (q : Nat) : let w := s.abortQueue q
    let t := s.freeQueue q
    t.queue q = {} ∧ (∀ j, j ≠ q → t.queue j = w.judgeAll.queue j) ∧
    ((s.queue q).cls = 2 → (s.queue q).ttype = 5 → ∀ c ∈ s.triple (s.queue q).target, (t.ctx c).guarded = false) ∧
    t = { w.judgeAll with queues := t.queues, ctxs := t.ctxs } := by
  intro w t
  obtain ⟨-, hbound, -, -, -, hframe⟩ := s.abortQueue_spec q
  obtain ⟨j, hj⟩ : ∃ j, j = w.judgeAll := ⟨_, rfl⟩
  have hbound' : (j.queue q).bound = (s.queue q).bound := by rw [hj]; exact (w.judgeAll_judgeKept.bound q).trans hbound
  have hctxs : j.ctxs = s.ctxs := by
    rw [hj, State.ctxs_of_wipe w.judgeAll_judging rfl]
    exact (congrArg State.ctxs hframe).trans rfl
  obtain ⟨-, hother, hguard, hrel⟩ := j.releaseContract_spec q
  have ht : t = (j.releaseContract q).setQueue q {} := by rw [hj]; rfl
  obtain ⟨hcls, htt, htarget⟩ : (j.queue q).cls = (s.queue q).cls ∧ (j.queue q).ttype = (s.queue q).ttype ∧
      (j.queue q).target = (s.queue q).target := ⟨congrArg (·.1) hbound', congrArg (·.2.1) hbound', congrArg (·.2.2) hbound'⟩
  have htriple (c : Nat) : j.triple c = s.triple c := by
    have hctx : j.ctx = s.ctx := funext fun i => by rw [State.ctx, hctxs]; rfl
    unfold State.triple State.replicas
    rw [hctx]
  rw [← hj]
  refine ⟨by rw [ht, State.queue_setQueue, if_pos rfl], fun i hi => ?_, fun h2 h5 c hc => ?_, ?_⟩
  · rw [ht, State.queue_setQueue, if_neg hi, hother i hi]
  · have hctx : t.ctx c = (j.releaseContract q).ctx c := by rw [ht]; rfl
    rw [hctx]
    exact hguard (hcls.trans h2) (htt.trans h5) c (by rw [htarget, htriple]; exact hc)
  · have hctx : t.ctxs = (j.releaseContract q).ctxs := by rw [ht]; rfl
    have hset : t = { j.releaseContract q with queues := t.queues } := by rw [ht]; rfl
    rw [hctx]
    generalize j.releaseContract q = v at hset hrel
    generalize t.queues = y at hset
    rw [hset]
    generalize v.ctxs = z at hrel
    rw [hrel]

end Free

end Sys2Proof.Machine

/-! O49: admission (R113-R120), and the queue commands together. -/

namespace Sys2Proof.Machine

open Sys2Proof

/-! ### Picks -/

section Picks

/-- Taking out one member takes out at most one. -/
theorem length_filter_ne {l : List Nat} (h : l.Nodup) (a : Nat) : l.length ≤ (l.filter (· ≠ a)).length + 1 := by
  have herase : l.erase a = l.filter (· ≠ a) := by
    rw [h.erase_eq_filter]
    exact List.filter_congr fun x _ => by simp [bne, BEq.beq]
  have hlen := List.length_erase (l := l) (a := a)
  rw [herase] at hlen
  split at hlen <;> omega

/-- Two picks from a list of at least two. -/
theorem pick2_spec {l : List Nat} (h : l.Nodup) (hlen : 2 ≤ l.length) (m k : Nat) : ∃ a b, pickOf m l = some a ∧
    pickOf k (l.filter (· ≠ a)) = some b ∧ a ∈ l ∧ b ∈ l ∧ b ≠ a := by
  obtain ⟨a, hpick, ha⟩ := pickOf_some m l (by omega)
  have hrest := length_filter_ne h a
  obtain ⟨b, hpick', hb⟩ := pickOf_some k (l.filter (· ≠ a)) (by omega)
  obtain ⟨hb, hne⟩ := List.mem_filter.1 hb
  exact ⟨a, b, hpick, hpick', ha, hb, of_decide_eq_true hne⟩

theorem filter_ne_two (l : List Nat) (a b : Nat) : l.filter (fun t => decide (t ≠ a ∧ t ≠ b)) = (l.filter (· ≠ a)).filter (· ≠ b) := by
  rw [List.filter_filter]
  exact List.filter_congr fun x _ => by rw [Bool.decide_and, Bool.and_comm]

theorem pick3_spec {l : List Nat} (h : l.Nodup) (hlen : 3 ≤ l.length) (m : Nat) :
    ∃ y z v, pick3 m l = some [y, z, v] ∧ [y, z, v].Nodup ∧ y ∈ l ∧ z ∈ l ∧ v ∈ l := by
  obtain ⟨y, hpick, hy⟩ := pickOf_some m l (by omega)
  have hrest := length_filter_ne h y
  obtain ⟨z, v, hz, hv, hzmem, hvmem, hne⟩ := pick2_spec (h.filter (· ≠ y)) (by omega) (m + 1) (m + 2)
  obtain ⟨hzl, hzy⟩ := List.mem_filter.1 hzmem
  obtain ⟨hvl, hvy⟩ := List.mem_filter.1 hvmem
  refine ⟨y, z, v, ?_, ?_, hy, hzl, hvl⟩
  · simp only [pick3, hpick, hz, filter_ne_two, hv, Option.map_some]
  · have := of_decide_eq_true hzy
    have := of_decide_eq_true hvy
    simp
    omega

theorem pickAfter_spec {l : List Nat} (h : l.Nodup) {own : Nat} (hlen : 2 ≤ (l.filter (· ≠ own)).length) (m : Nat) :
    ∃ z v, pickAfter m own l = some [own, z, v] ∧ [own, z, v].Nodup ∧ z ∈ l ∧ v ∈ l := by
  obtain ⟨z, v, hz, hv, hzmem, hvmem, hne⟩ := pick2_spec (h.filter (· ≠ own)) hlen m (m + 1)
  obtain ⟨hzl, hzo⟩ := List.mem_filter.1 hzmem
  obtain ⟨hvl, hvo⟩ := List.mem_filter.1 hvmem
  refine ⟨z, v, ?_, ?_, hzl, hvl⟩
  · simp only [pickAfter, hz, filter_ne_two, hv, Option.map_some]
  · have := of_decide_eq_true hzo
    have := of_decide_eq_true hvo
    simp
    omega

end Picks

/-! ### QUEUE_CTRL (R99, R100) -/

section Control
variable {s : State} {n p : Nat} {f : State → Nat → State}

theorem State.queueCtrl_refused (h : s.queueCode n (bits p 0 20) ≠ Code.ok) :
    State.queueCtrl f s n p = s.refuse (s.queueCode n (bits p 0 20)) := if_pos h

theorem State.queueCtrl_done (h : s.queueCode n (bits p 0 20) = Code.ok) : State.queueCtrl f s n p = { st := f s (bits p 0 20) } :=
  if_neg (not_not.2 h)

end Control

/-! ### QUEUE_ADMIT (R116) -/

section Admit
variable {s : State} {n p : Nat}

/-- A refused admission is noted in ADM_REFUSE (R116, R128). -/
theorem State.admRefuse_spec {q code sum : Nat} (hq : q < 2 ^ 20) (hcode : code < 256) (hsum : sum < 16) :
    ∃ t : State, s.admRefuse q code sum = ⟨t, code, 0, 0⟩ ∧ t.fld Reg.ADM_REFUSE 0 8 = code ∧ t.fld Reg.ADM_REFUSE 8 20 = q ∧
      t.fld Reg.ADM_REFUSE 28 4 = sum ∧ OnlyRegs [Reg.ADM_REFUSE] s t := by
  obtain ⟨v, hv⟩ : ∃ v, v = code % 256 + q % 2 ^ 20 * 2 ^ 8 + sum % 16 * 2 ^ 28 := ⟨_, rfl⟩
  have hword : (s.setN Reg.ADM_REFUSE v).regN Reg.ADM_REFUSE = code + q * 2 ^ 8 + sum * 2 ^ 28 := by
    refine (s.regN_setN_same _ _).trans ?_
    omega
  refine ⟨s.setN Reg.ADM_REFUSE v, by rw [hv]; rfl, ?_, ?_, ?_, (OnlyRegs.refl _ s).setN (List.mem_singleton_self _) _⟩ <;>
  · rw [State.fld, hword, bits]
    omega

/-- The contract checks, before an admission is judged (R113, R262). -/
theorem State.queueAdmit_refused (h : s.queueCode n (bits p 0 20) ≠ Code.ok) :
    s.queueAdmit n p = s.refuse (s.queueCode n (bits p 0 20)) := if_pos h

theorem Queue.classBusy_iff (d : Queue) (cls : Nat) : d.classBusy cls = true ↔ cls ≠ d.cls ∧ d.state ≠ QState.stopped ∧ d.head ≠ d.tail := by
  simp only [Queue.classBusy, Bool.and_eq_true, decide_eq_true_eq, and_assoc]

theorem State.queueAdmit_class (h : s.queueCode n (bits p 0 20) = Code.ok) (hclass : bits p 32 2 = 3 ∨
      (s.queue (bits p 0 20)).classBusy (bits p 32 2) = true ∨ ((s.queue (bits p 0 20)).ttype = 0 ∧ bits p 32 2 ≠ 0)) :
    s.queueAdmit n p = s.admRefuse (bits p 0 20) Code.rejectClass 6 := (if_neg (not_not.2 h)).trans (if_pos hclass)

theorem State.queueAdmit_plain (h : s.queueCode n (bits p 0 20) = Code.ok) (hbusy : (s.queue (bits p 0 20)).classBusy (bits p 32 2) = false)
    (hcls : bits p 32 2 = 0) : s.queueAdmit n p = { st := s.releaseContract (bits p 0 20) } :=
  (if_neg (not_not.2 h)).trans ((if_neg (by
    rintro (h3 | hb | ⟨-, h0⟩)
    · have : bits p 32 2 = 3 := h3
      omega
    · exact Bool.false_ne_true (hbusy.symm.trans hb)
    · exact h0 hcls)).trans (if_pos hcls))

theorem State.queueAdmit_judged (h : s.queueCode n (bits p 0 20) = Code.ok) (hbusy : (s.queue (bits p 0 20)).classBusy (bits p 32 2) = false)
    (htype : (s.queue (bits p 0 20)).ttype ≠ 0) (hcls : bits p 32 2 = 1 ∨ bits p 32 2 = 2) :
    s.queueAdmit n p = s.judgeTerms n (s.termsOf p) :=
  (if_neg (not_not.2 h)).trans ((if_neg (by
    rintro (h3 | hb | ⟨h0, -⟩)
    · have : bits p 32 2 = 3 := h3
      omega
    · exact Bool.false_ne_true (hbusy.symm.trans hb)
    · exact htype h0)).trans (if_neg (by
      have : (s.termsOf p).cls = bits p 32 2 := rfl
      omega)))

end Admit

section Terms
variable {s : State} {n : Nat} {a : Terms}

/-- The trays that may vote, or none where none need to. -/
abbrev State.traysOf (s : State) (a : Terms) : Option (List Nat) :=
  if a.cls = 2 then (s.releaseContract a.q).votingTrays a (s.queue a.q) else some []

/-- The class checks fail. -/
theorem State.judgeTerms_class (h : (s.releaseContract a.q).classFits a (s.queue a.q) = false) :
    s.judgeTerms n a = s.admRefuse a.q Code.rejectClass 6 := if_pos (.inl h)

/-- The terms get past the class checks (R116). -/
def State.termsFit (s : State) (a : Terms) : Prop := (s.releaseContract a.q).classFits a (s.queue a.q) = true ∧
  ¬(a.cls = 2 ∧ (s.queue a.q).ttype = 5 ∧ ((s.releaseContract a.q).twins a (s.queue a.q)).length < 2)

theorem State.judgeTerms_quota (h : s.termsFit a) (hquota : n ≠ 0 ∧
      (s.releaseContract a.q).quotaOf n 9 * 1000 < (s.releaseContract a.q).tenantRate n + a.rate) :
    s.judgeTerms n a = s.admRefuse a.q Code.rejectQuota 5 :=
  (if_neg (by rw [h.1]; simpa using h.2)).trans (if_pos hquota)

theorem State.judgeTerms_sum (h : s.termsFit a) (hquota : ¬(n ≠ 0 ∧
      (s.releaseContract a.q).quotaOf n 9 * 1000 < (s.releaseContract a.q).tenantRate n + a.rate)) {sum : Nat}
    (hsum : (s.releaseContract a.q).brokenSum a (s.queue a.q) (s.traysOf a) = sum) (hne : sum ≠ 0) :
    s.judgeTerms n a = s.admRefuse a.q Code.rejectCapacity sum := by
  rw [← hsum] at hne ⊢
  exact (if_neg (by rw [h.1]; simpa using h.2)).trans ((if_neg hquota).trans (if_pos hne))

theorem State.judgeTerms_accepts (h : s.termsFit a) (hquota : ¬(n ≠ 0 ∧
      (s.releaseContract a.q).quotaOf n 9 * 1000 < (s.releaseContract a.q).tenantRate n + a.rate))
    (hsum : (s.releaseContract a.q).brokenSum a (s.queue a.q) (s.traysOf a) = 0)
    (hrefs : (s.releaseContract a.q).reservedRefs + (s.queue a.q).credits ≤ 786432) {trays : List Nat}
    (htrays : s.traysOf a = some trays) : s.judgeTerms n a = (s.releaseContract a.q).acceptTerms a trays := by
  refine (if_neg (by rw [h.1]; simpa using h.2)).trans ((if_neg hquota).trans ((if_neg (not_not.2 hsum)).trans
    ((if_neg (Nat.not_lt.2 hrefs)).trans ?_)))
  exact congrArg (fun o : Option (List Nat) => (s.releaseContract a.q).acceptTerms a (o.getD [])) htrays

/-- Each sum holds (R115). -/
theorem State.brokenSum_none {u : State} {d : Queue} {trays : Option (List Nat)}
    (hlimit : a.rate ≤ if d.ttype = 1 ∨ d.ttype = 2 then 375000000 else 187500000) (htrays : a.cls = 2 → trays.isNone = false)
    (htray : a.cls = 1 → d.ttype = 5 → u.trayRate (u.physOf (d.target / 256)) + a.rate ≤ 750000000)
    (hrate : u.devRate + (if a.cls = 2 then 3 else 1) * a.rate ≤ 5000000000)
    (hburst : u.devBurst + (if a.cls = 2 then 3 else 1) * a.burst ≤ 3 * (u.dlead - 64)) : u.brokenSum a d trays = 0 := by
  have hholds : ¬(a.cls = 1 ∧ d.ttype = 5 ∧ u.trayHolds a.rate (u.physOf (d.target / 256)) = false) := by
    rintro ⟨h1, h5, hno⟩
    exact absurd (htray h1 h5) (of_decide_eq_false hno)
  have hsome : ¬(a.cls = 2 ∧ trays.isNone = true) := by
    rintro ⟨h2, hno⟩
    exact Bool.false_ne_true ((htrays h2).symm.trans hno)
  exact (if_neg (Nat.not_lt.2 hlimit)).trans ((if_neg hsome).trans ((if_neg hholds).trans ((if_neg (Nat.not_lt.2 hrate)).trans
    (if_neg (Nat.not_lt.2 hburst)))))

/-- A target's limit is broken. -/
theorem State.brokenSum_target {u : State} {d : Queue} {trays : Option (List Nat)}
    (h : (if d.ttype = 1 ∨ d.ttype = 2 then 375000000 else 187500000) < a.rate) : u.brokenSum a d trays = 1 := if_pos h

/-- A timed context's tray cannot hold the rate. -/
theorem State.brokenSum_tray {u : State} {d : Queue} {trays : Option (List Nat)}
    (hlimit : a.rate ≤ if d.ttype = 1 ∨ d.ttype = 2 then 375000000 else 187500000) (hcls : a.cls = 1) (htype : d.ttype = 5)
    (h : 750000000 < u.trayRate (u.physOf (d.target / 256)) + a.rate) : u.brokenSum a d trays = 2 :=
  (if_neg (Nat.not_lt.2 hlimit)).trans ((if_neg (by omega)).trans
    (if_pos ⟨hcls, htype, decide_eq_false (Nat.not_le.2 h)⟩))

/-- Terms in effect (R113, R117, R120). -/
theorem State.acceptTerms_spec (u : State) (a : Terms) (trays : List Nat) :
    let t := (u.acceptTerms a trays).st
    let k : Contract := { rate := a.rate, burst := a.burst, lead := a.lead, intv := (24000000000 + a.rate - 1) / a.rate, tat := u.tb.now,
                          trays := trays }
    u.acceptTerms a trays = { st := t, r0 := nibbles trays, r1 := k.intv % 2 ^ 40 } ∧
    t.queue a.q = { u.queue a.q with cls := a.cls, contract := some k } ∧ (∀ j, j ≠ a.q → t.queue j = u.queue j) ∧
    (a.cls = 2 → (u.queue a.q).ttype = 5 → ∀ y ∈ trays, (t.ctx (u.servesOf y * 256 + (u.queue a.q).target % 256)).guarded = true) ∧
    t = { u with fresh := t.fresh, queues := t.queues, ctxs := t.ctxs } ∧ (a.cls ≠ 2 → t = { u with queues := t.queues }) := by
  intro t k
  obtain ⟨v, hv⟩ : ∃ v, v = if a.cls = 2 then { u with fresh := u.fresh + 3 } else u := ⟨_, rfl⟩
  have hvframe : v = { u with fresh := v.fresh } := by
    rw [hv]
    split <;> rfl
  have hservesv (y : Nat) : v.servesOf y = u.servesOf y := by rw [hvframe]; rfl
  obtain ⟨cs, hcs⟩ : ∃ cs, cs = trays.map fun y => v.servesOf y * 256 + (u.queue a.q).target % 256 := ⟨_, rfl⟩
  obtain ⟨w, hw⟩ : ∃ w, w = if a.cls = 2 ∧ (u.queue a.q).ttype = 5 then v.setGuarded cs true else v := ⟨_, rfl⟩
  obtain ⟨hguard, hgframe⟩ := v.setGuarded_spec cs true
  have hwframe : w = { v with ctxs := w.ctxs } := by
    rw [hw]
    split
    · exact hgframe
    · rfl
  have htb : w.tb = u.tb := by rw [hwframe, hvframe]
  have hqueues : w.queues = u.queues := by rw [hwframe, hvframe]
  have hk : w.contractOf a trays = k := by rw [State.contractOf, htb]
  have heq : u.acceptTerms a trays = ⟨w.setQueue a.q { u.queue a.q with cls := a.cls, contract := some (w.contractOf a trays) }, 0,
      nibbles trays, (w.contractOf a trays).intv % 2 ^ 40⟩ := by
    rw [hw, hcs, hv]
    rfl
  rw [hk] at heq
  have ht : t = w.setQueue a.q { u.queue a.q with cls := a.cls, contract := some k } := congrArg CmdRes.st heq
  refine ⟨ht ▸ heq, by rw [ht, State.queue_setQueue, if_pos rfl], fun j hj => ?_, fun h2 h5 y hy => ?_, ?_, fun hne => ?_⟩
  · rw [ht, State.queue_setQueue, if_neg hj]
    exact State.queue_of_queues hqueues j
  · have hctx (c : Nat) : t.ctx c = w.ctx c := by rw [ht]; rfl
    rw [hctx, hw, if_pos ⟨h2, h5⟩]
    exact hguard _ (hcs ▸ List.mem_map.2 ⟨y, hy, by rw [hservesv]⟩)
  · have hfresh : t.fresh = v.fresh := by rw [ht, hwframe]; rfl
    have hctxs : t.ctxs = w.ctxs := by rw [ht]; rfl
    have hset : t = { w with queues := t.queues } := by rw [ht]; rfl
    rw [hfresh, hctxs]
    generalize t.queues = y at hset
    rw [hset]
    generalize w.ctxs = z at hwframe
    rw [hwframe]
    generalize v.fresh = x at hvframe
    rw [hvframe]
  · have hsame : w = u := by rw [hw, if_neg (fun h => hne h.1), hv, if_neg hne]
    rw [hsame] at ht
    rw [ht]
    rfl

end Terms

end Sys2Proof.Machine

/-! O49: the admission of terms (R115-R120), and every queue command. -/

namespace Sys2Proof.Machine

open Sys2Proof

section Voting
variable {s : State} {n q : Nat}

/-- A tray that may vote for a contract (R120, R125). -/
def State.goodTray (s u : State) (rate y : Nat) : Prop :=
  y < 9 ∧ s.spareTray ≠ y ∧ s.bit Reg.ADM_GUARD (13 + y) = false ∧ s.bit Reg.ADM_GUARD (4 + y) = false ∧ u.trayRate y + rate ≤ 750000000

/-- The trays that may vote are the good ones of the nine. -/
theorem State.goodTrays_eq {s u : State} (hregs : u.regs = s.regs) (rate : Nat) {good : Nat → Bool}
    (hgood : ∀ y, good y = true ↔ s.goodTray u rate y) :
    u.activeTrays.filter (fun y => !u.failing y && u.trayHolds rate y) = (List.range 9).filter good := by
  rw [State.activeTrays, List.filter_filter]
  refine List.filter_congr fun y hy => Bool.eq_iff_iff.2 ?_
  rw [hgood]
  have hspare : u.spareTray = s.spareTray := State.fld_of_reg (State.reg_of_regs hregs _) ..
  have hbit (i : Nat) : u.bit Reg.ADM_GUARD i = s.bit Reg.ADM_GUARD i := State.bit_of_reg (State.reg_of_regs hregs _) i
  simp only [State.failing, State.trayHolds, hspare, hbit, Bool.and_eq_true, Bool.not_eq_true', decide_eq_true_eq, State.goodTray,
    List.mem_range.1 hy, true_and]
  tauto

/-- Three picks of a guarded contract at a target other than a context. -/
theorem State.votingTrays_three {s u : State} (hregs : u.regs = s.regs) {a : Terms} {d : Queue} (htype : d.ttype ≠ 5) {good : Nat → Bool}
    (hgood : ∀ y, good y = true ↔ s.goodTray u a.rate y) (hlen : 3 ≤ ((List.range 9).filter good).length) :
    ∃ y z v, u.votingTrays a d = some [y, z, v] ∧ [y, z, v].Nodup ∧ s.goodTray u a.rate y ∧ s.goodTray u a.rate z ∧ s.goodTray u a.rate v := by
  obtain ⟨y, z, v, hpick, hnodup, hy, hz, hv⟩ := pick3_spec (List.nodup_range.filter good) hlen u.fresh
  refine ⟨y, z, v, ?_, hnodup, (hgood y).1 (List.mem_filter.1 hy).2, (hgood z).1 (List.mem_filter.1 hz).2, (hgood v).1 (List.mem_filter.1 hv).2⟩
  refine (if_neg htype).trans ?_
  rw [State.goodTrays_eq hregs a.rate hgood]
  exact hpick

/-- A guarded context's own tray votes, and two others in which the tenant holds its twin. -/
theorem State.votingTrays_own {s u : State} (hregs : u.regs = s.regs) {a : Terms} {d : Queue} (htype : d.ttype = 5) {good : Nat → Bool}
    (hgood : ∀ y, good y = true ↔ s.goodTray u a.rate y) (hown : s.goodTray u a.rate (u.physOf (d.target / 256)))
    (hlen : 2 ≤ ((u.twins a d).filter fun y => decide (y ≠ u.physOf (d.target / 256)) && good y).length) :
    ∃ z v, u.votingTrays a d = some [u.physOf (d.target / 256), z, v] ∧ [u.physOf (d.target / 256), z, v].Nodup ∧
      s.goodTray u a.rate z ∧ s.goodTray u a.rate v := by
  have htwins : (u.twins a d).Nodup := (List.nodup_range.filter _ : u.activeTrays.Nodup).filter _
  have hin (y : Nat) : ((List.range 9).filter good).contains y = good y := by
    refine Bool.eq_iff_iff.2 ?_
    rw [List.contains_iff_mem, List.mem_filter, List.mem_range]
    exact ⟨And.right, fun h => ⟨((hgood y).1 h).1, h⟩⟩
  have hgoods := State.goodTrays_eq hregs a.rate hgood
  obtain ⟨z, v, hpick, hnodup, hz, hv⟩ := pickAfter_spec (own := u.physOf (d.target / 256))
    (htwins.filter ((List.range 9).filter good).contains)
    (by rw [List.filter_filter]; simpa only [hin] using hlen) u.fresh
  have hmem {y : Nat} (hy : y ∈ (u.twins a d).filter ((List.range 9).filter good).contains) : s.goodTray u a.rate y :=
    (hgood y).1 (by rw [← hin]; exact (List.mem_filter.1 hy).2)
  refine ⟨z, v, ?_, hnodup, hmem hz, hmem hv⟩
  refine (if_pos htype).trans ((if_pos ?_).trans ?_)
  · rw [hgoods, hin]
    exact (hgood _).2 hown
  · rw [hgoods]
    exact hpick

/-- RESULT0 of a guarded contract names its trays. -/
theorem nibbles_three {y z v : Nat} (hy : y < 9) (hz : z < 9) (hv : v < 9) : nibbles [y, z, v] = y + 16 * z + 256 * v := by
  simp only [nibbles, List.map_cons, List.map_nil, fields]
  omega

end Voting

section Admission

/-- The class checks of R116 and R387. -/
theorem State.classFits_iff {u : State} {a : Terms} {d : Queue} {dlead : Nat} (hdlead : u.dlead = dlead) : u.classFits a d = true ↔
    1 ≤ a.burst ∧ a.burst ≤ 8 ∧ 12000 ≤ a.lead ∧ a.lead ≤ 16777215 ∧ a.rate ≠ 0 ∧ u.aloneAt a.q a.cls d.takes = true ∧
      u.lentTarget d = false ∧ (a.cls = 2 → 128 ≤ dlead) ∧ u.heldTarget d = false := by
  have hlead : (!(decide (a.cls = 2) && decide (u.dlead < 128))) = true ↔ (a.cls = 2 → 128 ≤ dlead) := by
    rw [hdlead, Bool.not_eq_true', Bool.and_eq_false_iff, decide_eq_false_iff_not, decide_eq_false_iff_not, Nat.not_lt]
    exact ⟨fun h h2 => h.resolve_left (not_not.2 h2), fun h => (em (a.cls = 2)).symm.imp_right h⟩
  simp only [State.classFits, Bool.and_eq_true, hlead, decide_eq_true_eq, Bool.not_eq_true', and_assoc]

/-- The changes of an accepted contract, from the state without the old one. -/
theorem State.frame_admitted {s u t : State} (hu : u = { s with queues := u.queues, ctxs := u.ctxs })
    (ht : t = { u with fresh := t.fresh, queues := t.queues, ctxs := t.ctxs }) :
    t = { s with fresh := t.fresh, queues := t.queues, ctxs := t.ctxs } := by
  generalize t.fresh = a at ht ⊢
  generalize t.queues = b at ht ⊢
  generalize t.ctxs = d at ht ⊢
  subst ht
  generalize u.queues = b' at hu
  generalize u.ctxs = d' at hu
  subst hu
  rfl

theorem State.frame_timed {s u t : State} (hu : u = { s with queues := u.queues, ctxs := u.ctxs }) (ht : t = { u with queues := t.queues }) :
    t = { s with queues := t.queues, ctxs := t.ctxs } := by
  generalize t.queues = b at ht ⊢
  subst ht
  generalize u.queues = b' at hu
  generalize u.ctxs = d' at hu
  subst hu
  rfl

variable {s : State} {tag n : Nat} {c : Cmd}

/-- A refused admission completes with its code, which ADM_REFUSE notes. -/
theorem admRefused_ends {i : Instr} {r : CmdRes} (hexec : exec i s = .next (r.st.finishCmd n c r.code r.r0 r.r1)) {q code sum : Nat}
    (h : r = s.admRefuse q code sum) (hq : q < 2 ^ 20) (hcode : code < 256) (hsum : sum < 16) :
    ∃ t : State, exec i s = .next (t.finishCmd n c code 0 0) ∧ t.fld Reg.ADM_REFUSE 0 8 = code ∧ t.fld Reg.ADM_REFUSE 8 20 = q ∧
      t.fld Reg.ADM_REFUSE 28 4 = sum ∧ OnlyRegs [Reg.ADM_REFUSE] s t := by
  obtain ⟨t, ht, hfields⟩ := s.admRefuse_spec hq hcode hsum
  exact ⟨t, ends_of hexec (h.trans ht), hfields⟩

/-- QUEUE_ADMIT, in the order of R116. -/
theorem queueAdmit_clauses (htag : tag < 4096) (hrun : s.ready tag 0x13 (fun _ => true) = some (n, c)) :
    let ends (i : Instr) (t : State) (code r0 r1 : Nat) := exec i s = .next (t.finishCmd n c code r0 r1)
    let p := c.param
    let q := bits p 0 20
    let x := s.queue q
    let qcode := if x.state = QState.free then Code.rejectClass else if x.tenant ≠ n then Code.rejectQuota else Code.ok
    let others (t : State) := ∀ j, j ≠ q → t.queue j = s.queue j
    let cls := bits p 32 2
    let b := bits p 36 4
    let lead := if bits p 40 24 = 0 then s.fld Reg.ADM_LEAD_DEF 0 24 else bits p 40 24
    let rate := bits p 64 32
    let w := if cls = 2 then 3 else 1
    let i := Instr.queueAdmit tag
    let adm (code sum : Nat) := ∃ t : State, ends i t code 0 0 ∧ t.fld Reg.ADM_REFUSE 0 8 = code ∧ t.fld Reg.ADM_REFUSE 8 20 = q ∧
      t.fld Reg.ADM_REFUSE 28 4 = sum ∧ OnlyRegs [Reg.ADM_REFUSE] s t
    let busy := cls ≠ x.cls ∧ x.state ≠ QState.stopped ∧ x.head ≠ x.tail
    let u := s.releaseContract q
    let fits := 1 ≤ b ∧ b ≤ 8 ∧ 12000 ≤ lead ∧ lead ≤ 16777215 ∧ rate ≠ 0 ∧ u.aloneAt q cls x.takes = true ∧ u.lentTarget x = false ∧
      (cls = 2 → 128 ≤ s.dlead) ∧ u.heldTarget x = false
    let limit := if x.ttype = 1 ∨ x.ttype = 2 then 375000000 else 187500000
    let tenant := n = 0 ∨ u.tenantRate n + rate ≤ u.quotaOf n 9 * 1000
    let device := u.devRate + w * rate ≤ 5000000000 ∧ u.devBurst + w * b ≤ 3 * (s.dlead - 64) ∧ u.reservedRefs + x.credits ≤ 786432
    let intv := (24000000000 + rate - 1) / rate
    let terms (trays : List Nat) : Contract := { rate := rate, burst := b, lead := lead, intv := intv, tat := s.tb.now, trays := trays }
    let kept (trays : List Nat) := { x with cls := cls, contract := some (terms trays) }
    let good (y : Nat) := y < 9 ∧ s.spareTray ≠ y ∧ s.bit Reg.ADM_GUARD (13 + y) = false ∧ s.bit Reg.ADM_GUARD (4 + y) = false ∧
      u.trayRate y + rate ≤ 750000000
    let own := s.physOf (x.target / 256)
    let asked : Terms := { q := q, cls := cls, burst := b, lead := lead, rate := rate }
    (qcode ≠ Code.ok → ends i s qcode 0 0) ∧
    (qcode = Code.ok → (cls = 3 ∨ busy ∨ x.ttype = 0 ∧ cls ≠ 0) → adm Code.rejectClass 6) ∧
    (qcode = Code.ok → ¬busy → cls = 0 → ∃ t : State, ends i t Code.ok 0 0 ∧ t.queue q = { x with contract := none, cls := 0 } ∧ others t ∧
      (x.cls = 2 → x.ttype = 5 → ∀ c ∈ s.triple x.target, (t.ctx c).guarded = false) ∧
      t = { s with queues := t.queues, ctxs := t.ctxs }) ∧
    (qcode = Code.ok → ¬busy → x.ttype ≠ 0 → cls = 1 ∨ cls = 2 →
      (¬fits → adm Code.rejectClass 6) ∧
      (fits → (cls = 1 ∨ x.ttype ≠ 5) → ¬tenant → adm Code.rejectQuota 5) ∧
      (fits → (cls = 1 ∨ x.ttype ≠ 5) → tenant → limit < rate → adm Code.rejectCapacity 1) ∧
      (fits → cls = 1 → tenant → rate ≤ limit → x.ttype = 5 → 750000000 < u.trayRate own + rate → adm Code.rejectCapacity 2) ∧
      (fits → cls = 1 → tenant → rate ≤ limit → (x.ttype = 5 → u.trayRate own + rate ≤ 750000000) → device →
        ∃ t : State, ends i t Code.ok 0 (intv % 2 ^ 40) ∧ t.queue q = kept [] ∧ others t ∧ t = { s with queues := t.queues, ctxs := t.ctxs }) ∧
      (fits → cls = 2 → x.ttype ≠ 5 → tenant → rate ≤ limit → device → 3 ≤ ((List.range 9).filter fun y => decide (good y)).length →
        ∃ (t : State) (y z v : Nat), ends i t Code.ok (y + 16 * z + 256 * v) (intv % 2 ^ 40) ∧ [y, z, v].Nodup ∧ good y ∧ good z ∧ good v ∧
          t.queue q = kept [y, z, v] ∧ others t ∧ t = { s with fresh := t.fresh, queues := t.queues, ctxs := t.ctxs }) ∧
      (fits → cls = 2 → x.ttype = 5 → tenant → rate ≤ limit → device → good own →
        2 ≤ ((u.twins asked x).filter fun y => decide (y ≠ own ∧ good y)).length →
        ∃ (t : State) (z v : Nat), ends i t Code.ok (own + 16 * z + 256 * v) (intv % 2 ^ 40) ∧ [own, z, v].Nodup ∧ good z ∧ good v ∧
          t.queue q = kept [own, z, v] ∧ others t ∧
          (∀ y ∈ [own, z, v], (t.ctx (s.servesOf y * 256 + x.target % 256)).guarded = true) ∧
          t = { s with fresh := t.fresh, queues := t.queues, ctxs := t.ctxs })) := by
  intro ends p q x qcode others cls b lead rate w i adm busy u fits limit tenant device intv terms kept good own asked
  have hexec : exec i s = .next ((s.queueAdmit n p).st.finishCmd n c (s.queueAdmit n p).code (s.queueAdmit n p).r0 (s.queueAdmit n p).r1) :=
    (onUnit_of (decide_eq_true htag) _).trans (congrArg _ (State.runCmd_ready hrun State.queueAdmit))
  have hq : q < 2 ^ 20 := bits_lt _ 0 20
  have hadm {code sum : Nat} (h : s.queueAdmit n p = s.admRefuse q code sum) (hcode : code < 256) (hsum : sum < 16) : adm code sum :=
    admRefused_ends hexec h hq hcode hsum
  have hbusy : x.classBusy cls = true ↔ busy := x.classBusy_iff cls
  have hidle (h : ¬busy) : x.classBusy cls = false := by
    rw [← hbusy, Bool.not_eq_true] at h
    exact h
  obtain ⟨huq, huother, hguard, huframe⟩ : u.queue q = { x with contract := none, cls := 0 } ∧ (∀ j, j ≠ q → u.queue j = s.queue j) ∧
      (x.cls = 2 → x.ttype = 5 → ∀ c ∈ s.triple x.target, (u.ctx c).guarded = false) ∧
      u = { s with queues := u.queues, ctxs := u.ctxs } := s.releaseContract_spec q
  refine ⟨fun hcode => ends_of hexec (State.queueAdmit_refused hcode), fun hok hclass => ?_, fun hok hnot hcls => ?_, fun hok hnot htype hcls => ?_⟩
  · exact hadm (State.queueAdmit_class hok (hclass.imp_right (Or.imp_left hbusy.2))) (by decide) (by decide)
  · exact ⟨u, ends_of hexec (State.queueAdmit_plain hok (hidle hnot) hcls), huq, huother, hguard, huframe⟩
  have hjudged : s.queueAdmit n p = s.judgeTerms n asked := State.queueAdmit_judged hok (hidle hnot) htype hcls
  have hdlead : u.dlead = s.dlead := by rw [State.dlead, huframe]; rfl
  have hphys : u.physOf (x.target / 256) = own := by rw [State.physOf, huframe]; rfl
  have hserves (y : Nat) : u.servesOf y = s.servesOf y := by rw [State.servesOf, huframe]; rfl
  have htb : u.tb = s.tb := by rw [huframe]
  have hregs : u.regs = s.regs := by rw [huframe]
  have hfits : u.classFits asked x = true ↔ fits := State.classFits_iff hdlead
  have hterms (h : fits) (hno : ¬(cls = 2 ∧ x.ttype = 5 ∧ (u.twins asked x).length < 2)) : s.termsFit asked := ⟨hfits.2 h, hno⟩
  have hquota (h : tenant) : ¬(n ≠ 0 ∧ u.quotaOf n 9 * 1000 < u.tenantRate n + rate) := by
    rintro ⟨hn, hlt⟩
    exact absurd (h.resolve_left hn) (Nat.not_le.2 hlt)
  have hmade {trays : List Nat} (h : s.judgeTerms n asked = u.acceptTerms asked trays) :
      ∃ t : State, ends i t Code.ok (nibbles trays) (intv % 2 ^ 40) ∧ t.queue q = kept trays ∧ others t ∧
        (cls = 2 → x.ttype = 5 → ∀ y ∈ trays, (t.ctx (s.servesOf y * 256 + x.target % 256)).guarded = true) ∧
        t = { s with fresh := t.fresh, queues := t.queues, ctxs := t.ctxs } ∧ (cls ≠ 2 → t = { s with queues := t.queues, ctxs := t.ctxs }) := by
    obtain ⟨hres, htq, htother, htguard, htframe, hplain⟩ := u.acceptTerms_spec asked trays
    refine ⟨_, ends_of hexec (hjudged.trans (h.trans hres)), ?_, fun j hj => (htother j hj).trans (huother j hj), fun h2 h5 y hy => ?_,
      State.frame_admitted huframe htframe, fun hne => ?_⟩
    · refine htq.trans ?_
      rw [htb, show u.queue asked.q = _ from huq]
    · rw [← hserves]
      have hthis := htguard h2 (by rw [show u.queue asked.q = _ from huq]; exact h5) y hy
      rwa [show u.queue asked.q = _ from huq] at hthis
    · exact State.frame_timed huframe (hplain hne)
  have hsum {trays : Option (List Nat)} (hlimit : rate ≤ limit) (hdev : device) (htrays : cls = 2 → trays.isNone = false)
      (htray : cls = 1 → x.ttype = 5 → u.trayRate own + rate ≤ 750000000) : u.brokenSum asked x trays = 0 := by
    obtain ⟨hrate, hburst, -⟩ := hdev
    exact State.brokenSum_none (a := asked) hlimit htrays (by rw [hphys]; exact htray) hrate (by rw [hdlead]; exact hburst)
  have hdecide (y : Nat) : decide (good y) = true ↔ s.goodTray u asked.rate y := decide_eq_true_iff
  have htimed (h : fits) (h1 : cls = 1 ∨ x.ttype ≠ 5) : s.termsFit asked := hterms h fun hbad => by omega
  have hnone (h1 : cls = 1) : s.traysOf asked = some [] := if_neg (by show cls ≠ 2; omega)
  have hvote (h2 : cls = 2) : s.traysOf asked = u.votingTrays asked x := if_pos h2
  refine ⟨fun h => ?_, fun h h1 hten => ?_, fun h h1 hten hlimit => ?_, fun h h1 hten hlimit h5 hrate => ?_,
    fun h h1 hten hlimit hrate hdev => ?_, fun h h2 h5 hten hlimit hdev hthree => ?_, fun h h2 h5 hten hlimit hdev hown htwo => ?_⟩
  · refine hadm (hjudged.trans (State.judgeTerms_class ?_)) (by decide) (by decide)
    rw [← Bool.not_eq_true]
    exact fun hc => h (hfits.1 hc)
  · refine hadm (hjudged.trans (State.judgeTerms_quota (htimed h h1) ?_)) (by decide) (by decide)
    obtain ⟨hn, hlt⟩ := not_or.1 hten
    exact ⟨hn, Nat.not_le.1 hlt⟩
  · exact hadm (hjudged.trans (State.judgeTerms_sum (htimed h h1) (hquota hten) (State.brokenSum_target hlimit) (by decide)))
      (by decide) (by decide)
  · refine hadm (hjudged.trans (State.judgeTerms_sum (htimed h (.inl h1)) (hquota hten) (State.brokenSum_tray hlimit h1 h5 ?_) (by decide)))
      (by decide) (by decide)
    have hbroken : 750000000 < u.trayRate (u.physOf (x.target / 256)) + rate := by rw [hphys]; exact hrate
    exact hbroken
  · obtain ⟨t, hends, htq, htother, -, -, hplain⟩ := hmade (State.judgeTerms_accepts (htimed h (.inl h1)) (hquota hten)
      (hsum hlimit hdev (fun h2 => by omega) fun _ => hrate) hdev.2.2 (hnone h1))
    exact ⟨t, hends, htq, htother, hplain (by omega)⟩
  · obtain ⟨y, z, v, hpick, hnodup, hy, hz, hv⟩ := State.votingTrays_three hregs (a := asked) h5 hdecide hthree
    have htrays := (hvote h2).trans hpick
    obtain ⟨t, hends, htq, htother, -, htframe, -⟩ := hmade (State.judgeTerms_accepts (htimed h (.inr h5)) (hquota hten)
      (hsum hlimit hdev (fun _ => by rw [htrays]; rfl) fun h1 => by omega) hdev.2.2 htrays)
    exact ⟨t, y, z, v, by rw [← nibbles_three hy.1 hz.1 hv.1]; exact hends, hnodup, hy, hz, hv, htq, htother, htframe⟩
  · have htwins : ¬(cls = 2 ∧ x.ttype = 5 ∧ (u.twins asked x).length < 2) := fun hbad =>
      Nat.not_lt.2 (Nat.le_trans htwo (List.length_filter_le ..)) hbad.2.2
    rw [← hphys] at hown htwo ⊢
    obtain ⟨z, v, hpick, hnodup, hz, hv⟩ := State.votingTrays_own hregs (a := asked) h5 hdecide hown
      (by simpa only [Bool.decide_and] using htwo)
    have htrays := (hvote h2).trans hpick
    obtain ⟨t, hends, htq, htother, htguard, htframe, -⟩ := hmade (State.judgeTerms_accepts (hterms h htwins) (hquota hten)
      (hsum hlimit hdev (fun _ => by rw [htrays]; rfl) fun h1 => by omega) hdev.2.2 htrays)
    exact ⟨t, z, v, by rw [← nibbles_three hown.1 hz.1 hv.1]; exact hends, hnodup, hz, hv, htq, htother, htguard h2 h5, htframe⟩

end Admission

end Sys2Proof.Machine

/-! O49: the queue commands. -/

namespace Sys2Proof.Machine

open Sys2Proof

section Commands
variable {s : State} {tag n : Nat} {c : Cmd}

/-- The completion of a command that runs. -/
theorem exec_of_ready {i : Instr} {op : Nat} {f : State → Nat → Nat → CmdRes} {sub : Nat → Bool} (htag : tag < 4096)
    (hi : exec i s = onUnit (okTag tag) (s.runCmd tag op f sub)) (hrun : s.ready tag op sub = some (n, c)) :
    exec i s = .next ((f s n c.param).st.finishCmd n c (f s n c.param).code (f s n c.param).r0 (f s n c.param).r1) :=
  hi.trans ((onUnit_of (decide_eq_true htag) _).trans (congrArg _ (State.runCmd_ready hrun f)))

/-- NOP (R262), with what becomes of its record, its duplicates and the history (R261). -/
theorem nopCommand_clauses (htag : tag < 4096) (hrun : s.ready tag 0x00 (fun _ => true) = some (n, c)) :
    let f := s.fn n
    exec (.nopCommand tag) s = .next (s.finishCmd n c Code.ok 0 0) ∧
    ∃ t : State, exec (.nopCommand tag) s = .next t ∧
      let r : Cpl := { seq := c.seq, user := c.user, tag := c.tag, opcode := c.opcode, notify := bitAt c.flags 1, holdsTag := true }
      let dups := f.inflight.filter fun d => !d.done && decide (d.dup = some c.seq)
      let again (d : Cmd) : Cpl :=
        { r with seq := d.seq, status := 0x09, user := d.user, tag := d.tag, opcode := d.opcode, notify := bitAt d.flags 1 }
      (t.fn n).waiting = f.waiting ++ r :: dups.map again ∧
      (dups = [] → (t.fn n).inflight = f.inflight.map fun d => if d.tag = c.tag then { d with done := true } else d) ∧
      (t.fn n).hist = f.hist.map (fun h => if h.seq = c.seq ∧ h.cpl = none then { h with cpl := some r } else h) := by
  intro f
  have hexec : exec (.nopCommand tag) s = .next (s.finishCmd n c Code.ok 0 0) := exec_of_ready (f := fun s _ _ => { st := s }) htag rfl hrun
  exact ⟨hexec, _, hexec, State.finishCmd_fn (State.flr_of_ready hrun) c Code.ok 0 0⟩

/-- QUEUE_CREATE (R82, R83, R262). -/
theorem queueCreate_clauses (htag : tag < 4096) (hrun : s.ready tag 0x10 (fun _ => true) = some (n, c)) :
    let ends (i : Instr) (t : State) (code r0 r1 : Nat) := exec i s = .next (t.finishCmd n c code r0 r1)
    let p := c.param
    let base := bits p 0 32
    let k := bits p 32 8
    let late := bits p 64 2
    let ttype := bits p 40 3
    let target := bits p 48 12
    let logen := bitAt p 127
    let logq := bits p 96 20
    let shape := 2 ≤ k ∧ k ≤ 16 ∧ base % (16 * 2 ^ k) = 0 ∧ base + 16 * 2 ^ k ≤ 2 ^ 26 ∧ late ≠ 0
    let tcode := if ttype = 0 then (if target = 0 then Code.ok else Code.rejectClass) else s.bindCode n ttype target
    let l := s.queue logq
    let lcode := if logen = false then Code.ok else if l.state = QState.free then Code.rejectClass
      else if l.tenant ≠ n then Code.rejectQuota else if l.ttype ≠ 0 then Code.rejectClass else Code.ok
    let i := Instr.queueCreate tag
    (¬shape → ends i s Code.rejectClass 0 0) ∧
    (shape → tcode ≠ Code.ok → ends i s tcode 0 0) ∧
    (shape → tcode = Code.ok → lcode ≠ Code.ok → ends i s lcode 0 0) ∧
    (shape → tcode = Code.ok → lcode = Code.ok → s.quotaFits n 0 1 = false → ends i s Code.rejectQuota 0 0) ∧
    (shape → tcode = Code.ok → lcode = Code.ok → s.quotaFits n 0 1 = true → s.queues.Pairwise (fun a b => a.1 < b.1) →
      (s.queues.filter fun e => decide (e.2.state ≠ QState.free)).length < 2 ^ 20 →
      ∃ (t : State) (j : Nat), ends i t Code.ok j 0 ∧ j < 2 ^ 20 ∧ (s.queue j).state = QState.free ∧
        (t.queue j).base = base / 16 ∧ (t.queue j).log2 = k ∧ (t.queue j).late = late ∧ (t.queue j).ttype = ttype ∧
        (t.queue j).target = target ∧ (t.queue j).tenant = n ∧ (t.queue j).state = QState.run ∧ (t.queue j).head = 0 ∧
        (t.queue j).tail = 0 ∧ (t.queue j).cls = 0 ∧ (t.queue j).contract = none ∧ (t.queue j).logen = logen ∧
        (logen = true → (t.queue j).logq = logq) ∧ (∀ m, m ≠ j → t.queue m = s.queue m) ∧
        t.eccBad = s.eccBad.filter (· / 2 != j) ∧ t.eccSoft = s.eccSoft.filter (· / 2 != j) ∧
        t = { s with fresh := t.fresh, queues := t.queues, eccBad := t.eccBad, eccSoft := t.eccSoft }) := by
  intro ends p base k late ttype target logen logq shape tcode l lcode i
  have hexec := exec_of_ready (i := .queueCreate tag) htag rfl hrun
  have hclass : Code.rejectClass ≠ Code.ok := by decide
  have hquota : Code.rejectQuota ≠ Code.ok := by decide
  have hshape : (ringFits base k = true ∧ late ≠ 0) ↔ shape := by
    rw [ringFits, decide_eq_true_iff, and_assoc, and_assoc, and_assoc]
  have hcodes : firstCode (s.createCodes n p) = if ¬shape then Code.rejectClass else if tcode ≠ Code.ok then tcode
      else if lcode ≠ Code.ok then lcode else if s.quotaFits n 0 1 = false then Code.rejectQuota else Code.ok := by
    have hlog : s.logCode n logen logq = lcode := s.logCode_eq logen logq
    rw [State.createCodes, firstCode_cons, firstCode_cons, firstCode_cons, firstCode_cons, show s.logCode n (bitAt p 127) (bits p 96 20) = lcode from hlog,
      show s.newTargetCode n (bits p 40 3) (bits p 48 12) = tcode from rfl]
    by_cases hs : shape
    · rw [if_neg (not_not.2 hs), if_pos (hshape.2 hs), if_neg (not_not.2 rfl)]
      cases s.quotaFits n 0 1 <;> rfl
    · rw [if_pos hs, if_neg (mt hshape.1 hs), if_pos hclass]
  refine ⟨fun hs => ?_, fun hs ht => ?_, fun hs ht hl => ?_, fun hs ht hl hq => ?_, fun hs ht hl hq hrise hroom => ?_⟩
  · exact ends_of hexec (State.queueCreate_refused (hcodes.trans (if_pos hs)) hclass)
  · exact ends_of hexec (State.queueCreate_refused (hcodes.trans ((if_neg (not_not.2 hs)).trans (if_pos ht))) ht)
  · exact ends_of hexec (State.queueCreate_refused (hcodes.trans ((if_neg (not_not.2 hs)).trans ((if_neg (not_not.2 ht)).trans (if_pos hl)))) hl)
  · exact ends_of hexec (State.queueCreate_refused (hcodes.trans ((if_neg (not_not.2 hs)).trans ((if_neg (not_not.2 ht)).trans
      ((if_neg (not_not.2 hl)).trans (if_pos hq))))) hquota)
  · obtain ⟨j, hfree, hj, hstate⟩ := State.freeQueueId_spec hrise hroom
    have hok : firstCode (s.createCodes n p) = Code.ok := hcodes.trans ((if_neg (not_not.2 hs)).trans ((if_neg (not_not.2 ht)).trans
      ((if_neg (not_not.2 hl)).trans (if_neg (by simp [hq])))))
    obtain ⟨t, htdef⟩ : ∃ t, t = (s.nextFresh.goodDesc j).setQueue j (newQueue n p) := ⟨_, rfl⟩
    have hends : ends i t Code.ok j 0 := ends_of hexec (htdef ▸ State.queueCreate_made hok hfree)
    have htq : t.queue j = newQueue n p := by rw [htdef, State.queue_setQueue, if_pos rfl]
    refine ⟨t, j, hends, hj, hstate, ?_⟩
    rw [htq]
    refine ⟨rfl, rfl, rfl, rfl, rfl, rfl, rfl, rfl, rfl, rfl, rfl, rfl, fun hlog => if_pos hlog, fun m hm => ?_, ?_, ?_, ?_⟩
    · rw [htdef, State.queue_setQueue, if_neg hm]
      rfl
    · rw [htdef]
      rfl
    · rw [htdef]
      rfl
    · rw [htdef]
      rfl

/-- QUEUE_FREE (R102, R119, R262). -/
theorem queueFree_clauses (htag : tag < 4096) (hrun : s.ready tag 0x11 (fun _ => true) = some (n, c)) :
    let ends (i : Instr) (t : State) (code r0 r1 : Nat) := exec i s = .next (t.finishCmd n c code r0 r1)
    let q := bits c.param 0 20
    let x := s.queue q
    let qcode := s.queueCode n q
    (qcode ≠ Code.ok → ends (.queueFree tag) s qcode 0 0) ∧
    (qcode = Code.ok → s.loggedTo q = true → ends (.queueFree tag) s Code.rejectClass 0 0) ∧
    (qcode = Code.ok → s.loggedTo q = false → ∃ w t : State, ends (.queueFree tag) t Code.ok 0 0 ∧ t.queue q = {} ∧
      (∀ j, j ≠ q → w.queue j = s.queue j ∧ t.queue j = w.judgeAll.queue j) ∧
      (∀ r ∈ w.refs, r.fl.ofQueue q = false) ∧ (∀ i, q ∉ (w.seamOf i).members) ∧
      (x.cls = 2 → x.ttype = 5 → ∀ c ∈ s.triple x.target, (t.ctx c).guarded = false) ∧
      (∀ r, r ≠ Reg.QM_LASTERR → r ≠ Reg.SCH_STATUS → w.reg r = s.reg r) ∧
      w = { s with regs := w.regs, cuffs := w.cuffs, voters := w.voters, queues := w.queues, refs := w.refs, seams := w.seams,
                   fifos := w.fifos } ∧
      t = { w.judgeAll with queues := t.queues, ctxs := t.ctxs }) := by
  intro ends q x qcode
  have hexec := exec_of_ready (i := .queueFree tag) htag rfl hrun
  have hcodes : firstCode [s.queueCode n q, if s.loggedTo q then Code.rejectClass else Code.ok] =
      if qcode ≠ Code.ok then qcode else if s.loggedTo q then Code.rejectClass else Code.ok := by
    rw [firstCode_cons, firstCode_cons]
    cases s.loggedTo q <;> rfl
  refine ⟨fun hq => ?_, fun hq hl => ?_, fun hq hl => ?_⟩
  · exact ends_of hexec (State.queueFree_refused (hcodes.trans (if_pos hq)) hq)
  · exact ends_of hexec (State.queueFree_refused (hcodes.trans ((if_neg (not_not.2 hq)).trans (if_pos hl))) (by decide))
  · have hfreed := ends_of hexec (State.queueFree_freed (hcodes.trans ((if_neg (not_not.2 hq)).trans (if_neg (by simp [hl])))))
    obtain ⟨hother, -, hrefs, hseams, hregs, hwframe⟩ := s.abortQueue_spec q
    obtain ⟨hgone, hjudged, hguard, htframe⟩ := s.freeQueue_spec q
    exact ⟨s.abortQueue q, s.freeQueue q, hfreed, hgone, fun j hj => ⟨hother j hj, hjudged j hj⟩, hrefs, hseams, hguard, hregs, hwframe, htframe⟩

/-- The effect of a QUEUE_CTRL by its code: STOP, RESUME or FLUSH (R99, R100). -/
theorem queueCtrl_clauses {i : Instr} {sub : Nat} {f : State → Nat → State}
    (hexec : exec i s = .next ((State.queueCtrl f s n c.param).st.finishCmd n c (State.queueCtrl f s n c.param).code
      (State.queueCtrl f s n c.param).r0 (State.queueCtrl f s n c.param).r1))
    (hf : (if sub = 1 then s.qStop (bits c.param 0 20) else if sub = 2 then s.qResume (bits c.param 0 20) else s.qFlush (bits c.param 0 20)) =
      f s (bits c.param 0 20)) :
    let ends (i : Instr) (t : State) (code r0 r1 : Nat) := exec i s = .next (t.finishCmd n c code r0 r1)
    let q := bits c.param 0 20
    let x := s.queue q
    let qcode := s.queueCode n q
    let others (t : State) := ∀ j, j ≠ q → t.queue j = s.queue j
    let t := if sub = 1 then s.qStop q else if sub = 2 then s.qResume q else s.qFlush q
    (qcode ≠ Code.ok → ends i s qcode 0 0) ∧
    (qcode = Code.ok → ends i t Code.ok 0 0) ∧
    (qcode = Code.ok → sub = 1 → x.state ≠ QState.flushing → t.queue q = { x with state := QState.stopped } ∧ others t ∧
      (∀ i, q ∉ (t.seamOf i).members) ∧ ∀ r, r ≠ Reg.SCH_STATUS → t.reg r = s.reg r) ∧
    (qcode = Code.ok → sub = 2 → x.ttype ≠ 1 → x.ttype ≠ 2 → x.state ≠ QState.flushing → t.queue q = { x with state := QState.run, err := 0 }) ∧
    (qcode = Code.ok → sub = 3 → (t.queue q).state = QState.flushing ∧ ∃ w : State, t.refs = w.judgeAll.refs ∧
      (∀ r ∈ w.refs, r.fl.ofQueue q = true → r.fl.act.sealed = true ∨ s.sticksAt r.fl = true) ∧
      ∀ r ∈ s.refs, r.fl.ofQueue q = false ∨ r.fl.act.sealed = true → r ∈ w.refs) := by
  intro ends q x qcode others t
  refine ⟨fun hq => ends_of hexec (State.queueCtrl_refused hq), fun hq => ?_, fun hq h1 hst => ?_, fun hq h2 ht1 ht2 hst => ?_, fun hq h3 => ?_⟩
  · have hdone := ends_of hexec (State.queueCtrl_done hq)
    rwa [← hf] at hdone
  · have ht : t = s.qStop q := if_pos h1
    obtain ⟨hat, hout, hother, hreg, -⟩ := s.qStop_spec q
    rw [ht]
    exact ⟨hat.trans (if_neg hst), hother, hout, hreg⟩
  · have hheld : (s.unpaused q).voteHeld q = false := by
      rw [s.voteHeld_unpaused, ← Bool.not_eq_true, s.voteHeld_iff]
      rintro ⟨-, ht | ht, -⟩
      · exact ht1 ht
      · exact ht2 ht
    have ht : t = s.unpaused q := (if_neg (by omega)).trans ((if_pos h2).trans ((s.qResume_eq q).trans (if_pos hheld)))
    rw [ht]
    exact (s.unpaused_spec q).1.trans (if_neg hst)
  · have ht : t = s.qFlush q := (if_neg (by omega)).trans (if_neg (by omega))
    obtain ⟨hstate, hrefs⟩ := s.qFlush_refs q
    obtain ⟨hmem, -⟩ := s.cleared_spec q
    rw [ht]
    refine ⟨hstate, s.cleared q, hrefs, fun r hr => ((hmem r).1 hr).2, fun r hr hkeep => (hmem r).2 ⟨hr, fun hof => ?_⟩⟩
    exact .inl (hkeep.resolve_left (by simp [hof]))

end Commands

/-- Settles O49: each queue command by the codes that refuse it, in order, and by what it makes of its queue. -/
theorem queueCommands : Obligations.QueueCommands := by
  unfold Obligations.QueueCommands
  intro s tag n c htag run ends p f q x qcode others
  refine ⟨fun h => (nopCommand_clauses htag h).1, fun h => ?_, fun h => (nopCommand_clauses htag h).2, queueCreate_clauses htag,
    queueFree_clauses htag, fun sub hsub hready i hi => ?_, queueAdmit_clauses htag⟩
  · refine (onUnit_of (decide_eq_true htag) _).trans (congrArg _ ?_)
    simp only [State.runCmd, h]
  · match sub, hsub with
    | 0, _ => cases hi
    | 1, _ =>
      cases hi
      exact queueCtrl_clauses (sub := 1) (exec_of_ready htag rfl hready) rfl
    | 2, _ =>
      cases hi
      exact queueCtrl_clauses (sub := 2) (exec_of_ready htag rfl hready) rfl
    | 3, _ =>
      cases hi
      exact queueCtrl_clauses (sub := 3) (exec_of_ready htag rfl hready) rfl

end Sys2Proof.Machine

/-! O45: messages that leave at once, and what sending them may change (R278, R282, R283). -/

namespace Sys2Proof.Machine

open Sys2Proof

/-! ### Sending -/

/-- Between `s` and `t` messages were sent, kept as pending bits, or held for the exit from L1. -/
structure Mailed (s t : State) : Prop where
  frame : ∃ o l v, t = { s with out := o, link := l, vecs := v }
  link : t.link = { s.link with held := t.link.held }
  l0 : s.link.l0 = true → t.link = s.link

section Mailed
variable {s t u : State}

theorem Mailed.refl : Mailed s s := ⟨⟨_, _, _, rfl⟩, rfl, fun _ => rfl⟩

theorem Mailed.trans (h : Mailed s t) (g : Mailed t u) : Mailed s u where
  frame := by
    obtain ⟨o, l, v, rfl⟩ := h.frame
    obtain ⟨o', l', v', rfl⟩ := g.frame
    exact ⟨_, _, _, rfl⟩
  link := by rw [g.link, h.link]
  l0 hl := by
    have ht := h.l0 hl
    exact (g.l0 (ht ▸ hl)).trans ht

theorem Mailed.fns (h : Mailed s t) : t.fns = s.fns := by
  obtain ⟨o, l, v, rfl⟩ := h.frame
  rfl

variable (s)

theorem State.sendVec_mailed (n v : Nat) : Mailed s (s.sendVec n v) := by
  simp only [State.sendVec]
  split
  · exact .refl
  split
  · exact .refl
  split
  · exact ⟨⟨_, _, _, rfl⟩, rfl, fun _ => rfl⟩
  split
  · next hl0 =>
    split
    · exact .refl
    · exact ⟨⟨_, _, _, rfl⟩, rfl, fun h => absurd h (by rw [hl0]; decide)⟩
  · exact ⟨⟨_, _, _, rfl⟩, rfl, fun _ => rfl⟩

theorem State.sendAll_mailed (ks : List Nat) : Mailed s (s.sendAll ks) :=
  List.foldlRecOn (motive := Mailed s) _ _ .refl fun u hu _ _ => hu.trans (u.sendVec_mailed ..)

@[simp] theorem State.sendAll_nil : s.sendAll [] = s := rfl

theorem State.sendAll_one {n v : Nat} (hv : v < 2048) : s.sendAll [n * 2048 + v] = s.sendVec n v := by
  have hk : (n * 2048 + v) / 2048 = n ∧ (n * 2048 + v) % 2048 = v := by omega
  show s.sendVec ((n * 2048 + v) / 2048) ((n * 2048 + v) % 2048) = _
  rw [hk.1, hk.2]

end Mailed

/-! ### One open vector -/

/-- The message of one vector has left, and its events are told. -/
structure Sent (n v : Nat) (s t : State) : Prop where
  out : t.out = s.out ++ [.msix n v]
  count : (t.vec (n * 2048 + v)).count = 0
  start : (t.vec (n * 2048 + v)).start = none
  pba : (t.vec (n * 2048 + v)).pba = false
  others : ∀ k, k ≠ n * 2048 + v → t.vec k = s.vec k

/-- MSI-X may leave the vector: HVC on, the link in L0, the function in D0 and the vector open (R278, R282, R283). -/
structure MayLeave (s : State) (n v : Nat) : Prop where
  on : s.bit Reg.HVC_CTRL 0 = true
  awake : (s.fn n).dstate = 0
  opened : s.vecOpen n v = true
  l0 : s.link.l0 = true

section One
variable {s : State} {n v : Nat}

theorem State.vecOpen_of (hen : (s.fn n).msixEn = true) (hbme : (s.fn n).bme = true) (hmask : (s.fn n).fmask = false)
    (hvec : (s.vec (n * 2048 + v)).masked = false) (hup : s.link.up = true) : s.vecOpen n v = true := by
  simp [State.vecOpen, vecKey, hen, hbme, hmask, hvec, hup]

theorem State.masked_sendVec (s : State) (n v k : Nat) : ((s.sendVec n v).vec k).masked = (s.vec k).masked := by
  have hset (x : Vec) (hx : x.masked = (s.vec (vecKey n v)).masked) (t : State) (ht : t.vecs = (s.setVec (vecKey n v) x).vecs) :
      (t.vec k).masked = (s.vec k).masked := by
    rw [State.vec, ht, ← State.vec, State.vec_setVec]
    split
    · next h => rw [h, hx]
    · rfl
  simp only [State.sendVec]
  split
  · rfl
  split
  · rfl
  split
  · exact hset { s.vec (vecKey n v) with pba := true } rfl _ rfl
  split
  · split <;> rfl
  · exact hset { s.vec (vecKey n v) with count := 0, start := none, pba := false } rfl _ rfl

theorem State.sendVec_leaves (h : MayLeave s n v) : Sent n v s (s.sendVec n v) := by
  have heq : s.sendVec n v = (s.setVec (n * 2048 + v) { s.vec (n * 2048 + v) with count := 0, start := none, pba := false }).send (.msix n v) := by
    simp only [State.sendVec, h.on, h.awake, h.opened, h.l0, vecKey]
    rfl
  have hsame : (s.sendVec n v).vec (n * 2048 + v) = { s.vec (n * 2048 + v) with count := 0, start := none, pba := false } := by
    rw [heq]
    exact (State.vec_setVec s (n * 2048 + v) _ _).trans (if_pos rfl)
  refine ⟨by rw [heq]; rfl, by rw [hsame], by rw [hsame], by rw [hsame], fun k hk => ?_⟩
  rw [heq]
  exact (State.vec_setVec s (n * 2048 + v) k _).trans (if_neg hk)

/-- A vector that is closed keeps its message as its pending bit, or stays. -/
theorem State.sendVec_closed (h : s.vecOpen n v = false) : (s.sendVec n v).out = s.out := by
  simp only [State.sendVec, h, if_true]
  split
  · rfl
  split <;> rfl

theorem State.sendVec_closed_vec (h : s.vecOpen n v = false) (hp : (s.vec (n * 2048 + v)).pba = true) (k : Nat) :
    (s.sendVec n v).vec k = s.vec k := by
  simp only [State.sendVec, h, if_true]
  split
  · rfl
  split
  · rfl
  · rw [State.vec_setVec]
    split
    · next hk => rw [hk, ← show (s.vec (vecKey n v)).pba = true from hp]
    · rfl

end One

end Sys2Proof.Machine

/-! O45: the link, configuration requests, sleep and the masks of vectors (R246, R270, R282, R283, R329). -/

namespace Sys2Proof.Machine

open Sys2Proof

/-! ### The link -/

section LinkEvents
variable {s : State}

/-- The link is up and in L0, on its reference. -/
def State.trained (s : State) : State :=
  { s with link := { s.link with up := true, l0 := true }, pwr := { s.pwr with pcieRef := true } }

theorem exec_linkTrained (hoff : s.mode ≠ Mode.off) : exec .linkTrained s = .next ((List.range 512).foldl State.cqRooms s.trained) :=
  congrArg Host.Outcome.next (if_neg hoff)

theorem State.cqRooms_none {n : Nat} (h : ∀ c, (s.chan c).owner = n → (s.chan c).heldRec = none) : s.cqRooms n = s := by
  have hnone : ((Tbl.keys s.chans).filter fun c => (s.chan c).heldRec.isSome && decide ((s.chan c).owner = n)) = [] := by
    refine List.filter_eq_nil_iff.mpr fun c _ => ?_
    by_cases ho : (s.chan c).owner = n
    · simp [h c ho]
    · simp [ho]
  rw [State.cqRooms, hnone, List.foldl_nil]

theorem State.cqRooms_all_none (h : ∀ c, (s.chan c).heldRec = none) : (List.range 512).foldl State.cqRooms s = s :=
  List.foldlRecOn (motive := fun u => u = s) _ _ rfl fun u hu n _ => by rw [hu, State.cqRooms_none fun c _ => h c]

theorem exec_linkReachesL0 (hup : s.link.up = true) : exec .linkReachesL0 s = .next s.reachL0 :=
  congrArg Host.Outcome.next (if_pos hup)

theorem State.reachL0_eq : s.reachL0 =
    ({ s with link := { s.link with l0 := true, held := [] } } : State).sendAll (s.link.held.map fun x => vecKey x.1 x.2) := rfl

end LinkEvents

/-! ### Configuration requests -/

section Config
variable {s : State} {n : Nat} (hup : s.link.up = true) (hoff : s.mode ≠ Mode.off) (hflr : (s.fn n).flr = false)
include hup hoff hflr

theorem State.config_acts (hd : s.dozing = false) (r : ConfigReq) (f : State → State) : s.config n r f = f s := by
  have hreach : s.cfgReach n = true := by simp [State.cfgReach, hup, hflr, hoff]
  simp [State.config, hreach, hd]

theorem State.config_held (hd : s.dozing = true) (r : ConfigReq) (f : State → State) :
    s.config n r f = s.hold [{ fn := n, cfg := some r }] := by
  have hreach : s.cfgReach n = true := by simp [State.cfgReach, hup, hflr, hoff]
  simp [State.config, hreach, hd]

end Config

section Hold
variable {s : State}

theorem Posted.aborts_cfg (n : Nat) (r : ConfigReq) : ({ fn := n, cfg := some r } : Posted).aborts = false := by
  simp [Posted.aborts]

theorem State.startWake_spec (u : State) (hd : u.dozing = true) (hw : u.pwr.wake = false) {cause : Nat} (hc : cause < 8) (port : Nat) :
    (u.startWake cause port).pwr.wake = true ∧ (u.startWake cause port).fld Reg.PWR_STATUS 16 3 = cause := by
  obtain ⟨x, hx⟩ : ∃ x, x = (u.setFld Reg.PWR_STATUS 16 3 cause).setFld Reg.PWR_STATUS 19 2 port := ⟨_, rfl⟩
  have hcause : x.fld Reg.PWR_STATUS 16 3 = cause := by
    rw [hx, State.fld_setFld_apart _ _ _ _ _ _ _ (by decide) (by decide), State.fld_setFld_same _ _ _ _ _ (by decide)]
    exact Nat.mod_eq_of_lt hc
  rw [State.startWake, if_pos ⟨hd, hw⟩, ← hx]
  exact ⟨rfl, hcause⟩

theorem State.hold_cfg_wakes (n : Nat) (r : ConfigReq) (hd : s.dozing = true) (hen : s.bit Reg.PWR_WAKE 4 = true) (hw : s.pwr.wake = false) :
    (s.hold [{ fn := n, cfg := some r }]).pwr.wake = true ∧
      (s.hold [{ fn := n, cfg := some r }]).fld Reg.PWR_STATUS 16 3 = 2 := by
  obtain ⟨u, hu⟩ : ∃ u : State, u = { s with link := { s.link with posted := s.link.posted ++ [{ fn := n, cfg := some r }] } } := ⟨_, rfl⟩
  have heq : s.hold [{ fn := n, cfg := some r }] = u.startWake 2 0 := by
    rw [State.hold, List.any_cons, List.any_nil, Posted.aborts_cfg, hu]
    exact if_pos hen
  have hud : u.dozing = true := by rw [hu]; exact hd
  rw [heq]
  exact u.startWake_spec hud (by rw [hu]; exact hw) (by decide) 0

end Hold

/-! ### A configuration write -/

section Write
variable {s : State} {n : Nat}

theorem State.sendPending_mailed (u : State) (n : Nat) : Mailed u (u.sendPending n) := u.sendAll_mailed _

/-- Bus Master Enable takes its value; where it is set, what waited for it is sent. -/
def State.master (s : State) (n : Nat) (bme : Option Bool) : State :=
  match bme with
  | some true => (s.setFn n { s.fn n with bme := true }).sendPending n
  | some false => s.setFn n { s.fn n with bme := false }
  | none => s

/-- VF Enable takes its value, at the PF. -/
def State.enableVfs (s : State) (n : Nat) (vf : Option Bool) : State :=
  match vf with
  | some b => if n = 0 then { s with link := { s.link with vfEnable := b } } else s
  | none => s

theorem State.configure_eq (bme vf : Option Bool) : s.configure n bme vf = (s.master n bme).enableVfs n vf := by
  rcases bme with _ | _ | _ <;> rcases vf with _ | _ <;> rfl

theorem State.fn_setFn_of {u : State} {f : Fn} (h : u.fns = (s.setFn n f).fns) : u.fn n = f ∧ ∀ m, m ≠ n → u.fn m = s.fn m := by
  have hfn (m : Nat) : u.fn m = (s.setFn n f).fn m := by rw [State.fn, State.fn, h]
  exact ⟨by rw [hfn, State.fn_setFn, if_pos rfl], fun m hm => by rw [hfn, State.fn_setFn, if_neg hm]⟩

theorem State.master_spec (bme : Option Bool) : let t := s.master n bme
    (t.fn n = { s.fn n with bme := bme.getD (s.fn n).bme } ∧ ∀ m, m ≠ n → t.fn m = s.fn m) ∧
      Mailed { s with fns := t.fns } t ∧
      (bme ≠ some true → t.out = s.out ∧ t.vecs = s.vecs ∧ t.link = s.link) ∧
      (bme = some true → t = (s.setFn n { s.fn n with bme := true }).sendPending n) := by
  rcases bme with _ | _ | _
  · exact ⟨⟨rfl, fun _ _ => rfl⟩, .refl, fun _ => ⟨rfl, rfl, rfl⟩, nofun⟩
  · exact ⟨State.fn_setFn_of rfl, .refl, fun _ => ⟨rfl, rfl, rfl⟩, nofun⟩
  · have hmail := (s.setFn n { s.fn n with bme := true }).sendPending_mailed n
    have hfns : (s.master n (some true)).fns = (s.setFn n { s.fn n with bme := true }).fns := hmail.fns
    refine ⟨State.fn_setFn_of hfns, ?_, fun h => absurd rfl h, fun _ => rfl⟩
    rw [hfns]
    exact hmail

theorem State.enableVfs_spec (vf : Option Bool) : s.enableVfs n vf =
    { s with link := { s.link with vfEnable := if n = 0 then vf.getD s.link.vfEnable else s.link.vfEnable } } := by
  rcases vf with _ | b
  · show s = _
    simp only [Option.getD_none, ite_self]
  · by_cases h : n = 0 <;> simp [State.enableVfs, h]

theorem State.configurePme_spec (pmeEn : Option Bool) (clear : Bool) : let t := s.configurePme n pmeEn clear
    (t.fn n = { s.fn n with pmeEn := pmeEn.getD (s.fn n).pmeEn, pmeStatus := (s.fn n).pmeStatus && !clear } ∧
      ∀ m, m ≠ n → t.fn m = s.fn m) ∧ t = { s with fns := t.fns } :=
  ⟨State.fn_setFn_of rfl, rfl⟩

theorem State.leaveL1_spec : let t := s.leaveL1
    t = { s with out := t.out, link := t.link, vecs := t.vecs } ∧ t.link.l0 = true ∧
      (t.link.vfEnable = s.link.vfEnable ∧ t.link.l1 = s.link.l1) ∧
      (s.link.l0 = true ∨ s.link.held = [] → t.out = s.out ∧ t.vecs = s.vecs) := by
  show _ ∧ _
  by_cases hl0 : s.link.l0 = true
  · rw [State.leaveL1, if_pos hl0]
    exact ⟨rfl, hl0, ⟨rfl, rfl⟩, fun _ => ⟨rfl, rfl⟩⟩
  · rw [State.leaveL1, if_neg hl0]
    obtain ⟨u, hu⟩ : ∃ u : State, u = { s with link := { s.link with l0 := true, held := [] } } := ⟨_, rfl⟩
    have hmail := u.sendAll_mailed (s.link.held.map fun x => vecKey x.1 x.2)
    have heq : s.reachL0 = u.sendAll (s.link.held.map fun x => vecKey x.1 x.2) := by rw [hu]; rfl
    have hlink := hmail.l0 (by rw [hu])
    rw [heq]
    refine ⟨?_, by rw [hlink, hu], by rw [hlink, hu]; exact ⟨rfl, rfl⟩, ?_⟩
    · obtain ⟨o, l, v, ht⟩ := hmail.frame
      rw [ht, hu]
    · rintro (h | h)
      · exact absurd h hl0
      · rw [h, List.map_nil, State.sendAll_nil, hu]
        exact ⟨rfl, rfl⟩

/-- Whether the link is in L0 once ASPM L1 has been written (R246). -/
def l0After (l1 : Option Bool) (l0 : Bool) : Bool :=
  match l1 with
  | none => l0
  | some b => !b

theorem State.configureL1_spec (l1 : Option Bool) : let t := s.configureL1 n l1
    t = { s with out := t.out, link := t.link, vecs := t.vecs } ∧ t.link.vfEnable = s.link.vfEnable ∧
      t.link.l1 = (if n = 0 then l1.getD s.link.l1 else s.link.l1) ∧
      t.link.l0 = (if n = 0 then l0After l1 s.link.l0 else s.link.l0) ∧
      (n ≠ 0 ∨ l1 ≠ some false ∨ s.link.l0 = true ∨ s.link.held = [] → t.out = s.out ∧ t.vecs = s.vecs) := by
  show _ ∧ _
  rcases l1 with _ | b
  · exact ⟨rfl, rfl, (ite_self _).symm, (ite_self _).symm, fun _ => ⟨rfl, rfl⟩⟩
  by_cases hn : n = 0
  · subst hn
    rcases b with _ | _
    · obtain ⟨hframe, hl0, ⟨hvf, hl1⟩, hquiet⟩ := State.leaveL1_spec (s := { s with link := { s.link with l1 := false } })
      exact ⟨hframe, hvf, hl1, hl0, fun h => hquiet (by simpa using h)⟩
    · exact ⟨rfl, rfl, rfl, rfl, fun _ => ⟨rfl, rfl⟩⟩
  · simp only [State.configureL1, ne_eq, hn, not_false_eq_true, if_true, if_false]
    exact ⟨trivial, trivial, trivial, trivial, fun _ => ⟨trivial, trivial⟩⟩

theorem State.judgeHboot_none (h : s.boot.hboot = none) : s.judgeHboot = s := by
  rw [State.judgeHboot, h]

end Write

end Sys2Proof.Machine

/-! O45: a configuration write, sleep and return, and the masks of vectors (R270, R282, R283, R346). -/

namespace Sys2Proof.Machine

open Sys2Proof

/-! ### A configuration write -/

section Write
variable {s : State} {n v : Nat}

/-- The vectors of a function that hold a pending bit. -/
def State.pbaVecs (s : State) (n : Nat) : List Nat := (Tbl.keys s.vecs).filter fun k => decide (k / 2048 = n) && (s.vec k).pba

theorem State.sendPending_none (h : s.pbaVecs n = []) : s.sendPending n = s := by
  rw [State.sendPending, ← State.pbaVecs, h, State.sendAll_nil]

theorem State.sendPending_one (hv : v < 2048) (h : s.pbaVecs n = [n * 2048 + v]) : s.sendPending n = s.sendVec n v := by
  rw [State.sendPending, ← State.pbaVecs, h, State.sendAll_one s hv]

theorem Sent.congr {s s' t t' : State} (h : Sent n v s t) (hs : s.out = s'.out ∧ s.vecs = s'.vecs) (ht : t'.out = t.out ∧ t'.vecs = t.vecs) :
    Sent n v s' t' := by
  have hvt (k : Nat) : t'.vec k = t.vec k := by rw [State.vec, State.vec, ht.2]
  have hvs (k : Nat) : s.vec k = s'.vec k := by rw [State.vec, State.vec, hs.2]
  exact ⟨by rw [ht.1, h.out, hs.1], by rw [hvt, h.count], by rw [hvt, h.start], by rw [hvt, h.pba],
    fun k hk => by rw [hvt, h.others k hk, hvs]⟩

theorem State.configWrite_spec (hboot : s.boot.hboot = none) (hv : v < 2048) (bme vf pmeEn : Option Bool) (more : ConfigMore) :
    let f := s.fn n
    let t := s.configWrite n bme vf pmeEn more
    (t.fn n = { f with bme := bme.getD f.bme, pmeEn := pmeEn.getD f.pmeEn, pmeStatus := f.pmeStatus && !more.pmeClear } ∧
      ∀ m, m ≠ n → t.fn m = s.fn m) ∧
    t.link.vfEnable = (if n = 0 then vf.getD s.link.vfEnable else s.link.vfEnable) ∧
    t.link.l1 = (if n = 0 then more.l1.getD s.link.l1 else s.link.l1) ∧
    t.link.l0 = (if n = 0 then l0After more.l1 s.link.l0 else s.link.l0) ∧
    (bme = some true → s.pbaVecs n = [n * 2048 + v] → MayLeave (s.setFn n { f with bme := true }) n v → Sent n v s t) ∧
    ((bme ≠ some true ∨ s.pbaVecs n = []) → n ≠ 0 ∨ more.l1 ≠ some false ∨ s.link.l0 = true ∨ s.link.held = [] →
      t.out = s.out ∧ t.vecs = s.vecs) ∧
    t = { s with out := t.out, fns := t.fns, link := t.link, vecs := t.vecs } := by
  show _ ∧ _
  obtain ⟨⟨hfn, hothers⟩, hmail, hquiet, hsend⟩ := State.master_spec (s := s) (n := n) bme
  obtain ⟨w, hw⟩ : ∃ w, w = s.master n bme := ⟨_, rfl⟩
  rw [← hw] at hfn hothers hmail hquiet hsend
  obtain ⟨x, hx⟩ : ∃ x, x = w.enableVfs n vf := ⟨_, rfl⟩
  have hxeq : x = { w with link := { w.link with vfEnable := if n = 0 then vf.getD w.link.vfEnable else w.link.vfEnable } } :=
    hx.trans (State.enableVfs_spec vf)
  obtain ⟨⟨hpfn, hpothers⟩, hpframe⟩ := State.configurePme_spec (s := x) (n := n) pmeEn more.pmeClear
  obtain ⟨y, hy⟩ : ∃ y, y = x.configurePme n pmeEn more.pmeClear := ⟨_, rfl⟩
  rw [← hy] at hpfn hpothers hpframe
  obtain ⟨hlframe, hvf, hl1, hl0, hlquiet⟩ := State.configureL1_spec (s := y) (n := n) more.l1
  obtain ⟨z, hz⟩ : ∃ z, z = y.configureL1 n more.l1 := ⟨_, rfl⟩
  rw [← hz] at hlframe hvf hl1 hl0 hlquiet
  have hwl : w.link = { s.link with held := w.link.held } := hmail.link
  have hxfns : x.fns = w.fns := by rw [hxeq]
  have hxf (m : Nat) : x.fn m = w.fn m := by rw [State.fn, State.fn, hxfns]
  have hxov : x.out = w.out ∧ x.vecs = w.vecs := by rw [hxeq]; exact ⟨rfl, rfl⟩
  have hyov : y.out = w.out ∧ y.vecs = w.vecs := by rw [hpframe]; exact hxov
  have hylink : y.link = { w.link with vfEnable := if n = 0 then vf.getD w.link.vfEnable else w.link.vfEnable } := by rw [hpframe, hxeq]
  have hzf (m : Nat) : z.fn m = y.fn m := by rw [hlframe]; rfl
  have hframe : z = { s with out := z.out, fns := z.fns, link := z.link, vecs := z.vecs } := by
    obtain ⟨o, l, u, hwe⟩ := hmail.frame
    rw [hlframe, hpframe, hxeq, hwe]
  have ht : s.configWrite n bme vf pmeEn more = z := by
    have hjudge : s.configWrite n bme vf pmeEn more = z.judgeHboot := by
      rw [State.configWrite, State.configure_eq, ← hw, ← hx, ← hy, ← hz]
    rw [hjudge, State.judgeHboot_none (by rw [hframe]; exact hboot)]
  have hheld : w.link.held = s.link.held → w.out = s.out → w.vecs = s.vecs →
      n ≠ 0 ∨ more.l1 ≠ some false ∨ s.link.l0 = true ∨ s.link.held = [] → z.out = s.out ∧ z.vecs = s.vecs := by
    intro hh ho hvec h
    have hy' : n ≠ 0 ∨ more.l1 ≠ some false ∨ y.link.l0 = true ∨ y.link.held = [] := by
      rw [hylink, hwl, hh]
      exact h
    obtain ⟨hout, hvecs⟩ := hlquiet hy'
    exact ⟨by rw [hout, hyov.1, ho], by rw [hvecs, hyov.2, hvec]⟩
  rw [ht]
  refine ⟨⟨?_, fun m hm => ?_⟩, ?_, ?_, ?_, ?_, ?_, hframe⟩
  · rw [hzf, hpfn, hxf, hfn]
  · rw [hzf, hpothers m hm, hxf, hothers m hm]
  · rw [hvf, hylink, hwl]
  · rw [hl1, hylink, hwl]
  · rw [hl0, hylink, hwl]
  · intro hb hp hleave
    have hweq := hsend hb
    obtain ⟨u, hu⟩ : ∃ u, u = s.setFn n { s.fn n with bme := true } := ⟨_, rfl⟩
    have huov : u.out = s.out ∧ u.vecs = s.vecs ∧ u.link = s.link := by rw [hu]; exact ⟨rfl, rfl, rfl⟩
    rw [← hu] at hweq hleave
    have hup : u.pbaVecs n = [n * 2048 + v] := by rw [hu]; exact hp
    rw [State.sendPending_one hv hup] at hweq
    have hl0s : y.link.l0 = true := by rw [hylink, hwl, ← huov.2.2]; exact hleave.l0
    obtain ⟨hout, hvecs⟩ := hlquiet (.inr (.inr (.inl hl0s)))
    exact (State.sendVec_leaves hleave).congr ⟨huov.1, huov.2.1⟩ ⟨by rw [hout, hyov.1, hweq], by rw [hvecs, hyov.2, hweq]⟩
  · intro hor
    by_cases hb : bme = some true
    · have hweq := hsend hb
      have hnone : w = s.setFn n { s.fn n with bme := true } := by
        rw [hweq, State.sendPending_none]
        exact hor.resolve_left fun h => h hb
      exact hheld (by rw [hnone]; rfl) (by rw [hnone]; rfl) (by rw [hnone]; rfl)
    · obtain ⟨ho, hvec, hl⟩ := hquiet hb
      exact hheld (by rw [hl]) ho hvec

end Write

/-! ### Sleep and return -/

section Sleep
variable {s : State} {n v : Nat}

theorem exec_configurationWrite (hn : n < 512) (bme vf pmeEn : Option Bool) (more : ConfigMore) :
    exec (.configurationWrite n bme vf pmeEn more) s =
      .next (s.config n (.config bme vf pmeEn more) fun s => s.configWrite n bme vf pmeEn more) :=
  onUnit_of (by simpa [okFn] using hn) _

theorem exec_d3hotEntry (hn : n < 512) (cold : Bool) :
    exec (.d3hotEntry n cold) s = .next (s.config n (.sleep cold) fun s => s.sleep n cold) :=
  onUnit_of (by simpa [okFn] using hn) _

theorem exec_d0Return (hn : n < 512) : exec (.d0Return n) s = .next (s.config n .awake fun s => s.awake n) :=
  onUnit_of (by simpa [okFn] using hn) _

theorem exec_vectorUnmask (hn : n < 512) (hv : v < if n = 0 then 2048 else 16) (w : MsixWrite) :
    exec (.vectorUnmask n v w) s = .next (s.config n (.msix v w) fun s => s.writeMsix n v w) :=
  onUnit_of (by simpa [okFn, okVec] using ⟨hn, hv⟩) _

/-- The vectors with events that may send as the function falls asleep. -/
def State.flushed (s : State) (n : Nat) : List Nat := (s.countedVecs n).filter fun k => s.vecOpen n (k % 2048)

theorem State.sleep_spec (hv : v < 2048) (cold : Bool) :
    let t := s.sleep n cold
    (t.fn n = { s.fn n with dstate := if cold then 2 else 1 } ∧ ∀ m, m ≠ n → t.fn m = s.fn m) ∧
    ((s.fn n).dstate = 0 → s.flushed n = [n * 2048 + v] → MayLeave s n v → Sent n v s t) ∧
    (s.flushed n = [] → t.out = s.out ∧ t.vecs = s.vecs) ∧
    t = { s with out := t.out, fns := t.fns, link := t.link, vecs := t.vecs } := by
  show _ ∧ _
  obtain ⟨u, hu⟩ : ∃ u, u = if (s.fn n).dstate = 0 then s.sendAll (s.flushed n) else s := ⟨_, rfl⟩
  have hmail : Mailed s u := by
    rw [hu]
    split
    · exact s.sendAll_mailed _
    · exact .refl
  have hfn (m : Nat) : u.fn m = s.fn m := by rw [State.fn, State.fn, hmail.fns]
  have ht : s.sleep n cold = u.setFn n { u.fn n with dstate := if cold then 2 else 1 } := by rw [hu]; rfl
  rw [ht]
  refine ⟨⟨by rw [State.fn_setFn, if_pos rfl, hfn], fun m hm => by rw [State.fn_setFn, if_neg hm, hfn]⟩, fun hd hone hleave => ?_,
    fun hnone => ?_, ?_⟩
  · rw [if_pos hd, hone, State.sendAll_one s hv] at hu
    exact (State.sendVec_leaves hleave).congr ⟨rfl, rfl⟩ ⟨by rw [← hu]; rfl, by rw [← hu]; rfl⟩
  · have hsame : u = s := by rw [hu, hnone, State.sendAll_nil, ite_self]
    rw [hsame]
    exact ⟨rfl, rfl⟩
  · obtain ⟨o, l, w, hue⟩ := hmail.frame
    rw [hue]
    rfl

theorem State.awake_stays (h : (s.fn n).dstate = 0) : s.awake n = s := if_pos h

/-- The function is in D0, before its held records are written. -/
def State.woken (s : State) (n : Nat) : State := s.setFn n { s.fn n with dstate := 0 }

theorem State.awake_eq (h : (s.fn n).dstate ≠ 0) : s.awake n =
    let w := (List.range (s.fn n).waiting.length).foldl (fun s _ => s.writeCpl n) (s.woken n)
    (w.cqRooms n).sendAll (w.countedVecs n) := by
  have hfn : (s.woken n).fn n = { s.fn n with dstate := 0 } := by rw [State.woken, State.fn_setFn, if_pos rfl]
  have heq : s.awake n = let w := (List.range ((s.woken n).fn n).waiting.length).foldl (fun s _ => s.writeCpl n) (s.woken n)
      (w.cqRooms n).sendAll (w.countedVecs n) := if_neg h
  rw [heq, hfn]

theorem State.awake_none (h : (s.fn n).dstate ≠ 0) (hw : (s.fn n).waiting = []) :
    s.awake n = ((s.woken n).cqRooms n).sendAll ((s.woken n).countedVecs n) := by
  rw [State.awake_eq h, hw]
  rfl

theorem State.awake_one (h : (s.fn n).dstate ≠ 0) {r : Cpl} (hw : (s.fn n).waiting = [r]) :
    s.awake n = (((s.woken n).writeCpl n).cqRooms n).sendAll (((s.woken n).writeCpl n).countedVecs n) := by
  rw [State.awake_eq h, hw]
  rfl

theorem State.awake_sends (hv : v < 2048) (h : (s.fn n).dstate ≠ 0) (hw : (s.fn n).waiting = [])
    (hchan : ∀ c, (s.chan c).owner = n → (s.chan c).heldRec = none) (hone : s.countedVecs n = [n * 2048 + v])
    (hleave : MayLeave (s.woken n) n v) : Sent n v s (s.awake n) ∧ (s.awake n).fn n = { s.fn n with dstate := 0 } := by
  obtain ⟨u, hu⟩ : ∃ u, u = s.woken n := ⟨_, rfl⟩
  have huv : u.out = s.out ∧ u.vecs = s.vecs := by rw [hu]; exact ⟨rfl, rfl⟩
  have hrooms : u.cqRooms n = u := State.cqRooms_none fun c => by rw [hu]; exact hchan c
  have hcounted : u.countedVecs n = [n * 2048 + v] := by rw [hu]; exact hone
  rw [State.awake_none h hw, ← hu, hrooms, hcounted, State.sendAll_one u hv]
  rw [← hu] at hleave
  refine ⟨(State.sendVec_leaves hleave).congr huv ⟨rfl, rfl⟩, ?_⟩
  rw [State.fn, (u.sendVec_mailed n v).fns, ← State.fn, hu, State.woken, State.fn_setFn, if_pos rfl]

end Sleep

/-! ### The masks of vectors -/

section Masks
variable {s : State} {n v : Nat}

theorem Tbl.keys_put_of_mem {α : Type} {t : Tbl α} (h : Tbl.Rising t) {k : Nat} (hk : k ∈ Tbl.keys t) (x : α) :
    Tbl.keys (Tbl.put t k x) = Tbl.keys t := by
  induction t with
  | nil => exact absurd hk List.not_mem_nil
  | cons e r ih =>
    obtain ⟨a, y⟩ := e
    rw [Tbl.put]
    by_cases ha : a = k
    · rw [if_pos ha, Tbl.keys, Tbl.keys, List.map_cons, List.map_cons, ha]
    · have hr : k ∈ Tbl.keys r := (List.mem_cons.mp hk).resolve_left fun e => ha e.symm
      obtain ⟨e, he, rfl⟩ := List.mem_map.mp hr
      have hlt : a < e.1 := (List.pairwise_cons.mp h).1 e he
      rw [if_neg ha, if_neg (by omega)]
      exact congrArg (a :: ·) (ih (List.pairwise_cons.mp h).2 hr)

theorem State.pbaVecs_mem {k : Nat} (h : k ∈ s.pbaVecs n) : k ∈ Tbl.keys s.vecs ∧ k / 2048 = n ∧ (s.vec k).pba = true := by
  have hk := List.mem_filter.mp h
  exact ⟨hk.1, by simpa using hk.2⟩

/-- A vector's Mask takes a value. -/
def State.maskVec (s : State) (n v : Nat) (m : Bool) : State :=
  s.setVec (n * 2048 + v) { s.vec (n * 2048 + v) with masked := m }

theorem State.vec_maskVec (m : Bool) (k : Nat) : (s.maskVec n v m).vec k =
    if k = n * 2048 + v then { s.vec (n * 2048 + v) with masked := m } else s.vec k := State.vec_setVec ..

theorem State.pba_maskVec (m : Bool) (k : Nat) : ((s.maskVec n v m).vec k).pba = (s.vec k).pba := by
  rw [State.vec_maskVec]
  split
  · next h => rw [h]
  · rfl

theorem Vec.pba_of_get {t : Tbl Vec} {k : Nat} (h : k ∉ Tbl.keys t) : (Tbl.get {} t k).pba = false := by
  rw [get_of_not_mem h]

theorem State.pbaVecs_maskVec_none (h : s.pbaVecs n = []) (m : Bool) : (s.maskVec n v m).pbaVecs n = [] := by
  have hpba (k : Nat) (hk : k / 2048 = n) : (s.vec k).pba = false := by
    by_cases hmem : k ∈ Tbl.keys s.vecs
    · by_contra hc
      have : k ∈ s.pbaVecs n := List.mem_filter.mpr ⟨hmem, by simp [hk, hc]⟩
      rw [h] at this
      exact absurd this List.not_mem_nil
    · exact Vec.pba_of_get hmem
  refine List.filter_eq_nil_iff.mpr fun k _ => ?_
  rw [State.pba_maskVec]
  by_cases hk : k / 2048 = n
  · simp [hpba k hk]
  · simp [hk]

theorem State.pbaVecs_maskVec_one (hc : s.canonical = true) (h : s.pbaVecs n = [n * 2048 + v]) (m : Bool) :
    (s.maskVec n v m).pbaVecs n = [n * 2048 + v] := by
  obtain ⟨hmem, -, hpba⟩ := State.pbaVecs_mem (k := n * 2048 + v) (by rw [h]; exact List.mem_singleton_self _)
  have hkeys : Tbl.keys (s.maskVec n v m).vecs = Tbl.keys s.vecs := by
    have hne : ({ s.vec (n * 2048 + v) with masked := m } : Vec) ≠ {} := fun h => by
      have := congrArg Vec.pba h
      rw [hpba] at this
      exact absurd this (by decide)
    have hrising : Tbl.Rising s.vecs := by
      have hwf : Tbl.wf ({} : Vec) s.vecs = true := by
        simp only [State.canonical, Bool.and_eq_true] at hc
        exact hc.2
      simp only [Tbl.wf, Bool.and_eq_true, decide_eq_true_eq] at hwf
      exact hwf.1
    show Tbl.keys (Tbl.set {} s.vecs (n * 2048 + v) _) = _
    rw [Tbl.set, if_neg hne]
    exact Tbl.keys_put_of_mem hrising hmem _
  rw [← h, State.pbaVecs, State.pbaVecs, hkeys]
  exact List.filter_congr fun k _ => by rw [State.pba_maskVec]

theorem State.writeMsix_vector (m : Bool) : s.writeMsix n v (.vector m) = (s.maskVec n v m).sendPending n := rfl

/-- MSI-X Enable and Function Mask take their values. -/
def State.msixCtl (s : State) (n : Nat) (en fm : Option Bool) : State :=
  s.setFn n { s.fn n with msixEn := en.getD (s.fn n).msixEn, fmask := fm.getD (s.fn n).fmask }

theorem State.writeMsix_control (en fm : Option Bool) : s.writeMsix n v (.control en fm) = (s.msixCtl n en fm).sendPending n := rfl

theorem State.writeMsix_none (h : s.pbaVecs n = []) :
    (∀ m, s.writeMsix n v (.vector m) = s.maskVec n v m) ∧ ∀ en fm, s.writeMsix n v (.control en fm) = s.msixCtl n en fm :=
  ⟨fun m => State.sendPending_none (State.pbaVecs_maskVec_none h m), fun en fm => State.sendPending_none (s := s.msixCtl n en fm) h⟩

theorem State.unmask_sends (hc : s.canonical = true) (hv : v < 2048) (h : s.pbaVecs n = [n * 2048 + v])
    (hleave : MayLeave (s.maskVec n v false) n v) :
    Sent n v s (s.writeMsix n v (.vector false)) ∧ ((s.writeMsix n v (.vector false)).vec (n * 2048 + v)).masked = false := by
  have hsend : s.writeMsix n v (.vector false) = (s.maskVec n v false).sendVec n v :=
    State.sendPending_one hv (State.pbaVecs_maskVec_one hc h false)
  have hsent := State.sendVec_leaves hleave
  have hmasked : ((s.maskVec n v false).vec (n * 2048 + v)).masked = false := by rw [State.vec_maskVec, if_pos rfl]
  rw [hsend]
  refine ⟨⟨hsent.out, hsent.count, hsent.start, hsent.pba, fun k hk => ?_⟩, (State.masked_sendVec ..).trans hmasked⟩
  · rw [hsent.others k hk, State.vec_maskVec, if_neg hk]

theorem State.control_one (hv : v < 2048) (h : s.pbaVecs n = [n * 2048 + v]) (en fm : Option Bool) :
    s.writeMsix n v (.control en fm) = (s.msixCtl n en fm).sendVec n v := State.sendPending_one (s := s.msixCtl n en fm) hv h

theorem State.control_spec (hv : v < 2048) (h : s.pbaVecs n = [n * 2048 + v]) (en fm : Option Bool) :
    let f := s.fn n
    let t := s.writeMsix n v (.control en fm)
    t.fn n = { f with msixEn := en.getD f.msixEn, fmask := fm.getD f.fmask } ∧
    (MayLeave (s.msixCtl n en fm) n v → Sent n v s t) ∧
    (en.getD f.msixEn = false ∨ fm.getD f.fmask = true → t.out = s.out ∧ ∀ k, t.vec k = s.vec k) := by
  show _ ∧ _
  obtain ⟨u, hu⟩ : ∃ u, u = s.msixCtl n en fm := ⟨_, rfl⟩
  have huv : u.out = s.out ∧ u.vecs = s.vecs := by rw [hu]; exact ⟨rfl, rfl⟩
  have hfn : u.fn n = { s.fn n with msixEn := en.getD (s.fn n).msixEn, fmask := fm.getD (s.fn n).fmask } := by
    rw [hu, State.msixCtl, State.fn_setFn, if_pos rfl]
  rw [State.control_one hv h, ← hu]
  refine ⟨?_, fun hl => (State.sendVec_leaves hl).congr huv ⟨rfl, rfl⟩, fun hor => ?_⟩
  · rw [State.fn, (u.sendVec_mailed n v).fns, ← State.fn, hfn]
  · have hclosed : u.vecOpen n v = false := by
      rcases hor with he | he <;> simp [State.vecOpen, hfn, he]
    obtain ⟨-, -, hpba⟩ := State.pbaVecs_mem (s := s) (n := n) (k := n * 2048 + v) (by rw [h]; exact List.mem_singleton_self _)
    have hvec (k : Nat) : u.vec k = s.vec k := by rw [State.vec, State.vec, huv.2]
    refine ⟨(State.sendVec_closed hclosed).trans huv.1, fun k => ?_⟩
    rw [← hvec, State.sendVec_closed_vec hclosed (by rw [hvec]; exact hpba)]

end Masks

end Sys2Proof.Machine

/-! O45: what an abort leaves of the functions: whether each resets or aborts, and its commands and records (R265, R269). -/

namespace Sys2Proof.Machine

open Sys2Proof

/-- Between `s` and `t` no function starts or ends an abort or reset, takes a command or writes a record, and VF Enable stays. -/
structure FatesKept (s t : State) : Prop where
  flr : ∀ k, (t.fn k).flr = (s.fn k).flr
  aborting : ∀ k, (t.fn k).aborting = (s.fn k).aborting
  inflight : ∀ k, (t.fn k).inflight = (s.fn k).inflight
  waiting : ∀ k, (t.fn k).waiting = (s.fn k).waiting
  vfs : t.link.vfEnable = s.link.vfEnable

section Fates
variable {s t u : State}

theorem FatesKept.of_eq (hf : t.fns = s.fns) (hv : t.link.vfEnable = s.link.vfEnable) : FatesKept s t := by
  have hfn (k : Nat) : t.fn k = s.fn k := by rw [State.fn, State.fn, hf]
  exact ⟨fun k => by rw [hfn], fun k => by rw [hfn], fun k => by rw [hfn], fun k => by rw [hfn], hv⟩

theorem FatesKept.refl : FatesKept s s := .of_eq rfl rfl

theorem FatesKept.trans (h : FatesKept s t) (g : FatesKept t u) : FatesKept s u :=
  ⟨fun k => (g.flr k).trans (h.flr k), fun k => (g.aborting k).trans (h.aborting k), fun k => (g.inflight k).trans (h.inflight k),
    fun k => (g.waiting k).trans (h.waiting k), g.vfs.trans h.vfs⟩

theorem FatesKept.foldl {α : Type} {g : State → α → State} (h : ∀ s x, FatesKept s (g s x)) (l : List α) (s : State) : FatesKept s (l.foldl g s) :=
  List.foldlRecOn (motive := FatesKept s) l _ .refl fun _ hu x _ => hu.trans (h _ x)

theorem FatesKept.of_pme (h : PmeOnly s t) (hv : t.link.vfEnable = s.link.vfEnable) : FatesKept s t := by
  have hfn (k : Nat) : ∃ b, t.fn k = { s.fn k with pmeStatus := b } := h.fn k
  refine ⟨fun k => ?_, fun k => ?_, fun k => ?_, fun k => ?_, hv⟩ <;>
    · obtain ⟨b, hb⟩ := hfn k
      rw [hb]

theorem FatesKept.of_wipe {m : Nat} (e : t.wipe m = s.wipe m) (hf : m.testBit 38 = false) (hl : m.testBit 39 = false) : FatesKept s t :=
  .of_eq (State.fns_of_wipe e hf) (by rw [State.link_of_wipe e hl])

theorem Mailed.fates (h : Mailed s t) : FatesKept s t := .of_eq h.fns (by rw [h.link])

theorem FatesKept.ite {p : Prop} [Decidable p] (h : FatesKept s t) (g : FatesKept t u) : FatesKept s (if p then u else t) := by
  split
  · exact h.trans g
  · exact h

variable (s)

theorem State.vfEnable_raise (id : Nat) : (s.raise id).link.vfEnable = s.link.vfEnable := by
  have hleave (v : State) (o : Out) : (v.leaveL1.send o).link.vfEnable = v.link.vfEnable := (State.leaveL1_spec (s := v)).2.2.1.1
  have hsleep (v : State) (n : Nat) : (v.sleepEvent n).link.vfEnable = v.link.vfEnable := by
    simp only [State.sleepEvent]
    repeat' split
    · rfl
    · exact hleave ..
    · rfl
  have hbump (v : State) (n k : Nat) : (v.bumpVec n k).link.vfEnable = v.link.vfEnable := hsleep ..
  have hdeliver (v : State) : (v.deliver id).link.vfEnable = v.link.vfEnable := by
    simp only [State.deliver, State.countEvent]
    repeat' split
    · rfl
    · exact (State.sendVec_mailed ..).fates.vfs.trans (hbump ..)
    · exact hbump ..
  have hpend : ((s.notePend id).setSrcPend id true).link.vfEnable = s.link.vfEnable := by
    rw [State.setSrcPend, State.setBit_link, State.link_of_wipe (s.notePend_wipe0 id) rfl]
  simp only [State.raise]
  split
  · exact (hdeliver _).trans hpend
  · exact hpend

theorem State.raise_fates (id : Nat) : FatesKept s (s.raise id) := .of_pme (s.raise_pme id) (s.vfEnable_raise id)

theorem State.setN_fates (k v : Nat) : FatesKept s (s.setN k v) := .of_eq rfl rfl

theorem State.setBit_fates (k i : Nat) (b : Bool) : FatesKept s (s.setBit k i b) := .of_eq rfl rfl

theorem State.setFld_fates (k lo n v : Nat) : FatesKept s (s.setFld k lo n v) := .of_eq rfl rfl

theorem State.setPairSt_fates (p : Nat) (k : Pair) : FatesKept s (s.setPairSt p k) := .of_eq rfl rfl

theorem State.setChan_fates (c : Nat) (k : Chan) : FatesKept s (s.setChan c k) := .of_eq rfl rfl

theorem State.setQueue_fates (q : Nat) (k : Queue) : FatesKept s (s.setQueue q k) := .of_eq rfl rfl

theorem State.send_fates (o : Out) : FatesKept s (s.send o) := .of_eq rfl rfl

theorem State.nextFresh_fates : FatesKept s s.nextFresh := .of_eq rfl rfl

theorem State.setPair_fates (lo hi v : Nat) : FatesKept s (s.setPair lo hi v) := .of_eq rfl rfl

theorem State.setTray_fates (x : Nat) (w : Tray) : FatesKept s (s.setTray x w) := .of_eq rfl rfl

theorem State.traySet_fates (x i : Nat) (b : Bool) : FatesKept s (s.traySet x i b) := by
  obtain ⟨u, hu⟩ : ∃ u, u = s.setTray x { s.tray x with levels := putBits (s.tray x).levels i 1 (b2n b) } := ⟨_, rfl⟩
  have hsu : FatesKept s u := hu ▸ s.setTray_fates x _
  obtain ⟨f, hf⟩ : ∃ f : Bool, f = (decide (s.traySense x i = 0) && b || decide (s.traySense x i = 1) && !bitAt (s.tray x).levels i && b ||
    decide (s.traySense x i = 2) && bitAt (s.tray x).levels i && !b || decide (s.traySense x i = 3) && bitAt (s.tray x).levels i != b) := ⟨_, rfl⟩
  obtain ⟨v, hv⟩ : ∃ v, v = if f then u.setTrayPend x i true else u := ⟨_, rfl⟩
  have huv : FatesKept u v := by
    rw [hv]
    split
    · exact u.setN_fates ..
    · exact .refl
  simp only [State.traySet, ← hu, ← hf, ← hv]
  split
  · exact (hsu.trans huv).trans (State.raise_fates ..)
  split
  · exact (hsu.trans huv).trans (State.raise_fates ..)
  · exact hsu.trans huv

theorem State.trayLevels_fates (x : Nat) : FatesKept s (s.trayLevels x) :=
  (s.traySet_fates ..).trans (.foldl (fun _ _ => State.traySet_fates ..) _ _)

theorem State.setCtx_fates (c : Nat) (k : Ctx) : FatesKept s (s.setCtx c k) := .of_eq rfl rfl

theorem State.putCtx_fates (c : Nat) (k : Ctx) : FatesKept s (s.putCtx c k) := by
  obtain ⟨u, hu⟩ : ∃ u, u = s.setCtx c k := ⟨_, rfl⟩
  have hsu : FatesKept s u := hu ▸ s.setCtx_fates c k
  simp only [State.putCtx, ← hu]
  split
  · exact hsu
  obtain ⟨v, hv⟩ : ∃ v, v = if k.st = .faulted then u.trayPulse (u.trayOf c) 5 else u := ⟨_, rfl⟩
  have huv : FatesKept u v := by
    rw [hv]
    split
    · exact (u.traySet_fates ..).trans (State.traySet_fates ..)
    · exact .refl
  simp only [← hv]
  obtain ⟨w, hw⟩ : ∃ w, w = if k.st.dead ∧ v.fld (Reg.TRY_IRQ_CTRL (u.trayOf c)) 8 8 = lowOf c
    then v.setBit (Reg.TRY_IRQ_CTRL (u.trayOf c)) 1 false else v := ⟨_, rfl⟩
  have hvw : FatesKept v w := by
    rw [hw]
    split
    · exact v.setN_fates ..
    · exact .refl
  simp only [← hw]
  split
  · exact ((hsu.trans huv).trans hvw).trans (State.trayLevels_fates ..)
  · exact (hsu.trans huv).trans hvw

theorem State.updFull_fates (n : Nat) : FatesKept s (s.updFull n) := by
  simp only [State.updFull]
  split
  · exact (State.setN_fates ..).trans (State.raise_fates ..)
  · exact s.setN_fates ..

theorem State.postRecord_fates (n : Nat) (r : Cpl) : FatesKept s (s.postRecord n r) := by
  have hleave : FatesKept s s.leaveL1 :=
    .of_eq (State.fns_of_wipe s.leaveL1_wipe0 rfl) (State.leaveL1_spec (s := s)).2.2.1.1
  have hsend (o : Out) : FatesKept s (s.leaveL1.send o) := hleave.trans (.of_eq rfl rfl)
  rw [State.postRecord]
  exact (hsend _).trans ((State.setN_fates ..).trans (State.setN_fates ..))

theorem State.faultRecord_fates (n status source object detail : Nat) : FatesKept s (s.faultRecord n status source object detail) := by
  have hwords : FatesKept s (s.setFault n (s.fld (Reg.TEN_FAULT_IDX n) 0 6)
      (recordValue (faultCpl status source object detail) (s.fld (Reg.TEN_CPL_TAIL n) 16 1) s.tb.now)) :=
    .foldl (fun v _ => v.setN_fates ..) _ s
  have hnote (v : State) (j : Nat) (r : Cpl) : FatesKept v (v.noteFault n j r) := by
    have hcount : FatesKept v ((v.setFld (Reg.TEN_FAULT_IDX n) 0 6 (j + 1)).incWrap (Reg.TEN_FAULT_IDX n) 16 16) :=
      (v.setN_fates ..).trans (State.setN_fates ..)
    refine FatesKept.trans ?_ (State.raise_fates _ _)
    repeat' split
    · exact hcount
    · exact (hcount.trans (State.postRecord_fates ..)).trans (State.updFull_fates ..)
    · exact hcount.trans (State.setN_fates ..)
  rw [State.faultRecord_eq]
  exact hwords.trans (hnote ..)

theorem State.ctxRecord_fates (c cause : Nat) (info : Option Nat) : FatesKept s (s.ctxRecord c cause info) := by
  simp only [State.ctxRecord]
  split
  · split
    · exact (s.setN_fates ..).trans (State.faultRecord_fates ..)
    · exact s.faultRecord_fates ..
  · exact .refl

theorem State.enterTrap_fates (c cause : Nat) (info addr : Option Nat) (save : Bool) : FatesKept s (s.enterTrap c cause info addr save) := by
  have hsteps : FatesKept s (((s.ctxRecord c cause info).noteIssue c).setWindow c 1).nextFresh :=
    (s.ctxRecord_fates ..).trans (.of_eq rfl rfl)
  exact hsteps.trans (State.putCtx_fates ..)

theorem State.release_fates (c time : Nat) (z : Option Bool) : FatesKept s (s.release c time z) := by
  simp only [State.release]
  split
  · exact s.setCtx_fates ..
  split
  · exact s.putCtx_fates ..
  · exact s.putCtx_fates ..

theorem State.endMove_fates (c : Nat) : FatesKept s (s.endMove c) := by
  obtain ⟨u, hu⟩ : ∃ u, u = s.putCtx c { s.ctx c with st := (s.ctx c).retSt, freed := none } := ⟨_, rfl⟩
  have hsu : FatesKept s u := hu ▸ s.putCtx_fates c _
  obtain ⟨v, hv⟩ : ∃ v, v = match (s.ctx c).freed with | some (a, z) => u.release c a z | none => u := ⟨_, rfl⟩
  have huv : FatesKept u v := by
    rw [hv]
    split
    · exact u.release_fates ..
    · exact .refl
  have hsv := hsu.trans huv
  have heq : s.endMove c = match (s.ctx c).topPend with
      | some y => if (s.ctx c).inHandler then v else v.enterTrap c y ((s.ctx c).pendInfo y) none
      | none => v := by rw [hv, hu]; rfl
  rw [heq]
  split
  · split
    · exact hsv
    · exact hsv.trans (State.enterTrap_fates ..)
  · exact hsv

/-! ### The abort of each resource -/

theorem State.toApron_fates (c : Nat) (w : Cause) : FatesKept s (s.toApron c w) :=
  .of_eq (by rw [(State.toApron_only (c := c) (s := s) w).frame]) (by rw [(State.toApron_only (c := c) (s := s) w).frame])

theorem State.setCuff_fates (c : Nat) (k : Cuff) : FatesKept s (s.setCuff c k) := .of_eq rfl rfl

theorem State.setPio_fates (e : Nat) (k : Pio) : FatesKept s (s.setPio e k) := .of_eq rfl rfl

theorem State.stopPio_fates (e : Nat) : FatesKept s (s.stopPio e) := by
  rw [State.stopPio]
  exact FatesKept.trans (.foldl (fun _ _ => State.setCuff_fates ..) _ s) (State.setPio_fates ..)

theorem State.quietStop_fates (c : Nat) : FatesKept s (s.quietStop c) := by
  simp only [State.quietStop]
  split
  · split
    · exact .refl
    · exact s.stopPio_fates _
  · exact .refl

theorem State.abortFld_fates (keep : Bool) (k lo n v : Nat) : FatesKept s (s.abortFld keep k lo n v) := by
  simp only [State.abortFld]
  split
  · exact .of_eq rfl rfl
  · exact .of_eq rfl rfl

theorem State.setVoter_fates (k : Nat) (x : Voter) : FatesKept s (s.setVoter k x) := .of_eq rfl rfl

theorem State.setFifo_fates (k : Nat) (l : List Flight) : FatesKept s (s.setFifo k l) := .of_eq rfl rfl

theorem State.setPort_fates (p : Nat) (k : Fbk) : FatesKept s (s.setPort p k) := .of_eq rfl rfl

theorem State.disablePair_fates (keep : Bool) (p : Nat) : FatesKept s (s.disablePair keep p) := by
  rw [State.disablePair]
  exact ((s.abortFld_fates ..).trans (State.setBit_fates ..)).trans (State.setPairSt_fates ..)

theorem State.dropWake_fates (c : Nat) : FatesKept s (s.dropWake c) :=
  .foldl (fun u i => by
    show FatesKept u (if u.fld (Reg.PWR_WCUFF i) 0 10 = c then u.setBit (Reg.PWR_WCUFF i) 10 false else u)
    split
    · exact u.setN_fates ..
    · exact .refl) _ s

theorem State.abortCuff_fates (keep : Bool) (c : Nat) : FatesKept s (s.abortCuff keep c) := by
  rw [State.abortCuff]
  have h0 := (s.quietStop_fates c).trans (State.toApron_fates _ c .abort)
  have h1 := h0.trans (State.setCuff_fates _ c { ((s.quietStop c).toApron c .abort).cuff c with
    held := false, past := [], fifo := [], armed := false, armFrom := none, disarmAt := none, winEnd := none, perRun := false, edges := [] })
  have h2 := (h1.trans (State.setVoter_fates _ (voterKey 1 c) {})).trans (State.setVoter_fates _ (voterKey 2 (c / 2)) {})
  refine FatesKept.trans (FatesKept.ite (((h2.ite (State.abortFld_fates ..)).trans (State.setFld_fates ..)).trans (State.abortFld_fates ..))
    (State.disablePair_fates ..)) (State.dropWake_fates ..)

theorem State.abortPio_fates (keep : Bool) (e : Nat) : FatesKept s (s.abortPio keep e) := by
  rw [State.abortPio]
  refine FatesKept.trans ?_ (.foldl (fun _ _ => State.toApron_fates ..) _ _)
  exact (((((s.stopPio_fates e).trans (State.setPio_fates ..)).trans (State.setN_fates ..)).trans (State.abortFld_fates ..)).trans
    (State.setFifo_fates ..)).trans (State.setBit_fates ..)

theorem State.abortPort_fates (keep : Bool) (p : Nat) : FatesKept s (s.abortPort keep p) := by
  rw [State.abortPort]
  have hpins (l : List Nat) : FatesKept s (l.foldl (fun s c => (s.quietStop c).toApron c .abort) s) :=
    .foldl (fun u _ => (u.quietStop_fates _).trans (State.toApron_fates ..)) l s
  have hflds (u : State) (l : List (Nat × Nat × Nat)) : FatesKept u (l.foldl (fun s f => s.abortFld keep f.1 f.2.1 f.2.2 0) u) :=
    .foldl (fun _ _ => State.abortFld_fates ..) l u
  have hregs (u : State) : FatesKept u ((((u.setFld (Reg.FBK_HSTAT p) 0 8 0).setFbkStat p 0 false).setFld (Reg.FBK_STATUS p) 2 3 0).setSpeed p 0) :=
    (((u.setFld_fates ..).trans (State.setBit_fates ..)).trans (State.setFld_fates ..)).trans (State.setPair_fates ..)
  exact (((((hpins _).trans (hflds ..)).trans (hregs _)).trans (State.setFifo_fates ..)).trans (State.setPort_fates ..))

theorem State.disableChan_fates (c : Nat) : FatesKept s (s.disableChan c) := by
  have hissued : FatesKept s (s.issued c) := by
    simp only [State.issued]
    split
    · exact .refl
    · exact .foldl (fun u _ => u.send_fates _) _ s
  simp only [State.disableChan]
  split
  · exact s.setChan_fates ..
  · exact ((hissued.trans (State.setBit_fates ..)).trans (State.setFld_fates ..)).trans ((State.nextFresh_fates _).trans (State.setChan_fates ..))

theorem State.abortQueue_fates (q : Nat) : FatesKept s (s.abortQueue q) := by
  rw [State.abortQueue]
  have hcleared : FatesKept s ((s.unarrive q).withdraw (·.ofQueue q)) :=
    (FatesKept.of_wipe (s.unarrive_wipe0 q) rfl rfl).trans (.of_wipe (State.withdraw_wipe ..) rfl rfl)
  exact (hcleared.trans (.of_wipe (State.stopQueue_wipe0 ..) rfl rfl)).trans (State.setQueue_fates ..)

theorem State.abortCtx_fates (c : Nat) : FatesKept s (s.abortCtx c) := by
  simp only [State.abortCtx]
  split
  · exact .refl
  · exact ((s.ctxRecord_fates ..).trans (State.setFifo_fates ..)).trans (State.putCtx_fates ..)

theorem State.abortPage_fates (p : Nat) : FatesKept s (s.abortPage p) := by
  have hpage (u : State) (x : Page) : FatesKept u (u.setPage p x) := .of_eq rfl rfl
  have hdiscard (u : State) : FatesKept u (u.discard p) := .of_eq rfl rfl
  have hgroup (u : State) (g : Nat) (x : Group) : FatesKept u (u.setGroup g x) := .of_eq rfl rfl
  have hcleared (l : List Nat) : FatesKept s { s with hs := { s.hs with cleared := l } } := .of_eq rfl rfl
  have hleave (u : State) (o : Option Nat) : FatesKept u (match o with
      | some g => u.setGroup g { u.group g with members := (u.group g).members.filter (· != p) }
      | none => u) := by
    split
    · exact hgroup ..
    · exact .refl
  rw [State.abortPage]
  refine FatesKept.trans ?_ (State.setBit_fates ..)
  split
  · exact ((hcleared _).trans (hleave ..)).trans (hpage ..)
  · exact (((hcleared _).trans (hleave ..)).trans (hpage ..)).trans (hdiscard _)

theorem State.clearFlags_fates (n : Nat) : FatesKept s (s.clearFlags n) :=
  .foldl (fun u f => by
    show FatesKept u (if (u.flag f).owner = some n then u.setFlag f { u.flag f with set := false } else u)
    split
    · exact .of_eq rfl rfl
    · exact .refl) _ s

theorem State.abortTenant_fates (n : Nat) : FatesKept s (s.abortTenant n) := by
  rw [State.abortTenant]
  have h1 : ∀ (u : State) (l : List Nat) keep, FatesKept u (l.foldl (State.abortCuff · keep) u) :=
    fun u l _ => .foldl (fun _ _ => State.abortCuff_fates ..) l u
  have h2 : ∀ (u : State) (l : List Nat), FatesKept u (l.foldl State.abortCtx u) := fun u l => .foldl (fun _ _ => State.abortCtx_fates ..) l u
  have h3 : ∀ (u : State) (l : List Nat) keep, FatesKept u (l.foldl (State.abortPio · keep) u) :=
    fun u l _ => .foldl (fun _ _ => State.abortPio_fates ..) l u
  have h4 : ∀ (u : State) (l : List Nat) keep, FatesKept u (l.foldl (State.abortPort · keep) u) :=
    fun u l _ => .foldl (fun _ _ => State.abortPort_fates ..) l u
  have h5 : ∀ (u : State) (l : List Nat), FatesKept u (l.foldl State.disableChan u) := fun u l => .foldl (fun _ _ => State.disableChan_fates ..) l u
  have h6 : ∀ (u : State) (l : List Nat), FatesKept u (l.foldl State.abortQueue u) := fun u l => .foldl (fun _ _ => State.abortQueue_fates ..) l u
  have h7 : ∀ (u : State) (l : List Nat), FatesKept u (l.foldl State.abortPage u) := fun u l => .foldl (fun _ _ => State.abortPage_fates ..) l u
  exact (((((((h1 ..).trans (h2 ..)).trans (State.clearFlags_fates ..)).trans (h3 ..)).trans (h4 ..)).trans (h5 ..)).trans (h6 ..)).trans (h7 ..)

end Fates

/-! ### The abort and the reset of functions -/

section Flr
variable {s t : State}

theorem State.setFn_fates (s : State) {n : Nat} {f : Fn} (hflr : f.flr = (s.fn n).flr) (hab : f.aborting = (s.fn n).aborting)
    (hin : f.inflight = (s.fn n).inflight) (hw : f.waiting = (s.fn n).waiting) : FatesKept s (s.setFn n f) := by
  have hall {α : Type} (g : Fn → α) (hg : g f = g (s.fn n)) (k : Nat) : g ((s.setFn n f).fn k) = g (s.fn k) := by
    rw [State.fn_setFn]
    split
    · next h => rw [h, hg]
    · rfl
  exact ⟨hall _ hflr, hall _ hab, hall _ hin, hall _ hw, rfl⟩

theorem State.startRebuild_fates (s : State) (x : Nat) : FatesKept s (s.startRebuild x) := by
  have hspare (u : State) (y : Nat) : FatesKept u (u.takeSpare y x) := .of_eq rfl rfl
  rw [State.startRebuild]
  generalize s.fld Reg.ADM_GUARD 0 4 = y
  split
  · exact .refl
  · exact (s.setBit_fates ..).trans (hspare ..)

theorem State.dropStep_fates (s : State) : FatesKept s s.dropStep := by
  rw [State.dropStep]
  have hends (u : State) (l : List Nat) : FatesKept u (l.foldl (fun s c => if (s.ctx c).st = .moving then s.endMove c else s) u) :=
    .foldl (fun v c => FatesKept.ite .refl (v.endMove_fates c)) l u
  have hgiven := (s.setTray_fates (s.fld Reg.ADM_GUARD 0 4)
    { s.tray (s.fld Reg.ADM_GUARD 0 4) with rebuildFor := none, since := 0, moved := [] }).trans (hends _ (Tbl.keys s.ctxs))
  split
  · exact (hgiven.trans (State.trayLevels_fates ..)).trans (State.trayLevels_fates ..)
  · exact hgiven

theorem State.clearDb_fates (s : State) (n : Nat) : FatesKept s (s.clearDb n) := by
  obtain ⟨u, hu⟩ : ∃ u, u = (s.setN (Reg.TEN_QDB_STAT n) 0).setFld (Reg.TEN_QDB_IDX n) 0 16 0 := ⟨_, rfl⟩
  have hsu : FatesKept s u := by
    rw [hu]
    exact (s.setN_fates (Reg.TEN_QDB_STAT n) 0).trans (State.setFld_fates _ (Reg.TEN_QDB_IDX n) 0 16 0)
  rw [State.clearDb, ← hu]
  exact hsu.trans (u.setFn_fates (hsu.flr n).symm (hsu.aborting n).symm (hsu.inflight n).symm (hsu.waiting n).symm)

theorem State.abortUpdate_fates {n : Nat} (h : (s.fn n).inflight = []) : FatesKept s (s.abortUpdate n) := by
  rcases hupd : s.upd with _ | u
  · have heq : s.abortUpdate n = s := by rw [State.abortUpdate, hupd]
    rw [heq]
    exact .refl
  by_cases hc : u.apply = true ∨ u.fn ≠ n
  · have heq : s.abortUpdate n = s := by
      rw [State.abortUpdate, hupd]
      exact if_pos hc
    rw [heq]
    exact .refl
  have hnoupd : FatesKept s { s with upd := none } := .of_eq rfl rfl
  have hdrop := hnoupd.trans (State.dropStep_fates _)
  obtain ⟨v, hv⟩ : ∃ v, v = ({ s with upd := none } : State).dropStep := ⟨_, rfl⟩
  rw [← hv] at hdrop
  obtain ⟨w, hw⟩ : ∃ w, w = match v.failingTray with | some t => v.startRebuild t | none => v := ⟨_, rfl⟩
  have hvw : FatesKept v w := by
    rw [hw]
    split
    · exact v.startRebuild_fates _
    · exact .refl
  have hnone : (w.fn n).inflight = [] := by rw [hvw.inflight, hdrop.inflight, h]
  have heq : s.abortUpdate n = match (w.fn n).inflight.find? fun c => decide (c.tag = u.tag) && !c.done with
      | some c => if u.done = 0 then w.abortCmd n c 0 0 else w.finishCmd n c Code.rejectCapacity u.done (b2n u.forced)
      | none => w := by
    rw [State.abortUpdate, hupd, hw, hv]
    exact if_neg hc
  rw [heq, hnone]
  exact hdrop.trans hvw

/-- An abort of a function with nothing in flight completes no command. -/
theorem State.runAbort_fates {n : Nat} (h : (s.fn n).inflight = []) : FatesKept s (s.runAbort n) := by
  have hres := (s.abortTenant_fates n).trans (State.clearDb_fates _ n)
  have hempty : (((s.abortTenant n).clearDb n).fn n).inflight = [] := by rw [hres.inflight, h]
  have hupd := hres.trans (State.abortUpdate_fates hempty)
  obtain ⟨w, hw⟩ : ∃ w, w = ((s.abortTenant n).clearDb n).abortUpdate n := ⟨_, rfl⟩
  rw [← hw] at hupd
  have hnone : (w.fn n).inflight = [] := by rw [hupd.inflight, h]
  have heq : s.runAbort n = w.setFn n { w.fn n with abortHeld := false } := by
    simp only [State.runAbort, ← hw, hnone, List.filter_nil, List.append_nil, List.foldl_nil]
  rw [heq]
  exact hupd.trans (w.setFn_fates rfl rfl rfl rfl)

end Flr

end Sys2Proof.Machine

/-! O45: Function Level Reset (R265, R269). -/

namespace Sys2Proof.Machine

open Sys2Proof

section Abort
variable {s : State} {n : Nat}

/-- The commands up to the tail count as fetched, and TEN_ABORT_STATUS tells of the abort (R265). -/
def State.abortRegs (s : State) (n : Nat) (byPf : Bool) : State :=
  let skip := ((s.fn n).cmdTail + s.cmdSize n - s.fld (Reg.TEN_CMD_HEAD n) 0 12) % s.cmdSize n
  (s.setFld (Reg.TEN_CMD_HEAD n) 0 12 (s.fn n).cmdTail).setN (Reg.TEN_ABORT_STATUS n) (1 + b2n byPf * 4 + skip % 2 ^ 12 * 2 ^ 20)

/-- The function's state, with its posted writes dropped from the link. -/
def State.dropPosted (s : State) (n : Nat) (f : Fn) : State :=
  let w := s.setFn n f
  { w with link := { w.link with posted := w.link.posted.filter fun w => decide (w.fn ≠ n) || w.cfg.isSome } }

/-- The function's abort has begun: its registers tell of it, and its posted writes are dropped. -/
def State.abortBegun (s : State) (n : Nat) (byPf : Bool) : State :=
  let u := s.startWake 6 0
  (u.abortRegs n byPf).dropPosted n { u.fn n with aborting := true, abortHeld := true, buf := [] }

theorem State.abortRegs_spec (s : State) (n : Nat) (byPf : Bool) : let t := s.abortRegs n byPf
    t.bit (Reg.TEN_ABORT_STATUS n) 0 = true ∧ t.fld (Reg.TEN_CMD_HEAD n) 0 12 = (s.fn n).cmdTail % 2 ^ 12 ∧ t = { s with regs := t.regs } := by
  obtain ⟨k, hk⟩ : ∃ k, k = ((s.fn n).cmdTail + s.cmdSize n - s.fld (Reg.TEN_CMD_HEAD n) 0 12) % s.cmdSize n := ⟨_, rfl⟩
  have hodd (k : Nat) : bitAt ((1 + b2n byPf * 4 + k % 2 ^ 12 * 2 ^ 20) % 2 ^ 32) 0 = true := by
    simp only [bitAt, b2n]
    refine decide_eq_true ?_
    split <;> omega
  rw [State.abortRegs, ← hk]
  refine ⟨?_, ?_, (((OnlyRegs.refl [Reg.TEN_CMD_HEAD n, Reg.TEN_ABORT_STATUS n] s).setFld (by simp) ..).setN (by simp) _).1⟩
  · rw [State.bit, State.regN_setN_same]
    exact hodd k
  · rw [State.fld_setN_other _ (by simp), State.fld_setFld_same _ _ _ _ _ (by decide)]

theorem State.startWake_frame (cause port : Nat) : ∃ r p, s.startWake cause port = { s with regs := r, pwr := p } ∧ p.mode = s.pwr.mode := by
  obtain ⟨u, hu⟩ : ∃ u, u = (s.setFld Reg.PWR_STATUS 16 3 cause).setFld Reg.PWR_STATUS 19 2 port := ⟨_, rfl⟩
  have hframe : u = { s with regs := u.regs } :=
    hu ▸ (((OnlyRegs.refl [Reg.PWR_STATUS] s).setFld List.mem_cons_self ..).setFld List.mem_cons_self ..).1
  rw [State.startWake, ← hu]
  split
  · refine ⟨u.regs, { u.pwr with wake := true }, ?_, ?_⟩
    · obtain ⟨r, hr⟩ : ∃ r, u = { s with regs := r } := ⟨_, hframe⟩
      rw [hr]
    · rw [hframe]
  · exact ⟨_, _, rfl, rfl⟩

theorem State.startAbort_on (h : (s.fn n).aborting = true) (byPf : Bool) : s.startAbort n byPf = s.startWake 6 0 := by
  obtain ⟨r, p, he, -⟩ := s.startWake_frame 6 0
  refine if_pos ?_
  rw [he]
  exact h

theorem State.startAbort_begins (h : (s.fn n).aborting = false) (byPf : Bool) :
    s.startAbort n byPf = if s.mode = Mode.doze then s.abortBegun n byPf else (s.abortBegun n byPf).runAbort n := by
  obtain ⟨r, p, he, hm⟩ := s.startWake_frame 6 0
  have hab : ((s.startWake 6 0).fn n).aborting ≠ true := by
    rw [he]
    exact fun hc => absurd (h.symm.trans hc) (by decide)
  have hmode : (s.abortBegun n byPf).mode = s.mode := by
    rw [State.abortBegun, he]
    exact hm
  rw [← hmode]
  exact if_neg hab

theorem State.abortBegun_spec (byPf : Bool) : let t := s.abortBegun n byPf
    t.fn n = { s.fn n with aborting := true, abortHeld := true, buf := [] } ∧ (∀ m, m ≠ n → t.fn m = s.fn m) ∧
      t.bit (Reg.TEN_ABORT_STATUS n) 0 = true ∧ t.fld (Reg.TEN_CMD_HEAD n) 0 12 = (s.fn n).cmdTail % 2 ^ 12 ∧
      t.link.vfEnable = s.link.vfEnable := by
  obtain ⟨r, p, he, -⟩ := s.startWake_frame 6 0
  obtain ⟨u, hu⟩ : ∃ u, u = s.startWake 6 0 := ⟨_, rfl⟩
  rw [← hu] at he
  have hfn (m : Nat) : u.fn m = s.fn m := by rw [he]; rfl
  have hlink : u.link = s.link := by rw [he]
  obtain ⟨hstatus, hhead, hregs⟩ := u.abortRegs_spec n byPf
  obtain ⟨w, hw⟩ : ∃ w, w = u.abortRegs n byPf := ⟨_, rfl⟩
  rw [← hw] at hstatus hhead hregs
  obtain ⟨f, hf⟩ : ∃ f : Fn, f = { u.fn n with aborting := true, abortHeld := true, buf := [] } := ⟨_, rfl⟩
  have hframe : s.abortBegun n byPf = w.dropPosted n f := by rw [State.abortBegun, ← hu, ← hw, ← hf]
  have hwfn (m : Nat) : w.fn m = u.fn m := by rw [hregs]; rfl
  have hwlink : w.link = u.link := by rw [hregs]
  have hset (m : Nat) : (s.abortBegun n byPf).fn m = (w.setFn n f).fn m := by rw [hframe]; rfl
  have hreg (r : Nat) : (s.abortBegun n byPf).reg r = w.reg r := by rw [hframe]; rfl
  refine ⟨?_, fun m hm => ?_, ?_, ?_, ?_⟩
  · rw [hset, State.fn_setFn, if_pos rfl, hf, hfn]
  · rw [hset, State.fn_setFn, if_neg hm, hwfn, hfn]
  · rw [State.bit_of_reg (hreg _), hstatus]
  · rw [State.fld_of_reg (hreg _), hhead, hfn]
  · rw [hframe, ← hlink, ← hwlink]
    rfl

/-- The function is being reset, with its abort under way and nothing in flight. -/
structure Resetting (s : State) (n : Nat) : Prop where
  flr : (s.fn n).flr = true
  aborting : (s.fn n).aborting = true
  inflight : (s.fn n).inflight = []
  waiting : (s.fn n).waiting = []

theorem Resetting.of_fates {t : State} (h : Resetting s n) (k : FatesKept s t) : Resetting t n :=
  ⟨(k.flr n).trans h.flr, (k.aborting n).trans h.aborting, (k.inflight n).trans h.inflight, (k.waiting n).trans h.waiting⟩

theorem Resetting.of_fn {t : State} (h : Resetting s n) (k : t.fn n = s.fn n) : Resetting t n :=
  ⟨by rw [k, h.flr], by rw [k, h.aborting], by rw [k, h.inflight], by rw [k, h.waiting]⟩

/-- The function's configuration is reset and its commands are dropped, before its abort. -/
def State.unplugged (s : State) (n : Nat) : State :=
  s.setFn n { (s.fn n).unplug with flr := true, inflight := [], waiting := [] }

theorem State.dropAbortTags_fates (s : State) : FatesKept s s.dropAbortTags := by
  rw [State.dropAbortTags]
  exact .foldl (g := fun u n => u.setFn n { u.fn n with abortTags := [] }) (fun u n => u.setFn_fates rfl rfl rfl rfl) _ s

theorem State.abort_resets (hflr : (s.fn n).flr = true) (hin : (s.fn n).inflight = []) (hw : (s.fn n).waiting = []) :
    let t := s.startAbort n false
    Resetting t n ∧ (∀ m, Resetting s m → Resetting t m) ∧ t.link.vfEnable = s.link.vfEnable := by
  show _ ∧ _
  rcases hab : (s.fn n).aborting with _ | _
  · obtain ⟨hfn, hothers, -, -, hvf⟩ := s.abortBegun_spec (n := n) false
    obtain ⟨u, hu⟩ : ∃ u, u = s.abortBegun n false := ⟨_, rfl⟩
    rw [← hu] at hfn hothers hvf
    have hself : Resetting u n := by
      constructor <;> rw [hfn]
      · exact hflr
      · exact hin
      · exact hw
    have hall (m : Nat) (h : Resetting s m) : Resetting u m := by
      by_cases hm : m = n
      · rw [hm]
        exact hself
      · exact h.of_fn (hothers m hm)
    rw [State.startAbort_begins hab, ← hu]
    split
    · exact ⟨hself, hall, hvf⟩
    · have hrun := State.runAbort_fates hself.inflight
      exact ⟨hself.of_fates hrun, fun m h => (hall m h).of_fates hrun, hrun.vfs.trans hvf⟩
  · obtain ⟨r, p, he, -⟩ := s.startWake_frame 6 0
    rw [State.startAbort_on hab, he]
    exact ⟨⟨hflr, hab, hin, hw⟩, fun m h => h.of_fn rfl, rfl⟩

theorem State.startFlr_resets (s : State) (n : Nat) : let t := s.startFlr n
    Resetting t n ∧ (∀ m, Resetting s m → Resetting t m) ∧ t.link.vfEnable = s.link.vfEnable := by
  show _ ∧ _
  obtain ⟨u, hu⟩ : ∃ u, u = if n = 0 then s.dropAbortTags else s := ⟨_, rfl⟩
  have hsu : FatesKept s u := by
    rw [hu]
    exact FatesKept.ite .refl s.dropAbortTags_fates
  have heq : s.startFlr n = (u.unplugged n).startAbort n false := by rw [hu]; rfl
  have hfn : (u.unplugged n).fn n = { (u.fn n).unplug with flr := true, inflight := [], waiting := [] } := by
    rw [State.unplugged, State.fn_setFn, if_pos rfl]
  obtain ⟨hself, hall, hvf⟩ := State.abort_resets (s := u.unplugged n) (n := n) (by rw [hfn]) (by rw [hfn]) (by rw [hfn])
  rw [heq]
  refine ⟨hself, fun m h => ?_, hvf.trans hsu.vfs⟩
  by_cases hm : m = n
  · rw [hm]
    exact hself
  · refine hall m ((h.of_fates hsu).of_fn ?_)
    rw [State.unplugged, State.fn_setFn, if_neg hm]

theorem State.startFlrs_reset (s : State) (l : List Nat) : let t := l.foldl (fun s i => s.startFlr (i + 1)) s
    (∀ i ∈ l, Resetting t (i + 1)) ∧ (∀ m, Resetting s m → Resetting t m) ∧ t.link.vfEnable = s.link.vfEnable := by
  induction l generalizing s with
  | nil => exact ⟨fun i h => absurd h List.not_mem_nil, fun _ h => h, rfl⟩
  | cons i r ih =>
    obtain ⟨hself, hall, hvf⟩ := s.startFlr_resets (i + 1)
    obtain ⟨hin, hkeep, hvf'⟩ := ih (s.startFlr (i + 1))
    refine ⟨fun j hj => ?_, fun m h => hkeep m (hall m h), hvf'.trans hvf⟩
    rcases List.mem_cons.mp hj with rfl | hj
    · exact hkeep _ hself
    · exact hin j hj

/-- An FLR of the PF resets every function (R269). -/
theorem State.flr_pf (s : State) : (s.flr 0).link.vfEnable = false ∧ ∀ m < 512, Resetting (s.flr 0) m := by
  obtain ⟨hself, -, -⟩ := s.startFlr_resets 0
  obtain ⟨u, hu⟩ : ∃ u, u = { s.startFlr 0 with link := { (s.startFlr 0).link with vfEnable := false } } := ⟨_, rfl⟩
  have hu0 : Resetting u 0 := hself.of_fn (by rw [hu]; rfl)
  have huv : u.link.vfEnable = false := by rw [hu]
  obtain ⟨hin, hkeep, hvf⟩ := u.startFlrs_reset (List.range 511)
  have heq : s.flr 0 = (List.range 511).foldl (fun s i => s.startFlr (i + 1)) u := by rw [hu, State.flr, if_pos rfl]
  rw [heq]
  refine ⟨hvf.trans huv, fun m hm => ?_⟩
  rcases m with _ | i
  · exact hkeep 0 hu0
  · exact hin i (List.mem_range.mpr (by omega))

theorem State.flr_vf (hn : n ≠ 0) (hab : (s.fn n).aborting = false) (hmode : s.mode ≠ Mode.doze) :
    s.flr n = ((s.unplugged n).abortBegun n false).runAbort n := by
  have hfn : ((s.unplugged n).fn n).aborting = false := by
    rw [State.unplugged, State.fn_setFn, if_pos rfl]
    exact hab
  have heq : s.flr n = (s.unplugged n).startAbort n false := by
    rw [State.flr, if_neg hn, State.startFlr, if_neg hn]
    rfl
  rw [heq, State.startAbort_begins hfn]
  exact if_neg hmode

end Abort

/-! ### Resets from PCIe (R249, R313) -/

section Perst
variable {s : State}

/-- The link is down, and every function's PCIe configuration and every vector's mask is as after a reset. -/
structure LinkDown (t : State) : Prop where
  link : t.link = {}
  fns : ∀ m, (t.fn m).buf = [] ∧ (t.fn m).bme = false ∧ (t.fn m).msixEn = false
  vecs : ∀ k, (t.vec k).pba = false ∧ (t.vec k).masked = true

/-- The PCIe configuration of every function is reset. -/
def State.unplugAll (s : State) : State := (Tbl.keys s.fns).foldl (fun s n => s.setFn n (s.fn n).unplug) s

/-- Every vector is masked, and its pending bit is cleared. -/
def State.maskAll (s : State) : State :=
  (Tbl.keys s.vecs).foldl (fun s k => s.setVec k { s.vec k with masked := true, pba := false }) s

theorem State.linkDown_eq : s.linkDown = { s.unplugAll.maskAll with link := {} } := rfl

theorem State.unplugs_spec (l : List Nat) : let t := l.foldl (fun s n => s.setFn n (s.fn n).unplug) s
    (∀ m ∈ l, t.fn m = (s.fn m).unplug) ∧ (∀ m, m ∉ l → t.fn m = s.fn m) ∧ t = { s with fns := t.fns } := by
  induction l generalizing s with
  | nil => exact ⟨fun m h => absurd h List.not_mem_nil, fun _ _ => rfl, rfl⟩
  | cons n r ih =>
    obtain ⟨hin, hout, hframe⟩ := ih (s := s.setFn n (s.fn n).unplug)
    have hset (m : Nat) : (s.setFn n (s.fn n).unplug).fn m = if m = n then (s.fn n).unplug else s.fn m := State.fn_setFn ..
    refine ⟨fun m hm => ?_, fun m hm => ?_, hframe⟩
    · rw [List.foldl_cons]
      by_cases hr : m ∈ r
      · rw [hin m hr, hset]
        split
        · next h => rw [h]; rfl
        · rfl
      · rw [hout m hr, hset, if_pos ((List.mem_cons.mp hm).resolve_right hr), (List.mem_cons.mp hm).resolve_right hr]
    · rw [List.foldl_cons, hout m fun h => hm (List.mem_cons_of_mem _ h), hset, if_neg fun (h : m = n) => hm (h ▸ List.mem_cons_self)]

theorem State.unplugAll_spec : (∀ m, (s.unplugAll.fn m).buf = [] ∧ (s.unplugAll.fn m).bme = false ∧ (s.unplugAll.fn m).msixEn = false ∧
    (s.unplugAll.fn m).aborting = (s.fn m).aborting ∧ (s.unplugAll.fn m).flr = (s.fn m).flr) ∧
    s.unplugAll = { s with fns := s.unplugAll.fns } := by
  obtain ⟨hin, hout, hframe⟩ := State.unplugs_spec (s := s) (Tbl.keys s.fns)
  refine ⟨fun m => ?_, hframe⟩
  by_cases hm : m ∈ Tbl.keys s.fns
  · rw [show s.unplugAll.fn m = (s.fn m).unplug from hin m hm]
    exact ⟨rfl, rfl, rfl, rfl, rfl⟩
  · have hdef : s.fn m = {} := get_of_not_mem hm
    rw [show s.unplugAll.fn m = s.fn m from hout m hm, hdef]
    exact ⟨rfl, rfl, rfl, rfl, rfl⟩

theorem State.masks_spec (l : List Nat) : let t := l.foldl (fun s k => s.setVec k { s.vec k with masked := true, pba := false }) s
    (∀ k ∈ l, (t.vec k).masked = true ∧ (t.vec k).pba = false) ∧ (∀ k, k ∉ l → t.vec k = s.vec k) ∧ t = { s with vecs := t.vecs } := by
  induction l generalizing s with
  | nil => exact ⟨fun m h => absurd h List.not_mem_nil, fun _ _ => rfl, rfl⟩
  | cons n r ih =>
    obtain ⟨hin, hout, hframe⟩ := ih (s := s.setVec n { s.vec n with masked := true, pba := false })
    have hset (m : Nat) : (s.setVec n { s.vec n with masked := true, pba := false }).vec m =
      if m = n then { s.vec n with masked := true, pba := false } else s.vec m := State.vec_setVec ..
    refine ⟨fun m hm => ?_, fun m hm => ?_, hframe⟩
    · rw [List.foldl_cons]
      by_cases hr : m ∈ r
      · exact hin m hr
      · rw [hout m hr, hset, if_pos ((List.mem_cons.mp hm).resolve_right hr)]
        exact ⟨rfl, rfl⟩
    · rw [List.foldl_cons, hout m fun h => hm (List.mem_cons_of_mem _ h), hset, if_neg fun (h : m = n) => hm (h ▸ List.mem_cons_self)]

theorem State.maskAll_spec : (∀ k, (s.maskAll.vec k).pba = false ∧ (s.maskAll.vec k).masked = true) ∧ s.maskAll = { s with vecs := s.maskAll.vecs } := by
  obtain ⟨hin, hout, hframe⟩ := State.masks_spec (s := s) (Tbl.keys s.vecs)
  refine ⟨fun k => ?_, hframe⟩
  by_cases hk : k ∈ Tbl.keys s.vecs
  · exact (hin k hk).symm
  · have hdef : s.vec k = {} := get_of_not_mem hk
    rw [show s.maskAll.vec k = s.vec k from hout k hk, hdef]
    exact ⟨rfl, rfl⟩

theorem State.linkDown_spec : LinkDown s.linkDown ∧ s.linkDown = { s with fns := s.linkDown.fns, link := s.linkDown.link, vecs := s.linkDown.vecs } ∧
    ∀ m, (s.linkDown.fn m).aborting = (s.fn m).aborting ∧ (s.linkDown.fn m).flr = (s.fn m).flr := by
  obtain ⟨hfn, hf⟩ := s.unplugAll_spec
  obtain ⟨u, hu⟩ : ∃ u, u = s.unplugAll := ⟨_, rfl⟩
  rw [← hu] at hfn hf
  obtain ⟨hvec, hv⟩ := u.maskAll_spec
  obtain ⟨v, hve⟩ : ∃ v, v = u.maskAll := ⟨_, rfl⟩
  rw [← hve] at hvec hv
  have heq : s.linkDown = { v with link := {} } := by rw [hve, hu]; rfl
  have hfns (m : Nat) : s.linkDown.fn m = u.fn m := by rw [heq, hv]; rfl
  have hvecs (k : Nat) : s.linkDown.vec k = v.vec k := by rw [heq]; rfl
  refine ⟨⟨by rw [heq], fun m => ?_, fun k => ?_⟩, ?_, fun m => ?_⟩
  · rw [hfns]
    exact ⟨(hfn m).1, (hfn m).2.1, (hfn m).2.2.1⟩
  · rw [hvecs]
    exact hvec k
  · rw [heq, hv, hf]
  · rw [hfns]
    exact (hfn m).2.2.2

theorem State.rings_off (l : List Nat) (k : Nat) : let t := l.foldl (fun s k => s.setBit k 0 false) s
    (k ∈ l → t.bit k 0 = false) ∧ (s.bit k 0 = false → t.bit k 0 = false) ∧ (k ∉ l → t.reg k = s.reg k) ∧ t = { s with regs := t.regs } := by
  induction l generalizing s with
  | nil => exact ⟨fun h => absurd h List.not_mem_nil, fun h => h, fun _ => rfl, rfl⟩
  | cons n r ih =>
    obtain ⟨hin, hoff, hout, hframe⟩ := ih (s := s.setBit n 0 false)
    have hsame : (s.setBit n 0 false).bit n 0 = false := State.bit_setBit_same _ _ _ _ (by decide)
    refine ⟨fun h => ?_, fun h => ?_, fun h => ?_, hframe⟩
    · rcases List.mem_cons.mp h with rfl | h
      · exact hoff hsame
      · exact hin h
    · by_cases hk : k = n
      · exact hoff (hk ▸ hsame)
      · exact hoff ((s.bit_setBit_other hk ..).trans h)
    · rw [List.foldl_cons, hout fun hr => h (List.mem_cons_of_mem _ hr), State.reg_setBit_other (k := n) _ fun (he : k = n) => h (he ▸ List.mem_cons_self)]

theorem ringCtrl_reset (m : Nat) : resetOf (Reg.TEN_RING_CTRL m) = 0 := by
  have hbase : tenBase ≤ Reg.TEN_RING_CTRL m := by simp only [Reg.TEN_RING_CTRL, tenBase]; omega
  have hoff : Reg.TEN_RING_CTRL m % 0x10000 = 0x128 := by simp only [Reg.TEN_RING_CTRL]; omega
  have hcredit : Reg.TEN_RING_CTRL m ≠ Reg.TEN_CREDIT 0 := fun h => by
    have := hoff.symm.trans (congrArg (· % 0x10000) h)
    exact absurd this (by decide)
  have hrow : ((findRow rowsTen 0x128).map fun r => word r.reset) = some 0 := by decide +kernel
  rw [resetOf, if_neg hcredit, rowOf, if_pos hbase, hoff]
  rcases hr : findRow rowsTen 0x128 with _ | r
  · rfl
  · rw [hr] at hrow
    exact Option.some.inj hrow

theorem State.softReset_spec : LinkDown s.softReset ∧ (∀ m < 512, s.softReset.bit (Reg.TEN_RING_CTRL m) 0 = false) ∧
    (∀ k, k < tenBase → s.softReset.reg k = s.reg k) ∧
    s.softReset = { s with regs := s.softReset.regs, fns := s.softReset.fns, link := s.softReset.link, vecs := s.softReset.vecs } := by
  obtain ⟨hdown, hframe, -⟩ := s.linkDown_spec
  obtain ⟨u, hu⟩ : ∃ u, u = s.linkDown := ⟨_, rfl⟩
  rw [← hu] at hdown hframe
  obtain ⟨l, hl⟩ : ∃ l, l = (Tbl.keys s.regs).filter fun k => decide (tenBase ≤ k ∧ k % 0x10000 = 0x128) := ⟨_, rfl⟩
  have heq : s.softReset = l.foldl (fun s k => s.setBit k 0 false) u := by rw [hl, hu]; rfl
  have hspec := u.rings_off l
  have hf : s.softReset = { u with regs := s.softReset.regs } := by rw [heq]; exact (hspec 0).2.2.2
  have hreg (k : Nat) : u.reg k = s.reg k := by rw [hframe]; rfl
  have hfn (m : Nat) : s.softReset.fn m = u.fn m := by rw [hf]; rfl
  have hvec (k : Nat) : s.softReset.vec k = u.vec k := by rw [hf]; rfl
  refine ⟨⟨by rw [hf]; exact hdown.link, fun m => by rw [hfn]; exact hdown.fns m, fun k => by rw [hvec]; exact hdown.vecs k⟩, fun m _ => ?_,
    fun k hk => ?_, by rw [hf, hframe]⟩
  · rw [heq]
    by_cases hmem : Reg.TEN_RING_CTRL m ∈ l
    · exact (hspec _).1 hmem
    · have hkey : Reg.TEN_RING_CTRL m ∉ Tbl.keys s.regs := fun h => hmem (by
        rw [hl]
        exact List.mem_filter.mpr ⟨h, by simp only [Reg.TEN_RING_CTRL, tenBase, decide_eq_true_eq]; omega⟩)
      have hreset : u.reg (Reg.TEN_RING_CTRL m) = 0 := by
        rw [hreg, State.reg, get_of_not_mem hkey]
        exact ringCtrl_reset m
      refine (hspec _).2.1 ?_
      rw [State.bit, State.regN, hreset]
      rfl
  · rw [heq, (hspec k).2.2.1 ?_, hreg]
    rw [hl]
    intro h
    have := (List.mem_filter.mp h).2
    simp only [decide_eq_true_eq] at this
    omega

end Perst

end Sys2Proof.Machine

/-! O45: the link, configuration requests, sleep, the masks of vectors and the resets from PCIe. -/

namespace Sys2Proof.Machine

open Sys2Proof

section Clauses
variable {s : State} {n v : Nat}

theorem exec_perstN_runs (hoff : s.mode ≠ Mode.off) (h : s.bit Reg.GLB_HOSTCFG 3 = false) : exec .perstN s = .next s.softReset := by
  refine congrArg Host.Outcome.next ((if_neg hoff).trans (if_neg ?_))
  rw [h]
  decide

theorem exec_perstN_aborts (hoff : s.mode ≠ Mode.off) (h : s.bit Reg.GLB_HOSTCFG 3 = true) : exec .perstN s = .next (s.flr 0).linkDown :=
  congrArg Host.Outcome.next ((if_neg hoff).trans (if_pos h))

theorem exec_pcieRefLoss (hoff : s.mode ≠ Mode.off) :
    exec .pcieRefLoss s = .next { s.softReset with pwr := { s.pwr with pcieRef := false } } :=
  congrArg Host.Outcome.next (if_neg hoff)

theorem Link.l0_of_none {l : Link} (h : l.held = []) : ({ l with l0 := true, held := [] } : Link) = { l with l0 := true } := by
  cases l
  cases h
  rfl

theorem exec_flr (hn : n < 512) (hup : s.link.up = true) (hoff : s.mode ≠ Mode.off) (hflr : (s.fn n).flr = false) :
    exec (.flr n) s = .next (s.flr n) := by
  have hreach : s.cfgReach n = true := by simp [State.cfgReach, hup, hflr, hoff]
  exact (onUnit_of (by simpa [okFn] using hn) _).trans (congrArg Host.Outcome.next (if_pos hreach))

/-- One message held for L0 leaves as the link reaches it. -/
theorem State.reachL0_one (hv : v < 2048) (hheld : s.link.held = [(n, v)]) (hon : s.bit Reg.HVC_CTRL 0 = true)
    (hd : (s.fn n).dstate = 0) (hopen : s.vecOpen n v = true) :
    Sent n v s s.reachL0 ∧ s.reachL0.link = { s.link with l0 := true, held := [] } ∧
      s.reachL0 = { s with out := s.reachL0.out, link := s.reachL0.link, vecs := s.reachL0.vecs } := by
  obtain ⟨u, hu⟩ : ∃ u : State, u = { s with link := { s.link with l0 := true, held := [] } } := ⟨_, rfl⟩
  have heq : s.reachL0 = u.sendVec n v := by
    rw [State.reachL0_eq, ← hu, hheld]
    exact u.sendAll_one hv
  have hleave : MayLeave u n v := by rw [hu]; exact ⟨hon, hd, hopen, rfl⟩
  have hmail := u.sendVec_mailed n v
  have hlink := hmail.l0 hleave.l0
  rw [heq]
  refine ⟨(State.sendVec_leaves hleave).congr (by rw [hu]; exact ⟨rfl, rfl⟩) ⟨rfl, rfl⟩, by rw [hlink, hu], ?_⟩
  obtain ⟨o, l, x, he⟩ := hmail.frame
  rw [he, hu]

end Clauses

/-- Settles O45: each request is traced through the messages it lets leave; an FLR of the PF keeps every function that was reset with
nothing in flight, since an abort of such a function completes no command. -/
theorem linkSleepAndReset : Obligations.LinkSleepAndReset := by
  unfold Obligations.LinkSleepAndReset
  intro s fn v hfn hv f key x enabled open_ on taken pba sent others
  have hv' : v < 2048 := by split at hv <;> omega
  have hsent {t : State} (h : Sent fn v s t) : sent t := ⟨h.out, h.count, h.start, h.pba, h.others⟩
  have hleaves {u : State} (hu : u.regs = s.regs ∧ u.link = s.link) (hen : enabled) (hup : s.link.up = true)
      (hmsix : (u.fn fn).msixEn = true) (hbme : (u.fn fn).bme = true) (hmask : (u.fn fn).fmask = false) (hvec : (u.vec key).masked = false)
      (hd : (u.fn fn).dstate = 0) : MayLeave u fn v := by
    obtain ⟨hregs, hlink⟩ := hu
    refine ⟨(State.bit_of_reg (State.reg_of_regs hregs _) 0).trans hen.1, hd, State.vecOpen_of hmsix hbme hmask hvec (hlink ▸ hup), hlink ▸ hen.2⟩
  refine ⟨?_, ?_, ?_, ?_, ?_, ?_, ?_, ?_, ?_, ?_, ?_, ?_⟩
  · intro hoff
    exact ⟨exec_linkTrained hoff, fun h => (exec_linkTrained hoff).trans (congrArg Host.Outcome.next (State.cqRooms_all_none (s := s.trained) h))⟩
  · intro ⟨⟨hup, hoff⟩, hflr⟩ hd held
    have hcfg (r : ConfigReq) (g : State → State) : s.config fn r g = held r := State.config_held hup hoff hflr hd r g
    refine ⟨fun bme vf pmeEn more => ?_, fun cold => ?_, ?_, fun w => ?_, fun hen hw r => State.hold_cfg_wakes fn r hd hen hw⟩
    · rw [exec_configurationWrite hfn, hcfg]
    · rw [exec_d3hotEntry hfn, hcfg]
    · rw [exec_d0Return hfn, hcfg]
    · rw [exec_vectorUnmask hfn hv, hcfg]
  · intro hup hheld
    have heq : s.reachL0 = { s with link := { s.link with l0 := true, held := [] } } := by
      rw [State.reachL0_eq, hheld, List.map_nil, State.sendAll_nil]
    rw [exec_linkReachesL0 hup, heq, Link.l0_of_none hheld]
  · intro hup hheld hon hen hmask hvec hbme hd
    obtain ⟨h, hlink, hframe⟩ := State.reachL0_one hv' hheld hon hd (State.vecOpen_of hen hbme hmask hvec hup)
    exact ⟨_, exec_linkReachesL0 hup, hsent h, hlink, hframe⟩
  · intro ⟨⟨hup, hoff⟩, hflr⟩ hd hboot bme vf pmeEn more
    obtain ⟨⟨hself, hothers⟩, hvf, hl1, hl0, hsend, hquiet, hframe⟩ := State.configWrite_spec (n := fn) hboot hv' bme vf pmeEn more
    refine ⟨_, (exec_configurationWrite hfn ..).trans (congrArg Host.Outcome.next (State.config_acts hup hoff hflr hd ..)),
      hself, hothers, hvf, hl1, hl0, fun hb hp hen hmsix hmask hvec hds => hsent (hsend hb hp ?_), hquiet, hframe⟩
    have hset : (s.setFn fn { s.fn fn with bme := true }).fn fn = { s.fn fn with bme := true } := by rw [State.fn_setFn, if_pos rfl]
    refine hleaves ⟨rfl, rfl⟩ hen hup ?_ ?_ ?_ hvec ?_ <;> rw [hset]
    · exact hmsix
    · exact hmask
    · exact hds
  · intro ⟨⟨hup, hoff⟩, hflr⟩ hd cold
    obtain ⟨⟨hself, hothers⟩, hsend, hquiet, hframe⟩ := State.sleep_spec (s := s) (n := fn) hv' cold
    exact ⟨_, (exec_d3hotEntry hfn cold).trans (congrArg Host.Outcome.next (State.config_acts hup hoff hflr hd ..)), hself, hothers,
      fun hds hone ⟨hen, hmsix, hmask, hvec, hbme, _⟩ => hsent (hsend hds hone (hleaves ⟨rfl, rfl⟩ hen hup hmsix hbme hmask hvec hds)),
      hquiet, hframe⟩
  · intro ⟨⟨hup, hoff⟩, hflr⟩ hd hds
    rw [exec_d0Return hfn, State.config_acts hup hoff hflr hd, State.awake_stays hds]
  · intro ⟨⟨hup, hoff⟩, hflr⟩ hd hds u
    have hexec : exec (.d0Return fn) s = .next (s.awake fn) :=
      (exec_d0Return hfn).trans (congrArg Host.Outcome.next (State.config_acts hup hoff hflr hd ..))
    refine ⟨fun hw => hexec.trans (congrArg Host.Outcome.next (State.awake_none hds hw)),
      fun hw hchan hone hen hmsix hmask hvec hbme hup' => ?_, fun r w hw hrec => ?_⟩
    · have hset : (s.woken fn).fn fn = { s.fn fn with dstate := 0 } := by rw [State.woken, State.fn_setFn, if_pos rfl]
      obtain ⟨h, hself⟩ := State.awake_sends hv' hds hw hchan hone
        (hleaves ⟨rfl, rfl⟩ hen hup (by rw [hset]; exact hmsix) (by rw [hset]; exact hbme) (by rw [hset]; exact hmask) hvec (by rw [hset]))
      exact ⟨_, hexec, hsent h, hself⟩
    · have hwrite : exec (.completionWrite fn) u = .next ((s.woken fn).writeCpl fn) := onUnit_of (by simpa [okFn] using hfn) _
      have hweq := Host.Outcome.next.inj (hwrite.symm.trans hrec)
      rw [hexec, State.awake_one hds hw, hweq]
  · intro ⟨⟨hup, hoff⟩, hflr⟩ hd
    have hexec (w : MsixWrite) : exec (.vectorUnmask fn v w) s = .next (s.writeMsix fn v w) :=
      (exec_vectorUnmask hfn hv w).trans (congrArg Host.Outcome.next (State.config_acts hup hoff hflr hd ..))
    refine ⟨fun hp => ?_, fun hc hp hen hmsix hmask hbme hds => ?_, fun hp en fm => ?_⟩
    · obtain ⟨hvector, hcontrol⟩ := State.writeMsix_none (v := v) hp
      exact ⟨fun m => (hexec _).trans (congrArg Host.Outcome.next (hvector m)), fun en fm => (hexec _).trans (congrArg Host.Outcome.next (hcontrol en fm))⟩
    · have hvec : ((s.maskVec fn v false).vec key).masked = false := by rw [State.vec_maskVec, if_pos rfl]
      obtain ⟨h, hmasked⟩ := State.unmask_sends hc hv' hp (hleaves (u := s.maskVec fn v false) ⟨rfl, rfl⟩ hen hup hmsix hbme hmask hvec hds)
      exact ⟨_, hexec _, hsent h, hmasked⟩
    · obtain ⟨hself, hsend, hquiet⟩ := State.control_spec hv' hp en fm
      refine ⟨_, hexec _, hself, fun he hm hen hvec hbme hds => hsent (hsend ?_), hquiet⟩
      have hset : (s.msixCtl fn en fm).fn fn = { s.fn fn with msixEn := en.getD (s.fn fn).msixEn, fmask := fm.getD (s.fn fn).fmask } := by
        rw [State.msixCtl, State.fn_setFn, if_pos rfl]
      refine hleaves ⟨rfl, rfl⟩ hen hup ?_ ?_ ?_ hvec ?_ <;> rw [hset]
      · exact he
      · exact hbme
      · exact hm
      · exact hds
  · intro hoff down kept
    obtain ⟨hdown, hrings, hregs, hframe⟩ := s.softReset_spec
    have hdowns {t : State} (h : LinkDown t) : down t := ⟨h.link, fun m _ => h.fns m, h.vecs⟩
    have hkept : kept s.softReset := ⟨hdowns hdown, hrings, fun k _ hk => hregs k hk⟩
    refine ⟨fun hab => ⟨_, exec_perstN_runs hoff hab, hkept, hframe⟩, fun hab hup hflr => ?_, ?_⟩
    · obtain ⟨hd, hf, hfates⟩ := (s.flr 0).linkDown_spec
      exact ⟨_, _, exec_flr (by decide) hup hoff hflr, exec_perstN_aborts hoff hab, hdowns hd, hf, hfates⟩
    · refine ⟨_, exec_pcieRefLoss hoff, hkept, ?_⟩
      obtain ⟨u, hu⟩ : ∃ u, u = s.softReset := ⟨_, rfl⟩
      rw [← hu] at hframe ⊢
      obtain ⟨r, f, l, x, he⟩ : ∃ r f l x, u = { s with regs := r, fns := f, link := l, vecs := x } := ⟨_, _, _, _, hframe⟩
      rw [he]
  · intro ⟨⟨hup, hoff⟩, hflr⟩ hn hab hdoze
    obtain ⟨hself, hothers, hstatus, hhead, -⟩ := (s.unplugged fn).abortBegun_spec (n := fn) false
    have hset : (s.unplugged fn).fn fn = { (s.fn fn).unplug with flr := true, inflight := [], waiting := [] } := by
      rw [State.unplugged, State.fn_setFn, if_pos rfl]
    refine ⟨(s.unplugged fn).abortBegun fn false, (exec_flr hfn hup hoff hflr).trans (congrArg Host.Outcome.next (State.flr_vf hn hab hdoze)),
      ?_, fun m hm => ?_, hstatus, ?_⟩
    · rw [hself, hset]
      rfl
    · rw [hothers m hm, State.unplugged, State.fn_setFn, if_neg hm]
    · rw [hhead, hset]
      rfl
  · intro ⟨hup, hoff⟩ hflr hdoze
    obtain ⟨hvf, hall⟩ := s.flr_pf
    exact ⟨_, exec_flr (by decide) hup hoff hflr, hvf, fun m hm => ⟨(hall m hm).flr, (hall m hm).aborting, (hall m hm).inflight, (hall m hm).waiting⟩⟩

end Sys2Proof.Machine

/-! O39: loads and compare writes at a feedback port (R208, R212, R213). -/

namespace Sys2Proof.Machine

open Sys2Proof

/-! ### A write of FBK_CTRL -/

section Ctrl
variable {s : State} {p v : Nat}

theorem bits_lor_only {v i : Nat} (h : ∀ j < 3, j ≠ i → bitAt v j = false) : ∀ j < 3, bitAt (Nat.lor v (2 ^ i)) j = decide (i = j) := by
  intro j hj
  rw [bitAt_lor_two_pow]
  by_cases hij : i = j
  · simp [hij]
  · simp [h j hj (Ne.symm hij)]

theorem exec_fbkCtrlLoad (hp : p < 64) (hpage : s.pfPage (fbkPage p) = true) (h : ∀ j < 3, j ≠ 0 → bitAt v j = false) :
    exec (.fbkCtrlLoad p v) s =
      .next (if (s.drainBuf 0).loadedNow p true then (s.drainBuf 0).fbkErr p 8 else (s.drainBuf 0).loadPos p false) := by
  have hb := bits_lor_only h
  have heq : exec (.fbkCtrlLoad p v) s = .next ((s.drainBuf 0).writeFbkCtrl p (Nat.lor v (2 ^ 0))) :=
    (onUnit_of (by simpa [okPort] using hp) _).trans (congrArg Host.Outcome.next (State.pf_of_reach hpage ..))
  rw [heq, State.writeFbkCtrl, hb 0 (by decide), hb 1 (by decide), hb 2 (by decide)]
  rfl

theorem exec_fbkCtrlRevalid (hp : p < 64) (hpage : s.pfPage (fbkPage p) = true) (h : ∀ j < 3, j ≠ 1 → bitAt v j = false) :
    exec (.fbkCtrlRevalid p v) s = .next (if (s.drainBuf 0).fld (Reg.FBK_STATUS p) 8 4 = 0
      then ((s.drainBuf 0).standing p fun f => { f with validStands := true }).setBit (Reg.FBK_STATUS p) 0 true else s.drainBuf 0) := by
  have hb := bits_lor_only h
  have heq : exec (.fbkCtrlRevalid p v) s = .next ((s.drainBuf 0).writeFbkCtrl p (Nat.lor v (2 ^ 1))) :=
    (onUnit_of (by simpa [okPort] using hp) _).trans (congrArg Host.Outcome.next (State.pf_of_reach hpage ..))
  rw [heq, State.writeFbkCtrl, hb 0 (by decide), hb 1 (by decide), hb 2 (by decide)]
  simp only [decide_true, true_and, State.setFbkStat]
  rfl

end Ctrl

/-! ### What stands when a frame is taken back -/

section Stands
variable {s : State} {p : Nat}

/-- The frame and the edge that may be taken back are marked. -/
def Fbk.stands (g : Frame → Frame) (k : Fbk) : Fbk :=
  { k with undo := k.undo.map g, quad := k.quad.map fun q => (q.1, q.2.1, q.2.2.map g) }

theorem State.standing_spec (g : Frame → Frame) : (s.standing p g).port p = (s.port p).stands g ∧
    (s.standing p g) = { s with ports := (s.standing p g).ports } := by
  by_cases h : (s.port p).undo = none ∧ (s.port p).quad = none
  · have heq : s.standing p g = s := if_pos h
    rw [heq]
    refine ⟨?_, rfl⟩
    rw [Fbk.stands, h.1, h.2, Option.map_none, Option.map_none, ← h.1, ← h.2]
  · have heq : s.standing p g = s.setPort p ((s.port p).stands g) := if_neg h
    rw [heq]
    exact ⟨(s.port_setPort p p _).trans (if_pos rfl), rfl⟩

/-- A load of FBK_LOAD (R208). -/
theorem State.loadPos_spec : let t := s.loadPos p false
    t.fbkPos p = s.pair (Reg.FBK_LOAD_L p) (Reg.FBK_LOAD_H p) % 2 ^ 40 ∧ t.fbkStat p 0 = true ∧
    t.port p = { (s.port p).stands (fun f => { f with posStands := true, validStands := true }) with
      loaded := some (s.tick, false), trail := (t.port p).trail } ∧
    (t.port p).trail.head? = some (s.tb.now, s.fbkPos p) ∧
    (∀ r, r ∉ [Reg.FBK_POS_L p, Reg.FBK_POS_H p, Reg.FBK_STATUS p] → t.reg r = s.reg r) ∧
    t = { s with regs := t.regs, ports := t.ports } := by
  obtain ⟨hport, hframe⟩ := State.standing_spec (s := s) (p := p) fun f => { f with posStands := true, validStands := true }
  obtain ⟨u, hu⟩ : ∃ u, u = s.standing p fun f => { f with posStands := true, validStands := true } := ⟨_, rfl⟩
  rw [← hu] at hport hframe
  have hreg (k : Nat) : u.reg k = s.reg k := by rw [hframe]; rfl
  have hnow : u.tb = s.tb ∧ u.tick = s.tick := by rw [hframe]; exact ⟨rfl, rfl⟩
  obtain ⟨l, hl⟩ : ∃ l, l = (u.port p).trail.takeWhile fun x => u.atOrAfter x.1 (u.minus u.tb.now 0x4000) := ⟨_, rfl⟩
  obtain ⟨a, ha⟩ : ∃ a, a = u.pair (Reg.FBK_LOAD_L p) (Reg.FBK_LOAD_H p) := ⟨_, rfl⟩
  obtain ⟨k, hk⟩ : ∃ k : Fbk, k = { u.port p with trail := (u.tb.now, u.fbkPos p) :: l } := ⟨_, rfl⟩
  obtain ⟨x, hx⟩ : ∃ x, x = u.setPort p k := ⟨_, rfl⟩
  have hxport : x.port p = k := by rw [hx, State.port_setPort, if_pos rfl]
  have hxreg (r : Nat) : x.reg r = u.reg r := by rw [hx]; rfl
  obtain ⟨q, hq⟩ : ∃ q, x = { u with ports := q } := ⟨_, hx⟩
  obtain ⟨w, hw⟩ : ∃ w, w = (x.setFbkPos p a).setFbkStat p 0 true := ⟨_, rfl⟩
  have heq : s.loadPos p false = w.setPort p { w.port p with loaded := some (w.tick, false) } := by
    rw [hw, hx, hk, hl, ha, hu]
    rfl
  have honly : OnlyRegs [Reg.FBK_POS_L p, Reg.FBK_POS_H p, Reg.FBK_STATUS p] x w := by
    rw [hw]
    exact ((OnlyRegs.refl _ _).setPair (by simp) (by simp) _).setBit (by simp) ..
  have hwports : w.ports = x.ports := by rw [honly.1]
  have hwport : w.port p = k := (State.port_of_ports hwports p).trans hxport
  have hwtick : w.tick = s.tick := by rw [honly.1, hq]; exact hnow.2
  have htport : (s.loadPos p false).port p = { k with loaded := some (s.tick, false) } := by
    rw [heq, State.port_setPort, if_pos rfl, hwport, hwtick]
  have htreg (r : Nat) : (s.loadPos p false).reg r = w.reg r := by rw [heq]; rfl
  have hmod : a % posMod % 2 ^ 64 = a % 2 ^ 40 := by simp only [posMod]; omega
  refine ⟨?_, ?_, ?_, ?_, fun r hr => ?_, ?_⟩
  · have hpos : (s.loadPos p false).fbkPos p = w.fbkPos p := State.pair_of_reg (htreg _) (htreg _)
    have hset : w.fbkPos p = (x.setFbkPos p a).fbkPos p := by
      rw [hw]
      exact State.pair_of_reg (State.reg_setBit_other _ (by simp) ..) (State.reg_setBit_other _ (by simp) ..)
    have hsame : (x.setFbkPos p a).fbkPos p = a % 2 ^ 40 := (State.pair_setPair_mod _ (by simp) _).trans hmod
    rw [hpos, hset, hsame, ha, State.pair_of_reg (hreg _) (hreg _)]
  · have hstat : (s.loadPos p false).fbkStat p 0 = w.fbkStat p 0 := State.bit_of_reg (htreg _) 0
    rw [hstat, hw]
    exact State.bit_setBit_same _ _ _ _ (by decide)
  · rw [htport, hk, hport]
  · have hpos : u.fbkPos p = s.fbkPos p := State.pair_of_reg (hreg _) (hreg _)
    rw [htport, hk, hpos, hnow.1]
    rfl
  · rw [htreg, honly.2 r hr, hxreg, hreg]
  · obtain ⟨r, hr⟩ : ∃ r, w = { x with regs := r } := ⟨_, honly.1⟩
    rw [heq, hr, hq, hframe]
    rfl

end Stands

/-! ### A new CMP -/

section Cmp
variable {s : State} {p : Nat}

/-- CMP stands at or behind the position, in the direction compared (R213). -/
def State.cmpBehind (s : State) (p cmp : Nat) : Prop :=
  (if s.cmpDown p then (cmp + (2 ^ 40 - s.fbkPos p)) % 2 ^ 40 else (s.fbkPos p + (2 ^ 40 - cmp)) % 2 ^ 40) < 2 ^ 39

/-- The port's record of a write of CMP. -/
def Fbk.cmpWritten (k : Fbk) (set : Bool) (tick old : Nat) : Fbk :=
  { (if set then k.stands fun f => { f with cmpStands := true } else k) with
    cmpTick := some tick, cmpOld := old, cmpSet := set, caught := false }

theorem State.noteCmp_spec (h : (s.port p).cmpTick ≠ some s.tick) (set : Bool) :
    (s.noteCmp p set).port p = (s.port p).cmpWritten set s.tick (s.fbkCmp p) ∧
      s.noteCmp p set = { s with ports := (s.noteCmp p set).ports } := by
  obtain ⟨u, hu⟩ : ∃ u, u = if set then s.standing p (fun f => { f with cmpStands := true }) else s := ⟨_, rfl⟩
  have huport : u.port p = if set then (s.port p).stands fun f => { f with cmpStands := true } else s.port p := by
    rw [hu]
    split
    · exact State.standing_spec _ |>.1
    · rfl
  have huframe : u = { s with ports := u.ports } := by
    rw [hu]
    split
    · exact State.standing_spec _ |>.2
    · rfl
  have hnew : u.cmpNew p = false := by
    have hkept : (u.port p).cmpTick = (s.port p).cmpTick := by
      rw [huport]
      split <;> rfl
    have htick : u.tick = s.tick := by rw [huframe]
    rw [State.cmpNew, hkept, htick]
    exact beq_eq_false_iff_ne.mpr h
  have heq : s.noteCmp p set = u.setPort p { u.port p with cmpTick := some u.tick, cmpOld := u.fbkCmp p, cmpSet := set, caught := false } := by
    have : s.noteCmp p set = if u.cmpNew p then u.setPort p { u.port p with cmpSet := (u.port p).cmpSet || set }
        else u.setPort p { u.port p with cmpTick := some u.tick, cmpOld := u.fbkCmp p, cmpSet := set, caught := false } := by rw [hu]; rfl
    rw [this, hnew]
    rfl
  have htick : u.tick = s.tick := by rw [huframe]
  have hcmp : u.fbkCmp p = s.fbkCmp p := by rw [huframe]; rfl
  rw [heq]
  refine ⟨?_, ?_⟩
  · rw [State.port_setPort, if_pos rfl, huport, htick, hcmp]
    rfl
  · obtain ⟨q, hq⟩ : ∃ q, u = { s with ports := q } := ⟨_, huframe⟩
    rw [hq]
    rfl

/-- What a hit, and the advance of CMP after it, may write: the hit count, an error, EN and CMP. -/
theorem State.keepHit_spec (hp : p < 64) (stamp : Nat) : let t := s.keepHit p stamp
    t.fld (Reg.FBK_HSTAT p) 16 16 = (s.fld (Reg.FBK_HSTAT p) 16 16 + 1) % 2 ^ 16 ∧
      ∀ r, r ≠ Reg.FBK_HSTAT p → r ≠ Reg.FBK_ERR p → ¬(Reg.HVC_PEND 0 ≤ r ∧ r < Reg.HVC_PEND 512) → t.reg r = s.reg r := by
  obtain ⟨u, hu⟩ : ∃ u, u = (s.incWrap (Reg.FBK_HSTAT p) 16 16).raise (0x3280 + 4 * p + 1) := ⟨_, rfl⟩
  have hpend : ¬(Reg.HVC_PEND 0 ≤ Reg.FBK_HSTAT p ∧ Reg.FBK_HSTAT p < Reg.HVC_PEND 512) := fbkReg_not_pend (o := 0x78) hp (by decide)
  have hureg (r : Nat) (hr : ¬(Reg.HVC_PEND 0 ≤ r ∧ r < Reg.HVC_PEND 512)) : u.reg r = (s.incWrap (Reg.FBK_HSTAT p) 16 16).reg r := by
    rw [hu]
    exact State.raise_reg _ (by omega) hr
  have huhits : u.fld (Reg.FBK_HSTAT p) 16 16 = (s.fld (Reg.FBK_HSTAT p) 16 16 + 1) % 2 ^ 16 := by
    rw [State.fld_of_reg (hureg _ hpend), State.incWrap, State.fld_setFld_same _ _ _ _ _ (by decide)]
  have hsame (r : Nat) (hr : r ≠ Reg.FBK_ERR p) (hnp : ¬(Reg.HVC_PEND 0 ≤ r ∧ r < Reg.HVC_PEND 512)) : (s.keepHit p stamp).reg r = u.reg r := by
    rw [State.keepHit, ← hu]
    split
    · exact State.reg_fbkErr_other _ hp hr hnp _
    · split
      · exact State.reg_fbkErr_other _ hp hr hnp _
      · rfl
  refine ⟨?_, fun r hh he hnp => ?_⟩
  · rw [State.fld_of_reg (hsame _ (by simp) hpend), huhits]
  · rw [hsame r he hnp, hureg r hnp, State.incWrap, State.reg_setFld_other _ hh]

theorem State.takeHit_spec (hp : p < 64) (stamp : Nat) : let t := s.takeHits p 1 stamp
    t.fbkPos p = s.fbkPos p ∧ t.fld (Reg.FBK_HSTAT p) 16 16 = (s.fld (Reg.FBK_HSTAT p) 16 16 + 1) % 2 ^ 16 ∧
      (s.regN (Reg.FBK_SPACING p) = 0 → t.bit (Reg.FBK_CMPCFG p) 0 = false) := by
  obtain ⟨u, hu⟩ : ∃ u, u = s.keepHit p stamp := ⟨_, rfl⟩
  obtain ⟨hhits, hregs⟩ := State.keepHit_spec (s := s) hp stamp
  rw [← hu] at hhits hregs
  obtain ⟨v, hv⟩ : ∃ v, v = u.setFld (Reg.FBK_HSTAT p) 16 16 (u.fld (Reg.FBK_HSTAT p) 16 16) := ⟨_, rfl⟩
  have heq : s.takeHits p 1 stamp = v.advanceCmp p 1 false := by rw [hv, hu]; rfl
  have hvhits : v.fld (Reg.FBK_HSTAT p) 16 16 = (s.fld (Reg.FBK_HSTAT p) 16 16 + 1) % 2 ^ 16 := by
    rw [hv, State.fld_setFld_same _ _ _ _ _ (by decide), hhits]
    exact Nat.mod_mod ..
  have hvreg {o : Nat} (ho : o < 0x100) (hne : o ∉ [0x78, 0xc4]) : v.reg (fbkReg p o) = s.reg (fbkReg p o) := by
    simp only [List.mem_cons, List.not_mem_nil, or_false, not_or] at hne
    have h1 : fbkReg p o ≠ Reg.FBK_HSTAT p := by simpa using hne.1
    have h2 : fbkReg p o ≠ Reg.FBK_ERR p := by simpa using hne.2
    rw [hv, State.reg_setFld_other _ h1, hregs _ h1 h2 (fbkReg_not_pend hp ho)]
  have hspacing : v.regN (Reg.FBK_SPACING p) = s.regN (Reg.FBK_SPACING p) := State.regN_of_reg (hvreg (by decide) (by decide))
  have hpos : v.fbkPos p = s.fbkPos p := State.pair_of_reg (hvreg (o := 0x10) (by decide) (by decide)) (hvreg (o := 0x14) (by decide) (by decide))
  rw [heq, State.advanceCmp, hspacing]
  split
  · next h0 =>
    obtain ⟨t, ht⟩ : ∃ t, t = v.setBoth (Reg.FBK_CMPCFG p) 0 1 0 := ⟨_, rfl⟩
    have hother (r : Nat) (hr : r ≠ Reg.FBK_CMPCFG p) : t.reg r = v.reg r := by
      rw [ht]
      exact (State.setBoth_both v _ 0 0 1).reg r (by simpa using hr)
    have hen : t.fld (Reg.FBK_CMPCFG p) 0 1 = 0 := by
      rw [ht]
      exact (State.setBoth_fld v _ 0 (by decide)).1
    rw [← ht]
    refine ⟨(State.pair_of_reg (hother _ (by simp)) (hother _ (by simp))).trans hpos, (State.fld_of_reg (hother _ (by simp)) ..).trans hvhits, fun _ => ?_⟩
    rw [State.bit_eq_fld, hen]
    decide
  · next h0 =>
    have hcmp (x : Nat) : (v.setFbkCmp p x).fbkPos p = s.fbkPos p ∧
        (v.setFbkCmp p x).fld (Reg.FBK_HSTAT p) 16 16 = (s.fld (Reg.FBK_HSTAT p) 16 16 + 1) % 2 ^ 16 := by
      have hother (r : Nat) (hl : r ≠ Reg.FBK_CMP_L p) (hh : r ≠ Reg.FBK_CMP_H p) : (v.setFbkCmp p x).reg r = v.reg r :=
        State.reg_setPair_other _ hl hh _
      exact ⟨(State.pair_of_reg (hother _ (by simp) (by simp)) (hother _ (by simp) (by simp))).trans hpos,
        (State.fld_of_reg (hother _ (by simp) (by simp)) ..).trans hvhits⟩
    rw [if_neg (by decide)]
    split
    · exact ⟨(hcmp _).1, (hcmp _).2, fun h => absurd h h0⟩
    · exact ⟨(hcmp _).1, (hcmp _).2, fun h => absurd h h0⟩

theorem State.catchUp_spec (hp : p < 64) (hcaught : (s.port p).caught = false) (hpos : s.fbkPos p < 2 ^ 40) (hcmp : s.fbkCmp p < 2 ^ 40) :
    (¬(s.bit (Reg.FBK_CMPCFG p) 0 = true ∧ s.cmpBehind p (s.fbkCmp p)) → s.catchUp p = s) ∧
    (s.bit (Reg.FBK_CMPCFG p) 0 = true ∧ s.cmpBehind p (s.fbkCmp p) → let t := s.catchUp p
      t.fbkPos p = s.fbkPos p ∧ t.fld (Reg.FBK_HSTAT p) 16 16 = (s.fld (Reg.FBK_HSTAT p) 16 16 + 1) % 2 ^ 16 ∧
        (s.regN (Reg.FBK_SPACING p) = 0 → t.bit (Reg.FBK_CMPCFG p) 0 = false)) := by
  have hdist : (if s.cmpDown p then (s.fbkCmp p + posMod - s.fbkPos p) % posMod else (s.fbkPos p + posMod - s.fbkCmp p) % posMod) < 2 ^ 39 ↔
      s.cmpBehind p (s.fbkCmp p) := by
    rw [State.cmpBehind, Nat.add_sub_assoc (Nat.le_of_lt hpos), Nat.add_sub_assoc (Nat.le_of_lt hcmp)]
  constructor
  · intro h
    refine if_neg fun hc => h ?_
    exact ⟨hc.1, hdist.mp hc.2.2⟩
  · intro h
    have heq : s.catchUp p = (s.setPort p { s.port p with caught := true }).takeHits p 1 s.tb.now :=
      if_pos ⟨h.1, hcaught, hdist.mpr h.2⟩
    rw [heq]
    exact State.takeHit_spec (s := s.setPort p { s.port p with caught := true }) hp s.tb.now

/-- What a write of CMP does at the port (R213). -/
structure CmpTaken (d : State) (p : Nat) (set : Bool) (cmp : Nat) (t : State) : Prop where
  pos : t.fbkPos p = d.fbkPos p
  quiet : ¬(d.bit (Reg.FBK_CMPCFG p) 0 = true ∧ d.cmpBehind p cmp) → t.fbkCmp p = cmp ∧
    t.port p = (d.port p).cmpWritten set d.tick (d.fbkCmp p) ∧
    (∀ r, r ∉ [Reg.FBK_CMP_L p, Reg.FBK_CMP_H p] → t.reg r = d.reg r) ∧ t = { d with regs := t.regs, ports := t.ports }
  hit : d.bit (Reg.FBK_CMPCFG p) 0 = true ∧ d.cmpBehind p cmp →
    t.fld (Reg.FBK_HSTAT p) 16 16 = (d.fld (Reg.FBK_HSTAT p) 16 16 + 1) % 2 ^ 16 ∧
      (d.regN (Reg.FBK_SPACING p) = 0 → t.bit (Reg.FBK_CMPCFG p) 0 = false)

theorem State.cmpTaken {d w : State} {set : Bool} {cmp : Nat} (hp : p < 64) (hpos : d.fbkPos p < 2 ^ 40)
    (hnew : (d.port p).cmpTick ≠ some d.tick) (hw : OnlyRegs [Reg.FBK_CMP_L p, Reg.FBK_CMP_H p] (d.noteCmp p set) w)
    (hcmp : w.fbkCmp p = cmp) (hlt : cmp < 2 ^ 40) : CmpTaken d p set cmp (w.catchUp p) := by
  obtain ⟨hport, hframe⟩ := State.noteCmp_spec hnew set
  obtain ⟨u, hu⟩ : ∃ u, u = d.noteCmp p set := ⟨_, rfl⟩
  rw [← hu] at hport hframe hw
  have hreg (r : Nat) (hr : r ∉ [Reg.FBK_CMP_L p, Reg.FBK_CMP_H p]) : w.reg r = d.reg r :=
    (hw.2 r hr).trans (by rw [hframe]; rfl)
  have hwports : w.ports = u.ports := by rw [hw.1]
  have hwport : w.port p = (d.port p).cmpWritten set d.tick (d.fbkCmp p) := (State.port_of_ports hwports p).trans hport
  have hwpos : w.fbkPos p = d.fbkPos p := State.pair_of_reg (hreg _ (by simp)) (hreg _ (by simp))
  have hwcfg (i : Nat) : w.bit (Reg.FBK_CMPCFG p) i = d.bit (Reg.FBK_CMPCFG p) i := State.bit_of_reg (hreg _ (by simp)) i
  have hbehind : w.cmpBehind p (w.fbkCmp p) ↔ d.cmpBehind p cmp := by
    rw [State.cmpBehind, State.cmpBehind, State.cmpDown, State.cmpDown, hwcfg, hwpos, hcmp]
  have hiff : (w.bit (Reg.FBK_CMPCFG p) 0 = true ∧ w.cmpBehind p (w.fbkCmp p)) ↔ (d.bit (Reg.FBK_CMPCFG p) 0 = true ∧ d.cmpBehind p cmp) := by
    rw [hbehind, hwcfg]
  obtain ⟨hstill, hhit⟩ := State.catchUp_spec (s := w) hp (by rw [hwport]; rfl) (by rw [hwpos]; exact hpos) (by rw [hcmp]; exact hlt)
  refine ⟨?_, fun h => ?_, fun h => ?_⟩
  · by_cases h : w.bit (Reg.FBK_CMPCFG p) 0 = true ∧ w.cmpBehind p (w.fbkCmp p)
    · exact (hhit h).1.trans hwpos
    · rw [hstill h, hwpos]
  · rw [hstill fun hc => h (hiff.mp hc)]
    refine ⟨hcmp, hwport, hreg, ?_⟩
    obtain ⟨r, hr⟩ : ∃ r, w = { u with regs := r } := ⟨_, hw.1⟩
    obtain ⟨q, hq⟩ : ∃ q, u = { d with ports := q } := ⟨_, hframe⟩
    rw [hr, hq]
  · obtain ⟨-, hcount, hen⟩ := hhit (hiff.mpr h)
    exact ⟨hcount.trans (by rw [State.fld_of_reg (hreg _ (by simp))]), fun h0 => hen ((State.regN_of_reg (hreg _ (by simp))).trans h0)⟩

theorem exec_fbkCmp {v : Nat} (hp : p < 64) (hpage : s.pfPage (fbkPage p) = true) (high : Bool) :
    exec (.fbkCmp p high v) s = .next ((s.drainBuf 0).writeCmp p high v) :=
  (onUnit_of (by simpa [okPort] using hp) _).trans (congrArg Host.Outcome.next (State.pf_of_reach hpage ..))

theorem exec_fbkCmpadj {v : Nat} (hp : p < 64) (hpage : s.pfPage (fbkPage p) = true) :
    exec (.fbkCmpadj p v) s = .next ((s.drainBuf 0).adjustCmp p v) :=
  (onUnit_of (by simpa [okPort] using hp) _).trans (congrArg Host.Outcome.next (State.pf_of_reach hpage ..))

theorem State.noteCmp_reg {d : State} (hnew : (d.port p).cmpTick ≠ some d.tick) (set : Bool) (r : Nat) : (d.noteCmp p set).reg r = d.reg r := by
  rw [(State.noteCmp_spec hnew set).2]
  rfl

theorem State.writeCmp_low {d : State} {v : Nat} (hp : p < 64) (hpos : d.fbkPos p < 2 ^ 40) (hnew : (d.port p).cmpTick ≠ some d.tick)
    (hv : v < 2 ^ 32) (hh : d.regN (Reg.FBK_CMP_H p) < 2 ^ 8) :
    CmpTaken d p true (d.regN (Reg.FBK_CMP_H p) * 2 ^ 32 + v) (d.writeCmp p false v) := by
  refine State.cmpTaken (w := (d.noteCmp p true).setN (Reg.FBK_CMP_L p) (v % 2 ^ 32)) hp hpos hnew
    ((OnlyRegs.refl _ _).setN (by simp) _) ?_ (by omega)
  have hhigh : (d.noteCmp p true).regN (Reg.FBK_CMP_H p) = d.regN (Reg.FBK_CMP_H p) := State.regN_of_reg (State.noteCmp_reg hnew ..)
  rw [State.fbkCmp, State.pair, State.regN_setN_same, State.regN_setN_other _ (by simp), hhigh, Nat.mod_mod, Nat.mod_eq_of_lt hv]

theorem State.writeCmp_high {d : State} {v : Nat} (hp : p < 64) (hpos : d.fbkPos p < 2 ^ 40) (hnew : (d.port p).cmpTick ≠ some d.tick) :
    CmpTaken d p true (v % 2 ^ 8 * 2 ^ 32 + d.regN (Reg.FBK_CMP_L p)) (d.writeCmp p true v) := by
  have hl := d.regN_lt (Reg.FBK_CMP_L p)
  refine State.cmpTaken (w := (d.noteCmp p true).setN (Reg.FBK_CMP_H p) (v % 2 ^ 8)) hp hpos hnew
    ((OnlyRegs.refl _ _).setN (by simp) _) ?_ (by omega)
  have hlow : (d.noteCmp p true).regN (Reg.FBK_CMP_L p) = d.regN (Reg.FBK_CMP_L p) := State.regN_of_reg (State.noteCmp_reg hnew ..)
  rw [State.fbkCmp, State.pair, State.regN_setN_same, State.regN_setN_other _ (by simp), hlow]
  omega

theorem State.adjustCmp_taken {d : State} {v : Nat} (hp : p < 64) (hpos : d.fbkPos p < 2 ^ 40) (hnew : (d.port p).cmpTick ≠ some d.tick) :
    CmpTaken d p false ((d.fbkCmp p + (signed 32 v % 2 ^ 40).toNat) % 2 ^ 40) (d.adjustCmp p v) := by
  obtain ⟨x, hx⟩ : ∃ x, x = (signed 32 v % 2 ^ 40).toNat := ⟨_, rfl⟩
  have hun : unsigned 40 (signed 32 v) = x := by
    rw [hx, unsigned]
    norm_num
  have hcmp : (d.noteCmp p false).fbkCmp p = d.fbkCmp p := State.pair_of_reg (State.noteCmp_reg hnew ..) (State.noteCmp_reg hnew ..)
  rw [State.adjustCmp, hun, hcmp, ← hx]
  refine State.cmpTaken hp hpos hnew ((OnlyRegs.refl _ _).setPair (by simp) (by simp) _) ?_ (Nat.mod_lt _ (by decide))
  refine (State.pair_setPair_mod _ (by simp) _).trans ?_
  simp only [posMod]
  omega

end Cmp

end Sys2Proof.Machine

/-! O39: the acting on hits (R214). -/

namespace Sys2Proof.Machine

open Sys2Proof

section Hits
variable {s : State} {p : Nat}

theorem MidKept.of_write {u : State} {n a len v src : Nat} {x : Unit} (h : s.slabWrite n a len v src = .ok x u) : MidKept s u := by
  have hw := s.slabWrite_midKept n a len v src
  rwa [h] at hw

theorem MidKept.of_fault {u : State} {n a len v src c : Nat} (h : s.slabWrite n a len v src = .bad c u) : MidKept s u := by
  have hw := s.slabWrite_midKept n a len v src
  rwa [h] at hw

theorem State.setQueue_midKept (s : State) (q : Nat) (d : Queue) : MidKept s (s.setQueue q d) := .of_regs rfl

theorem State.stopQueue_midKept (s : State) (q code : Nat) : MidKept s (s.stopQueue q code) :=
  ⟨fun k h1 _ => State.reg_stopQueue s q code (by simp only [Reg.QM_LASTERR]; omega)⟩

/-- A record writes no register of the blocks. -/
theorem State.logRecord_midKept (s : State) (q v mb : Nat) : MidKept s (s.logRecord q v mb) := by
  have hfault (u : State) : MidKept u (u.descFault q) :=
    (((u.stopQueue_midKept q _).trans (State.setN_midKept _ (.inl (by decide)) _)).trans (State.setN_midKept _ (.inl (by decide)) _)).trans
      (State.raise_midKept ..)
  simp only [State.logRecord]
  split
  · exact .refl s
  split
  · exact (s.setQueue_midKept ..).trans (hfault _)
  split
  · exact s.setQueue_midKept ..
  split
  · exact (s.setQueue_midKept ..).trans (State.setN_midKept _ (.inl (by decide)) _)
  split
  · next h => exact (MidKept.of_write h).trans (State.setQueue_midKept ..)
  · next h =>
    exact (((MidKept.of_fault h).trans (State.setQueue_midKept ..)).trans (State.stopQueue_midKept ..)).trans (State.faultRecord_midKept ..)

theorem State.fbkRecord_midKept (s : State) (p status kind pair time : Nat) : MidKept s (s.fbkRecord p status kind pair time) := by
  rw [State.fbkRecord, State.fbkRecordAt]
  split
  · exact s.logRecord_midKept ..
  · exact .refl s

theorem fbkReg_mid (hp : p < 64) {o : Nat} (ho : o < 0x100) : 0x10000 ≤ fbkReg p o ∧ fbkReg p o < 0xA2040 := by
  simp only [fbkReg]; omega

/-- A register of a port stays where the blocks' registers do. -/
theorem MidKept.fbk {t : State} (h : MidKept s t) (hp : p < 64) {o : Nat} (ho : o < 0x100) : t.reg (fbkReg p o) = s.reg (fbkReg p o) :=
  h.reg _ (fbkReg_mid hp ho).1 (fbkReg_mid hp ho).2

theorem State.fbkRecord_ports (s : State) (p status kind pair time : Nat) : (s.fbkRecord p status kind pair time).ports = s.ports := by
  rw [State.fbkRecord, State.fbkRecordAt]
  split
  · exact State.ports_of_wipe (State.logRecord_wipe0 ..) rfl
  · rfl

/-- A hit's entry is refused (R214). -/
theorem State.refuseHit_spec (hp : p < 64) {code : Nat} (stamp : Nat) : let t := s.refuseHit p code stamp
    t.ports = s.ports ∧ t.bit (Reg.FBK_ERR p) 4 = true ∧ t.fld (Reg.FBK_HSTAT p) 0 8 = code % 2 ^ 8 ∧
      (∀ i, t.bit (Reg.FBK_CMPCFG p) i = s.bit (Reg.FBK_CMPCFG p) i) ∧
      (s.bit (Reg.FBK_CFG p) 24 = false → t.queues = s.queues ∧ t.mem = s.mem) := by
  obtain ⟨u, hu⟩ : ∃ u, u = (s.fbkErr p 4).setFld (Reg.FBK_HSTAT p) 0 8 code := ⟨_, rfl⟩
  have heq : s.refuseHit p code stamp = u.fbkRecord p code 4 0 stamp := by rw [hu]; rfl
  have hkept := u.fbkRecord_midKept p code 4 0 stamp
  have hureg {o : Nat} (ho : o < 0x100) (h1 : o ≠ 0x78) (h2 : o ≠ 0xc4) : u.reg (fbkReg p o) = s.reg (fbkReg p o) := by
    rw [hu, State.reg_setFld_other _ (by simpa using h1), State.reg_fbkErr_other _ hp (by simpa using h2) (fbkReg_not_pend hp ho)]
  have huerr : u.bit (Reg.FBK_ERR p) 4 = true := by
    rw [hu, State.bit_setFld_other _ (by simp)]
    exact State.bit_fbkErr_same _ hp (by decide)
  have hucode : u.fld (Reg.FBK_HSTAT p) 0 8 = code % 2 ^ 8 := by rw [hu, State.fld_setFld_same _ _ _ _ _ (by decide)]
  have hfbk : (s.fbkErr p 4).ports = s.ports ∧ (s.fbkErr p 4).queues = s.queues ∧ (s.fbkErr p 4).mem = s.mem := by
    have he := State.raise_wipe0 (s.setBit (Reg.FBK_ERR p) 4 true) (0x3280 + 4 * p + 3)
    exact ⟨(State.ports_of_wipe he rfl).trans (State.setBit_ports ..), (State.queues_of_wipe he rfl).trans (State.setBit_queues ..),
      (State.mem_of_wipe he rfl).trans (State.setBit_mem ..)⟩
  have huset : u.ports = s.ports ∧ u.queues = s.queues ∧ u.mem = s.mem := by
    rw [hu, State.setFld_ports, State.setFld_queues, State.setFld_mem]
    exact hfbk
  rw [heq]
  refine ⟨(State.fbkRecord_ports ..).trans huset.1, ?_, ?_, fun i => ?_, fun hlog => ?_⟩
  · exact (State.bit_of_reg (hkept.fbk (o := 0xc4) hp (by decide)) 4).trans huerr
  · exact (State.fld_of_reg (hkept.fbk (o := 0x78) hp (by decide)) 0 8).trans hucode
  · exact State.bit_of_reg ((hkept.fbk (o := 0x5c) hp (by decide)).trans (hureg (by decide) (by decide) (by decide))) i
  · have hnone : u.fbkRecord p code 4 0 stamp = u := by
      refine if_neg ?_
      rw [State.bit_of_reg (k := Reg.FBK_CFG p) (hureg (o := 0x8) (by decide) (by decide) (by decide)), hlog]
      decide
    rw [hnone]
    exact huset.2

theorem State.fbkErr_events (s : State) (p b : Nat) : (s.fbkErr p b).wipe events = s.wipe events :=
  (State.raise_wipe _ _ _ (by decide)).trans (State.setBit_wipe _ _ _ _ _ (by decide))

theorem State.fbkErr_only (hp : p < 64) (b : Nat) : OnlyRegsAndEvents [Reg.FBK_ERR p] s (s.fbkErr p b) :=
  .of_wipe (s.fbkErr_events p b) fun _ hr hpend => State.reg_fbkErr_other s hp (List.ne_of_not_mem_cons hr) hpend b

theorem State.fbkPos_fbkErr (hp : p < 64) (b : Nat) : (s.fbkErr p b).fbkPos p = s.fbkPos p :=
  State.pair_of_reg (State.reg_fbkErr_other s hp (by simp) (fbkReg_not_pend (o := 0x10) hp (by decide)) b)
    (State.reg_fbkErr_other s hp (by simp) (fbkReg_not_pend (o := 0x14) hp (by decide)) b)

/-- The port has taken its oldest hit. -/
def State.hitTaken (s : State) (p : Nat) (rest : List Nat) : State := s.setPort p { s.port p with hits := rest, hitTick := some s.tick }

/-- The toggle of a hit is kept for its cuff (R214). -/
def State.keepToggle (s : State) (p stamp : Nat) : State :=
  let g := s.plus stamp (s.fld (Reg.FBK_TDLY p) 0 24)
  let s := if s.ahead g 1 then s else s.fbkErr p 9
  s.setPort p { s.port p with toggles := (s.port p).toggles ++ [s.toggleDue g] }

/-- The acts of a hit: its entry goes to the queue, and its toggle is kept. -/
def State.hitActed (s : State) (p stamp : Nat) : State :=
  let s := if s.bit (Reg.FBK_CMPCFG p) 3 then s.hitQueued p stamp else s
  if s.bit (Reg.FBK_CMPCFG p) 4 then s.keepToggle p stamp else s

theorem State.hitActed_unqueued {stamp : Nat} (h : s.bit (Reg.FBK_CMPCFG p) 3 = false) :
    s.hitActed p stamp = if s.bit (Reg.FBK_CMPCFG p) 4 then s.keepToggle p stamp else s := by
  have hnone : (if s.bit (Reg.FBK_CMPCFG p) 3 then s.hitQueued p stamp else s) = s := if_neg (by rw [h]; decide)
  rw [State.hitActed, hnone]

theorem State.hitActed_queued {stamp : Nat} {t : State} (h : s.bit (Reg.FBK_CMPCFG p) 3 = true) (ht : s.hitQueued p stamp = t)
    (h4 : t.bit (Reg.FBK_CMPCFG p) 4 = false) : s.hitActed p stamp = t := by
  rw [State.hitActed, if_pos h, ht]
  exact if_neg (by rw [h4]; decide)

theorem exec_hitAction (hp : p < 64) {stamp : Nat} {rest : List Nat} (hhits : (s.port p).hits = stamp :: rest) (hserv : s.service = true)
    (htick : ∀ y, (s.port p).hitTick = some y → y + 16 ≤ s.tick) :
    exec (.hitAction p) s = .next ((s.hitTaken p rest).hitActed p stamp) := by
  have hany : ((s.port p).hitTick.any fun x => decide (s.tick < x + 16)) = false := by
    rcases hx : (s.port p).hitTick with _ | y
    · rfl
    · have := htick y hx
      simp only [Option.any_some, decide_eq_false_iff_not]
      omega
  refine (onUnit_of (by simpa [okPort] using hp) _).trans (congrArg Host.Outcome.next ?_)
  rw [State.actHit, hhits]
  exact if_neg (by simp [hserv, hany])

theorem State.hitTaken_port (rest : List Nat) : (s.hitTaken p rest).port p = { s.port p with hits := rest, hitTick := some s.tick } :=
  (s.port_setPort p p _).trans (if_pos rfl)

/-- The toggle of a hit that is not queued (R214). -/
theorem State.keepToggle_spec (hp : p < 64) (stamp : Nat) : let t := s.keepToggle p stamp
    let g := s.plus stamp (s.fld (Reg.FBK_TDLY p) 0 24)
    t.queues = s.queues ∧ t.mem = s.mem ∧
    t.port p = { s.port p with toggles := (s.port p).toggles ++ [if s.ahead g 1 then g else s.tb.now] } ∧
    (s.ahead g 1 = false → t.bit (Reg.FBK_ERR p) 9 = true) := by
  obtain ⟨g, hg⟩ : ∃ g, g = s.plus stamp (s.fld (Reg.FBK_TDLY p) 0 24) := ⟨_, rfl⟩
  obtain ⟨u, hu⟩ : ∃ u, u = if s.ahead g 1 then s else s.fbkErr p 9 := ⟨_, rfl⟩
  have heq : s.keepToggle p stamp = u.setPort p { u.port p with toggles := (u.port p).toggles ++ [u.toggleDue g] } := by rw [hu, hg]; rfl
  have hwipe := State.raise_wipe0 (s.setBit (Reg.FBK_ERR p) 9 true) (0x3280 + 4 * p + 3)
  have hsame : u.ports = s.ports ∧ u.queues = s.queues ∧ u.mem = s.mem ∧ u.tb = s.tb := by
    rw [hu]
    split
    · exact ⟨rfl, rfl, rfl, rfl⟩
    · exact ⟨(State.ports_of_wipe hwipe rfl).trans (State.setBit_ports ..), (State.queues_of_wipe hwipe rfl).trans (State.setBit_queues ..),
        (State.mem_of_wipe hwipe rfl).trans (State.setBit_mem ..), (State.tb_of_wipe hwipe rfl).trans (State.setBit_tb ..)⟩
  have hreload : u.circle = s.circle := by
    rw [hu]
    split
    · rfl
    · have hreg {k : Nat} (h1 : k < 0x10000) : (s.fbkErr p 9).reg k = s.reg k :=
        State.reg_fbkErr_other _ hp (by simp only [Reg.FBK_ERR]; omega) (by simp only [Reg.HVC_PEND]; omega) _
      exact congrArg (· + 1) (State.pair_of_reg (hreg (by decide)) (hreg (by decide)))
  have hahead : u.ahead g 1 = s.ahead g 1 := by
    simp only [State.ahead, State.plus, State.atOrAfter, hreload, hsame.2.2.2]
    rfl
  have hport : u.port p = s.port p := State.port_of_ports hsame.1 p
  rw [heq]
  simp only [← hg]
  refine ⟨hsame.2.1, hsame.2.2.1, ?_, fun h => ?_⟩
  · rw [State.port_setPort, if_pos rfl, hport, State.toggleDue, hahead, hsame.2.2.2]
  · have herr : (u.setPort p { u.port p with toggles := (u.port p).toggles ++ [u.toggleDue g] }).bit (Reg.FBK_ERR p) 9 = u.bit (Reg.FBK_ERR p) 9 := rfl
    rw [herr, hu, if_neg (by rw [h]; decide)]
    exact State.bit_fbkErr_same _ hp (by decide)

/-- The queue of the port's hits (R214). -/
def State.hitTarget (s : State) (p : Nat) : Nat := s.fld (Reg.FBK_HQUEUE p) 0 20

/-- The port owns the queue its hits go to, a queue of actions. -/
def State.hitMine (s : State) (p : Nat) : Prop :=
  (s.queue (s.hitTarget p)).state ≠ QState.free ∧ (s.queue (s.hitTarget p)).ttype ≠ 0 ∧ (s.queue (s.hitTarget p)).tenant = (s.port p).owner

theorem State.hitQueued_foreign {stamp : Nat} (h : ¬s.hitMine p) : s.hitQueued p stamp = s.refuseHit p Code.rejectQuota stamp := by
  refine if_pos ?_
  by_contra hc
  rw [not_or, not_or] at hc
  exact h ⟨hc.1, hc.2.1, not_not.mp hc.2.2⟩

theorem State.hitQueued_mine {stamp : Nat} (h : s.hitMine p) : s.hitQueued p stamp =
    let q := s.hitTarget p
    let d := s.queue q
    if d.size - 1 ≤ d.filled then s.refuseHit p Code.queueFull stamp
    else
      let code := s.checkEntry q (s.hitEntry p stamp)
      if code ≠ Code.ok then s.refuseHit p code stamp
      else match s.slabWrite d.tenant (d.entryAddr d.tail) 16 (toEntry (s.hitEntry p stamp)) 0 with
        | .ok _ t => t.acceptEntry q (s.hitEntry p stamp)
        | .bad c t => t.entryFault q d.tail c := by
  obtain ⟨hs, ht, hn⟩ := h
  refine if_neg ?_
  rintro (h | h | h)
  · exact hs h
  · exact ht h
  · exact h hn

theorem State.acceptEntry_keeps (u : State) (q : Nat) (a : Action) : (u.acceptEntry q a).ports = u.ports ∧ MidKept u (u.acceptEntry q a) := by
  have hcount (d : Queue) (b : Prop) [Decidable b] : (if b then (u.setQueue q d).incSat Reg.ADM_OVERRUN 0 32 else u.setQueue q d).ports = u.ports ∧
      MidKept u (if b then (u.setQueue q d).incSat Reg.ADM_OVERRUN 0 32 else u.setQueue q d) := by
    split
    · exact ⟨State.incSat_ports .., (u.setQueue_midKept ..).trans (State.setN_midKept _ (.inl (by decide)) _)⟩
    · exact ⟨rfl, u.setQueue_midKept ..⟩
  unfold State.acceptEntry
  exact hcount _ _

/-- A hit whose entry enters the port's queue (R214). -/
theorem State.hitQueued_enters {stamp pa : Nat} (h : s.hitMine p)
    (hroom : ¬(s.queue (s.hitTarget p)).size - 1 ≤ (s.queue (s.hitTarget p)).filled)
    (hcheck : s.checkEntry (s.hitTarget p) (s.hitEntry p stamp) = 0)
    (hwalk : s.walk (s.queue (s.hitTarget p)).tenant ((s.queue (s.hitTarget p)).entryAddr (s.queue (s.hitTarget p)).tail) = .ok pa) :
    let t := s.hitQueued p stamp
    t.ports = s.ports ∧ MidKept s t ∧ t.readMem pa 16 = toEntry (s.hitEntry p stamp) ∧
      (t.queue (s.hitTarget p)).tail = ((s.queue (s.hitTarget p)).tail + 1) % (s.queue (s.hitTarget p)).size ∧
      ∀ b, ¬(pa ≤ b ∧ b < pa + 16) → t.byte b = s.byte b := by
  obtain ⟨q, hq⟩ : ∃ q, q = s.hitTarget p := ⟨_, rfl⟩
  obtain ⟨e, he⟩ : ∃ e, e = s.hitEntry p stamp := ⟨_, rfl⟩
  obtain ⟨v, hv⟩ : ∃ v, v = s.walkCorrect (s.queue q).tenant ((s.queue q).entryAddr (s.queue q).tail) := ⟨_, rfl⟩
  have hmine := State.hitQueued_mine (stamp := stamp) h
  simp only [← hq, ← he] at hroom hcheck hwalk hmine ⊢
  have hwrite : s.slabWrite (s.queue q).tenant ((s.queue q).entryAddr (s.queue q).tail) 16 (toEntry e) 0 =
      .ok () (v.writeMem pa 16 (toEntry e)) := by
    rw [State.slabWrite, State.reach_ok hwalk, ← hv]
  have heq : s.hitQueued p stamp = (v.writeMem pa 16 (toEntry e)).acceptEntry q e := by
    rw [hmine, if_neg hroom, if_neg (by rw [hcheck]; decide), hwrite]
  have hvwipe : v.wipe 74491912782098 = s.wipe 74491912782098 := hv ▸ State.walkCorrect_wipe0 ..
  obtain ⟨w, hw⟩ : ∃ w, w = v.writeMem pa 16 (toEntry e) := ⟨_, rfl⟩
  have hwq : w.queue q = s.queue q := by
    rw [hw, State.queue, State.queues_of_wipe (State.writeMem_wipe0 ..) rfl, State.queues_of_wipe hvwipe rfl, ← State.queue]
  obtain ⟨htail, -, -, -, -, hmem⟩ := State.acceptEntry_spec w q e
  have hread (a n : Nat) : (w.acceptEntry q e).readMem a n = w.readMem a n := State.readMem_congr hmem a n
  rw [heq, ← hw]
  refine ⟨?_, ?_, ?_, ?_, fun b hb => ?_⟩
  · rw [(w.acceptEntry_keeps q e).1, hw, State.ports_of_wipe (State.writeMem_wipe0 ..) rfl, State.ports_of_wipe hvwipe rfl]
  · have hvk : MidKept s v := hv ▸ s.walkCorrect_midKept ..
    have hwk : MidKept v w := hw ▸ .of_regs (State.regs_of_wipe (State.writeMem_wipe0 ..) rfl)
    exact (hvk.trans hwk).trans (w.acceptEntry_keeps q e).2
  · rw [hread, hw, State.readMem_writeMem_same]
    exact Nat.mod_eq_of_lt (toEntry_lt e)
  · rw [htail, hwq]
    rfl
  · have hbyte : (w.acceptEntry q e).byte b = w.byte b := by rw [State.byte, State.byte, hmem]
    rw [hbyte, hw, State.byte_writeMem _ _ _ _ _ (by omega), State.byte, State.mem_of_wipe hvwipe rfl, ← State.byte]

end Hits

/-! ### The toggle of a hit -/

section Toggle
variable {s : State} {p c : Nat}

theorem State.padded_output (k : Cuff) (l : Bool) (stamp : Nat) :
    (s.padded c k l stamp).driven = k.driven ∧ (s.padded c k l stamp).level = k.level := by
  rw [State.padded]
  split <;> exact ⟨rfl, rfl⟩

theorem State.drivenTo_output (l : Bool) (t : Nat) : (s.drivenTo c l t).driven = s.outputOn c ∧ (s.drivenTo c l t).level = l := by
  simp only [State.drivenTo]
  split
  · next h => exact h
  · split
    · exact State.padded_output ..
    · exact ⟨rfl, rfl⟩

theorem State.outputOn_single (hmode : s.cuffMode c = 0) (hpair : s.pairEn (c / 2) = false) : s.outputOn c = true := by
  simp [State.outputOn, hmode, hpair]

theorem exec_hitToggle (hp : p < 64) {t0 : Nat} {rest : List Nat} (htog : (s.port p).toggles = t0 :: rest) (hserv : s.service = true)
    (hapron : (s.cuff (s.fld (Reg.FBK_CMPCFG p) 16 10)).apron = false) (hheld : (s.cuff (s.fld (Reg.FBK_CMPCFG p) 16 10)).held = false)
    (hdue : s.reached (s.toggleTime (s.fld (Reg.FBK_CMPCFG p) 16 10) t0) = true) :
    exec (.hitToggle p) s = .next (let c := s.fld (Reg.FBK_CMPCFG p) 16 10
      let g := s.toggleTime c t0
      let u := s.setPort p { s.port p with toggles := rest }
      if s.toggleFits p c = false then u
      else
        let s' := if g = t0 then u else u.cufErr c 0
        let w := s'.driveCuff c (if (s.cuff c).driven then !(s.cuff c).level else s'.activeLevel c) g
        w.setCuff c { w.cuff c with lastT := some g }) := by
  refine (onUnit_of (by simpa [okPort] using hp) _).trans (congrArg Host.Outcome.next ?_)
  rw [State.toggleHit, htog]
  exact if_neg (by simp [hserv, hapron, hheld, hdue])

/-- The toggle cuff is driven to the other level (R214). -/
theorem State.toggle_spec (hc : c < 1024) (hfits : s.toggleFits p c = true) (hheld : (s.cuff c).held = false) {k : Fbk} {g t0 : Nat}
    {u v w t : State} (hu : u = s.setPort p k) (hv : v = if g = t0 then u else u.cufErr c 0)
    (hw : w = v.driveCuff c (if (s.cuff c).driven then !(s.cuff c).level else v.activeLevel c) g)
    (ht : t = w.setCuff c { w.cuff c with lastT := some g }) :
    t.port p = k ∧ (t.cuff c).driven = true ∧ (t.cuff c).level = (if (s.cuff c).driven then !(s.cuff c).level else s.activeLevel c) ∧
      (t.cuff c).lastT = some g ∧ (∀ e, e ≠ c → t.cuff e = s.cuff e) ∧ (g ≠ t0 → t.bit (Reg.CUF_ERR c) 0 = true) ∧
      (g = t0 → (∀ r, r ≠ Reg.CUF_EDGES c → t.reg r = s.reg r) ∧ t = { s with regs := t.regs, cuffs := t.cuffs, ports := t.ports }) := by
  obtain ⟨l, hl⟩ : ∃ l, l = if (s.cuff c).driven then !(s.cuff c).level else v.activeLevel c := ⟨_, rfl⟩
  rw [← hl] at hw
  simp only [State.toggleFits, Bool.and_eq_true, decide_eq_true_eq, Bool.not_eq_true'] at hfits
  obtain ⟨⟨⟨⟨-, hmode⟩, hpair⟩, -⟩, -⟩ := hfits
  have hvports : v.ports = u.ports := by
    rw [hv]
    split
    · rfl
    · exact State.ports_of_wipe (State.cufErr_events ..) rfl
  have hvcuffs : v.cuffs = s.cuffs := by
    have hus : u.cuffs = s.cuffs := by rw [hu]; rfl
    rw [hv]
    split
    · exact hus
    · exact (State.cuffs_of_wipe (State.cufErr_events ..) rfl).trans hus
  have hvcuff (e : Nat) : v.cuff e = s.cuff e := by rw [State.cuff, State.cuff, hvcuffs]
  have hvreg (r : Nat) (hr : r ≠ Reg.CUF_ERR c) (hp : ¬(Reg.HVC_PEND 0 ≤ r ∧ r < Reg.HVC_PEND 512)) : v.reg r = s.reg r := by
    have hus : u.reg r = s.reg r := by rw [hu]; rfl
    rw [hv]
    split
    · exact hus
    · exact ((State.raise_reg _ (by omega) hp).trans (State.reg_setBit_other _ hr ..)).trans hus
  have hvpair : v.pairEn (c / 2) = false := by
    have : v.pairEn (c / 2) = s.pairEn (c / 2) := State.bit_of_reg (hvreg _ (by simp only [Reg.CUF_ERR, Reg.SLV_PAIR_CFG]; omega)
      (by simp only [Reg.HVC_PEND, Reg.SLV_PAIR_CFG]; omega)) 0
    rw [this, hpair]
  have hvcfg : v.reg (Reg.CUF_CFG c) = s.reg (Reg.CUF_CFG c) := hvreg _ (by simp) (by simp only [Reg.HVC_PEND, Reg.CUF_CFG]; omega)
  have hvmode : v.cuffMode c = 0 := (State.fld_of_reg hvcfg 0 2).trans hmode
  have hactive : v.activeLevel c = s.activeLevel c := congrArg (!·) (State.bit_of_reg hvcfg 2)
  obtain ⟨hcuff, honly, -⟩ := State.driveCuff_alone hc hvpair (by rw [hvcuff]; exact hheld) l g
  rw [← hw] at hcuff honly
  obtain ⟨hdriven, hlevel⟩ := State.drivenTo_output (s := v) (c := c) l g
  have htcuff (e : Nat) : t.cuff e = if e = c then { w.cuff c with lastT := some g } else w.cuff e := by
    rw [ht]
    exact State.cuff_setCuff ..
  have hwports : w.ports = v.ports := by rw [honly.frame]
  have htports : t.ports = w.ports := by rw [ht]; rfl
  have htreg (r : Nat) : t.reg r = w.reg r := by rw [ht]; rfl
  refine ⟨?_, ?_, ?_, ?_, fun e he => ?_, fun hne => ?_, fun heq => ⟨fun r hr => ?_, ?_⟩⟩
  · rw [State.port_of_ports (htports.trans (hwports.trans hvports)) p, hu, State.port_setPort, if_pos rfl]
  · rw [htcuff, if_pos rfl, hcuff, hdriven, State.outputOn_single hvmode hvpair]
  · rw [htcuff, if_pos rfl, hcuff, hlevel, hl, hactive]
  · rw [htcuff, if_pos rfl]
  · rw [htcuff, if_neg he, honly.cuff e he, hvcuff]
  · have herr : w.bit (Reg.CUF_ERR c) 0 = v.bit (Reg.CUF_ERR c) 0 := State.bit_of_reg (honly.reg _ (by simp)) 0
    have hset : v.bit (Reg.CUF_ERR c) 0 = true := by
      rw [hv, if_neg hne]
      exact (State.bit_of_reg (State.raise_reg _ (by omega) (by simp only [Reg.HVC_PEND, Reg.CUF_ERR]; omega)) 0).trans
        (State.bit_setBit_same _ _ _ _ (by decide))
    exact (State.bit_of_reg (htreg _) 0).trans (herr.trans hset)
  · have hvu : v = u := by rw [hv, if_pos heq]
    rw [htreg, honly.reg r hr, hvu, hu]
    rfl
  · have hvu : v = u := by rw [hv, if_pos heq]
    obtain ⟨r, f, hwe⟩ : ∃ r f, w = { v with regs := r, cuffs := f } := ⟨_, _, honly.frame⟩
    rw [ht, hwe, hvu, hu]
    rfl

end Toggle

section Acts
variable {s : State} {p : Nat}

/-- What the acting on a hit reads is the same once the hit has been taken. -/
theorem State.hitTaken_reads (rest : List Nat) : let u := s.hitTaken p rest
    (∀ r, u.reg r = s.reg r) ∧ u.queues = s.queues ∧ u.mem = s.mem ∧ u.eccBad = s.eccBad ∧ u.tb = s.tb ∧ u.circle = s.circle ∧
      (∀ q a, u.checkEntry q a = s.checkEntry q a) ∧ ∀ x, u.hitEntry p x = s.hitEntry p x :=
  ⟨fun _ => rfl, rfl, rfl, rfl, rfl, rfl, fun _ _ => rfl, fun _ => rfl⟩

end Acts

/-- Settles O39: a write of CMP is judged once it stands, a hit is acted on by the checks of its queue, and a toggle drives its cuff. -/
theorem feedbackCompareAndHits : Obligations.FeedbackCompareAndHits := by
  unfold Obligations.FeedbackCompareAndHits
  intro s p v hp hv k d page err only down pos behind hits stands due sets moved q x
  refine ⟨fun hpage => ⟨fun honly hnot => ?_, fun honly hload => ?_, fun honly => exec_fbkCtrlRevalid hp hpage honly, fun hpos hh hnew => ?_⟩,
    fun t0 rest hhits hserv htick => ?_, ?_⟩
  · have hnow : d.loadedNow p true = false := beq_eq_false_iff_ne.mpr hnot
    have hexec : exec (.fbkCtrlLoad p v) s = .next (d.loadPos p false) :=
      (exec_fbkCtrlLoad hp hpage honly).trans (congrArg Host.Outcome.next (if_neg (by rw [hnow]; decide)))
    exact ⟨_, hexec, State.loadPos_spec⟩
  · have hnow : d.loadedNow p true = true := beq_iff_eq.mpr hload
    have hexec : exec (.fbkCtrlLoad p v) s = .next (d.fbkErr p 8) :=
      (exec_fbkCtrlLoad hp hpage honly).trans (congrArg Host.Outcome.next (if_pos hnow))
    exact ⟨_, hexec, State.bit_fbkErr_same _ hp (by decide), State.fbkPos_fbkErr hp 8, State.fbkErr_only hp 8⟩
  · have hsets {i : Instr} {set : Bool} {cmp : Nat} {t : State} (hexec : exec i s = .next t) (h : CmpTaken d p set cmp t) : sets i set cmp :=
      ⟨t, hexec, h.pos, h.quiet, h.hit⟩
    exact ⟨hsets (exec_fbkCmp hp hpage false) (State.writeCmp_low hp hpos hnew hv hh),
      hsets (exec_fbkCmp hp hpage true) (State.writeCmp_high hp hpos hnew),
      hsets (exec_fbkCmpadj hp hpage) (State.adjustCmp_taken hp hpos hnew)⟩
  · have hexec := exec_hitAction hp hhits hserv htick
    have hmoved : moved = rest := congrArg (List.drop 1) hhits
    obtain ⟨hreg, hqueues, hmem, hecc, htb, hcircle, hcheck, hentry⟩ := State.hitTaken_reads (s := s) (p := p) rest
    have hport : (s.hitTaken p rest).port p = { k with hits := moved, hitTick := some s.tick } := by rw [State.hitTaken_port, hmoved]
    obtain ⟨u, hu⟩ : ∃ u, u = s.hitTaken p rest := ⟨_, rfl⟩
    rw [← hu] at hexec hreg hqueues hmem hecc htb hcircle hcheck hentry hport
    have hcfg (i : Nat) : u.bit (Reg.FBK_CMPCFG p) i = s.bit (Reg.FBK_CMPCFG p) i := State.bit_of_reg (hreg _) i
    refine ⟨fun h3 => ?_, fun h3 h4 => ?_⟩
    · have hq : exec (.hitAction p) s = .next (if u.bit (Reg.FBK_CMPCFG p) 4 then u.keepToggle p t0 else u) :=
        hexec.trans (congrArg Host.Outcome.next (State.hitActed_unqueued ((hcfg 3).trans h3)))
      by_cases h4 : s.bit (Reg.FBK_CMPCFG p) 4 = true
      · obtain ⟨htq, htm, htp, hterr⟩ := State.keepToggle_spec (s := u) hp t0
        have hg : u.plus t0 (u.fld (Reg.FBK_TDLY p) 0 24) = due t0 := by
          rw [State.plus, hcircle, State.fld_of_reg (hreg _)]
          rfl
        have hahead : u.ahead (due t0) 1 = s.ahead (due t0) 1 := by
          simp only [State.ahead, State.plus, State.atOrAfter, hcircle, htb]
          rfl
        rw [hg, hahead, htb, hport] at htp
        rw [hg, hahead] at hterr
        refine ⟨_, hq.trans (congrArg Host.Outcome.next (if_pos ((hcfg 4).trans h4))), htq.trans hqueues, htm.trans hmem, ?_, fun _ => hterr⟩
        rw [htp, if_pos h4]
      · refine ⟨_, hq.trans (congrArg Host.Outcome.next (if_neg fun h => h4 ((hcfg 4).symm.trans h))), hqueues, hmem, ?_, fun h => absurd h h4⟩
        rw [hport, if_neg h4]
    · have hq {t : State} (ht : u.hitQueued p t0 = t) (h : t.bit (Reg.FBK_CMPCFG p) 4 = false) : exec (.hitAction p) s = .next t :=
        hexec.trans (congrArg Host.Outcome.next (State.hitActed_queued ((hcfg 3).trans h3) ht h))
      intro a refused mine room
      have hqueue (i : Nat) : u.queue i = s.queue i := by rw [State.queue, State.queue, hqueues]
      have htarget : u.hitTarget p = q := State.fld_of_reg (hreg _) 0 20
      have hmine : u.hitMine p ↔ mine := by
        rw [State.hitMine, htarget, hqueue, hport]
      have hrefused {code : Nat} (ht : u.hitQueued p t0 = u.refuseHit p code t0) : refused (code % 256) := by
        obtain ⟨hports, herr, hcode, hkept, hquiet⟩ := State.refuseHit_spec (s := u) hp (code := code) t0
        refine ⟨_, hq ht ((hkept 4).trans ((hcfg 4).trans h4)), (State.port_of_ports hports p).trans hport, herr, hcode, fun h24 => ?_⟩
        obtain ⟨h1, h2⟩ := hquiet ((State.bit_of_reg (hreg _) 24).trans h24)
        exact ⟨h1.trans hqueues, h2.trans hmem⟩
      have hqueued (h : mine) := State.hitQueued_mine (stamp := t0) (hmine.mpr h)
      simp only [htarget, hqueue, hcheck, hentry] at hqueued
      refine ⟨fun h => ?_, fun h hr => ?_, fun h hr hc => ?_, fun h hr hc pa hwalk => ?_⟩
      · exact hrefused (code := 0x06) (State.hitQueued_foreign fun hm => h (hmine.mp hm))
      · exact hrefused (code := 0x0C) ((hqueued h).trans (if_pos (Nat.not_lt.mp hr)))
      · exact hrefused ((hqueued h).trans ((if_neg (Nat.not_le.mpr hr)).trans (if_pos hc)))
      · have hwalk' : u.walk (u.queue (u.hitTarget p)).tenant ((u.queue (u.hitTarget p)).entryAddr (u.queue (u.hitTarget p)).tail) = .ok pa := by
          rw [htarget, hqueue]
          exact (State.walk_congr (hreg _) hmem hecc _).trans hwalk
        obtain ⟨hports, hmid, hread, htail, hbytes⟩ := State.hitQueued_enters (stamp := t0) (hmine.mpr h)
          (by rw [htarget, hqueue]; exact Nat.not_le.mpr hr) (by rw [htarget, hentry, hcheck]; exact hc) hwalk'
        rw [htarget, hqueue] at htail
        rw [hentry] at hread
        refine ⟨_, hq rfl ((State.bit_of_reg (hmid.fbk (o := 0x5c) hp (by decide)) 4).trans ((hcfg 4).trans h4)),
          (State.port_of_ports hports p).trans hport, hread, htail, fun b hb => (hbytes b hb).trans ?_⟩
        rw [State.byte, State.byte, hmem]
  · intro c y t0 rest htog hserv hapron hheld g hdue
    have hexec := exec_hitToggle hp htog hserv hapron hheld hdue
    refine ⟨fun hfits => hexec.trans (congrArg Host.Outcome.next (if_pos hfits)), fun hfits => ?_⟩
    refine ⟨_, hexec.trans (congrArg Host.Outcome.next (if_neg (by rw [hfits]; decide))), ?_⟩
    exact State.toggle_spec (bits_lt _ 16 10) hfits hheld rfl rfl rfl rfl

end Sys2Proof.Machine

/-! O37: what the events of a feedback port leave unchanged, and the records and errors they write (R205, R214, R221). -/

namespace Sys2Proof.Machine

open Sys2Proof

/-- An event of port `p` that writes, of the port's own registers, those at the offsets `os`: the other ports, the cuffs, the contexts
and the time stay. -/
structure FbkStep (p : Nat) (os : List Nat) (s t : State) : Prop where
  reg : ∀ o, o < 0x100 → o ∉ os → t.reg (fbkReg p o) = s.reg (fbkReg p o)
  port : ∀ q, q ≠ p → t.port q = s.port q
  cuffs : t.cuffs = s.cuffs
  ctxs : t.ctxs = s.ctxs
  time : t.tb = s.tb ∧ t.tick = s.tick
  pwr : t.pwr = s.pwr

section Step
variable {p : Nat} {os ls : List Nat} {s t u : State}

theorem FbkStep.refl : FbkStep p os s s := ⟨fun _ _ _ => rfl, fun _ _ => rfl, rfl, rfl, ⟨rfl, rfl⟩, rfl⟩

theorem FbkStep.trans (h : FbkStep p os s t) (g : FbkStep p os t u) : FbkStep p os s u :=
  ⟨fun o ho hn => (g.reg o ho hn).trans (h.reg o ho hn), fun q hq => (g.port q hq).trans (h.port q hq), g.cuffs.trans h.cuffs,
    g.ctxs.trans h.ctxs, ⟨g.time.1.trans h.time.1, g.time.2.trans h.time.2⟩, g.pwr.trans h.pwr⟩

theorem FbkStep.mono (h : FbkStep p os s t) (hsub : ∀ o ∈ os, o ∈ ls) : FbkStep p ls s t :=
  ⟨fun o ho hn => h.reg o ho fun hm => hn (hsub o hm), h.port, h.cuffs, h.ctxs, h.time, h.pwr⟩

theorem FbkStep.of_wipe {m : Nat} (e : t.wipe m = s.wipe m) (hregs : ∀ o, o < 0x100 → o ∉ os → t.reg (fbkReg p o) = s.reg (fbkReg p o))
    (h3 : m.testBit 3 = false) (h9 : m.testBit 9 = false) (h13 : m.testBit 13 = false) (h26 : m.testBit 26 = false)
    (h35 : m.testBit 35 = false) (h44 : m.testBit 44 = false) : FbkStep p os s t :=
  ⟨hregs, fun q _ => State.port_of_ports (State.ports_of_wipe e h35) q, State.cuffs_of_wipe e h13, State.ctxs_of_wipe e h26,
    ⟨State.tb_of_wipe e h9, State.tick_of_wipe e h3⟩, State.pwr_of_wipe e h44⟩

theorem FbkStep.service (h : FbkStep p os s t) : t.service = s.service := by
  simp only [State.service, h.pwr]

theorem FbkStep.cuff (h : FbkStep p os s t) (c : Nat) : t.cuff c = s.cuff c := by rw [State.cuff, State.cuff, h.cuffs]

theorem FbkStep.bit (h : FbkStep p os s t) {o : Nat} (ho : o < 0x100) (hn : o ∉ os) (i : Nat) :
    t.bit (fbkReg p o) i = s.bit (fbkReg p o) i := State.bit_of_reg (h.reg o ho hn) i

theorem FbkStep.fld (h : FbkStep p os s t) {o : Nat} (ho : o < 0x100) (hn : o ∉ os) (lo n : Nat) :
    t.fld (fbkReg p o) lo n = s.fld (fbkReg p o) lo n := State.fld_of_reg (h.reg o ho hn) lo n

theorem FbkStep.regN (h : FbkStep p os s t) {o : Nat} (ho : o < 0x100) (hn : o ∉ os) : t.regN (fbkReg p o) = s.regN (fbkReg p o) :=
  State.regN_of_reg (h.reg o ho hn)

theorem FbkStep.pair (h : FbkStep p os s t) {l g : Nat} (hl : l < 0x100) (hg : g < 0x100) (hln : l ∉ os) (hgn : g ∉ os) :
    t.pair (fbkReg p l) (fbkReg p g) = s.pair (fbkReg p l) (fbkReg p g) := State.pair_of_reg (h.reg l hl hln) (h.reg g hg hgn)

variable (s)

theorem State.setPort_step (k : Fbk) : FbkStep p os s (s.setPort p k) :=
  ⟨fun _ _ _ => rfl, fun q hq => (s.port_setPort p q k).trans (if_neg hq), rfl, rfl, ⟨rfl, rfl⟩, rfl⟩

theorem State.setN_step {o : Nat} (ho : o ∈ os) (v : Nat) : FbkStep p os s (s.setN (fbkReg p o) v) :=
  ⟨fun x _ hn => State.reg_setN_other s (fun e => hn (by rwa [show x = o by simp only [fbkReg] at e; omega])) v, fun _ _ => rfl, rfl, rfl,
    ⟨rfl, rfl⟩, rfl⟩

theorem State.setFld_step {o : Nat} (ho : o ∈ os) (lo n v : Nat) : FbkStep p os s (s.setFld (fbkReg p o) lo n v) := s.setN_step ho _

theorem State.setBit_step {o : Nat} (ho : o ∈ os) (i : Nat) (b : Bool) : FbkStep p os s (s.setBit (fbkReg p o) i b) := s.setN_step ho _

theorem State.setPair_step {l h : Nat} (hl : l ∈ os) (hh : h ∈ os) (v : Nat) : FbkStep p os s (s.setPair (fbkReg p l) (fbkReg p h) v) :=
  (s.setN_step hl _).trans (State.setN_step _ hh _)

theorem State.setBoth_step {o : Nat} (ho : o ∈ os) (lo n v : Nat) : FbkStep p os s (s.setBoth (fbkReg p o) lo n v) := by
  have hstaged (u : State) (k : Nat) (w : Word) : FbkStep p os u (u.setStaged k w) :=
    ⟨fun _ _ _ => rfl, fun _ _ => rfl, rfl, rfl, ⟨rfl, rfl⟩, rfl⟩
  exact (s.setFld_step ho lo n v).trans (hstaged ..)

theorem State.raise_step (hp : p < 64) (id : Nat) : FbkStep p os s (s.raise id) :=
  .of_wipe (s.raise_wipe0 id) (fun _ ho _ => (s.raise_midKept id).fbk hp ho) rfl rfl rfl rfl rfl rfl

theorem State.fbkErr_step (hp : p < 64) (he : 0xc4 ∈ os) (b : Nat) : FbkStep p os s (s.fbkErr p b) :=
  (s.setBit_step he b true).trans (State.raise_step _ hp _)

theorem State.fbkRecord_step (hp : p < 64) (status kind pair time : Nat) : FbkStep p os s (s.fbkRecord p status kind pair time) := by
  have hregs := fun o (ho : o < 0x100) (_ : o ∉ os) => (s.fbkRecord_midKept p status kind pair time).fbk hp ho
  rw [State.fbkRecord, State.fbkRecordAt] at hregs ⊢
  split at hregs
  · next h => 
    rw [if_pos h]
    exact .of_wipe (s.logRecord_wipe0 ..) hregs rfl rfl rfl rfl rfl rfl
  · next h =>
    rw [if_neg h]
    exact .refl

/-- A port's own entry stays through an event and a record. -/
theorem State.port_fbkErr (b : Nat) : (s.fbkErr p b).port p = s.port p :=
  State.port_of_ports (State.ports_of_wipe (s.fbkErr_events p b) rfl) p

theorem State.port_fbkRecord (status kind pair time : Nat) : (s.fbkRecord p status kind pair time).port p = s.port p :=
  State.port_of_ports (s.fbkRecord_ports ..) p

theorem State.bit_fbkErr_kept (hp : p < 64) {i b : Nat} (hb : b < 32) (h : s.bit (Reg.FBK_ERR p) i = true) :
    (s.fbkErr p b).bit (Reg.FBK_ERR p) i = true := by
  refine (State.bit_of_reg ((State.raise_midKept _ _).fbk (o := 0xc4) hp (by decide)) i).trans ?_
  by_cases hib : i = b
  · rw [hib]
    exact State.bit_setBit_same _ _ _ _ hb
  · exact (State.bit_setBit_apart _ _ b i true hb hib).trans h

end Step

/-! ### Hits (R212-R214) -/

/-- The registers the taking of hits may write: CMP, CMPCFG, HSTAT and ERR. -/
abbrev hitRegs : List Nat := [0x44, 0x48, 0x5c, 0x78, 0xc4]

/-- The taking of hits: errors only add up, and of the port's own entry the waiting hits and the catch-up mark may change. -/
structure HitStep (p : Nat) (s t : State) : Prop where
  step : FbkStep p hitRegs s t
  err : ∀ i, s.bit (Reg.FBK_ERR p) i = true → t.bit (Reg.FBK_ERR p) i = true
  port : ∃ h c, t.port p = { s.port p with hits := h, caught := c }

section Hit
variable {p : Nat} {s t u : State}

theorem HitStep.refl : HitStep p s s := ⟨.refl, fun _ h => h, _, _, rfl⟩

theorem HitStep.trans (h : HitStep p s t) (g : HitStep p t u) : HitStep p s u := by
  obtain ⟨x, c, hx⟩ := h.port
  obtain ⟨y, d, hy⟩ := g.port
  exact ⟨h.step.trans g.step, fun i hi => g.err i (h.err i hi), y, d, by rw [hy, hx]⟩

theorem HitStep.of_regs (h : FbkStep p [0x44, 0x48, 0x5c, 0x78] s t) (hp : t.port p = s.port p) : HitStep p s t :=
  ⟨h.mono (by decide), fun i hi => (h.bit (o := 0xc4) (by decide) (by decide) i).trans hi, _, _, hp⟩

theorem State.keepHit_step (s : State) (hp : p < 64) (stamp : Nat) : HitStep p s (s.keepHit p stamp) := by
  have hport : ∀ v : State, (v.raise (0x3280 + 4 * p + 1)).port p = v.port p := fun v => State.port_of_ports (State.ports_of_wipe (v.raise_wipe0 _) rfl) p
  have hcount : HitStep p s ((s.incWrap (Reg.FBK_HSTAT p) 16 16).raise (0x3280 + 4 * p + 1)) :=
    .of_regs ((s.setFld_step (o := 0x78) (by decide) 16 16 _).trans (State.raise_step _ hp _)) (hport _)
  have herr (v : State) (b : Nat) (hb : b < 32) : HitStep p v (v.fbkErr p b) :=
    ⟨v.fbkErr_step hp (by decide) b, fun i hi => v.bit_fbkErr_kept hp hb hi, _, _, v.port_fbkErr b⟩
  simp only [State.keepHit]
  split
  · exact hcount.trans (herr _ 5 (by decide))
  split
  · exact hcount.trans (herr _ 3 (by decide))
  · exact hcount.trans ⟨State.setPort_step _ _, fun _ hi => hi, _, _, (State.port_setPort ..).trans (if_pos rfl)⟩

theorem State.advanceCmp_step (s : State) (n : Nat) (stands : Bool) : HitStep p s (s.advanceCmp p n stands) := by
  have hcmp (x : Nat) : HitStep p s (s.setFbkCmp p x) := .of_regs (s.setPair_step (l := 0x44) (h := 0x48) (by decide) (by decide) _) rfl
  simp only [State.advanceCmp]
  split
  · exact .of_regs (s.setBoth_step (o := 0x5c) (by decide) 0 1 0) rfl
  split
  · exact .refl
  split
  · exact hcmp _
  · exact hcmp _

theorem State.takeHits_step (s : State) (hp : p < 64) (n stamp : Nat) (stands : Bool) : HitStep p s (s.takeHits p n stamp stands) := by
  have hall (l : List Nat) : HitStep p s (l.foldl (fun s _ => s.keepHit p stamp) s) :=
    List.foldlRecOn (motive := HitStep p s) l _ .refl fun u hu _ _ => hu.trans (u.keepHit_step hp stamp)
  have hcount (u : State) (x : Nat) : HitStep p u (u.setFld (Reg.FBK_HSTAT p) 16 16 x) :=
    .of_regs (State.setFld_step _ (o := 0x78) (by decide) 16 16 _) rfl
  rw [State.takeHits]
  exact ((hall _).trans (hcount ..)).trans (State.advanceCmp_step ..)

theorem State.catchUp_cases (s : State) (p : Nat) :
    s.catchUp p = (s.setPort p { s.port p with caught := true }).takeHits p 1 s.tb.now ∨ s.catchUp p = s := ite_eq_or_eq ..

theorem State.catchUp_step (s : State) (hp : p < 64) : HitStep p s (s.catchUp p) := by
  have hset : HitStep p s (s.setPort p { s.port p with caught := true }) :=
    ⟨s.setPort_step _, fun _ hi => hi, _, _, (s.port_setPort ..).trans (if_pos rfl)⟩
  rcases s.catchUp_cases p with h | h
  · rw [h]
    exact hset.trans (State.takeHits_step _ hp ..)
  · rw [h]
    exact .refl

theorem State.compareCount_step (s : State) (hp : p < 64) (up : Bool) (stamp : Nat) : HitStep p s (s.compareCount p up stamp) := by
  simp only [State.compareCount]
  split
  · split
    · exact (s.takeHits_step hp ..).trans (State.catchUp_step _ hp)
    · exact s.catchUp_step hp
  · split
    · exact s.takeHits_step hp ..
    · exact .refl

/-- A hit that is neither held nor one too many waits to be acted on (R214). -/
theorem State.hits_keepHit (s : State) (stamp : Nat) (h7 : s.bit (Reg.FBK_CFG p) 7 = false) (hserv : s.service = true)
    (hp : p < 64) (hlen : (s.port p).hits.length < 4) : ((s.keepHit p stamp).port p).hits = (s.port p).hits ++ [stamp] := by
  obtain ⟨u, hu⟩ : ∃ u, u = (s.incWrap (Reg.FBK_HSTAT p) 16 16).raise (0x3280 + 4 * p + 1) := ⟨_, rfl⟩
  have hstep : FbkStep p [0x78] s u := hu ▸ (s.setFld_step (o := 0x78) (by decide) 16 16 _).trans (State.raise_step _ hp _)
  have hport : u.port p = s.port p := by
    rw [hu]
    exact State.port_of_ports (State.ports_of_wipe (State.raise_wipe0 ..) rfl) p
  have hcfg : u.bit (Reg.FBK_CFG p) 7 = false := (hstep.bit (o := 0x8) (by decide) (by decide) 7).trans h7
  rw [State.keepHit, ← hu, if_neg (by simp [hcfg, hstep.service, hserv]), if_neg (by rw [hport]; omega), State.port_setPort, if_pos rfl, hport]

end Hit

end Sys2Proof.Machine

/-! O37: counted edges and the compare they may make (R206, R207, R209-R213). -/

namespace Sys2Proof.Machine

open Sys2Proof

/-! ### The edge itself -/

/-- The registers of a counted edge before the position moves: STATUS, ETIME, SPEED and ERR. -/
abbrev edgeRegs : List Nat := [0x4, 0x20, 0x24, 0x38, 0x3c, 0xc4]

section Edge
variable {s : State} {p : Nat}

/-- OVERSPEED where the edge comes too soon after the last (R206). -/
def State.edgeErr (s : State) (p : Nat) (last : Option Nat) (stamp : Nat) : State :=
  match last with
  | some t => if s.minus stamp t < 480 then s.fbkErr p 2 else s
  | none => s

/-- The direction of the edge; a new one restarts the speed window (R210). -/
def State.edgeDir (s : State) (p : Nat) (up : Bool) : State :=
  let s := if s.fbkStat p 1 = !up then s else s.restartSpeed p []
  (s.setFbkStat p 1 (!up)).setFbkStat p 2 false

/-- The edge is timed, and the speed follows it. -/
def State.edgeTimed (s : State) (p stamp : Nat) : State :=
  let s := s.setPair (Reg.FBK_ETIME_L p) (Reg.FBK_ETIME_H p) stamp
  (s.setPort p { s.port p with lastTick := s.tick, lastCount := some stamp }).speedEdge p stamp

/-- A counted edge, before the position moves. -/
def State.edgeNoted (s : State) (p : Nat) (up : Bool) (stamp : Nat) : State :=
  (((s.noteSpeed p stamp).edgeErr p (s.port p).lastCount stamp).edgeDir p up).edgeTimed p stamp

theorem State.countEdge_eq (up : Bool) (stamp : Nat) : s.countEdge p up stamp =
    let w := s.edgeNoted p up stamp
    if (s.port p).loaded.any fun x => x.1 == w.tick then w
    else (w.movePos p stamp (if up then w.fbkPos p + 1 else w.fbkPos p + posMod - 1)).compareCount p up stamp := rfl

theorem State.noteSpeed_step (stamp : Nat) : FbkStep p edgeRegs s (s.noteSpeed p stamp) ∧
    ∃ l, (s.noteSpeed p stamp).port p = { s.port p with past := l } :=
  ⟨s.setPort_step _, _, (s.port_setPort ..).trans (if_pos rfl)⟩

theorem State.edgeErr_spec (hp : p < 64) (last : Option Nat) (stamp : Nat) : FbkStep p edgeRegs s (s.edgeErr p last stamp) ∧
    (s.edgeErr p last stamp).port p = s.port p ∧
      ∀ t, last = some t → s.minus stamp t < 480 → (s.edgeErr p last stamp).bit (Reg.FBK_ERR p) 2 = true := by
  rcases last with _ | t
  · exact ⟨.refl, rfl, fun t h => absurd h (by simp)⟩
  · by_cases h : s.minus stamp t < 480
    · have heq : s.edgeErr p (some t) stamp = s.fbkErr p 2 := if_pos h
      rw [heq]
      exact ⟨s.fbkErr_step hp (by decide) 2, s.port_fbkErr 2, fun _ _ _ => State.bit_fbkErr_same _ hp (by decide)⟩
    · have heq : s.edgeErr p (some t) stamp = s := if_neg h
      rw [heq]
      exact ⟨.refl, rfl, fun u hu hlt => absurd (Option.some.inj hu ▸ hlt) h⟩

theorem State.edgeDir_spec (up : Bool) : FbkStep p [0x4, 0x38, 0x3c] s (s.edgeDir p up) ∧
    (∃ l, (s.edgeDir p up).port p = { s.port p with likes := l }) ∧
      (s.edgeDir p up).fbkStat p 1 = !up ∧ (s.edgeDir p up).fbkStat p 2 = false := by
  obtain ⟨u, hu⟩ : ∃ u, u = if s.fbkStat p 1 = !up then s else s.restartSpeed p [] := ⟨_, rfl⟩
  have hstep : FbkStep p [0x4, 0x38, 0x3c] s u := by
    rw [hu]
    split
    · exact .refl
    · exact ((s.setPort_step _).trans (State.setPair_step _ (l := 0x38) (h := 0x3c) (by decide) (by decide) _)).trans
        (State.setBit_step _ (o := 0x4) (by decide) 3 false)
  have hport : ∃ l, u.port p = { s.port p with likes := l } := by
    rw [hu]
    split
    · exact ⟨_, rfl⟩
    · exact ⟨[], (s.port_restartSpeed [] p).trans (if_pos rfl)⟩
  have heq : s.edgeDir p up = (u.setFbkStat p 1 (!up)).setFbkStat p 2 false := by rw [hu]; rfl
  have hset (v : State) (i : Nat) (b : Bool) : FbkStep p [0x4, 0x38, 0x3c] v (v.setFbkStat p i b) := v.setBit_step (o := 0x4) (by decide) i b
  rw [heq]
  refine ⟨(hstep.trans (hset ..)).trans (hset ..), hport, ?_, State.bit_setBit_same _ _ _ _ (by decide)⟩
  exact (State.bit_setBit_apart _ _ 2 1 _ (by decide) (by decide)).trans (State.bit_setBit_same _ _ _ _ (by decide))

theorem State.setSpeed_step {os : List Nat} (s : State) (hl : 0x38 ∈ os) (hh : 0x3c ∈ os) (x : Nat) : FbkStep p os s (s.setSpeed p x) := by
  rw [State.setSpeed]
  generalize min (2 ^ 40 - 1) x = y
  exact s.setPair_step hl hh y

theorem State.fbkStat_setSpeed (s : State) (x i : Nat) : (s.setSpeed p x).fbkStat p i = s.fbkStat p i :=
  (State.setSpeed_step (os := [0x38, 0x3c]) s (by decide) (by decide) x).bit (o := 0x4) (by decide) (by decide) i

theorem State.speedEdge_spec (stamp : Nat) : FbkStep p [0x4, 0x38, 0x3c] s (s.speedEdge p stamp) ∧
    (∃ l, (s.speedEdge p stamp).port p = { s.port p with likes := l }) ∧
      ∀ i, i ≠ 3 → (s.speedEdge p stamp).fbkStat p i = s.fbkStat p i := by
  obtain ⟨l, hl⟩ : ∃ l, l = (stamp :: (s.port p).likes).take (s.speedSpan p + 1) := ⟨_, rfl⟩
  obtain ⟨u, hu⟩ : ∃ u, u = s.setPort p { s.port p with likes := l } := ⟨_, rfl⟩
  have hstep : FbkStep p [0x4, 0x38, 0x3c] s u := hu ▸ s.setPort_step _
  have hport : u.port p = { s.port p with likes := l } := by rw [hu, State.port_setPort, if_pos rfl]
  have hstat (i : Nat) : u.fbkStat p i = s.fbkStat p i := by rw [hu]; rfl
  rw [State.speedEdge, ← hl, ← hu]
  split
  · exact ⟨hstep, ⟨l, hport⟩, fun i _ => hstat i⟩
  · have hset (x : Nat) : FbkStep p [0x4, 0x38, 0x3c] u ((u.setSpeed p x).setFbkStat p 3 true) :=
      (u.setSpeed_step (by decide) (by decide) x).trans (State.setBit_step _ (o := 0x4) (by decide) 3 true)
    have hsport (x : Nat) : ((u.setSpeed p x).setFbkStat p 3 true).port p = u.port p :=
      State.port_of_ports ((State.setBit_ports ..).trans (State.setPair_ports ..)) p
    refine ⟨hstep.trans (hset _), ⟨l, (hsport _).trans hport⟩, fun i hi => ?_⟩
    exact ((State.bit_setBit_apart _ _ 3 i _ (by decide) hi).trans (State.fbkStat_setSpeed ..)).trans (hstat i)

theorem State.edgeTimed_spec (stamp : Nat) : FbkStep p [0x4, 0x20, 0x24, 0x38, 0x3c] s (s.edgeTimed p stamp) ∧
    (∃ l, (s.edgeTimed p stamp).port p = { s.port p with likes := l, lastTick := s.tick, lastCount := some stamp }) ∧
      (s.edgeTimed p stamp).pair (Reg.FBK_ETIME_L p) (Reg.FBK_ETIME_H p) = stamp % 2 ^ 64 ∧
        ∀ i, i ≠ 3 → (s.edgeTimed p stamp).fbkStat p i = s.fbkStat p i := by
  obtain ⟨u, hu⟩ : ∃ u, u = s.setPair (Reg.FBK_ETIME_L p) (Reg.FBK_ETIME_H p) stamp := ⟨_, rfl⟩
  obtain ⟨v, hv⟩ : ∃ v, v = u.setPort p { u.port p with lastTick := u.tick, lastCount := some stamp } := ⟨_, rfl⟩
  have heq : s.edgeTimed p stamp = v.speedEdge p stamp := by rw [hv, hu]; rfl
  have hsu : FbkStep p [0x4, 0x20, 0x24, 0x38, 0x3c] s u := hu ▸ s.setPair_step (l := 0x20) (h := 0x24) (by decide) (by decide) _
  have huv : FbkStep p [0x4, 0x20, 0x24, 0x38, 0x3c] u v := hv ▸ u.setPort_step _
  have huport : u.port p = s.port p := by rw [hu]; rfl
  have hvport : v.port p = { s.port p with lastTick := s.tick, lastCount := some stamp } := by
    rw [hv, State.port_setPort, if_pos rfl, huport, hsu.time.2]
  have hutime : u.pair (Reg.FBK_ETIME_L p) (Reg.FBK_ETIME_H p) = stamp % 2 ^ 64 := hu ▸ State.pair_setPair_mod _ (by simp) _
  have hvreg (r : Nat) : v.reg r = u.reg r := by rw [hv]; rfl
  have hustat (i : Nat) : u.fbkStat p i = s.fbkStat p i := by
    rw [hu]
    exact State.bit_of_reg (State.reg_setPair_other _ (by simp) (by simp) _) i
  obtain ⟨hstep, ⟨l, hport⟩, hstat⟩ := State.speedEdge_spec (s := v) (p := p) stamp
  rw [heq]
  refine ⟨(hsu.trans huv).trans (hstep.mono (by decide)), ⟨l, by rw [hport, hvport]⟩, ?_, fun i hi => ?_⟩
  · rw [hstep.pair (l := 0x20) (g := 0x24) (by decide) (by decide) (by decide) (by decide)]
    exact (State.pair_of_reg (hvreg _) (hvreg _)).trans hutime
  · exact ((hstat i hi).trans (State.bit_of_reg (hvreg _) i)).trans (hustat i)

theorem State.edgeNoted_spec (hp : p < 64) (up : Bool) (stamp : Nat) : let w := s.edgeNoted p up stamp
    FbkStep p edgeRegs s w ∧
    (∃ l f, w.port p = { s.port p with likes := l, past := f, lastTick := s.tick, lastCount := some stamp }) ∧
    (∀ t, (s.port p).lastCount = some t → s.minus stamp t < 480 → w.bit (Reg.FBK_ERR p) 2 = true) ∧
    w.pair (Reg.FBK_ETIME_L p) (Reg.FBK_ETIME_H p) = stamp % 2 ^ 64 ∧ w.fbkStat p 1 = !up ∧ w.fbkStat p 2 = false := by
  obtain ⟨hnote, f, hnport⟩ := State.noteSpeed_step (s := s) (p := p) stamp
  obtain ⟨u, hu⟩ : ∃ u, u = s.noteSpeed p stamp := ⟨_, rfl⟩
  have hminus (t : Nat) : u.minus stamp t = s.minus stamp t := by rw [hu]; rfl
  rw [← hu] at hnote hnport
  obtain ⟨herr, heport, hover⟩ := State.edgeErr_spec (s := u) hp (s.port p).lastCount stamp
  obtain ⟨v, hv⟩ : ∃ v, v = u.edgeErr p (s.port p).lastCount stamp := ⟨_, rfl⟩
  rw [← hv] at herr heport hover
  obtain ⟨hdir, ⟨l, hdport⟩, h1, h2⟩ := State.edgeDir_spec (s := v) (p := p) up
  obtain ⟨x, hx⟩ : ∃ x, x = v.edgeDir p up := ⟨_, rfl⟩
  rw [← hx] at hdir hdport h1 h2
  obtain ⟨htimed, ⟨l', htport⟩, htime, hstat⟩ := State.edgeTimed_spec (s := x) (p := p) stamp
  have heq : s.edgeNoted p up stamp = x.edgeTimed p stamp := by rw [hx, hv, hu]; rfl
  have hsx := (hnote.trans herr).trans (hdir.mono (by decide))
  rw [heq]
  refine ⟨hsx.trans (htimed.mono (by decide)), ⟨l', f, ?_⟩, fun t ht hlt => ?_, htime, (hstat 1 (by decide)).trans h1, (hstat 2 (by decide)).trans h2⟩
  · rw [htport, hdport, heport, hnport, hsx.time.2]
  · rw [htimed.bit (o := 0xc4) (by decide) (by decide), hdir.bit (o := 0xc4) (by decide) (by decide)]
    exact hover t ht ((hminus t).symm ▸ hlt)

end Edge

end Sys2Proof.Machine

/-! O37: the position of a counted edge, and the hit it may make (R206, R209, R212, R213). -/

namespace Sys2Proof.Machine

open Sys2Proof

section Count
variable {s : State} {p : Nat}

/-- CMP after a hit (R212): advanced by SPACING in the direction of the compare. -/
def State.cmpAfterHit (s : State) (p : Nat) : Nat :=
  if s.cmpDown p then (s.fbkCmp p + (2 ^ 40 - s.regN (Reg.FBK_SPACING p))) % 2 ^ 40 else (s.fbkCmp p + s.regN (Reg.FBK_SPACING p)) % 2 ^ 40

theorem mod_posMod_lt (x : Nat) : x % posMod < 2 ^ 64 := (Nat.mod_lt x (by decide)).trans (by decide)

theorem State.fbkCmp_setFbkCmp (s : State) (x : Nat) : (s.setFbkCmp p x).fbkCmp p = x % 2 ^ 40 :=
  State.pair_setPair_same _ (by simp) (mod_posMod_lt x)

theorem State.advanceCmp_spec (s : State) (p : Nat) :
    (s.regN (Reg.FBK_SPACING p) = 0 → (s.advanceCmp p 1 false).bit (Reg.FBK_CMPCFG p) 0 = false ∧ (s.advanceCmp p 1 false).fbkCmp p = s.fbkCmp p) ∧
    (s.regN (Reg.FBK_SPACING p) ≠ 0 → (s.advanceCmp p 1 false).fbkCmp p = s.cmpAfterHit p) := by
  have hlt := s.regN_lt (Reg.FBK_SPACING p)
  constructor
  · intro h
    have heq : s.advanceCmp p 1 false = s.setBoth (Reg.FBK_CMPCFG p) 0 1 0 := if_pos h
    rw [heq]
    constructor
    · rw [State.bit_eq_fld, (State.setBoth_fld s (Reg.FBK_CMPCFG p) 0 (by decide)).1]
      decide
    · exact (s.setBoth_step (p := p) (os := [0x5c]) (o := 0x5c) (by decide) 0 1 0).pair (l := 0x44) (g := 0x48) (by decide) (by decide) (by decide)
        (by decide)
  · intro h
    obtain ⟨x, hx⟩ : ∃ x, x = s.regN (Reg.FBK_SPACING p) := ⟨_, rfl⟩
    rw [← hx] at h hlt
    rw [State.advanceCmp, State.cmpAfterHit, ← hx]
    by_cases hd : s.cmpDown p = true
    · simp only [if_neg h, hd, if_true, if_neg (show ¬(false = true) by decide)]
      rw [State.fbkCmp_setFbkCmp, one_mul, Nat.mod_eq_of_lt (show x < posMod by simp only [posMod]; omega), Nat.add_sub_assoc (by simp only [posMod]; omega)]
    · simp only [if_neg h, if_neg hd, if_neg (show ¬(false = true) by decide)]
      rw [State.fbkCmp_setFbkCmp, one_mul]

/-- The hit of one count (R212-R214). -/
theorem State.oneHit_spec (hp : p < 64) (stamp : Nat) : let t := s.takeHits p 1 stamp
    (s.regN (Reg.FBK_SPACING p) = 0 → t.bit (Reg.FBK_CMPCFG p) 0 = false ∧ t.fbkCmp p = s.fbkCmp p) ∧
    (s.regN (Reg.FBK_SPACING p) ≠ 0 → t.fbkCmp p = s.cmpAfterHit p) ∧
    ((s.port p).hits.length < 4 → s.bit (Reg.FBK_CFG p) 7 = false → s.service = true → (t.port p).hits = (s.port p).hits ++ [stamp]) := by
  obtain ⟨u, hu⟩ : ∃ u, u = s.keepHit p stamp := ⟨_, rfl⟩
  have hregs := (State.keepHit_spec (s := s) hp stamp).2
  obtain ⟨v, hv⟩ : ∃ v, v = u.setFld (Reg.FBK_HSTAT p) 16 16 (u.fld (Reg.FBK_HSTAT p) 16 16) := ⟨_, rfl⟩
  have heq : s.takeHits p 1 stamp = v.advanceCmp p 1 false := by rw [hv, hu]; rfl
  have hvreg {o : Nat} (ho : o < 0x100) (hne : o ∉ [0x78, 0xc4]) : v.reg (fbkReg p o) = s.reg (fbkReg p o) := by
    simp only [List.mem_cons, List.not_mem_nil, or_false, not_or] at hne
    have h1 : fbkReg p o ≠ Reg.FBK_HSTAT p := by simpa using hne.1
    have h2 : fbkReg p o ≠ Reg.FBK_ERR p := by simpa using hne.2
    rw [hv, State.reg_setFld_other _ h1, hu, hregs _ h1 h2 (fbkReg_not_pend hp ho)]
  have hspacing : v.regN (Reg.FBK_SPACING p) = s.regN (Reg.FBK_SPACING p) := State.regN_of_reg (hvreg (by decide) (by decide))
  have hcmp : v.fbkCmp p = s.fbkCmp p := State.pair_of_reg (hvreg (o := 0x44) (by decide) (by decide)) (hvreg (o := 0x48) (by decide) (by decide))
  have hdown : v.cmpDown p = s.cmpDown p := State.bit_of_reg (hvreg (o := 0x5c) (by decide) (by decide)) 1
  have hafter : v.cmpAfterHit p = s.cmpAfterHit p := by rw [State.cmpAfterHit, State.cmpAfterHit, hdown, hcmp, hspacing]
  obtain ⟨hzero, hmore⟩ := v.advanceCmp_spec p
  rw [hspacing, hcmp] at hzero
  rw [hspacing, hafter] at hmore
  rw [heq]
  refine ⟨hzero, hmore, fun hlen h7 hserv => ?_⟩
  have hports : (v.advanceCmp p 1 false).port p = u.port p := by
    have hadv : (v.advanceCmp p 1 false).ports = v.ports := by
      simp only [State.advanceCmp]
      split
      · exact State.setBoth_ports ..
      · split
        · rfl
        · split
          · exact State.setPair_ports ..
          · exact State.setPair_ports ..
    exact State.port_of_ports (hadv.trans (by rw [hv]; exact State.setFld_ports ..)) p
  rw [hports, hu]
  exact s.hits_keepHit stamp h7 hserv hp hlen

/-- A count where CMP has not been written on the tick (R212). -/
theorem State.compareCount_old (h : (s.port p).cmpTick ≠ some s.tick) (up : Bool) (stamp : Nat) : s.compareCount p up stamp =
    if s.bit (Reg.FBK_CMPCFG p) 0 = true ∧ s.cmpDown p = !up ∧ s.fbkPos p = s.fbkCmp p then s.takeHits p 1 stamp else s := by
  have hnew : s.cmpNew p = false := by simpa [State.cmpNew] using h
  simp only [State.compareCount, State.judgeCmp, hnew]
  rfl

theorem State.movePos_spec (stamp v : Nat) : FbkStep p [0x10, 0x14] s (s.movePos p stamp v) ∧
    (∃ l, (s.movePos p stamp v).port p = { s.port p with trail := l }) ∧ (s.movePos p stamp v).fbkPos p = v % 2 ^ 40 := by
  obtain ⟨l, hl⟩ : ∃ l, s.movePos p stamp v = (s.setPort p { s.port p with trail := l }).setFbkPos p v := ⟨_, rfl⟩
  rw [hl]
  refine ⟨(s.setPort_step _).trans (State.setPair_step _ (l := 0x10) (h := 0x14) (by decide) (by decide) _), ⟨l, ?_⟩, ?_⟩
  · exact (State.port_of_ports (State.setPair_ports ..) p).trans ((s.port_setPort ..).trans (if_pos rfl))
  · exact State.pair_setPair_same _ (by simp) (mod_posMod_lt v)

/-- The registers of a counted edge. -/
abbrev countRegs : List Nat := [0x4, 0x10, 0x14, 0x20, 0x24, 0x38, 0x3c, 0x44, 0x48, 0x5c, 0x78, 0xc4]

/-- The position after a count. -/
def State.posAfter (s : State) (p : Nat) (up : Bool) : Nat := if up then (s.fbkPos p + 1) % 2 ^ 40 else (s.fbkPos p + (2 ^ 40 - 1)) % 2 ^ 40

/-- A count makes a hit (R212). -/
def State.countHits (s : State) (p : Nat) (up : Bool) : Prop :=
  s.bit (Reg.FBK_CMPCFG p) 0 = true ∧ s.bit (Reg.FBK_CMPCFG p) 1 = !up ∧ s.posAfter p up = s.fbkCmp p

/-- What a counted edge does (R206, R209, R210, R212-R214). -/
structure Counted (p : Nat) (up : Bool) (stamp : Nat) (s t : State) : Prop where
  step : FbkStep p countRegs s t
  port : ∃ l f h c x, t.port p = { s.port p with
    likes := l, past := f, lastTick := s.tick, lastCount := some stamp, hits := h, caught := c, trail := x }
  quick : ∀ t0, (s.port p).lastCount = some t0 → s.minus stamp t0 < 480 → t.bit (Reg.FBK_ERR p) 2 = true
  time : t.pair (Reg.FBK_ETIME_L p) (Reg.FBK_ETIME_H p) = stamp % 2 ^ 64
  dir : t.fbkStat p 1 = !up
  still : t.fbkStat p 2 = false
  stands : (∃ z, (s.port p).loaded = some (s.tick, z)) → t.fbkPos p = s.fbkPos p
  moves : (¬∃ z, (s.port p).loaded = some (s.tick, z)) → t.fbkPos p = s.posAfter p up
  miss : (¬∃ z, (s.port p).loaded = some (s.tick, z)) → (s.port p).cmpTick ≠ some s.tick → ¬s.countHits p up →
    t.fbkCmp p = s.fbkCmp p ∧ t.fld (Reg.FBK_HSTAT p) 16 16 = s.fld (Reg.FBK_HSTAT p) 16 16
  hit : (¬∃ z, (s.port p).loaded = some (s.tick, z)) → (s.port p).cmpTick ≠ some s.tick → s.countHits p up →
    t.fld (Reg.FBK_HSTAT p) 16 16 = (s.fld (Reg.FBK_HSTAT p) 16 16 + 1) % 2 ^ 16 ∧
    (s.regN (Reg.FBK_SPACING p) = 0 → t.bit (Reg.FBK_CMPCFG p) 0 = false ∧ t.fbkCmp p = s.fbkCmp p) ∧
    (s.regN (Reg.FBK_SPACING p) ≠ 0 → t.fbkCmp p = s.cmpAfterHit p) ∧
    ((s.port p).hits.length < 4 → s.bit (Reg.FBK_CFG p) 7 = false → s.service = true → (t.port p).hits = (s.port p).hits ++ [stamp])

theorem Fbk.loaded_any (k : Fbk) (n : Nat) : (k.loaded.any fun x => x.1 == n) = true ↔ ∃ z, k.loaded = some (n, z) := by
  rcases k.loaded with _ | ⟨m, z⟩
  · simp
  · simp

theorem State.countEdge_spec (hp : p < 64) (up : Bool) (stamp : Nat) : Counted p up stamp s (s.countEdge p up stamp) := by
  obtain ⟨w, hw⟩ : ∃ w, w = s.edgeNoted p up stamp := ⟨_, rfl⟩
  obtain ⟨hstep, ⟨l, f, hport⟩, hover, htime, hdir, hstill⟩ := State.edgeNoted_spec (s := s) hp up stamp
  have heq := State.countEdge_eq (s := s) (p := p) up stamp
  simp only [← hw] at hstep hport hover htime hdir hstill heq
  have hload : (((s.port p).loaded.any fun x => x.1 == w.tick) = true) ↔ ∃ z, (s.port p).loaded = some (s.tick, z) := by
    rw [hstep.time.2]
    exact Fbk.loaded_any _ _
  have hwpos : w.fbkPos p = s.fbkPos p := hstep.pair (l := 0x10) (g := 0x14) (by decide) (by decide) (by decide) (by decide)
  by_cases hld : ∃ z, (s.port p).loaded = some (s.tick, z)
  · rw [heq, if_pos (hload.mpr hld)]
    exact ⟨hstep.mono (by decide), ⟨l, f, (s.port p).hits, (s.port p).caught, (s.port p).trail, hport⟩, hover, htime, hdir, hstill, fun _ => hwpos,
      fun h => absurd hld h, fun h => absurd hld h, fun h => absurd hld h⟩
  · obtain ⟨n, hn⟩ : ∃ n, n = if up then w.fbkPos p + 1 else w.fbkPos p + posMod - 1 := ⟨_, rfl⟩
    obtain ⟨m, hm⟩ : ∃ m, m = w.movePos p stamp n := ⟨_, rfl⟩
    obtain ⟨hmove, ⟨x, hmport⟩, hmpos⟩ := State.movePos_spec (s := w) (p := p) stamp n
    rw [heq, if_neg (mt hload.mp hld), ← hn, ← hm]
    rw [← hm] at hmove hmport hmpos
    have hsm : FbkStep p [0x4, 0x10, 0x14, 0x20, 0x24, 0x38, 0x3c, 0xc4] s m := (hstep.mono (by decide)).trans (hmove.mono (by decide))
    have hafter : m.fbkPos p = s.posAfter p up := by
      rw [hmpos, hn, hwpos, State.posAfter]
      cases up
      · simp only [Bool.false_eq_true, if_false]
        rw [Nat.add_sub_assoc (by decide)]
      · rw [if_pos rfl, if_pos rfl]
    have hall : m.port p = { s.port p with likes := l, past := f, lastTick := s.tick, lastCount := some stamp, trail := x } := by rw [hmport, hport]
    have hcomp := m.compareCount_step hp up stamp
    obtain ⟨y, c, hcport⟩ := hcomp.port
    have hkept : FbkStep p [0x44, 0x48, 0x5c, 0x78, 0xc4] m (m.compareCount p up stamp) := hcomp.step
    have hcmp : m.fbkCmp p = s.fbkCmp p := hsm.pair (l := 0x44) (g := 0x48) (by decide) (by decide) (by decide) (by decide)
    have hhits : m.fld (Reg.FBK_HSTAT p) 16 16 = s.fld (Reg.FBK_HSTAT p) 16 16 := hsm.fld (o := 0x78) (by decide) (by decide) 16 16
    have hspace : m.regN (Reg.FBK_SPACING p) = s.regN (Reg.FBK_SPACING p) := hsm.regN (o := 0x50) (by decide) (by decide)
    have hcfg (i : Nat) : m.bit (Reg.FBK_CMPCFG p) i = s.bit (Reg.FBK_CMPCFG p) i := hsm.bit (o := 0x5c) (by decide) (by decide) i
    have hjudge : (m.bit (Reg.FBK_CMPCFG p) 0 = true ∧ m.cmpDown p = !up ∧ m.fbkPos p = m.fbkCmp p) ↔ s.countHits p up := by
      rw [State.countHits, State.cmpDown, hcfg 0, hcfg 1, hafter, hcmp]
    have htick (h : (s.port p).cmpTick ≠ some s.tick) : (m.port p).cmpTick ≠ some m.tick := by rwa [hall, hsm.time.2]
    refine ⟨(hsm.mono (by decide)).trans (hkept.mono (by decide)), ⟨l, f, y, c, x, by rw [hcport, hall]⟩,
      fun t0 h0 hlt => hcomp.err 2 ?_, ?_, ?_, ?_, fun h => absurd h hld, fun _ => ?_, fun _ hnew hmiss => ?_, fun _ hnew hhit => ?_⟩
    · exact (hmove.bit (o := 0xc4) (by decide) (by decide) 2).trans (hover t0 h0 hlt)
    · exact ((hkept.pair (l := 0x20) (g := 0x24) (by decide) (by decide) (by decide) (by decide)).trans
        (hmove.pair (l := 0x20) (g := 0x24) (by decide) (by decide) (by decide) (by decide))).trans htime
    · exact ((hkept.bit (o := 0x4) (by decide) (by decide) 1).trans (hmove.bit (o := 0x4) (by decide) (by decide) 1)).trans hdir
    · exact ((hkept.bit (o := 0x4) (by decide) (by decide) 2).trans (hmove.bit (o := 0x4) (by decide) (by decide) 2)).trans hstill
    · exact (hkept.pair (l := 0x10) (g := 0x14) (by decide) (by decide) (by decide) (by decide)).trans hafter
    · rw [m.compareCount_old (htick hnew), if_neg (mt hjudge.mp hmiss)]
      exact ⟨hcmp, hhits⟩
    · rw [m.compareCount_old (htick hnew), if_pos (hjudge.mpr hhit)]
      obtain ⟨hzero, hmore, hwait⟩ := State.oneHit_spec (s := m) hp stamp
      have hdown : m.cmpAfterHit p = s.cmpAfterHit p := by
        rw [State.cmpAfterHit, State.cmpAfterHit, State.cmpDown, State.cmpDown, hcfg 1, hcmp, hspace]
      rw [hspace, hcmp] at hzero
      rw [hspace, hdown] at hmore
      refine ⟨hhits ▸ (State.takeHit_spec (s := m) hp stamp).2.1, hzero, hmore, fun hlen h7 hserv => ?_⟩
      have hw4 := hwait (by rw [hall]; exact hlen) ((hsm.bit (o := 0x8) (by decide) (by decide) 7).trans h7) (hsm.service.trans hserv)
      rw [hw4, hall]

end Count

end Sys2Proof.Machine

/-! O37: edges of A and B (R206, R207). -/

namespace Sys2Proof.Machine

open Sys2Proof

section Quad
variable {s : State} {p stamp : Nat} {a b : Bool}

theorem exec_quadratureEdge (hp : p < 64) : exec (.quadratureEdge p a b stamp) s = .next (s.quadEdge p a b stamp) :=
  onUnit_of (decide_eq_true hp) _

/-! ### An illegal transition -/

/-- The port is marked and writes its record (R207). -/
def State.illegalNoted (s : State) (p stamp : Nat) : State := (s.markIllegal p stamp).fbkRecord p Code.illegalEdge 3 0 stamp

theorem State.markIllegal_step (hp : p < 64) (stamp : Nat) : FbkStep p [0xc4, 0xcc, 0x4, 0x38, 0x3c] s (s.markIllegal p stamp) :=
  ⟨fun _ ho hn => s.reg_markIllegal_port stamp hp ho hn, fun _ hq => s.port_markIllegal_other stamp hq,
    State.cuffs_of_wipe (s.markIllegal_wipe stamp) rfl, State.ctxs_of_wipe (s.markIllegal_wipe stamp) rfl,
    ⟨State.tb_of_wipe (s.markIllegal_wipe stamp) rfl, State.tick_of_wipe (s.markIllegal_wipe stamp) rfl⟩,
    State.pwr_of_wipe (s.markIllegal_wipe stamp) rfl⟩

/-- What an illegal transition does to the port as it stood before it. -/
structure IllegalNoted (p : Nat) (s t : State) : Prop where
  step : FbkStep p [0xc4, 0xcc, 0x4, 0x38, 0x3c] s t
  port : ∃ l, t.port p = { s.port p with likes := [], past := l }
  err : t.bit (Reg.FBK_ERR p) 1 = true
  invalid : t.fbkStat p 0 = false ∧ t.fbkStat p 3 = false
  speed : t.pair (Reg.FBK_SPEED_L p) (Reg.FBK_SPEED_H p) = 0
  count : t.regN (Reg.FBK_ILLCNT p) = min (2 ^ 32 - 1) (s.regN (Reg.FBK_ILLCNT p) + 1)

theorem State.illegalNoted_spec (hp : p < 64) (stamp : Nat) : IllegalNoted p s (s.illegalNoted p stamp) := by
  obtain ⟨u, hu⟩ : ∃ u, u = s.markIllegal p stamp := ⟨_, rfl⟩
  obtain ⟨l, hport⟩ := s.port_markIllegal_same (p := p) stamp
  have hmark := State.markIllegal_step (s := s) hp stamp
  have herr := s.illegal_markIllegal stamp hp
  have hcount := s.illcnt_markIllegal stamp hp
  have hvalid := s.pvalid_markIllegal (p := p) stamp
  have hspeed : u.pair (Reg.FBK_SPEED_L p) (Reg.FBK_SPEED_H p) = 0 := hu ▸ State.speed_restartSpeed _ []
  have hspd : u.fbkStat p 3 = false := hu ▸ State.spdvalid_restartSpeed _ []
  have hrec : FbkStep p [] u (u.fbkRecord p Code.illegalEdge 3 0 stamp) := u.fbkRecord_step hp ..
  have hrport : (u.fbkRecord p Code.illegalEdge 3 0 stamp).port p = u.port p := u.port_fbkRecord ..
  rw [State.illegalNoted, ← hu]
  rw [← hu] at hport hmark herr hcount hvalid
  exact ⟨hmark.trans (hrec.mono (by simp)), ⟨_, hrport.trans hport⟩, (hrec.bit (o := 0xc4) (by decide) (by simp) 1).trans herr,
    ⟨(hrec.bit (o := 0x4) (by decide) (by simp) 0).trans hvalid, (hrec.bit (o := 0x4) (by decide) (by simp) 3).trans hspd⟩,
    (hrec.pair (l := 0x38) (g := 0x3c) (by decide) (by decide) (by simp) (by simp)).trans hspeed,
    (hrec.regN (o := 0xcc) (by decide) (by simp)).trans hcount⟩

/-! ### An edge taken back (R207, R218) -/

/-- The offsets of the registers that are put back whole. -/
abbrev frameOffsets : List Nat := [0x20, 0x24, 0x38, 0x3c, 0xbc, 0xc0, 0x90, 0x94, 0xa0, 0xa4, 0x98, 0x9c]

theorem frameRegs_eq (p : Nat) : frameRegs p = frameOffsets.map (fbkReg p) := rfl

theorem State.putFrameRegs_step (s : State) (regs : List Nat) : FbkStep p frameOffsets s (((frameRegs p).zip regs).foldl (fun s e => s.setN e.1 e.2) s) ∧
    (((frameRegs p).zip regs).foldl (fun s e => s.setN e.1 e.2) s).port p = s.port p := by
  refine List.foldlRecOn (motive := fun t => FbkStep p frameOffsets s t ∧ t.port p = s.port p) _ _ ⟨.refl, rfl⟩ fun u hu e he => ?_
  have hmem := (List.of_mem_zip he).1
  rw [frameRegs_eq, List.mem_map] at hmem
  obtain ⟨o, ho, hoe⟩ := hmem
  rw [← hoe]
  exact ⟨hu.1.trans (u.setN_step ho _), hu.2⟩

/-- The registers that taking back may write. -/
abbrev undoOffsets : List Nat := frameOffsets ++ [0x4, 0x10, 0x14, 0x44, 0x48, 0x5c, 0x78, 0xb8]

/-- What taking back the values of a frame does (R207, R218). -/
structure ValuesUndone (p : Nat) (f : Frame) (s t : State) : Prop where
  step : FbkStep p undoOffsets s t
  port : t.port p = s.port p
  pos : t.fbkPos p = if f.posStands then s.fbkPos p else f.pos % 2 ^ 40
  cmp : f.cmpStands = false → t.fbkCmp p = (s.fbkCmp p + 2 ^ 40 - f.cmp) % 2 ^ 40

theorem State.fbkPos_setFbkPos (s : State) (x : Nat) : (s.setFbkPos p x).fbkPos p = x % 2 ^ 40 :=
  State.pair_setPair_same _ (by simp) (mod_posMod_lt x)

theorem State.undoPos_spec {s t : State} {f : Frame} (ht : t = if f.posStands then s else s.setFbkPos p f.pos) :
    FbkStep p [0x10, 0x14] s t ∧ t.port p = s.port p ∧ t.fbkPos p = if f.posStands then s.fbkPos p else f.pos % 2 ^ 40 := by
  by_cases hc : f.posStands = true
  · rw [if_pos hc] at ht ⊢
    rw [ht]
    exact ⟨.refl, rfl, rfl⟩
  · rw [if_neg hc] at ht ⊢
    rw [ht]
    exact ⟨s.setPair_step (l := 0x10) (h := 0x14) (by decide) (by decide) _, State.port_of_ports (State.setPair_ports ..) p, s.fbkPos_setFbkPos _⟩

theorem State.undoCmp_spec {s t : State} {f : Frame} (ht : t = if f.cmpStands then s else s.setFbkCmp p (s.fbkCmp p + posMod - f.cmp)) :
    FbkStep p [0x44, 0x48] s t ∧ t.port p = s.port p ∧ (f.cmpStands = false → t.fbkCmp p = (s.fbkCmp p + 2 ^ 40 - f.cmp) % 2 ^ 40) := by
  by_cases hc : f.cmpStands = true
  · rw [if_pos hc] at ht
    rw [ht]
    exact ⟨.refl, rfl, fun h => absurd (hc.symm.trans h) (by decide)⟩
  · rw [if_neg hc] at ht
    rw [ht]
    exact ⟨s.setPair_step (l := 0x44) (h := 0x48) (by decide) (by decide) _, State.port_of_ports (State.setPair_ports ..) p,
      fun _ => s.fbkCmp_setFbkCmp _⟩

theorem State.undoRest_step (s : State) (f : Frame) :
    let u := if f.en then s.setBoth (Reg.FBK_CMPCFG p) 0 1 1 else s
    let v := if u.fld (Reg.FBK_LDLY p) 0 24 = f.ldly.2 then u.setFld (Reg.FBK_LDLY p) 0 24 f.ldly.1 else u
    let t := v.setFld (Reg.FBK_HSTAT p) 16 16 (v.fld (Reg.FBK_HSTAT p) 16 16 + 2 ^ 16 - f.hitN)
    FbkStep p [0x5c, 0x78, 0xb8] s t ∧ t.port p = s.port p := by
  intro u v t
  have hu : FbkStep p [0x5c, 0x78, 0xb8] s u ∧ u.port p = s.port p := by
    show FbkStep p [0x5c, 0x78, 0xb8] s (if f.en then s.setBoth (Reg.FBK_CMPCFG p) 0 1 1 else s) ∧ _
    by_cases h : f.en
    · exact ⟨(congrArg (FbkStep p [0x5c, 0x78, 0xb8] s) (if_pos h)).mpr (s.setBoth_step (o := 0x5c) (by decide) 0 1 1),
        (congrArg (State.port · p) (if_pos h)).trans (State.port_of_ports (State.setBoth_ports ..) p)⟩
    · exact ⟨(congrArg (FbkStep p [0x5c, 0x78, 0xb8] s) (if_neg h)).mpr .refl, congrArg (State.port · p) (if_neg h)⟩
  have hv : FbkStep p [0x5c, 0x78, 0xb8] u v ∧ v.port p = u.port p := by
    show FbkStep p [0x5c, 0x78, 0xb8] u (if u.fld (Reg.FBK_LDLY p) 0 24 = f.ldly.2 then u.setFld (Reg.FBK_LDLY p) 0 24 f.ldly.1 else u) ∧ _
    by_cases h : u.fld (Reg.FBK_LDLY p) 0 24 = f.ldly.2
    · exact ⟨(congrArg (FbkStep p [0x5c, 0x78, 0xb8] u) (if_pos h)).mpr (u.setFld_step (o := 0xb8) (by decide) 0 24 _),
        (congrArg (State.port · p) (if_pos h)).trans (State.port_of_ports (State.setFld_ports ..) p)⟩
    · exact ⟨(congrArg (FbkStep p [0x5c, 0x78, 0xb8] u) (if_neg h)).mpr .refl, congrArg (State.port · p) (if_neg h)⟩
  exact ⟨(hu.1.trans hv.1).trans (v.setFld_step (o := 0x78) (by decide) 16 16 _),
    (State.port_of_ports (State.setFld_ports ..) p).trans (hv.2.trans hu.2)⟩

theorem State.undoValues_spec (s : State) (f : Frame) : ValuesUndone p f s (s.undoValues p f) := by
  obtain ⟨u, hu⟩ : ∃ u, u = ((frameRegs p).zip f.regs).foldl (fun s e => s.setN e.1 e.2) s := ⟨_, rfl⟩
  obtain ⟨hfs, hfp⟩ := State.putFrameRegs_step (p := p) s f.regs
  obtain ⟨v, hv⟩ : ∃ v, v = if f.posStands then u else u.setFbkPos p f.pos := ⟨_, rfl⟩
  obtain ⟨hps, hpp, hpos⟩ := State.undoPos_spec hv
  obtain ⟨w, hw⟩ : ∃ w, w = if f.cmpStands then v else v.setFbkCmp p (v.fbkCmp p + posMod - f.cmp) := ⟨_, rfl⟩
  obtain ⟨hcs, hcp, hcmp⟩ := State.undoCmp_spec hw
  obtain ⟨hrs, hrp⟩ := State.undoRest_step (p := p) w f
  rw [← hu] at hfs hfp
  have hupos : u.fbkPos p = s.fbkPos p := hfs.pair (l := 0x10) (g := 0x14) (by decide) (by decide) (by decide) (by decide)
  have hvcmp : v.fbkCmp p = s.fbkCmp p :=
    (hps.pair (l := 0x44) (g := 0x48) (by decide) (by decide) (by decide) (by decide)).trans
      (hfs.pair (l := 0x44) (g := 0x48) (by decide) (by decide) (by decide) (by decide))
  rw [hupos] at hpos
  rw [hvcmp] at hcmp
  rw [State.undoValues, ← hu]
  simp only [← hv, ← hw]
  refine ⟨(((hfs.mono (by decide)).trans (hps.mono (by decide))).trans (hcs.mono (by decide))).trans (hrs.mono (by decide)),
    hrp.trans (hcp.trans (hpp.trans hfp)), ?_, fun h => ?_⟩
  · exact (hrs.pair (l := 0x10) (g := 0x14) (by decide) (by decide) (by decide) (by decide)).trans
      ((hcs.pair (l := 0x10) (g := 0x14) (by decide) (by decide) (by decide) (by decide)).trans hpos)
  · exact (hrs.pair (l := 0x44) (g := 0x48) (by decide) (by decide) (by decide) (by decide)).trans (hcmp h)

/-- What taking back an edge does at the port (R207, R218). -/
structure Undone (p : Nat) (f : Frame) (s t : State) : Prop where
  step : FbkStep p undoOffsets s t
  lines : (t.port p).a = (s.port p).a ∧ (t.port p).b = (s.port p).b
  hits : (t.port p).hits = (s.port p).hits.filter (· ≠ f.time)
  pos : t.fbkPos p = if f.posStands then s.fbkPos p else f.pos % 2 ^ 40
  cmp : f.cmpStands = false → t.fbkCmp p = (s.fbkCmp p + 2 ^ 40 - f.cmp) % 2 ^ 40

theorem State.undoFrame_spec (s : State) (f : Frame) : Undone p f s (s.undoFrame p f) := by
  obtain ⟨u, hu⟩ : ∃ u, u = s.undoValues p f := ⟨_, rfl⟩
  obtain ⟨hus, hup, hpos, hcmp⟩ := State.undoValues_spec (p := p) s f
  rw [← hu] at hus hup hpos hcmp
  obtain ⟨v, hv⟩ : ∃ v, v = ((u.setFld (Reg.FBK_STATUS p) 0 4 f.stat).setFbkStat p 0 (u.fbkStat p 0 && (bitAt f.stat 0 || f.validStands))).setFbkStat p 2
    (u.fbkStat p 2 || bitAt f.stat 2) := ⟨_, rfl⟩
  have hvs : FbkStep p [0x4] u v := by
    rw [hv]
    exact ((u.setFld_step (o := 0x4) (by decide) 0 4 _).trans (State.setBit_step _ (o := 0x4) (by decide) 0 _)).trans
      (State.setBit_step _ (o := 0x4) (by decide) 2 _)
  have hvp : v.port p = u.port p := by rw [hv]; rfl
  obtain ⟨w, hw⟩ : ∃ w, w = if u.fbkStat p 2 then v.setPair (Reg.FBK_SPEED_L p) (Reg.FBK_SPEED_H p) 0 else v := ⟨_, rfl⟩
  have hws : FbkStep p [0x38, 0x3c] v w ∧ w.port p = v.port p := by
    rw [hw]
    split
    · exact ⟨v.setPair_step (l := 0x38) (h := 0x3c) (by decide) (by decide) 0, rfl⟩
    · exact ⟨.refl, rfl⟩
  have hall : w.port p = s.port p := hws.2.trans (hvp.trans hup)
  have hsw : FbkStep p undoOffsets s w := (hus.trans (hvs.mono (by decide))).trans (hws.1.mono (by decide))
  obtain ⟨k, hk⟩ : ∃ k : Fbk, k = { w.port p with
    ended := none, undo := none, quad := none, prevPos := f.prevPos, lastTick := f.lastTick, lastCount := f.lastCount,
    trail := if f.posStands then (w.port p).trail else f.trail, hits := (w.port p).hits.filter (· ≠ f.time),
    latches := f.latches ++ (w.port p).latches } := ⟨_, rfl⟩
  have heq : s.undoFrame p f = w.setPort p k := by rw [hk, hw, hv, hu]; rfl
  have hport : (w.setPort p k).port p = k := (w.port_setPort ..).trans (if_pos rfl)
  have hset : FbkStep p [] w (w.setPort p k) := w.setPort_step k
  rw [heq]
  refine ⟨hsw.trans (hset.mono (by simp)), ?_, ?_, ?_, fun h => ?_⟩
  · rw [hport, hk, hall]
    exact ⟨rfl, rfl⟩
  · rw [hport, hk, hall]
  · exact (hset.pair (l := 0x10) (g := 0x14) (by decide) (by decide) (by simp) (by simp)).trans
      ((hws.1.pair (l := 0x10) (g := 0x14) (by decide) (by decide) (by decide) (by decide)).trans
        ((hvs.pair (l := 0x10) (g := 0x14) (by decide) (by decide) (by decide) (by decide)).trans hpos))
  · exact (hset.pair (l := 0x44) (g := 0x48) (by decide) (by decide) (by simp) (by simp)).trans
      ((hws.1.pair (l := 0x44) (g := 0x48) (by decide) (by decide) (by decide) (by decide)).trans
        ((hvs.pair (l := 0x44) (g := 0x48) (by decide) (by decide) (by decide) (by decide)).trans (hcmp h)))

end Quad

end Sys2Proof.Machine

/-! O37: the rows of A and B (R206, R207), of the index (R208, R209), of the wires (R205, R218) and of standstill (R211). -/

namespace Sys2Proof.Machine

open Sys2Proof

section Rows
variable {s : State} {p stamp : Nat} {a b : Bool}

/-! ### Quadrature -/

/-- The port takes the levels of its lines. -/
def State.withLines (s : State) (p : Nat) (a b : Bool) : State := s.setPort p { s.port p with a := a, b := b }

theorem State.withLines_spec (s : State) (p : Nat) (a b : Bool) : FbkStep p [] s (s.withLines p a b) ∧
    (s.withLines p a b).port p = { s.port p with a := a, b := b } := ⟨s.setPort_step _, (s.port_setPort ..).trans (if_pos rfl)⟩

theorem State.quadEdge_bothLines (hon : s.fbkOn p 1 = true) (hst : s.stable p (stamp % s.circle) = true) (ha : a ≠ (s.port p).a)
    (hb : b ≠ (s.port p).b) (hq : ∀ q, (s.port p).quad = some q → q.1 ≠ stamp % s.circle / 16) :
    s.quadEdge p a b stamp = (s.withLines p a b).illegalNoted p (stamp % s.circle) := s.quadEdge_both hon hst ha hb hq

theorem Fbk.sameTick_some {k : Fbk} {t : Nat} {wasA : Bool} {f : Option Frame} (hq : k.quad = some (t / 16, wasA, f))
    (hother : if wasA then b ≠ k.b else a ≠ k.a) : k.sameTick t a b = some (t / 16, wasA, f) := by
  have hline : (if wasA then k.b != b else k.a != a) = true := by
    cases wasA
    · exact bne_iff_ne.mpr (Ne.symm hother)
    · exact bne_iff_ne.mpr (Ne.symm hother)
  rw [Fbk.sameTick, hq]
  exact Option.filter_some_pos (by rw [hline, decide_eq_true rfl]; rfl)

theorem Fbk.sameTick_none {k : Fbk} {t : Nat} (hq : ∀ q, k.quad = some q → q.1 = t / 16 → if q.2.1 then b = k.b else a = k.a) :
    k.sameTick t a b = none := by
  rw [Fbk.sameTick, Option.filter_eq_none_iff]
  rintro ⟨n, wasA, f⟩ h hc
  rw [Bool.and_eq_true, decide_eq_true_eq] at hc
  have hline := hq _ h hc.1
  cases wasA
  · exact bne_iff_ne.mp hc.2 (Eq.symm hline)
  · exact bne_iff_ne.mp hc.2 (Eq.symm hline)

/-- The edge of one line, where the edge of the other on the same tick has come as a row of its own. -/
theorem State.quadEdge_second (hon : s.fbkOn p 1 = true) (hst : s.stable p (stamp % s.circle) = true)
    (hone : (a ≠ (s.port p).a) ≠ (b ≠ (s.port p).b)) {wasA : Bool} {f : Option Frame}
    (hq : (s.port p).quad = some (stamp % s.circle / 16, wasA, f)) (hother : if wasA then b ≠ (s.port p).b else a ≠ (s.port p).a) :
    s.quadEdge p a b stamp = (s.withLines p a b).illegalEdge p (stamp % s.circle) f := by
  have hsame := Fbk.sameTick_some hq hother
  have hchange : ¬(((s.port p).a != a) = false ∧ ((s.port p).b != b) = false) := by
    rintro ⟨h1, h2⟩
    simp only [bne_eq_false_iff_eq] at h1 h2
    simp [h1, h2] at hone
  rw [State.quadEdge]
  simp only [hsame]
  rw [if_neg (by simp only [hon, hst, not_or]; exact ⟨by decide, by decide, hchange⟩), if_pos (.inr rfl)]
  rfl

/-- An edge counts up or down (R206). -/
def State.edgeUp (s : State) (p : Nat) (a b : Bool) : Bool :=
  (if a ≠ (s.port p).a then a != b else a == b) != s.bit (Reg.FBK_CFG p) 4

/-- An edge is counted (R206). -/
def State.edgeCounts (s : State) (p : Nat) (a b : Bool) : Prop :=
  s.likeSpan p = 4 ∨ (s.likeSpan p = 2 ∧ a ≠ (s.port p).a) ∨ (s.likeSpan p = 1 ∧ a ≠ (s.port p).a ∧ a = s.edgeUp p a b)

/-- The port before a lone edge is judged: the levels taken, nothing kept of the edge before. -/
def State.edgeBegun (s : State) (p : Nat) (a b : Bool) : State :=
  (s.withLines p a b).setPort p { (s.withLines p a b).port p with quad := none }

theorem State.edgeBegun_spec (s : State) (p : Nat) (a b : Bool) : FbkStep p [] s (s.edgeBegun p a b) ∧
    (s.edgeBegun p a b).port p = { s.port p with a := a, b := b, quad := none } :=
  ⟨(s.withLines_spec p a b).1.trans (State.setPort_step _ _),
    (State.port_setPort ..).trans ((if_pos rfl).trans (by rw [(s.withLines_spec p a b).2]))⟩

theorem State.edgeBegun_reg (s : State) (p : Nat) (a b : Bool) (r : Nat) : (s.edgeBegun p a b).reg r = s.reg r := rfl

/-- The model's judgement of an edge of a port with the given spacing of like edges. -/
def spanCounts (span : Nat) (chgA a up : Bool) : Bool :=
  match span with
  | 1 => chgA && (a == up)
  | 2 => chgA
  | 4 => true
  | _ => false

theorem spanCounts_iff (span : Nat) (chgA a up : Bool) :
    spanCounts span chgA a up = true ↔ span = 4 ∨ (span = 2 ∧ chgA = true) ∨ (span = 1 ∧ chgA = true ∧ a = up) := by
  unfold spanCounts
  split
  · simp
  · simp
  · simp
  · simp_all

/-- A lone edge, once the port has taken its levels. -/
def State.loneEdge (s : State) (p : Nat) (a b : Bool) (t : Nat) : State :=
  let chgA := (s.port p).a != a
  let s := s.withLines p a b
  let up := quadUp chgA a b != s.bit (Reg.FBK_CFG p) 4
  let counted := spanCounts (s.likeSpan p) chgA a up
  let s := s.setPort p { s.port p with quad := none }
  let f := s.beforeFrame p t
  let u := if counted then s.countEdge p up t else s
  u.setPort p { u.port p with quad := some (t / 16, chgA, if counted then some (u.afterFrame p f) else none) }

theorem State.quadEdge_loneEdge (hon : s.fbkOn p 1 = true) (hst : s.stable p (stamp % s.circle) = true)
    (hone : (a ≠ (s.port p).a) ≠ (b ≠ (s.port p).b))
    (hq : ∀ q, (s.port p).quad = some q → q.1 = stamp % s.circle / 16 → if q.2.1 then b = (s.port p).b else a = (s.port p).a) :
    s.quadEdge p a b stamp = s.loneEdge p a b (stamp % s.circle) := by
  have hsame := Fbk.sameTick_none hq
  have hchange : ¬(((s.port p).a != a) = false ∧ ((s.port p).b != b) = false) := by
    rintro ⟨h1, h2⟩
    simp only [bne_eq_false_iff_eq] at h1 h2
    simp [h1, h2] at hone
  have hnot : ¬((((s.port p).a != a) = true ∧ ((s.port p).b != b) = true) ∨ (none : Option (Nat × Bool × Option Frame)).isSome = true) := by
    rintro (⟨h1, h2⟩ | h)
    · simp only [bne_iff_ne] at h1 h2
      simp [h1.symm, h2.symm] at hone
    · exact absurd h (by decide)
  rw [State.quadEdge]
  simp only [hsame]
  rw [if_neg (by simp only [hon, hst, not_or]; exact ⟨by decide, by decide, hchange⟩), if_neg hnot]
  rfl

/-- What a lone edge leaves at the port: the tick, the line, and what undoes its count. -/
def State.quadNoted (t : State) (p stamp : Nat) (chgA : Bool) (f : Option Frame) : State :=
  t.setPort p { t.port p with quad := some (stamp / 16, chgA, f) }

theorem State.loneEdge_eq (s : State) (p : Nat) (a b : Bool) (t : Nat) :
    (¬s.edgeCounts p a b → s.loneEdge p a b t = (s.edgeBegun p a b).quadNoted p t (a != (s.port p).a) none) ∧
    (s.edgeCounts p a b → s.loneEdge p a b t = ((s.edgeBegun p a b).countEdge p (s.edgeUp p a b) t).quadNoted p t (a != (s.port p).a)
      (some (((s.edgeBegun p a b).countEdge p (s.edgeUp p a b) t).afterFrame p ((s.edgeBegun p a b).beforeFrame p t)))) := by
  have hchg : ((s.port p).a != a) = (a != (s.port p).a) := bne_comm
  have hup : (quadUp ((s.port p).a != a) a b != (s.withLines p a b).bit (Reg.FBK_CFG p) 4) = s.edgeUp p a b := by
    rw [State.edgeUp, quadUp, show (s.withLines p a b).bit (Reg.FBK_CFG p) 4 = s.bit (Reg.FBK_CFG p) 4 from rfl, hchg]
    simp only [bne_iff_ne]
  have hspan : (s.withLines p a b).likeSpan p = s.likeSpan p := rfl
  have hcounts : spanCounts (s.likeSpan p) ((s.port p).a != a) a (s.edgeUp p a b) = true ↔ s.edgeCounts p a b := by
    rw [spanCounts_iff, State.edgeCounts, hchg, bne_iff_ne]
  obtain ⟨c, hc⟩ : ∃ c, c = spanCounts (s.likeSpan p) ((s.port p).a != a) a (s.edgeUp p a b) := ⟨_, rfl⟩
  have heq : s.loneEdge p a b t = (if c then (s.edgeBegun p a b).countEdge p (s.edgeUp p a b) t else s.edgeBegun p a b).quadNoted p t (a != (s.port p).a)
      (if c then some ((if c then (s.edgeBegun p a b).countEdge p (s.edgeUp p a b) t else s.edgeBegun p a b).afterFrame p
        ((s.edgeBegun p a b).beforeFrame p t)) else none) := by
    simp only [State.loneEdge, hup, hspan, ← hc]
    rw [hchg]
    rfl
  rw [heq]
  rw [← hc] at hcounts
  cases c
  · exact ⟨fun _ => rfl, fun h => absurd (hcounts.mpr h) (by decide)⟩
  · exact ⟨fun h => absurd (hcounts.mp rfl) h, fun _ => rfl⟩

/-- The rest of the part stays as it was. -/
theorem FbkStep.apart {os : List Nat} {t : State} (h : FbkStep p os s t) :
    (∀ q < 64, q ≠ p → t.port q = s.port q) ∧ t.cuffs = s.cuffs ∧ t.tb = s.tb ∧ t.ctxs = s.ctxs :=
  ⟨fun q _ hq => h.port q hq, h.cuffs, h.time.1, h.ctxs⟩

/-- An illegal transition leaves the port's lines, marks and counts it, and keeps position, CMP and hits as they stand. -/
theorem State.illegalNoted_of {v : State} (hp : p < 64) (hv : FbkStep p undoOffsets s v) (ha : (v.port p).a = a) (hb : (v.port p).b = b) (n : Nat) :
    let t := v.illegalNoted p n
    (((∀ q < 64, q ≠ p → t.port q = s.port q) ∧ t.cuffs = s.cuffs ∧ t.tb = s.tb ∧ t.ctxs = s.ctxs) ∧ (t.port p).a = a ∧ (t.port p).b = b ∧
      t.bit (Reg.FBK_ERR p) 1 = true ∧ t.fbkStat p 0 = false ∧ t.fbkStat p 3 = false ∧ t.pair (Reg.FBK_SPEED_L p) (Reg.FBK_SPEED_H p) = 0 ∧
      t.regN (Reg.FBK_ILLCNT p) = min (2 ^ 32 - 1) (s.regN (Reg.FBK_ILLCNT p) + 1)) ∧
    t.fbkPos p = v.fbkPos p ∧ t.fbkCmp p = v.fbkCmp p ∧ (t.port p).hits = (v.port p).hits := by
  obtain ⟨hstep, ⟨l, hport⟩, herr, ⟨h0, h3⟩, hspeed, hcount⟩ := State.illegalNoted_spec (s := v) hp n
  have hill : v.regN (Reg.FBK_ILLCNT p) = s.regN (Reg.FBK_ILLCNT p) := hv.regN (o := 0xcc) (by decide) (by decide)
  have hall : FbkStep p (undoOffsets ++ [0xc4, 0xcc]) s (v.illegalNoted p n) := (hv.mono (by decide)).trans (hstep.mono (by decide))
  refine ⟨⟨hall.apart, by rw [hport, ha], by rw [hport, hb], herr, h0, h3, hspeed, by rw [hcount, hill]⟩,
    hstep.pair (l := 0x10) (g := 0x14) (by decide) (by decide) (by decide) (by decide),
    hstep.pair (l := 0x44) (g := 0x48) (by decide) (by decide) (by decide) (by decide), by rw [hport]⟩

/-! ### The index (R208, R209) -/

theorem exec_zEdge (hp : p < 64) : exec (.zEdge p stamp) s = .next (s.zEdge p stamp) := onUnit_of (decide_eq_true hp) _

/-- A pending source stays pending through the event of another. -/
theorem State.srcPend_raise_kept {id j : Nat} (h : s.srcPend id = true) : (s.raise j).srcPend id = true := by
  have hset : ((s.notePend j).setSrcPend j true).srcPend id = true := by
    have hnote : (s.notePend j).srcPend id = true :=
      (State.bit_of_reg (State.reg_of_regs (State.regs_of_wipe (s.notePend_wipe0 j) rfl) _) _).trans h
    by_cases hij : id % 32 = j % 32 ∧ id / 32 = j / 32
    · rw [State.srcPend, hij.1, hij.2]
      exact State.bit_setBit_same _ _ _ true (Nat.mod_lt _ (by decide))
    · by_cases hw : id / 32 = j / 32
      · rw [State.srcPend, hw]
        refine (State.bit_setBit_apart _ _ (j % 32) (id % 32) true (Nat.mod_lt _ (by decide)) fun e => hij ⟨e, hw⟩).trans ?_
        rw [← hw]
        exact hnote
      · exact (State.bit_of_reg (State.reg_setBit_other _ (by simp only [Reg.HVC_PEND]; omega) _ true) _).trans hnote
  simp only [State.raise]
  split
  · exact (State.bit_of_reg (State.reg_of_regs (State.regs_of_wipe (State.deliver_wipe0 _ j) rfl) _) _).trans hset
  · exact (State.bit_of_reg (State.reg_of_regs (State.setSrc_regs ..) _) _).trans hset

end Rows

end Sys2Proof.Machine

/-! O37: the index (R208, R209). -/

namespace Sys2Proof.Machine

open Sys2Proof

/-- An event of a port that leaves the pending bits as they are. -/
structure QuietStep (p : Nat) (os : List Nat) (s t : State) : Prop where
  step : FbkStep p os s t
  pend : ∀ r, Reg.HVC_PEND 0 ≤ r → r < Reg.HVC_PEND 512 → t.reg r = s.reg r

section Quiet
variable {p : Nat} {os ls : List Nat} {s t u : State}

theorem QuietStep.refl : QuietStep p os s s := ⟨.refl, fun _ _ _ => rfl⟩

theorem QuietStep.trans (h : QuietStep p os s t) (g : QuietStep p os t u) : QuietStep p os s u :=
  ⟨h.step.trans g.step, fun r hl hh => (g.pend r hl hh).trans (h.pend r hl hh)⟩

theorem QuietStep.srcPend (h : QuietStep p os s t) {id : Nat} (hid : id < 0x4000) : t.srcPend id = s.srcPend id :=
  State.bit_of_reg (h.pend _ (by simp only [Reg.HVC_PEND]; omega) (by simp only [Reg.HVC_PEND]; omega)) _

variable (s)

theorem State.setPort_quiet (k : Fbk) : QuietStep p os s (s.setPort p k) := ⟨s.setPort_step k, fun _ _ _ => rfl⟩

theorem State.setN_quiet (hp : p < 64) {o : Nat} (ho : o ∈ os) (hlt : o < 0x100) (v : Nat) : QuietStep p os s (s.setN (fbkReg p o) v) :=
  ⟨s.setN_step ho v, fun r hl hh => State.reg_setN_other s (fun e => by subst e; exact fbkReg_not_pend hp hlt ⟨hl, hh⟩) v⟩

theorem State.setPair_quiet (hp : p < 64) {l h : Nat} (hl : l ∈ os) (hh : h ∈ os) (hll : l < 0x100) (hhl : h < 0x100) (v : Nat) :
    QuietStep p os s (s.setPair (fbkReg p l) (fbkReg p h) v) := (s.setN_quiet hp hl hll _).trans (State.setN_quiet _ hp hh hhl _)

theorem State.setBoth_quiet (hp : p < 64) {o : Nat} (ho : o ∈ os) (hlt : o < 0x100) (lo n v : Nat) :
    QuietStep p os s (s.setBoth (fbkReg p o) lo n v) :=
  ⟨s.setBoth_step ho lo n v, fun r hl hh => (State.setBoth_both s (fbkReg p o) v lo n).reg r
    fun hm => by
      obtain rfl := List.mem_singleton.mp hm
      exact fbkReg_not_pend hp hlt ⟨hl, hh⟩⟩

theorem State.standing_quiet (g : Frame → Frame) : QuietStep p os s (s.standing p g) := by
  by_cases h : (s.port p).undo = none ∧ (s.port p).quad = none
  · rw [show s.standing p g = s from if_pos h]
    exact .refl
  · rw [show s.standing p g = s.setPort p ((s.port p).stands g) from if_neg h]
    exact s.setPort_quiet _

theorem State.movePos_quiet (hp : p < 64) (stamp v : Nat) : QuietStep p [0x10, 0x14] s (s.movePos p stamp v) := by
  obtain ⟨l, hl⟩ : ∃ l, s.movePos p stamp v = (s.setPort p { s.port p with trail := l }).setFbkPos p v := ⟨_, rfl⟩
  rw [hl]
  exact (s.setPort_quiet _).trans (State.setPair_quiet _ hp (l := 0x10) (h := 0x14) (by decide) (by decide) (by decide) (by decide) _)

end Quiet

section Index
variable {s : State} {p stamp : Nat}

/-- The position takes FBK_LOAD (R208); CMP is set where the port asks for it. -/
theorem State.loadPos_byZ (s : State) (hp : p < 64) : let t := s.loadPos p true
    QuietStep p [0x4, 0x10, 0x14, 0x44, 0x48] s t ∧ t.fbkPos p = s.pair (Reg.FBK_LOAD_L p) (Reg.FBK_LOAD_H p) % 2 ^ 40 ∧ t.fbkStat p 0 = true := by
  obtain ⟨u, hu⟩ : ∃ u, u = s.standing p fun f => { f with posStands := true, validStands := true } := ⟨_, rfl⟩
  have hsu : QuietStep p [] s u := hu ▸ s.standing_quiet _
  have hload : u.pair (Reg.FBK_LOAD_L p) (Reg.FBK_LOAD_H p) = s.pair (Reg.FBK_LOAD_L p) (Reg.FBK_LOAD_H p) :=
    hsu.step.pair (l := 0x18) (g := 0x1c) (by decide) (by decide) (by simp) (by simp)
  obtain ⟨v, hv⟩ : ∃ v, v = u.movePos p u.tb.now (u.pair (Reg.FBK_LOAD_L p) (Reg.FBK_LOAD_H p)) := ⟨_, rfl⟩
  have huv : QuietStep p [0x10, 0x14] u v := hv ▸ u.movePos_quiet hp ..
  have hvpos : v.fbkPos p = s.pair (Reg.FBK_LOAD_L p) (Reg.FBK_LOAD_H p) % 2 ^ 40 := by
    rw [hv, (State.movePos_spec ..).2.2, hload]
  obtain ⟨w, hw⟩ : ∃ w, w = v.setFbkStat p 0 true := ⟨_, rfl⟩
  have hvw : QuietStep p [0x4] v w := hw ▸ v.setN_quiet hp (o := 0x4) (by decide) (by decide) _
  have hwvalid : w.fbkStat p 0 = true := hw ▸ State.bit_setBit_same _ _ _ _ (by decide)
  obtain ⟨x, hx⟩ : ∃ x, x = w.setPort p { w.port p with loaded := some (w.tick, true) } := ⟨_, rfl⟩
  have hwx : QuietStep p [] w x := hx ▸ w.setPort_quiet _
  obtain ⟨t, ht⟩ : ∃ t, t = if x.bit (Reg.FBK_CMPCFG p) 2 then
    (x.standing p fun f => { f with cmpStands := true }).setFbkCmp p (x.pair (Reg.FBK_CMPBASE_L p) (Reg.FBK_CMPBASE_H p)) else x := ⟨_, rfl⟩
  have hxt : QuietStep p [0x44, 0x48] x t := by
    rw [ht]
    split
    · exact (x.standing_quiet _).trans (State.setPair_quiet _ hp (l := 0x44) (h := 0x48) (by decide) (by decide) (by decide) (by decide) _)
    · exact .refl
  have heq : s.loadPos p true = t := by
    rw [ht, hx, hw, hv, hu]
    simp only [State.loadPos, true_and]
  have hmono {l : List Nat} {a b : State} (h : QuietStep p l a b) (hl : ∀ o ∈ l, o ∈ [0x4, 0x10, 0x14, 0x44, 0x48]) :
      QuietStep p [0x4, 0x10, 0x14, 0x44, 0x48] a b := ⟨h.step.mono hl, h.pend⟩
  have hend : FbkStep p [0x44, 0x48] w t := (hwx.step.mono (by simp)).trans hxt.step
  show QuietStep p _ s (s.loadPos p true) ∧ (s.loadPos p true).fbkPos p = _ ∧ (s.loadPos p true).fbkStat p 0 = true
  rw [heq]
  refine ⟨(((hmono hsu (by simp)).trans (hmono huv (by decide))).trans (hmono hvw (by decide))).trans ((hmono hwx (by simp)).trans (hmono hxt (by decide))), ?_, ?_⟩
  · exact ((hend.pair (l := 0x10) (g := 0x14) (by decide) (by decide) (by decide) (by decide)).trans
      (hvw.step.pair (l := 0x10) (g := 0x14) (by decide) (by decide) (by decide) (by decide))).trans hvpos
  · exact (hend.bit (o := 0x4) (by decide) (by decide) 0).trans hwvalid

/-- An edge of Z notes position and time, and raises the port's source (R208). -/
def State.zNoted (s : State) (p stamp : Nat) : State :=
  (((s.setPair (Reg.FBK_ZPOS_L p) (Reg.FBK_ZPOS_H p) (s.fbkPos p)).setPair (Reg.FBK_ZTIME_L p) (Reg.FBK_ZTIME_H p) stamp).fbkRecord p
    Code.ok 1 0 stamp).raise (0x3280 + 4 * p)

/-- An edge of Z that loads the position (R208, R209). -/
def State.zLoaded (s : State) (p z : Nat) : State :=
  let s := (if s.loadedNow p false then s.fbkErr p 8 else s).loadPos p true
  if z = 3 then s.setBoth (Reg.FBK_CFG p) 5 2 1 else s

theorem State.zEdge_eq (hon : s.fbkOn p 1 = true) (hst : s.stable p (stamp % s.circle) = true) (hz : s.fld (Reg.FBK_CFG p) 5 2 ≠ 0) :
    s.zEdge p stamp = if s.fld (Reg.FBK_CFG p) 5 2 = 1 then s.zNoted p (stamp % s.circle)
      else (s.zNoted p (stamp % s.circle)).zLoaded p (s.fld (Reg.FBK_CFG p) 5 2) :=
  if_neg (by simp only [hon, hst, not_or]; exact ⟨by decide, by decide, hz⟩)

/-- What an edge of Z notes. -/
structure ZNoted (p stamp : Nat) (s t : State) : Prop where
  step : FbkStep p [0x28, 0x2c, 0x30, 0x34] s t
  pos : t.pair (Reg.FBK_ZPOS_L p) (Reg.FBK_ZPOS_H p) = s.fbkPos p
  time : t.pair (Reg.FBK_ZTIME_L p) (Reg.FBK_ZTIME_H p) = stamp % 2 ^ 64
  pend : t.srcPend (0x3280 + 4 * p) = true

theorem State.zNoted_spec (hp : p < 64) (stamp : Nat) : ZNoted p stamp s (s.zNoted p stamp) := by
  obtain ⟨n, hn⟩ : ∃ n, n = s.fbkPos p := ⟨_, rfl⟩
  have hnlt : n < 2 ^ 64 := by
    have hl := s.regN_lt (Reg.FBK_POS_L p)
    have hh := s.regN_lt (Reg.FBK_POS_H p)
    rw [hn, State.fbkPos, State.pair]
    omega
  obtain ⟨u, hu⟩ : ∃ u, u = s.setPair (Reg.FBK_ZPOS_L p) (Reg.FBK_ZPOS_H p) n := ⟨_, rfl⟩
  have hsu : FbkStep p [0x28, 0x2c] s u := hu ▸ s.setPair_step (l := 0x28) (h := 0x2c) (by decide) (by decide) _
  obtain ⟨v, hv⟩ : ∃ v, v = u.setPair (Reg.FBK_ZTIME_L p) (Reg.FBK_ZTIME_H p) stamp := ⟨_, rfl⟩
  have huv : FbkStep p [0x30, 0x34] u v := hv ▸ u.setPair_step (l := 0x30) (h := 0x34) (by decide) (by decide) _
  obtain ⟨t, ht⟩ : ∃ t, t = (v.fbkRecord p Code.ok 1 0 stamp).raise (0x3280 + 4 * p) := ⟨_, rfl⟩
  have hvt : FbkStep p [] v t := ht ▸ (v.fbkRecord_step hp ..).trans (State.raise_step _ hp _)
  have hpend : t.srcPend (0x3280 + 4 * p) = true := ht ▸ State.srcPend_raise _ _
  have heq : s.zNoted p stamp = t := by rw [ht, hv, hu, hn]; rfl
  have hpos : u.pair (Reg.FBK_ZPOS_L p) (Reg.FBK_ZPOS_H p) = n := hu ▸ State.pair_setPair_same _ (by simp) hnlt
  have htime : v.pair (Reg.FBK_ZTIME_L p) (Reg.FBK_ZTIME_H p) = stamp % 2 ^ 64 := hv ▸ State.pair_setPair_mod _ (by simp) _
  rw [heq]
  refine ⟨((hsu.mono (by decide)).trans (huv.mono (by decide))).trans (hvt.mono (by simp)), ?_, ?_, hpend⟩
  · exact (hvt.pair (l := 0x28) (g := 0x2c) (by decide) (by decide) (by simp) (by simp)).trans
      ((huv.pair (l := 0x28) (g := 0x2c) (by decide) (by decide) (by decide) (by decide)).trans (hpos.trans hn))
  · exact (hvt.pair (l := 0x30) (g := 0x34) (by decide) (by decide) (by simp) (by simp)).trans htime

/-- What a loading edge of Z does. -/
structure ZLoaded (p z : Nat) (s t : State) : Prop where
  step : FbkStep p [0x4, 0x8, 0x10, 0x14, 0x44, 0x48, 0xc4] s t
  pos : t.fbkPos p = s.pair (Reg.FBK_LOAD_L p) (Reg.FBK_LOAD_H p) % 2 ^ 40
  valid : t.fbkStat p 0 = true
  mode : t.fld (Reg.FBK_CFG p) 5 2 = if z = 3 then 1 else s.fld (Reg.FBK_CFG p) 5 2
  pend : s.srcPend (0x3280 + 4 * p) = true → t.srcPend (0x3280 + 4 * p) = true

theorem State.zLoaded_spec (hp : p < 64) (z : Nat) : ZLoaded p z s (s.zLoaded p z) := by
  obtain ⟨u, hu⟩ : ∃ u, u = if s.loadedNow p false then s.fbkErr p 8 else s := ⟨_, rfl⟩
  have hsu : FbkStep p [0xc4] s u ∧ (s.srcPend (0x3280 + 4 * p) = true → u.srcPend (0x3280 + 4 * p) = true) := by
    rw [hu]
    split
    · refine ⟨s.fbkErr_step hp (by decide) 8, fun h => State.srcPend_raise_kept ?_⟩
      exact (QuietStep.srcPend (s.setN_quiet (os := [0xc4]) hp (o := 0xc4) (by decide) (by decide) _) (by omega)).trans h
    · exact ⟨.refl, id⟩
  obtain ⟨v, hv⟩ : ∃ v, v = u.loadPos p true := ⟨_, rfl⟩
  obtain ⟨huv, hpos, hvalid⟩ := u.loadPos_byZ hp
  rw [← hv] at huv hpos hvalid
  have hload : u.pair (Reg.FBK_LOAD_L p) (Reg.FBK_LOAD_H p) = s.pair (Reg.FBK_LOAD_L p) (Reg.FBK_LOAD_H p) :=
    hsu.1.pair (l := 0x18) (g := 0x1c) (by decide) (by decide) (by decide) (by decide)
  have hmode : v.fld (Reg.FBK_CFG p) 5 2 = s.fld (Reg.FBK_CFG p) 5 2 :=
    (huv.step.fld (o := 0x8) (by decide) (by decide) 5 2).trans (hsu.1.fld (o := 0x8) (by decide) (by decide) 5 2)
  obtain ⟨t, ht⟩ : ∃ t, t = if z = 3 then v.setBoth (Reg.FBK_CFG p) 5 2 1 else v := ⟨_, rfl⟩
  have hvt : QuietStep p [0x8] v t ∧ t.fld (Reg.FBK_CFG p) 5 2 = if z = 3 then 1 else v.fld (Reg.FBK_CFG p) 5 2 := by
    rw [ht]
    split
    · exact ⟨v.setBoth_quiet hp (o := 0x8) (by decide) (by decide) 5 2 1, (State.setBoth_fld v (Reg.FBK_CFG p) 5 (by decide)).1⟩
    · exact ⟨.refl, rfl⟩
  have heq : s.zLoaded p z = t := by rw [ht, hv, hu]; rfl
  rw [heq]
  refine ⟨((hsu.1.mono (by decide)).trans (huv.step.mono (by decide))).trans (hvt.1.step.mono (by decide)), ?_, ?_, by rw [hvt.2, hmode], fun h => ?_⟩
  · exact (hvt.1.step.pair (l := 0x10) (g := 0x14) (by decide) (by decide) (by decide) (by decide)).trans (hpos.trans (by rw [hload]))
  · exact (hvt.1.step.bit (o := 0x4) (by decide) (by decide) 0).trans hvalid
  · rw [hvt.1.srcPend (by omega), huv.srcPend (by omega)]
    exact hsu.2 h

end Index

end Sys2Proof.Machine

/-! O37: the wires (R205, R218), standstill (R211), and the obligation. -/

namespace Sys2Proof.Machine

open Sys2Proof

section Wires
variable {s : State} {p w : Nat}

theorem exec_wireFault (hp : p < 64) (hw : w < 4) : exec (.wireFault p w) s = .next (s.wiresAgree p w) :=
  onUnit_of (by simp only [okPort, okWires, hp, hw, decide_true, Bool.and_true]) _

theorem exec_wiresDisagree (hp : p < 64) (hw : w < 4) : exec (.wiresDisagree p w) s = .next (s.wiresDiffer p w) :=
  onUnit_of (by simp only [okPort, okWires, hp, hw, decide_true, Bool.and_true]) _

theorem exec_standstill (hp : p < 64) : exec (.standstill p) s = .next (s.standStill p) := onUnit_of (decide_eq_true hp) _

/-- A frame in progress is discarded (R218). -/
structure Dropped (p : Nat) (s t : State) : Prop where
  step : FbkStep p [0x4, 0xc4] s t
  idle : (t.port p).reqAt = none
  err : t.bit (Reg.FBK_ERR p) 7 = true
  errs : ∀ i, s.bit (Reg.FBK_ERR p) i = true → t.bit (Reg.FBK_ERR p) i = true
  frame : t.fbkStat p 4 = false
  stat : ∀ i, i ≠ 4 → t.fbkStat p i = s.fbkStat p i

theorem State.dropFrame_spec (hp : p < 64) : Dropped p s (s.dropFrame p) := by
  obtain ⟨u, hu⟩ : ∃ u, u = s.setPort p { s.port p with reqAt := none, line := [] } := ⟨_, rfl⟩
  have hsu : FbkStep p [] s u := hu ▸ s.setPort_step _
  have hidle : (u.port p).reqAt = none := by rw [hu, State.port_setPort, if_pos rfl]
  obtain ⟨v, hv⟩ : ∃ v, v = u.setFbkStat p 4 false := ⟨_, rfl⟩
  have huv : FbkStep p [0x4] u v := hv ▸ u.setBit_step (o := 0x4) (by decide) 4 false
  have hframe : v.fbkStat p 4 = false := hv ▸ State.bit_setBit_same _ _ _ _ (by decide)
  have hstat (i : Nat) (hi : i ≠ 4) : v.fbkStat p i = u.fbkStat p i := hv ▸ State.bit_setBit_apart _ _ 4 i _ (by decide) hi
  have hvport : v.port p = u.port p := by rw [hv]; rfl
  obtain ⟨w, hw⟩ : ∃ w, w = v.fbkErr p 7 := ⟨_, rfl⟩
  have hvw : FbkStep p [0xc4] v w := hw ▸ v.fbkErr_step hp (by decide) 7
  have hwport : w.port p = v.port p := hw ▸ v.port_fbkErr 7
  have herr : w.bit (Reg.FBK_ERR p) 7 = true := hw ▸ v.bit_fbkErr_same hp (by decide)
  have herrs (i : Nat) (h : v.bit (Reg.FBK_ERR p) i = true) : w.bit (Reg.FBK_ERR p) i = true := hw ▸ v.bit_fbkErr_kept hp (by decide) h
  have hrec : FbkStep p [] w (s.dropFrame p) := by
    have heq : s.dropFrame p = w.fbkRecord p Code.ok 5 0 s.tb.now := by rw [hw, hv, hu]; rfl
    rw [heq]
    exact w.fbkRecord_step hp ..
  have hport : (s.dropFrame p).port p = w.port p := by
    have heq : s.dropFrame p = w.fbkRecord p Code.ok 5 0 s.tb.now := by rw [hw, hv, hu]; rfl
    rw [heq]
    exact w.port_fbkRecord ..
  refine ⟨((hsu.mono (by simp)).trans (huv.mono (by decide))).trans ((hvw.mono (by decide)).trans (hrec.mono (by simp))), ?_, ?_, fun i hi => ?_, ?_,
    fun i hi => ?_⟩
  · rw [hport, hwport, hvport, hidle]
  · exact (hrec.bit (o := 0xc4) (by decide) (by simp) 7).trans herr
  · refine (hrec.bit (o := 0xc4) (by decide) (by simp) i).trans (herrs i ?_)
    exact (huv.bit (o := 0xc4) (by decide) (by decide) i).trans ((hsu.bit (o := 0xc4) (by decide) (by simp) i).trans hi)
  · exact (hrec.bit (o := 0x4) (by decide) (by simp) 4).trans ((hvw.bit (o := 0x4) (by decide) (by decide) 4).trans hframe)
  · exact (hrec.bit (o := 0x4) (by decide) (by simp) i).trans ((hvw.bit (o := 0x4) (by decide) (by decide) i).trans
      ((hstat i hi).trans (hsu.bit (o := 0x4) (by decide) (by simp) i)))

/-- What a wire fault does. -/
structure WireFaulted (p w : Nat) (s t : State) : Prop where
  step : FbkStep p [0x4, 0xc4] s t
  fault : t.bit (Reg.FBK_STATUS p) (8 + w) = true
  err : t.bit (Reg.FBK_ERR p) 0 = true
  invalid : t.fbkStat p 0 = false

/-- The fault of a pair of wires, before a frame is dropped for it. -/
def State.wireNoted (s : State) (p w : Nat) : State :=
  let s := ((s.setBit (Reg.FBK_STATUS p) (8 + w) true).fbkErr p 0).setFbkStat p 0 false
  s.fbkRecord p Code.wireFault 3 w s.tb.now

theorem State.wireNoted_spec (hp : p < 64) (hw : w < 4) : WireFaulted p w s (s.wireNoted p w) := by
  obtain ⟨u, hu⟩ : ∃ u, u = s.setBit (Reg.FBK_STATUS p) (8 + w) true := ⟨_, rfl⟩
  have hsu : FbkStep p [0x4] s u := hu ▸ s.setBit_step (o := 0x4) (by decide) _ true
  have hufault : u.bit (Reg.FBK_STATUS p) (8 + w) = true := hu ▸ State.bit_setBit_same _ _ _ _ (by omega)
  obtain ⟨v, hv⟩ : ∃ v, v = u.fbkErr p 0 := ⟨_, rfl⟩
  have huv : FbkStep p [0xc4] u v := hv ▸ u.fbkErr_step hp (by decide) 0
  have hverr : v.bit (Reg.FBK_ERR p) 0 = true := hv ▸ u.bit_fbkErr_same hp (by decide)
  obtain ⟨x, hx⟩ : ∃ x, x = v.setFbkStat p 0 false := ⟨_, rfl⟩
  have hvx : FbkStep p [0x4] v x := hx ▸ v.setBit_step (o := 0x4) (by decide) 0 false
  have hxfault : x.bit (Reg.FBK_STATUS p) (8 + w) = true := by
    rw [hx]
    exact (State.bit_setBit_apart _ _ 0 (8 + w) _ (by decide) (by omega)).trans ((huv.bit (o := 0x4) (by decide) (by decide) _).trans hufault)
  have hxvalid : x.fbkStat p 0 = false := hx ▸ State.bit_setBit_same _ _ _ _ (by decide)
  have hrec : FbkStep p [] x (s.wireNoted p w) := by
    have heq : s.wireNoted p w = x.fbkRecord p Code.wireFault 3 w x.tb.now := by rw [hx, hv, hu]; rfl
    rw [heq]
    exact x.fbkRecord_step hp ..
  exact ⟨((hsu.mono (by decide)).trans (huv.mono (by decide))).trans ((hvx.mono (by decide)).trans (hrec.mono (by simp))),
    (hrec.bit (o := 0x4) (by decide) (by simp) _).trans hxfault,
    (hrec.bit (o := 0xc4) (by decide) (by simp) 0).trans ((hvx.bit (o := 0xc4) (by decide) (by decide) 0).trans hverr),
    (hrec.bit (o := 0x4) (by decide) (by simp) 0).trans hxvalid⟩

theorem State.wiresAgree_standing (h : s.bit (Reg.FBK_STATUS p) (8 + w) = true) : s.wiresAgree p w = s :=
  if_pos (.inr (.inr (.inr h)))

theorem State.wiresAgree_new (hp : p < 64) (hw : w < 4) (hnew : s.bit (Reg.FBK_STATUS p) (8 + w) = false) (hcheck : s.pairChecked p w = true)
    (hon : s.fbkOn p (s.fbkMode p) = true) (hequal : s.wiresEqual p w = true) : WireFaulted p w s (s.wiresAgree p w) := by
  obtain ⟨u, hu⟩ : ∃ u, u = s.wireNoted p w := ⟨_, rfl⟩
  have heq : s.wiresAgree p w = if u.fbkMode p = 2 ∧ w = 1 ∧ (u.port p).reqAt.isSome then u.dropFrame p else u := by
    have hc : ¬(s.pairChecked p w = false ∨ s.fbkOn p (s.fbkMode p) = false ∨ s.wiresEqual p w = false ∨
        s.bit (Reg.FBK_STATUS p) (8 + w) = true) := by
      rw [hnew, hcheck, hon, hequal]
      decide
    rw [hu]
    exact if_neg hc
  obtain ⟨hstep, hfault, herr, hvalid⟩ := State.wireNoted_spec (s := s) hp hw
  rw [← hu] at hstep hfault herr hvalid
  rw [heq]
  split
  · have hdrop := State.dropFrame_spec (s := u) hp
    exact ⟨hstep.trans hdrop.step, (hdrop.stat (8 + w) (by omega)).trans hfault, hdrop.errs 0 herr, (hdrop.stat 0 (by decide)).trans hvalid⟩
  · exact ⟨hstep, hfault, herr, hvalid⟩

theorem State.wiresDiffer_eq (hrun : s.frozen = false) (hdiff : (s.cuff ((s.port p).base + 2 * w)).pad ≠ (s.cuff ((s.port p).base + 2 * w + 1)).pad) :
    s.wiresDiffer p w = (if w = 1 ∧ s.dataFault p = true then s.dropFrame p else s).setBit (Reg.FBK_STATUS p) (8 + w) false :=
  if_neg (by simp only [hrun, not_or]; exact ⟨by decide, hdiff⟩)

theorem State.dataFault_iff (s : State) (p : Nat) :
    s.dataFault p = true ↔ s.fbkMode p = 2 ∧ (s.port p).reqAt ≠ none ∧ s.bit (Reg.FBK_STATUS p) 9 = true := by
  simp only [State.dataFault, Bool.and_eq_true, decide_eq_true_eq, Option.isSome_iff_ne_none, and_assoc]

/-- The wires disagree again: the fault ends, and a frame it has spoilt is dropped (R205, R218). -/
theorem State.wiresDiffer_spec (hp : p < 64) (hrun : s.frozen = false)
    (hdiff : (s.cuff ((s.port p).base + 2 * w)).pad ≠ (s.cuff ((s.port p).base + 2 * w + 1)).pad) :
    let faulted := w = 1 ∧ s.fbkMode p = 2 ∧ (s.port p).reqAt ≠ none ∧ s.bit (Reg.FBK_STATUS p) 9 = true
    let t := s.wiresDiffer p w
    (¬faulted → t = s.setBit (Reg.FBK_STATUS p) (8 + w) false) ∧
    (faulted → FbkStep p [0x4, 0xc4] s t ∧ t.bit (Reg.FBK_STATUS p) (8 + w) = false ∧ t.bit (Reg.FBK_ERR p) 7 = true ∧
      (t.port p).reqAt = none ∧ t.fbkStat p 4 = false) := by
  intro faulted t
  have hiff : (w = 1 ∧ s.dataFault p = true) ↔ faulted := and_congr_right fun _ => s.dataFault_iff p
  have heq : t = _ := State.wiresDiffer_eq hrun hdiff
  constructor
  · intro h
    rw [if_neg (mt hiff.mp h)] at heq
    exact heq
  · intro h
    rw [if_pos (hiff.mpr h)] at heq
    have hdrop := State.dropFrame_spec (s := s) hp
    obtain ⟨u, hu⟩ : ∃ u, u = s.dropFrame p := ⟨_, rfl⟩
    rw [← hu] at heq hdrop
    have hset : FbkStep p [0x4] u t := heq ▸ u.setBit_step (o := 0x4) (by decide) _ false
    refine ⟨hdrop.step.trans (hset.mono (by decide)), heq ▸ State.bit_setBit_same _ _ _ _ (by omega), ?_, ?_, ?_⟩
    · exact (hset.bit (o := 0xc4) (by decide) (by decide) 7).trans hdrop.err
    · rw [heq]
      exact hdrop.idle
    · rw [heq]
      exact (State.bit_setBit_apart _ _ (8 + w) 4 _ (by omega) (by omega)).trans hdrop.frame

/-! ### Standstill (R211) -/

theorem State.standStill_spec (hp : p < 64) (hmode : s.fbkMode p ≠ 0) (hrun : s.frozen = false) (hspan : s.fld (Reg.FBK_SPDCFG p) 8 24 ≠ 0)
    (hstat : s.fbkStat p 2 = false) (hlate : (s.port p).lastTick + s.fld (Reg.FBK_SPDCFG p) 8 24 * 1024 ≤ s.tick) : let t := s.standStill p
    t.pair (Reg.FBK_SPEED_L p) (Reg.FBK_SPEED_H p) = 0 ∧ t.fbkStat p 2 = true ∧ t.srcPend (0x3280 + 4 * p + 2) = true ∧
      OnlyRegsAndEvents [Reg.FBK_SPEED_L p, Reg.FBK_SPEED_H p, Reg.FBK_STATUS p] (s.noteSpeed p s.tb.now) t := by
  obtain ⟨u, hu⟩ : ∃ u, u = (s.noteSpeed p s.tb.now).setSpeed p 0 := ⟨_, rfl⟩
  obtain ⟨v, hv⟩ : ∃ v, v = u.setFbkStat p 2 true := ⟨_, rfl⟩
  obtain ⟨t, ht⟩ : ∃ t, t = v.raise (0x3280 + 4 * p + 2) := ⟨_, rfl⟩
  have heq : s.standStill p = t := by
    rw [ht, hv, hu]
    exact if_neg (by simp only [hrun, hstat, not_or]; exact ⟨hmode, by decide, hspan, by decide, by omega⟩)
  have hspeed : u.pair (Reg.FBK_SPEED_L p) (Reg.FBK_SPEED_H p) = 0 := hu ▸ State.pair_setPair_same _ (by simp) (by decide)
  have huv : FbkStep p [0x4] u v := hv ▸ u.setBit_step (o := 0x4) (by decide) 2 true
  have hvt : FbkStep p [] v t := ht ▸ v.raise_step hp _
  have honly : OnlyRegsAndEvents [Reg.FBK_SPEED_L p, Reg.FBK_SPEED_H p, Reg.FBK_STATUS p] (s.noteSpeed p s.tb.now) t := by
    rw [ht, hv, hu]
    refine OnlyRegsAndEvents.raise ?_ (by omega)
    exact (OnlyRegs.withEvents ((OnlyRegs.refl _ _).setPair (by simp) (by simp) _)).setBit (by simp) 2 true
  show (s.standStill p).pair _ _ = 0 ∧ (s.standStill p).fbkStat p 2 = true ∧ (s.standStill p).srcPend _ = true ∧ OnlyRegsAndEvents _ _ (s.standStill p)
  rw [heq]
  refine ⟨?_, ?_, ht ▸ State.srcPend_raise _ _, honly⟩
  · exact (hvt.pair (l := 0x38) (g := 0x3c) (by decide) (by decide) (by simp) (by simp)).trans
      ((huv.pair (l := 0x38) (g := 0x3c) (by decide) (by decide) (by decide) (by decide)).trans hspeed)
  · refine (hvt.bit (o := 0x4) (by decide) (by simp) 2).trans ?_
    rw [hv]
    exact State.bit_setBit_same _ _ _ _ (by decide)

end Wires

end Sys2Proof.Machine

namespace Sys2Proof.Machine

open Sys2Proof

section Final
variable {s : State} {p stamp : Nat} {a b : Bool}

theorem State.illegalEdge_none (s : State) (p n : Nat) : s.illegalEdge p n none = s.illegalNoted p n := rfl

theorem State.illegalEdge_some (s : State) (p n : Nat) (f : Frame) : s.illegalEdge p n (some f) = (s.undoFrame p f).illegalNoted p n := rfl

/-- Both rows of an illegal transition: the first edge's count is taken back where it was counted (R207). -/
theorem quadratureEdge_illegal (hp : p < 64) (hon : s.fbkOn p 1 = true) (hst : s.stable p (stamp % s.circle) = true)
    (hone : (a ≠ (s.port p).a) ≠ (b ≠ (s.port p).b)) {wasA : Bool} {f : Option Frame}
    (hq : (s.port p).quad = some (stamp % s.circle / 16, wasA, f)) (hother : if wasA then b ≠ (s.port p).b else a ≠ (s.port p).a) :
    ∃ v : State, exec (.quadratureEdge p a b stamp) s = .next (v.illegalNoted p (stamp % s.circle)) ∧
      FbkStep p undoOffsets s v ∧ (v.port p).a = a ∧ (v.port p).b = b ∧ (f = none → v.fbkPos p = s.fbkPos p) ∧
      ∀ g, f = some g → v.fbkPos p = (if g.posStands then s.fbkPos p else g.pos % 2 ^ 40) ∧
        (g.cmpStands = false → v.fbkCmp p = (s.fbkCmp p + 2 ^ 40 - g.cmp) % 2 ^ 40) ∧ (v.port p).hits = (s.port p).hits.filter (· ≠ g.time) := by
  obtain ⟨hstep, hport⟩ := s.withLines_spec p a b
  obtain ⟨u, hu⟩ : ∃ u, u = s.withLines p a b := ⟨_, rfl⟩
  rw [← hu] at hstep hport
  have hpos : u.fbkPos p = s.fbkPos p := hstep.pair (l := 0x10) (g := 0x14) (by decide) (by decide) (by simp) (by simp)
  have hcmp : u.fbkCmp p = s.fbkCmp p := hstep.pair (l := 0x44) (g := 0x48) (by decide) (by decide) (by simp) (by simp)
  rw [exec_quadratureEdge hp, State.quadEdge_second hon hst hone hq hother, ← hu]
  rcases f with _ | g
  · exact ⟨u, congrArg _ (u.illegalEdge_none ..), hstep.mono (by simp), by rw [hport], by rw [hport], fun _ => hpos, fun _ h => absurd h (by simp)⟩
  · obtain ⟨hundo, ⟨hla, hlb⟩, hhits, hupos, hucmp⟩ := State.undoFrame_spec (p := p) u g
    rw [hport] at hla hlb hhits
    rw [hpos] at hupos
    rw [hcmp] at hucmp
    obtain ⟨v, hv⟩ : ∃ v, v = u.undoFrame p g := ⟨_, rfl⟩
    rw [← hv] at hundo hla hlb hhits hupos hucmp
    rw [u.illegalEdge_some, ← hv]
    refine ⟨v, rfl, (hstep.mono (by simp)).trans hundo, hla, hlb, fun h => absurd h (by simp), fun x hx => ?_⟩
    obtain rfl := Option.some.inj hx
    exact ⟨hupos, hucmp, hhits⟩

/-- An uncounted edge (R206). -/
theorem quadratureEdge_uncounted (hp : p < 64) (hon : s.fbkOn p 1 = true) (hst : s.stable p (stamp % s.circle) = true)
    (hone : (a ≠ (s.port p).a) ≠ (b ≠ (s.port p).b))
    (hq : ∀ q, (s.port p).quad = some q → q.1 = stamp % s.circle / 16 → if q.2.1 then b = (s.port p).b else a = (s.port p).a)
    (hcount : ¬s.edgeCounts p a b) : ∃ t : State, exec (.quadratureEdge p a b stamp) s = .next t ∧
      t.port p = { s.port p with a := a, b := b, quad := some (stamp % s.circle / 16, a != (s.port p).a, none) } ∧
      (∀ q, q ≠ p → t.port q = s.port q) ∧ t = { s with ports := t.ports } := by
  obtain ⟨hstep, hport⟩ := s.edgeBegun_spec p a b
  obtain ⟨t, ht⟩ : ∃ t, t = (s.edgeBegun p a b).quadNoted p (stamp % s.circle) (a != (s.port p).a) none := ⟨_, rfl⟩
  have hframe : t = { s with ports := t.ports } := by rw [ht]; rfl
  have htport (q : Nat) : t.port q = if q = p then { (s.edgeBegun p a b).port p with quad := some (stamp % s.circle / 16, a != (s.port p).a, none) }
      else (s.edgeBegun p a b).port q := by rw [ht]; exact State.port_setPort ..
  rw [exec_quadratureEdge hp, State.quadEdge_loneEdge hon hst hone hq, (s.loneEdge_eq p a b _).1 hcount, ← ht]
  refine ⟨t, rfl, ?_, fun q hne => ?_, hframe⟩
  · rw [htport, if_pos rfl, hport]
  · rw [htport, if_neg hne, hstep.port q hne]

/-- A counted edge keeps what undoes it. -/
theorem quadratureEdge_counted (hp : p < 64) (hon : s.fbkOn p 1 = true) (hst : s.stable p (stamp % s.circle) = true)
    (hone : (a ≠ (s.port p).a) ≠ (b ≠ (s.port p).b))
    (hq : ∀ q, (s.port p).quad = some q → q.1 = stamp % s.circle / 16 → if q.2.1 then b = (s.port p).b else a = (s.port p).a)
    (hcount : s.edgeCounts p a b) : ∃ t u : State, exec (.quadratureEdge p a b stamp) s = .next t ∧
      Counted p (s.edgeUp p a b) (stamp % s.circle) (s.edgeBegun p a b) u ∧
      (∃ g, t = u.quadNoted p (stamp % s.circle) (a != (s.port p).a) (some g) ∧ g.pos = s.fbkPos p ∧ g.posStands = false ∧ g.cmpStands = false) := by
  rw [exec_quadratureEdge hp, State.quadEdge_loneEdge hon hst hone hq, (s.loneEdge_eq p a b _).2 hcount]
  exact ⟨_, _, rfl, State.countEdge_spec hp _ _, _, rfl, rfl, rfl, rfl⟩

/-- What a counted edge leaves, seen from the state before the row. -/
theorem Counted.row {up : Bool} {n : Nat} {u : State} (h : Counted p up n (s.edgeBegun p a b) u) (g : Frame) {c : Bool} :
    let t := u.quadNoted p n c (some g)
    ((∀ q < 64, q ≠ p → t.port q = s.port q) ∧ t.cuffs = s.cuffs ∧ t.tb = s.tb ∧ t.ctxs = s.ctxs) ∧
    (t.port p).a = a ∧ (t.port p).b = b ∧ (t.port p).quad = some (n / 16, c, some g) ∧ (t.port p).lastCount = some n ∧
    (∀ t0, (s.port p).lastCount = some t0 → s.minus n t0 < 480 → t.bit (Reg.FBK_ERR p) 2 = true) ∧
    t.pair (Reg.FBK_ETIME_L p) (Reg.FBK_ETIME_H p) = n % 2 ^ 64 ∧ t.fbkStat p 1 = !up ∧ t.fbkStat p 2 = false ∧
    ((∃ z, (s.port p).loaded = some (s.tick, z)) → t.fbkPos p = s.fbkPos p) ∧
    ((¬∃ z, (s.port p).loaded = some (s.tick, z)) → t.fbkPos p = s.posAfter p up) ∧
    ((¬∃ z, (s.port p).loaded = some (s.tick, z)) → (s.port p).cmpTick ≠ some s.tick → ¬s.countHits p up →
      t.fbkCmp p = s.fbkCmp p ∧ t.fld (Reg.FBK_HSTAT p) 16 16 = s.fld (Reg.FBK_HSTAT p) 16 16) ∧
    ((¬∃ z, (s.port p).loaded = some (s.tick, z)) → (s.port p).cmpTick ≠ some s.tick → s.countHits p up →
      t.fld (Reg.FBK_HSTAT p) 16 16 = (s.fld (Reg.FBK_HSTAT p) 16 16 + 1) % 2 ^ 16 ∧
      (s.regN (Reg.FBK_SPACING p) = 0 → t.bit (Reg.FBK_CMPCFG p) 0 = false ∧ t.fbkCmp p = s.fbkCmp p) ∧
      (s.regN (Reg.FBK_SPACING p) ≠ 0 → t.fbkCmp p = s.cmpAfterHit p) ∧
      ((s.port p).hits.length < 4 → s.bit (Reg.FBK_CFG p) 7 = false → s.service = true → (t.port p).hits = (s.port p).hits ++ [n])) := by
  intro t
  obtain ⟨hstep, hport⟩ := s.edgeBegun_spec p a b
  obtain ⟨l, f, x, d, y, huport⟩ := h.port
  have htport : t.port p = { u.port p with quad := some (n / 16, c, some g) } := (State.port_setPort ..).trans (if_pos rfl)
  have hall : FbkStep p countRegs s t := ((hstep.mono (by simp)).trans h.step).trans (State.setPort_step _ _)
  obtain ⟨-, -, hquick, htime, hdir, hstill, hstands, hmoves, hmiss, hhit⟩ := h
  have hpos : (s.edgeBegun p a b).fbkPos p = s.fbkPos p := hstep.pair (l := 0x10) (g := 0x14) (by decide) (by decide) (by simp) (by simp)
  have hafter : (s.edgeBegun p a b).posAfter p up = s.posAfter p up := by rw [State.posAfter, State.posAfter, hpos]
  have hcmp : (s.edgeBegun p a b).fbkCmp p = s.fbkCmp p := hstep.pair (l := 0x44) (g := 0x48) (by decide) (by decide) (by simp) (by simp)
  have hcfg (i : Nat) : (s.edgeBegun p a b).bit (Reg.FBK_CMPCFG p) i = s.bit (Reg.FBK_CMPCFG p) i := hstep.bit (o := 0x5c) (by decide) (by simp) i
  have hspace : (s.edgeBegun p a b).regN (Reg.FBK_SPACING p) = s.regN (Reg.FBK_SPACING p) := hstep.regN (o := 0x50) (by decide) (by simp)
  have hcnt : (s.edgeBegun p a b).fld (Reg.FBK_HSTAT p) 16 16 = s.fld (Reg.FBK_HSTAT p) 16 16 := hstep.fld (o := 0x78) (by decide) (by simp) 16 16
  have hjudge : (s.edgeBegun p a b).countHits p up = s.countHits p up := by
    rw [State.countHits, State.countHits, hcfg, hcfg, hafter, hcmp]
  have hnext : (s.edgeBegun p a b).cmpAfterHit p = s.cmpAfterHit p := by
    rw [State.cmpAfterHit, State.cmpAfterHit, State.cmpDown, State.cmpDown, hcfg, hcmp, hspace]
  have h7 : (s.edgeBegun p a b).bit (Reg.FBK_CFG p) 7 = s.bit (Reg.FBK_CFG p) 7 := hstep.bit (o := 0x8) (by decide) (by simp) 7
  rw [hport] at hquick hstands hmoves hmiss hhit
  rw [hstep.time.2, hpos] at hstands
  rw [hstep.time.2, hafter] at hmoves
  rw [hstep.time.2, hjudge, hcmp, hcnt] at hmiss
  rw [hstep.time.2, hjudge, hcmp, hcnt, hspace, hnext, h7, hstep.service] at hhit
  have hset : FbkStep p [] u t := State.setPort_step _ _
  clear_value t
  have htpos : t.fbkPos p = u.fbkPos p := hset.pair (l := 0x10) (g := 0x14) (by decide) (by decide) (by simp) (by simp)
  have htcmp : t.fbkCmp p = u.fbkCmp p := hset.pair (l := 0x44) (g := 0x48) (by decide) (by decide) (by simp) (by simp)
  have htcfg : t.bit (Reg.FBK_CMPCFG p) 0 = u.bit (Reg.FBK_CMPCFG p) 0 := hset.bit (o := 0x5c) (by decide) (by simp) 0
  have htcnt : t.fld (Reg.FBK_HSTAT p) 16 16 = u.fld (Reg.FBK_HSTAT p) 16 16 := hset.fld (o := 0x78) (by decide) (by simp) 16 16
  have hterr : t.bit (Reg.FBK_ERR p) 2 = u.bit (Reg.FBK_ERR p) 2 := hset.bit (o := 0xc4) (by decide) (by simp) 2
  have httime : t.pair (Reg.FBK_ETIME_L p) (Reg.FBK_ETIME_H p) = u.pair (Reg.FBK_ETIME_L p) (Reg.FBK_ETIME_H p) :=
    hset.pair (l := 0x20) (g := 0x24) (by decide) (by decide) (by simp) (by simp)
  have htstat (i : Nat) : t.fbkStat p i = u.fbkStat p i := hset.bit (o := 0x4) (by decide) (by simp) i
  rw [htpos, htcmp, htcfg, htcnt, hterr, httime, htstat, htstat]
  refine ⟨hall.apart, by rw [htport, huport, hport], by rw [htport, huport, hport], by rw [htport], by rw [htport, huport],
    hquick, htime, hdir, hstill, hstands, hmoves, hmiss, fun hl hc hh => ?_⟩
  obtain ⟨hcnt, hzero, hmore, hwait⟩ := hhit hl hc hh
  refine ⟨hcnt, hzero, hmore, fun hlen h7 hserv => ?_⟩
  rw [htport]
  exact hwait hlen h7 hserv

end Final

/-- Settles O37, by the event: the edges of A and B, of Z, the wires and standstill. -/
theorem feedbackDecoding : Obligations.FeedbackDecoding := by
  intro s p stamp hp k at_ err span pos loaded wire apart illegal
  refine ⟨fun hon hst => ⟨?both, ?second, ?lone, ?index⟩, ?standing, ?fault, ?differ, ?still⟩
  case both =>
    intro a b ha hb hq
    obtain ⟨hstep, hport⟩ := s.withLines_spec p a b
    obtain ⟨hill, hpos, -, -⟩ := State.illegalNoted_of hp (hstep.mono (by simp)) (by rw [hport]) (by rw [hport]) at_
    exact ⟨_, (exec_quadratureEdge hp).trans (congrArg _ (State.quadEdge_bothLines hon hst ha hb hq)), hill,
      hpos.trans (hstep.pair (l := 0x10) (g := 0x14) (by decide) (by decide) (by simp) (by simp))⟩
  case second =>
    intro a b wasA f hone hq hother
    obtain ⟨v, hexec, hstep, ha, hb, hnone, hsome⟩ := quadratureEdge_illegal hp hon hst hone hq hother
    obtain ⟨hill, hpos, hcmp, hhits⟩ := State.illegalNoted_of hp hstep ha hb at_
    refine ⟨_, hexec, hill, fun h => hpos.trans (hnone h), fun g hg => ?_⟩
    obtain ⟨hgpos, hgcmp, hghits⟩ := hsome g hg
    exact ⟨hpos.trans hgpos, fun h => hcmp.trans (hgcmp h), hhits.trans hghits⟩
  case lone =>
    intro a b hone hq up counted pos' cmp step hit
    refine ⟨quadratureEdge_uncounted hp hon hst hone hq, fun hcount => ?_⟩
    obtain ⟨t, u, hexec, hcounted, g, ht, hgpos, hgs, hgc⟩ := quadratureEdge_counted hp hon hst hone hq hcount
    obtain ⟨happ, ha, hb, hquad, hlast, hcounted⟩ := hcounted.row g
    rw [← ht] at happ ha hb hquad hlast hcounted
    obtain ⟨herr, htime, hdir, hstill, hld, hmv, hmiss, hhit⟩ := hcounted
    refine ⟨t, hexec, happ, ha, hb, ⟨g, hquad, hgpos, hgs, hgc⟩, herr, hlast, htime, hdir, hstill, hld, hmv, fun hl hc => ⟨hmiss hl hc, fun h => ?_⟩⟩
    obtain ⟨hcnt, hzero, hmore, hwait⟩ := hhit hl hc h
    refine ⟨hcnt, hzero, fun hne => (hmore hne).trans ?_, hwait⟩
    have hdown : s.cmpDown p = !up := h.2.1
    rw [State.cmpAfterHit, hdown]
    cases up
    · exact (if_pos rfl).trans (if_neg (by decide)).symm
    · exact (if_neg (by decide)).trans (if_pos rfl).symm
  case index =>
    intro hz
    have heq := State.zEdge_eq hon hst hz
    obtain ⟨hstep, hzpos, hztime, hpend⟩ := State.zNoted_spec (s := s) hp at_
    by_cases h1 : s.fld (Reg.FBK_CFG p) 5 2 = 1
    · refine ⟨_, (exec_zEdge hp).trans (congrArg _ (heq.trans (if_pos h1))), hstep.apart, hzpos, hztime, hpend, fun _ => ⟨?_, ?_⟩,
        fun h => absurd h1 h, ?_⟩
      · exact hstep.pair (l := 0x10) (g := 0x14) (by decide) (by decide) (by decide) (by decide)
      · exact hstep.bit (o := 0x4) (by decide) (by decide) 0
      · rw [hstep.fld (o := 0x8) (by decide) (by decide) 5 2, h1]
        rfl
    · obtain ⟨hload, hpos, hvalid, hmode, hkeep⟩ := State.zLoaded_spec (s := s.zNoted p at_) hp (s.fld (Reg.FBK_CFG p) 5 2)
      have hall : FbkStep p [0x4, 0x8, 0x10, 0x14, 0x28, 0x2c, 0x30, 0x34, 0x44, 0x48, 0xc4] s ((s.zNoted p at_).zLoaded p (s.fld (Reg.FBK_CFG p) 5 2)) :=
        (hstep.mono (by decide)).trans (hload.mono (by decide))
      refine ⟨_, (exec_zEdge hp).trans (congrArg _ (heq.trans (if_neg h1))), hall.apart, ?_, ?_, hkeep hpend, fun h => absurd h h1, fun _ => ⟨?_, hvalid⟩, ?_⟩
      · exact (hload.pair (l := 0x28) (g := 0x2c) (by decide) (by decide) (by decide) (by decide)).trans hzpos
      · exact (hload.pair (l := 0x30) (g := 0x34) (by decide) (by decide) (by decide) (by decide)).trans hztime
      · rw [hpos, hstep.pair (l := 0x18) (g := 0x1c) (by decide) (by decide) (by decide) (by decide)]
      · rw [hmode, hstep.fld (o := 0x8) (by decide) (by decide) 5 2]
  case standing => exact fun w hw h => (exec_wireFault hp hw).trans (congrArg _ (State.wiresAgree_standing h))
  case fault =>
    intro w hw hnew hcheck hon heq hlong
    have hequal : s.wiresEqual p w = true := Bool.and_eq_true_iff.mpr ⟨beq_iff_eq.mpr heq, decide_eq_true hlong⟩
    obtain ⟨hstep, hfault, herr, hvalid⟩ := State.wiresAgree_new hp hw hnew hcheck hon hequal
    exact ⟨_, exec_wireFault hp hw, hfault, herr, hvalid,
      hstep.pair (l := 0x10) (g := 0x14) (by decide) (by decide) (by decide) (by decide), hstep.apart⟩
  case differ =>
    intro w hw hrun hdiff faulted
    obtain ⟨hno, hyes⟩ := State.wiresDiffer_spec hp hrun hdiff
    refine ⟨fun h => (exec_wiresDisagree hp hw).trans (congrArg _ (hno h)), fun h => ?_⟩
    obtain ⟨hstep, hfault, herr, hidle, hframe⟩ := hyes h
    exact ⟨_, exec_wiresDisagree hp hw, hfault, herr, hidle, hframe,
      hstep.pair (l := 0x10) (g := 0x14) (by decide) (by decide) (by decide) (by decide), hstep.apart⟩
  case still =>
    intro hmode hrun hspan hstat hlate
    exact ⟨_, exec_standstill hp, State.standStill_spec hp hmode hrun hspan hstat hlate⟩

end Sys2Proof.Machine

/-! O40: the clock of a serial request (R72, R216). -/

namespace Sys2Proof.Machine

open Sys2Proof

/-- Of the cuffs `c` alone may differ, of the registers its count of edges, and of the other fields what opens a pair's blanking. -/
structure WireStep (c : Nat) (s t : State) : Prop where
  cuff : ∀ e, e ≠ c → t.cuff e = s.cuff e
  reg : ∀ r, r ≠ Reg.CUF_EDGES c → t.reg r = s.reg r
  frame : t = { s with regs := t.regs, cuffs := t.cuffs, pairs := t.pairs }

section Wire
variable {c : Nat} {s t u : State}

theorem WireStep.refl (c : Nat) (s : State) : WireStep c s s := ⟨fun _ _ => rfl, fun _ _ => rfl, rfl⟩

theorem WireStep.trans (h : WireStep c s t) (g : WireStep c t u) : WireStep c s u :=
  ⟨fun e he => (g.cuff e he).trans (h.cuff e he), fun r hr => (g.reg r hr).trans (h.reg r hr), by rw [g.frame, h.frame]⟩

theorem CuffOnly.wire (h : CuffOnly c s t) : WireStep c s t := by
  obtain ⟨x, y, hxy⟩ : ∃ x y, t = { s with regs := x, cuffs := y } := ⟨_, _, h.frame⟩
  exact ⟨h.cuff, h.reg, by rw [hxy]⟩

theorem WireStep.circle (h : WireStep c s t) : t.circle = s.circle := by
  rw [State.circle, State.circle, State.pair_of_reg (h.reg _ (edges_ne c).2.2.2.1) (h.reg _ (edges_ne c).2.2.2.2)]

theorem WireStep.plus (h : WireStep c s t) (a d : Nat) : t.plus a d = s.plus a d := by rw [State.plus, State.plus, h.circle]

theorem WireStep.reached (h : WireStep c s t) (a : Nat) : t.reached a = s.reached a := by
  have htb : t.tb = s.tb := by rw [h.frame]
  rw [State.reached, State.reached, State.atOrAfter, State.atOrAfter, h.circle, htb]

theorem WireStep.placed (h : WireStep c s t) {e : Nat} (he : (t.cuff e).skew = (s.cuff e).skew) (a : Nat) : t.placed e a = s.placed e a := by
  rw [State.placed, State.placed, he, State.shifted, State.shifted, h.plus, State.minus, State.minus, h.circle]

theorem WireStep.pairEn (h : WireStep c s t) (p : Nat) : t.pairEn p = s.pairEn p :=
  State.bit_of_reg (h.reg _ ((edges_ne c).2.1 _ _ (Nat.mod_lt _ (by decide)))) 0

theorem WireStep.frozen (h : WireStep c s t) : t.frozen = s.frozen := by
  have hpwr : t.pwr = s.pwr := by rw [h.frame]
  rw [State.frozen, State.frozen, hpwr]

variable (s)

theorem State.edgeMade_wire (t : Nat) : WireStep c s (s.edgeMade c t) := by
  have hcount := (s.edgeCounted_cuff (c := c) t).2.2.wire
  simp only [State.edgeMade]
  split
  · exact hcount.trans ⟨fun _ _ => rfl, fun _ _ => rfl, rfl⟩
  · exact hcount

theorem State.driveCuff_wire (l : Bool) (t : Nat) : WireStep c s (s.driveCuff c l t) := by
  have hset (k : Cuff) : WireStep c s (s.setCuff c k) := (CuffOnly.of_setCuff c s k).wire
  simp only [State.driveCuff]
  split
  · exact hset _
  split
  · exact .refl c s
  split
  · exact hset _
  · exact (hset _).trans ((State.edgeMade_wire _ _).trans (State.drivenPad_only ..).wire)

theorem State.driveAll_wire (l : List (Nat × Bool)) : WireStep c s (l.foldl (fun s e => s.driveCuff c e.2 e.1) s) :=
  List.foldlRecOn (motive := WireStep c s) l _ (.refl c s) fun u hu e _ => hu.trans (u.driveCuff_wire e.2 e.1)

theorem State.settleCuff_wire : WireStep c s (s.settleCuff c) := by
  simp only [State.settleCuff]
  split
  · exact .refl c s
  · exact (CuffOnly.of_setCuff c s _).wire.trans (State.driveAll_wire _ _)

/-- A cuff that is no leg and not held takes the level of an edge and keeps the edges still to come. -/
structure Driven (c : Nat) (l : Bool) (s t : State) : Prop where
  level : (t.cuff c).level = l
  edges : (t.cuff c).edges = (s.cuff c).edges
  held : (t.cuff c).held = (s.cuff c).held

theorem State.drivenPad_kept (x : Nat) : ((s.drivenPad c x).cuff c).level = (s.cuff c).level ∧
    ((s.drivenPad c x).cuff c).edges = (s.cuff c).edges ∧ ((s.drivenPad c x).cuff c).held = (s.cuff c).held := by
  rw [State.drivenPad]
  split
  · rw [(State.padTo_cuff (s := s) (c := c) _ x).1, State.padded]
    split
    · exact ⟨rfl, rfl, rfl⟩
    · exact ⟨rfl, rfl, rfl⟩
  · exact ⟨rfl, rfl, rfl⟩

theorem State.driveCuff_driven (hpair : s.pairEn (c / 2) = false) (hheld : (s.cuff c).held = false) (l : Bool) (t : Nat) :
    Driven c l s (s.driveCuff c l t) := by
  obtain ⟨u, hu⟩ : ∃ u, u = s.setCuff c { s.cuff c with driven := s.outputOn c, level := l } := ⟨_, rfl⟩
  have hucuff : u.cuff c = { s.cuff c with driven := s.outputOn c, level := l } := hu ▸ (State.cuff_setCuff ..).trans (if_pos rfl)
  have hdrive : s.driveCuff c l t = if (s.cuff c).driven = s.outputOn c ∧ (s.cuff c).level = l then u else (u.edgeMade c t).drivenPad c t := by
    simp only [State.driveCuff]
    rw [if_neg (by simp [hheld]), if_neg (by simp [State.lockedOut_alone hpair]), hu]
  rw [hdrive]
  split
  · exact ⟨by rw [hucuff], by rw [hucuff], by rw [hucuff]⟩
  · have hupair : u.pairEn (c / 2) = false := hu ▸ hpair
    have hcount := (u.edgeCounted_cuff (c := c) t).1
    obtain ⟨hl, he, hh⟩ := (u.edgeCounted c t).drivenPad_kept (c := c) t
    rw [hcount, hucuff] at hl he hh
    rw [State.edgeMade_alone hupair]
    exact ⟨hl, he, hh⟩

theorem State.driveAll_kept (l : List (Nat × Bool)) : ∀ s : State, s.pairEn (c / 2) = false → (s.cuff c).held = false →
    ((l.foldl (fun s e => s.driveCuff c e.2 e.1) s).cuff c).edges = (s.cuff c).edges := by
  induction l with
  | nil => exact fun _ _ _ => rfl
  | cons e l ih =>
    intro s hpair hheld
    have hdrive := s.driveCuff_driven hpair hheld e.2 e.1
    exact (ih _ (((s.driveCuff_wire e.2 e.1).pairEn _).trans hpair) (hdrive.held.trans hheld)).trans hdrive.edges

/-- The due edges of a cuff that is no leg and not held (R51). -/
theorem State.settleCuff_due (hpair : s.pairEn (c / 2) = false) (hheld : (s.cuff c).held = false) (hrun : s.frozen = false) :
    ((s.settleCuff c).cuff c).edges = (s.cuff c).edges.filter (fun e => !s.reached (s.placed c e.1)) ∧
    ∀ e l, (s.cuff c).edges = e :: l → s.reached (s.placed c e.1) = true → (∀ y ∈ l, s.reached (s.placed c y.1) = false) →
      ((s.settleCuff c).cuff c).level = e.2 := by
  obtain ⟨now, hnow⟩ : ∃ now, now = (s.cuff c).edges.filter fun e => s.reached (s.placed c e.1) := ⟨_, rfl⟩
  obtain ⟨u, hu⟩ : ∃ u, u = s.setCuff c { s.cuff c with edges := (s.cuff c).edges.filter fun e => !s.reached (s.placed c e.1) } := ⟨_, rfl⟩
  have hsettle : s.settleCuff c = now.foldl (fun s e => s.driveCuff c e.2 e.1) u := by
    have hwait : (now.getLast?.toList.filter fun e => s.lockedOut c e.2) = [] :=
      List.filter_eq_nil_iff.mpr fun e _ => by simp [State.lockedOut_alone hpair]
    unfold State.settleCuff
    dsimp only
    rw [if_neg (by simp [hheld, hrun]), ← hnow, hwait, List.nil_append, hu]
  have hcuff : u.cuff c = { s.cuff c with edges := (s.cuff c).edges.filter fun e => !s.reached (s.placed c e.1) } := by
    rw [hu, State.cuff_setCuff, if_pos rfl]
  have hupair : u.pairEn (c / 2) = false := hu ▸ hpair
  have huheld : (u.cuff c).held = false := by rw [hcuff]; exact hheld
  rw [hsettle]
  refine ⟨by rw [State.driveAll_kept _ _ hupair huheld, hcuff], fun e l hel hdue hlate => ?_⟩
  have hone : now = [e] := by
    rw [hnow, hel, List.filter_cons_of_pos (p := fun e : Nat × Bool => s.reached (s.placed c e.1)) hdue, List.filter_eq_nil_iff.mpr fun y hy => by simp [hlate y hy]]
  rw [hone]
  exact (u.driveCuff_driven hupair huheld e.2 e.1).level

/-! ### The clock wires (R216) -/

/-- The edges of a clock wire from a request at `r`, in ticks of half a period. -/
def State.clockEdges (s : State) (r half n : Nat) (inv : Bool) : List (Nat × Bool) :=
  (r, inv) :: ssiEdges (fun d => s.plus r (d * 16)) half inv n

/-- What a clock wire does from a request on. -/
structure Clocked (c : Nat) (es : List (Nat × Bool)) (s t : State) : Prop where
  edges : (t.cuff c).edges = es.filter fun y => !s.reached (s.placed c y.1)
  level : ∀ e l, es = e :: l → s.reached (s.placed c e.1) = true → (∀ y ∈ l, s.reached (s.placed c y.1) = false) → (t.cuff c).level = e.2

theorem State.clockWire_spec (inv : Bool) (r half n : Nat) : WireStep c s (s.clockWire c inv r half n) ∧
    ((s.cuff c).apron = true → s.clockWire c inv r half n = s) ∧
    ((s.cuff c).apron = false → (s.cuff c).held = false → s.pairEn (c / 2) = false → s.frozen = false →
      Clocked c (s.clockEdges r half n inv) s (s.clockWire c inv r half n)) := by
  obtain ⟨u, hu⟩ : ∃ u, u = s.setCuff c { s.cuff c with edges := s.clockEdges r half n inv } := ⟨_, rfl⟩
  have heq : s.clockWire c inv r half n = if (s.cuff c).apron then s else u.settleCuff c := by rw [hu]; rfl
  have huonly : WireStep c s u := hu ▸ (CuffOnly.of_setCuff c s _).wire
  have hcuff : u.cuff c = { s.cuff c with edges := s.clockEdges r half n inv } := hu ▸ (State.cuff_setCuff ..).trans (if_pos rfl)
  rw [heq]
  refine ⟨?_, fun h => if_pos h, fun hap hheld hpair hrun => ?_⟩
  · split
    · exact .refl c s
    · exact huonly.trans u.settleCuff_wire
  · rw [if_neg (by simp [hap])]
    obtain ⟨hedges, hlevel⟩ := u.settleCuff_due (c := c) ((huonly.pairEn _).trans hpair) (by rw [hcuff]; exact hheld) (huonly.frozen.trans hrun)
    have hdue (a : Nat) : u.reached (u.placed c a) = s.reached (s.placed c a) := by
      rw [huonly.placed (by rw [hcuff]), huonly.reached]
    simp only [hdue, hcuff] at hedges hlevel
    exact ⟨hedges, hlevel⟩

end Wire

end Sys2Proof.Machine

/-! O40: serial requests (R215, R216). -/

namespace Sys2Proof.Machine

open Sys2Proof

section Request
variable {s : State} {p r : Nat}

/-- The data line has rested (R216). -/
def State.dataRested (s : State) (p : Nat) : Prop :=
  (s.cuff ((s.port p).base + 2)).pad = true ∧ (s.cuff ((s.port p).base + 2)).padTick + s.fld (Reg.FBK_SSITM p) 0 16 ≤ s.tick

theorem State.lineRested_iff (s : State) (p : Nat) : s.lineRested p = true ↔ s.dataRested p := by
  exact Bool.and_eq_true_iff.trans (and_congr_right fun _ => decide_eq_true_iff)

/-- What a request does (R216): skipped with SSI_BUSY, or the start of a frame with its two clock wires. -/
structure SsiRequested (p r : Nat) (u t : State) : Prop where
  busy : ¬u.dataRested p ∨ u.fbkStat p 4 = true → t.bit (Reg.FBK_ERR p) 6 = true ∧
    OnlyRegsAndEvents [Reg.FBK_ERR p] (u.setPort p { u.port p with lastReq := u.tick }) t
  taken : u.dataRested p → u.fbkStat p 4 = false → t.fbkStat p 4 = true ∧
    t.port p = { u.port p with lastReq := u.tick, reqAt := some r, ended := none, undo := none, line := [] } ∧
    ∀ inv : Bool, let c := if inv then (u.port p).base + 1 else (u.port p).base
      ((u.cuff c).apron = true → t.cuff c = u.cuff c) ∧
      ((u.cuff c).apron = false → (u.cuff c).held = false → u.pairEn (c / 2) = false →
        Clocked c (u.clockEdges r (u.ssiClk p / 2) (u.ssiWord p) inv) u t)

theorem State.not_frozen_of_fbkOn {m : Nat} (h : s.fbkOn p m = true) : s.frozen = false := by
  simp only [State.fbkOn, State.stampless, Bool.and_eq_true, Bool.not_eq_true', Bool.or_eq_false_iff] at h
  exact h.1.2.1

/-- FBK_STATUS and the registers a clock wire reads are no counts of edges. -/
theorem fbkStatus_ne_edges (p c : Nat) : Reg.FBK_STATUS p ≠ Reg.CUF_EDGES c := by
  simp only [Reg.FBK_STATUS, Reg.CUF_EDGES]
  omega

theorem WireStep.apart {c e : Nat} {t : State} (h : WireStep c s t) (he : e ≠ c) {es : List (Nat × Bool)} {u : State} (hc : Clocked e es t u) :
    Clocked e es s u := by
  have hsame : (t.cuff e).skew = (s.cuff e).skew := by rw [h.cuff e he]
  refine ⟨?_, fun x l hx hd hl => ?_⟩
  · rw [hc.edges]
    simp only [h.reached, h.placed hsame]
  · have hdue (a : Nat) : t.reached (t.placed e a) = s.reached (s.placed e a) := by rw [h.reached, h.placed hsame]
    exact hc.level x l hx (by rw [hdue]; exact hd) fun y hy => by rw [hdue]; exact hl y hy

theorem WireStep.after {c e : Nat} {t u : State} (h : WireStep c t u) (he : e ≠ c) {es : List (Nat × Bool)} (hc : Clocked e es s t) :
    Clocked e es s u := ⟨by rw [h.cuff e he]; exact hc.edges, by rw [h.cuff e he]; exact hc.level⟩

/-- Both clock wires, P then N. -/
theorem State.clockWires_spec (s : State) (p b r half n : Nat) (hrun : s.frozen = false) :
    let t := (s.clockWire b false r half n).clockWire (b + 1) true r half n
    t.ports = s.ports ∧ t.reg (Reg.FBK_STATUS p) = s.reg (Reg.FBK_STATUS p) ∧
    ∀ inv : Bool, let c := if inv then b + 1 else b
      ((s.cuff c).apron = true → t.cuff c = s.cuff c) ∧
      ((s.cuff c).apron = false → (s.cuff c).held = false → s.pairEn (c / 2) = false → Clocked c (s.clockEdges r half n inv) s t) := by
  obtain ⟨u, hu⟩ : ∃ u, u = s.clockWire b false r half n := ⟨_, rfl⟩
  obtain ⟨t, ht⟩ : ∃ t, t = u.clockWire (b + 1) true r half n := ⟨_, rfl⟩
  obtain ⟨hw1, hap1, hcl1⟩ := s.clockWire_spec (c := b) false r half n
  obtain ⟨hw2, hap2, hcl2⟩ := u.clockWire_spec (c := b + 1) true r half n
  rw [← hu] at hw1 hap1 hcl1
  rw [← ht] at hw2 hap2 hcl2
  rw [← hu, ← ht]
  have hports : t.ports = s.ports := by
    have h1 : u.ports = s.ports := by rw [hw1.frame]
    rw [hw2.frame]
    exact h1
  refine ⟨hports, (hw2.reg _ (fbkStatus_ne_edges p _)).trans (hw1.reg _ (fbkStatus_ne_edges p _)), fun inv => ?_⟩
  have h1 : u.cuff (b + 1) = s.cuff (b + 1) := hw1.cuff _ (by omega)
  have h2 : t.cuff b = u.cuff b := hw2.cuff _ (by omega)
  cases inv
  · refine ⟨fun h => h2.trans (congrArg (State.cuff · b) (hap1 h)), fun ha hh hp => hw2.after (by simp) (hcl1 ha hh hp hrun)⟩
  · refine ⟨fun h => ?_, fun ha hh hp => ?_⟩
    · have := hap2 (by rw [h1]; exact h)
      rw [this]
      exact h1
    · have hedges : u.clockEdges r half n true = s.clockEdges r half n true := by
        simp only [State.clockEdges, hw1.plus]
      rw [← hedges]
      exact hw1.apart (by simp) (hcl2 (by rw [h1]; exact ha) (by rw [h1]; exact hh) ((hw1.pairEn _).trans hp) (hw1.frozen.trans hrun))

theorem State.ssiRequest_spec (hp : p < 64) (hon : s.fbkOn p 2 = true) : SsiRequested p r s (s.ssiRequest p r) := by
  obtain ⟨u, hu⟩ : ∃ u, u = s.setPort p { s.port p with lastReq := s.tick } := ⟨_, rfl⟩
  have huport : u.port p = { s.port p with lastReq := s.tick } := hu ▸ (s.port_setPort ..).trans (if_pos rfl)
  obtain ⟨v, hv⟩ : ∃ v, v = u.setPort p { u.port p with reqAt := some r, ended := none, undo := none, line := [] } := ⟨_, rfl⟩
  have hvport : v.port p = { u.port p with reqAt := some r, ended := none, undo := none, line := [] } := hv ▸ (u.port_setPort ..).trans (if_pos rfl)
  obtain ⟨w, hw⟩ : ∃ w, w = v.setFbkStat p 4 true := ⟨_, rfl⟩
  have honly : OnlyRegs [Reg.FBK_STATUS p] v w := hw ▸ (OnlyRegs.refl _ _).setBit (by simp) ..
  have hwframe : w.fbkStat p 4 = true := hw ▸ State.bit_setBit_same _ _ _ _ (by decide)
  have hvreg (k : Nat) : v.reg k = s.reg k := by rw [hv, hu]; rfl
  have heq : s.ssiRequest p r = if u.lineRested p = false ∨ u.fbkStat p 4 = true then u.fbkErr p 6
      else (w.clockWire (u.port p).base false r (w.ssiClk p / 2) (w.ssiWord p)).clockWire ((u.port p).base + 1) true r (w.ssiClk p / 2) (w.ssiWord p) := by
    rw [hw, hv, hu]
    exact if_neg (by simp [hon])
  have hrested : u.lineRested p = true ↔ s.dataRested p := by
    rw [State.lineRested_iff, State.dataRested, State.dataRested, huport, hu]
    rfl
  have hustat : u.fbkStat p 4 = s.fbkStat p 4 := by rw [hu]; rfl
  have hbusy : (u.lineRested p = false ∨ u.fbkStat p 4 = true) ↔ (¬s.dataRested p ∨ s.fbkStat p 4 = true) := by
    rw [← hrested, hustat, Bool.not_eq_true]
  refine ⟨fun h => ?_, fun hr hs => ?_⟩
  · rw [heq, if_pos (hbusy.mpr h), ← hu]
    exact ⟨u.bit_fbkErr_same hp (by decide), ((OnlyRegsAndEvents.refl _ u).setBit (by simp) 6 true).raise (by omega)⟩
  · have hno : ¬(u.lineRested p = false ∨ u.fbkStat p 4 = true) := fun h => (hbusy.mp h).elim (fun g => g hr) fun g => by simp [hs] at g
    rw [heq, if_neg hno]
    have hwreg (k : Nat) (hk : k ≠ Reg.FBK_STATUS p) : w.reg k = s.reg k := (honly.2 k (by simpa using hk)).trans (hvreg k)
    have hclk : w.ssiClk p = s.ssiClk p := by rw [State.ssiClk, State.ssiClk, State.fld_of_reg (hwreg _ (by simp))]
    have hword : w.ssiWord p = s.ssiWord p := by rw [State.ssiWord, State.ssiWord, State.fld_of_reg (hwreg _ (by simp))]
    obtain ⟨q, x, hqx⟩ : ∃ q x, w = { s with regs := x, ports := q } := ⟨_, _, by rw [honly.1, hv, hu]; rfl⟩
    have hcuff (c : Nat) : w.cuff c = s.cuff c := by rw [hqx]; rfl
    have hfrozen : w.frozen = false := by
      rw [hqx]
      exact s.not_frozen_of_fbkOn hon
    have hpair (n : Nat) : w.pairEn n = s.pairEn n :=
      State.bit_of_reg (hwreg _ (by simp only [Reg.FBK_STATUS, Reg.SLV_PAIR_CFG]; omega)) 0
    have hcircle : w.circle = s.circle := by
      rw [State.circle, State.circle, State.pair_of_reg (hwreg _ (by simp only [Reg.FBK_STATUS, Reg.TB_RELOAD_L]; omega))
        (hwreg _ (by simp only [Reg.FBK_STATUS, Reg.TB_RELOAD_H]; omega))]
    have htb : w.tb = s.tb := by rw [hqx]
    have hdue (c a : Nat) : w.reached (w.placed c a) = s.reached (s.placed c a) := by
      have hplaced : w.placed c a = s.placed c a := by
        simp only [State.placed, State.shifted, State.plus, State.minus, hcircle, hcuff]
      rw [hplaced, State.reached, State.reached, State.atOrAfter, State.atOrAfter, hcircle, htb]
    have hedges (half n : Nat) (inv : Bool) : w.clockEdges r half n inv = s.clockEdges r half n inv := by
      simp only [State.clockEdges, State.plus, hcircle]
    have hbase : (u.port p).base = (s.port p).base := by rw [huport]
    rw [hbase, hclk, hword]
    obtain ⟨hports, hreg, hwires⟩ := w.clockWires_spec p (s.port p).base r (s.ssiClk p / 2) (s.ssiWord p) hfrozen
    refine ⟨(State.bit_of_reg hreg 4).trans hwframe, ?_, fun inv => ?_⟩
    · rw [State.port_of_ports hports, State.port_of_ports (show w.ports = v.ports by rw [honly.1]), hvport, huport]
    · obtain ⟨hap, hcl⟩ := hwires inv
      refine ⟨fun h => (hap (by rw [hcuff]; exact h)).trans (hcuff _), fun ha hh hp => ?_⟩
      have hc := hcl (by rw [hcuff]; exact ha) (by rw [hcuff]; exact hh) (by rw [hpair]; exact hp)
      rw [hedges] at hc
      refine ⟨?_, fun e l hel hd hl => ?_⟩
      · rw [hc.edges]
        simp only [hdue]
      · exact hc.level e l hel (by rw [hdue]; exact hd) fun y hy => by rw [hdue]; exact hl y hy

end Request

end Sys2Proof.Machine

/-! O40: the word of a serial frame (R216-R218). -/

namespace Sys2Proof.Machine

open Sys2Proof

/-! ### Words and Gray code -/

/-- Bits taken one after the other, the most significant first. -/
theorem foldBits_spec (f : Nat → Bool) (n : Nat) : let w := (List.range n).foldl (fun w k => 2 * w + b2n (f k)) 0
    w < 2 ^ n ∧ ∀ j < n, bitAt w (n - 1 - j) = f j := by
  induction n with
  | zero => exact ⟨Nat.one_pos, fun j h => absurd h (by omega)⟩
  | succ n ih =>
    obtain ⟨hlt, hbits⟩ := ih
    rw [List.range_succ, List.foldl_append, List.foldl_cons, List.foldl_nil]
    obtain ⟨w, hw⟩ : ∃ w, w = (List.range n).foldl (fun w k => 2 * w + b2n (f k)) 0 := ⟨_, rfl⟩
    rw [← hw] at hlt hbits ⊢
    have hb : b2n (f n) < 2 := by cases f n <;> decide
    refine ⟨by rw [Nat.pow_succ]; omega, fun j hj => ?_⟩
    by_cases hjn : j = n
    · rw [hjn, show n + 1 - 1 - n = 0 by omega]
      cases f n
      · simp [bitAt, b2n]
      · simp only [bitAt, b2n]
        simp
    · have hdiv : (2 * w + b2n (f n)) / 2 = w := by omega
      have hstep : n + 1 - 1 - j = (n - 1 - j) + 1 := by omega
      rw [← hbits j (by omega), hstep, bitAt, bitAt, Nat.pow_succ', ← Nat.div_div_eq_div_mul, hdiv]

/-- The Gray code of what a Gray code word decodes to is that word. -/
theorem grayDecode_spec (n : Nat) : ∀ g < 2 ^ n, grayDecode n g < 2 ^ n ∧ Nat.xor (grayDecode n g) (grayDecode n g / 2) = g := by
  induction n with
  | zero =>
    intro g hg
    obtain rfl : g = 0 := by omega
    exact ⟨by decide, by decide⟩
  | succ n ih =>
    intro g hg
    have hhalf : g / 2 < 2 ^ n := by rw [Nat.pow_succ] at hg; omega
    obtain ⟨hlt, hgray⟩ := ih (g / 2) hhalf
    obtain ⟨y, hy⟩ : ∃ y, y = grayDecode n (g / 2) := ⟨_, rfl⟩
    have hdec : grayDecode (n + 1) g = g ^^^ y := by rw [hy]; rfl
    rw [← hy] at hlt hgray
    have hgray' : y ^^^ (y / 2) = g / 2 := hgray
    have hdiv : (g ^^^ y) / 2 = (g / 2) ^^^ (y / 2) := by
      simpa using Nat.xor_div_two_pow (a := g) (b := y) (n := 1)
    rw [hdec]
    refine ⟨Nat.xor_lt_two_pow hg (hlt.trans (Nat.pow_lt_pow_right (by decide) (by omega))), ?_⟩
    show (g ^^^ y) ^^^ ((g ^^^ y) / 2) = g
    rw [hdiv]
    calc (g ^^^ y) ^^^ ((g / 2) ^^^ (y / 2)) = g ^^^ ((y ^^^ (y / 2)) ^^^ (g / 2)) := by
          rw [Nat.xor_assoc, Nat.xor_assoc, Nat.xor_comm (g / 2)]
      _ = g := by rw [hgray', Nat.xor_self, Nat.xor_zero]

/-! ### Latches a frame completes (R215) -/

section Word
variable {s : State} {p : Nat}

/-- A step of a port that keeps the request of its frame. -/
structure FrameStep (p : Nat) (os : List Nat) (s t : State) : Prop where
  step : FbkStep p os s t
  req : (t.port p).reqAt = (s.port p).reqAt

theorem FrameStep.refl {os : List Nat} : FrameStep p os s s := ⟨.refl, rfl⟩

theorem FrameStep.trans {os : List Nat} {t u : State} (h : FrameStep p os s t) (g : FrameStep p os t u) : FrameStep p os s u :=
  ⟨h.step.trans g.step, g.req.trans h.req⟩

theorem FrameStep.mono {os ls : List Nat} {t : State} (h : FrameStep p os s t) (hsub : ∀ o ∈ os, o ∈ ls) : FrameStep p ls s t :=
  ⟨h.step.mono hsub, h.req⟩

theorem FbkStep.frame {os : List Nat} {t : State} (h : FbkStep p os s t) (hports : t.ports = s.ports) : FrameStep p os s t :=
  ⟨h, by rw [State.port_of_ports hports]⟩

theorem HitStep.frame {t : State} (h : HitStep p s t) : FrameStep p hitRegs s t := by
  obtain ⟨x, c, hx⟩ := h.port
  exact ⟨h.step, by rw [hx]⟩

abbrev latchRegs : List Nat := [0x90, 0x94, 0x98, 0x9c, 0xa0, 0xa4]

theorem State.setPair_frameStep {os : List Nat} (s : State) {l h : Nat} (hl : l ∈ os) (hh : h ∈ os) (v : Nat) :
    FrameStep p os s (s.setPair (fbkReg p l) (fbkReg p h) v) := (s.setPair_step hl hh v).frame (State.setPair_ports ..)

theorem State.fbkRecordAt_step (s : State) (hp : p < 64) (status kind pair time pos : Nat) :
    FbkStep p [] s (s.fbkRecordAt p status kind pair time pos) ∧ (s.fbkRecordAt p status kind pair time pos).ports = s.ports := by
  rw [State.fbkRecordAt]
  split
  · exact ⟨.of_wipe (s.logRecord_wipe0 ..) (fun _ ho _ => (s.logRecord_midKept ..).fbk hp ho) rfl rfl rfl rfl rfl rfl,
      State.ports_of_wipe (s.logRecord_wipe0 ..) rfl⟩
  · exact ⟨.refl, rfl⟩

theorem State.latchAt_frame (s : State) (hp : p < 64) (pos : Nat) (l : Nat × Bool) : FrameStep p latchRegs s (s.latchAt p pos l) := by
  obtain ⟨u, hu⟩ : ∃ u, u = s.setPair (Reg.FBK_LPOS_L p) (Reg.FBK_LPOS_H p) pos := ⟨_, rfl⟩
  obtain ⟨v, hv⟩ : ∃ v, v = u.setPair (Reg.FBK_LSPD_L p) (Reg.FBK_LSPD_H p) (u.speedAt p l.1) := ⟨_, rfl⟩
  obtain ⟨w, hw⟩ : ∃ w, w = v.setPair (Reg.FBK_LTIME_L p) (Reg.FBK_LTIME_H p) l.1 := ⟨_, rfl⟩
  have hsu : FrameStep p latchRegs s u := hu ▸ s.setPair_frameStep (l := 0x90) (h := 0x94) (by decide) (by decide) _
  have huv : FrameStep p latchRegs u v := hv ▸ u.setPair_frameStep (l := 0xa0) (h := 0xa4) (by decide) (by decide) _
  have hvw : FrameStep p latchRegs v w := hw ▸ v.setPair_frameStep (l := 0x98) (h := 0x9c) (by decide) (by decide) _
  have heq : s.latchAt p pos l = if l.2 then w.fbkRecordAt p Code.ok 0 0 l.1 pos else w := by rw [hw, hv, hu]; rfl
  rw [heq]
  split
  · obtain ⟨hstep, hports⟩ := w.fbkRecordAt_step hp Code.ok 0 0 l.1 pos
    exact ((hsu.trans huv).trans hvw).trans ((hstep.mono (by simp)).frame hports)
  · exact (hsu.trans huv).trans hvw

theorem State.latchFrame_frame (s : State) (hp : p < 64) (time : Nat) : FrameStep p latchRegs s (s.latchFrame p time) := by
  obtain ⟨k, hk⟩ : ∃ k : Fbk, k = { s.port p with latches := (s.port p).latches.filter fun l => !s.atOrAfter time l.1 } := ⟨_, rfl⟩
  have hset : FrameStep p latchRegs s (s.setPort p k) := ⟨s.setPort_step k, by rw [State.port_setPort, if_pos rfl, hk]⟩
  have heq : s.latchFrame p time = ((s.port p).latches.filter fun l => s.atOrAfter time l.1).foldl (fun s l => s.latchAt p (s.fbkPos p) l) (s.setPort p k) := by
    rw [hk]; rfl
  rw [heq]
  exact List.foldlRecOn (motive := FrameStep p latchRegs s) _ _ hset fun u hu l _ => hu.trans (u.latchAt_frame hp _ l)

/-! ### What a word does (R218, R219) -/

theorem State.passHits_frame (s : State) (hp : p < 64) (old d : Nat) (down : Bool) (time : Nat) : FrameStep p hitRegs s (s.passHits p old d down time) := by
  have hcatch (u : State) (b : Bool) (h : FrameStep p hitRegs s u) : FrameStep p hitRegs s (if b = true then u.catchUp p else u) := by
    split
    · exact h.trans (u.catchUp_step hp).frame
    · exact h
  have hpass (c : Prop) [Decidable c] (n : Nat) (b : Bool) : FrameStep p hitRegs s (if c then s else s.takeHits p n time b) := by
    split
    · exact .refl
    · exact (s.takeHits_step hp ..).frame
  simp only [State.passHits]
  exact hcatch _ _ (hpass _ _ _)

/-- Speed, direction and compare after a word of position `x` (R218). -/
def State.wordMoved (s : State) (p x pb time : Nat) (prev : Option (Nat × Nat)) : State :=
  match prev with
  | none => if s.cmpNew p then s.catchUp p else s
  | some (y, t) =>
    let d := signed pb (x + 2 ^ pb - y % 2 ^ pb)
    let a := d.natAbs
    let s := if d = 0 then s
      else ((s.setPort p { s.port p with lastTick := s.tick }).setFbkStat p 1 (decide (d < 0))).setFbkStat p 2 false
    let s := (s.setSpeed p (a * 24000000000 * 256 / s.minus time t)).setFbkStat p 3 true
    s.passHits p y a (decide (d < 0)) time

/-- The registers a moved position may write besides itself. -/
abbrev movedRegs : List Nat := [0x4, 0x38, 0x3c, 0x44, 0x48, 0x5c, 0x78, 0xc4]

/-- PVALID and FRAME stay. -/
def StatKept (p : Nat) (s t : State) : Prop := t.fbkStat p 0 = s.fbkStat p 0 ∧ t.fbkStat p 4 = s.fbkStat p 4

theorem StatKept.trans {t u : State} (h : StatKept p s t) (g : StatKept p t u) : StatKept p s u := ⟨g.1.trans h.1, g.2.trans h.2⟩

theorem FbkStep.statKept {os : List Nat} {t : State} (h : FbkStep p os s t) (hn : 0x4 ∉ os) : StatKept p s t :=
  ⟨h.bit (o := 0x4) (by decide) hn 0, h.bit (o := 0x4) (by decide) hn 4⟩

theorem State.setFbkStat_kept (s : State) {i : Nat} (b : Bool) (h : i = 1 ∨ i = 2 ∨ i = 3) :
    FrameStep p movedRegs s (s.setFbkStat p i b) ∧ StatKept p s (s.setFbkStat p i b) :=
  ⟨(s.setBit_step (o := 0x4) (by decide) i b).frame (State.setBit_ports ..), State.bit_setBit_apart _ _ i 0 _ (by omega) (by omega),
    State.bit_setBit_apart _ _ i 4 _ (by omega) (by omega)⟩

theorem State.wordMoved_spec (s : State) (hp : p < 64) (x pb time : Nat) (prev : Option (Nat × Nat)) :
    FrameStep p movedRegs s (s.wordMoved p x pb time prev) ∧ StatKept p s (s.wordMoved p x pb time prev) := by
  have hkept {u v : State} (h : FrameStep p hitRegs u v) : FrameStep p movedRegs u v ∧ StatKept p u v :=
    ⟨h.mono (by decide), h.step.statKept (by decide)⟩
  have htrans {u v w : State} (h : FrameStep p movedRegs u v ∧ StatKept p u v) (g : FrameStep p movedRegs v w ∧ StatKept p v w) :
      FrameStep p movedRegs u w ∧ StatKept p u w := ⟨h.1.trans g.1, h.2.trans g.2⟩
  rcases prev with _ | ⟨y, t⟩
  · have heq : s.wordMoved p x pb time none = if s.cmpNew p then s.catchUp p else s := rfl
    rw [heq]
    split
    · exact hkept (s.catchUp_step hp).frame
    · exact ⟨.refl, rfl, rfl⟩
  · obtain ⟨d, hd⟩ : ∃ d, d = signed pb (x + 2 ^ pb - y % 2 ^ pb) := ⟨_, rfl⟩
    obtain ⟨k, hk⟩ : ∃ k, k = s.setPort p { s.port p with lastTick := s.tick } := ⟨_, rfl⟩
    have hsk : FrameStep p movedRegs s k ∧ StatKept p s k := by
      rw [hk]
      exact ⟨⟨s.setPort_step _, by rw [State.port_setPort, if_pos rfl]⟩, (s.setPort_step (os := []) _).statKept (by simp)⟩
    obtain ⟨u, hu⟩ : ∃ u, u = if d = 0 then s else (k.setFbkStat p 1 (decide (d < 0))).setFbkStat p 2 false := ⟨_, rfl⟩
    have hsu : FrameStep p movedRegs s u ∧ StatKept p s u := by
      rw [hu]
      split
      · exact ⟨.refl, rfl, rfl⟩
      · exact htrans hsk (htrans (k.setFbkStat_kept _ (.inl rfl)) (State.setFbkStat_kept _ _ (.inr (.inl rfl))))
    obtain ⟨v, hv⟩ : ∃ v, v = u.setSpeed p (d.natAbs * 24000000000 * 256 / u.minus time t) := ⟨_, rfl⟩
    have huv : FrameStep p movedRegs u v ∧ StatKept p u v := by
      have hstep : FbkStep p [0x38, 0x3c] u v := hv ▸ u.setSpeed_step (by decide) (by decide) _
      exact ⟨(hstep.mono (by decide)).frame (by rw [hv]; exact State.setPair_ports ..), hstep.statKept (by decide)⟩
    have heq : s.wordMoved p x pb time (some (y, t)) = (v.setFbkStat p 3 true).passHits p y d.natAbs (decide (d < 0)) time := by
      rw [hv, hu, hk, hd]
      rfl
    rw [heq]
    exact htrans (htrans hsu huv) (htrans (v.setFbkStat_kept true (.inr (.inr rfl))) (hkept (State.passHits_frame _ hp ..)))

end Word

end Sys2Proof.Machine

/-! O40: the end of a serial frame (R216-R218). -/

namespace Sys2Proof.Machine

open Sys2Proof

section FrameEnd
variable {s : State} {p r : Nat}

/-- The position a word reads (R218). -/
def State.wordPos (s : State) (p raw n : Nat) : Nat :=
  let pb := min n (s.ssiPos p)
  let top := raw % 2 ^ n / 2 ^ (n - pb)
  if s.bit (Reg.FBK_SSICFG p) 14 then grayDecode pb top else top

abbrev wordRegs : List Nat := movedRegs ++ latchRegs ++ [0x10, 0x14, 0x20, 0x24, 0xbc, 0xc0]

/-- What a word does (R218, R219). -/
structure WordTaken (p raw n time : Nat) (s t : State) : Prop where
  frame : FrameStep p wordRegs s t
  pos : t.fbkPos p = s.wordPos p raw n % 2 ^ 40
  valid : t.fbkStat p 0 = true
  busy : t.fbkStat p 4 = s.fbkStat p 4
  raw : t.pair (Reg.FBK_SSIRAW_L p) (Reg.FBK_SSIRAW_H p) = raw % 2 ^ n % 2 ^ 64
  time : t.pair (Reg.FBK_ETIME_L p) (Reg.FBK_ETIME_H p) = time % 2 ^ 64

theorem State.takeWord_spec (s : State) (hp : p < 64) (raw n time : Nat) : WordTaken p raw n time s (s.takeWord p raw n time) := by
  obtain ⟨x, hx⟩ : ∃ x, x = s.wordPos p raw n := ⟨_, rfl⟩
  obtain ⟨a, ha⟩ : ∃ a, a = s.setPair (Reg.FBK_SSIRAW_L p) (Reg.FBK_SSIRAW_H p) (raw % 2 ^ n) := ⟨_, rfl⟩
  obtain ⟨b, hb⟩ : ∃ b, b = a.setFbkPos p x := ⟨_, rfl⟩
  obtain ⟨c, hc⟩ : ∃ c, c = b.setFbkStat p 0 true := ⟨_, rfl⟩
  obtain ⟨d, hd⟩ : ∃ d, d = c.setPair (Reg.FBK_ETIME_L p) (Reg.FBK_ETIME_H p) time := ⟨_, rfl⟩
  obtain ⟨e, he⟩ : ∃ e, e = d.setPort p { a.port p with prevPos := some (x, time) } := ⟨_, rfl⟩
  have heq : s.takeWord p raw n time = (e.wordMoved p x (min n (s.ssiPos p)) time (a.port p).prevPos).latchFrame p time := by
    rw [he, hd, hc, hb, ha, hx]
    rfl
  have hsa : FrameStep p [0xbc, 0xc0] s a := ha ▸ s.setPair_frameStep (l := 0xbc) (h := 0xc0) (by decide) (by decide) _
  have hab : FrameStep p [0x10, 0x14] a b := hb ▸ a.setPair_frameStep (l := 0x10) (h := 0x14) (by decide) (by decide) _
  have hbc : FrameStep p [0x4] b c := hc ▸ (b.setBit_step (o := 0x4) (by decide) 0 true).frame (State.setBit_ports ..)
  have hcd : FrameStep p [0x20, 0x24] c d := hd ▸ c.setPair_frameStep (l := 0x20) (h := 0x24) (by decide) (by decide) _
  have hda : (d.port p).reqAt = (a.port p).reqAt := ((hcd.req).trans hbc.req).trans hab.req
  have hde : FrameStep p [] d e := ⟨he ▸ d.setPort_step _, by rw [he, State.port_setPort, if_pos rfl, hda]⟩
  have hraw : a.pair (Reg.FBK_SSIRAW_L p) (Reg.FBK_SSIRAW_H p) = raw % 2 ^ n % 2 ^ 64 := ha ▸ State.pair_setPair_mod _ (by simp) _
  have hpos : b.fbkPos p = x % 2 ^ 40 := hb ▸ a.fbkPos_setFbkPos x
  have hvalid : c.fbkStat p 0 = true := hc ▸ State.bit_setBit_same _ _ _ _ (by decide)
  have hbusy : c.fbkStat p 4 = b.fbkStat p 4 := hc ▸ State.bit_setBit_apart _ _ 0 4 _ (by decide) (by decide)
  have htime : d.pair (Reg.FBK_ETIME_L p) (Reg.FBK_ETIME_H p) = time % 2 ^ 64 := hd ▸ State.pair_setPair_mod _ (by simp) _
  obtain ⟨hmoved, hstat⟩ := e.wordMoved_spec hp x (min n (s.ssiPos p)) time (a.port p).prevPos
  obtain ⟨f, hf⟩ : ∃ f, f = e.wordMoved p x (min n (s.ssiPos p)) time (a.port p).prevPos := ⟨_, rfl⟩
  rw [← hf] at hmoved hstat heq
  have hlatch := f.latchFrame_frame hp time
  rw [heq]
  have hef : FbkStep p (movedRegs ++ latchRegs) d (f.latchFrame p time) :=
    (hde.step.mono (by simp)).trans ((hmoved.step.mono (by decide)).trans (hlatch.step.mono (by decide)))
  have hkept : StatKept p d (f.latchFrame p time) :=
    ((hde.step.statKept (by simp)).trans hstat).trans (hlatch.step.statKept (by decide))
  refine ⟨?_, ?_, ?_, ?_, ?_, ?_⟩
  · exact ((((hsa.mono (by decide)).trans (hab.mono (by decide))).trans (hbc.mono (by decide))).trans ((hcd.mono (by decide)).trans (hde.mono (by simp)))).trans
      ((hmoved.mono (by decide)).trans (hlatch.mono (by decide)))
  · rw [← hx, ← hpos]
    exact (hef.pair (l := 0x10) (g := 0x14) (by decide) (by decide) (by decide) (by decide)).trans
      ((hcd.step.pair (l := 0x10) (g := 0x14) (by decide) (by decide) (by decide) (by decide)).trans
        (hbc.step.pair (l := 0x10) (g := 0x14) (by decide) (by decide) (by decide) (by decide)))
  · exact hkept.1.trans ((hcd.step.bit (o := 0x4) (by decide) (by decide) 0).trans hvalid)
  · exact (hkept.2.trans (hcd.step.bit (o := 0x4) (by decide) (by decide) 4)).trans (hbusy.trans
      ((hab.step.bit (o := 0x4) (by decide) (by decide) 4).trans (hsa.step.bit (o := 0x4) (by decide) (by decide) 4)))
  · rw [← hraw]
    exact (hef.pair (l := 0xbc) (g := 0xc0) (by decide) (by decide) (by decide) (by decide)).trans
      ((hcd.step.pair (l := 0xbc) (g := 0xc0) (by decide) (by decide) (by decide) (by decide)).trans
        ((hbc.step.pair (l := 0xbc) (g := 0xc0) (by decide) (by decide) (by decide) (by decide)).trans
          (hab.step.pair (l := 0xbc) (g := 0xc0) (by decide) (by decide) (by decide) (by decide))))
  · exact (hef.pair (l := 0x20) (g := 0x24) (by decide) (by decide) (by decide) (by decide)).trans htime

/-! ### The end of a frame (R216-R218) -/

/-- The state in which a frame is judged: the data line's transitions taken in. -/
def State.lined (s : State) (p r : Nat) (rises falls : List Nat) : State :=
  s.setPort p { s.port p with line := s.frameLine p r rises falls }

theorem exec_ssiFrameEnd {rises falls : List Nat} (hp : p < 64) : exec (.ssiFrameEnd p rises falls) s = .next (s.frameEnd p rises falls) :=
  onUnit_of (decide_eq_true hp) _

/-- The time at which the last bit of a frame has been sampled. -/
def State.frameDone (s : State) (p r ld : Nat) : Nat := s.plus r (s.ssiWord p * s.ssiClk p * 16 + ld)

/-- The state of a frame's port as its word is taken. -/
def State.frameTaken (s u : State) (p ld : Nat) : State :=
  let v := u.setFld (Reg.FBK_LDLY p) 0 24 ld
  (v.setPort p { s.port p with reqAt := none, line := [], ended := some v.tick }).setFbkStat p 4 false

/-- The word, and what takes the frame back. -/
def State.frameEnded (s u : State) (p r ld : Nat) : State :=
  let t := (s.frameTaken u p ld).takeWord p (u.lineWord p r ld) (u.ssiWord p) (u.plus r (ld / 2))
  t.setPort p { t.port p with undo := some (t.afterFrame p (u.beforeFrame p (u.plus r (ld / 2)))) }

/-- The end of a frame requested at a time, or of none. -/
def State.frameEndOf (s : State) (p : Nat) (rises falls : List Nat) (req : Option Nat) : State :=
  match req with
  | none => s
  | some r =>
    let u := s.lined p r rises falls
    let ld := u.lineDelay p r
    if u.fbkOn p 2 = false ∨ u.reached (u.frameDone p r ld) = false then s
    else if u.dataFault p then s.dropFrame p
    else s.frameEnded u p r ld

theorem State.frameEnd_eq_of (s : State) (p : Nat) (rises falls : List Nat) :
    s.frameEnd p rises falls = s.frameEndOf p rises falls (s.port p).reqAt := rfl

theorem State.frameEnd_eq {rises falls : List Nat} (hreq : (s.port p).reqAt = some r) (hon : s.fbkOn p 2 = true) :
    let u := s.lined p r rises falls
    u.reached (u.frameDone p r (u.lineDelay p r)) = true → s.frameEnd p rises falls =
      if u.dataFault p then s.dropFrame p else s.frameEnded u p r (u.lineDelay p r) := by
  intro u hdone
  have hno : ¬(u.fbkOn p 2 = false ∨ u.reached (u.frameDone p r (u.lineDelay p r)) = false) := by
    have hon' : u.fbkOn p 2 = true := by
      have hport : (u.port p).base = (s.port p).base ∧ (u.port p).count = (s.port p).count := by
        rw [show u.port p = _ from (s.port_setPort ..).trans (if_pos rfl)]
        exact ⟨rfl, rfl⟩
      rw [← hon, State.fbkOn, State.fbkOn, hport.1, hport.2]
      rfl
    rintro (h | h)
    · rw [hon'] at h
      exact absurd h (by decide)
    · rw [hdone] at h
      exact absurd h (by decide)
  rw [State.frameEnd_eq_of, hreq]
  exact if_neg hno

end FrameEnd

end Sys2Proof.Machine

/-! O40: what the end of a serial frame leaves (R216-R218). -/

namespace Sys2Proof.Machine

open Sys2Proof

section Frame
variable {s : State} {p r : Nat} {rises falls : List Nat}

theorem State.frameLine_own (s : State) (p r : Nat) : s.frameLine p r [] [] = changesFrom true (s.port p).line := rfl

theorem State.lined_spec (s : State) (p r : Nat) (rises falls : List Nat) : FbkStep p [] s (s.lined p r rises falls) ∧
    (s.lined p r rises falls).port p = { s.port p with line := s.frameLine p r rises falls } :=
  ⟨s.setPort_step _, (s.port_setPort ..).trans (if_pos rfl)⟩

theorem State.lineDelay_lt (s : State) (p r : Nat) : s.lineDelay p r < 2 ^ 24 := by
  rw [State.lineDelay]
  split
  · exact bits_lt _ 0 24
  · exact Nat.mod_lt _ (by decide)

theorem State.lineDelay_kept (s : State) (p r : Nat) (h : s.bit (Reg.FBK_SSICFG p) 15 = true ∨ s.lineDelays p r = []) :
    s.lineDelay p r = s.fld (Reg.FBK_LDLY p) 0 24 := by
  obtain ⟨v, hv⟩ : ∃ v, v = s.fld (Reg.FBK_LDLY p) 0 24 := ⟨_, rfl⟩
  have hlt : v < 2 ^ 24 := hv ▸ bits_lt _ 0 24
  rw [State.lineDelay, ← hv]
  rcases h with h | h
  · exact if_pos h
  · split
    · rfl
    · rw [h]
      exact Nat.mod_eq_of_lt hlt

theorem State.dataFault_lined (hreq : (s.port p).reqAt = some r) (hmode : s.fbkMode p = 2) :
    (s.lined p r rises falls).dataFault p = s.bit (Reg.FBK_STATUS p) 9 := by
  obtain ⟨hstep, hport⟩ := s.lined_spec p r rises falls
  have hm : (s.lined p r rises falls).fbkMode p = 2 := (hstep.fld (o := 0x8) (by decide) (by simp) 0 2).trans hmode
  rw [State.dataFault, hm, hport, hstep.bit (o := 0x4) (by decide) (by simp) 9, hreq]
  rfl

theorem State.fbkMode_of_fbkOn {m : Nat} (h : s.fbkOn p m = true) : s.fbkMode p = m := by
  simp only [State.fbkOn, Bool.and_eq_true, decide_eq_true_eq] at h
  exact h.1.1.1

theorem State.frameDone_lined (ld : Nat) : (s.lined p r rises falls).reached ((s.lined p r rises falls).frameDone p r ld) =
    s.reached (s.frameDone p r ld) := rfl

/-- A frame whose data pair has faulted is dropped (R218). -/
theorem State.frameEnd_dropped (hp : p < 64) (hreq : (s.port p).reqAt = some r) (hon : s.fbkOn p 2 = true)
    (hdone : s.reached (s.frameDone p r ((s.lined p r rises falls).lineDelay p r)) = true) (hfault : s.bit (Reg.FBK_STATUS p) 9 = true) :
    let t := s.frameEnd p rises falls
    (t.port p).reqAt = none ∧ t.fbkStat p 4 = false ∧ t.bit (Reg.FBK_ERR p) 7 = true ∧ t.fbkPos p = s.fbkPos p ∧
      t.fbkStat p 0 = s.fbkStat p 0 ∧ t.tb = s.tb ∧ t.cuffs = s.cuffs := by
  intro t
  have heq : t = s.dropFrame p := by
    refine (State.frameEnd_eq hreq hon ((State.frameDone_lined _).trans hdone)).trans (if_pos ?_)
    rw [State.dataFault_lined hreq (s.fbkMode_of_fbkOn hon), hfault]
  obtain ⟨hstep, hidle, herr, -, hframe, hstat⟩ := State.dropFrame_spec (s := s) hp
  rw [← heq] at hstep hidle herr hframe hstat
  exact ⟨hidle, hframe, herr, hstep.pair (l := 0x10) (g := 0x14) (by decide) (by decide) (by decide) (by decide), hstat 0 (by decide),
    hstep.time.1, hstep.cuffs⟩

/-- What the port is as a frame's word is taken. -/
theorem State.frameTaken_spec {u : State} (hu : FbkStep p [] s u) {ld : Nat} (hld : ld < 2 ^ 24) :
    FbkStep p [0x4, 0xb8] s (s.frameTaken u p ld) ∧ ((s.frameTaken u p ld).port p).reqAt = none ∧
      (s.frameTaken u p ld).fld (Reg.FBK_LDLY p) 0 24 = ld ∧ (s.frameTaken u p ld).fbkStat p 4 = false := by
  obtain ⟨v, hv⟩ : ∃ v, v = u.setFld (Reg.FBK_LDLY p) 0 24 ld := ⟨_, rfl⟩
  obtain ⟨w, hw⟩ : ∃ w, w = v.setPort p { s.port p with reqAt := none, line := [], ended := some v.tick } := ⟨_, rfl⟩
  have heq : s.frameTaken u p ld = w.setFbkStat p 4 false := by rw [hw, hv]; rfl
  have huv : FbkStep p [0xb8] u v := hv ▸ u.setFld_step (o := 0xb8) (by decide) 0 24 ld
  have hvw : FbkStep p [] v w := hw ▸ v.setPort_step _
  have hset : FbkStep p [0x4] w (w.setFbkStat p 4 false) := w.setBit_step (o := 0x4) (by decide) 4 false
  have hdelay : v.fld (Reg.FBK_LDLY p) 0 24 = ld := by
    rw [hv, State.fld_setFld_same _ _ _ _ _ (by decide), Nat.mod_eq_of_lt hld]
  have hport : (w.port p).reqAt = none := by rw [hw, State.port_setPort, if_pos rfl]
  rw [heq]
  refine ⟨((hu.mono (by simp)).trans (huv.mono (by decide))).trans ((hvw.mono (by simp)).trans (hset.mono (by decide))), ?_, ?_,
    State.bit_setBit_same _ _ _ _ (by decide)⟩
  · rw [← hport]
    exact congrArg Fbk.reqAt (State.port_of_ports (State.setBit_ports ..) p)
  · exact (hset.fld (o := 0xb8) (by decide) (by decide) 0 24).trans ((hvw.fld (o := 0xb8) (by decide) (by simp) 0 24).trans hdelay)

theorem State.wordPos_lt (s : State) (p raw n : Nat) : s.wordPos p raw n < 2 ^ 40 ∧
    (s.bit (Reg.FBK_SSICFG p) 14 = false → s.wordPos p raw n = raw % 2 ^ n / 2 ^ (n - min n (s.ssiPos p))) ∧
    (s.bit (Reg.FBK_SSICFG p) 14 = true →
      Nat.xor (s.wordPos p raw n) (s.wordPos p raw n / 2) = raw % 2 ^ n / 2 ^ (n - min n (s.ssiPos p))) := by
  obtain ⟨m, hm⟩ : ∃ m, m = min n (s.ssiPos p) := ⟨_, rfl⟩
  have hle : m ≤ 40 := by
    rw [hm, State.ssiPos]
    omega
  have hpow : 2 ^ m ≤ 2 ^ 40 := Nat.pow_le_pow_right (by decide) hle
  obtain ⟨top, htop⟩ : ∃ top, top = raw % 2 ^ n / 2 ^ (n - m) := ⟨_, rfl⟩
  have hlt : top < 2 ^ m := by
    rw [htop]
    refine Nat.div_lt_of_lt_mul ?_
    rw [← Nat.pow_add, Nat.sub_add_cancel (by omega)]
    exact Nat.mod_lt _ (Nat.two_pow_pos n)
  obtain ⟨hglt, hgray⟩ := grayDecode_spec m top hlt
  have heq : s.wordPos p raw n = if s.bit (Reg.FBK_SSICFG p) 14 then grayDecode m top else top := by
    rw [htop, hm]
    rfl
  rw [heq, ← hm, ← htop]
  by_cases hg : s.bit (Reg.FBK_SSICFG p) 14 = true
  · rw [if_pos hg]
    exact ⟨by omega, fun h => by simp [hg] at h, fun _ => hgray⟩
  · rw [if_neg hg]
    exact ⟨by omega, fun _ => rfl, fun h => absurd h hg⟩

/-- The word's bits are the levels of the data line (R216, R218). -/
theorem State.lineWord_spec (u : State) (p r ld : Nat) : u.lineWord p r ld < 2 ^ u.ssiWord p ∧
    ∀ j < u.ssiWord p, bitAt (u.lineWord p r ld) (u.ssiWord p - 1 - j) = u.lineAt p (u.plus r ((j + 1) * u.ssiClk p * 16 + ld)) :=
  foldBits_spec (fun k => u.lineAt p (u.plus r ((k + 1) * u.ssiClk p * 16 + ld))) (u.ssiWord p)

/-- What a frame that is not dropped does (R216-R218). -/
structure FrameEnded (p r ld raw : Nat) (s t : State) : Prop where
  idle : (t.port p).reqAt = none
  busy : t.fbkStat p 4 = false
  undo : ∃ g, (t.port p).undo = some g ∧ g.pos = s.fbkPos p ∧ g.time = s.plus r (ld / 2) ∧ g.posStands = false ∧ g.cmpStands = false
  valid : t.fbkStat p 0 = true
  word : t.pair (Reg.FBK_SSIRAW_L p) (Reg.FBK_SSIRAW_H p) = raw
  time : t.pair (Reg.FBK_ETIME_L p) (Reg.FBK_ETIME_H p) = s.plus r (ld / 2) % 2 ^ 64
  delay : t.fld (Reg.FBK_LDLY p) 0 24 = ld
  plain : s.bit (Reg.FBK_SSICFG p) 14 = false → t.fbkPos p = raw / 2 ^ (s.ssiWord p - s.ssiPos p)
  gray : s.bit (Reg.FBK_SSICFG p) 14 = true → Nat.xor (t.fbkPos p) (t.fbkPos p / 2) = raw / 2 ^ (s.ssiWord p - s.ssiPos p)
  tb : t.tb = s.tb
  cuffs : t.cuffs = s.cuffs

theorem State.frameEnded_spec (hp : p < 64) : let u := s.lined p r rises falls
    FrameEnded p r (u.lineDelay p r) (u.lineWord p r (u.lineDelay p r)) s (s.frameEnded u p r (u.lineDelay p r)) := by
  intro u
  obtain ⟨hu, -⟩ := s.lined_spec p r rises falls
  have hulx : u = s.lined p r rises falls := rfl
  rw [← hulx] at hu
  have hplus (a d : Nat) : u.plus a d = s.plus a d := rfl
  clear_value u
  obtain ⟨ld, hld⟩ : ∃ ld, ld = u.lineDelay p r := ⟨_, rfl⟩
  have hldlt : ld < 2 ^ 24 := hld ▸ u.lineDelay_lt p r
  obtain ⟨raw, hraw⟩ : ∃ raw, raw = u.lineWord p r ld := ⟨_, rfl⟩
  have hword : u.ssiWord p = s.ssiWord p := by rw [State.ssiWord, State.ssiWord, hu.fld (o := 0xa8) (by decide) (by simp)]
  have hrawlt : raw < 2 ^ s.ssiWord p := hword ▸ hraw ▸ (u.lineWord_spec p r ld).1
  obtain ⟨v, hv⟩ : ∃ v, v = s.frameTaken u p ld := ⟨_, rfl⟩
  obtain ⟨hsv, hidle, hdelay, hbusy⟩ := State.frameTaken_spec (s := s) (p := p) hu hldlt
  rw [← hv] at hsv hidle hdelay hbusy
  obtain ⟨w, hw⟩ : ∃ w, w = v.takeWord p raw (s.ssiWord p) (s.plus r (ld / 2)) := ⟨_, rfl⟩
  obtain ⟨hframe, hpos, hvalid, hstat, hrawreg, htime⟩ := v.takeWord_spec hp raw (s.ssiWord p) (s.plus r (ld / 2))
  rw [← hw] at hframe hpos hvalid hstat hrawreg htime
  obtain ⟨g, hg⟩ : ∃ g, g = w.afterFrame p (u.beforeFrame p (s.plus r (ld / 2))) := ⟨_, rfl⟩
  obtain ⟨t, ht⟩ : ∃ t, t = w.setPort p { w.port p with undo := some g } := ⟨_, rfl⟩
  have heq : s.frameEnded u p r ld = t := by
    rw [ht, hg, hw, hv, hraw, ← hword, ← hplus]
    rfl
  have hwt : FbkStep p [] w t := ht ▸ w.setPort_step _
  have htport : t.port p = { w.port p with undo := some g } := ht ▸ (State.port_setPort ..).trans (if_pos rfl)
  have hssi : v.bit (Reg.FBK_SSICFG p) 14 = s.bit (Reg.FBK_SSICFG p) 14 := hsv.bit (o := 0xa8) (by decide) (by decide) 14
  have hposb : v.ssiPos p = s.ssiPos p := by
    rw [State.ssiPos, State.ssiPos, State.ssiWord, State.ssiWord, hsv.fld (o := 0xa8) (by decide) (by decide) 0 6,
      hsv.fld (o := 0xa8) (by decide) (by decide) 8 6]
  have hlen : 8 ≤ s.ssiWord p ∧ s.ssiWord p ≤ 48 := by rw [State.ssiWord]; omega
  have hmin : min (s.ssiWord p) (s.ssiPos p) = s.ssiPos p := by rw [State.ssiPos]; omega
  obtain ⟨hlt, hplain, hgray⟩ := v.wordPos_lt p raw (s.ssiWord p)
  rw [hssi, hposb, hmin, Nat.mod_eq_of_lt hrawlt] at hplain hgray
  rw [Nat.mod_eq_of_lt hlt] at hpos
  have htpos : t.fbkPos p = v.wordPos p raw (s.ssiWord p) :=
    (hwt.pair (l := 0x10) (g := 0x14) (by decide) (by decide) (by simp) (by simp)).trans hpos
  have hraw64 : raw % 2 ^ s.ssiWord p % 2 ^ 64 = raw := by
    rw [Nat.mod_eq_of_lt hrawlt, Nat.mod_eq_of_lt (hrawlt.trans (Nat.pow_lt_pow_right (by decide) (by omega)))]
  rw [← hld, ← hraw, heq]
  refine ⟨?_, ?_, ⟨g, by rw [htport], ?_, by rw [hg]; rfl, by rw [hg]; rfl, by rw [hg]; rfl⟩, ?_, ?_, ?_, ?_, fun h => ?_, fun h => ?_, ?_, ?_⟩
  · rw [htport]
    exact hframe.req.trans hidle
  · exact (hwt.bit (o := 0x4) (by decide) (by simp) 4).trans (hstat.trans hbusy)
  · have hgpos : g.pos = u.fbkPos p := by rw [hg]; rfl
    exact hgpos.trans (hu.pair (l := 0x10) (g := 0x14) (by decide) (by decide) (by simp) (by simp))
  · exact (hwt.bit (o := 0x4) (by decide) (by simp) 0).trans hvalid
  · exact (hwt.pair (l := 0xbc) (g := 0xc0) (by decide) (by decide) (by simp) (by simp)).trans (hrawreg.trans hraw64)
  · exact (hwt.pair (l := 0x20) (g := 0x24) (by decide) (by decide) (by simp) (by simp)).trans htime
  · exact (hwt.fld (o := 0xb8) (by decide) (by simp) 0 24).trans ((hframe.step.fld (o := 0xb8) (by decide) (by decide) 0 24).trans hdelay)
  · rw [htpos]
    exact hplain h
  · rw [htpos]
    exact hgray h
  · exact hwt.time.1.trans (hframe.step.time.1.trans hsv.time.1)
  · exact hwt.cuffs.trans (hframe.step.cuffs.trans hsv.cuffs)

end Frame

end Sys2Proof.Machine

/-! O40: a frame taken back (R207, R218). -/

namespace Sys2Proof.Machine

open Sys2Proof

/-! ### Registers put back whole -/

theorem foldSetN_reg (l : List (Nat × Nat)) {k : Nat} (h : ∀ e ∈ l, e.1 ≠ k) : ∀ s : State, (l.foldl (fun s e => s.setN e.1 e.2) s).reg k = s.reg k := by
  induction l with
  | nil => exact fun _ => rfl
  | cons e l ih =>
    intro s
    exact (ih (fun x hx => h x (List.mem_cons_of_mem _ hx)) _).trans (State.reg_setN_other s (Ne.symm (h e List.mem_cons_self)) _)

theorem foldSetN_regN : ∀ (ks vs : List Nat), ks.Nodup → ks.length = vs.length → ∀ (s : State) (i : Nat), i < ks.length →
    ((ks.zip vs).foldl (fun s e => s.setN e.1 e.2) s).regN (ks.getD i 0) = vs.getD i 0 % 2 ^ 32 := by
  intro ks
  induction ks with
  | nil => exact fun _ _ _ _ i hi => absurd hi (Nat.not_lt_zero i)
  | cons k ks ih =>
    intro vs hnd hlen s i hi
    rcases vs with _ | ⟨v, vs⟩
    · exact absurd hlen (by simp)
    obtain ⟨hk, hnd'⟩ := List.nodup_cons.mp hnd
    rw [List.zip_cons_cons, List.foldl_cons]
    rcases i with _ | i
    · have hother : ∀ e ∈ ks.zip vs, e.1 ≠ k := fun e he h => hk (h ▸ (List.of_mem_zip he).1)
      rw [List.getD_cons_zero, List.getD_cons_zero, State.regN_of_reg (foldSetN_reg _ hother _), State.regN_setN_same]
    · rw [List.getD_cons_succ, List.getD_cons_succ]
      exact ih vs hnd' (by simpa using hlen) _ i (by simpa using hi)

theorem frameRegs_nodup (p : Nat) : (frameRegs p).Nodup := by
  rw [frameRegs_eq]
  refine List.Nodup.map (fun a b h => ?_) (by decide)
  simp only [fbkReg] at h
  omega

section Undo
variable {s : State} {p : Nat} {f : Frame}

/-- Taking back in full (R207, R218): position, CMP, EN, hits, the line delay and the registers. -/
structure ValuesBack (p : Nat) (f : Frame) (s t : State) : Prop where
  basic : ValuesUndone p f s t
  cmp : f.cmpStands = true → t.fbkCmp p = s.fbkCmp p
  en : f.en = true → t.bit (Reg.FBK_CMPCFG p) 0 = true
  hits : t.fld (Reg.FBK_HSTAT p) 16 16 = (s.fld (Reg.FBK_HSTAT p) 16 16 + 2 ^ 16 - f.hitN) % 2 ^ 16
  delay : s.fld (Reg.FBK_LDLY p) 0 24 = f.ldly.2 → t.fld (Reg.FBK_LDLY p) 0 24 = f.ldly.1 % 2 ^ 24
  regs : f.regs.length = 12 → ∀ i < 12, t.regN ((frameRegs p).getD i 0) = f.regs.getD i 0 % 2 ^ 32
  stat : t.reg (Reg.FBK_STATUS p) = s.reg (Reg.FBK_STATUS p)

theorem frameRegs_getD (p : Nat) {i : Nat} (hi : i < 12) : ∃ o ∈ frameOffsets, (frameRegs p).getD i 0 = fbkReg p o := by
  have hmem : (frameRegs p).getD i 0 ∈ frameRegs p := by
    have hlen : i < (frameRegs p).length := hi
    rw [List.getD_eq_getElem _ _ hlen]
    exact List.getElem_mem hlen
  rw [frameRegs_eq] at hmem ⊢
  obtain ⟨o, ho, he⟩ := List.mem_map.mp hmem
  exact ⟨o, ho, he.symm⟩

/-- The later steps of taking back keep the registers put back whole. -/
theorem FbkStep.frameRegs_kept {os : List Nat} {t : State} (h : FbkStep p os s t) (hos : ∀ o ∈ os, o ∉ frameOffsets) {i : Nat} (hi : i < 12) :
    t.regN ((frameRegs p).getD i 0) = s.regN ((frameRegs p).getD i 0) := by
  obtain ⟨o, ho, he⟩ := frameRegs_getD p hi
  have hlt : o < 0x100 := (by decide : ∀ x ∈ frameOffsets, x < 0x100) o ho
  rw [he]
  exact h.regN hlt fun hm => hos o hm ho

theorem State.undoValues_back (s : State) (p : Nat) (f : Frame) : ValuesBack p f s (s.undoValues p f) := by
  obtain ⟨u, hu⟩ : ∃ u, u = ((frameRegs p).zip f.regs).foldl (fun s e => s.setN e.1 e.2) s := ⟨_, rfl⟩
  have hfs := (State.putFrameRegs_step (p := p) s f.regs).1
  obtain ⟨v, hv⟩ : ∃ v, v = if f.posStands then u else u.setFbkPos p f.pos := ⟨_, rfl⟩
  have hps := (State.undoPos_spec hv).1
  obtain ⟨w, hw⟩ : ∃ w, w = if f.cmpStands then v else v.setFbkCmp p (v.fbkCmp p + posMod - f.cmp) := ⟨_, rfl⟩
  have hcs := (State.undoCmp_spec hw).1
  obtain ⟨x, hx⟩ : ∃ x, x = if f.en then w.setBoth (Reg.FBK_CMPCFG p) 0 1 1 else w := ⟨_, rfl⟩
  obtain ⟨y, hy⟩ : ∃ y, y = if x.fld (Reg.FBK_LDLY p) 0 24 = f.ldly.2 then x.setFld (Reg.FBK_LDLY p) 0 24 f.ldly.1 else x := ⟨_, rfl⟩
  obtain ⟨t, ht⟩ : ∃ t, t = y.setFld (Reg.FBK_HSTAT p) 16 16 (y.fld (Reg.FBK_HSTAT p) 16 16 + 2 ^ 16 - f.hitN) := ⟨_, rfl⟩
  have heq : s.undoValues p f = t := by rw [ht, hy, hx, hw, hv, hu]; rfl
  have hbasic := State.undoValues_spec (p := p) s f
  rw [heq] at hbasic ⊢
  rw [← hu] at hfs
  have hxs : FbkStep p [0x5c] w x ∧ (f.en = true → x.bit (Reg.FBK_CMPCFG p) 0 = true) := by
    rw [hx]
    split
    · refine ⟨w.setBoth_step (o := 0x5c) (by decide) 0 1 1, fun _ => ?_⟩
      rw [State.bit_eq_fld, (State.setBoth_fld w (Reg.FBK_CMPCFG p) 1 (by decide)).1]
      decide
    · next h => exact ⟨.refl, fun he => absurd he h⟩
  have hys : FbkStep p [0xb8] x y ∧ (x.fld (Reg.FBK_LDLY p) 0 24 = f.ldly.2 → y.fld (Reg.FBK_LDLY p) 0 24 = f.ldly.1 % 2 ^ 24) := by
    rw [hy]
    split
    · exact ⟨x.setFld_step (o := 0xb8) (by decide) 0 24 _, fun _ => State.fld_setFld_same _ _ _ _ _ (by decide)⟩
    · next h => exact ⟨.refl, fun he => absurd he h⟩
  have hts : FbkStep p [0x78] y t := ht ▸ y.setFld_step (o := 0x78) (by decide) 16 16 _
  have hmid : FbkStep p [0x10, 0x14, 0x44, 0x48, 0x5c] u x := ((hps.mono (by decide)).trans (hcs.mono (by decide))).trans (hxs.1.mono (by decide))
  have hend : FbkStep p [0x10, 0x14, 0x44, 0x48, 0x5c, 0x78, 0xb8] u t := ((hmid.mono (by decide)).trans (hys.1.mono (by decide))).trans (hts.mono (by decide))
  refine ⟨hbasic, fun hc => ?_, fun he => ?_, ?_, fun hd => ?_, fun hlen i hi => ?_, ?_⟩
  · have hwv : w = v := by rw [hw, if_pos hc]
    have hvt : FbkStep p [0x5c, 0x78, 0xb8] v t := by
      rw [hwv] at hxs
      exact ((hxs.1.mono (by decide)).trans (hys.1.mono (by decide))).trans (hts.mono (by decide))
    exact (hvt.pair (l := 0x44) (g := 0x48) (by decide) (by decide) (by decide) (by decide)).trans
      ((hps.pair (l := 0x44) (g := 0x48) (by decide) (by decide) (by decide) (by decide)).trans
        (hfs.pair (l := 0x44) (g := 0x48) (by decide) (by decide) (by decide) (by decide)))
  · exact (hts.bit (o := 0x5c) (by decide) (by decide) 0).trans ((hys.1.bit (o := 0x5c) (by decide) (by decide) 0).trans (hxs.2 he))
  · have hcnt : y.fld (Reg.FBK_HSTAT p) 16 16 = s.fld (Reg.FBK_HSTAT p) 16 16 :=
      (hys.1.fld (o := 0x78) (by decide) (by decide) 16 16).trans ((hmid.fld (o := 0x78) (by decide) (by decide) 16 16).trans
        (hfs.fld (o := 0x78) (by decide) (by decide) 16 16))
    rw [ht, State.fld_setFld_same _ _ _ _ _ (by decide), hcnt]
  · have hxd : x.fld (Reg.FBK_LDLY p) 0 24 = s.fld (Reg.FBK_LDLY p) 0 24 :=
      (hmid.fld (o := 0xb8) (by decide) (by decide) 0 24).trans (hfs.fld (o := 0xb8) (by decide) (by decide) 0 24)
    exact (hts.fld (o := 0xb8) (by decide) (by decide) 0 24).trans (hys.2 (hxd.trans hd))
  · rw [hend.frameRegs_kept (by decide) hi, hu]
    exact foldSetN_regN (frameRegs p) f.regs (frameRegs_nodup p) hlen.symm s i hi
  · exact (hend.reg 0x4 (by decide) (by decide)).trans (hfs.reg 0x4 (by decide) (by decide))

/-- SPEED is the third of the registers put back whole. -/
theorem State.clearSpeed_frameRegs (v : State) (p : Nat) {i : Nat} (hi : i < 12) :
    (v.setPair (Reg.FBK_SPEED_L p) (Reg.FBK_SPEED_H p) 0).regN ((frameRegs p).getD i 0) =
      if i = 2 ∨ i = 3 then 0 else v.regN ((frameRegs p).getD i 0) := by
  have hl : (frameRegs p).getD 2 0 = Reg.FBK_SPEED_L p ∧ (frameRegs p).getD 3 0 = Reg.FBK_SPEED_H p := ⟨rfl, rfl⟩
  have hlow : (v.setPair (Reg.FBK_SPEED_L p) (Reg.FBK_SPEED_H p) 0).regN (Reg.FBK_SPEED_L p) = 0 := by
    rw [State.setPair, State.regN_of_reg (State.reg_setN_other _ (by simp) _), State.regN_setN_same, Nat.zero_mod, Nat.zero_mod]
  have hhigh : (v.setPair (Reg.FBK_SPEED_L p) (Reg.FBK_SPEED_H p) 0).regN (Reg.FBK_SPEED_H p) = 0 := by
    rw [State.setPair, State.regN_setN_same, Nat.zero_div, Nat.zero_mod]
  by_cases hspeed : i = 2 ∨ i = 3
  · rw [if_pos hspeed]
    rcases hspeed with rfl | rfl
    · exact hlow
    · exact hhigh
  · rw [if_neg hspeed]
    have hinj (m : Nat) (hm : m < 12) (hne : i ≠ m) : (frameRegs p).getD i 0 ≠ (frameRegs p).getD m 0 := by
      have hli : i < (frameRegs p).length := hi
      have hlm : m < (frameRegs p).length := hm
      rw [List.getD_eq_getElem _ _ hli, List.getD_eq_getElem _ _ hlm]
      exact fun h => hne ((frameRegs_nodup p).getElem_inj_iff.mp h)
    refine State.regN_of_reg (State.reg_setPair_other _ ?_ ?_ _)
    · exact hl.1 ▸ hinj 2 (by decide) fun h => hspeed (.inl h)
    · exact hl.2 ▸ hinj 3 (by decide) fun h => hspeed (.inr h)

/-- A field of four status bits, bit by bit. -/
theorem State.bit_setFld_four (s : State) (k v : Nat) {i : Nat} (hi : i < 4) : (s.setFld k 0 4 v).bit k i = bitAt v i := by
  have hfld : (s.setFld k 0 4 v).fld k 0 4 = v % 2 ^ 4 := State.fld_setFld_same _ _ _ _ _ (by decide)
  have hbits : bits v 0 4 = v % 2 ^ 4 := by rw [bits, Nat.pow_zero, Nat.div_one]
  rw [State.bit, ← bitAt_bits_four _ hi, ← bitAt_bits_four v hi, hbits, ← hfld]
  rfl

/-- What taking back a frame leaves (R218). -/
structure FrameUndone (p : Nat) (f : Frame) (s t : State) : Prop where
  step : FbkStep p undoOffsets s t
  port : t.port p = { s.port p with ended := none, undo := none, quad := none, prevPos := f.prevPos, lastTick := f.lastTick,
                                    lastCount := f.lastCount, trail := if f.posStands then (s.port p).trail else f.trail,
                                    hits := (s.port p).hits.filter (· ≠ f.time), latches := f.latches ++ (s.port p).latches }
  pos : t.fbkPos p = if f.posStands then s.fbkPos p else f.pos % 2 ^ 40
  cmp : t.fbkCmp p = if f.cmpStands then s.fbkCmp p else (s.fbkCmp p + 2 ^ 40 - f.cmp) % 2 ^ 40
  en : f.en = true → t.bit (Reg.FBK_CMPCFG p) 0 = true
  hits : t.fld (Reg.FBK_HSTAT p) 16 16 = (s.fld (Reg.FBK_HSTAT p) 16 16 + 2 ^ 16 - f.hitN) % 2 ^ 16
  delay : s.fld (Reg.FBK_LDLY p) 0 24 = f.ldly.2 → t.fld (Reg.FBK_LDLY p) 0 24 = f.ldly.1 % 2 ^ 24
  regs : f.regs.length = 12 → ∀ i < 12, t.regN ((frameRegs p).getD i 0) =
    if s.fbkStat p 2 = true ∧ (i = 2 ∨ i = 3) then 0 else f.regs.getD i 0 % 2 ^ 32
  stat : t.fbkStat p 1 = bitAt f.stat 1 ∧ t.fbkStat p 2 = (s.fbkStat p 2 || bitAt f.stat 2) ∧ t.fbkStat p 3 = bitAt f.stat 3 ∧
    t.fbkStat p 0 = (s.fbkStat p 0 && (bitAt f.stat 0 || f.validStands))

theorem State.undoFrame_back (s : State) (p : Nat) (f : Frame) : FrameUndone p f s (s.undoFrame p f) := by
  obtain ⟨u, hu⟩ : ∃ u, u = s.undoValues p f := ⟨_, rfl⟩
  obtain ⟨⟨hus, hup, hpos, hcmp⟩, hcmps, hen, hhits, hdelay, hregs, hstat⟩ := s.undoValues_back p f
  rw [← hu] at hus hup hpos hcmp hcmps hen hhits hdelay hregs hstat
  have hsb (i : Nat) : u.fbkStat p i = s.fbkStat p i := State.bit_of_reg hstat i
  obtain ⟨a, ha⟩ : ∃ a, a = u.setFld (Reg.FBK_STATUS p) 0 4 f.stat := ⟨_, rfl⟩
  obtain ⟨b, hb⟩ : ∃ b, b = a.setFbkStat p 0 (s.fbkStat p 0 && (bitAt f.stat 0 || f.validStands)) := ⟨_, rfl⟩
  obtain ⟨v, hv⟩ : ∃ v, v = b.setFbkStat p 2 (s.fbkStat p 2 || bitAt f.stat 2) := ⟨_, rfl⟩
  have hastat (i : Nat) (hi : i < 4) : a.fbkStat p i = bitAt f.stat i := ha ▸ u.bit_setFld_four _ _ hi
  have hbstat (i : Nat) (hi : i ≠ 0) : b.fbkStat p i = a.fbkStat p i := hb ▸ State.bit_setBit_apart _ _ 0 i _ (by decide) hi
  have hb0 : b.fbkStat p 0 = (s.fbkStat p 0 && (bitAt f.stat 0 || f.validStands)) := hb ▸ State.bit_setBit_same _ _ _ _ (by decide)
  have hvstat (i : Nat) (hi : i ≠ 2) : v.fbkStat p i = b.fbkStat p i := hv ▸ State.bit_setBit_apart _ _ 2 i _ (by decide) hi
  have hv2 : v.fbkStat p 2 = (s.fbkStat p 2 || bitAt f.stat 2) := hv ▸ State.bit_setBit_same _ _ _ _ (by decide)
  have hvs : FbkStep p [0x4] u v := by
    rw [hv, hb, ha]
    exact ((u.setFld_step (o := 0x4) (by decide) 0 4 _).trans (State.setBit_step _ (o := 0x4) (by decide) 0 _)).trans
      (State.setBit_step _ (o := 0x4) (by decide) 2 _)
  have hvp : v.port p = u.port p := by rw [hv, hb, ha]; rfl
  obtain ⟨w, hw⟩ : ∃ w, w = if s.fbkStat p 2 then v.setPair (Reg.FBK_SPEED_L p) (Reg.FBK_SPEED_H p) 0 else v := ⟨_, rfl⟩
  have hws : FbkStep p [0x38, 0x3c] v w ∧ w.port p = v.port p ∧ (∀ i < 12, w.regN ((frameRegs p).getD i 0) =
      if s.fbkStat p 2 = true ∧ (i = 2 ∨ i = 3) then 0 else v.regN ((frameRegs p).getD i 0)) := by
    rw [hw]
    by_cases hstill : s.fbkStat p 2 = true
    · rw [if_pos hstill]
      refine ⟨v.setPair_step (l := 0x38) (h := 0x3c) (by decide) (by decide) 0, rfl, fun i hi => ?_⟩
      rw [v.clearSpeed_frameRegs p hi]
      simp only [hstill, true_and]
    · rw [if_neg hstill]
      exact ⟨.refl, rfl, fun i _ => (if_neg fun h => hstill h.1).symm⟩
  obtain ⟨hwstep, hwp, hwregs⟩ := hws
  have hall : w.port p = s.port p := hwp.trans (hvp.trans hup)
  have huw : FbkStep p [0x4, 0x38, 0x3c] u w := (hvs.mono (by decide)).trans (hwstep.mono (by decide))
  obtain ⟨k, hk⟩ : ∃ k : Fbk, k = { w.port p with
    ended := none, undo := none, quad := none, prevPos := f.prevPos, lastTick := f.lastTick, lastCount := f.lastCount,
    trail := if f.posStands then (w.port p).trail else f.trail, hits := (w.port p).hits.filter (· ≠ f.time),
    latches := f.latches ++ (w.port p).latches } := ⟨_, rfl⟩
  have heq : s.undoFrame p f = w.setPort p k := by
    rw [hk, hw, hv, hb, ha, ← hsb 2, ← hsb 0, hu]
    rfl
  have hset : FbkStep p [] w (w.setPort p k) := w.setPort_step k
  have huset : FbkStep p [0x4, 0x38, 0x3c] u (w.setPort p k) := huw.trans (hset.mono (by simp))
  have hvset : FbkStep p [0x38, 0x3c] v (w.setPort p k) := hwstep.trans (hset.mono (by simp))
  have hst (i : Nat) : (w.setPort p k).fbkStat p i = v.fbkStat p i := hvset.bit (o := 0x4) (by decide) (by decide) i
  rw [heq]
  refine ⟨hus.trans (huset.mono (by decide)), ?_, ?_, ?_, fun h => ?_, ?_, fun h => ?_, fun hlen i hi => ?_, ?_, ?_, ?_, ?_⟩
  · rw [State.port_setPort, if_pos rfl, hk, hall]
  · exact (huset.pair (l := 0x10) (g := 0x14) (by decide) (by decide) (by decide) (by decide)).trans hpos
  · have hkeep : (w.setPort p k).fbkCmp p = u.fbkCmp p := huset.pair (l := 0x44) (g := 0x48) (by decide) (by decide) (by decide) (by decide)
    rw [hkeep]
    by_cases hc : f.cmpStands = true
    · exact (hcmps hc).trans (if_pos hc).symm
    · exact (hcmp (by simpa using hc)).trans (if_neg hc).symm
  · exact (huset.bit (o := 0x5c) (by decide) (by decide) 0).trans (hen h)
  · exact (huset.fld (o := 0x78) (by decide) (by decide) 16 16).trans hhits
  · exact (huset.fld (o := 0xb8) (by decide) (by decide) 0 24).trans (hdelay h)
  · rw [hset.frameRegs_kept (by simp) hi, hwregs i hi, hvs.frameRegs_kept (by decide) hi, hregs hlen i hi]
  · rw [hst, hvstat 1 (by decide), hbstat 1 (by decide), hastat 1 (by decide)]
  · rw [hst, hv2]
  · rw [hst, hvstat 3 (by decide), hbstat 3 (by decide), hastat 3 (by decide)]
  · rw [hst, hvstat 0 (by decide), hb0]

end Undo

end Sys2Proof.Machine

/-! O40: recovery, latches and the obligation (R215, R216, R218). -/

namespace Sys2Proof.Machine

open Sys2Proof

section Rows
variable {s : State} {p : Nat}

/-! ### The end of the recovery time (R218) -/

theorem exec_ssiRecoveryTimeout (hp : p < 64) : exec (.ssiRecoveryTimeout p) s = .next (s.frameLate p) := onUnit_of (decide_eq_true hp) _

/-- The end of the recovery time of a frame that ended at a time, with what takes it back. -/
def State.frameLateOf (s : State) (p : Nat) (ended : Option Nat) (undo : Option Frame) : State :=
  match ended, undo with
  | some t, some f =>
    let c := s.cuff ((s.port p).base + 2)
    if s.fbkOn p 2 = false ∨ s.tick < t + s.ssiTm p then s
    else if c.pad ∧ c.padTick ≤ t + s.ssiTm p then s.setPort p { s.port p with ended := none, undo := none }
    else ((s.undoFrame p f).fbkErr p 7).fbkRecord p Code.ok 5 0 s.tb.now
  | _, _ => s

theorem State.frameLate_eq (s : State) (p : Nat) : s.frameLate p = s.frameLateOf p (s.port p).ended (s.port p).undo := rfl

/-- The data line has recovered within SSITM of the frame's end. -/
def State.recovered (s : State) (p t : Nat) : Prop :=
  (s.cuff ((s.port p).base + 2)).pad = true ∧ (s.cuff ((s.port p).base + 2)).padTick ≤ t + s.fld (Reg.FBK_SSITM p) 0 16

/-- A frame discarded after its end. -/
def State.frameTakenBack (s : State) (p : Nat) (f : Frame) : State := ((s.undoFrame p f).fbkErr p 7).fbkRecord p Code.ok 5 0 s.tb.now

theorem State.frameLate_spec {t : Nat} {f : Frame} (hended : (s.port p).ended = some t) (hundo : (s.port p).undo = some f)
    (hon : s.fbkOn p 2 = true) (hlate : t + s.fld (Reg.FBK_SSITM p) 0 16 ≤ s.tick) :
    (s.recovered p t → s.frameLate p = s.setPort p { s.port p with ended := none, undo := none }) ∧
    (¬s.recovered p t → s.frameLate p = s.frameTakenBack p f) := by
  have hno : ¬(s.fbkOn p 2 = false ∨ s.tick < t + s.ssiTm p) := by
    rintro (h | h)
    · rw [hon] at h
      exact absurd h (by decide)
    · exact absurd hlate (Nat.not_le.mpr h)
  rw [State.frameLate_eq, hended, hundo]
  exact ⟨fun h => (if_neg hno).trans (if_pos h), fun h => (if_neg hno).trans (if_neg h)⟩

theorem State.frameTakenBack_spec (hp : p < 64) (f : Frame) : FbkStep p [0xc4] (s.undoFrame p f) (s.frameTakenBack p f) ∧
    (s.frameTakenBack p f).port p = (s.undoFrame p f).port p ∧ (s.frameTakenBack p f).bit (Reg.FBK_ERR p) 7 = true := by
  obtain ⟨u, hu⟩ : ∃ u, u = s.undoFrame p f := ⟨_, rfl⟩
  obtain ⟨v, hv⟩ : ∃ v, v = u.fbkErr p 7 := ⟨_, rfl⟩
  have heq : s.frameTakenBack p f = v.fbkRecord p Code.ok 5 0 s.tb.now := by rw [hv, hu]; rfl
  have huv : FbkStep p [0xc4] u v := hv ▸ u.fbkErr_step hp (by decide) 7
  have hrec : FbkStep p [] v (v.fbkRecord p Code.ok 5 0 s.tb.now) := v.fbkRecord_step hp ..
  have herr : v.bit (Reg.FBK_ERR p) 7 = true := hv ▸ u.bit_fbkErr_same hp (by decide)
  rw [heq, ← hu]
  refine ⟨huv.trans (hrec.mono (by simp)), ?_, (hrec.bit (o := 0xc4) (by decide) (by simp) 7).trans herr⟩
  rw [State.port_fbkRecord, hv, State.port_fbkErr]

/-! ### Latches (R215) -/

theorem exec_fbkLatch (hp : p < 64) : exec (.fbkLatch p) s = .next (s.actLatch p) := onUnit_of (decide_eq_true hp) _

theorem State.actLatch_eq {f : Flight} (h : s.headReady 4 p 0x0E = some f) : s.actLatch p =
    let u := s.setPort p { s.port p with latches := (s.port p).latches ++ [(f.due, bitAt f.act.sub 0)] }
    (if u.fbkMode p = 2 then u.ssiRequest p f.due else u).finish f := by
  simp only [State.actLatch, h]

theorem State.posAt_still (s : State) (p t : Nat) (h : (s.port p).trail = []) : s.posAt p t = s.fbkPos p := by
  rw [State.posAt, h]
  rfl

theorem State.speedAt_still (s : State) (p t : Nat) (h : (s.port p).past = []) :
    s.speedAt p t = s.boundSpeed p (s.pair (Reg.FBK_SPEED_L p) (Reg.FBK_SPEED_H p)) (s.port p).likes.head? t := by
  simp only [State.speedAt, h, List.takeWhile_nil, List.getLast?_nil]

/-- What a latch takes (R215). -/
theorem State.latchAt_spec (hp : p < 64) (pos : Nat) (l : Nat × Bool) : let t := s.latchAt p pos l
    t.pair (Reg.FBK_LPOS_L p) (Reg.FBK_LPOS_H p) = pos % 2 ^ 64 ∧ t.pair (Reg.FBK_LSPD_L p) (Reg.FBK_LSPD_H p) = s.speedAt p l.1 % 2 ^ 64 ∧
      t.pair (Reg.FBK_LTIME_L p) (Reg.FBK_LTIME_H p) = l.1 % 2 ^ 64 ∧ t.port p = s.port p ∧ t.cuffs = s.cuffs := by
  obtain ⟨u, hu⟩ : ∃ u, u = s.setPair (Reg.FBK_LPOS_L p) (Reg.FBK_LPOS_H p) pos := ⟨_, rfl⟩
  obtain ⟨v, hv⟩ : ∃ v, v = u.setPair (Reg.FBK_LSPD_L p) (Reg.FBK_LSPD_H p) (u.speedAt p l.1) := ⟨_, rfl⟩
  obtain ⟨w, hw⟩ : ∃ w, w = v.setPair (Reg.FBK_LTIME_L p) (Reg.FBK_LTIME_H p) l.1 := ⟨_, rfl⟩
  have hsu : FbkStep p [0x90, 0x94] s u := hu ▸ s.setPair_step (l := 0x90) (h := 0x94) (by decide) (by decide) _
  have huv : FbkStep p [0xa0, 0xa4] u v := hv ▸ u.setPair_step (l := 0xa0) (h := 0xa4) (by decide) (by decide) _
  have hvw : FbkStep p [0x98, 0x9c] v w := hw ▸ v.setPair_step (l := 0x98) (h := 0x9c) (by decide) (by decide) _
  have huports : u.ports = s.ports := hu ▸ State.setPair_ports ..
  have hwport : w.port p = s.port p := by
    refine State.port_of_ports ?_ p
    rw [hw, State.setPair_ports, hv, State.setPair_ports, huports]
  have hspeed : u.speedAt p l.1 = s.speedAt p l.1 := by
    have hport : u.port p = s.port p := State.port_of_ports huports p
    have hnow : u.circle = s.circle := by
      have hreg (r : Nat) (hl : r ≠ Reg.FBK_LPOS_L p) (hh : r ≠ Reg.FBK_LPOS_H p) : u.reg r = s.reg r := hu ▸ State.reg_setPair_other _ hl hh _
      rw [State.circle, State.circle, State.pair_of_reg (hreg _ (by simp only [Reg.FBK_LPOS_L, Reg.TB_RELOAD_L]; omega) (by simp only [Reg.FBK_LPOS_H, Reg.TB_RELOAD_L]; omega))
        (hreg _ (by simp only [Reg.FBK_LPOS_L, Reg.TB_RELOAD_H]; omega) (by simp only [Reg.FBK_LPOS_H, Reg.TB_RELOAD_H]; omega))]
    have hafter (a b : Nat) : u.atOrAfter a b = s.atOrAfter a b := by rw [State.atOrAfter, State.atOrAfter, hnow]
    have hminus (a b : Nat) : u.minus a b = s.minus a b := by rw [State.minus, State.minus, hnow]
    have hmode : u.fbkMode p = s.fbkMode p := hsu.fld (o := 0x8) (by decide) (by decide) 0 2
    have hspan : u.likeSpan p = s.likeSpan p := by
      rw [State.likeSpan, State.likeSpan, hsu.fld (o := 0x8) (by decide) (by decide) 2 2]
    have hpair : u.pair (Reg.FBK_SPEED_L p) (Reg.FBK_SPEED_H p) = s.pair (Reg.FBK_SPEED_L p) (Reg.FBK_SPEED_H p) :=
      hsu.pair (l := 0x38) (g := 0x3c) (by decide) (by decide) (by decide) (by decide)
    have hbound (x : Nat) (like : Option Nat) : u.boundSpeed p x like l.1 = s.boundSpeed p x like l.1 := by
      simp only [State.boundSpeed, hminus, hmode, hspan]
    simp only [State.speedAt, hport, hafter, hbound, hpair]
  have hlpos : u.pair (Reg.FBK_LPOS_L p) (Reg.FBK_LPOS_H p) = pos % 2 ^ 64 := hu ▸ State.pair_setPair_mod _ (by simp) _
  have hlspd : v.pair (Reg.FBK_LSPD_L p) (Reg.FBK_LSPD_H p) = s.speedAt p l.1 % 2 ^ 64 := by
    rw [hv, ← hspeed]
    exact State.pair_setPair_mod _ (by simp) _
  have hltime : w.pair (Reg.FBK_LTIME_L p) (Reg.FBK_LTIME_H p) = l.1 % 2 ^ 64 := hw ▸ State.pair_setPair_mod _ (by simp) _
  obtain ⟨t, ht⟩ : ∃ t, t = s.latchAt p pos l := ⟨_, rfl⟩
  have hwt : FbkStep p [] w t ∧ t.ports = w.ports := by
    have heq : t = if l.2 then w.fbkRecordAt p Code.ok 0 0 l.1 pos else w := by rw [ht, hw, hv, hu]; rfl
    rw [heq]
    split
    · exact w.fbkRecordAt_step hp ..
    · exact ⟨.refl, rfl⟩
  rw [← ht]
  refine ⟨?_, ?_, ?_, (State.port_of_ports hwt.2 p).trans hwport, ?_⟩
  · exact (hwt.1.pair (l := 0x90) (g := 0x94) (by decide) (by decide) (by simp) (by simp)).trans
      ((hvw.pair (l := 0x90) (g := 0x94) (by decide) (by decide) (by decide) (by decide)).trans
        ((huv.pair (l := 0x90) (g := 0x94) (by decide) (by decide) (by decide) (by decide)).trans hlpos))
  · exact (hwt.1.pair (l := 0xa0) (g := 0xa4) (by decide) (by decide) (by simp) (by simp)).trans
      ((hvw.pair (l := 0xa0) (g := 0xa4) (by decide) (by decide) (by decide) (by decide)).trans hlspd)
  · exact (hwt.1.pair (l := 0x98) (g := 0x9c) (by decide) (by decide) (by simp) (by simp)).trans hltime
  · exact hwt.1.cuffs.trans (hvw.cuffs.trans (huv.cuffs.trans hsu.cuffs))

/-- The port once its last latch is taken off the list. -/
def State.unlatched (s : State) (p : Nat) : State := s.setPort p { s.port p with latches := [], marks := [] }

theorem State.unlatched_port (s : State) (p : Nat) : (s.unlatched p).port p = { s.port p with latches := [], marks := [] } :=
  (s.port_setPort ..).trans (if_pos rfl)

theorem State.unlatched_posAt (s : State) (p t : Nat) : (s.unlatched p).posAt p t = s.posAt p t := by
  rw [State.posAt, State.posAt, State.unlatched_port]
  rfl

theorem State.unlatched_speedAt (s : State) (p t : Nat) : (s.unlatched p).speedAt p t = s.speedAt p t := by
  obtain ⟨u, hu⟩ : ∃ u, u = s.unlatched p := ⟨_, rfl⟩
  have hport : (u.port p).past = (s.port p).past ∧ (u.port p).likes = (s.port p).likes := by
    rw [hu, State.unlatched_port]
    exact ⟨rfl, rfl⟩
  have hafter (a b : Nat) : u.atOrAfter a b = s.atOrAfter a b := by rw [hu]; rfl
  have hbound (x : Nat) (like : Option Nat) : u.boundSpeed p x like t = s.boundSpeed p x like t := by rw [hu]; rfl
  have hpair : u.pair (Reg.FBK_SPEED_L p) (Reg.FBK_SPEED_H p) = s.pair (Reg.FBK_SPEED_L p) (Reg.FBK_SPEED_H p) := by rw [hu]; rfl
  rw [← hu]
  simp only [State.speedAt, hport, hafter, hbound, hpair]

/-- A tick completes the one latch whose edges have all come (R215). -/
theorem State.latchTick_one (hmode : s.fbkMode p < 2) {l : Nat × Bool} (hl : (s.port p).latches = [l]) (hm : (s.port p).marks = [])
    (hdue : s.countedTo p l.1 = true) : s.latchTick p = (s.unlatched p).latchAt p (s.posAt p l.1) l := by
  have hno : ¬2 ≤ s.fbkMode p := by omega
  have hkeep : ([l].filter fun l => !s.countedTo p l.1) = [] := by simp [hdue]
  have hdone : ([l].filter fun l => s.countedTo p l.1) = [l] := by simp [hdue]
  rw [← s.unlatched_posAt]
  simp only [State.latchTick]
  rw [if_neg hno]
  simp only [hl, hm, hkeep, hdone, List.filter_nil, List.foldl_cons, List.foldl_nil]
  rfl

end Rows

/-- Settles O40, row by row: the requests, the end of a frame and of its recovery, and the latches. -/
theorem feedbackSerialAndLatches : Obligations.FeedbackSerialAndLatches := by
  intro s p v f hp k d n clk pb request kept
  have hrequest {u : State} {r : Nat} (h : u.fbkOn p 2 = true) : request u (u.ssiRequest p r) r := by
    have hreq := u.ssiRequest_spec (r := r) hp h
    refine ⟨hreq.busy, fun hr hf => ?_⟩
    obtain ⟨hstat, hport, hwires⟩ := hreq.taken hr hf
    refine ⟨hstat, hport, fun inv => ⟨(hwires inv).1, fun ha hh hpair => ?_⟩⟩
    have hcl := (hwires inv).2 ha hh hpair
    exact ⟨hcl.edges, fun hd hl => hcl.level _ _ rfl hd hl⟩
  refine ⟨?ctrl, ?periodic, ?frame, ?recovery, ?latch, ?tick⟩
  case ctrl =>
    intro hpage h0 h1 hon
    have hexec : exec (.fbkCtrlReq p v) s = .next (d.ssiRequest p d.tb.now) := by
      have hb (j : Nat) : bitAt (Nat.lor v (2 ^ 2)) j = (bitAt v j || decide (2 = j)) := bitAt_lor_two_pow ..
      have heq : exec (.fbkCtrlReq p v) s = .next (d.writeFbkCtrl p (Nat.lor v (2 ^ 2))) :=
        (onUnit_of (decide_eq_true hp) _).trans (congrArg Host.Outcome.next (State.pf_of_reach hpage ..))
      rw [heq, State.writeFbkCtrl, hb 0, hb 1, hb 2, h0, h1]
      simp
    exact ⟨_, hexec, hrequest hon⟩
  case periodic =>
    intro hper hon hlate
    refine ⟨_, (onUnit_of (decide_eq_true hp) _).trans (congrArg _ (if_neg ?_)), hrequest hon⟩
    rintro (h | h | h)
    · exact hper h
    · exact absurd (hon.symm.trans h) (by decide)
    · exact absurd hlate (Nat.not_le.mpr h)
  case frame =>
    intro r rises falls hreq hon line u ld
    refine ⟨fun hr hf => by subst hr hf; rfl, fun h => u.lineDelay_kept p r h, fun hdone hfault => ?_, fun hdone hfault => ?_⟩
    · exact ⟨_, exec_ssiFrameEnd hp, State.frameEnd_dropped hp hreq hon hdone hfault⟩
    · have heq : s.frameEnd p rises falls = s.frameEnded (s.lined p r rises falls) p r ld := by
        refine (State.frameEnd_eq hreq hon ((State.frameDone_lined _).trans hdone)).trans (if_neg ?_)
        rw [State.dataFault_lined hreq (s.fbkMode_of_fbkOn hon), hfault]
        decide
      obtain ⟨hidle, hbusy, hundo, hvalid, hraw, htime, hdelay, hplain, hgray, htb, hcuffs⟩ := State.frameEnded_spec (s := s) (r := r) (rises := rises) (falls := falls) hp
      obtain ⟨hlt, hbits⟩ := u.lineWord_spec p r ld
      have hpb : pb = s.ssiPos p := rfl
      exact ⟨_, _, (exec_ssiFrameEnd hp).trans (congrArg _ heq), hlt, hbits, hidle, hbusy, hundo, hvalid, hraw, htime, hdelay, ⟨hplain, hgray⟩, htb, hcuffs⟩
  case recovery =>
    intro t0 g hended hundo hon hlate line good
    obtain ⟨hyes, hno⟩ := State.frameLate_spec hended hundo hon hlate
    refine ⟨fun h => (exec_ssiRecoveryTimeout hp).trans (congrArg _ (hyes h)), fun h hlen => ?_⟩
    obtain ⟨hstep, hport, herr⟩ := State.frameTakenBack_spec (s := s) hp g
    have hback := s.undoFrame_back p g
    obtain ⟨h1, h2, h3, h0⟩ := hback.stat
    have hst (i : Nat) : (s.frameTakenBack p g).fbkStat p i = (s.undoFrame p g).fbkStat p i := hstep.bit (o := 0x4) (by decide) (by decide) i
    refine ⟨_, (exec_ssiRecoveryTimeout hp).trans (congrArg _ (hno h)), herr, hport.trans hback.port, ?_, ?_, fun he => ?_, ?_, fun hd => ?_, fun i hi => ?_,
      (hst 1).trans h1, (hst 2).trans h2, (hst 3).trans h3, (hst 0).trans h0, hstep.cuffs.trans hback.step.cuffs⟩
    · exact (hstep.pair (l := 0x10) (g := 0x14) (by decide) (by decide) (by decide) (by decide)).trans hback.pos
    · exact (hstep.pair (l := 0x44) (g := 0x48) (by decide) (by decide) (by decide) (by decide)).trans hback.cmp
    · exact (hstep.bit (o := 0x5c) (by decide) (by decide) 0).trans (hback.en he)
    · exact (hstep.fld (o := 0x78) (by decide) (by decide) 16 16).trans hback.hits
    · exact (hstep.fld (o := 0xb8) (by decide) (by decide) 0 24).trans (hback.delay hd)
    · exact (hstep.frameRegs_kept (by decide) hi).trans (hback.regs hlen i hi)
  case latch =>
    intro hready
    let outcome (u : State) : Host.Outcome State Fault Refusal := .next (u.finish f)
    have hact : exec (.fbkLatch p) s = .next ((if kept.fbkMode p = 2 then kept.ssiRequest p f.due else kept).finish f) :=
      (exec_fbkLatch hp).trans (congrArg _ (State.actLatch_eq hready))
    refine ⟨fun hm => hact.trans (congrArg outcome (if_neg hm)), fun hm hon => ?_⟩
    refine ⟨kept.ssiRequest p f.due, hact.trans (congrArg outcome (if_pos hm)), hrequest ?_⟩
    have hport : (kept.port p).base = (s.port p).base ∧ (kept.port p).count = (s.port p).count := by
      rw [show kept.port p = _ from (s.port_setPort ..).trans (if_pos rfl)]
      exact ⟨rfl, rfl⟩
    rw [← hon, State.fbkOn, State.fbkOn, hport.1, hport.2]
    rfl
  case tick =>
    intro l hmode hl hm hdue t
    have heq : t = (s.unlatched p).latchAt p (s.posAt p l.1) l := State.latchTick_one hmode hl hm hdue
    obtain ⟨hpos, hspeed, htime, hport, hcuffs⟩ := State.latchAt_spec (s := s.unlatched p) hp (s.posAt p l.1) l
    rw [State.unlatched_speedAt] at hspeed
    rw [heq]
    exact ⟨by rw [hport, State.unlatched_port], hpos, s.posAt_still p l.1, hspeed, s.speedAt_still p l.1, htime, hcuffs⟩

end Sys2Proof.Machine

/-! Pending bits only come (R277): an event of a source, a fault record and a log record clear none. -/

namespace Sys2Proof.Machine

open Sys2Proof

/-- Every pending source stays pending. -/
structure PendKept (s t : State) : Prop where
  kept : ∀ id < 0x4000, s.srcPend id = true → t.srcPend id = true

section Kept
variable {s t u : State}

theorem PendKept.refl (s : State) : PendKept s s := ⟨fun _ _ h => h⟩

theorem PendKept.trans (h : PendKept s t) (g : PendKept t u) : PendKept s u := ⟨fun id hid hp => g.kept id hid (h.kept id hid hp)⟩

theorem PendKept.of_reg (h : ∀ r, 0xA2040 ≤ r → r < 0xA2840 → t.reg r = s.reg r) : PendKept s t :=
  ⟨fun id hid hp => (State.bit_of_reg (h _ (by simp only [Reg.HVC_PEND]; omega) (by simp only [Reg.HVC_PEND]; omega)) _).trans hp⟩

theorem PendKept.of_regs (h : t.regs = s.regs) : PendKept s t := .of_reg fun r _ _ => State.reg_of_regs h r

theorem PendKept.foldl {α : Type} {g : State → α → State} {l : List α} (h : ∀ s, ∀ x ∈ l, PendKept s (g s x)) (s : State) :
    PendKept s (l.foldl g s) :=
  List.foldlRecOn (motive := fun u : State => PendKept s u) l g (.refl s) fun u hu x hx => hu.trans (h u x hx)

end Kept

section Steps
variable (s : State)

theorem State.setN_pendKept {k : Nat} (hk : k < 0xA2040 ∨ 0xA2840 ≤ k) (v : Nat) : PendKept s (s.setN k v) :=
  .of_reg fun _ _ _ => s.reg_setN_other (by omega) v

theorem State.raise_pendKept (id : Nat) : PendKept s (s.raise id) := ⟨fun _ _ h => State.srcPend_raise_kept h⟩

theorem State.setQueue_pendKept (q : Nat) (d : Queue) : PendKept s (s.setQueue q d) := .of_regs rfl

theorem State.relRecord_pendKept (sev code kind block inst addr : Nat) : PendKept s (s.relRecord sev code kind block inst addr) := by
  have hset : ∀ x a b, PendKept s ((({ s with rel := x } : State).setN Reg.REL_LHEAD a).setN Reg.REL_LHEAD b) := fun x a b =>
    ((PendKept.of_regs (s := s) (t := { s with rel := x }) rfl).trans (State.setN_pendKept _ (.inl (by decide)) a)).trans
      (State.setN_pendKept _ (.inl (by decide)) b)
  simp only [State.relRecord]
  split
  · exact .refl s
  repeat' split
  · exact hset ..
  · exact (hset ..).trans (State.raise_pendKept ..)
  · exact (hset ..).trans (State.raise_pendKept ..)

theorem State.updFull_pendKept (n : Nat) : PendKept s (s.updFull n) := by
  have hset : ∀ b, PendKept s (s.setBit (Reg.TEN_RING_STAT n) 2 b) := fun b => s.setN_pendKept (.inr (by simp only [Reg.TEN_RING_STAT]; omega)) _
  simp only [State.updFull]
  split
  · exact (hset _).trans (State.raise_pendKept _ _)
  · exact hset _

theorem State.postRecord_pendKept (n : Nat) (r : Cpl) : PendKept s (s.postRecord n r) := by
  have hleave : PendKept s s.leaveL1 := .of_regs (State.regs_of_wipe s.leaveL1_wipe0 rfl)
  have htail : ∀ u : State, ∀ v, PendKept u (u.setN (Reg.TEN_CPL_TAIL n) v) := fun u v =>
    u.setN_pendKept (.inr (by simp only [Reg.TEN_CPL_TAIL]; omega)) v
  have hsend : ∀ o, PendKept s (s.leaveL1.send o) := fun o => hleave.trans (.of_regs rfl)
  exact ((hsend _).trans (htail _ _)).trans (htail _ _)

theorem State.noteFault_pendKept (n j : Nat) (r : Cpl) : PendKept s (s.noteFault n j r) := by
  have hidx : ∀ u : State, ∀ v, PendKept u (u.setN (Reg.TEN_FAULT_IDX n) v) := fun u v =>
    u.setN_pendKept (.inr (by simp only [Reg.TEN_FAULT_IDX]; omega)) v
  have hstep : PendKept s ((s.setFld (Reg.TEN_FAULT_IDX n) 0 6 (j + 1)).incWrap (Reg.TEN_FAULT_IDX n) 16 16) := (hidx _ _).trans (hidx _ _)
  refine PendKept.trans (PendKept.trans hstep ?_) (State.raise_pendKept _ _)
  split
  · exact .refl _
  split
  · exact (State.postRecord_pendKept ..).trans (State.updFull_pendKept ..)
  · exact hidx _ _

theorem State.setFault_pendKept (n j v : Nat) : PendKept s (s.setFault n j v) :=
  PendKept.foldl (g := fun u i => u.setN (Reg.TEN_FAULT n (8 * j + i)) (bits v (32 * i) 32))
    (fun u i _ => u.setN_pendKept (.inr (by simp only [Reg.TEN_FAULT]; omega)) _) s

theorem State.faultRecord_pendKept (n status source object detail : Nat) : PendKept s (s.faultRecord n status source object detail) := by
  rw [State.faultRecord_eq]
  exact (s.setFault_pendKept ..).trans (State.noteFault_pendKept ..)

theorem State.walkCorrect_pendKept (n a : Nat) : PendKept s (s.walkCorrect n a) :=
  PendKept.foldl (fun u w _ => by
    split
    · have hsoft : PendKept u { u with eccSoft := u.eccSoft.filter (· != w) } := .of_regs rfl
      exact (hsoft.trans (State.setN_pendKept _ (k := Reg.SLM_ECC_CNT) (.inl (by decide)) _)).trans (State.relRecord_pendKept ..)
    · exact .refl u) s

theorem State.walkFailed_pendKept (n a src code level : Nat) : PendKept s (s.walkFailed n a src code level) := by
  have hset : ∀ x y z, PendKept s (((s.setN Reg.SLM_FAULT_INFO x).setN Reg.SLM_FAULT_ADDR y).setN Reg.SLM_FAULT_CNT z) := fun x y z =>
    ((s.setN_pendKept (.inl (by decide)) x).trans (State.setN_pendKept _ (.inl (by decide)) y)).trans (State.setN_pendKept _ (.inl (by decide)) z)
  simp only [State.walkFailed]
  split
  · exact (hset ..).trans (State.setN_pendKept _ (.inl (by decide)) _)
  · exact hset ..

theorem State.reach_pendKept (n a src : Nat) : PendKept s (s.reach n a src).left := by
  rw [State.reach]
  split
  · exact s.walkCorrect_pendKept n a
  · exact (s.walkCorrect_pendKept n a).trans (State.walkFailed_pendKept ..)

theorem State.slabWrite_pendKept (n a len v src : Nat) : PendKept s (s.slabWrite n a len v src).left := by
  have hreach := s.reach_pendKept n a src
  rw [State.slabWrite]
  split
  · next h => rwa [h] at hreach
  · next h =>
    rw [h] at hreach
    exact hreach.trans (.of_regs rfl)

theorem State.stopQueue_pendKept (q code : Nat) : PendKept s (s.stopQueue q code) :=
  .of_reg fun r h1 _ => State.reg_stopQueue s q code (by simp only [Reg.QM_LASTERR]; omega)

theorem PendKept.of_write {u : State} {n a len v src : Nat} {x : Unit} (h : s.slabWrite n a len v src = .ok x u) : PendKept s u := by
  have hw := s.slabWrite_pendKept n a len v src
  rwa [h] at hw

theorem PendKept.of_fault {u : State} {n a len v src c : Nat} (h : s.slabWrite n a len v src = .bad c u) : PendKept s u := by
  have hw := s.slabWrite_pendKept n a len v src
  rwa [h] at hw

/-- A record in a log queue clears no pending source (R88, R101). -/
theorem State.logRecord_pendKept (q v mb : Nat) : PendKept s (s.logRecord q v mb) := by
  have hfault (u : State) : PendKept u (u.descFault q) :=
    (((u.stopQueue_pendKept q _).trans (State.setN_pendKept _ (.inl (by decide)) _)).trans (State.setN_pendKept _ (.inl (by decide)) _)).trans
      (State.raise_pendKept ..)
  simp only [State.logRecord]
  split
  · exact .refl s
  split
  · exact (s.setQueue_pendKept ..).trans (hfault _)
  split
  · exact s.setQueue_pendKept ..
  split
  · exact (s.setQueue_pendKept ..).trans (State.setN_pendKept _ (.inl (by decide)) _)
  split
  · next h => exact (PendKept.of_write s h).trans (State.setQueue_pendKept ..)
  · next h =>
    exact (((PendKept.of_fault s h).trans (State.setQueue_pendKept ..)).trans (State.stopQueue_pendKept ..)).trans (State.faultRecord_pendKept ..)

end Steps

end Sys2Proof.Machine

/-! O35: the stop of an engine, its errors and its records (R183, R185, R188, R189, R193, R195). -/

namespace Sys2Proof.Machine

open Sys2Proof

section Stop
variable {s : State} {e : Nat}

/-- An engine that has stopped: its program counter, its FIFOs and its settings stay (R195). -/
def Pio.stopped (k : Pio) : Pio :=
  { k with st := 0, busy := false, todo := 0, rest := 0, skip := false, samples := [], atMet := false, needAt := none, fed := false, thawFrom := none }

theorem State.stopPio_spec (s : State) (e : Nat) : (s.stopPio e).pio e = (s.pio e).stopped ∧ (s.stopPio e).regs = s.regs := by
  obtain ⟨u, hu⟩ : ∃ u, u = (s.pioCuffs e).foldl (fun u c =>
    u.setCuff c { u.cuff c with edges := (u.cuff c).edges.filter fun x => u.atOrAfter (s.pioNow e) x.1 }) s := ⟨_, rfl⟩
  have hsame : u.regs = s.regs ∧ u.pios = s.pios := by
    rw [hu]
    exact List.foldlRecOn (motive := fun t : State => t.regs = s.regs ∧ t.pios = s.pios) _ _ ⟨rfl, rfl⟩ fun t ht c _ => ht
  have hpio : u.pio e = s.pio e := by rw [State.pio, State.pio, hsame.2]
  have heq : s.stopPio e = u.setPio e (u.pio e).stopped := by rw [hu]; rfl
  rw [heq, State.pio_setPio, if_pos rfl, hpio]
  exact ⟨rfl, hsame.1⟩

/-- What an error or a record of an engine leaves: the engines themselves, the registers of its page but the error bits, and
the pending bits that stand. -/
structure PioNoted (e : Nat) (s t : State) : Prop where
  pio : ∀ f, t.pio f = s.pio f
  reg : ∀ r, 0x10000 ≤ r → r < 0xA2040 → r ≠ Reg.PIO_ERR e → t.reg r = s.reg r
  err : ∀ i, s.bit (Reg.PIO_ERR e) i = true → t.bit (Reg.PIO_ERR e) i = true
  pend : PendKept s t

theorem PioNoted.trans {t u : State} (h : PioNoted e s t) (g : PioNoted e t u) : PioNoted e s u :=
  ⟨fun f => (g.pio f).trans (h.pio f), fun r h1 h2 h3 => (g.reg r h1 h2 h3).trans (h.reg r h1 h2 h3), fun i hi => g.err i (h.err i hi),
    h.pend.trans g.pend⟩

theorem PioNoted.refl : PioNoted e s s := ⟨fun _ => rfl, fun _ _ _ _ => rfl, fun _ h => h, .refl s⟩

/-- The registers of an engine lie between those of the sleeves and the pending bits. -/
theorem pioReg_mid (he : e < 128) {o : Nat} (ho : o < 0x200) : 0x10000 ≤ (0x40 + e / 4) * 0x1000 + 0x200 + (e % 4) * 0x200 + o ∧
    (0x40 + e / 4) * 0x1000 + 0x200 + (e % 4) * 0x200 + o < 0xA2040 := by omega

theorem pioErr_mid (he : e < 128) : 0x10000 ≤ Reg.PIO_ERR e ∧ Reg.PIO_ERR e < 0xA2040 := pioReg_mid he (o := 0x48) (by decide)

theorem MidKept.noted {t : State} (h : MidKept s t) (he : e < 128) (hp : t.pios = s.pios) (hq : PendKept s t) : PioNoted e s t :=
  ⟨fun f => by rw [State.pio, State.pio, hp], fun r h1 h2 _ => h.reg r h1 h2,
    fun i hi => (State.bit_of_reg (h.reg _ (pioErr_mid he).1 (pioErr_mid he).2) i).trans hi, hq⟩

theorem State.pioLog_noted (s : State) (he : e < 128) (time status pc cause count data : Nat) :
    PioNoted e s (s.pioLog e time status pc cause count data) :=
  (s.logRecord_midKept ..).noted he (State.pios_of_wipe (s.logRecord_wipe0 ..) rfl) (s.logRecord_pendKept ..)

theorem State.pioNote_noted (s : State) (he : e < 128) (time status cause count : Nat) : PioNoted e s (s.pioNote e time status cause count) := by
  rw [State.pioNote]
  split
  · exact s.pioLog_noted he ..
  · exact .refl

theorem State.pioErr_noted (s : State) (he : e < 128) {b : Nat} (hb : b < 32) : PioNoted e s (s.pioErr e b) ∧
    (s.pioErr e b).bit (Reg.PIO_ERR e) b = true := by
  obtain ⟨u, hu⟩ : ∃ u, u = s.setBit (Reg.PIO_ERR e) b true := ⟨_, rfl⟩
  have hraise : PioNoted e u (u.raise (0x3080 + 4 * e + 2)) :=
    (u.raise_midKept _).noted he (State.pios_of_wipe (u.raise_wipe0 _) rfl) (u.raise_pendKept _)
  have hset : PioNoted e s u := by
    rw [hu]
    refine ⟨fun f => rfl, fun r _ _ h => State.reg_setBit_other _ h .., fun i hi => ?_, ?_⟩
    · by_cases hib : i = b
      · rw [hib]
        exact State.bit_setBit_same _ _ _ _ hb
      · exact (State.bit_setBit_apart _ _ b i true hb hib).trans hi
    · exact s.setN_pendKept (.inl (pioErr_mid he).2) _
  have heq : s.pioErr e b = u.raise (0x3080 + 4 * e + 2) := by rw [hu]; rfl
  rw [heq]
  exact ⟨hset.trans hraise, hraise.err b (hu ▸ State.bit_setBit_same _ _ _ _ hb)⟩

/-- An engine stops with an error (R195): its state, and the error's bit. -/
structure PioStopped (e b : Nat) (s t : State) : Prop where
  pio : t.pio e = (s.pio e).stopped
  err : t.bit (Reg.PIO_ERR e) b = true

theorem PioStopped.noted {b : Nat} {t u : State} (h : PioStopped e b s t) (g : PioNoted e t u) : PioStopped e b s u :=
  ⟨(g.pio e).trans h.pio, g.err b h.err⟩

theorem State.stopAt_spec (s : State) (he : e < 128) {b : Nat} (hb : b < 32) : PioStopped e b s (s.stopAt e b) ∧
    ∀ r, 0x10000 ≤ r → r < 0xA2040 → r ≠ Reg.PIO_ERR e → (s.stopAt e b).reg r = s.reg r := by
  obtain ⟨hpio, hregs⟩ := s.stopPio_spec e
  obtain ⟨hnoted, herr⟩ := (s.stopPio e).pioErr_noted he hb
  exact ⟨⟨(hnoted.pio e).trans hpio, herr⟩, fun r h1 h2 h3 => (hnoted.reg r h1 h2 h3).trans (State.reg_of_regs hregs r)⟩

theorem State.stopReject_spec (s : State) (he : e < 128) {b : Nat} (hb : b < 32) (always : Bool) : PioStopped e b s (s.stopReject e b always) := by
  have hstop := (s.stopAt_spec he hb).1
  simp only [State.stopReject]
  split
  · exact hstop.noted (State.pioLog_noted _ he ..)
  · exact hstop

/-- The stall registers and the source of a stall (R189, R194). -/
theorem State.noteStall_spec (s : State) (he : e < 128) (cause t : Nat) : let u := s.noteStall e cause t
    (∀ f, u.pio f = s.pio f) ∧ (∀ i, s.bit (Reg.PIO_ERR e) i = true → u.bit (Reg.PIO_ERR e) i = true) ∧
    u.fld (Reg.PIO_STALL_INFO e) 0 2 = cause % 4 ∧ u.pair (Reg.PIO_STALL_L e) (Reg.PIO_STALL_H e) = t % 2 ^ 64 ∧
      u.srcPend (0x3080 + 4 * e) = true := by
  obtain ⟨a, ha⟩ : ∃ a, a = s.setPair (Reg.PIO_STALL_L e) (Reg.PIO_STALL_H e) t := ⟨_, rfl⟩
  obtain ⟨b, hb⟩ : ∃ b, b = a.setFld (Reg.PIO_STALL_INFO e) 0 7 (cause + (a.pio e).pc * 4) := ⟨_, rfl⟩
  obtain ⟨c, hc⟩ : ∃ c, c = b.incWrap (Reg.PIO_STALL_INFO e) 16 16 := ⟨_, rfl⟩
  obtain ⟨d, hd⟩ : ∃ d, d = c.raise (0x3080 + 4 * e) := ⟨_, rfl⟩
  obtain ⟨u, hu⟩ : ∃ u, u = d.pioNote e t Code.pioStall cause 0 := ⟨_, rfl⟩
  have heq : s.noteStall e cause t = u := by rw [hu, hd, hc, hb, ha]; rfl
  have hcd : PioNoted e c d := hd ▸ (c.raise_midKept _).noted he (State.pios_of_wipe (c.raise_wipe0 _) rfl) (c.raise_pendKept _)
  have hdu : PioNoted e d u := hu ▸ d.pioNote_noted he ..
  have hcu := hcd.trans hdu
  have hinfo : 0x10000 ≤ Reg.PIO_STALL_INFO e ∧ Reg.PIO_STALL_INFO e < 0xA2040 := pioReg_mid he (o := 0x54) (by decide)
  have hlow : 0x10000 ≤ Reg.PIO_STALL_L e ∧ Reg.PIO_STALL_L e < 0xA2040 := pioReg_mid he (o := 0x4c) (by decide)
  have hhigh : 0x10000 ≤ Reg.PIO_STALL_H e ∧ Reg.PIO_STALL_H e < 0xA2040 := pioReg_mid he (o := 0x50) (by decide)
  have hpair : c.pair (Reg.PIO_STALL_L e) (Reg.PIO_STALL_H e) = t % 2 ^ 64 := by
    have hreg (r : Nat) (hr : r ≠ Reg.PIO_STALL_INFO e) : c.reg r = a.reg r := by
      rw [hc, State.incWrap, State.reg_setFld_other _ hr, hb, State.reg_setFld_other _ hr]
    rw [State.pair_of_reg (hreg _ (by simp)) (hreg _ (by simp)), ha]
    exact State.pair_setPair_mod _ (by simp) _
  have hcause : c.fld (Reg.PIO_STALL_INFO e) 0 2 = cause % 4 := by
    have hseven : b.fld (Reg.PIO_STALL_INFO e) 0 7 = (cause + (a.pio e).pc * 4) % 2 ^ 7 := hb ▸ State.fld_setFld_same _ _ _ _ _ (by decide)
    have htwo (v : Nat) : bits v 0 2 = bits v 0 7 % 4 := by simp only [bits]; omega
    rw [hc, State.incWrap, State.fld_setFld_apart _ _ _ _ _ _ _ (by decide) (by decide), State.fld, htwo]
    rw [State.fld] at hseven
    rw [hseven]
    omega
  have hcpio (f : Nat) : c.pio f = s.pio f := by rw [hc, hb, ha]; rfl
  have hcerr : c.reg (Reg.PIO_ERR e) = s.reg (Reg.PIO_ERR e) := by
    rw [hc, State.incWrap, State.reg_setFld_other _ (by simp), hb, State.reg_setFld_other _ (by simp), ha,
      State.reg_setPair_other _ (by simp) (by simp)]
  show (∀ f, (s.noteStall e cause t).pio f = s.pio f) ∧ _
  rw [heq]
  refine ⟨fun f => (hcu.pio f).trans (hcpio f), fun i hi => hcu.err i ((State.bit_of_reg hcerr i).trans hi), ?_, ?_, ?_⟩
  · exact (State.fld_of_reg (hcu.reg _ hinfo.1 hinfo.2 (by simp)) ..).trans hcause
  · exact (State.pair_of_reg (hcu.reg _ hlow.1 hlow.2 (by simp)) (hcu.reg _ hhigh.1 hhigh.2 (by simp))).trans hpair
  · exact hdu.pend.kept _ (by omega) (hd ▸ State.srcPend_raise _ _)

end Stop

end Sys2Proof.Machine

/-! O35: the instruction at PC is reached (R183, R185, R187, R188), waits and their ends (R189, R194). -/

namespace Sys2Proof.Machine

open Sys2Proof

section Rows
variable {s : State} {e : Nat}

/-- The rows of the operations, in the order of their codes. -/
def pioRows (e : Nat) : List Instr :=
  [Instr.pioLevel e, .pioDirInsn e, .pioXmit e, .pioSamp e 0, .pioLoad e, .pioStore e, .pioPinw e, .pioCmpInsn e]

theorem exec_pioRow (he : e < 128) {op : Nat} {i : Instr} (h : (pioRows e)[op]? = some i) : exec i s = .next (s.pioRow e op 0) := by
  have hon (t : State) : onUnit (okEngine e) t = .next t := onUnit_of (decide_eq_true he) t
  match op, h with
  | 0, h => obtain rfl := Option.some.inj h; exact hon _
  | 1, h => obtain rfl := Option.some.inj h; exact hon _
  | 2, h => obtain rfl := Option.some.inj h; exact hon _
  | 3, h => obtain rfl := Option.some.inj h; exact hon _
  | 4, h => obtain rfl := Option.some.inj h; exact hon _
  | 5, h => obtain rfl := Option.some.inj h; exact hon _
  | 6, h => obtain rfl := Option.some.inj h; exact hon _
  | 7, h => obtain rfl := Option.some.inj h; exact hon _

/-- The operation and the operand of the instruction at PC. -/
def State.curOp (s : State) (e : Nat) : Nat := bits (s.imem e (s.pio e).pc) 0 3
def State.curOpnd (s : State) (e : Nat) : Nat := bits (s.imem e (s.pio e).pc) 8 8
def State.curAt (s : State) (e : Nat) : Bool := bitAt (s.imem e (s.pio e).pc) 3

/-- The engine is at the boundary of its next instruction; a STORE has its samples, or an AT time to await first. -/
structure State.insnDue (s : State) (e : Nat) : Prop where
  service : s.service = true
  runs : (s.pio e).st = 1
  idle : (s.pio e).busy = false
  fed : (s.pio e).needAt = none
  bound : s.reached (s.boundary e (s.pio e).bit) = true
  store : s.curOp e = 5 → (s.curAt e = true ∧ (s.pio e).atMet = false) ∨ ((s.pio e).lastSample = none ∧ (s.pio e).samples = [])

/-- The row of the instruction at PC reaches it, in the state as it is or, for a STORE, as it waits for no sample. -/
theorem State.pioRow_due (h : s.insnDue e) : ∃ u : State, s.pioRow e (s.curOp e) 0 = u.reachInsn e 0 ∧ u.pio e = s.pio e ∧ u.regs = s.regs ∧
    (s.curAt e = true → (s.pio e).atMet = false → u = s) := by
  obtain ⟨hserv, hrun, hidle, hfed, hbound, hstore⟩ := h
  have hno : ¬(s.service = false ∨ (s.pio e).st ≠ 1 ∨ (s.pio e).busy = true ∨ (s.pio e).needAt.isSome = true ∨
      s.reached (s.boundary e (s.pio e).bit) = false ∨ bits (s.imem e (s.pio e).pc) 0 3 ≠ s.curOp e) := by
    rw [hserv, hrun, hidle, hfed, hbound, State.curOp]
    simp
  by_cases hst : s.curOp e = 5 ∧ (s.curAt e = false ∨ (s.pio e).atMet = true)
  · have hready : (s.pio e).lastSample = none ∧ (s.pio e).samples = [] := by
      rcases hstore hst.1 with h | h
      · obtain ⟨hat, hmet⟩ := h
        rw [hat, hmet] at hst
        exact absurd hst.2 (by decide)
      · exact h
    have hwait : s.sampleWait e = some (s.pio e).bit := by
      simp only [State.sampleWait, hready, ne_eq, not_true_eq_false, if_false]
    refine ⟨s.setPio e (s.pio e), ?_, (State.pio_setPio ..).trans (if_pos rfl), rfl, fun hat hmet => ?_⟩
    · rw [State.pioRow]
      refine (if_neg hno).trans ((if_pos hst).trans ?_)
      rw [hwait]
      exact if_pos hbound
    · rw [hat, hmet] at hst
      exact absurd hst.2 (by decide)
  · refine ⟨s, ?_, rfl, rfl, fun _ _ => rfl⟩
    rw [State.pioRow]
    exact (if_neg hno).trans (if_neg hst)

/-- A reserved field of the instruction at PC is not 0 (R183). -/
def State.curBad (s : State) (e : Nat) : Prop :=
  (s.curOp e = 4 ∧ s.curOpnd e ≠ 0) ∨ (s.curOp e = 5 ∧ s.curOpnd e ≠ 0) ∨ (s.curOp e = 6 ∧ s.curOpnd e % 8 ≠ 0) ∨ (s.curOp e = 7 ∧ 4 ≤ s.curOpnd e)

theorem badInsn_iff (op opnd : Nat) : badInsn op opnd = true ↔
    (op = 4 ∧ opnd ≠ 0) ∨ (op = 5 ∧ opnd ≠ 0) ∨ (op = 6 ∧ opnd % 8 ≠ 0) ∨ (op = 7 ∧ 4 ≤ opnd) := by
  unfold badInsn
  split
  · rw [decide_eq_true_iff]
    omega
  split
  · rw [decide_eq_true_iff]
    omega
  split
  · rw [decide_eq_true_iff]
    omega
  · simp only [Bool.false_eq_true, false_iff]
    omega

/-- The instruction at PC names a pin outside the set (R185). -/
def State.curOutside (s : State) (e : Nat) : Prop :=
  (s.curOp e = 2 ∨ s.curOp e = 3 ∨ s.curOp e = 6) ∧ (s.pio e).count ≤ s.curOpnd e / 32

theorem State.reachInsn_bad (h : s.curBad e) : s.reachInsn e 0 = s.stopReject e 8 true := if_pos ((badInsn_iff ..).mpr h)

theorem State.reachInsn_outside (h : ¬s.curBad e) (ho : s.curOutside e) : s.reachInsn e 0 = s.stopReject e 9 false :=
  (if_neg (mt (badInsn_iff ..).mp h)).trans (if_pos ho)

theorem State.reachInsn_at (h : ¬s.curBad e) (ho : ¬s.curOutside e) (hat : s.curAt e = true) (hmet : (s.pio e).atMet = false) :
    s.reachInsn e 0 = if s.ahead (s.pioAt e) 128 then s.setPio e { s.pio e with st := 2 } else s.lateAt e 0 :=
  (if_neg (mt (badInsn_iff ..).mp h)).trans ((if_neg ho).trans (if_pos ⟨hat, hmet⟩))

/-- An AT time that has passed stops the engine where ATLATE is set (R188). -/
theorem State.lateAt_stops (he : e < 128) (hcfg : s.bit (Reg.PIO_CFG e) 7 = true) : PioStopped e 2 s (s.lateAt e 0) := by
  have heq : s.lateAt e 0 = (s.stopAt e 2).pioNote e (s.pioAt e) Code.queueLate 0 0 := if_pos hcfg
  rw [heq]
  exact (s.stopAt_spec he (by decide)).1.noted (State.pioNote_noted _ he ..)

/-! ### The AT time comes (R187) -/

/-- The engine goes on at its AT time: the bit clock restarts there and PIO_AT steps on. -/
def State.atCome (s : State) (e : Nat) : State :=
  (((s.setPio e { s.pio e with st := 1, atMet := true }).reclock e (s.pioAt e))).setPioAt e (s.pioAt e + s.pioStep e)

theorem State.atReached_eq (hserv : s.service = true) (hst : (s.pio e).st = 2) (hcome : s.reached (s.pioAt e) = true) :
    s.atReached e = if s.curOp e = 3 ∨ (s.curOp e = 5 ∧ (s.pio e).samples ≠ []) then s.atCome e else (s.atCome e).reachInsn e 0 :=
  if_neg (by rw [hserv, hst, hcome]; simp)

theorem State.atCome_spec (s : State) (e : Nat) : (s.atCome e).pio e = { s.pio e with st := 1, atMet := true, clk0 := s.pioAt e, bit := 0 } ∧
    (s.atCome e).pair (Reg.PIO_AT_L e) (Reg.PIO_AT_H e) = (s.pioAt e + s.pioStep e) % s.circle % 2 ^ 64 ∧
    (∀ r, r ≠ Reg.PIO_AT_L e → r ≠ Reg.PIO_AT_H e → (s.atCome e).reg r = s.reg r) ∧
    s.atCome e = { s with regs := (s.atCome e).regs, pios := (s.atCome e).pios } := by
  obtain ⟨u, hu⟩ : ∃ u, u = s.setPio e { s.pio e with st := 1, atMet := true } := ⟨_, rfl⟩
  obtain ⟨v, hv⟩ : ∃ v, v = u.setPio e { u.pio e with clk0 := s.pioAt e, bit := 0 } := ⟨_, rfl⟩
  obtain ⟨n, hn⟩ : ∃ n, n = (s.pioAt e + s.pioStep e) % s.circle := ⟨_, rfl⟩
  obtain ⟨t, ht⟩ : ∃ t, t = v.setPair (Reg.PIO_AT_L e) (Reg.PIO_AT_H e) n := ⟨_, rfl⟩
  have hupio : u.pio e = { s.pio e with st := 1, atMet := true } := hu ▸ (State.pio_setPio ..).trans (if_pos rfl)
  have hvpio : v.pio e = { s.pio e with st := 1, atMet := true, clk0 := s.pioAt e, bit := 0 } := by
    rw [hv, State.pio_setPio, if_pos rfl, hupio]
  have hvreg (r : Nat) : v.reg r = s.reg r := by rw [hv, hu]; rfl
  have hcircle : v.circle = s.circle := by rw [hv, hu]; rfl
  have heq : s.atCome e = t := by
    have hmod : s.atCome e = v.setPair (Reg.PIO_AT_L e) (Reg.PIO_AT_H e) ((s.pioAt e + s.pioStep e) % v.circle) := by
      rw [hv, hu]
      rfl
    rw [hmod, hcircle, ← hn, ht]
  have honly : OnlyRegs [Reg.PIO_AT_L e, Reg.PIO_AT_H e] v t := ht ▸ (OnlyRegs.refl _ _).setPair (by simp) (by simp) _
  obtain ⟨q, hq⟩ : ∃ q, v = { s with pios := q } := ⟨_, by rw [hv, hu]; rfl⟩
  obtain ⟨x, hx⟩ : ∃ x, t = { v with regs := x } := ⟨_, honly.1⟩
  have hpios : t.pios = v.pios := by rw [hx]
  rw [heq]
  refine ⟨?_, ?_, fun r hl hh => ?_, ?_⟩
  · rw [State.pio, hpios]
    exact hvpio
  · rw [ht, ← hn]
    exact State.pair_setPair_mod _ (by simp) _
  · exact (honly.2 r (by simp [hl, hh])).trans (hvreg r)
  · rw [hx, hq]

/-! ### Waits on a pin (R189) -/

theorem State.pinReached_eq (hserv : s.service = true) (hst : (s.pio e).st = 3)
    (hreads : s.pinReads ((s.pio e).base + bits (s.pio e).insn 8 8 / 32) (bitAt (bits (s.pio e).insn 8 8) 4) = true) :
    s.pinReached e = if bitAt (bits (s.pio e).insn 8 8) 3 then (s.reclock e (s.plus s.tb.now 16)).begin e 0
      else (s.setPio e { s.pio e with bit := s.nextBit e (s.plus s.tb.now 1) }).begin e 0 := by
  have hno : ¬(s.service = false ∨ (s.pio e).st ≠ 3 ∨
      s.pinReads (s.pin e (bits (s.pio e).insn 8 8 / 32)) (bitAt (bits (s.pio e).insn 8 8) 4) = false) := by
    rw [hserv, hst, State.pin, hreads]
    simp
  exact if_neg hno

/-- The engine goes on with an instruction of one period from a boundary of its clock. -/
theorem State.begin_set (s : State) (e : Nat) (k : Pio) : ((s.setPio e k).begin e 0).pio e =
      { k with st := 1, busy := true, atMet := false, todo := 0, rest := bits k.insn 4 4 } ∧
    (∀ f, f ≠ e → ((s.setPio e k).begin e 0).pio f = s.pio f) ∧ (s.setPio e k).begin e 0 = { s with pios := ((s.setPio e k).begin e 0).pios } := by
  have hk : (s.setPio e k).pio e = k := (State.pio_setPio ..).trans (if_pos rfl)
  refine ⟨?_, fun f hf => ?_, rfl⟩
  · rw [State.begin, State.pio_setPio, if_pos rfl, hk]
  · rw [State.begin, State.pio_setPio, if_neg hf, State.pio_setPio, if_neg hf]

theorem State.pinLate_eq (hserv : s.service = true) (hst : (s.pio e).st = 3) (hlimit : (s.pio e).wto ≠ 0)
    (hcome : s.reached (s.boundary e ((s.pio e).waitFrom + ((s.pio e).wto - (s.pio e).waited))) = true) :
    s.pinLate e = (s.stopAt e 5).noteStall e 2 (s.pio e).waitAt :=
  if_neg (by rw [hserv, hst, hcome]; simp [hlimit])

/-! ### Stalls (R194) -/

theorem State.stallOver_eq (hserv : s.service = true) (hst : (s.pio e).st = 4) (hfed : (s.pio e).fed = true)
    (hcome : s.reached (s.boundary e (s.pio e).bit) = true) : s.stallOver e =
    let u := s.setPio e { s.pio e with fed := false }
    (if u.stalledLoad e then u.takeTx e else u.giveRx e).onePeriod e :=
  if_neg (by rw [hserv, hst, hfed, hcome]; simp)

/-- The clock pin's rest changes no engine (R186). -/
theorem State.restClock_pios (s : State) (e cfg t : Nat) : (s.restClock e cfg t).pios = s.pios :=
  State.pios_of_wipe (s.restClock_edgeFields e cfg t) rfl

theorem State.onePeriod_pio (s : State) (e : Nat) : (s.onePeriod e).pio e = (s.pio e).inPeriod 0 := by
  obtain ⟨u, hu⟩ : ∃ u, u = s.begin e 0 := ⟨_, rfl⟩
  have hupio : u.pio e = { s.pio e with st := 1, busy := true, atMet := false, todo := 0, rest := bits (s.pio e).insn 4 4 } :=
    hu ▸ (State.pio_setPio ..).trans (if_pos rfl)
  obtain ⟨v, hv⟩ : ∃ v, v = u.setPio e { u.pio e with bit := (u.pio e).bit + 1 } := ⟨_, rfl⟩
  have hvpio : v.pio e = (s.pio e).inPeriod 0 := by
    rw [hv, State.pio_setPio, if_pos rfl, hupio]
    rfl
  obtain ⟨t, ht⟩ : ∃ t, s.onePeriod e = v.restClock e (u.pio e).cfg t := ⟨_, by rw [hv, hu]; rfl⟩
  rw [ht, State.pio, State.restClock_pios]
  exact hvpio

end Rows

end Sys2Proof.Machine

namespace Sys2Proof.Machine

open Sys2Proof

section Reached
variable {s u : State} {e : Nat}

/-- What an engine reads of its instruction rests on its own state and the registers. -/
theorem State.curInsn_of (hpio : u.pio e = s.pio e) (hregs : u.regs = s.regs) : u.imem e (u.pio e).pc = s.imem e (s.pio e).pc := by
  rw [hpio]
  exact State.fld_of_reg (State.reg_of_regs hregs _) ..

theorem State.curBad_of (hpio : u.pio e = s.pio e) (hregs : u.regs = s.regs) : u.curBad e ↔ s.curBad e := by
  simp only [State.curBad, State.curOp, State.curOpnd, State.curInsn_of hpio hregs]

theorem State.curOutside_of (hpio : u.pio e = s.pio e) (hregs : u.regs = s.regs) : u.curOutside e ↔ s.curOutside e := by
  simp only [State.curOutside, State.curOp, State.curOpnd, State.curInsn_of hpio hregs]
  rw [hpio]

/-- A reserved field, or a pin outside the set, stops the engine at the instruction (R183, R185). -/
theorem State.pioRow_bad (he : e < 128) (h : s.insnDue e) (hbad : s.curBad e) : PioStopped e 8 s (s.pioRow e (s.curOp e) 0) := by
  obtain ⟨u, hu, hpio, hregs, -⟩ := State.pioRow_due h
  rw [hu, State.reachInsn_bad ((State.curBad_of hpio hregs).mpr hbad)]
  obtain ⟨hstop, herr⟩ := u.stopReject_spec he (b := 8) (by decide) true
  exact ⟨hstop.trans (by rw [hpio]), herr⟩

theorem State.pioRow_outside (he : e < 128) (h : s.insnDue e) (hbad : ¬s.curBad e) (hout : s.curOutside e) :
    PioStopped e 9 s (s.pioRow e (s.curOp e) 0) := by
  obtain ⟨u, hu, hpio, hregs, -⟩ := State.pioRow_due h
  rw [hu, State.reachInsn_outside (mt (State.curBad_of hpio hregs).mp hbad) ((State.curOutside_of hpio hregs).mpr hout)]
  obtain ⟨hstop, herr⟩ := u.stopReject_spec he (b := 9) (by decide) false
  exact ⟨hstop.trans (by rw [hpio]), herr⟩

/-- An instruction with AT awaits its time, or comes too late for it (R187, R188). -/
theorem State.pioRow_at (h : s.insnDue e) (hbad : ¬s.curBad e) (hout : ¬s.curOutside e) (hat : s.curAt e = true) (hmet : (s.pio e).atMet = false) :
    s.pioRow e (s.curOp e) 0 = if s.ahead (s.pioAt e) 128 then s.setPio e { s.pio e with st := 2 } else s.lateAt e 0 := by
  obtain ⟨u, hu, -, -, hus⟩ := State.pioRow_due h
  rw [hu, hus hat hmet, State.reachInsn_at hbad hout hat hmet]

end Reached

/-- Settles O35, row by row. -/
theorem pioWaitsAndStops : Obligations.PioWaitsAndStops := by
  intro s e he k x op opnd at_ step row due reserved outside limit held
  have hdue (h : due) : s.insnDue e := by
    obtain ⟨h1, h2, h3, h4, h5, h6⟩ := h
    exact ⟨h1, h2, h3, h4, h5, h6⟩
  refine ⟨?bad, ?outside, ?awaits, ?come, ?reached, ?late, ?served⟩
  case bad =>
    intro i hi hd hbad
    obtain ⟨hpio, herr⟩ := State.pioRow_bad he (hdue hd) hbad
    exact ⟨_, exec_pioRow he hi, congrArg Pio.st hpio, (congrArg Pio.pc hpio).trans rfl, herr, (congrArg Pio.tx hpio).trans rfl, (congrArg Pio.rx hpio).trans rfl⟩
  case outside =>
    intro i hi hd hbad hout
    obtain ⟨hpio, herr⟩ := State.pioRow_outside he (hdue hd) hbad hout
    exact ⟨_, exec_pioRow he hi, congrArg Pio.st hpio, (congrArg Pio.pc hpio).trans rfl, herr⟩
  case awaits =>
    intro i hi hd hbad hout hat hmet
    have hrow := State.pioRow_at (hdue hd) hbad hout hat hmet
    refine ⟨fun hahead => (exec_pioRow he hi).trans (congrArg _ (hrow.trans (if_pos hahead))), fun hlate hcfg => ?_⟩
    have hno : ¬s.ahead (s.pioAt e) 128 = true := by
      rw [show s.ahead (s.pioAt e) 128 = false from hlate]
      decide
    obtain ⟨hpio, herr⟩ := State.lateAt_stops (s := s) he hcfg
    exact ⟨_, (exec_pioRow he hi).trans (congrArg _ (hrow.trans (if_neg hno))), congrArg Pio.st hpio, (congrArg Pio.pc hpio).trans rfl, herr⟩
  case come =>
    intro hserv hst hcome
    obtain ⟨hpio, hpair, hreg, hframe⟩ := s.atCome_spec e
    exact ⟨s.atCome e, (onUnit_of (decide_eq_true he) _).trans (congrArg _ (State.atReached_eq hserv hst hcome)), hpio, hpair, hreg, hframe⟩
  case reached =>
    intro hserv hst hreads
    have hexec : exec (.pinwReached e) s = .next (s.pinReached e) := onUnit_of (decide_eq_true he) _
    have heq := State.pinReached_eq hserv hst hreads
    by_cases h3 : bitAt held 3 = true
    · obtain ⟨hpio, hothers, hframe⟩ := s.begin_set e { s.pio e with clk0 := s.plus s.tb.now 16, bit := 0 }
      exact ⟨_, hexec.trans (congrArg _ (heq.trans (if_pos h3))), hpio.trans (if_pos h3).symm, hothers, hframe⟩
    · obtain ⟨hpio, hothers, hframe⟩ := s.begin_set e { s.pio e with bit := s.nextBit e (s.plus s.tb.now 1) }
      exact ⟨_, hexec.trans (congrArg _ (heq.trans (if_neg h3))), hpio.trans (if_neg h3).symm, hothers, hframe⟩
  case late =>
    intro hserv hst hlimit hcome
    have hexec : exec (.pinwTimeout e) s = .next (s.pinLate e) := onUnit_of (decide_eq_true he) _
    obtain ⟨⟨hstop, herr⟩, -⟩ := s.stopAt_spec he (b := 5) (by decide)
    obtain ⟨hpio, herrs, hcause, htime, hpend⟩ := (s.stopAt e 5).noteStall_spec he 2 (s.pio e).waitAt
    exact ⟨_, hexec.trans (congrArg _ (State.pinLate_eq hserv hst hlimit hcome)), by rw [hpio, hstop]; rfl, by rw [hpio, hstop]; rfl, herrs 5 herr,
      hcause, htime, hpend⟩
  case served =>
    intro hserv hst hfed hcome
    have hexec : exec (.stallEnd e) s = .next (s.stallOver e) := onUnit_of (decide_eq_true he) _
    obtain ⟨u, hu⟩ : ∃ u, u = s.setPio e { s.pio e with fed := false } := ⟨_, rfl⟩
    have hupio : u.pio e = { s.pio e with fed := false } := hu ▸ (State.pio_setPio ..).trans (if_pos rfl)
    have heq : s.stallOver e = (if u.stalledLoad e then u.takeTx e else u.giveRx e).onePeriod e := by
      rw [hu]
      exact State.stallOver_eq hserv hst hfed hcome
    have hcause : u.fld (Reg.PIO_STALL_INFO e) 0 2 = s.fld (Reg.PIO_STALL_INFO e) 0 2 := by rw [hu]; rfl
    refine ⟨fun hload w r htx => ?_, fun hstore hport hlog => ?_⟩
    · have hl : u.stalledLoad e = true := decide_eq_true (hcause.trans hload)
      have htake : (u.takeTx e).pio e = { s.pio e with fed := false, txsr := w, txcnt := 32, tx := r } := by
        have htx' : (s.pio e).tx = w :: r := htx
        rw [State.takeTx, State.pio_setPio, if_pos rfl, hupio]
        simp only [htx', List.headD_cons, List.tail_cons]
      refine ⟨_, hexec.trans (congrArg _ (heq.trans (congrArg (State.onePeriod · e) (if_pos hl)))), ?_⟩
      rw [State.onePeriod_pio, htake]
    · have hl : ¬u.stalledLoad e = true := by
        rw [State.stalledLoad, hcause, hstore]
        decide
      have hgive : (u.giveRx e).pio e = { s.pio e with fed := false, rx := (s.pio e).rx ++ [(s.pio e).rxsr], rxsr := 0, rxcnt := 0 } := by
        have hport' : (u.pio e).forPort = none := by rw [hupio]; exact hport
        have hlog' : bitAt (u.pio e).cfg 8 = false := by rw [hupio]; exact hlog
        have hset : u.giveRx e = (u.setPio e { u.pio e with rx := (u.pio e).rx ++ [(u.pio e).rxsr] }).setPio e
            { (u.setPio e { u.pio e with rx := (u.pio e).rx ++ [(u.pio e).rxsr] }).pio e with rxsr := 0, rxcnt := 0 } := by
          simp only [State.giveRx, hport', hlog', Bool.false_eq_true, if_false]
        rw [hset, State.pio_setPio, if_pos rfl, State.pio_setPio, if_pos rfl, hupio]
      refine ⟨_, hexec.trans (congrArg _ (heq.trans (congrArg (State.onePeriod · e) (if_neg hl)))), ?_⟩
      rw [State.onePeriod_pio, hgive]

end Sys2Proof.Machine

/-! O58: the registers of the pages GLB, CLK, PWR and TB stay while the heads of FIFOs are judged (R93-R95, R121). -/

namespace Sys2Proof.Machine

open Sys2Proof

/-- The registers of pages 0 to 3 stay. -/
structure BaseKept (s t : State) : Prop where
  reg : ∀ k < 0x4000, t.reg k = s.reg k

section Rules
variable {s t u : State}

theorem BaseKept.refl (s : State) : BaseKept s s := ⟨fun _ _ => rfl⟩

theorem BaseKept.trans (h : BaseKept s t) (g : BaseKept t u) : BaseKept s u := ⟨fun k hk => (g.reg k hk).trans (h.reg k hk)⟩

theorem BaseKept.of_regs (h : t.regs = s.regs) : BaseKept s t := ⟨fun k _ => State.reg_of_regs h k⟩

theorem BaseKept.of_low (h : LowRegsKept s t) : BaseKept s t := ⟨fun k hk => h k (by omega)⟩

theorem BaseKept.foldl {α : Type} {g : State → α → State} {l : List α} (h : ∀ s, ∀ x ∈ l, BaseKept s (g s x)) (s : State) :
    BaseKept s (l.foldl g s) :=
  List.foldlRecOn (motive := fun u : State => BaseKept s u) l g (.refl s) fun u hu x hx => hu.trans (h u x hx)

theorem BaseKept.ite {c : Prop} [Decidable c] (h : c → BaseKept s t) (g : ¬c → BaseKept s u) : BaseKept s (if c then t else u) :=
  iteInduction (motive := BaseKept s) h g

theorem BaseKept.ite_fst {c : Prop} [Decidable c] {p r : State × Bool} (h : c → BaseKept s p.1) (g : ¬c → BaseKept s r.1) :
    BaseKept s (if c then p else r).1 := iteInduction (motive := fun x : State × Bool => BaseKept s x.1) h g

theorem BaseKept.pend (h : BaseKept s t) {r : Nat} (hr : r < 0x4000) : t.reg r = s.reg r := h.reg r hr

end Rules

section Steps
variable (s : State)

theorem State.setN_base {k : Nat} (hk : 0x4000 ≤ k) (v : Nat) : BaseKept s (s.setN k v) := ⟨fun j hj => s.reg_setN_other (by omega) v⟩

theorem State.setBit_base {k : Nat} (hk : 0x4000 ≤ k) (i : Nat) (b : Bool) : BaseKept s (s.setBit k i b) := s.setN_base hk _

theorem State.raise_base (id : Nat) : BaseKept s (s.raise id) := by
  have hpend : BaseKept s ((s.notePend id).setSrcPend id true) :=
    (BaseKept.of_regs (State.regs_of_wipe (s.notePend_wipe0 id) rfl)).trans (State.setBit_base _ (by simp only [Reg.HVC_PEND]; omega) _ _)
  simp only [State.raise]
  split
  · exact hpend.trans (.of_regs (State.regs_of_wipe (State.deliver_wipe0 _ id) rfl))
  · exact hpend.trans (.of_regs (State.setSrc_regs ..))

end Steps

end Sys2Proof.Machine

/-! What the judging of heads leaves of the settings (R93-R95, R121): the registers of the pages GLB, CLK, PWR and TB, those of the
sleeves outside their cuffs and the configurations of the cuffs stay, and no pending bit of an HVC source is cleared. -/

namespace Sys2Proof.Machine

open Sys2Proof

/-- A register of pages 0 to 3, a sleeve's own register, or the configuration of a cuff. -/
def IsSetting (k : Nat) : Prop :=
  k < 0x4000 ∨ 0x10000 ≤ k ∧ k < 0x30000 ∧ (k % 0x1000 < 0x400 ∨ (k % 0x1000 - 0x400) % 0x60 = 0)

/-- The settings stay, and what was pending stays pending. -/
structure SettingsKept (s t : State) : Prop where
  reg : ∀ k, IsSetting k → t.reg k = s.reg k
  pend : PendKept s t

section Rules
variable {s t u : State}

theorem SettingsKept.refl (s : State) : SettingsKept s s := ⟨fun _ _ => rfl, .refl s⟩

theorem SettingsKept.trans (h : SettingsKept s t) (g : SettingsKept t u) : SettingsKept s u :=
  ⟨fun k hk => (g.reg k hk).trans (h.reg k hk), h.pend.trans g.pend⟩

theorem SettingsKept.of_regs (h : t.regs = s.regs) : SettingsKept s t := ⟨fun k _ => State.reg_of_regs h k, .of_regs h⟩

theorem SettingsKept.base (h : SettingsKept s t) : BaseKept s t := ⟨fun k hk => h.reg k (.inl hk)⟩

theorem SettingsKept.foldl {α : Type} {g : State → α → State} {l : List α} (h : ∀ s, ∀ x ∈ l, SettingsKept s (g s x)) (s : State) :
    SettingsKept s (l.foldl g s) :=
  List.foldlRecOn (motive := fun u : State => SettingsKept s u) l g (.refl s) fun u hu x hx => hu.trans (h u x hx)

theorem SettingsKept.ite {c : Prop} [Decidable c] (h : c → SettingsKept s t) (g : ¬c → SettingsKept s u) :
    SettingsKept s (if c then t else u) := iteInduction (motive := SettingsKept s) h g

theorem SettingsKept.ite_fst {c : Prop} [Decidable c] {p r : State × Bool} (h : c → SettingsKept s p.1) (g : ¬c → SettingsKept s r.1) :
    SettingsKept s (if c then p else r).1 := iteInduction (motive := fun x : State × Bool => SettingsKept s x.1) h g

end Rules

/-! ### Registers, records and walks -/

section Steps
variable (s : State)

/-- A register that the judging of heads may write. -/
abbrev Unsettled (k : Nat) : Prop := 0x4000 ≤ k ∧ k < 0x10000 ∨ 0x30000 ≤ k ∧ k < 0xA2040 ∨ 0xA2840 ≤ k

theorem State.setN_settings {k : Nat} (hk : Unsettled k) (v : Nat) : SettingsKept s (s.setN k v) :=
  ⟨fun j hj => s.reg_setN_other (by simp only [IsSetting] at hj; omega) v, s.setN_pendKept (by omega) v⟩

theorem State.setBit_settings {k : Nat} (hk : Unsettled k) (i : Nat) (b : Bool) : SettingsKept s (s.setBit k i b) := s.setN_settings hk _

theorem State.setFld_settings {k : Nat} (hk : Unsettled k) (lo n v : Nat) : SettingsKept s (s.setFld k lo n v) := s.setN_settings hk _

/-- Setting a bit clears no pending bit, wherever it stands. -/
theorem State.setTrue_pendKept (k : Nat) {i : Nat} (hi : i < 32) : PendKept s (s.setBit k i true) := by
  refine ⟨fun id _ hp => ?_⟩
  by_cases hk : Reg.HVC_PEND (id / 32) = k
  · subst hk
    by_cases hbit : id % 32 = i
    · exact (congrArg (State.bit _ _) hbit).trans (s.bit_setBit_same _ _ true hi)
    · exact (s.bit_setBit_apart _ i _ true hi hbit).trans hp
  · exact (s.bit_setBit_other hk ..).trans hp

theorem State.setTrue_settings {k i : Nat} (hk : ¬IsSetting k) (hi : i < 32) : SettingsKept s (s.setBit k i true) :=
  ⟨fun j hj => s.reg_setBit_other (fun h : j = k => hk (h ▸ hj)) i true, s.setTrue_pendKept k hi⟩

/-- A bit of a register beyond the sleeves' pages. -/
theorem State.reg_setSrcPend {k : Nat} (hk : IsSetting k) (id : Nat) (b : Bool) : (s.setSrcPend id b).reg k = s.reg k :=
  s.reg_setN_other (by simp only [IsSetting] at hk; simp only [Reg.HVC_PEND]; omega) _

theorem State.raise_settings (id : Nat) : SettingsKept s (s.raise id) := by
  refine ⟨fun k hk => ?_, s.raise_pendKept id⟩
  have hnote : ((s.notePend id).setSrcPend id true).reg k = s.reg k :=
    (State.reg_setSrcPend _ hk id true).trans (State.reg_of_regs (State.regs_of_wipe (s.notePend_wipe0 id) rfl) k)
  simp only [State.raise]
  split
  · exact (State.reg_of_regs (State.regs_of_wipe (State.deliver_wipe0 _ id) rfl) k).trans hnote
  · exact (State.reg_of_regs (State.setSrc_regs ..) k).trans hnote

theorem State.relRecord_settings (sev code kind block inst addr : Nat) : SettingsKept s (s.relRecord sev code kind block inst addr) := by
  have hset : ∀ x a b, SettingsKept s ((({ s with rel := x } : State).setN Reg.REL_LHEAD a).setN Reg.REL_LHEAD b) := fun x a b =>
    ((SettingsKept.of_regs (s := s) (t := { s with rel := x }) rfl).trans (State.setN_settings _ (by decide) a)).trans (State.setN_settings _ (by decide) b)
  simp only [State.relRecord]
  split
  · exact .refl s
  repeat' split
  · exact hset ..
  · exact (hset ..).trans (State.raise_settings ..)
  · exact (hset ..).trans (State.raise_settings ..)

theorem State.postRecord_settings (n : Nat) (r : Cpl) : SettingsKept s (s.postRecord n r) := by
  have hleave : SettingsKept s s.leaveL1 := .of_regs (State.regs_of_wipe s.leaveL1_wipe0 rfl)
  have hsend (o : Out) : SettingsKept s (s.leaveL1.send o) := hleave.trans (.of_regs rfl)
  have htail (u : State) (v : Nat) : SettingsKept u (u.setN (Reg.TEN_CPL_TAIL n) v) := u.setN_settings (by simp only [Reg.TEN_CPL_TAIL]; omega) v
  exact ((hsend _).trans (htail _ _)).trans (htail _ _)

theorem State.updFull_settings (n : Nat) : SettingsKept s (s.updFull n) := by
  have hset (b : Bool) : SettingsKept s (s.setBit (Reg.TEN_RING_STAT n) 2 b) := s.setBit_settings (by simp only [Reg.TEN_RING_STAT]; omega) _ _
  simp only [State.updFull]
  exact .ite (fun _ => (hset _).trans (State.raise_settings ..)) fun _ => hset _

theorem State.noteFault_settings (n j : Nat) (r : Cpl) : SettingsKept s (s.noteFault n j r) := by
  have hidx (u : State) (v : Nat) : SettingsKept u (u.setN (Reg.TEN_FAULT_IDX n) v) := u.setN_settings (by simp only [Reg.TEN_FAULT_IDX]; omega) v
  have hstep : SettingsKept s ((s.setFld (Reg.TEN_FAULT_IDX n) 0 6 (j + 1)).incWrap (Reg.TEN_FAULT_IDX n) 16 16) := (hidx _ _).trans (hidx _ _)
  refine SettingsKept.trans (SettingsKept.trans hstep ?_) (State.raise_settings _ _)
  exact .ite (fun _ => .refl _) fun _ => .ite (fun _ => (State.postRecord_settings ..).trans (State.updFull_settings ..)) fun _ => hidx _ _

theorem State.faultRecord_settings (n status source object detail : Nat) : SettingsKept s (s.faultRecord n status source object detail) := by
  rw [State.faultRecord_eq]
  exact (SettingsKept.foldl (fun u i _ => u.setN_settings (by simp only [Reg.TEN_FAULT]; omega) _) s).trans (State.noteFault_settings ..)

theorem State.walkCorrect_settings (n a : Nat) : SettingsKept s (s.walkCorrect n a) :=
  SettingsKept.foldl (fun u w _ => by
    split
    · have hsoft : SettingsKept u { u with eccSoft := u.eccSoft.filter (· != w) } := .of_regs rfl
      exact (hsoft.trans (State.setN_settings _ (k := Reg.SLM_ECC_CNT) (by decide) _)).trans (State.relRecord_settings ..)
    · exact .refl u) s

theorem State.walkFailed_settings (n a src code level : Nat) : SettingsKept s (s.walkFailed n a src code level) := by
  have hset (x y z : Nat) : SettingsKept s (((s.setN Reg.SLM_FAULT_INFO x).setN Reg.SLM_FAULT_ADDR y).setN Reg.SLM_FAULT_CNT z) :=
    ((s.setN_settings (by decide) x).trans (State.setN_settings _ (by decide) y)).trans (State.setN_settings _ (by decide) z)
  simp only [State.walkFailed]
  exact .ite (fun _ => (hset ..).trans (State.setN_settings _ (by decide) _)) fun _ => hset ..

theorem State.reach_settings (n a src : Nat) : SettingsKept s (s.reach n a src).left := by
  rw [State.reach]
  split
  · exact s.walkCorrect_settings n a
  · exact (s.walkCorrect_settings n a).trans (State.walkFailed_settings ..)

theorem State.slabWrite_settings (n a len v src : Nat) : SettingsKept s (s.slabWrite n a len v src).left := by
  have hreach := s.reach_settings n a src
  rw [State.slabWrite]
  split
  · next h => rwa [h] at hreach
  · next h =>
    rw [h] at hreach
    exact hreach.trans (.of_regs rfl)

theorem SettingsKept.of_write {u : State} {n a len v src : Nat} {x : Unit} (h : s.slabWrite n a len v src = .ok x u) : SettingsKept s u := by
  have hw := s.slabWrite_settings n a len v src
  rwa [h] at hw

theorem SettingsKept.of_fault {u : State} {n a len v src c : Nat} (h : s.slabWrite n a len v src = .bad c u) : SettingsKept s u := by
  have hw := s.slabWrite_settings n a len v src
  rwa [h] at hw

theorem State.stopQueue_settings (q code : Nat) : SettingsKept s (s.stopQueue q code) where
  reg _ hk := State.reg_stopQueue s q code (by simp only [IsSetting] at hk; simp only [Reg.QM_LASTERR]; omega)
  pend := s.stopQueue_pendKept q code

theorem State.setQueue_settings (q : Nat) (d : Queue) : SettingsKept s (s.setQueue q d) := .of_regs rfl

/-- A record in a log queue writes no register of these pages (R88, R101). -/
theorem State.logRecord_settings (q v mb : Nat) : SettingsKept s (s.logRecord q v mb) := by
  have hfault (u : State) : SettingsKept u (u.descFault q) :=
    (((u.stopQueue_settings q _).trans (State.setN_settings _ (by decide) _)).trans (State.setN_settings _ (by decide) _)).trans (State.raise_settings ..)
  simp only [State.logRecord]
  split
  · exact .refl s
  split
  · exact (s.setQueue_settings ..).trans (hfault _)
  split
  · exact s.setQueue_settings ..
  split
  · exact (s.setQueue_settings ..).trans (State.setN_settings _ (by decide) _)
  split
  · next h => exact (SettingsKept.of_write s h).trans (State.setQueue_settings ..)
  · next h =>
    exact (((SettingsKept.of_fault s h).trans (State.setQueue_settings ..)).trans (State.stopQueue_settings ..)).trans (State.faultRecord_settings ..)

end Steps

end Sys2Proof.Machine

/-! O58: what the judging of FIFOs leaves of the pages GLB, CLK, PWR and TB, when all of them are served again (R325). -/

namespace Sys2Proof.Machine

open Sys2Proof

section Judging
variable (s : State)

theorem State.execRecord_settings (a : Action) (o : Origin) (status time : Nat) : SettingsKept s (s.execRecord a o status time) := by
  unfold State.execRecord
  split
  · exact .refl s
  · exact s.logRecord_settings ..

theorem cufErr_not_setting (c : Nat) : ¬IsSetting (Reg.CUF_ERR c) := by
  have hoff : Reg.CUF_ERR c % 0x1000 = 0x444 + c % 32 * 0x60 := by
    simp only [Reg.CUF_ERR]
    omega
  rw [IsSetting, hoff]
  simp only [Reg.CUF_ERR]
  omega

theorem State.cufErr_settings (c : Nat) {b : Nat} (hb : b < 32) : SettingsKept s (s.cufErr c b) :=
  (s.setTrue_settings (cufErr_not_setting c) hb).trans (State.raise_settings ..)

theorem State.countLate_settings (f : Flight) : SettingsKept s (s.countLate f) := by
  have hcount : SettingsKept s (s.incSat Reg.SCH_LATE_CNT 0 32) := s.setN_settings (by decide) _
  simp only [State.countLate]
  exact .ite (fun _ => ((hcount.trans (State.setBit_settings _ (by decide) _ _)).trans (State.relRecord_settings ..)).trans (State.raise_settings ..))
    fun _ => hcount

theorem State.refuseAt_settings (f : Flight) {err : Nat} (herr : err < 32) : SettingsKept s (s.refuseAt f err) := by
  have hnoted : SettingsKept s (if f.ttype = 1 ∨ f.ttype = 2 then s.cufErr (serveCuff f.ttype f.target) err else s) :=
    .ite (fun _ => s.cufErr_settings _ herr) fun _ => .refl s
  simp only [State.refuseAt]
  exact .ite (fun _ => hnoted.trans (State.execRecord_settings ..)) fun _ => hnoted

/-! ### Lost votes -/

theorem State.traySet_settings (x i : Nat) (b : Bool) : SettingsKept s (s.traySet x i b) := by
  obtain ⟨u, hu⟩ : ∃ u, u = s.setTray x { s.tray x with levels := putBits (s.tray x).levels i 1 (b2n b) } := ⟨_, rfl⟩
  have hsu : SettingsKept s u := .of_regs (hu ▸ rfl)
  have hpend (c : Bool) : SettingsKept s (if c then u.setTrayPend x i true else u) :=
    .ite (fun _ => hsu.trans (u.setTrue_settings (by simp only [IsSetting, Reg.TRY_IRQ_PEND_L]; omega) (Nat.mod_lt _ (by decide)))) fun _ => hsu
  simp only [State.traySet]
  rw [← hu]
  exact .ite (fun _ => (hpend _).trans (State.raise_settings ..)) fun _ => .ite (fun _ => (hpend _).trans (State.raise_settings ..)) fun _ => hpend _

theorem State.startRebuild_settings (x : Nat) : SettingsKept s (s.startRebuild x) := by
  have htake (w : State) (y : Nat) : SettingsKept w (w.takeSpare y x) := .of_regs rfl
  simp only [State.startRebuild]
  exact .ite (fun _ => .refl s) fun _ => (s.setBit_settings (by decide) _ _).trans (htake ..)

/-- A lost vote, counted and noted, before a third one marks the tray. -/
theorem State.voteLost_settings (x : Nat) (votes : Tbl (List Nat)) (n : Nat) :
    SettingsKept s (({ ((s.relRecord 1 Code.voteLost 4 0x21 x 0).trayPulse x 6).incSat (Reg.ADM_VOTE x) 16 16 with
      votes := votes } : State).setFld (Reg.ADM_VOTE x) 0 2 n) := by
  have hvote (v : State) (y : Nat) : SettingsKept v (v.setN (Reg.ADM_VOTE x) y) := v.setN_settings (by simp only [Reg.ADM_VOTE]; omega) y
  have hset (v : State) : SettingsKept v { v with votes := votes } := .of_regs rfl
  have hpulse (v : State) : SettingsKept v (v.trayPulse x 6) := (v.traySet_settings ..).trans (State.traySet_settings ..)
  exact ((((s.relRecord_settings ..).trans (hpulse _)).trans (hvote _ _)).trans (hset _)).trans (hvote _ _)

theorem State.loseVote_settings (x : Nat) : SettingsKept s (s.loseVote x) := by
  unfold State.loseVote
  dsimp only
  split
  · exact s.voteLost_settings ..
  · exact (((s.voteLost_settings ..).trans (State.setBit_settings _ (by decide) _ _)).trans (State.raise_settings ..)).trans (State.startRebuild_settings ..)

theorem State.closeVote_settings (ttype target : Nat) (f : Flight) : SettingsKept s (s.closeVote ttype target f) := by
  simp only [State.closeVote]
  split
  · exact .refl s
  · exact (SettingsKept.foldl (fun v i _ => v.loseVote_settings _) s).trans (.of_regs rfl)

/-! ### FIFOs -/

theorem State.setTargetFifo_settings (ttype target : Nat) (l : List Flight) : SettingsKept s (s.setTargetFifo ttype target l) := by
  unfold State.setTargetFifo
  exact .ite (fun _ => .of_regs rfl) fun _ => .of_regs rfl

theorem State.unkeep_settings (f : Flight) : SettingsKept s (s.unkeep f) := by
  simp only [State.unkeep]
  exact .ite (fun _ => .of_regs rfl) fun _ => .refl s

theorem State.popFifo_settings (ttype target : Nat) : SettingsKept s (s.popFifo ttype target) := by
  unfold State.popFifo
  split
  · exact (s.unkeep_settings _).trans (State.setTargetFifo_settings ..)
  · exact (s.unkeep_settings _).trans (State.setTargetFifo_settings ..)
  · exact s.setTargetFifo_settings ..

theorem State.recall_settings (q : Nat) (first : Option Flight) : SettingsKept s (s.recall q first) :=
  (SettingsKept.of_regs (State.regs_of_wipe (s.withdraw_wipe _) rfl)).trans (State.setQueue_settings ..)

theorem State.lateFault_settings (f : Flight) : SettingsKept s (s.lateFault f) := by
  have hexec := s.execRecord_settings f.act f.org Code.queueLate s.tb.now
  unfold State.lateFault
  dsimp only
  split
  · exact ((hexec.trans (State.recall_settings ..)).trans (State.stopQueue_settings ..)).trans (State.faultRecord_settings ..)
  · exact hexec

/-- The head of a FIFO that is judged late. -/
theorem State.lateHead_settings (ttype target : Nat) (f : Flight) (l : List Flight) :
    SettingsKept s (if s.policy f = 2 then ((s.popFifo ttype target).execRecord f.act f.org Code.lateDropped s.tb.now, true)
      else if s.policy f = 3 then ((s.popFifo ttype target).lateFault f, true) else (s.setTargetFifo ttype target l, false)).1 :=
  .ite_fst (fun _ => (s.popFifo_settings ..).trans (State.execRecord_settings ..)) fun _ =>
    .ite_fst (fun _ => (s.popFifo_settings ..).trans (State.lateFault_settings ..)) fun _ => s.setTargetFifo_settings ..

theorem State.judgeHead_settings (ttype target : Nat) : SettingsKept s (s.judgeHead ttype target).1 := by
  simp only [State.judgeHead]
  split
  · exact .refl s
  next f rest hfifo =>
  refine .ite_fst (fun _ => .refl s) fun _ => (s.closeVote_settings f.ttype f.target f).trans ?_
  generalize s.closeVote f.ttype f.target f = u
  refine .ite_fst (fun _ => u.setTargetFifo_settings ..) fun _ => .ite_fst (fun _ => ?_) fun _ => ?_
  · split
    · exact ((u.setTargetFifo_settings ..).trans (State.relRecord_settings ..)).trans (State.cufErr_settings _ _ (by decide))
    · exact ((u.popFifo_settings ..).trans (State.relRecord_settings ..)).trans (State.cufErr_settings _ _ (by decide))
  have hpop := u.popFifo_settings ttype target
  refine .ite_fst (fun _ => hpop.trans (State.refuseAt_settings _ _ (by decide))) fun _ =>
    .ite_fst (fun _ => hpop.trans (State.refuseAt_settings _ _ (by decide))) fun _ => .ite_fst (fun _ => ?_) fun _ => ?_
  · exact .ite_fst (fun _ => .ite (fun _ => hpop.trans (State.execRecord_settings ..)) fun _ => hpop) fun _ => .refl u
  refine .ite_fst (fun _ => u.setTargetFifo_settings ..) fun _ => ?_
  refine SettingsKept.trans (t := if f.late then u else u.countLate f) (.ite (fun _ => .refl u) fun _ => u.countLate_settings f) ?_
  generalize (if f.late then u else u.countLate f) = w
  refine SettingsKept.trans (t := if !u.isTimed f && u.stretches f then w.cufErr (serveCuff f.ttype f.target) 0 else w)
    (.ite (fun _ => w.cufErr_settings _ (by decide)) fun _ => .refl w) ?_
  exact State.lateHead_settings ..

theorem State.judgeFifo_settings (ttype target : Nat) : SettingsKept s (s.judgeFifo ttype target) := by
  have hjudge (n : Nat) : ∀ u : State, SettingsKept u (u.judge ttype target n) := by
    induction n with
    | zero => exact fun u => .refl u
    | succ n ih =>
      intro u
      rw [State.judge]
      split
      · exact (u.judgeHead_settings ..).trans (ih _)
      · exact u.judgeHead_settings ..
  exact hjudge 9 s

theorem State.rejudge_settings (ttype target : Nat) : SettingsKept s (s.rejudge ttype target) := by
  unfold State.rejudge
  split
  · exact .refl s
  · exact (s.setTargetFifo_settings ..).trans (State.judgeFifo_settings ..)

theorem State.judgeAll_settings : SettingsKept s s.judgeAll :=
  (SettingsKept.foldl (fun t _ _ => t.judgeFifo_settings ..) s).trans (.foldl (fun t _ _ => t.judgeFifo_settings ..) _)

theorem State.rejudgeAll_settings : SettingsKept s s.rejudgeAll :=
  (SettingsKept.foldl (fun t _ _ => t.rejudge_settings ..) s).trans (.foldl (fun t _ _ => t.rejudge_settings ..) _)

end Judging

end Sys2Proof.Machine

/-! O58: a change of mode and the answer to a request (R315, R316, R336). -/

namespace Sys2Proof.Machine

open Sys2Proof

/-- The mode has changed to `m`: PWR_STATUS.PREV shows the one before, 0x3438 is raised, and nothing else differs but what interrupt
events write. -/
structure ModeTaken (m : Nat) (s t : State) : Prop where
  regs : SameButEvents [Reg.PWR_STATUS] s t
  prev : t.fld Reg.PWR_STATUS 3 3 = s.mode % 8
  status : ∀ a n, a + n ≤ 3 ∨ 6 ≤ a → t.fld Reg.PWR_STATUS a n = s.fld Reg.PWR_STATUS a n
  pend : t.srcPend 0x3438 = true
  degraded : m = Mode.degraded → t.srcPend 0x3432 = true
  frame : t = { s with out := t.out, regs := t.regs, fns := t.fns, link := t.link, srcs := t.srcs, vecs := t.vecs,
                       pwr := { s.pwr with mode := m } }

section Modes
variable {s t : State} {m : Nat}

theorem State.changeMode_taken (s : State) (m : Nat) : ModeTaken m s (s.changeMode m) := by
  obtain ⟨a, ha⟩ : ∃ a, a = s.setFld Reg.PWR_STATUS 3 3 s.mode := ⟨_, rfl⟩
  obtain ⟨b, hb⟩ : ∃ b : State, b = { a with pwr := { a.pwr with mode := m } } := ⟨_, rfl⟩
  have hfirst := State.srcPend_raise (s := b) 0x3438
  have heq : s.changeMode m = if m = Mode.degraded then (b.raise 0x3438).raise 0x3432 else b.raise 0x3438 := by rw [hb, ha]; rfl
  have hevents : OnlyRegsAndEvents [] b (s.changeMode m) := by
    rw [heq]
    exact iteInduction (motive := OnlyRegsAndEvents [] b) (fun _ => ((OnlyRegsAndEvents.refl [] b).raise (by decide)).raise (by decide))
      fun _ => (OnlyRegsAndEvents.refl [] b).raise (by decide)
  have hpend : (s.changeMode m).srcPend 0x3438 = true := by
    rw [heq]
    exact iteInduction (motive := fun t : State => t.srcPend 0x3438 = true) (fun _ => State.srcPend_raise_kept hfirst) fun _ => hfirst
  have hab : a = { s with regs := a.regs } := ha ▸ ((OnlyRegs.refl [Reg.PWR_STATUS] s).setFld (by simp) _ _ _).1
  have hstatus : (s.changeMode m).reg Reg.PWR_STATUS = a.reg Reg.PWR_STATUS :=
    (hevents.2 _ (by simp) (by simp [Reg.HVC_PEND, Reg.PWR_STATUS])).trans (State.reg_of_regs (by rw [hb]) _)
  refine ⟨fun k hk hp => ?_, ?_, fun x n hx => ?_, hpend, fun hm => ?_, ?_⟩
  · have hka : a.reg k = s.reg k := by rw [ha]; exact State.reg_setFld_other _ (by simpa using hk) ..
    exact ((hevents.2 k (by simp) hp).trans (State.reg_of_regs (by rw [hb]) k)).trans hka
  · rw [State.fld_of_reg hstatus, ha]
    exact State.fld_setFld_same _ _ _ _ _ (by decide)
  · rw [State.fld_of_reg hstatus, ha]
    exact State.fld_setFld_apart _ _ _ _ _ _ _ (by decide) (by omega)
  · rw [heq, if_pos hm]
    exact State.srcPend_raise (s := b.raise 0x3438) 0x3432
  · generalize s.changeMode m = t at hevents
    rw [hevents.1, hb, hab]

theorem ModeTaken.pwr (h : ModeTaken m s t) : t.pwr = { s.pwr with mode := m } := by rw [h.frame]

theorem ModeTaken.mode (h : ModeTaken m s t) : t.mode = m := congrArg Power.mode h.pwr

theorem ModeTaken.bit (h : ModeTaken m s t) {i : Nat} (hi : 6 ≤ i) : t.bit Reg.PWR_STATUS i = s.bit Reg.PWR_STATUS i := by
  rw [State.bit_eq_fld, State.bit_eq_fld, h.status i 1 (.inr hi)]

/-- A register that neither a mode nor an event writes. -/
theorem ModeTaken.reg (h : ModeTaken m s t) {k : Nat} (hk : k ≠ Reg.PWR_STATUS) (hp : ¬(Reg.HVC_PEND 0 ≤ k ∧ k < Reg.HVC_PEND 512)) :
    t.reg k = s.reg k := h.regs k (by simpa using hk) hp

end Modes

/-! ### Requests (R336) -/

section Requests
variable (s : State) {req : Nat}

theorem State.powerResult_ok (hreq : req < 8) : let t := s.powerResult req Code.ok
    t.fld Reg.PWR_RESULT 0 3 = req ∧ t.fld Reg.PWR_RESULT 8 8 = 0 ∧ OnlyRegs [Reg.PWR_RESULT] s t := by
  have hn : (s.setN Reg.PWR_RESULT (req % 8 + Code.ok % 256 * 2 ^ 8)).regN Reg.PWR_RESULT = req := by
    rw [State.regN_setN_same]
    simp only [Code.ok]
    omega
  have heq : s.powerResult req Code.ok = s.setN Reg.PWR_RESULT (req % 8 + Code.ok % 256 * 2 ^ 8) := by
    unfold State.powerResult
    dsimp only
    exact if_pos rfl
  rw [heq]
  refine ⟨?_, ?_, (OnlyRegs.refl _ s).setN (by simp) _⟩
  · rw [State.fld, hn, bits]
    omega
  · rw [State.fld, hn, bits]
    omega

/-- A request is refused with REJECT_CLASS (R316, R336). -/
theorem State.powerResult_refused (hreq : req < 8) : let t := s.powerResult req Code.rejectClass
    (t.fld Reg.PWR_RESULT 0 3 = req ∧ t.fld Reg.PWR_RESULT 8 8 = 0x08) ∧ t.bit (Reg.PG_ERR 2) 16 = true ∧
      OnlyRegs [Reg.PWR_RESULT, Reg.PG_ERR 2] s t := by
  obtain ⟨a, ha⟩ : ∃ a, a = s.setN Reg.PWR_RESULT (req % 8 + Code.rejectClass % 256 * 2 ^ 8) := ⟨_, rfl⟩
  have heq : s.powerResult req Code.rejectClass = a.setBit (Reg.PG_ERR 2) 16 true := by
    rw [ha]
    unfold State.powerResult
    dsimp only
    exact if_neg (by decide)
  have hn : (a.setBit (Reg.PG_ERR 2) 16 true).regN Reg.PWR_RESULT = req + 0x08 * 2 ^ 8 := by
    rw [State.regN_of_reg (State.reg_setBit_other _ (by decide) ..), ha, State.regN_setN_same]
    simp only [Code.rejectClass]
    omega
  rw [heq]
  refine ⟨⟨?_, ?_⟩, State.bit_setBit_same _ _ _ true (by decide), ?_⟩
  · rw [State.fld, hn, bits]
    omega
  · rw [State.fld, hn, bits]
    omega
  · exact OnlyRegs.setBit (by rw [ha]; exact (OnlyRegs.refl _ s).setN (by simp) _) (by simp) _ _

/-- A page of the PF that can be reached is not on its way to DOZE (R251, R327). -/
theorem State.entering_of_pfPage {page : Nat} (h : s.pfPage page = true) : s.pwr.entering = false := by
  simp only [State.pfPage, State.accepts, State.dozing, Bool.and_eq_true, Bool.not_eq_true', Bool.or_eq_false_iff] at h
  exact h.1.2.2

end Requests

end Sys2Proof.Machine

/-! O58: the entry into SAFE (R320, R321): Apron, stopped engines, withdrawn actions. -/

namespace Sys2Proof.Machine

open Sys2Proof

/-! ### What Apron leaves of a cuff (R72) -/

/-- A cuff without what its output and its pad show: what holds it at Apron, its FIFO and its settings. -/
def Cuff.stands (k : Cuff) : Cuff :=
  { k with edges := [], perRun := false, driven := false, level := false, lastEdge := none, pad := false, padTick := 0, filt := none }

theorem Cuff.stands_setCause (k : Cuff) (w : Cause) (b : Bool) : (k.setCause w b).stands = k.stands.setCause w b := by cases w <;> rfl

section Apron
variable (s : State) (c : Nat)

theorem State.drivenPad_stands (x : Nat) : ((s.drivenPad c x).cuff c).stands = (s.cuff c).stands := by
  rw [State.drivenPad]
  split
  · rw [(State.padTo_cuff (s := s) (c := c) _ x).1, State.padded]
    split
    · rfl
    · rfl
  · rfl

theorem State.apronLevel_stands : ((s.apronLevel c).cuff c).stands = (s.cuff c).stands := by
  unfold State.apronLevel
  extract_lets old k a k' u
  have hk' : k'.stands = (s.cuff c).stands := by
    show Cuff.stands (if a = 0 then _ else if a = 1 then _ else if a = 2 then _ else k) = _
    split_ifs
    · rfl
    · rfl
    · rfl
    · rfl
  have hu : u.cuff c = k' := (State.cuff_setCuff ..).trans (if_pos rfl)
  split
  · rw [hu, hk']
  · rw [State.drivenPad_stands, (u.edgeCounted_cuff (c := c) _).1, hu]
    exact hk'

/-- The cause stands, and what holds the cuff else, its FIFO and its settings stay (R72). -/
theorem State.toApron_stands (w : Cause) : ((s.toApron c w).cuff c).stands = (s.cuff c).stands.setCause w true := by
  have hlevel : ((if (s.cuff c).apron then s else s.apronLevel c).cuff c).stands = (s.cuff c).stands :=
    iteInduction (motive := fun u : State => (u.cuff c).stands = (s.cuff c).stands) (fun _ => rfl) fun _ => s.apronLevel_stands c
  have hset : (s.toApron c w).cuff c = ((if (s.cuff c).apron then s else s.apronLevel c).cuff c).setCause w true :=
    (State.cuff_setCuff ..).trans (if_pos rfl)
  rw [hset, Cuff.stands_setCause, hlevel]

theorem State.toApron_apMode : ((s.toApron c .mode).cuff c).apMode = true := congrArg Cuff.apMode (s.toApron_stands c .mode)

end Apron

/-! ### Steps into SAFE -/

/-- What each step into SAFE keeps: cuffs held at Apron for the mode, stopped engines, queues but for their HEAD, and the registers of
GLB, CLK, PWR and TB. -/
structure SafeStep (s t : State) : Prop where
  mode : ∀ c, (s.cuff c).apMode = true → (t.cuff c).apMode = true
  stopped : ∀ e, (s.pio e).st = 0 → (t.pio e).st = 0
  queue : ∀ q, (t.queue q).state = (s.queue q).state ∧ (t.queue q).tail = (s.queue q).tail
  base : BaseKept s t
  kept : t.mem = s.mem ∧ t.tb = s.tb ∧ t.pwr = s.pwr

section Steps
variable {s t u : State}

theorem SafeStep.refl (s : State) : SafeStep s s := ⟨fun _ h => h, fun _ h => h, fun _ => ⟨rfl, rfl⟩, .refl s, rfl, rfl, rfl⟩

theorem SafeStep.trans (h : SafeStep s t) (g : SafeStep t u) : SafeStep s u where
  mode c hc := g.mode c (h.mode c hc)
  stopped e he := g.stopped e (h.stopped e he)
  queue q := ⟨(g.queue q).1.trans (h.queue q).1, (g.queue q).2.trans (h.queue q).2⟩
  base := h.base.trans g.base
  kept := ⟨g.kept.1.trans h.kept.1, g.kept.2.1.trans h.kept.2.1, g.kept.2.2.trans h.kept.2.2⟩

theorem SafeStep.foldl {α : Type} {g : State → α → State} (h : ∀ s x, SafeStep s (g s x)) (l : List α) (s : State) :
    SafeStep s (l.foldl g s) := List.foldlRecOn (motive := SafeStep s) l g (.refl s) fun _ hu x _ => hu.trans (h _ x)

theorem SafeStep.ite {c : Prop} [Decidable c] (h : SafeStep s t) (g : SafeStep s u) : SafeStep s (if c then t else u) :=
  iteInduction (motive := SafeStep s) (fun _ => h) fun _ => g

/-- A step that writes neither cuffs, engines nor queues. -/
theorem SafeStep.of_frame (hc : t.cuffs = s.cuffs) (hp : t.pios = s.pios) (hq : t.queues = s.queues) (hb : BaseKept s t)
    (hkept : t.mem = s.mem ∧ t.tb = s.tb ∧ t.pwr = s.pwr) : SafeStep s t where
  mode c h := by rw [State.cuff, hc]; exact h
  stopped e h := by rw [State.pio, hp]; exact h
  queue q := by rw [State.queue, State.queue, hq]; exact ⟨rfl, rfl⟩
  base := hb
  kept := hkept

variable (s)

theorem State.setCuff_safe (c : Nat) {k : Cuff} (hk : (s.cuff c).apMode = true → k.apMode = true) : SafeStep s (s.setCuff c k) where
  mode e he := by
    rw [State.cuff_setCuff]
    split
    · next h => exact hk (h ▸ he)
    · exact he
  stopped _ h := h
  queue _ := ⟨rfl, rfl⟩
  base := .of_regs rfl
  kept := ⟨rfl, rfl, rfl⟩

theorem State.setPio_safe (e : Nat) {k : Pio} (hk : (s.pio e).st = 0 → k.st = 0) : SafeStep s (s.setPio e k) where
  mode _ h := h
  stopped f hf := by
    rw [State.pio_setPio]
    split
    · next h => exact hk (h ▸ hf)
    · exact hf
  queue _ := ⟨rfl, rfl⟩
  base := .of_regs rfl
  kept := ⟨rfl, rfl, rfl⟩

theorem State.setQueue_safe (q : Nat) {d : Queue} (hd : d.state = (s.queue q).state ∧ d.tail = (s.queue q).tail) :
    SafeStep s (s.setQueue q d) where
  mode _ h := h
  stopped _ h := h
  queue p := by
    rw [State.queue_setQueue]
    split
    · next h => rw [h]; exact hd
    · exact ⟨rfl, rfl⟩
  base := .of_regs rfl
  kept := ⟨rfl, rfl, rfl⟩

theorem State.toApron_safe (c : Nat) : SafeStep s (s.toApron c .mode) := by
  have honly := s.toApron_only c .mode
  refine ⟨fun e he => ?_, fun e he => ?_, fun q => ?_, ⟨fun k hk => honly.reg k (by simp only [Reg.CUF_EDGES]; omega)⟩, ?_⟩
  · by_cases h : e = c
    · rw [h]
      exact s.toApron_apMode c
    · rw [honly.cuff e h]
      exact he
  · rw [State.pio, honly.frame]
    exact he
  · rw [State.queue, honly.frame]
    exact ⟨rfl, rfl⟩
  · rw [honly.frame]
    exact ⟨rfl, rfl, rfl⟩

/-- An engine stops (R198). -/
theorem State.stopAt_safe (e : Nat) : SafeStep s (s.stopAt e 7) ∧ ((s.stopAt e 7).pio e).st = 0 := by
  have hcuffs : SafeStep s ((s.pioCuffs e).foldl (fun u c =>
      u.setCuff c { u.cuff c with edges := (u.cuff c).edges.filter fun x => u.atOrAfter (s.pioNow e) x.1 }) s) :=
    SafeStep.foldl (fun u c => u.setCuff_safe c (k := { u.cuff c with edges := (u.cuff c).edges.filter fun x => u.atOrAfter (s.pioNow e) x.1 }) fun h => h) _ s
  have hstop : SafeStep s (s.stopPio e) := hcuffs.trans (State.setPio_safe _ e fun _ => rfl)
  have herr (u : State) : SafeStep u (u.pioErr e 7) ∧ (u.pioErr e 7).pios = u.pios := by
    have hw : (u.pioErr e 7).wipe events = u.wipe events := (State.raise_wipe _ _ _ (by decide)).trans (State.setBit_wipe _ _ _ _ _ (by decide))
    have hbase : BaseKept u (u.pioErr e 7) := (u.setBit_base (by simp only [Reg.PIO_ERR]; omega) _ _).trans (State.raise_base ..)
    exact ⟨.of_frame (State.cuffs_of_wipe hw rfl) (State.pios_of_wipe hw rfl) (State.queues_of_wipe hw rfl) hbase
      ⟨State.mem_of_wipe hw rfl, State.tb_of_wipe hw rfl, State.pwr_of_wipe hw rfl⟩, State.pios_of_wipe hw rfl⟩
  refine ⟨hstop.trans (herr _).1, ?_⟩
  have hpio : (s.stopAt e 7).pio e = (s.stopPio e).pio e := by
    rw [State.pio, State.pio]
    exact congrArg (Tbl.get {} · e) (herr (s.stopPio e)).2
  rw [hpio, (s.stopPio_spec e).1]
  rfl

theorem State.apronStop_safe (c : Nat) : SafeStep s (s.apronStop c) := by
  rw [State.apronStop]
  split
  · exact .ite (.refl s) (s.stopAt_safe _).1
  · exact .refl s

/-- Every cuff is at Apron for the mode (R72, R320). -/
theorem State.allApron_safe : SafeStep s s.allApron ∧ ∀ c < 1024, (s.allApron.cuff c).apMode = true := by
  have hstep (u : State) (c : Nat) : SafeStep u ((u.apronStop c).toApron c .mode) := (u.apronStop_safe c).trans (State.toApron_safe _ c)
  have hall (l : List Nat) : ∀ u : State, ∀ c ∈ l, ((l.foldl (fun u c => (u.apronStop c).toApron c .mode) u).cuff c).apMode = true := by
    induction l with
    | nil => exact fun _ _ h => absurd h (by simp)
    | cons x l ih =>
      intro u c hc
      rw [List.foldl_cons]
      rcases List.mem_cons.mp hc with rfl | hc
      · exact (SafeStep.foldl hstep l _).mode c (State.toApron_apMode _ c)
      · exact ih _ c hc
  exact ⟨.foldl hstep _ s, fun c hc => hall allCuffs s c (List.mem_range.mpr hc)⟩

/-- No engine runs on (R321). -/
theorem State.stopEngines_safe : SafeStep s s.stopEngines ∧ ∀ e, (s.stopEngines.pio e).st = 0 := by
  have hstep (u : State) (e : Nat) : SafeStep u (if (u.pio e).st = 0 then u else u.stopAt e 7) := .ite (.refl u) (u.stopAt_safe e).1
  have hone (u : State) (e : Nat) : ((if (u.pio e).st = 0 then u else u.stopAt e 7).pio e).st = 0 :=
    iteInduction (motive := fun v : State => (v.pio e).st = 0) (fun h => h) fun _ => (u.stopAt_safe e).2
  have hall (l : List Nat) : ∀ u : State, ∀ e ∈ l, ((l.foldl (fun u e => if (u.pio e).st = 0 then u else u.stopAt e 7) u).pio e).st = 0 := by
    induction l with
    | nil => exact fun _ _ h => absurd h (by simp)
    | cons x l ih =>
      intro u e he
      rw [List.foldl_cons]
      rcases List.mem_cons.mp he with rfl | he
      · exact (SafeStep.foldl hstep l _).stopped e (hone u e)
      · exact ih _ e he
  have hsafe : SafeStep s s.stopEngines := .foldl hstep _ s
  refine ⟨hsafe, fun e => ?_⟩
  by_cases he : e ∈ Tbl.keys s.pios
  · exact hall _ s e he
  · exact hsafe.stopped e (congrArg Pio.st (get_of_not_mem he))

end Steps

end Sys2Proof.Machine

/-! O58: the entry into SAFE withdraws every action and keeps queues, memory and time base (R320, R321). -/

namespace Sys2Proof.Machine

open Sys2Proof

section Recall
variable (s : State)

/-- A withdrawal keeps in each FIFO of a port or context what does not meet it. -/
theorem State.fifo_of_withdraw (p : Flight → Bool) (k : Nat) : (s.withdraw p).fifo k = (s.fifo k).filter fun f => !p f := by
  have hfold (l : List Nat) : ∀ u : State, (l.foldl (fun (u : State) i => u.setFifo i ((u.fifo i).filter fun f => !p f)) u).fifo k =
      if k ∈ l then (u.fifo k).filter (fun f => !p f) else u.fifo k := by
    induction l with
    | nil => exact fun _ => rfl
    | cons i l ih =>
      intro u
      rw [List.foldl_cons, ih, State.fifo_setFifo]
      by_cases hk : k = i
      · simp [hk, List.filter_filter]
      · simp [hk]
  obtain ⟨v, hv⟩ : ∃ v, v = (Tbl.keys s.cuffs).foldl (fun (u : State) c =>
      u.setCuff c { u.cuff c with fifo := (u.cuff c).fifo.filter fun f => !p f }) { s with refs := s.refs.filter fun r => !p r.fl } := ⟨_, rfl⟩
  have hvf : v.fifos = s.fifos := by
    have hw : v.wipe 270336 = s.wipe 270336 := by
      rw [hv]
      exact (State.foldl_wipe 270336 _ (fun t k => t.setCuff_wipe _ _ _ (by decide)) _ _).trans (s.refs_wipe _ _ (by decide))
    exact State.fifos_of_wipe hw (by decide)
  have hrest : (s.withdraw p).fifos =
      ((Tbl.keys v.fifos).foldl (fun (u : State) i => u.setFifo i ((u.fifo i).filter fun f => !p f)) v).fifos := by
    rw [hv]
    exact State.fifos_of_wipe (State.foldl_wipe 65536 _ (fun t k => t.setVoter_wipe _ _ _ (by decide)) _ _) (by decide)
  have hvk : v.fifo k = s.fifo k := congrArg (Tbl.get [] · k) hvf
  rw [State.fifo, hrest]
  refine (hfold _ _).trans ?_
  rw [hvk]
  split
  · rfl
  · next h =>
    have hempty : s.fifo k = [] := by
      rw [← hvk]
      exact get_of_not_mem h
    rw [hempty]
    rfl

theorem State.withdraw_safe (p : Flight → Bool) : SafeStep s (s.withdraw p) := by
  have hw := s.withdraw_wipe p
  have hcuff (c : Nat) : ∃ l, (s.withdraw p).cuff c = { s.cuff c with fifo := l } := (s.withdraw_judgeKept p).cuff c
  refine ⟨fun c hc => ?_, fun e he => ?_, fun q => ?_, .of_regs (State.regs_of_wipe hw rfl), State.mem_of_wipe hw rfl, State.tb_of_wipe hw rfl,
    State.pwr_of_wipe hw rfl⟩
  · obtain ⟨l, hl⟩ := hcuff c
    rw [hl]
    exact hc
  · rw [State.pio, State.pios_of_wipe hw rfl]
    exact he
  · rw [State.queue, State.queues_of_wipe hw rfl]
    exact ⟨rfl, rfl⟩

theorem State.recall_safe (q : Nat) (first : Option Flight) : SafeStep s (s.recall q first) := by
  have hback (d : Queue) (fs : List Flight) : (d.setBack fs).state = d.state ∧ (d.setBack fs).tail = d.tail := by
    simp only [Queue.setBack]
    split
    · exact ⟨rfl, rfl⟩
    · exact ⟨rfl, rfl⟩
  exact (s.withdraw_safe _).trans (State.setQueue_safe _ q (hback ..))

/-- What SAFE leaves of the actions under way: those in the input FIFOs of contexts (R321). -/
structure Recalled (s t : State) : Prop where
  safe : SafeStep s t
  refs : t.refs = []
  cuff : ∀ c, (t.cuff c).fifo = []
  fifo : ∀ k < 5 * 4096, t.fifo k = []

theorem Recalled.of_frame {s t u : State} (h : Recalled s t) (g : SafeStep t u) (hrefs : u.refs = t.refs) (hcuffs : u.cuffs = t.cuffs)
    (hfifo : ∀ k < 5 * 4096, u.fifo k = t.fifo k) : Recalled s u :=
  ⟨h.safe.trans g, hrefs.trans h.refs, fun c => by rw [State.cuff, hcuffs]; exact h.cuff c, fun k hk => (hfifo k hk).trans (h.fifo k hk)⟩

/-- All is withdrawn. -/
theorem State.withdraw_all (s : State) : Recalled s (s.withdraw fun _ => true) where
  safe := s.withdraw_safe _
  refs := by rw [s.withdraw_refs]; simp
  cuff c := by rw [s.fifo_withdraw]; simp
  fifo k _ := by rw [s.fifo_of_withdraw]; simp

theorem State.recallAll_recalled : Recalled s s.recallAll := by
  obtain ⟨a, ha⟩ : ∃ a : State, a = { s with fifos := s.fifos.filter fun e => decide (e.1 < 5 * 4096) } := ⟨_, rfl⟩
  obtain ⟨b, hb⟩ : ∃ b, b = (Tbl.keys a.queues).foldl (fun u q => if u.inFlight q = [] then u else u.recall q none) a := ⟨_, rfl⟩
  obtain ⟨d, hd⟩ : ∃ d, d = s.ctxFifos.foldl (fun u e => u.setFifo e.1 e.2) (b.withdraw fun _ => true) := ⟨_, rfl⟩
  have heq : s.recallAll = (Tbl.keys d.ctxs).foldl (fun u c => if (u.ctx c).sent = [] then u else u.setCtx c { u.ctx c with sent := [] }) d := by
    rw [hd, hb, ha]
    rfl
  have hsa : SafeStep s a := by
    rw [ha]
    exact .of_frame rfl rfl rfl (.of_regs rfl) ⟨rfl, rfl, rfl⟩
  have hab : SafeStep a b := hb ▸ SafeStep.foldl (fun u q => .ite (.refl u) (u.recall_safe q none)) _ a
  have hsb : Recalled s (b.withdraw fun _ => true) :=
    let h := b.withdraw_all
    ⟨(hsa.trans hab).trans h.safe, h.refs, h.cuff, h.fifo⟩
  have hput (e : Nat × List Flight) (he : e ∈ s.ctxFifos) (u : State) (hu : Recalled s u) : Recalled s (u.setFifo e.1 e.2) := by
    have hkey : 5 * 4096 ≤ e.1 := by simpa [State.ctxFifos] using (List.mem_filter.mp he).2
    refine hu.of_frame (.of_frame rfl rfl rfl (.of_regs rfl) ⟨rfl, rfl, rfl⟩) rfl rfl fun k hk => ?_
    rw [State.fifo_setFifo, if_neg (by omega)]
  have hsd : Recalled s d := by
    rw [hd]
    exact List.foldlRecOn (motive := Recalled s) _ _ hsb fun u hu e he => hput e he u hu
  have hctx (u : State) (c : Nat) (k : Ctx) (hu : Recalled s u) : Recalled s (u.setCtx c k) :=
    hu.of_frame (.of_frame rfl rfl rfl (.of_regs rfl) ⟨rfl, rfl, rfl⟩) rfl rfl fun _ _ => rfl
  rw [heq]
  refine List.foldlRecOn (motive := Recalled s) _ _ hsd fun u hu c _ => ?_
  exact iteInduction (motive := Recalled s) (fun _ => hu) fun _ => hctx u c _ hu

end Recall

/-! ### The entry -/

/-- SAFE has been entered for a cause (R320, R321). -/
structure SafeTaken (cause : Nat) (s t : State) : Prop where
  prev : t.fld Reg.PWR_STATUS 3 3 = s.mode % 8
  pend : t.srcPend 0x3438 = true
  cause : t.fld Reg.PWR_STATUS 12 3 = cause % 8
  time : t.pair Reg.PWR_SAFE_TIME_L Reg.PWR_SAFE_TIME_H = s.tb.now % 2 ^ 64
  cuff : ∀ c < 1024, (t.cuff c).apMode = true ∧ (t.cuff c).fifo = []
  refs : t.refs = []
  fifo : ∀ k < 5 * 4096, t.fifo k = []
  engine : ∀ e, (t.pio e).st = 0
  queue : ∀ q, (t.queue q).state = (s.queue q).state ∧ (t.queue q).tail = (s.queue q).tail
  pwr : t.pwr = { s.pwr with frozenAt := some (s.pwr.frozenAt.getD t.tick), safeNext := 0, mode := Mode.safe }
  kept : t.mem = s.mem ∧ t.tb = s.tb
  base : ∀ r < 0x4000, r ≠ Reg.PWR_STATUS → r ≠ Reg.PWR_SAFE_TIME_L → r ≠ Reg.PWR_SAFE_TIME_H → t.reg r = s.reg r

theorem State.enterSafe_taken (s : State) (cause : Nat) : SafeTaken cause s (s.enterSafe cause) := by
  obtain ⟨v, hv⟩ : ∃ v, v = s.allApron.stopEngines.recallAll := ⟨_, rfl⟩
  have hrec : Recalled s.allApron.stopEngines v := hv ▸ State.recallAll_recalled _
  have happ : SafeStep s s.allApron.stopEngines := s.allApron_safe.1.trans (State.stopEngines_safe _).1
  have hsafe : SafeStep s v := happ.trans hrec.safe
  obtain ⟨hmem, htb, hpwr⟩ := hsafe.kept
  obtain ⟨x, hx⟩ : ∃ x : State, x = { v with pwr := { v.pwr with frozenAt := some (v.pwr.frozenAt.getD v.tick) } } := ⟨_, rfl⟩
  obtain ⟨w, hw⟩ : ∃ w, w = (x.setFld Reg.PWR_STATUS 12 3 cause).setPair Reg.PWR_SAFE_TIME_L Reg.PWR_SAFE_TIME_H x.tb.now := ⟨_, rfl⟩
  obtain ⟨y, hy⟩ : ∃ y : State, y = { w with pwr := { w.pwr with safeNext := 0 } } := ⟨_, rfl⟩
  have heq : s.enterSafe cause = y.changeMode Mode.safe := by rw [hy, hw, hx, hv]; rfl
  have honly : w = { x with regs := w.regs } := by
    rw [hw]
    exact (((OnlyRegs.refl [Reg.PWR_STATUS, Reg.PWR_SAFE_TIME_L, Reg.PWR_SAFE_TIME_H] x).setFld (by simp) 12 3 cause).setPair
      (by simp) (by simp) x.tb.now).1
  have hyx : y = { v with regs := w.regs, pwr := { v.pwr with frozenAt := some (v.pwr.frozenAt.getD v.tick), safeNext := 0 } } := by
    rw [hy, honly, hx]
  have hyw (r : Nat) : y.reg r = w.reg r := State.reg_of_regs (by rw [hy]) r
  have hxv (r : Nat) : x.reg r = v.reg r := State.reg_of_regs (by rw [hx]) r
  have hmode : y.mode = s.mode := by
    rw [State.mode, State.mode, hyx, ← hpwr]
  have htaken := y.changeMode_taken Mode.safe
  rw [← heq] at htaken
  generalize s.enterSafe cause = t at htaken
  have hframe := htaken.frame
  rw [hyx] at hframe
  have hstatus : y.fld Reg.PWR_STATUS 12 3 = cause % 8 := by
    rw [State.fld_of_reg (hyw _), hw, State.fld_of_reg (State.reg_setPair_other _ (by decide) (by decide) _)]
    exact State.fld_setFld_same _ _ _ _ _ (by decide)
  have htime : w.pair Reg.PWR_SAFE_TIME_L Reg.PWR_SAFE_TIME_H = x.tb.now % 2 ^ 64 := by
    rw [hw]
    exact State.pair_setPair_mod _ (by decide) _
  have hxtb : x.tb = s.tb := by rw [hx]; exact htb
  have hnot {r : Nat} (hr : r < 0x4000) : ¬(Reg.HVC_PEND 0 ≤ r ∧ r < Reg.HVC_PEND 512) := by simp only [Reg.HVC_PEND]; omega
  have hcuffs : t.cuffs = v.cuffs := by rw [hframe]
  refine ⟨?_, htaken.pend, ?_, ?_, fun c hc => ⟨?_, ?_⟩, ?_, fun k hk => ?_, fun e => ?_, fun q => ?_, ?_, ⟨?_, ?_⟩, fun r hr h1 h2 h3 => ?_⟩
  · rw [htaken.prev, hmode]
  · rw [htaken.status _ _ (.inr (by decide)), hstatus]
  · rw [State.pair_of_reg (htaken.reg (by decide) (hnot (by decide))) (htaken.reg (by decide) (hnot (by decide))),
      State.pair_of_reg (hyw _) (hyw _), htime, hxtb]
  · rw [State.cuff, hcuffs]
    exact hrec.safe.mode c ((State.stopEngines_safe _).1.mode c (s.allApron_safe.2 c hc))
  · rw [State.cuff, hcuffs]
    exact hrec.cuff c
  · rw [hframe]
    exact hrec.refs
  · rw [State.fifo, hframe]
    exact hrec.fifo k hk
  · rw [State.pio, hframe]
    exact hrec.safe.stopped e ((State.stopEngines_safe _).2 e)
  · rw [State.queue, hframe]
    exact hsafe.queue q
  · rw [hframe]
    exact congrArg (fun p : Power => { p with frozenAt := some (p.frozenAt.getD v.tick), safeNext := 0, mode := Mode.safe }) hpwr
  · rw [hframe]
    exact hmem
  · rw [hframe]
    exact htb
  · rw [htaken.reg h1 (hnot hr), hyw, hw, State.reg_setPair_other _ h2 h3, State.reg_setFld_other _ h1, hxv]
    exact hsafe.base.reg r hr

end Sys2Proof.Machine

/-! O58: RUN begins (R322). -/

namespace Sys2Proof.Machine

open Sys2Proof

/-- What each cuff's return from Apron keeps: what has left Apron for the mode, what stays there for its bank, the FIFOs, and all but
the cuffs and their counts of edges. -/
structure RunStep (s t : State) : Prop where
  fifo : ∀ c, (t.cuff c).fifo = (s.cuff c).fifo
  left : ∀ c, (s.cuff c).apMode = false → (t.cuff c).apMode = false
  bank : ∀ c, (s.cuff c).apBank = true → (t.cuff c).apBank = true
  reg : ∀ r, (∀ c, r ≠ Reg.CUF_EDGES c) → t.reg r = s.reg r
  frame : t = { s with regs := t.regs, cuffs := t.cuffs }

section Run
variable {s t u : State}

theorem RunStep.refl (s : State) : RunStep s s := ⟨fun _ => rfl, fun _ h => h, fun _ h => h, fun _ _ => rfl, rfl⟩

theorem RunStep.trans (h : RunStep s t) (g : RunStep t u) : RunStep s u where
  fifo c := (g.fifo c).trans (h.fifo c)
  left c hc := g.left c (h.left c hc)
  bank c hc := g.bank c (h.bank c hc)
  reg r hr := (g.reg r hr).trans (h.reg r hr)
  frame := by rw [g.frame, h.frame]

theorem RunStep.foldl {α : Type} {g : State → α → State} (h : ∀ s x, RunStep s (g s x)) (l : List α) (s : State) :
    RunStep s (l.foldl g s) := List.foldlRecOn (motive := RunStep s) l g (.refl s) fun _ hu x _ => hu.trans (h _ x)

variable (s)

theorem State.endCause_run (c : Nat) : RunStep s (s.endCause c .mode) ∧ ((s.endCause c .mode).cuff c).apMode = false := by
  refine ⟨⟨fun e => ?_, fun e he => ?_, fun e he => ?_, fun _ _ => rfl, rfl⟩, ?_⟩
  · rw [s.cuff_endCause]
    split
    · next h => rw [h]; rfl
    · rfl
  · rw [s.cuff_endCause]
    split
    · rfl
    · exact he
  · rw [s.cuff_endCause]
    split
    · next h => rw [h] at he; exact he
    · exact he
  · rw [s.cuff_endCause, if_pos rfl]
    rfl

theorem State.bankApron_run (c : Nat) : RunStep s (s.toApron c .bank) ∧ ((s.toApron c .bank).cuff c).apBank = true := by
  have honly := s.toApron_only c .bank
  have hc := s.toApron_stands c .bank
  refine ⟨⟨fun e => ?_, fun e he => ?_, fun e he => ?_, fun r hr => honly.reg r (hr c), honly.frame⟩, congrArg Cuff.apBank hc⟩
  · by_cases h : e = c
    · rw [h]
      have hfifo := congrArg Cuff.fifo hc
      exact hfifo
    · rw [honly.cuff e h]
  · by_cases h : e = c
    · rw [h] at he ⊢
      exact (congrArg Cuff.apMode hc).trans he
    · rwa [honly.cuff e h]
  · by_cases h : e = c
    · rw [h]
      exact congrArg Cuff.apBank hc
    · rwa [honly.cuff e h]

/-- A cuff at Apron for the mode leaves it; in a bank without supply it stays there for the bank. -/
def State.leaveApron (s : State) (c : Nat) : State :=
  if (s.endCause c .mode).bit (Reg.SLV_STATUS (c / 32)) 1 then s.endCause c .mode else (s.endCause c .mode).toApron c .bank

theorem State.leaveApron_run (c : Nat) : RunStep s (s.leaveApron c) ∧ ((s.leaveApron c).cuff c).apMode = false ∧
    (s.bit (Reg.SLV_STATUS (c / 32)) 1 = false → ((s.leaveApron c).cuff c).apBank = true) := by
  obtain ⟨hend, hmode⟩ := s.endCause_run c
  obtain ⟨hbank, hat⟩ := (s.endCause c .mode).bankApron_run c
  have hbit : (s.endCause c .mode).bit (Reg.SLV_STATUS (c / 32)) 1 = s.bit (Reg.SLV_STATUS (c / 32)) 1 := State.bit_of_reg (State.reg_of_regs rfl _) 1
  rw [State.leaveApron, hbit]
  split
  · next h => exact ⟨hend, hmode, fun hno => absurd (h.symm.trans hno) (by decide)⟩
  · exact ⟨hend.trans hbank, hbank.left c hmode, fun _ => hat⟩

/-- Every cuff has left Apron for the mode (R322). -/
theorem State.leaveAprons_run : RunStep s (allCuffs.foldl State.leaveApron s) ∧ ∀ c < 1024,
    ((allCuffs.foldl State.leaveApron s).cuff c).apMode = false ∧
    (s.bit (Reg.SLV_STATUS (c / 32)) 1 = false → ((allCuffs.foldl State.leaveApron s).cuff c).apBank = true) := by
  have hstep (u : State) (c : Nat) : RunStep u (u.leaveApron c) := (u.leaveApron_run c).1
  have hstatus {a b : State} (h : RunStep a b) (c : Nat) : b.bit (Reg.SLV_STATUS (c / 32)) 1 = a.bit (Reg.SLV_STATUS (c / 32)) 1 :=
    State.bit_of_reg (h.reg _ fun e => (edges_ne e).2.2.1 _) 1
  have hall (l : List Nat) : ∀ u : State, ∀ c ∈ l, ((l.foldl State.leaveApron u).cuff c).apMode = false ∧
      (u.bit (Reg.SLV_STATUS (c / 32)) 1 = false → ((l.foldl State.leaveApron u).cuff c).apBank = true) := by
    induction l with
    | nil => exact fun _ _ h => absurd h (by simp)
    | cons x l ih =>
      intro u c hc
      rw [List.foldl_cons]
      rcases List.mem_cons.mp hc with rfl | hc
      · obtain ⟨-, hmode, hbank⟩ := u.leaveApron_run c
        have hrest := RunStep.foldl hstep l (u.leaveApron c)
        exact ⟨hrest.left c hmode, fun h => hrest.bank c (hbank h)⟩
      · obtain ⟨hmode, hbank⟩ := ih (u.leaveApron x) c hc
        exact ⟨hmode, fun h => hbank ((hstatus (hstep u x) c).trans h)⟩
  exact ⟨.foldl hstep _ s, fun c hc => hall allCuffs s c (List.mem_range.mpr hc)⟩

/-! ### Pairs and contexts -/

/-- An enabled pair is OFF. -/
def State.pairOff (s : State) (p : Nat) : State := if s.pairEn p then s.setPairSt p { s.pairSt p with st := 0 } else s

theorem State.pairOff_frame (p : Nat) : s.pairOff p = { s with pairs := (s.pairOff p).pairs } := by
  rw [State.pairOff]
  split
  · rfl
  · rfl

/-- Enabled pairs are OFF (R322). -/
theorem State.pairsOff_spec : let t := (List.range 512).foldl State.pairOff s
    (∀ p < 512, s.pairEn p = true → (t.pairSt p).st = 0) ∧ t = { s with pairs := t.pairs } := by
  have hkeep (u : State) (x p : Nat) (h : (u.pairSt p).st = 0) : ((u.pairOff x).pairSt p).st = 0 := by
    rw [State.pairOff]
    split
    · rw [State.pairSt_setPairSt]
      split
      · rfl
      · exact h
    · exact h
  have hkeeps (l : List Nat) (u : State) (p : Nat) (h : (u.pairSt p).st = 0) : ((l.foldl State.pairOff u).pairSt p).st = 0 :=
    List.foldlRecOn (motive := fun t : State => (t.pairSt p).st = 0) l _ h fun t ht x _ => hkeep t x p ht
  have hen (u : State) (x p : Nat) : (u.pairOff x).pairEn p = u.pairEn p := by
    rw [u.pairOff_frame x]
    rfl
  have hall (l : List Nat) : ∀ u : State, ∀ p ∈ l, u.pairEn p = true → ((l.foldl State.pairOff u).pairSt p).st = 0 := by
    induction l with
    | nil => exact fun _ _ h => absurd h (by simp)
    | cons x l ih =>
      intro u p hp h
      rw [List.foldl_cons]
      rcases List.mem_cons.mp hp with rfl | hp
      · refine hkeeps l _ p ?_
        rw [State.pairOff, if_pos h, State.pairSt_setPairSt, if_pos rfl]
      · exact ih _ p hp ((hen u x p).trans h)
  refine ⟨fun p hp h => hall _ s p (List.mem_range.mpr hp) h, ?_⟩
  refine List.foldlRecOn (motive := fun t : State => t = { s with pairs := t.pairs }) _ _ rfl fun u hu x _ => ?_
  rw [u.pairOff_frame x, hu]

/-- Contexts issue again: nothing else changes (R321). -/
theorem State.startContexts_spec : s.startContexts = { s with ctxs := s.startContexts.ctxs, pwr := { s.pwr with frozenAt := none } } := by
  unfold State.startContexts
  split
  · next h =>
    have hpwr : s.pwr = { s.pwr with frozenAt := none } := by rw [← h]
    exact congrArg (fun p : Power => { s with pwr := p }) hpwr
  · next x h =>
    have hfold (l : List Nat) (u : State) : l.foldl (fun (u : State) c => u.setCtx c { u.ctx c with
        since := (u.ctx c).since + (s.tick - x), lastPoint := (u.ctx c).lastPoint + (s.tick - x) }) u =
        { u with ctxs := (l.foldl (fun (u : State) c => u.setCtx c { u.ctx c with
          since := (u.ctx c).since + (s.tick - x), lastPoint := (u.ctx c).lastPoint + (s.tick - x) }) u).ctxs } := by
      induction l generalizing u with
      | nil => rfl
      | cons c l ih =>
        rw [List.foldl_cons]
        exact ih _
    dsimp only
    rw [hfold]

end Run

end Sys2Proof.Machine

/-! O58: RUN has begun (R322); the part freezes, and the entry into HALT (R41, R222, R324). -/

namespace Sys2Proof.Machine

open Sys2Proof

/-- RUN has begun (R322). -/
structure RunTaken (s t : State) : Prop where
  mode : t.mode = s.runMode
  prev : t.fld Reg.PWR_STATUS 3 3 = s.mode % 8
  pend : t.srcPend 0x3438 = true
  degraded : s.degradedNow = true → t.srcPend 0x3432 = true
  cuff : ∀ c < 1024, (t.cuff c).apMode = false ∧ (s.bit (Reg.SLV_STATUS (c / 32)) 1 = false → (t.cuff c).apBank = true) ∧
    (t.cuff c).fifo = (s.cuff c).fifo
  pair : ∀ p < 512, s.pairEn p = true → (t.pairSt p).st = 0
  frozen : t.pwr.frozenAt = none
  kept : t.queues = s.queues ∧ t.mem = s.mem ∧ t.tb = s.tb
  result : t.reg Reg.PWR_RESULT = s.reg Reg.PWR_RESULT

section Run
variable (s : State)

theorem State.runMode_of_reg {s t : State} (h : t.reg Reg.PWR_STATUS = s.reg Reg.PWR_STATUS) : t.runMode = s.runMode := by
  rw [State.runMode, State.degradedNow, State.bit_of_reg h, State.bit_of_reg h]
  rfl

theorem State.startRun_taken : RunTaken s s.startRun := by
  obtain ⟨a, ha⟩ : ∃ a, a = allCuffs.foldl State.leaveApron s := ⟨_, rfl⟩
  obtain ⟨b, hb⟩ : ∃ b, b = (List.range 512).foldl State.pairOff a := ⟨_, rfl⟩
  obtain ⟨hrun, hcuff⟩ : RunStep s a ∧ _ := ha ▸ s.leaveAprons_run
  obtain ⟨hpair, hab⟩ : _ ∧ b = { a with pairs := b.pairs } := hb ▸ a.pairsOff_spec
  have heq : s.startRun = b.startContexts.changeMode b.runMode := by rw [hb, ha]; rfl
  have hmode : b.runMode = s.runMode := State.runMode_of_reg
    ((State.reg_of_regs (by rw [hab]) _).trans (hrun.reg _ fun c => by simp only [Reg.CUF_EDGES, Reg.PWR_STATUS]; omega))
  have htaken := b.startContexts.changeMode_taken b.runMode
  rw [← heq, hmode, b.startContexts_spec] at htaken
  generalize s.startRun = t at htaken
  have hframe := htaken.frame
  have hb' : b = { s with regs := a.regs, cuffs := a.cuffs, pairs := b.pairs } := by rw [hab, hrun.frame]
  have hpwr : b.pwr = s.pwr := by rw [hb']
  have hen (p : Nat) : a.pairEn p = s.pairEn p := State.bit_of_reg (hrun.reg _ fun c => (edges_ne c).2.1 _ _ (Nat.mod_lt _ (by decide))) 0
  have hcuffs : t.cuffs = a.cuffs := by rw [hframe, hb']
  refine ⟨htaken.mode, ?_, htaken.pend, fun h => htaken.degraded (if_pos h), fun c hc => ?_, fun p hp h => ?_, ?_, ?_, ?_⟩
  · rw [htaken.prev]
    exact congrArg (· % 8) (by rw [State.mode, State.mode, hpwr] : b.mode = s.mode)
  · rw [State.cuff, hcuffs]
    exact ⟨(hcuff c hc).1, (hcuff c hc).2, hrun.fifo c⟩
  · rw [State.pairSt, hframe]
    exact hpair p hp ((hen p).trans h)
  · rw [hframe]
  · rw [hframe, hb']
    exact ⟨rfl, rfl, rfl⟩
  · have hbr : b.startContexts.reg Reg.PWR_RESULT = a.reg Reg.PWR_RESULT :=
      State.reg_of_regs ((by rw [b.startContexts_spec] : b.startContexts.regs = b.regs).trans (by rw [hab])) _
    rw [b.startContexts_spec] at hbr
    exact ((htaken.reg (by decide) (by decide)).trans hbr).trans (hrun.reg _ fun c => by simp only [Reg.CUF_EDGES, Reg.PWR_RESULT]; omega)

end Run

/-! ### The part freezes -/

/-- The fields that the freeze of the part may write. -/
abbrev freezing : Nat := 21758304329746

/-- The part is frozen (R41, R61, R198, R222): no cuff filters an edge, contexts stand, and the time base is coarse. -/
structure Froze (s t : State) : Prop where
  cuff : ∀ c, t.cuff c = { s.cuff c with filt := none }
  pwr : t.pwr = { s.pwr with aligning := false, frozenAt := some (s.pwr.frozenAt.getD s.tick) }
  coarse : t.bit Reg.TB_STATUS 2 = true
  reg : ∀ r < 0x4000, r ≠ Reg.TB_STATUS → t.reg r = s.reg r
  wipe : t.wipe freezing = s.wipe freezing

section Freeze
variable (s : State)

/-- COARSE takes its value, with the events of a change (R41, R274). -/
theorem State.setCoarse_only {ks : List Nat} (hstatus : Reg.TB_STATUS ∈ ks) (hens : Reg.ENS_STATUS ∈ ks) (b : Bool) :
    (s.setCoarse b).coarse = b ∧ OnlyRegsAndEvents ks s (s.setCoarse b) := by
  simp only [State.setCoarse]
  split
  · next h => exact ⟨h, .refl ks s⟩
  obtain ⟨u, hu⟩ : ∃ u, u = ((s.setBit Reg.TB_STATUS 2 b).raiseTime).updTvalid := ⟨_, rfl⟩
  have honly : OnlyRegsAndEvents ks s u :=
    hu ▸ (((OnlyRegsAndEvents.refl ks s).setBit hstatus 2 b).raiseAll timeSources_lt).trans (State.updTvalid_only _ hens)
  have hcoarse : u.coarse = b := by
    have hens' := ((s.setBit Reg.TB_STATUS 2 b).raiseTime).updTvalid_only (ks := [Reg.ENS_STATUS]) (by simp)
    rw [hu]
    exact (State.bit_of_reg (hens'.2 _ (by decide) (by decide)) 2).trans
      ((State.bit_of_reg (State.raiseAll_reg _ timeSources_lt (by decide)) 2).trans (s.bit_setBit_same _ 2 b (by decide)))
  have hraise : (u.raise 0x3403).coarse = u.coarse := State.bit_of_reg (State.raise_reg _ (by decide) (by decide)) 2
  rw [← hu]
  split
  · exact ⟨hcoarse, honly⟩
  · exact ⟨hraise.trans hcoarse, honly.raise (by decide)⟩

/-- A cuff stamps nothing. -/
def State.freezeCuff (s : State) (c : Nat) : State := if (s.cuff c).filt = none then s else s.setCuff c { s.cuff c with filt := none }

theorem State.cuff_freezeCuff (c e : Nat) : (s.freezeCuff c).cuff e = if e = c then { s.cuff c with filt := none } else s.cuff e := by
  rw [State.freezeCuff]
  split
  · next h =>
    have hc : s.cuff c = { s.cuff c with filt := none } := by rw [← h]
    split
    · next he => rw [he]; exact hc
    · rfl
  · exact s.cuff_setCuff ..

theorem State.freezeCuffs_cuff (c : Nat) : (((Tbl.keys s.cuffs).foldl State.freezeCuff s).cuff c) = { s.cuff c with filt := none } := by
  have hfold (l : List Nat) : ∀ u : State, (l.foldl State.freezeCuff u).cuff c = if c ∈ l then { u.cuff c with filt := none } else u.cuff c := by
    induction l with
    | nil => exact fun _ => rfl
    | cons x l ih =>
      intro u
      rw [List.foldl_cons, ih, State.cuff_freezeCuff]
      by_cases hc : c = x
      · simp [hc]
      · simp [hc]
  rw [hfold]
  split
  · rfl
  · next h =>
    have hempty : s.cuff c = {} := get_of_not_mem h
    rw [hempty]

theorem State.freezePort_frame {p : Nat} : BaseKept s (s.freezePort p) ∧ (s.freezePort p).wipe 34359738384 = s.wipe 34359738384 := by
  obtain ⟨u, hu⟩ : ∃ u, u = if (s.port p).reqAt = none ∧ (s.port p).ended = none then s
    else s.setPort p { s.port p with reqAt := none, ended := none, undo := none, line := [] } := ⟨_, rfl⟩
  have hsu : BaseKept s u ∧ u.wipe 34359738384 = s.wipe 34359738384 := by
    rw [hu]
    exact iteInduction (motive := fun v : State => BaseKept s v ∧ v.wipe 34359738384 = s.wipe 34359738384) (fun _ => ⟨.refl s, rfl⟩)
      fun _ => ⟨.of_regs rfl, s.setPort_wipe _ _ _ (by decide)⟩
  have hstat (v : State) (b : Nat) : BaseKept v (v.setFbkStat p b false) ∧ (v.setFbkStat p b false).wipe 34359738384 = v.wipe 34359738384 :=
    ⟨v.setBit_base (by simp only [Reg.FBK_STATUS]; omega) _ _, v.setBit_wipe _ _ _ _ (by decide)⟩
  have heq : s.freezePort p = (u.setFbkStat p 0 false).setFbkStat p 4 false := by rw [hu]; rfl
  rw [heq]
  exact ⟨(hsu.1.trans (hstat _ 0).1).trans (hstat _ 4).1, ((hstat _ 4).2.trans (hstat _ 0).2).trans hsu.2⟩

theorem State.freezePio_frame (e : Nat) : (s.freezePio e).wipe 8589934592 = s.wipe 8589934592 := by
  rw [State.freezePio]
  split
  · rfl
  · exact s.setPio_wipe _ _ _ (by decide)

theorem State.freeze_froze : Froze s s.freeze := by
  obtain ⟨a, ha⟩ : ∃ a, a = (Tbl.keys s.cuffs).foldl (fun s c =>
    if (s.cuff c).filt = none then s else s.setCuff c { s.cuff c with filt := none }) s := ⟨_, rfl⟩
  have haf : a = (Tbl.keys s.cuffs).foldl State.freezeCuff s := ha
  obtain ⟨b, hb⟩ : ∃ b, b = (List.range 64).foldl State.freezePort a := ⟨_, rfl⟩
  obtain ⟨d, hd⟩ : ∃ d, d = (Tbl.keys b.pios).foldl State.freezePio b := ⟨_, rfl⟩
  obtain ⟨e, he⟩ : ∃ e : State, e = { d with pwr := { d.pwr with aligning := false, frozenAt := some (d.pwr.frozenAt.getD d.tick) } } := ⟨_, rfl⟩
  have hstop : e = ({ d with pwr := { d.pwr with aligning := false } } : State).stopContexts := he
  have heq : s.freeze = e.setCoarse true := by
    unfold State.freeze
    extract_lets a' b' d' p
    have ha' : a' = a := ha.symm
    have hb' : b' = b := by rw [hb, ← ha']
    have hd' : d' = d := by rw [hd, ← hb']
    have hp : p = d.pwr := by rw [← hd']
    rw [hstop, hd', hp]
  obtain ⟨hcoarse, honly⟩ := e.setCoarse_only (ks := [Reg.TB_STATUS, Reg.ENS_STATUS]) (by simp) (by simp) true
  rw [← heq] at hcoarse honly
  have hcuff (c : Nat) : a.cuff c = { s.cuff c with filt := none } := by rw [haf]; exact s.freezeCuffs_cuff c
  have haw : a.wipe 8192 = s.wipe 8192 := by
    rw [haf]
    exact State.foldl_wipe 8192 _ (fun u c => by rw [State.freezeCuff]; split; exacts [rfl, u.setCuff_wipe _ _ _ (by decide)]) _ _
  have hbw : b.wipe 34359738384 = a.wipe 34359738384 := by
    rw [hb]
    exact State.foldl_wipe 34359738384 _ (fun u p => u.freezePort_frame.2) _ _
  have hdw : d.wipe 8589934592 = b.wipe 8589934592 := by
    rw [hd]
    exact State.foldl_wipe 8589934592 _ (fun u e => u.freezePio_frame e) _ _
  have hbase : BaseKept a b := hb ▸ BaseKept.foldl (fun u p _ => u.freezePort_frame.1) a
  have hds : d.wipe freezing = s.wipe freezing :=
    ((State.wipe_mono hdw (by decide)).trans (State.wipe_mono hbw (by decide))).trans (State.wipe_mono haw (by decide))
  have hew : e.wipe freezing = d.wipe freezing := he ▸ d.pwr_wipe _ _ (by decide)
  have hpwr : d.pwr = s.pwr := (State.pwr_of_wipe hdw rfl).trans ((State.pwr_of_wipe hbw rfl).trans (State.pwr_of_wipe haw rfl))
  have htick : d.tick = s.tick := (State.tick_of_wipe hdw rfl).trans ((State.tick_of_wipe hbw rfl).trans (State.tick_of_wipe haw rfl))
  have hereg (r : Nat) (hr : r < 0x4000) : e.reg r = s.reg r := by
    have h1 : e.reg r = d.reg r := State.reg_of_regs (by rw [he]) r
    rw [h1, State.reg_of_regs (State.regs_of_wipe hdw rfl), hbase.reg r hr, State.reg_of_regs (State.regs_of_wipe haw rfl)]
  have hfinal := honly.wipe
  refine ⟨fun c => ?_, ?_, hcoarse, fun r hr hne => ?_, (State.wipe_mono hfinal (by decide)).trans (hew.trans hds)⟩
  · have hcuffs : s.freeze.cuffs = a.cuffs := (State.cuffs_of_wipe hfinal rfl).trans
      ((by rw [he] : e.cuffs = d.cuffs).trans ((State.cuffs_of_wipe hdw rfl).trans (State.cuffs_of_wipe hbw rfl)))
    rw [State.cuff, hcuffs]
    exact hcuff c
  · rw [State.pwr_of_wipe hfinal rfl, he, ← hpwr, ← htick]
  · refine (honly.2 r ?_ (by simp only [Reg.HVC_PEND]; omega)).trans (hereg r hr)
    simp only [List.mem_cons, List.not_mem_nil, or_false, not_or]
    exact ⟨hne, by simp only [Reg.ENS_STATUS]; omega⟩

end Freeze

/-! ### HALT (R324) -/

/-- HALT has been entered. -/
structure HaltTaken (s t : State) : Prop where
  mode : t.mode = Mode.halt
  prev : t.fld Reg.PWR_STATUS 3 3 = s.mode % 8
  pend : t.srcPend 0x3438 = true
  code : t.fld Reg.DBG_STATUS 8 8 = 0
  pwr : t.pwr.ret = s.mode ∧ t.pwr.haltHeld = false ∧ t.pwr.frozenAt ≠ none
  coarse : t.bit Reg.TB_STATUS 2 = true
  cuff : ∀ c, t.cuff c = { s.cuff c with filt := none }
  kept : t.queues = s.queues ∧ t.mem = s.mem ∧ t.tb = s.tb

theorem State.enterHalt_taken (s : State) : HaltTaken s s.enterHalt := by
  obtain ⟨a, ha⟩ : ∃ a : State, a = { s with pwr := { s.pwr with ret := s.mode, haltHeld := false } } := ⟨_, rfl⟩
  obtain ⟨b, hb⟩ : ∃ b, b = a.freeze.dbgCode Code.ok := ⟨_, rfl⟩
  have heq : s.enterHalt = b.changeMode Mode.halt := by rw [hb, ha]; rfl
  have hfr := a.freeze_froze
  have hbf : b = { a.freeze with regs := b.regs } := hb ▸ ((OnlyRegs.refl [Reg.DBG_STATUS] a.freeze).setFld (by simp) _ _ _).1
  have htaken := b.changeMode_taken Mode.halt
  rw [← heq] at htaken
  generalize s.enterHalt = t at htaken
  have hframe := htaken.frame
  have hpwr : b.pwr = { a.pwr with aligning := false, frozenAt := some (a.pwr.frozenAt.getD a.tick) } := by rw [hbf]; exact hfr.pwr
  have hcoarse : b.bit Reg.TB_STATUS 2 = a.freeze.bit Reg.TB_STATUS 2 := hb ▸ State.bit_setFld_other _ (by decide) ..
  have hcode : b.fld Reg.DBG_STATUS 8 8 = 0 := hb ▸ State.fld_setFld_same _ _ _ _ _ (by decide)
  refine ⟨htaken.mode, ?_, htaken.pend, ?_, ?_, ?_, fun c => ?_, ?_⟩
  · rw [htaken.prev, State.mode, hpwr, ha]
    rfl
  · rw [State.fld_of_reg (htaken.reg (by decide) (by decide)), hcode]
  · rw [hframe]
    show b.pwr.ret = _ ∧ b.pwr.haltHeld = _ ∧ b.pwr.frozenAt ≠ _
    rw [hpwr, ha]
    exact ⟨rfl, rfl, by simp⟩
  · rw [State.bit_of_reg (htaken.reg (by decide) (by decide)), hcoarse, hfr.coarse]
  · have hcuffs : t.cuffs = a.freeze.cuffs := by rw [hframe, hbf]
    rw [State.cuff, hcuffs]
    exact (hfr.cuff c).trans (by rw [ha]; rfl)
  · rw [hframe, hbf]
    exact ⟨(State.queues_of_wipe hfr.wipe rfl).trans (by rw [ha]), (State.mem_of_wipe hfr.wipe rfl).trans (by rw [ha]),
      (State.tb_of_wipe hfr.wipe rfl).trans (by rw [ha])⟩

end Sys2Proof.Machine

/-! O58: the return from HALT: realignment, thawed ports and engines, and the mode before (R42, R198, R222, R325). -/

namespace Sys2Proof.Machine

open Sys2Proof

/-- The registers that show the mode, the time base's state and the answer of DBG. -/
def Shows (r : Nat) : Prop := r = Reg.PWR_STATUS ∨ r = Reg.TB_STATUS ∨ r = Reg.DBG_STATUS

theorem Shows.value {r : Nat} (h : Shows r) : r = 0x2040 ∨ r = 0x304c ∨ r = 0x100044 := h

theorem Shows.ne_edges {r : Nat} (h : Shows r) (c : Nat) : r ≠ Reg.CUF_EDGES c := by
  have hr := h.value
  simp only [Reg.CUF_EDGES]
  omega

theorem Shows.not_pend {r : Nat} (h : Shows r) : ¬(Reg.HVC_PEND 0 ≤ r ∧ r < Reg.HVC_PEND 512) := by
  have hr := h.value
  simp only [Reg.HVC_PEND]
  omega

/-- What thaws keeps the power state and the registers that show the mode. -/
structure ThawStep (s t : State) : Prop where
  pwr : t.pwr = s.pwr
  reg : ∀ r, Shows r → t.reg r = s.reg r

section Thaw
variable {s t u : State}

theorem ThawStep.refl (s : State) : ThawStep s s := ⟨rfl, fun _ _ => rfl⟩

theorem ThawStep.trans (h : ThawStep s t) (g : ThawStep t u) : ThawStep s u :=
  ⟨g.pwr.trans h.pwr, fun r hr => (g.reg r hr).trans (h.reg r hr)⟩

theorem ThawStep.foldl {α : Type} {g : State → α → State} (h : ∀ s x, ThawStep s (g s x)) (l : List α) (s : State) :
    ThawStep s (l.foldl g s) := List.foldlRecOn (motive := ThawStep s) l g (.refl s) fun _ hu x _ => hu.trans (h _ x)

theorem ThawStep.ite {c : Prop} [Decidable c] (h : ThawStep s t) (g : ThawStep s u) : ThawStep s (if c then t else u) :=
  iteInduction (motive := ThawStep s) (fun _ => h) fun _ => g

theorem WireStep.thaw {c : Nat} (h : WireStep c s t) : ThawStep s t := ⟨by rw [h.frame], fun r hr => h.reg r (hr.ne_edges c)⟩

variable (s)

theorem State.setCuff_thaw (c : Nat) (k : Cuff) : ThawStep s (s.setCuff c k) := ⟨rfl, fun _ _ => rfl⟩

theorem State.setPio_thaw (e : Nat) (k : Pio) : ThawStep s (s.setPio e k) := ⟨rfl, fun _ _ => rfl⟩

theorem State.setPort_thaw (p : Nat) (k : Fbk) : ThawStep s (s.setPort p k) := ⟨rfl, fun _ _ => rfl⟩

theorem State.thawPort_thaw (p : Nat) : ThawStep s (s.thawPort p) := by
  have hrest (u : State) (c : Nat) (l : Bool) :
      ThawStep u (if (u.cuff c).apron then u else (u.setCuff c { u.cuff c with edges := [] }).driveCuff c l) :=
    .ite (.refl u) ((u.setCuff_thaw c _).trans (State.driveCuff_wire _ l _).thaw)
  have hssi (u : State) : ThawStep u (u.restSsi p) := by
    rw [State.restSsi]
    exact .ite ((hrest u _ true).trans (hrest _ _ false)) (.refl u)
  exact (s.setPort_thaw p _).trans (hssi _)

theorem State.thawPorts_thaw : ThawStep s s.thawPorts := .foldl State.thawPort_thaw _ s

theorem State.thawPio_thaw (e : Nat) : ThawStep s (s.thawPio e) := by
  unfold State.thawPio
  dsimp only
  split
  · exact .refl s
  · have hcuffs (g : State → Nat → Cuff) (l : List Nat) : ThawStep s (l.foldl (fun u c => u.setCuff c (g u c)) s) :=
      .foldl (fun u c => u.setCuff_thaw c (g u c)) l s
    exact .ite (((hcuffs _ _).trans (State.setPio_thaw ..)).trans (State.setPio_thaw ..)) ((hcuffs _ _).trans (State.setPio_thaw ..))

theorem State.thawEngines_thaw : ThawStep s s.thawEngines := .foldl State.thawPio_thaw _ s

/-! ### The realignment (R42) -/

theorem State.reg_reduceOffsets_shows {r : Nat} (hr : Shows r) : s.reduceOffsets.reg r = s.reg r := by
  have hpair (u : State) (a b l h : Nat) (hl : r ≠ l) (hh : r ≠ h) (hu : u.reg r = s.reg r) : (u.reducePair a b l h).reg r = s.reg r := by
    simp only [State.reducePair, State.setPairs]
    rw [State.reg_setStaged, State.reg_setN_other _ hh, State.reg_setStaged, State.reg_setN_other _ hl, hu]
  have hvalue := hr.value
  have hcuff (c : Nat) : r ≠ Reg.CUF_PER_OFF_L c ∧ r ≠ Reg.CUF_PER_OFF_H c := by
    simp only [Reg.CUF_PER_OFF_L, Reg.CUF_PER_OFF_H]
    omega
  have hgroup (g : Nat) : r ≠ Reg.TB_SG_BASE_L g ∧ r ≠ Reg.TB_SG_BASE_H g := by
    simp only [Reg.TB_SG_BASE_L, Reg.TB_SG_BASE_H]
    omega
  have hseq (p : Nat) : r ≠ Reg.PG_SEQ p := by
    simp only [Reg.PG_SEQ]
    omega
  simp only [State.reduceOffsets]
  refine List.foldlRecOn (motive := fun v : State => v.reg r = s.reg r) _ _ ?_ fun u hu p _ => (u.reg_setN_other (hseq p) _).trans hu
  refine List.foldlRecOn (motive := fun v : State => v.reg r = s.reg r) _ _ ?_ fun u hu g _ => hpair u _ _ _ _ (hgroup g).1 (hgroup g).2 hu
  exact List.foldlRecOn (motive := fun v : State => v.reg r = s.reg r) _ _ rfl fun u hu c _ => hpair u _ _ _ _ (hcuff c).1 (hcuff c).2 hu

/-- After the realignment the time base is exact again; the registers of the mode and of DBG stay. -/
theorem State.realign_spec : s.realign.coarse = false ∧ s.realign.pwr = s.pwr ∧
    ∀ r, Shows r → r ≠ Reg.TB_STATUS → s.realign.reg r = s.reg r := by
  obtain ⟨a, ha⟩ : ∃ a, a = s.nextFresh.advance (Config.phase s.fresh % 18) := ⟨_, rfl⟩
  have hreg (r : Nat) (hr : Shows r) (hne : r ≠ Reg.TB_STATUS) : a.reg r = s.reg r := by
    rw [ha, State.advance_eq]
    split
    · rfl
    · rw [State.reg_reduceOffsets_shows _ hr, State.reg_reloaded _ _ hne hr.not_pend]
      rfl
  have hpwr : a.pwr = s.pwr := by
    rw [ha]
    have hadvance : (s.nextFresh.advance (Config.phase s.fresh % 18)).pwr = s.nextFresh.pwr :=
      State.pwr_of_wipe (State.advance_advanced s.nextFresh _) (by decide)
    exact hadvance
  obtain ⟨hcoarse, honly⟩ := a.setCoarse_only (ks := [Reg.TB_STATUS, Reg.ENS_STATUS]) (by simp) (by simp) false
  have heq : s.realign = a.setCoarse false := by rw [ha]; rfl
  rw [heq]
  refine ⟨hcoarse, (State.pwr_of_wipe honly.wipe rfl).trans hpwr, fun r hr hne => (honly.2 r ?_ hr.not_pend).trans (hreg r hr hne)⟩
  have hens : r ≠ Reg.ENS_STATUS := by
    have hvalue := hr.value
    simp only [Reg.ENS_STATUS]
    omega
  simp [hne, hens]

end Thaw

end Sys2Proof.Machine

/-! O58: the end of HALT, and the theorem (R316, R317, R320-R327). -/

namespace Sys2Proof.Machine

open Sys2Proof

/-- The end of HALT with reference edges (R325): the state `u` on its way, and the end `t`. -/
structure Resumed (s u t : State) : Prop where
  code : u.fld Reg.DBG_STATUS 8 8 = 0
  coarse : t.bit Reg.TB_STATUS 2 = false
  prev : t.fld Reg.PWR_STATUS 3 3 = 6
  safe : s.pwr.safeNext ≠ 0 → t = u.enterSafe s.pwr.safeNext ∧ t.mode = Mode.safe ∧ t.fld Reg.PWR_STATUS 12 3 = s.pwr.safeNext % 8 ∧
    t.pwr.safeNext = 0 ∧ t.srcPend 0x3438 = true
  runs : s.pwr.safeNext = 0 → s.pwr.ret = Mode.run ∨ s.pwr.ret = Mode.degraded → t = u.rejudgeAll ∧ u.srcPend 0x3438 = true ∧
    t.mode = s.runMode ∧ t.pwr.frozenAt = none
  other : s.pwr.safeNext = 0 → s.pwr.ret ≠ Mode.run → s.pwr.ret ≠ Mode.degraded → t = u ∧ t.mode = s.pwr.ret ∧ t.srcPend 0x3438 = true

section Resume
variable {s x : State}

/-- A state on its way out of HALT: its power state, its mode registers, and the answer of DBG. -/
structure Waking (s x : State) : Prop where
  pwr : x.pwr = s.pwr
  status : x.reg Reg.PWR_STATUS = s.reg Reg.PWR_STATUS
  coarse : x.bit Reg.TB_STATUS 2 = false
  code : x.fld Reg.DBG_STATUS 8 8 = 0

theorem Waking.thaw {y : State} (h : Waking s x) (g : ThawStep x y) : Waking s y where
  pwr := g.pwr.trans h.pwr
  status := (g.reg _ (.inl rfl)).trans h.status
  coarse := (State.bit_of_reg (g.reg _ (.inr (.inl rfl))) 2).trans h.coarse
  code := (State.fld_of_reg (g.reg _ (.inr (.inr rfl))) 8 8).trans h.code

theorem State.realigned_waking (s : State) : Waking s ((s.dbgCode Code.ok).realign) := by
  obtain ⟨a, ha⟩ : ∃ a, a = s.dbgCode Code.ok := ⟨_, rfl⟩
  obtain ⟨hcoarse, hpwr, hreg⟩ := a.realign_spec
  have hcode : a.fld Reg.DBG_STATUS 8 8 = 0 := ha ▸ State.fld_setFld_same _ _ _ _ _ (by decide)
  have hapwr : a.pwr = s.pwr := ha ▸ State.setFld_pwr ..
  have hstatus : a.reg Reg.PWR_STATUS = s.reg Reg.PWR_STATUS := ha ▸ State.reg_setFld_other _ (by decide) ..
  rw [← ha]
  exact ⟨hpwr.trans hapwr, (hreg _ (.inl rfl) (by decide)).trans hstatus, hcoarse,
    (State.fld_of_reg (hreg _ (.inr (.inr rfl)) (by decide)) 8 8).trans hcode⟩

/-- A mode taken on the way out of HALT. -/
theorem Waking.taken {m : Nat} (h : Waking s x) (hs : s.mode = Mode.halt) : let u := x.changeMode m
    u.fld Reg.DBG_STATUS 8 8 = 0 ∧ u.bit Reg.TB_STATUS 2 = false ∧ u.fld Reg.PWR_STATUS 3 3 = 6 ∧ u.srcPend 0x3438 = true ∧
      u.pwr = { s.pwr with mode := m } := by
  have htaken := x.changeMode_taken m
  have hmode : x.mode = Mode.halt := by rw [State.mode, h.pwr]; exact hs
  refine ⟨?_, ?_, ?_, htaken.pend, ?_⟩
  · rw [State.fld_of_reg (htaken.reg (by decide) (by decide)), h.code]
  · rw [State.bit_of_reg (htaken.reg (by decide) (by decide)), h.coarse]
  · rw [htaken.prev, hmode]
    rfl
  · rw [htaken.pwr, h.pwr]

/-- The mode before HALT, or SAFE for a cause that waited, in whose entry the contexts and engines stay stopped (R325, R332). -/
theorem State.restoreMode_resumed (hx : Waking s x) (hs : s.mode = Mode.halt) : ∃ u, Resumed s u x.restoreMode := by
  obtain ⟨y, hy⟩ : ∃ y, y = x.thawPorts := ⟨_, rfl⟩
  have hw : Waking s y := hy ▸ hx.thaw x.thawPorts_thaw
  have hrun : y.runMode = s.runMode := State.runMode_of_reg hw.status
  have heq : x.restoreMode = if y.pwr.safeNext ≠ 0 then y.enterSafe y.pwr.safeNext
      else if y.pwr.ret = Mode.run ∨ y.pwr.ret = Mode.degraded then (y.startContexts.thawEngines.changeMode y.runMode).rejudgeAll
      else y.thawEngines.changeMode y.pwr.ret := by rw [hy]; rfl
  rw [heq, hw.pwr, hrun]
  by_cases hnext : s.pwr.safeNext ≠ 0
  · rw [if_pos hnext]
    have hsafe := y.enterSafe_taken s.pwr.safeNext
    have hmode : y.mode = Mode.halt := by rw [State.mode, hw.pwr]; exact hs
    refine ⟨y, hw.code, ?_, ?_, fun _ => ⟨rfl, ?_, hsafe.cause, ?_, hsafe.pend⟩, fun h => absurd h hnext, fun h => absurd h hnext⟩
    · rw [State.bit_of_reg (hsafe.base _ (by decide) (by decide) (by decide) (by decide)), hw.coarse]
    · rw [hsafe.prev, hmode]
      rfl
    · rw [State.mode, hsafe.pwr]
    · rw [hsafe.pwr]
  · rw [if_neg hnext]
    have hzero : s.pwr.safeNext = 0 := by simpa using hnext
    by_cases hret : s.pwr.ret = Mode.run ∨ s.pwr.ret = Mode.degraded
    · rw [if_pos hret]
      obtain ⟨z, hz⟩ : ∃ z, z = y.startContexts.thawEngines := ⟨_, rfl⟩
      rw [← hz]
      have hstart := y.startContexts_spec
      have hthaw : ThawStep y.startContexts z := hz ▸ State.thawEngines_thaw _
      have hregs : y.startContexts.regs = y.regs := by rw [hstart]
      have hpwr : z.pwr = { s.pwr with frozenAt := none } := by rw [hthaw.pwr, hstart, hw.pwr]
      obtain ⟨w, hww⟩ : ∃ w : State, w = { s with pwr := { s.pwr with frozenAt := none } } := ⟨_, rfl⟩
      have hwz : Waking w z := by
        have hreg (r : Nat) (hr : Shows r) : z.reg r = y.reg r := (hthaw.reg r hr).trans (State.reg_of_regs hregs r)
        refine ⟨by rw [hpwr, hww], ?_, (State.bit_of_reg (hreg _ (.inr (.inl rfl))) 2).trans hw.coarse,
          (State.fld_of_reg (hreg _ (.inr (.inr rfl))) 8 8).trans hw.code⟩
        rw [hreg _ (.inl rfl), hw.status, hww]
        rfl
      obtain ⟨hcode, hcoarse, hprev, hpend, hupwr⟩ := hwz.taken (m := s.runMode) (by rw [hww]; exact hs)
      generalize z.changeMode s.runMode = u at hcode hcoarse hprev hpend hupwr
      have hbase := u.rejudgeAll_settings.base
      have htpwr : u.rejudgeAll.pwr = u.pwr := State.pwr_of_wipe u.rejudgeAll_judging rfl
      refine ⟨u, hcode, (State.bit_of_reg (hbase.reg _ (by decide)) 2).trans hcoarse, (State.fld_of_reg (hbase.reg _ (by decide)) 3 3).trans hprev,
        fun h => absurd h hnext, fun _ _ => ⟨rfl, hpend, ?_, ?_⟩, fun _ h1 h2 => absurd hret (by simp [h1, h2])⟩
      · rw [State.mode, htpwr, hupwr]
      · rw [htpwr, hupwr, hww]
    · rw [if_neg hret]
      obtain ⟨hcode, hcoarse, hprev, hpend, hupwr⟩ := (hw.thaw y.thawEngines_thaw).taken (m := s.pwr.ret) hs
      exact ⟨_, hcode, hcoarse, hprev, fun h => absurd h hnext, fun _ h => absurd h hret, fun _ _ _ => ⟨rfl, by rw [State.mode, hupwr], hpend⟩⟩

end Resume

end Sys2Proof.Machine

/-! O58: the requests for a mode and for DOZE, and the commands of DBG (R316, R317, R322, R324-R326). -/

namespace Sys2Proof.Machine

open Sys2Proof

section Requests
variable (s : State)

/-- A tenant other than 0 holds a queue (R316). -/
def State.Foreign : Prop := ∃ e ∈ s.queues, e.2.state ≠ QState.free ∧ e.2.tenant ≠ 0

theorem State.othersQueue_iff : s.othersQueue = true ↔ s.Foreign := by
  simp [State.othersQueue, State.Foreign]

/-- The part is in PROVISION, RUN, DEGRADED or SAFE. -/
def State.Quiet : Prop := s.mode = Mode.provision ∨ s.mode = Mode.run ∨ s.mode = Mode.degraded ∨ s.mode = Mode.safe

theorem State.service_iff : s.service = true ↔ s.mode = Mode.run ∨ s.mode = Mode.degraded := by
  simp [State.service, State.mode]

theorem State.quiet_iff : s.Quiet ↔ (s.service = true ∨ s.mode = Mode.provision ∨ s.mode = Mode.safe) := by
  rw [State.Quiet, s.service_iff]
  tauto

/-- A request for RUN can be met (R317, R322). -/
def State.Runs : Prop := (s.mode = Mode.provision ∨ s.mode = Mode.safe) ∧ s.pwr.safePin = false ∧ s.pwr.failPin = false ∧
  (s.mode = Mode.safe → ¬s.temp Reg.PWR_TCRIT < s.temp Reg.PWR_TEMP + 40 ∧ s.pwr.locked = true ∧ s.bit Reg.TB_STATUS 0 = true)

theorem State.runs_iff : s.Runs ↔ (s.mode = Mode.provision ∨ s.mode = Mode.safe) ∧ s.runRefused = false := by
  unfold State.Runs State.runRefused State.tbValid
  by_cases h : s.mode = Mode.safe
  · simp [h, and_assoc]
  · simp [h]

/-- A request for DOZE can be met (R326). -/
def State.Dozes : Prop := s.Quiet ∧ s.refs = [] ∧ (∀ e ∈ s.queues, e.2.cls = 2 → e.2.contract = none) ∧ s.fld Reg.ENS_STATUS 0 3 ≠ 3 ∧
  s.pwr.safePin = false ∧ s.pwr.failPin = false

theorem State.dozes_iff : s.Dozes ↔ (s.service = true ∨ s.mode = Mode.provision ∨ s.mode = Mode.safe) ∧ s.dozeRefused = false := by
  rw [State.Dozes, s.quiet_iff, State.dozeRefused]
  simp [and_assoc]

variable {s} (hent : s.pwr.entering = false)
include hent

theorem State.powerReq_provision (hm : s.mode = Mode.safe) (hf : ¬s.Foreign) :
    s.powerReq 2 = (s.powerResult 2 Code.ok).changeMode Mode.provision := by
  have hno : s.othersQueue = false := Bool.eq_false_iff.mpr fun h => hf (s.othersQueue_iff.mp h)
  simp [State.powerReq, hent, hm, hno]

theorem State.powerReq_provision_refused (h : s.mode ≠ Mode.safe ∨ s.Foreign) : s.powerReq 2 = s.powerResult 2 Code.rejectClass := by
  have hno : ¬(s.mode = Mode.safe ∧ s.othersQueue = false) := fun ⟨hm, ho⟩ => h.elim (fun g => g hm) fun g => by
    rw [s.othersQueue_iff.mpr g] at ho
    exact absurd ho (by decide)
  simp [State.powerReq, hent, hno]

theorem State.powerReq_run (h : s.Runs) : s.powerReq 3 = (s.powerResult 3 Code.ok).startRun := by
  have hr := s.runs_iff.mp h
  simp [State.powerReq, hent, hr.1, hr.2]

theorem State.powerReq_run_refused (h : ¬s.Runs) : s.powerReq 3 = s.powerResult 3 Code.rejectClass := by
  rw [s.runs_iff] at h
  simp only [State.powerReq, hent, Bool.false_eq_true, if_false]
  rw [if_neg (by simp), if_neg (by tauto), if_neg (by simp), if_neg (by simp)]

theorem State.powerReq_safe (h : s.mode = Mode.run ∨ s.mode = Mode.degraded) : s.powerReq 5 = (s.powerResult 5 Code.ok).enterSafe 3 := by
  have hs := s.service_iff.mpr h
  simp [State.powerReq, hent, hs]

theorem State.powerReq_safe_refused (h : ¬(s.mode = Mode.run ∨ s.mode = Mode.degraded)) : s.powerReq 5 = s.powerResult 5 Code.rejectClass := by
  have hs : s.service = false := Bool.eq_false_iff.mpr fun g => h (s.service_iff.mp g)
  simp [State.powerReq, hent, hs]

theorem State.powerReq_doze (h : s.Dozes) :
    s.powerReq 7 = { s.powerResult 7 Code.ok with pwr := { s.pwr with entering := true } } := by
  have hd := s.dozes_iff.mp h
  simp only [State.powerReq, hent, Bool.false_eq_true, if_false]
  rw [if_neg (by simp), if_neg (by simp), if_neg (by simp), if_pos ⟨trivial, hd⟩]

theorem State.powerReq_doze_refused (h : ¬s.Dozes) : s.powerReq 7 = s.powerResult 7 Code.rejectClass := by
  rw [s.dozes_iff] at h
  simp only [State.powerReq, hent, Bool.false_eq_true, if_false]
  rw [if_neg (by simp), if_neg (by simp), if_neg (by simp), if_neg fun g => h g.2]

end Requests

/-! ### The pin DOZE_REQ (R326) -/

section Pin
variable {s : State}

/-- A request for DOZE is met: the entry has begun. -/
theorem State.dozeBegun (p : Power) : let t : State := { s.powerResult 7 Code.ok with pwr := p }
    (t.fld Reg.PWR_RESULT 0 3 = 7 ∧ t.fld Reg.PWR_RESULT 8 8 = 0) ∧ (∀ k, k ≠ Reg.PWR_RESULT → t.reg k = s.reg k) ∧
      t = { s with regs := t.regs, pwr := p } := by
  obtain ⟨h1, h2, h3⟩ := s.powerResult_ok (req := 7) (by decide)
  generalize s.powerResult 7 Code.ok = u at h1 h2 h3
  refine ⟨⟨h1, h2⟩, fun k hk => h3.2 k (by simpa using hk), ?_⟩
  have hu := h3.1
  generalize u.regs = x at hu
  subst hu
  rfl

theorem State.pinReq_doze (hent : s.pwr.entering = false) (h : s.Dozes) :
    s.pinReq = { s.powerResult 7 Code.ok with pwr := { s.pwr with dozeTry := none, entering := true } } := by
  rw [State.pinReq, State.powerReq_doze hent h]
  rfl

/-- A refused request of the pin is noted with its tick. -/
theorem State.pinReq_refused (hent : s.pwr.entering = false) (h : ¬s.Dozes) :
    let u : State := { s with pwr := { s.pwr with dozeTry := some s.tick } }
    let t := s.pinReq
    (t.fld Reg.PWR_RESULT 0 3 = 7 ∧ t.fld Reg.PWR_RESULT 8 8 = 0x08) ∧ t.bit (Reg.PG_ERR 2) 16 = true ∧
      OnlyRegs [Reg.PWR_RESULT, Reg.PG_ERR 2] u t := by
  obtain ⟨⟨hreq, hcode⟩, herr, honly⟩ := s.powerResult_refused (req := 7) (by decide)
  obtain ⟨v, hv⟩ : ∃ v, v = s.powerResult 7 Code.rejectClass := ⟨_, rfl⟩
  rw [← hv] at hreq hcode herr honly
  have hpwr : v.pwr = s.pwr := by rw [honly.1]
  have htick : v.tick = s.tick := by rw [honly.1]
  obtain ⟨w, hw⟩ : ∃ w : State, w = { v with pwr := { s.pwr with dozeTry := some s.tick } } := ⟨_, rfl⟩
  have heq : s.pinReq = w := by
    rw [State.pinReq, State.powerReq_doze_refused hent h, ← hv, hw, hpwr, htick, hent]
    rfl
  have hreg (r : Nat) : w.reg r = v.reg r := State.reg_of_regs (by rw [hw]) r
  have hregs : w.regs = v.regs := by rw [hw]
  rw [heq]
  refine ⟨⟨(State.fld_of_reg (hreg _) 0 3).trans hreq, (State.fld_of_reg (hreg _) 8 8).trans hcode⟩, (State.bit_of_reg (hreg _) 16).trans herr, ?_,
    fun k hk => (hreg k).trans (honly.2 k hk)⟩
  rw [hregs, hw]
  exact congrArg (fun x : State => ({ x with pwr := { s.pwr with dozeTry := some s.tick } } : State)) honly.1

theorem State.pinActs_iff : s.pinActs = true ↔ s.pwr.dozeReq = true ∧
    ¬(s.mode = Mode.off ∨ s.mode = Mode.doze ∨ s.bit Reg.PWR_CFG 0 = false ∨ s.pwr.entering = true) := by
  simp only [State.pinActs, Bool.and_eq_true, decide_eq_true_eq, Bool.not_eq_true', not_or, Bool.not_eq_false, Bool.not_eq_true]
  tauto

theorem State.retryDue_iff : s.retryDue = true ↔ ∃ t0, s.pwr.dozeTry = some t0 ∧ t0 + 1500000 ≤ s.tick := by
  unfold State.retryDue
  split
  · next h => simp [h]
  · next h => simp [h]

end Pin

/-! ### DBG_CTRL (R324, R325) -/

section Dbg
variable {s : State} {v : Nat}

theorem State.dbgReach_iff : s.dbgReach = true ↔ s.pfPage 0x100 = true ∨ s.bit Reg.SEC_STRAP 3 = false ∧ s.mode ≠ Mode.off := by
  simp [State.dbgReach, State.jtagOn]

theorem halt_bits (v : Nat) : bitAt (Nat.lor v 1) 0 = true ∧ bitAt (Nat.lor v 1) 1 = bitAt v 1 :=
  ⟨by simpa using bitAt_lor_two_pow v 0 0, by simpa using bitAt_lor_two_pow v 0 1⟩

theorem resume_bits (v : Nat) : bitAt (Nat.lor v 2) 0 = bitAt v 0 ∧ bitAt (Nat.lor v 2) 1 = true :=
  ⟨by simpa using bitAt_lor_two_pow v 1 0, by simpa using bitAt_lor_two_pow v 1 1⟩

/-- A write of DBG_CTRL that does not reach the part. -/
theorem State.writeDbg_unreached (h : ¬s.dbgReach = true) : s.writeDbg v = s := if_pos (Bool.eq_false_iff.mpr h)

theorem State.writeDbg_both (h : s.dbgReach = true) (h0 : bitAt v 0 = true) (h1 : bitAt v 1 = true) : s.writeDbg v = s.cmdRefused 0x100 := by
  simp [State.writeDbg, h, h0, h1]

theorem State.writeDbg_halt (h : s.dbgReach = true) (h0 : bitAt v 0 = true) (h1 : bitAt v 1 = false) : s.writeDbg v = s.halt := by
  simp [State.writeDbg, h, h0, h1]

theorem State.writeDbg_resume (h : s.dbgReach = true) (h0 : bitAt v 0 = false) (h1 : bitAt v 1 = true) : s.writeDbg v = s.resume := by
  simp [State.writeDbg, h, h0, h1]

theorem State.dbgRefused (s : State) : (s.dbgCode Code.rejectClass).fld Reg.DBG_STATUS 8 8 = 0x08 ∧
    OnlyRegs [Reg.DBG_STATUS] s (s.dbgCode Code.rejectClass) :=
  ⟨State.fld_setFld_same _ _ _ _ _ (by decide), (OnlyRegs.refl _ s).setFld (by simp) _ _ _⟩

theorem State.cmdRefused_dbg (s : State) : (s.cmdRefused 0x100).bit (Reg.PG_ERR 0x100) 4 = true ∧
    OnlyRegs [Reg.PG_ERR 0x100, Reg.PG_ERR_INFO 0x100] s (s.cmdRefused 0x100) :=
  ⟨(State.bit_setFld_other _ (by decide) ..).trans (State.bit_setBit_same _ _ _ true (by decide)),
    (OnlyRegs.refl _ s).pgErrCode (by simp) (by simp) _ _⟩

theorem State.halt_held (hen : s.bit Reg.PWR_CFG 1 = true) (hw : s.mode = Mode.doze ∨ s.pwr.entering = true) :
    s.halt = { s with pwr := { s.pwr with haltHeld := true } } := by
  simp only [State.halt, hen, Bool.true_eq_false, if_false]
  exact if_pos hw

theorem State.halt_refused (h : ¬s.bit Reg.PWR_CFG 1 = true ∨ ¬(s.mode = Mode.doze ∨ s.pwr.entering = true) ∧ ¬s.Quiet) :
    s.halt = s.dbgCode Code.rejectClass := by
  rw [State.halt]
  by_cases hen : s.bit Reg.PWR_CFG 1 = true
  · obtain ⟨hw, hq⟩ := h.resolve_left fun g => g hen
    rw [if_neg (by simp [hen]), if_neg hw, if_neg fun g => hq (s.quiet_iff.mpr g)]
  · exact if_pos (Bool.eq_false_iff.mpr hen)

theorem State.halt_enters (hen : s.bit Reg.PWR_CFG 1 = true) (hw : ¬(s.mode = Mode.doze ∨ s.pwr.entering = true)) (hq : s.Quiet) :
    s.halt = s.enterHalt := by
  rw [State.halt, if_neg (by simp [hen]), if_neg hw, if_pos (s.quiet_iff.mp hq)]

theorem State.edgesRun_iff : s.edgesRun = true ↔ s.pwr.refOk = true ∧ s.pwr.locked = true := by simp [State.edgesRun]

theorem State.resume_edges (hm : s.mode = Mode.halt) (he : s.edgesRun = true) : s.resume = (s.dbgCode Code.ok).realign.restoreMode := by
  rw [State.resume, if_neg fun h => h hm, if_pos he]

/-- Without reference edges the realignment waits (R42, R325). -/
theorem State.resume_waits (hm : s.mode = Mode.halt) (he : ¬s.edgesRun = true) : let t := s.resume
    t.fld Reg.DBG_STATUS 8 8 = 0 ∧ t.pwr = { s.pwr with aligning := true } ∧ OnlyRegs [Reg.DBG_STATUS] { s with pwr := t.pwr } t := by
  obtain ⟨u, hu⟩ : ∃ u, u = s.dbgCode Code.ok := ⟨_, rfl⟩
  have heq : s.resume = { u with pwr := { u.pwr with aligning := true } } := by
    rw [State.resume, if_neg fun h => h hm, if_neg he, hu]
    rfl
  have honly : OnlyRegs [Reg.DBG_STATUS] s u := hu ▸ (OnlyRegs.refl _ s).setFld (by simp) _ _ _
  have hcode : u.fld Reg.DBG_STATUS 8 8 = 0 := hu ▸ State.fld_setFld_same _ _ _ _ _ (by decide)
  have hframe := honly.1
  rw [heq]
  refine ⟨hcode, by rw [hframe], ?_, fun k hk => honly.2 k hk⟩
  generalize u.regs = x at hframe
  rw [hframe]

end Dbg

end Sys2Proof.Machine

/-! O58: the theorem (R316, R317, R320-R327). -/

namespace Sys2Proof.Machine

open Sys2Proof

section Answers
variable {s : State}

/-- A request for PROVISION in SAFE without another tenant's queue (R316). -/
theorem State.provision_taken (hent : s.pwr.entering = false) (hm : s.mode = Mode.safe) (hf : ¬s.Foreign) : let t := s.powerReq 2
    (t.mode = Mode.provision ∧ t.fld Reg.PWR_STATUS 3 3 = s.mode % 8 ∧ t.srcPend 0x3438 = true) ∧
      (t.fld Reg.PWR_RESULT 0 3 = 2 ∧ t.fld Reg.PWR_RESULT 8 8 = 0) ∧ t.pwr = { s.pwr with mode := Mode.provision } ∧
      SameButEvents [Reg.PWR_RESULT, Reg.PWR_STATUS] s t ∧
      t = { s with out := t.out, regs := t.regs, fns := t.fns, link := t.link, srcs := t.srcs, vecs := t.vecs, pwr := t.pwr } := by
  obtain ⟨h1, h2, h3⟩ := s.powerResult_ok (req := 2) (by decide)
  rw [State.powerReq_provision hent hm hf]
  have htaken := (s.powerResult 2 Code.ok).changeMode_taken Mode.provision
  generalize (s.powerResult 2 Code.ok).changeMode Mode.provision = t at htaken
  generalize s.powerResult 2 Code.ok = u at h1 h2 h3 htaken
  have hframe := h3.1
  have hpwr : u.pwr = s.pwr := by rw [hframe]
  have hreg := htaken.reg (k := Reg.PWR_RESULT) (by decide) (by decide)
  refine ⟨⟨htaken.mode, ?_, htaken.pend⟩, ⟨by rw [State.fld_of_reg hreg, h1], by rw [State.fld_of_reg hreg, h2]⟩, by rw [htaken.pwr, hpwr],
    fun k hk hp => ?_, ?_⟩
  · rw [htaken.prev, State.mode, State.mode, hpwr]
  · simp only [List.mem_cons, List.not_mem_nil, or_false, not_or] at hk
    exact (htaken.reg hk.2 hp).trans (h3.2 k (by simpa using hk.1))
  · rw [htaken.pwr]
    exact htaken.frame.trans (by rw [hframe])

/-- A request for RUN that can be met (R322). -/
theorem State.run_taken (hent : s.pwr.entering = false) (h : s.Runs) : let t := s.powerReq 3
    (t.mode = s.runMode ∧ t.fld Reg.PWR_STATUS 3 3 = s.mode % 8 ∧ t.srcPend 0x3438 = true) ∧
      (t.fld Reg.PWR_RESULT 0 3 = 3 ∧ t.fld Reg.PWR_RESULT 8 8 = 0) ∧
      (∀ c < 1024, (t.cuff c).apMode = false ∧ (s.bit (Reg.SLV_STATUS (c / 32)) 1 = false → (t.cuff c).apBank = true) ∧
        (t.cuff c).fifo = (s.cuff c).fifo) ∧
      (∀ p < 512, s.pairEn p = true → (t.pairSt p).st = 0) ∧ t.pwr.frozenAt = none ∧
      (s.degradedNow = true → t.srcPend 0x3432 = true) ∧ t.queues = s.queues ∧ t.mem = s.mem ∧ t.tb = s.tb := by
  obtain ⟨h1, h2, h3⟩ := s.powerResult_ok (req := 3) (by decide)
  rw [State.powerReq_run hent h]
  have hrun := (s.powerResult 3 Code.ok).startRun_taken
  generalize (s.powerResult 3 Code.ok).startRun = t at hrun
  generalize s.powerResult 3 Code.ok = u at h1 h2 h3 hrun
  have hframe := h3.1
  have hreg {r : Nat} (hr : r ≠ Reg.PWR_RESULT) : u.reg r = s.reg r := h3.2 r (by simpa using hr)
  have hcuffs : u.cuffs = s.cuffs := by rw [hframe]
  have hpwr : u.pwr = s.pwr := by rw [hframe]
  have hen (p : Nat) : u.pairEn p = s.pairEn p :=
    State.bit_of_reg (hreg (by simp only [Reg.SLV_PAIR_CFG, Reg.PWR_RESULT]; omega)) 0
  have hdeg : u.degradedNow = s.degradedNow := by
    rw [State.degradedNow, State.bit_of_reg (hreg (by decide)), State.bit_of_reg (hreg (by decide))]
    rfl
  obtain ⟨hq, hm, htb⟩ := hrun.kept
  refine ⟨⟨hrun.mode.trans (State.runMode_of_reg (hreg (by decide))), ?_, hrun.pend⟩,
    ⟨by rw [State.fld_of_reg hrun.result, h1], by rw [State.fld_of_reg hrun.result, h2]⟩, fun c hc => ?_, fun p hp he => ?_, hrun.frozen, ?_,
    hq.trans (by rw [hframe]), hm.trans (by rw [hframe]), htb.trans (by rw [hframe])⟩
  · rw [hrun.prev, State.mode, State.mode, hpwr]
  · obtain ⟨hmode, hbank, hfifo⟩ := hrun.cuff c hc
    have hbit : u.bit (Reg.SLV_STATUS (c / 32)) 1 = s.bit (Reg.SLV_STATUS (c / 32)) 1 :=
      State.bit_of_reg (hreg (by simp only [Reg.SLV_STATUS, Reg.PWR_RESULT]; omega)) 1
    exact ⟨hmode, fun hb => hbank (hbit.trans hb), by rw [hfifo, State.cuff, State.cuff, hcuffs]⟩
  · exact hrun.pair p hp ((hen p).trans he)
  · exact fun hd => hrun.degraded (hdeg.trans hd)

/-- A request for SAFE in RUN or DEGRADED (R320). -/
theorem State.safe_taken (hent : s.pwr.entering = false) (h : s.mode = Mode.run ∨ s.mode = Mode.degraded) : let t := s.powerReq 5
    (t.mode = Mode.safe ∧ t.fld Reg.PWR_STATUS 3 3 = s.mode % 8 ∧ t.srcPend 0x3438 = true) ∧
      (t.fld Reg.PWR_RESULT 0 3 = 5 ∧ t.fld Reg.PWR_RESULT 8 8 = 0) ∧ t.fld Reg.PWR_STATUS 12 3 = 3 ∧
      t.pair Reg.PWR_SAFE_TIME_L Reg.PWR_SAFE_TIME_H = s.tb.now % 2 ^ 64 ∧ (∀ c < 1024, (t.cuff c).apMode = true ∧ (t.cuff c).fifo = []) ∧
      t.refs = [] ∧ (∀ k < 5 * 4096, t.fifo k = []) ∧ (∀ e, (t.pio e).st = 0) ∧ t.pwr.frozenAt ≠ none ∧
      (∀ q, (t.queue q).state = (s.queue q).state ∧ (t.queue q).tail = (s.queue q).tail) ∧ t.mem = s.mem ∧ t.tb = s.tb := by
  obtain ⟨h1, h2, h3⟩ := s.powerResult_ok (req := 5) (by decide)
  rw [State.powerReq_safe hent h]
  have hsafe := (s.powerResult 5 Code.ok).enterSafe_taken 3
  generalize (s.powerResult 5 Code.ok).enterSafe 3 = t at hsafe
  generalize s.powerResult 5 Code.ok = u at h1 h2 h3 hsafe
  have hframe := h3.1
  have hpwr : u.pwr = s.pwr := by rw [hframe]
  have htb : u.tb = s.tb := by rw [hframe]
  have hqueues : u.queues = s.queues := by rw [hframe]
  have hreg := hsafe.base Reg.PWR_RESULT (by decide) (by decide) (by decide) (by decide)
  refine ⟨⟨by rw [State.mode, hsafe.pwr], ?_, hsafe.pend⟩, ⟨by rw [State.fld_of_reg hreg, h1], by rw [State.fld_of_reg hreg, h2]⟩, hsafe.cause,
    by rw [hsafe.time, htb], hsafe.cuff, hsafe.refs, hsafe.fifo, hsafe.engine, by rw [hsafe.pwr]; simp, fun q => ?_,
    hsafe.kept.1.trans (by rw [hframe]), hsafe.kept.2.trans htb⟩
  · rw [hsafe.prev, State.mode, State.mode, hpwr]
  · obtain ⟨ha, hb⟩ := hsafe.queue q
    rw [ha, hb, State.queue, State.queue, hqueues]
    exact ⟨rfl, rfl⟩

end Answers

end Sys2Proof.Machine

/-! O58: the theorem (R316, R317, R320-R327). -/

namespace Sys2Proof.Machine

open Sys2Proof

section Requests
variable {s : State}

/-- What the four requests of PWR_CTRL do where the page can be reached. -/
theorem exec_powerReq (hreach : s.pfPage 2 = true) :
    exec .pwrCtrlReqProvision s = .next ((s.drainBuf 0).powerReq 2) ∧ exec .pwrCtrlReqRun s = .next ((s.drainBuf 0).powerReq 3) ∧
      exec .pwrCtrlReqSafe s = .next ((s.drainBuf 0).powerReq 5) ∧ exec .pwrCtrlReqDoze s = .next ((s.drainBuf 0).powerReq 7) :=
  ⟨congrArg Host.Outcome.next (State.pf_of_reach hreach ..), congrArg Host.Outcome.next (State.pf_of_reach hreach ..),
    congrArg Host.Outcome.next (State.pf_of_reach hreach ..), congrArg Host.Outcome.next (State.pf_of_reach hreach ..)⟩

/-- The mode that RUN begins in, by the conditions of R318. -/
theorem State.runMode_eq (u : State) :
    u.runMode = if u.bit Reg.PWR_STATUS 6 = true ∨ u.bit Reg.PWR_STATUS 7 = true then Mode.degraded else Mode.run := by
  simp only [State.runMode, State.degradedNow, Bool.or_eq_true]

theorem State.degradedNow_iff (u : State) : u.degradedNow = true ↔ u.bit Reg.PWR_STATUS 6 = true ∨ u.bit Reg.PWR_STATUS 7 = true := by
  simp only [State.degradedNow, Bool.or_eq_true]

/-- A request for DOZE from PWR_CTRL that can be met. -/
theorem State.doze_taken (hent : s.pwr.entering = false) (h : s.Dozes) : let t := s.powerReq 7
    (t.fld Reg.PWR_RESULT 0 3 = 7 ∧ t.fld Reg.PWR_RESULT 8 8 = 0) ∧ t.pwr = { s.pwr with entering := true } ∧
      (∀ k, k ≠ Reg.PWR_RESULT → t.reg k = s.reg k) ∧ t = { s with regs := t.regs, pwr := t.pwr } := by
  obtain ⟨h1, h2, h3⟩ := State.dozeBegun (s := s) { s.pwr with entering := true }
  rw [State.powerReq_doze hent h]
  exact ⟨h1, rfl, h2, h3⟩

/-- A request for DOZE from the pin that can be met. -/
theorem State.pinDoze_taken (hent : s.pwr.entering = false) (h : s.Dozes) : let t := s.pinReq
    (t.fld Reg.PWR_RESULT 0 3 = 7 ∧ t.fld Reg.PWR_RESULT 8 8 = 0) ∧ t.pwr = { s.pwr with dozeTry := none, entering := true } ∧
      (∀ k, k ≠ Reg.PWR_RESULT → t.reg k = s.reg k) ∧
      t = { ({ s with pwr := { s.pwr with dozeTry := none } } : State) with regs := t.regs, pwr := t.pwr } := by
  obtain ⟨h1, h2, h3⟩ := State.dozeBegun (s := s) { s.pwr with dozeTry := none, entering := true }
  rw [State.pinReq_doze hent h]
  exact ⟨h1, rfl, h2, h3⟩

end Requests

/-- Settles O58: requests for a mode, HALT, RESUME and DOZE, each by what it makes of the drained state. -/
theorem modeRequests : Obligations.ModeRequests := by
  unfold Obligations.ModeRequests
  intro s v
  extract_lets d moved result refused quiet warm runs degraded service dozes enters foreign p p0 u idle noted pinEnters due reach code waits enabled edges
  refine ⟨fun hreach => ?_, ?_, ?_⟩
  · obtain ⟨hprov, hrun, hsafe, hdoze⟩ := exec_powerReq hreach
    have hent : d.pwr.entering = false := (congrArg Power.entering (s.drainBuf_pwr 0)).trans (s.entering_of_pfPage hreach)
    refine ⟨fun hm hf => ⟨_, hprov, State.provision_taken hent hm hf⟩, fun h => ⟨_, hprov, ?_⟩, fun h => ⟨_, hrun, ?_⟩, fun h => ⟨_, hrun, ?_⟩,
      fun h => ⟨_, hsafe, State.safe_taken hent h⟩, fun h => ⟨_, hsafe, ?_⟩, fun h => ⟨_, hdoze, State.doze_taken hent h⟩,
      fun h => ⟨_, hdoze, ?_⟩⟩
    · rw [State.powerReq_provision_refused hent h]
      exact d.powerResult_refused (by decide)
    · have hr := State.run_taken hent (s := d) h
      rw [State.runMode_eq, State.degradedNow_iff] at hr
      exact hr
    · rw [State.powerReq_run_refused hent h]
      exact d.powerResult_refused (by decide)
    · rw [State.powerReq_safe_refused hent h]
      exact d.powerResult_refused (by decide)
    · rw [State.powerReq_doze_refused hent h]
      exact d.powerResult_refused (by decide)
  · have hentu (h : ¬idle) : s.pwr.entering = false := Bool.eq_false_iff.mpr fun g => h (.inr (.inr (.inr g)))
    have hacts : u.pinActs = true ↔ ¬idle := u.pinActs_iff.trans ⟨fun h => h.2, fun h => ⟨rfl, h⟩⟩
    have hpin (h : ¬idle) : exec .dozeReq s = .next u.pinReq := congrArg Host.Outcome.next (if_pos (hacts.mpr h))
    have hretry (h : ¬idle) (hr : s.pwr.dozeReq = true) (hd : due) : exec .dozeReqRetry s = .next s.pinReq :=
      congrArg Host.Outcome.next (if_pos ⟨s.pinActs_iff.mpr ⟨hr, h⟩, s.retryDue_iff.mpr hd⟩)
    refine ⟨fun h => congrArg Host.Outcome.next (if_neg fun g => hacts.mp g h), fun h hd => ⟨_, hpin h, State.pinDoze_taken (s := u) (hentu h) hd⟩,
      fun h hd => ⟨_, hpin h, State.pinReq_refused (s := u) (hentu h) hd⟩, fun h => congrArg Host.Outcome.next (if_neg fun g => ?_),
      fun h hr hd hz => ⟨_, hretry h hr hd, State.pinDoze_taken (hentu h) hz⟩,
      fun h hr hd hz => ⟨_, hretry h hr hd, State.pinReq_refused (hentu h) hz⟩⟩
    obtain ⟨hr, hi⟩ := s.pinActs_iff.mp g.1
    rcases h with h | h | h
    · exact hi h
    · rw [h] at hr
      exact absurd hr (by decide)
    · exact h (s.retryDue_iff.mp g.2)
  · have hno (h : ¬reach) : ¬s.dbgReach = true := fun g => h (s.dbgReach_iff.mp g)
    have hyes (h : reach) : s.dbgReach = true := s.dbgReach_iff.mpr h
    have hhalt (h : reach) (hb : bitAt v 1 = false) : exec (.dbgCtrlHalt v) s = .next s.halt :=
      congrArg Host.Outcome.next (State.writeDbg_halt (hyes h) (halt_bits v).1 ((halt_bits v).2.trans hb))
    have hresume (h : reach) (hb : bitAt v 0 = false) : exec (.dbgCtrlResume v) s = .next s.resume :=
      congrArg Host.Outcome.next (State.writeDbg_resume (hyes h) ((resume_bits v).1.trans hb) (resume_bits v).2)
    refine ⟨fun h => ⟨congrArg Host.Outcome.next (State.writeDbg_unreached (hno h)), congrArg Host.Outcome.next (State.writeDbg_unreached (hno h))⟩,
      fun h hb => ⟨_, congrArg Host.Outcome.next (State.writeDbg_both (hyes h) (halt_bits v).1 ((halt_bits v).2.trans hb)), s.cmdRefused_dbg⟩,
      fun h hb hen hw => (hhalt h hb).trans (congrArg Host.Outcome.next (State.halt_held hen hw)),
      fun h hb hc => ⟨_, (hhalt h hb).trans (congrArg Host.Outcome.next (State.halt_refused hc)), s.dbgRefused⟩,
      fun h hb hen hw hq => ⟨_, (hhalt h hb).trans (congrArg Host.Outcome.next (State.halt_enters hen hw hq)), ?_⟩,
      fun h hb hm => ⟨_, (hresume h hb).trans (congrArg Host.Outcome.next (if_pos hm)), s.dbgRefused⟩,
      fun h hb hm he => ⟨_, hresume h hb, State.resume_waits hm fun g => he (s.edgesRun_iff.mp g)⟩, fun h hb hm he => ?_⟩
    · obtain ⟨hmode, hprev, hpend, hcode, ⟨hret, hheld, hfr⟩, hcoarse, hcuff, hkept⟩ := s.enterHalt_taken
      exact ⟨⟨hmode, hprev, hpend⟩, hcode, hret, hheld, hfr, hcoarse, fun c => by rw [hcuff], fun c => by rw [hcuff]; exact ⟨rfl, rfl, rfl⟩, hkept⟩
    · obtain ⟨w, hw⟩ := State.restoreMode_resumed s.realigned_waking hm
      refine ⟨_, w, (hresume h hb).trans (congrArg Host.Outcome.next (State.resume_edges hm (s.edgesRun_iff.mpr he))), hw.code, hw.coarse, hw.prev,
        hw.safe, fun h0 hr => ?_, hw.other⟩
      obtain ⟨h1, h2, h3, h4⟩ := hw.runs h0 hr
      exact ⟨h1, h2, h3.trans s.runMode_eq, h4⟩

end Sys2Proof.Machine

/-! O8, O9: the fields that a commit may write (R17, R21): no time base, no group, no hold-and-swap. -/

namespace Sys2Proof.Machine

open Sys2Proof

/-- The fields that a commit of pages may write. -/
abbrev committing : Nat := 74742937134578

/-- `t` differs from `s` at most in what a commit of pages may write. -/
structure Commits (s t : State) : Prop where
  wipe : t.wipe committing = s.wipe committing

section Rules
variable {s t u : State}

theorem Commits.refl (s : State) : Commits s s := ⟨rfl⟩

theorem Commits.trans (h : Commits s t) (g : Commits t u) : Commits s u := ⟨g.wipe.trans h.wipe⟩

theorem Commits.ite {c : Prop} [Decidable c] (h : Commits s t) (g : Commits s u) : Commits s (if c then t else u) :=
  iteInduction (motive := Commits s) (fun _ => h) fun _ => g

theorem Commits.foldl {α : Type} {g : State → α → State} (h : ∀ s x, Commits s (g s x)) (l : List α) (s : State) :
    Commits s (l.foldl g s) := List.foldlRecOn (motive := Commits s) l g (.refl s) fun _ hu x _ => hu.trans (h _ x)

theorem Commits.of_wipe {m : Nat} (h : t.wipe m = s.wipe m) (hm : m &&& committing = m) : Commits s t := ⟨State.wipe_mono h hm⟩

theorem Commits.of_edge (h : t.wipe edgeFields = s.wipe edgeFields) : Commits s t := .of_wipe h (by decide)

theorem Commits.of_judging (h : t.wipe judging = s.wipe judging) : Commits s t := .of_wipe h (by decide)

theorem CuffOnly.commits {c : Nat} (h : CuffOnly c s t) : Commits s t := ⟨by rw [h.frame]; rfl⟩

end Rules

section Writes
variable (s : State)

theorem State.setN_commits (k v : Nat) : Commits s (s.setN k v) := ⟨s.setN_wipe _ _ _ (by decide)⟩

theorem State.setBit_commits (k i : Nat) (b : Bool) : Commits s (s.setBit k i b) := s.setN_commits ..

theorem State.setFld_commits (k lo n v : Nat) : Commits s (s.setFld k lo n v) := s.setN_commits ..

theorem State.setStaged_commits (k : Nat) (v : Word) : Commits s (s.setStaged k v) := ⟨s.setStaged_wipe _ _ _ (by decide)⟩

theorem State.raise_commits (id : Nat) : Commits s (s.raise id) := ⟨s.raise_wipe _ _ (by decide)⟩

theorem State.setCuff_commits (c : Nat) (k : Cuff) : Commits s (s.setCuff c k) := ⟨s.setCuff_wipe _ _ _ (by decide)⟩

theorem State.setPairSt_commits (p : Nat) (k : Pair) : Commits s (s.setPairSt p k) := ⟨s.setPairSt_wipe _ _ _ (by decide)⟩

theorem State.setPio_commits (e : Nat) (k : Pio) : Commits s (s.setPio e k) := ⟨s.setPio_wipe _ _ _ (by decide)⟩

theorem State.setPort_commits (p : Nat) (k : Fbk) : Commits s (s.setPort p k) := ⟨s.setPort_wipe _ _ _ (by decide)⟩

theorem State.setEnp_commits (n : Nat) (k : Enp) : Commits s (s.setEnp n k) := ⟨s.setEnp_wipe _ _ _ (by decide)⟩

theorem State.setPage_commits (p : Nat) (k : Page) : Commits s (s.setPage p k) := ⟨s.setPage_wipe _ _ _ (by decide)⟩

theorem State.cufErr_commits (c b : Nat) : Commits s (s.cufErr c b) := .of_judging (s.cufErr_judging c b)

theorem State.driveCuff_commits (c : Nat) (l : Bool) (t : Nat) : Commits s (s.driveCuff c l t) := .of_edge (s.driveCuff_edgeFields c l t)

theorem State.settleCuff_commits (c : Nat) : Commits s (s.settleCuff c) := .of_edge (s.settleCuff_edgeFields c)

theorem State.rejudge_commits (ttype target : Nat) : Commits s (s.rejudge ttype target) := .of_judging (s.rejudge_judging ttype target)

theorem State.apronLevel_commits (c : Nat) : Commits s (s.apronLevel c) := (s.apronLevel_only c).commits

theorem State.toApron_commits (c : Nat) (w : Cause) : Commits s (s.toApron c w) := (s.toApron_only c w).commits

theorem State.respace_commits (c : Nat) : Commits s (s.respace c) := by
  unfold State.respace
  split
  · exact .refl s
  · exact .ite (.of_judging ((State.judgeFifo_judging ..).trans (s.setTargetFifo_judging ..))) (.refl s)

theorem State.floatCuff_commits (c t : Nat) : Commits s (s.floatCuff c t) := by
  unfold State.floatCuff
  exact .ite (.refl s) (.ite ((s.setCuff_commits c _).trans (.of_edge (State.edgeMade_edgeFields _ c t))) (s.setCuff_commits c _))

theorem State.legOff_commits (c : Nat) : Commits s (s.legOff c) := (s.setCuff_commits c _).trans (State.driveCuff_commits _ c _ _)

theorem State.legTo_commits (c t : Nat) (l : Bool) : Commits s (s.legTo c t l) := (s.setCuff_commits c _).trans (State.settleCuff_commits _ c)

theorem State.pairTo_commits (p st t : Nat) : Commits s (s.pairTo p st t) := by
  have hlegs (u : State) (a b t1 t2 : Nat) (l1 l2 : Bool) : Commits u ((u.legTo a t1 l1).legTo b t2 l2) :=
    (u.legTo_commits a t1 l1).trans (State.legTo_commits _ b t2 l2)
  unfold State.pairTo
  dsimp only
  exact (s.setPairSt_commits p _).trans (.ite (hlegs ..) (.ite (hlegs ..) (hlegs ..)))

/-! ### Sleeves -/

theorem State.judgePeriodic_commits (c : Nat) : Commits s (s.judgePeriodic c) := by
  unfold State.judgePeriodic
  exact .ite (.refl s) (.ite (s.setCuff_commits c _) (.ite ((s.setCuff_commits c _).trans (State.cufErr_commits _ c 4)) (.refl s)))

theorem State.followPhase_commits (c : Nat) : Commits s (s.followPhase c) := by
  unfold State.followPhase
  dsimp only
  have hset (k : Cuff) : Commits s (s.setCuff c k) := s.setCuff_commits c k
  refine .ite (.refl s) (.ite ((hset _).trans (State.cufErr_commits _ c 4)) ?_)
  refine .ite (.ite (hset _) ?_) ?_
  · exact ((hset _).trans (State.pairTo_commits ..)).trans (State.respace_commits ..)
  · exact ((hset _).trans (State.driveCuff_commits ..)).trans (State.respace_commits ..)

theorem State.tripPair_commits (p : Nat) (bridge causeB : Bool) (guard : Nat) : Commits s (s.tripPair p bridge causeB guard) := by
  have hbit (u : State) (k i : Nat) (b : Bool) : Commits u (u.setBit k i b) := u.setBit_commits k i b
  unfold State.tripPair
  extract_lets n i was a k b d e f g
  have ha : Commits s a := (s.toApron_commits ..).trans (State.toApron_commits ..)
  have hd : Commits s d := (ha.trans (State.setPairSt_commits ..)).trans (hbit ..)
  have he : Commits s e := .ite hd (hd.trans (hbit ..))
  have hf : Commits s f := .ite (he.trans (hbit ..)) he
  have hg : Commits s g := hf.trans (State.setN_commits ..)
  exact (hg.trans (State.raise_commits ..)).trans (State.rejudge_commits ..)

theorem State.guardHit_commits (p g : Nat) (legB : Bool) : Commits s (s.guardHit p g legB) := by
  unfold State.guardHit
  exact .ite (s.setBit_commits ..) (.ite (.ite (.refl s) (s.tripPair_commits ..)) (s.tripPair_commits ..))

theorem State.guardPair_commits (p g : Nat) : Commits s (s.guardPair p g) := by
  unfold State.guardPair
  exact .ite (.refl s) (.ite (s.guardHit_commits ..) (.ite (s.guardHit_commits ..) (.refl s)))

theorem State.guardOn_commits (n g : Nat) : Commits s (s.guardOn n g) := by
  unfold State.guardOn
  exact .ite (.refl s) ((s.setBit_commits ..).trans (.foldl (fun u i => u.guardPair_commits ..) _ _))

theorem State.guardFlip_commits (n g : Nat) : Commits s (s.guardFlip n g) := .ite (s.setBit_commits ..) (s.guardOn_commits n g)

theorem State.startLeg_commits (c : Nat) : Commits s (s.startLeg c) :=
  .ite (s.setCuff_commits ..) ((s.setCuff_commits ..).trans (State.legOff_commits ..))

theorem State.pairCommitted_commits (old : State) (p : Nat) : Commits s (State.pairCommitted old s p) := by
  unfold State.pairCommitted
  have hjudge (u : State) : Commits u ((u.rejudge 1 (2 * p)).rejudge 1 (2 * p + 1)) := (u.rejudge_commits ..).trans (State.rejudge_commits ..)
  have hleave (u : State) (c : Nat) : Commits u (u.leaveLeg c) := u.setCuff_commits ..
  refine .ite (.refl s) (.ite ?_ ?_)
  · exact (((s.setPairSt_commits ..).trans (State.startLeg_commits ..)).trans (State.startLeg_commits ..)).trans (hjudge _)
  · exact ((((s.setPairSt_commits ..).trans (hleave ..)).trans (hleave ..)).trans (State.setBit_commits ..)).trans (hjudge _)

theorem State.cuffCommitted_commits (old : State) (c : Nat) : Commits s (State.cuffCommitted old s c) := by
  unfold State.cuffCommitted
  extract_lets m moved k1 s1 k2 s2 s3 s4 s5
  have h1 : Commits s s1 := .ite (s.setCuff_commits ..) (.refl s)
  have h2 : Commits s1 s2 := .ite ((s1.setCuff_commits ..).trans (State.floatCuff_commits ..)) (.refl s1)
  have h3 : Commits s2 s3 := .ite (s2.apronLevel_commits c) (.refl s2)
  have h4 : Commits s3 s4 := .ite (s3.judgePeriodic_commits c) (.refl s3)
  have h5 : Commits s4 s5 := .ite (s4.followPhase_commits c) (.refl s4)
  exact ((((h1.trans h2).trans h3).trans h4).trans h5).trans (.ite (s5.setCuff_commits ..) (.refl s5))

theorem State.sleeveCommitted_commits (old : State) (n : Nat) : Commits s (State.sleeveCommitted old s n) :=
  ((Commits.foldl (fun u p => u.pairCommitted_commits old p) _ s).trans (.foldl (fun u c => u.cuffCommitted_commits old c) _ _)).trans
    (.foldl (fun u g => u.guardFlip_commits n g) _ _)

theorem State.sgCommitted_commits (old : State) (g : Nat) : Commits s (State.sgCommitted old s g) := by
  refine .ite (.foldl (fun u c => ?_) _ s) (.refl s)
  exact .ite ((u.judgePeriodic_commits c).trans (State.followPhase_commits ..)) (u.judgePeriodic_commits c)

end Writes

end Sys2Proof.Machine

/-! O8, O9: the commit of engines, ports and ensembles, and of several pages at once (R17, R21, R196, R241). -/

namespace Sys2Proof.Machine

open Sys2Proof

section Engines
variable (s : State)

theorem State.stopPio_commits (e : Nat) : Commits s (s.stopPio e) :=
  (Commits.foldl (g := fun u c => u.setCuff c { u.cuff c with edges := (u.cuff c).edges.filter fun x => u.atOrAfter (s.pioNow e) x.1 })
    (fun u c => u.setCuff_commits c _) _ s).trans (State.setPio_commits ..)

theorem State.stopAt_commits (e err : Nat) : Commits s (s.stopAt e err) :=
  ((s.stopPio_commits e).trans (State.setBit_commits ..)).trans (State.raise_commits ..)

theorem State.newBitp_commits (old : State) (e : Nat) : Commits s (State.newBitp old s e) := by
  have hrebase (t n : Nat) : Commits s (s.rebase e t n) := s.setPio_commits ..
  unfold State.newBitp State.refeed
  exact (hrebase _ _).trans (.ite (State.setPio_commits ..) (.refl _))

theorem State.pioCommitted_commits (old : State) (e : Nat) : Commits s (State.pioCommitted old s e) := by
  unfold State.pioCommitted
  extract_lets s1 reps k s2
  have h1 : Commits s s1 := .ite (s.newBitp_commits old e) (.refl s)
  have h2 : Commits s1 s2 := .ite (s1.setPio_commits ..) (.refl s1)
  exact (h1.trans h2).trans (.ite (.refl s2) (.ite (s2.stopAt_commits ..) (.ite (s2.stopAt_commits ..) (.refl s2))))

/-! ### Ports -/

theorem State.restSsi_commits (p : Nat) : Commits s (s.restSsi p) := by
  have hrest (u : State) (c : Nat) (l : Bool) :
      Commits u (if (u.cuff c).apron then u else (u.setCuff c { u.cuff c with edges := [] }).driveCuff c l) :=
    .ite (.refl u) ((u.setCuff_commits ..).trans (State.driveCuff_commits ..))
  rw [State.restSsi]
  exact .ite ((hrest s _ true).trans (hrest _ _ false)) (.refl s)

theorem State.restartSpeed_commits (p : Nat) (first : List Nat) : Commits s (s.restartSpeed p first) := by
  have hspeed (u : State) (v : Nat) : Commits u (u.setSpeed p v) := ⟨u.setPair_wipe _ _ _ _ (by decide)⟩
  exact ((s.setPort_commits ..).trans (hspeed _ _)).trans (State.setBit_commits ..)

theorem State.portMode_commits (p : Nat) : Commits s (s.portMode p) :=
  (((s.setBit_commits ..).trans (State.restartSpeed_commits ..)).trans (State.setPort_commits ..)).trans (State.restSsi_commits ..)

theorem State.portCommitted_commits (old : State) (p : Nat) : Commits s (State.portCommitted old s p) := by
  unfold State.portCommitted
  extract_lets s1
  have h1 : Commits s s1 := .ite (s.portMode_commits p) (.refl s)
  exact h1.trans (.ite (s1.restartSpeed_commits ..) (.refl s1))

/-! ### Ensembles -/

theorem State.ens_commits (x : Ens) : Commits s { s with ens := x } := ⟨s.ens_wipe _ _ (by decide)⟩

theorem State.dropPhase_commits : Commits s s.dropPhase := (s.ens_commits _).trans (State.setBit_commits ..)

theorem State.updPhase_commits : Commits s s.updPhase := by
  unfold State.updPhase
  split
  · exact .ite (.refl s) s.dropPhase_commits
  · exact .refl s

theorem State.updTvalid_commits : Commits s s.updTvalid := .ite (.refl s) ((s.setBit_commits ..).trans (State.raise_commits ..))

theorem State.setEnst_commits (v : Nat) : Commits s (s.setEnst v) := by
  unfold State.setEnst
  extract_lets s1
  have h1 : Commits s s1 := .ite (.refl s) s.dropPhase_commits
  exact h1.trans (.ite (.refl s1) (((s1.setFld_commits ..).trans (State.raise_commits ..)).trans (State.updTvalid_commits _)))

theorem State.ensCommitted_commits (old : State) : Commits s (State.ensCommitted old s) := by
  unfold State.ensCommitted
  extract_lets was is joined left s1
  have hleft : Commits s left := s.ens_commits _
  have h1 : Commits s s1 := .ite (.refl s) (.ite ((s.ens_commits _).trans (State.setEnst_commits ..))
    (((hleft.trans (State.setFld_commits ..)).trans (State.setFld_commits ..)).trans (State.setEnst_commits ..)))
  exact (h1.trans s1.updPhase_commits).trans (State.updTvalid_commits _)

theorem State.beacon_commits (n : Nat) : Commits s (s.beacon n) := by
  have hsend (u : State) : Commits u (u.send (.beacon n)) := ⟨u.send_wipe _ _ (by decide)⟩
  unfold State.beacon
  dsimp only
  refine .ite (Commits.trans ?_ (.ite (hsend _) (.refl _))) (.refl s)
  exact ((s.setFld_commits ..).trans (State.updPhase_commits _)).trans (State.setEnp_commits ..)

theorem State.enpCommitted_commits (old : State) (n : Nat) : Commits s (State.enpCommitted old s n) := by
  unfold State.enpCommitted
  extract_lets is s1
  have h1 : Commits s s1 := .ite (.refl s) (.ite (s.setEnp_commits ..)
    (((s.setFld_commits ..).trans (State.setEnp_commits ..)).trans (State.updPhase_commits _)))
  exact h1.trans (.ite (.refl s1) (.ite (s1.beacon_commits n) (.ite (s1.setEnp_commits ..) (.refl s1))))

/-! ### Pages -/

theorem State.pageCommitted_commits (old : State) (page : Nat) : Commits s (State.pageCommitted old s page) := by
  unfold State.pageCommitted
  exact .ite (.foldl (fun u g => u.sgCommitted_commits old g) _ s) (.ite (s.sleeveCommitted_commits old _)
    (.ite (.foldl (fun u e => u.pioCommitted_commits old e) _ s) (.ite (.foldl (fun u p => u.portCommitted_commits old p) _ s)
      (.ite (s.ensCommitted_commits old) (.ite (s.enpCommitted_commits old _) (.refl s))))))

theorem State.stageFld_commits (k lo n v : Nat) : Commits s (s.stageFld k lo n v) := s.setStaged_commits ..

theorem State.keepLeg_commits (c : Nat) : Commits s (s.keepLeg c) := by
  unfold State.keepLeg
  extract_lets s1 s2
  have h1 : Commits s s1 := (s.stageFld_commits ..).trans (State.stageFld_commits ..)
  exact (h1.trans (.ite (.refl s1) (s1.stageFld_commits ..))).trans (State.cufErr_commits ..)

theorem State.cmdRefused_commits (page : Nat) : Commits s (s.cmdRefused page) := (s.setBit_commits ..).trans (State.setFld_commits ..)

theorem State.screenToggle_commits (p : Nat) : Commits s (s.screenToggle p) := by
  unfold State.screenToggle
  dsimp only
  exact .ite (((s.stageFld_commits ..).trans (State.stageFld_commits ..)).trans (State.cmdRefused_commits ..)) (.refl s)

theorem State.screenGroup_commits (g : Nat) : Commits s (s.screenGroup g) :=
  .ite ((s.setStaged_commits ..).trans (State.setStaged_commits ..)) (.refl s)

theorem State.screenPage_commits (page : Nat) : Commits s (s.screenPage page) := by
  unfold State.screenPage
  extract_lets s1
  have h1 : Commits s s1 := .foldl (fun u k => u.setStaged_commits ..) _ s
  exact h1.trans (.ite (.foldl State.screenGroup_commits _ _) (.ite (.foldl State.keepLeg_commits _ _)
    (.ite (.foldl State.screenToggle_commits _ _) (.refl s1))))

theorem State.applyPage_commits (page : Nat) : Commits s (s.applyPage page) :=
  .foldl (fun u k => ⟨(State.shadow_wipe _ _ _ (by decide)).trans (u.setReg_wipe k _ _ (by decide))⟩) _ s

theorem State.stampCommit_commits (page : Nat) : Commits s (s.stampCommit page) := by
  unfold State.stampCommit
  extract_lets s1 s2 s3
  have h2 : Commits s s2 := (s.setFld_commits ..).trans ⟨State.setPair_wipe _ _ _ _ _ (by decide)⟩
  have h3 : Commits s2 s3 := .ite ⟨s2.discard_wipe _ _ (by decide)⟩ (.refl s2)
  exact (h2.trans h3).trans (State.setPage_commits ..)

theorem State.refuseEns_commits (page : Nat) : Commits s (s.refuseEns page) :=
  ((s.setFld_commits ..).trans (State.setBit_commits ..)).trans (State.setPage_commits ..)

/-- The commit of several pages on one tick (R17, R21, R241). -/
theorem State.commitPages_commits (ps : List Nat) : Commits s (s.commitPages ps) := by
  unfold State.commitPages
  extract_lets s1 t bad s2 go new
  have h1 : Commits s s1 := .foldl State.screenPage_commits _ s
  have h2 : Commits s1 s2 := .ite (.foldl State.refuseEns_commits _ _) (.refl s1)
  have h3 : Commits s2 new := (Commits.foldl State.applyPage_commits go s2).trans (.foldl State.stampCommit_commits _ _)
  exact ((h1.trans h2).trans h3).trans (.foldl (fun u p => u.pageCommitted_commits s2 p) _ _)

/-- The fields that the commit of a group may write. -/
theorem State.commitMembers_kept (g : Nat) : (s.commitMembers g).tb = s.tb ∧ (s.commitMembers g).hs = s.hs := by
  obtain ⟨a, ha⟩ : ∃ a, a = s.setGroup g { s.group g with armed := .no } := ⟨_, rfl⟩
  have h : Commits a (s.commitMembers g) := by
    have heq : s.commitMembers g = ((a.commitPages (a.group g).members).groupCode g Code.ok).raise 0x3408 := by rw [ha]; rfl
    rw [heq]
    exact ((a.commitPages_commits _).trans (State.setFld_commits ..)).trans (State.raise_commits ..)
  exact ⟨(State.tb_of_wipe h.wipe rfl).trans (by rw [ha]; rfl), (State.hs_of_wipe h.wipe rfl).trans (by rw [ha]; rfl)⟩

end Engines

end Sys2Proof.Machine

/-! O9: the commands of a commit group (R21, R22, R274, R385). -/

namespace Sys2Proof.Machine

open Sys2Proof

/-! ### The answer in CFG_GSTAT -/

section Codes
variable (s : State) (g : Nat)

theorem State.groupCode_spec {code : Nat} (hc : code < 256) : (s.groupCode g code).fld (Reg.CFG_GSTAT g) 8 8 = code ∧
    OnlyRegs [Reg.CFG_GSTAT g] s (s.groupCode g code) :=
  ⟨(State.fld_setFld_same _ _ _ _ _ (by decide)).trans (Nat.mod_eq_of_lt hc), (OnlyRegs.refl _ s).setFld (by simp) _ _ _⟩

theorem gstat_not_pend (g : Nat) : ¬(Reg.HVC_PEND 0 ≤ Reg.CFG_GSTAT g ∧ Reg.CFG_GSTAT g < Reg.HVC_PEND 512) := by
  simp only [Reg.HVC_PEND, Reg.CFG_GSTAT]
  omega

theorem State.groupRefused_spec {code : Nat} (hc : code < 256) : (s.groupRefused g code).fld (Reg.CFG_GSTAT g) 8 8 = code ∧
    (s.groupRefused g code).srcPend 0x3408 = true ∧ OnlyRegsAndEvents [Reg.CFG_GSTAT g] s (s.groupRefused g code) := by
  obtain ⟨hcode, honly⟩ := s.groupCode_spec g hc
  exact ⟨(State.fld_of_reg (State.raise_reg _ (by decide) (gstat_not_pend g)) 8 8).trans hcode,
    State.srcPend_raise (s := s.groupCode g code) 0x3408,
    honly.withEvents.raise (by decide)⟩

/-- A group takes a new value, and the answer is 0. -/
theorem State.groupDone_spec (x : Group) : let t := (s.setGroup g x).groupCode g Code.ok
    t.fld (Reg.CFG_GSTAT g) 8 8 = 0 ∧ t.group g = x ∧ (∀ g', g' ≠ g → t.group g' = s.group g') ∧
      (∀ k, k ≠ Reg.CFG_GSTAT g → t.reg k = s.reg k) ∧ t = { s with regs := t.regs, groups := t.groups } := by
  obtain ⟨u, hu⟩ : ∃ u, u = s.setGroup g x := ⟨_, rfl⟩
  have hgroup (k : Nat) : u.group k = if k = g then x else s.group k := hu ▸ s.group_setGroup ..
  obtain ⟨hcode, honly⟩ := u.groupCode_spec g (code := Code.ok) (by decide)
  rw [← hu]
  generalize u.groupCode g Code.ok = t at hcode honly
  have hgroups : t.groups = u.groups := by rw [honly.1]
  have ht (k : Nat) : t.group k = u.group k := by rw [State.group, hgroups]; rfl
  refine ⟨hcode, ?_, fun k hk => ?_, fun k hk => (honly.2 k (by simpa using hk)).trans (State.reg_of_regs (by rw [hu]; rfl) k), ?_⟩
  · rw [ht, hgroup, if_pos rfl]
  · rw [ht, hgroup, if_neg hk]
  · have hframe : u = { s with groups := u.groups } := hu ▸ rfl
    rw [hgroups]
    exact honly.1.trans (by rw [hframe])

/-! ### The commands -/

theorem State.groupAdd_armed (page : Nat) (h : s.groupArmed g = true) : s.groupAdd g page = s.groupCode g Code.rejectClass := if_pos h

theorem State.groupAdd_full (page : Nat) (h : s.groupArmed g = false)
    (hno : s.groupOf page ≠ none ∨ groupable page = false ∨ 64 ≤ (s.group g).members.length) :
    s.groupAdd g page = s.groupCode g Code.rejectCapacity := by
  rw [State.groupAdd, if_neg (by simp [h]), if_pos]
  rwa [Option.isSome_iff_ne_none]

theorem State.groupAdd_joins (page : Nat) (h : s.groupArmed g = false) (hof : s.groupOf page = none) (hcan : groupable page = true)
    (hlen : (s.group g).members.length < 64) :
    s.groupAdd g page = (s.setGroup g { s.group g with members := (s.group g).members ++ [page] }).groupCode g Code.ok := by
  rw [State.groupAdd, if_neg (by simp [h]), if_neg]
  simp only [hof, hcan, Option.isSome_none]
  simpa using hlen

theorem State.groupRemove_refused (page : Nat) (h : s.groupArmed g = true ∨ page ∉ (s.group g).members) :
    s.groupRemove g page = s.groupCode g Code.rejectClass := by
  rw [State.groupRemove, if_pos]
  exact h.imp id fun hm => by simpa using hm

theorem State.groupRemove_leaves (page : Nat) (h : s.groupArmed g = false) (hm : page ∈ (s.group g).members) :
    s.groupRemove g page = (s.setGroup g { s.group g with members := (s.group g).members.filter (· ≠ page) }).groupCode g Code.ok := by
  have hfilter : (s.group g).members.filter (· != page) = (s.group g).members.filter (· ≠ page) := List.filter_congr fun x _ => Bool.eq_iff_iff.mpr (by simp)
  rw [State.groupRemove, if_neg (by simp [h, hm]), hfilter]

/-- An ARM that comes too late is refused with REJECT_LATE (R18, R21). -/
theorem State.groupArm_late (h : s.groupArmed g = false)
    (hlate : s.ahead (s.pair (Reg.CFG_GTIME_L g) (Reg.CFG_GTIME_H g)) armLead = false) : let t := s.groupArm g
    t.fld (Reg.CFG_GSTAT g) 8 8 = 0x04 ∧ t.bit (Reg.PG_ERR 4) 1 = true ∧ t.fld (Reg.PG_ERR_INFO 4) 0 8 = 0x04 ∧
      t.srcPend 0x3408 = true ∧ OnlyRegsAndEvents [Reg.CFG_GSTAT g, Reg.PG_ERR 4, Reg.PG_ERR_INFO 4] s t := by
  obtain ⟨u, hu⟩ : ∃ u, u = s.pgErrCode 4 1 Code.rejectLate := ⟨_, rfl⟩
  have heq : s.groupArm g = u.groupRefused g Code.rejectLate := by
    rw [State.groupArm, if_neg (by simp [h]), if_neg (by simp [hlate]), hu]
  have herr : u.bit (Reg.PG_ERR 4) 1 = true ∧ u.fld (Reg.PG_ERR_INFO 4) 0 8 = 0x04 :=
    hu ▸ ⟨(State.bit_setFld_other _ (by decide) ..).trans (State.bit_setBit_same _ _ _ true (by decide)),
      State.fld_setFld_same _ _ _ _ _ (by decide)⟩
  have hsu : OnlyRegsAndEvents [Reg.CFG_GSTAT g, Reg.PG_ERR 4, Reg.PG_ERR_INFO 4] s u :=
    hu ▸ ((OnlyRegs.refl _ s).pgErrCode (by simp) (by simp) 1 Code.rejectLate).withEvents
  obtain ⟨hcode, hpend, honly⟩ := u.groupRefused_spec g (code := Code.rejectLate) (by decide)
  rw [heq]
  have hne1 : Reg.PG_ERR 4 ∉ [Reg.CFG_GSTAT g] := by simp only [Reg.PG_ERR, Reg.CFG_GSTAT, List.mem_singleton]; omega
  have hne2 : Reg.PG_ERR_INFO 4 ∉ [Reg.CFG_GSTAT g] := by simp only [Reg.PG_ERR_INFO, Reg.CFG_GSTAT, List.mem_singleton]; omega
  refine ⟨hcode, (State.bit_of_reg (honly.2 _ hne1 (by decide)) 1).trans herr.1, (State.fld_of_reg (honly.2 _ hne2 (by decide)) 0 8).trans herr.2,
    hpend, hsu.trans ⟨honly.1, fun k hk => honly.2 k fun hin => hk ?_⟩⟩
  simp only [List.mem_singleton] at hin
  simp [hin]

/-- COMMIT and ARM at once are refused (R385). -/
theorem State.groupBoth_spec (h : s.gsel = g) : let t := s.writeGctrl 3
    t.bit (Reg.PG_ERR 4) 4 = true ∧ t.fld (Reg.CFG_GSTAT g) 8 8 = 0x08 ∧ t.srcPend 0x3408 = true ∧ t.groups = s.groups := by
  obtain ⟨u, hu⟩ : ∃ u, u = s.cmdRefused 4 := ⟨_, rfl⟩
  have heq : s.writeGctrl 3 = u.groupRefused g Code.rejectClass := by
    rw [hu, ← h]
    unfold State.writeGctrl
    dsimp only
    exact (if_pos (by decide)).trans (if_pos (by decide))
  obtain ⟨hcode, hpend, honly⟩ := u.groupRefused_spec g (code := Code.rejectClass) (by decide)
  have herr : u.bit (Reg.PG_ERR 4) 4 = true :=
    hu ▸ (State.bit_setFld_other _ (by decide) ..).trans (State.bit_setBit_same _ _ _ true (by decide))
  have hne : Reg.PG_ERR 4 ∉ [Reg.CFG_GSTAT g] := by simp only [Reg.PG_ERR, Reg.CFG_GSTAT, List.mem_singleton]; omega
  rw [heq]
  refine ⟨(State.bit_of_reg (honly.2 _ hne (by decide)) 4).trans herr, hcode, hpend, (State.groups_of_wipe honly.wipe rfl).trans ?_⟩
  have hsu : OnlyRegs [Reg.PG_ERR 4, Reg.PG_ERR_INFO 4] s u := hu ▸ (OnlyRegs.refl _ s).pgErrCode (by simp) (by simp) _ _
  rw [hsu.1]

/-- One command bit of CFG_GCTRL. -/
theorem State.writeGctrl_one : s.writeGctrl 1 = s.groupCommitWrite s.gsel ∧ s.writeGctrl 2 = s.groupArm s.gsel ∧
    s.writeGctrl 4 = s.groupDisarm s.gsel ∧ s.writeGctrl 8 = s.groupClear s.gsel := by
  unfold State.writeGctrl
  dsimp only
  exact ⟨(if_neg (by decide)).trans (if_pos (by decide)), (if_neg (by decide)).trans ((if_neg (by decide)).trans (if_pos (by decide))),
    (if_neg (by decide)).trans ((if_neg (by decide)).trans ((if_neg (by decide)).trans (if_pos (by decide)))),
    (if_neg (by decide)).trans ((if_neg (by decide)).trans ((if_neg (by decide)).trans ((if_neg (by decide)).trans (if_pos (by decide)))))⟩

theorem State.groupDisarm_at {t0 : Nat} (h : (s.group g).armed = .timed t0) : s.groupDisarm g =
    if s.ahead t0 armLead then (s.setGroup g { s.group g with armed := .no }).groupCode g Code.ok else s := by
  rw [State.groupDisarm, h]

end Codes

section Exec
variable {s : State}

theorem exec_gctrl (hreach : s.pfPage 4 = true) :
    exec (.cfgGctrlCommit 0) s = .next ((s.drainBuf 0).writeGctrl 1) ∧ exec (.cfgGctrlArm 0) s = .next ((s.drainBuf 0).writeGctrl 2) ∧
      exec (.cfgGctrlDisarm 0) s = .next ((s.drainBuf 0).writeGctrl 4) ∧ exec (.cfgGctrlClear 0) s = .next ((s.drainBuf 0).writeGctrl 8) ∧
      exec (.cfgGctrlCommit 2) s = .next ((s.drainBuf 0).writeGctrl 3) :=
  ⟨congrArg Host.Outcome.next (State.pf_of_reach hreach ..), congrArg Host.Outcome.next (State.pf_of_reach hreach ..),
    congrArg Host.Outcome.next (State.pf_of_reach hreach ..), congrArg Host.Outcome.next (State.pf_of_reach hreach ..),
    congrArg Host.Outcome.next (State.pf_of_reach hreach ..)⟩

theorem exec_gmembers (hreach : s.pfPage 4 = true) {page : Nat} (hp : page < 2048) :
    exec (.cfgGadd page) s = .next ((s.drainBuf 0).groupAdd (s.drainBuf 0).gsel page) ∧
      exec (.cfgGremove page) s = .next ((s.drainBuf 0).groupRemove (s.drainBuf 0).gsel page) := by
  have hok : okPage page = true := decide_eq_true hp
  exact ⟨(onUnit_of hok _).trans (congrArg Host.Outcome.next (State.pf_of_reach hreach ..)),
    (onUnit_of hok _).trans (congrArg Host.Outcome.next (State.pf_of_reach hreach ..))⟩

end Exec

end Sys2Proof.Machine

/-! O9: hold-and-swap, from its ARM to the release of the held cuffs (R23, R24, R387). -/

namespace Sys2Proof.Machine

open Sys2Proof

/-! ### ARM and CANCEL -/

section Arm
variable {s : State}

theorem State.hsArm_busy (h : s.hsBusy = true) : let t := s.hsArm
    t.fld Reg.CFG_HS_CTRL 8 8 = 0x08 ∧ t.hs = s.hs ∧ t.fld Reg.CFG_HS_CTRL 2 2 = s.fld Reg.CFG_HS_CTRL 2 2 ∧ t.srcPend 0x3409 = true ∧
      OnlyRegsAndEvents [Reg.CFG_HS_CTRL] s t := by
  obtain ⟨u, hu⟩ : ∃ u, u = s.setFld Reg.CFG_HS_CTRL 8 8 Code.rejectClass := ⟨_, rfl⟩
  have heq : s.hsArm = u.raise 0x3409 := (if_pos h).trans (by rw [hu])
  have hreg : (u.raise 0x3409).reg Reg.CFG_HS_CTRL = u.reg Reg.CFG_HS_CTRL := State.raise_reg _ (by decide) (by decide)
  have honly : OnlyRegs [Reg.CFG_HS_CTRL] s u := hu ▸ (OnlyRegs.refl _ s).setFld (by simp) _ _ _
  have hcode : u.fld Reg.CFG_HS_CTRL 8 8 = 0x08 := hu ▸ State.fld_setFld_same _ _ _ _ _ (by decide)
  have hst : u.fld Reg.CFG_HS_CTRL 2 2 = s.fld Reg.CFG_HS_CTRL 2 2 := hu ▸ State.fld_setFld_apart _ _ _ _ _ _ _ (by decide) (.inl (by decide))
  have hfinal := honly.withEvents.raise (id := 0x3409) (by decide)
  rw [heq]
  exact ⟨(State.fld_of_reg hreg 8 8).trans hcode, State.hs_of_wipe hfinal.wipe rfl, (State.fld_of_reg hreg 2 2).trans hst, State.srcPend_raise _ _,
    hfinal⟩

/-- The check of an ARM refuses it (R24). -/
theorem State.hsArm_refused (h : s.hsBusy = false) (hcheck : s.hsCheck ≠ 0) : let t := s.hsArm
    t.fld Reg.CFG_HS_CTRL 8 8 = s.hsCheck % 256 ∧ t.fld Reg.CFG_HS_CTRL 2 2 = 3 ∧ t.srcPend 0x3409 = true ∧
      OnlyRegsAndEvents [Reg.CFG_HS_CTRL] s t := by
  obtain ⟨u, hu⟩ : ∃ u, u = s.setFld Reg.CFG_HS_CTRL 8 8 s.hsCheck := ⟨_, rfl⟩
  obtain ⟨v, hv⟩ : ∃ v, v = u.setFld Reg.CFG_HS_CTRL 2 2 3 := ⟨_, rfl⟩
  have heq : s.hsArm = v.raise 0x3409 := by
    rw [hv, hu]
    exact (if_neg (by simp [h])).trans (if_neg hcheck)
  have hreg : (v.raise 0x3409).reg Reg.CFG_HS_CTRL = v.reg Reg.CFG_HS_CTRL := State.raise_reg _ (by decide) (by decide)
  have honly : OnlyRegs [Reg.CFG_HS_CTRL] s v := by
    rw [hv, hu]
    exact ((OnlyRegs.refl _ s).setFld (by simp) _ _ _).setFld (by simp) _ _ _
  have hcode : v.fld Reg.CFG_HS_CTRL 8 8 = s.hsCheck % 256 := by
    rw [hv, State.fld_setFld_apart _ _ _ _ _ _ _ (by decide) (.inr (by decide)), hu]
    exact State.fld_setFld_same _ _ _ _ _ (by decide)
  have hst : v.fld Reg.CFG_HS_CTRL 2 2 = 3 := hv ▸ State.fld_setFld_same _ _ _ _ _ (by decide)
  rw [heq]
  exact ⟨(State.fld_of_reg hreg 8 8).trans hcode, (State.fld_of_reg hreg 2 2).trans hst, State.srcPend_raise _ _,
    honly.withEvents.raise (by decide)⟩

/-- What an ARM takes up (R24). -/
def State.hsWanted (s : State) : HoldSwap :=
  { groups := bitList 16 (s.regN Reg.CFG_HS_GROUPS), done := 0, sleeves := s.regN Reg.CFG_HS_SLEEVES,
    hold := s.pair Reg.CFG_HS_HOLD_L Reg.CFG_HS_HOLD_H, rel := s.pair Reg.CFG_HS_REL_L Reg.CFG_HS_REL_H }

theorem State.hsArm_taken (h : s.hsBusy = false) (hcheck : s.hsCheck = 0) : let t := s.hsArm
    t.fld Reg.CFG_HS_CTRL 8 8 = 0 ∧ t.fld Reg.CFG_HS_CTRL 2 2 = 1 ∧ t.hs = s.hsWanted ∧ t = { s with regs := t.regs, hs := t.hs } := by
  obtain ⟨u, hu⟩ : ∃ u, u = s.setFld Reg.CFG_HS_CTRL 8 8 s.hsCheck := ⟨_, rfl⟩
  obtain ⟨v, hv⟩ : ∃ v, v = u.setFld Reg.CFG_HS_CTRL 2 2 1 := ⟨_, rfl⟩
  have heq : s.hsArm = { v with hs := s.hsWanted } := by
    rw [hv, hu]
    exact (if_neg (by simp [h])).trans (if_pos hcheck)
  have honly : OnlyRegs [Reg.CFG_HS_CTRL] s v := by
    rw [hv, hu]
    exact ((OnlyRegs.refl _ s).setFld (by simp) _ _ _).setFld (by simp) _ _ _
  have hcode : v.fld Reg.CFG_HS_CTRL 8 8 = 0 := by
    rw [hv, State.fld_setFld_apart _ _ _ _ _ _ _ (by decide) (.inr (by decide)), hu, State.fld_setFld_same _ _ _ _ _ (by decide), hcheck]
    rfl
  have hst : v.fld Reg.CFG_HS_CTRL 2 2 = 1 := hv ▸ State.fld_setFld_same _ _ _ _ _ (by decide)
  rw [heq]
  refine ⟨hcode, hst, rfl, ?_⟩
  have hframe := honly.1
  generalize v.regs = x at hframe
  rw [hframe]

theorem State.hsCancel_armed (h : s.hsState = 1) : let t := s.hsCancel
    (s.reached s.hs.hold = false → t.fld Reg.CFG_HS_CTRL 2 2 = 0 ∧ t.hs = {} ∧ t = { s with regs := t.regs, hs := t.hs }) ∧
      (s.reached s.hs.hold = true → t = s) := by
  obtain ⟨u, hu⟩ : ∃ u, u = s.setFld Reg.CFG_HS_CTRL 2 2 0 := ⟨_, rfl⟩
  have honly : OnlyRegs [Reg.CFG_HS_CTRL] s u := hu ▸ (OnlyRegs.refl _ s).setFld (by simp) _ _ _
  have hst : u.fld Reg.CFG_HS_CTRL 2 2 = 0 := hu ▸ State.fld_setFld_same _ _ _ _ _ (by decide)
  refine ⟨fun hr => ?_, fun hr => if_neg (by simp [hr])⟩
  have heq : s.hsCancel = { u with hs := {} } := (if_pos ⟨h, hr⟩).trans (by rw [hu])
  rw [heq]
  refine ⟨hst, rfl, ?_⟩
  have hframe := honly.1
  generalize u.regs = x at hframe
  rw [hframe]

theorem State.writeHsCtrl_one (s : State) : s.writeHsCtrl 1 = s.hsArm ∧ s.writeHsCtrl 2 = s.hsCancel :=
  ⟨(if_neg (by decide)).trans (if_pos (by decide)), (if_neg (by decide)).trans ((if_neg (by decide)).trans (if_pos (by decide)))⟩

theorem exec_hsCtrl (hreach : s.pfPage 4 = true) : exec (.cfgHsCtrlArm 0) s = .next (s.drainBuf 0).hsArm ∧
    exec (.cfgHsCtrlCancel 0) s = .next (s.drainBuf 0).hsCancel :=
  ⟨congrArg Host.Outcome.next ((State.pf_of_reach hreach ..).trans (State.writeHsCtrl_one _).1),
    congrArg Host.Outcome.next ((State.pf_of_reach hreach ..).trans (State.writeHsCtrl_one _).2)⟩

end Arm

/-! ### The hold -/

section Hold
variable (s : State)

/-- The cuffs of a list are held, and nothing else changes. -/
theorem State.holdAll_spec (l : List Nat) : let t := l.foldl (fun u c => u.setCuff c { u.cuff c with held := true }) s
    (∀ c ∈ l, t.cuff c = { s.cuff c with held := true }) ∧ (∀ c, c ∉ l → t.cuff c = s.cuff c) ∧ t = { s with cuffs := t.cuffs } := by
  have hcuff (l : List Nat) : ∀ u : State, ∀ c, (l.foldl (fun u c => u.setCuff c { u.cuff c with held := true }) u).cuff c =
      if c ∈ l then { u.cuff c with held := true } else u.cuff c := by
    induction l with
    | nil => exact fun _ _ => rfl
    | cons x l ih =>
      intro u c
      rw [List.foldl_cons, ih, State.cuff_setCuff]
      by_cases hc : c = x
      · simp [hc]
      · simp [hc]
  refine ⟨fun c hc => (hcuff l s c).trans (if_pos hc), fun c hc => (hcuff l s c).trans (if_neg hc), ?_⟩
  refine List.foldlRecOn (motive := fun t : State => t = { s with cuffs := t.cuffs }) l _ rfl fun u hu c _ => ?_
  rw [hu]
  rfl

theorem State.hsHold_spec : let t := s.hsHold
    t.fld Reg.CFG_HS_CTRL 2 2 = 2 ∧ (∀ c ∈ s.hsCuffs, t.cuff c = { s.cuff c with held := true }) ∧
      (∀ c, c ∉ s.hsCuffs → t.cuff c = s.cuff c) ∧ t = { s with regs := t.regs, cuffs := t.cuffs } := by
  obtain ⟨u, hu⟩ : ∃ u, u = s.setFld Reg.CFG_HS_CTRL 2 2 2 := ⟨_, rfl⟩
  have honly : OnlyRegs [Reg.CFG_HS_CTRL] s u := hu ▸ (OnlyRegs.refl _ s).setFld (by simp) _ _ _
  have hst : u.fld Reg.CFG_HS_CTRL 2 2 = 2 := hu ▸ State.fld_setFld_same _ _ _ _ _ (by decide)
  have hcuffs : u.cuffs = s.cuffs := by rw [honly.1]
  have hu' (c : Nat) : u.cuff c = s.cuff c := by rw [State.cuff, hcuffs]; rfl
  obtain ⟨hin, hout, hframe⟩ := u.holdAll_spec s.hsCuffs
  have heq : s.hsHold = s.hsCuffs.foldl (fun u c => u.setCuff c { u.cuff c with held := true }) u := by rw [hu]; rfl
  rw [← heq] at hin hout hframe
  generalize s.hsHold = t at hin hout hframe
  have hregs : t.regs = u.regs := by rw [hframe]
  refine ⟨(State.fld_of_reg (State.reg_of_regs hregs _) 2 2).trans hst, fun c hc => by rw [hin c hc, hu'], fun c hc => by rw [hout c hc, hu'], ?_⟩
  rw [hregs]
  exact hframe.trans (by rw [honly.1])

end Hold

end Sys2Proof.Machine

/-! O9: the release of the held cuffs, and the theorem (R21-R24). -/

namespace Sys2Proof.Machine

open Sys2Proof

/-- No cuff comes to be held or ceases to be, and the time base and the hold-and-swap stay. -/
structure HeldKept (s t : State) : Prop where
  held : ∀ c, (t.cuff c).held = (s.cuff c).held
  commits : Commits s t

section Kept
variable {s t u : State}

theorem HeldKept.refl (s : State) : HeldKept s s := ⟨fun _ => rfl, .refl s⟩

theorem HeldKept.trans (h : HeldKept s t) (g : HeldKept t u) : HeldKept s u :=
  ⟨fun c => (g.held c).trans (h.held c), h.commits.trans g.commits⟩

theorem HeldKept.ite {c : Prop} [Decidable c] (h : HeldKept s t) (g : HeldKept s u) : HeldKept s (if c then t else u) :=
  iteInduction (motive := HeldKept s) (fun _ => h) fun _ => g

/-- A step at one cuff that keeps whether it is held. -/
theorem HeldKept.of_cuff {c : Nat} (hout : ∀ e, e ≠ c → t.cuff e = s.cuff e) (hin : (t.cuff c).held = (s.cuff c).held) (h : Commits s t) :
    HeldKept s t where
  held e := by
    by_cases he : e = c
    · rw [he, hin]
    · rw [hout e he]
  commits := h

variable (s) (c : Nat)

theorem State.setCuff_heldKept {k : Cuff} (h : k.held = (s.cuff c).held) : HeldKept s (s.setCuff c k) :=
  .of_cuff (c := c) (fun e he => (State.cuff_setCuff ..).trans (if_neg he)) (by rw [State.cuff_setCuff, if_pos rfl, h]) (s.setCuff_commits c k)

theorem State.edgeCounted_heldKept (t : Nat) : HeldKept s (s.edgeCounted c t) := by
  obtain ⟨hc, -, honly⟩ := s.edgeCounted_cuff (c := c) t
  exact .of_cuff honly.cuff (by rw [hc]) honly.commits

theorem State.edgeMade_heldKept (t : Nat) : HeldKept s (s.edgeMade c t) := by
  have hpair (u : State) (p : Nat) (k : Pair) : HeldKept u (u.setPairSt p k) := ⟨fun _ => rfl, u.setPairSt_commits p k⟩
  simp only [State.edgeMade]
  exact .ite ((s.edgeCounted_heldKept c t).trans (hpair ..)) (s.edgeCounted_heldKept c t)

theorem State.drivenPad_heldKept (t : Nat) : HeldKept s (s.drivenPad c t) :=
  .of_cuff (s.drivenPad_only c t).cuff (congrArg Cuff.held (s.drivenPad_stands c t) :) (s.drivenPad_only c t).commits

theorem State.driveCuff_heldKept (l : Bool) (t : Nat) : HeldKept s (s.driveCuff c l t) := by
  have hset : HeldKept s (s.setCuff c { s.cuff c with driven := s.outputOn c, level := l }) := s.setCuff_heldKept c rfl
  have hwait : HeldKept s (s.setCuff c { s.cuff c with edges := (s.cuff c).edges ++ [(t, l)] }) := s.setCuff_heldKept c rfl
  unfold State.driveCuff
  exact .ite hwait (.ite (.refl s) (.ite hset ((hset.trans (State.edgeMade_heldKept _ c t)).trans (State.drivenPad_heldKept _ c t))))

theorem State.settleCuff_heldKept : HeldKept s (s.settleCuff c) := by
  unfold State.settleCuff
  dsimp only
  have hset (x : List (Nat × Bool)) : HeldKept s (s.setCuff c { s.cuff c with edges := x }) := s.setCuff_heldKept c rfl
  have hdrive (u : State) (l : List (Nat × Bool)) : HeldKept u (l.foldl (fun s e => s.driveCuff c e.2 e.1) u) :=
    List.foldlRecOn (motive := HeldKept u) _ _ (.refl u) fun v hv e _ => hv.trans (v.driveCuff_heldKept c e.2 e.1)
  exact .ite (.refl s) ((hset _).trans (hdrive _ _))

theorem State.apronLevel_heldKept : HeldKept s (s.apronLevel c) :=
  .of_cuff (s.apronLevel_only c).cuff (congrArg Cuff.held (s.apronLevel_stands c) :) (s.apronLevel_commits c)

theorem State.floatCuff_heldKept (t : Nat) : HeldKept s (s.floatCuff c t) := by
  have hset : HeldKept s (s.setCuff c { s.cuff c with driven := false }) := s.setCuff_heldKept c rfl
  unfold State.floatCuff
  exact .ite (.refl s) (.ite (hset.trans (State.edgeMade_heldKept _ c t)) hset)

theorem State.rejudge_heldKept (ttype target : Nat) : HeldKept s (s.rejudge ttype target) where
  held e := by
    obtain ⟨l, hl⟩ := (s.rejudge_judgeKept ttype target).cuff e
    rw [hl]
  commits := s.rejudge_commits ttype target

end Kept

/-! ### The release (R23) -/

/-- Cuffs that are not held stay so. -/
structure Released (s t : State) : Prop where
  free : ∀ c, (s.cuff c).held = false → (t.cuff c).held = false
  commits : Commits s t

section Release
variable {s t u : State}

theorem Released.trans (h : Released s t) (g : Released t u) : Released s u := ⟨fun c hc => g.free c (h.free c hc), h.commits.trans g.commits⟩

theorem HeldKept.released (h : HeldKept s t) : Released s t := ⟨fun c hc => (h.held c).trans hc, h.commits⟩

variable (s)

/-- A cuff is held no longer, and takes up what its settings say. -/
theorem State.unhold_released (c : Nat) : Released s (s.unhold c) ∧ ((s.unhold c).cuff c).held = false := by
  unfold State.unhold
  extract_lets k s1 s2 off s3
  obtain ⟨s0, hs0⟩ : ∃ s0, s0 = s.setCuff c { k with held := false } := ⟨_, rfl⟩
  have hfree : (s0.cuff c).held = false := by rw [hs0, State.cuff_setCuff, if_pos rfl]
  have h0 : Released s s0 := by
    refine ⟨fun e he => ?_, hs0 ▸ s.setCuff_commits c _⟩
    rw [hs0, State.cuff_setCuff]
    split
    · rfl
    · exact he
  have h1 : HeldKept s0 s1 := by
    have heq : s1 = s0.settleCuff c := by rw [hs0]
    rw [heq]
    exact s0.settleCuff_heldKept c
  have h2 : HeldKept s1 s2 := .ite (s1.apronLevel_heldKept c) (.refl s1)
  have h3 : HeldKept s2 s3 := .ite (s2.floatCuff_heldKept c _) (.refl s2)
  have hall : HeldKept s0 (s3.rejudge 1 c) := ((h1.trans h2).trans h3).trans (s3.rejudge_heldKept 1 c)
  exact ⟨h0.trans hall.released, (hall.held c).trans hfree⟩

/-- The cuffs of a list are held no longer. -/
theorem State.unholdAll_released (l : List Nat) : Released s (l.foldl State.unhold s) ∧ ∀ c ∈ l, ((l.foldl State.unhold s).cuff c).held = false := by
  induction l generalizing s with
  | nil => exact ⟨(HeldKept.refl s).released, fun _ h => absurd h (by simp)⟩
  | cons x l ih =>
    obtain ⟨hrest, hin⟩ := ih (s.unhold x)
    obtain ⟨hx, hfree⟩ := s.unhold_released x
    refine ⟨hx.trans hrest, fun c hc => ?_⟩
    rcases List.mem_cons.mp hc with rfl | hc
    · exact hrest.free c hfree
    · exact hin c hc

theorem State.hsNext_tb : s.hsNext.tb = s.tb := by
  unfold State.hsNext
  split
  · rfl
  · exact (s.commitMembers_kept _).1

theorem State.hsRest_tb (n : Nat) : (s.hsRest n).tb = s.tb := by
  induction n generalizing s with
  | zero => rfl
  | succ n ih => exact (ih s.hsNext).trans s.hsNext_tb

theorem State.hsRelease_spec : let t := s.hsRelease
    t.hs = {} ∧ t.tb = s.tb ∧ t.srcPend 0x3409 = true ∧ ∀ c ∈ s.hsCuffs, (t.cuff c).held = false := by
  obtain ⟨u, hu⟩ : ∃ u : State, u = { (s.hsRest s.hs.groups.length).setFld Reg.CFG_HS_CTRL 2 2 0 with hs := {} } := ⟨_, rfl⟩
  obtain ⟨v, hv⟩ : ∃ v, v = s.hsCuffs.foldl State.unhold u := ⟨_, rfl⟩
  have heq : s.hsRelease = v.raise 0x3409 := by rw [hv, hu]; rfl
  obtain ⟨hrel, hfree⟩ := u.unholdAll_released s.hsCuffs
  rw [← hv] at hrel hfree
  have htb : u.tb = s.tb := by
    rw [hu]
    show ((s.hsRest s.hs.groups.length).setFld Reg.CFG_HS_CTRL 2 2 0).tb = s.tb
    rw [State.setFld_tb, s.hsRest_tb]
  have hhs : u.hs = {} := by rw [hu]
  have hraise := (State.raise_commits v 0x3409)
  have hall := hrel.commits.trans hraise
  rw [heq]
  refine ⟨(State.hs_of_wipe hall.wipe rfl).trans hhs, (State.tb_of_wipe hall.wipe rfl).trans htb, State.srcPend_raise _ _, fun c hc => ?_⟩
  rw [State.cuff, State.raise_cuffs]
  exact hfree c hc

end Release

/-- Settles O9: the commands of the selected commit group, and hold-and-swap from its ARM to its release. -/
theorem groupsAndHoldAndSwap : Obligations.GroupsAndHoldAndSwap := by
  unfold Obligations.GroupsAndHoldAndSwap
  refine ⟨fun s hreach => ?_, fun s => ?_⟩
  · extract_lets d g x time refused refusedEv done free
    obtain ⟨hcommit, harm, hdisarm, hclear, hboth⟩ := exec_gctrl hreach
    obtain ⟨h1, h2, h4, h8⟩ := d.writeGctrl_one
    have hrefused {c : Instr} {code : Nat} (hcode : code < 256) (h : exec c s = .next (d.groupCode g code)) : refused c code :=
      ⟨_, h, d.groupCode_spec g hcode⟩
    have hdone {c : Instr} {y : Group} (h : exec c s = .next ((d.setGroup g y).groupCode g Code.ok)) : done c y :=
      ⟨_, h, d.groupDone_spec g y⟩
    have hno {p : Prop} (ha : d.groupArmed g = true) (hf : free) : p := absurd (ha.symm.trans hf) (by decide)
    refine ⟨fun page hp => ?_, fun ha => ?_, fun hf hfit => ?_, fun hf ht => ?_, fun hf ht => ?_, fun hf => ?_, fun t0 ht hlead => ?_,
      fun t0 ht hlead => ?_, ?_⟩
    · obtain ⟨hadd, hrem⟩ := exec_gmembers hreach hp
      exact ⟨fun ha => ⟨hrefused (by decide) (hadd.trans (congrArg _ (d.groupAdd_armed g page ha))),
          hrefused (by decide) (hrem.trans (congrArg _ (d.groupRemove_refused g page (.inl ha))))⟩,
        fun hf hc => hrefused (by decide) (hadd.trans (congrArg _ (d.groupAdd_full g page hf hc))),
        fun hf hof hcan hlen => hdone (hadd.trans (congrArg _ (d.groupAdd_joins g page hf hof hcan hlen))),
        fun _ hm => hrefused (by decide) (hrem.trans (congrArg _ (d.groupRemove_refused g page (.inr hm)))),
        fun hf hm => hdone (hrem.trans (congrArg _ (d.groupRemove_leaves g page hf hm)))⟩
    · exact ⟨⟨_, hcommit.trans (congrArg _ (h1.trans (if_pos ha))), d.groupRefused_spec g (by decide)⟩,
        ⟨_, harm.trans (congrArg _ (h2.trans (if_pos ha))), d.groupRefused_spec g (by decide)⟩,
        hrefused (by decide) (hclear.trans (congrArg _ (h8.trans (if_pos ha))))⟩
    · exact hcommit.trans (congrArg _ (h1.trans ((if_neg (ne_true_of_eq_false hf)).trans (if_neg (ne_false_of_eq_true hfit)))))
    · exact hdone (harm.trans (congrArg _ (h2.trans ((if_neg (ne_true_of_eq_false hf)).trans (if_pos ht)))))
    · exact ⟨_, harm.trans (congrArg _ h2), d.groupArm_late g hf ht⟩
    · exact hdone (hclear.trans (congrArg _ (h8.trans (if_neg (ne_true_of_eq_false hf)))))
    · exact hdone (hdisarm.trans (congrArg _ (h4.trans ((d.groupDisarm_at g ht).trans (if_pos hlead)))))
    · exact hdisarm.trans (congrArg _ (h4.trans ((d.groupDisarm_at g ht).trans (if_neg (ne_true_of_eq_false hlead)))))
    · exact ⟨_, hboth, d.groupBoth_spec g rfl⟩
  · extract_lets d held
    refine ⟨fun hr hb => ⟨_, (exec_hsCtrl hr).1, State.hsArm_busy hb⟩, fun hr hb hc => ⟨_, (exec_hsCtrl hr).1, State.hsArm_refused hb hc⟩,
      fun hr hb hc => ⟨_, (exec_hsCtrl hr).1, State.hsArm_taken hb hc⟩, fun hr hst => ⟨_, (exec_hsCtrl hr).2, State.hsCancel_armed hst⟩,
      fun hst hc hr => ⟨_, congrArg Host.Outcome.next (if_pos ⟨hst, hc, hr⟩), s.hsHold_spec⟩, fun hst hc hr g hg => ?_,
      fun hst hc hr => ⟨_, congrArg Host.Outcome.next (if_pos ⟨hst, hc, hr⟩), s.hsRelease_spec⟩⟩
    have hnext : s.hsNext = { s.commitMembers g with hs := { s.hs with done := s.hs.done + 1 } } := by rw [State.hsNext, hg]
    have hr' : s.reached (s.plus s.hs.hold ((s.hs.done + 1) * 64 * 16)) = true := by rw [Nat.mul_assoc]; exact hr
    exact ⟨_, (congrArg Host.Outcome.next (if_pos ⟨hst, hc, hr'⟩)).trans (congrArg _ hnext), rfl⟩

end Sys2Proof.Machine

/-! O8: what a commit makes of the staged registers of a page (R17), and when it is made (R18, R96). -/

namespace Sys2Proof.Machine

open Sys2Proof

/-! ### Staged registers -/

/-- In canonical form a listed key has a value of its own. -/
theorem Tbl.get_ne_of_wf {α : Type} [DecidableEq α] {d : α} {t : Tbl α} (h : Tbl.wf d t = true) {k : Nat} (hk : k ∈ Tbl.keys t) :
    Tbl.get d t k ≠ d := by
  simp only [Tbl.wf, Bool.and_eq_true, List.all_eq_true, decide_eq_true_eq] at h
  have hmem : ∀ l : Tbl α, k ∈ Tbl.keys l → (k, Tbl.get d l k) ∈ l := by
    intro l
    induction l with
    | nil => exact fun h => absurd h (by simp [Tbl.keys])
    | cons e r ih =>
      intro hm
      rw [Tbl.get]
      split
      · next he => exact he ▸ List.mem_cons_self
      · next he =>
        refine List.mem_cons_of_mem _ (ih ((List.mem_cons.mp hm).resolve_left fun hh => he hh.symm))
  exact h.2 _ (hmem t hk)

section Staged
variable (s : State)

theorem State.staged_of_get {k : Nat} (h : Tbl.get 0 s.shadow k = 0) : s.staged k = s.reg k := by
  rw [State.staged, h]
  simp

theorem State.mem_dirtyKeys {page k : Nat} : k ∈ s.dirtyKeys page ↔ k ∈ Tbl.keys s.shadow ∧ pageOf k = page := by
  simp [State.dirtyKeys]

theorem State.not_dirty {page k : Nat} (hp : pageOf k = page) (h : k ∉ s.dirtyKeys page) : Tbl.get 0 s.shadow k = 0 :=
  get_of_not_mem fun hk => h (s.mem_dirtyKeys.mpr ⟨hk, hp⟩)

/-- The shadow differs exactly at the keys that are dirty. -/
theorem State.dirty_iff (hs : s.canonical = true) {page k : Nat} (hp : pageOf k = page) : k ∈ s.dirtyKeys page ↔ s.staged k ≠ s.reg k := by
  have hwf : Tbl.wf (0 : Word) s.shadow = true := by
    simp only [State.canonical, Bool.and_eq_true] at hs
    exact hs.1.2
  constructor
  · intro hk heq
    have hne := Tbl.get_ne_of_wf hwf (s.mem_dirtyKeys.mp hk).1
    rw [State.staged] at heq
    exact hne (by simpa using heq)
  · intro hne
    by_contra hk
    exact hne (s.staged_of_get (s.not_dirty hp hk))

theorem State.dirtyKeys_nodup (hs : s.canonical = true) (page : Nat) : (s.dirtyKeys page).Nodup := by
  have hrise : s.shadow.Pairwise fun x y => x.1 < y.1 := by
    simp only [State.canonical, Tbl.wf, Bool.and_eq_true, decide_eq_true_eq] at hs
    exact hs.1.2.1
  have hkeys : (Tbl.keys s.shadow).Pairwise (· < ·) := List.pairwise_map.mpr hrise
  exact (hkeys.imp fun h => Nat.ne_of_lt h).filter _

theorem State.inRange_setStaged (k j v : Nat) (w : Word) : (s.setStaged k w).inRange j v = s.inRange j v := rfl

/-- The staged values of a page are in their ranges; nothing else changes. -/
theorem State.clampPage_spec (hs : s.canonical = true) (page : Nat) : let t := s.clampPage page
    (∀ k, t.staged k = if k ∈ s.dirtyKeys page then word (s.inRange k (s.staged k).toNat) else s.staged k) ∧
      t = { s with shadow := t.shadow } := by
  have hfold (l : List Nat) : l.Nodup → ∀ u : State,
      (∀ k, (l.foldl (fun u k => u.setStaged k (word (u.inRange k (u.staged k).toNat))) u).staged k =
        if k ∈ l then word (u.inRange k (u.staged k).toNat) else u.staged k) := by
    induction l with
    | nil => exact fun _ _ _ => rfl
    | cons x l ih =>
      intro hnd u k
      obtain ⟨hx, hl⟩ := List.nodup_cons.mp hnd
      rw [List.foldl_cons, ih hl, State.inRange_setStaged, State.staged_setStaged]
      by_cases hk : k = x
      · subst hk
        simp [hx]
      · simp [hk]
  refine ⟨hfold _ (s.dirtyKeys_nodup hs page) s, ?_⟩
  refine List.foldlRecOn (motive := fun t : State => t = { s with shadow := t.shadow }) _ _ rfl fun u hu k _ => ?_
  rw [hu]
  rfl

/-- Every staged register of a page takes effect, and shadow and value are equal again; the rest stays (R17). -/
theorem State.applyPage_spec (page : Nat) : let t := s.applyPage page
    (∀ k, pageOf k = page → t.reg k = s.staged k ∧ Tbl.get 0 t.shadow k = 0) ∧
      (∀ k, pageOf k ≠ page → t.reg k = s.reg k ∧ t.staged k = s.staged k) ∧ t = { s with regs := t.regs, shadow := t.shadow } := by
  have hone (u : State) (x k : Nat) : (u.applyKey x).reg k = (if k = x then u.staged k else u.reg k) ∧
      Tbl.get 0 (u.applyKey x).shadow k = if k = x then 0 else Tbl.get 0 u.shadow k := by
    refine ⟨?_, ?_⟩
    · have hreg : (u.applyKey x).reg k = (u.setReg x (u.staged x)).reg k := State.reg_of_regs rfl k
      rw [hreg, State.reg_setReg]
      split
      · next h => rw [h]
      · rfl
    · show Tbl.get 0 (Tbl.drop u.shadow x) k = _
      split
      · next h => rw [h]; exact Tbl.get_drop_same ..
      · next h => exact Tbl.get_drop_other _ _ h
  have hfold (l : List Nat) : ∀ u : State, ∀ k, (l.foldl State.applyKey u).reg k = (if k ∈ l then u.staged k else u.reg k) ∧
      Tbl.get 0 (l.foldl State.applyKey u).shadow k = if k ∈ l then 0 else Tbl.get 0 u.shadow k := by
    induction l with
    | nil => exact fun _ _ => ⟨rfl, rfl⟩
    | cons x l ih =>
      intro u k
      obtain ⟨hr, hg⟩ := hone u x k
      obtain ⟨ir, ig⟩ := ih (u.applyKey x) k
      rw [List.foldl_cons, ir, ig, State.staged, hr, hg, State.staged]
      by_cases hk : k = x
      · simp [hk]
      · simp [hk]
  refine ⟨fun k hk => ?_, fun k hk => ?_, ?_⟩
  · obtain ⟨hr, hg⟩ := hfold (s.dirtyKeys page) s k
    rw [State.applyPage, hr, hg]
    split
    · exact ⟨rfl, rfl⟩
    · next h => exact ⟨(s.staged_of_get (s.not_dirty hk h)).symm, s.not_dirty hk h⟩
  · obtain ⟨hr, hg⟩ := hfold (s.dirtyKeys page) s k
    have hno : k ∉ s.dirtyKeys page := fun h => hk (s.mem_dirtyKeys.mp h).2
    rw [if_neg hno] at hr hg
    rw [State.applyPage, State.staged, hr, hg]
    exact ⟨rfl, rfl⟩
  · refine List.foldlRecOn (motive := fun t : State => t = { s with regs := t.regs, shadow := t.shadow }) _ _ rfl fun u hu k _ => ?_
    rw [hu]
    rfl

end Staged

/-! ### The stamp and the moment -/

section Stamp
variable (s : State) (page : Nat)

/-- PG_SEQ counts, PG_COMMIT_TIME shows the tick, and the page is armed no longer (R17). -/
theorem State.stampCommit_spec : let t := s.stampCommit page
    t.regN (Reg.PG_SEQ page) = (s.regN (Reg.PG_SEQ page) + 1) % 2 ^ 32 ∧ t.commitTime page = s.tb.now % 2 ^ 64 ∧
      (∀ k, k ≠ Reg.PG_SEQ page → k ≠ Reg.PG_COMMIT_TIME_L page → k ≠ Reg.PG_COMMIT_TIME_H page → t.reg k = s.reg k) ∧
      (∀ k, Tbl.get 0 t.shadow k = Tbl.get 0 s.shadow k ∨ pageOf k = page ∧ Tbl.get 0 t.shadow k = 0) ∧
      (∀ e ∈ t.shadow, e ∈ s.shadow) ∧ t.page page = {} ∧ (∀ p, p ≠ page → t.page p = s.page p) ∧
      t = { s with regs := t.regs, shadow := t.shadow, pages := t.pages } := by
  obtain ⟨a, ha⟩ : ∃ a, a = s.incWrap (Reg.PG_SEQ page) 0 32 := ⟨_, rfl⟩
  obtain ⟨b, hb⟩ : ∃ b, b = a.setPair (Reg.PG_COMMIT_TIME_L page) (Reg.PG_COMMIT_TIME_H page) a.tb.now := ⟨_, rfl⟩
  obtain ⟨c, hc⟩ : ∃ c, c = if (b.page page).reload then b.discard page else b := ⟨_, rfl⟩
  have heq : s.stampCommit page = c.setPage page {} := by rw [hc, hb, ha]; rfl
  have honly : OnlyRegs [Reg.PG_SEQ page, Reg.PG_COMMIT_TIME_L page, Reg.PG_COMMIT_TIME_H page] s b := by
    have h1 : OnlyRegs [Reg.PG_SEQ page, Reg.PG_COMMIT_TIME_L page, Reg.PG_COMMIT_TIME_H page] s a := ha ▸ (OnlyRegs.refl _ s).incWrap (by simp) 0 32
    rw [hb]
    exact h1.setPair (by simp) (by simp) _
  have hseq : b.regN (Reg.PG_SEQ page) = (s.regN (Reg.PG_SEQ page) + 1) % 2 ^ 32 := by
    rw [hb, State.regN_of_reg (State.reg_setPair_other _ (by simp) (by simp) _), ha, ← State.fld_whole, State.incWrap,
      State.fld_setFld_same _ _ _ _ _ (by decide), s.fld_whole]
  have htb : a.tb = s.tb := ha ▸ State.incWrap_tb ..
  have htime : b.commitTime page = s.tb.now % 2 ^ 64 := by
    rw [State.commitTime, hb, State.pair_setPair_mod _ (by simp), htb]
  have hcb : c.regs = b.regs ∧ c = { b with shadow := c.shadow } := by
    rw [hc]
    split
    · exact ⟨rfl, rfl⟩
    · exact ⟨rfl, rfl⟩
  have hshadow : (∀ k, Tbl.get 0 c.shadow k = Tbl.get 0 b.shadow k ∨ pageOf k = page ∧ Tbl.get 0 c.shadow k = 0) ∧
      ∀ e ∈ c.shadow, e ∈ b.shadow := by
    rw [hc]
    split
    · refine ⟨fun k => ?_, fun e he => (List.mem_filter.mp he).1⟩
      have hget : Tbl.get 0 (b.discard page).shadow k = if pageOf k != page then Tbl.get 0 b.shadow k else 0 :=
        Tbl.get_filter 0 b.shadow (fun x => pageOf x != page) k
      by_cases hk : pageOf k = page
      · exact .inr ⟨hk, by rw [hget]; simp [hk]⟩
      · exact .inl (by rw [hget]; simp [hk])
    · exact ⟨fun _ => .inl rfl, fun _ h => h⟩
  have hbs : b.shadow = s.shadow := by rw [honly.1]
  have hreg (k : Nat) : (c.setPage page {}).reg k = b.reg k := State.reg_of_regs hcb.1 k
  have hpages : c.pages = s.pages := by rw [hcb.2, honly.1]
  have hcpage (p : Nat) : c.page p = s.page p := by rw [State.page, State.page, hpages]
  rw [heq]
  refine ⟨(State.regN_of_reg (hreg _)).trans hseq, (State.pair_of_reg (hreg _) (hreg _)).trans htime, fun k h1 h2 h3 => ?_, ?_, ?_, ?_,
    fun p hp => ?_, ?_⟩
  · exact (hreg k).trans (honly.2 k (by simp [h1, h2, h3]))
  · rw [← hbs]
    exact hshadow.1
  · rw [← hbs]
    exact hshadow.2
  · rw [State.page_setPage, if_pos rfl]
  · rw [State.page_setPage, if_neg hp, hcpage]
  · have hframe : c = { s with regs := b.regs, shadow := c.shadow } := hcb.2.trans (by rw [honly.1])
    have hcr := hcb.1
    show c.setPage page {} = _
    rw [State.setPage]
    rw [← hcr] at hframe
    exact congrArg (fun x : State => ({ x with pages := Tbl.set {} c.pages page {} } : State)) hframe

/-- When a commit of some pages may be made (R17, R18, R96). -/
theorem State.mayCommit_iff (a : Armed) (ps : List Nat) : s.mayCommit a ps = true ↔ s.clocked = true ∧
    ((a = .now ∧ ∀ p ∈ ps, (s.page p).used ≠ some s.tick) ∨ ∃ time, a = .timed time ∧ s.reached time = true) := by
  unfold State.mayCommit State.armedDue
  cases a with
  | no => simp
  | now => simp [State.usedThisTick]
  | timed t => simp

end Stamp

end Sys2Proof.Machine

/-! O8: the theorem (R17, R18, R21, R96, R241). -/

namespace Sys2Proof.Machine

open Sys2Proof

/-! ### Pages whose commit has no further effect -/

/-- The pages of CLK, REL, SCH, TRY and MBX. -/
def QuietPage (page : Nat) : Prop := page = 8 ∨ page = 1 ∨ page = 6 ∨ (0x30 ≤ page ∧ page < 0x39) ∨ (0xB0 ≤ page ∧ page < 0xC0)

section Quiet
variable {page : Nat} (h : QuietPage page) (s : State)
include h

theorem QuietPage.cases : page = 8 ∨ page = 1 ∨ page = 6 ∨ (0x30 ≤ page ∧ page < 0x39) ∨ (0xB0 ≤ page ∧ page < 0xC0) := h

theorem QuietPage.ens : ensPage page = false := by
  have hp := h.cases
  simp only [ensPage, decide_eq_false_iff_not]
  omega

theorem QuietPage.screen : s.screenPage page = s.clampPage page := by
  have hp := h.cases
  unfold State.screenPage
  exact (if_neg (by omega)).trans ((if_neg (by omega)).trans (if_neg (by omega)))

theorem QuietPage.committed (old : State) : State.pageCommitted old s page = s := by
  have hp := h.cases
  unfold State.pageCommitted
  exact (if_neg (by omega)).trans ((if_neg (by omega)).trans ((if_neg (by omega)).trans ((if_neg (by omega)).trans
    ((if_neg (by omega)).trans (if_neg (by omega))))))

end Quiet

theorem of_ite_eq {α : Type} {c : Prop} [Decidable c] {x y r : α} (h : (if c then x else y) = r) : c ∧ x = r ∨ y = r := by
  by_cases hc : c
  · exact .inl ⟨hc, (if_pos hc).symm.trans h⟩
  · exact .inr ((if_neg hc).symm.trans h)

/-- The pages of the blocks that have no further effect, and those of ENP. -/
theorem page_of_block {page i : Nat} {b : Blk} (h : blockOf page = some (b, i)) :
    (b = .clk → page = 1) ∧ (b = .rel → page = 6) ∧ (b = .sch → page = 8) ∧ (b = .mbx → 0xB0 ≤ page ∧ page < 0xC0) ∧
      (b = .enp → 0xC1 ≤ page ∧ page < 0xC5) := by
  unfold blockOf at h
  iterate 21
    rcases of_ite_eq h with ⟨hp, h⟩ | h
    · cases h
      simp [hp]
  exact absurd h (by simp)

theorem quietPage_of_plain {page : Nat} (h : plainPage page = true) (hens : ensPage page = false) : QuietPage page := by
  simp only [ensPage, decide_eq_false_iff_not] at hens
  unfold QuietPage
  unfold plainPage at h
  split at h
  · next hb => exact .inr (.inl ((page_of_block hb).1 rfl))
  · next hb => exact .inr (.inr (.inl ((page_of_block hb).2.1 rfl)))
  · next hb => exact .inl ((page_of_block hb).2.2.1 rfl)
  · next hb => exact .inr (.inr (.inr (.inr ((page_of_block hb).2.2.2.1 rfl))))
  · next hb =>
    have hp := (page_of_block hb).2.2.2.2 rfl
    omega
  · exact absurd h (by decide)

/-! ### The commit of one page, and of pages without further effect -/

section Commit
variable (s : State)

/-- The commit of one page: its shadow, screened, takes effect and is stamped, and what its block does follows; where the retry budget
breaks, it is refused (R17, R241). -/
theorem State.commitPages_one (page : Nat) : let u := s.screenPage page
    (ensPage page = false ∨ (u.applyPage page).ensBudget ≤ (u.applyPage page).ensGuard →
      s.commitPages [page] = State.pageCommitted u ((u.applyPage page).stampCommit page) page) ∧
    (¬(ensPage page = false ∨ (u.applyPage page).ensBudget ≤ (u.applyPage page).ensGuard) → s.commitPages [page] = u.refuseEns page) := by
  intro u
  obtain ⟨bad, hbad⟩ : ∃ bad, bad = ([page].any ensPage && decide ((u.applyPage page).ensGuard < (u.applyPage page).ensBudget)) := ⟨_, rfl⟩
  have heq : s.commitPages [page] =
      (if bad then [page].filter fun p => !ensPage p else [page]).foldl (State.pageCommitted (if bad then ([page].filter ensPage).foldl State.refuseEns u else u))
        ((if bad then [page].filter fun p => !ensPage p else [page]).foldl State.stampCommit
          ((if bad then [page].filter fun p => !ensPage p else [page]).foldl State.applyPage
            (if bad then ([page].filter ensPage).foldl State.refuseEns u else u))) := by
    rw [hbad]
    rfl
  refine ⟨fun h => ?_, fun h => ?_⟩
  · have hno : bad = false := by
      rw [hbad]
      rcases h with h | h
      · simp [h]
      · simp only [Bool.and_eq_false_iff, decide_eq_false_iff_not]
        exact .inr (by omega)
    rw [heq, hno]
    rfl
  · obtain ⟨h1, h2⟩ := not_or.mp h
    have hens : ensPage page = true := by simpa using h1
    have hyes : bad = true := by
      rw [hbad]
      simp [hens]
      omega
    rw [heq, hyes]
    simp [hens]

/-- The state in which pages without further effect have been screened, applied and stamped. -/
def State.pagesStamped (s : State) (ps : List Nat) : State :=
  ps.foldl State.stampCommit (ps.foldl State.applyPage (ps.foldl State.screenPage s))

theorem State.commitPages_quiet {ps : List Nat} (h : ∀ p ∈ ps, QuietPage p) : s.commitPages ps = s.pagesStamped ps := by
  have hany : ps.any ensPage = false := by
    rw [List.any_eq_false]
    exact fun p hp => by simp [(h p hp).ens]
  have hfold (old : State) (l : List Nat) (hl : ∀ p ∈ l, QuietPage p) : ∀ u : State, l.foldl (State.pageCommitted old) u = u := by
    induction l with
    | nil => exact fun _ => rfl
    | cons x l ih =>
      intro u
      rw [List.foldl_cons, (hl x (by simp)).committed]
      exact ih (fun p hp => hl p (by simp [hp])) u
  unfold State.commitPages
  simp only [hany, Bool.false_and, Bool.false_eq_true, if_false]
  exact hfold _ ps h _

/-- What the pages of a group without further effect take and leave. -/
structure Stamped (ps : List Nat) (s t : State) : Prop where
  page : ∀ p ∈ ps, t.page p = {}
  dirty : ∀ p ∈ ps, t.dirty p = 0
  frame : t = { s with regs := t.regs, shadow := t.shadow, pages := t.pages }

theorem State.screened_frame {ps : List Nat} (h : ∀ p ∈ ps, QuietPage p) :
    ps.foldl State.screenPage s = { s with shadow := (ps.foldl State.screenPage s).shadow } := by
  have hclamp (u : State) (p : Nat) : u.clampPage p = { u with shadow := (u.clampPage p).shadow } := by
    refine List.foldlRecOn (motive := fun t : State => t = { u with shadow := t.shadow }) _ _ rfl fun v hv k _ => ?_
    rw [hv]
    rfl
  refine List.foldlRecOn (motive := fun t : State => t = { s with shadow := t.shadow }) _ _ rfl fun u hu p hp => ?_
  rw [(h p hp).screen, hclamp, hu]

/-- No entry of the shadow is of a page. -/
def State.CleanPage (s : State) (p : Nat) : Prop := ∀ e ∈ s.shadow, pageOf e.1 ≠ p

theorem State.dirty_of_clean {p : Nat} (h : s.CleanPage p) : s.dirty p = 0 := by
  rw [State.dirty, List.length_eq_zero_iff, List.eq_nil_iff_forall_not_mem]
  intro k hk
  obtain ⟨hmem, hp⟩ := s.mem_dirtyKeys.mp hk
  obtain ⟨e, he, rfl⟩ := List.mem_map.mp hmem
  exact h e he hp

theorem State.applyPage_shadow (p : Nat) : ∀ e ∈ (s.applyPage p).shadow, e ∈ s.shadow ∧ pageOf e.1 ≠ p := by
  have hfold (l : List Nat) : ∀ u : State, ∀ e ∈ (l.foldl State.applyKey u).shadow, e ∈ u.shadow ∧ e.1 ∉ l := by
    induction l with
    | nil => exact fun _ _ he => ⟨he, by simp⟩
    | cons x l ih =>
      intro u e he
      obtain ⟨h1, h2⟩ := ih (u.applyKey x) e he
      have hx := List.mem_filter.mp (h1 : e ∈ Tbl.drop u.shadow x)
      have hne : e.1 ≠ x := by simpa using hx.2
      exact ⟨hx.1, by simp [hne, h2]⟩
  intro e he
  obtain ⟨h1, h2⟩ := hfold (s.dirtyKeys p) s e he
  exact ⟨h1, fun hp => h2 (s.mem_dirtyKeys.mpr ⟨List.mem_map.mpr ⟨e, h1, rfl⟩, hp⟩)⟩

/-- After all pages of a list have been applied, none of them is dirty. -/
theorem State.applyPages_clean (ps : List Nat) : ∀ p ∈ ps, (ps.foldl State.applyPage s).CleanPage p := by
  have hkeep (l : List Nat) : ∀ u : State, ∀ e ∈ (l.foldl State.applyPage u).shadow, e ∈ u.shadow := by
    induction l with
    | nil => exact fun _ _ he => he
    | cons x l ih => exact fun u e he => (u.applyPage_shadow x e (ih _ e he)).1
  induction ps generalizing s with
  | nil => exact fun _ h => absurd h (by simp)
  | cons x l ih =>
    intro p hp e he
    rcases List.mem_cons.mp hp with rfl | hp
    · exact (s.applyPage_shadow p e (hkeep l _ e he)).2
    · exact ih (s.applyPage x) p hp e he

theorem State.stamps_spec (ps : List Nat) : let t := ps.foldl State.stampCommit s
    (∀ p ∈ ps, t.page p = {}) ∧ (∀ e ∈ t.shadow, e ∈ s.shadow) ∧ t = { s with regs := t.regs, shadow := t.shadow, pages := t.pages } := by
  have hkeep (l : List Nat) (p : Nat) : ∀ u : State, u.page p = {} → (l.foldl State.stampCommit u).page p = {} := by
    induction l with
    | nil => exact fun _ h => h
    | cons x l ih =>
      intro u h
      obtain ⟨-, -, -, -, -, hx, ho, -⟩ := u.stampCommit_spec x
      refine ih _ ?_
      by_cases hp : p = x
      · rw [hp, hx]
      · rw [ho p hp, h]
  induction ps generalizing s with
  | nil => exact ⟨fun _ h => absurd h (by simp), fun _ h => h, rfl⟩
  | cons x l ih =>
    obtain ⟨-, -, -, -, hsub, hx, -, hframe⟩ := s.stampCommit_spec x
    obtain ⟨hpage, hshadow, hrest⟩ := ih (s.stampCommit x)
    refine ⟨fun p hp => ?_, fun e he => hsub e (hshadow e he), ?_⟩
    · rcases List.mem_cons.mp hp with rfl | hp
      · exact hkeep l p _ hx
      · exact hpage p hp
    · rw [List.foldl_cons]
      exact hrest.trans (by rw [hframe])

theorem State.pagesStamped_spec {ps : List Nat} (h : ∀ p ∈ ps, QuietPage p) : Stamped ps s (s.pagesStamped ps) := by
  obtain ⟨a, ha⟩ : ∃ a, a = ps.foldl State.screenPage s := ⟨_, rfl⟩
  obtain ⟨b, hb⟩ : ∃ b, b = ps.foldl State.applyPage a := ⟨_, rfl⟩
  have heq : s.pagesStamped ps = ps.foldl State.stampCommit b := by rw [hb, ha]; rfl
  obtain ⟨hpage, hshadow, hframe⟩ := b.stamps_spec ps
  have hclean (p : Nat) (hp : p ∈ ps) : b.CleanPage p := hb ▸ a.applyPages_clean ps p hp
  have hbf : b = { a with regs := b.regs, shadow := b.shadow } := by
    rw [hb]
    refine List.foldlRecOn (motive := fun t : State => t = { a with regs := t.regs, shadow := t.shadow }) _ _ rfl fun u hu p _ => ?_
    rw [(u.applyPage_spec p).2.2, hu]
  have haf : a = { s with shadow := a.shadow } := ha ▸ s.screened_frame h
  rw [heq]
  refine ⟨hpage, fun p hp => State.dirty_of_clean _ fun e he => hclean p hp e (hshadow e he), hframe.trans ?_⟩
  rw [hbf, haf]

end Commit

end Sys2Proof.Machine

/-! O8: the theorem (R17, R18, R21, R96, R241, R274). -/

namespace Sys2Proof.Machine

open Sys2Proof

section Page
variable {s : State} {page : Nat}

theorem pageOf_low {p o : Nat} (hp : p < 0x1000) (ho : o < 0x1000) : pageOf (p * 0x1000 + o) = p := by
  simp only [pageOf, tenBase]
  rw [if_neg (by omega)]
  omega

/-- A page whose commit has no further effect: each staged register takes its value, brought into its range (R17). -/
theorem State.quietCommit_spec (hs : s.canonical = true) (hq : QuietPage page) : let t := s.pagesStamped [page]
    (∀ k, pageOf k = page → k < tenBase → k ≠ Reg.PG_SEQ page → k ≠ Reg.PG_COMMIT_TIME_L page → k ≠ Reg.PG_COMMIT_TIME_H page →
      t.staged k = t.reg k ∧ t.reg k = if s.staged k = s.reg k then s.reg k else word (s.inRange k (s.staged k).toNat)) ∧
    (s.staged (Reg.PG_SEQ page) = s.reg (Reg.PG_SEQ page) → t.regN (Reg.PG_SEQ page) = (s.regN (Reg.PG_SEQ page) + 1) % 2 ^ 32) ∧
    t.commitTime page = s.tb.now % 2 ^ 64 ∧ (∀ k, pageOf k ≠ page → t.reg k = s.reg k ∧ t.staged k = s.staged k) ∧
    t.page page = {} ∧ (∀ p, p ≠ page → t.page p = s.page p) ∧ t = { s with regs := t.regs, shadow := t.shadow, pages := t.pages } := by
  obtain ⟨a, ha⟩ : ∃ a, a = s.clampPage page := ⟨_, rfl⟩
  obtain ⟨b, hb⟩ : ∃ b, b = a.applyPage page := ⟨_, rfl⟩
  have heq : s.pagesStamped [page] = b.stampCommit page := by
    rw [hb, ha, ← hq.screen s]
    rfl
  have hpage : page < 0x1000 := by
    have hp := hq.cases
    omega
  obtain ⟨hclamp, haf⟩ := s.clampPage_spec hs page
  obtain ⟨hon, hoff, hbf⟩ := a.applyPage_spec page
  obtain ⟨hseq, htime, hreg, hget, -, hpg, hpgs, hframe⟩ := b.stampCommit_spec page
  rw [← ha] at hclamp haf
  rw [← hb] at hon hoff hbf
  have hareg (k : Nat) : a.reg k = s.reg k := State.reg_of_regs (by rw [haf]) k
  have hbtb : b.tb = s.tb := by rw [hbf, haf]
  have hbpages : b.pages = s.pages := by rw [hbf, haf]
  have hvalue {k : Nat} (hk : pageOf k = page) :
      a.staged k = if s.staged k = s.reg k then s.reg k else word (s.inRange k (s.staged k).toNat) := by
    rw [hclamp]
    by_cases he : s.staged k = s.reg k
    · rw [if_neg fun h => (s.dirty_iff hs hk).mp h he, if_pos he, he]
    · rw [if_pos ((s.dirty_iff hs hk).mpr he), if_neg he]
  have hstampPage : pageOf (Reg.PG_SEQ page) = page ∧ pageOf (Reg.PG_COMMIT_TIME_L page) = page ∧ pageOf (Reg.PG_COMMIT_TIME_H page) = page :=
    ⟨pageOf_low hpage (by decide), pageOf_low hpage (by decide), pageOf_low hpage (by decide)⟩
  rw [heq]
  refine ⟨fun k hk _ h1 h2 h3 => ⟨?_, ?_⟩, fun h => ?_, by rw [htime, hbtb], fun k hk => ?_, hpg, fun p hp => ?_, ?_⟩
  · refine State.staged_of_get _ ?_
    rcases hget k with h | ⟨-, h⟩
    · exact h.trans (hon k hk).2
    · exact h
  · rw [hreg k h1 h2 h3, (hon k hk).1, hvalue hk]
  · have hold : b.regN (Reg.PG_SEQ page) = s.regN (Reg.PG_SEQ page) :=
      State.regN_of_reg (by rw [(hon _ hstampPage.1).1, hvalue hstampPage.1, if_pos h])
    rw [hseq, hold]
  · have hne {x : Nat} (hx : pageOf x = page) : k ≠ x := fun e => hk (e ▸ hx)
    have hr := hreg k (hne hstampPage.1) (hne hstampPage.2.1) (hne hstampPage.2.2)
    obtain ⟨h1, h2⟩ := hoff k hk
    have hg : Tbl.get 0 (b.stampCommit page).shadow k = Tbl.get 0 b.shadow k := (hget k).resolve_right fun h => hk h.1
    have hst : (b.stampCommit page).staged k = b.staged k := by rw [State.staged, State.staged, hr, hg]
    have hclean : a.staged k = s.staged k := by
      rw [hclamp, if_neg fun h => hk (s.mem_dirtyKeys.mp h).2]
    exact ⟨hr.trans (h1.trans (hareg k)), hst.trans (h2.trans hclean)⟩
  · rw [hpgs p hp, State.page, State.page, hbpages]
  · exact hframe.trans (by rw [hbf, haf])

/-- A commit tick of a page that is due, and of one that is not (R17, R18). -/
theorem exec_commitTick (hp : page < 2048) : exec (.commitTick page) s =
    .next (if s.mayCommit (s.page page).armed [page] then s.commitPages [page] else s) :=
  onUnit_of (decide_eq_true hp) _

end Page

/-! ### Groups -/

section Group
variable (s : State) (g : Nat)

/-- Every page of a list notes CFG_TOO_LARGE. -/
theorem State.tooLarge_spec (ps : List Nat) : let t := ps.foldl (fun u p => u.pgErrCode p 2 Code.cfgTooLarge) s
    (∀ p ∈ ps, t.bit (Reg.PG_ERR p) 2 = true ∧ t.fld (Reg.PG_ERR_INFO p) 0 8 = 0x12) ∧ t = { s with regs := t.regs } := by
  have hone (u : State) (p : Nat) : (u.pgErrCode p 2 Code.cfgTooLarge).bit (Reg.PG_ERR p) 2 = true ∧
      (u.pgErrCode p 2 Code.cfgTooLarge).fld (Reg.PG_ERR_INFO p) 0 8 = 0x12 :=
    ⟨(State.bit_setFld_other _ (by simp) ..).trans (State.bit_setBit_same _ _ _ true (by decide)), State.fld_setFld_same _ _ _ _ _ (by decide)⟩
  have hstep (u : State) (x p : Nat) (h : u.bit (Reg.PG_ERR p) 2 = true ∧ u.fld (Reg.PG_ERR_INFO p) 0 8 = 0x12) :
      (u.pgErrCode x 2 Code.cfgTooLarge).bit (Reg.PG_ERR p) 2 = true ∧ (u.pgErrCode x 2 Code.cfgTooLarge).fld (Reg.PG_ERR_INFO p) 0 8 = 0x12 := by
    by_cases hx : x = p
    · rw [hx]
      exact hone u p
    · have honly : OnlyRegs [Reg.PG_ERR x, Reg.PG_ERR_INFO x] u (u.pgErrCode x 2 Code.cfgTooLarge) :=
        (OnlyRegs.refl _ u).pgErrCode (by simp) (by simp) _ _
      have h1 : Reg.PG_ERR p ∉ [Reg.PG_ERR x, Reg.PG_ERR_INFO x] := by
        simp only [Reg.PG_ERR, Reg.PG_ERR_INFO, List.mem_cons, List.not_mem_nil, or_false]
        omega
      have h2 : Reg.PG_ERR_INFO p ∉ [Reg.PG_ERR x, Reg.PG_ERR_INFO x] := by
        simp only [Reg.PG_ERR, Reg.PG_ERR_INFO, List.mem_cons, List.not_mem_nil, or_false]
        omega
      exact ⟨(State.bit_of_reg (honly.2 _ h1) 2).trans h.1, (State.fld_of_reg (honly.2 _ h2) 0 8).trans h.2⟩
  have hall (l : List Nat) : ∀ u : State, ∀ p, (p ∈ l ∨ u.bit (Reg.PG_ERR p) 2 = true ∧ u.fld (Reg.PG_ERR_INFO p) 0 8 = 0x12) →
      (l.foldl (fun u p => u.pgErrCode p 2 Code.cfgTooLarge) u).bit (Reg.PG_ERR p) 2 = true ∧
        (l.foldl (fun u p => u.pgErrCode p 2 Code.cfgTooLarge) u).fld (Reg.PG_ERR_INFO p) 0 8 = 0x12 := by
    induction l with
    | nil => exact fun _ _ h => h.resolve_left (by simp)
    | cons x l ih =>
      intro u p h
      rw [List.foldl_cons]
      refine ih _ p ?_
      rcases h with h | h
      · rcases List.mem_cons.mp h with rfl | h
        · exact .inr (hone u p)
        · exact .inl h
      · exact .inr (hstep u x p h)
  refine ⟨fun p hp => hall ps s p (.inl hp), ?_⟩
  refine List.foldlRecOn (motive := fun t : State => t = { s with regs := t.regs }) _ _ rfl fun u hu p _ => ?_
  exact ((OnlyRegs.refl [Reg.PG_ERR p, Reg.PG_ERR_INFO p] u).pgErrCode (by simp) (by simp) _ _).1.trans (by rw [hu])

/-- A group that is refused as CFG_TOO_LARGE commits no member (R21). -/
theorem State.groupTooLarge_spec : let t := s.groupTooLarge g
    (t.group g).armed = .no ∧ (t.group g).members = (s.group g).members ∧ t.fld (Reg.CFG_GSTAT g) 8 8 = 0x12 ∧ t.shadow = s.shadow ∧
      t.pages = s.pages ∧ (∀ p ∈ (s.group g).members, t.bit (Reg.PG_ERR p) 2 = true ∧ t.fld (Reg.PG_ERR_INFO p) 0 8 = 0x12) ∧
      t.cuffs = s.cuffs ∧ t.tb = s.tb ∧ t.srcPend 0x3408 = true := by
  obtain ⟨a, ha⟩ : ∃ a, a = (s.group g).members.foldl (fun u p => u.pgErrCode p 2 Code.cfgTooLarge) s := ⟨_, rfl⟩
  obtain ⟨b, hb⟩ : ∃ b, b = a.setGroup g { a.group g with armed := .no } := ⟨_, rfl⟩
  have heq : s.groupTooLarge g = b.groupRefused g Code.cfgTooLarge := by rw [hb, ha]; rfl
  obtain ⟨herr, haf⟩ := s.tooLarge_spec (s.group g).members
  rw [← ha] at herr haf
  obtain ⟨hcode, hpend, honly⟩ := b.groupRefused_spec g (code := Code.cfgTooLarge) (by decide)
  rw [heq]
  generalize b.groupRefused g Code.cfgTooLarge = t at hcode hpend honly
  have hframe := honly.1
  have hagroup : a.group g = s.group g := by
    have hg : a.groups = s.groups := by rw [haf]
    rw [State.group, State.group, hg]
  have hgroup : t.group g = { s.group g with armed := .no } := by
    have hg : t.groups = b.groups := by rw [hframe]
    rw [State.group, hg, ← hagroup, hb]
    exact (State.group_setGroup ..).trans (if_pos rfl)
  have hreg {k : Nat} (h1 : k ≠ Reg.CFG_GSTAT g) (h2 : ¬(Reg.HVC_PEND 0 ≤ k ∧ k < Reg.HVC_PEND 512)) : t.reg k = a.reg k :=
    (honly.2 k (by simpa using h1) h2).trans (State.reg_of_regs (by rw [hb]; rfl) k)
  have hbf : b = { s with regs := a.regs, groups := b.groups } := by
    have hba : b = { a with groups := b.groups } := hb ▸ rfl
    exact hba.trans (by rw [haf])
  refine ⟨by rw [hgroup], by rw [hgroup], hcode, ?_, ?_, fun p hp => ?_, ?_, ?_, hpend⟩
  · rw [hframe, hbf]
  · rw [hframe, hbf]
  · obtain ⟨h1, h2⟩ := herr p hp
    refine ⟨(State.bit_of_reg (hreg ?_ ?_) 2).trans h1, (State.fld_of_reg (hreg ?_ ?_) 0 8).trans h2⟩
    · simp only [Reg.PG_ERR, Reg.CFG_GSTAT]
      omega
    · simp only [Reg.PG_ERR, Reg.HVC_PEND]
      omega
    · simp only [Reg.PG_ERR_INFO, Reg.CFG_GSTAT]
      omega
    · simp only [Reg.PG_ERR_INFO, Reg.HVC_PEND]
      omega
  · rw [hframe, hbf]
  · rw [hframe, hbf]

/-- A group of pages without further effect commits as a whole (R21). -/
theorem State.quietGroup_spec (h : ∀ p ∈ (s.group g).members, QuietPage p) : let t := s.commitMembers g
    (t.group g).armed = .no ∧ (t.group g).members = (s.group g).members ∧ t.fld (Reg.CFG_GSTAT g) 8 8 = 0 ∧
      (∀ g', g' ≠ g → t.group g' = s.group g') ∧ (∀ p ∈ (s.group g).members, t.page p = {} ∧ t.dirty p = 0) ∧ t.srcPend 0x3408 = true ∧
      t = { s with out := t.out, regs := t.regs, shadow := t.shadow, pages := t.pages, groups := t.groups, fns := t.fns,
                   link := t.link, srcs := t.srcs, vecs := t.vecs } := by
  obtain ⟨a, ha⟩ : ∃ a, a = s.setGroup g { s.group g with armed := .no } := ⟨_, rfl⟩
  obtain ⟨b, hb⟩ : ∃ b, b = a.pagesStamped (s.group g).members := ⟨_, rfl⟩
  have hgroup (k : Nat) : a.group k = if k = g then { s.group g with armed := .no } else s.group k := ha ▸ s.group_setGroup ..
  have hmem : (a.group g).members = (s.group g).members := by rw [hgroup, if_pos rfl]
  have heq : s.commitMembers g = b.groupRefused g Code.ok := by
    rw [hb, ← a.commitPages_quiet h, ← hmem, ha]
    rfl
  have hst := a.pagesStamped_spec h
  rw [← hb] at hst
  obtain ⟨hcode, hpend, honly⟩ := b.groupRefused_spec g (code := Code.ok) (by decide)
  rw [heq]
  generalize b.groupRefused g Code.ok = t at hcode hpend honly
  have hframe := honly.1
  have hbf := hst.frame
  have haf : a = { s with groups := a.groups } := ha ▸ rfl
  have ht (k : Nat) : t.group k = a.group k := by
    have hg : t.groups = a.groups := by rw [hframe, hbf]
    rw [State.group, State.group, hg]
  refine ⟨by rw [ht, hgroup, if_pos rfl], by rw [ht, hmem], hcode, fun k hk => by rw [ht, hgroup, if_neg hk], fun p hp => ⟨?_, ?_⟩, hpend, ?_⟩
  · rw [State.page, hframe]
    exact hst.page p hp
  · rw [State.dirty, State.dirtyKeys, hframe]
    exact hst.dirty p hp
  · have hpages : t.pages = b.pages := by rw [hframe]
    have hshadow : t.shadow = b.shadow := by rw [hframe]
    have hgroups : t.groups = a.groups := by rw [hframe, hbf]
    rw [hpages, hshadow, hgroups]
    refine hframe.trans ?_
    rw [hbf, haf]

theorem exec_groupTick (hg : g < 16) : exec (.groupCommitTick g) s =
    .next (if s.mayCommit (s.group g).armed (s.group g).members then s.commitGroup g else s) :=
  onUnit_of (decide_eq_true hg) _

end Group

/-- Settles O8: a commit makes every staged value effective on one tick, a group's as a whole or not at all. When a due commit is made is
the model's choice where the spec is silent (log entries 1 and 17). -/
theorem commitTicks : Obligations.CommitTicks := by
  unfold Obligations.CommitTicks
  refine ⟨fun s page hs hc hq hdue => ?_, fun s page hp => ?_, fun s g hg => ?_⟩
  · have hp : page < 2048 := by omega
    have hmay : s.mayCommit (s.page page).armed [page] = true :=
      (s.mayCommit_iff _ _).mpr ⟨hc, hdue.imp (fun h => ⟨h.1, by simpa using h.2⟩) id⟩
    have hq' : QuietPage page := hq
    have hcommit : s.commitPages [page] = s.pagesStamped [page] := s.commitPages_quiet fun p hp => List.mem_singleton.mp hp ▸ hq'
    exact ⟨_, (exec_commitTick hp).trans (congrArg _ ((if_pos hmay).trans hcommit)), State.quietCommit_spec hs hq'⟩
  · have hmay : s.mayCommit (s.page page).armed [page] = true ↔ s.clocked = true ∧ (((s.page page).armed = .now ∧ (s.page page).used ≠ some s.tick) ∨
        ∃ time, (s.page page).armed = .timed time ∧ s.reached time = true) := by simpa using s.mayCommit_iff (s.page page).armed [page]
    obtain ⟨hfits, hbad⟩ := s.commitPages_one page
    exact ⟨fun hd hf => (exec_commitTick hp).trans (congrArg _ ((if_pos (hmay.mpr hd)).trans (hfits hf))),
      fun hd hf => (exec_commitTick hp).trans (congrArg _ ((if_pos (hmay.mpr hd)).trans (hbad hf))),
      fun hd => (exec_commitTick hp).trans (congrArg _ (if_neg fun h => hd (hmay.mp h)))⟩
  · have hmay := s.mayCommit_iff (s.group g).armed (s.group g).members
    have hexec := exec_groupTick s g hg
    have htoo (hf : s.groupFits g = false) : s.commitGroup g = s.groupTooLarge g := if_pos hf
    have hall (hf : s.groupFits g = true) : s.commitGroup g = s.commitMembers g := if_neg (by simp [hf])
    refine ⟨fun hd => hexec.trans (congrArg _ (if_neg fun h => hd (hmay.mp h))),
      fun hd hf => ⟨_, hexec.trans (congrArg _ ((if_pos (hmay.mpr hd)).trans (htoo hf))), s.groupTooLarge_spec g⟩,
      fun hd hf => hexec.trans (congrArg _ ((if_pos (hmay.mpr hd)).trans ((hall hf).trans ?_))),
      fun hd hf _ hplain => ⟨_, hexec.trans (congrArg _ ((if_pos (hmay.mpr hd)).trans (hall hf))),
        s.quietGroup_spec g fun p hp => quietPage_of_plain (hplain p hp).1 (hplain p hp).2⟩⟩
    have hmem : ((s.setGroup g { s.group g with armed := .no }).group g).members = (s.group g).members := by
      rw [State.group_setGroup, if_pos rfl]
    show (((s.setGroup g { s.group g with armed := .no }).commitPages _).groupCode g Code.ok).raise 0x3408 = _
    rw [hmem]

end Sys2Proof.Machine

/-! O16: what a guard input does to the pairs of its sleeve (R66-R69): the step of one pair, and what it leaves of the others. -/

namespace Sys2Proof.Machine

open Sys2Proof

/-- The fields in which a trip may differ where nothing waits at the pair. -/
abbrev tripping : Nat := 4123168645138

theorem State.eq_of_wipe_tripping {s t : State} (e : t.wipe tripping = s.wipe tripping) :
    t = { s with out := t.out, regs := t.regs, cuffs := t.cuffs, pairs := t.pairs, fns := t.fns, link := t.link, srcs := t.srcs,
                 vecs := t.vecs } := by
  cases t
  cases s
  simpa [State.wipe, tripping, Nat.testBit] using e

/-- The registers of a sleeve that a guard input, a blanking end or a trip writes. -/
def tripRegs (n : Nat) : List Nat := [Reg.SLV_GDSTATE n, Reg.SLV_TRIP n, Reg.SLV_BRIDGE n, Reg.PG_ERR_INFO (slvPage n)]

/-- Nothing but the fields of a trip changes, and no FIFO of a cuff. -/
structure TripStill (s t : State) : Prop where
  wipe : t.wipe tripping = s.wipe tripping
  fifo : ∀ c, (t.cuff c).fifo = (s.cuff c).fifo

/-- What a guard input, a blanking end or a trip at the pair `p` keeps. -/
structure TripStep (p : Nat) (s t : State) : Prop where
  reg : ∀ k, IsSetting k → k ∉ tripRegs (p / 16) → t.reg k = s.reg k
  gd : ∀ b < 32, b ≠ 16 + p % 16 → t.bit (Reg.SLV_GDSTATE (p / 16)) b = s.bit (Reg.SLV_GDSTATE (p / 16)) b
  trip : ∀ b < 32, b ≠ p % 16 → b ≠ 16 + p % 16 → t.bit (Reg.SLV_TRIP (p / 16)) b = s.bit (Reg.SLV_TRIP (p / 16)) b
  bridge : ∀ b < 32, b ≠ p % 16 → t.bit (Reg.SLV_BRIDGE (p / 16)) b = s.bit (Reg.SLV_BRIDGE (p / 16)) b
  pairSt : ∀ q, q ≠ p → t.pairSt q = s.pairSt q
  cuff : ∀ c, c ≠ 2 * p → c ≠ 2 * p + 1 → ∃ l, t.cuff c = { s.cuff c with fifo := l }
  tick : t.tick = s.tick
  pend : PendKept s t
  still : (s.cuff (2 * p)).fifo = [] → TripStill s t

section Rules
variable {p : Nat} {s t u : State}

theorem TripStill.refl (s : State) : TripStill s s := ⟨rfl, fun _ => rfl⟩

theorem TripStill.trans (h : TripStill s t) (g : TripStill t u) : TripStill s u :=
  ⟨g.wipe.trans h.wipe, fun c => (g.fifo c).trans (h.fifo c)⟩

theorem TripStep.refl (p : Nat) (s : State) : TripStep p s s :=
  ⟨fun _ _ _ => rfl, fun _ _ _ => rfl, fun _ _ _ _ => rfl, fun _ _ _ => rfl, fun _ _ => rfl, fun _ _ _ => ⟨_, rfl⟩, rfl, .refl s, fun _ => .refl s⟩

theorem TripStep.trans (h : TripStep p s t) (g : TripStep p t u) : TripStep p s u where
  reg k hk hn := (g.reg k hk hn).trans (h.reg k hk hn)
  gd b hb hn := (g.gd b hb hn).trans (h.gd b hb hn)
  trip b hb h1 h2 := (g.trip b hb h1 h2).trans (h.trip b hb h1 h2)
  bridge b hb hn := (g.bridge b hb hn).trans (h.bridge b hb hn)
  pairSt q hq := (g.pairSt q hq).trans (h.pairSt q hq)
  cuff c h1 h2 := by
    obtain ⟨l, hl⟩ := h.cuff c h1 h2
    obtain ⟨l', hl'⟩ := g.cuff c h1 h2
    exact ⟨l', by rw [hl', hl]⟩
  tick := g.tick.trans h.tick
  pend := h.pend.trans g.pend
  still he := by
    have hs := h.still he
    exact hs.trans (g.still ((hs.fifo _).trans he))

theorem TripStep.ite {c : Prop} [Decidable c] (h : c → TripStep p s t) (g : ¬c → TripStep p s u) : TripStep p s (if c then t else u) :=
  iteInduction (motive := TripStep p s) h g

/-- A step that writes no register of the layer and leaves cuffs and pairs. -/
theorem TripStep.of_settings (hlt : p < 512) (h : SettingsKept s t) (hc : ∀ c, ∃ l, t.cuff c = { s.cuff c with fifo := l }) (hp : t.pairs = s.pairs)
    (ht : t.tick = s.tick) (hstill : (s.cuff (2 * p)).fifo = [] → TripStill s t) : TripStep p s t where
  reg k hk _ := h.reg k hk
  gd b _ _ := State.bit_of_reg (h.reg _ (by simp only [IsSetting, Reg.SLV_GDSTATE]; omega)) b
  trip b _ _ _ := State.bit_of_reg (h.reg _ (by simp only [IsSetting, Reg.SLV_TRIP]; omega)) b
  bridge b _ _ := State.bit_of_reg (h.reg _ (by simp only [IsSetting, Reg.SLV_BRIDGE]; omega)) b
  pairSt q _ := by rw [State.pairSt, State.pairSt, hp]
  cuff c _ _ := hc c
  tick := ht
  pend := h.pend
  still := hstill

end Rules

/-! ### The parts of a trip -/

section Steps
variable (s : State) {p : Nat} (hp : p < 512)

theorem TripStill.of_eq {s t : State} (h : t.wipe tripping = s.wipe tripping) (hc : t.cuffs = s.cuffs) : TripStill s t :=
  ⟨h, fun c => congrArg Cuff.fifo (State.cuff_congr hc c)⟩

/-- A write of one of the sleeve's trip registers that keeps the bits of the other pairs. -/
theorem State.setN_tripStep {k v : Nat} (hk : k ∈ tripRegs (p / 16))
    (hgd : k = Reg.SLV_GDSTATE (p / 16) → ∀ b < 32, b ≠ 16 + p % 16 → (s.setN k v).bit k b = s.bit k b)
    (htrip : k = Reg.SLV_TRIP (p / 16) → ∀ b < 32, b ≠ p % 16 → b ≠ 16 + p % 16 → (s.setN k v).bit k b = s.bit k b)
    (hbridge : k = Reg.SLV_BRIDGE (p / 16) → ∀ b < 32, b ≠ p % 16 → (s.setN k v).bit k b = s.bit k b) (hlt : k < 0x30000) :
    TripStep p s (s.setN k v) where
  reg j _ hj := s.reg_setN_other (fun h : j = k => hj (h ▸ hk)) v
  gd b hb hn := by
    by_cases e : k = Reg.SLV_GDSTATE (p / 16)
    · exact e ▸ hgd e b hb hn
    · exact State.bit_of_reg (s.reg_setN_other (Ne.symm e) v) b
  trip b hb h1 h2 := by
    by_cases e : k = Reg.SLV_TRIP (p / 16)
    · exact e ▸ htrip e b hb h1 h2
    · exact State.bit_of_reg (s.reg_setN_other (Ne.symm e) v) b
  bridge b hb hn := by
    by_cases e : k = Reg.SLV_BRIDGE (p / 16)
    · exact e ▸ hbridge e b hb hn
    · exact State.bit_of_reg (s.reg_setN_other (Ne.symm e) v) b
  pairSt _ _ := rfl
  cuff _ _ _ := ⟨_, rfl⟩
  tick := rfl
  pend := s.setN_pendKept (.inl (by omega)) v
  still _ := .of_eq (s.setN_wipe _ _ _ (by decide)) rfl

theorem State.setPairSt_tripStep (k : Pair) : TripStep p s (s.setPairSt p k) where
  reg _ _ _ := rfl
  gd _ _ _ := rfl
  trip _ _ _ _ := rfl
  bridge _ _ _ := rfl
  pairSt q hq := (State.pairSt_setPairSt ..).trans (if_neg hq)
  cuff _ _ _ := ⟨_, rfl⟩
  tick := rfl
  pend := .of_regs rfl
  still _ := .of_eq (s.setPairSt_wipe _ _ _ (by decide)) rfl

include hp

theorem State.setGd_tripStep (b : Bool) : TripStep p s (s.setBit (Reg.SLV_GDSTATE (p / 16)) (16 + p % 16) b) :=
  s.setN_tripStep (by simp [tripRegs]) (fun _ c _ hc => s.bit_setBit_apart _ _ c b (by omega) hc)
    (fun h => absurd h (by simp)) (fun h => absurd h (by simp)) (by simp only [Reg.SLV_GDSTATE]; omega)

theorem State.setTrip_tripStep {i : Nat} (hi : i = p % 16 ∨ i = 16 + p % 16) (b : Bool) :
    TripStep p s (s.setBit (Reg.SLV_TRIP (p / 16)) i b) :=
  s.setN_tripStep (by simp [tripRegs]) (fun h => absurd h (by simp))
    (fun _ c _ h1 h2 => s.bit_setBit_apart _ _ c b (by omega) (by omega)) (fun h => absurd h (by simp)) (by simp only [Reg.SLV_TRIP]; omega)

theorem State.setBridge_tripStep (b : Bool) : TripStep p s (s.setBit (Reg.SLV_BRIDGE (p / 16)) (p % 16) b) :=
  s.setN_tripStep (by simp [tripRegs]) (fun h => absurd h (by simp)) (fun h => absurd h (by simp))
    (fun _ c _ hc => s.bit_setBit_apart _ _ c b (by omega) hc) (by simp only [Reg.SLV_BRIDGE]; omega)

theorem State.setInfo_tripStep (v : Nat) : TripStep p s (s.setN (Reg.PG_ERR_INFO (slvPage (p / 16))) v) :=
  s.setN_tripStep (by simp [tripRegs]) (fun h => absurd h (by simp [slvPage])) (fun h => absurd h (by simp [slvPage]))
    (fun h => absurd h (by simp [slvPage])) (by simp only [Reg.PG_ERR_INFO, slvPage]; omega)

theorem State.raise_tripStep (id : Nat) : TripStep p s (s.raise id) := by
  have hw : (s.raise id).wipe events = s.wipe events := State.raise_wipe _ _ _ (by decide)
  have hc := State.cuffs_of_wipe hw rfl
  exact .of_settings hp (s.raise_settings id) (fun c => ⟨_, State.cuff_congr hc c⟩) (State.pairs_of_wipe hw rfl) (State.tick_of_wipe hw rfl)
    fun _ => .of_eq (State.wipe_mono hw (by decide)) hc

/-- What waits at the pair is judged anew; where nothing waits, nothing changes. -/
theorem State.rejudge_tripStep : TripStep p s (s.rejudge 1 (2 * p)) := by
  have hw := s.rejudge_judging 1 (2 * p)
  refine .of_settings hp (s.rejudge_settings ..) (s.rejudge_judgeKept 1 (2 * p)).cuff (State.pairs_of_wipe hw rfl) (State.tick_of_wipe hw rfl)
    fun he => ?_
  have hsame : s.rejudge 1 (2 * p) = s := by
    have hfifo : s.targetFifo 1 (2 * p) = [] := he
    rw [State.rejudge, hfifo]
  rw [hsame]
  exact .refl s

omit hp in
/-- A cuff that goes to Apron leaves the settings. -/
theorem State.toApron_settings {c : Nat} (hc : c < 1024) (w : Cause) : SettingsKept s (s.toApron c w) := by
  have honly := s.toApron_only (c := c) w
  refine ⟨fun k hk => honly.reg k fun h => ?_, .of_reg fun r h _ => honly.reg r (by simp only [Reg.CUF_EDGES]; omega)⟩
  have hoff : Reg.CUF_EDGES c % 0x1000 = 0x450 + c % 32 * 0x60 := by
    simp only [Reg.CUF_EDGES]
    omega
  rw [h, IsSetting, hoff] at hk
  simp only [Reg.CUF_EDGES] at hk
  omega

theorem State.toApron_tripStep {c : Nat} (hc : c = 2 * p ∨ c = 2 * p + 1) : TripStep p s (s.toApron c .trip) := by
  have honly := s.toApron_only (c := c) .trip
  have hset := s.toApron_settings (c := c) (by omega) .trip
  have hfifo (e : Nat) : ((s.toApron c .trip).cuff e).fifo = (s.cuff e).fifo := by
    by_cases he : e = c
    · have hstands := congrArg Cuff.fifo (s.toApron_stands c .trip)
      rw [he]
      exact hstands
    · exact congrArg Cuff.fifo (honly.cuff e he)
  have hbit {k : Nat} (hk : IsSetting k) (b : Nat) : (s.toApron c .trip).bit k b = s.bit k b := State.bit_of_reg (hset.reg k hk) b
  exact {
    reg := fun k hk _ => hset.reg k hk
    gd := fun b _ _ => hbit (by simp only [IsSetting, Reg.SLV_GDSTATE]; omega) b
    trip := fun b _ _ _ => hbit (by simp only [IsSetting, Reg.SLV_TRIP]; omega) b
    bridge := fun b _ _ => hbit (by simp only [IsSetting, Reg.SLV_BRIDGE]; omega) b
    pairSt := fun q _ => by rw [honly.frame]; rfl
    cuff := fun e h1 h2 => ⟨_, honly.cuff e (by omega)⟩
    tick := by rw [honly.frame]
    pend := hset.pend
    still := fun _ => ⟨by rw [honly.frame]; rfl, hfifo⟩ }

end Steps

end Sys2Proof.Machine

/-! O16: a trip, and the pairs of a sleeve in turn (R66-R69). -/

namespace Sys2Proof.Machine

open Sys2Proof

section Trip
variable (s : State) {p : Nat}

/-- The drive of a cuff at Apron, as its configuration selects it (R72). -/
def Cuff.atApron (k : Cuff) (ap : Nat) : Prop :=
  (ap = 0 → k.driven = true ∧ k.level = false) ∧ (ap = 1 → k.driven = true ∧ k.level = true) ∧ (ap = 2 → k.driven = false)

/-- `t` is `s` after a trip of the pair `p` (R66, R69). -/
structure Tripped (p : Nat) (bridge causeB : Bool) (s t : State) : Prop where
  step : TripStep p s t
  tripped : t.tripped p = true
  cause : t.bit (Reg.SLV_TRIP (p / 16)) (16 + p % 16) = if s.tripped p then s.bit (Reg.SLV_TRIP (p / 16)) (16 + p % 16) else causeB
  bridged : t.bridged p = (bridge || s.bridged p)
  st : (t.pairSt p).st = 0
  blankEnd : (t.pairSt p).blankEnd = (s.pairSt p).blankEnd
  gd : t.reg (Reg.SLV_GDSTATE (p / 16)) = s.reg (Reg.SLV_GDSTATE (p / 16))
  apTrip : ∀ c, c = 2 * p ∨ c = 2 * p + 1 → (t.cuff c).apTrip = true
  level : ∀ c, c = 2 * p ∨ c = 2 * p + 1 → (s.cuff c).apron = false → (t.cuff c).atApron (s.fld (Reg.CUF_CFG c) 4 2)
  info : t.fld (Reg.PG_ERR_INFO (slvPage (p / 16))) 0 8 = (if bridge then Code.bridgeShort else Code.guardTrip) ∧
    t.fld (Reg.PG_ERR_INFO (slvPage (p / 16))) 8 4 = p % 16
  srcPend : t.srcPend (0x3000 + 4 * (p / 16) + b2n bridge) = true

/-- Both legs go to Apron. -/
def State.legsTripped (p : Nat) : State := (s.toApron (2 * p) .trip).toApron (2 * p + 1) .trip

/-- What the trip writes to the sleeve's registers before its source is raised. -/
def State.tripMarked (p : Nat) (was bridge causeB : Bool) (v : Nat) : State :=
  let s := s.setBit (Reg.SLV_TRIP (p / 16)) (p % 16) true
  let s := if was then s else s.setBit (Reg.SLV_TRIP (p / 16)) (16 + p % 16) causeB
  let s := if bridge then s.setBit (Reg.SLV_BRIDGE (p / 16)) (p % 16) true else s
  s.setN (Reg.PG_ERR_INFO (slvPage (p / 16))) v

/-- The pair's own record: no leg is active, and its dead time runs. -/
def State.pairRests (p : Nat) : State :=
  s.setPairSt p { s.pairSt p with st := 0, swung := if (s.pairSt p).st = 0 then (s.pairSt p).swung else some s.tb.now }

theorem State.tripPair_eq (p : Nat) (bridge causeB : Bool) (g : Nat) : s.tripPair p bridge causeB g =
    ((((s.legsTripped p).pairRests p).tripMarked p (s.tripped p) bridge causeB
      ((if bridge then Code.bridgeShort else Code.guardTrip) + p % 16 * 2 ^ 8 + g % 8 * 2 ^ 12)).raise
        (0x3000 + 4 * (p / 16) + b2n bridge)).rejudge 1 (2 * p) := rfl

variable (hp : p < 512)

/-- A cuff that goes to Apron from an output that no cause holds takes the level that its configuration selects (R72). -/
theorem State.toApron_atApron (c : Nat) (w : Cause) (h : (s.cuff c).apron = false) :
    ((s.toApron c w).cuff c).atApron (s.fld (Reg.CUF_CFG c) 4 2) := by
  have hset : (s.toApron c w).cuff c = ((s.apronLevel c).cuff c).setCause w true := by
    refine (State.cuff_setCuff ..).trans ((if_pos rfl).trans ?_)
    rw [if_neg (by simp [h])]
  have hcause (k : Cuff) : (k.setCause w true).driven = k.driven ∧ (k.setCause w true).level = k.level := by cases w <;> exact ⟨rfl, rfl⟩
  have hlevel := s.apronLevel_at c
  rw [hset, Cuff.atApron, (hcause _).1, (hcause _).2]
  exact hlevel

include hp

theorem State.legsTripped_spec : TripStep p s (s.legsTripped p) ∧ (s.legsTripped p).pairs = s.pairs ∧
    (∀ k ∈ tripRegs (p / 16), (s.legsTripped p).reg k = s.reg k) ∧
    (∀ c, c = 2 * p ∨ c = 2 * p + 1 → ((s.legsTripped p).cuff c).apTrip = true ∧
      ((s.cuff c).apron = false → ((s.legsTripped p).cuff c).atApron (s.fld (Reg.CUF_CFG c) 4 2))) := by
  obtain ⟨u, hu⟩ : ∃ u, u = s.toApron (2 * p) .trip := ⟨_, rfl⟩
  have hlegs : s.legsTripped p = u.toApron (2 * p + 1) .trip := by rw [hu]; rfl
  have hsu := s.toApron_only (c := 2 * p) .trip
  have hstep := s.toApron_tripStep hp (.inl rfl)
  have hap := s.toApron_atApron (2 * p) .trip
  have htrip : ((s.toApron (2 * p) .trip).cuff (2 * p)).apTrip = true :=
    congrArg Cuff.apTrip ((State.cuff_setCuff ..).trans (if_pos rfl))
  rw [← hu] at hsu hstep hap htrip
  rw [hlegs]
  have hut := u.toApron_only (c := 2 * p + 1) .trip
  have hedges {k c : Nat} (hk : k ∈ tripRegs (p / 16)) (hc : c < 1024) : k ≠ Reg.CUF_EDGES c := by
    simp only [tripRegs, List.mem_cons, List.not_mem_nil, or_false] at hk
    simp only [Reg.CUF_EDGES, Reg.SLV_GDSTATE, Reg.SLV_TRIP, Reg.SLV_BRIDGE, Reg.PG_ERR_INFO, slvPage] at hk ⊢
    omega
  refine ⟨hstep.trans (u.toApron_tripStep hp (.inr rfl)), by rw [hut.frame, hsu.frame],
    fun k hk => (hut.reg k (hedges hk (by omega))).trans (hsu.reg k (hedges hk (by omega))), ?_⟩
  rintro c (rfl | rfl)
  · rw [hut.cuff _ (by omega)]
    exact ⟨htrip, hap⟩
  · refine ⟨congrArg Cuff.apTrip ((State.cuff_setCuff ..).trans (if_pos rfl)), fun h => ?_⟩
    have hcuff := hsu.cuff (2 * p + 1) (by omega)
    have hfld : u.fld (Reg.CUF_CFG (2 * p + 1)) 4 2 = s.fld (Reg.CUF_CFG (2 * p + 1)) 4 2 :=
      State.fld_of_reg (hsu.reg _ (by simp only [Reg.CUF_CFG, Reg.CUF_EDGES]; omega)) 4 2
    rw [← hfld]
    exact u.toApron_atApron (2 * p + 1) .trip (by rw [hcuff, h])

theorem State.tripMarked_spec (was bridge causeB : Bool) (v : Nat) : let t := s.tripMarked p was bridge causeB v
    TripStep p s t ∧ t.cuffs = s.cuffs ∧ t.pairs = s.pairs ∧ t.tripped p = true ∧
    t.bit (Reg.SLV_TRIP (p / 16)) (16 + p % 16) = (if was then s.bit (Reg.SLV_TRIP (p / 16)) (16 + p % 16) else causeB) ∧
    t.bridged p = (bridge || s.bridged p) ∧ t.reg (Reg.SLV_GDSTATE (p / 16)) = s.reg (Reg.SLV_GDSTATE (p / 16)) ∧
    t.regN (Reg.PG_ERR_INFO (slvPage (p / 16))) = v % 2 ^ 32 := by
  intro t
  obtain ⟨a, ha⟩ : ∃ a, a = s.setBit (Reg.SLV_TRIP (p / 16)) (p % 16) true := ⟨_, rfl⟩
  obtain ⟨b, hb⟩ : ∃ b, b = if was then a else a.setBit (Reg.SLV_TRIP (p / 16)) (16 + p % 16) causeB := ⟨_, rfl⟩
  obtain ⟨c, hc⟩ : ∃ c, c = if bridge then b.setBit (Reg.SLV_BRIDGE (p / 16)) (p % 16) true else b := ⟨_, rfl⟩
  have ht : t = c.setN (Reg.PG_ERR_INFO (slvPage (p / 16))) v := by rw [hc, hb, ha]; rfl
  have hmod : p % 16 < 16 := Nat.mod_lt _ (by decide)
  have hsa : TripStep p s a := ha ▸ s.setTrip_tripStep hp (.inl rfl) true
  have hatrip : a.bit (Reg.SLV_TRIP (p / 16)) (p % 16) = true := ha ▸ s.bit_setBit_same _ _ true (by omega)
  have hacause : a.bit (Reg.SLV_TRIP (p / 16)) (16 + p % 16) = s.bit (Reg.SLV_TRIP (p / 16)) (16 + p % 16) :=
    ha ▸ s.bit_setBit_apart _ _ _ true (by omega) (by omega)
  have hareg (k : Nat) (hk : k ≠ Reg.SLV_TRIP (p / 16)) : a.reg k = s.reg k := ha ▸ s.reg_setBit_other hk _ true
  have hab : TripStep p a b := hb ▸ .ite (fun _ => .refl p a) fun _ => a.setTrip_tripStep hp (.inr rfl) causeB
  have hbtrip : b.bit (Reg.SLV_TRIP (p / 16)) (p % 16) = true := by
    rw [hb]
    split
    · exact hatrip
    · exact (a.bit_setBit_apart _ _ _ causeB (by omega) (by omega)).trans hatrip
  have hbcause : b.bit (Reg.SLV_TRIP (p / 16)) (16 + p % 16) =
      if was then s.bit (Reg.SLV_TRIP (p / 16)) (16 + p % 16) else causeB := by
    rw [hb]
    split
    · exact hacause
    · exact a.bit_setBit_same _ _ causeB (by omega)
  have hbreg (k : Nat) (hk : k ≠ Reg.SLV_TRIP (p / 16)) : b.reg k = s.reg k := by
    rw [hb]
    split
    · exact hareg k hk
    · exact (a.reg_setBit_other hk _ causeB).trans (hareg k hk)
  have hbc : TripStep p b c := hc ▸ .ite (fun _ => b.setBridge_tripStep hp true) fun _ => .refl p b
  have hcreg (k : Nat) (hk : k ≠ Reg.SLV_BRIDGE (p / 16)) : c.reg k = b.reg k := by
    rw [hc]
    split
    · exact b.reg_setBit_other hk _ true
    · rfl
  have hcbridge : c.bit (Reg.SLV_BRIDGE (p / 16)) (p % 16) = (bridge || s.bridged p) := by
    rw [hc]
    split
    · next h => rw [h, b.bit_setBit_same _ _ true (by omega)]; rfl
    · next h => rw [State.bit_of_reg (hbreg _ (by simp)), Bool.eq_false_iff.mpr h]; rfl
  have htreg (k : Nat) (hk : k ≠ Reg.PG_ERR_INFO (slvPage (p / 16))) : t.reg k = c.reg k := ht ▸ c.reg_setN_other hk v
  have hctrip : t.reg (Reg.SLV_TRIP (p / 16)) = b.reg (Reg.SLV_TRIP (p / 16)) := (htreg _ (by simp [slvPage])).trans (hcreg _ (by simp))
  have hframe : t.cuffs = s.cuffs ∧ t.pairs = s.pairs := by
    have hw : t.wipe 16 = s.wipe 16 := by
      refine (ht ▸ c.setN_wipe _ _ _ (by decide)).trans ?_
      have h2 : c.wipe 16 = b.wipe 16 := by
        rw [hc]
        split
        · exact State.setBit_wipe _ _ _ _ _ (by decide)
        · rfl
      have h1 : b.wipe 16 = a.wipe 16 := by
        rw [hb]
        split
        · rfl
        · exact State.setBit_wipe _ _ _ _ _ (by decide)
      exact h2.trans (h1.trans (ha ▸ State.setBit_wipe _ _ _ _ _ (by decide)))
    exact ⟨State.cuffs_of_wipe hw rfl, State.pairs_of_wipe hw rfl⟩
  exact ⟨((hsa.trans hab).trans hbc).trans (ht ▸ c.setInfo_tripStep hp v), hframe.1, hframe.2,
    (State.bit_of_reg hctrip _).trans hbtrip, (State.bit_of_reg hctrip _).trans hbcause,
    (State.bit_of_reg (htreg _ (by simp [slvPage])) _).trans hcbridge,
    (htreg _ (by simp [slvPage])).trans ((hcreg _ (by simp)).trans (hbreg _ (by simp))), ht ▸ State.regN_setN_same ..⟩

/-- A trip of one pair. -/
theorem State.tripPair_spec (bridge causeB : Bool) (g : Nat) : Tripped p bridge causeB s (s.tripPair p bridge causeB g) := by
  obtain ⟨hl, hlpairs, hlreg, hlegs⟩ := s.legsTripped_spec hp
  obtain ⟨u, hu⟩ : ∃ u, u = s.legsTripped p := ⟨_, rfl⟩
  obtain ⟨v, hv⟩ : ∃ v, v = u.pairRests p := ⟨_, rfl⟩
  obtain ⟨code, hcode⟩ : ∃ code, code = if bridge then Code.bridgeShort else Code.guardTrip := ⟨_, rfl⟩
  obtain ⟨x, hx⟩ : ∃ x, x = code + p % 16 * 2 ^ 8 + g % 8 * 2 ^ 12 := ⟨_, rfl⟩
  obtain ⟨w, hw⟩ : ∃ w, w = v.tripMarked p (s.tripped p) bridge causeB x := ⟨_, rfl⟩
  obtain ⟨y, hy⟩ : ∃ y, y = w.raise (0x3000 + 4 * (p / 16) + b2n bridge) := ⟨_, rfl⟩
  have hend : s.tripPair p bridge causeB g = y.rejudge 1 (2 * p) := by rw [State.tripPair_eq, hy, hw, hx, hcode, hv, hu]
  obtain ⟨t, ht⟩ : ∃ t, t = y.rejudge 1 (2 * p) := ⟨_, rfl⟩
  rw [← hu] at hl hlpairs hlreg hlegs
  have huv : TripStep p u v := hv ▸ u.setPairSt_tripStep _
  have hcuffs : v.cuffs = u.cuffs := hv ▸ rfl
  have hvreg (k : Nat) : v.reg k = u.reg k := hv ▸ rfl
  have hvpair : (v.pairSt p).st = 0 ∧ (v.pairSt p).blankEnd = (u.pairSt p).blankEnd := by
    rw [hv, State.pairRests, State.pairSt_setPairSt, if_pos rfl]
    exact ⟨rfl, rfl⟩
  obtain ⟨hvw, hwcuffs, hwpairs, hwtrip, hwcause, hwbridge, hwgd, hwinfo⟩ := v.tripMarked_spec hp (s.tripped p) bridge causeB x
  rw [← hw] at hvw hwcuffs hwpairs hwtrip hwcause hwbridge hwgd hwinfo
  have hwy : SettingsKept w y := hy ▸ w.raise_settings _
  have hyevents : y.wipe events = w.wipe events := hy ▸ State.raise_wipe _ _ _ (by decide)
  have hyt : SettingsKept y t := ht ▸ y.rejudge_settings 1 (2 * p)
  have hyjudge := y.rejudge_judging 1 (2 * p)
  rw [← ht] at hyjudge
  have hset {k : Nat} (hk : k ∈ tripRegs (p / 16)) : IsSetting k := by
    simp only [tripRegs, List.mem_cons, List.not_mem_nil, or_false] at hk
    simp only [IsSetting, Reg.SLV_GDSTATE, Reg.SLV_TRIP, Reg.SLV_BRIDGE, Reg.PG_ERR_INFO, slvPage] at hk ⊢
    omega
  have htreg {k : Nat} (hk : k ∈ tripRegs (p / 16)) : t.reg k = w.reg k := (hyt.reg k (hset hk)).trans (hwy.reg k (hset hk))
  have hvs {k : Nat} (hk : k ∈ tripRegs (p / 16)) : v.reg k = s.reg k := (hvreg k).trans (hlreg k hk)
  have hGd : Reg.SLV_GDSTATE (p / 16) ∈ tripRegs (p / 16) := by simp [tripRegs]
  have hTrip : Reg.SLV_TRIP (p / 16) ∈ tripRegs (p / 16) := by simp [tripRegs]
  have hBridge : Reg.SLV_BRIDGE (p / 16) ∈ tripRegs (p / 16) := by simp [tripRegs]
  have hInfo : Reg.PG_ERR_INFO (slvPage (p / 16)) ∈ tripRegs (p / 16) := by simp [tripRegs]
  have hpairs : t.pairSt p = v.pairSt p := by
    rw [State.pairSt, State.pairSt, State.pairs_of_wipe hyjudge rfl, State.pairs_of_wipe hyevents rfl, hwpairs]
  have hups : u.pairSt p = s.pairSt p := by rw [State.pairSt, State.pairSt, hlpairs]
  have hcuff (c : Nat) : ∃ l, t.cuff c = { u.cuff c with fifo := l } := by
    obtain ⟨l, hl⟩ := (y.rejudge_judgeKept 1 (2 * p)).cuff c
    refine ⟨l, ?_⟩
    rw [ht, hl, State.cuff_congr (State.cuffs_of_wipe hyevents rfl), State.cuff_congr hwcuffs, State.cuff_congr hcuffs]
  have hinfo : t.regN (Reg.PG_ERR_INFO (slvPage (p / 16))) = x := by
    rw [State.regN_of_reg (htreg hInfo), hwinfo, hx, hcode]
    exact Nat.mod_eq_of_lt (by split <;> simp only [Code.bridgeShort, Code.guardTrip] <;> omega)
  rw [hend, ← ht]
  exact {
    step := (((hl.trans huv).trans hvw).trans (hy ▸ w.raise_tripStep hp _)).trans (ht ▸ y.rejudge_tripStep hp)
    tripped := (State.bit_of_reg (htreg hTrip) _).trans hwtrip
    cause := by rw [State.bit_of_reg (htreg hTrip), hwcause, State.bit_of_reg (hvs hTrip)]
    bridged := by
      rw [State.bridged, State.bit_of_reg (htreg hBridge)]
      exact hwbridge.trans (congrArg (bridge || ·) (State.bit_of_reg (hvs hBridge) _))
    st := by rw [hpairs, hvpair.1]
    blankEnd := by rw [hpairs, hvpair.2, hups]
    gd := (htreg hGd).trans (hwgd.trans (hvs hGd))
    apTrip := fun c hc => by
      obtain ⟨l, hl⟩ := hcuff c
      rw [hl]
      exact (hlegs c hc).1
    level := fun c hc h => by
      obtain ⟨l, hl⟩ := hcuff c
      rw [hl]
      exact (hlegs c hc).2 h
    info := by
      rw [State.fld, State.fld, hinfo, hx, hcode]
      have hi : p % 16 < 16 := Nat.mod_lt _ (by decide)
      have hsmall : (if bridge then Code.bridgeShort else Code.guardTrip) < 256 := by split <;> decide
      refine ⟨?_, ?_⟩
      · simp only [bits]
        omega
      · simp only [bits]
        omega
    srcPend := by
      have hb : b2n bridge < 2 := by cases bridge <;> decide
      refine hyt.pend.kept _ (by omega) ?_
      rw [hy]
      exact State.srcPend_raise _ _ }

end Trip

end Sys2Proof.Machine

/-! O16: an assertion at each pair of its sleeve, and the end of blanking (R66-R69). -/

namespace Sys2Proof.Machine

open Sys2Proof

/-! ### What the other pairs of a sleeve leave of one -/

/-- What a pair keeps while others of its sleeve trip. -/
structure PairAside (p : Nat) (s t : State) : Prop where
  reg : ∀ k, IsSetting k → k ∉ tripRegs (p / 16) → t.reg k = s.reg k
  input : ∀ b < 16, t.bit (Reg.SLV_GDSTATE (p / 16)) b = s.bit (Reg.SLV_GDSTATE (p / 16)) b
  waits : t.bit (Reg.SLV_GDSTATE (p / 16)) (16 + p % 16) = s.bit (Reg.SLV_GDSTATE (p / 16)) (16 + p % 16)
  tripped : t.tripped p = s.tripped p
  cause : t.bit (Reg.SLV_TRIP (p / 16)) (16 + p % 16) = s.bit (Reg.SLV_TRIP (p / 16)) (16 + p % 16)
  bridged : t.bridged p = s.bridged p
  pairSt : t.pairSt p = s.pairSt p
  cuff : ∀ c, c = 2 * p ∨ c = 2 * p + 1 → ∃ l, t.cuff c = { s.cuff c with fifo := l }
  tick : t.tick = s.tick
  pend : PendKept s t

theorem PairAside.refl (p : Nat) (s : State) : PairAside p s s :=
  ⟨fun _ _ _ => rfl, fun _ _ => rfl, rfl, rfl, rfl, rfl, rfl, fun _ _ => ⟨_, rfl⟩, rfl, .refl s⟩

theorem PairAside.trans {p : Nat} {s t u : State} (h : PairAside p s t) (g : PairAside p t u) : PairAside p s u where
  reg k hk hn := (g.reg k hk hn).trans (h.reg k hk hn)
  input b hb := (g.input b hb).trans (h.input b hb)
  waits := g.waits.trans h.waits
  tripped := g.tripped.trans h.tripped
  cause := g.cause.trans h.cause
  bridged := g.bridged.trans h.bridged
  pairSt := g.pairSt.trans h.pairSt
  cuff c hc := by
    obtain ⟨l, hl⟩ := h.cuff c hc
    obtain ⟨l', hl'⟩ := g.cuff c hc
    exact ⟨l', by rw [hl', hl]⟩
  tick := g.tick.trans h.tick
  pend := h.pend.trans g.pend

theorem TripStep.aside {p q : Nat} {s t : State} (h : TripStep q s t) (hs : q / 16 = p / 16) (hne : q % 16 ≠ p % 16) : PairAside p s t where
  reg k hk hn := h.reg k hk (hs ▸ hn)
  input b hb := hs ▸ h.gd b (by omega) (by omega)
  waits := hs ▸ h.gd (16 + p % 16) (by omega) (by omega)
  tripped := by
    have htrip := h.trip (p % 16) (by omega) (by omega) (by omega)
    rwa [hs] at htrip
  cause := hs ▸ h.trip (16 + p % 16) (by omega) (by omega) (by omega)
  bridged := by
    have hbridge := h.bridge (p % 16) (by omega) (by omega)
    rwa [hs] at hbridge
  pairSt := h.pairSt p fun e => hne (congrArg (· % 16) e.symm)
  cuff c hc := h.cuff c (by omega) (by omega)
  tick := h.tick
  pend := h.pend

/-! ### One pair -/

section Pair
variable (s : State) {p : Nat}

theorem State.inBlanking_iff (p : Nat) : s.inBlanking p = true ↔ ∃ e, (s.pairSt p).blankEnd = some e ∧ s.tick < e := by
  rw [State.inBlanking]
  split
  · next t h => simp [h]
  · next h => simp [h]

theorem State.guardHit_blanking (h : s.inBlanking p = true) (g : Nat) (legB : Bool) :
    s.guardHit p g legB = s.setBit (Reg.SLV_GDSTATE (p / 16)) (16 + p % 16) true := if_pos h

theorem State.guardHit_trip (h : s.inBlanking p ≠ true) (ht : s.tripped p = false) (g : Nat) (legB : Bool) :
    s.guardHit p g legB = s.tripPair p false legB g := (if_neg h).trans (if_neg (by simp [ht]))

theorem State.guardHit_again (h : s.inBlanking p ≠ true) (ht : s.tripped p = true) {legB : Bool}
    (hc : s.bit (Reg.SLV_TRIP (p / 16)) (16 + p % 16) = legB) (g : Nat) : s.guardHit p g legB = s :=
  (if_neg h).trans ((if_pos ht).trans (if_pos hc))

theorem State.guardHit_bridge (h : s.inBlanking p ≠ true) (ht : s.tripped p = true) {legB : Bool}
    (hc : s.bit (Reg.SLV_TRIP (p / 16)) (16 + p % 16) ≠ legB) (g : Nat) : s.guardHit p g legB = s.tripPair p true legB g :=
  (if_neg h).trans ((if_pos ht).trans (if_neg hc))

theorem State.guardHit_step (hp : p < 512) (g : Nat) (legB : Bool) : TripStep p s (s.guardHit p g legB) :=
  .ite (fun _ => s.setGd_tripStep hp true) fun _ => .ite
    (fun _ => .ite (fun _ => .refl p s) fun _ => (s.tripPair_spec hp ..).step) fun _ => (s.tripPair_spec hp ..).step

theorem State.guardPair_step (hp : p < 512) (g : Nat) : TripStep p s (s.guardPair p g) :=
  .ite (fun _ => .refl p s) fun _ => .ite (fun _ => s.guardHit_step hp ..) fun _ => .ite (fun _ => s.guardHit_step hp ..) fun _ => .refl p s

theorem State.guardA_iff (g : Nat) : s.guardA p = some g ↔
    s.bit (Reg.SLV_PAIR_CFG (p / 16) (p % 16)) 1 = true ∧ s.fld (Reg.SLV_PAIR_CFG (p / 16) (p % 16)) 2 3 = g := by
  unfold State.guardA
  dsimp only
  split
  · next h => simp [h]
  · next h => simp [h]

theorem State.guardB_iff (g : Nat) : s.guardB p = some g ↔
    s.bit (Reg.SLV_PAIR_CFG (p / 16) (p % 16)) 5 = true ∧ s.fld (Reg.SLV_PAIR_CFG (p / 16) (p % 16)) 6 3 = g := by
  unfold State.guardB
  dsimp only
  split
  · next h => simp [h]
  · next h => simp [h]

/-- Leg A names the input. -/
def State.namesA (s : State) (p g : Nat) : Prop := s.pairEn p = true ∧ s.guardA p = some g

/-- Leg B alone names the input. -/
def State.namesB (s : State) (p g : Nat) : Prop := s.pairEn p = true ∧ s.guardB p = some g ∧ ¬s.namesA p g

theorem State.guardPair_none {g : Nat} (ha : ¬s.namesA p g) (hb : ¬s.namesB p g) : s.guardPair p g = s := by
  unfold State.guardPair
  split
  · rfl
  next hen =>
  have hpair : s.pairEn p = true := by simpa using hen
  rw [if_neg fun h => ha ⟨hpair, h⟩, if_neg fun h => hb ⟨hpair, h, ha⟩]

theorem State.guardPair_named {g : Nat} {legB : Bool} (h : if legB then s.namesB p g else s.namesA p g) :
    s.guardPair p g = s.guardHit p g legB := by
  unfold State.guardPair
  cases legB with
  | false =>
    obtain ⟨hen, ha⟩ : s.namesA p g := h
    rw [if_neg (by simp [hen]), if_pos ha]
  | true =>
    obtain ⟨hen, hb, ha⟩ : s.namesB p g := h
    rw [if_neg (by simp [hen]), if_neg fun h => ha ⟨hen, h⟩, if_pos hb]

end Pair

/-! ### The sleeve -/

theorem State.guardPairs_aside {p : Nat} (hp : p < 512) (g : Nat) {l : List Nat} (hl : ∀ j ∈ l, j < 16 ∧ j ≠ p % 16) (s : State) :
    PairAside p s (l.foldl (fun s j => s.guardPair (p / 16 * 16 + j) g) s) :=
  List.foldlRecOn (motive := fun u : State => PairAside p s u) l _ (.refl p s) fun u hu j hj => by
    obtain ⟨hlt, hne⟩ := hl j hj
    exact hu.trans ((u.guardPair_step (by omega) g).aside (by omega) (by omega))

/-- Where nothing waits at any pair of the sleeve, the assertion changes the fields of a trip alone. -/
theorem State.guardPairs_still {n : Nat} (hn : n < 32) (g : Nat) {l : List Nat} (hl : ∀ j ∈ l, j < 16) (s : State)
    (hq : ∀ j < 16, (s.cuff (2 * (n * 16 + j))).fifo = []) :
    TripStill s (l.foldl (fun s j => s.guardPair (n * 16 + j) g) s) :=
  List.foldlRecOn (motive := fun u : State => TripStill s u) l _ (.refl s) fun u hu j hj =>
    hu.trans ((u.guardPair_step (by have := hl j hj; omega) g).still ((hu.fifo _).trans (hq j (hl j hj))))

/-- The pairs before one, the pair itself, and those after it. -/
theorem range_split {i : Nat} (hi : i < 16) : ∃ l m, List.range 16 = l ++ i :: m ∧ (∀ j ∈ l, j < 16 ∧ j ≠ i) ∧ ∀ j ∈ m, j < 16 ∧ j ≠ i := by
  obtain ⟨l, m, h⟩ := List.append_of_mem (List.mem_range.mpr hi)
  have hnd : (l ++ i :: m).Nodup := h ▸ List.nodup_range
  have hlt (j : Nat) (hj : j ∈ l ++ i :: m) : j < 16 := List.mem_range.mp (h ▸ hj)
  obtain ⟨-, hm, hd⟩ := List.nodup_append.mp hnd
  refine ⟨l, m, h, fun j hj => ⟨hlt j (List.mem_append_left _ hj), hd j hj i (List.mem_cons_self ..)⟩,
    fun j hj => ⟨hlt j (List.mem_append_right _ (List.mem_cons_of_mem _ hj)), fun e => ?_⟩⟩
  exact (List.nodup_cons.mp hm).1 (e ▸ hj)

end Sys2Proof.Machine

/-! O16: GUARD_ASSERT, GUARD_RELEASE and BLANKING_END (R66-R69). -/

namespace Sys2Proof.Machine

open Sys2Proof

/-! ### An assertion, as one pair sees it -/

/-- The input stands: the pairs are looked at in this state. -/
def State.guardStands (s : State) (n g : Nat) : State := s.setBit (Reg.SLV_GDSTATE n) g true

/-- What the pair `p` sees of an assertion of the input `g` of its sleeve: `u` is the state it looks at, `t` the state after. -/
structure Asserted (p g : Nat) (s u t : State) : Prop where
  before : PairAside p (s.guardStands (p / 16) g) u
  after : PairAside p (u.guardPair p g) t

theorem State.guardOn_asserted {s : State} {p g : Nat} (hp : p < 512) (h : s.bit (Reg.SLV_GDSTATE (p / 16)) g = false) :
    ∃ u, Asserted p g s u (s.guardOn (p / 16) g) := by
  obtain ⟨l, m, hrange, hl, hm⟩ := range_split (Nat.mod_lt p (show 16 > 0 by decide))
  obtain ⟨u, hu⟩ : ∃ u, u = l.foldl (fun s j => s.guardPair (p / 16 * 16 + j) g) (s.guardStands (p / 16) g) := ⟨_, rfl⟩
  refine ⟨u, hu ▸ State.guardPairs_aside hp g hl _, ?_⟩
  have hon : s.guardOn (p / 16) g = m.foldl (fun s j => s.guardPair (p / 16 * 16 + j) g) (u.guardPair p g) := by
    have hself : p / 16 * 16 + p % 16 = p := by omega
    refine (if_neg (by simp [h])).trans ?_
    show List.foldl _ (s.guardStands (p / 16) g) (List.range 16) = _
    rw [hrange, List.foldl_append, List.foldl_cons, ← hu, hself]
  exact hon ▸ State.guardPairs_aside hp g hm _

section Pair
variable {s u t : State} {p g : Nat} (h : Asserted p g s u t) (hp : p < 512) (hg : g < 8)

theorem stands_reg (s : State) (p g : Nat) {k : Nat} (hk : k ≠ Reg.SLV_GDSTATE (p / 16)) : (s.guardStands (p / 16) g).reg k = s.reg k :=
  s.reg_setBit_other hk g true

include h

/-- What the pair looks at is as before the assertion. -/
theorem Asserted.seen : (∀ k, IsSetting k → k ∉ tripRegs (p / 16) → u.reg k = s.reg k) ∧ u.tripped p = s.tripped p ∧
    u.bit (Reg.SLV_TRIP (p / 16)) (16 + p % 16) = s.bit (Reg.SLV_TRIP (p / 16)) (16 + p % 16) ∧ u.bridged p = s.bridged p ∧
    u.pairSt p = s.pairSt p ∧ u.tick = s.tick ∧ ∀ c, c = 2 * p ∨ c = 2 * p + 1 → ∃ l, u.cuff c = { s.cuff c with fifo := l } where
  left k hk hn := (h.before.reg k hk hn).trans (stands_reg s p g fun e => hn (e ▸ by simp [tripRegs]))
  right := ⟨h.before.tripped.trans (State.bit_of_reg (stands_reg s p g (by simp)) _),
    h.before.cause.trans (State.bit_of_reg (stands_reg s p g (by simp)) _),
    h.before.bridged.trans (State.bit_of_reg (stands_reg s p g (by simp)) _), h.before.pairSt, h.before.tick, h.before.cuff⟩

include hp

theorem Asserted.names : (u.namesA p g ↔ s.namesA p g) ∧ (u.namesB p g ↔ s.namesB p g) := by
  have hcfg : u.reg (Reg.SLV_PAIR_CFG (p / 16) (p % 16)) = s.reg (Reg.SLV_PAIR_CFG (p / 16) (p % 16)) :=
    h.seen.1 _ (by simp only [IsSetting, Reg.SLV_PAIR_CFG]; omega)
      (by simp only [tripRegs, Reg.SLV_PAIR_CFG, Reg.SLV_GDSTATE, Reg.SLV_TRIP, Reg.SLV_BRIDGE, Reg.PG_ERR_INFO, slvPage,
            List.mem_cons, List.not_mem_nil, or_false]; omega)
  have ha : u.namesA p g ↔ s.namesA p g := by
    simp only [State.namesA, State.guardA_iff, State.pairEn, State.bit_of_reg hcfg, State.fld_of_reg hcfg]
  refine ⟨ha, ?_⟩
  rw [State.namesB, State.namesB, ha]
  simp only [State.guardB_iff, State.pairEn, State.bit_of_reg hcfg, State.fld_of_reg hcfg]

omit hp in
theorem Asserted.blanks : u.inBlanking p = true ↔ ∃ e, (s.pairSt p).blankEnd = some e ∧ s.tick < e := by
  obtain ⟨-, -, -, -, hpair, htick, -⟩ := h.seen
  rw [State.inBlanking_iff, hpair, htick]

/-- Nothing of the pair changes that a trip changes. -/
def PairSame (p : Nat) (s t : State) : Prop := t.tripped p = s.tripped p ∧ t.bridged p = s.bridged p ∧ t.pairSt p = s.pairSt p ∧
  ∀ c, c = 2 * p ∨ c = 2 * p + 1 → (t.cuff c).driven = (s.cuff c).driven ∧ (t.cuff c).level = (s.cuff c).level ∧
    (t.cuff c).apron = (s.cuff c).apron

/-- A trip of the pair shows (R66). -/
def TripShown (p : Nat) (s t : State) (causeB : Bool) : Prop := t.tripped p = true ∧ t.bit (Reg.SLV_TRIP (p / 16)) (16 + p % 16) = causeB ∧
  (t.pairSt p).st = 0 ∧ ∀ c, c = 2 * p ∨ c = 2 * p + 1 → (t.cuff c).apTrip = true ∧
    ((s.cuff c).apron = false → (t.cuff c).atApron (s.fld (Reg.CUF_CFG c) 4 2))

omit hp in
/-- Nothing the pair does: it is as before. -/
theorem Asserted.same {v : State} (hv : u.guardPair p g = v) (hs : v.tripped p = u.tripped p ∧ v.bridged p = u.bridged p ∧
    v.pairSt p = u.pairSt p ∧ v.cuffs = u.cuffs) : PairSame p s t := by
  obtain ⟨-, hutrip, -, hubridge, hupair, -, hucuff⟩ := h.seen
  have hafter := h.after
  rw [hv] at hafter
  obtain ⟨h1, h2, h3, h4⟩ := hs
  refine ⟨(hafter.tripped.trans h1).trans hutrip, (hafter.bridged.trans h2).trans hubridge, (hafter.pairSt.trans h3).trans hupair, fun c hc => ?_⟩
  obtain ⟨l, hl⟩ := hucuff c hc
  obtain ⟨l', hl'⟩ := hafter.cuff c hc
  rw [hl', State.cuff_congr h4, hl]
  exact ⟨rfl, rfl, rfl⟩

/-- The pair trips. -/
theorem Asserted.trips {bridge causeB : Bool} (hv : u.guardPair p g = u.tripPair p bridge causeB g) : t.tripped p = true ∧
    t.bridged p = (bridge || s.bridged p) ∧ t.srcPend (0x3000 + 4 * (p / 16) + b2n bridge) = true ∧
    (s.tripped p = false → TripShown p s t causeB) := by
  obtain ⟨hureg, hutrip, -, hubridge, -, -, hucuff⟩ := h.seen
  have hafter := h.after
  rw [hv] at hafter
  have htrip := u.tripPair_spec hp bridge causeB g
  have hb : b2n bridge < 2 := by cases bridge <;> decide
  refine ⟨hafter.tripped.trans htrip.tripped, hafter.bridged.trans (htrip.bridged.trans (congrArg (bridge || ·) hubridge)),
    hafter.pend.kept _ (by omega) htrip.srcPend, fun hs => ⟨hafter.tripped.trans htrip.tripped, ?_, ?_, fun c hc => ?_⟩⟩
  · rw [hafter.cause, htrip.cause, hutrip, if_neg (by simp [hs])]
  · rw [hafter.pairSt, htrip.st]
  · obtain ⟨l, hl⟩ := hucuff c hc
    obtain ⟨l', hl'⟩ := hafter.cuff c hc
    have hcfg : u.reg (Reg.CUF_CFG c) = s.reg (Reg.CUF_CFG c) := by
      have hoff : Reg.CUF_CFG c % 0x1000 = 0x400 + c % 32 * 0x60 := by
        simp only [Reg.CUF_CFG]
        omega
      refine hureg _ ?_ ?_
      · rw [IsSetting, hoff]
        simp only [Reg.CUF_CFG]
        omega
      · simp only [tripRegs, Reg.CUF_CFG, Reg.SLV_GDSTATE, Reg.SLV_TRIP, Reg.SLV_BRIDGE, Reg.PG_ERR_INFO, slvPage,
          List.mem_cons, List.not_mem_nil, or_false]
        omega
    rw [hl']
    refine ⟨htrip.apTrip c hc, fun hap => ?_⟩
    rw [← State.fld_of_reg hcfg]
    exact htrip.level c hc (by rw [hl]; exact hap)

/-- What an assertion does to one pair (R66, R68, R69). -/
theorem Asserted.clauses (causeB : Bool) (hname : if causeB then s.namesB p g else s.namesA p g) :
    let blanking := ∃ e, (s.pairSt p).blankEnd = some e ∧ s.tick < e
    (blanking → PairSame p s t ∧ t.bit (Reg.SLV_GDSTATE (p / 16)) (16 + p % 16) = true) ∧
    (¬blanking → s.tripped p = false → TripShown p s t causeB ∧ t.bridged p = s.bridged p ∧ t.srcPend (0x3000 + 4 * (p / 16)) = true) ∧
    (¬blanking → s.tripped p = true → s.bit (Reg.SLV_TRIP (p / 16)) (16 + p % 16) = causeB → PairSame p s t) ∧
    (¬blanking → s.tripped p = true → s.bit (Reg.SLV_TRIP (p / 16)) (16 + p % 16) ≠ causeB →
      t.tripped p = true ∧ t.bridged p = true ∧ t.srcPend (0x3000 + 4 * (p / 16) + 1) = true) := by
  intro blanking
  obtain ⟨hnA, hnB⟩ := h.names hp
  obtain ⟨-, hutrip, hucause, -⟩ := h.seen
  have hblank : u.inBlanking p = true ↔ blanking := h.blanks
  have hpair : u.guardPair p g = u.guardHit p g causeB := u.guardPair_named (by
    cases causeB with
    | false => exact hnA.mpr hname
    | true => exact hnB.mpr hname)
  refine ⟨fun hb => ?_, fun hb ht => ?_, fun hb ht hc => ?_, fun hb ht hc => ?_⟩
  · have hset := hpair.trans (u.guardHit_blanking (hblank.mpr hb) g causeB)
    refine ⟨h.same hset ⟨State.bit_of_reg (u.reg_setBit_other (by simp) _ _) _, State.bit_of_reg (u.reg_setBit_other (by simp) _ _) _, rfl, rfl⟩, ?_⟩
    have hafter := h.after
    rw [hset] at hafter
    exact hafter.waits.trans (u.bit_setBit_same _ _ true (by omega))
  · obtain ⟨-, hbridge, hpend, hshown⟩ := h.trips hp
      (hpair.trans (u.guardHit_trip (fun e => hb (hblank.mp e)) (hutrip.trans ht) g causeB))
    exact ⟨hshown ht, hbridge, hpend⟩
  · exact h.same (hpair.trans (u.guardHit_again (fun e => hb (hblank.mp e)) (hutrip.trans ht) (hucause.trans hc) g)) ⟨rfl, rfl, rfl, rfl⟩
  · obtain ⟨htrip, hbridge, hpend, -⟩ := h.trips hp
      (hpair.trans (u.guardHit_bridge (fun e => hb (hblank.mp e)) (hutrip.trans ht) (fun e => hc (hucause.symm.trans e)) g))
    exact ⟨htrip, hbridge, hpend⟩

end Pair

end Sys2Proof.Machine

/-! O16: the end of blanking, and the rows together (R66-R70). -/

namespace Sys2Proof.Machine

open Sys2Proof

/-! ### The end of blanking (R68, R69) -/

section Blanking
variable (s : State) {p : Nat} (hp : p < 512)

/-- Blanking is over, and what waited for its end is forgotten. -/
def State.unblanked (s : State) (p : Nat) : State :=
  (s.setPairSt p { s.pairSt p with blankEnd := none }).setBit (Reg.SLV_GDSTATE (p / 16)) (16 + p % 16) false

/-- The guard of leg B stands, and it is not leg A's. -/
def State.guardUpB (s : State) (p : Nat) : Bool := s.guardUp p (s.guardB p) && !(s.guardA p == s.guardB p)

/-- What the pair does when blanking ends. -/
def State.looksAgain (u : State) (p : Nat) (looks a b : Bool) : State :=
  if looks = false then u
  else if a ∧ b then u.tripPair p true false ((u.guardA p).getD 0)
  else if a then u.guardHit p ((u.guardA p).getD 0) false
  else if b then u.guardHit p ((u.guardB p).getD 0) true
  else u

theorem State.blankEnds_eq {e : Nat} (h : (s.pairSt p).blankEnd = some e) (he : e ≤ s.tick) : s.blankEnds p =
    (s.unblanked p).looksAgain p (s.bit (Reg.SLV_GDSTATE (p / 16)) (16 + p % 16) && (s.unblanked p).pairEn p)
      ((s.unblanked p).guardUp p ((s.unblanked p).guardA p)) ((s.unblanked p).guardUpB p) := by
  unfold State.blankEnds
  rw [h]
  dsimp only
  rw [if_neg (by omega)]
  unfold State.looksAgain
  refine if_congr ?_ rfl rfl
  rw [Bool.and_eq_false_iff]
  rfl

include hp

theorem State.unblanked_spec : let u := s.unblanked p
    TripStep p s u ∧ u.cuffs = s.cuffs ∧ (u.pairSt p).blankEnd = none ∧ u.bit (Reg.SLV_GDSTATE (p / 16)) (16 + p % 16) = false ∧
    (∀ b < 16, u.bit (Reg.SLV_GDSTATE (p / 16)) b = s.bit (Reg.SLV_GDSTATE (p / 16)) b) ∧
    (∀ k, k ≠ Reg.SLV_GDSTATE (p / 16) → u.reg k = s.reg k) := by
  intro u
  obtain ⟨v, hv⟩ : ∃ v, v = s.setPairSt p { s.pairSt p with blankEnd := none } := ⟨_, rfl⟩
  have hu : u = v.setBit (Reg.SLV_GDSTATE (p / 16)) (16 + p % 16) false := by rw [hv]; rfl
  have hsv : TripStep p s v := hv ▸ s.setPairSt_tripStep _
  have hvreg (k : Nat) : v.reg k = s.reg k := hv ▸ rfl
  have hvpair : (v.pairSt p).blankEnd = none := by
    rw [hv, State.pairSt_setPairSt, if_pos rfl]
  have hcuffs : v.cuffs = s.cuffs := hv ▸ rfl
  have hureg (k : Nat) (hk : k ≠ Reg.SLV_GDSTATE (p / 16)) : u.reg k = s.reg k := by
    rw [hu, v.reg_setBit_other hk _ false, hvreg]
  refine ⟨hsv.trans (hu ▸ v.setGd_tripStep hp false), hu ▸ hcuffs, hu ▸ hvpair, hu ▸ v.bit_setBit_same _ _ false (by omega), fun b hb => ?_, hureg⟩
  rw [hu, v.bit_setBit_apart _ _ b false (by omega) (by omega), State.bit_of_reg (hvreg _)]

theorem State.looksAgain_step (looks a b : Bool) : TripStep p s (s.looksAgain p looks a b) :=
  .ite (fun _ => .refl p s) fun _ => .ite (fun _ => (s.tripPair_spec hp ..).step) fun _ =>
    .ite (fun _ => s.guardHit_step hp ..) fun _ => .ite (fun _ => s.guardHit_step hp ..) fun _ => .refl p s

end Blanking

section Looks
variable {p : Nat}

/-- After a look, the guard inputs stand as before, and blanking stays over. -/
def LookKept (p : Nat) (u t : State) : Prop :=
  t.reg (Reg.SLV_GDSTATE (p / 16)) = u.reg (Reg.SLV_GDSTATE (p / 16)) ∧ (t.pairSt p).blankEnd = (u.pairSt p).blankEnd

theorem Tripped.look {bridge causeB : Bool} {u t : State} (h : Tripped p bridge causeB u t) : LookKept p u t := ⟨h.gd, h.blankEnd⟩

theorem State.inBlanking_over {u : State} (h : (u.pairSt p).blankEnd = none) : u.inBlanking p ≠ true := by
  intro hb
  obtain ⟨e, he, -⟩ := (u.inBlanking_iff p).mp hb
  rw [h] at he
  simp at he

theorem State.guardHit_look {u : State} (hp : p < 512) (h : (u.pairSt p).blankEnd = none) (g : Nat) (legB : Bool) :
    LookKept p u (u.guardHit p g legB) := by
  unfold State.guardHit
  rw [if_neg (State.inBlanking_over h)]
  split
  · split
    · exact ⟨rfl, rfl⟩
    · exact (u.tripPair_spec hp ..).look
  · exact (u.tripPair_spec hp ..).look

theorem State.looksAgain_look {u : State} (hp : p < 512) (h : (u.pairSt p).blankEnd = none) (looks a b : Bool) :
    LookKept p u (u.looksAgain p looks a b) := by
  unfold State.looksAgain
  split
  · exact ⟨rfl, rfl⟩
  split
  · exact (u.tripPair_spec hp ..).look
  split
  · exact u.guardHit_look hp h ..
  split
  · exact u.guardHit_look hp h ..
  · exact ⟨rfl, rfl⟩

/-- A trip of a pair that had not tripped shows. -/
theorem Tripped.shown {bridge causeB : Bool} {u t : State} (h : Tripped p bridge causeB u t) (hu : u.tripped p = false) :
    TripShown p u t causeB :=
  ⟨h.tripped, by rw [h.cause, if_neg (by simp [hu])], h.st, fun c hc => ⟨h.apTrip c hc, h.level c hc⟩⟩

/-- What a trip shows against a state with the same outputs and configurations. -/
theorem TripShown.congr {s u t : State} {causeB : Bool} (h : TripShown p u t causeB) (hc : u.cuffs = s.cuffs)
    (hr : ∀ c, u.reg (Reg.CUF_CFG c) = s.reg (Reg.CUF_CFG c)) : TripShown p s t causeB := by
  obtain ⟨h1, h2, h3, h4⟩ := h
  refine ⟨h1, h2, h3, fun c hcp => ⟨(h4 c hcp).1, fun hap => ?_⟩⟩
  rw [← State.fld_of_reg (hr c)]
  exact (h4 c hcp).2 (by rw [State.cuff_congr hc, hap])

/-- What a pair does that looks at its guards when blanking ends, with no blanking left (R68, R69). -/
theorem State.looksAgain_clauses {u : State} (hp : p < 512) (h : (u.pairSt p).blankEnd = none) (looks a b : Bool) :
    let t := u.looksAgain p looks a b
    (¬(looks = true ∧ (a = true ∨ b = true)) → t = u) ∧
    (looks = true → u.tripped p = false → a = true → b = false → TripShown p u t false ∧ t.bridged p = u.bridged p) ∧
    (looks = true → u.tripped p = false → b = true → a = false → TripShown p u t true ∧ t.bridged p = u.bridged p) ∧
    (looks = true → u.tripped p = false → a = true → b = true → TripShown p u t false ∧ t.bridged p = true ∧
      t.fld (Reg.PG_ERR_INFO (slvPage (p / 16))) 0 8 = Code.bridgeShort ∧
      t.fld (Reg.PG_ERR_INFO (slvPage (p / 16))) 8 4 = p % 16) := by
  have hover := State.inBlanking_over h
  refine ⟨fun hno => ?_, fun hl ht ha hb => ?_, fun hl ht hb ha => ?_, fun hl ht ha hb => ?_⟩
  · unfold State.looksAgain
    cases looks with
    | false => exact if_pos rfl
    | true =>
      have hno' : a = false ∧ b = false := by simpa using hno
      simp [hno']
  · have htrip := u.tripPair_spec hp false false ((u.guardA p).getD 0)
    have hrun : u.looksAgain p looks a b = u.tripPair p false false ((u.guardA p).getD 0) := by
      simp only [State.looksAgain, hl, ha, hb]
      exact u.guardHit_trip hover ht ..
    rw [hrun]
    exact ⟨htrip.shown ht, htrip.bridged⟩
  · have htrip := u.tripPair_spec hp false true ((u.guardB p).getD 0)
    have hrun : u.looksAgain p looks a b = u.tripPair p false true ((u.guardB p).getD 0) := by
      simp only [State.looksAgain, hl, ha, hb]
      exact u.guardHit_trip hover ht ..
    rw [hrun]
    exact ⟨htrip.shown ht, htrip.bridged⟩
  · have htrip := u.tripPair_spec hp true false ((u.guardA p).getD 0)
    have hrun : u.looksAgain p looks a b = u.tripPair p true false ((u.guardA p).getD 0) := by
      simp only [State.looksAgain, hl, ha, hb]
      rfl
    rw [hrun]
    exact ⟨htrip.shown ht, htrip.bridged, htrip.info⟩

end Looks

/-! ### The rows -/

section Rows
variable (s : State)

theorem exec_guardAssert {n g : Nat} (hn : n < 32) (hg : g < 8) : exec (.guardAssert n g) s = .next (s.guardOn n g) :=
  onUnit_of (by simp [okSleeve, okGuard, hn, hg]) _

theorem exec_guardRelease {n g : Nat} (hn : n < 32) (hg : g < 8) :
    exec (.guardRelease n g) s = .next (s.setBit (Reg.SLV_GDSTATE n) g false) := onUnit_of (by simp [okSleeve, okGuard, hn, hg]) _

theorem exec_blankingEnd {p : Nat} (hp : p < 512) : exec (.blankingEnd p) s = .next (s.blankEnds p) :=
  onUnit_of (by simp [okPair, hp]) _

theorem State.blankEnds_early {p : Nat} (h : (s.pairSt p).blankEnd = none ∨ ∃ e, (s.pairSt p).blankEnd = some e ∧ s.tick < e) :
    s.blankEnds p = s := by
  unfold State.blankEnds
  split
  · rfl
  · next e he =>
    refine if_pos ?_
    obtain h | ⟨e', he', hlt⟩ := h
    · simp [h] at he
    · rw [he] at he'
      simp_all

/-- An assertion writes no register of another sleeve's guards and trips. -/
theorem State.guardOn_others {n g m k : Nat} (hn : n < 32) (hne : m ≠ n) (hm : m < 32)
    (hk : k = Reg.SLV_TRIP m ∨ k = Reg.SLV_GDSTATE m) : (s.guardOn n g).reg k = s.reg k := by
  have hset : IsSetting k := by
    simp only [Reg.SLV_TRIP, Reg.SLV_GDSTATE] at hk
    simp only [IsSetting]
    omega
  have hapart : k ∉ tripRegs n := by
    simp only [Reg.SLV_TRIP, Reg.SLV_GDSTATE] at hk
    simp only [tripRegs, Reg.SLV_GDSTATE, Reg.SLV_TRIP, Reg.SLV_BRIDGE, Reg.PG_ERR_INFO, slvPage, List.mem_cons, List.not_mem_nil, or_false]
    omega
  have hpairs : ∀ l : List Nat, (∀ j ∈ l, j < 16) → ∀ u : State,
      (l.foldl (fun s j => s.guardPair (n * 16 + j) g) u).reg k = u.reg k := fun l hl u =>
    List.foldlRecOn (motive := fun v : State => v.reg k = u.reg k) l _ rfl fun v hv j hj => by
      have hj' := hl j hj
      have hdiv : (n * 16 + j) / 16 = n := by omega
      exact ((v.guardPair_step (p := n * 16 + j) (by omega) g).reg k hset (by rwa [hdiv])).trans hv
  unfold State.guardOn
  split
  · rfl
  · refine (hpairs _ (fun j hj => List.mem_range.mp hj) _).trans (s.reg_setBit_other (fun e : k = Reg.SLV_GDSTATE n => hapart (by simp [tripRegs, e])) g true)

end Rows

section Clauses
variable (s : State) {p : Nat} (hp : p < 512)
include hp

/-- What GUARD_ASSERT does (R66-R69). -/
theorem State.guardOn_clauses {g : Nat} (hg : g < 8) (h : s.bit (Reg.SLV_GDSTATE (p / 16)) g = false) :
    let t := s.guardOn (p / 16) g
    let blanking := ∃ e, (s.pairSt p).blankEnd = some e ∧ s.tick < e
    t.bit (Reg.SLV_GDSTATE (p / 16)) g = true ∧
    (¬s.namesA p g → ¬s.namesB p g → PairSame p s t) ∧
    (∀ causeB : Bool, (if causeB then s.namesB p g else s.namesA p g) →
      (blanking → PairSame p s t ∧ t.bit (Reg.SLV_GDSTATE (p / 16)) (16 + p % 16) = true) ∧
      (¬blanking → s.tripped p = false → TripShown p s t causeB ∧ t.bridged p = s.bridged p ∧ t.srcPend (0x3000 + 4 * (p / 16)) = true) ∧
      (¬blanking → s.tripped p = true → s.bit (Reg.SLV_TRIP (p / 16)) (16 + p % 16) = causeB → PairSame p s t) ∧
      (¬blanking → s.tripped p = true → s.bit (Reg.SLV_TRIP (p / 16)) (16 + p % 16) ≠ causeB →
        t.tripped p = true ∧ t.bridged p = true ∧ t.srcPend (0x3000 + 4 * (p / 16) + 1) = true)) ∧
    ((∀ j < 16, (s.cuff (2 * (p / 16 * 16 + j))).fifo = []) →
      t = { s with out := t.out, regs := t.regs, cuffs := t.cuffs, pairs := t.pairs, fns := t.fns, link := t.link, srcs := t.srcs,
                   vecs := t.vecs }) := by
  intro t blanking
  obtain ⟨u, hu⟩ := s.guardOn_asserted hp h
  obtain ⟨hnA, hnB⟩ := hu.names hp
  refine ⟨?_, fun hA hB => hu.same (u.guardPair_none (fun e => hA (hnA.mp e)) fun e => hB (hnB.mp e)) ⟨rfl, rfl, rfl, rfl⟩,
    fun causeB hname => hu.clauses hp causeB hname, fun hq => State.eq_of_wipe_tripping ?_⟩
  · have hmid := (u.guardPair_step hp g).gd g (by omega) (by omega)
    exact (hu.after.input g (by omega)).trans (hmid.trans ((hu.before.input g (by omega)).trans (s.bit_setBit_same _ _ true (by omega))))
  · have hstill := State.guardPairs_still (n := p / 16) (by omega) g (l := List.range 16) (fun j hj => List.mem_range.mp hj)
      (s.guardStands (p / 16) g) hq
    have hon : t = (List.range 16).foldl (fun s j => s.guardPair (p / 16 * 16 + j) g) (s.guardStands (p / 16) g) := if_neg (by simp [h])
    rw [hon, hstill.wipe]
    exact s.setBit_wipe _ _ _ _ (by decide)

/-- What BLANKING_END does once blanking is over (R68, R69). -/
theorem State.blankEnds_clauses {e : Nat} (h : (s.pairSt p).blankEnd = some e) (he : e ≤ s.tick) :
    let cfg := Reg.SLV_PAIR_CFG (p / 16) (p % 16)
    let gd := Reg.SLV_GDSTATE (p / 16)
    let a := s.bit cfg 1 = true ∧ s.bit gd (s.fld cfg 2 3) = true
    let b := s.bit cfg 5 = true ∧ s.bit gd (s.fld cfg 6 3) = true ∧ ¬(s.bit cfg 1 = true ∧ s.fld cfg 2 3 = s.fld cfg 6 3)
    let looks := s.bit gd (16 + p % 16) = true ∧ s.bit cfg 0 = true
    let t := s.blankEnds p
    t.bit gd (16 + p % 16) = false ∧ (t.pairSt p).blankEnd = none ∧
    (¬(looks ∧ (a ∨ b)) → t.tripped p = s.tripped p ∧ t.cuffs = s.cuffs) ∧
    (looks → s.tripped p = false → a → ¬b → TripShown p s t false ∧ t.bridged p = s.bridged p) ∧
    (looks → s.tripped p = false → b → ¬a → TripShown p s t true ∧ t.bridged p = s.bridged p) ∧
    (looks → s.tripped p = false → a → b → TripShown p s t false ∧ t.bridged p = true ∧
      t.fld (Reg.PG_ERR_INFO (slvPage (p / 16))) 0 8 = 0x18 ∧ t.fld (Reg.PG_ERR_INFO (slvPage (p / 16))) 8 4 = p % 16) ∧
    ((s.cuff (2 * p)).fifo = [] →
      t = { s with out := t.out, regs := t.regs, cuffs := t.cuffs, pairs := t.pairs, fns := t.fns, link := t.link, srcs := t.srcs,
                   vecs := t.vecs }) := by
  intro cfg gd a b looks t
  obtain ⟨hstep, hcuffs, hnone, hgd, hinput, hreg⟩ := s.unblanked_spec hp
  obtain ⟨u, hu⟩ : ∃ u, u = s.unblanked p := ⟨_, rfl⟩
  obtain ⟨looks', hlooks'⟩ : ∃ x, x = (s.bit gd (16 + p % 16) && u.pairEn p) := ⟨_, rfl⟩
  obtain ⟨a', ha'⟩ : ∃ x, x = u.guardUp p (u.guardA p) := ⟨_, rfl⟩
  obtain ⟨b', hb'⟩ : ∃ x, x = u.guardUpB p := ⟨_, rfl⟩
  have ht : t = u.looksAgain p looks' a' b' := by
    rw [hlooks', ha', hb', hu]
    exact s.blankEnds_eq h he
  rw [← hu] at hstep hcuffs hnone hgd hinput hreg
  have hcfg : u.reg cfg = s.reg cfg := hreg cfg (by simp only [cfg, Reg.SLV_PAIR_CFG, Reg.SLV_GDSTATE]; omega)
  have hfld (lo : Nat) : s.fld cfg lo 3 < 16 := Nat.lt_of_lt_of_le (Nat.mod_lt _ (by decide)) (by decide)
  have hlook : looks' = true ↔ looks := by
    rw [hlooks', Bool.and_eq_true, State.pairEn, State.bit_of_reg hcfg]
  obtain ⟨hga, hgb⟩ := u.guardUp_iff p
  have ha : a' = true ↔ a := by
    rw [ha', hga, State.bit_of_reg hcfg, State.fld_of_reg hcfg, hinput _ (hfld _)]
  have hb : b' = true ↔ b := by
    rw [hb', State.guardUpB, Bool.and_eq_true, hgb, State.bit_of_reg hcfg, State.fld_of_reg hcfg, hinput _ (hfld _), and_assoc]
    refine and_congr_right fun h5 => and_congr_right fun _ => ?_
    have hB : u.guardB p = some (s.fld cfg 6 3) :=
      (u.guardB_iff _).mpr ⟨(State.bit_of_reg hcfg 5).trans h5, State.fld_of_reg hcfg 6 3⟩
    have hA : u.guardA p = some (s.fld cfg 6 3) ↔ s.bit cfg 1 = true ∧ s.fld cfg 2 3 = s.fld cfg 6 3 := by
      rw [u.guardA_iff, State.bit_of_reg hcfg, State.fld_of_reg hcfg]
    rw [hB, ← hA]
    simp
  obtain ⟨hgd', hnone'⟩ := State.looksAgain_look hp hnone looks' a' b'
  obtain ⟨hidle, honlyA, honlyB, hboth⟩ := State.looksAgain_clauses hp hnone looks' a' b'
  have hutrip : u.tripped p = s.tripped p := State.bit_of_reg (hreg _ (by simp)) _
  have hubridge : u.bridged p = s.bridged p := State.bit_of_reg (hreg _ (by simp)) _
  have hcfgs (c : Nat) : u.reg (Reg.CUF_CFG c) = s.reg (Reg.CUF_CFG c) := hreg _ (by simp only [Reg.CUF_CFG, Reg.SLV_GDSTATE]; omega)
  rw [← ht] at hgd' hnone' hidle honlyA honlyB hboth
  refine ⟨(State.bit_of_reg hgd' _).trans hgd, hnone'.trans hnone, fun hno => ?_, fun hl hs h1 h2 => ?_, fun hl hs h1 h2 => ?_,
    fun hl hs h1 h2 => ?_, fun hq => State.eq_of_wipe_tripping ?_⟩
  · rw [hidle (by rw [hlook, ha, hb]; exact hno)]
    exact ⟨hutrip, hcuffs⟩
  · obtain ⟨hshown, hbridge⟩ := honlyA (hlook.mpr hl) (hutrip.trans hs) (ha.mpr h1) (Bool.eq_false_iff.mpr fun e => h2 (hb.mp e))
    exact ⟨hshown.congr hcuffs hcfgs, hbridge.trans hubridge⟩
  · obtain ⟨hshown, hbridge⟩ := honlyB (hlook.mpr hl) (hutrip.trans hs) (hb.mpr h1) (Bool.eq_false_iff.mpr fun e => h2 (ha.mp e))
    exact ⟨hshown.congr hcuffs hcfgs, hbridge.trans hubridge⟩
  · obtain ⟨hshown, hrest⟩ := hboth (hlook.mpr hl) (hutrip.trans hs) (ha.mpr h1) (hb.mpr h2)
    exact ⟨hshown.congr hcuffs hcfgs, hrest⟩
  · rw [ht]
    exact ((hstep.trans (u.looksAgain_step hp looks' a' b')).still hq).wipe

end Clauses

/-- Settles O16: a guard input acts on each pair of its sleeve apart from the others, and a trip is one step of its pair. -/
theorem guardsAndTrips : Obligations.GuardsAndTrips := by
  unfold Obligations.GuardsAndTrips
  intro s n i g hn hi hg p cfg gd namedA namedB blanking trips same quiet
  have hp : p < 512 := by omega
  have hdiv : p / 16 = n := by omega
  have hmod : p % 16 = i := by omega
  have hA : s.namesA p g ↔ namedA := by rw [State.namesA, State.guardA_iff, State.pairEn, hdiv, hmod]
  have hB : s.namesB p g ↔ namedB := by rw [State.namesB, hA, State.guardB_iff, State.pairEn, hdiv, hmod, and_assoc]
  have hshown (t : State) (causeB : Bool) : TripShown p s t causeB → trips t causeB := fun h => by
    rw [TripShown, hdiv, hmod] at h
    exact h
  refine ⟨fun h => ?_, fun h => ?_, exec_guardRelease s hn hg, fun h => ?_, fun e h he => ?_⟩
  · rw [exec_guardAssert s hn hg, State.guardOn, if_pos h]
  · obtain ⟨hset, hnone, hnamed, hframe⟩ := s.guardOn_clauses hp hg (by rw [hdiv]; exact h)
    rw [hdiv] at hset hnone hnamed hframe
    rw [hmod] at hnamed
    have hname (hn : namedA ∨ namedB) : if decide namedB then s.namesB p g else s.namesA p g := by
      by_cases h : namedB
      · rw [if_pos (decide_eq_true h)]
        exact hB.mpr h
      · rw [if_neg (by simp [h])]
        exact hA.mpr (hn.resolve_right h)
    refine ⟨_, exec_guardAssert s hn hg, hset, fun m hm hne => ⟨s.guardOn_others hn hne hm (.inl rfl), s.guardOn_others hn hne hm (.inr rfl)⟩,
      fun h1 h2 => hnone (fun e => h1 (hA.mp e)) fun e => h2 (hB.mp e), fun hn hb => (hnamed _ (hname hn)).1 hb, fun hn hb ht => ?_,
      fun hn hb ht hc => (hnamed _ (hname hn)).2.2.1 hb ht hc, fun hn hb ht hc => (hnamed _ (hname hn)).2.2.2 hb ht hc, hframe⟩
    obtain ⟨htrip, hrest⟩ := (hnamed _ (hname hn)).2.1 hb ht
    exact ⟨hshown _ _ htrip, hrest⟩
  · rw [exec_blankingEnd s hp, s.blankEnds_early h]
  · obtain ⟨hgd, hnone, hidle, honlyA, honlyB, hboth, hframe⟩ := s.blankEnds_clauses hp h he
    rw [hdiv, hmod] at hgd hidle honlyA honlyB hboth
    intro a b looks
    refine ⟨_, exec_blankingEnd s hp, hgd, hnone, hidle, fun hl ht h1 h2 => ?_, fun hl ht h1 h2 => ?_, fun hl ht h1 h2 => ?_,
      fun hq => hframe (hq i hi)⟩
    · obtain ⟨htrip, hrest⟩ := honlyA hl ht h1 h2
      exact ⟨hshown _ _ htrip, hrest⟩
    · obtain ⟨htrip, hrest⟩ := honlyB hl ht h1 h2
      exact ⟨hshown _ _ htrip, hrest⟩
    · obtain ⟨htrip, hrest⟩ := hboth hl ht h1 h2
      exact ⟨hshown _ _ htrip, hrest⟩

end Sys2Proof.Machine

/-! O17: a bank's supply (R48, R365, R367, R370): the sleeve that loses it, and its level. -/

namespace Sys2Proof.Machine

open Sys2Proof

/-! ### The cuffs of a sleeve stop and go to Apron -/

/-- The fields that a stopped engine and a cuff at Apron write. -/
abbrev stopping : Nat := 4131758546962

/-- What the stop of engines and the Apron of other cuffs leave of a cuff: all but its edges to come. -/
structure StopKept (c : Nat) (s t : State) : Prop where
  cuff : ∃ l, t.cuff c = { s.cuff c with edges := l }
  settings : SettingsKept s t
  wipe : t.wipe stopping = s.wipe stopping

section Rules
variable {c : Nat} {s t u : State}

theorem StopKept.refl (c : Nat) (s : State) : StopKept c s s := ⟨⟨_, rfl⟩, .refl s, rfl⟩

theorem StopKept.trans (h : StopKept c s t) (g : StopKept c t u) : StopKept c s u := by
  obtain ⟨⟨l, hl⟩, hs, hw⟩ := h
  obtain ⟨⟨l', hl'⟩, hs', hw'⟩ := g
  exact ⟨⟨l', by rw [hl', hl]⟩, hs.trans hs', hw'.trans hw⟩

theorem StopKept.foldl {α : Type} {g : State → α → State} {l : List α} (h : ∀ s, ∀ x ∈ l, StopKept c s (g s x)) (s : State) :
    StopKept c s (l.foldl g s) :=
  List.foldlRecOn (motive := fun u : State => StopKept c s u) l g (.refl c s) fun u hu x hx => hu.trans (h u x hx)

end Rules

section Steps
variable (s : State) (c : Nat)

theorem State.stopPio_kept (e : Nat) : StopKept c s (s.stopPio e) := by
  have hedges (u : State) (d : Nat) (f : Nat × Bool → Bool) :
      StopKept c u (u.setCuff d { u.cuff d with edges := (u.cuff d).edges.filter f }) := by
    refine ⟨?_, .of_regs rfl, u.setCuff_wipe _ _ _ (by decide)⟩
    rw [State.cuff_setCuff]
    split
    · next h => exact ⟨_, by rw [h]⟩
    · exact ⟨_, rfl⟩
  have hset (u : State) (k : Pio) : StopKept c u (u.setPio e k) := ⟨⟨_, rfl⟩, .of_regs rfl, u.setPio_wipe _ _ _ (by decide)⟩
  exact (StopKept.foldl (fun u d _ => hedges u d _) s).trans (hset _ _)

theorem State.apronStop_kept (d : Nat) : StopKept c s (s.apronStop d) := by
  have herr (u : State) (e : Nat) : StopKept c u (u.pioErr e 7) := by
    have hw : (u.pioErr e 7).wipe events = u.wipe events := (State.raise_wipe _ _ _ (by decide)).trans (State.setBit_wipe _ _ _ _ _ (by decide))
    have hset : SettingsKept u (u.pioErr e 7) :=
      (u.setTrue_settings (by simp only [IsSetting, Reg.PIO_ERR]; omega) (by decide)).trans (State.raise_settings ..)
    exact ⟨⟨_, State.cuff_congr (State.cuffs_of_wipe hw rfl) c⟩, hset, State.wipe_mono hw (by decide)⟩
  unfold State.apronStop
  split
  · split
    · exact .refl c s
    · exact (s.stopPio_kept c _).trans (herr _ _)
  · exact .refl c s

/-- One cuff of a sleeve whose bank faults. -/
def State.bankStop (d : Nat) : State := (s.apronStop d).toApron d .bank

theorem State.bankStop_other {d : Nat} (hd : d < 1024) (h : d ≠ c) : StopKept c s (s.bankStop d) := by
  have honly := (s.apronStop d).toApron_only (c := d) .bank
  exact (s.apronStop_kept c d).trans ⟨⟨_, honly.cuff c h.symm⟩, State.toApron_settings _ hd .bank, (congrArg (State.wipe stopping) honly.frame :)⟩

/-- The cuff holds Apron for its bank, with its FIFO as before (R48, R72). -/
structure BankHeld (c : Nat) (s t : State) : Prop where
  apBank : (t.cuff c).apBank = true
  fifo : (t.cuff c).fifo = (s.cuff c).fifo
  level : (s.cuff c).apron = false → (t.cuff c).atApron (s.fld (Reg.CUF_CFG c) 4 2)

theorem isSetting_cufCfg {c : Nat} (hc : c < 1024) : IsSetting (Reg.CUF_CFG c) := by
  have hoff : Reg.CUF_CFG c % 0x1000 = 0x400 + c % 32 * 0x60 := by
    simp only [Reg.CUF_CFG]
    omega
  rw [IsSetting, hoff]
  simp only [Reg.CUF_CFG]
  omega

theorem State.bankStop_self (hc : c < 1024) : BankHeld c s (s.bankStop c) ∧ SettingsKept s (s.bankStop c) ∧
    (s.bankStop c).wipe stopping = s.wipe stopping := by
  obtain ⟨⟨l, hl⟩, hset, hw⟩ := s.apronStop_kept c c
  obtain ⟨u, hu⟩ : ∃ u, u = s.apronStop c := ⟨_, rfl⟩
  have hrun : s.bankStop c = u.toApron c .bank := by rw [hu]; rfl
  rw [← hu] at hl hset hw
  rw [hrun]
  have honly := u.toApron_only (c := c) .bank
  have hstands := u.toApron_stands c .bank
  refine ⟨⟨congrArg Cuff.apBank hstands, ?_, fun hap => ?_⟩, hset.trans (u.toApron_settings hc .bank), (congrArg (State.wipe stopping) honly.frame :).trans hw⟩
  · have hfifo : ((u.toApron c .bank).cuff c).fifo = (u.cuff c).fifo := (congrArg Cuff.fifo hstands :)
    rw [hfifo, hl]
  · rw [← State.fld_of_reg (hset.reg _ (isSetting_cufCfg hc))]
    exact u.toApron_atApron c .bank (by rw [hl]; exact hap)

/-- What the stop of other cuffs leaves of one held for its bank. -/
theorem StopKept.held {c : Nat} {s t u v : State} (hst : StopKept c s t) (htu : BankHeld c t u) (huv : StopKept c u v) (hc : c < 1024) :
    BankHeld c s v := by
  obtain ⟨⟨l, hl⟩, hset, -⟩ := hst
  obtain ⟨⟨l', hl'⟩, -, -⟩ := huv
  obtain ⟨hbank, hfifo, hlevel⟩ := htu
  refine ⟨by rw [hl']; exact hbank, by rw [hl']; exact hfifo.trans (by rw [hl]), fun hap => ?_⟩
  rw [hl', ← State.fld_of_reg (hset.reg _ (isSetting_cufCfg hc))]
  exact hlevel (by rw [hl]; exact hap)

/-- The cuffs of a sleeve, one after the other: each holds Apron. -/
theorem State.bankStops_spec {l : List Nat} (hl : ∀ d ∈ l, d < 1024) (hnd : l.Nodup) : let t := l.foldl State.bankStop s
    (∀ c ∈ l, BankHeld c s t) ∧ SettingsKept s t ∧ t.wipe stopping = s.wipe stopping := by
  intro t
  have hframe : SettingsKept s t ∧ t.wipe stopping = s.wipe stopping :=
    List.foldlRecOn (motive := fun u : State => SettingsKept s u ∧ u.wipe stopping = s.wipe stopping) l _ ⟨.refl s, rfl⟩ fun u hu d hd => by
      obtain ⟨-, hset, hw⟩ := u.bankStop_self d (hl d hd)
      exact ⟨hu.1.trans hset, hw.trans hu.2⟩
  refine ⟨fun c hc => ?_, hframe⟩
  obtain ⟨a, b, hab⟩ := List.append_of_mem hc
  obtain ⟨-, hb, hd⟩ := List.nodup_append.mp (hab ▸ hnd)
  have hlt (d : Nat) (hd : d ∈ a ++ c :: b) : d < 1024 := hl d (hab ▸ hd)
  have hother (m : List Nat) (hm : ∀ d ∈ m, d < 1024 ∧ d ≠ c) (u : State) : StopKept c u (m.foldl State.bankStop u) :=
    .foldl (fun v d hd => v.bankStop_other c (hm d hd).1 (hm d hd).2) u
  have hrun : t = b.foldl State.bankStop ((a.foldl State.bankStop s).bankStop c) := by
    show l.foldl _ s = _
    rw [hab, List.foldl_append, List.foldl_cons]
  rw [hrun]
  refine (hother a (fun d hda => ⟨hlt d (List.mem_append_left _ hda), hd d hda c (List.mem_cons_self ..)⟩) s).held
    ((State.bankStop_self _ c (hl c hc)).1)
    (hother b (fun d hdb => ⟨hlt d (List.mem_append_right _ (List.mem_cons_of_mem _ hdb)), fun e => ?_⟩) _) (hl c hc)
  exact (List.nodup_cons.mp hb).1 (e ▸ hdb)

end Steps

end Sys2Proof.Machine

/-! O17: the level of a bank's supply, its fault and its return (R48, R363-R370). -/

namespace Sys2Proof.Machine

open Sys2Proof

/-! ### The level -/

section Level
variable (s : State)

/-- What a pad that follows its cuff leaves of it: its output, its FIFO and its causes. -/
structure PadKept (s t : State) : Prop where
  cuff : ∀ c, (t.cuff c).stands = (s.cuff c).stands ∧ (t.cuff c).driven = (s.cuff c).driven ∧ (t.cuff c).level = (s.cuff c).level
  frame : t = { s with cuffs := t.cuffs }

theorem PadKept.refl (s : State) : PadKept s s := ⟨fun _ => ⟨rfl, rfl, rfl⟩, rfl⟩

theorem PadKept.trans {s t u : State} (h : PadKept s t) (g : PadKept t u) : PadKept s u := by
  refine ⟨fun c => ?_, by rw [g.frame, h.frame]⟩
  obtain ⟨h1, h2, h3⟩ := h.cuff c
  obtain ⟨g1, g2, g3⟩ := g.cuff c
  exact ⟨g1.trans h1, g2.trans h2, g3.trans h3⟩

theorem State.drivenPad_padKept (c stamp : Nat) : PadKept s (s.drivenPad c stamp) := by
  refine ⟨fun e => ?_, ?_⟩
  · by_cases he : e = c
    · subst he
      obtain ⟨hl, hd, -⟩ := s.drivenPad_level e stamp
      exact ⟨s.drivenPad_stands e stamp, hd, hl⟩
    · rw [(s.drivenPad_only c stamp).cuff e he]
      exact ⟨rfl, rfl, rfl⟩
  · have hpad (l : Bool) : s.padTo c l stamp = { s with cuffs := (s.padTo c l stamp).cuffs } := by
      simp only [State.padTo]
      split
      · rfl
      split
      · rfl
      split
      · rfl
      · rfl
    unfold State.drivenPad
    split
    · exact hpad _
    · rfl

/-- The supply's level alone (R367). -/
def State.bankAt (n mv : Nat) : State := s.setSleeve n { s.sleeve n with absent := decide (mv < 1000) }

theorem State.bankLevel_eq (n mv : Nat) : s.bankLevel n mv = if (s.sleeve n).absent ∧ 1000 ≤ mv then
    (sleeveCuffs n).foldl (fun s c => s.drivenPad c (s.edgeNow c)) (s.bankAt n mv) else s.bankAt n mv := rfl

theorem State.bankLevel_spec (n mv : Nat) : PadKept (s.bankAt n mv) (s.bankLevel n mv) ∧
    ((s.sleeve n).absent = false ∨ mv < 1000 → (s.bankLevel n mv).cuffs = s.cuffs) := by
  rw [State.bankLevel_eq]
  refine ⟨?_, fun h => ?_⟩
  · split
    · exact List.foldlRecOn (motive := fun u : State => PadKept (s.bankAt n mv) u) _ _ (.refl _) fun u hu c _ => hu.trans (u.drivenPad_padKept ..)
    · exact .refl _
  · rw [if_neg]
    · rfl
    · rintro ⟨hab, hmv⟩
      obtain h | h := h
      · simp [h] at hab
      · omega

theorem State.bankLevel_sleeve (n mv : Nat) : ((s.bankLevel n mv).sleeve n) = { s.sleeve n with absent := decide (mv < 1000) } := by
  have hsleeves : (s.bankLevel n mv).sleeves = (s.bankAt n mv).sleeves := (congrArg State.sleeves (s.bankLevel_spec n mv).1.frame :)
  rw [State.sleeve, hsleeves]
  exact (s.sleeve_setSleeve n n _).trans (if_pos rfl)

theorem State.bankLevel_frame (n mv : Nat) :
    s.bankLevel n mv = { s with sleeves := (s.bankLevel n mv).sleeves, cuffs := (s.bankLevel n mv).cuffs } := by
  have hframe := (s.bankLevel_spec n mv).1.frame
  generalize s.bankLevel n mv = t at hframe
  rw [hframe]
  rfl

/-- A sleeve without supply drives no pin (R370). -/
theorem State.bankLevel_undriven {n mv c : Nat} (hmv : mv < 1000) (hc : c / 32 = n) : (s.bankLevel n mv).drives c = false := by
  rw [State.drives, hc, s.bankLevel_sleeve]
  simp [hmv]

end Level

/-! ### The fault -/

section Fault
variable (s : State) {n : Nat} (hn : n < 32)

/-- The status and the error of a bank that is lost. -/
def State.bankMarked (n : Nat) : State :=
  let s := (s.setBit (Reg.SLV_STATUS n) 1 false).pgErr (slvPage n) 17
  s.setSleeve n { s.sleeve n with lost := true }

theorem State.bankLost_eq (n : Nat) : s.bankLost n = (sleeveCuffs n).foldl State.bankStop (s.bankMarked n) := rfl

theorem mem_sleeveCuffs {n c : Nat} : c ∈ sleeveCuffs n ↔ c / 32 = n := by
  simp only [sleeveCuffs, List.mem_map, List.mem_range]
  refine ⟨fun ⟨i, hi, he⟩ => by omega, fun h => ⟨c % 32, Nat.mod_lt _ (by decide), by omega⟩⟩

theorem nodup_sleeveCuffs (n : Nat) : (sleeveCuffs n).Nodup := List.nodup_range.map fun _ _ h => Nat.add_left_cancel h

theorem State.bankMarked_spec (n : Nat) : let u := s.bankMarked n
    u.bit (Reg.SLV_STATUS n) 1 = false ∧ u.bit (Reg.SLV_STATUS n) 0 = s.bit (Reg.SLV_STATUS n) 0 ∧ u.bit (Reg.PG_ERR (slvPage n)) 17 = true ∧
    (u.sleeve n).lost = true ∧ (∀ k, k ≠ Reg.SLV_STATUS n → k ≠ Reg.PG_ERR (slvPage n) → u.reg k = s.reg k) ∧
    u = { s with regs := u.regs, sleeves := u.sleeves } := by
  intro u
  obtain ⟨v, hv⟩ : ∃ v, v = s.setBit (Reg.SLV_STATUS n) 1 false := ⟨_, rfl⟩
  obtain ⟨w, hw⟩ : ∃ w, w = v.setBit (Reg.PG_ERR (slvPage n)) 17 true := ⟨_, rfl⟩
  have hu : u = w.setSleeve n { w.sleeve n with lost := true } := by rw [hw, hv]; rfl
  have hne : Reg.SLV_STATUS n ≠ Reg.PG_ERR (slvPage n) := by simp [slvPage]
  have hureg (k : Nat) : u.reg k = w.reg k := hu ▸ rfl
  have hwstatus : w.reg (Reg.SLV_STATUS n) = v.reg (Reg.SLV_STATUS n) := hw ▸ v.reg_setBit_other hne 17 true
  have hlost : (u.sleeve n).lost = true := by
    rw [hu, State.sleeve_setSleeve, if_pos rfl]
  have hwframe : w = { s with regs := w.regs } := by
    rw [hw, hv]
    exact (((OnlyRegs.refl [Reg.SLV_STATUS n, Reg.PG_ERR (slvPage n)] s).setBit (by simp) 1 false).setBit (by simp) 17 true).1
  refine ⟨?_, ?_, ?_, hlost, fun k h1 h2 => ?_, ?_⟩
  · rw [State.bit_of_reg (hureg _), State.bit_of_reg hwstatus, hv]
    exact s.bit_setBit_same _ _ false (by decide)
  · rw [State.bit_of_reg (hureg _), State.bit_of_reg hwstatus, hv]
    exact s.bit_setBit_apart _ _ _ false (by decide) (by decide)
  · rw [State.bit_of_reg (hureg _), hw]
    exact v.bit_setBit_same _ _ true (by decide)
  · rw [hureg, hw, v.reg_setBit_other h2, hv, s.reg_setBit_other h1]
  · rw [hu, hwframe]
    rfl

/-- The sleeve after its bank was lost (R48). -/
theorem State.bankLost_spec (hn : n < 32) : let t := s.bankLost n
    t.bit (Reg.SLV_STATUS n) 1 = false ∧ t.bit (Reg.SLV_STATUS n) 0 = s.bit (Reg.SLV_STATUS n) 0 ∧ t.bit (Reg.PG_ERR (slvPage n)) 17 = true ∧
    (t.sleeve n).lost = true ∧ (∀ c ∈ sleeveCuffs n, BankHeld c s t) ∧ t.queues = s.queues ∧ t.tb = s.tb ∧ t.ctxs = s.ctxs ∧ t.mem = s.mem := by
  intro t
  obtain ⟨u, hu⟩ : ∃ u, u = s.bankMarked n := ⟨_, rfl⟩
  obtain ⟨hoff, hclass, herr, hlost, hreg, hframe⟩ := s.bankMarked_spec n
  have ht : t = (sleeveCuffs n).foldl State.bankStop u := by rw [hu]; rfl
  rw [← hu] at hoff hclass herr hlost hreg hframe
  obtain ⟨hheld, hset, hw⟩ := u.bankStops_spec (l := sleeveCuffs n) (fun d hd => by rw [mem_sleeveCuffs] at hd; omega) (nodup_sleeveCuffs n)
  rw [← ht] at hheld hset hw
  have hstatus : t.reg (Reg.SLV_STATUS n) = u.reg (Reg.SLV_STATUS n) := hset.reg _ (by simp only [IsSetting, Reg.SLV_STATUS]; omega)
  have hpgerr : t.reg (Reg.PG_ERR (slvPage n)) = u.reg (Reg.PG_ERR (slvPage n)) :=
    hset.reg _ (by simp only [IsSetting, Reg.PG_ERR, slvPage]; omega)
  have hsleeves : t.sleeves = u.sleeves := State.sleeves_of_wipe hw rfl
  have hcuff (c : Nat) : u.cuff c = s.cuff c := State.cuff_congr (by rw [hframe]) c
  refine ⟨(State.bit_of_reg hstatus 1).trans hoff, (State.bit_of_reg hstatus 0).trans hclass, (State.bit_of_reg hpgerr 17).trans herr,
    by rw [State.sleeve, hsleeves]; exact hlost, fun c hc => ?_, (State.queues_of_wipe hw rfl).trans (by rw [hframe]),
    (State.tb_of_wipe hw rfl).trans (by rw [hframe]), (State.ctxs_of_wipe hw rfl).trans (by rw [hframe]),
    (State.mem_of_wipe hw rfl).trans (by rw [hframe])⟩
  obtain ⟨hbank, hfifo, hlevel⟩ := hheld c hc
  have hcfg : u.reg (Reg.CUF_CFG c) = s.reg (Reg.CUF_CFG c) := by
    refine hreg _ ?_ ?_
    · simp only [Reg.CUF_CFG, Reg.SLV_STATUS]
      omega
    · simp only [Reg.CUF_CFG, Reg.PG_ERR, slvPage]
      omega
  refine ⟨hbank, hfifo.trans (by rw [hcuff]), fun hap => ?_⟩
  rw [← State.fld_of_reg hcfg]
  exact hlevel (by rw [hcuff]; exact hap)

end Fault

/-! ### The rows of a supply -/

section Rows
variable (s : State) {n mv : Nat}

theorem exec_bankFault (hn : n < 32) : exec (.bankFault { sleeve := n, millivolts := mv }) s = .next (s.bankDrops n mv) :=
  onUnit_of (decide_eq_true hn) _

theorem exec_bankOkReturn (hn : n < 32) : exec (.bankOkReturn n mv) s = .next (s.bankReturns n mv) := onUnit_of (decide_eq_true hn) _

theorem State.bankHolds_iff : s.bankHolds n mv = true ↔
    if s.bit (Reg.SLV_STATUS n) 0 then 3135 ≤ mv ∧ mv ≤ 3465 else 1710 ≤ mv ∧ mv ≤ 1890 := by
  unfold State.bankHolds
  split
  · exact decide_eq_true_iff
  · exact decide_eq_true_iff

theorem State.bankHolds_false : s.bankHolds n mv = false ↔
    if s.bit (Reg.SLV_STATUS n) 0 then mv < 3135 ∨ 3465 < mv else mv < 1710 ∨ 1890 < mv := by
  rw [← Bool.not_eq_true, s.bankHolds_iff]
  split
  · omega
  · omega

/-- A supply that leaves its range takes its sleeve to Apron (R48, R370). -/
theorem State.bankDrops_lost (hn : n < 32) (hok : s.bit (Reg.SLV_STATUS n) 1 = true) (h : s.bankHolds n mv = false) :
    let t := s.bankDrops n mv
    (t.sleeve n).lost = true ∧ (t.sleeve n).absent = decide (mv < 1000) ∧ (mv < 1000 → ∀ c ∈ sleeveCuffs n, t.drives c = false) ∧
    t.bit (Reg.SLV_STATUS n) 1 = false ∧ t.bit (Reg.SLV_STATUS n) 0 = s.bit (Reg.SLV_STATUS n) 0 ∧ t.bit (Reg.PG_ERR (slvPage n)) 17 = true ∧
    (∀ c ∈ sleeveCuffs n, BankHeld c s t) ∧ t.queues = s.queues ∧ t.tb = s.tb ∧ t.ctxs = s.ctxs ∧ t.mem = s.mem := by
  intro t
  obtain ⟨u, hu⟩ : ∃ u, u = s.bankLost n := ⟨_, rfl⟩
  have ht : t = u.bankLevel n mv := by
    rw [hu]
    exact (if_neg (by simp [hok])).trans (if_neg (by simp [h]))
  obtain ⟨hoff, hclass, herr, hlost, hheld, hqueues, htb, hctxs, hmem⟩ := s.bankLost_spec hn
  rw [← hu] at hoff hclass herr hlost hheld hqueues htb hctxs hmem
  have hpad := (u.bankLevel_spec n mv).1
  have hframe := u.bankLevel_frame n mv
  have hsleeve := u.bankLevel_sleeve n mv
  have hdrives (hmv : mv < 1000) (c : Nat) (hc : c / 32 = n) : (u.bankLevel n mv).drives c = false := u.bankLevel_undriven hmv hc
  rw [← ht] at hpad hframe hsleeve hdrives
  have hregs : t.regs = u.regs := by rw [hframe]
  refine ⟨by rw [hsleeve]; exact hlost, by rw [hsleeve], fun hmv c hc => hdrives hmv c (mem_sleeveCuffs.mp hc),
    (State.bit_of_reg (State.reg_of_regs hregs _) _).trans hoff, (State.bit_of_reg (State.reg_of_regs hregs _) _).trans hclass,
    (State.bit_of_reg (State.reg_of_regs hregs _) _).trans herr, fun c hc => ?_, by rw [hframe, hqueues], by rw [hframe, htb], by rw [hframe, hctxs],
    by rw [hframe, hmem]⟩
  obtain ⟨hstands, hdriven, hlev⟩ := hpad.cuff c
  obtain ⟨hbank, hfifo, hlevel⟩ := hheld c hc
  have hbank' : (t.cuff c).apBank = (u.cuff c).apBank := (congrArg Cuff.apBank hstands :)
  have hfifo' : (t.cuff c).fifo = (u.cuff c).fifo := (congrArg Cuff.fifo hstands :)
  refine ⟨hbank'.trans hbank, hfifo'.trans hfifo, fun hap => ?_⟩
  have hat := hlevel hap
  rw [Cuff.atApron] at hat ⊢
  rw [hdriven, hlev]
  exact hat

/-- The supply's level as every row of it leaves it while the sleeve is out of range (R363, R367). -/
def BankLevelOf (n mv : Nat) (s t : State) : Prop :=
  (t.sleeve n).absent = decide (mv < 1000) ∧ t = { s with sleeves := t.sleeves, cuffs := t.cuffs } ∧
    ((s.sleeve n).absent = false ∨ mv < 1000 → t.cuffs = s.cuffs)

theorem State.bankLevel_of (n mv : Nat) : BankLevelOf n mv s (s.bankLevel n mv) :=
  ⟨by rw [s.bankLevel_sleeve], s.bankLevel_frame n mv, (s.bankLevel_spec n mv).2⟩

theorem bankFits_iff (mv h : Nat) : bankFits mv h = true ↔
    2400 < mv ∧ 3135 + h ≤ mv ∧ mv + h ≤ 3465 ∨ mv ≤ 2400 ∧ 1710 + h ≤ mv ∧ mv + h ≤ 1890 := by
  unfold bankFits
  split
  · rw [decide_eq_true_iff]
    omega
  · rw [decide_eq_true_iff]
    omega

/-- A supply that comes back is taken where its level fits its class (R365). -/
theorem State.bankReturns_eq (hoff : s.bit (Reg.SLV_STATUS n) 1 = false) : s.bankReturns n mv =
    if Machine.bankFits mv (if (s.sleeve n).lost then 25 else 0) then
      (s.bankLevel n mv).setFld (Reg.SLV_STATUS n) 0 2 (2 + b2n (decide (2400 < mv))) else s.bankLevel n mv := by
  unfold State.bankReturns
  rw [if_neg (by simp [hoff])]
  dsimp only
  rw [s.bankLevel_sleeve]
  dsimp only
  by_cases h : Machine.bankFits mv (if (s.sleeve n).lost then 25 else 0) = true
  · rw [if_neg (by simp [h]), if_pos h]
  · rw [if_pos (by simpa using h), if_neg h]

end Rows

end Sys2Proof.Machine

/-! O17: SLV_REARM, and the calibration, swap and skew of the twins (R48, R62, R63, R70, R351). -/

namespace Sys2Proof.Machine

open Sys2Proof

/-! ### SLV_REARM (R48, R70) -/

section Rearm
variable (s : State) {n : Nat}

theorem exec_slvRearmAll (hn : n < 32) (h : s.pfPage (slvPage n) = true) :
    exec (.slvRearmAll n 0) s = .next ((s.drainBuf 0).rearmAll n) := by
  refine (onUnit_of (decide_eq_true hn) _).trans (congrArg Host.Outcome.next ?_)
  refine (State.pf_of_reach h _ _ _).trans ?_
  rfl

theorem exec_slvRearmPairs (hn : n < 32) (h : s.pfPage (slvPage n) = true) {i : Nat} (hi : i < 16) (bridge : Bool) :
    exec (.slvRearmPairs n (2 ^ i + b2n bridge * 2 ^ 16)) s =
      .next (((s.drainBuf 0).rearmPair (n * 16 + i) bridge).rejudge 2 (n * 16 + i)) := by
  refine (onUnit_of (decide_eq_true hn) _).trans (congrArg Host.Outcome.next ?_)
  refine (State.pf_of_reach h _ _ _).trans ?_
  have hv : bitAt (2 ^ i + b2n bridge * 2 ^ 16) 17 = false ∧ bitAt (2 ^ i + b2n bridge * 2 ^ 16) 16 = bridge ∧
      bitList 16 (2 ^ i + b2n bridge * 2 ^ 16) = [i] := by
    cases bridge
    · interval_cases i <;> decide
    · interval_cases i <;> decide
  unfold State.writeRearm
  rw [hv.1, hv.2.1, hv.2.2]
  rfl

/-- Cuffs leave Apron for their bank: only that changes (R48). -/
theorem State.endBanks_spec (l : List Nat) : let t := l.foldl (fun s c => s.endCause c .bank) s
    (∀ c, t.cuff c = if c ∈ l then { s.cuff c with apBank := false } else s.cuff c) ∧ t = { s with cuffs := t.cuffs } := by
  induction l generalizing s with
  | nil => exact ⟨fun _ => rfl, rfl⟩
  | cons x l ih =>
    intro t
    obtain ⟨hcuff, hframe⟩ := ih (s.endCause x .bank)
    refine ⟨fun c => (hcuff c).trans ?_, hframe.trans rfl⟩
    rw [State.cuff_endCause]
    by_cases hx : c = x
    · subst hx
      rw [if_pos rfl, if_pos (List.mem_cons_self ..)]
      exact ite_self _
    · rw [if_neg hx]
      simp [hx]

/-- The release of the cuffs that a bank fault holds (R48). -/
theorem State.rearmAll_spec (hok : s.bit (Reg.SLV_STATUS n) 1 = true) : let cs := (sleeveCuffs n).filter fun c => (s.cuff c).apBank
    ∃ t : State, s.rearmAll n = cs.foldl (fun x c => x.rejudge 1 c) t ∧ (∀ c ∈ sleeveCuffs n, t.cuff c = { s.cuff c with apBank := false }) ∧
      (∀ c, c ∉ sleeveCuffs n → t.cuff c = s.cuff c) ∧ t = { s with cuffs := t.cuffs } := by
  intro cs
  obtain ⟨hcuff, hframe⟩ := s.endBanks_spec cs
  refine ⟨cs.foldl (fun s c => s.endCause c .bank) s, if_neg (by simp [hok]), fun c hc => (hcuff c).trans ?_, fun c hc => (hcuff c).trans ?_, hframe⟩
  · by_cases hb : (s.cuff c).apBank = true
    · exact if_pos (List.mem_filter.mpr ⟨hc, hb⟩)
    · have hout : c ∉ cs := fun h => hb (List.mem_filter.mp h).2
      rw [if_neg hout]
      have hoff : (s.cuff c).apBank = false := by simpa using hb
      rw [← hoff]
  · exact if_neg fun h => hc (List.mem_filter.mp h).1

/-- Where a tripped pair may be released (R70). -/
theorem State.rearmFits_iff {p : Nat} (bridge : Bool) (h : s.tripped p = true) : s.rearmFits p bridge = true ↔
    ¬s.guardUp p (s.guardA p) = true ∧ ¬s.guardUp p (s.guardB p) = true ∧ (bridge = true ∨ s.bridged p = false) ∧
      s.bit (Reg.SLV_STATUS (p / 16)) 1 = true := by
  simp [State.rearmFits, h, and_assoc]

end Rearm

/-! ### Calibration, swap and skew of the twins (R62, R63, R351) -/

section Twins
variable (s : State) {c : Nat} (hc : c < 1024)

theorem steward_one : s.fld Reg.REL_STEWARD 0 4 / 4 = s.fld Reg.REL_STEWARD 2 2 := by
  simp only [State.fld, bits]
  omega

include hc

theorem exec_twinCalibration (h : s.fld Reg.REL_STEWARD 2 2 ≠ 0) : exec (.twinCalibration c) s =
    .next (s.setCuff c { s.cuff c with calReady := some ((s.cuff c).calReady.getD s.tick) }) :=
  (onUnit_of (decide_eq_true hc) _).trans (congrArg Host.Outcome.next (if_neg (by rwa [steward_one])))

theorem exec_twinSwap : exec (.twinSwap c) s = .next (s.swapTwin c) := onUnit_of (decide_eq_true hc) _

theorem exec_calDeferred (h : s.swapWaited c 1500000 = true) : exec (.calDeferred c) s = .next (s.setBit (Reg.CUF_CAL c) 1 true) :=
  (onUnit_of (decide_eq_true hc) _).trans (congrArg Host.Outcome.next (if_pos h))

theorem exec_calFail (h : s.swapWaited c 3000000 = true) (hdef : s.bit (Reg.CUF_CAL c) 1 = true) :
    exec (.calFail c) s = .next (s.setBit (Reg.PG_ERR (0x10 + c / 32)) 18 true) :=
  (onUnit_of (decide_eq_true hc) _).trans (congrArg Host.Outcome.next (if_pos ⟨h, hdef⟩))

omit hc in
theorem State.swapWaited_ready {t0 n : Nat} (h : (s.cuff c).calReady = some t0) (ht : t0 + n ≤ s.tick) : s.swapWaited c n = true := by
  rw [State.swapWaited, h]
  exact decide_eq_true ht

omit hc in
/-- With steward pair 1 down the swap is missing (R351). -/
theorem State.swapWaited_missing {n m : Nat} (hm : 24000000 + n ≤ m) (h : (s.cuff c).calReady = none) (hdown : s.fld Reg.REL_STEWARD 2 2 = 0)
    (ht : max (s.cuff c).swapTick s.boot.calAt + m ≤ s.tick) : s.swapWaited c n = true := by
  have hpair : s.pairUp 1 = false := decide_eq_false (not_not.mpr hdown)
  rw [State.swapWaited, h]
  refine Bool.and_eq_true_iff.mpr ⟨by rw [hpair]; rfl, decide_eq_true ?_⟩
  rw [Nat.add_assoc]
  exact (Nat.add_le_add_left hm _).trans ht

omit hc in
/-- What the swap of the twins leaves (R62). -/
theorem State.swapTwin_spec {t0 : Nat} (hready : (s.cuff c).calReady = some t0) (hidle : s.idleCuff c = true) : let t := s.swapTwin c
    let cal := Reg.CUF_CAL c
    t.bit cal 0 = (!s.bit cal 0) ∧ t.bit cal 1 = false ∧ t.fld cal 16 8 = (s.fld cal 16 8 + 1) % 256 ∧
    t.cuff c = { s.cuff c with calReady := none, swapTick := s.tick } ∧ (∀ e, e ≠ c → t.cuff e = s.cuff e) ∧
    (∀ r, r ≠ cal → t.reg r = s.reg r) ∧ t = { s with regs := t.regs, cuffs := t.cuffs } := by
  intro t cal
  obtain ⟨u, hu⟩ : ∃ u, u = s.setCuff c { s.cuff c with calReady := none, swapTick := s.tick } := ⟨_, rfl⟩
  obtain ⟨v, hv⟩ : ∃ v, v = u.setBit cal 0 (!u.bit cal 0) := ⟨_, rfl⟩
  obtain ⟨w, hw⟩ : ∃ w, w = v.setBit cal 1 false := ⟨_, rfl⟩
  have ht : t = w.setFld cal 16 8 (w.fld cal 16 8 + 1) := by
    rw [hw, hv, hu]
    exact if_pos ⟨by simp [hready], hidle⟩
  have hureg (r : Nat) : u.reg r = s.reg r := hu ▸ rfl
  have honly : OnlyRegs [cal] u t := by
    rw [ht, hw, hv]
    exact (((OnlyRegs.refl _ u).setBit (by simp) _ _).setBit (by simp) _ _).setFld (by simp) _ _ _
  have hcuffs : t.cuffs = u.cuffs := by rw [honly.1]
  have hucuff (e : Nat) : u.cuff e = if e = c then { s.cuff c with calReady := none, swapTick := s.tick } else s.cuff e :=
    hu ▸ s.cuff_setCuff ..
  have hcount : w.fld cal 16 8 = s.fld cal 16 8 := by
    have h1 : w.fld cal 16 8 = v.fld cal 16 8 := hw ▸ v.fld_setFld_apart _ _ _ _ _ _ (by decide) (by decide)
    have h2 : v.fld cal 16 8 = u.fld cal 16 8 := hv ▸ u.fld_setFld_apart _ _ _ _ _ _ (by decide) (by decide)
    exact h1.trans (h2.trans (State.fld_of_reg (hureg cal) 16 8))
  have hlow (i : Nat) (hi : i < 16) : t.bit cal i = w.bit cal i := ht ▸ w.bit_setFld_apart _ _ _ _ _ (by decide) (.inl (by omega))
  refine ⟨?_, ?_, ?_, ?_, fun e he => ?_, fun r hr => ?_, ?_⟩
  · have h2 : w.bit cal 0 = v.bit cal 0 := hw ▸ v.bit_setBit_apart _ _ _ false (by decide) (by decide)
    have h1 : v.bit cal 0 = !u.bit cal 0 := hv ▸ u.bit_setBit_same _ _ _ (by decide)
    rw [hlow 0 (by decide), h2, h1, State.bit_of_reg (hureg cal)]
  · rw [hlow 1 (by decide), hw, v.bit_setBit_same _ _ _ (by decide)]
  · rw [ht, State.fld_setFld_same _ _ _ _ _ (by decide), hcount]
    rfl
  · rw [State.cuff_congr hcuffs, hucuff, if_pos rfl]
  · rw [State.cuff_congr hcuffs, hucuff, if_neg he]
  · exact (honly.2 r (by simp [hr])).trans (hureg r)
  · rw [honly.1, hu]
    rfl

theorem exec_skewApply (hpend : (s.cuff c).skewPend = true) (hidle : s.idleCuff c = true) : exec (.skewApply c) s =
    .next (s.setCuff c { s.cuff c with skew := signed 10 (s.regN (Reg.CUF_SKEW c) % 2 ^ 10), skewPend := false }) := by
  have hlow : s.fld (Reg.CUF_SKEW c) 0 10 = s.regN (Reg.CUF_SKEW c) % 2 ^ 10 := by simp [State.fld, bits]
  rw [← hlow]
  exact (onUnit_of (decide_eq_true hc) _).trans (congrArg Host.Outcome.next (if_pos (And.intro hpend hidle)))

theorem exec_skewApply_busy (hbusy : s.idleCuff c = false) : exec (.skewApply c) s = .next s :=
  (onUnit_of (decide_eq_true hc) _).trans (congrArg Host.Outcome.next (if_neg fun h => Bool.noConfusion (hbusy.symm.trans h.2)))

/-- The calibration of a cuff's twins, its deferral and its failure, the swap and the skew. -/
theorem State.twins_clauses :
    let k := s.cuff c
    let cal := Reg.CUF_CAL c
    (s.fld Reg.REL_STEWARD 2 2 ≠ 0 → exec (.twinCalibration c) s = .next (s.setCuff c { k with calReady := some (k.calReady.getD s.tick) })) ∧
    (∀ t0, k.calReady = some t0 →
      (s.idleCuff c = true → ∃ t : State, exec (.twinSwap c) s = .next t ∧ t.bit cal 0 = !s.bit cal 0 ∧ t.bit cal 1 = false ∧
        t.fld cal 16 8 = (s.fld cal 16 8 + 1) % 256 ∧ t.cuff c = { k with calReady := none, swapTick := s.tick } ∧
        (∀ e, e ≠ c → t.cuff e = s.cuff e) ∧ (∀ r, r ≠ cal → t.reg r = s.reg r) ∧
        t = { s with regs := t.regs, cuffs := t.cuffs }) ∧
      (s.idleCuff c = false → exec (.twinSwap c) s = .next s) ∧
      (t0 + 1500000 ≤ s.tick → exec (.calDeferred c) s = .next (s.setBit cal 1 true)) ∧
      (t0 + 3000000 ≤ s.tick → s.bit cal 1 = true → exec (.calFail c) s = .next (s.setBit (Reg.PG_ERR (0x10 + c / 32)) 18 true))) ∧
    (k.calReady = none → s.fld Reg.REL_STEWARD 2 2 = 0 → max k.swapTick s.boot.calAt + 27000000 ≤ s.tick →
      exec (.calDeferred c) s = .next (s.setBit cal 1 true) ∧
      (s.bit cal 1 = true → exec (.calFail c) s = .next (s.setBit (Reg.PG_ERR (0x10 + c / 32)) 18 true))) ∧
    (k.skewPend = true → s.idleCuff c = true → exec (.skewApply c) s =
      .next (s.setCuff c { k with skew := signed 10 (s.regN (Reg.CUF_SKEW c) % 2 ^ 10), skewPend := false })) ∧
    (k.skewPend = true → s.idleCuff c = false → exec (.skewApply c) s = .next s) := by
  intro k cal
  refine ⟨exec_twinCalibration s hc, fun t0 hready => ⟨fun hidle => ?_, fun hbusy => ?_, fun ht => ?_, fun ht hdef => ?_⟩,
    fun hnone hdown ht => ⟨?_, fun hdef => ?_⟩, fun hpend hidle => ?_, fun hpend hbusy => ?_⟩
  · exact ⟨_, exec_twinSwap s hc, s.swapTwin_spec hready hidle⟩
  · exact (exec_twinSwap s hc).trans (congrArg Host.Outcome.next (if_neg fun h => by simp [hbusy] at h))
  · exact exec_calDeferred s hc (s.swapWaited_ready hready ht)
  · exact exec_calFail s hc (s.swapWaited_ready hready ht) hdef
  · exact exec_calDeferred s hc (s.swapWaited_missing (by decide) hnone hdown ht)
  · exact exec_calFail s hc (s.swapWaited_missing (by decide) hnone hdown ht) hdef
  · exact exec_skewApply s hc hpend hidle
  · exact exec_skewApply_busy s hc hbusy

end Twins

/-- Settles O17: the cuffs of a sleeve go to Apron one after the other, each keeps what it holds while the others do. -/
theorem banksRearmingTwinsAndSkew : Obligations.BanksRearmingTwinsAndSkew := by
  unfold Obligations.BanksRearmingTwinsAndSkew
  refine ⟨fun s n hn => ?_, fun s c hc => ?_⟩
  · intro d page status sleeve
    refine ⟨fun mv hok hrange => ?_, fun mv hok hrange => ?_, fun mv hoff => ?_, fun hpage => ?_⟩
    · obtain ⟨hlost, habsent, hdrives, hst, hclass, herr, hheld, hrest⟩ := s.bankDrops_lost hn hok (s.bankHolds_false.mpr hrange)
      refine ⟨_, exec_bankFault s hn, hlost, habsent, hdrives, hst, hclass, herr, fun c hcs => ?_, hrest⟩
      obtain ⟨hbank, hfifo, hlevel⟩ := hheld c hcs
      exact ⟨hbank, hfifo, fun hap => (hlevel hap).1, fun hap => (hlevel hap).2.1, fun hap => (hlevel hap).2.2⟩
    · refine (exec_bankFault s hn).trans (congrArg Host.Outcome.next ?_)
      exact (if_neg fun e => Bool.noConfusion (hok.symm.trans e)).trans (if_pos (s.bankHolds_iff.mpr hrange))
    · intro h level
      have hlevel := s.bankLevel_of n mv
      have hrun (hfit : Machine.bankFits mv h = true) : exec (.bankOkReturn n mv) s =
          .next ((s.bankLevel n mv).setFld status 0 2 (2 + b2n (decide (2400 < mv)))) :=
        (exec_bankOkReturn s hn).trans (congrArg Host.Outcome.next ((s.bankReturns_eq hoff).trans (if_pos hfit)))
      refine ⟨fun h1 h2 h3 => ⟨_, ?_, hlevel⟩, fun h1 h2 h3 => ⟨_, ?_, hlevel⟩, fun hout => ⟨_, ?_, hlevel⟩, ⟨_, ?_, hlevel⟩⟩
      · rw [hrun ((bankFits_iff mv h).mpr (.inl ⟨h1, h2, h3⟩)), decide_eq_true h1]
        rfl
      · rw [hrun ((bankFits_iff mv h).mpr (.inr ⟨h1, h2, h3⟩)), decide_eq_false (Nat.not_lt.mpr h1)]
        rfl
      · refine (exec_bankOkReturn s hn).trans (congrArg Host.Outcome.next ((s.bankReturns_eq hoff).trans (if_neg fun hfit => ?_)))
        have hfit' := (bankFits_iff mv h).mp hfit
        omega
      · exact (exec_bankFault s hn).trans (congrArg Host.Outcome.next (if_pos hoff))
    · intro cs
      refine ⟨fun hoff => ?_, fun hok => ?_, fun i hi bridge => ?_⟩
      · exact (exec_slvRearmAll s hn hpage).trans (congrArg Host.Outcome.next (if_pos hoff))
      · obtain ⟨t, hrun, hin, hout, hframe⟩ := d.rearmAll_spec hok
        exact ⟨t, (exec_slvRearmAll s hn hpage).trans (congrArg Host.Outcome.next hrun), hin, hout, hframe⟩
      · intro p cfg up fits write
        have hrun := exec_slvRearmPairs s hn hpage hi bridge
        have hdiv : p / 16 = n := by omega
        have hmod : p % 16 = i := by omega
        have hfits (h : d.tripped p = true) : d.rearmFits p bridge = true ↔ fits := by
          obtain ⟨ha, hb⟩ := d.guardUp_iff p
          rw [d.rearmFits_iff bridge h, ha, hb, hdiv, hmod]
        refine ⟨fun h => hrun.trans ?_, fun h hno => hrun.trans ?_, fun h hfit => ?_⟩
        · exact congrArg (fun u : State => Host.Outcome.next (u.rejudge 2 p)) (if_pos h)
        · have hbad : d.rearmFits p bridge = false := by simpa using fun e => hno ((hfits h).mp e)
          have hre : d.rearmPair p bridge = d.pgErr page 16 := by
            rw [State.rearmPair, if_neg (by simp [h]), if_pos hbad, hdiv]
          exact congrArg (fun u : State => Host.Outcome.next (u.rejudge 2 p)) hre
        · obtain ⟨htrip, hbridge, hst, hca, hcb, -, hreg, hframe⟩ := d.rearmPair_spec bridge h ((hfits h).mpr hfit)
          rw [hdiv] at hreg
          refine ⟨d.rearmPair p bridge, hrun, htrip, hbridge, hst, fun c hcp => ?_, hreg, hframe⟩
          obtain rfl | rfl := hcp
          · exact hca
          · exact hcb
  · exact s.twins_clauses hc

end Sys2Proof.Machine
